-- ==== Sys2Proof/Word.lean ====
section
/-! DEFINITION. The word types of the block and the one sparse table every large array of the part is held in.
A `Store` lists the entries that differ from the value an unlisted entry reads as, in rising order of their number. -/

namespace Sys2Proof

/-- One byte. -/
abbrev Byte := BitVec 8
/-- A CSR register (R47). -/
abbrev Word32 := BitVec 32
/-- A fabric address, an operand or a context word. -/
abbrev Word64 := BitVec 64

/-- A sparse array: (number, value) pairs. The canonical form is `Store.wf`. -/
abbrev Store (α : Type) := List (Nat × α)

/-- The entry of number `k`, or `d`, which every unlisted number reads as. -/
def Store.read {α : Type} (d : α) : Store α → Nat → α
  | [], _ => d
  | (i, v) :: t, k => if i = k then v else if k < i then d else Store.read d t k

/-- Replace entry `k`. Writing the value an unlisted entry reads as removes the entry. -/
def Store.write {α : Type} [DecidableEq α] (d : α) : Store α → Nat → α → Store α
  | [], k, v => if v = d then [] else [(k, v)]
  | (i, w) :: t, k, v =>
    if k < i then (if v = d then (i, w) :: t else (k, v) :: (i, w) :: t)
    else if k = i then (if v = d then t else (k, v) :: t)
    else (i, w) :: Store.write d t k v

/-- Every listed number is above `lo`, rising, and no listed value is `d`. -/
def Store.wfFrom {α : Type} [DecidableEq α] (d : α) : Nat → Store α → Bool
  | _, [] => true
  | lo, (i, v) :: t => decide (lo ≤ i) && decide (v ≠ d) && Store.wfFrom d (i + 1) t

/-- The canonical form of a store. -/
def Store.wf {α : Type} [DecidableEq α] (d : α) (s : Store α) : Bool := Store.wfFrom d 0 s

end Sys2Proof
end

