-- ==== Sys2Proof/Syntax/Types.lean ====
section
/-! DEFINITION. The names and records that commands carry: STATUS, DISP and REASON codes (R69-R71), the response word
(R73), issuers (R56, R77), remote operations (R56-R60) and the small enumerations of the chapters. -/

namespace Sys2Proof

/-- STATUS (R69), with the unit-specific codes 0x80-0x84 of a Floret (R152) and 0x90-0x93 of the KV service (R330). -/
inductive Status where
  | ok | param | range | align | access | locked | rsvd | notsup | busy | nospace | flushed | unitReset
  | tier | link | check | superseded | timeout | auth | fuse | deadlockBreak | power
  | floret (n : Nat)
  | kv (n : Nat)
  deriving DecidableEq, Repr, Inhabited

/-- The code of a STATUS (R69). -/
def Status.code : Status → Nat
  | .ok => 0x00 | .param => 0x01 | .range => 0x02 | .align => 0x03 | .access => 0x04 | .locked => 0x05
  | .rsvd => 0x06 | .notsup => 0x07 | .busy => 0x08 | .nospace => 0x09 | .flushed => 0x0A
  | .unitReset => 0x0B | .tier => 0x0C | .link => 0x0D | .check => 0x0E | .superseded => 0x0F
  | .timeout => 0x10 | .auth => 0x11 | .fuse => 0x12 | .deadlockBreak => 0x13 | .power => 0x14
  | .floret n => 0x80 + n
  | .kv n => 0x90 + n

/-- DISP (R70). -/
inductive Disp where | served | deferred | refused
  deriving DecidableEq, Repr, Inhabited

def Disp.code : Disp → Nat
  | .served => 0 | .deferred => 1 | .refused => 2

/-- REASON (R71). -/
inductive Reason where
  | none | powerThermal | staticWindow | coherenceHold | hostMinimum | hostCap | bestEffort | bufferQuota
  | capacity | tier | slip | linkReplay | unitState | policer
  deriving DecidableEq, Repr, Inhabited

def Reason.code : Reason → Nat
  | .none => 0 | .powerThermal => 1 | .staticWindow => 2 | .coherenceHold => 3 | .hostMinimum => 4 | .hostCap => 5
  | .bestEffort => 6 | .bufferQuota => 7 | .capacity => 8 | .tier => 9 | .slip => 10 | .linkReplay => 11
  | .unitState => 12 | .policer => 13

/-- What a response carries (R73): the first word of a completion entry, RESULT, and the bytes a read returns. -/
structure Response where
  status : Status := .ok
  disp   : Disp := .served
  reason : Reason := .none
  load   : Nat := 0
  result : Word64 := 0
  data   : List Byte := []
  /-- DETAIL (R82) -/
  detail : Nat := 0
  /-- produced by scheduled fault injection (R561) -/
  injected : Bool := false
  deriving DecidableEq, Repr, Inhabited

/-- An issuer of remote operations (chapter 02): a hardware queue, a Floret (package-wide number F), an endpoint on a port
(its source NODE), the package's own management domain, or the commit engine of a quadrant for one of its items (R180). -/
inductive Source where
  | queue (q : Nat) | floret (f : Nat) | endpoint (node : Nat) | mgmt | commit (quadrant item : Nat)
  deriving DecidableEq, Repr, Inhabited

/-- An issuer and the TENANT of its work; 0xFF is the management domain (R77, R427). -/
structure Issuer where
  src    : Source := .mgmt
  tenant : Nat := 0xFF
  node   : Nat := 0xFFFF
  deriving DecidableEq, Repr, Inhabited

/-- The common part of a remote operation (R81): issuer, class, POSTED, MOD, TAG, TARGET, LOCAL, the posted sequence or item
number, whether the request arrived on a link from another DZM (R30, R42), the DEFER it carries (R235), and the multicast frame of which
it is this DZM's own copy (R242). -/
structure Req where
  issuer  : Issuer := {}
  tc      : Nat := 4
  posted  : Bool := false
  md      : BitVec 8 := 0
  tag     : Word32 := 0
  target  : Word64 := 0
  localA  : Word64 := 0
  seq     : Nat := 0
  fromDzm : Bool := false
  viaPort : Option Nat := none
  defer   : Reason := .none
  copy    : Option Nat := none
  deriving DecidableEq, Repr, Inhabited

/-- The operator of an ATOMIC or FETCH_OP (R58). -/
inductive AtomicOp where
  | add | band | bor | bxor | smin | smax | umin | umax | swap | cas | fadd
  deriving DecidableEq, Repr, Inhabited

/-- The kinds of a hardware queue (R74); `bad` is the reserved encoding 3. -/
inductive QueueKind where | submit | completion | unitWork
  deriving DecidableEq, Repr, Inhabited

/-- STATE of a queue context (R75). -/
inductive QueueState where | disabled | enabled | flushing | error
  deriving DecidableEq, Repr, Inhabited

def QueueState.code : QueueState → Nat
  | .disabled => 0 | .enabled => 1 | .flushing => 2 | .error => 3

/-- COND of a WAIT (R94). -/
inductive WaitCond where | ge | eq | ne | all
  deriving DecidableEq, Repr, Inhabited

/-- unit_state (R34). -/
inductive UnitState where
  | active | quiescing | quiesced | inReset | poweredDown | updating | faulted
  deriving DecidableEq, Repr, Inhabited

def UnitState.code : UnitState → Nat
  | .active => 0 | .quiescing => 1 | .quiesced => 2 | .inReset => 3 | .poweredDown => 4 | .updating => 5 | .faulted => 6

/-- The value of a dictionary object (R17): a number (BOOL and I32 as their encodings) or a string of bytes (STR, BLOB). -/
inductive DVal where
  | num (n : Nat)
  | bytes (b : List Byte)
  deriving DecidableEq, Repr, Inhabited

/-- The variants of R1. -/
inductive Variant where | dzm3608 | dzm3604 | dzm1808
  deriving DecidableEq, Repr, Inhabited

/-- STATE of a plan slot (R111, R143). -/
inductive PlanState where | empty | loaded | armed | running | slipping | halted | faulted
  deriving DecidableEq, Repr, Inhabited

def PlanState.code : PlanState → Nat
  | .empty => 0 | .loaded => 1 | .armed => 2 | .running => 3 | .slipping => 4 | .halted => 5 | .faulted => 6

/-- Halt causes (R138). -/
inductive HaltCause where
  | none | complete | commandBoundary | commandNow | missedDeadline | lateToken | slipBudget | timeLoss | tierFail
  | linkLoss | power | containment
  deriving DecidableEq, Repr, Inhabited

def HaltCause.code : HaltCause → Nat
  | .none => 0 | .complete => 1 | .commandBoundary => 2 | .commandNow => 3 | .missedDeadline => 4 | .lateToken => 5
  | .slipBudget => 6 | .timeLoss => 7 | .tierFail => 8 | .linkLoss => 9 | .power => 0xA | .containment => 0xB

/-- Slip causes (R128, R130). -/
inductive SlipCause where | throttle | linkReplay | tierLate | injected
  deriving DecidableEq, Repr, Inhabited

def SlipCause.code : SlipCause → Nat
  | .throttle => 1 | .linkReplay => 2 | .tierLate => 3 | .injected => 4

/-- A slip token (R130). `whenFtc` is WHEN. -/
structure SlipToken where
  planId   : Word64
  whenFtc  : Nat
  origin   : Word32
  member   : Nat
  seq      : Nat
  cause    : SlipCause
  injected : Bool := false
  deriving DecidableEq, Repr, Inhabited

/-- A halt token (R130, R136). `whenVal` is an FTC, or a Rotation number with `byRotation`. -/
structure HaltToken where
  planId     : Word64
  whenVal    : Nat
  byRotation : Bool := false
  origin     : Word32
  member     : Nat
  seq        : Nat
  cause      : HaltCause
  injected   : Bool := false
  deriving DecidableEq, Repr, Inhabited

/-- What the rules of chapter 03 need of a LAYOUT exchange descriptor (R104); the section's own format is not in the manual. The
crossing bounds of R20 along its path are in ns. An end that is a job (R227) is a job address (R193). -/
structure LayoutDesc where
  source    : Word64
  dest      : Word64
  bytes     : Nat
  bSource   : Nat
  bDest     : Nat
  port      : Option Nat
  sourceJob : Bool
  destJob   : Bool
  contrib   : Nat
  fmt       : Nat
  expCheck  : Nat
  flags     : Nat
  deriving DecidableEq, Repr, Inhabited

/-- Time lock state (R122). -/
inductive LockState where | unlocked | acquiring | locked | holdover
  deriving DecidableEq, Repr, Inhabited

def LockState.code : LockState → Nat
  | .unlocked => 0 | .acquiring => 1 | .locked => 2 | .holdover => 3

/-- A whole remote operation with its data: OP of R56 or of a unit's chapter, LENGTH, operands and bytes. -/
structure Operation where
  op       : Nat := 1
  req      : Req := {}
  length   : Nat := 0
  data     : List Byte := []
  operand1 : Word64 := 0
  operand2 : Word64 := 0
  sync     : Nat := 0
  /-- descriptor bytes 48-63 (R81), as the unit-specific operations use them -/
  params   : List Byte := []
  deriving DecidableEq, Repr, Inhabited

/-- A dictionary path (R492): a GDP source address and UDP port, the SMBus target, the SPI target, or a mailbox. -/
inductive DictPath where
  | gdp (addr : List Byte) (port : Nat) | smbus | spi | mailbox (m : Nat)
  deriving DecidableEq, Repr, Inhabited

/-- How a register field or its object is written (R493): a CSR access of an issuer, or a write on a dictionary path. -/
inductive Access where
  | csr (i : Issuer) | dict (p : DictPath)
  deriving DecidableEq, Repr, Inhabited

/-- The write aliases of a register (R48, R513). -/
inductive AliasKind where | set | clr | tgl
  deriving DecidableEq, Repr, Inhabited

/-- Where a Floret's slot is issued (R150, R151): the Floret, and whether this slot is the first its bundle issues. -/
structure SlotIn where
  floret : Nat
  first  : Bool := true
  deriving DecidableEq, Repr, Inhabited

/-- A flit's header (R461), received on a port. -/
structure FlitHeader where
  ftype   : Nat := 0
  vc      : Nat := 0
  seq     : Nat := 0
  ackSeq  : Nat := 0
  ackKind : Nat := 0
  crVc    : Nat := 0
  crCells : Nat := 0
  fstart  : Bool := false
  fend    : Bool := false
  fill    : Nat := 0
  gpos    : Nat := 0
  tagb    : Nat := 0
  rekey   : Bool := false
  reserved : Nat := 0
  /-- header CRC as received -/
  crc     : Word32 := 0
  deriving DecidableEq, Repr, Inhabited

/-- Requests of Bondiush's SPDM responder, by what they ask (R436, R438, R445). -/
inductive SpdmRequest where
  | version (major minor : Nat)
  | negotiate (ok : Bool)
  | keyExchange
  | finish (session : Nat) (keyDigest : List Byte)
  | endSession (session : Nat)
  | challenge (nonce : List Byte)
  | measurements (index : Nat) (nonce : List Byte)
  | certificate (slot : Nat)
  | heartbeat (session : Nat)
  | keyUpdate (session : Nat)
  | vendorDestroy (session : Nat) (slot : Nat)
  | other
  deriving DecidableEq, Repr, Inhabited

/-- A dictionary request of a sideband target (R502, R505): OP 1 read, 2 write. -/
structure DictRequest where
  op     : Nat
  index  : Nat
  sub    : Nat
  offset : Nat
  total  : Option Nat := none
  data   : List Byte := []
  deriving DecidableEq, Repr, Inhabited

/-- A dictionary response (R502, R505). -/
structure DictResponse where
  status : Nat
  type   : Nat := 0
  total  : Nat := 0
  data   : List Byte := []
  deriving DecidableEq, Repr, Inhabited

end Sys2Proof
end

