-- ==== Sys2Proof/Syntax.lean ====
section
/-! DEFINITION. The commands of the block: one constructor for each row of spec/opcode_table.json, in the table's order. An
operand names what the command acts on and what comes from outside the block with it (a requester, bytes, a sample). -/

namespace Sys2Proof

/-- The commands of the DZM (spec/opcode_table.json). -/
inductive Instr where
  -- registers, dictionary and units (chapters 01, 15, 16)
  | csrWrite (i : Issuer) (addr : Nat) (v : Word32)
  | csrAliasWrite (i : Issuer) (k : AliasKind) (addr : Nat) (v : Word32)
  | hubUnlock (i : Issuer) (v : Word32)
  | dictUnlock (p : DictPath) (v : Word32)
  | unlockArmLapse (p : DictPath)
  | segmentStagingExpiry (p : DictPath)
  | unitQuiesce (p : DictPath) (u : Nat)
  | quiesceDrained (u : Nat)
  | quiesceTimeout (u : Nat)
  | unitResume (p : DictPath) (u : Nat)
  | unitReset (p : DictPath) (u : Nat)
  | unitResetComplete (u : Nat)
  | unitPowerDown (p : DictPath) (u : Nat)
  | unitPowerUp (p : DictPath) (u : Nat)
  | unitUpdateBegin (p : DictPath) (u : Nat)
  | unitUpdateEnd (p : DictPath) (u : Nat)
  | groupQueueTake (child : Nat)
  | ancestorRequest (p : DictPath) (r : DictRequest) (reply : Option DictResponse)
  | aggregateRead (p : DictPath) (index sub : Nat) (packages : List Nat)
  | aggregateReply (id package : Nat) (value : Word64)
  | aggregateWindowEnd (id : Nat)
  | counterLatch (p : DictPath) (index sub : Nat)
  -- remote memory operations (chapter 02)
  | put (o : Operation)
  | get (o : Operation)
  | atomic (o : Operation)
  | fetchOp (o : Operation)
  | notify (o : Operation)
  | putNotify (o : Operation)
  | fence (o : Operation)
  | wait (o : Operation)
  | nop (o : Operation)
  | waitTimeout (id : Nat)
  | waitDumpComplete
  | waitBreak (p : DictPath) (dump : Nat)
  | qdbCommit (i : Issuer) (q : Nat) (v : Word64)
  | queueEnable (i : Issuer) (q : Nat)
  | queueDisable (i : Issuer) (q : Nat)
  | queueDisableDrained (q : Nat)
  | queueFlush (i : Issuer) (q : Nat)
  | queueFlushEnd (q : Nat)
  | clearSticky (i : Issuer) (q : Nat)
  | queueContextPut (i : Issuer) (q word : Nat) (v : Word64)
  | itemStart (q : Nat) (remote : List Byte)
  | itemComplete (q : Nat)
  | queueRingReadFail (q : Nat) (st : Status)
  | postedFailureReport (i : Issuer) (pseq : Word32) (r : Response)
  | postedTimeout (i : Issuer) (pseq : Word32)
  | responseReceive (i : Issuer) (id epoch : Nat) (defer : Reason) (r : Response)
  -- run plans (chapter 03)
  | planLoad (p : DictPath) (slot : Nat)
  | planLoadCopyDone (slot : Nat) (st : Status)
  | clusterDrained (cluster : Nat)
  | planArm (p : DictPath) (slot : Nat)
  | armRequest (planId : Word64) (start : Nat) (fromNode : Nat) (resume : Bool)
  | armReply (planId : Word64) (member : Nat) (st : Status)
  | armDecision (slot : Nat)
  | planDisarm (a : Access) (slot : Nat)
  | disarmReceived (planId : Word64)
  | planStart (slot : Nat)
  | planHaltBoundary (a : Access) (slot : Nat)
  | planHaltNow (a : Access) (slot : Nat)
  | planResume (p : DictPath) (slot : Nat)
  | planReset (p : DictPath) (slot : Nat)
  | planUnload (p : DictPath) (slot : Nat)
  | planTick (slot : Nat) (slacks : List (Nat × Int))
  | slipQuantumEnd (slot : Nat)
  | rotationsComplete (slot : Nat)
  | latenessReport (slot : Nat) (cause : SlipCause) (ticks : Nat) (origin : Word32)
  | slipToken (port : Option Nat) (t : SlipToken)
  | haltToken (port : Option Nat) (t : HaltToken)
  | haltTakesEffect (slot : Nat)
  | timeSyncInterval
  | timeFlit (port : Nat) (txFtc echoTx echoRx arrival : Nat)
  | holdoverExpiry
  | ftcSet (p : DictPath) (v : Word64)
  -- Floret slots (chapter 04)
  | mma (i : SlotIn) (w : BitVec 64)
  | tileRead (i : SlotIn) (w : BitVec 64)
  | tileWrite (i : SlotIn) (w : BitVec 64)
  | tileZero (i : SlotIn) (w : BitVec 64)
  | vadd (i : SlotIn) (w : BitVec 64)
  | vsub (i : SlotIn) (w : BitVec 64)
  | vmul (i : SlotIn) (w : BitVec 64)
  | vfma (i : SlotIn) (w : BitVec 64)
  | vmax (i : SlotIn) (w : BitVec 64)
  | vmin (i : SlotIn) (w : BitVec 64)
  | vexp2 (i : SlotIn) (w : BitVec 64)
  | vlog2 (i : SlotIn) (w : BitVec 64)
  | vrcp (i : SlotIn) (w : BitVec 64)
  | vrsqrt (i : SlotIn) (w : BitVec 64)
  | vredsum (i : SlotIn) (w : BitVec 64)
  | vredmax (i : SlotIn) (w : BitVec 64)
  | vcmp (i : SlotIn) (w : BitVec 64)
  | vsel (i : SlotIn) (w : BitVec 64)
  | vcvt (i : SlotIn) (w : BitVec 64)
  | vld (i : SlotIn) (w : BitVec 64)
  | vst (i : SlotIn) (w : BitVec 64)
  | vstscale (i : SlotIn) (w : BitVec 64)
  | vbcast (i : SlotIn) (w : BitVec 64)
  | viadd (i : SlotIn) (w : BitVec 64)
  | vand (i : SlotIn) (w : BitVec 64)
  | vor (i : SlotIn) (w : BitVec 64)
  | vxor (i : SlotIn) (w : BitVec 64)
  | sAdd (i : SlotIn) (w : BitVec 48)
  | sSub (i : SlotIn) (w : BitVec 48)
  | sMul (i : SlotIn) (w : BitVec 48)
  | sAnd (i : SlotIn) (w : BitVec 48)
  | sOr (i : SlotIn) (w : BitVec 48)
  | sXor (i : SlotIn) (w : BitVec 48)
  | shl (i : SlotIn) (w : BitVec 48)
  | shr (i : SlotIn) (w : BitVec 48)
  | sar (i : SlotIn) (w : BitVec 48)
  | slt (i : SlotIn) (w : BitVec 48)
  | sltu (i : SlotIn) (w : BitVec 48)
  | addi (i : SlotIn) (w : BitVec 48)
  | addhi (i : SlotIn) (w : BitVec 48)
  | shli (i : SlotIn) (w : BitVec 48)
  | ld64 (i : SlotIn) (w : BitVec 48)
  | st64 (i : SlotIn) (w : BitVec 48)
  | ld32 (i : SlotIn) (w : BitVec 48)
  | st32 (i : SlotIn) (w : BitVec 48)
  | rdstat (i : SlotIn) (w : BitVec 48)
  | rdres (i : SlotIn) (w : BitVec 48)
  | rdflags (i : SlotIn) (w : BitVec 48)
  | clrflags (i : SlotIn) (w : BitVec 48)
  | rdtick (i : SlotIn) (w : BitVec 48)
  | desc (i : SlotIn) (w : BitVec 48)
  | xRemoteIssue (i : SlotIn) (w : BitVec 48)
  | br (i : SlotIn) (w : BitVec 24)
  | bz (i : SlotIn) (w : BitVec 24)
  | bnz (i : SlotIn) (w : BitVec 24)
  | waitop (i : SlotIn) (w : BitVec 24)
  | waitall (i : SlotIn) (w : BitVec 24)
  | barrier (i : SlotIn) (w : BitVec 24)
  | tickwait (i : SlotIn) (w : BitVec 24)
  | setstream (i : SlotIn) (w : BitVec 24)
  | trap (i : SlotIn) (w : BitVec 24)
  | drain (floret : Nat)
  | taskEnd (floret : Nat)
  | runTask (q item : Nat) (o : Operation)
  | taskSplit (item : Nat)
  | taskTake (floret : Nat)
  | arbiterDraw (base : Nat) (waiting : List Nat)
  | starvationFlag (base requester : Nat)
  | arbiterSeedWrite (i : Issuer) (base : Nat) (v : Word32)
  -- in-fabric compute (chapter 05)
  | jobOpen (o : Operation)
  | jobAbort (o : Operation)
  | jobRelease (o : Operation)
  | jobPut (o : Operation) (port : Nat)
  | heldJobPutTimeout (job n : Nat)
  | jobIdleTimeout (job : Nat)
  | jobExponentReady (job : Nat)
  | millstoneSum (job chunk contrib : Nat)
  | jobOutputAck (job : Nat) (r : Response)
  | hcuJobStart (unit : Nat)
  | gatherSortDone (job : Nat)
  -- switch core and traffic control (chapters 06, 07)
  | frameReceive (port : Nat) (header : List Byte) (payload : List Byte)
  | quotaAdmit (tenant : Nat)
  | quotaWaitExpiry (tenant : Nat)
  | injectionFrame (hub : Nat) (header : List Byte) (payload : List Byte)
  | frameLink (frame : Nat)
  | multicastBranchAck (frame : Nat) (port : Option Nat) (r : Response)
  | egressFrameBoundary (port : Nat)
  | mcEntryWrite (i : Issuer) (n : Nat) (v : Word32)
  | quotaWrite (i : Issuer) (t : Nat) (v : Word32)
  | lgMembersWrite (i : Issuer) (g : Nat) (hi : Bool) (v : Word32)
  | lgRebalance (a : Access) (g : Nat)
  | lgRebalanceComplete (g : Nat)
  | routeWrite (i : Issuer) (n : Nat) (v : Word32)
  | wheelTick
  | trfIndRead (i : Issuer) (v : Word32)
  | trfIndWrite (i : Issuer) (v : Word32)
  | contractDispatch (channel : Nat)
  | gateCycleStart (i : Issuer) (port : Nat) (v : Word32)
  | gateCycleBegin (port : Nat)
  | gateCycleStop (i : Issuer) (port : Nat)
  | gateStopEffect (port : Nat)
  | gateHoldExpiry (port : Nat)
  | gateEntryWrite (i : Issuer) (port entry : Nat) (v : Word32)
  -- pool memory (chapter 08)
  | partitionBind (a : Access) (n : Nat)
  | mapWritten (n : Nat)
  | partitionUnbind (a : Access) (n : Nat)
  | partitionClearComplete (n : Nat)
  | partitionRepair (a : Access) (n : Nat)
  | channelOwnerWrite (a : Access) (ch owner : Nat)
  | channelDeclareFailed (a : Access) (ch : Nat)
  | channelRestore (a : Access) (ch : Nat)
  | channelRetrainDone (ch : Nat) (ok : Bool)
  | channelClearComplete (ch : Nat)
  | channelStall (ch : Nat)
  | channelFatalError (ch : Nat)
  | uncorrectableError (offset : Nat)
  | tierDeadlineExpiry (ch id : Nat)
  | pageMoveStart (n page : Nat)
  | pageMoveSwitch (n page : Nat)
  | migrationHoldExpiry (n page : Nat)
  | promote (o : Operation)
  | demote (o : Operation)
  | pin (o : Operation)
  | unpin (o : Operation)
  | layer (o : Operation)
  | cancel (o : Operation)
  -- KV service (chapter 09)
  | kvStoreEnable (a : Access) (t : Nat) (partition : Option Nat)
  | kvStoreDisable (a : Access) (t : Nat)
  | kvOpen (o : Operation)
  | kvLookup (o : Operation)
  | kvTouch (o : Operation)
  | kvSetTtl (o : Operation)
  | kvRetain (o : Operation)
  | kvRelease (o : Operation)
  | kvPinNear (o : Operation)
  | kvUnpinNear (o : Operation)
  | kvTruncate (o : Operation)
  | truncateEffect (tenant : Nat) (session : Word64)
  | kvDelete (o : Operation)
  | kvDeleteComplete (tenant : Nat) (session : Word64)
  | kvMove (o : Operation) (destOk : Bool)
  | kvMoveCopyDone (tenant : Nat) (session : Word64) (st : Status) (destBase : Nat)
  | kvMoveSwitchDone (tenant : Nat) (session : Word64) (st : Status)
  | kvTokenWrite (o : Operation)
  | kvPagePull (o : Operation)
  | kvAttend (o : Operation)
  | attendStart (id : Nat)
  | attendRangeDone (id range : Nat) (clusterReset : Bool)
  | attendOutputVisible (id : Nat) (r : Response)
  | sessionExpiryCheck
  | handleQuarantineExpiry (base : Nat)
  -- coherent windows (chapter 10)
  | rdS (o : Operation)
  | rdX (o : Operation)
  | upg (o : Operation)
  | wb (o : Operation)
  | drop (o : Operation)
  | rdSpec (o : Operation)
  | snoopResponse (agent line : Nat) (half : Option Nat) (data : Option (List Byte))
  | directoryRequestResume (id : Nat)
  | holdExpiry (line : Nat)
  | snoopTimeout (agent line : Nat)
  | specBufferExpiry (line agent : Nat)
  | windowEnable (a : Access) (w : Nat) (partition : Option Nat)
  | windowDisable (a : Access) (w : Nat)
  | windowDisableComplete (w : Nat)
  | wayMaskWrite (i : Issuer) (t : Nat) (v : Word32)
  | agentRegister (a : Access) (n kind : Nat)
  | agentUnregister (a : Access) (n : Nat)
  -- compression (chapter 11)
  | streamEnable (a : Access) (n : Nat)
  | streamEnableComplete (n : Nat)
  | streamDisable (a : Access) (n : Nat)
  | czPut (o : Operation)
  | czBlockVisible (n : Nat)
  | czGet (o : Operation)
  | train (o : Operation)
  | trainComplete (n : Nat)
  | loadTable (o : Operation)
  | czSeal (o : Operation)
  | streamReset (o : Operation)
  | tableFetch (n slot channel : Nat)
  -- vector search (chapter 12)
  | vsQuery (o : Operation)
  | shardQueryStart (die : Nat)
  | shardQueryDone (id shard : Nat)
  | vsResultVisible (id : Nat) (r : Response)
  | queryTimeout (id : Nat)
  | vsEnable (o : Operation)
  | vsDisable (o : Operation)
  | vsDisableComplete (index : Nat)
  | vsInsert (o : Operation)
  | vsDelete (o : Operation)
  | vsDeleteComplete (index item : Nat)
  | setNeighbours (o : Operation)
  | merge (o : Operation)
  | mergeSwitch (index shard : Nat)
  -- tenants and security (chapter 13)
  | tenantEnable (a : Access) (t : Nat) (requireEnc : Option Bool)
  | tenantDisable (a : Access) (t : Nat) (requireEnc : Option Bool)
  | clusterOwnerWrite (i : Issuer) (w : Nat) (v : Word32)
  | clusterClearComplete (cluster : Nat)
  | portBindWrite (i : Issuer) (port : Nat) (v : Word32)
  | secAssign (i : Issuer) (v : Word32)
  | spdmMessage (port : Option Nat) (r : SpdmRequest)
  | keyRelease (session : Nat) (payload : List Byte)
  | keyDestroy (session slot : Nat)
  | mkDecrypt (o : Operation)
  | verify (p : DictPath)
  | activate (p : DictPath)
  | commit (p : DictPath) (burn : Option (List Nat))
  | abort (p : DictPath)
  | rekey (port : Nat)
  | rekeyHardLimit (port : Nat)
  -- ports and links (chapter 14)
  | portModeWrite (a : Access) (port mode : Nat) (width8 : Bool)
  | portEnable (i : Issuer) (port : Nat)
  | portDisable (i : Issuer) (port : Nat)
  | retrain (i : Issuer) (port : Nat)
  | electricalTrainingDone (port : Nat) (lanes : List Nat)
  | caps (port : Nat) (message : List Byte)
  | secureDone (port : Nat) (secret : List Byte)
  | calibrateDone (port : Nat) (delayNs : Nat) (asym : Int)
  | trainingTimeout (port : Nat)
  | trainingRestart (port : Nat)
  | flitReceive (port : Nat) (h : FlitHeader) (payload : List Byte) (tagOk : Bool)
  | ack (port seq : Nat)
  | nak (port seq : Nat)
  | ackSend (port : Nat)
  | uncorrectableWord (port : Nat)
  | replayTimeout (port : Nat)
  | laneFail (port lane : Nat)
  | degrade (port : Nat) (lanes : List Nat) (ftc : Nat)
  | degradeSwitch (port : Nat)
  -- management (chapter 15)
  | gdpHello (addr : List Byte) (udp : Nat) (frame : List Byte)
  | gdpRead (addr : List Byte) (udp : Nat) (frame : List Byte)
  | gdpWrite (addr : List Byte) (udp : Nat) (frame : List Byte)
  | flashWrite (addr : List Byte) (udp : Nat) (frame : List Byte)
  | gdpSecured (session : Nat) (addr : List Byte) (udp seq : Nat) (frame : List Byte)
  | eventAck (dest : Nat) (seq : Nat)
  | icmpv6Echo (source : List Byte) (dest : List Byte) (payload : List Byte)
  | neighborDiscovery (type : Nat) (source : List Byte) (target : List Byte) (mac : Nat)
  | eventRaise (p : DictPath) (n : Nat)
  | eventResend (dest : Nat)
  | eventHoldoffExpiry (vector : Nat)
  | meterSnapshot (p : DictPath) (v : Nat)
  | meterSnapshotLatch
  | mailboxRead (i : Issuer) (m : Nat) (v : Word32)
  | mailboxWrite (i : Issuer) (m : Nat) (v : Word32)
  | dictReq (data : List Byte) (pecOk whole : Bool)
  | dictRsp
  | eventFetch
  | smbusSclTimeout
  | spiRead (edges : Nat) (words : List Word32)
  | spiWrite (edges : Nat) (words : List Word32)
  | spiFetchResponse (edges : Nat)
  | spiFetchEvent (edges : Nat)
  | sensorPoll (entry : Nat) (value : Option Nat)
  | dimmThermalPoll (dimm : Nat) (celsius : Option Int)
  | busTransactionTimeout (bus : Nat) (what : Nat)
  | busSdaStuck (bus : Nat) (what : Option Nat)
  | busRecoveryAttempt (bus : Nat) (pulses : Option Nat)
  | recover (i : Issuer) (bus : Nat)
  -- power, clocks, reset and boot (chapters 16, 18)
  | powerUp (mv : Nat)
  | softStartDone
  | boot (bankOk : List Bool) (failed : List Nat) (channels : List Nat) (fuses : List (Nat × Nat)) (feedLow : Bool)
  | fuseReread (changed : List (Nat × Nat × Bool))
  | powerMonitorTick (watts : Nat)
  | sagSample (mv : Nat) (warnLow : Bool)
  | throttleRelease
  | brownoutRecovery
  | brownoutLoss (mv : Nat)
  | thermalSample (c16 : Nat)
  | thermalThrottleStep
  | referenceMonitor (ppb : Int) (parentPpb : Option Int) (stopped : Bool)
  | clockRequestWrite (p : DictPath) (cluster mhz : Nat)
  | railSettled (quadrant : Nat)
  | coldResetPin
  | coldResetRelease
  | resetCommandWarm (a : Access)
  | resetCommandCold (a : Access)
  | heartbeat (part : Nat)
  | watchdogRestart
  | watchdogWarning
  | watchdogExpiry
  | dimmOvercurrent (dimm : Nat)
  | dimmFeedLow
  | unitHangTimeout (u : Nat)
  | containmentTimeout (u : Nat)
  | portUnfence (a : Access) (port : Nat)
  -- faults, rehearsal and recovery (chapter 17)
  | injectArm (p : DictPath)
  | injectCancel (p : DictPath)
  | injectDisable (p : DictPath)
  | injectFire (entry : Nat)
  | csOpen (o : Operation)
  | csAbort (o : Operation)
  | csRelease (o : Operation)
  | csPut (o : Operation)
  | csCommit (o : Operation)
  | csApplyDone (slot : Nat) (r : Response)
  | ckptArm (p : DictPath) (c : Nat)
  | ckptCancel (p : DictPath) (c : Nat)
  | ckptStart (c : Nat)
  | ckptPageCaptured (c page : Nat) (r : Response)
  | cowCopyDone (c page : Nat)
  | ckptManifest (c : Nat) (r : Response)
  | meterSample
  | meterModeSwitch
  -- completions and samples named late in the table
  | flashWriteDone (bank : Nat)
  | managementLaneLinkChange (lane : Nat)
  | cxlPcieLinkUp (port rate width : Nat)
  | cxlPcieLinkLoss (port : Nat)
  | channelRequestComplete (channel id : Nat)
  | discardedResponseTimeout (n : Nat)
  | cellUsSample
  deriving DecidableEq, Repr, Inhabited

end Sys2Proof
end

