-- ==== Sys2Proof/Machine/Msg.lean ====
section
/-! DEFINITION. What the block sends out while it carries out one command: answers, forwarded operations, snoops, tokens, link
messages, datagrams. They are the command's visible effect beside the state it leaves. -/

namespace Sys2Proof.Machine

/-- Something the block sends. -/
inductive Msg where
  /-- a response to the issuer of an operation other than the command's own (R73) -/
  | response (r : Req) (op : Nat) (a : Response)
  /-- an operation this package issues or forwards (R56, R42, R46) -/
  | operation (o : Operation)
  /-- a snoop to an agent (R362, R363): kind 0 INV, 1 DATA, 2 CUR -/
  | snoop (agent line kind : Nat) (half : Option Nat)
  /-- tokens of a plan on a port (R130) -/
  | slip (port : Nat) (t : SlipToken)
  | halt (port : Nat) (t : HaltToken)
  /-- arm requests, replies and disarms of a plan (R125, R126) -/
  | arm (node : Nat) (planId : Word64) (start : Nat) (resume : Bool)
  | armReply (node : Nat) (planId : Word64) (st : Status)
  | disarm (node : Nat) (planId : Word64)
  /-- data of an exchange that departs (R116) -/
  | exchange (slot entry : Nat) (data : List Byte)
  /-- a gate, frame or flit on a port -/
  | frame (port frame : Nat) (bytes : Nat)
  | flit (port ftype vc seq : Nat) (payload : List Byte)
  | linkMsg (port : Nat) (bytes : List Byte)
  | ack (port seq : Nat)
  | nak (port seq : Nat)
  | timeFlit (port : Nat) (txFtc echoTx echoRx : Nat)
  | credit (port chan cells : Nat)
  /-- a completion entry written to a COMPLETION queue (R82) -/
  | entry (cq slot : Nat) (bytes : List Byte)
  /-- event deliveries (R496) -/
  | eventFrame (dest : Nat) (seqs : List Nat)
  | eventNotify (addr : Word64) (tc : Nat)
  | msix (port vector : Nat)
  /-- a GDP reply or another datagram of the management lane (R482-R488) -/
  | gdp (p : DictPath) (bytes : List Byte)
  | icmp (dest : List Byte) (type : Nat) (payload : List Byte)
  /-- an SPDM answer (R436): codes of the standard stay with it -/
  | spdm (port : Option Nat) (ok : Bool) (body : List Byte)
  /-- the answer of a sideband target or mailbox to what it was asked -/
  | sideband (p : DictPath) (bytes : List Byte)
  /-- a request for a counter to a descendant package (R40) -/
  | counterAsk (package index sub : Nat) (ftc : Nat)
  /-- a dictionary request forwarded to a representative package (R31) -/
  | forward (node : Nat) (r : DictRequest)
  /-- a transaction on a controller bus (R507) -/
  | bus (b : Nat) (what : Nat)
  deriving DecidableEq, Repr, Inhabited

/-- What one command made the block answer and send. -/
structure Out where
  /-- the answer to the command's own requester, when the command gives one -/
  resp : Option Response := none
  /-- what else was sent, in order -/
  sent : List Msg := []
  deriving DecidableEq, Repr, Inhabited

end Sys2Proof.Machine
end

