-- ==== Sys2Proof/Machine/Parts/Coherence.lean ====
section
/-! DEFINITION. State of chapter 10 (spec/10_coherent_windows.md): windows, directory entries, agents, requests in progress,
snoops and speculation buffers. -/

namespace Sys2Proof.Machine

/-- A window slot (R353, R375). -/
structure Window where
  /-- BASE, 40 bits, R375, reset 0 -/
  base : Nat := 0
  /-- PAGES, 20 bits, R375, reset 0 -/
  pages : Nat := 0
  /-- OFFSET_PAGES, 28 bits, R375, reset 0 -/
  backPages : Nat := 0
  /-- PARTITION, 9 bits, R375, reset 0 -/
  partition : Nat := 0
  /-- ENABLE, 1 bit, R375, reset 0 -/
  enable : Bool := false
  /-- DISABLING, 1 bit, R375, reset 0 -/
  disabling : Bool := false
  /-- LAST_STATUS, 8 bits, R375, reset 0x00 -/
  lastStatus : Status := .ok
  deriving DecidableEq, Repr, Inhabited

/-- STATE of a directory entry (R357); I is the absence of an entry. -/
inductive LineState where | shared | em | owned
  deriving DecidableEq, Repr, Inhabited

/-- A directory entry (R357). BUSY is set while `requests` holds a request of the line that has begun. -/
structure DirEntry where
  line      : Nat
  state     : LineState
  /-- OWNER, 6 bits -/
  owner     : Nat := 0
  /-- HALVES, 2 bits -/
  halves    : BitVec 2 := 0
  /-- SHARERS, one per agent, in rising order -/
  sharers   : List Nat := []
  /-- HOLD_UNTIL, as a time of the model clock, with the agents the hold protects (R366) -/
  holdUntil : Nat := 0
  holders   : List Nat := []
  /-- number of its last grant, for the LRU choice of R368 -/
  used      : Nat := 0
  deriving DecidableEq, Repr, Inhabited

/-- A caching agent (R359, R375). -/
structure Agent where
  /-- NODE, 16 bits, R375, reset 0xFFFF -/
  node : Nat := 0xFFFF
  /-- PORT, 6 bits, R375, reset 0 -/
  port : Nat := 0
  /-- TENANT, 8 bits, R375, reset 0 -/
  tenant : Nat := 0
  /-- KIND, 2 bits, R375, reset 0 -/
  kind : Nat := 0
  /-- FENCED, 1 bit, R375, reset 0 -/
  fenced : Bool := false
  deriving DecidableEq, Repr, Inhabited

/-- Snoops (R362). -/
inductive SnoopKind where | inv | data | cur
  deriving DecidableEq, Repr, Inhabited

/-- What is asked of a line (R360, R361), and the block's own evictions (R368) and flushes of a window (R372). -/
inductive LineOp where
  | rdS | rdX | upg | wb | drop | get | put | atomic | evict | flush
  deriving DecidableEq, Repr, Inhabited

/-- A snoop sent and not answered (R362, R371). -/
structure Snoop where
  agent    : Nat
  kind     : SnoopKind
  /-- the half, for a CXL agent (R363) -/
  half     : Option Nat := none
  deadline : Nat
  deriving DecidableEq, Repr, Inhabited

/-- What a request waits for: a place in its slice queue, the line's request in progress, a hold, its set, snoop answers (R358,
R364, R366, R368). -/
inductive LineWait where
  | none | slice | busy | hold | set | snoops
  deriving DecidableEq, Repr, Inhabited

/-- A request at the directory (R358, R364). A GET, PUT or atomic is one of these per line, joined by `group`. -/
structure LineReq where
  /-- the model's own number, in arrival order -/
  id     : Nat
  group  : Nat
  line   : Nat
  op     : LineOp
  /-- the registered agent that asks -/
  agent  : Option Nat := none
  /-- the half a CXL host asks for; none is the whole line -/
  half   : Option Nat := none
  oper   : Operation := {}
  since  : Nat := 0
  defer  : Reason := .none
  wait   : LineWait := .none
  snoops : List Snoop := []
  /-- data answered by the snooped owner, by byte of the line (R363 merges halves) -/
  got    : Store (Option Byte) := []
  deriving DecidableEq, Repr, Inhabited

/-- A GET, PUT or atomic over its lines (R361): lines not yet done, the bytes read by line, and what it will answer. -/
structure LineGroup where
  id     : Nat
  oper   : Operation
  left   : Nat
  got    : List (Nat × List Byte) := []
  status : Status := .ok
  /-- first line whose read ended with a failure -/
  stopAt : Option Nat := none
  defer  : Reason := .none
  result : Word64 := 0
  deriving DecidableEq, Repr, Inhabited

/-- A buffered speculative line (R370). -/
structure SpecLine where
  line  : Nat
  agent : Nat
  since : Nat
  data  : List Byte := []
  deriving DecidableEq, Repr, Inhabited

/-- State of chapter 10. -/
structure CohState where
  /-- the 32 windows, R353 -/
  windows : Store Window := []
  /-- way masks of the 64 tenants and the management domain (64), 16 bits, R356, R375, reset 0 -/
  ways : Store (BitVec 16) := []
  /-- entries, keyed 16 x set + way, R356 -/
  entries : Store (Option DirEntry) := []
  /-- the 64 agents, R359 -/
  agents : Store Agent := []
  /-- requests in progress or waiting, in arrival order, R358 -/
  requests : List LineReq := []
  /-- requests over lines not all done, R361 -/
  groups : List LineGroup := []
  /-- speculation buffers, R370 -/
  spec : List SpecLine := []
  /-- number of the next request (the model's own), reset 0 -/
  nextReq : Nat := 0
  /-- grants so far, which order the uses of entries (R368; the model's own), reset 0 -/
  uses : Nat := 0
  deriving DecidableEq, Repr, Inhabited

end Sys2Proof.Machine
end

