-- ==== Sys2Proof/Machine/Parts/Compression.lean ====
section
/-! DEFINITION. State of chapter 11 (spec/11_compression.md): compressed streams and operations in progress on them. -/

namespace Sys2Proof.Machine

/-- STATE of a stream (R393). -/
inductive StreamState where | disabled | opened | sealed | resetting
  deriving DecidableEq, Repr, Inhabited

def StreamState.code : StreamState → Nat
  | .disabled => 0 | .opened => 1 | .sealed => 2 | .resetting => 3

/-- A CZ_PUT accepted whose blocks are not all visible (R388). -/
structure CzPut where
  req    : Req
  /-- the logical block its first block is -/
  first  : Nat
  /-- blocks not yet visible -/
  blocks : List (List Byte)
  done   : Nat := 0
  deriving DecidableEq, Repr, Inhabited

/-- A TRAIN in progress (R383): the records it will write, by slot. -/
structure CzTrain where
  req   : Req
  mask  : Nat
  tables : List (Nat × List Nat) := []
  deriving DecidableEq, Repr, Inhabited

/-- A stream (R378-R394, R396). -/
structure Stream where
  /-- PARTITION, 9 bits, R396, reset 0 -/
  partition : Nat := 0
  /-- ELEM, 2 bits, R396, reset 0 -/
  elem : Nat := 0
  /-- FIRST_PAGE, 28 bits, R396, reset 0 -/
  firstPage : Nat := 0
  /-- PAGES, 20 bits, R396, reset 0 -/
  pages : Nat := 0
  /-- MAX_BLOCKS, 23 bits, R396, reset 0 -/
  maxBlocks : Nat := 0
  /-- ENABLE, 1 bit, R396, reset 0 -/
  enable : Bool := false
  /-- STATE, 2 bits, R396, reset DISABLED -/
  state : StreamState := .disabled
  /-- the zeroing of an enable runs, R393, reset false -/
  enabling : Bool := false
  /-- LOADED, 4 bits, R396, reset 0 -/
  loaded : BitVec 4 := 0
  /-- USED, 4 bits, R396, reset 0 -/
  used : BitVec 4 := 0
  /-- DAMAGED, 4 bits, R396, reset 0 -/
  damaged : BitVec 4 := 0
  /-- GEN, 6 bits, R396, reset 0 -/
  gen : Nat := 0
  /-- LAST_STATUS, 8 bits, R396, reset 0x00 -/
  lastStatus : Status := .ok
  /-- BLOCKS (WRITTEN), 23 bits, R396, reset 0 -/
  written : Nat := 0
  /-- GRANULES consumed in the data area, 32 bits, R396, reset 0 -/
  granules : Nat := 0
  /-- LAST_BYTES, 13 bits, R396, reset 4,096 -/
  lastBytes : Nat := 4096
  /-- TCRC of slots 0-3, 32 bits each, R396, reset 0 -/
  tcrc : Store Word32 := []
  /-- bytes accepted and stored since enable, R397, reset 0 -/
  accepted : Nat := 0
  stored : Nat := 0
  /-- stream_check_fails, R397, reset 0 -/
  checkFails : Nat := 0
  /-- puts accepted, in order, R388, reset empty -/
  puts : List CzPut := []
  /-- trains in progress, R383, reset empty -/
  trains : List CzTrain := []
  /-- a SEAL waiting for accepted puts, R394, reset none -/
  sealReq : Option Req := none
  /-- the RESET that runs, R394, reset none -/
  resetReq : Option Req := none
  deriving DecidableEq, Repr, Inhabited

/-- A table an expander holds (R389): its code lengths, by symbol. -/
structure HeldTable where
  channel : Nat
  stream  : Nat
  slot    : Nat
  lengths : List Nat
  deriving DecidableEq, Repr, Inhabited

/-- State of chapter 11. -/
structure CzState where
  /-- the 1,024 streams, R378 -/
  streams : Store Stream := []
  /-- tables held by the expanders (R389), at most 64 a channel, least recently used first -/
  held : List HeldTable := []
  deriving DecidableEq, Repr, Inhabited

end Sys2Proof.Machine
end

