-- ==== Sys2Proof/Machine/Parts/Faults.lean ====
section
/-! DEFINITION. State of chapter 17 (spec/17_faults_service.md): the fault log, fences, injection, commit slots, checkpoints. -/

namespace Sys2Proof.Machine

/-- A fault record (R552). -/
structure FaultRec where
  seq    : Nat
  ftc    : Nat
  source : Word32
  code   : Nat
  action : Nat
  status : Status
  flags  : BitVec 8
  entry  : Nat := 0xFFFF
  arg    : Word32
  deriving DecidableEq, Repr, Inhabited

/-- An injection entry (R559, R575). -/
structure InjectEntry where
  /-- inject_kind, R575, reset 0 -/
  kind : Nat := 0
  /-- inject_target, R575, reset 0xFFFF_FFFF -/
  target : Word32 := 0xFFFFFFFF
  /-- inject_first_ftc, R575, reset 0 -/
  firstFtc : Nat := 0
  /-- inject_count, R575, reset 1 -/
  count : Nat := 1
  /-- inject_interval_us, R575, reset 1,000 -/
  intervalUs : Nat := 1000
  /-- inject_param, R575, reset 0 -/
  param : Nat := 0
  /-- inject_state ARMED, R575, reset IDLE -/
  armed : Bool := false
  /-- inject_fired, R575, reset 0 -/
  fired : Nat := 0
  /-- inject_skipped, R575, reset 0 -/
  skipped : Nat := 0
  /-- inject_last_status, R575, reset 0x00 -/
  lastStatus : Status := .ok
  /-- FTC of the next firing, R560, reset 0 -/
  nextFtc : Nat := 0
  /-- firings left, R560, reset 0 -/
  left : Nat := 0
  deriving DecidableEq, Repr, Inhabited

/-- State of a commit slot (R566, R575). -/
inductive CsState where | free | opened | applying | committed | aborted | faulted
  deriving DecidableEq, Repr, Inhabited

def CsState.code : CsState → Nat
  | .free => 0 | .opened => 1 | .applying => 2 | .committed => 3 | .aborted => 4 | .faulted => 5

/-- A commit slot (R563-R567). -/
structure CommitSlot where
  /-- cs_state, R575, reset FREE -/
  state : CsState := .free
  /-- cs_tenant, R575, reset 0xFF -/
  tenant : Nat := 0xFF
  /-- STAGE_ADDR, R564, reset 0 -/
  stageAddr : Word64 := 0
  /-- STAGE_BYTES, R564, reset 0 -/
  stageBytes : Nat := 0
  /-- ATTEMPTS, R564, reset 0 -/
  attempts : Nat := 0
  /-- TC, R564, reset 0 -/
  tc : Nat := 0
  /-- DONE_SYNC_ADDR, R564, reset 0 -/
  doneSync : Word64 := 0
  /-- bytes staged by each attempt, R565, reset 0 -/
  staged : Store Nat := []
  /-- cs_winner, R575, reset none -/
  winner : Option Nat := none
  /-- the commit whose apply runs, R567, reset none -/
  commit : Option Req := none
  /-- bytes applied by the commit, R567, reset 0 -/
  applied : Nat := 0
  /-- STATUS of the put that stopped the apply, R567, reset OK -/
  stopped : Status := .ok
  deriving DecidableEq, Repr, Inhabited

/-- State of a checkpoint context (R575). -/
inductive CkptState where | idle | armed | streaming | done | failed
  deriving DecidableEq, Repr, Inhabited

def CkptState.code : CkptState → Nat
  | .idle => 0 | .armed => 1 | .streaming => 2 | .done => 3 | .failed => 4

/-- A write held by a checkpoint (R571). -/
structure HeldWrite where
  oper  : Operation
  page  : Nat
  defer : Reason := .none
  deriving DecidableEq, Repr, Inhabited

/-- A checkpoint context (R568-R572, R575). -/
structure Ckpt where
  /-- ckpt_state, R575, reset IDLE -/
  state : CkptState := .idle
  /-- ckpt_partition, R575, reset 0 -/
  partition : Nat := 0
  /-- ckpt_dest, R575, reset 0 -/
  dest : Word64 := 0
  /-- ckpt_tc, R575, reset 4 -/
  tc : Nat := 4
  /-- ckpt_shaper, R575, reset 0 -/
  shaper : Nat := 0
  /-- ckpt_cow_pages, R575, reset 1,024 -/
  cowPages : Nat := 1024
  /-- ckpt_start_ftc, R575, reset 0 -/
  startFtc : Nat := 0
  /-- ckpt_epoch, R575, reset 0 -/
  epoch : Nat := 0
  /-- ckpt_pages_streamed, R575, reset 0 -/
  streamed : Nat := 0
  /-- ckpt_cow_copies, R575, reset 0 -/
  cowCopies : Nat := 0
  /-- ckpt_poisoned_blocks, R575, reset 0 -/
  poisoned : Nat := 0
  /-- ckpt_status, R575, reset 0x00 -/
  status : Status := .ok
  /-- ckpt_end_ftc, R575, reset 0 -/
  endFtc : Nat := 0
  /-- pages captured, R570, reset empty -/
  captured : Store Bool := []
  /-- pages in flight, at most 32, R570, reset empty -/
  inFlight : List Nat := []
  /-- next page in ascending order, R570, reset 0 -/
  next : Nat := 0
  /-- CoW copies by page: poisoned blocks and the page's bytes that differ from zero, R571, reset empty -/
  copies : Store (Option (Nat × Store Byte)) := []
  /-- CoW frames by channel still reserved, R568, reset empty -/
  cowFrames : Store Nat := []
  /-- pages a write waits for with no CoW frame free: sent next, R571, reset empty -/
  urgent : List Nat := []
  /-- copies under way: page, R571, reset empty -/
  copying : List Nat := []
  /-- writes held, R571, reset empty -/
  held : List HeldWrite := []
  /-- the manifest is put and not acknowledged, R572, reset false -/
  manifest : Bool := false
  deriving DecidableEq, Repr, Inhabited

/-- State of chapter 17. -/
structure FaultsState where
  /-- fault_seq, 64 bits, R575, reset 0 -/
  seq : Nat := 0
  /-- the latest 1,024 fault records, oldest first, R552 -/
  log : List FaultRec := []
  /-- SEQ of the latest record read through 0x5800.03, R554, reset 0 -/
  read : Nat := 0
  /-- LAST_CODE, 8 bits, R574, reset 0 -/
  lastCode : Nat := 0
  /-- FENCED of ports 0-35, R574, reset 0 -/
  fenced : BitVec 36 := 0
  /-- the 64 injection entries, R559 -/
  inject : Store InjectEntry := []
  /-- TIER_LATE in force: unit index, delay in µs and model clock of its end, R559, reset empty -/
  tierLate : List (Nat × Nat × Nat) := []
  /-- TIER_ERROR in force: unit index, requests left and entry, R559, reset empty -/
  tierError : List (Nat × Nat × Nat) := []
  /-- the entry whose firing is being carried out: its outcomes carry the flags of R561 (the model's own), reset none -/
  firing : Option Nat := none
  /-- LINK_REPLAY in force: port and FEC words left, R559, reset empty -/
  linkReplay : List (Nat × Nat) := []
  /-- the 16,384 commit slots, R563 -/
  slots : Store CommitSlot := []
  /-- the 16 checkpoint contexts, R568 -/
  ckpts : Store Ckpt := []
  /-- epochs of the 512 partitions, R569, reset 0 -/
  epochs : Store Nat := []
  /-- meter_mode in force of each tenant (a change takes effect at the next ms), R573, reset 0 -/
  meterMode : Store Nat := []
  deriving DecidableEq, Repr, Inhabited

end Sys2Proof.Machine
end

