-- ==== Sys2Proof/Machine/Parts/Florets.lean ====
section
/-! DEFINITION. State of chapter 04 (spec/04_florets.md): Floret registers, running work, task pools, staged operations. Pads
and cluster SRAM are bytes of REGION 0x2 and live in the state's `sram`. -/

namespace Sys2Proof.Machine

/-- An accumulator tile (R146): 64 cells of 32 bits, cell 8i + j, and its type tag (true INT32, false FP32). -/
structure Tile where
  isInt : Bool := false
  cells : List Word32 := List.replicate 64 0
  deriving DecidableEq, Repr, Inhabited

/-- The registers of a Floret (R146). -/
structure FloretRegs where
  /-- tiles t0-t63, 64 x 32 bits and a tag each, R146, reset 0 -/
  tiles : Store Tile := []
  /-- vector registers v0-v31, 64 x 32 bits, R146, reset 0 -/
  vregs : Store (List Word32) := []
  /-- mask registers m1-m7, 64 bits (m0 reads all ones), R146, reset 0 -/
  masks : Store Word64 := []
  /-- scalar registers s1-s31, 64 bits (s0 reads zero), R146, reset 0 -/
  sregs : Store Word64 := []
  /-- FLAGS, 5 bits, R171, reset 0 -/
  flags : BitVec 5 := 0
  /-- STREAM, 64 bits, R172, reset 0 -/
  stream : Word64 := 0
  /-- SR_COUNT, 32 bits, R172, reset 0 -/
  srCount : Word32 := 0
  deriving DecidableEq, Repr, Inhabited

/-- A register a slot of the current bundle has written (R151). -/
inductive RegName where
  | scalar (n : Nat) | vector (n : Nat) | mask (n : Nat) | tile (n : Nat)
  deriving DecidableEq, Repr, Inhabited

/-- What a tag of the outstanding-operation table holds (R163). -/
structure TagRec where
  busy   : Bool := false
  /-- OP of the operation that took it last -/
  op     : Nat := 0
  injected : Bool := false
  status : Status := .ok
  disp   : Disp := .served
  reason : Reason := .none
  load   : Nat := 0
  result : Word64 := 0
  deriving DecidableEq, Repr, Inhabited

/-- What a Floret is executing: a task of a RUN_TASK item (R177), or an entry of a plan's program (R175). -/
inductive FloretWork where
  | task (item : Nat) (t : Nat)
  | entry (slot : Nat) (e : Nat)
  deriving DecidableEq, Repr, Inhabited

/-- The slots of a bundle (R150), numbered as fault_slot and DETAIL number them (R182, R188). -/
inductive Slot where | none | m | v | s | x | c
  deriving DecidableEq, Repr, Inhabited

def Slot.code : Slot → Nat
  | .none => 0 | .m => 1 | .v => 2 | .s => 3 | .x => 4 | .c => 5

/-- What a Floret waits for (R150, R163, R165, R181). -/
inductive Stall where
  | tag (n : Nat) | all | barrier (b : Nat) | tick (n : Word64) | drain | quota (bytes : Nat) | posted | fence
  deriving DecidableEq, Repr, Inhabited

/-- A Floret (R146). -/
structure Floret where
  /-- its registers, R146, reset 0 -/
  regs : FloretRegs := {}
  /-- the registers as they stood when the current bundle issued, R151, reset 0 -/
  atIssue : FloretRegs := {}
  /-- registers written by the slots of the current bundle, R151, reset empty -/
  wrote : List RegName := []
  /-- the 64 tags, R163, reset free -/
  tags : Store TagRec := []
  /-- the task or entry in execution, R175, R177, reset none -/
  work : Option FloretWork := none
  /-- address of the current bundle: a local address of a static cluster, an offset from CODE of a dynamic one, R165, R188 -/
  bundle : Nat := 0
  /-- address of the next bundle, R165, reset 0 -/
  next : Nat := 0
  /-- no bundle of this task or entry has issued yet, R175, reset true -/
  fresh : Bool := true
  /-- what it stalls on, R165, reset none -/
  stall : Option Stall := none
  /-- an END bundle has issued and its operations are completing, R150, reset false -/
  ending : Bool := false
  deriving DecidableEq, Repr, Inhabited

/-- The level a RUN_TASK item was taken at (R178). -/
inductive TakenAt where | floret (f : Nat) | cluster (c : Nat) | quadrant (q : Nat)
  deriving DecidableEq, Repr, Inhabited

/-- A RUN_TASK item in progress (R177, R180, R182). -/
structure TaskItem where
  /-- the model's own number of the item, in the order of taking -/
  id      : Nat
  queue   : Nat
  itemNo  : Nat
  tenant  : Nat
  tag     : Word32
  code    : Word64
  arg0    : Word64
  arg1    : Word64
  stream  : Word64
  count   : Nat
  seed    : Word64
  /-- the unit on whose work queue it waits (R37), by dictionary index -/
  waitsAt : Nat
  /-- where it was taken; none while it waits on the work queue (R37) -/
  taken   : Option TakenAt := none
  /-- a quadrant has split its tasks into pools (R178), reset false -/
  split   : Bool := false
  /-- its lowest task that has not committed (R180) -/
  head    : Nat := 0
  /-- tasks ended and not yet committed -/
  ended   : List Nat := []
  /-- the lowest faulting task with its code and slot (R182) -/
  fault   : Option (Nat × Nat × Slot) := none
  /-- OR of the FLAGS of committed tasks, and FLAGS of ended ones (R182) -/
  flagsOr : BitVec 5 := 0
  endFlags : List (Nat × BitVec 5) := []
  /-- tasks running now -/
  running : List Nat := []
  /-- tasks a reset has returned to a pool once (R182) -/
  returned : List Nat := []
  /-- number of the commit engine's next operation of it (R180), and the Floret's tag that waits for an operation's outcome -/
  nextOp  : Nat := 0
  opTags  : List (Nat × Nat × Nat) := []
  deriving DecidableEq, Repr, Inhabited

/-- A range of tasks in a cluster's pool (R178): tasks lo to hi - 1 of an item. -/
structure TaskRange where
  item : Nat
  lo   : Nat
  hi   : Nat
  deriving DecidableEq, Repr, Inhabited

/-- A staged COMMIT operation (R180). -/
structure StagedOp where
  floret : Nat
  item   : Nat
  task   : Nat
  op     : Nat
  req    : Req
  data   : List Byte
  operand : Word64
  sync   : Nat
  deriving DecidableEq, Repr, Inhabited

/-- Arrivals at a cluster barrier (R165). -/
structure Barrier where
  mask    : BitVec 16
  arrived : List Nat
  deriving DecidableEq, Repr, Inhabited

/-- State of chapter 04. -/
structure FloretsState where
  /-- the 4,096 Florets, R146 -/
  florets : Store Floret := []
  /-- RUN_TASK items in progress, oldest first, R177 -/
  items : List TaskItem := []
  /-- number of the next item (the model's own), reset 0 -/
  nextItem : Nat := 0
  /-- task pools of the 256 clusters, R178 -/
  pools : Store (List TaskRange) := []
  /-- staged operations in staging order, R180 -/
  staged : List StagedOp := []
  /-- cluster barriers, keyed 16 C + number, R165 -/
  barriers : Store (Option Barrier) := []
  /-- clusters claimed by a plan, so static, with the slot, R50, R110 -/
  staticBy : Store (Option Nat) := []
  /-- requesters waiting at a lottery arbiter, keyed by the arbiter's base address, R184 -/
  arbWaiting : Store (List Nat) := []
  /-- last requester granted by a lottery arbiter (for round-robin), keyed alike, R184 -/
  arbLast : Store Nat := []
  /-- clusters whose clock rise waits for the rail, with the requested MHz, R530 -/
  clockRises : List (Nat × Nat) := []
  deriving DecidableEq, Repr, Inhabited

end Sys2Proof.Machine
end

