-- ==== Sys2Proof/Machine/Parts/Hcu.lean ====
section
/-! DEFINITION. State of chapter 05 (spec/05_in_fabric_compute.md): jobs, their chunks, parked and held inputs, and the queues
of Millstones, Flumes and Bolters. -/

namespace Sys2Proof.Machine

/-- State of a job (R197). -/
inductive JobState where | free | waiting | opened | done | faulted
  deriving DecidableEq, Repr, Inhabited

def JobState.code : JobState → Nat
  | .free => 0 | .waiting => 1 | .opened => 2 | .done => 3 | .faulted => 4

/-- Bytes of a job's input already received (R198): positions lo to hi - 1 of one contributor's input. -/
structure Received where
  contrib : Nat
  lo      : Nat
  hi      : Nat
  deriving DecidableEq, Repr, Inhabited

/-- An accepted input for one chunk, or one run of elements or records, not yet consumed (R199, R209, R217). -/
structure JobInput where
  job     : Nat
  /-- chunk number (REDUCE); 0 otherwise -/
  chunk   : Nat
  contrib : Nat
  /-- WIRE_FMT of R195 -/
  fmt     : Nat
  offset  : Nat
  data    : List Byte
  /-- CHUNK_FLAGS of a partial -/
  flags   : BitVec 8
  /-- order of acceptance: hub cycle, port number (R210), or EFFECT tick and CONTRIB for a plan job -/
  key     : Nat × Nat
  /-- Millrace cells it holds against OVF_CELLS while parked (R199) -/
  cells   : Nat := 0
  /-- it was parked or held, so its completion carries DEFERRED (R199) -/
  late    : Bool := false
  /-- its JOB_PUT has been answered -/
  answered : Bool := false
  req     : Req
  deriving DecidableEq, Repr, Inhabited

/-- A JOB_PUT held at ingress (R199). -/
structure HeldPut where
  job      : Nat
  contrib  : Nat
  epoch    : Nat
  fmt      : Nat
  expCheck : Nat
  flags    : BitVec 8
  data     : List Byte
  req      : Req
  port     : Nat
  /-- model clock at which hold_limit_us passes -/
  deadline : Nat
  deriving DecidableEq, Repr, Inhabited

/-- A chunk's staging slot (R208-R210, R213): one value per element, FP32 bits in FP32 mode, the two's-complement partial in
the AIR modes, the code in MAXEXP; `inputs` counts contributions summed. -/
structure Chunk where
  values : List Int := []
  inputs : Nat := 0
  flags  : BitVec 8 := 0
  complete : Bool := false
  deriving DecidableEq, Repr, Inhabited

/-- A pair a DISPATCH writes (R222): token t, slot j, expert e, position p and the route's weight. -/
structure Place where
  token  : Nat
  slot   : Nat
  expert : Nat
  pos    : Nat
  weight : Nat
  deriving DecidableEq, Repr, Inhabited

/-- A job (R192, R196). -/
structure Job where
  /-- state, R197, reset FREE -/
  state : JobState := .free
  /-- epoch, 8 bits (0 before the first OPEN), R194, reset 0 -/
  epoch : Nat := 0
  /-- owning tenant, 8 bits, R229, reset 0xFF -/
  tenant : Nat := 0xFF
  /-- the 256 bytes of the job record, R196, reset empty -/
  record : List Byte := []
  /-- traffic class of the JOB_CTL that opened it, R595, reset 4 -/
  tc : Nat := 4
  /-- plan slot of a plan job, R192, reset none -/
  slot : Option Nat := none
  /-- Millrace cells reserved by OVF_CELLS, R196, reset 0 -/
  ovfCells : Nat := 0
  /-- cells in use of them, R199, reset 0 -/
  ovfUsed : Nat := 0
  /-- input positions received, R198, reset empty -/
  received : List Received := []
  /-- chunk slots, R209 -/
  chunks : Store Chunk := []
  /-- lowest chunk not complete, R209, reset 0 -/
  base : Nat := 0
  /-- outputs put and not acknowledged, R216, reset 0 -/
  unacked : Nat := 0
  /-- every output has been issued, R216, R219, R225, reset false -/
  allIssued : Bool := false
  /-- the exponent vector, R212, reset none -/
  expVec : Option (List Byte) := none
  /-- EXP_CHECK, 16 bits, R212, reset 0 -/
  expCheck : Nat := 0
  /-- COUNT1 and COUNT2 of the report, R201, reset 0 -/
  count1 : Nat := 0
  count2 : Nat := 0
  /-- FLAGS of the report, R201, reset 0 -/
  flags : BitVec 8 := 0
  /-- STATUS and REASON of the report, R201, reset OK -/
  status : Status := .ok
  reason : Reason := .none
  /-- model clock of the last input accepted or output issued, R202, reset 0 -/
  activeAt : Nat := 0
  /-- the unit serving a GATHER, DISPATCH or FILTER job, R220, reset none -/
  servedBy : Option Nat := none
  /-- it runs on its unit, R220, reset false -/
  running : Bool := false
  /-- a stream GATHER's index list has been sorted, R219, reset false -/
  sorted : Bool := false
  /-- next record a FILTER evaluates, R225, reset 0 -/
  nextRecord : Nat := 0
  /-- top-k store of a FILTER: key code and record, best first, R225, reset empty -/
  topk : List (Int × Nat × List Byte) := []
  /-- a GATHER's index list as read at its start, R219, reset empty -/
  index : List Nat := []
  /-- a DISPATCH's placement: token, slot, expert, position and weight, R222, reset empty -/
  places : List Place := []
  /-- output of a plan job that waits for its exchange: offset and bytes, R227, reset empty -/
  outbox : List (Nat × List Byte) := []
  deriving DecidableEq, Repr, Inhabited

/-- State of chapter 05. -/
structure HcuState where
  /-- the 4,096 jobs, R192 -/
  jobs : Store Job := []
  /-- accepted inputs not yet consumed, R209, R217 -/
  inputs : List JobInput := []
  /-- JOB_PUTs held at ingress, R199 -/
  held : List HeldPut := []
  /-- bytes of staging reserved per Millstone by dynamic jobs, R207 -/
  staging : Store Nat := []
  /-- bytes of staging per Millstone claimed by plans (kind 0x07): slot and bytes, R106 -/
  stagingClaims : Store (List (Nat × Nat)) := []
  /-- plan slot that holds a Millstone, Flume or Bolter: keys m, 256 + f, 512 + b, R50, R106 -/
  unitSlot : Store (Option Nat) := []
  /-- jobs queued on each Flume (key f) and Bolter (key 64 + b), in order of open, R220 -/
  fbQueues : Store (List Nat) := []
  /-- overflow cells claimed by each plan slot (kind 0x0B), R106 -/
  ovfClaims : Store Nat := []
  deriving DecidableEq, Repr, Inhabited

end Sys2Proof.Machine
end

