-- ==== Sys2Proof/Machine/Parts/Kv.lean ====
section
/-! DEFINITION. State of chapter 09 (spec/09_kv_service.md): KV stores, sessions, handles in quarantine, attends. -/

namespace Sys2Proof.Machine

/-- State of a session (R329); the codes are those of kv_session_state (R351). -/
inductive SessState where | opened | moving | deleting | expired | evicted | deleted | moved
  deriving DecidableEq, Repr, Inhabited

def SessState.code : SessState → Nat
  | .opened => 1 | .moving => 2 | .deleting => 3 | .expired => 4 | .evicted => 5 | .deleted => 6 | .moved => 7

/-- A tenant's KV store (R325, R326, R350). -/
structure KvStore where
  /-- PARTITION, 9 bits, R350, reset 0 -/
  partition : Nat := 0
  /-- SLOT_UNITS, 10 bits, R350, reset 0 -/
  slotUnits : Nat := 0
  /-- META_PAGES, 16 bits, R350, reset 0 -/
  metaPages : Nat := 0
  /-- ENABLE, 1 bit, R350, reset 0 -/
  enable : Bool := false
  /-- LAST_STATUS, 8 bits, R350, reset 0x00 -/
  lastStatus : Status := .ok
  /-- RETAIN_PCT, 7 bits, R350, reset 50 -/
  retainPct : Nat := 50
  /-- slots taken, in rising order (the free-slot list is the rest), R325, reset empty -/
  used : List Nat := []
  deriving DecidableEq, Repr, Inhabited

/-- A truncate that waits for earlier pulls and attends (R340). -/
structure PendingTruncate where
  layer   : Option Nat
  count   : Nat
  req     : Req
  /-- attends accepted before it and not completed -/
  waits   : List Nat
  deriving DecidableEq, Repr, Inhabited

/-- A move of a session (R348). -/
structure SessionMove where
  req      : Req
  dest     : Nat
  /-- BASE the destination answered -/
  destBase : Option Nat := none
  /-- the switch has begun: new requests are held -/
  switching : Bool := false
  /-- pages (layer, page) written after their copy, to be copied again -/
  marked   : List (Nat × Nat) := []
  /-- model clock at which the switch began -/
  since    : Nat := 0
  deriving DecidableEq, Repr, Inhabited

/-- A session (R327-R335, R341). -/
structure KvSession where
  /-- SESSION, 64 bits, R327 -/
  session : Word64 := 0
  /-- its store's tenant, R328 -/
  tenant : Nat := 0
  /-- state, R329, reset OPEN at its OPEN -/
  state : SessState := .opened
  /-- BASE, 22 bits, R328 -/
  base : Nat := 0
  /-- LAYERS, R331 -/
  layers : Nat := 1
  /-- KV_HEADS, R331 -/
  heads : Nat := 1
  /-- HEAD_DIM, R331 -/
  dim : Nat := 64
  /-- FMT, R331 -/
  fmt : Nat := 0x0C
  /-- RETAIN, R331 -/
  retain : Bool := false
  /-- EVICTABLE, R331 -/
  evictable : Bool := false
  /-- PREFETCH_NEXT, R331 -/
  prefetchNext : Bool := false
  /-- NEAR, R335, reset false -/
  near : Bool := false
  /-- TTL_MS, R331 -/
  ttl : Nat := 0
  /-- MAX_TOKENS, R331 -/
  maxTokens : Nat := 16
  /-- LAST_ACCESS, an FTC, R333 -/
  lastAccess : Nat := 0
  /-- TOKENS_WRITTEN of each layer, R339, reset 0 -/
  written : Store Nat := []
  /-- the slot of page p of layer L, keyed 65,536 L + p, R327 -/
  slots : Store (Option Nat) := []
  /-- requests held by the switch of a move (R348) or by a truncate that waits (R340), in arrival order: the kind of request (a
  KV_CTL command, or 0x10 token write, 0x11 pull, 0x12 attend) and the operation, reset empty -/
  held : List (Nat × Operation) := []
  /-- truncates waiting, R340, reset empty -/
  truncates : List PendingTruncate := []
  /-- a delete waiting for requests in progress, R349, reset none -/
  deleting : Option Req := none
  /-- the move in progress, R348, reset none -/
  move : Option SessionMove := none
  /-- NODE and BASE of a MOVED session, R348 -/
  movedNode : Nat := 0xFFFF
  movedBase : Nat := 0
  deriving DecidableEq, Repr, Inhabited

/-- Freed handles not yet reissued (R328): handles base to base + count - 1 until the model clock reaches `due`. -/
structure Quarantine where
  base   : Nat
  count  : Nat
  due    : Nat
  /-- the tombstone that the handles keep, and its tenant, R328, R329 -/
  tenant : Nat := 0
  state  : SessState := .deleted
  deriving DecidableEq, Repr, Inhabited

/-- A partial result of a range for one head: m, l and o as FP32 words (R345). -/
structure HeadPartial where
  m : Word32
  l : Word32
  o : List Word32
  deriving DecidableEq, Repr, Inhabited

/-- An attend accepted and not completed (R343-R347). -/
structure Attend where
  id        : Nat
  req       : Req
  /-- 1 PUT, or 6 PUT_NOTIFY with its object and increment (R60) -/
  op        : Nat := 1
  sync      : Nat := 0
  amount    : Word64 := 0
  tenant    : Nat
  session   : Word64
  layer     : Nat
  outAddr   : Word64
  first     : Nat
  count     : Nat
  qHeads    : Nat
  outFmt    : Nat
  scale     : Word32
  doneSync  : Word64
  /-- the query widened to FP32, element (h, d) at h x D + d -/
  query     : List Word32
  running   : Bool := false
  /-- it found 1,024 attends running and waited, R344 -/
  waited    : Bool := false
  /-- partial results by range number, R344 -/
  partials  : Store (Option (List HeadPartial)) := []
  /-- number of ranges, R344 -/
  ranges    : Nat := 1
  /-- its folded output and log-sum-exp, once every range is in, R345 -/
  output    : Option (List Byte) := none
  /-- ranges that have stopped, R347 -/
  stopped   : List Nat := []
  /-- the STATUS it will end with, R347 -/
  failed    : Option Status := none
  deriving DecidableEq, Repr, Inhabited

/-- State of chapter 09. -/
structure KvState where
  /-- the 64 stores, R325 -/
  stores : Store KvStore := []
  /-- sessions and tombstones, oldest first, R328, R329 -/
  sessions : List KvSession := []
  /-- handles in quarantine, R328 -/
  quarantine : List Quarantine := []
  /-- attends in order of acceptance, running and queued, R344 -/
  attends : List Attend := []
  /-- number of the next attend (the model's own), reset 0 -/
  nextAttend : Nat := 0
  deriving DecidableEq, Repr, Inhabited

end Sys2Proof.Machine
end

