-- ==== Sys2Proof/Machine/Parts/Links.lean ====
section
/-! DEFINITION. State of chapter 14 (spec/14_links.md): ports, training, flits, replay and lanes. -/

namespace Sys2Proof.Machine

/-- Mode of a port (R455). -/
inductive PortMode where | disabled | opvitik | cxl | pcie
  deriving DecidableEq, Repr, Inhabited

def PortMode.code : PortMode → Nat
  | .disabled => 0 | .opvitik => 1 | .cxl => 2 | .pcie => 3

/-- State of a port (R472, R480). -/
inductive PortState where | disabled | electrical | negotiate | secure | calibrate | active | recovery | lost
  deriving DecidableEq, Repr, Inhabited

def PortState.code : PortState → Nat
  | .disabled => 0 | .electrical => 1 | .negotiate => 2 | .secure => 3 | .calibrate => 4 | .active => 5
  | .recovery => 6 | .lost => 7

/-- A lane (R471, R480). -/
structure Lane where
  /-- LOCK, 1 bit, R480, reset 0 -/
  lock : Bool := false
  /-- IN_USE, 1 bit, R480, reset 0 -/
  inUse : Bool := false
  /-- FAILED, 1 bit, R480, reset 0 -/
  failed : Bool := false
  /-- CORR_1MS, 16 bits, R480, reset 0 -/
  corr : Nat := 0
  deriving DecidableEq, Repr, Inhabited

/-- The CAPS message of a peer (R473). -/
structure Caps where
  genMin   : Nat := 1
  genMax   : Nat := 1
  endpoint : Bool := false
  features : BitVec 16 := 0
  node     : Nat := 0
  port     : Nat := 0
  width    : Nat := 16
  credits  : List Nat := []
  rank     : Nat := 0
  deriving DecidableEq, Repr, Inhabited

/-- A sequenced flit in the replay buffer (R462, R467): its SEQ, FTYPE, VC, credit return and payload. -/
structure SentFlit where
  seq     : Nat
  ftype   : Nat
  vc      : Nat
  crVc    : Nat := 0
  crCells : Nat := 0
  fstart  : Bool := false
  fend    : Bool := false
  payload : List Byte := []
  deriving DecidableEq, Repr, Inhabited

/-- A degrade agreed and waiting for its switch FTC (R471). -/
structure Degrade where
  lanes  : List Nat
  ftc    : Nat
  deriving DecidableEq, Repr, Inhabited

/-- A port (R455-R481). -/
structure Port where
  /-- MODE, 2 bits, R480, reset 0 DISABLED -/
  mode : PortMode := .disabled
  /-- WIDTH8, 1 bit, R480, reset 0 -/
  width8 : Bool := false
  /-- ENABLE, 1 bit, R480, reset 0 -/
  enable : Bool := false
  /-- STATE, 3 bits, R480, reset 0 DISABLED -/
  state : PortState := .disabled
  /-- model clock at which the state was entered, R472 -/
  since : Nat := 0
  /-- model clock at which training starts again (10 ms or 10 µs after a failure), R469, R472, reset none -/
  retrainAt : Option Nat := none
  /-- WIDTH, 5 bits, R480, reset 0 -/
  width : Nat := 0
  /-- GEN, 2 bits, R480, reset 0 -/
  gen : Nat := 0
  /-- LAST_DOWN_STATUS, 8 bits, R480, reset 0x00 -/
  lastDown : Status := .ok
  /-- NODE of PORT_PEER, 16 bits, R480, reset 0xFFFF -/
  peerNode : Nat := 0xFFFF
  /-- PEER_PORT, 6 bits, R480, reset 0 -/
  peerPort : Nat := 0
  /-- PEER_ROLE, 1 bit, R480, reset 0 -/
  peerEndpoint : Bool := false
  /-- RANK of the peer, R473, R474, reset 0 -/
  peerRank : Nat := 0
  /-- OFFER, 6 bits, R480, reset 0x3F -/
  offer : BitVec 6 := 0x3F
  /-- AGREED, 6 bits, R480, reset 0 -/
  agreed : BitVec 6 := 0
  /-- TIMEOUT_NS, 14 bits, R480, reset 1,200 -/
  timeoutNs : Nat := 1200
  /-- MAX_ATTEMPTS, 6 bits, R480, reset 8 -/
  maxAttempts : Nat := 8
  /-- lanes 0-15, R480 -/
  lanes : Store Lane := []
  /-- SEQ of the next sequenced flit to send, 12 bits, R461, reset 0 -/
  nextSeq : Nat := 0
  /-- replay buffer, oldest first, at most 2,048, R467, reset empty -/
  replay : List SentFlit := []
  /-- SEQ of the last sequenced flit accepted, 12 bits, R467, reset 4,095 -/
  lastAccepted : Nat := 4095
  /-- flits accepted and not yet acknowledged, R467, reset 0 -/
  unacked : Nat := 0
  /-- a NAK is out and this flit is awaited, R468, reset none -/
  awaited : Option Nat := none
  /-- model clock at which the NAK is sent again, R469, reset 0 -/
  nakDue : Nat := 0
  /-- attempts counted for the awaited flit, R469, reset 0 -/
  attempts : Nat := 0
  /-- SEQ of the last flit of a replay being sent, R468, R472, reset none -/
  resending : Option Nat := none
  /-- model clock of entries into LOST within 1 s, R553, reset empty -/
  lostAt : List Nat := []
  /-- bytes of the frame being reassembled on each VC, R463, reset empty -/
  reasm : Store (List Byte) := []
  /-- frames received whole and not yet decided at ingress, with the SEQ of their last flit, R463, reset empty -/
  arrived : List (List Byte × Nat) := []
  /-- cells of credit not yet returned to the peer, by channel, R255, R466, reset 0 -/
  creditOwed : Store Nat := []
  /-- degrade waiting for its switch, R471, reset none -/
  degrade : Option Degrade := none
  /-- one-way delay L in units of 0.25 ns, R121, R475, reset 0 -/
  delay : Nat := 0
  /-- asymmetry A in units of 0.25 ns, R475, reset 0 -/
  asym : Int := 0
  /-- TX_FTC of the last TIME flit received and its arrival, R475, reset 0 -/
  timeRx : Nat × Nat := (0, 0)
  /-- requests and snoops sent to the endpoint and not answered, by OPID, R428, reset empty -/
  expect : List (Nat × Req) := []
  deriving DecidableEq, Repr, Inhabited

/-- The port carries traffic: ACTIVE, or RECOVERY while a replay or a degrade is in progress (R472). -/
def Port.up (x : Port) : Bool := decide (x.state = .active) || decide (x.state = .recovery)

/-- State of chapter 14. -/
structure LinksState where
  /-- the 36 ports, R455 -/
  ports : Store Port := []
  deriving DecidableEq, Repr, Inhabited

end Sys2Proof.Machine
end

