-- ==== Sys2Proof/Machine/Parts/Meadow.lean ====
section
/-! DEFINITION. State of chapter 12 (spec/12_vector_search.md): indexes, shards, queries and shard queries. -/

namespace Sys2Proof.Machine

/-- State of an index (R403, R421, R423). -/
inductive IndexState where | disabled | enabled | disabling
  deriving DecidableEq, Repr, Inhabited

def IndexState.code : IndexState → Nat
  | .disabled => 0 | .enabled => 1 | .disabling => 2

/-- A shard of an index (R400, R402). -/
structure Shard where
  /-- DIE, R400 -/
  die : Nat := 0
  /-- PARTITION, R400 -/
  partition : Nat := 0
  /-- ITEM_COUNT, raised by inserts, R400, R417 -/
  itemCount : Nat := 1
  /-- CAPACITY, R400 -/
  capacity : Nat := 1
  /-- ENTRY, R400 -/
  entry : Nat := 0
  /-- SKETCH_OFF, R400 -/
  sketchOff : Nat := 0
  /-- GRAPH_OFF, R400 -/
  graphOff : Nat := 0
  /-- VECTOR_OFF, R400 -/
  vectorOff : Nat := 0
  /-- AUX_OFF, R400 -/
  auxOff : Nat := 0
  /-- SIDE_COUNT, R403, reset 0 at enable -/
  sideCount : Nat := 0
  /-- a merge of the shard is in progress, R420, reset false -/
  merging : Bool := false
  /-- the merge has copied the shard: new queries of it are held until the switch, R420, reset false -/
  switching : Bool := false
  deriving DecidableEq, Repr, Inhabited

/-- A delete that waits for earlier queries of its shard (R418). -/
structure PendingDelete where
  item    : Nat
  req     : Req
  waits   : List Nat
  deriving DecidableEq, Repr, Inhabited

/-- A merge in progress (R420). -/
structure MergeJob where
  req     : Req
  /-- shards not yet switched -/
  left    : List Nat
  made    : Nat := 0
  deriving DecidableEq, Repr, Inhabited

/-- An index (R399-R404, R423, R424). -/
structure VIndex where
  /-- STATE, 2 bits, R423, reset DISABLED -/
  state : IndexState := .disabled
  /-- TENANT, 8 bits, R423, reset 0xFF -/
  tenant : Nat := 0xFF
  /-- LAST_STATUS, 8 bits, R423, reset 0x00 -/
  lastStatus : Status := .ok
  /-- SKETCH_WORDS, R400 -/
  sketchWords : Nat := 1
  /-- VEC_FMT, R400 -/
  vecFmt : Nat := 1
  /-- METRIC, 2 bits, R400, R423, reset 0 -/
  metric : Nat := 0
  /-- MUTATE_MODE SIDE_LIST, 1 bit, R400, R423, reset 0 -/
  sideList : Bool := false
  /-- DIM, R400 -/
  dim : Nat := 16
  /-- DEGREE, R400 -/
  degree : Nat := 4
  /-- PIN_NEAR, 1 bit, R400, R423, reset 0 -/
  pinNear : Bool := false
  /-- SIDE_CAPACITY, R400 -/
  sideCapacity : Nat := 0
  /-- its shards, SHARD_COUNT of them (SHARDS reads 0 at reset), R400, reset empty -/
  shards : List Shard := []
  /-- pages pinned by PIN_NEAR: partition and page, R403, R421, reset empty -/
  pins : List (Nat × Nat) := []
  /-- deletes waiting for earlier queries, R418, reset empty -/
  deletes : List PendingDelete := []
  /-- the merge in progress, R420, reset none -/
  merge : Option MergeJob := none
  /-- a DISABLE waiting for running queries, R421, reset none -/
  disabling : Option Req := none
  /-- index_queries and index_merges, R424, reset 0 -/
  queries : Nat := 0
  merges : Nat := 0
  deriving DecidableEq, Repr, Inhabited

/-- Counts a shard query produces (R408, R413). -/
structure ShardStats where
  hops        : Nat := 0
  hopsOut     : Bool := false
  visitedFull : Bool := false
  nan         : Bool := false
  badEdges    : Nat := 0
  sketches    : Nat := 0
  vectors     : Nat := 0
  /-- lists read ahead and never expanded, R409 -/
  unused      : Nat := 0
  deriving DecidableEq, Repr, Inhabited

/-- A shard query (R407): its counts fixed at acceptance and its result, keys as (distance word, global item). -/
structure ShardQuery where
  shard     : Nat
  itemCount : Nat
  sideCount : Nat
  started   : Bool := false
  /-- held by the switch of a merge, R420 -/
  held      : Bool := false
  /-- the sketch unit of a GRAPH query -/
  unit      : Nat := 0
  /-- sketch units whose admission was closed when a SCAN query started -/
  without   : List Nat := []
  result    : Option (List (Word32 × Nat)) := none
  stats     : ShardStats := {}
  deriving DecidableEq, Repr, Inhabited

/-- A query accepted and not ended (R405-R415). -/
structure VQuery where
  id         : Nat
  index      : Nat
  req        : Req
  outAddr    : Word64
  filterAddr : Word64
  filterBits : Nat
  k          : Nat
  ef         : Nat
  rerank     : Nat
  maxHops    : Nat
  prefetch   : Nat
  scan       : Bool
  invert     : Bool
  noRerank   : Bool
  doneSync   : Word64
  sketch     : List Byte
  /-- the query vector widened to FP32 -/
  vector     : List Word32
  shards     : List ShardQuery
  /-- model clock at which query_timeout_us passes, with the value in force at acceptance (R424) -/
  deadline   : Nat
  /-- why it was served late: CAPACITY when it started later than its acceptance (R407), UNIT_STATE when a merge's switch held it
  (R420) -/
  late       : Reason := .none
  /-- the output formed and not yet visible (R413) -/
  output     : Option (List Byte) := none
  deriving DecidableEq, Repr, Inhabited

/-- State of chapter 12. -/
structure MeadowState where
  /-- the 256 indexes, R399 -/
  indexes : Store VIndex := []
  /-- queries in order of acceptance, R398 -/
  queries : List VQuery := []
  /-- number of the next query (the model's own), reset 0 -/
  nextQuery : Nat := 0
  deriving DecidableEq, Repr, Inhabited

end Sys2Proof.Machine
end

