-- ==== Sys2Proof/Machine/Parts/Mgmt.lean ====
section
/-! DEFINITION. State of chapter 15 (spec/15_management.md) and of the CSR rules of chapter 01: dictionary paths, unlocks,
events, sideband targets, mailboxes, controller buses, flash. -/

namespace Sys2Proof.Machine

/-- A write segment sequence staged on a path (R490). -/
structure Staging where
  index : Nat
  sub   : Nat
  total : Nat
  bytes : List Byte
  /-- model clock at which the staging is discarded (1 s) -/
  due   : Nat
  deriving DecidableEq, Repr, Inhabited

/-- What a dictionary path holds (R490, R492). -/
structure PathState where
  /-- INDEX armed by dict_unlock and the model clock at which the arm lapses, R492, reset none -/
  arm : Option (Nat × Nat) := none
  /-- staging, R490, reset none -/
  staging : Option Staging := none
  deriving DecidableEq, Repr, Inhabited

/-- What the CSR bus keeps for a requester (R510, R512, R514). -/
structure CsrRequester where
  /-- WORD_INDEX of HUB_UNLOCK_INDEX, 22 bits, R510, reset 0 -/
  unlockIndex : Nat := 0
  /-- byte offset of the armed guarded register, R512, reset none -/
  armed : Option Nat := none
  deriving DecidableEq, Repr, Inhabited

/-- A reply kept for a GDP source (R487). -/
structure GdpReply where
  source : DictPath
  seq    : Nat
  reply  : List Byte
  deriving DecidableEq, Repr, Inhabited

/-- An event that waits for the end of its vector's holdoff, with the deliveries its vector had when it was formed (R496, R497). -/
structure Gathered where
  seq      : Nat
  syncAddr : Word64
  syncTc   : Nat
  msix     : BitVec 16
  deriving DecidableEq, Repr, Inhabited

/-- A vector's configuration (R499). -/
structure Vector where
  /-- vector_enable, R499, reset false -/
  enable : Bool := false
  /-- vector_gdp_mask, 4 bits, R499, reset 0 -/
  gdpMask : BitVec 4 := 0
  /-- vector_sync_addr, 64 bits, R499, reset 0 -/
  syncAddr : Word64 := 0
  /-- vector_sync_tc, 4 bits, R499, reset 4 -/
  syncTc : Nat := 4
  /-- vector_msix, 16 bits, R499, reset 0 -/
  msix : BitVec 16 := 0
  /-- vector_smbalert, R499, reset false -/
  smbalert : Bool := false
  /-- vector_holdoff_us, R499, reset 0 -/
  holdoff : Nat := 0
  /-- events gathered while the holdoff runs, with the model clock of its end, R496, reset none -/
  gather : Option (List Gathered × Nat) := none
  deriving DecidableEq, Repr, Inhabited

/-- An event record (R494), with what delivery still owes. -/
structure Event where
  seq    : Nat
  ftc    : Nat
  source : Word32
  vector : Nat
  kind   : Nat
  status : Status
  flags  : BitVec 8
  arg    : Word32
  /-- counts for SMBALERT_N: formed under a vector with vector_smbalert -/
  alert  : Bool := false
  /-- fetched over SMBus or SPI -/
  fetched : Bool := false
  /-- GDP destinations that have not acknowledged it -/
  owed   : List Nat := []
  deriving DecidableEq, Repr, Inhabited

/-- An EVENT frame sent and not acknowledged (R496). -/
structure EventFrame where
  dest  : Nat
  seqs  : List Nat
  sends : Nat := 1
  due   : Nat
  deriving DecidableEq, Repr, Inhabited

/-- The SMBus or SPI target (R502-R506). -/
structure SideTarget where
  /-- a request received and not yet performed, R503, R506, reset none -/
  pending : Option DictRequest := none
  /-- the response not yet read, R503, R506, reset none -/
  response : Option DictResponse := none
  /-- FRAME_ERR, 1 bit, R505, reset 0 -/
  frameErr : Bool := false
  deriving DecidableEq, Repr, Inhabited

/-- A dictionary mailbox (R515). -/
structure Mailbox where
  /-- INDEX, 16 bits, R515, reset 0 -/
  index : Nat := 0
  /-- SUB, 8 bits, R515, reset 0 -/
  sub : Nat := 0
  /-- OP, 2 bits, R515, reset 0 -/
  op : Nat := 0
  /-- BUSY, 1 bit, R515, reset 0 -/
  busy : Bool := false
  /-- STATUS, 8 bits, R515, reset 0x00 -/
  status : Nat := 0
  /-- TYPE, 8 bits, R515, reset 0 -/
  type : Nat := 0
  /-- LENGTH of MGMT_MBX_STATUS, 16 bits, R515, reset 0 -/
  length : Nat := 0
  /-- OFFSET, 16 bits, R515, reset 0 -/
  offset : Nat := 0
  /-- TOTAL, 16 bits, R515, reset 0 -/
  total : Nat := 0
  /-- LENGTH of MGMT_MBX_WLEN, 7 bits, R515, reset 0 -/
  wlen : Nat := 0
  /-- DATA_0 to DATA_15, 32 bits each, R515, reset 0 -/
  data : Store Word32 := []
  deriving DecidableEq, Repr, Inhabited

/-- State of a controller bus (R509, R515). -/
inductive BusState where | idle | active | recovering | failed
  deriving DecidableEq, Repr, Inhabited

def BusState.code : BusState → Nat
  | .idle => 0 | .active => 1 | .recovering => 2 | .failed => 3

/-- A controller bus (R507-R509, R515). -/
structure Bus where
  /-- STATE, 2 bits, R515, reset IDLE -/
  state : BusState := .idle
  /-- RECOVERIES, 16 bits, R515, reset 0 -/
  recoveries : Nat := 0
  /-- recovery attempts made, R509, reset 0 -/
  attempt : Nat := 0
  /-- model clock of the next attempt, or of the running transaction's START, R508, R509, reset 0 -/
  since : Nat := 0
  deriving DecidableEq, Repr, Inhabited

/-- A bus 4 sensor entry (R507, R516). -/
structure Sensor where
  /-- sensor_target, 16 bits, R516, reset 0 -/
  target : BitVec 16 := 0
  /-- sensor_format, 16 bits, R516, reset 0 -/
  format : BitVec 16 := 0
  /-- sensor_value, 16 bits, R516, reset 0 -/
  value : Nat := 0
  /-- sensor_status, 8 bits, R516, reset 0x00 -/
  status : Status := .ok
  /-- model clock of its next read, R507, reset 0 -/
  due : Nat := 0
  deriving DecidableEq, Repr, Inhabited

/-- A firmware bank's write position (R491). -/
structure FlashBank where
  /-- end of the previous write, R491, reset 0 -/
  next : Nat := 0
  /-- an erase or write is in progress, R491, reset false -/
  busy : Bool := false
  /-- the requester of that write and the reply it gets once the data is in flash, R491, reset none -/
  reply : Option (DictPath × List Byte) := none
  deriving DecidableEq, Repr, Inhabited

/-- State of chapter 15. -/
structure MgmtState where
  /-- dictionary paths, R492 -/
  paths : List (DictPath × PathState) := []
  /-- CSR requesters 0-67, R493, R512 -/
  requesters : Store CsrRequester := []
  /-- _LO words staged by writer and register address, R514: requester x 2^26 + address -/
  loStaged : Store (Option Word32) := []
  /-- last reply for each GDP source, R487 -/
  replies : List GdpReply := []
  /-- frames performed in the current second by source, with the second's number, R487 -/
  gdpRate : List (DictPath × Nat × Nat) := []
  /-- event_seq, 64 bits, R499, reset 0 -/
  eventSeq : Nat := 0
  /-- the 4,096 latest events, oldest first, R496 -/
  eventLog : List Event := []
  /-- LOST goes into the next record, R496, reset false -/
  eventLost : Bool := false
  /-- vectors 0-1,023, R499 -/
  vectors : Store Vector := []
  /-- EVENT frames not acknowledged, R496 -/
  eventFrames : List EventFrame := []
  /-- a snapshot waits for its tick boundary, R501, reset none -/
  snapshotDue : Option Nat := none
  /-- the SMBus target, R502 -/
  smb : SideTarget := {}
  /-- the SPI target, R504 -/
  spi : SideTarget := {}
  /-- mailboxes 0-3, R515 -/
  mailboxes : Store Mailbox := []
  /-- controller buses 0-4, R507 -/
  buses : Store Bus := []
  /-- bus 4 sensor entries 0-31, R507 -/
  sensors : Store Sensor := []
  /-- DIMMs whose hub reads too hot or cannot be read, by far channel x 2 + dimm, R526, reset false -/
  dimmHot : Store Bool := []
  /-- bytes of the two banks of the boot flash, keyed 2^25 x bank + offset, R449, R491 -/
  flash : Store Byte := []
  /-- write positions of banks 0 and 1, R491 -/
  flashBanks : Store FlashBank := []
  /-- neighbours learnt by Neighbor Discovery: IPv6 address and MAC, R482 -/
  neighbours : List (List Byte × Nat) := []
  deriving DecidableEq, Repr, Inhabited

end Sys2Proof.Machine
end

