-- ==== Sys2Proof/Machine/Parts/Plans.lean ====
section
/-! DEFINITION. State of chapter 03 (spec/03_run_plans.md): plan slots, their images, tokens and halts, and fabric time. -/

namespace Sys2Proof.Machine

/-- A claim record (R105, R106). -/
structure Claim where
  kind   : Nat
  flags  : Nat
  first  : Nat
  amount : Nat
  deriving DecidableEq, Repr, Inhabited

/-- A tick table entry (R113). -/
structure TickEntry where
  effect    : Nat
  kind      : Nat
  depart    : Nat
  crosses   : Bool
  multicast : Bool
  arg0      : Nat
  arg1      : Nat
  deriving DecidableEq, Repr, Inhabited

/-- A LINK_PLAN entry (R104): a port that carries plan traffic and the member reached through it. -/
structure LinkPlanEntry where
  port   : Nat
  member : Nat
  deriving DecidableEq, Repr, Inhabited

/-- A MEMBERS entry (R104). -/
structure Member where
  node          : Nat
  endpointPorts : Bool
  deriving DecidableEq, Repr, Inhabited

/-- The header of a loaded image (R103) and its sections as the loader holds them. -/
structure PlanImage where
  planId        : Word64
  clockCode     : Nat
  imageBytes    : Nat
  memberCount   : Nat
  memberIndex   : Nat
  tenant        : Nat
  rotationTicks : Nat
  rotationCount : Nat
  slipHorizon   : Nat
  slipBudget    : Nat
  readyLead     : Nat
  replayAllow   : Nat
  seed          : Word64
  claims        : List Claim
  table         : List TickEntry
  layout        : List LayoutDesc
  linkPlan      : List LinkPlanEntry
  members       : List Member
  /-- gate entries for the claimed entries: port, entry, low and high word (R274) -/
  gates         : List (Nat × Nat × Nat × Nat)
  /-- jobs and their records (R192) -/
  jobs          : List (Nat × List Byte)
  /-- layer records of 16 bytes (R310) -/
  layers        : List (List Byte)
  /-- pool offset and length of the PROGRAM section; length 0 when there is none -/
  progBase      : Nat := 0
  progLen       : Nat := 0
  deriving DecidableEq, Repr, Inhabited

/-- A command in progress on a slot (R143, PLN_SLOT_STATUS.BUSY). -/
inductive PlanCmd where | load | arm | resume
  deriving DecidableEq, Repr, Inhabited

/-- An exchange that has departed and not taken effect (R116, R139): its tick-table index, its Rotation and the bytes. -/
structure Transit where
  entry : Nat
  rot   : Nat
  data  : List Byte
  deriving DecidableEq, Repr, Inhabited

/-- A plan slot (R101, R111, R116). -/
structure PlanSlot where
  /-- plan_state, R111, reset EMPTY -/
  state : PlanState := .empty
  /-- the image and its claims, R103-R106, reset none -/
  image : Option PlanImage := none
  /-- the command in progress, R143, reset none -/
  busy : Option PlanCmd := none
  /-- drained, 1 bit, R110, reset false -/
  drained : Bool := false
  /-- claimed clusters whose dynamic items still run, R110, reset empty -/
  undrained : List Nat := []
  /-- the start FTC of the arm in force, R124, reset 0 -/
  startFtc : Nat := 0
  /-- PLAN_TICK, 64 bits, R116, reset 0 -/
  planTick : Nat := 0
  /-- `remaining` of R116, reset 0 -/
  remaining : Nat := 0
  /-- `pending` of R116, ordered by effective tick, reset empty -/
  pending : List SlipToken := []
  /-- effective ticks of the quantum that runs now and those merged into it, R133, reset none -/
  activeTick : Option Nat := none
  /-- quanta_this_rotation, 16 bits, R116, reset 0 -/
  quanta : Nat := 0
  /-- halts known, R136, reset empty -/
  halts : List HaltToken := []
  /-- halt_cause, 4 bits, R138, reset NONE -/
  haltCause : HaltCause := .none
  /-- resumable, 1 bit, R138, reset false -/
  resumable : Bool := false
  /-- Rotation at whose first plan tick a boundary halt took effect, R140, reset 0 -/
  haltRotation : Nat := 0
  /-- tokens seen, by ORIGIN_MEMBER and SEQ, R131, reset empty -/
  seen : List (Nat × Nat) := []
  /-- D of R128, in ticks, reset 0 -/
  lateness : Nat := 0
  /-- effective ticks of tokens this sequencer issued and not yet ended, R128, reset empty -/
  tokensOpen : List Nat := []
  /-- fabric tick of the last token issued here, R128 (at most one per tick), reset none -/
  lastTokenTick : Option Nat := none
  /-- SEQ of the next token of this member, 16 bits, R130, reset 0 -/
  tokenSeq : Nat := 0
  /-- fabric tick of the last step of R116, reset 0 -/
  lastTick : Nat := 0
  /-- the island and cause of the largest lateness reported, R128, R130, reset none -/
  lateOrigin : Word32 := 0xFFFFFFFF
  lateCause : SlipCause := .throttle
  /-- exchanges departed and not yet in effect, R116, reset empty -/
  transit : List Transit := []
  /-- arm replies received by the coordinator: member index and STATUS, R126, reset empty -/
  armReplies : List (Nat × Status) := []
  /-- the arm in force is a resume, R140, reset false -/
  armResume : Bool := false
  /-- LAST_STATUS of PLN_SLOT_STATUS, 8 bits, R145, reset 0x00 -/
  lastStatus : Status := .ok
  /-- Floret programs of the image copied at load, R174, reset empty -/
  program : List Byte := []
  deriving DecidableEq, Repr, Inhabited

/-- What a package knows of a port as a possible time parent (R121, R122). -/
structure TimePort where
  /-- timestamp exchange of this interval seen -/
  heard : Bool := false
  deriving DecidableEq, Repr, Inhabited

/-- State of chapter 03. -/
structure PlansState where
  /-- the 8 plan slots, R101 -/
  slots : Store PlanSlot := []
  /-- time_lock_state, 2 bits, R122, reset UNLOCKED -/
  lock : LockState := .unlocked
  /-- the FTC is still to be stepped to the parent's value, R122, reset false -/
  stepDue : Bool := false
  /-- consecutive exchanges with the offset within ±1 ns, R122, reset 0 -/
  goodRun : Nat := 0
  /-- consecutive exchanges with the offset beyond ±1 ns, R122, reset 0 -/
  badRun : Nat := 0
  /-- consecutive exchanges missed, R122, reset 0 -/
  missRun : Nat := 0
  /-- the model clock at which HOLDOVER was entered, R122, reset 0 -/
  holdoverAt : Nat := 0
  /-- ACQUIRING has been entered once since cold reset, R122, reset false -/
  acquiredOnce : Bool := false
  /-- timing of each Opvitik port, R121, reset nothing heard -/
  ports : Store TimePort := []
  deriving DecidableEq, Repr, Inhabited

end Sys2Proof.Machine
end

