-- ==== Sys2Proof/Machine/Parts/Pool.lean ====
section
/-! DEFINITION. State of chapter 08 (spec/08_pool_memory.md): channels, partitions, pages, moves and poison marks. The bytes of
the pool are the state's `mem`, keyed by offset in REGION 0x0: a move changes a page's frame and never its bytes. -/

namespace Sys2Proof.Machine

/-- STATE of a memory channel (R294). -/
inductive ChanState where | online | clearing | failed | empty
  deriving DecidableEq, Repr, Inhabited

def ChanState.code : ChanState → Nat
  | .online => 0 | .clearing => 1 | .failed => 2 | .empty => 3

/-- A memory channel (R292-R294). -/
structure Channel where
  /-- OWNER, 8 bits, R293, reset 0xFF for channel 0 and 0xFE otherwise -/
  owner : Nat := 0xFE
  /-- STATE, 2 bits, R294, reset CLEARING -/
  state : ChanState := .clearing
  /-- clean free frames no partition reserves (MEM_CHAN_FREE), R321, reset 0 -/
  free : Nat := 0
  /-- a restore is retraining it, R319, reset false -/
  retraining : Bool := false
  /-- model clock of its last completed request, R318, reset 0 -/
  servedAt : Nat := 0
  /-- START_FTC of the clear that runs, R434, reset 0 -/
  clearStart : Nat := 0
  deriving DecidableEq, Repr, Inhabited

/-- STATE of a partition (R297, R301). -/
inductive PartState where | free | bound | clearing
  deriving DecidableEq, Repr, Inhabited

def PartState.code : PartState → Nat
  | .free => 0 | .bound => 1 | .clearing => 2

/-- A partition (R297). -/
structure Partition where
  /-- STATE, 2 bits, R298, reset FREE -/
  state : PartState := .free
  /-- TENANT, 8 bits, R297, reset 0xFF -/
  tenant : Nat := 0xFF
  /-- HOST_NODE, 16 bits, R297, reset 0xFFFF -/
  hostNode : Nat := 0xFFFF
  /-- BASE, 44 bits, R297, reset 0 -/
  base : Nat := 0
  /-- SIZE in pages, 28 bits, R297, reset 0 -/
  size : Nat := 0
  /-- NEAR_PAGES, 23 bits, R297, reset 0 -/
  nearPages : Nat := 0
  /-- FAR_PAGES, 26 bits, R297, reset 0 -/
  farPages : Nat := 0
  /-- NEAR_FIRST, 8 bits, R297, reset 0 -/
  nearFirst : Nat := 0
  /-- NEAR_COUNT, 9 bits, R297, reset 0 -/
  nearCount : Nat := 0
  /-- FAR_FIRST, 4 bits, R297, reset 0 -/
  farFirst : Nat := 0
  /-- FAR_COUNT, 5 bits, R297, reset 0 -/
  farCount : Nat := 0
  /-- COUNTER_MIGRATION, 1 bit, R309, reset 1 -/
  counterMigration : Bool := true
  /-- layer table address, 64 bits, R310, reset 0 -/
  layerAddr : Word64 := 0
  /-- layer_count, 13 bits, R310, reset 0 -/
  layerCount : Nat := 0
  /-- LAST_STATUS, 8 bits, R321, reset 0x00 -/
  lastStatus : Status := .ok
  /-- the plan slot that claims it (STATIC), R303, reset none -/
  staticBy : Option Nat := none
  /-- free frames of the reservation per channel, R298, R305 -/
  freeFrames : Store Nat := []
  /-- all frames reserved per channel, R298 -/
  reserved : Store Nat := []
  /-- the page map is written, R299, reset false -/
  mapWritten : Bool := false
  /-- frames still to be zeroed per channel (CLEAR_REMAIN is their sum), R301 -/
  toClear : Store Nat := []
  /-- START_FTC of the clear that runs, R434, reset 0 -/
  clearStart : Nat := 0
  /-- sweep pointer of R309, reset 0 -/
  sweep : Nat := 0
  /-- page_select, 32 bits, R322, reset 0 -/
  pageSelect : Nat := 0
  /-- sealed: MODEL_ID of its key and, when PLAN_BOUND, its PLAN_DIGEST, R448, reset none -/
  sealed : Option (Word64 × Option (List Byte)) := none
  deriving DecidableEq, Repr, Inhabited

/-- What asked for a move (R305, R311, R313, R315): a hint or a layer prefetch, with the TIER_HINT that waits for its moves to end,
the access count, a KV request or a vector query by its number. -/
inductive MoveCause where
  | hint (wait : Option Req) | counter | layer (plan : Bool) (l : Nat) (wait : Option Req) | kv (id : Nat) | meadow (id : Nat)
  deriving DecidableEq, Repr, Inhabited

/-- A page's map entry (R304), present for every page of a bound partition. -/
structure PageRec where
  channel  : Nat := 0
  near     : Bool := true
  pinned   : Bool := false
  /-- RELEASED, with the order of release (R309 takes the oldest first) -/
  released : Option Nat := none
  /-- FAILED: its frame lies on a failed channel -/
  failed   : Bool := false
  count    : Nat := 0
  stamp    : Nat := 0
  /-- it has been queued once for promotion by its access count -/
  queued   : Bool := false
  /-- the speculative prefetch that brought it near, R315 -/
  by_      : Option MoveCause := none
  deriving DecidableEq, Repr, Inhabited

/-- A queued move of a page (R305, R311, R313). -/
structure QueuedMove where
  part   : Nat
  page   : Nat
  toNear : Bool
  cause  : MoveCause
  deriving DecidableEq, Repr, Inhabited

/-- A request held at the hub while its page moves or its map is written (R299, R305). -/
structure HeldRequest where
  oper  : Operation
  since : Nat
  /-- model clock at which migration_hold_limit_us passes, with the value in force when the hold began (R306, R323) -/
  due   : Nat := 0
  defer : Reason := .none
  deriving DecidableEq, Repr, Inhabited

/-- A move in progress (R305). -/
structure PageMove where
  part    : Nat
  page    : Nat
  toNear  : Bool
  dest    : Nat
  cause   : MoveCause
  /-- the page whose promotion this demotion makes room for, R305 -/
  forPage : Option Nat := none
  held    : List HeldRequest := []
  deriving DecidableEq, Repr, Inhabited

/-- A TIER_HINT with WAIT whose moves have not all ended (R313). -/
structure HintWait where
  req    : Req
  result : Nat
  detail : Nat := 0
  /-- partition, page and direction of the moves under way that its command was merged into, R307 -/
  merged : List (Nat × Nat × Bool) := []
  deriving DecidableEq, Repr, Inhabited

/-- State of chapter 08. -/
structure PoolState where
  /-- the 272 channels, R292 -/
  channels : Store Channel := []
  /-- the 512 partitions, R297 -/
  parts : Store Partition := []
  /-- page map entries, keyed 2^28 n + p, R304 -/
  pages : Store (Option PageRec) := []
  /-- poisoned 64-byte blocks, by REGION 0x0 offset div 64, R317 -/
  poison : Store Bool := []
  /-- moves in progress, R305 -/
  moves : List PageMove := []
  /-- queued moves in order, R305 -/
  queued : List QueuedMove := []
  /-- hints that wait for their moves, R313 -/
  hintWaits : List HintWait := []
  /-- requests held until a partition's map is written, keyed by partition, R299 -/
  mapHeld : Store (List HeldRequest) := []
  /-- number of the next release (for the oldest RELEASED page), R309 -/
  nextRelease : Nat := 0
  /-- init_clear_done, 1 bit, R323, reset false -/
  initDone : Bool := false
  deriving DecidableEq, Repr, Inhabited

end Sys2Proof.Machine
end

