-- ==== Sys2Proof/Machine/Parts/Power.lean ====
section
/-! DEFINITION. State of chapters 16 and 18 (spec/16_power_clocks_reset.md, spec/18_package_electrical.md) and of the unit tree
of chapter 01: the input, throttles, clocks, resets, boot, fuses, the watchdog, units and their commands. -/

namespace Sys2Proof.Machine

/-- Where the package stands between input and running (R518, R524-R526, R541, R542, R545, R528, R591). -/
inductive PackageState where
  | off | softStart | booting (step : Nat) | running | brownout | thermalOff | coldResetHeld | bootHold | fuseHold
  | referenceHold
  deriving DecidableEq, Repr, Inhabited

/-- The sag throttle (R522, R523). -/
inductive SagState where | none | inForce | releasing (step : Nat)
  deriving DecidableEq, Repr, Inhabited

/-- Causes of a reset (R533). -/
inductive ResetCause where
  | powerOn | coldPin | commandCold | thermalTrip | brownoutLoss | commandWarm | unitPackage | brownoutRecovery | watchdog
  | referenceFail
  deriving DecidableEq, Repr, Inhabited

def ResetCause.code : ResetCause → Nat
  | .powerOn => 1 | .coldPin => 2 | .commandCold => 3 | .thermalTrip => 4 | .brownoutLoss => 5 | .commandWarm => 0x11
  | .unitPackage => 0x12 | .brownoutRecovery => 0x13 | .watchdog => 0x14 | .referenceFail => 0x15

/-- The standby record of a brownout or trip, from which its fault record is formed later (R524, R553). -/
structure StandbyRecord where
  ftc  : Nat
  trip : Bool
  /-- lowest sample in mV, or the junction in 1/16 °C -/
  arg  : Nat
  deriving DecidableEq, Repr, Inhabited

/-- Unit commands (R34). -/
inductive UnitCmd where | quiesce | resume | reset | powerDown | powerUp | updateBegin | updateEnd
  deriving DecidableEq, Repr, Inhabited

def UnitCmd.code : UnitCmd → Nat
  | .quiesce => 1 | .resume => 2 | .reset => 3 | .powerDown => 4 | .powerUp => 5 | .updateBegin => 6 | .updateEnd => 7

/-- A unit command that has not finished (R535, R596). `units` are the dictionary indices that follow it. -/
structure UnitCommand where
  target : Nat
  cmd    : UnitCmd
  units  : List Nat
  /-- model clock at which quiesce_timeout_us passes; none for other commands -/
  deadline : Option Nat := none
  /-- the quiesce has timed out and its outcome has been given -/
  timedOut : Bool := false
  /-- a containment: the unit ends in FAULTED (R556) -/
  contain : Bool := false
  deriving DecidableEq, Repr, Inhabited

/-- A unit (R34), by its dictionary index in this package. -/
structure UnitRec where
  /-- unit_state, R34, reset ACTIVE -/
  state : UnitState := .active
  /-- unit_epoch, 16 bits, R34, reset 0 -/
  epoch : Nat := 0
  deriving DecidableEq, Repr, Inhabited

/-- A fuse word's class (R544). -/
inductive FuseClass where | clean | marginal | unresolved
  deriving DecidableEq, Repr, Inhabited

/-- State of chapters 16 and 18 and the unit tree. -/
structure PowerState where
  /-- where the package stands, R518-R591, reset running -/
  package : PackageState := .running
  /-- model clock at which that state began, reset 0 -/
  since : Nat := 0
  /-- MILLIVOLTS, 16 bits, R547, reset 0 -/
  inputMv : Nat := 0
  /-- CENTIAMPS, 16 bits, R547, reset 0 -/
  inputCa : Nat := 0
  /-- input power in W, 1 µs mean, R548, reset 0 -/
  inputW : Nat := 0
  /-- the samples of the last 2 µs, newest first, at most 20, R521, reset empty -/
  samples : List Nat := []
  /-- consecutive samples below 44 V, R521, reset 0 -/
  lowRun : Nat := 0
  /-- consecutive samples below 40 V, R524, reset 0 -/
  brownRun : Nat := 0
  /-- consecutive samples with SUPPLY_WARN_N low, R521, reset 0 -/
  warnRun : Nat := 0
  /-- SUPPLY_WARN, 1 bit (the pin is low), R547, R586, reset 0 -/
  supplyWarn : Bool := false
  /-- COLD_RESET_N is low, R586, reset false -/
  coldResetLow : Bool := false
  /-- the sag throttle, R522, reset none -/
  sag : SagState := .none
  /-- model clock from which the release conditions of R523 have held, reset none -/
  calmSince : Option Nat := none
  /-- model clock of the next release step, R523, reset 0 -/
  releaseDue : Nat := 0
  /-- model clock of an injected SAG's end, R559, reset none -/
  injectedSag : Option Nat := none
  /-- steps of R520 taken and not undone, oldest first: the step number of each, reset empty -/
  powerSteps : List Nat := []
  /-- model clock of the last R520 step taken or undone, reset 0 -/
  powerAt : Nat := 0
  /-- consecutive µs above the limit, and 5 % or more below it, R520, reset 0 -/
  overRun : Nat := 0
  underRun : Nat := 0
  /-- power_limit_w in force: a write during a throttle waits for its release, R520, R527, reset 3,000 -/
  limitW : Nat := 3000
  /-- the thermal throttle is in force, R526, reset false -/
  thermal : Bool := false
  /-- model clock of the last thermal step, R526, reset 0 -/
  thermalAt : Nat := 0
  /-- JMAX, 12 bits, R547, reset 0 -/
  jmax : Nat := 0
  /-- PWR_EVENTS, 6 bits, R547, reset 0 -/
  events : BitVec 6 := 0
  /-- steps of 100 MHz by the thermal throttle, on dynamic and on static clusters, R526, reset 0 -/
  thermalDyn : Nat := 0
  thermalStatic : Nat := 0
  /-- clock set for each of the 256 clusters, in MHz, before throttles and power steps, R530, reset 1,800 -/
  clocks : Store Nat := []
  /-- rail_mv of the 16 quadrants, 16 bits, R549, reset 0 -/
  rails : Store Nat := []
  /-- DIMM supply is on, R579, reset true -/
  dimmSupply : Bool := true
  /-- DIMM 12 V feed is at or above 11.0 V, R580, reset true -/
  feedGood : Bool := true
  /-- DIMMs switched off, by far channel x 2 + dimm, R579, reset false -/
  dimmOff : Store Bool := []
  /-- a commanded reset waits until windows, streams and indexes are disabled, R531, reset none -/
  resetDue : Option ResetCause := none
  /-- the cause that the next start after power-up will have, R525, R526, R531, reset POWER_ON -/
  startCause : ResetCause := .powerOn
  /-- the last reset was warm, R547, reset false -/
  lastWarm : Bool := false
  /-- cause of the last reset, R533, reset POWER_ON -/
  cause : ResetCause := .powerOn
  /-- the standby brownout or trip record, R524, reset none -/
  standby : Option StandbyRecord := none
  /-- the standby missing-part mask of a watchdog reset with its FTC, R534, reset none -/
  standbyWatchdog : Option (Nat × Nat) := none
  /-- heartbeats since the last restart: [4:0] hub sections 0-4, [5] main loop, R534, reset 0 -/
  heartbeats : BitVec 6 := 0
  /-- model clock of the last watchdog restart, R534, reset 0 -/
  watchdogAt : Nat := 0
  /-- watchdog_timeout_ms in force (a change applies from the next restart), R534, reset 2,000 -/
  watchdogMs : Nat := 2000
  /-- the half-period warning has been given, R534, reset false -/
  warned : Bool := false
  /-- fuse classes of the boot snapshot by word, R544, reset clean -/
  fuses : Store FuseClass := []
  /-- words found marginal or mismatched since, R546, reset empty -/
  fuseMarginal : List Nat := []
  /-- model clock of the last re-read, R546, reset 0 -/
  rereadAt : Nat := 0
  /-- fw_svn, the fused SVN of the boot snapshot, R453, R543, reset 0 -/
  fusedSvn : Nat := 0
  /-- boot_bank, R551, reset 0 -/
  bootBank : Nat := 0
  /-- units by dictionary index, R34 -/
  units : Store UnitRec := []
  /-- unit commands not finished, R36 -/
  commands : List UnitCommand := []
  /-- containments that wait for a plan's halt: unit index or port, with the record's slot, R557 -/
  containWaits : List (Nat × Bool × Nat) := []
  deriving DecidableEq, Repr, Inhabited

end Sys2Proof.Machine
end

