-- ==== Sys2Proof/Machine/Parts/Remote.lean ====
section
/-! DEFINITION. State of chapter 02 (spec/02_remote_memory_model.md): queue contexts, sync objects, waits, the wait-graph
dump, outstanding operations and posted-failure records, and of the unit tree of chapter 01 (spec/01_architecture.md). -/

namespace Sys2Proof.Machine

/-- An item of a queue that has finished but whose completion entry is not yet written (R84). -/
structure FinishedItem where
  item   : Nat
  status : Status
  disp   : Disp
  reason : Reason
  load   : Nat
  result : Word64
  tag    : Word32
  op     : Nat
  detail : Nat := 0
  /-- TC of its entry (R595) -/
  tc     : Nat := 1
  injected : Bool := false
  /-- it reserved a slot and writes an entry (R83) -/
  entry  : Bool := true
  deriving DecidableEq, Repr, Inhabited

/-- A started item of a queue (R84): its number, operation, class, TAG, whether it expects an entry, and the unit child that
runs it (R37), with `returned` true once a child's reset has put it back (R37). -/
structure StartedItem where
  item     : Nat
  op       : Nat := 0
  tc       : Nat := 4
  tag      : Word32 := 0
  posted   : Bool := false
  target   : Word64 := 0
  child    : Option Nat := none
  deriving DecidableEq, Repr, Inhabited

/-- The context of a hardware queue (R75), spec/02_remote_memory_model.md. -/
structure QueueCtx where
  /-- RING_BASE, 64 bits, R75, reset 0 -/
  ringBase : Word64 := 0
  /-- RING_LOG2, 5 bits, R75, reset 0 -/
  ringLog2 : Nat := 0
  /-- KIND, 2 bits, R75, reset 0 SUBMIT -/
  kind : QueueKind := .submit
  /-- STATE, 2 bits, R75, reset 0 DISABLED -/
  state : QueueState := .disabled
  /-- EPOCH, 8 bits, R75, reset 0 -/
  epoch : BitVec 8 := 0
  /-- PINNED, 1 bit, R75, reset 0 -/
  pinned : Bool := false
  /-- CACHED, 1 bit, R75, reset 0 -/
  cached : Bool := false
  /-- OWNER_TENANT, 8 bits, R75, reset 0xFF -/
  owner : Nat := 0xFF
  /-- CQ, 19 bits, R75, reset 0 -/
  cq : Nat := 0
  /-- CQ_NONE, 1 bit, R75, reset 1 -/
  cqNone : Bool := true
  /-- COMMIT, 32 bits, R75, reset 0 -/
  commit : Word32 := 0
  /-- HEAD, 32 bits, R75, reset 0 -/
  head : Word32 := 0
  /-- DONE, 32 bits, R75, reset 0 -/
  done : Word32 := 0
  /-- MAX_INFLIGHT, 13 bits, R75, reset 64 -/
  maxInflight : Nat := 64
  /-- STALE_COMMITS, 32 bits, R75, reset 0 -/
  staleCommits : Word32 := 0
  /-- CHECK_FAILS, 32 bits, R75, reset 0 -/
  checkFails : Word32 := 0
  /-- FIRST_FAIL_SEQ, 32 bits, R75, reset 0 -/
  firstFailSeq : Word32 := 0
  /-- STICKY_STATUS, 8 bits, R75, reset 0x00 -/
  sticky : Status := .ok
  /-- POSTED_ISSUED, 32 bits, R75, reset 0 -/
  postedIssued : Word32 := 0
  /-- POSTED_RETIRED, 32 bits, R75, reset 0 -/
  postedRetired : Word32 := 0
  /-- POSTED_LOST, 32 bits, R75, reset 0 -/
  postedLost : Word32 := 0
  /-- NO_CQ_REFUSALS, 32 bits, R75, reset 0 -/
  noCqRefusals : Word32 := 0
  /-- a disable is draining the items in flight, R78, reset false -/
  draining : Bool := false
  /-- the COMMIT that stood at the flush (R87 step 4), reset none -/
  flushEnd : Option Word32 := none
  /-- items started and not finished, R84, reset empty -/
  started : List StartedItem := []
  /-- items finished whose entry is not written, R84, reset empty -/
  finished : List FinishedItem := []
  /-- completion slots reserved at start by items of the queues naming this COMPLETION queue (R83), reset 0 -/
  reserved : Nat := 0
  /-- items a child's reset has returned to the head of the queue, with the number of resets each has met (R37), reset empty -/
  returned : List Nat := []
  deriving DecidableEq, Repr, Inhabited

/-- A sync object (R93), spec/02_remote_memory_model.md. -/
structure SyncObj where
  /-- VALUE, 64 bits, R93, reset 0 -/
  value : Word64 := 0
  /-- TIMEOUT_US, 24 bits, R93, reset 0 -/
  timeoutUs : Nat := 0
  /-- OWNER_TENANT, 8 bits, R93, reset 0xFF -/
  owner : Nat := 0xFF
  /-- PRODUCER0, 32 bits, R93, reset 0xFFFF_FFFF -/
  producer0 : Word32 := 0xFFFFFFFF
  /-- PRODUCER1, 32 bits, R93, reset 0xFFFF_FFFF -/
  producer1 : Word32 := 0xFFFFFFFF
  /-- LAST_NOTIFIER, 32 bits, R93, reset 0xFFFF_FFFF -/
  lastNotifier : Word32 := 0xFFFFFFFF
  /-- LAST_CHANGE_FTC, 64 bits, R93, reset 0 -/
  lastChange : Word64 := 0
  /-- CHANGE_COUNT, 64 bits, R93, reset 0 -/
  changeCount : Word64 := 0
  /-- claimed by a plan, so static (R50), reset none -/
  claimedBy : Option Nat := none
  deriving DecidableEq, Repr, Inhabited

/-- A pending wait (R94-R96). -/
structure Wait where
  id       : Nat
  obj      : Nat
  cond     : WaitCond
  operand  : Word64
  req      : Req
  since    : Word64
  /-- the model clock's time at which it times out (R96) -/
  deadline : Nat
  deriving DecidableEq, Repr, Inhabited

/-- A wait-graph dump being written, or the latest one (R98). -/
structure WaitDump where
  number  : Nat
  waits   : List Nat
  /-- its fault event is still to come (complete within 1 ms) -/
  writing : Bool := false
  started : Nat
  deriving DecidableEq, Repr, Inhabited

/-- An operation an issuer of this package has issued and whose outcome has not reached it (R64, R88, R90). -/
structure OutOp where
  issuer   : Issuer
  op       : Nat
  /-- its number: item number of a queue, tag of a Floret, posted sequence of a posted operation (R88) -/
  id       : Nat
  posted   : Bool
  target   : Word64
  tc       : Nat
  issuedAt : Nat := 0
  /-- the posted lifetime in force at issue, in the model's clock units (R90, R100) -/
  lifetime : Nat := 0
  /-- unit_epoch of the issuer carried in the OPID (R538) -/
  epoch    : Nat := 0
  /-- LOCAL and TAG of the descriptor (R81) -/
  localA   : Word64 := 0
  tag      : Word32 := 0
  deriving DecidableEq, Repr, Inhabited

/-- The posted counts the first DZM keeps for an endpoint's source NODE (R88). -/
structure EndpointPosted where
  issued   : Word32 := 0
  retired  : Word32 := 0
  sticky   : Status := .ok
  firstSeq : Word32 := 0
  deriving DecidableEq, Repr, Inhabited

/-- A FENCE that waits for the issuer's earlier operations (R64). The issuer's later operations do not start before it completes,
so it waits until none that counts is left. -/
structure PendingFence where
  req    : Req
  /-- MOD[0]: only operations to the NODE of TARGET count -/
  nodeOnly : Bool
  deriving DecidableEq, Repr, Inhabited

/-- A NOTIFY that waits for the issuer's earlier operations within its scope (R60): those still open, as (posted, number). -/
structure PendingNotify where
  req     : Req
  /-- 5 NOTIFY, 6 the notify part of a PUT_NOTIFY -/
  op      : Nat := 5
  obj     : Nat
  amount  : Word64
  waits   : List (Bool × Nat)
  deriving DecidableEq, Repr, Inhabited

/-- A counter read above depth 3 in progress at this representative (R40, R28). -/
structure AggRead where
  id       : Nat
  /-- the path that reads -/
  reader   : DictPath
  index    : Nat
  sub      : Nat
  latchFtc : Word64
  /-- descendant packages asked -/
  asked    : List Nat
  /-- descendant packages whose reply has been summed -/
  replied  : List Nat
  /-- packages beyond 1,024 whose reply was discarded -/
  discarded : List Nat := []
  sum      : Word64 := 0
  /-- end of the 10 ms window, in the model's clock -/
  deadline : Nat
  deriving DecidableEq, Repr, Inhabited

/-- State of the remote memory model (chapter 02) and the unit tree's group work (chapter 01). -/
structure RemoteState where
  /-- the 524,288 queue contexts, R75 -/
  queues : Store QueueCtx := []
  /-- the 16,384 sync objects, R93 -/
  syncs : Store SyncObj := []
  /-- the wait table in registration order, at most 32,768, R95 -/
  waits : List Wait := []
  /-- number of the next wait (the model's own name for it), reset 0 -/
  nextWait : Nat := 0
  /-- the latest wait-graph dump, R98, reset none -/
  dump : Option WaitDump := none
  /-- operations issued and not settled, R64, R90 -/
  outstanding : List OutOp := []
  /-- posted counts per endpoint source NODE, R88 -/
  endpoints : Store EndpointPosted := []
  /-- fences waiting, R64 -/
  fences : List PendingFence := []
  /-- notifies waiting for earlier operations, R60 -/
  notifies : List PendingNotify := []
  /-- cached queue contexts, least recently used first, at most 8,192, R86 -/
  lru : List Nat := []
  /-- counter reads above depth 3 in progress, R40 -/
  aggregates : List AggRead := []
  /-- number of the next aggregate read (the model's own), reset 0 -/
  nextAggregate : Nat := 0
  deriving DecidableEq, Repr, Inhabited

end Sys2Proof.Machine
end

