-- ==== Sys2Proof/Machine/Parts/Security.lean ====
section
/-! DEFINITION. State of chapter 13 (spec/13_tenancy_security.md): tenants, owners, bindings, the clear log, SPDM sessions,
model keys and firmware banks. -/

namespace Sys2Proof.Machine

/-- A tenant (R426, R452, R454). -/
structure Tenant where
  /-- ENABLE, 1 bit, R452, reset 0 -/
  enable : Bool := false
  /-- REQUIRE_ENCRYPTION, 1 bit, R452, reset 0 -/
  requireEnc : Bool := false
  /-- LAST_STATUS, 8 bits, R452, reset 0x00 -/
  lastStatus : Status := .ok
  deriving DecidableEq, Repr, Inhabited

/-- A port binding (R428, R452). -/
structure PortBind where
  /-- TENANT, 8 bits, R452, reset 0xFE -/
  tenant : Nat := 0xFE
  /-- NODE_BASE, 16 bits, R452, reset 0xFFFF -/
  nodeBase : Nat := 0xFFFF
  /-- NODE_COUNT_M1, 4 bits, R452, reset 0 -/
  countM1 : Nat := 0
  /-- PEER_DZM, 1 bit, R429, R452, reset 0 -/
  peerDzm : Bool := false
  deriving DecidableEq, Repr, Inhabited

/-- Encryption of a port (R440-R444, R452). -/
structure PortCrypt where
  /-- POLICY REQUIRED, 2 bits, R452, reset 1 -/
  policy : Nat := 1
  /-- the policy the current training uses (a write takes effect at the next training), R452, reset 1 -/
  inForce : Nat := 1
  /-- ACTIVE, 1 bit, R452, reset 0 -/
  active : Bool := false
  /-- g of the transmit direction, R441, reset 0 -/
  keyGen : Nat := 0
  /-- g of the receive direction, R441, reset 0 -/
  keyGenRx : Nat := 0
  /-- TAG_FAILS, 16 bits, R452, reset 0 -/
  tagFails : Nat := 0
  /-- C of the transmit and the receive direction, 64 bits, R442, reset 0 -/
  counter : Nat := 0
  counterRx : Nat := 0
  /-- model clock of tag failures within the last 1 ms, R444, reset empty -/
  recentFails : List Nat := []
  /-- GPOS of the next transmitted flit, R476, reset 0 -/
  gpos : Nat := 0
  /-- the session's export master secret, from which the link keys come, R441, reset empty -/
  secret : List Byte := []
  deriving DecidableEq, Repr, Inhabited

/-- An SPDM session of Bondiush as responder (R436). -/
structure SpdmSession where
  id      : Nat
  port    : Option Nat
  /-- SHA-384 of the requester's certificate key, when it presented one (R445) -/
  keyDigest : List Byte := []
  /-- it is a secure (finished) session -/
  secure  : Bool := false
  /-- bytes of the export master secret, for link keys (R441) -/
  secret  : List Byte := []
  deriving DecidableEq, Repr, Inhabited

/-- A model key slot in use (R445). -/
structure ModelKey where
  tenant       : Nat
  confidential : Bool
  planBound    : Bool
  mask         : Nat
  modelId      : Word64
  key          : List Byte
  planDigest   : List Byte
  /-- the digests that must match, by measurement index -/
  digests      : List (Nat × List Byte)
  deriving DecidableEq, Repr, Inhabited

/-- A firmware bank (R449, R541). -/
structure Bank where
  /-- the bank holds a correctly signed image, R541 -/
  signed : Bool := true
  /-- its SVN, R449 -/
  svn : Nat := 0
  /-- measurements 2-5 of its image, R449 -/
  digests : List (List Byte) := []
  /-- a VERIFY of it has succeeded since its last write, R449, reset false -/
  verified : Bool := false
  deriving DecidableEq, Repr, Inhabited

/-- State of chapter 13. -/
structure SecurityState where
  /-- the 64 tenants, R426 -/
  tenants : Store Tenant := []
  /-- OWNERS: owner of each of the 256 clusters, 8 bits, R452, reset 0xFF -/
  clusterOwner : Store Nat := []
  /-- clusters being zeroed for a new owner: cluster, PREV_OWNER and start FTC, R433, reset empty -/
  clusterClears : List (Nat × Nat × Nat) := []
  /-- the 36 port bindings, R428 -/
  binds : Store PortBind := []
  /-- encryption of the 36 ports, R440 -/
  crypt : Store PortCrypt := []
  /-- FIRST of SEC_ASSIGN_FIRST, 19 bits, R452, reset 0 -/
  assignFirst : Nat := 0
  /-- SEQ of the latest clear record, 64 bits, R434, reset 0 -/
  clearSeq : Nat := 0
  /-- the latest 4,096 clear records, oldest first, R434, reset empty -/
  clearLog : List (List Byte) := []
  /-- clear-log head H, 48 bytes, R435, reset 48 bytes of zero -/
  clearHead : List Byte := List.replicate 48 0
  /-- SPDM sessions, at most 128, R436, reset empty -/
  sessions : List SpdmSession := []
  /-- the 256 model key slots, R445, reset free -/
  keys : Store (Option ModelKey) := []
  /-- measurements by index 1-16, R438, each 48 bytes -/
  measurements : Store (List Byte) := []
  /-- plan digests fixed at load, by plan slot, R438, reset empty -/
  planDigests : Store (List Byte) := []
  /-- firmware banks A (0) and B (1), R449 -/
  banks : Store Bank := []
  /-- running bank, R449, reset 0 (A) -/
  running : Nat := 0
  /-- bank activated and not yet booted, R449, reset none -/
  activated : Option Nat := none
  /-- bank activated and booted from, not yet committed, R449, reset none -/
  bootedNew : Option Nat := none
  /-- fw_update_status, R453, reset 0x00 -/
  fwStatus : Status := .ok
  deriving DecidableEq, Repr, Inhabited

end Sys2Proof.Machine
end

