-- ==== Sys2Proof/Machine/Parts/Switch.lean ====
section
/-! DEFINITION. State of chapters 06 and 07 (spec/06_switch_core.md, spec/07_traffic_control.md): frames, Hopper lists, quotas,
multicast, link groups, credits; shapers, Weirs, the Wheel, gates and pool contracts. -/

namespace Sys2Proof.Machine

/-- Channels of an Opvitik link, by virtual channel (R253). -/
inductive Chan where | sched | rsp | rspEsc | data | dataEsc | snp | snpEsc | req | reqEsc
  deriving DecidableEq, Repr, Inhabited

def Chan.code : Chan → Nat
  | .sched => 0 | .rsp => 1 | .rspEsc => 2 | .data => 3 | .dataEsc => 4 | .snp => 5 | .snpEsc => 6 | .req => 7 | .reqEsc => 8

/-- Direction of the last hop between DZMs (R235). -/
inductive Dir where | none | up | down
  deriving DecidableEq, Repr, Inhabited

/-- A frame in the switch (R233, R235): its header decoded (R464), and its bytes. -/
structure Frame where
  id       : Nat := 0
  /-- KIND: 0 REQUEST, 1 RESPONSE, 2 SCHED, R464 -/
  kind     : Nat := 0
  /-- the 32 header bytes as they came, and the payload bytes -/
  header   : List Byte := []
  payload  : List Byte := []
  tenant   : Nat := 0xFF
  tc       : Nat := 4
  chan     : Chan := .req
  /-- source NODE (a request) and destination NODE -/
  srcNode  : Nat := 0
  dstNode  : Nat := 0
  /-- FLOW_LABEL, 12 bits -/
  label    : Nat := 0
  hops     : Nat := 0
  gap      : Bool := false
  repin    : Nat := 0
  esc      : Bool := false
  lastDir  : Dir := .none
  defer    : Reason := .none
  /-- OP, LENGTH, POSTED, OPID, FRAME_INDEX and OPERANDS -/
  op       : Nat := 0
  length   : Nat := 0
  posted   : Bool := false
  opid     : Nat := 0
  index    : Nat := 0
  operands : Bool := false
  /-- port it arrived on; none for a local frame -/
  inPort   : Option Nat := Option.none
  /-- it came from another DZM -/
  fromDzm  : Bool := false
  /-- response cells reserved in its quota at admission, R238 -/
  rspRoom  : Nat := 0
  /-- plan slot of a class 0 frame -/
  slot     : Option Nat := Option.none
  /-- SEQ of the flit that ended it, R251 -/
  lastSeq  : Option Nat := Option.none
  /-- it is on its lists or in the ordering point, R240 -/
  linked   : Bool := false
  deriving DecidableEq, Repr, Inhabited

/-- Payload bytes and cells of a frame (R233). -/
def Frame.bytes (f : Frame) : Nat := f.payload.length
def Frame.cells (f : Frame) : Nat := (f.bytes + 255) / 256

/-- Requests other than class 0 are charged to a tenant's quota (R237, R238). -/
def Frame.charged (f : Frame) : Bool := decide (f.kind = 0) && decide (f.tc ≠ 0)

/-- Room reserved for the response of a request executed here (R238). -/
structure RspRoom where
  tenant : Nat
  node   : Nat
  opid   : Nat
  posted : Bool
  cells  : Nat
  deriving DecidableEq, Repr, Inhabited

/-- An operation or a response of several frames that has not arrived whole (R233). -/
structure PartialOp where
  kind  : Nat
  node  : Nat
  opid  : Nat
  /-- its first frame -/
  first : Frame
  data  : List Byte
  deriving DecidableEq, Repr, Inhabited

/-- A frame waiting for room in a quota (R238). -/
structure QuotaWait where
  frame    : Frame
  quota    : Nat
  /-- hub injection frames are never refused for quota -/
  injected : Bool
  deadline : Nat
  deriving DecidableEq, Repr, Inhabited

/-- A queue entry of a Hopper list (R233), with what of the frame's header changes on this hop. -/
structure QEntry where
  frame   : Nat
  chan    : Chan
  esc     : Bool := false
  dir     : Dir := .none
  /-- bucket of a link group: 256 g + b, R248 -/
  bucket  : Option Nat := Option.none
  /-- model clock of its linking -/
  since   : Nat := 0
  /-- what it waited for first on this list, R287 -/
  waited  : Reason := .none
  /-- another class or frame has been served while it was ready, R287 -/
  passed  : Bool := false
  deriving DecidableEq, Repr, Inhabited

/-- A frame sent on a port and not link-acknowledged (R250). -/
structure SentFrame where
  frame   : Frame
  bucket  : Option Nat := Option.none
  /-- it is a branch of this multicast frame -/
  branch  : Option Nat := Option.none
  /-- SEQ of its last flit -/
  lastSeq : Nat := 0
  deriving DecidableEq, Repr, Inhabited

/-- A multicast branch: a port's list or the local ordering point (R242). -/
inductive Branch where | port (p : Nat) | here
  deriving DecidableEq, Repr, Inhabited

/-- A replicated frame whose branches have not all answered (R244). -/
structure McWait where
  frame    : Nat
  /-- the request and OP that the combined response answers -/
  req      : Req
  op       : Nat
  branches : List Branch
  answers  : List (Branch × Response)
  deriving DecidableEq, Repr, Inhabited

/-- A multicast entry in force (R242, R245). -/
structure McEntry where
  /-- PORT_MASK, 36 bits -/
  ports : Nat := 0
  here  : Bool := false
  valid : Bool := false
  owner : Nat := 0xFF
  deriving DecidableEq, Repr, Inhabited

/-- A pin-table bucket (R249). -/
structure Bucket where
  port  : Nat := 0
  valid : Bool := false
  epoch : Nat := 0
  /-- the next frame of the bucket carries GAP, R250 -/
  gap   : Bool := false
  /-- moved by a rebalance from this port, whose frames of the bucket are not all acknowledged, R252 -/
  moving : Option Nat := Option.none
  deriving DecidableEq, Repr, Inhabited

/-- A link group (R247). Members are the SWC_LG_MEMBERS registers. -/
structure LinkGroup where
  /-- NEIGHBOUR, R247, reset unset -/
  neighbour : Option Nat := none
  /-- a rebalance is moving buckets, R252, reset false -/
  moving : Bool := false
  /-- losses deferred until the rebalance ends, R252, reset empty -/
  deferred : List Nat := []
  deriving DecidableEq, Repr, Inhabited

/-- State of chapter 06. -/
structure SwitchState where
  /-- frames held in frame descriptors, R233 -/
  frames : Store (Option Frame) := []
  /-- the next descriptor number the model uses, reset 0 -/
  nextFrame : Nat := 0
  /-- Hopper lists 16 p + k, oldest first, R233 -/
  lists : Store (List QEntry) := []
  /-- frames waiting for quota room, in arrival order, R238 -/
  quotaWaits : List QuotaWait := []
  /-- room reserved for responses, R238 -/
  rooms : List RspRoom := []
  /-- frames sent on a port and not link-acknowledged, R250 -/
  sent : Store (List SentFrame) := []
  /-- credits left toward the peer, keyed 16 p + channel, R255 -/
  credits : Store Nat := []
  /-- headroom cells reserved per port, R236 -/
  headroom : Store Nat := []
  /-- multicast entries in force, R242 -/
  mcast : Store McEntry := []
  /-- multicast frames awaiting branches, R244 -/
  mcWaits : List McWait := []
  /-- link groups, R247 -/
  groups : Store LinkGroup := []
  /-- pin-table buckets, keyed 256 g + b, R249 -/
  buckets : Store Bucket := []
  /-- NODEs whose flows a route change moved, with the buckets whose first frame has been sent with GAP, R246 -/
  routeGaps : List (Nat × List Nat) := []
  /-- responses discarded for a turn violation: operation and model time of its end, R256 -/
  discarded : List (Req × Nat × Nat) := []
  /-- operations and responses of several frames that have not arrived whole, R233 -/
  partials : List PartialOp := []
  deriving DecidableEq, Repr, Inhabited

/-- A token bucket (R267, R270). TOKENS is kept in 1/65,536 byte. -/
structure TokenBucket where
  /-- RATE in MB/s, 24 bits, R267, reset 0 -/
  rate : Nat := 0
  /-- BURST in 64-byte units, 24 bits, R267, reset 0 -/
  burst : Nat := 0
  /-- ENABLE, reset 0 -/
  enable : Bool := false
  /-- TOKENS x 65,536, R267, reset 0 -/
  tokens : Int := 0
  /-- on the Wheel (shapers), R268, reset false -/
  onWheel : Bool := false
  /-- requests refused (Weirs), R290, reset 0 -/
  refusals : Nat := 0
  deriving DecidableEq, Repr, Inhabited

/-- An entry of the Wheel (R268). -/
structure WheelEntry where
  shaper : Nat
  slot   : Nat
  laps   : Nat
  deriving DecidableEq, Repr, Inhabited

/-- A request in a contract's FIFO (R281). -/
structure PoolReq where
  id      : Nat
  oper    : Operation
  channel : Nat
  srcNode : Nat
  since   : Nat
  defer   : Reason := .none
  /-- waited while its cap shaper was not eligible, R283 -/
  capped  : Bool := false
  /-- waited while another host's owed contract was served, R283 -/
  passed  : Bool := false
  /-- a request to REGION 0x6: the KV request it is, and whether a MOVE's destination can take the session, R281, R331 -/
  kv      : Option (Nat × Bool) := none
  deriving DecidableEq, Repr, Inhabited

/-- A request dispatched to a memory channel and not completed (R282, R316): its effect has been taken at the channel's request
queue, its ordering point (R62); `new` and `old` are the bytes a put wrote and replaced, from which R92 chooses when it fails. -/
structure Dispatched where
  preq   : PoolReq
  since  : Nat
  off    : Nat := 0
  new    : List Byte := []
  old    : List Byte := []
  answer : Response := {}
  /-- model clock at which tier_deadline_us passes, with the value in force at dispatch (R316, R323) -/
  deadline : Nat := 0
  deriving DecidableEq, Repr, Inhabited

/-- A pool contract (R280). -/
structure Contract where
  srcNode : Nat := 0
  valid   : Bool := false
  minShaper : Nat := 0
  minEn   : Bool := false
  capShaper : Nat := 0
  capEn   : Bool := false
  weir    : Nat := 0
  weirEn  : Bool := false
  weight  : Nat := 0
  /-- its FIFO, R281 -/
  queue   : List PoolReq := []
  /-- deficit of the deficit round robin, R282 -/
  deficit : Nat := 0
  /-- contract_bytes and contract_shortfalls, R290 -/
  bytes   : Nat := 0
  shortfalls : Nat := 0
  deriving DecidableEq, Repr, Inhabited

/-- A gate list entry in force (R273). -/
structure GateEntry where
  openMask : Nat := 0xFFFE
  auto     : Bool := false
  hold     : Nat := 1
  nextEntry : Nat := 0
  deriving DecidableEq, Repr, Inhabited

/-- The Sluice state of a port (R273-R279). -/
structure Gate where
  /-- active entry; none is the default state, R273 -/
  active : Option Nat := none
  /-- the entry as it stood at its activation, R279 -/
  entry : GateEntry := {}
  /-- tick at which HOLD_TICKS end: a plan tick on a plan-owned port, else a fabric tick, R275 -/
  holdEnd : Nat := 0
  /-- owning plan slot, R274 -/
  owner : Option Nat := none
  /-- entries claimed by the owner: first and count, R106 -/
  claimed : Nat := 0
  /-- a host cycle runs, R279 -/
  running : Bool := false
  /-- tick at which a host cycle begins, R279 -/
  startTick : Option Nat := none
  /-- earliest tick of the return to the default state after STOP, R279 -/
  stopTick : Option Nat := none
  /-- entry FIRST of the cycle begun, R279 -/
  first : Nat := 0
  /-- a slip quantum sets the state, R275 -/
  inQuantum : Bool := false
  deriving DecidableEq, Repr, Inhabited

/-- Egress service of a port (R264, R265). -/
structure Egress where
  /-- DEFICIT_k for k = 4-15 -/
  deficits : Store Nat := []
  /-- class the pointer is at -/
  pointer : Nat := 4
  /-- the quantum of the class at the pointer has been added on this visit -/
  added : Bool := false
  deriving DecidableEq, Repr, Inhabited

/-- State of chapter 07. -/
structure TrafficState where
  /-- the 65,536 shapers, R267 -/
  shapers : Store TokenBucket := []
  /-- the 65,536 Weirs, R270 -/
  weirs : Store TokenBucket := []
  /-- the Wheel's current tick, R268, reset 0 -/
  wheelAt : Nat := 0
  /-- the Wheel, in the order of placing, R268 -/
  wheel : List WheelEntry := []
  /-- the 16,384 contracts, R280; key 16,384 is the default queue -/
  contracts : Store Contract := []
  /-- last contract served owed, R282 -/
  owedLast : Nat := 0
  /-- pointer of the contracts' deficit round, R282, and whether the quantum of this visit has been added -/
  drrPointer : Nat := 0
  drrAdded : Bool := false
  /-- gate entries in force, keyed 1,024 p + e, R273 -/
  gateEntries : Store GateEntry := []
  /-- Sluice state of each port, R273 -/
  gates : Store Gate := []
  /-- egress service of each port, R264 -/
  egress : Store Egress := []
  /-- number of the next queued request (the model's own), reset 0 -/
  nextReq : Nat := 0
  /-- requests dispatched to each memory channel and not completed, oldest first, R282, R316, R320 -/
  dispatched : Store (List Dispatched) := []
  deriving DecidableEq, Repr, Inhabited

end Sys2Proof.Machine
end

