-- ==== Sys2Proof/Machine/State.lean ====
section
/-! DEFINITION. The state of the block, its reset value, and the reasons a step can stop. -/

namespace Sys2Proof.Machine

/-- Reasons the machine stops with a fault. No command of this model raises one: every refusal of the manual is an answer the
block gives and the block goes on. The one constructor keeps the type inhabited. Safe. -/
inductive Fault where
  /-- raised by no command; safe -/
  | stuck
  deriving DecidableEq, Repr

/-- Reasons a step has no meaning. -/
inductive Refusal where
  /-- the command with this mnemonic has no meaning yet; raised by Dispatch only; safe -/
  | notModelled (mnemonic : String)
  deriving DecidableEq, Repr

/-- What one part of the family carries in fuses, straps and sockets (R1, R8, R502, R543). -/
structure Chip where
  /-- the variant, 0x1000.03 -/
  variant : Variant := .dzm3608
  /-- product_name and stepping, 0x1000.06 and 0x1000.07 -/
  productName : List Byte := [0x44, 0x5A, 0x4D, 0x2D, 0x33, 0x36, 0x30, 0x38]
  stepping : List Byte := [0x41, 0x30]
  /-- serial_number, 0x1000.08 -/
  serial : Word64 := 0
  /-- SMB_ADDR[1:0] straps (R502) -/
  straps : BitVec 2 := 0
  /-- frames of the DIMMs fitted to each far channel, by far channel 0-15 (R292) -/
  farFrames : Store Nat := []
  deriving DecidableEq, Repr, Inhabited

/-- The state of the DZM: every part the manual names, chapter by chapter, and the queue of commands that wait. -/
structure State where
  /-- commands waiting, first in first out: the model's own field -/
  pending : List Instr := []
  /-- the model's clock in units of 0.25 ns, from which deadlines run: the model's own field -/
  now : Nat := 0
  /-- FTC, 64 bits, 0.25 ns units (R120) -/
  ftc : Nat := 0
  /-- what the last command answered and sent: the model's own field -/
  out : Out := {}
  /-- the number of the next free value: the model's own field -/
  freeCounter : Nat := 0
  /-- fuses, straps and sockets -/
  chip : Chip := {}
  /-- dictionary objects (R15), keyed 256 x index + subindex; an unlisted object holds the default of its chapter -/
  dict : Store (Option DVal) := []
  /-- CSR registers (R47), keyed by byte offset; an unlisted register holds the reset value of its chapter -/
  csr : Store (Option Word32) := []
  /-- bytes of REGION 0x0, by offset (R44, R304) -/
  mem : Store Byte := []
  /-- bytes of REGION 0x2, by offset (R44, R147) -/
  sram : Store Byte := []
  remote : RemoteState := {}
  plans : PlansState := {}
  florets : FloretsState := {}
  hcu : HcuState := {}
  sw : SwitchState := {}
  traffic : TrafficState := {}
  pool : PoolState := {}
  kv : KvState := {}
  coh : CohState := {}
  cz : CzState := {}
  meadow : MeadowState := {}
  sec : SecurityState := {}
  links : LinksState := {}
  mgmt : MgmtState := {}
  power : PowerState := {}
  faults : FaultsState := {}
  deriving DecidableEq, Repr, Inhabited

/-- The machine right after a cold reset has booted: every field at its reset value; nothing waits. -/
def State.reset : State := {}

end Sys2Proof.Machine
end

