-- ==== Sys2Proof/Machine/ObjTable.lean ====
section
/-! DEFINITION. The object dictionary as the chapters list it (R15-R17 and every "Objects" table): for each object its index,
subindex, type, access code, default and range. Generated from the tables of spec/, row by row, in their order. -/

namespace Sys2Proof.Machine

/-- Types of an object (R17). -/
inductive ObjType where | bool | u8 | u16 | u32 | u64 | i32 | f32 | time | str | blob
  deriving DecidableEq, Repr, Inhabited

/-- Access codes of an object (R15). -/
inductive ObjAcc where | const | ro | rw | wo | rwl
  deriving DecidableEq, Repr, Inhabited

/-- A row of an "Objects" table: `count` indices from `index`, `stride` apart; a value lies in lo-hi and is a multiple of `mult`,
or lies in one of the pairs of `also`; `lens` are the lengths a BLOB or STR may have. -/
structure ObjSpec where
  index  : Nat
  count  : Nat := 1
  stride : Nat := 1
  sub    : Nat
  ty     : ObjType
  acc    : ObjAcc
  dflt   : Nat := 0
  lo     : Nat := 0
  hi     : Nat
  mult   : Nat := 1
  also   : List (Nat × Nat) := []
  lens   : List Nat := []
  deriving DecidableEq, Repr, Inhabited

def objTable0 : List ObjSpec := [
  { index := 0x1000, sub := 0x01, ty := .u16, acc := .const, dflt := 49575, lo := 49575, hi := 49575 },
  { index := 0x1000, sub := 0x02, ty := .u8, acc := .const, dflt := 1, lo := 1, hi := 3 },
  { index := 0x1000, sub := 0x03, ty := .u8, acc := .const, lo := 1, hi := 3 },
  { index := 0x1000, sub := 0x04, ty := .u8, acc := .const, lo := 18, hi := 18, also := [(36, 36)] },
  { index := 0x1000, sub := 0x05, ty := .u8, acc := .const, lo := 4, hi := 4, also := [(8, 8)] },
  { index := 0x1000, sub := 0x06, ty := .str, acc := .const, hi := 0, lens := [8] },
  { index := 0x1000, sub := 0x07, ty := .str, acc := .const, hi := 0, lens := [2] },
  { index := 0x1000, sub := 0x08, ty := .u64, acc := .const, hi := 18446744073709551615 },
  { index := 0x2200, sub := 0x01, ty := .u16, acc := .rwl, dflt := 65535, hi := 61439, also := [(65535, 65535)] },
  { index := 0x2200, sub := 0x02, ty := .u16, acc := .rwl, hi := 65535 },
  { index := 0x2200, sub := 0x03, ty := .u8, acc := .rwl, hi := 3 },
  { index := 0x2200, sub := 0x04, ty := .u16, acc := .rwl, dflt := 65535, hi := 61439, also := [(65535, 65535)] },
  { index := 0x2200, sub := 0x05, ty := .u16, acc := .rwl, dflt := 65535, hi := 61439, also := [(65535, 65535)] },
  { index := 0x2200, sub := 0x06, ty := .u16, acc := .rwl, dflt := 65535, hi := 61439, also := [(65535, 65535)] },
  { index := 0x8003, sub := 0x20, ty := .u32, acc := .rw, dflt := 16000, lo := 1000, hi := 250000 },
  { index := 0x8003, sub := 0x21, ty := .u32, acc := .rw, dflt := 100000, lo := 10, hi := 16000000 },
  { index := 0x8003, sub := 0x22, ty := .u16, acc := .ro, hi := 32768 },
  { index := 0x8003, sub := 0x23, ty := .u64, acc := .rw, hi := 18446744073709551615 },
  { index := 0x8003, sub := 0x24, ty := .u32, acc := .rw, hi := 4294967295 },
  { index := 0x8003, sub := 0x25, ty := .u32, acc := .ro, hi := 4294967295 },
  { index := 0x8003, sub := 0x26, ty := .u32, acc := .wo, hi := 4294967295 },
  { index := 0x8003, sub := 0x27, ty := .u16, acc := .ro, hi := 8192 },
  { index := 0x8003, sub := 0x28, ty := .u16, acc := .ro, hi := 6144 },
  { index := 0x8003, sub := 0x29, ty := .u64, acc := .ro, hi := 18446744073709551615 },
  { index := 0x8003, sub := 0x2A, ty := .u64, acc := .ro, hi := 18446744073709551615 },
  { index := 0x5000, sub := 0x01, ty := .u8, acc := .const, dflt := 8, lo := 8, hi := 8 },
  { index := 0x5000, sub := 0x02, ty := .u8, acc := .const, dflt := 8, lo := 8, hi := 8 },
  { index := 0x5000, sub := 0x03, ty := .u64, acc := .const, dflt := 2147483648, hi := 18446744073709551615 },
  { index := 0x5000, sub := 0x04, ty := .u64, acc := .ro, hi := 18446744073709551615 },
  { index := 0x5000, sub := 0x05, ty := .u64, acc := .ro, hi := 18446744073709551615 },
  { index := 0x5000, sub := 0x06, ty := .u64, acc := .ro, hi := 18446744073709551615 },
  { index := 0x5000, sub := 0x07, ty := .u64, acc := .ro, hi := 18446744073709551615 },
  { index := 0x5000, sub := 0x08, ty := .u64, acc := .ro, hi := 18446744073709551615 },
  { index := 0x5001, count := 8, sub := 0x01, ty := .u8, acc := .ro, hi := 6 },
  { index := 0x5001, count := 8, sub := 0x02, ty := .u64, acc := .ro, hi := 18446744073709551615 },
  { index := 0x5001, count := 8, sub := 0x03, ty := .u64, acc := .rw, hi := 18446744073709551615 },
  { index := 0x5001, count := 8, sub := 0x04, ty := .u64, acc := .rw, lo := 320, hi := 2147483648 },
  { index := 0x5001, count := 8, sub := 0x05, ty := .u8, acc := .wo, lo := 1, hi := 8 },
  { index := 0x5001, count := 8, sub := 0x06, ty := .time, acc := .rw, hi := 18446744073709551615 },
  { index := 0x5001, count := 8, sub := 0x07, ty := .u8, acc := .ro, hi := 255 },
  { index := 0x5001, count := 8, sub := 0x08, ty := .u16, acc := .ro, dflt := 65535, hi := 65534, also := [(65535, 65535)] },
  { index := 0x5001, count := 8, sub := 0x09, ty := .u8, acc := .ro, dflt := 255, hi := 15, also := [(254, 254), (255, 255)] },
  { index := 0x5001, count := 8, sub := 0x0A, ty := .u8, acc := .ro, hi := 255 },
  { index := 0x5001, count := 8, sub := 0x0B, ty := .u16, acc := .ro, dflt := 65535, hi := 1023, also := [(65535, 65535)] },
  { index := 0x5001, count := 8, sub := 0x0C, ty := .u8, acc := .ro, hi := 11 },
  { index := 0x5001, count := 8, sub := 0x0D, ty := .bool, acc := .ro, hi := 1 },
  { index := 0x5001, count := 8, sub := 0x0E, ty := .bool, acc := .ro, hi := 1 },
  { index := 0x5001, count := 8, sub := 0x0F, ty := .u16, acc := .ro, hi := 1023 },
  { index := 0x5001, count := 8, sub := 0x10, ty := .u16, acc := .ro, hi := 1024 },
  { index := 0x5001, count := 8, sub := 0x11, ty := .u64, acc := .ro, hi := 18446744073709551615 },
  { index := 0x5001, count := 8, sub := 0x12, ty := .u32, acc := .ro, hi := 4294967295 },
  { index := 0x5001, count := 8, sub := 0x13, ty := .u16, acc := .ro, hi := 4096 },
  { index := 0x5001, count := 8, sub := 0x14, ty := .u64, acc := .ro, hi := 18446744073709551615 },
  { index := 0x5001, count := 8, sub := 0x15, ty := .time, acc := .ro, hi := 18446744073709551615 },
  { index := 0x5001, count := 8, sub := 0x16, ty := .u32, acc := .ro, dflt := 4294967295, hi := 4294967295 },
  { index := 0x5001, count := 8, sub := 0x17, ty := .u8, acc := .ro, lo := 1, hi := 4 },
  { index := 0x5001, count := 8, sub := 0x18, ty := .time, acc := .ro, hi := 18446744073709551615 },
  { index := 0x5001, count := 8, sub := 0x19, ty := .bool, acc := .ro, hi := 1 },
  { index := 0x5001, count := 8, sub := 0x1A, ty := .u32, acc := .ro, hi := 4294967295 },
  { index := 0x5001, count := 8, sub := 0x1B, ty := .u32, acc := .ro, hi := 4294967295 }]

def objTable1 : List ObjSpec := [
  { index := 0x2100, sub := 0x01, ty := .time, acc := .ro, hi := 18446744073709551615 },
  { index := 0x2100, sub := 0x02, ty := .u8, acc := .ro, hi := 3 },
  { index := 0x2100, sub := 0x03, ty := .u16, acc := .rwl, dflt := 65535, hi := 61439, also := [(65535, 65535)] },
  { index := 0x2100, sub := 0x04, ty := .u16, acc := .rwl, dflt := 65535, hi := 61439, also := [(65535, 65535)] },
  { index := 0x2100, sub := 0x05, ty := .u8, acc := .ro, dflt := 255, hi := 35, also := [(255, 255)] },
  { index := 0x2100, sub := 0x06, ty := .u8, acc := .ro, hi := 8 },
  { index := 0x2100, sub := 0x07, ty := .i32, acc := .ro, hi := 4294967295 },
  { index := 0x2100, sub := 0x08, ty := .u32, acc := .rw, dflt := 1000, lo := 100, hi := 1000 },
  { index := 0x2100, sub := 0x09, ty := .u16, acc := .rw, dflt := 8, lo := 2, hi := 64 },
  { index := 0x2100, sub := 0x0A, ty := .u32, acc := .ro, hi := 4294967295 },
  { index := 0x2100, sub := 0x0B, ty := .time, acc := .wo, hi := 18446744073709551615 },
  { index := 0x2100, sub := 0x10, ty := .u32, acc := .ro, hi := 4294967295 },
  { index := 0x2100, sub := 0x11, ty := .u32, acc := .ro, hi := 4294967295 },
  { index := 0x2100, sub := 0x12, ty := .u32, acc := .ro, hi := 4294967295 },
  { index := 0x2100, sub := 0x13, ty := .u32, acc := .ro, hi := 4294967295 },
  { index := 0x2100, sub := 0x14, ty := .u32, acc := .ro, hi := 4294967295 },
  { index := 0x2100, sub := 0x15, ty := .u32, acc := .ro, hi := 4294967295 },
  { index := 0x2100, sub := 0x16, ty := .u32, acc := .ro, hi := 4294967295 },
  { index := 0x2100, sub := 0x17, ty := .u32, acc := .ro, hi := 4294967295 },
  { index := 0x2100, sub := 0x18, ty := .u32, acc := .ro, hi := 4294967295 },
  { index := 0x2100, sub := 0x19, ty := .u32, acc := .ro, hi := 4294967295 },
  { index := 0x2100, sub := 0x1A, ty := .u32, acc := .ro, hi := 4294967295 },
  { index := 0x2100, sub := 0x1B, ty := .u32, acc := .ro, hi := 4294967295 },
  { index := 0x2100, sub := 0x1C, ty := .u32, acc := .ro, hi := 4294967295 },
  { index := 0x2100, sub := 0x1D, ty := .u32, acc := .ro, hi := 4294967295 },
  { index := 0x2100, sub := 0x1E, ty := .u32, acc := .ro, hi := 4294967295 },
  { index := 0x2100, sub := 0x1F, ty := .u32, acc := .ro, hi := 4294967295 },
  { index := 0x2100, sub := 0x20, ty := .u32, acc := .ro, hi := 4294967295 },
  { index := 0x2100, sub := 0x21, ty := .u32, acc := .ro, hi := 4294967295 },
  { index := 0x2100, sub := 0x22, ty := .u32, acc := .ro, hi := 4294967295 },
  { index := 0x2100, sub := 0x23, ty := .u32, acc := .ro, hi := 4294967295 },
  { index := 0x2100, sub := 0x24, ty := .u32, acc := .ro, hi := 4294967295 },
  { index := 0x2100, sub := 0x25, ty := .u32, acc := .ro, hi := 4294967295 },
  { index := 0x2100, sub := 0x26, ty := .u32, acc := .ro, hi := 4294967295 },
  { index := 0x2100, sub := 0x27, ty := .u32, acc := .ro, hi := 4294967295 },
  { index := 0x2100, sub := 0x28, ty := .u32, acc := .ro, hi := 4294967295 },
  { index := 0x2100, sub := 0x29, ty := .u32, acc := .ro, hi := 4294967295 },
  { index := 0x2100, sub := 0x2A, ty := .u32, acc := .ro, hi := 4294967295 },
  { index := 0x2100, sub := 0x2B, ty := .u32, acc := .ro, hi := 4294967295 },
  { index := 0x2100, sub := 0x2C, ty := .u32, acc := .ro, hi := 4294967295 },
  { index := 0x2100, sub := 0x2D, ty := .u32, acc := .ro, hi := 4294967295 },
  { index := 0x2100, sub := 0x2E, ty := .u32, acc := .ro, hi := 4294967295 },
  { index := 0x2100, sub := 0x2F, ty := .u32, acc := .ro, hi := 4294967295 },
  { index := 0x2100, sub := 0x30, ty := .u32, acc := .ro, hi := 4294967295 },
  { index := 0x2100, sub := 0x31, ty := .u32, acc := .ro, hi := 4294967295 },
  { index := 0x2100, sub := 0x32, ty := .u32, acc := .ro, hi := 4294967295 },
  { index := 0x2100, sub := 0x33, ty := .u32, acc := .ro, hi := 4294967295 },
  { index := 0x3800, sub := 0x01, ty := .u8, acc := .const, dflt := 144, lo := 72, hi := 72, also := [(144, 144)] },
  { index := 0x3800, sub := 0x02, ty := .u8, acc := .const, dflt := 36, lo := 18, hi := 18, also := [(36, 36)] },
  { index := 0x3800, sub := 0x03, ty := .u8, acc := .const, dflt := 36, lo := 18, hi := 18, also := [(36, 36)] },
  { index := 0x3800, sub := 0x04, ty := .u16, acc := .const, dflt := 4096, lo := 4096, hi := 4096 },
  { index := 0x3800, sub := 0x05, ty := .u16, acc := .ro, hi := 4096 },
  { index := 0x3800, sub := 0x06, ty := .u16, acc := .rw, hi := 4095 },
  { index := 0x3800, sub := 0x07, ty := .u8, acc := .ro, hi := 4 },
  { index := 0x3800, sub := 0x08, ty := .u8, acc := .ro, hi := 4 },
  { index := 0x3800, sub := 0x09, ty := .u8, acc := .ro, dflt := 255, hi := 63, also := [(255, 255)] },
  { index := 0x3800, sub := 0x0A, ty := .u8, acc := .ro, hi := 255 },
  { index := 0x3800, sub := 0x0B, ty := .u8, acc := .ro, hi := 255 },
  { index := 0x3800, sub := 0x0C, ty := .u64, acc := .ro, hi := 18446744073709551615 },
  { index := 0x3800, sub := 0x0D, ty := .u16, acc := .wo, hi := 3071 }]

def objTable2 : List ObjSpec := [
  { index := 0x3800, sub := 0x0E, ty := .u32, acc := .rw, dflt := 1000, lo := 10, hi := 100000 },
  { index := 0x3800, sub := 0x0F, ty := .u32, acc := .rw, dflt := 100000, lo := 100, hi := 60000000 },
  { index := 0x3800, sub := 0x10, ty := .u64, acc := .ro, hi := 18446744073709551615 },
  { index := 0x3800, sub := 0x11, ty := .u64, acc := .ro, hi := 18446744073709551615 },
  { index := 0x3800, sub := 0x12, ty := .u64, acc := .ro, hi := 18446744073709551615 },
  { index := 0x3800, sub := 0x13, ty := .u64, acc := .ro, hi := 18446744073709551615 },
  { index := 0x3800, sub := 0x14, ty := .u64, acc := .ro, hi := 18446744073709551615 },
  { index := 0x3800, sub := 0x15, ty := .u64, acc := .ro, hi := 18446744073709551615 },
  { index := 0x3400, sub := 0x01, ty := .u32, acc := .const, dflt := 393216, lo := 393216, hi := 393216 },
  { index := 0x3400, sub := 0x02, ty := .u32, acc := .ro, dflt := 393216, hi := 393216 },
  { index := 0x3400, sub := 0x03, ty := .u32, acc := .ro, dflt := 262144, hi := 262144 },
  { index := 0x3400, sub := 0x04, ty := .u32, acc := .ro, dflt := 524288, hi := 524288 },
  { index := 0x3400, sub := 0x05, ty := .u32, acc := .ro, hi := 393216 },
  { index := 0x3400, sub := 0x06, ty := .u32, acc := .ro, hi := 393216 },
  { index := 0x3400, sub := 0x07, ty := .u32, acc := .ro, dflt := 385024, hi := 393216 },
  { index := 0x3400, sub := 0x09, ty := .u32, acc := .rw, dflt := 2000, lo := 100, hi := 100000 },
  { index := 0x3400, sub := 0x0A, ty := .u16, acc := .rwl, hi := 65535 },
  { index := 0x3400, sub := 0x0B, ty := .u64, acc := .ro, hi := 18446744073709551615 },
  { index := 0x3400, sub := 0x0C, ty := .u64, acc := .ro, hi := 18446744073709551615 },
  { index := 0x3400, sub := 0x0D, ty := .u64, acc := .ro, hi := 18446744073709551615 },
  { index := 0x3400, sub := 0x0E, ty := .u64, acc := .ro, hi := 18446744073709551615 },
  { index := 0x3400, sub := 0x0F, ty := .u64, acc := .ro, hi := 18446744073709551615 },
  { index := 0x3400, sub := 0x10, ty := .u64, acc := .ro, hi := 18446744073709551615 },
  { index := 0x3400, sub := 0x11, ty := .u64, acc := .ro, hi := 18446744073709551615 },
  { index := 0x3400, sub := 0x12, ty := .u64, acc := .ro, hi := 18446744073709551615 },
  { index := 0x3400, sub := 0x13, ty := .u64, acc := .ro, hi := 18446744073709551615 },
  { index := 0x3400, sub := 0x14, ty := .u32, acc := .ro, hi := 4294967295 },
  { index := 0x3500, sub := 0x01, ty := .u32, acc := .const, dflt := 65536, lo := 65536, hi := 65536 },
  { index := 0x3500, sub := 0x02, ty := .u32, acc := .const, dflt := 65536, lo := 65536, hi := 65536 },
  { index := 0x3500, sub := 0x03, ty := .u16, acc := .const, dflt := 4096, lo := 4096, hi := 4096 },
  { index := 0x3500, sub := 0x04, ty := .u16, acc := .const, dflt := 16384, lo := 16384, hi := 16384 },
  { index := 0x3500, sub := 0x05, ty := .u16, acc := .const, dflt := 1024, lo := 1024, hi := 1024 },
  { index := 0x3500, sub := 0x06, ty := .u32, acc := .rw, dflt := 10000, lo := 100, hi := 1000000 },
  { index := 0x3500, sub := 0x07, ty := .u32, acc := .rw, dflt := 12000000, hi := 17100000 },
  { index := 0x3500, sub := 0x08, ty := .u32, acc := .ro, hi := 17100000 },
  { index := 0x3500, sub := 0x09, ty := .u8, acc := .rw, dflt := 1, lo := 1, hi := 255 },
  { index := 0x3500, sub := 0x0A, ty := .u16, acc := .rw, dflt := 4096, lo := 64, hi := 65535 },
  { index := 0x3500, sub := 0x0B, ty := .u64, acc := .ro, hi := 18446744073709551615 },
  { index := 0x3500, sub := 0x0C, ty := .u64, acc := .ro, hi := 18446744073709551615 },
  { index := 0x3500, sub := 0x0D, ty := .u64, acc := .ro, hi := 18446744073709551615 },
  { index := 0x3500, sub := 0x0E, ty := .u64, acc := .ro, hi := 18446744073709551615 },
  { index := 0x3500, sub := 0x10, ty := .u16, acc := .rw, hi := 16383 },
  { index := 0x3500, sub := 0x11, ty := .bool, acc := .ro, hi := 1 },
  { index := 0x3500, sub := 0x12, ty := .bool, acc := .ro, hi := 1 },
  { index := 0x3500, sub := 0x13, ty := .u32, acc := .ro, hi := 65535 },
  { index := 0x3500, sub := 0x14, ty := .u64, acc := .ro, hi := 18446744073709551615 },
  { index := 0x3500, sub := 0x15, ty := .u64, acc := .ro, hi := 18446744073709551615 },
  { index := 0x3500, sub := 0x18, ty := .u16, acc := .rw, hi := 65535 },
  { index := 0x3500, sub := 0x19, ty := .u64, acc := .ro, hi := 18446744073709551615 },
  { index := 0x4000, count := 512, sub := 0x01, ty := .u8, acc := .ro, hi := 2 },
  { index := 0x4000, count := 512, sub := 0x02, ty := .u8, acc := .rw, dflt := 255, hi := 63, also := [(255, 255)] },
  { index := 0x4000, count := 512, sub := 0x03, ty := .u16, acc := .rw, dflt := 65535, hi := 61439, also := [(65535, 65535)] },
  { index := 0x4000, count := 512, sub := 0x04, ty := .u64, acc := .rw, hi := 18446744073709551615 },
  { index := 0x4000, count := 512, sub := 0x05, ty := .u32, acc := .rw, hi := 268435455 },
  { index := 0x4000, count := 512, sub := 0x06, ty := .u32, acc := .rw, hi := 8388607 },
  { index := 0x4000, count := 512, sub := 0x07, ty := .u32, acc := .rw, hi := 67108863 },
  { index := 0x4000, count := 512, sub := 0x08, ty := .u8, acc := .rw, hi := 255 },
  { index := 0x4000, count := 512, sub := 0x09, ty := .u16, acc := .rw, hi := 256 },
  { index := 0x4000, count := 512, sub := 0x0A, ty := .u8, acc := .rw, hi := 15 },
  { index := 0x4000, count := 512, sub := 0x0B, ty := .u8, acc := .rw, hi := 16 }]

def objTable3 : List ObjSpec := [
  { index := 0x4000, count := 512, sub := 0x0C, ty := .u8, acc := .wo, lo := 1, hi := 3 },
  { index := 0x4000, count := 512, sub := 0x0D, ty := .u8, acc := .ro, hi := 255 },
  { index := 0x4000, count := 512, sub := 0x0E, ty := .u32, acc := .ro, hi := 4294967295 },
  { index := 0x4000, count := 512, sub := 0x0F, ty := .bool, acc := .ro, hi := 1 },
  { index := 0x4000, count := 512, sub := 0x10, ty := .bool, acc := .ro, hi := 1 },
  { index := 0x4000, count := 512, sub := 0x11, ty := .bool, acc := .rw, dflt := 1, hi := 1 },
  { index := 0x4000, count := 512, sub := 0x12, ty := .u64, acc := .rw, hi := 18446744073709551615 },
  { index := 0x4000, count := 512, sub := 0x13, ty := .u16, acc := .rw, hi := 4096 },
  { index := 0x4000, count := 512, sub := 0x14, ty := .u32, acc := .ro, hi := 4294967295 },
  { index := 0x4000, count := 512, sub := 0x15, ty := .u32, acc := .ro, hi := 4294967295 },
  { index := 0x4000, count := 512, sub := 0x16, ty := .u32, acc := .ro, hi := 4294967295 },
  { index := 0x4000, count := 512, sub := 0x17, ty := .u64, acc := .ro, hi := 18446744073709551615 },
  { index := 0x4000, count := 512, sub := 0x18, ty := .u64, acc := .ro, hi := 18446744073709551615 },
  { index := 0x4000, count := 512, sub := 0x19, ty := .u64, acc := .ro, hi := 18446744073709551615 },
  { index := 0x4000, count := 512, sub := 0x1A, ty := .u64, acc := .ro, hi := 18446744073709551615 },
  { index := 0x4000, count := 512, sub := 0x1B, ty := .u64, acc := .ro, hi := 18446744073709551615 },
  { index := 0x4000, count := 512, sub := 0x1C, ty := .u32, acc := .ro, hi := 4294967295 },
  { index := 0x4000, count := 512, sub := 0x1D, ty := .u32, acc := .rw, hi := 4294967295 },
  { index := 0x4000, count := 512, sub := 0x1E, ty := .u8, acc := .ro, hi := 3 },
  { index := 0x4000, count := 512, sub := 0x1F, ty := .u8, acc := .ro, hi := 255 },
  { index := 0x4000, count := 512, sub := 0x20, ty := .u16, acc := .ro, hi := 271 },
  { index := 0x4000, count := 512, sub := 0x21, ty := .u64, acc := .ro, hi := 18446744073709551615 },
  { index := 0x4000, count := 512, sub := 0x22, ty := .u64, acc := .ro, hi := 18446744073709551615 },
  { index := 0x8003, sub := 0x30, ty := .u64, acc := .ro, hi := 18446744073709551615 },
  { index := 0x8003, sub := 0x31, ty := .u32, acc := .const, dflt := 30517, lo := 30517, hi := 30517 },
  { index := 0x8003, sub := 0x32, ty := .u32, acc := .rw, dflt := 10000, lo := 100, hi := 1000000 },
  { index := 0x8003, sub := 0x33, ty := .u32, acc := .rw, dflt := 8000, lo := 1000, hi := 1000000 },
  { index := 0x8003, sub := 0x34, ty := .u16, acc := .rw, dflt := 50, lo := 5, hi := 1000 },
  { index := 0x8003, sub := 0x35, ty := .u8, acc := .rw, dflt := 16, lo := 4, hi := 255 },
  { index := 0x8003, sub := 0x36, ty := .u32, acc := .rw, dflt := 1000, lo := 100, hi := 1000000 },
  { index := 0x8003, sub := 0x37, ty := .bool, acc := .ro, hi := 1 },
  { index := 0x8003, sub := 0x38, ty := .u64, acc := .ro, hi := 18446744073709551615 },
  { index := 0x8003, sub := 0x39, ty := .u64, acc := .ro, hi := 18446744073709551615 },
  { index := 0x8003, sub := 0x3A, ty := .u8, acc := .ro, hi := 16 },
  { index := 0x4400, sub := 0x01, ty := .u32, acc := .const, dflt := 262144, lo := 262144, hi := 262144 },
  { index := 0x4400, sub := 0x02, ty := .u32, acc := .const, dflt := 4194304, lo := 4194304, hi := 4194304 },
  { index := 0x4400, sub := 0x03, ty := .u32, acc := .ro, hi := 262144 },
  { index := 0x4400, sub := 0x04, ty := .u16, acc := .ro, hi := 1024 },
  { index := 0x4400, sub := 0x05, ty := .u16, acc := .ro, hi := 8192 },
  { index := 0x4400, sub := 0x06, ty := .u32, acc := .rw, dflt := 60000, lo := 1000, hi := 3600000 },
  { index := 0x4400, sub := 0x07, ty := .u64, acc := .ro, hi := 18446744073709551615 },
  { index := 0x4400, sub := 0x08, ty := .u64, acc := .ro, hi := 18446744073709551615 },
  { index := 0x4400, sub := 0x09, ty := .u64, acc := .ro, hi := 18446744073709551615 },
  { index := 0x4400, sub := 0x0A, ty := .u64, acc := .ro, hi := 18446744073709551615 },
  { index := 0x4400, sub := 0x0B, ty := .u64, acc := .ro, hi := 18446744073709551615 },
  { index := 0x4400, sub := 0x0C, ty := .u64, acc := .ro, hi := 18446744073709551615 },
  { index := 0x4400, sub := 0x0D, ty := .u64, acc := .ro, hi := 18446744073709551615 },
  { index := 0x4400, sub := 0x0E, ty := .u64, acc := .ro, hi := 18446744073709551615 },
  { index := 0x4400, sub := 0x0F, ty := .u8, acc := .rw, hi := 63 },
  { index := 0x4400, sub := 0x10, ty := .u64, acc := .rw, hi := 18446744073709551615 },
  { index := 0x4400, sub := 0x11, ty := .u8, acc := .ro, hi := 7 },
  { index := 0x4400, sub := 0x12, ty := .u32, acc := .ro, hi := 4194303 },
  { index := 0x4400, sub := 0x13, ty := .u32, acc := .ro, hi := 4294967295 },
  { index := 0x4400, sub := 0x14, ty := .time, acc := .ro, hi := 18446744073709551615 },
  { index := 0x4400, sub := 0x15, ty := .u8, acc := .ro, hi := 15 },
  { index := 0x4400, sub := 0x16, ty := .u16, acc := .ro, dflt := 65535, hi := 61439, also := [(65535, 65535)] },
  { index := 0x4401, count := 64, sub := 0x01, ty := .u16, acc := .rw, hi := 511 },
  { index := 0x4401, count := 64, sub := 0x02, ty := .bool, acc := .rw, hi := 1 },
  { index := 0x4401, count := 64, sub := 0x03, ty := .u32, acc := .rw, lo := 1024, hi := 131072, mult := 256 },
  { index := 0x4401, count := 64, sub := 0x04, ty := .u16, acc := .rw, lo := 16, hi := 65535 }]

def objTable4 : List ObjSpec := [
  { index := 0x4401, count := 64, sub := 0x05, ty := .u32, acc := .ro, hi := 268435455 },
  { index := 0x4401, count := 64, sub := 0x06, ty := .u32, acc := .ro, hi := 268435455 },
  { index := 0x4401, count := 64, sub := 0x07, ty := .u8, acc := .rw, dflt := 50, hi := 100 },
  { index := 0x4401, count := 64, sub := 0x08, ty := .u32, acc := .ro, hi := 4294967295 },
  { index := 0x4401, count := 64, sub := 0x09, ty := .u32, acc := .ro, hi := 262144 },
  { index := 0x4401, count := 64, sub := 0x0A, ty := .u8, acc := .ro, hi := 255 },
  { index := 0x4800, sub := 0x01, ty := .u8, acc := .const, dflt := 32, lo := 32, hi := 32 },
  { index := 0x4800, sub := 0x02, ty := .u32, acc := .const, dflt := 976562, lo := 976562, hi := 976562 },
  { index := 0x4800, sub := 0x03, ty := .u32, acc := .const, dflt := 8388608, lo := 8388608, hi := 8388608 },
  { index := 0x4800, sub := 0x04, ty := .u8, acc := .const, dflt := 64, lo := 64, hi := 64 },
  { index := 0x4800, sub := 0x05, ty := .u16, acc := .rw, dflt := 128, hi := 4095 },
  { index := 0x4800, sub := 0x06, ty := .u32, acc := .rw, dflt := 1000, lo := 10, hi := 100000 },
  { index := 0x4800, sub := 0x07, ty := .u32, acc := .ro, hi := 976562 },
  { index := 0x4800, sub := 0x08, ty := .u32, acc := .ro, hi := 8388608 },
  { index := 0x4800, sub := 0x09, ty := .u64, acc := .ro, hi := 18446744073709551615 },
  { index := 0x4800, sub := 0x0A, ty := .u64, acc := .ro, hi := 18446744073709551615 },
  { index := 0x4800, sub := 0x0B, ty := .u64, acc := .ro, hi := 18446744073709551615 },
  { index := 0x4800, sub := 0x0C, ty := .u64, acc := .ro, hi := 18446744073709551615 },
  { index := 0x4800, sub := 0x0D, ty := .u64, acc := .ro, hi := 18446744073709551615 },
  { index := 0x4800, sub := 0x0E, ty := .u64, acc := .ro, hi := 18446744073709551615 },
  { index := 0x4800, sub := 0x0F, ty := .u32, acc := .ro, hi := 4294967295 },
  { index := 0x4800, sub := 0x10, ty := .u64, acc := .ro, hi := 18446744073709551615 },
  { index := 0x4800, sub := 0x11, ty := .u64, acc := .ro, hi := 18446744073709551615 },
  { index := 0x4801, count := 32, sub := 0x01, ty := .u64, acc := .rw, hi := 18446744073709551615 },
  { index := 0x4801, count := 32, sub := 0x02, ty := .u32, acc := .rw, lo := 1, hi := 976562 },
  { index := 0x4801, count := 32, sub := 0x03, ty := .u16, acc := .rw, hi := 511 },
  { index := 0x4801, count := 32, sub := 0x04, ty := .u64, acc := .rw, hi := 18446744073709551615 },
  { index := 0x4801, count := 32, sub := 0x05, ty := .bool, acc := .rw, hi := 1 },
  { index := 0x4801, count := 32, sub := 0x06, ty := .u8, acc := .ro, hi := 255 },
  { index := 0x4801, count := 32, sub := 0x07, ty := .u32, acc := .ro, hi := 8388608 },
  { index := 0x4821, count := 64, sub := 0x01, ty := .u16, acc := .rw, dflt := 65535, hi := 61439, also := [(65535, 65535)] },
  { index := 0x4821, count := 64, sub := 0x02, ty := .u8, acc := .rw, hi := 35 },
  { index := 0x4821, count := 64, sub := 0x03, ty := .u8, acc := .rw, hi := 63, also := [(255, 255)] },
  { index := 0x4821, count := 64, sub := 0x04, ty := .u8, acc := .rw, hi := 2 },
  { index := 0x4821, count := 64, sub := 0x05, ty := .bool, acc := .ro, hi := 1 },
  { index := 0x4821, count := 64, sub := 0x06, ty := .u32, acc := .ro, hi := 4294967295 },
  { index := 0x4600, sub := 0x01, ty := .u16, acc := .const, dflt := 1024, lo := 1024, hi := 1024 },
  { index := 0x4600, sub := 0x02, ty := .u16, acc := .const, dflt := 4096, lo := 4096, hi := 4096 },
  { index := 0x4600, sub := 0x03, ty := .u8, acc := .const, dflt := 64, lo := 64, hi := 64 },
  { index := 0x4600, sub := 0x04, ty := .u8, acc := .const, dflt := 4, lo := 4, hi := 4 },
  { index := 0x4600, sub := 0x05, ty := .u16, acc := .ro, hi := 1024 },
  { index := 0x4600, sub := 0x06, ty := .u64, acc := .ro, hi := 18446744073709551615 },
  { index := 0x4600, sub := 0x07, ty := .u64, acc := .ro, hi := 18446744073709551615 },
  { index := 0x4600, sub := 0x08, ty := .u64, acc := .ro, hi := 18446744073709551615 },
  { index := 0x4600, sub := 0x09, ty := .u64, acc := .ro, hi := 18446744073709551615 },
  { index := 0x4600, sub := 0x0A, ty := .u64, acc := .ro, hi := 18446744073709551615 },
  { index := 0x4600, sub := 0x0B, ty := .u64, acc := .ro, hi := 18446744073709551615 },
  { index := 0x4600, sub := 0x0C, ty := .u64, acc := .ro, hi := 18446744073709551615 },
  { index := 0x4600, sub := 0x0D, ty := .u64, acc := .ro, hi := 18446744073709551615 },
  { index := 0x4600, sub := 0x0E, ty := .u16, acc := .rw, hi := 1023 },
  { index := 0x4600, sub := 0x0F, ty := .u8, acc := .ro, hi := 3 },
  { index := 0x4600, sub := 0x10, ty := .u32, acc := .ro, hi := 4194304 },
  { index := 0x4600, sub := 0x11, ty := .u32, acc := .ro, hi := 4294967295 },
  { index := 0x4600, sub := 0x12, ty := .u64, acc := .ro, hi := 18446744073709551615 },
  { index := 0x4600, sub := 0x13, ty := .u8, acc := .ro, hi := 15 },
  { index := 0x4A00, sub := 0x01, ty := .u8, acc := .const, dflt := 4, lo := 4, hi := 4 },
  { index := 0x4A00, sub := 0x02, ty := .u16, acc := .const, dflt := 256, lo := 256, hi := 256 },
  { index := 0x4A00, sub := 0x03, ty := .u16, acc := .const, dflt := 256, lo := 256, hi := 256 },
  { index := 0x4A00, sub := 0x04, ty := .u16, acc := .const, dflt := 512, lo := 512, hi := 512 },
  { index := 0x4A00, sub := 0x05, ty := .u16, acc := .const, dflt := 4096, lo := 4096, hi := 4096 }]

def objTable5 : List ObjSpec := [
  { index := 0x4A00, sub := 0x06, ty := .u32, acc := .rw, dflt := 10000, lo := 100, hi := 10000000 },
  { index := 0x4A00, sub := 0x07, ty := .u64, acc := .ro, hi := 18446744073709551615 },
  { index := 0x4A00, sub := 0x08, ty := .u64, acc := .ro, hi := 18446744073709551615 },
  { index := 0x4A00, sub := 0x09, ty := .u64, acc := .ro, hi := 18446744073709551615 },
  { index := 0x4A00, sub := 0x0A, ty := .u64, acc := .ro, hi := 18446744073709551615 },
  { index := 0x4A00, sub := 0x0B, ty := .u64, acc := .ro, hi := 18446744073709551615 },
  { index := 0x4A00, sub := 0x0C, ty := .u64, acc := .ro, hi := 18446744073709551615 },
  { index := 0x4A00, sub := 0x0D, ty := .u64, acc := .ro, hi := 18446744073709551615 },
  { index := 0x4A00, sub := 0x10, ty := .u8, acc := .rw, hi := 255 },
  { index := 0x4A00, sub := 0x11, ty := .u8, acc := .ro, hi := 2 },
  { index := 0x4A00, sub := 0x12, ty := .u8, acc := .ro, dflt := 255, hi := 63, also := [(255, 255)] },
  { index := 0x4A00, sub := 0x13, ty := .u64, acc := .ro, hi := 18446744073709551615 },
  { index := 0x4A00, sub := 0x14, ty := .u64, acc := .ro, hi := 18446744073709551615 },
  { index := 0x4A00, sub := 0x15, ty := .u32, acc := .ro, hi := 262144 },
  { index := 0x4A00, sub := 0x16, ty := .u64, acc := .ro, hi := 18446744073709551615 },
  { index := 0x4A00, sub := 0x17, ty := .u32, acc := .ro, hi := 4294967295 },
  { index := 0x5400, sub := 0x01, ty := .u8, acc := .const, dflt := 64, lo := 64, hi := 64 },
  { index := 0x5400, sub := 0x02, ty := .u8, acc := .ro, hi := 64 },
  { index := 0x5400, sub := 0x03, ty := .u8, acc := .ro, hi := 128 },
  { index := 0x5400, sub := 0x04, ty := .u16, acc := .const, dflt := 256, lo := 256, hi := 256 },
  { index := 0x5400, sub := 0x05, ty := .u16, acc := .ro, hi := 256 },
  { index := 0x5400, sub := 0x06, ty := .u64, acc := .ro, hi := 18446744073709551615 },
  { index := 0x5400, sub := 0x07, ty := .u64, acc := .rw, hi := 18446744073709551615 },
  { index := 0x5400, sub := 0x08, ty := .blob, acc := .ro, hi := 0, lens := [0, 128] },
  { index := 0x5400, sub := 0x09, ty := .u8, acc := .rw, dflt := 1, lo := 1, hi := 16 },
  { index := 0x5400, sub := 0x0A, ty := .blob, acc := .ro, hi := 0, lens := [48] },
  { index := 0x5400, sub := 0x0B, ty := .u8, acc := .ro, hi := 63 },
  { index := 0x5400, sub := 0x0C, ty := .u8, acc := .wo, lo := 1, hi := 4 },
  { index := 0x5400, sub := 0x0D, ty := .u8, acc := .ro, hi := 255 },
  { index := 0x5400, sub := 0x0E, ty := .u8, acc := .rwl, dflt := 32, lo := 24, hi := 39 },
  { index := 0x5400, sub := 0x0F, ty := .u64, acc := .ro, hi := 18446744073709551615 },
  { index := 0x5400, sub := 0x10, ty := .u64, acc := .ro, hi := 18446744073709551615 },
  { index := 0x5400, sub := 0x11, ty := .u64, acc := .ro, hi := 18446744073709551615 },
  { index := 0x5400, sub := 0x12, ty := .blob, acc := .rwl, hi := 0, lens := [0, 48] },
  { index := 0x5401, count := 64, sub := 0x01, ty := .bool, acc := .rw, hi := 1 },
  { index := 0x5401, count := 64, sub := 0x02, ty := .bool, acc := .rw, hi := 1 },
  { index := 0x5401, count := 64, sub := 0x03, ty := .blob, acc := .rwl, hi := 0, lens := [0, 48] },
  { index := 0x5401, count := 64, sub := 0x04, ty := .blob, acc := .rwl, hi := 0, lens := [0, 48] },
  { index := 0x5401, count := 64, sub := 0x05, ty := .blob, acc := .rwl, hi := 0, lens := [0, 48] },
  { index := 0x5401, count := 64, sub := 0x06, ty := .blob, acc := .rwl, hi := 0, lens := [0, 48] },
  { index := 0x5401, count := 64, sub := 0x07, ty := .blob, acc := .rwl, hi := 0, lens := [0, 48] },
  { index := 0x5401, count := 64, sub := 0x08, ty := .u8, acc := .ro, hi := 255 },
  { index := 0x5401, count := 64, sub := 0x09, ty := .u16, acc := .ro, hi := 256 },
  { index := 0x5401, count := 64, sub := 0x0A, ty := .u16, acc := .ro, hi := 512 },
  { index := 0x3000, count := 36, stride := 16, sub := 0x01, ty := .u8, acc := .rw, hi := 3 },
  { index := 0x3000, count := 36, stride := 16, sub := 0x02, ty := .u8, acc := .ro, hi := 7 },
  { index := 0x3000, count := 36, stride := 16, sub := 0x03, ty := .u8, acc := .ro, lo := 16, hi := 16 },
  { index := 0x3000, count := 36, stride := 16, sub := 0x04, ty := .u8, acc := .ro, hi := 3 },
  { index := 0x3000, count := 36, stride := 16, sub := 0x05, ty := .u16, acc := .ro, hi := 63 },
  { index := 0x3000, count := 36, stride := 16, sub := 0x06, ty := .u16, acc := .ro, dflt := 65535, hi := 65535 },
  { index := 0x3000, count := 36, stride := 16, sub := 0x07, ty := .u16, acc := .rw, dflt := 1200, lo := 100, hi := 10000 },
  { index := 0x3000, count := 36, stride := 16, sub := 0x08, ty := .u8, acc := .rw, dflt := 8, lo := 1, hi := 63 },
  { index := 0x3000, count := 36, stride := 16, sub := 0x09, ty := .u16, acc := .rw, dflt := 20000, lo := 100, hi := 65535 },
  { index := 0x3000, count := 36, stride := 16, sub := 0x0A, ty := .u64, acc := .ro, hi := 18446744073709551615 },
  { index := 0x3000, count := 36, stride := 16, sub := 0x0B, ty := .u64, acc := .ro, hi := 18446744073709551615 },
  { index := 0x3000, count := 36, stride := 16, sub := 0x0C, ty := .u64, acc := .ro, hi := 18446744073709551615 },
  { index := 0x3000, count := 36, stride := 16, sub := 0x0D, ty := .u64, acc := .ro, hi := 18446744073709551615 },
  { index := 0x3000, count := 36, stride := 16, sub := 0x0E, ty := .u64, acc := .ro, hi := 18446744073709551615 },
  { index := 0x3000, count := 36, stride := 16, sub := 0x0F, ty := .u32, acc := .ro, hi := 4294967295 },
  { index := 0x3000, count := 36, stride := 16, sub := 0x10, ty := .u32, acc := .ro, hi := 4294967295 }]

def objTable6 : List ObjSpec := [
  { index := 0x3000, count := 36, stride := 16, sub := 0x11, ty := .u64, acc := .ro, hi := 18446744073709551615 },
  { index := 0x3000, count := 36, stride := 16, sub := 0x12, ty := .u64, acc := .rw, hi := 18446744073709551615, mult := 65536 },
  { index := 0x3000, count := 36, stride := 16, sub := 0x13, ty := .u64, acc := .rw, hi := 17592186044416, mult := 268435456 },
  { index := 0x3000, count := 36, stride := 16, sub := 0x14, ty := .u8, acc := .rw, dflt := 4, lo := 1, hi := 15 },
  { index := 0x1100, sub := 0x01, ty := .u32, acc := .wo, hi := 4294967295 },
  { index := 0x1100, sub := 0x02, ty := .u64, acc := .ro, hi := 18446744073709551615 },
  { index := 0x1100, sub := 0x03, ty := .blob, acc := .ro, hi := 0, lens := [16] },
  { index := 0x1100, sub := 0x04, ty := .blob, acc := .rwl, hi := 0, lens := [0, 16] },
  { index := 0x1100, sub := 0x05, ty := .u8, acc := .rwl, dflt := 64, lo := 1, hi := 128 },
  { index := 0x1100, sub := 0x06, ty := .u16, acc := .rwl, dflt := 47010, lo := 1024, hi := 65535 },
  { index := 0x1100, sub := 0x07, ty := .bool, acc := .rwl, dflt := 1, hi := 1 },
  { index := 0x1100, sub := 0x08, ty := .blob, acc := .rwl, hi := 0, lens := [0, 48] },
  { index := 0x1100, sub := 0x09, ty := .blob, acc := .rw, hi := 0, lens := [0, 18] },
  { index := 0x1100, sub := 0x0A, ty := .blob, acc := .rw, hi := 0, lens := [0, 18] },
  { index := 0x1100, sub := 0x0B, ty := .blob, acc := .rw, hi := 0, lens := [0, 18] },
  { index := 0x1100, sub := 0x0C, ty := .blob, acc := .rw, hi := 0, lens := [0, 18] },
  { index := 0x1100, sub := 0x0D, ty := .u8, acc := .ro, hi := 2 },
  { index := 0x1100, sub := 0x0E, ty := .u64, acc := .ro, hi := 18446744073709551615 },
  { index := 0x1100, sub := 0x0F, ty := .u64, acc := .ro, hi := 18446744073709551615 },
  { index := 0x1100, sub := 0x10, ty := .u64, acc := .ro, hi := 18446744073709551615 },
  { index := 0x1100, sub := 0x11, ty := .u16, acc := .rw, dflt := 4096, lo := 256, hi := 65535 },
  { index := 0x1800, sub := 0x01, ty := .u64, acc := .ro, hi := 18446744073709551615 },
  { index := 0x1800, sub := 0x02, ty := .u16, acc := .wo, lo := 256, hi := 1023 },
  { index := 0x1800, sub := 0x03, ty := .u64, acc := .rw, hi := 18446744073709551615 },
  { index := 0x1800, sub := 0x04, ty := .blob, acc := .ro, hi := 0, lens := [0, 32] },
  { index := 0x1800, sub := 0x05, ty := .u64, acc := .ro, hi := 18446744073709551615 },
  { index := 0x1800, sub := 0x06, ty := .u64, acc := .ro, hi := 18446744073709551615 },
  { index := 0x1800, sub := 0x10, ty := .u16, acc := .rw, hi := 1023 },
  { index := 0x1800, sub := 0x11, ty := .bool, acc := .rw, hi := 1 },
  { index := 0x1800, sub := 0x12, ty := .u8, acc := .rw, hi := 15 },
  { index := 0x1800, sub := 0x13, ty := .u64, acc := .rw, hi := 18446744073709551615 },
  { index := 0x1800, sub := 0x14, ty := .u8, acc := .rw, dflt := 4, lo := 1, hi := 15 },
  { index := 0x1800, sub := 0x15, ty := .u16, acc := .rw, hi := 65535 },
  { index := 0x1800, sub := 0x16, ty := .bool, acc := .rw, hi := 1 },
  { index := 0x1800, sub := 0x17, ty := .u32, acc := .rw, hi := 1000000 },
  { index := 0x1101, sub := 0x01, ty := .u8, acc := .ro, lo := 88, hi := 91 },
  { index := 0x1101, sub := 0x02, ty := .u64, acc := .ro, hi := 18446744073709551615 },
  { index := 0x1101, sub := 0x03, ty := .u64, acc := .ro, hi := 18446744073709551615 },
  { index := 0x1101, sub := 0x04, ty := .u64, acc := .ro, hi := 18446744073709551615 },
  { index := 0x1101, sub := 0x05, ty := .u32, acc := .rw, dflt := 1000, lo := 100, hi := 100000 },
  { index := 0x1101, sub := 0x06, ty := .u16, acc := .rw, dflt := 400, lo := 100, hi := 1000 },
  { index := 0x1101, sub := 0x07, ty := .bool, acc := .rw, hi := 1 },
  { index := 0x1101, sub := 0x08, ty := .u32, acc := .ro, hi := 4294967295 },
  { index := 0x1101, sub := 0x10, ty := .u8, acc := .rw, hi := 31 },
  { index := 0x1101, sub := 0x11, ty := .u16, acc := .rw, hi := 65535 },
  { index := 0x1101, sub := 0x12, ty := .u16, acc := .rw, hi := 65535 },
  { index := 0x1101, sub := 0x13, ty := .u16, acc := .ro, hi := 65535 },
  { index := 0x1101, sub := 0x14, ty := .u8, acc := .ro, hi := 255 },
  { index := 0x2200, sub := 0x0F, ty := .u32, acc := .rwl, dflt := 2000, lo := 500, hi := 60000 },
  { index := 0x2200, sub := 0x10, ty := .u32, acc := .ro, hi := 4294967295 },
  { index := 0x2200, sub := 0x11, ty := .u8, acc := .ro, hi := 63 },
  { index := 0x2000, sub := 0x01, ty := .u32, acc := .ro, hi := 65535 },
  { index := 0x2000, sub := 0x02, ty := .u16, acc := .ro, hi := 4000 },
  { index := 0x2000, sub := 0x03, ty := .u16, acc := .rw, dflt := 3000, lo := 1000, hi := 3000 },
  { index := 0x2000, sub := 0x04, ty := .u16, acc := .const, dflt := 900, lo := 900, hi := 900 },
  { index := 0x2000, sub := 0x05, ty := .u16, acc := .rw, dflt := 2, lo := 1, hi := 1000 },
  { index := 0x2000, sub := 0x06, ty := .u8, acc := .ro, hi := 3 },
  { index := 0x2000, sub := 0x07, ty := .u64, acc := .ro, hi := 18446744073709551615 },
  { index := 0x2000, sub := 0x08, ty := .u64, acc := .ro, hi := 18446744073709551615 },
  { index := 0x2000, sub := 0x09, ty := .u32, acc := .ro, hi := 4294967295 }]

def objTable7 : List ObjSpec := [
  { index := 0x2000, sub := 0x0A, ty := .u16, acc := .ro, hi := 4095 },
  { index := 0x2000, sub := 0x0B, ty := .u32, acc := .ro, hi := 4294967295 },
  { index := 0x2100, sub := 0x0C, ty := .i32, acc := .ro, hi := 4294967295 },
  { index := 0x2100, sub := 0x0D, ty := .u8, acc := .ro, hi := 1 },
  { index := 0x2100, sub := 0x0E, ty := .u16, acc := .const, dflt := 1300, lo := 1300, hi := 1300 },
  { index := 0x2200, sub := 0x07, ty := .u8, acc := .wo, lo := 1, hi := 2 },
  { index := 0x2200, sub := 0x08, ty := .u8, acc := .ro, hi := 1 },
  { index := 0x2200, sub := 0x09, ty := .u8, acc := .ro, dflt := 1, hi := 255 },
  { index := 0x2200, sub := 0x0A, ty := .u32, acc := .ro, hi := 4294967295 },
  { index := 0x2200, sub := 0x0B, ty := .u32, acc := .rw, dflt := 10000, lo := 10, hi := 10000000 },
  { index := 0x2200, sub := 0x0C, ty := .u32, acc := .ro, dflt := 4294967295, hi := 4294967295 },
  { index := 0x2200, sub := 0x0D, ty := .u8, acc := .ro, hi := 255 },
  { index := 0x2200, sub := 0x0E, ty := .u64, acc := .ro, hi := 18446744073709551615 },
  { index := 0x2300, sub := 0x01, ty := .u8, acc := .ro, hi := 2 },
  { index := 0x2300, sub := 0x02, ty := .u16, acc := .ro, hi := 1024 },
  { index := 0x2300, sub := 0x03, ty := .u16, acc := .ro, hi := 1024 },
  { index := 0x2300, sub := 0x04, ty := .u32, acc := .rw, dflt := 3600, lo := 60, hi := 86400 },
  { index := 0x2300, sub := 0x05, ty := .u32, acc := .ro, hi := 4294967295 },
  { index := 0x2300, sub := 0x06, ty := .time, acc := .ro, hi := 18446744073709551615 },
  { index := 0x2300, sub := 0x07, ty := .u8, acc := .ro, hi := 1 },
  { index := 0x2300, sub := 0x08, ty := .u8, acc := .ro, hi := 2 },
  { index := 0x2300, sub := 0x09, ty := .u32, acc := .ro, hi := 4294967295 },
  { index := 0x2300, sub := 0x0A, ty := .bool, acc := .ro, hi := 1 },
  { index := 0x5800, sub := 0x01, ty := .u64, acc := .ro, hi := 18446744073709551615 },
  { index := 0x5800, sub := 0x02, ty := .u64, acc := .rw, hi := 18446744073709551615 },
  { index := 0x5800, sub := 0x03, ty := .blob, acc := .ro, hi := 0, lens := [0, 64] },
  { index := 0x5800, sub := 0x04, ty := .u64, acc := .ro, hi := 18446744073709551615 },
  { index := 0x5800, sub := 0x05, ty := .u8, acc := .wo, hi := 35 },
  { index := 0x5800, sub := 0x06, ty := .u32, acc := .rw, dflt := 1000, lo := 10, hi := 600000 },
  { index := 0x5800, sub := 0x07, ty := .bool, acc := .rwl, hi := 1 },
  { index := 0x5800, sub := 0x08, ty := .u64, acc := .ro, hi := 18446744073709551615 },
  { index := 0x5801, sub := 0x01, ty := .u8, acc := .rw, hi := 63 },
  { index := 0x5801, sub := 0x02, ty := .u8, acc := .rw, lo := 1, hi := 8 },
  { index := 0x5801, sub := 0x03, ty := .u32, acc := .rw, dflt := 4294967295, hi := 4294967295 },
  { index := 0x5801, sub := 0x04, ty := .time, acc := .rw, hi := 18446744073709551615 },
  { index := 0x5801, sub := 0x05, ty := .u16, acc := .rw, dflt := 1, lo := 1, hi := 65535 },
  { index := 0x5801, sub := 0x06, ty := .u32, acc := .rw, dflt := 1000, lo := 1, hi := 60000000 },
  { index := 0x5801, sub := 0x07, ty := .u32, acc := .rw, hi := 4294967295 },
  { index := 0x5801, sub := 0x08, ty := .u8, acc := .wo, lo := 1, hi := 2 },
  { index := 0x5801, sub := 0x09, ty := .u8, acc := .ro, hi := 1 },
  { index := 0x5801, sub := 0x0A, ty := .u32, acc := .ro, hi := 4294967295 },
  { index := 0x5801, sub := 0x0B, ty := .u32, acc := .ro, hi := 4294967295 },
  { index := 0x5801, sub := 0x0C, ty := .u8, acc := .ro, hi := 255 },
  { index := 0x5802, sub := 0x01, ty := .u16, acc := .const, dflt := 16384, lo := 16384, hi := 16384 },
  { index := 0x5802, sub := 0x02, ty := .u16, acc := .ro, hi := 16384 },
  { index := 0x5802, sub := 0x03, ty := .u16, acc := .rw, hi := 16383 },
  { index := 0x5802, sub := 0x04, ty := .u8, acc := .ro, hi := 5 },
  { index := 0x5802, sub := 0x05, ty := .u8, acc := .ro, dflt := 255, hi := 15, also := [(255, 255)] },
  { index := 0x5802, sub := 0x06, ty := .u8, acc := .ro, dflt := 255, hi := 63, also := [(255, 255)] },
  { index := 0x5802, sub := 0x07, ty := .u16, acc := .wo, hi := 16383 },
  { index := 0x5802, sub := 0x08, ty := .u64, acc := .ro, hi := 18446744073709551615 },
  { index := 0x5810, count := 16, sub := 0x01, ty := .u8, acc := .ro, hi := 4 },
  { index := 0x5810, count := 16, sub := 0x02, ty := .u16, acc := .rw, hi := 511 },
  { index := 0x5810, count := 16, sub := 0x03, ty := .u64, acc := .rw, hi := 18446744073709551615 },
  { index := 0x5810, count := 16, sub := 0x04, ty := .u8, acc := .rw, dflt := 4, lo := 1, hi := 15 },
  { index := 0x5810, count := 16, sub := 0x05, ty := .u32, acc := .rw, hi := 4294967295 },
  { index := 0x5810, count := 16, sub := 0x06, ty := .u32, acc := .rw, dflt := 1024, lo := 1, hi := 65536 },
  { index := 0x5810, count := 16, sub := 0x07, ty := .time, acc := .rw, hi := 18446744073709551615 },
  { index := 0x5810, count := 16, sub := 0x08, ty := .u8, acc := .wo, lo := 1, hi := 2 },
  { index := 0x5810, count := 16, sub := 0x09, ty := .u32, acc := .ro, hi := 4294967295 }]

def objTable8 : List ObjSpec := [
  { index := 0x5810, count := 16, sub := 0x0A, ty := .u32, acc := .ro, hi := 4294967295 },
  { index := 0x5810, count := 16, sub := 0x0B, ty := .u32, acc := .ro, hi := 4294967295 },
  { index := 0x5810, count := 16, sub := 0x0C, ty := .u64, acc := .ro, hi := 18446744073709551615 },
  { index := 0x5810, count := 16, sub := 0x0D, ty := .u8, acc := .ro, hi := 255 },
  { index := 0x5810, count := 16, sub := 0x0E, ty := .time, acc := .ro, hi := 18446744073709551615 },
  { index := 0x5C01, count := 64, sub := 0x20, ty := .u8, acc := .rwl, hi := 1 },
  { index := 0x3501, count := 65, sub := 0x01, ty := .u64, acc := .ro, hi := 18446744073709551615 },
  { index := 0x3501, count := 65, sub := 0x21, ty := .u64, acc := .ro, hi := 18446744073709551615 },
  { index := 0x3501, count := 65, sub := 0x02, ty := .u64, acc := .ro, hi := 18446744073709551615 },
  { index := 0x3501, count := 65, sub := 0x22, ty := .u64, acc := .ro, hi := 18446744073709551615 },
  { index := 0x3501, count := 65, sub := 0x03, ty := .u64, acc := .ro, hi := 18446744073709551615 },
  { index := 0x3501, count := 65, sub := 0x23, ty := .u64, acc := .ro, hi := 18446744073709551615 },
  { index := 0x3501, count := 65, sub := 0x04, ty := .u64, acc := .ro, hi := 18446744073709551615 },
  { index := 0x3501, count := 65, sub := 0x24, ty := .u64, acc := .ro, hi := 18446744073709551615 },
  { index := 0x3501, count := 65, sub := 0x05, ty := .u64, acc := .ro, hi := 18446744073709551615 },
  { index := 0x3501, count := 65, sub := 0x25, ty := .u64, acc := .ro, hi := 18446744073709551615 },
  { index := 0x3501, count := 65, sub := 0x06, ty := .u64, acc := .ro, hi := 18446744073709551615 },
  { index := 0x3501, count := 65, sub := 0x26, ty := .u64, acc := .ro, hi := 18446744073709551615 },
  { index := 0x3501, count := 65, sub := 0x07, ty := .u64, acc := .ro, hi := 18446744073709551615 },
  { index := 0x3501, count := 65, sub := 0x27, ty := .u64, acc := .ro, hi := 18446744073709551615 },
  { index := 0x3501, count := 65, sub := 0x08, ty := .u64, acc := .ro, hi := 18446744073709551615 },
  { index := 0x3501, count := 65, sub := 0x28, ty := .u64, acc := .ro, hi := 18446744073709551615 },
  { index := 0x3501, count := 65, sub := 0x09, ty := .u64, acc := .ro, hi := 18446744073709551615 },
  { index := 0x3501, count := 65, sub := 0x29, ty := .u64, acc := .ro, hi := 18446744073709551615 },
  { index := 0x3501, count := 65, sub := 0x0A, ty := .u64, acc := .ro, hi := 18446744073709551615 },
  { index := 0x3501, count := 65, sub := 0x2A, ty := .u64, acc := .ro, hi := 18446744073709551615 },
  { index := 0x3501, count := 65, sub := 0x0B, ty := .u64, acc := .ro, hi := 18446744073709551615 },
  { index := 0x3501, count := 65, sub := 0x2B, ty := .u64, acc := .ro, hi := 18446744073709551615 },
  { index := 0x3501, count := 65, sub := 0x0C, ty := .u64, acc := .ro, hi := 18446744073709551615 },
  { index := 0x3501, count := 65, sub := 0x2C, ty := .u64, acc := .ro, hi := 18446744073709551615 },
  { index := 0x3501, count := 65, sub := 0x0D, ty := .u64, acc := .ro, hi := 18446744073709551615 },
  { index := 0x3501, count := 65, sub := 0x2D, ty := .u64, acc := .ro, hi := 18446744073709551615 },
  { index := 0x5C01, count := 65, sub := 0x01, ty := .u64, acc := .ro, hi := 18446744073709551615 },
  { index := 0x5C01, count := 65, sub := 0x02, ty := .u64, acc := .ro, hi := 18446744073709551615 },
  { index := 0x5C01, count := 65, sub := 0x03, ty := .u64, acc := .ro, hi := 18446744073709551615 },
  { index := 0x5C01, count := 65, sub := 0x04, ty := .u64, acc := .ro, hi := 18446744073709551615 },
  { index := 0x5C01, count := 65, sub := 0x05, ty := .u64, acc := .ro, hi := 18446744073709551615 },
  { index := 0x5C01, count := 65, sub := 0x06, ty := .u64, acc := .ro, hi := 18446744073709551615 },
  { index := 0x5C01, count := 65, sub := 0x07, ty := .u64, acc := .ro, hi := 18446744073709551615 },
  { index := 0x5C01, count := 65, sub := 0x08, ty := .u64, acc := .ro, hi := 18446744073709551615 },
  { index := 0x5C01, count := 65, sub := 0x09, ty := .u64, acc := .ro, hi := 18446744073709551615 },
  { index := 0x5C01, count := 65, sub := 0x0A, ty := .u64, acc := .ro, hi := 18446744073709551615 },
  { index := 0x5C01, count := 65, sub := 0x0B, ty := .u64, acc := .ro, hi := 18446744073709551615 },
  { index := 0x5C01, count := 65, sub := 0x0C, ty := .u64, acc := .ro, hi := 18446744073709551615 },
  { index := 0x5C01, count := 65, sub := 0x0D, ty := .u64, acc := .ro, hi := 18446744073709551615 },
  { index := 0x5C01, count := 65, sub := 0x0E, ty := .u64, acc := .ro, hi := 18446744073709551615 },
  { index := 0x5C01, count := 65, sub := 0x0F, ty := .u64, acc := .ro, hi := 18446744073709551615 },
  { index := 0x5C01, count := 65, sub := 0x10, ty := .u64, acc := .ro, hi := 18446744073709551615 },
  { index := 0x5C01, count := 65, sub := 0x21, ty := .u64, acc := .ro, hi := 18446744073709551615 },
  { index := 0x5C01, count := 65, sub := 0x22, ty := .u64, acc := .ro, hi := 18446744073709551615 },
  { index := 0x5C01, count := 65, sub := 0x23, ty := .u64, acc := .ro, hi := 18446744073709551615 },
  { index := 0x5C01, count := 65, sub := 0x24, ty := .u64, acc := .ro, hi := 18446744073709551615 },
  { index := 0x5C01, count := 65, sub := 0x25, ty := .u64, acc := .ro, hi := 18446744073709551615 },
  { index := 0x5C00, sub := 0x01, ty := .u8, acc := .wo, hi := 255 },
  { index := 0x5C00, sub := 0x02, ty := .time, acc := .ro, hi := 18446744073709551615 },
  { index := 0x5C81, count := 65, sub := 0x01, ty := .u64, acc := .ro, hi := 18446744073709551615 },
  { index := 0x5C81, count := 65, sub := 0x02, ty := .u64, acc := .ro, hi := 18446744073709551615 },
  { index := 0x5C81, count := 65, sub := 0x03, ty := .u64, acc := .ro, hi := 18446744073709551615 },
  { index := 0x5C81, count := 65, sub := 0x04, ty := .u64, acc := .ro, hi := 18446744073709551615 },
  { index := 0x5C81, count := 65, sub := 0x05, ty := .u64, acc := .ro, hi := 18446744073709551615 }]

def objTable9 : List ObjSpec := [
  { index := 0x5C81, count := 65, sub := 0x06, ty := .u64, acc := .ro, hi := 18446744073709551615 },
  { index := 0x5C81, count := 65, sub := 0x07, ty := .u64, acc := .ro, hi := 18446744073709551615 },
  { index := 0x5C81, count := 65, sub := 0x08, ty := .u64, acc := .ro, hi := 18446744073709551615 },
  { index := 0x5C81, count := 65, sub := 0x09, ty := .u64, acc := .ro, hi := 18446744073709551615 },
  { index := 0x5C81, count := 65, sub := 0x0A, ty := .u64, acc := .ro, hi := 18446744073709551615 },
  { index := 0x5C81, count := 65, sub := 0x0B, ty := .u64, acc := .ro, hi := 18446744073709551615 },
  { index := 0x5C81, count := 65, sub := 0x0C, ty := .u64, acc := .ro, hi := 18446744073709551615 },
  { index := 0x5C81, count := 65, sub := 0x0D, ty := .u64, acc := .ro, hi := 18446744073709551615 },
  { index := 0x5C81, count := 65, sub := 0x0E, ty := .u64, acc := .ro, hi := 18446744073709551615 },
  { index := 0x5C81, count := 65, sub := 0x0F, ty := .u64, acc := .ro, hi := 18446744073709551615 },
  { index := 0x5C81, count := 65, sub := 0x10, ty := .u64, acc := .ro, hi := 18446744073709551615 },
  { index := 0x5C81, count := 65, sub := 0x21, ty := .u64, acc := .ro, hi := 18446744073709551615 },
  { index := 0x5C81, count := 65, sub := 0x22, ty := .u64, acc := .ro, hi := 18446744073709551615 },
  { index := 0x5C81, count := 65, sub := 0x23, ty := .u64, acc := .ro, hi := 18446744073709551615 },
  { index := 0x5C81, count := 65, sub := 0x24, ty := .u64, acc := .ro, hi := 18446744073709551615 },
  { index := 0x5C81, count := 65, sub := 0x25, ty := .u64, acc := .ro, hi := 18446744073709551615 }]

/-- The objects at fixed indices. -/
def objTable : List ObjSpec :=
  objTable0 ++ objTable1 ++ objTable2 ++ objTable3 ++ objTable4 ++ objTable5 ++ objTable6 ++ objTable7 ++ objTable8 ++ objTable9

/-- Objects of every unit unit index (index 0 stands for the unit's own). -/
def unitObjs : List ObjSpec := [
  { index := 0, sub := 0x01, ty := .u32, acc := .ro, hi := 4294967295 },
  { index := 0, sub := 0x02, ty := .u8, acc := .const, hi := 255 },
  { index := 0, sub := 0x03, ty := .u8, acc := .ro, hi := 6 },
  { index := 0, sub := 0x04, ty := .u8, acc := .wo, lo := 1, hi := 7 },
  { index := 0, sub := 0x05, ty := .u16, acc := .ro, hi := 65535 },
  { index := 0, sub := 0x06, ty := .u32, acc := .rw, hi := 4294967295 },
  { index := 0, sub := 0x07, ty := .u32, acc := .ro, hi := 12287 },
  { index := 0, sub := 0x08, ty := .u8, acc := .ro, hi := 16 },
  { index := 0, sub := 0x09, ty := .bool, acc := .rw, dflt := 1, hi := 1 },
  { index := 0, sub := 0x0A, ty := .u64, acc := .ro, hi := 18446744073709551615 },
  { index := 0, sub := 0x0B, ty := .u64, acc := .ro, hi := 18446744073709551615 },
  { index := 0, sub := 0x0C, ty := .u64, acc := .ro, hi := 18446744073709551615 },
  { index := 0, sub := 0x0D, ty := .u16, acc := .ro, hi := 4096 },
  { index := 0, sub := 0x0E, ty := .u8, acc := .ro, dflt := 255, hi := 63, also := [(255, 255)] }]

/-- Objects of every floret unit index (index 0 stands for the unit's own). -/
def floretObjs : List ObjSpec := [
  { index := 0, sub := 0x20, ty := .u32, acc := .ro, hi := 4294967295 },
  { index := 0, sub := 0x21, ty := .u8, acc := .ro, lo := 128, hi := 132, also := [(0, 0)] },
  { index := 0, sub := 0x22, ty := .u8, acc := .ro, hi := 5 },
  { index := 0, sub := 0x23, ty := .u32, acc := .ro, hi := 4294967295 },
  { index := 0, sub := 0x24, ty := .u64, acc := .ro, hi := 18446744073709551615 },
  { index := 0, sub := 0x25, ty := .u64, acc := .ro, hi := 18446744073709551615 },
  { index := 0, sub := 0x26, ty := .u64, acc := .ro, hi := 18446744073709551615 },
  { index := 0, sub := 0x27, ty := .u64, acc := .ro, hi := 18446744073709551615 },
  { index := 0, sub := 0x28, ty := .u8, acc := .ro, hi := 64 },
  { index := 0, sub := 0x29, ty := .u16, acc := .ro, dflt := 1800, lo := 600, hi := 2000 }]

/-- Objects of every cluster unit index (index 0 stands for the unit's own). -/
def clusterObjs : List ObjSpec := [
  { index := 0, sub := 0x20, ty := .u8, acc := .ro, hi := 1 },
  { index := 0, sub := 0x21, ty := .u64, acc := .ro, hi := 18446744073709551615 },
  { index := 0, sub := 0x22, ty := .u64, acc := .ro, hi := 18446744073709551615 },
  { index := 0, sub := 0x23, ty := .u64, acc := .ro, hi := 18446744073709551615 },
  { index := 0, sub := 0x24, ty := .u64, acc := .ro, hi := 18446744073709551615 },
  { index := 0, sub := 0x25, ty := .u16, acc := .ro, hi := 256 },
  { index := 0, sub := 0x26, ty := .u64, acc := .ro, hi := 18446744073709551615 },
  { index := 0, sub := 0x27, ty := .u16, acc := .rw, dflt := 1800, lo := 600, hi := 2000, mult := 100 },
  { index := 0, sub := 0x28, ty := .u16, acc := .ro, dflt := 1800, hi := 2000 }]

/-- Objects of every hcuUnit unit index (index 0 stands for the unit's own). -/
def hcuUnitObjs : List ObjSpec := [
  { index := 0, sub := 0x20, ty := .u8, acc := .ro, hi := 1 },
  { index := 0, sub := 0x21, ty := .u64, acc := .ro, hi := 18446744073709551615 },
  { index := 0, sub := 0x22, ty := .u64, acc := .ro, hi := 18446744073709551615 },
  { index := 0, sub := 0x23, ty := .u16, acc := .ro, dflt := 65535, hi := 4095, also := [(65535, 65535)] },
  { index := 0, sub := 0x24, ty := .u8, acc := .ro, hi := 64 },
  { index := 0, sub := 0x25, ty := .u32, acc := .ro, hi := 524288 }]

/-- Objects of every memUnit unit index (index 0 stands for the unit's own). -/
def memUnitObjs : List ObjSpec := [
  { index := 0, sub := 0x20, ty := .u64, acc := .ro, hi := 18446744073709551615 },
  { index := 0, sub := 0x21, ty := .u64, acc := .ro, hi := 18446744073709551615 },
  { index := 0, sub := 0x22, ty := .u64, acc := .ro, hi := 18446744073709551615 },
  { index := 0, sub := 0x23, ty := .u64, acc := .ro, hi := 18446744073709551615 },
  { index := 0, sub := 0x24, ty := .u8, acc := .ro, dflt := 100, hi := 100 }]

/-- Objects of every meadowUnit unit index (index 0 stands for the unit's own). -/
def meadowUnitObjs : List ObjSpec := [
  { index := 0, sub := 0x20, ty := .u16, acc := .ro, hi := 512 },
  { index := 0, sub := 0x21, ty := .u64, acc := .ro, hi := 18446744073709551615 },
  { index := 0, sub := 0x22, ty := .u64, acc := .ro, hi := 18446744073709551615 },
  { index := 0, sub := 0x23, ty := .u64, acc := .ro, hi := 18446744073709551615 }]

/-- Objects of every quadrant unit index (index 0 stands for the unit's own). -/
def quadrantObjs : List ObjSpec := [
  { index := 0, sub := 0x20, ty := .u16, acc := .ro, hi := 65535 }]

end Sys2Proof.Machine
end

