-- ==== Sys2Proof/Machine/ObjNames.lean ====
section
/-! DEFINITION. The dictionary key (256 x index + subindex) of every object, by the name its chapter gives it. Generated from the
"Objects" tables of spec/. -/

namespace Sys2Proof.Machine

/-- vendor_id -/
abbrev O.vendorId : Nat := 0x1000 * 256 + 0x01
/-- architecture_generation -/
abbrev O.architectureGeneration : Nat := 0x1000 * 256 + 0x02
/-- variant -/
abbrev O.variant : Nat := 0x1000 * 256 + 0x03
/-- port_count -/
abbrev O.portCount : Nat := 0x1000 * 256 + 0x04
/-- hbm_stack_count -/
abbrev O.hbmStackCount : Nat := 0x1000 * 256 + 0x05
/-- product_name -/
abbrev O.productName : Nat := 0x1000 * 256 + 0x06
/-- stepping -/
abbrev O.stepping : Nat := 0x1000 * 256 + 0x07
/-- serial_number -/
abbrev O.serialNumber : Nat := 0x1000 * 256 + 0x08
/-- node_id -/
abbrev O.nodeId : Nat := 0x2200 * 256 + 0x01
/-- span_coords -/
abbrev O.spanCoords : Nat := 0x2200 * 256 + 0x02
/-- span_levels -/
abbrev O.spanLevels : Nat := 0x2200 * 256 + 0x03
/-- rep_tray -/
abbrev O.repTray : Nat := 0x2200 * 256 + 0x04
/-- rep_tray_group -/
abbrev O.repTrayGroup : Nat := 0x2200 * 256 + 0x05
/-- rep_span -/
abbrev O.repSpan : Nat := 0x2200 * 256 + 0x06
/-- unit_path of a unit index -/
abbrev O.unitPath (u : Nat) : Nat := u * 256 + 0x01
/-- unit_kind of a unit index -/
abbrev O.unitKind (u : Nat) : Nat := u * 256 + 0x02
/-- unit_state of a unit index -/
abbrev O.unitState (u : Nat) : Nat := u * 256 + 0x03
/-- unit_command of a unit index -/
abbrev O.unitCommand (u : Nat) : Nat := u * 256 + 0x04
/-- unit_epoch of a unit index -/
abbrev O.unitEpoch (u : Nat) : Nat := u * 256 + 0x05
/-- sync_window of a unit index -/
abbrev O.unitSyncWindow (u : Nat) : Nat := u * 256 + 0x06
/-- work_queue of a unit index -/
abbrev O.unitWorkQueue (u : Nat) : Nat := u * 256 + 0x07
/-- child_count of a unit index -/
abbrev O.unitChildCount (u : Nat) : Nat := u * 256 + 0x08
/-- steal_enable of a unit index -/
abbrev O.unitStealEnable (u : Nat) : Nat := u * 256 + 0x09
/-- ops_completed of a unit index -/
abbrev O.unitOpsCompleted (u : Nat) : Nat := u * 256 + 0x0A
/-- busy_ticks of a unit index -/
abbrev O.unitBusyTicks (u : Nat) : Nat := u * 256 + 0x0B
/-- errors of a unit index -/
abbrev O.unitErrors (u : Nat) : Nat := u * 256 + 0x0C
/-- aggregate_missing of a unit index -/
abbrev O.unitAggregateMissing (u : Nat) : Nat := u * 256 + 0x0D
/-- owner_tenant of a unit index -/
abbrev O.unitOwnerTenant (u : Nat) : Nat := u * 256 + 0x0E
/-- posted_lifetime_us -/
abbrev O.postedLifetimeUs : Nat := 0x8003 * 256 + 0x20
/-- wait_timeout_default_us -/
abbrev O.waitTimeoutDefaultUs : Nat := 0x8003 * 256 + 0x21
/-- wait_table_used -/
abbrev O.waitTableUsed : Nat := 0x8003 * 256 + 0x22
/-- wait_dump_base -/
abbrev O.waitDumpBase : Nat := 0x8003 * 256 + 0x23
/-- wait_dump_size -/
abbrev O.waitDumpSize : Nat := 0x8003 * 256 + 0x24
/-- wait_dumps_written -/
abbrev O.waitDumpsWritten : Nat := 0x8003 * 256 + 0x25
/-- wait_break -/
abbrev O.waitBreak : Nat := 0x8003 * 256 + 0x26
/-- queue_contexts_cached -/
abbrev O.queueContextsCached : Nat := 0x8003 * 256 + 0x27
/-- queue_contexts_pinned -/
abbrev O.queueContextsPinned : Nat := 0x8003 * 256 + 0x28
/-- queue_context_misses -/
abbrev O.queueContextMisses : Nat := 0x8003 * 256 + 0x29
/-- posted_lost_total -/
abbrev O.postedLostTotal : Nat := 0x8003 * 256 + 0x2A
/-- plan_slots -/
abbrev O.planSlots : Nat := 0x5000 * 256 + 0x01
/-- token_hop_bound_ticks -/
abbrev O.tokenHopBoundTicks : Nat := 0x5000 * 256 + 0x02
/-- max_image_bytes -/
abbrev O.maxImageBytes : Nat := 0x5000 * 256 + 0x03
/-- slips_total -/
abbrev O.slipsTotal : Nat := 0x5000 * 256 + 0x04
/-- late_tokens -/
abbrev O.lateTokens : Nat := 0x5000 * 256 + 0x05
/-- missed_deadlines -/
abbrev O.missedDeadlines : Nat := 0x5000 * 256 + 0x06
/-- slack_zero -/
abbrev O.slackZero : Nat := 0x5000 * 256 + 0x07
/-- slack_one -/
abbrev O.slackOne : Nat := 0x5000 * 256 + 0x08
/-- plan_state, 0x5001 + n -/
abbrev O.planState (n : Nat) : Nat := (0x5001 + n) * 256 + 0x01
/-- plan_id, 0x5001 + n -/
abbrev O.planId (n : Nat) : Nat := (0x5001 + n) * 256 + 0x02
/-- image_addr, 0x5001 + n -/
abbrev O.planImageAddr (n : Nat) : Nat := (0x5001 + n) * 256 + 0x03
/-- image_len, 0x5001 + n -/
abbrev O.planImageLen (n : Nat) : Nat := (0x5001 + n) * 256 + 0x04
/-- plan_command, 0x5001 + n -/
abbrev O.planCommand (n : Nat) : Nat := (0x5001 + n) * 256 + 0x05
/-- start_ftc, 0x5001 + n -/
abbrev O.planStartFtc (n : Nat) : Nat := (0x5001 + n) * 256 + 0x06
/-- load_status, 0x5001 + n -/
abbrev O.planLoadStatus (n : Nat) : Nat := (0x5001 + n) * 256 + 0x07
/-- load_fail_claim, 0x5001 + n -/
abbrev O.planLoadFailClaim (n : Nat) : Nat := (0x5001 + n) * 256 + 0x08
/-- load_fail_section, 0x5001 + n -/
abbrev O.planLoadFailSection (n : Nat) : Nat := (0x5001 + n) * 256 + 0x09
/-- arm_status, 0x5001 + n -/
abbrev O.planArmStatus (n : Nat) : Nat := (0x5001 + n) * 256 + 0x0A
/-- arm_fail_member, 0x5001 + n -/
abbrev O.planArmFailMember (n : Nat) : Nat := (0x5001 + n) * 256 + 0x0B
/-- halt_cause, 0x5001 + n -/
abbrev O.planHaltCause (n : Nat) : Nat := (0x5001 + n) * 256 + 0x0C
/-- resumable, 0x5001 + n -/
abbrev O.planResumable (n : Nat) : Nat := (0x5001 + n) * 256 + 0x0D
/-- drained, 0x5001 + n -/
abbrev O.planDrained (n : Nat) : Nat := (0x5001 + n) * 256 + 0x0E
/-- member_index, 0x5001 + n -/
abbrev O.planMemberIndex (n : Nat) : Nat := (0x5001 + n) * 256 + 0x0F
/-- member_count, 0x5001 + n -/
abbrev O.planMemberCount (n : Nat) : Nat := (0x5001 + n) * 256 + 0x10
/-- plan_tick, 0x5001 + n -/
abbrev O.planTick (n : Nat) : Nat := (0x5001 + n) * 256 + 0x11
/-- rotation, 0x5001 + n -/
abbrev O.planRotation (n : Nat) : Nat := (0x5001 + n) * 256 + 0x12
/-- quanta_this_rotation, 0x5001 + n -/
abbrev O.planQuantaThisRotation (n : Nat) : Nat := (0x5001 + n) * 256 + 0x13
/-- slips_total, 0x5001 + n -/
abbrev O.planSlipsTotal (n : Nat) : Nat := (0x5001 + n) * 256 + 0x14
/-- last_slip_ftc, 0x5001 + n -/
abbrev O.planLastSlipFtc (n : Nat) : Nat := (0x5001 + n) * 256 + 0x15
/-- last_slip_origin, 0x5001 + n -/
abbrev O.planLastSlipOrigin (n : Nat) : Nat := (0x5001 + n) * 256 + 0x16
/-- last_slip_cause, 0x5001 + n -/
abbrev O.planLastSlipCause (n : Nat) : Nat := (0x5001 + n) * 256 + 0x17
/-- halt_ftc, 0x5001 + n -/
abbrev O.planHaltFtc (n : Nat) : Nat := (0x5001 + n) * 256 + 0x18
/-- late_halt, 0x5001 + n -/
abbrev O.planLateHalt (n : Nat) : Nat := (0x5001 + n) * 256 + 0x19
/-- discarded_exchanges, 0x5001 + n -/
abbrev O.planDiscardedExchanges (n : Nat) : Nat := (0x5001 + n) * 256 + 0x1A
/-- last_mark, 0x5001 + n -/
abbrev O.planLastMark (n : Nat) : Nat := (0x5001 + n) * 256 + 0x1B
/-- ftc -/
abbrev O.ftc : Nat := 0x2100 * 256 + 0x01
/-- time_lock_state -/
abbrev O.timeLockState : Nat := 0x2100 * 256 + 0x02
/-- time_root_node -/
abbrev O.timeRootNode : Nat := 0x2100 * 256 + 0x03
/-- time_backup_root_node -/
abbrev O.timeBackupRootNode : Nat := 0x2100 * 256 + 0x04
/-- time_parent_port -/
abbrev O.timeParentPort : Nat := 0x2100 * 256 + 0x05
/-- time_hops -/
abbrev O.timeHops : Nat := 0x2100 * 256 + 0x06
/-- offset_estimate -/
abbrev O.offsetEstimate : Nat := 0x2100 * 256 + 0x07
/-- holdover_limit_us -/
abbrev O.holdoverLimitUs : Nat := 0x2100 * 256 + 0x08
/-- sync_interval_us -/
abbrev O.syncIntervalUs : Nat := 0x2100 * 256 + 0x09
/-- time_lock_losses -/
abbrev O.timeLockLosses : Nat := 0x2100 * 256 + 0x0A
/-- ftc_set -/
abbrev O.ftcSet : Nat := 0x2100 * 256 + 0x0B
/-- port_delay_ps -/
abbrev O.portDelayPs0 : Nat := 0x2100 * 256 + 0x10
/-- port_delay_ps -/
abbrev O.portDelayPs1 : Nat := 0x2100 * 256 + 0x11
/-- port_delay_ps -/
abbrev O.portDelayPs2 : Nat := 0x2100 * 256 + 0x12
/-- port_delay_ps -/
abbrev O.portDelayPs3 : Nat := 0x2100 * 256 + 0x13
/-- port_delay_ps -/
abbrev O.portDelayPs4 : Nat := 0x2100 * 256 + 0x14
/-- port_delay_ps -/
abbrev O.portDelayPs5 : Nat := 0x2100 * 256 + 0x15
/-- port_delay_ps -/
abbrev O.portDelayPs6 : Nat := 0x2100 * 256 + 0x16
/-- port_delay_ps -/
abbrev O.portDelayPs7 : Nat := 0x2100 * 256 + 0x17
/-- port_delay_ps -/
abbrev O.portDelayPs8 : Nat := 0x2100 * 256 + 0x18
/-- port_delay_ps -/
abbrev O.portDelayPs9 : Nat := 0x2100 * 256 + 0x19
/-- port_delay_ps -/
abbrev O.portDelayPs10 : Nat := 0x2100 * 256 + 0x1A
/-- port_delay_ps -/
abbrev O.portDelayPs11 : Nat := 0x2100 * 256 + 0x1B
/-- port_delay_ps -/
abbrev O.portDelayPs12 : Nat := 0x2100 * 256 + 0x1C
/-- port_delay_ps -/
abbrev O.portDelayPs13 : Nat := 0x2100 * 256 + 0x1D
/-- port_delay_ps -/
abbrev O.portDelayPs14 : Nat := 0x2100 * 256 + 0x1E
/-- port_delay_ps -/
abbrev O.portDelayPs15 : Nat := 0x2100 * 256 + 0x1F
/-- port_delay_ps -/
abbrev O.portDelayPs16 : Nat := 0x2100 * 256 + 0x20
/-- port_delay_ps -/
abbrev O.portDelayPs17 : Nat := 0x2100 * 256 + 0x21
/-- port_delay_ps -/
abbrev O.portDelayPs18 : Nat := 0x2100 * 256 + 0x22
/-- port_delay_ps -/
abbrev O.portDelayPs19 : Nat := 0x2100 * 256 + 0x23
/-- port_delay_ps -/
abbrev O.portDelayPs20 : Nat := 0x2100 * 256 + 0x24
/-- port_delay_ps -/
abbrev O.portDelayPs21 : Nat := 0x2100 * 256 + 0x25
/-- port_delay_ps -/
abbrev O.portDelayPs22 : Nat := 0x2100 * 256 + 0x26
/-- port_delay_ps -/
abbrev O.portDelayPs23 : Nat := 0x2100 * 256 + 0x27
/-- port_delay_ps -/
abbrev O.portDelayPs24 : Nat := 0x2100 * 256 + 0x28
/-- port_delay_ps -/
abbrev O.portDelayPs25 : Nat := 0x2100 * 256 + 0x29
/-- port_delay_ps -/
abbrev O.portDelayPs26 : Nat := 0x2100 * 256 + 0x2A
/-- port_delay_ps -/
abbrev O.portDelayPs27 : Nat := 0x2100 * 256 + 0x2B
/-- port_delay_ps -/
abbrev O.portDelayPs28 : Nat := 0x2100 * 256 + 0x2C
/-- port_delay_ps -/
abbrev O.portDelayPs29 : Nat := 0x2100 * 256 + 0x2D
/-- port_delay_ps -/
abbrev O.portDelayPs30 : Nat := 0x2100 * 256 + 0x2E
/-- port_delay_ps -/
abbrev O.portDelayPs31 : Nat := 0x2100 * 256 + 0x2F
/-- port_delay_ps -/
abbrev O.portDelayPs32 : Nat := 0x2100 * 256 + 0x30
/-- port_delay_ps -/
abbrev O.portDelayPs33 : Nat := 0x2100 * 256 + 0x31
/-- port_delay_ps -/
abbrev O.portDelayPs34 : Nat := 0x2100 * 256 + 0x32
/-- port_delay_ps -/
abbrev O.portDelayPs35 : Nat := 0x2100 * 256 + 0x33
/-- bundle_address of a floret index -/
abbrev O.floretBundleAddress (u : Nat) : Nat := u * 256 + 0x20
/-- fault_status of a floret index -/
abbrev O.floretFaultStatus (u : Nat) : Nat := u * 256 + 0x21
/-- fault_slot of a floret index -/
abbrev O.floretFaultSlot (u : Nat) : Nat := u * 256 + 0x22
/-- fault_bundle of a floret index -/
abbrev O.floretFaultBundle (u : Nat) : Nat := u * 256 + 0x23
/-- bundles_issued of a floret index -/
abbrev O.floretBundlesIssued (u : Nat) : Nat := u * 256 + 0x24
/-- mac_busy_cycles of a floret index -/
abbrev O.floretMacBusyCycles (u : Nat) : Nat := u * 256 + 0x25
/-- overflow_events of a floret index -/
abbrev O.floretOverflowEvents (u : Nat) : Nat := u * 256 + 0x26
/-- invalid_events of a floret index -/
abbrev O.floretInvalidEvents (u : Nat) : Nat := u * 256 + 0x27
/-- outstanding_remote of a floret index -/
abbrev O.floretOutstandingRemote (u : Nat) : Nat := u * 256 + 0x28
/-- clock_mhz of a floret index -/
abbrev O.floretClockMhz (u : Nat) : Nat := u * 256 + 0x29
/-- lane of a cluster index -/
abbrev O.clusterLane (u : Nat) : Nat := u * 256 + 0x20
/-- tasks_run of a cluster index -/
abbrev O.clusterTasksRun (u : Nat) : Nat := u * 256 + 0x21
/-- tasks_stolen_in of a cluster index -/
abbrev O.clusterTasksStolenIn (u : Nat) : Nat := u * 256 + 0x22
/-- tasks_stolen_out of a cluster index -/
abbrev O.clusterTasksStolenOut (u : Nat) : Nat := u * 256 + 0x23
/-- commit_stall_cycles of a cluster index -/
abbrev O.clusterCommitStallCycles (u : Nat) : Nat := u * 256 + 0x24
/-- pool_ranges of a cluster index -/
abbrev O.clusterPoolRanges (u : Nat) : Nat := u * 256 + 0x25
/-- code_cache_misses of a cluster index -/
abbrev O.clusterCodeCacheMisses (u : Nat) : Nat := u * 256 + 0x26
/-- millstone_count -/
abbrev O.millstoneCount : Nat := 0x3800 * 256 + 0x01
/-- flume_count -/
abbrev O.flumeCount : Nat := 0x3800 * 256 + 0x02
/-- bolter_count -/
abbrev O.bolterCount : Nat := 0x3800 * 256 + 0x03
/-- job_count -/
abbrev O.jobCount : Nat := 0x3800 * 256 + 0x04
/-- jobs_open -/
abbrev O.jobsOpen : Nat := 0x3800 * 256 + 0x05
/-- job_select -/
abbrev O.jobSelect : Nat := 0x3800 * 256 + 0x06
/-- job_state -/
abbrev O.jobState : Nat := 0x3800 * 256 + 0x07
/-- job_kind -/
abbrev O.jobKind : Nat := 0x3800 * 256 + 0x08
/-- job_tenant -/
abbrev O.jobTenant : Nat := 0x3800 * 256 + 0x09
/-- job_epoch -/
abbrev O.jobEpoch : Nat := 0x3800 * 256 + 0x0A
/-- job_status -/
abbrev O.jobStatus : Nat := 0x3800 * 256 + 0x0B
/-- job_count1 -/
abbrev O.jobCount1 : Nat := 0x3800 * 256 + 0x0C
/-- job_abort -/
abbrev O.jobAbort : Nat := 0x3800 * 256 + 0x0D
/-- hold_limit_us -/
abbrev O.holdLimitUs : Nat := 0x3800 * 256 + 0x0E
/-- idle_timeout_default_us -/
abbrev O.idleTimeoutDefaultUs : Nat := 0x3800 * 256 + 0x0F
/-- held_timeouts -/
abbrev O.heldTimeouts : Nat := 0x3800 * 256 + 0x10
/-- exp_check_fails -/
abbrev O.expCheckFails : Nat := 0x3800 * 256 + 0x11
/-- duplicate_inputs -/
abbrev O.duplicateInputs : Nat := 0x3800 * 256 + 0x12
/-- saturated_chunks -/
abbrev O.saturatedChunks : Nat := 0x3800 * 256 + 0x13
/-- nan_chunks -/
abbrev O.nanChunks : Nat := 0x3800 * 256 + 0x14
/-- dispatch_dropped -/
abbrev O.dispatchDropped : Nat := 0x3800 * 256 + 0x15
/-- lane of a hcuUnit index -/
abbrev O.hcuUnitLane (u : Nat) : Nat := u * 256 + 0x20
/-- input_bytes of a hcuUnit index -/
abbrev O.hcuUnitInputBytes (u : Nat) : Nat := u * 256 + 0x21
/-- output_bytes of a hcuUnit index -/
abbrev O.hcuUnitOutputBytes (u : Nat) : Nat := u * 256 + 0x22
/-- current_job of a hcuUnit index -/
abbrev O.hcuUnitCurrentJob (u : Nat) : Nat := u * 256 + 0x23
/-- jobs_queued of a hcuUnit index -/
abbrev O.hcuUnitJobsQueued (u : Nat) : Nat := u * 256 + 0x24
/-- staging_reserved of a hcuUnit index -/
abbrev O.hcuUnitStagingReserved (u : Nat) : Nat := u * 256 + 0x25
/-- cells_total -/
abbrev O.cellsTotal : Nat := 0x3400 * 256 + 0x01
/-- cells_free -/
abbrev O.cellsFree : Nat := 0x3400 * 256 + 0x02
/-- frame_descriptors_free -/
abbrev O.frameDescriptorsFree : Nat := 0x3400 * 256 + 0x03
/-- queue_entries_free -/
abbrev O.queueEntriesFree : Nat := 0x3400 * 256 + 0x04
/-- static_reserve_cells -/
abbrev O.staticReserveCells : Nat := 0x3400 * 256 + 0x05
/-- headroom_cells -/
abbrev O.headroomCells : Nat := 0x3400 * 256 + 0x06
/-- unassigned_cells -/
abbrev O.unassignedCells : Nat := 0x3400 * 256 + 0x07
/-- quota_wait_ns -/
abbrev O.quotaWaitNs : Nat := 0x3400 * 256 + 0x09
/-- switch_rank -/
abbrev O.switchRank : Nat := 0x3400 * 256 + 0x0A
/-- quota_refusals -/
abbrev O.quotaRefusals : Nat := 0x3400 * 256 + 0x0B
/-- quota_deferrals -/
abbrev O.quotaDeferrals : Nat := 0x3400 * 256 + 0x0C
/-- repins -/
abbrev O.repins : Nat := 0x3400 * 256 + 0x0D
/-- gaps_received -/
abbrev O.gapsReceived : Nat := 0x3400 * 256 + 0x0E
/-- escape_entries -/
abbrev O.escapeEntries : Nat := 0x3400 * 256 + 0x0F
/-- turn_violations -/
abbrev O.turnViolations : Nat := 0x3400 * 256 + 0x10
/-- mc_branches -/
abbrev O.mcBranches : Nat := 0x3400 * 256 + 0x11
/-- mc_hop_drops -/
abbrev O.mcHopDrops : Nat := 0x3400 * 256 + 0x12
/-- unroutable -/
abbrev O.unroutable : Nat := 0x3400 * 256 + 0x13
/-- lg_neighbour_mismatch -/
abbrev O.lgNeighbourMismatch : Nat := 0x3400 * 256 + 0x14
/-- weir_count -/
abbrev O.weirCount : Nat := 0x3500 * 256 + 0x01
/-- shaper_count -/
abbrev O.shaperCount : Nat := 0x3500 * 256 + 0x02
/-- wheel_slots -/
abbrev O.wheelSlots : Nat := 0x3500 * 256 + 0x03
/-- contract_count -/
abbrev O.contractCount : Nat := 0x3500 * 256 + 0x04
/-- gate_entries_per_port -/
abbrev O.gateEntriesPerPort : Nat := 0x3500 * 256 + 0x05
/-- be_defer_ns -/
abbrev O.beDeferNs : Nat := 0x3500 * 256 + 0x06
/-- pool_min_reservable_mbps -/
abbrev O.poolMinReservableMbps : Nat := 0x3500 * 256 + 0x07
/-- pool_min_committed_mbps -/
abbrev O.poolMinCommittedMbps : Nat := 0x3500 * 256 + 0x08
/-- default_weight -/
abbrev O.defaultWeight : Nat := 0x3500 * 256 + 0x09
/-- contract_queue_limit -/
abbrev O.contractQueueLimit : Nat := 0x3500 * 256 + 0x0A
/-- wheel_carries -/
abbrev O.wheelCarries : Nat := 0x3500 * 256 + 0x0B
/-- gate_overruns -/
abbrev O.gateOverruns : Nat := 0x3500 * 256 + 0x0C
/-- weir_drops -/
abbrev O.weirDrops : Nat := 0x3500 * 256 + 0x0D
/-- min_shortfalls -/
abbrev O.minShortfalls : Nat := 0x3500 * 256 + 0x0E
/-- contract_select -/
abbrev O.contractSelect : Nat := 0x3500 * 256 + 0x10
/-- contract_owed -/
abbrev O.contractOwed : Nat := 0x3500 * 256 + 0x11
/-- contract_capped -/
abbrev O.contractCapped : Nat := 0x3500 * 256 + 0x12
/-- contract_queued -/
abbrev O.contractQueued : Nat := 0x3500 * 256 + 0x13
/-- contract_bytes -/
abbrev O.contractBytes : Nat := 0x3500 * 256 + 0x14
/-- contract_shortfalls -/
abbrev O.contractShortfalls : Nat := 0x3500 * 256 + 0x15
/-- weir_select -/
abbrev O.weirSelect : Nat := 0x3500 * 256 + 0x18
/-- weir_refusals -/
abbrev O.weirRefusals : Nat := 0x3500 * 256 + 0x19
/-- part_state, 0x4000 + n -/
abbrev O.partState (n : Nat) : Nat := (0x4000 + n) * 256 + 0x01
/-- tenant, 0x4000 + n -/
abbrev O.partTenant (n : Nat) : Nat := (0x4000 + n) * 256 + 0x02
/-- host_node, 0x4000 + n -/
abbrev O.partHostNode (n : Nat) : Nat := (0x4000 + n) * 256 + 0x03
/-- base, 0x4000 + n -/
abbrev O.partBase (n : Nat) : Nat := (0x4000 + n) * 256 + 0x04
/-- size_pages, 0x4000 + n -/
abbrev O.partSizePages (n : Nat) : Nat := (0x4000 + n) * 256 + 0x05
/-- near_pages, 0x4000 + n -/
abbrev O.partNearPages (n : Nat) : Nat := (0x4000 + n) * 256 + 0x06
/-- far_pages, 0x4000 + n -/
abbrev O.partFarPages (n : Nat) : Nat := (0x4000 + n) * 256 + 0x07
/-- near_first, 0x4000 + n -/
abbrev O.partNearFirst (n : Nat) : Nat := (0x4000 + n) * 256 + 0x08
/-- near_count, 0x4000 + n -/
abbrev O.partNearCount (n : Nat) : Nat := (0x4000 + n) * 256 + 0x09
/-- far_first, 0x4000 + n -/
abbrev O.partFarFirst (n : Nat) : Nat := (0x4000 + n) * 256 + 0x0A
/-- far_count, 0x4000 + n -/
abbrev O.partFarCount (n : Nat) : Nat := (0x4000 + n) * 256 + 0x0B
/-- part_command, 0x4000 + n -/
abbrev O.partCommand (n : Nat) : Nat := (0x4000 + n) * 256 + 0x0C
/-- command_status, 0x4000 + n -/
abbrev O.partCommandStatus (n : Nat) : Nat := (0x4000 + n) * 256 + 0x0D
/-- clear_remaining, 0x4000 + n -/
abbrev O.partClearRemaining (n : Nat) : Nat := (0x4000 + n) * 256 + 0x0E
/-- static, 0x4000 + n -/
abbrev O.partStatic (n : Nat) : Nat := (0x4000 + n) * 256 + 0x0F
/-- degraded, 0x4000 + n -/
abbrev O.partDegraded (n : Nat) : Nat := (0x4000 + n) * 256 + 0x10
/-- counter_migration, 0x4000 + n -/
abbrev O.partCounterMigration (n : Nat) : Nat := (0x4000 + n) * 256 + 0x11
/-- layer_table_addr, 0x4000 + n -/
abbrev O.partLayerTableAddr (n : Nat) : Nat := (0x4000 + n) * 256 + 0x12
/-- layer_count, 0x4000 + n -/
abbrev O.partLayerCount (n : Nat) : Nat := (0x4000 + n) * 256 + 0x13
/-- map_pages, 0x4000 + n -/
abbrev O.partMapPages (n : Nat) : Nat := (0x4000 + n) * 256 + 0x14
/-- near_resident, 0x4000 + n -/
abbrev O.partNearResident (n : Nat) : Nat := (0x4000 + n) * 256 + 0x15
/-- pinned_pages, 0x4000 + n -/
abbrev O.partPinnedPages (n : Nat) : Nat := (0x4000 + n) * 256 + 0x16
/-- promotions, 0x4000 + n -/
abbrev O.partPromotions (n : Nat) : Nat := (0x4000 + n) * 256 + 0x17
/-- demotions, 0x4000 + n -/
abbrev O.partDemotions (n : Nat) : Nat := (0x4000 + n) * 256 + 0x18
/-- migration_cancels, 0x4000 + n -/
abbrev O.partMigrationCancels (n : Nat) : Nat := (0x4000 + n) * 256 + 0x19
/-- prefetch_cancelled_resident, 0x4000 + n -/
abbrev O.partPrefetchCancelledResident (n : Nat) : Nat := (0x4000 + n) * 256 + 0x1A
/-- tier_errors, 0x4000 + n -/
abbrev O.partTierErrors (n : Nat) : Nat := (0x4000 + n) * 256 + 0x1B
/-- failed_pages, 0x4000 + n -/
abbrev O.partFailedPages (n : Nat) : Nat := (0x4000 + n) * 256 + 0x1C
/-- page_select, 0x4000 + n -/
abbrev O.partPageSelect (n : Nat) : Nat := (0x4000 + n) * 256 + 0x1D
/-- page_state, 0x4000 + n -/
abbrev O.partPageState (n : Nat) : Nat := (0x4000 + n) * 256 + 0x1E
/-- page_access, 0x4000 + n -/
abbrev O.partPageAccess (n : Nat) : Nat := (0x4000 + n) * 256 + 0x1F
/-- page_channel, 0x4000 + n -/
abbrev O.partPageChannel (n : Nat) : Nat := (0x4000 + n) * 256 + 0x20
/-- promotions_skipped, 0x4000 + n -/
abbrev O.partPromotionsSkipped (n : Nat) : Nat := (0x4000 + n) * 256 + 0x21
/-- prefetch_short, 0x4000 + n -/
abbrev O.partPrefetchShort (n : Nat) : Nat := (0x4000 + n) * 256 + 0x22
/-- pool_capacity_bytes -/
abbrev O.poolCapacityBytes : Nat := 0x8003 * 256 + 0x30
/-- near_frames_per_channel -/
abbrev O.nearFramesPerChannel : Nat := 0x8003 * 256 + 0x31
/-- tier_deadline_us -/
abbrev O.tierDeadlineUs : Nat := 0x8003 * 256 + 0x32
/-- channel_stall_us -/
abbrev O.channelStallUs : Nat := 0x8003 * 256 + 0x33
/-- migration_hold_limit_us -/
abbrev O.migrationHoldLimitUs : Nat := 0x8003 * 256 + 0x34
/-- promote_threshold -/
abbrev O.promoteThreshold : Nat := 0x8003 * 256 + 0x35
/-- counter_epoch_us -/
abbrev O.counterEpochUs : Nat := 0x8003 * 256 + 0x36
/-- init_clear_done -/
abbrev O.initClearDone : Nat := 0x8003 * 256 + 0x37
/-- prefetch_boundary_drops -/
abbrev O.prefetchBoundaryDrops : Nat := 0x8003 * 256 + 0x38
/-- poisoned_blocks -/
abbrev O.poisonedBlocks : Nat := 0x8003 * 256 + 0x39
/-- far_tier_tenants -/
abbrev O.farTierTenants : Nat := 0x8003 * 256 + 0x3A
/-- requests_served of a memUnit index -/
abbrev O.memUnitRequestsServed (u : Nat) : Nat := u * 256 + 0x20
/-- corrected_errors of a memUnit index -/
abbrev O.memUnitCorrectedErrors (u : Nat) : Nat := u * 256 + 0x21
/-- uncorrectable_errors of a memUnit index -/
abbrev O.memUnitUncorrectableErrors (u : Nat) : Nat := u * 256 + 0x22
/-- deadline_ends of a memUnit index -/
abbrev O.memUnitDeadlineEnds (u : Nat) : Nat := u * 256 + 0x23
/-- rate_limit_pct of a memUnit index -/
abbrev O.memUnitRateLimitPct (u : Nat) : Nat := u * 256 + 0x24
/-- kv_sessions_max -/
abbrev O.kvSessionsMax : Nat := 0x4400 * 256 + 0x01
/-- kv_handles -/
abbrev O.kvHandles : Nat := 0x4400 * 256 + 0x02
/-- kv_sessions_open -/
abbrev O.kvSessionsOpen : Nat := 0x4400 * 256 + 0x03
/-- kv_attend_active -/
abbrev O.kvAttendActive : Nat := 0x4400 * 256 + 0x04
/-- kv_attend_queued -/
abbrev O.kvAttendQueued : Nat := 0x4400 * 256 + 0x05
/-- kv_handle_quarantine_ms -/
abbrev O.kvHandleQuarantineMs : Nat := 0x4400 * 256 + 0x06
/-- kv_attends -/
abbrev O.kvAttends : Nat := 0x4400 * 256 + 0x07
/-- kv_attend_bytes -/
abbrev O.kvAttendBytes : Nat := 0x4400 * 256 + 0x08
/-- kv_pulls -/
abbrev O.kvPulls : Nat := 0x4400 * 256 + 0x09
/-- kv_expired -/
abbrev O.kvExpired : Nat := 0x4400 * 256 + 0x0A
/-- kv_evicted -/
abbrev O.kvEvicted : Nat := 0x4400 * 256 + 0x0B
/-- kv_header_check_fails -/
abbrev O.kvHeaderCheckFails : Nat := 0x4400 * 256 + 0x0C
/-- kv_moves -/
abbrev O.kvMoves : Nat := 0x4400 * 256 + 0x0D
/-- near_pin_short -/
abbrev O.nearPinShort : Nat := 0x4400 * 256 + 0x0E
/-- kv_store_select -/
abbrev O.kvStoreSelect : Nat := 0x4400 * 256 + 0x0F
/-- kv_session_select -/
abbrev O.kvSessionSelect : Nat := 0x4400 * 256 + 0x10
/-- kv_session_state -/
abbrev O.kvSessionState : Nat := 0x4400 * 256 + 0x11
/-- kv_session_base -/
abbrev O.kvSessionBase : Nat := 0x4400 * 256 + 0x12
/-- kv_session_slots -/
abbrev O.kvSessionSlots : Nat := 0x4400 * 256 + 0x13
/-- kv_session_last_access -/
abbrev O.kvSessionLastAccess : Nat := 0x4400 * 256 + 0x14
/-- kv_session_flags -/
abbrev O.kvSessionFlags : Nat := 0x4400 * 256 + 0x15
/-- kv_session_moved_node -/
abbrev O.kvSessionMovedNode : Nat := 0x4400 * 256 + 0x16
/-- store_partition, 0x4401 + n -/
abbrev O.storePartition (n : Nat) : Nat := (0x4401 + n) * 256 + 0x01
/-- store_enable, 0x4401 + n -/
abbrev O.storeEnable (n : Nat) : Nat := (0x4401 + n) * 256 + 0x02
/-- slot_bytes, 0x4401 + n -/
abbrev O.storeSlotBytes (n : Nat) : Nat := (0x4401 + n) * 256 + 0x03
/-- meta_pages, 0x4401 + n -/
abbrev O.storeMetaPages (n : Nat) : Nat := (0x4401 + n) * 256 + 0x04
/-- slots_total, 0x4401 + n -/
abbrev O.storeSlotsTotal (n : Nat) : Nat := (0x4401 + n) * 256 + 0x05
/-- slots_free, 0x4401 + n -/
abbrev O.storeSlotsFree (n : Nat) : Nat := (0x4401 + n) * 256 + 0x06
/-- retain_pct, 0x4401 + n -/
abbrev O.storeRetainPct (n : Nat) : Nat := (0x4401 + n) * 256 + 0x07
/-- retained_slots, 0x4401 + n -/
abbrev O.storeRetainedSlots (n : Nat) : Nat := (0x4401 + n) * 256 + 0x08
/-- store_sessions, 0x4401 + n -/
abbrev O.storeSessions (n : Nat) : Nat := (0x4401 + n) * 256 + 0x09
/-- store_status, 0x4401 + n -/
abbrev O.storeStatus (n : Nat) : Nat := (0x4401 + n) * 256 + 0x0A
/-- window_slots -/
abbrev O.windowSlots : Nat := 0x4800 * 256 + 0x01
/-- window_pages_max -/
abbrev O.windowPagesMax : Nat := 0x4800 * 256 + 0x02
/-- directory_entries -/
abbrev O.directoryEntries : Nat := 0x4800 * 256 + 0x03
/-- agent_slots -/
abbrev O.agentSlots : Nat := 0x4800 * 256 + 0x04
/-- hold_cycles -/
abbrev O.holdCycles : Nat := 0x4800 * 256 + 0x05
/-- snoop_timeout_us -/
abbrev O.snoopTimeoutUs : Nat := 0x4800 * 256 + 0x06
/-- window_pages_enabled -/
abbrev O.windowPagesEnabled : Nat := 0x4800 * 256 + 0x07
/-- entries_used -/
abbrev O.entriesUsed : Nat := 0x4800 * 256 + 0x08
/-- dir_evictions -/
abbrev O.dirEvictions : Nat := 0x4800 * 256 + 0x09
/-- back_invalidations -/
abbrev O.backInvalidations : Nat := 0x4800 * 256 + 0x0A
/-- hold_waits -/
abbrev O.holdWaits : Nat := 0x4800 * 256 + 0x0B
/-- spec_dropped -/
abbrev O.specDropped : Nat := 0x4800 * 256 + 0x0C
/-- spec_discarded -/
abbrev O.specDiscarded : Nat := 0x4800 * 256 + 0x0D
/-- spec_used -/
abbrev O.specUsed : Nat := 0x4800 * 256 + 0x0E
/-- agents_fenced -/
abbrev O.agentsFenced : Nat := 0x4800 * 256 + 0x0F
/-- poisoned_lines -/
abbrev O.poisonedLines : Nat := 0x4800 * 256 + 0x10
/-- stale_writebacks -/
abbrev O.staleWritebacks : Nat := 0x4800 * 256 + 0x11
/-- win_base, 0x4801 + n -/
abbrev O.winBase (n : Nat) : Nat := (0x4801 + n) * 256 + 0x01
/-- win_pages, 0x4801 + n -/
abbrev O.winPages (n : Nat) : Nat := (0x4801 + n) * 256 + 0x02
/-- win_partition, 0x4801 + n -/
abbrev O.winPartition (n : Nat) : Nat := (0x4801 + n) * 256 + 0x03
/-- win_back_offset, 0x4801 + n -/
abbrev O.winBackOffset (n : Nat) : Nat := (0x4801 + n) * 256 + 0x04
/-- win_enable, 0x4801 + n -/
abbrev O.winEnable (n : Nat) : Nat := (0x4801 + n) * 256 + 0x05
/-- win_status, 0x4801 + n -/
abbrev O.winStatus (n : Nat) : Nat := (0x4801 + n) * 256 + 0x06
/-- win_entries, 0x4801 + n -/
abbrev O.winEntries (n : Nat) : Nat := (0x4801 + n) * 256 + 0x07
/-- agent_node, 0x4821 + n -/
abbrev O.agentNode (n : Nat) : Nat := (0x4821 + n) * 256 + 0x01
/-- agent_port, 0x4821 + n -/
abbrev O.agentPort (n : Nat) : Nat := (0x4821 + n) * 256 + 0x02
/-- agent_tenant, 0x4821 + n -/
abbrev O.agentTenant (n : Nat) : Nat := (0x4821 + n) * 256 + 0x03
/-- agent_kind, 0x4821 + n -/
abbrev O.agentKind (n : Nat) : Nat := (0x4821 + n) * 256 + 0x04
/-- agent_fenced, 0x4821 + n -/
abbrev O.agentFenced (n : Nat) : Nat := (0x4821 + n) * 256 + 0x05
/-- agent_lines, 0x4821 + n -/
abbrev O.agentLines (n : Nat) : Nat := (0x4821 + n) * 256 + 0x06
/-- stream_count -/
abbrev O.streamCount : Nat := 0x4600 * 256 + 0x01
/-- block_bytes -/
abbrev O.blockBytes : Nat := 0x4600 * 256 + 0x02
/-- sample_blocks_max -/
abbrev O.sampleBlocksMax : Nat := 0x4600 * 256 + 0x03
/-- table_slots -/
abbrev O.tableSlots : Nat := 0x4600 * 256 + 0x04
/-- streams_enabled -/
abbrev O.streamsEnabled : Nat := 0x4600 * 256 + 0x05
/-- blocks_coded -/
abbrev O.blocksCoded : Nat := 0x4600 * 256 + 0x06
/-- blocks_raw -/
abbrev O.blocksRaw : Nat := 0x4600 * 256 + 0x07
/-- blocks_zero -/
abbrev O.blocksZero : Nat := 0x4600 * 256 + 0x08
/-- blocks_expanded -/
abbrev O.blocksExpanded : Nat := 0x4600 * 256 + 0x09
/-- bytes_accepted -/
abbrev O.bytesAccepted : Nat := 0x4600 * 256 + 0x0A
/-- bytes_stored -/
abbrev O.bytesStored : Nat := 0x4600 * 256 + 0x0B
/-- check_fails -/
abbrev O.checkFails : Nat := 0x4600 * 256 + 0x0C
/-- table_check_fails -/
abbrev O.tableCheckFails : Nat := 0x4600 * 256 + 0x0D
/-- stream_select -/
abbrev O.streamSelect : Nat := 0x4600 * 256 + 0x0E
/-- stream_state -/
abbrev O.streamState : Nat := 0x4600 * 256 + 0x0F
/-- stream_written -/
abbrev O.streamWritten : Nat := 0x4600 * 256 + 0x10
/-- stream_ratio_milli -/
abbrev O.streamRatioMilli : Nat := 0x4600 * 256 + 0x11
/-- stream_check_fails -/
abbrev O.streamCheckFails : Nat := 0x4600 * 256 + 0x12
/-- stream_damaged_slots -/
abbrev O.streamDamagedSlots : Nat := 0x4600 * 256 + 0x13
/-- meadow_arrays -/
abbrev O.meadowArrays : Nat := 0x4A00 * 256 + 0x01
/-- sketch_units -/
abbrev O.sketchUnits : Nat := 0x4A00 * 256 + 0x02
/-- index_slots -/
abbrev O.indexSlots : Nat := 0x4A00 * 256 + 0x03
/-- contexts_per_array -/
abbrev O.contextsPerArray : Nat := 0x4A00 * 256 + 0x04
/-- array_queue_depth -/
abbrev O.arrayQueueDepth : Nat := 0x4A00 * 256 + 0x05
/-- query_timeout_us -/
abbrev O.queryTimeoutUs : Nat := 0x4A00 * 256 + 0x06
/-- queries_completed -/
abbrev O.queriesCompleted : Nat := 0x4A00 * 256 + 0x07
/-- sketches_compared -/
abbrev O.sketchesCompared : Nat := 0x4A00 * 256 + 0x08
/-- vectors_reranked -/
abbrev O.vectorsReranked : Nat := 0x4A00 * 256 + 0x09
/-- bad_edges -/
abbrev O.badEdges : Nat := 0x4A00 * 256 + 0x0A
/-- prefetch_unused -/
abbrev O.prefetchUnused : Nat := 0x4A00 * 256 + 0x0B
/-- short_results -/
abbrev O.shortResults : Nat := 0x4A00 * 256 + 0x0C
/-- queries_refused -/
abbrev O.queriesRefused : Nat := 0x4A00 * 256 + 0x0D
/-- index_select -/
abbrev O.indexSelect : Nat := 0x4A00 * 256 + 0x10
/-- index_state -/
abbrev O.indexState : Nat := 0x4A00 * 256 + 0x11
/-- index_tenant -/
abbrev O.indexTenant : Nat := 0x4A00 * 256 + 0x12
/-- index_items -/
abbrev O.indexItems : Nat := 0x4A00 * 256 + 0x13
/-- index_tombstoned -/
abbrev O.indexTombstoned : Nat := 0x4A00 * 256 + 0x14
/-- index_side_count -/
abbrev O.indexSideCount : Nat := 0x4A00 * 256 + 0x15
/-- index_queries -/
abbrev O.indexQueries : Nat := 0x4A00 * 256 + 0x16
/-- index_merges -/
abbrev O.indexMerges : Nat := 0x4A00 * 256 + 0x17
/-- contexts_active of a meadowUnit index -/
abbrev O.meadowUnitContextsActive (u : Nat) : Nat := u * 256 + 0x20
/-- compares of a meadowUnit index -/
abbrev O.meadowUnitCompares (u : Nat) : Nat := u * 256 + 0x21
/-- bytes_read of a meadowUnit index -/
abbrev O.meadowUnitBytesRead (u : Nat) : Nat := u * 256 + 0x22
/-- shard_queries of a meadowUnit index -/
abbrev O.meadowUnitShardQueries (u : Nat) : Nat := u * 256 + 0x23
/-- tenants_max -/
abbrev O.tenantsMax : Nat := 0x5400 * 256 + 0x01
/-- tenants_enabled -/
abbrev O.tenantsEnabled : Nat := 0x5400 * 256 + 0x02
/-- spdm_sessions -/
abbrev O.spdmSessions : Nat := 0x5400 * 256 + 0x03
/-- model_key_slots -/
abbrev O.modelKeySlots : Nat := 0x5400 * 256 + 0x04
/-- model_keys_held -/
abbrev O.modelKeysHeld : Nat := 0x5400 * 256 + 0x05
/-- clear_log_seq -/
abbrev O.clearLogSeq : Nat := 0x5400 * 256 + 0x06
/-- clear_log_select -/
abbrev O.clearLogSelect : Nat := 0x5400 * 256 + 0x07
/-- clear_log_record -/
abbrev O.clearLogRecord : Nat := 0x5400 * 256 + 0x08
/-- measurement_select -/
abbrev O.measurementSelect : Nat := 0x5400 * 256 + 0x09
/-- measurement_digest -/
abbrev O.measurementDigest : Nat := 0x5400 * 256 + 0x0A
/-- fw_svn -/
abbrev O.fwSvn : Nat := 0x5400 * 256 + 0x0B
/-- fw_update_command -/
abbrev O.fwUpdateCommand : Nat := 0x5400 * 256 + 0x0C
/-- fw_update_status -/
abbrev O.fwUpdateStatus : Nat := 0x5400 * 256 + 0x0D
/-- rekey_soft_log2 -/
abbrev O.rekeySoftLog2 : Nat := 0x5400 * 256 + 0x0E
/-- tag_fails -/
abbrev O.tagFails : Nat := 0x5400 * 256 + 0x0F
/-- rekeys -/
abbrev O.rekeys : Nat := 0x5400 * 256 + 0x10
/-- foreign_frames -/
abbrev O.foreignFrames : Nat := 0x5400 * 256 + 0x11
/-- mgmt_plan_key_digest -/
abbrev O.mgmtPlanKeyDigest : Nat := 0x5400 * 256 + 0x12
/-- tenant_enable, 0x5401 + n -/
abbrev O.tenantEnable (n : Nat) : Nat := (0x5401 + n) * 256 + 0x01
/-- require_encryption, 0x5401 + n -/
abbrev O.tenantRequireEncryption (n : Nat) : Nat := (0x5401 + n) * 256 + 0x02
/-- key_service_digest, 0x5401 + n -/
abbrev O.tenantKeyServiceDigest (n : Nat) : Nat := (0x5401 + n) * 256 + 0x03
/-- plan_key_digest_0 to plan_key_digest_3, 0x5401 + n -/
abbrev O.tenantPlanKeyDigest0 (n : Nat) : Nat := (0x5401 + n) * 256 + 0x04
/-- plan_key_digest_0 to plan_key_digest_3, 0x5401 + n -/
abbrev O.tenantPlanKeyDigest1 (n : Nat) : Nat := (0x5401 + n) * 256 + 0x05
/-- plan_key_digest_0 to plan_key_digest_3, 0x5401 + n -/
abbrev O.tenantPlanKeyDigest2 (n : Nat) : Nat := (0x5401 + n) * 256 + 0x06
/-- plan_key_digest_0 to plan_key_digest_3, 0x5401 + n -/
abbrev O.tenantPlanKeyDigest3 (n : Nat) : Nat := (0x5401 + n) * 256 + 0x07
/-- tenant_status, 0x5401 + n -/
abbrev O.tenantStatus (n : Nat) : Nat := (0x5401 + n) * 256 + 0x08
/-- model_keys, 0x5401 + n -/
abbrev O.tenantModelKeys (n : Nat) : Nat := (0x5401 + n) * 256 + 0x09
/-- sealed_partitions, 0x5401 + n -/
abbrev O.tenantSealedPartitions (n : Nat) : Nat := (0x5401 + n) * 256 + 0x0A
/-- port_mode, 0x3000 + 16 n -/
abbrev O.portMode (n : Nat) : Nat := (0x3000 + 16 * n) * 256 + 0x01
/-- link_state, 0x3000 + 16 n -/
abbrev O.portLinkState (n : Nat) : Nat := (0x3000 + 16 * n) * 256 + 0x02
/-- lanes_in_use, 0x3000 + 16 n -/
abbrev O.portLanesInUse (n : Nat) : Nat := (0x3000 + 16 * n) * 256 + 0x03
/-- generation, 0x3000 + 16 n -/
abbrev O.portGeneration (n : Nat) : Nat := (0x3000 + 16 * n) * 256 + 0x04
/-- features, 0x3000 + 16 n -/
abbrev O.portFeatures (n : Nat) : Nat := (0x3000 + 16 * n) * 256 + 0x05
/-- peer_node, 0x3000 + 16 n -/
abbrev O.portPeerNode (n : Nat) : Nat := (0x3000 + 16 * n) * 256 + 0x06
/-- replay_timeout_ns, 0x3000 + 16 n -/
abbrev O.portReplayTimeoutNs (n : Nat) : Nat := (0x3000 + 16 * n) * 256 + 0x07
/-- replay_max_attempts, 0x3000 + 16 n -/
abbrev O.portReplayMaxAttempts (n : Nat) : Nat := (0x3000 + 16 * n) * 256 + 0x08
/-- lane_degrade_threshold, 0x3000 + 16 n -/
abbrev O.portLaneDegradeThreshold (n : Nat) : Nat := (0x3000 + 16 * n) * 256 + 0x09
/-- replays, 0x3000 + 16 n -/
abbrev O.portReplays (n : Nat) : Nat := (0x3000 + 16 * n) * 256 + 0x0A
/-- replay_giveups, 0x3000 + 16 n -/
abbrev O.portReplayGiveups (n : Nat) : Nat := (0x3000 + 16 * n) * 256 + 0x0B
/-- uncorrectable_words, 0x3000 + 16 n -/
abbrev O.portUncorrectableWords (n : Nat) : Nat := (0x3000 + 16 * n) * 256 + 0x0C
/-- corrected_symbols, 0x3000 + 16 n -/
abbrev O.portCorrectedSymbols (n : Nat) : Nat := (0x3000 + 16 * n) * 256 + 0x0D
/-- hdr_check_fails, 0x3000 + 16 n -/
abbrev O.portHdrCheckFails (n : Nat) : Nat := (0x3000 + 16 * n) * 256 + 0x0E
/-- degrades, 0x3000 + 16 n -/
abbrev O.portDegrades (n : Nat) : Nat := (0x3000 + 16 * n) * 256 + 0x0F
/-- link_downs, 0x3000 + 16 n -/
abbrev O.portLinkDowns (n : Nat) : Nat := (0x3000 + 16 * n) * 256 + 0x10
/-- replay_buffer_stalls, 0x3000 + 16 n -/
abbrev O.portReplayBufferStalls (n : Nat) : Nat := (0x3000 + 16 * n) * 256 + 0x11
/-- aperture_base, 0x3000 + 16 n -/
abbrev O.portApertureBase (n : Nat) : Nat := (0x3000 + 16 * n) * 256 + 0x12
/-- aperture_size, 0x3000 + 16 n -/
abbrev O.portApertureSize (n : Nat) : Nat := (0x3000 + 16 * n) * 256 + 0x13
/-- port_tc, 0x3000 + 16 n -/
abbrev O.portTc (n : Nat) : Nat := (0x3000 + 16 * n) * 256 + 0x14
/-- dict_unlock -/
abbrev O.dictUnlock : Nat := 0x1100 * 256 + 0x01
/-- mac_address -/
abbrev O.macAddress : Nat := 0x1100 * 256 + 0x02
/-- ipv6_link_local -/
abbrev O.ipv6LinkLocal : Nat := 0x1100 * 256 + 0x03
/-- ipv6_address -/
abbrev O.ipv6Address : Nat := 0x1100 * 256 + 0x04
/-- ipv6_prefix_len -/
abbrev O.ipv6PrefixLen : Nat := 0x1100 * 256 + 0x05
/-- gdp_udp_port -/
abbrev O.gdpUdpPort : Nat := 0x1100 * 256 + 0x06
/-- gdp_secure_writes -/
abbrev O.gdpSecureWrites : Nat := 0x1100 * 256 + 0x07
/-- mgmt_requester_digest -/
abbrev O.mgmtRequesterDigest : Nat := 0x1100 * 256 + 0x08
/-- event_dest_0 to event_dest_3 -/
abbrev O.eventDest0 : Nat := 0x1100 * 256 + 0x09
/-- event_dest_0 to event_dest_3 -/
abbrev O.eventDest1 : Nat := 0x1100 * 256 + 0x0A
/-- event_dest_0 to event_dest_3 -/
abbrev O.eventDest2 : Nat := 0x1100 * 256 + 0x0B
/-- event_dest_0 to event_dest_3 -/
abbrev O.eventDest3 : Nat := 0x1100 * 256 + 0x0C
/-- lane_state -/
abbrev O.laneState : Nat := 0x1100 * 256 + 0x0D
/-- gdp_frames_received -/
abbrev O.gdpFramesReceived : Nat := 0x1100 * 256 + 0x0E
/-- gdp_frames_dropped -/
abbrev O.gdpFramesDropped : Nat := 0x1100 * 256 + 0x0F
/-- gdp_replies_replayed -/
abbrev O.gdpRepliesReplayed : Nat := 0x1100 * 256 + 0x10
/-- gdp_rate_limit -/
abbrev O.gdpRateLimit : Nat := 0x1100 * 256 + 0x11
/-- event_seq -/
abbrev O.eventSeq : Nat := 0x1800 * 256 + 0x01
/-- event_raise -/
abbrev O.eventRaise : Nat := 0x1800 * 256 + 0x02
/-- event_log_select -/
abbrev O.eventLogSelect : Nat := 0x1800 * 256 + 0x03
/-- event_log_record -/
abbrev O.eventLogRecord : Nat := 0x1800 * 256 + 0x04
/-- events_dropped -/
abbrev O.eventsDropped : Nat := 0x1800 * 256 + 0x05
/-- events_undelivered -/
abbrev O.eventsUndelivered : Nat := 0x1800 * 256 + 0x06
/-- vector_select -/
abbrev O.vectorSelect : Nat := 0x1800 * 256 + 0x10
/-- vector_enable -/
abbrev O.vectorEnable : Nat := 0x1800 * 256 + 0x11
/-- vector_gdp_mask -/
abbrev O.vectorGdpMask : Nat := 0x1800 * 256 + 0x12
/-- vector_sync_addr -/
abbrev O.vectorSyncAddr : Nat := 0x1800 * 256 + 0x13
/-- vector_sync_tc -/
abbrev O.vectorSyncTc : Nat := 0x1800 * 256 + 0x14
/-- vector_msix -/
abbrev O.vectorMsix : Nat := 0x1800 * 256 + 0x15
/-- vector_smbalert -/
abbrev O.vectorSmbalert : Nat := 0x1800 * 256 + 0x16
/-- vector_holdoff_us -/
abbrev O.vectorHoldoffUs : Nat := 0x1800 * 256 + 0x17
/-- smb_address -/
abbrev O.smbAddress : Nat := 0x1101 * 256 + 0x01
/-- smb_errors -/
abbrev O.smbErrors : Nat := 0x1101 * 256 + 0x02
/-- spi_frame_errors -/
abbrev O.spiFrameErrors : Nat := 0x1101 * 256 + 0x03
/-- spi_check_fails -/
abbrev O.spiCheckFails : Nat := 0x1101 * 256 + 0x04
/-- sda_stuck_us -/
abbrev O.sdaStuckUs : Nat := 0x1101 * 256 + 0x05
/-- tray_bus_khz -/
abbrev O.trayBusKhz : Nat := 0x1101 * 256 + 0x06
/-- tray_bus_i3c -/
abbrev O.trayBusI3c : Nat := 0x1101 * 256 + 0x07
/-- bus_failures -/
abbrev O.busFailures : Nat := 0x1101 * 256 + 0x08
/-- sensor_select -/
abbrev O.sensorSelect : Nat := 0x1101 * 256 + 0x10
/-- sensor_target -/
abbrev O.sensorTarget : Nat := 0x1101 * 256 + 0x11
/-- sensor_format -/
abbrev O.sensorFormat : Nat := 0x1101 * 256 + 0x12
/-- sensor_value -/
abbrev O.sensorValue : Nat := 0x1101 * 256 + 0x13
/-- sensor_status -/
abbrev O.sensorStatus : Nat := 0x1101 * 256 + 0x14
/-- watchdog_timeout_ms -/
abbrev O.watchdogTimeoutMs : Nat := 0x2200 * 256 + 0x0F
/-- watchdog_expiries -/
abbrev O.watchdogExpiries : Nat := 0x2200 * 256 + 0x10
/-- watchdog_missing -/
abbrev O.watchdogMissing : Nat := 0x2200 * 256 + 0x11
/-- input_mv -/
abbrev O.inputMv : Nat := 0x2000 * 256 + 0x01
/-- input_power_w -/
abbrev O.inputPowerW : Nat := 0x2000 * 256 + 0x02
/-- power_limit_w -/
abbrev O.powerLimitW : Nat := 0x2000 * 256 + 0x03
/-- throttle_floor_w -/
abbrev O.throttleFloorW : Nat := 0x2000 * 256 + 0x04
/-- sag_release_us -/
abbrev O.sagReleaseUs : Nat := 0x2000 * 256 + 0x05
/-- throttle_state -/
abbrev O.throttleState : Nat := 0x2000 * 256 + 0x06
/-- sag_throttles -/
abbrev O.sagThrottles : Nat := 0x2000 * 256 + 0x07
/-- throttle_ticks -/
abbrev O.throttleTicks : Nat := 0x2000 * 256 + 0x08
/-- brownouts -/
abbrev O.brownouts : Nat := 0x2000 * 256 + 0x09
/-- junction_max_c16 -/
abbrev O.junctionMaxC16 : Nat := 0x2000 * 256 + 0x0A
/-- thermal_trips -/
abbrev O.thermalTrips : Nat := 0x2000 * 256 + 0x0B
/-- reference_offset_ppb -/
abbrev O.referenceOffsetPpb : Nat := 0x2100 * 256 + 0x0C
/-- reference_state -/
abbrev O.referenceState : Nat := 0x2100 * 256 + 0x0D
/-- hub_clock_mhz -/
abbrev O.hubClockMhz : Nat := 0x2100 * 256 + 0x0E
/-- reset_command -/
abbrev O.resetCommand : Nat := 0x2200 * 256 + 0x07
/-- last_reset_kind -/
abbrev O.lastResetKind : Nat := 0x2200 * 256 + 0x08
/-- last_reset_cause -/
abbrev O.lastResetCause : Nat := 0x2200 * 256 + 0x09
/-- warm_resets -/
abbrev O.warmResets : Nat := 0x2200 * 256 + 0x0A
/-- quiesce_timeout_us -/
abbrev O.quiesceTimeoutUs : Nat := 0x2200 * 256 + 0x0B
/-- unit_cmd_last_path -/
abbrev O.unitCmdLastPath : Nat := 0x2200 * 256 + 0x0C
/-- unit_cmd_last_status -/
abbrev O.unitCmdLastStatus : Nat := 0x2200 * 256 + 0x0D
/-- late_replies_dropped -/
abbrev O.lateRepliesDropped : Nat := 0x2200 * 256 + 0x0E
/-- fuse_state -/
abbrev O.fuseState : Nat := 0x2300 * 256 + 0x01
/-- fuse_marginal_words -/
abbrev O.fuseMarginalWords : Nat := 0x2300 * 256 + 0x02
/-- fuse_unresolved_words -/
abbrev O.fuseUnresolvedWords : Nat := 0x2300 * 256 + 0x03
/-- fuse_reread_s -/
abbrev O.fuseRereadS : Nat := 0x2300 * 256 + 0x04
/-- fuse_reread_mismatches -/
abbrev O.fuseRereadMismatches : Nat := 0x2300 * 256 + 0x05
/-- fuse_last_reread_ftc -/
abbrev O.fuseLastRereadFtc : Nat := 0x2300 * 256 + 0x06
/-- boot_bank -/
abbrev O.bootBank : Nat := 0x2300 * 256 + 0x07
/-- boot_state -/
abbrev O.bootState : Nat := 0x2300 * 256 + 0x08
/-- boot_fallbacks -/
abbrev O.bootFallbacks : Nat := 0x2300 * 256 + 0x09
/-- activate_pending -/
abbrev O.activatePending : Nat := 0x2300 * 256 + 0x0A
/-- fault_seq -/
abbrev O.faultSeq : Nat := 0x5800 * 256 + 0x01
/-- fault_log_select -/
abbrev O.faultLogSelect : Nat := 0x5800 * 256 + 0x02
/-- fault_log_record -/
abbrev O.faultLogRecord : Nat := 0x5800 * 256 + 0x03
/-- containments -/
abbrev O.containments : Nat := 0x5800 * 256 + 0x04
/-- port_unfence -/
abbrev O.portUnfence : Nat := 0x5800 * 256 + 0x05
/-- unit_hang_ms -/
abbrev O.unitHangMs : Nat := 0x5800 * 256 + 0x06
/-- inject_enable -/
abbrev O.injectEnable : Nat := 0x5800 * 256 + 0x07
/-- inject_outcomes -/
abbrev O.injectOutcomes : Nat := 0x5800 * 256 + 0x08
/-- inject_select -/
abbrev O.injectSelect : Nat := 0x5801 * 256 + 0x01
/-- inject_kind -/
abbrev O.injectKind : Nat := 0x5801 * 256 + 0x02
/-- inject_target -/
abbrev O.injectTarget : Nat := 0x5801 * 256 + 0x03
/-- inject_first_ftc -/
abbrev O.injectFirstFtc : Nat := 0x5801 * 256 + 0x04
/-- inject_count -/
abbrev O.injectCount : Nat := 0x5801 * 256 + 0x05
/-- inject_interval_us -/
abbrev O.injectIntervalUs : Nat := 0x5801 * 256 + 0x06
/-- inject_param -/
abbrev O.injectParam : Nat := 0x5801 * 256 + 0x07
/-- inject_command -/
abbrev O.injectCommand : Nat := 0x5801 * 256 + 0x08
/-- inject_state -/
abbrev O.injectState : Nat := 0x5801 * 256 + 0x09
/-- inject_fired -/
abbrev O.injectFired : Nat := 0x5801 * 256 + 0x0A
/-- inject_skipped -/
abbrev O.injectSkipped : Nat := 0x5801 * 256 + 0x0B
/-- inject_last_status -/
abbrev O.injectLastStatus : Nat := 0x5801 * 256 + 0x0C
/-- cs_slots -/
abbrev O.csSlots : Nat := 0x5802 * 256 + 0x01
/-- cs_open -/
abbrev O.csOpen : Nat := 0x5802 * 256 + 0x02
/-- cs_select -/
abbrev O.csSelect : Nat := 0x5802 * 256 + 0x03
/-- cs_state -/
abbrev O.csState : Nat := 0x5802 * 256 + 0x04
/-- cs_winner -/
abbrev O.csWinner : Nat := 0x5802 * 256 + 0x05
/-- cs_tenant -/
abbrev O.csTenant : Nat := 0x5802 * 256 + 0x06
/-- cs_abort -/
abbrev O.csAbort : Nat := 0x5802 * 256 + 0x07
/-- cs_superseded -/
abbrev O.csSuperseded : Nat := 0x5802 * 256 + 0x08
/-- ckpt_state, 0x5810 + n -/
abbrev O.ckptState (n : Nat) : Nat := (0x5810 + n) * 256 + 0x01
/-- ckpt_partition, 0x5810 + n -/
abbrev O.ckptPartition (n : Nat) : Nat := (0x5810 + n) * 256 + 0x02
/-- ckpt_dest, 0x5810 + n -/
abbrev O.ckptDest (n : Nat) : Nat := (0x5810 + n) * 256 + 0x03
/-- ckpt_tc, 0x5810 + n -/
abbrev O.ckptTc (n : Nat) : Nat := (0x5810 + n) * 256 + 0x04
/-- ckpt_shaper, 0x5810 + n -/
abbrev O.ckptShaper (n : Nat) : Nat := (0x5810 + n) * 256 + 0x05
/-- ckpt_cow_pages, 0x5810 + n -/
abbrev O.ckptCowPages (n : Nat) : Nat := (0x5810 + n) * 256 + 0x06
/-- ckpt_start_ftc, 0x5810 + n -/
abbrev O.ckptStartFtc (n : Nat) : Nat := (0x5810 + n) * 256 + 0x07
/-- ckpt_command, 0x5810 + n -/
abbrev O.ckptCommand (n : Nat) : Nat := (0x5810 + n) * 256 + 0x08
/-- ckpt_epoch, 0x5810 + n -/
abbrev O.ckptEpoch (n : Nat) : Nat := (0x5810 + n) * 256 + 0x09
/-- ckpt_pages_streamed, 0x5810 + n -/
abbrev O.ckptPagesStreamed (n : Nat) : Nat := (0x5810 + n) * 256 + 0x0A
/-- ckpt_cow_copies, 0x5810 + n -/
abbrev O.ckptCowCopies (n : Nat) : Nat := (0x5810 + n) * 256 + 0x0B
/-- ckpt_poisoned_blocks, 0x5810 + n -/
abbrev O.ckptPoisonedBlocks (n : Nat) : Nat := (0x5810 + n) * 256 + 0x0C
/-- ckpt_status, 0x5810 + n -/
abbrev O.ckptStatus (n : Nat) : Nat := (0x5810 + n) * 256 + 0x0D
/-- ckpt_end_ftc, 0x5810 + n -/
abbrev O.ckptEndFtc (n : Nat) : Nat := (0x5810 + n) * 256 + 0x0E
/-- meter_mode, 0x5C01 + n -/
abbrev O.meterMode (n : Nat) : Nat := (0x5C01 + n) * 256 + 0x20
/-- clusterClockRequestMhz of a cluster index -/
abbrev O.clusterClockRequestMhz (u : Nat) : Nat := u * 256 + 0x27
/-- clusterClusterClockMhz of a cluster index -/
abbrev O.clusterClusterClockMhz (u : Nat) : Nat := u * 256 + 0x28
/-- quadrantRailMv of a quadrant index -/
abbrev O.quadrantRailMv (u : Nat) : Nat := u * 256 + 0x20
/-- deferrals1, 0x3501 + n -/
abbrev O.deferrals1 (n : Nat) : Nat := (0x3501 + n) * 256 + 0x01
/-- refusals1, 0x3501 + n -/
abbrev O.refusals1 (n : Nat) : Nat := (0x3501 + n) * 256 + 0x21
/-- deferrals2, 0x3501 + n -/
abbrev O.deferrals2 (n : Nat) : Nat := (0x3501 + n) * 256 + 0x02
/-- refusals2, 0x3501 + n -/
abbrev O.refusals2 (n : Nat) : Nat := (0x3501 + n) * 256 + 0x22
/-- deferrals3, 0x3501 + n -/
abbrev O.deferrals3 (n : Nat) : Nat := (0x3501 + n) * 256 + 0x03
/-- refusals3, 0x3501 + n -/
abbrev O.refusals3 (n : Nat) : Nat := (0x3501 + n) * 256 + 0x23
/-- deferrals4, 0x3501 + n -/
abbrev O.deferrals4 (n : Nat) : Nat := (0x3501 + n) * 256 + 0x04
/-- refusals4, 0x3501 + n -/
abbrev O.refusals4 (n : Nat) : Nat := (0x3501 + n) * 256 + 0x24
/-- deferrals5, 0x3501 + n -/
abbrev O.deferrals5 (n : Nat) : Nat := (0x3501 + n) * 256 + 0x05
/-- refusals5, 0x3501 + n -/
abbrev O.refusals5 (n : Nat) : Nat := (0x3501 + n) * 256 + 0x25
/-- deferrals6, 0x3501 + n -/
abbrev O.deferrals6 (n : Nat) : Nat := (0x3501 + n) * 256 + 0x06
/-- refusals6, 0x3501 + n -/
abbrev O.refusals6 (n : Nat) : Nat := (0x3501 + n) * 256 + 0x26
/-- deferrals7, 0x3501 + n -/
abbrev O.deferrals7 (n : Nat) : Nat := (0x3501 + n) * 256 + 0x07
/-- refusals7, 0x3501 + n -/
abbrev O.refusals7 (n : Nat) : Nat := (0x3501 + n) * 256 + 0x27
/-- deferrals8, 0x3501 + n -/
abbrev O.deferrals8 (n : Nat) : Nat := (0x3501 + n) * 256 + 0x08
/-- refusals8, 0x3501 + n -/
abbrev O.refusals8 (n : Nat) : Nat := (0x3501 + n) * 256 + 0x28
/-- deferrals9, 0x3501 + n -/
abbrev O.deferrals9 (n : Nat) : Nat := (0x3501 + n) * 256 + 0x09
/-- refusals9, 0x3501 + n -/
abbrev O.refusals9 (n : Nat) : Nat := (0x3501 + n) * 256 + 0x29
/-- deferrals10, 0x3501 + n -/
abbrev O.deferrals10 (n : Nat) : Nat := (0x3501 + n) * 256 + 0x0A
/-- refusals10, 0x3501 + n -/
abbrev O.refusals10 (n : Nat) : Nat := (0x3501 + n) * 256 + 0x2A
/-- deferrals11, 0x3501 + n -/
abbrev O.deferrals11 (n : Nat) : Nat := (0x3501 + n) * 256 + 0x0B
/-- refusals11, 0x3501 + n -/
abbrev O.refusals11 (n : Nat) : Nat := (0x3501 + n) * 256 + 0x2B
/-- deferrals12, 0x3501 + n -/
abbrev O.deferrals12 (n : Nat) : Nat := (0x3501 + n) * 256 + 0x0C
/-- refusals12, 0x3501 + n -/
abbrev O.refusals12 (n : Nat) : Nat := (0x3501 + n) * 256 + 0x2C
/-- deferrals13, 0x3501 + n -/
abbrev O.deferrals13 (n : Nat) : Nat := (0x3501 + n) * 256 + 0x0D
/-- refusals13, 0x3501 + n -/
abbrev O.refusals13 (n : Nat) : Nat := (0x3501 + n) * 256 + 0x2D
/-- meterClusterBusyTicks, 0x5C01 + n -/
abbrev O.meterClusterBusyTicks (n : Nat) : Nat := (0x5C01 + n) * 256 + 0x01
/-- meterBundles, 0x5C01 + n -/
abbrev O.meterBundles (n : Nat) : Nat := (0x5C01 + n) * 256 + 0x02
/-- meterNearReadBytes, 0x5C01 + n -/
abbrev O.meterNearReadBytes (n : Nat) : Nat := (0x5C01 + n) * 256 + 0x03
/-- meterNearWriteBytes, 0x5C01 + n -/
abbrev O.meterNearWriteBytes (n : Nat) : Nat := (0x5C01 + n) * 256 + 0x04
/-- meterFarReadBytes, 0x5C01 + n -/
abbrev O.meterFarReadBytes (n : Nat) : Nat := (0x5C01 + n) * 256 + 0x05
/-- meterFarWriteBytes, 0x5C01 + n -/
abbrev O.meterFarWriteBytes (n : Nat) : Nat := (0x5C01 + n) * 256 + 0x06
/-- meterFrameMs, 0x5C01 + n -/
abbrev O.meterFrameMs (n : Nat) : Nat := (0x5C01 + n) * 256 + 0x07
/-- meterPortTxBytes, 0x5C01 + n -/
abbrev O.meterPortTxBytes (n : Nat) : Nat := (0x5C01 + n) * 256 + 0x08
/-- meterPortRxBytes, 0x5C01 + n -/
abbrev O.meterPortRxBytes (n : Nat) : Nat := (0x5C01 + n) * 256 + 0x09
/-- meterMillstoneBytes, 0x5C01 + n -/
abbrev O.meterMillstoneBytes (n : Nat) : Nat := (0x5C01 + n) * 256 + 0x0A
/-- meterFlumeBolterBytes, 0x5C01 + n -/
abbrev O.meterFlumeBolterBytes (n : Nat) : Nat := (0x5C01 + n) * 256 + 0x0B
/-- meterSketchCompares, 0x5C01 + n -/
abbrev O.meterSketchCompares (n : Nat) : Nat := (0x5C01 + n) * 256 + 0x0C
/-- meterAttendBytes, 0x5C01 + n -/
abbrev O.meterAttendBytes (n : Nat) : Nat := (0x5C01 + n) * 256 + 0x0D
/-- meterDecryptBytes, 0x5C01 + n -/
abbrev O.meterDecryptBytes (n : Nat) : Nat := (0x5C01 + n) * 256 + 0x0E
/-- meterCellUs, 0x5C01 + n -/
abbrev O.meterCellUs (n : Nat) : Nat := (0x5C01 + n) * 256 + 0x0F
/-- meterDirectoryEntryMs, 0x5C01 + n -/
abbrev O.meterDirectoryEntryMs (n : Nat) : Nat := (0x5C01 + n) * 256 + 0x10
/-- meterOwnedClusterMs, 0x5C01 + n -/
abbrev O.meterOwnedClusterMs (n : Nat) : Nat := (0x5C01 + n) * 256 + 0x21
/-- meterOwnedChannelMs, 0x5C01 + n -/
abbrev O.meterOwnedChannelMs (n : Nat) : Nat := (0x5C01 + n) * 256 + 0x22
/-- meterBoundPortMs, 0x5C01 + n -/
abbrev O.meterBoundPortMs (n : Nat) : Nat := (0x5C01 + n) * 256 + 0x23
/-- meterOwnedWayMs, 0x5C01 + n -/
abbrev O.meterOwnedWayMs (n : Nat) : Nat := (0x5C01 + n) * 256 + 0x24
/-- meterQuotaCellMs, 0x5C01 + n -/
abbrev O.meterQuotaCellMs (n : Nat) : Nat := (0x5C01 + n) * 256 + 0x25
/-- meterSnapshot -/
abbrev O.meterSnapshot : Nat := 0x5C00 * 256 + 0x01
/-- meterSnapshotFtc -/
abbrev O.meterSnapshotFtc : Nat := 0x5C00 * 256 + 0x02
/-- snapClusterBusyTicks, 0x5C81 + n -/
abbrev O.snapClusterBusyTicks (n : Nat) : Nat := (0x5C81 + n) * 256 + 0x01
/-- snapBundles, 0x5C81 + n -/
abbrev O.snapBundles (n : Nat) : Nat := (0x5C81 + n) * 256 + 0x02
/-- snapNearReadBytes, 0x5C81 + n -/
abbrev O.snapNearReadBytes (n : Nat) : Nat := (0x5C81 + n) * 256 + 0x03
/-- snapNearWriteBytes, 0x5C81 + n -/
abbrev O.snapNearWriteBytes (n : Nat) : Nat := (0x5C81 + n) * 256 + 0x04
/-- snapFarReadBytes, 0x5C81 + n -/
abbrev O.snapFarReadBytes (n : Nat) : Nat := (0x5C81 + n) * 256 + 0x05
/-- snapFarWriteBytes, 0x5C81 + n -/
abbrev O.snapFarWriteBytes (n : Nat) : Nat := (0x5C81 + n) * 256 + 0x06
/-- snapFrameMs, 0x5C81 + n -/
abbrev O.snapFrameMs (n : Nat) : Nat := (0x5C81 + n) * 256 + 0x07
/-- snapPortTxBytes, 0x5C81 + n -/
abbrev O.snapPortTxBytes (n : Nat) : Nat := (0x5C81 + n) * 256 + 0x08
/-- snapPortRxBytes, 0x5C81 + n -/
abbrev O.snapPortRxBytes (n : Nat) : Nat := (0x5C81 + n) * 256 + 0x09
/-- snapMillstoneBytes, 0x5C81 + n -/
abbrev O.snapMillstoneBytes (n : Nat) : Nat := (0x5C81 + n) * 256 + 0x0A
/-- snapFlumeBolterBytes, 0x5C81 + n -/
abbrev O.snapFlumeBolterBytes (n : Nat) : Nat := (0x5C81 + n) * 256 + 0x0B
/-- snapSketchCompares, 0x5C81 + n -/
abbrev O.snapSketchCompares (n : Nat) : Nat := (0x5C81 + n) * 256 + 0x0C
/-- snapAttendBytes, 0x5C81 + n -/
abbrev O.snapAttendBytes (n : Nat) : Nat := (0x5C81 + n) * 256 + 0x0D
/-- snapDecryptBytes, 0x5C81 + n -/
abbrev O.snapDecryptBytes (n : Nat) : Nat := (0x5C81 + n) * 256 + 0x0E
/-- snapCellUs, 0x5C81 + n -/
abbrev O.snapCellUs (n : Nat) : Nat := (0x5C81 + n) * 256 + 0x0F
/-- snapDirectoryEntryMs, 0x5C81 + n -/
abbrev O.snapDirectoryEntryMs (n : Nat) : Nat := (0x5C81 + n) * 256 + 0x10
/-- snapOwnedClusterMs, 0x5C81 + n -/
abbrev O.snapOwnedClusterMs (n : Nat) : Nat := (0x5C81 + n) * 256 + 0x21
/-- snapOwnedChannelMs, 0x5C81 + n -/
abbrev O.snapOwnedChannelMs (n : Nat) : Nat := (0x5C81 + n) * 256 + 0x22
/-- snapBoundPortMs, 0x5C81 + n -/
abbrev O.snapBoundPortMs (n : Nat) : Nat := (0x5C81 + n) * 256 + 0x23
/-- snapOwnedWayMs, 0x5C81 + n -/
abbrev O.snapOwnedWayMs (n : Nat) : Nat := (0x5C81 + n) * 256 + 0x24
/-- snapQuotaCellMs, 0x5C81 + n -/
abbrev O.snapQuotaCellMs (n : Nat) : Nat := (0x5C81 + n) * 256 + 0x25

end Sys2Proof.Machine
end

