-- ==== Sys2Proof/Config.lean ====
section
/-! DEFINITION. Values the manual leaves open, as constants without a body, and functions it does not lay down. Nothing can
evaluate one: a statement that mentions one holds for every value of it. Each has a row in notes/assumptions. -/

namespace Sys2Proof.Config

/-- A value the manual leaves open, by the number of the use (State.freeCounter): bytes old or new, the unstated choice among
free resources, the depth of a hub section's queue. -/
opaque freeNat : Nat → Nat
/-- A free bit pattern of 64 bits, by the number of the use. -/
opaque freeWord : Nat → BitVec 64

/-- VEXP2 of an FP32 pattern where the manual gives an error bound and no exact result (R159). -/
opaque exp2 : BitVec 32 → BitVec 32
/-- VLOG2, likewise (R159). -/
opaque log2 : BitVec 32 → BitVec 32
/-- VRCP, likewise (R159). -/
opaque rcp : BitVec 32 → BitVec 32
/-- VRSQRT, likewise (R159). -/
opaque rsqrt : BitVec 32 → BitVec 32

/-- Whether a maximum or minimum of two zeros is the first of them (R159). -/
opaque firstZero : BitVec 32 → BitVec 32 → Bool

/-- SHA-384 (R435, R438, R439). -/
opaque sha384 : List (BitVec 8) → List (BitVec 8)
/-- ECDSA P-384 verification: key, digest, signature (R439, R449, R541). -/
opaque ecdsaVerify : List (BitVec 8) → List (BitVec 8) → List (BitVec 8) → Bool
/-- AES-256-GCM decryption: key, IV, additional data, ciphertext, tag; none when the tag fails (R447). -/
opaque gcmDecrypt : List (BitVec 8) → List (BitVec 8) → List (BitVec 8) → List (BitVec 8) → List (BitVec 8) →
  Option (List (BitVec 8))
/-- The SPDM answer to a request in the state of Bondiush's keys (R436): the standard governs its bytes. -/
opaque spdmBody : Nat → List (BitVec 8) → List (BitVec 8)
/-- The digest of the fused Ciananko firmware key (R449). -/
opaque firmwareKey : List (BitVec 8)
/-- What a firmware image in the flash says of itself: SVN, the four digests of measurements 2-5, its signed part and its
signature (R449): the image's layout is not in the manual. -/
opaque imageInfo : List (BitVec 8) → Fin 64 × List (List (BitVec 8)) × List (BitVec 8) × List (BitVec 8)
/-- Measurement 1, the Boot ROM (R438). -/
opaque bootRomDigest : List (BitVec 8)
/-- The encoding the digest of measurements 6 and 7 is taken over (R438): the manual lists the contents, not their layout. -/
opaque measure6 : Nat → List (BitVec 8)
opaque measure7 : List (Nat × Nat) → List (BitVec 8)

/-- The 4-byte SALT and 32-byte key of link key generation g in direction d, from the session's secret (R441). -/
opaque linkKey : List (BitVec 8) → Nat → Nat → List (BitVec 8)

/-- What the LAYOUT section of a plan image says (R104, R192, R274, R310): its exchange descriptors; gate entries as port, entry, low
and high word; jobs with their records; layer records in order. The section's format is not in the manual. -/
opaque layoutDescs : List (BitVec 8) → List LayoutDesc
opaque layoutGates : List (BitVec 8) → List (Nat × Nat × Nat × Nat)
opaque layoutJobs : List (BitVec 8) → List (Nat × List (BitVec 8))
opaque layoutLayers : List (BitVec 8) → List (List (BitVec 8))
/-- Hops to a root node through a port, where one is reached there (R121): how a package learns them is not in the manual. -/
opaque timeHops : Nat → Nat → Option Nat
/-- The longest token path between two members of a plan, in ticks (R125): a member does not know the delays of other members' links. -/
opaque tokenPath : BitVec 64 → Nat
/-- The source NODE that R248 hashes for a response, whose header names none (R464): by destination NODE and OPID. -/
opaque responseSource : Nat → Nat → Nat
/-- Whether an object, 256 x index + subindex, derives from a fuse word (R545): the words' numbers are not in the manual. -/
opaque fuseObject : Nat → Nat → Bool
/-- The MAC address of the management lane from the serial number (R482): the derivation is not in the manual. -/
opaque macAddress : BitVec 64 → Nat
/-- LINK_PLAN entries of a plan image: port and member (R104). Likewise. -/
opaque linkPlan : List (BitVec 8) → List (Nat × Nat)

end Sys2Proof.Config
end

