-- ==== Sys2Proof/Machine/Operands.lean ====
section
/-! DEFINITION. Bytes, words, fields and checks: little-endian fields, fabric addresses (R41), CRCs (R248, IEEE 802.3), and the
fields of an operation. -/

namespace Sys2Proof.Machine

/-- Little-endian value of bytes. -/
def leNat : List Byte → Nat
  | [] => 0
  | b :: t => b.toNat + 256 * leNat t

/-- The low `n` bytes of a number, little-endian. -/
def natLe : Nat → Nat → List Byte
  | 0, _ => []
  | n + 1, v => BitVec.ofNat 8 v :: natLe n (v / 256)

/-- Bytes off to off + n - 1; bytes beyond the end read as zero. -/
def sliceB (bs : List Byte) (off n : Nat) : List Byte :=
  let t := (bs.drop off).take n
  t ++ List.replicate (n - t.length) 0

/-- The little-endian field of n bytes at off. -/
def fieldAt (bs : List Byte) (off n : Nat) : Nat := leNat (sliceB bs off n)

/-- Bits hi to lo of a number. -/
def bitsOf (v hi lo : Nat) : Nat := (v / 2 ^ lo) % 2 ^ (hi + 1 - lo)

def bitAt (v n : Nat) : Bool := v / 2 ^ n % 2 == 1

def b2n (b : Bool) : Nat := if b then 1 else 0

def ceilDiv (a b : Nat) : Nat := (a + b - 1) / b

/-- Round up to a multiple of b. -/
def roundUp (a b : Nat) : Nat := ceilDiv a b * b

/-- Every byte of a range is zero. -/
def zerosAt (bs : List Byte) (off n : Nat) : Bool := fieldAt bs off n == 0

/-- NODE, REGION and OFFSET of a fabric address (R41). -/
def addrNode (a : Word64) : Nat := bitsOf a.toNat 63 48
def addrRegion (a : Word64) : Nat := bitsOf a.toNat 47 44
def addrOffset (a : Word64) : Nat := bitsOf a.toNat 43 0

/-- One step of a reflected CRC-32 register (IEEE 802.3). -/
def crc32Bit (c : Nat) : Nat := if c % 2 = 1 then (c / 2) ^^^ 0xEDB88320 else c / 2

def crc32Byte (c : Nat) (b : Byte) : Nat :=
  (List.range 8).foldl (fun x _ => crc32Bit x) (c ^^^ b.toNat)

/-- CRC-32 (IEEE 802.3). -/
def crc32 (bs : List Byte) : Nat := (bs.foldl crc32Byte 0xFFFFFFFF) ^^^ 0xFFFFFFFF

def crc16Bit (c : Nat) : Nat := if c ≥ 0x8000 then ((c * 2) % 65536) ^^^ 0x1021 else (c * 2) % 65536

def crc16Byte (c : Nat) (b : Byte) : Nat :=
  (List.range 8).foldl (fun x _ => crc16Bit x) (c ^^^ (b.toNat * 256))

/-- CRC-16 with the parameters of R248: polynomial 0x1021, initial value 0xFFFF, most significant bit first. -/
def crc16 (bs : List Byte) : Nat := bs.foldl crc16Byte 0xFFFF

/-- The n-th number not in a rising list, counting from 0 (the n-th free resource). -/
def nthFree : List Nat → Nat → Nat → Nat
  | [], at_, n => at_ + n
  | u :: t, at_, n => if u ≤ at_ then nthFree t (max at_ (u + 1)) n
    else if n < u - at_ then at_ + n else nthFree t (u + 1) (n - (u - at_))

/-- Insert into a rising list without repeats. -/
def insertNat (n : Nat) : List Nat → List Nat
  | [] => [n]
  | u :: t => if n < u then n :: u :: t else if n = u then u :: t else u :: insertNat n t

/-- Microseconds, milliseconds and seconds in units of 0.25 ns (the unit of FTC, R120). -/
def usUnits (n : Nat) : Nat := n * 4000
def msUnits (n : Nat) : Nat := n * 4000000
def nsUnits (n : Nat) : Nat := n * 4
/-- A fabric tick, 8 ns (R53). -/
def tickUnits : Nat := 32

/-- Replace the first element that meets a test. -/
def replaceFirst {α : Type} (p : α → Bool) (f : α → α) : List α → List α
  | [] => []
  | x :: t => if p x then f x :: t else x :: replaceFirst p f t

/-- The last n elements. -/
def lastN {α : Type} (n : Nat) (l : List α) : List α := l.drop (l.length - n)

end Sys2Proof.Machine
end

