-- ==== Sys2Proof/Machine/RegNames.lean ====
section
/-! DEFINITION. The byte offset in REGION 0x5 of every register, by the name its chapter gives it. Generated from spec/. -/

namespace Sys2Proof.Machine

/-- HUB_NODE_ID -/
abbrev R.hubNodeId : Nat := 0x0000010
/-- HUB_SPAN_COORD -/
abbrev R.hubSpanCoord : Nat := 0x0000014
/-- PLN_FTC_LO -/
abbrev R.plnFtcLo : Nat := 0x0500000
/-- PLN_FTC_HI -/
abbrev R.plnFtcHi : Nat := 0x0500004
/-- PLN_TIME_STATUS -/
abbrev R.plnTimeStatus : Nat := 0x0500008
/-- PLN_SLOT_STATUS -/
abbrev R.plnSlotStatus (n0 : Nat) : Nat := 0x0500100 + 0x20 * n0
/-- PLN_SLOT_TICK_LO -/
abbrev R.plnSlotTickLo (n0 : Nat) : Nat := 0x0500104 + 0x20 * n0
/-- PLN_SLOT_TICK_HI -/
abbrev R.plnSlotTickHi (n0 : Nat) : Nat := 0x0500108 + 0x20 * n0
/-- PLN_SLOT_SLIPS -/
abbrev R.plnSlotSlips (n0 : Nat) : Nat := 0x050010C + 0x20 * n0
/-- PLN_SLOT_CMD -/
abbrev R.plnSlotCmd (n0 : Nat) : Nat := 0x0500110 + 0x20 * n0
/-- ENG_ARB_CTL -/
abbrev R.engArbCtl (n0 n1 n2 : Nat) : Nat := 0x0810000 + 0x200000 * n0 + 0x400 * n1 + 0x100 * n2
/-- ENG_ARB_SEED -/
abbrev R.engArbSeed (n0 n1 n2 : Nat) : Nat := 0x0810004 + 0x200000 * n0 + 0x400 * n1 + 0x100 * n2
/-- ENG_ARB_LFSR -/
abbrev R.engArbLfsr (n0 n1 n2 : Nat) : Nat := 0x0810008 + 0x200000 * n0 + 0x400 * n1 + 0x100 * n2
/-- ENG_ARB_GRANT -/
abbrev R.engArbGrant (n0 n1 n2 : Nat) : Nat := 0x081000C + 0x200000 * n0 + 0x400 * n1 + 0x100 * n2
/-- ENG_ARB_STARVE -/
abbrev R.engArbStarve (n0 n1 n2 : Nat) : Nat := 0x0810010 + 0x200000 * n0 + 0x400 * n1 + 0x100 * n2
/-- ENG_ARB_WAIT_LIMIT -/
abbrev R.engArbWaitLimit (n0 n1 n2 : Nat) : Nat := 0x0810014 + 0x200000 * n0 + 0x400 * n1 + 0x100 * n2
/-- ENG_ARB_TICKETS_n -/
abbrev R.engArbTickets (n0 n1 n2 n3 : Nat) : Nat := 0x0810040 + 0x200000 * n0 + 0x400 * n1 + 0x100 * n2 + 0x4 * n3
/-- ENG_ARB_WAIT_n -/
abbrev R.engArbWait (n0 n1 n2 n3 : Nat) : Nat := 0x08100A0 + 0x200000 * n0 + 0x400 * n1 + 0x100 * n2 + 0x4 * n3
/-- HCU_POOL_TICKETS_n -/
abbrev R.hcuPoolTickets (n0 : Nat) : Nat := 0x0300100 + 0x4 * n0
/-- HCU_MS_STAT_m -/
abbrev R.hcuMsStat (n0 : Nat) : Nat := 0x0301000 + 0x4 * n0
/-- HCU_FB_STAT_p -/
abbrev R.hcuFbStat (n0 : Nat) : Nat := 0x0301400 + 0x4 * n0
/-- HCU_MSARB_CTL -/
abbrev R.hcuMsarbCtl (n0 : Nat) : Nat := 0x0310000 + 0x200 * n0
/-- SWC_INJARB_CTL -/
abbrev R.swcInjarbCtl (n0 : Nat) : Nat := 0x0201000 + 0x400 * n0
/-- HUB_CSRARB_CTL -/
abbrev R.hubCsrarbCtl : Nat := 0x0001000
/-- HCU_MSARB_SEED -/
abbrev R.hcuMsarbSeed (n0 : Nat) : Nat := 0x0310004 + 0x200 * n0
/-- SWC_INJARB_SEED -/
abbrev R.swcInjarbSeed (n0 : Nat) : Nat := 0x0201004 + 0x400 * n0
/-- HUB_CSRARB_SEED -/
abbrev R.hubCsrarbSeed : Nat := 0x0001004
/-- HCU_MSARB_LFSR -/
abbrev R.hcuMsarbLfsr (n0 : Nat) : Nat := 0x0310008 + 0x200 * n0
/-- SWC_INJARB_LFSR -/
abbrev R.swcInjarbLfsr (n0 : Nat) : Nat := 0x0201008 + 0x400 * n0
/-- HUB_CSRARB_LFSR -/
abbrev R.hubCsrarbLfsr : Nat := 0x0001008
/-- HCU_MSARB_GRANT -/
abbrev R.hcuMsarbGrant (n0 : Nat) : Nat := 0x031000C + 0x200 * n0
/-- SWC_INJARB_GRANT -/
abbrev R.swcInjarbGrant (n0 : Nat) : Nat := 0x020100C + 0x400 * n0
/-- HUB_CSRARB_GRANT -/
abbrev R.hubCsrarbGrant : Nat := 0x000100C
/-- HCU_MSARB_STARVE_LO -/
abbrev R.hcuMsarbStarveLo (n0 : Nat) : Nat := 0x0310010 + 0x200 * n0
/-- SWC_INJARB_STARVE_LO -/
abbrev R.swcInjarbStarveLo (n0 : Nat) : Nat := 0x0201010 + 0x400 * n0
/-- HUB_CSRARB_STARVE_LO -/
abbrev R.hubCsrarbStarveLo : Nat := 0x0001010
/-- HCU_MSARB_STARVE_MID -/
abbrev R.hcuMsarbStarveMid (n0 : Nat) : Nat := 0x0310014 + 0x200 * n0
/-- SWC_INJARB_STARVE_MID -/
abbrev R.swcInjarbStarveMid (n0 : Nat) : Nat := 0x0201014 + 0x400 * n0
/-- HUB_CSRARB_STARVE_MID -/
abbrev R.hubCsrarbStarveMid : Nat := 0x0001014
/-- HCU_MSARB_STARVE_HI -/
abbrev R.hcuMsarbStarveHi (n0 : Nat) : Nat := 0x0310018 + 0x200 * n0
/-- SWC_INJARB_STARVE_HI -/
abbrev R.swcInjarbStarveHi (n0 : Nat) : Nat := 0x0201018 + 0x400 * n0
/-- HUB_CSRARB_STARVE_HI -/
abbrev R.hubCsrarbStarveHi : Nat := 0x0001018
/-- HCU_MSARB_WAIT_LIMIT -/
abbrev R.hcuMsarbWaitLimit (n0 : Nat) : Nat := 0x031001C + 0x200 * n0
/-- SWC_INJARB_WAIT_LIMIT -/
abbrev R.swcInjarbWaitLimit (n0 : Nat) : Nat := 0x020101C + 0x400 * n0
/-- HUB_CSRARB_WAIT_LIMIT -/
abbrev R.hubCsrarbWaitLimit : Nat := 0x000101C
/-- HCU_MSARB_WAIT_n -/
abbrev R.hcuMsarbWait (n0 n1 : Nat) : Nat := 0x0310080 + 0x200 * n0 + 0x4 * n1
/-- SWC_INJARB_WAIT_n -/
abbrev R.swcInjarbWait (n0 n1 : Nat) : Nat := 0x0201080 + 0x400 * n0 + 0x4 * n1
/-- HUB_CSRARB_WAIT_n -/
abbrev R.hubCsrarbWait (n0 : Nat) : Nat := 0x0001080 + 0x4 * n0
/-- SWC_INJ_TICKETS_n -/
abbrev R.swcInjTickets (n0 n1 : Nat) : Nat := 0x0201200 + 0x400 * n0 + 0x4 * n1
/-- SWC_CREDIT_n -/
abbrev R.swcCredit (n0 : Nat) : Nat := 0x0200100 + 0x4 * n0
/-- SWC_LG_MEMBERS_LO_g -/
abbrev R.swcLgMembersLo (n0 : Nat) : Nat := 0x0200200 + 0x8 * n0
/-- SWC_LG_MEMBERS_HI_g -/
abbrev R.swcLgMembersHi (n0 : Nat) : Nat := 0x0200204 + 0x8 * n0
/-- SWC_LG_CMD -/
abbrev R.swcLgCmd : Nat := 0x0200300
/-- SWC_QUOTA_t -/
abbrev R.swcQuota (n0 : Nat) : Nat := 0x0200400 + 0x4 * n0
/-- SWC_QUOTA_USED_t -/
abbrev R.swcQuotaUsed (n0 : Nat) : Nat := 0x0200600 + 0x4 * n0
/-- SWC_ROUTE_w -/
abbrev R.swcRoute (n0 : Nat) : Nat := 0x0208000 + 0x4 * n0
/-- SWC_MC_LO_g -/
abbrev R.swcMcLo (n0 : Nat) : Nat := 0x0228000 + 0x8 * n0
/-- SWC_MC_HI_g -/
abbrev R.swcMcHi (n0 : Nat) : Nat := 0x0228004 + 0x8 * n0
/-- SWC_PIN_g_w -/
abbrev R.swcPin (n0 n1 : Nat) : Nat := 0x0230000 + 0x200 * n0 + 0x4 * n1
/-- SWC_PIN_EPOCH_g_w -/
abbrev R.swcPinEpoch (n0 n1 : Nat) : Nat := 0x0230100 + 0x200 * n0 + 0x4 * n1
/-- TRF_GATE_CTL -/
abbrev R.trfGateCtl (n0 : Nat) : Nat := 0x0240000 + 0x100 * n0
/-- TRF_GATE_START_LO -/
abbrev R.trfGateStartLo (n0 : Nat) : Nat := 0x0240004 + 0x100 * n0
/-- TRF_GATE_START_HI -/
abbrev R.trfGateStartHi (n0 : Nat) : Nat := 0x0240008 + 0x100 * n0
/-- TRF_GATE_STATUS -/
abbrev R.trfGateStatus (n0 : Nat) : Nat := 0x024000C + 0x100 * n0
/-- TRF_QUANTUM_k -/
abbrev R.trfQuantum (n0 n1 : Nat) : Nat := 0x0240020 + 0x100 * n0 + 0x4 * n1
/-- TRF_LIST_SHAPER_k -/
abbrev R.trfListShaper (n0 n1 : Nat) : Nat := 0x0240054 + 0x100 * n0 + 0x4 * n1
/-- TRF_WEIR_BIND_k -/
abbrev R.trfWeirBind (n0 n1 : Nat) : Nat := 0x0240094 + 0x100 * n0 + 0x4 * n1
/-- TRF_IND_SEL -/
abbrev R.trfIndSel : Nat := 0x0244000
/-- TRF_IND_CMD -/
abbrev R.trfIndCmd : Nat := 0x0244004
/-- TRF_IND_DATA_i -/
abbrev R.trfIndData (n0 : Nat) : Nat := 0x0244010 + 0x4 * n0
/-- TRF_GATE_LO_p_e -/
abbrev R.trfGateLo (n0 n1 : Nat) : Nat := 0x0260000 + 0x2000 * n0 + 0x8 * n1
/-- TRF_GATE_HI_p_e -/
abbrev R.trfGateHi (n0 n1 : Nat) : Nat := 0x0260004 + 0x2000 * n0 + 0x8 * n1
/-- MEM_POOL_STATUS -/
abbrev R.memPoolStatus : Nat := 0x0400000
/-- MEM_CHAN_CTL_c -/
abbrev R.memChanCtl (n0 : Nat) : Nat := 0x0401000 + 0x4 * n0
/-- MEM_CHAN_FREE_c -/
abbrev R.memChanFree (n0 : Nat) : Nat := 0x0401800 + 0x4 * n0
/-- MEM_CHAN_CMD -/
abbrev R.memChanCmd : Nat := 0x0402000
/-- MEM_PART_BASE_LO -/
abbrev R.memPartBaseLo (n0 : Nat) : Nat := 0x0410000 + 0x40 * n0
/-- MEM_PART_BASE_HI -/
abbrev R.memPartBaseHi (n0 : Nat) : Nat := 0x0410004 + 0x40 * n0
/-- MEM_PART_SIZE -/
abbrev R.memPartSize (n0 : Nat) : Nat := 0x0410008 + 0x40 * n0
/-- MEM_PART_NEAR -/
abbrev R.memPartNear (n0 : Nat) : Nat := 0x041000C + 0x40 * n0
/-- MEM_PART_FAR -/
abbrev R.memPartFar (n0 : Nat) : Nat := 0x0410010 + 0x40 * n0
/-- MEM_PART_CHAN -/
abbrev R.memPartChan (n0 : Nat) : Nat := 0x0410014 + 0x40 * n0
/-- MEM_PART_OWNER -/
abbrev R.memPartOwner (n0 : Nat) : Nat := 0x0410018 + 0x40 * n0
/-- MEM_PART_CTL -/
abbrev R.memPartCtl (n0 : Nat) : Nat := 0x041001C + 0x40 * n0
/-- MEM_PART_CLEAR_REMAIN -/
abbrev R.memPartClearRemain (n0 : Nat) : Nat := 0x0410020 + 0x40 * n0
/-- MEM_PART_NEAR_RESIDENT -/
abbrev R.memPartNearResident (n0 : Nat) : Nat := 0x0410024 + 0x40 * n0
/-- MEM_PART_LAYER_LO -/
abbrev R.memPartLayerLo (n0 : Nat) : Nat := 0x0410028 + 0x40 * n0
/-- MEM_PART_LAYER_HI -/
abbrev R.memPartLayerHi (n0 : Nat) : Nat := 0x041002C + 0x40 * n0
/-- MEM_PART_LAYER_COUNT -/
abbrev R.memPartLayerCount (n0 : Nat) : Nat := 0x0410030 + 0x40 * n0
/-- KV_STORE_CTL -/
abbrev R.kvStoreCtl (n0 : Nat) : Nat := 0x0460000 + 0x20 * n0
/-- KV_STORE_GEOM -/
abbrev R.kvStoreGeom (n0 : Nat) : Nat := 0x0460004 + 0x20 * n0
/-- KV_STORE_SLOTS -/
abbrev R.kvStoreSlots (n0 : Nat) : Nat := 0x0460008 + 0x20 * n0
/-- KV_STORE_FREE -/
abbrev R.kvStoreFree (n0 : Nat) : Nat := 0x046000C + 0x20 * n0
/-- KV_STORE_RETAIN -/
abbrev R.kvStoreRetain (n0 : Nat) : Nat := 0x0460010 + 0x20 * n0
/-- KV_ATTEND_STAT -/
abbrev R.kvAttendStat : Nat := 0x0461000
/-- COH_CTL -/
abbrev R.cohCtl : Nat := 0x0380000
/-- COH_WAYS_t -/
abbrev R.cohWays (n0 : Nat) : Nat := 0x0380100 + 0x4 * n0
/-- COH_WIN_BASE_LO -/
abbrev R.cohWinBaseLo (n0 : Nat) : Nat := 0x0381000 + 0x20 * n0
/-- COH_WIN_BASE_HI -/
abbrev R.cohWinBaseHi (n0 : Nat) : Nat := 0x0381004 + 0x20 * n0
/-- COH_WIN_SIZE -/
abbrev R.cohWinSize (n0 : Nat) : Nat := 0x0381008 + 0x20 * n0
/-- COH_WIN_BACK -/
abbrev R.cohWinBack (n0 : Nat) : Nat := 0x038100C + 0x20 * n0
/-- COH_WIN_CTL -/
abbrev R.cohWinCtl (n0 : Nat) : Nat := 0x0381010 + 0x20 * n0
/-- COH_AGENT_ID -/
abbrev R.cohAgentId (n0 : Nat) : Nat := 0x0382000 + 0x10 * n0
/-- COH_AGENT_CTL -/
abbrev R.cohAgentCtl (n0 : Nat) : Nat := 0x0382004 + 0x10 * n0
/-- CZ_STREAM_PART -/
abbrev R.czStreamPart (n0 : Nat) : Nat := 0x0440000 + 0x40 * n0
/-- CZ_STREAM_STORE -/
abbrev R.czStreamStore (n0 : Nat) : Nat := 0x0440004 + 0x40 * n0
/-- CZ_STREAM_PAGES -/
abbrev R.czStreamPages (n0 : Nat) : Nat := 0x0440008 + 0x40 * n0
/-- CZ_STREAM_BLOCKS -/
abbrev R.czStreamBlocks (n0 : Nat) : Nat := 0x044000C + 0x40 * n0
/-- CZ_STREAM_CTL -/
abbrev R.czStreamCtl (n0 : Nat) : Nat := 0x0440010 + 0x40 * n0
/-- CZ_STREAM_WRITTEN -/
abbrev R.czStreamWritten (n0 : Nat) : Nat := 0x0440014 + 0x40 * n0
/-- CZ_STREAM_USED -/
abbrev R.czStreamUsed (n0 : Nat) : Nat := 0x0440018 + 0x40 * n0
/-- CZ_STREAM_LAST -/
abbrev R.czStreamLast (n0 : Nat) : Nat := 0x044001C + 0x40 * n0
/-- CZ_STREAM_TCRC_n -/
abbrev R.czStreamTcrc (n0 n1 : Nat) : Nat := 0x0440020 + 0x40 * n0 + 0x4 * n1
/-- VSR_ARRAY_STAT_d -/
abbrev R.vsrArrayStat (n0 : Nat) : Nat := 0x0480000 + 0x4 * n0
/-- VSR_INDEX_CTL_i -/
abbrev R.vsrIndexCtl (n0 : Nat) : Nat := 0x0481000 + 0x8 * n0
/-- VSR_INDEX_MODE_i -/
abbrev R.vsrIndexMode (n0 : Nat) : Nat := 0x0481004 + 0x8 * n0
/-- SEC_TENANT_CTL_t -/
abbrev R.secTenantCtl (n0 : Nat) : Nat := 0x0040000 + 0x4 * n0
/-- SEC_CLUSTER_OWNER_w -/
abbrev R.secClusterOwner (n0 : Nat) : Nat := 0x0040400 + 0x4 * n0
/-- SEC_PORT_BIND_p -/
abbrev R.secPortBind (n0 : Nat) : Nat := 0x0040800 + 0x4 * n0
/-- SEC_PORT_CRYPT_p -/
abbrev R.secPortCrypt (n0 : Nat) : Nat := 0x0040900 + 0x4 * n0
/-- SEC_ASSIGN_FIRST -/
abbrev R.secAssignFirst : Nat := 0x0040C00
/-- SEC_ASSIGN_CTL -/
abbrev R.secAssignCtl : Nat := 0x0040C04
/-- PORT_MODE_CTL -/
abbrev R.portModeCtl (n0 : Nat) : Nat := 0x0100000 + 0x4000 * n0
/-- PORT_LINK_STATUS -/
abbrev R.portLinkStatus (n0 : Nat) : Nat := 0x0100004 + 0x4000 * n0
/-- PORT_PEER -/
abbrev R.portPeer (n0 : Nat) : Nat := 0x0100008 + 0x4000 * n0
/-- PORT_FEATURES -/
abbrev R.portFeatures (n0 : Nat) : Nat := 0x010000C + 0x4000 * n0
/-- PORT_REPLAY_CTL -/
abbrev R.portReplayCtl (n0 : Nat) : Nat := 0x0100010 + 0x4000 * n0
/-- PORT_LANE_STAT_l -/
abbrev R.portLaneStat (n0 n1 : Nat) : Nat := 0x0100100 + 0x4000 * n0 + 0x4 * n1
/-- HUB_ID -/
abbrev R.hubId : Nat := 0x0000000
/-- HUB_UNLOCK_INDEX -/
abbrev R.hubUnlockIndex : Nat := 0x0000020
/-- HUB_UNLOCK -/
abbrev R.hubUnlock : Nat := 0x0000024
/-- HUB_LAST_ERR -/
abbrev R.hubLastErr : Nat := 0x0000028
/-- HUB_LAST_ERR_SRC -/
abbrev R.hubLastErrSrc : Nat := 0x000002C
/-- HUB_ERR_COUNT -/
abbrev R.hubErrCount : Nat := 0x0000030
/-- MGMT_MBX_CMD -/
abbrev R.mgmtMbxCmd (n0 : Nat) : Nat := 0x0060000 + 0x100 * n0
/-- MGMT_MBX_STATUS -/
abbrev R.mgmtMbxStatus (n0 : Nat) : Nat := 0x0060004 + 0x100 * n0
/-- MGMT_MBX_SEG -/
abbrev R.mgmtMbxSeg (n0 : Nat) : Nat := 0x0060008 + 0x100 * n0
/-- MGMT_MBX_WLEN -/
abbrev R.mgmtMbxWlen (n0 : Nat) : Nat := 0x006000C + 0x100 * n0
/-- MGMT_MBX_DATA_i -/
abbrev R.mgmtMbxData (n0 n1 : Nat) : Nat := 0x0060040 + 0x100 * n0 + 0x4 * n1
/-- MGMT_BUS_STAT_b -/
abbrev R.mgmtBusStat (n0 : Nat) : Nat := 0x0061000 + 0x4 * n0
/-- PWR_INPUT -/
abbrev R.pwrInput : Nat := 0x0020000
/-- PWR_THROTTLE -/
abbrev R.pwrThrottle : Nat := 0x0020004
/-- PWR_EVENTS -/
abbrev R.pwrEvents : Nat := 0x0020008
/-- PWR_TEMP -/
abbrev R.pwrTemp : Nat := 0x002000C
/-- PWR_RESET_CMD -/
abbrev R.pwrResetCmd : Nat := 0x0020010
/-- PWR_RESET_CAUSE -/
abbrev R.pwrResetCause : Nat := 0x0020014
/-- FLT_FENCE_LO -/
abbrev R.fltFenceLo : Nat := 0x0080000
/-- FLT_FENCE_HI -/
abbrev R.fltFenceHi : Nat := 0x0080004
/-- FLT_STATUS -/
abbrev R.fltStatus : Nat := 0x0080008
/-- HUB_CSRARB_TICKETS_n -/
abbrev R.hubCsrarbTickets (n0 : Nat) : Nat := 0x0001200 + 0x4 * n0

end Sys2Proof.Machine
end

