-- ==== Sys2Proof/Machine/UnitTree.lean ====
section
/-! DEFINITION. The unit tree (R22-R25, R33): where a unit stands, its dictionary index, its path, its parent and children, and
which units a variant has (R1-R4). -/

namespace Sys2Proof.Machine

/-- A unit of this package's tree, or one of its ancestors (R24). -/
inductive UnitLoc where
  | span | trayGroup | tray | package
  | die (d : Nat) | hub | portDie (k : Nat)
  | hubSection (n : Nat) | hcg (g : Nat) | port (p : Nat) | quadrant (d q : Nat) | memSub (d : Nat) | meadowArray (d : Nat)
  | portSlot (g s : Nat) | memCtl (d i : Nat) | cluster (d q c : Nat) | meadowGroup (d g : Nat)
  | hcu (g s u : Nat) | floret (d q c f : Nat) | sketch (d g u : Nat)
  deriving DecidableEq, Repr, Inhabited

/-- The unit of an index of R33. An engine die's alias index 0x8010 + d gives the die. -/
def unitLoc (u : Nat) : Option UnitLoc :=
  if u = 0x8000 then some .span
  else if u = 0x8001 then some .trayGroup
  else if u = 0x8002 then some .tray
  else if u = 0x8003 then some .package
  else if 0x8010 ≤ u ∧ u ≤ 0x8018 then
    let k := u - 0x8010
    some (if k < 4 then .die k else if k = 4 then .hub else .portDie (k - 5))
  else if 0x8020 ≤ u ∧ u ≤ 0x802E then
    let k := u - 0x8020
    some (if k < 6 then .hubSection k else .hcg (k - 6))
  else if 0x8040 ≤ u ∧ u < 0x8040 + 36 then some (.port (u - 0x8040))
  else if 0x8100 ≤ u ∧ u < 0x8100 + 9 * 0x20 then
    let g := (u - 0x8100) / 0x20
    let s := (u - 0x8100) % 0x20 / 8
    let k := u % 8
    if k = 7 then some (.portSlot g s) else if k < 6 then some (.hcu g s k) else none
  else if 0x9000 ≤ u ∧ u < 0xB000 then
    let d := (u - 0x9000) / 0x800
    let r := (u - 0x9000) % 0x800
    if r = 0 then some (.die d)
    else if 0x10 ≤ r ∧ r < 0x14 then some (.quadrant d (r - 0x10))
    else if r = 0x20 then some (.memSub d)
    else if 0x21 ≤ r ∧ r < 0x27 then some (.memCtl d (r - 0x21))
    else if r = 0x30 then some (.meadowArray d)
    else if 0x31 ≤ r ∧ r < 0x35 then some (.meadowGroup d (r - 0x31))
    else if 0x100 ≤ r ∧ r < 0x140 then some (.cluster d ((r - 0x100) / 16) (r % 16))
    else if 0x200 ≤ r ∧ r < 0x240 then some (.sketch d ((r - 0x200) / 16) (r % 16))
    else if 0x400 ≤ r then some (.floret d ((r - 0x400) / 0x100) (r % 0x100 / 16) (r % 16))
    else none
  else none

/-- The index of a unit (R33). -/
def unitIndex : UnitLoc → Nat
  | .span => 0x8000 | .trayGroup => 0x8001 | .tray => 0x8002 | .package => 0x8003
  | .die d => 0x9000 + d * 0x800 | .hub => 0x8014 | .portDie k => 0x8015 + k
  | .hubSection n => 0x8020 + n | .hcg g => 0x8026 + g | .port p => 0x8040 + p
  | .quadrant d q => 0x9010 + d * 0x800 + q | .memSub d => 0x9020 + d * 0x800 | .meadowArray d => 0x9030 + d * 0x800
  | .portSlot g s => 0x8107 + g * 0x20 + s * 8 | .memCtl d i => 0x9021 + d * 0x800 + i
  | .cluster d q c => 0x9100 + d * 0x800 + q * 16 + c | .meadowGroup d g => 0x9031 + d * 0x800 + g
  | .hcu g s u => 0x8100 + g * 0x20 + s * 8 + u | .floret d q c f => 0x9400 + d * 0x800 + q * 0x100 + c * 16 + f
  | .sketch d g u => 0x9200 + d * 0x800 + g * 16 + u

/-- The path of a unit in a package with these coordinates, TRAY_GROUP x 256 + TRAY x 16 + PACKAGE (R22, R25). -/
def unitPath (coords : Nat) (l : UnitLoc) : Nat :=
  let top := coords % 4096 * 65536
  let mk := fun (depth a b c d : Nat) => depth * 2 ^ 28 + top + a * 4096 + b * 256 + c * 16 + d
  match l with
  | .span => 0
  | .trayGroup => 2 ^ 28 + coords % 4096 / 256 * 2 ^ 24
  | .tray => 2 * 2 ^ 28 + coords % 4096 / 16 * 2 ^ 20
  | .package => mk 3 0 0 0 0
  | .die d => mk 4 d 0 0 0
  | .hub => mk 4 4 0 0 0
  | .portDie k => mk 4 (5 + k) 0 0 0
  | .hubSection n => mk 5 4 n 0 0
  | .hcg g => mk 5 4 (6 + g) 0 0
  | .port p => mk 5 (5 + p / 9) (p % 9) 0 0
  | .quadrant d q => mk 5 d q 0 0
  | .memSub d => mk 5 d 4 0 0
  | .meadowArray d => mk 5 d 5 0 0
  | .portSlot g s => mk 6 4 (6 + g) s 0
  | .memCtl d i => mk 6 d 4 i 0
  | .cluster d q c => mk 6 d q c 0
  | .meadowGroup d g => mk 6 d 5 g 0
  | .hcu g s u => mk 7 4 (6 + g) s u
  | .floret d q c f => mk 7 d q c f
  | .sketch d g u => mk 7 d 5 g u

/-- The unit above (R24); none above the span. -/
def unitParent : UnitLoc → Option UnitLoc
  | .span => none | .trayGroup => some .span | .tray => some .trayGroup | .package => some .tray
  | .die _ | .hub | .portDie _ => some .package
  | .hubSection _ | .hcg _ => some .hub
  | .port p => some (.portDie (p / 9))
  | .quadrant d _ | .memSub d | .meadowArray d => some (.die d)
  | .portSlot g _ => some (.hcg g) | .memCtl d _ => some (.memSub d) | .cluster d q _ => some (.quadrant d q)
  | .meadowGroup d _ => some (.meadowArray d)
  | .hcu g s _ => some (.portSlot g s) | .floret d q c _ => some (.cluster d q c) | .sketch d g _ => some (.meadowGroup d g)

/-- variant, 0x1000.03 (R6). -/
def variantCode : Variant → Nat
  | .dzm3608 => 1 | .dzm3604 => 2 | .dzm1808 => 3

/-- Ports of a variant (R1). -/
def portCount : Variant → Nat
  | .dzm1808 => 18 | _ => 36

/-- The unit exists in the variant (R2, R3). -/
def unitPresent (v : Variant) : UnitLoc → Bool
  | .portDie k => decide (k < portCount v / 9)
  | .port p => decide (p < portCount v)
  | .hcg g => decide (4 * g < portCount v)
  | .portSlot g s | .hcu g s _ => decide (4 * g + s < portCount v)
  | .memCtl _ i => !(decide (v = .dzm3604) && decide (i = 1))
  | _ => true

/-- Children of a unit that the variant has (R24). -/
def unitChildren (v : Variant) (l : UnitLoc) : List UnitLoc :=
  let all : List UnitLoc := match l with
    | .package => (List.range 4).map .die ++ [.hub] ++ (List.range 4).map .portDie
    | .die d => (List.range 4).map (.quadrant d) ++ [.memSub d, .meadowArray d]
    | .hub => (List.range 6).map .hubSection ++ (List.range 9).map .hcg
    | .portDie k => (List.range 9).map (fun i => .port (9 * k + i))
    | .quadrant d q => (List.range 16).map (.cluster d q)
    | .memSub d => (List.range 6).map (.memCtl d)
    | .meadowArray d => (List.range 4).map (.meadowGroup d)
    | .hcg g => (List.range 4).map (.portSlot g)
    | .cluster d q c => (List.range 16).map (.floret d q c)
    | .meadowGroup d g => (List.range 16).map (.sketch d g)
    | .portSlot g s => (List.range 6).map (.hcu g s)
    | _ => []
  all.filter (unitPresent v)

/-- A unit and everything below it, to the given number of levels. -/
def unitSubtreeN (v : Variant) : Nat → UnitLoc → List UnitLoc
  | 0, l => [l]
  | n + 1, l => l :: (unitChildren v l).flatMap (unitSubtreeN v n)

def unitSubtree (v : Variant) (l : UnitLoc) : List UnitLoc := unitSubtreeN v 4 l

/-- unit_kind (R34). -/
def unitKind : UnitLoc → Nat
  | .span => 0 | .trayGroup => 1 | .tray => 2 | .package => 3 | .die _ => 0x10 | .hub => 0x11 | .portDie _ => 0x12
  | .quadrant _ _ => 0x20 | .cluster _ _ _ => 0x21 | .floret _ _ _ _ => 0x22 | .hubSection _ => 0x30 | .hcg _ => 0x31
  | .portSlot _ _ => 0x32 | .hcu _ _ u => if u < 4 then 0x33 else if u = 4 then 0x34 else 0x35
  | .port _ => 0x38 | .memSub _ => 0x40 | .memCtl _ i => if i < 2 then 0x41 else 0x42
  | .meadowArray _ => 0x48 | .meadowGroup _ _ => 0x49 | .sketch _ _ _ => 0x4A

/-- `a` is `l` or stands above it. -/
def unitWithinN : Nat → UnitLoc → UnitLoc → Bool
  | 0, a, l => decide (a = l)
  | n + 1, a, l => decide (a = l) || match unitParent l with
    | some p => unitWithinN n a p
    | none => false

def unitWithin (a l : UnitLoc) : Bool := unitWithinN 7 a l

/-- The Floret of package-wide number F and the cluster of number C (R44). -/
def floretLoc (f : Nat) : UnitLoc := .floret (f / 1024) (f / 256 % 4) (f / 16 % 16) (f % 16)
def clusterLoc (c : Nat) : UnitLoc := .cluster (c / 64) (c / 16 % 4) (c % 16)
/-- The controller of a memory channel (R292). -/
def channelLoc (c : Nat) : UnitLoc :=
  if c < 256 then .memCtl (c / 64) (c / 32 % 2) else .memCtl ((c - 256) / 4) (2 + (c - 256) % 4)

end Sys2Proof.Machine
end

