-- ==== Sys2Proof/Machine/Objects.lean ====
section
/-! DEFINITION. The row of the object dictionary that an index and a subindex name (R4, R15, R33). -/

namespace Sys2Proof.Machine

/-- The object's own index is one of the row's. -/
def ObjSpec.covers (o : ObjSpec) (index sub : Nat) : Bool :=
  decide (o.sub = sub) && decide (o.index ≤ index) && decide ((index - o.index) % o.stride = 0) &&
  decide ((index - o.index) / o.stride < o.count)

/-- Objects of a unit's index (R34, R100, R188, R189, R231, R323, R324, R425, R549). -/
def unitObjsOf : UnitLoc → List ObjSpec
  | .package => unitObjs ++ objTable.filter (fun o => decide (o.index = 0x8003))
  | .floret _ _ _ _ => unitObjs ++ floretObjs
  | .cluster _ _ _ => unitObjs ++ clusterObjs
  | .hcu _ _ _ => unitObjs ++ hcuUnitObjs
  | .memCtl _ _ => unitObjs ++ memUnitObjs
  | .meadowArray _ | .meadowGroup _ _ | .sketch _ _ _ => unitObjs ++ meadowUnitObjs
  | .quadrant _ _ => unitObjs ++ quadrantObjs
  | _ => unitObjs

/-- The row of an object; none is a reserved location. -/
def objSpec (index sub : Nat) : Option ObjSpec :=
  if 0x8000 ≤ index ∧ index < 0xC000 then
    match unitLoc index with
    | none => none
    | some l => (unitObjsOf l).find? (fun o => decide (o.sub = sub))
  else objTable.find? (fun o => o.covers index sub)

/-- Software may write the object. -/
def ObjSpec.writable (o : ObjSpec) : Bool :=
  match o.acc with
  | .rw | .rwl | .wo => true
  | .const | .ro => false

end Sys2Proof.Machine
end

