-- ==== Sys2Proof/Machine/Ops.lean ====
section
/-! DEFINITION. The shared operations: answers (R69-R73), objects and registers, bytes of the pool and of SRAM, counters (R288,
R500), an issuer's open operations and its fences (R60, R64, R88, R91), sync objects and waits (R93-R96), events (R494-R497), fault
records (R552), bus errors (R511). -/

namespace Sys2Proof.Machine

abbrev Result := Host.Outcome State Fault Refusal

/-! ### Answers -/

/-- A command begins with nothing answered and nothing sent. -/
def State.begin (s : State) : State := { s with out := {} }

/-- Something is sent. -/
def State.emit (s : State) (m : Msg) : State := { s with out := { s.out with sent := s.out.sent ++ [m] } }

/-- The next free value (R70-R99 leave it open): bounded by `n` when `n` is not 0. -/
def State.free (s : State) (n : Nat) : Nat × State :=
  (Config.freeNat s.freeCounter % n, { s with freeCounter := s.freeCounter + 1 })

/-- A refusal (R70): not executed. -/
def refusal (st : Status) (reason : Reason := .none) (result : Word64 := 0) : Response :=
  { status := st, disp := .refused, reason := reason, result := result }

/-- Executed, with a STATUS (R70). -/
def served (st : Status := .ok) (result : Word64 := 0) (reason : Reason := .none) : Response :=
  { status := st, disp := .served, reason := reason, result := result }

/-- Executed later than its class allows (R70, R287): DEFER turns SERVED with OK into DEFERRED. -/
def deferredBy (defer : Reason) (r : Response) : Response :=
  if r.status = .ok ∧ r.disp = .served ∧ defer ≠ .none then { r with disp := .deferred, reason := defer } else r

/-! ### Objects and registers -/

/-- The numeric value of an object; `d` is its default. -/
def State.num (s : State) (k d : Nat) : Nat :=
  match Store.read none s.dict k with
  | some (.num n) => n
  | _ => d

/-- The bytes of a STR or BLOB object; empty by default. -/
def State.bytesObj (s : State) (k : Nat) : List Byte :=
  match Store.read none s.dict k with
  | some (.bytes b) => b
  | _ => []

def State.setNum (s : State) (k v : Nat) : State := { s with dict := Store.write none s.dict k (some (.num v)) }

def State.setBytes (s : State) (k : Nat) (b : List Byte) : State :=
  { s with dict := Store.write none s.dict k (some (.bytes b)) }

/-- A counter of 64 bits rises by `n` and wraps. -/
def State.bumpN (s : State) (k n : Nat) : State :=
  if n = 0 then s else s.setNum k ((s.num k 0 + n) % 2 ^ 64)

def State.bump (s : State) (k : Nat) : State := s.bumpN k 1

/-- A counter of 32 bits rises by 1 and wraps. -/
def State.bump32 (s : State) (k : Nat) : State := s.setNum k ((s.num k 0 + 1) % 2 ^ 32)

/-- A register held in the CSR store; `d` is its reset value. -/
def State.reg (s : State) (a d : Nat) : Nat :=
  match Store.read none s.csr a with
  | some v => v.toNat
  | none => d

def State.setReg (s : State) (a v : Nat) : State :=
  { s with csr := Store.write none s.csr a (some (BitVec.ofNat 32 v)) }

/-! ### Package identity -/

/-- node_id (0x2200.01). -/
def State.nodeId (s : State) : Nat := s.num O.nodeId 0xFFFF
/-- span_coords (0x2200.02). -/
def State.coords (s : State) : Nat := s.num O.spanCoords 0
/-- A NODE names this package (R42). -/
def State.isHere (s : State) (node : Nat) : Bool := decide (node = 0xFFFF) || decide (node = s.nodeId)
/-- The unit path of a unit of this package. -/
def State.path (s : State) (l : UnitLoc) : Nat := unitPath s.coords l
def State.present (s : State) (l : UnitLoc) : Bool := unitPresent s.chip.variant l
/-- The package runs: commands of its data path have an effect (R524, R542, R545, R591). -/
def State.running (s : State) : Bool := decide (s.power.package = .running)

/-- The management domain (R426): Bondiush, the management paths and every issuer bound to 0xFF. -/
def isMgmt (i : Issuer) : Bool := decide (i.tenant = 0xFF)

/-- The unit path LAST_NOTIFIER records for an issuer (R93); a queue's is not stated and is a free value. -/
def State.issuerPath (s : State) (i : Issuer) : Nat :=
  match i.src with
  | .floret f => s.path (floretLoc f)
  | .endpoint n => 15 * 2 ^ 28 + n % 65536
  | .mgmt => s.path .package
  | .commit q _ => s.path (.quadrant (q / 4) (q % 4))
  | .queue _ => Config.freeNat s.freeCounter % 2 ^ 32

/-! ### Unit states (R536, R539, R556) -/

def State.unit (s : State) (l : UnitLoc) : UnitRec := Store.read ({} : UnitRec) s.power.units (unitIndex l)
def State.setUnit (s : State) (l : UnitLoc) (u : UnitRec) : State :=
  { s with power := { s.power with units := Store.write ({} : UnitRec) s.power.units (unitIndex l) u } }

/-- The unit's admission is closed: requests that reach it are refused with E_BUSY, REASON UNIT_STATE (R536, R539). -/
def State.closed (s : State) (l : UnitLoc) : Bool := decide ((s.unit l).state ≠ .active)

/-- unit_epoch[7:0] of an issuer, which its operations carry (R538); a queue's hub section is not in the manual. -/
def State.issuerEpoch (s : State) (i : Issuer) : Nat :=
  match i.src with
  | .floret f => (s.unit (floretLoc f)).epoch % 256
  | .commit q _ => (s.unit (.quadrant (q / 4) (q % 4))).epoch % 256
  | _ => 0

/-! ### Bytes -/

def State.memByte (s : State) (a : Nat) : Byte := Store.read 0 s.mem a
def State.sramByte (s : State) (a : Nat) : Byte := Store.read 0 s.sram a

def readRange (st : Store Byte) (off : Nat) : Nat → List Byte
  | 0 => []
  | n + 1 => Store.read 0 st off :: readRange st (off + 1) n

def writeRange (st : Store Byte) (off : Nat) : List Byte → Store Byte
  | [] => st
  | b :: t => writeRange (Store.write 0 st off b) (off + 1) t

/-- n bytes of REGION 0x0 from an offset. -/
def State.memBytes (s : State) (off n : Nat) : List Byte := readRange s.mem off n
def State.memWrite (s : State) (off : Nat) (bs : List Byte) : State := { s with mem := writeRange s.mem off bs }
def State.sramBytes (s : State) (off n : Nat) : List Byte := readRange s.sram off n
def State.sramWrite (s : State) (off : Nat) (bs : List Byte) : State := { s with sram := writeRange s.sram off bs }

/-- Every byte of a range becomes zero: entries inside it go. -/
def Store.clearRange {α : Type} (st : Store α) (off n : Nat) : Store α :=
  st.filter (fun e => !(decide (off ≤ e.1) && decide (e.1 < off + n)))

/-- A Store's values under a function that may bring one back to the default. -/
def Store.revalue {α : Type} [DecidableEq α] (d : α) (f : α → α) (st : Store α) : Store α :=
  st.filterMap (fun e => if f e.2 = d then none else some (e.1, f e.2))

def State.memZero (s : State) (off n : Nat) : State := { s with mem := Store.clearRange s.mem off n }
def State.sramZero (s : State) (off n : Nat) : State := { s with sram := Store.clearRange s.sram off n }

/-! ### Time -/

/-- A throttle is in force (R520, R522, R526). -/
def State.throttled (s : State) : Bool := decide (s.power.sag ≠ .none) || !s.power.powerSteps.isEmpty || s.power.thermal

/-- `n` fabric ticks pass: throttle_ticks counts them while a throttle is in force (R548). -/
def State.ticksPass (s : State) (n : Nat) : State := if s.throttled then s.bumpN O.throttleTicks n else s

/-- A fabric tick passes (R53, R120): the model's clock and FTC advance by 8 ns. -/
def State.idleTick (s : State) : State :=
  ({ s with now := s.now + tickUnits, ftc := (s.ftc + tickUnits) % 2 ^ 64 } : State).ticksPass 1

/-- A time limit passes: the clock stands at `t` or later. An event that ends a wait at its limit brings the clock there. -/
def State.elapse (s : State) (t : Nat) : State :=
  if s.now < t then
    ({ s with now := t, ftc := (s.ftc + (t - s.now)) % 2 ^ 64 } : State).ticksPass (t / tickUnits - s.now / tickUnits)
  else s

/-! ### Counters by owner (R288, R291, R500, R573) -/

/-- The place of an owner in a bank of 65: tenants 0-63, then the management domain. -/
def ownerIx (tenant : Nat) : Nat := if tenant < 64 then tenant else 64

/-- A deferral of a tenant's request by cause (R288, R291). -/
def State.countDeferral (s : State) (tenant : Nat) (r : Reason) : State :=
  if r = .none then s else s.bump ((0x3501 + ownerIx tenant) * 256 + r.code)

/-- A refusal of a tenant's request by cause (R288, R291). -/
def State.countRefusal (s : State) (tenant : Nat) (r : Reason) : State :=
  if r = .none then s else s.bump ((0x3501 + ownerIx tenant) * 256 + 0x20 + r.code)

/-- An activity meter rises while activity metering applies (R500, R573). -/
def State.meter (s : State) (tenant sub n : Nat) : State :=
  if Store.read 0 s.faults.meterMode (ownerIx tenant) = 0 then s.bumpN ((0x5C01 + ownerIx tenant) * 256 + sub) n else s

/-! ### LOAD (R72) -/

/-- Cells that hold frame payload. -/
def State.cellsInUse (s : State) : Nat :=
  (s.sw.frames.map (fun e => match e.2 with | some f => f.cells | none => 0)).sum

/-- The queue whose depth gives the Q term (R72): a depth and a capacity, or a queue whose capacity the manual does not give. -/
inductive LoadQueue where
  | depth (d cap : Nat)
  | hub
  deriving DecidableEq, Repr, Inhabited

/-- LOAD as of now. -/
def State.loadOf (s : State) (q : LoadQueue) : Nat :=
  let m := min 15 (16 * s.cellsInUse / 393216)
  match q with
  | .depth d cap => max m (min 15 (16 * d / cap))
  | .hub => max m (Config.freeNat s.freeCounter % 16)

/-! ### Queues and an issuer's open operations (R60, R64, R75, R88, R91) -/

def State.queue (s : State) (q : Nat) : QueueCtx := Store.read ({} : QueueCtx) s.remote.queues q
def State.setQueue (s : State) (q : Nat) (c : QueueCtx) : State :=
  { s with remote := { s.remote with queues := Store.write ({} : QueueCtx) s.remote.queues q c } }

/-- The work queue of a unit of this package (x.07, R34). -/
def unitQueue (l : UnitLoc) : Nat := unitIndex l - 0x8000

/-- The queue whose context keeps an issuer's posted counts (R88): a queue's own, a Floret's unit work queue. -/
def issuerQueue (i : Issuer) : Option Nat :=
  match i.src with
  | .queue q => some q
  | .floret f => some (unitQueue (floretLoc f))
  | _ => none

def State.endpointPosted (s : State) (n : Nat) : EndpointPosted := Store.read ({} : EndpointPosted) s.remote.endpoints n
def State.setEndpointPosted (s : State) (n : Nat) (e : EndpointPosted) : State :=
  { s with remote := { s.remote with endpoints := Store.write ({} : EndpointPosted) s.remote.endpoints n e } }

/-- STICKY_STATUS and FIRST_FAIL_SEQ of an issuer (R91). -/
def State.stickyOf (s : State) (i : Issuer) : Status × Word32 :=
  match issuerQueue i with
  | some q => ((s.queue q).sticky, (s.queue q).firstFailSeq)
  | none => match i.src with
    | .endpoint n => ((s.endpointPosted n).sticky, (s.endpointPosted n).firstSeq)
    | _ => (.ok, 0)

/-- STICKY_STATUS is cleared by a fence or by the command (R91). -/
def State.clearSticky (s : State) (i : Issuer) : State :=
  match issuerQueue i with
  | some q => s.setQueue q { s.queue q with sticky := .ok }
  | none => match i.src with
    | .endpoint n => s.setEndpointPosted n { s.endpointPosted n with sticky := .ok }
    | _ => s

/-- The first posted failure while STICKY_STATUS is 0x00 sets it (R91). -/
def State.setSticky (s : State) (i : Issuer) (st : Status) (pseq : Word32) : State :=
  if (s.stickyOf i).1 ≠ .ok then s
  else match issuerQueue i with
    | some q => s.setQueue q { s.queue q with sticky := st, firstFailSeq := pseq }
    | none => match i.src with
      | .endpoint n => s.setEndpointPosted n { s.endpointPosted n with sticky := st, firstSeq := pseq }
      | _ => s

/-- One more posted operation of an issuer has retired (R88, R90). -/
def State.countRetired (s : State) (i : Issuer) : State :=
  match issuerQueue i with
  | some q => s.setQueue q { s.queue q with postedRetired := (s.queue q).postedRetired + 1 }
  | none => match i.src with
    | .endpoint n => s.setEndpointPosted n { s.endpointPosted n with retired := (s.endpointPosted n).retired + 1 }
    | _ => s

/-- One more posted operation of an issuer has started (R88). -/
def State.countIssued (s : State) (i : Issuer) : State :=
  match issuerQueue i with
  | some q => s.setQueue q { s.queue q with postedIssued := (s.queue q).postedIssued + 1 }
  | none => match i.src with
    | .endpoint n => s.setEndpointPosted n { s.endpointPosted n with issued := (s.endpointPosted n).issued + 1 }
    | _ => s

/-- An open operation is this one. -/
def OutOp.is (o : OutOp) (i : Issuer) (posted : Bool) (id : Nat) : Bool :=
  decide (o.issuer = i) && (o.posted == posted) && decide (o.id = id)

def State.outOp (s : State) (i : Issuer) (posted : Bool) (id : Nat) : Option OutOp :=
  s.remote.outstanding.find? (fun o => o.is i posted id)

/-- An operation that does not end at once is open until it is visible or has failed (R64). -/
def State.openOp (s : State) (r : Req) (op : Nat) : State :=
  if r.copy.isSome || (s.outOp r.issuer r.posted r.seq).isSome then s
  else { s with remote := { s.remote with outstanding := s.remote.outstanding ++ [
    { issuer := r.issuer, op := op, id := r.seq, posted := r.posted, target := r.target, tc := r.tc, issuedAt := s.now,
      epoch := s.issuerEpoch r.issuer, localA := r.localA, tag := r.tag, lifetime := usUnits (s.num O.postedLifetimeUs 16000) }] } }

/-- The operation is visible or has failed: it is open no more, and a posted one has retired (R90). -/
def State.closeOp (s : State) (i : Issuer) (posted : Bool) (id : Nat) : State :=
  match s.outOp i posted id with
  | none => s
  | some o =>
    let s1 := { s with remote := { s.remote with
      outstanding := s.remote.outstanding.filter (fun x => !(x.is i posted id)) } }
    if o.posted then s1.countRetired i else s1

/-- NODE 0xFFFF is this package (R42). -/
def State.resolve (s : State) (a : Word64) : Nat := if addrNode a = 0xFFFF then s.nodeId else addrNode a

/-- The issuer's open operations before one of its own, in issue order, all or those to one node (R60, R64). -/
def State.earlier (s : State) (r : Req) (nodeOnly : Bool) : List (Bool × Nat) :=
  let before := s.remote.outstanding.takeWhile (fun o => !(o.is r.issuer r.posted r.seq))
  (before.filter (fun o => decide (o.issuer = r.issuer) &&
    (!nodeOnly || decide (s.resolve o.target = s.resolve r.target)))).map (fun o => (o.posted, o.id))

/-- An outcome of a firing carries INJECTED; deferrals and refusals count in inject_outcomes (R561). -/
def State.markInjected (s : State) (a : Response) : Response × State :=
  let a1 := if s.faults.firing.isSome then { a with injected := true } else a
  (a1, if a1.injected && decide (a1.disp ≠ .served) then s.bump O.injectOutcomes else s)

/-- The response of an operation leaves (R69-R73): a refusal is counted by its cause (R288); an operation with its answer is open
no more; a posted operation that succeeded answers nothing, and one that failed retires when its failure is reported (R89). A request
deferred on its way answers so (R238). The answer of a copy of a multicast frame goes to the frame (R244). -/
def State.respondCore (s : State) (r : Req) (op : Nat) (a0 : Response) (q : LoadQueue := .hub) : State :=
  let a := (s.markInjected (deferredBy r.defer a0)).1
  let s0 := (s.markInjected (deferredBy r.defer a0)).2
  let s1 := if a.disp = .refused then s0.countRefusal r.issuer.tenant a.reason else s0
  if r.copy.isSome then { (s1.emit (.response r op { a with load := s1.loadOf q })) with freeCounter := s1.freeCounter + 1 }
  else if r.posted then
    if a.status = .ok then s1.closeOp r.issuer true r.seq
    else { (s1.emit (.response r op { a with load := s1.loadOf q })) with freeCounter := s1.freeCounter + 1 }
  else
    let s2 := s1.closeOp r.issuer false r.seq
    { (s2.emit (.response r op { a with load := s2.loadOf q })) with freeCounter := s2.freeCounter + 1 }

/-! ### Sync objects and waits (R93-R96) -/

def State.sync (s : State) (n : Nat) : SyncObj := Store.read ({} : SyncObj) s.remote.syncs n
def State.setSync (s : State) (n : Nat) (o : SyncObj) : State :=
  { s with remote := { s.remote with syncs := Store.write ({} : SyncObj) s.remote.syncs n o } }

/-- The condition of a wait holds (R94). -/
def condHolds (c : WaitCond) (value operand : Word64) : Bool :=
  match c with
  | .ge => decide (operand ≤ value)
  | .eq => decide (value = operand)
  | .ne => decide (value ≠ operand)
  | .all => decide (value &&& operand = operand)

/-- A wait ends with a STATUS: it leaves the table and its completion goes to the waiter (R94, R96). -/
def State.endWaitCore (s : State) (w : Wait) (st : Status) : State :=
  ({ s with remote := { s.remote with waits := s.remote.waits.filter (fun x => decide (x.id ≠ w.id)) } } : State).respondCore
    w.req 8 (if st = .flushed then refusal st else served st)

/-- Waits of an object whose condition now holds complete with OK, in registration order (R94). -/
def State.retest (s : State) (n : Nat) : State :=
  let v := (s.sync n).value
  (s.remote.waits.filter (fun w => decide (w.obj = n) && condHolds w.cond v w.operand)).foldl
    (fun t w => t.endWaitCore w .ok) s

/-- An update of VALUE (R93): the notifier, the FTC and the count change, and the waits are retested. -/
def State.updateCore (s : State) (n : Nat) (v : Word64) (by_ : Issuer) : State :=
  let o := s.sync n
  let s1 := s.setSync n { o with
    value := v
    lastNotifier := BitVec.ofNat 32 (s.issuerPath by_)
    lastChange := BitVec.ofNat 64 s.ftc
    changeCount := o.changeCount + 1 }
  ({ s1 with freeCounter := s1.freeCounter + 1 } : State).retest n

/-- A fence may complete: none of the issuer's operations that count is open (R64). -/
def State.fenceReady (s : State) (f : PendingFence) : Bool :=
  s.remote.outstanding.all (fun o => decide (o.issuer ≠ f.req.issuer) ||
    (f.nodeOnly && decide (s.resolve o.target ≠ s.resolve f.req.target)))

/-- A notify may be performed: every operation it waits for is visible or has failed (R60). -/
def State.notifyReady (s : State) (p : PendingNotify) : Bool :=
  p.waits.all (fun w => (s.outOp p.req.issuer w.1 w.2).isNone)

/-- A fence completes, reporting and clearing STICKY_STATUS (R64, R91). -/
def State.endFence (s : State) (f : PendingFence) : State :=
  let k := s.stickyOf f.req.issuer
  let s1 := if k.1 = .ok then s else s.clearSticky f.req.issuer
  s1.respondCore f.req 7 (served k.1 (if k.1 = .ok then 0 else k.2.setWidth 64))

/-- The notify is performed and answered (R60). -/
def State.endNotify (s : State) (p : PendingNotify) : State :=
  (s.updateCore p.obj ((s.sync p.obj).value + p.amount) p.req.issuer).respondCore p.req p.op (served)

/-- Fences and notifies that wait go ahead, one after the other, while one can. -/
def State.wakeN : Nat → State → State
  | 0, s => s
  | n + 1, s =>
    match s.remote.fences.find? (fun f => s.fenceReady f) with
    | some f => State.wakeN n (({ s with remote := { s.remote with fences := s.remote.fences.erase f } } : State).endFence f)
    | none =>
      match s.remote.notifies.find? (fun p => s.notifyReady p) with
      | some p => State.wakeN n (({ s with remote := { s.remote with notifies := s.remote.notifies.erase p } } : State).endNotify p)
      | none => s

def State.wake (s : State) : State := State.wakeN (s.remote.fences.length + s.remote.notifies.length) s

/-- An operation answers, and what waited for it goes ahead (R60, R64, R73). -/
def State.respond (s : State) (r : Req) (op : Nat) (a : Response) (q : LoadQueue := .hub) : State :=
  (s.respondCore r op a q).wake

/-- A wait that is pending ends (R96), and what waited for it goes ahead. -/
def State.endWait (s : State) (w : Wait) (st : Status) : State :=
  if s.remote.waits.any (fun x => decide (x.id = w.id)) then (s.endWaitCore w st).wake else s

/-- An update of VALUE (R93). -/
def State.syncUpdate (s : State) (n : Nat) (v : Word64) (by_ : Issuer) : State := (s.updateCore n v by_).wake

/-- An issuer may access a sync object (R93). -/
def State.syncOpen (s : State) (n : Nat) (i : Issuer) : Bool := decide ((s.sync n).owner = i.tenant)

/-- A notify of this package's object `n` for a request: performed once the issuer's earlier operations within its scope are
visible (R60). -/
def State.startNotify (s : State) (r : Req) (op n : Nat) (amount : Word64) (nodeOnly : Bool) : State :=
  let w := s.earlier r nodeOnly
  let p : PendingNotify := { req := r, op := op, obj := n, amount := amount, waits := w }
  if s.notifyReady p then (s.endNotify p).wake
  else ({ s with remote := { s.remote with notifies := s.remote.notifies ++ [p] } } : State).openOp r op

/-- The DZM's own notify of a sync address, for an issuer's tenant (R93): here, or sent to the address's node. The Bool is false
when the notify fails. -/
def State.notifyAddr (s : State) (addr : Word64) (tc : Nat) (by_ : Issuer) (amount : Word64 := 1) : Bool × State :=
  if addr = 0 then (true, s)
  else if s.isHere (addrNode addr) then
    let n := addrOffset addr / 64
    if addrRegion addr ≠ 3 ∨ addrOffset addr % 64 ≠ 0 ∨ 16384 ≤ n then (false, s)
    else if !s.syncOpen n by_ then (false, s)
    else (true, s.syncUpdate n ((s.sync n).value + amount) by_)
  else (true, s.emit (.operation
      { op := 5, req := { issuer := by_, tc := tc, posted := true, target := addr }, operand1 := amount }))

/-! ### Events (R494-R497) -/

def State.vector (s : State) (v : Nat) : Vector := Store.read ({} : Vector) s.mgmt.vectors v
def State.setVector (s : State) (v : Nat) (x : Vector) : State :=
  { s with mgmt := { s.mgmt with vectors := Store.write ({} : Vector) s.mgmt.vectors v x } }

/-- The management domain as an issuer (R427). -/
def mgmtIssuer : Issuer := { src := .mgmt, tenant := 0xFF }

/-- EVENT frames of one record to the destinations of a mask (R496). -/
def State.sendEvent (s : State) (mask : BitVec 4) (seqs : List Nat) : State :=
  ((List.range 4).filter (fun d => mask.getLsbD d)).foldl
    (fun (t : State) d => { (t.emit (.eventFrame d seqs)) with mgmt := { t.mgmt with
      eventFrames := t.mgmt.eventFrames ++ [{ dest := d, seqs := seqs, due := t.now + usUnits 250 }] } }) s

/-- The sync-object and MSI-X deliveries of one record (R496). -/
def State.deliverOther (s : State) (x : Vector) : State :=
  let s1 :=
    if x.syncAddr = 0 then s
    else
      let r := s.notifyAddr x.syncAddr x.syncTc mgmtIssuer
      if r.1 then r.2 else r.2.bump O.eventsUndelivered
  if x.msix.getLsbD 15 then s1.emit (.msix (x.msix.extractLsb' 8 6).toNat (x.msix.extractLsb' 0 6).toNat) else s1

/-- An event is formed, logged and delivered under its vector (R494, R496). -/
def State.event (s : State) (vector : Nat) (source : Nat) (kind : Nat) (st : Status) (arg : Nat) (injection : Bool := false) :
    State :=
  let injected := injection || s.faults.firing.isSome
  let x := s.vector vector
  let seq := s.mgmt.eventSeq + 1
  let e : Event := {
    seq := seq, ftc := s.ftc, source := BitVec.ofNat 32 source, vector := vector, kind := kind, status := st,
    flags := BitVec.ofNat 8 (b2n injected + 2 * b2n s.mgmt.eventLost), arg := BitVec.ofNat 32 arg,
    alert := x.enable && x.smbalert,
    owed := if x.enable then (List.range 4).filter (fun d => x.gdpMask.getLsbD d) else [] }
  let dropped := (s.mgmt.eventLog.take (s.mgmt.eventLog.length + 1 - 4096)).filter (fun o => decide (o.owed ≠ []))
  let s1 := { s with mgmt := { s.mgmt with
    eventSeq := seq
    eventLost := decide (dropped ≠ [])
    eventLog := lastN 4096 (s.mgmt.eventLog ++ [e]) } }
  let s2 := s1.bumpN O.eventsDropped dropped.length
  if !x.enable then s2
  else if x.holdoff = 0 then (s2.sendEvent x.gdpMask [seq]).deliverOther x
  else
    let g : Gathered := { seq := seq, syncAddr := x.syncAddr, syncTc := x.syncTc, msix := x.msix }
    match x.gather with
    | none => s2.setVector vector { x with gather := some ([g], s2.now + usUnits x.holdoff) }
    | some (l, due) => s2.setVector vector { x with gather := some (l ++ [g], due) }

/-- An event whose source's chapter states no KIND: its value is free (R494). -/
def State.eventOpen (s : State) (vector : Nat) (source : Nat) (st : Status) (arg : Nat) (injected : Bool := false) : State :=
  let k := s.free 256
  k.2.event vector source k.1 st arg injected

/-! ### Fault records (R552) -/

/-- A fault record and its event on vector 0x02E. -/
def State.fault (s : State) (code : Nat) (source : Nat) (arg : Nat) (action : Nat := 0) (st : Status := .ok)
    (entry0 : Option Nat := none) : State :=
  let entry := entry0.orElse (fun _ => s.faults.firing)
  let seq := s.faults.seq + 1
  let injected := entry.isSome
  let lost := decide (1024 ≤ s.faults.log.length) &&
    (s.faults.log.take 1).any (fun r => decide (s.faults.read < r.seq))
  let r : FaultRec := {
    seq := seq, ftc := s.ftc, source := BitVec.ofNat 32 source, code := code, action := action, status := st,
    flags := BitVec.ofNat 8 (b2n injected + 2 * b2n lost), entry := entry.getD 0xFFFF, arg := BitVec.ofNat 32 arg }
  let s1 := { s with faults := { s.faults with seq := seq, log := lastN 1024 (s.faults.log ++ [r]), lastCode := code } }
  let s2 := if action = 0 then s1 else s1.bump O.containments
  s2.event 0x02E source code st (seq % 2 ^ 32) injected

/-! ### Bus errors (R511) -/

/-- A refused CSR access: HUB_LAST_ERR latches while VALID is 0, else MORE; HUB_ERR_COUNT counts. -/
def State.busError (s : State) (i : Issuer) (addr : Nat) (write : Bool) (st : Status) : State :=
  let src := s.reg R.hubLastErrSrc 0
  let s1 :=
    if bitAt src 25 then s.setReg R.hubLastErrSrc (src ||| 2 ^ 26)
    else (s.setReg R.hubLastErr (addr / 4 % 2 ^ 24 + st.code * 2 ^ 24)).setReg R.hubLastErrSrc
      (i.node % 65536 + i.tenant % 256 * 65536 + b2n write * 2 ^ 24 + 2 ^ 25)
  s1.setReg R.hubErrCount ((s1.reg R.hubErrCount 0 + 1) % 2 ^ 32)

/-! ### Answers of registers and objects -/

/-- The command's own answer, with LOAD (R69-R73). -/
def State.answer (s : State) (r : Response) (q : LoadQueue := .hub) : State :=
  { s with
    out := { s.out with resp := some { r with load := s.loadOf q } }
    freeCounter := match q with
      | .hub => s.freeCounter + 1
      | .depth _ _ => s.freeCounter }

/-- A refused write of a register or of the object that mirrors it (R511, R16): a CSR access latches the error. -/
def State.refuseAt (s : State) (a : Access) (addr : Nat) (st : Status) (reason : Reason := .none) : State :=
  match a with
  | .csr i => (s.busError i addr true st).answer (refusal st reason)
  | .dict _ => s.answer (refusal st reason)

/-- Only the management domain may write the register (R350, R375, R396, R423, R452, R480, R547, R574). -/
def accessMgmt : Access → Bool
  | .csr i => isMgmt i
  | .dict _ => true

/-- The requester of the CSR bus an issuer is (R493). -/
def requesterOf (i : Issuer) : Nat := if i.tenant < 64 then i.tenant else 64

def State.csrReq (s : State) (n : Nat) : CsrRequester := Store.read ({} : CsrRequester) s.mgmt.requesters n
def State.setCsrReq (s : State) (n : Nat) (r : CsrRequester) : State :=
  { s with mgmt := { s.mgmt with requesters := Store.write ({} : CsrRequester) s.mgmt.requesters n r } }

/-- What a dictionary path holds. -/
def State.pathState (s : State) (p : DictPath) : PathState :=
  match s.mgmt.paths.find? (fun e => decide (e.1 = p)) with
  | some e => e.2
  | none => {}
def State.setPath (s : State) (p : DictPath) (x : PathState) : State :=
  let rest := s.mgmt.paths.filter (fun e => decide (e.1 ≠ p))
  { s with mgmt := { s.mgmt with paths := if x = {} then rest else rest ++ [(p, x)] } }

/-- A write ends the arm of its requester (R512) or path (R492); the Bool says that a guarded register at `addr` was armed. -/
def State.takeArm (s : State) (a : Access) (addr : Nat) : Bool × State :=
  match a with
  | .csr i =>
    let r := s.csrReq (requesterOf i)
    (decide (r.armed = some addr), s.setCsrReq (requesterOf i) { r with armed := none })
  | .dict p => (true, s.setPath p { s.pathState p with arm := none })

/-- A write of a register, guarded (R512) or not, that `check` refuses or lets through to `eff`. A refusal changes nothing but the arm
and the error registers. -/
def State.openWrite (s : State) (a : Access) (addr : Nat) (check : Option Response) (eff : State → State)
    (guarded : Bool := false) : State :=
  let g := s.takeArm a addr
  if guarded && !g.1 then g.2.refuseAt a addr .locked
  else match check with
    | some r => g.2.refuseAt a addr r.status r.reason
    | none => (eff g.2).answer (served)

/-- A write that only the management domain may make, of a register guarded (R512) or not, that `check` refuses or lets through to
`eff`. A refusal changes nothing but the arm and the error registers. -/
def State.mgmtWrite (s : State) (a : Access) (addr : Nat) (check : Option Response) (eff : State → State)
    (guarded : Bool := false) : State :=
  if !accessMgmt a then (s.takeArm a addr).2.refuseAt a addr .access else s.openWrite a addr check eff guarded

/-- A _LO word staged for its writer (R514), and the word taken back, at the _HI write. -/
def State.stageLo (s : State) (i : Issuer) (addr : Nat) (v : Nat) : State :=
  { s with mgmt := { s.mgmt with
    loStaged := Store.write none s.mgmt.loStaged (requesterOf i * 2 ^ 26 + addr) (some (BitVec.ofNat 32 v)) } }
def State.takeLo (s : State) (i : Issuer) (addr : Nat) : Option Nat × State :=
  let k := requesterOf i * 2 ^ 26 + addr
  ((Store.read none s.mgmt.loStaged k).map (·.toNat),
    { s with mgmt := { s.mgmt with loStaged := Store.write none s.mgmt.loStaged k none } })

/-- The fabric tick (R116), and the tick boundary at which a command that follows comes (R120). -/
def State.tick (s : State) : Nat := s.ftc / 32
def State.atFtc (s : State) (f : Nat) : State := if s.ftc < f then s.elapse (s.now + (f - s.ftc)) else s
def State.atTick (s : State) (n : Nat) : State := s.atFtc (32 * n)

/-- The STATUS of a code (R69). -/
def statusOf (c : Nat) : Status :=
  match [Status.ok, .param, .range, .align, .access, .locked, .rsvd, .notsup, .busy, .nospace, .flushed, .unitReset, .tier, .link,
    .check, .superseded, .timeout, .auth, .fuse, .deadlockBreak, .power][c]? with
  | some st => st
  | none => if 0x90 ≤ c then .kv (c - 0x90) else .floret (c - 0x80)

/-- n bytes the manual leaves open. -/
def freeBytes (f n : Nat) : List Byte := (List.range n).map (fun k => BitVec.ofNat 8 (Config.freeNat (f + k)))
def State.openBytes (s : State) (n : Nat) : List Byte × State :=
  (freeBytes s.freeCounter n, { s with freeCounter := s.freeCounter + n })

/-- Run an effect while the package runs; otherwise nothing happens. -/
def State.whenRunning (s : State) (f : State → State) : State := if s.running then f s else s

end Sys2Proof.Machine
end

