-- ==== Sys2Proof/Machine/Clocks.lean ====
section
/-! DEFINITION. Clocks and rates as the power controller and the throttles leave them (R520, R522, R523, R526, R527, R530). -/

namespace Sys2Proof.Machine

/-- The clock set for a cluster, in MHz, before any step or throttle (R530). -/
def State.clusterSet (s : State) (c : Nat) : Nat := Store.read 1800 s.power.clocks c
def State.setClusterClock (s : State) (c mhz : Nat) : State :=
  { s with power := { s.power with clocks := Store.write 1800 s.power.clocks c mhz } }

/-- The cluster is claimed by a plan (R50). -/
def State.clusterStatic (s : State) (c : Nat) : Bool := (Store.read none s.florets.staticBy c).isSome

/-- Steps of one kind of R520 that stand. -/
def State.powerStepsOf (s : State) (k : Nat) : Nat := (s.power.powerSteps.filter (fun x => decide (x = k))).length

/-- Engine clocks stand still: the package does not run (R524). -/
def State.clockStopped (s : State) : Bool := !s.running

/-- A clock lowered by steps of 100 MHz, never below 600 MHz or above what it was (R520, R526, R529). -/
def lowered (mhz steps : Nat) : Nat := max (min mhz 600) (mhz - 100 * steps)

/-- The clock of a cluster after the steps of R520. -/
def State.clusterPowered (s : State) (c : Nat) : Nat := lowered (s.clusterSet c) (s.powerStepsOf (if s.clusterStatic c then 3 else 1))
/-- ... and after the thermal throttle. -/
def State.clusterThermal (s : State) (c : Nat) : Nat :=
  lowered (s.clusterPowered c) (if s.clusterStatic c then s.power.thermalStatic else s.power.thermalDyn)
/-- ... and after the sag throttle: half, rising in four equal steps on release. -/
def State.clusterSag (s : State) (c : Nat) : Nat :=
  let m := s.clusterPowered c
  match s.power.sag with
  | .none => m
  | .inForce => m / 2
  | .releasing k => m / 2 + (m - m / 2) * k / 4

/-- cluster_clock_mhz: the lower of the throttles' clocks, 0 while clock-stopped (R527, R549). -/
def State.clusterMhz (s : State) (c : Nat) : Nat :=
  if s.clockStopped then 0 else min (s.clusterThermal c) (s.clusterSag c)

/-- Dynamic clusters issue nothing while the sag throttle is in force (R522). -/
def State.dynamicHeld (s : State) (c : Nat) : Bool := decide (s.power.sag = .inForce) && !(s.clusterStatic c)

/-- rate_limit_pct of a channel: the steps of R520, the sag throttle, a hot SPD hub (R324, R522, R526). -/
def State.chanPct (s : State) (c : Nat) : Nat :=
  min (max 25 (100 - 10 * s.powerStepsOf 2)) (min (if s.power.sag = .inForce then 25 else 100)
    (if 256 ≤ c ∧ (Store.read false s.mgmt.dimmHot (2 * (c - 256)) || Store.read false s.mgmt.dimmHot (2 * (c - 256) + 1)) then 50
     else 100))

end Sys2Proof.Machine
end

