-- ==== Sys2Proof/Machine/Float.lean ====
section
/-! DEFINITION. Number formats and their exact arithmetic (R166-R170, R172, R173, R593): a pattern is read as an exact value, sums
and products are exact, and one rounding gives the result. -/

namespace Sys2Proof.Machine

/-- What a pattern stands for: a sign and magnitude `mag` x 2^`exp`, an infinity, or a NaN. -/
inductive FVal where
  | nan
  | inf (neg : Bool)
  | fin (neg : Bool) (mag : Nat) (exp : Int)
  deriving DecidableEq, Repr, Inhabited

/-- How a format spends its top exponent (R167). -/
inductive TopExp where | ieee | e4m3 | finite
  deriving DecidableEq, Repr, Inhabited

/-- A binary floating-point format: exponent bits, fraction bits, and its top exponent (R167). -/
structure Fmt where
  e   : Nat
  m   : Nat
  top : TopExp
  deriving DecidableEq, Repr, Inhabited

def fp32 : Fmt := ⟨8, 23, .ieee⟩
def bf16 : Fmt := ⟨8, 7, .ieee⟩
def fp16 : Fmt := ⟨5, 10, .ieee⟩
def fp8e4m3 : Fmt := ⟨4, 3, .e4m3⟩
def fp8e5m2 : Fmt := ⟨5, 2, .ieee⟩
def fp6e2m3 : Fmt := ⟨2, 3, .finite⟩
def fp6e3m2 : Fmt := ⟨3, 2, .finite⟩
def fp4e2m1 : Fmt := ⟨2, 1, .finite⟩

/-- Width in bits. -/
def Fmt.width (f : Fmt) : Nat := 1 + f.e + f.m
def Fmt.bias (f : Fmt) : Nat := 2 ^ (f.e - 1) - 1
/-- Exponent of the unit in the last place of subnormals. -/
def Fmt.qmin (f : Fmt) : Int := 1 - (f.bias : Int) - (f.m : Int)

/-- Element formats by their code (R166); the MX codes name their element format. -/
def elemFmt (code : Nat) : Option Fmt :=
  if code = 1 then some fp32 else if code = 2 then some bf16 else if code = 3 then some fp16
  else if code = 4 ∨ code = 0x0C then some fp8e4m3 else if code = 5 ∨ code = 0x0D then some fp8e5m2
  else if code = 6 ∨ code = 0x0E then some fp6e2m3 else if code = 7 ∨ code = 0x0F then some fp6e3m2
  else if code = 8 ∨ code = 0x10 then some fp4e2m1 else none

/-- Width of an integer format (R166). -/
def intWidth (code : Nat) : Option Nat :=
  if code = 9 then some 8 else if code = 0xA then some 4 else if code = 0xB then some 32 else none

def isMx (code : Nat) : Bool := decide (0x0C ≤ code) && decide (code ≤ 0x10)

/-- The value of a pattern. -/
def Fmt.read (f : Fmt) (bits : Nat) : FVal :=
  let man := bits % 2 ^ f.m
  let ex := bits / 2 ^ f.m % 2 ^ f.e
  let neg := bits / 2 ^ (f.m + f.e) % 2 == 1
  let topAll := decide (ex = 2 ^ f.e - 1)
  if topAll && decide (f.top = .ieee) then (if man = 0 then .inf neg else .nan)
  else if topAll && decide (f.top = .e4m3) && decide (man = 2 ^ f.m - 1) then .nan
  else if ex = 0 then .fin neg man f.qmin
  else .fin neg (2 ^ f.m + man) (f.qmin + (ex : Int) - 1)

/-- The canonical NaN (R593). -/
def Fmt.nan (f : Fmt) : Nat :=
  match f.top with
  | .ieee => (2 ^ f.e - 1) * 2 ^ f.m + 2 ^ (f.m - 1)
  | .e4m3 => 2 ^ (f.e + f.m) - 1
  | .finite => 0

def Fmt.signBit (f : Fmt) (neg : Bool) : Nat := if neg then 2 ^ (f.m + f.e) else 0

/-- The infinity pattern of a format that has one. -/
def Fmt.infBits (f : Fmt) (neg : Bool) : Nat := f.signBit neg + (2 ^ f.e - 1) * 2 ^ f.m

/-- The pattern of the largest finite magnitude (R167). -/
def Fmt.maxBits (f : Fmt) : Nat :=
  match f.top with
  | .ieee => (2 ^ f.e - 1) * 2 ^ f.m - 1
  | .e4m3 => 2 ^ (f.e + f.m) - 2
  | .finite => 2 ^ (f.e + f.m) - 1

/-- Rounding (R158, R173): nearest-even, toward zero, or stochastic with a draw of 32 bits. -/
inductive Rnd where | rne | rz | sr (r : Nat)
  deriving DecidableEq, Repr, Inhabited

/-- Round mag x 2^exp to a multiple of 2^q: the multiple's count. -/
def roundTo (rnd : Rnd) (mag : Nat) (exp q : Int) : Nat :=
  if q ≤ exp then mag * 2 ^ (exp - q).toNat
  else
    let sh := (q - exp).toNat
    let n := mag / 2 ^ sh
    let rem := mag % 2 ^ sh
    match rnd with
    | .rz => n
    | .rne => if 2 * rem > 2 ^ sh ∨ (2 * rem = 2 ^ sh ∧ n % 2 = 1) then n + 1 else n
    | .sr r => if rem * 2 ^ 32 / 2 ^ sh + r ≥ 2 ^ 32 then n + 1 else n

/-- FLAGS as bits (R171). -/
abbrev flInvalid : Nat := 1
abbrev flOverflow : Nat := 2
abbrev flUnderflow : Nat := 4
abbrev flIntSat : Nat := 8
abbrev flMxNan : Nat := 16

/-- A finite value in a format: magnitude bits, or none when it exceeds the largest finite magnitude. -/
def Fmt.roundMag (f : Fmt) (rnd : Rnd) (mag : Nat) (exp : Int) : Option Nat :=
  if mag = 0 then some 0
  else
    let lead := (Nat.log2 mag : Int) + exp
    let q := max (lead - (f.m : Int)) f.qmin
    let n := roundTo rnd mag exp q
    -- n < 2^(m+1), or exactly 2^(m+1) after a carry
    let bits := if n < 2 ^ f.m then n else (q - f.qmin).toNat * 2 ^ f.m + n
    if bits ≤ f.maxBits then some bits else none

/-- Conversion to a format by R169: the pattern and the flags it sets. -/
def Fmt.convert (f : Fmt) (rnd : Rnd) (sat : Bool) (x : FVal) : Nat × Nat :=
  match x with
  | .nan => match f.top with
    | .finite => (0, flInvalid)
    | _ => (f.nan, 0)
  | .inf neg => match f.top with
    | .ieee => (f.infBits neg, 0)
    | .e4m3 => (f.nan, flInvalid)
    | .finite => (f.signBit neg + f.maxBits, flInvalid)
  | .fin neg mag exp =>
    match f.roundMag rnd mag exp with
    | some b => (f.signBit neg + b, if b = 0 ∧ mag ≠ 0 then flUnderflow else 0)
    | none =>
      if sat || decide (f.top = .finite) then (f.signBit neg + f.maxBits, flOverflow)
      else match f.top with
        | .ieee => (f.infBits neg, flOverflow)
        | _ => (f.nan, flOverflow)

/-- Conversion to a signed integer of w bits (R169): the two's complement pattern and the flags. -/
def toIntFmt (w : Nat) (rnd : Rnd) (x : FVal) : Nat × Nat :=
  let put := fun (v : Int) => (v % (2 ^ w : Int)).toNat
  let lim := fun (neg : Bool) => if neg then -(2 ^ (w - 1) : Int) else (2 ^ (w - 1) : Int) - 1
  match x with
  | .nan => (0, flInvalid)
  | .inf neg => (put (lim neg), flInvalid)
  | .fin neg mag exp =>
    let n := roundTo rnd mag exp 0
    let v : Int := if neg then -(n : Int) else n
    if v < lim true ∨ lim false < v then (put (lim neg), flIntSat)
    else (put v, 0)

/-- The value of a signed integer of w bits. -/
def intVal (w bits : Nat) : Int :=
  let b := bits % 2 ^ w
  if b < 2 ^ (w - 1) then b else (b : Int) - 2 ^ w

def ofInt (v : Int) : FVal := .fin (decide (v < 0)) v.natAbs 0

/-! ### Exact operations -/

def FVal.neg : FVal → FVal
  | .nan => .nan
  | .inf n => .inf (!n)
  | .fin n m e => .fin (!n) m e

def signed (neg : Bool) (m : Nat) : Int := if neg then -(m : Int) else m

/-- The exact sum. Opposite infinities give a NaN; an exact zero is +0 unless both are -0. -/
def FVal.add : FVal → FVal → FVal
  | .nan, _ => .nan
  | _, .nan => .nan
  | .inf a, .inf b => if a = b then .inf a else .nan
  | .inf a, _ => .inf a
  | _, .inf b => .inf b
  | .fin n1 m1 e1, .fin n2 m2 e2 =>
    let e := min e1 e2
    let v := signed n1 (m1 * 2 ^ (e1 - e).toNat) + signed n2 (m2 * 2 ^ (e2 - e).toNat)
    if v = 0 then .fin (n1 && n2) 0 e else .fin (decide (v < 0)) v.natAbs e

/-- The exact product. Zero times an infinity is a NaN. -/
def FVal.mul : FVal → FVal → FVal
  | .nan, _ => .nan
  | _, .nan => .nan
  | .inf a, .inf b => .inf (a != b)
  | .inf a, .fin n m _ => if m = 0 then .nan else .inf (a != n)
  | .fin n m _, .inf b => if m = 0 then .nan else .inf (n != b)
  | .fin n1 m1 e1, .fin n2 m2 e2 => .fin (n1 != n2) (m1 * m2) (e1 + e2)

/-- Multiply by 2^k exactly. -/
def FVal.scale (k : Int) : FVal → FVal
  | .fin n m e => .fin n m (e + k)
  | x => x

def FVal.isNan : FVal → Bool
  | .nan => true
  | _ => false

def FVal.isInf : FVal → Bool
  | .inf _ => true
  | _ => false

/-- a < b for values that are not NaN. -/
def FVal.lt (a b : FVal) : Bool :=
  match a, b with
  | .nan, _ => false
  | _, .nan => false
  | .inf x, .inf y => x && !y
  | .inf x, _ => x
  | _, .inf y => !y
  | .fin n1 m1 e1, .fin n2 m2 e2 =>
    let e := min e1 e2
    decide (signed n1 (m1 * 2 ^ (e1 - e).toNat) < signed n2 (m2 * 2 ^ (e2 - e).toNat))

/-- a = b as numbers (+0 = -0); a NaN equals nothing. -/
def FVal.eq (a b : FVal) : Bool :=
  !a.isNan && !b.isNan && !(a.lt b) && !(b.lt a)

/-! ### Binary32 -/

def rd32 (w : Word32) : FVal := fp32.read w.toNat
/-- Rounded to FP32 with nearest-even, overflowing to infinity; a NaN is the canonical one (R593). -/
def wr32 (x : FVal) : Word32 := BitVec.ofNat 32 (fp32.convert .rne false x).1

def fp32Add (a b : Word32) : Word32 := wr32 ((rd32 a).add (rd32 b))
def fp32Sub (a b : Word32) : Word32 := wr32 ((rd32 a).add (rd32 b).neg)
def fp32Mul (a b : Word32) : Word32 := wr32 ((rd32 a).mul (rd32 b))
/-- a x b + c, rounded once. -/
def fp32Fma (a b c : Word32) : Word32 := wr32 (((rd32 a).mul (rd32 b)).add (rd32 c))

/-- The larger; a NaN input gives the canonical NaN (R159). Which of +0 and -0 is the larger is not in the manual. -/
def fp32Max (a b : Word32) : Word32 :=
  if (rd32 a).isNan || (rd32 b).isNan then 0x7FC00000 else if (rd32 a).lt (rd32 b) then b
  else if (rd32 b).lt (rd32 a) then a else if Config.firstZero a b then a else b

def fp32Min (a b : Word32) : Word32 :=
  if (rd32 a).isNan || (rd32 b).isNan then 0x7FC00000 else if (rd32 b).lt (rd32 a) then b
  else if (rd32 a).lt (rd32 b) then a else if Config.firstZero a b then a else b

/-- The quotient a / b, rounded once: the quotient is taken to 64 bits beyond need with a sticky bit. -/
def fp32Div (a b : Word32) : Word32 :=
  match rd32 a, rd32 b with
  | .nan, _ => 0x7FC00000
  | _, .nan => 0x7FC00000
  | .inf _, .inf _ => 0x7FC00000
  | .inf x, .fin y _ _ => wr32 (.inf (x != y))
  | .fin x _ _, .inf y => wr32 (.fin (x != y) 0 0)
  | .fin x m1 e1, .fin y m2 e2 =>
    if m2 = 0 then (if m1 = 0 then 0x7FC00000 else wr32 (.inf (x != y)))
    else
      let n := m1 * 2 ^ 64
      wr32 (.fin (x != y) (2 * (n / m2) + b2n (decide (n % m2 ≠ 0))) (e1 - e2 - 65))

/-- 2^a (VEXP2, R159): exact for integers from -149 to 127. -/
def fp32Exp2 (a : Word32) : Word32 :=
  match rd32 a with
  | .nan => 0x7FC00000
  | .inf n => if n then 0 else 0x7F800000
  | .fin n m e =>
    let k := roundTo .rz m e 0
    let v := signed n k
    let whole := decide (0 ≤ e) || decide (m % 2 ^ (-e).toNat = 0)
    if whole ∧ -149 ≤ v ∧ v ≤ 127 then wr32 (.fin false 1 v) else Config.exp2 a

/-- log2 a (VLOG2, R159): -Inf for a zero, NaN below zero. -/
def fp32Log2 (a : Word32) : Word32 :=
  match rd32 a with
  | .nan => 0x7FC00000
  | .inf n => if n then 0x7FC00000 else 0x7F800000
  | .fin n m _ => if m = 0 then 0xFF800000 else if n then 0x7FC00000 else Config.log2 a

/-- 1/a (VRCP, R159). -/
def fp32Rcp (a : Word32) : Word32 := if (rd32 a).isNan then 0x7FC00000 else Config.rcp a

/-- 1/sqrt a (VRSQRT, R159). -/
def fp32Rsqrt (a : Word32) : Word32 := if (rd32 a).isNan then 0x7FC00000 else Config.rsqrt a

/-- Adjacent pairs of a level are added in index order (R156); an odd last one goes on alone. -/
def pairUp (f : Word32 → Word32 → Word32) : List Word32 → List Word32
  | a :: b :: t => f a b :: pairUp f t
  | l => l

/-- The fixed tree of n levels (R156, R160). -/
def treeN (f : Word32 → Word32 → Word32) : Nat → List Word32 → List Word32
  | 0, l => l
  | n + 1, l => treeN f n (pairUp f l)

/-- The sum along the fixed tree of n levels. -/
def treeSum (n : Nat) (l : List Word32) : Word32 := (treeN fp32Add n l).headD 0

/-! ### Packed data (R168) -/

/-- Element n of width w of a little-endian bit stream. -/
def packedElem (bits : Nat) (w n : Nat) : Nat := bits / 2 ^ (w * n) % 2 ^ w

def packBits (w : Nat) : List Nat → Nat
  | [] => 0
  | x :: t => x % 2 ^ w + 2 ^ w * packBits w t

/-- Elements of width w as a byte string, in a little-endian bit stream. -/
def packElems (w : Nat) (xs : List Nat) : List Byte := natLe ((w * xs.length + 7) / 8) (packBits w xs)

/-- The first n elements of width w of a byte string. -/
def unpackElems (w n : Nat) (bs : List Byte) : List Nat :=
  let b := leNat bs
  (List.range n).map (packedElem b w)

/-! ### Philox-4x32-10 (R172) -/

def philoxRound (c : Nat × Nat × Nat × Nat) (k : Nat × Nat) : Nat × Nat × Nat × Nat :=
  let p0 := c.1 * 0xD2511F53
  let p1 := c.2.2.1 * 0xCD9E8D57
  ((p1 / 2 ^ 32) ^^^ c.2.1 ^^^ k.1, p1 % 2 ^ 32, (p0 / 2 ^ 32) ^^^ c.2.2.2 ^^^ k.2, p0 % 2 ^ 32)

def philoxN : Nat → Nat × Nat × Nat × Nat → Nat × Nat → Nat × Nat × Nat × Nat
  | 0, c, _ => c
  | n + 1, c, k => philoxN n (philoxRound c k) ((k.1 + 0x9E3779B9) % 2 ^ 32, (k.2 + 0xBB67AE85) % 2 ^ 32)

/-- The draw of lane e (R172). -/
def philoxDraw (seed stream : Word64) (count lane : Nat) : Nat :=
  let c := philoxN 10 (lane / 4, count % 2 ^ 32, stream.toNat % 2 ^ 32, stream.toNat / 2 ^ 32)
    (seed.toNat % 2 ^ 32, seed.toNat / 2 ^ 32)
  if lane % 4 = 0 then c.1 else if lane % 4 = 1 then c.2.1 else if lane % 4 = 2 then c.2.2.1 else c.2.2.2

end Sys2Proof.Machine
end

