-- ==== Sys2Proof/Machine/PoolMem.lean ====
section
/-! DEFINITION. The pool as every user of REGION 0x0 reaches it (R292-R300, R309, R317, R318): channels, partitions, pages, the
checks of a request, its bytes with their poison marks, and access counts. -/

namespace Sys2Proof.Machine

/-! ### Channels (R292-R296) -/

/-- Frames of a channel (R292). -/
def State.chanFrames (s : State) (c : Nat) : Nat := if c < 256 then 30517 else Store.read 0 s.chip.farFrames c

/-- Frames of a channel that partitions may hold: the top 512 of channel 0 hold queue contexts (R293). -/
def State.chanUsable (s : State) (c : Nat) : Nat := if c = 0 then 30005 else s.chanFrames c

/-- The channel is absent in the variant (R292, R4). -/
def State.chanAbsent (s : State) (c : Nat) : Bool := !(decide (c < 272)) || !(s.present (channelLoc c))

/-- A channel: channel 0 belongs to the management domain always, and a far channel without frames is EMPTY always (R293, R294). -/
def State.chan (s : State) (c : Nat) : Channel :=
  let x := Store.read ({} : Channel) s.pool.channels c
  { x with
    owner := if c = 0 then 0xFF else x.owner
    state := if decide (256 ≤ c) && decide (s.chanFrames c = 0) then .empty else x.state }

def State.setChan (s : State) (c : Nat) (x : Channel) : State :=
  { s with pool := { s.pool with channels := Store.write ({} : Channel) s.pool.channels c x } }

/-- pool_capacity_bytes (R296): frames of the channels that are not EMPTY at cold reset. -/
def State.poolCapacity (s : State) : Nat :=
  65536 * (((List.range 272).filter (fun c => !(s.chanAbsent c))).map s.chanFrames).sum

/-! ### Partitions and pages (R297, R304) -/

def State.part (s : State) (n : Nat) : Partition := Store.read ({} : Partition) s.pool.parts n
def State.setPart (s : State) (n : Nat) (p : Partition) : State :=
  { s with pool := { s.pool with parts := Store.write ({} : Partition) s.pool.parts n p } }

/-- MAP_PAGES (R297). -/
def Partition.mapPages (p : Partition) : Nat := ceilDiv p.size 8192
/-- End of the range. -/
def Partition.end_ (p : Partition) : Nat := p.base + p.size * 65536
/-- The partition has a far tier. -/
def Partition.twoTier (p : Partition) : Bool := decide (p.farCount ≠ 0)

/-- The partition whose range holds an offset, if one that is not FREE does. -/
def State.partAt (s : State) (off : Nat) : Option (Nat × Partition) :=
  s.pool.parts.find? (fun e => decide (e.2.state ≠ .free) && decide (e.2.base ≤ off) && decide (off < e.2.end_))

def pageKey (n p : Nat) : Nat := n * 2 ^ 28 + p
def State.page (s : State) (n p : Nat) : Option PageRec := Store.read none s.pool.pages (pageKey n p)
def State.setPage (s : State) (n p : Nat) (r : Option PageRec) : State :=
  { s with pool := { s.pool with pages := Store.write none s.pool.pages (pageKey n p) r } }

/-- The pages of a partition in ascending number, with their entries. -/
def State.partPages (s : State) (n : Nat) : List (Nat × PageRec) :=
  s.pool.pages.filterMap (fun e => if e.1 / 2 ^ 28 = n then e.2.map (fun r => (e.1 % 2 ^ 28, r)) else none)

/-- failed_pages, the pages on failed channels: DEGRADED while there is one (R318, R319, R322). -/
def State.failedPages (s : State) (n : Nat) : Nat :=
  ((s.partPages n).filter (fun e => decide ((s.chan e.2.channel).state = .failed))).length
def State.pinnedPages (s : State) (n : Nat) : Nat := ((s.partPages n).filter (fun e => e.2.pinned)).length
def State.nearResident (s : State) (n : Nat) : Nat := ((s.partPages n).filter (fun e => e.2.near)).length

/-- A move of the page is in progress (MIGRATING, R305). -/
def State.moveOf (s : State) (n p : Nat) : Option PageMove :=
  s.pool.moves.find? (fun m => decide (m.part = n) && decide (m.page = p))

/-- Near map frames on channel c (R299). -/
def Partition.mapOn (p : Partition) (c : Nat) : Nat :=
  if p.nearFirst ≤ c ∧ c < p.nearFirst + p.nearCount then
    (p.mapPages + p.nearCount - 1 - (c - p.nearFirst)) / p.nearCount
  else 0

/-! ### Checks of a request (R300, R326, R355, R394, R404, R448, R564) -/

/-- Who uses the pool: a request of the fabric that reads or writes, or a service inside the block. -/
inductive PoolUse where
  | get | put
  /-- the KV service in its store -/
  | kv
  /-- the directory at a window's backing range -/
  | dir
  /-- a stream in its store -/
  | cz
  /-- an index in its structures -/
  | meadow
  /-- a commit slot in its stage area -/
  | stage
  /-- MK_DECRYPT with a key of this MODEL_ID -/
  | decrypt (model : Word64)
  /-- the static lane of a plan slot, reading or writing -/
  | static (slot : Nat) (write : Bool)
  deriving DecidableEq, Repr, Inhabited

def PoolUse.writes : PoolUse → Bool
  | .put | .decrypt _ => true
  | .static _ w => w
  | _ => false

def overlaps (a alen b blen : Nat) : Bool := decide (a < b + blen) && decide (b < a + alen)

/-- Bytes of an element of a vector format of an index (R401). -/
def vecBytes (fmt : Nat) : Nat := if fmt = 1 then 4 else if fmt = 2 ∨ fmt = 3 then 2 else 1

/-- Sizes of R401: SB, GS, VS, TB, SR. -/
def VIndex.sb (x : VIndex) : Nat := 32 * x.sketchWords
def VIndex.gs (x : VIndex) : Nat := 64 * ceilDiv x.degree 16
def VIndex.vs (x : VIndex) : Nat := 64 * ceilDiv (x.dim * vecBytes x.vecFmt) 64
def Shard.tb (h : Shard) : Nat := 64 * ceilDiv h.capacity 512
def VIndex.sr (x : VIndex) : Nat := 64 + 64 * ceilDiv x.sb 64 + x.gs + x.vs

/-- Structures of an index: partition, offset in it, bytes (R401). -/
def VIndex.ranges (x : VIndex) : List (Nat × Nat × Nat) :=
  x.shards.flatMap (fun h => [
    (h.partition, h.sketchOff, h.capacity * x.sb),
    (h.partition, h.graphOff, h.capacity * x.gs),
    (h.partition, h.vectorOff, h.capacity * x.vs),
    (h.partition, h.auxOff, h.tb + x.sideCapacity * x.sr)])

/-- The store of a stream: partition, offset in it, bytes (R380). -/
def Stream.range (x : Stream) : Nat × Nat × Nat := (x.partition, x.firstPage * 65536, x.pages * 65536)

/-- The backing range of a window (R353). -/
def Window.range (w : Window) : Nat × Nat × Nat := (w.partition, w.backPages * 65536, w.pages * 65536)

/-- Some range of partition n meets the bytes at `off` of it. -/
def hits (rs : List (Nat × Nat × Nat)) (n off len : Nat) : Bool :=
  rs.any (fun r => decide (r.1 = n) && overlaps r.2.1 r.2.2 off len)

/-- Ranges of the enabled windows, streams and indexes, and the partitions of the enabled stores. -/
def State.windowRanges (s : State) : List (Nat × Nat × Nat) :=
  (s.coh.windows.filter (fun e => e.2.enable || e.2.disabling)).map (fun e => e.2.range)
def State.streamRanges (s : State) : List (Nat × Nat × Nat) :=
  (s.cz.streams.filter (fun e => e.2.enable || e.2.enabling)).map (fun e => e.2.range)
def State.indexRanges (s : State) : List (Nat × Nat × Nat) :=
  (s.meadow.indexes.filter (fun e => decide (e.2.state ≠ .disabled))).flatMap (fun e => e.2.ranges)
def State.kvPartition (s : State) (n : Nat) : Bool :=
  s.kv.stores.any (fun e => e.2.enable && decide (e.2.partition = n))
/-- Stage areas of OPEN and APPLYING commit slots, by REGION 0x0 offset (R564). -/
def State.stageHits (s : State) (off len : Nat) : Bool :=
  s.faults.slots.any (fun e => (decide (e.2.state = .opened) || decide (e.2.state = .applying)) &&
    overlaps (addrOffset e.2.stageAddr) (e.2.attempts * e.2.stageBytes) off len)

/-- The seal of a partition lets this use through (R448). -/
def State.sealOpen (s : State) (p : Partition) (use : PoolUse) : Bool :=
  match p.sealed with
  | none => true
  | some (model, digest) => match use with
    | .decrypt m => decide (m = model)
    | .static slot false => match digest with
      | some d => decide (Store.read [] s.sec.planDigests slot = d)
      | none => false
    | _ => false

/-- A use that a service of the partition excludes (R326, R355, R394, R404, R448, R564). -/
def State.poolBarred (s : State) (n : Nat) (p : Partition) (off len : Nat) (use : PoolUse) : Bool :=
  (decide (use ≠ .kv) && s.kvPartition n) ||
  (decide (use ≠ .dir) && hits s.windowRanges n (off - p.base) len) ||
  (use.writes && (hits s.streamRanges n (off - p.base) len || hits s.indexRanges n (off - p.base) len || s.stageHits off len)) ||
  !s.sealOpen p use

/-- A source endpoint other than HOST_NODE (R300). -/
def hostBars (host : Nat) : Option Nat → Bool
  | some e => decide (host ≠ 0xFFFF) && decide (e ≠ host)
  | none => false

/-- The checks of R300 on a range of REGION 0x0, then what a service excludes: none passes. -/
def State.poolCheck (s : State) (off len tenant : Nat) (endpoint : Option Nat) (use : PoolUse) : Option Status :=
  match s.partAt off with
  | none => some .range
  | some (n, p) =>
    if p.end_ < off + len then some .range
    else if p.state = .clearing then some .access
    else if p.tenant ≠ tenant then some .access
    else if hostBars p.hostNode endpoint then some .access
    else if s.poolBarred n p off len use then some .access
    else none

/-- The endpoint whose NODE a request carries, when its source is one (R300). -/
def issuerEndpoint (i : Issuer) : Option Nat :=
  match i.src with
  | .endpoint n => some n
  | _ => none

/-! ### Access counts and meters (R309, R500) -/

def State.epochNow (s : State) : Nat := s.now / usUnits (s.num O.counterEpochUs 1000) % 65536

/-- The decayed count (R309). -/
def decayed (count stamp epoch : Nat) : Nat := count / 2 ^ min 8 ((epoch + 65536 - stamp) % 65536)

/-- Requests touch a page: its count, and its promotion when the count reaches the threshold (R309). -/
def State.touchPage (s : State) (n p : Nat) : State :=
  match s.page n p with
  | none => s
  | some r =>
    let e := s.epochNow
    let c := min 255 (decayed r.count r.stamp e + 1)
    let pt := s.part n
    let moving := s.pool.moves.any (fun m => decide (m.part = n) && decide (m.page = p) && m.toNear) ||
      s.pool.queued.any (fun m => decide (m.part = n) && decide (m.page = p) && m.toNear)
    let go := !r.near && !r.queued && !r.failed && !moving && pt.twoTier && pt.counterMigration && pt.staticBy.isNone &&
      decide (s.num O.promoteThreshold 16 ≤ c)
    let s1 := s.setPage n p (some { r with count := c, stamp := e, queued := r.queued || go })
    if go then { s1 with pool := { s1.pool with queued := s1.pool.queued ++ [
      { part := n, page := p, toNear := true, cause := .counter }] } } else s1

/-- Meter subindex of bytes served (R500). -/
def tierMeter (near write : Bool) : Nat :=
  match near, write with
  | true, false => 3 | true, true => 4 | false, false => 5 | false, true => 6

/-- A request's pages are touched and its bytes metered by tier. -/
def State.touchRange (s : State) (n : Nat) (p : Partition) (off len tenant : Nat) (write : Bool) : State :=
  if len = 0 then s
  else
    let first := (off - p.base) / 65536
    let last := (off - p.base + len - 1) / 65536
    (List.range (last + 1 - first)).foldl (fun (t : State) k =>
      let pg := first + k
      let lo := max off (p.base + pg * 65536)
      let hi := min (off + len) (p.base + (pg + 1) * 65536)
      let near := match s.page n pg with | some r => r.near | none => true
      (t.touchPage n pg).meter tenant (tierMeter near write) (hi - lo)) s

/-! ### Bytes and poison (R317, R318) -/

/-- The 64-byte block is poisoned: marked, or on a FAILED page. -/
def State.blockPoisoned (s : State) (b : Nat) : Bool :=
  Store.read false s.pool.poison b ||
  match s.partAt (b * 64) with
  | some (n, p) => match s.page n ((b * 64 - p.base) / 65536) with
    | some r => r.failed
    | none => false
  | none => false

/-- The block lies on a FAILED page. -/
def State.blockFailed (s : State) (b : Nat) : Bool :=
  match s.partAt (b * 64) with
  | some (n, p) => match s.page n ((b * 64 - p.base) / 65536) with
    | some r => r.failed
    | none => false
  | none => false

def State.setPoison (s : State) (b : Nat) (v : Bool) : State :=
  { s with pool := { s.pool with poison := Store.write false s.pool.poison b v } }

/-- Blocks a range touches. -/
def blocksOf (off len : Nat) : List Nat :=
  if len = 0 then [] else (List.range ((off + len - 1) / 64 + 1 - off / 64)).map (fun k => off / 64 + k)

/-- The first poisoned block of a range. -/
def State.firstPoison (s : State) (off len : Nat) : Option Nat := (blocksOf off len).find? s.blockPoisoned

/-- A read of the range: the bytes before its first poisoned block, and whether it met none (R317). -/
def State.poolRead (s : State) (off len : Nat) : List Byte × Bool :=
  match s.firstPoison off len with
  | none => (s.memBytes off len, true)
  | some b => (s.memBytes off (b * 64 - off), false)

/-- Block by block (R317, R318): a whole block clears its mark; a partial write leaves a poisoned block unchanged; a block on a
FAILED page is not written. The Bool is false when some block was poisoned or failed and stays so. -/
def State.writeBlocks (s : State) (ok : Bool) (off : Nat) (bs : List Byte) : Nat → Bool × State
  | 0 => (ok, s)
  | k + 1 =>
    match bs with
    | [] => (ok, s)
    | _ =>
      let b := off / 64
      let n := min bs.length (64 - off % 64)
      let whole := decide (n = 64)
      let bad := s.blockFailed b || (s.blockPoisoned b && !whole)
      let s1 := if bad then s else
        let s2 := s.memWrite off (bs.take n)
        if whole then s2.setPoison b false else s2
      State.writeBlocks s1 (ok && !bad) (off + n) (bs.drop n) k

/-- A put to the pool. -/
def State.poolWrite (s : State) (off : Nat) (bs : List Byte) : Bool × State :=
  match s.firstPoison off bs.length with
  | none => (true, s.memWrite off bs)
  | some _ => s.writeBlocks true off bs (bs.length / 64 + 2)

/-- The page of a REGION 0x0 offset: partition, page and entry. -/
def State.pageAt (s : State) (off : Nat) : Option (Nat × Nat × PageRec) :=
  match s.partAt off with
  | none => none
  | some (n, p) =>
    let pg := (off - p.base) / 65536
    (s.page n pg).map (fun r => (n, pg, r))

/-- The channel that holds the page of an offset (R304). -/
def State.channelAt (s : State) (off : Nat) : Nat :=
  match s.pageAt off with
  | some (_, _, r) => r.channel
  | none => 0

/-! ### Operators of an atomic (R58) -/

def AtomicOp.ofCode (c : Nat) : Option AtomicOp :=
  match c with
  | 0 => some .add | 1 => some .band | 2 => some .bor | 3 => some .bxor | 4 => some .smin | 5 => some .smax
  | 6 => some .umin | 7 => some .umax | 8 => some .swap | 9 => some .cas | 10 => some .fadd | _ => none

def applyW (w : Nat) (op : AtomicOp) (old a b : BitVec w) : BitVec w :=
  match op with
  | .add => old + a
  | .band => old &&& a
  | .bor => old ||| a
  | .bxor => old ^^^ a
  | .smin => if a.slt old then a else old
  | .smax => if old.slt a then a else old
  | .umin => if a.toNat < old.toNat then a else old
  | .umax => if old.toNat < a.toNat then a else old
  | .swap => a
  | .cas => if old = a then b else old
  | .fadd => (fp32Add (old.setWidth 32) (a.setWidth 32)).setWidth w

/-- The new value of an atomic's 4 or 8 bytes (R58). -/
def atomicValue (op : AtomicOp) (size : Nat) (old a b : Word64) : Word64 :=
  if size = 4 then (applyW 32 op (old.setWidth 32) (a.setWidth 32) (b.setWidth 32)).setWidth 64
  else applyW 64 op old a b

end Sys2Proof.Machine
end

