-- ==== Sys2Proof/Machine/Shapers.lean ====
section
/-! DEFINITION. Shapers, the Wheel and Weirs (R267-R272) as the rest of the block charges them. -/

namespace Sys2Proof.Machine

/-- Growth of a bucket in one fabric tick, in 1/65,536 byte: RATE x 8 ns (R267), rounded down. -/
def perTick (rate : Nat) : Nat := rate * 524288 / 1000

/-- A bucket at a tick boundary: TOKENS grows, up to BURST x 64 bytes (R267). -/
def TokenBucket.refill (b : TokenBucket) : TokenBucket :=
  { b with tokens := max b.tokens (min (b.tokens + perTick b.rate) (b.burst * 64 * 65536 : Nat)) }

def State.shaper (s : State) (n : Nat) : TokenBucket := Store.read ({} : TokenBucket) s.traffic.shapers n
def State.setShaper (s : State) (n : Nat) (b : TokenBucket) : State :=
  { s with traffic := { s.traffic with shapers := Store.write ({} : TokenBucket) s.traffic.shapers n b } }

/-- A shaper is eligible (R267, R268): disabled, or its TOKENS are not below zero and the Wheel does not hold it. -/
def State.eligible (s : State) (n : Nat) : Bool := !(s.shaper n).enable || (!(s.shaper n).onWheel && decide (0 ≤ (s.shaper n).tokens))

/-- Ticks until TOKENS is at least zero again (R268). -/
def ticksToZero (b : TokenBucket) : Nat :=
  if perTick b.rate = 0 then 1 else ceilDiv (-b.tokens).toNat (perTick b.rate)

/-- A shaper with TOKENS below zero goes on the Wheel at NEXT, with LAPS (R268). -/
def State.placeOnWheel (s : State) (n : Nat) : State :=
  let b := s.shaper n
  let d := ticksToZero b
  { (s.setShaper n { b with onWheel := true }) with traffic :=
    { (s.setShaper n { b with onWheel := true }).traffic with
      wheel := s.traffic.wheel ++ [{ shaper := n, slot := (s.traffic.wheelAt + d) % 4096, laps := d / 4096 }] } }

/-- A charge (R267, R268): nothing to a disabled shaper; one that goes below zero is placed on the Wheel. -/
def State.charge (s : State) (n cost : Nat) : State :=
  let b := s.shaper n
  if !b.enable then s
  else
    let s1 := s.setShaper n { b with tokens := b.tokens - (cost * 65536 : Nat) }
    if decide ((s1.shaper n).tokens < 0) && !b.onWheel then s1.placeOnWheel n else s1

def State.weir (s : State) (n : Nat) : TokenBucket := Store.read ({} : TokenBucket) s.traffic.weirs n
def State.setWeir (s : State) (n : Nat) (b : TokenBucket) : State :=
  { s with traffic := { s.traffic with weirs := Store.write ({} : TokenBucket) s.traffic.weirs n b } }

/-- A Weir decides a request (R270, R271): false when it refuses, and the refusal is counted against the Weir and in weir_drops. -/
def State.weirPass (s : State) (n cost : Nat) : Bool × State :=
  let w := s.weir n
  if !w.enable then (true, s)
  else if w.tokens < (cost * 65536 : Nat) then
    (false, (s.setWeir n { w with refusals := w.refusals + 1 }).bump O.weirDrops)
  else (true, s.setWeir n { w with tokens := w.tokens - (cost * 65536 : Nat) })

/-! ### Deficit round robin (R265, R282) -/

/-- The next member after `p` in a rising list, wrapping. -/
def nextAfter (l : List Nat) (p : Nat) : Nat :=
  match l.find? (fun x => decide (p < x)) with
  | some x => x
  | none => l.headD p

/-- The round: what is at the pointer, whether its quantum has been added on this visit, the deficits. Each ready member gets its
quantum when reached and is served while its deficit covers its next cost. Answers the member served with the new deficits, pointer
and mark. -/
def drrPick (ready : List Nat) (cost quantum : Nat → Nat) :
    Nat → Store Nat → Nat → Bool → Option (Nat × Store Nat × Nat × Bool)
  | 0, _, _, _ => none
  | fuel + 1, d, p, added =>
    if ready.contains p then
      let d1 := if added then d else Store.write 0 d p (Store.read 0 d p + quantum p)
      if cost p ≤ Store.read 0 d1 p then some (p, Store.write 0 d1 p (Store.read 0 d1 p - cost p), p, true)
      else drrPick ready cost quantum fuel d1 (nextAfter ready p) false
    else match ready with
      | [] => none
      | _ => drrPick ready cost quantum fuel d (nextAfter ready p) false

/-- One tick boundary of the Wheel's slot (R268): entries with LAPS 0 leave it, at most 128; the others lose a lap or, beyond 128,
move to the next slot. Answers what stays, the shapers released and the number moved on. -/
def wheelSlot (slot : Nat) : List WheelEntry → Nat → List WheelEntry × List Nat × Nat
  | [], _ => ([], [], 0)
  | e :: t, room =>
    if e.slot ≠ slot then
      let r := wheelSlot slot t room
      (e :: r.1, r.2.1, r.2.2)
    else if e.laps ≠ 0 then
      let r := wheelSlot slot t room
      ({ e with laps := e.laps - 1 } :: r.1, r.2.1, r.2.2)
    else match room with
      | 0 =>
        let r := wheelSlot slot t 0
        ({ e with slot := (slot + 1) % 4096 } :: r.1, r.2.1, r.2.2 + 1)
      | k + 1 =>
        let r := wheelSlot slot t k
        (r.1, e.shaper :: r.2.1, r.2.2)

/-- A tick boundary (R267, R268, R270): every shaper and Weir refills, then the Wheel's current slot is read. A released shaper
whose TOKENS are still below zero is placed again. -/
def State.wheelStep (s : State) : State :=
  let at_ := s.traffic.wheelAt + 1
  let r := wheelSlot (at_ % 4096) s.traffic.wheel 128
  let s1 := { s with traffic := { s.traffic with
    wheelAt := at_
    shapers := Store.revalue {} TokenBucket.refill s.traffic.shapers
    weirs := Store.revalue {} TokenBucket.refill s.traffic.weirs
    wheel := r.1 } }
  let s2 := r.2.1.foldl (fun (t : State) n =>
    let t1 := t.setShaper n { t.shaper n with onWheel := false }
    if (t1.shaper n).tokens < 0 then t1.placeOnWheel n else t1) s1
  s2.bumpN O.wheelCarries r.2.2

end Sys2Proof.Machine
end

