-- ==== Sys2Proof/Machine/PoolIo.lean ====
section
/-! DEFINITION. A request to REGION 0x0 from its arrival at the hub to its response (R281-R284, R299, R300, R305, R316, R317, R320,
R571): the checks, the contract's Weir and FIFO, the dispatcher, the effect at the channel's request queue, the completion. -/

namespace Sys2Proof.Machine

/-! ### Access to REGION 0x2 (R44, R54, R149, R430, R433, R536) -/

/-- The plan slot that claims a cluster, when it is static (R50). -/
def State.staticSlotOf (s : State) (c : Nat) : Option Nat := Store.read none s.florets.staticBy c
def State.clusterOwner (s : State) (c : Nat) : Nat := Store.read 0xFF s.sec.clusterOwner c

/-- The work is a Floret's of the cluster itself. -/
def ownCluster (i : Issuer) (c : Nat) : Bool :=
  match i.src with
  | .floret f => decide (f / 16 = c)
  | _ => false

/-- What refuses an access in one cluster: 2 MiB block `k` of the region, its first 256 blocks the pads of the clusters in order and the
next 256 their SRAM; `lo` to `hi` are offsets in the block. -/
def State.sramBlockBad (s : State) (i : Issuer) (tc k lo hi : Nat) : Option Response :=
  let c := k % 256
  let pads := decide (k < 256)
  if 512 ≤ k ∨ !(s.present (clusterLoc c)) then some (refusal .range)
  else if s.clusterOwner c ≠ i.tenant then some (refusal .access)
  else if (s.staticSlotOf c).isSome && decide (tc ≠ 0) && !(ownCluster i c) then some (refusal .access)
  else if (s.staticSlotOf c).isNone && !pads && decide (0x1A0000 < hi) then some (refusal .access)
  else if s.closed (clusterLoc c) || (pads && (List.range ((hi - 1) / 0x20000 + 1 - lo / 0x20000)).any (fun j =>
      s.closed (floretLoc (16 * c + lo / 0x20000 + j)))) then some (refusal .busy .unitState)
  else none

/-- What refuses an access of `n` bytes of REGION 0x2 at an offset. -/
def State.sramBad (s : State) (i : Issuer) (tc off n : Nat) : Option Response :=
  if n = 0 then none
  else if 2 ^ 30 < off + n then some (refusal .range)
  else
    let first := off / 0x200000
    ((List.range ((off + n - 1) / 0x200000 + 1 - first)).map (fun j => first + j)).findSome? (fun k =>
      s.sramBlockBad i tc k (off - k * 0x200000) (min (off + n - k * 0x200000) 0x200000))

/-! ### Checkpoints' hold on writes (R571) -/

def State.ckpt (s : State) (c : Nat) : Ckpt := Store.read ({} : Ckpt) s.faults.ckpts c
def State.setCkpt (s : State) (c : Nat) (k : Ckpt) : State :=
  { s with faults := { s.faults with ckpts := Store.write ({} : Ckpt) s.faults.ckpts c k } }

/-- The page's contents as of the start tick are still only in the page (R569, R571). -/
def Ckpt.wants (k : Ckpt) (n p : Nat) : Bool :=
  decide (k.state = .streaming) && decide (k.partition = n) && !(Store.read false k.captured p) &&
    (Store.read none k.copies p).isNone

/-- The first checkpoint and page that hold a write to these pages. -/
def State.ckptHolds (s : State) (n first count : Nat) : Option (Nat × Nat) :=
  s.faults.ckpts.findSome? (fun e =>
    ((List.range count).map (fun j => first + j)).findSome? (fun p => if e.2.wants n p then some (e.1, p) else none))

/-- The bytes of a page that differ from zero, and its poisoned blocks (R570, R571). -/
def State.pageImage (s : State) (n p : Nat) : Nat × Store Byte :=
  let b := (s.part n).base + p * 65536
  (((List.range 1024).filter (fun j => s.blockPoisoned (b / 64 + j))).length,
    (s.mem.filter (fun e => decide (b ≤ e.1) && decide (e.1 < b + 65536) && !(s.blockPoisoned (e.1 / 64)))).map
      (fun e => (e.1 - b, e.2)))

/-- A CoW frame is free: copies kept and under way take one each. -/
def Ckpt.cowFree (k : Ckpt) : Bool := decide (k.copies.length + k.copying.length < (k.cowFrames.map (·.2)).sum)

/-- The copy of a page is kept for the streamer (R571). -/
def State.ckptCopy (s : State) (c n p : Nat) : State :=
  let k := s.ckpt c
  s.setCkpt c { k with copies := Store.write none k.copies p (some (s.pageImage n p)), cowCopies := k.cowCopies + 1 }

/-- Before one of the block's own services writes an uncaptured page, its contents are kept for the streamer (R571). -/
def State.ckptKeep (s : State) (n first count : Nat) : State :=
  (List.range count).foldl (fun (t : State) j =>
    match t.ckptHolds n (first + j) 1 with
    | some (c, p) => t.ckptCopy c n p
    | none => t) s

/-! ### Services' own accesses (R300, R309, R500, R571) -/

/-- A read of REGION 0x0 that the block makes for a tenant: the bytes, or the STATUS that ends it. -/
def State.serviceRead (s : State) (off len tenant : Nat) (use : PoolUse) : Except Status (List Byte) :=
  match s.poolCheck off len tenant none use with
  | some st => .error st
  | none =>
    let r := s.poolRead off len
    if r.2 then .ok r.1 else .error .tier

/-- The pages that such a read has touched, and its bytes metered (R309, R500). -/
def State.used (s : State) (off len tenant : Nat) : State :=
  match s.partAt off with
  | some (n, p) => if p.tenant = tenant ∧ off + len ≤ p.end_ then s.touchRange n p off len tenant false else s
  | none => s

/-- Bytes at a fabric address, read for an issuer: here, or as they came from another node. -/
def State.fetchBytes (s : State) (i : Issuer) (tc : Nat) (a : Word64) (n : Nat) (remote : List Byte) : Except Status (List Byte) :=
  if !s.isHere (addrNode a) then .ok (sliceB remote 0 n)
  else if addrRegion a = 0 then s.serviceRead (addrOffset a) n i.tenant .get
  else if addrRegion a = 2 then
    match s.sramBad i tc (addrOffset a) n with
    | some r => .error r.status
    | none => .ok (s.sramBytes (addrOffset a) n)
  else .ok (sliceB remote 0 n)

/-- The pool's pages that such a read has touched (R309). -/
def State.fetchUsed (s : State) (i : Issuer) (a : Word64) (n : Nat) : State :=
  if s.isHere (addrNode a) ∧ addrRegion a = 0 then s.used (addrOffset a) n i.tenant else s

/-- A write of REGION 0x0 that the block makes for a tenant: what a checkpoint wants of the pages is kept first. -/
def State.serviceWrite (s : State) (off : Nat) (bs : List Byte) (tenant : Nat) (use : PoolUse) : Status × State :=
  match s.poolCheck off bs.length tenant none use with
  | some st => (st, s)
  | none => match s.partAt off with
    | none => (.range, s)
    | some (n, p) =>
      if bs = [] then (.ok, s)
      else
        let first := (off - p.base) / 65536
        let r := (s.ckptKeep n first ((off - p.base + bs.length - 1) / 65536 + 1 - first)).poolWrite off bs
        (if r.1 then .ok else .tier, r.2.touchRange n p off bs.length tenant true)

/-! ### Bytes at LOCAL (R68, R595) -/

/-- Data of a GET or a FETCH_OP's old value goes to LOCAL when LOCAL is on this node; on another node it goes with the response. -/
def State.writeLocal (s : State) (i : Issuer) (tc : Nat) (addr : Word64) (bs : List Byte) : Status × State :=
  if addr = 0 ∨ bs = [] then (.ok, s)
  else if !s.isHere (addrNode addr) then (.ok, s)
  else if addrRegion addr = 0 then s.serviceWrite (addrOffset addr) bs i.tenant .put
  else if addrRegion addr = 2 then
    match s.sramBad i tc (addrOffset addr) bs.length with
    | some r => (r.status, s)
    | none => (.ok, s.sramWrite (addrOffset addr) bs)
  else (.ok, s.emit (.operation { op := 1, req := { issuer := i, tc := tc, target := addr }, length := bs.length, data := bs }))

/-! ### Contracts (R280-R285) -/

abbrev defaultQueue : Nat := 16384

def State.contract (s : State) (k : Nat) : Contract := Store.read ({} : Contract) s.traffic.contracts k
def State.setContract (s : State) (k : Nat) (c : Contract) : State :=
  { s with traffic := { s.traffic with contracts := Store.write ({} : Contract) s.traffic.contracts k c } }

/-- The source NODE of a request: an endpoint's own, another DZM's, or this package for a local issuer (R281). -/
def State.sourceNode (s : State) (i : Issuer) : Nat :=
  match i.src with
  | .endpoint n => n
  | _ => if i.node = 0xFFFF then s.nodeId else i.node

/-- The FIFO of a source NODE: its valid contract, or the default queue (R281). -/
def State.contractOf (s : State) (node : Nat) : Nat :=
  match s.traffic.contracts.find? (fun e => decide (e.1 < defaultQueue) && e.2.valid && decide (e.2.srcNode = node)) with
  | some e => e.1
  | none => defaultQueue

def State.capOpen (s : State) (c : Contract) : Bool := !c.capEn || s.eligible c.capShaper
def State.owed (s : State) (c : Contract) : Bool := c.minEn && s.eligible c.minShaper

/-- max(64, LENGTH) bytes (R282). -/
def requestCost (o : Operation) : Nat := max 64 o.length

/-- Requests dispatched to a channel and not completed; its request queue holds 128 (R320). -/
def State.inChannel (s : State) (c : Nat) : List Dispatched := Store.read [] s.traffic.dispatched c
def State.setInChannel (s : State) (c : Nat) (l : List Dispatched) : State :=
  { s with traffic := { s.traffic with dispatched := Store.write [] s.traffic.dispatched c l } }
def State.hasRoom (s : State) (c : Nat) : Bool := decide ((s.inChannel c).length < 128)

/-! ### The effect at the channel (R58, R62, R317) -/

/-- Bytes an operation covers at its target. -/
def opBytes (o : Operation) : Nat :=
  if o.op = 3 ∨ o.op = 4 then (if o.req.md.getLsbD 4 then 8 else 4) else o.length

/-- The effect of a PUT, GET, ATOMIC or FETCH_OP on the pool and the answer it will have; for a write, the bytes it wrote and those
they replaced. -/
def State.poolEffect (s : State) (o : Operation) : Response × List Byte × List Byte × State :=
  let off := addrOffset o.req.target
  let len := opBytes o
  if o.op = 2 then
    let r := s.poolRead off len
    ({ (served (if r.2 then .ok else .tier) (BitVec.ofNat 64 r.1.length) (if r.2 then .none else .tier)) with data := r.1 }, [], [], s)
  else if o.op = 3 ∨ o.op = 4 then
    match s.firstPoison off len with
    | some _ => (served .tier 0 .tier, [], [], s)
    | none =>
      let old := s.memBytes off len
      let oldW := BitVec.ofNat 64 (leNat old)
      match AtomicOp.ofCode (o.req.md.toNat % 16) with
      | none => (served, [], [], s)
      | some op =>
        let nw := natLe len (atomicValue op len oldW o.operand1 o.operand2).toNat
        ((if o.op = 4 then { (served .ok oldW) with data := old } else served), nw, old, s.memWrite off nw)
  else
    let old := s.memBytes off len
    let r := s.poolWrite off (sliceB o.data 0 len)
    (served (if r.1 then .ok else .tier) 0 (if r.1 then .none else .tier), sliceB o.data 0 len, old, r.2)

/-- A request is performed at its channel: held by a move or a checkpoint of its page, or taken into the request queue with its
effect (R62, R305, R571). -/
def State.performPool (s : State) (r : PoolReq) : State :=
  let o := r.oper
  let off := addrOffset o.req.target
  let len := opBytes o
  match s.partAt off with
  | none => s.respond o.req o.op (refusal .range) (.depth (s.inChannel r.channel).length 128)
  | some (n, p) =>
    let first := (off - p.base) / 65536
    let count := (off - p.base + len - 1) / 65536 + 1 - first
    let write := decide (o.op ≠ 2)
    match (if write then s.pool.moves.find? (fun m => decide (m.part = n) && decide (first ≤ m.page) &&
        decide (m.page < first + count)) else none) with
    | some mv =>
      ({ s with pool := { s.pool with moves := s.pool.moves.map (fun m => if m = mv then { m with held := m.held ++ [
        { oper := o, since := s.now, due := s.now + usUnits (s.num O.migrationHoldLimitUs 50)
          defer := if r.defer = .none then .tier else r.defer }] } else m) } } : State).countDeferral
        o.req.issuer.tenant .tier
    | none =>
      match (if write then s.ckptHolds n first count else none) with
      | some (c, pg) =>
        let k := s.ckpt c
        let cow := k.cowFree && !(k.copying.contains pg)
        (s.setCkpt c { k with
          held := k.held ++ [{ oper := o, page := pg, defer := if r.defer = .none then .tier else r.defer }]
          copying := if cow then k.copying ++ [pg] else k.copying
          urgent := if cow || k.copying.contains pg || k.urgent.contains pg then k.urgent else k.urgent ++ [pg] }).countDeferral
          o.req.issuer.tenant .tier
      | none =>
        let e := s.poolEffect o
        let t := e.2.2.2.touchRange n p off len o.req.issuer.tenant write
        t.setInChannel r.channel (t.inChannel r.channel ++ [
          { preq := r, since := t.now, off := off, new := e.2.1, old := e.2.2.1, answer := e.1
            deadline := t.now + usUnits (t.num O.tierDeadlineUs 10000) }])

/-! ### The dispatcher (R282-R284) -/

/-- The KV service as a place the dispatcher serves, after the memory channels; it always has room. -/
abbrev kvChannel : Nat := 272

/-- The DEFER a request leaves with (R283, R284, R320), and whether its wait is a shortfall of an owed contract. -/
def State.deferOf (s : State) (r : PoolReq) (owed : Bool) : Reason × Bool :=
  let late := decide (r.since + nsUnits (s.num O.beDeferNs 10000) < s.now)
  let slowed := decide (r.channel < kvChannel) && decide (s.chanPct r.channel < 100) && decide (r.since < s.now)
  let short := owed && late
  (if r.defer ≠ .none then r.defer
   else if slowed then .powerThermal
   else if r.capped then .hostCap
   else if r.passed then .hostMinimum
   else if short then .none
   else if late then .bestEffort else .none, short)

/-- A request leaves its FIFO for its channel: charges, DEFER and shortfall counts, then its effect `go` (R282-R284). -/
def State.dispatchReq (s : State) (go : State → PoolReq → State) (k : Nat) (r : PoolReq) (rest : List PoolReq) (owed : Bool) : State :=
  let c := s.contract k
  let cost := requestCost r.oper
  let d := s.deferOf r owed
  let s1 := s.setContract k { c with queue := rest, bytes := c.bytes + cost, shortfalls := c.shortfalls + b2n d.2 }
  let s2 := if c.capEn then s1.charge c.capShaper cost else s1
  let s3 := if owed && c.minEn then s2.charge c.minShaper cost else s2
  let s4 := s3.bumpN O.minShortfalls (b2n d.2)
  let s5 := if d.1 ≠ r.defer then s4.countDeferral r.oper.req.issuer.tenant d.1 else s4
  go s5 { r with defer := d.1 }

/-- FIFOs whose head targets the channel, in order of number. -/
def State.headsAt (s : State) (ch : Nat) : List Nat :=
  (s.traffic.contracts.filter (fun e => match e.2.queue with | r :: _ => decide (r.channel = ch) | [] => false)).map (·.1)

def State.headReq (s : State) (k : Nat) : Option PoolReq := (s.contract k).queue.head?

/-- Mark the heads of some FIFOs. -/
def State.markHeads (s : State) (ks : List Nat) (f : PoolReq → PoolReq) : State :=
  ks.foldl (fun (t : State) k =>
    let c := t.contract k
    match c.queue with
    | r :: rest => t.setContract k { c with queue := f r :: rest }
    | [] => t) s

/-- Quantum of a FIFO's round: WEIGHT x 4 KiB; the default queue has default_weight (R281, R282). -/
def State.quantumOf (s : State) (k : Nat) : Nat :=
  (if k = defaultQueue then s.num O.defaultWeight 1 else (s.contract k).weight) * 4096

/-- One choice of the dispatcher for a channel with room (R282): the next owed contract in round-robin order, else the deficit round
of the rest. FIFOs whose cap is not eligible are passed over, and a head that waits so is marked (R283). -/
def State.dispatchOne (s : State) (go : State → PoolReq → State) (ch : Nat) : State :=
  if !s.hasRoom ch then s
  else
    let heads := s.headsAt ch
    let capped := heads.filter (fun k => !(s.capOpen (s.contract k)))
    let open_ := heads.filter (fun k => s.capOpen (s.contract k))
    let s0 := s.markHeads capped (fun r => { r with capped := true })
    let owed := open_.filter (fun k => s.owed (s.contract k))
    match owed with
    | _ :: _ =>
      let k := nextAfter owed s0.traffic.owedLast
      match (s0.contract k).queue with
      | [] => s0
      | r :: rest =>
        let s1 := s0.markHeads (open_.filter (fun j => decide (j ≠ k))) (fun x => { x with passed := true })
        let s2 := { s1 with traffic := { s1.traffic with owedLast := k } }
        s2.dispatchReq go k r rest true
    | [] =>
      let cost := fun k => match (s0.contract k).queue with | r :: _ => requestCost r.oper | [] => 0
      let deficits := s0.traffic.contracts.filterMap (fun e => if e.2.deficit = 0 then none else some (e.1, e.2.deficit))
      match drrPick open_ cost s0.quantumOf (4100 * (open_.length + 1)) deficits s0.traffic.drrPointer s0.traffic.drrAdded with
      | none => s0
      | some (k, d, p, added) =>
        let s1 := { s0 with traffic := { s0.traffic with
          drrPointer := p
          drrAdded := added
          contracts := (s0.traffic.contracts.map (fun e => (e.1, { e.2 with deficit := Store.read 0 d e.1 }))).filter
            (fun e => decide (e.2 ≠ {})) } }
        match (s1.contract k).queue with
        | [] => s1
        | r :: rest =>
          let s2 := if rest = [] then s1.setContract k { s1.contract k with deficit := 0 } else s1
          s2.dispatchReq go k r rest false

/-- A checked request joins its contract's FIFO after the Weir (R270, R281), and leaves at once when nothing stands before it: its
FIFO and the others at its channel are empty, its cap is eligible and the channel has room. -/
def State.enqueueAt (s : State) (go : State → PoolReq → State) (o : Operation) (ch : Nat) (kv : Option (Nat × Bool)) (defer : Reason)
    (load : LoadQueue) : State :=
  let k := s.contractOf (s.sourceNode o.req.issuer)
  let c := s.contract k
  let w := if c.weirEn then s.weirPass c.weir (requestCost o) else (true, s)
  if !w.1 then w.2.respond o.req o.op (refusal .busy .policer) load
  else if s.num O.contractQueueLimit 4096 ≤ c.queue.length then
    w.2.respond o.req o.op (refusal .nospace (if s.capOpen c then .capacity else .hostCap)) load
  else
    let r : PoolReq := {
      id := w.2.traffic.nextReq, oper := o, channel := ch, srcNode := w.2.sourceNode o.req.issuer, since := w.2.now,
      defer := defer, kv := kv }
    let s1 : State := { w.2 with traffic := { w.2.traffic with nextReq := w.2.traffic.nextReq + 1 } }
    let s2 := s1.openOp o.req o.op
    if c.queue.isEmpty && s2.capOpen c && s2.hasRoom ch && (s2.headsAt ch).isEmpty then
      s2.dispatchReq go k r [] (s2.owed c)
    else s2.setContract k { s2.contract k with queue := c.queue ++ [r] }

/-- A request of REGION 0x0 joins its FIFO. -/
def State.enqueuePool (s : State) (o : Operation) (defer : Reason) : State :=
  let ch := s.channelAt (addrOffset o.req.target)
  s.enqueueAt State.performPool o ch none defer (.depth (s.inChannel ch).length 128)

/-- A request to REGION 0x0 of this node (R299, R300): refused, held until the partition's map is written, or queued. -/
def State.poolSubmit (s : State) (o : Operation) : State :=
  let defer := o.req.defer
  let off := addrOffset o.req.target
  let ch := s.channelAt off
  let load := LoadQueue.depth (s.inChannel ch).length 128
  match s.poolCheck off (opBytes o) o.req.issuer.tenant (issuerEndpoint o.req.issuer) (if o.op = 2 then .get else .put) with
  | some st => s.respond o.req o.op (refusal st) load
  | none =>
    if s.closed (channelLoc ch) then s.respond o.req o.op (refusal .busy .unitState) load
    else
      match s.partAt off with
      | none => s
      | some (n, p) =>
        if p.mapWritten then s.enqueuePool o defer
        else
          let s1 := s.openOp o.req o.op
          let l := Store.read [] s1.pool.mapHeld n
          ({ s1 with pool := { s1.pool with mapHeld := Store.write [] s1.pool.mapHeld n (l ++ [
            { oper := o, since := s1.now, defer := if defer = .none then .tier else defer }]) } } : State).countDeferral
            o.req.issuer.tenant .tier

/-- A held request goes on to the channel that holds its page now, without its contract again (R305, R306, R571). -/
def State.releasePool (s : State) (o : Operation) (defer : Reason) : State :=
  let r : PoolReq := {
    id := s.traffic.nextReq, oper := o, channel := s.channelAt (addrOffset o.req.target),
    srcNode := s.sourceNode o.req.issuer, since := s.now, defer := defer }
  ({ s with traffic := { s.traffic with nextReq := s.traffic.nextReq + 1 } } : State).performPool r

/-! ### Completion (R68, R316, R561) -/

/-- TIER_ERROR in force at a unit: the request ends with E_TIER and the count falls (R559). -/
def State.takeTierError (s : State) (u : Nat) : Bool × State :=
  match s.faults.tierError.find? (fun e => decide (e.1 = u) && decide (e.2.1 ≠ 0)) with
  | none => (false, s)
  | some e => (true, { s with faults := { s.faults with
      tierError := (s.faults.tierError.map (fun x => if x = e then (x.1, x.2.1 - 1, x.2.2) else x)).filter (fun x => decide (x.2.1 ≠ 0)) } })

/-- What R92 leaves of a put that failed after its effect: each block holds its new or its old contents. -/
def State.revertBlocks (s : State) (d : Dispatched) : State :=
  ((blocksOf d.off d.new.length).foldl (fun (t : State) b =>
    let lo := max (b * 64) d.off
    let n := min (b * 64 + 64) (d.off + d.new.length) - lo
    let back := decide (Config.freeNat t.freeCounter % 2 = 1) &&
      decide (t.memBytes lo n = sliceB d.new (lo - d.off) n)
    let t1 := if back then t.memWrite lo (sliceB d.old (lo - d.off) n) else t
    { t1 with freeCounter := t1.freeCounter + 1 }) s)

/-- A PUT, GET, ATOMIC, FETCH_OP or PUT_NOTIFY of this node ends with its answer (R68, R287): its data goes to LOCAL first; a
PUT_NOTIFY's notify follows its put. -/
def State.endAccess (s : State) (o : Operation) (a : Response) (defer : Reason) (load : LoadQueue) : State :=
  let w := if o.req.fromDzm then (.ok, s) else s.writeLocal o.req.issuer o.req.tc o.req.localA a.data
  let a1 := if w.1 = .ok then a else served w.1
  if o.op = 6 ∧ a1.status = .ok then
    if w.2.syncOpen o.sync o.req.issuer then w.2.startNotify o.req 6 o.sync o.operand1 true
    else w.2.respond o.req 6 (served .access) load
  else w.2.respond o.req o.op (deferredBy defer a1) load

/-- A request to the pool ends with its answer; E_TIER is counted for its partition (R322). -/
def State.finishPool (s : State) (d : Dispatched) (a : Response) (load : LoadQueue) : State :=
  let s1 := if a.status = .tier then
      match s.partAt d.off with
      | some (n, _) => s.bump (O.partTierErrors n)
      | none => s
    else s
  s1.endAccess d.preq.oper a d.preq.defer load

/-- TIER_LATE in force at a unit when the request was dispatched: the delay in µs (R559). -/
def State.tierDelay (s : State) (u : Nat) (d : Dispatched) : Option Nat :=
  (s.faults.tierLate.find? (fun e => decide (e.1 = u) && decide (d.since < e.2.2) && decide (e.2.2 ≤ d.since + usUnits 100))).map (·.2.1)

/-- A dispatched request completes at the DRAM (R316, R320). -/
def State.completeReq (s : State) (ch id : Nat) : State :=
  match (s.inChannel ch).find? (fun d => decide (d.preq.id = id)) with
  | none => s
  | some d =>
    let u := unitIndex (channelLoc ch)
    let late := s.tierDelay u d
    let s0 := match late with | some n => s.elapse (d.since + usUnits n) | none => s
    let s1 := s0.setInChannel ch ((s0.inChannel ch).filter (fun x => decide (x.preq.id ≠ id)))
    let s2 := (s1.setChan ch { Store.read ({} : Channel) s1.pool.channels ch with servedAt := s1.now }).bump
      (O.memUnitRequestsServed u)
    let e := s2.takeTierError u
    let load := LoadQueue.depth (s1.inChannel ch).length 128
    if e.1 then (e.2.revertBlocks d).finishPool d { (served .tier 0 .tier) with injected := true } load
    else if late.isSome then
      s2.finishPool { d with preq := { d.preq with defer := if d.preq.defer = .none then .tier else d.preq.defer } }
        { d.answer with injected := true } load
    else s2.finishPool d d.answer load

/-- A dispatched request ends with a failure, with the effect R92 allows. -/
def State.failReq (s : State) (ch : Nat) (d : Dispatched) (a : Response) : State :=
  let s1 := s.setInChannel ch ((s.inChannel ch).filter (fun x => decide (x.preq.id ≠ d.preq.id)))
  (s1.revertBlocks d).finishPool d a (.depth (s1.inChannel ch).length 128)

end Sys2Proof.Machine
end

