-- ==== Sys2Proof/Machine/Front.lean ====
section
/-! DEFINITION. How every remote operation comes in (R11, R30, R42, R43, R46, R52, R81, R88): the checks that no region owns, the
issuer's posted count, and the way on to another node. -/

namespace Sys2Proof.Machine

/-- The NODE is an endpoint, not a DZM (R46): a port binding or a trained port's peer says so (R428, R473). -/
def State.endpointNode (s : State) (n : Nat) : Bool :=
  s.sec.binds.any (fun e => decide (e.2.tenant ≠ 0xFE) && !e.2.peerDzm && decide (e.2.nodeBase ≤ n) &&
    decide (n ≤ e.2.nodeBase + e.2.countM1)) ||
  s.links.ports.any (fun e => e.2.up && e.2.peerEndpoint && decide (e.2.peerNode = n))

/-- The NODE is a multicast group (R41). -/
def isMulticast (n : Nat) : Bool := decide (0xF000 ≤ n) && decide (n < 0xFFFF)

/-- The first DZM counts an endpoint's posted operation (R88). -/
def State.countArrival (s : State) (o : Operation) : State :=
  match o.req.issuer.src with
  | .endpoint _ => if o.req.posted && !o.req.fromDzm then (s.countIssued o.req.issuer).openOp o.req o.op else s
  | _ => s

/-- The operation goes on to another node; here it stays open until its outcome is known, when this is the first DZM it entered. -/
def State.forward (s : State) (o : Operation) : State :=
  (if o.req.fromDzm then s else s.openOp o.req o.op).emit (.operation o)

/-- What every operation passes before its own checks. `mdMask` are the reserved bits of MOD. `here` is its meaning on this node. -/
def State.front (s : State) (o : Operation) (postedOk : Bool) (mdMask : BitVec 8) (mcast : Bool) (here : State → State) : State :=
  let s1 := s.begin
  let no := fun (st : Status) => s1.respond o.req o.op (refusal st)
  let node := addrNode o.req.target
  if o.req.md &&& mdMask ≠ 0 then no .rsvd
  else if o.req.tc = 0 then no .access
  else if o.req.posted && !postedOk then no .param
  else if o.req.fromDzm && decide (node = 0xFFFF) then no .param
  else if o.req.fromDzm && decide (s1.nodeId = 0xFFFF) then no .access
  else if isMulticast node then
    if mcast then (s1.countArrival o).forward o else no .param
  else if s1.isHere node then here (s1.countArrival o)
  else if s1.endpointNode node && (decide (addrRegion o.req.target ≠ 0) || decide (o.op = 6)) then no .rsvd
  else (s1.countArrival o).forward o

/-- A unit-specific operation that may not be posted (R81). -/
def State.unitOp (s : State) (o : Operation) (mdMask : BitVec 8) (here : State → State) : State :=
  s.whenRunning (fun t => t.front o false mdMask false here)

/-- An operation on an object of a DZM named by its own address form (R379, R399): a node that is not a DZM is E_PARAM. -/
def State.homeOp (s : State) (o : Operation) (postedOk : Bool) (mdMask : BitVec 8) (here : State → State) : State :=
  s.whenRunning (fun t =>
    if o.req.md &&& mdMask = 0 ∧ o.req.tc ≠ 0 ∧ t.endpointNode (addrNode o.req.target) then
      t.begin.respond o.req o.op (refusal .param)
    else t.front o postedOk mdMask false here)

/-- A record at LOCAL is read when the operation is performed (R399, R406): here, or as it came from another node. A read that fails ends the
operation with its STATUS. -/
def State.atLocal (s : State) (o : Operation) (n : Nat) (go : State → Operation → State) : State :=
  match s.fetchBytes o.req.issuer o.req.tc o.req.localA n o.data with
  | .error st => s.respond o.req o.op (if st = .tier then served .tier 0 .tier else refusal st)
  | .ok bs => go (s.fetchUsed o.req.issuer o.req.localA n) { o with data := bs }

end Sys2Proof.Machine
end

