-- ==== Sys2Proof/Machine/Checkpoint.lean ====
section
/-! DEFINITION. Checkpoints (R568-R572) and commit slots (R563-R567). -/

namespace Sys2Proof.Machine

/-! ### Checkpoints -/

/-- Frames taken for copies, near channels first (R568): what each channel gives; none when they do not suffice. -/
def takeFrames (n : Nat) : List (Nat × Nat) → Option (List (Nat × Nat))
  | [] => if n = 0 then some [] else none
  | (c, f) :: t =>
    let k := min n f
    (takeFrames (n - k) t).map (fun r => if k = 0 then r else (c, k) :: r)

/-- The refusal of an arm (R568). -/
def State.ckptCheck (s : State) (c : Nat) : Option Status :=
  let k := s.ckpt c
  let p := s.part k.partition
  if k.state = .armed ∨ k.state = .streaming then some .busy
  else if p.state ≠ .bound ∨ p.sealed.isSome then some .access
  else if s.coh.windows.any (fun e => e.2.enable && decide (e.2.partition = k.partition)) then some .busy
  else if addrRegion k.dest ≠ 0 ∨ !s.endpointNode (addrNode k.dest) ∨ addrOffset k.dest % 65536 ≠ 0 then some .param
  else if k.startFtc % 32 ≠ 0 ∨ k.startFtc < s.ftc + msUnits 1 ∨ s.ftc + msUnits 60000 < k.startFtc then some .range
  else if (takeFrames k.cowPages p.freeFrames).isNone then some .nospace
  else none

/-- ckpt_command arm (R568). -/
def State.ckptArm (s : State) (a : DictPath) (c : Nat) : State :=
  s.openWrite (.dict a) 0 ((s.ckptCheck c).map (fun st => refusal st)) (fun t =>
    let k := t.ckpt c
    let p := t.part k.partition
    let l := (takeFrames k.cowPages p.freeFrames).getD []
    let p1 := { p with freeFrames := l.foldl (fun f e => Store.write 0 f e.1 (Store.read 0 f e.1 - e.2)) p.freeFrames }
    (t.setPart k.partition p1).setCkpt c { k with
      state := .armed, cowFrames := l, copies := [], copying := [], captured := [], inFlight := [], urgent := [], held := []
      next := 0, streamed := 0, cowCopies := 0, poisoned := 0, status := .ok, manifest := false })

def execCkptArm (p : DictPath) (c : Nat) (s : State) : Result := .next (s.begin.whenRunning (fun t => t.ckptArm p c))

/-- Requests held by a checkpoint go on (R571). -/
def State.ckptRelease (s : State) (c : Nat) (f : HeldWrite → Bool) : State :=
  let k := s.ckpt c
  (k.held.filter f).foldl (fun (t : State) h => t.releasePool h.oper h.defer)
    (s.setCkpt c { k with held := k.held.filter (fun h => !(f h)) })

/-- A checkpoint ends (R572): held writes are released and the CoW frames return. -/
def State.ckptEnd (s : State) (c : Nat) (state : CkptState) (st : Status) : State :=
  let k := s.ckpt c
  let p := s.part k.partition
  let p1 := { p with freeFrames := k.cowFrames.foldl (fun f e => Store.write 0 f e.1 (Store.read 0 f e.1 + e.2)) p.freeFrames }
  let s1 := (s.setPart k.partition p1).setCkpt c { k with
    state := state, status := st, endFtc := s.ftc, cowFrames := [], copies := [], copying := [], inFlight := [], urgent := []
    manifest := false }
  s1.ckptRelease c (fun _ => true)

/-- ckpt_command cancel (R572). -/
def State.ckptCancel (s : State) (a : DictPath) (c : Nat) : State :=
  let runs := (s.ckpt c).state = .armed ∨ (s.ckpt c).state = .streaming
  s.openWrite (.dict a) 0 (if runs then none else some (refusal .param)) (fun t => t.ckptEnd c .failed .flushed)

def execCkptCancel (p : DictPath) (c : Nat) (s : State) : Result := .next (s.begin.whenRunning (fun t => t.ckptCancel p c))

/-- The bytes of a page's image (R570). -/
def pageBytes (st : Store Byte) : List Byte := readRange st 0 65536

/-- The class, source and target of the checkpoint's puts (R570). -/
def Ckpt.req (k : Ckpt) (off : Nat) : Req :=
  { issuer := mgmtIssuer, tc := k.tc, target := k.dest + BitVec.ofNat 64 off }

/-- The page sent next (R570, R571): one a write waits for, else the next uncaptured one in ascending order. -/
def Ckpt.pick (k : Ckpt) (size : Nat) : Option Nat :=
  let free := fun (p : Nat) => !(Store.read false k.captured p) && !(k.inFlight.contains p)
  match k.urgent.find? free with
  | some p => some p
  | none => ((List.range (size - k.next)).map (fun j => k.next + j)).find? free

/-- One page leaves, if the shaper lets it (R570). -/
def State.ckptSend (s : State) (c : Nat) : State :=
  let k := s.ckpt c
  let sh := k.shaper % 65536
  let shaped := bitAt k.shaper 16
  if 32 ≤ k.inFlight.length ∨ (shaped ∧ !s.eligible sh) then s
  else match k.pick (s.part k.partition).size with
    | none => s
    | some p =>
      let img := match Store.read none k.copies p with
        | some i => i
        | none => s.pageImage k.partition p
      let s1 := s.setCkpt c { k with
        inFlight := k.inFlight ++ [p]
        next := if p = k.next then p + 1 else k.next
        urgent := k.urgent.filter (fun u => decide (u ≠ p))
        poisoned := k.poisoned + img.1 }
      (if shaped then s1.charge sh 65536 else s1).emit (.operation {
        op := 1, req := k.req (p * 65536), length := 65536, data := pageBytes img.2 })

/-- The manifest (R572). -/
def State.manifest (s : State) (k : Ckpt) : List Byte :=
  let p := s.part k.partition
  let b := natLe 4 0x54504B43 ++ natLe 2 k.partition ++ natLe 1 p.tenant ++ natLe 1 0 ++ natLe 4 k.epoch ++ natLe 4 p.size ++
    natLe 8 k.startFtc ++ natLe 8 k.poisoned ++ natLe 8 s.chip.serial.toNat ++ natLe 2 s.nodeId ++ List.replicate 18 0
  b ++ natLe 4 (crc32 b)

/-- The streamer goes on: up to 32 pages in flight, then the manifest (R570, R572). -/
def State.ckptPump (s : State) (c : Nat) : State :=
  if (s.ckpt c).state ≠ .streaming then s
  else
    let t := (List.range 32).foldl (fun (u : State) _ => u.ckptSend c) s
    let k := t.ckpt c
    let size := (t.part k.partition).size
    if k.inFlight.isEmpty && !k.manifest && decide (k.captured.length = size) then
      (t.setCkpt c { k with manifest := true }).emit (.operation {
        op := 1, req := k.req (size * 65536), length := 64, data := t.manifest k })
    else t

/-- The start tick (R569). -/
def execCkptStart (c : Nat) (s : State) : Result :=
  .next (s.begin.whenRunning (fun t =>
    let k := t.ckpt c
    if k.state ≠ .armed then t
    else
      let t1 := t.elapse (t.now + (k.startFtc - t.ftc))
      let e := (Store.read 0 t1.faults.epochs k.partition + 1) % 2 ^ 32
      let t2 : State := { t1 with faults := { t1.faults with epochs := Store.write 0 t1.faults.epochs k.partition e } }
      (t2.setCkpt c { k with state := .streaming, epoch := e }).ckptPump c))

/-- A page's put is acknowledged, or fails and ends the checkpoint (R570, R572). -/
def execCkptPageCaptured (c page : Nat) (r : Response) (s : State) : Result :=
  .next (s.begin.whenRunning (fun t =>
    let k := t.ckpt c
    if k.state ≠ .streaming ∨ !(k.inFlight.contains page) then t
    else if r.status ≠ .ok then t.ckptEnd c .failed r.status
    else
      let t1 := t.setCkpt c { k with
        inFlight := k.inFlight.filter (fun p => decide (p ≠ page)), captured := Store.write false k.captured page true
        copies := Store.write none k.copies page none, streamed := k.streamed + 1 }
      (t1.ckptRelease c (fun h => decide (h.page = page) && !(k.copying.contains page))).ckptPump c))

/-- A held write's page is in its CoW frame, and the write is released (R571). -/
def execCowCopyDone (c page : Nat) (s : State) : Result :=
  .next (s.begin.whenRunning (fun t =>
    let k := t.ckpt c
    if k.state ≠ .streaming ∨ !(k.copying.contains page) then t
    else
      let t1 := t.setCkpt c { k with copying := k.copying.filter (fun p => decide (p ≠ page)) }
      let t2 := if Store.read false k.captured page then t1 else t1.ckptCopy c k.partition page
      t2.ckptRelease c (fun h => decide (h.page = page))))

/-- The manifest's put is acknowledged (R572). -/
def execCkptManifest (c : Nat) (r : Response) (s : State) : Result :=
  .next (s.begin.whenRunning (fun t =>
    let k := t.ckpt c
    if k.state ≠ .streaming ∨ !k.manifest then t
    else if r.status = .ok then t.ckptEnd c .done .ok else t.ckptEnd c .failed r.status))

/-! ### Commit slots -/

def State.cslot (s : State) (n : Nat) : CommitSlot := Store.read ({} : CommitSlot) s.faults.slots n
def State.setCslot (s : State) (n : Nat) (x : CommitSlot) : State :=
  { s with faults := { s.faults with slots := Store.write ({} : CommitSlot) s.faults.slots n x } }

def csSlotNo (a : Word64) : Nat := bitsOf a.toNat 43 30
def csAttempt (a : Word64) : Nat := bitsOf a.toNat 29 26
def csNo (s : State) (o : Operation) (st : Status) (reason : Reason := .none) : State := s.respond o.req o.op (refusal st reason)

/-- What every operation on a slot passes (R563). -/
def State.csOn (s : State) (o : Operation) (mask : BitVec 8) (go : State → Nat → CommitSlot → State) : State :=
  s.homeOp o false mask (fun t =>
    let n := csSlotNo o.req.target
    let x := t.cslot n
    if addrRegion o.req.target ≠ 0 ∨ bitsOf o.req.target.toNat 25 0 ≠ 0 then csNo t o .param
    else if x.state ≠ .free ∧ x.tenant ≠ o.req.issuer.tenant then csNo t o .access
    else go t n x)

/-- CS_CTL OPEN (R564). -/
def execCsOpen (o : Operation) (s : State) : Result :=
  .next (s.csOn o 0xF0 (fun t n x =>
    let d := o.data
    let off := fieldAt d 0 8
    let addr : Word64 := BitVec.ofNat 64 off
    let bytes := fieldAt d 8 4
    let att := fieldAt d 12 1
    let tc := fieldAt d 13 1
    if o.operand1 ≠ 0 then csNo t o .rsvd
    else if o.length ≠ 64 then csNo t o .align
    else if x.state ≠ .free then csNo t o .busy
    else if !(zerosAt d 14 2) || !(zerosAt d 24 40) then csNo t o .rsvd
    else if addrRegion addr ≠ 0 ∨ !t.isHere (addrNode addr) ∨ off % 4096 ≠ 0 ∨ bytes % 4096 ≠ 0 ∨ bytes < 4096 ∨ 1073741824 < bytes ∨
        att < 1 ∨ 16 < att ∨ tc < 1 ∨ 15 < tc then csNo t o .param
    else match t.partAt (addrOffset addr) with
      | none => csNo t o .param
      | some (_, p) =>
        if p.state ≠ .bound ∨ p.tenant ≠ o.req.issuer.tenant ∨ p.end_ < addrOffset addr + att * bytes then csNo t o .param
        else (t.setCslot n {
          state := .opened, tenant := o.req.issuer.tenant, stageAddr := addr, stageBytes := bytes, attempts := att, tc := tc
          doneSync := BitVec.ofNat 64 (fieldAt d 16 8) }).respond o.req o.op (served)))

/-- ABORT of a slot (R566): its STATUS, and the slot ABORTED when it was OPEN. -/
def State.csAbortSlot (s : State) (n : Nat) : Status × State :=
  let x := s.cslot n
  match x.state with
  | .opened => (.ok, s.setCslot n { x with state := .aborted, staged := [] })
  | .applying | .committed => (.busy, s)
  | _ => (.param, s)

def execCsAbort (o : Operation) (s : State) : Result :=
  .next (s.csOn o 0xF0 (fun t n _ =>
    if o.operand1 ≠ 0 then csNo t o .rsvd
    else if o.length ≠ 0 then csNo t o .align
    else
      let r := t.csAbortSlot n
      if r.1 = .ok then r.2.respond o.req o.op (served) else csNo t o r.1))

def execCsRelease (o : Operation) (s : State) : Result :=
  .next (s.csOn o 0xF0 (fun t n x =>
    if o.operand1 ≠ 0 then csNo t o .rsvd
    else if o.length ≠ 0 then csNo t o .align
    else match x.state with
      | .opened | .applying => csNo t o .busy
      | .free => csNo t o .param
      | _ => (t.setCslot n {}).respond o.req o.op (served)))

/-- The answer of a slot that is not OPEN to CS_PUT and CS_COMMIT (R566). -/
def State.csClosed (s : State) (o : Operation) (x : CommitSlot) : State :=
  match x.state with
  | .applying | .committed =>
    if x.winner = some (csAttempt o.req.target) then csNo s o .param
    else (s.bump O.csSuperseded).respond o.req o.op (served .superseded (BitVec.ofNat 64 (x.winner.getD 0)))
  | _ => csNo s o .flushed

/-- CS_PUT (R565). -/
def execCsPut (o : Operation) (s : State) : Result :=
  .next (s.csOn o 0xFF (fun t n x =>
    let a := csAttempt o.req.target
    if o.length < 1 ∨ 2 ^ 24 < o.length then csNo t o .align
    else if 7 ≤ addrRegion o.operand1 then csNo t o .rsvd
    else if x.state ≠ .opened then t.csClosed o x
    else if x.attempts ≤ a then csNo t o .param
    else
      let at_ := Store.read 0 x.staged a
      let data := sliceB o.data 0 o.length
      let rec_ := natLe 8 o.operand1.toNat ++ natLe 4 o.length ++ List.replicate 52 0 ++ data ++
        List.replicate (roundUp o.length 64 - o.length) 0
      if x.stageBytes < at_ + rec_.length then csNo t o .nospace .capacity
      else
        let off := addrOffset x.stageAddr + a * x.stageBytes + at_
        match t.partAt off with
        | none => csNo t o .access
        | some _ =>
          let w := t.serviceWrite off rec_ x.tenant .stage
          if w.1 = .ok then
            (w.2.setCslot n { x with staged := Store.write 0 x.staged a (at_ + rec_.length) }).respond o.req o.op (served)
          else w.2.respond o.req o.op (served w.1 0 (if w.1 = .tier then .tier else .none))))

/-- The staged records of an attempt, in order: destination and data. -/
def csRecords : Nat → List Byte → List (Word64 × List Byte)
  | 0, _ => []
  | n + 1, bs =>
    if bs.length < 64 then []
    else
      let len := fieldAt bs 8 4
      (BitVec.ofNat 64 (fieldAt bs 0 8), sliceB bs 64 len) :: csRecords n (bs.drop (64 + roundUp len 64))

/-- The puts of a commit (R567): to this node they are performed, to others they leave; the first that fails stops them. -/
def State.csApply (s : State) (x : CommitSlot) : List (Word64 × List Byte) → Nat → Status × Nat × State
  | [], n => (.ok, n, s)
  | r :: t, n =>
    let i : Issuer := { src := .mgmt, tenant := x.tenant, node := s.nodeId }
    if s.isHere (addrNode r.1) then
      let w := s.writeLocal i x.tc r.1 r.2
      if w.1 ≠ .ok then (w.1, n, w.2) else State.csApply w.2 x t (n + r.2.length)
    else
      State.csApply (s.emit (.operation { op := 1, req := { issuer := i, tc := x.tc, target := r.1 }, length := r.2.length, data := r.2 }))
        x t (n + r.2.length)

/-- CS_COMMIT (R566, R567). -/
def execCsCommit (o : Operation) (s : State) : Result :=
  .next (s.csOn o 0xFF (fun t n x =>
    let a := csAttempt o.req.target
    if o.operand1 ≠ 0 then csNo t o .rsvd
    else if o.length ≠ 0 then csNo t o .align
    else if x.state ≠ .opened then t.csClosed o x
    else if x.attempts ≤ a then csNo t o .param
    else
      let t1 := t.openOp o.req o.op
      match t1.serviceRead (addrOffset x.stageAddr + a * x.stageBytes) (Store.read 0 x.staged a) x.tenant .stage with
      | .error st => t1.setCslot n { x with
          state := .applying, winner := some a, commit := some o.req
          stopped := if Store.read 0 x.staged a = 0 then .ok else st }
      | .ok bs =>
        let r := (t1.used (addrOffset x.stageAddr + a * x.stageBytes) (Store.read 0 x.staged a) x.tenant).csApply x (csRecords (bs.length / 64) bs) 0
        r.2.2.setCslot n { x with state := .applying, winner := some a, commit := some o.req, applied := r.2.1, stopped := r.1 }))

/-- The apply ends (R567): `r` is the outcome of the puts that left this node. -/
def execCsApplyDone (slot : Nat) (r : Response) (s : State) : Result :=
  .next (s.begin.whenRunning (fun t =>
    let x := t.cslot slot
    match x.commit with
    | none => t
    | some req =>
      if x.state ≠ .applying then t
      else
        let st := if x.stopped ≠ .ok then x.stopped else r.status
        let bytes := if x.stopped ≠ .ok ∨ r.status = .ok then BitVec.ofNat 64 x.applied else r.result
        if st = .ok then
          let t1 := (t.notifyAddr x.doneSync x.tc { src := .mgmt, tenant := x.tenant, node := t.nodeId }).2
          (t1.setCslot slot { x with state := .committed, commit := none }).respond req 0x7A (served .ok bytes)
        else (t.setCslot slot { x with state := .faulted, commit := none }).respond req 0x7A
          (served st bytes (if st = .tier then .tier else .none))))

end Sys2Proof.Machine
end

