-- ==== Sys2Proof/Machine/Traffic.lean ====
section
/-! DEFINITION. Traffic control (chapter 07): configuration of shapers, Weirs and contracts, the Wheel's tick, and the Sluice gates. -/

namespace Sys2Proof.Machine

/-! ### The Wheel's tick (R267, R268, R270) -/

/-- A tick boundary; checkpoints paced by a shaper go on when it is eligible (R570). -/
def execWheelTick (s : State) : Result :=
  .next (s.begin.whenRunning (fun t =>
    let t1 := (t.elapse (t.now + (32 - t.ftc % 32))).wheelStep
    t1.faults.ckpts.foldl (fun (u : State) e => u.ckptPump e.1) t1))

/-! ### Indirect tables (R269, R270, R280, R285, R289) -/

def State.indData (s : State) (k : Nat) : Nat := s.reg (R.trfIndData k) 0
def State.indIndex (s : State) : Nat := bitsOf (s.reg R.trfIndSel 0) 15 0
def State.indTable (s : State) : Nat := bitsOf (s.reg R.trfIndSel 0) 17 16

/-- TOKENS in bytes, signed and saturating, as 32 bits. -/
def tokensWord (t : Int) : Nat :=
  let b := t / 65536
  let c := if b < -(2 ^ 31) then -(2 ^ 31) else if 2 ^ 31 - 1 < b then 2 ^ 31 - 1 else b
  (c % 2 ^ 32).toNat

/-- The four words of a bucket, and of a contract. -/
def TokenBucket.words (b : TokenBucket) : List Nat :=
  [b.rate + 2 ^ 24 * b2n b.enable, b.burst, tokensWord b.tokens, b2n b.onWheel]
def Contract.words (c : Contract) : List Nat :=
  [c.srcNode + 2 ^ 16 * b2n c.valid, c.minShaper + 2 ^ 16 * b2n c.minEn, c.capShaper + 2 ^ 16 * b2n c.capEn,
    c.weir + 2 ^ 16 * b2n c.weirEn + 2 ^ 17 * c.weight]

/-- The entry a table and an index name. -/
def State.indWords (s : State) (table n : Nat) : List Nat :=
  if table = 0 then (s.shaper n).words else if table = 1 then (s.weir n).words else (s.contract n).words

/-- The selection names no entry (R289). -/
def State.indBad (s : State) : Option Status :=
  if s.indTable = 3 then some .rsvd else if s.indTable = 2 ∧ 16384 ≤ s.indIndex then some .range else none

def State.indRead (s : State) : State :=
  ((List.range 4).zip (s.indWords s.indTable s.indIndex)).foldl (fun (t : State) e => t.setReg (R.trfIndData e.1) e.2) s

def execTrfIndRead (i : Issuer) (v : Word32) (s : State) : Result :=
  .next (s.begin.whenRunning (fun t =>
    t.mgmtWrite (.csr i) R.trfIndCmd ((if v = 1 then t.indBad else some .rsvd).map (fun st => refusal st)) (fun u => u.indRead)))

/-- A bucket as DATA0 and DATA1 give it (R269). -/
def State.indBucket (s : State) (old : TokenBucket) : TokenBucket :=
  let d0 := s.indData 0
  let burst := bitsOf (s.indData 1) 23 0
  { old with
    rate := bitsOf d0 23 0, enable := bitAt d0 24, burst := burst, onWheel := false
    tokens := if bitAt d0 25 then (burst * 64 * 65536 : Nat) else 0 }

/-- A contract as the data words give it (R280); what it has queued and counted stays. -/
def State.indContract (s : State) (old : Contract) : Contract :=
  { old with
    srcNode := bitsOf (s.indData 0) 15 0, valid := bitAt (s.indData 0) 16
    minShaper := bitsOf (s.indData 1) 15 0, minEn := bitAt (s.indData 1) 16
    capShaper := bitsOf (s.indData 2) 15 0, capEn := bitAt (s.indData 2) 16
    weir := bitsOf (s.indData 3) 15 0, weirEn := bitAt (s.indData 3) 16, weight := bitsOf (s.indData 3) 24 17 }

/-- Sum of the minimum RATEs of the valid contracts other than `n` (R280). -/
def State.minCommitted (s : State) (n : Nat) : Nat :=
  ((s.traffic.contracts.filter (fun e => decide (e.1 ≠ n) && e.2.valid && e.2.minEn)).map (fun e => (s.shaper e.2.minShaper).rate)).sum

/-- The refusal of a contract write (R280). -/
def State.contractBad (s : State) (n : Nat) (c : Contract) : Option Status :=
  if isMulticast c.srcNode ∨ c.srcNode = 0xFFFF then some .param
  else if s.traffic.contracts.any (fun e => decide (e.1 ≠ n) && e.2.valid && decide (e.2.srcNode = c.srcNode)) then some .param
  else if c.weight = 0 then some .param
  else if c.minEn ∧ c.capEn ∧ (s.shaper c.capShaper).rate < (s.shaper c.minShaper).rate then some .param
  else if c.valid ∧ c.minEn ∧ s.num O.poolMinReservableMbps 12000000 < s.minCommitted n + (s.shaper c.minShaper).rate then some .nospace
  else none

/-- The refusal of a write command. -/
def State.indWriteBad (s : State) : Option Status :=
  let d := s.indData
  match s.indBad with
  | some st => some st
  | none =>
    if s.indTable < 2 then
      if bitsOf (d 0) 31 26 ≠ 0 ∨ bitsOf (d 1) 31 24 ≠ 0 ∨ bitsOf (d 3) 31 1 ≠ 0 then some .rsvd
      else if s.indTable = 0 ∧ bitAt (d 0) 24 ∧ (bitsOf (d 0) 23 0 = 0 ∨ bitsOf (d 1) 23 0 = 0) then some .param
      else none
    else if bitsOf (d 0) 31 17 ≠ 0 ∨ bitsOf (d 1) 31 17 ≠ 0 ∨ bitsOf (d 2) 31 17 ≠ 0 ∨ bitsOf (d 3) 31 25 ≠ 0 then some .rsvd
    else s.contractBad s.indIndex (s.indContract (s.contract s.indIndex))

/-- The write: a shaper leaves the Wheel (R269); a contract whose VALID is cleared gives its queue to the default queue (R285). -/
def State.indWrite (s : State) : State :=
  let n := s.indIndex
  if s.indTable = 0 then
    let t := s.setShaper n (s.indBucket (s.shaper n))
    { t with traffic := { t.traffic with wheel := t.traffic.wheel.filter (fun e => decide (e.shaper ≠ n)) } }
  else if s.indTable = 1 then s.setWeir n (s.indBucket (s.weir n))
  else
    let c := s.indContract (s.contract n)
    if c.valid then s.setContract n c
    else
      let t := s.setContract n { c with queue := [] }
      t.setContract defaultQueue { t.contract defaultQueue with queue := (t.contract defaultQueue).queue ++ c.queue }

def execTrfIndWrite (i : Issuer) (v : Word32) (s : State) : Result :=
  .next (s.begin.whenRunning (fun t =>
    t.mgmtWrite (.csr i) R.trfIndCmd ((if v = 2 then t.indWriteBad else some .rsvd).map (fun st => refusal st)) (fun u => u.indWrite)))

/-! ### Sluice gates (R273-R279) -/

def State.gate (s : State) (p : Nat) : Gate := Store.read ({} : Gate) s.traffic.gates p
def State.setGate (s : State) (p : Nat) (g : Gate) : State :=
  { s with traffic := { s.traffic with gates := Store.write ({} : Gate) s.traffic.gates p g } }
def State.gateEntry (s : State) (p e : Nat) : GateEntry := Store.read ({} : GateEntry) s.traffic.gateEntries (1024 * p + e)
def State.setGateEntry (s : State) (p e : Nat) (x : GateEntry) : State :=
  { s with traffic := { s.traffic with gateEntries := Store.write ({} : GateEntry) s.traffic.gateEntries (1024 * p + e) x } }

/-- A port's data rate in bytes per ns (R276); an Opvitik port at full width when none is trained. -/
def Port.rate (x : Port) : Nat :=
  match x.mode with
  | .cxl | .pcie => if x.width = 8 then 64 else 128
  | _ => if x.width = 8 then 200 else if x.width = 4 then 100 else 400

/-- The guard band in ticks (R276). -/
def State.guard (s : State) (p : Nat) : Nat := ceilDiv 4608 (8 * (Store.read ({} : Port) s.links.ports p).rate)

/-- The mask of an entry, and of the default state (R273). -/
abbrev defaultMask : Nat := 0xFFFE

/-- Classes open now (R273, R275). -/
def State.openMask (s : State) (p : Nat) : Nat :=
  let g := s.gate p
  if g.inQuantum then defaultMask else if g.active.isSome then g.entry.openMask else defaultMask

/-- An entry becomes active: it is used as it stands now (R279), its hold from `at_` in ticks of its driver (R275). -/
def State.activate (s : State) (p e at_ : Nat) : State :=
  let x := s.gateEntry p e
  s.setGate p { s.gate p with active := some e, entry := x, holdEnd := at_ + x.hold }

/-- The port returns to the default state. -/
def State.gateDefault (s : State) (p : Nat) : State :=
  s.setGate p { s.gate p with active := none, holdEnd := 0, running := false, startTick := none, stopTick := none, inQuantum := false }

/-- GATE entries of a plan's table for a port after plan tick t, in the order they come: ticks ahead and gate entry (R114, R116). -/
def gatesAhead (i : PlanImage) (p t : Nat) : List (Nat × Nat) :=
  let now := t % i.rotationTicks
  let mine := i.table.filter (fun e => decide (e.kind = 2) && decide (e.arg0 = p))
  ((mine.filter (fun e => decide (now ≤ e.effect))).map (fun e => (e.effect - now, e.arg1))) ++
    ((mine.filter (fun e => decide (e.effect < now))).map (fun e => (e.effect + i.rotationTicks - now, e.arg1)))

/-- Changes that AUTO makes after an entry whose hold ends `at_` ticks from now, before tick `until` (R273). -/
def State.autoChain (s : State) (p until_ : Nat) : Nat → Nat → GateEntry → List (Nat × Nat)
  | 0, _, _ => []
  | n + 1, at_, x =>
    if !x.auto ∨ until_ ≤ at_ then []
    else
      let y := s.gateEntry p x.nextEntry
      (at_, y.openMask) :: s.autoChain p until_ n (at_ + y.hold) y

/-- The changes that GATE entries make, each with its AUTO chain up to the next. -/
def State.gateChain (s : State) (p wait far : Nat) : List (Nat × Nat) → List (Nat × Nat)
  | [] => []
  | (d, e) :: t =>
    let x := s.gateEntry p e
    let end_ := match t with | (d1, _) :: _ => d1 + wait | [] => d + wait + far + 1
    (d + wait, x.openMask) :: s.autoChain p end_ far (d + wait + x.hold) x ++ s.gateChain p wait far t

/-- Changes of the port's state that lie ahead, in fabric ticks from now, with the mask each brings: those that a guard band can
reach. -/
def State.gateChanges (s : State) (p : Nat) : List (Nat × Nat) :=
  let g := s.gate p
  let far := s.guard p + 1
  match g.owner with
  | none =>
    let stop := match g.stopTick with | some t => t - s.tick | none => far + 1
    (match g.startTick with
      | some t =>
        let x := s.gateEntry p g.first
        (t - s.tick, x.openMask) :: s.autoChain p stop far (t - s.tick + x.hold) x
      | none => []) ++
    (match g.stopTick with | some t => [(t - s.tick, defaultMask)] | none => []) ++
    (if g.active.isSome then s.autoChain p stop far (g.holdEnd - s.tick) g.entry else [])
  | some n =>
    let x := Store.read ({} : PlanSlot) s.plans.slots n
    match x.image with
    | none => []
    | some i =>
      if x.state ≠ .running ∧ x.state ≠ .slipping then []
      else
        let wait := x.remaining
        let gates := gatesAhead i p x.planTick
        let first := match gates with | (d, _) :: _ => d + wait | [] => far + 1
        (match x.pending with | k :: _ => [(k.whenFtc / 32 - s.tick, defaultMask)] | [] => []) ++ s.gateChain p wait far gates ++
        (if g.active.isSome then s.autoChain p first far (g.holdEnd - x.planTick + wait) g.entry else []) ++
        (match x.halts with | h :: _ => if h.byRotation then [] else [(h.whenVal / 32 - s.tick, defaultMask)] | [] => [])

/-- Class k may start a frame: open, and not inside the guard band of a change that closes it (R276). -/
def State.classOpen (s : State) (p k : Nat) : Bool :=
  bitAt (s.openMask p) k && !((s.gateChanges p).any (fun c => decide (c.1 ≤ s.guard p) && !(bitAt c.2 k)))

/-- TRF_GATE_START. -/
def State.gateStart (s : State) (p : Nat) : Nat := s.reg (R.trfGateStartLo p) 0 + 2 ^ 32 * s.reg (R.trfGateStartHi p) 0

/-- The refusal of START (R279). -/
def State.gateStartBad (s : State) (p v : Nat) : Option Status :=
  let f := s.gateStart p
  let g := s.gate p
  if !s.present (.port p) then some .rsvd
  else if bitsOf v 15 10 ≠ 0 ∨ bitsOf v 31 19 ≠ 0 then some .rsvd
  else if bitAt v 17 then some .param
  else if g.owner.isSome ∨ g.running then some .busy
  else if f % 32 ≠ 0 ∨ f < s.ftc + 32 * (s.guard p + 2) then some .param
  else none

/-- A write of TRF_GATE_CTL with START (R279). -/
def State.gateCycleStart (s : State) (i : Issuer) (p v : Nat) : State :=
  s.mgmtWrite (.csr i) (R.trfGateCtl p) ((s.gateStartBad p v).map (fun st => refusal st)) (fun u =>
    (u.setReg (R.trfGateCtl p) (bitsOf v 9 0)).setGate p { u.gate p with
      running := true, first := bitsOf v 9 0, startTick := some (u.gateStart p / 32) })

def execGateCycleStart (i : Issuer) (port : Nat) (v : Word32) (s : State) : Result :=
  .next (s.begin.whenRunning (fun t => t.gateCycleStart i port v.toNat))

/-- The start FTC arrives. -/
def execGateCycleBegin (port : Nat) (s : State) : Result :=
  .next (s.begin.whenRunning (fun t =>
    let g := t.gate port
    match g.startTick with
    | none => t
    | some n =>
      let t1 := t.atTick n
      (t1.setGate port { g with startTick := none }).activate port g.first (max n t1.tick)))

/-- A write of TRF_GATE_CTL with STOP (R279). -/
def State.gateCycleStop (s : State) (i : Issuer) (p : Nat) : State :=
  s.mgmtWrite (.csr i) (R.trfGateCtl p) (if s.present (.port p) then none else some (refusal .rsvd)) (fun u =>
    let g := u.gate p
    if g.running then u.setGate p { g with stopTick := some (ceilDiv u.ftc 32 + u.guard p) } else u)

def execGateCycleStop (i : Issuer) (port : Nat) (s : State) : Result :=
  .next (s.begin.whenRunning (fun t => t.gateCycleStop i port))

def execGateStopEffect (port : Nat) (s : State) : Result :=
  .next (s.begin.whenRunning (fun t =>
    match (t.gate port).stopTick with
    | none => t
    | some n => (t.atTick n).gateDefault port))

/-- HOLD_TICKS of an AUTO entry pass: entry NEXT becomes active (R273, R275). -/
def execGateHoldExpiry (port : Nat) (s : State) : Result :=
  .next (s.begin.whenRunning (fun t =>
    let g := t.gate port
    if g.active.isNone ∨ !g.entry.auto ∨ g.inQuantum then t
    else if g.owner.isSome then t.activate port g.entry.nextEntry g.holdEnd
    else (t.atTick g.holdEnd).activate port g.entry.nextEntry g.holdEnd))

/-- A gate entry as its two words give it (R289). -/
def gateEntryOf (lo hi : Nat) : GateEntry :=
  { openMask := bitsOf lo 15 0, auto := bitAt lo 16, hold := bitsOf hi 19 0, nextEntry := bitsOf hi 29 20 }

/-- The low word of an entry in force. -/
def GateEntry.lo (x : GateEntry) : Nat := x.openMask + 2 ^ 16 * b2n x.auto

/-- The refusal of an entry as a whole (R273, R274). -/
def State.gateEntryBad (s : State) (p e : Nat) (x : GateEntry) (hi : Nat) : Option Status :=
  if !s.present (.port p) then some .rsvd
  else if bitsOf hi 31 30 ≠ 0 then some .rsvd
  else if (s.gate p).owner.isSome ∧ e < (s.gate p).claimed then some .access
  else if (bitAt x.openMask 0 ∧ x.openMask ≠ 1) ∨ (x.auto ∧ x.hold = 0) then some .param
  else none

/-- A write of TRF_GATE_HI: the entry takes effect with the low word staged for the writer (R289, R514). -/
def State.gateEntryWrite (s : State) (i : Issuer) (p e v : Nat) : State :=
  let k := s.takeLo i (R.trfGateLo p e)
  let x := gateEntryOf (k.1.getD (s.gateEntry p e).lo) v
  k.2.mgmtWrite (.csr i) (R.trfGateHi p e) ((s.gateEntryBad p e x v).map (fun st => refusal st)) (fun u => u.setGateEntry p e x)

def execGateEntryWrite (i : Issuer) (port entry : Nat) (v : Word32) (s : State) : Result :=
  .next (s.begin.whenRunning (fun t => t.gateEntryWrite i port entry v.toNat))

end Sys2Proof.Machine
end

