-- ==== Sys2Proof/Machine/Arbiter.lean ====
section
/-! DEFINITION. The lottery arbiters (R184-R187): of cluster SRAM ports, Millstone intakes (R217, R228), hub injection ports (R258,
R259) and the CSR bus (R493, R510). -/

namespace Sys2Proof.Machine

/-- What an arbiter is (R187, R228, R259, R510). -/
inductive ArbKind where
  /-- port p of cluster C (package-wide number) -/
  | cluster (c p : Nat)
  /-- Millstone m -/
  | millstone (m : Nat)
  /-- hub injection port i -/
  | inject (i : Nat)
  | csrBus
  deriving DecidableEq, Repr, Inhabited

/-- The arbiter at a base address. -/
def arbAt (base : Nat) : Option ArbKind :=
  if base = 0x0001000 then some .csrBus
  else if 0x0201000 ≤ base ∧ base < 0x0201000 + 14 * 0x400 ∧ base % 0x400 = 0 then some (.inject ((base - 0x0201000) / 0x400))
  else if 0x0310000 ≤ base ∧ base < 0x0310000 + 144 * 0x200 ∧ base % 0x200 = 0 then some (.millstone ((base - 0x0310000) / 0x200))
  else if 0x0800000 ≤ base ∧ base < 0x1000000 then
    let d := (base - 0x0800000) / 0x200000
    let r := (base - 0x0800000) % 0x200000
    if 0x10000 ≤ r ∧ r < 0x20000 ∧ r % 0x100 = 0 then some (.cluster (64 * d + (r - 0x10000) / 0x400) (r % 0x400 / 0x100)) else none
  else none

def ArbKind.base : ArbKind → Nat
  | .csrBus => 0x0001000
  | .inject i => 0x0201000 + 0x400 * i
  | .millstone m => 0x0310000 + 0x200 * m
  | .cluster c p => 0x0810000 + 0x200000 * (c / 64) + 0x400 * (c % 64) + 0x100 * p

/-- Requesters. -/
def ArbKind.count : ArbKind → Nat
  | .cluster _ _ => 20 | .csrBus => 68 | _ => 65

/-- Address and reset value of a requester's tickets. -/
def ArbKind.ticketsAt (k : ArbKind) (n : Nat) : Nat :=
  match k with
  | .cluster _ _ => k.base + 0x40 + 4 * n
  | .millstone _ => R.hcuPoolTickets n
  | _ => k.base + 0x200 + 4 * n
def ArbKind.ticketsReset (k : ArbKind) (n : Nat) : Nat :=
  match k with
  | .cluster _ _ => if n < 16 then 0x10 else if n < 18 then 0x20 else 8
  | _ => if n < 64 then 0x10 else 0x20

def ArbKind.waitAt (k : ArbKind) (n : Nat) : Nat :=
  match k with
  | .cluster _ _ => k.base + 0xA0 + 4 * n
  | _ => k.base + 0x80 + 4 * n
def ArbKind.limitAt (k : ArbKind) : Nat :=
  match k with
  | .cluster _ _ => k.base + 0x14
  | _ => k.base + 0x1C
/-- Register and bit of a requester's STARVE. -/
def ArbKind.starveAt (k : ArbKind) (n : Nat) : Nat × Nat := (k.base + 0x10 + 4 * (n / 32), n % 32)

/-- The SEED's reset value. -/
def ArbKind.seedReset : ArbKind → Nat
  | .csrBus => 0xACE1 ^^^ 0x600
  | .inject i => 0xACE1 ^^^ (0x500 + i)
  | .millstone m => 0xACE1 ^^^ (0x400 + m)
  | .cluster c p => 0xACE1 ^^^ (4 * c + p)

/-- VALID's place in GRANT. -/
def ArbKind.validBit : ArbKind → Nat
  | .cluster _ _ => 5 | _ => 7

/-- The variant has it (R4). -/
def State.arbPresent (s : State) : ArbKind → Bool
  | .millstone m => s.present (.hcu (m / 16) (m / 4 % 4) (m % 4))
  | .inject i => if 4 ≤ i ∧ i < 13 then s.present (.hcg (i - 4)) else true
  | _ => true

/-! ### Grants -/

def State.arbGrant (s : State) (k : ArbKind) : Option Nat :=
  let g := s.reg (k.base + 0x0C) 0
  if bitAt g k.validBit then some (g % 2 ^ k.validBit) else none
def State.arbFrozen (s : State) (k : ArbKind) : Bool := bitAt (s.reg k.base 2) 0
def State.arbTickets (s : State) (k : ArbKind) (n : Nat) : Nat := s.reg (k.ticketsAt n) (k.ticketsReset n)

/-- The owner drops its request: the grant ends and its counter clears (R185, R186). -/
def State.arbDrop (s : State) (k : ArbKind) : State :=
  match s.arbGrant k with
  | none => s
  | some n => ((s.setReg (k.base + 0x0C) 0).setReg k.base (b2n (s.arbFrozen k) + 2)).setReg (k.waitAt n) 0

/-- One step of the LFSR (R184). -/
def lfsrStep (x : Nat) : Nat :=
  (x * 2 % 65536) + (b2n (bitAt x 15) + b2n (bitAt x 13) + b2n (bitAt x 12) + b2n (bitAt x 10)) % 2

/-- The first waiting requester whose cumulative tickets exceed d. -/
def pickTicket (tickets : Nat → Nat) : List Nat → Nat → Nat → Option Nat
  | [], _, _ => none
  | n :: t, sum, d => if d < sum + tickets n then some n else pickTicket tickets t (sum + tickets n) d

/-- The draw among the waiting requesters, in ascending number (R184): the granted one, the new LFSR. -/
def State.arbPick (s : State) (k : ArbKind) (waiting : List Nat) : Option Nat × State :=
  let w := (List.range k.count).filter (fun n => waiting.contains n)
  let rich := w.filter (fun n => decide (s.arbTickets k n ≠ 0))
  if rich ≠ [] then
    let x := lfsrStep (s.reg (k.base + 0x08) k.seedReset)
    let total := (rich.map (s.arbTickets k)).sum
    (pickTicket (s.arbTickets k) rich 0 (x % total), s.setReg (k.base + 0x08) x)
  else
    let last := Store.read k.count s.florets.arbLast k.base
    let g := match w.find? (fun n => decide (last < n)) with
      | some n => some n
      | none => w.head?
    (g, match g with
      | some n => { s with florets := { s.florets with arbLast := Store.write k.count s.florets.arbLast k.base n } }
      | none => s)

/-- A cycle of an arbiter (R184-R186): the owner that waits no more drops its grant, and the port is idle for that cycle; with no grant
held, the draw. -/
def State.arbCycle (s : State) (k : ArbKind) (waiting : List Nat) : State :=
  let s1 := match s.arbGrant k with
    | some n => if waiting.contains n then s else s.arbDrop k
    | none => s
  let s2 := ((List.range k.count).filter (fun n => !(waiting.contains n) && decide (s1.reg (k.waitAt n) 0 ≠ 0))).foldl
    (fun (t : State) n => t.setReg (k.waitAt n) 0) s1
  let r := if (s.arbGrant k).isSome ∨ s2.arbFrozen k then (none, s2) else s2.arbPick k waiting
  let s3 : State := match r.1 with
    | none => r.2
    | some n => ((r.2.setReg (k.base + 0x0C) (n + 2 ^ k.validBit)).setReg k.base (b2n (r.2.arbFrozen k))).setReg (k.waitAt n) 0
  ((List.range k.count).filter (fun (n : Nat) => waiting.contains n && decide (s3.arbGrant k ≠ some n))).foldl
    (fun (t : State) n => t.setReg (k.waitAt n) (min 65535 (t.reg (k.waitAt n) 0 + 1))) s3

/-- Tenants with an accepted input that Millstone m has not consumed (R217). -/
def State.msWaiting (s : State) (m : Nat) : List Nat :=
  (s.hcu.inputs.filter (fun x =>
    let j := Store.read ({} : Job) s.hcu.jobs x.job
    decide (j.slot = none) && decide (fieldAt j.record 0 1 = 1) &&
      decide (fieldAt j.record 54 2 + x.chunk % (max 1 (fieldAt j.record 56 1)) = m) && decide (x.cells = 0))).map
    (fun x => ownerIx (Store.read ({} : Job) s.hcu.jobs x.job).tenant)

def execArbiterDraw (base : Nat) (waiting : List Nat) (s : State) : Result :=
  .next (s.begin.whenRunning (fun t =>
    match arbAt base with
    | none => t
    | some (.millstone m) => t.arbCycle (.millstone m) (t.msWaiting m)
    | some k => t.arbCycle k waiting))

/-- The event vector of an arbiter and its number in ARG (R495); the CSR bus arbiter's number is not stated. -/
def ArbKind.event (k : ArbKind) (f : Nat) : Nat × Nat :=
  match k with
  | .cluster c p => (0x034 + c / 64, 4 * (c % 64) + p)
  | .millstone m => (0x038, m)
  | .inject i => (0x039, i)
  | .csrBus => (0x039, Config.freeNat f % 256)

/-- A wait counter passes WAIT_LIMIT (R186): its STARVE bit is set, with one event. -/
def execStarvationFlag (base requester : Nat) (s : State) : Result :=
  .next (s.begin.whenRunning (fun t =>
    match arbAt base with
    | none => t
    | some k =>
      let limit := t.reg k.limitAt 0x1000
      let w := k.starveAt requester
      if k.count ≤ requester ∨ limit = 0 ∨ bitAt (t.reg w.1 0) w.2 then t
      else
        let t1 := (t.setReg (k.waitAt requester) (min 65535 (max (limit + 1) (t.reg (k.waitAt requester) 0)))).setReg w.1
          (t.reg w.1 0 + 2 ^ w.2)
        let e := k.event t1.freeCounter
        ({ t1 with freeCounter := t1.freeCounter + 1 } : State).eventOpen e.1 (t1.path .package) .ok (e.2 * 256 + requester)))

/-- A write of SEED (R187): the LFSR is loaded. -/
def State.arbSeed (s : State) (i : Issuer) (base v : Nat) : State :=
  let check := match arbAt base with
    | none => some (refusal .rsvd)
    | some k => if !s.arbPresent k ∨ bitsOf v 31 16 ≠ 0 then some (refusal .rsvd)
      else if v = 0 then some (refusal .param) else none
  s.openWrite (.csr i) (base + 4) check (fun t => (t.setReg (base + 4) v).setReg (base + 8) v)

def execArbiterSeedWrite (i : Issuer) (base : Nat) (v : Word32) (s : State) : Result :=
  .next (s.begin.whenRunning (fun t => t.arbSeed i base v.toNat))

end Sys2Proof.Machine
end

