-- ==== Sys2Proof/Machine/ClearLog.lean ====
section
/-! DEFINITION. Bondiush's clear log (R434, R435) and the measurements (R438). -/

namespace Sys2Proof.Machine

/-- Bit mask of channels as 34 bytes. -/
def channelMask (l : List Nat) : List Byte := natLe 34 ((l.eraseDups.map (fun c => 2 ^ c)).sum)

/-- A completed clear appends its record and extends the head (R434, R435). KIND: 1 partition, 2 channel, 3 cluster. -/
def State.clearRecord (s : State) (kind prev number frames start : Nat) (chans : List Nat) : State :=
  let seq := s.sec.clearSeq + 1
  let r := natLe 8 seq ++ natLe 1 kind ++ natLe 1 prev ++ natLe 2 number ++ natLe 4 frames ++ natLe 8 start ++ natLe 8 s.ftc ++
    natLe 8 s.chip.serial.toNat ++ natLe 2 s.nodeId ++ channelMask chans ++ List.replicate 52 0
  { s with sec := { s.sec with
    clearSeq := seq
    clearLog := lastN 4096 (s.sec.clearLog ++ [r])
    clearHead := Config.sha384 (s.sec.clearHead ++ r) } }

end Sys2Proof.Machine
end

