-- ==== Sys2Proof/Machine/Compress.lean ====
section
/-! DEFINITION. Compression (chapter 11): streams, code tables, the encoder and the expander, CZ_PUT, CZ_GET and CZ_CTL. -/

namespace Sys2Proof.Machine

/-! ### Streams and their stores (R378-R380) -/

def State.stream (s : State) (n : Nat) : Stream := Store.read ({} : Stream) s.cz.streams n
def State.setStream (s : State) (n : Nat) (x : Stream) : State :=
  { s with cz := { s.cz with streams := Store.write ({} : Stream) s.cz.streams n x } }

/-- DATA_PAGE (R380). -/
def Stream.dataPage (x : Stream) : Nat := ceilDiv (1024 + 8 * x.maxBlocks) 65536
/-- REGION 0x0 offset of a byte of the store. -/
def State.czOff (s : State) (x : Stream) (off : Nat) : Nat := (s.part x.partition).base + x.firstPage * 65536 + off
def State.streamTenant (s : State) (x : Stream) : Nat := (s.part x.partition).tenant

/-- STREAM and OFFSET of a stream address (R379). -/
def streamNo (a : Word64) : Nat := bitsOf a.toNat 43 34
def streamOffset (a : Word64) : Nat := bitsOf a.toNat 33 0

/-- The block's own access to a store. -/
def State.storeRead (s : State) (x : Stream) (off len : Nat) : Except Status (List Byte) :=
  s.serviceRead (s.czOff x off) len (s.streamTenant x) .cz
def State.storeWrite (s : State) (x : Stream) (off : Nat) (bs : List Byte) : Status × State :=
  s.serviceWrite (s.czOff x off) bs (s.streamTenant x) .cz
/-- A read of a store has touched its pages. -/
def State.storeUsed (s : State) (x : Stream) (off len : Nat) : State := s.used (s.czOff x off) len (s.streamTenant x)

/-! ### Symbols and tables (R381, R382) -/

/-- Bytes of an element and its raw bits r. -/
def elemBytes (elem : Nat) : Nat := if elem = 0 then 1 else if elem = 3 then 4 else 2
def elemRaw (elem : Nat) : Nat := if elem = 0 then 0 else if elem = 3 then 24 else 8

/-- The symbol of an element. -/
def elemSymbol (elem v : Nat) : Nat :=
  if elem = 0 then v % 256 else if elem = 3 then bitsOf v 30 23 else bitsOf v 14 7
/-- The raw bits of an element. -/
def elemRest (elem v : Nat) : Nat :=
  if elem = 0 then 0 else if elem = 3 then bitsOf v 31 31 * 2 ^ 23 + bitsOf v 22 0 else bitsOf v 15 15 * 128 + bitsOf v 6 0
/-- An element from its symbol and raw bits. -/
def elemJoin (elem sym rest : Nat) : Nat :=
  if elem = 0 then sym
  else if elem = 3 then bitsOf rest 23 23 * 2 ^ 31 + sym * 2 ^ 23 + bitsOf rest 22 0
  else bitsOf rest 7 7 * 2 ^ 15 + sym * 128 + bitsOf rest 6 0

/-- Elements of a block's bytes. -/
def elemsOf (elem : Nat) (bs : List Byte) : List Nat :=
  (List.range (bs.length / elemBytes elem)).map (fun k => fieldAt bs (k * elemBytes elem) (elemBytes elem))

/-- The 256 code lengths of a table record. -/
def recordLengths (rec : List Byte) : List Nat :=
  (List.range 256).map (fun k => fieldAt rec (16 + k / 2) 1 / (if k % 2 = 0 then 1 else 16) % 16)

/-- Lengths lie in 1-15 and the code is complete. -/
def lengthsOk (l : List Nat) : Bool :=
  l.all (fun k => decide (1 ≤ k) && decide (k ≤ 15)) && decide ((l.map (fun k => 2 ^ (15 - k))).sum = 2 ^ 15)

/-- Symbols in code order: (length, symbol), then the canonical codes. -/
def codeOrder (l : List Nat) : List (Nat × Nat) :=
  (List.range 15).flatMap (fun k => ((List.range 256).filter (fun y => decide (l.getD y 0 = k + 1))).map (fun y => (k + 1, y)))

/-- (length, code, symbol) of every symbol (R382). -/
def canonical (l : List Nat) : List (Nat × Nat × Nat) :=
  ((codeOrder l).foldl (fun (acc : List (Nat × Nat × Nat) × Nat × Nat) e =>
    let code := if acc.1 = [] then 0 else (acc.2.2 + 1) * 2 ^ (e.1 - acc.2.1)
    ((e.1, code, e.2) :: acc.1, e.1, code)) ([], 0, 0)).1.reverse

/-- The bits of a code, most significant first. -/
def codeBits (len code : Nat) : List Bool := (List.range len).map (fun k => bitAt code (len - 1 - k))

/-- A table record (R382). -/
def tableRecord (slot elem gen : Nat) (l : List Nat) : List Byte :=
  let head := natLe 1 slot ++ natLe 1 elem ++ natLe 1 gen ++ natLe 1 0
  let body := (List.range 128).map (fun k => BitVec.ofNat 8 (l.getD (2 * k) 0 + 16 * l.getD (2 * k + 1) 0))
  head ++ natLe 4 (crc32 (head ++ body)) ++ natLe 8 0 ++ body ++ List.replicate 112 0

def tcrcOf (rec : List Byte) : Word32 := BitVec.ofNat 32 (crc32 (sliceB rec 16 128))

/-- A record's own check: LCHECK over bytes 0-3 and 16-143. -/
def lcheckOk (rec : List Byte) : Bool := decide (fieldAt rec 4 4 = crc32 (sliceB rec 0 4 ++ sliceB rec 16 128))

/-! ### TRAIN's lengths (R383) -/

/-- An item of package-merge: its weight, and the symbols in it, lowest first. -/
abbrev PmItem := Nat × List Nat

def pmLe (a b : PmItem) : Bool :=
  decide (a.1 < b.1) || (decide (a.1 = b.1) && decide (a.2.headD 0 ≤ b.2.headD 0))

/-- Insert an item after those that are not above it. -/
def pmInsert (x : PmItem) : List PmItem → List PmItem
  | [] => [x]
  | y :: t => if pmLe y x then y :: pmInsert x t else x :: y :: t

def pmMinMerge : List Nat → List Nat → List Nat
  | [], b => b
  | a, [] => a
  | x :: a, y :: b => if x ≤ y then x :: (a ++ (y :: b)) else y :: ((x :: a) ++ b)

/-- Neighbours become packages. -/
def pmPairs : List PmItem → List PmItem
  | a :: b :: t => (a.1 + b.1, pmMinMerge a.2 b.2) :: pmPairs t
  | _ => []

/-- Code lengths limited to 15 bits for 256 counts by package-merge; ties by lower symbol value. -/
def pmLengths (counts : List Nat) : List Nat :=
  let leaves := ((List.range 256).map (fun y => (counts.getD y 0, [y]))).foldl (fun l x => pmInsert x l) []
  let top := (List.range 14).foldl (fun (l : List PmItem) _ => (pmPairs l).foldl (fun acc x => pmInsert x acc) leaves) leaves
  let used := (top.take 510).flatMap (·.2)
  (List.range 256).map (fun y => (used.filter (fun z => decide (z = y))).length)

/-- Lengths for a group of sample blocks: every count increased by 1. -/
def trainLengths (elem : Nat) (bs : List Byte) : List Nat :=
  let syms := (elemsOf elem bs).map (elemSymbol elem)
  let counts := syms.foldl (fun (st : Store Nat) y => Store.write 0 st y (Store.read 0 st y + 1)) []
  pmLengths ((List.range 256).map (fun y => Store.read 0 counts y + 1))

/-! ### Blocks (R385-R387) -/

def bitsToBytes : Nat → List Bool → List Byte
  | 0, _ => []
  | n + 1, l => BitVec.ofNat 8 (((List.range 8).map (fun k => if l.getD k false then 2 ^ k else 0)).sum) :: bitsToBytes n (l.drop 8)

def bytesToBits (bs : List Byte) : List Bool := bs.flatMap (fun b => (List.range 8).map (fun k => b.getLsbD k))

/-- Bytes of the symbol section under lengths. -/
def codedLength (l : List Nat) (syms : List Nat) : Nat := ceilDiv ((syms.map (fun y => l.getD y 0)).sum) 8

def symbolSection (l : List Nat) (syms : List Nat) : List Byte :=
  let codes := canonical l
  let bits := syms.flatMap (fun y => match codes.find? (fun c => decide (c.2.2 = y)) with
    | some c => codeBits c.1 c.2.1
    | none => [])
  bitsToBytes (codedLength l syms) bits

def rawSection (elem : Nat) (els : List Nat) : List Byte := els.flatMap (fun v => natLe (elemRaw elem / 8) (elemRest elem v))

/-- A block header with its CHECK (R386). -/
def czHeader (mode slot elem gen block count dl cl : Nat) : List Byte :=
  let h := natLe 2 0x5A3C ++ natLe 1 (mode + 4 * slot + 16 * elem) ++ natLe 1 gen ++ natLe 4 block ++ natLe 2 count ++ natLe 2 dl ++
    natLe 2 cl
  h ++ natLe 2 (crc16 h)

def padTo64 (bs : List Byte) : List Byte := bs ++ List.replicate (roundUp bs.length 64 - bs.length) 0

/-- A coded block: its granules' bytes and the slot of a CODED block (R385). -/
def encodeBlock (elem gen block : Nat) (tabs : List (Nat × List Nat)) (bs : List Byte) : List Byte × Option Nat × Nat :=
  let els := elemsOf elem bs
  let syms := els.map (elemSymbol elem)
  let rawLen := els.length * elemRaw elem / 8
  let best := tabs.foldl (fun (b : Option (Nat × List Nat × Nat)) t =>
    let c := codedLength t.2 syms
    match b with
    | none => some (t.1, t.2, c)
    | some x => if c < x.2.2 then some (t.1, t.2, c) else b) none
  if bs.all (fun b => b == 0) then (padTo64 (czHeader 2 0 elem gen block 0 bs.length 0), none, 2)
  else
    let rawBlock := (padTo64 (czHeader 0 0 elem gen block 0 bs.length 0 ++ bs), none, 0)
    match best with
    | none => rawBlock
    | some (slot, l, c) =>
      if 4112 ≤ 16 + c + rawLen then rawBlock
      else (padTo64 (czHeader 1 slot elem gen block syms.length bs.length c ++ symbolSection l syms ++ rawSection elem els), some slot, 1)

/-- Symbols read from the bit stream, and the bits left. -/
def decodeSyms (codes : List (Nat × Nat × Nat)) : List Bool → Nat → Nat → Nat → List Nat → Option (List Nat × List Bool)
  | bits, _, 0, 0, acc => some (acc.reverse, bits)
  | [], _, _, _, _ => none
  | b :: t, code, len, left, acc =>
    if left = 0 ∧ len = 0 then some (acc.reverse, b :: t)
    else
      let code1 := 2 * code + b2n b
      match codes.find? (fun c => decide (c.1 = len + 1) && decide (c.2.1 = code1)) with
      | some c => if left = 1 then some ((c.2.2 :: acc).reverse, t) else decodeSyms codes t 0 0 (left - 1) (c.2.2 :: acc)
      | none => decodeSyms codes t code1 (len + 1) left acc

/-! ### Expanders (R389-R391) -/

/-- A table is used: it becomes the channel's most recently used; at most 64 stay (R389). -/
def State.holdTable (s : State) (h : HeldTable) : State :=
  let rest := s.cz.held.filter (fun x => !(decide (x.channel = h.channel) && decide (x.stream = h.stream) && decide (x.slot = h.slot)))
  let mine := rest.filter (fun x => decide (x.channel = h.channel))
  let out := if 64 ≤ mine.length then (match mine with | x :: _ => rest.erase x | [] => rest) else rest
  { s with cz := { s.cz with held := out ++ [h] } }

/-- Tables of a slot held by expanders go when the slot is written or the stream's tables are. -/
def State.forgetTables (s : State) (n : Nat) (slots : Nat → Bool) : State :=
  { s with cz := { s.cz with held := s.cz.held.filter (fun x => !(decide (x.stream = n) && slots x.slot)) } }

/-- An expander fetches a table record and checks it (R391): the lengths, or the STATUS that ends the block. -/
def State.fetchTable (s : State) (ch n slot : Nat) : Except Status (List Nat) × State :=
  let x := s.stream n
  match s.storeRead x (slot * 256) 256 with
  | .error st => (.error st, s)
  | .ok rec =>
    let s := s.storeUsed x (slot * 256) 256
    let l := recordLengths rec
    if lcheckOk rec && decide (fieldAt rec 0 1 = slot) && decide (fieldAt rec 1 1 = x.elem) && decide (fieldAt rec 2 1 % 64 = x.gen) &&
        lengthsOk l && decide (tcrcOf rec = Store.read 0 x.tcrc slot) then
      (.ok l, s.holdTable { channel := ch, stream := n, slot := slot, lengths := l })
    else
      let s1 := (s.setStream n { x with damaged := x.damaged ||| (1 <<< slot) }).bump O.tableCheckFails
      (.error .check, (s1.forgetTables n (fun k => decide (k = slot))).fault 0x12 (s1.path (channelLoc ch)) (n * 4 + slot))

/-- The table an expander or encoder uses: the one it holds, or the one it fetches. -/
def State.table (s : State) (ch n slot : Nat) : Except Status (List Nat) × State :=
  match s.cz.held.find? (fun x => decide (x.channel = ch) && decide (x.stream = n) && decide (x.slot = slot)) with
  | some h => (.ok h.lengths, s.holdTable h)
  | none => s.fetchTable ch n slot

/-- The decoded bytes of a block's granules (R390), given the table of its slot. -/
def decodeBlock (elem dl : Nat) (l : List Nat) (payload : List Byte) (count cl : Nat) : Option (List Byte) :=
  match decodeSyms (canonical l) (bytesToBits (payload.take cl)) 0 0 count [] with
  | none => none
  | some (syms, rest) =>
    if 8 ≤ rest.length ∨ rest.any id ∨ syms.length ≠ count then none
    else
      let r := elemRaw elem / 8
      let raw := payload.drop cl
      let els := (List.range count).map (fun k => elemJoin elem (syms.getD k 0) (fieldAt raw (r * k) r))
      some ((els.flatMap (natLe (elemBytes elem))).take dl)

/-- A block is expanded (R389, R390): its bytes, or the STATUS that ends it. -/
def State.expandBlock (s : State) (n k : Nat) : Except Status (List Byte) × State :=
  let x := s.stream n
  let fails := fun (t : State) => ((.error .check, (t.setStream n { x with checkFails := x.checkFails + 1 }).bump O.checkFails) :
    Except Status (List Byte) × State)
  match s.storeRead x (0x400 + 8 * k) 8 with
  | .error st => (.error st, s)
  | .ok ib =>
    let s := s.storeUsed x (0x400 + 8 * k) 8
    let fail := fails s
    let i := leNat ib
    let g := bitsOf i 31 0
    let len := bitsOf i 38 32
    if !bitAt i 39 || decide (len < 1) || decide (65 < len) || decide (1024 < g % 1024 + len) then fail
    else match s.storeRead x (x.dataPage * 65536 + g * 64) (len * 64) with
      | .error st => (.error st, s)
      | .ok bs =>
        let s := s.storeUsed x (x.dataPage * 65536 + g * 64) (len * 64)
        let fail := fails s
        let b2 := fieldAt bs 2 1
        let mode := b2 % 4
        let slot := b2 / 4 % 4
        let count := fieldAt bs 8 2
        let dl := fieldAt bs 10 2
        let cl := fieldAt bs 12 2
        let want := if x.state = .sealed ∧ k + 1 = x.written then x.lastBytes else 4096
        let ch := s.channelAt (s.czOff x (x.dataPage * 65536 + g * 64))
        let raw := count * elemRaw x.elem / 8
        let payload := if mode = 0 then dl else if mode = 1 then cl + raw else 0
        if fieldAt bs 0 2 ≠ 0x5A3C ∨ crc16 (bs.take 14) ≠ fieldAt bs 14 2 ∨ 64 ≤ b2 ∨ mode = 3 ∨ b2 / 16 % 4 ≠ x.elem ∨
            fieldAt bs 3 1 ≠ x.gen ∨ fieldAt bs 4 4 ≠ k then fail
        else if dl ≠ want ∨ (mode = 1 ∧ count * elemBytes x.elem ≠ dl) ∨ (mode ≠ 1 ∧ (count ≠ 0 ∨ cl ≠ 0)) then fail
        else if ceilDiv (16 + payload) 64 ≠ len then fail
        else
          let p := bs.drop 16
          if mode = 0 then (.ok (p.take dl), s.bump O.blocksExpanded)
          else if mode = 2 then (.ok (List.replicate dl 0), s.bump O.blocksExpanded)
          else if !x.loaded.getLsbD slot || x.damaged.getLsbD slot then fail
          else
            let t := s.table ch n slot
            match t.1 with
            | .error .check =>
              let y := t.2.stream n
              (.error .check, (t.2.setStream n { y with checkFails := y.checkFails + 1 }).bump O.checkFails)
            | .error st => (.error st, t.2)
            | .ok l => match decodeBlock x.elem dl l p count cl with
              | none =>
                let y := t.2.stream n
                (.error .check, (t.2.setStream n { y with checkFails := y.checkFails + 1 }).bump O.checkFails)
              | some out => (.ok out, t.2.bump O.blocksExpanded)

/-! ### Operations (R379, R383, R384, R388, R389, R394) -/

def czNo (s : State) (o : Operation) (st : Status) (reason : Reason := .none) : State := s.respond o.req o.op (refusal st reason)

/-- What every operation on a stream passes (R378, R379): its address form and its tenant. -/
def State.onStream (s : State) (o : Operation) (go : State → Nat → Stream → State) : State :=
  let n := streamNo o.req.target
  let x := s.stream n
  if addrRegion o.req.target ≠ 0 then czNo s o .param
  else if x.enable && decide (s.streamTenant x ≠ o.req.issuer.tenant) then czNo s o .access
  else if x.state = .disabled then czNo s o .access
  else go s n x

/-- Blocks of a length, and the pieces of 4,096 bytes. -/
def chunks4096 : Nat → List Byte → List (List Byte)
  | 0, _ => []
  | n + 1, bs => bs.take 4096 :: chunks4096 n (bs.drop 4096)

/-- WRITTEN once the accepted puts are done. -/
def Stream.accEnd (x : Stream) : Nat := x.written + (x.puts.map (fun p => p.blocks.length)).sum
/-- A put accepted ends with a short block, or a SEAL waits. -/
def Stream.closing (x : Stream) : Bool :=
  x.sealReq.isSome || x.puts.any (fun p => match p.blocks.getLast? with | some b => decide (b.length < 4096) | none => false)
/-- Whole free pages of the data area, less those set aside for accepted puts. -/
def Stream.freePages (x : Stream) : Nat :=
  (x.pages - x.dataPage) - ceilDiv x.granules 1024 - (x.puts.map (fun p => ceilDiv p.blocks.length 15 + 1)).sum

/-- CZ_PUT (R388). -/
def State.czPutDo (s : State) (o : Operation) (n : Nat) (x : Stream) : State :=
  let blocks := ceilDiv o.length 4096
  if (s.part x.partition).staticBy.isSome then czNo s o .access .staticWindow
  else if x.state = .sealed ∨ x.state = .resetting ∨ x.closing then czNo s o .busy
  else if streamOffset o.req.target ≠ x.accEnd * 4096 then czNo s o .range
  else if x.maxBlocks < x.accEnd + blocks then czNo s o .range
  else if o.length % 4096 % elemBytes x.elem ≠ 0 then czNo s o .align
  else if x.freePages < ceilDiv blocks 15 + 1 then czNo s o .nospace .capacity
  else (s.setStream n { x with puts := x.puts ++ [
    { req := o.req, first := x.accEnd, blocks := chunks4096 blocks (sliceB o.data 0 o.length) }] }).openOp o.req o.op

def czSize (o : Operation) : Bool := decide (1 ≤ o.length) && decide (o.length ≤ 2 ^ 24)

def execCzPut (o : Operation) (s : State) : Result :=
  .next (s.homeOp o false 0xFF (fun t => t.onStream o (fun u n x =>
    if o.operand1 ≠ 0 then czNo u o .rsvd
    else if !(czSize o) then czNo u o .align
    else u.czPutDo o n x)))

/-- A stream becomes SEALED once its accepted puts are done (R394). -/
def State.sealIfDone (s : State) (n : Nat) : State :=
  let x := s.stream n
  match x.sealReq with
  | none => s
  | some r =>
    if x.puts = [] then
      (s.setStream n { x with sealReq := none, state := if x.state = .opened then .sealed else x.state }).respond r 0x52 (served)
    else s

/-- A put ends with a failure at its next block: WRITTEN stays there, and later accepted puts, whose OFFSET is no longer
WRITTEN x 4,096, are refused (R388). -/
def State.czPutFail (s : State) (n : Nat) (st : Status) : State :=
  let x := s.stream n
  match x.puts with
  | [] => s
  | p :: rest =>
    let s1 := (s.setStream n { x with puts := [] }).respond p.req 0x50
      (served st (BitVec.ofNat 64 p.done) (if st = .tier then .tier else .none))
    (rest.foldl (fun (t : State) q => t.respond q.req 0x50 (refusal .range)) s1).sealIfDone n

/-- The tables an encoder may use: those of the stream's LOADED slots that are not DAMAGED (R385). -/
def State.czTables (s : State) (ch n : Nat) : List (Nat × List Nat) × State :=
  (List.range 4).foldl (fun (acc : List (Nat × List Nat) × State) slot =>
    let y := acc.2.stream n
    if y.loaded.getLsbD slot && !y.damaged.getLsbD slot then
      let r := acc.2.table ch n slot
      match r.1 with
      | .ok l => (acc.1 ++ [(slot, l)], r.2)
      | .error _ => (acc.1, r.2)
    else acc) ([], s)

/-- The next block of the stream's first put is coded and visible (R385, R388): its granules, its index entry, WRITTEN. -/
def execCzBlockVisible (n : Nat) (s : State) : Result :=
  .next (s.begin.whenRunning (fun t =>
    let x := t.stream n
    match x.puts with
    | [] => t
    | p :: rest => match p.blocks with
      | [] => t
      | b :: more =>
        let k := x.written
        let g0 := x.granules
        let coded := fun (at_ : Nat) =>
          let tabs := t.czTables (t.channelAt (t.czOff x (x.dataPage * 65536 + at_ * 64))) n
          (encodeBlock x.elem x.gen k tabs.1 b, tabs.2)
        let first := coded g0
        let g := if 1024 < g0 % 1024 + first.1.1.length / 64 then roundUp g0 1024 else g0
        let r := if g = g0 then first else coded g
        let e := r.1
        let len := e.1.length / 64
        let u := r.2
        let w := u.storeWrite x (x.dataPage * 65536 + g * 64) e.1
        if w.1 ≠ .ok then w.2.czPutFail n w.1
        else
          let w2 := w.2.storeWrite x (0x400 + 8 * k) (natLe 8 (g + len * 2 ^ 32 + 2 ^ 39))
          if w2.1 ≠ .ok then w2.2.czPutFail n w2.1
          else
            let y := w2.2.stream n
            let short := decide (b.length < 4096)
            let z : Stream := { y with
              written := k + 1
              granules := g + len
              lastBytes := if short then b.length else y.lastBytes
              used := match e.2.1 with | some slot => y.used ||| (1 <<< slot) | none => y.used
              accepted := y.accepted + b.length
              stored := y.stored + 64 * len
              state := if short ∧ y.state = .opened then .sealed else y.state
              puts := if more = [] then rest else { p with blocks := more, done := p.done + 1 } :: rest }
            let v := (((w2.2.setStream n z).bump (if e.2.2 = 2 then O.blocksZero else if e.2.2 = 1 then O.blocksCoded else O.blocksRaw)).bumpN
              O.bytesAccepted b.length).bumpN O.bytesStored (64 * len)
            if more = [] then (v.respond p.req 0x50 (served .ok (BitVec.ofNat 64 (p.done + 1)))).sealIfDone n else v))

/-- Bytes of the logical stream that are written (R389). -/
def Stream.size (x : Stream) : Nat := x.written * 4096 - (if x.state = .sealed then 4096 - x.lastBytes else 0)

/-- The blocks of a CZ_GET one after another: the bytes before the first failure, and its STATUS. -/
def State.expandRange (s : State) (n lo hi : Nat) : List Nat → List Byte → List Byte × Status × State
  | [], acc => (acc, .ok, s)
  | k :: t, acc =>
    let r := s.expandBlock n k
    match r.1 with
    | .error st => (acc, st, r.2)
    | .ok bs =>
      let a := max lo (k * 4096)
      let b := min hi (k * 4096 + 4096)
      State.expandRange r.2 n lo hi t (acc ++ sliceB bs (a - k * 4096) (b - a))

/-- CZ_GET (R389). -/
def State.czGetDo (s : State) (o : Operation) (n : Nat) (x : Stream) : State :=
  let lo := streamOffset o.req.target
  let hi := lo + o.length
  if x.state = .resetting then czNo s o .busy
  else if x.size < hi then czNo s o .range
  else
    let first := lo / 4096
    let r := s.expandRange n lo hi ((List.range ((hi - 1) / 4096 + 1 - first)).map (fun k => first + k)) []
    let w := r.2.2.writeLocal o.req.issuer o.req.tc o.req.localA r.1
    let st := if w.1 ≠ .ok then w.1 else r.2.1
    w.2.respond o.req o.op { (served st (BitVec.ofNat 64 r.1.length) (if st = .tier then .tier else .none)) with data := r.1 }

def execCzGet (o : Operation) (s : State) : Result :=
  .next (s.homeOp o false 0xFF (fun t => t.onStream o (fun u n x =>
    if o.operand1 ≠ 0 then czNo u o .rsvd
    else if !(czSize o) then czNo u o .align
    else u.czGetDo o n x)))

/-- What every CZ_CTL passes: MOD, OFFSET, LENGTH and OPERAND1 under `mask`, the static partition and RESETTING (R379, R393, R394). -/
def State.czCtl (s : State) (o : Operation) (mask : Nat) (train : Bool) (go : State → Nat → Stream → State) : State :=
  s.homeOp o false 0xF0 (fun t => t.onStream o (fun u n x =>
    if streamOffset o.req.target ≠ 0 then czNo u o .param
    else if o.operand1.toNat / (mask + 1) ≠ 0 then czNo u o .rsvd
    else if !train && decide (o.length ≠ 0) then czNo u o .align
    else if (u.part x.partition).staticBy.isSome then czNo u o .access .staticWindow
    else if x.state = .resetting then czNo u o .busy
    else go u n x))

/-- Slots of a mask, lowest first. -/
def slotsOf (mask : Nat) : List Nat := (List.range 4).filter (fun k => bitAt mask k)

/-- TRAIN's groups: blocks of group i of T, the larger groups first, as first block and count (R383). -/
def trainGroup (n t i : Nat) : Nat × Nat :=
  (i * (n / t) + min i (n % t), n / t + (if i < n % t then 1 else 0))

/-- TRAIN (R383): the sample is read and the tables computed; they are written when it completes. -/
def execTrain (o : Operation) (s : State) : Result :=
  .next (s.czCtl o 15 true (fun t n x =>
    let mask := o.operand1.toNat % 16
    let slots := slotsOf mask
    let blocks := o.length / 4096
    let off := addrOffset o.req.localA
    if o.length = 0 ∨ o.length % 4096 ≠ 0 ∨ 262144 < o.length then czNo t o .align
    else if mask = 0 ∨ blocks < slots.length then czNo t o .param
    else if slots.any (fun k => x.used.getLsbD k) then czNo t o .busy
    else if addrRegion o.req.localA ≠ 0 ∨ !t.isHere (addrNode o.req.localA) ∨
        (t.poolCheck off o.length o.req.issuer.tenant none .get).isSome then czNo t o .access
    else
      let r := t.poolRead off o.length
      if !r.2 then t.respond o.req o.op (served .tier 0 .tier)
      else
        let tables := (List.range slots.length).map (fun i =>
          let g := trainGroup blocks slots.length i
          (slots.getD i 0, trainLengths x.elem (sliceB r.1 (g.1 * 4096) (g.2 * 4096))))
        ((t.used off o.length o.req.issuer.tenant).setStream n { x with trains := x.trains ++ [{ req := o.req, mask := mask, tables := tables }] }).openOp o.req o.op))

/-- A record is written to a slot, which becomes LOADED (R383, R384). -/
def State.loadSlot (s : State) (n slot : Nat) (l : List Nat) : Status × State :=
  let x := s.stream n
  let image := tableRecord slot x.elem x.gen l
  let w := s.storeWrite x (slot * 256) image
  if w.1 ≠ .ok then w
  else
    let y := w.2.stream n
    (.ok, (w.2.setStream n { y with
      loaded := y.loaded ||| (1 <<< slot)
      damaged := y.damaged &&& ~~~(1#4 <<< slot)
      tcrc := Store.write 0 y.tcrc slot (tcrcOf image) }).forgetTables n (fun k => decide (k = slot)))

/-- Records are written in order, until a write fails. -/
def State.loadSlots (s : State) (n : Nat) (tables : List (Nat × List Nat)) : Status × State :=
  tables.foldl (fun (acc : Status × State) e => if acc.1 ≠ .ok then acc else acc.2.loadSlot n e.1 e.2) (.ok, s)

/-- The tables of a stream's first TRAIN are written (R383). -/
def execTrainComplete (n : Nat) (s : State) : Result :=
  .next (s.begin.whenRunning (fun t =>
    let x := t.stream n
    match x.trains with
    | [] => t
    | c :: rest =>
      let t1 := t.setStream n { x with trains := rest }
      if c.tables.any (fun e => x.used.getLsbD e.1) then t1.respond c.req 0x52 (refusal .busy)
      else
        let w := t1.loadSlots n c.tables
        w.2.respond c.req 0x52 (served w.1 (if w.1 = .ok then BitVec.ofNat 64 c.mask else 0) (if w.1 = .tier then .tier else .none))))

/-- LOAD_TABLE (R384): the record is read at LOCAL, or came from another node. -/
def execLoadTable (o : Operation) (s : State) : Result :=
  .next (s.czCtl o 3 false (fun t n x =>
    let slot := o.operand1.toNat % 4
    t.atLocal o 256 (fun t r =>
    let image := r.data
    let l := recordLengths image
    if fieldAt image 0 1 ≠ slot ∨ fieldAt image 1 1 ≠ x.elem ∨ !lcheckOk image ∨ !lengthsOk l then czNo t o .param
    else if x.used.getLsbD slot && !x.damaged.getLsbD slot then czNo t o .busy
    else if x.damaged.getLsbD slot && decide (tcrcOf image ≠ Store.read 0 x.tcrc slot) then czNo t o .check
    else
      let w := t.loadSlot n slot l
      w.2.respond o.req o.op (served w.1 0 (if w.1 = .tier then .tier else .none)))))

/-- SEAL (R394): once the accepted puts are done. A SEALED stream does not accept it (R393). -/
def execCzSeal (o : Operation) (s : State) : Result :=
  .next (s.czCtl o 0 false (fun t n x =>
    if o.req.localA ≠ 0 then czNo t o .rsvd
    else if x.state = .sealed ∨ x.closing then czNo t o .busy
    else ((t.setStream n { x with sealReq := some o.req }).openOp o.req o.op).sealIfDone n))

/-- RESET (R394): the stream refuses operations from now on. -/
def execStreamReset (o : Operation) (s : State) : Result :=
  .next (s.czCtl o 0 false (fun t n x =>
    if o.req.localA ≠ 0 then czNo t o .rsvd
    else (t.setStream n { x with state := .resetting, resetReq := some o.req }).openOp o.req o.op))

/-- A table fetch by an expander (R391). -/
def execTableFetch (n slot channel : Nat) (s : State) : Result :=
  .next (s.begin.whenRunning (fun t =>
    let x := t.stream n
    if x.loaded.getLsbD slot && !x.damaged.getLsbD slot && decide (x.state ≠ .disabled) then (t.fetchTable channel n slot).2 else t))

/-! ### Enable and disable (R393, R394, R396) -/

/-- The refusal of an enable (R393). -/
def State.streamCheck (s : State) (n : Nat) (x : Stream) : Option Status :=
  let p := s.part x.partition
  let r := x.range
  if x.enable then some .busy
  else if p.state ≠ .bound ∨ p.size < x.firstPage + x.pages ∨ x.maxBlocks = 0 ∨ 4194304 < x.maxBlocks ∨ 3 < x.elem ∨
      x.pages ≤ x.dataPage then some .param
  else if p.staticBy.isSome ∨ s.kvPartition x.partition ∨ hits s.windowRanges x.partition r.2.1 r.2.2 ∨
      hits ((s.cz.streams.filter (fun e => decide (e.1 ≠ n) && e.2.enable)).map (fun e => e.2.range)) x.partition r.2.1 r.2.2 then
    some .busy
  else none

/-- An enable begins: GEN advances, the slot bits and WRITTEN are cleared (R393). -/
def Stream.fresh (x : Stream) : Stream :=
  { x with gen := (x.gen + 1) % 64, loaded := 0, used := 0, damaged := 0, tcrc := [], written := 0, granules := 0, lastBytes := 4096,
           accepted := 0, stored := 0 }

def execStreamEnable (a : Access) (n : Nat) (s : State) : Result :=
  .next (s.begin.whenRunning (fun t =>
    let x := t.stream n
    let c := t.streamCheck n x
    let t1 := if accessMgmt a then t.setStream n { x with lastStatus := c.getD .ok } else t
    t1.mgmtWrite a (R.czStreamCtl n) (c.map (fun st => refusal st)) (fun u =>
      (u.forgetTables n (fun _ => true)).setStream n { x.fresh with enable := true, enabling := true, lastStatus := .ok })))

/-- Bytes of the pool become zero, and unpoisoned where a whole block does. -/
def State.poolZero (s : State) (off len : Nat) : State :=
  let s1 := s.memZero off len
  { s1 with pool := { s1.pool with poison := Store.clearRange s1.pool.poison (ceilDiv off 64) ((off + len) / 64 - ceilDiv off 64) } }

/-- The zeroing of an enabled stream, or of one whose RESET has drained, is visible (R393, R394). -/
def execStreamEnableComplete (n : Nat) (s : State) : Result :=
  .next (s.begin.whenRunning (fun t =>
    let x := t.stream n
    let zero := fun (u : State) =>
      (u.ckptKeep x.partition x.firstPage x.dataPage).poolZero (u.czOff x 0) (1024 + 8 * x.maxBlocks)
    if x.enabling then (zero t).setStream n { x with enabling := false, state := .opened }
    else match x.resetReq with
      | none => t
      | some r =>
        if x.puts = [] ∧ x.trains = [] ∧ x.sealReq = none then
          (((zero t).forgetTables n (fun _ => true)).setStream n { x.fresh with state := .opened, resetReq := none }).respond r 0x52 (served)
        else t))

/-- The stream stops (R394): what is accepted and not done completes with E_ACCESS; the store keeps its bytes. -/
def State.streamOff (s : State) (n : Nat) : State :=
  let x := s.stream n
  let s1 := s.setStream n { x with
    enable := false, enabling := false, state := .disabled, puts := [], trains := [], sealReq := none, resetReq := none }
  let s2 := x.puts.foldl (fun (t : State) p => t.respond p.req 0x50 { refusal .access with result := BitVec.ofNat 64 p.done }) s1
  let s3 := x.trains.foldl (fun (t : State) p => t.respond p.req 0x52 (refusal .access)) s2
  let s4 := match x.sealReq with | some r => s3.respond r 0x52 (refusal .access) | none => s3
  match x.resetReq with | some r => s4.respond r 0x52 (refusal .access) | none => s4

def execStreamDisable (a : Access) (n : Nat) (s : State) : Result :=
  .next (s.begin.whenRunning (fun t => t.mgmtWrite a (R.czStreamCtl n) none (fun u =>
    let v := u.streamOff n
    v.setStream n { v.stream n with lastStatus := .ok })))

end Sys2Proof.Machine
end

