-- ==== Sys2Proof/Machine/Moves.lean ====
section
/-! DEFINITION. Moves of pages between tiers (R299, R305-R315): destinations, victims, the queue of moves, layer prefetches, and what
ends a move. -/

namespace Sys2Proof.Machine

/-- The channel `first` + k, or the next higher one of the range with a frame, wrapping (R299). -/
def pickChannel (free : Nat → Nat) (first count k : Nat) : Option Nat :=
  ((List.range count).map (fun j => first + (k + j) % count)).find? (fun c => decide (free c ≠ 0))

/-- Pages that a bind places near (R299). -/
def Partition.placedNear (p : Partition) : Nat :=
  if p.twoTier then min p.size (p.nearPages - p.mapPages - 8) else p.size

/-- Where page `pg` begins its search in its tier's range (R299). -/
def Partition.startIn (p : Partition) (near : Bool) (pg : Nat) : Nat :=
  if near then pg % p.nearCount else (((pg : Int) - p.placedNear) % (p.farCount : Int)).toNat

/-- A free frame of the partition's reservation in a tier, chosen as in R299. -/
def Partition.frameFor (p : Partition) (near : Bool) (pg : Nat) : Option Nat :=
  if near then pickChannel (Store.read 0 p.freeFrames) p.nearFirst p.nearCount (p.startIn true pg)
  else if p.farCount = 0 then none
  else pickChannel (Store.read 0 p.freeFrames) (256 + p.farFirst) p.farCount (p.startIn false pg)

def Partition.takeFrame (p : Partition) (c : Nat) : Partition :=
  { p with freeFrames := Store.write 0 p.freeFrames c (Store.read 0 p.freeFrames c - 1) }
def Partition.giveFrame (p : Partition) (c : Nat) : Partition :=
  { p with freeFrames := Store.write 0 p.freeFrames c (Store.read 0 p.freeFrames c + 1) }

/-- The oldest RELEASED near page (R309). -/
def oldestReleased (l : List (Nat × PageRec)) : Option Nat :=
  (l.foldl (fun (best : Option (Nat × Nat)) e =>
    match e.2.released with
    | none => best
    | some k => if !e.2.near then best else match best with
      | none => some (k, e.1)
      | some b => if k < b.1 then some (k, e.1) else best) none).map (·.2)

/-- The victim of a promotion (R309): the oldest RELEASED near page, else the first the sweep finds. -/
def State.victim (s : State) (n : Nat) : Option Nat :=
  let pages := (s.partPages n).filter (fun e => e.2.near && !e.2.failed && (s.moveOf n e.1).isNone)
  match oldestReleased pages with
  | some p => some p
  | none =>
    let e := s.epochNow
    let lim := s.num O.promoteThreshold 16 / 4
    let ok := fun (x : Nat × PageRec) => !x.2.pinned && decide (decayed x.2.count x.2.stamp e < lim)
    let from_ := (s.part n).sweep
    match (pages.filter (fun x => decide (from_ ≤ x.1))).find? ok with
    | some x => some x.1
    | none => ((pages.filter (fun x => decide (x.1 < from_))).find? ok).map (·.1)

/-- A move of the page in a direction is queued or runs. -/
def State.moving (s : State) (n p : Nat) (toNear : Bool) : Bool :=
  s.pool.moves.any (fun m => decide (m.part = n) && decide (m.page = p) && (m.toNear == toNear)) ||
  s.pool.queued.any (fun m => decide (m.part = n) && decide (m.page = p) && (m.toNear == toNear))

/-- A move of a page is asked for (R305, R307): nothing when the page is there already or the same move is under way. The Bool says
that it was queued. -/
def State.askMove (s : State) (n p : Nat) (toNear : Bool) (cause : MoveCause) : Bool × State :=
  match s.page n p with
  | none => (false, if (s.part n).size ≤ p then s.bump O.prefetchBoundaryDrops else s)
  | some r =>
    if r.failed || s.moving n p toNear || ((r.near == toNear) && (s.moveOf n p).isNone) then (false, s)
    else (true, { s with pool := { s.pool with
      queued := s.pool.queued ++ [{ part := n, page := p, toNear := toNear, cause := cause }] } })

/-- The hint that waits for a move. -/
def MoveCause.waiter : MoveCause → Option Req
  | .hint w => w
  | .layer _ _ w => w
  | _ => none

/-- Hints whose last move has ended answer (R313). -/
def State.endHints (s : State) : State :=
  let busy := fun (w : HintWait) => (s.pool.queued.any (fun m => decide (m.cause.waiter = some w.req))) ||
    (s.pool.moves.any (fun m => decide (m.cause.waiter = some w.req))) || w.merged.any (fun e => s.moving e.1 e.2.1 e.2.2)
  (s.pool.hintWaits.filter (fun w => !(busy w))).foldl (fun (t : State) w =>
    ({ t with pool := { t.pool with hintWaits := t.pool.hintWaits.erase w } } : State).respond w.req 0x28
      { (served .ok (BitVec.ofNat 64 w.result)) with detail := w.detail }) s

/-- A hint's page was skipped or its prefetch stopped short (DETAIL[0], R313). -/
def State.markShort (s : State) (w : Option Req) : State :=
  match w with
  | none => s
  | some r => { s with pool := { s.pool with
      hintWaits := s.pool.hintWaits.map (fun h => if h.req = r then { h with detail := 1 } else h) } }

/-- Queued moves that meet a test are dropped; the answer says how many. -/
def State.dropMoves (s : State) (f : QueuedMove → Bool) : Nat × State :=
  ((s.pool.queued.filter f).length, ({ s with pool := { s.pool with queued := s.pool.queued.filter (fun m => !(f m)) } } : State).endHints)

/-- The cause of a prefetch is cancelled (R315): its queued moves go, and the pages it left near are counted. -/
def State.cancelCause (s : State) (n : Nat) (cause : MoveCause) : State :=
  let res := ((s.partPages n).filter (fun e => e.2.near && decide (e.2.by_ = some cause))).length
  (s.dropMoves (fun m => decide (m.part = n) && decide (m.cause = cause))).2.bumpN (O.partPrefetchCancelledResident n) res

/-- A move begins copying (R305): a destination frame is taken and MIGRATING is set. -/
def State.beginMove (s : State) (n p : Nat) (toNear : Bool) (cause : MoveCause) (dest : Nat)
    (forPage : Option Nat := none) : State :=
  let s1 := s.setPart n ((s.part n).takeFrame dest)
  { s1 with pool := { s1.pool with moves := s1.pool.moves ++ [
    { part := n, page := p, toNear := toNear, dest := dest, cause := cause, forPage := forPage }] } }

/-- A promotion finds no victim: it is not made; a layer's prefetch stops there (R305, R311). -/
def State.skipPromotion (s : State) (n p : Nat) (cause : MoveCause) : State :=
  let s1 := (s.bump (O.partPromotionsSkipped n)).markShort cause.waiter
  match cause with
  | .layer _ _ _ => (s1.dropMoves (fun m => decide (m.part = n) && decide (m.cause = cause))).2.bump (O.partPrefetchShort n)
  | _ => (s1.dropMoves (fun m => decide (m.part = n) && decide (m.page = p) && decide (m.cause = cause))).2

/-- Dynamic moves use a channel only while its request queue is less than half full (R308). -/
def State.moveSlot (s : State) (n : Nat) (a b : Nat) : Bool :=
  (s.part n).staticBy.isSome || (decide ((s.inChannel a).length < 64) && decide ((s.inChannel b).length < 64))

/-- A queued move starts, or is judged again and dropped (R305, R307, R308). -/
def State.startMove (s : State) (n p : Nat) : State :=
  match s.pool.queued.find? (fun m => decide (m.part = n) && decide (m.page = p)) with
  | none => s
  | some m =>
    let drop : State := { s with pool := { s.pool with queued := s.pool.queued.erase m } }
    match s.page n p with
    | none => drop.endHints
    | some r =>
      if (s.moveOf n p).isSome || decide (16 ≤ (s.pool.moves.filter (fun x => decide (x.part = n))).length) then s
      else if r.failed || r.near == m.toNear then drop.endHints
      else match (s.part n).frameFor m.toNear p with
        | some dest => if s.moveSlot n r.channel dest then drop.beginMove n p m.toNear m.cause dest else s
        | none =>
          if !m.toNear then (drop.markShort m.cause.waiter).endHints
          else if s.pool.moves.any (fun x => decide (x.part = n) && decide (x.forPage = some p)) then s
          else match s.victim n with
            | none => s.skipPromotion n p m.cause
            | some v => match s.page n v, (s.part n).frameFor false v with
              | some vr, some dest =>
                if s.moveSlot n vr.channel dest then
                  let s1 := s.beginMove n v false m.cause dest (some p)
                  s1.setPart n { s1.part n with sweep := v + 1 }
                else s
              | _, _ => s.skipPromotion n p m.cause

/-- Requests held by an ended move go to the page's channel in order. -/
def State.releaseHeld (s : State) (l : List HeldRequest) : State :=
  l.foldl (fun (t : State) h => t.releasePool h.oper h.defer) s

/-- The map switches to the destination and the held requests follow (R305). -/
def State.switchMove (s : State) (m : PageMove) : State :=
  let s0 : State := { s with pool := { s.pool with moves := s.pool.moves.erase m } }
  match s.page m.part m.page with
  | none => s0.endHints
  | some r =>
    let spec := match m.cause with
      | .layer _ _ _ | .kv _ | .meadow _ => if m.toNear then some m.cause else none
      | _ => none
    let s1 := s0.setPage m.part m.page (some { r with
      channel := m.dest, near := m.toNear, queued := false, released := none, by_ := spec })
    let s2 := s1.setPart m.part ((s1.part m.part).giveFrame r.channel)
    let s3 := s2.bump (if m.toNear then O.partPromotions m.part else O.partDemotions m.part)
    (s3.releaseHeld m.held).endHints

/-- A move is cancelled (R306): the page stays at its source, the destination frame is free again, the held requests go to the
source in order. -/
def State.cancelMove (s : State) (m : PageMove) : State :=
  let s0 : State := { s with pool := { s.pool with moves := s.pool.moves.erase m } }
  let s1 := (s0.setPart m.part ((s0.part m.part).giveFrame m.dest)).bump (O.partMigrationCancels m.part)
  ((s1.releaseHeld m.held).markShort m.cause.waiter).endHints

/-! ### Layers (R310, R311) -/

/-- A record of a layer table. -/
structure LayerRec where
  part     : Nat
  pin      : Bool
  release  : Nat
  first    : Nat
  count    : Nat
  deadline : Nat
  deriving DecidableEq, Repr, Inhabited

/-- The record of 16 bytes; none when a reserved field is not zero (R310). -/
def layerRec (bs : List Byte) : Option LayerRec :=
  if fieldAt bs 2 1 / 2 ≠ 0 ∨ 512 ≤ fieldAt bs 0 2 then none
  else some { part := fieldAt bs 0 2, pin := bitAt (fieldAt bs 2 1) 0, release := fieldAt bs 3 1, first := fieldAt bs 4 4,
              count := fieldAt bs 8 4, deadline := fieldAt bs 12 4 }

/-- The record is valid for the partition it names (R310). -/
def layerValid (p : Partition) (r : LayerRec) : Bool :=
  decide (1 ≤ r.count) && decide (r.first + r.count ≤ p.size) &&
    (!p.twoTier || decide (r.count + p.mapPages + 16 ≤ p.nearPages))

/-- Change the entries of a run of pages. -/
def State.mapPagesIn (s : State) (n first count : Nat) (f : PageRec → PageRec) : State :=
  (List.range count).foldl (fun (t : State) j =>
    match t.page n (first + j) with
    | some r => t.setPage n (first + j) (some (f r))
    | none => t) s

/-- Every page of a layer becomes RELEASED and loses PINNED, in order (R311). -/
def State.releaseLayer (s : State) (n first count : Nat) : State :=
  (List.range count).foldl (fun (t : State) j =>
    match t.page n (first + j) with
    | some r =>
      let t1 := t.setPage n (first + j) (some { r with pinned := false, released := some t.pool.nextRelease })
      { t1 with pool := { t1.pool with nextRelease := t1.pool.nextRelease + 1 } }
    | none => t) s

/-- The prefetch of a layer (R311): the release, the layer's flags, and its far pages queued in page order. The number is of pages
queued. -/
def State.prefetchLayer (s : State) (n : Nat) (r : LayerRec) (old : Option LayerRec) (cause : MoveCause) : Nat × State :=
  let s1 := match old with
    | some o => s.releaseLayer n o.first o.count
    | none => s
  let s2 := s1.mapPagesIn n r.first r.count (fun x => { x with released := none, pinned := x.pinned || r.pin })
  if !(s.part n).twoTier then (0, s2)
  else (List.range r.count).foldl (fun (t : Nat × State) j =>
    let q := t.2.askMove n (r.first + j) true cause
    (t.1 + b2n q.1, q.2)) (0, s2)

/-- Record l of a partition's own table (R310): none when it cannot be read or names another partition. -/
def State.ownLayer (s : State) (n l : Nat) : Option LayerRec :=
  let p := s.part n
  if addrRegion p.layerAddr ≠ 0 ∨ !s.isHere (addrNode p.layerAddr) then none
  else match s.serviceRead (addrOffset p.layerAddr + 16 * l) 16 p.tenant .get with
    | .error _ => none
    | .ok bs => match layerRec bs with
      | some r => if r.part = n && layerValid p r then some r else none
      | none => none

/-- The pages that hold record l of a partition's own table have been touched (R309). -/
def State.layerUsed (s : State) (n l : Nat) : State :=
  s.used (addrOffset (s.part n).layerAddr + 16 * l) 16 (s.part n).tenant

end Sys2Proof.Machine
end

