-- ==== Sys2Proof/Machine/Kv.lean ====
section
/-! DEFINITION. The KV service (chapter 09): stores, sessions, token writes, pulls, attends, moves of sessions. -/

namespace Sys2Proof.Machine

/-! ### Stores, sessions, slots (R325-R328, R336) -/

def State.store (s : State) (t : Nat) : KvStore := Store.read ({} : KvStore) s.kv.stores t
def State.setStore (s : State) (t : Nat) (x : KvStore) : State :=
  { s with kv := { s.kv with stores := Store.write ({} : KvStore) s.kv.stores t x } }

def KvStore.slotBytes (x : KvStore) : Nat := x.slotUnits * 256
/-- SLOTS (R325) for a partition of `size` pages. -/
def KvStore.slotsIn (x : KvStore) (size : Nat) : Nat :=
  if x.slotUnits = 0 then 0 else min 268435455 ((size - x.metaPages) * 65536 / x.slotBytes)
/-- SLOTS, 0 while disabled (R350). -/
def State.storeSlots (s : State) (t : Nat) : Nat :=
  if (s.store t).enable then (s.store t).slotsIn (s.part (s.store t).partition).size else 0
def State.storeFree (s : State) (t : Nat) : Nat := s.storeSlots t - (s.store t).used.length

/-- REGION 0x0 offset of a slot (R325). -/
def State.slotOff (s : State) (t slot : Nat) : Nat :=
  (s.part (s.store t).partition).base + (s.store t).metaPages * 65536 + slot * (s.store t).slotBytes

/-- A session that lives: OPEN, MOVING or DELETING. -/
def KvSession.live (x : KvSession) : Bool :=
  decide (x.state = .opened) || decide (x.state = .moving) || decide (x.state = .deleting)
def KvSession.serving (x : KvSession) : Bool := decide (x.state = .opened) || decide (x.state = .moving)

/-- A tenant's session by name. -/
def State.session (s : State) (t : Nat) (name : Word64) : Option KvSession :=
  s.kv.sessions.find? (fun x => decide (x.tenant = t) && decide (x.session = name))

def State.setSession (s : State) (x : KvSession) : State :=
  { s with kv := { s.kv with sessions := s.kv.sessions.map (fun y =>
    if y.tenant = x.tenant ∧ y.session = x.session then x else y) } }

/-- The live session whose run holds a handle (R328). -/
def State.sessionOf (s : State) (t handle : Nat) : Option KvSession :=
  s.kv.sessions.find? (fun x => decide (x.tenant = t) && decide (x.base ≤ handle) && decide (handle < x.base + x.layers) && x.live)

/-- The code a tombstone answers (R329, R330). -/
def SessState.code330 : SessState → Status
  | .expired => .kv 0 | .evicted => .kv 1 | .moved => .kv 3 | _ => .kv 2

/-- Width in bits of a K or V element (R331). -/
def kvBits (fmt : Nat) : Nat := if fmt = 0x10 then 4 else 8
def KvSession.rowBytes (x : KvSession) : Nat := x.dim * kvBits x.fmt / 8
def KvSession.rowScales (x : KvSession) : Nat := x.dim / 32
/-- TOKEN_BYTES and PAGE_BYTES (R336). -/
def KvSession.tokenBytes (x : KvSession) : Nat := 2 * x.heads * x.rowBytes + 2 * x.heads * x.rowScales
def KvSession.pageBytes (x : KvSession) : Nat := 16 * x.tokenBytes
/-- Metadata of a session (R332). -/
def KvSession.meta_ (x : KvSession) : Nat := roundUp (128 + 4 * x.layers * (x.maxTokens / 16)) 4096

def KvSession.tokensOf (x : KvSession) (layer : Nat) : Nat := Store.read 0 x.written layer
def KvSession.slotOf (x : KvSession) (layer page : Nat) : Option Nat := Store.read none x.slots (65536 * layer + page)
def KvSession.slotCount (x : KvSession) : Nat := x.slots.length

/-- Requests of a session in progress: its attends accepted and not stopped (R333, R344, R347). -/
def State.attendsOf (s : State) (x : KvSession) : List Attend :=
  s.kv.attends.filter (fun a => decide (a.tenant = x.tenant) && decide (a.session = x.session))

/-- Every page of the pool that holds a byte of a slot, in the store's partition. -/
def State.slotPages (s : State) (t slot : Nat) : List Nat :=
  let o := s.slotOff t slot - (s.part (s.store t).partition).base
  let n := (s.store t).slotBytes
  if n = 0 then [] else (List.range ((o + n - 1) / 65536 + 1 - o / 65536)).map (fun k => o / 65536 + k)

def State.sessionPages (s : State) (x : KvSession) : List Nat :=
  (x.slots.flatMap (fun e => match e.2 with | some sl => s.slotPages x.tenant sl | none => [])).foldl
    (fun l p => insertNat p l) []

/-- A request of the session ends now: LAST_ACCESS (R333). -/
def State.touchSession (s : State) (t : Nat) (name : Word64) : State :=
  match s.session t name with
  | some x => s.setSession { x with lastAccess := s.ftc }
  | none => s

/-! ### Freeing (R328, R333-R335) -/

/-- Pages that no other NEAR session of the store touches lose PINNED (R335). -/
def State.unpinPages (s : State) (x : KvSession) (pages : List Nat) : Nat × State :=
  let others := (s.kv.sessions.filter (fun y => decide (y.tenant = x.tenant) && y.near && y.live &&
    decide (y.session ≠ x.session))).flatMap s.sessionPages
  let n := (s.store x.tenant).partition
  let go := (pages.filter (fun p => !(others.contains p))).filter (fun p => match s.page n p with
    | some r => r.pinned
    | none => false)
  (go.length, go.foldl (fun (t : State) p => t.mapPagesIn n p 1 (fun r => { r with pinned := false })) s)

/-- Slots return to the store. -/
def State.freeSlots (s : State) (t : Nat) (l : List Nat) : State :=
  s.setStore t { s.store t with used := (s.store t).used.filter (fun u => !(l.contains u)) }

/-- A session ends in a tombstone state: its slots and metadata are free, its handles are in quarantine (R328, R329, R333). -/
def State.endSession (s : State) (x : KvSession) (st : SessState) : State :=
  let s1 := if x.near then (s.unpinPages x (s.sessionPages x)).2 else s
  let s2 := s1.freeSlots x.tenant (x.slots.filterMap (·.2))
  let s3 := s2.setSession { x with
    state := st, slots := [], near := false, truncates := [], deleting := none, move := none, held := [] }
  { s3 with kv := { s3.kv with quarantine := s3.kv.quarantine ++ [
    { base := x.base, count := x.layers, due := s3.now + msUnits (s3.num O.kvHandleQuarantineMs 60000), tenant := x.tenant, state := st }] } }

/-! ### Handles (R328, R332) -/

def insertRun (r : Nat × Nat) : List (Nat × Nat) → List (Nat × Nat)
  | [] => [r]
  | x :: t => if r.1 ≤ x.1 then r :: x :: t else x :: insertRun r t

/-- Handles in use: runs of live sessions and runs in quarantine, rising. -/
def State.handleRuns (s : State) : List (Nat × Nat) :=
  let a := (s.kv.sessions.filter (fun x => x.live)).map (fun x => (x.base, x.layers))
  let b := s.kv.quarantine.map (fun q => (q.base, q.count))
  (a ++ b).foldl (fun l r => insertRun r l) []

/-- Places where a run of n handles fits, from `at_` on. -/
def runPlaces (n : Nat) : List (Nat × Nat) → Nat → Nat
  | [], at_ => 4194304 + 1 - at_ - n
  | r :: t, at_ => (r.1 + 1 - at_ - n) + runPlaces n t (max at_ (r.1 + r.2))

/-- The k-th of those places. -/
def runPlace (n : Nat) : List (Nat × Nat) → Nat → Nat → Nat
  | [], at_, k => at_ + k
  | r :: t, at_, k =>
    let c := r.1 + 1 - at_ - n
    if k < c then at_ + k else runPlace n t (max at_ (r.1 + r.2)) (k - c)

/-! ### Slots taken by a token write (R334, R335) -/

def State.retainedSlots (s : State) (t : Nat) : Nat :=
  ((s.kv.sessions.filter (fun x => decide (x.tenant = t) && x.retain && x.live)).map KvSession.slotCount).sum

/-- Retained slots of a count keep within retain_pct of SLOTS (R335). -/
def State.retainFits (s : State) (t n : Nat) : Bool := decide (n * 100 ≤ (s.store t).retainPct * s.storeSlots t)

/-- The sessions to evict (R334): those with the oldest LAST_ACCESS among those that may go. -/
def State.evictees (s : State) (t : Nat) (writer : Word64) : List KvSession :=
  let l := s.kv.sessions.filter (fun x => decide (x.tenant = t) && decide (x.state = .opened) && x.evictable && !x.retain &&
    decide (x.session ≠ writer) && (s.attendsOf x).isEmpty && x.truncates.isEmpty)
  l.filter (fun x => l.all (fun y => decide (x.lastAccess ≤ y.lastAccess)))

/-- A slot for the writer: a free one, or the first freed of an evicted session's (R334). Which of the free ones, which of two sessions with
one LAST_ACCESS, and which slot is freed first is open. -/
def State.takeSlot (s : State) (t : Nat) (writer : Word64) : Nat → Option (Nat × State)
  | 0 => none
  | fuel + 1 =>
    let free := s.storeFree t
    if free ≠ 0 then
      let f := s.free free
      let slot := nthFree (s.store t).used 0 f.1
      some (slot, f.2.setStore t { f.2.store t with used := insertNat slot (f.2.store t).used })
    else
      let l := s.evictees t writer
      let e := s.free l.length
      match l[e.1]? with
      | none => none
      | some x =>
        let s1 := (e.2.endSession x .evicted).bump O.kvEvicted
        let slots := x.slots.filterMap (·.2)
        let f := s1.free slots.length
        match slots[f.1]? with
        | none => State.takeSlot s1 t writer fuel
        | some slot => some (slot, f.2.setStore t { f.2.store t with used := insertNat slot (f.2.store t).used })

/-- A slot of a NEAR session is pinned when taken, unless that would pass the limit (R335). -/
def State.pinSlot (s : State) (x : KvSession) (slot : Nat) : State :=
  if !x.near then s
  else
    let n := (s.store x.tenant).partition
    let pages := (s.slotPages x.tenant slot).filter (fun p => match s.page n p with | some r => !r.pinned | none => false)
    let pt := s.part n
    if pt.twoTier && decide (pt.nearPages < s.pinnedPages n + pages.length + pt.mapPages + 8) then s.bump O.nearPinShort
    else pages.foldl (fun (t : State) p =>
      ((t.mapPagesIn n p 1 (fun r => { r with pinned := true, released := none })).askMove n p true (.hint none)).2) s

/-- Slots for the pages of a layer that have none; none when R334 or R335 refuses one. -/
def State.takePages (s : State) (t : Nat) (name : Word64) (layer : Nat) : List Nat → Option State
  | [] => some s
  | p :: rest =>
    match s.session t name with
    | none => none
    | some x =>
      if (x.slotOf layer p).isSome then State.takePages s t name layer rest
      else if x.retain && !(s.retainFits t (s.retainedSlots t + 1)) then none
      else match s.takeSlot t name (s.kv.sessions.length + 1) with
        | none => none
        | some (slot, s1) => match s1.session t name with
          | none => none
          | some y =>
            let s2 := s1.setSession { y with slots := Store.write none y.slots (65536 * layer + p) (some slot) }
            State.takePages (s2.pinSlot y slot) t name layer rest

/-! ### Slot contents (R336, R341) -/

/-- A page header (R341). -/
def kvHeader (x : KvSession) (layer page tokens : Nat) : List Byte :=
  let b := natLe 8 x.session.toNat ++ natLe 2 layer ++ natLe 1 x.fmt ++ natLe 1 tokens ++ natLe 4 page ++ natLe 2 x.heads ++
    natLe 2 x.dim ++ natLe 8 0
  b ++ natLe 4 (crc32 b) ++ natLe 32 0

/-- The header is the one expected of the object and page, whatever its TOKENS (R341). -/
def kvHeaderOk (x : KvSession) (layer page : Nat) (h : List Byte) : Bool :=
  decide (fieldAt h 28 4 = crc32 (h.take 28)) && decide (fieldAt h 0 8 = x.session.toNat) && decide (fieldAt h 8 2 = layer) &&
  decide (fieldAt h 10 1 = x.fmt) && decide (fieldAt h 12 4 = page) && decide (fieldAt h 16 2 = x.heads) &&
  decide (fieldAt h 18 2 = x.dim)

/-- Pieces of token t's row in a page: offset in the token, offset in the page, length (R336). -/
def kvPieces (x : KvSession) (row : Nat) : List (Nat × Nat × Nat) :=
  let rb := x.rowBytes
  let rs := x.rowScales
  let h := x.heads
  (List.range h).flatMap (fun g => [
    (g * rb, (g * 16 + row) * rb, rb),
    ((h + g) * rb, (16 * h + g * 16 + row) * rb, rb),
    (2 * h * rb + g * rs, 32 * h * rb + (g * 16 + row) * rs, rs),
    (2 * h * rb + (h + g) * rs, 32 * h * rb + (16 * h + g * 16 + row) * rs, rs)])

/-- A write of the service into its store (R326). -/
def State.kvPut (s : State) (t off : Nat) (bs : List Byte) : Bool × State :=
  let w := s.serviceWrite off bs t .kv
  (decide (w.1 = .ok), w.2)

/-- A read of the service in its store. -/
def State.kvGet (s : State) (t off len : Nat) : Except Status (List Byte) × State :=
  let n := (s.store t).partition
  match s.serviceRead off len t .kv with
  | .ok bs => (.ok bs, s.touchRange n (s.part n) off len t false)
  | .error st => (.error st, s)

/-- Tokens of one page are written with its header (R339, R341). -/
def State.writePage (s : State) (x : KvSession) (layer page slot : Nat) (rows : List (Nat × List Byte)) (tokens : Nat) :
    Bool × State :=
  let off := s.slotOff x.tenant slot
  let h := s.kvPut x.tenant off (kvHeader x layer page tokens)
  rows.foldl (fun (t : Bool × State) r =>
    (kvPieces x r.1).foldl (fun (u : Bool × State) pc =>
      let w := u.2.kvPut x.tenant (off + 64 + pc.2.1) (sliceB r.2 pc.1 pc.2.2)
      (u.1 && w.1, w.2)) t) h

/-! ### Answers -/

/-- LOAD of a token write or pull: the channel of the first slot's first page (R338). -/
def State.kvLoad (s : State) (x : KvSession) (layer page : Nat) : LoadQueue :=
  match x.slotOf layer page with
  | some sl => .depth (s.inChannel (s.channelAt (s.slotOff x.tenant sl))).length 128
  | none => .hub

def State.attendQueued (s : State) : Nat := (s.kv.attends.filter (fun a => !a.running)).length
def State.attendRunning (s : State) : Nat := (s.kv.attends.filter (fun a => a.running)).length
def State.attendLoad (s : State) : LoadQueue := .depth s.attendQueued 8192

/-! ### KV_CTL (R331-R335, R340, R348, R349) -/

/-- Numbers of a KV request beside the KV_CTL commands, for requests that are held. -/
abbrev kvToken : Nat := 0x10
abbrev kvPull : Nat := 0x11
abbrev kvAttendK : Nat := 0x12

/-- A session named by a KV_CTL command that serves; otherwise its refusal (R329). -/
def State.ctlSession (s : State) (o : Operation) : Except Status KvSession :=
  match s.session o.req.issuer.tenant o.operand1 with
  | none => .error .range
  | some x => if x.serving then .ok x else .error x.state.code330

def kvNo (s : State) (o : Operation) (st : Status) (reason : Reason := .none) : State :=
  s.respond o.req 0x30 (refusal st reason)

/-- A command ends with OK: LAST_ACCESS moves (R333). -/
def State.kvYes (s : State) (o : Operation) (result : Nat) : State :=
  (s.touchSession o.req.issuer.tenant o.operand1).respond o.req 0x30 (served .ok (BitVec.ofNat 64 result))

/-- OPEN's parameters of bytes 48-63 as a session (R331). -/
def kvParams (o : Operation) : KvSession :=
  let b := o.params
  let f := fieldAt b 7 1
  { session := o.operand1, tenant := o.req.issuer.tenant, layers := fieldAt b 0 2, heads := fieldAt b 2 2, dim := fieldAt b 4 2,
    fmt := fieldAt b 6 1, retain := bitAt f 0, evictable := bitAt f 1, prefetchNext := bitAt f 2, ttl := fieldAt b 8 4,
    maxTokens := fieldAt b 12 4 }

def kvParamsOk (x : KvSession) : Bool :=
  decide (1 ≤ x.layers) && decide (x.layers ≤ 1024) && decide (1 ≤ x.heads) && decide (x.heads ≤ 64) && decide (64 ≤ x.dim) &&
  decide (x.dim ≤ 256) && decide (x.dim % 32 = 0) && decide (x.heads * x.dim ≤ 2048) &&
  (decide (x.fmt = 0x0C) || decide (x.fmt = 0x0D) || decide (x.fmt = 0x10)) && decide (x.ttl ≤ 86400000) &&
  decide (16 ≤ x.maxTokens) && decide (x.maxTokens ≤ 1048576) && decide (x.maxTokens % 16 = 0)

def sameParams (x y : KvSession) : Bool :=
  decide (x.layers = y.layers) && decide (x.heads = y.heads) && decide (x.dim = y.dim) && decide (x.fmt = y.fmt) &&
  (x.retain == y.retain) && (x.evictable == y.evictable) && (x.prefetchNext == y.prefetchNext) && decide (x.ttl = y.ttl) &&
  decide (x.maxTokens = y.maxTokens)

/-- OPEN (R332, R335). -/
def State.kvOpenDo (s : State) (o : Operation) : State :=
  let t := o.req.issuer.tenant
  let x := kvParams o
  let old := s.session t o.operand1
  let live := match old with | some y => y.live | none => false
  if fieldAt o.params 7 1 / 8 ≠ 0 then kvNo s o .rsvd
  else if !(kvParamsOk x) then kvNo s o .param
  else if (s.store t).slotBytes < 64 + x.pageBytes then kvNo s o .param
  else if live then match old with
    | some y => if y.serving && sameParams x y then s.kvYes o y.base else kvNo s o .busy
    | none => kvNo s o .busy
  else
    let runs := s.handleRuns
    let places := runPlaces x.layers runs 0
    let liveAll := s.kv.sessions.filter (fun y => y.live)
    let meta_ := ((liveAll.filter (fun y => decide (y.tenant = t))).map KvSession.meta_).sum + x.meta_
    if places = 0 ∨ 262144 ≤ liveAll.length ∨ (s.store t).metaPages * 65536 < meta_ then kvNo s o .nospace .capacity
    else if x.retain && !(s.retainFits t (s.retainedSlots t)) then kvNo s o .nospace .capacity
    else
      let f := s.free places
      let y := { x with base := runPlace x.layers runs 0 f.1 }
      ({ f.2 with kv := { f.2.kv with sessions := f.2.kv.sessions.filter (fun z =>
        !(decide (z.tenant = t) && decide (z.session = o.operand1))) ++ [y] } } : State).kvYes o y.base

/-- LOOKUP (R331, R348): a MOVED session answers its new NODE and BASE. -/
def State.kvLookupDo (s : State) (o : Operation) : State :=
  match s.session o.req.issuer.tenant o.operand1 with
  | none => kvNo s o .range
  | some x =>
    if x.state = .moved then s.respond o.req 0x30 (served .ok (BitVec.ofNat 64 (x.movedBase + x.movedNode * 2 ^ 32)))
    else if x.serving then s.kvYes o (x.base + s.nodeId * 2 ^ 32)
    else kvNo s o x.state.code330

/-- A command on a serving session. -/
def State.kvOn (s : State) (o : Operation) (f : KvSession → State) : State :=
  match s.ctlSession o with
  | .error st => kvNo s o st
  | .ok x => f x

/-- RETAIN within retain_pct (R335). -/
def State.kvRetainDo (s : State) (o : Operation) : State :=
  s.kvOn o (fun x =>
    let n := s.retainedSlots x.tenant + (if x.retain then 0 else x.slotCount)
    if !x.retain && !(s.retainFits x.tenant n) then kvNo s o .nospace .capacity
    else (s.setSession { x with retain := true }).kvYes o 0)

/-- PIN_NEAR (R335): every page of the session's slots is promoted and pinned, or none. -/
def State.kvPinDo (s : State) (o : Operation) : State :=
  s.kvOn o (fun x =>
    let n := (s.store x.tenant).partition
    let pages := s.sessionPages x
    let fresh := pages.filter (fun p => match s.page n p with | some r => !r.pinned | none => false)
    let pt := s.part n
    if pt.twoTier && decide (pt.nearPages < s.pinnedPages n + fresh.length + pt.mapPages + 8) then kvNo s o .nospace .capacity
    else
      let s1 := fresh.foldl (fun (t : State) p =>
        ((t.mapPagesIn n p 1 (fun r => { r with pinned := true, released := none })).askMove n p true (.hint none)).2) s
      (s1.setSession { x with near := true }).kvYes o fresh.length)

def State.kvUnpinDo (s : State) (o : Operation) : State :=
  s.kvOn o (fun x =>
    let r := s.unpinPages x (s.sessionPages x)
    (r.2.setSession { x with near := false }).kvYes o r.1)

/-- Lower the count of one layer: pages wholly above it are freed, the partial page's header is lowered (R340). -/
def State.truncateLayer (s : State) (t : Nat) (name : Word64) (layer count : Nat) : State :=
  match s.session t name with
  | none => s
  | some x =>
    let keep := ceilDiv count 16
    let gone := x.slots.filterMap (fun e => if e.1 / 65536 = layer ∧ keep ≤ e.1 % 65536 then e.2 else none)
    let pagesGone := gone.flatMap (s.slotPages t)
    let y := { x with
      written := Store.write 0 x.written layer count
      slots := x.slots.filter (fun e => !(decide (e.1 / 65536 = layer) && decide (keep ≤ e.1 % 65536))) }
    let s1 := (s.setSession y).freeSlots t gone
    let s2 := if x.near then (s1.unpinPages x (pagesGone.filter (fun p => !((s1.sessionPages y).contains p)))).2 else s1
    if count % 16 = 0 then s2
    else match y.slotOf layer (count / 16) with
      | some sl => (s2.kvPut t (s2.slotOff t sl) (kvHeader y layer (count / 16) (count % 16))).2
      | none => s2

/-- The effect of a TRUNCATE (R340). -/
def State.truncateDo (s : State) (t : Nat) (name : Word64) (layer : Option Nat) (count : Nat) : State :=
  match layer with
  | some l => s.truncateLayer t name l count
  | none => match s.session t name with
    | none => s
    | some x => (List.range x.layers).foldl (fun (u : State) l => u.truncateLayer t name l count) s

/-- TRUNCATE (R331, R340): refused above TOKENS_WRITTEN; takes effect at once, or after the attends accepted before it. -/
def State.kvTruncateDo (s : State) (o : Operation) : State :=
  s.kvOn o (fun x =>
    let l := bitsOf o.operand2.toNat 15 0
    let count := bitsOf o.operand2.toNat 51 32
    let layer := if l = 0xFFFF then none else some l
    let layers := match layer with | some k => [k] | none => List.range x.layers
    if bitsOf o.operand2.toNat 31 16 ≠ 0 ∨ bitsOf o.operand2.toNat 63 52 ≠ 0 then kvNo s o .rsvd
    else if layers.any (fun k => decide (x.layers ≤ k) || decide (x.tokensOf k < count)) then kvNo s o .range
    else
      let waits := (s.attendsOf x).map (·.id)
      if waits = [] then (s.truncateDo x.tenant x.session layer count).kvYes o 0
      else (s.setSession { x with truncates := x.truncates ++ [
        { layer := layer, count := count, req := o.req, waits := waits }] }).openOp o.req 0x30)

/-- DELETE (R349). -/
def State.kvDeleteDo (s : State) (o : Operation) : State :=
  s.kvOn o (fun x => (s.setSession { x with state := .deleting, deleting := some o.req, lastAccess := s.ftc }).openOp o.req 0x30)

/-- MOVE (R348): `destOk` says that the destination is a DZM whose store of this tenant can take the session. -/
def State.kvMoveDo (s : State) (o : Operation) (destOk : Bool) : State :=
  s.kvOn o (fun x =>
    if o.operand2.toNat / 65536 ≠ 0 then kvNo s o .rsvd
    else if x.state = .moving then kvNo s o .busy
    else if !destOk || decide (o.operand2.toNat % 65536 = s.nodeId) then kvNo s o .param
    else (s.setSession { x with state := .moving, move := some { req := o.req, dest := o.operand2.toNat % 65536 } }).openOp
      o.req 0x30)

/-! ### REGION 0x6 (R337-R339, R342, R343) -/

/-- The checks of R338 on a handle. -/
def State.handleSession (s : State) (o : Operation) : Except Status KvSession :=
  let t := o.req.issuer.tenant
  if !(s.store t).enable then .error .access
  else
    let h := bitsOf o.req.target.toNat 41 20
    match s.sessionOf t h with
    | some x => if x.serving then .ok x else .error x.state.code330
    | none => match s.kv.quarantine.find? (fun q => decide (q.tenant = t) && decide (q.base ≤ h) && decide (h < q.base + q.count)) with
      | some q => .error q.state.code330
      | none => .error .range

/-- A page copied while its session moves is copied again (R348). -/
def KvSession.markPages (x : KvSession) (layer : Nat) (pages : List Nat) : KvSession :=
  match x.move with
  | some m => { x with move := some { m with marked := m.marked ++ pages.map (fun p => (layer, p)) } }
  | none => x

/-- A token write (R339). -/
def State.kvTokenDo (s : State) (o : Operation) : State :=
  let no := fun (st : Status) (reason : Reason) => s.respond o.req o.op (refusal st reason)
  match s.handleSession o with
  | .error st => no st .none
  | .ok x =>
    let layer := bitsOf o.req.target.toNat 41 20 - x.base
    let first := bitsOf o.req.target.toNat 19 0
    let tb := x.tokenBytes
    let n := (o.length - 16) / tb
    let pages := (List.range (ceilDiv (first + n) 16 - first / 16)).map (fun k => first / 16 + k)
    if !(zerosAt o.data 8 8) then no .rsvd .none
    else if o.length < 16 + tb ∨ (o.length - 16) % tb ≠ 0 then no .align .none
    else if fieldAt o.data 0 8 ≠ x.session.toNat then no .check .none
    else if first ≠ x.tokensOf layer then no .range .none
    else if x.maxTokens < first + n then no .range .none
    else match s.takePages x.tenant x.session layer pages with
      | none => no .nospace .capacity
      | some s1 => match s1.session x.tenant x.session with
        | none => no .nospace .capacity
        | some y =>
          let load := s1.kvLoad y layer (first / 16)
          let w := pages.foldl (fun (u : Bool × State) p =>
            match y.slotOf layer p with
            | none => u
            | some sl =>
              let rows := (List.range 16).filterMap (fun r =>
                let tok := 16 * p + r
                if first ≤ tok ∧ tok < first + n then some (r, sliceB o.data (16 + (tok - first) * tb) tb) else none)
              let q := u.2.writePage y layer p sl rows (min 16 (first + n - 16 * p))
              (u.1 && q.1, q.2)) (true, s1)
          if !w.1 then (w.2.touchSession x.tenant x.session).respond o.req o.op (served .tier 0 .tier) load
          else match w.2.session x.tenant x.session with
            | none => w.2
            | some z =>
              let z1 := ({ z with written := Store.write 0 z.written layer (first + n), lastAccess := w.2.ftc }).markPages layer pages
              (w.2.setSession z1).endAccess o (served) .none load

/-- A page as a pull returns it: rows above its header's TOKENS read as zero (R342). -/
def kvPageOut (x : KvSession) (slot : List Byte) : List Byte :=
  let tokens := fieldAt slot 11 1
  let rb := x.rowBytes
  let rs := x.rowScales
  let rowsK := (List.range (2 * x.heads * 16)).flatMap (fun r =>
    if r % 16 < tokens then sliceB slot (64 + r * rb) rb else List.replicate rb 0)
  let rowsS := (List.range (2 * x.heads * 16)).flatMap (fun r =>
    if r % 16 < tokens then sliceB slot (64 + 32 * x.heads * rb + r * rs) rs else List.replicate rs 0)
  slot.take 64 ++ rowsK ++ rowsS

/-- One slot read and checked (R341). -/
def State.readSlot (s : State) (x : KvSession) (layer page : Nat) : Except Status (List Byte) × State :=
  match x.slotOf layer page with
  | none => (.error .check, s)
  | some sl =>
    let r := s.kvGet x.tenant (s.slotOff x.tenant sl) (64 + x.pageBytes)
    match r.1 with
    | .error st => (.error st, r.2)
    | .ok bs => if kvHeaderOk x layer page bs then (.ok bs, r.2) else (.error .check, r.2.bump O.kvHeaderCheckFails)

/-- Pages in order until one fails (R342). -/
def State.pullPages (s : State) (x : KvSession) (layer : Nat) : List Nat → List Byte → List Byte × Status × Nat × State
  | [], acc => (acc, .ok, 0, s)
  | p :: rest, acc =>
    let r := s.readSlot x layer p
    match r.1 with
    | .error st => (acc, st, 0, r.2)
    | .ok bs =>
      let q := State.pullPages r.2 x layer rest (acc ++ kvPageOut x bs)
      (q.1, q.2.1, q.2.2.1 + 1, q.2.2.2)

/-- A page pull (R342). -/
def State.kvPullDo (s : State) (o : Operation) : State :=
  let no := fun (st : Status) => s.respond o.req o.op (refusal st)
  match s.handleSession o with
  | .error st => no st
  | .ok x =>
    let layer := bitsOf o.req.target.toNat 41 20 - x.base
    let first := bitsOf o.req.target.toNat 19 4
    let sb := 64 + x.pageBytes
    let n := o.length / sb
    if bitsOf o.req.target.toNat 3 0 ≠ 0 then no .rsvd
    else if n = 0 ∨ o.length % sb ≠ 0 then no .align
    else if ceilDiv (x.tokensOf layer) 16 < first + n then no .range
    else
      let load := s.kvLoad x layer first
      let r := s.pullPages x layer ((List.range n).map (fun k => first + k)) []
      let s1 := (r.2.2.2.bumpN O.kvPulls r.2.2.1).touchSession x.tenant x.session
      let w := s1.writeLocal o.req.issuer o.req.tc o.req.localA r.1
      let st := if w.1 = .ok then r.2.1 else w.1
      w.2.respond o.req o.op { (served st (BitVec.ofNat 64 r.1.length) (if st = .tier then .tier else .none)) with data := r.1 } load

/-! ### Attends (R343-R347) -/

/-- 1 / sqrt(D) rounded to FP32, for the head dimensions of R331. -/
def invSqrt (d : Nat) : Word32 :=
  if d = 64 then 0x3E000000 else if d = 96 then 0x3DD105EC else if d = 128 then 0x3DB504F3 else if d = 160 then 0x3DA1E89B
  else if d = 192 then 0x3D93CD3A else if d = 224 then 0x3D88D677 else 0x3D800000

/-- Elements of FP32, BF16 or FP16 as FP32 words. -/
def widenElems (fmt n : Nat) (bs : List Byte) : List Word32 :=
  match elemFmt fmt with
  | some f => (unpackElems f.width n bs).map (fun b => wr32 (f.read b))
  | none => []

/-- The tenant has an ACTIVE dynamic cluster (R343). -/
def State.hasCluster (s : State) (t : Nat) : Bool :=
  (List.range 256).any (fun c => decide (Store.read 0xFF s.sec.clusterOwner c = t) && !(s.closed (clusterLoc c)) &&
    (Store.read none s.florets.staticBy c).isNone)

/-- R of R344 and the number of ranges for a span of pages. -/
def rangePages (pages : Nat) : Nat := max 8 (ceilDiv pages 64)
def Attend.firstPage (a : Attend) : Nat := a.first / 16
def Attend.pages (a : Attend) : Nat := (a.first + a.count - 1) / 16 + 1 - a.first / 16

/-- An attend is checked and accepted, and its span is fixed (R343, R344). -/
def State.kvAttendDo (s : State) (o : Operation) : State :=
  let no := fun (st : Status) (reason : Reason) => s.respond o.req o.op (refusal st reason) s.attendLoad
  match s.handleSession o with
  | .error st => no st .none
  | .ok x =>
    let d := o.data
    let layer := bitsOf o.req.target.toNat 41 20 - x.base
    let qh := fieldAt d 24 1
    let qf := fieldAt d 25 1
    let ofm := fieldAt d 26 1
    let fl := fieldAt d 27 1
    let first := fieldAt d 16 4
    let cnt := fieldAt d 20 4
    let written := x.tokensOf layer
    let count := if cnt = 0 then written - first else cnt
    let fmtOk := fun (f : Nat) => decide (1 ≤ f) && decide (f ≤ 3)
    let qb := qh * x.dim * (if qf = 1 then 4 else 2)
    if bitsOf o.req.target.toNat 19 0 ≠ 0 ∨ 2 ≤ fl ∨ !(zerosAt d 40 24) then no .rsvd .none
    else if fieldAt d 0 8 ≠ x.session.toNat then no .check .none
    else if !(fmtOk qf) ∨ !(fmtOk ofm) ∨ qh < x.heads ∨ 128 < qh ∨ qh % x.heads ≠ 0 ∨ 16 < qh / x.heads ∨ fieldAt d 8 8 % 64 ≠ 0 ∨
        written ≤ first then no .param .none
    else if o.length ≠ 64 + qb then no .align .none
    else if written < first + count then no .range .none
    else if !(s.hasCluster x.tenant) then no .nospace .capacity
    else if 1024 + 8192 ≤ s.kv.attends.length then no .nospace .capacity
    else
      let id := s.kv.nextAttend
      let a : Attend := {
        id := id, req := o.req, op := o.op, sync := o.sync, amount := o.operand1, tenant := x.tenant, session := x.session, layer := layer,
        outAddr := BitVec.ofNat 64 (fieldAt d 8 8), first := first, count := count, qHeads := qh, outFmt := ofm,
        scale := if bitAt fl 0 then BitVec.ofNat 32 (fieldAt d 28 4) else invSqrt x.dim,
        doneSync := BitVec.ofNat 64 (fieldAt d 32 8), query := widenElems qf (qh * x.dim) (d.drop 64),
        waited := decide (1024 ≤ s.kv.attends.length) }
      let a1 := { a with ranges := ceilDiv a.pages (rangePages a.pages) }
      let s1 : State := { s with kv := { s.kv with attends := s.kv.attends ++ [a1], nextAttend := id + 1 } }
      let s2 := s1.openOp o.req o.op
      if x.prefetchNext ∧ layer + 1 < x.layers then
        let n := (s.store x.tenant).partition
        let pages := (List.range a.pages).flatMap (fun k => match x.slotOf (layer + 1) (a.firstPage + k) with
          | some sl => s.slotPages x.tenant sl
          | none => [])
        pages.foldl (fun (t : State) p => (t.askMove n p true (.kv id)).2) s2
      else s2

/-- K or V elements of a row, widened exactly with its scales (R170, R345). -/
def kvRow (x : KvSession) (page : List Byte) (v : Bool) (g row : Nat) : List Word32 :=
  let r := (if v then 16 * x.heads else 0) + g * 16 + row
  let w := kvBits x.fmt
  let els := unpackElems w x.dim (sliceB page (64 + r * x.rowBytes) x.rowBytes)
  let sc := fun (j : Nat) => fieldAt page (64 + 32 * x.heads * x.rowBytes + r * x.rowScales + j) 1
  match elemFmt x.fmt with
  | none => []
  | some f => els.mapIdx (fun i b =>
      let e := sc (i / 32)
      if e = 0xFF then wr32 .nan else wr32 ((f.read b).scale ((e : Int) - 127)))

/-- Levels of the tree over d elements padded to a power of two. -/
def treeLevels (d : Nat) : Nat := Nat.log2 (2 * d - 1)

/-- dot of R345: products in FP32, summed pairwise in index order, D padded with +0 to a power of two. -/
def dot32 (a b : List Word32) : Word32 :=
  let p := List.zipWith fp32Mul a b
  let n := treeLevels p.length
  treeSum n (p ++ List.replicate (2 ^ n - p.length) 0)

def negInf : Word32 := 0xFF800000

/-- One page's part of a head (R345). -/
def attendPage (x : KvSession) (a : Attend) (h : Nat) (page : Nat) (bs : List Byte) (st : HeadPartial) : HeadPartial :=
  let g := h / (a.qHeads / x.heads)
  let q := (a.query.drop (h * x.dim)).take x.dim
  let inSpan := fun (t : Nat) => decide (a.first ≤ 16 * page + t) && decide (16 * page + t < a.first + a.count)
  let u := (List.range 16).map (fun t =>
    if inSpan t then fp32Mul (fp32Mul a.scale (dot32 q (kvRow x bs false g t))) 0x3FB8AA3B else negInf)
  let mp := fp32Max st.m ((treeN fp32Max 4 u).headD negInf)
  let al := if st.m = negInf then 0 else fp32Exp2 (fp32Sub st.m mp)
  let p := (List.range 16).map (fun t => if inSpan t then fp32Exp2 (fp32Sub (u.getD t negInf) mp) else 0)
  let vs := (List.range 16).map (fun t => if inSpan t then kvRow x bs true g t else [])
  let o := (List.range x.dim).map (fun j =>
    fp32Add (fp32Mul (st.o.getD j 0) al) (treeSum 4 ((List.range 16).map (fun t =>
      if inSpan t then fp32Mul (p.getD t 0) ((vs.getD t []).getD j 0) else 0))))
  { m := mp, l := fp32Add (fp32Mul st.l al) (treeSum 4 p), o := o }

/-- A range's partials, head by head, page by page; or the failure that stops it (R345, R347). The number is of slot bytes read. -/
def State.attendRange (s : State) (x : KvSession) (a : Attend) :
    List Nat → List HeadPartial → Except Status (List HeadPartial) × Nat × State
  | [], acc => (.ok acc, 0, s)
  | p :: rest, acc =>
    let r := s.readSlot x a.layer p
    match r.1 with
    | .error st => (.error st, 0, r.2)
    | .ok bs =>
      let q := State.attendRange r.2 x a rest (acc.mapIdx (fun h st => attendPage x a h p bs st))
      (q.1, q.2.1 + 64 + x.pageBytes, q.2.2)

/-- Fold partials in range order (R345). -/
def foldHead (st pr : HeadPartial) : HeadPartial :=
  let mp := fp32Max st.m pr.m
  let a := if st.m = negInf then 0 else fp32Exp2 (fp32Sub st.m mp)
  let b := fp32Exp2 (fp32Sub pr.m mp)
  { m := mp
    l := fp32Add (fp32Mul st.l a) (fp32Mul pr.l b)
    o := List.zipWith (fun x y => fp32Add (fp32Mul x a) (fp32Mul y b)) st.o pr.o }

def emptyHead (d : Nat) : HeadPartial := { m := negInf, l := 0, o := List.replicate d 0 }

/-- Output and log-sum-exp bytes of an attend whose ranges are all in (R345, R346). -/
def attendOutput (d : Nat) (a : Attend) : List Byte :=
  let parts := (List.range a.ranges).filterMap (fun r => Store.read none a.partials r)
  let heads := parts.foldl (fun acc p => List.zipWith foldHead acc p) (List.replicate a.qHeads (emptyHead d))
  match elemFmt a.outFmt with
  | none => []
  | some f =>
    let out := packElems f.width (heads.flatMap (fun h => h.o.map (fun o => (f.convert .rne true (rd32 (fp32Div o h.l))).1)))
    let pad := List.replicate (roundUp out.length 64 - out.length) 0
    let lse := heads.flatMap (fun h => natLe 4 (fp32Mul (fp32Add h.m (fp32Log2 h.l)) 0x3F317218).toNat)
    out ++ pad ++ lse

def State.setAttend (s : State) (a : Attend) : State :=
  { s with kv := { s.kv with attends := s.kv.attends.map (fun x => if x.id = a.id then a else x) } }

/-- An attend stops counting as a request in progress (R344, R347). -/
def State.dropAttend (s : State) (a : Attend) : State :=
  let n := (s.store a.tenant).partition
  (({ s with kv := { s.kv with attends := s.kv.attends.filter (fun x => decide (x.id ≠ a.id)) } } : State).cancelCause n
    (.kv a.id)).touchSession a.tenant a.session

/-- An attend fails after acceptance (R347); it leaves when the last of its ranges has stopped. -/
def State.failAttend (s : State) (a : Attend) (st : Status) : State :=
  if a.failed.isSome then s
  else (s.setAttend { a with failed := some st }).respond a.req a.op (served st 0 (if st = .tier then .tier else .none)) s.attendLoad

/-- Every range is in or stopped: an attend that failed leaves. -/
def State.attendDrain (s : State) (id : Nat) : State :=
  match s.kv.attends.find? (fun a => decide (a.id = id)) with
  | none => s
  | some a =>
    if a.failed.isSome && (List.range a.ranges).all (fun r => (Store.read none a.partials r).isSome || a.stopped.contains r) then
      s.dropAttend a
    else s

/-! ### Serving, holding and releasing requests -/

/-- A KV request by its number. -/
def State.kvServe (s : State) (kind : Nat) (o : Operation) (destOk : Bool := true) : State :=
  if kind = 1 then s.kvOpenDo o
  else if kind = 2 then s.kvLookupDo o
  else if kind = 3 then s.kvOn o (fun _ => s.kvYes o 0)
  else if kind = 4 then s.kvOn o (fun x =>
    if 86400000 < o.operand2.toNat then kvNo s o .param else (s.setSession { x with ttl := o.operand2.toNat }).kvYes o 0)
  else if kind = 5 then s.kvRetainDo o
  else if kind = 6 then s.kvOn o (fun x => (s.setSession { x with retain := false }).kvYes o 0)
  else if kind = 7 then s.kvPinDo o
  else if kind = 8 then s.kvUnpinDo o
  else if kind = 9 then s.kvTruncateDo o
  else if kind = 0xA then s.kvDeleteDo o
  else if kind = 0xB then s.kvMoveDo o destOk
  else if kind = kvToken then s.kvTokenDo o
  else if kind = kvPull then s.kvPullDo o
  else s.kvAttendDo o

/-- The session a request names. -/
def State.kvNamed (s : State) (kind : Nat) (o : Operation) : Option KvSession :=
  if kind < 0x10 then s.session o.req.issuer.tenant o.operand1
  else s.sessionOf o.req.issuer.tenant (bitsOf o.req.target.toNat 41 20)

/-- New requests of the session wait: its move switches (R348), or a truncate waits for attends before it (R340). -/
def KvSession.holds (x : KvSession) : Bool :=
  !x.truncates.isEmpty || match x.move with
    | some m => m.switching
    | none => false

/-- A request is served, or held behind a switch or a truncate of its session. -/
def State.kvRun (s : State) (kind : Nat) (o : Operation) (destOk : Bool := true) : State :=
  match s.kvNamed kind o with
  | some x =>
    if x.holds && x.serving && decide (kind ≠ 1) && decide (kind ≠ 2) then
      (s.setSession { x with held := x.held ++ [(kind, o)] }).openOp o.req o.op
    else s.kvServe kind o destOk
  | none => s.kvServe kind o destOk

/-- Held requests are served again in order, once nothing holds them. -/
def State.kvRelease (s : State) (t : Nat) (name : Word64) : State :=
  match s.session t name with
  | none => s
  | some x =>
    if x.holds then s
    else x.held.foldl (fun (u : State) h => u.kvRun h.1 h.2) (s.setSession { x with held := [] })

/-- A request to REGION 0x6 leaves its contract for the service, with the DEFER it has (R281, R283). -/
def State.kvPerform (s : State) (r : PoolReq) : State :=
  match r.kv with
  | some (kind, destOk) => s.kvRun kind { r.oper with req := { r.oper.req with defer := r.defer } } destOk
  | none => s

/-- A request to REGION 0x6 joins the FIFO of its source NODE's contract (R281). -/
def State.kvEnter (s : State) (kind : Nat) (o : Operation) (destOk : Bool := true) : State :=
  s.enqueueAt State.kvPerform o kvChannel (some (kind, destOk)) o.req.defer .hub

/-- A KV_CTL command (R331): its TARGET, its reserved bits and its store. -/
def State.kvCtl (s : State) (o : Operation) (kind : Nat) (useOperand2 : Bool) (destOk : Bool := true) : State :=
  s.unitOp o 0xF0 (fun t =>
    let off := addrOffset o.req.target
    if 7 ≤ addrRegion o.req.target then kvNo t o .rsvd
    else if addrRegion o.req.target ≠ 6 then kvNo t o .param
    else if bitsOf off 43 42 ≠ 3 then kvNo t o .param
    else if bitsOf off 41 0 ≠ 0 then kvNo t o .rsvd
    else if !useOperand2 && decide (o.operand2 ≠ 0) then kvNo t o .rsvd
    else if !(t.store o.req.issuer.tenant).enable then kvNo t o .access
    else t.kvEnter kind o destOk)

def execKvOpen (o : Operation) (s : State) : Result := .next (s.kvCtl o 1 false)
def execKvLookup (o : Operation) (s : State) : Result := .next (s.kvCtl o 2 false)
def execKvTouch (o : Operation) (s : State) : Result := .next (s.kvCtl o 3 false)
def execKvSetTtl (o : Operation) (s : State) : Result := .next (s.kvCtl o 4 true)
def execKvRetain (o : Operation) (s : State) : Result := .next (s.kvCtl o 5 false)
def execKvRelease (o : Operation) (s : State) : Result := .next (s.kvCtl o 6 false)
def execKvPinNear (o : Operation) (s : State) : Result := .next (s.kvCtl o 7 false)
def execKvUnpinNear (o : Operation) (s : State) : Result := .next (s.kvCtl o 8 false)
def execKvTruncate (o : Operation) (s : State) : Result := .next (s.kvCtl o 9 true)
def execKvDelete (o : Operation) (s : State) : Result := .next (s.kvCtl o 0xA false)
def execKvMove (o : Operation) (destOk : Bool) (s : State) : Result := .next (s.kvCtl o 0xB true destOk)

/-- A PUT, GET or PUT_NOTIFY to REGION 0x6 by its space (R337). -/
def State.kvRegion (s : State) (o : Operation) : State :=
  let space := bitsOf (addrOffset o.req.target) 43 42
  let no := fun (st : Status) => s.respond o.req o.op (refusal st)
  if (o.op = 1 ∨ o.op = 6) ∧ space = 0 then s.kvEnter kvToken o
  else if o.op = 2 ∧ space = 1 then s.kvEnter kvPull o
  else if (o.op = 1 ∨ o.op = 6) ∧ space = 2 then s.kvEnter kvAttendK o
  else no .param

/-- One of the three accesses to REGION 0x6 by name: another region or space is not its address. -/
def State.kvAccess (s : State) (o : Operation) (posted : Bool) (space kind : Nat) : State :=
  s.whenRunning (fun t => t.front o posted 0xFF false (fun u =>
    if 7 ≤ addrRegion o.req.target then u.respond o.req o.op (refusal .rsvd)
    else if addrRegion o.req.target ≠ 6 ∨ bitsOf (addrOffset o.req.target) 43 42 ≠ space then u.respond o.req o.op (refusal .param)
    else u.kvEnter kind o))

def execKvTokenWrite (o : Operation) (s : State) : Result := .next (s.kvAccess { o with op := 1 } true 0 kvToken)
def execKvPagePull (o : Operation) (s : State) : Result := .next (s.kvAccess { o with op := 2 } false 1 kvPull)
def execKvAttend (o : Operation) (s : State) : Result := .next (s.kvAccess { o with op := 1 } true 2 kvAttendK)

/-- A TRUNCATE that waited takes effect (R340). -/
def execTruncateEffect (tenant : Nat) (session : Word64) (s : State) : Result :=
  .next (s.begin.whenRunning (fun t =>
    match t.session tenant session with
    | none => t
    | some x => match x.truncates with
      | [] => t
      | p :: rest =>
        if p.waits.any (fun id => t.kv.attends.any (fun a => decide (a.id = id))) then t
        else
          let t1 := (t.setSession { x with truncates := rest, lastAccess := t.ftc }).truncateDo tenant session p.layer p.count
          (t1.respond p.req 0x30 (served)).kvRelease tenant session))

/-- The requests of a DELETING session have ended (R349). -/
def execKvDeleteComplete (tenant : Nat) (session : Word64) (s : State) : Result :=
  .next (s.begin.whenRunning (fun t =>
    match t.session tenant session with
    | none => t
    | some x =>
      if x.state ≠ .deleting ∨ !(t.attendsOf x).isEmpty ∨ x.move.isSome then t
      else
        let t1 := t.endSession x .deleted
        match x.deleting with
        | some r => t1.respond r 0x30 (served)
        | none => t1))

/-- A move ends without its session having moved: back to OPEN, and held requests are served here (R348). A session deleted meanwhile stays
DELETING. -/
def State.moveFails (s : State) (x : KvSession) (m : SessionMove) (st : Status) : State :=
  ((s.setSession { x with
    state := if x.state = .deleting then .deleting else .opened, move := none, lastAccess := s.ftc }).respond m.req 0x30
      (served st)).kvRelease x.tenant x.session

/-- The copy phase ends (R348): the switch begins, or the move fails. -/
def execKvMoveCopyDone (tenant : Nat) (session : Word64) (st : Status) (destBase : Nat) (s : State) : Result :=
  .next (s.begin.whenRunning (fun t =>
    match t.session tenant session with
    | none => t
    | some x => match x.move with
      | none => t
      | some m =>
        if m.switching then t
        else if st ≠ .ok then t.moveFails x m st
        else t.setSession { x with move := some { m with switching := true, destBase := some destBase, since := t.now } }))

/-- The switch ends (R348): requests in progress have finished and marked pages are copied. A delete accepted meanwhile is still to end. -/
def execKvMoveSwitchDone (tenant : Nat) (session : Word64) (st : Status) (s : State) : Result :=
  .next (s.begin.whenRunning (fun t =>
    match t.session tenant session with
    | none => t
    | some x => match x.move with
      | none => t
      | some m =>
        if !m.switching || !(t.attendsOf x).isEmpty || !x.truncates.isEmpty then t
        else if st ≠ .ok then t.moveFails x { m with switching := false } st
        else
          let base := m.destBase.getD 0
          let t1 := if x.state = .deleting then t.setSession { x with move := none, held := [] }
            else t.endSession { x with movedNode := m.dest, movedBase := base, lastAccess := t.ftc } .moved
          let t2 := (t1.bump O.kvMoves).respond m.req 0x30 (served .ok (BitVec.ofNat 64 base))
          x.held.foldl (fun (u : State) h => u.respond h.2.req h.2.op (refusal (.kv 3))) t2))

/-- A queued attend starts, in order of acceptance, while fewer than 1,024 run (R344). -/
def execAttendStart (id : Nat) (s : State) : Result :=
  .next (s.begin.whenRunning (fun t =>
    match t.kv.attends.find? (fun a => !a.running) with
    | none => t
    | some a => if a.id = id ∧ t.attendRunning < 1024 then t.setAttend { a with running := true } else t))

/-- A range task ends: with its partial, or with the failure of a page, of a header or of its cluster (R345, R347). -/
def execAttendRangeDone (id range : Nat) (clusterReset : Bool) (s : State) : Result :=
  .next (s.begin.whenRunning (fun t =>
    match t.kv.attends.find? (fun a => decide (a.id = id)) with
    | none => t
    | some a =>
      if !a.running ∨ a.ranges ≤ range ∨ (Store.read none a.partials range).isSome ∨ a.stopped.contains range then t
      else match t.session a.tenant a.session with
        | none => t.dropAttend a
        | some x =>
          let stop := fun (u : State) (st : Status) =>
            ((u.setAttend { a with stopped := a.stopped ++ [range] }).failAttend { a with stopped := a.stopped ++ [range] } st).attendDrain id
          if a.failed.isSome then (t.setAttend { a with stopped := a.stopped ++ [range] }).attendDrain id
          else if clusterReset then stop t .unitReset
          else
            let rp := rangePages a.pages
            let n := min rp (a.pages - range * rp)
            let r := t.attendRange x a ((List.range n).map (fun k => a.firstPage + range * rp + k))
              (List.replicate a.qHeads (emptyHead x.dim))
            let t1 := (r.2.2.bumpN O.kvAttendBytes r.2.1).meter a.tenant 0x0D r.2.1
            match r.1 with
            | .error st => stop t1 st
            | .ok hp =>
              let b := { a with partials := Store.write none a.partials range (some hp) }
              if (List.range b.ranges).all (fun k => (Store.read none b.partials k).isSome) then
                let out := attendOutput x.dim b
                let t2 := t1.setAttend { b with output := some out }
                if t2.isHere (addrNode a.outAddr) then t2
                else t2.emit (.operation {
                  op := 1, req := { issuer := a.req.issuer, tc := a.req.tc, target := a.outAddr }, length := out.length, data := out })
              else t1.setAttend b))

/-- The output is visible, or its put has failed (R346, R347): written here when OUT_ADDR is on this node. -/
def execAttendOutputVisible (id : Nat) (r : Response) (s : State) : Result :=
  .next (s.begin.whenRunning (fun t =>
    match t.kv.attends.find? (fun a => decide (a.id = id)) with
    | none => t
    | some a => match a.output, a.failed with
      | some out, none =>
        let w : Status × State :=
          if r.status ≠ .ok then (r.status, t)
          else t.writeLocal a.req.issuer a.req.tc a.outAddr out
        let load := w.2.attendLoad
        if w.1 ≠ .ok then
          (w.2.respond a.req a.op (served w.1 0 (if w.1 = .tier then .tier else .none)) load).dropAttend a
        else
          let t1 := (w.2.bump O.kvAttends).dropAttend a
          let t2 := t1.endAccess { op := a.op, req := a.req, sync := a.sync, operand1 := a.amount }
            (deferredBy (if a.waited then .capacity else r.reason) (deferredBy a.req.defer (served))) .none load
          (t2.notifyAddr a.doneSync a.req.tc { a.req.issuer with tenant := a.tenant }).2
      | _, _ => t))

/-- The expiry condition of R333. -/
def State.expires (s : State) (x : KvSession) : Bool :=
  decide (x.state = .opened) && decide (x.ttl ≠ 0) && decide (msUnits x.ttl ≤ s.ftc - x.lastAccess) && !x.retain &&
    (s.attendsOf x).isEmpty && x.truncates.isEmpty

/-- Every 1 ms, sessions whose TTL has run out end (R333). -/
def execSessionExpiryCheck (s : State) : Result :=
  .next (s.begin.whenRunning (fun t =>
    (t.kv.sessions.filter t.expires).foldl (fun (u : State) x => (u.endSession x .expired).bump O.kvExpired) t))

/-- A run of freed handles may be reissued (R328). -/
def execHandleQuarantineExpiry (base : Nat) (s : State) : Result :=
  .next (s.begin.whenRunning (fun t =>
    match t.kv.quarantine.find? (fun q => decide (q.base = base)) with
    | none => t
    | some q =>
      let t1 := t.elapse q.due
      { t1 with kv := { t1.kv with quarantine := t1.kv.quarantine.erase q } }))

/-! ### Enable and disable of a store (R326, R327, R350) -/

/-- The refusal of an enable (R326). -/
def State.storeCheck (s : State) (t : Nat) (x : KvStore) : Option Status :=
  let p := s.part x.partition
  if p.state ≠ .bound ∨ p.tenant ≠ t ∨ x.slotUnits < 4 ∨ 512 < x.slotUnits ∨ x.metaPages < 16 ∨ 65535 < x.metaPages ∨
      x.slotsIn p.size = 0 then some .param
  else if p.staticBy.isSome ∨ s.kv.stores.any (fun e => decide (e.1 ≠ t) && e.2.enable && decide (e.2.partition = x.partition)) then
    some .busy
  else none

/-- The store stops: its sessions end as DELETED, and requests in progress with E_KV_DELETED (R327). -/
def State.storeOff (s : State) (t : Nat) : State :=
  let mine := s.kv.attends.filter (fun a => decide (a.tenant = t))
  let s1 := mine.foldl (fun (u : State) a =>
    (if a.failed.isSome then u else u.respond a.req a.op (refusal (.kv 2)) u.attendLoad).dropAttend a) s
  let s2 := (s1.kv.sessions.filter (fun x => decide (x.tenant = t) && x.live)).foldl (fun (u : State) x =>
    let u1 := u.endSession x .deleted
    let u2 := x.truncates.foldl (fun (v : State) p => v.respond p.req 0x30 (refusal (.kv 2))) u1
    let u3 := x.held.foldl (fun (v : State) h => v.respond h.2.req h.2.op (refusal (.kv 2))) u2
    let u4 := match x.move with | some m => u3.respond m.req 0x30 (refusal (.kv 2)) | none => u3
    match x.deleting with | some r => u4.respond r 0x30 (served) | none => u4) s1
  s2.setStore t { s2.store t with enable := false }

/-- An enable through KV_STORE_CTL or store_enable (R326, R350). -/
def State.storeEnable (s : State) (a : Access) (t : Nat) (partition : Option Nat) : State :=
  let x := s.store t
  let y := { x with partition := partition.getD x.partition }
  let addr := R.kvStoreCtl t
  if x.enable then
    s.mgmtWrite a addr (if y.partition = x.partition then none else some (refusal .busy)) (fun u => u)
  else
    let c := s.storeCheck t y
    let s1 := if accessMgmt a then s.setStore t { x with lastStatus := c.getD .ok } else s
    s1.mgmtWrite a addr (c.map (fun st => refusal st)) (fun u => u.setStore t { y with enable := true, lastStatus := .ok, used := [] })

def State.storeDisable (s : State) (a : Access) (t : Nat) : State :=
  s.mgmtWrite a (R.kvStoreCtl t) none (fun u =>
    let v := if (u.store t).enable then u.storeOff t else u
    v.setStore t { v.store t with lastStatus := .ok })

def execKvStoreEnable (a : Access) (t : Nat) (partition : Option Nat) (s : State) : Result :=
  .next (s.begin.whenRunning (fun u => u.storeEnable a t partition))

def execKvStoreDisable (a : Access) (t : Nat) (s : State) : Result :=
  .next (s.begin.whenRunning (fun u => u.storeDisable a t))

end Sys2Proof.Machine
end

