-- ==== Sys2Proof/Machine/Meadow.lean ====
section
/-! DEFINITION. Meadow vector search (chapter 12): indexes, queries, the walk and the scan, re-ranking, and changes of an index. -/

namespace Sys2Proof.Machine

/-! ### Indexes and shards (R399-R402) -/

def State.vindex (s : State) (n : Nat) : VIndex := Store.read ({} : VIndex) s.meadow.indexes n
def State.setVindex (s : State) (n : Nat) (x : VIndex) : State :=
  { s with meadow := { s.meadow with indexes := Store.write ({} : VIndex) s.meadow.indexes n x } }

def vsIndexNo (a : Word64) : Nat := bitsOf a.toNat 43 36
/-- The form of an index address (R399). -/
def vsAddrOk (a : Word64) : Bool := decide (addrRegion a = 0) && decide (bitsOf a.toNat 35 0 = 0)

def VIndex.shard (x : VIndex) (h : Nat) : Shard := x.shards.getD h {}
def VIndex.setShard (x : VIndex) (h : Nat) (y : Shard) : VIndex := { x with shards := x.shards.set h y }
/-- FIRST of a shard (R402). -/
def VIndex.first (x : VIndex) (h : Nat) : Nat := ((x.shards.take h).map (·.capacity)).sum
/-- Shard and local item of a global item. -/
def VIndex.locate (x : VIndex) (item : Nat) : Option (Nat × Nat) :=
  (List.range x.shards.length).findSome? (fun h =>
    if x.first h ≤ item ∧ item < x.first h + (x.shard h).capacity then some (h, item - x.first h) else none)

/-- The record's fields of an index (R400). -/
def vsShardRec (b : List Byte) : Shard :=
  { die := fieldAt b 0 1, partition := fieldAt b 2 2, itemCount := fieldAt b 4 4, capacity := fieldAt b 8 4, entry := fieldAt b 12 4,
    sketchOff := fieldAt b 16 8, graphOff := fieldAt b 24 8, vectorOff := fieldAt b 32 8, auxOff := fieldAt b 40 8 }

def vsIndexRec (b : List Byte) (tenant : Nat) : VIndex :=
  let n := min 4 (fieldAt b 7 1)
  { tenant := tenant, sketchWords := fieldAt b 0 1, vecFmt := fieldAt b 1 1, metric := fieldAt b 2 1,
    sideList := decide (fieldAt b 3 1 = 1), dim := fieldAt b 4 2, degree := fieldAt b 6 1, pinNear := bitAt (fieldAt b 8 1) 0,
    sideCapacity := fieldAt b 12 4, shards := (List.range n).map (fun k => vsShardRec (sliceB b (64 + 48 * k) 48)) }

/-- Reserved bytes of an index record are zero (R11, R400). -/
def vsRecReserved (b : List Byte) : Bool :=
  let n := min 4 (fieldAt b 7 1)
  decide (fieldAt b 8 1 < 2) && zerosAt b 9 3 && zerosAt b 16 48 &&
    (List.range n).all (fun k => zerosAt b (64 + 48 * k + 1) 1) && zerosAt b (64 + 48 * n) (192 - 48 * n)

/-- Ranges of fields, the shape of each shard, and no two structures that overlap (R400-R403). -/
def State.vsRecOk (s : State) (b : List Byte) (x : VIndex) : Bool :=
  let rs := x.ranges
  decide (1 ≤ x.sketchWords) && decide (x.sketchWords ≤ 4) && decide (1 ≤ x.vecFmt) && decide (x.vecFmt ≤ 5) && decide (x.metric ≤ 2) &&
  decide (fieldAt b 3 1 ≤ 1) && decide (16 ≤ x.dim) && decide (x.dim ≤ 4096) && decide (x.dim % 16 = 0) && decide (4 ≤ x.degree) &&
  decide (x.degree ≤ 64) && decide (1 ≤ fieldAt b 7 1) && decide (fieldAt b 7 1 ≤ 4) &&
  (if x.sideList then decide (1 ≤ x.sideCapacity) && decide (x.sideCapacity ≤ 65536) else decide (x.sideCapacity = 0)) &&
  x.shards.all (fun h => decide (h.die ≤ 3) && decide (h.partition ≤ 511) && decide (1 ≤ h.itemCount) &&
    decide (h.itemCount ≤ h.capacity) && decide (h.capacity ≤ 2 ^ 30) && decide (h.entry < h.itemCount) &&
    decide (h.sketchOff % 64 = 0) && decide (h.graphOff % 64 = 0) && decide (h.vectorOff % 64 = 0) && decide (h.auxOff % 64 = 0)) &&
  decide ((x.shards.map (·.capacity)).sum ≤ 2 ^ 32 - 1) &&
  rs.all (fun r => decide (r.2.1 + r.2.2 ≤ (s.part r.1).size * 65536)) &&
  (List.range rs.length).all (fun i => (List.range i).all (fun j =>
    let a := rs.getD i (0, 0, 0)
    let c := rs.getD j (0, 0, 0)
    decide (a.1 ≠ c.1) || !(overlaps a.2.1 a.2.2 c.2.1 c.2.2)))

/-- Pages of every shard's sketches, graph, tombstones and side list (R403 step 5). -/
def VIndex.pinPages (x : VIndex) : List (Nat × Nat) :=
  (x.shards.flatMap (fun h => [(h.partition, h.sketchOff, h.capacity * x.sb), (h.partition, h.graphOff, h.capacity * x.gs),
      (h.partition, h.auxOff, h.tb + x.sideCapacity * x.sr)])).flatMap (fun r =>
    if r.2.2 = 0 then [] else
      (List.range ((r.2.1 + r.2.2 - 1) / 65536 + 1 - r.2.1 / 65536)).map (fun k => (r.1, r.2.1 / 65536 + k))) |>.eraseDups

/-- The bound of R314 on the pages PIN_NEAR would pin. -/
def State.vsPinFits (s : State) (pages : List (Nat × Nat)) : Bool :=
  ((pages.map (·.1)).eraseDups).all (fun n =>
    let p := s.part n
    let add := (pages.filter (fun e => decide (e.1 = n) && (match s.page n e.2 with | some r => !r.pinned | none => false))).length
    !p.twoTier || decide (s.pinnedPages n + add + p.mapPages + 8 ≤ p.nearPages))

/-- The refusal of an ENABLE (R403). -/
def State.vsEnableCheck (s : State) (o : Operation) (n : Nat) : Option Response :=
  let b := sliceB o.data 0 256
  let x := vsIndexRec b o.req.issuer.tenant
  let bound := fun (h : Shard) => decide ((s.part h.partition).state = .bound) && decide ((s.part h.partition).tenant = o.req.issuer.tenant)
  let rs := x.ranges
  if (s.vindex n).state ≠ .disabled then some (refusal .busy)
  else if !(vsRecReserved b) then some (refusal .rsvd)
  else if !(s.vsRecOk b x) then some (refusal .param)
  else if x.shards.any (fun h => !(s.present (.meadowArray h.die))) then some (refusal .rsvd)
  else if x.shards.any (fun h => !(bound h)) then some (refusal .access)
  else if x.shards.any (fun h => (s.part h.partition).staticBy.isSome || s.kvPartition h.partition) ||
      rs.any (fun r => hits s.windowRanges r.1 r.2.1 r.2.2 || hits s.streamRanges r.1 r.2.1 r.2.2 ||
        hits s.indexRanges r.1 r.2.1 r.2.2) then some (refusal .busy)
  else if x.pinNear && !(s.vsPinFits x.pinPages) then some (refusal .nospace .capacity)
  else none

def vsNo (s : State) (o : Operation) (r : Response) : State := s.respond o.req o.op r

/-- What every VS_CTL passes: its address form, LENGTH and OPERAND1 (R399). -/
def State.vsCtl (s : State) (o : Operation) (item : Bool) (go : State → Nat → VIndex → State) : State :=
  s.homeOp o false 0xF0 (fun t =>
    let n := vsIndexNo o.req.target
    if !(vsAddrOk o.req.target) then vsNo t o (refusal .param)
    else if !item && decide (o.operand1 ≠ 0) then vsNo t o (refusal .rsvd)
    else go t n (t.vindex n))

def State.setVsStatus (s : State) (n : Nat) (st : Status) : State := s.setVindex n { s.vindex n with lastStatus := st }

/-- ENABLE (R403). -/
def execVsEnable (o : Operation) (s : State) : Result :=
  .next (s.vsCtl o false (fun t n _ =>
    if o.length ≠ 256 then vsNo t o (refusal .align)
    else t.atLocal o 256 (fun t o => match t.vsEnableCheck o n with
      | some r => vsNo (t.setVsStatus n r.status) o r
      | none =>
        let x := vsIndexRec (sliceB o.data 0 256) o.req.issuer.tenant
        let pages := if x.pinNear then x.pinPages else []
        let t1 := pages.foldl (fun (u : State) e =>
          match u.page e.1 e.2 with
          | none => u
          | some r =>
            let u1 := u.setPage e.1 e.2 (some { r with pinned := true, released := none })
            if (u.part e.1).twoTier then (u1.askMove e.1 e.2 true (.meadow n)).2 else u1) t
        vsNo (t1.setVindex n { x with state := .enabled, pins := pages }) o (served))))

/-! ### Reads of an index (R408-R411) -/

/-- The block's own read of a structure, for the index's tenant. -/
def State.vsRead (s : State) (x : VIndex) (part off len : Nat) : Except Status (List Byte) :=
  s.serviceRead ((s.part part).base + off) len x.tenant .meadow

/-- What a shard query has read and counted on the way: ranges of partitions, and counts. -/
structure VsWork where
  reads : List (Nat × Nat × Nat) := []
  stats : ShardStats := {}
  deriving DecidableEq, Repr, Inhabited

/-- A key: distance, global item, and the side record that found it (R408). -/
abbrev VsKey := Nat × Nat × Option Nat

def vsLe (a b : VsKey) : Bool := decide (a.1 < b.1) || (decide (a.1 = b.1) && decide (a.2.1 ≤ b.2.1))

/-- Insert a key in rising order. -/
def vsInsertKey (k : VsKey) : List VsKey → List VsKey
  | [] => [k]
  | y :: t => if vsLe y k then y :: vsInsertKey k t else k :: y :: t

/-- Keep the ef smallest. -/
def vsTrim (ef : Nat) (l : List VsKey) : List VsKey := l.take ef

/-- Differing bits of two sketches. -/
def hamming (a b : List Byte) : Nat :=
  (List.zipWith (fun (x y : Byte) => ((List.range 8).filter (fun k => (x ^^^ y).getLsbD k)).length) a b).sum

/-- A shard query's surroundings. -/
structure VsCtx where
  q     : VQuery
  x     : VIndex
  h     : Nat
  count : Nat
  side  : Nat

/-- A read by a shard query. -/
def State.vsGet (s : State) (c : VsCtx) (w : VsWork) (off len : Nat) : Except Status (List Byte × VsWork) :=
  let p := (c.x.shard c.h).partition
  match s.vsRead c.x p off len with
  | .error st => .error st
  | .ok bs => .ok (bs, { w with reads := w.reads ++ [(p, off, len)] })

/-- allowed (R408). -/
def State.vsAllowed (s : State) (c : VsCtx) (w : VsWork) (item : Nat) : Except Status (Bool × VsWork) :=
  if c.q.filterAddr = 0 then .ok (true, w)
  else if c.q.filterBits ≤ item then .ok (c.q.invert, w)
  else match s.serviceRead (addrOffset c.q.filterAddr + item / 8) 1 c.x.tenant .get with
    | .error st => .error st
    | .ok bs =>
      let at_ := addrOffset c.q.filterAddr + item / 8
      let r := match s.partAt at_ with | some (n, p) => [(n, at_ - p.base, 1)] | none => []
      .ok (bitAt (leNat bs) (item % 8) != c.q.invert, { w with reads := w.reads ++ r })

/-- The tombstone bit of a local item. -/
def State.vsTomb (s : State) (c : VsCtx) (w : VsWork) (j : Nat) : Except Status (Bool × VsWork) :=
  match s.vsGet c w ((c.x.shard c.h).auxOff + j / 8) 1 with
  | .error st => .error st
  | .ok (bs, w1) => .ok (bitAt (leNat bs) (j % 8), w1)

/-- A main item is eligible (R408). -/
def State.vsEligible (s : State) (c : VsCtx) (w : VsWork) (j : Nat) : Except Status (Bool × VsWork) :=
  match s.vsTomb c w j with
  | .error st => .error st
  | .ok (true, w1) => .ok (false, w1)
  | .ok (false, w1) => s.vsAllowed c w1 (c.x.first c.h + j)

/-- ham of a main item: one sketch compared. -/
def State.vsHam (s : State) (c : VsCtx) (w : VsWork) (j : Nat) : Except Status (Nat × VsWork) :=
  match s.vsGet c w ((c.x.shard c.h).sketchOff + j * c.x.sb) c.x.sb with
  | .error st => .error st
  | .ok (bs, w1) => .ok (hamming c.q.sketch bs, { w1 with stats := { w1.stats with sketches := w1.stats.sketches + 1 } })

/-- Offset of a side record. -/
def VIndex.sideOff (x : VIndex) (h r : Nat) : Nat := (x.shard h).auxOff + (x.shard h).tb + r * x.sr

/-- The scan of the side list (R408). -/
def State.vsSide (s : State) (c : VsCtx) : List Nat → List VsKey → VsWork → Except Status (List VsKey × VsWork)
  | [], best, w => .ok (best, w)
  | r :: rest, best, w =>
    match s.vsGet c w (c.x.sideOff c.h r) 64 with
    | .error st => .error st
    | .ok (hd, w1) =>
      if !(bitAt (fieldAt hd 4 1) 0) then State.vsSide s c rest best w1
      else match s.vsAllowed c w1 (fieldAt hd 0 4) with
        | .error st => .error st
        | .ok (false, w2) => State.vsSide s c rest best w2
        | .ok (true, w2) => match s.vsGet c w2 (c.x.sideOff c.h r + 64) c.x.sb with
          | .error st => .error st
          | .ok (bs, w3) =>
            let w4 : VsWork := { w3 with stats := { w3.stats with sketches := w3.stats.sketches + 1 } }
            State.vsSide s c rest (vsTrim c.q.ef (vsInsertKey (hamming c.q.sketch bs, fieldAt hd 0 4, some r) best)) w4

/-- What the walk carries (R408). -/
structure VsWalk where
  best    : List VsKey
  cand    : List VsKey
  visited : List Nat
  work    : VsWork
  /-- nodes whose lists were read ahead and not expanded (R409) -/
  ahead   : List Nat := []

/-- The neighbours of an expanded node, in list order (R408). -/
def State.vsNeighbours (s : State) (c : VsCtx) : List Nat → VsWalk → Except Status VsWalk
  | [], v => .ok v
  | j :: rest, v =>
    if j = 0xFFFFFFFF ∨ v.visited.contains j then State.vsNeighbours s c rest v
    else if c.count ≤ j then
      State.vsNeighbours s c rest { v with work := { v.work with stats := { v.work.stats with badEdges := v.work.stats.badEdges + 1 } } }
    else if 65536 ≤ v.visited.length then
      State.vsNeighbours s c rest { v with work := { v.work with stats := { v.work.stats with visitedFull := true } } }
    else match s.vsHam c v.work j with
      | .error st => .error st
      | .ok (d, w1) =>
        let item := c.x.first c.h + j
        let v1 : VsWalk := { v with visited := insertNat j v.visited, work := w1 }
        let worst := v.best.getLast?
        let enters := decide (v.best.length < c.q.ef) || (match worst with
          | some m => decide (d < m.1) || (decide (d = m.1) && decide (item < m.2.1))
          | none => false)
        if !enters then State.vsNeighbours s c rest v1
        else
          let cand := (vsInsertKey (d, item, none) v.cand).take (4 * c.q.ef)
          match s.vsEligible c w1 j with
          | .error st => .error st
          | .ok (e, w2) =>
            State.vsNeighbours s c rest { v1 with
              cand := cand
              best := if e then vsTrim c.q.ef (vsInsertKey (d, item, none) v.best) else v.best
              work := w2 }

/-- The walk (R408), with the lists of the `prefetch` smallest candidates read ahead (R409). -/
def State.vsWalk (s : State) (c : VsCtx) : Nat → VsWalk → Except Status VsWalk
  | 0, v => .ok v
  | fuel + 1, v =>
    let ahead := (v.cand.take c.q.prefetch).foldl (fun l k => insertNat k.2.1 l) v.ahead
    match v.cand with
    | [] => .ok v
    | k :: cand =>
      let worse := decide (v.best.length = c.q.ef) && (match v.best.getLast? with
        | some m => decide (m.1 < k.1) || (decide (m.1 = k.1) && decide (m.2.1 < k.2.1))
        | none => false)
      if worse then .ok { v with cand := cand, ahead := ahead }
      else if c.q.maxHops ≤ v.work.stats.hops then
        .ok { v with cand := cand, ahead := ahead, work := { v.work with stats := { v.work.stats with hopsOut := true } } }
      else
        let w : VsWork := { v.work with stats := { v.work.stats with hops := v.work.stats.hops + 1 } }
        let j := k.2.1 - c.x.first c.h
        match s.vsGet c w ((c.x.shard c.h).graphOff + j * c.x.gs) c.x.gs with
        | .error st => .error st
        | .ok (bs, w1) =>
          let ns := (List.range c.x.degree).map (fun i => fieldAt bs (4 * i) 4)
          match s.vsNeighbours c ns { v with cand := cand, work := w1, ahead := ahead.filter (fun a => decide (a ≠ k.2.1)) } with
          | .error st => .error st
          | .ok v1 => State.vsWalk s c fuel v1

/-- GRAPH: the entry, then the walk. -/
def State.vsGraph (s : State) (c : VsCtx) (best : List VsKey) (w : VsWork) : Except Status (List VsKey × VsWork) :=
  let e := (c.x.shard c.h).entry
  match s.vsHam c w e with
  | .error st => .error st
  | .ok (d, w1) => match s.vsEligible c w1 e with
    | .error st => .error st
    | .ok (el, w2) =>
      let key : VsKey := (d, c.x.first c.h + e, none)
      let b := if el then vsTrim c.q.ef (vsInsertKey key best) else best
      match s.vsWalk c 65537 { best := b, cand := [key], visited := [e], work := w2 } with
      | .error st => .error st
      | .ok v => .ok (v.best, { v.work with stats := { v.work.stats with unused := v.ahead.length } })

/-- SCAN: every eligible item below the fixed count (R410). -/
def State.vsScan (s : State) (c : VsCtx) : List Nat → List VsKey → VsWork → Except Status (List VsKey × VsWork)
  | [], best, w => .ok (best, w)
  | j :: rest, best, w =>
    match s.vsEligible c w j with
    | .error st => .error st
    | .ok (false, w1) => State.vsScan s c rest best w1
    | .ok (true, w1) => match s.vsHam c w1 j with
      | .error st => .error st
      | .ok (d, w2) => State.vsScan s c rest (vsTrim c.q.ef (vsInsertKey (d, c.x.first c.h + j, none) best)) w2

/-! ### Distances (R411) -/

/-- F32 distances in order: a NaN after every number, then by item. -/
def distLe (a b : Word32 × Nat) : Bool :=
  let x := rd32 a.1
  let y := rd32 b.1
  if x.isNan then y.isNan && decide (a.2 ≤ b.2)
  else if y.isNan then true
  else x.lt y || (x.eq y && decide (a.2 ≤ b.2))

def distInsert (k : Word32 × Nat) : List (Word32 × Nat) → List (Word32 × Nat)
  | [] => [k]
  | y :: t => if distLe y k then y :: distInsert k t else k :: y :: t

/-- The tree sum of a list padded with +0 (R345, R411). -/
def treeSum32 (p : List Word32) : Word32 :=
  let n := treeLevels p.length
  treeSum n (p ++ List.replicate (2 ^ n - p.length) 0)

/-- The exact distance (R411). -/
def vsDistance (metric : Nat) (q x : List Word32) : Word32 :=
  if metric = 0 then wr32 (rd32 (dot32 q x)).neg
  else if metric = 1 then
    let nq := dot32 q q
    let nx := dot32 x x
    if (rd32 nq).eq (rd32 0) || (rd32 nx).eq (rd32 0) then 0x3F800000
    else fp32Sub 0x3F800000 (fp32Mul (fp32Mul (dot32 q x) (fp32Rsqrt nq)) (fp32Rsqrt nx))
  else treeSum32 (List.zipWith (fun a b => let e := fp32Sub a b; fp32Mul e e) q x)

/-- Re-rank of the keys chosen (R411). -/
def State.vsRerank (s : State) (c : VsCtx) : List VsKey → List (Word32 × Nat) → VsWork → Except Status (List (Word32 × Nat) × VsWork)
  | [], acc, w => .ok (acc, w)
  | k :: rest, acc, w =>
    if c.q.noRerank then
      State.vsRerank s c rest (distInsert (wr32 (ofInt k.1), k.2.1) acc) w
    else
      let off := match k.2.2 with
        | some r => c.x.sideOff c.h r + 64 + 64 * ceilDiv c.x.sb 64 + c.x.gs
        | none => (c.x.shard c.h).vectorOff + (k.2.1 - c.x.first c.h) * c.x.vs
      match s.vsGet c w off c.x.vs with
      | .error st => .error st
      | .ok (bs, w1) =>
        let d := vsDistance c.x.metric c.q.vector (widenElems c.x.vecFmt c.x.dim bs)
        let w2 : VsWork := { w1 with stats := { w1.stats with
          vectors := w1.stats.vectors + 1, nan := w1.stats.nan || (rd32 d).isNan } }
        State.vsRerank s c rest (distInsert (d, k.2.1) acc) w2

/-- A whole shard query (R408-R411): its K smallest keys by distance, and what it did. -/
def State.vsShard (s : State) (c : VsCtx) : Except Status (List (Word32 × Nat) × VsWork) :=
  match s.vsSide c (List.range c.side) [] {} with
  | .error st => .error st
  | .ok (b, w) =>
    match (if c.q.scan then s.vsScan c (List.range c.count) b w else s.vsGraph c b w) with
    | .error st => .error st
    | .ok (best, w1) => match s.vsRerank c (best.take c.q.rerank) [] w1 with
      | .error st => .error st
      | .ok (l, w2) => .ok (l.take c.q.k, w2)

/-! ### Queries (R405-R407, R412, R413, R415) -/

def State.vquery (s : State) (id : Nat) : Option VQuery := s.meadow.queries.find? (fun q => decide (q.id = id))
def State.setVquery (s : State) (q : VQuery) : State :=
  { s with meadow := { s.meadow with queries := s.meadow.queries.map (fun x => if x.id = q.id then q else x) } }
def State.dropVquery (s : State) (id : Nat) : State :=
  { s with meadow := { s.meadow with queries := s.meadow.queries.filter (fun x => decide (x.id ≠ id)) } }

/-- The die a shard query is served on. -/
def State.vsDie (s : State) (q : VQuery) (y : ShardQuery) : Nat := ((s.vindex q.index).shard y.shard).die

/-- Shard queries of an array: with their query, in acceptance order. -/
def State.arrayShards (s : State) (die : Nat) : List (VQuery × ShardQuery) :=
  s.meadow.queries.flatMap (fun q => (q.shards.filter (fun y => decide (s.vsDie q y = die) && y.result.isNone && !y.held)).map (fun y => (q, y)))
/-- Those that wait in the array queue, and contexts in use (R398, R407). -/
def State.arrayQueue (s : State) (die : Nat) : List (VQuery × ShardQuery) := (s.arrayShards die).filter (fun e => !e.2.started)
def State.arrayScans (s : State) (die : Nat) : Nat := ((s.arrayShards die).filter (fun e => e.2.started && e.1.scan)).length
def State.arrayGraphs (s : State) (die : Nat) : Nat := ((s.arrayShards die).filter (fun e => e.2.started && !e.1.scan)).length
def State.arrayActive (s : State) (die : Nat) : Nat :=
  (((s.arrayShards die).filter (fun e => e.2.started)).map (fun e => if e.1.scan then 64 - e.2.without.length else 1)).sum

/-- Sketch units of an array whose admission is open (R536). -/
def State.sketchOpen (s : State) (die : Nat) : List Nat :=
  (List.range 64).filter (fun u => !(s.closed (.sketch die (u / 16) (u % 16))))

/-- Contexts are free for a shard query, 8 on each unit: one for GRAPH, one on every sketch unit for SCAN. -/
def State.contextsFree (s : State) (die : Nat) (scan : Bool) : Bool :=
  let n := (s.sketchOpen die).length
  if scan then decide (n ≠ 0) && decide (s.arrayScans die + 1 + ceilDiv (s.arrayGraphs die) n ≤ 8)
  else decide (n * s.arrayScans die + s.arrayGraphs die < 8 * n)

/-- LOAD of a query: the array queue of its lowest shard's die. -/
def State.vsLoad (s : State) (die : Nat) : LoadQueue := .depth (s.arrayQueue die).length 4096

/-- A query record (R405). -/
def vsQueryRec (o : Operation) (x : VIndex) (n id : Nat) (deadline : Nat) : VQuery :=
  let d := o.data
  let q0 := 64 * ceilDiv (64 + x.sb) 64
  let mask := if fieldAt d 40 1 % 16 = 0 then 15 else fieldAt d 40 1 % 16
  let fl := fieldAt d 31 1
  { id := id, index := n, req := o.req, outAddr := BitVec.ofNat 64 (fieldAt d 0 8), filterAddr := BitVec.ofNat 64 (fieldAt d 8 8),
    filterBits := fieldAt d 16 4, k := fieldAt d 20 2, ef := fieldAt d 22 2, rerank := fieldAt d 24 2, maxHops := fieldAt d 26 2,
    prefetch := fieldAt d 28 1, scan := decide (fieldAt d 29 1 = 1), invert := bitAt fl 0, noRerank := bitAt fl 1,
    doneSync := BitVec.ofNat 64 (fieldAt d 32 8), sketch := sliceB d 64 x.sb,
    vector := widenElems (fieldAt d 30 1) x.dim (d.drop q0),
    shards := ((List.range x.shards.length).filter (fun h => bitAt mask h)).map (fun h =>
      { shard := h, itemCount := (x.shard h).itemCount, sideCount := (x.shard h).sideCount, held := (x.shard h).switching }),
    deadline := deadline }

/-- The refusal of a query whose record is read (R406). -/
def State.vsQueryCheck (s : State) (o : Operation) (x : VIndex) (q : VQuery) : Option Response :=
  let d := o.data
  let qf := fieldAt d 30 1
  let len := 64 * ceilDiv (64 + x.sb) 64 + x.dim * (if qf = 1 then 4 else 2)
  let mask := fieldAt d 40 1
  let dies := q.shards.map (fun y => (x.shard y.shard).die)
  if x.state ≠ .enabled ∨ x.tenant ≠ o.req.issuer.tenant then some (refusal .access)
  else if o.length ≠ len ∨ fieldAt d 0 8 % 64 ≠ 0 then some (refusal .align)
  else if 4 ≤ fieldAt d 31 1 ∨ 16 ≤ mask ∨ !(zerosAt d 41 23) then some (refusal .rsvd)
  else if q.k < 1 ∨ 1024 < q.k ∨ q.ef < q.k ∨ 1024 < q.ef ∨ q.rerank < q.k ∨ q.ef < q.rerank ∨ (!q.scan ∧ q.maxHops = 0) ∨
      16 < q.prefetch ∨ 1 < fieldAt d 29 1 ∨ qf < 1 ∨ 3 < qf ∨ mask / 2 ^ x.shards.length ≠ 0 then some (refusal .param)
  else if q.filterAddr ≠ 0 ∧ (addrRegion q.filterAddr ≠ 0 ∨ !s.isHere (addrNode q.filterAddr) ∨
      (s.poolCheck (addrOffset q.filterAddr) (ceilDiv q.filterBits 8) o.req.issuer.tenant none .get).isSome) then some (refusal .access)
  else if dies.any (fun e => decide (4096 ≤ (s.arrayQueue e).length)) then some (refusal .nospace .capacity)
  else if 1 < q.shards.length ∧ !(s.hasCluster o.req.issuer.tenant) then some (refusal .nospace .capacity)
  else if dies.any (fun e => s.closed (.meadowArray e)) then some (refusal .busy .unitState)
  else none

/-- VS_QUERY (R406, R407). -/
def execVsQuery (o : Operation) (s : State) : Result :=
  .next (s.homeOp o true 0xFF (fun t =>
    let n := vsIndexNo o.req.target
    let x := t.vindex n
    if !(vsAddrOk o.req.target) then vsNo t o (refusal .param)
    else if o.operand1 ≠ 0 then vsNo t o (refusal .rsvd)
    else if x.state ≠ .enabled ∨ x.tenant ≠ o.req.issuer.tenant then (t.bump O.queriesRefused).respond o.req o.op (refusal .access)
    else t.atLocal o o.length (fun t o =>
      let id := t.meadow.nextQuery
      let q := vsQueryRec o x n id (t.now + usUnits (t.num O.queryTimeoutUs 10000))
      let die := match q.shards with | y :: _ => (x.shard y.shard).die | [] => 0
      match t.vsQueryCheck o x q with
      | some r => (t.bump O.queriesRefused).respond o.req o.op r (t.vsLoad die)
      | none =>
        let now_ := q.shards.all (fun y => y.held ||
          ((t.arrayQueue (x.shard y.shard).die).isEmpty && t.contextsFree (x.shard y.shard).die q.scan))
        let q1 := { q with late := if q.shards.any (·.held) then .unitState else if now_ then .none else .capacity }
        let t1 : State := { t with meadow := { t.meadow with queries := t.meadow.queries ++ [q1], nextQuery := id + 1 } }
        (t1.setVindex n { x with queries := x.queries + 1 }).openOp o.req o.op)))

/-- The head of an array's queue starts when contexts are free for it (R398, R407). -/
def execShardQueryStart (die : Nat) (s : State) : Result :=
  .next (s.begin.whenRunning (fun t =>
    match t.arrayQueue die with
    | [] => t
    | (q, y) :: _ =>
      let units := t.sketchOpen die
      if t.closed (.meadowArray die) || !(t.contextsFree die q.scan) then t
      else
        let f := t.free units.length
        let start := fun (z : ShardQuery) => { z with
          started := true, unit := units.getD f.1 0, without := (List.range 64).filter (fun u => !(units.contains u)) }
        f.2.setVquery { q with shards := q.shards.map (fun z => if z.shard = y.shard then start z else z) }))

/-- A query ends (R413, R415): it leaves, and answers. -/
def State.endVquery (s : State) (q : VQuery) (a : Response) : State :=
  let die := match q.shards with | y :: _ => s.vsDie q y | [] => 0
  (s.dropVquery q.id).respond q.req 0x60 (deferredBy q.late a) (s.vsLoad die)

def State.failVquery (s : State) (q : VQuery) (st : Status) : State :=
  s.endVquery q (served st 0 (if st = .tier then .tier else .none))

/-- RESULT_COUNT keys of the union, ascending (R412). -/
def VQuery.keys (q : VQuery) : List (Word32 × Nat) :=
  ((q.shards.flatMap (fun y => y.result.getD [])).foldl (fun l k => distInsert k l) []).take q.k

/-- The output of a query (R413). -/
def VQuery.image (q : VQuery) (ftc : Nat) : List Byte :=
  let ks := q.keys
  let st := q.shards.map (·.stats)
  let flags := b2n (decide (ks.length < q.k)) + 2 * b2n (st.any (·.hopsOut)) + 4 * b2n (st.any (·.visitedFull)) +
    8 * b2n (st.any (·.nan)) + 16 * b2n (st.any (fun x => decide (x.badEdges ≠ 0)))
  natLe 1 0 ++ natLe 1 flags ++ natLe 2 ks.length ++ natLe 4 ((st.map (·.hops)).sum) ++ natLe 8 ((st.map (·.sketches)).sum) ++
    natLe 4 ((st.map (·.vectors)).sum) ++ natLe 4 0 ++ natLe 8 ftc ++
    (List.range q.k).flatMap (fun r => match ks[r]? with
      | some k => natLe 4 k.2 ++ natLe 4 k.1.toNat
      | none => natLe 4 0xFFFFFFFF ++ natLe 4 0x7F800000)

/-- The part of item j in a scan of `count` items: 64 contiguous parts, the larger ones first (R410). -/
def scanPart (count j : Nat) : Nat :=
  let r := count % 64
  let big := r * (count / 64 + 1)
  if j < big then j / (count / 64 + 1) else r + (j - big) / (count / 64)

/-- The sketch unit that makes a read: in a scan, that of the item's part; otherwise the unit of the shard query. -/
def readUnit (c : VsCtx) (y : ShardQuery) (r : Nat × Nat × Nat) : Nat × Bool :=
  let h := c.x.shard c.h
  if r.1 = h.partition ∧ h.sketchOff ≤ r.2.1 ∧ r.2.1 < h.sketchOff + c.count * c.x.sb then
    let u := scanPart c.count ((r.2.1 - h.sketchOff) / c.x.sb)
    (if c.q.scan && !(y.without.contains u) then u else y.unit, true)
  else (y.unit, false)

/-- The access counts, meters and unit counters of a finished shard query (R309, R425, R500). -/
def State.vsAccount (s : State) (c : VsCtx) (y : ShardQuery) (w : VsWork) : State :=
  let die := (c.x.shard c.h).die
  let index := fun (u : Nat) => unitIndex (.sketch die (u / 16) (u % 16))
  let by_ := w.reads.map (fun r => (readUnit c y r, r.2.2))
  let side := w.stats.sketches - (by_.filter (fun e => e.1.2)).length
  let s1 := w.reads.foldl (fun (t : State) r =>
    let p := t.part r.1
    t.touchRange r.1 p (p.base + r.2.1) r.2.2 c.x.tenant false) s
  let n := w.stats.sketches
  let s2 := (((s1.bumpN O.sketchesCompared n).bumpN O.vectorsReranked w.stats.vectors).bumpN O.badEdges w.stats.badEdges).bumpN
    O.prefetchUnused w.stats.unused
  let s3 := (s2.meter c.x.tenant 0x0C n).bump (index y.unit * 256 + 0x23)
  (List.range 64).foldl (fun (t : State) u =>
    let mine := by_.filter (fun e => decide (e.1.1 = u))
    (t.bumpN (index u * 256 + 0x21) (((mine.filter (fun e => e.1.2)).length + (if u = y.unit then side else 0)) * c.x.sketchWords)).bumpN
      (index u * 256 + 0x22) ((mine.map (fun e => e.2)).sum)) s3

/-- A shard query finishes (R408-R412): its result, or the failure of a read; the last one forms the output. -/
def execShardQueryDone (id shard : Nat) (s : State) : Result :=
  .next (s.begin.whenRunning (fun t =>
    match t.vquery id with
    | none => t
    | some q => match q.shards.find? (fun y => decide (y.shard = shard)) with
      | none => t
      | some y =>
        if !y.started || y.result.isSome then t
        else
          let c : VsCtx := { q := q, x := t.vindex q.index, h := shard, count := y.itemCount, side := y.sideCount }
          match t.vsShard c with
          | .error st => t.failVquery q st
          | .ok (l, w) =>
            let q1 : VQuery := { q with shards := q.shards.map (fun z =>
              if z.shard = shard then { z with result := some l, stats := w.stats } else z) }
            let t1 := t.vsAccount c y w
            if q1.shards.all (fun z => z.result.isSome) then
              let out := q1.image t1.ftc
              let t2 := t1.setVquery { q1 with output := some out }
              if t2.isHere (addrNode q.outAddr) then t2
              else t2.emit (.operation {
                op := 1, req := { issuer := q.req.issuer, tc := q.req.tc, target := q.outAddr }, length := out.length, data := out })
            else t1.setVquery q1))

/-- The output is visible, or its put or its merge task has failed (R413, R415). -/
def execVsResultVisible (id : Nat) (r : Response) (s : State) : Result :=
  .next (s.begin.whenRunning (fun t =>
    match t.vquery id with
    | none => t
    | some q => match q.output with
      | none => t
      | some out =>
        let w : Status × State :=
          if r.status ≠ .ok then (r.status, t) else t.writeLocal q.req.issuer q.req.tc q.outAddr out
        if w.1 ≠ .ok then w.2.failVquery q w.1
        else
          let flags := fieldAt out 1 1
          let t1 := (w.2.bump O.queriesCompleted).bumpN O.shortResults (flags % 2)
          let t2 := t1.endVquery q { (served .ok (BitVec.ofNat 64 (fieldAt out 2 2))) with detail := flags }
          (t2.notifyAddr q.doneSync q.req.tc q.req.issuer).2))

/-- query_timeout_us passes (R407, R415): a query whose last shard result is in is not ended (R422). -/
def execQueryTimeout (id : Nat) (s : State) : Result :=
  .next (s.begin.whenRunning (fun t =>
    match t.vquery id with
    | none => t
    | some q => if q.output.isSome then t else (t.elapse q.deadline).failVquery q .timeout))

/-! ### Changes of an index (R416-R420) -/

/-- The block's own write to a structure. -/
def State.vsWrite (s : State) (x : VIndex) (part off : Nat) (bs : List Byte) : Status × State :=
  s.serviceWrite ((s.part part).base + off) bs x.tenant .meadow

/-- A tombstone bit; a bit that cannot be read counts as clear and its write fails. -/
def State.tombBit (s : State) (x : VIndex) (h j : Nat) : Bool :=
  match s.vsRead x (x.shard h).partition ((x.shard h).auxOff + j / 8) 1 with
  | .ok bs => bitAt (leNat bs) (j % 8)
  | .error _ => false

def State.setTomb (s : State) (x : VIndex) (h j : Nat) (v : Bool) : Status × State :=
  let y := x.shard h
  match s.vsRead x y.partition (y.auxOff + j / 8) 1 with
  | .error st => (st, s)
  | .ok bs =>
    let old := leNat bs
    let new := if v == bitAt old (j % 8) then old else if v then old + 2 ^ (j % 8) else old - 2 ^ (j % 8)
    s.vsWrite x y.partition (y.auxOff + j / 8) (natLe 1 new)

/-- Side records below SIDE_COUNT that are LIVE: record and item. -/
def State.liveSide (s : State) (x : VIndex) (h : Nat) : List (Nat × Nat) :=
  (List.range (x.shard h).sideCount).filterMap (fun r =>
    match s.vsRead x (x.shard h).partition (x.sideOff h r) 8 with
    | .ok b => if bitAt (fieldAt b 4 1) 0 then some (r, fieldAt b 0 4) else none
    | .error _ => none)

/-- An item is live: its tombstone bit is clear, or a LIVE side record holds it (R416). -/
def State.itemLive (s : State) (x : VIndex) (h j item : Nat) : Bool :=
  decide (j < (x.shard h).itemCount) && (!(s.tombBit x h j) || (s.liveSide x h).any (fun e => decide (e.2 = item)))

/-- Writes one after another; the first failure ends them. -/
def State.vsWrites (s : State) (x : VIndex) (part : Nat) : List (Nat × List Byte) → Status × State
  | [] => (.ok, s)
  | e :: rest =>
    let w := s.vsWrite x part e.1 e.2
    if w.1 ≠ .ok then w else State.vsWrites w.2 x part rest

/-- Neighbour values of a list stay below CAPACITY (R416). -/
def neighboursOk (degree capacity : Nat) (bs : List Byte) : Bool :=
  (List.range degree).all (fun i => let v := fieldAt bs (4 * i) 4; decide (v < capacity) || decide (v = 0xFFFFFFFF))

/-- Parts of an insert or side record: sketch, list, vector (R401). -/
def VIndex.recParts (x : VIndex) (b : List Byte) : List Byte × List Byte × List Byte :=
  let l := 64 + 64 * ceilDiv x.sb 64
  (sliceB b 64 x.sb, sliceB b l x.gs, sliceB b (l + x.gs) x.vs)

/-- An operation on an ENABLED index of the issuer's tenant. -/
def State.vsOn (s : State) (o : Operation) (x : VIndex) (go : State) : State :=
  if x.state ≠ .enabled ∨ x.tenant ≠ o.req.issuer.tenant then vsNo s o (refusal .access) else go

/-- INSERT (R416, R417). -/
def State.vsInsertDo (s : State) (o : Operation) (n : Nat) (x : VIndex) : State :=
  let b := sliceB o.data 0 x.sr
  let item := fieldAt b 0 4
  match x.locate item with
    | none => vsNo s o (refusal .range)
    | some (h, j) =>
      let y := x.shard h
      let pt := x.recParts b
      if fieldAt b 4 1 ≠ 0 ∨ !(zerosAt b 5 59) then vsNo s o (refusal .rsvd)
      else if y.itemCount < j then vsNo s o (refusal .range)
      else if !(neighboursOk x.degree y.capacity pt.2.1) then vsNo s o (refusal .param)
      else if s.itemLive x h j item then vsNo s o (refusal .param)
      else if x.deletes.any (fun d => decide (d.item = item)) || (x.sideList && y.merging) then vsNo s o (refusal .busy)
      else if x.sideList ∧ y.sideCount = x.sideCapacity then vsNo s o (refusal .nospace .capacity)
      else
        let grow := decide (j = y.itemCount)
        let w0 : Status × State := if grow then s.setTomb x h j true else (.ok, s)
        if w0.1 ≠ .ok then vsNo w0.2 o (served w0.1 0 .tier)
        else
          let x1 := x.setShard h { y with itemCount := if grow then j + 1 else y.itemCount }
          let s1 := w0.2.setVindex n x1
          if x.sideList then
            let w := s1.vsWrite x1 y.partition (x.sideOff h y.sideCount) (natLe 4 item ++ natLe 1 1 ++ b.drop 5)
            if w.1 ≠ .ok then vsNo w.2 o (served w.1 0 .tier)
            else vsNo (w.2.setVindex n (x1.setShard h { x1.shard h with sideCount := y.sideCount + 1 })) o (served)
          else
            let w := s1.vsWrites x1 y.partition [(y.vectorOff + j * x.vs, pt.2.2), (y.graphOff + j * x.gs, pt.2.1),
              (y.sketchOff + j * x.sb, pt.1)]
            if w.1 ≠ .ok then vsNo w.2 o (served w.1 0 .tier)
            else
              let w2 := w.2.setTomb x1 h j false
              vsNo w2.2 o (if w2.1 = .ok then served else served w2.1 0 .tier)

def execVsInsert (o : Operation) (s : State) : Result :=
  .next (s.vsCtl o false (fun t n x => t.vsOn o x (
    if o.length ≠ x.sr then vsNo t o (refusal .align) else t.atLocal o x.sr (fun t o => t.vsInsertDo o n x))))

/-- Queries of a shard that have not ended. -/
def State.vsRunning (s : State) (n h : Nat) : List Nat :=
  (s.meadow.queries.filter (fun q => decide (q.index = n) && q.shards.any (fun y => decide (y.shard = h)))).map (·.id)

/-- A DELETE makes the item not live at once (R418). -/
def State.vsKill (s : State) (x : VIndex) (h j item : Nat) : Status × State :=
  let w : Status × State := if s.tombBit x h j then (.ok, s) else s.setTomb x h j true
  (s.liveSide x h).foldl (fun (acc : Status × State) e =>
    if acc.1 ≠ .ok ∨ e.2 ≠ item then acc else acc.2.vsWrite x (x.shard h).partition (x.sideOff h e.1 + 4) (natLe 1 0)) w

/-- DELETE (R418): it completes when the queries accepted before it have ended. -/
def execVsDelete (o : Operation) (s : State) : Result :=
  .next (s.vsCtl o true (fun t n x => t.vsOn o x (
    if o.length ≠ 0 then vsNo t o (refusal .align)
    else
      let item := o.operand1.toNat
      match x.locate item with
      | none => vsNo t o (served)
      | some (h, j) =>
        if !(t.itemLive x h j item) then vsNo t o (served)
        else
          let w := t.vsKill x h j item
          if w.1 ≠ .ok then vsNo w.2 o (served w.1 0 .tier)
          else
            let waits := w.2.vsRunning n h
            if waits = [] then vsNo w.2 o (served .ok 1)
            else
              let y := w.2.vindex n
              (w.2.setVindex n { y with deletes := y.deletes ++ [{ item := item, req := o.req, waits := waits }] }).openOp o.req o.op)))

/-- Every query accepted before the delete has ended (R418). -/
def execVsDeleteComplete (index item : Nat) (s : State) : Result :=
  .next (s.begin.whenRunning (fun t =>
    let x := t.vindex index
    match x.deletes.find? (fun d => decide (d.item = item)) with
    | none => t
    | some d =>
      if d.waits.any (fun id => (t.vquery id).isSome) then t
      else (t.setVindex index { x with deletes := x.deletes.erase d }).respond d.req 0x61 (served .ok 1)))

/-- SET_NEIGHBOURS (R419). -/
def execSetNeighbours (o : Operation) (s : State) : Result :=
  .next (s.vsCtl o true (fun t _ x => t.vsOn o x (
    if o.length ≠ x.gs then vsNo t o (refusal .align)
    else t.atLocal o x.gs (fun t o =>
      let bs := sliceB o.data 0 x.gs
      match x.locate o.operand1.toNat with
      | none => vsNo t o (refusal .range)
      | some (h, j) =>
        let y := x.shard h
        if y.itemCount ≤ j then vsNo t o (refusal .range)
        else if !(neighboursOk x.degree y.capacity bs) then vsNo t o (refusal .param)
        else
          let w := t.vsWrite x y.partition (y.graphOff + j * x.gs) bs
          vsNo w.2 o (if w.1 = .ok then served else served w.1 0 .tier)))))

/-- The copy of a merge: every LIVE record of a shard goes to its main item, whose tombstone bit stays set (R420). -/
def State.mergeCopy (s : State) (x : VIndex) (h : Nat) : Status × State :=
  let y := x.shard h
  (s.liveSide x h).foldl (fun (acc : Status × State) e =>
    if acc.1 ≠ .ok then acc
    else match acc.2.vsRead x y.partition (x.sideOff h e.1) x.sr with
      | .error st => (st, acc.2)
      | .ok b =>
        let pt := x.recParts b
        let j := e.2 - x.first h
        acc.2.vsWrites x y.partition [(y.vectorOff + j * x.vs, pt.2.2), (y.graphOff + j * x.gs, pt.2.1), (y.sketchOff + j * x.sb, pt.1)]) (.ok, s)

/-- Flags of a merge on some shards. -/
def VIndex.mark (x : VIndex) (hs : List Nat) (merging switching : Bool) : VIndex :=
  { x with shards := x.shards.mapIdx (fun i y => if hs.contains i then { y with merging := merging, switching := switching } else y) }

/-- MERGE (R420): the copy of every shard with side records; the switches follow. -/
def execMerge (o : Operation) (s : State) : Result :=
  .next (s.vsCtl o false (fun t n x => t.vsOn o x (
    if o.length ≠ 0 then vsNo t o (refusal .align)
    else if x.merge.isSome then vsNo (t.setVsStatus n .busy) o (refusal .busy)
    else if !x.sideList then vsNo (t.setVsStatus n .param) o (refusal .param)
    else
      let hs := (List.range x.shards.length).filter (fun h => decide ((x.shard h).sideCount ≠ 0))
      let w := hs.foldl (fun (acc : Status × State) h => if acc.1 ≠ .ok then acc else acc.2.mergeCopy x h) (.ok, t)
      if w.1 ≠ .ok then vsNo (w.2.setVsStatus n w.1) o (served w.1 0 .tier)
      else if hs = [] then
        vsNo (w.2.setVindex n { w.2.vindex n with merges := x.merges + 1, lastStatus := .ok }) o (served)
      else (w.2.setVindex n { (x.mark hs true true) with merge := some { req := o.req, left := hs } }).openOp o.req o.op)))

/-- The switch of a shard (R420): once its earlier queries have ended, the records still LIVE become main items and the side list is
empty; the held queries go on with the shard's new counts. -/
def execMergeSwitch (index shard : Nat) (s : State) : Result :=
  .next (s.begin.whenRunning (fun t =>
    let x := t.vindex index
    match x.merge with
    | none => t
    | some m =>
      let busy := t.meadow.queries.any (fun q => decide (q.index = index) && q.shards.any (fun y =>
        decide (y.shard = shard) && !y.held && y.result.isNone))
      if !(m.left.contains shard) || busy then t
      else
        let live := t.liveSide x shard
        let w := live.foldl (fun (acc : Status × State) e =>
          if acc.1 ≠ .ok then acc else acc.2.setTomb x shard (e.2 - x.first shard) false) (.ok, t)
        let y := x.shard shard
        let m1 := { m with left := m.left.erase shard, made := m.made + live.length }
        let done := m1.left.isEmpty
        let x1 := { (x.setShard shard { y with merging := false, switching := false, sideCount := 0 }) with
          merge := if done then none else some m1, merges := if done then x.merges + 1 else x.merges
          lastStatus := if done then .ok else x.lastStatus }
        let t1 := w.2.setVindex index x1
        let t2 : State := { t1 with meadow := { t1.meadow with queries := t1.meadow.queries.map (fun q =>
          if q.index = index then { q with shards := q.shards.map (fun z =>
            if z.shard = shard ∧ z.held then { z with held := false, sideCount := 0, itemCount := y.itemCount } else z) } else q) } }
        if done then t2.respond m.req 0x61 (served .ok (BitVec.ofNat 64 m1.made)) else t2))

/-! ### Disable (R404, R421) -/

/-- Pins of PIN_NEAR are released as by UNPIN. -/
def State.vsUnpin (s : State) (x : VIndex) : State :=
  x.pins.foldl (fun (t : State) e => match t.page e.1 e.2 with
    | some r => t.setPage e.1 e.2 (some { r with pinned := false })
    | none => t) s

/-- A merge stops without its switch; the queries it held go on. -/
def State.vsStopMerge (s : State) (n : Nat) : State :=
  let x := s.vindex n
  match x.merge with
  | none => s
  | some m =>
    let s1 := s.setVindex n { (x.mark m.left false false) with merge := none }
    ({ s1 with meadow := { s1.meadow with queries := s1.meadow.queries.map (fun q =>
      if q.index = n then { q with shards := q.shards.map (fun z => { z with held := false }) } else q) } } : State).respond m.req 0x61
        (served .access (BitVec.ofNat 64 m.made))

/-- A disable begins (R421): queries not yet started complete with E_ACCESS, the merge stops. -/
def State.vsOff (s : State) (n : Nat) (req : Option Req) : State :=
  let s0 := s.vsStopMerge n
  let x := s0.vindex n
  let s1 := s0.setVindex n { x with state := .disabling, disabling := req, lastStatus := .ok }
  (s1.meadow.queries.filter (fun q => decide (q.index = n) && q.shards.all (fun y => !y.started && y.result.isNone))).foldl
    (fun (t : State) q => t.endVquery q (refusal .access)) s1

/-- DISABLE (R421). -/
def execVsDisable (o : Operation) (s : State) : Result :=
  .next (s.vsCtl o false (fun t n x =>
    if o.length ≠ 0 then vsNo t o (refusal .align)
    else match x.state with
      | .disabled => vsNo t o (served)
      | .disabling => vsNo (t.setVsStatus n .busy) o (refusal .busy)
      | .enabled =>
        if x.tenant ≠ o.req.issuer.tenant then vsNo t o (refusal .access)
        else (t.openOp o.req o.op).vsOff n (some o.req)))

/-- The index becomes DISABLED: its queries are done. -/
def State.vsEnd (s : State) (n : Nat) : State :=
  let x := s.vindex n
  let s1 := (s.vsUnpin x).setVindex n { lastStatus := x.lastStatus }
  let s2 := x.deletes.foldl (fun (t : State) d => t.respond d.req 0x61 (served .ok 1)) s1
  match x.disabling with
  | some r => s2.respond r 0x61 (served)
  | none => s2

/-- Running queries and merges have stopped (R421). -/
def State.vsDone (t : State) (index : Nat) : State :=
  let x := t.vindex index
  if x.state = .disabling ∧ !(t.meadow.queries.any (fun q => decide (q.index = index))) then t.vsEnd index else t

/-- An unbind of one of its partitions disables an index (R404): its queries end with E_ACCESS and write nothing. -/
def State.vsUnbind (s : State) (part : Nat) : State :=
  (s.meadow.indexes.filter (fun e => decide (e.2.state ≠ .disabled) && e.2.shards.any (fun y => decide (y.partition = part)))).foldl
    (fun (t : State) e =>
      let t1 := (t.meadow.queries.filter (fun q => decide (q.index = e.1))).foldl (fun (u : State) q => u.failVquery q .access) t
      (t1.vsStopMerge e.1).vsEnd e.1) s

end Sys2Proof.Machine
end

