-- ==== Sys2Proof/Machine/PoolCtl.lean ====
section
/-! DEFINITION. Commands and events of the pool (chapter 08): partitions, channels, moves of pages, errors, completions, and the
dispatcher's turn (R282). -/

namespace Sys2Proof.Machine

/-! ### Bind (R298, R299) -/

/-- The share of the i-th of `count` channels, larger shares on the lower ones (R298). -/
def shareOf (total count i : Nat) : Nat := total / count + (if i < total % count then 1 else 0)

/-- Channels of a partition's ranges with the frames a bind reserves on each, in ascending number. -/
def Partition.shares (p : Partition) : List (Nat × Nat) :=
  (List.range p.nearCount).map (fun i => (p.nearFirst + i, shareOf p.nearPages p.nearCount i)) ++
  (List.range p.farCount).map (fun i => (256 + p.farFirst + i, shareOf p.farPages p.farCount i))

/-- Frames of a channel that unbinds are still clearing. -/
def State.clearingOn (s : State) (c : Nat) : Nat :=
  (s.pool.parts.map (fun e => if e.2.state = .clearing then Store.read 0 e.2.toClear c else 0)).sum

/-- The refusal of a channel of a bind (step 4). -/
def State.bindChan (s : State) (tenant c : Nat) : Option Status :=
  let x := s.chan c
  match x.state with
  | .empty | .failed => some .param
  | .clearing => some .busy
  | .online => if x.owner = tenant then none else some .access

/-- The first check of R298 that fails. -/
def State.bindCheck (s : State) (n : Nat) : Option Status :=
  let p := s.part n
  let chans := p.shares.map (·.1)
  if p.state ≠ .free then some .busy
  else if p.size < 1 ∨ 268435455 < p.size ∨ p.nearCount < 1 ∨ 256 < p.nearCount ∨ p.nearPages < 1 ∨ 8388607 < p.nearPages ∨
      16 < p.farCount ∨ 67108863 < p.farPages ∨ (p.farCount = 0 ∧ p.farPages ≠ 0) ∨ p.base % 65536 ≠ 0 ∨
      s.poolCapacity < p.end_ ∨ 256 < p.nearFirst + p.nearCount ∨ 16 < p.farFirst + p.farCount ∨
      (63 < p.tenant ∧ p.tenant ≠ 0xFF) ∨ (0xEFFF < p.hostNode ∧ p.hostNode ≠ 0xFFFF) ∨
      s.pool.parts.any (fun e => decide (e.1 ≠ n) && decide (e.2.state ≠ .free) &&
        overlaps e.2.base (e.2.size * 65536) p.base (p.size * 65536)) then some .param
  else if chans.any s.chanAbsent then some .rsvd
  else match chans.findSome? (s.bindChan p.tenant) with
    | some st => some st
    | none =>
      if (if p.farCount = 0 then decide (p.nearPages < p.size + p.mapPages)
          else decide (p.nearPages < p.mapPages + 8) || decide (p.farPages < 8) ||
            decide (p.nearPages + p.farPages < p.size + p.mapPages + 16)) then some .param
      else if p.shares.all (fun e => decide (e.2 ≤ (s.chan e.1).free)) then none
      else if p.shares.all (fun e => decide (e.2 ≤ (s.chan e.1).free + s.clearingOn e.1)) then some .busy
      else some .nospace

/-- A page is placed at the bind (R299). -/
def State.placePage (s : State) (n pg : Nat) : State :=
  let p := s.part n
  let near := decide (pg < p.placedNear)
  match p.frameFor near pg with
  | none => s
  | some c => (s.setPart n (p.takeFrame c)).setPage n pg (some { channel := c, near := near })

/-- The frames are reserved, the map frames taken and the pages placed (R298 step 7, R299). -/
def State.bindPlace (s : State) (n : Nat) : State :=
  let p := s.part n
  let chans := p.shares.foldl (fun (t : State) e =>
    let x := Store.read ({} : Channel) t.pool.channels e.1
    t.setChan e.1 { x with free := x.free - e.2 }) s
  let reserved := p.shares.foldl (fun (r : Store Nat) e => Store.write 0 r e.1 e.2) []
  let free := p.shares.foldl (fun (r : Store Nat) e => Store.write 0 r e.1 (e.2 - p.mapOn e.1)) []
  let s1 := chans.setPart n { p with
    state := .bound, reserved := reserved, freeFrames := free, mapWritten := false, toClear := [], sweep := 0, sealed := none
    lastStatus := .ok }
  (List.range p.size).foldl (fun (t : State) pg => t.placePage n pg) s1

/-- LAST_STATUS of a partition command. -/
def State.partStatus (s : State) (a : Access) (n : Nat) (st : Status) : State :=
  if accessMgmt a then s.setPart n { s.part n with lastStatus := st } else s

/-- MEM_PART_CTL bind, or part_command 0x01 (R298). -/
def State.partBind (s : State) (a : Access) (n : Nat) : State :=
  let c := s.bindCheck n
  (s.partStatus a n (c.getD .ok)).mgmtWrite a (R.memPartCtl n) (c.map (fun st => refusal st)) (fun u => u.bindPlace n)

def execPartitionBind (a : Access) (n : Nat) (s : State) : Result :=
  .next (s.begin.whenRunning (fun t => t.partBind a n))

/-- The page map is written, and the requests held since the bind go on (R299). -/
def execMapWritten (n : Nat) (s : State) : Result :=
  .next (s.begin.whenRunning (fun t =>
    let p := t.part n
    if p.state ≠ .bound ∨ p.mapWritten then t
    else
      let l := Store.read [] t.pool.mapHeld n
      let t1 : State := { t with pool := { t.pool with mapHeld := Store.write [] t.pool.mapHeld n [] } }
      l.foldl (fun (u : State) h => u.enqueuePool h.oper h.defer) (t1.setPart n { p with mapWritten := true })))

/-! ### Unbind (R301) -/

/-- Some plan slot that is not EMPTY claims the partition. -/
def State.planClaims (s : State) (n : Nat) : Bool :=
  (s.part n).staticBy.isSome || s.plans.slots.any (fun e => (match e.2.image with
    | some i => i.claims.any (fun c => decide (c.kind = 5) && decide (c.first = n))
    | none => false))

/-- The request's bytes begin in the partition. -/
def State.inPart (s : State) (n : Nat) (o : Operation) : Bool :=
  decide (addrRegion o.req.target = 0) && match s.partAt (addrOffset o.req.target) with
  | some (m, _) => decide (m = n)
  | none => false

/-- Requests not yet dispatched complete with E_ACCESS (R301). -/
def State.refuseUndispatched (s : State) (n : Nat) : State :=
  let no := fun (t : State) (o : Operation) => t.respond o.req o.op (refusal .access)
  let mine := s.inPart n
  let s1 := s.traffic.contracts.foldl (fun (t : State) e =>
    let gone := e.2.queue.filter (fun r => mine r.oper)
    if gone.isEmpty then t
    else gone.foldl (fun (u : State) r => no u r.oper)
      (t.setContract e.1 { t.contract e.1 with queue := e.2.queue.filter (fun r => !(mine r.oper)) })) s
  let l := Store.read [] s1.pool.mapHeld n
  let s2 : State := { s1 with pool := { s1.pool with mapHeld := Store.write [] s1.pool.mapHeld n [] } }
  let s3 := l.foldl (fun (t : State) h => no t h.oper) s2
  (s3.pool.moves.filter (fun m => decide (m.part = n))).foldl (fun (t : State) m =>
    let t1 := m.held.foldl (fun (u : State) h => no u h.oper) { t with pool := { t.pool with
      moves := t.pool.moves.map (fun x => if x = m then { x with held := [] } else x) } }
    t1.cancelMove { m with held := [] }) s3

/-- Checkpoints of the partition end FAILED with E_ACCESS; the writes they held are undispatched (R301, R572). -/
def State.unbindCkpts (s : State) (n : Nat) : State :=
  s.faults.ckpts.foldl (fun (t : State) e =>
    if e.2.partition = n ∧ (e.2.state = .armed ∨ e.2.state = .streaming) then
      let t1 := e.2.held.foldl (fun (u : State) h => u.respond h.oper.req h.oper.op (refusal .access))
        (t.setCkpt e.1 { e.2 with held := [] })
      t1.ckptEnd e.1 .failed .access
    else t) s

/-- The services of the partition stop (R327, R394, R404). -/
def State.unbindServices (s : State) (n : Nat) : State :=
  let s1 := (s.kv.stores.filter (fun e => e.2.enable && decide (e.2.partition = n))).foldl (fun (t : State) e => t.storeOff e.1) s
  let s2 := (s1.cz.streams.filter (fun e => e.2.enable && decide (e.2.partition = n))).foldl (fun (t : State) e => t.streamOff e.1) s1
  s2.vsUnbind n

/-- The partition becomes CLEARING (R301). -/
def State.unbindDo (s : State) (n : Nat) : State :=
  let s1 := (((s.unbindServices n).unbindCkpts n).refuseUndispatched n).dropMoves (fun m => decide (m.part = n))
  let p := s1.2.part n
  s1.2.setPart n { p with
    state := .clearing, sealed := none, clearStart := s1.2.ftc, lastStatus := .ok
    toClear := p.reserved.filter (fun e => decide ((s1.2.chan e.1).state ≠ .failed))
    reserved := p.reserved.filter (fun e => decide ((s1.2.chan e.1).state ≠ .failed)) }

def State.partUnbind (s : State) (a : Access) (n : Nat) : State :=
  let p := s.part n
  let c : Option Status :=
    if p.state ≠ .bound then none
    else if s.planClaims n ∨ s.coh.windows.any (fun e => (e.2.enable || e.2.disabling) && decide (e.2.partition = n)) then some .busy
    else none
  (s.partStatus a n (c.getD .ok)).mgmtWrite a (R.memPartCtl n) (c.map (fun st => refusal st))
    (fun u => if p.state = .bound then u.unbindDo n else u)

def execPartitionUnbind (a : Access) (n : Nat) (s : State) : Result :=
  .next (s.begin.whenRunning (fun t => t.partUnbind a n))

/-- A dispatched request of the partition has not completed. -/
def State.partInFlight (s : State) (n : Nat) : Bool :=
  s.traffic.dispatched.any (fun e => e.2.any (fun d => s.inPart n d.preq.oper))

/-- The clear ends: the frames are free, the partition is FREE, and the clear is recorded (R301, R434). -/
def execPartitionClearComplete (n : Nat) (s : State) : Result :=
  .next (s.begin.whenRunning (fun t =>
    let p := t.part n
    if p.state ≠ .clearing ∨ t.partInFlight n then t
    else
      let t1 := p.toClear.foldl (fun (u : State) e =>
        let x := Store.read ({} : Channel) u.pool.channels e.1
        u.setChan e.1 { x with free := x.free + e.2 }) t
      let t2 := t1.poolZero p.base (p.size * 65536)
      let t3 : State := { t2 with pool := { t2.pool with pages := t2.pool.pages.filter (fun e => decide (e.1 / 2 ^ 28 ≠ n)) } }
      (t3.setPart n { p with
        state := .free, reserved := [], freeFrames := [], toClear := [], mapWritten := false, clearStart := 0, sweep := 0 }).clearRecord
          1 p.tenant n ((p.toClear.map (·.2)).sum) p.clearStart (p.toClear.map (·.1))))

/-! ### Repair (R319) -/

/-- A channel of one tier's range for a repaired page, among the ONLINE ones with a frame of one kind: a free frame of the partition's
own, or a clean unreserved one. -/
def State.repairIn (s : State) (p : Partition) (own near : Bool) (pg : Nat) : Option Nat :=
  let first := if near then p.nearFirst else 256 + p.farFirst
  let count := if near then p.nearCount else p.farCount
  if count = 0 then none
  else pickChannel (fun c => if (s.chan c).state = .online then (if own then Store.read 0 p.freeFrames c else (s.chan c).free) else 0)
    first count (pg % count)

/-- The frame of a repaired page: its channel, its tier, and whether it was unreserved. The partition's own free frames come first, in
the page's tier and then in the other; when they have run out, unreserved frames in the same order. -/
def State.repairFrame (s : State) (p : Partition) (near : Bool) (pg : Nat) : Option (Nat × Bool × Bool) :=
  [(true, near), (true, !near), (false, near), (false, !near)].findSome? (fun k =>
    (s.repairIn p k.1 k.2 pg).map (fun c => (c, k.2, !k.1)))

/-- One FAILED page takes its frame; none when there is none. A frame that a restore has cleared joins the free frames first. -/
def State.repairPage (s : State) (n : Nat) (pg : Nat) (r : PageRec) : Option State :=
  let p0 := s.part n
  let p := if (s.chan r.channel).state = .online then p0.giveFrame r.channel else p0
  (s.repairFrame p r.near pg).map (fun k =>
    let c := k.1
    let s1 := if k.2.2 then
        let x := Store.read ({} : Channel) s.pool.channels c
        (s.setChan c { x with free := x.free - 1 }).setPart n { p with
          reserved := Store.write 0 p.reserved c (Store.read 0 p.reserved c + 1) }
      else s.setPart n (p.takeFrame c)
    let s2 := s1.setPage n pg (some { r with channel := c, near := k.2.1, failed := false })
    (List.range 1024).foldl (fun (t : State) b => t.setPoison ((p.base + pg * 65536) / 64 + b) true) s2)

def State.repairAll (s : State) (n : Nat) : List (Nat × PageRec) → Option State
  | [] => some s
  | e :: t => (s.repairPage n e.1 e.2).bind (fun u => State.repairAll u n t)

def State.partRepair (s : State) (a : Access) (n : Nat) : State :=
  let p := s.part n
  let todo := (s.partPages n).filter (fun e => e.2.failed)
  let r := s.repairAll n todo
  let c : Option Status := if p.state ≠ .bound then some .param else if r.isNone then some .nospace else none
  let s1 := s.partStatus a n (c.getD .ok)
  s1.mgmtWrite a (R.memPartCtl n) (c.map (fun st => refusal st)) (fun u => (u.repairAll n todo).getD u)

def execPartitionRepair (a : Access) (n : Nat) (s : State) : Result :=
  .next (s.begin.whenRunning (fun t => t.partRepair a n))

/-! ### Channels (R293-R295, R318, R319) -/

def State.tenantOn (s : State) (t : Nat) : Bool := (Store.read ({} : Tenant) s.sec.tenants t).enable

/-- The refusal of an OWNER write (R294). -/
def State.ownerCheck (s : State) (ch owner : Nat) : Option Status :=
  if s.chanAbsent ch then some .rsvd
  else if ch = 0 then some .access
  else if !(decide (owner < 64) && s.tenantOn owner) && decide (owner ≠ 0xFE) && decide (owner ≠ 0xFF) then some .param
  else if s.pool.parts.any (fun e => decide (e.2.state ≠ .free) && decide (Store.read 0 e.2.reserved ch ≠ 0)) ∨
      (s.chan ch).state = .clearing ∨ (s.chan ch).state = .failed then some .busy
  else none

def State.chanOwnerWrite (s : State) (a : Access) (ch owner : Nat) : State :=
  s.mgmtWrite a (R.memChanCtl ch) ((s.ownerCheck ch owner).map (fun st => refusal st))
    (fun u => u.setChan ch { Store.read ({} : Channel) u.pool.channels ch with owner := owner })

def execChannelOwnerWrite (a : Access) (ch owner : Nat) (s : State) : Result :=
  .next (s.begin.whenRunning (fun t => t.chanOwnerWrite a ch owner))

/-- A page whose frame lies on a failed channel becomes FAILED; a move of it ends, and the writes it held end with E_TIER (R307). -/
def State.failPage (s : State) (n pg : Nat) (r : PageRec) : State :=
  let s1 := s.setPage n pg (some { r with failed := true, queued := false })
  match s1.moveOf n pg with
  | none => s1
  | some m =>
    let s2 : State := { s1 with pool := { s1.pool with moves := s1.pool.moves.erase m } }
    let s3 := s2.setPart n ((s2.part n).giveFrame m.dest)
    (m.held.foldl (fun (t : State) h => (t.bump (O.partTierErrors n)).respond h.oper.req h.oper.op (served .tier 0 .tier))
      (s3.markShort m.cause.waiter)).endHints

/-- A dispatched request has a page on the channel. -/
def State.touches (s : State) (ch : Nat) (d : Dispatched) : Bool :=
  let len := max 1 (opBytes d.preq.oper)
  (List.range ((d.off + len - 1) / 65536 + 1 - d.off / 65536)).any (fun k => decide (s.channelAt (d.off + k * 65536) = ch))

/-- A channel is declared failed (R318): every pending request with a page on it ends. -/
def State.channelFailed (s : State) (ch : Nat) : State :=
  let x := Store.read ({} : Channel) s.pool.channels ch
  if (s.chan ch).state = .failed ∨ (s.chan ch).state = .empty ∨ s.chanAbsent ch then s
  else
    let s0 := s.setChan ch { x with state := .failed, free := 0, retraining := false }
    let s1 := (s0.pool.moves.filter (fun m => decide (m.dest = ch))).foldl (fun (t : State) m => t.cancelMove m) s0
    let s2 := s1.pool.pages.foldl (fun (t : State) e =>
      match e.2 with
      | some r => if r.channel = ch then t.failPage (e.1 / 2 ^ 28) (e.1 % 2 ^ 28) r else t
      | none => t) s1
    let s3 : State := { s2 with pool := { s2.pool with parts := Store.revalue {} (fun p => { p with
        freeFrames := Store.write 0 p.freeFrames ch 0
        toClear := Store.write 0 p.toClear ch 0
        reserved := if p.state = .clearing then Store.write 0 p.reserved ch 0 else p.reserved }) s2.pool.parts } }
    let s4 := s3.traffic.dispatched.foldl (fun (t : State) e => (e.2.filter (fun d => decide (e.1 < 272) && s3.touches ch d)).foldl
      (fun (u : State) d => u.failReq e.1 d (served .tier 0 .tier)) t) s3
    s4.fault 0x10 (s4.path (channelLoc ch)) ch

/-- The refusal of declare failed, and of restore (R318, R319). -/
def State.declareCheck (s : State) (ch : Nat) : Option Status :=
  if s.chanAbsent ch then some .rsvd else if (s.chan ch).state = .empty then some .param else none
def State.restoreCheck (s : State) (ch : Nat) : Option Status :=
  if s.chanAbsent ch then some .rsvd
  else match (s.chan ch).state with
    | .empty => some .param
    | .failed => none
    | _ => some .busy

def State.chanDeclare (s : State) (a : Access) (ch : Nat) : State :=
  s.mgmtWrite a R.memChanCmd ((s.declareCheck ch).map (fun st => refusal st)) (fun u => u.channelFailed ch) true
def State.chanRestore (s : State) (a : Access) (ch : Nat) : State :=
  s.mgmtWrite a R.memChanCmd ((s.restoreCheck ch).map (fun st => refusal st))
    (fun u => u.setChan ch { Store.read ({} : Channel) u.pool.channels ch with retraining := true }) true

def execChannelDeclareFailed (a : Access) (ch : Nat) (s : State) : Result :=
  .next (s.begin.whenRunning (fun t => t.chanDeclare a ch))

def execChannelRestore (a : Access) (ch : Nat) (s : State) : Result :=
  .next (s.begin.whenRunning (fun t => t.chanRestore a ch))

/-- A restore's training ends (R319). -/
def execChannelRetrainDone (ch : Nat) (ok : Bool) (s : State) : Result :=
  .next (s.begin.whenRunning (fun t =>
    let x := Store.read ({} : Channel) t.pool.channels ch
    if x.state ≠ .failed ∨ !x.retraining then t
    else if ok then (t.setChan ch { x with state := .clearing, retraining := false, clearStart := t.ftc }).answer (served)
    else (t.setChan ch { x with retraining := false }).answer (served .tier 0 .tier)))

/-- Frames of a channel that bound partitions keep reserved. -/
def State.reservedOn (s : State) (c : Nat) : Nat := (s.pool.parts.map (fun e => Store.read 0 e.2.reserved c)).sum

/-- Every frame of a CLEARING channel is zero (R295, R319, R434). -/
def execChannelClearComplete (ch : Nat) (s : State) : Result :=
  .next (s.begin.whenRunning (fun t =>
    let x := Store.read ({} : Channel) t.pool.channels ch
    if (t.chan ch).state ≠ .clearing ∨ t.chanAbsent ch then t
    else
      let t1 := t.setChan ch { x with state := .online, free := t.chanUsable ch - t.reservedOn ch, clearStart := 0 }
      let t2 : State := { t1 with pool := { t1.pool with parts := t1.pool.parts.map (fun e =>
        let r := Store.read 0 e.2.reserved ch
        if r = 0 ∨ e.2.state ≠ .bound then e
        else
          let pages := ((t1.partPages e.1).filter (fun g => decide (g.2.channel = ch))).length
          (e.1, { e.2 with freeFrames := Store.write 0 e.2.freeFrames ch (r - pages - e.2.mapOn ch) })) } }
      let all := (List.range 272).all (fun c => t2.chanAbsent c || decide ((t2.chan c).state ≠ .clearing))
      ({ t2 with pool := { t2.pool with initDone := t2.pool.initDone || all } } : State).clearRecord
        2 (t.chan ch).owner ch (t.chanFrames ch) x.clearStart [ch]))

/-- Nothing completes on a channel for channel_stall_us while a request is pending (R318). -/
def execChannelStall (ch : Nat) (s : State) : Result :=
  .next (s.begin.whenRunning (fun t =>
    match t.inChannel ch with
    | [] => t
    | d :: _ =>
      let from_ := max d.since (Store.read ({} : Channel) t.pool.channels ch).servedAt
      (t.elapse (from_ + usUnits (t.num O.channelStallUs 8000))).channelFailed ch))

/-- Loss of training, or a fatal error of a DIMM or the stack (R318). -/
def execChannelFatalError (ch : Nat) (s : State) : Result :=
  .next (s.begin.whenRunning (fun t => t.channelFailed ch))

/-! ### Errors and deadlines (R316, R317) -/

/-- A read that is on its way meets the poisoned block: its answer becomes E_TIER with the bytes before it (R317). -/
def Dispatched.meets (d : Dispatched) (b : Nat) : Dispatched :=
  let len := opBytes d.preq.oper
  if d.preq.oper.op = 2 ∧ overlaps d.off len (b * 64) 64 then
    let n := min (b * 64 - d.off) d.answer.data.length
    { d with answer := { (served .tier (BitVec.ofNat 64 n) .tier) with data := d.answer.data.take n } }
  else d

/-- An uncorrectable error in a block (R317). -/
def execUncorrectableError (offset : Nat) (s : State) : Result :=
  .next (s.begin.whenRunning (fun t =>
    match t.pageAt offset with
    | none => t
    | some (_, _, r) =>
      let b := offset / 64
      if r.failed then t
      else
        let u := unitIndex (channelLoc r.channel)
        let t1 := ((t.setPoison b true).bump O.poisonedBlocks).bump (O.memUnitUncorrectableErrors u)
        let t2 := t1.setInChannel r.channel ((t1.inChannel r.channel).map (fun d => d.meets b))
        t2.fault 0x11 (t2.path (channelLoc r.channel)) r.channel))

/-- A dispatched request passes tier_deadline_us (R316). -/
def execTierDeadlineExpiry (ch id : Nat) (s : State) : Result :=
  .next (s.begin.whenRunning (fun t =>
    match (t.inChannel ch).find? (fun d => decide (d.preq.id = id)) with
    | none => t
    | some d =>
      ((t.elapse d.deadline).bump (O.memUnitDeadlineEnds (unitIndex (channelLoc ch)))).failReq ch d (served .tier 0 .tier)))

/-- A request completes at the DRAM (R316, R320). -/
def execChannelRequestComplete (channel id : Nat) (s : State) : Result :=
  .next (s.begin.whenRunning (fun t => t.completeReq channel id))

/-- The dispatcher's turn at a channel with room, or at the KV service (R282). -/
def execContractDispatch (channel : Nat) (s : State) : Result :=
  .next (s.begin.whenRunning (fun t => t.dispatchOne (if channel = kvChannel then State.kvPerform else State.performPool) channel))

/-! ### Moves (R305, R306) -/

def execPageMoveStart (n page : Nat) (s : State) : Result :=
  .next (s.begin.whenRunning (fun t => t.startMove n page))

/-- A request dispatched to the page's source frame has not completed. -/
def State.pageInFlight (s : State) (n page : Nat) : Bool :=
  let p := s.part n
  s.traffic.dispatched.any (fun e => e.2.any (fun d => s.inPart n d.preq.oper &&
    overlaps d.off (opBytes d.preq.oper) (p.base + page * 65536) 65536))

/-- The copy is done and nothing is in flight at the source: the map switches (R305). -/
def execPageMoveSwitch (n page : Nat) (s : State) : Result :=
  .next (s.begin.whenRunning (fun t =>
    match t.moveOf n page with
    | none => t
    | some m => if t.pageInFlight n page then t else t.switchMove m))

/-- The oldest held request reaches the limit (R306). -/
def execMigrationHoldExpiry (n page : Nat) (s : State) : Result :=
  .next (s.begin.whenRunning (fun t =>
    match t.moveOf n page with
    | none => t
    | some m => match m.held with
      | [] => t
      | h :: _ => (t.elapse h.due).cancelMove m))

end Sys2Proof.Machine
end

