-- ==== Sys2Proof/Machine/Cells.lean ====
section
/-! DEFINITION. The accounts of the Millrace's cells (R236-R239). -/

namespace Sys2Proof.Machine

/-- SWC_QUOTA_t. -/
def State.quotaCells (s : State) (t : Nat) : Nat := s.reg (R.swcQuota t) (if t = 64 then 0x2000 else 0)

/-- Room reserved for a response that can still come: a posted operation answers only when it fails. -/
def State.roomLive (s : State) (r : RspRoom) : Bool :=
  !r.posted || s.remote.outstanding.any (fun o => o.posted && decide (o.id = r.opid) &&
    (match o.issuer.src with | .endpoint n => decide (n = r.node) | _ => decide (r.node = s.nodeId)))

/-- Cells charged to a quota (SWC_QUOTA_USED): its owner's requests other than class 0, the room reserved for responses, and the
overflow cells of its dynamic jobs (R196). -/
def State.quotaUsed (s : State) (t : Nat) : Nat :=
  (s.sw.frames.map (fun e => match e.2 with
    | some f => if f.charged ∧ ownerIx f.tenant = t then f.cells else 0
    | none => 0)).sum +
  (s.sw.rooms.map (fun r => if ownerIx r.tenant = t ∧ s.roomLive r then r.cells else 0)).sum +
  (s.hcu.jobs.map (fun e => if e.2.slot = none ∧ ownerIx e.2.tenant = t then e.2.ovfCells else 0)).sum
def State.quotaFree (s : State) (t : Nat) : Nat := s.quotaCells t - s.quotaUsed t

/-- Cells that no account holds (R236). -/
def State.cellsUnassigned (s : State) : Nat :=
  393216 - (s.sw.headroom.map (·.2)).sum - (s.hcu.ovfClaims.map (·.2)).sum - ((List.range 65).map s.quotaCells).sum

/-- Cells of a plan's static reserve that its jobs and its class 0 frames leave (R196, R238). -/
def State.reserveFree (s : State) (n : Nat) : Nat :=
  Store.read 0 s.hcu.ovfClaims n - (s.hcu.jobs.map (fun e => if e.2.slot = some n then e.2.ovfCells else 0)).sum -
    (s.sw.frames.map (fun e => match e.2 with
      | some f => if f.slot = some n then f.cells else 0
      | none => 0)).sum

/-- SWC_CREDIT_n (R260), and the headroom a port of a mode needs (R236). -/
def State.creditCells (s : State) (n : Nat) : Nat := s.reg (R.swcCredit n) ([16, 128, 16, 1024, 32, 64, 16, 1024, 32].getD n 0)
def State.headroomNeed (s : State) (m : PortMode) : Nat :=
  if m = .opvitik then ((List.range 9).map s.creditCells).sum else 1536

end Sys2Proof.Machine
end

