-- ==== Sys2Proof/Machine/HcuJob.lean ====
section
/-! DEFINITION. Jobs of the hub compute units (chapter 05): records and what an open checks (R192-R207, R218-R224), and a job's end
(R197, R201, R202, R215). -/

namespace Sys2Proof.Machine

def State.job (s : State) (n : Nat) : Job := Store.read ({} : Job) s.hcu.jobs n
def State.setJob (s : State) (n : Nat) (j : Job) : State :=
  { s with hcu := { s.hcu with jobs := Store.write ({} : Job) s.hcu.jobs n j } }

/-! ### The record (R196, R205, R218, R221, R223) -/

def Job.f (j : Job) (off n : Nat) : Nat := fieldAt j.record off n
def Job.addr (j : Job) (off : Nat) : Word64 := BitVec.ofNat 64 (j.f off 8)
/-- KIND: 1 REDUCE, 2 GATHER, 3 DISPATCH, 4 FILTER; 0 while FREE. -/
def Job.kind (j : Job) : Nat := j.f 0 1
def Job.chain (j : Job) : Bool := bitAt (j.f 1 1) 0
def Job.outTc (j : Job) : Nat := j.f 2 1
def Job.outAddr (j : Job) : Word64 := j.addr 8
/-- REDUCE. -/
def Job.mode (j : Job) : Nat := j.f 48 1
def Job.air (j : Job) : Bool := decide (j.mode = 1) || decide (j.mode = 2)
def Job.chunkLog (j : Job) : Nat := j.f 50 1
def Job.contribs (j : Job) : Nat := j.f 52 2
def Job.firstMs (j : Job) : Nat := j.f 54 2
def Job.msCount (j : Job) : Nat := j.f 56 1
def Job.openChunks (j : Job) : Nat := j.f 57 1
def Job.elems (j : Job) : Nat := j.f 60 4
def Job.parent (j : Job) : Word64 := j.addr 64
def Job.root (j : Job) : Bool := decide (j.f 64 8 = 0)
def Job.chunkCount (j : Job) : Nat := ceilDiv j.elems (2 ^ j.chunkLog)
/-- Elements of chunk k (R208). -/
def Job.chunkElems (j : Job) (k : Nat) : Nat := min (2 ^ j.chunkLog) (j.elems - k * 2 ^ j.chunkLog)
/-- Bytes of a staging slot (R206). -/
def Job.slotBytes (j : Job) : Nat := (if j.mode = 2 then 8 else 4) * 2 ^ j.chunkLog
/-- Millstones of the job. -/
def Job.millstones (j : Job) : List Nat := (List.range j.msCount).map (fun i => j.firstMs + i)
/-- GATHER, DISPATCH and FILTER: stream mode, and bytes of an element, token or record. -/
def Job.stream (j : Job) : Bool := decide (j.f 48 1 = 1)
def Job.itemBytes (j : Job) : Nat := j.f 52 4
/-- Elements, tokens or records of the source. -/
def Job.srcCount (j : Job) : Nat := if j.kind = 2 then j.f 72 4 else if j.kind = 3 then j.f 68 4 else j.f 64 4
/-- The FLUME or BOLTER byte. -/
def Job.unitByte (j : Job) : Nat := j.f 50 1
def Job.topkMode (j : Job) : Nat := j.f 72 1

/-- The wire format's bytes for an element (R195, R203). -/
def wireBytes (fmt : Nat) : Nat := if fmt < 2 then 2 else if fmt = 4 then 8 else if fmt = 5 ∨ fmt = 6 then 1 else 4
/-- A partial of the job's mode (R203, R215). -/
def Job.partialFmt (j : Job) : Nat := if j.mode = 0 then 2 else if j.mode = 1 then 3 else if j.mode = 2 then 4 else 5
/-- The job takes the wire format (R195, R203). -/
def Job.takes (j : Job) (fmt : Nat) : Bool :=
  if j.kind ≠ 1 then decide (fmt = 6)
  else if j.mode = 3 then decide (fmt = 5) else decide (fmt < 3) || (j.air && decide (fmt = j.partialFmt))
/-- Cost of an element (R203). -/
def Job.cost (j : Job) (fmt : Nat) : Nat :=
  if j.mode = 0 then (if fmt = 2 then 4 else 2) else if j.mode = 1 then 4 else if j.mode = 2 then 8 else 1

/-! ### Term records of a FILTER (R224) -/

def termBytes (type : Nat) : Nat :=
  if type = 1 then 1 else if type = 2 ∨ type = 8 ∨ type = 9 then 2 else if type = 5 ∨ type = 6 then 8 else 4
def termFmt (type : Nat) : Option Fmt :=
  if type = 7 then some fp32 else if type = 8 then some bf16 else if type = 9 then some fp16 else none
def Job.term (j : Job) (k off n : Nat) : Nat := j.f (128 + 32 * k + off) n

/-- A term that open refuses. -/
def Job.termBad (j : Job) (k : Nat) : Option Status :=
  let off := j.term k 0 2
  let type := j.term k 2 1
  let op := j.term k 3 1
  if j.term k 4 4 ≠ 0 ∨ j.term k 24 8 ≠ 0 then some .rsvd
  else if type = 0 ∨ 9 < type ∨ op = 0 ∨ 9 < op then some .param
  else if 8 ≤ op ∧ (termFmt type).isSome then some .param
  else if off % termBytes type ≠ 0 ∨ j.itemBytes < off + termBytes type then some .param
  else none

/-! ### Units (R190, R220) -/

/-- The unit of a key of `unitSlot` and of the job queues: m, 256 + f, 512 + b. -/
def hcuLoc (key : Nat) : UnitLoc :=
  if key < 256 then .hcu (key / 16) (key / 4 % 4) (key % 4)
  else if key < 512 then .hcu ((key - 256) / 4) ((key - 256) % 4) 4
  else .hcu ((key - 512) / 4) ((key - 512) % 4) 5
/-- The plan slot that holds a unit (R50). -/
def State.hcuSlot (s : State) (key : Nat) : Option Nat := Store.read none s.hcu.unitSlot key
/-- First key of the job's kind of unit. -/
def Job.unitBase (j : Job) : Nat := if j.kind = 4 then 512 else 256
/-- The queue of a Flume or Bolter. -/
def State.hcuQueue (s : State) (key : Nat) : List Nat := Store.read [] s.hcu.fbQueues key
/-- The job a unit runs. -/
def State.hcuRunning (s : State) (key : Nat) : Option Nat :=
  (s.hcu.jobs.find? (fun e => decide (e.2.servedBy = some key) && e.2.running)).map (·.1)

/-- The shortest queue of a list of units, the lowest of equals. -/
def State.shortest (s : State) : List Nat → Option Nat
  | [] => none
  | k :: t => match s.shortest t with
    | none => some k
    | some b => if (s.hcuQueue k).length ≤ (s.hcuQueue b).length then some k else some b

/-- The unit a job takes (R220): the one it names, or for 0xFF the first free dynamic one or the one with the shortest queue,
of those whose admission is open (R539). -/
def State.unitFor (s : State) (j : Job) : Option Nat :=
  if j.unitByte ≠ 0xFF then some (j.unitBase + j.unitByte)
  else
    let dyn := ((List.range 36).map (fun p => j.unitBase + p)).filter (fun k =>
      s.present (hcuLoc k) && decide (s.hcuSlot k = none) && !(s.closed (hcuLoc k)))
    match dyn.find? (fun k => decide (s.hcuRunning k = none)) with
    | some k => some k
    | none => s.shortest dyn

/-! ### What an open checks -/

/-- A range that a job reads: on the job's node, in REGION 0x0 (E_PARAM), in a partition of the tenant (E_ACCESS) (R196). -/
def State.hcuRange (s : State) (tenant : Nat) (a : Word64) (len : Nat) : Option Status :=
  if !s.isHere (addrNode a) ∨ addrRegion a ≠ 0 then some .param
  else if (s.poolCheck (addrOffset a) len tenant none .get).isSome then some .access else none

/-- The first refusal of a list. -/
def firstBad : List (Bool × Status) → Option Status
  | [] => none
  | (c, st) :: t => if c then some st else firstBad t

/-- Checks of the common header (R196). -/
def headerBad (j : Job) (plan : Bool) : Option Status :=
  firstBad [
    (decide (j.kind = 0 ∨ 4 < j.kind), .rsvd), (decide (1 < j.f 1 1), .rsvd), (decide (j.f 3 1 ≠ 0), .rsvd),
    (decide (j.f 36 4 ≠ 0 ∨ j.f 40 8 ≠ 0), .rsvd),
    (if plan then decide (j.outTc ≠ 0) else decide (j.outTc = 0 ∨ 15 < j.outTc), .param),
    (j.chain && (isMulticast (addrNode j.outAddr) || decide (addrRegion j.outAddr ≠ 0)), .param),
    (decide (j.f 24 8 ≠ 0) && (decide (addrRegion (j.addr 24) ≠ 3) || decide (addrOffset (j.addr 24) % 64 ≠ 0)), .param),
    (decide (j.kind = 3 ∧ j.f 8 8 ≠ 0), .param)]

/-- Checks of a REDUCE body (R203-R206). -/
def reduceBad (j : Job) : Option Status :=
  firstBad [
    (decide (j.f 73 3 ≠ 0 ∨ j.f 90 2 ≠ 0 ∨ j.f 104 152 ≠ 0 ∨ bitAt (j.f 88 2) 14 = true), .rsvd),
    (decide (3 < j.mode), .param),
    (if j.mode = 3 then decide (j.f 49 1 ≠ 0) else decide (j.f 49 1 = 0 ∨ 3 < j.f 49 1), .param),
    (decide (j.chunkLog < 8 ∨ 11 < j.chunkLog), .param),
    (if j.air then decide (j.f 51 1 < 5 ∨ j.chunkLog < j.f 51 1) else decide (j.f 51 1 ≠ 0), .param),
    (decide (j.contribs = 0 ∨ 4096 < j.contribs), .param),
    (decide (j.msCount = 0 ∨ 144 < j.firstMs + j.msCount), .param),
    (decide (j.openChunks = 0 ∨ 64 < j.openChunks), .param),
    (decide (j.elems = 0 ∨ 2 ^ 31 ≤ j.elems), .param),
    (!j.root && (isMulticast (addrNode j.parent) || decide (addrRegion j.parent ≠ 0) || decide (addrOffset j.parent % 2 ^ 32 ≠ 0)), .param),
    (j.air && (!(bitAt (j.f 88 2) 15) || decide (j.f 80 8 = 0)), .param),
    (j.root && decide (j.mode = 1 ∧ 1023 < j.f 76 4), .param),
    (j.root && decide (j.mode = 2 ∧ 131071 < j.f 76 4), .param),
    (!j.root && decide (j.f 8 8 ≠ 0 ∨ j.f 96 8 ≠ 0 ∨ j.f 76 4 ≠ 0), .param)]

/-- Ranges a record names, as field offset, bytes and alignment. -/
def Job.reads (j : Job) : List (Nat × Nat × Nat) :=
  match j.kind with
  | 1 => if j.air then [(80, ceilDiv j.elems (2 ^ j.f 51 1), 1)] else []
  | 2 => [(80, 4 * j.f 76 4, 4)] ++
      (if j.stream then [(88, 8 * j.f 76 4, 64)] else [(56, (j.srcCount - 1) * j.f 64 8 + j.itemBytes, 1)])
  | 3 => [(72, 4 * j.srcCount * j.f 49 1, 1), (80, 32 * j.f 64 2, 64), (88, 4 * j.srcCount * j.f 49 1, 1)] ++
      (if j.stream then [] else [(56, j.srcCount * j.itemBytes, 1)])
  | _ => (if j.stream then [] else [(56, j.srcCount * j.itemBytes, 1)]) ++
      ((List.range (j.f 51 1)).filter (fun k => decide (j.term k 3 1 = 8))).map (fun k => (136 + 32 * k, ceilDiv (j.term k 16 8) 8, 1))

/-- Checks of a GATHER, DISPATCH or FILTER body (R218, R221, R223, R224). -/
def gatherBad (j : Job) : Option Status :=
  firstBad [
    (decide (j.f 51 1 ≠ 0 ∨ j.f 96 160 ≠ 0), .rsvd), (decide (1 < j.f 48 1 ∨ 1 < j.f 49 1), .param),
    (decide (j.itemBytes < 4 ∨ 65536 < j.itemBytes ∨ j.itemBytes % 4 ≠ 0), .param),
    (decide (j.srcCount = 0 ∨ j.f 76 4 = 0 ∨ 2 ^ 28 < j.f 76 4), .param),
    (if j.stream then decide (j.f 56 8 ≠ 0 ∨ j.f 64 8 ≠ 0)
      else decide (j.f 64 8 % 4 ≠ 0 ∨ j.f 64 8 < j.itemBytes ∨ j.f 88 8 ≠ 0), .param)]
def dispatchBad (j : Job) : Option Status :=
  firstBad [
    (decide (j.f 51 1 ≠ 0 ∨ j.f 66 2 ≠ 0 ∨ j.f 96 160 ≠ 0), .rsvd), (decide (1 < j.f 48 1), .param),
    (decide (j.f 49 1 = 0 ∨ 8 < j.f 49 1), .param),
    (decide (j.itemBytes < 64 ∨ 65536 < j.itemBytes ∨ j.itemBytes % 64 ≠ 0), .param),
    (decide (j.f 64 2 = 0 ∨ 4096 < j.f 64 2 ∨ j.srcCount = 0 ∨ 2 ^ 24 < j.srcCount), .param),
    (j.stream && decide (j.f 56 8 ≠ 0), .param)]
def filterBad (j : Job) : Option Status :=
  let terms := (List.range (min 4 (j.f 51 1))).filterMap j.termBad
  let key := termBytes (j.f 73 1)
  match firstBad [
    (decide (j.f 78 50 ≠ 0), .rsvd), (decide (1 < j.f 48 1 ∨ 2 < j.f 49 1 ∨ 4 < j.f 51 1), .param),
    (decide (j.f 49 1 = 2 ∧ j.f 51 1 ≠ 4), .param),
    (decide (j.itemBytes < 8 ∨ 4096 < j.itemBytes ∨ j.itemBytes % 8 ≠ 0 ∨ j.srcCount = 0), .param),
    (j.stream && decide (j.f 56 8 ≠ 0), .param), (decide (2 < j.topkMode), .param),
    (decide (j.topkMode ≠ 0 ∧ (j.f 73 1 = 0 ∨ 9 < j.f 73 1 ∨ j.f 76 2 = 0 ∨ 1024 < j.f 76 2)), .param),
    (decide (j.topkMode ≠ 0 ∧ (j.f 74 2 % key ≠ 0 ∨ j.itemBytes < j.f 74 2 + key)), .param)] with
  | some st => some st
  | none => terms.head?

/-- Checks of a record that look at nothing but it. -/
def bodyBad (j : Job) : Option Status :=
  match j.kind with
  | 1 => reduceBad j
  | 2 => gatherBad j
  | 3 => dispatchBad j
  | _ => filterBad j

/-- Addresses of a record (R196). -/
def State.readsBad (s : State) (tenant : Nat) (j : Job) : Option Status :=
  j.reads.findSome? (fun r => if (j.f r.1 8) % r.2.2 ≠ 0 then some .param else s.hcuRange tenant (j.addr r.1) r.2.1)

/-- Free staging of a Millstone for dynamic jobs (R206, R207): 512 KiB less what jobs and claims hold. -/
def State.stagingFree (s : State) (m : Nat) : Nat :=
  524288 - Store.read 0 s.hcu.staging m - ((Store.read [] s.hcu.stagingClaims m).map (·.2)).sum

/-- Staging of a slot's claims on a Millstone that no job of the slot holds. -/
def State.stagingClaim (s : State) (slot m : Nat) : Nat :=
  (((Store.read [] s.hcu.stagingClaims m).filter (fun e => decide (e.1 = slot))).map (·.2)).sum -
  ((s.hcu.jobs.filter (fun e => decide (e.2.slot = some slot) && (decide (e.2.state = .waiting) || decide (e.2.state = .opened)) &&
    decide (e.2.kind = 1) && e.2.millstones.contains m)).map (fun e => e.2.openChunks * e.2.slotBytes)).sum

/-- What a dynamic open needs of the units (R5, R206, R220, R536, R539). -/
def State.unitsBad (s : State) (j : Job) : Option Response :=
  let full := some (refusal .nospace .capacity)
  let shut := some (refusal .busy .unitState)
  if j.kind = 1 then
    if j.millstones.any (fun m => decide (s.hcuSlot m ≠ none)) then some (refusal .access)
    else if j.millstones.any (fun m => !s.present (hcuLoc m)) then full
    else if j.millstones.any (fun m => s.closed (hcuLoc m)) then shut
    else if j.millstones.any (fun m => decide (s.stagingFree m < j.openChunks * j.slotBytes)) then full
    else none
  else if j.unitByte ≠ 0xFF ∧ 36 ≤ j.unitByte then some (refusal .param)
  else match s.unitFor j with
    | none => full
    | some k =>
      if s.hcuSlot k ≠ none then some (refusal .access)
      else if !s.present (hcuLoc k) then full
      else if s.closed (hcuLoc k) then shut
      else if 64 ≤ (s.hcuQueue k).length then full else none

/-- The refusal of an open once its record has been read. -/
def State.openBad (s : State) (tenant : Nat) (j : Job) : Option Response :=
  match headerBad j false with
  | some st => some (refusal st)
  | none => match bodyBad j with
    | some st => some (refusal st)
    | none => match s.readsBad tenant j with
      | some st => some (refusal st)
      | none => match s.unitsBad j with
        | some r => some r
        | none => if s.quotaFree (ownerIx tenant) < j.f 32 4 then some (refusal .nospace .bufferQuota) else none

/-- Epochs run 1-255 and skip 0 (R194). -/
def nextEpoch (e : Nat) : Nat := if 255 ≤ e then 1 else e + 1

/-- The job is open: WAITING in an AIR mode, else OPEN (R197, R212); its unit queues it (R220) or its staging is reserved (R207). -/
def State.startJob (s : State) (n tenant tc : Nat) (slot : Option Nat) (record : List Byte) : State :=
  let old := s.job n
  let j : Job := { epoch := nextEpoch old.epoch, tenant := tenant, record := record, tc := tc, slot := slot, activeAt := s.now }
  let st : JobState := if j.kind = 1 ∧ j.air then .waiting else .opened
  let unit := if j.kind = 1 then none else s.unitFor j
  let s1 := s.setJob n { j with state := st, ovfCells := j.f 32 4, servedBy := unit }
  if j.kind = 1 then
    if slot.isSome then s1
    else { s1 with hcu := { s1.hcu with
      staging := j.millstones.foldl (fun (m : Store Nat) x => Store.write 0 m x (Store.read 0 m x + j.openChunks * j.slotBytes)) s1.hcu.staging } }
  else match unit with
    | none => s1
    | some k => { s1 with hcu := { s1.hcu with fbQueues := Store.write [] s1.hcu.fbQueues k (s1.hcuQueue k ++ [n]) } }

/-! ### The end of a job (R201, R202, R215) -/

/-- The issuer of a job's own accesses. -/
def State.jobIssuer (s : State) (j : Job) : Issuer := { src := .mgmt, tenant := j.tenant, node := s.nodeId }

/-- The 32 bytes of the report (R201). -/
def Job.report (j : Job) (n ftc : Nat) : List Byte :=
  [BitVec.ofNat 8 j.status.code, j.flags] ++ natLe 2 n ++ [BitVec.ofNat 8 j.epoch, BitVec.ofNat 8 j.reason.code, 0, 0] ++
    natLe 8 j.count1 ++ natLe 8 j.count2 ++ natLe 8 ftc

/-- Bytes a job puts: here at once, elsewhere as an operation. -/
def State.jobPutBytes (s : State) (j : Job) (tc : Nat) (addr : Word64) (bs : List Byte) : Status × State :=
  if s.isHere (addrNode addr) then s.writeLocal (s.jobIssuer j) tc addr bs
  else (.ok, s.emit (.operation
    { op := 1, req := { issuer := s.jobIssuer j, tc := tc, target := addr }, length := bs.length, data := bs }))

/-- Held JOB_PUTs of a job end (R202). -/
def State.flushHeld (s : State) (n : Nat) : State :=
  let mine := s.hcu.held.filter (fun h => decide (h.job = n))
  let s1 := { s with hcu := { s.hcu with held := s.hcu.held.filter (fun h => decide (h.job ≠ n)) } }
  mine.foldl (fun (t : State) h => t.respond h.req 0x21 (refusal .flushed)) s1

/-- Inputs not yet consumed go, and JOB_PUTs not yet answered end. -/
def State.dropInputs (s : State) (n : Nat) : State :=
  let mine := s.hcu.inputs.filter (fun x => decide (x.job = n))
  let s1 := { s with hcu := { s.hcu with inputs := s.hcu.inputs.filter (fun x => decide (x.job ≠ n)) } }
  ((mine.filter (fun x => x.late && !x.answered)).map (·.req)).dedup.foldl
    (fun (t : State) r => t.respond r 0x21 (refusal .flushed)) s1

/-- Staging, overflow cells and the unit's queue are given back (R196, R207, R220). -/
def State.jobRelinquish (s : State) (n : Nat) : State :=
  let j := s.job n
  let live := decide (j.state = .waiting) || decide (j.state = .opened)
  let s1 := if j.kind = 1 ∧ j.slot = none ∧ live then { s with hcu := { s.hcu with
      staging := j.millstones.foldl (fun (m : Store Nat) x => Store.write 0 m x (Store.read 0 m x - j.openChunks * j.slotBytes)) s.hcu.staging } }
    else s
  let s2 := match j.servedBy with
    | some k => { s1 with hcu := { s1.hcu with
        fbQueues := Store.write [] s1.hcu.fbQueues k ((s1.hcuQueue k).filter (fun x => decide (x ≠ n))) } }
    | none => s1
  s2.setJob n { s2.job n with ovfCells := 0, ovfUsed := 0, running := false, chunks := [] }

/-- The job becomes DONE or FAULTED: report, notify and event (R201); a member of a tree tells its parent of a fault (R215). -/
def State.jobEnd (s : State) (n : Nat) (final : JobState) (st : Status) (reason : Reason) : State :=
  let s1 := (s.dropInputs n).jobRelinquish n
  let j := { s1.job n with state := final, status := st, reason := reason }
  let s2 := s1.setJob n j
  let s3 := if j.f 16 8 = 0 then s2 else (s2.jobPutBytes j j.outTc (j.addr 16) (j.report n s2.ftc)).2
  let s4 := (s3.notifyAddr (j.addr 24) j.outTc (s3.jobIssuer j)).2
  let s5 := s4.eventOpen 0x02C (s4.path .hub) st n
  let s6 := if final = .faulted ∧ j.kind = 1 ∧ !j.root then s5.emit (.operation
      { op := 0x20, req := { issuer := s5.jobIssuer j, tc := j.outTc, md := 2, target := j.parent }, operand1 := BitVec.ofNat 64 st.code })
    else s5
  s6.flushHeld n

/-- A WAITING or OPEN job faults (R202). -/
def State.jobFault (s : State) (n : Nat) (st : Status) (reason : Reason := .none) : State :=
  let j := s.job n
  if j.state = .waiting ∨ j.state = .opened then s.jobEnd n .faulted st reason else s

/-- A job whose output is all issued and acknowledged becomes DONE (R216, R219). -/
def State.jobCheck (s : State) (n : Nat) : State :=
  let j := s.job n
  if j.state = .opened ∧ j.allIssued ∧ j.unacked = 0 then s.jobEnd n .done .ok .none else s

/-! ### JOB_CTL (R194, R196, R197) -/

/-- JOB and OFFSET of a job address (R193). -/
def jobNumber (a : Word64) : Nat := bitsOf a.toNat 43 32
def jobOffset (a : Word64) : Nat := bitsOf a.toNat 31 0

/-- What every JOB_CTL passes: its address (R193), LENGTH, and that the job is dynamic (R192). -/
def jobCtl (o : Operation) (useLocal : Bool) (k : Nat → State → State) (t : State) : State :=
  let no := fun (st : Status) => t.respond o.req o.op (refusal st)
  if addrRegion o.req.target ≠ 0 ∨ jobOffset o.req.target ≠ 0 ∨ o.length ≠ 0 ∨ (!useLocal && decide (o.req.localA ≠ 0)) = true then no .param
  else if 3072 ≤ jobNumber o.req.target then no .access
  else k (jobNumber o.req.target) t

/-- OPEN (R196, R197, R206): the record is read, checked, and the job opened; RESULT carries the new epoch. -/
def execJobOpen (o : Operation) (s : State) : Result :=
  .next (s.homeOp o false 0xF0 (jobCtl o true (fun n t =>
    let no := fun (r : Response) => t.respond o.req o.op r
    let tenant := o.req.issuer.tenant
    if (t.job n).state ≠ .free then no (refusal .busy)
    else if o.req.localA.toNat % 64 ≠ 0 then no (refusal .align)
    else match t.hcuRange tenant o.req.localA 256 with
      | some st => no (refusal st)
      | none => match t.serviceRead (addrOffset o.req.localA) 256 tenant .get with
        | .error st => no (served st)
        | .ok rec => match t.openBad tenant { record := rec } with
          | some r => no r
          | none =>
            let u := (t.used (addrOffset o.req.localA) 256 tenant).startJob n tenant o.req.tc none rec
            u.respond o.req o.op (served .ok (BitVec.ofNat 64 (u.job n).epoch)))))

/-- ABORT, by the tenant or as a child's fault notice (R197, R215), which carries its STATUS. -/
def State.jobAbort (t : State) (n : Nat) (st : Status) : Option Status × State :=
  let j := t.job n
  if j.state = .waiting ∨ j.state = .opened then (none, t.jobFault n st) else (some .param, t)

def execJobAbort (o : Operation) (s : State) : Result :=
  .next (s.homeOp o false 0xF0 (jobCtl o false (fun n t =>
    let j := t.job n
    if j.state ≠ .free ∧ j.tenant ≠ o.req.issuer.tenant then t.respond o.req o.op (refusal .access)
    else
      let r := t.jobAbort n (if o.operand1 = 0 then .flushed else statusOf (o.operand1.toNat % 256))
      r.2.respond o.req o.op (match r.1 with | some st => refusal st | none => served))))

/-- RELEASE (R197); of a FREE job, which no rule accepts, E_PARAM. -/
def execJobRelease (o : Operation) (s : State) : Result :=
  .next (s.homeOp o false 0xF0 (jobCtl o false (fun n t =>
    let j := t.job n
    let no := fun (st : Status) => t.respond o.req o.op (refusal st)
    if j.state = .free then no .param
    else if j.tenant ≠ o.req.issuer.tenant then no .access
    else if j.state = .waiting ∨ j.state = .opened then no .busy
    else (t.setJob n { epoch := j.epoch }).respond o.req o.op (served))))

/-- A write of job_abort (R229): as ABORT, from management. -/
def State.jobAbortWrite (s : State) (p : DictPath) (n : Nat) : State :=
  let r := s.jobAbort n .flushed
  if 3072 ≤ n then s.openWrite (.dict p) O.jobAbort (some (refusal .range)) id
  else s.openWrite (.dict p) O.jobAbort (r.1.map (fun st => refusal st)) (fun u => (u.jobAbort n .flushed).2)

end Sys2Proof.Machine
end

