-- ==== Sys2Proof/Machine/HcuRun.lean ====
section
/-! DEFINITION. Work of the hub compute units (chapter 05): inputs accepted, parked and held (R198-R200), sums (R208-R214), delivery
(R215, R216), gathers and dispatches (R218-R222), filters (R223-R225). -/

namespace Sys2Proof.Machine

/-! ### Windows (R209) -/

def Job.done (j : Job) (k : Nat) : Bool := (Store.read ({} : Chunk) j.chunks k).complete

/-- The lowest chunk of a Millstone's share that is not complete. -/
def Job.windowBase (j : Job) : Nat → Nat → Nat
  | 0, k => k
  | n + 1, k => if j.done k then j.windowBase n (k + j.msCount) else k

/-- The chunk is inside its Millstone's window. -/
def Job.inWindow (j : Job) (k : Nat) : Bool :=
  decide ((k - j.windowBase j.chunks.length (k % j.msCount)) / j.msCount < j.openChunks)

/-! ### Output (R215, R216, R219, R226) -/

/-- Counters of the unit that serves a job. -/
def State.unitRead (s : State) (n key bytes : Nat) : State :=
  let j := s.job n
  (s.bumpN (O.hcuUnitInputBytes (unitIndex (hcuLoc key))) bytes).meter j.tenant (if j.kind = 1 then 0x0A else 0x0B) bytes

/-- Descriptor bytes 48-63 of a JOB_PUT (R195). -/
def putParams (contrib epoch fmt check : Nat) (flags : BitVec 8) : List Byte :=
  natLe 2 contrib ++ [BitVec.ofNat 8 epoch, BitVec.ofNat 8 fmt] ++ natLe 2 check ++ [flags] ++ List.replicate 9 0

/-- A piece of output leaves, as a put or to another job; a plan job's waits for its exchange (R216, R226, R227). A local put that
fails ends the job (R202). -/
def State.jobOut (s : State) (n key : Nat) (addr : Word64) (tc fmt : Nat) (chain : Bool) (bs : List Byte) : State :=
  let j := s.job n
  if j.state ≠ .opened then s
  else
    let s1 := (s.bumpN (O.hcuUnitOutputBytes (unitIndex (hcuLoc key))) bs.length).setJob n { j with unacked := j.unacked + 1, activeAt := s.now }
    if j.slot.isSome then
      let k := s1.job n
      s1.setJob n { k with outbox := k.outbox ++ [(addr.toNat, bs)] }
    else if chain then
      let r : Req := { issuer := s1.jobIssuer j, tc := tc, target := addr }
      s1.emit (.operation { op := 0x21, req := r, length := bs.length, data := bs, params := putParams 0 0 fmt 0 0 })
    else
      let r := s1.jobPutBytes j tc addr bs
      if r.1 = .ok then r.2 else r.2.jobFault n r.1

/-- Output number `pos` bytes into the destination of a GATHER or FILTER. -/
def State.packedOut (s : State) (n pos : Nat) (bs : List Byte) : State :=
  let j := s.job n
  s.jobOut n (j.servedBy.getD 0) (j.outAddr + BitVec.ofNat 64 pos) j.outTc 6 j.chain bs

/-! ### Summation (R203, R210-R214) -/

def fInexact : BitVec 8 := 1
def fElemSat : BitVec 8 := 2
def fSumSat : BitVec 8 := 4
def fNanBlock : BitVec 8 := 8
def fOutOvf : BitVec 8 := 16

def wireFmt (fmt : Nat) : Fmt := if fmt = 0 then bf16 else if fmt = 1 then fp16 else fp32
def outFmt (code : Nat) : Fmt := if code = 2 then bf16 else if code = 3 then fp16 else fp32

/-- Exponent code of the block of element e of the input (R211). -/
def Job.expCode (j : Job) (e : Nat) : Nat := ((j.expVec.getD [])[e / 2 ^ j.f 51 1]?.getD 0).toNat

/-- Fraction bits of the mode: S (R213). -/
def Job.scaleS (j : Job) : Nat := if j.mode = 1 then 20 else 45
def Job.partWidth (j : Job) : Nat := if j.mode = 1 then 32 else 64

/-- Alignment of one element (R213): its integer and flags. What stands for a NaN, or in a block without exponent, is free. -/
def Job.align (j : Job) (f e : Nat) (x : FVal) : Int × BitVec 8 :=
  let code := j.expCode e
  let lim : Nat := 2 ^ (j.scaleS + 1)
  let free : Int := (Config.freeNat f % (2 * lim + 1) : Nat) - (lim : Int)
  if code = 0xFF then (free, 0)
  else match x with
    | .nan => (free, 0)
    | .inf neg => (signed neg lim, fElemSat)
    | .fin neg mag exp =>
      let ex : Int := exp + j.scaleS - ((max 1 code : Nat) - 127 : Int)
      let m := roundTo .rne mag ex 0
      let changed := decide (ex < 0) && decide (m * 2 ^ (-ex).toNat ≠ mag)
      let fl : BitVec 8 := if changed then fInexact else 0
      if lim < m then (signed neg lim, fl ||| fElemSat) else (signed neg m, fl)

/-- Saturating sum at a width (R213). -/
def satAdd (w : Nat) (a b : Int) : Int × BitVec 8 :=
  let x := a + b
  if x < -(2 ^ (w - 1)) then (-(2 ^ (w - 1)), fSumSat) else if 2 ^ (w - 1) - 1 < x then (2 ^ (w - 1) - 1, fSumSat) else (x, 0)

/-- An addition of two finite FP32 values gave an infinity. -/
def addOvf (a b : Word32) : Bool := (rd32 (fp32Add a b)).isInf && !(rd32 a).isInf && !(rd32 b).isInf

/-- One element of an input as the slot holds it, with its flags (R210, R211, R213). -/
def Job.slotValue (j : Job) (fmt f e bits : Nat) : Int × BitVec 8 :=
  if j.mode = 0 then ((fp32.convert .rne false ((wireFmt fmt).read bits)).1, 0)
  else if j.mode = 3 then (bits, 0)
  else if fmt < 3 then j.align f e ((wireFmt fmt).read bits)
  else (intVal j.partWidth bits, 0)

/-- FP32 inputs of FP32 mode keep their pattern (R210). -/
def Job.slotBits (j : Job) (fmt f e bits : Nat) : Int × BitVec 8 :=
  if j.mode = 0 ∧ fmt = 2 then (bits, 0) else j.slotValue fmt f e bits

/-- Two slot values combined (R210, R211, R213). -/
def Job.combine (j : Job) (a b : Int) : Int × BitVec 8 :=
  if j.mode = 0 then
    let x := BitVec.ofInt 32 a
    let y := BitVec.ofInt 32 b
    (((fp32Add x y).toNat : Int), if addOvf x y then fOutOvf else 0)
  else if j.mode = 3 then (max a b, 0)
  else satAdd j.partWidth a b

def orFlags (l : List (Int × BitVec 8)) : BitVec 8 := l.foldl (fun x e => x ||| e.2) 0

/-- A chunk's slot with one more input (R210): the first fills it. -/
def Job.sumInto (j : Job) (f : Nat) (c : Chunk) (x : JobInput) : Chunk :=
  let eb := wireBytes x.fmt
  let first := x.chunk * 2 ^ j.chunkLog
  let ins := (List.range (x.data.length / eb)).map (fun i => j.slotBits x.fmt (f + i) (first + i) (fieldAt x.data (i * eb) eb))
  let vals := if c.inputs = 0 then ins.map (fun v => (v.1, (0 : BitVec 8)))
    else (c.values.zip ins).map (fun p => j.combine p.1 p.2.1)
  { c with values := vals.map (·.1), inputs := c.inputs + 1, flags := c.flags ||| x.flags ||| orFlags ins ||| orFlags vals }

/-- One result element at the root, as bits of OUT_FMT, with its flags (R213, R216). -/
def Job.result (j : Job) (e : Nat) (v : Int) : Nat × BitVec 8 :=
  let fm := outFmt (j.f 49 1)
  if j.mode = 3 then (v.toNat, 0)
  else if j.mode = 0 then
    let x := fp32.read v.toNat
    if j.f 49 1 = 1 then (v.toNat, if x.isNan then fNanBlock else 0)
    else
      let r := fm.convert .rne false x
      (r.1, (if x.isNan then fNanBlock else 0) ||| (if bitAt r.2 1 then fOutOvf else 0))
  else
    let code := j.expCode e
    if code = 0xFF then (fm.nan, fNanBlock)
    else
      let r := fm.convert .rne false (.fin (decide (v < 0)) v.natAbs (((max 1 code : Nat) : Int) - 127 - j.scaleS))
      (r.1, if bitAt r.2 1 then fOutOvf else 0)

/-- The chunk's partial as bytes (R215). -/
def Job.partialBytes (j : Job) (c : Chunk) : List Byte :=
  c.values.flatMap (fun v => natLe (wireBytes j.partialFmt) (BitVec.ofInt 64 v).toNat)

/-- A complete chunk is delivered to the parent (R215), or at the root, after its flag byte, to the destination (R214, R216). -/
def State.deliver (s : State) (n k : Nat) : State :=
  let j := s.job n
  let c := Store.read ({} : Chunk) j.chunks k
  let key := j.firstMs + k % j.msCount
  let count := fun (t : State) (fl : BitVec 8) =>
    let t1 := if fl &&& (fElemSat ||| fSumSat) ≠ 0 then t.bump O.saturatedChunks else t
    if fl &&& fNanBlock ≠ 0 then t1.bump O.nanChunks else t1
  let freed : Chunk := { complete := true }
  if j.root then
    let rs := ((List.range c.values.length).zip c.values).map (fun p => j.result (k * 2 ^ j.chunkLog + p.1) p.2)
    let fl := rs.foldl (fun x r => x ||| r.2) c.flags
    let eb := if j.mode = 3 then 1 else (outFmt (j.f 49 1)).width / 8
    let s1 := (count s fl).setJob n { j with chunks := Store.write ({} : Chunk) j.chunks k freed, count1 := j.count1 + 1, flags := j.flags ||| fl }
    let s2 := if j.f 96 8 = 0 then s1 else s1.jobOut n key (j.addr 96 + BitVec.ofNat 64 k) j.outTc 6 false [fl]
    s2.jobOut n key (j.outAddr + BitVec.ofNat 64 (k * 2 ^ j.chunkLog * eb)) j.outTc
      (if j.mode = 3 then 5 else if j.f 49 1 = 2 then 0 else if j.f 49 1 = 3 then 1 else 2) j.chain (rs.flatMap (fun r => natLe eb r.1))
  else
    let bytes := j.partialBytes c
    let s1 := (count s c.flags).setJob n { j with
      chunks := Store.write ({} : Chunk) j.chunks k freed, count1 := j.count1 + 1, flags := j.flags ||| c.flags
      unacked := j.unacked + 1, activeAt := s.now }
    let at_ := j.parent + BitVec.ofNat 64 (k * 2 ^ j.chunkLog * wireBytes j.partialFmt)
    let r : Req := { issuer := s1.jobIssuer j, tc := j.outTc, target := at_ }
    let ps := putParams (j.f 58 2) (j.f 72 1) j.partialFmt (if j.air then j.expCheck else 0) c.flags
    let o : Operation := { op := 0x21, req := r, length := bytes.length, data := bytes, params := ps }
    let s2 := s1.bumpN (O.hcuUnitOutputBytes (unitIndex (hcuLoc key))) bytes.length
    if j.slot.isSome then
      let i := s2.job n
      s2.setJob n { i with outbox := i.outbox ++ [(o.req.target.toNat, bytes)] }
    else s2.emit (.operation o)

/-! ### Gathers and dispatches (R219, R222) -/

/-- A source row or element goes to every output that names it. -/
def State.placeRow (s : State) (n i : Nat) (bs : List Byte) : State :=
  let j := s.job n
  if j.kind = 2 then
    let outs := (List.range j.index.length).filter (fun p => decide (j.index[p]? = some i))
    outs.foldl (fun (t : State) p =>
      let u := t.packedOut n (p * j.itemBytes) bs
      u.setJob n { u.job n with count1 := (u.job n).count1 + 1 }) s
  else
    (j.places.filter (fun p => decide (p.token = i))).foldl (fun (t : State) p =>
      match t.serviceRead (addrOffset (j.addr 80) + 32 * p.expert) 32 j.tenant .get with
      | .error st => t.jobFault n st
      | .ok row =>
        let t := t.used (addrOffset (j.addr 80) + 32 * p.expert) 32 j.tenant
        let key := j.servedBy.getD 0
        let t1 := t.jobOut n key (BitVec.ofNat 64 (fieldAt row 0 8 + p.pos * j.itemBytes)) j.outTc 6 false bs
        let t2 := t1.setJob n { t1.job n with count1 := (t1.job n).count1 + 1 }
        if fieldAt row 8 8 = 0 then t2
        else t2.jobOut n key (BitVec.ofNat 64 (fieldAt row 8 8 + 8 * p.pos)) j.outTc 6 false
          (natLe 4 p.token ++ natLe 2 p.weight ++ [BitVec.ofNat 8 p.slot, 0])) s

/-- Positions of the valid pairs of a route list (R222): the placed pairs, pairs of each expert, entries skipped. -/
def routePairs (experts topk : Nat) : List (Nat × Nat) → Nat → List Nat → Store Nat → List Place → Nat → List Place × Store Nat × Nat
  | [], _, _, counts, acc, skipped => (acc, counts, skipped)
  | (e, w) :: t, i, seen, counts, acc, skipped =>
    let seen0 := if i % topk = 0 then [] else seen
    if e = 0xFFFF then routePairs experts topk t (i + 1) seen0 counts acc skipped
    else if experts ≤ e ∨ seen0.contains e = true then routePairs experts topk t (i + 1) seen0 counts acc (skipped + 1)
    else
      let p := Store.read 0 counts e
      routePairs experts topk t (i + 1) (e :: seen0) (Store.write 0 counts e (p + 1))
        (acc ++ [{ token := i / topk, slot := i % topk, expert := e, pos := p, weight := w }]) skipped

/-- COUNT and DROPPED of each expert's entry, at the end (R222). -/
def State.dispatchTable (s : State) (n : Nat) : State :=
  let j := s.job n
  match s.serviceRead (addrOffset (j.addr 72)) (4 * j.srcCount * j.f 49 1) j.tenant .get with
  | .error st => s.jobFault n st
  | .ok bs =>
    let routes := (List.range (j.srcCount * j.f 49 1)).map (fun i => (fieldAt bs (4 * i) 2, fieldAt bs (4 * i + 2) 2))
    let s := s.used (addrOffset (j.addr 72)) (4 * j.srcCount * j.f 49 1) j.tenant
    let counts := (routePairs (j.f 64 2) (j.f 49 1) routes 0 [] [] [] 0).2.1
    (List.range (j.f 64 2)).foldl (fun (t : State) e =>
      let at_ := addrOffset (j.addr 80) + 32 * e
      match t.serviceRead at_ 32 j.tenant .get with
      | .error st => t.jobFault n st
      | .ok row =>
        let c := Store.read 0 counts e
        let cap := fieldAt row 16 4
        let w := ((t.used at_ 32 j.tenant).bumpN O.dispatchDropped (c - cap)).serviceWrite (at_ + 20) (natLe 4 (min c cap) ++ natLe 4 (c - cap)) j.tenant .put
        if w.1 = .ok then w.2 else w.2.jobFault n w.1) s

/-! ### Filters (R224, R225) -/

/-- A field as a number of its type; none for a NaN. -/
def termValue (type bits : Nat) : Option Int :=
  match termFmt type with
  | some fm => match fm.read bits with
    | .nan => none
    | _ =>
      let m := bits % 2 ^ (fm.e + fm.m)
      some (signed (bitAt bits (fm.e + fm.m)) m)
  | none => some (if type = 4 then intVal 32 bits else if type = 6 then intVal 64 bits else bits)

/-- A record passes a term (R224); none when the bitmap cannot be read. -/
def State.termPasses (s : State) (j : Job) (k : Nat) (rec : List Byte) : Except Status Bool :=
  let type := j.term k 2 1
  let op := j.term k 3 1
  let w := termBytes type
  let raw := fieldAt rec (j.term k 0 2) w
  let a := j.term k 8 8 % 2 ^ (8 * w)
  let b := j.term k 16 8 % 2 ^ (8 * w)
  match termValue type raw with
  | none => .ok (decide (op = 2))
  | some v =>
    let cmp := fun (f : Int → Bool) => match termValue type a with | some x => f x | none => decide (op = 2)
    match op with
    | 1 => .ok (cmp (fun x => decide (v = x)))
    | 2 => .ok (cmp (fun x => decide (v ≠ x)))
    | 3 => .ok (cmp (fun x => decide (v < x)))
    | 4 => .ok (cmp (fun x => decide (v ≤ x)))
    | 5 => .ok (cmp (fun x => decide (x < v)))
    | 6 => .ok (cmp (fun x => decide (x ≤ v)))
    | 7 => .ok (cmp (fun x => decide (x ≤ v)) && (match termValue type b with | some y => decide (v ≤ y) | none => false))
    | 8 =>
      if v < 0 ∨ (j.term k 16 8 : Int) ≤ v then .ok false
      else match s.serviceRead (addrOffset (j.addr (136 + 32 * k)) + v.toNat / 8) 1 j.tenant .get with
        | .error st => .error st
        | .ok bs => .ok (bitAt (fieldAt bs 0 1) (v.toNat % 8))
    | _ => .ok (decide (raw &&& a = b))

/-- The bitmap bytes that a record's terms read (R224, R309). -/
def State.termsUsed (s : State) (j : Job) (rec : List Byte) : State :=
  (List.range (j.f 51 1)).foldl (fun (t : State) k =>
    let type := j.term k 2 1
    if j.term k 3 1 ≠ 8 then t
    else match termValue type (fieldAt rec (j.term k 0 2) (termBytes type)) with
      | none => t
      | some v => if v < 0 ∨ (j.term k 16 8 : Int) ≤ v then t
        else t.used (addrOffset (j.addr (136 + 32 * k)) + v.toNat / 8) 1 j.tenant) s

/-- A record passes the job's terms (R223). -/
def State.passes (s : State) (j : Job) (rec : List Byte) : Except Status Bool :=
  let n := j.f 51 1
  let rs := (List.range n).map (fun k => s.termPasses j k rec)
  match rs.findSome? (fun r => match r with | .error st => some st | .ok _ => none) with
  | some st => .error st
  | none =>
    let bs := rs.map (fun r => match r with | .ok b => b | .error _ => false)
    let g := fun i => bs[i]?.getD false
    .ok (if n = 0 then true else if j.f 49 1 = 0 then bs.all id else if j.f 49 1 = 1 then bs.any id else (g 0 && g 1) || (g 2 && g 3))

/-- The sort key of a record: smaller is better (R225). -/
def Job.keyOf (j : Job) (rec : List Byte) : Int :=
  match termValue (j.f 73 1) (fieldAt rec (j.f 74 2) (termBytes (j.f 73 1))) with
  | none => 2 ^ 70
  | some v => if j.topkMode = 1 then -v else v

/-- Insert behind every better or equal key. -/
def topInsert (x : Int × Nat × List Byte) : List (Int × Nat × List Byte) → List (Int × Nat × List Byte)
  | [] => [x]
  | y :: t => if x.1 < y.1 then x :: y :: t else y :: topInsert x t

/-- One record is evaluated (R225). -/
def State.filterRecord (s : State) (n : Nat) (rec : List Byte) : State :=
  let j := s.job n
  let i := j.nextRecord
  let s0 := (s.setJob n { j with nextRecord := i + 1 }).termsUsed j rec
  if j.state ≠ .opened then s
  else match s0.passes j rec with
    | .error st => s0.jobFault n st
    | .ok false => s0
    | .ok true =>
      if j.topkMode ≠ 0 then s0.setJob n { s0.job n with topk := (topInsert (j.keyOf rec, i, rec) j.topk).take (j.f 76 2) }
      else if j.count1 < j.f 68 4 then
        let s1 := s0.packedOut n (j.count1 * j.itemBytes) rec
        s1.setJob n { s1.job n with count1 := j.count1 + 1 }
      else s0.setJob n { s0.job n with count2 := j.count2 + 1 }

/-- The sorted k records leave at the end. -/
def State.filterEnd (s : State) (n : Nat) : State :=
  let j := s.job n
  if j.topkMode = 0 then s
  else ((List.range j.topk.length).zip j.topk).foldl (fun (t : State) e =>
    let u := t.packedOut n (e.1 * j.itemBytes) e.2.2.2
    u.setJob n { u.job n with count1 := (u.job n).count1 + 1 }) s

/-- Rows of a source, one after the other. -/
def State.rows (s : State) (n first : Nat) (bs : List Byte) : State :=
  let j := s.job n
  (List.range (bs.length / j.itemBytes)).foldl (fun (t : State) i =>
    if (t.job n).state ≠ .opened then t
    else
      let row := sliceB bs (i * j.itemBytes) j.itemBytes
      if j.kind = 4 then t.filterRecord n row else t.placeRow n (first + i) row) s

/-- Every source row has been taken: what is left of the work is done, and the job ends when its output is acknowledged. -/
def State.allRows (s : State) (n : Nat) : State :=
  let s1 := if (s.job n).kind = 3 then s.dispatchTable n else if (s.job n).kind = 4 then s.filterEnd n else s
  if (s1.job n).state = .opened then (s1.setJob n { s1.job n with allIssued := true }).jobCheck n else s1

/-- Bytes of a stream that have arrived. -/
def Job.arrived (j : Job) : Nat := (j.received.map (fun r => r.hi - r.lo)).sum

/-- After rows of a stream: the last one ends the source. -/
def State.streamEnd (s : State) (n : Nat) : State :=
  let j := s.job n
  if j.state = .opened ∧ j.kind ≠ 1 ∧ j.running ∧ !j.allIssued ∧ j.arrived = j.srcCount * j.itemBytes ∧
      !(s.hcu.inputs.any (fun x => decide (x.job = n))) then s.allRows n else s

/-! ### Inputs (R198, R199) -/

/-- Shares of a JOB_PUT: chunk, offset in bytes, bytes. One share for every kind but REDUCE. -/
def Job.shares (j : Job) (fmt off : Nat) (data : List Byte) : List (Nat × Nat × List Byte) :=
  if j.kind ≠ 1 then [(0, off, data)]
  else
    let cb := 2 ^ j.chunkLog * wireBytes fmt
    (List.range (ceilDiv data.length cb)).map (fun i => (off / cb + i, off + i * cb, (data.drop (i * cb)).take cb))

/-- A share can be consumed now (R199, R209, R219, R225). -/
def Job.ready (j : Job) (chunk off : Nat) : Bool :=
  if j.kind = 1 then j.inWindow chunk
  else j.running && (decide (j.kind ≠ 2) || j.sorted) && (decide (j.kind ≠ 4) || decide (off = j.nextRecord * j.itemBytes))

/-- Input positions of a JOB_PUT: elements for REDUCE, bytes otherwise (R198). -/
def Job.positions (j : Job) (fmt off len : Nat) : Nat × Nat :=
  if j.kind = 1 then (off / wireBytes fmt, (off + len) / wireBytes fmt) else (off, off + len)

/-- A ready share of a job that is no REDUCE is consumed. -/
def State.consume (s : State) (n : Nat) (x : JobInput) : State :=
  let j := s.job n
  (s.unitRead n (j.servedBy.getD 0) x.data.length).rows n (x.offset / j.itemBytes) x.data

/-- The JOB_PUT is accepted: its shares are taken, or parked in the job's overflow cells; none when it has to be held (R199). -/
def State.takePut (s : State) (n : Nat) (h : HeldPut) (key : Nat × Nat) (late : Bool) : Option State :=
  let j := s.job n
  let off := jobOffset h.req.target
  let sh := j.shares h.fmt off h.data
  let firstReady := sh.all (fun x => j.ready x.1 x.2.1)
  let cells := (sh.map (fun x => if j.ready x.1 x.2.1 then 0 else ceilDiv x.2.2.length 256)).sum
  if j.ovfCells < j.ovfUsed + cells then none
  else
    let p := j.positions h.fmt off h.data.length
    let ins : List JobInput := sh.map (fun x => {
      job := n, chunk := x.1, contrib := h.contrib, fmt := h.fmt, offset := x.2.1, data := x.2.2, flags := h.flags, key := key
      cells := if j.ready x.1 x.2.1 then 0 else ceilDiv x.2.2.length 256, late := late || !firstReady, answered := firstReady, req := h.req })
    let s1 := s.setJob n { j with
      ovfUsed := j.ovfUsed + cells, activeAt := s.now
      received := j.received ++ [{ contrib := h.contrib, lo := p.1, hi := p.2 }] }
    let s2 := if firstReady ∧ j.slot = none then s1.respond h.req 0x21 (deferredBy (if late then .capacity else .none) served) else s1
    if j.kind = 1 ∨ !firstReady then some { s2 with hcu := { s2.hcu with inputs := s2.hcu.inputs ++ ins } }
    else some ((ins.foldl (fun (t : State) x => t.consume n x) s2).streamEnd n)

/-- A parked share whose turn has come leaves its cells; its JOB_PUT is answered with its last one (R199). -/
def State.unpark (s : State) (n : Nat) (x : JobInput) : State :=
  let j := s.job n
  let rest := s.hcu.inputs.erase x
  let more := rest.any (fun y => decide (y.job = n) && decide (y.req = x.req) && decide (y.cells ≠ 0))
  let s1 := s.setJob n { j with ovfUsed := j.ovfUsed - x.cells, activeAt := s.now }
  let s2 := if more ∨ j.slot.isSome then s1 else s1.respond x.req 0x21 (deferredBy .capacity served)
  let mark := rest.map (fun y => if !more && decide (y.job = n) && decide (y.req = x.req) then { y with answered := true } else y)
  if j.kind = 1 then { s2 with hcu := { s2.hcu with inputs := mark ++ [{ x with cells := 0, late := true, answered := !more }] } }
  else (({ s2 with hcu := { s2.hcu with inputs := mark } } : State).consume n x).streamEnd n

/-- Refusal of a JOB_PUT by the table of R198, with whether it faults the job. -/
def State.putBad (s : State) (n : Nat) (h : HeldPut) : Option (Response × Bool) :=
  let j := s.job n
  let off := jobOffset h.req.target
  let len := h.data.length
  let no := fun (st : Status) => some (refusal st, false)
  let part := decide (3 ≤ h.fmt) && decide (h.fmt < 5)
  let p := j.positions h.fmt off len
  if j.state ≠ .free ∧ (j.tenant ≠ h.req.issuer.tenant ∨ (j.slot.isSome ∧ h.req.tc ≠ 0)) then no .access
  else if (h.epoch ≠ 0 ∧ h.epoch ≠ j.epoch) ∨ (j.state ≠ .waiting ∧ j.state ≠ .opened) then no .flushed
  else if j.state = .waiting then no .busy
  else if !j.takes h.fmt ∨ (if j.kind = 1 then decide (j.contribs ≤ h.contrib) else decide (h.contrib ≠ 0)) = true ∨
      (!part ∧ h.expCheck ≠ 0) then no .param
  else if j.kind = 1 then
    let eb := wireBytes h.fmt
    let cb := 2 ^ j.chunkLog * eb
    let total := j.elems * eb
    if off % cb ≠ 0 ∨ total < off + len ∨ ((off + len) % cb ≠ 0 ∧ off + len ≠ total) ∨ (part ∧ cb < len) then no .range
    else if j.received.any (fun r => decide (r.contrib = h.contrib) && decide (r.lo < p.2) && decide (p.1 < r.hi)) then no .param
    else if part ∧ h.expCheck ≠ j.expCheck then some (refusal .check, true)
    else none
  else if j.itemBytes = 0 ∨ off % j.itemBytes ≠ 0 ∨ len % j.itemBytes ≠ 0 ∨ j.srcCount * j.itemBytes < off + len ∨ !j.stream then no .range
  else if j.received.any (fun r => decide (r.lo < p.2) && decide (p.1 < r.hi)) then no .param
  else none

/-- A share goes to a unit whose admission is closed (R536, R539). -/
def State.shareShut (s : State) (j : Job) (chunk : Nat) : Bool :=
  if j.kind = 1 then s.closed (hcuLoc (j.firstMs + chunk % j.msCount))
  else match j.servedBy with
    | some k => s.closed (hcuLoc k)
    | none => false

/-- Some share of a JOB_PUT does. -/
def State.putShut (s : State) (j : Job) (h : HeldPut) : Bool :=
  (j.shares h.fmt (jobOffset h.req.target) h.data).any (fun x => s.shareShut j x.1)

/-- A JOB_PUT is judged (R198), refused by a unit whose admission is closed (R536), and accepted, parked or held (R199); one held from
the same port keeps it waiting. -/
def State.judgePut (s : State) (n : Nat) (h : HeldPut) : State :=
  match s.putBad n h with
  | some (r, faults) =>
    let dup := decide (r.status = .param) && decide ((s.job n).takes h.fmt = true)
    let s1 := if dup then s.bump O.duplicateInputs else s
    let s2 := s1.respond h.req 0x21 r
    if faults then (s2.bump O.expCheckFails).jobFault n .check else s2
  | none =>
    let hold : State := { s with hcu := { s.hcu with held := s.hcu.held ++ [h] } }
    if s.putShut (s.job n) h then s.respond h.req 0x21 (refusal .busy .unitState)
    else if s.hcu.held.any (fun x => decide (x.job = n) && decide (x.port = h.port)) then hold
    else (s.takePut n h (s.now, h.port) false).getD hold

/-- The first held JOB_PUT of each port, in their order. -/
def heldHeads : List HeldPut → List Nat → List HeldPut
  | [], _ => []
  | h :: t, seen => if seen.contains h.port then heldHeads t seen else h :: heldHeads t (h.port :: seen)

/-- A held JOB_PUT can go on: it is refused now, or there is room for it. -/
def State.heldGoes (s : State) (n : Nat) (h : HeldPut) : Bool :=
  (s.putBad n h).isSome || !(s.putShut (s.job n) h) && (s.takePut n h (s.now, h.port) true).isSome

/-- What waited goes on while it can: parked shares, then held JOB_PUTs, those of one port in their order. -/
def State.pumpJobN : Nat → Nat → State → State
  | 0, _, s => s
  | k + 1, n, s =>
    let j := s.job n
    match s.hcu.inputs.find? (fun x => decide (x.job = n) && decide (x.cells ≠ 0) && j.ready x.chunk x.offset && !(s.shareShut j x.chunk)) with
    | some x => State.pumpJobN k n (s.unpark n x)
    | none => match (heldHeads (s.hcu.held.filter (fun h => decide (h.job = n))) []).find? (fun h => s.heldGoes n h) with
      | none => s
      | some h =>
        let s1 := { s with hcu := { s.hcu with held := s.hcu.held.erase h } }
        match s1.putBad n h with
        | some (r, _) => State.pumpJobN k n (s1.respond h.req 0x21 r)
        | none => match s1.takePut n h (s1.now, h.port) true with
          | some t => State.pumpJobN k n t
          | none => s

def State.pumpJob (s : State) (n : Nat) : State := State.pumpJobN (s.hcu.inputs.length + s.hcu.held.length) n s

/-- The fields of a JOB_PUT (R195). -/
def heldOf (s : State) (o : Operation) (n port : Nat) : HeldPut := {
  job := n, contrib := fieldAt o.params 0 2, epoch := fieldAt o.params 2 1, fmt := fieldAt o.params 3 1
  expCheck := fieldAt o.params 4 2, flags := BitVec.ofNat 8 (fieldAt o.params 6 1), data := o.data, req := o.req, port := port
  deadline := s.now + usUnits (s.num O.holdLimitUs 1000) }

/-- JOB_PUT (R194, R195, R198). -/
def execJobPut (o : Operation) (port : Nat) (s : State) : Result :=
  .next (s.homeOp o false 0xFF (fun t =>
    let no := fun (st : Status) => t.respond o.req o.op (refusal st)
    if zerosAt o.params 7 9 = false ∨ 6 < fieldAt o.params 3 1 ∨ 32 ≤ fieldAt o.params 6 1 then no .rsvd
    else if addrRegion o.req.target ≠ 0 then no .param
    else if o.length = 0 ∨ 2 ^ 24 < o.length then no .align
    else t.judgePut (jobNumber o.req.target) (heldOf t o (jobNumber o.req.target) port)))

/-- The n-th held JOB_PUT of a job reaches its limit (R199). -/
def execHeldJobPutTimeout (job n : Nat) (s : State) : Result :=
  .next (s.begin.whenRunning (fun t =>
    match (t.hcu.held.filter (fun h => decide (h.job = job)))[n]? with
    | none => t
    | some h =>
      let t1 := t.elapse h.deadline
      ((({ t1 with hcu := { t1.hcu with held := t1.hcu.held.erase h } } : State).bump O.heldTimeouts).respond h.req 0x21
        (refusal .timeout .capacity)).pumpJob job))

/-- No input and no output for IDLE_TIMEOUT_US (R202). -/
def execJobIdleTimeout (job : Nat) (s : State) : Result :=
  .next (s.begin.whenRunning (fun t =>
    let j := t.job job
    if j.state ≠ .waiting ∧ j.state ≠ .opened then t
    else
      let us := if j.f 4 4 = 0 then t.num O.idleTimeoutDefaultUs 100000 else j.f 4 4
      (t.elapse (j.activeAt + usUnits us)).jobFault job .timeout))

/-- The exponent vector is ready (R212): the job keeps it and its EXP_CHECK, and becomes OPEN. -/
def State.expReady (t : State) (job : Nat) : State :=
  let j := t.job job
  if j.state ≠ .waiting ∨ (t.sync (j.f 88 2 % 2 ^ 14)).value.toNat < j.f 92 4 then t
  else match t.serviceRead (addrOffset (j.addr 80)) (ceilDiv j.elems (2 ^ j.f 51 1)) j.tenant .get with
    | .error st => t.jobFault job st
    | .ok v => (t.used (addrOffset (j.addr 80)) v.length j.tenant).setJob job { j with state := .opened, expVec := some v, expCheck := crc32 v % 65536, activeAt := t.now }

def execJobExponentReady (job : Nat) (s : State) : Result :=
  .next (s.begin.whenRunning (fun t => t.expReady job))

/-- The input a Millstone sums: of a chunk's inputs, in FP32 mode the lowest key first (R210). -/
def State.sumInput (s : State) (n chunk contrib : Nat) : Option JobInput :=
  let mine := s.hcu.inputs.filter (fun x => decide (x.job = n) && decide (x.chunk = chunk) && decide (x.cells = 0))
  match mine.find? (fun x => decide (x.contrib = contrib)) with
  | none => none
  | some x =>
    if (s.job n).mode = 0 ∧ mine.any (fun y => decide (y.key.1 < x.key.1) || (decide (y.key.1 = x.key.1) && decide (y.key.2 < x.key.2))) then none
    else some x

/-- A granted input is summed into its chunk's slot, and a complete chunk is delivered (R209, R210, R215-R217). -/
def State.millstoneSum (s : State) (n chunk contrib : Nat) : State :=
  let j := s.job n
  let m := j.firstMs + chunk % j.msCount
  match s.sumInput n chunk contrib with
  | none => s
  | some x =>
    if j.state ≠ .opened ∨ (j.slot = none ∧ s.arbGrant (.millstone m) ≠ some (ownerIx j.tenant)) then s
    else
      let c := j.sumInto s.freeCounter (Store.read ({} : Chunk) j.chunks chunk) x
      let s1 := { s with
        freeCounter := s.freeCounter + x.data.length
        hcu := { s.hcu with inputs := s.hcu.inputs.erase x } }
      let s2 := (s1.setJob n { j with chunks := Store.write ({} : Chunk) j.chunks chunk c }).unitRead n m
        (x.data.length / wireBytes x.fmt * j.cost x.fmt)
      let s3 := if j.slot = none then s2.arbDrop (.millstone m) else s2
      if c.inputs < j.contribs then s3
      else
        let s4 := s3.deliver n chunk
        let k := s4.job n
        let all := (List.range k.chunkCount).all (fun i => k.done i)
        let s5 := if all ∧ k.state = .opened then s4.setJob n { k with allIssued := true } else s4
        (s5.pumpJob n).jobCheck n

def execMillstoneSum (job chunk contrib : Nat) (s : State) : Result :=
  .next (s.begin.whenRunning (fun t => t.millstoneSum job chunk contrib))

/-- An output or partial is acknowledged, or fails and the job with it (R202, R215, R216). -/
def execJobOutputAck (job : Nat) (r : Response) (s : State) : Result :=
  .next (s.begin.whenRunning (fun t =>
    let j := t.job job
    if j.state ≠ .opened ∨ j.unacked = 0 then t
    else if r.status ≠ .ok then t.jobFault job r.status
    else (t.setJob job { j with unacked := j.unacked - 1, activeAt := t.now }).jobCheck job))

/-- A GATHER's index list is read; an index out of range faults or counts (R219). -/
def State.gatherStart (s : State) (n : Nat) : State :=
  let j := s.job n
  match s.serviceRead (addrOffset (j.addr 80)) (4 * j.f 76 4) j.tenant .get with
  | .error st => s.jobFault n st
  | .ok bs =>
    let s := s.used (addrOffset (j.addr 80)) (4 * j.f 76 4) j.tenant
    let idx := (List.range (j.f 76 4)).map (fun i => fieldAt bs (4 * i) 4)
    let bad := (List.range idx.length).filter (fun p => decide (j.srcCount ≤ (idx[p]?).getD 0))
    if bad ≠ [] ∧ j.f 49 1 = 0 then s.jobFault n .range
    else
      let s1 := s.setJob n { j with index := idx, count2 := bad.length, flags := if bad = [] then 0 else 1 }
      bad.foldl (fun (t : State) p =>
        let u := t.packedOut n (p * j.itemBytes) (List.replicate j.itemBytes 0)
        u.setJob n { u.job n with count1 := (u.job n).count1 + 1 }) s1

/-- A DISPATCH's first pass (R222). -/
def State.dispatchStart (s : State) (n : Nat) : State :=
  let j := s.job n
  match s.serviceRead (addrOffset (j.addr 72)) (4 * j.srcCount * j.f 49 1) j.tenant .get,
      s.serviceRead (addrOffset (j.addr 80)) (32 * j.f 64 2) j.tenant .get with
  | .error st, _ => s.jobFault n st
  | _, .error st => s.jobFault n st
  | .ok bs, .ok table =>
    let s := (s.used (addrOffset (j.addr 72)) (4 * j.srcCount * j.f 49 1) j.tenant).used (addrOffset (j.addr 80)) (32 * j.f 64 2) j.tenant
    let routes := (List.range (j.srcCount * j.f 49 1)).map (fun i => (fieldAt bs (4 * i) 2, fieldAt bs (4 * i + 2) 2))
    let r := routePairs (j.f 64 2) (j.f 49 1) routes 0 [] [] [] 0
    let work := s.openBytes (4 * j.srcCount * j.f 49 1)
    let w := work.2.serviceWrite (addrOffset (j.addr 88)) work.1 j.tenant .put
    if w.1 ≠ .ok then w.2.jobFault n w.1
    else w.2.setJob n { j with
      places := r.1.filter (fun p => decide (p.pos < fieldAt table (32 * p.expert + 16) 4)), count2 := r.2.2 }

/-- The source of a memory-mode job is read and taken, row by row (R219, R222, R225). -/
def State.memorySource (s : State) (n : Nat) : State :=
  let j := s.job n
  let stride := if j.kind = 2 then j.f 64 8 else j.itemBytes
  let s1 := (List.range j.srcCount).foldl (fun (t : State) i =>
    if (t.job n).state ≠ .opened ∨ (j.kind = 2 ∧ !(t.job n).index.contains i) ∨
        (j.kind = 3 ∧ !((t.job n).places.any (fun p => decide (p.token = i)))) then t
    else match t.serviceRead (addrOffset (j.addr 56) + i * stride) j.itemBytes j.tenant .get with
      | .error st => t.jobFault n st
      | .ok row => ((t.used (addrOffset (j.addr 56) + i * stride) j.itemBytes j.tenant).unitRead n (j.servedBy.getD 0) j.itemBytes).rows
          n i row) s
  s1.allRows n

/-- The next job of a Flume's or Bolter's queue starts (R220). -/
def State.hcuStart (s : State) (key : Nat) : State :=
  match s.hcuQueue key with
  | [] => s
  | n :: rest =>
    if (s.hcuRunning key).isSome ∨ (s.job n).state ≠ .opened ∨ s.closed (hcuLoc key) then s
    else
      let s1 := { s with hcu := { s.hcu with fbQueues := Store.write [] s.hcu.fbQueues key rest } }
      let s2 := s1.setJob n { s1.job n with running := true }
      let s3 := if (s2.job n).kind = 2 then s2.gatherStart n else if (s2.job n).kind = 3 then s2.dispatchStart n else s2
      if (s3.job n).state ≠ .opened then s3
      else if (s3.job n).stream then (s3.pumpJob n).streamEnd n
      else s3.memorySource n

/-- `unit`: Flume f is f, Bolter b is 64 + b. -/
def execHcuJobStart (unit : Nat) (s : State) : Result :=
  .next (s.begin.whenRunning (fun t => t.hcuStart (if unit < 64 then 256 + unit else 512 + (unit - 64))))

/-- A stream GATHER has sorted its list into WORK_ADDR, whose layout the manual does not give (R219). -/
def execGatherSortDone (job : Nat) (s : State) : Result :=
  .next (s.begin.whenRunning (fun t =>
    let j := t.job job
    if j.kind ≠ 2 ∨ !j.stream ∨ !j.running ∨ j.sorted ∨ j.state ≠ .opened then t
    else
      let work := t.openBytes (8 * j.f 76 4)
      let w := work.2.serviceWrite (addrOffset (j.addr 88)) work.1 j.tenant .put
      if w.1 ≠ .ok then w.2.jobFault job w.1
      else ((w.2.setJob job { w.2.job job with sorted := true }).pumpJob job).streamEnd job))

/-- A unit that serves jobs is reset, updated or powered down, or taken by a plan: they fault (R202, R217). -/
def State.hcuLose (s : State) (key : Nat) (st : Status) (reason : Reason := .none) : State :=
  (s.hcu.jobs.filter (fun e => (decide (e.2.state = .waiting) || decide (e.2.state = .opened)) &&
    (if key < 256 then decide (e.2.kind = 1) && e.2.millstones.contains key else decide (e.2.servedBy = some key)))).foldl
    (fun (t : State) e => t.jobFault e.1 st reason) s

end Sys2Proof.Machine
end

