-- ==== Sys2Proof/Machine/Security.lean ====
section
/-! DEFINITION. Tenants, owners, attestation, model keys and firmware update (chapter 13). -/

namespace Sys2Proof.Machine

/-! ### Measurements (R438) and model keys (R445, R446, R450) -/

def State.tenant (s : State) (t : Nat) : Tenant := Store.read ({} : Tenant) s.sec.tenants t
def State.setTenant (s : State) (t : Nat) (x : Tenant) : State :=
  { s with sec := { s.sec with tenants := Store.write ({} : Tenant) s.sec.tenants t x } }
def State.bind (s : State) (p : Nat) : PortBind := Store.read ({} : PortBind) s.sec.binds p
def State.crypt (s : State) (p : Nat) : PortCrypt := Store.read ({} : PortCrypt) s.sec.crypt p
def State.setCrypt (s : State) (p : Nat) (c : PortCrypt) : State :=
  { s with sec := { s.sec with crypt := Store.write ({} : PortCrypt) s.sec.crypt p c } }
def State.bank (s : State) (b : Nat) : Bank := Store.read ({} : Bank) s.sec.banks b
def State.setBank (s : State) (b : Nat) (x : Bank) : State :=
  { s with sec := { s.sec with banks := Store.write ({} : Bank) s.sec.banks b x } }

/-- The security configuration that measurement 7 covers: tenant states, port bindings, encryption policies, key service digests. -/
def State.securityConfig (s : State) : List (Nat × Nat) :=
  (List.range 64).map (fun t => (t, b2n (s.tenant t).enable + 2 * b2n (s.tenant t).requireEnc)) ++
  (List.range 36).map (fun p => (64 + p, (s.bind p).tenant + 256 * (s.bind p).nodeBase + 2 ^ 24 * (s.bind p).countM1)) ++
  (List.range 36).map (fun p => (100 + p, (s.crypt p).policy)) ++
  (List.range 64).map (fun t => (136 + t, leNat (s.bytesObj (O.tenantKeyServiceDigest t))))

/-- A digest as its 48 bytes. -/
def digest48 (d : List Byte) : List Byte := (List.range 48).map (fun k => d.getD k 0)

/-- Measurement i, 48 bytes (R438). -/
def State.measurement (s : State) (i : Nat) : List Byte :=
  digest48 <| if i = 1 then Config.bootRomDigest
  else if i = 6 then Config.measure6 (variantCode s.chip.variant + 256 * s.power.fusedSvn)
  else if i = 7 then Config.measure7 s.securityConfig
  else if i = 16 then s.sec.clearHead
  else if 8 ≤ i ∧ i < 16 then Store.read (List.replicate 48 0) s.sec.planDigests (i - 8)
  else Store.read (List.replicate 48 0) s.sec.measurements i

def State.key (s : State) (slot : Nat) : Option ModelKey := Store.read none s.sec.keys slot
def State.setKey (s : State) (slot : Nat) (k : Option ModelKey) : State :=
  { s with sec := { s.sec with keys := Store.write none s.sec.keys slot k } }

/-- A key slot is destroyed, with its security event (R446). -/
def State.destroyKey (s : State) (slot : Nat) : State :=
  match s.key slot with
  | none => s
  | some _ => (s.setKey slot none).eventOpen 0x02F (s.path .package) .ok slot

/-- Slots in use, with what they hold. -/
def State.heldKeys (s : State) : List (Nat × ModelKey) := s.sec.keys.filterMap (fun e => e.2.map (fun k => (e.1, k)))

/-- Every key that meets a test is destroyed. -/
def State.destroyKeys (s : State) (p : ModelKey → Bool) : State :=
  (s.heldKeys.filter (fun e => p e.2)).foldl (fun (t : State) e => t.destroyKey e.1) s

/-- The digests the key was released against are still the measurements. -/
def State.keyHolds (s : State) (k : ModelKey) : Bool := k.digests.all (fun d => decide (s.measurement d.1 = d.2))

/-- A measurement in a key's MASK has changed: the key is destroyed (R446). -/
def State.keyCheck (s : State) : State := s.destroyKeys (fun k => !(s.keyHolds k))

/-- Measurements have changed through an update (R450): keys go, key-service sessions end, link sessions stay. -/
def State.measurementsUpdated (s : State) : State :=
  let t := s.keyCheck
  { t with sec := { t.sec with sessions := t.sec.sessions.filter (fun x =>
      !(decide (x.keyDigest ≠ []) && (List.range 64).any (fun n => decide (t.bytesObj (O.tenantKeyServiceDigest n) = x.keyDigest)))) } }

/-! ### Tenants (R426) -/

/-- Some claim of a loaded plan of any slot covers a number of a kind (R106). -/
def State.planClaimed (s : State) (kind lo count : Nat) : Bool :=
  s.plans.slots.any (fun e => (match e.2.image with
    | some i => i.claims.any (fun c => decide (c.kind = kind) && overlaps c.first c.amount lo count)
    | none => false))

/-- What keeps a tenant from being disabled (R426). -/
def State.tenantOwns (s : State) (t : Nat) : Bool :=
  (List.range 272).any (fun c => !(s.chanAbsent c) && decide ((s.chan c).owner = t)) ||
  (List.range 256).any (fun c => decide (Store.read 0xFF s.sec.clusterOwner c = t)) ||
  decide (Store.read 0 s.coh.ways t ≠ 0) ||
  s.remote.queues.any (fun e => decide (e.2.owner = t)) ||
  s.remote.syncs.any (fun e => decide (e.2.owner = t)) ||
  decide (s.reg (R.swcQuota t) 0 ≠ 0) ||
  s.pool.parts.any (fun e => decide (e.2.state ≠ .free) && decide (e.2.tenant = t)) ||
  (Store.read ({} : KvStore) s.kv.stores t).enable ||
  s.coh.windows.any (fun e => (e.2.enable || e.2.disabling) && decide ((s.part e.2.partition).tenant = t)) ||
  s.cz.streams.any (fun e => (e.2.enable || e.2.enabling) && decide ((s.part e.2.partition).tenant = t)) ||
  s.meadow.indexes.any (fun e => decide (e.2.state ≠ .disabled) && decide (e.2.tenant = t)) ||
  s.plans.slots.any (fun e => (match e.2.image with
    | some i => decide (i.tenant = t) | none => false)) ||
  s.heldKeys.any (fun e => decide (e.2.tenant = t))

/-- A write of SEC_TENANT_CTL or of tenant_enable (R426, R452, R594): `requireEnc` is the field's new value, when the write has one. -/
def State.tenantWrite (s : State) (a : Access) (t : Nat) (enable : Bool) (requireEnc : Option Bool) : State :=
  let x := s.tenant t
  let st : Status := if x.enable && !enable && s.tenantOwns t then .busy else .ok
  let judged := accessMgmt a && (s.takeArm a (R.secTenantCtl t)).1
  let s1 := if judged && (x.enable != enable) then s.setTenant t { x with lastStatus := st } else s
  s1.mgmtWrite a (R.secTenantCtl t) (if st = .ok then none else some (refusal st)) (fun u =>
    let y := u.tenant t
    let u1 := (u.setTenant t { y with enable := enable, requireEnc := requireEnc.getD y.requireEnc }).keyCheck
    if enable then u1 else u1.destroyKeys (fun k => decide (k.tenant = t))) true

def execTenantEnable (a : Access) (t : Nat) (requireEnc : Option Bool) (s : State) : Result :=
  .next (s.begin.whenRunning (fun u => u.tenantWrite a t true requireEnc))

def execTenantDisable (a : Access) (t : Nat) (requireEnc : Option Bool) (s : State) : Result :=
  .next (s.begin.whenRunning (fun u => u.tenantWrite a t false requireEnc))

/-! ### Clusters (R433) -/

/-- Florets of a cluster. -/
def clusterFlorets (c : Nat) : List Nat := (List.range 16).map (fun f => 16 * c + f)

/-- Pads and cluster SRAM become zero (R433, R535). -/
def State.zeroClusterSram (s : State) (c : Nat) : State :=
  (s.sramZero (16 * c * 0x20000) (16 * 0x20000)).sramZero (0x20000000 + c * 0x200000) 0x200000

/-- Registers and tiles of a cluster's Florets become zero (R433). -/
def State.zeroClusterRegs (s : State) (c : Nat) : State :=
  (clusterFlorets c).foldl (fun (t : State) f =>
    let x := Store.read ({} : Floret) t.florets.florets f
    { t with florets := { t.florets with
      florets := Store.write ({} : Floret) t.florets.florets f { x with regs := {}, atIssue := {}, wrote := [] } } }) s

/-- A queue holds items: started, finished and unwritten, returned or waiting. -/
def QueueCtx.holdsItems (q : QueueCtx) : Bool :=
  !q.started.isEmpty || !q.finished.isEmpty || !q.returned.isEmpty ||
    (decide (q.state ≠ .disabled) && decide (q.kind ≠ .completion) && decide (q.commit ≠ q.head))

/-- The cluster is static, or holds a task, a range, a staged commit or a queued item (R433). -/
def State.clusterBusy (s : State) (c : Nat) : Bool :=
  (Store.read none s.florets.staticBy c).isSome ||
  (clusterFlorets c).any (fun f => (Store.read ({} : Floret) s.florets.florets f).work.isSome) ||
  !(Store.read [] s.florets.pools c).isEmpty ||
  s.florets.staged.any (fun o => decide (o.floret / 16 = c)) ||
  (s.queue (unitQueue (clusterLoc c))).holdsItems ||
  (clusterFlorets c).any (fun f => (s.queue (unitQueue (floretLoc f))).holdsItems)

/-- Clusters of a write whose byte names another owner, with that owner. -/
def State.ownerChanges (s : State) (w v : Nat) : List (Nat × Nat) :=
  ((List.range 4).map (fun i => (4 * w + i, v / 256 ^ i % 256))).filter (fun e =>
    decide (Store.read 0xFF s.sec.clusterOwner e.1 ≠ e.2))

/-- The cluster leaves ACTIVE and its zeroing starts for the new owner (R433); its unit work queue follows it (R431). -/
def State.clusterGive (s : State) (c owner : Nat) : State :=
  let old := Store.read 0xFF s.sec.clusterOwner c
  let s1 := (s.zeroClusterSram c).zeroClusterRegs c
  let s2 := s1.setUnit (clusterLoc c) { s1.unit (clusterLoc c) with state := .inReset }
  let clears := if s2.sec.clusterClears.any (fun e => decide (e.1 = c)) then s2.sec.clusterClears
    else s2.sec.clusterClears ++ [(c, old, s2.ftc)]
  let s3 : State := { s2 with sec := { s2.sec with
    clusterOwner := Store.write 0xFF s2.sec.clusterOwner c owner
    clusterClears := clears } }
  ([unitQueue (clusterLoc c)] ++ (clusterFlorets c).map (fun f => unitQueue (floretLoc f))).foldl
    (fun (t : State) q => t.setQueue q { t.queue q with owner := owner }) s3

def State.clusterOwnerWrite (s : State) (i : Issuer) (w v : Nat) : State :=
  let ch := s.ownerChanges w v
  let st : Option Status :=
    if !((List.range 4).all (fun k => decide (v / 256 ^ k % 256 < 64) || decide (v / 256 ^ k % 256 = 0xFF))) then some .rsvd
    else if ch.any (fun e => s.clusterBusy e.1) then some .busy
    else none
  s.mgmtWrite (.csr i) (R.secClusterOwner w) (st.map (fun x => refusal x))
    (fun u => ch.foldl (fun (t : State) e => t.clusterGive e.1 e.2) u)

def execClusterOwnerWrite (i : Issuer) (w : Nat) (v : Word32) (s : State) : Result :=
  .next (s.begin.whenRunning (fun u => u.clusterOwnerWrite i w v.toNat))

/-- Every pad and SRAM word of the cluster is zero: it serves its new owner, and the clear is recorded (R433, R434). -/
def execClusterClearComplete (cluster : Nat) (s : State) : Result :=
  .next (s.begin.whenRunning (fun t =>
    match t.sec.clusterClears.find? (fun e => decide (e.1 = cluster)) with
    | none => t
    | some (_, prev, start) =>
      let t1 : State := { t with sec := { t.sec with clusterClears := t.sec.clusterClears.filter (fun e => decide (e.1 ≠ cluster)) } }
      (t1.setUnit (clusterLoc cluster) { t1.unit (clusterLoc cluster) with state := .active }).clearRecord
        3 prev cluster 0 start []))

/-! ### Port bindings and assignments (R428, R431) -/

/-- The port is up: its link carries traffic (R472). -/
def State.portUp (s : State) (p : Nat) : Bool :=
  let x := Store.read ({} : Port) s.links.ports p
  decide (x.state = .active) || decide (x.state = .recovery)

def State.portBindWrite (s : State) (i : Issuer) (p v : Nat) : State :=
  let ten := v % 256
  let st : Option Status :=
    if !s.present (.port p) then some .rsvd
    else if bitsOf v 31 29 ≠ 0 ∨ (64 ≤ ten ∧ ten < 0xFE) then some .rsvd
    else if s.portUp p then some .busy
    else none
  s.mgmtWrite (.csr i) (R.secPortBind p) (st.map (fun x => refusal x)) (fun u =>
    let b : PortBind := { u.bind p with tenant := ten, nodeBase := bitsOf v 23 8, countM1 := bitsOf v 27 24 }
    ({ u with sec := { u.sec with binds := Store.write ({} : PortBind) u.sec.binds p b } } : State).keyCheck)

def execPortBindWrite (i : Issuer) (port : Nat) (v : Word32) (s : State) : Result :=
  .next (s.begin.whenRunning (fun u => u.portBindWrite i port v.toNat))

/-- A sync object with a pending wait. -/
def State.objWaited (s : State) (n : Nat) : Bool := s.remote.waits.any (fun w => decide (w.obj = n))

/-- The refusal of an assignment: the first case of R431's table. -/
def State.assignCheck (s : State) (sync : Bool) (first count owner : Nat) : Option Status :=
  let last := if sync then 16384 else 524288
  let nums := (List.range count).map (fun k => first + k)
  if count = 0 ∨ last < first + count then some .range
  else if owner < 64 ∧ !(s.tenant owner).enable then some .param
  else if (if sync then nums.any s.objWaited else nums.any (fun q => decide ((s.queue q).state ≠ .disabled))) then some .busy
  else if s.planClaimed (if sync then 4 else 3) first count then some .access
  else if !sync && decide (first < 12288) then some .access
  else none

/-- A queue with a new owner: every other word of its context is zero (R431). -/
def assignedQueue (owner : Nat) : QueueCtx := { owner := owner, cqNone := false, maxInflight := 0 }
/-- A sync object with a new owner (R431). -/
def assignedSync (o : SyncObj) (owner : Nat) : SyncObj :=
  { o with owner := owner, value := 0, producer0 := 0xFFFFFFFF, producer1 := 0xFFFFFFFF, lastNotifier := 0, lastChange := 0, changeCount := 0 }

/-- The elements whose owner changes are zeroed and given (R431). -/
def State.assignDo (s : State) (sync : Bool) (first count owner : Nat) : State :=
  ((List.range count).map (fun k => first + k)).foldl (fun (t : State) n =>
    if sync then
      let o := t.sync n
      if o.owner = owner then t else t.setSync n (assignedSync o owner)
    else if (t.queue n).owner = owner then t else t.setQueue n (assignedQueue owner)) s

def State.secAssign (s : State) (i : Issuer) (v : Nat) : State :=
  let kind := bitsOf v 21 20
  let owner := bitsOf v 29 22
  let first := s.sec.assignFirst
  let count := bitsOf v 19 0
  let st : Option Status :=
    if bitsOf v 31 30 ≠ 0 ∨ 2 ≤ kind ∨ (64 ≤ owner ∧ owner ≠ 0xFF) then some .rsvd
    else s.assignCheck (decide (kind = 1)) first count owner
  s.mgmtWrite (.csr i) R.secAssignCtl (st.map (fun x => refusal x)) (fun u => u.assignDo (decide (kind = 1)) first count owner)

def execSecAssign (i : Issuer) (v : Word32) (s : State) : Result :=
  .next (s.begin.whenRunning (fun u => u.secAssign i v.toNat))

/-! ### SPDM and model keys (R436, R445, R446) -/

def State.spdmSession (s : State) (id : Nat) : Option SpdmSession := s.sec.sessions.find? (fun x => decide (x.id = id))

/-- The session's requester is the tenant's key service. -/
def State.isKeyService (s : State) (session t : Nat) : Bool :=
  match s.spdmSession session with
  | some x => x.secure && decide (x.keyDigest ≠ []) && decide (x.keyDigest = s.bytesObj (O.tenantKeyServiceDigest t))
  | none => false

/-- DESTROY from the key service of the slot's tenant (R446). -/
def State.keyDestroy (s : State) (session slot : Nat) : Status × State :=
  match s.key slot with
  | none => (.param, s)
  | some k => if s.isKeyService session k.tenant then (.ok, s.destroyKey slot) else (.auth, s)

def execKeyDestroy (session slot : Nat) (s : State) : Result :=
  .next (s.begin.whenRunning (fun t =>
    let r := t.keyDestroy session slot
    r.2.answer (if r.1 = .ok then served else refusal r.1)))

/-- Ids in use rise without repeats; the next free one. -/
def State.freeSession (s : State) : Nat :=
  match (List.range 129).find? (fun k => decide (0 < k) && !(s.sec.sessions.any (fun x => decide (x.id = k)))) with
  | some k => k
  | none => 0

/-- Bondiush answers an SPDM request (R436, R438): the Bool says that it is not an ERROR. -/
def State.spdmAnswer (s : State) (port : Option Nat) (r : SpdmRequest) : Bool × List Byte × State :=
  let body := Config.spdmBody s.freeCounter
  let live := fun (n : Nat) (good : Bool × List Byte × State) =>
    if (s.spdmSession n).isSome then good else ((false, [], s) : Bool × List Byte × State)
  match r with
  | .version major minor => (decide (major = 1) && (decide (minor = 3) || decide (minor = 2)), body [], s)
  | .negotiate ok => (ok, body [], s)
  | .keyExchange =>
    if 128 ≤ s.sec.sessions.length then (false, [], s)
    else
      let x : SpdmSession := { id := s.freeSession, port := port, secret := Config.spdmBody s.freeCounter [1] }
      (true, body [], { s with sec := { s.sec with sessions := s.sec.sessions ++ [x] } })
  | .finish n d =>
    let l := s.sec.sessions.map (fun x => if x.id = n then { x with secure := true, keyDigest := d } else x)
    live n (true, body [], { s with sec := { s.sec with sessions := l } })
  | .endSession n => live n (true, body [], { s with sec := { s.sec with sessions := s.sec.sessions.filter (fun x => decide (x.id ≠ n)) } })
  | .challenge nonce => (true, body nonce, s)
  | .measurements i nonce =>
    if 1 ≤ i ∧ i ≤ 16 then (true, s.measurement i ++ body nonce, s) else (false, [], s)
  | .certificate slot => (decide (slot < 2), body [BitVec.ofNat 8 slot], s)
  | .heartbeat n => live n (true, body [], s)
  | .keyUpdate n => live n (true, body [], s)
  | .vendorDestroy n slot =>
    let k := s.keyDestroy n slot
    (true, [BitVec.ofNat 8 k.1.code], k.2)
  | .other => (false, [], s)

def State.spdm (s : State) (port : Option Nat) (r : SpdmRequest) : State :=
  let a := s.spdmAnswer port r
  let t := a.2.2.emit (.spdm port a.1 a.2.1)
  { t with freeCounter := t.freeCounter + 1 }

def execSpdmMessage (port : Option Nat) (r : SpdmRequest) (s : State) : Result :=
  .next (s.begin.whenRunning (fun t => t.spdm port r))

/-- Indices of a MASK. -/
def maskIndices (m : Nat) : List Nat := (List.range 8).filter (fun i => decide (0 < i) && bitAt m i)

/-- The digests of a release, by measurement index (R445). -/
def releaseDigests (b : List Byte) (m : Nat) : List (Nat × List Byte) :=
  ((List.range 7).zip (maskIndices m)).map (fun e => (e.2, sliceB b (92 + 48 * e.1) 48))

/-- The refusal of a release: the first case of R445's table. The Bool says that attestation failed. -/
def State.releaseCheck (s : State) (session : Nat) (b : List Byte) : Option (Status × Bool) :=
  let t := fieldAt b 0 1
  let m := fieldAt b 2 2
  if !s.isKeyService session t then some (.auth, false)
  else if fieldAt b 1 1 / 4 ≠ 0 then some (.rsvd, false)
  else if !(s.tenant t).enable ∨ bitsOf m 6 1 ≠ 63 ∨ bitAt m 0 ∨ bitsOf m 15 8 ≠ 0 ∨
      b.length ≠ 92 + 48 * (maskIndices m).length then some (.param, false)
  else if (releaseDigests b m).any (fun d => decide (s.measurement d.1 ≠ d.2)) then some (.auth, true)
  else if 256 ≤ s.heldKeys.length then some (.nospace, false)
  else none

/-- A key service releases a model key (R445). -/
def State.keyRelease (s : State) (session : Nat) (b : List Byte) : State :=
  match s.releaseCheck session b with
  | some (st, failed) =>
    let s1 := if failed then
        let f := s.free (2 ^ 32)
        f.2.eventOpen 0x02F (f.2.path .package) .auth f.1
      else s
    s1.answer (refusal st)
  | none =>
    let m := fieldAt b 2 2
    let used := s.heldKeys.map (·.1)
    let f := s.free (256 - used.length)
    let slot := nthFree used 0 f.1
    let k : ModelKey := {
      tenant := fieldAt b 0 1, confidential := bitAt (fieldAt b 1 1) 0, planBound := bitAt (fieldAt b 1 1) 1, mask := m,
      modelId := BitVec.ofNat 64 (fieldAt b 4 8), key := sliceB b 12 32, planDigest := sliceB b 44 48, digests := releaseDigests b m }
    (f.2.setKey slot (some k)).answer (served .ok (BitVec.ofNat 64 slot))

def execKeyRelease (session : Nat) (payload : List Byte) (s : State) : Result :=
  .next (s.begin.whenRunning (fun t => t.keyRelease session payload))

/-! ### MK_DECRYPT (R447, R448) -/

/-- The partition holds a KV store, window, stream or index. -/
def State.partServed (s : State) (n : Nat) : Bool :=
  s.kvPartition n || s.windowRanges.any (fun r => decide (r.1 = n)) || s.streamRanges.any (fun r => decide (r.1 = n)) ||
    s.indexRanges.any (fun r => decide (r.1 = n))

/-- The refusal of an MK_DECRYPT. -/
def State.decryptCheck (s : State) (o : Operation) : Option Status :=
  let slot := o.operand1.toNat % 256
  let src := addrOffset o.req.localA
  let dst := addrOffset o.req.target
  let ep := issuerEndpoint o.req.issuer
  let ten := o.req.issuer.tenant
  let key := s.key slot
  let model := match key with | some k => k.modelId | none => 0
  if o.operand1.toNat / 256 ≠ 0 then some .rsvd
  else if addrRegion o.req.target ≠ 0 ∨ addrRegion o.req.localA ≠ 0 ∨ !s.isHere (addrNode o.req.localA) then some .param
  else if dst % 64 ≠ 0 then some .align
  else if o.length = 0 ∨ 2 ^ 24 < o.length then some .range
  else match s.poolCheck src (64 + o.length) ten ep .get with
    | some st => some st
    | none => match s.poolCheck dst o.length ten ep (.decrypt model) with
      | some st => some st
      | none =>
        let h := s.memBytes src 64
        match key with
        | none => some .param
        | some k =>
          if k.tenant ≠ ten ∨ fieldAt h 0 4 ≠ 0x4B4D5A44 ∨ BitVec.ofNat 64 (fieldAt h 8 8) ≠ k.modelId ∨ fieldAt h 16 4 ≠ o.length ∨
              overlaps src (64 + o.length) dst o.length then some .param
          else match s.partAt dst with
            | none => some .range
            | some (n, p) => if k.confidential && p.sealed.isNone && s.partServed n then some .busy else none

/-- The chunk is decrypted into its destination, which is sealed first when the key is CONFIDENTIAL. -/
def State.decryptDo (s : State) (o : Operation) : State :=
  let slot := o.operand1.toNat % 256
  let src := addrOffset o.req.localA
  let dst := addrOffset o.req.target
  match s.key slot, s.partAt dst with
  | some k, some (n, p) =>
    let s0 := if k.confidential && p.sealed.isNone then
        s.setPart n { p with sealed := some (k.modelId, if k.planBound then some k.planDigest else none) } else s
    let first := (dst - p.base) / 65536
    let s1 := ((s0.ckptKeep n first ((dst - p.base + o.length - 1) / 65536 + 1 - first)).touchRange n p dst o.length
      o.req.issuer.tenant true).meter o.req.issuer.tenant 0x0E o.length
    let r := s1.poolRead src (64 + o.length)
    let s1 := s1.used src (64 + o.length) o.req.issuer.tenant
    if !r.2 then s1.respond o.req o.op (served .tier 0 .tier)
    else match Config.gcmDecrypt k.key (sliceB r.1 20 12) (sliceB r.1 0 20) (r.1.drop 64) (sliceB r.1 32 16) with
      | some pt =>
        let w := s1.poolWrite dst (sliceB pt 0 o.length)
        w.2.respond o.req o.op (served (if w.1 then .ok else .tier) 0 (if w.1 then .none else .tier))
      | none => (s1.poolWrite dst (List.replicate o.length 0)).2.respond o.req o.op (served .auth)
  | _, _ => s

def execMkDecrypt (o : Operation) (s : State) : Result :=
  .next (s.unitOp o 0xFF (fun t =>
    match t.decryptCheck o with
    | some st => t.respond o.req o.op (refusal st)
    | none => t.decryptDo o))

/-! ### Firmware update (R449, R546) -/

/-- The inactive bank. -/
def State.otherBank (s : State) : Nat := 1 - s.sec.running

/-- Bytes of an image written to a bank since OFFSET 0 (R491). -/
def State.bankImage (s : State) (b : Nat) : List Byte :=
  readRange s.mgmt.flash (b * 2 ^ 25) (Store.read ({} : FlashBank) s.mgmt.flashBanks b).next

/-- A firmware command ends: its outcome, its event and its answer (R453, R495). -/
def State.firmwareEnd (s : State) (p : DictPath) (st : Status) (refused : Bool) : State :=
  let s0 := s.takeArm (.dict p) 0
  let s1 : State := { s0.2 with sec := { s0.2.sec with fwStatus := st } }
  ((s1.free (2 ^ 32)).2.eventOpen 0x031 (s1.path .package) st (s1.free (2 ^ 32)).1).answer (if refused then refusal st else served st)

/-- VERIFY: the signature, and SVN ≥ fused SVN. -/
def State.firmwareVerify (s : State) (p : DictPath) : State :=
  let b := s.otherBank
  let i := Config.imageInfo (s.bankImage b)
  let ok := Config.ecdsaVerify Config.firmwareKey (Config.sha384 i.2.2.1) i.2.2.2 && decide (s.power.fusedSvn ≤ i.1.val)
  if ok then
    (s.setBank b { s.bank b with signed := true, verified := true, svn := i.1.val, digests := i.2.1.map digest48 }).firmwareEnd p .ok false
  else (s.setBank b { s.bank b with signed := false, verified := false }).firmwareEnd p .auth true

/-- Management is served: Bondiush or, in Boot Hold, the Boot ROM takes VERIFY and ACTIVATE (R542). -/
def State.managed (s : State) : Bool := s.running || decide (s.power.package = .bootHold)
def State.whenManaged (s : State) (f : State → State) : State := if s.managed then f s else s

def execVerify (p : DictPath) (s : State) : Result := .next (s.begin.whenManaged (fun t => t.firmwareVerify p))

def State.firmwareActivate (s : State) (p : DictPath) : State :=
  let b := s.otherBank
  if (s.bank b).verified then
    ({ s with sec := { s.sec with activated := some b } } : State).firmwareEnd p .ok false
  else s.firmwareEnd p .busy true

def execActivate (p : DictPath) (s : State) : Result := .next (s.begin.whenManaged (fun t => t.firmwareActivate p))

/-- COMMIT: `burn` is none when every SVN word then reads clean or marginal, or the words that read unresolved (R546). -/
def State.firmwareCommit (s : State) (p : DictPath) (burn : Option (List Nat)) : State :=
  if s.sec.bootedNew ≠ some s.sec.running then s.firmwareEnd p .busy true
  else match burn with
    | none =>
      let svn := max s.power.fusedSvn (s.bank s.sec.running).svn
      let s1 : State := { s with
        power := { s.power with fusedSvn := svn }
        sec := { s.sec with bootedNew := none } }
      s1.keyCheck.firmwareEnd p .ok false
    | some l => (s.fault 0x41 (s.path .package) (l.headD 0) 0 .fuse).firmwareEnd p .fuse false

def execCommit (p : DictPath) (burn : Option (List Nat)) (s : State) : Result :=
  .next (s.begin.whenRunning (fun t => t.firmwareCommit p burn))

def State.firmwareAbort (s : State) (p : DictPath) : State :=
  match s.sec.activated with
  | none => s.firmwareEnd p .param true
  | some _ => ({ s with sec := { s.sec with activated := none } } : State).firmwareEnd p .ok false

def execAbort (p : DictPath) (s : State) : Result := .next (s.begin.whenRunning (fun t => t.firmwareAbort p))

end Sys2Proof.Machine
end

