-- ==== Sys2Proof/Machine/PlanImage.lean ====
section
/-! DEFINITION. Plan images (R103-R106, R113-R117, R174, R439), what a load checks of them, and claims (R106, R107, R110). -/

namespace Sys2Proof.Machine

/-- A failure of a load: STATUS and the section at fault, 0xFE the header, 0xFF none (R109). -/
abbrev LoadFail := Status × Nat

/-- A directory entry (R104). -/
structure SectionEntry where
  kind : Nat
  off  : Nat
  len  : Nat
  crc  : Nat
  deriving DecidableEq, Repr, Inhabited

def sectionEntry (b : List Byte) (n : Nat) : SectionEntry :=
  { kind := fieldAt b (0x40 + 16 * n) 1, off := fieldAt b (0x44 + 16 * n) 4, len := fieldAt b (0x48 + 16 * n) 4,
    crc := fieldAt b (0x4C + 16 * n) 4 }

/-- The header's own checks (R103). -/
def imageHeaderBad (b : List Byte) : Option Status :=
  let f := fieldAt b
  firstBad [
    (decide (f 0 4 ≠ 0x4E4C505A), .param), (decide (f 4 2 ≠ 1), .param),
    (decide (f 6 1 = 2 ∨ f 6 1 = 3), .notsup), (decide (f 6 1 ≠ 1), .param),
    (decide (f 7 1 < 6 ∨ 20 < f 7 1), .param), (decide (f 8 8 = 0), .rsvd), (decide (f 0x10 8 ≠ b.length), .param),
    (decide (f 0x18 2 = 0 ∨ 1024 < f 0x18 2 ∨ f 0x18 2 ≤ f 0x1A 2), .param),
    (decide (63 < f 0x1C 1 ∧ f 0x1C 1 ≠ 0xFF), .param), (decide (f 0x1D 1 = 0 ∨ 16 < f 0x1D 1), .param),
    (decide (f 0x1E 2 ≠ 0 ∨ f 0x2F 1 ≠ 0 ∨ f 0x32 2 ≠ 0), .rsvd),
    (decide (f 0x20 4 = 0 ∨ 1048576 < f 0x20 4), .param),
    (decide (f 0x28 2 < 16 ∨ 4096 < f 0x28 2 ∨ f 0x2A 2 = 0 ∨ 4096 < f 0x2A 2), .param),
    (decide (f 0x2C 2 < f 0x28 2 + 2), .param), (decide (63 < f 0x2E 1), .param),
    (decide (f 0x30 2 = 0 ∨ 4194304 < f 0x34 4), .param)]

/-- Bytes a section of a kind has; none when its length is its own matter. -/
def sectionBytes (b : List Byte) (kind : Nat) : Option Nat :=
  if kind = 1 then some (16 * fieldAt b 0x30 2) else if kind = 2 then some (16 * fieldAt b 0x34 4)
  else if kind = 5 then some (8 * fieldAt b 0x18 2) else if kind = 7 then some 256 else none

/-- The directory's checks (R104), with the entry at fault. -/
def directoryBad (b : List Byte) : Option LoadFail :=
  let n := fieldAt b 0x1D 1
  let es := (List.range n).map (sectionEntry b)
  let one := (List.range n).findSome? (fun k =>
    let e := sectionEntry b k
    (firstBad [
      (decide (e.kind = 0 ∨ 7 < e.kind ∨ fieldAt b (0x41 + 16 * k) 3 ≠ 0), .rsvd),
      (decide (e.off % 64 ≠ 0 ∨ e.off < 320 ∨ b.length < e.off + e.len), .param),
      (match sectionBytes b e.kind with | some l => decide (e.len ≠ l) | none => false, .param),
      (es.take k |>.any (fun x => overlaps x.off x.len e.off e.len || decide (x.kind = e.kind)), .param)]).map (fun st => (st, k)))
  match one with
  | some x => some x
  | none =>
    if zerosAt b (0x40 + 16 * n) (16 * (16 - n)) = false then some (.rsvd, 0xFE)
    else if [1, 2, 4, 5, 6, 7].any (fun k => !(es.any (fun e => decide (e.kind = k)))) then some (.param, 0xFE)
    else none

/-- The section of a kind: its directory number and bytes. -/
def sectionOf (b : List Byte) (kind : Nat) : Option (Nat × List Byte) :=
  ((List.range (fieldAt b 0x1D 1)).find? (fun k => decide ((sectionEntry b k).kind = kind))).map (fun k =>
    (k, sliceB b (sectionEntry b k).off (sectionEntry b k).len))
def sectionBody (b : List Byte) (kind : Nat) : List Byte := match sectionOf b kind with | some e => e.2 | none => []
def sectionNo (b : List Byte) (kind : Nat) : Nat := match sectionOf b kind with | some e => e.1 | none => 0xFF

/-- The bytes of an image with those of its signature taken as zero (R439). -/
def unsignedImage (b : List Byte) : List Byte :=
  match sectionOf b 7 with
  | none => b
  | some (k, _) =>
    let at_ := (sectionEntry b k).off + 104
    b.take at_ ++ List.replicate 96 0 ++ b.drop (at_ + 96)

/-- The plan digest (R439). -/
def planDigest (b : List Byte) : List Byte := Config.sha384 (unsignedImage b)

/-- Plan keys that may sign for a tenant (R439). -/
def State.planKeys (s : State) (tenant : Nat) : List (List Byte) :=
  if tenant = 0xFF then [s.bytesObj O.mgmtPlanKeyDigest]
  else [s.bytesObj (O.tenantPlanKeyDigest0 tenant), s.bytesObj (O.tenantPlanKeyDigest1 tenant),
    s.bytesObj (O.tenantPlanKeyDigest2 tenant), s.bytesObj (O.tenantPlanKeyDigest3 tenant)]

/-- Bondiush accepts the signature (R439). -/
def State.planSigned (s : State) (b : List Byte) : Bool :=
  let g := sectionBody b 7
  let key := sliceB g 4 97
  decide (fieldAt g 0 2 = 1) && (s.planKeys (fieldAt b 0x1C 1)).contains (Config.sha384 key) &&
    Config.ecdsaVerify key (planDigest b) (sliceB g 104 96)

def claimAt (c : List Byte) (n : Nat) : Claim :=
  { kind := fieldAt c (16 * n) 1, flags := fieldAt c (16 * n + 1) 1 + 256 * fieldAt c (16 * n + 2) 2, first := fieldAt c (16 * n + 4) 4,
    amount := fieldAt c (16 * n + 8) 8 }

def entryAt (t : List Byte) (n : Nat) : TickEntry :=
  let w := fieldAt t (16 * n) 4
  let f := fieldAt t (16 * n + 6) 2
  { effect := bitsOf w 19 0, kind := bitsOf w 27 20, depart := fieldAt t (16 * n + 4) 2, crosses := bitAt f 0, multicast := bitAt f 1,
    arg0 := fieldAt t (16 * n + 8) 4, arg1 := fieldAt t (16 * n + 12) 4 }

/-- The image as the loader holds it. -/
def parseImage (b : List Byte) : PlanImage :=
  let f := fieldAt b
  let lay := sectionBody b 4
  let prog := match sectionOf b 3 with
    | some (k, _) => ((sectionEntry b k).off, (sectionEntry b k).len)
    | none => (0, 0)
  { planId := BitVec.ofNat 64 (f 8 8), clockCode := f 7 1, imageBytes := f 0x10 8, memberCount := f 0x18 2, memberIndex := f 0x1A 2
    tenant := f 0x1C 1, rotationTicks := f 0x20 4, rotationCount := f 0x24 4, slipHorizon := f 0x28 2, slipBudget := f 0x2A 2
    readyLead := f 0x2C 2, replayAllow := f 0x2E 1, seed := BitVec.ofNat 64 (f 0x38 8)
    claims := (List.range (f 0x30 2)).map (claimAt (sectionBody b 1))
    table := (List.range (f 0x34 4)).map (entryAt (sectionBody b 2))
    layout := Config.layoutDescs lay
    linkPlan := (Config.linkPlan (sectionBody b 6)).map (fun e => { port := e.1, member := e.2 })
    members := (List.range (f 0x18 2)).map (fun k =>
      { node := fieldAt (sectionBody b 5) (8 * k) 2, endpointPorts := bitAt (fieldAt (sectionBody b 5) (8 * k + 2) 1) 0 })
    gates := Config.layoutGates lay, jobs := Config.layoutJobs lay, layers := Config.layoutLayers lay
    progBase := prog.1, progLen := prog.2 }

/-! ### Step 5 of R108 -/

/-- The image claims a number of a kind. -/
def PlanImage.has (i : PlanImage) (kind n : Nat) : Bool :=
  i.claims.any (fun c => decide (c.kind = kind) && decide (c.first ≤ n) && decide (n < c.first + c.amount))

/-- Entries of the program section (R174). -/
def progEntries (prog : List Byte) : Nat := fieldAt prog 0 4

/-- A tick table entry refused at load (R113, R114, R117, R51); `n` is ENTRY_COUNT. -/
def PlanImage.entryBad (i : PlanImage) (n : Nat) (e : TickEntry) : Option Status :=
  let d := i.layout[e.arg0]?
  let region1 := match d with
    | some x => (!x.sourceJob && decide (addrRegion x.source = 1)) || (!x.destJob && decide (addrRegion x.dest = 1))
    | none => false
  let short := match d with
    | some x => !e.crosses && decide (e.depart < ceilDiv (x.bSource + x.bDest) 8 + 2)
    | none => false
  firstBad [
    (decide (e.kind = 0 ∨ 6 < e.kind), .rsvd), (decide (e.kind ≠ 2 ∧ e.kind ≠ 3 ∧ e.kind ≠ 4 ∧ e.arg1 ≠ 0), .rsvd),
    (decide (i.rotationTicks ≤ e.effect), .param), (decide (e.kind ≠ 1 ∧ e.depart ≠ 0), .param),
    (decide (e.kind = 1) && (decide (d = none) || region1 || short), .param),
    (decide (e.kind = 2) && (decide (1024 ≤ e.arg1) || !(i.claims.any (fun c => decide (c.kind = 6 ∧ c.first = e.arg0 ∧ e.arg1 < c.amount)))), .param),
    (decide (e.kind = 3) && (!(i.has 1 e.arg0) || decide (n ≤ e.arg1)), .param),
    (decide (e.kind = 4 ∧ 16384 ≤ e.arg0), .param), (decide (e.kind = 5 ∧ i.layers.length ≤ e.arg0), .param)]

/-- The table's reserved bits and order (R113, R115). -/
def tableBad (t : List Byte) (count : Nat) : Option Status :=
  (List.range count).findSome? (fun n =>
    if bitsOf (fieldAt t (16 * n) 4) 31 28 ≠ 0 ∨ bitsOf (fieldAt t (16 * n + 6) 2) 15 2 ≠ 0 then some .rsvd
    else if n ≠ 0 ∧ (entryAt t n).effect < (entryAt t (n - 1)).effect then some .param else none)

/-- Bytes of REGION 0x2 lie in clusters that the image claims. -/
def PlanImage.ownsSram (i : PlanImage) (off len : Nat) : Bool :=
  if 0x20000000 ≤ off then
    decide (off + len ≤ 0x40000000) && (List.range ((off + len - 1 - 0x20000000) / 0x200000 - (off - 0x20000000) / 0x200000 + 1)).all
      (fun k => i.has 1 ((off - 0x20000000) / 0x200000 + k))
  else decide (off + len ≤ 0x20000000) && (List.range ((off + len - 1) / 0x200000 - off / 0x200000 + 1)).all (fun k => i.has 1 (off / 0x200000 + k))

/-- A claim of kind 0x02 covers bytes of REGION 0x2. -/
def PlanImage.sramClaimed (i : PlanImage) (off len : Nat) : Bool :=
  i.claims.any (fun c => decide (c.kind = 2) && decide (c.first * 4096 ≤ off) && decide (off + len ≤ c.first * 4096 + c.amount))

/-- A load record of the program section (R174): REGION 0x2 offset, section offset, bytes; none when it is malformed. -/
def loadRecord (i : PlanImage) (prog : List Byte) (k : Nat) : Except Status (Nat × Nat × Nat) :=
  let at_ := 16 + 16 * progEntries prog + 16 * k
  let c := fieldAt prog at_ 2
  let dest := fieldAt prog (at_ + 2) 1
  let fl := fieldAt prog (at_ + 3) 1
  let doff := fieldAt prog (at_ + 4) 4
  let src := fieldAt prog (at_ + 8) 4
  let len := fieldAt prog (at_ + 12) 4
  let off := if dest = 0 then 0x20000000 + c * 0x200000 + doff else (16 * c + fl) * 0x20000 + doff
  if 1 < dest ∨ 15 < fl ∨ (dest = 0 ∧ fl ≠ 0) then .error .rsvd
  else if !(i.has 1 c) ∨ len % 64 ≠ 0 ∨ prog.length < src + len then .error .param
  else if (if dest = 0 then 0x200000 else 0x20000) < doff + len ∨ !(i.sramClaimed off len) then .error .param
  else .ok (off, src, len)

/-- The program section's checks (R174). -/
def PlanImage.programBad (i : PlanImage) (prog : List Byte) : Option Status :=
  if i.progLen = 0 then none
  else
    let n := progEntries prog
    let m := fieldAt prog 4 4
    if n = 0 ∨ 65536 < n ∨ 65536 < m ∨ prog.length < 16 + 16 * n + 16 * m then some .param
    else if fieldAt prog 8 8 ≠ 0 then some .rsvd
    else match (List.range n).findSome? (fun k =>
        let at_ := 16 + 16 * k
        if fieldAt prog (at_ + 6) 2 ≠ 0 then some Status.rsvd
        else if fieldAt prog at_ 4 % 32 ≠ 0 ∨ 0x200000 ≤ fieldAt prog at_ 4 ∨ fieldAt prog (at_ + 4) 2 = 0 then some .param else none) with
      | some st => some st
      | none => (List.range m).findSome? (fun k => match loadRecord i prog k with | .error st => some st | .ok _ => none)

/-- A plan job's record (R192, R196, R206). -/
def State.planJobBad (s : State) (slot : Nat) (i : PlanImage) (e : Nat × List Byte) : Option Status :=
  let j : Job := { record := e.2 }
  if e.1 < 3072 + 128 * slot ∨ 3200 + 128 * slot ≤ e.1 then some .param
  else match headerBad j true with
    | some st => some st
    | none => match bodyBad j with
      | some st => some st
      | none =>
        if j.kind = 1 ∧ !(j.millstones.all (fun m => i.has 8 m &&
            i.claims.any (fun c => decide (c.kind = 7 ∧ c.first = m ∧ j.openChunks * j.slotBytes ≤ c.amount)))) then some .param
        else if (j.kind = 2 ∨ j.kind = 3) ∧ !(i.has 9 j.unitByte) then some .param
        else if j.kind = 4 ∧ !(i.has 10 j.unitByte) then some .param
        else s.readsBad i.tenant j

/-- A claimed gate entry of the LAYOUT section (R273, R274). -/
def PlanImage.gateBad (i : PlanImage) (g : Nat × Nat × Nat × Nat) : Option Status :=
  let x := gateEntryOf g.2.2.1 g.2.2.2
  let mine := fun e => i.claims.any (fun c => decide (c.kind = 6 ∧ c.first = g.1 ∧ e < c.amount))
  if !(mine g.2.1) ∨ (bitAt x.openMask 0 ∧ x.openMask ≠ 1) ∨ (x.auto ∧ (x.hold = 0 ∨ !(mine x.nextEntry))) then some .param else none

/-- A layer record of a plan (R310). -/
def State.planLayerBad (s : State) (i : PlanImage) (bs : List Byte) : Option Status :=
  match layerRec bs with
  | none => some .param
  | some r => if i.has 5 r.part && layerValid (s.part r.part) r then none else some .param

/-- Step 5 of R108: the CRCs, then the sections' contents. -/
def State.sectionsBad (s : State) (slot : Nat) (b : List Byte) : Option LoadFail :=
  let i := parseImage b
  let prog := sectionBody b 3
  let n := if i.progLen = 0 then 0 else progEntries prog
  let at_ := fun (kind : Nat) (x : Option Status) => x.map (fun st => (st, sectionNo b kind))
  let crc := (List.range (fieldAt b 0x1D 1)).findSome? (fun k =>
    let e := sectionEntry b k
    if crc32 (sliceB b e.off e.len) = e.crc then none else some (Status.check, k))
  let members := (List.range i.memberCount).findSome? (fun k =>
    if fieldAt (sectionBody b 5) (8 * k + 2) 6 / 2 ≠ 0 then some Status.rsvd else none)
  let links := i.linkPlan.findSome? (fun e => if portCount s.chip.variant ≤ e.port ∨ i.memberCount ≤ e.member then some Status.param else none)
  [crc, at_ 5 members, at_ 6 links, at_ 4 (i.gates.findSome? i.gateBad), at_ 4 (i.layers.findSome? (s.planLayerBad i)),
    at_ 4 (i.jobs.findSome? (s.planJobBad slot i)), at_ 3 (i.programBad prog), at_ 2 (tableBad (sectionBody b 2) i.table.length),
    at_ 2 (i.table.findSome? (i.entryBad n))].findSome? id

/-! ### Claims (R106, R107, R236, R303) -/

/-- A claim that is malformed (R105, R106). -/
def PlanImage.claimForm (i : PlanImage) (c : Claim) : Option Status :=
  let lim := fun (n : Nat) => decide (n < c.first + c.amount)
  if c.kind = 0 ∨ 11 < c.kind ∨ (if c.kind = 3 then 1 else 0) < c.flags then some .rsvd
  else if c.amount = 0 then some .param
  else
    let bad := match c.kind with
      | 1 => lim 256
      | 2 => decide (c.amount % 4096 ≠ 0) || !(i.ownsSram (c.first * 4096) c.amount)
      | 3 => decide (c.first < 12288) || lim 524288
      | 4 => lim 16384
      | 5 => decide (c.amount ≠ 1) || decide (511 < c.first)
      | 6 => decide (35 < c.first) || decide (1024 < c.amount)
      | 7 => decide (143 < c.first) || decide (c.amount % 8192 ≠ 0) || decide (524288 < c.amount)
      | 8 => lim 144
      | 9 | 10 => lim 36
      | _ => decide (c.first ≠ 0)
    if bad then some .param else none

/-- Queue contexts pinned by plans (R86). -/
def State.pinnedContexts (s : State) : Nat := (s.remote.queues.filter (fun e => e.2.pinned)).length

/-- A plan in another slot holds it. -/
def elsewhere (slot : Nat) (holder : Option Nat) : Bool := holder.isSome && decide (holder ≠ some slot)

/-- The refusal of a claim of a slot against the resources as they stand (R107, R303). -/
def State.claimBad (s : State) (slot : Nat) (i : PlanImage) (c : Claim) : Option Status :=
  let ns := (List.range c.amount).map (fun k => c.first + k)
  let pick := fun (own held : Bool) => if own then some Status.access else if held then some .nospace else none
  match i.claimForm c with
  | some st => some st
  | none => match c.kind with
    | 1 => pick (ns.any (fun n => decide (Store.read 0xFF s.sec.clusterOwner n ≠ i.tenant)))
        (ns.any (fun n => !(s.present (clusterLoc n)) || elsewhere slot (Store.read none s.florets.staticBy n)))
    | 3 => pick (ns.any (fun n => decide ((s.queue n).owner ≠ i.tenant)))
        (s.planClaimed 3 c.first c.amount || ns.any (fun n => decide ((s.queue n).state ≠ .disabled)) ||
          (decide (c.flags = 1) && decide (6144 < s.pinnedContexts + c.amount)))
    | 4 => pick (ns.any (fun n => decide ((s.sync n).owner ≠ i.tenant)))
        (ns.any (fun n => elsewhere slot (s.sync n).claimedBy || s.remote.waits.any (fun w => decide (w.obj = n))))
    | 5 =>
      let p := s.part c.first
      if p.state ≠ .bound then some .nospace else pick (decide (p.tenant ≠ i.tenant)) (elsewhere slot p.staticBy)
    | 6 =>
      let g := s.gate c.first
      pick false (!(s.present (.port c.first)) || elsewhere slot g.owner || g.running)
    | 7 => pick false (!(s.present (hcuLoc c.first)) || decide (s.stagingFree c.first < c.amount))
    | 8 => pick false (ns.any (fun n => !(s.present (hcuLoc n)) || elsewhere slot (s.hcuSlot n)))
    | 9 => pick false (ns.any (fun n => !(s.present (hcuLoc (256 + n))) || elsewhere slot (s.hcuSlot (256 + n))))
    | 10 => pick false (ns.any (fun n => !(s.present (hcuLoc (512 + n))) || elsewhere slot (s.hcuSlot (512 + n))))
    | 11 => pick false (decide (s.cellsUnassigned < c.amount))
    | _ => none

/-- Hub compute units pass to or from a slot. -/
def State.setUnits (s : State) (base : Nat) (ns : List Nat) (slot : Option Nat) : State :=
  { s with hcu := { s.hcu with
    unitSlot := ns.foldl (fun (m : Store (Option Nat)) n => Store.write none m (base + n) slot) s.hcu.unitSlot } }

/-- A claim is taken for a slot. A Millstone's dynamic jobs fault (R217); the queued moves of a partition are dropped (R307). -/
def State.takeClaim (s : State) (slot : Nat) (c : Claim) : State :=
  let ns := (List.range c.amount).map (fun k => c.first + k)
  match c.kind with
  | 1 => { s with florets := { s.florets with
      staticBy := ns.foldl (fun (m : Store (Option Nat)) n => Store.write none m n (some slot)) s.florets.staticBy } }
  | 3 => if c.flags = 1 then ns.foldl (fun (t : State) n => t.setQueue n { t.queue n with pinned := true, cached := true }) s else s
  | 4 => ns.foldl (fun (t : State) n => t.setSync n { t.sync n with claimedBy := some slot }) s
  | 5 =>
    let t := (s.dropMoves (fun m => decide (m.part = c.first))).2
    t.setPart c.first { t.part c.first with staticBy := some slot }
  | 6 => s.setGate c.first { s.gate c.first with owner := some slot, claimed := max c.amount (if (s.gate c.first).owner = some slot then (s.gate c.first).claimed else 0) }
  | 7 => { s with hcu := { s.hcu with
      stagingClaims := Store.write [] s.hcu.stagingClaims c.first (Store.read [] s.hcu.stagingClaims c.first ++ [(slot, c.amount)]) } }
  | 8 => (ns.foldl (fun (t : State) n => t.hcuLose n .busy .staticWindow) s).setUnits 0 ns (some slot)
  | 9 => s.setUnits 256 ns (some slot)
  | 10 => s.setUnits 512 ns (some slot)
  | 11 => { s with hcu := { s.hcu with ovfClaims := Store.write 0 s.hcu.ovfClaims slot (Store.read 0 s.hcu.ovfClaims slot + c.amount) } }
  | _ => s

/-- A claim is given back (R50). -/
def State.dropClaim (s : State) (slot : Nat) (c : Claim) : State :=
  let ns := (List.range c.amount).map (fun k => c.first + k)
  match c.kind with
  | 1 => { s with florets := { s.florets with
      staticBy := ns.foldl (fun (m : Store (Option Nat)) n => Store.write none m n none) s.florets.staticBy } }
  | 3 => if c.flags = 1 then ns.foldl (fun (t : State) n => t.setQueue n { t.queue n with pinned := false }) s else s
  | 4 => ns.foldl (fun (t : State) n => t.setSync n { t.sync n with claimedBy := none }) s
  | 5 => s.setPart c.first { s.part c.first with staticBy := none }
  | 6 => (s.gateDefault c.first).setGate c.first { (s.gateDefault c.first).gate c.first with owner := none, claimed := 0 }
  | 7 => { s with hcu := { s.hcu with
      stagingClaims := Store.write [] s.hcu.stagingClaims c.first ((Store.read [] s.hcu.stagingClaims c.first).filter (fun e => decide (e.1 ≠ slot))) } }
  | 8 => s.setUnits 0 ns none
  | 9 => s.setUnits 256 ns none
  | 10 => s.setUnits 512 ns none
  | 11 => { s with hcu := { s.hcu with ovfClaims := Store.write 0 s.hcu.ovfClaims slot 0 } }
  | _ => s

/-- The claims in record order (R107, R108 step 6): all taken, or the number and STATUS of the first that fails. -/
def State.takeClaims (slot : Nat) (i : PlanImage) : List Claim → Nat → State → Except (Nat × Status) State
  | [], _, s => .ok s
  | c :: t, n, s => match s.claimBad slot i c with
    | some st => .error (n, st)
    | none => State.takeClaims slot i t (n + 1) (s.takeClaim slot c)

/-- A cluster executes a dynamic item (R110). -/
def State.runsItems (s : State) (c : Nat) : Bool :=
  (clusterFlorets c).any (fun f => match (Store.read ({} : Floret) s.florets.florets f).work with
    | some (.task _ _) => true
    | _ => false) ||
  s.florets.items.any (fun x => match x.taken with
    | some (.floret f) => decide (f / 16 = c)
    | some (.cluster d) => decide (d = c)
    | _ => false)

end Sys2Proof.Machine
end

