-- ==== Sys2Proof/Machine/Plans.lean ====
section
/-! DEFINITION. Run plans (chapter 03): loads, arming, tick tables, slips, halts, resets; the plan jobs' side of chapter 05; and fabric
time. -/

namespace Sys2Proof.Machine

def State.slot (s : State) (n : Nat) : PlanSlot := Store.read ({} : PlanSlot) s.plans.slots n
def State.setSlot (s : State) (n : Nat) (x : PlanSlot) : State :=
  { s with plans := { s.plans with slots := Store.write ({} : PlanSlot) s.plans.slots n x } }

/-- An outcome of a slot's command or a halt (R143, R145, R495). -/
def State.planEvent (s : State) (n : Nat) (st : Status) : State := s.eventOpen (0x024 + n) (s.path .package) st n
def State.planOutcome (s : State) (n : Nat) (st : Status) : State :=
  (s.setSlot n { s.slot n with lastStatus := st, busy := none }).planEvent n st

def planLive : PlanState → Bool
  | .armed | .running | .slipping => true
  | _ => false

/-! ### Commands and states (R111, R112) -/

/-- A command of R143. -/
inductive PlanDo where | load | arm | disarm | haltBoundary | haltNow | resume | reset | unload
  deriving DecidableEq, Repr, Inhabited

/-- The state takes the command (R111, R136). -/
def PlanDo.takes (c : PlanDo) (x : PlanSlot) (st : PlanState) : Bool :=
  match c with
  | .load => decide (st = .empty)
  | .arm => decide (st = .loaded)
  | .disarm => decide (st = .armed)
  | .haltBoundary | .haltNow => planLive st
  | .resume => decide (st = .halted) && (x.resumable || planLive x.state)
  | .reset => decide (st = .halted) || decide (st = .faulted)
  | .unload => decide (st = .loaded) || decide (st = .halted) || decide (st = .faulted)

/-- The refusal of a command in the wrong state (R108, R112): E_BUSY while a command is in progress or a live plan will halt into a
state that takes it. An arm that is not decided yet may be disarmed or halted. -/
def planRefusal (c : PlanDo) (x : PlanSlot) : Option Status :=
  if c = .load then (if x.state = .empty ∧ x.busy = none then none else some .busy)
  else if c = .disarm ∧ x.busy = some .arm then none
  else if c.takes x x.state ∧ (x.busy = none ∨ planLive x.state) then none
  else if x.busy ≠ none ∨ (planLive x.state ∧ c.takes x .halted) then some .busy
  else some .param

/-- A command of a slot, by plan_command or PLN_SLOT_CMD (R112, R143, R145). -/
def State.planCommand (s : State) (a : Access) (n : Nat) (c : PlanDo) (more : PlanSlot → Option Status) (eff : State → State) : State :=
  let x := s.slot n
  let bad := match planRefusal c x with
    | some st => some st
    | none => more x
  s.openWrite a (R.plnSlotCmd n) (bad.map (fun st => refusal st)) eff true

/-! ### Loading (R102, R108-R110) -/

/-- A load ends (R109). -/
def State.loadFails (s : State) (n : Nat) (st : Status) (section_ : Nat) (claim : Nat := 0xFFFF) : State :=
  (((s.setNum (O.planLoadStatus n) st.code).setNum (O.planLoadFailSection n) section_).setNum (O.planLoadFailClaim n) claim).planOutcome n st

/-- The image's bytes, when R102 lets the load read them. -/
def State.planBytes (s : State) (n : Nat) : Except Status (List Byte) :=
  let a := BitVec.ofNat 64 (s.num (O.planImageAddr n) 0)
  let len := s.num (O.planImageLen n) 0
  let off := addrOffset a
  if s.nodeId = 0xFFFF then .error .param
  else if !s.isHere (addrNode a) ∨ addrRegion a ≠ 0 ∨ off % 64 ≠ 0 ∨ len < 320 ∨ 2147483648 < len then .error .param
  else match s.partAt off with
    | none => .error .param
    | some (_, p) =>
      if p.state ≠ .bound ∨ p.end_ < off + len then .error .param
      else match s.serviceRead off len p.tenant .get with
        | .error st => .error st
        | .ok b => if fieldAt b 0x1C 1 = p.tenant then .ok b else .error .access

/-- Plan jobs open at step 6 (R192, R197). -/
def State.openPlanJobs (s : State) (n : Nat) (i : PlanImage) : State :=
  i.jobs.foldl (fun (t : State) e => t.startJob e.1 i.tenant 0 (some n) e.2) s

/-- The load up to step 6 (R108). -/
def State.planLoad (s : State) (n : Nat) : State :=
  match s.planBytes n with
  | .error st => s.loadFails n st 0xFF
  | .ok b =>
    match imageHeaderBad b with
    | some st => s.loadFails n st 0xFE
    | none => match directoryBad b with
      | some f => s.loadFails n f.1 f.2
      | none =>
        if !s.planSigned b then s.loadFails n .auth (sectionNo b 7)
        else match s.sectionsBad n b with
          | some f => s.loadFails n f.1 f.2
          | none =>
            let i := parseImage b
            match State.takeClaims n i i.claims 0 s with
            | .error e => s.loadFails n e.2 0xFF e.1
            | .ok u =>
              let t := u.used (addrOffset (BitVec.ofNat 64 (s.num (O.planImageAddr n) 0))) b.length i.tenant
              let busy := ((List.range 256).filter (fun c => i.has 1 c && t.runsItems c))
              let t1 := t.setSlot n { image := some i, busy := some .load, drained := busy.isEmpty, undrained := busy }
              ({ t1 with sec := { t1.sec with planDigests := Store.write [] t1.sec.planDigests n (planDigest b) } } : State).openPlanJobs n i

def execPlanLoad (p : DictPath) (slot : Nat) (s : State) : Result :=
  .next (s.begin.whenRunning (fun t => t.planCommand (.dict p) slot .load (fun _ => none) (fun u => u.planLoad slot)))

/-- Program loads of an image (R174): its section's bytes in the pool, and each record copied. -/
def State.copyProgram (s : State) (n : Nat) (i : PlanImage) : Except Status State :=
  if i.progLen = 0 then .ok s
  else match s.serviceRead (addrOffset (BitVec.ofNat 64 (s.num (O.planImageAddr n) 0)) + i.progBase) i.progLen i.tenant .get with
    | .error st => .error st
    | .ok prog =>
      let s := s.used (addrOffset (BitVec.ofNat 64 (s.num (O.planImageAddr n) 0)) + i.progBase) i.progLen i.tenant
      let t := (List.range (fieldAt prog 4 4)).foldl (fun (t : State) k => match loadRecord i prog k with
        | .ok (off, src, len) => t.sramWrite off (sliceB prog src len)
        | .error _ => t) s
      .ok (t.setSlot n { t.slot n with program := prog })

/-- Claimed gate entries of the image (R274). -/
def State.loadGates (s : State) (i : PlanImage) : State :=
  i.gates.foldl (fun (t : State) g => t.setGateEntry g.1 g.2.1 (gateEntryOf g.2.2.1 g.2.2.2)) s

/-- Every claim goes back, and the slot is EMPTY (R50, R108, R141). -/
def State.planEmpty (s : State) (n : Nat) (i : PlanImage) : State :=
  let t := i.jobs.foldl (fun (t : State) e => (t.dropInputs e.1).setJob e.1 { epoch := (t.job e.1).epoch }) s
  let t1 := i.claims.foldl (fun (u : State) c => u.dropClaim n c) t
  let t2 := { t1 with hcu := { t1.hcu with fbQueues := t1.hcu.fbQueues.filterMap (fun (e : Nat × List Nat) =>
    let l : List Nat := e.2.filter (fun j => decide (j < 3072 + 128 * n) || decide (3200 + 128 * n ≤ j))
    if l = [] then none else some (e.1, l)) } }
  let t3 := { t2 with sec := { t2.sec with planDigests := Store.write [] t2.sec.planDigests n [] } }
  t3.setSlot n { lastStatus := (s.slot n).lastStatus }

/-- Steps 7 and 8 of a load (R108): `st` is the outcome of the image's reads. -/
def execPlanLoadCopyDone (slot : Nat) (st : Status) (s : State) : Result :=
  .next (s.begin.whenRunning (fun t =>
    let x := t.slot slot
    match x.image with
    | none => t
    | some i =>
      if x.busy ≠ some .load then t
      else
        match (if st = .ok then t.copyProgram slot i else .error st) with
        | .error e => (t.planEmpty slot i).loadFails slot e 0xFF
        | .ok u =>
          let u1 := u.loadGates i
          ((u1.setSlot slot { u1.slot slot with state := .loaded }).setNum (O.planSlipsTotal slot) 0).loadFails slot .ok 0xFF))

/-- The last dynamic item of a claimed cluster has finished (R110). -/
def execClusterDrained (cluster : Nat) (s : State) : Result :=
  .next (s.begin.whenRunning (fun t =>
    match Store.read none t.florets.staticBy cluster with
    | none => t
    | some n =>
      let x := t.slot n
      if t.runsItems cluster ∨ !(x.undrained.contains cluster) then t
      else
        let rest := x.undrained.filter (fun c => decide (c ≠ cluster))
        t.setSlot n { x with undrained := rest, drained := rest.isEmpty }))

/-! ### Tokens and halts (R130-R138) -/

/-- Ports on which a slot's tokens leave (R131): its LINK_PLAN ports, and ports to endpoints when its MEMBERS entry says so. -/
def State.tokenPorts (s : State) (i : PlanImage) (except : Option Nat) : List Nat :=
  let links := i.linkPlan.map (·.port)
  let ends := if (i.members[i.memberIndex]?.map (·.endpointPorts)).getD false then
      (s.links.ports.filter (fun e => e.2.up && decide (e.2.mode = .opvitik) && e.2.peerEndpoint)).map (·.1) else []
  ((links ++ ends).dedup).filter (fun p => decide (some p ≠ except))

/-- The fabric tick at which a halt takes effect, projected under the pending quanta (R136). -/
def PlanSlot.haltTick (x : PlanSlot) (rot tick : Nat) (h : HaltToken) : Nat :=
  if !h.byRotation then h.whenVal / 32
  else
    let n := if x.state = .armed then x.startFtc / 32 else max tick x.lastTick + 1
    x.pending.foldl (fun m k => if k.whenFtc / 32 ≤ m then m + 64 else m) (n + x.remaining + (h.whenVal * rot - x.planTick))

/-- The halt that takes effect first; between equals the lowest origin (R136). -/
def PlanSlot.winner (x : PlanSlot) (rot tick : Nat) : List HaltToken → Option HaltToken
  | [] => none
  | h :: t => match x.winner rot tick t with
    | none => some h
    | some w =>
      let a := x.haltTick rot tick h
      let b := x.haltTick rot tick w
      if a < b ∨ (a = b ∧ h.member ≤ w.member) then some h else some w

/-- A halt becomes known: slip tokens at or after the first halt go (R136). -/
def State.knowHalt (s : State) (n : Nat) (h : HaltToken) : State :=
  let x := s.slot n
  match x.image with
  | none => s
  | some i =>
    let hs := x.halts ++ [h]
    match x.winner i.rotationTicks s.tick hs with
    | none => s
    | some w =>
      let cut := x.haltTick i.rotationTicks s.tick w
      s.setSlot n { x with halts := hs, pending := x.pending.filter (fun k => decide (k.whenFtc / 32 < cut)) }

/-- A member issues a halt (R136, R137). -/
def State.issueHalt (s : State) (n : Nat) (cause : HaltCause) (byRotation : Bool := false) (injected : Bool := false) : State :=
  let x := s.slot n
  match x.image with
  | none => s
  | some i =>
    if !(planLive x.state) then s
    else
      let tick := s.tick
      let base : HaltToken := { planId := i.planId, whenVal := (tick + i.slipHorizon) * 32, origin := BitVec.ofNat 32 (s.path .package)
                                member := i.memberIndex, seq := x.tokenSeq % 65536, cause := cause
                                injected := injected || s.faults.firing.isSome }
      let first := x.planTick / i.rotationTicks + 1
      let far := fun (w : Nat) => decide (tick + i.slipHorizon + 2 ≤ x.haltTick i.rotationTicks tick { base with whenVal := w, byRotation := true })
      let rot := ((List.range (i.slipHorizon + 3)).map (fun k => first + k)).find? far
      let h := if byRotation then { base with whenVal := rot.getD first, byRotation := true } else base
      let s1 := (s.setSlot n { x with tokenSeq := (x.tokenSeq + 1) % 65536, seen := x.seen ++ [(i.memberIndex, h.seq)] }).knowHalt n h
      (s1.tokenPorts i none).foldl (fun (t : State) p => t.emit (.halt p h)) s1

/-- Causes whose issuer ends FAULTED (R138). -/
def haltFaults : HaltCause → Bool
  | .timeLoss | .tierFail | .linkLoss | .containment => true
  | _ => false

/-- Florets of a slot stop after the bundle they execute (R139). -/
def State.stopFlorets (s : State) (n : Nat) : State :=
  let stop := fun (x : Floret) => match x.work with
    | some (.entry k _) => if k = n then { x with work := none, stall := none, ending := false } else x
    | _ => x
  let left := s.florets.barriers.filter (fun e => decide (Store.read none s.florets.staticBy (e.1 / 16) ≠ some n))
  { s with florets := { s.florets with florets := Store.revalue {} stop s.florets.florets, barriers := left } }

/-- Ports of a slot change their gate. -/
def State.slotGates (s : State) (n : Nat) (f : State → Nat → State) : State :=
  (s.traffic.gates.filter (fun e => decide (e.2.owner = some n))).foldl (fun (t : State) e => f t e.1) s

/-- A static cluster leaves its plan's clock (R530). -/
def State.planClocks (s : State) (i : PlanImage) (on : Bool) : State :=
  ((List.range 256).filter (fun c => i.has 1 c)).foldl (fun (t : State) c =>
    t.setClusterClock c (if on then i.clockCode * 100 else t.num (O.clusterClockRequestMhz (unitIndex (clusterLoc c))) 1800)) s

/-- A slot stops with a cause (R138, R139, R274). -/
def State.planStop (s : State) (n : Nat) (cause : HaltCause) (faulted : Bool) : State :=
  let x := s.slot n
  match x.image with
  | none => s
  | some i =>
    let s1 := s.setSlot n { x with
      state := if faulted then .faulted else .halted, haltCause := cause, resumable := decide (cause = .commandBoundary) && !faulted
      haltRotation := x.planTick / i.rotationTicks, transit := [], pending := [], remaining := 0, activeTick := none, halts := []
      tokensOpen := [], lateness := 0 }
    let s2 := (s1.setNum (O.planDiscardedExchanges n) ((s1.num (O.planDiscardedExchanges n) 0 + x.transit.length) % 2 ^ 32)).setNum (O.planHaltFtc n) s.ftc |>.setNum
      (O.planLateHalt n) 0
    (((s2.stopFlorets n).slotGates n (fun t p => t.setGate p { t.gateDefault p |>.gate p with owner := some n })).planClocks i false).planEvent n .ok

/-- The first known halt takes effect (R136, R138): a member records its own cause when it has issued one. -/
def State.haltEffect (s : State) (n : Nat) : State :=
  let x := s.slot n
  match x.image with
  | none => s
  | some i => match x.winner i.rotationTicks s.tick x.halts with
    | none => s
    | some w =>
      let own := if w.member = i.memberIndex then some w.cause
        else (x.halts.find? (fun h => decide (h.member = i.memberIndex))).map (·.cause)
      s.planStop n (own.getD w.cause) ((own.map haltFaults).getD false)

/-- Local containment of a slot (R111, R123, R138): it is FAULTED at once and tells the other members. -/
def State.planContain (s : State) (n : Nat) (cause : HaltCause) : State :=
  if planLive (s.slot n).state then (s.issueHalt n cause).planStop n cause true else s

/-- Slots in a live state. -/
def State.liveSlots (s : State) : List Nat := (s.plans.slots.filter (fun e => planLive e.2.state)).map (·.1)

/-! ### Arming (R124-R127, R140) -/

/-- The way a link's delay enters R118, in ticks. -/
def State.linkTicks (s : State) (p : Nat) : Nat := ceilDiv (Store.read ({} : Port) s.links.ports p).delay 32

/-- The slot that holds a plan. -/
def State.slotOf (s : State) (planId : Word64) : Option Nat :=
  (s.plans.slots.find? (fun e => decide ((e.2.image.map (·.planId)) = some planId) && decide (e.2.state ≠ .empty))).map (·.1)

/-- A crossing exchange that misses R118. -/
def State.crossBad (s : State) (i : PlanImage) (e : TickEntry) : Bool :=
  e.crosses && decide (e.kind = 1) && (match i.layout[e.arg0]? with
    | none => true
    | some d => decide (e.depart < ceilDiv d.bSource 8 + (match d.port with | some p => s.linkTicks p | none => 0) + i.replayAllow +
        ceilDiv d.bDest 8 + 2))

/-- A member's checks (R125, R140). -/
def State.armCheck (s : State) (planId : Word64) (resume : Bool) : Status × Nat :=
  match s.slotOf planId with
  | none => (.param, 0)
  | some n =>
    let x := s.slot n
    match x.image with
    | none => (.param, n)
    | some i =>
      if resume ∧ !(decide (x.state = .halted) && x.resumable) then (.param, n)
      else if !resume ∧ !(decide (x.state = .loaded) && x.drained) then (.busy, n)
      else if s.plans.lock ≠ .locked then (.busy, n)
      else if i.table.any (fun e => s.crossBad i e) then (.param, n)
      else if i.slipHorizon < Config.tokenPath planId + 2 then (.param, n)
      else (.ok, n)

/-- A member answers an arm request and enters ARMED when every check passes (R125, R530). -/
def State.memberArm (s : State) (planId : Word64) (start : Nat) (resume : Bool) : Status × State :=
  let r := s.armCheck planId resume
  if r.1 ≠ .ok then (r.1, s)
  else
    let x := s.slot r.2
    let t := s.setSlot r.2 { x with state := .armed, startFtc := start, armResume := resume, halts := [], haltCause := .none, resumable := false }
    (.ok, match x.image with | some i => t.planClocks i true | none => t)

/-- A member that receives disarm in time goes back (R126, R140). -/
def State.memberDisarm (s : State) (planId : Word64) : State :=
  match s.slotOf planId with
  | none => s
  | some n =>
    let x := s.slot n
    match x.image with
    | none => s
    | some i =>
      if x.state ≠ .armed ∨ x.startFtc ≤ s.ftc + 32 * i.slipHorizon then s
      else (s.setSlot n { x with state := if x.armResume then .halted else .loaded, resumable := x.armResume, halts := [],
                                 haltCause := if x.armResume then .commandBoundary else .none }).planClocks i false

/-- Disarm goes to every member (R126). -/
def State.disarmAll (s : State) (i : PlanImage) : State :=
  i.members.foldl (fun (t : State) m => if t.isHere m.node then t.memberDisarm i.planId else t.emit (.disarm m.node i.planId)) s

/-- What the coordinator checks of an arm or resume (R124). -/
def State.armBad (s : State) (n : Nat) (x : PlanSlot) : Option Status :=
  let f := s.num (O.planStartFtc n) 0
  match x.image with
  | none => some .param
  | some i =>
    if i.memberIndex ≠ 0 then some .access
    else if f % 32 ≠ 0 then some .align
    else if f < s.ftc + usUnits 500 ∨ s.ftc + usUnits 60000000 < f then some .range
    else if s.plans.lock ≠ .locked then some .busy else none

/-- The coordinator asks every member, itself at once (R125). -/
def State.armAll (s : State) (n : Nat) (resume : Bool) : State :=
  match (s.slot n).image with
  | none => s
  | some i =>
    let start := s.num (O.planStartFtc n) 0
    let s1 := s.setSlot n { s.slot n with busy := some (if resume then .resume else .arm), armReplies := [], startFtc := start, armResume := resume }
    ((List.range i.members.length).zip i.members).foldl (fun (t : State) m =>
      if t.isHere m.2.node then
        let r := t.memberArm i.planId start resume
        r.2.setSlot n { r.2.slot n with armReplies := (r.2.slot n).armReplies ++ [(m.1, r.1)] }
      else t.emit (.arm m.2.node i.planId start resume)) s1

def execPlanArm (p : DictPath) (slot : Nat) (s : State) : Result :=
  .next (s.begin.whenRunning (fun t => t.planCommand (.dict p) slot .arm (t.armBad slot) (fun u => u.armAll slot false)))

def execPlanResume (p : DictPath) (slot : Nat) (s : State) : Result :=
  .next (s.begin.whenRunning (fun t => t.planCommand (.dict p) slot .resume (t.armBad slot) (fun u => u.armAll slot true)))

/-- A member receives an arm request (R125). -/
def execArmRequest (planId : Word64) (start fromNode : Nat) (resume : Bool) (s : State) : Result :=
  .next (s.begin.whenRunning (fun t =>
    let r := t.memberArm planId start resume
    r.2.emit (.armReply fromNode planId r.1)))

/-- The coordinator receives a reply (R126). -/
def execArmReply (planId : Word64) (member : Nat) (st : Status) (s : State) : Result :=
  .next (s.begin.whenRunning (fun t =>
    match t.slotOf planId with
    | none => t
    | some n =>
      let x := t.slot n
      if (x.busy = some .arm ∨ x.busy = some .resume) ∧ !(x.armReplies.any (fun r => decide (r.1 = member))) then
        t.setSlot n { x with armReplies := x.armReplies ++ [(member, st)] }
      else t))

/-- The arm is decided, 250 µs before the start (R126). -/
def State.armDecide (t : State) (n : Nat) : State :=
  let x := t.slot n
  match x.image with
  | none => t
  | some i =>
    if x.busy ≠ some .arm ∧ x.busy ≠ some .resume then t
    else
      let t1 := t.atFtc (x.startFtc - usUnits 250)
      let bad := x.armReplies.find? (fun r => decide (r.2 ≠ .ok))
      let silent := (List.range i.members.length).find? (fun m => !(x.armReplies.any (fun r => decide (r.1 = m))))
      let out := match bad with
        | some r => some (r.2, r.1)
        | none => silent.map (fun m => (Status.timeout, m))
      match out with
      | none => ((t1.setNum (O.planArmStatus n) 0).setNum (O.planArmFailMember n) 0xFFFF).planOutcome n .ok
      | some (st, m) => (((t1.disarmAll i).setNum (O.planArmStatus n) st.code).setNum (O.planArmFailMember n) m).planOutcome n st

/-- Disarm from the coordinator (R126); an arm in progress ends with it. -/
def State.planDisarm (s : State) (a : Access) (n : Nat) : State :=
  s.planCommand a n .disarm (fun _ => none) (fun t => match (t.slot n).image with
    | none => t
    | some i => (t.disarmAll i).planOutcome n .ok)

/-- The start FTC (R127, R140). -/
def execPlanStart (slot : Nat) (s : State) : Result :=
  .next (s.begin.whenRunning (fun t =>
    let x := t.slot slot
    if x.state ≠ .armed then t
    else
      let t1 := t.atFtc x.startFtc
      let first := x.haltRotation * (match x.image with | some i => i.rotationTicks | none => 0)
      t1.setSlot slot { x with
        planTick := if x.armResume then first else 0
        state := .running, remaining := 0, pending := [], activeTick := none, quanta := 0
        seen := [], lateness := 0, tokensOpen := [], lastTokenTick := none, lastTick := x.startFtc / 32 - 1 }))

/-! ### Halts by command (R136, R143) -/

/-- Halt at a Rotation boundary, or now. -/
def State.planHalt (s : State) (a : Access) (n : Nat) (boundary : Bool) : State :=
  s.planCommand a n (if boundary then .haltBoundary else .haltNow) (fun _ => none) (fun t =>
    (t.issueHalt n (if boundary then .commandBoundary else .commandNow) boundary).planOutcome n .ok)

def execPlanHaltBoundary (a : Access) (slot : Nat) (s : State) : Result :=
  .next (s.begin.whenRunning (fun t => t.planHalt a slot true))

def execPlanHaltNow (a : Access) (slot : Nat) (s : State) : Result :=
  .next (s.begin.whenRunning (fun t => t.planHalt a slot false))

/-! ### Reset and unload (R141) -/

/-- Registers, tiles and FLAGS of the claimed clusters' Florets become zero (R174). -/
def State.zeroPlanRegs (s : State) (i : PlanImage) : State :=
  ((List.range 256).filter (fun c => i.has 1 c)).foldl (fun (t : State) c => t.zeroClusterRegs c) s

/-- Plan reset: the program is copied again; a failed read leaves the slot as it is. Jobs reopen with new epochs (R197). -/
def State.planReset (t : State) (n : Nat) : State :=
  match (t.slot n).image with
  | none => t
  | some i => match t.copyProgram n i with
    | .error st => t.planOutcome n st
    | .ok u =>
      let u1 := (u.zeroPlanRegs i).setSlot n { u.slot n with
        state := .loaded, planTick := 0, pending := [], remaining := 0, quanta := 0, halts := [], transit := [], resumable := false, seen := [] }
      let u2 := i.jobs.foldl (fun (v : State) e => ((v.dropInputs e.1).jobRelinquish e.1).startJob e.1 i.tenant 0 (some n) e.2) u1
      u2.planOutcome n .ok

def execPlanReset (p : DictPath) (slot : Nat) (s : State) : Result :=
  .next (s.begin.whenRunning (fun t => t.planCommand (.dict p) slot .reset (fun _ => none) (fun u => u.planReset slot)))

def execPlanUnload (p : DictPath) (slot : Nat) (s : State) : Result :=
  .next (s.begin.whenRunning (fun t => t.planCommand (.dict p) slot .unload (fun _ => none) (fun u =>
    match (u.slot slot).image with
    | none => u
    | some i => (u.planEmpty slot i).planOutcome slot .ok)))

/-! ### The tick (R113-R119, R133-R135) -/

/-- An exchange's source data at its departure; a static read that the tier fails ends the plan (R129, R138). -/
def State.exchangeData (s : State) (n : Nat) (i : PlanImage) (d : LayoutDesc) : Except Status (List Byte) × State :=
  if d.sourceJob then
    let j := s.job (jobNumber d.source)
    match j.outbox.find? (fun e => decide (e.1 = d.dest.toNat)) with
    | none => (.error .busy, s)
    | some e => (.ok e.2, s.setJob (jobNumber d.source) { j with outbox := j.outbox.erase e })
  else if addrRegion d.source = 0 then
    match s.serviceRead (addrOffset d.source) d.bytes i.tenant (.static n false) with
    | .ok bs => (.ok bs, s.used (addrOffset d.source) d.bytes i.tenant)
    | .error st => (.error st, if st = .tier then s.issueHalt n .tierFail else s)
  else if addrRegion d.source = 2 then
    match s.sramBad { src := .mgmt, tenant := i.tenant } 0 (addrOffset d.source) d.bytes with
    | some r => (.error r.status, s)
    | none => (.ok (s.sramBytes (addrOffset d.source) d.bytes), s)
  else (.error .param, s)

/-- Some destination of an exchange is this package. -/
def State.exchangeHere (s : State) (d : LayoutDesc) : Bool :=
  let node := addrNode d.dest
  s.isHere node || (isMulticast node && (Store.read ({} : McEntry) s.sw.mcast (node - 0xF000)).here)

/-- Departures at plan tick t: EFFECT - DEPART_OFFSET of each exchange whose source is here (R116). -/
def State.departures (s : State) (n : Nat) (i : PlanImage) (t : Nat) : State :=
  ((List.range i.table.length).zip i.table).foldl (fun (u : State) e =>
    let k := t + e.2.depart
    let rot := k / i.rotationTicks
    if e.2.kind ≠ 1 ∨ k % i.rotationTicks ≠ e.2.effect ∨ (i.rotationCount ≠ 0 ∧ i.rotationCount ≤ rot) then u
    else match i.layout[e.2.arg0]? with
      | none => u
      | some d =>
        if !(u.isHere (addrNode d.source)) then u
        else
          let r := u.exchangeData n i d
          match r.1 with
          | .error _ => r.2
          | .ok bs =>
            let v := if e.2.crosses then r.2.emit (.exchange n e.1 bs) else r.2
            if v.exchangeHere d then v.setSlot n { v.slot n with transit := (v.slot n).transit ++ [{ entry := e.1, rot := rot, data := bs }] }
            else v) s

/-- A plan job's input arrives (R210, R227): its key is the EFFECT tick and CONTRIB; beyond the window it is missed. -/
def State.planInput (s : State) (i : PlanImage) (d : LayoutDesc) (tick : Nat) (bs : List Byte) : Option State :=
  let n := jobNumber d.dest
  let r : Req := { issuer := { src := .mgmt, tenant := i.tenant }, tc := 0, target := d.dest }
  let h : HeldPut := { job := n, contrib := d.contrib, epoch := 0, fmt := d.fmt, expCheck := d.expCheck, flags := BitVec.ofNat 8 d.flags,
                       data := bs, req := r, port := 0, deadline := 0 }
  let j := s.job n
  if (j.shares h.fmt (jobOffset d.dest) bs).any (fun x => !(j.ready x.1 x.2.1)) then none
  else match s.putBad n h with
    | some (_, faults) => some (if faults then (s.bump O.expCheckFails).jobFault n .check else s)
    | none => s.takePut n h (tick, d.contrib) false

/-- The destination latches an exchange (R117). -/
def State.latch (s : State) (n : Nat) (i : PlanImage) (d : LayoutDesc) (tick : Nat) (bs : List Byte) : Option State :=
  if d.destJob then s.planInput i d tick bs
  else if addrRegion d.dest = 0 then
    let w := s.serviceWrite (addrOffset d.dest) bs i.tenant (.static n true)
    some (if w.1 = .tier then w.2.issueHalt n .tierFail else w.2)
  else if addrRegion d.dest = 2 then
    match s.sramBad { src := .mgmt, tenant := i.tenant } 0 (addrOffset d.dest) bs.length with
    | some _ => some s
    | none => some (s.sramWrite (addrOffset d.dest) bs)
  else some (s.emit (.operation { op := 1, req := { issuer := { src := .mgmt, tenant := i.tenant }, tc := 0, target := d.dest }, length := bs.length, data := bs }))

/-- An EXCHANGE entry at its EFFECT: met, with its slack counted, or missed (R119). -/
def State.exchangeEffect (s : State) (n : Nat) (i : PlanImage) (k : Nat) (d : LayoutDesc) (rot tick : Nat) (slack : Int) : State :=
  let x := s.slot n
  match x.transit.find? (fun t => decide (t.entry = k) && decide (t.rot = rot)) with
  | none => (s.bump O.missedDeadlines).issueHalt n .missedDeadline
  | some t =>
    let s1 := s.setSlot n { x with transit := x.transit.erase t }
    if slack < 0 then (s1.bump O.missedDeadlines).issueHalt n .missedDeadline
    else match s1.latch n i d tick t.data with
      | none => (s1.bump O.missedDeadlines).issueHalt n .missedDeadline
      | some u => if slack = 0 then u.bump O.slackZero else if slack = 1 then u.bump O.slackOne else u

/-- A START entry (R175). -/
def State.startEntry (s : State) (n c k : Nat) : State :=
  let prog := (s.slot n).program
  let mask := fieldAt prog (20 + 16 * k) 2
  let fs := (List.range 16).filter (fun f => bitAt mask f)
  let flo := fun (t : State) f => Store.read ({} : Floret) t.florets.florets (16 * c + f)
  if fs.any (fun f => (flo s f).work.isSome) then s.issueHalt n .missedDeadline
  else fs.foldl (fun (t : State) f =>
    let x := flo t f
    let w := fun (m : Store Word64) (r v : Nat) => Store.write 0 m r (BitVec.ofNat 64 v)
    let regs := { x.regs with
      sregs := w (w (w (w x.regs.sregs 1 (fieldAt prog (24 + 16 * k) 8)) 2 f) 3 k) 4 (t.path (floretLoc (16 * c + f)))
      stream := 0, srCount := 0, flags := 0 }
    let y := { x with
      regs := regs, atIssue := regs, wrote := [], work := some (.entry n k), bundle := fieldAt prog (16 + 16 * k) 4
      next := fieldAt prog (16 + 16 * k) 4, fresh := true, stall := none, ending := false }
    { t with florets := { t.florets with florets := Store.write ({} : Floret) t.florets.florets (16 * c + f) y } }) s

/-- The layer of a plan's table (R310). -/
def PlanImage.layer (i : PlanImage) (l : Nat) : Option LayerRec := (i.layers[l]?).bind layerRec

/-- One entry takes effect at a plan tick (R114). -/
def State.entryEffect (s : State) (n : Nat) (i : PlanImage) (k : Nat) (e : TickEntry) (t tick : Nat) (slacks : List (Nat × Int)) : State :=
  match e.kind with
  | 1 => match i.layout[e.arg0]? with
    | none => s
    | some d => if s.exchangeHere d then
        s.exchangeEffect n i k d (t / i.rotationTicks) tick (((slacks.find? (fun x => decide (x.1 = k))).map (·.2)).getD 2)
      else s
  | 2 => s.activate e.arg0 e.arg1 t
  | 3 => s.startEntry n e.arg0 e.arg1
  | 4 =>
    let who : Issuer := { src := .mgmt, tenant := i.tenant }
    if s.syncOpen e.arg0 who then s.syncUpdate e.arg0 ((s.sync e.arg0).value + BitVec.ofNat 64 e.arg1) who else s
  | 5 => match i.layer e.arg0 with
    | none => s
    | some r => (s.prefetchLayer r.part r (if r.release = 0 ∨ e.arg0 < r.release then none else i.layer (e.arg0 - r.release)) (.layer true e.arg0 none)).2
  | _ => s.setNum (O.planLastMark n) e.arg0

/-- Entries and departures of a plan tick (R115, R116). -/
def State.performTick (s : State) (n : Nat) (i : PlanImage) (tick : Nat) (slacks : List (Nat × Int)) : State :=
  let t := (s.slot n).planTick
  let s1 := ((List.range i.table.length).zip i.table).foldl (fun (u : State) e =>
    if e.2.effect = t % i.rotationTicks then u.entryEffect n i e.1 e.2 t tick slacks else u) s
  s1.departures n i t

/-- Pending tokens stand in the order of their effective ticks (R116). -/
def insertToken (k : SlipToken) (l : List SlipToken) : List SlipToken :=
  l.takeWhile (fun p => decide (p.whenFtc ≤ k.whenFtc)) ++ [k] ++ l.dropWhile (fun p => decide (p.whenFtc ≤ k.whenFtc))

/-- The sequencer issues a slip token when D is not covered, at most one per tick (R128). -/
def State.slipIssue (s : State) (n tick : Nat) (injected : Bool := false) : State :=
  let x := s.slot n
  match x.image with
  | none => s
  | some i =>
    if !(decide (x.state = .running) || decide (x.state = .slipping)) ∨ x.lateness ≤ 64 * x.tokensOpen.length ∨ x.lastTokenTick = some tick then s
    else
      let k : SlipToken := { planId := i.planId, whenFtc := (tick + i.slipHorizon) * 32, origin := x.lateOrigin, member := i.memberIndex
                             seq := x.tokenSeq % 65536, cause := x.lateCause, injected := injected || s.faults.firing.isSome }
      let merged := x.pending.any (fun p => decide (p.whenFtc = k.whenFtc)) || decide (x.activeTick = some (k.whenFtc / 32))
      let s1 := s.setSlot n { x with
        tokensOpen := x.tokensOpen ++ [k.whenFtc / 32], lastTokenTick := some tick, tokenSeq := (x.tokenSeq + 1) % 65536
        seen := x.seen ++ [(i.memberIndex, k.seq)]
        pending := if merged then x.pending else insertToken k x.pending }
      (s1.tokenPorts i none).foldl (fun (t : State) p => t.emit (.slip p k)) s1

/-- A quantum has run its 64 ticks: it covers 64 ticks of lateness when this member asked for it (R128, R133). -/
def State.quantumEnds (s : State) (n : Nat) : State :=
  let x := s.slot n
  match x.activeTick with
  | none => s
  | some a =>
    let own := x.tokensOpen.contains a
    (s.setSlot n { x with
      activeTick := none, tokensOpen := x.tokensOpen.filter (fun k => decide (k ≠ a)), lateness := if own then x.lateness - 64 else x.lateness
      }).slotGates n (fun t p => t.setGate p { t.gate p with inQuantum := false })

/-- The procedure of R116 at fabric tick n of a slot, with the budget of R134 and the first halt's tick (R136, R139). -/
def State.planStep (s : State) (n : Nat) (slacks : List (Nat × Int)) : State :=
  let x := s.slot n
  match x.image with
  | none => s
  | some i =>
    if x.state ≠ .running ∧ x.state ≠ .slipping then s
    else if i.rotationCount ≠ 0 ∧ i.rotationCount * i.rotationTicks ≤ x.planTick then s
    else
      let tick := x.lastTick + 1
      let s1 := (s.atTick tick).setSlot n { x with lastTick := tick }
      let due := match x.winner i.rotationTicks s.tick x.halts with
        | some w =>
          if w.byRotation then decide (w.whenVal * i.rotationTicks ≤ x.planTick ∧ x.remaining = 0) &&
            !(x.pending.any (fun k => decide (k.whenFtc / 32 ≤ tick)))
          else decide (w.whenVal / 32 ≤ tick)
        | none => false
      if due then s1.haltEffect n
      else
        let s2 := if x.remaining = 0 then s1.quantumEnds n else s1
        let y := s2.slot n
        let first := if y.remaining = 0 then y.pending.find? (fun k => decide (k.whenFtc / 32 ≤ tick)) else none
        match first with
        | some k =>
          if i.slipBudget < y.quanta + 1 then
            let h : HaltToken := { planId := i.planId, whenVal := tick * 32, origin := BitVec.ofNat 32 (s2.path .package), member := i.memberIndex
                                   seq := 0, cause := .slipBudget }
            (s2.setSlot n { y with halts := [h] }).haltEffect n
          else
            let s3 := s2.setSlot n { y with
              pending := y.pending.erase k, remaining := 63, quanta := y.quanta + 1, activeTick := some (k.whenFtc / 32), state := .slipping }
            let s4 := ((((s3.bump O.slipsTotal).bump (O.planSlipsTotal n)).setNum (O.planLastSlipFtc n) (tick * 32)).setNum
              (O.planLastSlipOrigin n) k.origin.toNat).setNum (O.planLastSlipCause n) k.cause.code
            (s4.slotGates n (fun t p => t.setGate p { t.gate p with inQuantum := true })).slipIssue n tick
        | none =>
          if 0 < y.remaining then (s2.setSlot n { y with remaining := y.remaining - 1, state := .slipping }).slipIssue n tick
          else
            let s3 := (s2.setSlot n { y with state := .running }).performTick n i tick slacks
            let z := s3.slot n
            let p := z.planTick + 1
            (s3.setSlot n { z with planTick := p, quanta := if p % i.rotationTicks = 0 then 0 else z.quanta }).slipIssue n tick

/-- An island reports projected lateness (R128). -/
def State.lateReport (t : State) (n : Nat) (cause : SlipCause) (ticks : Nat) (origin : Word32) (injected : Bool := false) : State :=
  let x := t.slot n
  if !(decide (x.state = .running) || decide (x.state = .slipping)) then t
  else
    let y := if x.lateness < ticks then { x with lateness := ticks, lateCause := cause, lateOrigin := origin } else x
    (t.setSlot n y).slipIssue n t.tick injected

def execLatenessReport (slot : Nat) (cause : SlipCause) (ticks : Nat) (origin : Word32) (s : State) : Result :=
  .next (s.begin.whenRunning (fun t => t.lateReport slot cause ticks origin))

/-- A received slip token (R131-R133, R136). -/
def State.slipArrives (t : State) (port : Option Nat) (k : SlipToken) : State :=
  match t.slotOf k.planId with
  | none => t
  | some n =>
    let x := t.slot n
    match x.image with
    | none => t
    | some i =>
      if x.seen.contains (k.member, k.seq) then t
      else
        let t1 := t.setSlot n { x with seen := x.seen ++ [(k.member, k.seq)] }
        let t2 := (t1.tokenPorts i port).foldl (fun (u : State) p => u.emit (.slip p k)) t1
        let y := t2.slot n
        if !(planLive y.state) then t2
        else if k.whenFtc < t.ftc + 64 then (t2.bump O.lateTokens).issueHalt n .lateToken
        else
          let cut := match y.winner i.rotationTicks t.tick y.halts with
            | some w => decide (y.haltTick i.rotationTicks t.tick w ≤ k.whenFtc / 32)
            | none => false
          let merged := y.pending.any (fun p => decide (p.whenFtc = k.whenFtc)) || decide (y.activeTick = some (k.whenFtc / 32))
          if cut || merged then t2 else t2.setSlot n { y with pending := insertToken k y.pending }

def execSlipToken (port : Option Nat) (k : SlipToken) (s : State) : Result :=
  .next (s.begin.whenRunning (fun t => t.slipArrives port k))

/-- A received halt token (R131, R136): one whose tick has passed is applied at once, with late_halt. -/
def State.haltArrives (t : State) (port : Option Nat) (h : HaltToken) : State :=
  match t.slotOf h.planId with
  | none => t
  | some n =>
    let x := t.slot n
    match x.image with
    | none => t
    | some i =>
      if x.seen.contains (h.member, h.seq) then t
      else
        let t1 := t.setSlot n { x with seen := x.seen ++ [(h.member, h.seq)] }
        let t2 := (t1.tokenPorts i port).foldl (fun (u : State) p => u.emit (.halt p h)) t1
        if !(planLive x.state) then t2
        else
          let t3 := t2.knowHalt n h
          let late := if h.byRotation then decide (h.whenVal * i.rotationTicks < x.planTick) else decide (h.whenVal < t.ftc)
          if late then (t3.haltEffect n).setNum (O.planLateHalt n) 1 else t3

/-- The Rotation of the next exchange of an entry whose data has not come yet. -/
def PlanSlot.nextRot (x : PlanSlot) (rotTicks k effect : Nat) : Nat :=
  let first := if x.planTick % rotTicks ≤ effect then x.planTick / rotTicks else x.planTick / rotTicks + 1
  ((List.range (x.transit.length + 1)).map (fun d => first + d)).find? (fun r =>
    !(x.transit.any (fun t => decide (t.entry = k) && decide (t.rot = r)))) |>.getD first

/-- Data of a crossing exchange arrives in a class 0 frame and is held until its EFFECT (R117, R135): it belongs to the first exchange to
its target that takes effect and has no data yet. -/
def State.staticArrival (s : State) (n : Nat) (target : Word64) (bs : List Byte) : State :=
  let x := s.slot n
  match x.image with
  | none => s
  | some i =>
    let mine := ((List.range i.table.length).zip i.table).filterMap (fun e =>
      if decide (e.2.kind = 1) && e.2.crosses && (match i.layout[e.2.arg0]? with | some d => decide (d.dest = target) | none => false) then
        some (e.1, x.nextRot i.rotationTicks e.1 e.2.effect, e.2.effect)
      else none)
    let first := mine.foldl (fun (b : Option (Nat × Nat × Nat)) e => match b with
      | none => some e
      | some c => if e.2.1 * i.rotationTicks + e.2.2 < c.2.1 * i.rotationTicks + c.2.2 then some e else some c) none
    match first with
    | none => s
    | some (k, rot, _) => s.setSlot n { x with transit := x.transit ++ [{ entry := k, rot := rot, data := bs }] }

/-! ### Fabric time (R120-R123, R144, R475) -/

def State.timeRoot (s : State) : Nat := s.num O.timeRootNode 0xFFFF
def State.linkUp (s : State) (p : Nat) : Bool :=
  let x := Store.read ({} : Port) s.links.ports p
  x.up && decide (x.mode = .opvitik)

/-- Hops to a root through an active port, at most 8 (R121). -/
def State.hopsVia (s : State) (root p : Nat) : Option Nat :=
  if !s.linkUp p then none else match Config.timeHops root p with
    | some h => if h ≤ 8 then some h else none
    | none => none

/-- The root in force: the time root, or the backup when no port reaches it (R121). -/
def State.rootNow (s : State) : Nat :=
  if s.nodeId = s.timeRoot ∨ (List.range 36).any (fun p => (s.hopsVia s.timeRoot p).isSome) then s.timeRoot
  else s.num O.timeBackupRootNode 0xFFFF

/-- The port with the fewest hops, the lowest of equals. -/
def State.bestParent (s : State) (root : Nat) : Option (Nat × Nat) :=
  (List.range 36).foldl (fun (b : Option (Nat × Nat)) p => match s.hopsVia root p, b with
    | some h, some (q, g) => if h < g then some (p, h) else some (q, g)
    | some h, none => some (p, h)
    | none, b => b) none

def State.parentPort (s : State) : Nat := s.num O.timeParentPort 0xFF

/-- The lock state changes (R122). -/
def State.setLock (s : State) (l : LockState) : State :=
  { s with plans := { s.plans with lock := l, goodRun := 0, badRun := 0, missRun := 0, holdoverAt := s.now } }

/-- The package becomes UNLOCKED: its live slots are FAULTED (R123). -/
def State.timeLost (s : State) : State :=
  let s1 := (s.setLock .unlocked).bump32 O.timeLockLosses
  s1.liveSlots.foldl (fun (t : State) n => t.planContain n .timeLoss) s1

/-- The parent is chosen anew (R121, R122). The root is LOCKED, as its own reference. -/
def State.chooseParent (s : State) : State :=
  let root := s.rootNow
  if s.nodeId = root ∧ root ≠ 0xFFFF then ((s.setNum O.timeParentPort 0xFF).setNum O.timeHops 0).setLock .locked
  else match s.bestParent root with
    | none =>
      let s1 := (s.setNum O.timeParentPort 0xFF).setNum O.timeHops 0
      if s1.plans.lock = .acquiring then s1.setLock .unlocked else s1
    | some (p, h) =>
      let keep := decide (s.plans.lock = .locked) && decide (s.parentPort ≠ 0xFF) && decide (s.num O.timeHops 0 < h)
      let s1 := if keep then s else (s.setNum O.timeParentPort p).setNum O.timeHops h
      if s.plans.lock ≠ .unlocked then s1
      else
        let s2 := s1.setLock .acquiring
        { s2 with plans := { s2.plans with acquiredOnce := true, stepDue := !s2.plans.acquiredOnce && s2.liveSlots.isEmpty } }

/-- Every interval: parents are judged, timestamps sent, and an exchange not heard is missed (R121, R122). -/
def execTimeSyncInterval (s : State) : Result :=
  .next (s.begin.whenRunning (fun t =>
    let t0 := t.elapse (t.now + usUnits (t.num O.syncIntervalUs 8))
    let p := t0.parentPort
    let missed := decide (p < 36) && !(Store.read ({} : TimePort) t0.plans.ports p).heard
    let t1 := { t0 with plans := { t0.plans with missRun := if missed then t0.plans.missRun + 1 else 0, ports := [] } }
    let t2 := if t1.plans.lock = .locked ∧ 4 ≤ t1.plans.missRun then t1.setLock .holdover else t1
    let t3 := t2.chooseParent
    ((List.range 36).filter (fun q => t3.linkUp q)).foldl (fun (u : State) q =>
      let e := (Store.read ({} : Port) u.links.ports q).timeRx
      u.emit (.timeFlit q u.ftc e.1 e.2)) t3))

/-- A signed value as an I32 object holds it. -/
def i32 (v : Int) : Nat := (v % 2 ^ 32).toNat

/-- A TIME flit arrives (R475): L of its port, and from the parent the offset and the lock (R122). -/
def State.timeHeard (t : State) (p txFtc echoTx echoRx arrival : Nat) : State :=
  let x := Store.read ({} : Port) t.links.ports p
  let paired := decide (echoTx ≠ 0)
  let l : Int := (((arrival : Int) - echoTx) - ((txFtc : Int) - echoRx)) / 2 - x.asym
  let delay := if paired then l.toNat else x.delay
  let t1 := { t with
    links := { t.links with ports := Store.write ({} : Port) t.links.ports p { x with delay := delay, timeRx := (txFtc, arrival) } }
    plans := { t.plans with ports := Store.write ({} : TimePort) t.plans.ports p { heard := true } } }
  let t2 := t1.setNum (O.portDelayPs0 + p) (delay * 250)
  if t2.parentPort ≠ p then t2
  else
    let parent := txFtc + delay
    if t2.plans.stepDue then
      { t2 with ftc := parent + (t2.ftc - arrival), plans := { t2.plans with stepDue := false } }
    else
      let off : Int := (parent : Int) - arrival
      let good := decide (-4 ≤ off) && decide (off ≤ 4)
      let t3 := t2.setNum O.offsetEstimate (i32 (off * 16))
      let q := { t3.plans with goodRun := if good then t3.plans.goodRun + 1 else 0, badRun := if good then 0 else t3.plans.badRun + 1, missRun := 0 }
      let t4 := { t3 with plans := q }
      match q.lock with
      | .acquiring => if 16 ≤ q.goodRun then t4.setLock .locked else t4
      | .locked => if 16 ≤ q.badRun then t4.setLock .holdover else t4
      | .holdover => if good then t4.setLock .locked else t4
      | .unlocked => t4

def execTimeFlit (port txFtc echoTx echoRx arrival : Nat) (s : State) : Result :=
  .next (s.begin.whenRunning (fun t => if t.linkUp port then t.timeHeard port txFtc echoTx echoRx arrival else t))

/-- ftc_set (R144). Of the span's slots the package sees its own. -/
def State.ftcSet (s : State) (p : DictPath) (v : Nat) : State :=
  let bad := if v % 32 ≠ 0 then some (refusal .range)
    else if s.nodeId ≠ s.timeRoot ∨ s.timeRoot = 0xFFFF ∨ !s.liveSlots.isEmpty then some (refusal .busy) else none
  s.openWrite (.dict p) O.ftcSet bad (fun t => { t with ftc := v })

def execFtcSet (p : DictPath) (v : Word64) (s : State) : Result :=
  .next (s.begin.whenRunning (fun t => t.ftcSet p v.toNat))

end Sys2Proof.Machine
end

