-- ==== Sys2Proof/Machine/Contain.lean ====
section
/-! DEFINITION. What a live plan holds of a unit's subtree (R36, R50, R106), and how a containment begins (R556, R557). -/

namespace Sys2Proof.Machine

/-- Units that a claim names (R106), or that hold what it names. -/
def State.claimUnits (s : State) (c : Claim) : List UnitLoc :=
  let ns := (List.range c.amount).map (fun k => c.first + k)
  match c.kind with
  | 1 => ns.map clusterLoc
  | 3 | 4 | 11 => [.hub]
  | 5 => let x := s.part c.first
    ((x.reserved.filter (fun e => decide (e.2 ≠ 0))).map (fun e => channelLoc e.1)).eraseDups
  | 6 => [.port c.first]
  | 7 => [hcuLoc c.first]
  | 8 => ns.map hcuLoc
  | 9 => ns.map (fun n => hcuLoc (256 + n))
  | 10 => ns.map (fun n => hcuLoc (512 + n))
  | _ => []

/-- The first slot that is ARMED, RUNNING or SLIPPING and claims something in the unit's subtree. -/
def State.slotOver (s : State) (l : UnitLoc) : Option Nat :=
  (s.plans.slots.find? (fun e => planLive e.2.state && (match e.2.image with
    | some i => i.claims.any (fun c => (s.claimUnits c).any (fun m => unitWithin l m))
    | none => false))).map (·.1)

/-- Units change their state. -/
def State.setStates (s : State) (us : List UnitLoc) (st : UnitState) : State :=
  us.foldl (fun (t : State) u => t.setUnit u { t.unit u with state := st }) s

/-- A containment of the unit, or the fence of the port, is under way or waits for a plan's halt (R558). -/
def State.containing (s : State) (l : UnitLoc) (port : Bool) : Bool :=
  let ix := match l with | .port p => if port then p else unitIndex l | _ => unitIndex l
  s.power.containWaits.any (fun w => decide (w.1 = ix) && (w.2.1 == port)) ||
  (if port then (match l with | .port p => s.faults.fenced.getLsbD p | _ => false)
   else decide ((s.unit l).state = .faulted) || s.power.commands.any (fun c => c.contain && decide (c.target = unitIndex l)))

/-- The quiesce of a containment begins: it ends in FAULTED, and after 1 ms its requests are ended (R556). -/
def State.startContain (s : State) (l : UnitLoc) : State :=
  let ok := fun (m : UnitLoc) => match (s.unit m).state with
    | .active => true
    | .quiescing | .quiesced => decide (m = l)
    | _ => false
  if !(ok l) then s
  else
    let us := (unitSubtree s.chip.variant l).filter ok
    let s1 := s.setStates us .quiescing
    { s1 with power := { s1.power with commands := s1.power.commands ++ [
      { target := unitIndex l, cmd := .quiesce, units := us.map unitIndex, deadline := some (s1.now + msUnits 1), contain := true }] } }

/-- A fault that contains a unit (R553, R556-R558): its record, and the containment, at once or at the halt of the plan that claims
the unit. -/
def State.containUnit (s : State) (l : UnitLoc) (code arg : Nat) : State :=
  if s.containing l false then s.fault code (s.path l) arg
  else match s.slotOver l with
    | none => (s.fault code (s.path l) arg 2).startContain l
    | some n =>
      let s1 := s.fault code (s.path l) arg 6
      let s2 := { s1 with power := { s1.power with containWaits := s1.power.containWaits ++ [(unitIndex l, false, n)] } }
      s2.issueHalt n .containment

end Sys2Proof.Machine
end

