-- ==== Sys2Proof/Machine/Queues.lean ====
section
/-! DEFINITION. Hardware queues (R74-R92, R287, R538): contexts and their cache, doorbells, items started in order, completion
entries, flushes, posted failures, and responses that reach their issuer. -/

namespace Sys2Proof.Machine

/-! ### The context cache (R86) -/

/-- A doorbell finds the context cached, or loads it and evicts the least recently used unpinned one. -/
def State.touchQueue (s : State) (q : Nat) : State :=
  let s1 := if (s.queue q).cached then s else (s.setQueue q { s.queue q with cached := true }).bump O.queueContextMisses
  let lru := s1.remote.lru.filter (fun n => decide (n ≠ q)) ++ [q]
  let out := if lru.length ≤ 8192 then none else lru.find? (fun n => decide (n ≠ q) && !(s1.queue n).pinned)
  match out with
  | none => { s1 with remote := { s1.remote with lru := lru } }
  | some n =>
    let s2 := s1.setQueue n { s1.queue n with cached := false }
    { s2 with remote := { s2.remote with lru := lru.filter (fun k => decide (k ≠ n)) } }

/-! ### Rings and completion entries (R80, R82-R84, R89) -/

def QueueCtx.slots (c : QueueCtx) : Nat := 2 ^ c.ringLog2

/-- Address of slot k of a ring (R80). -/
def QueueCtx.slotAddr (c : QueueCtx) (k : Word32) : Word64 := c.ringBase + BitVec.ofNat 64 (k.toNat % c.slots * 64)

/-- The COMPLETION queue a queue's entries go to, while it can take them (R74, R83). -/
def State.cqOf (s : State) (c : QueueCtx) : Option Nat :=
  if c.cqNone then none
  else if (s.queue c.cq).kind = .completion ∧ (s.queue c.cq).state = .enabled then some c.cq else none

/-- Free slots of a COMPLETION queue that no started item has reserved (R83). -/
def QueueCtx.freeSlots (c : QueueCtx) : Nat := c.slots - (c.done - c.head).toNat - c.reserved

/-- The 32 bytes of a completion entry (R82): PHASE is 1 in the first pass of the ring. -/
def entryBytes (cq : QueueCtx) (ftc : Nat) (f : FinishedItem) (posted : Bool) : List Byte :=
  let phase := 1 - cq.done.toNat / cq.slots % 2
  let w := f.status.code + f.disp.code * 2 ^ 8 + f.reason.code * 2 ^ 10 + f.load * 2 ^ 14 + b2n posted * 2 ^ 18 +
    b2n f.injected * 2 ^ 19 + phase * 2 ^ 20
  natLe 4 w ++ natLe 4 f.tag.toNat ++ natLe 8 f.result.toNat ++ natLe 4 f.item ++ natLe 4 (f.op + f.detail * 256) ++ natLe 8 ftc

/-- Bytes are written at a fabric address for a tenant: here, or by a put to another node (R595). -/
def State.putBytes (s : State) (tenant tc : Nat) (a : Word64) (bs : List Byte) : State :=
  let who : Issuer := { src := .mgmt, tenant := tenant, node := s.nodeId }
  if s.isHere (addrNode a) then (s.writeLocal who tc a bs).2
  else s.emit (.operation { op := 1, req := { issuer := who, tc := tc, target := a }, length := bs.length, data := bs })

/-- An entry is written at the next slot of a COMPLETION queue. -/
def State.putEntry (s : State) (cq : Nat) (f : FinishedItem) (posted : Bool) : State :=
  let c := s.queue cq
  let bs := entryBytes c s.ftc f posted
  let s1 := s.putBytes c.owner f.tc (c.slotAddr c.done) bs
  (s1.setQueue cq { s1.queue cq with done := c.done + 1 }).emit (.entry cq (c.done.toNat % c.slots) bs)

/-- Items at the front that write no entry count in DONE at once (R83, R84). -/
def settleN : Nat → QueueCtx → QueueCtx
  | 0, c => c
  | n + 1, c => match c.finished.find? (fun f => decide (f.item = c.done.toNat)) with
    | some f => if f.entry then c else settleN n { c with done := c.done + 1, finished := c.finished.erase f }
    | none => c
def QueueCtx.settle (c : QueueCtx) : QueueCtx := settleN c.finished.length c

/-- A started item finishes with its answer (R84); `item` is its number. -/
def State.finishItem (s : State) (q item : Nat) (r : Response) : State :=
  let c := s.queue q
  match c.started.find? (fun x => decide (x.item = item)) with
  | none => s
  | some x =>
    let f : FinishedItem := { item := item, status := r.status, disp := r.disp, reason := r.reason, load := r.load, result := r.result,
                              tag := x.tag, op := x.op, detail := r.detail, tc := x.tc, injected := r.injected }
    s.setQueue q ({ c with started := c.started.erase x, finished := c.finished ++ [f] } : QueueCtx).settle

/-! ### Doorbells and contexts (R75-R79) -/

/-- Only the owning tenant's issuers may write a doorbell or a context (R77). -/
def State.queueOpen (s : State) (i : Issuer) (q : Nat) : Bool := decide ((s.queue q).owner = i.tenant)

/-- A QDB_COMMIT write (R79). -/
def State.commitWrite (s : State) (q v : Nat) : Response × State :=
  let s1 := s.touchQueue q
  let c := s1.queue q
  let count : Word32 := BitVec.ofNat 32 v
  let comp := decide (c.kind = .completion)
  let mine := if comp then c.head else c.commit
  if bitsOf v 63 40 ≠ 0 then (refusal .rsvd, s1)
  else if bitsOf v 39 32 ≠ c.epoch.toNat then (refusal .flushed, s1.setQueue q { c with staleCommits := c.staleCommits + 1 })
  else if count = mine then (served, s1)
  else if 2 ^ 31 < (count - mine).toNat then (refusal .param, s1)
  else if comp then
    if (c.done - c.head).toNat < (count - c.head).toNat then (refusal .range, s1)
    else (served, s1.setQueue q { c with head := count })
  else if c.slots < (count - c.head).toNat then (refusal .range, s1)
  else (served, s1.setQueue q { c with commit := count })

/-- What enable asks of a DISABLED queue (R78). -/
def State.canEnable (s : State) (c : QueueCtx) : Bool :=
  decide (4 ≤ c.ringLog2) && decide (c.ringLog2 ≤ 20) && decide (c.ringBase.toNat % 64 = 0) && decide (addrRegion c.ringBase ≤ 2) &&
    !(isMulticast (addrNode c.ringBase)) && decide (addrOffset c.ringBase + 64 * c.slots ≤ 2 ^ 44) &&
    (decide (c.kind = .completion) || c.cqNone ||
      (decide ((s.queue c.cq).kind = .completion) && decide ((s.queue c.cq).state = .enabled)))

def State.enableQueue (s : State) (q : Nat) : Response × State :=
  let c := s.queue q
  match c.state with
  | .enabled => (served, if c.draining then s.setQueue q { c with draining := false } else s)
  | .disabled =>
    if s.canEnable c then
      let owed := (c.finished.filter (·.entry)).length
      let s1 := s.setQueue q { c with state := .enabled, commit := 0, head := 0, done := 0, draining := false, finished := [] }
      (served, if c.cqNone then s1 else s1.setQueue c.cq { s1.queue c.cq with reserved := (s1.queue c.cq).reserved - owed })
    else (refusal .param, s)
  | _ => (refusal .busy, s)

def State.disableQueue (s : State) (q : Nat) : Response × State :=
  let c := s.queue q
  if c.state = .disabled then (served, s) else (served, s.setQueue q { c with draining := true })

/-- Items not started at a flush, in order (R87 step 2). -/
def flushedItems (head : Word32) : Nat → List FinishedItem
  | 0 => []
  | n + 1 => { item := head.toNat, status := .flushed, disp := .refused, reason := .none, load := 0, result := 0, tag := 0, op := 0 } ::
      flushedItems (head + 1) n

/-- COMPLETION queues count the slots their queues' entries still need (R83). -/
def State.reserve (s : State) (c : QueueCtx) (n : Nat) : State :=
  if c.cqNone then s else s.setQueue c.cq { s.queue c.cq with reserved := (s.queue c.cq).reserved + n }

/-- A flush (R87, R96). -/
def State.flushQueue (s : State) (q : Nat) : Response × State :=
  let c := s.queue q
  let epoch := c.epoch + 1
  if c.kind = .completion then
    (served, s.setQueue q { c with epoch := epoch })
  else
    let n := (c.commit - c.head).toNat
    let items := (flushedItems c.head n).map (fun (f : FinishedItem) => { f with entry := !c.cqNone })
    let s1 := (s.setQueue q ({ c with
      epoch := epoch, state := if c.state = .enabled then .flushing else c.state, flushEnd := some c.commit, head := c.commit
      finished := c.finished ++ items } : QueueCtx).settle).reserve c n
    let ws := s1.remote.waits.filter (fun w => decide (w.req.issuer.src = .queue q))
    (served, ws.foldl (fun (t : State) w => t.endWait w .flushed) s1)

def State.clearStickyQueue (s : State) (q : Nat) : Response × State :=
  (served, s.setQueue q { s.queue q with sticky := .ok })

/-- A put to QDB_CONTROL (R76). -/
def State.controlWrite (s : State) (q v : Nat) : Response × State :=
  let s1 := s.touchQueue q
  match v with
  | 1 => s1.enableQueue q
  | 2 => s1.disableQueue q
  | 3 => s1.flushQueue q
  | 4 => s1.clearStickyQueue q
  | _ => (refusal .rsvd, s1)

def kindCode : QueueKind → Nat
  | .submit => 0 | .completion => 1 | .unitWork => 2

/-- The 8-byte word at offset 8 x word of a context (R75). -/
def QueueCtx.word (c : QueueCtx) : Nat → Nat
  | 0 => c.ringBase.toNat
  | 1 => c.ringLog2 + kindCode c.kind * 2 ^ 8 + c.state.code * 2 ^ 10 + c.epoch.toNat * 2 ^ 12 + b2n c.pinned * 2 ^ 20 +
      b2n c.cached * 2 ^ 21 + c.owner * 2 ^ 24 + c.cq * 2 ^ 32 + b2n c.cqNone * 2 ^ 51
  | 2 => c.commit.toNat + c.head.toNat * 2 ^ 32
  | 3 => c.done.toNat + c.maxInflight * 2 ^ 32
  | 4 => c.staleCommits.toNat + c.checkFails.toNat * 2 ^ 32
  | 5 => c.firstFailSeq.toNat + c.sticky.code * 2 ^ 32
  | 6 => c.postedIssued.toNat + c.postedRetired.toNat * 2 ^ 32
  | _ => c.postedLost.toNat + c.noCqRefusals.toNat * 2 ^ 32

/-- Reserved bits of each word of a context, and its read-only bits (R75). -/
def ctxReserved (word v : Nat) : Bool :=
  match word with
  | 1 => decide (bitsOf v 7 5 ≠ 0) || decide (bitsOf v 23 22 ≠ 0) || decide (bitsOf v 63 52 ≠ 0) || decide (bitsOf v 9 8 = 3)
  | 3 => decide (bitsOf v 63 45 ≠ 0)
  | 5 => decide (bitsOf v 63 40 ≠ 0)
  | _ => false
def ctxReadOnlySame (word old v : Nat) : Bool :=
  match word with
  | 0 => true
  | 1 => decide (bitsOf v 21 10 = bitsOf old 21 10) && decide (bitsOf v 31 24 = bitsOf old 31 24)
  | 3 => decide (bitsOf v 31 0 = bitsOf old 31 0)
  | _ => decide (v = old)

/-- A put to a word of a context, judged whole (R75). -/
def State.contextWrite (s : State) (q word v : Nat) : Response × State :=
  let c := s.queue q
  let old := c.word word
  if ctxReserved word v then (refusal .rsvd, s)
  else if !ctxReadOnlySame word old v then (refusal .access, s)
  else if v ≠ old ∧ c.state ≠ .disabled then (refusal .busy, s)
  else match word with
    | 0 => (served, s.setQueue q { c with ringBase := BitVec.ofNat 64 v })
    | 1 =>
      let kind := if bitsOf v 9 8 = 0 then QueueKind.submit else if bitsOf v 9 8 = 1 then .completion else .unitWork
      (served, s.setQueue q { c with ringLog2 := bitsOf v 4 0, kind := kind, cq := bitsOf v 50 32, cqNone := bitAt v 51 })
    | 3 =>
      let m := bitsOf v 44 32
      if v ≠ old ∧ (m = 0 ∨ 4096 < m) then (refusal .param, s) else (served, s.setQueue q { c with maxInflight := m })
    | _ => (served, s)

/-- QDB_STATE (R76). -/
def State.doorbellState (s : State) (q : Nat) : Nat :=
  let c := s.queue q
  c.head.toNat + c.epoch.toNat * 2 ^ 32 + c.state.code * 2 ^ 40 + c.sticky.code * 2 ^ 42

/-- A doorbell or context write of an issuer: refused to others than the owner (R77). -/
def State.queueWrite (s : State) (i : Issuer) (q : Nat) (f : State → Response × State) : Result :=
  .next (s.begin.whenRunning (fun t =>
    if !(t.queueOpen i q) then t.answer (refusal .access)
    else
      let r := f t
      r.2.answer r.1))

def execQdbCommit (i : Issuer) (q : Nat) (v : Word64) (s : State) : Result :=
  s.queueWrite i q (fun t => t.commitWrite q v.toNat)
def execQueueEnable (i : Issuer) (q : Nat) (s : State) : Result := s.queueWrite i q (fun t => t.controlWrite q 1)
def execQueueDisable (i : Issuer) (q : Nat) (s : State) : Result := s.queueWrite i q (fun t => t.controlWrite q 2)
def execQueueFlush (i : Issuer) (q : Nat) (s : State) : Result := s.queueWrite i q (fun t => t.controlWrite q 3)
def execClearSticky (i : Issuer) (q : Nat) (s : State) : Result := s.queueWrite i q (fun t => t.controlWrite q 4)
def execQueueContextPut (i : Issuer) (q word : Nat) (v : Word64) (s : State) : Result :=
  s.queueWrite i q (fun t => t.contextWrite q word v.toNat)

/-- The items in flight of a queue being disabled have completed (R78). -/
def execQueueDisableDrained (q : Nat) (s : State) : Result :=
  .next (s.begin.whenRunning (fun t =>
    let c := t.queue q
    if c.draining && c.started.isEmpty && c.finished.isEmpty then t.setQueue q { c with state := .disabled, draining := false } else t))

/-- DONE has reached the COMMIT that stood at the flush (R87 step 4). -/
def execQueueFlushEnd (q : Nat) (s : State) : Result :=
  .next (s.begin.whenRunning (fun t =>
    let c := t.queue q
    if c.state = .flushing ∧ c.flushEnd = some c.done then t.setQueue q { c with state := .enabled, flushEnd := none } else t))

/-! ### Items (R80-R85) -/

/-- A SUBMIT descriptor as an operation of the queue (R81). -/
def descOp (i : Issuer) (k : Nat) (bs : List Byte) : Operation :=
  let w := fieldAt bs 0 8
  { op := bitsOf w 7 0
    req := { issuer := i, tc := bitsOf w 11 8, posted := bitAt w 12, md := BitVec.ofNat 8 (bitsOf w 31 24)
             tag := BitVec.ofNat 32 (bitsOf w 63 32), target := BitVec.ofNat 64 (fieldAt bs 8 8)
             localA := BitVec.ofNat 64 (fieldAt bs 16 8), seq := k }
    length := fieldAt bs 24 4, sync := fieldAt bs 28 2 % 2 ^ 14, operand1 := BitVec.ofNat 64 (fieldAt bs 32 8)
    operand2 := BitVec.ofNat 64 (fieldAt bs 40 8), params := sliceB bs 48 16 }

/-- Operations that may be posted (R81, R399). -/
def postable (op : Nat) : Bool := [1, 3, 5, 6, 0x60].contains op

/-- A descriptor field that chapter 02 refuses (R52, R81), in order. -/
def descBad (o : Operation) (bs : List Byte) : Option Status :=
  if bitsOf (fieldAt bs 0 8) 15 14 ≠ 0 ∨ fieldAt bs 28 2 / 2 ^ 14 ≠ 0 ∨ fieldAt bs 30 2 ≠ 0 then some .rsvd
  else if o.op = 0 ∨ (9 < o.op ∧ o.op < 0x10) ∨ 0x7F < o.op then some .rsvd
  else if o.op ≠ 0x10 ∧ o.op ≠ 0x21 ∧ !(o.op = 0x30 ∧ o.req.md.toNat % 16 = 1) ∧ !(zerosAt bs 48 16) then some .rsvd
  else if o.req.tc = 0 then some .access
  else if o.req.posted && !postable o.op then some .param
  else if [3, 4, 5, 7, 9].contains o.op ∧ o.length ≠ 0 then some .param
  else if [1, 2, 6].contains o.op ∧ o.req.localA = 0 then some .param
  else none

/-- Operations whose descriptor's LOCAL is the source of their data (R81). -/
def takesData (op : Nat) : Bool := [1, 6, 0x21, 0x50, 0x79].contains op

/-- An item is refused at its start, or counts only (R81, R83). -/
def State.refuseItem (s : State) (q : Nat) (o : Operation) (st : Status) (nonPosted : Bool) : State :=
  let c := s.queue q
  let c1 : QueueCtx := { c with
    head := c.head + 1
    checkFails := if st = .check then c.checkFails + 1 else c.checkFails
    noCqRefusals := if st ≠ .check ∧ c.cqNone ∧ nonPosted then c.noCqRefusals + 1 else c.noCqRefusals
    finished := c.finished ++ [{ item := c.head.toNat, status := st, disp := .refused, reason := .none, load := 0, result := 0
                                 tag := o.req.tag, op := o.op, tc := if o.req.tc = 0 then 1 else o.req.tc, entry := !c.cqNone }] }
  (s.setQueue q c1.settle).reserve c 1

/-- The operation of an item or a Floret starts: open until its outcome is known, counted when posted (R64, R88), and sent to its
target, where it has its effect. -/
def State.issueOp (s : State) (o : Operation) : State :=
  let s1 := if o.req.posted then s.countIssued o.req.issuer else s
  (if o.op = 7 ∨ o.op = 9 then s1 else s1.openOp o.req o.op).emit (.operation o)

/-- Items of the issuer that hold back those behind them: a FENCE or a WAIT in progress (R64, R65). -/
def QueueCtx.heldBack (c : QueueCtx) : Bool := c.started.any (fun x => decide (x.op = 7) || decide (x.op = 8))

/-- The ring read of the next item has failed (R85). -/
def State.ringFails (s : State) (q : Nat) (st : Status) : State :=
  let c := s.queue q
  let c1 : QueueCtx := { c with
    head := c.head + 1, state := .error
    finished := c.finished ++ [{ item := c.head.toNat, status := st, disp := .served, reason := .none, load := 0, result := 0, tag := 0
                                 op := 0, entry := !c.cqNone }] }
  (s.setQueue q c1.settle).reserve c 1

/-- A queue may start its next item (R78, R84, R85). -/
def QueueCtx.mayStart (c : QueueCtx) : Bool :=
  decide (c.state = .enabled) && !c.draining && decide (c.kind ≠ .completion) && decide (c.head ≠ c.commit) &&
    decide (c.started.length < c.maxInflight) && !c.heldBack

/-- A free slot of the COMPLETION queue, where an entry is to be written (R83). -/
def State.slotFree (s : State) (c : QueueCtx) : Bool :=
  c.cqNone || match s.cqOf c with
    | some n => decide (0 < (s.queue n).freeSlots)
    | none => false

/-- The queue is the work queue of a unit whose admission is closed: items already queued stay there (R536). -/
def State.workHeld (s : State) (q : Nat) (c : QueueCtx) : Bool :=
  decide (c.kind = .unitWork) && decide (q < 12288) && match unitLoc (q + 0x8000) with
    | some l => s.closed l
    | none => false

/-- The next item of a queue starts, or is refused at its start (R81, R83, R84). -/
def State.startItem (s : State) (q : Nat) (remote : List Byte) : State :=
  let c := s.queue q
  if !c.mayStart || s.workHeld q c then s
  else match s.fetchBytes { src := .queue q, tenant := c.owner, node := s.nodeId } 1 (c.slotAddr c.head) 64 remote with
    | .error st => if s.slotFree c then s.ringFails q st else s
    | .ok bs =>
      let k := c.head.toNat
      let who : Issuer := { src := .queue q, tenant := c.owner, node := s.nodeId }
      let o := descOp who k bs
      let expects := !(o.req.posted && postable o.op)
      let unit := decide (c.kind = .unitWork)
      if bitsOf (fieldAt bs 0 8) 23 16 ≠ k % 256 then (if s.slotFree c then s.refuseItem q o .check expects else s)
      else if c.cqNone && expects then s.refuseItem q o .param true
      else match (if unit then (if o.op = 0x10 then none else some .param) else descBad o bs) with
        | some st => if s.slotFree c then s.refuseItem q o st expects else s
        | none =>
          let before := s.remote.outstanding.any (fun x => decide (x.issuer = who)) || !c.started.isEmpty
          if bitAt (fieldAt bs 0 8) 13 && before then s
          else if expects && !s.slotFree c then s
          else if unit then
            let c1 : QueueCtx := { c with head := c.head + 1, started := c.started ++ [{ item := k, op := 0x10, tc := 1, tag := o.req.tag }] }
            (((s.fetchUsed who (c.slotAddr c.head) 64).setQueue q c1).reserve c 1).emit (.operation { o with data := bs })
          else
            match (if takesData o.op then s.fetchBytes who o.req.tc o.req.localA o.length (remote.drop 64) else .ok []) with
            | .error st => if s.slotFree c then s.refuseItem q o st expects else s
            | .ok data =>
              let s := (s.fetchUsed who (c.slotAddr c.head) 64).fetchUsed who o.req.localA data.length
              if o.req.posted then
                let c1 : QueueCtx := { c with
                  head := c.head + 1
                  finished := c.finished ++ [{ item := k, status := .ok, disp := .served, reason := .none, load := 0, result := 0
                                               tag := o.req.tag, op := o.op, entry := false }] }
                (s.setQueue q c1.settle).issueOp { o with data := data, req := { o.req with seq := c.postedIssued.toNat } }
              else
                let c1 : QueueCtx := { c with
                  head := c.head + 1
                  started := c.started ++ [{ item := k, op := o.op, tc := o.req.tc, tag := o.req.tag, target := o.req.target }] }
                ((s.setQueue q c1).reserve c 1).issueOp { o with data := data }

def execItemStart (q : Nat) (remote : List Byte) (s : State) : Result := .next (s.begin.whenRunning (fun t => t.startItem q remote))

/-- The entry of the next item in order is written, when that item has finished (R84). -/
def State.writeNext (s : State) (q : Nat) : State :=
  let c := s.queue q
  match c.finished.find? (fun f => decide (f.item = c.done.toNat)) with
  | none => s
  | some f =>
    let s1 := s.setQueue q ({ c with done := c.done + 1, finished := c.finished.erase f } : QueueCtx).settle
    let full := match s.cqOf c with
      | some n => decide ((s.queue n).slots ≤ ((s.queue n).done - (s.queue n).head).toNat)
      | none => false
    if c.cqNone || !f.entry then s1
    else if full then s
    else
      let s2 := s1.setQueue c.cq { s1.queue c.cq with reserved := (s1.queue c.cq).reserved - 1 }
      match s2.cqOf c with
      | none => s2
      | some n => s2.putEntry n f false

/-- A read of the ring has failed with a STATUS (R85). -/
def execQueueRingReadFail (q : Nat) (st : Status) (s : State) : Result :=
  .next (s.begin.whenRunning (fun t =>
    let c := t.queue q
    if c.mayStart && t.slotFree c then t.ringFails q st else t))

/-! ### Posted failures (R89-R91) -/

/-- A posted operation has failed: STICKY_STATUS, its retirement, and its entry or response (R89, R91). A failure of an operation of
another epoch of its issuer is dropped (R538). -/
def State.postedFails (s : State) (i : Issuer) (pseq : Nat) (r : Response) : State :=
  match s.outOp i true pseq with
  | none => s
  | some o =>
    if o.epoch ≠ s.issuerEpoch i then ((s.closeOp i true pseq).wake).bump O.lateRepliesDropped
    else
    let s1 := ((s.setSticky i r.status (BitVec.ofNat 32 pseq)).closeOp i true pseq).wake
    let f : FinishedItem := { item := pseq, status := r.status, disp := r.disp, reason := r.reason, load := r.load
                              result := o.target.setWidth 64, tag := o.tag, op := o.op, detail := r.detail, tc := o.tc
                              injected := r.injected }
    match issuerQueue i with
    | some q =>
      let lost := s1.setQueue q { s1.queue q with postedLost := (s1.queue q).postedLost + 1 }
      match s1.cqOf (s1.queue q) with
      | none => lost
      | some n => if (s1.queue n).freeSlots = 0 then lost else s1.putEntry n f true
    | none => match i.src with
      | .endpoint n =>
        if s1.links.ports.any (fun e => e.2.up && decide (e.2.peerNode = n)) then
          s1.emit (.response { issuer := i, tc := o.tc, posted := true, tag := o.tag, target := o.target, seq := pseq } o.op
            { r with result := o.target })
        else s1.bump O.postedLostTotal
      | _ => s1

def execPostedFailureReport (i : Issuer) (pseq : Word32) (r : Response) (s : State) : Result :=
  .next (s.begin.whenRunning (fun t => if r.status = .ok then t else t.postedFails i pseq.toNat r))

/-- A posted operation outlives the posted lifetime (R90). -/
def execPostedTimeout (i : Issuer) (pseq : Word32) (s : State) : Result :=
  .next (s.begin.whenRunning (fun t =>
    match t.outOp i true pseq.toNat with
    | none => t
    | some o => (t.elapse (o.issuedAt + o.lifetime)).postedFails i pseq.toNat (served .timeout)))

end Sys2Proof.Machine
end

