-- ==== Sys2Proof/Machine/Tasks.lean ====
section
/-! DEFINITION. Dynamic tasks of the Florets (R37, R177-R182): items, their split into pools, taking and stealing, the commit
order, the item's end. -/

namespace Sys2Proof.Machine

/-! ### Florets, items and pools -/

def State.floret (s : State) (f : Nat) : Floret := Store.read ({} : Floret) s.florets.florets f
def State.setFloret (s : State) (f : Nat) (x : Floret) : State :=
  { s with florets := { s.florets with florets := Store.write ({} : Floret) s.florets.florets f x } }

def State.item (s : State) (id : Nat) : Option TaskItem := s.florets.items.find? (fun x => decide (x.id = id))
def State.setItem (s : State) (x : TaskItem) : State :=
  { s with florets := { s.florets with items := s.florets.items.map (fun y => if y.id = x.id then x else y) } }

def State.tasksOf (s : State) (c : Nat) : List TaskRange := Store.read [] s.florets.pools c
def State.setTasks (s : State) (c : Nat) (l : List TaskRange) : State :=
  { s with florets := { s.florets with pools := Store.write [] s.florets.pools c l } }

/-- The quadrant an item runs in, numbered 4d + q (R178). -/
def TaskItem.quadrant (x : TaskItem) : Nat :=
  match x.taken with
  | some (.floret f) => f / 256
  | some (.cluster c) => c / 16
  | some (.quadrant q) => q
  | none => 0

/-- The commit engine of an item's quadrant issues its COMMIT operations as one issuer (R180). -/
def State.commitIssuer (s : State) (x : TaskItem) : Issuer :=
  { src := .commit x.quadrant x.id, tenant := x.tenant, node := s.nodeId }

/-- A unit counts a completion (R34). -/
def State.countUnit (s : State) (l : UnitLoc) (st : Status) : State :=
  let s1 := s.bump (O.unitOpsCompleted (unitIndex l))
  if st = .ok then s1 else s1.bump (O.unitErrors (unitIndex l))

/-! ### Commit order (R180) and the end of an item (R182) -/

/-- A staged operation is issued by the commit engine. -/
def State.releaseStaged (s : State) (id : Nat) (o : StagedOp) : State :=
  match s.item id with
  | none => s
  | some x =>
    let s1 := s.setItem { x with nextOp := x.nextOp + 1 }
    s1.issueOp { op := o.op, req := { o.req with issuer := s1.commitIssuer x, seq := x.nextOp }
                 length := if o.op = 3 ∨ o.op = 5 then 0 else o.data.length, data := o.data, operand1 := o.operand, sync := o.sync }

/-- The staged operations of a task are released in staging order. -/
def State.releaseTask (s : State) (id t : Nat) : State :=
  let mine := fun (o : StagedOp) => decide (o.item = id) && decide (o.task = t)
  let s1 := { s with florets := { s.florets with staged := s.florets.staged.filter (fun o => !(mine o)) } }
  (s.florets.staged.filter mine).foldl (fun (u : State) o => u.releaseStaged id o) s1

/-- The task that ends the item by its fault, if one has (R182). -/
def TaskItem.stop (x : TaskItem) : Nat :=
  match x.fault with
  | some (k, _, _) => k
  | none => x.count

/-- The head commits while it has ended, and the next task's staged operations are released (R180). -/
def State.commitN : Nat → State → Nat → State
  | 0, s, _ => s
  | n + 1, s, id =>
    match s.item id with
    | none => s
    | some x =>
      if x.head < x.stop ∧ x.ended.contains x.head then
        let fl := ((x.endFlags.find? (fun e => decide (e.1 = x.head))).map (·.2)).getD 0
        let s1 := s.setItem { x with
          head := x.head + 1, ended := x.ended.erase x.head, flagsOr := x.flagsOr ||| fl
          endFlags := x.endFlags.filter (fun e => decide (e.1 ≠ x.head)) }
        State.commitN n (if x.head + 1 < x.stop then s1.releaseTask id (x.head + 1) else s1) id
      else s

/-- An item ends when every task below its end has committed, no task of it runs and its commits are acknowledged (R182). -/
def State.endItem (s : State) (id : Nat) : State :=
  match s.item id with
  | none => s
  | some x =>
    if x.head = x.stop ∧ x.running = [] ∧ !(s.remote.outstanding.any (fun o => decide (o.issuer = s.commitIssuer x))) then
      let code := match x.fault with
        | some (_, c, k) => (c, k.code)
        | none => (0, 0)
      let s1 := { s with florets := { s.florets with items := s.florets.items.filter (fun y => decide (y.id ≠ id)) } }
      let unit := match x.taken with
        | some (.floret f) => floretLoc f
        | some (.cluster c) => clusterLoc c
        | _ => .quadrant (x.quadrant / 4) (x.quadrant % 4)
      (s1.finishItem x.queue x.itemNo
        { served (statusOf code.1) (BitVec.ofNat 64 x.head) with detail := x.flagsOr.toNat + code.2 * 32 }).countUnit unit (statusOf code.1)
    else s

def State.settleItem (s : State) (id : Nat) : State :=
  match s.item id with
  | none => s
  | some x => (s.commitN (x.ended.length + 1) id).endItem id

/-- A task of an item ends on its Floret (R180, R189). -/
def State.endTask (s : State) (f id t : Nat) : State :=
  let y := s.floret f
  let s1 := (s.setFloret f { y with work := none, ending := false, stall := none, wrote := [] }).bump
    (O.clusterTasksRun (unitIndex (clusterLoc (f / 16))))
  match s1.item id with
  | none => s1
  | some x => (s1.setItem { x with running := x.running.erase t, ended := x.ended ++ [t], endFlags := x.endFlags ++ [(t, y.regs.flags)] }).settleItem id

/-- Ranges of an item keep only tasks below k. -/
def clipRanges (id k : Nat) (l : List TaskRange) : List TaskRange :=
  (l.map (fun (r : TaskRange) => if r.item = id then { r with hi := min r.hi k } else r)).filter (fun r => decide (r.lo < r.hi))

/-- A task faults: staged operations of it and of higher tasks go, and unstarted higher tasks never start (R182). -/
def State.faultTask (s : State) (f id t code : Nat) (slot : Slot) : State :=
  let y := s.floret f
  let s1 := s.setFloret f { y with work := none, ending := false, stall := none, wrote := [] }
  match s1.item id with
  | none => s1
  | some x =>
    let low := match x.fault with
      | some (k, _, _) => decide (t < k)
      | none => true
    let s2 := s1.setItem { x with running := x.running.erase t, fault := if low then some (t, code, slot) else x.fault }
    let s3 := { s2 with florets := { s2.florets with
      staged := s2.florets.staged.filter (fun o => decide (o.item ≠ id) || decide (o.task < t))
      pools := (s2.florets.pools.map (fun (e : Nat × List TaskRange) => (e.1, clipRanges id t e.2))).filter (fun (e : Nat × List TaskRange) => !e.2.isEmpty) } }
    s3.settleItem id

/-- A reset of the Floret returns its task once; on a second reset the item ends with E_UNIT_RESET (R37, R182). -/
def State.returnTask (s : State) (f id t : Nat) : State :=
  match s.item id with
  | none => s
  | some x =>
    if x.returned.contains t then s.faultTask f id t 0x0B .none
    else
      let y := s.floret f
      let s1 := (s.setFloret f { y with work := none, ending := false, stall := none, wrote := [] }).setItem
        { x with running := x.running.erase t, returned := x.returned ++ [t] }
      let s2 := { s1 with florets := { s1.florets with
        staged := s1.florets.staged.filter (fun o => decide (o.item ≠ id) || decide (o.task ≠ t)) } }
      match x.taken with
      | some (.floret _) => s2
      | _ => s2.setTasks (f / 16) ({ item := id, lo := t, hi := t + 1 } :: s2.tasksOf (f / 16))

/-! ### Items onto units (R37, R177, R178) -/

/-- A unit that runs RUN_TASK items, or passes them down (R177). -/
def taskUnit : UnitLoc → Bool
  | .floret _ _ _ _ | .cluster _ _ _ | .quadrant _ _ | .die _ | .package => true
  | _ => false

/-- A field of a RUN_TASK item that refuses it (R11, R177). -/
def State.runTaskBad (s : State) (bs : List Byte) : Option Status :=
  let w := fieldAt bs 0 8
  let code := BitVec.ofNat 64 (fieldAt bs 8 8)
  if bitsOf w 12 8 ≠ 0 ∨ bitsOf w 15 14 ≠ 0 ∨ bitsOf w 31 24 ≠ 0 ∨ fieldAt bs 43 1 ≠ 0 ∨ fieldAt bs 44 4 ≠ 0 ∨ !(zerosAt bs 56 8) then
    some .rsvd
  else if !(s.isHere (addrNode code)) ∨ (addrRegion code ≠ 0 ∧ addrRegion code ≠ 2) ∨ code.toNat % 32 ≠ 0 then some .param
  else if fieldAt bs 40 3 = 0 then some .param
  else none

/-- An item of a unit's work queue is checked and waits there for a unit to take it; a leaf has taken it. -/
def State.runTask (s : State) (q k : Nat) (bs : List Byte) : State :=
  let c := s.queue q
  if !(c.started.any (fun x => decide (x.item = k) && decide (x.op = 0x10))) ∨
      s.florets.items.any (fun x => decide (x.queue = q) && decide (x.itemNo = k)) then s
  else match unitLoc (q + 0x8000) with
    | none => s.finishItem q k (refusal .param)
    | some l =>
      if !taskUnit l ∨ unitQueue l ≠ q then s.finishItem q k (refusal .param)
      else match s.runTaskBad bs with
        | some st => s.finishItem q k (refusal st)
        | none =>
          let x : TaskItem := {
            id := s.florets.nextItem, queue := q, itemNo := k, tenant := c.owner, tag := BitVec.ofNat 32 (fieldAt bs 4 4)
            code := BitVec.ofNat 64 (fieldAt bs 8 8), arg0 := BitVec.ofNat 64 (fieldAt bs 16 8), arg1 := BitVec.ofNat 64 (fieldAt bs 24 8)
            stream := BitVec.ofNat 64 (fieldAt bs 32 8), count := fieldAt bs 40 3, seed := BitVec.ofNat 64 (fieldAt bs 48 8)
            waitsAt := unitIndex l
            taken := match l with
              | .floret d qd cl fl => some (.floret (1024 * d + 256 * qd + 16 * cl + fl))
              | _ => none }
          { s with florets := { s.florets with nextItem := s.florets.nextItem + 1, items := s.florets.items ++ [x] } }

def execRunTask (q item : Nat) (o : Operation) (s : State) : Result := .next (s.begin.whenRunning (fun t => t.runTask q item o.data))

/-- A cluster serves a tenant's dynamic tasks: ACTIVE, dynamic, and owned by it (R178, R433). -/
def State.clusterServes (s : State) (tenant c : Nat) : Bool :=
  !(s.closed (clusterLoc c)) && (s.staticSlotOf c).isNone && decide (s.clusterOwner c = tenant)

/-- Clusters of a quadrant that serve a tenant, in number order. -/
def State.servingClusters (s : State) (tenant q : Nat) : List Nat :=
  ((List.range 16).map (fun c => 16 * q + c)).filter (s.clusterServes tenant)

/-- A unit's own work queue is empty (R37). -/
def State.ownQueueEmpty (s : State) (l : UnitLoc) : Bool :=
  let c := s.queue (unitQueue l)
  (decide (c.state = .disabled) || decide (c.kind = .completion) || decide (c.head = c.commit)) &&
    s.florets.items.all (fun x => decide (x.waitsAt ≠ unitIndex l))

/-- A child takes the oldest item that waits at its group (R37, R178). -/
def State.groupTake (s : State) (l : UnitLoc) : State :=
  match unitParent l with
  | none => s
  | some g =>
    if s.closed l ∨ s.closed g ∨ !(s.ownQueueEmpty l) ∨ s.num (O.unitStealEnable (unitIndex g)) 1 = 0 then s
    else match s.florets.items.find? (fun x => x.taken.isNone && decide (x.waitsAt = unitIndex g)) with
      | none => s
      | some x => match l with
        | .die d => if ((List.range 4).flatMap (fun q => s.servingClusters x.tenant (4 * d + q))).isEmpty then s
            else s.setItem { x with waitsAt := unitIndex l }
        | .quadrant d q => if (s.servingClusters x.tenant (4 * d + q)).isEmpty then s
            else s.setItem { x with waitsAt := 0, taken := some (.quadrant (4 * d + q)) }
        | .cluster d q k =>
            let c := 64 * d + 16 * q + k
            if !(s.clusterServes x.tenant c) ∨ 256 ≤ (s.tasksOf c).length then s
            else (s.setItem { x with waitsAt := 0, taken := some (.cluster c) }).setTasks c (s.tasksOf c ++ [{ item := x.id, lo := 0, hi := x.count }])
        | .floret d q k f =>
            let n := 1024 * d + 256 * q + 16 * k + f
            if !(s.clusterServes x.tenant (n / 16)) ∨ (s.floret n).work.isSome then s
            else s.setItem { x with waitsAt := unitIndex l, taken := some (.floret n) }
        | _ => s

def execGroupQueueTake (child : Nat) (s : State) : Result :=
  .next (s.begin.whenRunning (fun t => match unitLoc child with
    | some l => t.groupTake l
    | none => t))

/-- Contiguous ranges of [0, count) over n clusters; sizes differ by at most one, the larger ones first (R178). -/
def splitRanges (id count n : Nat) : List TaskRange :=
  (List.range n).map (fun i =>
    let lo := i * (count / n) + min i (count % n)
    { item := id, lo := lo, hi := lo + count / n + (if i < count % n then 1 else 0) })

/-- A quadrant splits an item's tasks once every pool has room (R178). -/
def execTaskSplit (item : Nat) (s : State) : Result :=
  .next (s.begin.whenRunning (fun t =>
    match t.item item with
    | none => t
    | some x =>
      match x.taken with
      | some (.quadrant q) =>
        let cs := t.servingClusters x.tenant q
        let n := min 16 (min x.count cs.length)
        if x.split ∨ n = 0 ∨ (cs.take n).any (fun c => decide (256 ≤ (t.tasksOf c).length)) then t
        else ((cs.take n).zip (splitRanges x.id x.count n)).foldl (fun (u : State) e => u.setTasks e.1 (u.tasksOf e.1 ++ [e.2]))
          (t.setItem { x with split := true })
      | _ => t))

/-! ### Taking and stealing (R177, R179, R181) -/

/-- Bytes of a Floret's 16 KiB commit quota in use (R180). -/
def State.quotaUsedBy (s : State) (f : Nat) : Nat :=
  ((s.florets.staged.filter (fun o => decide (o.floret = f))).map (fun (o : StagedOp) => 64 + roundUp o.data.length 64)).sum
/-- The quota cannot take even the smallest staging (R181). -/
def State.quotaFull (s : State) (f : Nat) : Bool := decide (16384 < s.quotaUsedBy f + 64)

/-- A Floret starts a task (R177). -/
def State.startTask (s : State) (f id t : Nat) : State :=
  match s.item id with
  | none => s
  | some x =>
    let w := fun (m : Store Word64) (r : Nat) (v : Word64) => Store.write 0 m r v
    let regs : FloretRegs := {
      sregs := w (w (w (w (w [] 1 x.arg0) 2 x.arg1) 3 (BitVec.ofNat 64 t)) 4 (BitVec.ofNat 64 (s.path (floretLoc f)))) 5
        (BitVec.ofNat 64 x.count)
      stream := x.stream + BitVec.ofNat 64 t }
    let y := { s.floret f with
      regs := regs, atIssue := regs, wrote := [], work := some (.task id t), bundle := 0, next := 0, fresh := true, stall := none
      ending := false }
    (s.setItem { x with running := x.running ++ [t] }).setFloret f y

/-- Remove a task from the ranges of a pool. -/
def dropTask (id t : Nat) : List TaskRange → List TaskRange
  | [] => []
  | r :: rest =>
    if r.item = id ∧ r.lo ≤ t ∧ t < r.hi then
      (if r.lo < t then [{ r with hi := t }] else []) ++ (if t + 1 < r.hi then [{ r with lo := t + 1 }] else []) ++ rest
    else r :: dropTask id t rest

/-- The lowest task of the oldest item of a pool (R179). -/
def lowestTask (l : List TaskRange) : Option (Nat × Nat) :=
  l.foldl (fun (best : Option (Nat × Nat)) r =>
    match best with
    | none => some (r.item, r.lo)
    | some b => if r.item < b.1 ∨ (r.item = b.1 ∧ r.lo < b.2) then some (r.item, r.lo) else some b) none

def State.takeFrom (s : State) (c f id t : Nat) : State := (s.setTasks c (dropTask id t (s.tasksOf c))).startTask f id t

/-- The largest range, the first of equals. -/
def largestRange (l : List TaskRange) : Option TaskRange :=
  l.foldl (fun (best : Option TaskRange) r =>
    match best with
    | none => some r
    | some b => if b.hi - b.lo < r.hi - r.lo then some r else some b) none

def pendingTasks (l : List TaskRange) : Nat := (l.map (fun r => r.hi - r.lo)).sum

/-- The sibling cluster to steal from: the most pending tasks, the lowest number of equals (R179). -/
def State.victimCluster (s : State) (c : Nat) : Option Nat :=
  let all := ((List.range 16).map (fun k => c / 16 * 16 + k)).filter (fun k =>
    decide (k ≠ c) && !(s.tasksOf k).isEmpty && decide (s.clusterOwner k = s.clusterOwner c) &&
    decide (s.num (O.unitStealEnable (unitIndex (clusterLoc k))) 1 ≠ 0))
  all.foldl (fun (best : Option Nat) k =>
    match best with
    | none => some k
    | some b => if pendingTasks (s.tasksOf b) < pendingTasks (s.tasksOf k) then some k else some b) none

/-- A steal: the upper half of the victim's largest range, or a range of one task whole, and its lowest task starts (R179). -/
def State.steal (s : State) (f v : Nat) : State :=
  let c := f / 16
  match largestRange (s.tasksOf v) with
  | none => s
  | some r =>
    let n := max 1 ((r.hi - r.lo) / 2)
    let left := (s.tasksOf v).flatMap (fun (x : TaskRange) =>
      if x = r then (if r.hi - n = r.lo then [] else [{ r with hi := r.hi - n }]) else [x])
    let mine : TaskRange := { r with lo := r.hi - n }
    let s1 := (s.setTasks v left).setTasks c (s.tasksOf c ++ [mine])
    let s2 := (s1.bumpN (O.clusterTasksStolenIn (unitIndex (clusterLoc c))) n).bumpN (O.clusterTasksStolenOut (unitIndex (clusterLoc v))) n
    s2.takeFrom c f r.item mine.lo

/-- The next task of an item that a Floret runs alone (R178). -/
def TaskItem.nextAlone (x : TaskItem) : Option Nat :=
  if x.running = [] ∧ x.head < x.stop then some x.head else none

/-- A unit takes no tasks of its own any more: tasks already in a pool still run while it is QUIESCING (R536). -/
def State.takesNothing (s : State) (l : UnitLoc) : Bool :=
  match (s.unit l).state with
  | .active | .quiescing => false
  | _ => true

/-- An idle Floret takes its next task (R179); with its quota full it takes only a head task (R181). -/
def State.taskTake (s : State) (f : Nat) : State :=
  let c := f / 16
  if s.takesNothing (floretLoc f) ∨ s.takesNothing (clusterLoc c) ∨ (s.staticSlotOf c).isSome ∨ (s.floret f).work.isSome then s
  else match s.florets.items.find? (fun x => decide (x.taken = some (.floret f)) && x.nextAlone.isSome) with
    | some x => s.startTask f x.id x.head
    | none =>
      if s.quotaFull f then
        match s.florets.items.findSome? (fun x =>
          ((List.range 16).map (fun k => c / 16 * 16 + k)).findSome? (fun k =>
            if (s.tasksOf k).any (fun r => decide (r.item = x.id) && decide (r.lo ≤ x.head) && decide (x.head < r.hi)) &&
              decide (s.clusterOwner k = s.clusterOwner c) then some (k, x.id, x.head) else none)) with
        | some (k, id, t) => s.takeFrom k f id t
        | none => s
      else match lowestTask (s.tasksOf c) with
        | some (id, t) => s.takeFrom c f id t
        | none =>
          if s.closed (floretLoc f) ∨ s.closed (clusterLoc c) then s
          else match s.victimCluster c with
          | some v => s.steal f v
          | none => s

def execTaskTake (floret : Nat) (s : State) : Result := .next (s.begin.whenRunning (fun t => t.taskTake floret))

/-- An entry is written in item order; items whose commits have been acknowledged end first (R84, R182). -/
def execItemComplete (q : Nat) (s : State) : Result :=
  .next (s.begin.whenRunning (fun t =>
    ((t.florets.items.filter (fun x => decide (x.queue = q))).foldl (fun (u : State) x => u.endItem x.id) t).writeNext q))

end Sys2Proof.Machine
end

