-- ==== Sys2Proof/Machine/FloretCore.lean ====
section
/-! DEFINITION. How a Floret issues the slots of a bundle (R147, R149-R152, R171, R176): registers as of issue, write conflicts, local
addresses, stalls, and program errors. -/

namespace Sys2Proof.Machine

abbrev eTrap : Nat := 0x80
abbrev eEncoding : Nat := 0x81
abbrev eOperand : Nat := 0x82
abbrev eAddress : Nat := 0x83
abbrev eFloretAccess : Nat := 0x84

/-! ### Registers (R146) -/

def FloretRegs.s (r : FloretRegs) (n : Nat) : Word64 := if n = 0 then 0 else Store.read 0 r.sregs n
def FloretRegs.v (r : FloretRegs) (n : Nat) : List Word32 := Store.read (List.replicate 64 0) r.vregs n
def FloretRegs.m (r : FloretRegs) (n : Nat) : Word64 := if n = 0 then BitVec.allOnes 64 else Store.read 0 r.masks n
def FloretRegs.t (r : FloretRegs) (n : Nat) : Tile := Store.read ({} : Tile) r.tiles n

/-- The registers change, and the bundle has now written these (R151). -/
def State.setRegs (s : State) (f : Nat) (names : List RegName) (g : FloretRegs → FloretRegs) : Except Nat State :=
  let x := s.floret f
  if names.any (fun n => x.wrote.contains n) then .error eOperand
  else .ok (s.setFloret f { x with regs := g x.regs, wrote := x.wrote ++ names })

def State.putScalar (s : State) (f n : Nat) (v : Word64) : Except Nat State :=
  if n = 0 then .ok s else s.setRegs f [.scalar n] (fun r => { r with sregs := Store.write 0 r.sregs n v })
def State.putVector (s : State) (f n : Nat) (v : List Word32) : Except Nat State :=
  s.setRegs f [.vector n] (fun r => { r with vregs := Store.write (List.replicate 64 0) r.vregs n v })
def State.putMask (s : State) (f n : Nat) (v : Word64) : Except Nat State :=
  if n = 0 then .error eOperand else s.setRegs f [.mask n] (fun r => { r with masks := Store.write 0 r.masks n v })
def State.putTiles (s : State) (f : Nat) (ts : List (Nat × Tile)) : Except Nat State :=
  s.setRegs f (ts.map (fun e => .tile e.1)) (fun r =>
    { r with tiles := ts.foldl (fun (m : Store Tile) e => Store.write ({} : Tile) m e.1 e.2) r.tiles })

/-- Sticky FLAGS rise, with the Floret's counts of such operations (R171, R188). -/
def State.raiseFlags (s : State) (f fl : Nat) (conversion : Bool) : State :=
  let x := s.floret f
  let u := unitIndex (floretLoc f)
  let s1 := s.setFloret f { x with regs := { x.regs with flags := x.regs.flags ||| BitVec.ofNat 5 fl } }
  let s2 := if conversion && (bitAt fl 1 || bitAt fl 3) then s1.bump (O.floretOverflowEvents u) else s1
  if bitAt fl 0 || bitAt fl 4 then s2.bump (O.floretInvalidEvents u) else s2

/-! ### Local addresses (R147, R149) -/

/-- Where n bytes at a local address lie in REGION 0x2. -/
def State.localOffset (s : State) (f a n align : Nat) : Except Nat Nat :=
  let c := f / 16
  if a % align ≠ 0 then .error eAddress
  else if a + n ≤ 0x20000 then .ok (f * 0x20000 + a)
  else if 0x200000 ≤ a ∧ a + n ≤ 0x400000 then
    if (s.staticSlotOf c).isNone ∧ 0x3A0000 < a + n then .error eFloretAccess
    else .ok (0x20000000 + c * 0x200000 + (a - 0x200000))
  else .error eAddress

def State.localRead (s : State) (f a n align : Nat) : Except Nat (List Byte) :=
  match s.localOffset f a n align with
  | .error e => .error e
  | .ok off => .ok (s.sramBytes off n)

def State.localWrite (s : State) (f a align : Nat) (bs : List Byte) : Except Nat State :=
  match s.localOffset f a bs.length align with
  | .error e => .error e
  | .ok off => .ok (s.sramWrite off bs)

/-- A register plus a signed offset, as an address. -/
def localSum (base : Word64) (imm : Int) : Nat := (base + BitVec.ofInt 64 imm).toNat

/-! ### Program errors (R152, R176, R182) -/

/-- The Floret runs a plan's entry, or nothing in a static cluster; a dynamic task runs to its end in a cluster that a plan has claimed
meanwhile (R110). -/
def State.runsStatic (s : State) (f : Nat) : Bool :=
  match (s.floret f).work with
  | some (.entry _ _) => true
  | some (.task _ _) => false
  | none => (s.staticSlotOf (f / 16)).isSome

/-- Address of the current bundle (R188): a local address of a static cluster, else the distance from CODE. -/
def State.bundleAddress (s : State) (f : Nat) : Nat :=
  (s.floret f).bundle + if s.runsStatic f then 0x200000 else 0

/-- A program error ends the task or the entry. -/
def State.floretFault (s : State) (f code : Nat) (slot : Slot) : State :=
  let u := unitIndex (floretLoc f)
  let s1 := ((s.setNum (O.floretFaultStatus u) code).setNum (O.floretFaultSlot u) slot.code).setNum (O.floretFaultBundle u) (s.bundleAddress f)
  let x := s1.floret f
  match x.work with
  | none => s1
  | some (.task id t) => (s1.faultTask f id t code slot).countUnit (floretLoc f) (statusOf code)
  | some (.entry n _) =>
    let s2 := (s1.setFloret f { x with work := none, stall := none, ending := false, wrote := [] }).setUnit (floretLoc f)
      { s1.unit (floretLoc f) with state := .faulted }
    let again := s2.containing (clusterLoc (f / 16)) false
    let s3 := (s2.countUnit (floretLoc f) (statusOf code)).fault 0x20 (s2.path (floretLoc f)) n (if again then 0 else 6) (statusOf code)
    if again then s3
    else
      let s4 := { s3 with power := { s3.power with containWaits := s3.power.containWaits ++ [(unitIndex (clusterLoc (f / 16)), false, n)] } }
      s4.issueHalt n .containment

/-- The task or entry ends, when no operation of it is outstanding (R150). -/
def Floret.anyBusy (x : Floret) : Bool := x.tags.any (fun e => e.2.busy)

def State.floretEnd (s : State) (f : Nat) : State :=
  let x := s.floret f
  if x.anyBusy then s.setFloret f { x with ending := true }
  else match x.work with
    | none => s
    | some (.task id t) => (s.endTask f id t).countUnit (floretLoc f) .ok
    | some (.entry _ _) => (s.setFloret f { x with work := none, ending := false, stall := none, wrote := [] }).countUnit (floretLoc f) .ok

/-! ### Issue (R150, R151) -/

/-- A FENCE or WAIT of the Floret is in progress (R64, R65). -/
def Floret.heldBack (x : Floret) : Bool := x.tags.any (fun e => e.2.busy && (decide (e.2.op = 7) || decide (e.2.op = 8)))

def State.floretIssuer (s : State) (f : Nat) : Issuer := { src := .floret f, tenant := s.clusterOwner (f / 16), node := s.nodeId }

/-- Posted operations of a Floret not retired (R88). -/
def State.floretPosted (s : State) (f : Nat) : Nat :=
  let c := s.queue (unitQueue (floretLoc f))
  (c.postedIssued - c.postedRetired).toNat

/-- Some operation of the Floret is still open. -/
def State.floretOpen (s : State) (f : Nat) : Bool :=
  (s.floret f).anyBusy || s.remote.outstanding.any (fun o => decide (o.issuer.src = .floret f))

/-- PLAN_TICK of a static cluster (R116). -/
def State.planTickOf (s : State) (f : Nat) : Nat :=
  match s.staticSlotOf (f / 16) with
  | some n => (s.slot n).planTick
  | none => 0

/-- The Floret still waits for what it stalled on (R150, R163, R165, R181). -/
def State.stalled (s : State) (f : Nat) : Bool :=
  let x := s.floret f
  match x.stall with
  | none => false
  | some (.tag n) => (Store.read ({} : TagRec) x.tags n).busy
  | some .all | some .drain => x.anyBusy
  | some (.barrier b) => (Store.read none s.florets.barriers (16 * (f / 16) + b)).isSome
  | some (.tick n) => decide (s.planTickOf f < n.toNat)
  | some (.quota n) =>
    let head := match x.work with
      | some (.task id t) => decide ((s.item id).map (·.head) = some t)
      | _ => false
    !head && decide (16384 < s.quotaUsedBy f + n)
  | some .posted => decide (1024 ≤ s.floretPosted f)
  | some .fence => s.floretOpen f

def State.stallOn (s : State) (f : Nat) (w : Stall) : State := s.setFloret f { s.floret f with stall := some w }

/-- A new bundle: its sources are the registers as they stand, and the bundle after it comes next. -/
def State.newBundle (s : State) (f : Nat) : State :=
  let x := s.floret f
  (s.setFloret f { x with atIssue := x.regs, wrote := [], bundle := x.next, next := (x.next + 32) % 2 ^ 32, fresh := false }).bump
    (O.floretBundlesIssued (unitIndex (floretLoc f)))

/-- A slot issues with the registers of the bundle's issue. Nothing issues while the Floret executes nothing or is ending its work,
and no bundle starts while it stalls. -/
def State.issueSlot (s : State) (i : SlotIn) (k : Slot) (eff : State → FloretRegs → Except Nat State) : Result :=
  .next (s.begin.whenRunning (fun t =>
    let f := i.floret
    let x := t.floret f
    let starts := i.first || x.fresh
    if x.work.isNone || x.ending || (starts && (t.stalled f || t.dynamicHeld (f / 16))) then t
    else
      let t1 := if starts then (t.setFloret f { x with stall := none }).newBundle f else t
      let y := t1.floret f
      if t1.runsStatic f ∧ 0x200000 ≤ y.bundle then t1.floretFault f eAddress .none
      else match eff t1 y.atIssue with
        | .ok u => u
        | .error e => t1.floretFault f e k))

end Sys2Proof.Machine
end

