-- ==== Sys2Proof/Machine/FloretScalar.lean ====
section
/-! DEFINITION. The scalar and control slots of a Floret (R161, R162, R165). -/

namespace Sys2Proof.Machine

/-! ### The scalar slot -/

/-- IMM30, sign-extended (R161). -/
def imm30 (w : BitVec 48) : Word64 := (w.extractLsb' 0 30).signExtend 64
def sSd (w : BitVec 48) : Nat := (w.extractLsb' 35 5).toNat
def sSa (w : BitVec 48) : Nat := (w.extractLsb' 30 5).toNat
def sSb (w : BitVec 48) : Nat := (w.extractLsb' 25 5).toNat

/-- The scalar slot's operation code is this one; another is reserved (R162). -/
def sopIs (w : BitVec 48) (code : Nat) : Bool := decide ((w.extractLsb' 40 8).toNat = code)

/-- A register form: SD := op SA SB; its low 25 bits are reserved. -/
def State.scalarReg (s : State) (i : SlotIn) (w : BitVec 48) (code : Nat) (op : Word64 → Word64 → Word64) : Result :=
  s.issueSlot i .s (fun t r =>
    if !sopIs w code || decide (w.extractLsb' 0 25 ≠ 0) then .error eEncoding
    else t.putScalar i.floret (sSd w) (op (r.s (sSa w)) (r.s (sSb w))))

/-- An immediate form: SD := op SA IMM30. -/
def State.scalarImm (s : State) (i : SlotIn) (w : BitVec 48) (code : Nat) (op : Word64 → Word64 → Word64) : Result :=
  s.issueSlot i .s (fun t r =>
    if !sopIs w code then .error eEncoding
    else t.putScalar i.floret (sSd w) (op (r.s (sSa w)) (imm30 w)))

/-- A load of n bytes at SA + IMM30, zero-extended. -/
def State.scalarLoad (s : State) (i : SlotIn) (w : BitVec 48) (code n : Nat) : Result :=
  s.issueSlot i .s (fun t r =>
    if !sopIs w code then .error eEncoding
    else match t.localRead i.floret (r.s (sSa w) + imm30 w).toNat n n with
      | .error e => .error e
      | .ok bs => t.putScalar i.floret (sSd w) (BitVec.ofNat 64 (leNat bs)))

/-- A store of the low n bytes of SD at SA + IMM30. -/
def State.scalarStore (s : State) (i : SlotIn) (w : BitVec 48) (code n : Nat) : Result :=
  s.issueSlot i .s (fun t r =>
    if !sopIs w code then .error eEncoding
    else t.localWrite i.floret (r.s (sSa w) + imm30 w).toNat n (natLe n (r.s (sSd w)).toNat))

/-- SD takes a value read from the Floret or its cluster. -/
def State.scalarRead (s : State) (i : SlotIn) (w : BitVec 48) (code : Nat) (val : State → FloretRegs → Word64) : Result :=
  s.issueSlot i .s (fun t r =>
    if !sopIs w code then .error eEncoding else t.putScalar i.floret (sSd w) (val t r))

/-- The response word of a tag (R73, R82). -/
def TagRec.word (g : TagRec) : Nat :=
  g.status.code + g.disp.code * 2 ^ 8 + g.reason.code * 2 ^ 10 + g.load * 2 ^ 14 + b2n g.injected * 2 ^ 19
def State.tag (s : State) (f n : Nat) : TagRec := Store.read ({} : TagRec) (s.floret f).tags n

def execSAdd (i : SlotIn) (w : BitVec 48) (s : State) : Result := s.scalarReg i w 1 (fun a b => a + b)
def execSSub (i : SlotIn) (w : BitVec 48) (s : State) : Result := s.scalarReg i w 2 (fun a b => a - b)
def execSMul (i : SlotIn) (w : BitVec 48) (s : State) : Result := s.scalarReg i w 3 (fun a b => a * b)
def execSAnd (i : SlotIn) (w : BitVec 48) (s : State) : Result := s.scalarReg i w 4 (fun a b => a &&& b)
def execSOr (i : SlotIn) (w : BitVec 48) (s : State) : Result := s.scalarReg i w 5 (fun a b => a ||| b)
def execSXor (i : SlotIn) (w : BitVec 48) (s : State) : Result := s.scalarReg i w 6 (fun a b => a ^^^ b)
def execShl (i : SlotIn) (w : BitVec 48) (s : State) : Result := s.scalarReg i w 7 (fun a b => a <<< (b.toNat % 64))
def execShr (i : SlotIn) (w : BitVec 48) (s : State) : Result := s.scalarReg i w 8 (fun a b => a >>> (b.toNat % 64))
def execSar (i : SlotIn) (w : BitVec 48) (s : State) : Result := s.scalarReg i w 9 (fun a b => a.sshiftRight (b.toNat % 64))
def execSlt (i : SlotIn) (w : BitVec 48) (s : State) : Result := s.scalarReg i w 0xA (fun a b => if a.slt b then 1 else 0)
def execSltu (i : SlotIn) (w : BitVec 48) (s : State) : Result := s.scalarReg i w 0xB (fun a b => if a.toNat < b.toNat then 1 else 0)
def execAddi (i : SlotIn) (w : BitVec 48) (s : State) : Result := s.scalarImm i w 0x20 (fun a b => a + b)
def execAddhi (i : SlotIn) (w : BitVec 48) (s : State) : Result := s.scalarImm i w 0x21 (fun a b => a + (b <<< 30))
def execShli (i : SlotIn) (w : BitVec 48) (s : State) : Result := s.scalarImm i w 0x22 (fun a b => a <<< (b.toNat % 64))
def execLd64 (i : SlotIn) (w : BitVec 48) (s : State) : Result := s.scalarLoad i w 0x30 8
def execSt64 (i : SlotIn) (w : BitVec 48) (s : State) : Result := s.scalarStore i w 0x31 8
def execLd32 (i : SlotIn) (w : BitVec 48) (s : State) : Result := s.scalarLoad i w 0x32 4
def execSt32 (i : SlotIn) (w : BitVec 48) (s : State) : Result := s.scalarStore i w 0x33 4

def execRdstat (i : SlotIn) (w : BitVec 48) (s : State) : Result :=
  s.scalarRead i w 0x34 (fun t _ => BitVec.ofNat 64 (t.tag i.floret ((imm30 w).toNat % 64)).word)
def execRdres (i : SlotIn) (w : BitVec 48) (s : State) : Result :=
  s.scalarRead i w 0x35 (fun t _ => (t.tag i.floret ((imm30 w).toNat % 64)).result)
def execRdflags (i : SlotIn) (w : BitVec 48) (s : State) : Result :=
  s.scalarRead i w 0x36 (fun _ r => r.flags.setWidth 64)
def execClrflags (i : SlotIn) (w : BitVec 48) (s : State) : Result :=
  s.issueSlot i .s (fun t _ =>
    if !sopIs w 0x37 then .error eEncoding
    else
      let x := t.floret i.floret
      .ok (t.setFloret i.floret { x with regs := { x.regs with flags := 0 } }))
/-- PLAN_TICK in a static cluster, FTC div 32 in a dynamic one (R162). -/
def execRdtick (i : SlotIn) (w : BitVec 48) (s : State) : Result :=
  s.scalarRead i w 0x38 (fun t _ =>
    BitVec.ofNat 64 (if (t.staticSlotOf (i.floret / 16)).isSome then t.planTickOf i.floret else t.ftc / 32))

/-! ### The control slot -/

def cImm (w : BitVec 24) : Int := (w.extractLsb' 0 14).toInt
def cReg (w : BitVec 24) : Nat := (w.extractLsb' 14 5).toNat
def copIs (w : BitVec 24) (code : Nat) : Bool := decide ((w.extractLsb' 19 5).toNat = code)

def State.control (s : State) (i : SlotIn) (w : BitVec 24) (code : Nat) (eff : State → FloretRegs → Except Nat State) : Result :=
  s.issueSlot i .c (fun t r => if !copIs w code then .error eEncoding else eff t r)

/-- The next bundle is this one plus IMM14 bundles, when the branch is taken (R165). -/
def State.branch (s : State) (f : Nat) (w : BitVec 24) (taken : Bool) : State :=
  let x := s.floret f
  if taken then s.setFloret f { x with next := (((x.bundle : Int) + 32 * cImm w) % 2 ^ 32).toNat } else s

def execBr (i : SlotIn) (w : BitVec 24) (s : State) : Result := s.control i w 1 (fun t _ => .ok (t.branch i.floret w true))
def execBz (i : SlotIn) (w : BitVec 24) (s : State) : Result :=
  s.control i w 2 (fun t r => .ok (t.branch i.floret w (decide (r.s (cReg w) = 0))))
def execBnz (i : SlotIn) (w : BitVec 24) (s : State) : Result :=
  s.control i w 3 (fun t r => .ok (t.branch i.floret w (decide (r.s (cReg w) ≠ 0))))
def execWaitop (i : SlotIn) (w : BitVec 24) (s : State) : Result :=
  s.control i w 4 (fun t _ => .ok (t.stallOn i.floret (.tag ((w.extractLsb' 0 6).toNat))))
def execWaitall (i : SlotIn) (w : BitVec 24) (s : State) : Result :=
  s.control i w 5 (fun t _ => .ok (t.stallOn i.floret .all))

def State.setBarrier (s : State) (k : Nat) (b : Option Barrier) : State :=
  { s with florets := { s.florets with barriers := Store.write none s.florets.barriers k b } }

/-- A Floret reaches a barrier: it waits until every Floret of the mask has, and the last one frees them all (R165). -/
def State.reachBarrier (s : State) (f n : Nat) (mask : BitVec 16) : Except Nat State :=
  let k := 16 * (f / 16) + n
  let old := (Store.read none s.florets.barriers k).getD { mask := mask, arrived := [] }
  if old.mask ≠ mask then .error eOperand
  else
    let arrived := insertNat (f % 16) old.arrived
    if (List.range 16).all (fun j => !(mask.getLsbD j) || arrived.contains j) then
      .ok (old.arrived.foldl (fun (t : State) j =>
        let x := t.floret (f / 16 * 16 + j)
        if x.stall = some (.barrier n) then t.setFloret (f / 16 * 16 + j) { x with stall := none } else t) (s.setBarrier k none))
    else .ok ((s.setBarrier k (some { mask := mask, arrived := arrived })).stallOn f (.barrier n))

def execBarrier (i : SlotIn) (w : BitVec 24) (s : State) : Result :=
  s.control i w 6 (fun t r =>
    if (t.staticSlotOf (i.floret / 16)).isNone then .error eFloretAccess
    else t.reachBarrier i.floret ((w.extractLsb' 0 4).toNat) ((r.s (cReg w)).extractLsb' 0 16))
def execTickwait (i : SlotIn) (w : BitVec 24) (s : State) : Result :=
  s.control i w 7 (fun t r =>
    if (t.staticSlotOf (i.floret / 16)).isNone then .error eFloretAccess
    else .ok (t.stallOn i.floret (.tick (r.s (cReg w)))))
def execSetstream (i : SlotIn) (w : BitVec 24) (s : State) : Result :=
  s.control i w 8 (fun t r =>
    let x := t.floret i.floret
    .ok (t.setFloret i.floret { x with regs := { x.regs with stream := r.s (cReg w), srCount := 0 } }))
def execTrap (i : SlotIn) (w : BitVec 24) (s : State) : Result := s.control i w 9 (fun _ _ => .error eTrap)

/-- A DRAIN bundle's slots wait for every earlier non-posted operation (R150). -/
def execDrain (floret : Nat) (s : State) : Result :=
  .next (s.begin.whenRunning (fun t =>
    let x := t.floret floret
    if x.work.isNone || x.ending || t.stalled floret then t else t.stallOn floret .drain))

/-- An END bundle: its task or entry ends once its operations have completed (R150, R180). -/
def execTaskEnd (floret : Nat) (s : State) : Result :=
  .next (s.begin.whenRunning (fun t =>
    if (t.floret floret).work.isNone || t.stalled floret then t else t.floretEnd floret))

end Sys2Proof.Machine
end

