-- ==== Sys2Proof/Machine/FloretVector.lean ====
section
/-! DEFINITION. The vector slot of a Floret (R158-R160) and its conversions (R166-R173). -/

namespace Sys2Proof.Machine

/-! ### Fields (R158) -/

structure VSlot where
  vop : Nat
  vd  : Nat
  va  : Nat
  vb  : Nat
  vc  : Nat
  mask : Nat
  fmt : Nat
  rnd : Nat
  sat : Bool
  sx  : Nat
  imm : Int
  deriving DecidableEq, Repr

def vSlot (w : BitVec 64) : VSlot :=
  { vop := (w.extractLsb' 56 8).toNat, vd := (w.extractLsb' 51 5).toNat, va := (w.extractLsb' 46 5).toNat
    vb := (w.extractLsb' 41 5).toNat, vc := (w.extractLsb' 36 5).toNat, mask := (w.extractLsb' 33 3).toNat
    fmt := (w.extractLsb' 28 5).toNat, rnd := (w.extractLsb' 26 2).toNat, sat := w.getLsbD 25, sx := (w.extractLsb' 20 5).toNat
    imm := (w.extractLsb' 0 20).toInt }

/-- The vector slot issues this operation; a reserved operation code or RND is an encoding fault. -/
def State.vector1 (s : State) (i : SlotIn) (w : BitVec 64) (code : Nat) (eff : State → FloretRegs → VSlot → Except Nat State) : Result :=
  s.issueSlot i .v (fun t r =>
    let v := vSlot w
    if v.vop ≠ code ∨ v.rnd = 3 then .error eEncoding else eff t r v)

def laneOf (l : List Word32) (n : Nat) : Word32 := l.getD n 0

/-- Lanes whose mask bit is 0 keep the old value (R158). -/
def maskedLanes (mask : Word64) (old new : List Word32) : List Word32 :=
  (List.range 64).map (fun n => if mask.getLsbD n then laneOf new n else laneOf old n)

/-- VD := a function of VA, VB and VC lane by lane. -/
def State.vecLanes (s : State) (i : SlotIn) (w : BitVec 64) (code : Nat) (op : Word32 → Word32 → Word32 → Word32) : Result :=
  s.vector1 i w code (fun t r v =>
    let new := (List.range 64).map (fun n => op (laneOf (r.v v.va) n) (laneOf (r.v v.vb) n) (laneOf (r.v v.vc) n))
    t.putVector i.floret v.vd (maskedLanes (r.m v.mask) (r.v v.vd) new))

def execVadd (i : SlotIn) (w : BitVec 64) (s : State) : Result := s.vecLanes i w 0x01 (fun a b _ => fp32Add a b)
def execVsub (i : SlotIn) (w : BitVec 64) (s : State) : Result := s.vecLanes i w 0x02 (fun a b _ => fp32Sub a b)
def execVmul (i : SlotIn) (w : BitVec 64) (s : State) : Result := s.vecLanes i w 0x03 (fun a b _ => fp32Mul a b)
def execVfma (i : SlotIn) (w : BitVec 64) (s : State) : Result := s.vecLanes i w 0x04 fp32Fma
def execVmax (i : SlotIn) (w : BitVec 64) (s : State) : Result := s.vecLanes i w 0x05 (fun a b _ => fp32Max a b)
def execVmin (i : SlotIn) (w : BitVec 64) (s : State) : Result := s.vecLanes i w 0x06 (fun a b _ => fp32Min a b)
def execVexp2 (i : SlotIn) (w : BitVec 64) (s : State) : Result := s.vecLanes i w 0x07 (fun a _ _ => fp32Exp2 a)
def execVrcp (i : SlotIn) (w : BitVec 64) (s : State) : Result := s.vecLanes i w 0x09 (fun a _ _ => fp32Rcp a)
def execVrsqrt (i : SlotIn) (w : BitVec 64) (s : State) : Result := s.vecLanes i w 0x0A (fun a _ _ => fp32Rsqrt a)
def execViadd (i : SlotIn) (w : BitVec 64) (s : State) : Result := s.vecLanes i w 0x14 (fun a b _ => a + b)
def execVand (i : SlotIn) (w : BitVec 64) (s : State) : Result := s.vecLanes i w 0x15 (fun a b _ => a &&& b)
def execVor (i : SlotIn) (w : BitVec 64) (s : State) : Result := s.vecLanes i w 0x16 (fun a b _ => a ||| b)
def execVxor (i : SlotIn) (w : BitVec 64) (s : State) : Result := s.vecLanes i w 0x17 (fun a b _ => a ^^^ b)

/-- VLOG2: NaN and INVALID below zero (R159). -/
def below0 (a : Word32) : Bool := (rd32 a).lt (.fin false 0 0)

def execVlog2 (i : SlotIn) (w : BitVec 64) (s : State) : Result :=
  s.vector1 i w 0x08 (fun t r v =>
    let src := r.v v.va
    let bad := (List.range 64).any (fun n => (r.m v.mask).getLsbD n && below0 (laneOf src n))
    (t.putVector i.floret v.vd (maskedLanes (r.m v.mask) (r.v v.vd) (src.map fp32Log2))).map
      (fun u => if bad then u.raiseFlags i.floret flInvalid false else u))

/-- A reduction over the active lanes, written to every lane (R160). -/
def State.vecReduce (s : State) (i : SlotIn) (w : BitVec 64) (code : Nat) (off : Word32) (op : Word32 → Word32 → Word32) : Result :=
  s.vector1 i w code (fun t r v =>
    let ins := maskedLanes (r.m v.mask) (List.replicate 64 off) (r.v v.va)
    t.putVector i.floret v.vd (List.replicate 64 ((treeN op 6 ins).headD 0)))

def execVredsum (i : SlotIn) (w : BitVec 64) (s : State) : Result := s.vecReduce i w 0x0B 0 fp32Add
def execVredmax (i : SlotIn) (w : BitVec 64) (s : State) : Result := s.vecReduce i w 0x0C 0xFF800000 fp32Max

/-- The comparison of IMM[1:0] (R159): a NaN compares false except NE. -/
def vcmpHolds (cond : Nat) (a b : Word32) : Bool :=
  let x := rd32 a
  let y := rd32 b
  match cond with
  | 0 => x.lt y
  | 1 => x.lt y || x.eq y
  | 2 => x.eq y
  | _ => !(x.eq y)

/-- A mask register from 64 bits. -/
def maskOf (f : Nat → Bool) : Word64 := BitVec.ofNat 64 (((List.range 64).map (fun n => if f n then 2 ^ n else 0)).sum)

def execVcmp (i : SlotIn) (w : BitVec 64) (s : State) : Result :=
  s.vector1 i w 0x0D (fun t r v =>
    let old := r.m (v.vd % 8)
    let cond := (w.extractLsb' 0 2).toNat
    t.putMask i.floret (v.vd % 8) (maskOf (fun n =>
      if (r.m v.mask).getLsbD n then vcmpHolds cond (laneOf (r.v v.va) n) (laneOf (r.v v.vb) n) else old.getLsbD n)))

def execVsel (i : SlotIn) (w : BitVec 64) (s : State) : Result :=
  s.vector1 i w 0x0E (fun t r v => t.putVector i.floret v.vd (maskedLanes (r.m v.mask) (r.v v.vb) (r.v v.va)))

/-! ### Conversions (R166-R173) -/

/-- A defined format code (R166). -/
def fmtOk (c : Nat) : Bool := decide (1 ≤ c) && decide (c ≤ 0x10)
/-- Width of an element in bits. -/
def fmtWidth (c : Nat) : Nat :=
  match elemFmt c with
  | some f => f.width
  | none => (intWidth c).getD 32

/-- The stochastic key of a Floret's work (R172). -/
def State.seedOf (s : State) (f : Nat) : Word64 :=
  match (s.floret f).work with
  | some (.task id _) => ((s.item id).map (·.seed)).getD 0
  | some (.entry n _) => ((s.slot n).image.map (·.seed)).getD 0
  | none => 0

/-- The rounding of lane e under RND (R158, R172). -/
def rndOf (rnd : Nat) (seed : Word64) (r : FloretRegs) (e : Nat) : Rnd :=
  if rnd = 0 then .rne else if rnd = 1 then .rz else .sr (philoxDraw seed r.stream r.srCount.toNat e)

/-- One lane narrowed to a format that is not MX: its pattern and flags (R169). -/
def narrowLane (fmt : Nat) (rnd : Rnd) (sat : Bool) (x : FVal) : Nat × Nat :=
  match elemFmt fmt with
  | some f => f.convert rnd sat x
  | none => toIntFmt (fmtWidth fmt) rnd x

/-- floor(log2) of the largest magnitude of a block of finite lanes; none when all are zero. -/
def blockLog (xs : List FVal) : Option Int :=
  xs.foldl (fun (best : Option Int) x =>
    match x with
    | .fin _ m e => if m = 0 then best else
        let l := (Nat.log2 m : Int) + e
        match best with
        | none => some l
        | some b => some (max b l)
    | _ => best) none

/-- E of R170 by element format. -/
def mxTop (fmt : Nat) : Int := if fmt = 0x0C then 8 else if fmt = 0x0D then 15 else if fmt = 0x0E then 2 else if fmt = 0x0F then 4 else 2

/-- A block of 32 lanes narrowed to an MX format: scale code, patterns and flags (R170). -/
def narrowBlock (fmt : Nat) (rnd : Nat → Rnd) (base : Nat) (xs : List FVal) : Nat × List Nat × Nat :=
  if xs.any (fun x => x.isNan || x.isInf) then (0xFF, List.replicate xs.length 0, flMxNan)
  else match blockLog xs with
    | none => (0, List.replicate xs.length 0, 0)
    | some l =>
      let x := max (-127) (min 127 (l - mxTop fmt))
      let out := ((List.range xs.length).zip xs).map (fun e => narrowLane fmt (rnd (base + e.1)) true (e.2.scale (-x)))
      ((x + 127).toNat, out.map (·.1), (out.map (·.2)).foldl (· ||| ·) 0)

/-- 64 lanes from 256 bytes. -/
def lanesOf (bs : List Byte) : List Word32 := (List.range 64).map (fun n => BitVec.ofNat 32 (fieldAt bs (4 * n) 4))
def bytesOfLanes (l : List Word32) : List Byte := (List.range 64).flatMap (fun n => natLe 4 (laneOf l n).toNat)

/-- The 256 bytes of a narrowing, and its flags (R159). -/
def narrowed (fmt : Nat) (rnd : Nat → Rnd) (sat : Bool) (src : List Word32) : List Byte × Nat :=
  let xs := (List.range 64).map (fun n => rd32 (laneOf src n))
  let w := fmtWidth fmt
  if isMx fmt then
    let lo := narrowBlock fmt rnd 0 (xs.take 32)
    let hi := narrowBlock fmt rnd 32 (xs.drop 32)
    let body := packElems w (lo.2.1 ++ hi.2.1)
    (body ++ List.replicate (254 - body.length) 0 ++ [BitVec.ofNat 8 lo.1, BitVec.ofNat 8 hi.1], lo.2.2 ||| hi.2.2)
  else
    let out := ((List.range 64).zip xs).map (fun e => narrowLane fmt (rnd e.1) sat e.2)
    let body := packElems w (out.map (·.1))
    (body ++ List.replicate (256 - body.length) 0, (out.map (·.2)).foldl (· ||| ·) 0)

/-- The 64 lanes of a widening (R159, R170). -/
def widened (fmt : Nat) (bs : List Byte) : List Word32 :=
  let w := fmtWidth fmt
  let es := unpackElems w 64 bs
  match elemFmt fmt with
  | none => es.map (fun b => BitVec.ofInt 32 (intVal w b))
  | some f =>
    ((List.range 64).zip es).map (fun e =>
      if isMx fmt then
        let code := fieldAt bs (if e.1 < 32 then 254 else 255) 1
        if code = 0xFF then 0x7FC00000 else wr32 ((f.read e.2).scale ((code : Int) - 127))
      else wr32 (f.read e.2))

def execVcvt (i : SlotIn) (w : BitVec 64) (s : State) : Result :=
  s.vector1 i w 0x0F (fun t r v =>
    if !fmtOk v.fmt then .error eEncoding
    else if w.getLsbD 0 then
      t.putVector i.floret v.vd (maskedLanes (r.m v.mask) (r.v v.vd) (widened v.fmt (bytesOfLanes (r.v v.va))))
    else if v.mask ≠ 0 then .error eOperand
    else
      let out := narrowed v.fmt (rndOf v.rnd (t.seedOf i.floret) r) v.sat (r.v v.va)
      (t.putVector i.floret v.vd (lanesOf out.1)).map (fun u =>
        let u1 := u.raiseFlags i.floret out.2 true
        if v.rnd = 2 then
          let x := u1.floret i.floret
          u1.setFloret i.floret { x with regs := { x.regs with srCount := x.regs.srCount + 1 } }
        else u1))

/-! ### Loads and stores (R159) -/

def execVld (i : SlotIn) (w : BitVec 64) (s : State) : Result :=
  s.vector1 i w 0x10 (fun t r v =>
    match t.localRead i.floret (localSum (r.s v.sx) v.imm) 256 64 with
    | .error e => .error e
    | .ok bs => t.putVector i.floret v.vd (maskedLanes (r.m v.mask) (r.v v.vd) (lanesOf bs)))

/-- Bytes that VST stores, by format (R159). -/
def storeBytes (fmt : Nat) : Nat := fmtWidth fmt * 8

def execVst (i : SlotIn) (w : BitVec 64) (s : State) : Result :=
  s.vector1 i w 0x11 (fun t r v =>
    if !fmtOk v.fmt then .error eEncoding
    else t.localWrite i.floret (localSum (r.s v.sx) v.imm) 16 ((bytesOfLanes (r.v v.vd)).take (storeBytes v.fmt)))

def execVstscale (i : SlotIn) (w : BitVec 64) (s : State) : Result :=
  s.vector1 i w 0x12 (fun t r v =>
    if !fmtOk v.fmt then .error eEncoding
    else t.localWrite i.floret (localSum (r.s v.sx) v.imm) 1 ((bytesOfLanes (r.v v.vd)).drop 254))

def execVbcast (i : SlotIn) (w : BitVec 64) (s : State) : Result :=
  s.vector1 i w 0x13 (fun t r v =>
    t.putVector i.floret v.vd (maskedLanes (r.m v.mask) (r.v v.vd) (List.replicate 64 ((r.s v.sx).setWidth 32))))

end Sys2Proof.Machine
end

