-- ==== Sys2Proof/Machine/FloretMatrix.lean ====
section
/-! DEFINITION. The matrix slot of a Floret (R153-R157). -/

namespace Sys2Proof.Machine

/-- The fields of the matrix slot (R153). -/
structure MSlot where
  mop   : Nat
  fmtA  : Nat
  fmtB  : Nat
  tile  : Nat
  count : Nat
  sa    : Nat
  sb    : Nat
  ss    : Nat
  share : Nat
  acc   : Nat
  deriving DecidableEq, Repr

def mSlot (w : BitVec 64) : MSlot :=
  { mop := (w.extractLsb' 58 6).toNat, fmtA := (w.extractLsb' 53 5).toNat, fmtB := (w.extractLsb' 48 5).toNat
    tile := (w.extractLsb' 42 6).toNat, count := (w.extractLsb' 37 5).toNat + 1, sa := (w.extractLsb' 32 5).toNat
    sb := (w.extractLsb' 27 5).toNat, ss := (w.extractLsb' 22 5).toNat, share := (w.extractLsb' 20 2).toNat
    acc := (w.extractLsb' 18 2).toNat }

/-- The matrix slot issues this operation; reserved codes and fields are an encoding fault, an array range past 31 an operand fault
(R154). -/
def State.matrix (s : State) (i : SlotIn) (w : BitVec 64) (code : Nat) (eff : State → FloretRegs → MSlot → Except Nat State) : Result :=
  s.issueSlot i .m (fun t r =>
    let m := mSlot w
    if m.mop ≠ code ∨ w.extractLsb' 0 18 ≠ 0 ∨ m.share = 3 ∨ 2 ≤ m.acc then .error eEncoding
    else if 32 < m.tile / 2 + m.count then .error eOperand
    else eff t r m)

/-- Tiles of the slot's range: array TILE[5:1] + n, tile TILE[0] of it. -/
def MSlot.tiles (m : MSlot) : List Nat := (List.range m.count).map (fun n => 2 * (m.tile / 2 + n) + m.tile % 2)

/-- The row of R157 a format stands in. -/
def fmtRow (c : Nat) : Option Nat :=
  match c with
  | 8 => some 1 | 0x10 => some 2 | 0xA => some 3 | 6 | 7 => some 4 | 0xE | 0xF => some 5 | 4 | 5 => some 6 | 0xC | 0xD => some 7
  | 9 => some 8 | 2 => some 9 | 3 => some 10 | _ => none

def isIntFmt (c : Nat) : Bool := (intWidth c).isSome

/-- Block bytes of A or B (R157). -/
def blockBytes (c : Nat) : Nat := 32 * fmtWidth c

/-- The product of A's row i and B's column j along the fixed tree, with the block scales (R156). -/
def mmaDot (fa fb : Nat) (a b : List Nat) (sa sb i j : Nat) : Word32 :=
  let p := (List.range 32).map (fun k =>
    match elemFmt fa, elemFmt fb with
    | some x, some y => wr32 ((x.read (a.getD (32 * i + k) 0)).mul (y.read (b.getD (32 * j + k) 0)))
    | _, _ => 0)
  let sum := treeSum 5 p
  if isMx fa then
    if sa = 0xFF ∨ sb = 0xFF then 0x7FC00000 else wr32 ((rd32 sum).scale ((sa : Int) + (sb : Int) - 254))
  else sum

/-- The exact integer product of A's row i and B's column j. -/
def mmaInt (wa wb : Nat) (a b : List Nat) (i j : Nat) : Int :=
  ((List.range 32).map (fun k => intVal wa (a.getD (32 * i + k) 0) * intVal wb (b.getD (32 * j + k) 0))).sum

/-- A sum saturated to INT32, and whether it was. -/
def satInt32 (v : Int) : Word32 × Bool :=
  if v < -(2 ^ 31) then (0x80000000, true) else if 2 ^ 31 - 1 < v then (0x7FFFFFFF, true) else (BitVec.ofInt 32 v, false)

/-- C := C + A·B on one array: the new tile and the flags. `scales` are the 16 bytes at SS + 16n. -/
def mmaTile (m : MSlot) (c : Tile) (aBytes bBytes scales : List Byte) : Tile × Nat :=
  let a := unpackElems (fmtWidth m.fmtA) 256 aBytes
  let b := unpackElems (fmtWidth m.fmtB) 256 bBytes
  let old := fun (n : Nat) => if m.acc = 1 then 0 else c.cells.getD n 0
  if isIntFmt m.fmtA then
    let out := (List.range 64).map (fun n =>
      satInt32 (intVal 32 (old n).toNat + mmaInt (fmtWidth m.fmtA) (fmtWidth m.fmtB) a b (n / 8) (n % 8)))
    ({ isInt := true, cells := out.map (·.1) }, if out.any (·.2) then flIntSat else 0)
  else
    let sa := fun (n : Nat) => fieldAt scales n 1
    let out := (List.range 64).map (fun n =>
      fp32Add (old n) (mmaDot m.fmtA m.fmtB a b (sa (n / 8)) (sa (8 + n % 8)) (n / 8) (n % 8)))
    ({ isInt := false, cells := out }, if isMx m.fmtA && (List.range 16).any (fun n => decide (sa n = 0xFF)) then flMxNan else 0)

/-- What R154 refuses in the formats and tiles of an MMA. -/
def mmaBad (m : MSlot) (r : FloretRegs) : Bool :=
  (fmtRow m.fmtA).isNone || decide (fmtRow m.fmtA ≠ fmtRow m.fmtB) || (isMx m.fmtA != isMx m.fmtB) ||
    (decide (m.acc = 0) && m.tiles.any (fun n => (r.t n).isInt != isIntFmt m.fmtA))

/-- The blocks of A and B and the scales of array n (R154, R155). -/
def State.mmaRead (s : State) (f : Nat) (r : FloretRegs) (m : MSlot) (n : Nat) : Except Nat (List Byte × List Byte × List Byte) :=
  let step := fun (on : Bool) (fmt : Nat) => if on then n * blockBytes fmt else 0
  match s.localRead f ((r.s m.sa).toNat + step (m.share != 1) m.fmtA) (blockBytes m.fmtA) 16 with
  | .error e => .error e
  | .ok a => match s.localRead f ((r.s m.sb).toNat + step (m.share != 0) m.fmtB) (blockBytes m.fmtB) 16 with
    | .error e => .error e
    | .ok b =>
      if isMx m.fmtA then
        match s.localRead f ((r.s m.ss).toNat + 16 * n) 16 16 with
        | .error e => .error e
        | .ok c => .ok (a, b, c)
      else .ok (a, b, [])

/-- The arrays of an MMA, one after another: the tiles they write and the flags. -/
def State.mmaArrays (s : State) (f : Nat) (r : FloretRegs) (m : MSlot) : List Nat → Except Nat (List (Nat × Tile) × Nat)
  | [] => .ok ([], 0)
  | n :: rest => match s.mmaRead f r m n with
    | .error e => .error e
    | .ok (a, b, c) =>
      let k := 2 * (m.tile / 2 + n) + m.tile % 2
      let t := mmaTile m (r.t k) a b c
      match s.mmaArrays f r m rest with
      | .error e => .error e
      | .ok (ts, fl) => .ok ((k, t.1) :: ts, t.2 ||| fl)

/-- SHARE 0: each array steps A; 1: each steps B; 2: both (R153). Its base addresses, and SS, are 16-byte aligned (R155). -/
def execMma (i : SlotIn) (w : BitVec 64) (s : State) : Result :=
  s.matrix i w 1 (fun t r m =>
    if !fmtOk m.fmtA || !fmtOk m.fmtB then .error eEncoding
    else if mmaBad m r then .error eOperand
    else if (r.s m.ss).toNat % 16 ≠ 0 then .error eAddress
    else match t.mmaArrays i.floret r m (List.range m.count) with
      | .error e => .error e
      | .ok (ts, fl) => (t.putTiles i.floret ts).map (fun u => u.raiseFlags i.floret fl false))

def execTileRead (i : SlotIn) (w : BitVec 64) (s : State) : Result :=
  s.matrix i w 2 (fun t r m =>
    if m.count ≠ 1 then .error eOperand
    else t.putVector i.floret m.sa ((r.t m.tile).cells))

/-- The type tag of TILE_WRITE and TILE_ZERO: INT32 if FMT_A is INT32, else FP32 (R154). -/
def tagOf (m : MSlot) : Bool := decide (m.fmtA = 0xB)

def execTileWrite (i : SlotIn) (w : BitVec 64) (s : State) : Result :=
  s.matrix i w 3 (fun t r m => t.putTiles i.floret [(m.tile, { isInt := tagOf m, cells := r.v m.sa })])

def execTileZero (i : SlotIn) (w : BitVec 64) (s : State) : Result :=
  s.matrix i w 4 (fun t _ m => t.putTiles i.floret (m.tiles.map (fun n => (n, { isInt := tagOf m }))))

end Sys2Proof.Machine
end

