-- ==== Sys2Proof/Machine/FloretRemote.lean ====
section
/-! DEFINITION. The remote-memory slot of a Floret (R163, R164, R180, R181), and responses that reach their issuer (R84, R287, R538). -/

namespace Sys2Proof.Machine

/-! ### Tags (R163) -/

def State.setTag (s : State) (f n : Nat) (g : TagRec) : State :=
  let x := s.floret f
  s.setFloret f { x with tags := Store.write ({} : TagRec) x.tags n g }

/-- An operation's answer comes to its tag; work that was ending may end (R150, R163). -/
def State.tagDone (s : State) (f n : Nat) (r : Response) : State :=
  let g := s.tag f n
  let s1 := s.setTag f n { g with
    busy := false, status := r.status, disp := r.disp, reason := r.reason, load := r.load, result := r.result, injected := r.injected }
  let s2 := s1.countUnit (floretLoc f) r.status
  if (s2.floret f).ending then s2.floretEnd f else s2

/-! ### The slot (R163, R164) -/

structure XSlot where
  xop    : Nat
  st     : Nat
  sl     : Nat
  sn     : Nat
  so     : Nat
  md     : BitVec 8
  tc     : Nat
  posted : Bool
  fence  : Bool
  commit : Bool
  tag    : Nat
  deriving DecidableEq, Repr

def xSlot (w : BitVec 48) : XSlot :=
  { xop := (w.extractLsb' 42 6).toNat, st := (w.extractLsb' 37 5).toNat, sl := (w.extractLsb' 32 5).toNat
    sn := (w.extractLsb' 27 5).toNat, so := (w.extractLsb' 22 5).toNat, md := w.extractLsb' 14 8, tc := (w.extractLsb' 10 4).toNat
    posted := w.getLsbD 9, fence := w.getLsbD 8, commit := w.getLsbD 7, tag := (w.extractLsb' 0 6).toNat }

/-- A local address as a fabric address of this node (R44, R147). -/
def localFabric (off : Nat) : Word64 := BitVec.ofNat 64 (0xFFFF * 2 ^ 48 + 2 * 2 ^ 44 + off)

/-- The operation an X slot names, with its data: LOCAL is 64-byte aligned for PUT and GET (R164). The amount of a NOTIFY is free: the
slot gives it no field. -/
def State.xOperation (s : State) (f : Nat) (r : FloretRegs) (x : XSlot) : Except Nat Operation :=
  let a := (r.s x.sl).toNat
  let n := (r.s x.sn).toNat % 2 ^ 32
  let base : Operation := {
    op := x.xop, req := { issuer := s.floretIssuer f, tc := x.tc, posted := x.posted, md := x.md, target := r.s x.st, seq := x.tag } }
  match x.xop with
  | 1 | 6 => match s.localOffset f a n 64 with
    | .error e => .error e
    | .ok off => .ok { base with
        length := n, data := s.sramBytes off n, req := { base.req with localA := localFabric off }
        operand1 := if x.xop = 6 then 1 else 0, sync := (r.s x.so).toNat % 2 ^ 14 }
  | 2 => match s.localOffset f a n 64 with
    | .error e => .error e
    | .ok off => .ok { base with length := n, req := { base.req with localA := localFabric off } }
  | 4 => match s.localOffset f a (if x.md.getLsbD 4 then 8 else 4) 1 with
    | .error e => .error e
    | .ok off => .ok { base with
        operand1 := r.s x.sn, operand2 := r.s x.so, req := { base.req with localA := localFabric off } }
  | 5 => .ok { base with operand1 := Config.freeWord s.freeCounter }
  | _ => .ok { base with operand1 := r.s x.sn, operand2 := r.s x.so }

/-- The operation is issued: posted under the Floret's posted sequence, or under its tag (R88, R163). -/
def State.floretIssue (s : State) (f tag : Nat) (o : Operation) : State :=
  if o.req.posted then
    s.issueOp { o with req := { o.req with seq := (s.queue (unitQueue (floretLoc f))).postedIssued.toNat } }
  else (s.setTag f tag { s.tag f tag with busy := true, op := o.op }).issueOp { o with req := { o.req with seq := tag } }

/-- A COMMIT operation: at once for the head, staged for another task (R180, R181). -/
def State.commitIssue (s : State) (f tag id t : Nat) (o : Operation) : State :=
  match s.item id with
  | none => s
  | some x =>
    if x.head = t then
      let s1 := s.setItem { x with
        nextOp := x.nextOp + 1, opTags := if o.req.posted then x.opTags else x.opTags ++ [(x.nextOp, f, tag)] }
      let s2 := if o.req.posted then s1 else s1.setTag f tag { s1.tag f tag with busy := true, op := o.op }
      s2.issueOp { o with req := { o.req with issuer := s2.commitIssuer x, seq := x.nextOp } }
    else
      let bytes := 64 + roundUp o.data.length 64
      if 16384 < s.quotaUsedBy f + bytes then s.stallOn f (.quota bytes)
      else
        let s1 := { s with florets := { s.florets with staged := s.florets.staged ++ [
          { floret := f, item := id, task := t, op := o.op, req := o.req, data := o.data, operand := o.operand1, sync := o.sync }] } }
        if o.req.posted then s1 else s1.tagDone f tag served

/-- What the slot waits for before it issues (R81, R88, R163). -/
def State.xWaits (s : State) (f tag : Nat) (posted fence : Bool) : Option Stall :=
  if fence && s.floretOpen f then some .fence
  else if (s.floret f).heldBack then some .all
  else if posted then (if 1024 ≤ s.floretPosted f then some .posted else none)
  else if (s.tag f tag).busy then some (.tag tag) else none

/-- COMMIT on an operation that may carry it, in a dynamic cluster (R180). -/
def State.commitBad (s : State) (f op : Nat) : Option Nat :=
  if s.runsStatic f then some eFloretAccess
  else if [1, 3, 5, 6].contains op then none else some eOperand

def State.xIssue (s : State) (f : Nat) (commit : Bool) (tag : Nat) (o : Operation) (fence : Bool) : State :=
  match s.xWaits f tag o.req.posted fence with
  | some w => s.stallOn f w
  | none =>
    let s1 := { s with freeCounter := s.freeCounter + 1 }
    match commit, (s1.floret f).work with
    | true, some (.task id t) => s1.commitIssue f tag id t o
    | _, _ => s1.floretIssue f tag o

def execXRemoteIssue (i : SlotIn) (w : BitVec 48) (s : State) : Result :=
  s.issueSlot i .x (fun t r =>
    let x := xSlot w
    if x.xop = 0 ∨ 9 < x.xop ∨ w.getLsbD 6 then .error eEncoding
    else if x.tc = 0 then .error eFloretAccess
    else match (if x.commit then t.commitBad i.floret x.xop else none) with
      | some e => .error e
      | none => (t.xOperation i.floret r x).map (fun o => t.xIssue i.floret x.commit x.tag o x.fence))

/-- DESC: the 64-byte descriptor at the local address in SL; its SEQ8 and TAG are ignored (R163). -/
def execDesc (i : SlotIn) (w : BitVec 48) (s : State) : Result :=
  s.issueSlot i .x (fun t r =>
    let x := xSlot w
    let f := i.floret
    if x.xop ≠ 0x3E ∨ w.getLsbD 6 then .error eEncoding
    else if x.commit then .error eOperand
    else match t.localRead f (r.s x.sl).toNat 64 1 with
      | .error e => .error e
      | .ok bs =>
        let o := descOp (t.floretIssuer f) x.tag bs
        if o.req.tc = 0 then .error eFloretAccess
        else
          let fence := x.fence || bitAt (fieldAt bs 0 8) 13
          match t.xWaits f x.tag o.req.posted fence with
          | some q => .ok (t.stallOn f q)
          | none => match descBad o bs with
            | some st => .ok (t.tagDone f x.tag (refusal st))
            | none => match (if takesData o.op then t.fetchBytes o.req.issuer o.req.tc o.req.localA o.length [] else .ok []) with
              | .error st => .ok (t.tagDone f x.tag (refusal st))
              | .ok data => .ok ((t.fetchUsed o.req.issuer o.req.localA data.length).floretIssue f x.tag { o with data := data }))

/-! ### Responses (R68, R73, R84, R287, R538) -/

/-- A response from another node brings data to LOCAL and closes the operation it answers. -/
def State.settleResponse (s : State) (i : Issuer) (id : Nat) (r : Response) : Response × State :=
  match s.outOp i false id with
  | none => (r, s)
  | some o =>
    let w := s.writeLocal i o.tc o.localA r.data
    ((if w.1 = .ok then r else served w.1), (w.2.closeOp i false id).wake)

/-- A response reaches its issuer: DEFER turns SERVED into DEFERRED; a stale epoch is dropped and counted. The answer of a posted
operation is that it is visible, or its failure. -/
def State.floretResponseIn (s : State) (i : Issuer) (id epoch : Nat) (defer : Reason) (r0 : Response) : State :=
  if epoch ≠ s.issuerEpoch i then s.bump O.lateRepliesDropped
  else
    let posted := (s.outOp i true id).isSome
    let asPosted := fun (t : State) => if r0.status = .ok then (t.closeOp i true id).wake else t.postedFails i id r0
    let r := deferredBy defer r0
    match i.src with
    | .queue q =>
      if (s.queue q).started.any (fun x => decide (x.item = id) && decide (x.op ≠ 0x10)) then
        let w := s.settleResponse i id r
        w.2.finishItem q id w.1
      else if posted then asPosted s else s
    | .floret f =>
      if (s.tag f id).busy then
        let w := s.settleResponse i id r
        w.2.tagDone f id w.1
      else if posted then asPosted s else s
    | .commit _ item =>
      let w := s.settleResponse i id r
      let s1 := if posted then asPosted s else w.2
      match s1.item item with
      | none => s1
      | some x =>
        let s2 := s1.setItem { x with opTags := x.opTags.filter (fun e => decide (e.1 ≠ id)) }
        let s3 := match x.opTags.find? (fun e => decide (e.1 = id)) with
          | some (_, f, tag) => s2.tagDone f tag w.1
          | none => s2
        s3.settleItem item
    | _ =>
      if posted then asPosted s
      else match s.outOp i false id with
        | none => s
        | some o =>
          ((s.closeOp i false id).wake).emit (.response { issuer := i, tc := o.tc, tag := o.tag, target := o.target, seq := id } o.op r)

def execResponseReceive (i : Issuer) (id epoch : Nat) (defer : Reason) (r : Response) (s : State) : Result :=
  .next (s.begin.whenRunning (fun t => t.floretResponseIn i id epoch defer r))

end Sys2Proof.Machine
end

