-- ==== Sys2Proof/Machine/Coherence.lean ====
section
/-! DEFINITION. Coherent windows (chapter 10): windows, the directory, agents, snoops, holds, evictions and speculation. -/

namespace Sys2Proof.Machine

/-! ### Windows, entries, agents (R353, R356, R357, R359) -/

def State.window (s : State) (w : Nat) : Window := Store.read ({} : Window) s.coh.windows w
def State.setWindow (s : State) (w : Nat) (x : Window) : State :=
  { s with coh := { s.coh with windows := Store.write ({} : Window) s.coh.windows w x } }
def State.agent (s : State) (a : Nat) : Agent := Store.read ({} : Agent) s.coh.agents a
def State.setAgent (s : State) (a : Nat) (x : Agent) : State :=
  { s with coh := { s.coh with agents := Store.write ({} : Agent) s.coh.agents a x } }

/-- The enabled window that holds a REGION 0x1 offset. -/
def State.windowAt (s : State) (off : Nat) : Option (Nat × Window) :=
  s.coh.windows.find? (fun e => e.2.enable && decide (e.2.base ≤ off) && decide (off < e.2.base + e.2.pages * 65536))

/-- The REGION 0x0 offset where a REGION 0x1 offset of a window is stored (R353). -/
def State.backing (s : State) (w : Window) (off : Nat) : Nat :=
  (s.part w.partition).base + w.backPages * 65536 + (off - w.base)

/-- The set of a line (R356). -/
def dirSet (line : Nat) : Nat := (line % 524288) ^^^ (line / 524288 % 524288)

/-- The entry of a line: its key 16 x set + way, and itself. -/
def State.entryAt (s : State) (line : Nat) : Option (Nat × DirEntry) :=
  (List.range 16).findSome? (fun w =>
    let k := 16 * dirSet line + w
    match Store.read none s.coh.entries k with
    | some e => if e.line = line then some (k, e) else none
    | none => none)

def State.setEntry (s : State) (k : Nat) (e : Option DirEntry) : State :=
  { s with coh := { s.coh with entries := Store.write none s.coh.entries k e } }

/-- Entries of a window. -/
def State.windowEntries (s : State) (w : Window) : List (Nat × DirEntry) :=
  s.coh.entries.filterMap (fun x => x.2.bind (fun e =>
    if w.base ≤ e.line * 128 ∧ e.line * 128 < w.base + w.pages * 65536 then some (x.1, e) else none))

/-- The way mask of an owner (R356). -/
def State.waysOf (s : State) (tenant : Nat) : BitVec 16 := Store.read 0 s.coh.ways (ownerIx tenant)

/-- The agent slot registered for, or fenced with, a requester's NODE (R359, R371). -/
def State.agentOf (s : State) (i : Issuer) : Option (Nat × Agent) :=
  match i.src with
  | .endpoint n => s.coh.agents.find? (fun e => (decide (e.2.kind ≠ 0) || e.2.fenced) && decide (e.2.node = n))
  | _ => none

def State.isCxl (s : State) (a : Nat) : Bool := decide ((s.agent a).kind = 2)

/-- Owner, when the state has one, and sharers of an entry. -/
def DirEntry.ownerOf (e : DirEntry) : Option Nat := if e.state = .shared then none else some e.owner
def DirEntry.holdersOf (e : DirEntry) : List Nat :=
  match e.ownerOf with
  | some x => insertNat x e.sharers
  | none => e.sharers
def DirEntry.held (e : DirEntry) (now : Nat) : Bool := decide (now < e.holdUntil)

/-- The 64-byte halves a holder may hold (R363): HALVES speaks for the only CXL holder of an entry. -/
def State.halvesOf (s : State) (e : DirEntry) (a : Nat) : List (Option Nat) :=
  if s.isCxl a then
    if (e.holdersOf.filter s.isCxl).length = 1 then ((List.range 2).filter (fun h => e.halves.getLsbD h)).map some
    else [some 0, some 1]
  else [none]

/-- hold_cycles in the model's time: a hub cycle is 10/13 ns (R366). -/
def State.holdTime (s : State) : Nat := ceilDiv (s.num O.holdCycles 128 * 40) 13

/-! ### Bytes of a line -/

/-- A part of a line in its backing memory: the bytes, and whether none is poisoned. -/
def State.lineRead (s : State) (line off len : Nat) : List Byte × Bool :=
  match s.windowAt (line * 128) with
  | none => ([], false)
  | some (_, w) => s.poolRead (s.backing w (line * 128 + off)) len

/-- A read of a line's backing memory has touched its page (R309). -/
def State.lineUsed (s : State) (line off len : Nat) : State :=
  match s.windowAt (line * 128) with
  | none => s
  | some (_, w) => s.used (s.backing w (line * 128 + off)) len (s.part w.partition).tenant

/-- A part of a line is written to backing memory; false when a poisoned block stays so. -/
def State.lineWrite (s : State) (line off : Nat) (bs : List Byte) : Bool × State :=
  match s.windowAt (line * 128) with
  | none => (true, s)
  | some (_, w) =>
    let p := s.part w.partition
    let at_ := s.backing w (line * 128 + off)
    let r := (s.ckptKeep w.partition ((at_ - p.base) / 65536) 1).poolWrite at_ bs
    (r.1, r.2.touchRange w.partition p at_ bs.length p.tenant true)

/-- Both blocks of a line become poisoned, and the line is counted (R371, R374). -/
def State.poisonLine (s : State) (line : Nat) : State :=
  match s.windowAt (line * 128) with
  | none => s
  | some (_, w) =>
    let b := s.backing w (line * 128) / 64
    let t := ((s.setPoison b true).setPoison (b + 1) true).bump O.poisonedLines
    ({ t with coh := { t.coh with spec := t.coh.spec.filter (fun x => decide (x.line ≠ line)) } } : State).bumpN O.specDiscarded
      (t.coh.spec.filter (fun x => decide (x.line = line))).length

/-- Bytes [off, off + len) of the line as the owner answered them, over memory; none when memory is needed and poisoned. -/
def State.lineData (s : State) (r : LineReq) (off len : Nat) : Option (List Byte) :=
  let got := (List.range len).map (fun i => Store.read none r.got (off + i))
  if got.all (·.isSome) then some (got.map (·.getD 0))
  else
    let m := s.lineRead r.line off len
    if !m.2 then none
    else some (List.zipWith (fun (g : Option Byte) (b : Byte) => g.getD b) got m.1)

/-- Of a read that meets poison: the bytes before it, from the owner's answer or from memory (R317). -/
def State.linePrefix (s : State) (r : LineReq) (off : Nat) : Nat → List Byte
  | 0 => []
  | len + 1 =>
    match Store.read none r.got off with
    | some b => b :: State.linePrefix s r (off + 1) len
    | none =>
      let m := s.lineRead r.line off 1
      if m.2 then m.1 ++ State.linePrefix s r (off + 1) len else []

/-- Halves of the owner's answer are written to memory. -/
def State.writeHalves (s : State) (r : LineReq) (hs : List Nat) : State :=
  hs.foldl (fun (t : State) h =>
    let l := (List.range 64).map (fun i => Store.read none r.got (64 * h + i))
    if l.all (·.isSome) then (t.lineWrite r.line (64 * h) (l.map (·.getD 0))).2 else t) s

/-- The owner's data outside [off, off + len) is written to memory (R363, R364): a grant of a half carries only that half. -/
def State.keepGot (s : State) (r : LineReq) (off len : Nat) : State :=
  s.writeHalves r ((List.range 2).filter (fun h => decide (64 * h + 64 ≤ off ∨ off + len ≤ 64 * h)))

/-- All the owner's data is written to memory, half by half. -/
def State.writeGot (s : State) (r : LineReq) : State := s.writeHalves r [0, 1]

/-! ### Speculation buffers (R370) -/

def State.sliceSpec (s : State) (line : Nat) : List SpecLine := s.coh.spec.filter (fun x => decide (x.line % 16 = line % 16))

/-- A write or a grant of M discards the buffered line. -/
def State.discardSpec (s : State) (line : Nat) : State :=
  let n := (s.coh.spec.filter (fun x => decide (x.line = line))).length
  ({ s with coh := { s.coh with spec := s.coh.spec.filter (fun x => decide (x.line ≠ line)) } } : State).bumpN O.specDiscarded n

/-- A demand read takes the buffered bytes of its agent's hint in place of a memory read. -/
def State.readOrSpec (s : State) (r : LineReq) (off len : Nat) : Option (List Byte) × State :=
  match (if r.got.isEmpty then s.coh.spec.find? (fun x => decide (x.line = r.line) && decide (r.agent = some x.agent)) else none) with
  | some x => (some (sliceB x.data off len),
      ({ s with coh := { s.coh with spec := s.coh.spec.erase x } } : State).bump O.specUsed)
  | none => (s.lineData r off len, s.lineUsed r.line off len)

/-! ### Requests at the directory (R358, R364) -/

/-- Requests queued at a line's slice. -/
def State.sliceDepth (s : State) (line : Nat) : Nat :=
  (s.coh.requests.filter (fun r => decide (r.line % 16 = line % 16) && decide (r.wait ≠ .slice))).length
def State.sliceLoad (s : State) (line : Nat) : LoadQueue := .depth (s.sliceDepth line) 512

def State.setLineReq (s : State) (r : LineReq) : State :=
  { s with coh := { s.coh with requests := s.coh.requests.map (fun x => if x.id = r.id then r else x) } }
def State.dropLineReq (s : State) (id : Nat) : State :=
  { s with coh := { s.coh with requests := s.coh.requests.filter (fun x => decide (x.id ≠ id)) } }

/-- A caching operation ends (R360): a grant's state travels in DETAIL[2:0]. -/
def State.endLineReq (s : State) (r : LineReq) (a : Response) : State :=
  (s.dropLineReq r.id).respond r.oper.req r.oper.op (deferredBy r.defer a) (s.sliceLoad r.line)

/-- The way an allocation takes: the lowest free one of the owner's (R356). -/
def State.freeWay (s : State) (line : Nat) (mask : BitVec 16) : Option Nat :=
  ((List.range 16).filter (fun w => mask.getLsbD w)).map (fun w => 16 * dirSet line + w) |>.find?
    (fun k => (Store.read none s.coh.entries k).isNone)

/-- HALVES after a grant to an agent. -/
def State.grantHalves (s : State) (e : DirEntry) (a : Nat) (half : Option Nat) : BitVec 2 :=
  match half with
  | none => e.halves
  | some h =>
    if (e.holdersOf.filter (fun x => s.isCxl x && decide (x ≠ a))).isEmpty then
      (if e.holdersOf.contains a then e.halves else 0) ||| (1 <<< h)
    else 3

/-- A grant of S (1), E (2) or M (3) leaves the home (R364, R366): the entry, the hold, the answer. -/
def State.grant (s : State) (r : LineReq) (a k : Nat) (e : DirEntry) (grantState : Nat) (data : List Byte) : State :=
  let held := if e.held s.now then e.holders else []
  let hold := s.num O.holdCycles 128
  let s1 := s.setEntry k (some { e with
    used := s.coh.uses
    holdUntil := if hold = 0 then e.holdUntil else s.now + s.holdTime
    holders := if hold = 0 then held else insertNat a held })
  let s2 := if grantState = 3 then s1.discardSpec r.line else s1
  ({ s2 with coh := { s2.coh with uses := s2.coh.uses + 1 } } : State).endLineReq r { (served) with detail := grantState, data := data }

/-- Part of the line a request is about. -/
def LineReq.span (r : LineReq) : Nat × Nat :=
  match r.half with
  | some h => (64 * h, 64)
  | none => (0, 128)

/-- Lines of an access: its bytes on one line, as offset in the line and length, and their place in the operation's data. -/
def linePart (o : Operation) (line : Nat) : Nat × Nat × Nat :=
  let off := addrOffset o.req.target
  let lo := max off (line * 128)
  let hi := min (off + opBytes o) (line * 128 + 128)
  (lo - line * 128, hi - lo, lo - off)

def groupDefer (a b : Reason) : Reason := if a = .none then b else a

/-- One line of a GET, PUT or atomic is done; the last one answers (R361). -/
def State.lineDone (s : State) (r : LineReq) (st : Status) (got : List Byte) (result : Word64) : State :=
  let s1 := s.dropLineReq r.id
  match s1.coh.groups.find? (fun g => decide (g.id = r.group)) with
  | none => s1
  | some g =>
    let g1 : LineGroup := { g with
      left := g.left - 1
      got := if got = [] then g.got else g.got ++ [(r.line, got)]
      status := if st = .ok then g.status else st
      stopAt := if st = .ok then g.stopAt else some (min r.line (g.stopAt.getD r.line))
      defer := groupDefer g.defer r.defer
      result := if r.op = .atomic then result else g.result }
    if g1.left ≠ 0 then
      { s1 with coh := { s1.coh with groups := s1.coh.groups.map (fun x => if x.id = g.id then g1 else x) } }
    else
      let s2 : State := { s1 with coh := { s1.coh with groups := s1.coh.groups.filter (fun x => decide (x.id ≠ g.id)) } }
      let o := g1.oper
      let first := addrOffset o.req.target / 128
      let upTo := (g1.stopAt.getD (first + 2 ^ 40))
      let data := ((List.range (ceilDiv (o.length + 127) 128 + 1)).map (fun i => first + i)).flatMap (fun l =>
        if l ≤ upTo then (match g1.got.find? (fun e => decide (e.1 = l)) with | some e => e.2 | none => []) else [])
      let reason : Reason := if g1.status = .tier then .tier else .none
      let a : Response :=
        if g1.status = .nospace then refusal .nospace .bufferQuota
        else if o.op = 2 then { (served g1.status (BitVec.ofNat 64 data.length) reason) with data := data }
        else if o.op = 4 then { (served g1.status g1.result reason) with data := natLe (opBytes o) g1.result.toNat }
        else served g1.status 0 reason
      s2.endAccess o a g1.defer (s2.sliceLoad r.line)

/-- The bytes of a PUT or atomic are applied to backing memory (R361): its status and an atomic's old value. -/
def State.applyLine (s : State) (r : LineReq) : Status × Word64 × State :=
  let o := r.oper
  let p := linePart o r.line
  if r.op = .atomic then
    let m := s.lineRead r.line p.1 p.2.1
    if !m.2 then (.tier, 0, s)
    else
      let old := BitVec.ofNat 64 (leNat m.1)
      match AtomicOp.ofCode (o.req.md.toNat % 16) with
      | none => (.ok, old, s)
      | some op =>
        (.ok, old, ((s.lineUsed r.line p.1 p.2.1).lineWrite r.line p.1 (natLe p.2.1 (atomicValue op p.2.1 old o.operand1 o.operand2).toNat)).2)
  else
    let w := s.lineWrite r.line p.1 (sliceB o.data p.2.2 p.2.1)
    (if w.1 then .ok else .tier, 0, w.2)

/-- A WB or DROP by a holder ends its hold at once (R366). -/
def DirEntry.unhold (e : DirEntry) (a now : Nat) : DirEntry :=
  let hs := e.holders.filter (fun y => decide (y ≠ a))
  { e with holders := hs, holdUntil := if hs = [] then min e.holdUntil now else e.holdUntil }

/-- A holder leaves an entry, with the half it gives up when it is a CXL host (R363, R364): the entry that remains. -/
def State.leave (s : State) (e : DirEntry) (a : Nat) (half : Option Nat) : Option DirEntry :=
  let alone := decide ((e.holdersOf.filter s.isCxl).length = 1)
  let gone : Option DirEntry :=
    if e.state = .em ∧ e.owner = a then none
    else
      let sh := e.sharers.filter (fun x => decide (x ≠ a))
      if e.state = .owned ∧ e.owner = a then (if sh = [] then none else some { e with state := .shared, sharers := sh })
      else if e.state = .shared ∧ sh = [] then none
      else some { e with sharers := sh }
  match half with
  | none => gone
  | some h =>
    if !alone then some e
    else
      let left := e.halves &&& ~~~(1#2 <<< h)
      if left = 0 then gone.map (fun x => { x with halves := 0 }) else some { e with halves := left }

/-- A read grants, or ends with E_TIER when its data is poisoned (R371). -/
def State.grantWith (s : State) (r : LineReq) (a k : Nat) (e : DirEntry) (g : Nat) (bad : State) : State :=
  let sp := r.span
  let d := s.readOrSpec r sp.1 sp.2
  match d.1 with
  | none => bad.endLineReq r (served .tier 0 .tier)
  | some data => (d.2.keepGot r sp.1 sp.2).grant r a k e g data

/-- RD_S with its snoops answered (R364). -/
def State.finishRdS (s : State) (r : LineReq) (a : Nat) (at_ : Option (Nat × DirEntry)) (mask : BitVec 16) : State :=
  match at_ with
  | none =>
    match s.freeWay r.line mask with
    | none => s.setLineReq { r with wait := .set, snoops := [] }
    | some k =>
      let e : DirEntry := { line := r.line, state := .em, owner := a }
      s.grantWith r a k { e with halves := s.grantHalves { e with state := .shared } a r.half } 2 s
  | some (k, e) =>
    let hv := s.grantHalves e a r.half
    match e.state with
    | .shared => s.grantWith r a k { e with sharers := insertNat a e.sharers, halves := hv } 1 s
    | .em =>
      if e.owner = a then s.grantWith r a k { e with halves := hv } 2 s
      else
        let sh := insertNat a (insertNat e.owner [])
        if r.got.isEmpty then
          let e1 : DirEntry := { e with state := .shared, sharers := sh, halves := hv }
          s.grantWith r a k e1 1 (s.setEntry k (some { e1 with sharers := [e.owner], halves := e.halves }))
        else if s.isCxl e.owner then
          let s1 := s.writeGot r
          s1.grantWith r a k { e with state := .shared, sharers := sh, halves := hv } 1 s1
        else
          let e1 : DirEntry := { e with state := .owned, sharers := [a], halves := hv }
          match s.lineData r r.span.1 r.span.2 with
          | none => (s.setEntry k (some { e1 with sharers := [] })).endLineReq r (served .tier 0 .tier)
          | some data => (s.lineUsed r.line r.span.1 r.span.2).grant r a k e1 1 data
    | .owned =>
      match s.lineData r r.span.1 r.span.2 with
      | none => s.endLineReq r (served .tier 0 .tier)
      | some data => (s.lineUsed r.line r.span.1 r.span.2).grant r a k { e with sharers := insertNat a e.sharers, halves := hv } 1 data

/-- RD_X, and UPG of a lost copy, with their snoops answered (R364). -/
def State.finishRdX (s : State) (r : LineReq) (a : Nat) (at_ : Option (Nat × DirEntry)) (mask : BitVec 16) : State :=
  match at_ with
  | none =>
    match s.freeWay r.line mask with
    | none => s.setLineReq { r with wait := .set, snoops := [] }
    | some k =>
      let e : DirEntry := { line := r.line, state := .em, owner := a }
      s.grantWith r a k { e with halves := s.grantHalves { e with state := .shared } a r.half } 3 s
  | some (k, e) =>
    if e.state = .em ∧ e.owner = a then s.grantWith r a k { e with halves := s.grantHalves e a r.half } 3 s
    else
      let fresh : DirEntry := { e with state := .shared, sharers := [], halves := 0 }
      let e1 : DirEntry := { fresh with state := .em, owner := a, halves := s.grantHalves fresh a r.half }
      s.grantWith r a k e1 3 (s.setEntry k none)

/-- UPG answered without data (R364). -/
def upgInPlace (e : DirEntry) (a : Nat) : Bool :=
  (decide (e.state = .shared) && e.sharers.contains a) || (decide (e.state = .owned) && decide (e.owner = a))

/-- A WB with nothing left to wait for (R362, R364). -/
def State.finishWb (s : State) (r : LineReq) (a : Nat) (at_ : Option (Nat × DirEntry)) : State :=
  let stale := (s.bump O.staleWritebacks).endLineReq r (served)
  match at_ with
  | none => stale
  | some (k, e) =>
    if e.ownerOf = some a then
      let w := (s.discardSpec r.line).lineWrite r.line r.span.1 (sliceB r.oper.data 0 r.span.2)
      let e1 := (w.2.leave e a r.half).map (fun x => x.unhold a s.now)
      (w.2.setEntry k e1).endLineReq r (served)
    else stale

/-- A request has its snoops answered, or needs none: the action of R364. -/
def State.finishLine (s : State) (r : LineReq) : State :=
  let at_ := s.entryAt r.line
  let mask := match s.windowAt (r.line * 128) with
    | some (_, w) => s.waysOf (s.part w.partition).tenant
    | none => 0
  let free := fun (t : State) => match at_ with | some (k, _) => t.setEntry k none | none => t
  match r.op with
  | .evict => ((free (s.writeGot r)).dropLineReq r.id).bump O.dirEvictions
  | .flush =>
    let t := (free (s.writeGot r)).dropLineReq r.id
    if at_.isSome then t.bump O.dirEvictions else t
  | .get =>
    let p := linePart r.oper r.line
    let d := s.readOrSpec r p.1 p.2.1
    match d.1 with
    | some data => d.2.lineDone r .ok data 0
    | none =>
      s.lineDone r .tier (s.linePrefix r p.1 p.2.1) 0
  | .put | .atomic =>
    let e := ((free (s.writeGot r)).discardSpec r.line).applyLine r
    e.2.2.lineDone r e.1 [] e.2.1
  | op =>
    match r.agent with
    | none => s.endLineReq r (refusal .param)
    | some a =>
      if (s.agent a).fenced ∨ (s.agent a).kind = 0 then s.endLineReq r (refusal .access)
      else match op with
        | .rdS => s.finishRdS r a at_ mask
        | .upg => match at_ with
          | some (k, e) =>
            if upgInPlace e a then
              let e1 : DirEntry := { e with state := .em, owner := a, sharers := [], halves := s.grantHalves e a r.half }
              s.grant r a k e1 3 []
            else s.finishRdX r a at_ mask
          | none => s.finishRdX r a at_ mask
        | .wb => s.finishWb r a at_
        | .drop => match at_ with
          | some (k, e) =>
            let e1 := if e.ownerOf = some a ∧ e.state = .owned then some e else
              (s.leave e a r.half).map (fun x => x.unhold a s.now)
            (if e.holdersOf.contains a then s.setEntry k e1 else s).endLineReq r (served)
          | none => s.endLineReq r (served)
        | _ => s.finishRdX r a at_ mask

/-- The snoops a request needs (R364), by agent. -/
def snoopPlan (r : LineReq) (e : DirEntry) : List (Nat × SnoopKind) :=
  let inv := fun (l : List Nat) => l.map (fun a => (a, SnoopKind.inv))
  let notMe := fun (l : List Nat) => l.filter (fun a => decide (r.agent ≠ some a))
  match r.op with
  | .rdS => match e.state with
    | .shared => []
    | .em => if r.agent = some e.owner then [] else [(e.owner, .data)]
    | .owned => [(e.owner, .data)]
  | .rdX | .upg =>
    if decide (r.op = .upg) && (match r.agent with | some a => upgInPlace e a | none => false) then inv (notMe e.sharers)
    else match e.state with
      | .shared => inv (notMe e.sharers)
      | .em => if r.agent = some e.owner then [] else inv [e.owner]
      | .owned => inv e.holdersOf
  | .get => match e.ownerOf with
    | some x => [(x, .cur)]
    | none => []
  | .wb | .drop => []
  | .put | .atomic | .evict | .flush => inv e.holdersOf

def SnoopKind.code : SnoopKind → Nat
  | .inv => 0 | .data => 1 | .cur => 2

/-- The snoops of a request are sent (R362, R363). -/
def State.sendSnoops (s : State) (r : LineReq) (e : DirEntry) (plan : List (Nat × SnoopKind)) : State :=
  let due := s.now + usUnits (s.num O.snoopTimeoutUs 1000)
  let l : List Snoop := plan.flatMap (fun p => (s.halvesOf e p.1).map (fun h => { agent := p.1, kind := p.2, half := h, deadline := due }))
  let s1 := s.setLineReq { r with wait := .snoops, snoops := l }
  let s2 := l.foldl (fun (t : State) x => t.emit (.snoop x.agent r.line x.kind.code x.half)) s1
  s2.bumpN O.backInvalidations (l.filter (fun x => x.half.isSome)).length

/-- A request waits on a hold: counted once (R366). -/
def State.waitHold (s : State) (r : LineReq) : State :=
  if r.wait = .hold then s
  else if r.op = .flush ∨ r.op = .evict then s.setLineReq { r with wait := .hold }
  else ((s.setLineReq { r with wait := .hold, defer := groupDefer r.defer .coherenceHold }).bump O.holdWaits).countDeferral
    r.oper.req.issuer.tenant .coherenceHold

/-- A line with its entry known: hold, snoop or act. -/
def State.actOn (s : State) (r : LineReq) (e : DirEntry) : State :=
  let plan := snoopPlan r e
  if plan.any (fun p => decide (p.2 ≠ .cur) && e.held s.now && e.holders.contains p.1) then s.waitHold r
  else if plan.isEmpty then s.finishLine r
  else s.sendSnoops r e plan

/-- A request of the line is in progress or waits before this one. -/
def State.lineBusy (s : State) (line id : Nat) : Bool :=
  s.coh.requests.any (fun x => decide (x.line = line) && decide (x.id ≠ id) && decide (x.wait ≠ .slice))

/-- The victim of R368: the least recently used candidate that is neither BUSY nor held. -/
def State.dirVictim (s : State) (cands : List DirEntry) : Option DirEntry :=
  (cands.filter (fun e => !(s.lineBusy e.line s.coh.nextReq) && !(e.held s.now))).foldl (fun (best : Option DirEntry) e =>
    match best with
    | none => some e
    | some b => if e.used < b.used then some e else best) none

/-- Room for a new entry: a free way, an eviction begun, or a wait on the set (R368). -/
def State.makeRoom (s : State) (r : LineReq) (mask : BitVec 16) : State :=
  match s.freeWay r.line mask with
  | some _ => s.finishLine r
  | none =>
    if s.coh.requests.any (fun x => decide (x.op = .evict) && decide (x.group = r.id)) then s
    else
      let cands := ((List.range 16).filter (fun w => mask.getLsbD w)).filterMap
        (fun w => Store.read none s.coh.entries (16 * dirSet r.line + w))
      match s.dirVictim cands with
      | some v =>
        let x : LineReq := { id := s.coh.nextReq, group := r.id, line := v.line, op := .evict, since := s.now }
        let s1 := s.setLineReq { r with wait := .set }
        let s2 : State := { s1 with coh := { s1.coh with requests := s1.coh.requests ++ [x], nextReq := s1.coh.nextReq + 1 } }
        s2.actOn x v
      | none =>
        let why : Reason := if cands.any (fun e => e.held s.now) then .coherenceHold else .capacity
        (s.setLineReq { r with wait := .set, defer := groupDefer r.defer why }).countDeferral r.oper.req.issuer.tenant
          (if r.defer = .none then why else .none)

/-- A request tries to go on (R358, R364): behind earlier requests of its line, but a WB or DROP of a holder passes one that waits
for the hold or for its set (R366). -/
def State.tryLine (s : State) (r : LineReq) : State :=
  let before := s.coh.requests.filter (fun x => decide (x.line = r.line) && decide (x.id < r.id) && decide (x.wait ≠ .slice))
  let passes := (decide (r.op = .wb) || decide (r.op = .drop)) && before.all (fun x => decide (x.wait = .hold) || decide (x.wait = .set))
  if !before.isEmpty && !passes then s.setLineReq { r with wait := .busy }
  else match s.entryAt r.line with
    | some (_, e) => s.actOn r e
    | none =>
      if r.op = .rdS ∨ r.op = .rdX ∨ r.op = .upg then
        let mask := match s.windowAt (r.line * 128) with
          | some (_, w) => s.waysOf (s.part w.partition).tenant
          | none => 0
        s.makeRoom r mask
      else s.finishLine r

/-- A request joins its slice's queue and tries, or waits at the hub for room in it (R358). -/
def State.enterLine (s : State) (r : LineReq) : State :=
  let x := { r with id := s.coh.nextReq, since := s.now }
  let full := decide (512 ≤ s.sliceDepth r.line)
  let s1 : State := { s with coh := { s.coh with
    requests := s.coh.requests ++ [{ x with wait := if full then .slice else .none }], nextReq := s.coh.nextReq + 1 } }
  if full then s1.countDeferral r.oper.req.issuer.tenant .bufferQuota else s1.tryLine x

/-! ### Operations (R360, R361) -/

/-- The window an access falls in, or the refusal (R353, R360, R372, R374). -/
def State.windowFor (s : State) (off len tenant : Nat) : Except Response (Nat × Window) :=
  match s.windowAt off with
  | none => .error (refusal .range)
  | some (n, w) =>
    if w.base + w.pages * 65536 < off + len then .error (refusal .range)
    else if w.disabling then .error (refusal .access)
    else if (s.part w.partition).tenant ≠ tenant then .error (refusal .access)
    else if s.closed (.hubSection 2) then .error (refusal .busy .unitState)
    else .ok (n, w)

/-- A PUT, GET, ATOMIC, FETCH_OP or PUT_NOTIFY to REGION 0x1 of this node, line by line (R361). -/
def State.cohAccess (s : State) (o : Operation) : State :=
  let off := addrOffset o.req.target
  let len := opBytes o
  let load := s.sliceLoad (off / 128)
  let ag := s.agentOf o.req.issuer
  match s.windowFor off (max len 1) o.req.issuer.tenant with
  | .error a => s.respond o.req o.op a load
  | .ok _ =>
    if (match ag with | some (_, x) => x.fenced | none => false) then s.respond o.req o.op (refusal .access) load
    else if len = 0 then s.endAccess o (served) .none load
    else
      let first := off / 128
      let count := (off + len - 1) / 128 + 1 - first
      let gid := s.coh.nextReq
      let s1 := s.openOp o.req o.op
      let s2 : State := { s1 with coh := { s1.coh with
        nextReq := gid + 1, groups := s1.coh.groups ++ [{ id := gid, oper := o, left := count }] } }
      (List.range count).foldl (fun (t : State) j => t.enterLine {
        id := 0, group := gid, line := first + j, oper := o, agent := ag.map (·.1)
        op := if o.op = 2 then .get else if o.op = 3 ∨ o.op = 4 then .atomic else .put }) s2

/-- A caching operation (R360) or a CXL host request that maps to one (R363). -/
def State.cachingOp (s : State) (o : Operation) (op : LineOp) (go : State → Nat → LineReq → State) : State :=
  let off := addrOffset o.req.target
  let load := s.sliceLoad (off / 128)
  let no := fun (a : Response) => s.respond o.req o.op a load
  match s.agentOf o.req.issuer with
  | none => no (refusal .param)
  | some (n, a) =>
    let cxl := decide (a.kind = 2)
    let unit := if cxl then 64 else 128
    if addrRegion o.req.target ≥ 7 then no (refusal .rsvd)
    else if addrRegion o.req.target ≠ 1 then no (refusal .param)
    else if a.fenced then no (refusal .access)
    else if off % unit ≠ 0 ∨ o.length ≠ (if op = .wb then unit else 0) then no (refusal .align)
    else match s.windowFor off 64 a.tenant with
      | .error r => no r
      | .ok _ =>
        if o.req.issuer.tenant ≠ a.tenant then no (refusal .access)
        else go s n { id := 0, group := 0, line := off / 128, op := op, agent := some n, oper := o,
                      half := if cxl then some (off / 64 % 2) else none }

def State.cachingEnter (s : State) (o : Operation) (op : LineOp) : State :=
  s.cachingOp o op (fun t _ r => (t.openOp o.req o.op).enterLine r)

def execRdS (o : Operation) (s : State) : Result :=
  .next (s.unitOp o 0xFF (fun t => t.cachingEnter o .rdS))

def execRdX (o : Operation) (s : State) : Result :=
  .next (s.unitOp o 0xFF (fun t => t.cachingEnter o .rdX))

def execUpg (o : Operation) (s : State) : Result :=
  .next (s.unitOp o 0xFF (fun t => t.cachingEnter o .upg))

def execWb (o : Operation) (s : State) : Result :=
  .next (s.unitOp o 0xFF (fun t => t.cachingEnter o .wb))

def execDrop (o : Operation) (s : State) : Result :=
  .next (s.unitOp o 0xFF (fun t => t.cachingEnter o .drop))

/-- RD_SPEC (R370): an I or S line goes into the speculation buffer of its slice, of 256 lines. -/
def execRdSpec (o : Operation) (s : State) : Result :=
  .next (s.unitOp o 0xFF (fun t => t.cachingOp o .get (fun u n r =>
    let yes := fun (v : State) => v.respond o.req o.op (served) (u.sliceLoad r.line)
    let owned := match u.entryAt r.line with | some (_, e) => e.ownerOf.isSome | none => false
    if owned then yes (u.bump O.specDropped)
    else
      let m := u.lineRead r.line 0 128
      if !m.2 || decide (256 ≤ (u.sliceSpec r.line).length) ||
        u.coh.spec.any (fun x => decide (x.line = r.line) && decide (x.agent = n)) then yes u
      else
        let u := u.lineUsed r.line 0 128
        yes { u with coh := { u.coh with spec := u.coh.spec ++ [{ line := r.line, agent := n, since := u.now, data := m.1 }] } })))

/-! ### What happens at the directory (R358, R362, R366, R370, R371) -/

/-- A snoop answer (R362, R363): the owner's data is kept, and the request acts when the last one has come. -/
def execSnoopResponse (agent line : Nat) (half : Option Nat) (data : Option (List Byte)) (s : State) : Result :=
  .next (s.begin.whenRunning (fun t =>
    match t.coh.requests.find? (fun r => decide (r.line = line) &&
        r.snoops.any (fun x => decide (x.agent = agent) && decide (x.half = half))) with
    | none => t
    | some r =>
      let owner := match t.entryAt line with | some (_, e) => decide (e.ownerOf = some agent) | none => false
      let base := match half with | some h => 64 * h | none => 0
      let len := if half.isSome then 64 else 128
      let got := match data with
        | some bs => if owner then
            (List.range len).foldl (fun (g : Store (Option Byte)) i =>
              Store.write none g (base + i) (some (bs.getD i 0))) r.got else r.got
        | none => r.got
      let t := if owner && data.isSome then t.discardSpec line else t
      let r1 : LineReq := { r with
        got := got, snoops := r.snoops.filter (fun x => !(decide (x.agent = agent) && decide (x.half = half))) }
      if r1.snoops.isEmpty then (t.setLineReq r1).finishLine r1 else t.setLineReq r1))

/-- A waiting request goes on (R358, R364, R368), or one that found no room in its slice queue in time is refused (R238). -/
def execDirectoryRequestResume (id : Nat) (s : State) : Result :=
  .next (s.begin.whenRunning (fun t =>
    match t.coh.requests.find? (fun r => decide (r.id = id)) with
    | none => t
    | some r => match r.wait with
      | .snoops => t
      | .slice =>
        let earlier := t.coh.requests.any (fun x => decide (x.wait = .slice) && decide (x.line % 16 = r.line % 16) && decide (x.id < id))
        let remote := match r.oper.req.issuer.src with | .endpoint _ => true | _ => r.oper.req.fromDzm
        if remote && decide (r.since + nsUnits (t.num O.quotaWaitNs 10000) ≤ t.now) then
          if r.op = .get ∨ r.op = .put ∨ r.op = .atomic then
            t.lineDone { r with defer := .none } .nospace [] 0
          else t.endLineReq { r with defer := .none } (refusal .nospace .bufferQuota)
        else if earlier || decide (512 ≤ t.sliceDepth r.line) then t
        else
          let r1 : LineReq := { r with wait := .none, defer := groupDefer r.defer .bufferQuota }
          (t.setLineReq r1).tryLine r1
      | _ => t.tryLine r))

/-- A hold ends (R366, R367): the requests that wait for it go on. -/
def execHoldExpiry (line : Nat) (s : State) : Result :=
  .next (s.begin.whenRunning (fun t =>
    match t.entryAt line with
    | none => t
    | some (_, e) =>
      (t.coh.requests.filter (fun r => decide (r.line = line) && decide (r.wait = .hold))).foldl
        (fun (u : State) r => u.tryLine r) (t.elapse e.holdUntil)))

/-- An agent is fenced (R371, R373): it leaves every entry, the lines it owned are poisoned, and requests that waited for its answer
go on without it. -/
def State.fenceAgent (s : State) (a : Nat) (report : Bool) : State :=
  let s1 := s.coh.entries.foldl (fun (t : State) x =>
    match x.2 with
    | none => t
    | some e =>
      let sh := e.sharers.filter (fun y => decide (y ≠ a))
      let hs := e.holders.filter (fun y => decide (y ≠ a))
      if e.ownerOf = some a then
        (t.poisonLine e.line).setEntry x.1
          (if e.state = .owned ∧ sh ≠ [] then some { e with state := .shared, sharers := sh, holders := hs } else none)
      else if e.state = .shared ∧ sh = [] then t.setEntry x.1 none
      else t.setEntry x.1 (some { e with sharers := sh, holders := hs })) s
  let s2 := (s1.setAgent a { s1.agent a with fenced := true }).bump32 O.agentsFenced
  let s3 := (s2.coh.requests.filter (fun r => r.snoops.any (fun x => decide (x.agent = a)))).foldl (fun (t : State) r =>
    let r1 : LineReq := { r with snoops := r.snoops.filter (fun x => decide (x.agent ≠ a)) }
    if r1.snoops.isEmpty then (t.setLineReq r1).finishLine r1 else t.setLineReq r1) s2
  if report then s3.fault 0x30 (s3.path (.hubSection 2)) a 4 else s3

/-- A snoop is not answered in time (R371). -/
def execSnoopTimeout (agent line : Nat) (s : State) : Result :=
  .next (s.begin.whenRunning (fun t =>
    match (t.coh.requests.filter (fun r => decide (r.line = line))).findSome?
        (fun r => r.snoops.find? (fun x => decide (x.agent = agent))) with
    | none => t
    | some x => (t.elapse x.deadline).fenceAgent agent true))

/-- A buffered line unused for 10 µs goes (R370). -/
def execSpecBufferExpiry (line agent : Nat) (s : State) : Result :=
  .next (s.begin.whenRunning (fun t =>
    match t.coh.spec.find? (fun x => decide (x.line = line) && decide (x.agent = agent)) with
    | none => t
    | some x =>
      let t1 := t.elapse (x.since + usUnits 10)
      { t1 with coh := { t1.coh with spec := t1.coh.spec.erase x } }))

/-! ### Windows, way masks, agents (R354, R356, R359, R372, R373, R375) -/

def State.windowPagesEnabled (s : State) : Nat := ((s.coh.windows.filter (fun e => e.2.enable)).map (fun e => e.2.pages)).sum

/-- The refusal of an enable (R354). -/
def State.windowCheck (s : State) (n : Nat) (w : Window) : Option Status :=
  let p := s.part w.partition
  let others := s.coh.windows.filter (fun e => e.2.enable && decide (e.1 ≠ n))
  if w.enable then some .busy
  else if w.base % 65536 ≠ 0 ∨ w.pages = 0 ∨ 976562 < w.pages ∨ 2 ^ 40 ≤ w.base ∨
      others.any (fun e => overlaps w.base (w.pages * 65536) e.2.base (e.2.pages * 65536)) ∨
      p.state ≠ .bound ∨ p.size < w.backPages + w.pages then some .param
  else if 976562 < s.windowPagesEnabled + w.pages then some .nospace
  else if p.staticBy.isSome ∨ s.kvPartition w.partition ∨ others.any (fun e => decide (e.2.partition = w.partition) &&
      overlaps w.backPages w.pages e.2.backPages e.2.pages) then some .busy
  else if s.waysOf p.tenant = 0 then some .nospace
  else none

/-- An enable through COH_WIN_CTL or win_enable (R354). -/
def execWindowEnable (a : Access) (w : Nat) (partition : Option Nat) (s : State) : Result :=
  .next (s.begin.whenRunning (fun t =>
    let x := t.window w
    let y := { x with partition := partition.getD x.partition }
    let c := t.windowCheck w y
    let t1 := if accessMgmt a then t.setWindow w { x with lastStatus := c.getD .ok } else t
    t1.mgmtWrite a (R.cohWinCtl w) (c.map (fun st => refusal st))
      (fun u => u.setWindow w { y with enable := true, disabling := false, lastStatus := .ok })))

/-- A disable (R372): the window closes and every entry it has, or will have from requests already accepted, is flushed. -/
def State.windowOff (s : State) (n : Nat) : State :=
  let w := s.window n
  if !w.enable || w.disabling then s
  else
    let inside := fun (line : Nat) => decide (w.base ≤ line * 128) && decide (line * 128 < w.base + w.pages * 65536)
    let s1 := s.setWindow n { w with disabling := true }
    let lines := (((s1.windowEntries w).map (fun e => e.2.line)) ++
      ((s1.coh.requests.filter (fun r => inside r.line)).map (fun r => r.line))).eraseDups
    lines.foldl (fun (t : State) l => t.enterLine { id := 0, group := 0, line := l, op := .flush }) s1

def execWindowDisable (a : Access) (w : Nat) (s : State) : Result :=
  .next (s.begin.whenRunning (fun t => t.mgmtWrite a (R.cohWinCtl w) none (fun u =>
    let v := u.windowOff w
    v.setWindow w { v.window w with lastStatus := .ok })))

/-- A window that is disabling is disabled once no entry and no request of its range is left. -/
def State.windowDone (t : State) (w : Nat) : State :=
  let x := t.window w
  let busy := t.coh.requests.any (fun r => decide (x.base ≤ r.line * 128) && decide (r.line * 128 < x.base + x.pages * 65536))
  if x.disabling && (t.windowEntries x).isEmpty && !busy then t.setWindow w { x with enable := false, disabling := false } else t

/-- The tenant, or the management domain, of an owner index has an enabled window (R356). -/
def State.ownsWindow (s : State) (ix : Nat) : Bool :=
  s.coh.windows.any (fun e => e.2.enable && decide (ownerIx (s.part e.2.partition).tenant = ix))

/-- A write of COH_WAYS_t (R356, R375). -/
def execWayMaskWrite (i : Issuer) (t : Nat) (v : Word32) (s : State) : Result :=
  .next (s.begin.whenRunning (fun u =>
    let m : BitVec 16 := v.setWidth 16
    u.mgmtWrite (.csr i) (R.cohWays t)
      (if v.toNat / 65536 ≠ 0 then some (refusal .rsvd)
       else if u.coh.ways.any (fun e => decide (e.1 ≠ t) && decide (e.2 &&& m ≠ 0)) then some (refusal .param)
       else if u.ownsWindow t then some (refusal .busy)
       else none)
      (fun x => { x with coh := { x.coh with ways := Store.write 0 x.coh.ways t m } })))

/-- The refusal of a registration (R359). -/
def State.agentCheck (s : State) (n kind : Nat) : Option Status :=
  let a := s.agent n
  let p := Store.read ({} : Port) s.links.ports a.port
  if s.coh.agents.any (fun e => decide (e.2.kind ≠ 0) && decide (e.2.node = a.node) && !(decide (e.1 = n) && a.fenced)) ∨ 0xF000 ≤ a.node ∨ kind = 0 ∨ 2 < kind ∨
      p.state ≠ .active ∨ p.mode ≠ (if kind = 1 then .opvitik else .cxl) then some .param
  else none

def execAgentRegister (a : Access) (n kind : Nat) (s : State) : Result :=
  .next (s.begin.whenRunning (fun t => t.mgmtWrite a (R.cohAgentCtl n) ((t.agentCheck n kind).map (fun st => refusal st))
    (fun u => u.setAgent n { u.agent n with kind := kind, fenced := false })))

/-- Lines whose entries name the agent (R377). -/
def State.agentLines (s : State) (n : Nat) : Nat :=
  (s.coh.entries.filter (fun x => match x.2 with | some e => e.holdersOf.contains n | none => false)).length

/-- KIND 0 (R373): with entries held, as a fence without the fault event. -/
def execAgentUnregister (a : Access) (n : Nat) (s : State) : Result :=
  .next (s.begin.whenRunning (fun t => t.mgmtWrite a (R.cohAgentCtl n) none (fun u =>
    let v := if u.agentLines n = 0 then u else u.fenceAgent n false
    v.setAgent n { v.agent n with kind := 0 })))

end Sys2Proof.Machine
end

