-- ==== Sys2Proof/Machine/LinkTx.lean ====
section
/-! DEFINITION. What a port sends (R442, R461-R467): flits, their sequence numbers and replay buffer, frames cut into flits, credit
returns; and port events (R495). -/

namespace Sys2Proof.Machine

def State.port (s : State) (p : Nat) : Port := Store.read ({} : Port) s.links.ports p
def State.setPort (s : State) (p : Nat) (x : Port) : State :=
  { s with links := { s.links with ports := Store.write ({} : Port) s.links.ports p x } }

/-- A port event (R495); the manual states no KIND and no ARG. -/
def State.portEvent (s : State) (p : Nat) (st : Status) : State :=
  let k := s.free (2 ^ 32)
  k.2.eventOpen p (s.path (.port p)) st k.1

/-- A channel by its code (R253). -/
def chanOf (c : Nat) : Chan :=
  [Chan.sched, .rsp, .rspEsc, .data, .dataEsc, .snp, .snpEsc, .req, .reqEsc].getD c .sched

/-- The channel of a class on the escape or the normal sub-channel. -/
def Chan.on (c : Chan) (esc : Bool) : Chan :=
  match c, esc with
  | .sched, _ => .sched
  | .rsp, b | .rspEsc, b => if b then .rspEsc else .rsp
  | .data, b | .dataEsc, b => if b then .dataEsc else .data
  | .snp, b | .snpEsc, b => if b then .snpEsc else .snp
  | .req, b | .reqEsc, b => if b then .reqEsc else .req

/-- A flit leaves: with encryption ACTIVE it takes the next place in its group, and the group counter rises after 16 (R442, R476). -/
def State.countFlit (s : State) (p : Nat) : State :=
  let c := s.crypt p
  if !c.active then s
  else if c.gpos = 15 then s.setCrypt p { c with gpos := 0, counter := c.counter + 1 } else s.setCrypt p { c with gpos := c.gpos + 1 }

/-- A sequenced flit goes out for the first time (R462, R467). -/
def State.txSeq (s : State) (p : Nat) (f : SentFlit) : State :=
  let x := s.port p
  let g := { f with seq := x.nextSeq }
  ((s.setPort p { x with nextSeq := (x.nextSeq + 1) % 4096, replay := x.replay ++ [g] }).emit
    (.flit p g.ftype g.vc g.seq g.payload)).countFlit p

/-- An unsequenced flit (R462). -/
def State.txFree (s : State) (p : Nat) (m : Msg) : State := (s.emit m).countFlit p

/-- A sequenced flit goes out again (R468). -/
def State.txAgain (s : State) (p : Nat) (g : SentFlit) : State := (s.emit (.flit p g.ftype g.vc g.seq g.payload)).countFlit p

/-- Places left in the replay buffer. -/
def Port.room (x : Port) : Nat := 2048 - x.replay.length

/-- Credit not yet returned goes out in CREDIT flits while the replay buffer has room (R466, R467). -/
def State.flushCredits (s : State) (p : Nat) : State :=
  (s.port p).creditOwed.foldl (fun (t : State) e =>
    let x := t.port p
    if !x.up ∨ x.mode ≠ .opvitik ∨ e.2 = 0 ∨ x.room = 0 then t
    else
      let n := min 4095 e.2
      let t1 := t.setPort p { x with creditOwed := Store.write 0 x.creditOwed e.1 (e.2 - n) }
      (t1.txSeq p { seq := 0, ftype := 2, vc := 0, crVc := e.1, crCells := n }).emit (.credit p e.1 n)) s

/-- A frame's credit returns to the port's peer (R255): one credit a cell, and one for a frame without payload. -/
def State.creditBack (s : State) (p : Nat) (c : Chan) (cells : Nat) : State :=
  let x := s.port p
  if x.mode ≠ .opvitik ∨ !x.up then s
  else (s.setPort p { x with creditOwed := Store.write 0 x.creditOwed c.code (Store.read 0 x.creditOwed c.code + max 1 cells) }).flushCredits p

/-- Pieces of 240 bytes (R461). -/
def cut240 : Nat → List Byte → List (List Byte)
  | 0, _ => []
  | n + 1, bs => bs.take 240 :: (match bs.drop 240 with | [] => [] | r => cut240 n r)

/-- Flits of a frame (R463). -/
def flitsOf (vc : Nat) (bytes : List Byte) : List SentFlit :=
  let parts := cut240 18 bytes
  (List.range parts.length).map (fun k =>
    { seq := 0, ftype := 1, vc := vc, fstart := decide (k = 0), fend := decide (k + 1 = parts.length), payload := parts.getD k [] })

/-- A frame's bytes leave on a port in consecutive flits; SEQ of the last (R463). -/
def State.txFrame (s : State) (p vc : Nat) (bytes : List Byte) : Nat × State :=
  let s1 := (flitsOf vc bytes).foldl (fun (t : State) f => t.txSeq p f) s
  (((s1.port p).nextSeq + 4095) % 4096, s1)

end Sys2Proof.Machine
end

