-- ==== Sys2Proof/Machine/Switch.lean ====
section
/-! DEFINITION. The switch core (chapter 06): frames and their headers, admission to quotas, routes, link groups, multicast, the
escape route, egress service (R264, R265), and its registers. -/

namespace Sys2Proof.Machine

/-! ### Frame headers (R464, R465) -/

/-- A REASON by its code (R71). -/
def reasonOf (c : Nat) : Reason :=
  [Reason.none, .powerThermal, .staticWindow, .coherenceHold, .hostMinimum, .hostCap, .bestEffort, .bufferQuota, .capacity, .tier,
    .slip, .linkReplay, .unitState, .policer].getD c .none

/-- LAST_DIR by its code, and its code (R235). -/
def dirOf (c : Nat) : Dir := if c = 1 then .up else if c = 2 then .down else .none
def Dir.code : Dir → Nat
  | .none => 0 | .up => 1 | .down => 2

/-- A header decoded. -/
def frameOf (h payload : List Byte) : Frame :=
  let w3 := fieldAt h 12 4
  let rw_ := fieldAt h 20 4
  let w6 := fieldAt h 24 4
  let esc := bitAt rw_ 29
  let f : Frame := {
    kind := fieldAt h 28 1 % 4, header := sliceB h 0 32, payload := payload, tenant := bitsOf rw_ 7 0, label := bitsOf rw_ 19 8
    hops := bitsOf rw_ 23 20, repin := bitsOf rw_ 27 24, gap := bitAt rw_ 28, esc := esc, lastDir := dirOf (bitsOf rw_ 31 30)
    op := fieldAt h 10 1, opid := fieldAt h 16 4 }
  if f.kind = 0 then
    { f with
      srcNode := fieldAt h 8 2, dstNode := fieldAt h 6 2, length := bitsOf w3 24 0, tc := bitsOf w3 28 25, posted := bitAt w3 29
      operands := bitAt w3 30, index := bitsOf w6 12 0, defer := reasonOf (bitsOf w6 16 13), chan := Chan.req.on esc }
  else if f.kind = 1 then
    { f with
      srcNode := Config.responseSource (fieldAt h 8 2) (fieldAt h 16 4) % 65536, dstNode := fieldAt h 8 2, length := bitsOf w3 12 0
      index := bitsOf w3 27 16, defer := reasonOf (bitsOf w3 31 28), tc := fieldAt h 29 1 % 16
      chan := (if payload = [] then Chan.rsp else Chan.data).on esc }
  else { f with srcNode := fieldAt h 8 2, dstNode := fieldAt h 6 2, length := bitsOf w3 12 0, tc := 0, chan := .sched }

/-- A reserved field of a header is not zero (R464). -/
def headerReserved (h : List Byte) : Bool :=
  let k := fieldAt h 28 1
  decide (4 ≤ k) ||
  (if k = 0 then decide (bitsOf (fieldAt h 12 4) 31 31 ≠ 0) || decide (bitsOf (fieldAt h 24 4) 31 31 ≠ 0) || decide (fieldAt h 29 1 ≠ 0)
   else decide (bitsOf (fieldAt h 12 4) 15 13 ≠ 0) || decide (16 ≤ fieldAt h 29 1))

/-- HCHK is right (R465). -/
def hchkOk (h : List Byte) : Bool := decide (crc16 (sliceB h 0 30) = fieldAt h 30 2)

/-- Bits hi to lo of a number replaced. -/
def putBits (v hi lo x : Nat) : Nat := v - bitsOf v hi lo * 2 ^ lo + x % 2 ^ (hi + 1 - lo) * 2 ^ lo

/-- The header as it leaves on a hop: the routing word, DEFER and HCHK are set (R235, R464). -/
def Frame.wire (f : Frame) : List Byte :=
  let rw_ := f.tenant % 256 + f.label % 4096 * 2 ^ 8 + f.hops % 16 * 2 ^ 20 + f.repin % 16 * 2 ^ 24 + b2n f.gap * 2 ^ 28 +
    b2n f.esc * 2 ^ 29 + f.lastDir.code * 2 ^ 30
  let w3 := fieldAt f.header 12 4
  let w6 := fieldAt f.header 24 4
  let a := sliceB f.header 0 12 ++ natLe 4 (if f.kind = 1 then putBits w3 31 28 f.defer.code else w3) ++ sliceB f.header 16 4 ++
    natLe 4 rw_ ++ natLe 4 (if f.kind = 0 then putBits w6 16 13 f.defer.code else w6) ++ sliceB f.header 28 2
  a ++ natLe 2 (crc16 a)

/-- FLOW_LABEL of a local issuer (R248). -/
def issuerLabel (i : Issuer) : Option Nat :=
  match i.src with
  | .queue q => some (q % 4096)
  | .floret f => some (f % 4096)
  | _ => none

/-- The request a frame belongs to. A local frame names its issuer by label and OPID. -/
def State.reqOf (s : State) (f : Frame) : Req :=
  let mine := s.remote.outstanding.find? (fun o => decide (o.id = f.opid) && decide (o.op = f.op) &&
    (match issuerLabel o.issuer with | some l => decide (l = f.label) | none => false))
  let far : Issuer := { src := .endpoint (if f.kind = 0 then f.srcNode else f.dstNode), tenant := f.tenant,
                        node := if f.kind = 0 then f.srcNode else f.dstNode }
  let atHome := if f.kind = 0 then decide (f.inPort = none) else s.isHere f.dstNode
  let who := if atHome then (match mine with | some o => o.issuer | none => far) else far
  { issuer := who, tc := f.tc, posted := f.posted, md := BitVec.ofNat 8 (if f.kind = 0 then fieldAt f.header 11 1 else 0)
    target := BitVec.ofNat 64 (fieldAt f.header 0 8), seq := f.opid, fromDzm := f.fromDzm, viaPort := f.inPort
    defer := if f.kind = 0 then f.defer else .none }

/-- The data bytes an operation carries across a link, where the manual fixes their number by LENGTH (R233, R464). -/
def dataOf (op length : Nat) : Option Nat :=
  if op = 1 ∨ op = 6 ∨ op = 0x21 ∨ op = 0x50 ∨ op = 0x79 then some length
  else if op = 2 ∨ op = 3 ∨ op = 4 ∨ op = 5 ∨ op = 8 then some 0
  else none

/-- The payload of a frame disagrees with its header (R465). -/
def Frame.lengthBad (f : Frame) : Bool :=
  decide (4096 < f.bytes) ||
  (if f.kind = 0 then match dataOf f.op f.length with
    | some d => decide (f.bytes ≠ min 4096 ((if f.operands then 32 else 0) + d - 4096 * f.index))
    | none => f.operands && decide (f.index = 0) && decide (f.bytes < 32)
   else decide (f.bytes ≠ f.length))

/-! ### Frames held -/

def State.frame (s : State) (n : Nat) : Option Frame := Store.read none s.sw.frames n
def State.setFrame (s : State) (n : Nat) (f : Option Frame) : State :=
  { s with sw := { s.sw with frames := Store.write none s.sw.frames n f } }

/-- A frame is kept in a descriptor; its REQ or SNP credit returns (R255). -/
def State.keepFrame (s : State) (f : Frame) : State :=
  let n := s.sw.nextFrame
  let room : List RspRoom := if f.rspRoom = 0 then [] else
    [{ tenant := f.tenant, node := f.srcNode, opid := f.opid, posted := f.posted, cells := f.rspRoom }]
  let s1 : State := { s with sw := { s.sw with
    frames := Store.write none s.sw.frames n (some { f with id := n })
    nextFrame := n + 1
    rooms := s.sw.rooms.filter s.roomLive ++ room } }
  match f.inPort with
  | some p => if f.kind = 0 then s1.creditBack p f.chan f.cells else s1
  | none => s1

/-- What has arrived of the operation or the response that a frame is a part of (R233). -/
def Frame.partOf (f : Frame) (x : PartialOp) : Bool :=
  decide (x.kind = f.kind) && decide (x.node = if f.kind = 0 then f.srcNode else f.dstNode) && decide (x.opid = f.opid) &&
    decide (x.first.label = f.label) && decide (x.first.op = f.op)

/-- A frame is refused with a STATUS toward its issuer; a response that cannot go on is dropped. A later frame of an operation ends
the operation when its earlier ones are here. -/
def State.refuseFrame (s : State) (f : Frame) (st : Status) (reason : Reason := .none) : State :=
  let begun := s.sw.partials.any f.partOf
  if f.kind = 0 ∧ (f.index = 0 ∨ begun) then
    let s1 : State := if begun then { s with sw := { s.sw with partials := s.sw.partials.filter (fun x => !(f.partOf x)) } } else s
    s1.respond (s1.reqOf f) f.op (refusal st reason)
  else s

/-- A frame just received is refused or dropped: its credit returns (R255). -/
def State.dropArrival (s : State) (f : Frame) : State :=
  match f.inPort with
  | some p => s.creditBack p f.chan f.cells
  | none => s
def State.refuseArrival (s : State) (f : Frame) (st : Status) (reason : Reason := .none) : State :=
  (s.refuseFrame f st reason).dropArrival f

/-! ### Admission (R236-R238) -/

/-- Room to reserve for the response of a request this DZM executes (R238). -/
def State.roomFor (s : State) (f : Frame) : Nat :=
  let mine := s.isHere f.dstNode ||
    (isMulticast f.dstNode && (Store.read ({} : McEntry) s.sw.mcast (f.dstNode - 0xF000)).here)
  if !mine ∨ f.index ≠ 0 then 0
  else if f.op = 2 then min 16 (ceilDiv f.length 256) else 1

/-- A request asks for room in its tenant's quota: it is admitted, or waits behind those that wait already (R238). -/
def State.admitFrame (s : State) (f0 : Frame) : State :=
  let f := { f0 with rspRoom := s.roomFor f0 }
  let t := ownerIx f.tenant
  if s.sw.quotaWaits.any (fun w => decide (w.quota = t)) ∨ s.quotaFree t < f.cells + f.rspRoom then
    { s with sw := { s.sw with quotaWaits := s.sw.quotaWaits ++ [
      { frame := f, quota := t, injected := f.inPort.isNone, deadline := s.now + nsUnits (s.num O.quotaWaitNs 2000) }] } }
  else s.keepFrame f

/-- The live plan slot whose LAYOUT names an exchange to an address; from a port, one that arrives on it (R478). -/
def State.staticSlot (s : State) (target : Word64) (node : Option Nat) : Option Nat :=
  (s.plans.slots.find? (fun e => planLive e.2.state && (match e.2.image with
    | some i => i.layout.any (fun d => decide (d.dest = target) &&
        (match node with | some n => decide (addrNode d.source = n) | none => true))
    | none => false))).map (·.1)

/-- A class 0 frame is charged to its plan's static reserve, or discarded (R238). -/
def State.admitStatic (s : State) (f : Frame) (slot : Nat) : State :=
  if s.reserveFree slot < f.cells then s.dropArrival f else s.keepFrame { f with slot := some slot }

/-- A port whose peer's TENANT field is taken as given (R429). -/
def State.trusted (s : State) (p : Nat) : Bool :=
  let x := s.port p
  decide (x.mode = .opvitik) && !x.peerEndpoint && (s.bind p).peerDzm

/-- The ingress Weir of a port and class (R270-R272): a multicast frame is decided at the first DZM only. -/
def State.ingressWeir (s : State) (p : Nat) (f : Frame) : Bool × State :=
  let b := s.reg (R.trfWeirBind p (f.tc - 1)) 0
  if !bitAt b 16 ∨ (isMulticast f.dstNode ∧ f.fromDzm) then (true, s) else s.weirPass (b % 65536) (32 + f.bytes)

/-- What refuses a request before it is policed (R30, R42, R52, R428, R429, R464, R465, R478). -/
def State.arrivalBad (s : State) (p : Nat) (f : Frame) : Option Status :=
  let b := s.bind p
  let x := s.port p
  if headerReserved f.header then some .rsvd
  else if f.lengthBad then some .check
  else if f.op = 7 ∨ f.op = 9 then some .param
  else if !s.trusted p && (decide (b.tenant = 0xFE) || decide (f.srcNode < b.nodeBase) || decide (b.nodeBase + b.countM1 < f.srcNode)) then
    some .access
  else if f.fromDzm ∧ f.dstNode = 0xFFFF then some .param
  else if f.fromDzm ∧ s.nodeId = 0xFFFF then some .access
  else if f.tc = 0 ∧ !f.fromDzm ∧ !(bitAt x.agreed.toNat 1 && bitAt x.agreed.toNat 2) then some .access
  else none

/-- The fields the first DZM sets (R42, R427, R428, R478). -/
def State.firstHop (s : State) (p : Nat) (f : Frame) : Frame :=
  let g : Frame := if s.trusted p then f else
    { f with
      tenant := (s.bind p).tenant, hops := 0, repin := 0, gap := false, esc := false, lastDir := .none, defer := .none
      chan := f.chan.on false }
  if f.dstNode = 0xFFFF ∧ !f.fromDzm then { g with dstNode := s.nodeId } else g

/-- A request received on a port. -/
def State.requestIn (s : State) (p : Nat) (f0 : Frame) : State :=
  let f := s.firstHop p f0
  match s.arrivalBad p f0 with
  | some st => s.refuseArrival f st
  | none =>
    if f.tc = 0 then
      match s.staticSlot (BitVec.ofNat 64 (fieldAt f.header 0 8)) (if f.fromDzm then none else some f.srcNode) with
      | none => s.refuseArrival f .access
      | some n => s.admitStatic f n
    else
      let w := s.ingressWeir p f
      if !w.1 then w.2.refuseArrival f .busy .policer else w.2.admitFrame f

/-- A response received on a port: from a peer not trusted it is taken only when it answers what was sent there (R428). -/
def State.responseIn (s : State) (p : Nat) (f : Frame) : State :=
  let x := s.port p
  let known := x.expect.find? (fun e => decide (e.1 = f.opid))
  if !s.trusted p && known.isNone then (s.bump O.foreignFrames).dropArrival f
  else
    let g : Frame := match known with
      | some (_, r) => if s.trusted p then f else { f with tenant := r.issuer.tenant, esc := false, lastDir := .none, gap := false, hops := 0 }
      | none => f
    let s1 := s.setPort p { x with expect := x.expect.filter (fun e => decide (e.1 ≠ f.opid)) }
    if headerReserved f.header then s1.dropArrival g
    else if g.lengthBad then (s1.respond (s1.reqOf g) g.op (refusal .check)).dropArrival g
    else s1.keepFrame g

/-- A frame reassembled at ingress (R238, R428, R429). SCHED frames are consumed: their tokens and messages come as commands of their
own. -/
def State.frameIn (s : State) (p : Nat) (h payload : List Byte) : State :=
  let x := s.port p
  if !x.up then s
  else
    let k := x.arrived.find? (fun e => decide (e.1 = h ++ payload))
    let s1 := s.setPort p { x with arrived := x.arrived.erase (h ++ payload, (k.map (·.2)).getD 0) }
    let f : Frame := { frameOf h payload with
      inPort := some p, fromDzm := decide (x.mode = .opvitik) && !x.peerEndpoint, lastSeq := k.map (·.2) }
    let owner := if s.trusted p then f.tenant else (s.bind p).tenant
    let s2 := s1.meter owner 0x09 (32 + f.bytes)
    if f.kind = 0 then s2.requestIn p f else if f.kind = 1 then s2.responseIn p f else s2.dropArrival f

def execFrameReceive (port : Nat) (header payload : List Byte) (s : State) : Result :=
  .next (s.begin.whenRunning (fun t => t.frameIn port header payload))

/-- Room for the oldest frame that waits in a quota: it is admitted (R238). -/
def State.quotaAdmit (s : State) (t : Nat) : State :=
  match s.sw.quotaWaits.find? (fun w => decide (w.quota = t)) with
  | none => s
  | some w =>
    if s.quotaFree t < w.frame.cells + w.frame.rspRoom then s
    else
      let s1 : State := { s with sw := { s.sw with quotaWaits := s.sw.quotaWaits.erase w } }
      let s2 := s1.bump O.quotaDeferrals
      if w.injected then s2.keepFrame w.frame
      else (s2.countDeferral w.frame.tenant .bufferQuota).keepFrame
        { w.frame with defer := if w.frame.defer = .none then .bufferQuota else w.frame.defer }

def execQuotaAdmit (tenant : Nat) (s : State) : Result :=
  .next (s.begin.whenRunning (fun t => t.quotaAdmit (ownerIx tenant)))

/-- A port frame has waited quota_wait_ns (R238). -/
def execQuotaWaitExpiry (tenant : Nat) (s : State) : Result :=
  .next (s.begin.whenRunning (fun t =>
    match t.sw.quotaWaits.find? (fun w => decide (w.quota = ownerIx tenant) && !w.injected) with
    | none => t
    | some w =>
      let t1 : State := { t.elapse w.deadline with sw := { t.sw with quotaWaits := t.sw.quotaWaits.erase w } }
      (t1.bump O.quotaRefusals).refuseArrival w.frame .nospace .bufferQuota))

/-- A local frame enters through hub injection port i (R258, R238): class 0 takes the port; any other frame needs its owner's grant,
which covers the one frame. A response uses the room its request reserved. -/
def State.injectFrame (s : State) (i : Nat) (f : Frame) : State :=
  let k := ArbKind.inject i
  if 14 ≤ i ∨ !s.arbPresent k ∨ 2 ≤ f.kind then s
  else if f.tc = 0 ∧ f.kind = 0 then
    match s.staticSlot (BitVec.ofNat 64 (fieldAt f.header 0 8)) none with
    | none => s
    | some n => s.admitStatic f n
  else if s.arbGrant k ≠ some (ownerIx f.tenant) then s
  else
    let s1 := s.arbDrop k
    if f.kind = 1 then s1.keepFrame f else s1.admitFrame f

def execInjectionFrame (hub : Nat) (header payload : List Byte) (s : State) : Result :=
  .next (s.begin.whenRunning (fun t => t.injectFrame hub (frameOf header payload)))

/-! ### Link groups (R247-R250) -/

def State.group (s : State) (g : Nat) : LinkGroup := Store.read ({} : LinkGroup) s.sw.groups g
def State.setGroup (s : State) (g : Nat) (x : LinkGroup) : State :=
  { s with sw := { s.sw with groups := Store.write ({} : LinkGroup) s.sw.groups g x } }
def State.bucket (s : State) (k : Nat) : Bucket := Store.read ({} : Bucket) s.sw.buckets k
def State.setBucket (s : State) (k : Nat) (x : Bucket) : State :=
  { s with sw := { s.sw with buckets := Store.write ({} : Bucket) s.sw.buckets k x } }

/-- Members of a group, 36 bits, and the group of a port. -/
def State.lgMask (s : State) (g : Nat) : Nat := s.reg (R.swcLgMembersLo g) 0 + 2 ^ 32 * s.reg (R.swcLgMembersHi g) 0
def State.groupOf (s : State) (p : Nat) : Option Nat := (List.range 32).find? (fun g => bitAt (s.lgMask g) p)

/-- A port trained in Opvitik mode (R247). -/
def State.trained (s : State) (p : Nat) : Bool := (s.port p).up && decide ((s.port p).mode = .opvitik)

/-- A member is live. -/
def State.lgLive (s : State) (g p : Nat) : Bool :=
  bitAt (s.lgMask g) p && s.trained p && decide ((s.group g).neighbour = some (s.port p).peerNode)
def State.liveMembers (s : State) (g : Nat) : List Nat := (List.range 36).filter (s.lgLive g)

/-- The bucket of a flow (R248). -/
def bucketOf (f : Frame) : Nat := crc16 (natLe 2 f.srcNode ++ natLe 2 f.dstNode ++ natLe 1 f.tc ++ natLe 2 f.label ++ [0]) % 256

/-- The pin table is filled (R249). -/
def State.fillPins (s : State) (g : Nat) : State :=
  let l := s.liveMembers g
  if l = [] then s
  else (List.range 256).foldl (fun (t : State) b => t.setBucket (256 * g + b)
    { t.bucket (256 * g + b) with port := l.getD (b % l.length) 0, valid := true }) s

/-- A member has finished training, or is judged again (R247): it fixes NEIGHBOUR, is live, or is a mismatch. -/
def State.judgeMember (s : State) (g p : Nat) : State :=
  let x := s.group g
  match x.neighbour with
  | none => (s.setGroup g { x with neighbour := some (s.port p).peerNode }).fillPins g
  | some n => if n = (s.port p).peerNode then s else s.bump32 O.lgNeighbourMismatch

/-- A port has finished training. -/
def State.lgTrained (s : State) (p : Nat) : State :=
  match s.groupOf p with
  | some g => s.judgeMember g p
  | none => s

/-- Entries of a port's lists, with their class. -/
def State.listOf (s : State) (p k : Nat) : List QEntry := Store.read [] s.sw.lists (16 * p + k)
def State.setList (s : State) (p k : Nat) (l : List QEntry) : State :=
  { s with sw := { s.sw with lists := Store.write [] s.sw.lists (16 * p + k) l } }

/-- Queued entries of a port that a rule names move to other ports, in list order, behind those there (R250 step 3). -/
def State.relink (s : State) (p : Nat) (to_ : QEntry → Option Nat) : State :=
  (List.range 16).foldl (fun (t : State) k =>
    let l := t.listOf p k
    let t1 := t.setList p k (l.filter (fun e => match to_ e with | some q => decide (q = p) | none => true))
    l.foldl (fun (u : State) e => match to_ e with
      | some q => if q = p then u else u.setList q k (u.listOf q k ++ [e])
      | none => u) t1) s

/-- Nothing refers to a frame any more: its cells, its descriptor and its credit are free (R234, R255). -/
def State.freeFrame (s : State) (n : Nat) : State :=
  match s.frame n with
  | none => s
  | some f =>
    if s.sw.lists.any (fun e => e.2.any (fun q => decide (q.frame = n))) then s
    else
      let s1 := s.setFrame n none
      match f.inPort with
      | some p => if f.kind = 1 then s1.creditBack p f.chan f.cells else s1
      | none =>
        if f.kind = 1 ∧ (f.op ≠ 2 ∨ fieldAt f.header 0 8 ≤ 4096 * f.index + f.bytes) then
          { s1 with sw := { s1.sw with rooms := s1.sw.rooms.filter (fun r => !(decide (r.node = f.dstNode) && decide (r.opid = f.opid))) } }
        else s1

/-! ### Multicast answers (R244) -/

/-- Branches in the order of R244: ports ascending, LOCAL last. -/
def branchLe : Branch → Branch → Bool
  | .here, .here => true
  | .here, .port _ => false
  | .port _, .here => true
  | .port a, .port b => decide (a ≤ b)

/-- The combined response of a multicast frame. -/
def combine (l : List (Branch × Response)) : Response :=
  let rs := (l.mergeSort (fun a b => branchLe a.1 b.1)).map (·.2)
  let bad := rs.find? (fun r => decide (r.status ≠ .ok))
  let late := rs.find? (fun r => decide (r.disp = .deferred))
  let load := (rs.map (·.load)).foldl max 0
  let st : Status := match bad with | some r => r.status | none => .ok
  let reason := match bad with
    | some r => r.reason
    | none => match late with | some r => r.reason | none => Reason.none
  let disp := if rs.all (fun r => decide (r.disp = .refused)) then Disp.refused
    else if late.isSome ∧ st = .ok then Disp.deferred else Disp.served
  { status := st, disp := disp, reason := reason, load := load }

/-- A response with its LOAD as it stands goes upstream. -/
def State.answerAs (s : State) (r : Req) (op : Nat) (a : Response) : State :=
  let s1 := if a.disp = .refused then s.countRefusal r.issuer.tenant a.reason else s
  let s2 := if r.posted ∧ a.status ≠ .ok then s1 else s1.closeOp r.issuer r.posted r.seq
  (if r.posted ∧ a.status = .ok then s2 else s2.emit (.response r op a)).wake

/-- A branch has answered; when all have, the combined response goes upstream (R244). -/
def State.branchAnswer (s : State) (n : Nat) (b : Branch) (r : Response) : State :=
  match s.sw.mcWaits.find? (fun w => decide (w.frame = n)) with
  | none => s
  | some w =>
    if !w.branches.contains b ∨ w.answers.any (fun a => decide (a.1 = b)) then s
    else
      let w1 : McWait := { w with answers := w.answers ++ [(b, r)] }
      let rest := s.sw.mcWaits.filter (fun x => decide (x.frame ≠ n))
      if w1.answers.length < w1.branches.length then { s with sw := { s.sw with mcWaits := rest ++ [w1] } }
      else ({ s with sw := { s.sw with mcWaits := rest } } : State).answerAs w.req w.op (combine w1.answers)

def execMulticastBranchAck (frame : Nat) (port : Option Nat) (r : Response) (s : State) : Result :=
  .next (s.begin.whenRunning (fun t =>
    t.branchAnswer frame (match port with | some p => .port p | none => .here) r))

/-! ### Losses (R250, R469) -/

/-- A frame ends with a STATUS toward its issuer, or its branch does. -/
def State.endFrame (s : State) (f : Frame) (p : Nat) (branch : Option Nat) (st : Status) (disp : Disp) : State :=
  let r : Response := { status := st, disp := disp }
  match branch with
  | some n => s.branchAnswer n (.port p) r
  | none => if f.kind = 2 ∨ f.index ≠ 0 then s else s.respond (s.reqOf f) f.op r

/-- Frames sent on a port and not link-acknowledged end with E_LINK (R250 step 1). -/
def State.endSent (s : State) (p : Nat) : State :=
  let l := Store.read [] s.sw.sent p
  let s1 : State := { s with sw := { s.sw with sent := Store.write [] s.sw.sent p [] } }
  l.foldl (fun (t : State) e => t.endFrame e.frame p e.branch .link .served) s1

/-- Frames queued on a port's lists that a rule names end with E_LINK (R469). -/
def State.endQueued (s : State) (p : Nat) (ends : QEntry → Bool) : State :=
  (List.range 16).foldl (fun (t : State) k =>
    let l := t.listOf p k
    (l.filter ends).foldl (fun (u : State) e => match u.frame e.frame with
      | some f =>
        let mc := u.sw.mcWaits.any (fun w => decide (w.frame = e.frame))
        (u.endFrame f p (if mc then some e.frame else none) .link .served).freeFrame e.frame
      | none => u) (t.setList p k (l.filter (fun e => !(ends e))))) s

/-- A queued entry of a link group's bucket. -/
def QEntry.ofGroup (g : Nat) (e : QEntry) : Bool := match e.bucket with
  | some k => decide (k / 256 = g)
  | none => false

/-- Buckets of a group pinned to a lost port move to the members left (R250 steps 2 and 3). -/
def State.moveBuckets (s : State) (g p : Nat) (l : List Nat) : State :=
  let lost := (List.range 256).filter (fun b => (s.bucket (256 * g + b)).valid && decide ((s.bucket (256 * g + b)).port = p))
  let s1 := ((List.range lost.length).zip lost).foldl (fun (t : State) e =>
    let x := t.bucket (256 * g + e.2)
    t.setBucket (256 * g + e.2) { x with port := l.getD (e.1 % l.length) 0, epoch := (x.epoch + 1) % 16, gap := true }) s
  (s1.relink p (fun e => match e.bucket with
    | some k => if k / 256 = g then some (s1.bucket k).port else none
    | none => none)).bumpN O.repins lost.length

/-- A member that was live is lost: its buckets move; with no live member left NEIGHBOUR is unset and the trained members are judged
again (R247, R250). -/
def State.memberLost (s : State) (g p : Nat) : State :=
  let x := s.group g
  if x.moving then s.setGroup g { x with deferred := x.deferred ++ [p] }
  else
    let l := (s.liveMembers g).filter (· ≠ p)
    if l ≠ [] then s.moveBuckets g p l
    else
      let s1 := (List.range 256).foldl (fun (t : State) b => t.setBucket (256 * g + b)
        { t.bucket (256 * g + b) with valid := false }) (s.setGroup g { x with neighbour := none })
      let again := (List.range 36).filter (fun q => decide (q ≠ p) && bitAt (s.lgMask g) q && s.trained q)
      let s2 := again.foldl (fun (t : State) q => t.judgeMember g q) s1
      if s2.liveMembers g = [] then s2
      else s2.relink p (fun e => match e.bucket with
        | some k => if k / 256 = g then some (s2.bucket k).port else none
        | none => none)

/-- A port carries no traffic any more, with the state already changed: `live` says whether it was a live member of its group. The
group's frames stay queued there while its loss waits for the end of a rebalance (R252). -/
def State.portGone (s : State) (p : Nat) (live : Bool) : State :=
  let s1 := s.endSent p
  let s2 := match s1.groupOf p with
    | some g => if live then s1.memberLost g p else s1
    | none => s1
  let waits := fun (e : QEntry) => match s2.groupOf p with
    | some g => e.ofGroup g && (s2.group g).deferred.contains p
    | none => false
  let s3 := s2.endQueued p (fun e => !(waits e))
  { s3 with sw := { s3.sw with
    headroom := Store.write 0 s3.sw.headroom p 0
    credits := s3.sw.credits.filter (fun e => decide (e.1 / 16 ≠ p)) } }

/-! ### Routes and the turn rule (R246, R256) -/

/-- The route entry of a NODE: KIND and INDEX. -/
def State.routeEntry (s : State) (n : Nat) : Nat × Nat :=
  let h := s.reg (R.swcRoute (n / 2)) 0 / 2 ^ (16 * (n % 2))
  (bitsOf h 7 6, bitsOf h 5 0)

/-- The port a frame to a NODE takes and its bucket, or none. -/
def State.routePort (s : State) (f : Frame) : Option (Nat × Option Nat) :=
  let r := s.routeEntry f.dstNode
  if r.1 = 1 then some (r.2, none)
  else if r.1 = 2 then
    let k := 256 * r.2 + bucketOf f
    if (s.bucket k).valid then some ((s.bucket k).port, some k) else none
  else none

/-- The key of a DZM (R256), and the direction of a hop onto a port. -/
def nodeKey (rank node : Nat) : Nat := rank * 65536 + node
def State.dirTo (s : State) (p : Nat) : Dir :=
  let x := s.port p
  if x.peerEndpoint ∨ x.mode ≠ .opvitik then .none
  else if nodeKey x.peerRank x.peerNode < nodeKey (s.num O.switchRank 0) s.nodeId then .up else .down

/-- What linking onto a port comes to. -/
inductive LinkOut where | linked | refused (st : Status) | turn
  deriving DecidableEq, Repr

/-- A tenant's frame may leave on a port only encrypted, where it requires that (R440). -/
def State.plainOk (s : State) (f : Frame) (p : Nat) : Bool :=
  decide (64 ≤ f.tenant) || !(s.tenant f.tenant).requireEnc || (s.crypt p).active

/-- A frame is linked onto its list of a port (R240, R256). -/
def State.linkOn (s : State) (f : Frame) (p : Nat) (bucket : Option Nat) : LinkOut × State :=
  if !(s.port p).up then (.refused .link, s)
  else if !s.plainOk f p then (.refused .access, s)
  else
    let d := s.dirTo p
    let turn := decide (f.lastDir = .down) && decide (d = .up)
    if turn && f.esc then (.turn, (s.bump O.turnViolations).fault 0x04 (s.path (.port p)) p)
    else
      let esc := f.esc || turn
      let s1 := if turn then s.bump O.escapeEntries else s
      (.linked, s1.setList p f.tc (s1.listOf p f.tc ++ [
        { frame := f.id, chan := f.chan.on esc, esc := esc, dir := if d = .none then f.lastDir else d, bucket := bucket, since := s.now }]))

/-- A response discarded on a turn violation: its operation ends with E_TIMEOUT when the posted lifetime has passed (R256). -/
def State.discardResponse (s : State) (f : Frame) : State :=
  { s with sw := { s.sw with discarded := s.sw.discarded ++ [(s.reqOf f, f.op, s.now + usUnits (s.num O.postedLifetimeUs 16000))] } }

/-- A unicast frame for another node is routed (R246, R247, R256, R440, R469). -/
def State.linkUnicast (s : State) (f : Frame) : State :=
  let way := if f.slot.isSome then
      (f.slot.bind (fun n => (s.slot n).image.bind (fun i => (i.layout.find? (fun d =>
        decide (d.dest = BitVec.ofNat 64 (fieldAt f.header 0 8)))).bind (·.port)))).map (fun p => (p, none))
    else s.routePort f
  match way with
  | none => ((s.bump O.unroutable).refuseFrame f .range).freeFrame f.id
  | some (p, b) =>
    let r := s.linkOn f p b
    match r.1 with
    | .linked => r.2.setFrame f.id (some { f with linked := true })
    | .refused st => (r.2.refuseFrame f st).freeFrame f.id
    | .turn => if f.kind = 0 then (r.2.refuseFrame f .range).freeFrame f.id else (r.2.discardResponse f).freeFrame f.id

/-- Branches of a group entry, without the port of arrival (R242). -/
def McEntry.branches (e : McEntry) (inPort : Option Nat) : List Branch :=
  ((List.range 36).filter (fun p => bitAt e.ports p && decide (inPort ≠ some p))).map .port ++ (if e.here then [.here] else [])

/-- A multicast frame is replicated (R242, R243); `here` is its delivery to this DZM's own regions. -/
def State.linkMulticast (s : State) (f : Frame) (here : Frame → State → State) : State :=
  let e := Store.read ({} : McEntry) s.sw.mcast (f.dstNode - 0xF000)
  let r := s.reqOf f
  if !e.valid then (s.refuseFrame f .range).freeFrame f.id
  else if e.owner ≠ 0xFF ∧ e.owner ≠ f.tenant then (s.refuseFrame f .access).freeFrame f.id
  else if f.hops = 15 then ((s.bump O.mcHopDrops).respond r f.op (served .range)).freeFrame f.id
  else
    let bs := e.branches f.inPort
    let g : Frame := { f with hops := f.hops + 1, linked := true }
    if bs = [] then (s.respond r f.op (served) (.depth 0 1)).freeFrame f.id
    else
      let s1 : State := { s.setFrame f.id (some g) with sw := { (s.setFrame f.id (some g)).sw with
        mcWaits := if f.index = 0 then s.sw.mcWaits ++ [{ frame := f.id, req := r, op := f.op, branches := bs, answers := [] }]
          else s.sw.mcWaits } }
      let s2 := bs.foldl (fun (t : State) b => match b with
        | .here => here g t
        | .port p =>
          let k := t.linkOn g p none
          match k.1 with
          | .linked => k.2
          | .refused st => k.2.branchAnswer f.id b (refusal st)
          | .turn => k.2.branchAnswer f.id b (refusal .range)) (s1.bumpN O.mcBranches bs.length)
      s2.freeFrame f.id

/-! ### The local ordering point (R233, R240, R251, R464) -/

/-- Data bytes of a request of several frames, or of one: known by its OP and LENGTH, else its last frame is the one that is not full
(R233). -/
def Frame.ends (f : Frame) (payload : Nat) : Bool :=
  if f.kind = 0 then match dataOf f.op f.length with
    | some d => decide ((if f.operands then 32 else 0) + d ≤ payload)
    | none => decide (f.bytes < 4096)
  else decide (f.op ≠ 2) || decide (fieldAt f.header 0 8 ≤ payload)

/-- The operation of a request that has arrived whole: its operand block and its data (R464). -/
def State.operationOf (s : State) (f : Frame) (payload : List Byte) : Operation :=
  let block := if f.operands then payload.take 32 else []
  { op := f.op, req := s.reqOf f, length := f.length, data := if f.operands then payload.drop 32 else payload
    operand1 := BitVec.ofNat 64 (fieldAt block 0 8), operand2 := BitVec.ofNat 64 (fieldAt block 8 8)
    sync := bitsOf (fieldAt f.header 24 4) 30 17, params := sliceB block 16 16 }

/-- The response a response header and its data spell (R73, R82). -/
def responseOf (f : Frame) (data : List Byte) : Response :=
  let w := fieldAt f.header 24 4
  deferredBy f.defer {
    status := statusOf (bitsOf w 7 0), disp := if bitsOf w 9 8 = 0 then .served else if bitsOf w 9 8 = 1 then .deferred else .refused
    reason := reasonOf (bitsOf w 13 10), load := bitsOf w 17 14, result := BitVec.ofNat 64 (fieldAt f.header 0 8), data := data
    detail := fieldAt f.header 11 1, injected := bitAt w 19 }

/-- The replicated frame that a branch's response answers, and its port (R244). -/
def State.branchOf (s : State) (f : Frame) : Option (Nat × Nat) :=
  f.inPort.bind (fun p => (s.sw.mcWaits.find? (fun w => decide (w.op = f.op) && decide (w.req.seq = f.opid) &&
    decide (w.req.issuer.node = f.dstNode) && w.branches.contains (.port p) && !(w.answers.any (fun a => decide (a.1 = .port p))))).map
      (fun w => (w.frame, p)))

/-- A request whole at its ordering point becomes an operation, a response goes to its issuer. `copy` names the multicast frame it is a
copy of: its TARGET's NODE is then this DZM's. -/
def State.deliverWhole (s : State) (f : Frame) (copy : Option Nat) (payload : List Byte) : State :=
  if f.kind = 0 then
    let o := s.operationOf f payload
    match copy with
    | none => s.emit (.operation o)
    | some n => s.emit (.operation { o with req := { o.req with
        copy := some n, target := BitVec.ofNat 64 (s.nodeId * 2 ^ 48 + o.req.target.toNat % 2 ^ 48) } })
  else s.emit (.response (s.reqOf f) f.op (responseOf f payload))

/-- A frame comes to the local ordering point: an operation of several frames waits for its last (R233). -/
def State.deliverFrame (s : State) (f : Frame) (copy : Option Nat) : State :=
  let node := if f.kind = 0 then f.srcNode else f.dstNode
  let mine := f.partOf
  let drop_ := fun (t : State) => { t with sw := { t.sw with partials := t.sw.partials.filter (fun x => !(mine x)) } }
  let keep := fun (t : State) (first : Frame) (d : List Byte) =>
    { drop_ t with sw := { (drop_ t).sw with
      partials := (drop_ t).sw.partials ++ [{ kind := f.kind, node := node, opid := f.opid, first := first, data := d }] } }
  if f.index = 0 then
    if f.ends f.bytes then s.deliverWhole f copy f.payload else keep s f f.payload
  else match s.sw.partials.find? mine with
    | none => s
    | some x =>
      if x.data.length ≠ 4096 * f.index then s
      else
        let d := x.data ++ f.payload
        if f.ends d.length then (drop_ s).deliverWhole { x.first with defer := if x.first.defer = .none then f.defer else x.first.defer } copy d
        else keep s x.first d

/-- An endpoint's request enters the span here: it is open until its outcome is known, and counted when posted (R88). -/
def State.countEntry (s : State) (f : Frame) : State :=
  if f.kind = 0 ∧ f.index = 0 ∧ f.inPort.isSome ∧ !f.fromDzm then
    let r := s.reqOf f
    (if f.posted then s.countIssued r.issuer else s).openOp r f.op
  else s

/-- An endpoint's operation is open no more once its response has been passed on (R64). -/
def State.closeEntry (s : State) (f : Frame) : State :=
  if f.kind = 1 ∧ (f.op ≠ 2 ∨ fieldAt f.header 0 8 ≤ 4096 * f.index + f.bytes) then
    let i := (s.reqOf f).issuer
    (s.closeOp i false f.opid).wake
  else s

/-- A frame is linked onto the list of its port, onto those of its branches, or into the local ordering point (R240). -/
def State.linkFrame (s : State) (f : Frame) : State :=
  if f.linked then s
  else if f.kind = 0 ∧ isMulticast f.dstNode then
    (s.countEntry f).linkMulticast f (fun g t =>
      (if g.gap then t.bump O.gapsReceived else t).deliverFrame g (some g.id))
  else if !(s.isHere f.dstNode) then
    match s.branchOf f with
    | some (n, p) => (s.branchAnswer n (.port p) (responseOf f f.payload)).freeFrame f.id
    | none => ((s.countEntry f).closeEntry f).linkUnicast f
  else
    let s1 := if f.gap then s.bump O.gapsReceived else s
    let s2 := match f.slot, s1.branchOf f with
      | some n, _ => s1.staticArrival n (BitVec.ofNat 64 (fieldAt f.header 0 8)) f.payload
      | none, some (n, p) => s1.branchAnswer n (.port p) (responseOf f f.payload)
      | none, none => s1.deliverFrame f none
    s2.freeFrame f.id

def execFrameLink (frame : Nat) (s : State) : Result :=
  .next (s.begin.whenRunning (fun t =>
    match t.frame frame with
    | some f => t.linkFrame f
    | none => t))

/-! ### Egress (R241, R264, R265, R276, R287) -/

/-- Credit for the whole frame on its channel; the first 128 of REQ are class 0's (R255). -/
def State.creditFor (s : State) (p k : Nat) (e : QEntry) (cells : Nat) : Bool :=
  decide ((s.port p).mode ≠ .opvitik) ||
  decide (max 1 cells + (if e.chan = .req ∧ k ≠ 0 then 128 else 0) ≤ Store.read 0 s.sw.credits (16 * p + e.chan.code))

/-- Flits a frame takes. -/
def Frame.flits (f : Frame) : Nat := ceilDiv (32 + f.bytes) 240

/-- The entry of a list that may go: the oldest head of a channel's sub-list with credit, and, on an Opvitik port, room in the replay
buffer; a frame of a bucket on the move holds its sub-list (R241, R252, R467). -/
def State.headOf (s : State) (p k : Nat) : Option (QEntry × Frame) :=
  let l := s.listOf p k
  let heads := ((List.range l.length).zip l).filterMap (fun (e : Nat × QEntry) =>
    if (l.take e.1).any (fun q => decide (q.chan = e.2.chan)) then none else (s.frame e.2.frame).map (fun f => (e.2, f)))
  heads.find? (fun e => s.creditFor p k e.1 e.2.cells &&
    (match e.1.bucket with | some b => (s.bucket b).moving.isNone | none => true) &&
    (decide ((s.port p).mode ≠ .opvitik) || decide (e.2.flits ≤ (s.port p).room)))

/-- TRF_LIST_SHAPER_k (R289); list 0 has none. -/
def State.listShaper (s : State) (p k : Nat) : Option Nat :=
  let v := s.reg (R.trfListShaper p (k - 1)) 0
  if k ≠ 0 ∧ bitAt v 16 then some (v % 65536) else none
def State.listOk (s : State) (p k : Nat) : Bool :=
  match s.listShaper p k with
  | some n => s.eligible n
  | none => true
def State.listReady (s : State) (p k : Nat) : Bool := s.listOk p k && (s.headOf p k).isSome

/-- Bytes a frame costs (R265). -/
def Frame.cost (f : Frame) : Nat := 32 + f.bytes

/-- The class served at a frame boundary, with the egress state after the choice (R264, R265). -/
def State.egressPick (s : State) (p : Nat) : Option (Nat × Egress) :=
  let eg := Store.read ({} : Egress) s.traffic.egress p
  let ok := fun k => s.classOpen p k && s.listReady p k
  match (List.range 4).find? ok with
  | some k => some (k, eg)
  | none =>
    let ready := ((List.range 12).map (· + 4)).filter ok
    let cost := fun k => match s.headOf p k with | some e => e.2.cost | none => 0
    let quantum := fun k => s.reg (R.trfQuantum p (k - 4)) 65 * 64
    match drrPick ready cost quantum 1000 eg.deficits eg.pointer eg.added with
    | some (k, d, ptr, added) => some (k, { deficits := d, pointer := ptr, added := added })
    | none => none

/-- Waiting entries note what they wait for at this boundary (R262, R287). -/
def State.markWaits (s : State) (p : Nat) : State :=
  (List.range 15).foldl (fun (t : State) j =>
    let k := j + 1
    let why := if !(s.classOpen p k) then Reason.staticWindow else if !(s.listOk p k) then Reason.hostCap
      else if (s.port p).state = .recovery then Reason.linkReplay else Reason.none
    t.setList p k ((t.listOf p k).map (fun e =>
      if e.waited ≠ .none then e else if why = .none then { e with passed := true } else { e with waited := why }))) s

/-- The GAP bit a frame carries on this hop, and its note taken (R246, R250 step 4). -/
def State.takeGap (s : State) (f : Frame) (e : QEntry) : Bool × State :=
  match e.bucket with
  | some k => if (s.bucket k).gap then (true, s.setBucket k { s.bucket k with gap := false }) else (false, s)
  | none =>
    match s.sw.routeGaps.find? (fun g => decide (g.1 = f.dstNode)) with
    | some g => if g.2.contains (bucketOf f) then (false, s)
      else (true, { s with sw := { s.sw with routeGaps := s.sw.routeGaps.map (fun x =>
        if x.1 = f.dstNode then (x.1, bucketOf f :: x.2) else x) } })
    | none => (false, s)

/-- One entry's frame leaves on a port. -/
def State.sendEntry (s : State) (p k : Nat) (e : QEntry) (f : Frame) : State :=
  let late := if e.waited ≠ .none then e.waited
    else if e.passed ∧ nsUnits (s.num O.beDeferNs 10000) < s.now - e.since then Reason.bestEffort else Reason.none
  let why := if k = 0 then Reason.none else late
  let g := s.takeGap f e
  let f1 : Frame := { f with
    esc := e.esc, lastDir := e.dir, gap := f.gap || g.1, defer := if f.defer = .none then why else f.defer
    repin := match e.bucket with | some b => (s.bucket b).epoch | none => 0 }
  let s1 := (g.2.countDeferral f.tenant why).meter f.tenant 0x08 f.cost
  let s2 := s1.setList p k ((s1.listOf p k).erase e)
  let s3 := match s2.listShaper p k with
    | some n => s2.charge n f.cost
    | none => s2
  let s4 : State := if (s3.port p).mode = .opvitik then
      let key := 16 * p + e.chan.code
      let r := s3.txFrame p e.chan.code (f1.wire ++ f1.payload)
      let mc := s3.sw.mcWaits.any (fun w => decide (w.frame = e.frame))
      { r.2 with sw := { r.2.sw with
        credits := Store.write 0 r.2.sw.credits key (Store.read 0 r.2.sw.credits key - max 1 f.cells)
        sent := Store.write [] r.2.sw.sent p (Store.read [] r.2.sw.sent p ++ [
          { frame := f1, bucket := e.bucket, branch := if mc then some e.frame else none, lastSeq := r.1 }]) } }
    else s3
  let s5 := if f.kind = 0 ∧ !f.posted ∧ f.index = 0 ∧ !(s4.trusted p) then
      s4.setPort p { s4.port p with expect := (s4.port p).expect ++ [(f.opid, s4.reqOf f)] }
    else s4
  (s5.emit (.frame p f.id f.cost)).freeFrame f.id

/-- A frame boundary of an egress port (R264). -/
def State.egressBoundary (s : State) (p : Nat) : State :=
  if !(s.port p).up then s
  else
    match s.egressPick p with
    | none =>
      let s1 := s.markWaits p
      if (s.port p).mode = .opvitik ∧ (s.port p).room = 0 then s1.bump (O.portReplayBufferStalls p) else s1
    | some (k, eg) =>
      match s.headOf p k with
      | none => s
      | some (e, f) =>
        let s1 : State := { s with traffic := { s.traffic with egress := Store.write ({} : Egress) s.traffic.egress p eg } }
        let s2 := (s1.sendEntry p k e f).markWaits p
        if 4 ≤ k ∧ s2.listOf p k = [] then
          { s2 with traffic := { s2.traffic with
            egress := Store.write ({} : Egress) s2.traffic.egress p { eg with deficits := Store.write 0 eg.deficits k 0 } } }
        else s2

def execEgressFrameBoundary (port : Nat) (s : State) : Result :=
  .next (s.begin.whenRunning (fun t => t.egressBoundary port))

/-! ### Registers (R239, R245-R247, R252, R260) -/

/-- A write of SWC_MC_HI: the entry takes effect with the low word staged for the writer (R245, R514). -/
def State.mcWrite (s : State) (i : Issuer) (n v : Nat) : State :=
  let k := s.takeLo i (R.swcMcLo n)
  let old := Store.read ({} : McEntry) s.sw.mcast n
  let mask := k.1.getD (old.ports % 2 ^ 32) + 2 ^ 32 * bitsOf v 3 0
  let own := bitsOf v 15 8
  let bad := if bitsOf v 7 6 ≠ 0 ∨ bitsOf v 31 16 ≠ 0 ∨ (64 ≤ own ∧ own ≠ 0xFF) ∨ 2 ^ portCount s.chip.variant ≤ mask then
    some (refusal .rsvd) else none
  k.2.openWrite (.csr i) (R.swcMcHi n) bad (fun u => { u with sw := { u.sw with
    mcast := Store.write ({} : McEntry) u.sw.mcast n { ports := mask, here := bitAt v 4, valid := bitAt v 5, owner := own } } })

def execMcEntryWrite (i : Issuer) (n : Nat) (v : Word32) (s : State) : Result :=
  .next (s.begin.whenRunning (fun t => t.mcWrite i n v.toNat))

/-- A write of SWC_QUOTA_t (R236, R239). -/
def State.quotaWrite (s : State) (i : Issuer) (t v : Nat) : State :=
  let bad := if bitsOf v 31 19 ≠ 0 ∨ 65 ≤ t then some (refusal .rsvd)
    else if s.quotaCells t + s.cellsUnassigned < v then some (refusal .param) else none
  s.openWrite (.csr i) (R.swcQuota t) bad (fun u => u.setReg (R.swcQuota t) v)

def execQuotaWrite (i : Issuer) (t : Nat) (v : Word32) (s : State) : Result :=
  .next (s.begin.whenRunning (fun u => u.quotaWrite i t v.toNat))

/-- A group's new member mask takes effect: removed live members are lost, trained ports added are judged (R247), once: the loss of the
last live member judges them all. -/
def State.lgSet (s : State) (g mask : Nat) : State :=
  let gone := (s.liveMembers g).filter (fun p => !(bitAt mask p))
  let added := (List.range 36).filter (fun p => bitAt mask p && !(bitAt (s.lgMask g) p) && s.trained p)
  let s1 := (s.setReg (R.swcLgMembersLo g) (mask % 2 ^ 32)).setReg (R.swcLgMembersHi g) (mask / 2 ^ 32)
  let waits := (s.group g).moving
  let s2 := gone.foldl (fun (t : State) p =>
    let u := (t.endSent p).memberLost g p
    if waits then u else u.endQueued p (·.ofGroup g)) s1
  let judged := !waits && !gone.isEmpty && !((s.liveMembers g).any (bitAt mask))
  if judged then s2 else added.foldl (fun (t : State) p => t.judgeMember g p) s2

/-- A write of SWC_LG_MEMBERS (R247, R260): the mask takes effect at the high word (R514). -/
def State.lgMembersWrite (s : State) (i : Issuer) (g : Nat) (hi : Bool) (v : Nat) : State :=
  if !hi then s.openWrite (.csr i) (R.swcLgMembersLo g) none (fun u => u.stageLo i (R.swcLgMembersLo g) v)
  else
    let k := s.takeLo i (R.swcLgMembersLo g)
    let mask := k.1.getD (s.lgMask g % 2 ^ 32) + 2 ^ 32 * bitsOf v 3 0
    let ports := (List.range 36).filter (bitAt mask)
    let bad := if bitsOf v 31 4 ≠ 0 then some (refusal .rsvd)
      else if ports.any (fun p => !(s.present (.port p)) || (List.range 32).any (fun h => decide (h ≠ g) && bitAt (s.lgMask h) p)) ∨
          16 < ports.length then some (refusal .param)
      else none
    k.2.openWrite (.csr i) (R.swcLgMembersHi g) bad (fun u => u.lgSet g mask)

def execLgMembersWrite (i : Issuer) (g : Nat) (hi : Bool) (v : Word32) (s : State) : Result :=
  .next (s.begin.whenRunning (fun u => u.lgMembersWrite i g hi v.toNat))

/-- Frames of a bucket sent on a port and not acknowledged. -/
def State.bucketSent (s : State) (p k : Nat) : Bool := (Store.read [] s.sw.sent p).any (fun e => decide (e.bucket = some k))

/-- A rebalance (R252): the pin table is filled again; a bucket that changes its port takes its queued frames along, and they wait
until those sent on the old port are settled. -/
def State.rebalance (s : State) (g : Nat) : State :=
  let l := s.liveMembers g
  if l = [] then s
  else
    let moved := (List.range 256).filter (fun b =>
      (s.bucket (256 * g + b)).valid && decide ((s.bucket (256 * g + b)).port ≠ l.getD (b % l.length) 0))
    let s2 := moved.foldl (fun (t : State) b =>
      let x := s.bucket (256 * g + b)
      (t.setBucket (256 * g + b) { x with
        port := l.getD (b % l.length) 0, epoch := (x.epoch + 1) % 16, gap := true
        moving := if t.bucketSent x.port (256 * g + b) then some x.port else none })) (s.fillPins g)
    let s3 := l.foldl (fun (t : State) p => t.relink p (fun e => match e.bucket with
      | some k => if k / 256 = g then some (t.bucket k).port else none
      | none => none)) s2
    (s3.setGroup g { s3.group g with moving := (List.range 256).any (fun b => (s3.bucket (256 * g + b)).moving.isSome) }).bumpN
      O.repins moved.length

def execLgRebalance (a : Access) (g : Nat) (s : State) : Result :=
  .next (s.begin.whenRunning (fun t =>
    t.openWrite a R.swcLgCmd (if 32 ≤ g then some (refusal .rsvd) else if (t.group g).moving then some (refusal .busy) else none)
      (fun u => u.rebalance g) true))

/-- The rebalance ends once no frame of a moved bucket sent on its old port is open; losses that waited are handled (R252). -/
def State.rebalanceDone (s : State) (g : Nat) : State :=
  let x := s.group g
  let open_ := (List.range 256).any (fun b => match (s.bucket (256 * g + b)).moving with
    | some p => s.bucketSent p (256 * g + b)
    | none => false)
  if !x.moving ∨ open_ then s
  else
    let s1 := (List.range 256).foldl (fun (t : State) b => t.setBucket (256 * g + b) { t.bucket (256 * g + b) with moving := none })
      (s.setGroup g { x with moving := false, deferred := [] })
    x.deferred.foldl (fun (t : State) p => (t.memberLost g p).endQueued p (·.ofGroup g)) s1

def execLgRebalanceComplete (g : Nat) (s : State) : Result :=
  .next (s.begin.whenRunning (fun t => t.rebalanceDone g))

/-- Queued frames of a NODE whose route has changed move to the port of the new one (R246, R250 steps 2-4). -/
def State.rerouteNode (s : State) (n : Nat) : State :=
  let at_ := fun (e : QEntry) => match s.frame e.frame with
    | some f => if f.dstNode = n ∧ f.slot.isNone then
        (match s.routePort f with
          | some (p, _) => if (s.port p).up then some p else none
          | none => none) else none
    | none => none
  let s1 := (List.range 36).foldl (fun (t : State) p => t.relink p at_) s
  let lists := s1.sw.lists.map (fun l => (l.1, l.2.map (fun e => match at_ e, s.frame e.frame with
    | some p, some f => if p = l.1 / 16 then { e with bucket := (s.routePort f).bind (·.2), dir := if s.dirTo p = .none then e.dir else s.dirTo p } else e
    | _, _ => e)))
  { s1 with sw := { s1.sw with
    lists := lists
    routeGaps := s1.sw.routeGaps.filter (fun g => decide (g.1 ≠ n)) ++ [(n, [])] } }

/-- A write of SWC_ROUTE_w (R246, R260). -/
def State.routeWrite (s : State) (i : Issuer) (w v : Nat) : State :=
  let half := fun (h : Nat) => bitsOf v (16 * h + 7) (16 * h)
  let badHalf := fun (x : Nat) => decide (x / 64 = 3) || (decide (x / 64 = 1) && decide (portCount s.chip.variant ≤ x % 64)) ||
    (decide (x / 64 = 2) && decide (32 ≤ x % 64))
  let bad := if 30720 ≤ w ∨ bitsOf v 15 8 ≠ 0 ∨ bitsOf v 31 24 ≠ 0 ∨ badHalf (half 0) ∨ badHalf (half 1) then some (refusal .rsvd) else none
  s.openWrite (.csr i) (R.swcRoute w) bad (fun u =>
    let old := fun (h : Nat) => u.routeEntry (2 * w + h)
    let u1 := u.setReg (R.swcRoute w) v
    [0, 1].foldl (fun (t : State) h =>
      if (old h).1 ≠ 0 ∧ (t.routeEntry (2 * w + h)).1 ≠ 0 ∧ old h ≠ t.routeEntry (2 * w + h) then t.rerouteNode (2 * w + h) else t) u1)

def execRouteWrite (i : Issuer) (n : Nat) (v : Word32) (s : State) : Result :=
  .next (s.begin.whenRunning (fun u => u.routeWrite i n v.toNat))

/-! ### Completions and samples -/

/-- The operation of a discarded response ends (R256). -/
def execDiscardedResponseTimeout (n : Nat) (s : State) : Result :=
  .next (s.begin.whenRunning (fun t =>
    match t.sw.discarded[n]? with
    | none => t
    | some (r, op, due) =>
      let t1 : State := { t.elapse due with sw := { t.sw with discarded := t.sw.discarded.eraseIdx n } }
      t1.respond r op (served .timeout)))

/-- The µs sample of cell_us (R500). -/
def execCellUsSample (s : State) : Result :=
  .next (s.begin.whenRunning (fun t =>
    let t1 := t.elapse ((t.now / 4000 + 1) * 4000)
    (List.range 65).foldl (fun (u : State) k => u.meter k 0x0F (u.quotaUsed k)) t1))

end Sys2Proof.Machine
end

