-- ==== Sys2Proof/Machine/Links.lean ====
section
/-! DEFINITION. Ports and links (chapter 14): modes, training, flits, replay, lanes, keys of a link, the loss and the fence of a
port. -/

namespace Sys2Proof.Machine

/-! ### A port goes down (R250, R371, R469, R555) -/

/-- A port as it stands when its link is down: what training and traffic had set is gone. -/
def Port.cleared (x : Port) (st : PortState) (now : Nat) : Port :=
  { x with
    state := st, since := now, retrainAt := none, width := 0, gen := 0, agreed := 0, peerNode := 0xFFFF, peerPort := 0
    peerEndpoint := false, peerRank := 0, nextSeq := 0, replay := [], lastAccepted := 4095, unacked := 0, awaited := none, nakDue := 0
    attempts := 0, resending := none, reasm := [], arrived := [], creditOwed := [], degrade := none
    expect := [], lanes := x.lanes.filterMap (fun e =>
      let l : Lane := { e.2 with inUse := false }
      if l = {} then none else some (e.1, l)) }

/-- The link of a port goes down to a state: frames end, its group loses it, encryption ends. -/
def State.portDown (s : State) (p : Nat) (st : PortState) : State :=
  let x := s.port p
  let live := match s.groupOf p with | some g => s.lgLive g p | none => false
  let s1 := (s.setPort p (x.cleared st s.now)).setCrypt p { s.crypt p with active := false, gpos := 0, recentFails := [] }
  let s2 := if x.up ∧ (st = .lost ∨ st = .disabled) then s1.bump32 (O.portLinkDowns p) else s1
  let s3 : State := { s2 with sec := { s2.sec with
    binds := Store.write ({} : PortBind) s2.sec.binds p { s2.bind p with peerDzm := false } } }
  if x.up then s3.portGone p live else s3

/-- The fence takes effect (R555): the link goes down as if ENABLE had been written 0. -/
def State.fenceNow (s : State) (p : Nat) : State :=
  let s1 := s.portDown p .disabled
  let s2 := s1.setPort p { s1.port p with enable := false }
  { s2 with faults := { s2.faults with fenced := s2.faults.fenced ||| BitVec.ofNat 36 (2 ^ p) } }

/-- A fault that fences a port (R553, R555, R557, R558): its record, and the fence, at once or at the halt of the plan whose gate
entries the port holds. -/
def State.portFence (s : State) (p code : Nat) : State :=
  if s.containing (.port p) true then s.fault code (s.path (.port p)) p
  else match s.slotOver (.port p) with
    | none => (s.fault code (s.path (.port p)) p 1).fenceNow p
    | some n =>
      let s1 := s.fault code (s.path (.port p)) p 5
      let s2 := { s1 with power := { s1.power with containWaits := s1.power.containWaits ++ [(p, true, n)] } }
      s2.issueHalt n .containment

/-- A port becomes LOST (R469): plans that use it halt, its caching agents are fenced, and it trains again 10 µs later; the fourth
entry into LOST within 1 s fences it (R553). -/
def State.portLost (s : State) (p : Nat) : State :=
  let x := s.port p
  let s1 := s.portDown p .lost
  let times := (x.lostAt.filter (fun t => decide (s.now < t + msUnits 1000))) ++ [s.now]
  let s2 := s1.setPort p { s1.port p with
    lastDown := .link, lostAt := times, retrainAt := if x.enable then some (s.now + usUnits 10) else none }
  let s3 := (s2.portEvent p .link).fault 0x01 (s2.path (.port p)) p 0 .link
  let s4 := (s3.coh.agents.filter (fun e => decide (e.2.kind ≠ 0) && !e.2.fenced && decide (e.2.port = p))).foldl
    (fun (t : State) e => t.fenceAgent e.1 true) s3
  let s5 := s4.liveSlots.foldl (fun (t : State) n => match (t.slot n).image with
    | some i => if i.linkPlan.any (fun l => decide (l.port = p)) then t.issueHalt n .linkLoss else t
    | none => t) s4
  if 4 ≤ times.length then s5.portFence p 0x03 else s5

/-- A training failure (R472): it is recorded and training starts again 10 ms later. -/
def State.trainFail (s : State) (p : Nat) (st : Status) : State :=
  (s.setPort p { s.port p with lastDown := st, retrainAt := some (s.now + msUnits 10) }).portEvent p st

/-! ### The mode register (R455, R471, R480) -/

/-- Training starts. -/
def State.startTraining (s : State) (p : Nat) : State :=
  s.setPort p { (s.port p).cleared .electrical s.now with lanes := [] }

/-- What refuses a write of PORT_MODE_CTL. -/
def State.portCtlBad (s : State) (p mode : Nat) (w8 en : Bool) : Option Status :=
  let x := s.port p
  let std := fun (m : Nat) => decide (m = 2) || decide (m = 3)
  let others := (List.range 36).filter (fun q => decide (q ≠ p) && std (s.port q).mode.code)
  if !s.present (.port p) ∨ 4 ≤ mode then some .rsvd
  else if x.enable ∧ (mode ≠ x.mode.code ∨ w8 ≠ x.width8) then some .busy
  else if w8 ∧ std mode then some .param
  else if std mode ∧ 16 ≤ others.length then some .nospace
  else if en ∧ s.faults.fenced.getLsbD p then some .access
  else none

/-- A write of PORT_MODE_CTL, guarded, by the management domain. -/
def State.portCtl (s : State) (a : Access) (p mode : Nat) (w8 en retrain : Bool) : State :=
  s.mgmtWrite a (R.portModeCtl p) ((s.portCtlBad p mode w8 en).map (fun st => refusal st)) (fun t =>
    let x := t.port p
    let m := [PortMode.disabled, .opvitik, .cxl, .pcie].getD mode .disabled
    let t1 := t.setPort p { x with mode := m, width8 := w8, enable := en }
    if !en then
      if x.enable then t1.portDown p .disabled else t1
    else if m = .disabled then t1
    else if !x.enable then t1.startTraining p
    else if retrain then ((t1.emit (.linkMsg p [0x03])).portDown p .electrical).startTraining p
    else t1) true

def execPortModeWrite (a : Access) (port mode : Nat) (width8 : Bool) (s : State) : Result :=
  .next (s.begin.whenRunning (fun t => t.portCtl a port mode width8 (t.port port).enable false))

def execPortEnable (i : Issuer) (port : Nat) (s : State) : Result :=
  .next (s.begin.whenRunning (fun t => t.portCtl (.csr i) port (t.port port).mode.code (t.port port).width8 true false))

def execPortDisable (i : Issuer) (port : Nat) (s : State) : Result :=
  .next (s.begin.whenRunning (fun t => t.portCtl (.csr i) port (t.port port).mode.code (t.port port).width8 false false))

def execRetrain (i : Issuer) (port : Nat) (s : State) : Result :=
  .next (s.begin.whenRunning (fun t =>
    t.portCtl (.csr i) port (t.port port).mode.code (t.port port).width8 (t.port port).enable true))

/-! ### Training (R472-R475) -/

/-- The lane sets a width may use, lowest-numbered first (R455, R471). -/
def laneSets (w8 : Bool) (width : Nat) : List (List Nat) :=
  let all := if w8 then 8 else 16
  (List.range (all / width)).map (fun k => (List.range width).map (fun j => k * width + j))

/-- The widest lane set, below a width or at it, whose lanes all pass. -/
def pickLanes (w8 : Bool) (ok : Nat → Bool) (widths : List Nat) : Option (List Nat) :=
  widths.findSome? (fun w => (laneSets w8 w).find? (fun l => l.all ok))

/-- Lane records after a lane set is taken. -/
def State.useLanes (s : State) (p : Nat) (l : List Nat) : State :=
  let x := s.port p
  let put := fun (st : Store Lane) (n : Nat) =>
    let e := Store.read ({} : Lane) st n
    Store.write ({} : Lane) st n { e with inUse := l.contains n }
  s.setPort p { x with lanes := (List.range 16).foldl put x.lanes, width := l.length }

/-- CAPS as this DZM sends it (R473). -/
def State.ownCaps (s : State) (p : Nat) : List Byte :=
  let x := s.port p
  natLe 1 0x01 ++ natLe 1 1 ++ natLe 1 1 ++ natLe 1 0 ++ natLe 2 x.offer.toNat ++ natLe 2 s.nodeId ++ natLe 1 p ++ natLe 1 x.width ++
    ((List.range 9).map (fun n => natLe 2 (s.creditCells n))).flatten ++ natLe 2 (s.num O.switchRank 0) ++ List.replicate 210 0

/-- Link training and FEC lock finish on these lanes: the port enters NEGOTIATE. -/
def State.electricalDone (s : State) (p : Nat) (lanes : List Nat) : State :=
  let x := s.port p
  if x.state ≠ .electrical ∨ x.mode ≠ .opvitik ∨ x.retrainAt.isSome then s
  else
    let s1 := lanes.foldl (fun (t : State) n => if n < 16 then
      t.setPort p { t.port p with lanes := Store.write ({} : Lane) (t.port p).lanes n { lock := true } } else t) s
    match pickLanes x.width8 lanes.contains (if x.width8 then [8, 4] else [16, 8, 4]) with
    | none => s1.trainFail p .link
    | some l =>
      let s2 := s1.useLanes p l
      let s3 := s2.setPort p { s2.port p with state := .negotiate, since := s2.now }
      s3.emit (.linkMsg p (s3.ownCaps p))

def execElectricalTrainingDone (port : Nat) (lanes : List Nat) (s : State) : Result :=
  .next (s.begin.whenRunning (fun t => t.electricalDone port lanes))

/-- What fails a port on the peer's CAPS (R474). -/
def State.capsBad (s : State) (p : Nat) (m : List Byte) : Option Status :=
  let feat := fieldAt m 4 2 % 64 &&& (s.port p).offer.toNat
  let dzm := decide (fieldAt m 3 1 = 0)
  if min 1 (fieldAt m 2 1) < max 1 (fieldAt m 1 1) then some .notsup
  else if dzm && !(bitAt feat 1 && bitAt feat 2 && bitAt feat 4) then some .notsup
  else if (s.crypt p).policy = 1 ∧ !bitAt feat 0 then some .auth
  else if dzm && decide (fieldAt m 6 2 = s.nodeId) then some .param
  else none

/-- The peer's CAPS (R473, R474). -/
def State.capsIn (s : State) (p : Nat) (m : List Byte) : State :=
  let x := s.port p
  if x.state ≠ .negotiate ∨ x.retrainAt.isSome ∨ fieldAt m 0 1 ≠ 1 then s
  else match s.capsBad p m with
    | some st => s.trainFail p st
    | none =>
      let sec := decide ((s.crypt p).policy = 1)
      let s1 := s.setPort p { x with
        gen := min 1 (fieldAt m 2 1), agreed := BitVec.ofNat 6 (fieldAt m 4 2) &&& x.offer, peerNode := fieldAt m 6 2
        peerPort := fieldAt m 8 1 % 64, peerEndpoint := decide (fieldAt m 3 1 ≠ 0), peerRank := fieldAt m 28 2
        state := if sec then .secure else .calibrate, since := s.now }
      let s2 := s1.setCrypt p { s1.crypt p with inForce := (s1.crypt p).policy }
      let cr := (List.range 9).foldl (fun (st : Store Nat) n => Store.write 0 st (16 * p + n) (fieldAt m (10 + 2 * n) 2)) s2.sw.credits
      { s2 with sw := { s2.sw with credits := cr } }

def execCaps (port : Nat) (message : List Byte) (s : State) : Result :=
  .next (s.begin.whenRunning (fun t => t.capsIn port message))

/-- The port reserves its headroom and carries traffic (R236, R472); one that finds too few cells fails. -/
def State.portUpNow (s : State) (p : Nat) : State :=
  let need := s.headroomNeed (s.port p).mode
  if s.cellsUnassigned < need then s.trainFail p .nospace
  else
    let s1 : State := { s with sw := { s.sw with headroom := Store.write 0 s.sw.headroom p need } }
    let s2 := s1.setPort p { s1.port p with state := .active, since := s1.now }
    if (s2.port p).mode = .opvitik then s2.lgTrained p else s2

/-- The session with the peer and its keys are there (R440, R441): key generation 0 in both directions. -/
def State.secured (s : State) (p : Nat) (secret : List Byte) : State :=
  let x := s.port p
  if x.state ≠ .secure ∨ x.retrainAt.isSome then s
  else
    let s1 := s.setCrypt p { s.crypt p with
      active := true, keyGen := 0, keyGenRx := 0, counter := 0, counterRx := 0, gpos := 0, recentFails := [], secret := secret }
    if x.mode ≠ .opvitik then s1.portUpNow p
    else
      let s2 : State := { s1 with sec := { s1.sec with
        binds := Store.write ({} : PortBind) s1.sec.binds p { s1.bind p with peerDzm := !x.peerEndpoint } } }
      s2.setPort p { s2.port p with state := .calibrate, since := s2.now }

def execSecureDone (port : Nat) (secret : List Byte) (s : State) : Result :=
  .next (s.begin.whenRunning (fun t => t.secured port secret))

/-- Asymmetry and delay are measured (R475): the port is ACTIVE and joins its link group. -/
def execCalibrateDone (port : Nat) (delayNs : Nat) (asym : Int) (s : State) : Result :=
  .next (s.begin.whenRunning (fun t =>
    let x := t.port port
    if x.state ≠ .calibrate ∨ x.retrainAt.isSome then t
    else (t.setPort port { x with delay := nsUnits delayNs, asym := asym }).portUpNow port))

/-- The limit of a training state, and its failure STATUS (R472). NEGOTIATE's table row gives two, and which one a timeout takes is
free. -/
def State.trainLimit (s : State) (st : PortState) : Option (Nat × Status) :=
  match st with
  | .electrical => some (msUnits 500, .link)
  | .negotiate => some (msUnits 1, if Config.freeNat s.freeCounter % 2 = 0 then .notsup else .param)
  | .secure => some (msUnits 100, .auth)
  | .calibrate => some (msUnits 1, .nospace)
  | _ => none

def execTrainingTimeout (port : Nat) (s : State) : Result :=
  .next (s.begin.whenRunning (fun t =>
    let x := t.port port
    match t.trainLimit x.state with
    | none => t
    | some (limit, st) =>
      if x.retrainAt.isSome then t
      else ({ t.elapse (x.since + limit) with freeCounter := t.freeCounter + 1 } : State).trainFail port st))

def execTrainingRestart (port : Nat) (s : State) : Result :=
  .next (s.begin.whenRunning (fun t =>
    match (t.port port).retrainAt with
    | none => t
    | some due => (t.elapse due).startTraining port))

/-- A CXL or PCIe link has trained (R458-R460): below 64 GT/s, or at another width, it is held down. -/
def execCxlPcieLinkUp (port rate width : Nat) (s : State) : Result :=
  .next (s.begin.whenRunning (fun t =>
    let x := t.port port
    if x.state ≠ .electrical ∨ (x.mode ≠ .cxl ∧ x.mode ≠ .pcie) ∨ x.retrainAt.isSome then t
    else if rate < 64 ∨ (width ≠ 16 ∧ width ≠ 8) then t.trainFail port .notsup
    else
      let t1 := (t.useLanes port (List.range width)).setCrypt port { t.crypt port with inForce := (t.crypt port).policy }
      if (t1.crypt port).policy = 1 then t1.setPort port { t1.port port with state := .secure, since := t1.now }
      else t1.portUpNow port))

def execCxlPcieLinkLoss (port : Nat) (s : State) : Result :=
  .next (s.begin.whenRunning (fun t =>
    let x := t.port port
    if !x.up ∨ (x.mode ≠ .cxl ∧ x.mode ≠ .pcie) then t else t.portLost port))

/-! ### Replay (R467-R469) -/

/-- ACTIVE, or RECOVERY while a replay or a degrade is in progress. -/
def Port.settle (x : Port) : Port :=
  if !x.up then x
  else { x with state := if x.awaited.isSome || x.degrade.isSome || x.resending.isSome then .recovery else .active }

/-- PORT_REPLAY_CTL's TIMEOUT_NS. -/
def Port.nakWait (x : Port) : Nat := nsUnits x.timeoutNs

/-- A damaged flit (R468): one NAK names the last flit accepted, and flits are discarded until the next one arrives. -/
def State.damage (s : State) (p : Nat) : State :=
  let x := s.port p
  if !x.up ∨ x.mode ≠ .opvitik ∨ x.awaited.isSome then s
  else (s.setPort p { x with
    awaited := some ((x.lastAccepted + 1) % 4096), nakDue := s.now + x.nakWait, attempts := 0 }.settle).txFree p (.nak p x.lastAccepted)

/-- LINK_REPLAY in force on the port: the receiver treats what comes as uncorrectable, one word each (R559). -/
def State.wordInjected (s : State) (p : Nat) : Bool := s.faults.linkReplay.any (fun e => decide (e.1 = p) && decide (e.2 ≠ 0))
def State.takeWord (s : State) (p : Nat) : State :=
  let l := (s.faults.linkReplay.map (fun (e : Nat × Nat) => if e.1 = p then (e.1, e.2 - 1) else e)).filter (fun e => decide (e.2 ≠ 0))
  (({ s with faults := { s.faults with linkReplay := l } } : State).bump (O.portUncorrectableWords p)).damage p

def execUncorrectableWord (port : Nat) (s : State) : Result :=
  .next (s.begin.whenRunning (fun t =>
    if !(t.port port).up ∨ (t.port port).mode ≠ .opvitik then t else (t.bump (O.portUncorrectableWords port)).damage port))

/-- An unanswered NAK (R469): it is sent again, and the last attempt makes the port LOST. While a degrade is pending the timer stands
still (R479). -/
def execReplayTimeout (port : Nat) (s : State) : Result :=
  .next (s.begin.whenRunning (fun t =>
    let x := t.port port
    if !x.up ∨ x.awaited.isNone ∨ x.degrade.isSome then t
    else
      let t1 := t.elapse x.nakDue
      if x.maxAttempts ≤ x.attempts + 1 then (t1.bump (O.portReplayGiveups port)).portLost port
      else (t1.setPort port { x with attempts := x.attempts + 1, nakDue := t1.now + x.nakWait }).txFree port (.nak port x.lastAccepted)))

/-- Flits up to a SEQ are acknowledged: they leave the replay buffer, and frames whose last flit is among them are link-acknowledged
(R467, R250). -/
def State.ackIn (s : State) (p seq : Nat) : State :=
  let x := s.port p
  if !(x.replay.any (fun f => decide (f.seq = seq))) then s
  else
    let kept := (x.replay.dropWhile (fun f => decide (f.seq ≠ seq))).drop 1
    let gone := (x.replay.take (x.replay.length - kept.length)).map (·.seq)
    let still := match x.resending with
      | some r => if gone.contains r then none else some r
      | none => none
    let s1 := s.setPort p { x with replay := kept, resending := still }.settle
    let left := (Store.read [] s1.sw.sent p).filter (fun e => !(gone.contains e.lastSeq))
    ({ s1 with sw := { s1.sw with sent := Store.write [] s1.sw.sent p left } } : State).flushCredits p

def execAck (port seq : Nat) (s : State) : Result :=
  .next (s.begin.whenRunning (fun t => if (t.port port).up then t.ackIn port seq else t))

/-- A NAK: what it names is accepted, and the flits after it go out again, in order (R468). A later NAK restarts the replay (R479). -/
def State.nakIn (s : State) (p seq : Nat) : State :=
  let s1 := s.ackIn p seq
  let x := s1.port p
  let s2 := (s1.setPort p { x with resending := x.replay.getLast?.map (fun (f : SentFlit) => f.seq) }.settle).bump (O.portReplays p)
  x.replay.foldl (fun (t : State) f => t.txAgain p f) s2

def execNak (port seq : Nat) (s : State) : Result :=
  .next (s.begin.whenRunning (fun t => if (t.port port).up ∧ (t.port port).mode = .opvitik then t.nakIn port seq else t))

/-- SEQs of the last flits of frames from a port that are not linked yet (R251). -/
def State.unlinked (s : State) (p : Nat) : List Nat :=
  (s.port p).arrived.map (·.2) ++
  s.sw.frames.filterMap (fun e => match e.2 with
    | some f => if f.inPort = some p ∧ !f.linked then f.lastSeq else none
    | none => none) ++
  s.sw.quotaWaits.filterMap (fun w => if w.frame.inPort = some p then w.frame.lastSeq else none)

/-- An ACK names the last flit accepted such that every frame that ends at or before it is linked (R251, R467). -/
def execAckSend (port : Nat) (s : State) : Result :=
  .next (s.begin.whenRunning (fun t =>
    let x := t.port port
    if !x.up ∨ x.mode ≠ .opvitik then t
    else
      let back := fun (q : Nat) => (x.lastAccepted + 4096 - q) % 4096
      let hold := ((t.unlinked port).map (fun q => back q + 1)).foldl max 0
      if x.unacked ≤ hold then t
      else (t.setPort port { x with unacked := hold }).txFree port (.ack port ((x.lastAccepted + 4096 - hold) % 4096))))

/-! ### Flits (R461-R468, R476) -/

/-- Header bytes 0-11 as sent. -/
def flitBits (h : FlitHeader) : Nat :=
  h.ftype % 16 + h.vc % 16 * 2 ^ 4 + h.seq % 4096 * 2 ^ 8 + h.ackSeq % 4096 * 2 ^ 20 + h.ackKind % 4 * 2 ^ 32 + h.crVc % 16 * 2 ^ 34 +
    h.crCells % 4096 * 2 ^ 38 + b2n h.fstart * 2 ^ 50 + b2n h.fend * 2 ^ 51 + h.fill % 256 * 2 ^ 52 + h.gpos % 16 * 2 ^ 60 +
    h.tagb % 256 * 2 ^ 64 + b2n h.rekey * 2 ^ 72 + h.reserved % 2 ^ 23 * 2 ^ 73

/-- The header CRC is right (R461). -/
def flitCrcOk (h : FlitHeader) : Bool := decide (crc32 (natLe 12 (flitBits h)) = h.crc.toNat)

/-- A reserved field or kind (R461, R462). -/
def flitBad (h : FlitHeader) : Bool :=
  decide (h.reserved ≠ 0) || decide (4 < h.ftype) || decide (h.ackKind = 3) || decide (8 < h.vc) ||
  (decide (h.ftype = 0) && decide (h.crCells ≠ 0))

/-- A group whose tag fails (R444): more than 16 in 1 ms fence the port. -/
def State.tagFail (s : State) (p : Nat) : State :=
  let c := s.crypt p
  let l := c.recentFails.filter (fun t => decide (s.now < t + msUnits 1)) ++ [s.now]
  let s1 := s.setCrypt p { c with tagFails := min 65535 (c.tagFails + 1), recentFails := l }
  if 16 < l.length then (s1.bump O.tagFails).portFence p 0x02 else (s1.bump O.tagFails).damage p

/-- The receive side's group counter and key generation move on (R442, R443, R476). -/
def State.countRx (s : State) (p : Nat) (h : FlitHeader) : State :=
  let c := s.crypt p
  if !c.active then s
  else
    let rekey := h.rekey && decide (h.gpos = 0)
    let c1 : PortCrypt := if rekey then { c with keyGenRx := c.keyGenRx + 1, counterRx := 0 } else c
    (if rekey then s.bump O.rekeys else s).setCrypt p (if h.gpos = 15 then { c1 with counterRx := c1.counterRx + 1 } else c1)

/-- A sequenced flit is accepted: its credit is counted once, and its bytes join their VC's frame (R463, R466). -/
def State.acceptFlit (s : State) (p : Nat) (h : FlitHeader) (payload : List Byte) : State :=
  let x := s.port p
  let s1 := s.setPort p { x with lastAccepted := h.seq, unacked := x.unacked + 1, awaited := none }.settle
  let key := 16 * p + h.crVc
  let s2 : State := { s1 with sw := { s1.sw with credits := Store.write 0 s1.sw.credits key (Store.read 0 s1.sw.credits key + h.crCells) } }
  if h.ftype = 1 then
    let y := s2.port p
    let bytes := (if h.fstart then [] else Store.read [] y.reasm h.vc) ++ payload.take h.fill
    s2.setPort p (if h.fend then { y with reasm := Store.write [] y.reasm h.vc [], arrived := y.arrived ++ [(bytes, h.seq)] }
      else { y with reasm := Store.write [] y.reasm h.vc bytes })
  else if h.ftype = 4 ∧ fieldAt payload 0 1 = 3 then (s2.portDown p .electrical).startTraining p
  else s2

/-- A sequenced flit: accepted only in SEQ order; a hole in the order is a loss (R467, R468). -/
def State.sequenced (s : State) (p : Nat) (h : FlitHeader) (payload : List Byte) : State :=
  let x := s.port p
  let want := (x.lastAccepted + 1) % 4096
  if h.seq ≠ want then
    if (h.seq + 4096 - want) % 4096 < 2048 then s.damage p else s
  else if h.ftype = 1 ∧ h.fstart ∧ !(hchkOk (payload.take 32)) then (s.bump (O.portHdrCheckFails p)).damage p
  else s.acceptFlit p h payload

/-- A flit received (R462). TIME flits are commands of their own. -/
def State.flitIn (s : State) (p : Nat) (h : FlitHeader) (payload : List Byte) (tagOk : Bool) : State :=
  if !(s.port p).up ∨ (s.port p).mode ≠ .opvitik then s
  else if s.wordInjected p then s.takeWord p
  else if !(flitCrcOk h) then (s.bump (O.portHdrCheckFails p)).damage p
  else if flitBad h then s.damage p
  else if (s.crypt p).active ∧ !tagOk then s.tagFail p
  else
    let s1 := s.countRx p h
    let s2 := if h.ackKind = 1 then s1.ackIn p h.ackSeq else if h.ackKind = 2 then s1.nakIn p h.ackSeq else s1
    if h.ftype = 0 ∨ h.ftype = 3 then s2 else s2.sequenced p h payload

def execFlitReceive (port : Nat) (h : FlitHeader) (payload : List Byte) (tagOk : Bool) (s : State) : Result :=
  .next (s.begin.whenRunning (fun t => t.flitIn port h payload tagOk))

/-! ### Lanes (R471, R479) -/

/-- Two degrades that cross: the smaller lane set and the later switch FTC. -/
def Degrade.join (a b : Degrade) : Degrade :=
  { lanes := if b.lanes.length < a.lanes.length then b.lanes else a.lanes, ftc := max a.ftc b.ftc }

def State.setDegrade (s : State) (p : Nat) (d : Degrade) : State :=
  let x := s.port p
  s.setPort p { x with degrade := some (match x.degrade with | some e => e.join d | none => d) }.settle

/-- A lane in use fails. -/
def State.laneFailed (s : State) (p lane : Nat) : State :=
  let x := s.port p
  let l := Store.read ({} : Lane) x.lanes lane
  if !x.up ∨ x.mode ≠ .opvitik ∨ !l.inUse then s
  else
    let s1 := s.setPort p { x with lanes := Store.write ({} : Lane) x.lanes lane { l with failed := true } }
    let ok := fun (n : Nat) => !(Store.read ({} : Lane) (s1.port p).lanes n).failed
    let widths := [8, 4].filter (fun w => decide (w < x.width))
    match if bitAt x.agreed.toNat 5 then pickLanes x.width8 ok widths else none with
    | none => s1.portLost p
    | some set_ =>
      let ftc := roundUp (s1.ftc + 2 * x.delay + nsUnits 200) 32
      (s1.emit (.linkMsg p (natLe 1 0x02 ++ natLe 1 set_.length ++ natLe 1 (set_.headD 0) ++ natLe 8 ftc))).setDegrade p
        { lanes := set_, ftc := ftc }

def execLaneFail (port lane : Nat) (s : State) : Result :=
  .next (s.begin.whenRunning (fun t => t.laneFailed port lane))

def execDegrade (port : Nat) (lanes : List Nat) (ftc : Nat) (s : State) : Result :=
  .next (s.begin.whenRunning (fun t =>
    let x := t.port port
    if !x.up ∨ x.mode ≠ .opvitik ∨ !bitAt x.agreed.toNat 5 then t else t.setDegrade port { lanes := lanes, ftc := ftc }))

/-- The switch FTC: both directions take the new lane set; a NAK's timer starts again (R471, R479). -/
def execDegradeSwitch (port : Nat) (s : State) : Result :=
  .next (s.begin.whenRunning (fun t =>
    match (t.port port).degrade with
    | none => t
    | some d =>
      let t1 := (t.atFtc d.ftc).useLanes port d.lanes
      let x := t1.port port
      ((t1.setPort port { x with degrade := none, nakDue := if x.awaited.isSome then t1.now + x.nakWait else x.nakDue }.settle).bump32
        (O.portDegrades port)).portEvent port .ok))

/-! ### Keys of a link (R443) -/

/-- The group counter reaches the soft limit: the next group goes out under the next key. -/
def execRekey (port : Nat) (s : State) : Result :=
  .next (s.begin.whenRunning (fun t =>
    let c := t.crypt port
    if !c.active then t else (t.bump O.rekeys).setCrypt port { c with keyGen := c.keyGen + 1, counter := 0, gpos := 0 }))

/-- The group counter reaches 2^40: the port ends with E_LINK and trains again with a new session. -/
def execRekeyHardLimit (port : Nat) (s : State) : Result :=
  .next (s.begin.whenRunning (fun t => if (t.crypt port).active ∧ (t.port port).up then t.portLost port else t))

end Sys2Proof.Machine
end

