-- ==== Sys2Proof/Machine/Reset.lean ====
section
/-! DEFINITION. What ends every open request (R524, R537), the warm and cold resets (R531-R533), and the brownout sequence (R524,
R526, R374). -/

namespace Sys2Proof.Machine

/-! ### Every open request ends -/

/-- One open operation ends: a queue's item gets its entry, a posted one is reported as failed, any other is answered. -/
def State.endOpenOp (s : State) (r : Response) (o : OutOp) : State :=
  if o.posted then s.postedFails o.issuer o.id r
  else match o.issuer.src with
    | .queue q => (s.closeOp o.issuer false o.id).finishItem q o.id r
    | _ => s.respondCore { issuer := o.issuer, tc := o.tc, tag := o.tag, target := o.target, localA := o.localA, seq := o.id } o.op r

/-- The entries of finished items that can be written are. -/
def State.writeEntries : Nat → State → Nat → State
  | 0, s, _ => s
  | n + 1, s, q => State.writeEntries n (s.writeNext q) q

/-- Requests that have come whole or in part and wait in the switch. -/
def State.heldFrames (s : State) : List Frame :=
  s.sw.frames.filterMap (fun e => match e.2 with
    | some f => if f.kind = 0 ∧ f.index = 0 ∧ !(s.sw.mcWaits.any (fun w => decide (w.frame = f.id))) then some f else none
    | none => none) ++ s.sw.quotaWaits.map (·.frame)

/-- Every request in progress ends with a STATUS (R524, R537 step 2), with the effect on its target that R92 allows. -/
def State.endOpen (s : State) (st : Status) (reason : Reason) : State :=
  let r := served st 0 reason
  let s1 := s.traffic.dispatched.foldl (fun (t : State) e => e.2.foldl (fun (u : State) d => u.revertBlocks d) t) s
  let s2 := s1.remote.outstanding.foldl (fun (t : State) o => t.endOpenOp r o) s1
  let s3 := s2.remote.queues.foldl (fun (t : State) e => State.writeEntries e.2.finished.length t e.1) s2
  let s4 := s3.remote.waits.foldl (fun (t : State) w => t.endWaitCore w st) s3
  let s5 := s4.remote.fences.foldl (fun (t : State) f => t.respondCore f.req 7 r) s4
  let s6 := ((s5.hcu.inputs.filter (fun x => !x.answered)).map (·.req)).dedup.foldl (fun (t : State) q => t.respondCore q 0x21 r) s5
  let s7 := s6.hcu.held.foldl (fun (t : State) x => t.respondCore x.req 0x21 r) s6
  let s8 := s7.sw.mcWaits.foldl (fun (t : State) w => t.respondCore w.req w.op r) s7
  let s9 := s8.sw.discarded.foldl (fun (t : State) d => t.respondCore d.1 d.2.1 r) s8
  s9.heldFrames.foldl (fun (t : State) f => t.refuseFrame f st reason) s9

/-! ### Warm reset (R531-R533) -/

/-- Objects a warm reset keeps (R532): everything at 0x2200, and what software sets at 0x1100, 0x2000, 0x2100 and 0x5400-0x5440;
their counters are reset. -/
def keptObject (k : Nat) : Bool :=
  let i := k / 256
  decide (i = 0x2200) ||
    ((decide (i = 0x1100) || decide (i = 0x2000) || decide (i = 0x2100) || (decide (0x5400 ≤ i) && decide (i ≤ 0x5440))) &&
      (match objSpec i (k % 256) with | some o => o.writable | none => false))

/-- Registers a warm reset keeps (R532): Millrace quotas, the route table, and the traffic tables. -/
def keptRegister (a : Nat) : Bool :=
  (decide (R.swcQuota 0 ≤ a) && decide (a < R.swcQuota 65)) || (decide (R.swcRoute 0 ≤ a) && decide (a < R.swcMcLo 0)) ||
  (decide (R.trfGateCtl 0 ≤ a) && decide (a < R.trfIndSel) && decide (0x20 ≤ a % 0x100)) ||
  (decide (R.trfGateLo 0 0 ≤ a) && decide (a < R.trfGateLo 36 0))

/-- A shaper, Weir or contract with its configuration alone. -/
def TokenBucket.configured (b : TokenBucket) : TokenBucket := { rate := b.rate, burst := b.burst, enable := b.enable }
def Contract.configured (c : Contract) : Contract := { c with queue := [], deficit := 0, bytes := 0, shortfalls := 0 }

/-- The cause and kind of a reset are recorded (R533, R550). -/
def State.noteReset (s : State) (c : ResetCause) (warm : Bool) : State :=
  let s1 := (s.setNum O.lastResetKind (b2n warm)).setNum O.lastResetCause c.code
  let s2 := if warm then s1.bump32 O.warmResets else s1
  { s2 with power := { s2.power with cause := c, lastWarm := warm } }

/-- Plan slots become EMPTY and their claims go back (R532). -/
def State.emptySlots (s : State) : State :=
  s.plans.slots.foldl (fun (t : State) e => match e.2.image with
    | some i => t.planEmpty e.1 i
    | none => t) s

/-- What a warm reset leaves: the state of R532, everything else as after a cold reset. Ports with ENABLE set train again after the boot. -/
def State.warmKeep (s : State) : State := {
  pending := s.pending, now := s.now, ftc := s.ftc, out := s.out, freeCounter := s.freeCounter, chip := s.chip
  dict := s.dict.filter (fun e => keptObject e.1), csr := s.csr.filter (fun e => keptRegister e.1), mem := s.mem
  remote := {
    queues := Store.revalue {} (fun (c : QueueCtx) => { owner := c.owner }) s.remote.queues
    syncs := Store.revalue {} (fun (o : SyncObj) => { owner := o.owner }) s.remote.syncs }
  plans := { acquiredOnce := s.plans.acquiredOnce }
  traffic := {
    shapers := Store.revalue {} TokenBucket.configured s.traffic.shapers
    weirs := Store.revalue {} TokenBucket.configured s.traffic.weirs
    contracts := Store.revalue {} Contract.configured s.traffic.contracts, gateEntries := s.traffic.gateEntries
    nextReq := s.traffic.nextReq }
  pool := {
    channels := s.pool.channels, parts := s.pool.parts, pages := s.pool.pages, poison := s.pool.poison, nextRelease := s.pool.nextRelease
    initDone := s.pool.initDone }
  coh := { ways := s.coh.ways }
  sec := {
    tenants := s.sec.tenants, clusterOwner := s.sec.clusterOwner, clusterClears := s.sec.clusterClears
    binds := Store.revalue {} (fun (b : PortBind) => { b with peerDzm := false }) s.sec.binds
    crypt := Store.revalue {} (fun (c : PortCrypt) => { policy := c.policy, inForce := c.policy }) s.sec.crypt
    clearSeq := s.sec.clearSeq, clearLog := s.sec.clearLog, clearHead := s.sec.clearHead, banks := s.sec.banks, running := s.sec.running
    activated := s.sec.activated, bootedNew := s.sec.bootedNew }
  links := { ports := Store.revalue {} (fun (p : Port) => { mode := p.mode, width8 := p.width8, enable := p.enable }) s.links.ports }
  mgmt := {
    eventSeq := s.mgmt.eventSeq, eventLog := s.mgmt.eventLog, eventLost := s.mgmt.eventLost, flash := s.mgmt.flash
    flashBanks := s.mgmt.flashBanks }
  power := {
    inputMv := s.power.inputMv, inputCa := s.power.inputCa, supplyWarn := s.power.supplyWarn, coldResetLow := s.power.coldResetLow
    limitW := s.num O.powerLimitW 3000, jmax := s.power.jmax, dimmSupply := s.power.dimmSupply, feedGood := s.power.feedGood
    dimmOff := s.power.dimmOff, lastWarm := s.power.lastWarm, cause := s.power.cause, standby := s.power.standby
    standbyWatchdog := s.power.standbyWatchdog, fuses := s.power.fuses, fuseMarginal := s.power.fuseMarginal, rereadAt := s.power.rereadAt
    fusedSvn := s.power.fusedSvn, bootBank := s.power.bootBank }
  faults := { seq := s.faults.seq, log := s.faults.log, read := s.faults.read, lastCode := s.faults.lastCode } }

/-- A warm reset: open requests end, the package keeps the state of R532 and boots from step 3. -/
def State.warmReset (s : State) (c : ResetCause) : State :=
  let s1 := (s.pool.moves.foldl (fun (t : State) m => t.cancelMove m) s).endOpen .unitReset .unitState
  let s2 := (s1.emptySlots.destroyKeys (fun _ => true)).warmKeep.noteReset c true
  { s2 with power := { s2.power with
    package := .booting 3, since := s2.now, events := if c = .brownoutRecovery then 32 else 0 } }

/-! ### Cold reset -/

/-- What a cold reset leaves: the part itself, its flash and fuses, the pins, and the standby records. -/
def State.coldReset (s : State) (c : ResetCause) : State :=
  let k : State := {
    pending := s.pending, now := s.now, out := s.out, freeCounter := s.freeCounter, chip := s.chip
    sec := { banks := s.sec.banks, running := s.sec.running, activated := s.sec.activated, bootedNew := s.sec.bootedNew }
    mgmt := { flash := s.mgmt.flash, flashBanks := s.mgmt.flashBanks }
    power := {
      inputMv := s.power.inputMv, inputCa := s.power.inputCa, supplyWarn := s.power.supplyWarn, coldResetLow := s.power.coldResetLow
      jmax := s.power.jmax, feedGood := s.power.feedGood, dimmSupply := false, standby := s.power.standby
      standbyWatchdog := s.power.standbyWatchdog, fusedSvn := s.power.fusedSvn, bootBank := s.power.bootBank } }
  let s1 := k.noteReset c false
  { s1 with power := { s1.power with package := .booting 1, since := s1.now } }

/-! ### Commanded resets (R531) -/

/-- Windows, streams and indexes are all disabled. -/
def State.quiet (s : State) : Bool :=
  s.coh.windows.all (fun e => !e.2.enable && !e.2.disabling) && s.cz.streams.all (fun e => !e.2.enable && !e.2.enabling) &&
  s.meadow.indexes.all (fun e => decide (e.2.state = .disabled))

/-- A commanded reset goes ahead once they are. -/
def State.resetIfQuiet (s : State) : State :=
  match s.power.resetDue with
  | none => s
  | some c => if s.quiet then s.warmReset c else s

/-- A commanded warm reset first disables every window, stream and index. -/
def State.commandWarm (s : State) (c : ResetCause) : State :=
  let s1 := s.coh.windows.foldl (fun (t : State) e => t.windowOff e.1) s
  let s2 := (s1.cz.streams.filter (fun e => e.2.enable || e.2.enabling)).foldl (fun (t : State) e => t.streamOff e.1) s1
  let s3 := (s2.meadow.indexes.filter (fun e => decide (e.2.state = .enabled))).foldl (fun (t : State) e => t.vsOff e.1 none) s2
  let done := fun (t : State) (e : Nat × VIndex) =>
    if (t.vindex e.1).state = .disabling ∧ !(t.meadow.queries.any (fun q => decide (q.index = e.1))) then t.vsEnd e.1 else t
  let s4 := s3.meadow.indexes.foldl done s3
  let s5 := s4.coh.windows.foldl (fun (t : State) e => t.windowDone e.1) s4
  ({ s5 with power := { s5.power with resetDue := some c } } : State).resetIfQuiet

/-! ### Brownout (R524, R526, R374) -/

/-- Every window's EM and O lines are poisoned, and the directory is lost (R374). -/
def State.loseLines (s : State) : State :=
  let s1 := s.coh.entries.foldl (fun (t : State) x => match x.2 with
    | some e => if e.state = .shared then t else t.poisonLine e.line
    | none => t) s
  { s1 with coh := { s1.coh with entries := [], spec := [] } }

/-- The brownout sequence: plans halt, moves are cancelled, open requests end with E_POWER, ports go down, and a record is kept. -/
def State.brownout (s : State) (trip : Bool) (arg : Nat) : State :=
  let s1 := s.liveSlots.foldl (fun (t : State) n => t.issueHalt n .power) s
  let s2 := s1.pool.moves.foldl (fun (t : State) m => t.cancelMove m) s1
  let s3 := (s2.loseLines.endOpen .power .powerThermal).destroyKeys (fun _ => true)
  let s4 := (List.range 36).foldl (fun (t : State) p => if (t.port p).state = .disabled then t else t.portDown p .disabled) s3
  let s5 := s4.bump32 (if trip then O.thermalTrips else O.brownouts)
  { s5 with power := { s5.power with
    package := if trip then .thermalOff else .brownout, since := s5.now, resetDue := none
    standby := some { ftc := s5.ftc, trip := trip, arg := arg } } }

end Sys2Proof.Machine
end

