-- ==== Sys2Proof/Machine/Units.lean ====
section
/-! DEFINITION. Unit commands (R31, R35, R36, R535-R540, R594, R596) and containment (R556, R557). -/

namespace Sys2Proof.Machine

/-! ### What a command may meet (R35, R36, R374, R535, R596) -/

/-- States a command is accepted from. -/
def unitAccepts (c : UnitCmd) (st : UnitState) : Bool :=
  match c, st with
  | .quiesce, .active | .resume, .quiesced | .reset, .active | .reset, .quiescing | .reset, .quiesced | .reset, .faulted
  | .powerDown, .active | .powerDown, .quiesced | .powerDown, .faulted | .powerUp, .poweredDown
  | .updateBegin, .active | .updateBegin, .quiesced | .updateEnd, .updating => true
  | _, _ => false

/-- A command on the unit, an ancestor or a descendant has not finished. -/
def State.unitBusyWith (s : State) (l : UnitLoc) : Bool :=
  s.power.commands.any (fun c => !c.timedOut && !c.contain && (match unitLoc c.target with
    | some m => unitWithin m l || unitWithin l m
    | none => false))

/-- What refuses a unit command. -/
def State.unitRefusal (s : State) (c : UnitCmd) (l : UnitLoc) : Option Response :=
  let update : Bool := match c, l with
    | .updateBegin, .die _ | .updateBegin, .portDie _ => true
    | .updateBegin, _ => false
    | _, _ => true
  let fixed : Bool := match l with
    | .package | .hub | .hubSection 5 => decide (c = .powerDown)
    | _ => false
  let whole : Bool := match l with
    | .package | .hub => decide (c = .reset)
    | _ => false
  let windows := decide (l = .hubSection 2) && decide (c ≠ .quiesce) && decide (c ≠ .resume) &&
    s.coh.windows.any (fun e => e.2.enable || e.2.disabling)
  if s.unitBusyWith l then some (refusal .busy)
  else if (s.slotOver l).isSome || (whole && !s.liveSlots.isEmpty) then some (refusal .busy .staticWindow)
  else if windows then some (refusal .busy)
  else if !(unitAccepts c (s.unit l).state) ∨ !update then some (refusal .param)
  else if fixed then some (refusal .access)
  else none

/-- The depth of an ancestor is in use (R27). -/
def State.depthUsed (s : State) (l : UnitLoc) : Bool :=
  let n := s.num O.spanLevels 0
  match l with
  | .span => decide (1 ≤ n)
  | .tray => decide (2 ≤ n)
  | .trayGroup => decide (3 ≤ n)
  | _ => true

/-- The NODE that serves a unit: none for a unit of this package (R29, R31). -/
def State.representative (s : State) : UnitLoc → Option Nat
  | .span => some (s.num O.repSpan 0xFFFF)
  | .tray => some (s.num O.repTray 0xFFFF)
  | .trayGroup => some (s.num O.repTrayGroup 0xFFFF)
  | _ => none

/-- The outcome of the last finished command (R36, R594). -/
def State.unitOutcome (s : State) (l : UnitLoc) (st : Status) : State :=
  (s.setNum O.unitCmdLastPath (s.path l)).setNum O.unitCmdLastStatus st.code

/-- Units of the subtree that follow a command (R596). -/
def State.followers (s : State) (c : UnitCmd) (l : UnitLoc) : List UnitLoc :=
  (unitSubtree s.chip.variant l).filter (fun m => decide (c = .powerDown) || unitAccepts c (s.unit m).state)

/-! ### In execution (R536) -/

/-- Channels of a memory controller. -/
def ctlChannels (l : UnitLoc) : List Nat := (List.range 272).filter (fun c => decide (channelLoc c = l))

/-- The key of a unit of hub compute, as hcuLoc numbers it. -/
def hcuKey (g sl u : Nat) : Nat := let n := 4 * g + sl; if u < 4 then 4 * n + u else if u = 4 then 256 + n else 512 + n

/-- A started shard query runs on a sketch unit: its own, or for a SCAN every one that was open at its start. -/
def shardOn (e : VQuery × ShardQuery) (u : Nat) : Bool := if e.1.scan then !(e.2.without.contains u) else decide (e.2.unit = u)

/-- Shard queries that a unit of Meadow serves; the array serves those that wait as well. -/
def State.meadowServes (s : State) (l : UnitLoc) : List VQuery :=
  match l with
  | .meadowArray d => (s.arrayShards d).map (·.1)
  | .meadowGroup d g => ((s.arrayShards d).filter (fun e => e.2.started && (List.range 16).any (fun u => shardOn e (16 * g + u)))).map (·.1)
  | .sketch d g u => ((s.arrayShards d).filter (fun e => e.2.started && shardOn e (16 * g + u))).map (·.1)
  | _ => []

/-- Something that a unit has started is in execution. -/
def State.executing (s : State) (l : UnitLoc) : Bool :=
  let holds := fun (k : TakenAt) => s.florets.items.any (fun x => decide (x.taken = some k))
  match l with
  | .floret d q c f =>
    let n := 1024 * d + 256 * q + 16 * c + f
    (s.floret n).work.isSome || holds (.floret n) ||
      s.remote.outstanding.any (fun o => decide (o.issuer.src = .floret n) && !o.posted)
  | .cluster d q c => !(s.tasksOf (64 * d + 16 * q + c)).isEmpty || holds (.cluster (64 * d + 16 * q + c))
  | .quadrant d q => holds (.quadrant (4 * d + q))
  | .hcu g sl u =>
    let key := hcuKey g sl u
    if key < 256 then s.hcu.inputs.any (fun x =>
      let j := s.job x.job
      decide (j.kind = 1) && decide (x.cells = 0) && decide (j.firstMs + x.chunk % j.msCount = key))
    else (s.hcuRunning key).isSome
  | .memCtl _ _ => (ctlChannels l).any (fun c => !(s.inChannel c).isEmpty)
  | .meadowArray d => (s.arrayShards d).any (fun e => e.2.started)
  | .meadowGroup _ _ | .sketch _ _ _ => !(s.meadowServes l).isEmpty
  | .port p => !(s.port p).replay.isEmpty
  | .hubSection 2 => !s.coh.requests.isEmpty
  | .hubSection 3 => !s.pool.moves.isEmpty
  | _ => false

/-- Nothing is in execution at the units of a command. -/
def State.drained (s : State) (c : UnitCommand) : Bool :=
  c.units.all (fun u => match unitLoc u with
    | some l => decide ((s.unit l).state ≠ .quiescing) || !(s.executing l)
    | none => true)

/-! ### What a reset takes from a unit (R37, R182, R187, R202, R537) -/

/-- A task goes back, or faults its item on a second reset; its staged operations go. -/
def State.takeBack (s : State) (f id t : Nat) : State :=
  match s.item id with
  | none => s
  | some x => (s.setItem { x with ended := x.ended.erase t, endFlags := x.endFlags.filter (fun e => decide (e.1 ≠ t)) }).returnTask f id t

/-- An item taken whole from a group's queue goes back to its head, once. -/
def State.itemBack (s : State) (id : Nat) (own group : UnitLoc) : State :=
  match s.item id with
  | none => s
  | some x =>
    if x.fault.isSome ∨ x.queue = unitQueue own then s
    else s.setItem { x with taken := none, waitsAt := unitIndex group }

/-- A Floret loses its task, its staged operations, its waits, its operations and its registers. -/
def State.loseFloret (s : State) (f : Nat) : State :=
  let l := floretLoc f
  let s1 := match (s.floret f).work with
    | some (.task id t) => s.returnTask f id t
    | _ => s
  let staged := (s1.florets.staged.filter (fun o => decide (o.floret = f))).map (fun o => (o.item, o.task))
  let s2 := staged.eraseDups.foldl (fun (t : State) e => t.takeBack f e.1 e.2) s1
  let mine := s2.florets.items.filter (fun x => decide (x.taken = some (.floret f)))
  let s3 := mine.foldl (fun (t : State) x =>
    let t1 := if (s.floret f).work.isNone then t.returnTask f x.id x.head else t
    t1.itemBack x.id l (clusterLoc (f / 16))) s2
  let s4 := (s3.remote.waits.filter (fun w => decide (w.req.issuer.src = .floret f))).foldl (fun (t : State) w => t.endWait w .unitReset) s3
  let s5 : State := { s4 with remote := { s4.remote with
    outstanding := s4.remote.outstanding.filter (fun o => decide (o.issuer.src ≠ .floret f) || o.posted)
    fences := s4.remote.fences.filter (fun x => decide (x.req.issuer.src ≠ .floret f))
    notifies := s4.remote.notifies.filter (fun x => decide (x.req.issuer.src ≠ .floret f)) } }
  s5.setFloret f {}

/-- An arbiter's grant, waits and STARVE bits clear. -/
def State.loseArbiter (s : State) (k : ArbKind) : State :=
  let s1 := (List.range k.count).foldl (fun (t : State) n => (t.setReg (k.waitAt n) 0).setReg (k.starveAt n).1 0) s
  let s2 := (s1.setReg (k.base + 0x0C) 0).setReg k.base (b2n (s.arbFrozen k) + 2)
  { s2 with florets := { s2.florets with
    arbWaiting := Store.write [] s2.florets.arbWaiting k.base [], arbLast := Store.write 0 s2.florets.arbLast k.base 0 } }

/-- A cluster loses its barriers and its arbiters' state. -/
def State.loseCluster (s : State) (c : Nat) : State :=
  let s1 : State := { s with florets := { s.florets with barriers := s.florets.barriers.filter (fun e => decide (e.1 / 16 ≠ c)) } }
  (List.range 4).foldl (fun (t : State) p => t.loseArbiter (.cluster c p)) s1

/-- A quadrant's items that are not split go back to the die's queue; a second time they end with E_UNIT_RESET. -/
def State.loseQuadrant (s : State) (d q : Nat) : State :=
  (s.florets.items.filter (fun x => decide (x.taken = some (.quadrant (4 * d + q))) && !x.split)).foldl (fun (t : State) x =>
    if x.returned.contains x.count then (t.setItem { x with fault := some (0, 0x0B, .none) }).settleItem x.id
    else t.setItem { x with taken := none, waitsAt := unitIndex (.die d), returned := x.returned ++ [x.count] }) s

/-- Steps 2 and 4 of R537 for one unit. -/
def State.loseUnit (s : State) (l : UnitLoc) : State :=
  let r := served .unitReset 0 .unitState
  match l with
  | .floret d q c f => s.loseFloret (1024 * d + 256 * q + 16 * c + f)
  | .cluster d q c => s.loseCluster (64 * d + 16 * q + c)
  | .quadrant d q => s.loseQuadrant d q
  | .hcu g sl u =>
    let key := hcuKey g sl u
    let s1 := s.hcuLose key .unitReset .unitState
    if key < 256 then s1.loseArbiter (.millstone key) else s1
  | .memCtl _ _ => (ctlChannels l).foldl (fun (t : State) c => (t.inChannel c).foldl (fun (u : State) d => u.failReq c d r) t) s
  | .meadowArray _ | .meadowGroup _ _ | .sketch _ _ _ => (s.meadowServes l).foldl (fun (t : State) q =>
      match t.vquery q.id with
      | some x => t.endVquery x r
      | none => t) s
  | .port p => if (s.port p).state = .disabled then s else s.portDown p .disabled
  | _ => s

/-- A port that is started trains when it is enabled. -/
def State.startUnit (s : State) (l : UnitLoc) : State :=
  match l with
  | .port p => if (s.port p).enable ∧ (s.port p).mode ≠ .disabled then s.startTraining p else s
  | _ => s

/-- Steps 1 to 4 of R537 for the units that follow a command; commands that were waiting for one of them to drain end with it. -/
def State.resetUnits (s : State) (us : List UnitLoc) : State :=
  let ix := us.map unitIndex
  let s1 : State := { s with power := { s.power with commands := s.power.commands.filter (fun c => !(ix.contains c.target)) } }
  let s2 := us.foldl (fun (t : State) l => t.loseUnit l) (s1.setStates us .inReset)
  us.foldl (fun (t : State) l => t.setUnit l { t.unit l with epoch := ((t.unit l).epoch + 1) % 65536 }) s2

/-! ### The commands (R535-R537, R539) -/

/-- The firmware that an activated bank brings to the dies, or to the port dies, when nothing else of it differs (R449). -/
def State.unitFirmware (s : State) (l : UnitLoc) : State :=
  match s.sec.activated with
  | none => s
  | some b =>
    let d := fun (k : Nat) => (s.bank b).digests.getD (k - 2) (List.replicate 48 0)
    let only := fun (k : Nat) => [2, 3, 4, 5].all (fun j => decide (j = k) || decide (d j = s.measurement j))
    let put := fun (k : Nat) => ({ s with sec := { s.sec with
      measurements := Store.write (List.replicate 48 0) s.sec.measurements k (d k) } } : State).measurementsUpdated
    match l with
    | .die _ => if only 4 then put 4 else s
    | .portDie _ => if only 5 then put 5 else s
    | _ => s

/-- A command that is accepted acts. -/
def State.unitDo (s : State) (c : UnitCmd) (l : UnitLoc) : State :=
  let us := s.followers c l
  let open_ := fun (t : State) (deadline : Option Nat) => { t with power := { t.power with
    commands := t.power.commands ++ [{ target := unitIndex l, cmd := c, units := us.map unitIndex, deadline := deadline }] } }
  match c with
  | .quiesce | .updateBegin =>
    open_ (s.setStates us .quiescing) (some (s.now + usUnits (s.num O.quiesceTimeoutUs 10000)))
  | .resume => (s.setStates us .active).unitOutcome l .ok
  | .reset =>
    if l = .package ∨ l = .hub then (s.unitOutcome l .ok).commandWarm .unitPackage
    else open_ (us.foldl (fun (t : State) m => t.startUnit m) (s.resetUnits us)) none
  | .powerDown => ((s.resetUnits us).setStates us .poweredDown).unitOutcome l .ok
  | .powerUp =>
    let zero := fun (t : State) (m : UnitLoc) => match m with
      | .cluster d q k => t.zeroClusterSram (64 * d + 16 * q + k)
      | _ => t.startUnit m
    open_ (us.foldl zero (s.setStates us .inReset)) none
  | .updateEnd => open_ (us.foldl (fun (t : State) m => t.startUnit m) (s.resetUnits us)) none

/-- A write of unit_command. -/
def State.unitCommand (s : State) (u : Nat) (c : UnitCmd) : State :=
  match unitLoc u with
  | none => s.answer (refusal .rsvd)
  | some l =>
    if !(s.present l) ∨ !(s.depthUsed l) then s.answer (refusal .rsvd)
    else
      let r := s.representative l
      if r = some 0xFFFF then s.answer (refusal .param)
      else if r.isSome ∧ !(s.isHere (r.getD 0xFFFF)) then
        s.emit (.forward (r.getD 0) { op := 2, index := u, sub := 4, offset := 0, total := some 1, data := [BitVec.ofNat 8 c.code] })
      else match s.unitRefusal c l with
        | some a => (s.unitOutcome l a.status).answer a
        | none => (s.unitDo c l).answer (served)

/-- The write comes on a path, whose arm it ends (R492). -/
def State.unitWrite (s : State) (p : DictPath) (u : Nat) (c : UnitCmd) : State := (s.takeArm (.dict p) 0).2.unitCommand u c

def execUnitQuiesce (p : DictPath) (u : Nat) (s : State) : Result := .next (s.begin.whenRunning (fun t => t.unitWrite p u .quiesce))
def execUnitResume (p : DictPath) (u : Nat) (s : State) : Result := .next (s.begin.whenRunning (fun t => t.unitWrite p u .resume))
def execUnitReset (p : DictPath) (u : Nat) (s : State) : Result := .next (s.begin.whenRunning (fun t => t.unitWrite p u .reset))
def execUnitPowerDown (p : DictPath) (u : Nat) (s : State) : Result :=
  .next (s.begin.whenRunning (fun t => t.unitWrite p u .powerDown))
def execUnitPowerUp (p : DictPath) (u : Nat) (s : State) : Result := .next (s.begin.whenRunning (fun t => t.unitWrite p u .powerUp))
def execUnitUpdateBegin (p : DictPath) (u : Nat) (s : State) : Result :=
  .next (s.begin.whenRunning (fun t => t.unitWrite p u .updateBegin))
def execUnitUpdateEnd (p : DictPath) (u : Nat) (s : State) : Result :=
  .next (s.begin.whenRunning (fun t => t.unitWrite p u .updateEnd))

/-- A command that waits for its units to drain. -/
def UnitCommand.drains (c : UnitCommand) : Bool := decide (c.cmd = .quiesce) || decide (c.cmd = .updateBegin)

/-- Nothing is in execution any more: the units reach the state the command ends in (R536, R556). -/
def State.endDrain (s : State) (c : UnitCommand) : State :=
  let st : UnitState := if c.contain then .faulted else if c.cmd = .updateBegin then .updating else .quiesced
  let us := (c.units.filterMap unitLoc).filter (fun l => decide ((s.unit l).state = .quiescing))
  let s1 := s.setStates us st
  let s2 : State := { s1 with power := { s1.power with commands := s1.power.commands.erase c } }
  if c.contain ∨ c.timedOut then s2
  else match unitLoc c.target with
    | some l => s2.unitOutcome l .ok
    | none => s2

/-- The draining command of a unit; a containment before any other. -/
def State.draining (s : State) (u : Nat) : Option UnitCommand :=
  match s.power.commands.find? (fun c => c.contain && decide (c.target = u)) with
  | some c => some c
  | none => s.power.commands.find? (fun c => c.drains && decide (c.target = u))

def State.quiesceDrained (s : State) (u : Nat) : State :=
  match s.draining u with
  | none => s
  | some c => if s.drained c then s.endDrain c else s

def execQuiesceDrained (u : Nat) (s : State) : Result := .next (s.begin.whenRunning (fun t => t.quiesceDrained u))

/-- quiesce_timeout_us passes: the outcome is E_TIMEOUT, or OK when the last request completes in the same cycle (R536, R540). -/
def execQuiesceTimeout (u : Nat) (s : State) : Result :=
  .next (s.begin.whenRunning (fun t =>
    match t.power.commands.find? (fun c => c.drains && !c.contain && !c.timedOut && decide (c.target = u)), unitLoc u with
    | some c, some l =>
      let t1 := t.elapse (c.deadline.getD 0)
      if t1.drained c then t1.endDrain c
      else ({ t1 with power := { t1.power with
        commands := t1.power.commands.map (fun d => if d = c then { d with timedOut := true } else d) } } : State).unitOutcome l .timeout
    | _, _ => t))

/-- Zeroing or retraining is done: the units are ACTIVE (R537 step 5). -/
def execUnitResetComplete (u : Nat) (s : State) : Result :=
  .next (s.begin.whenRunning (fun t =>
    match t.power.commands.find? (fun c => !c.drains && decide (c.target = u)), unitLoc u with
    | some c, some l =>
      let us := (c.units.filterMap unitLoc).filter (fun m => decide ((t.unit m).state = .inReset))
      let t1 := (t.setStates us .active).unitOutcome l .ok
      let t2 : State := { t1 with power := { t1.power with commands := t1.power.commands.erase c } }
      if c.cmd = .updateEnd then t2.unitFirmware l else t2
    | _, _ => t))

/-! ### Containment (R176, R556, R557) -/

/-- Containments whose plan no longer runs take effect. -/
def State.containDue (s : State) : State :=
  let due := fun (w : Nat × Bool × Nat) => !(planLive (s.slot w.2.2).state)
  let ws := s.power.containWaits.filter due
  if ws.isEmpty then s
  else
    let s1 : State := { s with power := { s.power with containWaits := s.power.containWaits.filter (fun w => !(due w)) } }
    ws.foldl (fun (t : State) w =>
      if w.2.1 then t.fenceNow w.1
      else match unitLoc w.1 with
        | some l => t.startContain l
        | none => t) s1

/-- 1 ms into a containment, what is still in execution is ended as by a reset (R556). -/
def execContainmentTimeout (u : Nat) (s : State) : Result :=
  .next (s.begin.whenRunning (fun t =>
    match t.power.commands.find? (fun c => c.contain && decide (c.target = u)) with
    | none => t
    | some c =>
      let t1 := t.elapse (c.deadline.getD 0)
      if t1.drained c then t1.endDrain c
      else
        let us := (c.units.filterMap unitLoc).filter (fun l => decide ((t1.unit l).state = .quiescing))
        (us.foldl (fun (v : State) l => v.loseUnit l) t1).endDrain c))

/-- A request has been in execution for longer than unit_hang_ms (R553). -/
def execUnitHangTimeout (u : Nat) (s : State) : Result :=
  .next (s.begin.whenRunning (fun t =>
    match unitLoc u with
    | none => t
    | some l => if t.present l && t.executing l then t.containUnit l 0x22 (unitKind l) else t))

/-- An unfence (R555, R558, R574): FENCED clears and ENABLE stays 0. -/
def State.portUnfence (t : State) (a : Access) (port : Nat) : State :=
  let clear := fun (u : State) => { u with faults := { u.faults with
    fenced := u.faults.fenced &&& ~~~(BitVec.ofNat 36 (2 ^ port)) } }
  match a with
  | .csr _ => t.mgmtWrite a (R.fltFenceLo + 4 * (port / 32)) (if 36 ≤ port then some (refusal .rsvd) else none) clear
  | .dict _ => t.openWrite a 0 (if 36 ≤ port then some (refusal .param)
      else if !(t.present (.port port)) then some (refusal .rsvd) else none) clear

def execPortUnfence (a : Access) (port : Nat) (s : State) : Result :=
  .next (s.begin.whenRunning (fun t => t.portUnfence a port))

end Sys2Proof.Machine
end

