-- ==== Sys2Proof/Machine/PlanRows.lean ====
section
/-! DEFINITION. Commands after which a plan may run no more: containments that waited for its halt then take effect (R557), and the
completions that a commanded warm reset waits for (R531). -/

namespace Sys2Proof.Machine

/-- The coordinator decides an arm (R126). -/
def execArmDecision (slot : Nat) (s : State) : Result :=
  .next ((s.begin.whenRunning (fun t => t.armDecide slot)).containDue)

/-- disarm (R126). -/
def execPlanDisarm (a : Access) (slot : Nat) (s : State) : Result :=
  .next ((s.begin.whenRunning (fun t => t.planDisarm a slot)).containDue)

/-- A member hears disarm (R126). -/
def execDisarmReceived (planId : Word64) (s : State) : Result :=
  .next ((s.begin.whenRunning (fun t => t.memberDisarm planId)).containDue)

/-- The halt tick of the first halt (R136, R139). One by Rotation takes effect at that Rotation's first plan tick. -/
def execHaltTakesEffect (slot : Nat) (s : State) : Result :=
  .next ((s.begin.whenRunning (fun t =>
    let x := t.slot slot
    match x.image with
    | none => t
    | some i => match x.winner i.rotationTicks t.tick x.halts with
      | none => t
      | some w =>
        if !(planLive x.state) then t
        else if w.byRotation ∧ x.planTick < w.whenVal * i.rotationTicks then t
        else (t.atTick (if w.byRotation then 0 else w.whenVal / 32)).haltEffect slot)).containDue)

/-- A fabric tick of a slot. `slacks` names the exchanges of this tick whose slack is below 2 (R119). -/
def execPlanTick (slot : Nat) (slacks : List (Nat × Int)) (s : State) : Result :=
  .next ((s.begin.whenRunning (fun t => t.planStep slot slacks)).containDue)

/-- The tick after a quantum's last (R116). -/
def execSlipQuantumEnd (slot : Nat) (s : State) : Result :=
  .next ((s.begin.whenRunning (fun t =>
    let x := t.slot slot
    if x.state = .slipping ∧ x.remaining = 0 then t.planStep slot [] else t)).containDue)

/-- ROTATION_COUNT Rotations are complete (R111, R138). -/
def execRotationsComplete (slot : Nat) (s : State) : Result :=
  .next ((s.begin.whenRunning (fun t =>
    let x := t.slot slot
    match x.image with
    | none => t
    | some i =>
      if (x.state = .running ∨ x.state = .slipping) ∧ i.rotationCount ≠ 0 ∧ i.rotationCount * i.rotationTicks ≤ x.planTick then
        t.planStop slot .complete false
      else t)).containDue)

/-- A halt token arrives (R130, R136). -/
def execHaltToken (port : Option Nat) (h : HaltToken) (s : State) : Result :=
  .next ((s.begin.whenRunning (fun t => t.haltArrives port h)).containDue)

/-- holdover_limit_us pass in HOLDOVER (R122, R123). -/
def execHoldoverExpiry (s : State) : Result :=
  .next ((s.begin.whenRunning (fun t =>
    if t.plans.lock ≠ .holdover then t
    else (t.elapse (t.plans.holdoverAt + usUnits (t.num O.holdoverLimitUs 1000))).timeLost)).containDue)

/-- The last entry of a window is free: ENABLE reads 0 (R372), and a commanded reset that waited for it goes ahead (R531). -/
def execWindowDisableComplete (w : Nat) (s : State) : Result :=
  .next (s.begin.whenRunning (fun t => (t.windowDone w).resetIfQuiet))

/-- Running queries and merges of an index have stopped (R421), and a commanded reset that waited for it goes ahead (R531). -/
def execVsDisableComplete (index : Nat) (s : State) : Result :=
  .next (s.begin.whenRunning (fun t => (t.vsDone index).resetIfQuiet))

end Sys2Proof.Machine
end

