-- ==== Sys2Proof/Machine/Power.lean ====
section
/-! DEFINITION. Power, clocks, reset and boot (chapter 16), and the DIMM supply (chapter 18): R518-R534, R541-R546, R579, R580, R591. -/

namespace Sys2Proof.Machine

/-! ### Power-up (R518, R531) -/

/-- The input exceeds 44 V: soft start begins. -/
def execPowerUp (mv : Nat) (s : State) : Result :=
  let t := s.begin
  .next (if t.power.package = .off ∧ 44000 < mv then
      { t with power := { t.power with package := .softStart, since := t.now, inputMv := mv % 65536 } }
    else t)

/-- Soft start is complete: a cold reset follows, unless COLD_RESET_N is low. -/
def execSoftStartDone (s : State) : Result :=
  let t := s.begin
  .next (if t.power.package ≠ .softStart then t
    else if t.power.coldResetLow then { t with power := { t.power with package := .coldResetHeld } }
    else t.coldReset t.power.startCause)

/-! ### The power controller (R520, R547, R548) -/

/-- An event of vector 0x030: the manual states no ARG (R495). -/
def State.powerEvent (s : State) : State :=
  let a := s.free (2 ^ 32)
  a.2.eventOpen 0x030 (s.path .package) .ok a.1

/-- PWR_EVENTS bits are set. -/
def State.setPowerEvents (s : State) (b : BitVec 6) : State := { s with power := { s.power with events := s.power.events ||| b } }

/-- The first step of R520 that still applies. -/
def State.nextPowerStep (s : State) : Option Nat :=
  let some_ := fun (static : Bool) => (List.range 256).any (fun c => (s.clusterStatic c == static) && decide (600 < s.clusterPowered c))
  if some_ false then some 1
  else if 25 < 100 - 10 * s.powerStepsOf 2 then some 2
  else if some_ true then some 3 else none

/-- Input power is measured every µs. -/
def State.powerMonitor (s : State) (watts : Nat) : State :=
  let p := s.power
  let over_ := decide (p.limitW < watts)
  let under := decide (100 * watts ≤ 95 * p.limitW)
  let s1 := { s with power := { p with
    inputW := min watts 65535, inputCa := if p.inputMv = 0 then 0 else min 65535 (watts * 100000 / p.inputMv)
    overRun := if over_ then p.overRun + 1 else 0, underRun := if under then p.underRun + 1 else 0 } }
  if 10 ≤ s1.power.overRun then
    let s2 := { s1 with power := { s1.power with overRun := 0 } }
    match s2.nextPowerStep with
    | none => s2
    | some k => ({ s2 with power := { s2.power with powerSteps := p.powerSteps ++ [k], powerAt := s2.now } } : State).setPowerEvents 8
        |>.powerEvent
  else if 100 ≤ s1.power.underRun then
    { s1 with power := { s1.power with underRun := 0, powerSteps := p.powerSteps.dropLast, powerAt := s1.now } }
  else s1

def execPowerMonitorTick (watts : Nat) (s : State) : Result := .next (s.begin.whenRunning (fun t => t.powerMonitor watts))

/-! ### Sag, throttle and brownout (R521-R525) -/

/-- The package has power to lose: a brownout or a trip runs its sequence. -/
def State.powered (s : State) : Bool :=
  match s.power.package with
  | .running | .bootHold | .fuseHold | .referenceHold | .booting _ => true
  | _ => false

/-- An input sample, and SUPPLY_WARN_N. -/
def State.sagSample (s : State) (mv : Nat) (warnLow : Bool) : State :=
  let p := s.power
  let top := p.samples.foldl max 0
  let fast := decide (100 * mv < 95 * top)
  let low := if mv < 44000 then p.lowRun + 1 else 0
  let warned := if warnLow then p.warnRun + 1 else 0
  let brown := if mv < 40000 then p.brownRun + 1 else 0
  let injected := match p.injectedSag with | some e => decide (s.now < e) | none => false
  let slow := decide (10 ≤ low)
  let shelf := decide (2 ≤ warned) || injected
  let trigger := fast || slow || shelf
  let calm := !trigger && decide (46000 ≤ mv) && !warnLow
  let s1 := { s with power := { p with
    inputMv := min mv 65535, supplyWarn := warnLow, samples := (mv :: p.samples).take 20, lowRun := low, warnRun := warned
    brownRun := brown, injectedSag := if injected then p.injectedSag else none
    calmSince := if calm then some (p.calmSince.getD s.now) else none } }
  let lowest := (s1.power.samples.take 3).foldl min mv
  if !s.powered then s1
  else
    let s2 := if s.running && trigger then
        let u := s1.setPowerEvents (BitVec.ofNat 6 (b2n fast + 2 * b2n slow + 4 * b2n shelf))
        let v := if p.sag = .none then (u.bump O.sagThrottles).powerEvent else u
        { v with power := { v.power with sag := .inForce } }
      else s1
    if 3 ≤ brown then s2.brownout false lowest else s2

def execSagSample (mv : Nat) (warnLow : Bool) (s : State) : Result := .next (s.begin.sagSample mv warnLow)

/-- What was written while a throttle was in force applies (R527). -/
def State.applyStored (s : State) : State :=
  if s.power.sag ≠ .none ∨ s.power.thermal then s
  else
    let s1 := { s with power := { s.power with limitW := s.num O.powerLimitW 3000 } }
    ((List.range 256).filter (fun c => !(s1.clusterStatic c) && s1.florets.clockRises.all (fun e => decide (e.1 ≠ c)))).foldl
      (fun (t : State) c => t.setClusterClock c (t.num (O.clusterClockRequestMhz (unitIndex (clusterLoc c))) 1800)) s1

/-- A release step of R523: the conditions have held for sag_release_us, or 250 ns have passed since the step before. -/
def State.releaseStep (s : State) : State :=
  let put := fun (t : State) (k : Nat) =>
    let u : State := { t with power := { t.power with
      sag := if 4 ≤ k then .none else .releasing k, releaseDue := t.now + nsUnits 250 } }
    if 4 ≤ k then u.applyStored else u
  match s.power.sag, s.power.calmSince with
  | .inForce, some c => put (s.elapse (c + usUnits (s.num O.sagReleaseUs 2))) 1
  | .releasing k, _ => put (s.elapse s.power.releaseDue) (k + 1)
  | _, _ => s

def execThrottleRelease (s : State) : Result := .next (s.begin.whenRunning (fun t => t.releaseStep))

/-- The input has stayed at or above 44 V for 10 ms in BROWNOUT. -/
def execBrownoutRecovery (s : State) : Result :=
  let t := s.begin
  .next (if t.power.package = .brownout ∧ 44000 ≤ t.power.inputMv ∧ !t.power.coldResetLow then t.warmReset .brownoutRecovery else t)

/-- The input falls below 36 V: all power is lost. After a trip the input counts as removed (R526). -/
def execBrownoutLoss (mv : Nat) (s : State) : Result :=
  let t := s.begin
  let gone := fun (c : ResetCause) => { t with power := { t.power with
    package := .off, startCause := c, since := t.now, inputMv := mv, standby := none, standbyWatchdog := none, dimmSupply := false } }
  .next (if 36000 ≤ mv then t
    else match t.power.package with
      | .brownout => gone .brownoutLoss
      | .thermalOff => gone .thermalTrip
      | .coldResetHeld | .softStart => gone .powerOn
      | _ => t)

/-! ### Thermal limits (R526) -/

def State.thermalSample (s : State) (c16 : Nat) : State :=
  let s1 := { s with power := { s.power with jmax := min c16 4095 } }
  if !s1.powered then s1
  else if 1680 ≤ c16 then s1.brownout true c16
  else if 1600 ≤ c16 ∧ s1.running ∧ !s1.power.thermal then
    (({ s1 with power := { s1.power with thermal := true, thermalAt := s1.now } } : State).setPowerEvents 16).powerEvent
  else s1

def execThermalSample (c16 : Nat) (s : State) : Result := .next (s.begin.thermalSample c16)

/-- Steps of the thermal throttle on dynamic and on static clusters. -/
def State.setThermal (s : State) (dyn static : Nat) : State :=
  { s with power := { s.power with thermalDyn := dyn, thermalStatic := static } }

/-- A cluster runs above 600 MHz under the thermal throttle. -/
def State.canSlow (s : State) (static : Bool) : Bool :=
  (List.range 256).any (fun c => (s.clusterStatic c == static) && decide (600 < s.clusterThermal c))

/-- Another ms of the thermal throttle: clocks fall at 100 °C, dynamic clusters first, and rise again below 97 °C. -/
def State.thermalMs (s : State) : State :=
  let d := s.power.thermalDyn
  let k := s.power.thermalStatic
  if 1600 ≤ s.power.jmax then
    if s.canSlow false then s.setThermal (d + 1) k else if s.canSlow true then s.setThermal d (k + 1) else s
  else if 1552 ≤ s.power.jmax then s
  else if k ≠ 0 then s.setThermal d (k - 1)
  else s.setThermal (d - 1) 0

/-- The throttle ends when every step has been undone. -/
def State.thermalEnd (s : State) : State :=
  if s.power.jmax < 1552 ∧ s.power.thermalDyn = 0 ∧ s.power.thermalStatic = 0 then
    ({ s with power := { s.power with thermal := false } } : State).applyStored
  else s

def State.thermalStep (s : State) : State :=
  if !s.power.thermal then s
  else
    let t := s.elapse (s.power.thermalAt + msUnits 1)
    ({ t with power := { t.power with thermalAt := t.now } } : State).thermalMs.thermalEnd

def execThermalThrottleStep (s : State) : Result := .next (s.begin.whenRunning (fun t => t.thermalStep))

/-! ### Clocks (R528, R530) -/

/-- The reference is compared with the recovered clocks of the ACTIVE Opvitik ports: `ppb` is its offset from their median and
`parentPpb` that from the time parent's rate, where there is a parent. -/
def State.referenceCheck (s0 : State) (ppb : Int) (parentPpb : Option Int) (stopped : Bool) : State :=
  let s := match parentPpb with
    | none => s0
    | some d => s0.setNum O.referenceOffsetPpb (i32 d)
  let heard := s.links.ports.any (fun e => decide (e.2.state = .active) && decide (e.2.mode = .opvitik))
  if !stopped && !(decide (200000 < ppb.natAbs) && heard) then s
  else
    let s1 := s.liveSlots.foldl (fun (t : State) n => t.planContain n .timeLoss) s
    let s2 := (List.range 36).foldl (fun (t : State) p => if (t.port p).state = .disabled then t else t.portDown p .disabled) s1
    let s3 := (s2.fault 0x42 (s2.path .package) 0).warmReset .referenceFail
    ({ s3 with power := { s3.power with package := .referenceHold } } : State).setNum O.referenceState 1

def execReferenceMonitor (ppb : Int) (parentPpb : Option Int) (stopped : Bool) (s : State) : Result :=
  .next (s.begin.whenRunning (fun t => t.referenceCheck ppb parentPpb stopped))

/-- A write of clock_request_mhz. -/
def State.clockRequest (s : State) (p : DictPath) (cluster mhz : Nat) : State :=
  let k := O.clusterClockRequestMhz (unitIndex (clusterLoc cluster))
  let bad := mhz < 600 ∨ 2000 < mhz ∨ mhz % 100 ≠ 0
  s.openWrite (.dict p) 0 (if 256 ≤ cluster then some (refusal .rsvd) else if bad then some (refusal .param) else none) (fun t =>
    let t1 := t.setNum k mhz
    let rises := t1.florets.clockRises.filter (fun e => decide (e.1 ≠ cluster))
    let put := fun (l : List (Nat × Nat)) => { t1 with florets := { t1.florets with clockRises := l } }
    if t1.clusterStatic cluster ∨ t1.power.sag ≠ .none ∨ t1.power.thermal then put rises
    else if t1.clusterSet cluster < mhz then put (rises ++ [(cluster, mhz)])
    else (put rises).setClusterClock cluster mhz)

def execClockRequestWrite (p : DictPath) (cluster mhz : Nat) (s : State) : Result :=
  .next (s.begin.whenRunning (fun t => t.clockRequest p cluster mhz))

/-- A quadrant's rail has settled: the dividers change. Its voltage is not in the manual. -/
def State.railSettled (s : State) (q : Nat) : State :=
  let mine := s.florets.clockRises.filter (fun e => decide (e.1 / 16 = q))
  let s1 := { s with florets := { s.florets with clockRises := s.florets.clockRises.filter (fun e => decide (e.1 / 16 ≠ q)) } }
  let v := s1.free 65536
  let s2 : State := { v.2 with power := { v.2.power with rails := Store.write 0 v.2.power.rails q v.1 } }
  if s2.power.sag ≠ .none ∨ s2.power.thermal then s2
  else (mine.filter (fun e => !(s2.clusterStatic e.1))).foldl (fun (t : State) e => t.setClusterClock e.1 e.2) s2

def execRailSettled (quadrant : Nat) (s : State) : Result :=
  .next (s.begin.whenRunning (fun t => if quadrant < 16 then t.railSettled quadrant else t))

/-! ### Resets (R531, R591) -/

/-- COLD_RESET_N is low for 1 µs or more. -/
def execColdResetPin (s : State) : Result :=
  let t := s.begin
  .next { t with power := { t.power with
    coldResetLow := true, dimmSupply := false
    package := match t.power.package with | .off => .off | .softStart => .softStart | _ => .coldResetHeld } }

/-- A rising edge of COLD_RESET_N. -/
def execColdResetRelease (s : State) : Result :=
  let t := s.begin
  let u := { t with power := { t.power with coldResetLow := false } }
  .next (if t.power.package = .coldResetHeld then u.coldReset .coldPin else u)

/-- Resets that a command starts are taken while the package runs, and from the dictionary in Boot Hold and Fuse Hold (R542, R545). -/
def State.resetGate (s : State) (a : Access) (f : State → State) : State :=
  let held := match a with | .dict _ => true | .csr _ => false
  if s.running || (held && (decide (s.power.package = .bootHold) || decide (s.power.package = .fuseHold))) then f s else s

/-- What refuses a reset that a command starts. -/
def State.resetCheck (s : State) : Option Response := if s.liveSlots.isEmpty then none else some (refusal .busy)

def execResetCommandWarm (a : Access) (s : State) : Result :=
  .next (s.begin.resetGate a (fun t => t.mgmtWrite a R.pwrResetCmd t.resetCheck (fun u => u.commandWarm .commandWarm) true))

def execResetCommandCold (a : Access) (s : State) : Result :=
  .next (s.begin.resetGate a (fun t => t.mgmtWrite a R.pwrResetCmd t.resetCheck (fun u => u.coldReset .commandCold) true))

/-! ### The watchdog (R534) -/

/-- Parts whose heartbeat is missing. -/
def State.missingParts (s : State) : Nat := 63 - s.power.heartbeats.toNat

/-- The watchdog starts its period again. -/
def State.watchdogStart (s : State) : State :=
  { s with power := { s.power with
    heartbeats := 0, watchdogAt := s.now, warned := false, watchdogMs := s.num O.watchdogTimeoutMs 2000 } }

def execHeartbeat (part : Nat) (s : State) : Result :=
  .next (s.begin.whenRunning (fun t => if part < 6 then
    { t with power := { t.power with heartbeats := t.power.heartbeats ||| BitVec.ofNat 6 (2 ^ part) } } else t))

def execWatchdogRestart (s : State) : Result :=
  .next (s.begin.whenRunning (fun t => if t.missingParts = 0 then t.watchdogStart else t))

def execWatchdogWarning (s : State) : Result :=
  .next (s.begin.whenRunning (fun t =>
    if t.power.warned then t
    else
      let u := t.elapse (t.power.watchdogAt + msUnits t.power.watchdogMs / 2)
      ({ u with power := { u.power with warned := true } } : State).fault 0x23 (u.path .package) u.missingParts))

def execWatchdogExpiry (s : State) : Result :=
  .next (s.begin.whenRunning (fun t =>
    let u := t.elapse (t.power.watchdogAt + msUnits t.power.watchdogMs)
    let m := u.missingParts
    let v := ({ u with power := { u.power with standbyWatchdog := some (u.ftc, m) } } : State).warmReset .watchdog
    (v.bump32 O.watchdogExpiries).setNum O.watchdogMissing m))

/-! ### DIMM supply (R579, R580) -/

/-- A DIMM draws more than 2.5 A: its switch opens and its channel is declared failed. -/
def execDimmOvercurrent (dimm : Nat) (s : State) : Result :=
  .next (s.begin.whenRunning (fun t =>
    if 32 ≤ dimm ∨ !t.power.dimmSupply ∨ t.chanFrames (256 + dimm / 2) = 0 then t
    else ({ t with power := { t.power with dimmOff := Store.write false t.power.dimmOff dimm true } } : State).channelFailed (256 + dimm / 2)))

/-- The feed has been below 11.0 V for 50 µs: every far channel is declared failed. -/
def execDimmFeedLow (s : State) : Result :=
  .next (s.begin.whenRunning (fun t =>
    (List.range 16).foldl (fun (u : State) k => u.channelFailed (256 + k)) { t with power := { t.power with feedGood := false } }))

/-! ### Fuses (R543-R546) -/

/-- A re-read of the array: words that read marginal (1) or unresolved (2), or clean (0), and whether their value differs. -/
def State.fuseReread (s : State) (changed : List (Nat × Nat × Bool)) : State :=
  let s0 := s.elapse (s.power.rereadAt + usUnits (1000000 * s.num O.fuseRereadS 3600))
  let s1 := ({ s0 with power := { s0.power with rereadAt := s0.now } } : State).setNum O.fuseLastRereadFtc s0.ftc
  changed.foldl (fun (t : State) e =>
    if e.2.2 ∨ e.2.1 = 2 then (t.bump32 O.fuseRereadMismatches).fault 0x40 (t.path .package) e.1 0 .fuse
    else if e.2.1 = 1 ∧ Store.read .clean t.power.fuses e.1 = .clean ∧ !(t.power.fuseMarginal.contains e.1) then
      { t with power := { t.power with fuseMarginal := t.power.fuseMarginal ++ [e.1] } }
    else t) s1

def execFuseReread (changed : List (Nat × Nat × Bool)) (s : State) : Result :=
  .next (s.begin.whenRunning (fun t => t.fuseReread changed))

/-! ### Boot (R541, R542, R545) -/

/-- The fuse classes that step 1 finds: 1 marginal, 2 unresolved. -/
def fuseClasses (l : List (Nat × Nat)) : Store FuseClass :=
  l.foldl (fun (st : Store FuseClass) e => if e.1 < 1024 then
    Store.write .clean st e.1 (if e.2 = 1 then .marginal else if e.2 = 2 then .unresolved else .clean) else st) []

/-- A record formed from what the standby domain kept (R553): its FTC is the kept one. -/
def State.lateFault (s : State) (code arg ftc : Nat) : State :=
  let t := s.fault code (s.path .package) arg
  { t with faults := { t.faults with
    log := t.faults.log.dropLast ++ (t.faults.log.getLast?.toList.map (fun (r : FaultRec) => { r with ftc := ftc })) } }

/-- Step 5: measurements, the records that waited for the restart, and the watchdog. -/
def State.bootFive (s : State) (b : Nat) : State :=
  let put := fun (m : Store (List Byte)) (k : Nat) =>
    Store.write (List.replicate 48 0) m k ((s.bank b).digests.getD (k - 2) (List.replicate 48 0))
  let s1 : State := { s with sec := { s.sec with measurements := [2, 3, 4, 5].foldl put s.sec.measurements } }
  let s2 := match s1.power.standby with
    | some r => s1.lateFault (if r.trip then 0x50 else 0x51) r.arg r.ftc
    | none => s1
  let s3 := match s2.power.standbyWatchdog with
    | some w => s2.lateFault 0x24 w.2 w.1
    | none => s2
  ({ s3 with power := { s3.power with standby := none, standbyWatchdog := none } } : State).watchdogStart

/-- Step 6: a channel whose SPD read or training fails, or whose DIMM has no feed, is FAILED. -/
def State.bootSix (s : State) (cold : Bool) (channels : List Nat) (feedLow : Bool) : State :=
  let s1 := { s with power := { s.power with dimmSupply := true, feedGood := !feedLow } }
  (List.range 272).foldl (fun (t : State) c =>
    let bad := channels.contains c || (feedLow && decide (256 ≤ c))
    if t.chanAbsent c ∨ (t.chan c).state = .empty then t
    else if cold then
      let x := Store.read ({} : Channel) t.pool.channels c
      t.setChan c (if bad then { x with state := .failed } else { x with clearStart := t.ftc })
    else if bad then t.channelFailed c else t) s1

/-- Step 7: dies and port dies start; a unit that does not is contained, and enabled ports train. -/
def State.bootSeven (s : State) (failed : List Nat) : State :=
  let s1 := { s with power := { s.power with package := .running, since := s.now } }
  let s2 := (failed.filterMap unitLoc).foldl (fun (t : State) l =>
    if !(t.present l) then t
    else (t.setStates (unitSubtree t.chip.variant l) .faulted).fault 0x21 (t.path l) (unitKind l) 2) s1
  (List.range 36).foldl (fun (t : State) p => if t.closed (.port p) then t else t.startUnit (.port p)) s2

/-- The secure boot, from the step at which the package stands. `bankOk` says of each bank whether its image starts and measures;
`failed` names units that do not start, `channels` memory channels that fail; `fuses` the words that are not clean. -/
def State.boot (s : State) (k : Nat) (bankOk : List Bool) (failed channels : List Nat) (fuses : List (Nat × Nat)) (feedLow : Bool) :
    State :=
  let s1 := if k = 1 then { s with power := { s.power with fuses := fuseClasses fuses, fuseMarginal := [], rereadAt := s.now } } else s
  if s1.power.fuses.any (fun e => decide (e.2 = .unresolved)) then { s1 with power := { s1.power with package := .fuseHold } }
  else
    let good := fun (b : Nat) => (s1.bank b).signed && decide (s1.power.fusedSvn ≤ (s1.bank b).svn) && bankOk.getD b false
    let first := s1.sec.activated.getD s1.sec.running
    let took := fun (b : Nat) (fell : Bool) =>
      let new := if s1.sec.activated = some b then some b else if s1.sec.bootedNew = some b then some b else none
      let t := if fell then s1.bump32 O.bootFallbacks else s1
      let u := ({ t with
        sec := { t.sec with activated := none, running := b, bootedNew := new }
        power := { t.power with bootBank := b } } : State).bootFive b
      (u.bootSix (decide (k = 1)) channels feedLow).bootSeven failed
    if good first then took first false
    else if good (1 - first) then took (1 - first) true
    else { s1 with
      sec := { s1.sec with activated := none }
      power := { s1.power with package := .bootHold } }

def execBoot (bankOk : List Bool) (failed : List Nat) (channels : List Nat) (fuses : List (Nat × Nat)) (feedLow : Bool) (s : State) :
    Result :=
  let t := s.begin
  .next (match t.power.package with
    | .booting k => t.boot k bankOk failed channels fuses feedLow
    | _ => t)

end Sys2Proof.Machine
end

