-- ==== Sys2Proof/Machine/Inject.lean ====
section
/-! DEFINITION. Fault injection (R559-R562), and the meters that are sampled every ms (R500, R573). -/

namespace Sys2Proof.Machine

/-! ### Writes of RWL objects (R15, R492) -/

/-- An index is armed for a path. -/
def State.dictArmed (s : State) (p : DictPath) (index : Nat) : Bool :=
  match (s.pathState p).arm with
  | some (i, due) => decide (i = index) && decide (s.now < due)
  | none => false

/-- A write of an RWL object: E_LOCKED without an arm, which it ends. -/
def State.lockedWrite (s : State) (p : DictPath) (index : Nat) (check : Option Response) (eff : State → State) : State :=
  s.openWrite (.dict p) 0 (if s.dictArmed p index then check else some (refusal .locked)) eff

/-! ### Entries (R559, R560) -/

def State.injection (s : State) (e : Nat) : InjectEntry := Store.read ({} : InjectEntry) s.faults.inject e
def State.setInjection (s : State) (e : Nat) (x : InjectEntry) : State :=
  { s with faults := { s.faults with inject := Store.write ({} : InjectEntry) s.faults.inject e x } }

/-- The unit of this package that a path names, in any variant. -/
def State.unitAt (s : State) (path : Nat) : Option UnitLoc :=
  (unitSubtree .dzm3608 .package).find? (fun l => decide (s.path l = path))

/-- A target's kind suits a KIND of injection. -/
def injectSuits (kind : Nat) (l : UnitLoc) : Bool :=
  match l with
  | .port _ => decide (1 ≤ kind) && decide (kind ≤ 3) || decide (kind = 8)
  | .memCtl _ _ => decide (kind = 4) || decide (kind = 5) || decide (kind = 8)
  | .package => decide (kind = 6) || decide (kind = 7)
  | .hubSection 5 => false
  | .span | .trayGroup | .tray => false
  | _ => decide (kind = 8)

/-- PARAM lies in the range of its KIND. -/
def injectParamOk (kind param : Nat) : Bool :=
  match kind with
  | 1 => decide (1 ≤ param) && decide (param ≤ 16)
  | 2 => decide (param ≤ 15)
  | 3 => decide (param = 0)
  | 4 => decide (1 ≤ param) && decide (param ≤ 1000)
  | 5 => decide (1 ≤ param) && decide (param ≤ 1024)
  | 6 => decide (1 ≤ param) && decide (param ≤ 1000)
  | 7 => decide (param ≤ 7)
  | 8 => decide (param = 0)
  | _ => false

/-- What refuses an arm. -/
def State.injectCheck (s : State) (x : InjectEntry) : Option Status :=
  if s.num O.injectEnable 0 = 0 then some .locked
  else if x.armed then some .busy
  else if !(injectParamOk x.kind x.param) then some .param
  else match s.unitAt x.target.toNat with
    | none => some .param
    | some l =>
      if !(injectSuits x.kind l) then some .param
      else if !(s.present l) then some .rsvd
      else if x.firstFtc % 32 ≠ 0 ∨ x.firstFtc < s.ftc + msUnits 1 then some .range else none

def State.injectArm (t : State) (p : DictPath) : State :=
  let e := t.num O.injectSelect 0
  let x := t.injection e
  t.openWrite (.dict p) 0 ((t.injectCheck x).map (fun st => refusal st)) (fun u =>
    u.setInjection e { x with armed := true, nextFtc := x.firstFtc, left := x.count })

def execInjectArm (p : DictPath) (s : State) : Result := .next (s.begin.whenRunning (fun t => t.injectArm p))

def State.injectCancel (t : State) (p : DictPath) : State :=
  let e := t.num O.injectSelect 0
  t.openWrite (.dict p) 0 none (fun u => u.setInjection e { u.injection e with armed := false })

def execInjectCancel (p : DictPath) (s : State) : Result := .next (s.begin.whenRunning (fun t => t.injectCancel p))

/-- A write of false to inject_enable cancels every entry. -/
def State.injectOff (s : State) : State :=
  (s.faults.inject.map (·.1)).foldl (fun (v : State) e => v.setInjection e { v.injection e with armed := false })
    (s.setNum O.injectEnable 0)

def execInjectDisable (p : DictPath) (s : State) : Result :=
  .next (s.begin.whenRunning (fun t => t.lockedWrite p 0x5800 none (fun u => u.injectOff)))

/-! ### Firings (R559, R561) -/

/-- SAG: the throttle as by SUPPLY_WARN_N, until its time has passed. -/
def State.injectSag (s : State) (us : Nat) : State :=
  let s1 := s.setPowerEvents 4
  let s2 := if s1.power.sag = .none then (s1.bump O.sagThrottles).powerEvent else s1
  { s2 with power := { s2.power with sag := .inForce, calmSince := none, injectedSag := some (s2.now + usUnits us) } }

/-- SLIP: one slip token for a plan slot. -/
def State.injectSlip (s : State) (n : Nat) : State :=
  let x := s.slot n
  (s.setSlot n { x with
    lateness := max x.lateness (64 * x.tokensOpen.length + 1), lateCause := .injected, lateOrigin := BitVec.ofNat 32 (s.path .package) }).slipIssue
    n s.tick true

/-- What a firing does: its effect, or the STATUS with which a rule refuses it. -/
def State.injectEffect (s : State) (x : InjectEntry) (l : UnitLoc) : Except Status State :=
  match x.kind, l with
  | 1, .port p => .ok { s with faults := { s.faults with
      linkReplay := s.faults.linkReplay.filter (fun e => decide (e.1 ≠ p)) ++ [(p, x.param)] } }
  | 2, .port p => .ok (s.laneFailed p x.param)
  | 3, .port p => if (s.port p).up ∧ (s.port p).mode = .opvitik then .ok ((s.bump (O.portReplayGiveups p)).portLost p) else .error .param
  | 4, .memCtl _ _ => .ok { s with faults := { s.faults with
      tierLate := s.faults.tierLate.filter (fun e => decide (e.1 ≠ unitIndex l)) ++ [(unitIndex l, x.param, s.now + usUnits 100)] } }
  | 5, .memCtl _ _ => .ok { s with faults := { s.faults with
      tierError := s.faults.tierError.filter (fun e => decide (e.1 ≠ unitIndex l)) ++ [(unitIndex l, x.param, 0)] } }
  | 6, _ => .ok (s.injectSag x.param)
  | 7, _ => if (s.slot x.param).state = .running ∨ (s.slot x.param).state = .slipping then .ok (s.injectSlip x.param) else .error .param
  | 8, _ => match s.unitRefusal .reset l with
    | some a => .error a.status
    | none => .ok (s.unitDo .reset l)
  | _, _ => .error .param

/-- An entry fires at its FTC: outcomes carry the flags of R561. After its last firing it is IDLE. -/
def State.injectFire (s : State) (e : Nat) : State :=
  let x := s.injection e
  if !x.armed then s
  else
    let s1 := s.atFtc x.nextFtc
    let left := x.left - 1
    let y := { x with left := left, armed := decide (0 < left), nextFtc := x.nextFtc + usUnits x.intervalUs }
    let skip := fun (st : Status) => s1.setInjection e { y with skipped := (y.skipped + 1) % 2 ^ 32, lastStatus := st }
    match s1.unitAt x.target.toNat with
    | none => skip .param
    | some l =>
      let s2 := s1.setInjection e { y with fired := (y.fired + 1) % 2 ^ 32, lastStatus := .ok }
      match ({ s2 with faults := { s2.faults with firing := some e } } : State).injectEffect x l with
      | .error st => skip st
      | .ok t => { t with faults := { t.faults with firing := none } }

def execInjectFire (entry : Nat) (s : State) : Result := .next (s.begin.whenRunning (fun t => t.injectFire entry))

/-! ### Meters (R500, R573) -/

/-- The next ms boundary of the model's clock. -/
def State.toMs (s : State) : State := s.elapse ((s.now / msUnits 1 + 1) * msUnits 1)

/-- Directory entries of an owner's windows. -/
def State.entriesOf (s : State) (k : Nat) : Nat :=
  ((s.coh.windows.filter (fun e => decide (ownerIx (s.part e.2.partition).tenant = k))).map (fun e => (s.windowEntries e.2).length)).sum

/-- Frames that an owner's partitions reserve. -/
def State.framesOf (s : State) (k : Nat) : Nat :=
  ((s.pool.parts.filter (fun e => decide (e.2.state ≠ .free) && decide (ownerIx e.2.tenant = k))).map (fun e => (e.2.reserved.map (·.2)).sum)).sum

/-- The mode in force for an owner, and whether a change waits for the boundary: both sets of meters hold then. -/
def State.meterHolds (s : State) (k : Nat) : Bool :=
  decide (k < 64) && decide (s.num ((0x5C01 + k) * 256 + 0x20) 0 ≠ Store.read 0 s.faults.meterMode k)

/-- The sample of one owner. -/
def State.sampleOwner (s : State) (k : Nat) : State :=
  let base := (0x5C01 + k) * 256
  if s.meterHolds k then s
  else if Store.read 0 s.faults.meterMode k = 0 then (s.meter k 0x07 (s.framesOf k)).meter k 0x10 (s.entriesOf k)
  else
    let clusters := ((List.range 256).filter (fun c => decide (s.clusterOwner c = k))).length
    let channels := ((List.range 272).filter (fun c => !(s.chanAbsent c) && decide ((s.chan c).owner = k))).length
    let ports := ((List.range 36).filter (fun p => decide ((s.bind p).tenant = k))).length
    let ways := ((List.range 16).filter (fun w => (s.waysOf k).getLsbD w)).length
    ((((s.bumpN (base + 0x21) clusters).bumpN (base + 0x22) channels).bumpN (base + 0x23) ports).bumpN (base + 0x24) ways).bumpN
      (base + 0x25) (s.quotaCells k)

def execMeterSample (s : State) : Result :=
  .next (s.begin.whenRunning (fun t => (List.range 65).foldl (fun (u : State) k => u.sampleOwner k) t.toMs))

/-- Changes of meter_mode take effect at the ms boundary. -/
def execMeterModeSwitch (s : State) : Result :=
  .next (s.begin.whenRunning (fun t =>
    let t1 := if (List.range 64).any (fun k => t.meterHolds k) then t.elapse (ceilDiv t.now (msUnits 1) * msUnits 1) else t
    { t1 with faults := { t1.faults with meterMode := (List.range 64).foldl (fun (m : Store Nat) k =>
        Store.write 0 m k (t1.num ((0x5C01 + k) * 256 + 0x20) 0)) t1.faults.meterMode } }))

/-! ### The management lane (R482) -/

/-- lane_state: 0 down, 1 training, 2 up. -/
def execManagementLaneLinkChange (lane : Nat) (s : State) : Result :=
  let t := s.begin
  .next (if lane ≤ 2 then t.setNum O.laneState lane else t)

end Sys2Proof.Machine
end

