-- ==== Sys2Proof/Machine/RegTable.lean ====
section
/-! DEFINITION. The CSR registers as the chapters list them (R47-R49 and every "Registers" section): byte offset in REGION 0x5,
repetition, reset value, fields with their access codes, and whether the register is guarded (R512). Generated from the tables
of spec/, register by register. -/

namespace Sys2Proof.Machine

/-- Access codes of a field (R12, R13); a bit in no field is reserved (R11). -/
inductive FieldAcc where | rw | ro | wo | w1c | w1s | rsv
  deriving DecidableEq, Repr, Inhabited

/-- Bits hi to lo of a register and their access code. -/
structure RegField where
  hi  : Nat
  lo  : Nat
  acc : FieldAcc
  deriving DecidableEq, Repr, Inhabited

/-- A register, repeated over each (count, stride) of `dims`, largest stride first. -/
structure RegSpec where
  base    : Nat
  dims    : List (Nat × Nat) := []
  reset   : Nat := 0
  fields  : List RegField
  guarded : Bool := false
  deriving DecidableEq, Repr, Inhabited

def regTable0 : List RegSpec := [
  { base := 0x0000010, reset := 0x0000FFFF, fields := [⟨15, 0, .ro⟩] },
  { base := 0x0000014, reset := 0x30000000, fields := [⟨31, 28, .ro⟩, ⟨27, 24, .ro⟩, ⟨23, 20, .ro⟩, ⟨19, 16, .ro⟩, ⟨1, 0, .ro⟩] },
  { base := 0x0500000, fields := [⟨31, 0, .ro⟩] },
  { base := 0x0500004, fields := [⟨31, 0, .ro⟩] },
  { base := 0x0500008, reset := 0x0000FF00, fields := [⟨1, 0, .ro⟩, ⟨2, 2, .ro⟩, ⟨6, 3, .ro⟩, ⟨15, 8, .ro⟩, ⟨31, 16, .ro⟩] },
  { base := 0x0500100, dims := [(8, 0x20)], fields := [⟨2, 0, .ro⟩, ⟨3, 3, .ro⟩, ⟨7, 4, .ro⟩, ⟨8, 8, .ro⟩, ⟨9, 9, .ro⟩, ⟨23, 16, .ro⟩] },
  { base := 0x0500104, dims := [(8, 0x20)], fields := [⟨31, 0, .ro⟩] },
  { base := 0x0500108, dims := [(8, 0x20)], fields := [⟨31, 0, .ro⟩] },
  { base := 0x050010C, dims := [(8, 0x20)], fields := [⟨15, 0, .ro⟩, ⟨31, 16, .ro⟩] },
  { base := 0x0500110, dims := [(8, 0x20)], fields := [⟨3, 0, .wo⟩], guarded := true },
  { base := 0x0810000, dims := [(4, 0x200000), (64, 0x400), (4, 0x100)], reset := 0x00000002, fields := [⟨0, 0, .rw⟩, ⟨1, 1, .ro⟩] },
  { base := 0x0810004, dims := [(4, 0x200000), (64, 0x400), (4, 0x100)], reset := 0x0000ACE1, fields := [⟨15, 0, .rw⟩] },
  { base := 0x0810008, dims := [(4, 0x200000), (64, 0x400), (4, 0x100)], fields := [⟨15, 0, .ro⟩] },
  { base := 0x081000C, dims := [(4, 0x200000), (64, 0x400), (4, 0x100)], fields := [⟨4, 0, .ro⟩, ⟨5, 5, .ro⟩] },
  { base := 0x0810010, dims := [(4, 0x200000), (64, 0x400), (4, 0x100)], fields := [⟨19, 0, .w1c⟩] },
  { base := 0x0810014, dims := [(4, 0x200000), (64, 0x400), (4, 0x100)], reset := 0x00001000, fields := [⟨15, 0, .rw⟩] },
  { base := 0x0810040, dims := [(4, 0x200000), (64, 0x400), (4, 0x100), (20, 0x4)], reset := 0x00000010, fields := [⟨7, 0, .rw⟩] },
  { base := 0x08100A0, dims := [(4, 0x200000), (64, 0x400), (4, 0x100), (20, 0x4)], fields := [⟨15, 0, .ro⟩] },
  { base := 0x0300100, dims := [(65, 0x4)], reset := 0x00000010, fields := [⟨7, 0, .rw⟩] },
  { base := 0x0301000, dims := [(144, 0x4)], reset := 0x00400000, fields := [⟨0, 0, .ro⟩, ⟨1, 1, .ro⟩, ⟨8, 2, .ro⟩, ⟨22, 16, .ro⟩] },
  { base := 0x0301400, dims := [(36, 0x4)], fields := [⟨0, 0, .ro⟩, ⟨1, 1, .ro⟩, ⟨7, 2, .ro⟩, ⟨8, 8, .ro⟩, ⟨9, 9, .ro⟩, ⟨15, 10, .ro⟩] },
  { base := 0x0310000, dims := [(144, 0x200)], reset := 0x00000002, fields := [⟨0, 0, .rw⟩, ⟨1, 1, .ro⟩] },
  { base := 0x0201000, dims := [(14, 0x400)], reset := 0x00000002, fields := [⟨0, 0, .rw⟩, ⟨1, 1, .ro⟩] },
  { base := 0x0001000, reset := 0x00000002, fields := [⟨0, 0, .rw⟩, ⟨1, 1, .ro⟩] },
  { base := 0x0310004, dims := [(144, 0x200)], reset := 0x0000ACE1, fields := [⟨15, 0, .rw⟩] },
  { base := 0x0201004, dims := [(14, 0x400)], reset := 0x0000ACE1, fields := [⟨15, 0, .rw⟩] },
  { base := 0x0001004, reset := 0x0000ACE1, fields := [⟨15, 0, .rw⟩] },
  { base := 0x0310008, dims := [(144, 0x200)], fields := [⟨15, 0, .ro⟩] },
  { base := 0x0201008, dims := [(14, 0x400)], fields := [⟨15, 0, .ro⟩] },
  { base := 0x0001008, fields := [⟨15, 0, .ro⟩] },
  { base := 0x031000C, dims := [(144, 0x200)], fields := [⟨6, 0, .ro⟩, ⟨7, 7, .ro⟩] },
  { base := 0x020100C, dims := [(14, 0x400)], fields := [⟨6, 0, .ro⟩, ⟨7, 7, .ro⟩] },
  { base := 0x000100C, fields := [⟨6, 0, .ro⟩, ⟨7, 7, .ro⟩] },
  { base := 0x0310010, dims := [(144, 0x200)], fields := [⟨31, 0, .w1c⟩] },
  { base := 0x0201010, dims := [(14, 0x400)], fields := [⟨31, 0, .w1c⟩] },
  { base := 0x0001010, fields := [⟨31, 0, .w1c⟩] },
  { base := 0x0310014, dims := [(144, 0x200)], fields := [⟨31, 0, .w1c⟩] },
  { base := 0x0201014, dims := [(14, 0x400)], fields := [⟨31, 0, .w1c⟩] },
  { base := 0x0001014, fields := [⟨31, 0, .w1c⟩] },
  { base := 0x0310018, dims := [(144, 0x200)], fields := [⟨0, 0, .w1c⟩] }]

def regTable1 : List RegSpec := [
  { base := 0x0201018, dims := [(14, 0x400)], fields := [⟨0, 0, .w1c⟩] },
  { base := 0x0001018, fields := [⟨3, 0, .w1c⟩] },
  { base := 0x031001C, dims := [(144, 0x200)], reset := 0x00001000, fields := [⟨15, 0, .rw⟩] },
  { base := 0x020101C, dims := [(14, 0x400)], reset := 0x00001000, fields := [⟨15, 0, .rw⟩] },
  { base := 0x000101C, reset := 0x00001000, fields := [⟨15, 0, .rw⟩] },
  { base := 0x0310080, dims := [(144, 0x200), (65, 0x4)], fields := [⟨15, 0, .ro⟩] },
  { base := 0x0201080, dims := [(14, 0x400), (65, 0x4)], fields := [⟨15, 0, .ro⟩] },
  { base := 0x0001080, dims := [(68, 0x4)], fields := [⟨15, 0, .ro⟩] },
  { base := 0x0201200, dims := [(14, 0x400), (65, 0x4)], reset := 0x00000010, fields := [⟨7, 0, .rw⟩] },
  { base := 0x0200100, dims := [(9, 0x4)], fields := [⟨11, 0, .rw⟩] },
  { base := 0x0200200, dims := [(32, 0x8)], fields := [⟨31, 0, .rw⟩] },
  { base := 0x0200204, dims := [(32, 0x8)], fields := [⟨3, 0, .rw⟩] },
  { base := 0x0200300, fields := [⟨4, 0, .wo⟩, ⟨9, 8, .wo⟩], guarded := true },
  { base := 0x0200400, dims := [(65, 0x4)], fields := [⟨18, 0, .rw⟩] },
  { base := 0x0200600, dims := [(65, 0x4)], fields := [⟨18, 0, .ro⟩] },
  { base := 0x0208000, dims := [(30720, 0x4)], fields := [⟨5, 0, .rw⟩, ⟨7, 6, .rw⟩, ⟨21, 16, .rw⟩, ⟨23, 22, .rw⟩] },
  { base := 0x0228000, dims := [(4095, 0x8)], fields := [⟨31, 0, .rw⟩] },
  { base := 0x0228004, dims := [(4095, 0x8)], reset := 0x0000FF00, fields := [⟨3, 0, .rw⟩, ⟨4, 4, .rw⟩, ⟨5, 5, .rw⟩, ⟨15, 8, .rw⟩] },
  { base := 0x0230000, dims := [(32, 0x200), (64, 0x4)], fields := [⟨31, 0, .ro⟩] },
  { base := 0x0230100, dims := [(32, 0x200), (32, 0x4)], fields := [⟨31, 0, .ro⟩] },
  { base := 0x0240000, dims := [(36, 0x100)], fields := [⟨9, 0, .rw⟩, ⟨16, 16, .wo⟩, ⟨17, 17, .wo⟩, ⟨18, 18, .ro⟩] },
  { base := 0x0240004, dims := [(36, 0x100)], fields := [⟨31, 0, .rw⟩] },
  { base := 0x0240008, dims := [(36, 0x100)], fields := [⟨31, 0, .rw⟩] },
  { base := 0x024000C, dims := [(36, 0x100)], reset := 0x00020000, fields := [⟨9, 0, .ro⟩, ⟨10, 10, .ro⟩, ⟨11, 11, .ro⟩, ⟨14, 12, .ro⟩, ⟨15, 15, .ro⟩, ⟨19, 16, .ro⟩] },
  { base := 0x0240020, dims := [(36, 0x100), (12, 0x4)], reset := 0x00000041, fields := [⟨15, 0, .rw⟩] },
  { base := 0x0240054, dims := [(36, 0x100), (15, 0x4)], fields := [⟨15, 0, .rw⟩, ⟨16, 16, .rw⟩] },
  { base := 0x0240094, dims := [(36, 0x100), (15, 0x4)], fields := [⟨15, 0, .rw⟩, ⟨16, 16, .rw⟩] },
  { base := 0x0244000, fields := [⟨15, 0, .rw⟩, ⟨17, 16, .rw⟩] },
  { base := 0x0244004, fields := [⟨1, 0, .wo⟩] },
  { base := 0x0244010, dims := [(4, 0x4)], fields := [⟨31, 0, .rw⟩] },
  { base := 0x0260000, dims := [(36, 0x2000), (1024, 0x8)], reset := 0x0000FFFE, fields := [⟨15, 0, .rw⟩, ⟨16, 16, .rw⟩] },
  { base := 0x0260004, dims := [(36, 0x2000), (1024, 0x8)], reset := 0x00000001, fields := [⟨19, 0, .rw⟩, ⟨29, 20, .rw⟩] },
  { base := 0x0400000, reset := 0x00000002, fields := [⟨0, 0, .ro⟩, ⟨1, 1, .ro⟩, ⟨2, 2, .ro⟩, ⟨24, 16, .ro⟩] },
  { base := 0x0401000, dims := [(272, 0x4)], reset := 0x000001FE, fields := [⟨7, 0, .rw⟩, ⟨9, 8, .ro⟩, ⟨10, 10, .ro⟩] },
  { base := 0x0401800, dims := [(272, 0x4)], fields := [⟨22, 0, .ro⟩] },
  { base := 0x0402000, fields := [⟨8, 0, .wo⟩, ⟨13, 12, .wo⟩], guarded := true },
  { base := 0x0410000, dims := [(512, 0x40)], fields := [⟨31, 16, .rw⟩] },
  { base := 0x0410004, dims := [(512, 0x40)], fields := [⟨11, 0, .rw⟩] },
  { base := 0x0410008, dims := [(512, 0x40)], fields := [⟨27, 0, .rw⟩] },
  { base := 0x041000C, dims := [(512, 0x40)], fields := [⟨22, 0, .rw⟩] }]

def regTable2 : List RegSpec := [
  { base := 0x0410010, dims := [(512, 0x40)], fields := [⟨25, 0, .rw⟩] },
  { base := 0x0410014, dims := [(512, 0x40)], fields := [⟨7, 0, .rw⟩, ⟨16, 8, .rw⟩, ⟨20, 17, .rw⟩, ⟨25, 21, .rw⟩] },
  { base := 0x0410018, dims := [(512, 0x40)], reset := 0xFFFF00FF, fields := [⟨7, 0, .rw⟩, ⟨31, 16, .rw⟩] },
  { base := 0x041001C, dims := [(512, 0x40)], reset := 0x00000040, fields := [⟨1, 0, .wo⟩, ⟨3, 2, .ro⟩, ⟨4, 4, .ro⟩, ⟨5, 5, .ro⟩, ⟨6, 6, .rw⟩, ⟨15, 8, .ro⟩] },
  { base := 0x0410020, dims := [(512, 0x40)], fields := [⟨25, 0, .ro⟩] },
  { base := 0x0410024, dims := [(512, 0x40)], fields := [⟨22, 0, .ro⟩] },
  { base := 0x0410028, dims := [(512, 0x40)], fields := [⟨31, 6, .rw⟩] },
  { base := 0x041002C, dims := [(512, 0x40)], fields := [⟨31, 0, .rw⟩] },
  { base := 0x0410030, dims := [(512, 0x40)], fields := [⟨12, 0, .rw⟩] },
  { base := 0x0460000, dims := [(64, 0x20)], fields := [⟨8, 0, .rw⟩, ⟨16, 16, .rw⟩, ⟨31, 24, .ro⟩] },
  { base := 0x0460004, dims := [(64, 0x20)], fields := [⟨9, 0, .rw⟩, ⟨31, 16, .rw⟩] },
  { base := 0x0460008, dims := [(64, 0x20)], fields := [⟨27, 0, .ro⟩] },
  { base := 0x046000C, dims := [(64, 0x20)], fields := [⟨27, 0, .ro⟩] },
  { base := 0x0460010, dims := [(64, 0x20)], reset := 0x00000032, fields := [⟨6, 0, .rw⟩] },
  { base := 0x0461000, fields := [⟨10, 0, .ro⟩, ⟨29, 16, .ro⟩] },
  { base := 0x0380000, reset := 0x00000080, fields := [⟨11, 0, .rw⟩] },
  { base := 0x0380100, dims := [(65, 0x4)], fields := [⟨15, 0, .rw⟩] },
  { base := 0x0381000, dims := [(32, 0x20)], fields := [⟨31, 16, .rw⟩] },
  { base := 0x0381004, dims := [(32, 0x20)], fields := [⟨7, 0, .rw⟩] },
  { base := 0x0381008, dims := [(32, 0x20)], fields := [⟨19, 0, .rw⟩] },
  { base := 0x038100C, dims := [(32, 0x20)], fields := [⟨27, 0, .rw⟩] },
  { base := 0x0381010, dims := [(32, 0x20)], fields := [⟨8, 0, .rw⟩, ⟨16, 16, .rw⟩, ⟨17, 17, .ro⟩, ⟨31, 24, .ro⟩] },
  { base := 0x0382000, dims := [(64, 0x10)], reset := 0x0000FFFF, fields := [⟨15, 0, .rw⟩, ⟨21, 16, .rw⟩, ⟨31, 24, .rw⟩] },
  { base := 0x0382004, dims := [(64, 0x10)], fields := [⟨1, 0, .rw⟩, ⟨2, 2, .ro⟩] },
  { base := 0x0440000, dims := [(1024, 0x40)], fields := [⟨8, 0, .rw⟩, ⟨17, 16, .rw⟩] },
  { base := 0x0440004, dims := [(1024, 0x40)], fields := [⟨27, 0, .rw⟩] },
  { base := 0x0440008, dims := [(1024, 0x40)], fields := [⟨19, 0, .rw⟩] },
  { base := 0x044000C, dims := [(1024, 0x40)], fields := [⟨22, 0, .rw⟩] },
  { base := 0x0440010, dims := [(1024, 0x40)], fields := [⟨0, 0, .rw⟩, ⟨2, 1, .ro⟩, ⟨7, 4, .ro⟩, ⟨11, 8, .ro⟩, ⟨15, 12, .ro⟩, ⟨21, 16, .ro⟩, ⟨31, 24, .ro⟩] },
  { base := 0x0440014, dims := [(1024, 0x40)], fields := [⟨22, 0, .ro⟩] },
  { base := 0x0440018, dims := [(1024, 0x40)], fields := [⟨31, 0, .ro⟩] },
  { base := 0x044001C, dims := [(1024, 0x40)], reset := 0x00001000, fields := [⟨12, 0, .ro⟩] },
  { base := 0x0440020, dims := [(1024, 0x40), (4, 0x4)], fields := [⟨31, 0, .ro⟩] },
  { base := 0x0480000, dims := [(4, 0x4)], fields := [⟨9, 0, .ro⟩, ⟨28, 16, .ro⟩] },
  { base := 0x0481000, dims := [(256, 0x8)], reset := 0x00FF0000, fields := [⟨1, 0, .ro⟩, ⟨7, 4, .ro⟩, ⟨8, 8, .wo⟩, ⟨23, 16, .ro⟩, ⟨31, 24, .ro⟩] },
  { base := 0x0481004, dims := [(256, 0x8)], fields := [⟨3, 0, .ro⟩, ⟨4, 4, .ro⟩, ⟨5, 5, .ro⟩, ⟨7, 6, .ro⟩] },
  { base := 0x0040000, dims := [(64, 0x4)], fields := [⟨0, 0, .rw⟩, ⟨1, 1, .rw⟩, ⟨15, 8, .ro⟩], guarded := true },
  { base := 0x0040400, dims := [(64, 0x4)], reset := 0xFFFFFFFF, fields := [⟨31, 0, .rw⟩] },
  { base := 0x0040800, dims := [(36, 0x4)], reset := 0x00FFFFFE, fields := [⟨7, 0, .rw⟩, ⟨23, 8, .rw⟩, ⟨27, 24, .rw⟩, ⟨28, 28, .ro⟩] },
  { base := 0x0040900, dims := [(36, 0x4)], reset := 0x00000001, fields := [⟨1, 0, .rw⟩, ⟨4, 4, .ro⟩, ⟨15, 8, .ro⟩, ⟨31, 16, .ro⟩], guarded := true }]

def regTable3 : List RegSpec := [
  { base := 0x0040C00, fields := [⟨18, 0, .rw⟩] },
  { base := 0x0040C04, fields := [⟨19, 0, .wo⟩, ⟨21, 20, .wo⟩, ⟨29, 22, .wo⟩] },
  { base := 0x0100000, dims := [(36, 0x4000)], fields := [⟨1, 0, .rw⟩, ⟨2, 2, .rw⟩, ⟨4, 4, .rw⟩, ⟨5, 5, .wo⟩], guarded := true },
  { base := 0x0100004, dims := [(36, 0x4000)], fields := [⟨2, 0, .ro⟩, ⟨7, 3, .ro⟩, ⟨9, 8, .ro⟩, ⟨23, 16, .ro⟩] },
  { base := 0x0100008, dims := [(36, 0x4000)], reset := 0x0000FFFF, fields := [⟨15, 0, .ro⟩, ⟨21, 16, .ro⟩, ⟨22, 22, .ro⟩] },
  { base := 0x010000C, dims := [(36, 0x4000)], reset := 0x0000003F, fields := [⟨5, 0, .rw⟩, ⟨21, 16, .ro⟩] },
  { base := 0x0100010, dims := [(36, 0x4000)], reset := 0x000804B0, fields := [⟨13, 0, .rw⟩, ⟨21, 16, .rw⟩] },
  { base := 0x0100100, dims := [(36, 0x4000), (16, 0x4)], fields := [⟨0, 0, .ro⟩, ⟨1, 1, .ro⟩, ⟨2, 2, .ro⟩, ⟨31, 16, .ro⟩] },
  { base := 0x0000000, reset := 0x0011C1A7, fields := [⟨15, 0, .ro⟩, ⟨19, 16, .ro⟩, ⟨23, 20, .ro⟩] },
  { base := 0x0000020, fields := [⟨21, 0, .rw⟩] },
  { base := 0x0000024, fields := [⟨15, 0, .wo⟩] },
  { base := 0x0000028, fields := [⟨23, 0, .ro⟩, ⟨31, 24, .ro⟩] },
  { base := 0x000002C, fields := [⟨15, 0, .ro⟩, ⟨23, 16, .ro⟩, ⟨24, 24, .ro⟩, ⟨25, 25, .w1c⟩, ⟨26, 26, .ro⟩] },
  { base := 0x0000030, fields := [⟨31, 0, .ro⟩] },
  { base := 0x0060000, dims := [(4, 0x100)], fields := [⟨15, 0, .rw⟩, ⟨23, 16, .rw⟩, ⟨25, 24, .rw⟩, ⟨26, 26, .wo⟩, ⟨27, 27, .ro⟩] },
  { base := 0x0060004, dims := [(4, 0x100)], fields := [⟨7, 0, .ro⟩, ⟨15, 8, .ro⟩, ⟨31, 16, .ro⟩] },
  { base := 0x0060008, dims := [(4, 0x100)], fields := [⟨15, 0, .rw⟩, ⟨31, 16, .rw⟩] },
  { base := 0x006000C, dims := [(4, 0x100)], fields := [⟨6, 0, .rw⟩] },
  { base := 0x0060040, dims := [(4, 0x100), (16, 0x4)], fields := [⟨31, 0, .rw⟩] },
  { base := 0x0061000, dims := [(5, 0x4)], fields := [⟨1, 0, .ro⟩, ⟨2, 2, .ro⟩, ⟨3, 3, .wo⟩, ⟨31, 16, .ro⟩] },
  { base := 0x0020000, fields := [⟨15, 0, .ro⟩, ⟨31, 16, .ro⟩] },
  { base := 0x0020004, reset := 0x00006400, fields := [⟨1, 0, .ro⟩, ⟨2, 2, .ro⟩, ⟨3, 3, .ro⟩, ⟨14, 8, .ro⟩] },
  { base := 0x0020008, fields := [⟨0, 0, .w1c⟩, ⟨1, 1, .w1c⟩, ⟨2, 2, .w1c⟩, ⟨3, 3, .w1c⟩, ⟨4, 4, .w1c⟩, ⟨5, 5, .w1c⟩] },
  { base := 0x002000C, fields := [⟨11, 0, .ro⟩] },
  { base := 0x0020010, fields := [⟨1, 0, .wo⟩], guarded := true },
  { base := 0x0020014, fields := [⟨7, 0, .ro⟩, ⟨8, 8, .ro⟩] },
  { base := 0x0080000, fields := [⟨31, 0, .w1c⟩] },
  { base := 0x0080004, fields := [⟨3, 0, .w1c⟩] },
  { base := 0x0080008, fields := [⟨7, 0, .ro⟩, ⟨8, 8, .ro⟩, ⟨15, 9, .ro⟩] },
  { base := 0x0001200, dims := [(68, 0x4)], reset := 0x00000010, fields := [⟨7, 0, .rw⟩] }]

/-- Every register of the CSR region. -/
def regTable : List RegSpec :=
  regTable0 ++ regTable1 ++ regTable2 ++ regTable3

end Sys2Proof.Machine
end

