-- ==== Sys2Proof/Machine/RegView.lean ====
section
/-! DEFINITION. Registers of the CSR region: the register at an address, whether this part has it (R4, R48), and the value it holds
(R49, R145, R187, R228, R260, R289, R321, R350, R375, R396, R423, R452, R480, R510, R515, R547, R574). A register that shows state held
elsewhere is a view of that state; any other is held in the CSR store. -/

namespace Sys2Proof.Machine

/-! ### The register at an address -/

/-- Indices of an offset under a register's repetitions, largest stride first. -/
def locDims : List (Nat × Nat) → Nat → Option (List Nat)
  | [], off => if off = 0 then some [] else none
  | (n, st) :: t, off => if off / st < n then (locDims t (off % st)).map (fun l => off / st :: l) else none

/-- A register and its indices. -/
structure RegHit where
  spec : RegSpec
  ix   : List Nat
  deriving DecidableEq, Repr, Inhabited

def RegSpec.hit (r : RegSpec) (addr : Nat) : Option RegHit :=
  if r.base ≤ addr then (locDims r.dims (addr - r.base)).map (fun l => { spec := r, ix := l }) else none

/-- The register at a byte offset of the normal space. -/
def findReg (addr : Nat) : Option RegHit := regTable.findSome? (fun r => r.hit addr)

/-- The n-th index, and the base that names the register. -/
def RegHit.i (h : RegHit) (n : Nat) : Nat := h.ix.getD n 0
def RegHit.base (h : RegHit) : Nat := h.spec.base

/-- Bits of the fields with one access code. -/
def RegSpec.maskOf (r : RegSpec) (p : FieldAcc → Bool) : Nat :=
  (r.fields.map (fun f => if p f.acc then 2 ^ (f.hi + 1) - 2 ^ f.lo else 0)).sum

/-- Bits that read (R12), bits that some write acts on (R13), bits that are stored as written, and bits of no field (R11). -/
def RegSpec.readMask (r : RegSpec) : Nat := r.maskOf (fun a => match a with | .rw | .ro | .w1c | .w1s => true | _ => false)
def RegSpec.writeMask (r : RegSpec) : Nat := r.maskOf (fun a => match a with | .rw | .wo | .w1c | .w1s => true | _ => false)
def RegSpec.rwMask (r : RegSpec) : Nat := r.maskOf (fun a => match a with | .rw => true | _ => false)
def RegSpec.w1cMask (r : RegSpec) : Nat := r.maskOf (fun a => match a with | .w1c => true | _ => false)
def RegSpec.usedMask (r : RegSpec) : Nat := r.maskOf (fun a => match a with | .rsv => false | _ => true)

/-! ### Presence (R4) -/

/-- Registers of ports, Millstones, Flumes and Bolters, injection ports and channels that a variant may lack. -/
def State.regPresent (s : State) (h : RegHit) (addr : Nat) : Bool :=
  let b := h.base
  if 0x0100000 ≤ b ∧ b < 0x0190000 then s.present (.port (h.i 0))
  else if b = R.secPortBind 0 ∨ b = R.secPortCrypt 0 then s.present (.port (h.i 0))
  else if b = R.trfIndSel ∨ b = R.trfIndCmd ∨ b = R.trfIndData 0 then true
  else if 0x0240000 ≤ b ∧ b < 0x0300000 then s.present (.port (h.i 0))
  else if b = R.hcuMsStat 0 then s.present (hcuLoc (h.i 0))
  else if b = R.hcuFbStat 0 then s.present (.port (h.i 0))
  else if b = R.memChanCtl 0 ∨ b = R.memChanFree 0 then !(s.chanAbsent (h.i 0))
  else match arbAt (addr / 0x100 * 0x100) with
    | some k => s.arbPresent k
    | none => match arbAt (addr / 0x200 * 0x200) with
      | some k => s.arbPresent k
      | none => match arbAt (0x0201000 + (addr - 0x0201000) / 0x400 * 0x400) with
        | some k => s.arbPresent k
        | none => true

/-! ### Values -/

/-- The value of TRF_GATE_HI. -/
def GateEntry.hiWord (x : GateEntry) : Nat := x.hold + 2 ^ 20 * x.nextEntry

/-- Chunks open on a Millstone. -/
def State.msOpen (s : State) (m : Nat) : Nat :=
  (s.hcu.jobs.map (fun e =>
    if e.2.kind = 1 ∧ e.2.millstones.contains m then
      (e.2.chunks.filter (fun c => !c.2.complete && decide (e.2.firstMs + c.1 % max 1 e.2.msCount = m))).length
    else 0)).sum

/-- An accepted input waits for Millstone m or is summed there. -/
def State.msBusy (s : State) (m : Nat) : Bool :=
  s.hcu.inputs.any (fun x =>
    let j := Store.read ({} : Job) s.hcu.jobs x.job
    decide (j.kind = 1) && decide (j.firstMs + x.chunk % max 1 j.msCount = m) && decide (x.cells = 0))

/-- A partition is DEGRADED: some page of it has failed (R318). -/
def State.degraded (s : State) (n : Nat) : Bool := decide (s.failedPages n ≠ 0)
/-- CLEAR_REMAIN (R301). -/
def Partition.clearRemain (p : Partition) : Nat := (p.toClear.map (·.2)).sum
/-- Some frame is being zeroed. -/
def State.poolClearing (s : State) : Bool :=
  (List.range 272).any (fun c => !(s.chanAbsent c) && decide ((s.chan c).state = .clearing)) ||
    s.pool.parts.any (fun e => decide (e.2.state = .clearing))
def State.failedChannels (s : State) : Nat :=
  ((List.range 272).filter (fun c => !(s.chanAbsent c) && decide ((s.chan c).state = .failed))).length

/-- HUB and PLN registers. -/
def State.hubView (s : State) (i : Issuer) (b : Nat) : Option Nat :=
  if b = R.hubNodeId then some s.nodeId
  else if b = R.hubSpanCoord then some (0x30000000 + s.coords % 4096 * 65536 + s.num O.spanLevels 0)
  else if b = R.hubId then some (0x0001C1A7 + 65536 * 16 * variantCode s.chip.variant)
  else if b = R.hubUnlockIndex then some (s.csrReq (requesterOf i)).unlockIndex
  else none

/-- A signed value saturated to 16 bits, from 32 bits. -/
def sat16 (v : Nat) : Nat :=
  if v < 2 ^ 31 then min v 32767 else if v < 2 ^ 32 - 32768 then 32768 else v % 65536

def State.plnView (s : State) (b n : Nat) : Option Nat :=
  let x := s.slot n
  if b = R.plnFtcLo then some (s.ftc % 2 ^ 32)
  else if b = R.plnFtcHi then some (s.ftc / 2 ^ 32)
  else if b = R.plnTimeStatus then
    some (s.plans.lock.code + 4 * b2n (decide (s.nodeId = s.timeRoot) && decide (s.timeRoot ≠ 0xFFFF)) + 8 * (s.num O.timeHops 0 % 16) +
      256 * s.num O.timeParentPort 0xFF + 65536 * sat16 (s.num O.offsetEstimate 0))
  else if b = R.plnSlotStatus 0 then
    some (x.state.code + 8 * b2n x.resumable + 16 * x.haltCause.code + 256 * b2n x.drained + 512 * b2n x.busy.isSome +
      65536 * x.lastStatus.code)
  else if b = R.plnSlotTickLo 0 then some (x.planTick % 2 ^ 32)
  else if b = R.plnSlotTickHi 0 then some (x.planTick / 2 ^ 32 % 2 ^ 32)
  else if b = R.plnSlotSlips 0 then some (x.quanta % 65536 + 65536 * (match x.image with | some g => g.slipBudget | none => 0))
  else none

/-- Arbiters and their tickets. -/
def State.arbView (s : State) (h : RegHit) (addr : Nat) : Option Nat :=
  let b := h.base
  let at_ := fun (k : ArbKind) => if addr = k.base + 4 ∨ addr = k.base + 8 then some (s.reg addr k.seedReset) else none
  if b = R.engArbSeed 0 0 0 ∨ b = R.engArbLfsr 0 0 0 then (arbAt (addr / 0x100 * 0x100)).bind at_
  else if b = R.hcuMsarbSeed 0 ∨ b = R.hcuMsarbLfsr 0 then at_ (.millstone (h.i 0))
  else if b = R.swcInjarbSeed 0 ∨ b = R.swcInjarbLfsr 0 then at_ (.inject (h.i 0))
  else if b = R.hubCsrarbSeed ∨ b = R.hubCsrarbLfsr then at_ .csrBus
  else if b = R.engArbTickets 0 0 0 0 then some (s.arbTickets (.cluster (64 * h.i 0 + h.i 1) (h.i 2)) (h.i 3))
  else if b = R.hcuPoolTickets 0 then some (s.arbTickets (.millstone 0) (h.i 0))
  else if b = R.swcInjTickets 0 0 then some (s.arbTickets (.inject (h.i 0)) (h.i 1))
  else if b = R.hubCsrarbTickets 0 then some (s.arbTickets .csrBus (h.i 0))
  else none

/-- HCU and SWC registers. -/
def State.swcView (s : State) (h : RegHit) : Option Nat :=
  let b := h.base
  let n := h.i 0
  if b = R.hcuMsStat 0 then
    some (b2n (s.hcuSlot n).isSome + 2 * b2n (s.msBusy n) + 4 * min 64 (s.msOpen n) + 65536 * (s.stagingFree n / 8192))
  else if b = R.hcuFbStat 0 then
    let part := fun (k : Nat) => b2n (s.hcuSlot k).isSome + 2 * b2n (s.hcuRunning k).isSome + 4 * min 63 (s.hcuQueue k).length
    some (part (256 + n) + 256 * part (512 + n))
  else if b = R.swcCredit 0 then some (s.creditCells n)
  else if b = R.swcQuota 0 then some (s.quotaCells n)
  else if b = R.swcQuotaUsed 0 then some (s.quotaUsed n % 2 ^ 19)
  else if b = R.swcMcLo 0 then some ((Store.read ({} : McEntry) s.sw.mcast n).ports % 2 ^ 32)
  else if b = R.swcMcHi 0 then
    let e := Store.read ({} : McEntry) s.sw.mcast n
    some (e.ports / 2 ^ 32 + 16 * b2n e.here + 32 * b2n e.valid + 256 * e.owner)
  else if b = R.swcPin 0 0 then
    some (((List.range 4).map (fun k =>
      let x := s.bucket (256 * n + 4 * h.i 1 + k)
      256 ^ k * (x.port + 128 * b2n x.valid))).sum)
  else if b = R.swcPinEpoch 0 0 then
    some (((List.range 8).map (fun k => 16 ^ k * ((s.bucket (256 * n + 8 * h.i 1 + k)).epoch % 16))).sum)
  else none

def State.trfView (s : State) (h : RegHit) : Option Nat :=
  let b := h.base
  let p := h.i 0
  let g := s.gate p
  if b = R.trfGateCtl 0 then some (s.reg (R.trfGateCtl p) 0 + 2 ^ 18 * b2n g.running)
  else if b = R.trfGateStatus 0 then
    some (g.active.getD 0 + 2 ^ 10 * b2n g.active.isSome + 2 ^ 11 * b2n g.owner.isSome + 2 ^ 12 * g.owner.getD 0 +
      2 ^ 15 * b2n g.inQuantum + 2 ^ 16 * (s.guard p % 16))
  else if b = R.trfGateLo 0 0 then some (s.gateEntry p (h.i 1)).lo
  else if b = R.trfGateHi 0 0 then some (s.gateEntry p (h.i 1)).hiWord
  else none

/-- MEM registers. -/
def State.memView (s : State) (b n : Nat) : Option Nat :=
  let p := s.part n
  if b = R.memPoolStatus then
    some (b2n s.pool.initDone + 2 * b2n s.poolClearing + 4 * b2n (s.pool.parts.any (fun e => s.degraded e.1)) + 65536 * s.failedChannels)
  else if b = R.memChanCtl 0 then
    some ((s.chan n).owner + 256 * (s.chan n).state.code + 1024 * b2n (decide (s.chanPct n < 100)))
  else if b = R.memChanFree 0 then some (s.chan n).free
  else if b = R.memPartBaseLo 0 then some (p.base % 2 ^ 32)
  else if b = R.memPartBaseHi 0 then some (p.base / 2 ^ 32)
  else if b = R.memPartSize 0 then some p.size
  else if b = R.memPartNear 0 then some p.nearPages
  else if b = R.memPartFar 0 then some p.farPages
  else if b = R.memPartChan 0 then some (p.nearFirst + 256 * p.nearCount + 2 ^ 17 * p.farFirst + 2 ^ 21 * p.farCount)
  else if b = R.memPartOwner 0 then some (p.tenant + 65536 * p.hostNode)
  else if b = R.memPartCtl 0 then
    some (4 * p.state.code + 16 * b2n p.staticBy.isSome + 32 * b2n (s.degraded n) + 64 * b2n p.counterMigration + 256 * p.lastStatus.code)
  else if b = R.memPartClearRemain 0 then some p.clearRemain
  else if b = R.memPartNearResident 0 then some (s.nearResident n)
  else if b = R.memPartLayerLo 0 then some (p.layerAddr.toNat % 2 ^ 32)
  else if b = R.memPartLayerHi 0 then some (p.layerAddr.toNat / 2 ^ 32)
  else if b = R.memPartLayerCount 0 then some p.layerCount
  else none

/-- KV, COH, CZ and VSR registers. -/
def State.kvView (s : State) (b n : Nat) : Option Nat :=
  let x := s.store n
  if b = R.kvStoreCtl 0 then some (x.partition + 65536 * b2n x.enable + 2 ^ 24 * x.lastStatus.code)
  else if b = R.kvStoreGeom 0 then some (x.slotUnits + 65536 * x.metaPages)
  else if b = R.kvStoreSlots 0 then some (if x.enable then s.storeSlots n else 0)
  else if b = R.kvStoreFree 0 then some (if x.enable then s.storeFree n else 0)
  else if b = R.kvStoreRetain 0 then some x.retainPct
  else if b = R.kvAttendStat then some (s.attendRunning + 65536 * s.attendQueued)
  else none

def State.cohView (s : State) (b n : Nat) : Option Nat :=
  let w := s.window n
  let a := s.agent n
  if b = R.cohCtl then some (s.num O.holdCycles 128)
  else if b = R.cohWays 0 then some (Store.read 0 s.coh.ways n).toNat
  else if b = R.cohWinBaseLo 0 then some (w.base % 2 ^ 32)
  else if b = R.cohWinBaseHi 0 then some (w.base / 2 ^ 32)
  else if b = R.cohWinSize 0 then some w.pages
  else if b = R.cohWinBack 0 then some w.backPages
  else if b = R.cohWinCtl 0 then
    some (w.partition + 2 ^ 16 * b2n (w.enable || w.disabling) + 2 ^ 17 * b2n w.disabling + 2 ^ 24 * w.lastStatus.code)
  else if b = R.cohAgentId 0 then some (a.node + 65536 * a.port + 2 ^ 24 * a.tenant)
  else if b = R.cohAgentCtl 0 then some (a.kind + 4 * b2n a.fenced)
  else none

def State.czView (s : State) (h : RegHit) : Option Nat :=
  let b := h.base
  let x := s.stream (h.i 0)
  if b = R.czStreamPart 0 then some (x.partition + 65536 * x.elem)
  else if b = R.czStreamStore 0 then some x.firstPage
  else if b = R.czStreamPages 0 then some x.pages
  else if b = R.czStreamBlocks 0 then some x.maxBlocks
  else if b = R.czStreamCtl 0 then
    some (b2n x.enable + 2 * x.state.code + 16 * x.loaded.toNat + 256 * x.used.toNat + 4096 * x.damaged.toNat + 65536 * x.gen +
      2 ^ 24 * x.lastStatus.code)
  else if b = R.czStreamWritten 0 then some x.written
  else if b = R.czStreamUsed 0 then some x.granules
  else if b = R.czStreamLast 0 then some x.lastBytes
  else if b = R.czStreamTcrc 0 0 then some (Store.read 0 x.tcrc (h.i 1)).toNat
  else none

def State.vsrView (s : State) (b n : Nat) : Option Nat :=
  let x := s.vindex n
  if b = R.vsrArrayStat 0 then some (s.arrayActive n + 65536 * (s.arrayQueue n).length)
  else if b = R.vsrIndexCtl 0 then
    some (x.state.code + 16 * (x.shards.filter (fun h => h.merging)).length + 65536 * x.tenant + 2 ^ 24 * x.lastStatus.code)
  else if b = R.vsrIndexMode 0 then
    some (x.shards.length + 16 * b2n x.sideList + 32 * b2n x.pinNear + 64 * x.metric)
  else none

/-- SEC and PORT registers. -/
def State.secView (s : State) (b n : Nat) : Option Nat :=
  let t := s.tenant n
  let k := s.bind n
  let c := s.crypt n
  if b = R.secTenantCtl 0 then some (b2n t.enable + 2 * b2n t.requireEnc + 256 * t.lastStatus.code)
  else if b = R.secClusterOwner 0 then
    some (((List.range 4).map (fun j => 256 ^ j * Store.read 0xFF s.sec.clusterOwner (4 * n + j))).sum)
  else if b = R.secPortBind 0 then some (k.tenant + 256 * k.nodeBase + 2 ^ 24 * k.countM1 + 2 ^ 28 * b2n k.peerDzm)
  else if b = R.secPortCrypt 0 then some (c.policy + 16 * b2n c.active + 256 * (c.keyGen % 256) + 65536 * min 65535 c.tagFails)
  else if b = R.secAssignFirst then some s.sec.assignFirst
  else none

def State.portView (s : State) (h : RegHit) : Option Nat :=
  let b := h.base
  let x := s.port (h.i 0)
  if b = R.portModeCtl 0 then some (x.mode.code + 4 * b2n x.width8 + 16 * b2n x.enable)
  else if b = R.portLinkStatus 0 then some (x.state.code + 8 * x.width + 256 * x.gen + 65536 * x.lastDown.code)
  else if b = R.portPeer 0 then some (x.peerNode + 65536 * x.peerPort + 2 ^ 22 * b2n x.peerEndpoint)
  else if b = R.portFeatures 0 then some (x.offer.toNat + 65536 * x.agreed.toNat)
  else if b = R.portReplayCtl 0 then some (x.timeoutNs + 65536 * x.maxAttempts)
  else if b = R.portLaneStat 0 0 then
    let l := Store.read ({} : Lane) x.lanes (h.i 1)
    some (b2n l.lock + 2 * b2n l.inUse + 4 * b2n l.failed + 65536 * l.corr)
  else none

/-- throttle_state: the highest throttle in force (R547). -/
def State.throttleState (s : State) : Nat :=
  if s.power.thermal then 3 else if !s.power.powerSteps.isEmpty then 2 else if s.power.sag ≠ .none then 1 else 0

/-- ENGINE_PCT: the highest engine clock as a percentage of its request (R547). -/
def State.enginePct (s : State) : Nat :=
  ((List.range 256).map (fun c => min 100 (100 * s.clusterMhz c / max 1 (s.clusterSet c)))).foldl max 0

/-- PWR, MGMT and FLT registers. -/
def State.pwrView (s : State) (b : Nat) : Option Nat :=
  let p := s.power
  if b = R.pwrInput then some (p.inputMv % 65536 + 65536 * (p.inputCa % 65536))
  else if b = R.pwrThrottle then
    some (s.throttleState + 4 * b2n p.supplyWarn +
      8 * b2n (match p.sag with | .releasing _ => true | _ => false) + 256 * s.enginePct)
  else if b = R.pwrEvents then some p.events.toNat
  else if b = R.pwrTemp then some (p.jmax % 4096)
  else if b = R.pwrResetCause then some (p.cause.code + 256 * b2n p.lastWarm)
  else if b = R.fltFenceLo then some (s.faults.fenced.toNat % 2 ^ 32)
  else if b = R.fltFenceHi then some (s.faults.fenced.toNat / 2 ^ 32)
  else if b = R.fltStatus then
    some (s.faults.lastCode + 256 * b2n (decide (s.num O.injectEnable 0 ≠ 0)) +
      512 * (s.faults.inject.filter (fun e => e.2.armed)).length)
  else none

def State.mbx (s : State) (m : Nat) : Mailbox := Store.read ({} : Mailbox) s.mgmt.mailboxes m
def State.setMbx (s : State) (m : Nat) (x : Mailbox) : State :=
  { s with mgmt := { s.mgmt with mailboxes := Store.write ({} : Mailbox) s.mgmt.mailboxes m x } }
def State.busAt (s : State) (b : Nat) : Bus := Store.read ({} : Bus) s.mgmt.buses b
def State.setBus (s : State) (b : Nat) (x : Bus) : State :=
  { s with mgmt := { s.mgmt with buses := Store.write ({} : Bus) s.mgmt.buses b x } }

def State.mgmtView (s : State) (h : RegHit) : Option Nat :=
  let b := h.base
  let m := s.mbx (h.i 0)
  let u := s.busAt (h.i 0)
  if b = R.mgmtMbxCmd 0 then some (m.index + 65536 * m.sub + 2 ^ 24 * m.op + 2 ^ 27 * b2n m.busy)
  else if b = R.mgmtMbxStatus 0 then some (m.status + 256 * m.type + 65536 * m.length)
  else if b = R.mgmtMbxSeg 0 then some (m.offset + 65536 * m.total)
  else if b = R.mgmtMbxWlen 0 then some m.wlen
  else if b = R.mgmtMbxData 0 0 then some (Store.read 0 m.data (h.i 1)).toNat
  else if b = R.mgmtBusStat 0 then 
    let i3c := if h.i 0 = 4 then decide (s.num O.trayBusI3c 0 ≠ 0) else s.running
    some (u.state.code + 4 * b2n i3c + 65536 * u.recoveries)
  else none

/-- The value a register holds, WO and reserved bits apart. -/
def State.regRaw (s : State) (i : Issuer) (h : RegHit) (addr : Nat) : Nat :=
  let b := h.base
  let n := h.i 0
  let block : Option Nat :=
    if b < 0x0020000 then s.hubView i b
    else if b < 0x0040000 then s.pwrView b
    else if b < 0x0060000 then s.secView b n
    else if b < 0x0080000 then s.mgmtView h
    else if b < 0x0100000 then s.pwrView b
    else if b < 0x0200000 then s.portView h
    else if b < 0x0240000 then s.swcView h
    else if b < 0x0300000 then s.trfView h
    else if b < 0x0380000 then s.swcView h
    else if b < 0x0400000 then s.cohView b n
    else if b < 0x0440000 then s.memView b n
    else if b < 0x0460000 then s.czView h
    else if b < 0x0480000 then s.kvView b n
    else if b < 0x0500000 then s.vsrView b n
    else s.plnView b n
  match block with
  | some v => v
  | none => match s.arbView h addr with
    | some v => v
    | none => s.reg addr h.spec.reset

/-- What a read returns (R11, R12). -/
def State.regRead (s : State) (i : Issuer) (h : RegHit) (addr : Nat) : Nat := s.regRaw i h addr &&& h.spec.readMask

/-! ### Reads (R47, R48) -/

/-- A block that only the management domain may write (R48). -/
def blockManaged (addr : Nat) : Bool :=
  decide (0x0020000 ≤ addr) && decide (addr < 0x0190000) ||
  decide (0x0240000 ≤ addr) && decide (addr < 0x0300000) ||
  decide (0x0380000 ≤ addr) && decide (addr < 0x0500000)

/-- The MGMT block, closed to tenants (R515). -/
def blockMgmt (addr : Nat) : Bool := decide (0x0060000 ≤ addr) && decide (addr < 0x0080000)

/-- The refusal of an access before its register's own rules, in the order of R48, else the register. `off` is the offset in REGION
0x5; an alias names the same register. -/
def State.csrFind (s : State) (i : Issuer) (off : Nat) (write : Bool) : Except Status RegHit :=
  let addr := off % 0x1000000
  if off % 4 ≠ 0 then .error .align
  else if !isMgmt i && (blockMgmt addr || (write && blockManaged addr)) then .error .access
  else match findReg addr with
    | none => .error .rsvd
    | some h => if s.regPresent h addr then .ok h else .error .rsvd

/-- A read of the CSR region: its response, with the value in RESULT. -/
def State.csrRead (s : State) (i : Issuer) (off : Nat) : Response × State :=
  match s.csrFind i off false with
  | .error st => (refusal st, s.busError i (off % 0x4000000) false st)
  | .ok h => (served .ok (BitVec.ofNat 64 (s.regRead i h (off % 0x1000000))), s)

end Sys2Proof.Machine
end

