-- ==== Sys2Proof/Machine/ObjView.lean ====
section
/-! DEFINITION. Values of the dictionary objects that show state held elsewhere (R6, R34, R100, R143-R144, R188-R189, R229-R231, R261,
R290, R322-R324, R351-R352, R376-R377, R397, R424-R425, R453-R454, R481, R498-R500, R516, R548-R551, R575). Any other object is held in the
dictionary store. -/

namespace Sys2Proof.Machine

/-! ### Units (R34) -/

/-- The unit's own count and the counts of all present descendants (R39). -/
def State.unitSum (s : State) (l : UnitLoc) (sub : Nat) : Nat :=
  (s.dict.map (fun e => match e.2, unitLoc (e.1 / 256) with
    | some (.num n), some m => if e.1 % 256 = sub ∧ unitWithin l m ∧ s.present m then n else 0
    | _, _ => 0)).sum % 2 ^ 64

/-- owner_tenant: the owner of a cluster and its Florets, of a port's binding, of a controller's channels when they agree. -/
def State.unitOwner (s : State) : UnitLoc → Nat
  | .cluster d q c => s.clusterOwner (64 * d + 16 * q + c)
  | .floret d q c _ => s.clusterOwner (64 * d + 16 * q + c)
  | .port p => if (s.bind p).tenant < 64 then (s.bind p).tenant else 0xFF
  | .memCtl d i =>
    match (ctlChannels (.memCtl d i)).map (fun c => (s.chan c).owner) with
    | [] => 0xFF
    | o :: t => if o < 64 ∧ t.all (fun x => decide (x = o)) then o else 0xFF
  | _ => 0xFF

/-- Contexts in use on a unit of Meadow (R425). -/
def State.contextsActive (s : State) : UnitLoc → Nat
  | .meadowArray d => s.arrayActive d
  | .meadowGroup d g => ((List.range 16).map (fun u =>
      ((s.arrayShards d).filter (fun e => e.2.started && shardOn e (16 * g + u))).length)).sum
  | .sketch d g u => ((s.arrayShards d).filter (fun e => e.2.started && shardOn e (16 * g + u))).length
  | _ => 0

/-- Subindices 0x20 upwards of a unit. -/
def State.unitMore (s : State) (l : UnitLoc) (sub : Nat) : Option Nat :=
  match l with
  | .floret d q c f =>
    let n := 1024 * d + 256 * q + 16 * c + f
    if sub = 0x20 then some (s.floret n).bundle
    else if sub = 0x28 then some ((s.floret n).tags.filter (fun e => e.2.busy)).length
    else if sub = 0x29 then some (s.clusterMhz (n / 16))
    else none
  | .cluster d q c =>
    let n := 64 * d + 16 * q + c
    if sub = 0x20 then some (b2n (s.clusterStatic n))
    else if sub = 0x25 then some (s.tasksOf n).length
    else if sub = 0x28 then some (if s.clockStopped ∨ (s.unit l).state = .poweredDown then 0 else s.clusterMhz n)
    else none
  | .hcu g sl u =>
    let k := hcuKey g sl u
    if sub = 0x20 then some (b2n (s.hcuSlot k).isSome)
    else if sub = 0x23 then some ((s.hcuRunning k).getD 0xFFFF)
    else if sub = 0x24 then some (if u < 4 then
        (s.hcu.jobs.filter (fun e => decide (e.2.kind = 1) && e.2.chunks.any (fun c => !c.2.complete &&
          decide (e.2.firstMs + c.1 % max 1 e.2.msCount = k)))).length
      else (s.hcuQueue k).length)
    else if sub = 0x25 then some (if u < 4 then 524288 - s.stagingFree k else 0)
    else none
  | .memCtl _ _ => if sub = 0x24 then some (((ctlChannels l).map s.chanPct).foldl min 100) else none
  | .meadowArray _ | .meadowGroup _ _ | .sketch _ _ _ =>
    if sub = 0x20 then some (s.contextsActive l)
    else if 0x21 ≤ sub ∧ sub ≤ 0x23 then some (s.unitSum l sub)
    else none
  | .quadrant d q => if sub = 0x20 then some (Store.read 0 s.power.rails (4 * d + q)) else none
  | .package =>
    if sub = 0x22 then some s.remote.waits.length
    else if sub = 0x27 then some s.remote.lru.length
    else if sub = 0x28 then some ((s.remote.queues.filter (fun e => e.2.pinned)).length)
    else if sub = 0x30 then some s.poolCapacity
    else if sub = 0x37 then some (b2n s.pool.initDone)
    else if sub = 0x3A then
      some ((((List.range 16).map (fun k => (s.chan (256 + k)).owner)).filter (fun o => decide (o < 64))).eraseDups).length
    else none
  | _ => none

/-- The unit stands above the package. -/
def aboveDie : UnitLoc → Bool
  | .span | .trayGroup | .tray => true
  | _ => false

/-- Objects of a unit's index. -/
def State.unitView (s : State) (l : UnitLoc) (sub : Nat) : Option Nat :=
  match sub with
  | 0x01 => some (s.path l)
  | 0x02 => some (unitKind l)
  | 0x03 => some (s.unit l).state.code
  | 0x05 => some (s.unit l).epoch
  | 0x06 => some (s.num (unitIndex l * 256 + 6) (if l = .package then 0x40000000 else 0))
  | 0x07 => some (unitQueue l)
  | 0x08 => if aboveDie l then none else some (unitChildren s.chip.variant l).length
  | 0x0A => if aboveDie l then none else some (s.unitSum l 0x0A)
  | 0x0B => if aboveDie l then none else some (s.unitSum l 0x0B)
  | 0x0C => if aboveDie l then none else some (s.unitSum l 0x0C)
  | 0x0E => some (s.unitOwner l)
  | _ => s.unitMore l sub

/-! ### Plans, time, jobs, switch, traffic -/

def State.planView (s : State) (n sub : Nat) : Option Nat :=
  let x := s.slot n
  let g := fun (f : PlanImage → Nat) => match x.image with | some i => f i | none => 0
  match sub with
  | 0x01 => some x.state.code
  | 0x02 => some (g (fun i => i.planId.toNat))
  | 0x0C => some x.haltCause.code
  | 0x0D => some (b2n x.resumable)
  | 0x0E => some (b2n x.drained)
  | 0x0F => some (g (fun i => i.memberIndex))
  | 0x10 => some (g (fun i => i.memberCount))
  | 0x11 => some x.planTick
  | 0x12 => some (g (fun i => x.planTick / max 1 i.rotationTicks))
  | 0x13 => some x.quanta
  | _ => none

def State.jobView (s : State) (sub : Nat) : Option Nat :=
  let j := Store.read ({} : Job) s.hcu.jobs (s.num O.jobSelect 0)
  let ports := portCount s.chip.variant
  match sub with
  | 0x01 => some (4 * ports)
  | 0x02 => some ports
  | 0x03 => some ports
  | 0x05 => some ((s.hcu.jobs.filter (fun e => decide (e.2.state ≠ .free))).length)
  | 0x07 => some j.state.code
  | 0x08 => some (if j.state = .free then 0 else j.kind)
  | 0x09 => some j.tenant
  | 0x0A => some j.epoch
  | 0x0B => some j.status.code
  | 0x0C => some j.count1
  | _ => none

def State.switchView (s : State) (sub : Nat) : Option Nat :=
  match sub with
  | 0x02 => some (393216 - s.cellsInUse)
  | 0x03 => some (262144 - (s.sw.frames.filter (fun e => e.2.isSome)).length)
  | 0x04 => some (524288 - (s.sw.lists.map (fun e => e.2.length)).sum)
  | 0x05 => some (s.hcu.ovfClaims.map (·.2)).sum
  | 0x06 => some (s.sw.headroom.map (·.2)).sum
  | 0x07 => some s.cellsUnassigned
  | _ => none

def State.trafficView (s : State) (sub : Nat) : Option Nat :=
  let c := s.contract (s.num O.contractSelect 0)
  match sub with
  | 0x08 => some (s.minCommitted 65536)
  | 0x11 => some (b2n (s.owed c))
  | 0x12 => some (b2n (c.capEn && !(s.eligible c.capShaper)))
  | 0x13 => some c.queue.length
  | 0x14 => some c.bytes
  | 0x15 => some c.shortfalls
  | 0x19 => some (s.weir (s.num O.weirSelect 0)).refusals
  | _ => none

/-! ### Partitions, KV, windows, streams, indexes -/

def State.partView (s : State) (n sub : Nat) : Option Nat :=
  let p := s.part n
  let pg := (s.page n p.pageSelect).getD {}
  let held := (s.page n p.pageSelect).isSome
  match sub with
  | 0x01 => some p.state.code
  | 0x02 => some p.tenant
  | 0x03 => some p.hostNode
  | 0x04 => some p.base
  | 0x05 => some p.size
  | 0x06 => some p.nearPages
  | 0x07 => some p.farPages
  | 0x08 => some p.nearFirst
  | 0x09 => some p.nearCount
  | 0x0A => some p.farFirst
  | 0x0B => some p.farCount
  | 0x0D => some p.lastStatus.code
  | 0x0E => some p.clearRemain
  | 0x0F => some (b2n p.staticBy.isSome)
  | 0x10 => some (b2n (s.degraded n))
  | 0x11 => some (b2n p.counterMigration)
  | 0x12 => some p.layerAddr.toNat
  | 0x13 => some p.layerCount
  | 0x14 => some p.mapPages
  | 0x15 => some (s.nearResident n)
  | 0x16 => some (s.pinnedPages n)
  | 0x1C => some (s.failedPages n)
  | 0x1D => some p.pageSelect
  | 0x1E => some (if !held then 0 else if pg.failed then 3 else if (s.moveOf n p.pageSelect).isSome then 2 else b2n (!pg.near))
  | 0x1F => some (if held then min 255 (decayed pg.count pg.stamp s.epochNow) else 0)
  | 0x20 => some (if held then pg.channel else 0)
  | _ => none

def State.kvSelected (s : State) : Option KvSession :=
  s.session (s.num O.kvStoreSelect 0) (BitVec.ofNat 64 (s.num O.kvSessionSelect 0))

def State.liveSessions (s : State) (f : KvSession → Bool) : Nat := (s.kv.sessions.filter (fun x => x.live && f x)).length

def State.kvObjView (s : State) (sub : Nat) : Option Nat :=
  let x := s.kvSelected
  let g := fun (d : Nat) (f : KvSession → Nat) => some (match x with | some k => f k | none => d)
  match sub with
  | 0x03 => some (s.liveSessions (fun _ => true))
  | 0x04 => some s.attendRunning
  | 0x05 => some s.attendQueued
  | 0x11 => g 0 (fun k => k.state.code)
  | 0x12 => g 0 (fun k => k.base)
  | 0x13 => g 0 (fun k => k.slotCount)
  | 0x14 => g 0 (fun k => k.lastAccess)
  | 0x15 => g 0 (fun k => b2n k.retain + 2 * b2n k.evictable + 4 * b2n k.prefetchNext + 8 * b2n k.near)
  | 0x16 => g 0xFFFF (fun k => if k.state = .moved then k.movedNode else 0xFFFF)
  | _ => none

def State.storeView (s : State) (t sub : Nat) : Option Nat :=
  let x := s.store t
  match sub with
  | 0x01 => some x.partition
  | 0x02 => some (b2n x.enable)
  | 0x03 => some x.slotBytes
  | 0x04 => some x.metaPages
  | 0x05 => some (if x.enable then s.storeSlots t else 0)
  | 0x06 => some (if x.enable then s.storeFree t else 0)
  | 0x07 => some x.retainPct
  | 0x08 => some (s.retainedSlots t)
  | 0x09 => some (s.liveSessions (fun k => decide (k.tenant = t)))
  | 0x0A => some x.lastStatus.code
  | _ => none

def State.winView (s : State) (n sub : Nat) : Option Nat :=
  let w := s.window n
  match sub with
  | 0x01 => some (w.base)
  | 0x02 => some w.pages
  | 0x03 => some w.partition
  | 0x04 => some (w.backPages * 65536)
  | 0x05 => some (b2n (w.enable || w.disabling))
  | 0x06 => some w.lastStatus.code
  | 0x07 => some (s.windowEntries w).length
  | _ => none

def State.agentView (s : State) (n sub : Nat) : Option Nat :=
  let a := s.agent n
  match sub with
  | 0x01 => some a.node
  | 0x02 => some a.port
  | 0x03 => some a.tenant
  | 0x04 => some a.kind
  | 0x05 => some (b2n a.fenced)
  | 0x06 => some (s.agentLines n)
  | _ => none

def State.cohObjView (s : State) (sub : Nat) : Option Nat :=
  match sub with
  | 0x07 => some s.windowPagesEnabled
  | 0x08 => some (s.coh.entries.filter (fun e => e.2.isSome)).length
  | _ => none

def State.czObjView (s : State) (sub : Nat) : Option Nat :=
  let x := s.stream (s.num O.streamSelect 0)
  match sub with
  | 0x05 => some (s.cz.streams.filter (fun e => decide (e.2.state ≠ .disabled))).length
  | 0x0F => some x.state.code
  | 0x10 => some x.written
  | 0x11 => some (if x.stored = 0 then 0 else 1000 * x.accepted / x.stored)
  | 0x12 => some x.checkFails
  | 0x13 => some x.damaged.toNat
  | _ => none

/-- Tombstone bits set below ITEM_COUNT (R424). -/
def State.tombstoned (s : State) (x : VIndex) : Nat :=
  ((List.range x.shards.length).map (fun h =>
    ((List.range (x.shard h).itemCount).filter (fun j => s.tombBit x h j)).length)).sum

def State.vsObjView (s : State) (sub : Nat) : Option Nat :=
  let x := s.vindex (s.num O.indexSelect 0)
  match sub with
  | 0x11 => some x.state.code
  | 0x12 => some x.tenant
  | 0x13 => some (x.shards.map (fun h => h.itemCount)).sum
  | 0x14 => some (s.tombstoned x)
  | 0x15 => some (x.shards.map (fun h => h.sideCount)).sum
  | 0x16 => some x.queries
  | 0x17 => some x.merges
  | _ => none

/-! ### Security, ports, management -/

def State.secObjView (s : State) (sub : Nat) : Option Nat :=
  match sub with
  | 0x02 => some (s.sec.tenants.filter (fun e => e.2.enable)).length
  | 0x03 => some s.sec.sessions.length
  | 0x05 => some s.heldKeys.length
  | 0x06 => some s.sec.clearSeq
  | 0x0B => some s.power.fusedSvn
  | 0x0D => some s.sec.fwStatus.code
  | _ => none

def State.tenantView (s : State) (t sub : Nat) : Option Nat :=
  let x := s.tenant t
  match sub with
  | 0x01 => some (b2n x.enable)
  | 0x02 => some (b2n x.requireEnc)
  | 0x08 => some x.lastStatus.code
  | 0x09 => some (s.heldKeys.filter (fun e => decide (e.2.tenant = t))).length
  | 0x0A => some (s.pool.parts.filter (fun e => decide (e.2.tenant = t) && e.2.sealed.isSome)).length
  | _ => none

def State.portObjView (s : State) (p sub : Nat) : Option Nat :=
  let x := s.port p
  match sub with
  | 0x01 => some x.mode.code
  | 0x02 => some x.state.code
  | 0x03 => some x.width
  | 0x04 => some x.gen
  | 0x05 => some x.agreed.toNat
  | 0x06 => some x.peerNode
  | 0x07 => some x.timeoutNs
  | 0x08 => some x.maxAttempts
  | _ => none

def State.vectorView (s : State) (sub : Nat) : Option Nat :=
  let v := s.vector (s.num O.vectorSelect 0)
  match sub with
  | 0x01 => some s.mgmt.eventSeq
  | 0x11 => some (b2n v.enable)
  | 0x12 => some v.gdpMask.toNat
  | 0x13 => some v.syncAddr.toNat
  | 0x14 => some v.syncTc
  | 0x15 => some v.msix.toNat
  | 0x16 => some (b2n v.smbalert)
  | 0x17 => some v.holdoff
  | _ => none

def State.sensor (s : State) (n : Nat) : Sensor := Store.read ({} : Sensor) s.mgmt.sensors n
def State.setSensor (s : State) (n : Nat) (x : Sensor) : State :=
  { s with mgmt := { s.mgmt with sensors := Store.write ({} : Sensor) s.mgmt.sensors n x } }

def State.sideView (s : State) (sub : Nat) : Option Nat :=
  let x := s.sensor (s.num O.sensorSelect 0)
  match sub with
  | 0x01 => some (0x58 + s.chip.straps.toNat)
  | 0x11 => some x.target.toNat
  | 0x12 => some x.format.toNat
  | 0x13 => some x.value
  | 0x14 => some x.status.code
  | _ => none

/-! ### Power, boot, faults -/

def State.powerView (s : State) (sub : Nat) : Option Nat :=
  match sub with
  | 0x01 => some s.power.inputMv
  | 0x02 => some s.power.inputW
  | 0x06 => some s.throttleState
  | 0x0A => some s.power.jmax
  | _ => none

def State.bootView (s : State) (sub : Nat) : Option Nat :=
  let unresolved := (s.power.fuses.filter (fun e => decide (e.2 = .unresolved))).length
  let marginal := ((s.power.fuses.filter (fun e => decide (e.2 = .marginal))).map (·.1) ++ s.power.fuseMarginal).eraseDups.length
  match sub with
  | 0x01 => some (if s.power.package = .fuseHold then 2 else if marginal = 0 then 0 else 1)
  | 0x02 => some marginal
  | 0x03 => some unresolved
  | 0x07 => some s.power.bootBank
  | 0x08 => some (if s.power.package = .bootHold then 1 else if s.power.package = .fuseHold then 2 else 0)
  | 0x0A => some (b2n s.sec.activated.isSome)
  | _ => none

def State.injectView (s : State) (sub : Nat) : Option Nat :=
  let x := s.injection (s.num O.injectSelect 0)
  match sub with
  | 0x02 => some x.kind
  | 0x03 => some x.target.toNat
  | 0x04 => some x.firstFtc
  | 0x05 => some x.count
  | 0x06 => some x.intervalUs
  | 0x07 => some x.param
  | 0x09 => some (b2n x.armed)
  | 0x0A => some x.fired
  | 0x0B => some x.skipped
  | 0x0C => some x.lastStatus.code
  | _ => none

def State.csView (s : State) (sub : Nat) : Option Nat :=
  let x := s.cslot (s.num O.csSelect 0)
  match sub with
  | 0x02 => some (s.faults.slots.filter (fun e => decide (e.2.state ≠ .free))).length
  | 0x04 => some x.state.code
  | 0x05 => some (x.winner.getD 0xFF)
  | 0x06 => some x.tenant
  | _ => none

def State.ckptView (s : State) (c sub : Nat) : Option Nat :=
  let k := s.ckpt c
  match sub with
  | 0x01 => some k.state.code
  | 0x02 => some k.partition
  | 0x03 => some k.dest.toNat
  | 0x04 => some k.tc
  | 0x05 => some k.shaper
  | 0x06 => some k.cowPages
  | 0x07 => some k.startFtc
  | 0x09 => some k.epoch
  | 0x0A => some k.streamed
  | 0x0B => some k.cowCopies
  | 0x0C => some k.poisoned
  | 0x0D => some k.status.code
  | 0x0E => some k.endFtc
  | _ => none

/-- The MAC address of the management lane (R482). -/
def State.macAddress (s : State) : Nat := Config.macAddress s.chip.serial % 2 ^ 48

/-! ### Every index -/

/-- Numbers that show state held elsewhere. -/
def State.objView (s : State) (index sub : Nat) : Option Nat :=
  if 0x8000 ≤ index then (unitLoc index).bind (fun l => s.unitView l sub)
  else if index = 0x1000 then
    match sub with
    | 3 => some (variantCode s.chip.variant)
    | 4 => some (portCount s.chip.variant)
    | 5 => some (if s.chip.variant = .dzm3604 then 4 else 8)
    | 8 => some s.chip.serial.toNat
    | _ => none
  else if index = 0x1100 then (if sub = 2 then some s.macAddress else none)
  else if index = 0x1101 then s.sideView sub
  else if index = 0x1800 then s.vectorView sub
  else if index = 0x2000 then s.powerView sub
  else if index = 0x2100 then (if sub = 1 then some s.ftc else if sub = 2 then some s.plans.lock.code else none)
  else if index = 0x2300 then s.bootView sub
  else if 0x3000 ≤ index ∧ index < 0x3240 then s.portObjView ((index - 0x3000) / 16) sub
  else if index = 0x3400 then s.switchView sub
  else if index = 0x3500 then s.trafficView sub
  else if index = 0x3800 then s.jobView sub
  else if 0x4000 ≤ index ∧ index < 0x4200 then s.partView (index - 0x4000) sub
  else if index = 0x4400 then s.kvObjView sub
  else if 0x4401 ≤ index ∧ index < 0x4441 then s.storeView (index - 0x4401) sub
  else if index = 0x4600 then s.czObjView sub
  else if index = 0x4800 then s.cohObjView sub
  else if 0x4801 ≤ index ∧ index < 0x4821 then s.winView (index - 0x4801) sub
  else if 0x4821 ≤ index ∧ index < 0x4861 then s.agentView (index - 0x4821) sub
  else if index = 0x4A00 then s.vsObjView sub
  else if 0x5001 ≤ index ∧ index < 0x5009 then s.planView (index - 0x5001) sub
  else if index = 0x5400 then s.secObjView sub
  else if 0x5401 ≤ index ∧ index < 0x5441 then s.tenantView (index - 0x5401) sub
  else if index = 0x5800 then (if sub = 1 then some s.faults.seq else none)
  else if index = 0x5801 then s.injectView sub
  else if index = 0x5802 then s.csView sub
  else if 0x5810 ≤ index ∧ index < 0x5820 then s.ckptView (index - 0x5810) sub
  else none

/-- A fault record's 64 bytes (R552). -/
def FaultRec.bytes (r : FaultRec) : List Byte :=
  natLe 8 r.seq ++ natLe 8 r.ftc ++ natLe 4 r.source.toNat ++ natLe 1 r.code ++ natLe 1 r.action ++ natLe 1 r.status.code ++
    natLe 1 r.flags.toNat ++ natLe 2 r.entry ++ natLe 2 0 ++ natLe 4 r.arg.toNat ++ List.replicate 32 0

end Sys2Proof.Machine
end

