-- ==== Sys2Proof/Machine/Fields.lean ====
section
/-! DEFINITION. Configuration fields that a register and a dictionary object both write (R29, R38, R143, R310, R321, R350, R353, R359,
R375, R393, R481), and unit paths as written values (R22, R23, R27). -/

namespace Sys2Proof.Machine

/-- The first of two refusals. -/
def firstOf (a b : Option Status) : Option Status := match a with | some x => some x | none => b

/-- A state rule of a field: `bad` is judged before `busy`. -/
def fieldBad (bad : Option Status) (busy : Bool) : Option Response :=
  (firstOf bad (if busy then some .busy else none)).map (fun st => refusal st)

/-! ### Partitions, stores, windows, agents, streams -/

/-- A configuration field of a partition: E_BUSY unless FREE (R321). -/
def State.partField (s : State) (a : Access) (addr n : Nat) (bad : Option Status) (f : Partition → Partition) : State :=
  s.mgmtWrite a addr (fieldBad bad (decide ((s.part n).state ≠ .free))) (fun t => t.setPart n (f (t.part n)))

/-- The layer table of a partition: E_BUSY while STATIC (R321). -/
def State.layerField (s : State) (a : Access) (addr n : Nat) (bad : Option Status) (f : Partition → Partition) : State :=
  s.mgmtWrite a addr (fieldBad bad (s.part n).staticBy.isSome) (fun t => t.setPart n (f (t.part n)))

/-- A field of a KV store that is writable only while ENABLE is 0 (R350). -/
def State.storeField (s : State) (a : Access) (addr t : Nat) (bad : Option Status) (f : KvStore → KvStore) : State :=
  s.mgmtWrite a addr (fieldBad bad (s.store t).enable) (fun u => u.setStore t (f (u.store t)))

/-- A field of a coherent window: E_BUSY while it is enabled (R354). -/
def State.winField (s : State) (a : Access) (addr w : Nat) (bad : Option Status) (f : Window → Window) : State :=
  s.mgmtWrite a addr (fieldBad bad ((s.window w).enable || (s.window w).disabling)) (fun t => t.setWindow w (f (t.window w)))

/-- NODE, PORT and TENANT of an agent slot; NODE changes only while KIND is 0 (R375). -/
def State.agentField (s : State) (a : Access) (n node port tenant : Nat) : State :=
  let x := s.agent n
  let bad : Option Status := if (0xF000 ≤ node ∧ node ≠ 0xFFFF) ∨ 36 ≤ port ∨ (64 ≤ tenant ∧ tenant ≠ 0xFF) then some .param else none
  s.mgmtWrite a (R.cohAgentId n) (fieldBad bad (decide (x.kind ≠ 0) && decide (node ≠ x.node)))
    (fun t => t.setAgent n { t.agent n with node := node, port := port, tenant := tenant })

/-- A field of a compressed stream: E_BUSY unless ENABLE is 0 (R396). -/
def State.streamField (s : State) (a : Access) (addr n : Nat) (bad : Option Status) (f : Stream → Stream) : State :=
  s.mgmtWrite a addr (fieldBad bad (s.stream n).enable) (fun t => t.setStream n (f (t.stream n)))

/-- A field of a port's replay control (R480, R481). -/
def State.replayField (s : State) (a : Access) (p ns n : Nat) : State :=
  let bad : Option Status := if ns < 100 ∨ 10000 < ns ∨ n < 1 ∨ 63 < n then some .param else none
  s.mgmtWrite a (R.portReplayCtl p) (fieldBad bad false) (fun t => t.setPort p { t.port p with timeoutNs := ns, maxAttempts := n })

/-! ### Unit paths (R22, R23, R27) -/

/-- The children that R24 defines below a place: the largest number, none when it has none. -/
def pathChild4 (l4 l5 : Nat) : Bool :=
  if l4 < 4 then decide (l5 ≤ 5) else if l4 = 4 then decide (l5 ≤ 14) else decide (l5 ≤ 8)
def pathChild5 (l4 l5 l6 : Nat) : Bool :=
  if l4 < 4 then (if l5 < 4 then decide (l6 ≤ 15) else if l5 = 4 then decide (l6 ≤ 5) else decide (l6 ≤ 3))
  else decide (l4 = 4) && decide (6 ≤ l5) && decide (l6 ≤ 3)
def pathChild6 (l4 l5 l7 : Nat) : Bool :=
  if l4 < 4 then decide (l5 ≠ 4) && decide (l7 ≤ 15) else decide (l4 = 4) && decide (l7 ≤ 5)

/-- A unit path is refused with E_RESERVED: DEPTH, a field below DEPTH, a child that R24 does not define, or a depth or a field that
span_levels forces out. -/
def State.pathBad (s : State) (v : Nat) : Bool :=
  let depth := bitsOf v 31 28
  let level := fun (k : Nat) => v / 2 ^ (28 - 4 * k) % 16
  let n := s.num O.spanLevels 0
  decide (8 ≤ depth) ||
  decide (depth < 8 ∧ v % 2 ^ (28 - 4 * depth) ≠ 0) ||
  (decide (4 ≤ depth) && !(decide (level 4 ≤ 8))) ||
  (decide (5 ≤ depth) && !(pathChild4 (level 4) (level 5))) ||
  (decide (6 ≤ depth) && !(pathChild5 (level 4) (level 5) (level 6))) ||
  (decide (7 ≤ depth) && !(pathChild6 (level 4) (level 5) (level 7))) ||
  (decide (n < 1) && decide (level 3 ≠ 0)) || (decide (n < 2) && decide (level 2 ≠ 0)) || (decide (n < 3) && decide (level 1 ≠ 0)) ||
  (decide (depth = 0) && decide (n < 1)) || (decide (depth = 1) && decide (n < 3)) || (decide (depth = 2) && decide (n < 2))

/-! ### Sync windows (R38) -/

/-- sync_window of a unit. -/
def State.syncWindow (s : State) (l : UnitLoc) : Nat := s.num (256 * unitIndex l + 6) (if l = .package then 0x40000000 else 0)

/-- First object and count. -/
def windowFirst (v : Nat) : Nat := bitsOf v 13 0
def windowCount (v : Nat) : Nat := bitsOf v 30 16

/-- The window whose range bounds a unit's: its parent's, skipping depths not in use; none for the package and the span. -/
def State.windowParent (s : State) (l : UnitLoc) : Option UnitLoc :=
  match l with
  | .package | .span => none
  | .trayGroup => some .span
  | .tray => if s.depthUsed .trayGroup then some .trayGroup else some .span
  | _ => unitParent l

/-- One window lies within another, or is none. -/
def windowWithin (a b : Nat) : Bool :=
  decide (windowCount a = 0) ||
    decide (windowFirst b ≤ windowFirst a) && decide (windowFirst a + windowCount a ≤ windowFirst b + windowCount b)

/-- Two windows have an object in common. -/
def windowsMeet (a b : Nat) : Bool :=
  decide (windowCount a ≠ 0) && decide (windowCount b ≠ 0) && decide (windowFirst a < windowFirst b + windowCount b) &&
    decide (windowFirst b < windowFirst a + windowCount a)

/-- Units whose window a unit's bounds: its children, and above the package the next depth in use that this package holds. -/
def State.windowChildren (s : State) (l : UnitLoc) : List UnitLoc :=
  match l with
  | .span | .trayGroup => ([.trayGroup, .tray] : List UnitLoc).filter (fun m => s.depthUsed m && decide (s.windowParent m = some l))
  | .tray => []
  | _ => unitChildren s.chip.variant l

/-- The refusal of a sync_window write. -/
def State.windowBad (s : State) (l : UnitLoc) (v : Nat) : Option Status :=
  let siblings : List UnitLoc := match s.windowParent l with
    | none => []
    | some p => (s.windowChildren p).filter (fun m => decide (m ≠ l))
  let outside : Bool := match s.windowParent l with
    | none => false
    | some p => !(windowWithin v (s.syncWindow p))
  let old := s.syncWindow l
  let holds := fun (w n : Nat) => decide (windowFirst w ≤ n) && decide (n < windowFirst w + windowCount w)
  if bitsOf v 15 14 ≠ 0 ∨ bitsOf v 31 31 ≠ 0 then some .rsvd
  else if 16384 < windowFirst v + windowCount v ∨ outside ∨ siblings.any (fun m => windowsMeet v (s.syncWindow m)) ∨
      (s.windowChildren l).any (fun m => !(windowWithin (s.syncWindow m) v)) then some .param
  else if s.remote.waits.any (fun w => holds old w.obj && !(holds v w.obj)) then some .busy
  else none

end Sys2Proof.Machine
end

