-- ==== Sys2Proof/Machine/Waits.lean ====
section
/-! DEFINITION. Waits that end without their condition (R96), wait-graph dumps and their break (R98, R99), and the words of a sync
object (R93). -/

namespace Sys2Proof.Machine

/-! ### Words of a sync object (R93) -/

/-- Pending waits of an object. -/
def State.waiters (s : State) (n : Nat) : Nat := (s.remote.waits.filter (fun w => decide (w.obj = n))).length

/-- Word k, at offset 8k, of an object. -/
def State.syncWord (s : State) (n k : Nat) : Nat :=
  let o := s.sync n
  match k with
  | 0 => o.value.toNat
  | 1 => o.timeoutUs + 2 ^ 24 * o.owner
  | 2 => o.producer0.toNat + 2 ^ 32 * o.producer1.toNat
  | 3 => s.waiters n % 65536 + 2 ^ 32 * o.lastNotifier.toNat
  | 4 => o.lastChange.toNat
  | 5 => o.changeCount.toNat
  | _ => 0

/-! ### The dump (R98) -/

/-- Pending waits of the producers of the object a wait names, by number. -/
def State.waitEdges (s : State) (id : Nat) : List Nat :=
  match s.remote.waits.find? (fun w => decide (w.id = id)) with
  | none => []
  | some w =>
    let o := s.sync w.obj
    let named := fun (p : Nat) => (decide (o.producer0.toNat = p) || decide (o.producer1.toNat = p)) && decide (p ≠ 0xFFFFFFFF)
    (s.remote.waits.filter (fun x => named (s.issuerPath x.req.issuer))).map (fun x => x.id)

/-- Everything reached from a list of waits in `n` rounds. -/
def State.waitReach (s : State) : Nat → List Nat → List Nat
  | 0, l => l
  | n + 1, l => s.waitReach n (l ++ l.flatMap s.waitEdges).eraseDups

/-- A walk from the wait returns to it. -/
def State.onCycle (s : State) (id : Nat) : Bool := (s.waitReach s.remote.waits.length (s.waitEdges id)).contains id

def WaitCond.code : WaitCond → Nat
  | .ge => 0 | .eq => 1 | .ne => 2 | .all => 3

/-- A wait record, 32 bytes. -/
def State.waitRecord (s : State) (w : Wait) : List Byte :=
  let node := if w.req.issuer.node = 0xFFFF then s.nodeId else w.req.issuer.node
  natLe 4 (s.issuerPath w.req.issuer) ++ natLe 2 node ++ natLe 2 w.obj ++ natLe 8 w.operand.toNat ++ natLe 1 (WaitCond.code w.cond) ++
    natLe 1 (b2n (decide (w.deadline ≤ s.now)) + 2 * b2n (s.onCycle w.id)) ++ List.replicate 6 0 ++ natLe 8 w.since.toNat

/-- The dump of the table as it stands, in a buffer of `size` bytes. -/
def State.waitDumpBytes (s : State) (number size : Nat) : List Byte :=
  let ws := s.remote.waits
  let objs := (ws.map (fun w => w.obj)).eraseDups
  let nw := min ws.length ((size - 64) / 32)
  let no := min objs.length ((size - 64 - 32 * nw) / 64)
  let cut := decide (nw < ws.length) || decide (no < objs.length)
  let cycle := ws.any (fun w => s.onCycle w.id)
  natLe 4 number ++ natLe 4 nw ++ natLe 4 no ++ natLe 4 (b2n cut + 2 * b2n cycle) ++ natLe 8 s.ftc ++ List.replicate 40 0 ++
    (ws.take nw).flatMap s.waitRecord ++
    (objs.take no).flatMap (fun o => (List.range 8).flatMap (fun k => natLe 8 (s.syncWord o k)))

/-- A dump is written into the buffer when there is one and none was written in the preceding 10 ms. -/
def State.writeDump (s : State) : State :=
  let base := s.num O.waitDumpBase 0
  let size := s.num O.waitDumpSize 0
  let recent : Bool := match s.remote.dump with
    | some d => decide (s.now < d.started + msUnits 10)
    | none => false
  if base = 0 ∨ size = 0 ∨ recent then s
  else
    let n := (s.num O.waitDumpsWritten 0 + 1) % 2 ^ 32
    let w := s.serviceWrite (addrOffset (BitVec.ofNat 64 base)) (s.waitDumpBytes n size) 0xFF .put
    let t := w.2.setNum O.waitDumpsWritten n
    { t with remote := { t.remote with
      dump := some { number := n, waits := s.remote.waits.map (fun x => x.id), writing := true, started := s.now } } }

/-! ### Commands -/

/-- A wait reaches its timeout (R96). -/
def execWaitTimeout (id : Nat) (s : State) : Result :=
  .next (s.begin.whenRunning (fun t =>
    match t.remote.waits.find? (fun w => decide (w.id = id)) with
    | none => t
    | some w => ((t.elapse w.deadline).writeDump).endWait w .timeout))

/-- The dump is complete: its fault record, and its event on vector 0x02D (R98, R495, R553). -/
def execWaitDumpComplete (s : State) : Result :=
  .next (s.begin.whenRunning (fun t =>
    match t.remote.dump with
    | none => t
    | some d =>
      if !d.writing then t
      else
        let t1 := { t with remote := { t.remote with dump := some { d with writing := false } } }
        (t1.fault 0x31 (t1.path .package) d.number).eventOpen 0x02D (t1.path .package) .ok d.number))

/-- A write of wait_break (R99): every wait of the latest dump that is still pending ends. -/
def State.waitBreak (s : State) (p : DictPath) (n : Nat) : State :=
  let ids := match s.remote.dump with | some d => d.waits | none => []
  let bad := n = 0 ∨ n ≠ s.num O.waitDumpsWritten 0
  s.openWrite (.dict p) 0 (if bad then some (refusal .param) else none) (fun t =>
    (t.remote.waits.filter (fun w => ids.contains w.id)).foldl (fun (u : State) w => u.endWait w .deadlockBreak) t)

def execWaitBreak (p : DictPath) (dump : Nat) (s : State) : Result :=
  .next (s.begin.whenRunning (fun t => t.waitBreak p dump))

end Sys2Proof.Machine
end

