-- ==== Sys2Proof/Machine/DictRead.lean ====
section
/-! DEFINITION. Reads of the object dictionary (R15, R17, R31, R33, R485, R489, R490, R542, R545). -/

namespace Sys2Proof.Machine

/-! ### Types (R17, R485) -/

/-- TYPE code. -/
def ObjType.code : ObjType → Nat
  | .bool => 1 | .u8 => 2 | .u16 => 3 | .u32 => 4 | .u64 => 5 | .i32 => 6 | .f32 => 7 | .time => 8 | .str => 9 | .blob => 0xA

/-- Size of a fixed-size type; none of STR and BLOB. -/
def ObjType.size : ObjType → Option Nat
  | .bool | .u8 => some 1 | .u16 => some 2 | .u32 | .i32 | .f32 => some 4 | .u64 | .time => some 8 | .str | .blob => none

/-! ### Which objects there are (R33, R489) -/

/-- The index, or one entry of it, belongs to a unit that the variant lacks or a depth not in use. -/
def State.objAbsent (s : State) (index sub : Nat) : Bool :=
  if 0x8000 ≤ index then (match unitLoc index with
    | none => true
    | some l => !(s.present l) || !(s.depthUsed l))
  else if 0x3000 ≤ index ∧ index < 0x3240 then !(s.present (.port ((index - 0x3000) / 16)))
  else if index = 0x2100 ∧ 0x10 ≤ sub ∧ sub < 0x34 then !(s.present (.port (sub - 0x10)))
  else false

/-- The index that holds an object: an engine die's alias index is its own (R33). -/
def objIndex (index : Nat) : Nat :=
  if 0x8000 ≤ index then (match unitLoc index with | some l => unitIndex l | none => index) else index

/-- The rows of an index. -/
def objRows (index : Nat) : List ObjSpec :=
  if 0x8000 ≤ index ∧ index < 0xC000 then (match unitLoc index with | some l => unitObjsOf l | none => [])
  else objTable.filter (fun o => o.covers index o.sub)

/-- Subindex 0x00: the highest subindex of the index. -/
def State.objTop (s : State) (index : Nat) : Option Nat :=
  match (objRows index).filter (fun o => !(s.objAbsent index o.sub)) with
  | [] => none
  | l => some ((l.map (fun o => o.sub)).foldl max 0)

/-! ### Bytes (R435, R438, R482, R494, R552) -/

/-- The link-local address: fe80::/64 with the modified EUI-64 of the MAC address (R482). -/
def State.linkLocal (s : State) : List Byte :=
  let m := (natLe 6 s.macAddress).reverse
  [0xFE, 0x80, 0, 0, 0, 0, 0, 0] ++ [m.getD 0 0 ^^^ 2, m.getD 1 0, m.getD 2 0, 0xFF, 0xFE, m.getD 3 0, m.getD 4 0, m.getD 5 0]

/-- The 32 bytes of an event record (R494). -/
def Event.bytes (e : Event) : List Byte :=
  natLe 8 e.seq ++ natLe 8 e.ftc ++ natLe 4 e.source.toNat ++ natLe 2 e.vector ++ natLe 1 e.kind ++ natLe 1 e.status.code ++
    natLe 1 e.flags.toNat ++ natLe 3 0 ++ natLe 4 e.arg.toNat

/-- Strings of bytes that show state held elsewhere. -/
def State.bytesView (s : State) (index sub : Nat) : Option (List Byte) :=
  match index, sub with
  | 0x1000, 0x06 => some s.chip.productName
  | 0x1000, 0x07 => some s.chip.stepping
  | 0x1100, 0x03 => some s.linkLocal
  | 0x1800, 0x04 => some (((s.mgmt.eventLog.find? (fun e => decide (e.seq = s.num O.eventLogSelect 0))).map (fun e => e.bytes)).getD [])
  | 0x5400, 0x08 => some ((s.sec.clearLog.find? (fun r => decide (fieldAt r 0 8 = s.num O.clearLogSelect 0))).getD [])
  | 0x5400, 0x0A => some (s.measurement (s.num O.measurementSelect 1))
  | 0x5800, 0x03 => some (((s.faults.log.find? (fun r => decide (r.seq = s.num O.faultLogSelect 0))).map (fun r => r.bytes)).getD [])
  | _, _ => none

/-- The bytes of an object's value. -/
def State.objBytes (s : State) (o : ObjSpec) (index sub : Nat) : List Byte :=
  let k := 256 * objIndex index + sub
  match o.ty.size with
  | some n => natLe n ((s.objView index sub).getD (s.num k o.dflt))
  | none => (s.bytesView index sub).getD (s.bytesObj k)

/-- A read of fault_log_record marks the record read (R554). -/
def State.markRead (s : State) (index sub : Nat) : State :=
  if index = 0x5800 ∧ sub = 0x03 ∧ s.faults.log.any (fun r => decide (r.seq = s.num O.faultLogSelect 0)) then
    { s with faults := { s.faults with read := max s.faults.read (s.num O.faultLogSelect 0) } }
  else s

/-! ### Units above the package (R31) -/

/-- Where an access to an ancestor's index is served: none is here. -/
def State.servedBy (s : State) (index : Nat) : Except Status (Option Nat) :=
  match unitLoc index with
  | some l =>
    match s.representative l with
    | none => .ok none
    | some n => if n = 0xFFFF then .error .param else if s.isHere n then .ok none else .ok (some n)
  | none => .ok none

/-- A value the manual leaves open: a number whose STATUS another package decides, or the counters of an ancestor. -/
def State.openStatus (s : State) : Nat × State := s.free 256

/-! ### A read -/

/-- The package holds management: its firmware, or the Boot ROM in Boot Hold and Fuse Hold (R542, R545). -/
def State.serves (s : State) : Bool :=
  s.running || decide (s.power.package = .bootHold) || decide (s.power.package = .fuseHold)

/-- Commands of the lane and of the sideband targets have an effect while management is served. -/
def State.whenServed (s : State) (f : State → State) : State := if s.serves then f s else s

/-- In a hold only 0x1000, 0x1100 and 0x2300 are read; the STATUS of another read is not stated. -/
def State.heldIndex (s : State) (index : Nat) : Bool :=
  !s.running && decide (index ≠ 0x1000) && decide (index ≠ 0x1100) && decide (index ≠ 0x2300)

/-- The object derives from a fuse word that did not resolve (R545). -/
def State.fuseUnread (s : State) (index sub : Nat) : Bool :=
  decide (s.power.package = .fuseHold) &&
    s.power.fuses.any (fun e => decide (e.2 = .unresolved) && Config.fuseObject e.1 (256 * index + sub))

/-- A value of an object that exists and reads: the slice from `off`, at most `most` bytes of a STR or BLOB. -/
def State.readValue (s : State) (o : ObjSpec) (index sub off : Nat) (most : Option Nat) : DictResponse × State :=
  let bytes := s.objBytes o index sub
  let slice := bytes.drop off
  match o.ty.size with
  | some _ =>
    if off ≠ 0 then ({ status := (Status.param).code }, s)
    else if 0x8000 ≤ index ∧ (s.objView index sub).isNone ∧ 0x08 ≤ sub ∧ sub ≤ 0x0C ∧ sub ≠ 0x09 then
      let v := s.openBytes bytes.length
      ({ status := 0, type := o.ty.code, total := bytes.length, data := v.1 }, v.2)
    else ({ status := 0, type := o.ty.code, total := bytes.length, data := bytes }, s.markRead index sub)
  | none =>
    if bytes.length < off then ({ status := (Status.range).code }, s)
    else ({ status := 0, type := o.ty.code, total := bytes.length, data := (match most with | some n => slice.take n | none => slice) },
      s.markRead index sub)

/-- A read of index.sub from an OFFSET (R485, R489, R490). -/
def State.dictRead (s : State) (index sub off : Nat) (most : Option Nat) : DictResponse × State :=
  let no := fun (st : Status) => (({ status := st.code } : DictResponse), s)
  if s.heldIndex index then
    let v := s.openStatus
    ({ status := v.1 }, v.2)
  else if s.fuseUnread index sub then no .fuse
  else if s.objAbsent index sub then no .rsvd
  else match s.servedBy index with
    | .error st => no st
    | .ok (some n) =>
      let v := (s.emit (.forward n { op := 1, index := index, sub := sub, offset := off })).openStatus
      ({ status := v.1 }, v.2)
    | .ok none =>
      if sub = 0 then
        match s.objTop index with
        | none => no .rsvd
        | some m => if off ≠ 0 then no .param else ({ status := 0, type := 2, total := 1, data := [BitVec.ofNat 8 m] }, s)
      else match objSpec index sub with
        | none => no .rsvd
        | some o => if o.acc = .wo then no .access else s.readValue o index sub off most

end Sys2Proof.Machine
end

