-- ==== Sys2Proof/Machine/DictWrite.lean ====
section
/-! DEFINITION. Writes of the object dictionary: the rules of each object once the write has passed its access code, its length and its
Range (R15-R17, R29, R34, R38, R99, R100, R143, R144, R229, R256, R298, R321-R323, R350-R351, R375-R377, R453-R454, R481, R492, R497-R501,
R516, R547-R551, R555, R573-R575). -/

namespace Sys2Proof.Machine

/-! ### Shared forms -/

/-- An object stored as written, or refused. -/
def State.keepObj (s : State) (k n : Nat) (bad : Option Status) : State :=
  match bad with
  | some st => s.answer (refusal st)
  | none => (s.setNum k n).answer (served)

/-- A change of state, or a refusal. -/
def State.judged (s : State) (bad : Option Status) (f : State → State) : State :=
  match bad with
  | some st => s.answer (refusal st)
  | none => (f s).answer (served)

def paramIf (b : Bool) : Option Status := if b then some .param else none
def busyIf (b : Bool) : Option Status := if b then some .busy else none

/-- Every plan slot is EMPTY (R29, R256). -/
def State.allEmpty (s : State) : Bool := s.plans.slots.all (fun e => decide (e.2.state = .empty))

/-- What a command's own row does, within a write. -/
def State.runs (s : State) (f : State → Result) : State :=
  match f s with
  | .next t => { t with out := { t.out with sent := s.out.sent ++ t.out.sent } }
  | _ => s

/-! ### Units (R34, R38, R100) -/

def unitCmdOf (n : Nat) : Option UnitCmd :=
  [UnitCmd.quiesce, .resume, .reset, .powerDown, .powerUp, .updateBegin, .updateEnd][n - 1]?

/-- wait_dump_base is 0 or a 64-byte-aligned REGION 0x0 address of this node (R100). -/
def State.dumpBaseBad (s : State) (n : Nat) : Bool :=
  let a : Word64 := BitVec.ofNat 64 n
  decide (n ≠ 0) && (decide (addrRegion a ≠ 0) || decide (addrOffset a % 64 ≠ 0) || !(s.isHere (addrNode a)))

def State.writeUnit (s : State) (p : DictPath) (l : UnitLoc) (sub n : Nat) : State :=
  let k := 256 * unitIndex l + sub
  if sub = 4 then (match unitCmdOf n with | some c => s.unitCommand (unitIndex l) c | none => s.answer (refusal .param))
  else if sub = 6 then s.keepObj k n (s.windowBad l n)
  else match l with
    | .cluster d q c => if sub = 0x27 then s.clockRequest p (64 * d + 16 * q + c) n else s.keepObj k n none
    | .package =>
      if sub = 0x23 then s.keepObj k n (paramIf (s.dumpBaseBad n))
      else if sub = 0x24 then s.keepObj k n (paramIf (decide (n ≠ 0) && (decide (n < 4096) || decide (16777216 < n))))
      else if sub = 0x26 then s.waitBreak p n
      else s.keepObj k n none
    | _ => s.keepObj k n none

/-! ### Management (R492, R497-R499, R516) -/

/-- The index holds an RWL object. -/
def holdsRwl (index : Nat) : Bool := objTable.any (fun o => decide (o.acc = .rwl) && o.covers index o.sub)

/-- dict_unlock (R492). -/
def State.unlock (s : State) (p : DictPath) (n : Nat) : State :=
  let x := s.pathState p
  if n % 65536 = 0xA5C3 ∧ holdsRwl (n / 65536) then
    (s.setPath p { x with arm := some (n / 65536, s.now + msUnits 100) }).answer (served)
  else (s.setPath p { x with arm := none }).answer (refusal .param)

/-- event_raise (R497): KIND 0, STATUS OK, the package's path; ARG is not stated. -/
def State.raiseEvent (s : State) (n : Nat) : State :=
  s.judged (paramIf (decide (n < 0x100) || decide (0x3FF < n))) (fun t =>
    let a := t.free (2 ^ 32)
    a.2.event n (a.2.path .package) 0 .ok a.1)

/-- vector_sync_addr and vector_msix (R499). -/
def msixBad (s : State) (n : Nat) : Bool :=
  decide (n / 64 % 4 ≠ 0) || decide (n / 2 ^ 14 % 2 ≠ 0) || decide (36 ≤ n / 256 % 64) || decide ((s.port (n / 256 % 64)).mode ≠ .pcie)
def syncAddrBad (n : Nat) : Bool := decide (n ≠ 0) && decide (addrRegion (BitVec.ofNat 64 n) ≠ 3)

def State.writeEvents (s : State) (sub n : Nat) : State :=
  let v := s.num O.vectorSelect 0
  let x := s.vector v
  let k := 256 * 0x1800 + sub
  match sub with
  | 0x02 => s.raiseEvent n
  | 0x10 => s.keepObj k n (if 0x3B ≤ n ∧ n ≤ 0xFF then some .rsvd else none)
  | 0x11 => s.judged none (fun t => t.setVector v { x with enable := decide (n = 1) })
  | 0x12 => s.judged none (fun t => t.setVector v { x with gdpMask := BitVec.ofNat 4 n })
  | 0x13 => s.judged (paramIf (syncAddrBad n)) (fun t => t.setVector v { x with syncAddr := BitVec.ofNat 64 n })
  | 0x14 => s.judged none (fun t => t.setVector v { x with syncTc := n })
  | 0x15 => s.judged (paramIf (msixBad s n)) (fun t => t.setVector v { x with msix := BitVec.ofNat 16 n })
  | 0x16 => s.judged none (fun t => t.setVector v { x with smbalert := decide (n = 1) })
  | 0x17 => s.judged none (fun t => t.setVector v { x with holdoff := n })
  | _ => s.keepObj k n none

/-- Sensor entries: bit 7 of the target is reserved, and width 3; a period of 1-1,000 ms (R507, R516). -/
def State.writeSide (s : State) (sub n : Nat) : State :=
  let e := s.num O.sensorSelect 0
  let x := s.sensor e
  match sub with
  | 0x11 => s.judged (if bitAt n 7 then some .rsvd else none) (fun t => t.setSensor e { x with target := BitVec.ofNat 16 n })
  | 0x12 =>
    s.judged (paramIf (decide (n % 4 = 3) || decide (1000 < n / 4) || (decide (n % 4 ≠ 0) && decide (n / 4 = 0))))
      (fun t => t.setSensor e { x with format := BitVec.ofNat 16 n })
  | _ => s.keepObj (256 * 0x1101 + sub) n none

/-! ### Package, ports, plans, partitions -/

def State.writePackage (s : State) (sub n : Nat) : State :=
  if sub ≤ 6 then
    s.keepObj (256 * 0x2200 + sub) n (firstOf (paramIf (decide (sub = 2) && decide (4096 ≤ n))) (busyIf (!s.allEmpty)))
  else if sub = 7 then
    s.judged (s.resetCheck.map (fun r => r.status)) (fun t => if n = 1 then t.commandWarm .commandWarm else t.coldReset .commandCold)
  else s.keepObj (256 * 0x2200 + sub) n none

def State.writePort (s : State) (p : DictPath) (port sub n : Nat) : State :=
  let x := s.port port
  let k := 256 * (0x3000 + 16 * port) + sub
  let up := decide (x.state ≠ .disabled)
  match sub with
  | 0x01 => if up then s.answer (refusal .busy) else s.portCtl (.dict p) port n x.width8 x.enable false
  | 0x07 => s.replayField (.dict p) port n x.maxAttempts
  | 0x08 => s.replayField (.dict p) port x.timeoutNs n
  | 0x12 => s.keepObj k n (firstOf (paramIf (decide (n % 65536 ≠ 0) || decide (2 ≤ addrRegion (BitVec.ofNat 64 n)))) (busyIf up))
  | 0x13 => s.keepObj k n (firstOf (paramIf (decide (2 ^ 44 < n) || decide (n % 2 ^ 28 ≠ 0))) (busyIf up))
  | _ => s.keepObj k n none

def State.writePlan (s : State) (p : DictPath) (slot sub n : Nat) : State :=
  if sub = 5 then match n with
    | 1 => s.runs (execPlanLoad p slot)
    | 2 => s.runs (execPlanArm p slot)
    | 3 => s.planDisarm (.dict p) slot
    | 4 => s.planHalt (.dict p) slot true
    | 5 => s.planHalt (.dict p) slot false
    | 6 => s.runs (execPlanResume p slot)
    | 7 => s.runs (execPlanReset p slot)
    | 8 => s.runs (execPlanUnload p slot)
    | _ => s.answer (refusal .param)
  else s.keepObj (256 * (0x5001 + slot) + sub) n (busyIf (s.slot slot).busy.isSome)

def State.writePart (s : State) (p : DictPath) (k sub n : Nat) : State :=
  let a : Access := .dict p
  let field := fun (bad : Option Status) (f : Partition → Partition) => s.partField a 0 k bad f
  match sub with
  | 0x02 => field none (fun x => { x with tenant := n })
  | 0x03 => field none (fun x => { x with hostNode := n })
  | 0x04 => field (paramIf (decide (n % 65536 ≠ 0) || decide (2 ^ 44 ≤ n))) (fun x => { x with base := n })
  | 0x05 => field none (fun x => { x with size := n })
  | 0x06 => field none (fun x => { x with nearPages := n })
  | 0x07 => field none (fun x => { x with farPages := n })
  | 0x08 => field none (fun x => { x with nearFirst := n })
  | 0x09 => field none (fun x => { x with nearCount := n })
  | 0x0A => field none (fun x => { x with farFirst := n })
  | 0x0B => field none (fun x => { x with farCount := n })
  | 0x0C => if n = 1 then s.partBind a k else if n = 2 then s.partUnbind a k else s.partRepair a k
  | 0x11 => s.judged none (fun t => t.setPart k { t.part k with counterMigration := decide (n = 1) })
  | 0x12 => s.layerField a 0 k (paramIf (decide (n % 64 ≠ 0))) (fun x => { x with layerAddr := BitVec.ofNat 64 n })
  | 0x13 => s.layerField a 0 k none (fun x => { x with layerCount := n })
  | _ => s.judged (paramIf (decide ((s.part k).size ≤ n))) (fun t => t.setPart k { t.part k with pageSelect := n })

/-! ### KV stores, coherent windows, agents, tenants -/

def State.writeStore (s : State) (p : DictPath) (t sub n : Nat) : State :=
  let a : Access := .dict p
  match sub with
  | 0x01 => s.storeField a 0 t none (fun x => { x with partition := n })
  | 0x02 => if n = 1 then s.storeEnable a t none else s.storeDisable a t
  | 0x03 => s.storeField a 0 t none (fun x => { x with slotUnits := n / 256 })
  | 0x04 => s.storeField a 0 t none (fun x => { x with metaPages := n })
  | _ => s.judged none (fun u => u.setStore t { u.store t with retainPct := n })

def State.writeWindow (s : State) (p : DictPath) (w sub n : Nat) : State :=
  let a : Access := .dict p
  match sub with
  | 0x01 => s.winField a 0 w (paramIf (decide (n % 65536 ≠ 0) || decide (2 ^ 40 ≤ n))) (fun x => { x with base := n })
  | 0x02 => s.winField a 0 w none (fun x => { x with pages := n })
  | 0x03 => s.winField a 0 w none (fun x => { x with partition := n })
  | 0x04 => s.winField a 0 w (paramIf (decide (n % 65536 ≠ 0) || decide (2 ^ 44 ≤ n))) (fun x => { x with backPages := n / 65536 })
  | _ => if n = 1 then s.runs (execWindowEnable a w none) else s.runs (execWindowDisable a w)

def State.writeAgent (s : State) (p : DictPath) (k sub n : Nat) : State :=
  let a : Access := .dict p
  let x := s.agent k
  match sub with
  | 0x01 => s.agentField a k n x.port x.tenant
  | 0x02 => s.agentField a k x.node n x.tenant
  | 0x03 => s.agentField a k x.node x.port n
  | _ => if n = 0 then s.runs (execAgentUnregister a k) else s.runs (execAgentRegister a k n)

def State.writeTenant (s : State) (p : DictPath) (t sub n : Nat) : State :=
  if sub = 1 then s.tenantWrite (.dict p) t (decide (n = 1)) none
  else s.tenantWrite (.dict p) t (s.tenant t).enable (some (decide (n = 1)))

/-! ### Faults, injection, checkpoints, meters -/

def State.writeInject (s : State) (p : DictPath) (sub n : Nat) : State :=
  let e := s.num O.injectSelect 0
  let x := s.injection e
  let field := fun (bad : Option Status) (y : InjectEntry) => s.judged (firstOf bad (busyIf x.armed)) (fun t => t.setInjection e y)
  match sub with
  | 0x02 => field none { x with kind := n }
  | 0x03 => field (if n ≠ 0xFFFFFFFF ∧ s.pathBad n then some .rsvd else none) { x with target := BitVec.ofNat 32 n }
  | 0x04 => field none { x with firstFtc := n }
  | 0x05 => field none { x with count := n }
  | 0x06 => field none { x with intervalUs := n }
  | 0x07 => field none { x with param := n }
  | 0x08 => if n = 1 then s.injectArm p else s.injectCancel p
  | _ => s.keepObj (256 * 0x5801 + sub) n none

def State.writeCkpt (s : State) (p : DictPath) (c sub n : Nat) : State :=
  let k := s.ckpt c
  let busy := decide (k.state = .armed) || decide (k.state = .streaming)
  let field := fun (bad : Option Status) (y : Ckpt) => s.judged (firstOf bad (busyIf busy)) (fun t => t.setCkpt c y)
  match sub with
  | 0x02 => field none { k with partition := n }
  | 0x03 => field none { k with dest := BitVec.ofNat 64 n }
  | 0x04 => field none { k with tc := n }
  | 0x05 => field (paramIf (decide (2 ^ 17 ≤ n))) { k with shaper := n }
  | 0x06 => field none { k with cowPages := n }
  | 0x07 => field none { k with startFtc := n }
  | _ => if n = 1 then s.ckptArm p c else s.ckptCancel p c

def State.writeFault (s : State) (p : DictPath) (sub n : Nat) : State :=
  match sub with
  | 0x05 => s.portUnfence (.dict p) n
  | 0x07 => s.judged none (fun t => if n = 0 then t.injectOff else t.setNum O.injectEnable 1)
  | _ => s.keepObj (256 * 0x5800 + sub) n none

/-- meter_snapshot (R501): the meters are latched at the first tick boundary after the write. -/
def State.snapshot (s : State) (n : Nat) : State :=
  s.judged (firstOf (paramIf (decide (n ≠ 1))) (busyIf s.mgmt.snapshotDue.isSome)) (fun t =>
    { t with mgmt := { t.mgmt with snapshotDue := some (32 * (t.tick + 1)) } })

def State.writeSecurity (s : State) (p : DictPath) (sub n : Nat) : State :=
  if sub = 0x0C then match n with
    | 1 => s.firmwareVerify p
    | 2 => s.firmwareActivate p
    | 3 => s.firmwareCommit p none
    | _ => s.firmwareAbort p
  else s.keepObj (256 * 0x5400 + sub) n none

/-! ### Every index -/

/-- The rule of a number object whose write has passed R15 and R16. -/
def State.writeNum (s : State) (p : DictPath) (index sub n : Nat) : State :=
  let keep := s.keepObj (256 * index + sub) n none
  if 0x8000 ≤ index then (match unitLoc index with | some l => s.writeUnit p l sub n | none => s.answer (refusal .rsvd))
  else if index = 0x1100 ∧ sub = 1 then s.unlock p n
  else if index = 0x1101 then s.writeSide sub n
  else if index = 0x1800 then s.writeEvents sub n
  else if index = 0x2000 ∧ sub = 3 then s.judged none (fun t => (t.setNum O.powerLimitW n).applyStored)
  else if index = 0x2100 ∧ sub = 0x0B then s.ftcSet p n
  else if index = 0x2200 then s.writePackage sub n
  else if 0x3000 ≤ index ∧ index < 0x3240 then s.writePort p ((index - 0x3000) / 16) sub n
  else if index = 0x3400 ∧ sub = 0x0A then s.keepObj O.switchRank n (busyIf (!s.allEmpty))
  else if index = 0x3800 ∧ sub = 0x0D then s.jobAbortWrite p n
  else if 0x4000 ≤ index ∧ index < 0x4200 then s.writePart p (index - 0x4000) sub n
  else if 0x4401 ≤ index ∧ index < 0x4441 then s.writeStore p (index - 0x4401) sub n
  else if 0x4801 ≤ index ∧ index < 0x4821 then s.writeWindow p (index - 0x4801) sub n
  else if 0x4821 ≤ index ∧ index < 0x4861 then s.writeAgent p (index - 0x4821) sub n
  else if 0x5001 ≤ index ∧ index < 0x5009 then s.writePlan p (index - 0x5001) sub n
  else if index = 0x5400 then s.writeSecurity p sub n
  else if 0x5401 ≤ index ∧ index < 0x5441 then s.writeTenant p (index - 0x5401) sub n
  else if index = 0x5800 then s.writeFault p sub n
  else if index = 0x5801 then s.writeInject p sub n
  else if index = 0x5802 ∧ sub = 0x07 then
    let r := s.csAbortSlot n
    (if r.1 = .ok then r.2 else s).answer (if r.1 = .ok then served else refusal r.1)
  else if 0x5810 ≤ index ∧ index < 0x5820 then s.writeCkpt p (index - 0x5810) sub n
  else if index = 0x5C00 then s.snapshot n
  else keep

/-- The rule of a STR or BLOB object: a key that a tenant's digest admits may go with it (R445). -/
def State.writeBytes (s : State) (index sub : Nat) (b : List Byte) : State :=
  let t := s.setBytes (256 * index + sub) b
  (if 0x5401 ≤ index ∧ index < 0x5441 then t.keyCheck else t).answer (served)

end Sys2Proof.Machine
end

