-- ==== Sys2Proof/Machine/Dict.lean ====
section
/-! DEFINITION. Writes on a dictionary path: access codes, Ranges, segments and arms (R11, R15-R17, R31, R489, R490, R492, R542, R545), and
the commands that stand for a lapse, an unlock, an event and a snapshot. -/

namespace Sys2Proof.Machine

/-! ### A value and its Range (R15-R17) -/

/-- A number lies in the object's Range. -/
def ObjSpec.inRange (o : ObjSpec) (n : Nat) : Bool :=
  (decide (o.lo ≤ n) && decide (n ≤ o.hi) && decide (n % max 1 o.mult = 0)) || o.also.any (fun r => decide (r.1 ≤ n) && decide (n ≤ r.2))

/-- The TOTAL of a STR or BLOB lies in the object's Range and the type's limit. -/
def ObjSpec.totalOk (o : ObjSpec) (n : Nat) : Bool :=
  decide (n ≤ (if o.ty = .str then 255 else 65535)) && (o.lens.isEmpty || o.lens.contains n)

/-- The refusal of a write by the object's access code, for a path on which an RWL object is armed or not. -/
def ObjSpec.locked (o : ObjSpec) (armed : Bool) : Option Status :=
  match o.acc with
  | .const | .ro => some .access
  | .rwl => if armed then none else some .locked
  | .rw | .wo => none

/-! ### One write -/

/-- What became of a write: its STATUS, and whether it was only staged. -/
structure PutEnd where
  status : Nat
  staged : Bool := false
  deriving DecidableEq, Repr, Inhabited

/-- The STATUS of the answer that a rule has just given; none where another package gives it. -/
def State.lastStatus (s : State) : PutEnd × State :=
  match s.out.resp with
  | some r => ({ status := r.status.code }, { s with out := { s.out with resp := none } })
  | none =>
    let v := s.openStatus
    ({ status := v.1 }, v.2)

/-- A rule is carried out, and its STATUS taken. -/
def State.byRule (s : State) (f : State → State) : PutEnd × State :=
  (f { s with out := { s.out with resp := none } }).lastStatus

/-- The path's staging is discarded. -/
def State.dropStaging (s : State) (p : DictPath) : State := s.setPath p { s.pathState p with staging := none }

/-- A write of a fixed-size object. -/
def State.putFixed (s : State) (p : DictPath) (o : ObjSpec) (index sub total size : Nat) (b : List Byte) (armed : Bool) :
    PutEnd × State :=
  let no := fun (st : Status) => (({ status := st.code } : PutEnd), s)
  match o.locked armed with
  | some st => no st
  | none =>
    let n := leNat b
    if total ≠ size ∨ b.length ≠ size then no .param
    else if !(o.inRange n) then no .param
    else s.byRule (fun t => t.writeNum p (objIndex index) sub n)

/-- A segment of a STR or BLOB (R490): checked at once, staged, and judged whole when it completes TOTAL. -/
def State.putSegment (s : State) (p : DictPath) (o : ObjSpec) (index sub off total : Nat) (b : List Byte) (armed : Bool) :
    PutEnd × State :=
  let no := fun (st : Status) => (({ status := st.code } : PutEnd), s.dropStaging p)
  let held : Option Staging := match (s.pathState p).staging with
    | some g => if s.now < g.due ∧ g.index = index ∧ g.sub = sub ∧ g.bytes.length = off ∧ g.total = total then some g else none
    | none => none
  let start : Option (List Byte) := if off = 0 then some [] else held.map (fun g => g.bytes)
  if o.acc = .const ∨ o.acc = .ro then no .access
  else if !(o.totalOk total) then no .param
  else match start with
    | none => no .param
    | some before =>
      let all := before ++ b
      if total < all.length then no .param
      else if all.length < total then
        ({ status := 0, staged := true }, s.setPath p { s.pathState p with
          staging := some { index := index, sub := sub, total := total, bytes := all, due := s.now + usUnits 1000000 } })
      else
        match o.locked armed with
        | some st => no st
        | none => (s.dropStaging p).byRule (fun t => t.writeBytes index sub all)

/-- What a hold lets through: reset_command; in Boot Hold also VERIFY and ACTIVATE (R542, R545). A GDP source that is not link-local is
not served. -/
def linkLocalPath (p : DictPath) : Bool :=
  match p with
  | .gdp a _ => decide (a.getD 0 0 = 0xFE) && decide ((a.getD 1 0).toNat / 64 = 2)
  | _ => true
def State.holdRefusal (s : State) (p : DictPath) (index sub : Nat) (b : List Byte) : Option Status :=
  let reset := decide (index = 0x2200) && decide (sub = 0x07)
  let firmware := decide (index = 0x5400) && decide (sub = 0x0C) && (decide (leNat b = 1) || decide (leNat b = 2))
  if s.running then none
  else if s.power.package = .fuseHold then (if !reset then some .fuse else if linkLocalPath p then none else some .auth)
  else if (reset || firmware) && linkLocalPath p then none else some .auth

/-- A write of index.sub, one segment or whole. -/
def State.dictPut (s : State) (p : DictPath) (index sub off total : Nat) (b : List Byte) (armed : Bool) : PutEnd × State :=
  let no := fun (st : Status) => (({ status := st.code } : PutEnd), if off = 0 then s else s.dropStaging p)
  match s.holdRefusal p index sub b with
  | some st => no st
  | none =>
    if s.objAbsent index sub then no .rsvd
    else match s.servedBy index with
      | .error st => no st
      | .ok (some n) =>
        let r : DictRequest := { op := 2, index := index, sub := sub, offset := off, total := some total, data := b }
        s.byRule (fun t => t.emit (.forward n r))
      | .ok none =>
        if sub = 0 then (if (s.objTop index).isSome then no .access else no .rsvd)
        else match objSpec index sub with
          | none => no .rsvd
          | some o => match o.ty.size with
            | some n => if off ≠ 0 then no .param else s.putFixed p o index sub total n b armed
            | none => s.putSegment p o index sub off total b armed

/-! ### Arms (R492) -/

/-- The object is RWL. -/
def isRwl (index sub : Nat) : Bool := match objSpec index sub with | some o => decide (o.acc = .rwl) | none => false

/-- The arm of a path after a write or a frame of writes: an unlock that succeeded keeps its own, staged segments of an RWL object of the
armed INDEX renew it, and anything else ends it. -/
def State.armAfter (s : State) (p : DictPath) (unlocked renew : Bool) (before : Option (Nat × Nat)) : State :=
  let x := s.pathState p
  if unlocked then s
  else if renew then s.setPath p { x with arm := before.map (fun a => (a.1, s.now + msUnits 100)) }
  else s.setPath p { x with arm := none }

/-- A write that stands alone on its path: SMBus, SPI or a mailbox. -/
def State.pathPut (s : State) (p : DictPath) (index sub off total : Nat) (b : List Byte) : PutEnd × State :=
  let before := (s.pathState p).arm
  let armed := s.dictArmed p index && isRwl index sub
  let r := s.dictPut p index sub off total b armed
  let unlocked := decide (index = 0x1100) && decide (sub = 1) && decide (r.1.status = 0)
  (r.1, r.2.armAfter p unlocked (armed && r.1.staged) before)

/-! ### Commands -/

/-- A write of dict_unlock (R492). -/
def execDictUnlock (p : DictPath) (v : Word32) (s : State) : Result :=
  .next (s.begin.whenRunning (fun t => t.unlock p v.toNat))

/-- 100 ms without a write: the arm lapses. -/
def execUnlockArmLapse (p : DictPath) (s : State) : Result :=
  let t := s.begin
  .next (match (t.pathState p).arm with
    | none => t
    | some a => let u := t.elapse a.2; u.setPath p { u.pathState p with arm := none })

/-- 1 s: the staging is discarded (R490). -/
def execSegmentStagingExpiry (p : DictPath) (s : State) : Result :=
  let t := s.begin
  .next (match (t.pathState p).staging with
    | none => t
    | some g => (t.elapse g.due).dropStaging p)

/-- A write of event_raise (R497). -/
def execEventRaise (p : DictPath) (n : Nat) (s : State) : Result :=
  .next (s.begin.whenRunning (fun t => (t.takeArm (.dict p) 0).2.raiseEvent n))

/-- A write of meter_snapshot (R501). -/
def execMeterSnapshot (p : DictPath) (v : Nat) (s : State) : Result :=
  .next (s.begin.whenRunning (fun t => (t.takeArm (.dict p) 0).2.snapshot v))

/-- The tick boundary after the write: every live meter is copied (R501). -/
def execMeterSnapshotLatch (s : State) : Result :=
  .next (s.begin.whenRunning (fun t =>
    match t.mgmt.snapshotDue with
    | none => t
    | some f =>
      let u := t.atFtc f
      let v : State := { u with mgmt := { u.mgmt with snapshotDue := none } }
      ((List.range 65).foldl (fun (x : State) o => (List.range 16).foldl (fun (y : State) k =>
        y.setNum ((0x5C81 + o) * 256 + (k + 1)) (u.num ((0x5C01 + o) * 256 + (k + 1)) 0)) x) v).setNum O.meterSnapshotFtc f))

end Sys2Proof.Machine
end

