-- ==== Sys2Proof/Machine/Side.lean ====
section
/-! DEFINITION. The SMBus target (R502, R503), the SPI target (R504-R506) and the dictionary mailboxes (R515). -/

namespace Sys2Proof.Machine

/-! ### A request on a path -/

/-- The package that serves an index, when it is another one (R31). -/
def State.elsewhere (s : State) (index sub : Nat) : Option Nat :=
  if !s.running || s.objAbsent index sub then none
  else match s.servedBy index with
    | .ok (some n) => some n
    | _ => none

/-- A request is performed: its response, none while another package has yet to answer. A read returns at most `most` bytes of a STR
or BLOB. -/
def State.ask (s : State) (p : DictPath) (r : DictRequest) (most : Nat) : Option DictResponse × State :=
  match s.elsewhere r.index r.sub with
  | some n => (none, (if r.op = 2 then s.armAfter p false false none else s).emit (.forward n r))
  | none =>
    if r.op = 1 then
      let d := s.dictRead r.index r.sub r.offset (some most)
      (some d.1, d.2)
    else if r.op = 2 then
      let d := s.pathPut p r.index r.sub r.offset (r.total.getD r.data.length) r.data
      let code := match objSpec r.index r.sub with | some o => o.ty.code | none => 0
      (some { status := d.1.status, type := if d.1.status = 0 then code else 0 }, d.2)
    else (some { status := (Status.rsvd).code }, s)

/-- The type of the object is STR or BLOB: its writes are segmented. -/
def segmented (index sub : Nat) : Bool := match objSpec index sub with | some o => o.ty.size.isNone | none => false

/-- TOTAL of the staging a path holds, for a segment that carries none. -/
def State.stagedTotal (s : State) (p : DictPath) : Nat := match (s.pathState p).staging with | some g => g.total | none => 0

/-! ### The targets -/

def State.side (s : State) (p : DictPath) : SideTarget := if p = .spi then s.mgmt.spi else s.mgmt.smb
def State.setSide (s : State) (p : DictPath) (x : SideTarget) : State :=
  if p = .spi then { s with mgmt := { s.mgmt with spi := x } } else { s with mgmt := { s.mgmt with smb := x } }

/-- A new request discards an unread response; its own response follows, at once or when another package has answered. -/
def State.sideAsk (s : State) (p : DictPath) (r : DictRequest) (most : Nat) : State :=
  let x := s.ask p r most
  x.2.setSide p { x.2.side p with pending := if x.1.isNone then some r else none, response := x.1 }

/-- A response that a rule gives without performing anything. -/
def State.sideRefuse (s : State) (p : DictPath) (st : Status) : State :=
  s.setSide p { s.side p with pending := none, response := some { status := st.code } }

/-! ### Events fetched (R496, R502, R505) -/

/-- Records held and not fetched, oldest first. -/
def State.unfetched (s : State) : List Event := s.mgmt.eventLog.filter (fun e => !e.fetched)

/-- SMBALERT_N is asserted (R496). -/
def State.smbAlert (s : State) : Bool := s.mgmt.eventLog.any (fun e => e.alert && !e.fetched)

def State.markFetched (s : State) (seq : Nat) : State :=
  { s with mgmt := { s.mgmt with eventLog := s.mgmt.eventLog.map (fun e => if e.seq = seq then { e with fetched := true } else e) } }

/-! ### SMBus (R502, R503) -/

def smbBytes (r : DictResponse) : List Byte :=
  natLe 1 r.status ++ natLe 1 r.type ++ natLe 2 r.data.length ++ natLe 2 r.total ++ r.data

/-- The request that a block carries; none where a write of a STR or BLOB has no TOTAL. -/
def State.smbRequest (s : State) (d : List Byte) : Option DictRequest :=
  let index := fieldAt d 1 2
  let sub := fieldAt d 3 1
  let off := fieldAt d 4 2
  let r : DictRequest := { op := fieldAt d 0 1, index := index, sub := sub, offset := off, data := d.drop 6 }
  if r.op ≠ 2 then some { r with data := [] }
  else if !(segmented index sub) then some r
  else if off ≠ 0 then some { r with total := some (s.stagedTotal .smbus) }
  else if d.length < 8 then none
  else some { r with total := some (fieldAt d 6 2), data := d.drop 8 }

/-- DICT_REQ: a wrong PEC, or a STOP before the block count, discards the request. -/
def execDictReq (data : List Byte) (pecOk whole : Bool) (s : State) : Result :=
  .next (s.begin.whenServed (fun t =>
    if !pecOk || !whole then t.bump O.smbErrors
    else if data.length < 6 ∨ 255 < data.length then t.sideRefuse .smbus .param
    else match t.smbRequest data with
      | none => t.sideRefuse .smbus .param
      | some r => t.sideAsk .smbus r 249))

/-- DICT_RSP: a response is read once. -/
def execDictRsp (s : State) : Result :=
  .next (s.begin.whenServed (fun t =>
    let x := t.side .smbus
    match x.pending, x.response with
    | some _, _ => t.emit (.sideband .smbus (smbBytes { status := (Status.busy).code }))
    | none, none => t.emit (.sideband .smbus (smbBytes { status := (Status.param).code }))
    | none, some r => (t.setSide .smbus { x with response := none }).emit (.sideband .smbus (smbBytes r))))

/-- EVENT_FETCH: the number of records not fetched, and the oldest of them; with none, the record's bytes are open. -/
def execEventFetch (s : State) : Result :=
  .next (s.begin.whenServed (fun t =>
    match t.unfetched with
    | [] =>
      let b := t.openBytes 32
      b.2.emit (.sideband .smbus (natLe 1 0 ++ b.1))
    | e :: l => (t.markFetched e.seq).emit (.sideband .smbus (natLe 1 (min 255 (l.length + 1)) ++ e.bytes))))

/-- SCL low for 25 ms: the interface resets and releases SDA. A partial transaction is not held between commands, so none is left. -/
def execSmbusSclTimeout (s : State) : Result := .next s.begin

/-! ### SPI (R504-R506) -/

/-- A frame discarded whole: FRAME_ERR, the count, and any arm of the path lapses (R492). -/
def State.spiDiscard (s : State) : State :=
  let t := (s.setSide .spi { s.side .spi with frameErr := true }).bump O.spiFrameErrors
  t.setPath .spi { t.pathState .spi with arm := none }

/-- A request whose CRC fails: discarded, with STATUS E_CHECK as the response. -/
def State.spiCheckFail (s : State) : State :=
  let t := (s.sideRefuse .spi .check).bump O.spiCheckFails
  t.setPath .spi { t.pathState .spi with arm := none }

def spiBytes (ws : List Word32) : List Byte := ws.flatMap (fun w => natLe 4 w.toNat)

/-- Words a request frame needs, from its first two. -/
def spiNeed (op index sub len off : Nat) : Nat :=
  if op = 2 then 3 + (len + 3) / 4 + (if segmented index sub && decide (off = 0) then 1 else 0) else 3

/-- A request frame of `edges` edges is judged as SPI_CS_N rises. OP 2 is a write; 4 and 5 are fetches, which carry no CRC. -/
def State.spiRequest (s : State) (edges : Nat) (words : List Word32) (mine : Nat → Bool) : State :=
  let w0 := (words.getD 0 0).toNat
  let w1 := (words.getD 1 0).toNat
  let op := w0 % 256
  let sub := w0 / 256 % 256
  let index := w0 / 65536
  let len := w1 % 65536
  let off := w1 / 65536
  let need := spiNeed op index sub len off
  let last := (words.getD (need - 1) 0).toNat
  let body := spiBytes ((List.range (need - 3)).map (fun k => words.getD (k + 2) 0))
  let withTotal := decide (op = 2) && segmented index sub && decide (off = 0)
  let value := (if withTotal then body.drop 4 else body).take len
  let total := if withTotal then some (fieldAt body 0 2) else if op = 2 ∧ segmented index sub then some (s.stagedTotal .spi) else none
  if edges % 32 ≠ 0 ∨ edges / 32 < 2 then s.spiDiscard
  else if !(mine op) then s
  else if edges / 32 < need then s.spiDiscard
  else if last % 65536 ≠ crc16 (spiBytes ((List.range (need - 1)).map (fun k => words.getD k 0))) then s.spiCheckFail
  else if last / 65536 ≠ 0 ∨ (withTotal ∧ fieldAt body 2 2 ≠ 0) then s.sideRefuse .spi .rsvd
  else if 4096 < len then s.sideRefuse .spi .param
  else s.sideAsk .spi { op := op, index := index, sub := sub, offset := off, total := total, data := if op = 2 then value else [] }
    (if len = 0 then 4096 else len)

/-- A read request, and a frame whose OP is reserved. -/
def execSpiRead (edges : Nat) (words : List Word32) (s : State) : Result :=
  .next (s.begin.whenServed (fun t => t.spiRequest edges words (fun op => !([2, 4, 5].contains op))))

def execSpiWrite (edges : Nat) (words : List Word32) (s : State) : Result :=
  .next (s.begin.whenServed (fun t => t.spiRequest edges words (fun op => decide (op = 2))))

/-- What a fetch returns: STATUS, READY, LENGTH and a value. -/
structure SpiReply where
  status : Nat
  ready  : Bool
  value  : List Byte := []
  deriving DecidableEq, Repr, Inhabited

def spiPad (b : List Byte) : List Byte := b ++ List.replicate (roundUp b.length 4 - b.length) 0

/-- Words of a fetch's reply from the status word on. -/
def State.spiReplyBytes (s : State) (r : SpiReply) : List Byte :=
  let b := natLe 4 (r.status + 256 * b2n r.ready + 512 * b2n (s.side .spi).frameErr + 65536 * r.value.length) ++ spiPad r.value
  b ++ natLe 4 (crc16 b)

/-- A fetch of `edges` edges: it completes when its CRC word has been clocked out. The word returned during word 1 is open. -/
def State.spiFetch (s : State) (edges : Nat) (r : SpiReply) (read : State → State) : State :=
  if edges % 32 ≠ 0 ∨ edges / 32 < 2 then s.spiDiscard
  else
    let b := s.spiReplyBytes r
    let gap := s.openBytes 4
    let out := natLe 4 0xC1A75A5A ++ gap.1 ++ b ++ List.replicate (edges / 8 - (8 + b.length)) 0
    let t := gap.2.emit (.sideband .spi (out.take (edges / 8)))
    if edges / 8 < 8 + b.length then t
    else
      let u := read t
      u.setSide .spi { u.side .spi with frameErr := false }

def execSpiFetchResponse (edges : Nat) (s : State) : Result :=
  .next (s.begin.whenServed (fun t =>
    match (t.side .spi).pending, (t.side .spi).response with
    | some _, _ => t.spiFetch edges { status := (Status.busy).code, ready := false } id
    | none, none => t.spiFetch edges { status := (Status.param).code, ready := false } id
    | none, some r => t.spiFetch edges { status := r.status, ready := true, value := r.data }
        (fun u => u.setSide .spi { u.side .spi with response := none })))

def execSpiFetchEvent (edges : Nat) (s : State) : Result :=
  .next (s.begin.whenServed (fun t =>
    match t.unfetched with
    | [] => t.spiFetch edges { status := (Status.param).code, ready := false } id
    | e :: _ => t.spiFetch edges { status := 0, ready := true, value := e.bytes } (fun u => u.markFetched e.seq)))

/-! ### Mailboxes (R515) -/

/-- DATA of a mailbox as bytes, and bytes into its words. -/
def Mailbox.bytes (m : Mailbox) : List Byte := (List.range 16).flatMap (fun k => natLe 4 (Store.read 0 m.data k).toNat)
def Mailbox.fill (m : Mailbox) (b : List Byte) : Mailbox :=
  (List.range ((b.length + 3) / 4)).foldl (fun (x : Mailbox) k =>
    { x with data := Store.write 0 x.data k (BitVec.ofNat 32 (fieldAt (spiPad b) (4 * k) 4)) }) m

/-- The OP ends with its response. -/
def Mailbox.ended (m : Mailbox) (read : Bool) (d : DictResponse) : Mailbox :=
  let x := { m with busy := false, status := d.status, type := d.type, length := d.data.length }
  if read ∧ d.status = 0 then ({ x with total := d.total }).fill d.data else x

/-- GO: the OP is performed, and BUSY holds while another package has yet to answer. -/
def State.mbxGo (s : State) (m : Nat) : State :=
  let x := s.mbx m
  let r : DictRequest := { op := x.op, index := x.index, sub := x.sub, offset := x.offset, total := some x.total, data := x.bytes.take x.wlen }
  let a := s.ask (.mailbox m) r 64
  match a.1 with
  | some d => a.2.setMbx m ((a.2.mbx m).ended (decide (r.op = 1)) d)
  | none => a.2.setMbx m { a.2.mbx m with busy := true }

/-- A write of MGMT_MBX_CMD. -/
def State.mbxCommand (s : State) (i : Issuer) (m v : Nat) : State :=
  let op := bitsOf v 25 24
  let go := bitAt v 26
  let bad : Option Status :=
    if bitsOf v 31 28 ≠ 0 ∨ op = 0 ∨ op = 3 then some .rsvd
    else if go && (s.mbx m).busy then some .busy
    else none
  s.mgmtWrite (.csr i) (0x0060000 + 0x100 * m) (bad.map (fun st => refusal st)) (fun t =>
    let u := t.setMbx m { t.mbx m with index := bitsOf v 15 0, sub := bitsOf v 23 16, op := op }
    if go then u.mbxGo m else u)

/-- GO with OP read, and with OP write. -/
def execMailboxRead (i : Issuer) (m : Nat) (v : Word32) (s : State) : Result :=
  .next (s.begin.whenRunning (fun t => t.mbxCommand i m (v.toNat / 2 ^ 27 * 2 ^ 27 + 5 * 2 ^ 24 + v.toNat % 2 ^ 24)))

def execMailboxWrite (i : Issuer) (m : Nat) (v : Word32) (s : State) : Result :=
  .next (s.begin.whenRunning (fun t => t.mbxCommand i m (v.toNat / 2 ^ 27 * 2 ^ 27 + 6 * 2 ^ 24 + v.toNat % 2 ^ 24)))

/-! ### An answer from another package (R31) -/

/-- The response of a request that a path holds pending; another path's answer goes out with the command. -/
def State.settle (s : State) (p : DictPath) (r : DictRequest) (d : DictResponse) : State :=
  match p with
  | .mailbox m => if (s.mbx m).busy then s.setMbx m ((s.mbx m).ended (decide (r.op = 1)) d) else s
  | .smbus | .spi =>
    if (s.side p).pending = some r then s.setSide p { s.side p with pending := none, response := some d } else s
  | .gdp _ _ => s

end Sys2Proof.Machine
end

