-- ==== Sys2Proof/Machine/Aggregate.lean ====
section
/-! DEFINITION. Requests to units above the package (R31) and counters latched together (R28, R39, R40). -/

namespace Sys2Proof.Machine

/-- The answer that a dictionary response gives. -/
def dictAnswer (r : DictResponse) : Response :=
  if r.status = 0 then { served .ok (BitVec.ofNat 64 (leNat (r.data.take 8))) with data := r.data } else refusal (statusOf r.status)

/-- The answer of a write. -/
def putAnswer (r : PutEnd) : Response := if r.status = 0 then served else refusal (statusOf r.status)

/-- A dictionary request carried out here. -/
def State.requestHere (s : State) (p : DictPath) (r : DictRequest) : State :=
  if r.op = 1 then
    let d := s.dictRead r.index r.sub r.offset none
    d.2.answer (dictAnswer d.1)
  else if r.op = 2 then
    let d := s.pathPut p r.index r.sub r.offset (r.total.getD r.data.length) r.data
    d.2.answer (putAnswer d.1)
  else s.answer (refusal .rsvd)

/-- A request to an ancestor (R31): `reply` is what its representative answers, none when it cannot be reached. -/
def execAncestorRequest (p : DictPath) (r : DictRequest) (reply : Option DictResponse) (s : State) : Result :=
  .next (s.begin.whenRunning (fun t =>
    if t.objAbsent r.index r.sub then t.answer (refusal .rsvd)
    else match t.servedBy r.index with
      | .error st => t.answer (refusal st)
      | .ok none => t.requestHere p r
      | .ok (some n) =>
        match reply with
        | some d => ((t.emit (.forward n r)).settle p r d).answer (dictAnswer d)
        | none => (t.settle p r { status := (Status.link).code }).answer (refusal .link)))

/-- A counter read at depth 3 or below (R39): latched at the first tick boundary after it. -/
def execCounterLatch (_p : DictPath) (index sub : Nat) (s : State) : Result :=
  .next (s.begin.whenRunning (fun t =>
    let u := t.atTick (t.tick + 1)
    let d := u.dictRead index sub 0 none
    d.2.answer (dictAnswer d.1)))

/-- A counter read above depth 3 at the representative (R40): every descendant package is asked for its value at the latch FTC. -/
def execAggregateRead (p : DictPath) (index sub : Nat) (packages : List Nat) (s : State) : Result :=
  .next (s.begin.whenRunning (fun t =>
    let above : Bool := match unitLoc index with | some l => aboveDie l | none => false
    if t.objAbsent index sub ∨ !above ∨ (objSpec index sub).isNone then t.answer (refusal .rsvd)
    else match t.servedBy index with
      | .error st => t.answer (refusal st)
      | .ok (some n) => t.emit (.forward n { op := 1, index := index, sub := sub, offset := 0 })
      | .ok none =>
        let latch := t.ftc + msUnits 1
        let ps := packages.eraseDups
        let a : AggRead := {
          id := t.remote.nextAggregate, reader := p, index := index, sub := sub, latchFtc := BitVec.ofNat 64 latch, asked := ps
          replied := [], deadline := t.now + msUnits 11 }
        ps.foldl (fun (u : State) n => u.emit (.counterAsk n index sub (latch % 2 ^ 64)))
          { t with remote := { t.remote with aggregates := t.remote.aggregates ++ [a], nextAggregate := a.id + 1 } }))

/-- The read completes with STATUS OK: the sum, the packages missing, and the fault of an over-full span (R28, R40). -/
def State.endAggregate (s : State) (a : AggRead) : State :=
  let s1 : State := { s with remote := { s.remote with aggregates := s.remote.aggregates.filter (fun x => decide (x.id ≠ a.id)) } }
  let s2 := s1.setNum (256 * a.index + 0x0D) (a.asked.length - a.replied.length)
  let source := match unitLoc a.index with | some l => s2.path l | none => 0
  let s3 := if a.discarded.isEmpty then s2 else s2.fault 0x05 source a.discarded.length
  s3.emit (.sideband a.reader (natLe 8 a.sum.toNat))

/-- A package's value arrives. -/
def execAggregateReply (id package : Nat) (value : Word64) (s : State) : Result :=
  .next (s.begin.whenRunning (fun t =>
    match t.remote.aggregates.find? (fun x => decide (x.id = id)) with
    | none => t
    | some a =>
      if !(a.asked.contains package) ∨ a.replied.contains package ∨ a.discarded.contains package then t
      else
        let b := if 1024 ≤ a.replied.length then { a with discarded := a.discarded ++ [package] }
          else { a with replied := a.replied ++ [package], sum := a.sum + value }
        let u : State := { t with remote := { t.remote with
          aggregates := t.remote.aggregates.map (fun x => if x.id = id then b else x) } }
        if b.replied.length + b.discarded.length = b.asked.length then u.endAggregate b else u))

/-- 10 ms after the latch FTC. -/
def execAggregateWindowEnd (id : Nat) (s : State) : Result :=
  .next (s.begin.whenRunning (fun t =>
    match t.remote.aggregates.find? (fun x => decide (x.id = id)) with
    | none => t
    | some a => (t.elapse a.deadline).endAggregate a))

end Sys2Proof.Machine
end

