-- ==== Sys2Proof/Machine/Buses.lean ====
section
/-! DEFINITION. The controller buses (R507-R509, R515, R516) and the DIMM temperatures (R526). -/

namespace Sys2Proof.Machine

/-- Recovery of a bus begins (R509). -/
def State.startRecovery (s : State) (bus : Nat) : State :=
  s.setBus bus { s.busAt bus with state := .recovering, attempt := 0, since := s.now }

/-- The hottest reading of a hub that R526 lets pass, and what lifts the limit. -/
def hubHot (was : Bool) (celsius : Option Int) : Bool :=
  match celsius with
  | none => true
  | some v => if 85 < v then true else if v ≤ 80 then false else was

def State.setDimmHot (s : State) (d : Nat) (h : Bool) : State :=
  { s with mgmt := { s.mgmt with dimmHot := Store.write false s.mgmt.dimmHot d h } }

/-- A transaction that ends with E_TIMEOUT: a sensor entry of bus 4, or the hub of a DIMM of buses 0-3, which then cannot be read. -/
def State.busFailed (s : State) (bus what : Nat) : State :=
  if bus = 4 then (if what < 32 then s.setSensor what { s.sensor what with status := .timeout } else s)
  else if what < 32 ∧ what / 8 = bus then s.setDimmHot what true
  else s

/-- A sensor entry's period passes: its register is read. No acknowledgement is E_RANGE (R508); a FAILED bus is E_TIMEOUT (R509). -/
def State.sensorPoll (s : State) (entry : Nat) (value : Option Nat) : State :=
  let x := s.sensor entry
  let width := x.format.toNat % 4
  let u := s.elapse x.due
  let y := { x with due := u.now + msUnits (x.format.toNat / 4) }
  if width = 0 ∨ width = 3 then s
  else match (u.busAt 4).state, value with
    | .failed, _ => u.setSensor entry { y with status := .timeout }
    | .recovering, _ => u.setSensor entry y
    | _, none => (u.emit (.bus 4 x.target.toNat)).setSensor entry { y with status := .range }
    | _, some v => (u.emit (.bus 4 x.target.toNat)).setSensor entry { y with status := .ok, value := v % 256 ^ width }

def execSensorPoll (entry : Nat) (value : Option Nat) (s : State) : Result :=
  .next (s.begin.whenRunning (fun t => if entry < 32 then t.sensorPoll entry value else t))

/-- A hub's thermal sensor is read: above 85 °C, or unread, its channel is limited until a reading at or below 80 °C. -/
def execDimmThermalPoll (dimm : Nat) (celsius : Option Int) (s : State) : Result :=
  .next (s.begin.whenRunning (fun t =>
    let was := Store.read false t.mgmt.dimmHot dimm
    if 32 ≤ dimm ∨ t.chanFrames (256 + dimm / 2) = 0 then t
    else match (t.busAt (dimm / 8)).state with
      | .failed => t.setDimmHot dimm true
      | .recovering => t
      | _ => (t.emit (.bus (dimm / 8) dimm)).setDimmHot dimm (hubHot was celsius)))

/-- A transaction unfinished 10 ms after its START ends with E_TIMEOUT, and recovery starts. -/
def execBusTransactionTimeout (bus : Nat) (what : Nat) (s : State) : Result :=
  .next (s.begin.whenRunning (fun t =>
    if 5 ≤ bus then t
    else match (t.busAt bus).state with
      | .recovering | .failed => t
      | _ => ((t.elapse (t.now + msUnits 10)).busFailed bus what).startRecovery bus))

/-- SDA low for sda_stuck_us: recovery starts, and the transaction that met it is not retried. -/
def execBusSdaStuck (bus : Nat) (what : Option Nat) (s : State) : Result :=
  .next (s.begin.whenRunning (fun t =>
    if 5 ≤ bus then t
    else match (t.busAt bus).state with
      | .recovering | .failed => t
      | _ =>
        let u := t.elapse (t.now + usUnits (t.num O.sdaStuckUs 1000))
        (match what with | some w => u.busFailed bus w | none => u).startRecovery bus))

/-- A recovery attempt: `pulses` is the pulse after which SDA was high. The third failure, and its wait of 10 ms, leave the bus FAILED. -/
def State.recoveryAttempt (s : State) (bus : Nat) (pulses : Option Nat) : State :=
  let x := s.busAt bus
  let u := s.elapse x.since
  let freed : Bool := match pulses with | some n => decide (1 ≤ n) && decide (n ≤ 9) | none => false
  if freed then u.setBus bus { x with state := .idle, recoveries := min 65535 (x.recoveries + 1), attempt := 0 }
  else if x.attempt < 2 then u.setBus bus { x with attempt := x.attempt + 1, since := u.now + msUnits 10 }
  else
    let v := (u.elapse (u.now + msUnits 10)).setBus bus { x with state := .failed, attempt := 3 }
    let a := (v.bump32 O.busFailures).free (2 ^ 32)
    a.2.eventOpen 0x03A (a.2.path .package) .timeout a.1

def execBusRecoveryAttempt (bus : Nat) (pulses : Option Nat) (s : State) : Result :=
  .next (s.begin.whenRunning (fun t =>
    if bus < 5 ∧ (t.busAt bus).state = .recovering then t.recoveryAttempt bus pulses else t))

/-- A write of MGMT_BUS_STAT with the value of RECOVER. -/
def State.busRecover (s : State) (i : Issuer) (bus : Nat) (go : Bool) : State :=
  s.mgmtWrite (.csr i) (R.mgmtBusStat bus)
    (if go && decide ((s.busAt bus).state = .recovering) then some (refusal .busy) else none)
    (fun t => if go then t.startRecovery bus else t)

def execRecover (i : Issuer) (bus : Nat) (s : State) : Result :=
  .next (s.begin.whenRunning (fun t => if bus < 5 then t.busRecover i bus true else t))

end Sys2Proof.Machine
end

