-- ==== Sys2Proof/Machine/Gdp.lean ====
section
/-! DEFINITION. GDP frames on the management lane (R483-R488), and firmware written to the flash (R491). -/

namespace Sys2Proof.Machine

/-! ### Header (R483) -/

/-- The fields of a request's header. -/
structure GdpHead where
  version : Nat
  type    : Nat
  seq     : Nat
  count   : Nat
  flags   : Nat
  body    : List Byte
  deriving DecidableEq, Repr, Inhabited

/-- A frame whose MAGIC, HCHK and LENGTH are right. -/
def gdpHead (f : List Byte) : Option GdpHead :=
  if fieldAt f 0 2 = 0x4447 ∧ fieldAt f 14 2 = crc16 (f.take 14) ∧ 16 + fieldAt f 10 2 = f.length then
    some { version := fieldAt f 2 1, type := fieldAt f 3 1, seq := fieldAt f 4 4, count := fieldAt f 8 2, flags := fieldAt f 12 1
           body := f.drop 16 }
  else none

/-- The first 14 bytes of a reply, and the reply. A reply sets no FLAGS. -/
def gdpReplyHead (type seq count length status : Nat) : List Byte :=
  natLe 2 0x4447 ++ natLe 1 1 ++ natLe 1 (128 + type % 128) ++ natLe 4 seq ++ natLe 2 count ++ natLe 2 length ++ natLe 1 0 ++ natLe 1 status
def gdpReply (h : GdpHead) (count status : Nat) (body : List Byte) : List Byte :=
  let head := gdpReplyHead h.type h.seq count body.length status
  head ++ natLe 2 (crc16 head) ++ body

/-! ### Entries (R485) -/

/-- A read entry, and a write entry. -/
structure ReadEntry where
  index : Nat
  sub : Nat
  offset : Nat
  maxLen : Nat
  deriving DecidableEq, Repr, Inhabited
structure WriteEntry where
  index : Nat
  sub : Nat
  offset : Nat
  total : Nat
  value : List Byte
  deriving DecidableEq, Repr, Inhabited

/-- Value bytes padded to a multiple of 4. -/
def padded (b : List Byte) : List Byte := b ++ List.replicate (roundUp b.length 4 - b.length) 0

/-- The entries of a body, when they fill it exactly; the Bool says that every reserved field is zero. -/
def gdpReadEntries : Nat → List Byte → Option (List ReadEntry × Bool)
  | 0, b => if b.isEmpty then some ([], true) else none
  | n + 1, b =>
    if b.length < 8 then none
    else (gdpReadEntries n (b.drop 8)).map (fun r =>
      ({ index := fieldAt b 0 2, sub := fieldAt b 2 1, offset := fieldAt b 4 2, maxLen := fieldAt b 6 2 } :: r.1,
        r.2 && zerosAt b 3 1))

def gdpWriteEntries : Nat → List Byte → Option (List WriteEntry × Bool)
  | 0, b => if b.isEmpty then some ([], true) else none
  | n + 1, b =>
    let len := fieldAt b 6 2
    let all := 12 + roundUp len 4
    if b.length < all then none
    else (gdpWriteEntries n (b.drop all)).map (fun r =>
      ({ index := fieldAt b 0 2, sub := fieldAt b 2 1, offset := fieldAt b 4 2, total := fieldAt b 8 2, value := sliceB b 12 len } :: r.1,
        r.2 && zerosAt b 3 1 && zerosAt b 10 2))

/-- A read reply entry. -/
def readReply (e : ReadEntry) (d : DictResponse) : List Byte :=
  natLe 2 e.index ++ natLe 1 e.sub ++ natLe 1 d.status ++ natLe 1 d.type ++ natLe 1 0 ++ natLe 2 d.data.length ++ natLe 2 d.total ++
    natLe 2 0 ++ padded d.data

/-! ### Bodies -/

/-- What a frame is answered: STATUS, COUNT and body; `later` when the answer comes at a later command, `done` when it was performed. -/
structure GdpEnd where
  status : Nat
  count  : Nat := 0
  body   : List Byte := []
  done   : Bool := true
  later  : Bool := false
  deriving DecidableEq, Repr, Inhabited

def gdpRefuse (st : Status) : GdpEnd := { status := st.code, done := false }

/-- Bytes a read entry takes in the reply: those of a MAX_LEN of 0 come from what the frame has left. -/
def State.readNeed (s : State) (e : ReadEntry) : Nat :=
  12 + roundUp (s.dictRead e.index e.sub e.offset (some e.maxLen)).1.data.length 4

/-- Read entries in body order, with the room left for the values of entries whose MAX_LEN is 0. -/
def State.gdpReadAll (s : State) : List ReadEntry → Nat → List Byte × State
  | [], _ => ([], s)
  | e :: t, room =>
    let d := s.dictRead e.index e.sub e.offset (some (if e.maxLen = 0 then room else e.maxLen))
    let used := 12 + roundUp d.1.data.length 4 - s.readNeed e
    let r := d.2.gdpReadAll t (room - used)
    (readReply e d.1 ++ r.1, r.2)

/-- READ, and HELLO over 0x1000.01-0x1000.08 (R484-R486). -/
def State.gdpReads (s : State) (es : List ReadEntry) : GdpEnd × State :=
  let need := (es.map s.readNeed).sum
  if 1216 < need then (gdpRefuse .param, s)
  else
    let r := s.gdpReadAll es (1216 - need)
    ({ status := 0, count := es.length, body := r.1 }, r.2)

def State.gdpReadBody (s : State) (h : GdpHead) : GdpEnd × State :=
  match gdpReadEntries h.count h.body with
  | none => (gdpRefuse .param, s)
  | some (es, clean) => if clean then s.gdpReads es else (gdpRefuse .rsvd, s)

def State.gdpHelloBody (s : State) (h : GdpHead) : GdpEnd × State :=
  if h.count ≠ 0 ∨ !h.body.isEmpty then (gdpRefuse .param, s)
  else s.gdpReads ((List.range 8).map (fun k => { index := 0x1000, sub := k + 1, offset := 0, maxLen := 0 }))

/-- One entry of a WRITE frame, judged against the arm as it stood at the frame's start (R492). -/
def State.gdpPut (s start : State) (p : DictPath) (e : WriteEntry) : PutEnd × State :=
  s.dictPut p e.index e.sub e.offset e.total e.value (start.dictArmed p e.index && isRwl e.index e.sub)

/-- The arm a frame leaves behind so far: what its last unlock set. -/
def unlockEntry (e : WriteEntry) : Bool := decide (e.index = 0x1100) && decide (e.sub = 1)

/-- Write entries in body order: STATUS of each, the state, and the arm of the last unlock among them. -/
def State.gdpPutAll (s start : State) (p : DictPath) : List WriteEntry → Option (Option (Nat × Nat)) →
    List PutEnd × Option (Option (Nat × Nat)) × State
  | [], u => ([], u, s)
  | e :: t, u =>
    let r := s.gdpPut start p e
    let u1 := if unlockEntry e then some (r.2.pathState p).arm else u
    let q := r.2.gdpPutAll start p t u1
    (r.1 :: q.1, q.2.1, q.2.2)

/-- The arm after a WRITE frame (R492). -/
def State.gdpArm (s start : State) (p : DictPath) (es : List WriteEntry) (ends : List PutEnd) (unlocked : Option (Option (Nat × Nat))) :
    State :=
  let renew := !es.isEmpty && (es.zip ends).all (fun e =>
    e.2.staged && start.dictArmed p e.1.index && isRwl e.1.index e.1.sub)
  match unlocked with
  | some a => s.setPath p { s.pathState p with arm := a }
  | none => s.armAfter p false renew (start.pathState p).arm

def writeReplies (es : List WriteEntry) (sts : List Nat) : List Byte :=
  (es.zip sts).flatMap (fun e => natLe 2 e.1.index ++ natLe 1 e.1.sub ++ natLe 1 e.2)

/-- WRITE: entries each alone, or with ATOMIC all or none (R486). -/
def State.gdpWrites (s : State) (p : DictPath) (atomic : Bool) (es : List WriteEntry) : GdpEnd × State :=
  let judged := es.map (fun e => (s.gdpPut s p e).1.status)
  match (if atomic then judged.find? (fun st => decide (st ≠ 0)) else none) with
  | some first =>
    ({ status := first, count := es.length, body := writeReplies es (judged.map (fun st => if st = 0 then (Status.busy).code else st)) },
      s.armAfter p false false none)
  | none =>
    let r := s.gdpPutAll s p es none
    ({ status := 0, count := es.length, body := writeReplies es (r.1.map (fun x => x.status)) }, r.2.2.gdpArm s p es r.1 r.2.1)

/-- Writes on the lane are open to this frame (R488, R542). -/
def State.writesOpen (s : State) (secured : Bool) : Bool := !s.running || secured || decide (s.num O.gdpSecureWrites 1 = 0)

def State.gdpWriteBody (s : State) (p : DictPath) (secured : Bool) (h : GdpHead) : GdpEnd × State :=
  match gdpWriteEntries h.count h.body with
  | none => (gdpRefuse .param, s)
  | some (es, clean) =>
    if !clean then (gdpRefuse .rsvd, s)
    else if !(s.writesOpen secured) then (gdpRefuse .auth, s)
    else s.gdpWrites p (bitAt h.flags 0) es

/-! ### FLASH_WRITE (R491) -/

def State.flashBank (s : State) (b : Nat) : FlashBank := Store.read ({} : FlashBank) s.mgmt.flashBanks b
def State.setFlashBank (s : State) (b : Nat) (x : FlashBank) : State :=
  { s with mgmt := { s.mgmt with flashBanks := Store.write ({} : FlashBank) s.mgmt.flashBanks b x } }

/-- What refuses a write of a bank. -/
def State.flashBad (s : State) (bank off len : Nat) : Option Status :=
  let x := s.flashBank bank
  if s.running ∧ (bank = s.sec.running ∨ s.sec.activated = some bank) then some .access
  else if 29360128 < off + len then some .range
  else if off ≠ 0 ∧ off ≠ x.next then some .param
  else if x.busy then some .busy
  else none

/-- The bank is erased for a new image, and the data goes to flash; the bank is no longer verified (R449). -/
def State.flashStore (s : State) (bank off : Nat) (data : List Byte) : State :=
  let f0 := if off = 0 then Store.clearRange s.mgmt.flash (bank * 2 ^ 25) (2 ^ 25) else s.mgmt.flash
  let s1 : State := { s with mgmt := { s.mgmt with flash := writeRange f0 (bank * 2 ^ 25 + off) data } }
  let s2 := s1.setFlashBank bank { s1.flashBank bank with next := off + data.length, busy := true }
  s2.setBank bank { s2.bank bank with signed := false, verified := false }

def State.flashBody (s : State) (p : DictPath) (secured : Bool) (h : GdpHead) : GdpEnd × State :=
  let b := h.body
  let bank := fieldAt b 0 1
  let off := fieldAt b 4 4
  let len := fieldAt b 8 2
  if b.length < 16 ∨ b.length ≠ 16 + len ∨ off % 64 ≠ 0 ∨ len < 64 ∨ 1024 < len ∨ len % 64 ≠ 0 then (gdpRefuse .param, s)
  else if 2 ≤ bank ∨ !(zerosAt b 1 3) ∨ !(zerosAt b 10 6) then (gdpRefuse .rsvd, s)
  else if !(s.writesOpen secured) ∨ (!s.running ∧ !(linkLocalPath p)) then (gdpRefuse .auth, s)
  else if s.power.package = .fuseHold then (gdpRefuse .fuse, s)
  else match s.flashBad bank off len with
    | some st => (gdpRefuse st, s)
    | none =>
      let t := s.flashStore bank off (b.drop 16)
      ({ status := 0, later := true }, t.setFlashBank bank { t.flashBank bank with reply := some (p, gdpReply h 0 0 []) })

/-! ### Arrival (R483, R487) -/

/-- A second of the model's clock. -/
def secondOf (now : Nat) : Nat := now / usUnits 1000000

/-- Frames performed for a source address in the current second, and one more. -/
def State.gdpCount (s : State) (addr : List Byte) : Nat :=
  match s.mgmt.gdpRate.find? (fun e => decide (e.1 = DictPath.gdp addr 0)) with
  | some e => if e.2.2 = secondOf s.now then e.2.1 else 0
  | none => 0
def State.countGdp (s : State) (addr : List Byte) : State :=
  { s with mgmt := { s.mgmt with
    gdpRate := s.mgmt.gdpRate.filter (fun e => decide (e.1 ≠ DictPath.gdp addr 0)) ++
      [(.gdp addr 0, s.gdpCount addr + 1, secondOf s.now)] } }

/-- The reply of the last request performed is kept for its source (R487). -/
def State.keepReply (s : State) (p : DictPath) (seq : Nat) (reply : List Byte) : State :=
  { s with mgmt := { s.mgmt with
    replies := s.mgmt.replies.filter (fun r => decide (r.source ≠ p)) ++ [{ source := p, seq := seq, reply := reply }] } }

/-- A request with a right header from a source: answered again, discarded beyond the rate, or performed. -/
def State.gdpRequest (s : State) (addr : List Byte) (udp seq : Nat) (h : GdpHead) (perform : State → GdpEnd × State) : State :=
  let p := DictPath.gdp addr udp
  match s.mgmt.replies.find? (fun r => decide (r.source = p) && decide (r.seq = seq)) with
  | some r => ((s.bump O.gdpRepliesReplayed).bump O.gdpFramesReceived).emit (.gdp p r.reply)
  | none =>
    if s.num O.gdpRateLimit 4096 ≤ s.gdpCount addr then s.bump O.gdpFramesDropped
    else
      let e := perform ((s.countGdp addr).bump O.gdpFramesReceived)
      let reply := gdpReply h e.1.count e.1.status e.1.body
      if e.1.later then e.2
      else if e.1.done then (e.2.keepReply p seq reply).emit (.gdp p reply)
      else e.2.emit (.gdp p reply)

/-- Types of a frame that some rule gives a meaning (R484). -/
def gdpTypes : List Nat := [1, 2, 3, 4, 5, 6, 7, 0x85]

/-- A plain frame arrives: `perform` is the meaning of the TYPE its command carries. -/
def State.gdpArrive (s : State) (addr : List Byte) (udp : Nat) (frame : List Byte) (type : Nat)
    (perform : GdpHead → State → GdpEnd × State) : State :=
  let p := DictPath.gdp addr udp
  match gdpHead frame with
  | none => s.bump O.gdpFramesDropped
  | some h =>
    let no := fun (st : Status) => (s.bump O.gdpFramesReceived).emit (.gdp p (gdpReply h 0 st.code []))
    if h.version ≠ 1 then no .notsup
    else if h.flags / 2 ≠ 0 ∨ !(gdpTypes.contains h.type) then no .rsvd
    else if h.type ≠ type then s
    else s.gdpRequest addr udp h.seq h (perform h)

def execGdpHello (addr : List Byte) (udp : Nat) (frame : List Byte) (s : State) : Result :=
  .next (s.begin.whenServed (fun t => t.gdpArrive addr udp frame 1 (fun h u => u.gdpHelloBody h)))

def execGdpRead (addr : List Byte) (udp : Nat) (frame : List Byte) (s : State) : Result :=
  .next (s.begin.whenServed (fun t => t.gdpArrive addr udp frame 2 (fun h u => u.gdpReadBody h)))

def execGdpWrite (addr : List Byte) (udp : Nat) (frame : List Byte) (s : State) : Result :=
  .next (s.begin.whenServed (fun t => t.gdpArrive addr udp frame 3 (fun h u => u.gdpWriteBody (.gdp addr udp) false h)))

def execFlashWrite (addr : List Byte) (udp : Nat) (frame : List Byte) (s : State) : Result :=
  .next (s.begin.whenServed (fun t => t.gdpArrive addr udp frame 4 (fun h u => u.flashBody (.gdp addr udp) false h)))

/-- SECURED (R484, R488): a GDP frame of TYPE 2-4 within a message of a session. The session opens writes when its certificate's digest is
that of 0x1100.08. A message of no session is answered E_AUTH. -/
def State.gdpSecured (s : State) (session : Nat) (addr : List Byte) (udp seq : Nat) (frame : List Byte) : State :=
  let p := DictPath.gdp addr udp
  let outer : GdpHead := { version := 1, type := 7, seq := seq, count := 0, flags := 0, body := [] }
  match gdpHead frame with
  | none => s.bump O.gdpFramesDropped
  | some h =>
    match s.sec.sessions.find? (fun x => decide (x.id = session) && x.secure) with
    | none => (s.bump O.gdpFramesReceived).emit (.gdp p (gdpReply outer 0 (Status.auth).code []))
    | some x =>
      let digest := s.bytesObj O.mgmtRequesterDigest
      let mine := !digest.isEmpty && decide (x.keyDigest = digest)
      let no := fun (st : Status) => (s.bump O.gdpFramesReceived).emit (.gdp p (gdpReply h 0 st.code []))
      if h.version ≠ 1 then no .notsup
      else if h.flags / 2 ≠ 0 ∨ h.type < 2 ∨ 4 < h.type then no .rsvd
      else s.gdpRequest addr udp seq h (fun u =>
        if h.type = 2 then u.gdpReadBody h
        else if h.type = 3 then u.gdpWriteBody p mine h
        else u.flashBody p mine h)

def execGdpSecured (session : Nat) (addr : List Byte) (udp seq : Nat) (frame : List Byte) (s : State) : Result :=
  .next (s.begin.whenRunning (fun t => t.gdpSecured session addr udp seq frame))

/-- The data is in flash: the reply follows (R491). -/
def execFlashWriteDone (bank : Nat) (s : State) : Result :=
  .next (s.begin.whenServed (fun t =>
    let x := t.flashBank bank
    if !x.busy then t
    else
      let u := t.setFlashBank bank { x with busy := false, reply := none }
      match x.reply with
      | none => u
      | some (p, r) => (u.keepReply p (fieldAt r 4 4) r).emit (.gdp p r)))

end Sys2Proof.Machine
end

