-- ==== Sys2Proof/Machine/Lane.lean ====
section
/-! DEFINITION. Events on the management lane (R484, R496), ICMPv6 echo and Neighbor Discovery (R482). -/

namespace Sys2Proof.Machine

/-! ### Events (R496) -/

/-- SEQs that a vector's holdoff still gathers: they have not been sent. -/
def State.gathering (s : State) : List Nat :=
  s.mgmt.vectors.flatMap (fun e => match e.2.gather with | some (l, _) => l.map (fun g => g.seq) | none => [])

/-- Records received by a destination, up to a SEQ. -/
def State.ackEvents (s : State) (dest seq : Nat) : State :=
  let open_ := s.gathering
  let frames := (s.mgmt.eventFrames.map (fun f => if f.dest = dest then { f with seqs := f.seqs.filter (fun n => decide (seq < n)) } else f))
  { s with mgmt := { s.mgmt with
    eventFrames := frames.filter (fun f => !f.seqs.isEmpty)
    eventLog := s.mgmt.eventLog.map (fun e =>
      if e.seq ≤ seq ∧ !(open_.contains e.seq) then { e with owed := e.owed.filter (fun d => decide (d ≠ dest)) } else e) } }

def execEventAck (dest seq : Nat) (s : State) : Result := .next (s.begin.whenRunning (fun t => t.ackEvents dest seq))

/-- The frame of a destination that is due first. -/
def State.dueFrame (s : State) (dest : Nat) : Option EventFrame :=
  (s.mgmt.eventFrames.filter (fun f => decide (f.dest = dest))).foldl
    (fun (m : Option EventFrame) f => match m with
      | none => some f
      | some g => if f.due < g.due then some f else m) none

/-- 250 µs without an acknowledgement: the frame is sent again, up to 4 times; then its records are undelivered. -/
def State.resendEvent (s : State) (f : EventFrame) : State :=
  let u := s.elapse f.due
  let rest := u.mgmt.eventFrames.erase f
  if f.sends ≤ 4 then
    ({ u with mgmt := { u.mgmt with eventFrames := rest ++ [{ f with sends := f.sends + 1, due := u.now + usUnits 250 }] } } : State).emit
      (.eventFrame f.dest f.seqs)
  else ({ u with mgmt := { u.mgmt with eventFrames := rest } } : State).bumpN O.eventsUndelivered f.seqs.length

def execEventResend (dest : Nat) (s : State) : Result :=
  .next (s.begin.whenRunning (fun t => match t.dueFrame dest with | some f => t.resendEvent f | none => t))

/-- Lists of at most n, in order. -/
def chunksOf (n : Nat) : Nat → List Nat → List (List Nat)
  | 0, _ => []
  | k + 1, l => if l.isEmpty then [] else l.take n :: chunksOf n k (l.drop n)

/-- One delivery of what a vector gathered: frames of up to 37 records to each destination, and one delivery to each sync object and
MSI-X vector that the records were formed under. -/
def State.deliverGathered (s : State) (x : Vector) (l : List Gathered) : State :=
  let owed := fun (d : Nat) => (l.map (fun g => g.seq)).filter (fun n =>
    s.mgmt.eventLog.any (fun e => decide (e.seq = n) && e.owed.contains d))
  let s1 := (List.range 4).foldl (fun (t : State) d =>
    (chunksOf 37 (owed d).length (owed d)).foldl (fun (u : State) c => u.sendEvent (BitVec.ofNat 4 (2 ^ d)) c) t) s
  let kinds := (l.map (fun g => (g.syncAddr, g.syncTc, g.msix))).eraseDups
  kinds.foldl (fun (t : State) k => t.deliverOther { x with syncAddr := k.1, syncTc := k.2.1, msix := k.2.2 }) s1

/-- A vector's holdoff ends. -/
def execEventHoldoffExpiry (vector : Nat) (s : State) : Result :=
  .next (s.begin.whenRunning (fun t =>
    let x := t.vector vector
    match x.gather with
    | none => t
    | some (l, due) => ((t.elapse due).setVector vector { x with gather := none }).deliverGathered x l))

/-! ### ICMPv6 (R482) -/

/-- Addresses of the management port: the link-local one, and the configured one except in a hold. -/
def State.ownAddress (s : State) (a : List Byte) : Bool :=
  decide (a = s.linkLocal) || (s.running && !a.isEmpty && decide (a = s.bytesObj O.ipv6Address))

/-- An echo request (type 128) is answered with the same payload (type 129). -/
def execIcmpv6Echo (source dest payload : List Byte) (s : State) : Result :=
  .next (s.begin.whenServed (fun t => if t.ownAddress dest then t.emit (.icmp source 129 payload) else t))

/-- A neighbour's address and MAC are learnt. -/
def State.learn (s : State) (a : List Byte) (mac : Nat) : State :=
  { s with mgmt := { s.mgmt with neighbours := s.mgmt.neighbours.filter (fun e => decide (e.1 ≠ a)) ++ [(a, mac % 2 ^ 48)] } }

/-- Neighbor Discovery: a solicitation (135) of an address of ours teaches its source and is answered with an advertisement (136) of
the MAC; an advertisement teaches its target. -/
def State.neighborDiscovery (s : State) (type : Nat) (source target : List Byte) (mac : Nat) : State :=
  if type = 135 then
    if !(s.ownAddress target) then s
    else (if source.all (fun b => decide (b = 0)) then s else s.learn source mac).emit
      (.icmp source 136 (target ++ (natLe 6 s.macAddress).reverse))
  else if type = 136 then s.learn target mac
  else s

def execNeighborDiscovery (type : Nat) (source target : List Byte) (mac : Nat) (s : State) : Result :=
  .next (s.begin.whenServed (fun t => t.neighborDiscovery type source target mac))

end Sys2Proof.Machine
end

