-- ==== Sys2Proof/Machine/Csr.lean ====
section
/-! DEFINITION. Writes of the CSR region: the checks of R48, the access codes of R11-R13, the aliases of R513, guarded registers (R512) and
what a write of each register does (R49, R145, R187, R228, R259, R260, R289, R321, R350, R375, R396, R423, R452, R480, R510, R515, R547,
R574). -/

namespace Sys2Proof.Machine

/-- The command's own answer is not a refusal. -/
def State.accepted (s : State) : Bool := match s.out.resp with | some r => decide (r.disp ≠ .refused) | none => false

/-- A plain register write by any issuer, and by the management domain alone. -/
def State.plain (s : State) (i : Issuer) (addr : Nat) (bad : Option Status) (f : State → State) : State :=
  s.openWrite (.csr i) addr (bad.map (fun st => refusal st)) f
def State.owned (s : State) (i : Issuer) (addr : Nat) (bad : Option Status) (f : State → State) : State :=
  s.mgmtWrite (.csr i) addr (bad.map (fun st => refusal st)) f

def rsvdIf (b : Bool) : Option Status := if b then some .rsvd else none

/-! ### Arbiters (R187, R228, R259, R510) -/

def arbCtlBases : List Nat := [R.engArbCtl 0 0 0, R.hcuMsarbCtl 0, R.swcInjarbCtl 0, R.hubCsrarbCtl]
def arbSeedBases : List Nat := [R.engArbSeed 0 0 0, R.hcuMsarbSeed 0, R.swcInjarbSeed 0, R.hubCsrarbSeed]
def arbStarveBases : List Nat := [
  R.engArbStarve 0 0 0, R.hcuMsarbStarveLo 0, R.hcuMsarbStarveMid 0, R.hcuMsarbStarveHi 0, R.swcInjarbStarveLo 0, R.swcInjarbStarveMid 0,
  R.swcInjarbStarveHi 0, R.hubCsrarbStarveLo, R.hubCsrarbStarveMid, R.hubCsrarbStarveHi]
def arbStoreBases : List Nat := [
  R.engArbWaitLimit 0 0 0, R.hcuMsarbWaitLimit 0, R.swcInjarbWaitLimit 0, R.hubCsrarbWaitLimit, R.engArbTickets 0 0 0 0,
  R.hcuPoolTickets 0, R.swcInjTickets 0 0, R.hubCsrarbTickets 0]

/-- A register of an arbiter, when the register is one. -/
def State.arbWrite (s : State) (i : Issuer) (h : RegHit) (addr v : Nat) : Option State :=
  let b := h.base
  if arbCtlBases.contains b then
    some (s.plain i addr none (fun t => t.setReg addr (v % 2 + 2 * b2n (bitAt (t.reg addr 2) 1))))
  else if arbSeedBases.contains b then some (s.arbSeed i (addr - 4) v)
  else if arbStarveBases.contains b then some (s.plain i addr none (fun t => t.setReg addr (t.reg addr 0 &&& (v ^^^ 0xFFFFFFFF))))
  else if arbStoreBases.contains b then some (s.plain i addr none (fun t => t.setReg addr v))
  else none

/-! ### HUB (R510, R512) and PLN (R145) -/

/-- The guarded register that a word index names. -/
def State.guardedAt (s : State) (word : Nat) : Option Nat :=
  match findReg (4 * word) with
  | some h => if h.spec.guarded && s.regPresent h (4 * word) then some (4 * word) else none
  | none => none

/-- A write of HUB_UNLOCK: any arm of the requester ends; the right KEY arms the register its WORD_INDEX names. -/
def State.hubUnlockWrite (s : State) (i : Issuer) (v : Nat) : State :=
  let n := requesterOf i
  let target := s.guardedAt (s.csrReq n).unlockIndex
  let bad : Option Status := if v / 65536 ≠ 0 then some .rsvd else if v ≠ 0xA5C3 ∨ target.isNone then some .param else none
  s.plain i R.hubUnlock bad (fun t => t.setCsrReq n { t.csrReq n with armed := target })

def State.hubWrite (s : State) (i : Issuer) (h : RegHit) (addr v : Nat) : State :=
  let b := h.base
  if b = R.hubUnlockIndex then
    s.plain i addr none (fun t => t.setCsrReq (requesterOf i) { t.csrReq (requesterOf i) with unlockIndex := v })
  else if b = R.hubUnlock then s.hubUnlockWrite i v
  else s.plain i addr none (fun t =>
    if bitAt v 25 then t.setReg R.hubLastErrSrc (t.reg R.hubLastErrSrc 0 % 2 ^ 25) else t)

def State.plnWrite (s : State) (i : Issuer) (h : RegHit) (addr v : Nat) : State :=
  match v with
  | 3 => s.planDisarm (.csr i) (h.i 0)
  | 4 => s.planHalt (.csr i) (h.i 0) true
  | 5 => s.planHalt (.csr i) (h.i 0) false
  | _ => s.openWrite (.csr i) addr (some (refusal .param)) id true

/-! ### PWR (R547) and FLT (R574) -/

def State.pwrWrite (s : State) (i : Issuer) (h : RegHit) (addr v : Nat) : State :=
  let b := h.base
  if b = R.pwrEvents then
    s.owned i addr none (fun t => { t with power := { t.power with events := t.power.events &&& ~~~(BitVec.ofNat 6 v) } })
  else if b = R.pwrResetCmd then
    if v = 1 then s.runs (execResetCommandWarm (.csr i))
    else if v = 2 then s.runs (execResetCommandCold (.csr i))
    else s.mgmtWrite (.csr i) addr (some (refusal .rsvd)) id true
  else
    let mask := if b = R.fltFenceHi then v * 2 ^ 32 else v
    s.owned i addr none (fun t => { t with faults := { t.faults with fenced := t.faults.fenced &&& ~~~(BitVec.ofNat 36 mask) } })

/-! ### SEC (R452) -/

def State.secWrite (s : State) (i : Issuer) (h : RegHit) (addr v : Nat) : State :=
  let b := h.base
  let n := h.i 0
  if b = R.secTenantCtl 0 then s.tenantWrite (.csr i) n (bitAt v 0) (some (bitAt v 1))
  else if b = R.secClusterOwner 0 then s.clusterOwnerWrite i n v
  else if b = R.secPortBind 0 then s.portBindWrite i n v
  else if b = R.secPortCrypt 0 then
    s.mgmtWrite (.csr i) addr ((rsvdIf (decide (2 ≤ v % 4))).map (fun st => refusal st))
      (fun t => (t.setCrypt n { t.crypt n with policy := v % 4 }).keyCheck) true
  else if b = R.secAssignFirst then s.owned i addr none (fun t => { t with sec := { t.sec with assignFirst := v } })
  else s.secAssign i v

/-! ### MGMT (R515) -/

def State.mgmtRegWrite (s : State) (i : Issuer) (h : RegHit) (addr v : Nat) : State :=
  let b := h.base
  let m := h.i 0
  if b = R.mgmtMbxCmd 0 then s.mbxCommand i m v
  else if b = R.mgmtMbxSeg 0 then
    s.owned i addr none (fun t => t.setMbx m { t.mbx m with offset := v % 65536, total := v / 65536 })
  else if b = R.mgmtMbxWlen 0 then s.owned i addr (paramIf (decide (64 < v))) (fun t => t.setMbx m { t.mbx m with wlen := v })
  else if b = R.mgmtMbxData 0 0 then
    s.owned i addr none (fun t => t.setMbx m { t.mbx m with data := Store.write 0 (t.mbx m).data (h.i 1) (BitVec.ofNat 32 v) })
  else s.busRecover i m (bitAt v 3)

/-! ### PORT (R480) -/

def State.portWrite (s : State) (i : Issuer) (h : RegHit) (addr v : Nat) : State :=
  let b := h.base
  let p := h.i 0
  if b = R.portModeCtl 0 then s.portCtl (.csr i) p (v % 4) (bitAt v 2) (bitAt v 4) (bitAt v 5)
  else if b = R.portFeatures 0 then s.owned i addr none (fun t => t.setPort p { t.port p with offer := BitVec.ofNat 6 v })
  else s.replayField (.csr i) p (v % 2 ^ 14) (bitsOf v 21 16)

/-! ### SWC (R260) -/

/-- SWC_CREDIT: channel 0 is read only, 7 is REQ, 1, 3 and 5 are normal, even numbers are escape sub-channels. -/
def creditBad (n v : Nat) : Option Status :=
  if n = 0 then some .access
  else paramIf (decide (v < (if n = 7 then 192 else if n % 2 = 1 then 64 else 16)))

def State.swcWrite (s : State) (i : Issuer) (h : RegHit) (addr v : Nat) : State :=
  let b := h.base
  let n := h.i 0
  if b = R.swcCredit 0 then s.plain i addr (creditBad n v) (fun t => t.setReg addr v)
  else if b = R.swcLgMembersLo 0 then s.lgMembersWrite i n false v
  else if b = R.swcLgMembersHi 0 then s.lgMembersWrite i n true v
  else if b = R.swcLgCmd then
    if bitsOf v 9 8 = 1 then s.runs (execLgRebalance (.csr i) (v % 32))
    else s.openWrite (.csr i) addr (some (refusal .rsvd)) id true
  else if b = R.swcQuota 0 then s.quotaWrite i n v
  else if b = R.swcRoute 0 then s.routeWrite i n v
  else if b = R.swcMcLo 0 then s.plain i addr none (fun t => t.stageLo i addr v)
  else s.mcWrite i n v

/-! ### TRF (R289) -/

def State.trfWrite (s : State) (i : Issuer) (h : RegHit) (addr v : Nat) : State :=
  let b := h.base
  let p := h.i 0
  if b = R.trfGateCtl 0 then
    if bitAt v 16 then s.gateCycleStart i p v
    else if bitAt v 17 then
      let t := s.gateCycleStop i p
      if t.accepted then t.setReg addr (v % 1024) else t
    else s.owned i addr none (fun t => t.setReg addr (v % 1024))
  else if b = R.trfGateStartLo 0 then s.owned i addr none (fun t => t.stageLo i addr v)
  else if b = R.trfGateStartHi 0 then
    let k := s.takeLo i (addr - 4)
    k.2.owned i addr none (fun t => (t.setReg (addr - 4) (k.1.getD (t.reg (addr - 4) 0))).setReg addr v)
  else if b = R.trfQuantum 0 0 then s.owned i addr (paramIf (decide (v = 0))) (fun t => t.setReg addr v)
  else if b = R.trfIndSel then
    s.owned i addr (firstOf (rsvdIf (decide (bitsOf v 17 16 = 3))) (if bitsOf v 17 16 = 2 ∧ 16384 ≤ v % 65536 then some .range else none))
      (fun t => t.setReg addr v)
  else if b = R.trfIndCmd then
    if v = 1 then s.runs (execTrfIndRead i 1)
    else if v = 2 then s.runs (execTrfIndWrite i 2)
    else s.owned i addr (some .rsvd) id
  else if b = R.trfGateLo 0 0 then s.owned i addr none (fun t => t.stageLo i addr v)
  else if b = R.trfGateHi 0 0 then s.gateEntryWrite i p (h.i 1) v
  else s.owned i addr none (fun t => t.setReg addr v)

/-! ### MEM (R321), KV (R350) -/

/-- A staged low word that its field's own state refuses at once. -/
def State.stageField (s : State) (i : Issuer) (addr v : Nat) (busy : Bool) : State :=
  s.owned i addr (busyIf busy) (fun t => t.stageLo i addr v)

def State.partRegWrite (s : State) (i : Issuer) (h : RegHit) (addr v : Nat) : State :=
  let a : Access := .csr i
  let b := h.base
  let n := h.i 0
  let p := s.part n
  let k := s.takeLo i (addr - 4)
  if b = R.memPartBaseLo 0 then s.stageField i addr v (decide (p.state ≠ .free))
  else if b = R.memPartBaseHi 0 then k.2.partField a addr n none (fun x => { x with base := k.1.getD (x.base % 2 ^ 32) + 2 ^ 32 * v })
  else if b = R.memPartSize 0 then s.partField a addr n none (fun x => { x with size := v })
  else if b = R.memPartNear 0 then s.partField a addr n none (fun x => { x with nearPages := v })
  else if b = R.memPartFar 0 then s.partField a addr n none (fun x => { x with farPages := v })
  else if b = R.memPartChan 0 then
    s.partField a addr n (paramIf (decide (256 < bitsOf v 16 8) || decide (16 < bitsOf v 25 21))) (fun x =>
      { x with nearFirst := v % 256, nearCount := bitsOf v 16 8, farFirst := bitsOf v 20 17, farCount := bitsOf v 25 21 })
  else if b = R.memPartOwner 0 then
    let ten := v % 256
    let node := v / 65536
    s.partField a addr n (paramIf ((decide (64 ≤ ten) && decide (ten ≠ 0xFF)) || (decide (0xF000 ≤ node) && decide (node ≠ 0xFFFF))))
      (fun x => { x with tenant := ten, hostNode := node })
  else if b = R.memPartLayerLo 0 then s.stageField i addr v p.staticBy.isSome
  else if b = R.memPartLayerHi 0 then
    k.2.layerField a addr n none (fun x => { x with layerAddr := BitVec.ofNat 64 (k.1.getD (x.layerAddr.toNat % 2 ^ 32) + 2 ^ 32 * v) })
  else if b = R.memPartLayerCount 0 then s.layerField a addr n (paramIf (decide (4096 < v))) (fun x => { x with layerCount := v })
  else
    let t := match v % 4 with
      | 0 => s.owned i addr none id
      | 1 => s.partBind a n
      | 2 => s.partUnbind a n
      | _ => s.partRepair a n
    if t.accepted then t.setPart n { t.part n with counterMigration := bitAt v 6 } else t

def State.memWriteReg (s : State) (i : Issuer) (h : RegHit) (addr v : Nat) : State :=
  let b := h.base
  if b = R.memChanCtl 0 then s.chanOwnerWrite (.csr i) (h.i 0) v
  else if b = R.memChanCmd then
    match bitsOf v 13 12 with
    | 1 => s.chanDeclare (.csr i) (v % 512)
    | 2 => s.chanRestore (.csr i) (v % 512)
    | _ => s.mgmtWrite (.csr i) addr (some (refusal .rsvd)) id true
  else s.partRegWrite i h addr v

def State.kvWrite (s : State) (i : Issuer) (h : RegHit) (addr v : Nat) : State :=
  let a : Access := .csr i
  let b := h.base
  let t := h.i 0
  let x := s.store t
  if b = R.kvStoreCtl 0 then
    if bitAt v 16 then s.storeEnable a t (some (v % 512))
    else if x.enable then (if v % 512 = x.partition then s.storeDisable a t else s.owned i addr (some .busy) id)
    else s.storeField a addr t none (fun y => { y with partition := v % 512 })
  else if b = R.kvStoreGeom 0 then
    s.storeField a addr t (paramIf (decide (v % 1024 < 4) || decide (512 < v % 1024) || decide (v / 65536 < 16)))
      (fun y => { y with slotUnits := v % 1024, metaPages := v / 65536 })
  else s.owned i addr (paramIf (decide (100 < v))) (fun u => u.setStore t { u.store t with retainPct := v })

/-! ### COH (R375), CZ (R396), VSR (R423) -/

def State.cohWrite (s : State) (i : Issuer) (h : RegHit) (addr v : Nat) : State :=
  let a : Access := .csr i
  let b := h.base
  let n := h.i 0
  let w := s.window n
  if b = R.cohCtl then s.owned i addr none (fun t => t.setNum O.holdCycles v)
  else if b = R.cohWays 0 then s.runs (execWayMaskWrite i n (BitVec.ofNat 32 v))
  else if b = R.cohWinBaseLo 0 then s.stageField i addr v (w.enable || w.disabling)
  else if b = R.cohWinBaseHi 0 then
    let k := s.takeLo i (addr - 4)
    k.2.winField a addr n none (fun x => { x with base := k.1.getD (x.base % 2 ^ 32) + 2 ^ 32 * v })
  else if b = R.cohWinSize 0 then s.winField a addr n (paramIf (decide (v < 1) || decide (976562 < v))) (fun x => { x with pages := v })
  else if b = R.cohWinBack 0 then s.winField a addr n none (fun x => { x with backPages := v })
  else if b = R.cohWinCtl 0 then
    if bitAt v 16 then s.runs (execWindowEnable a n (some (v % 512)))
    else if w.enable || w.disabling then
      (if v % 512 = w.partition then s.runs (execWindowDisable a n) else s.owned i addr (some .busy) id)
    else s.winField a addr n none (fun x => { x with partition := v % 512 })
  else if b = R.cohAgentId 0 then s.agentField a n (v % 65536) (bitsOf v 21 16) (v / 2 ^ 24)
  else match v with
    | 0 => s.runs (execAgentUnregister a n)
    | 3 => s.owned i addr (some .rsvd) id
    | k => s.runs (execAgentRegister a n k)

def State.czWrite (s : State) (i : Issuer) (h : RegHit) (addr v : Nat) : State :=
  let a : Access := .csr i
  let b := h.base
  let n := h.i 0
  if b = R.czStreamPart 0 then s.streamField a addr n none (fun x => { x with partition := v % 512, elem := v / 65536 })
  else if b = R.czStreamStore 0 then s.streamField a addr n none (fun x => { x with firstPage := v })
  else if b = R.czStreamPages 0 then s.streamField a addr n (paramIf (decide (v < 2) || decide (524288 < v))) (fun x => { x with pages := v })
  else if b = R.czStreamBlocks 0 then
    s.streamField a addr n (paramIf (decide (v < 1) || decide (4194304 < v))) (fun x => { x with maxBlocks := v })
  else if bitAt v 0 then s.runs (execStreamEnable a n)
  else s.runs (execStreamDisable a n)

/-- VSR_INDEX_CTL.DISABLE (R421): a DISABLED index stays as it is. -/
def State.vsrWrite (s : State) (i : Issuer) (h : RegHit) (addr v : Nat) : State :=
  let n := h.i 0
  let go := bitAt v 8
  s.owned i addr (busyIf (go && decide ((s.vindex n).state = .disabling))) (fun t =>
    if go && decide ((t.vindex n).state = .enabled) then t.vsOff n none else t)

/-! ### One write -/

/-- What the write of a register does: `v` holds its writable fields alone. -/
def State.regWrite (s : State) (i : Issuer) (h : RegHit) (addr v : Nat) : State :=
  let b := h.base
  match s.arbWrite i h addr v with
  | some t => t
  | none =>
    if b < 0x0020000 then s.hubWrite i h addr v
    else if b < 0x0040000 then s.pwrWrite i h addr v
    else if b < 0x0060000 then s.secWrite i h addr v
    else if b < 0x0080000 then s.mgmtRegWrite i h addr v
    else if b < 0x0100000 then s.pwrWrite i h addr v
    else if b < 0x0200000 then s.portWrite i h addr v
    else if b < 0x0240000 then s.swcWrite i h addr v
    else if b < 0x0300000 then s.trfWrite i h addr v
    else if b < 0x0400000 then s.cohWrite i h addr v
    else if b < 0x0440000 then s.memWriteReg i h addr v
    else if b < 0x0460000 then s.czWrite i h addr v
    else if b < 0x0480000 then s.kvWrite i h addr v
    else if b < 0x0500000 then s.vsrWrite i h addr v
    else s.plnWrite i h addr v

/-- The value that a write presents, field by field (R12, R513): an alias acts on RW fields, and other fields see zero. -/
def aliasValue (k : Option AliasKind) (h : RegHit) (raw v : Nat) : Nat :=
  let rw := h.spec.rwMask
  match k with
  | none => v &&& h.spec.writeMask
  | some .set => (raw ||| v) &&& rw
  | some .clr => (raw &&& (v ^^^ 0xFFFFFFFF)) &&& rw
  | some .tgl => (raw ^^^ v) &&& rw

/-- The refusals of a write before its register's own rules (R11-R13, R512, R513). -/
def State.writeBad (s : State) (i : Issuer) (h : RegHit) (addr : Nat) (k : Option AliasKind) (v : Nat) : Option Status :=
  if h.spec.writeMask = 0 then some .access
  else if k.isSome ∧ h.spec.rwMask = 0 then some .access
  else if h.spec.guarded ∧ !(s.takeArm (.csr i) addr).1 then some .locked
  else if v &&& (h.spec.usedMask ^^^ 0xFFFFFFFF) ≠ 0 then some .rsvd
  else none

/-- A refusal of the write as a whole: the arm ends, a low word staged for a refused high word goes, and the error latches. -/
def State.refuseWrite (s : State) (i : Issuer) (off : Nat) (st : Status) : State :=
  (((s.takeArm (.csr i) 0).2.takeLo i (off % 0x1000000 - 4)).2.busError i off true st).answer (refusal st)

/-- HUB_LAST_ERR names the word of the alias that was written (R510). -/
def State.nameAlias (t : State) (before : State) (off : Nat) : State :=
  if t.accepted || bitAt (before.reg R.hubLastErrSrc 0) 25 then t
  else t.setReg R.hubLastErr (t.reg R.hubLastErr 0 / 2 ^ 24 * 2 ^ 24 + off / 4)

/-- A write of a register in the normal space or through an alias. -/
def State.csrPut (s : State) (i : Issuer) (off : Nat) (v : Nat) : State :=
  let addr := off % 0x1000000
  let k : Option AliasKind := [none, some .set, some .clr, some .tgl].getD (off / 0x1000000) none
  if 0x4000000 ≤ off then s.refuseWrite i off .range
  else match s.csrFind i off true with
    | .error st => s.refuseWrite i off st
    | .ok h => match s.writeBad i h addr k v with
      | some st => s.refuseWrite i off st
      | none =>
        let t := s.regWrite i h addr (aliasValue k h (s.regRaw i h addr) v)
        if k.isSome then t.nameAlias s off else t

/-- A CSR write (R12). -/
def execCsrWrite (i : Issuer) (addr : Nat) (v : Word32) (s : State) : Result :=
  .next (s.begin.whenRunning (fun t => t.csrPut i addr v.toNat))

def aliasBase : AliasKind → Nat
  | .set => 0x1000000 | .clr => 0x2000000 | .tgl => 0x3000000

/-- A write through an alias (R513); `addr` is the register's offset in the normal space. -/
def execCsrAliasWrite (i : Issuer) (k : AliasKind) (addr : Nat) (v : Word32) (s : State) : Result :=
  .next (s.begin.whenRunning (fun t => t.csrPut i (aliasBase k + addr % 0x1000000) v.toNat))

/-- A write of HUB_UNLOCK (R512). -/
def execHubUnlock (i : Issuer) (v : Word32) (s : State) : Result :=
  .next (s.begin.whenRunning (fun t => t.hubUnlockWrite i v.toNat))

end Sys2Proof.Machine
end

