-- ==== Sys2Proof/Machine/Remote.lean ====
section
/-! DEFINITION. The remote memory operations of R56: their address rules (R45, R57-R59), their effect in each region (R44), FENCE
(R64, R91), WAIT (R94-R96) and NOP. -/

namespace Sys2Proof.Machine

/-! ### Address rules, in the order of R57 -/

/-- Regions an operation may name (R56). -/
def mayName (op region : Nat) : Bool :=
  if op = 3 ∨ op = 4 then decide (region ≤ 3) else if op = 5 ∨ op = 8 then decide (region = 3) else decide (region ≤ 6)

/-- The LENGTH of an operation is not one it may have (R56, R81). -/
def lengthBad (o : Operation) : Bool :=
  if o.op = 1 ∨ o.op = 2 ∨ o.op = 6 then decide (o.length = 0) || decide (2 ^ 24 < o.length)
  else if o.op = 8 then false
  else decide (o.length ≠ 0)

/-- Operator and size combinations that R59 refuses. -/
def operatorBad (o : Operation) : Bool :=
  let c := o.req.md.toNat % 16
  let big := o.req.md.getLsbD 4
  decide (o.op = 3 ∨ o.op = 4) &&
    (decide (o.op = 3 ∧ c = 9) || (decide (c = 10) && big) ||
      (decide (addrRegion o.req.target = 3) && (!big || !([0, 8, 9].contains c))))

/-- Bytes an operation names at TARGET (R56). -/
def accessBytes (o : Operation) : Nat := if o.op = 5 ∨ o.op = 8 then 8 else opBytes o

/-- Size and alignment (R47, R57). -/
def alignBad (o : Operation) : Bool :=
  let r := addrRegion o.req.target
  let off := addrOffset o.req.target
  let n := accessBytes o
  if r = 3 ∨ r = 4 then decide (n ≠ 8 ∨ off % 8 ≠ 0)
  else if r = 5 then decide (n ≠ 4 ∨ off % 4 ≠ 0)
  else decide (o.op = 3 ∨ o.op = 4) && decide (off % n ≠ 0)

/-- The access leaves what its region implements (R44, R45). -/
def extentBad (o : Operation) : Bool :=
  let r := addrRegion o.req.target
  let off := addrOffset o.req.target
  if r = 3 then decide (0x100000 ≤ off)
  else if r = 4 then decide (0x2000000 ≤ off) && (decide (off < 0x10000000) || decide (0x12000000 ≤ off))
  else if r = 5 then decide (0x4000000 ≤ off)
  else if r = 2 then decide (2 ^ 30 < off + accessBytes o)
  else false

/-- The first address rule that refuses an operation. The extents of REGION 0x0, 0x1 and 0x6 are checked in their own chapters. -/
def addressBad (o : Operation) : Option Status :=
  let r := addrRegion o.req.target
  if 7 ≤ r then some .rsvd
  else if !(mayName o.op r) || lengthBad o || operatorBad o then some .param
  else if alignBad o then some .align
  else if extentBad o then some .range
  else none

/-- An operation that an address rule refuses: REGION 0x7-0xF and the refusals of REGION 0x5's own rules are bus errors (R45, R47, R511);
the word a reserved region's address latches is free. -/
def State.refuseAddress (s : State) (o : Operation) (st : Status) : State :=
  let write := decide (o.op ≠ 2)
  let t :=
    if 7 ≤ addrRegion o.req.target then
      let w := s.free (2 ^ 24)
      w.2.busError o.req.issuer (4 * w.1) write st
    else if addrRegion o.req.target = 5 ∧ (st = .align ∨ st = .range) then
      s.busError o.req.issuer (addrOffset o.req.target % 2 ^ 26) write st
    else s
  t.respond o.req o.op (refusal st)

/-! ### REGION 0x2 -/

/-- The effect of an access on bytes that are read or written whole, and its answer (R58, R61). -/
def State.sramEffect (s : State) (o : Operation) : Response × State :=
  let off := addrOffset o.req.target
  let n := opBytes o
  let old := s.sramBytes off n
  let oldW := BitVec.ofNat 64 (leNat old)
  if o.op = 2 then ({ (served .ok (BitVec.ofNat 64 n)) with data := old }, s)
  else if o.op = 3 ∨ o.op = 4 then
    match AtomicOp.ofCode (o.req.md.toNat % 16) with
    | none => (served, s)
    | some op =>
      (if o.op = 4 then { (served .ok oldW) with data := old } else served,
        s.sramWrite off (natLe n (atomicValue op n oldW o.operand1 o.operand2).toNat))
  else (served, s.sramWrite off (sliceB o.data 0 n))

def State.sramAccess (s : State) (o : Operation) : State :=
  match s.sramBad o.req.issuer o.req.tc (addrOffset o.req.target) (opBytes o) with
  | some r => s.respond o.req o.op r
  | none =>
    let e := s.sramEffect o
    e.2.endAccess o e.1 .none .hub

/-! ### REGION 0x3 (R93) -/

/-- A producer path that R23 refuses. -/
def State.producerBad (s : State) (p : Nat) : Bool := decide (p ≠ 0xFFFFFFFF) && s.pathBad p

/-- A put to a word of a sync object, judged whole. -/
def State.syncPut (s : State) (i : Issuer) (n k v : Nat) : Response × State :=
  let o := s.sync n
  let cur := s.syncWord n k
  match k with
  | 0 => (served, s.syncUpdate n (BitVec.ofNat 64 v) i)
  | 1 =>
    if bitsOf v 63 32 ≠ 0 then (refusal .rsvd, s)
    else if bitsOf v 31 24 ≠ bitsOf cur 31 24 then (refusal .access, s)
    else (served, s.setSync n { o with timeoutUs := bitsOf v 23 0 })
  | 2 =>
    if s.producerBad (bitsOf v 31 0) || s.producerBad (bitsOf v 63 32) then (refusal .rsvd, s)
    else (served, s.setSync n { o with producer0 := BitVec.ofNat 32 (bitsOf v 31 0), producer1 := BitVec.ofNat 32 (bitsOf v 63 32) })
  | 3 => if bitsOf v 31 16 ≠ 0 then (refusal .rsvd, s) else if v ≠ cur then (refusal .access, s) else (served, s)
  | 4 | 5 => if v ≠ cur then (refusal .access, s) else (served, s)
  | _ => if v ≠ 0 then (refusal .rsvd, s) else (served, s)

/-- An ATOMIC or FETCH_OP on VALUE: ADD, SWAP or CAS; a CAS whose comparison fails is no update. -/
def State.syncAtomic (s : State) (o : Operation) (n : Nat) : Response × State :=
  let old := (s.sync n).value
  let a : Response := if o.op = 4 then { (served .ok old) with data := natLe 8 old.toNat } else served
  let c := o.req.md.toNat % 16
  if c = 9 then (a, if old = o.operand1 then s.syncUpdate n o.operand2 o.req.issuer else s)
  else (a, s.syncUpdate n (if c = 0 then old + o.operand1 else o.operand1) o.req.issuer)

def State.syncAccess (s : State) (o : Operation) : State :=
  let off := addrOffset o.req.target
  let n := off / 64
  let k := off % 64 / 8
  if !(s.syncOpen n o.req.issuer) then s.respond o.req o.op (refusal .access)
  else if o.op = 2 then
    s.endAccess o { (served .ok 8) with data := natLe 8 (s.syncWord n k) } .none .hub
  else if o.op = 3 ∨ o.op = 4 then
    if k ≠ 0 then s.respond o.req o.op (refusal .param)
    else
      let e := s.syncAtomic o n
      e.2.endAccess o e.1 .none .hub
  else
    let e := s.syncPut o.req.issuer n k (fieldAt o.data 0 8)
    if e.1.disp = .refused then e.2.respond o.req o.op e.1 else e.2.endAccess o e.1 .none .hub

/-! ### REGION 0x4 (R75-R79) -/

/-- A put to a doorbell register or a context word. -/
def State.queuePut (s : State) (i : Issuer) (off v : Nat) : Response × State :=
  let k := off % 64 / 8
  let q := off % 0x10000000 / 64
  if !(s.queueOpen i q) then (refusal .access, s)
  else if 0x10000000 ≤ off then s.contextWrite q k v
  else match k with
    | 0 => s.commitWrite q v
    | 1 => s.controlWrite q v
    | 2 => (refusal .access, s)
    | _ => (refusal .rsvd, s)

/-- A get of a doorbell register or a context word. -/
def State.queueGet (s : State) (off : Nat) : Response :=
  let k := off % 64 / 8
  let q := off % 0x10000000 / 64
  let word := fun (v : Nat) => { (served .ok 8) with data := natLe 8 v }
  if 0x10000000 ≤ off then word ((s.queue q).word k)
  else if k = 2 then word (s.doorbellState q)
  else refusal (if k < 2 then .access else .rsvd)

def State.queueAccess (s : State) (o : Operation) : State :=
  let off := addrOffset o.req.target
  let e := if o.op = 2 then (s.queueGet off, s) else s.queuePut o.req.issuer off (fieldAt o.data 0 8)
  if e.1.disp = .refused then e.2.respond o.req o.op e.1 else e.2.endAccess o e.1 .none .hub

/-! ### REGION 0x5 (R11-R14, R47, R48) -/

def State.csrAccess (s : State) (o : Operation) : State :=
  let off := addrOffset o.req.target
  if o.op = 2 then
    let e := s.csrRead o.req.issuer off
    if e.1.disp = .refused then e.2.respond o.req o.op e.1
    else e.2.endAccess o { (served .ok 4) with data := natLe 4 e.1.result.toNat } .none .hub
  else
    let t := s.csrPut o.req.issuer off (fieldAt o.data 0 4)
    let a := t.out.resp.getD (served)
    let u : State := { t with out := { t.out with resp := none } }
    if a.disp = .refused then u.respond o.req o.op a else u.endAccess o a .none .hub

/-! ### PUT, GET, ATOMIC, FETCH_OP, PUT_NOTIFY -/

/-- The access in the region that TARGET names (R44). -/
def State.accessRegion (s : State) (o : Operation) : State :=
  match addressBad o with
  | some st => s.refuseAddress o st
  | none =>
    match addrRegion o.req.target with
    | 0 => s.poolSubmit o
    | 1 => s.cohAccess o
    | 2 => s.sramAccess o
    | 3 => s.syncAccess o
    | 4 => s.queueAccess o
    | 5 => s.csrAccess o
    | _ => s.kvRegion o

/-- One of R56's operations with an address, of `op`'s code. -/
def State.remoteOp (s : State) (o : Operation) (postedOk : Bool) (mdMask : BitVec 8) (mcast : Bool) : State :=
  s.whenRunning (fun t => t.front o postedOk mdMask mcast (fun u => u.accessRegion o))

def execPut (o : Operation) (s : State) : Result := .next (s.remoteOp { o with op := 1 } true 0xFF true)
def execGet (o : Operation) (s : State) : Result := .next (s.remoteOp { o with op := 2 } false 0xFF false)
def execPutNotify (o : Operation) (s : State) : Result := .next (s.remoteOp { o with op := 6 } true 0xFF true)

/-- ATOMIC and FETCH_OP: OPERATOR codes 0xB-0xF are reserved (R58). -/
def State.remoteAtomic (s : State) (o : Operation) (postedOk : Bool) : State :=
  if 10 < o.req.md.toNat % 16 then s.whenRunning (fun t => t.begin.respond o.req o.op (refusal .rsvd))
  else s.remoteOp o postedOk 0xE0 false

def execAtomic (o : Operation) (s : State) : Result := .next (s.remoteAtomic { o with op := 3 } true)
def execFetchOp (o : Operation) (s : State) : Result := .next (s.remoteAtomic { o with op := 4 } false)

/-! ### NOTIFY and WAIT -/

/-- An operation on a sync object's VALUE: its address rules, its owner and its word (R57, R93), then `go` with the object. -/
def State.onValue (s : State) (o : Operation) (go : State → Nat → State) : State :=
  let off := addrOffset o.req.target
  match addressBad o with
  | some st => s.refuseAddress o st
  | none =>
    if !(s.syncOpen (off / 64) o.req.issuer) then s.respond o.req o.op (refusal .access)
    else if off % 64 ≠ 0 then s.respond o.req o.op (refusal .param)
    else go s (off / 64)

/-- NOTIFY (R60): node scope with MOD[0] 0, full scope with 1. -/
def execNotify (o0 : Operation) (s : State) : Result :=
  let o := { o0 with op := 5 }
  .next (s.whenRunning (fun t => t.front o true 0xFE true (fun u =>
    u.onValue o (fun v n => v.startNotify o.req 5 n o.operand1 (!(o.req.md.getLsbD 0))))))

/-- COND of a WAIT (R94). -/
def waitCond (md : BitVec 8) : WaitCond :=
  match md.toNat % 4 with
  | 0 => .ge | 1 => .eq | 2 => .ne | _ => .all

/-- The timeout of a wait in µs (R96). -/
def State.waitLimit (s : State) (length n : Nat) : Nat :=
  if length ≠ 0 then length
  else if (s.sync n).timeoutUs ≠ 0 then (s.sync n).timeoutUs
  else s.num O.waitTimeoutDefaultUs 100000

/-- A wait is registered and tested (R94, R95). -/
def State.registerWait (s : State) (o : Operation) (n : Nat) : State :=
  let c := waitCond o.req.md
  if 32768 ≤ s.remote.waits.length then s.respond o.req 8 (refusal .nospace .capacity)
  else if condHolds c (s.sync n).value o.operand1 then s.respond o.req 8 (served)
  else
    let w : Wait := {
      id := s.remote.nextWait, obj := n, cond := c, operand := o.operand1, req := o.req, since := BitVec.ofNat 64 s.ftc,
      deadline := s.now + usUnits (s.waitLimit o.length n) }
    ({ s with remote := { s.remote with waits := s.remote.waits ++ [w], nextWait := s.remote.nextWait + 1 } } : State).openOp o.req 8

def execWait (o0 : Operation) (s : State) : Result :=
  let o := { o0 with op := 8 }
  .next (s.whenRunning (fun t => t.front o false 0xFC false (fun u => u.onValue o (fun v n => v.registerWait o n))))

/-! ### FENCE and NOP -/

/-- FENCE and NOP address no region and never cross a link (R56, R464). -/
def State.localOp (s : State) (o : Operation) (mdMask : BitVec 8) (go : State → State) : State :=
  s.whenRunning (fun t =>
    let u := t.begin
    let no := fun (st : Status) => u.respond o.req o.op (refusal st)
    if o.req.fromDzm || o.req.viaPort.isSome then no .param
    else if o.req.md &&& mdMask ≠ 0 then no .rsvd
    else if o.req.tc = 0 then no .access
    else if o.req.posted || lengthBad o then no .param
    else go u)

/-- FENCE (R64): with MOD[0] 1 only the issuer's operations to TARGET's NODE count. -/
def execFence (o0 : Operation) (s : State) : Result :=
  let o := { o0 with op := 7 }
  .next (s.localOp o 0xFE (fun u =>
    let f : PendingFence := { req := o.req, nodeOnly := o.req.md.getLsbD 0 }
    if u.fenceReady f then (u.endFence f).wake
    else { u with remote := { u.remote with fences := u.remote.fences ++ [f] } }))

def execNop (o0 : Operation) (s : State) : Result :=
  let o := { o0 with op := 9 }
  .next (s.localOp o 0xFF (fun u => u.respond o.req 9 (served)))

end Sys2Proof.Machine
end

