-- ==== Sys2Proof/Machine/TierHint.lean ====
section
/-! DEFINITION. TIER_HINT (R313-R315): PROMOTE, DEMOTE, PIN, UNPIN, LAYER and CANCEL. -/

namespace Sys2Proof.Machine

/-- The refusals of R314 that every command shares, with whether TARGET and LENGTH name a range of whole pages. -/
def State.hintCheck (s : State) (o : Operation) (range : Bool) : Option Response :=
  let off := addrOffset o.req.target
  if addrRegion o.req.target ≥ 7 then some (refusal .rsvd)
  else if addrRegion o.req.target ≠ 0 then some (refusal .param)
  else match s.poolCheck off o.length o.req.issuer.tenant (issuerEndpoint o.req.issuer) .get with
    | some st => some (refusal st)
    | none => match s.partAt off with
      | none => some (refusal .range)
      | some (_, p) =>
        if p.staticBy.isSome then some (refusal .access .staticWindow)
        else if range && (decide (off % 65536 ≠ 0) || decide (o.length % 65536 ≠ 0)) then some (refusal .align)
        else none

/-- LOAD of a TIER_HINT is taken on the controller of the first page named (R72). -/
def State.hintLoad (s : State) (o : Operation) : LoadQueue :=
  .depth (s.inChannel (s.channelAt (addrOffset o.req.target))).length 128

/-- A hint answers now, or with WAIT when its moves have ended (R313). -/
def State.hintAnswer (s : State) (o : Operation) (result detail : Nat) (merged : List (Nat × Nat × Bool) := []) : State :=
  if o.req.md.getLsbD 4 then
    (({ s with pool := { s.pool with hintWaits := s.pool.hintWaits ++ [
      { req := o.req, result := result, detail := detail, merged := merged }] } } : State).openOp o.req 0x28).endHints
  else s.respond o.req 0x28 { (served .ok (BitVec.ofNat 64 result)) with detail := detail } (s.hintLoad o)

/-- The request that waits, when WAIT is set. -/
def hintWaiter (o : Operation) : Option Req := if o.req.md.getLsbD 4 then some o.req else none

/-- Partition, first page and number of pages of a range command. -/
def State.hintRange (s : State) (o : Operation) : Nat × Nat × Nat :=
  match s.partAt (addrOffset o.req.target) with
  | some (n, p) => (n, (addrOffset o.req.target - p.base) / 65536, o.length / 65536)
  | none => (0, 0, 0)

/-- Moves of a range of pages are asked for in page order; the numbers are of pages queued and of pages skipped. -/
def State.askRange (s : State) (n first count : Nat) (toNear : Bool) (cause : MoveCause) : Nat × Nat × State :=
  (List.range count).foldl (fun (t : Nat × Nat × State) j =>
    let pg := first + j
    let skip := match t.2.2.page n pg with
      | some r => r.failed || (!toNear && r.pinned)
      | none => true
    if skip then (t.1, t.2.1 + 1, t.2.2)
    else
      let q := t.2.2.askMove n pg toNear cause
      (t.1 + b2n q.1, t.2.1, q.2)) (0, 0, s)

/-- Moves of a range in a direction that are under way already, which the command is merged into (R307). -/
def State.mergedIn (s : State) (n first count : Nat) (toNear : Bool) : List (Nat × Nat × Bool) :=
  ((List.range count).filter (fun j => s.moving n (first + j) toNear)).map (fun j => (n, first + j, toNear))

/-- A range command: refused by R314, without effect on a near-only partition but what `flags` does, or its moves asked for. -/
def State.hintRangeOp (s : State) (o : Operation) (toNear : Bool) (extra : State → Nat → Nat → Nat → Option Response)
    (flags : State → Nat → Nat → Nat → State) : State :=
  match s.hintCheck o true with
  | some r => s.respond o.req 0x28 r (s.hintLoad o)
  | none =>
    let g := s.hintRange o
    if !(s.part g.1).twoTier then
      if !toNear then s.respond o.req 0x28 (refusal .param) (s.hintLoad o)
      else (flags s g.1 g.2.1 g.2.2).hintAnswer o 0 0
    else match extra s g.1 g.2.1 g.2.2 with
      | some r => s.respond o.req 0x28 r (s.hintLoad o)
      | none =>
        let q := (flags s g.1 g.2.1 g.2.2).askRange g.1 g.2.1 g.2.2 toNear (.hint (hintWaiter o))
        q.2.2.hintAnswer o q.1 (if q.2.1 = 0 then 0 else 1) (s.mergedIn g.1 g.2.1 g.2.2 toNear)

/-- PIN's bound on PINNED pages (R314). -/
def State.pinCheck (s : State) (n first count : Nat) : Option Response :=
  let p := s.part n
  let add := ((List.range count).filter (fun j => match s.page n (first + j) with
    | some r => !r.pinned
    | none => false)).length
  if p.nearPages < s.pinnedPages n + add + p.mapPages + 8 then some (refusal .nospace .capacity) else none

def execPromote (o : Operation) (s : State) : Result :=
  .next (s.unitOp o 0xE0 (fun t => t.hintRangeOp o true (fun _ _ _ _ => none) (fun u _ _ _ => u)))

def execDemote (o : Operation) (s : State) : Result :=
  .next (s.unitOp o 0xE0 (fun t => t.hintRangeOp o false (fun _ _ _ _ => none) (fun u _ _ _ => u)))

def execPin (o : Operation) (s : State) : Result :=
  .next (s.unitOp o 0xE0 (fun t => t.hintRangeOp o true State.pinCheck
    (fun u n first count => u.mapPagesIn n first count (fun r => { r with pinned := true, released := none }))))

/-- UNPIN removes PINNED and moves nothing. -/
def execUnpin (o : Operation) (s : State) : Result :=
  .next (s.unitOp o 0xE0 (fun t =>
    match t.hintCheck o true with
    | some r => t.respond o.req 0x28 r (t.hintLoad o)
    | none =>
      let g := t.hintRange o
      (t.mapPagesIn g.1 g.2.1 g.2.2 (fun r => { r with pinned := false })).hintAnswer o 0 0))

/-- LAYER prefetches layer OPERAND1 of the partition's table (R311, R314). LENGTH is 0. -/
def execLayer (o : Operation) (s : State) : Result :=
  .next (s.unitOp o 0xE0 (fun t =>
    match t.hintCheck o false with
    | some r => t.respond o.req 0x28 r (t.hintLoad o)
    | none =>
      let g := t.hintRange o
      let l := o.operand1.toNat
      if o.length ≠ 0 then t.respond o.req 0x28 (refusal .param) (t.hintLoad o)
      else if (t.part g.1).layerCount ≤ l then t.respond o.req 0x28 (refusal .range) (t.hintLoad o)
      else match t.ownLayer g.1 l with
        | none => t.respond o.req 0x28 (refusal .param) (t.hintLoad o)
        | some r =>
          let back := decide (r.release ≠ 0 ∧ r.release ≤ l)
          let old := if back then t.ownLayer g.1 (l - r.release) else none
          if back && old.isNone then t.respond o.req 0x28 (refusal .param) (t.hintLoad o)
          else
          let q := (t.layerUsed g.1 l).prefetchLayer g.1 r old (.layer false l (hintWaiter o))
          q.2.hintAnswer o q.1 0 (t.mergedIn g.1 r.first r.count true)))

/-- CANCEL drops the queued moves of a range, or of the whole partition when LENGTH is 0 (R313, R315). -/
def execCancel (o : Operation) (s : State) : Result :=
  .next (s.unitOp o 0xE0 (fun t =>
    match t.hintCheck o (decide (o.length ≠ 0)) with
    | some r => t.respond o.req 0x28 r (t.hintLoad o)
    | none =>
      let g := t.hintRange o
      let hit := fun (m : QueuedMove) => decide (m.part = g.1) &&
        (decide (o.length = 0) || (decide (g.2.1 ≤ m.page) && decide (m.page < g.2.1 + g.2.2)))
      let causes := (t.pool.queued.filter hit).map (·.cause)
      let res := ((t.partPages g.1).filter (fun e => e.2.near && match e.2.by_ with
        | some c => causes.contains c
        | none => false)).length
      let d := t.dropMoves hit
      (d.2.bumpN (O.partPrefetchCancelledResident g.1) res).hintAnswer o d.1 0))

end Sys2Proof.Machine
end

