-- ==== Sys2Proof/Machine/Dispatch.lean ====
section
/-! DEFINITION. Which meaning each command has. -/

namespace Sys2Proof.Machine

/-- The effect of a command on everything but the queue. -/
def exec (i : Instr) (s : State) : Host.Outcome State Fault Refusal :=
  match i with
  | .csrWrite who addr v => Sys2Proof.Machine.execCsrWrite who addr v s
  | .csrAliasWrite who k addr v => Sys2Proof.Machine.execCsrAliasWrite who k addr v s
  | .hubUnlock who v => Sys2Proof.Machine.execHubUnlock who v s
  | .dictUnlock p v => Sys2Proof.Machine.execDictUnlock p v s
  | .unlockArmLapse p => Sys2Proof.Machine.execUnlockArmLapse p s
  | .segmentStagingExpiry p => Sys2Proof.Machine.execSegmentStagingExpiry p s
  | .unitQuiesce p u => Sys2Proof.Machine.execUnitQuiesce p u s
  | .quiesceDrained u => Sys2Proof.Machine.execQuiesceDrained u s
  | .quiesceTimeout u => Sys2Proof.Machine.execQuiesceTimeout u s
  | .unitResume p u => Sys2Proof.Machine.execUnitResume p u s
  | .unitReset p u => Sys2Proof.Machine.execUnitReset p u s
  | .unitResetComplete u => Sys2Proof.Machine.execUnitResetComplete u s
  | .unitPowerDown p u => Sys2Proof.Machine.execUnitPowerDown p u s
  | .unitPowerUp p u => Sys2Proof.Machine.execUnitPowerUp p u s
  | .unitUpdateBegin p u => Sys2Proof.Machine.execUnitUpdateBegin p u s
  | .unitUpdateEnd p u => Sys2Proof.Machine.execUnitUpdateEnd p u s
  | .groupQueueTake child => Sys2Proof.Machine.execGroupQueueTake child s
  | .ancestorRequest p r reply => Sys2Proof.Machine.execAncestorRequest p r reply s
  | .aggregateRead p index sub packages => Sys2Proof.Machine.execAggregateRead p index sub packages s
  | .aggregateReply id package value => Sys2Proof.Machine.execAggregateReply id package value s
  | .aggregateWindowEnd id => Sys2Proof.Machine.execAggregateWindowEnd id s
  | .counterLatch p index sub => Sys2Proof.Machine.execCounterLatch p index sub s
  | .put o => Sys2Proof.Machine.execPut o s
  | .get o => Sys2Proof.Machine.execGet o s
  | .atomic o => Sys2Proof.Machine.execAtomic o s
  | .fetchOp o => Sys2Proof.Machine.execFetchOp o s
  | .notify o => Sys2Proof.Machine.execNotify o s
  | .putNotify o => Sys2Proof.Machine.execPutNotify o s
  | .fence o => Sys2Proof.Machine.execFence o s
  | .wait o => Sys2Proof.Machine.execWait o s
  | .nop o => Sys2Proof.Machine.execNop o s
  | .waitTimeout id => Sys2Proof.Machine.execWaitTimeout id s
  | .waitDumpComplete => Sys2Proof.Machine.execWaitDumpComplete s
  | .waitBreak p dump => Sys2Proof.Machine.execWaitBreak p dump s
  | .qdbCommit who q v => Sys2Proof.Machine.execQdbCommit who q v s
  | .queueEnable who q => Sys2Proof.Machine.execQueueEnable who q s
  | .queueDisable who q => Sys2Proof.Machine.execQueueDisable who q s
  | .queueDisableDrained q => Sys2Proof.Machine.execQueueDisableDrained q s
  | .queueFlush who q => Sys2Proof.Machine.execQueueFlush who q s
  | .queueFlushEnd q => Sys2Proof.Machine.execQueueFlushEnd q s
  | .clearSticky who q => Sys2Proof.Machine.execClearSticky who q s
  | .queueContextPut who q word v => Sys2Proof.Machine.execQueueContextPut who q word v s
  | .itemStart q remote => Sys2Proof.Machine.execItemStart q remote s
  | .itemComplete q => Sys2Proof.Machine.execItemComplete q s
  | .queueRingReadFail q st => Sys2Proof.Machine.execQueueRingReadFail q st s
  | .postedFailureReport who pseq r => Sys2Proof.Machine.execPostedFailureReport who pseq r s
  | .postedTimeout who pseq => Sys2Proof.Machine.execPostedTimeout who pseq s
  | .responseReceive who id epoch defer r => Sys2Proof.Machine.execResponseReceive who id epoch defer r s
  | .planLoad p slot => Sys2Proof.Machine.execPlanLoad p slot s
  | .planLoadCopyDone slot st => Sys2Proof.Machine.execPlanLoadCopyDone slot st s
  | .clusterDrained cluster => Sys2Proof.Machine.execClusterDrained cluster s
  | .planArm p slot => Sys2Proof.Machine.execPlanArm p slot s
  | .armRequest planId start fromNode resume => Sys2Proof.Machine.execArmRequest planId start fromNode resume s
  | .armReply planId member st => Sys2Proof.Machine.execArmReply planId member st s
  | .armDecision slot => Sys2Proof.Machine.execArmDecision slot s
  | .planDisarm a slot => Sys2Proof.Machine.execPlanDisarm a slot s
  | .disarmReceived planId => Sys2Proof.Machine.execDisarmReceived planId s
  | .planStart slot => Sys2Proof.Machine.execPlanStart slot s
  | .planHaltBoundary a slot => Sys2Proof.Machine.execPlanHaltBoundary a slot s
  | .planHaltNow a slot => Sys2Proof.Machine.execPlanHaltNow a slot s
  | .planResume p slot => Sys2Proof.Machine.execPlanResume p slot s
  | .planReset p slot => Sys2Proof.Machine.execPlanReset p slot s
  | .planUnload p slot => Sys2Proof.Machine.execPlanUnload p slot s
  | .planTick slot slacks => Sys2Proof.Machine.execPlanTick slot slacks s
  | .slipQuantumEnd slot => Sys2Proof.Machine.execSlipQuantumEnd slot s
  | .rotationsComplete slot => Sys2Proof.Machine.execRotationsComplete slot s
  | .latenessReport slot cause ticks origin => Sys2Proof.Machine.execLatenessReport slot cause ticks origin s
  | .slipToken port t => Sys2Proof.Machine.execSlipToken port t s
  | .haltToken port t => Sys2Proof.Machine.execHaltToken port t s
  | .haltTakesEffect slot => Sys2Proof.Machine.execHaltTakesEffect slot s
  | .timeSyncInterval => Sys2Proof.Machine.execTimeSyncInterval s
  | .timeFlit port txFtc echoTx echoRx arrival => Sys2Proof.Machine.execTimeFlit port txFtc echoTx echoRx arrival s
  | .holdoverExpiry => Sys2Proof.Machine.execHoldoverExpiry s
  | .ftcSet p v => Sys2Proof.Machine.execFtcSet p v s
  | .mma who w => Sys2Proof.Machine.execMma who w s
  | .tileRead who w => Sys2Proof.Machine.execTileRead who w s
  | .tileWrite who w => Sys2Proof.Machine.execTileWrite who w s
  | .tileZero who w => Sys2Proof.Machine.execTileZero who w s
  | .vadd who w => Sys2Proof.Machine.execVadd who w s
  | .vsub who w => Sys2Proof.Machine.execVsub who w s
  | .vmul who w => Sys2Proof.Machine.execVmul who w s
  | .vfma who w => Sys2Proof.Machine.execVfma who w s
  | .vmax who w => Sys2Proof.Machine.execVmax who w s
  | .vmin who w => Sys2Proof.Machine.execVmin who w s
  | .vexp2 who w => Sys2Proof.Machine.execVexp2 who w s
  | .vlog2 who w => Sys2Proof.Machine.execVlog2 who w s
  | .vrcp who w => Sys2Proof.Machine.execVrcp who w s
  | .vrsqrt who w => Sys2Proof.Machine.execVrsqrt who w s
  | .vredsum who w => Sys2Proof.Machine.execVredsum who w s
  | .vredmax who w => Sys2Proof.Machine.execVredmax who w s
  | .vcmp who w => Sys2Proof.Machine.execVcmp who w s
  | .vsel who w => Sys2Proof.Machine.execVsel who w s
  | .vcvt who w => Sys2Proof.Machine.execVcvt who w s
  | .vld who w => Sys2Proof.Machine.execVld who w s
  | .vst who w => Sys2Proof.Machine.execVst who w s
  | .vstscale who w => Sys2Proof.Machine.execVstscale who w s
  | .vbcast who w => Sys2Proof.Machine.execVbcast who w s
  | .viadd who w => Sys2Proof.Machine.execViadd who w s
  | .vand who w => Sys2Proof.Machine.execVand who w s
  | .vor who w => Sys2Proof.Machine.execVor who w s
  | .vxor who w => Sys2Proof.Machine.execVxor who w s
  | .sAdd who w => Sys2Proof.Machine.execSAdd who w s
  | .sSub who w => Sys2Proof.Machine.execSSub who w s
  | .sMul who w => Sys2Proof.Machine.execSMul who w s
  | .sAnd who w => Sys2Proof.Machine.execSAnd who w s
  | .sOr who w => Sys2Proof.Machine.execSOr who w s
  | .sXor who w => Sys2Proof.Machine.execSXor who w s
  | .shl who w => Sys2Proof.Machine.execShl who w s
  | .shr who w => Sys2Proof.Machine.execShr who w s
  | .sar who w => Sys2Proof.Machine.execSar who w s
  | .slt who w => Sys2Proof.Machine.execSlt who w s
  | .sltu who w => Sys2Proof.Machine.execSltu who w s
  | .addi who w => Sys2Proof.Machine.execAddi who w s
  | .addhi who w => Sys2Proof.Machine.execAddhi who w s
  | .shli who w => Sys2Proof.Machine.execShli who w s
  | .ld64 who w => Sys2Proof.Machine.execLd64 who w s
  | .st64 who w => Sys2Proof.Machine.execSt64 who w s
  | .ld32 who w => Sys2Proof.Machine.execLd32 who w s
  | .st32 who w => Sys2Proof.Machine.execSt32 who w s
  | .rdstat who w => Sys2Proof.Machine.execRdstat who w s
  | .rdres who w => Sys2Proof.Machine.execRdres who w s
  | .rdflags who w => Sys2Proof.Machine.execRdflags who w s
  | .clrflags who w => Sys2Proof.Machine.execClrflags who w s
  | .rdtick who w => Sys2Proof.Machine.execRdtick who w s
  | .desc who w => Sys2Proof.Machine.execDesc who w s
  | .xRemoteIssue who w => Sys2Proof.Machine.execXRemoteIssue who w s
  | .br who w => Sys2Proof.Machine.execBr who w s
  | .bz who w => Sys2Proof.Machine.execBz who w s
  | .bnz who w => Sys2Proof.Machine.execBnz who w s
  | .waitop who w => Sys2Proof.Machine.execWaitop who w s
  | .waitall who w => Sys2Proof.Machine.execWaitall who w s
  | .barrier who w => Sys2Proof.Machine.execBarrier who w s
  | .tickwait who w => Sys2Proof.Machine.execTickwait who w s
  | .setstream who w => Sys2Proof.Machine.execSetstream who w s
  | .trap who w => Sys2Proof.Machine.execTrap who w s
  | .drain floret => Sys2Proof.Machine.execDrain floret s
  | .taskEnd floret => Sys2Proof.Machine.execTaskEnd floret s
  | .runTask q item o => Sys2Proof.Machine.execRunTask q item o s
  | .taskSplit item => Sys2Proof.Machine.execTaskSplit item s
  | .taskTake floret => Sys2Proof.Machine.execTaskTake floret s
  | .arbiterDraw base waiting => Sys2Proof.Machine.execArbiterDraw base waiting s
  | .starvationFlag base requester => Sys2Proof.Machine.execStarvationFlag base requester s
  | .arbiterSeedWrite who base v => Sys2Proof.Machine.execArbiterSeedWrite who base v s
  | .jobOpen o => Sys2Proof.Machine.execJobOpen o s
  | .jobAbort o => Sys2Proof.Machine.execJobAbort o s
  | .jobRelease o => Sys2Proof.Machine.execJobRelease o s
  | .jobPut o port => Sys2Proof.Machine.execJobPut o port s
  | .heldJobPutTimeout job n => Sys2Proof.Machine.execHeldJobPutTimeout job n s
  | .jobIdleTimeout job => Sys2Proof.Machine.execJobIdleTimeout job s
  | .jobExponentReady job => Sys2Proof.Machine.execJobExponentReady job s
  | .millstoneSum job chunk contrib => Sys2Proof.Machine.execMillstoneSum job chunk contrib s
  | .jobOutputAck job r => Sys2Proof.Machine.execJobOutputAck job r s
  | .hcuJobStart unit => Sys2Proof.Machine.execHcuJobStart unit s
  | .gatherSortDone job => Sys2Proof.Machine.execGatherSortDone job s
  | .frameReceive port header payload => Sys2Proof.Machine.execFrameReceive port header payload s
  | .quotaAdmit tenant => Sys2Proof.Machine.execQuotaAdmit tenant s
  | .quotaWaitExpiry tenant => Sys2Proof.Machine.execQuotaWaitExpiry tenant s
  | .injectionFrame hub header payload => Sys2Proof.Machine.execInjectionFrame hub header payload s
  | .frameLink frame => Sys2Proof.Machine.execFrameLink frame s
  | .multicastBranchAck frame port r => Sys2Proof.Machine.execMulticastBranchAck frame port r s
  | .egressFrameBoundary port => Sys2Proof.Machine.execEgressFrameBoundary port s
  | .mcEntryWrite who n v => Sys2Proof.Machine.execMcEntryWrite who n v s
  | .quotaWrite who t v => Sys2Proof.Machine.execQuotaWrite who t v s
  | .lgMembersWrite who g hi v => Sys2Proof.Machine.execLgMembersWrite who g hi v s
  | .lgRebalance a g => Sys2Proof.Machine.execLgRebalance a g s
  | .lgRebalanceComplete g => Sys2Proof.Machine.execLgRebalanceComplete g s
  | .routeWrite who n v => Sys2Proof.Machine.execRouteWrite who n v s
  | .wheelTick => Sys2Proof.Machine.execWheelTick s
  | .trfIndRead who v => Sys2Proof.Machine.execTrfIndRead who v s
  | .trfIndWrite who v => Sys2Proof.Machine.execTrfIndWrite who v s
  | .contractDispatch channel => Sys2Proof.Machine.execContractDispatch channel s
  | .gateCycleStart who port v => Sys2Proof.Machine.execGateCycleStart who port v s
  | .gateCycleBegin port => Sys2Proof.Machine.execGateCycleBegin port s
  | .gateCycleStop who port => Sys2Proof.Machine.execGateCycleStop who port s
  | .gateStopEffect port => Sys2Proof.Machine.execGateStopEffect port s
  | .gateHoldExpiry port => Sys2Proof.Machine.execGateHoldExpiry port s
  | .gateEntryWrite who port entry v => Sys2Proof.Machine.execGateEntryWrite who port entry v s
  | .partitionBind a n => Sys2Proof.Machine.execPartitionBind a n s
  | .mapWritten n => Sys2Proof.Machine.execMapWritten n s
  | .partitionUnbind a n => Sys2Proof.Machine.execPartitionUnbind a n s
  | .partitionClearComplete n => Sys2Proof.Machine.execPartitionClearComplete n s
  | .partitionRepair a n => Sys2Proof.Machine.execPartitionRepair a n s
  | .channelOwnerWrite a ch owner => Sys2Proof.Machine.execChannelOwnerWrite a ch owner s
  | .channelDeclareFailed a ch => Sys2Proof.Machine.execChannelDeclareFailed a ch s
  | .channelRestore a ch => Sys2Proof.Machine.execChannelRestore a ch s
  | .channelRetrainDone ch ok => Sys2Proof.Machine.execChannelRetrainDone ch ok s
  | .channelClearComplete ch => Sys2Proof.Machine.execChannelClearComplete ch s
  | .channelStall ch => Sys2Proof.Machine.execChannelStall ch s
  | .channelFatalError ch => Sys2Proof.Machine.execChannelFatalError ch s
  | .uncorrectableError offset => Sys2Proof.Machine.execUncorrectableError offset s
  | .tierDeadlineExpiry ch id => Sys2Proof.Machine.execTierDeadlineExpiry ch id s
  | .pageMoveStart n page => Sys2Proof.Machine.execPageMoveStart n page s
  | .pageMoveSwitch n page => Sys2Proof.Machine.execPageMoveSwitch n page s
  | .migrationHoldExpiry n page => Sys2Proof.Machine.execMigrationHoldExpiry n page s
  | .promote o => Sys2Proof.Machine.execPromote o s
  | .demote o => Sys2Proof.Machine.execDemote o s
  | .pin o => Sys2Proof.Machine.execPin o s
  | .unpin o => Sys2Proof.Machine.execUnpin o s
  | .layer o => Sys2Proof.Machine.execLayer o s
  | .cancel o => Sys2Proof.Machine.execCancel o s
  | .kvStoreEnable a t partition => Sys2Proof.Machine.execKvStoreEnable a t partition s
  | .kvStoreDisable a t => Sys2Proof.Machine.execKvStoreDisable a t s
  | .kvOpen o => Sys2Proof.Machine.execKvOpen o s
  | .kvLookup o => Sys2Proof.Machine.execKvLookup o s
  | .kvTouch o => Sys2Proof.Machine.execKvTouch o s
  | .kvSetTtl o => Sys2Proof.Machine.execKvSetTtl o s
  | .kvRetain o => Sys2Proof.Machine.execKvRetain o s
  | .kvRelease o => Sys2Proof.Machine.execKvRelease o s
  | .kvPinNear o => Sys2Proof.Machine.execKvPinNear o s
  | .kvUnpinNear o => Sys2Proof.Machine.execKvUnpinNear o s
  | .kvTruncate o => Sys2Proof.Machine.execKvTruncate o s
  | .truncateEffect tenant session => Sys2Proof.Machine.execTruncateEffect tenant session s
  | .kvDelete o => Sys2Proof.Machine.execKvDelete o s
  | .kvDeleteComplete tenant session => Sys2Proof.Machine.execKvDeleteComplete tenant session s
  | .kvMove o destOk => Sys2Proof.Machine.execKvMove o destOk s
  | .kvMoveCopyDone tenant session st destBase => Sys2Proof.Machine.execKvMoveCopyDone tenant session st destBase s
  | .kvMoveSwitchDone tenant session st => Sys2Proof.Machine.execKvMoveSwitchDone tenant session st s
  | .kvTokenWrite o => Sys2Proof.Machine.execKvTokenWrite o s
  | .kvPagePull o => Sys2Proof.Machine.execKvPagePull o s
  | .kvAttend o => Sys2Proof.Machine.execKvAttend o s
  | .attendStart id => Sys2Proof.Machine.execAttendStart id s
  | .attendRangeDone id range clusterReset => Sys2Proof.Machine.execAttendRangeDone id range clusterReset s
  | .attendOutputVisible id r => Sys2Proof.Machine.execAttendOutputVisible id r s
  | .sessionExpiryCheck => Sys2Proof.Machine.execSessionExpiryCheck s
  | .handleQuarantineExpiry base => Sys2Proof.Machine.execHandleQuarantineExpiry base s
  | .rdS o => Sys2Proof.Machine.execRdS o s
  | .rdX o => Sys2Proof.Machine.execRdX o s
  | .upg o => Sys2Proof.Machine.execUpg o s
  | .wb o => Sys2Proof.Machine.execWb o s
  | .drop o => Sys2Proof.Machine.execDrop o s
  | .rdSpec o => Sys2Proof.Machine.execRdSpec o s
  | .snoopResponse agent line half data => Sys2Proof.Machine.execSnoopResponse agent line half data s
  | .directoryRequestResume id => Sys2Proof.Machine.execDirectoryRequestResume id s
  | .holdExpiry line => Sys2Proof.Machine.execHoldExpiry line s
  | .snoopTimeout agent line => Sys2Proof.Machine.execSnoopTimeout agent line s
  | .specBufferExpiry line agent => Sys2Proof.Machine.execSpecBufferExpiry line agent s
  | .windowEnable a w partition => Sys2Proof.Machine.execWindowEnable a w partition s
  | .windowDisable a w => Sys2Proof.Machine.execWindowDisable a w s
  | .windowDisableComplete w => Sys2Proof.Machine.execWindowDisableComplete w s
  | .wayMaskWrite who t v => Sys2Proof.Machine.execWayMaskWrite who t v s
  | .agentRegister a n kind => Sys2Proof.Machine.execAgentRegister a n kind s
  | .agentUnregister a n => Sys2Proof.Machine.execAgentUnregister a n s
  | .streamEnable a n => Sys2Proof.Machine.execStreamEnable a n s
  | .streamEnableComplete n => Sys2Proof.Machine.execStreamEnableComplete n s
  | .streamDisable a n => Sys2Proof.Machine.execStreamDisable a n s
  | .czPut o => Sys2Proof.Machine.execCzPut o s
  | .czBlockVisible n => Sys2Proof.Machine.execCzBlockVisible n s
  | .czGet o => Sys2Proof.Machine.execCzGet o s
  | .train o => Sys2Proof.Machine.execTrain o s
  | .trainComplete n => Sys2Proof.Machine.execTrainComplete n s
  | .loadTable o => Sys2Proof.Machine.execLoadTable o s
  | .czSeal o => Sys2Proof.Machine.execCzSeal o s
  | .streamReset o => Sys2Proof.Machine.execStreamReset o s
  | .tableFetch n slot channel => Sys2Proof.Machine.execTableFetch n slot channel s
  | .vsQuery o => Sys2Proof.Machine.execVsQuery o s
  | .shardQueryStart die => Sys2Proof.Machine.execShardQueryStart die s
  | .shardQueryDone id shard => Sys2Proof.Machine.execShardQueryDone id shard s
  | .vsResultVisible id r => Sys2Proof.Machine.execVsResultVisible id r s
  | .queryTimeout id => Sys2Proof.Machine.execQueryTimeout id s
  | .vsEnable o => Sys2Proof.Machine.execVsEnable o s
  | .vsDisable o => Sys2Proof.Machine.execVsDisable o s
  | .vsDisableComplete index => Sys2Proof.Machine.execVsDisableComplete index s
  | .vsInsert o => Sys2Proof.Machine.execVsInsert o s
  | .vsDelete o => Sys2Proof.Machine.execVsDelete o s
  | .vsDeleteComplete index item => Sys2Proof.Machine.execVsDeleteComplete index item s
  | .setNeighbours o => Sys2Proof.Machine.execSetNeighbours o s
  | .merge o => Sys2Proof.Machine.execMerge o s
  | .mergeSwitch index shard => Sys2Proof.Machine.execMergeSwitch index shard s
  | .tenantEnable a t requireEnc => Sys2Proof.Machine.execTenantEnable a t requireEnc s
  | .tenantDisable a t requireEnc => Sys2Proof.Machine.execTenantDisable a t requireEnc s
  | .clusterOwnerWrite who w v => Sys2Proof.Machine.execClusterOwnerWrite who w v s
  | .clusterClearComplete cluster => Sys2Proof.Machine.execClusterClearComplete cluster s
  | .portBindWrite who port v => Sys2Proof.Machine.execPortBindWrite who port v s
  | .secAssign who v => Sys2Proof.Machine.execSecAssign who v s
  | .spdmMessage port r => Sys2Proof.Machine.execSpdmMessage port r s
  | .keyRelease session payload => Sys2Proof.Machine.execKeyRelease session payload s
  | .keyDestroy session slot => Sys2Proof.Machine.execKeyDestroy session slot s
  | .mkDecrypt o => Sys2Proof.Machine.execMkDecrypt o s
  | .verify p => Sys2Proof.Machine.execVerify p s
  | .activate p => Sys2Proof.Machine.execActivate p s
  | .commit p burn => Sys2Proof.Machine.execCommit p burn s
  | .abort p => Sys2Proof.Machine.execAbort p s
  | .rekey port => Sys2Proof.Machine.execRekey port s
  | .rekeyHardLimit port => Sys2Proof.Machine.execRekeyHardLimit port s
  | .portModeWrite a port mode width8 => Sys2Proof.Machine.execPortModeWrite a port mode width8 s
  | .portEnable who port => Sys2Proof.Machine.execPortEnable who port s
  | .portDisable who port => Sys2Proof.Machine.execPortDisable who port s
  | .retrain who port => Sys2Proof.Machine.execRetrain who port s
  | .electricalTrainingDone port lanes => Sys2Proof.Machine.execElectricalTrainingDone port lanes s
  | .caps port message => Sys2Proof.Machine.execCaps port message s
  | .secureDone port secret => Sys2Proof.Machine.execSecureDone port secret s
  | .calibrateDone port delayNs asym => Sys2Proof.Machine.execCalibrateDone port delayNs asym s
  | .trainingTimeout port => Sys2Proof.Machine.execTrainingTimeout port s
  | .trainingRestart port => Sys2Proof.Machine.execTrainingRestart port s
  | .flitReceive port h payload tagOk => Sys2Proof.Machine.execFlitReceive port h payload tagOk s
  | .ack port seq => Sys2Proof.Machine.execAck port seq s
  | .nak port seq => Sys2Proof.Machine.execNak port seq s
  | .ackSend port => Sys2Proof.Machine.execAckSend port s
  | .uncorrectableWord port => Sys2Proof.Machine.execUncorrectableWord port s
  | .replayTimeout port => Sys2Proof.Machine.execReplayTimeout port s
  | .laneFail port lane => Sys2Proof.Machine.execLaneFail port lane s
  | .degrade port lanes ftc => Sys2Proof.Machine.execDegrade port lanes ftc s
  | .degradeSwitch port => Sys2Proof.Machine.execDegradeSwitch port s
  | .gdpHello addr udp frame => Sys2Proof.Machine.execGdpHello addr udp frame s
  | .gdpRead addr udp frame => Sys2Proof.Machine.execGdpRead addr udp frame s
  | .gdpWrite addr udp frame => Sys2Proof.Machine.execGdpWrite addr udp frame s
  | .flashWrite addr udp frame => Sys2Proof.Machine.execFlashWrite addr udp frame s
  | .gdpSecured session addr udp seq frame => Sys2Proof.Machine.execGdpSecured session addr udp seq frame s
  | .eventAck dest seq => Sys2Proof.Machine.execEventAck dest seq s
  | .icmpv6Echo source dest payload => Sys2Proof.Machine.execIcmpv6Echo source dest payload s
  | .neighborDiscovery type source target mac => Sys2Proof.Machine.execNeighborDiscovery type source target mac s
  | .eventRaise p n => Sys2Proof.Machine.execEventRaise p n s
  | .eventResend dest => Sys2Proof.Machine.execEventResend dest s
  | .eventHoldoffExpiry vector => Sys2Proof.Machine.execEventHoldoffExpiry vector s
  | .meterSnapshot p v => Sys2Proof.Machine.execMeterSnapshot p v s
  | .meterSnapshotLatch => Sys2Proof.Machine.execMeterSnapshotLatch s
  | .mailboxRead who m v => Sys2Proof.Machine.execMailboxRead who m v s
  | .mailboxWrite who m v => Sys2Proof.Machine.execMailboxWrite who m v s
  | .dictReq data pecOk whole => Sys2Proof.Machine.execDictReq data pecOk whole s
  | .dictRsp => Sys2Proof.Machine.execDictRsp s
  | .eventFetch => Sys2Proof.Machine.execEventFetch s
  | .smbusSclTimeout => Sys2Proof.Machine.execSmbusSclTimeout s
  | .spiRead edges words => Sys2Proof.Machine.execSpiRead edges words s
  | .spiWrite edges words => Sys2Proof.Machine.execSpiWrite edges words s
  | .spiFetchResponse edges => Sys2Proof.Machine.execSpiFetchResponse edges s
  | .spiFetchEvent edges => Sys2Proof.Machine.execSpiFetchEvent edges s
  | .sensorPoll entry value => Sys2Proof.Machine.execSensorPoll entry value s
  | .dimmThermalPoll dimm celsius => Sys2Proof.Machine.execDimmThermalPoll dimm celsius s
  | .busTransactionTimeout bus what => Sys2Proof.Machine.execBusTransactionTimeout bus what s
  | .busSdaStuck bus what => Sys2Proof.Machine.execBusSdaStuck bus what s
  | .busRecoveryAttempt bus pulses => Sys2Proof.Machine.execBusRecoveryAttempt bus pulses s
  | .recover who bus => Sys2Proof.Machine.execRecover who bus s
  | .powerUp mv => Sys2Proof.Machine.execPowerUp mv s
  | .softStartDone => Sys2Proof.Machine.execSoftStartDone s
  | .boot bankOk failed channels fuses feedLow => Sys2Proof.Machine.execBoot bankOk failed channels fuses feedLow s
  | .fuseReread changed => Sys2Proof.Machine.execFuseReread changed s
  | .powerMonitorTick watts => Sys2Proof.Machine.execPowerMonitorTick watts s
  | .sagSample mv warnLow => Sys2Proof.Machine.execSagSample mv warnLow s
  | .throttleRelease => Sys2Proof.Machine.execThrottleRelease s
  | .brownoutRecovery => Sys2Proof.Machine.execBrownoutRecovery s
  | .brownoutLoss mv => Sys2Proof.Machine.execBrownoutLoss mv s
  | .thermalSample c16 => Sys2Proof.Machine.execThermalSample c16 s
  | .thermalThrottleStep => Sys2Proof.Machine.execThermalThrottleStep s
  | .referenceMonitor ppb parentPpb stopped => Sys2Proof.Machine.execReferenceMonitor ppb parentPpb stopped s
  | .clockRequestWrite p cluster mhz => Sys2Proof.Machine.execClockRequestWrite p cluster mhz s
  | .railSettled quadrant => Sys2Proof.Machine.execRailSettled quadrant s
  | .coldResetPin => Sys2Proof.Machine.execColdResetPin s
  | .coldResetRelease => Sys2Proof.Machine.execColdResetRelease s
  | .resetCommandWarm a => Sys2Proof.Machine.execResetCommandWarm a s
  | .resetCommandCold a => Sys2Proof.Machine.execResetCommandCold a s
  | .heartbeat part => Sys2Proof.Machine.execHeartbeat part s
  | .watchdogRestart => Sys2Proof.Machine.execWatchdogRestart s
  | .watchdogWarning => Sys2Proof.Machine.execWatchdogWarning s
  | .watchdogExpiry => Sys2Proof.Machine.execWatchdogExpiry s
  | .dimmOvercurrent dimm => Sys2Proof.Machine.execDimmOvercurrent dimm s
  | .dimmFeedLow => Sys2Proof.Machine.execDimmFeedLow s
  | .unitHangTimeout u => Sys2Proof.Machine.execUnitHangTimeout u s
  | .containmentTimeout u => Sys2Proof.Machine.execContainmentTimeout u s
  | .portUnfence a port => Sys2Proof.Machine.execPortUnfence a port s
  | .injectArm p => Sys2Proof.Machine.execInjectArm p s
  | .injectCancel p => Sys2Proof.Machine.execInjectCancel p s
  | .injectDisable p => Sys2Proof.Machine.execInjectDisable p s
  | .injectFire entry => Sys2Proof.Machine.execInjectFire entry s
  | .csOpen o => Sys2Proof.Machine.execCsOpen o s
  | .csAbort o => Sys2Proof.Machine.execCsAbort o s
  | .csRelease o => Sys2Proof.Machine.execCsRelease o s
  | .csPut o => Sys2Proof.Machine.execCsPut o s
  | .csCommit o => Sys2Proof.Machine.execCsCommit o s
  | .csApplyDone slot r => Sys2Proof.Machine.execCsApplyDone slot r s
  | .ckptArm p c => Sys2Proof.Machine.execCkptArm p c s
  | .ckptCancel p c => Sys2Proof.Machine.execCkptCancel p c s
  | .ckptStart c => Sys2Proof.Machine.execCkptStart c s
  | .ckptPageCaptured c page r => Sys2Proof.Machine.execCkptPageCaptured c page r s
  | .cowCopyDone c page => Sys2Proof.Machine.execCowCopyDone c page s
  | .ckptManifest c r => Sys2Proof.Machine.execCkptManifest c r s
  | .meterSample => Sys2Proof.Machine.execMeterSample s
  | .meterModeSwitch => Sys2Proof.Machine.execMeterModeSwitch s
  | .flashWriteDone bank => Sys2Proof.Machine.execFlashWriteDone bank s
  | .managementLaneLinkChange lane => Sys2Proof.Machine.execManagementLaneLinkChange lane s
  | .cxlPcieLinkUp port rate width => Sys2Proof.Machine.execCxlPcieLinkUp port rate width s
  | .cxlPcieLinkLoss port => Sys2Proof.Machine.execCxlPcieLinkLoss port s
  | .channelRequestComplete channel id => Sys2Proof.Machine.execChannelRequestComplete channel id s
  | .discardedResponseTimeout n => Sys2Proof.Machine.execDiscardedResponseTimeout n s
  | .cellUsSample => Sys2Proof.Machine.execCellUsSample s

end Sys2Proof.Machine
end

