-- ==== Sys2Proof/Safety.lean ====
section
/-! DEFINITION. What a command gives, and what it keeps: the terms statements are made in. -/

namespace Sys2Proof.Machine

/-- The step goes on. -/
def Completes (s : State) : Prop := ∃ t, step s = .next t

/-- The command answers a next state, and that state has the property. -/
def Gives (c : Instr) (s : State) (P : State → Prop) : Prop := ∃ t, exec c s = .next t ∧ P t

/-- The parts of the state, one for each field. -/
inductive Part where
  | pending | now | ftc | out | freeCounter | chip | dict | csr | mem | sram | remote | plans | florets | hcu | sw | traffic | pool | kv
  | coh | cz | meadow | sec | links | mgmt | power | faults
  deriving DecidableEq, Repr

/-- A part is the same in two states. -/
def Part.same (s t : State) : Part → Bool
  | .pending => decide (t.pending = s.pending)
  | .now => decide (t.now = s.now)
  | .ftc => decide (t.ftc = s.ftc)
  | .out => decide (t.out = s.out)
  | .freeCounter => decide (t.freeCounter = s.freeCounter)
  | .chip => decide (t.chip = s.chip)
  | .dict => decide (t.dict = s.dict)
  | .csr => decide (t.csr = s.csr)
  | .mem => decide (t.mem = s.mem)
  | .sram => decide (t.sram = s.sram)
  | .remote => decide (t.remote = s.remote)
  | .plans => decide (t.plans = s.plans)
  | .florets => decide (t.florets = s.florets)
  | .hcu => decide (t.hcu = s.hcu)
  | .sw => decide (t.sw = s.sw)
  | .traffic => decide (t.traffic = s.traffic)
  | .pool => decide (t.pool = s.pool)
  | .kv => decide (t.kv = s.kv)
  | .coh => decide (t.coh = s.coh)
  | .cz => decide (t.cz = s.cz)
  | .meadow => decide (t.meadow = s.meadow)
  | .sec => decide (t.sec = s.sec)
  | .links => decide (t.links = s.links)
  | .mgmt => decide (t.mgmt = s.mgmt)
  | .power => decide (t.power = s.power)
  | .faults => decide (t.faults = s.faults)

def Part.all : List Part := [
  .pending, .now, .ftc, .out, .freeCounter, .chip, .dict, .csr, .mem, .sram, .remote, .plans, .florets, .hcu, .sw, .traffic, .pool, .kv,
  .coh, .cz, .meadow, .sec, .links, .mgmt, .power, .faults]

/-- The frame of a command: every part but those named, and but what it answers and sends, is as before. -/
abbrev Keeps (changed : List Part) (s t : State) : Prop :=
  (Part.all.all (fun p => changed.contains p || p = .out || Part.same s t p)) = true

/-- A unit command that its rules accept at this package (R31, R35, R36, R535, R594): the unit is there, it is served here, and nothing
refuses the command. -/
abbrev Accepts (s : State) (u : Nat) (c : UnitCmd) (l : UnitLoc) : Prop :=
  s.running = true ∧ unitLoc u = some l ∧ s.present l = true ∧ s.depthUsed l = true ∧ s.representative l = none ∧
    s.unitRefusal c l = none

/-- An operation comes to this node and its common checks let it through (R42, R52, R81): no reserved bit of MOD, a class other than 0,
TARGET's NODE this package. -/
abbrev Arrives (s : State) (o : Operation) (mdMask : BitVec 8) : Prop :=
  s.running = true ∧ o.req.md &&& mdMask = 0 ∧ o.req.tc ≠ 0 ∧ isMulticast (addrNode o.req.target) = false ∧
    s.isHere (addrNode o.req.target) = true ∧ (o.req.fromDzm = true → addrNode o.req.target ≠ 0xFFFF)

/-- A response to a request has been sent, and it has the property. -/
def Answered (t : State) (q : Req) (op : Nat) (p : Response → Bool) : Bool :=
  t.out.sent.any (fun m => match m with
    | .response q1 op1 r => decide (q1 = q) && decide (op1 = op) && p r
    | _ => false)

/-- The command's own answer has a STATUS. -/
abbrev Answers (t : State) (st : Status) : Prop := t.out.resp.map (·.status) = some st

/-- The KV service of this node takes a request at once (R281, R282): the FIFO of its source NODE is empty, has no Weir, its cap is open,
and no other FIFO waits for the service. -/
abbrev KvTakes (s : State) (i : Issuer) : Prop :=
  (s.contract (s.contractOf (s.sourceNode i))).queue = [] ∧ (s.contract (s.contractOf (s.sourceNode i))).weirEn = false ∧
    s.capOpen (s.contract (s.contractOf (s.sourceNode i))) = true ∧ s.hasRoom kvChannel = true ∧ s.headsAt kvChannel = [] ∧
    0 < s.num O.contractQueueLimit 4096

/-- A KV_CTL command comes to an enabled store of this node that takes it (R331). -/
abbrev KvCommand (s : State) (o : Operation) : Prop :=
  Arrives s o 0xF0 ∧ o.req.posted = false ∧ o.req.copy = none ∧ addrRegion o.req.target = 6 ∧
    bitsOf (addrOffset o.req.target) 43 42 = 3 ∧ bitsOf (addrOffset o.req.target) 41 0 = 0 ∧
    (s.store o.req.issuer.tenant).enable = true ∧ KvTakes s o.req.issuer

/-- It names a session that serves and that nothing holds (R329, R340, R348). -/
abbrev KvNames (s : State) (o : Operation) (x : KvSession) : Prop :=
  s.session o.req.issuer.tenant o.operand1 = some x ∧ x.serving = true ∧ x.holds = false

/-- A caching operation of agent `n`, reaches an enabled window of its tenant here, whole and
aligned (R359, R360, R363), and no other request of its line is at the directory (R358). -/
abbrev Caches (s : State) (o : Operation) (len n : Nat) (a : Agent) (w : Nat × Window) : Prop :=
  Arrives s o 0xFF ∧ o.req.posted = false ∧ o.req.copy = none ∧ addrRegion o.req.target = 1 ∧
    s.agentOf o.req.issuer = some (n, a) ∧ s.agent n = a ∧ a.kind ≠ 0 ∧ a.fenced = false ∧ a.tenant = o.req.issuer.tenant ∧
    addrOffset o.req.target % (if a.kind = 2 then 64 else 128) = 0 ∧ o.length = len ∧
    s.windowFor (addrOffset o.req.target) 64 a.tenant = .ok w ∧ s.windowAt (addrOffset o.req.target / 128 * 128) = some w ∧
    s.coh.requests.all (fun x => decide (x.line ≠ addrOffset o.req.target / 128)) = true ∧
    s.sliceDepth (addrOffset o.req.target / 128) < 512

/-- The half of the line a CXL host asks for, and the bytes of the line an agent asks for (R363). -/
def Agent.half (a : Agent) (o : Operation) : Option Nat := if a.kind = 2 then some (addrOffset o.req.target / 64 % 2) else none
def Agent.span (a : Agent) (o : Operation) : Nat × Nat := if a.kind = 2 then (64 * (addrOffset o.req.target / 64 % 2), 64) else (0, 128)

/-- An operation comes to a stream that its issuer may use (R378, R379). -/
abbrev OnStream (s : State) (o : Operation) (mdMask : BitVec 8) (x : Stream) : Prop :=
  Arrives s o mdMask ∧ s.endpointNode (addrNode o.req.target) = false ∧ o.req.posted = false ∧ o.req.copy = none ∧
    addrRegion o.req.target = 0 ∧ s.stream (streamNo o.req.target) = x ∧ x.state ≠ .disabled ∧
    (x.enable = true → s.streamTenant x = o.req.issuer.tenant)

/-- A CZ_CTL command with LENGTH as its rule has it (R379, R393). -/
abbrev CzControl (s : State) (o : Operation) (mask : Nat) (x : Stream) : Prop :=
  OnStream s o 0xF0 x ∧ streamOffset o.req.target = 0 ∧ o.operand1.toNat / (mask + 1) = 0 ∧
    (s.part x.partition).staticBy = none ∧ x.state ≠ .resetting

/-- A vector search operation comes to an index of this node (R399). -/
abbrev OnIndex (s : State) (o : Operation) (mdMask : BitVec 8) (n : Nat) (x : VIndex) : Prop :=
  Arrives s o mdMask ∧ s.endpointNode (addrNode o.req.target) = false ∧ o.req.posted = false ∧ o.req.copy = none ∧
    vsAddrOk o.req.target = true ∧ vsIndexNo o.req.target = n ∧ s.vindex n = x

/-- The index is ENABLED and belongs to the issuer's tenant (R404). -/
abbrev IndexOpen (o : Operation) (x : VIndex) : Prop := x.state = .enabled ∧ x.tenant = o.req.issuer.tenant

/-- No fence and no notify waits for an operation. -/
abbrev NoneWaits (s : State) : Prop := s.remote.fences = [] ∧ s.remote.notifies = []

/-- A slot starts a new bundle (R150). -/
def State.startsBundle (s : State) (i : SlotIn) : Bool := i.first || (s.floret i.floret).fresh

/-- The registers a slot reads: as they stand at its bundle's issue (R151). -/
def State.slotRegs (s : State) (i : SlotIn) : FloretRegs :=
  if s.startsBundle i then (s.floret i.floret).regs else (s.floret i.floret).atIssue

/-- What the bundle of a slot has written before it (R151), its address, and the address that follows unless it branches (R165). -/
def State.slotWrote (s : State) (i : SlotIn) : List RegName := if s.startsBundle i then [] else (s.floret i.floret).wrote
def State.slotBundle (s : State) (i : SlotIn) : Nat := if s.startsBundle i then (s.floret i.floret).next else (s.floret i.floret).bundle
def State.slotNext (s : State) (i : SlotIn) : Nat :=
  if s.startsBundle i then ((s.floret i.floret).next + 32) % 2 ^ 32 else (s.floret i.floret).next

/-- A slot issues (R149, R150): its Floret executes something and is not ending it, a new bundle meets no stall, and a static cluster's
bundle lies in its SRAM. -/
abbrev Issues (s : State) (i : SlotIn) : Prop :=
  s.running = true ∧ (s.floret i.floret).work.isSome = true ∧ (s.floret i.floret).ending = false ∧
    (s.startsBundle i = true → s.stalled i.floret = false ∧ s.dynamicHeld (i.floret / 16) = false) ∧
    ((s.staticSlotOf (i.floret / 16)).isSome = true → s.slotBundle i < 0x200000)

/-- The Floret's registers change by `g` and by nothing else; beside the Floret only the parts named may change. -/
abbrev SetsRegs (s t : State) (i : SlotIn) (changed : List Part) (g : FloretRegs → FloretRegs) : Prop :=
  (t.floret i.floret).regs = g (s.floret i.floret).regs ∧
    { t.florets with florets := [] } = { s.florets with florets := [] } ∧ Keeps (.florets :: .dict :: changed) s t

/-- A scalar register takes a value; s0 takes none (R146). A vector register takes a value. -/
abbrev SetsScalar (s t : State) (i : SlotIn) (n : Nat) (v : Word64) : Prop :=
  SetsRegs s t i [] (fun r => if n = 0 then r else { r with sregs := Store.write 0 r.sregs n v })
abbrev SetsVector (s t : State) (i : SlotIn) (n : Nat) (v : List Word32) : Prop :=
  SetsRegs s t i [] (fun r => { r with vregs := Store.write (List.replicate 64 0) r.vregs n v })

/-- Exactly these bytes of SRAM are written, and none of the pool. -/
def StoresSram (s t : State) (off : Nat) (bs : List Byte) : Prop :=
  (∀ k, k < bs.length → t.sramByte (off + k) = bs.getD k 0) ∧
    ∀ a, (a < off ∨ off + bs.length ≤ a → t.sramByte a = s.sramByte a) ∧ t.memByte a = s.memByte a

/-- Exactly these bytes of the pool are written, and none of SRAM. -/
def StoresMem (s t : State) (off : Nat) (bs : List Byte) : Prop :=
  (∀ k, k < bs.length → t.memByte (off + k) = bs.getD k 0) ∧
    ∀ a, (a < off ∨ off + bs.length ≤ a → t.memByte a = s.memByte a) ∧ t.sramByte a = s.sramByte a

/-- No byte of the pool or of engine SRAM reads otherwise than before. -/
def NoStore (s t : State) : Prop := ∀ a, t.memByte a = s.memByte a ∧ t.sramByte a = s.sramByte a

/-- Bytes of the pool and of SRAM keep their canonical form: offsets strictly rising, no zero byte listed. -/
abbrev BytesCanonical (s : State) : Prop := Store.wf 0 s.mem = true ∧ Store.wf 0 s.sram = true

/-- The state in which a GDP request that is performed starts: its frame is counted (R487). -/
def State.gdpStart (s : State) (addr : List Byte) : State := (s.begin.countGdp addr).bump O.gdpFramesReceived

/-- A GDP request that is performed (R483, R484, R487): management is served, the header is right, no reply to its SEQ is kept, and its
source has not reached the rate. -/
abbrev GdpOpen (s : State) (addr : List Byte) (udp : Nat) (frame : List Byte) (type : Nat) (h : GdpHead) : Prop :=
  s.serves = true ∧ gdpHead frame = some h ∧ h.version = 1 ∧ h.flags / 2 = 0 ∧ h.type = type ∧
    s.mgmt.replies.find? (fun r => decide (r.source = .gdp addr udp) && decide (r.seq = h.seq)) = none ∧
    s.gdpCount addr < s.num O.gdpRateLimit 4096

/-- A reply is the last thing sent, and it is kept for its source (R487). -/
abbrev GdpReplies (t : State) (addr : List Byte) (udp seq : Nat) (reply : List Byte) : Prop :=
  t.out.sent.getLast? = some (.gdp (.gdp addr udp) reply) ∧
    t.mgmt.replies.contains { source := .gdp addr udp, seq := seq, reply := reply } = true

/-- An operation comes to a commit slot of this node that it may name (R563). -/
abbrev OnSlot (s : State) (o : Operation) (mdMask : BitVec 8) (n : Nat) (x : CommitSlot) : Prop :=
  Arrives s o mdMask ∧ s.endpointNode (addrNode o.req.target) = false ∧ o.req.posted = false ∧ o.req.copy = none ∧
    addrRegion o.req.target = 0 ∧ bitsOf o.req.target.toNat 25 0 = 0 ∧ csSlotNo o.req.target = n ∧ s.cslot n = x ∧
    (x.state ≠ .free → x.tenant = o.req.issuer.tenant)

/-- The bytes that CS_PUT stages for its data (R565). -/
def csRecord (o : Operation) : List Byte :=
  natLe 8 o.operand1.toNat ++ natLe 4 o.length ++ List.replicate 52 0 ++ sliceB o.data 0 o.length ++
    List.replicate (roundUp o.length 64 - o.length) 0

/-- Stores of chapters 3 to 6 keep their canonical form: numbers strictly rising, no entry equal to what an unlisted number reads as. -/
abbrev ControlStoresCanonical (s : State) : Prop :=
  Store.wf none s.csr = true ∧ Store.wf ({} : QueueCtx) s.remote.queues = true ∧ Store.wf ({} : SyncObj) s.remote.syncs = true ∧
    Store.wf ({} : EndpointPosted) s.remote.endpoints = true ∧ Store.wf ({} : PlanSlot) s.plans.slots = true ∧
    Store.wf ({} : Floret) s.florets.florets = true ∧ Store.wf ({} : Job) s.hcu.jobs = true ∧
    Store.wf ([] : List Nat) s.hcu.fbQueues = true

/-- The same of the stores of switch, links and traffic control. -/
abbrev FabricStoresCanonical (s : State) : Prop :=
  Store.wf none s.sw.frames = true ∧ Store.wf [] s.sw.lists = true ∧ Store.wf ({} : McEntry) s.sw.mcast = true ∧
    Store.wf ({} : LinkGroup) s.sw.groups = true ∧ Store.wf ({} : Bucket) s.sw.buckets = true ∧ Store.wf 0 s.sw.credits = true ∧
    Store.wf 0 s.sw.headroom = true ∧ Store.wf [] s.sw.sent = true ∧ Store.wf ({} : TokenBucket) s.traffic.weirs = true ∧
    Store.wf ({} : TokenBucket) s.traffic.shapers = true ∧ Store.wf ({} : Gate) s.traffic.gates = true ∧
    Store.wf ({} : GateEntry) s.traffic.gateEntries = true ∧ Store.wf ([] : List Dispatched) s.traffic.dispatched = true ∧
    Store.wf ({} : Port) s.links.ports = true ∧
    s.links.ports.all (fun e => Store.wf ({} : Lane) e.2.lanes && Store.wf [] e.2.reasm) = true

/-- The same of the stores of the pool and of its services. -/
abbrev PoolStoresCanonical (s : State) : Prop :=
  Store.wf ({} : Partition) s.pool.parts = true ∧ Store.wf ({} : Channel) s.pool.channels = true ∧
    Store.wf ({} : KvStore) s.kv.stores = true ∧ s.kv.sessions.all (fun x => Store.wf 0 x.written) = true ∧
    Store.wf ({} : Window) s.coh.windows = true ∧ Store.wf none s.coh.entries = true ∧ Store.wf 0 s.coh.ways = true ∧
    Store.wf ({} : Agent) s.coh.agents = true ∧ Store.wf ({} : Stream) s.cz.streams = true ∧
    Store.wf ({} : VIndex) s.meadow.indexes = true

/-- The same of the stores of security, management, power and faults. -/
abbrev PackageStoresCanonical (s : State) : Prop :=
  Store.wf ({} : Tenant) s.sec.tenants = true ∧ Store.wf 0xFF s.sec.clusterOwner = true ∧ Store.wf ({} : PortBind) s.sec.binds = true ∧
    Store.wf ({} : PortCrypt) s.sec.crypt = true ∧ Store.wf none s.sec.keys = true ∧ Store.wf ({} : Bank) s.sec.banks = true ∧
    Store.wf 0 s.mgmt.flash = true ∧ Store.wf ({} : FlashBank) s.mgmt.flashBanks = true ∧ Store.wf ({} : Vector) s.mgmt.vectors = true ∧
    Store.wf false s.mgmt.dimmHot = true ∧ Store.wf ({} : UnitRec) s.power.units = true ∧ Store.wf 1800 s.power.clocks = true ∧
    Store.wf ({} : InjectEntry) s.faults.inject = true ∧ Store.wf ({} : CommitSlot) s.faults.slots = true ∧
    Store.wf 0 s.faults.meterMode = true

end Sys2Proof.Machine
end

