-- ==== Sys2Proof/Certificates/Slice0/Obligations.lean ====
section
/-! DEFINITION. The statements for the provers. -/

open Sys2Proof Sys2Proof.Machine

/-- The commands wait first in, first out: a step takes the one at the front, and answers what that command's effect is on the state with
  the rest of the queue. (How commands come is the model's own choice, notes/assumptions/1.md.) -/
def Obligations.StepRunsTheFrontCommand : Prop :=
  ∀ (s : State) (c : Instr) (rest : List Instr), s.pending = c :: rest → step s = exec c { s with pending := rest }

/-- When no command waits, a step is one fabric tick: FTC advances by its 32 units of 0.25 ns (R120), the model's clock with it,
  throttle_ticks counts the tick while a throttle is in force (R548), and nothing else changes. That an idle step is a tick is the
  model's choice (notes/assumptions/2.md). -/
def Obligations.IdleStepIsATick : Prop :=
  ∀ s : State, s.pending = [] → ∃ t, step s = .next t ∧ t.now = s.now + 32 ∧ t.ftc = (s.ftc + 32) % 2 ^ 64 ∧
    Keeps [.now, .ftc, .dict] s t ∧ (s.throttled = false → t.dict = s.dict)

/-- Every command, in every state, answers a next state, and so does every step: what the manual refuses is answered with a STATUS, and
  nothing ends a run. -/
def Obligations.EveryCommandAnswers : Prop :=
  (∀ (c : Instr) (s : State), ∃ t, exec c s = .next t) ∧ ∀ s : State, Completes s

/-- After reset nothing waits, FTC is 0, the package runs, every store and both memories have their canonical form, no wait is pending,
  the logs are empty, and no dictionary object holds another value than its default (R16). -/
def Obligations.ResetIsCanonical : Prop :=
  State.reset.pending = [] ∧ State.reset.ftc = 0 ∧ State.reset.power.package = .running ∧ State.reset.dict = [] ∧
    BytesCanonical State.reset ∧ ControlStoresCanonical State.reset ∧ FabricStoresCanonical State.reset ∧
    PoolStoresCanonical State.reset ∧ PackageStoresCanonical State.reset ∧ State.reset.remote.waits = [] ∧
    State.reset.faults.log = [] ∧ State.reset.sec.clearLog = [] ∧ State.reset.mgmt.eventLog = []

/-- The bytes of the pool and of engine SRAM are listed by rising offset, and no listed byte is zero: every step keeps that, from every
  state that has it. So equal memories are equal data. -/
def Obligations.BytesStayCanonical : Prop :=
  ∀ s t : State, BytesCanonical s → step s = .next t → BytesCanonical t

/-- Registers, queue contexts, sync objects, endpoints, plan slots, Florets and jobs are listed by rising number, without an entry equal
  to its reset value: every step keeps that, from every state that has it. -/
def Obligations.ControlStoresStayCanonical : Prop :=
  ∀ s t : State, ControlStoresCanonical s → step s = .next t → ControlStoresCanonical t

/-- Frames, queues and credits of the switch, groups, buckets, Weirs, shapers, gates and ports are listed by rising number, without an
  entry equal to its reset value: every step keeps that, from every state that has it. -/
def Obligations.FabricStoresStayCanonical : Prop :=
  ∀ s t : State, FabricStoresCanonical s → step s = .next t → FabricStoresCanonical t

/-- Partitions, channels, KV stores, what a session has written, windows, directory entries, agents, streams and vector indexes are
  listed by rising number, without an entry equal to its reset value: every step keeps that, from every state that has it. -/
def Obligations.PoolStoresStayCanonical : Prop :=
  ∀ s t : State, PoolStoresCanonical s → step s = .next t → PoolStoresCanonical t

/-- Tenants, binds, key slots, firmware banks, the staging flash, mailboxes' vectors, units, clocks, scheduled faults and commit slots
  are listed by rising number, without an entry equal to its reset value: every step keeps that, from every state that has it. -/
def Obligations.PackageStoresStayCanonical : Prop :=
  ∀ s t : State, PackageStoresCanonical s → step s = .next t → PackageStoresCanonical t

/-- What is fused, strapped and plugged into the package is the same after every step, whatever command it runs. -/
def Obligations.ChipNeverChanges : Prop :=
  ∀ s t : State, step s = .next t → t.chip = s.chip

/-- The clock from which every deadline runs never goes back over a step, resets included; the queue loses at most its front. The clock
  is the model's own field (notes/assumptions/3.md). -/
def Obligations.ClockNeverRunsBack : Prop :=
  ∀ s t : State, step s = .next t → s.now ≤ t.now ∧ t.pending = s.pending.tail

/-- The clear log and the event log hold at most 4,096 records and the fault log at most 1,024, from every state in which they do, over
  every step. -/
def Obligations.LogsStayBounded : Prop :=
  ∀ s t : State, s.sec.clearLog.length ≤ 4096 ∧ s.mgmt.eventLog.length ≤ 4096 ∧ s.faults.log.length ≤ 1024 → step s = .next t →
    t.sec.clearLog.length ≤ 4096 ∧ t.mgmt.eventLog.length ≤ 4096 ∧ t.faults.log.length ≤ 1024

/-- Every step keeps the number of pending waits within 32,768. A WAIT that its other rules let through and that finds the table full is
  answered with DISP REFUSED, STATUS E_NOSPACE and REASON CAPACITY, and no wait joins the table. -/
def Obligations.WaitTableHolds : Prop :=
  (∀ s t : State, s.remote.waits.length ≤ 32768 → step s = .next t → t.remote.waits.length ≤ 32768) ∧
  (∀ (s : State) (o : Operation), Arrives s o 0xFC → o.req.posted = false → addressBad { o with op := 8 } = none →
    s.syncOpen (addrOffset o.req.target / 64) o.req.issuer = true → addrOffset o.req.target % 64 = 0 →
    32768 ≤ s.remote.waits.length →
    Gives (.wait o) s (fun t =>
      Answered t o.req 8 (fun r => decide (r.disp = .refused ∧ r.status = .nospace ∧ r.reason = .capacity)) = true ∧
      t.remote.waits.length ≤ s.remote.waits.length ∧ Keeps [.remote, .dict, .csr, .freeCounter] s t))

/-- An ATOMIC or a FETCH_OP that reaches this package with a defined operator is answered with DISP REFUSED and E_PARAM, and stores
  nothing, when it is CAS in an ATOMIC, FADD with SIZE 1, any operator but ADD, SWAP and CAS on REGION 0x3, or SIZE 0 on REGION 0x3. -/
def Obligations.OperatorCombinationsAreRefused : Prop :=
  (∀ (s : State) (o : Operation), Arrives s o 0xE0 → addrRegion o.req.target < 7 → o.req.md.toNat % 16 < 11 →
    (o.req.md.toNat % 16 = 9 ∨ (o.req.md.toNat % 16 = 10 ∧ o.req.md.getLsbD 4 = true) ∨
      (addrRegion o.req.target = 3 ∧ o.req.md.toNat % 16 ≠ 0 ∧ o.req.md.toNat % 16 ≠ 8) ∨
      (addrRegion o.req.target = 3 ∧ o.req.md.getLsbD 4 = false)) →
    Gives (.atomic o) s (fun t => Answered t o.req 3 (fun r => decide (r.disp = .refused ∧ r.status = .param)) = true ∧
      NoStore s t ∧ Keeps [.remote, .dict, .csr, .freeCounter] s t ∧ (NoneWaits s → t.remote.syncs = s.remote.syncs))) ∧
  (∀ (s : State) (o : Operation), Arrives s o 0xE0 → addrRegion o.req.target < 7 → o.req.md.toNat % 16 < 11 →
    ((o.req.md.toNat % 16 = 10 ∧ o.req.md.getLsbD 4 = true) ∨
      (addrRegion o.req.target = 3 ∧ o.req.md.toNat % 16 ≠ 0 ∧ o.req.md.toNat % 16 ≠ 8 ∧ o.req.md.toNat % 16 ≠ 9) ∨
      (addrRegion o.req.target = 3 ∧ o.req.md.getLsbD 4 = false)) →
    Gives (.fetchOp o) s (fun t => Answered t o.req 4 (fun r => decide (r.disp = .refused ∧ r.status = .param)) = true ∧
      NoStore s t ∧ Keeps [.remote, .dict, .csr, .freeCounter] s t ∧ (NoneWaits s → t.remote.syncs = s.remote.syncs)))

/-- A CS_PUT to an OPEN slot of its tenant stores at the end of its attempt's area a 64-byte header (destination, length, zeros), then
  the data padded to 64 bytes, and stores no other byte. One that would pass STAGE_BYTES is answered with E_NOSPACE, REASON CAPACITY, and
  nothing is staged. -/
def Obligations.StagedPutsAppendOrAreRefused : Prop :=
  (∀ (s : State) (o : Operation) (n off : Nat) (x : CommitSlot), OnSlot s o 0xFF n x → 1 ≤ o.length → o.length ≤ 2 ^ 24 →
    addrRegion o.operand1 < 7 → x.state = .opened → csAttempt o.req.target < x.attempts →
    Store.read 0 x.staged (csAttempt o.req.target) + (64 + roundUp o.length 64) ≤ x.stageBytes →
    off = addrOffset x.stageAddr + csAttempt o.req.target * x.stageBytes + Store.read 0 x.staged (csAttempt o.req.target) →
    s.poolCheck off (64 + roundUp o.length 64) x.tenant none .stage = none → s.firstPoison off (64 + roundUp o.length 64) = none →
    BytesCanonical s →
    Gives (.csPut o) s (fun t =>
      StoresMem s t off (natLe 8 o.operand1.toNat ++ natLe 4 o.length ++ List.replicate 52 0 ++ sliceB o.data 0 o.length ++
        List.replicate (roundUp o.length 64 - o.length) 0) ∧
      Store.read 0 (t.cslot n).staged (csAttempt o.req.target) =
        Store.read 0 x.staged (csAttempt o.req.target) + (64 + roundUp o.length 64) ∧
      Answered t o.req o.op (fun a => decide (a.status = .ok)) = true)) ∧
  (∀ (s : State) (o : Operation) (n : Nat) (x : CommitSlot), OnSlot s o 0xFF n x → 1 ≤ o.length → o.length ≤ 2 ^ 24 →
    addrRegion o.operand1 < 7 → x.state = .opened → csAttempt o.req.target < x.attempts →
    x.stageBytes < Store.read 0 x.staged (csAttempt o.req.target) + (64 + roundUp o.length 64) →
    Gives (.csPut o) s (fun t =>
      Answered t o.req o.op (fun a => decide (a.disp = .refused ∧ a.status = .nospace ∧ a.reason = .capacity)) = true ∧
      NoStore s t ∧ t.faults.slots = s.faults.slots))

/-- Packing elements of a width gives the bytes of one little-endian number in which element n stands at bits w(n + 1) - 1 to wn;
  unpacking reads those bits. Four 6-bit elements fill 3 bytes; two 4-bit elements fill one byte, element 0 in its low half. -/
def Obligations.PackedElementsAreABitStream : Prop :=
  (∀ (w : Nat) (xs : List Nat), (packElems w xs).length = (w * xs.length + 7) / 8) ∧
  (∀ (w n : Nat) (xs : List Nat), n < xs.length →
    leNat (packElems w xs) / 2 ^ (w * n) % 2 ^ (w * (n + 1) - w * n) = xs.getD n 0 % 2 ^ w) ∧
  (∀ (w n k : Nat) (bs : List Byte), k < n →
    (unpackElems w n bs).getD k 0 = leNat bs / 2 ^ (w * k) % 2 ^ (w * (k + 1) - w * k)) ∧
  (∀ a b c d : Nat, (packElems 6 [a, b, c, d]).length = 3) ∧
  (∀ a b : Nat, packElems 4 [a, b] = [BitVec.ofNat 8 (a % 16 + 16 * (b % 16))])

/-- In every state, whatever was written before, scalar register s0 of every Floret reads zero and its mask register m0 reads all ones.
  -/
def Obligations.FloretRegistersReadAsWired : Prop :=
  ∀ (s : State) (f : Nat), (s.floret f).regs.s 0 = 0 ∧ (s.floret f).regs.m 0 = BitVec.allOnes 64

/-- A write of HUB_UNLOCK_INDEX by any issuer is kept for its requester (R512). A write of a TICKETS register of the CSR bus arbiter
  through the SET alias sets the bits written, and changes no other part of the state (R513). A right key in HUB_UNLOCK arms the guarded
  register whose word index the requester wrote before (R512). -/
def Obligations.RegisterWritesTakeEffect : Prop :=
  (∀ (s : State) (i : Issuer) (v : Word32), s.running = true → v.toNat < 2 ^ 22 → Gives (.csrWrite i R.hubUnlockIndex v) s (fun t =>
    (t.csrReq (requesterOf i)).unlockIndex = v.toNat ∧ Keeps [.mgmt, .freeCounter] s t)) ∧
  (∀ (s : State) (i : Issuer) (v : Word32), s.running = true → v.toNat < 256 → Gives (.csrAliasWrite i .set (R.hubCsrarbTickets 0) v) s
    (fun t => t.reg (R.hubCsrarbTickets 0) 16 = (s.reg (R.hubCsrarbTickets 0) 16 ||| v.toNat) &&& 0xFF ∧ Keeps [.csr, .mgmt,
    .freeCounter] s t)) ∧
  (∀ (s : State) (i : Issuer) (v : Word32) (a : Nat), s.running = true → v = 0xA5C3 → s.guardedAt (s.csrReq (requesterOf i)).unlockIndex
    = some a → Gives (.hubUnlock i v) s (fun t => (t.csrReq (requesterOf i)).armed = some a ∧ Keeps [.mgmt, .freeCounter] s t))

/-- The right value in dict_unlock arms the path for 100 ms. When an arm lapses the path is armed no more, and when a staging expires the
  path holds no staging; the clock stands at the limit or later, and nothing else but time, the throttle's tick count and the path's
  record changes. -/
def Obligations.DictionaryArmsAndStaging : Prop :=
  (∀ (s : State) (p : DictPath) (v : Word32), s.running = true → v.toNat % 65536 = 0xA5C3 → holdsRwl (v.toNat / 65536) = true → Gives
    (.dictUnlock p v) s (fun t => (t.pathState p).arm = some (v.toNat / 65536, s.now + msUnits 100) ∧ Answers t .ok ∧ Keeps [.mgmt,
    .freeCounter] s t)) ∧
  (∀ (s : State) (p : DictPath) (a : Nat × Nat), (s.pathState p).arm = some a → Gives (.unlockArmLapse p) s (fun t => (t.pathState p).arm
    = none ∧ a.2 ≤ t.now ∧ Keeps [.mgmt, .now, .ftc, .dict] s t)) ∧
  (∀ (s : State) (p : DictPath) (g : Staging), (s.pathState p).staging = some g → Gives (.segmentStagingExpiry p) s (fun t =>
    (t.pathState p).staging = none ∧ g.due ≤ t.now ∧ Keeps [.mgmt, .now, .ftc, .dict] s t))

/-- QUIESCE and UPDATE_BEGIN make the unit QUIESCING under a command that ends by quiesce_timeout_us (R536). RESUME makes a QUIESCED unit
  ACTIVE and gives the outcome OK. RESET of a unit other than the package and the hub, POWER_UP and UPDATE_END open a command of their
  kind on the unit (R537, R539). POWER_DOWN leaves the unit POWERED_DOWN and gives the outcome OK. -/
def Obligations.UnitCommandsBegin : Prop :=
  (∀ (s : State) (p : DictPath) (u : Nat) (l : UnitLoc), Accepts s u .quiesce l → Gives (.unitQuiesce p u) s (fun t => (t.unit l).state =
    .quiescing ∧ (∃ c ∈ t.power.commands, c.target = unitIndex l ∧ c.cmd = .quiesce ∧ c.deadline = some (s.now + usUnits (s.num
    O.quiesceTimeoutUs 10000))) ∧ Keeps [.power, .mgmt, .freeCounter] s t)) ∧
  (∀ (s : State) (p : DictPath) (u : Nat) (l : UnitLoc), Accepts s u .resume l → Store.wf ({} : UnitRec) s.power.units = true → Gives
    (.unitResume p u) s (fun t => (t.unit l).state = .active ∧ t.num O.unitCmdLastStatus 1 = 0 ∧ Keeps [.power, .dict, .mgmt,
    .freeCounter] s t)) ∧
  (∀ (s : State) (p : DictPath) (u : Nat) (l : UnitLoc), Accepts s u .reset l → l ≠ .package → l ≠ .hub → Gives (.unitReset p u) s (fun t
    => (∃ c ∈ t.power.commands, c.target = unitIndex l ∧ c.cmd = .reset ∧ c.units = (s.followers .reset l).map unitIndex))) ∧
  (∀ (s : State) (p : DictPath) (u : Nat) (l : UnitLoc), Accepts s u .powerDown l → Gives (.unitPowerDown p u) s (fun t => (t.unit
    l).state = .poweredDown ∧ t.num O.unitCmdLastStatus 1 = 0)) ∧
  (∀ (s : State) (p : DictPath) (u : Nat) (l : UnitLoc), Accepts s u .powerUp l → Gives (.unitPowerUp p u) s (fun t => (∃ c ∈
    t.power.commands, c.target = unitIndex l ∧ c.cmd = .powerUp ∧ c.units = (s.followers .powerUp l).map unitIndex))) ∧
  (∀ (s : State) (p : DictPath) (u : Nat) (l : UnitLoc), Accepts s u .updateBegin l → Gives (.unitUpdateBegin p u) s (fun t => (t.unit
    l).state = .quiescing ∧ (∃ c ∈ t.power.commands, c.target = unitIndex l ∧ c.cmd = .updateBegin ∧ c.deadline = some (s.now + usUnits
    (s.num O.quiesceTimeoutUs 10000))) ∧ Keeps [.power, .mgmt, .freeCounter] s t)) ∧
  (∀ (s : State) (p : DictPath) (u : Nat) (l : UnitLoc), Accepts s u .updateEnd l → Gives (.unitUpdateEnd p u) s (fun t => (∃ c ∈
    t.power.commands, c.target = unitIndex l ∧ c.cmd = .updateEnd ∧ c.units = (s.followers .updateEnd l).map unitIndex)))

/-- A command that is drained ends with the outcome OK and is open no more. A command not drained when quiesce_timeout_us has passed has
  the outcome E_TIMEOUT. When zeroing or retraining is done the command ends with OK. A containment whose millisecond has passed ends,
  drained. -/
def Obligations.UnitCommandsEnd : Prop :=
  (∀ (s : State) (u : Nat) (c : UnitCommand) (l : UnitLoc), s.running = true → s.draining u = some c → s.drained c = true → c.contain =
    false → c.timedOut = false → unitLoc c.target = some l → Gives (.quiesceDrained u) s (fun t => t.power.commands =
    s.power.commands.erase c ∧ t.num O.unitCmdLastStatus 1 = 0 ∧ t.num O.unitCmdLastPath 0 = s.path l ∧ Keeps [.power, .dict] s t)) ∧
  (∀ (s : State) (u : Nat) (c : UnitCommand) (l : UnitLoc), s.running = true → s.power.commands.find? (fun c => c.drains && !c.contain &&
    !c.timedOut && decide (c.target = u)) = some c → unitLoc u = some l → (s.elapse (c.deadline.getD 0)).drained c = false → Gives
    (.quiesceTimeout u) s (fun t => t.power.commands = s.power.commands.map (fun d => if d = c then { d with timedOut := true } else d) ∧
    t.num O.unitCmdLastStatus 0 = 0x10 ∧ Keeps [.power, .dict, .now, .ftc] s t)) ∧
  (∀ (s : State) (u : Nat) (c : UnitCommand) (l : UnitLoc), s.running = true → s.power.commands.find? (fun c => !c.drains && decide
    (c.target = u)) = some c → unitLoc u = some l → c.cmd ≠ .updateEnd → Gives (.unitResetComplete u) s (fun t => t.power.commands =
    s.power.commands.erase c ∧ t.num O.unitCmdLastStatus 1 = 0 ∧ Keeps [.power, .dict] s t)) ∧
  (∀ (s : State) (u : Nat) (c : UnitCommand), s.running = true → s.power.commands.find? (fun c => c.contain && decide (c.target = u)) =
    some c → (s.elapse (c.deadline.getD 0)).drained c = true → Gives (.containmentTimeout u) s (fun t => t.power.commands =
    s.power.commands.erase c ∧ Keeps [.power, .dict, .now, .ftc] s t)) ∧
  (∀ (s : State) (u : Nat) (l : UnitLoc), s.running = true → unitLoc u = some l → s.present l = true → s.executing l = true → Gives
    (.unitHangTimeout u) s (fun t => (∃ r ∈ t.faults.log, r.code = 0x22 ∧ r.seq = s.faults.seq + 1)))

/-- A quadrant takes the oldest item waiting at its die when a cluster of it serves the tenant (R37, R178). A request to an ancestor is
  forwarded to its representative, whose reply is the answer (R31). A read above depth 3 asks every descendant package once for its value
  at a latch FTC 1 ms later; a reply is added to the sum; at the end of the window the packages missing are counted (R40). A counter read
  at depth 3 or below advances to the next tick boundary first (R39). -/
def Obligations.UnitTreeRequestsComplete : Prop :=
  (∀ (s : State) (child d q : Nat) (x : TaskItem), s.running = true → unitLoc child = some (.quadrant d q) → s.closed (.quadrant d q) =
    false → s.closed (.die d) = false → s.ownQueueEmpty (.quadrant d q) = true → s.num (O.unitStealEnable (unitIndex (.die d))) 1 ≠ 0 →
    s.florets.items.find? (fun x => x.taken.isNone && decide (x.waitsAt = unitIndex (.die d))) = some x → s.servingClusters x.tenant (4 *
    d + q) ≠ [] → Gives (.groupQueueTake child) s (fun t => t.florets.items = s.florets.items.map (fun y => if y.id = x.id then
    { x with waitsAt := 0, taken := some (.quadrant (4 * d + q)) } else y) ∧ Keeps [.florets] s t)) ∧
  (∀ (s : State) (p : DictPath) (r : DictRequest) (d : DictResponse) (n : Nat), s.running = true → s.objAbsent r.index r.sub = false →
    s.servedBy r.index = .ok (some n) → d.status = 0 → Gives (.ancestorRequest p r (some d)) s (fun t => (∃ m ∈ t.out.sent, m = .forward
    n r) ∧ (t.out.resp.map (fun a => (a.status, a.data))) = some (.ok, d.data) ∧ NoStore s t)) ∧
  (∀ (s : State) (p : DictPath) (index sub : Nat) (ps : List Nat) (l : UnitLoc), s.running = true → s.objAbsent index sub = false →
    unitLoc index = some l → aboveDie l = true → (objSpec index sub).isSome = true → s.servedBy index = .ok none → Gives (.aggregateRead
    p index sub ps) s (fun t => t.remote.aggregates = s.remote.aggregates ++
    [{ id := s.remote.nextAggregate, reader := p, index := index, sub := sub, latchFtc := BitVec.ofNat 64 (s.ftc + msUnits 1), asked := ps.eraseDups, replied := [], deadline := s.now + msUnits 11 }]
    ∧ (∀ n ∈ ps, Msg.counterAsk n index sub ((s.ftc + msUnits 1) % 2 ^ 64) ∈ t.out.sent) ∧ Keeps [.remote] s t)) ∧
  (∀ (s : State) (id package : Nat) (value : Word64) (a : AggRead), s.running = true → s.remote.aggregates.find? (fun x => decide (x.id =
    id)) = some a → package ∈ a.asked → package ∉ a.replied → package ∉ a.discarded → a.replied.length < 1024 → a.replied.length + 1 +
    a.discarded.length ≠ a.asked.length → Gives (.aggregateReply id package value) s (fun t => t.remote.aggregates =
    s.remote.aggregates.map (fun x => if x.id = id then { a with replied := a.replied ++ [package], sum := a.sum + value } else x) ∧
    Keeps [.remote] s t)) ∧
  (∀ (s : State) (id : Nat) (a : AggRead), s.running = true → s.remote.aggregates.find? (fun x => decide (x.id = id)) = some a →
    a.discarded = [] → Gives (.aggregateWindowEnd id) s (fun t => t.remote.aggregates = s.remote.aggregates.filter (fun x => decide (x.id
    ≠ a.id)) ∧ t.num (256 * a.index + 0x0D) 0 = a.asked.length - a.replied.length ∧ Msg.sideband a.reader (natLe 8 a.sum.toNat) ∈
    t.out.sent ∧ Keeps [.remote, .dict, .now, .ftc] s t)) ∧
  (∀ (s : State) (p : DictPath) (index sub : Nat), s.running = true → Gives (.counterLatch p index sub) s (fun t => s.ftc < t.ftc ∨ 32 *
    (s.tick + 1) ≤ s.ftc ∧ t.out.resp.isSome = true ∧ NoStore s t))

/-- A PUT, an ATOMIC and the put of a PUT_NOTIFY to REGION 0x2 write exactly the bytes that TARGET and the operand length name, and no
  byte of the pool; a GET and a FETCH_OP answer the bytes that stood there. The notify of a PUT_NOTIFY and a NOTIFY add OPERAND1 to VALUE
  of the sync object and count one change, when no earlier operation of the issuer is open. The premise BytesCanonical is the invariant
  of BytesStayCanonical, and the canonical sync store that of StoresStayCanonical. -/
def Obligations.RemoteOperationsTakeEffect : Prop :=
  (∀ (s : State) (o : Operation), Arrives s o 0xFF → addressBad { o with op := 1 } = none → addrRegion o.req.target = 2 → s.sramBad
    o.req.issuer o.req.tc (addrOffset o.req.target) o.length = none → BytesCanonical s → Gives (.put o) s (fun t => StoresSram s t
    (addrOffset o.req.target) (sliceB o.data 0 o.length) ∧ (o.req.posted = false → Answered t o.req 1 (fun r => decide (r.status = .ok))
    = true) ∧ Keeps [.sram, .remote, .dict, .freeCounter] s t)) ∧
  (∀ (s : State) (o : Operation), Arrives s o 0xFF → o.req.posted = false → addressBad { o with op := 2 } = none → addrRegion
    o.req.target = 2 → s.sramBad o.req.issuer o.req.tc (addrOffset o.req.target) o.length = none → (o.req.fromDzm = true ∨ o.req.localA =
    0 ∨ s.isHere (addrNode o.req.localA) = false) → Gives (.get o) s (fun t => Answered t o.req 2 (fun r => decide (r.status = .ok ∧
    r.data = s.sramBytes (addrOffset o.req.target) o.length)) = true ∧ NoStore s t ∧ Keeps [.remote, .dict, .freeCounter] s t)) ∧
  (∀ (s : State) (o : Operation) (f : AtomicOp), Arrives s o 0xE0 → addressBad { o with op := 3 } = none → AtomicOp.ofCode
    (o.req.md.toNat % 16) = some f → addrRegion o.req.target = 2 → s.sramBad o.req.issuer o.req.tc (addrOffset o.req.target) (if
    o.req.md.getLsbD 4 then 8 else 4) = none → BytesCanonical s → Gives (.atomic o) s (fun t => StoresSram s t (addrOffset o.req.target)
    (natLe (if o.req.md.getLsbD 4 then 8 else 4) (atomicValue f (if o.req.md.getLsbD 4 then 8 else 4) (BitVec.ofNat 64 (leNat
    (s.sramBytes (addrOffset o.req.target) (if o.req.md.getLsbD 4 then 8 else 4)))) o.operand1 o.operand2).toNat) ∧ Keeps [.sram,
    .remote, .dict, .freeCounter] s t)) ∧
  (∀ (s : State) (o : Operation) (f : AtomicOp), Arrives s o 0xE0 → o.req.posted = false → addressBad { o with op := 4 } = none →
    AtomicOp.ofCode (o.req.md.toNat % 16) = some f → addrRegion o.req.target = 2 → s.sramBad o.req.issuer o.req.tc (addrOffset
    o.req.target) (if o.req.md.getLsbD 4 then 8 else 4) = none → (o.req.fromDzm = true ∨ o.req.localA = 0 ∨ s.isHere (addrNode
    o.req.localA) = false) → BytesCanonical s → Gives (.fetchOp o) s (fun t => Answered t o.req 4 (fun r => decide (r.status = .ok ∧
    r.result = BitVec.ofNat 64 (leNat (s.sramBytes (addrOffset o.req.target) (if o.req.md.getLsbD 4 then 8 else 4))))) = true ∧
    StoresSram s t (addrOffset o.req.target) (natLe (if o.req.md.getLsbD 4 then 8 else 4) (atomicValue f (if o.req.md.getLsbD 4 then 8
    else 4) (BitVec.ofNat 64 (leNat (s.sramBytes (addrOffset o.req.target) (if o.req.md.getLsbD 4 then 8 else 4)))) o.operand1
    o.operand2).toNat))) ∧
  (∀ (s : State) (o : Operation), Arrives s o 0xFF → addressBad { o with op := 6 } = none → addrRegion o.req.target = 2 → s.sramBad
    o.req.issuer o.req.tc (addrOffset o.req.target) o.length = none → s.syncOpen o.sync o.req.issuer = true → (∀ x ∈
    s.remote.outstanding, x.issuer ≠ o.req.issuer) → s.remote.notifies = [] → BytesCanonical s → Store.wf ({} : SyncObj) s.remote.syncs =
    true → Gives (.putNotify o) s (fun t => StoresSram s t (addrOffset o.req.target) (sliceB o.data 0 o.length) ∧ (t.sync o.sync).value =
    (s.sync o.sync).value + o.operand1 ∧ (t.sync o.sync).changeCount = (s.sync o.sync).changeCount + 1 ∧ Keeps [.sram, .remote, .dict,
    .freeCounter] s t)) ∧
  (∀ (s : State) (o : Operation), Arrives s o 0xFE → addressBad { o with op := 5 } = none → s.syncOpen (addrOffset o.req.target / 64)
    o.req.issuer = true → addrOffset o.req.target % 64 = 0 → (∀ x ∈ s.remote.outstanding, x.issuer ≠ o.req.issuer) → s.remote.notifies =
    [] → Store.wf ({} : SyncObj) s.remote.syncs = true → Gives (.notify o) s (fun t => (t.sync (addrOffset o.req.target / 64)).value =
    (s.sync (addrOffset o.req.target / 64)).value + o.operand1 ∧ (t.sync (addrOffset o.req.target / 64)).changeCount = (s.sync
    (addrOffset o.req.target / 64)).changeCount + 1 ∧ Keeps [.remote, .dict, .freeCounter] s t))

/-- A fence that no open operation of its issuer holds back answers with STICKY_STATUS and clears it (R64, R91). A WAIT whose condition
  holds answers OK; one whose condition does not is put at the end of the wait table. A wait that reaches its timeout answers E_TIMEOUT
  and leaves the table (R96). A completed dump forms a fault record (R98). A write of wait_break with the number of the latest dump ends
  every wait of the dump (R99). No byte is stored but those of the dump a timeout writes. -/
def Obligations.FencesWaitsAndNops : Prop :=
  (∀ (s : State) (o : Operation), s.running = true → o.req.fromDzm = false → o.req.viaPort = none → o.req.md &&& 0xFE = 0 → o.req.tc ≠ 0
    → o.req.posted = false → o.length = 0 → (∀ x ∈ s.remote.outstanding, x.issuer ≠ o.req.issuer) → Store.wf ({} : QueueCtx)
    s.remote.queues = true → Store.wf ({} : EndpointPosted) s.remote.endpoints = true → Gives (.fence o) s (fun t => Answered t o.req 7
    (fun r => decide (r.status = (s.stickyOf o.req.issuer).1)) = true ∧ (t.stickyOf o.req.issuer).1 = .ok ∧ Keeps [.remote, .dict,
    .freeCounter] s t)) ∧
  (∀ (s : State) (o : Operation), Arrives s o 0xFC → o.req.posted = false → addressBad { o with op := 8 } = none → s.syncOpen (addrOffset
    o.req.target / 64) o.req.issuer = true → addrOffset o.req.target % 64 = 0 → s.remote.waits.length < 32768 → condHolds (waitCond
    o.req.md) (s.sync (addrOffset o.req.target / 64)).value o.operand1 = true → Gives (.wait o) s (fun t => Answered t o.req 8 (fun r =>
    decide (r.status = .ok)) = true ∧ Keeps [.remote, .dict, .freeCounter] s t)) ∧
  (∀ (s : State) (o : Operation), Arrives s o 0xFC → o.req.posted = false → addressBad { o with op := 8 } = none → s.syncOpen (addrOffset
    o.req.target / 64) o.req.issuer = true → addrOffset o.req.target % 64 = 0 → s.remote.waits.length < 32768 → condHolds (waitCond
    o.req.md) (s.sync (addrOffset o.req.target / 64)).value o.operand1 = false → Gives (.wait o) s (fun t => t.remote.waits =
    s.remote.waits ++
    [{ id := s.remote.nextWait, obj := addrOffset o.req.target / 64, cond := waitCond o.req.md, operand := o.operand1, req := o.req, since := BitVec.ofNat 64 s.ftc, deadline := s.now + usUnits (s.waitLimit o.length (addrOffset o.req.target / 64)) }]
    ∧ Keeps [.remote] s t)) ∧
  (∀ (s : State) (o : Operation), s.running = true → o.req.fromDzm = false → o.req.viaPort = none → o.req.md = 0 → o.req.tc ≠ 0 →
    o.req.posted = false → o.length = 0 → Gives (.nop o) s (fun t => Answered t o.req 9 (fun r => decide (r.status = .ok)) = true ∧ Keeps
    [.remote, .dict, .freeCounter] s t)) ∧
  (∀ (s : State) (id : Nat) (w : Wait), s.running = true → s.remote.waits.find? (fun x => decide (x.id = id)) = some w → Gives
    (.waitTimeout id) s (fun t => Answered t w.req 8 (fun r => decide (r.status = .timeout)) = true ∧ t.remote.waits.all (fun x => decide
    (x.id ≠ id)) = true ∧ w.deadline ≤ t.now ∧ Keeps [.remote, .dict, .freeCounter, .mem, .pool, .now, .ftc] s t)) ∧
  (∀ (s : State) (d : WaitDump), s.running = true → s.remote.dump = some d → d.writing = true → Gives (.waitDumpComplete) s (fun t =>
    t.remote.dump = some { d with writing := false } ∧ (∃ r ∈ t.faults.log, r.code = 0x31 ∧ r.arg = BitVec.ofNat 32 d.number) ∧ Keeps
    [.remote, .dict, .mgmt, .faults, .freeCounter] s t)) ∧
  (∀ (s : State) (p : DictPath) (n : Nat) (d : WaitDump), s.running = true → n ≠ 0 → n = s.num O.waitDumpsWritten 0 → s.remote.dump =
    some d → Gives (.waitBreak p n) s (fun t => t.remote.waits.all (fun w => !(d.waits.contains w.id)) = true ∧ Answers t .ok ∧ Keeps
    [.remote, .dict, .mgmt, .freeCounter] s t))

/-- A commit of the current epoch moves COMMIT of a SUBMIT or UNIT_WORK queue (R79). Enable of a queue whose context allows it makes it
  ENABLED with COMMIT, HEAD and DONE 0; disable begins to drain it, and once nothing is in flight it is DISABLED (R78). A flush raises
  EPOCH, moves HEAD to COMMIT and leaves the queue FLUSHING until DONE reaches that COMMIT (R87). Clear sticky clears STICKY_STATUS
  (R91). A put to word 0 of the context of a DISABLED queue writes RING_BASE (R75). -/
def Obligations.QueueDoorbellsTakeEffect : Prop :=
  (∀ (s : State) (i : Issuer) (q : Nat) (v : Word64), s.running = true → (s.queue q).owner = i.tenant → (s.queue q).kind ≠ .completion →
    bitsOf v.toNat 63 40 = 0 → bitsOf v.toNat 39 32 = (s.queue q).epoch.toNat → BitVec.ofNat 32 v.toNat ≠ (s.queue q).commit →
    (BitVec.ofNat 32 v.toNat - (s.queue q).commit).toNat ≤ 2 ^ 31 → (BitVec.ofNat 32 v.toNat - (s.queue q).head).toNat ≤ (s.queue
    q).slots → Store.wf ({} : QueueCtx) s.remote.queues = true → Gives (.qdbCommit i q v) s (fun t => (t.queue q).commit = BitVec.ofNat
    32 v.toNat ∧ Answers t .ok ∧ Keeps [.remote, .dict, .freeCounter] s t)) ∧
  (∀ (s : State) (i : Issuer) (q : Nat), s.running = true → (s.queue q).owner = i.tenant → (s.queue q).state = .disabled → s.canEnable
    (s.queue q) = true → Store.wf ({} : QueueCtx) s.remote.queues = true → Gives (.queueEnable i q) s (fun t => (t.queue q).state =
    .enabled ∧ (t.queue q).commit = 0 ∧ (t.queue q).head = 0 ∧ (t.queue q).done = 0 ∧ Answers t .ok ∧ Keeps [.remote, .dict,
    .freeCounter] s t)) ∧
  (∀ (s : State) (i : Issuer) (q : Nat), s.running = true → (s.queue q).owner = i.tenant → (s.queue q).state ≠ .disabled → Store.wf ({} :
    QueueCtx) s.remote.queues = true → Gives (.queueDisable i q) s (fun t => (t.queue q).draining = true ∧ (t.queue q).state = (s.queue
    q).state ∧ Answers t .ok ∧ Keeps [.remote, .dict, .freeCounter] s t)) ∧
  (∀ (s : State) (q : Nat), s.running = true → (s.queue q).draining = true → (s.queue q).started = [] → (s.queue q).finished = [] →
    Store.wf ({} : QueueCtx) s.remote.queues = true → Gives (.queueDisableDrained q) s (fun t => t.queue q =
    { s.queue q with state := .disabled, draining := false } ∧ Keeps [.remote] s t)) ∧
  (∀ (s : State) (i : Issuer) (q : Nat), s.running = true → (s.queue q).owner = i.tenant → (s.queue q).kind ≠ .completion → (s.queue
    q).state = .enabled → Store.wf ({} : QueueCtx) s.remote.queues = true → Gives (.queueFlush i q) s (fun t => (t.queue q).state =
    .flushing ∧ (t.queue q).epoch = (s.queue q).epoch + 1 ∧ (t.queue q).head = (s.queue q).commit ∧ Answers t .ok ∧ Keeps [.remote,
    .dict, .freeCounter] s t)) ∧
  (∀ (s : State) (q : Nat), s.running = true → (s.queue q).state = .flushing → (s.queue q).flushEnd = some (s.queue q).done → Gives
    (.queueFlushEnd q) s (fun t => t.queue q = { s.queue q with state := .enabled, flushEnd := none } ∧ Keeps [.remote] s t)) ∧
  (∀ (s : State) (i : Issuer) (q : Nat), s.running = true → (s.queue q).owner = i.tenant → Store.wf ({} : QueueCtx) s.remote.queues =
    true → Gives (.clearSticky i q) s (fun t => (t.queue q).sticky = .ok ∧ Answers t .ok ∧ Keeps [.remote, .dict, .freeCounter] s t)) ∧
  (∀ (s : State) (i : Issuer) (q : Nat) (v : Word64), s.running = true → (s.queue q).owner = i.tenant → (s.queue q).state = .disabled →
    Store.wf ({} : QueueCtx) s.remote.queues = true → Gives (.queueContextPut i q 0 v) s (fun t => t.queue q =
    { s.queue q with ringBase := v } ∧ Answers t .ok ∧ Keeps [.remote, .freeCounter] s t))

/-- The next item of a queue that may start is issued as its descriptor says and HEAD passes it (R81, R84). A failed read of the ring
  puts the queue in ERROR (R85). The entry of the next item in order is written once it has finished, and DONE passes it. A failure of a
  posted operation sets STICKY_STATUS when it was 0x00 (R91); a posted operation that outlives its lifetime is open no more (R90). A
  response to a started item finishes it. -/
def Obligations.ItemsAndResponsesTakeEffect : Prop :=
  (∀ (s : State) (q : Nat) (remote bs : List Byte), s.running = true → (s.queue q).mayStart = true → (s.queue q).kind = .submit →
    (s.fetchBytes { src := .queue q, tenant := (s.queue q).owner, node := s.nodeId } 1 ((s.queue q).slotAddr (s.queue q).head) 64
    remote).toOption = some bs → bitsOf (fieldAt bs 0 8) 23 16 = (s.queue q).head.toNat % 256 → descBad (descOp
    { src := .queue q, tenant := (s.queue q).owner, node := s.nodeId } (s.queue q).head.toNat bs) bs = none → (s.queue q).cqNone = false
    → s.slotFree (s.queue q) = true → bitAt (fieldAt bs 0 8) 12 = false → bitAt (fieldAt bs 0 8) 13 = false → takesData (bitsOf (fieldAt
    bs 0 8) 7 0) = false → Store.wf ({} : QueueCtx) s.remote.queues = true → Gives (.itemStart q remote) s (fun t => (t.queue q).head =
    (s.queue q).head + 1 ∧ Msg.operation (descOp { src := .queue q, tenant := (s.queue q).owner, node := s.nodeId } (s.queue
    q).head.toNat bs) ∈ t.out.sent ∧ Keeps [.remote, .pool, .dict] s t)) ∧
  (∀ (s : State) (q : Nat) (st : Status), s.running = true → (s.queue q).mayStart = true → s.slotFree (s.queue q) = true → Store.wf ({} :
    QueueCtx) s.remote.queues = true → Gives (.queueRingReadFail q st) s (fun t => (t.queue q).state = .error ∧ (t.queue q).head =
    (s.queue q).head + 1 ∧ Keeps [.remote] s t)) ∧
  (∀ (s : State) (q : Nat) (f : FinishedItem), s.running = true → s.florets.items.all (fun x => decide (x.queue ≠ q)) = true → (s.queue
    q).finished = [f] → f.item = (s.queue q).done.toNat → (s.queue q).cqNone = true → Store.wf ({} : QueueCtx) s.remote.queues = true →
    Gives (.itemComplete q) s (fun t => (t.queue q).done = (s.queue q).done + 1 ∧ (t.queue q).finished = [] ∧ Keeps [.remote] s t)) ∧
  (∀ (s : State) (i : Issuer) (n : Word32) (r : Response) (o : OutOp), s.running = true → r.status ≠ .ok → s.outOp i true n.toNat = some
    o → o.epoch = s.issuerEpoch i → (s.stickyOf i).1 = .ok → ((issuerQueue i).isSome ||
    (match i.src with | .endpoint _ => true | _ => false)) = true → NoneWaits s → Store.wf ({} : QueueCtx) s.remote.queues = true →
    Store.wf ({} : EndpointPosted) s.remote.endpoints = true → Gives (.postedFailureReport i n r) s (fun t => (t.stickyOf i).1 = r.status
    ∧ (t.stickyOf i).2 = n ∧ t.outOp i true n.toNat = none)) ∧
  (∀ (s : State) (i : Issuer) (n : Word32) (o : OutOp), s.running = true → s.outOp i true n.toNat = some o → Gives (.postedTimeout i n) s
    (fun t => t.outOp i true n.toNat = none ∧ o.issuedAt + o.lifetime ≤ t.now)) ∧
  (∀ (s : State) (i : Issuer) (id epoch : Nat) (defer : Reason) (r : Response) (q : Nat) (x : StartedItem), s.running = true → epoch =
    s.issuerEpoch i → i.src = .queue q → (s.queue q).started = [x] → x.item = id → x.op ≠ 0x10 → Store.wf ({} : QueueCtx) s.remote.queues
    = true → Gives (.responseReceive i id epoch defer r) s (fun t => (t.queue q).started = [] ∧ Keeps [.remote, .dict, .mem, .sram,
    .pool, .freeCounter] s t))

/-- A load of an EMPTY slot whose image passes every check takes its claims and is in progress; one whose image cannot be read ends with
  its STATUS (R108, R109). The end of the copies makes the slot LOADED (R108). The last dynamic item of a claimed cluster drains it
  (R110). An arm or resume that the coordinator's checks accept is in progress with its start FTC (R124); a member answers the check of
  its own slot and is ARMED when it passes (R125); a reply is kept; an arm whose members all answered OK ends with OK (R126). At the
  start FTC an ARMED slot runs (R127). Plan reset leaves the slot LOADED at plan tick 0; unload leaves it EMPTY (R141). -/
def Obligations.PlanLoadAndArm : Prop :=
  (∀ (s : State) (p : DictPath) (slot : Nat), s.running = true → (s.slot slot).state = .empty → (s.slot slot).busy = none → Store.wf ({}
    : PlanSlot) s.plans.slots = true → Gives (.planLoad p slot) s (fun t => (∀ b u, s.planBytes slot = .ok b → imageHeaderBad b = none →
    directoryBad b = none → s.planSigned b = true → s.sectionsBad slot b = none → State.takeClaims slot (parseImage b) (parseImage
    b).claims 0 (s.begin.takeArm (.dict p) (R.plnSlotCmd slot)).2 = .ok u → (t.slot slot).busy = some .load ∧ (t.slot slot).image = some
    (parseImage b)) ∧ (∀ st, s.planBytes slot = .error st → (t.slot slot).lastStatus = st) ∧ Answers t .ok)) ∧
  (∀ (s : State) (slot : Nat) (i : PlanImage), s.running = true → (s.slot slot).image = some i → (s.slot slot).busy = some .load →
    (s.begin.copyProgram slot i).toOption.isSome = true → Gives (.planLoadCopyDone slot .ok) s (fun t => (t.slot slot).state = .loaded ∧
    (t.slot slot).busy = none ∧ (t.slot slot).lastStatus = .ok)) ∧
  (∀ (s : State) (cl n : Nat), s.running = true → Store.read none s.florets.staticBy cl = some n → s.runsItems cl = false → (s.slot
    n).undrained.contains cl = true → (s.slot n).image.isSome = true → Gives (.clusterDrained cl) s (fun t => t.slot n =
    { s.slot n with undrained := (s.slot n).undrained.filter (fun c => decide (c ≠ cl)), drained := ((s.slot n).undrained.filter (fun c => decide (c ≠ cl))).isEmpty }
    ∧ Keeps [.plans] s t)) ∧
  (∀ (s : State) (p : DictPath) (slot : Nat), s.running = true → (s.slot slot).state = .loaded → (s.slot slot).busy = none → s.armBad
    slot (s.slot slot) = none → Store.wf ({} : PlanSlot) s.plans.slots = true → Gives (.planArm p slot) s (fun t => (t.slot slot).busy =
    some .arm ∧ Answers t .ok ∧ NoStore s t ∧ Keeps [.plans, .power, .mgmt, .freeCounter] s t)) ∧
  (∀ (s : State) (p : DictPath) (slot : Nat), s.running = true → (s.slot slot).state = .halted → (s.slot slot).resumable = true → (s.slot
    slot).busy = none → s.armBad slot (s.slot slot) = none → Store.wf ({} : PlanSlot) s.plans.slots = true → Gives (.planResume p slot) s
    (fun t => (t.slot slot).busy = some .resume ∧ Answers t .ok ∧ Keeps [.plans, .power, .mgmt, .freeCounter] s t)) ∧
  (∀ (s : State) (planId : Word64) (start fromNode : Nat) (resume : Bool), s.running = true → Gives (.armRequest planId start fromNode
    resume) s (fun t => Msg.armReply fromNode planId (s.armCheck planId resume).1 ∈ t.out.sent ∧ ((s.armCheck planId resume).1 = .ok →
    (t.slot (s.armCheck planId resume).2).state = .armed ∧ (t.slot (s.armCheck planId resume).2).startFtc = start) ∧ Keeps [.plans,
    .power] s t)) ∧
  (∀ (s : State) (planId : Word64) (member : Nat) (st : Status) (n : Nat), s.running = true → s.slotOf planId = some n → ((s.slot n).busy
    = some .arm ∨ (s.slot n).busy = some .resume) → (s.slot n).armReplies.any (fun r => decide (r.1 = member)) = false → Gives (.armReply
    planId member st) s (fun t => (t.slot n).armReplies = (s.slot n).armReplies ++ [(member, st)] ∧ Keeps [.plans] s t)) ∧
  (∀ (s : State) (slot : Nat) (i : PlanImage), s.running = true → s.power.containWaits = [] → (s.slot slot).image = some i → (s.slot
    slot).busy = some .arm → (s.slot slot).armReplies.all (fun r => decide (r.2 = .ok)) = true → (List.range i.members.length).all (fun m
    => (s.slot slot).armReplies.any (fun r => decide (r.1 = m))) = true → Gives (.armDecision slot) s (fun t => (t.slot slot).busy = none
    ∧ (t.slot slot).lastStatus = .ok ∧ (t.slot slot).state = (s.slot slot).state)) ∧
  (∀ (s : State) (slot : Nat) (i : PlanImage), s.running = true → (s.slot slot).state = .armed → (s.slot slot).image = some i → Gives
    (.planStart slot) s (fun t => (t.slot slot).state = .running ∧ (t.slot slot).planTick = (if (s.slot slot).armResume then (s.slot
    slot).haltRotation * i.rotationTicks else 0) ∧ Keeps [.plans, .now, .ftc, .dict] s t)) ∧
  (∀ (s : State) (p : DictPath) (slot : Nat) (i : PlanImage), s.running = true → planRefusal .reset (s.slot slot) = none → (s.slot
    slot).image = some i → ((s.begin.takeArm (.dict p) (R.plnSlotCmd slot)).2.copyProgram slot i).toOption.isSome = true → Gives
    (.planReset p slot) s (fun t => (t.slot slot).state = .loaded ∧ (t.slot slot).planTick = 0 ∧ Answers t .ok)) ∧
  (∀ (s : State) (p : DictPath) (slot : Nat) (i : PlanImage), s.running = true → planRefusal .unload (s.slot slot) = none → (s.slot
    slot).image = some i → Store.wf ({} : PlanSlot) s.plans.slots = true → Gives (.planUnload p slot) s (fun t => t.slot slot = {} ∧
    Answers t .ok))

/-- A fabric tick of a RUNNING slot with nothing pending performs one plan tick (R115, R116), and so does the tick after a quantum's
  last. Reported lateness beyond what stands is kept (R128). A slip token not seen before and not covered is put in its place among the
  pending ones (R131, R132); a halt token not seen before is known (R136). Halt commands issue a halt that is known here (R136, R137);
  the halt that takes effect first stops the slot (R138). Completed Rotations halt the slot with cause COMPLETE (R138). Disarm takes an
  arm in progress back (R126). No containment waits for a halt. -/
def Obligations.PlanRunsSlipsAndHalts : Prop :=
  (∀ (s : State) (a : Access) (slot : Nat) (i : PlanImage), s.running = true → s.power.containWaits = [] → (s.takeArm a (R.plnSlotCmd
    slot)).1 = true → planRefusal .disarm (s.slot slot) = none → (s.slot slot).image = some i → Store.wf ({} : PlanSlot) s.plans.slots =
    true → Gives (.planDisarm a slot) s (fun t => (t.slot slot).busy = none ∧ (t.slot slot).lastStatus = .ok ∧ Answers t .ok)) ∧
  (∀ (s : State) (planId : Word64) (n : Nat) (i : PlanImage), s.running = true → s.power.containWaits = [] → s.slotOf planId = some n →
    (s.slot n).image = some i → (s.slot n).state = .armed → s.ftc + 32 * i.slipHorizon < (s.slot n).startFtc → Gives (.disarmReceived
    planId) s (fun t => (t.slot n).state = (if (s.slot n).armResume then .halted else .loaded) ∧ Keeps [.plans, .power] s t)) ∧
  (∀ (s : State) (a : Access) (slot : Nat), s.running = true → (s.takeArm a (R.plnSlotCmd slot)).1 = true → planRefusal .haltBoundary
    (s.slot slot) = none → (s.slot slot).image.isSome = true → Gives (.planHaltBoundary a slot) s (fun t => (t.slot slot).halts.any (fun
    h => decide (h.cause = .commandBoundary) && h.byRotation) = true ∧ Answers t .ok)) ∧
  (∀ (s : State) (a : Access) (slot : Nat), s.running = true → (s.takeArm a (R.plnSlotCmd slot)).1 = true → planRefusal .haltNow (s.slot
    slot) = none → (s.slot slot).image.isSome = true → Gives (.planHaltNow a slot) s (fun t => (t.slot slot).halts.any (fun h => decide
    (h.cause = .commandNow) && !h.byRotation) = true ∧ Answers t .ok)) ∧
  (∀ (s : State) (slot : Nat) (slacks : List (Nat × Int)) (i : PlanImage), s.running = true → s.power.containWaits = [] → (s.slot
    slot).image = some i → (s.slot slot).state = .running → (s.slot slot).remaining = 0 → (s.slot slot).pending = [] → (s.slot
    slot).halts = [] → (i.rotationCount = 0 ∨ (s.slot slot).planTick < i.rotationCount * i.rotationTicks) → Gives (.planTick slot slacks)
    s (fun t => (t.slot slot).planTick = (s.slot slot).planTick + 1 ∧ (t.slot slot).lastTick = (s.slot slot).lastTick + 1)) ∧
  (∀ (s : State) (slot : Nat) (i : PlanImage), s.running = true → s.power.containWaits = [] → (s.slot slot).image = some i → (s.slot
    slot).state = .slipping → (s.slot slot).remaining = 0 → (s.slot slot).pending = [] → (s.slot slot).halts = [] → (i.rotationCount = 0
    ∨ (s.slot slot).planTick < i.rotationCount * i.rotationTicks) → Gives (.slipQuantumEnd slot) s (fun t => (t.slot slot).state =
    .running ∧ (t.slot slot).planTick = (s.slot slot).planTick + 1)) ∧
  (∀ (s : State) (slot : Nat) (i : PlanImage), s.running = true → s.power.containWaits = [] → (s.slot slot).image = some i → ((s.slot
    slot).state = .running ∨ (s.slot slot).state = .slipping) → i.rotationCount ≠ 0 → i.rotationCount * i.rotationTicks ≤ (s.slot
    slot).planTick → Gives (.rotationsComplete slot) s (fun t => (t.slot slot).state = .halted ∧ (t.slot slot).haltCause = .complete ∧
    (t.slot slot).resumable = false)) ∧
  (∀ (s : State) (slot : Nat) (cause : SlipCause) (ticks : Nat) (origin : Word32), s.running = true → ((s.slot slot).state = .running ∨
    (s.slot slot).state = .slipping) → (s.slot slot).lateness < ticks → Gives (.latenessReport slot cause ticks origin) s (fun t =>
    (t.slot slot).lateness = ticks ∧ (t.slot slot).lateCause = cause ∧ Keeps [.plans] s t)) ∧
  (∀ (s : State) (port : Option Nat) (k : SlipToken) (n : Nat), s.running = true → s.slotOf k.planId = some n → (s.slot n).image.isSome =
    true → (s.slot n).seen.contains (k.member, k.seq) = false → planLive (s.slot n).state = true → s.ftc + 64 ≤ k.whenFtc → (s.slot
    n).halts = [] → (s.slot n).pending.any (fun p => decide (p.whenFtc = k.whenFtc)) = false → (s.slot n).activeTick ≠ some (k.whenFtc /
    32) → Gives (.slipToken port k) s (fun t => (t.slot n).pending = insertToken k (s.slot n).pending ∧ (t.slot n).seen = (s.slot n).seen
    ++ [(k.member, k.seq)] ∧ Keeps [.plans] s t)) ∧
  (∀ (s : State) (port : Option Nat) (k : HaltToken) (n : Nat) (i : PlanImage), s.running = true → s.power.containWaits = [] → s.slotOf
    k.planId = some n → (s.slot n).image = some i → (s.slot n).seen.contains (k.member, k.seq) = false → planLive (s.slot n).state = true
    → (if k.byRotation then decide (k.whenVal * i.rotationTicks < (s.slot n).planTick) else decide (k.whenVal < s.ftc)) = false → Gives
    (.haltToken port k) s (fun t => (t.slot n).halts = (s.slot n).halts ++ [k] ∧ (t.slot n).state = (s.slot n).state ∧ Keeps [.plans] s
    t)) ∧
  (∀ (s : State) (slot : Nat) (i : PlanImage) (k : HaltToken), s.running = true → s.power.containWaits = [] → (s.slot slot).image = some
    i → (s.slot slot).winner i.rotationTicks s.tick (s.slot slot).halts = some k → planLive (s.slot slot).state = true → (k.byRotation =
    false ∨ k.whenVal * i.rotationTicks ≤ (s.slot slot).planTick) → Gives (.haltTakesEffect slot) s (fun t => ((t.slot slot).state =
    .halted ∨ (t.slot slot).state = .faulted) ∧ (t.slot slot).halts = []))

/-- A sync interval passes and what was heard in it is forgotten (R121). A TIME flit on an up Opvitik port is heard: its timestamps are
  kept to be echoed (R475). The holdover limit makes the package UNLOCKED (R122, R123). A write of ftc_set at the root, with no live plan
  and a multiple of 32, sets FTC and nothing else of the data path (R144). -/
def Obligations.FabricTimeKeepsStep : Prop :=
  (∀ (s : State), s.running = true → Gives (.timeSyncInterval) s (fun t => t.now = s.now + usUnits (s.num O.syncIntervalUs 8) ∧
    t.plans.ports = [] ∧ Keeps [.plans, .dict, .now, .ftc] s t)) ∧
  (∀ (s : State) (port txFtc echoTx echoRx arrival : Nat), s.running = true → s.linkUp port = true → Gives (.timeFlit port txFtc echoTx
    echoRx arrival) s (fun t => (Store.read ({} : Port) t.links.ports port).timeRx = (txFtc, arrival) ∧ (Store.read ({} : TimePort)
    t.plans.ports port).heard = true ∧ Keeps [.plans, .links, .dict, .ftc] s t)) ∧
  (∀ (s : State), s.running = true → s.power.containWaits = [] → s.plans.lock = .holdover → Gives (.holdoverExpiry) s (fun t =>
    t.plans.lock = .unlocked ∧ s.plans.holdoverAt + usUnits (s.num O.holdoverLimitUs 1000) ≤ t.now)) ∧
  (∀ (s : State) (p : DictPath) (v : Word64), s.running = true → v.toNat % 32 = 0 → s.nodeId = s.timeRoot → s.timeRoot ≠ 0xFFFF →
    s.liveSlots = [] → Gives (.ftcSet p v) s (fun t => t.ftc = v.toNat ∧ Answers t .ok ∧ Keeps [.ftc, .mgmt, .freeCounter] s t))

/-- A scalar slot that issues, with its operation code and its reserved field zero, sets SD to the result of its operation on SA and SB,
  or on SA and the sign-extended immediate, as the registers stood at the bundle's issue (R151, R161, R162); a write to s0 is discarded
  (R146). A load reads little-endian bytes at SA + IMM30; a store writes the low bytes of SD there and nothing else. No other register of
  the Floret and no other part but its counters changes. SD has not been written by an earlier slot of the bundle. -/
def Obligations.ScalarSlotResults : Prop :=
  (∀ (s : State) (i : SlotIn) (w : BitVec 48), Issues s i → sopIs w 1 = true → w.extractLsb' 0 25 = 0 → (sSd w = 0 ∨ (s.slotWrote
    i).contains (.scalar (sSd w)) = false) → Gives (.sAdd i w) s (fun t => SetsScalar s t i (sSd w) ((s.slotRegs i).s (sSa w) +
    (s.slotRegs i).s (sSb w)))) ∧
  (∀ (s : State) (i : SlotIn) (w : BitVec 48), Issues s i → sopIs w 2 = true → w.extractLsb' 0 25 = 0 → (sSd w = 0 ∨ (s.slotWrote
    i).contains (.scalar (sSd w)) = false) → Gives (.sSub i w) s (fun t => SetsScalar s t i (sSd w) ((s.slotRegs i).s (sSa w) -
    (s.slotRegs i).s (sSb w)))) ∧
  (∀ (s : State) (i : SlotIn) (w : BitVec 48), Issues s i → sopIs w 3 = true → w.extractLsb' 0 25 = 0 → (sSd w = 0 ∨ (s.slotWrote
    i).contains (.scalar (sSd w)) = false) → Gives (.sMul i w) s (fun t => SetsScalar s t i (sSd w) ((s.slotRegs i).s (sSa w) *
    (s.slotRegs i).s (sSb w)))) ∧
  (∀ (s : State) (i : SlotIn) (w : BitVec 48), Issues s i → sopIs w 4 = true → w.extractLsb' 0 25 = 0 → (sSd w = 0 ∨ (s.slotWrote
    i).contains (.scalar (sSd w)) = false) → Gives (.sAnd i w) s (fun t => SetsScalar s t i (sSd w) ((s.slotRegs i).s (sSa w) &&&
    (s.slotRegs i).s (sSb w)))) ∧
  (∀ (s : State) (i : SlotIn) (w : BitVec 48), Issues s i → sopIs w 5 = true → w.extractLsb' 0 25 = 0 → (sSd w = 0 ∨ (s.slotWrote
    i).contains (.scalar (sSd w)) = false) → Gives (.sOr i w) s (fun t => SetsScalar s t i (sSd w) ((s.slotRegs i).s (sSa w) |||
    (s.slotRegs i).s (sSb w)))) ∧
  (∀ (s : State) (i : SlotIn) (w : BitVec 48), Issues s i → sopIs w 6 = true → w.extractLsb' 0 25 = 0 → (sSd w = 0 ∨ (s.slotWrote
    i).contains (.scalar (sSd w)) = false) → Gives (.sXor i w) s (fun t => SetsScalar s t i (sSd w) ((s.slotRegs i).s (sSa w) ^^^
    (s.slotRegs i).s (sSb w)))) ∧
  (∀ (s : State) (i : SlotIn) (w : BitVec 48), Issues s i → sopIs w 7 = true → w.extractLsb' 0 25 = 0 → (sSd w = 0 ∨ (s.slotWrote
    i).contains (.scalar (sSd w)) = false) → Gives (.shl i w) s (fun t => SetsScalar s t i (sSd w) ((s.slotRegs i).s (sSa w) <<<
    (((s.slotRegs i).s (sSb w)).toNat % 64)))) ∧
  (∀ (s : State) (i : SlotIn) (w : BitVec 48), Issues s i → sopIs w 8 = true → w.extractLsb' 0 25 = 0 → (sSd w = 0 ∨ (s.slotWrote
    i).contains (.scalar (sSd w)) = false) → Gives (.shr i w) s (fun t => SetsScalar s t i (sSd w) ((s.slotRegs i).s (sSa w) >>>
    (((s.slotRegs i).s (sSb w)).toNat % 64)))) ∧
  (∀ (s : State) (i : SlotIn) (w : BitVec 48), Issues s i → sopIs w 9 = true → w.extractLsb' 0 25 = 0 → (sSd w = 0 ∨ (s.slotWrote
    i).contains (.scalar (sSd w)) = false) → Gives (.sar i w) s (fun t => SetsScalar s t i (sSd w) (((s.slotRegs i).s (sSa
    w)).sshiftRight (((s.slotRegs i).s (sSb w)).toNat % 64)))) ∧
  (∀ (s : State) (i : SlotIn) (w : BitVec 48), Issues s i → sopIs w 10 = true → w.extractLsb' 0 25 = 0 → (sSd w = 0 ∨ (s.slotWrote
    i).contains (.scalar (sSd w)) = false) → Gives (.slt i w) s (fun t => SetsScalar s t i (sSd w) (if ((s.slotRegs i).s (sSa w)).slt
    ((s.slotRegs i).s (sSb w)) then 1 else 0))) ∧
  (∀ (s : State) (i : SlotIn) (w : BitVec 48), Issues s i → sopIs w 11 = true → w.extractLsb' 0 25 = 0 → (sSd w = 0 ∨ (s.slotWrote
    i).contains (.scalar (sSd w)) = false) → Gives (.sltu i w) s (fun t => SetsScalar s t i (sSd w) (if ((s.slotRegs i).s (sSa w)).toNat
    < ((s.slotRegs i).s (sSb w)).toNat then 1 else 0))) ∧
  (∀ (s : State) (i : SlotIn) (w : BitVec 48), Issues s i → sopIs w 32 = true → (sSd w = 0 ∨ (s.slotWrote i).contains (.scalar (sSd w)) =
    false) → Gives (.addi i w) s (fun t => SetsScalar s t i (sSd w) ((s.slotRegs i).s (sSa w) + imm30 w))) ∧
  (∀ (s : State) (i : SlotIn) (w : BitVec 48), Issues s i → sopIs w 33 = true → (sSd w = 0 ∨ (s.slotWrote i).contains (.scalar (sSd w)) =
    false) → Gives (.addhi i w) s (fun t => SetsScalar s t i (sSd w) ((s.slotRegs i).s (sSa w) + (imm30 w <<< 30)))) ∧
  (∀ (s : State) (i : SlotIn) (w : BitVec 48), Issues s i → sopIs w 34 = true → (sSd w = 0 ∨ (s.slotWrote i).contains (.scalar (sSd w)) =
    false) → Gives (.shli i w) s (fun t => SetsScalar s t i (sSd w) ((s.slotRegs i).s (sSa w) <<< ((imm30 w).toNat % 64)))) ∧
  (∀ (s : State) (i : SlotIn) (w : BitVec 48) (off : Nat), Issues s i → sopIs w 48 = true → (sSd w = 0 ∨ (s.slotWrote i).contains
    (.scalar (sSd w)) = false) → s.localOffset i.floret ((s.slotRegs i).s (sSa w) + imm30 w).toNat 8 8 = .ok off → Gives (.ld64 i w) s
    (fun t => SetsScalar s t i (sSd w) (BitVec.ofNat 64 (leNat (s.sramBytes off 8))))) ∧
  (∀ (s : State) (i : SlotIn) (w : BitVec 48) (off : Nat), Issues s i → sopIs w 50 = true → (sSd w = 0 ∨ (s.slotWrote i).contains
    (.scalar (sSd w)) = false) → s.localOffset i.floret ((s.slotRegs i).s (sSa w) + imm30 w).toNat 4 4 = .ok off → Gives (.ld32 i w) s
    (fun t => SetsScalar s t i (sSd w) (BitVec.ofNat 64 (leNat (s.sramBytes off 4))))) ∧
  (∀ (s : State) (i : SlotIn) (w : BitVec 48) (off : Nat), Issues s i → sopIs w 49 = true → s.localOffset i.floret ((s.slotRegs i).s (sSa
    w) + imm30 w).toNat 8 8 = .ok off → BytesCanonical s → Gives (.st64 i w) s (fun t => StoresSram s t off (natLe 8 ((s.slotRegs i).s
    (sSd w)).toNat) ∧ SetsRegs s t i [.sram] (fun r => r))) ∧
  (∀ (s : State) (i : SlotIn) (w : BitVec 48) (off : Nat), Issues s i → sopIs w 51 = true → s.localOffset i.floret ((s.slotRegs i).s (sSa
    w) + imm30 w).toNat 4 4 = .ok off → BytesCanonical s → Gives (.st32 i w) s (fun t => StoresSram s t off (natLe 4 ((s.slotRegs i).s
    (sSd w)).toNat) ∧ SetsRegs s t i [.sram] (fun r => r))) ∧
  (∀ (s : State) (i : SlotIn) (w : BitVec 48), Issues s i → sopIs w 52 = true → (sSd w = 0 ∨ (s.slotWrote i).contains (.scalar (sSd w)) =
    false) → Gives (.rdstat i w) s (fun t => SetsScalar s t i (sSd w) (BitVec.ofNat 64 (s.tag i.floret ((imm30 w).toNat % 64)).word))) ∧
  (∀ (s : State) (i : SlotIn) (w : BitVec 48), Issues s i → sopIs w 53 = true → (sSd w = 0 ∨ (s.slotWrote i).contains (.scalar (sSd w)) =
    false) → Gives (.rdres i w) s (fun t => SetsScalar s t i (sSd w) ((s.tag i.floret ((imm30 w).toNat % 64)).result))) ∧
  (∀ (s : State) (i : SlotIn) (w : BitVec 48), Issues s i → sopIs w 54 = true → (sSd w = 0 ∨ (s.slotWrote i).contains (.scalar (sSd w)) =
    false) → Gives (.rdflags i w) s (fun t => SetsScalar s t i (sSd w) ((s.slotRegs i).flags.setWidth 64))) ∧
  (∀ (s : State) (i : SlotIn) (w : BitVec 48), Issues s i → sopIs w 56 = true → (sSd w = 0 ∨ (s.slotWrote i).contains (.scalar (sSd w)) =
    false) → Gives (.rdtick i w) s (fun t => SetsScalar s t i (sSd w) (BitVec.ofNat 64 (if (s.staticSlotOf (i.floret / 16)).isSome then
    s.planTickOf i.floret else s.ftc / 32)))) ∧
  (∀ (s : State) (i : SlotIn) (w : BitVec 48), Issues s i → sopIs w 0x37 = true → Gives (.clrflags i w) s (fun t => SetsRegs s t i []
    (fun r => { r with flags := 0 })))

/-- A vector slot that issues, with its operation code and a defined RND, computes lane by lane on the registers as they stood at the
  bundle's issue; lanes whose mask bit is 0 keep VD (R158, R159). A reduction writes the tree sum or maximum of the active lanes to every
  lane (R160). VCMP writes a mask register; VSEL selects by the mask. No other register of the Floret changes, but FLAGS where VLOG2
  meets a negative lane. The destination has not been written by an earlier slot of the bundle. -/
def Obligations.VectorSlotResults : Prop :=
  (∀ (s : State) (i : SlotIn) (w : BitVec 64), Issues s i → (vSlot w).vop = 1 → (vSlot w).rnd ≠ 3 → (s.slotWrote i).contains (.vector
    (vSlot w).vd) = false → Gives (.vadd i w) s (fun t => SetsVector s t i (vSlot w).vd (maskedLanes ((s.slotRegs i).m (vSlot w).mask)
    ((s.slotRegs i).v (vSlot w).vd) ((List.range 64).map (fun n => fp32Add (laneOf ((s.slotRegs i).v (vSlot w).va) n) (laneOf
    ((s.slotRegs i).v (vSlot w).vb) n)))))) ∧
  (∀ (s : State) (i : SlotIn) (w : BitVec 64), Issues s i → (vSlot w).vop = 2 → (vSlot w).rnd ≠ 3 → (s.slotWrote i).contains (.vector
    (vSlot w).vd) = false → Gives (.vsub i w) s (fun t => SetsVector s t i (vSlot w).vd (maskedLanes ((s.slotRegs i).m (vSlot w).mask)
    ((s.slotRegs i).v (vSlot w).vd) ((List.range 64).map (fun n => fp32Sub (laneOf ((s.slotRegs i).v (vSlot w).va) n) (laneOf
    ((s.slotRegs i).v (vSlot w).vb) n)))))) ∧
  (∀ (s : State) (i : SlotIn) (w : BitVec 64), Issues s i → (vSlot w).vop = 3 → (vSlot w).rnd ≠ 3 → (s.slotWrote i).contains (.vector
    (vSlot w).vd) = false → Gives (.vmul i w) s (fun t => SetsVector s t i (vSlot w).vd (maskedLanes ((s.slotRegs i).m (vSlot w).mask)
    ((s.slotRegs i).v (vSlot w).vd) ((List.range 64).map (fun n => fp32Mul (laneOf ((s.slotRegs i).v (vSlot w).va) n) (laneOf
    ((s.slotRegs i).v (vSlot w).vb) n)))))) ∧
  (∀ (s : State) (i : SlotIn) (w : BitVec 64), Issues s i → (vSlot w).vop = 4 → (vSlot w).rnd ≠ 3 → (s.slotWrote i).contains (.vector
    (vSlot w).vd) = false → Gives (.vfma i w) s (fun t => SetsVector s t i (vSlot w).vd (maskedLanes ((s.slotRegs i).m (vSlot w).mask)
    ((s.slotRegs i).v (vSlot w).vd) ((List.range 64).map (fun n => fp32Fma (laneOf ((s.slotRegs i).v (vSlot w).va) n) (laneOf
    ((s.slotRegs i).v (vSlot w).vb) n) (laneOf ((s.slotRegs i).v (vSlot w).vc) n)))))) ∧
  (∀ (s : State) (i : SlotIn) (w : BitVec 64), Issues s i → (vSlot w).vop = 5 → (vSlot w).rnd ≠ 3 → (s.slotWrote i).contains (.vector
    (vSlot w).vd) = false → Gives (.vmax i w) s (fun t => SetsVector s t i (vSlot w).vd (maskedLanes ((s.slotRegs i).m (vSlot w).mask)
    ((s.slotRegs i).v (vSlot w).vd) ((List.range 64).map (fun n => fp32Max (laneOf ((s.slotRegs i).v (vSlot w).va) n) (laneOf
    ((s.slotRegs i).v (vSlot w).vb) n)))))) ∧
  (∀ (s : State) (i : SlotIn) (w : BitVec 64), Issues s i → (vSlot w).vop = 6 → (vSlot w).rnd ≠ 3 → (s.slotWrote i).contains (.vector
    (vSlot w).vd) = false → Gives (.vmin i w) s (fun t => SetsVector s t i (vSlot w).vd (maskedLanes ((s.slotRegs i).m (vSlot w).mask)
    ((s.slotRegs i).v (vSlot w).vd) ((List.range 64).map (fun n => fp32Min (laneOf ((s.slotRegs i).v (vSlot w).va) n) (laneOf
    ((s.slotRegs i).v (vSlot w).vb) n)))))) ∧
  (∀ (s : State) (i : SlotIn) (w : BitVec 64), Issues s i → (vSlot w).vop = 7 → (vSlot w).rnd ≠ 3 → (s.slotWrote i).contains (.vector
    (vSlot w).vd) = false → Gives (.vexp2 i w) s (fun t => SetsVector s t i (vSlot w).vd (maskedLanes ((s.slotRegs i).m (vSlot w).mask)
    ((s.slotRegs i).v (vSlot w).vd) ((List.range 64).map (fun n => fp32Exp2 (laneOf ((s.slotRegs i).v (vSlot w).va) n)))))) ∧
  (∀ (s : State) (i : SlotIn) (w : BitVec 64), Issues s i → (vSlot w).vop = 9 → (vSlot w).rnd ≠ 3 → (s.slotWrote i).contains (.vector
    (vSlot w).vd) = false → Gives (.vrcp i w) s (fun t => SetsVector s t i (vSlot w).vd (maskedLanes ((s.slotRegs i).m (vSlot w).mask)
    ((s.slotRegs i).v (vSlot w).vd) ((List.range 64).map (fun n => fp32Rcp (laneOf ((s.slotRegs i).v (vSlot w).va) n)))))) ∧
  (∀ (s : State) (i : SlotIn) (w : BitVec 64), Issues s i → (vSlot w).vop = 10 → (vSlot w).rnd ≠ 3 → (s.slotWrote i).contains (.vector
    (vSlot w).vd) = false → Gives (.vrsqrt i w) s (fun t => SetsVector s t i (vSlot w).vd (maskedLanes ((s.slotRegs i).m (vSlot w).mask)
    ((s.slotRegs i).v (vSlot w).vd) ((List.range 64).map (fun n => fp32Rsqrt (laneOf ((s.slotRegs i).v (vSlot w).va) n)))))) ∧
  (∀ (s : State) (i : SlotIn) (w : BitVec 64), Issues s i → (vSlot w).vop = 20 → (vSlot w).rnd ≠ 3 → (s.slotWrote i).contains (.vector
    (vSlot w).vd) = false → Gives (.viadd i w) s (fun t => SetsVector s t i (vSlot w).vd (maskedLanes ((s.slotRegs i).m (vSlot w).mask)
    ((s.slotRegs i).v (vSlot w).vd) ((List.range 64).map (fun n => (laneOf ((s.slotRegs i).v (vSlot w).va) n) + (laneOf ((s.slotRegs i).v
    (vSlot w).vb) n)))))) ∧
  (∀ (s : State) (i : SlotIn) (w : BitVec 64), Issues s i → (vSlot w).vop = 21 → (vSlot w).rnd ≠ 3 → (s.slotWrote i).contains (.vector
    (vSlot w).vd) = false → Gives (.vand i w) s (fun t => SetsVector s t i (vSlot w).vd (maskedLanes ((s.slotRegs i).m (vSlot w).mask)
    ((s.slotRegs i).v (vSlot w).vd) ((List.range 64).map (fun n => (laneOf ((s.slotRegs i).v (vSlot w).va) n) &&& (laneOf ((s.slotRegs
    i).v (vSlot w).vb) n)))))) ∧
  (∀ (s : State) (i : SlotIn) (w : BitVec 64), Issues s i → (vSlot w).vop = 22 → (vSlot w).rnd ≠ 3 → (s.slotWrote i).contains (.vector
    (vSlot w).vd) = false → Gives (.vor i w) s (fun t => SetsVector s t i (vSlot w).vd (maskedLanes ((s.slotRegs i).m (vSlot w).mask)
    ((s.slotRegs i).v (vSlot w).vd) ((List.range 64).map (fun n => (laneOf ((s.slotRegs i).v (vSlot w).va) n) ||| (laneOf ((s.slotRegs
    i).v (vSlot w).vb) n)))))) ∧
  (∀ (s : State) (i : SlotIn) (w : BitVec 64), Issues s i → (vSlot w).vop = 23 → (vSlot w).rnd ≠ 3 → (s.slotWrote i).contains (.vector
    (vSlot w).vd) = false → Gives (.vxor i w) s (fun t => SetsVector s t i (vSlot w).vd (maskedLanes ((s.slotRegs i).m (vSlot w).mask)
    ((s.slotRegs i).v (vSlot w).vd) ((List.range 64).map (fun n => (laneOf ((s.slotRegs i).v (vSlot w).va) n) ^^^ (laneOf ((s.slotRegs
    i).v (vSlot w).vb) n)))))) ∧
  (∀ (s : State) (i : SlotIn) (w : BitVec 64), Issues s i → (vSlot w).vop = 8 → (vSlot w).rnd ≠ 3 → (s.slotWrote i).contains (.vector
    (vSlot w).vd) = false → Gives (.vlog2 i w) s (fun t => SetsRegs s t i [] (fun r =>
    { r with vregs := Store.write (List.replicate 64 0) r.vregs (vSlot w).vd (maskedLanes ((s.slotRegs i).m (vSlot w).mask) ((s.slotRegs i).v (vSlot w).vd) (((s.slotRegs i).v (vSlot w).va).map fp32Log2)), flags := r.flags ||| (if (List.range 64).any (fun n => ((s.slotRegs i).m (vSlot w).mask).getLsbD n && below0 (laneOf ((s.slotRegs i).v (vSlot w).va) n)) then BitVec.ofNat 5 flInvalid else 0) }))) ∧
  (∀ (s : State) (i : SlotIn) (w : BitVec 64), Issues s i → (vSlot w).vop = 11 → (vSlot w).rnd ≠ 3 → (s.slotWrote i).contains (.vector
    (vSlot w).vd) = false → Gives (.vredsum i w) s (fun t => SetsVector s t i (vSlot w).vd (List.replicate 64 ((treeN fp32Add 6
    (maskedLanes ((s.slotRegs i).m (vSlot w).mask) (List.replicate 64 0) ((s.slotRegs i).v (vSlot w).va))).headD 0)))) ∧
  (∀ (s : State) (i : SlotIn) (w : BitVec 64), Issues s i → (vSlot w).vop = 12 → (vSlot w).rnd ≠ 3 → (s.slotWrote i).contains (.vector
    (vSlot w).vd) = false → Gives (.vredmax i w) s (fun t => SetsVector s t i (vSlot w).vd (List.replicate 64 ((treeN fp32Max 6
    (maskedLanes ((s.slotRegs i).m (vSlot w).mask) (List.replicate 64 0xFF800000) ((s.slotRegs i).v (vSlot w).va))).headD 0)))) ∧
  (∀ (s : State) (i : SlotIn) (w : BitVec 64), Issues s i → (vSlot w).vop = 0xD → (vSlot w).rnd ≠ 3 → (vSlot w).vd % 8 ≠ 0 → (s.slotWrote
    i).contains (.mask ((vSlot w).vd % 8)) = false → Gives (.vcmp i w) s (fun t => SetsRegs s t i [] (fun r =>
    { r with masks := Store.write 0 r.masks ((vSlot w).vd % 8) (maskOf (fun n => if ((s.slotRegs i).m (vSlot w).mask).getLsbD n then vcmpHolds (w.extractLsb' 0 2).toNat (laneOf ((s.slotRegs i).v (vSlot w).va) n) (laneOf ((s.slotRegs i).v (vSlot w).vb) n) else ((s.slotRegs i).m ((vSlot w).vd % 8)).getLsbD n)) }))) ∧
  (∀ (s : State) (i : SlotIn) (w : BitVec 64), Issues s i → (vSlot w).vop = 14 → (vSlot w).rnd ≠ 3 → (s.slotWrote i).contains (.vector
    (vSlot w).vd) = false → Gives (.vsel i w) s (fun t => SetsVector s t i (vSlot w).vd (maskedLanes ((s.slotRegs i).m (vSlot w).mask)
    ((s.slotRegs i).v (vSlot w).vb) ((s.slotRegs i).v (vSlot w).va)))) ∧
  (∀ (s : State) (i : SlotIn) (w : BitVec 64), Issues s i → (vSlot w).vop = 19 → (vSlot w).rnd ≠ 3 → (s.slotWrote i).contains (.vector
    (vSlot w).vd) = false → Gives (.vbcast i w) s (fun t => SetsVector s t i (vSlot w).vd (maskedLanes ((s.slotRegs i).m (vSlot w).mask)
    ((s.slotRegs i).v (vSlot w).vd) (List.replicate 64 (((s.slotRegs i).s (vSlot w).sx).setWidth 32)))))

/-- VCVT widens lanes, or narrows the 64 lanes of VA to the 256 bytes of a format, raises the sticky FLAGS and counts a stochastic draw
  (R159, R166-R172). VLD reads 256 bytes; VST and VSTSCALE store the format's bytes and the two scale bytes of VD and nothing else. MMA
  adds the products of its arrays to their tiles (R154-R157); TILE_READ, TILE_WRITE and TILE_ZERO move and clear tiles. Registers written
  have not been written by an earlier slot of the bundle. -/
def Obligations.ConversionLoadStoreAndMatrixResults : Prop :=
  (∀ (s : State) (i : SlotIn) (w : BitVec 64), Issues s i → (vSlot w).vop = 15 → (vSlot w).rnd ≠ 3 → (s.slotWrote i).contains (.vector
    (vSlot w).vd) = false → fmtOk (vSlot w).fmt = true → w.getLsbD 0 = true → Gives (.vcvt i w) s (fun t => SetsVector s t i (vSlot w).vd
    (maskedLanes ((s.slotRegs i).m (vSlot w).mask) ((s.slotRegs i).v (vSlot w).vd) (widened (vSlot w).fmt (bytesOfLanes ((s.slotRegs i).v
    (vSlot w).va)))))) ∧
  (∀ (s : State) (i : SlotIn) (w : BitVec 64), Issues s i → (vSlot w).vop = 15 → (vSlot w).rnd ≠ 3 → (s.slotWrote i).contains (.vector
    (vSlot w).vd) = false → fmtOk (vSlot w).fmt = true → w.getLsbD 0 = false → (vSlot w).mask = 0 → Gives (.vcvt i w) s (fun t =>
    SetsRegs s t i [] (fun r =>
    { r with vregs := Store.write (List.replicate 64 0) r.vregs (vSlot w).vd (lanesOf (narrowed (vSlot w).fmt (rndOf (vSlot w).rnd (s.seedOf i.floret) (s.slotRegs i)) (vSlot w).sat ((s.slotRegs i).v (vSlot w).va)).1), flags := r.flags ||| BitVec.ofNat 5 (narrowed (vSlot w).fmt (rndOf (vSlot w).rnd (s.seedOf i.floret) (s.slotRegs i)) (vSlot w).sat ((s.slotRegs i).v (vSlot w).va)).2, srCount := if (vSlot w).rnd = 2 then r.srCount + 1 else r.srCount }))) ∧
  (∀ (s : State) (i : SlotIn) (w : BitVec 64) (off : Nat), Issues s i → (vSlot w).vop = 16 → (vSlot w).rnd ≠ 3 → (s.slotWrote i).contains
    (.vector (vSlot w).vd) = false → s.localOffset i.floret (localSum ((s.slotRegs i).s (vSlot w).sx) (vSlot w).imm) 256 64 = .ok off →
    Gives (.vld i w) s (fun t => SetsVector s t i (vSlot w).vd (maskedLanes ((s.slotRegs i).m (vSlot w).mask) ((s.slotRegs i).v (vSlot
    w).vd) (lanesOf (s.sramBytes off 256))))) ∧
  (∀ (s : State) (i : SlotIn) (w : BitVec 64) (off : Nat), Issues s i → (vSlot w).vop = 0x11 → (vSlot w).rnd ≠ 3 → fmtOk (vSlot w).fmt =
    true → s.localOffset i.floret (localSum ((s.slotRegs i).s (vSlot w).sx) (vSlot w).imm) ((bytesOfLanes ((s.slotRegs i).v (vSlot
    w).vd)).take (storeBytes (vSlot w).fmt)).length 16 = .ok off → BytesCanonical s → Gives (.vst i w) s (fun t => StoresSram s t off
    ((bytesOfLanes ((s.slotRegs i).v (vSlot w).vd)).take (storeBytes (vSlot w).fmt)) ∧ SetsRegs s t i [.sram] (fun r => r))) ∧
  (∀ (s : State) (i : SlotIn) (w : BitVec 64) (off : Nat), Issues s i → (vSlot w).vop = 0x12 → (vSlot w).rnd ≠ 3 → fmtOk (vSlot w).fmt =
    true → s.localOffset i.floret (localSum ((s.slotRegs i).s (vSlot w).sx) (vSlot w).imm) ((bytesOfLanes ((s.slotRegs i).v (vSlot
    w).vd)).drop 254).length 1 = .ok off → BytesCanonical s → Gives (.vstscale i w) s (fun t => StoresSram s t off ((bytesOfLanes
    ((s.slotRegs i).v (vSlot w).vd)).drop 254) ∧ SetsRegs s t i [.sram] (fun r => r))) ∧
  (∀ (s : State) (i : SlotIn) (w : BitVec 64), Issues s i → (mSlot w).mop = 1 → w.extractLsb' 0 18 = 0 → (mSlot w).share ≠ 3 → (mSlot
    w).acc < 2 → (mSlot w).tile / 2 + (mSlot w).count ≤ 32 → fmtOk (mSlot w).fmtA = true → fmtOk (mSlot w).fmtB = true → mmaBad (mSlot w)
    (s.slotRegs i) = false → ((s.slotRegs i).s (mSlot w).ss).toNat % 16 = 0 → (List.range (mSlot w).count).all (fun n => (s.mmaRead
    i.floret (s.slotRegs i) (mSlot w) n).toOption.isSome) = true → (mSlot w).tiles.all (fun n => !((s.slotWrote i).contains (.tile n))) =
    true → Gives (.mma i w) s (fun t => (∃ ts fl, s.mmaArrays i.floret (s.slotRegs i) (mSlot w) (List.range (mSlot w).count) = .ok (ts,
    fl) ∧ SetsRegs s t i [] (fun r =>
    { r with tiles := ts.foldl (fun (m : Store Tile) e => Store.write ({} : Tile) m e.1 e.2) r.tiles, flags := r.flags ||| BitVec.ofNat 5 fl })))) ∧
  (∀ (s : State) (i : SlotIn) (w : BitVec 64), Issues s i → (mSlot w).mop = 2 → w.extractLsb' 0 18 = 0 → (mSlot w).share ≠ 3 → (mSlot
    w).acc < 2 → (mSlot w).tile / 2 + (mSlot w).count ≤ 32 → (mSlot w).count = 1 → (s.slotWrote i).contains (.vector (mSlot w).sa) =
    false → Gives (.tileRead i w) s (fun t => SetsVector s t i (mSlot w).sa ((s.slotRegs i).t (mSlot w).tile).cells)) ∧
  (∀ (s : State) (i : SlotIn) (w : BitVec 64), Issues s i → (mSlot w).mop = 3 → w.extractLsb' 0 18 = 0 → (mSlot w).share ≠ 3 → (mSlot
    w).acc < 2 → (mSlot w).tile / 2 + (mSlot w).count ≤ 32 → (s.slotWrote i).contains (.tile (mSlot w).tile) = false → Gives (.tileWrite
    i w) s (fun t => SetsRegs s t i [] (fun r =>
    { r with tiles := Store.write ({} : Tile) r.tiles (mSlot w).tile { isInt := tagOf (mSlot w), cells := (s.slotRegs i).v (mSlot w).sa } }))) ∧
  (∀ (s : State) (i : SlotIn) (w : BitVec 64), Issues s i → (mSlot w).mop = 4 → w.extractLsb' 0 18 = 0 → (mSlot w).share ≠ 3 → (mSlot
    w).acc < 2 → (mSlot w).tile / 2 + (mSlot w).count ≤ 32 → (mSlot w).tiles.all (fun n => !((s.slotWrote i).contains (.tile n))) = true
    → Gives (.tileZero i w) s (fun t => SetsRegs s t i [] (fun r =>
    { r with tiles := (mSlot w).tiles.foldl (fun (m : Store Tile) n => Store.write ({} : Tile) m n { isInt := tagOf (mSlot w) }) r.tiles })))

/-- A branch taken makes the bundle IMM14 bundles from the current one the next; one not taken leaves the next bundle (R165). WAITOP,
  WAITALL, TICKWAIT and DRAIN stall the Floret on what they name; BARRIER of a static cluster waits while not every Floret of its mask
  has arrived; SETSTREAM sets STREAM and clears SR_COUNT. TRAP is a program error: a task or an entry of a plan ends with it, and of an
  entry a fault record is kept. The end of a task or entry waits for its outstanding operations and then leaves the Floret idle (R150).
  -/
def Obligations.ControlSlotEffects : Prop :=
  (∀ (s : State) (i : SlotIn) (w : BitVec 24), Issues s i → copIs w 1 = true → Gives (.br i w) s (fun t => (t.floret i.floret).next =
    (((s.slotBundle i : Int) + 32 * cImm w) % 2 ^ 32).toNat ∧ SetsRegs s t i [] (fun r => r))) ∧
  (∀ (s : State) (i : SlotIn) (w : BitVec 24), Issues s i → copIs w 2 = true → Gives (.bz i w) s (fun t => (t.floret i.floret).next = (if
    (s.slotRegs i).s (cReg w) = 0 then (((s.slotBundle i : Int) + 32 * cImm w) % 2 ^ 32).toNat else s.slotNext i) ∧ SetsRegs s t i []
    (fun r => r))) ∧
  (∀ (s : State) (i : SlotIn) (w : BitVec 24), Issues s i → copIs w 3 = true → Gives (.bnz i w) s (fun t => (t.floret i.floret).next =
    (if (s.slotRegs i).s (cReg w) ≠ 0 then (((s.slotBundle i : Int) + 32 * cImm w) % 2 ^ 32).toNat else s.slotNext i) ∧ SetsRegs s t i []
    (fun r => r))) ∧
  (∀ (s : State) (i : SlotIn) (w : BitVec 24), Issues s i → copIs w 4 = true → Gives (.waitop i w) s (fun t => (t.floret i.floret).stall
    = some (.tag (w.extractLsb' 0 6).toNat) ∧ SetsRegs s t i [] (fun r => r))) ∧
  (∀ (s : State) (i : SlotIn) (w : BitVec 24), Issues s i → copIs w 5 = true → Gives (.waitall i w) s (fun t => (t.floret i.floret).stall
    = some .all ∧ SetsRegs s t i [] (fun r => r))) ∧
  (∀ (s : State) (i : SlotIn) (w : BitVec 24), Issues s i → copIs w 6 = true → (s.staticSlotOf (i.floret / 16)).isSome = true →
    Store.read none s.florets.barriers (16 * (i.floret / 16) + (w.extractLsb' 0 4).toNat) = none → (List.range 16).all (fun j =>
    !((((s.slotRegs i).s (cReg w)).extractLsb' 0 16).getLsbD j) || [i.floret % 16].contains j) = false → Gives (.barrier i w) s (fun t =>
    (t.floret i.floret).stall = some (.barrier (w.extractLsb' 0 4).toNat) ∧ Store.read none t.florets.barriers (16 * (i.floret / 16) +
    (w.extractLsb' 0 4).toNat) = some { mask := ((s.slotRegs i).s (cReg w)).extractLsb' 0 16, arrived := [i.floret % 16] } ∧ Keeps
    [.florets, .dict] s t)) ∧
  (∀ (s : State) (i : SlotIn) (w : BitVec 24), Issues s i → copIs w 7 = true → (s.staticSlotOf (i.floret / 16)).isSome = true → Gives
    (.tickwait i w) s (fun t => (t.floret i.floret).stall = some (.tick ((s.slotRegs i).s (cReg w))) ∧ SetsRegs s t i [] (fun r => r))) ∧
  (∀ (s : State) (i : SlotIn) (w : BitVec 24), Issues s i → copIs w 8 = true → Gives (.setstream i w) s (fun t => SetsRegs s t i [] (fun
    r => { r with stream := (s.slotRegs i).s (cReg w), srCount := 0 }))) ∧
  (∀ (s : State) (i : SlotIn) (w : BitVec 24) (id k : Nat), Issues s i → copIs w 9 = true → (s.floret i.floret).work = some (.task id k)
    → Store.wf ({} : Floret) s.florets.florets = true → Gives (.trap i w) s (fun t => (t.floret i.floret).work = none ∧ NoStore s t)) ∧
  (∀ (s : State) (i : SlotIn) (w : BitVec 24) (n k : Nat), Issues s i → copIs w 9 = true → (s.floret i.floret).work = some (.entry n k) →
    Store.wf ({} : Floret) s.florets.florets = true → Gives (.trap i w) s (fun t => (t.floret i.floret).work = none ∧ (∃ r ∈
    t.faults.log, r.code = 0x20 ∧ r.status = .floret 0 ∧ r.arg = BitVec.ofNat 32 n))) ∧
  (∀ (s : State) (f : Nat), s.running = true → (s.floret f).work.isSome = true → (s.floret f).ending = false → s.stalled f = false →
    Gives (.drain f) s (fun t => t.floret f = { s.floret f with stall := some .drain } ∧ Keeps [.florets] s t)) ∧
  (∀ (s : State) (f : Nat), s.running = true → (s.floret f).work.isSome = true → s.stalled f = false → (s.floret f).anyBusy = true →
    Gives (.taskEnd f) s (fun t => t.floret f = { s.floret f with ending := true } ∧ Keeps [.florets] s t)) ∧
  (∀ (s : State) (f : Nat), s.running = true → (s.floret f).work.isSome = true → s.stalled f = false → (s.floret f).anyBusy = false →
    Store.wf ({} : Floret) s.florets.florets = true → Gives (.taskEnd f) s (fun t => (t.floret f).work = none ∧ (t.floret f).regs =
    (s.floret f).regs))

/-- An X slot without COMMIT that waits for nothing issues its operation under its tag, which is busy until the answer (R163, R164); so
  does a descriptor in local memory by DESC. A RUN_TASK item joins the items with the unit it waits at (R177); a quadrant that can split
  an item does so (R178); an idle Floret takes the lowest task of its cluster's pool (R179). An arbiter that holds no grant and is not
  frozen grants a waiting requester with tickets (R184); a wait beyond WAIT_LIMIT sets STARVE (R186); a SEED write loads the LFSR (R187).
  -/
def Obligations.FloretOperationsAndTasks : Prop :=
  (∀ (s : State) (i : SlotIn) (w : BitVec 48), Issues s i → (xSlot w).xop ≠ 0 → (xSlot w).xop ≤ 9 → w.getLsbD 6 = false → (xSlot w).tc ≠
    0 → (xSlot w).commit = false → (xSlot w).posted = false → (s.xOperation i.floret (s.slotRegs i) (xSlot w)).toOption.isSome = true →
    s.xWaits i.floret (xSlot w).tag false (xSlot w).fence = none → Gives (.xRemoteIssue i w) s (fun t => (t.tag i.floret (xSlot
    w).tag).busy = true ∧ t.out.sent.any (fun m =>
    match m with | .operation o => decide (o.op = (xSlot w).xop ∧ o.req.target = (s.slotRegs i).s (xSlot w).st ∧ o.req.seq = (xSlot w).tag ∧ o.req.issuer.src = .floret i.floret) | _ => false)
    = true ∧ NoStore s t ∧ Keeps [.florets, .dict, .remote, .freeCounter] s t)) ∧
  (∀ (s : State) (i : SlotIn) (w : BitVec 48) (bs : List Byte), Issues s i → (xSlot w).xop = 0x3E → w.getLsbD 6 = false → (xSlot
    w).commit = false → (s.localRead i.floret ((s.slotRegs i).s (xSlot w).sl).toNat 64 1).toOption = some bs → (descOp (s.floretIssuer
    i.floret) (xSlot w).tag bs).req.posted = false → descBad (descOp (s.floretIssuer i.floret) (xSlot w).tag bs) bs = none → takesData
    (bitsOf (fieldAt bs 0 8) 7 0) = false → s.xWaits i.floret (xSlot w).tag false ((xSlot w).fence || bitAt (fieldAt bs 0 8) 13) = none →
    Gives (.desc i w) s (fun t => (t.tag i.floret (xSlot w).tag).busy = true ∧ t.out.sent.any (fun m =>
    match m with | .operation o => decide (o.op = bitsOf (fieldAt bs 0 8) 7 0 ∧ o.req.target = BitVec.ofNat 64 (fieldAt bs 8 8) ∧ o.req.seq = (xSlot w).tag) | _ => false)
    = true ∧ Keeps [.florets, .dict, .remote] s t)) ∧
  (∀ (s : State) (q k : Nat) (o : Operation) (l : UnitLoc), s.running = true → (s.queue q).started.any (fun x => decide (x.item = k) &&
    decide (x.op = 0x10)) = true → s.florets.items.any (fun x => decide (x.queue = q) && decide (x.itemNo = k)) = false → unitLoc (q +
    0x8000) = some l → taskUnit l = true → unitQueue l = q → s.runTaskBad o.data = none → Gives (.runTask q k o) s (fun t =>
    t.florets.items.take s.florets.items.length = s.florets.items ∧ (t.florets.items.drop s.florets.items.length).map (fun x => (x.queue,
    x.itemNo, x.tenant, x.waitsAt, x.count, x.code)) = [(q, k, (s.queue q).owner, unitIndex l, fieldAt o.data 40 3, BitVec.ofNat 64
    (fieldAt o.data 8 8))] ∧ Keeps [.florets] s t)) ∧
  (∀ (s : State) (id q : Nat) (x : TaskItem), s.running = true → s.item id = some x → x.taken = some (.quadrant q) → x.split = false →
    x.count ≠ 0 → s.servingClusters x.tenant q ≠ [] → (s.servingClusters x.tenant q).any (fun c => decide (256 ≤ (s.tasksOf c).length)) =
    false → Gives (.taskSplit id) s (fun t => t.item id = some { x with split := true } ∧ Keeps [.florets] s t)) ∧
  (∀ (s : State) (f id k : Nat), s.running = true → s.takesNothing (floretLoc f) = false → s.takesNothing (clusterLoc (f / 16)) = false →
    s.staticSlotOf (f / 16) = none → (s.floret f).work = none → s.florets.items.any (fun x => decide (x.taken = some (.floret f)) &&
    x.nextAlone.isSome) = false → s.quotaFull f = false → lowestTask (s.tasksOf (f / 16)) = some (id, k) → (s.item id).isSome = true →
    Gives (.taskTake f) s (fun t => (t.floret f).work = some (.task id k) ∧ Keeps [.florets] s t)) ∧
  (∀ (s : State) (base : Nat) (ws : List Nat) (k : ArbKind), s.running = true → arbAt base = some k →
    (match k with | .millstone _ => false | _ => true) = true → s.arbGrant k = none → s.arbFrozen k = false → (List.range k.count).any
    (fun n => ws.contains n && decide (s.arbTickets k n ≠ 0)) = true → Store.wf none s.csr = true → Gives (.arbiterDraw base ws) s (fun t
    => (match t.arbGrant k with | some n => ws.contains n | none => false) = true ∧ Keeps [.csr] s t)) ∧
  (∀ (s : State) (base n : Nat) (k : ArbKind), s.running = true → arbAt base = some k → n < k.count → s.reg k.limitAt 0x1000 ≠ 0 → bitAt
    (s.reg (k.starveAt n).1 0) (k.starveAt n).2 = false → Store.wf none s.csr = true → Gives (.starvationFlag base n) s (fun t => bitAt
    (t.reg (k.starveAt n).1 0) (k.starveAt n).2 = true ∧ t.mgmt.eventSeq = s.mgmt.eventSeq + 1 ∧ Keeps [.csr, .dict, .remote, .mgmt,
    .freeCounter] s t)) ∧
  (∀ (s : State) (i : Issuer) (base : Nat) (v : Word32) (k : ArbKind), s.running = true → arbAt base = some k → s.arbPresent k = true →
    v.toNat < 65536 → v ≠ 0 → Store.wf none s.csr = true → Gives (.arbiterSeedWrite i base v) s (fun t => t.reg (base + 4) 0 = v.toNat ∧
    t.reg (base + 8) 0 = v.toNat ∧ Answers t .ok ∧ Keeps [.csr, .mgmt, .freeCounter] s t))

/-- OPEN of a FREE dynamic job with a record that passes gives it the next epoch, its tenant and its record, WAITING in an AIR mode and
  OPEN otherwise (R194, R196, R197). ABORT faults a live job; RELEASE frees a finished one but keeps its epoch. An accepted JOB_PUT of a
  REDUCE job marks its positions received (R198); a held one that reaches its limit answers E_TIMEOUT with CAPACITY (R199). The idle
  limit faults the job (R202). The exponent vector opens a WAITING job (R212). A summed input leaves the inputs and counts in its chunk
  (R210). Acknowledgements count down, and the last ends the job (R216). A unit starts the first job of its queue (R220); a stream GATHER
  is sorted (R219). -/
def Obligations.JobsTakeEffect : Prop :=
  (∀ (s : State) (o : Operation) (rc : List Byte), Arrives s o 0xF0 → s.endpointNode (addrNode o.req.target) = false → o.req.posted =
    false → addrRegion o.req.target = 0 → jobOffset o.req.target = 0 → o.length = 0 → jobNumber o.req.target < 3072 → (s.job (jobNumber
    o.req.target)).state = .free → o.req.localA.toNat % 64 = 0 → s.hcuRange o.req.issuer.tenant o.req.localA 256 = none → s.serviceRead
    (addrOffset o.req.localA) 256 o.req.issuer.tenant .get = .ok rc → s.openBad o.req.issuer.tenant { record := rc } = none → Gives
    (.jobOpen o) s (fun t => (t.job (jobNumber o.req.target)).state = (if (Job.kind { record := rc }) = 1 ∧ Job.air { record := rc } then
    .waiting else .opened) ∧ (t.job (jobNumber o.req.target)).epoch = nextEpoch (s.job (jobNumber o.req.target)).epoch ∧ (t.job
    (jobNumber o.req.target)).tenant = o.req.issuer.tenant ∧ (t.job (jobNumber o.req.target)).record = rc ∧ Answered t o.req o.op (fun r
    => decide (r.status = .ok ∧ r.result = BitVec.ofNat 64 (nextEpoch (s.job (jobNumber o.req.target)).epoch))) = true ∧ Keeps [.hcu,
    .remote, .pool, .dict, .freeCounter] s t)) ∧
  (∀ (s : State) (o : Operation), Arrives s o 0xF0 → s.endpointNode (addrNode o.req.target) = false → o.req.posted = false → addrRegion
    o.req.target = 0 → jobOffset o.req.target = 0 → o.length = 0 → o.req.localA = 0 → jobNumber o.req.target < 3072 → ((s.job (jobNumber
    o.req.target)).state = .waiting ∨ (s.job (jobNumber o.req.target)).state = .opened) → (s.job (jobNumber o.req.target)).tenant =
    o.req.issuer.tenant → Gives (.jobAbort o) s (fun t => (t.job (jobNumber o.req.target)).state = .faulted ∧ (t.job (jobNumber
    o.req.target)).status = (if o.operand1 = 0 then .flushed else statusOf (o.operand1.toNat % 256)) ∧ Answered t o.req o.op (fun r =>
    decide (r.status = .ok)) = true)) ∧
  (∀ (s : State) (o : Operation), Arrives s o 0xF0 → s.endpointNode (addrNode o.req.target) = false → o.req.posted = false → addrRegion
    o.req.target = 0 → jobOffset o.req.target = 0 → o.length = 0 → o.req.localA = 0 → jobNumber o.req.target < 3072 → ((s.job (jobNumber
    o.req.target)).state = .done ∨ (s.job (jobNumber o.req.target)).state = .faulted) → (s.job (jobNumber o.req.target)).tenant =
    o.req.issuer.tenant → Store.wf ({} : Job) s.hcu.jobs = true → Gives (.jobRelease o) s (fun t => t.job (jobNumber o.req.target) =
    { epoch := (s.job (jobNumber o.req.target)).epoch } ∧ Answered t o.req o.op (fun r => decide (r.status = .ok)) = true ∧ Keeps [.hcu,
    .remote, .dict, .freeCounter] s t)) ∧
  (∀ (s : State) (o : Operation) (port : Nat), Arrives s o 0xFF → s.endpointNode (addrNode o.req.target) = false → o.req.posted = false →
    zerosAt o.params 7 9 = true → fieldAt o.params 3 1 ≤ 6 → fieldAt o.params 6 1 < 32 → addrRegion o.req.target = 0 → o.length ≠ 0 →
    o.length ≤ 2 ^ 24 → (s.job (jobNumber o.req.target)).kind = 1 → s.putBad (jobNumber o.req.target) (heldOf s o (jobNumber
    o.req.target) port) = none → s.putShut (s.job (jobNumber o.req.target)) (heldOf s o (jobNumber o.req.target) port) = false →
    s.hcu.held.any (fun x => decide (x.job = jobNumber o.req.target) && decide (x.port = port)) = false → (s.job (jobNumber
    o.req.target)).ovfUsed + (((s.job (jobNumber o.req.target)).shares (fieldAt o.params 3 1) (jobOffset o.req.target) o.data).map (fun x
    => if (s.job (jobNumber o.req.target)).ready x.1 x.2.1 then 0 else ceilDiv x.2.2.length 256)).sum ≤ (s.job (jobNumber
    o.req.target)).ovfCells → Gives (.jobPut o port) s (fun t => (t.job (jobNumber o.req.target)).received = (s.job (jobNumber
    o.req.target)).received ++
    [{ contrib := fieldAt o.params 0 2, lo := ((s.job (jobNumber o.req.target)).positions (fieldAt o.params 3 1) (jobOffset o.req.target) o.data.length).1, hi := ((s.job (jobNumber o.req.target)).positions (fieldAt o.params 3 1) (jobOffset o.req.target) o.data.length).2 }]
    ∧ t.hcu.inputs.length = s.hcu.inputs.length + ((s.job (jobNumber o.req.target)).shares (fieldAt o.params 3 1) (jobOffset
    o.req.target) o.data).length ∧ Keeps [.hcu, .remote, .dict, .freeCounter] s t)) ∧
  (∀ (s : State) (job n : Nat) (x : HeldPut), s.running = true → (s.hcu.held.filter (fun h => decide (h.job = job)))[n]? = some x →
    s.hcu.inputs.any (fun y => decide (y.job = job)) = false → (s.hcu.held.erase x).any (fun y => decide (y.job = job)) = false → Gives
    (.heldJobPutTimeout job n) s (fun t => Answered t x.req 0x21 (fun r => decide (r.status = .timeout ∧ r.disp = .refused ∧ r.reason =
    .capacity)) = true ∧ t.hcu.held = s.hcu.held.erase x ∧ x.deadline ≤ t.now ∧ Keeps [.hcu, .remote, .dict, .freeCounter, .now, .ftc] s
    t)) ∧
  (∀ (s : State) (job : Nat), s.running = true → ((s.job job).state = .waiting ∨ (s.job job).state = .opened) → Gives (.jobIdleTimeout
    job) s (fun t => (t.job job).state = .faulted ∧ (t.job job).status = .timeout)) ∧
  (∀ (s : State) (job : Nat) (v : List Byte), s.running = true → (s.job job).state = .waiting → (s.job job).f 92 4 ≤ (s.sync ((s.job
    job).f 88 2 % 2 ^ 14)).value.toNat → s.serviceRead (addrOffset ((s.job job).addr 80)) (ceilDiv (s.job job).elems (2 ^ (s.job job).f
    51 1)) (s.job job).tenant .get = .ok v → Gives (.jobExponentReady job) s (fun t => t.job job =
    { s.job job with state := .opened, expVec := some v, expCheck := crc32 v % 65536, activeAt := s.now } ∧ Keeps [.hcu, .pool, .dict] s
    t)) ∧
  (∀ (s : State) (job chunk contrib : Nat) (x : JobInput), s.running = true → s.sumInput job chunk contrib = some x → (s.job job).state =
    .opened → ((s.job job).slot ≠ none ∨ s.arbGrant (.millstone ((s.job job).firstMs + chunk % (s.job job).msCount)) = some (ownerIx
    (s.job job).tenant)) → (Store.read ({} : Chunk) (s.job job).chunks chunk).inputs + 1 < (s.job job).contribs → Gives (.millstoneSum
    job chunk contrib) s (fun t => Store.read ({} : Chunk) (t.job job).chunks chunk = (s.job job).sumInto s.freeCounter (Store.read ({} :
    Chunk) (s.job job).chunks chunk) x ∧ t.hcu.inputs = s.hcu.inputs.erase x ∧ Keeps [.hcu, .csr, .dict, .freeCounter] s t)) ∧
  (∀ (s : State) (job : Nat) (r : Response), s.running = true → (s.job job).state = .opened → (s.job job).unacked ≠ 0 → r.status = .ok →
    Gives (.jobOutputAck job r) s (fun t => (t.job job).unacked = (s.job job).unacked - 1 ∧ ((s.job job).allIssued = true → (s.job
    job).unacked = 1 → (t.job job).state = .done))) ∧
  (∀ (s : State) (unit n : Nat) (rest : List Nat), s.running = true → s.hcuQueue (if unit < 64 then 256 + unit else 512 + (unit - 64)) =
    n :: rest → s.hcuRunning (if unit < 64 then 256 + unit else 512 + (unit - 64)) = none → (s.job n).state = .opened → (s.job n).kind =
    4 → (s.job n).stream = true → (s.job n).arrived ≠ (s.job n).srcCount * (s.job n).itemBytes → s.hcu.inputs.any (fun x => decide (x.job
    = n)) = false → s.hcu.held.any (fun x => decide (x.job = n)) = false → Store.wf ([] : List Nat) s.hcu.fbQueues = true → s.closed
    (hcuLoc (if unit < 64 then 256 + unit else 512 + (unit - 64))) = false → Gives (.hcuJobStart unit) s (fun t => (t.job n).running =
    true ∧ t.hcuQueue (if unit < 64 then 256 + unit else 512 + (unit - 64)) = rest ∧ Keeps [.hcu] s t)) ∧
  (∀ (s : State) (job : Nat), s.running = true → (s.job job).kind = 2 → (s.job job).stream = true → (s.job job).running = true → (s.job
    job).sorted = false → (s.job job).state = .opened → s.poolCheck (addrOffset ((s.job job).addr 88)) (8 * (s.job job).f 76 4) (s.job
    job).tenant none .put = none → s.firstPoison (addrOffset ((s.job job).addr 88)) (8 * (s.job job).f 76 4) = none → Gives
    (.gatherSortDone job) s (fun t => (t.job job).sorted = true))

/-- A request received on a port that nothing refuses, whose class has no Weir there and whose quota has room is kept, with the fields
  the first DZM sets (R42, R428) and the room reserved for its response (R238). A request of a quota in which frames wait already, or
  without room, waits behind them. A local response with its grant takes its reserved room and is kept. A frame that waits is admitted
  when there is room, and refused with E_NOSPACE and REASON BUFFER_QUOTA when it has waited quota_wait_ns. A one-frame request for this
  node becomes an operation and frees its descriptor; one for another node is linked onto the list of its class on the port its route
  names, once that port is up, an encrypted port is not missing and the hop does not turn from down to up. -/
def Obligations.FramesEnterAndLink : Prop :=
  (∀ (s : State) (port : Nat) (header payload : List Byte) (f g : Frame), s.running = true → (s.port port).up = true → f =
    { frameOf header payload with inPort := some port, fromDzm := decide ((s.port port).mode = .opvitik) && !(s.port port).peerEndpoint, lastSeq := ((s.port port).arrived.find? (fun e => decide (e.1 = header ++ payload))).map (·.2) }
    → f.kind = 0 → f.tc ≠ 0 → s.arrivalBad port f = none → g = s.firstHop port f → bitAt (s.reg (R.trfWeirBind port (f.tc - 1)) 0) 16 =
    false → s.sw.quotaWaits.any (fun w => decide (w.quota = ownerIx g.tenant)) = false → g.cells + s.roomFor g ≤ s.quotaFree (ownerIx
    g.tenant) → Gives (.frameReceive port header payload) s (fun t => t.frame s.sw.nextFrame = some
    { g with rspRoom := s.roomFor g, id := s.sw.nextFrame } ∧ t.sw.nextFrame = s.sw.nextFrame + 1 ∧ Keeps [.dict, .remote, .sw, .traffic,
    .sec, .links, .freeCounter] s t)) ∧
  (∀ (s : State) (port : Nat) (header payload : List Byte) (f g : Frame), s.running = true → (s.port port).up = true → f =
    { frameOf header payload with inPort := some port, fromDzm := decide ((s.port port).mode = .opvitik) && !(s.port port).peerEndpoint, lastSeq := ((s.port port).arrived.find? (fun e => decide (e.1 = header ++ payload))).map (·.2) }
    → f.kind = 0 → f.tc ≠ 0 → s.arrivalBad port f = none → g = s.firstHop port f → bitAt (s.reg (R.trfWeirBind port (f.tc - 1)) 0) 16 =
    false → (s.sw.quotaWaits.any (fun w => decide (w.quota = ownerIx g.tenant)) = true ∨ s.quotaFree (ownerIx g.tenant) < g.cells +
    s.roomFor g) → Gives (.frameReceive port header payload) s (fun t => t.sw.quotaWaits = s.sw.quotaWaits ++
    [{ frame := { g with rspRoom := s.roomFor g }, quota := ownerIx g.tenant, injected := false, deadline := s.now + nsUnits (s.num O.quotaWaitNs 2000) }]
    ∧ t.sw.frames = s.sw.frames)) ∧
  (∀ (s : State) (hub : Nat) (header payload : List Byte) (f : Frame), s.running = true → hub < 14 → s.arbPresent (.inject hub) = true →
    f = frameOf header payload → f.kind = 1 → s.arbGrant (.inject hub) = some (ownerIx f.tenant) → Gives (.injectionFrame hub header
    payload) s (fun t => t.frame s.sw.nextFrame = some { f with id := s.sw.nextFrame } ∧ t.sw.nextFrame = s.sw.nextFrame + 1 ∧ t.arbGrant
    (.inject hub) = none ∧ Keeps [.csr, .sw, .sec, .links] s t)) ∧
  (∀ (s : State) (hub : Nat) (header payload : List Byte) (f : Frame), s.running = true → hub < 14 → s.arbPresent (.inject hub) = true →
    f = frameOf header payload → f.kind = 0 → f.tc ≠ 0 → s.arbGrant (.inject hub) = some (ownerIx f.tenant) → s.sw.quotaWaits.any (fun w
    => decide (w.quota = ownerIx f.tenant)) = false → f.cells + s.roomFor f ≤ s.quotaFree (ownerIx f.tenant) → Gives (.injectionFrame hub
    header payload) s (fun t => t.frame s.sw.nextFrame = some { f with rspRoom := s.roomFor f, id := s.sw.nextFrame } ∧ Keeps [.csr, .sw,
    .sec, .links] s t)) ∧
  (∀ (s : State) (tenant : Nat) (w : QuotaWait), s.running = true → s.sw.quotaWaits.find? (fun w => decide (w.quota = ownerIx tenant)) =
    some w → w.frame.cells + w.frame.rspRoom ≤ s.quotaFree (ownerIx tenant) → Gives (.quotaAdmit tenant) s (fun t => t.sw.quotaWaits =
    s.sw.quotaWaits.erase w ∧ t.frame s.sw.nextFrame = some
    { w.frame with id := s.sw.nextFrame, defer := if w.injected = false ∧ w.frame.defer = .none then .bufferQuota else w.frame.defer } ∧
    Keeps [.dict, .sw, .sec, .links] s t)) ∧
  (∀ (s : State) (tenant : Nat) (w : QuotaWait), s.running = true → s.sw.quotaWaits.find? (fun w => decide (w.quota = ownerIx tenant) &&
    !w.injected) = some w → w.frame.kind = 0 → w.frame.index = 0 → Gives (.quotaWaitExpiry tenant) s (fun t => t.sw.quotaWaits =
    s.sw.quotaWaits.erase w ∧ Answered t (s.reqOf w.frame) w.frame.op (fun r => decide (r.status = .nospace ∧ r.disp = .refused ∧
    r.reason = .bufferQuota)) = true ∧ w.deadline ≤ t.now ∧ Keeps [.now, .ftc, .dict, .remote, .sw, .sec, .links, .freeCounter] s t)) ∧
  (∀ (s : State) (frame : Nat) (f : Frame), s.running = true → s.frame frame = some f → f.id = frame → f.linked = false → f.kind = 0 →
    f.index = 0 → f.slot = none → isMulticast f.dstNode = false → s.isHere f.dstNode = true → s.branchOf f = none → f.ends f.bytes = true
    → s.sw.lists.any (fun e => e.2.any (fun q => decide (q.frame = frame))) = false → Store.wf none s.sw.frames = true → Gives
    (.frameLink frame) s (fun t => Msg.operation (s.operationOf f f.payload) ∈ t.out.sent ∧ t.frame frame = none ∧ t.sw.lists =
    s.sw.lists)) ∧
  (∀ (s : State) (frame : Nat) (f : Frame) (p : Nat) (b : Option Nat), s.running = true → s.frame frame = some f → f.id = frame →
    f.linked = false → f.kind = 0 → f.slot = none → isMulticast f.dstNode = false → s.isHere f.dstNode = false → s.branchOf f = none →
    s.routePort f = some (p, b) → (s.port p).up = true → s.plainOk f p = true → (f.lastDir ≠ .down ∨ s.dirTo p ≠ .up) → Gives (.frameLink
    frame) s (fun t => t.listOf p f.tc = s.listOf p f.tc ++
    [{ frame := frame, chan := f.chan.on f.esc, esc := f.esc, dir := if s.dirTo p = .none then f.lastDir else s.dirTo p, bucket := b, since := s.now }]
    ∧ t.frame frame = some { f with linked := true }))

/-- The answer of a branch is kept until all have answered, then the combined response goes upstream (R244). At a frame boundary the
  entry that R264 picks leaves its list and its frame goes out. A multicast entry takes effect at the high word with the low word staged
  before (R245); a quota, a route and a link group's member mask take the value written. A rebalance fills the pin table again over the
  live members (R252), and ends once no frame of a moved bucket sent on its old port is open. The operation of a discarded response ends
  with E_TIMEOUT (R256). The microsecond sample of cell_us adds each owner's cells (R500). -/
def Obligations.SwitchServesAndIsConfigured : Prop :=
  (∀ (s : State) (frame : Nat) (port : Option Nat) (r : Response) (w : McWait) (b : Branch), s.running = true → s.sw.mcWaits.find? (fun w
    => decide (w.frame = frame)) = some w → b = (match port with | some p => Branch.port p | none => Branch.here) → w.branches.contains b
    = true → w.answers.any (fun a => decide (a.1 = b)) = false → w.answers.length + 1 < w.branches.length → Gives (.multicastBranchAck
    frame port r) s (fun t => t.sw.mcWaits = s.sw.mcWaits.filter (fun x => decide (x.frame ≠ frame)) ++
    [{ w with answers := w.answers ++ [(b, r)] }] ∧ Keeps [.sw] s t)) ∧
  (∀ (s : State) (frame : Nat) (port : Option Nat) (r : Response) (w : McWait) (b : Branch), s.running = true → s.sw.mcWaits.find? (fun w
    => decide (w.frame = frame)) = some w → b = (match port with | some p => Branch.port p | none => Branch.here) → w.branches.contains b
    = true → w.answers.any (fun a => decide (a.1 = b)) = false → w.answers.length + 1 = w.branches.length → w.req.posted = false → Gives
    (.multicastBranchAck frame port r) s (fun t => t.sw.mcWaits = s.sw.mcWaits.filter (fun x => decide (x.frame ≠ frame)) ∧ Answered t
    w.req w.op (fun x => decide (x = combine (w.answers ++ [(b, r)]))) = true)) ∧
  (∀ (s : State) (port k : Nat) (eg : Egress) (e : QEntry) (f : Frame), s.running = true → (s.port port).up = true → s.egressPick port =
    some (k, eg) → s.headOf port k = some (e, f) → Store.wf [] s.sw.lists = true → Gives (.egressFrameBoundary port) s (fun t =>
    Msg.frame port f.id f.cost ∈ t.out.sent ∧ (t.listOf port k).length + 1 = (s.listOf port k).length ∧ Keeps [.dict, .sw, .traffic,
    .sec, .links] s t)) ∧
  (∀ (s : State) (i : Issuer) (n : Nat) (v lo : Word32), s.running = true → Store.read none s.mgmt.loStaged (requesterOf i * 2 ^ 26 +
    R.swcMcLo n) = some lo → bitsOf v.toNat 7 6 = 0 → bitsOf v.toNat 31 16 = 0 → (bitsOf v.toNat 15 8 < 64 ∨ bitsOf v.toNat 15 8 = 0xFF)
    → lo.toNat + 2 ^ 32 * bitsOf v.toNat 3 0 < 2 ^ portCount s.chip.variant → Store.wf ({} : McEntry) s.sw.mcast = true → Gives
    (.mcEntryWrite i n v) s (fun t => Store.read ({} : McEntry) t.sw.mcast n =
    { ports := lo.toNat + 2 ^ 32 * bitsOf v.toNat 3 0, here := bitAt v.toNat 4, valid := bitAt v.toNat 5, owner := bitsOf v.toNat 15 8 }
    ∧ Answers t .ok ∧ Keeps [.sw, .mgmt, .freeCounter] s t)) ∧
  (∀ (s : State) (i : Issuer) (tn : Nat) (v : Word32), s.running = true → bitsOf v.toNat 31 19 = 0 → tn < 65 → v.toNat ≤ s.quotaCells tn
    + s.cellsUnassigned → Gives (.quotaWrite i tn v) s (fun t => t.quotaCells tn = v.toNat ∧ Answers t .ok ∧ Keeps [.csr, .mgmt,
    .freeCounter] s t)) ∧
  (∀ (s : State) (i : Issuer) (g : Nat) (v : Word32), s.running = true → Gives (.lgMembersWrite i g false v) s (fun t => Store.read none
    t.mgmt.loStaged (requesterOf i * 2 ^ 26 + R.swcLgMembersLo g) = some v ∧ Answers t .ok ∧ Keeps [.mgmt, .freeCounter] s t)) ∧
  (∀ (s : State) (i : Issuer) (g : Nat) (v lo : Word32), s.running = true → Store.read none s.mgmt.loStaged (requesterOf i * 2 ^ 26 +
    R.swcLgMembersLo g) = some lo → bitsOf v.toNat 31 4 = 0 → ((List.range 36).filter (bitAt (lo.toNat + 2 ^ 32 * bitsOf v.toNat 3
    0))).all (fun p => s.present (.port p) && (List.range 32).all (fun h => decide (h = g) || !bitAt (s.lgMask h) p)) = true →
    ((List.range 36).filter (bitAt (lo.toNat + 2 ^ 32 * bitsOf v.toNat 3 0))).length ≤ 16 → Gives (.lgMembersWrite i g true v) s (fun t
    => t.lgMask g = lo.toNat + 2 ^ 32 * bitsOf v.toNat 3 0 ∧ Answers t .ok)) ∧
  (∀ (s : State) (a : Access) (g : Nat), s.running = true → (s.takeArm a R.swcLgCmd).1 = true → g < 32 → (s.group g).moving = false →
    s.liveMembers g ≠ [] → Gives (.lgRebalance a g) s (fun t => (∀ b, b < 256 → (t.bucket (256 * g + b)).valid = true ∧ (t.bucket (256 *
    g + b)).port = (s.liveMembers g).getD (b % (s.liveMembers g).length) 0) ∧ Answers t .ok)) ∧
  (∀ (s : State) (g : Nat), s.running = true → (s.group g).moving = true → (s.group g).deferred = [] → (List.range 256).all (fun b =>
    match (s.bucket (256 * g + b)).moving with | some p => !s.bucketSent p (256 * g + b) | none => true) = true → Store.wf ({} :
    LinkGroup) s.sw.groups = true → Store.wf ({} : Bucket) s.sw.buckets = true → Gives (.lgRebalanceComplete g) s (fun t => (t.group
    g).moving = false ∧ (∀ b, b < 256 → t.bucket (256 * g + b) = { s.bucket (256 * g + b) with moving := none }) ∧ Keeps [.sw] s t)) ∧
  (∀ (s : State) (i : Issuer) (n : Nat) (v : Word32), s.running = true → n < 30720 → bitsOf v.toNat 15 8 = 0 → bitsOf v.toNat 31 24 = 0 →
    (bitsOf v.toNat 7 6 = 0 ∨ bitsOf v.toNat 7 6 = 1 ∧ bitsOf v.toNat 5 0 < portCount s.chip.variant ∨ bitsOf v.toNat 7 6 = 2 ∧ bitsOf
    v.toNat 5 0 < 32) → (bitsOf v.toNat 23 22 = 0 ∨ bitsOf v.toNat 23 22 = 1 ∧ bitsOf v.toNat 21 16 < portCount s.chip.variant ∨ bitsOf
    v.toNat 23 22 = 2 ∧ bitsOf v.toNat 21 16 < 32) → Gives (.routeWrite i n v) s (fun t => t.reg (R.swcRoute n) 0 = v.toNat ∧ Answers t
    .ok ∧ Keeps [.csr, .sw, .mgmt, .freeCounter] s t)) ∧
  (∀ (s : State) (n : Nat) (r : Req) (op due : Nat), s.running = true → s.sw.discarded[n]? = some (r, op, due) → r.posted = false → Gives
    (.discardedResponseTimeout n) s (fun t => t.sw.discarded = s.sw.discarded.eraseIdx n ∧ Answered t r op (fun x => decide (x.status =
    .timeout)) = true ∧ due ≤ t.now ∧ Keeps [.now, .ftc, .dict, .remote, .sw, .freeCounter] s t)) ∧
  (∀ (s : State), s.running = true → Gives (.cellUsSample) s (fun t => t.now = (s.now / 4000 + 1) * 4000 ∧ (∀ k, k < 65 → Store.read 0
    s.faults.meterMode k = 0 → s.num ((0x5C01 + k) * 256 + 0x0F) 0 + s.quotaUsed k < 2 ^ 64 → t.num ((0x5C01 + k) * 256 + 0x0F) 0 = s.num
    ((0x5C01 + k) * 256 + 0x0F) 0 + s.quotaUsed k) ∧ Keeps [.now, .ftc, .dict] s t))

/-- A tick boundary advances the Wheel and refills every Weir and every shaper that the Wheel does not hold, when no checkpoint streams
  (R267, R268, R270). A read command loads the selected entry into the data words; a write command sets a shaper, which leaves the Wheel,
  a Weir, or a valid contract (R269, R280, R289). The dispatcher serves the owed contract that alone waits for a memory channel and
  counts its bytes (R282). START keeps the entry and the tick; the start makes the entry active for its hold; STOP sets the tick of the
  return; the return leaves the default state; a hold that ends makes NEXT active (R275, R279); a gate entry takes effect at its high
  word (R289). -/
def Obligations.TrafficControlTakesEffect : Prop :=
  (∀ (s : State), s.running = true → s.faults.ckpts = [] → Store.wf ({} : TokenBucket) s.traffic.weirs = true → Store.wf ({} :
    TokenBucket) s.traffic.shapers = true → Gives (.wheelTick) s (fun t => t.now = s.now + (32 - s.ftc % 32) ∧ t.traffic.wheelAt =
    s.traffic.wheelAt + 1 ∧ (∀ n, t.weir n = (s.weir n).refill) ∧ (∀ n, s.traffic.wheel.all (fun e => decide (e.shaper ≠ n)) = true →
    t.shaper n = (s.shaper n).refill) ∧ Keeps [.now, .ftc, .dict, .traffic] s t)) ∧
  (∀ (s : State) (i : Issuer) (v : Word32), s.running = true → i.tenant = 0xFF → v = 1 → s.indBad = none → Gives (.trfIndRead i v) s (fun
    t => (∀ k, k < 4 → t.indData k = (s.indWords s.indTable s.indIndex).getD k 0 % 2 ^ 32) ∧ Answers t .ok ∧ Keeps [.csr, .mgmt,
    .freeCounter] s t)) ∧
  (∀ (s : State) (i : Issuer) (v : Word32), s.running = true → i.tenant = 0xFF → v = 2 → s.indWriteBad = none → s.indTable = 0 → Store.wf
    ({} : TokenBucket) s.traffic.shapers = true → Gives (.trfIndWrite i v) s (fun t => t.shaper s.indIndex = s.indBucket (s.shaper
    s.indIndex) ∧ t.traffic.wheel = s.traffic.wheel.filter (fun e => decide (e.shaper ≠ s.indIndex)) ∧ Answers t .ok ∧ Keeps [.traffic,
    .mgmt, .freeCounter] s t)) ∧
  (∀ (s : State) (i : Issuer) (v : Word32), s.running = true → i.tenant = 0xFF → v = 2 → s.indWriteBad = none → s.indTable = 1 → Store.wf
    ({} : TokenBucket) s.traffic.weirs = true → Gives (.trfIndWrite i v) s (fun t => t.weir s.indIndex = s.indBucket (s.weir s.indIndex)
    ∧ Answers t .ok ∧ Keeps [.traffic, .mgmt, .freeCounter] s t)) ∧
  (∀ (s : State) (i : Issuer) (v : Word32), s.running = true → i.tenant = 0xFF → v = 2 → s.indWriteBad = none → s.indTable = 2 → bitAt
    (s.indData 0) 16 = true → Gives (.trfIndWrite i v) s (fun t => t.contract s.indIndex = s.indContract (s.contract s.indIndex) ∧
    Answers t .ok ∧ Keeps [.traffic, .mgmt, .freeCounter] s t)) ∧
  (∀ (s : State) (channel k : Nat) (r : PoolReq) (rest : List PoolReq), s.running = true → channel < 272 → s.hasRoom channel = true →
    s.headsAt channel = [k] → s.capOpen (s.contract k) = true → s.owed (s.contract k) = true → (s.contract k).queue = r :: rest →
    r.oper.op = 2 → (s.partAt (addrOffset r.oper.req.target)).isSome = true → Gives (.contractDispatch channel) s (fun t => (t.contract
    k).queue = rest ∧ (t.contract k).bytes = (s.contract k).bytes + max 64 r.oper.length ∧ (t.inChannel channel).map (fun d => d.preq.id)
    = (s.inChannel channel).map (fun d => d.preq.id) ++ [r.id])) ∧
  (∀ (s : State) (i : Issuer) (port : Nat) (v : Word32), s.running = true → i.tenant = 0xFF → s.gateStartBad port v.toNat = none → Gives
    (.gateCycleStart i port v) s (fun t => t.gate port =
    { s.gate port with running := true, first := bitsOf v.toNat 9 0, startTick := some (s.gateStart port / 32) } ∧ Answers t .ok ∧ Keeps
    [.csr, .traffic, .mgmt, .freeCounter] s t)) ∧
  (∀ (s : State) (port n : Nat), s.running = true → (s.gate port).startTick = some n → Gives (.gateCycleBegin port) s (fun t => (t.gate
    port).active = some (s.gate port).first ∧ (t.gate port).entry = s.gateEntry port (s.gate port).first ∧ (t.gate port).startTick = none
    ∧ (t.gate port).holdEnd = max n t.tick + (s.gateEntry port (s.gate port).first).hold ∧ Keeps [.now, .ftc, .dict, .traffic] s t)) ∧
  (∀ (s : State) (i : Issuer) (port : Nat), s.running = true → i.tenant = 0xFF → s.present (.port port) = true → (s.gate port).running =
    true → Gives (.gateCycleStop i port) s (fun t => t.gate port =
    { s.gate port with stopTick := some (ceilDiv s.ftc 32 + s.guard port) } ∧ Answers t .ok ∧ Keeps [.traffic, .mgmt, .freeCounter] s t)) ∧
  (∀ (s : State) (port n : Nat), s.running = true → (s.gate port).stopTick = some n → Store.wf ({} : Gate) s.traffic.gates = true → Gives
    (.gateStopEffect port) s (fun t => t.gate port =
    { s.gate port with active := none, holdEnd := 0, running := false, startTick := none, stopTick := none, inQuantum := false } ∧ Keeps
    [.now, .ftc, .dict, .traffic] s t)) ∧
  (∀ (s : State) (port k : Nat), s.running = true → (s.gate port).active = some k → (s.gate port).entry.auto = true → (s.gate
    port).inQuantum = false → Gives (.gateHoldExpiry port) s (fun t => t.gate port =
    { s.gate port with active := some (s.gate port).entry.nextEntry, entry := s.gateEntry port (s.gate port).entry.nextEntry, holdEnd := (s.gate port).holdEnd + (s.gateEntry port (s.gate port).entry.nextEntry).hold }
    ∧ Keeps [.now, .ftc, .dict, .traffic] s t)) ∧
  (∀ (s : State) (i : Issuer) (port entry : Nat) (v lo : Word32), s.running = true → i.tenant = 0xFF → Store.read none s.mgmt.loStaged
    (requesterOf i * 2 ^ 26 + R.trfGateLo port entry) = some lo → s.gateEntryBad port entry (gateEntryOf lo.toNat v.toNat) v.toNat = none
    → Store.wf ({} : GateEntry) s.traffic.gateEntries = true → Gives (.gateEntryWrite i port entry v) s (fun t => t.gateEntry port entry
    = { openMask := bitsOf lo.toNat 15 0, auto := bitAt lo.toNat 16, hold := bitsOf v.toNat 19 0, nextEntry := bitsOf v.toNat 29 20 } ∧
    Answers t .ok ∧ Keeps [.traffic, .mgmt, .freeCounter] s t))

/-- A bind that passes R298 leaves the partition BOUND with its frames reserved and its map not yet written; the map write lets requests
  on (R299). An accepted unbind leaves it CLEARING without a seal; the end of the clear leaves it FREE with every byte of its range zero
  (R301). A repair gives a FAILED page a frame (R319). An accepted OWNER write sets the owner (R294). A channel declared failed, stalled
  or in fatal error is FAILED (R318); a restore retrains it, a training that succeeds makes it CLEARING, and the end of its clear makes
  it ONLINE with the frames no partition reserves free (R295, R319). -/
def Obligations.PartitionsAndChannelsChange : Prop :=
  (∀ (s : State) (a : Access) (n : Nat), s.running = true → accessMgmt a = true → s.bindCheck n = none → Gives (.partitionBind a n) s
    (fun t => (t.part n).state = .bound ∧ (t.part n).mapWritten = false ∧ (t.part n).reserved = (s.part n).shares.foldl (fun (r : Store
    Nat) e => Store.write 0 r e.1 e.2) [] ∧ Answers t .ok ∧ Keeps [.pool, .mgmt, .freeCounter] s t)) ∧
  (∀ (s : State) (n : Nat), s.running = true → (s.part n).state = .bound → (s.part n).mapWritten = false → Gives (.mapWritten n) s (fun t
    => (t.part n).mapWritten = true ∧ (t.part n).state = .bound)) ∧
  (∀ (s : State) (a : Access) (n : Nat), s.running = true → accessMgmt a = true → (s.part n).state = .bound → s.planClaims n = false →
    s.coh.windows.any (fun e => (e.2.enable || e.2.disabling) && decide (e.2.partition = n)) = false → Gives (.partitionUnbind a n) s
    (fun t => (t.part n).state = .clearing ∧ (t.part n).sealed = none ∧ Answers t .ok)) ∧
  (∀ (s : State) (n : Nat), s.running = true → (s.part n).state = .clearing → s.partInFlight n = false → Store.wf ({} : Partition)
    s.pool.parts = true → Gives (.partitionClearComplete n) s (fun t => (t.part n).state = .free ∧ (∀ a, (s.part n).base ≤ a → a <
    (s.part n).base + (s.part n).size * 65536 → t.memByte a = 0) ∧ (∀ a, a < (s.part n).base ∨ (s.part n).base + (s.part n).size * 65536
    ≤ a → t.memByte a = s.memByte a) ∧ Keeps [.mem, .pool, .sec] s t)) ∧
  (∀ (s : State) (a : Access) (n pg c : Nat) (near unreserved : Bool) (r : PageRec), s.running = true → accessMgmt a = true → (s.part
    n).state = .bound → (s.partPages n).filter (fun e => e.2.failed) = [(pg, r)] → (s.chan r.channel).state = .failed → s.repairFrame
    (s.part n) r.near pg = some (c, near, unreserved) → Gives (.partitionRepair a n) s (fun t => t.page n pg = some
    { r with channel := c, near := near, failed := false } ∧ Answers t .ok ∧ Keeps [.pool, .mgmt, .freeCounter] s t)) ∧
  (∀ (s : State) (a : Access) (ch owner : Nat), s.running = true → accessMgmt a = true → s.ownerCheck ch owner = none → Store.wf ({} :
    Channel) s.pool.channels = true → Gives (.channelOwnerWrite a ch owner) s (fun t => (t.chan ch).owner = owner ∧ (t.chan ch).state =
    (s.chan ch).state ∧ Answers t .ok ∧ Keeps [.pool, .mgmt, .freeCounter] s t)) ∧
  (∀ (s : State) (a : Access) (ch : Nat), s.running = true → accessMgmt a = true → (s.takeArm a R.memChanCmd).1 = true → s.chanAbsent ch
    = false → (s.chan ch).state ≠ .empty → s.power.containWaits = [] → Gives (.channelDeclareFailed a ch) s (fun t => (t.chan ch).state =
    .failed ∧ Answers t .ok)) ∧
  (∀ (s : State) (a : Access) (ch : Nat), s.running = true → accessMgmt a = true → (s.takeArm a R.memChanCmd).1 = true → s.chanAbsent ch
    = false → (s.chan ch).state = .failed → Gives (.channelRestore a ch) s (fun t => (Store.read ({} : Channel) t.pool.channels
    ch).retraining = true ∧ Answers t .ok ∧ Keeps [.pool, .mgmt, .freeCounter] s t)) ∧
  (∀ (s : State) (ch : Nat) (ok : Bool), s.running = true → (Store.read ({} : Channel) s.pool.channels ch).state = .failed → (Store.read
    ({} : Channel) s.pool.channels ch).retraining = true → Store.wf ({} : Channel) s.pool.channels = true → Gives (.channelRetrainDone ch
    ok) s (fun t => (Store.read ({} : Channel) t.pool.channels ch).state = (if ok then .clearing else .failed) ∧ (Store.read ({} :
    Channel) t.pool.channels ch).retraining = false ∧ Answers t (if ok then .ok else .tier) ∧ Keeps [.pool, .freeCounter] s t)) ∧
  (∀ (s : State) (ch : Nat), s.running = true → (s.chan ch).state = .clearing → s.chanAbsent ch = false → Gives (.channelClearComplete
    ch) s (fun t => (t.chan ch).state = .online ∧ (t.chan ch).free = s.chanUsable ch - s.reservedOn ch ∧ Keeps [.pool, .sec] s t)) ∧
  (∀ (s : State) (ch : Nat) (d : Dispatched) (rest : List Dispatched), s.running = true → s.inChannel ch = d :: rest → s.chanAbsent ch =
    false → (s.chan ch).state ≠ .empty → s.power.containWaits = [] → Gives (.channelStall ch) s (fun t => (t.chan ch).state = .failed ∧
    d.since + usUnits (s.num O.channelStallUs 8000) ≤ t.now)) ∧
  (∀ (s : State) (ch : Nat), s.running = true → s.chanAbsent ch = false → (s.chan ch).state ≠ .empty → s.power.containWaits = [] → Gives
    (.channelFatalError ch) s (fun t => (t.chan ch).state = .failed))

/-- An uncorrectable error poisons the block (R317). A dispatched request that passes its deadline ends with E_TIER (R316); one that
  completes gives its answer and leaves the channel (R316). A queued move that has a frame begins copying (R305, R308); a move with
  nothing in flight switches the page to its new frame; a held request that reaches the limit cancels the move (R306). PROMOTE, DEMOTE
  and PIN of one page that has to move queue its move and answer 1; UNPIN removes the mark; LAYER queues the page of a one-page layer
  (R311); CANCEL drops the partition's queued moves (R313, R315). With WAIT clear each answers at once. -/
def Obligations.PoolRequestsAndMovesEnd : Prop :=
  (∀ (s : State) (offset n pg : Nat) (r : PageRec), s.running = true → s.pageAt offset = some (n, pg, r) → r.failed = false →
    s.power.containWaits = [] → Gives (.uncorrectableError offset) s (fun t => Store.read false t.pool.poison (offset / 64) = true ∧
    t.mem = s.mem)) ∧
  (∀ (s : State) (ch id : Nat) (d : Dispatched), s.running = true → (s.inChannel ch).find? (fun d => decide (d.preq.id = id)) = some d →
    Store.wf ([] : List Dispatched) s.traffic.dispatched = true → Gives (.tierDeadlineExpiry ch id) s (fun t => t.inChannel ch =
    (s.inChannel ch).filter (fun x => decide (x.preq.id ≠ d.preq.id)) ∧ Answered t d.preq.oper.req d.preq.oper.op (fun r => decide
    (r.status = .tier)) = true ∧ d.deadline ≤ t.now)) ∧
  (∀ (s : State) (channel id : Nat) (d : Dispatched), s.running = true → (s.inChannel channel).find? (fun d => decide (d.preq.id = id)) =
    some d → s.faults.tierError = [] → s.faults.tierLate = [] → d.preq.oper.op ≠ 6 → d.preq.oper.req.posted = false →
    d.preq.oper.req.localA = 0 → Store.wf ([] : List Dispatched) s.traffic.dispatched = true → Gives (.channelRequestComplete channel id)
    s (fun t => t.inChannel channel = (s.inChannel channel).filter (fun x => decide (x.preq.id ≠ id)) ∧ Answered t d.preq.oper.req
    d.preq.oper.op (fun r => decide (r.status = d.answer.status ∧ r.data = d.answer.data ∧ r.result = d.answer.result)) = true)) ∧
  (∀ (s : State) (n page dest : Nat) (m : QueuedMove) (r : PageRec), s.running = true → s.pool.queued.find? (fun m => decide (m.part = n)
    && decide (m.page = page)) = some m → s.page n page = some r → s.moveOf n page = none → (s.pool.moves.filter (fun x => decide (x.part
    = n))).length < 16 → r.failed = false → r.near ≠ m.toNear → (s.part n).frameFor m.toNear page = some dest → s.moveSlot n r.channel
    dest = true → Gives (.pageMoveStart n page) s (fun t => t.pool.queued = s.pool.queued.erase m ∧ t.pool.moves = s.pool.moves ++
    [{ part := n, page := page, toNear := m.toNear, dest := dest, cause := m.cause }] ∧ Keeps [.pool] s t)) ∧
  (∀ (s : State) (n page : Nat) (m : PageMove) (r : PageRec), s.running = true → s.moveOf n page = some m → s.pageInFlight n page = false
    → s.page n page = some r → m.held = [] → Gives (.pageMoveSwitch n page) s (fun t => t.pool.moves = s.pool.moves.erase m ∧ (t.page n
    page).map (fun x => (x.channel, x.near)) = some (m.dest, m.toNear) ∧ t.mem = s.mem)) ∧
  (∀ (s : State) (n page : Nat) (m : PageMove) (x : HeldRequest) (rest : List HeldRequest), s.running = true → s.moveOf n page = some m →
    s.pool.moves = [m] → m.held = x :: rest → Gives (.migrationHoldExpiry n page) s (fun t => t.pool.moves = [] ∧ x.due ≤ t.now ∧ (t.page
    n page).map (fun x => (x.channel, x.near)) = (s.page n page).map (fun x => (x.channel, x.near)))) ∧
  (∀ (s : State) (o : Operation) (n pg : Nat) (r : PageRec), Arrives s o 0xE0 → o.req.posted = false → o.req.md.getLsbD 4 = false →
    s.hintCheck o true = none → s.hintRange o = (n, pg, 1) → (s.part n).twoTier = true → s.page n pg = some r → r.failed = false → r.near
    = false → s.moving n pg true = false → Gives (.promote o) s (fun t => t.pool.queued = s.pool.queued ++
    [{ part := n, page := pg, toNear := true, cause := .hint none }] ∧ Answered t o.req 0x28 (fun a => decide (a.status = .ok ∧ a.result
    = 1 ∧ a.detail = 0)) = true ∧ Keeps [.pool, .remote, .dict, .freeCounter] s t)) ∧
  (∀ (s : State) (o : Operation) (n pg : Nat) (r : PageRec), Arrives s o 0xE0 → o.req.posted = false → o.req.md.getLsbD 4 = false →
    s.hintCheck o true = none → s.hintRange o = (n, pg, 1) → (s.part n).twoTier = true → s.page n pg = some r → r.failed = false →
    r.pinned = false → r.near = true → s.moving n pg false = false → Gives (.demote o) s (fun t => t.pool.queued = s.pool.queued ++
    [{ part := n, page := pg, toNear := false, cause := .hint none }] ∧ Answered t o.req 0x28 (fun a => decide (a.status = .ok ∧ a.result
    = 1 ∧ a.detail = 0)) = true ∧ Keeps [.pool, .remote, .dict, .freeCounter] s t)) ∧
  (∀ (s : State) (o : Operation) (n pg : Nat) (r : PageRec), Arrives s o 0xE0 → o.req.posted = false → o.req.md.getLsbD 4 = false →
    s.hintCheck o true = none → s.hintRange o = (n, pg, 1) → (s.part n).twoTier = true → s.pinCheck n pg 1 = none → s.page n pg = some r
    → r.failed = false → r.near = false → s.moving n pg true = false → Gives (.pin o) s (fun t => t.page n pg = some
    { r with pinned := true, released := none } ∧ t.pool.queued = s.pool.queued ++
    [{ part := n, page := pg, toNear := true, cause := .hint none }] ∧ Answered t o.req 0x28 (fun a => decide (a.status = .ok ∧ a.result
    = 1 ∧ a.detail = 0)) = true ∧ Keeps [.pool, .remote, .dict, .freeCounter] s t)) ∧
  (∀ (s : State) (o : Operation) (n pg : Nat) (r : PageRec), Arrives s o 0xE0 → o.req.posted = false → o.req.md.getLsbD 4 = false →
    s.hintCheck o true = none → s.hintRange o = (n, pg, 1) → s.page n pg = some r → Gives (.unpin o) s (fun t => t.page n pg = some
    { r with pinned := false } ∧ t.pool.queued = s.pool.queued ∧ Answered t o.req 0x28 (fun a => decide (a.status = .ok ∧ a.result = 0))
    = true ∧ Keeps [.pool, .remote, .dict, .freeCounter] s t)) ∧
  (∀ (s : State) (o : Operation) (n pg cnt : Nat) (r : LayerRec) (x : PageRec), Arrives s o 0xE0 → o.req.posted = false →
    o.req.md.getLsbD 4 = false → s.hintCheck o false = none → s.hintRange o = (n, pg, cnt) → o.length = 0 → (s.part n).twoTier = true →
    o.operand1.toNat < (s.part n).layerCount → s.ownLayer n o.operand1.toNat = some r → r.release = 0 → r.count = 1 → s.page n r.first =
    some x → x.failed = false → x.near = false → s.moving n r.first true = false → Gives (.layer o) s (fun t => t.page n r.first = some
    { x with released := none, pinned := x.pinned || r.pin } ∧ t.pool.queued = s.pool.queued ++
    [{ part := n, page := r.first, toNear := true, cause := .layer false o.operand1.toNat none }] ∧ Answered t o.req 0x28 (fun a =>
    decide (a.status = .ok ∧ a.result = 1)) = true ∧ Keeps [.pool, .remote, .dict, .freeCounter] s t)) ∧
  (∀ (s : State) (o : Operation) (n pg cnt : Nat), Arrives s o 0xE0 → o.req.posted = false → o.req.md.getLsbD 4 = false → s.hintCheck o
    false = none → s.hintRange o = (n, pg, cnt) → o.length = 0 → Gives (.cancel o) s (fun t => t.pool.queued = s.pool.queued.filter (fun
    m => !decide (m.part = n)) ∧ Answered t o.req 0x28 (fun a => decide (a.status = .ok ∧ a.result = BitVec.ofNat 64
    ((s.pool.queued.filter (fun m => decide (m.part = n))).length))) = true ∧ Keeps [.pool, .remote, .dict, .freeCounter] s t))

/-- An enable that R326 accepts and a disable set the store's ENABLE. OPEN of a name without a session creates it with its parameters and
  answers its BASE; LOOKUP answers BASE and NODE; TOUCH only moves LAST_ACCESS; SET_TTL, RETAIN, RELEASE, PIN_NEAR and UNPIN_NEAR set the
  session's field; TRUNCATE of one layer with no attend in progress lowers its count, at once or when it has waited; DELETE makes the
  session DELETING until nothing is in progress, then DELETED; MOVE makes it MOVING, the end of the copy begins the switch, and the end
  of the switch leaves it MOVED with its new NODE. A session whose TTL has run out is EXPIRED; a run of freed handles leaves quarantine
  (R328, R333). -/
def Obligations.KvCommandsTakeEffect : Prop :=
  (∀ (s : State) (a : Access) (tn : Nat) (p : Option Nat), s.running = true → accessMgmt a = true → (s.store tn).enable = false →
    s.storeCheck tn { s.store tn with partition := p.getD (s.store tn).partition } = none → Gives (.kvStoreEnable a tn p) s (fun t =>
    t.store tn = { s.store tn with partition := p.getD (s.store tn).partition, enable := true, lastStatus := .ok, used := [] } ∧ Answers
    t .ok ∧ Keeps [.kv, .mgmt, .freeCounter] s t)) ∧
  (∀ (s : State) (a : Access) (tn : Nat), s.running = true → accessMgmt a = true → Store.wf ({} : KvStore) s.kv.stores = true → Gives
    (.kvStoreDisable a tn) s (fun t => (t.store tn).enable = false ∧ (t.store tn).lastStatus = .ok ∧ Answers t .ok ∧ t.mem = s.mem)) ∧
  (∀ (s : State) (o : Operation), KvCommand s o → o.operand2 = 0 → fieldAt o.params 7 1 / 8 = 0 → kvParamsOk (kvParams o) = true → 64 +
    (kvParams o).pageBytes ≤ (s.store o.req.issuer.tenant).slotBytes → s.session o.req.issuer.tenant o.operand1 = none → runPlaces
    (kvParams o).layers s.handleRuns 0 ≠ 0 → (s.kv.sessions.filter (fun y => y.live)).length < 262144 → (((s.kv.sessions.filter (fun y =>
    y.live)).filter (fun y => decide (y.tenant = o.req.issuer.tenant))).map KvSession.meta_).sum + (kvParams o).meta_ ≤ (s.store
    o.req.issuer.tenant).metaPages * 65536 → ((kvParams o).retain = false ∨ s.retainFits o.req.issuer.tenant (s.retainedSlots
    o.req.issuer.tenant) = true) → Gives (.kvOpen o) s (fun t => (t.session o.req.issuer.tenant o.operand1).map (fun y =>
    { y with base := 0, lastAccess := 0 }) = some (kvParams o) ∧ (t.session o.req.issuer.tenant o.operand1).map (fun y => y.lastAccess) =
    some s.ftc ∧ Answered t o.req 0x30 (fun r => decide (r.status = .ok ∧ (t.session o.req.issuer.tenant o.operand1).map (fun y =>
    BitVec.ofNat 64 y.base) = some r.result)) = true ∧ Keeps [.kv, .traffic, .remote, .dict, .freeCounter] s t)) ∧
  (∀ (s : State) (o : Operation) (x : KvSession), KvCommand s o → o.operand2 = 0 → KvNames s o x → Gives (.kvLookup o) s (fun t =>
    Answered t o.req 0x30 (fun r => decide (r.status = .ok ∧ r.result = BitVec.ofNat 64 (x.base + s.nodeId * 2 ^ 32))) = true ∧ t.session
    o.req.issuer.tenant o.operand1 = some { x with lastAccess := s.ftc } ∧ Keeps [.kv, .traffic, .remote, .dict, .freeCounter] s t)) ∧
  (∀ (s : State) (o : Operation) (x : KvSession), KvCommand s o → o.operand2 = 0 → KvNames s o x → Gives (.kvTouch o) s (fun t =>
    t.session o.req.issuer.tenant o.operand1 = some { x with lastAccess := s.ftc } ∧ Answered t o.req 0x30 (fun r => decide (r.status =
    .ok)) = true ∧ Keeps [.kv, .traffic, .remote, .dict, .freeCounter] s t)) ∧
  (∀ (s : State) (o : Operation) (x : KvSession), KvCommand s o → KvNames s o x → o.operand2.toNat ≤ 86400000 → Gives (.kvSetTtl o) s
    (fun t => t.session o.req.issuer.tenant o.operand1 = some { x with ttl := o.operand2.toNat, lastAccess := s.ftc } ∧ Answered t o.req
    0x30 (fun r => decide (r.status = .ok)) = true ∧ Keeps [.kv, .traffic, .remote, .dict, .freeCounter] s t)) ∧
  (∀ (s : State) (o : Operation) (x : KvSession), KvCommand s o → o.operand2 = 0 → KvNames s o x → (x.retain = true ∨ s.retainFits
    x.tenant (s.retainedSlots x.tenant + x.slotCount) = true) → Gives (.kvRetain o) s (fun t => t.session o.req.issuer.tenant o.operand1
    = some { x with retain := true, lastAccess := s.ftc } ∧ Answered t o.req 0x30 (fun r => decide (r.status = .ok)) = true ∧ Keeps [.kv,
    .traffic, .remote, .dict, .freeCounter] s t)) ∧
  (∀ (s : State) (o : Operation) (x : KvSession), KvCommand s o → o.operand2 = 0 → KvNames s o x → Gives (.kvRelease o) s (fun t =>
    t.session o.req.issuer.tenant o.operand1 = some { x with retain := false, lastAccess := s.ftc } ∧ Answered t o.req 0x30 (fun r =>
    decide (r.status = .ok)) = true ∧ Keeps [.kv, .traffic, .remote, .dict, .freeCounter] s t)) ∧
  (∀ (s : State) (o : Operation) (x : KvSession) (fresh : List Nat), KvCommand s o → o.operand2 = 0 → KvNames s o x → fresh =
    (s.sessionPages x).filter (fun p => match s.page (s.store x.tenant).partition p with | some r => !r.pinned | none => false) →
    ((s.part (s.store x.tenant).partition).twoTier = false ∨ s.pinnedPages (s.store x.tenant).partition + fresh.length + (s.part (s.store
    x.tenant).partition).mapPages + 8 ≤ (s.part (s.store x.tenant).partition).nearPages) → Gives (.kvPinNear o) s (fun t => t.session
    o.req.issuer.tenant o.operand1 = some { x with near := true, lastAccess := s.ftc } ∧ Answered t o.req 0x30 (fun r => decide (r.status
    = .ok ∧ r.result = BitVec.ofNat 64 fresh.length)) = true ∧ Keeps [.kv, .pool, .traffic, .remote, .dict, .freeCounter] s t)) ∧
  (∀ (s : State) (o : Operation) (x : KvSession), KvCommand s o → o.operand2 = 0 → KvNames s o x → Gives (.kvUnpinNear o) s (fun t =>
    t.session o.req.issuer.tenant o.operand1 = some { x with near := false, lastAccess := s.ftc } ∧ Answered t o.req 0x30 (fun r =>
    decide (r.status = .ok ∧ r.result = BitVec.ofNat 64 (s.unpinPages x (s.sessionPages x)).1)) = true ∧ Keeps [.kv, .pool, .traffic,
    .remote, .dict, .freeCounter] s t)) ∧
  (∀ (s : State) (o : Operation) (x : KvSession), KvCommand s o → KvNames s o x → bitsOf o.operand2.toNat 31 16 = 0 → bitsOf
    o.operand2.toNat 63 52 = 0 → bitsOf o.operand2.toNat 15 0 < x.layers → bitsOf o.operand2.toNat 15 0 ≠ 0xFFFF → bitsOf
    o.operand2.toNat 51 32 ≤ x.tokensOf (bitsOf o.operand2.toNat 15 0) → s.attendsOf x = [] → Store.wf 0 x.written = true → Gives
    (.kvTruncate o) s (fun t => (t.session o.req.issuer.tenant o.operand1).map (fun y => y.tokensOf (bitsOf o.operand2.toNat 15 0)) =
    some (bitsOf o.operand2.toNat 51 32) ∧ Answered t o.req 0x30 (fun r => decide (r.status = .ok)) = true)) ∧
  (∀ (s : State) (tn : Nat) (name : Word64) (x : KvSession) (p : PendingTruncate) (rest : List PendingTruncate) (l : Nat), s.running =
    true → s.session tn name = some x → x.truncates = p :: rest → p.waits.any (fun id => s.kv.attends.any (fun a => decide (a.id = id)))
    = false → p.layer = some l → x.held = [] → p.req.posted = false → Store.wf 0 x.written = true → Gives (.truncateEffect tn name) s
    (fun t => (t.session tn name).map (fun y => y.tokensOf l) = some p.count ∧ (t.session tn name).map (fun y => y.truncates) = some rest
    ∧ Answered t p.req 0x30 (fun r => decide (r.status = .ok)) = true)) ∧
  (∀ (s : State) (o : Operation) (x : KvSession), KvCommand s o → o.operand2 = 0 → KvNames s o x → Gives (.kvDelete o) s (fun t =>
    t.session o.req.issuer.tenant o.operand1 = some { x with state := .deleting, deleting := some o.req, lastAccess := s.ftc } ∧ (t.outOp
    o.req.issuer false o.req.seq).isSome = true ∧ Keeps [.kv, .traffic, .remote, .dict, .freeCounter] s t)) ∧
  (∀ (s : State) (tn : Nat) (name : Word64) (x : KvSession) (r : Req), s.running = true → s.session tn name = some x → x.state =
    .deleting → x.deleting = some r → r.posted = false → s.attendsOf x = [] → Gives (.kvDeleteComplete tn name) s (fun t => (t.session tn
    name).map (fun y => (y.state, y.slots)) = some (.deleted, []) ∧ t.kv.quarantine = s.kv.quarantine ++
    [{ base := x.base, count := x.layers, due := s.now + msUnits (s.num O.kvHandleQuarantineMs 60000) }] ∧ Answered t r 0x30 (fun r =>
    decide (r.status = .ok)) = true)) ∧
  (∀ (s : State) (o : Operation) (x : KvSession), KvCommand s o → KvNames s o x → o.operand2.toNat < 65536 → x.state = .opened → Gives
    (.kvMove o true) s (fun t => t.session o.req.issuer.tenant o.operand1 = some
    { x with state := .moving, move := some { req := o.req, dest := o.operand2.toNat } } ∧ (t.outOp o.req.issuer false o.req.seq).isSome
    = true ∧ Keeps [.kv, .traffic, .remote, .dict, .freeCounter] s t)) ∧
  (∀ (s : State) (tn : Nat) (name : Word64) (destBase : Nat) (x : KvSession) (m : SessionMove), s.running = true → s.session tn name =
    some x → x.move = some m → m.switching = false → Gives (.kvMoveCopyDone tn name .ok destBase) s (fun t => t.session tn name = some
    { x with move := some { m with switching := true, destBase := some destBase, since := s.now } } ∧ Keeps [.kv] s t)) ∧
  (∀ (s : State) (tn : Nat) (name : Word64) (x : KvSession) (m : SessionMove) (base : Nat), s.running = true → s.session tn name = some x
    → x.move = some m → m.switching = true → m.destBase = some base → s.attendsOf x = [] → m.req.posted = false → Gives
    (.kvMoveSwitchDone tn name .ok) s (fun t => (t.session tn name).map (fun y => (y.state, y.movedNode, y.movedBase)) = some (.moved,
    m.dest, base) ∧ Answered t m.req 0x30 (fun r => decide (r.status = .ok ∧ r.result = BitVec.ofNat 64 base)) = true)) ∧
  (∀ (s : State), s.running = true → Gives (.sessionExpiryCheck) s (fun t => (∀ x ∈ s.kv.sessions, s.expires x = true → (t.session
    x.tenant x.session).map (fun y => y.state) = some .expired))) ∧
  (∀ (s : State) (base : Nat) (q : Quarantine), s.running = true → s.kv.quarantine.find? (fun q => decide (q.base = base)) = some q →
    Gives (.handleQuarantineExpiry base) s (fun t => t.kv.quarantine = s.kv.quarantine.erase q ∧ q.due ≤ t.now ∧ Keeps [.now, .ftc,
    .dict, .kv] s t))

/-- A token write that R338 and R339 accept, over pages that have their slots, answers OK and raises the layer's count by the tokens it
  carries, or answers E_TIER and leaves the count (R317, R339). A pull of one page whose slot passes the header check answers its bytes
  with the rows above TOKENS zero (R341, R342). An attend that R343 accepts is queued with its span fixed (R344); the oldest queued one
  starts while fewer than 1,024 run; a range task that ends well leaves its partials (R344, R345); an output that is visible ends the
  attend (R346). -/
def Obligations.TokensPagesAndAttends : Prop :=
  (∀ (s : State) (o : Operation) (x : KvSession) (n : Nat), Arrives s o 0xFF → o.req.posted = false → addrRegion o.req.target = 6 →
    bitsOf (addrOffset o.req.target) 43 42 = 0 → KvTakes s o.req.issuer → s.handleSession o = .ok x → x.holds = false → zerosAt o.data 8
    8 = true → 1 ≤ n → o.length = 16 + n * x.tokenBytes → x.tokenBytes ≠ 0 → fieldAt o.data 0 8 = x.session.toNat → bitsOf
    o.req.target.toNat 19 0 = x.tokensOf (bitsOf o.req.target.toNat 41 20 - x.base) → x.tokensOf (bitsOf o.req.target.toNat 41 20 -
    x.base) + n ≤ x.maxTokens → s.session x.tenant x.session = some x → ((List.range (x.maxTokens / 16 + 1)).all (fun p => decide (p <
    bitsOf o.req.target.toNat 19 0 / 16 ∨ ceilDiv (bitsOf o.req.target.toNat 19 0 + n) 16 ≤ p) || (x.slotOf (bitsOf o.req.target.toNat 41
    20 - x.base) p).isSome)) = true → Gives (.kvTokenWrite o) s (fun t => (Answered t o.req 1 (fun r => decide (r.status = .ok)) = true ∧
    (t.session x.tenant x.session).map (fun y => y.tokensOf (bitsOf o.req.target.toNat 41 20 - x.base)) = some (x.tokensOf (bitsOf
    o.req.target.toNat 41 20 - x.base) + n) ∨ Answered t o.req 1 (fun r => decide (r.status = .tier)) = true ∧ (t.session x.tenant
    x.session).map (fun y => y.tokensOf (bitsOf o.req.target.toNat 41 20 - x.base)) = some (x.tokensOf (bitsOf o.req.target.toNat 41 20 -
    x.base))))) ∧
  (∀ (s : State) (o : Operation) (x : KvSession) (bs : List Byte), Arrives s o 0xFF → o.req.posted = false → o.req.localA = 0 →
    addrRegion o.req.target = 6 → bitsOf (addrOffset o.req.target) 43 42 = 1 → KvTakes s o.req.issuer → s.handleSession o = .ok x →
    x.holds = false → bitsOf o.req.target.toNat 3 0 = 0 → o.length = 64 + x.pageBytes → bitsOf o.req.target.toNat 19 4 < ceilDiv
    (x.tokensOf (bitsOf o.req.target.toNat 41 20 - x.base)) 16 → (s.readSlot x (bitsOf o.req.target.toNat 41 20 - x.base) (bitsOf
    o.req.target.toNat 19 4)).1 = .ok bs → Gives (.kvPagePull o) s (fun t => Answered t o.req 2 (fun r => decide (r.status = .ok ∧ r.data
    = kvPageOut x bs ∧ r.result = BitVec.ofNat 64 (kvPageOut x bs).length)) = true ∧ t.mem = s.mem)) ∧
  (∀ (s : State) (o : Operation) (x : KvSession) (first count : Nat), Arrives s o 0xFF → addrRegion o.req.target = 6 → bitsOf (addrOffset
    o.req.target) 43 42 = 2 → KvTakes s o.req.issuer → s.handleSession o = .ok x → x.holds = false → x.prefetchNext = false → bitsOf
    o.req.target.toNat 19 0 = 0 → fieldAt o.data 27 1 < 2 → zerosAt o.data 40 24 = true → fieldAt o.data 0 8 = x.session.toNat → (1 ≤
    fieldAt o.data 25 1 ∧ fieldAt o.data 25 1 ≤ 3 ∧ 1 ≤ fieldAt o.data 26 1 ∧ fieldAt o.data 26 1 ≤ 3) → (x.heads ≤ fieldAt o.data 24 1 ∧
    fieldAt o.data 24 1 ≤ 128 ∧ fieldAt o.data 24 1 % x.heads = 0 ∧ fieldAt o.data 24 1 / x.heads ≤ 16) → fieldAt o.data 8 8 % 64 = 0 →
    first = fieldAt o.data 16 4 → first < x.tokensOf (bitsOf o.req.target.toNat 41 20 - x.base) → count = (if fieldAt o.data 20 4 = 0
    then x.tokensOf (bitsOf o.req.target.toNat 41 20 - x.base) - first else fieldAt o.data 20 4) → first + count ≤ x.tokensOf (bitsOf
    o.req.target.toNat 41 20 - x.base) → o.length = 64 + fieldAt o.data 24 1 * x.dim * (if fieldAt o.data 25 1 = 1 then 4 else 2) →
    s.hasCluster x.tenant = true → (s.attendRunning < 1024 ∨ s.attendQueued < 8192) → Gives (.kvAttend o) s (fun t =>
    t.kv.attends.dropLast = s.kv.attends ∧ t.kv.attends.getLast?.map (fun a => (a.id, a.tenant, a.session, a.layer, a.first, a.count)) =
    some (s.kv.nextAttend, x.tenant, x.session, bitsOf o.req.target.toNat 41 20 - x.base, first, count) ∧ t.kv.attends.getLast?.map (fun
    a => (a.running, a.qHeads, a.outFmt, a.outAddr)) = some (false, fieldAt o.data 24 1, fieldAt o.data 26 1, BitVec.ofNat 64 (fieldAt
    o.data 8 8)) ∧ t.mem = s.mem)) ∧
  (∀ (s : State) (id : Nat) (a : Attend), s.running = true → s.kv.attends.find? (fun a => !a.running) = some a → a.id = id →
    s.attendRunning < 1024 → Gives (.attendStart id) s (fun t => t.kv.attends = s.kv.attends.map (fun x => if x.id = id then
    { a with running := true } else x) ∧ Keeps [.kv] s t)) ∧
  (∀ (s : State) (id range : Nat) (a : Attend) (x : KvSession) (hp : List HeadPartial), s.running = true → s.kv.attends.find? (fun a =>
    decide (a.id = id)) = some a → a.running = true → a.failed = none → range < a.ranges → Store.read none a.partials range = none →
    a.stopped.contains range = false → s.session a.tenant a.session = some x → (s.begin.attendRange x a ((List.range (min (rangePages
    a.pages) (a.pages - range * rangePages a.pages))).map (fun k => a.firstPage + range * rangePages a.pages + k)) (List.replicate
    a.qHeads (emptyHead x.dim))).1 = .ok hp → Gives (.attendRangeDone id range false) s (fun t => (t.kv.attends.find? (fun a => decide
    (a.id = id))).bind (fun b => Store.read none b.partials range) = some hp ∧ t.mem = s.mem)) ∧
  (∀ (s : State) (id : Nat) (r : Response) (a : Attend) (out : List Byte), s.running = true → s.kv.attends.find? (fun a => decide (a.id =
    id)) = some a → a.output = some out → a.failed = none → a.op = 1 → a.req.posted = false → a.req.localA = 0 → r.status = .ok →
    (s.begin.writeLocal a.req.issuer a.req.tc a.outAddr out).1 = .ok → Gives (.attendOutputVisible id r) s (fun t => t.kv.attends =
    s.kv.attends.filter (fun x => decide (x.id ≠ id)) ∧ Answered t a.req 1 (fun r => decide (r.status = .ok)) = true))

/-- On a line without an entry and with a free way, RD_S grants E and RD_X grants M: a new entry names the agent as owner and the answer
  carries the line's bytes, or those of the half a CXL host asks for. UPG of a line that the agent alone shares grants M without data. WB
  of a line the agent owns writes its bytes to backing memory and nothing else, and frees the entry of an agent that holds the whole
  line. DROP of a line that the agent alone shares frees its entry. RD_SPEC of a line without an entry buffers it (R370). -/
def Obligations.CachingOperationsTakeEffect : Prop :=
  (∀ (s : State) (o : Operation) (n k : Nat) (a : Agent) (w : Nat × Window), Caches s o 0 n a w → s.entryAt (addrOffset o.req.target /
    128) = none → s.freeWay (addrOffset o.req.target / 128) (s.waysOf (s.part w.2.partition).tenant) = some k → s.coh.spec.all (fun x =>
    decide (x.line ≠ addrOffset o.req.target / 128)) = true → (s.lineRead (addrOffset o.req.target / 128) (a.span o).1 (a.span o).2).2 =
    true → Gives (.rdS o) s (fun t => (Store.read none t.coh.entries k).map (fun e => (e.line, e.state, e.owner)) = some (addrOffset
    o.req.target / 128, .em, n) ∧ Answered t o.req o.op (fun r => decide (r.status = .ok ∧ r.detail = 2 ∧ r.data = (s.lineRead
    (addrOffset o.req.target / 128) (a.span o).1 (a.span o).2).1)) = true ∧ Keeps [.coh, .remote, .pool, .dict, .freeCounter] s t)) ∧
  (∀ (s : State) (o : Operation) (n k : Nat) (a : Agent) (w : Nat × Window), Caches s o 0 n a w → s.entryAt (addrOffset o.req.target /
    128) = none → s.freeWay (addrOffset o.req.target / 128) (s.waysOf (s.part w.2.partition).tenant) = some k → s.coh.spec.all (fun x =>
    decide (x.line ≠ addrOffset o.req.target / 128)) = true → (s.lineRead (addrOffset o.req.target / 128) (a.span o).1 (a.span o).2).2 =
    true → Gives (.rdX o) s (fun t => (Store.read none t.coh.entries k).map (fun e => (e.line, e.state, e.owner)) = some (addrOffset
    o.req.target / 128, .em, n) ∧ Answered t o.req o.op (fun r => decide (r.status = .ok ∧ r.detail = 3 ∧ r.data = (s.lineRead
    (addrOffset o.req.target / 128) (a.span o).1 (a.span o).2).1)) = true ∧ Keeps [.coh, .remote, .pool, .dict, .freeCounter] s t)) ∧
  (∀ (s : State) (o : Operation) (n k : Nat) (a : Agent) (w : Nat × Window) (e : DirEntry), Caches s o 0 n a w → s.entryAt (addrOffset
    o.req.target / 128) = some (k, e) → e.state = .shared → e.sharers = [n] → Gives (.upg o) s (fun t => (Store.read none t.coh.entries
    k).map (fun e => (e.line, e.state, e.owner, e.sharers)) = some (e.line, .em, n, []) ∧ Answered t o.req o.op (fun r => decide
    (r.status = .ok ∧ r.detail = 3 ∧ r.data = [])) = true ∧ Keeps [.coh, .remote, .dict, .freeCounter] s t)) ∧
  (∀ (s : State) (o : Operation) (n k : Nat) (a : Agent) (w : Nat × Window) (e : DirEntry), Caches s o (if a.kind = 2 then 64 else 128) n
    a w → s.entryAt (addrOffset o.req.target / 128) = some (k, e) → e.state = .em → e.owner = n → s.firstPoison (s.backing w.2
    (addrOffset o.req.target / 128 * 128 + (a.span o).1)) (a.span o).2 = none → (sliceB o.data 0 (a.span o).2).length = (a.span o).2 →
    BytesCanonical s → Store.wf none s.coh.entries = true → Gives (.wb o) s (fun t => StoresMem s t (s.backing w.2 (addrOffset
    o.req.target / 128 * 128 + (a.span o).1)) (sliceB o.data 0 (a.span o).2) ∧ (a.kind ≠ 2 → Store.read none t.coh.entries k = none) ∧
    Answered t o.req o.op (fun r => decide (r.status = .ok)) = true)) ∧
  (∀ (s : State) (o : Operation) (n k : Nat) (a : Agent) (w : Nat × Window) (e : DirEntry), Caches s o 0 n a w → a.kind ≠ 2 → s.entryAt
    (addrOffset o.req.target / 128) = some (k, e) → e.state = .shared → e.sharers = [n] → Store.wf none s.coh.entries = true → Gives
    (.drop o) s (fun t => Store.read none t.coh.entries k = none ∧ Answered t o.req o.op (fun r => decide (r.status = .ok)) = true ∧
    Keeps [.coh, .remote, .dict, .freeCounter] s t)) ∧
  (∀ (s : State) (o : Operation) (n : Nat) (a : Agent) (w : Nat × Window), Caches s o 0 n a w → s.entryAt (addrOffset o.req.target / 128)
    = none → (s.lineRead (addrOffset o.req.target / 128) 0 128).2 = true → (s.sliceSpec (addrOffset o.req.target / 128)).length < 256 →
    s.coh.spec.all (fun x => decide (x.line ≠ addrOffset o.req.target / 128)) = true → Gives (.rdSpec o) s (fun t => t.coh.spec =
    s.coh.spec ++
    [{ line := addrOffset o.req.target / 128, agent := n, since := s.now, data := (s.lineRead (addrOffset o.req.target / 128) 0 128).1 }]
    ∧ Answered t o.req o.op (fun r => decide (r.status = .ok)) = true ∧ Keeps [.coh, .remote, .pool, .dict, .freeCounter] s t))

/-- A snoop answer that is not the last leaves the rest awaited; the last answer to a flush frees the entry and ends the flush (R362,
  R368). A flush that waited behind its line and finds no entry ends. A hold that ends lets time reach its end (R366). A snoop that is
  not answered in time fences the agent (R371). A buffered line goes after 10 microseconds (R370). An enable that R354 accepts opens the
  window; a disable leaves it DISABLING until no entry and no request of it is left (R372). A way mask that R356 accepts, a registration
  that R359 accepts and an unregistration take effect. -/
def Obligations.DirectoryAndWindowsChange : Prop :=
  (∀ (s : State) (agent line : Nat) (half : Option Nat) (r : LineReq), s.running = true → s.coh.requests.find? (fun r => decide (r.line =
    line) && r.snoops.any (fun x => decide (x.agent = agent) && decide (x.half = half))) = some r → r.snoops.filter (fun x => !(decide
    (x.agent = agent) && decide (x.half = half))) ≠ [] → Gives (.snoopResponse agent line half none) s (fun t => t.coh.requests =
    s.coh.requests.map (fun x => if x.id = r.id then
    { r with snoops := r.snoops.filter (fun x => !(decide (x.agent = agent) && decide (x.half = half))) } else x) ∧ Keeps [.coh] s t)) ∧
  (∀ (s : State) (agent line k : Nat) (half : Option Nat) (r : LineReq) (e : DirEntry), s.running = true → s.coh.requests.find? (fun r =>
    decide (r.line = line) && r.snoops.any (fun x => decide (x.agent = agent) && decide (x.half = half))) = some r → r.snoops.filter (fun
    x => !(decide (x.agent = agent) && decide (x.half = half))) = [] → r.op = .flush → r.got = [] → s.entryAt line = some (k, e) →
    Store.wf none s.coh.entries = true → Gives (.snoopResponse agent line half none) s (fun t => Store.read none t.coh.entries k = none ∧
    t.coh.requests = s.coh.requests.filter (fun x => decide (x.id ≠ r.id)) ∧ Keeps [.coh, .dict] s t)) ∧
  (∀ (s : State) (id : Nat) (r : LineReq), s.running = true → s.coh.requests.find? (fun r => decide (r.id = id)) = some r → r.wait =
    .busy → r.op = .flush → r.got = [] → s.coh.requests.filter (fun x => decide (x.line = r.line) && decide (x.id < r.id) && decide
    (x.wait ≠ .slice)) = [] → s.entryAt r.line = none → Gives (.directoryRequestResume id) s (fun t => t.coh.requests =
    s.coh.requests.filter (fun x => decide (x.id ≠ id)) ∧ Keeps [.coh, .dict] s t)) ∧
  (∀ (s : State) (line k : Nat) (e : DirEntry), s.running = true → s.entryAt line = some (k, e) → s.coh.requests.filter (fun r => decide
    (r.line = line) && decide (r.wait = .hold)) = [] → Gives (.holdExpiry line) s (fun t => e.holdUntil ≤ t.now ∧ Keeps [.now, .ftc,
    .dict] s t)) ∧
  (∀ (s : State) (agent line : Nat) (x : Snoop), s.running = true → (s.coh.requests.filter (fun r => decide (r.line = line))).findSome?
    (fun r => r.snoops.find? (fun x => decide (x.agent = agent))) = some x → Gives (.snoopTimeout agent line) s (fun t => (t.agent
    agent).fenced = true ∧ x.deadline ≤ t.now)) ∧
  (∀ (s : State) (line agent : Nat) (x : SpecLine), s.running = true → s.coh.spec.find? (fun x => decide (x.line = line) && decide
    (x.agent = agent)) = some x → Gives (.specBufferExpiry line agent) s (fun t => t.coh.spec = s.coh.spec.erase x ∧ x.since + usUnits 10
    ≤ t.now ∧ Keeps [.now, .ftc, .dict, .coh] s t)) ∧
  (∀ (s : State) (a : Access) (n : Nat) (p : Option Nat), s.running = true → accessMgmt a = true → s.windowCheck n
    { s.window n with partition := p.getD (s.window n).partition } = none → Gives (.windowEnable a n p) s (fun t => t.window n =
    { s.window n with partition := p.getD (s.window n).partition, enable := true, disabling := false, lastStatus := .ok } ∧ Answers t .ok
    ∧ Keeps [.coh, .mgmt, .freeCounter] s t)) ∧
  (∀ (s : State) (a : Access) (n : Nat), s.running = true → accessMgmt a = true → (s.window n).enable = true → Gives (.windowDisable a n)
    s (fun t => (t.window n).disabling = true ∧ (t.window n).enable = true ∧ Answers t .ok)) ∧
  (∀ (s : State) (n : Nat), s.running = true → s.power.resetDue = none → (s.window n).disabling = true → s.windowEntries (s.window n) =
    [] → s.coh.requests.all (fun r => decide (r.line * 128 < (s.window n).base ∨ (s.window n).base + (s.window n).pages * 65536 ≤ r.line
    * 128)) = true → Store.wf ({} : Window) s.coh.windows = true → Gives (.windowDisableComplete n) s (fun t => t.window n =
    { s.window n with enable := false, disabling := false } ∧ Keeps [.coh] s t)) ∧
  (∀ (s : State) (i : Issuer) (tn : Nat) (v : Word32), s.running = true → i.tenant = 0xFF → v.toNat < 65536 → s.coh.ways.any (fun e =>
    decide (e.1 ≠ tn) && decide (e.2 &&& v.setWidth 16 ≠ 0)) = false → s.ownsWindow tn = false → Store.wf 0 s.coh.ways = true → Gives
    (.wayMaskWrite i tn v) s (fun t => Store.read 0 t.coh.ways tn = v.setWidth 16 ∧ Answers t .ok ∧ Keeps [.coh, .mgmt, .freeCounter] s
    t)) ∧
  (∀ (s : State) (a : Access) (n kind : Nat), s.running = true → accessMgmt a = true → s.agentCheck n kind = none → Gives (.agentRegister
    a n kind) s (fun t => t.agent n = { s.agent n with kind := kind, fenced := false } ∧ Answers t .ok ∧ Keeps [.coh, .mgmt,
    .freeCounter] s t)) ∧
  (∀ (s : State) (a : Access) (n : Nat), s.running = true → accessMgmt a = true → Store.wf ({} : Agent) s.coh.agents = true → Gives
    (.agentUnregister a n) s (fun t => (t.agent n).kind = 0 ∧ Answers t .ok))

/-- An enable that R393 accepts begins: GEN advances, the slot bits and WRITTEN clear. When its zeroing is visible the stream is OPEN; so
  is a reset stream that has drained, and the RESET answers. A disable leaves it DISABLED. A put that R388 accepts is queued with its
  blocks; a block that is written raises WRITTEN and the granules. CZ_GET answers the expanded bytes. TRAIN computes one table for each
  slot of its mask and queues them; its end and LOAD_TABLE make their slots LOADED (R383, R384). SEAL seals once the accepted puts are
  done; RESET makes the stream RESETTING. A fetched table whose record checks is held (R391). -/
def Obligations.StreamsTakeEffect : Prop :=
  (∀ (s : State) (a : Access) (n : Nat), s.running = true → accessMgmt a = true → s.streamCheck n (s.stream n) = none → Gives
    (.streamEnable a n) s (fun t => t.stream n = { (s.stream n).fresh with enable := true, enabling := true, lastStatus := .ok } ∧
    Answers t .ok ∧ Keeps [.cz, .mgmt, .freeCounter] s t)) ∧
  (∀ (s : State) (n : Nat), s.running = true → (s.stream n).enabling = true → Gives (.streamEnableComplete n) s (fun t => t.stream n =
    { s.stream n with enabling := false, state := .opened } ∧ (∀ a, s.czOff (s.stream n) 0 ≤ a → a < s.czOff (s.stream n) 0 + (1024 + 8 *
    (s.stream n).maxBlocks) → t.memByte a = 0) ∧ (∀ a, a < s.czOff (s.stream n) 0 ∨ s.czOff (s.stream n) 0 + (1024 + 8 * (s.stream
    n).maxBlocks) ≤ a → t.memByte a = s.memByte a) ∧ Keeps [.cz, .mem, .pool] s t)) ∧
  (∀ (s : State) (n : Nat) (r : Req), s.running = true → (s.stream n).enabling = false → (s.stream n).resetReq = some r → (s.stream
    n).puts = [] → (s.stream n).trains = [] → (s.stream n).sealReq = none → r.posted = false → Gives (.streamEnableComplete n) s (fun t
    => t.stream n = { (s.stream n).fresh with state := .opened, resetReq := none } ∧ Answered t r 0x52 (fun a => decide (a.status = .ok))
    = true ∧ Keeps [.cz, .mem, .pool, .remote, .dict, .freeCounter] s t)) ∧
  (∀ (s : State) (a : Access) (n : Nat), s.running = true → accessMgmt a = true → Store.wf ({} : Stream) s.cz.streams = true → Gives
    (.streamDisable a n) s (fun t => (t.stream n).state = .disabled ∧ (t.stream n).enable = false ∧ Answers t .ok ∧ Keeps [.cz, .mgmt,
    .remote, .dict, .freeCounter] s t)) ∧
  (∀ (s : State) (o : Operation) (x : Stream), OnStream s o 0xFF x → o.operand1 = 0 → czSize o = true → (s.part x.partition).staticBy =
    none → x.state = .opened → x.closing = false → streamOffset o.req.target = x.accEnd * 4096 → x.accEnd + ceilDiv o.length 4096 ≤
    x.maxBlocks → o.length % 4096 % elemBytes x.elem = 0 → ceilDiv (ceilDiv o.length 4096) 15 + 1 ≤ x.freePages → Gives (.czPut o) s (fun
    t => t.stream (streamNo o.req.target) =
    { x with puts := x.puts ++ [{ req := o.req, first := x.accEnd, blocks := chunks4096 (ceilDiv o.length 4096) (sliceB o.data 0 o.length) }] }
    ∧ (t.outOp o.req.issuer false o.req.seq).isSome = true ∧ Keeps [.cz, .remote] s t)) ∧
  (∀ (s : State) (n g : Nat) (p : CzPut) (rest : List CzPut) (b : List Byte) (more : List (List Byte)) (x : Stream) (tb : List (Nat ×
    List Nat) × State) (e : List Byte × Option Nat × Nat), s.running = true → s.stream n = x → x.puts = p :: rest → p.blocks = b :: more
    → tb = s.begin.czTables (s.channelAt (s.czOff x (x.dataPage * 65536 + x.granules * 64))) n → e = encodeBlock x.elem x.gen x.written
    tb.1 b → g = (if 1024 < x.granules % 1024 + e.1.length / 64 then roundUp x.granules 1024 else x.granules) → (tb.2.storeWrite x
    (x.dataPage * 65536 + g * 64) e.1).1 = .ok → ((tb.2.storeWrite x (x.dataPage * 65536 + g * 64) e.1).2.storeWrite x (0x400 + 8 *
    x.written) (natLe 8 (g + e.1.length / 64 * 2 ^ 32 + 2 ^ 39))).1 = .ok → Gives (.czBlockVisible n) s (fun t => (t.stream n).written =
    x.written + 1 ∧ (t.stream n).granules = g + e.1.length / 64 ∧ (t.stream n).accepted = x.accepted + b.length ∧ (t.stream
    n).puts.length + (if more = [] then 1 else 0) = x.puts.length)) ∧
  (∀ (s : State) (o : Operation) (x : Stream) (r : List Byte × Status × State), OnStream s o 0xFF x → o.operand1 = 0 → czSize o = true →
    x.state ≠ .resetting → streamOffset o.req.target + o.length ≤ x.size → o.req.localA = 0 → r = s.begin.expandRange (streamNo
    o.req.target) (streamOffset o.req.target) (streamOffset o.req.target + o.length) ((List.range ((streamOffset o.req.target + o.length
    - 1) / 4096 + 1 - streamOffset o.req.target / 4096)).map (fun k => streamOffset o.req.target / 4096 + k)) [] → r.2.1 = .ok → Gives
    (.czGet o) s (fun t => Answered t o.req o.op (fun a => decide (a.status = .ok ∧ a.data = r.1 ∧ a.result = BitVec.ofNat 64
    r.1.length)) = true ∧ t.mem = s.mem)) ∧
  (∀ (s : State) (o : Operation) (x : Stream), CzControl s o 15 x → o.length ≠ 0 → o.length % 4096 = 0 → o.length ≤ 262144 →
    o.operand1.toNat % 16 ≠ 0 → (slotsOf (o.operand1.toNat % 16)).length ≤ o.length / 4096 → (slotsOf (o.operand1.toNat % 16)).any (fun k
    => x.used.getLsbD k) = false → addrRegion o.req.localA = 0 → s.isHere (addrNode o.req.localA) = true → s.poolCheck (addrOffset
    o.req.localA) o.length o.req.issuer.tenant none .get = none → s.firstPoison (addrOffset o.req.localA) o.length = none → Gives (.train
    o) s (fun t => t.stream (streamNo o.req.target) =
    { x with trains := x.trains ++ [{ req := o.req, mask := o.operand1.toNat % 16, tables := (List.range (slotsOf (o.operand1.toNat % 16)).length).map (fun i => ((slotsOf (o.operand1.toNat % 16)).getD i 0, trainLengths x.elem (sliceB (s.memBytes (addrOffset o.req.localA) o.length) ((trainGroup (o.length / 4096) (slotsOf (o.operand1.toNat % 16)).length i).1 * 4096) ((trainGroup (o.length / 4096) (slotsOf (o.operand1.toNat % 16)).length i).2 * 4096)))) }] }
    ∧ (t.outOp o.req.issuer false o.req.seq).isSome = true ∧ Keeps [.cz, .remote, .pool, .dict] s t)) ∧
  (∀ (s : State) (n : Nat) (x : Stream) (k : CzTrain) (rest : List CzTrain), s.running = true → s.stream n = x → x.trains = k :: rest →
    k.tables.all (fun e => decide (e.1 < 4) && !x.used.getLsbD e.1) = true → ((s.begin.setStream n { x with trains := rest }).loadSlots n
    k.tables).1 = .ok → k.req.posted = false → Store.wf ({} : Stream) s.cz.streams = true → Gives (.trainComplete n) s (fun t =>
    (t.stream n).trains = rest ∧ k.tables.all (fun e => (t.stream n).loaded.getLsbD e.1) = true ∧ Answered t k.req 0x52 (fun a => decide
    (a.status = .ok ∧ a.result = BitVec.ofNat 64 k.mask)) = true)) ∧
  (∀ (s : State) (o : Operation) (x : Stream), CzControl s o 3 x → o.length = 0 → fieldAt (sliceB o.data 0 256) 0 1 = o.operand1.toNat %
    4 → fieldAt (sliceB o.data 0 256) 1 1 = x.elem → lcheckOk (sliceB o.data 0 256) = true → lengthsOk (recordLengths (sliceB o.data 0
    256)) = true → x.used.getLsbD (o.operand1.toNat % 4) = false → x.damaged.getLsbD (o.operand1.toNat % 4) = false → (s.begin.loadSlot
    (streamNo o.req.target) (o.operand1.toNat % 4) (recordLengths (sliceB o.data 0 256))).1 = .ok → Gives (.loadTable o) s (fun t =>
    (t.stream (streamNo o.req.target)).loaded.getLsbD (o.operand1.toNat % 4) = true ∧ Answered t o.req o.op (fun a => decide (a.status =
    .ok)) = true)) ∧
  (∀ (s : State) (o : Operation) (x : Stream), CzControl s o 0 x → o.length = 0 → x.state = .opened → x.closing = false → Gives (.czSeal
    o) s (fun t => (x.puts = [] → t.stream (streamNo o.req.target) = { x with state := .sealed } ∧ Answered t o.req 0x52 (fun a => decide
    (a.status = .ok)) = true) ∧ (x.puts ≠ [] → t.stream (streamNo o.req.target) = { x with sealReq := some o.req } ∧ (t.outOp
    o.req.issuer false o.req.seq).isSome = true) ∧ Keeps [.cz, .remote, .dict, .freeCounter] s t)) ∧
  (∀ (s : State) (o : Operation) (x : Stream), CzControl s o 0 x → o.length = 0 → Gives (.streamReset o) s (fun t => t.stream (streamNo
    o.req.target) = { x with state := .resetting, resetReq := some o.req } ∧ (t.outOp o.req.issuer false o.req.seq).isSome = true ∧ Keeps
    [.cz, .remote] s t)) ∧
  (∀ (s : State) (n slot channel : Nat) (l : List Nat), s.running = true → (s.stream n).loaded.getLsbD slot = true → (s.stream
    n).damaged.getLsbD slot = false → (s.stream n).state ≠ .disabled → (s.begin.fetchTable channel n slot).1 = .ok l → Gives (.tableFetch
    n slot channel) s (fun t => t.cz.held.getLast? = some { channel := channel, stream := n, slot := slot, lengths := l } ∧ Keeps [.cz,
    .pool, .dict] s t))

/-- A query that R406 accepts joins the queries in acceptance order and counts in its index (R407). The head of an array's queue starts
  when its contexts are free. A shard query that reads what it needs leaves its keys (R408 to R412). A query whose output is visible
  leaves and answers RESULT_COUNT with its flags (R413); one whose time runs out before its last shard is in answers E_TIMEOUT (R407,
  R415). -/
def Obligations.VectorQueriesTakeEffect : Prop :=
  (∀ (s : State) (o : Operation) (n : Nat) (x : VIndex) (q : VQuery), OnIndex s o 0xFF n x → o.operand1 = 0 → q = vsQueryRec o x n
    s.meadow.nextQuery (s.now + usUnits (s.num O.queryTimeoutUs 10000)) → s.vsQueryCheck o x q = none → Gives (.vsQuery o) s (fun t =>
    t.meadow.queries.map (fun y => { y with late := .none }) = s.meadow.queries.map (fun y => { y with late := .none }) ++ [q] ∧
    t.meadow.nextQuery = s.meadow.nextQuery + 1 ∧ t.vindex n = { x with queries := x.queries + 1 } ∧ Keeps [.meadow, .remote] s t)) ∧
  (∀ (s : State) (die : Nat) (q : VQuery) (y : ShardQuery) (rest : List (VQuery × ShardQuery)), s.running = true → s.arrayQueue die = (q,
    y) :: rest → s.contextsFree die q.scan = true → s.closed (.meadowArray die) = false → Gives (.shardQueryStart die) s (fun t =>
    (t.vquery q.id).map (fun q => q.shards.any (fun z => decide (z.shard = y.shard) && z.started)) = some true ∧ Keeps [.meadow,
    .freeCounter] s t)) ∧
  (∀ (s : State) (id shard : Nat) (q : VQuery) (y : ShardQuery) (l : List (Word32 × Nat)) (w : VsWork), s.running = true → s.vquery id =
    some q → q.shards.find? (fun y => decide (y.shard = shard)) = some y → y.started = true → y.result = none → s.begin.vsShard
    { q := q, x := s.vindex q.index, h := shard, count := y.itemCount, side := y.sideCount } = .ok (l, w) → Gives (.shardQueryDone id
    shard) s (fun t => (t.vquery id).bind (fun q => (q.shards.find? (fun z => decide (z.shard = shard))).bind (fun z => z.result)) = some
    l ∧ t.mem = s.mem)) ∧
  (∀ (s : State) (id : Nat) (r : Response) (q : VQuery) (out : List Byte), s.running = true → s.vquery id = some q → q.output = some out
    → r.status = .ok → q.req.posted = false → (s.begin.writeLocal q.req.issuer q.req.tc q.outAddr out).1 = .ok → Gives (.vsResultVisible
    id r) s (fun t => t.meadow.queries = s.meadow.queries.filter (fun x => decide (x.id ≠ id)) ∧ Answered t q.req 0x60 (fun a => decide
    (a.status = .ok ∧ a.result = BitVec.ofNat 64 (fieldAt out 2 2) ∧ a.detail = fieldAt out 1 1)) = true)) ∧
  (∀ (s : State) (id : Nat) (q : VQuery), s.running = true → s.vquery id = some q → q.output = none → Gives (.queryTimeout id) s (fun t
    => t.meadow.queries = s.meadow.queries.filter (fun x => decide (x.id ≠ id)) ∧ Answered t q.req 0x60 (fun a => decide (a.status =
    .timeout)) = true ∧ q.deadline ≤ t.now ∧ Keeps [.now, .ftc, .meadow, .remote, .dict, .freeCounter] s t))

/-- ENABLE of a DISABLED index with a record that R403 accepts gives it the record. INSERT whose writes succeed adds a side record, or in
  place raises ITEM_COUNT when the item is new (R416, R417). DELETE of a live item with no query in progress answers 1, and of an item
  that is not live 0 (R418); one that waited answers 1 when those queries have ended. SET_NEIGHBOURS writes the list and nothing else
  (R419). MERGE with empty side lists ends at once, otherwise it copies and its switches follow; the last switch ends it (R420). DISABLE
  makes an ENABLED index DISABLING until its queries are done, then DISABLED (R421). -/
def Obligations.VectorIndexesChange : Prop :=
  (∀ (s : State) (o : Operation) (n : Nat) (x : VIndex), OnIndex s o 0xF0 n x → o.operand1 = 0 → o.length = 256 → s.vsEnableCheck o n =
    none → Gives (.vsEnable o) s (fun t => t.vindex n =
    { vsIndexRec (sliceB o.data 0 256) o.req.issuer.tenant with state := .enabled, pins := if (vsIndexRec (sliceB o.data 0 256) o.req.issuer.tenant).pinNear then (vsIndexRec (sliceB o.data 0 256) o.req.issuer.tenant).pinPages else [] }
    ∧ Answered t o.req o.op (fun a => decide (a.status = .ok)) = true ∧ Keeps [.meadow, .pool, .remote, .dict, .freeCounter] s t)) ∧
  (∀ (s : State) (o : Operation) (n : Nat) (x : VIndex), OnIndex s o 0xF0 n x → o.operand1 = 0 → o.length = 0 → IndexOpen o x → Gives
    (.vsDisable o) s (fun t => (t.vindex n).state = .disabling ∧ (t.vindex n).disabling = some o.req ∧ Keeps [.meadow, .remote, .dict,
    .freeCounter] s t)) ∧
  (∀ (s : State) (n : Nat) (r : Req), s.running = true → s.power.resetDue = none → (s.vindex n).state = .disabling → (s.vindex
    n).disabling = some r → r.posted = false → s.meadow.queries.any (fun q => decide (q.index = n)) = false → Store.wf ({} : VIndex)
    s.meadow.indexes = true → Gives (.vsDisableComplete n) s (fun t => t.vindex n = { lastStatus := (s.vindex n).lastStatus } ∧ Answered
    t r 0x61 (fun a => decide (a.status = .ok)) = true ∧ Keeps [.meadow, .pool, .remote, .dict, .freeCounter] s t)) ∧
  (∀ (s : State) (o : Operation) (n h j : Nat) (x x1 : VIndex) (w0 : Status × State), OnIndex s o 0xF0 n x → o.operand1 = 0 → IndexOpen o
    x → o.length = x.sr → x.locate (fieldAt (sliceB o.data 0 x.sr) 0 4) = some (h, j) → fieldAt (sliceB o.data 0 x.sr) 4 1 = 0 → zerosAt
    (sliceB o.data 0 x.sr) 5 59 = true → j ≤ (x.shard h).itemCount → neighboursOk x.degree (x.shard h).capacity (x.recParts (sliceB
    o.data 0 x.sr)).2.1 = true → s.begin.itemLive x h j (fieldAt (sliceB o.data 0 x.sr) 0 4) = false → x.deletes.any (fun d => decide
    (d.item = fieldAt (sliceB o.data 0 x.sr) 0 4)) = false → x.sideList = true → (x.shard h).merging = false → (x.shard h).sideCount ≠
    x.sideCapacity → w0 = (if j = (x.shard h).itemCount then s.begin.setTomb x h j true else (.ok, s.begin)) → w0.1 = .ok → x1 =
    x.setShard h { x.shard h with itemCount := if j = (x.shard h).itemCount then j + 1 else (x.shard h).itemCount } → ((w0.2.setVindex n
    x1).vsWrite x1 (x.shard h).partition (x.sideOff h (x.shard h).sideCount) (natLe 4 (fieldAt (sliceB o.data 0 x.sr) 0 4) ++ natLe 1 1
    ++ (sliceB o.data 0 x.sr).drop 5)).1 = .ok → Gives (.vsInsert o) s (fun t => ((t.vindex n).shard h).sideCount = (x.shard h).sideCount
    + 1 ∧ ((t.vindex n).shard h).itemCount = (if j = (x.shard h).itemCount then j + 1 else (x.shard h).itemCount) ∧ Answered t o.req o.op
    (fun a => decide (a.status = .ok)) = true)) ∧
  (∀ (s : State) (o : Operation) (n h j : Nat) (x x1 : VIndex) (w0 w : Status × State), OnIndex s o 0xF0 n x → o.operand1 = 0 → IndexOpen
    o x → o.length = x.sr → x.locate (fieldAt (sliceB o.data 0 x.sr) 0 4) = some (h, j) → fieldAt (sliceB o.data 0 x.sr) 4 1 = 0 →
    zerosAt (sliceB o.data 0 x.sr) 5 59 = true → j ≤ (x.shard h).itemCount → neighboursOk x.degree (x.shard h).capacity (x.recParts
    (sliceB o.data 0 x.sr)).2.1 = true → s.begin.itemLive x h j (fieldAt (sliceB o.data 0 x.sr) 0 4) = false → x.deletes.any (fun d =>
    decide (d.item = fieldAt (sliceB o.data 0 x.sr) 0 4)) = false → x.sideList = false → w0 = (if j = (x.shard h).itemCount then
    s.begin.setTomb x h j true else (.ok, s.begin)) → w0.1 = .ok → x1 = x.setShard h
    { x.shard h with itemCount := if j = (x.shard h).itemCount then j + 1 else (x.shard h).itemCount } → w = (w0.2.setVindex n
    x1).vsWrites x1 (x.shard h).partition [((x.shard h).vectorOff + j * x.vs, (x.recParts (sliceB o.data 0 x.sr)).2.2), ((x.shard
    h).graphOff + j * x.gs, (x.recParts (sliceB o.data 0 x.sr)).2.1), ((x.shard h).sketchOff + j * x.sb, (x.recParts (sliceB o.data 0
    x.sr)).1)] → w.1 = .ok → (w.2.setTomb x1 h j false).1 = .ok → Gives (.vsInsert o) s (fun t => t.vindex n = x1 ∧ t.mem = (w.2.setTomb
    x1 h j false).2.mem ∧ Answered t o.req o.op (fun a => decide (a.status = .ok)) = true)) ∧
  (∀ (s : State) (o : Operation) (n h j : Nat) (x : VIndex), OnIndex s o 0xF0 n x → IndexOpen o x → o.length = 0 → o.operand1.toNat < 2 ^
    32 → x.locate o.operand1.toNat = some (h, j) → s.begin.itemLive x h j o.operand1.toNat = true → (s.begin.vsKill x h j
    o.operand1.toNat).1 = .ok → s.vsRunning n h = [] → Gives (.vsDelete o) s (fun t => Answered t o.req o.op (fun a => decide (a.status =
    .ok ∧ a.result = 1)) = true ∧ t.mem = (s.begin.vsKill x h j o.operand1.toNat).2.mem)) ∧
  (∀ (s : State) (o : Operation) (n : Nat) (x : VIndex), OnIndex s o 0xF0 n x → IndexOpen o x → o.length = 0 → o.operand1.toNat < 2 ^ 32
    → (match x.locate o.operand1.toNat with | some (h, j) => s.begin.itemLive x h j o.operand1.toNat | none => false) = false → Gives
    (.vsDelete o) s (fun t => Answered t o.req o.op (fun a => decide (a.status = .ok ∧ a.result = 0)) = true ∧ Keeps [.remote, .dict,
    .freeCounter] s t)) ∧
  (∀ (s : State) (n item : Nat) (d : PendingDelete), s.running = true → (s.vindex n).deletes.find? (fun d => decide (d.item = item)) =
    some d → d.waits.any (fun id => (s.vquery id).isSome) = false → d.req.posted = false → Store.wf ({} : VIndex) s.meadow.indexes = true
    → Gives (.vsDeleteComplete n item) s (fun t => t.vindex n = { s.vindex n with deletes := (s.vindex n).deletes.erase d } ∧ Answered t
    d.req 0x61 (fun a => decide (a.status = .ok ∧ a.result = 1)) = true ∧ Keeps [.meadow, .remote, .dict, .freeCounter] s t)) ∧
  (∀ (s : State) (o : Operation) (n h j : Nat) (x : VIndex), OnIndex s o 0xF0 n x → IndexOpen o x → o.length = x.gs → o.operand1.toNat <
    2 ^ 32 → x.locate o.operand1.toNat = some (h, j) → j < (x.shard h).itemCount → neighboursOk x.degree (x.shard h).capacity (sliceB
    o.data 0 x.gs) = true → s.poolCheck ((s.part (x.shard h).partition).base + ((x.shard h).graphOff + j * x.gs)) (sliceB o.data 0
    x.gs).length x.tenant none .meadow = none → s.firstPoison ((s.part (x.shard h).partition).base + ((x.shard h).graphOff + j * x.gs))
    (sliceB o.data 0 x.gs).length = none → BytesCanonical s → Gives (.setNeighbours o) s (fun t => StoresMem s t ((s.part (x.shard
    h).partition).base + ((x.shard h).graphOff + j * x.gs)) (sliceB o.data 0 x.gs) ∧ Answered t o.req o.op (fun a => decide (a.status =
    .ok)) = true)) ∧
  (∀ (s : State) (o : Operation) (n : Nat) (x : VIndex), OnIndex s o 0xF0 n x → o.operand1 = 0 → IndexOpen o x → o.length = 0 → x.merge =
    none → x.sideList = true → (List.range x.shards.length).all (fun h => decide ((x.shard h).sideCount = 0)) = true → Gives (.merge o) s
    (fun t => t.vindex n = { x with merges := x.merges + 1, lastStatus := .ok } ∧ Answered t o.req o.op (fun a => decide (a.status = .ok
    ∧ a.result = 0)) = true ∧ Keeps [.meadow, .remote, .dict, .freeCounter] s t)) ∧
  (∀ (s : State) (o : Operation) (n : Nat) (x : VIndex) (hs : List Nat), OnIndex s o 0xF0 n x → o.operand1 = 0 → IndexOpen o x → o.length
    = 0 → x.merge = none → x.sideList = true → hs = (List.range x.shards.length).filter (fun h => decide ((x.shard h).sideCount ≠ 0)) →
    hs ≠ [] → (hs.foldl (fun (acc : Status × State) h => if acc.1 ≠ .ok then acc else acc.2.mergeCopy x h) (.ok, s.begin)).1 = .ok →
    Gives (.merge o) s (fun t => t.vindex n = { (x.mark hs true true) with merge := some { req := o.req, left := hs } } ∧ (t.outOp
    o.req.issuer false o.req.seq).isSome = true)) ∧
  (∀ (s : State) (n shard : Nat) (x : VIndex) (m : MergeJob), s.running = true → s.vindex n = x → x.merge = some m → m.left = [shard] →
    m.req.posted = false → s.meadow.queries.any (fun q => decide (q.index = n) && q.shards.any (fun y => decide (y.shard = shard) &&
    !y.held && y.result.isNone)) = false → Store.wf ({} : VIndex) s.meadow.indexes = true → Gives (.mergeSwitch n shard) s (fun t =>
    (t.vindex n).merge = none ∧ (t.vindex n).merges = x.merges + 1 ∧ ((t.vindex n).shard shard).sideCount = 0 ∧ Answered t m.req 0x61
    (fun a => decide (a.status = .ok ∧ a.result = BitVec.ofNat 64 (m.made + (s.begin.liveSide x shard).length))) = true))

/-- An enabled tenant has its field set (R426). A disable that nothing of the tenant's holds up clears it and destroys its keys (R426,
  R446). A write of cluster owners zeroes and gives exactly the clusters whose byte names another owner, and they leave ACTIVE (R433);
  when a cluster is zero it is ACTIVE, and the clear is recorded and chained into the head (R434, R435). A binding is set whole (R428).
  An assignment zeroes and gives only the queues or the sync objects that had another owner (R431). -/
def Obligations.TenantsAndOwnersChange : Prop :=
  (∀ (s : State) (a : Access) (tn : Nat) (requireEnc : Option Bool), s.running = true → accessMgmt a = true → (s.takeArm a
    (R.secTenantCtl tn)).1 = true → Gives (.tenantEnable a tn requireEnc) s (fun t => (t.tenant tn).enable = true ∧ (t.tenant
    tn).requireEnc = requireEnc.getD (s.tenant tn).requireEnc ∧ (∀ n, n ≠ tn → t.tenant n = s.tenant n) ∧ Answers t .ok ∧ Keeps [.dict,
    .remote, .sec, .mgmt, .freeCounter] s t)) ∧
  (∀ (s : State) (a : Access) (tn : Nat) (requireEnc : Option Bool), s.running = true → accessMgmt a = true → (s.takeArm a
    (R.secTenantCtl tn)).1 = true → s.tenantOwns tn = false → Store.wf ({} : Tenant) s.sec.tenants = true → Gives (.tenantDisable a tn
    requireEnc) s (fun t => (t.tenant tn).enable = false ∧ (t.tenant tn).requireEnc = requireEnc.getD (s.tenant tn).requireEnc ∧ (∀ n, n
    ≠ tn → t.tenant n = s.tenant n) ∧ Answers t .ok ∧ Keeps [.dict, .remote, .sec, .mgmt, .freeCounter] s t)) ∧
  (∀ (s : State) (i : Issuer) (w : Nat) (v : Word32), s.running = true → i.tenant = 0xFF → (∀ k ∈ List.range 4, v.toNat / 256 ^ k % 256 <
    64 ∨ v.toNat / 256 ^ k % 256 = 0xFF) → (∀ e ∈ s.ownerChanges w v.toNat, s.clusterBusy e.1 = false) → Store.wf 0xFF s.sec.clusterOwner
    = true → Gives (.clusterOwnerWrite i w v) s (fun t => (∀ k ∈ List.range 4, Store.read 0xFF t.sec.clusterOwner (4 * w + k) = v.toNat /
    256 ^ k % 256) ∧ (∀ e ∈ s.ownerChanges w v.toNat, (t.unit (clusterLoc e.1)).state = .inReset) ∧ (∀ e ∈ s.ownerChanges w v.toNat,
    t.sec.clusterClears.any (fun x => decide (x.1 = e.1)) = true) ∧ (∀ a, (∃ e ∈ s.ownerChanges w v.toNat, a / 0x200000 = e.1 ∨
    0x20000000 ≤ a ∧ (a - 0x20000000) / 0x200000 = e.1) → t.sramByte a = 0) ∧ (∀ a, (∀ e ∈ s.ownerChanges w v.toNat, a / 0x200000 ≠ e.1 ∧
    (a < 0x20000000 ∨ (a - 0x20000000) / 0x200000 ≠ e.1)) → t.sramByte a = s.sramByte a) ∧ Answers t .ok ∧ Keeps [.sec, .mgmt, .power,
    .sram, .florets, .remote, .freeCounter] s t)) ∧
  (∀ (s : State) (cluster prev start : Nat), s.running = true → s.sec.clusterClears.find? (fun e => decide (e.1 = cluster)) = some
    (cluster, prev, start) → Store.wf ({} : UnitRec) s.power.units = true → Gives (.clusterClearComplete cluster) s (fun t => t.unit
    (clusterLoc cluster) = { s.unit (clusterLoc cluster) with state := .active } ∧ t.sec.clusterClears = s.sec.clusterClears.filter (fun
    e => decide (e.1 ≠ cluster)) ∧ t.sec.clearSeq = s.sec.clearSeq + 1 ∧ t.sec.clearHead = Config.sha384 (s.sec.clearHead ++
    t.sec.clearLog.getLastD []) ∧ (t.sec.clearLog.getLastD []).take 12 = natLe 8 (s.sec.clearSeq + 1) ++ natLe 1 3 ++ natLe 1 prev ++
    natLe 2 cluster ∧ t.sec.clusterOwner = s.sec.clusterOwner ∧ Keeps [.sec, .power] s t)) ∧
  (∀ (s : State) (i : Issuer) (port : Nat) (v : Word32), s.running = true → i.tenant = 0xFF → s.present (.port port) = true → bitsOf
    v.toNat 31 29 = 0 → v.toNat % 256 < 64 ∨ 0xFE ≤ v.toNat % 256 → s.portUp port = false → Store.wf ({} : PortBind) s.sec.binds = true →
    Gives (.portBindWrite i port v) s (fun t => t.bind port =
    { s.bind port with tenant := v.toNat % 256, nodeBase := bitsOf v.toNat 23 8, countM1 := bitsOf v.toNat 27 24 } ∧ (∀ p, p ≠ port →
    t.bind p = s.bind p) ∧ Answers t .ok ∧ Keeps [.dict, .remote, .sec, .mgmt, .freeCounter] s t)) ∧
  (∀ (s : State) (i : Issuer) (v : Word32), s.running = true → i.tenant = 0xFF → bitsOf v.toNat 31 30 = 0 → bitsOf v.toNat 21 20 = 0 →
    bitsOf v.toNat 29 22 < 64 ∨ bitsOf v.toNat 29 22 = 0xFF → s.assignCheck false s.sec.assignFirst (bitsOf v.toNat 19 0) (bitsOf v.toNat
    29 22) = none → Store.wf ({} : QueueCtx) s.remote.queues = true → Gives (.secAssign i v) s (fun t => (∀ q, s.sec.assignFirst ≤ q → q
    < s.sec.assignFirst + bitsOf v.toNat 19 0 → (s.queue q).owner ≠ bitsOf v.toNat 29 22 → t.queue q =
    { owner := bitsOf v.toNat 29 22, cqNone := false, maxInflight := 0 }) ∧ (∀ q, (q < s.sec.assignFirst ∨ s.sec.assignFirst + bitsOf
    v.toNat 19 0 ≤ q ∨ (s.queue q).owner = bitsOf v.toNat 29 22) → t.queue q = s.queue q) ∧ Answers t .ok ∧ Keeps [.remote, .mgmt,
    .freeCounter] s t)) ∧
  (∀ (s : State) (i : Issuer) (v : Word32), s.running = true → i.tenant = 0xFF → bitsOf v.toNat 31 30 = 0 → bitsOf v.toNat 21 20 = 1 →
    bitsOf v.toNat 29 22 < 64 ∨ bitsOf v.toNat 29 22 = 0xFF → s.assignCheck true s.sec.assignFirst (bitsOf v.toNat 19 0) (bitsOf v.toNat
    29 22) = none → Store.wf ({} : SyncObj) s.remote.syncs = true → Gives (.secAssign i v) s (fun t => (∀ n, s.sec.assignFirst ≤ n → n <
    s.sec.assignFirst + bitsOf v.toNat 19 0 → (s.sync n).owner ≠ bitsOf v.toNat 29 22 → t.sync n = assignedSync (s.sync n) (bitsOf
    v.toNat 29 22)) ∧ (∀ n, (n < s.sec.assignFirst ∨ s.sec.assignFirst + bitsOf v.toNat 19 0 ≤ n ∨ (s.sync n).owner = bitsOf v.toNat 29
    22) → t.sync n = s.sync n) ∧ Answers t .ok ∧ Keeps [.remote, .mgmt, .freeCounter] s t))

/-- Bondiush answers requests and opens, finishes and ends sessions; a measurement request answers the measurement (R436, R438). A
  release that R445 accepts fills one free slot and answers it; a DESTROY of the key service frees it (R446). MK_DECRYPT writes the
  plaintext over exactly its destination, or zeros and E_AUTH when the tag fails (R447). VERIFY, ACTIVATE, COMMIT and ABORT act on the
  banks and leave their STATUS (R449, R453); COMMIT raises the fused SVN (R546). At the soft limit a link goes to its next key, at the
  hard limit the port is LOST with E_LINK (R443). What the opaque cryptography answers is left open. -/
def Obligations.SessionsKeysAndFirmwareChange : Prop :=
  (∀ (s : State) (port : Option Nat) (r : SpdmRequest), s.running = true → Gives (.spdmMessage port r) s (fun t => t.out.sent.contains
    (.spdm port (s.begin.spdmAnswer port r).1 (s.begin.spdmAnswer port r).2.1) = true ∧ t.freeCounter > s.freeCounter ∧ Keeps [.dict,
    .remote, .sec, .mgmt, .freeCounter] s t)) ∧
  (∀ (s : State) (port : Option Nat), s.running = true → s.sec.sessions.length < 128 → Gives (.spdmMessage port (.keyExchange)) s (fun t
    => t.sec.sessions.length = s.sec.sessions.length + 1 ∧ t.sec.sessions.take s.sec.sessions.length = s.sec.sessions ∧
    (t.sec.sessions.getLastD { id := 0, port := none }).port = port ∧ (t.sec.sessions.getLastD { id := 0, port := none }).secure = false
    ∧ s.sec.sessions.all (fun x => decide (x.id ≠ (t.sec.sessions.getLastD { id := 0, port := none }).id)) = true)) ∧
  (∀ (s : State) (port : Option Nat) (n : Nat) (d : List Byte) (x : SpdmSession), s.running = true → s.spdmSession n = some x → Gives
    (.spdmMessage port (.finish n d)) s (fun t => t.spdmSession n = some { x with secure := true, keyDigest := d })) ∧
  (∀ (s : State) (port : Option Nat) (n : Nat), s.running = true → (s.spdmSession n).isSome = true → Gives (.spdmMessage port
    (.endSession n)) s (fun t => t.sec.sessions = s.sec.sessions.filter (fun x => decide (x.id ≠ n)) ∧ Keeps [.sec, .freeCounter] s t)) ∧
  (∀ (s : State) (port : Option Nat) (i : Nat) (nonce : List Byte), s.running = true → 1 ≤ i → i ≤ 16 → Gives (.spdmMessage port
    (.measurements i nonce)) s (fun t => t.out.sent = [.spdm port true (s.measurement i ++ Config.spdmBody s.freeCounter nonce)] ∧ Keeps
    [.freeCounter] s t)) ∧
  (∀ (s : State) (session : Nat) (payload : List Byte), s.running = true → s.isKeyService session (fieldAt payload 0 1) = true →
    (s.tenant (fieldAt payload 0 1)).enable = true → fieldAt payload 1 1 < 4 → bitsOf (fieldAt payload 2 2) 6 1 = 63 → bitAt (fieldAt
    payload 2 2) 0 = false → bitsOf (fieldAt payload 2 2) 15 8 = 0 → payload.length = 92 + 48 * (maskIndices (fieldAt payload 2
    2)).length → (∀ d ∈ releaseDigests payload (fieldAt payload 2 2), s.measurement d.1 = d.2) → s.heldKeys.length < 256 → Gives
    (.keyRelease session payload) s (fun t => (∃ slot, slot < 256 ∧ s.key slot = none ∧ t.key slot = some
    { tenant := fieldAt payload 0 1, confidential := bitAt (fieldAt payload 1 1) 0, planBound := bitAt (fieldAt payload 1 1) 1, mask := fieldAt payload 2 2, modelId := BitVec.ofNat 64 (fieldAt payload 4 8), key := sliceB payload 12 32, planDigest := sliceB payload 44 48, digests := releaseDigests payload (fieldAt payload 2 2) }
    ∧ (∀ n, n ≠ slot → t.key n = s.key n) ∧ t.out.resp.map (·.result) = some (BitVec.ofNat 64 slot)) ∧ Answers t .ok ∧ Keeps [.sec,
    .freeCounter] s t)) ∧
  (∀ (s : State) (session slot : Nat) (k : ModelKey), s.running = true → s.key slot = some k → s.isKeyService session k.tenant = true →
    Store.wf none s.sec.keys = true → Gives (.keyDestroy session slot) s (fun t => t.key slot = none ∧ (∀ n, n ≠ slot → t.key n = s.key
    n) ∧ Answers t .ok ∧ Keeps [.dict, .remote, .sec, .mgmt, .freeCounter] s t)) ∧
  (∀ (s : State) (o : Operation) (k : ModelKey), Arrives s o 0xFF → o.req.posted = false → s.decryptCheck o = none → s.key
    (o.operand1.toNat % 256) = some k → s.firstPoison (addrOffset o.req.localA) (64 + o.length) = none → s.firstPoison (addrOffset
    o.req.target) o.length = none → s.faults.ckpts = [] → BytesCanonical s → Gives (.mkDecrypt o) s (fun t =>
    (match Config.gcmDecrypt k.key (sliceB (s.memBytes (addrOffset o.req.localA) 64) 20 12) (s.memBytes (addrOffset o.req.localA) 20) (s.memBytes (addrOffset o.req.localA + 64) o.length) (sliceB (s.memBytes (addrOffset o.req.localA) 64) 32 16) with | some pt => StoresMem s t (addrOffset o.req.target) (sliceB pt 0 o.length) ∧ Answered t o.req o.op (fun a => decide (a.status = .ok ∧ a.disp = .served)) = true | none => StoresMem s t (addrOffset o.req.target) (List.replicate o.length 0) ∧ Answered t o.req o.op (fun a => decide (a.status = .auth ∧ a.disp = .served)) = true))) ∧
  (∀ (s : State) (p : DictPath) (b : Nat) (img : Fin 64 × List (List Byte) × List Byte × List Byte), s.managed = true → b = s.otherBank →
    img = Config.imageInfo (s.bankImage b) → Gives (.verify p) s (fun t => (if Config.ecdsaVerify Config.firmwareKey (Config.sha384
    img.2.2.1) img.2.2.2 = true ∧ s.power.fusedSvn ≤ img.1.val then t.bank b =
    { s.bank b with signed := true, verified := true, svn := img.1.val, digests := img.2.1.map digest48 } ∧ t.sec.fwStatus = .ok ∧
    Answers t .ok else (t.bank b).verified = false ∧ t.sec.fwStatus = .auth ∧ Answers t .auth) ∧ t.bank s.sec.running = s.bank
    s.sec.running ∧ Keeps [.dict, .remote, .sec, .mgmt, .freeCounter] s t)) ∧
  (∀ (s : State) (p : DictPath), s.managed = true → (s.bank s.otherBank).verified = true → Gives (.activate p) s (fun t =>
    t.sec.activated = some s.otherBank ∧ t.sec.fwStatus = .ok ∧ Answers t .ok ∧ Keeps [.dict, .remote, .sec, .mgmt, .freeCounter] s t)) ∧
  (∀ (s : State) (p : DictPath), s.managed = true → (s.bank s.otherBank).verified = false → Gives (.activate p) s (fun t =>
    t.sec.activated = s.sec.activated ∧ t.sec.fwStatus = .busy ∧ Answers t .busy ∧ Keeps [.dict, .remote, .sec, .mgmt, .freeCounter] s
    t)) ∧
  (∀ (s : State) (p : DictPath), s.running = true → s.sec.bootedNew = some s.sec.running → Gives (.commit p (none)) s (fun t =>
    t.power.fusedSvn = max s.power.fusedSvn (s.bank s.sec.running).svn ∧ t.sec.bootedNew = none ∧ t.sec.fwStatus = .ok ∧ Answers t .ok ∧
    Keeps [.dict, .remote, .sec, .mgmt, .power, .freeCounter] s t)) ∧
  (∀ (s : State) (p : DictPath) (b : Nat), s.running = true → s.sec.activated = some b → Gives (.abort p) s (fun t => t.sec.activated =
    none ∧ t.sec.fwStatus = .ok ∧ Answers t .ok ∧ Keeps [.dict, .remote, .sec, .mgmt, .freeCounter] s t)) ∧
  (∀ (s : State) (port : Nat), s.running = true → (s.crypt port).active = true → Gives (.rekey port) s (fun t => t.crypt port =
    { s.crypt port with keyGen := (s.crypt port).keyGen + 1, counter := 0, gpos := 0 } ∧ Keeps [.dict, .sec] s t)) ∧
  (∀ (s : State) (port : Nat), s.running = true → (s.crypt port).active = true → (s.port port).up = true → ((s.port port).lostAt.filter
    (fun x => decide (s.now < x + msUnits 1000))).length < 3 → Store.wf ({} : PortCrypt) s.sec.crypt = true → s.liveSlots = [] → Gives
    (.rekeyHardLimit port) s (fun t => (t.port port).state = .lost ∧ (t.port port).lastDown = .link ∧ (t.port port).retrainAt = (if
    (s.port port).enable = true then some (s.now + usUnits 10) else none) ∧ (t.crypt port).active = false))

/-- A write of the mode of a port whose ENABLE is 0 sets it; ENABLE starts training, a clear of ENABLE disables the port, RETRAIN tells
  the peer and starts training again (R455, R471, R472). Training finishes state by state: NEGOTIATE on the widest lane set that locked,
  with CAPS sent; the peer's CAPS are taken or fail the port; the session makes encryption ACTIVE; CALIBRATE ends ACTIVE with its
  headroom reserved, or fails with E_NOSPACE (R236, R472-R475). A state that lasts to its limit fails, and training starts again 10 ms
  later. CXL and PCIe links come up and are lost (R458, R469). An unfence clears the port's FENCED bit (R555). -/
def Obligations.PortsTrain : Prop :=
  (∀ (s : State) (a : Access) (port mode : Nat) (width8 : Bool), s.running = true → accessMgmt a = true → (s.takeArm a (R.portModeCtl
    port)).1 = true → (s.port port).enable = false → s.portCtlBad port mode width8 false = none → Store.wf ({} : Port) s.links.ports =
    true → Gives (.portModeWrite a port mode width8) s (fun t => t.port port =
    { s.port port with mode := [PortMode.disabled, .opvitik, .cxl, .pcie].getD mode .disabled, width8 := width8 } ∧ (∀ p, p ≠ port →
    t.port p = s.port p) ∧ Answers t .ok ∧ Keeps [.links, .mgmt, .freeCounter] s t)) ∧
  (∀ (s : State) (i : Issuer) (port : Nat), s.running = true → i.tenant = 0xFF → (s.takeArm (.csr i) (R.portModeCtl port)).1 = true →
    (s.port port).enable = false → (s.port port).mode ≠ .disabled → s.portCtlBad port (s.port port).mode.code (s.port port).width8 true =
    none → Gives (.portEnable i port) s (fun t => t.port port =
    { ({ s.port port with enable := true } : Port).cleared .electrical s.now with lanes := [] } ∧ (∀ p, p ≠ port → t.port p = s.port p) ∧
    Answers t .ok ∧ Keeps [.links, .mgmt, .freeCounter] s t)) ∧
  (∀ (s : State) (i : Issuer) (port : Nat), s.running = true → i.tenant = 0xFF → (s.takeArm (.csr i) (R.portModeCtl port)).1 = true →
    (s.port port).enable = true → s.portCtlBad port (s.port port).mode.code (s.port port).width8 false = none → Store.wf ({} : PortCrypt)
    s.sec.crypt = true → Gives (.portDisable i port) s (fun t => (t.port port).enable = false ∧ (t.port port).state = .disabled ∧ (t.port
    port).up = false ∧ (t.port port).mode = (s.port port).mode ∧ (t.crypt port).active = false ∧ Answers t .ok ∧ Keeps [.dict, .csr,
    .remote, .florets, .sw, .sec, .links, .mgmt, .freeCounter] s t)) ∧
  (∀ (s : State) (i : Issuer) (port : Nat), s.running = true → i.tenant = 0xFF → (s.takeArm (.csr i) (R.portModeCtl port)).1 = true →
    (s.port port).enable = true → (s.port port).mode ≠ .disabled → s.portCtlBad port (s.port port).mode.code (s.port port).width8 true =
    none → Gives (.retrain i port) s (fun t => (t.port port).state = .electrical ∧ (t.port port).enable = true ∧ (t.port port).lanes = []
    ∧ (t.port port).replay = [] ∧ t.out.sent.contains (.linkMsg port [0x03]) = true ∧ Answers t .ok ∧ Keeps [.dict, .csr, .remote,
    .florets, .sw, .sec, .links, .mgmt, .freeCounter] s t)) ∧
  (∀ (s : State) (port : Nat) (lanes l : List Nat), s.running = true → (s.port port).state = .electrical → (s.port port).mode = .opvitik
    → (s.port port).retrainAt = none → pickLanes (s.port port).width8 lanes.contains (if (s.port port).width8 then [8, 4] else [16, 8,
    4]) = some l → Gives (.electricalTrainingDone port lanes) s (fun t => (t.port port).state = .negotiate ∧ (t.port port).since = s.now
    ∧ (t.port port).width = l.length ∧ (∀ n, n < 16 → (Store.read ({} : Lane) (t.port port).lanes n).inUse = l.contains n) ∧ t.out.sent =
    [.linkMsg port (t.ownCaps port)] ∧ Keeps [.links] s t)) ∧
  (∀ (s : State) (port : Nat) (lanes : List Nat), s.running = true → (s.port port).state = .electrical → (s.port port).mode = .opvitik →
    (s.port port).retrainAt = none → pickLanes (s.port port).width8 lanes.contains (if (s.port port).width8 then [8, 4] else [16, 8, 4])
    = none → Gives (.electricalTrainingDone port lanes) s (fun t => (t.port port).state = .electrical ∧ (t.port port).lastDown = .link ∧
    (t.port port).retrainAt = some (s.now + msUnits 10) ∧ Keeps [.dict, .remote, .links, .mgmt, .freeCounter] s t)) ∧
  (∀ (s : State) (port : Nat) (message : List Byte), s.running = true → (s.port port).state = .negotiate → (s.port port).retrainAt = none
    → fieldAt message 0 1 = 1 → s.capsBad port message = none → Store.wf 0 s.sw.credits = true → Store.wf ({} : PortCrypt) s.sec.crypt =
    true → Gives (.caps port message) s (fun t => t.port port =
    { s.port port with gen := min 1 (fieldAt message 2 1), agreed := BitVec.ofNat 6 (fieldAt message 4 2) &&& (s.port port).offer, peerNode := fieldAt message 6 2, peerPort := fieldAt message 8 1 % 64, peerEndpoint := decide (fieldAt message 3 1 ≠ 0), peerRank := fieldAt message 28 2, state := if (s.crypt port).policy = 1 then .secure else .calibrate, since := s.now }
    ∧ (t.crypt port).inForce = (s.crypt port).policy ∧ (∀ n, n < 9 → Store.read 0 t.sw.credits (16 * port + n) = fieldAt message (10 + 2
    * n) 2) ∧ Keeps [.links, .sec, .sw] s t)) ∧
  (∀ (s : State) (port : Nat) (message : List Byte) (st : Status), s.running = true → (s.port port).state = .negotiate → (s.port
    port).retrainAt = none → fieldAt message 0 1 = 1 → s.capsBad port message = some st → Gives (.caps port message) s (fun t => t.port
    port = { s.port port with lastDown := st, retrainAt := some (s.now + msUnits 10) } ∧ Keeps [.dict, .remote, .links, .mgmt,
    .freeCounter] s t)) ∧
  (∀ (s : State) (port : Nat) (secret : List Byte), s.running = true → (s.port port).state = .secure → (s.port port).retrainAt = none →
    (s.port port).mode = .opvitik → Store.wf ({} : PortBind) s.sec.binds = true → Gives (.secureDone port secret) s (fun t => t.port port
    = { s.port port with state := .calibrate, since := s.now } ∧ t.crypt port =
    { s.crypt port with active := true, keyGen := 0, keyGenRx := 0, counter := 0, counterRx := 0, gpos := 0, recentFails := [], secret := secret }
    ∧ t.bind port = { s.bind port with peerDzm := !(s.port port).peerEndpoint } ∧ Keeps [.links, .sec] s t)) ∧
  (∀ (s : State) (port delayNs : Nat) (asym : Int), s.running = true → (s.port port).state = .calibrate → (s.port port).retrainAt = none
    → s.headroomNeed (s.port port).mode ≤ s.cellsUnassigned → Store.wf 0 s.sw.headroom = true → Gives (.calibrateDone port delayNs asym)
    s (fun t => t.port port = { s.port port with delay := nsUnits delayNs, asym := asym, state := .active, since := s.now } ∧ Store.read
    0 t.sw.headroom port = s.headroomNeed (s.port port).mode ∧ Keeps [.dict, .remote, .links, .sw, .mgmt, .freeCounter] s t)) ∧
  (∀ (s : State) (port delayNs : Nat) (asym : Int), s.running = true → (s.port port).state = .calibrate → (s.port port).retrainAt = none
    → s.cellsUnassigned < s.headroomNeed (s.port port).mode → Gives (.calibrateDone port delayNs asym) s (fun t => (t.port port).state =
    .calibrate ∧ (t.port port).lastDown = .nospace ∧ (t.port port).retrainAt = some (s.now + msUnits 10) ∧ Keeps [.dict, .remote, .links,
    .mgmt, .freeCounter] s t)) ∧
  (∀ (s : State) (port ms : Nat) (st : Status), s.running = true → (s.port port).retrainAt = none → ((s.port port).state, ms, st) ∈
    [(PortState.electrical, 500, Status.link), (.secure, 100, .auth), (.calibrate, 1, .nospace)] → Gives (.trainingTimeout port) s (fun t
    => t.now = max s.now ((s.port port).since + msUnits ms) ∧ t.port port =
    { s.port port with lastDown := st, retrainAt := some (t.now + msUnits 10) } ∧ Keeps [.now, .ftc, .dict, .remote, .links, .mgmt,
    .freeCounter] s t)) ∧
  (∀ (s : State) (port : Nat), s.running = true → (s.port port).retrainAt = none → (s.port port).state = .negotiate → Gives
    (.trainingTimeout port) s (fun t => t.now = max s.now ((s.port port).since + msUnits 1) ∧ (t.port port).lastDown = .notsup ∨ (t.port
    port).lastDown = .param ∧ (t.port port).retrainAt = some (t.now + msUnits 10) ∧ Keeps [.now, .ftc, .dict, .remote, .links, .mgmt,
    .freeCounter] s t)) ∧
  (∀ (s : State) (port due : Nat), s.running = true → (s.port port).retrainAt = some due → Gives (.trainingRestart port) s (fun t =>
    t.now = max s.now due ∧ t.port port = { (s.port port).cleared .electrical t.now with lanes := [] } ∧ Keeps [.now, .ftc, .dict,
    .links] s t)) ∧
  (∀ (s : State) (port rate width : Nat), s.running = true → (s.port port).state = .electrical → (s.port port).mode = .cxl ∨ (s.port
    port).mode = .pcie → (s.port port).retrainAt = none → 64 ≤ rate → width = 16 ∨ width = 8 → (s.crypt port).policy = 1 → Gives
    (.cxlPcieLinkUp port rate width) s (fun t => (t.port port).state = .secure ∧ (t.port port).width = width ∧ (t.port port).since =
    s.now ∧ Keeps [.links, .sec] s t)) ∧
  (∀ (s : State) (port rate width : Nat), s.running = true → (s.port port).state = .electrical → (s.port port).mode = .cxl ∨ (s.port
    port).mode = .pcie → (s.port port).retrainAt = none → 64 ≤ rate → width = 16 ∨ width = 8 → (s.crypt port).policy ≠ 1 → 1536 ≤
    s.cellsUnassigned → Gives (.cxlPcieLinkUp port rate width) s (fun t => (t.port port).state = .active ∧ (t.port port).width = width ∧
    Store.read 0 t.sw.headroom port = 1536 ∧ Keeps [.links, .sec, .sw] s t)) ∧
  (∀ (s : State) (port : Nat), s.running = true → (s.port port).up = true → (s.port port).mode = .cxl ∨ (s.port port).mode = .pcie →
    ((s.port port).lostAt.filter (fun x => decide (s.now < x + msUnits 1000))).length < 3 → s.liveSlots = [] → Gives (.cxlPcieLinkLoss
    port) s (fun t => (t.port port).state = .lost ∧ (t.port port).lastDown = .link ∧ (t.port port).lostAt = (s.port port).lostAt.filter
    (fun x => decide (s.now < x + msUnits 1000)) ++ [s.now] ∧ (t.port port).retrainAt = (if (s.port port).enable = true then some (s.now
    + usUnits 10) else none) ∧ s.faults.seq < t.faults.seq)) ∧
  (∀ (s : State) (a : Access) (port : Nat), s.running = true → accessMgmt a = true → port < 36 → s.present (.port port) = true → Gives
    (.portUnfence a port) s (fun t => t.faults = { s.faults with fenced := s.faults.fenced &&& ~~~(BitVec.ofNat 36 (2 ^ port)) } ∧
    t.faults.fenced.getLsbD port = false ∧ Answers t .ok ∧ Keeps [.faults, .mgmt, .freeCounter] s t))

/-- A data flit in SEQ order joins its frame, counts its credit and is acknowledged later; a flit whose header fails its check is
  answered by one NAK for the flit after the last accepted one (R461-R463, R467, R468). An ACK frees the flits up to the one it names; a
  NAK sends what remains again in order (R467, R468). The ACK sent names the last flit before every frame that is not linked yet (R251,
  R467). An unanswered NAK goes out again, and at the last attempt the port is LOST (R469). A failed lane degrades the port to its widest
  good lane set at an agreed FTC (R471); without such a set it is LOST. -/
def Obligations.LinksCarryAndRecover : Prop :=
  (∀ (s : State) (port : Nat) (h : FlitHeader) (payload : List Byte) (tagOk : Bool) (bytes : List Byte), s.running = true → (s.port
    port).up = true → (s.port port).mode = .opvitik → s.wordInjected port = false → flitCrcOk h = true → flitBad h = false → (s.crypt
    port).active = true → tagOk = true → h.ackKind = 0 → h.ftype = 1 → h.seq = ((s.port port).lastAccepted + 1) % 4096 → h.fstart = true
    → hchkOk (payload.take 32) = true → bytes = (if h.fstart then [] else Store.read [] (s.port port).reasm h.vc) ++ payload.take h.fill
    → Store.wf 0 s.sw.credits = true → Store.wf [] (s.port port).reasm = true → Gives (.flitReceive port h payload tagOk) s (fun t =>
    (t.port port).lastAccepted = h.seq ∧ (t.port port).unacked = (s.port port).unacked + 1 ∧ (t.port port).awaited = none ∧ (t.port
    port).arrived = (if h.fend then (s.port port).arrived ++ [(bytes, h.seq)] else (s.port port).arrived) ∧ Store.read [] (t.port
    port).reasm h.vc = (if h.fend then [] else bytes) ∧ Store.read 0 t.sw.credits (16 * port + h.crVc) = Store.read 0 s.sw.credits (16 *
    port + h.crVc) + h.crCells ∧ Keeps [.dict, .sec, .sw, .links] s t)) ∧
  (∀ (s : State) (port : Nat) (h : FlitHeader) (payload : List Byte) (tagOk : Bool), s.running = true → (s.port port).up = true → (s.port
    port).mode = .opvitik → s.wordInjected port = false → flitCrcOk h = false → (s.port port).awaited = none → Gives (.flitReceive port h
    payload tagOk) s (fun t => (t.port port).awaited = some (((s.port port).lastAccepted + 1) % 4096) ∧ (t.port port).nakDue = s.now +
    nsUnits (s.port port).timeoutNs ∧ (t.port port).lastAccepted = (s.port port).lastAccepted ∧ (t.port port).arrived = (s.port
    port).arrived ∧ (t.port port).state = .recovery ∧ t.out.sent = [.nak port (s.port port).lastAccepted] ∧ Keeps [.dict, .sec, .links] s
    t)) ∧
  (∀ (s : State) (port : Nat), s.running = true → (s.port port).up = true → (s.port port).mode = .opvitik → (s.port port).awaited = none
    → Gives (.uncorrectableWord port) s (fun t => t.port port =
    { s.port port with awaited := some (((s.port port).lastAccepted + 1) % 4096), nakDue := s.now + nsUnits (s.port port).timeoutNs, attempts := 0, state := .recovery }
    ∧ t.out.sent = [.nak port (s.port port).lastAccepted] ∧ Keeps [.dict, .sec, .links] s t)) ∧
  (∀ (s : State) (port seq : Nat) (kept : List SentFlit), s.running = true → (s.port port).up = true → (s.port port).replay.any (fun f =>
    decide (f.seq = seq)) = true → kept = ((s.port port).replay.dropWhile (fun f => decide (f.seq ≠ seq))).drop 1 → Store.wf [] s.sw.sent
    = true → Gives (.ack port seq) s (fun t => kept <+: (t.port port).replay ∧ (∀ e ∈ Store.read [] t.sw.sent port, e ∈ Store.read []
    s.sw.sent port ∧ e.lastSeq ∉ ((s.port port).replay.take ((s.port port).replay.length - kept.length)).map (·.seq)) ∧ Keeps [.sw, .sec,
    .links] s t)) ∧
  (∀ (s : State) (port seq : Nat) (kept : List SentFlit), s.running = true → (s.port port).up = true → (s.port port).mode = .opvitik →
    kept = (if (s.port port).replay.any (fun f => decide (f.seq = seq)) then ((s.port port).replay.dropWhile (fun f => decide (f.seq ≠
    seq))).drop 1 else (s.port port).replay) → Gives (.nak port seq) s (fun t => kept <+: (t.port port).replay ∧ (t.port port).resending
    = (t.port port).replay.getLast?.map (·.seq) ∧ (∀ f ∈ (t.port port).replay, t.out.sent.contains (.flit port f.ftype f.vc f.seq
    f.payload) = true) ∧ Keeps [.dict, .sw, .sec, .links] s t)) ∧
  (∀ (s : State) (port hold : Nat), s.running = true → (s.port port).up = true → (s.port port).mode = .opvitik → hold = ((s.unlinked
    port).map (fun q => ((s.port port).lastAccepted + 4096 - q) % 4096 + 1)).foldl max 0 → hold < (s.port port).unacked → Gives (.ackSend
    port) s (fun t => t.port port = { s.port port with unacked := hold } ∧ t.out.sent = [.ack port (((s.port port).lastAccepted + 4096 -
    hold) % 4096)] ∧ Keeps [.sec, .links] s t)) ∧
  (∀ (s : State) (port n : Nat), s.running = true → (s.port port).up = true → (s.port port).awaited = some n → (s.port port).degrade =
    none → (s.port port).attempts + 1 < (s.port port).maxAttempts → Gives (.replayTimeout port) s (fun t => t.now = max s.now (s.port
    port).nakDue ∧ t.port port =
    { s.port port with attempts := (s.port port).attempts + 1, nakDue := t.now + nsUnits (s.port port).timeoutNs } ∧ t.out.sent = [.nak
    port (s.port port).lastAccepted] ∧ Keeps [.now, .ftc, .dict, .sec, .links] s t)) ∧
  (∀ (s : State) (port n : Nat), s.running = true → (s.port port).up = true → (s.port port).awaited = some n → (s.port port).degrade =
    none → (s.port port).maxAttempts ≤ (s.port port).attempts + 1 → ((s.port port).lostAt.filter (fun x => decide (max s.now (s.port
    port).nakDue < x + msUnits 1000))).length < 3 → s.liveSlots = [] → Gives (.replayTimeout port) s (fun t => (t.port port).state =
    .lost ∧ (t.port port).lastDown = .link ∧ (t.port port).awaited = none ∧ s.faults.seq < t.faults.seq)) ∧
  (∀ (s : State) (port lane : Nat) (l : List Nat), s.running = true → (s.port port).up = true → (s.port port).mode = .opvitik →
    (Store.read ({} : Lane) (s.port port).lanes lane).inUse = true → (s.port port).agreed.getLsbD 5 = true → pickLanes (s.port
    port).width8 (fun n => decide (n ≠ lane) && !(Store.read ({} : Lane) (s.port port).lanes n).failed) ([8, 4].filter (fun w => decide
    (w < (s.port port).width))) = some l → (s.port port).degrade = none → Gives (.laneFail port lane) s (fun t => (t.port port).degrade =
    some { lanes := l, ftc := roundUp (s.ftc + 2 * (s.port port).delay + nsUnits 200) 32 } ∧ (Store.read ({} : Lane) (t.port port).lanes
    lane).failed = true ∧ (t.port port).state = .recovery ∧ t.out.sent = [.linkMsg port (natLe 1 0x02 ++ natLe 1 l.length ++ natLe 1
    (l.headD 0) ++ natLe 8 (roundUp (s.ftc + 2 * (s.port port).delay + nsUnits 200) 32))] ∧ Keeps [.links] s t)) ∧
  (∀ (s : State) (port lane : Nat), s.running = true → (s.port port).up = true → (s.port port).mode = .opvitik → (Store.read ({} : Lane)
    (s.port port).lanes lane).inUse = true → (s.port port).agreed.getLsbD 5 = false → ((s.port port).lostAt.filter (fun x => decide
    (s.now < x + msUnits 1000))).length < 3 → s.liveSlots = [] → Gives (.laneFail port lane) s (fun t => (t.port port).state = .lost ∧
    (t.port port).lastDown = .link)) ∧
  (∀ (s : State) (port : Nat) (lanes : List Nat) (ftc : Nat), s.running = true → (s.port port).up = true → (s.port port).mode = .opvitik
    → (s.port port).agreed.getLsbD 5 = true → Gives (.degrade port lanes ftc) s (fun t => t.port port =
    { s.port port with degrade := some (match (s.port port).degrade with | some e => { lanes := if lanes.length < e.lanes.length then lanes else e.lanes, ftc := max e.ftc ftc } | none => { lanes := lanes, ftc := ftc }), state := .recovery }
    ∧ Keeps [.links] s t)) ∧
  (∀ (s : State) (port : Nat) (d : Degrade), s.running = true → (s.port port).degrade = some d → Store.wf ({} : Lane) (s.port port).lanes
    = true → Gives (.degradeSwitch port) s (fun t => (t.port port).degrade = none ∧ (t.port port).width = d.lanes.length ∧ (∀ n, n < 16 →
    (Store.read ({} : Lane) (t.port port).lanes n).inUse = d.lanes.contains n) ∧ t.now = s.now + (d.ftc - s.ftc) ∧ Keeps [.now, .ftc,
    .dict, .remote, .links, .mgmt, .freeCounter] s t))

/-- A request with a right header, within its source's rate and not answered before, is performed; the reply is the last thing sent and
  is kept for its source (R483, R487). HELLO answers the eight identity objects, READ each entry in body order, WRITE the STATUS of each
  entry (R484-R486). A write of gdp_rate_limit within its Range sets it, plain while gdp_secure_writes is 0 or in the session whose
  digest it names (R488); a plain write is otherwise refused with E_AUTH. FLASH_WRITE stores its data and is answered when the data is in
  flash (R491). A repeated SEQ is answered with the kept reply and performs nothing (R487). -/
def Obligations.ManagementLaneServesRequests : Prop :=
  (∀ (s : State) (addr : List Byte) (udp : Nat) (frame : List Byte) (h : GdpHead), GdpOpen s addr udp frame 1 h → h.count = 0 → h.body =
    [] → ((List.range 8).map (fun k => (s.gdpStart addr).readNeed { index := 0x1000, sub := k + 1, offset := 0, maxLen := 0 })).sum ≤
    1216 → Gives (.gdpHello addr udp frame) s (fun t => GdpReplies t addr udp h.seq (gdpReply h 8 0 ((s.gdpStart addr).gdpReadAll
    ((List.range 8).map (fun k => { index := 0x1000, sub := k + 1, offset := 0, maxLen := 0 })) (1216 - ((List.range 8).map (fun k =>
    (s.gdpStart addr).readNeed { index := 0x1000, sub := k + 1, offset := 0, maxLen := 0 })).sum)).1) ∧ t.gdpCount addr = s.gdpCount addr
    + 1 ∧ Keeps [.dict, .mgmt, .freeCounter, .remote, .faults] s t)) ∧
  (∀ (s : State) (addr : List Byte) (udp : Nat) (frame : List Byte) (h : GdpHead) (es : List ReadEntry), GdpOpen s addr udp frame 2 h →
    gdpReadEntries h.count h.body = some (es, true) → (es.map (s.gdpStart addr).readNeed).sum ≤ 1216 → Gives (.gdpRead addr udp frame) s
    (fun t => GdpReplies t addr udp h.seq (gdpReply h es.length 0 ((s.gdpStart addr).gdpReadAll es (1216 - (es.map (s.gdpStart
    addr).readNeed).sum)).1) ∧ Keeps [.dict, .mgmt, .freeCounter, .remote, .faults] s t)) ∧
  (∀ (s : State) (addr : List Byte) (udp : Nat) (frame : List Byte) (h : GdpHead), GdpOpen s addr udp frame 2 h → gdpReadEntries h.count
    h.body = some ([{ index := 0x1100, sub := 0x11, offset := 0, maxLen := 0 }], true) → Gives (.gdpRead addr udp frame) s (fun t =>
    GdpReplies t addr udp h.seq (gdpReply h 1 0 ([0x00, 0x11, 0x11, 0, BitVec.ofNat 8 ObjType.u16.code, 0, 2, 0, 2, 0, 0, 0] ++ natLe 2
    (s.num O.gdpRateLimit 4096) ++ [0, 0])) ∧ Keeps [.dict, .mgmt] s t)) ∧
  (∀ (s : State) (addr : List Byte) (udp : Nat) (frame : List Byte) (h : GdpHead) (r : GdpReply), s.serves = true → gdpHead frame = some
    h → h.version = 1 → h.flags / 2 = 0 → h.type = 2 → s.mgmt.replies.find? (fun r => decide (r.source = .gdp addr udp) && decide (r.seq
    = h.seq)) = some r → Gives (.gdpRead addr udp frame) s (fun t => t.out.sent = [.gdp (.gdp addr udp) r.reply] ∧ Keeps [.dict] s t)) ∧
  (∀ (s : State) (addr : List Byte) (udp : Nat) (frame : List Byte) (h : GdpHead) (es : List WriteEntry), GdpOpen s addr udp frame 3 h →
    gdpWriteEntries h.count h.body = some (es, true) → s.writesOpen false = true → bitAt h.flags 0 = false → Gives (.gdpWrite addr udp
    frame) s (fun t => GdpReplies t addr udp h.seq (gdpReply h es.length 0 (writeReplies es (((s.gdpStart addr).gdpPutAll (s.gdpStart
    addr) (.gdp addr udp) es none).1.map (fun x => x.status)))))) ∧
  (∀ (s : State) (addr : List Byte) (udp : Nat) (frame : List Byte) (h : GdpHead) (v : Nat), s.running = true → GdpOpen s addr udp frame
    3 h → 256 ≤ v → v < 65536 → gdpWriteEntries h.count h.body = some
    ([{ index := 0x1100, sub := 0x11, offset := 0, total := 2, value := natLe 2 v }], true) → s.num O.gdpSecureWrites 1 = 0 → Gives
    (.gdpWrite addr udp frame) s (fun t => t.num O.gdpRateLimit 4096 = v ∧ GdpReplies t addr udp h.seq (gdpReply h 1 0 [0x00, 0x11, 0x11,
    0]) ∧ Keeps [.dict, .mgmt, .freeCounter] s t)) ∧
  (∀ (s : State) (addr : List Byte) (udp : Nat) (frame : List Byte) (h : GdpHead) (es : List WriteEntry), s.running = true → GdpOpen s
    addr udp frame 3 h → gdpWriteEntries h.count h.body = some (es, true) → s.num O.gdpSecureWrites 1 ≠ 0 → Gives (.gdpWrite addr udp
    frame) s (fun t => t.out.sent = [.gdp (.gdp addr udp) (gdpReply h 0 (Status.auth).code [])] ∧ Keeps [.dict, .mgmt] s t)) ∧
  (∀ (s : State) (session : Nat) (addr : List Byte) (udp seq : Nat) (frame : List Byte) (h : GdpHead) (x : SpdmSession) (v : Nat),
    s.running = true → gdpHead frame = some h → h.version = 1 → h.flags / 2 = 0 → h.type = 3 → s.sec.sessions.find? (fun x => decide
    (x.id = session) && x.secure) = some x → x.keyDigest = s.bytesObj O.mgmtRequesterDigest → x.keyDigest ≠ [] → s.mgmt.replies.find?
    (fun r => decide (r.source = .gdp addr udp) && decide (r.seq = seq)) = none → s.gdpCount addr < s.num O.gdpRateLimit 4096 → 256 ≤ v →
    v < 65536 → gdpWriteEntries h.count h.body = some ([{ index := 0x1100, sub := 0x11, offset := 0, total := 2, value := natLe 2 v }],
    true) → Gives (.gdpSecured session addr udp seq frame) s (fun t => t.num O.gdpRateLimit 4096 = v ∧ GdpReplies t addr udp seq
    (gdpReply h 1 0 [0x00, 0x11, 0x11, 0]) ∧ Keeps [.dict, .mgmt, .freeCounter] s t)) ∧
  (∀ (s : State) (session : Nat) (addr : List Byte) (udp seq : Nat) (frame : List Byte) (h : GdpHead), s.running = true → gdpHead frame =
    some h → s.sec.sessions.find? (fun x => decide (x.id = session) && x.secure) = none → Gives (.gdpSecured session addr udp seq frame)
    s (fun t => t.out.sent = [.gdp (.gdp addr udp) (gdpReply { version := 1, type := 7, seq := seq, count := 0, flags := 0, body := [] }
    0 (Status.auth).code [])] ∧ Keeps [.dict] s t)) ∧
  (∀ (s : State) (addr : List Byte) (udp : Nat) (frame : List Byte) (h : GdpHead) (bank off len : Nat), s.running = true → GdpOpen s addr
    udp frame 4 h → (bank, off, len) = (fieldAt h.body 0 1, fieldAt h.body 4 4, fieldAt h.body 8 2) → h.body.length = 16 + len → off % 64
    = 0 → 64 ≤ len → len ≤ 1024 → len % 64 = 0 → bank < 2 → zerosAt h.body 1 3 = true → zerosAt h.body 10 6 = true → s.num
    O.gdpSecureWrites 1 = 0 → s.flashBad bank off len = none → Store.wf 0 s.mgmt.flash = true → Store.wf ({} : Bank) s.sec.banks = true →
    Gives (.flashWrite addr udp frame) s (fun t => (∀ k, k < len → Store.read 0 t.mgmt.flash (bank * 2 ^ 25 + off + k) = h.body.getD (16
    + k) 0) ∧ (∀ a, a < bank * 2 ^ 25 ∨ (bank + 1) * 2 ^ 25 ≤ a → Store.read 0 t.mgmt.flash a = Store.read 0 s.mgmt.flash a) ∧ (off ≠ 0 →
    ∀ a, (a < bank * 2 ^ 25 + off ∨ bank * 2 ^ 25 + off + len ≤ a) → Store.read 0 t.mgmt.flash a = Store.read 0 s.mgmt.flash a) ∧
    t.flashBank bank = { next := off + len, busy := true, reply := some (.gdp addr udp, gdpReply h 0 0 []) } ∧ (t.bank bank).verified =
    false ∧ t.out.sent = [] ∧ Keeps [.dict, .mgmt, .sec] s t)) ∧
  (∀ (s : State) (bank : Nat) (addr : List Byte) (udp : Nat) (r : List Byte), s.serves = true → (s.flashBank bank).busy = true →
    (s.flashBank bank).reply = some (.gdp addr udp, r) → Store.wf ({} : FlashBank) s.mgmt.flashBanks = true → Gives (.flashWriteDone
    bank) s (fun t => t.flashBank bank = { next := (s.flashBank bank).next } ∧ GdpReplies t addr udp (fieldAt r 4 4) r ∧ Keeps [.mgmt] s
    t))

/-- A mailbox command, a DICT_REQ block with a right PEC and an SPI request with a right CRC are performed on their path, and the
  response waits to be read; it is BUSY only while another package has yet to answer (R502, R505, R515). Each reads gdp_rate_limit as it
  stands and sets it to a value within its Range. A response is read once (R502, R505). EVENT_FETCH and the SPI event fetch answer the
  oldest record not fetched and mark it (R496). An SCL timeout leaves the registers as they are (R503). -/
def Obligations.MailboxesAndTargetsServeRequests : Prop :=
  (∀ (s : State) (i : Issuer) (m : Nat) (v : Word32), s.running = true → i.tenant = 0xFF → bitsOf v.toNat 31 28 = 0 → (s.mbx m).busy =
    false → Gives (.mailboxRead i m v) s (fun t => (t.mbx m).index = bitsOf v.toNat 15 0 ∧ (t.mbx m).sub = bitsOf v.toNat 23 16 ∧ (t.mbx
    m).op = 1 ∧ (t.mbx m).busy = (s.elsewhere (bitsOf v.toNat 15 0) (bitsOf v.toNat 23 16)).isSome ∧ Answers t .ok ∧ Keeps [.mgmt,
    .remote, .faults, .freeCounter] s t)) ∧
  (∀ (s : State) (i : Issuer) (m : Nat) (v : Word32), s.running = true → i.tenant = 0xFF → bitsOf v.toNat 31 28 = 0 → v.toNat % 2 ^ 24 =
    0x111100 → (s.mbx m).busy = false → (s.mbx m).offset = 0 → s.num O.gdpRateLimit 4096 ≠ 0 → Gives (.mailboxRead i m v) s (fun t =>
    (t.mbx m).status = 0 ∧ (t.mbx m).length = 2 ∧ (t.mbx m).total = 2 ∧ Store.read 0 (t.mbx m).data 0 = BitVec.ofNat 32 (s.num
    O.gdpRateLimit 4096 % 65536) ∧ Keeps [.mgmt, .freeCounter] s t)) ∧
  (∀ (s : State) (i : Issuer) (m : Nat) (v : Word32), s.running = true → i.tenant = 0xFF → bitsOf v.toNat 31 28 = 0 → (s.mbx m).busy =
    false → (s.elsewhere (bitsOf v.toNat 15 0) (bitsOf v.toNat 23 16)).isSome = false → Gives (.mailboxWrite i m v) s (fun t => (t.mbx
    m).index = bitsOf v.toNat 15 0 ∧ (t.mbx m).sub = bitsOf v.toNat 23 16 ∧ (t.mbx m).op = 2 ∧ (t.mbx m).busy = false ∧ Answers t .ok)) ∧
  (∀ (s : State) (i : Issuer) (m : Nat) (v w : Word32), s.running = true → i.tenant = 0xFF → bitsOf v.toNat 31 28 = 0 → v.toNat % 2 ^ 24
    = 0x111100 → (s.mbx m).busy = false → (s.mbx m).offset = 0 → (s.mbx m).total = 2 → (s.mbx m).wlen = 2 → Store.read 0 (s.mbx m).data 0
    = w → 256 ≤ w.toNat % 65536 → Gives (.mailboxWrite i m v) s (fun t => t.num O.gdpRateLimit 4096 = w.toNat % 65536 ∧ (t.mbx m).status
    = 0 ∧ (t.mbx m).busy = false ∧ Answers t .ok ∧ Keeps [.dict, .mgmt, .freeCounter] s t)) ∧
  (∀ (s : State) (data : List Byte) (r : DictRequest), s.serves = true → 6 ≤ data.length → data.length ≤ 255 → s.smbRequest data = some r
    → Gives (.dictReq data (true) (true)) s (fun t => t.mgmt.smb.response = (s.begin.ask .smbus r 249).1 ∧ t.mgmt.smb.pending = (if
    (s.elsewhere r.index r.sub).isSome then some r else none))) ∧
  (∀ (s : State), s.serves = true → Gives (.dictReq ([1, 0x00, 0x11, 0x11, 0, 0]) (true) (true)) s (fun t => t.mgmt.smb.response = some
    { status := 0, type := ObjType.u16.code, total := 2, data := natLe 2 (s.num O.gdpRateLimit 4096) } ∧ t.mgmt.smb.pending = none ∧
    Keeps [.mgmt] s t)) ∧
  (∀ (s : State) (v : Nat), s.running = true → 256 ≤ v → v < 65536 → Gives (.dictReq ([2, 0x00, 0x11, 0x11, 0, 0] ++ natLe 2 v) (true)
    (true)) s (fun t => t.num O.gdpRateLimit 4096 = v ∧ t.mgmt.smb.response = some { status := 0, type := ObjType.u16.code } ∧ Keeps
    [.dict, .mgmt, .freeCounter] s t)) ∧
  (∀ (s : State) (data : List Byte) (whole : Bool), s.serves = true → Gives (.dictReq data (false) whole) s (fun t => t.num O.smbErrors 0
    = (s.num O.smbErrors 0 + 1) % 2 ^ 64 ∧ Keeps [.dict] s t)) ∧
  (∀ (s : State) (r : DictResponse), s.serves = true → s.mgmt.smb.pending = none → s.mgmt.smb.response = some r → Gives (.dictRsp) s (fun
    t => t.mgmt.smb = { s.mgmt.smb with response := none } ∧ t.out.sent = [.sideband .smbus (natLe 1 r.status ++ natLe 1 r.type ++ natLe
    2 r.data.length ++ natLe 2 r.total ++ r.data)] ∧ Keeps [.mgmt] s t)) ∧
  (∀ (s : State) (r : DictRequest), s.serves = true → s.mgmt.smb.pending = some r → Gives (.dictRsp) s (fun t => t.out.sent = [.sideband
    .smbus (natLe 1 (Status.busy).code ++ [0, 0, 0, 0, 0])] ∧ Keeps [] s t)) ∧
  (∀ (s : State) (e : Event) (l : List Event), s.serves = true → s.unfetched = e :: l → l.all (fun x => decide (x.seq ≠ e.seq)) = true →
    Gives (.eventFetch) s (fun t => t.out.sent = [.sideband .smbus (natLe 1 (min 255 (l.length + 1)) ++ e.bytes)] ∧ t.unfetched = l ∧
    Keeps [.mgmt] s t)) ∧
  (∀ (s : State), s.serves = true → s.unfetched = [] → Gives (.eventFetch) s (fun t => t.out.sent.length = 1 ∧ Keeps [.freeCounter] s t)) ∧
  (∀ (s : State), Gives (.smbusSclTimeout) s (fun t => Keeps [] s t)) ∧
  (∀ (s : State) (edges : Nat) (words : List Word32) (r : DictRequest) (len : Nat), s.serves = true → edges % 32 = 0 → 96 ≤ edges →
    (r.op, r.sub, r.index) = ((words.getD 0 0).toNat % 256, (words.getD 0 0).toNat / 256 % 256, (words.getD 0 0).toNat / 65536) → [2, 4,
    5].contains r.op = false → len = (words.getD 1 0).toNat % 65536 → len ≤ 4096 → r.offset = (words.getD 1 0).toNat / 65536 → r.total =
    none → r.data = [] → (words.getD 2 0).toNat = crc16 (spiBytes [words.getD 0 0, words.getD 1 0]) → crc16 (spiBytes [words.getD 0 0,
    words.getD 1 0]) < 65536 → Gives (.spiRead edges words) s (fun t => t.mgmt.spi.response = (s.begin.ask .spi r (if len = 0 then 4096
    else len)).1 ∧ t.mgmt.spi.pending = (if (s.elsewhere r.index r.sub).isSome then some r else none))) ∧
  (∀ (s : State) (edges : Nat) (words : List Word32), s.serves = true → edges % 32 = 0 → 96 ≤ edges → words.getD 0 0 = 0x11001101 →
    words.getD 1 0 = 0 → (words.getD 2 0).toNat = crc16 (spiBytes [0x11001101, 0]) → Gives (.spiRead edges words) s (fun t =>
    t.mgmt.spi.response = some { status := 0, type := ObjType.u16.code, total := 2, data := natLe 2 (s.num O.gdpRateLimit 4096) } ∧ Keeps
    [.mgmt] s t)) ∧
  (∀ (s : State) (edges : Nat) (words : List Word32), s.serves = true → edges % 32 ≠ 0 ∨ edges < 64 → Gives (.spiRead edges words) s (fun
    t => t.mgmt.spi.frameErr = true ∧ t.num O.spiFrameErrors 0 = (s.num O.spiFrameErrors 0 + 1) % 2 ^ 64 ∧ t.mgmt.spi.response =
    s.mgmt.spi.response ∧ Keeps [.dict, .mgmt] s t)) ∧
  (∀ (s : State) (edges : Nat) (words : List Word32) (v : Nat), s.running = true → edges % 32 = 0 → 128 ≤ edges → words.getD 0 0 =
    0x11001102 → words.getD 1 0 = 2 → (words.getD 2 0).toNat % 65536 = v → 256 ≤ v → (words.getD 3 0).toNat = crc16 (spiBytes
    [0x11001102, 2, words.getD 2 0]) → (words.getD 3 0).toNat < 65536 → Gives (.spiWrite edges words) s (fun t => t.num O.gdpRateLimit
    4096 = v ∧ t.mgmt.spi.response = some { status := 0, type := ObjType.u16.code } ∧ Keeps [.dict, .mgmt, .freeCounter] s t)) ∧
  (∀ (s : State) (edges : Nat) (r : DictResponse), s.serves = true → edges % 32 = 0 → 64 + 8 * (s.spiReplyBytes
    { status := r.status, ready := true, value := r.data }).length ≤ edges → s.mgmt.spi.pending = none → s.mgmt.spi.response = some r →
    Gives (.spiFetchResponse edges) s (fun t => t.mgmt.spi = { s.mgmt.spi with response := none, frameErr := false } ∧ t.out.sent.any
    (fun m =>
    match m with | .sideband .spi b => decide (b.take 4 = natLe 4 0xC1A75A5A) && decide ((b.drop 8).take (s.spiReplyBytes { status := r.status, ready := true, value := r.data }).length = s.spiReplyBytes { status := r.status, ready := true, value := r.data }) | _ => false)
    = true ∧ Keeps [.mgmt, .freeCounter] s t)) ∧
  (∀ (s : State) (edges : Nat) (e : Event) (l : List Event), s.serves = true → edges % 32 = 0 → 64 + 8 * (s.spiReplyBytes
    { status := 0, ready := true, value := e.bytes }).length ≤ edges → s.unfetched = e :: l → l.all (fun x => decide (x.seq ≠ e.seq)) =
    true → Gives (.spiFetchEvent edges) s (fun t => t.unfetched = l ∧ t.mgmt.spi.frameErr = false ∧ t.out.sent.any (fun m =>
    match m with | .sideband .spi b => decide ((b.drop 8).take (s.spiReplyBytes { status := 0, ready := true, value := e.bytes }).length = s.spiReplyBytes { status := 0, ready := true, value := e.bytes }) | _ => false)
    = true ∧ Keeps [.mgmt, .freeCounter] s t))

/-- event_raise forms a record on its vector (R497). An acknowledgement takes the records off the destination's frames; a frame without
  one goes out again up to four times (R496). A holdoff that ends sends what it gathered (R497). A snapshot copies every live meter at
  its tick boundary (R501). A sensor poll and a hub poll take the reading (R507, R508, R526); a bus that times out or sticks recovers,
  and the third failed attempt leaves it FAILED (R509). Echo requests and solicitations of an own address are answered (R482). -/
def Obligations.EventsBusesAndLaneWork : Prop :=
  (∀ (s : State) (p : DictPath) (n : Nat), s.running = true → 0x100 ≤ n → n ≤ 0x3FF → Gives (.eventRaise p n) s (fun t => t.mgmt.eventSeq
    = s.mgmt.eventSeq + 1 ∧ (t.mgmt.eventLog.getLast?.map (fun e => (e.seq, e.vector, e.kind, e.status, e.source))) = some
    (s.mgmt.eventSeq + 1, n, 0, .ok, BitVec.ofNat 32 (s.path .package)) ∧ t.mgmt.eventLog.dropLast = lastN 4095 s.mgmt.eventLog ∧ Answers
    t .ok ∧ Keeps [.dict, .remote, .mgmt, .freeCounter] s t)) ∧
  (∀ (s : State) (dest seq : Nat), s.running = true → Gives (.eventAck dest seq) s (fun t => (∀ f ∈ t.mgmt.eventFrames, f.dest = dest → ∀
    n ∈ f.seqs, seq < n) ∧ t.mgmt.eventFrames.filter (fun f => decide (f.dest ≠ dest)) = s.mgmt.eventFrames.filter (fun f => decide
    (f.dest ≠ dest) && !f.seqs.isEmpty) ∧ (∀ e ∈ t.mgmt.eventLog, e.seq ≤ seq → e.owed.contains dest = true → s.gathering.contains e.seq
    = true) ∧ Keeps [.mgmt] s t)) ∧
  (∀ (s : State) (dest : Nat) (f : EventFrame), s.running = true → s.dueFrame dest = some f → f.sends ≤ 4 → Gives (.eventResend dest) s
    (fun t => t.now = max s.now f.due ∧ t.mgmt.eventFrames = s.mgmt.eventFrames.erase f ++
    [{ f with sends := f.sends + 1, due := t.now + usUnits 250 }] ∧ t.out.sent = [.eventFrame f.dest f.seqs] ∧ Keeps [.now, .ftc, .dict,
    .mgmt] s t)) ∧
  (∀ (s : State) (dest : Nat) (f : EventFrame), s.running = true → s.dueFrame dest = some f → 4 < f.sends → Gives (.eventResend dest) s
    (fun t => t.mgmt.eventFrames = s.mgmt.eventFrames.erase f ∧ t.num O.eventsUndelivered 0 = (s.num O.eventsUndelivered 0 +
    f.seqs.length) % 2 ^ 64 ∨ f.seqs = [] ∧ t.out.sent = [] ∧ Keeps [.now, .ftc, .dict, .mgmt] s t)) ∧
  (∀ (s : State) (vector due : Nat) (l : List Gathered), s.running = true → (s.vector vector).gather = some (l, due) → Store.wf ({} :
    Vector) s.mgmt.vectors = true → Gives (.eventHoldoffExpiry vector) s (fun t => t.vector vector =
    { s.vector vector with gather := none } ∧ t.now = max s.now due ∧ (∀ d ∈ List.range 4, ∀ q ∈ l, s.mgmt.eventLog.any (fun e => decide
    (e.seq = q.seq) && e.owed.contains d) = true → t.out.sent.any (fun m =>
    match m with | .eventFrame d1 qs => decide (d1 = d) && qs.contains q.seq | _ => false) = true) ∧ Keeps [.now, .ftc, .dict, .remote,
    .mgmt, .freeCounter] s t)) ∧
  (∀ (s : State) (p : DictPath), s.running = true → s.mgmt.snapshotDue = none → Gives (.meterSnapshot p (1)) s (fun t =>
    t.mgmt.snapshotDue = some (32 * (s.ftc / 32 + 1)) ∧ Answers t .ok ∧ Keeps [.mgmt, .freeCounter] s t)) ∧
  (∀ (s : State) (f : Nat), s.running = true → s.mgmt.snapshotDue = some f → Gives (.meterSnapshotLatch) s (fun t => (∀ o k, o < 65 → 1 ≤
    k → k ≤ 16 → t.num ((0x5C81 + o) * 256 + k) 0 = s.num ((0x5C01 + o) * 256 + k) 0) ∧ t.num O.meterSnapshotFtc 0 = f ∧
    t.mgmt.snapshotDue = none ∧ t.now = s.now + (f - s.ftc) ∧ Keeps [.now, .ftc, .dict, .mgmt] s t)) ∧
  (∀ (s : State) (source dest payload : List Byte), s.serves = true → s.ownAddress dest = true → Gives (.icmpv6Echo source dest payload)
    s (fun t => t.out.sent = [.icmp source 129 payload] ∧ Keeps [] s t)) ∧
  (∀ (s : State) (source target : List Byte) (mac : Nat), s.serves = true → s.ownAddress target = true → source.all (fun b => decide (b =
    0)) = false → Gives (.neighborDiscovery (135) source target mac) s (fun t => t.mgmt.neighbours.find? (fun e => decide (e.1 = source))
    = some (source, mac % 2 ^ 48) ∧ t.out.sent = [.icmp source 136 (target ++ (natLe 6 s.macAddress).reverse)] ∧ Keeps [.mgmt] s t)) ∧
  (∀ (s : State) (source target : List Byte) (mac : Nat), s.serves = true → Gives (.neighborDiscovery (136) source target mac) s (fun t
    => t.mgmt.neighbours.find? (fun e => decide (e.1 = target)) = some (target, mac % 2 ^ 48) ∧ t.out.sent = [] ∧ Keeps [.mgmt] s t)) ∧
  (∀ (s : State) (lane : Nat), lane ≤ 2 → Gives (.managementLaneLinkChange lane) s (fun t => t.num O.laneState 0 = lane ∧ Keeps [.dict] s
    t)) ∧
  (∀ (s : State) (entry v : Nat), s.running = true → entry < 32 → (s.sensor entry).format.toNat % 4 = 1 ∨ (s.sensor entry).format.toNat %
    4 = 2 → (s.busAt 4).state = .idle ∨ (s.busAt 4).state = .active → Gives (.sensorPoll entry (some v)) s (fun t => (t.sensor
    entry).value = v % 256 ^ ((s.sensor entry).format.toNat % 4) ∧ (t.sensor entry).status = .ok ∧ (t.sensor entry).due = t.now + msUnits
    ((s.sensor entry).format.toNat / 4) ∧ t.now = max s.now (s.sensor entry).due ∧ Keeps [.now, .ftc, .dict, .mgmt] s t)) ∧
  (∀ (s : State) (entry : Nat), s.running = true → entry < 32 → (s.sensor entry).format.toNat % 4 = 1 ∨ (s.sensor entry).format.toNat % 4
    = 2 → (s.busAt 4).state = .idle ∨ (s.busAt 4).state = .active → Gives (.sensorPoll entry (none)) s (fun t => (t.sensor entry).value =
    (s.sensor entry).value ∧ (t.sensor entry).status = .range ∧ Keeps [.now, .ftc, .dict, .mgmt] s t)) ∧
  (∀ (s : State) (dimm : Nat) (celsius : Option Int), s.running = true → dimm < 32 → s.chanFrames (256 + dimm / 2) ≠ 0 → (s.busAt (dimm /
    8)).state = .idle ∨ (s.busAt (dimm / 8)).state = .active → Store.wf false s.mgmt.dimmHot = true → Gives (.dimmThermalPoll dimm
    celsius) s (fun t => Store.read false t.mgmt.dimmHot dimm =
    (match celsius with | none => true | some v => if 85 < v then true else if v ≤ 80 then false else Store.read false s.mgmt.dimmHot dimm)
    ∧ Keeps [.mgmt] s t)) ∧
  (∀ (s : State) (bus what : Nat), s.running = true → bus < 5 → (s.busAt bus).state = .idle ∨ (s.busAt bus).state = .active → Gives
    (.busTransactionTimeout bus what) s (fun t => t.now = s.now + msUnits 10 ∧ t.busAt bus =
    { s.busAt bus with state := .recovering, attempt := 0, since := t.now } ∧ (bus = 4 → what < 32 → (t.sensor what).status = .timeout) ∧
    Keeps [.now, .ftc, .dict, .mgmt] s t)) ∧
  (∀ (s : State) (bus : Nat) (what : Option Nat), s.running = true → bus < 5 → (s.busAt bus).state = .idle ∨ (s.busAt bus).state =
    .active → Gives (.busSdaStuck bus what) s (fun t => t.now = s.now + usUnits (s.num O.sdaStuckUs 1000) ∧ t.busAt bus =
    { s.busAt bus with state := .recovering, attempt := 0, since := t.now } ∧ Keeps [.now, .ftc, .dict, .mgmt] s t)) ∧
  (∀ (s : State) (bus : Nat) (pulses : Option Nat), s.running = true → bus < 5 → (s.busAt bus).state = .recovering → [1, 2, 3, 4, 5, 6,
    7, 8, 9].any (fun n => decide (pulses = some n)) = true → Gives (.busRecoveryAttempt bus pulses) s (fun t => (t.busAt bus).state =
    .idle ∧ (t.busAt bus).recoveries = min 65535 ((s.busAt bus).recoveries + 1) ∧ Keeps [.now, .ftc, .dict, .mgmt] s t)) ∧
  (∀ (s : State) (bus : Nat) (pulses : Option Nat), s.running = true → bus < 5 → (s.busAt bus).state = .recovering → [1, 2, 3, 4, 5, 6,
    7, 8, 9].any (fun n => decide (pulses = some n)) = false → Gives (.busRecoveryAttempt bus pulses) s (fun t => (t.busAt bus).state =
    (if (s.busAt bus).attempt < 2 then .recovering else .failed) ∧ (t.busAt bus).attempt = (if (s.busAt bus).attempt < 2 then (s.busAt
    bus).attempt + 1 else 3) ∧ (t.busAt bus).recoveries = (s.busAt bus).recoveries ∧ Keeps [.now, .ftc, .dict, .remote, .mgmt,
    .freeCounter] s t)) ∧
  (∀ (s : State) (i : Issuer) (bus : Nat), s.running = true → i.tenant = 0xFF → bus < 5 → (s.busAt bus).state ≠ .recovering → Gives
    (.recover i bus) s (fun t => t.busAt bus = { s.busAt bus with state := .recovering, attempt := 0, since := s.now } ∧ Answers t .ok ∧
    Keeps [.mgmt, .freeCounter] s t))

/-- The input above 44 V starts the soft start; at its end, at the release of COLD_RESET_N and at a cold reset command the package boots
  from step 1 with nothing kept but the part, its flash, its banks, the pins and the standby records (R518, R531-R533, R591). A commanded
  warm reset boots from step 3 and keeps what R532 names. The boot starts the first good bank, falls back to the other, or holds (R541,
  R542); an unresolved fuse word holds in Fuse Hold (R545). A fuse re-read records words that read otherwise (R546). A brownout is left
  by recovery or by loss (R524, R525). -/
def Obligations.PowerAndResetsTakeEffect : Prop :=
  (∀ (s : State) (mv : Nat), s.power.package = .off → 44000 < mv → Gives (.powerUp mv) s (fun t => t.power =
    { s.power with package := .softStart, since := s.now, inputMv := mv % 65536 } ∧ Keeps [.power] s t)) ∧
  (∀ (s : State), s.power.package = .softStart → s.power.coldResetLow = false → Gives (.softStartDone) s (fun t => t.power.package =
    .booting 1 ∧ t.power.cause = s.power.startCause ∧ t.pending = s.pending ∧ t.now = s.now ∧ t.chip = s.chip ∧ t.sec =
    { banks := s.sec.banks, running := s.sec.running, activated := s.sec.activated, bootedNew := s.sec.bootedNew } ∧ t.mgmt =
    { flash := s.mgmt.flash, flashBanks := s.mgmt.flashBanks } ∧ t.num O.lastResetCause 0 = s.power.startCause.code ∧ t.num
    O.lastResetKind 0 = 0 ∧ Keeps [.pending, .now, .freeCounter, .chip, .dict, .sec, .mgmt, .power] State.reset t)) ∧
  (∀ (s : State), Gives (.coldResetPin) s (fun t => t.power =
    { s.power with coldResetLow := true, dimmSupply := false, package := (match s.power.package with | .off => .off | .softStart => .softStart | _ => .coldResetHeld) }
    ∧ Keeps [.power] s t)) ∧
  (∀ (s : State), s.power.package = .coldResetHeld → Gives (.coldResetRelease) s (fun t => t.power.package = .booting 1 ∧ t.power.cause =
    .coldPin ∧ t.power.coldResetLow = false ∧ t.pending = s.pending ∧ t.now = s.now ∧ t.chip = s.chip ∧ t.sec =
    { banks := s.sec.banks, running := s.sec.running, activated := s.sec.activated, bootedNew := s.sec.bootedNew } ∧ t.mgmt =
    { flash := s.mgmt.flash, flashBanks := s.mgmt.flashBanks } ∧ Keeps [.pending, .now, .freeCounter, .chip, .dict, .sec, .mgmt, .power]
    State.reset t)) ∧
  (∀ (s : State) (a : Access), s.running = true → accessMgmt a = true → (s.takeArm a R.pwrResetCmd).1 = true → s.liveSlots = [] → Gives
    (.resetCommandCold a) s (fun t => t.power.package = .booting 1 ∧ t.power.cause = .commandCold ∧ t.sec =
    { banks := s.sec.banks, running := s.sec.running, activated := s.sec.activated, bootedNew := s.sec.bootedNew } ∧ t.mgmt =
    { flash := s.mgmt.flash, flashBanks := s.mgmt.flashBanks } ∧ Answers t .ok ∧ Keeps [.pending, .now, .freeCounter, .chip, .dict, .sec,
    .mgmt, .power] State.reset t)) ∧
  (∀ (s : State) (a : Access), s.running = true → accessMgmt a = true → (s.takeArm a R.pwrResetCmd).1 = true → s.liveSlots = [] → s.quiet
    = true → Store.wf ({} : Port) s.links.ports = true → Gives (.resetCommandWarm a) s (fun t => t.power.package = .booting 3 ∧
    t.power.cause = .commandWarm ∧ t.florets = {} ∧ t.hcu = {} ∧ t.sw = {} ∧ t.kv = {} ∧ t.cz = {} ∧ t.meadow = {} ∧ t.sram = [] ∧ t.chip
    = s.chip ∧ t.now = s.now ∧ t.ftc = s.ftc ∧ t.sec.tenants = s.sec.tenants ∧ t.sec.clearLog = s.sec.clearLog ∧ t.sec.banks =
    s.sec.banks ∧ t.sec.keys = [] ∧ t.sec.sessions = [] ∧ (∀ p, t.port p =
    { mode := (s.port p).mode, width8 := (s.port p).width8, enable := (s.port p).enable }) ∧ t.num O.lastResetCause 0 =
    ResetCause.commandWarm.code ∧ Answers t .ok)) ∧
  (∀ (s : State) (bankOk : List Bool) (failed channels : List Nat) (fuses : List (Nat × Nat)) (feedLow : Bool) (k b : Nat),
    s.power.package = .booting k → (if k = 1 then fuseClasses fuses else s.power.fuses).any (fun e => decide (e.2 = .unresolved)) = false
    → s.sec.activated.getD s.sec.running = b → (s.bank b).signed = true → s.power.fusedSvn ≤ (s.bank b).svn → bankOk.getD b false = true
    → Gives (.boot bankOk failed channels fuses feedLow) s (fun t => t.power.package = .running ∧ t.sec.running = b ∧ t.sec.activated =
    none ∧ t.power.bootBank = b ∧ t.sec.bootedNew = (if s.sec.activated = some b then some b else if s.sec.bootedNew = some b then some b
    else none) ∧ t.power.standby = none ∧ t.power.standbyWatchdog = none ∧ t.power.watchdogAt = s.now ∧ (t.power.feedGood = !feedLow) ∧
    Keeps [.freeCounter, .dict, .mem, .sram, .remote, .traffic, .pool, .sec, .links, .mgmt, .power, .faults] s t)) ∧
  (∀ (s : State) (bankOk : List Bool) (failed channels : List Nat) (fuses : List (Nat × Nat)) (feedLow : Bool) (k b : Nat),
    s.power.package = .booting k → (if k = 1 then fuseClasses fuses else s.power.fuses).any (fun e => decide (e.2 = .unresolved)) = false
    → s.sec.activated.getD s.sec.running = b → b < 2 → bankOk.getD b false = false → (s.bank (1 - b)).signed = true → s.power.fusedSvn ≤
    (s.bank (1 - b)).svn → bankOk.getD (1 - b) false = true → Gives (.boot bankOk failed channels fuses feedLow) s (fun t =>
    t.power.package = .running ∧ t.sec.running = 1 - b ∧ t.num O.bootFallbacks 0 = (s.num O.bootFallbacks 0 + 1) % 2 ^ 32)) ∧
  (∀ (s : State) (bankOk : List Bool) (failed channels : List Nat) (fuses : List (Nat × Nat)) (feedLow : Bool) (k : Nat), s.power.package
    = .booting k → (if k = 1 then fuseClasses fuses else s.power.fuses).any (fun e => decide (e.2 = .unresolved)) = false →
    s.sec.activated.getD s.sec.running < 2 → bankOk.getD 0 false = false → bankOk.getD 1 false = false → Gives (.boot bankOk failed
    channels fuses feedLow) s (fun t => t.power.package = .bootHold ∧ t.sec.activated = none ∧ t.sec.running = s.sec.running ∧ Keeps
    [.sec, .power] s t)) ∧
  (∀ (s : State) (bankOk : List Bool) (failed channels : List Nat) (fuses : List (Nat × Nat)) (feedLow : Bool), s.power.package =
    .booting 1 → (fuseClasses fuses).any (fun e => decide (e.2 = .unresolved)) = true → Gives (.boot bankOk failed channels fuses
    feedLow) s (fun t => t.power.package = .fuseHold ∧ t.power.fuses = fuseClasses fuses ∧ Keeps [.power] s t)) ∧
  (∀ (s : State) (changed : List (Nat × Nat × Bool)) (w : Nat), s.running = true → changed = [(w, 1, false)] → Store.read .clean
    s.power.fuses w = .clean → s.power.fuseMarginal.contains w = false → Gives (.fuseReread changed) s (fun t => t.power.fuseMarginal =
    s.power.fuseMarginal ++ [w] ∧ t.now = max s.now (s.power.rereadAt + usUnits (1000000 * s.num O.fuseRereadS 3600)) ∧ t.num
    O.fuseLastRereadFtc 0 = t.ftc ∧ Keeps [.now, .ftc, .dict, .power] s t)) ∧
  (∀ (s : State) (changed : List (Nat × Nat × Bool)) (w k : Nat) (differs : Bool), s.running = true → changed = [(w, k, differs)] →
    differs = true ∨ k = 2 → Gives (.fuseReread changed) s (fun t => t.num O.fuseRereadMismatches 0 = (s.num O.fuseRereadMismatches 0 +
    1) % 2 ^ 32 ∧ t.faults.seq = s.faults.seq + 1 ∧ t.faults.lastCode = 0x40 ∧ t.power.fuseMarginal = s.power.fuseMarginal ∧ Keeps [.now,
    .ftc, .dict, .power, .remote, .mgmt, .faults, .freeCounter] s t)) ∧
  (∀ (s : State), s.power.package = .brownout → 44000 ≤ s.power.inputMv → s.power.coldResetLow = false → Gives (.brownoutRecovery) s (fun
    t => t.power.package = .booting 3 ∧ t.power.cause = .brownoutRecovery ∧ t.power.events = 32 ∧ t.power.standby = s.power.standby ∧
    t.chip = s.chip)) ∧
  (∀ (s : State) (mv : Nat), mv < 36000 → s.power.package = .brownout → Gives (.brownoutLoss mv) s (fun t => t.power.package = .off ∧
    t.power.startCause = .brownoutLoss ∧ t.power.standby = none ∧ Keeps [.power] s t)) ∧
  (∀ (s : State) (mv : Nat), mv < 36000 → s.power.package = .thermalOff → Gives (.brownoutLoss mv) s (fun t => t.power.package = .off ∧
    t.power.startCause = .thermalTrip ∧ Keeps [.power] s t))

/-- A measurement above the limit for the tenth time takes the first step of R520 that applies; the hundredth below 95 % undoes one. A
  sample below 95 % of the highest of the last ones starts the sag throttle (R521, R522); a third sample below 40 V performs the brownout
  sequence (R524). A release rises in four steps (R523). 100 °C starts the thermal throttle, which lowers and raises clocks by steps, and
  105 °C powers off (R526). A lower clock request applies at once, a higher one when the rail has settled (R527, R530). Losing the
  reference contains and holds (R528). The watchdog restarts on six heartbeats, warns, and resets warm at its expiry (R534). -/
def Obligations.ThrottlesClocksAndWatchdogTakeEffect : Prop :=
  (∀ (s : State) (watts : Nat), s.running = true → watts ≤ s.power.limitW → 95 * s.power.limitW < 100 * watts → Gives (.powerMonitorTick
    watts) s (fun t => t.power =
    { s.power with inputW := min watts 65535, inputCa := if s.power.inputMv = 0 then 0 else min 65535 (watts * 100000 / s.power.inputMv), overRun := 0, underRun := 0 }
    ∧ Keeps [.power] s t)) ∧
  (∀ (s : State) (watts k : Nat), s.running = true → s.power.limitW < watts → 9 ≤ s.power.overRun → s.nextPowerStep = some k → Gives
    (.powerMonitorTick watts) s (fun t => t.power.powerSteps = s.power.powerSteps ++ [k] ∧ t.power.powerAt = s.now ∧ t.power.overRun = 0
    ∧ t.power.events = s.power.events ||| 8 ∧ t.mgmt.eventSeq = s.mgmt.eventSeq + 1 ∧ Keeps [.power, .dict, .remote, .mgmt, .freeCounter]
    s t)) ∧
  (∀ (s : State) (watts : Nat), s.running = true → 100 * watts ≤ 95 * s.power.limitW → 99 ≤ s.power.underRun → Gives (.powerMonitorTick
    watts) s (fun t => t.power.powerSteps = s.power.powerSteps.dropLast ∧ t.power.underRun = 0 ∧ Keeps [.power] s t)) ∧
  (∀ (s : State) (mv : Nat), s.running = true → 95 * s.power.samples.foldl max 0 ≤ 100 * mv → 44000 ≤ mv → s.power.injectedSag = none →
    Gives (.sagSample mv (false)) s (fun t => t.power.inputMv = min mv 65535 ∧ t.power.samples = (mv :: s.power.samples).take 20 ∧
    t.power.lowRun = 0 ∧ t.power.brownRun = 0 ∧ t.power.warnRun = 0 ∧ t.power.sag = s.power.sag ∧ t.power.calmSince = (if 46000 ≤ mv then
    some (s.power.calmSince.getD s.now) else none) ∧ Keeps [.power] s t)) ∧
  (∀ (s : State) (mv : Nat) (warnLow : Bool), s.running = true → 100 * mv < 95 * s.power.samples.foldl max 0 → 40000 ≤ mv → Gives
    (.sagSample mv warnLow) s (fun t => t.power.sag = .inForce ∧ t.power.events.getLsbD 0 = true ∧ t.power.calmSince = none ∧
    t.mgmt.eventSeq = (if s.power.sag = .none then s.mgmt.eventSeq + 1 else s.mgmt.eventSeq) ∧ Keeps [.power, .dict, .remote, .mgmt,
    .freeCounter] s t)) ∧
  (∀ (s : State) (mv : Nat) (warnLow : Bool), s.running = true → mv < 40000 → 2 ≤ s.power.brownRun → s.liveSlots = [] → Gives (.sagSample
    mv warnLow) s (fun t => t.power.package = .brownout ∧ t.power.standby = some
    { ftc := s.ftc, trip := false, arg := ((mv :: s.power.samples).take 3).foldl min mv } ∧ t.coh.entries = [] ∧ t.chip = s.chip)) ∧
  (∀ (s : State) (calm : Nat), s.running = true → s.power.sag = .inForce → s.power.calmSince = some calm → Gives (.throttleRelease) s
    (fun t => t.now = max s.now (calm + usUnits (s.num O.sagReleaseUs 2)) ∧ t.power.sag = .releasing 1 ∧ t.power.releaseDue = t.now +
    nsUnits 250 ∧ Keeps [.now, .ftc, .dict, .power] s t)) ∧
  (∀ (s : State) (k : Nat), s.running = true → s.power.sag = .releasing k → Gives (.throttleRelease) s (fun t => t.now = max s.now
    s.power.releaseDue ∧ t.power.sag = (if 3 ≤ k then .none else .releasing (k + 1)) ∧ t.power.releaseDue = t.now + nsUnits 250 ∧ Keeps
    [.now, .ftc, .dict, .power] s t)) ∧
  (∀ (s : State) (c16 : Nat), s.running = true → c16 < 1600 → Gives (.thermalSample c16) s (fun t => t.power =
    { s.power with jmax := c16 } ∧ Keeps [.power] s t)) ∧
  (∀ (s : State) (c16 : Nat), s.running = true → 1600 ≤ c16 → c16 < 1680 → s.power.thermal = false → Gives (.thermalSample c16) s (fun t
    => t.power = { s.power with jmax := c16, thermal := true, thermalAt := s.now, events := s.power.events ||| 16 } ∧ t.mgmt.eventSeq =
    s.mgmt.eventSeq + 1 ∧ Keeps [.power, .dict, .remote, .mgmt, .freeCounter] s t)) ∧
  (∀ (s : State) (c16 : Nat), s.running = true → 1680 ≤ c16 → s.liveSlots = [] → Gives (.thermalSample c16) s (fun t => t.power.package =
    .thermalOff ∧ t.power.standby = some { ftc := s.ftc, trip := true, arg := c16 } ∧ t.coh.entries = [])) ∧
  (∀ (s : State), s.running = true → s.power.thermal = true → 1600 ≤ s.power.jmax → Gives (.thermalThrottleStep) s (fun t => t.now = max
    s.now (s.power.thermalAt + msUnits 1) ∧ t.power =
    { s.power with thermalAt := t.now, thermalDyn := if s.canSlow false then s.power.thermalDyn + 1 else s.power.thermalDyn, thermalStatic := if s.canSlow false = false ∧ s.canSlow true then s.power.thermalStatic + 1 else s.power.thermalStatic }
    ∧ Keeps [.now, .ftc, .dict, .power] s t)) ∧
  (∀ (s : State), s.running = true → s.power.thermal = true → s.power.jmax < 1552 → Gives (.thermalThrottleStep) s (fun t =>
    t.power.thermalStatic = s.power.thermalStatic - 1 ∧ t.power.thermalDyn = (if s.power.thermalStatic ≠ 0 then s.power.thermalDyn else
    s.power.thermalDyn - 1) ∧ (t.power.thermal = !(decide (t.power.thermalDyn = 0 ∧ t.power.thermalStatic = 0))) ∧ Keeps [.now, .ftc,
    .dict, .power] s t)) ∧
  (∀ (s : State) (ppb : Int) (parentPpb : Option Int), s.running = true → ppb.natAbs ≤ 200000 → Gives (.referenceMonitor ppb parentPpb
    (false)) s (fun t => (∀ d, parentPpb = some d → t.num O.referenceOffsetPpb 0 = i32 d) ∧ (parentPpb = none → t.dict = s.dict) ∧ Keeps
    [.dict] s t)) ∧
  (∀ (s : State) (ppb : Int) (parentPpb : Option Int), s.running = true → s.liveSlots = [] → Gives (.referenceMonitor ppb parentPpb
    (true)) s (fun t => t.power.package = .referenceHold ∧ t.power.cause = .referenceFail ∧ t.num O.referenceState 0 = 1 ∧ t.faults.seq =
    s.faults.seq + 1 ∧ t.faults.lastCode = 0x42 ∧ t.chip = s.chip)) ∧
  (∀ (s : State) (p : DictPath) (cluster mhz : Nat), s.running = true → cluster < 256 → 600 ≤ mhz → mhz ≤ 2000 → mhz % 100 = 0 →
    s.clusterStatic cluster = false → s.power.sag = .none → s.power.thermal = false → Store.wf 1800 s.power.clocks = true → Gives
    (.clockRequestWrite p cluster mhz) s (fun t => t.num (O.clusterClockRequestMhz (unitIndex (clusterLoc cluster))) 1800 = mhz ∧
    t.clusterSet cluster = (if s.clusterSet cluster < mhz then s.clusterSet cluster else mhz) ∧ t.florets.clockRises =
    s.florets.clockRises.filter (fun e => decide (e.1 ≠ cluster)) ++ (if s.clusterSet cluster < mhz then [(cluster, mhz)] else []) ∧
    Answers t .ok ∧ Keeps [.dict, .florets, .power, .mgmt, .freeCounter] s t)) ∧
  (∀ (s : State) (q : Nat), s.running = true → q < 16 → s.power.sag = .none → s.power.thermal = false → Store.wf 1800 s.power.clocks =
    true → Gives (.railSettled q) s (fun t => (∀ e ∈ s.florets.clockRises, e.1 / 16 = q → s.clusterStatic e.1 = false →
    s.florets.clockRises.all (fun x => decide (x.1 = e.1 → x = e)) = true → t.clusterSet e.1 = e.2) ∧ t.florets.clockRises =
    s.florets.clockRises.filter (fun e => decide (e.1 / 16 ≠ q)) ∧ (∀ k ∈ List.range 256, k / 16 ≠ q → t.clusterSet k = s.clusterSet k) ∧
    Keeps [.florets, .power, .freeCounter] s t)) ∧
  (∀ (s : State) (part : Nat), s.running = true → part < 6 → Gives (.heartbeat part) s (fun t => t.power =
    { s.power with heartbeats := s.power.heartbeats ||| BitVec.ofNat 6 (2 ^ part) } ∧ Keeps [.power] s t)) ∧
  (∀ (s : State), s.running = true → s.power.heartbeats = 63 → Gives (.watchdogRestart) s (fun t => t.power =
    { s.power with heartbeats := 0, watchdogAt := s.now, warned := false, watchdogMs := s.num O.watchdogTimeoutMs 2000 } ∧ Keeps [.power]
    s t)) ∧
  (∀ (s : State), s.running = true → s.power.warned = false → Gives (.watchdogWarning) s (fun t => t.now = max s.now (s.power.watchdogAt
    + msUnits s.power.watchdogMs / 2) ∧ t.power = { s.power with warned := true } ∧ t.faults.seq = s.faults.seq + 1 ∧ t.faults.lastCode =
    0x23 ∧ Keeps [.now, .ftc, .dict, .power, .remote, .mgmt, .faults, .freeCounter] s t)) ∧
  (∀ (s : State), s.running = true → Gives (.watchdogExpiry) s (fun t => t.power.package = .booting 3 ∧ t.power.cause = .watchdog ∧ t.num
    O.watchdogMissing 0 = 63 - s.power.heartbeats.toNat ∧ t.power.standbyWatchdog.map (·.2) = some (63 - s.power.heartbeats.toNat) ∧
    t.chip = s.chip))

/-- OPEN takes a free slot; CS_PUT appends exactly its record to the attempt's staging area; ABORT ends an open slot and RELEASE frees a
  finished one; a CS_COMMIT makes its attempt the winner and applies its records in order; when the puts have ended the slot is COMMITTED
  or FAULTED and the commit is answered (R563-R567). An accepted arm takes the CoW frames; the start tick makes the checkpoint STREAMING
  with a new epoch and its first pages leave; a captured page is never sent again; a copied page no longer copies; the manifest ends the
  checkpoint, and a cancel or a failed put fails it (R568-R572). -/
def Obligations.CommitSlotsAndCheckpointsProgress : Prop :=
  (∀ (s : State) (o : Operation) (n pn : Nat) (x : CommitSlot) (p : Partition), OnSlot s o 0xF0 n x → o.operand1 = 0 → o.length = 64 →
    x.state = .free → zerosAt o.data 14 2 = true → zerosAt o.data 24 40 = true → fieldAt o.data 0 8 % 4096 = 0 → addrRegion (BitVec.ofNat
    64 (fieldAt o.data 0 8)) = 0 → s.isHere (addrNode (BitVec.ofNat 64 (fieldAt o.data 0 8))) = true → fieldAt o.data 8 4 % 4096 = 0 →
    4096 ≤ fieldAt o.data 8 4 → fieldAt o.data 8 4 ≤ 1073741824 → 1 ≤ fieldAt o.data 12 1 → fieldAt o.data 12 1 ≤ 16 → 1 ≤ fieldAt o.data
    13 1 → fieldAt o.data 13 1 ≤ 15 → s.partAt (addrOffset (BitVec.ofNat 64 (fieldAt o.data 0 8))) = some (pn, p) → p.state = .bound →
    p.tenant = o.req.issuer.tenant → addrOffset (BitVec.ofNat 64 (fieldAt o.data 0 8)) + fieldAt o.data 12 1 * fieldAt o.data 8 4 ≤
    p.end_ → Gives (.csOpen o) s (fun t => t.cslot n =
    { state := .opened, tenant := o.req.issuer.tenant, stageAddr := BitVec.ofNat 64 (fieldAt o.data 0 8), stageBytes := fieldAt o.data 8 4, attempts := fieldAt o.data 12 1, tc := fieldAt o.data 13 1, doneSync := BitVec.ofNat 64 (fieldAt o.data 16 8) }
    ∧ Answered t o.req o.op (fun a => decide (a.status = .ok)) = true ∧ Keeps [.faults, .remote, .dict, .freeCounter] s t)) ∧
  (∀ (s : State) (o : Operation) (n : Nat) (x : CommitSlot), OnSlot s o 0xF0 n x → o.operand1 = 0 → o.length = 0 → x.state = .opened →
    Gives (.csAbort o) s (fun t => t.cslot n = { x with state := .aborted, staged := [] } ∧ Answered t o.req o.op (fun a => decide
    (a.status = .ok)) = true ∧ Keeps [.faults, .remote, .dict, .freeCounter] s t)) ∧
  (∀ (s : State) (o : Operation) (n : Nat) (x : CommitSlot), OnSlot s o 0xF0 n x → o.operand1 = 0 → o.length = 0 → x.state = .aborted ∨
    x.state = .committed ∨ x.state = .faulted → Store.wf ({} : CommitSlot) s.faults.slots = true → Gives (.csRelease o) s (fun t =>
    t.cslot n = {} ∧ Answered t o.req o.op (fun a => decide (a.status = .ok)) = true ∧ Keeps [.faults, .remote, .dict, .freeCounter] s
    t)) ∧
  (∀ (s : State) (o : Operation) (n off : Nat) (x : CommitSlot), OnSlot s o 0xFF n x → 1 ≤ o.length → o.length ≤ 2 ^ 24 → addrRegion
    o.operand1 < 7 → x.state = .opened → csAttempt o.req.target < x.attempts → Store.read 0 x.staged (csAttempt o.req.target) + (csRecord
    o).length ≤ x.stageBytes → off = addrOffset x.stageAddr + csAttempt o.req.target * x.stageBytes + Store.read 0 x.staged (csAttempt
    o.req.target) → s.poolCheck off (csRecord o).length x.tenant none .stage = none → s.firstPoison off (csRecord o).length = none →
    BytesCanonical s → Gives (.csPut o) s (fun t => StoresMem s t off (csRecord o) ∧ t.cslot n =
    { x with staged := Store.write 0 x.staged (csAttempt o.req.target) (Store.read 0 x.staged (csAttempt o.req.target) + (csRecord o).length) }
    ∧ Answered t o.req o.op (fun a => decide (a.status = .ok)) = true)) ∧
  (∀ (s : State) (o : Operation) (n : Nat) (x : CommitSlot) (bs : List Byte), OnSlot s o 0xFF n x → o.operand1 = 0 → o.length = 0 →
    x.state = .opened → csAttempt o.req.target < x.attempts → (s.begin.openOp o.req o.op).serviceRead (addrOffset x.stageAddr + csAttempt
    o.req.target * x.stageBytes) (Store.read 0 x.staged (csAttempt o.req.target)) x.tenant .stage = .ok bs → Gives (.csCommit o) s (fun t
    => t.cslot n =
    { x with state := .applying, winner := some (csAttempt o.req.target), commit := some o.req, applied := (((s.begin.openOp o.req o.op).used (addrOffset x.stageAddr + csAttempt o.req.target * x.stageBytes) (Store.read 0 x.staged (csAttempt o.req.target)) x.tenant).csApply x (csRecords (bs.length / 64) bs) 0).2.1, stopped := (((s.begin.openOp o.req o.op).used (addrOffset x.stageAddr + csAttempt o.req.target * x.stageBytes) (Store.read 0 x.staged (csAttempt o.req.target)) x.tenant).csApply x (csRecords (bs.length / 64) bs) 0).1 }
    ∧ (t.outOp o.req.issuer false o.req.seq).isSome = true)) ∧
  (∀ (s : State) (o : Operation) (n : Nat) (x : CommitSlot) (bs data : List Byte) (dst : Word64), OnSlot s o 0xFF n x → o.operand1 = 0 →
    o.length = 0 → x.state = .opened → csAttempt o.req.target < x.attempts → (s.begin.openOp o.req o.op).serviceRead (addrOffset
    x.stageAddr + csAttempt o.req.target * x.stageBytes) (Store.read 0 x.staged (csAttempt o.req.target)) x.tenant .stage = .ok bs →
    csRecords (bs.length / 64) bs = [(dst, data)] → s.isHere (addrNode dst) = false → Gives (.csCommit o) s (fun t => t.out.sent =
    [.operation
    { op := 1, req := { issuer := { src := .mgmt, tenant := x.tenant, node := s.nodeId }, tc := x.tc, target := dst }, length := data.length, data := data }]
    ∧ (t.cslot n).applied = data.length ∧ (t.cslot n).stopped = .ok ∧ Keeps [.faults, .remote, .pool, .dict] s t)) ∧
  (∀ (s : State) (o : Operation) (n : Nat) (x : CommitSlot), OnSlot s o 0xFF n x → o.operand1 = 0 → o.length = 0 → x.state = .applying ∨
    x.state = .committed → x.winner ≠ some (csAttempt o.req.target) → Gives (.csCommit o) s (fun t => Answered t o.req o.op (fun a =>
    decide (a.status = .superseded ∧ a.result = BitVec.ofNat 64 (x.winner.getD 0))) = true ∧ t.cslot n = x ∧ Keeps [.remote, .dict,
    .freeCounter] s t)) ∧
  (∀ (s : State) (slot : Nat) (r : Response) (q : Req), s.running = true → (s.cslot slot).state = .applying → (s.cslot slot).commit =
    some q → (s.cslot slot).stopped = .ok → r.status = .ok → q.posted = false → q.copy = none → Gives (.csApplyDone slot r) s (fun t =>
    t.cslot slot = { s.cslot slot with state := .committed, commit := none } ∧ Answered t q 0x7A (fun a => decide (a.status = .ok ∧
    a.result = BitVec.ofNat 64 (s.cslot slot).applied)) = true ∧ Keeps [.faults, .remote, .dict, .freeCounter] s t)) ∧
  (∀ (s : State) (slot : Nat) (r : Response) (q : Req), s.running = true → (s.cslot slot).state = .applying → (s.cslot slot).commit =
    some q → (s.cslot slot).stopped = .ok → r.status ≠ .ok → q.posted = false → q.copy = none → Gives (.csApplyDone slot r) s (fun t =>
    t.cslot slot = { s.cslot slot with state := .faulted, commit := none } ∧ Answered t q 0x7A (fun a => decide (a.status = r.status ∧
    a.result = r.result)) = true ∧ Keeps [.faults, .remote, .dict, .freeCounter] s t)) ∧
  (∀ (s : State) (p : DictPath) (k : Nat) (l : List (Nat × Nat)), s.running = true → s.ckptCheck k = none → takeFrames (s.ckpt
    k).cowPages (s.part (s.ckpt k).partition).freeFrames = some l → Gives (.ckptArm p k) s (fun t => t.ckpt k =
    { s.ckpt k with state := .armed, cowFrames := l, copies := [], copying := [], captured := [], inFlight := [], urgent := [], held := [], next := 0, streamed := 0, cowCopies := 0, poisoned := 0, status := .ok, manifest := false }
    ∧ (t.part (s.ckpt k).partition).freeFrames = l.foldl (fun f e => Store.write 0 f e.1 (Store.read 0 f e.1 - e.2)) (s.part (s.ckpt
    k).partition).freeFrames ∧ Answers t .ok ∧ Keeps [.faults, .pool, .mgmt, .freeCounter] s t)) ∧
  (∀ (s : State) (p : DictPath) (k : Nat), s.running = true → (s.ckpt k).state = .armed ∨ (s.ckpt k).state = .streaming → (s.ckpt k).held
    = [] → Gives (.ckptCancel p k) s (fun t => t.ckpt k =
    { s.ckpt k with state := .failed, status := .flushed, endFtc := s.ftc, cowFrames := [], copies := [], copying := [], inFlight := [], urgent := [], manifest := false }
    ∧ (t.part (s.ckpt k).partition).freeFrames = (s.ckpt k).cowFrames.foldl (fun f e => Store.write 0 f e.1 (Store.read 0 f e.1 + e.2))
    (s.part (s.ckpt k).partition).freeFrames ∧ Answers t .ok ∧ Keeps [.faults, .pool, .mgmt, .freeCounter] s t)) ∧
  (∀ (s : State) (k : Nat), s.running = true → (s.ckpt k).state = .armed → Gives (.ckptStart k) s (fun t => t.now = s.now + ((s.ckpt
    k).startFtc - s.ftc) ∧ (t.ckpt k).state = .streaming ∧ (t.ckpt k).epoch = (Store.read 0 s.faults.epochs (s.ckpt k).partition + 1) % 2
    ^ 32 ∧ (t.ckpt k).partition = (s.ckpt k).partition ∧ Keeps [.now, .ftc, .dict, .traffic, .faults] s t)) ∧
  (∀ (s : State) (k : Nat), s.running = true → (s.ckpt k).state = .armed → bitAt (s.ckpt k).shaper 16 = false → (s.ckpt k).captured = []
    → (s.ckpt k).inFlight = [] → (s.ckpt k).urgent = [] → (s.ckpt k).copies = [] → (s.ckpt k).next = 0 → 1 ≤ (s.part (s.ckpt
    k).partition).size → Gives (.ckptStart k) s (fun t => t.out.sent.head? = some (.operation
    { op := 1, req := { issuer := mgmtIssuer, tc := (s.ckpt k).tc, target := (s.ckpt k).dest }, length := 65536, data := readRange (s.pageImage (s.ckpt k).partition 0).2 0 65536 })
    ∧ (t.ckpt k).inFlight.length = min 32 (s.part (s.ckpt k).partition).size)) ∧
  (∀ (s : State) (k page : Nat) (r : Response), s.running = true → (s.ckpt k).state = .streaming → (s.ckpt k).inFlight.contains page =
    true → r.status = .ok → (s.ckpt k).held = [] → Gives (.ckptPageCaptured k page r) s (fun t => Store.read false (t.ckpt k).captured
    page = true ∧ (t.ckpt k).streamed = (s.ckpt k).streamed + 1 ∧ (t.ckpt k).inFlight.contains page = false ∧ (t.ckpt k).state =
    .streaming ∧ Keeps [.faults, .traffic] s t)) ∧
  (∀ (s : State) (k page : Nat) (r : Response), s.running = true → (s.ckpt k).state = .streaming → (s.ckpt k).inFlight.contains page =
    true → r.status ≠ .ok → (s.ckpt k).held = [] → Gives (.ckptPageCaptured k page r) s (fun t => (t.ckpt k).state = .failed ∧ (t.ckpt
    k).status = r.status ∧ (t.ckpt k).cowFrames = [] ∧ Keeps [.faults, .pool] s t)) ∧
  (∀ (s : State) (k page : Nat), s.running = true → (s.ckpt k).state = .streaming → (s.ckpt k).copying.contains page = true → Store.read
    false (s.ckpt k).captured page = true → (s.ckpt k).held = [] → Gives (.cowCopyDone k page) s (fun t => t.ckpt k =
    { s.ckpt k with copying := (s.ckpt k).copying.filter (fun p => decide (p ≠ page)) } ∧ Keeps [.faults] s t)) ∧
  (∀ (s : State) (k page : Nat), s.running = true → (s.ckpt k).state = .streaming → (s.ckpt k).copying.contains page = true → Store.read
    false (s.ckpt k).captured page = false → (s.ckpt k).held = [] → Gives (.cowCopyDone k page) s (fun t => (t.ckpt k).copying = (s.ckpt
    k).copying.filter (fun p => decide (p ≠ page)) ∧ Store.read none (t.ckpt k).copies page = some (s.pageImage (s.ckpt k).partition
    page) ∧ (t.ckpt k).state = .streaming ∧ Keeps [.faults] s t)) ∧
  (∀ (s : State) (k : Nat) (r : Response), s.running = true → (s.ckpt k).state = .streaming → (s.ckpt k).manifest = true → (s.ckpt
    k).held = [] → Gives (.ckptManifest k r) s (fun t => t.ckpt k =
    { s.ckpt k with state := if r.status = .ok then .done else .failed, status := r.status, endFtc := s.ftc, cowFrames := [], copies := [], copying := [], inFlight := [], urgent := [], manifest := false }
    ∧ Keeps [.faults, .pool] s t))

/-- An accepted arm arms the selected entry for its first FTC; a cancel and the clear of inject_enable disarm (R559, R560). A firing of
  LINK_REPLAY, TIER_LATE, TIER_ERROR and SAG has its effect and is counted, a firing whose target is no unit is skipped with E_PARAM, and
  after the last the entry is IDLE (R559, R561). The samples of an ms go to the meters of the mode in force, and a mode change takes
  effect at the boundary (R500, R573). A DIMM that draws too much loses its switch, and with the feed low every far channel fails (R579,
  R580). -/
def Obligations.InjectionMetersAndFeedTakeEffect : Prop :=
  (∀ (s : State) (p : DictPath), s.running = true → s.injectCheck (s.injection (s.num O.injectSelect 0)) = none → Gives (.injectArm p) s
    (fun t => t.injection (s.num O.injectSelect 0) =
    { s.injection (s.num O.injectSelect 0) with armed := true, nextFtc := (s.injection (s.num O.injectSelect 0)).firstFtc, left := (s.injection (s.num O.injectSelect 0)).count }
    ∧ (∀ e, e ≠ s.num O.injectSelect 0 → t.injection e = s.injection e) ∧ Answers t .ok ∧ Keeps [.faults, .mgmt, .freeCounter] s t)) ∧
  (∀ (s : State) (p : DictPath), s.running = true → Store.wf ({} : InjectEntry) s.faults.inject = true → Gives (.injectCancel p) s (fun t
    => t.injection (s.num O.injectSelect 0) = { s.injection (s.num O.injectSelect 0) with armed := false } ∧ Answers t .ok ∧ Keeps
    [.faults, .mgmt, .freeCounter] s t)) ∧
  (∀ (s : State) (p : DictPath), s.running = true → s.dictArmed p 0x5800 = true → Store.wf ({} : InjectEntry) s.faults.inject = true →
    Gives (.injectDisable p) s (fun t => t.num O.injectEnable 0 = 0 ∧ (∀ e, t.injection e = { s.injection e with armed := false }) ∧
    Answers t .ok ∧ Keeps [.dict, .faults, .mgmt, .freeCounter] s t)) ∧
  (∀ (s : State) (e p : Nat), s.running = true → (s.injection e).armed = true → (s.injection e).kind = 1 → s.unitAt (s.injection
    e).target.toNat = some (.port p) → Store.wf ({} : InjectEntry) s.faults.inject = true → Gives (.injectFire e) s (fun t => t.injection
    e =
    { s.injection e with left := (s.injection e).left - 1, armed := decide (1 < (s.injection e).left), nextFtc := (s.injection e).nextFtc + usUnits (s.injection e).intervalUs, fired := ((s.injection e).fired + 1) % 2 ^ 32, lastStatus := .ok }
    ∧ t.faults.linkReplay = s.faults.linkReplay.filter (fun x => decide (x.1 ≠ p)) ++ [(p, (s.injection e).param)] ∧ t.now = s.now +
    ((s.injection e).nextFtc - s.ftc) ∧ Keeps [.now, .ftc, .dict, .faults] s t)) ∧
  (∀ (s : State) (e d i : Nat), s.running = true → (s.injection e).armed = true → (s.injection e).kind = 4 → s.unitAt (s.injection
    e).target.toNat = some (.memCtl d i) → Gives (.injectFire e) s (fun t => t.faults.tierLate = s.faults.tierLate.filter (fun x =>
    decide (x.1 ≠ unitIndex (.memCtl d i))) ++ [(unitIndex (.memCtl d i), (s.injection e).param, t.now + usUnits 100)] ∧ Keeps [.now,
    .ftc, .dict, .faults] s t)) ∧
  (∀ (s : State) (e d i : Nat), s.running = true → (s.injection e).armed = true → (s.injection e).kind = 5 → s.unitAt (s.injection
    e).target.toNat = some (.memCtl d i) → Gives (.injectFire e) s (fun t => t.faults.tierError = s.faults.tierError.filter (fun x =>
    decide (x.1 ≠ unitIndex (.memCtl d i))) ++ [(unitIndex (.memCtl d i), (s.injection e).param, 0)] ∧ Keeps [.now, .ftc, .dict, .faults]
    s t)) ∧
  (∀ (s : State) (e : Nat) (l : UnitLoc), s.running = true → (s.injection e).armed = true → (s.injection e).kind = 6 → s.unitAt
    (s.injection e).target.toNat = some l → Gives (.injectFire e) s (fun t => t.power.sag = .inForce ∧ t.power.injectedSag = some (t.now
    + usUnits (s.injection e).param) ∧ t.power.events.getLsbD 2 = true ∧ (t.injection e).fired = ((s.injection e).fired + 1) % 2 ^ 32 ∧
    Keeps [.now, .ftc, .dict, .power, .remote, .mgmt, .faults, .freeCounter] s t)) ∧
  (∀ (s : State) (e : Nat), s.running = true → (s.injection e).armed = true → s.unitAt (s.injection e).target.toNat = none → Gives
    (.injectFire e) s (fun t => (t.injection e).skipped = ((s.injection e).skipped + 1) % 2 ^ 32 ∧ (t.injection e).fired = (s.injection
    e).fired ∧ (t.injection e).lastStatus = .param ∧ (t.injection e).armed = decide (1 < (s.injection e).left) ∧ Keeps [.now, .ftc,
    .dict, .faults] s t)) ∧
  (∀ (s : State), s.running = true → Gives (.meterSample) s (fun t => t.now = (s.now / msUnits 1 + 1) * msUnits 1 ∧ (∀ k, k < 65 →
    s.meterHolds k = false → Store.read 0 s.faults.meterMode k = 0 → t.num ((0x5C01 + k) * 256 + 0x07) 0 % 2 ^ 64 = (s.num ((0x5C01 + k)
    * 256 + 0x07) 0 + s.framesOf k) % 2 ^ 64 ∧ t.num ((0x5C01 + k) * 256 + 0x10) 0 % 2 ^ 64 = (s.num ((0x5C01 + k) * 256 + 0x10) 0 +
    s.entriesOf k) % 2 ^ 64) ∧ (∀ k, k < 65 → s.meterHolds k = false → Store.read 0 s.faults.meterMode k ≠ 0 → t.num ((0x5C01 + k) * 256
    + 0x21) 0 % 2 ^ 64 = (s.num ((0x5C01 + k) * 256 + 0x21) 0 + ((List.range 256).filter (fun c => decide (s.clusterOwner c =
    k))).length) % 2 ^ 64 ∧ t.num ((0x5C01 + k) * 256 + 0x25) 0 % 2 ^ 64 = (s.num ((0x5C01 + k) * 256 + 0x25) 0 + s.quotaCells k) % 2 ^
    64) ∧ Keeps [.now, .ftc, .dict] s t)) ∧
  (∀ (s : State), s.running = true → Store.wf 0 s.faults.meterMode = true → Gives (.meterModeSwitch) s (fun t => (∀ k, k < 64 →
    Store.read 0 t.faults.meterMode k = s.num ((0x5C01 + k) * 256 + 0x20) 0) ∧ t.now = (if (List.range 64).any (fun k => s.meterHolds k)
    then (s.now + msUnits 1 - 1) / msUnits 1 * msUnits 1 else s.now) ∧ Keeps [.now, .ftc, .dict, .faults] s t)) ∧
  (∀ (s : State) (dimm : Nat), s.running = true → dimm < 32 → s.power.dimmSupply = true → s.chanFrames (256 + dimm / 2) ≠ 0 →
    s.chanAbsent (256 + dimm / 2) = false → (s.chan (256 + dimm / 2)).state ≠ .empty → (s.chan (256 + dimm / 2)).state ≠ .failed → Gives
    (.dimmOvercurrent dimm) s (fun t => Store.read false t.power.dimmOff dimm = true ∧ (t.chan (256 + dimm / 2)).state = .failed ∧
    t.faults.seq = s.faults.seq + 1 ∧ t.faults.lastCode = 0x10 ∧ Keeps [.dict, .mem, .sram, .remote, .traffic, .pool, .mgmt, .power,
    .faults, .freeCounter] s t)) ∧
  (∀ (s : State), s.running = true → Gives (.dimmFeedLow) s (fun t => t.power = { s.power with feedGood := false } ∧ (∀ k ∈ List.range
    16, s.chanAbsent (256 + k) = false → (s.chan (256 + k)).state ≠ .empty → (t.chan (256 + k)).state = .failed) ∧ Keeps [.dict, .mem,
    .sram, .remote, .traffic, .pool, .mgmt, .power, .faults, .freeCounter] s t))
end

