-- ==== Sys2Proof/Laws/Frame.lean ====
section
/-! SUPPORT. Frames compose, and what each shared operation may change: every part but those named, and but what it answers and
sends, is as before. -/

namespace Sys2Proof.Machine

theorem Part.same_iff_refl (s : State) (p : Part) : Part.same s s p = true := by cases p <;> simp [Part.same]

theorem Part.same_trans {s t u : State} {p : Part} (h : Part.same s t p = true) (g : Part.same t u p = true) :
    Part.same s u p = true := by
  cases p <;> simp_all [Part.same]

theorem keeps_iff {c : List Part} {s t : State} :
    Keeps c s t ↔ ∀ p : Part, p ∈ c ∨ p = .out ∨ Part.same s t p = true := by
  constructor
  · intro h p
    have := List.all_eq_true.mp h p (by cases p <;> decide)
    simpa [or_assoc] using this
  · intro h
    refine List.all_eq_true.mpr fun p _ => ?_
    simpa [or_assoc] using h p

theorem Keeps.refl (c : List Part) (s : State) : Keeps c s s :=
  keeps_iff.mpr fun p => .inr (.inr (Part.same_iff_refl s p))

theorem Keeps.trans {c : List Part} {s t u : State} (h : Keeps c s t) (g : Keeps c t u) : Keeps c s u := by
  refine keeps_iff.mpr fun p => ?_
  rcases keeps_iff.mp h p with hp | hp | hp
  · exact .inl hp
  · exact .inr (.inl hp)
  · rcases keeps_iff.mp g p with gp | gp | gp
    · exact .inl gp
    · exact .inr (.inl gp)
    · exact .inr (.inr (Part.same_trans hp gp))

theorem Keeps.mono {c d : List Part} {s t : State} (h : Keeps c s t) (hd : ∀ p, p ∈ c → p ∈ d) : Keeps d s t :=
  keeps_iff.mpr fun p => (keeps_iff.mp h p).imp (hd p) id

/-- A fold of operations with one frame has that frame. -/
theorem Keeps.foldl {α : Type} {c : List Part} {f : State → α → State} (hf : ∀ s a, Keeps c s (f s a)) (l : List α) (s : State) :
    Keeps c s (l.foldl f s) := by
  induction l generalizing s with
  | nil => exact Keeps.refl c s
  | cons a l ih => exact (hf s a).trans (ih _)

theorem Keeps.ite {c : List Part} {s t u : State} {q : Prop} [Decidable q] (h : Keeps c s t) (g : Keeps c s u) :
    Keeps c s (if q then t else u) := by
  split
  · exact h
  · exact g

/-! ### The plain operations -/

theorem begin_keeps (s : State) : Keeps [] s s.begin := by simp [Part.all, Part.same, State.begin]
theorem emit_keeps (s : State) (m : Msg) : Keeps [] s (s.emit m) := by simp [Part.all, Part.same, State.emit]
theorem free_keeps (s : State) (n : Nat) : Keeps [.freeCounter] s (s.free n).2 := by simp [Part.all, Part.same, State.free]
theorem setNum_keeps (s : State) (k v : Nat) : Keeps [.dict] s (s.setNum k v) := by simp [Part.all, Part.same, State.setNum]
theorem setBytes_keeps (s : State) (k : Nat) (b : List Byte) : Keeps [.dict] s (s.setBytes k b) := by
  simp [Part.all, Part.same, State.setBytes]
theorem bumpN_keeps (s : State) (k n : Nat) : Keeps [.dict] s (s.bumpN k n) := Keeps.ite (Keeps.refl _ _) (setNum_keeps _ _ _)
theorem bump_keeps (s : State) (k : Nat) : Keeps [.dict] s (s.bump k) := bumpN_keeps s k 1
theorem bump32_keeps (s : State) (k : Nat) : Keeps [.dict] s (s.bump32 k) := setNum_keeps _ _ _
theorem setReg_keeps (s : State) (a v : Nat) : Keeps [.csr] s (s.setReg a v) := by simp [Part.all, Part.same, State.setReg]
theorem setUnit_keeps (s : State) (l : UnitLoc) (u : UnitRec) : Keeps [.power] s (s.setUnit l u) := by
  simp [Part.all, Part.same, State.setUnit]
theorem setQueue_keeps (s : State) (q : Nat) (c : QueueCtx) : Keeps [.remote] s (s.setQueue q c) := by
  simp [Part.all, Part.same, State.setQueue]
theorem setSync_keeps (s : State) (n : Nat) (o : SyncObj) : Keeps [.remote] s (s.setSync n o) := by
  simp [Part.all, Part.same, State.setSync]
theorem setEndpointPosted_keeps (s : State) (n : Nat) (e : EndpointPosted) : Keeps [.remote] s (s.setEndpointPosted n e) := by
  simp [Part.all, Part.same, State.setEndpointPosted]
theorem setVector_keeps (s : State) (v : Nat) (x : Vector) : Keeps [.mgmt] s (s.setVector v x) := by
  simp [Part.all, Part.same, State.setVector]
theorem memWrite_keeps (s : State) (off : Nat) (bs : List Byte) : Keeps [.mem] s (s.memWrite off bs) := by
  simp [Part.all, Part.same, State.memWrite]
theorem memZero_keeps (s : State) (off n : Nat) : Keeps [.mem] s (s.memZero off n) := by simp [Part.all, Part.same, State.memZero]
theorem sramWrite_keeps (s : State) (off : Nat) (bs : List Byte) : Keeps [.sram] s (s.sramWrite off bs) := by
  simp [Part.all, Part.same, State.sramWrite]
theorem sramZero_keeps (s : State) (off n : Nat) : Keeps [.sram] s (s.sramZero off n) := by
  simp [Part.all, Part.same, State.sramZero]

/-! ### Time -/

theorem ticksPass_keeps (s : State) (n : Nat) : Keeps [.dict] s (s.ticksPass n) := Keeps.ite (bumpN_keeps _ _ _) (Keeps.refl _ _)

/-- Time passes: the two clocks move, and throttle_ticks may count. -/
theorem elapse_keeps (s : State) (t : Nat) : Keeps [.now, .ftc, .dict] s (s.elapse t) := by
  refine Keeps.ite (Keeps.trans ?_ ((ticksPass_keeps _ _).mono (by simp))) (Keeps.refl _ _)
  simp [Part.all, Part.same]

theorem ticksPass_now (s : State) (n : Nat) : (s.ticksPass n).now = s.now := by
  unfold State.ticksPass State.bumpN State.setNum
  split
  · split <;> rfl
  · rfl

/-- The clock stands at the later of the two. -/
theorem elapse_now (s : State) (t : Nat) : (s.elapse t).now = max s.now t := by
  unfold State.elapse
  split
  · rw [ticksPass_now]; simp; omega
  · omega

theorem atFtc_keeps (s : State) (f : Nat) : Keeps [.now, .ftc, .dict] s (s.atFtc f) := Keeps.ite (elapse_keeps _ _) (Keeps.refl _ _)

/-! ### Counters of owners, and open operations -/

theorem countDeferral_keeps (s : State) (tenant : Nat) (r : Reason) : Keeps [.dict] s (s.countDeferral tenant r) :=
  Keeps.ite (Keeps.refl _ _) (bump_keeps _ _)

theorem countRefusal_keeps (s : State) (tenant : Nat) (r : Reason) : Keeps [.dict] s (s.countRefusal tenant r) :=
  Keeps.ite (Keeps.refl _ _) (bump_keeps _ _)

theorem meter_keeps (s : State) (tenant sub n : Nat) : Keeps [.dict] s (s.meter tenant sub n) :=
  Keeps.ite (bumpN_keeps _ _ _) (Keeps.refl _ _)

theorem clearSticky_keeps (s : State) (i : Issuer) : Keeps [.remote] s (s.clearSticky i) := by
  unfold State.clearSticky
  repeat' split
  all_goals exact Keeps.refl _ _

theorem setSticky_keeps (s : State) (i : Issuer) (st : Status) (pseq : Word32) : Keeps [.remote] s (s.setSticky i st pseq) := by
  unfold State.setSticky
  repeat' split
  all_goals exact Keeps.refl _ _

theorem countRetired_keeps (s : State) (i : Issuer) : Keeps [.remote] s (s.countRetired i) := by
  unfold State.countRetired
  repeat' split
  all_goals exact Keeps.refl _ _

theorem countIssued_keeps (s : State) (i : Issuer) : Keeps [.remote] s (s.countIssued i) := by
  unfold State.countIssued
  repeat' split
  all_goals exact Keeps.refl _ _

theorem openOp_keeps (s : State) (r : Req) (op : Nat) : Keeps [.remote] s (s.openOp r op) := by
  unfold State.openOp
  split <;> exact Keeps.refl _ _

theorem closeOp_keeps (s : State) (i : Issuer) (posted : Bool) (id : Nat) : Keeps [.remote] s (s.closeOp i posted id) := by
  unfold State.closeOp
  split
  · exact Keeps.refl _ _
  · exact Keeps.ite (Keeps.trans (Keeps.refl _ _) (countRetired_keeps _ _)) (Keeps.refl _ _)

/-! ### Answers and waits -/

theorem markInjected_keeps (s : State) (a : Response) : Keeps [.dict] s (s.markInjected a).2 := by
  unfold State.markInjected
  exact Keeps.ite (bump_keeps _ _) (Keeps.refl _ _)

/-- An answer changes open operations, counters and the number of the next free value. -/
theorem respondCore_keeps (s : State) (r : Req) (op : Nat) (a : Response) (q : LoadQueue) :
    Keeps [.remote, .dict, .freeCounter] s (s.respondCore r op a q) := by
  have h0 : Keeps [.remote, .dict, .freeCounter] s (s.markInjected (deferredBy r.defer a)).2 :=
    (markInjected_keeps _ _).mono (by simp)
  have h1 : ∀ (u : State) (k : Nat) (v : Reason), Keeps [.remote, .dict, .freeCounter] u (u.countRefusal k v) :=
    fun u k v => (countRefusal_keeps u k v).mono (by simp)
  have h2 : ∀ (u : State) (i : Issuer) (b : Bool) (k : Nat), Keeps [.remote, .dict, .freeCounter] u (u.closeOp i b k) :=
    fun u i b k => (closeOp_keeps u i b k).mono (by simp)
  have h3 : ∀ (u : State) (m : Msg), Keeps [.remote, .dict, .freeCounter] u { (u.emit m) with freeCounter := u.freeCounter + 1 } :=
    fun u m => Keeps.refl _ u
  unfold State.respondCore
  simp only
  generalize (s.markInjected (deferredBy r.defer a)).2 = u at h0
  refine h0.trans ?_
  generalize hv : (if _ = Disp.refused then u.countRefusal _ _ else u) = v
  refine Keeps.trans (t := v) (hv ▸ Keeps.ite (h1 _ _ _) (Keeps.refl _ _)) ?_
  split
  · exact h3 _ _
  · split
    · split
      · exact h2 _ _ _ _
      · exact h3 _ _
    · exact (h2 _ _ _ _).trans (h3 _ _)

theorem endWaitCore_keeps (s : State) (w : Wait) (st : Status) : Keeps [.remote, .dict, .freeCounter] s (s.endWaitCore w st) := by
  unfold State.endWaitCore
  generalize hu : ({ s with remote := _ } : State) = u
  exact Keeps.trans (t := u) (hu ▸ Keeps.refl _ s) (respondCore_keeps _ _ _ _ _)

theorem retest_keeps (s : State) (n : Nat) : Keeps [.remote, .dict, .freeCounter] s (s.retest n) := by
  unfold State.retest
  exact Keeps.foldl (fun t w => endWaitCore_keeps t w .ok) _ _

theorem updateCore_keeps (s : State) (n : Nat) (v : Word64) (i : Issuer) :
    Keeps [.remote, .dict, .freeCounter] s (s.updateCore n v i) := by
  unfold State.updateCore
  simp only
  generalize hu : ({ (s.setSync n _) with freeCounter := _ } : State) = u
  exact Keeps.trans (t := u) (hu ▸ Keeps.refl _ s) (retest_keeps _ _)

theorem endFence_keeps (s : State) (f : PendingFence) : Keeps [.remote, .dict, .freeCounter] s (s.endFence f) := by
  have h : ∀ u : State, u = s ∨ u = s.clearSticky f.req.issuer → Keeps [.remote, .dict, .freeCounter] s u := by
    rintro u (rfl | rfl)
    · exact Keeps.refl _ _
    · exact (clearSticky_keeps _ _).mono (by simp)
  unfold State.endFence
  refine Keeps.trans (h _ ?_) (respondCore_keeps _ _ _ _ _)
  split <;> simp

theorem endNotify_keeps (s : State) (p : PendingNotify) : Keeps [.remote, .dict, .freeCounter] s (s.endNotify p) := by
  unfold State.endNotify
  exact (updateCore_keeps _ _ _ _).trans (respondCore_keeps _ _ _ _ _)

theorem wakeN_keeps (n : Nat) (s : State) : Keeps [.remote, .dict, .freeCounter] s (State.wakeN n s) := by
  induction n generalizing s with
  | zero => exact Keeps.refl _ _
  | succ n ih =>
    unfold State.wakeN
    split
    · refine Keeps.trans ?_ (ih _)
      generalize hu : ({ s with remote := _ } : State) = u
      exact Keeps.trans (t := u) (hu ▸ Keeps.refl _ s) (endFence_keeps _ _)
    · split
      · refine Keeps.trans ?_ (ih _)
        generalize hu : ({ s with remote := _ } : State) = u
        exact Keeps.trans (t := u) (hu ▸ Keeps.refl _ s) (endNotify_keeps _ _)
      · exact Keeps.refl _ _

theorem wake_keeps (s : State) : Keeps [.remote, .dict, .freeCounter] s s.wake := wakeN_keeps _ s

/-- An answer with what goes ahead after it. -/
theorem respond_keeps (s : State) (r : Req) (op : Nat) (a : Response) (q : LoadQueue) :
    Keeps [.remote, .dict, .freeCounter] s (s.respond r op a q) := (respondCore_keeps _ _ _ _ _).trans (wake_keeps _)

theorem endWait_keeps (s : State) (w : Wait) (st : Status) : Keeps [.remote, .dict, .freeCounter] s (s.endWait w st) :=
  Keeps.ite ((endWaitCore_keeps _ _ _).trans (wake_keeps _)) (Keeps.refl _ _)

theorem syncUpdate_keeps (s : State) (n : Nat) (v : Word64) (i : Issuer) :
    Keeps [.remote, .dict, .freeCounter] s (s.syncUpdate n v i) := (updateCore_keeps _ _ _ _).trans (wake_keeps _)

theorem startNotify_keeps (s : State) (r : Req) (op n : Nat) (amount : Word64) (nodeOnly : Bool) :
    Keeps [.remote, .dict, .freeCounter] s (s.startNotify r op n amount nodeOnly) := by
  unfold State.startNotify
  simp only
  split
  · exact (endNotify_keeps _ _).trans (wake_keeps _)
  · generalize hu : ({ s with remote := _ } : State) = u
    exact Keeps.trans (t := u) (hu ▸ Keeps.refl _ s) ((openOp_keeps _ _ _).mono (by simp))

theorem notifyAddr_keeps (s : State) (addr : Word64) (tc : Nat) (i : Issuer) (amount : Word64) :
    Keeps [.remote, .dict, .freeCounter] s (s.notifyAddr addr tc i amount).2 := by
  unfold State.notifyAddr
  simp only
  split
  · exact Keeps.refl _ _
  · split
    · split
      · exact Keeps.refl _ _
      · split
        · exact Keeps.refl _ _
        · exact syncUpdate_keeps _ _ _ _
    · exact Keeps.refl _ _

/-! ### Events, fault records and bus errors -/

theorem sendEvent_keeps (s : State) (mask : BitVec 4) (seqs : List Nat) : Keeps [.mgmt] s (s.sendEvent mask seqs) := by
  unfold State.sendEvent
  refine Keeps.foldl (fun t d => ?_) _ _
  exact Keeps.refl _ t

theorem deliverOther_keeps (s : State) (x : Vector) : Keeps [.remote, .dict, .freeCounter] s (s.deliverOther x) := by
  have h : ∀ b : Bool, ∀ u : State, Keeps [.remote, .dict, .freeCounter] s u →
      Keeps [.remote, .dict, .freeCounter] s (if b then u.emit (.msix (x.msix.extractLsb' 8 6).toNat (x.msix.extractLsb' 0 6).toNat) else u) :=
    fun b u hu => Keeps.ite (hu.trans (Keeps.refl _ u)) hu
  unfold State.deliverOther
  refine h _ _ ?_
  split
  · exact Keeps.refl _ _
  · simp only
    split
    · exact notifyAddr_keeps _ _ _ _ _
    · exact (notifyAddr_keeps _ _ _ _ _).trans ((bump_keeps _ _).mono (by simp))

/-- An event changes the event log and what delivering it does. -/
theorem event_keeps (s : State) (vector source kind : Nat) (st : Status) (arg : Nat) (inj : Bool) :
    Keeps [.mgmt, .remote, .dict, .freeCounter] s (s.event vector source kind st arg inj) := by
  unfold State.event
  simp only
  generalize hu : ({ s with mgmt := _ } : State) = u
  have h1 : Keeps [.mgmt, .remote, .dict, .freeCounter] s (u.bumpN O.eventsDropped
      (List.filter (fun o => decide (o.owed ≠ [])) (s.mgmt.eventLog.take (s.mgmt.eventLog.length + 1 - 4096))).length) :=
    Keeps.trans (t := u) (hu ▸ Keeps.refl _ s) ((bumpN_keeps _ _ _).mono (by simp))
  split
  · exact h1
  · split
    · exact h1.trans (((sendEvent_keeps _ _ _).mono (by simp)).trans ((deliverOther_keeps _ _).mono (by simp)))
    · split <;> exact h1.trans ((setVector_keeps _ _ _).mono (by simp))

/-- A fault record changes the fault log, and its event does the rest. -/
theorem fault_keeps (s : State) (code source arg action : Nat) (st : Status) (entry : Option Nat) :
    Keeps [.faults, .mgmt, .remote, .dict, .freeCounter] s (s.fault code source arg action st entry) := by
  unfold State.fault
  simp only
  refine Keeps.trans ?_ ((event_keeps _ _ _ _ _ _ _).mono (by simp))
  generalize hu : ({ s with faults := _ } : State) = u
  have h1 : Keeps [.faults, .mgmt, .remote, .dict, .freeCounter] s u := hu ▸ Keeps.refl _ s
  exact Keeps.ite h1 (h1.trans ((bump_keeps _ _).mono (by simp)))

theorem busError_keeps (s : State) (i : Issuer) (addr : Nat) (write : Bool) (st : Status) :
    Keeps [.csr] s (s.busError i addr write st) := by
  unfold State.busError
  simp only
  refine Keeps.trans ?_ (setReg_keeps _ _ _)
  exact Keeps.ite (setReg_keeps _ _ _) ((setReg_keeps _ _ _).trans (setReg_keeps _ _ _))

/-! ### Answers of registers -/

theorem answer_keeps (s : State) (r : Response) (q : LoadQueue) : Keeps [.freeCounter] s (s.answer r q) := Keeps.refl _ s

theorem refuseAt_keeps (s : State) (a : Access) (addr : Nat) (st : Status) (reason : Reason) :
    Keeps [.csr, .freeCounter] s (s.refuseAt a addr st reason) := by
  unfold State.refuseAt
  split
  · exact ((busError_keeps _ _ _ _ _).mono (by simp)).trans ((answer_keeps _ _ _).mono (by simp))
  · exact (answer_keeps _ _ _).mono (by simp)

theorem takeArm_keeps (s : State) (a : Access) (addr : Nat) : Keeps [.mgmt] s (s.takeArm a addr).2 := by
  unfold State.takeArm
  split <;> exact Keeps.refl _ _

/-- A refused or accepted write changes the arm, the error registers and what its effect changes. -/
theorem openWrite_keeps (c : List Part) (s : State) (a : Access) (addr : Nat) (check : Option Response) (eff : State → State)
    (guarded : Bool) (h : ∀ u, Keeps c u (eff u)) :
    Keeps (.csr :: .mgmt :: .freeCounter :: c) s (s.openWrite a addr check eff guarded) := by
  have hg : Keeps (.csr :: .mgmt :: .freeCounter :: c) s (s.takeArm a addr).2 := (takeArm_keeps _ _ _).mono (by simp)
  have hr : ∀ st reason, Keeps (.csr :: .mgmt :: .freeCounter :: c) s ((s.takeArm a addr).2.refuseAt a addr st reason) :=
    fun st reason => hg.trans ((refuseAt_keeps _ _ _ _ _).mono (by simp))
  unfold State.openWrite
  simp only
  split
  · exact hr _ _
  · split
    · exact hr _ _
    · exact hg.trans (((h _).mono (by simp; tauto)).trans ((answer_keeps _ _ _).mono (by simp)))

theorem mgmtWrite_keeps (c : List Part) (s : State) (a : Access) (addr : Nat) (check : Option Response) (eff : State → State)
    (guarded : Bool) (h : ∀ u, Keeps c u (eff u)) :
    Keeps (.csr :: .mgmt :: .freeCounter :: c) s (s.mgmtWrite a addr check eff guarded) := by
  unfold State.mgmtWrite
  refine Keeps.ite ?_ (openWrite_keeps c s a addr check eff guarded h)
  exact ((takeArm_keeps _ _ _).mono (by simp)).trans ((refuseAt_keeps _ _ _ _ _).mono (by simp))

theorem whenRunning_keeps (c : List Part) (s : State) (f : State → State) (h : Keeps c s (f s)) : Keeps c s (s.whenRunning f) :=
  Keeps.ite h (Keeps.refl _ _)

end Sys2Proof.Machine
end

