-- ==== Sys2Proof/Laws/Store.lean ====
section
/-! SUPPORT. What a `Store` read gives after a write, and that a write keeps the canonical form. -/

namespace Sys2Proof

variable {α : Type} [DecidableEq α]

theorem Store.wfFrom_mono {d : α} {lo lo' : Nat} {s : Store α} (h : lo' ≤ lo)
    (hw : Store.wfFrom d lo s = true) : Store.wfFrom d lo' s = true := by
  cases s with
  | nil => rfl
  | cons p t =>
    obtain ⟨i, v⟩ := p
    simp [Store.wfFrom] at hw ⊢
    exact ⟨⟨by omega, hw.1.2⟩, hw.2⟩

theorem Store.read_below {d : α} {s : Store α} {lo k : Nat}
    (hw : Store.wfFrom d lo s = true) (hk : k < lo) : Store.read d s k = d := by
  cases s with
  | nil => rfl
  | cons p t =>
    obtain ⟨i, v⟩ := p
    simp [Store.wfFrom] at hw
    have h1 : i ≠ k := by omega
    have h2 : k < i := by omega
    simp [Store.read, h1, h2]

/-- A read of the entry just written gives the value written, in a canonical store. -/
theorem Store.read_write_same {d : α} {lo : Nat} (s : Store α) (k : Nat) (v : α)
    (hw : Store.wfFrom d lo s = true) : Store.read d (Store.write d s k v) k = v := by
  induction s generalizing lo with
  | nil => by_cases h : v = d <;> simp [Store.write, Store.read, h]
  | cons p t ih =>
    obtain ⟨i, w⟩ := p
    have hw' := hw
    simp [Store.wfFrom] at hw
    unfold Store.write
    split
    · rename_i hki
      split
      · rename_i hv
        have h1 : i ≠ k := by omega
        simp [Store.read, h1, hki, hv]
      · simp [Store.read]
    · split
      · rename_i hki hk
        subst hk
        split
        · rename_i hv
          rw [hv]
          exact Store.read_below hw.2 (Nat.lt_succ_self _)
        · simp [Store.read]
      · rename_i hki hk
        have h1 : i ≠ k := fun h => hk h.symm
        simp only [Store.read, h1, hki, if_false]
        exact ih hw.2

/-- A read of any other entry is unchanged by a write. -/
theorem Store.read_write_other {d : α} {lo : Nat} (s : Store α) (k j : Nat) (v : α) (hj : j ≠ k)
    (hw : Store.wfFrom d lo s = true) : Store.read d (Store.write d s k v) j = Store.read d s j := by
  induction s generalizing lo with
  | nil =>
    by_cases h : v = d
    · simp [Store.write, h]
    · have hj' : k ≠ j := fun h => hj h.symm
      simp [Store.write, Store.read, h, hj']
  | cons p t ih =>
    obtain ⟨i, w⟩ := p
    simp [Store.wfFrom] at hw
    have hkj : k ≠ j := fun h => hj h.symm
    unfold Store.write
    split
    · rename_i hki
      split
      · rfl
      · by_cases hlt : j < k
        · have h2 : i ≠ j := by omega
          have h3 : j < i := by omega
          simp [Store.read, hkj, hlt, h2, h3]
        · simp [Store.read, hkj, hlt]
    · split
      · rename_i hki hk
        subst hk
        have key : Store.read d ((k, w) :: t) j = Store.read d t j := by
          by_cases hlt : j < k
          · rw [Store.read_below hw.2 (by omega)]
            simp [Store.read, hkj, hlt]
          · simp [Store.read, hkj, hlt]
        rw [key]
        split
        · rfl
        · by_cases hlt : j < k
          · rw [Store.read_below hw.2 (by omega)]
            simp [Store.read, hkj, hlt]
          · simp [Store.read, hkj, hlt]
      · rename_i hki hk
        simp only [Store.read]
        rw [ih hw.2]

theorem Store.wfFrom_write {d : α} {lo : Nat} (s : Store α) (k : Nat) (v : α) (hk : lo ≤ k)
    (hw : Store.wfFrom d lo s = true) : Store.wfFrom d lo (Store.write d s k v) = true := by
  induction s generalizing lo with
  | nil => by_cases h : v = d <;> simp [Store.write, Store.wfFrom, h, hk]
  | cons p t ih =>
    obtain ⟨i, w⟩ := p
    have hw0 := hw
    simp [Store.wfFrom] at hw
    unfold Store.write
    split
    · rename_i hki
      split
      · exact hw0
      · rename_i hv
        simp [Store.wfFrom, hk, hv, hw.1.2, hw.2]
        omega
    · split
      · rename_i hki hke
        subst hke
        split
        · exact Store.wfFrom_mono (by omega) hw.2
        · rename_i hv
          simp [Store.wfFrom, hk, hv, hw.2]
      · rename_i hki hke
        simp only [Store.wfFrom, Bool.and_eq_true]
        refine ⟨⟨by simp [hw.1.1], by simp [hw.1.2]⟩, ih ?_ hw.2⟩
        omega

/-- A write keeps the canonical form. -/
theorem Store.wf_write {d : α} (s : Store α) (k : Nat) (v : α) (hw : Store.wf d s = true) :
    Store.wf d (Store.write d s k v) = true :=
  Store.wfFrom_write s k v (Nat.zero_le _) hw

end Sys2Proof
end

