-- ==== Sys2Proof/Laws/Memory.lean ====
section
/-! SUPPORT. The two memories: every operation on them keeps their canonical form, and what a byte reads as after it. -/

namespace Sys2Proof.Machine

theorem wf_writeRange (st : Store Byte) (off : Nat) (bs : List Byte) (h : Store.wf 0 st = true) :
    Store.wf 0 (writeRange st off bs) = true := by
  induction bs generalizing st off with
  | nil => exact h
  | cons b t ih => exact ih _ _ (Store.wf_write st off b h)

theorem wfFrom_filter {α : Type} [DecidableEq α] (d : α) (p : Nat × α → Bool) (lo : Nat) (st : Store α)
    (h : Store.wfFrom d lo st = true) : Store.wfFrom d lo (st.filter p) = true := by
  induction st generalizing lo with
  | nil => rfl
  | cons e t ih =>
    obtain ⟨i, v⟩ := e
    simp only [Store.wfFrom, Bool.and_eq_true, decide_eq_true_eq] at h
    have ht := ih (i + 1) h.2
    by_cases hp : p (i, v) = true
    · simp [hp, Store.wfFrom, h.1.1, h.1.2, ht]
    · simp only [List.filter_cons, hp, if_false, Bool.false_eq_true]
      exact Store.wfFrom_mono (by omega) ht

/-- Dropping entries keeps the canonical form. -/
theorem wf_filter {α : Type} [DecidableEq α] (d : α) (p : Nat × α → Bool) (st : Store α) (h : Store.wf d st = true) :
    Store.wf d (st.filter p) = true := wfFrom_filter d p 0 st h

theorem wf_clearRange {α : Type} [DecidableEq α] (d : α) (st : Store α) (off n : Nat) (h : Store.wf d st = true) :
    Store.wf d (Store.clearRange st off n) = true := wf_filter d _ st h

theorem wfFrom_revalue {α : Type} [DecidableEq α] (d : α) (f : α → α) (lo : Nat) (st : Store α)
    (h : Store.wfFrom d lo st = true) : Store.wfFrom d lo (Store.revalue d f st) = true := by
  unfold Store.revalue
  induction st generalizing lo with
  | nil => rfl
  | cons e t ih =>
    obtain ⟨i, v⟩ := e
    simp only [Store.wfFrom, Bool.and_eq_true, decide_eq_true_eq] at h
    have ht := ih (i + 1) h.2
    by_cases hf : f v = d
    · simpa [List.filterMap_cons, hf] using Store.wfFrom_mono (by omega) ht
    · simp [hf, Store.wfFrom, h.1.1, ht]

/-- Changing the values keeps the canonical form: an entry that comes back to the default goes. -/
theorem wf_revalue {α : Type} [DecidableEq α] (d : α) (f : α → α) (st : Store α) (h : Store.wf d st = true) :
    Store.wf d (Store.revalue d f st) = true := wfFrom_revalue d f 0 st h

/-! ### Each memory operation keeps the form -/

theorem memWrite_wf (s : State) (off : Nat) (bs : List Byte) (h : Store.wf 0 s.mem = true) :
    Store.wf 0 (s.memWrite off bs).mem = true := wf_writeRange _ _ _ h

theorem memZero_wf (s : State) (off n : Nat) (h : Store.wf 0 s.mem = true) : Store.wf 0 (s.memZero off n).mem = true :=
  wf_clearRange _ _ _ _ h

theorem sramWrite_wf (s : State) (off : Nat) (bs : List Byte) (h : Store.wf 0 s.sram = true) :
    Store.wf 0 (s.sramWrite off bs).sram = true := wf_writeRange _ _ _ h

theorem sramZero_wf (s : State) (off n : Nat) (h : Store.wf 0 s.sram = true) : Store.wf 0 (s.sramZero off n).sram = true :=
  wf_clearRange _ _ _ _ h

@[simp] theorem memWrite_sram (s : State) (off : Nat) (bs : List Byte) : (s.memWrite off bs).sram = s.sram := rfl
@[simp] theorem memZero_sram (s : State) (off n : Nat) : (s.memZero off n).sram = s.sram := rfl
@[simp] theorem sramWrite_mem (s : State) (off : Nat) (bs : List Byte) : (s.sramWrite off bs).mem = s.mem := rfl
@[simp] theorem sramZero_mem (s : State) (off n : Nat) : (s.sramZero off n).mem = s.mem := rfl

/-! ### What a byte reads as -/

theorem read_writeRange_outside (st : Store Byte) (off : Nat) (bs : List Byte) (a : Nat) (h : Store.wf 0 st = true)
    (ha : a < off ∨ off + bs.length ≤ a) : Store.read 0 (writeRange st off bs) a = Store.read 0 st a := by
  induction bs generalizing st off with
  | nil => rfl
  | cons b t ih =>
    simp only [List.length_cons] at ha
    rw [writeRange, ih _ _ (Store.wf_write st off b h) (by omega),
      Store.read_write_other st off a b (by omega) (h : Store.wfFrom 0 0 st = true)]

theorem read_writeRange_inside (st : Store Byte) (off : Nat) (bs : List Byte) (k : Nat) (h : Store.wf 0 st = true)
    (hk : k < bs.length) : Store.read 0 (writeRange st off bs) (off + k) = bs.getD k 0 := by
  induction bs generalizing st off k with
  | nil => simp at hk
  | cons b t ih =>
    have hw := Store.wf_write st off b h
    cases k with
    | zero =>
      rw [Nat.add_zero, writeRange, read_writeRange_outside _ _ _ _ hw (by omega),
        Store.read_write_same st off b (h : Store.wfFrom 0 0 st = true)]
      rfl
    | succ k =>
      simp only [List.length_cons] at hk
      have := ih (Store.write 0 st off b) (off + 1) k hw (by omega)
      rw [writeRange, show off + (k + 1) = off + 1 + k by omega, this]
      simp

theorem read_filter_in {α : Type} [DecidableEq α] (d : α) (p : Nat × α → Bool) (lo : Nat) (st : Store α) (a : Nat)
    (h : Store.wfFrom d lo st = true) (hp : ∀ v, p (a, v) = true) : Store.read d (st.filter p) a = Store.read d st a := by
  induction st generalizing lo with
  | nil => rfl
  | cons e t ih =>
    obtain ⟨i, v⟩ := e
    simp only [Store.wfFrom, Bool.and_eq_true, decide_eq_true_eq] at h
    have ht := ih (i + 1) h.2
    by_cases hpi : p (i, v) = true
    · simp only [List.filter_cons, hpi, if_true, Store.read, ht]
    · have hia : i ≠ a := fun e => hpi (e ▸ hp v)
      simp only [List.filter_cons, hpi, if_false, Bool.false_eq_true, ht, Store.read, hia]
      by_cases hlt : a < i
      · simp [hlt, Store.read_below h.2 (show a < i + 1 by omega)]
      · simp [hlt]

theorem read_filter_out {α : Type} [DecidableEq α] (d : α) (p : Nat × α → Bool) (lo : Nat) (st : Store α) (a : Nat)
    (h : Store.wfFrom d lo st = true) (hp : ∀ v, p (a, v) = false) : Store.read d (st.filter p) a = d := by
  induction st generalizing lo with
  | nil => rfl
  | cons e t ih =>
    obtain ⟨i, v⟩ := e
    simp only [Store.wfFrom, Bool.and_eq_true, decide_eq_true_eq] at h
    have ht := ih (i + 1) h.2
    by_cases hpi : p (i, v) = true
    · have hia : i ≠ a := fun e => by rw [e, hp v] at hpi; exact Bool.false_ne_true hpi
      simp only [List.filter_cons, hpi, if_true, Store.read, hia, if_false, ht, ite_self]
    · simp only [List.filter_cons, hpi, if_false, Bool.false_eq_true, ht]

theorem memByte_memZero (s : State) (off n a : Nat) (h : Store.wf 0 s.mem = true) :
    (s.memZero off n).memByte a = if off ≤ a ∧ a < off + n then 0 else s.memByte a := by
  split
  · exact read_filter_out 0 _ 0 _ a h (by intro v; simp [*])
  · exact read_filter_in 0 _ 0 _ a h (by intro v; simp; omega)

theorem sramByte_sramZero (s : State) (off n a : Nat) (h : Store.wf 0 s.sram = true) :
    (s.sramZero off n).sramByte a = if off ≤ a ∧ a < off + n then 0 else s.sramByte a := by
  split
  · exact read_filter_out 0 _ 0 _ a h (by intro v; simp [*])
  · exact read_filter_in 0 _ 0 _ a h (by intro v; simp; omega)

theorem memByte_memWrite_outside (s : State) (off : Nat) (bs : List Byte) (a : Nat) (h : Store.wf 0 s.mem = true)
    (ha : a < off ∨ off + bs.length ≤ a) : (s.memWrite off bs).memByte a = s.memByte a := read_writeRange_outside _ _ _ _ h ha

theorem memByte_memWrite_inside (s : State) (off : Nat) (bs : List Byte) (k : Nat) (h : Store.wf 0 s.mem = true)
    (hk : k < bs.length) : (s.memWrite off bs).memByte (off + k) = bs.getD k 0 := read_writeRange_inside _ _ _ _ h hk

theorem sramByte_sramWrite_outside (s : State) (off : Nat) (bs : List Byte) (a : Nat) (h : Store.wf 0 s.sram = true)
    (ha : a < off ∨ off + bs.length ≤ a) : (s.sramWrite off bs).sramByte a = s.sramByte a := read_writeRange_outside _ _ _ _ h ha

theorem sramByte_sramWrite_inside (s : State) (off : Nat) (bs : List Byte) (k : Nat) (h : Store.wf 0 s.sram = true)
    (hk : k < bs.length) : (s.sramWrite off bs).sramByte (off + k) = bs.getD k 0 := read_writeRange_inside _ _ _ _ h hk

end Sys2Proof.Machine
end

