-- ==== Sys2Proof/Laws/State.lean ====
section
/-! SUPPORT. What each named update of the state leaves as it was: one lemma per update and field, all true by unfolding the update. -/

namespace Sys2Proof.Machine

@[simp] theorem State.begin_pending (s : State) : (s.begin).pending = s.pending := rfl
@[simp] theorem State.begin_now (s : State) : (s.begin).now = s.now := rfl
@[simp] theorem State.begin_ftc (s : State) : (s.begin).ftc = s.ftc := rfl
@[simp] theorem State.begin_freeCounter (s : State) : (s.begin).freeCounter = s.freeCounter := rfl
@[simp] theorem State.begin_chip (s : State) : (s.begin).chip = s.chip := rfl
@[simp] theorem State.begin_dict (s : State) : (s.begin).dict = s.dict := rfl
@[simp] theorem State.begin_csr (s : State) : (s.begin).csr = s.csr := rfl
@[simp] theorem State.begin_mem (s : State) : (s.begin).mem = s.mem := rfl
@[simp] theorem State.begin_sram (s : State) : (s.begin).sram = s.sram := rfl
@[simp] theorem State.begin_remote (s : State) : (s.begin).remote = s.remote := rfl
@[simp] theorem State.begin_plans (s : State) : (s.begin).plans = s.plans := rfl
@[simp] theorem State.begin_florets (s : State) : (s.begin).florets = s.florets := rfl
@[simp] theorem State.begin_hcu (s : State) : (s.begin).hcu = s.hcu := rfl
@[simp] theorem State.begin_sw (s : State) : (s.begin).sw = s.sw := rfl
@[simp] theorem State.begin_traffic (s : State) : (s.begin).traffic = s.traffic := rfl
@[simp] theorem State.begin_pool (s : State) : (s.begin).pool = s.pool := rfl
@[simp] theorem State.begin_kv (s : State) : (s.begin).kv = s.kv := rfl
@[simp] theorem State.begin_coh (s : State) : (s.begin).coh = s.coh := rfl
@[simp] theorem State.begin_cz (s : State) : (s.begin).cz = s.cz := rfl
@[simp] theorem State.begin_meadow (s : State) : (s.begin).meadow = s.meadow := rfl
@[simp] theorem State.begin_sec (s : State) : (s.begin).sec = s.sec := rfl
@[simp] theorem State.begin_links (s : State) : (s.begin).links = s.links := rfl
@[simp] theorem State.begin_mgmt (s : State) : (s.begin).mgmt = s.mgmt := rfl
@[simp] theorem State.begin_power (s : State) : (s.begin).power = s.power := rfl
@[simp] theorem State.begin_faults (s : State) : (s.begin).faults = s.faults := rfl

@[simp] theorem State.emit_pending (s : State) (m : Msg) : (s.emit m).pending = s.pending := rfl
@[simp] theorem State.emit_now (s : State) (m : Msg) : (s.emit m).now = s.now := rfl
@[simp] theorem State.emit_ftc (s : State) (m : Msg) : (s.emit m).ftc = s.ftc := rfl
@[simp] theorem State.emit_freeCounter (s : State) (m : Msg) : (s.emit m).freeCounter = s.freeCounter := rfl
@[simp] theorem State.emit_chip (s : State) (m : Msg) : (s.emit m).chip = s.chip := rfl
@[simp] theorem State.emit_dict (s : State) (m : Msg) : (s.emit m).dict = s.dict := rfl
@[simp] theorem State.emit_csr (s : State) (m : Msg) : (s.emit m).csr = s.csr := rfl
@[simp] theorem State.emit_mem (s : State) (m : Msg) : (s.emit m).mem = s.mem := rfl
@[simp] theorem State.emit_sram (s : State) (m : Msg) : (s.emit m).sram = s.sram := rfl
@[simp] theorem State.emit_remote (s : State) (m : Msg) : (s.emit m).remote = s.remote := rfl
@[simp] theorem State.emit_plans (s : State) (m : Msg) : (s.emit m).plans = s.plans := rfl
@[simp] theorem State.emit_florets (s : State) (m : Msg) : (s.emit m).florets = s.florets := rfl
@[simp] theorem State.emit_hcu (s : State) (m : Msg) : (s.emit m).hcu = s.hcu := rfl
@[simp] theorem State.emit_sw (s : State) (m : Msg) : (s.emit m).sw = s.sw := rfl
@[simp] theorem State.emit_traffic (s : State) (m : Msg) : (s.emit m).traffic = s.traffic := rfl
@[simp] theorem State.emit_pool (s : State) (m : Msg) : (s.emit m).pool = s.pool := rfl
@[simp] theorem State.emit_kv (s : State) (m : Msg) : (s.emit m).kv = s.kv := rfl
@[simp] theorem State.emit_coh (s : State) (m : Msg) : (s.emit m).coh = s.coh := rfl
@[simp] theorem State.emit_cz (s : State) (m : Msg) : (s.emit m).cz = s.cz := rfl
@[simp] theorem State.emit_meadow (s : State) (m : Msg) : (s.emit m).meadow = s.meadow := rfl
@[simp] theorem State.emit_sec (s : State) (m : Msg) : (s.emit m).sec = s.sec := rfl
@[simp] theorem State.emit_links (s : State) (m : Msg) : (s.emit m).links = s.links := rfl
@[simp] theorem State.emit_mgmt (s : State) (m : Msg) : (s.emit m).mgmt = s.mgmt := rfl
@[simp] theorem State.emit_power (s : State) (m : Msg) : (s.emit m).power = s.power := rfl
@[simp] theorem State.emit_faults (s : State) (m : Msg) : (s.emit m).faults = s.faults := rfl

@[simp] theorem State.setNum_pending (s : State) (k v : Nat) : (s.setNum k v).pending = s.pending := rfl
@[simp] theorem State.setNum_now (s : State) (k v : Nat) : (s.setNum k v).now = s.now := rfl
@[simp] theorem State.setNum_ftc (s : State) (k v : Nat) : (s.setNum k v).ftc = s.ftc := rfl
@[simp] theorem State.setNum_out (s : State) (k v : Nat) : (s.setNum k v).out = s.out := rfl
@[simp] theorem State.setNum_freeCounter (s : State) (k v : Nat) : (s.setNum k v).freeCounter = s.freeCounter := rfl
@[simp] theorem State.setNum_chip (s : State) (k v : Nat) : (s.setNum k v).chip = s.chip := rfl
@[simp] theorem State.setNum_csr (s : State) (k v : Nat) : (s.setNum k v).csr = s.csr := rfl
@[simp] theorem State.setNum_mem (s : State) (k v : Nat) : (s.setNum k v).mem = s.mem := rfl
@[simp] theorem State.setNum_sram (s : State) (k v : Nat) : (s.setNum k v).sram = s.sram := rfl
@[simp] theorem State.setNum_remote (s : State) (k v : Nat) : (s.setNum k v).remote = s.remote := rfl
@[simp] theorem State.setNum_plans (s : State) (k v : Nat) : (s.setNum k v).plans = s.plans := rfl
@[simp] theorem State.setNum_florets (s : State) (k v : Nat) : (s.setNum k v).florets = s.florets := rfl
@[simp] theorem State.setNum_hcu (s : State) (k v : Nat) : (s.setNum k v).hcu = s.hcu := rfl
@[simp] theorem State.setNum_sw (s : State) (k v : Nat) : (s.setNum k v).sw = s.sw := rfl
@[simp] theorem State.setNum_traffic (s : State) (k v : Nat) : (s.setNum k v).traffic = s.traffic := rfl
@[simp] theorem State.setNum_pool (s : State) (k v : Nat) : (s.setNum k v).pool = s.pool := rfl
@[simp] theorem State.setNum_kv (s : State) (k v : Nat) : (s.setNum k v).kv = s.kv := rfl
@[simp] theorem State.setNum_coh (s : State) (k v : Nat) : (s.setNum k v).coh = s.coh := rfl
@[simp] theorem State.setNum_cz (s : State) (k v : Nat) : (s.setNum k v).cz = s.cz := rfl
@[simp] theorem State.setNum_meadow (s : State) (k v : Nat) : (s.setNum k v).meadow = s.meadow := rfl
@[simp] theorem State.setNum_sec (s : State) (k v : Nat) : (s.setNum k v).sec = s.sec := rfl
@[simp] theorem State.setNum_links (s : State) (k v : Nat) : (s.setNum k v).links = s.links := rfl
@[simp] theorem State.setNum_mgmt (s : State) (k v : Nat) : (s.setNum k v).mgmt = s.mgmt := rfl
@[simp] theorem State.setNum_power (s : State) (k v : Nat) : (s.setNum k v).power = s.power := rfl
@[simp] theorem State.setNum_faults (s : State) (k v : Nat) : (s.setNum k v).faults = s.faults := rfl

@[simp] theorem State.setBytes_pending (s : State) (k : Nat) (b : List Byte) : (s.setBytes k b).pending = s.pending := rfl
@[simp] theorem State.setBytes_now (s : State) (k : Nat) (b : List Byte) : (s.setBytes k b).now = s.now := rfl
@[simp] theorem State.setBytes_ftc (s : State) (k : Nat) (b : List Byte) : (s.setBytes k b).ftc = s.ftc := rfl
@[simp] theorem State.setBytes_out (s : State) (k : Nat) (b : List Byte) : (s.setBytes k b).out = s.out := rfl
@[simp] theorem State.setBytes_freeCounter (s : State) (k : Nat) (b : List Byte) : (s.setBytes k b).freeCounter = s.freeCounter := rfl
@[simp] theorem State.setBytes_chip (s : State) (k : Nat) (b : List Byte) : (s.setBytes k b).chip = s.chip := rfl
@[simp] theorem State.setBytes_csr (s : State) (k : Nat) (b : List Byte) : (s.setBytes k b).csr = s.csr := rfl
@[simp] theorem State.setBytes_mem (s : State) (k : Nat) (b : List Byte) : (s.setBytes k b).mem = s.mem := rfl
@[simp] theorem State.setBytes_sram (s : State) (k : Nat) (b : List Byte) : (s.setBytes k b).sram = s.sram := rfl
@[simp] theorem State.setBytes_remote (s : State) (k : Nat) (b : List Byte) : (s.setBytes k b).remote = s.remote := rfl
@[simp] theorem State.setBytes_plans (s : State) (k : Nat) (b : List Byte) : (s.setBytes k b).plans = s.plans := rfl
@[simp] theorem State.setBytes_florets (s : State) (k : Nat) (b : List Byte) : (s.setBytes k b).florets = s.florets := rfl
@[simp] theorem State.setBytes_hcu (s : State) (k : Nat) (b : List Byte) : (s.setBytes k b).hcu = s.hcu := rfl
@[simp] theorem State.setBytes_sw (s : State) (k : Nat) (b : List Byte) : (s.setBytes k b).sw = s.sw := rfl
@[simp] theorem State.setBytes_traffic (s : State) (k : Nat) (b : List Byte) : (s.setBytes k b).traffic = s.traffic := rfl
@[simp] theorem State.setBytes_pool (s : State) (k : Nat) (b : List Byte) : (s.setBytes k b).pool = s.pool := rfl
@[simp] theorem State.setBytes_kv (s : State) (k : Nat) (b : List Byte) : (s.setBytes k b).kv = s.kv := rfl
@[simp] theorem State.setBytes_coh (s : State) (k : Nat) (b : List Byte) : (s.setBytes k b).coh = s.coh := rfl
@[simp] theorem State.setBytes_cz (s : State) (k : Nat) (b : List Byte) : (s.setBytes k b).cz = s.cz := rfl
@[simp] theorem State.setBytes_meadow (s : State) (k : Nat) (b : List Byte) : (s.setBytes k b).meadow = s.meadow := rfl
@[simp] theorem State.setBytes_sec (s : State) (k : Nat) (b : List Byte) : (s.setBytes k b).sec = s.sec := rfl
@[simp] theorem State.setBytes_links (s : State) (k : Nat) (b : List Byte) : (s.setBytes k b).links = s.links := rfl
@[simp] theorem State.setBytes_mgmt (s : State) (k : Nat) (b : List Byte) : (s.setBytes k b).mgmt = s.mgmt := rfl
@[simp] theorem State.setBytes_power (s : State) (k : Nat) (b : List Byte) : (s.setBytes k b).power = s.power := rfl
@[simp] theorem State.setBytes_faults (s : State) (k : Nat) (b : List Byte) : (s.setBytes k b).faults = s.faults := rfl

@[simp] theorem State.setReg_pending (s : State) (a v : Nat) : (s.setReg a v).pending = s.pending := rfl
@[simp] theorem State.setReg_now (s : State) (a v : Nat) : (s.setReg a v).now = s.now := rfl
@[simp] theorem State.setReg_ftc (s : State) (a v : Nat) : (s.setReg a v).ftc = s.ftc := rfl
@[simp] theorem State.setReg_out (s : State) (a v : Nat) : (s.setReg a v).out = s.out := rfl
@[simp] theorem State.setReg_freeCounter (s : State) (a v : Nat) : (s.setReg a v).freeCounter = s.freeCounter := rfl
@[simp] theorem State.setReg_chip (s : State) (a v : Nat) : (s.setReg a v).chip = s.chip := rfl
@[simp] theorem State.setReg_dict (s : State) (a v : Nat) : (s.setReg a v).dict = s.dict := rfl
@[simp] theorem State.setReg_mem (s : State) (a v : Nat) : (s.setReg a v).mem = s.mem := rfl
@[simp] theorem State.setReg_sram (s : State) (a v : Nat) : (s.setReg a v).sram = s.sram := rfl
@[simp] theorem State.setReg_remote (s : State) (a v : Nat) : (s.setReg a v).remote = s.remote := rfl
@[simp] theorem State.setReg_plans (s : State) (a v : Nat) : (s.setReg a v).plans = s.plans := rfl
@[simp] theorem State.setReg_florets (s : State) (a v : Nat) : (s.setReg a v).florets = s.florets := rfl
@[simp] theorem State.setReg_hcu (s : State) (a v : Nat) : (s.setReg a v).hcu = s.hcu := rfl
@[simp] theorem State.setReg_sw (s : State) (a v : Nat) : (s.setReg a v).sw = s.sw := rfl
@[simp] theorem State.setReg_traffic (s : State) (a v : Nat) : (s.setReg a v).traffic = s.traffic := rfl
@[simp] theorem State.setReg_pool (s : State) (a v : Nat) : (s.setReg a v).pool = s.pool := rfl
@[simp] theorem State.setReg_kv (s : State) (a v : Nat) : (s.setReg a v).kv = s.kv := rfl
@[simp] theorem State.setReg_coh (s : State) (a v : Nat) : (s.setReg a v).coh = s.coh := rfl
@[simp] theorem State.setReg_cz (s : State) (a v : Nat) : (s.setReg a v).cz = s.cz := rfl
@[simp] theorem State.setReg_meadow (s : State) (a v : Nat) : (s.setReg a v).meadow = s.meadow := rfl
@[simp] theorem State.setReg_sec (s : State) (a v : Nat) : (s.setReg a v).sec = s.sec := rfl
@[simp] theorem State.setReg_links (s : State) (a v : Nat) : (s.setReg a v).links = s.links := rfl
@[simp] theorem State.setReg_mgmt (s : State) (a v : Nat) : (s.setReg a v).mgmt = s.mgmt := rfl
@[simp] theorem State.setReg_power (s : State) (a v : Nat) : (s.setReg a v).power = s.power := rfl
@[simp] theorem State.setReg_faults (s : State) (a v : Nat) : (s.setReg a v).faults = s.faults := rfl

@[simp] theorem State.setUnit_pending (s : State) (l : UnitLoc) (u : UnitRec) : (s.setUnit l u).pending = s.pending := rfl
@[simp] theorem State.setUnit_now (s : State) (l : UnitLoc) (u : UnitRec) : (s.setUnit l u).now = s.now := rfl
@[simp] theorem State.setUnit_ftc (s : State) (l : UnitLoc) (u : UnitRec) : (s.setUnit l u).ftc = s.ftc := rfl
@[simp] theorem State.setUnit_out (s : State) (l : UnitLoc) (u : UnitRec) : (s.setUnit l u).out = s.out := rfl
@[simp] theorem State.setUnit_freeCounter (s : State) (l : UnitLoc) (u : UnitRec) : (s.setUnit l u).freeCounter = s.freeCounter := rfl
@[simp] theorem State.setUnit_chip (s : State) (l : UnitLoc) (u : UnitRec) : (s.setUnit l u).chip = s.chip := rfl
@[simp] theorem State.setUnit_dict (s : State) (l : UnitLoc) (u : UnitRec) : (s.setUnit l u).dict = s.dict := rfl
@[simp] theorem State.setUnit_csr (s : State) (l : UnitLoc) (u : UnitRec) : (s.setUnit l u).csr = s.csr := rfl
@[simp] theorem State.setUnit_mem (s : State) (l : UnitLoc) (u : UnitRec) : (s.setUnit l u).mem = s.mem := rfl
@[simp] theorem State.setUnit_sram (s : State) (l : UnitLoc) (u : UnitRec) : (s.setUnit l u).sram = s.sram := rfl
@[simp] theorem State.setUnit_remote (s : State) (l : UnitLoc) (u : UnitRec) : (s.setUnit l u).remote = s.remote := rfl
@[simp] theorem State.setUnit_plans (s : State) (l : UnitLoc) (u : UnitRec) : (s.setUnit l u).plans = s.plans := rfl
@[simp] theorem State.setUnit_florets (s : State) (l : UnitLoc) (u : UnitRec) : (s.setUnit l u).florets = s.florets := rfl
@[simp] theorem State.setUnit_hcu (s : State) (l : UnitLoc) (u : UnitRec) : (s.setUnit l u).hcu = s.hcu := rfl
@[simp] theorem State.setUnit_sw (s : State) (l : UnitLoc) (u : UnitRec) : (s.setUnit l u).sw = s.sw := rfl
@[simp] theorem State.setUnit_traffic (s : State) (l : UnitLoc) (u : UnitRec) : (s.setUnit l u).traffic = s.traffic := rfl
@[simp] theorem State.setUnit_pool (s : State) (l : UnitLoc) (u : UnitRec) : (s.setUnit l u).pool = s.pool := rfl
@[simp] theorem State.setUnit_kv (s : State) (l : UnitLoc) (u : UnitRec) : (s.setUnit l u).kv = s.kv := rfl
@[simp] theorem State.setUnit_coh (s : State) (l : UnitLoc) (u : UnitRec) : (s.setUnit l u).coh = s.coh := rfl
@[simp] theorem State.setUnit_cz (s : State) (l : UnitLoc) (u : UnitRec) : (s.setUnit l u).cz = s.cz := rfl
@[simp] theorem State.setUnit_meadow (s : State) (l : UnitLoc) (u : UnitRec) : (s.setUnit l u).meadow = s.meadow := rfl
@[simp] theorem State.setUnit_sec (s : State) (l : UnitLoc) (u : UnitRec) : (s.setUnit l u).sec = s.sec := rfl
@[simp] theorem State.setUnit_links (s : State) (l : UnitLoc) (u : UnitRec) : (s.setUnit l u).links = s.links := rfl
@[simp] theorem State.setUnit_mgmt (s : State) (l : UnitLoc) (u : UnitRec) : (s.setUnit l u).mgmt = s.mgmt := rfl
@[simp] theorem State.setUnit_faults (s : State) (l : UnitLoc) (u : UnitRec) : (s.setUnit l u).faults = s.faults := rfl

@[simp] theorem State.memWrite_pending (s : State) (off : Nat) (bs : List Byte) : (s.memWrite off bs).pending = s.pending := rfl
@[simp] theorem State.memWrite_now (s : State) (off : Nat) (bs : List Byte) : (s.memWrite off bs).now = s.now := rfl
@[simp] theorem State.memWrite_ftc (s : State) (off : Nat) (bs : List Byte) : (s.memWrite off bs).ftc = s.ftc := rfl
@[simp] theorem State.memWrite_out (s : State) (off : Nat) (bs : List Byte) : (s.memWrite off bs).out = s.out := rfl
@[simp] theorem State.memWrite_freeCounter (s : State) (off : Nat) (bs : List Byte) : (s.memWrite off bs).freeCounter = s.freeCounter := rfl
@[simp] theorem State.memWrite_chip (s : State) (off : Nat) (bs : List Byte) : (s.memWrite off bs).chip = s.chip := rfl
@[simp] theorem State.memWrite_dict (s : State) (off : Nat) (bs : List Byte) : (s.memWrite off bs).dict = s.dict := rfl
@[simp] theorem State.memWrite_csr (s : State) (off : Nat) (bs : List Byte) : (s.memWrite off bs).csr = s.csr := rfl
@[simp] theorem State.memWrite_sram (s : State) (off : Nat) (bs : List Byte) : (s.memWrite off bs).sram = s.sram := rfl
@[simp] theorem State.memWrite_remote (s : State) (off : Nat) (bs : List Byte) : (s.memWrite off bs).remote = s.remote := rfl
@[simp] theorem State.memWrite_plans (s : State) (off : Nat) (bs : List Byte) : (s.memWrite off bs).plans = s.plans := rfl
@[simp] theorem State.memWrite_florets (s : State) (off : Nat) (bs : List Byte) : (s.memWrite off bs).florets = s.florets := rfl
@[simp] theorem State.memWrite_hcu (s : State) (off : Nat) (bs : List Byte) : (s.memWrite off bs).hcu = s.hcu := rfl
@[simp] theorem State.memWrite_sw (s : State) (off : Nat) (bs : List Byte) : (s.memWrite off bs).sw = s.sw := rfl
@[simp] theorem State.memWrite_traffic (s : State) (off : Nat) (bs : List Byte) : (s.memWrite off bs).traffic = s.traffic := rfl
@[simp] theorem State.memWrite_pool (s : State) (off : Nat) (bs : List Byte) : (s.memWrite off bs).pool = s.pool := rfl
@[simp] theorem State.memWrite_kv (s : State) (off : Nat) (bs : List Byte) : (s.memWrite off bs).kv = s.kv := rfl
@[simp] theorem State.memWrite_coh (s : State) (off : Nat) (bs : List Byte) : (s.memWrite off bs).coh = s.coh := rfl
@[simp] theorem State.memWrite_cz (s : State) (off : Nat) (bs : List Byte) : (s.memWrite off bs).cz = s.cz := rfl
@[simp] theorem State.memWrite_meadow (s : State) (off : Nat) (bs : List Byte) : (s.memWrite off bs).meadow = s.meadow := rfl
@[simp] theorem State.memWrite_sec (s : State) (off : Nat) (bs : List Byte) : (s.memWrite off bs).sec = s.sec := rfl
@[simp] theorem State.memWrite_links (s : State) (off : Nat) (bs : List Byte) : (s.memWrite off bs).links = s.links := rfl
@[simp] theorem State.memWrite_mgmt (s : State) (off : Nat) (bs : List Byte) : (s.memWrite off bs).mgmt = s.mgmt := rfl
@[simp] theorem State.memWrite_power (s : State) (off : Nat) (bs : List Byte) : (s.memWrite off bs).power = s.power := rfl
@[simp] theorem State.memWrite_faults (s : State) (off : Nat) (bs : List Byte) : (s.memWrite off bs).faults = s.faults := rfl

@[simp] theorem State.sramWrite_pending (s : State) (off : Nat) (bs : List Byte) : (s.sramWrite off bs).pending = s.pending := rfl
@[simp] theorem State.sramWrite_now (s : State) (off : Nat) (bs : List Byte) : (s.sramWrite off bs).now = s.now := rfl
@[simp] theorem State.sramWrite_ftc (s : State) (off : Nat) (bs : List Byte) : (s.sramWrite off bs).ftc = s.ftc := rfl
@[simp] theorem State.sramWrite_out (s : State) (off : Nat) (bs : List Byte) : (s.sramWrite off bs).out = s.out := rfl
@[simp] theorem State.sramWrite_freeCounter (s : State) (off : Nat) (bs : List Byte) : (s.sramWrite off bs).freeCounter = s.freeCounter := rfl
@[simp] theorem State.sramWrite_chip (s : State) (off : Nat) (bs : List Byte) : (s.sramWrite off bs).chip = s.chip := rfl
@[simp] theorem State.sramWrite_dict (s : State) (off : Nat) (bs : List Byte) : (s.sramWrite off bs).dict = s.dict := rfl
@[simp] theorem State.sramWrite_csr (s : State) (off : Nat) (bs : List Byte) : (s.sramWrite off bs).csr = s.csr := rfl
@[simp] theorem State.sramWrite_mem (s : State) (off : Nat) (bs : List Byte) : (s.sramWrite off bs).mem = s.mem := rfl
@[simp] theorem State.sramWrite_remote (s : State) (off : Nat) (bs : List Byte) : (s.sramWrite off bs).remote = s.remote := rfl
@[simp] theorem State.sramWrite_plans (s : State) (off : Nat) (bs : List Byte) : (s.sramWrite off bs).plans = s.plans := rfl
@[simp] theorem State.sramWrite_florets (s : State) (off : Nat) (bs : List Byte) : (s.sramWrite off bs).florets = s.florets := rfl
@[simp] theorem State.sramWrite_hcu (s : State) (off : Nat) (bs : List Byte) : (s.sramWrite off bs).hcu = s.hcu := rfl
@[simp] theorem State.sramWrite_sw (s : State) (off : Nat) (bs : List Byte) : (s.sramWrite off bs).sw = s.sw := rfl
@[simp] theorem State.sramWrite_traffic (s : State) (off : Nat) (bs : List Byte) : (s.sramWrite off bs).traffic = s.traffic := rfl
@[simp] theorem State.sramWrite_pool (s : State) (off : Nat) (bs : List Byte) : (s.sramWrite off bs).pool = s.pool := rfl
@[simp] theorem State.sramWrite_kv (s : State) (off : Nat) (bs : List Byte) : (s.sramWrite off bs).kv = s.kv := rfl
@[simp] theorem State.sramWrite_coh (s : State) (off : Nat) (bs : List Byte) : (s.sramWrite off bs).coh = s.coh := rfl
@[simp] theorem State.sramWrite_cz (s : State) (off : Nat) (bs : List Byte) : (s.sramWrite off bs).cz = s.cz := rfl
@[simp] theorem State.sramWrite_meadow (s : State) (off : Nat) (bs : List Byte) : (s.sramWrite off bs).meadow = s.meadow := rfl
@[simp] theorem State.sramWrite_sec (s : State) (off : Nat) (bs : List Byte) : (s.sramWrite off bs).sec = s.sec := rfl
@[simp] theorem State.sramWrite_links (s : State) (off : Nat) (bs : List Byte) : (s.sramWrite off bs).links = s.links := rfl
@[simp] theorem State.sramWrite_mgmt (s : State) (off : Nat) (bs : List Byte) : (s.sramWrite off bs).mgmt = s.mgmt := rfl
@[simp] theorem State.sramWrite_power (s : State) (off : Nat) (bs : List Byte) : (s.sramWrite off bs).power = s.power := rfl
@[simp] theorem State.sramWrite_faults (s : State) (off : Nat) (bs : List Byte) : (s.sramWrite off bs).faults = s.faults := rfl

@[simp] theorem State.memZero_pending (s : State) (off n : Nat) : (s.memZero off n).pending = s.pending := rfl
@[simp] theorem State.memZero_now (s : State) (off n : Nat) : (s.memZero off n).now = s.now := rfl
@[simp] theorem State.memZero_ftc (s : State) (off n : Nat) : (s.memZero off n).ftc = s.ftc := rfl
@[simp] theorem State.memZero_out (s : State) (off n : Nat) : (s.memZero off n).out = s.out := rfl
@[simp] theorem State.memZero_freeCounter (s : State) (off n : Nat) : (s.memZero off n).freeCounter = s.freeCounter := rfl
@[simp] theorem State.memZero_chip (s : State) (off n : Nat) : (s.memZero off n).chip = s.chip := rfl
@[simp] theorem State.memZero_dict (s : State) (off n : Nat) : (s.memZero off n).dict = s.dict := rfl
@[simp] theorem State.memZero_csr (s : State) (off n : Nat) : (s.memZero off n).csr = s.csr := rfl
@[simp] theorem State.memZero_sram (s : State) (off n : Nat) : (s.memZero off n).sram = s.sram := rfl
@[simp] theorem State.memZero_remote (s : State) (off n : Nat) : (s.memZero off n).remote = s.remote := rfl
@[simp] theorem State.memZero_plans (s : State) (off n : Nat) : (s.memZero off n).plans = s.plans := rfl
@[simp] theorem State.memZero_florets (s : State) (off n : Nat) : (s.memZero off n).florets = s.florets := rfl
@[simp] theorem State.memZero_hcu (s : State) (off n : Nat) : (s.memZero off n).hcu = s.hcu := rfl
@[simp] theorem State.memZero_sw (s : State) (off n : Nat) : (s.memZero off n).sw = s.sw := rfl
@[simp] theorem State.memZero_traffic (s : State) (off n : Nat) : (s.memZero off n).traffic = s.traffic := rfl
@[simp] theorem State.memZero_pool (s : State) (off n : Nat) : (s.memZero off n).pool = s.pool := rfl
@[simp] theorem State.memZero_kv (s : State) (off n : Nat) : (s.memZero off n).kv = s.kv := rfl
@[simp] theorem State.memZero_coh (s : State) (off n : Nat) : (s.memZero off n).coh = s.coh := rfl
@[simp] theorem State.memZero_cz (s : State) (off n : Nat) : (s.memZero off n).cz = s.cz := rfl
@[simp] theorem State.memZero_meadow (s : State) (off n : Nat) : (s.memZero off n).meadow = s.meadow := rfl
@[simp] theorem State.memZero_sec (s : State) (off n : Nat) : (s.memZero off n).sec = s.sec := rfl
@[simp] theorem State.memZero_links (s : State) (off n : Nat) : (s.memZero off n).links = s.links := rfl
@[simp] theorem State.memZero_mgmt (s : State) (off n : Nat) : (s.memZero off n).mgmt = s.mgmt := rfl
@[simp] theorem State.memZero_power (s : State) (off n : Nat) : (s.memZero off n).power = s.power := rfl
@[simp] theorem State.memZero_faults (s : State) (off n : Nat) : (s.memZero off n).faults = s.faults := rfl

@[simp] theorem State.sramZero_pending (s : State) (off n : Nat) : (s.sramZero off n).pending = s.pending := rfl
@[simp] theorem State.sramZero_now (s : State) (off n : Nat) : (s.sramZero off n).now = s.now := rfl
@[simp] theorem State.sramZero_ftc (s : State) (off n : Nat) : (s.sramZero off n).ftc = s.ftc := rfl
@[simp] theorem State.sramZero_out (s : State) (off n : Nat) : (s.sramZero off n).out = s.out := rfl
@[simp] theorem State.sramZero_freeCounter (s : State) (off n : Nat) : (s.sramZero off n).freeCounter = s.freeCounter := rfl
@[simp] theorem State.sramZero_chip (s : State) (off n : Nat) : (s.sramZero off n).chip = s.chip := rfl
@[simp] theorem State.sramZero_dict (s : State) (off n : Nat) : (s.sramZero off n).dict = s.dict := rfl
@[simp] theorem State.sramZero_csr (s : State) (off n : Nat) : (s.sramZero off n).csr = s.csr := rfl
@[simp] theorem State.sramZero_mem (s : State) (off n : Nat) : (s.sramZero off n).mem = s.mem := rfl
@[simp] theorem State.sramZero_remote (s : State) (off n : Nat) : (s.sramZero off n).remote = s.remote := rfl
@[simp] theorem State.sramZero_plans (s : State) (off n : Nat) : (s.sramZero off n).plans = s.plans := rfl
@[simp] theorem State.sramZero_florets (s : State) (off n : Nat) : (s.sramZero off n).florets = s.florets := rfl
@[simp] theorem State.sramZero_hcu (s : State) (off n : Nat) : (s.sramZero off n).hcu = s.hcu := rfl
@[simp] theorem State.sramZero_sw (s : State) (off n : Nat) : (s.sramZero off n).sw = s.sw := rfl
@[simp] theorem State.sramZero_traffic (s : State) (off n : Nat) : (s.sramZero off n).traffic = s.traffic := rfl
@[simp] theorem State.sramZero_pool (s : State) (off n : Nat) : (s.sramZero off n).pool = s.pool := rfl
@[simp] theorem State.sramZero_kv (s : State) (off n : Nat) : (s.sramZero off n).kv = s.kv := rfl
@[simp] theorem State.sramZero_coh (s : State) (off n : Nat) : (s.sramZero off n).coh = s.coh := rfl
@[simp] theorem State.sramZero_cz (s : State) (off n : Nat) : (s.sramZero off n).cz = s.cz := rfl
@[simp] theorem State.sramZero_meadow (s : State) (off n : Nat) : (s.sramZero off n).meadow = s.meadow := rfl
@[simp] theorem State.sramZero_sec (s : State) (off n : Nat) : (s.sramZero off n).sec = s.sec := rfl
@[simp] theorem State.sramZero_links (s : State) (off n : Nat) : (s.sramZero off n).links = s.links := rfl
@[simp] theorem State.sramZero_mgmt (s : State) (off n : Nat) : (s.sramZero off n).mgmt = s.mgmt := rfl
@[simp] theorem State.sramZero_power (s : State) (off n : Nat) : (s.sramZero off n).power = s.power := rfl
@[simp] theorem State.sramZero_faults (s : State) (off n : Nat) : (s.sramZero off n).faults = s.faults := rfl

@[simp] theorem State.setQueue_pending (s : State) (q : Nat) (c : QueueCtx) : (s.setQueue q c).pending = s.pending := rfl
@[simp] theorem State.setQueue_now (s : State) (q : Nat) (c : QueueCtx) : (s.setQueue q c).now = s.now := rfl
@[simp] theorem State.setQueue_ftc (s : State) (q : Nat) (c : QueueCtx) : (s.setQueue q c).ftc = s.ftc := rfl
@[simp] theorem State.setQueue_out (s : State) (q : Nat) (c : QueueCtx) : (s.setQueue q c).out = s.out := rfl
@[simp] theorem State.setQueue_freeCounter (s : State) (q : Nat) (c : QueueCtx) : (s.setQueue q c).freeCounter = s.freeCounter := rfl
@[simp] theorem State.setQueue_chip (s : State) (q : Nat) (c : QueueCtx) : (s.setQueue q c).chip = s.chip := rfl
@[simp] theorem State.setQueue_dict (s : State) (q : Nat) (c : QueueCtx) : (s.setQueue q c).dict = s.dict := rfl
@[simp] theorem State.setQueue_csr (s : State) (q : Nat) (c : QueueCtx) : (s.setQueue q c).csr = s.csr := rfl
@[simp] theorem State.setQueue_mem (s : State) (q : Nat) (c : QueueCtx) : (s.setQueue q c).mem = s.mem := rfl
@[simp] theorem State.setQueue_sram (s : State) (q : Nat) (c : QueueCtx) : (s.setQueue q c).sram = s.sram := rfl
@[simp] theorem State.setQueue_plans (s : State) (q : Nat) (c : QueueCtx) : (s.setQueue q c).plans = s.plans := rfl
@[simp] theorem State.setQueue_florets (s : State) (q : Nat) (c : QueueCtx) : (s.setQueue q c).florets = s.florets := rfl
@[simp] theorem State.setQueue_hcu (s : State) (q : Nat) (c : QueueCtx) : (s.setQueue q c).hcu = s.hcu := rfl
@[simp] theorem State.setQueue_sw (s : State) (q : Nat) (c : QueueCtx) : (s.setQueue q c).sw = s.sw := rfl
@[simp] theorem State.setQueue_traffic (s : State) (q : Nat) (c : QueueCtx) : (s.setQueue q c).traffic = s.traffic := rfl
@[simp] theorem State.setQueue_pool (s : State) (q : Nat) (c : QueueCtx) : (s.setQueue q c).pool = s.pool := rfl
@[simp] theorem State.setQueue_kv (s : State) (q : Nat) (c : QueueCtx) : (s.setQueue q c).kv = s.kv := rfl
@[simp] theorem State.setQueue_coh (s : State) (q : Nat) (c : QueueCtx) : (s.setQueue q c).coh = s.coh := rfl
@[simp] theorem State.setQueue_cz (s : State) (q : Nat) (c : QueueCtx) : (s.setQueue q c).cz = s.cz := rfl
@[simp] theorem State.setQueue_meadow (s : State) (q : Nat) (c : QueueCtx) : (s.setQueue q c).meadow = s.meadow := rfl
@[simp] theorem State.setQueue_sec (s : State) (q : Nat) (c : QueueCtx) : (s.setQueue q c).sec = s.sec := rfl
@[simp] theorem State.setQueue_links (s : State) (q : Nat) (c : QueueCtx) : (s.setQueue q c).links = s.links := rfl
@[simp] theorem State.setQueue_mgmt (s : State) (q : Nat) (c : QueueCtx) : (s.setQueue q c).mgmt = s.mgmt := rfl
@[simp] theorem State.setQueue_power (s : State) (q : Nat) (c : QueueCtx) : (s.setQueue q c).power = s.power := rfl
@[simp] theorem State.setQueue_faults (s : State) (q : Nat) (c : QueueCtx) : (s.setQueue q c).faults = s.faults := rfl

@[simp] theorem State.setEndpointPosted_pending (s : State) (n : Nat) (e : EndpointPosted) : (s.setEndpointPosted n e).pending = s.pending := rfl
@[simp] theorem State.setEndpointPosted_now (s : State) (n : Nat) (e : EndpointPosted) : (s.setEndpointPosted n e).now = s.now := rfl
@[simp] theorem State.setEndpointPosted_ftc (s : State) (n : Nat) (e : EndpointPosted) : (s.setEndpointPosted n e).ftc = s.ftc := rfl
@[simp] theorem State.setEndpointPosted_out (s : State) (n : Nat) (e : EndpointPosted) : (s.setEndpointPosted n e).out = s.out := rfl
@[simp] theorem State.setEndpointPosted_freeCounter (s : State) (n : Nat) (e : EndpointPosted) : (s.setEndpointPosted n e).freeCounter = s.freeCounter := rfl
@[simp] theorem State.setEndpointPosted_chip (s : State) (n : Nat) (e : EndpointPosted) : (s.setEndpointPosted n e).chip = s.chip := rfl
@[simp] theorem State.setEndpointPosted_dict (s : State) (n : Nat) (e : EndpointPosted) : (s.setEndpointPosted n e).dict = s.dict := rfl
@[simp] theorem State.setEndpointPosted_csr (s : State) (n : Nat) (e : EndpointPosted) : (s.setEndpointPosted n e).csr = s.csr := rfl
@[simp] theorem State.setEndpointPosted_mem (s : State) (n : Nat) (e : EndpointPosted) : (s.setEndpointPosted n e).mem = s.mem := rfl
@[simp] theorem State.setEndpointPosted_sram (s : State) (n : Nat) (e : EndpointPosted) : (s.setEndpointPosted n e).sram = s.sram := rfl
@[simp] theorem State.setEndpointPosted_plans (s : State) (n : Nat) (e : EndpointPosted) : (s.setEndpointPosted n e).plans = s.plans := rfl
@[simp] theorem State.setEndpointPosted_florets (s : State) (n : Nat) (e : EndpointPosted) : (s.setEndpointPosted n e).florets = s.florets := rfl
@[simp] theorem State.setEndpointPosted_hcu (s : State) (n : Nat) (e : EndpointPosted) : (s.setEndpointPosted n e).hcu = s.hcu := rfl
@[simp] theorem State.setEndpointPosted_sw (s : State) (n : Nat) (e : EndpointPosted) : (s.setEndpointPosted n e).sw = s.sw := rfl
@[simp] theorem State.setEndpointPosted_traffic (s : State) (n : Nat) (e : EndpointPosted) : (s.setEndpointPosted n e).traffic = s.traffic := rfl
@[simp] theorem State.setEndpointPosted_pool (s : State) (n : Nat) (e : EndpointPosted) : (s.setEndpointPosted n e).pool = s.pool := rfl
@[simp] theorem State.setEndpointPosted_kv (s : State) (n : Nat) (e : EndpointPosted) : (s.setEndpointPosted n e).kv = s.kv := rfl
@[simp] theorem State.setEndpointPosted_coh (s : State) (n : Nat) (e : EndpointPosted) : (s.setEndpointPosted n e).coh = s.coh := rfl
@[simp] theorem State.setEndpointPosted_cz (s : State) (n : Nat) (e : EndpointPosted) : (s.setEndpointPosted n e).cz = s.cz := rfl
@[simp] theorem State.setEndpointPosted_meadow (s : State) (n : Nat) (e : EndpointPosted) : (s.setEndpointPosted n e).meadow = s.meadow := rfl
@[simp] theorem State.setEndpointPosted_sec (s : State) (n : Nat) (e : EndpointPosted) : (s.setEndpointPosted n e).sec = s.sec := rfl
@[simp] theorem State.setEndpointPosted_links (s : State) (n : Nat) (e : EndpointPosted) : (s.setEndpointPosted n e).links = s.links := rfl
@[simp] theorem State.setEndpointPosted_mgmt (s : State) (n : Nat) (e : EndpointPosted) : (s.setEndpointPosted n e).mgmt = s.mgmt := rfl
@[simp] theorem State.setEndpointPosted_power (s : State) (n : Nat) (e : EndpointPosted) : (s.setEndpointPosted n e).power = s.power := rfl
@[simp] theorem State.setEndpointPosted_faults (s : State) (n : Nat) (e : EndpointPosted) : (s.setEndpointPosted n e).faults = s.faults := rfl

@[simp] theorem State.setSync_pending (s : State) (n : Nat) (o : SyncObj) : (s.setSync n o).pending = s.pending := rfl
@[simp] theorem State.setSync_now (s : State) (n : Nat) (o : SyncObj) : (s.setSync n o).now = s.now := rfl
@[simp] theorem State.setSync_ftc (s : State) (n : Nat) (o : SyncObj) : (s.setSync n o).ftc = s.ftc := rfl
@[simp] theorem State.setSync_out (s : State) (n : Nat) (o : SyncObj) : (s.setSync n o).out = s.out := rfl
@[simp] theorem State.setSync_freeCounter (s : State) (n : Nat) (o : SyncObj) : (s.setSync n o).freeCounter = s.freeCounter := rfl
@[simp] theorem State.setSync_chip (s : State) (n : Nat) (o : SyncObj) : (s.setSync n o).chip = s.chip := rfl
@[simp] theorem State.setSync_dict (s : State) (n : Nat) (o : SyncObj) : (s.setSync n o).dict = s.dict := rfl
@[simp] theorem State.setSync_csr (s : State) (n : Nat) (o : SyncObj) : (s.setSync n o).csr = s.csr := rfl
@[simp] theorem State.setSync_mem (s : State) (n : Nat) (o : SyncObj) : (s.setSync n o).mem = s.mem := rfl
@[simp] theorem State.setSync_sram (s : State) (n : Nat) (o : SyncObj) : (s.setSync n o).sram = s.sram := rfl
@[simp] theorem State.setSync_plans (s : State) (n : Nat) (o : SyncObj) : (s.setSync n o).plans = s.plans := rfl
@[simp] theorem State.setSync_florets (s : State) (n : Nat) (o : SyncObj) : (s.setSync n o).florets = s.florets := rfl
@[simp] theorem State.setSync_hcu (s : State) (n : Nat) (o : SyncObj) : (s.setSync n o).hcu = s.hcu := rfl
@[simp] theorem State.setSync_sw (s : State) (n : Nat) (o : SyncObj) : (s.setSync n o).sw = s.sw := rfl
@[simp] theorem State.setSync_traffic (s : State) (n : Nat) (o : SyncObj) : (s.setSync n o).traffic = s.traffic := rfl
@[simp] theorem State.setSync_pool (s : State) (n : Nat) (o : SyncObj) : (s.setSync n o).pool = s.pool := rfl
@[simp] theorem State.setSync_kv (s : State) (n : Nat) (o : SyncObj) : (s.setSync n o).kv = s.kv := rfl
@[simp] theorem State.setSync_coh (s : State) (n : Nat) (o : SyncObj) : (s.setSync n o).coh = s.coh := rfl
@[simp] theorem State.setSync_cz (s : State) (n : Nat) (o : SyncObj) : (s.setSync n o).cz = s.cz := rfl
@[simp] theorem State.setSync_meadow (s : State) (n : Nat) (o : SyncObj) : (s.setSync n o).meadow = s.meadow := rfl
@[simp] theorem State.setSync_sec (s : State) (n : Nat) (o : SyncObj) : (s.setSync n o).sec = s.sec := rfl
@[simp] theorem State.setSync_links (s : State) (n : Nat) (o : SyncObj) : (s.setSync n o).links = s.links := rfl
@[simp] theorem State.setSync_mgmt (s : State) (n : Nat) (o : SyncObj) : (s.setSync n o).mgmt = s.mgmt := rfl
@[simp] theorem State.setSync_power (s : State) (n : Nat) (o : SyncObj) : (s.setSync n o).power = s.power := rfl
@[simp] theorem State.setSync_faults (s : State) (n : Nat) (o : SyncObj) : (s.setSync n o).faults = s.faults := rfl

@[simp] theorem State.setVector_pending (s : State) (v : Nat) (x : Vector) : (s.setVector v x).pending = s.pending := rfl
@[simp] theorem State.setVector_now (s : State) (v : Nat) (x : Vector) : (s.setVector v x).now = s.now := rfl
@[simp] theorem State.setVector_ftc (s : State) (v : Nat) (x : Vector) : (s.setVector v x).ftc = s.ftc := rfl
@[simp] theorem State.setVector_out (s : State) (v : Nat) (x : Vector) : (s.setVector v x).out = s.out := rfl
@[simp] theorem State.setVector_freeCounter (s : State) (v : Nat) (x : Vector) : (s.setVector v x).freeCounter = s.freeCounter := rfl
@[simp] theorem State.setVector_chip (s : State) (v : Nat) (x : Vector) : (s.setVector v x).chip = s.chip := rfl
@[simp] theorem State.setVector_dict (s : State) (v : Nat) (x : Vector) : (s.setVector v x).dict = s.dict := rfl
@[simp] theorem State.setVector_csr (s : State) (v : Nat) (x : Vector) : (s.setVector v x).csr = s.csr := rfl
@[simp] theorem State.setVector_mem (s : State) (v : Nat) (x : Vector) : (s.setVector v x).mem = s.mem := rfl
@[simp] theorem State.setVector_sram (s : State) (v : Nat) (x : Vector) : (s.setVector v x).sram = s.sram := rfl
@[simp] theorem State.setVector_remote (s : State) (v : Nat) (x : Vector) : (s.setVector v x).remote = s.remote := rfl
@[simp] theorem State.setVector_plans (s : State) (v : Nat) (x : Vector) : (s.setVector v x).plans = s.plans := rfl
@[simp] theorem State.setVector_florets (s : State) (v : Nat) (x : Vector) : (s.setVector v x).florets = s.florets := rfl
@[simp] theorem State.setVector_hcu (s : State) (v : Nat) (x : Vector) : (s.setVector v x).hcu = s.hcu := rfl
@[simp] theorem State.setVector_sw (s : State) (v : Nat) (x : Vector) : (s.setVector v x).sw = s.sw := rfl
@[simp] theorem State.setVector_traffic (s : State) (v : Nat) (x : Vector) : (s.setVector v x).traffic = s.traffic := rfl
@[simp] theorem State.setVector_pool (s : State) (v : Nat) (x : Vector) : (s.setVector v x).pool = s.pool := rfl
@[simp] theorem State.setVector_kv (s : State) (v : Nat) (x : Vector) : (s.setVector v x).kv = s.kv := rfl
@[simp] theorem State.setVector_coh (s : State) (v : Nat) (x : Vector) : (s.setVector v x).coh = s.coh := rfl
@[simp] theorem State.setVector_cz (s : State) (v : Nat) (x : Vector) : (s.setVector v x).cz = s.cz := rfl
@[simp] theorem State.setVector_meadow (s : State) (v : Nat) (x : Vector) : (s.setVector v x).meadow = s.meadow := rfl
@[simp] theorem State.setVector_sec (s : State) (v : Nat) (x : Vector) : (s.setVector v x).sec = s.sec := rfl
@[simp] theorem State.setVector_links (s : State) (v : Nat) (x : Vector) : (s.setVector v x).links = s.links := rfl
@[simp] theorem State.setVector_power (s : State) (v : Nat) (x : Vector) : (s.setVector v x).power = s.power := rfl
@[simp] theorem State.setVector_faults (s : State) (v : Nat) (x : Vector) : (s.setVector v x).faults = s.faults := rfl

@[simp] theorem State.setCsrReq_pending (s : State) (n : Nat) (r : CsrRequester) : (s.setCsrReq n r).pending = s.pending := rfl
@[simp] theorem State.setCsrReq_now (s : State) (n : Nat) (r : CsrRequester) : (s.setCsrReq n r).now = s.now := rfl
@[simp] theorem State.setCsrReq_ftc (s : State) (n : Nat) (r : CsrRequester) : (s.setCsrReq n r).ftc = s.ftc := rfl
@[simp] theorem State.setCsrReq_out (s : State) (n : Nat) (r : CsrRequester) : (s.setCsrReq n r).out = s.out := rfl
@[simp] theorem State.setCsrReq_freeCounter (s : State) (n : Nat) (r : CsrRequester) : (s.setCsrReq n r).freeCounter = s.freeCounter := rfl
@[simp] theorem State.setCsrReq_chip (s : State) (n : Nat) (r : CsrRequester) : (s.setCsrReq n r).chip = s.chip := rfl
@[simp] theorem State.setCsrReq_dict (s : State) (n : Nat) (r : CsrRequester) : (s.setCsrReq n r).dict = s.dict := rfl
@[simp] theorem State.setCsrReq_csr (s : State) (n : Nat) (r : CsrRequester) : (s.setCsrReq n r).csr = s.csr := rfl
@[simp] theorem State.setCsrReq_mem (s : State) (n : Nat) (r : CsrRequester) : (s.setCsrReq n r).mem = s.mem := rfl
@[simp] theorem State.setCsrReq_sram (s : State) (n : Nat) (r : CsrRequester) : (s.setCsrReq n r).sram = s.sram := rfl
@[simp] theorem State.setCsrReq_remote (s : State) (n : Nat) (r : CsrRequester) : (s.setCsrReq n r).remote = s.remote := rfl
@[simp] theorem State.setCsrReq_plans (s : State) (n : Nat) (r : CsrRequester) : (s.setCsrReq n r).plans = s.plans := rfl
@[simp] theorem State.setCsrReq_florets (s : State) (n : Nat) (r : CsrRequester) : (s.setCsrReq n r).florets = s.florets := rfl
@[simp] theorem State.setCsrReq_hcu (s : State) (n : Nat) (r : CsrRequester) : (s.setCsrReq n r).hcu = s.hcu := rfl
@[simp] theorem State.setCsrReq_sw (s : State) (n : Nat) (r : CsrRequester) : (s.setCsrReq n r).sw = s.sw := rfl
@[simp] theorem State.setCsrReq_traffic (s : State) (n : Nat) (r : CsrRequester) : (s.setCsrReq n r).traffic = s.traffic := rfl
@[simp] theorem State.setCsrReq_pool (s : State) (n : Nat) (r : CsrRequester) : (s.setCsrReq n r).pool = s.pool := rfl
@[simp] theorem State.setCsrReq_kv (s : State) (n : Nat) (r : CsrRequester) : (s.setCsrReq n r).kv = s.kv := rfl
@[simp] theorem State.setCsrReq_coh (s : State) (n : Nat) (r : CsrRequester) : (s.setCsrReq n r).coh = s.coh := rfl
@[simp] theorem State.setCsrReq_cz (s : State) (n : Nat) (r : CsrRequester) : (s.setCsrReq n r).cz = s.cz := rfl
@[simp] theorem State.setCsrReq_meadow (s : State) (n : Nat) (r : CsrRequester) : (s.setCsrReq n r).meadow = s.meadow := rfl
@[simp] theorem State.setCsrReq_sec (s : State) (n : Nat) (r : CsrRequester) : (s.setCsrReq n r).sec = s.sec := rfl
@[simp] theorem State.setCsrReq_links (s : State) (n : Nat) (r : CsrRequester) : (s.setCsrReq n r).links = s.links := rfl
@[simp] theorem State.setCsrReq_power (s : State) (n : Nat) (r : CsrRequester) : (s.setCsrReq n r).power = s.power := rfl
@[simp] theorem State.setCsrReq_faults (s : State) (n : Nat) (r : CsrRequester) : (s.setCsrReq n r).faults = s.faults := rfl

@[simp] theorem State.setPath_pending (s : State) (p : DictPath) (x : PathState) : (s.setPath p x).pending = s.pending := rfl
@[simp] theorem State.setPath_now (s : State) (p : DictPath) (x : PathState) : (s.setPath p x).now = s.now := rfl
@[simp] theorem State.setPath_ftc (s : State) (p : DictPath) (x : PathState) : (s.setPath p x).ftc = s.ftc := rfl
@[simp] theorem State.setPath_out (s : State) (p : DictPath) (x : PathState) : (s.setPath p x).out = s.out := rfl
@[simp] theorem State.setPath_freeCounter (s : State) (p : DictPath) (x : PathState) : (s.setPath p x).freeCounter = s.freeCounter := rfl
@[simp] theorem State.setPath_chip (s : State) (p : DictPath) (x : PathState) : (s.setPath p x).chip = s.chip := rfl
@[simp] theorem State.setPath_dict (s : State) (p : DictPath) (x : PathState) : (s.setPath p x).dict = s.dict := rfl
@[simp] theorem State.setPath_csr (s : State) (p : DictPath) (x : PathState) : (s.setPath p x).csr = s.csr := rfl
@[simp] theorem State.setPath_mem (s : State) (p : DictPath) (x : PathState) : (s.setPath p x).mem = s.mem := rfl
@[simp] theorem State.setPath_sram (s : State) (p : DictPath) (x : PathState) : (s.setPath p x).sram = s.sram := rfl
@[simp] theorem State.setPath_remote (s : State) (p : DictPath) (x : PathState) : (s.setPath p x).remote = s.remote := rfl
@[simp] theorem State.setPath_plans (s : State) (p : DictPath) (x : PathState) : (s.setPath p x).plans = s.plans := rfl
@[simp] theorem State.setPath_florets (s : State) (p : DictPath) (x : PathState) : (s.setPath p x).florets = s.florets := rfl
@[simp] theorem State.setPath_hcu (s : State) (p : DictPath) (x : PathState) : (s.setPath p x).hcu = s.hcu := rfl
@[simp] theorem State.setPath_sw (s : State) (p : DictPath) (x : PathState) : (s.setPath p x).sw = s.sw := rfl
@[simp] theorem State.setPath_traffic (s : State) (p : DictPath) (x : PathState) : (s.setPath p x).traffic = s.traffic := rfl
@[simp] theorem State.setPath_pool (s : State) (p : DictPath) (x : PathState) : (s.setPath p x).pool = s.pool := rfl
@[simp] theorem State.setPath_kv (s : State) (p : DictPath) (x : PathState) : (s.setPath p x).kv = s.kv := rfl
@[simp] theorem State.setPath_coh (s : State) (p : DictPath) (x : PathState) : (s.setPath p x).coh = s.coh := rfl
@[simp] theorem State.setPath_cz (s : State) (p : DictPath) (x : PathState) : (s.setPath p x).cz = s.cz := rfl
@[simp] theorem State.setPath_meadow (s : State) (p : DictPath) (x : PathState) : (s.setPath p x).meadow = s.meadow := rfl
@[simp] theorem State.setPath_sec (s : State) (p : DictPath) (x : PathState) : (s.setPath p x).sec = s.sec := rfl
@[simp] theorem State.setPath_links (s : State) (p : DictPath) (x : PathState) : (s.setPath p x).links = s.links := rfl
@[simp] theorem State.setPath_power (s : State) (p : DictPath) (x : PathState) : (s.setPath p x).power = s.power := rfl
@[simp] theorem State.setPath_faults (s : State) (p : DictPath) (x : PathState) : (s.setPath p x).faults = s.faults := rfl

@[simp] theorem State.setContract_pending (s : State) (k : Nat) (c : Contract) : (s.setContract k c).pending = s.pending := rfl
@[simp] theorem State.setContract_now (s : State) (k : Nat) (c : Contract) : (s.setContract k c).now = s.now := rfl
@[simp] theorem State.setContract_ftc (s : State) (k : Nat) (c : Contract) : (s.setContract k c).ftc = s.ftc := rfl
@[simp] theorem State.setContract_out (s : State) (k : Nat) (c : Contract) : (s.setContract k c).out = s.out := rfl
@[simp] theorem State.setContract_freeCounter (s : State) (k : Nat) (c : Contract) : (s.setContract k c).freeCounter = s.freeCounter := rfl
@[simp] theorem State.setContract_chip (s : State) (k : Nat) (c : Contract) : (s.setContract k c).chip = s.chip := rfl
@[simp] theorem State.setContract_dict (s : State) (k : Nat) (c : Contract) : (s.setContract k c).dict = s.dict := rfl
@[simp] theorem State.setContract_csr (s : State) (k : Nat) (c : Contract) : (s.setContract k c).csr = s.csr := rfl
@[simp] theorem State.setContract_mem (s : State) (k : Nat) (c : Contract) : (s.setContract k c).mem = s.mem := rfl
@[simp] theorem State.setContract_sram (s : State) (k : Nat) (c : Contract) : (s.setContract k c).sram = s.sram := rfl
@[simp] theorem State.setContract_remote (s : State) (k : Nat) (c : Contract) : (s.setContract k c).remote = s.remote := rfl
@[simp] theorem State.setContract_plans (s : State) (k : Nat) (c : Contract) : (s.setContract k c).plans = s.plans := rfl
@[simp] theorem State.setContract_florets (s : State) (k : Nat) (c : Contract) : (s.setContract k c).florets = s.florets := rfl
@[simp] theorem State.setContract_hcu (s : State) (k : Nat) (c : Contract) : (s.setContract k c).hcu = s.hcu := rfl
@[simp] theorem State.setContract_sw (s : State) (k : Nat) (c : Contract) : (s.setContract k c).sw = s.sw := rfl
@[simp] theorem State.setContract_pool (s : State) (k : Nat) (c : Contract) : (s.setContract k c).pool = s.pool := rfl
@[simp] theorem State.setContract_kv (s : State) (k : Nat) (c : Contract) : (s.setContract k c).kv = s.kv := rfl
@[simp] theorem State.setContract_coh (s : State) (k : Nat) (c : Contract) : (s.setContract k c).coh = s.coh := rfl
@[simp] theorem State.setContract_cz (s : State) (k : Nat) (c : Contract) : (s.setContract k c).cz = s.cz := rfl
@[simp] theorem State.setContract_meadow (s : State) (k : Nat) (c : Contract) : (s.setContract k c).meadow = s.meadow := rfl
@[simp] theorem State.setContract_sec (s : State) (k : Nat) (c : Contract) : (s.setContract k c).sec = s.sec := rfl
@[simp] theorem State.setContract_links (s : State) (k : Nat) (c : Contract) : (s.setContract k c).links = s.links := rfl
@[simp] theorem State.setContract_mgmt (s : State) (k : Nat) (c : Contract) : (s.setContract k c).mgmt = s.mgmt := rfl
@[simp] theorem State.setContract_power (s : State) (k : Nat) (c : Contract) : (s.setContract k c).power = s.power := rfl
@[simp] theorem State.setContract_faults (s : State) (k : Nat) (c : Contract) : (s.setContract k c).faults = s.faults := rfl

@[simp] theorem State.setCkpt_pending (s : State) (c : Nat) (k : Ckpt) : (s.setCkpt c k).pending = s.pending := rfl
@[simp] theorem State.setCkpt_now (s : State) (c : Nat) (k : Ckpt) : (s.setCkpt c k).now = s.now := rfl
@[simp] theorem State.setCkpt_ftc (s : State) (c : Nat) (k : Ckpt) : (s.setCkpt c k).ftc = s.ftc := rfl
@[simp] theorem State.setCkpt_out (s : State) (c : Nat) (k : Ckpt) : (s.setCkpt c k).out = s.out := rfl
@[simp] theorem State.setCkpt_freeCounter (s : State) (c : Nat) (k : Ckpt) : (s.setCkpt c k).freeCounter = s.freeCounter := rfl
@[simp] theorem State.setCkpt_chip (s : State) (c : Nat) (k : Ckpt) : (s.setCkpt c k).chip = s.chip := rfl
@[simp] theorem State.setCkpt_dict (s : State) (c : Nat) (k : Ckpt) : (s.setCkpt c k).dict = s.dict := rfl
@[simp] theorem State.setCkpt_csr (s : State) (c : Nat) (k : Ckpt) : (s.setCkpt c k).csr = s.csr := rfl
@[simp] theorem State.setCkpt_mem (s : State) (c : Nat) (k : Ckpt) : (s.setCkpt c k).mem = s.mem := rfl
@[simp] theorem State.setCkpt_sram (s : State) (c : Nat) (k : Ckpt) : (s.setCkpt c k).sram = s.sram := rfl
@[simp] theorem State.setCkpt_remote (s : State) (c : Nat) (k : Ckpt) : (s.setCkpt c k).remote = s.remote := rfl
@[simp] theorem State.setCkpt_plans (s : State) (c : Nat) (k : Ckpt) : (s.setCkpt c k).plans = s.plans := rfl
@[simp] theorem State.setCkpt_florets (s : State) (c : Nat) (k : Ckpt) : (s.setCkpt c k).florets = s.florets := rfl
@[simp] theorem State.setCkpt_hcu (s : State) (c : Nat) (k : Ckpt) : (s.setCkpt c k).hcu = s.hcu := rfl
@[simp] theorem State.setCkpt_sw (s : State) (c : Nat) (k : Ckpt) : (s.setCkpt c k).sw = s.sw := rfl
@[simp] theorem State.setCkpt_traffic (s : State) (c : Nat) (k : Ckpt) : (s.setCkpt c k).traffic = s.traffic := rfl
@[simp] theorem State.setCkpt_pool (s : State) (c : Nat) (k : Ckpt) : (s.setCkpt c k).pool = s.pool := rfl
@[simp] theorem State.setCkpt_kv (s : State) (c : Nat) (k : Ckpt) : (s.setCkpt c k).kv = s.kv := rfl
@[simp] theorem State.setCkpt_coh (s : State) (c : Nat) (k : Ckpt) : (s.setCkpt c k).coh = s.coh := rfl
@[simp] theorem State.setCkpt_cz (s : State) (c : Nat) (k : Ckpt) : (s.setCkpt c k).cz = s.cz := rfl
@[simp] theorem State.setCkpt_meadow (s : State) (c : Nat) (k : Ckpt) : (s.setCkpt c k).meadow = s.meadow := rfl
@[simp] theorem State.setCkpt_sec (s : State) (c : Nat) (k : Ckpt) : (s.setCkpt c k).sec = s.sec := rfl
@[simp] theorem State.setCkpt_links (s : State) (c : Nat) (k : Ckpt) : (s.setCkpt c k).links = s.links := rfl
@[simp] theorem State.setCkpt_mgmt (s : State) (c : Nat) (k : Ckpt) : (s.setCkpt c k).mgmt = s.mgmt := rfl
@[simp] theorem State.setCkpt_power (s : State) (c : Nat) (k : Ckpt) : (s.setCkpt c k).power = s.power := rfl

@[simp] theorem State.setInChannel_pending (s : State) (c : Nat) (l : List Dispatched) : (s.setInChannel c l).pending = s.pending := rfl
@[simp] theorem State.setInChannel_now (s : State) (c : Nat) (l : List Dispatched) : (s.setInChannel c l).now = s.now := rfl
@[simp] theorem State.setInChannel_ftc (s : State) (c : Nat) (l : List Dispatched) : (s.setInChannel c l).ftc = s.ftc := rfl
@[simp] theorem State.setInChannel_out (s : State) (c : Nat) (l : List Dispatched) : (s.setInChannel c l).out = s.out := rfl
@[simp] theorem State.setInChannel_freeCounter (s : State) (c : Nat) (l : List Dispatched) : (s.setInChannel c l).freeCounter = s.freeCounter := rfl
@[simp] theorem State.setInChannel_chip (s : State) (c : Nat) (l : List Dispatched) : (s.setInChannel c l).chip = s.chip := rfl
@[simp] theorem State.setInChannel_dict (s : State) (c : Nat) (l : List Dispatched) : (s.setInChannel c l).dict = s.dict := rfl
@[simp] theorem State.setInChannel_csr (s : State) (c : Nat) (l : List Dispatched) : (s.setInChannel c l).csr = s.csr := rfl
@[simp] theorem State.setInChannel_mem (s : State) (c : Nat) (l : List Dispatched) : (s.setInChannel c l).mem = s.mem := rfl
@[simp] theorem State.setInChannel_sram (s : State) (c : Nat) (l : List Dispatched) : (s.setInChannel c l).sram = s.sram := rfl
@[simp] theorem State.setInChannel_remote (s : State) (c : Nat) (l : List Dispatched) : (s.setInChannel c l).remote = s.remote := rfl
@[simp] theorem State.setInChannel_plans (s : State) (c : Nat) (l : List Dispatched) : (s.setInChannel c l).plans = s.plans := rfl
@[simp] theorem State.setInChannel_florets (s : State) (c : Nat) (l : List Dispatched) : (s.setInChannel c l).florets = s.florets := rfl
@[simp] theorem State.setInChannel_hcu (s : State) (c : Nat) (l : List Dispatched) : (s.setInChannel c l).hcu = s.hcu := rfl
@[simp] theorem State.setInChannel_sw (s : State) (c : Nat) (l : List Dispatched) : (s.setInChannel c l).sw = s.sw := rfl
@[simp] theorem State.setInChannel_pool (s : State) (c : Nat) (l : List Dispatched) : (s.setInChannel c l).pool = s.pool := rfl
@[simp] theorem State.setInChannel_kv (s : State) (c : Nat) (l : List Dispatched) : (s.setInChannel c l).kv = s.kv := rfl
@[simp] theorem State.setInChannel_coh (s : State) (c : Nat) (l : List Dispatched) : (s.setInChannel c l).coh = s.coh := rfl
@[simp] theorem State.setInChannel_cz (s : State) (c : Nat) (l : List Dispatched) : (s.setInChannel c l).cz = s.cz := rfl
@[simp] theorem State.setInChannel_meadow (s : State) (c : Nat) (l : List Dispatched) : (s.setInChannel c l).meadow = s.meadow := rfl
@[simp] theorem State.setInChannel_sec (s : State) (c : Nat) (l : List Dispatched) : (s.setInChannel c l).sec = s.sec := rfl
@[simp] theorem State.setInChannel_links (s : State) (c : Nat) (l : List Dispatched) : (s.setInChannel c l).links = s.links := rfl
@[simp] theorem State.setInChannel_mgmt (s : State) (c : Nat) (l : List Dispatched) : (s.setInChannel c l).mgmt = s.mgmt := rfl
@[simp] theorem State.setInChannel_power (s : State) (c : Nat) (l : List Dispatched) : (s.setInChannel c l).power = s.power := rfl
@[simp] theorem State.setInChannel_faults (s : State) (c : Nat) (l : List Dispatched) : (s.setInChannel c l).faults = s.faults := rfl

@[simp] theorem State.setChan_pending (s : State) (c : Nat) (x : Channel) : (s.setChan c x).pending = s.pending := rfl
@[simp] theorem State.setChan_now (s : State) (c : Nat) (x : Channel) : (s.setChan c x).now = s.now := rfl
@[simp] theorem State.setChan_ftc (s : State) (c : Nat) (x : Channel) : (s.setChan c x).ftc = s.ftc := rfl
@[simp] theorem State.setChan_out (s : State) (c : Nat) (x : Channel) : (s.setChan c x).out = s.out := rfl
@[simp] theorem State.setChan_freeCounter (s : State) (c : Nat) (x : Channel) : (s.setChan c x).freeCounter = s.freeCounter := rfl
@[simp] theorem State.setChan_chip (s : State) (c : Nat) (x : Channel) : (s.setChan c x).chip = s.chip := rfl
@[simp] theorem State.setChan_dict (s : State) (c : Nat) (x : Channel) : (s.setChan c x).dict = s.dict := rfl
@[simp] theorem State.setChan_csr (s : State) (c : Nat) (x : Channel) : (s.setChan c x).csr = s.csr := rfl
@[simp] theorem State.setChan_mem (s : State) (c : Nat) (x : Channel) : (s.setChan c x).mem = s.mem := rfl
@[simp] theorem State.setChan_sram (s : State) (c : Nat) (x : Channel) : (s.setChan c x).sram = s.sram := rfl
@[simp] theorem State.setChan_remote (s : State) (c : Nat) (x : Channel) : (s.setChan c x).remote = s.remote := rfl
@[simp] theorem State.setChan_plans (s : State) (c : Nat) (x : Channel) : (s.setChan c x).plans = s.plans := rfl
@[simp] theorem State.setChan_florets (s : State) (c : Nat) (x : Channel) : (s.setChan c x).florets = s.florets := rfl
@[simp] theorem State.setChan_hcu (s : State) (c : Nat) (x : Channel) : (s.setChan c x).hcu = s.hcu := rfl
@[simp] theorem State.setChan_sw (s : State) (c : Nat) (x : Channel) : (s.setChan c x).sw = s.sw := rfl
@[simp] theorem State.setChan_traffic (s : State) (c : Nat) (x : Channel) : (s.setChan c x).traffic = s.traffic := rfl
@[simp] theorem State.setChan_kv (s : State) (c : Nat) (x : Channel) : (s.setChan c x).kv = s.kv := rfl
@[simp] theorem State.setChan_coh (s : State) (c : Nat) (x : Channel) : (s.setChan c x).coh = s.coh := rfl
@[simp] theorem State.setChan_cz (s : State) (c : Nat) (x : Channel) : (s.setChan c x).cz = s.cz := rfl
@[simp] theorem State.setChan_meadow (s : State) (c : Nat) (x : Channel) : (s.setChan c x).meadow = s.meadow := rfl
@[simp] theorem State.setChan_sec (s : State) (c : Nat) (x : Channel) : (s.setChan c x).sec = s.sec := rfl
@[simp] theorem State.setChan_links (s : State) (c : Nat) (x : Channel) : (s.setChan c x).links = s.links := rfl
@[simp] theorem State.setChan_mgmt (s : State) (c : Nat) (x : Channel) : (s.setChan c x).mgmt = s.mgmt := rfl
@[simp] theorem State.setChan_power (s : State) (c : Nat) (x : Channel) : (s.setChan c x).power = s.power := rfl
@[simp] theorem State.setChan_faults (s : State) (c : Nat) (x : Channel) : (s.setChan c x).faults = s.faults := rfl

@[simp] theorem State.setPart_pending (s : State) (n : Nat) (p : Partition) : (s.setPart n p).pending = s.pending := rfl
@[simp] theorem State.setPart_now (s : State) (n : Nat) (p : Partition) : (s.setPart n p).now = s.now := rfl
@[simp] theorem State.setPart_ftc (s : State) (n : Nat) (p : Partition) : (s.setPart n p).ftc = s.ftc := rfl
@[simp] theorem State.setPart_out (s : State) (n : Nat) (p : Partition) : (s.setPart n p).out = s.out := rfl
@[simp] theorem State.setPart_freeCounter (s : State) (n : Nat) (p : Partition) : (s.setPart n p).freeCounter = s.freeCounter := rfl
@[simp] theorem State.setPart_chip (s : State) (n : Nat) (p : Partition) : (s.setPart n p).chip = s.chip := rfl
@[simp] theorem State.setPart_dict (s : State) (n : Nat) (p : Partition) : (s.setPart n p).dict = s.dict := rfl
@[simp] theorem State.setPart_csr (s : State) (n : Nat) (p : Partition) : (s.setPart n p).csr = s.csr := rfl
@[simp] theorem State.setPart_mem (s : State) (n : Nat) (p : Partition) : (s.setPart n p).mem = s.mem := rfl
@[simp] theorem State.setPart_sram (s : State) (n : Nat) (p : Partition) : (s.setPart n p).sram = s.sram := rfl
@[simp] theorem State.setPart_remote (s : State) (n : Nat) (p : Partition) : (s.setPart n p).remote = s.remote := rfl
@[simp] theorem State.setPart_plans (s : State) (n : Nat) (p : Partition) : (s.setPart n p).plans = s.plans := rfl
@[simp] theorem State.setPart_florets (s : State) (n : Nat) (p : Partition) : (s.setPart n p).florets = s.florets := rfl
@[simp] theorem State.setPart_hcu (s : State) (n : Nat) (p : Partition) : (s.setPart n p).hcu = s.hcu := rfl
@[simp] theorem State.setPart_sw (s : State) (n : Nat) (p : Partition) : (s.setPart n p).sw = s.sw := rfl
@[simp] theorem State.setPart_traffic (s : State) (n : Nat) (p : Partition) : (s.setPart n p).traffic = s.traffic := rfl
@[simp] theorem State.setPart_kv (s : State) (n : Nat) (p : Partition) : (s.setPart n p).kv = s.kv := rfl
@[simp] theorem State.setPart_coh (s : State) (n : Nat) (p : Partition) : (s.setPart n p).coh = s.coh := rfl
@[simp] theorem State.setPart_cz (s : State) (n : Nat) (p : Partition) : (s.setPart n p).cz = s.cz := rfl
@[simp] theorem State.setPart_meadow (s : State) (n : Nat) (p : Partition) : (s.setPart n p).meadow = s.meadow := rfl
@[simp] theorem State.setPart_sec (s : State) (n : Nat) (p : Partition) : (s.setPart n p).sec = s.sec := rfl
@[simp] theorem State.setPart_links (s : State) (n : Nat) (p : Partition) : (s.setPart n p).links = s.links := rfl
@[simp] theorem State.setPart_mgmt (s : State) (n : Nat) (p : Partition) : (s.setPart n p).mgmt = s.mgmt := rfl
@[simp] theorem State.setPart_power (s : State) (n : Nat) (p : Partition) : (s.setPart n p).power = s.power := rfl
@[simp] theorem State.setPart_faults (s : State) (n : Nat) (p : Partition) : (s.setPart n p).faults = s.faults := rfl

@[simp] theorem State.setPage_pending (s : State) (n p : Nat) (r : Option PageRec) : (s.setPage n p r).pending = s.pending := rfl
@[simp] theorem State.setPage_now (s : State) (n p : Nat) (r : Option PageRec) : (s.setPage n p r).now = s.now := rfl
@[simp] theorem State.setPage_ftc (s : State) (n p : Nat) (r : Option PageRec) : (s.setPage n p r).ftc = s.ftc := rfl
@[simp] theorem State.setPage_out (s : State) (n p : Nat) (r : Option PageRec) : (s.setPage n p r).out = s.out := rfl
@[simp] theorem State.setPage_freeCounter (s : State) (n p : Nat) (r : Option PageRec) : (s.setPage n p r).freeCounter = s.freeCounter := rfl
@[simp] theorem State.setPage_chip (s : State) (n p : Nat) (r : Option PageRec) : (s.setPage n p r).chip = s.chip := rfl
@[simp] theorem State.setPage_dict (s : State) (n p : Nat) (r : Option PageRec) : (s.setPage n p r).dict = s.dict := rfl
@[simp] theorem State.setPage_csr (s : State) (n p : Nat) (r : Option PageRec) : (s.setPage n p r).csr = s.csr := rfl
@[simp] theorem State.setPage_mem (s : State) (n p : Nat) (r : Option PageRec) : (s.setPage n p r).mem = s.mem := rfl
@[simp] theorem State.setPage_sram (s : State) (n p : Nat) (r : Option PageRec) : (s.setPage n p r).sram = s.sram := rfl
@[simp] theorem State.setPage_remote (s : State) (n p : Nat) (r : Option PageRec) : (s.setPage n p r).remote = s.remote := rfl
@[simp] theorem State.setPage_plans (s : State) (n p : Nat) (r : Option PageRec) : (s.setPage n p r).plans = s.plans := rfl
@[simp] theorem State.setPage_florets (s : State) (n p : Nat) (r : Option PageRec) : (s.setPage n p r).florets = s.florets := rfl
@[simp] theorem State.setPage_hcu (s : State) (n p : Nat) (r : Option PageRec) : (s.setPage n p r).hcu = s.hcu := rfl
@[simp] theorem State.setPage_sw (s : State) (n p : Nat) (r : Option PageRec) : (s.setPage n p r).sw = s.sw := rfl
@[simp] theorem State.setPage_traffic (s : State) (n p : Nat) (r : Option PageRec) : (s.setPage n p r).traffic = s.traffic := rfl
@[simp] theorem State.setPage_kv (s : State) (n p : Nat) (r : Option PageRec) : (s.setPage n p r).kv = s.kv := rfl
@[simp] theorem State.setPage_coh (s : State) (n p : Nat) (r : Option PageRec) : (s.setPage n p r).coh = s.coh := rfl
@[simp] theorem State.setPage_cz (s : State) (n p : Nat) (r : Option PageRec) : (s.setPage n p r).cz = s.cz := rfl
@[simp] theorem State.setPage_meadow (s : State) (n p : Nat) (r : Option PageRec) : (s.setPage n p r).meadow = s.meadow := rfl
@[simp] theorem State.setPage_sec (s : State) (n p : Nat) (r : Option PageRec) : (s.setPage n p r).sec = s.sec := rfl
@[simp] theorem State.setPage_links (s : State) (n p : Nat) (r : Option PageRec) : (s.setPage n p r).links = s.links := rfl
@[simp] theorem State.setPage_mgmt (s : State) (n p : Nat) (r : Option PageRec) : (s.setPage n p r).mgmt = s.mgmt := rfl
@[simp] theorem State.setPage_power (s : State) (n p : Nat) (r : Option PageRec) : (s.setPage n p r).power = s.power := rfl
@[simp] theorem State.setPage_faults (s : State) (n p : Nat) (r : Option PageRec) : (s.setPage n p r).faults = s.faults := rfl

@[simp] theorem State.setShaper_pending (s : State) (n : Nat) (b : TokenBucket) : (s.setShaper n b).pending = s.pending := rfl
@[simp] theorem State.setShaper_now (s : State) (n : Nat) (b : TokenBucket) : (s.setShaper n b).now = s.now := rfl
@[simp] theorem State.setShaper_ftc (s : State) (n : Nat) (b : TokenBucket) : (s.setShaper n b).ftc = s.ftc := rfl
@[simp] theorem State.setShaper_out (s : State) (n : Nat) (b : TokenBucket) : (s.setShaper n b).out = s.out := rfl
@[simp] theorem State.setShaper_freeCounter (s : State) (n : Nat) (b : TokenBucket) : (s.setShaper n b).freeCounter = s.freeCounter := rfl
@[simp] theorem State.setShaper_chip (s : State) (n : Nat) (b : TokenBucket) : (s.setShaper n b).chip = s.chip := rfl
@[simp] theorem State.setShaper_dict (s : State) (n : Nat) (b : TokenBucket) : (s.setShaper n b).dict = s.dict := rfl
@[simp] theorem State.setShaper_csr (s : State) (n : Nat) (b : TokenBucket) : (s.setShaper n b).csr = s.csr := rfl
@[simp] theorem State.setShaper_mem (s : State) (n : Nat) (b : TokenBucket) : (s.setShaper n b).mem = s.mem := rfl
@[simp] theorem State.setShaper_sram (s : State) (n : Nat) (b : TokenBucket) : (s.setShaper n b).sram = s.sram := rfl
@[simp] theorem State.setShaper_remote (s : State) (n : Nat) (b : TokenBucket) : (s.setShaper n b).remote = s.remote := rfl
@[simp] theorem State.setShaper_plans (s : State) (n : Nat) (b : TokenBucket) : (s.setShaper n b).plans = s.plans := rfl
@[simp] theorem State.setShaper_florets (s : State) (n : Nat) (b : TokenBucket) : (s.setShaper n b).florets = s.florets := rfl
@[simp] theorem State.setShaper_hcu (s : State) (n : Nat) (b : TokenBucket) : (s.setShaper n b).hcu = s.hcu := rfl
@[simp] theorem State.setShaper_sw (s : State) (n : Nat) (b : TokenBucket) : (s.setShaper n b).sw = s.sw := rfl
@[simp] theorem State.setShaper_pool (s : State) (n : Nat) (b : TokenBucket) : (s.setShaper n b).pool = s.pool := rfl
@[simp] theorem State.setShaper_kv (s : State) (n : Nat) (b : TokenBucket) : (s.setShaper n b).kv = s.kv := rfl
@[simp] theorem State.setShaper_coh (s : State) (n : Nat) (b : TokenBucket) : (s.setShaper n b).coh = s.coh := rfl
@[simp] theorem State.setShaper_cz (s : State) (n : Nat) (b : TokenBucket) : (s.setShaper n b).cz = s.cz := rfl
@[simp] theorem State.setShaper_meadow (s : State) (n : Nat) (b : TokenBucket) : (s.setShaper n b).meadow = s.meadow := rfl
@[simp] theorem State.setShaper_sec (s : State) (n : Nat) (b : TokenBucket) : (s.setShaper n b).sec = s.sec := rfl
@[simp] theorem State.setShaper_links (s : State) (n : Nat) (b : TokenBucket) : (s.setShaper n b).links = s.links := rfl
@[simp] theorem State.setShaper_mgmt (s : State) (n : Nat) (b : TokenBucket) : (s.setShaper n b).mgmt = s.mgmt := rfl
@[simp] theorem State.setShaper_power (s : State) (n : Nat) (b : TokenBucket) : (s.setShaper n b).power = s.power := rfl
@[simp] theorem State.setShaper_faults (s : State) (n : Nat) (b : TokenBucket) : (s.setShaper n b).faults = s.faults := rfl

@[simp] theorem State.setWeir_pending (s : State) (n : Nat) (b : TokenBucket) : (s.setWeir n b).pending = s.pending := rfl
@[simp] theorem State.setWeir_now (s : State) (n : Nat) (b : TokenBucket) : (s.setWeir n b).now = s.now := rfl
@[simp] theorem State.setWeir_ftc (s : State) (n : Nat) (b : TokenBucket) : (s.setWeir n b).ftc = s.ftc := rfl
@[simp] theorem State.setWeir_out (s : State) (n : Nat) (b : TokenBucket) : (s.setWeir n b).out = s.out := rfl
@[simp] theorem State.setWeir_freeCounter (s : State) (n : Nat) (b : TokenBucket) : (s.setWeir n b).freeCounter = s.freeCounter := rfl
@[simp] theorem State.setWeir_chip (s : State) (n : Nat) (b : TokenBucket) : (s.setWeir n b).chip = s.chip := rfl
@[simp] theorem State.setWeir_dict (s : State) (n : Nat) (b : TokenBucket) : (s.setWeir n b).dict = s.dict := rfl
@[simp] theorem State.setWeir_csr (s : State) (n : Nat) (b : TokenBucket) : (s.setWeir n b).csr = s.csr := rfl
@[simp] theorem State.setWeir_mem (s : State) (n : Nat) (b : TokenBucket) : (s.setWeir n b).mem = s.mem := rfl
@[simp] theorem State.setWeir_sram (s : State) (n : Nat) (b : TokenBucket) : (s.setWeir n b).sram = s.sram := rfl
@[simp] theorem State.setWeir_remote (s : State) (n : Nat) (b : TokenBucket) : (s.setWeir n b).remote = s.remote := rfl
@[simp] theorem State.setWeir_plans (s : State) (n : Nat) (b : TokenBucket) : (s.setWeir n b).plans = s.plans := rfl
@[simp] theorem State.setWeir_florets (s : State) (n : Nat) (b : TokenBucket) : (s.setWeir n b).florets = s.florets := rfl
@[simp] theorem State.setWeir_hcu (s : State) (n : Nat) (b : TokenBucket) : (s.setWeir n b).hcu = s.hcu := rfl
@[simp] theorem State.setWeir_sw (s : State) (n : Nat) (b : TokenBucket) : (s.setWeir n b).sw = s.sw := rfl
@[simp] theorem State.setWeir_pool (s : State) (n : Nat) (b : TokenBucket) : (s.setWeir n b).pool = s.pool := rfl
@[simp] theorem State.setWeir_kv (s : State) (n : Nat) (b : TokenBucket) : (s.setWeir n b).kv = s.kv := rfl
@[simp] theorem State.setWeir_coh (s : State) (n : Nat) (b : TokenBucket) : (s.setWeir n b).coh = s.coh := rfl
@[simp] theorem State.setWeir_cz (s : State) (n : Nat) (b : TokenBucket) : (s.setWeir n b).cz = s.cz := rfl
@[simp] theorem State.setWeir_meadow (s : State) (n : Nat) (b : TokenBucket) : (s.setWeir n b).meadow = s.meadow := rfl
@[simp] theorem State.setWeir_sec (s : State) (n : Nat) (b : TokenBucket) : (s.setWeir n b).sec = s.sec := rfl
@[simp] theorem State.setWeir_links (s : State) (n : Nat) (b : TokenBucket) : (s.setWeir n b).links = s.links := rfl
@[simp] theorem State.setWeir_mgmt (s : State) (n : Nat) (b : TokenBucket) : (s.setWeir n b).mgmt = s.mgmt := rfl
@[simp] theorem State.setWeir_power (s : State) (n : Nat) (b : TokenBucket) : (s.setWeir n b).power = s.power := rfl
@[simp] theorem State.setWeir_faults (s : State) (n : Nat) (b : TokenBucket) : (s.setWeir n b).faults = s.faults := rfl

@[simp] theorem State.setSlot_pending (s : State) (n : Nat) (x : PlanSlot) : (s.setSlot n x).pending = s.pending := rfl
@[simp] theorem State.setSlot_now (s : State) (n : Nat) (x : PlanSlot) : (s.setSlot n x).now = s.now := rfl
@[simp] theorem State.setSlot_ftc (s : State) (n : Nat) (x : PlanSlot) : (s.setSlot n x).ftc = s.ftc := rfl
@[simp] theorem State.setSlot_out (s : State) (n : Nat) (x : PlanSlot) : (s.setSlot n x).out = s.out := rfl
@[simp] theorem State.setSlot_freeCounter (s : State) (n : Nat) (x : PlanSlot) : (s.setSlot n x).freeCounter = s.freeCounter := rfl
@[simp] theorem State.setSlot_chip (s : State) (n : Nat) (x : PlanSlot) : (s.setSlot n x).chip = s.chip := rfl
@[simp] theorem State.setSlot_dict (s : State) (n : Nat) (x : PlanSlot) : (s.setSlot n x).dict = s.dict := rfl
@[simp] theorem State.setSlot_csr (s : State) (n : Nat) (x : PlanSlot) : (s.setSlot n x).csr = s.csr := rfl
@[simp] theorem State.setSlot_mem (s : State) (n : Nat) (x : PlanSlot) : (s.setSlot n x).mem = s.mem := rfl
@[simp] theorem State.setSlot_sram (s : State) (n : Nat) (x : PlanSlot) : (s.setSlot n x).sram = s.sram := rfl
@[simp] theorem State.setSlot_remote (s : State) (n : Nat) (x : PlanSlot) : (s.setSlot n x).remote = s.remote := rfl
@[simp] theorem State.setSlot_florets (s : State) (n : Nat) (x : PlanSlot) : (s.setSlot n x).florets = s.florets := rfl
@[simp] theorem State.setSlot_hcu (s : State) (n : Nat) (x : PlanSlot) : (s.setSlot n x).hcu = s.hcu := rfl
@[simp] theorem State.setSlot_sw (s : State) (n : Nat) (x : PlanSlot) : (s.setSlot n x).sw = s.sw := rfl
@[simp] theorem State.setSlot_traffic (s : State) (n : Nat) (x : PlanSlot) : (s.setSlot n x).traffic = s.traffic := rfl
@[simp] theorem State.setSlot_pool (s : State) (n : Nat) (x : PlanSlot) : (s.setSlot n x).pool = s.pool := rfl
@[simp] theorem State.setSlot_kv (s : State) (n : Nat) (x : PlanSlot) : (s.setSlot n x).kv = s.kv := rfl
@[simp] theorem State.setSlot_coh (s : State) (n : Nat) (x : PlanSlot) : (s.setSlot n x).coh = s.coh := rfl
@[simp] theorem State.setSlot_cz (s : State) (n : Nat) (x : PlanSlot) : (s.setSlot n x).cz = s.cz := rfl
@[simp] theorem State.setSlot_meadow (s : State) (n : Nat) (x : PlanSlot) : (s.setSlot n x).meadow = s.meadow := rfl
@[simp] theorem State.setSlot_sec (s : State) (n : Nat) (x : PlanSlot) : (s.setSlot n x).sec = s.sec := rfl
@[simp] theorem State.setSlot_links (s : State) (n : Nat) (x : PlanSlot) : (s.setSlot n x).links = s.links := rfl
@[simp] theorem State.setSlot_mgmt (s : State) (n : Nat) (x : PlanSlot) : (s.setSlot n x).mgmt = s.mgmt := rfl
@[simp] theorem State.setSlot_power (s : State) (n : Nat) (x : PlanSlot) : (s.setSlot n x).power = s.power := rfl
@[simp] theorem State.setSlot_faults (s : State) (n : Nat) (x : PlanSlot) : (s.setSlot n x).faults = s.faults := rfl

@[simp] theorem State.setFloret_pending (s : State) (f : Nat) (x : Floret) : (s.setFloret f x).pending = s.pending := rfl
@[simp] theorem State.setFloret_now (s : State) (f : Nat) (x : Floret) : (s.setFloret f x).now = s.now := rfl
@[simp] theorem State.setFloret_ftc (s : State) (f : Nat) (x : Floret) : (s.setFloret f x).ftc = s.ftc := rfl
@[simp] theorem State.setFloret_out (s : State) (f : Nat) (x : Floret) : (s.setFloret f x).out = s.out := rfl
@[simp] theorem State.setFloret_freeCounter (s : State) (f : Nat) (x : Floret) : (s.setFloret f x).freeCounter = s.freeCounter := rfl
@[simp] theorem State.setFloret_chip (s : State) (f : Nat) (x : Floret) : (s.setFloret f x).chip = s.chip := rfl
@[simp] theorem State.setFloret_dict (s : State) (f : Nat) (x : Floret) : (s.setFloret f x).dict = s.dict := rfl
@[simp] theorem State.setFloret_csr (s : State) (f : Nat) (x : Floret) : (s.setFloret f x).csr = s.csr := rfl
@[simp] theorem State.setFloret_mem (s : State) (f : Nat) (x : Floret) : (s.setFloret f x).mem = s.mem := rfl
@[simp] theorem State.setFloret_sram (s : State) (f : Nat) (x : Floret) : (s.setFloret f x).sram = s.sram := rfl
@[simp] theorem State.setFloret_remote (s : State) (f : Nat) (x : Floret) : (s.setFloret f x).remote = s.remote := rfl
@[simp] theorem State.setFloret_plans (s : State) (f : Nat) (x : Floret) : (s.setFloret f x).plans = s.plans := rfl
@[simp] theorem State.setFloret_hcu (s : State) (f : Nat) (x : Floret) : (s.setFloret f x).hcu = s.hcu := rfl
@[simp] theorem State.setFloret_sw (s : State) (f : Nat) (x : Floret) : (s.setFloret f x).sw = s.sw := rfl
@[simp] theorem State.setFloret_traffic (s : State) (f : Nat) (x : Floret) : (s.setFloret f x).traffic = s.traffic := rfl
@[simp] theorem State.setFloret_pool (s : State) (f : Nat) (x : Floret) : (s.setFloret f x).pool = s.pool := rfl
@[simp] theorem State.setFloret_kv (s : State) (f : Nat) (x : Floret) : (s.setFloret f x).kv = s.kv := rfl
@[simp] theorem State.setFloret_coh (s : State) (f : Nat) (x : Floret) : (s.setFloret f x).coh = s.coh := rfl
@[simp] theorem State.setFloret_cz (s : State) (f : Nat) (x : Floret) : (s.setFloret f x).cz = s.cz := rfl
@[simp] theorem State.setFloret_meadow (s : State) (f : Nat) (x : Floret) : (s.setFloret f x).meadow = s.meadow := rfl
@[simp] theorem State.setFloret_sec (s : State) (f : Nat) (x : Floret) : (s.setFloret f x).sec = s.sec := rfl
@[simp] theorem State.setFloret_links (s : State) (f : Nat) (x : Floret) : (s.setFloret f x).links = s.links := rfl
@[simp] theorem State.setFloret_mgmt (s : State) (f : Nat) (x : Floret) : (s.setFloret f x).mgmt = s.mgmt := rfl
@[simp] theorem State.setFloret_power (s : State) (f : Nat) (x : Floret) : (s.setFloret f x).power = s.power := rfl
@[simp] theorem State.setFloret_faults (s : State) (f : Nat) (x : Floret) : (s.setFloret f x).faults = s.faults := rfl

@[simp] theorem State.setItem_pending (s : State) (x : TaskItem) : (s.setItem x).pending = s.pending := rfl
@[simp] theorem State.setItem_now (s : State) (x : TaskItem) : (s.setItem x).now = s.now := rfl
@[simp] theorem State.setItem_ftc (s : State) (x : TaskItem) : (s.setItem x).ftc = s.ftc := rfl
@[simp] theorem State.setItem_out (s : State) (x : TaskItem) : (s.setItem x).out = s.out := rfl
@[simp] theorem State.setItem_freeCounter (s : State) (x : TaskItem) : (s.setItem x).freeCounter = s.freeCounter := rfl
@[simp] theorem State.setItem_chip (s : State) (x : TaskItem) : (s.setItem x).chip = s.chip := rfl
@[simp] theorem State.setItem_dict (s : State) (x : TaskItem) : (s.setItem x).dict = s.dict := rfl
@[simp] theorem State.setItem_csr (s : State) (x : TaskItem) : (s.setItem x).csr = s.csr := rfl
@[simp] theorem State.setItem_mem (s : State) (x : TaskItem) : (s.setItem x).mem = s.mem := rfl
@[simp] theorem State.setItem_sram (s : State) (x : TaskItem) : (s.setItem x).sram = s.sram := rfl
@[simp] theorem State.setItem_remote (s : State) (x : TaskItem) : (s.setItem x).remote = s.remote := rfl
@[simp] theorem State.setItem_plans (s : State) (x : TaskItem) : (s.setItem x).plans = s.plans := rfl
@[simp] theorem State.setItem_hcu (s : State) (x : TaskItem) : (s.setItem x).hcu = s.hcu := rfl
@[simp] theorem State.setItem_sw (s : State) (x : TaskItem) : (s.setItem x).sw = s.sw := rfl
@[simp] theorem State.setItem_traffic (s : State) (x : TaskItem) : (s.setItem x).traffic = s.traffic := rfl
@[simp] theorem State.setItem_pool (s : State) (x : TaskItem) : (s.setItem x).pool = s.pool := rfl
@[simp] theorem State.setItem_kv (s : State) (x : TaskItem) : (s.setItem x).kv = s.kv := rfl
@[simp] theorem State.setItem_coh (s : State) (x : TaskItem) : (s.setItem x).coh = s.coh := rfl
@[simp] theorem State.setItem_cz (s : State) (x : TaskItem) : (s.setItem x).cz = s.cz := rfl
@[simp] theorem State.setItem_meadow (s : State) (x : TaskItem) : (s.setItem x).meadow = s.meadow := rfl
@[simp] theorem State.setItem_sec (s : State) (x : TaskItem) : (s.setItem x).sec = s.sec := rfl
@[simp] theorem State.setItem_links (s : State) (x : TaskItem) : (s.setItem x).links = s.links := rfl
@[simp] theorem State.setItem_mgmt (s : State) (x : TaskItem) : (s.setItem x).mgmt = s.mgmt := rfl
@[simp] theorem State.setItem_power (s : State) (x : TaskItem) : (s.setItem x).power = s.power := rfl
@[simp] theorem State.setItem_faults (s : State) (x : TaskItem) : (s.setItem x).faults = s.faults := rfl

@[simp] theorem State.setTasks_pending (s : State) (c : Nat) (l : List TaskRange) : (s.setTasks c l).pending = s.pending := rfl
@[simp] theorem State.setTasks_now (s : State) (c : Nat) (l : List TaskRange) : (s.setTasks c l).now = s.now := rfl
@[simp] theorem State.setTasks_ftc (s : State) (c : Nat) (l : List TaskRange) : (s.setTasks c l).ftc = s.ftc := rfl
@[simp] theorem State.setTasks_out (s : State) (c : Nat) (l : List TaskRange) : (s.setTasks c l).out = s.out := rfl
@[simp] theorem State.setTasks_freeCounter (s : State) (c : Nat) (l : List TaskRange) : (s.setTasks c l).freeCounter = s.freeCounter := rfl
@[simp] theorem State.setTasks_chip (s : State) (c : Nat) (l : List TaskRange) : (s.setTasks c l).chip = s.chip := rfl
@[simp] theorem State.setTasks_dict (s : State) (c : Nat) (l : List TaskRange) : (s.setTasks c l).dict = s.dict := rfl
@[simp] theorem State.setTasks_csr (s : State) (c : Nat) (l : List TaskRange) : (s.setTasks c l).csr = s.csr := rfl
@[simp] theorem State.setTasks_mem (s : State) (c : Nat) (l : List TaskRange) : (s.setTasks c l).mem = s.mem := rfl
@[simp] theorem State.setTasks_sram (s : State) (c : Nat) (l : List TaskRange) : (s.setTasks c l).sram = s.sram := rfl
@[simp] theorem State.setTasks_remote (s : State) (c : Nat) (l : List TaskRange) : (s.setTasks c l).remote = s.remote := rfl
@[simp] theorem State.setTasks_plans (s : State) (c : Nat) (l : List TaskRange) : (s.setTasks c l).plans = s.plans := rfl
@[simp] theorem State.setTasks_hcu (s : State) (c : Nat) (l : List TaskRange) : (s.setTasks c l).hcu = s.hcu := rfl
@[simp] theorem State.setTasks_sw (s : State) (c : Nat) (l : List TaskRange) : (s.setTasks c l).sw = s.sw := rfl
@[simp] theorem State.setTasks_traffic (s : State) (c : Nat) (l : List TaskRange) : (s.setTasks c l).traffic = s.traffic := rfl
@[simp] theorem State.setTasks_pool (s : State) (c : Nat) (l : List TaskRange) : (s.setTasks c l).pool = s.pool := rfl
@[simp] theorem State.setTasks_kv (s : State) (c : Nat) (l : List TaskRange) : (s.setTasks c l).kv = s.kv := rfl
@[simp] theorem State.setTasks_coh (s : State) (c : Nat) (l : List TaskRange) : (s.setTasks c l).coh = s.coh := rfl
@[simp] theorem State.setTasks_cz (s : State) (c : Nat) (l : List TaskRange) : (s.setTasks c l).cz = s.cz := rfl
@[simp] theorem State.setTasks_meadow (s : State) (c : Nat) (l : List TaskRange) : (s.setTasks c l).meadow = s.meadow := rfl
@[simp] theorem State.setTasks_sec (s : State) (c : Nat) (l : List TaskRange) : (s.setTasks c l).sec = s.sec := rfl
@[simp] theorem State.setTasks_links (s : State) (c : Nat) (l : List TaskRange) : (s.setTasks c l).links = s.links := rfl
@[simp] theorem State.setTasks_mgmt (s : State) (c : Nat) (l : List TaskRange) : (s.setTasks c l).mgmt = s.mgmt := rfl
@[simp] theorem State.setTasks_power (s : State) (c : Nat) (l : List TaskRange) : (s.setTasks c l).power = s.power := rfl
@[simp] theorem State.setTasks_faults (s : State) (c : Nat) (l : List TaskRange) : (s.setTasks c l).faults = s.faults := rfl

@[simp] theorem State.setJob_pending (s : State) (n : Nat) (j : Job) : (s.setJob n j).pending = s.pending := rfl
@[simp] theorem State.setJob_now (s : State) (n : Nat) (j : Job) : (s.setJob n j).now = s.now := rfl
@[simp] theorem State.setJob_ftc (s : State) (n : Nat) (j : Job) : (s.setJob n j).ftc = s.ftc := rfl
@[simp] theorem State.setJob_out (s : State) (n : Nat) (j : Job) : (s.setJob n j).out = s.out := rfl
@[simp] theorem State.setJob_freeCounter (s : State) (n : Nat) (j : Job) : (s.setJob n j).freeCounter = s.freeCounter := rfl
@[simp] theorem State.setJob_chip (s : State) (n : Nat) (j : Job) : (s.setJob n j).chip = s.chip := rfl
@[simp] theorem State.setJob_dict (s : State) (n : Nat) (j : Job) : (s.setJob n j).dict = s.dict := rfl
@[simp] theorem State.setJob_csr (s : State) (n : Nat) (j : Job) : (s.setJob n j).csr = s.csr := rfl
@[simp] theorem State.setJob_mem (s : State) (n : Nat) (j : Job) : (s.setJob n j).mem = s.mem := rfl
@[simp] theorem State.setJob_sram (s : State) (n : Nat) (j : Job) : (s.setJob n j).sram = s.sram := rfl
@[simp] theorem State.setJob_remote (s : State) (n : Nat) (j : Job) : (s.setJob n j).remote = s.remote := rfl
@[simp] theorem State.setJob_plans (s : State) (n : Nat) (j : Job) : (s.setJob n j).plans = s.plans := rfl
@[simp] theorem State.setJob_florets (s : State) (n : Nat) (j : Job) : (s.setJob n j).florets = s.florets := rfl
@[simp] theorem State.setJob_sw (s : State) (n : Nat) (j : Job) : (s.setJob n j).sw = s.sw := rfl
@[simp] theorem State.setJob_traffic (s : State) (n : Nat) (j : Job) : (s.setJob n j).traffic = s.traffic := rfl
@[simp] theorem State.setJob_pool (s : State) (n : Nat) (j : Job) : (s.setJob n j).pool = s.pool := rfl
@[simp] theorem State.setJob_kv (s : State) (n : Nat) (j : Job) : (s.setJob n j).kv = s.kv := rfl
@[simp] theorem State.setJob_coh (s : State) (n : Nat) (j : Job) : (s.setJob n j).coh = s.coh := rfl
@[simp] theorem State.setJob_cz (s : State) (n : Nat) (j : Job) : (s.setJob n j).cz = s.cz := rfl
@[simp] theorem State.setJob_meadow (s : State) (n : Nat) (j : Job) : (s.setJob n j).meadow = s.meadow := rfl
@[simp] theorem State.setJob_sec (s : State) (n : Nat) (j : Job) : (s.setJob n j).sec = s.sec := rfl
@[simp] theorem State.setJob_links (s : State) (n : Nat) (j : Job) : (s.setJob n j).links = s.links := rfl
@[simp] theorem State.setJob_mgmt (s : State) (n : Nat) (j : Job) : (s.setJob n j).mgmt = s.mgmt := rfl
@[simp] theorem State.setJob_power (s : State) (n : Nat) (j : Job) : (s.setJob n j).power = s.power := rfl
@[simp] theorem State.setJob_faults (s : State) (n : Nat) (j : Job) : (s.setJob n j).faults = s.faults := rfl

@[simp] theorem State.setFrame_pending (s : State) (n : Nat) (f : Option Frame) : (s.setFrame n f).pending = s.pending := rfl
@[simp] theorem State.setFrame_now (s : State) (n : Nat) (f : Option Frame) : (s.setFrame n f).now = s.now := rfl
@[simp] theorem State.setFrame_ftc (s : State) (n : Nat) (f : Option Frame) : (s.setFrame n f).ftc = s.ftc := rfl
@[simp] theorem State.setFrame_out (s : State) (n : Nat) (f : Option Frame) : (s.setFrame n f).out = s.out := rfl
@[simp] theorem State.setFrame_freeCounter (s : State) (n : Nat) (f : Option Frame) : (s.setFrame n f).freeCounter = s.freeCounter := rfl
@[simp] theorem State.setFrame_chip (s : State) (n : Nat) (f : Option Frame) : (s.setFrame n f).chip = s.chip := rfl
@[simp] theorem State.setFrame_dict (s : State) (n : Nat) (f : Option Frame) : (s.setFrame n f).dict = s.dict := rfl
@[simp] theorem State.setFrame_csr (s : State) (n : Nat) (f : Option Frame) : (s.setFrame n f).csr = s.csr := rfl
@[simp] theorem State.setFrame_mem (s : State) (n : Nat) (f : Option Frame) : (s.setFrame n f).mem = s.mem := rfl
@[simp] theorem State.setFrame_sram (s : State) (n : Nat) (f : Option Frame) : (s.setFrame n f).sram = s.sram := rfl
@[simp] theorem State.setFrame_remote (s : State) (n : Nat) (f : Option Frame) : (s.setFrame n f).remote = s.remote := rfl
@[simp] theorem State.setFrame_plans (s : State) (n : Nat) (f : Option Frame) : (s.setFrame n f).plans = s.plans := rfl
@[simp] theorem State.setFrame_florets (s : State) (n : Nat) (f : Option Frame) : (s.setFrame n f).florets = s.florets := rfl
@[simp] theorem State.setFrame_hcu (s : State) (n : Nat) (f : Option Frame) : (s.setFrame n f).hcu = s.hcu := rfl
@[simp] theorem State.setFrame_traffic (s : State) (n : Nat) (f : Option Frame) : (s.setFrame n f).traffic = s.traffic := rfl
@[simp] theorem State.setFrame_pool (s : State) (n : Nat) (f : Option Frame) : (s.setFrame n f).pool = s.pool := rfl
@[simp] theorem State.setFrame_kv (s : State) (n : Nat) (f : Option Frame) : (s.setFrame n f).kv = s.kv := rfl
@[simp] theorem State.setFrame_coh (s : State) (n : Nat) (f : Option Frame) : (s.setFrame n f).coh = s.coh := rfl
@[simp] theorem State.setFrame_cz (s : State) (n : Nat) (f : Option Frame) : (s.setFrame n f).cz = s.cz := rfl
@[simp] theorem State.setFrame_meadow (s : State) (n : Nat) (f : Option Frame) : (s.setFrame n f).meadow = s.meadow := rfl
@[simp] theorem State.setFrame_sec (s : State) (n : Nat) (f : Option Frame) : (s.setFrame n f).sec = s.sec := rfl
@[simp] theorem State.setFrame_links (s : State) (n : Nat) (f : Option Frame) : (s.setFrame n f).links = s.links := rfl
@[simp] theorem State.setFrame_mgmt (s : State) (n : Nat) (f : Option Frame) : (s.setFrame n f).mgmt = s.mgmt := rfl
@[simp] theorem State.setFrame_power (s : State) (n : Nat) (f : Option Frame) : (s.setFrame n f).power = s.power := rfl
@[simp] theorem State.setFrame_faults (s : State) (n : Nat) (f : Option Frame) : (s.setFrame n f).faults = s.faults := rfl

@[simp] theorem State.setList_pending (s : State) (p k : Nat) (l : List QEntry) : (s.setList p k l).pending = s.pending := rfl
@[simp] theorem State.setList_now (s : State) (p k : Nat) (l : List QEntry) : (s.setList p k l).now = s.now := rfl
@[simp] theorem State.setList_ftc (s : State) (p k : Nat) (l : List QEntry) : (s.setList p k l).ftc = s.ftc := rfl
@[simp] theorem State.setList_out (s : State) (p k : Nat) (l : List QEntry) : (s.setList p k l).out = s.out := rfl
@[simp] theorem State.setList_freeCounter (s : State) (p k : Nat) (l : List QEntry) : (s.setList p k l).freeCounter = s.freeCounter := rfl
@[simp] theorem State.setList_chip (s : State) (p k : Nat) (l : List QEntry) : (s.setList p k l).chip = s.chip := rfl
@[simp] theorem State.setList_dict (s : State) (p k : Nat) (l : List QEntry) : (s.setList p k l).dict = s.dict := rfl
@[simp] theorem State.setList_csr (s : State) (p k : Nat) (l : List QEntry) : (s.setList p k l).csr = s.csr := rfl
@[simp] theorem State.setList_mem (s : State) (p k : Nat) (l : List QEntry) : (s.setList p k l).mem = s.mem := rfl
@[simp] theorem State.setList_sram (s : State) (p k : Nat) (l : List QEntry) : (s.setList p k l).sram = s.sram := rfl
@[simp] theorem State.setList_remote (s : State) (p k : Nat) (l : List QEntry) : (s.setList p k l).remote = s.remote := rfl
@[simp] theorem State.setList_plans (s : State) (p k : Nat) (l : List QEntry) : (s.setList p k l).plans = s.plans := rfl
@[simp] theorem State.setList_florets (s : State) (p k : Nat) (l : List QEntry) : (s.setList p k l).florets = s.florets := rfl
@[simp] theorem State.setList_hcu (s : State) (p k : Nat) (l : List QEntry) : (s.setList p k l).hcu = s.hcu := rfl
@[simp] theorem State.setList_traffic (s : State) (p k : Nat) (l : List QEntry) : (s.setList p k l).traffic = s.traffic := rfl
@[simp] theorem State.setList_pool (s : State) (p k : Nat) (l : List QEntry) : (s.setList p k l).pool = s.pool := rfl
@[simp] theorem State.setList_kv (s : State) (p k : Nat) (l : List QEntry) : (s.setList p k l).kv = s.kv := rfl
@[simp] theorem State.setList_coh (s : State) (p k : Nat) (l : List QEntry) : (s.setList p k l).coh = s.coh := rfl
@[simp] theorem State.setList_cz (s : State) (p k : Nat) (l : List QEntry) : (s.setList p k l).cz = s.cz := rfl
@[simp] theorem State.setList_meadow (s : State) (p k : Nat) (l : List QEntry) : (s.setList p k l).meadow = s.meadow := rfl
@[simp] theorem State.setList_sec (s : State) (p k : Nat) (l : List QEntry) : (s.setList p k l).sec = s.sec := rfl
@[simp] theorem State.setList_links (s : State) (p k : Nat) (l : List QEntry) : (s.setList p k l).links = s.links := rfl
@[simp] theorem State.setList_mgmt (s : State) (p k : Nat) (l : List QEntry) : (s.setList p k l).mgmt = s.mgmt := rfl
@[simp] theorem State.setList_power (s : State) (p k : Nat) (l : List QEntry) : (s.setList p k l).power = s.power := rfl
@[simp] theorem State.setList_faults (s : State) (p k : Nat) (l : List QEntry) : (s.setList p k l).faults = s.faults := rfl

@[simp] theorem State.setGroup_pending (s : State) (g : Nat) (x : LinkGroup) : (s.setGroup g x).pending = s.pending := rfl
@[simp] theorem State.setGroup_now (s : State) (g : Nat) (x : LinkGroup) : (s.setGroup g x).now = s.now := rfl
@[simp] theorem State.setGroup_ftc (s : State) (g : Nat) (x : LinkGroup) : (s.setGroup g x).ftc = s.ftc := rfl
@[simp] theorem State.setGroup_out (s : State) (g : Nat) (x : LinkGroup) : (s.setGroup g x).out = s.out := rfl
@[simp] theorem State.setGroup_freeCounter (s : State) (g : Nat) (x : LinkGroup) : (s.setGroup g x).freeCounter = s.freeCounter := rfl
@[simp] theorem State.setGroup_chip (s : State) (g : Nat) (x : LinkGroup) : (s.setGroup g x).chip = s.chip := rfl
@[simp] theorem State.setGroup_dict (s : State) (g : Nat) (x : LinkGroup) : (s.setGroup g x).dict = s.dict := rfl
@[simp] theorem State.setGroup_csr (s : State) (g : Nat) (x : LinkGroup) : (s.setGroup g x).csr = s.csr := rfl
@[simp] theorem State.setGroup_mem (s : State) (g : Nat) (x : LinkGroup) : (s.setGroup g x).mem = s.mem := rfl
@[simp] theorem State.setGroup_sram (s : State) (g : Nat) (x : LinkGroup) : (s.setGroup g x).sram = s.sram := rfl
@[simp] theorem State.setGroup_remote (s : State) (g : Nat) (x : LinkGroup) : (s.setGroup g x).remote = s.remote := rfl
@[simp] theorem State.setGroup_plans (s : State) (g : Nat) (x : LinkGroup) : (s.setGroup g x).plans = s.plans := rfl
@[simp] theorem State.setGroup_florets (s : State) (g : Nat) (x : LinkGroup) : (s.setGroup g x).florets = s.florets := rfl
@[simp] theorem State.setGroup_hcu (s : State) (g : Nat) (x : LinkGroup) : (s.setGroup g x).hcu = s.hcu := rfl
@[simp] theorem State.setGroup_traffic (s : State) (g : Nat) (x : LinkGroup) : (s.setGroup g x).traffic = s.traffic := rfl
@[simp] theorem State.setGroup_pool (s : State) (g : Nat) (x : LinkGroup) : (s.setGroup g x).pool = s.pool := rfl
@[simp] theorem State.setGroup_kv (s : State) (g : Nat) (x : LinkGroup) : (s.setGroup g x).kv = s.kv := rfl
@[simp] theorem State.setGroup_coh (s : State) (g : Nat) (x : LinkGroup) : (s.setGroup g x).coh = s.coh := rfl
@[simp] theorem State.setGroup_cz (s : State) (g : Nat) (x : LinkGroup) : (s.setGroup g x).cz = s.cz := rfl
@[simp] theorem State.setGroup_meadow (s : State) (g : Nat) (x : LinkGroup) : (s.setGroup g x).meadow = s.meadow := rfl
@[simp] theorem State.setGroup_sec (s : State) (g : Nat) (x : LinkGroup) : (s.setGroup g x).sec = s.sec := rfl
@[simp] theorem State.setGroup_links (s : State) (g : Nat) (x : LinkGroup) : (s.setGroup g x).links = s.links := rfl
@[simp] theorem State.setGroup_mgmt (s : State) (g : Nat) (x : LinkGroup) : (s.setGroup g x).mgmt = s.mgmt := rfl
@[simp] theorem State.setGroup_power (s : State) (g : Nat) (x : LinkGroup) : (s.setGroup g x).power = s.power := rfl
@[simp] theorem State.setGroup_faults (s : State) (g : Nat) (x : LinkGroup) : (s.setGroup g x).faults = s.faults := rfl

@[simp] theorem State.setBucket_pending (s : State) (k : Nat) (x : Bucket) : (s.setBucket k x).pending = s.pending := rfl
@[simp] theorem State.setBucket_now (s : State) (k : Nat) (x : Bucket) : (s.setBucket k x).now = s.now := rfl
@[simp] theorem State.setBucket_ftc (s : State) (k : Nat) (x : Bucket) : (s.setBucket k x).ftc = s.ftc := rfl
@[simp] theorem State.setBucket_out (s : State) (k : Nat) (x : Bucket) : (s.setBucket k x).out = s.out := rfl
@[simp] theorem State.setBucket_freeCounter (s : State) (k : Nat) (x : Bucket) : (s.setBucket k x).freeCounter = s.freeCounter := rfl
@[simp] theorem State.setBucket_chip (s : State) (k : Nat) (x : Bucket) : (s.setBucket k x).chip = s.chip := rfl
@[simp] theorem State.setBucket_dict (s : State) (k : Nat) (x : Bucket) : (s.setBucket k x).dict = s.dict := rfl
@[simp] theorem State.setBucket_csr (s : State) (k : Nat) (x : Bucket) : (s.setBucket k x).csr = s.csr := rfl
@[simp] theorem State.setBucket_mem (s : State) (k : Nat) (x : Bucket) : (s.setBucket k x).mem = s.mem := rfl
@[simp] theorem State.setBucket_sram (s : State) (k : Nat) (x : Bucket) : (s.setBucket k x).sram = s.sram := rfl
@[simp] theorem State.setBucket_remote (s : State) (k : Nat) (x : Bucket) : (s.setBucket k x).remote = s.remote := rfl
@[simp] theorem State.setBucket_plans (s : State) (k : Nat) (x : Bucket) : (s.setBucket k x).plans = s.plans := rfl
@[simp] theorem State.setBucket_florets (s : State) (k : Nat) (x : Bucket) : (s.setBucket k x).florets = s.florets := rfl
@[simp] theorem State.setBucket_hcu (s : State) (k : Nat) (x : Bucket) : (s.setBucket k x).hcu = s.hcu := rfl
@[simp] theorem State.setBucket_traffic (s : State) (k : Nat) (x : Bucket) : (s.setBucket k x).traffic = s.traffic := rfl
@[simp] theorem State.setBucket_pool (s : State) (k : Nat) (x : Bucket) : (s.setBucket k x).pool = s.pool := rfl
@[simp] theorem State.setBucket_kv (s : State) (k : Nat) (x : Bucket) : (s.setBucket k x).kv = s.kv := rfl
@[simp] theorem State.setBucket_coh (s : State) (k : Nat) (x : Bucket) : (s.setBucket k x).coh = s.coh := rfl
@[simp] theorem State.setBucket_cz (s : State) (k : Nat) (x : Bucket) : (s.setBucket k x).cz = s.cz := rfl
@[simp] theorem State.setBucket_meadow (s : State) (k : Nat) (x : Bucket) : (s.setBucket k x).meadow = s.meadow := rfl
@[simp] theorem State.setBucket_sec (s : State) (k : Nat) (x : Bucket) : (s.setBucket k x).sec = s.sec := rfl
@[simp] theorem State.setBucket_links (s : State) (k : Nat) (x : Bucket) : (s.setBucket k x).links = s.links := rfl
@[simp] theorem State.setBucket_mgmt (s : State) (k : Nat) (x : Bucket) : (s.setBucket k x).mgmt = s.mgmt := rfl
@[simp] theorem State.setBucket_power (s : State) (k : Nat) (x : Bucket) : (s.setBucket k x).power = s.power := rfl
@[simp] theorem State.setBucket_faults (s : State) (k : Nat) (x : Bucket) : (s.setBucket k x).faults = s.faults := rfl

@[simp] theorem State.setPort_pending (s : State) (p : Nat) (x : Port) : (s.setPort p x).pending = s.pending := rfl
@[simp] theorem State.setPort_now (s : State) (p : Nat) (x : Port) : (s.setPort p x).now = s.now := rfl
@[simp] theorem State.setPort_ftc (s : State) (p : Nat) (x : Port) : (s.setPort p x).ftc = s.ftc := rfl
@[simp] theorem State.setPort_out (s : State) (p : Nat) (x : Port) : (s.setPort p x).out = s.out := rfl
@[simp] theorem State.setPort_freeCounter (s : State) (p : Nat) (x : Port) : (s.setPort p x).freeCounter = s.freeCounter := rfl
@[simp] theorem State.setPort_chip (s : State) (p : Nat) (x : Port) : (s.setPort p x).chip = s.chip := rfl
@[simp] theorem State.setPort_dict (s : State) (p : Nat) (x : Port) : (s.setPort p x).dict = s.dict := rfl
@[simp] theorem State.setPort_csr (s : State) (p : Nat) (x : Port) : (s.setPort p x).csr = s.csr := rfl
@[simp] theorem State.setPort_mem (s : State) (p : Nat) (x : Port) : (s.setPort p x).mem = s.mem := rfl
@[simp] theorem State.setPort_sram (s : State) (p : Nat) (x : Port) : (s.setPort p x).sram = s.sram := rfl
@[simp] theorem State.setPort_remote (s : State) (p : Nat) (x : Port) : (s.setPort p x).remote = s.remote := rfl
@[simp] theorem State.setPort_plans (s : State) (p : Nat) (x : Port) : (s.setPort p x).plans = s.plans := rfl
@[simp] theorem State.setPort_florets (s : State) (p : Nat) (x : Port) : (s.setPort p x).florets = s.florets := rfl
@[simp] theorem State.setPort_hcu (s : State) (p : Nat) (x : Port) : (s.setPort p x).hcu = s.hcu := rfl
@[simp] theorem State.setPort_sw (s : State) (p : Nat) (x : Port) : (s.setPort p x).sw = s.sw := rfl
@[simp] theorem State.setPort_traffic (s : State) (p : Nat) (x : Port) : (s.setPort p x).traffic = s.traffic := rfl
@[simp] theorem State.setPort_pool (s : State) (p : Nat) (x : Port) : (s.setPort p x).pool = s.pool := rfl
@[simp] theorem State.setPort_kv (s : State) (p : Nat) (x : Port) : (s.setPort p x).kv = s.kv := rfl
@[simp] theorem State.setPort_coh (s : State) (p : Nat) (x : Port) : (s.setPort p x).coh = s.coh := rfl
@[simp] theorem State.setPort_cz (s : State) (p : Nat) (x : Port) : (s.setPort p x).cz = s.cz := rfl
@[simp] theorem State.setPort_meadow (s : State) (p : Nat) (x : Port) : (s.setPort p x).meadow = s.meadow := rfl
@[simp] theorem State.setPort_sec (s : State) (p : Nat) (x : Port) : (s.setPort p x).sec = s.sec := rfl
@[simp] theorem State.setPort_mgmt (s : State) (p : Nat) (x : Port) : (s.setPort p x).mgmt = s.mgmt := rfl
@[simp] theorem State.setPort_power (s : State) (p : Nat) (x : Port) : (s.setPort p x).power = s.power := rfl
@[simp] theorem State.setPort_faults (s : State) (p : Nat) (x : Port) : (s.setPort p x).faults = s.faults := rfl

@[simp] theorem State.setWindow_pending (s : State) (w : Nat) (x : Window) : (s.setWindow w x).pending = s.pending := rfl
@[simp] theorem State.setWindow_now (s : State) (w : Nat) (x : Window) : (s.setWindow w x).now = s.now := rfl
@[simp] theorem State.setWindow_ftc (s : State) (w : Nat) (x : Window) : (s.setWindow w x).ftc = s.ftc := rfl
@[simp] theorem State.setWindow_out (s : State) (w : Nat) (x : Window) : (s.setWindow w x).out = s.out := rfl
@[simp] theorem State.setWindow_freeCounter (s : State) (w : Nat) (x : Window) : (s.setWindow w x).freeCounter = s.freeCounter := rfl
@[simp] theorem State.setWindow_chip (s : State) (w : Nat) (x : Window) : (s.setWindow w x).chip = s.chip := rfl
@[simp] theorem State.setWindow_dict (s : State) (w : Nat) (x : Window) : (s.setWindow w x).dict = s.dict := rfl
@[simp] theorem State.setWindow_csr (s : State) (w : Nat) (x : Window) : (s.setWindow w x).csr = s.csr := rfl
@[simp] theorem State.setWindow_mem (s : State) (w : Nat) (x : Window) : (s.setWindow w x).mem = s.mem := rfl
@[simp] theorem State.setWindow_sram (s : State) (w : Nat) (x : Window) : (s.setWindow w x).sram = s.sram := rfl
@[simp] theorem State.setWindow_remote (s : State) (w : Nat) (x : Window) : (s.setWindow w x).remote = s.remote := rfl
@[simp] theorem State.setWindow_plans (s : State) (w : Nat) (x : Window) : (s.setWindow w x).plans = s.plans := rfl
@[simp] theorem State.setWindow_florets (s : State) (w : Nat) (x : Window) : (s.setWindow w x).florets = s.florets := rfl
@[simp] theorem State.setWindow_hcu (s : State) (w : Nat) (x : Window) : (s.setWindow w x).hcu = s.hcu := rfl
@[simp] theorem State.setWindow_sw (s : State) (w : Nat) (x : Window) : (s.setWindow w x).sw = s.sw := rfl
@[simp] theorem State.setWindow_traffic (s : State) (w : Nat) (x : Window) : (s.setWindow w x).traffic = s.traffic := rfl
@[simp] theorem State.setWindow_pool (s : State) (w : Nat) (x : Window) : (s.setWindow w x).pool = s.pool := rfl
@[simp] theorem State.setWindow_kv (s : State) (w : Nat) (x : Window) : (s.setWindow w x).kv = s.kv := rfl
@[simp] theorem State.setWindow_cz (s : State) (w : Nat) (x : Window) : (s.setWindow w x).cz = s.cz := rfl
@[simp] theorem State.setWindow_meadow (s : State) (w : Nat) (x : Window) : (s.setWindow w x).meadow = s.meadow := rfl
@[simp] theorem State.setWindow_sec (s : State) (w : Nat) (x : Window) : (s.setWindow w x).sec = s.sec := rfl
@[simp] theorem State.setWindow_links (s : State) (w : Nat) (x : Window) : (s.setWindow w x).links = s.links := rfl
@[simp] theorem State.setWindow_mgmt (s : State) (w : Nat) (x : Window) : (s.setWindow w x).mgmt = s.mgmt := rfl
@[simp] theorem State.setWindow_power (s : State) (w : Nat) (x : Window) : (s.setWindow w x).power = s.power := rfl
@[simp] theorem State.setWindow_faults (s : State) (w : Nat) (x : Window) : (s.setWindow w x).faults = s.faults := rfl

@[simp] theorem State.setAgent_pending (s : State) (a : Nat) (x : Agent) : (s.setAgent a x).pending = s.pending := rfl
@[simp] theorem State.setAgent_now (s : State) (a : Nat) (x : Agent) : (s.setAgent a x).now = s.now := rfl
@[simp] theorem State.setAgent_ftc (s : State) (a : Nat) (x : Agent) : (s.setAgent a x).ftc = s.ftc := rfl
@[simp] theorem State.setAgent_out (s : State) (a : Nat) (x : Agent) : (s.setAgent a x).out = s.out := rfl
@[simp] theorem State.setAgent_freeCounter (s : State) (a : Nat) (x : Agent) : (s.setAgent a x).freeCounter = s.freeCounter := rfl
@[simp] theorem State.setAgent_chip (s : State) (a : Nat) (x : Agent) : (s.setAgent a x).chip = s.chip := rfl
@[simp] theorem State.setAgent_dict (s : State) (a : Nat) (x : Agent) : (s.setAgent a x).dict = s.dict := rfl
@[simp] theorem State.setAgent_csr (s : State) (a : Nat) (x : Agent) : (s.setAgent a x).csr = s.csr := rfl
@[simp] theorem State.setAgent_mem (s : State) (a : Nat) (x : Agent) : (s.setAgent a x).mem = s.mem := rfl
@[simp] theorem State.setAgent_sram (s : State) (a : Nat) (x : Agent) : (s.setAgent a x).sram = s.sram := rfl
@[simp] theorem State.setAgent_remote (s : State) (a : Nat) (x : Agent) : (s.setAgent a x).remote = s.remote := rfl
@[simp] theorem State.setAgent_plans (s : State) (a : Nat) (x : Agent) : (s.setAgent a x).plans = s.plans := rfl
@[simp] theorem State.setAgent_florets (s : State) (a : Nat) (x : Agent) : (s.setAgent a x).florets = s.florets := rfl
@[simp] theorem State.setAgent_hcu (s : State) (a : Nat) (x : Agent) : (s.setAgent a x).hcu = s.hcu := rfl
@[simp] theorem State.setAgent_sw (s : State) (a : Nat) (x : Agent) : (s.setAgent a x).sw = s.sw := rfl
@[simp] theorem State.setAgent_traffic (s : State) (a : Nat) (x : Agent) : (s.setAgent a x).traffic = s.traffic := rfl
@[simp] theorem State.setAgent_pool (s : State) (a : Nat) (x : Agent) : (s.setAgent a x).pool = s.pool := rfl
@[simp] theorem State.setAgent_kv (s : State) (a : Nat) (x : Agent) : (s.setAgent a x).kv = s.kv := rfl
@[simp] theorem State.setAgent_cz (s : State) (a : Nat) (x : Agent) : (s.setAgent a x).cz = s.cz := rfl
@[simp] theorem State.setAgent_meadow (s : State) (a : Nat) (x : Agent) : (s.setAgent a x).meadow = s.meadow := rfl
@[simp] theorem State.setAgent_sec (s : State) (a : Nat) (x : Agent) : (s.setAgent a x).sec = s.sec := rfl
@[simp] theorem State.setAgent_links (s : State) (a : Nat) (x : Agent) : (s.setAgent a x).links = s.links := rfl
@[simp] theorem State.setAgent_mgmt (s : State) (a : Nat) (x : Agent) : (s.setAgent a x).mgmt = s.mgmt := rfl
@[simp] theorem State.setAgent_power (s : State) (a : Nat) (x : Agent) : (s.setAgent a x).power = s.power := rfl
@[simp] theorem State.setAgent_faults (s : State) (a : Nat) (x : Agent) : (s.setAgent a x).faults = s.faults := rfl

@[simp] theorem State.setEntry_pending (s : State) (k : Nat) (e : Option DirEntry) : (s.setEntry k e).pending = s.pending := rfl
@[simp] theorem State.setEntry_now (s : State) (k : Nat) (e : Option DirEntry) : (s.setEntry k e).now = s.now := rfl
@[simp] theorem State.setEntry_ftc (s : State) (k : Nat) (e : Option DirEntry) : (s.setEntry k e).ftc = s.ftc := rfl
@[simp] theorem State.setEntry_out (s : State) (k : Nat) (e : Option DirEntry) : (s.setEntry k e).out = s.out := rfl
@[simp] theorem State.setEntry_freeCounter (s : State) (k : Nat) (e : Option DirEntry) : (s.setEntry k e).freeCounter = s.freeCounter := rfl
@[simp] theorem State.setEntry_chip (s : State) (k : Nat) (e : Option DirEntry) : (s.setEntry k e).chip = s.chip := rfl
@[simp] theorem State.setEntry_dict (s : State) (k : Nat) (e : Option DirEntry) : (s.setEntry k e).dict = s.dict := rfl
@[simp] theorem State.setEntry_csr (s : State) (k : Nat) (e : Option DirEntry) : (s.setEntry k e).csr = s.csr := rfl
@[simp] theorem State.setEntry_mem (s : State) (k : Nat) (e : Option DirEntry) : (s.setEntry k e).mem = s.mem := rfl
@[simp] theorem State.setEntry_sram (s : State) (k : Nat) (e : Option DirEntry) : (s.setEntry k e).sram = s.sram := rfl
@[simp] theorem State.setEntry_remote (s : State) (k : Nat) (e : Option DirEntry) : (s.setEntry k e).remote = s.remote := rfl
@[simp] theorem State.setEntry_plans (s : State) (k : Nat) (e : Option DirEntry) : (s.setEntry k e).plans = s.plans := rfl
@[simp] theorem State.setEntry_florets (s : State) (k : Nat) (e : Option DirEntry) : (s.setEntry k e).florets = s.florets := rfl
@[simp] theorem State.setEntry_hcu (s : State) (k : Nat) (e : Option DirEntry) : (s.setEntry k e).hcu = s.hcu := rfl
@[simp] theorem State.setEntry_sw (s : State) (k : Nat) (e : Option DirEntry) : (s.setEntry k e).sw = s.sw := rfl
@[simp] theorem State.setEntry_traffic (s : State) (k : Nat) (e : Option DirEntry) : (s.setEntry k e).traffic = s.traffic := rfl
@[simp] theorem State.setEntry_pool (s : State) (k : Nat) (e : Option DirEntry) : (s.setEntry k e).pool = s.pool := rfl
@[simp] theorem State.setEntry_kv (s : State) (k : Nat) (e : Option DirEntry) : (s.setEntry k e).kv = s.kv := rfl
@[simp] theorem State.setEntry_cz (s : State) (k : Nat) (e : Option DirEntry) : (s.setEntry k e).cz = s.cz := rfl
@[simp] theorem State.setEntry_meadow (s : State) (k : Nat) (e : Option DirEntry) : (s.setEntry k e).meadow = s.meadow := rfl
@[simp] theorem State.setEntry_sec (s : State) (k : Nat) (e : Option DirEntry) : (s.setEntry k e).sec = s.sec := rfl
@[simp] theorem State.setEntry_links (s : State) (k : Nat) (e : Option DirEntry) : (s.setEntry k e).links = s.links := rfl
@[simp] theorem State.setEntry_mgmt (s : State) (k : Nat) (e : Option DirEntry) : (s.setEntry k e).mgmt = s.mgmt := rfl
@[simp] theorem State.setEntry_power (s : State) (k : Nat) (e : Option DirEntry) : (s.setEntry k e).power = s.power := rfl
@[simp] theorem State.setEntry_faults (s : State) (k : Nat) (e : Option DirEntry) : (s.setEntry k e).faults = s.faults := rfl

@[simp] theorem State.setStream_pending (s : State) (n : Nat) (x : Stream) : (s.setStream n x).pending = s.pending := rfl
@[simp] theorem State.setStream_now (s : State) (n : Nat) (x : Stream) : (s.setStream n x).now = s.now := rfl
@[simp] theorem State.setStream_ftc (s : State) (n : Nat) (x : Stream) : (s.setStream n x).ftc = s.ftc := rfl
@[simp] theorem State.setStream_out (s : State) (n : Nat) (x : Stream) : (s.setStream n x).out = s.out := rfl
@[simp] theorem State.setStream_freeCounter (s : State) (n : Nat) (x : Stream) : (s.setStream n x).freeCounter = s.freeCounter := rfl
@[simp] theorem State.setStream_chip (s : State) (n : Nat) (x : Stream) : (s.setStream n x).chip = s.chip := rfl
@[simp] theorem State.setStream_dict (s : State) (n : Nat) (x : Stream) : (s.setStream n x).dict = s.dict := rfl
@[simp] theorem State.setStream_csr (s : State) (n : Nat) (x : Stream) : (s.setStream n x).csr = s.csr := rfl
@[simp] theorem State.setStream_mem (s : State) (n : Nat) (x : Stream) : (s.setStream n x).mem = s.mem := rfl
@[simp] theorem State.setStream_sram (s : State) (n : Nat) (x : Stream) : (s.setStream n x).sram = s.sram := rfl
@[simp] theorem State.setStream_remote (s : State) (n : Nat) (x : Stream) : (s.setStream n x).remote = s.remote := rfl
@[simp] theorem State.setStream_plans (s : State) (n : Nat) (x : Stream) : (s.setStream n x).plans = s.plans := rfl
@[simp] theorem State.setStream_florets (s : State) (n : Nat) (x : Stream) : (s.setStream n x).florets = s.florets := rfl
@[simp] theorem State.setStream_hcu (s : State) (n : Nat) (x : Stream) : (s.setStream n x).hcu = s.hcu := rfl
@[simp] theorem State.setStream_sw (s : State) (n : Nat) (x : Stream) : (s.setStream n x).sw = s.sw := rfl
@[simp] theorem State.setStream_traffic (s : State) (n : Nat) (x : Stream) : (s.setStream n x).traffic = s.traffic := rfl
@[simp] theorem State.setStream_pool (s : State) (n : Nat) (x : Stream) : (s.setStream n x).pool = s.pool := rfl
@[simp] theorem State.setStream_kv (s : State) (n : Nat) (x : Stream) : (s.setStream n x).kv = s.kv := rfl
@[simp] theorem State.setStream_coh (s : State) (n : Nat) (x : Stream) : (s.setStream n x).coh = s.coh := rfl
@[simp] theorem State.setStream_meadow (s : State) (n : Nat) (x : Stream) : (s.setStream n x).meadow = s.meadow := rfl
@[simp] theorem State.setStream_sec (s : State) (n : Nat) (x : Stream) : (s.setStream n x).sec = s.sec := rfl
@[simp] theorem State.setStream_links (s : State) (n : Nat) (x : Stream) : (s.setStream n x).links = s.links := rfl
@[simp] theorem State.setStream_mgmt (s : State) (n : Nat) (x : Stream) : (s.setStream n x).mgmt = s.mgmt := rfl
@[simp] theorem State.setStream_power (s : State) (n : Nat) (x : Stream) : (s.setStream n x).power = s.power := rfl
@[simp] theorem State.setStream_faults (s : State) (n : Nat) (x : Stream) : (s.setStream n x).faults = s.faults := rfl

@[simp] theorem State.setStore_pending (s : State) (t : Nat) (x : KvStore) : (s.setStore t x).pending = s.pending := rfl
@[simp] theorem State.setStore_now (s : State) (t : Nat) (x : KvStore) : (s.setStore t x).now = s.now := rfl
@[simp] theorem State.setStore_ftc (s : State) (t : Nat) (x : KvStore) : (s.setStore t x).ftc = s.ftc := rfl
@[simp] theorem State.setStore_out (s : State) (t : Nat) (x : KvStore) : (s.setStore t x).out = s.out := rfl
@[simp] theorem State.setStore_freeCounter (s : State) (t : Nat) (x : KvStore) : (s.setStore t x).freeCounter = s.freeCounter := rfl
@[simp] theorem State.setStore_chip (s : State) (t : Nat) (x : KvStore) : (s.setStore t x).chip = s.chip := rfl
@[simp] theorem State.setStore_dict (s : State) (t : Nat) (x : KvStore) : (s.setStore t x).dict = s.dict := rfl
@[simp] theorem State.setStore_csr (s : State) (t : Nat) (x : KvStore) : (s.setStore t x).csr = s.csr := rfl
@[simp] theorem State.setStore_mem (s : State) (t : Nat) (x : KvStore) : (s.setStore t x).mem = s.mem := rfl
@[simp] theorem State.setStore_sram (s : State) (t : Nat) (x : KvStore) : (s.setStore t x).sram = s.sram := rfl
@[simp] theorem State.setStore_remote (s : State) (t : Nat) (x : KvStore) : (s.setStore t x).remote = s.remote := rfl
@[simp] theorem State.setStore_plans (s : State) (t : Nat) (x : KvStore) : (s.setStore t x).plans = s.plans := rfl
@[simp] theorem State.setStore_florets (s : State) (t : Nat) (x : KvStore) : (s.setStore t x).florets = s.florets := rfl
@[simp] theorem State.setStore_hcu (s : State) (t : Nat) (x : KvStore) : (s.setStore t x).hcu = s.hcu := rfl
@[simp] theorem State.setStore_sw (s : State) (t : Nat) (x : KvStore) : (s.setStore t x).sw = s.sw := rfl
@[simp] theorem State.setStore_traffic (s : State) (t : Nat) (x : KvStore) : (s.setStore t x).traffic = s.traffic := rfl
@[simp] theorem State.setStore_pool (s : State) (t : Nat) (x : KvStore) : (s.setStore t x).pool = s.pool := rfl
@[simp] theorem State.setStore_coh (s : State) (t : Nat) (x : KvStore) : (s.setStore t x).coh = s.coh := rfl
@[simp] theorem State.setStore_cz (s : State) (t : Nat) (x : KvStore) : (s.setStore t x).cz = s.cz := rfl
@[simp] theorem State.setStore_meadow (s : State) (t : Nat) (x : KvStore) : (s.setStore t x).meadow = s.meadow := rfl
@[simp] theorem State.setStore_sec (s : State) (t : Nat) (x : KvStore) : (s.setStore t x).sec = s.sec := rfl
@[simp] theorem State.setStore_links (s : State) (t : Nat) (x : KvStore) : (s.setStore t x).links = s.links := rfl
@[simp] theorem State.setStore_mgmt (s : State) (t : Nat) (x : KvStore) : (s.setStore t x).mgmt = s.mgmt := rfl
@[simp] theorem State.setStore_power (s : State) (t : Nat) (x : KvStore) : (s.setStore t x).power = s.power := rfl
@[simp] theorem State.setStore_faults (s : State) (t : Nat) (x : KvStore) : (s.setStore t x).faults = s.faults := rfl

@[simp] theorem State.setSession_pending (s : State) (x : KvSession) : (s.setSession x).pending = s.pending := rfl
@[simp] theorem State.setSession_now (s : State) (x : KvSession) : (s.setSession x).now = s.now := rfl
@[simp] theorem State.setSession_ftc (s : State) (x : KvSession) : (s.setSession x).ftc = s.ftc := rfl
@[simp] theorem State.setSession_out (s : State) (x : KvSession) : (s.setSession x).out = s.out := rfl
@[simp] theorem State.setSession_freeCounter (s : State) (x : KvSession) : (s.setSession x).freeCounter = s.freeCounter := rfl
@[simp] theorem State.setSession_chip (s : State) (x : KvSession) : (s.setSession x).chip = s.chip := rfl
@[simp] theorem State.setSession_dict (s : State) (x : KvSession) : (s.setSession x).dict = s.dict := rfl
@[simp] theorem State.setSession_csr (s : State) (x : KvSession) : (s.setSession x).csr = s.csr := rfl
@[simp] theorem State.setSession_mem (s : State) (x : KvSession) : (s.setSession x).mem = s.mem := rfl
@[simp] theorem State.setSession_sram (s : State) (x : KvSession) : (s.setSession x).sram = s.sram := rfl
@[simp] theorem State.setSession_remote (s : State) (x : KvSession) : (s.setSession x).remote = s.remote := rfl
@[simp] theorem State.setSession_plans (s : State) (x : KvSession) : (s.setSession x).plans = s.plans := rfl
@[simp] theorem State.setSession_florets (s : State) (x : KvSession) : (s.setSession x).florets = s.florets := rfl
@[simp] theorem State.setSession_hcu (s : State) (x : KvSession) : (s.setSession x).hcu = s.hcu := rfl
@[simp] theorem State.setSession_sw (s : State) (x : KvSession) : (s.setSession x).sw = s.sw := rfl
@[simp] theorem State.setSession_traffic (s : State) (x : KvSession) : (s.setSession x).traffic = s.traffic := rfl
@[simp] theorem State.setSession_pool (s : State) (x : KvSession) : (s.setSession x).pool = s.pool := rfl
@[simp] theorem State.setSession_coh (s : State) (x : KvSession) : (s.setSession x).coh = s.coh := rfl
@[simp] theorem State.setSession_cz (s : State) (x : KvSession) : (s.setSession x).cz = s.cz := rfl
@[simp] theorem State.setSession_meadow (s : State) (x : KvSession) : (s.setSession x).meadow = s.meadow := rfl
@[simp] theorem State.setSession_sec (s : State) (x : KvSession) : (s.setSession x).sec = s.sec := rfl
@[simp] theorem State.setSession_links (s : State) (x : KvSession) : (s.setSession x).links = s.links := rfl
@[simp] theorem State.setSession_mgmt (s : State) (x : KvSession) : (s.setSession x).mgmt = s.mgmt := rfl
@[simp] theorem State.setSession_power (s : State) (x : KvSession) : (s.setSession x).power = s.power := rfl
@[simp] theorem State.setSession_faults (s : State) (x : KvSession) : (s.setSession x).faults = s.faults := rfl

@[simp] theorem State.setAttend_pending (s : State) (a : Attend) : (s.setAttend a).pending = s.pending := rfl
@[simp] theorem State.setAttend_now (s : State) (a : Attend) : (s.setAttend a).now = s.now := rfl
@[simp] theorem State.setAttend_ftc (s : State) (a : Attend) : (s.setAttend a).ftc = s.ftc := rfl
@[simp] theorem State.setAttend_out (s : State) (a : Attend) : (s.setAttend a).out = s.out := rfl
@[simp] theorem State.setAttend_freeCounter (s : State) (a : Attend) : (s.setAttend a).freeCounter = s.freeCounter := rfl
@[simp] theorem State.setAttend_chip (s : State) (a : Attend) : (s.setAttend a).chip = s.chip := rfl
@[simp] theorem State.setAttend_dict (s : State) (a : Attend) : (s.setAttend a).dict = s.dict := rfl
@[simp] theorem State.setAttend_csr (s : State) (a : Attend) : (s.setAttend a).csr = s.csr := rfl
@[simp] theorem State.setAttend_mem (s : State) (a : Attend) : (s.setAttend a).mem = s.mem := rfl
@[simp] theorem State.setAttend_sram (s : State) (a : Attend) : (s.setAttend a).sram = s.sram := rfl
@[simp] theorem State.setAttend_remote (s : State) (a : Attend) : (s.setAttend a).remote = s.remote := rfl
@[simp] theorem State.setAttend_plans (s : State) (a : Attend) : (s.setAttend a).plans = s.plans := rfl
@[simp] theorem State.setAttend_florets (s : State) (a : Attend) : (s.setAttend a).florets = s.florets := rfl
@[simp] theorem State.setAttend_hcu (s : State) (a : Attend) : (s.setAttend a).hcu = s.hcu := rfl
@[simp] theorem State.setAttend_sw (s : State) (a : Attend) : (s.setAttend a).sw = s.sw := rfl
@[simp] theorem State.setAttend_traffic (s : State) (a : Attend) : (s.setAttend a).traffic = s.traffic := rfl
@[simp] theorem State.setAttend_pool (s : State) (a : Attend) : (s.setAttend a).pool = s.pool := rfl
@[simp] theorem State.setAttend_coh (s : State) (a : Attend) : (s.setAttend a).coh = s.coh := rfl
@[simp] theorem State.setAttend_cz (s : State) (a : Attend) : (s.setAttend a).cz = s.cz := rfl
@[simp] theorem State.setAttend_meadow (s : State) (a : Attend) : (s.setAttend a).meadow = s.meadow := rfl
@[simp] theorem State.setAttend_sec (s : State) (a : Attend) : (s.setAttend a).sec = s.sec := rfl
@[simp] theorem State.setAttend_links (s : State) (a : Attend) : (s.setAttend a).links = s.links := rfl
@[simp] theorem State.setAttend_mgmt (s : State) (a : Attend) : (s.setAttend a).mgmt = s.mgmt := rfl
@[simp] theorem State.setAttend_power (s : State) (a : Attend) : (s.setAttend a).power = s.power := rfl
@[simp] theorem State.setAttend_faults (s : State) (a : Attend) : (s.setAttend a).faults = s.faults := rfl

@[simp] theorem State.setVindex_pending (s : State) (n : Nat) (x : VIndex) : (s.setVindex n x).pending = s.pending := rfl
@[simp] theorem State.setVindex_now (s : State) (n : Nat) (x : VIndex) : (s.setVindex n x).now = s.now := rfl
@[simp] theorem State.setVindex_ftc (s : State) (n : Nat) (x : VIndex) : (s.setVindex n x).ftc = s.ftc := rfl
@[simp] theorem State.setVindex_out (s : State) (n : Nat) (x : VIndex) : (s.setVindex n x).out = s.out := rfl
@[simp] theorem State.setVindex_freeCounter (s : State) (n : Nat) (x : VIndex) : (s.setVindex n x).freeCounter = s.freeCounter := rfl
@[simp] theorem State.setVindex_chip (s : State) (n : Nat) (x : VIndex) : (s.setVindex n x).chip = s.chip := rfl
@[simp] theorem State.setVindex_dict (s : State) (n : Nat) (x : VIndex) : (s.setVindex n x).dict = s.dict := rfl
@[simp] theorem State.setVindex_csr (s : State) (n : Nat) (x : VIndex) : (s.setVindex n x).csr = s.csr := rfl
@[simp] theorem State.setVindex_mem (s : State) (n : Nat) (x : VIndex) : (s.setVindex n x).mem = s.mem := rfl
@[simp] theorem State.setVindex_sram (s : State) (n : Nat) (x : VIndex) : (s.setVindex n x).sram = s.sram := rfl
@[simp] theorem State.setVindex_remote (s : State) (n : Nat) (x : VIndex) : (s.setVindex n x).remote = s.remote := rfl
@[simp] theorem State.setVindex_plans (s : State) (n : Nat) (x : VIndex) : (s.setVindex n x).plans = s.plans := rfl
@[simp] theorem State.setVindex_florets (s : State) (n : Nat) (x : VIndex) : (s.setVindex n x).florets = s.florets := rfl
@[simp] theorem State.setVindex_hcu (s : State) (n : Nat) (x : VIndex) : (s.setVindex n x).hcu = s.hcu := rfl
@[simp] theorem State.setVindex_sw (s : State) (n : Nat) (x : VIndex) : (s.setVindex n x).sw = s.sw := rfl
@[simp] theorem State.setVindex_traffic (s : State) (n : Nat) (x : VIndex) : (s.setVindex n x).traffic = s.traffic := rfl
@[simp] theorem State.setVindex_pool (s : State) (n : Nat) (x : VIndex) : (s.setVindex n x).pool = s.pool := rfl
@[simp] theorem State.setVindex_kv (s : State) (n : Nat) (x : VIndex) : (s.setVindex n x).kv = s.kv := rfl
@[simp] theorem State.setVindex_coh (s : State) (n : Nat) (x : VIndex) : (s.setVindex n x).coh = s.coh := rfl
@[simp] theorem State.setVindex_cz (s : State) (n : Nat) (x : VIndex) : (s.setVindex n x).cz = s.cz := rfl
@[simp] theorem State.setVindex_sec (s : State) (n : Nat) (x : VIndex) : (s.setVindex n x).sec = s.sec := rfl
@[simp] theorem State.setVindex_links (s : State) (n : Nat) (x : VIndex) : (s.setVindex n x).links = s.links := rfl
@[simp] theorem State.setVindex_mgmt (s : State) (n : Nat) (x : VIndex) : (s.setVindex n x).mgmt = s.mgmt := rfl
@[simp] theorem State.setVindex_power (s : State) (n : Nat) (x : VIndex) : (s.setVindex n x).power = s.power := rfl
@[simp] theorem State.setVindex_faults (s : State) (n : Nat) (x : VIndex) : (s.setVindex n x).faults = s.faults := rfl

@[simp] theorem State.setVquery_pending (s : State) (q : VQuery) : (s.setVquery q).pending = s.pending := rfl
@[simp] theorem State.setVquery_now (s : State) (q : VQuery) : (s.setVquery q).now = s.now := rfl
@[simp] theorem State.setVquery_ftc (s : State) (q : VQuery) : (s.setVquery q).ftc = s.ftc := rfl
@[simp] theorem State.setVquery_out (s : State) (q : VQuery) : (s.setVquery q).out = s.out := rfl
@[simp] theorem State.setVquery_freeCounter (s : State) (q : VQuery) : (s.setVquery q).freeCounter = s.freeCounter := rfl
@[simp] theorem State.setVquery_chip (s : State) (q : VQuery) : (s.setVquery q).chip = s.chip := rfl
@[simp] theorem State.setVquery_dict (s : State) (q : VQuery) : (s.setVquery q).dict = s.dict := rfl
@[simp] theorem State.setVquery_csr (s : State) (q : VQuery) : (s.setVquery q).csr = s.csr := rfl
@[simp] theorem State.setVquery_mem (s : State) (q : VQuery) : (s.setVquery q).mem = s.mem := rfl
@[simp] theorem State.setVquery_sram (s : State) (q : VQuery) : (s.setVquery q).sram = s.sram := rfl
@[simp] theorem State.setVquery_remote (s : State) (q : VQuery) : (s.setVquery q).remote = s.remote := rfl
@[simp] theorem State.setVquery_plans (s : State) (q : VQuery) : (s.setVquery q).plans = s.plans := rfl
@[simp] theorem State.setVquery_florets (s : State) (q : VQuery) : (s.setVquery q).florets = s.florets := rfl
@[simp] theorem State.setVquery_hcu (s : State) (q : VQuery) : (s.setVquery q).hcu = s.hcu := rfl
@[simp] theorem State.setVquery_sw (s : State) (q : VQuery) : (s.setVquery q).sw = s.sw := rfl
@[simp] theorem State.setVquery_traffic (s : State) (q : VQuery) : (s.setVquery q).traffic = s.traffic := rfl
@[simp] theorem State.setVquery_pool (s : State) (q : VQuery) : (s.setVquery q).pool = s.pool := rfl
@[simp] theorem State.setVquery_kv (s : State) (q : VQuery) : (s.setVquery q).kv = s.kv := rfl
@[simp] theorem State.setVquery_coh (s : State) (q : VQuery) : (s.setVquery q).coh = s.coh := rfl
@[simp] theorem State.setVquery_cz (s : State) (q : VQuery) : (s.setVquery q).cz = s.cz := rfl
@[simp] theorem State.setVquery_sec (s : State) (q : VQuery) : (s.setVquery q).sec = s.sec := rfl
@[simp] theorem State.setVquery_links (s : State) (q : VQuery) : (s.setVquery q).links = s.links := rfl
@[simp] theorem State.setVquery_mgmt (s : State) (q : VQuery) : (s.setVquery q).mgmt = s.mgmt := rfl
@[simp] theorem State.setVquery_power (s : State) (q : VQuery) : (s.setVquery q).power = s.power := rfl
@[simp] theorem State.setVquery_faults (s : State) (q : VQuery) : (s.setVquery q).faults = s.faults := rfl

@[simp] theorem State.setTenant_pending (s : State) (t : Nat) (x : Tenant) : (s.setTenant t x).pending = s.pending := rfl
@[simp] theorem State.setTenant_now (s : State) (t : Nat) (x : Tenant) : (s.setTenant t x).now = s.now := rfl
@[simp] theorem State.setTenant_ftc (s : State) (t : Nat) (x : Tenant) : (s.setTenant t x).ftc = s.ftc := rfl
@[simp] theorem State.setTenant_out (s : State) (t : Nat) (x : Tenant) : (s.setTenant t x).out = s.out := rfl
@[simp] theorem State.setTenant_freeCounter (s : State) (t : Nat) (x : Tenant) : (s.setTenant t x).freeCounter = s.freeCounter := rfl
@[simp] theorem State.setTenant_chip (s : State) (t : Nat) (x : Tenant) : (s.setTenant t x).chip = s.chip := rfl
@[simp] theorem State.setTenant_dict (s : State) (t : Nat) (x : Tenant) : (s.setTenant t x).dict = s.dict := rfl
@[simp] theorem State.setTenant_csr (s : State) (t : Nat) (x : Tenant) : (s.setTenant t x).csr = s.csr := rfl
@[simp] theorem State.setTenant_mem (s : State) (t : Nat) (x : Tenant) : (s.setTenant t x).mem = s.mem := rfl
@[simp] theorem State.setTenant_sram (s : State) (t : Nat) (x : Tenant) : (s.setTenant t x).sram = s.sram := rfl
@[simp] theorem State.setTenant_remote (s : State) (t : Nat) (x : Tenant) : (s.setTenant t x).remote = s.remote := rfl
@[simp] theorem State.setTenant_plans (s : State) (t : Nat) (x : Tenant) : (s.setTenant t x).plans = s.plans := rfl
@[simp] theorem State.setTenant_florets (s : State) (t : Nat) (x : Tenant) : (s.setTenant t x).florets = s.florets := rfl
@[simp] theorem State.setTenant_hcu (s : State) (t : Nat) (x : Tenant) : (s.setTenant t x).hcu = s.hcu := rfl
@[simp] theorem State.setTenant_sw (s : State) (t : Nat) (x : Tenant) : (s.setTenant t x).sw = s.sw := rfl
@[simp] theorem State.setTenant_traffic (s : State) (t : Nat) (x : Tenant) : (s.setTenant t x).traffic = s.traffic := rfl
@[simp] theorem State.setTenant_pool (s : State) (t : Nat) (x : Tenant) : (s.setTenant t x).pool = s.pool := rfl
@[simp] theorem State.setTenant_kv (s : State) (t : Nat) (x : Tenant) : (s.setTenant t x).kv = s.kv := rfl
@[simp] theorem State.setTenant_coh (s : State) (t : Nat) (x : Tenant) : (s.setTenant t x).coh = s.coh := rfl
@[simp] theorem State.setTenant_cz (s : State) (t : Nat) (x : Tenant) : (s.setTenant t x).cz = s.cz := rfl
@[simp] theorem State.setTenant_meadow (s : State) (t : Nat) (x : Tenant) : (s.setTenant t x).meadow = s.meadow := rfl
@[simp] theorem State.setTenant_links (s : State) (t : Nat) (x : Tenant) : (s.setTenant t x).links = s.links := rfl
@[simp] theorem State.setTenant_mgmt (s : State) (t : Nat) (x : Tenant) : (s.setTenant t x).mgmt = s.mgmt := rfl
@[simp] theorem State.setTenant_power (s : State) (t : Nat) (x : Tenant) : (s.setTenant t x).power = s.power := rfl
@[simp] theorem State.setTenant_faults (s : State) (t : Nat) (x : Tenant) : (s.setTenant t x).faults = s.faults := rfl

@[simp] theorem State.setCrypt_pending (s : State) (p : Nat) (c : PortCrypt) : (s.setCrypt p c).pending = s.pending := rfl
@[simp] theorem State.setCrypt_now (s : State) (p : Nat) (c : PortCrypt) : (s.setCrypt p c).now = s.now := rfl
@[simp] theorem State.setCrypt_ftc (s : State) (p : Nat) (c : PortCrypt) : (s.setCrypt p c).ftc = s.ftc := rfl
@[simp] theorem State.setCrypt_out (s : State) (p : Nat) (c : PortCrypt) : (s.setCrypt p c).out = s.out := rfl
@[simp] theorem State.setCrypt_freeCounter (s : State) (p : Nat) (c : PortCrypt) : (s.setCrypt p c).freeCounter = s.freeCounter := rfl
@[simp] theorem State.setCrypt_chip (s : State) (p : Nat) (c : PortCrypt) : (s.setCrypt p c).chip = s.chip := rfl
@[simp] theorem State.setCrypt_dict (s : State) (p : Nat) (c : PortCrypt) : (s.setCrypt p c).dict = s.dict := rfl
@[simp] theorem State.setCrypt_csr (s : State) (p : Nat) (c : PortCrypt) : (s.setCrypt p c).csr = s.csr := rfl
@[simp] theorem State.setCrypt_mem (s : State) (p : Nat) (c : PortCrypt) : (s.setCrypt p c).mem = s.mem := rfl
@[simp] theorem State.setCrypt_sram (s : State) (p : Nat) (c : PortCrypt) : (s.setCrypt p c).sram = s.sram := rfl
@[simp] theorem State.setCrypt_remote (s : State) (p : Nat) (c : PortCrypt) : (s.setCrypt p c).remote = s.remote := rfl
@[simp] theorem State.setCrypt_plans (s : State) (p : Nat) (c : PortCrypt) : (s.setCrypt p c).plans = s.plans := rfl
@[simp] theorem State.setCrypt_florets (s : State) (p : Nat) (c : PortCrypt) : (s.setCrypt p c).florets = s.florets := rfl
@[simp] theorem State.setCrypt_hcu (s : State) (p : Nat) (c : PortCrypt) : (s.setCrypt p c).hcu = s.hcu := rfl
@[simp] theorem State.setCrypt_sw (s : State) (p : Nat) (c : PortCrypt) : (s.setCrypt p c).sw = s.sw := rfl
@[simp] theorem State.setCrypt_traffic (s : State) (p : Nat) (c : PortCrypt) : (s.setCrypt p c).traffic = s.traffic := rfl
@[simp] theorem State.setCrypt_pool (s : State) (p : Nat) (c : PortCrypt) : (s.setCrypt p c).pool = s.pool := rfl
@[simp] theorem State.setCrypt_kv (s : State) (p : Nat) (c : PortCrypt) : (s.setCrypt p c).kv = s.kv := rfl
@[simp] theorem State.setCrypt_coh (s : State) (p : Nat) (c : PortCrypt) : (s.setCrypt p c).coh = s.coh := rfl
@[simp] theorem State.setCrypt_cz (s : State) (p : Nat) (c : PortCrypt) : (s.setCrypt p c).cz = s.cz := rfl
@[simp] theorem State.setCrypt_meadow (s : State) (p : Nat) (c : PortCrypt) : (s.setCrypt p c).meadow = s.meadow := rfl
@[simp] theorem State.setCrypt_links (s : State) (p : Nat) (c : PortCrypt) : (s.setCrypt p c).links = s.links := rfl
@[simp] theorem State.setCrypt_mgmt (s : State) (p : Nat) (c : PortCrypt) : (s.setCrypt p c).mgmt = s.mgmt := rfl
@[simp] theorem State.setCrypt_power (s : State) (p : Nat) (c : PortCrypt) : (s.setCrypt p c).power = s.power := rfl
@[simp] theorem State.setCrypt_faults (s : State) (p : Nat) (c : PortCrypt) : (s.setCrypt p c).faults = s.faults := rfl

@[simp] theorem State.setBank_pending (s : State) (b : Nat) (x : Bank) : (s.setBank b x).pending = s.pending := rfl
@[simp] theorem State.setBank_now (s : State) (b : Nat) (x : Bank) : (s.setBank b x).now = s.now := rfl
@[simp] theorem State.setBank_ftc (s : State) (b : Nat) (x : Bank) : (s.setBank b x).ftc = s.ftc := rfl
@[simp] theorem State.setBank_out (s : State) (b : Nat) (x : Bank) : (s.setBank b x).out = s.out := rfl
@[simp] theorem State.setBank_freeCounter (s : State) (b : Nat) (x : Bank) : (s.setBank b x).freeCounter = s.freeCounter := rfl
@[simp] theorem State.setBank_chip (s : State) (b : Nat) (x : Bank) : (s.setBank b x).chip = s.chip := rfl
@[simp] theorem State.setBank_dict (s : State) (b : Nat) (x : Bank) : (s.setBank b x).dict = s.dict := rfl
@[simp] theorem State.setBank_csr (s : State) (b : Nat) (x : Bank) : (s.setBank b x).csr = s.csr := rfl
@[simp] theorem State.setBank_mem (s : State) (b : Nat) (x : Bank) : (s.setBank b x).mem = s.mem := rfl
@[simp] theorem State.setBank_sram (s : State) (b : Nat) (x : Bank) : (s.setBank b x).sram = s.sram := rfl
@[simp] theorem State.setBank_remote (s : State) (b : Nat) (x : Bank) : (s.setBank b x).remote = s.remote := rfl
@[simp] theorem State.setBank_plans (s : State) (b : Nat) (x : Bank) : (s.setBank b x).plans = s.plans := rfl
@[simp] theorem State.setBank_florets (s : State) (b : Nat) (x : Bank) : (s.setBank b x).florets = s.florets := rfl
@[simp] theorem State.setBank_hcu (s : State) (b : Nat) (x : Bank) : (s.setBank b x).hcu = s.hcu := rfl
@[simp] theorem State.setBank_sw (s : State) (b : Nat) (x : Bank) : (s.setBank b x).sw = s.sw := rfl
@[simp] theorem State.setBank_traffic (s : State) (b : Nat) (x : Bank) : (s.setBank b x).traffic = s.traffic := rfl
@[simp] theorem State.setBank_pool (s : State) (b : Nat) (x : Bank) : (s.setBank b x).pool = s.pool := rfl
@[simp] theorem State.setBank_kv (s : State) (b : Nat) (x : Bank) : (s.setBank b x).kv = s.kv := rfl
@[simp] theorem State.setBank_coh (s : State) (b : Nat) (x : Bank) : (s.setBank b x).coh = s.coh := rfl
@[simp] theorem State.setBank_cz (s : State) (b : Nat) (x : Bank) : (s.setBank b x).cz = s.cz := rfl
@[simp] theorem State.setBank_meadow (s : State) (b : Nat) (x : Bank) : (s.setBank b x).meadow = s.meadow := rfl
@[simp] theorem State.setBank_links (s : State) (b : Nat) (x : Bank) : (s.setBank b x).links = s.links := rfl
@[simp] theorem State.setBank_mgmt (s : State) (b : Nat) (x : Bank) : (s.setBank b x).mgmt = s.mgmt := rfl
@[simp] theorem State.setBank_power (s : State) (b : Nat) (x : Bank) : (s.setBank b x).power = s.power := rfl
@[simp] theorem State.setBank_faults (s : State) (b : Nat) (x : Bank) : (s.setBank b x).faults = s.faults := rfl

@[simp] theorem State.setKey_pending (s : State) (slot : Nat) (k : Option ModelKey) : (s.setKey slot k).pending = s.pending := rfl
@[simp] theorem State.setKey_now (s : State) (slot : Nat) (k : Option ModelKey) : (s.setKey slot k).now = s.now := rfl
@[simp] theorem State.setKey_ftc (s : State) (slot : Nat) (k : Option ModelKey) : (s.setKey slot k).ftc = s.ftc := rfl
@[simp] theorem State.setKey_out (s : State) (slot : Nat) (k : Option ModelKey) : (s.setKey slot k).out = s.out := rfl
@[simp] theorem State.setKey_freeCounter (s : State) (slot : Nat) (k : Option ModelKey) : (s.setKey slot k).freeCounter = s.freeCounter := rfl
@[simp] theorem State.setKey_chip (s : State) (slot : Nat) (k : Option ModelKey) : (s.setKey slot k).chip = s.chip := rfl
@[simp] theorem State.setKey_dict (s : State) (slot : Nat) (k : Option ModelKey) : (s.setKey slot k).dict = s.dict := rfl
@[simp] theorem State.setKey_csr (s : State) (slot : Nat) (k : Option ModelKey) : (s.setKey slot k).csr = s.csr := rfl
@[simp] theorem State.setKey_mem (s : State) (slot : Nat) (k : Option ModelKey) : (s.setKey slot k).mem = s.mem := rfl
@[simp] theorem State.setKey_sram (s : State) (slot : Nat) (k : Option ModelKey) : (s.setKey slot k).sram = s.sram := rfl
@[simp] theorem State.setKey_remote (s : State) (slot : Nat) (k : Option ModelKey) : (s.setKey slot k).remote = s.remote := rfl
@[simp] theorem State.setKey_plans (s : State) (slot : Nat) (k : Option ModelKey) : (s.setKey slot k).plans = s.plans := rfl
@[simp] theorem State.setKey_florets (s : State) (slot : Nat) (k : Option ModelKey) : (s.setKey slot k).florets = s.florets := rfl
@[simp] theorem State.setKey_hcu (s : State) (slot : Nat) (k : Option ModelKey) : (s.setKey slot k).hcu = s.hcu := rfl
@[simp] theorem State.setKey_sw (s : State) (slot : Nat) (k : Option ModelKey) : (s.setKey slot k).sw = s.sw := rfl
@[simp] theorem State.setKey_traffic (s : State) (slot : Nat) (k : Option ModelKey) : (s.setKey slot k).traffic = s.traffic := rfl
@[simp] theorem State.setKey_pool (s : State) (slot : Nat) (k : Option ModelKey) : (s.setKey slot k).pool = s.pool := rfl
@[simp] theorem State.setKey_kv (s : State) (slot : Nat) (k : Option ModelKey) : (s.setKey slot k).kv = s.kv := rfl
@[simp] theorem State.setKey_coh (s : State) (slot : Nat) (k : Option ModelKey) : (s.setKey slot k).coh = s.coh := rfl
@[simp] theorem State.setKey_cz (s : State) (slot : Nat) (k : Option ModelKey) : (s.setKey slot k).cz = s.cz := rfl
@[simp] theorem State.setKey_meadow (s : State) (slot : Nat) (k : Option ModelKey) : (s.setKey slot k).meadow = s.meadow := rfl
@[simp] theorem State.setKey_links (s : State) (slot : Nat) (k : Option ModelKey) : (s.setKey slot k).links = s.links := rfl
@[simp] theorem State.setKey_mgmt (s : State) (slot : Nat) (k : Option ModelKey) : (s.setKey slot k).mgmt = s.mgmt := rfl
@[simp] theorem State.setKey_power (s : State) (slot : Nat) (k : Option ModelKey) : (s.setKey slot k).power = s.power := rfl
@[simp] theorem State.setKey_faults (s : State) (slot : Nat) (k : Option ModelKey) : (s.setKey slot k).faults = s.faults := rfl

@[simp] theorem State.setGate_pending (s : State) (p : Nat) (g : Gate) : (s.setGate p g).pending = s.pending := rfl
@[simp] theorem State.setGate_now (s : State) (p : Nat) (g : Gate) : (s.setGate p g).now = s.now := rfl
@[simp] theorem State.setGate_ftc (s : State) (p : Nat) (g : Gate) : (s.setGate p g).ftc = s.ftc := rfl
@[simp] theorem State.setGate_out (s : State) (p : Nat) (g : Gate) : (s.setGate p g).out = s.out := rfl
@[simp] theorem State.setGate_freeCounter (s : State) (p : Nat) (g : Gate) : (s.setGate p g).freeCounter = s.freeCounter := rfl
@[simp] theorem State.setGate_chip (s : State) (p : Nat) (g : Gate) : (s.setGate p g).chip = s.chip := rfl
@[simp] theorem State.setGate_dict (s : State) (p : Nat) (g : Gate) : (s.setGate p g).dict = s.dict := rfl
@[simp] theorem State.setGate_csr (s : State) (p : Nat) (g : Gate) : (s.setGate p g).csr = s.csr := rfl
@[simp] theorem State.setGate_mem (s : State) (p : Nat) (g : Gate) : (s.setGate p g).mem = s.mem := rfl
@[simp] theorem State.setGate_sram (s : State) (p : Nat) (g : Gate) : (s.setGate p g).sram = s.sram := rfl
@[simp] theorem State.setGate_remote (s : State) (p : Nat) (g : Gate) : (s.setGate p g).remote = s.remote := rfl
@[simp] theorem State.setGate_plans (s : State) (p : Nat) (g : Gate) : (s.setGate p g).plans = s.plans := rfl
@[simp] theorem State.setGate_florets (s : State) (p : Nat) (g : Gate) : (s.setGate p g).florets = s.florets := rfl
@[simp] theorem State.setGate_hcu (s : State) (p : Nat) (g : Gate) : (s.setGate p g).hcu = s.hcu := rfl
@[simp] theorem State.setGate_sw (s : State) (p : Nat) (g : Gate) : (s.setGate p g).sw = s.sw := rfl
@[simp] theorem State.setGate_pool (s : State) (p : Nat) (g : Gate) : (s.setGate p g).pool = s.pool := rfl
@[simp] theorem State.setGate_kv (s : State) (p : Nat) (g : Gate) : (s.setGate p g).kv = s.kv := rfl
@[simp] theorem State.setGate_coh (s : State) (p : Nat) (g : Gate) : (s.setGate p g).coh = s.coh := rfl
@[simp] theorem State.setGate_cz (s : State) (p : Nat) (g : Gate) : (s.setGate p g).cz = s.cz := rfl
@[simp] theorem State.setGate_meadow (s : State) (p : Nat) (g : Gate) : (s.setGate p g).meadow = s.meadow := rfl
@[simp] theorem State.setGate_sec (s : State) (p : Nat) (g : Gate) : (s.setGate p g).sec = s.sec := rfl
@[simp] theorem State.setGate_links (s : State) (p : Nat) (g : Gate) : (s.setGate p g).links = s.links := rfl
@[simp] theorem State.setGate_mgmt (s : State) (p : Nat) (g : Gate) : (s.setGate p g).mgmt = s.mgmt := rfl
@[simp] theorem State.setGate_power (s : State) (p : Nat) (g : Gate) : (s.setGate p g).power = s.power := rfl
@[simp] theorem State.setGate_faults (s : State) (p : Nat) (g : Gate) : (s.setGate p g).faults = s.faults := rfl

@[simp] theorem State.setGateEntry_pending (s : State) (p e : Nat) (x : GateEntry) : (s.setGateEntry p e x).pending = s.pending := rfl
@[simp] theorem State.setGateEntry_now (s : State) (p e : Nat) (x : GateEntry) : (s.setGateEntry p e x).now = s.now := rfl
@[simp] theorem State.setGateEntry_ftc (s : State) (p e : Nat) (x : GateEntry) : (s.setGateEntry p e x).ftc = s.ftc := rfl
@[simp] theorem State.setGateEntry_out (s : State) (p e : Nat) (x : GateEntry) : (s.setGateEntry p e x).out = s.out := rfl
@[simp] theorem State.setGateEntry_freeCounter (s : State) (p e : Nat) (x : GateEntry) : (s.setGateEntry p e x).freeCounter = s.freeCounter := rfl
@[simp] theorem State.setGateEntry_chip (s : State) (p e : Nat) (x : GateEntry) : (s.setGateEntry p e x).chip = s.chip := rfl
@[simp] theorem State.setGateEntry_dict (s : State) (p e : Nat) (x : GateEntry) : (s.setGateEntry p e x).dict = s.dict := rfl
@[simp] theorem State.setGateEntry_csr (s : State) (p e : Nat) (x : GateEntry) : (s.setGateEntry p e x).csr = s.csr := rfl
@[simp] theorem State.setGateEntry_mem (s : State) (p e : Nat) (x : GateEntry) : (s.setGateEntry p e x).mem = s.mem := rfl
@[simp] theorem State.setGateEntry_sram (s : State) (p e : Nat) (x : GateEntry) : (s.setGateEntry p e x).sram = s.sram := rfl
@[simp] theorem State.setGateEntry_remote (s : State) (p e : Nat) (x : GateEntry) : (s.setGateEntry p e x).remote = s.remote := rfl
@[simp] theorem State.setGateEntry_plans (s : State) (p e : Nat) (x : GateEntry) : (s.setGateEntry p e x).plans = s.plans := rfl
@[simp] theorem State.setGateEntry_florets (s : State) (p e : Nat) (x : GateEntry) : (s.setGateEntry p e x).florets = s.florets := rfl
@[simp] theorem State.setGateEntry_hcu (s : State) (p e : Nat) (x : GateEntry) : (s.setGateEntry p e x).hcu = s.hcu := rfl
@[simp] theorem State.setGateEntry_sw (s : State) (p e : Nat) (x : GateEntry) : (s.setGateEntry p e x).sw = s.sw := rfl
@[simp] theorem State.setGateEntry_pool (s : State) (p e : Nat) (x : GateEntry) : (s.setGateEntry p e x).pool = s.pool := rfl
@[simp] theorem State.setGateEntry_kv (s : State) (p e : Nat) (x : GateEntry) : (s.setGateEntry p e x).kv = s.kv := rfl
@[simp] theorem State.setGateEntry_coh (s : State) (p e : Nat) (x : GateEntry) : (s.setGateEntry p e x).coh = s.coh := rfl
@[simp] theorem State.setGateEntry_cz (s : State) (p e : Nat) (x : GateEntry) : (s.setGateEntry p e x).cz = s.cz := rfl
@[simp] theorem State.setGateEntry_meadow (s : State) (p e : Nat) (x : GateEntry) : (s.setGateEntry p e x).meadow = s.meadow := rfl
@[simp] theorem State.setGateEntry_sec (s : State) (p e : Nat) (x : GateEntry) : (s.setGateEntry p e x).sec = s.sec := rfl
@[simp] theorem State.setGateEntry_links (s : State) (p e : Nat) (x : GateEntry) : (s.setGateEntry p e x).links = s.links := rfl
@[simp] theorem State.setGateEntry_mgmt (s : State) (p e : Nat) (x : GateEntry) : (s.setGateEntry p e x).mgmt = s.mgmt := rfl
@[simp] theorem State.setGateEntry_power (s : State) (p e : Nat) (x : GateEntry) : (s.setGateEntry p e x).power = s.power := rfl
@[simp] theorem State.setGateEntry_faults (s : State) (p e : Nat) (x : GateEntry) : (s.setGateEntry p e x).faults = s.faults := rfl

@[simp] theorem State.setMbx_pending (s : State) (m : Nat) (x : Mailbox) : (s.setMbx m x).pending = s.pending := rfl
@[simp] theorem State.setMbx_now (s : State) (m : Nat) (x : Mailbox) : (s.setMbx m x).now = s.now := rfl
@[simp] theorem State.setMbx_ftc (s : State) (m : Nat) (x : Mailbox) : (s.setMbx m x).ftc = s.ftc := rfl
@[simp] theorem State.setMbx_out (s : State) (m : Nat) (x : Mailbox) : (s.setMbx m x).out = s.out := rfl
@[simp] theorem State.setMbx_freeCounter (s : State) (m : Nat) (x : Mailbox) : (s.setMbx m x).freeCounter = s.freeCounter := rfl
@[simp] theorem State.setMbx_chip (s : State) (m : Nat) (x : Mailbox) : (s.setMbx m x).chip = s.chip := rfl
@[simp] theorem State.setMbx_dict (s : State) (m : Nat) (x : Mailbox) : (s.setMbx m x).dict = s.dict := rfl
@[simp] theorem State.setMbx_csr (s : State) (m : Nat) (x : Mailbox) : (s.setMbx m x).csr = s.csr := rfl
@[simp] theorem State.setMbx_mem (s : State) (m : Nat) (x : Mailbox) : (s.setMbx m x).mem = s.mem := rfl
@[simp] theorem State.setMbx_sram (s : State) (m : Nat) (x : Mailbox) : (s.setMbx m x).sram = s.sram := rfl
@[simp] theorem State.setMbx_remote (s : State) (m : Nat) (x : Mailbox) : (s.setMbx m x).remote = s.remote := rfl
@[simp] theorem State.setMbx_plans (s : State) (m : Nat) (x : Mailbox) : (s.setMbx m x).plans = s.plans := rfl
@[simp] theorem State.setMbx_florets (s : State) (m : Nat) (x : Mailbox) : (s.setMbx m x).florets = s.florets := rfl
@[simp] theorem State.setMbx_hcu (s : State) (m : Nat) (x : Mailbox) : (s.setMbx m x).hcu = s.hcu := rfl
@[simp] theorem State.setMbx_sw (s : State) (m : Nat) (x : Mailbox) : (s.setMbx m x).sw = s.sw := rfl
@[simp] theorem State.setMbx_traffic (s : State) (m : Nat) (x : Mailbox) : (s.setMbx m x).traffic = s.traffic := rfl
@[simp] theorem State.setMbx_pool (s : State) (m : Nat) (x : Mailbox) : (s.setMbx m x).pool = s.pool := rfl
@[simp] theorem State.setMbx_kv (s : State) (m : Nat) (x : Mailbox) : (s.setMbx m x).kv = s.kv := rfl
@[simp] theorem State.setMbx_coh (s : State) (m : Nat) (x : Mailbox) : (s.setMbx m x).coh = s.coh := rfl
@[simp] theorem State.setMbx_cz (s : State) (m : Nat) (x : Mailbox) : (s.setMbx m x).cz = s.cz := rfl
@[simp] theorem State.setMbx_meadow (s : State) (m : Nat) (x : Mailbox) : (s.setMbx m x).meadow = s.meadow := rfl
@[simp] theorem State.setMbx_sec (s : State) (m : Nat) (x : Mailbox) : (s.setMbx m x).sec = s.sec := rfl
@[simp] theorem State.setMbx_links (s : State) (m : Nat) (x : Mailbox) : (s.setMbx m x).links = s.links := rfl
@[simp] theorem State.setMbx_power (s : State) (m : Nat) (x : Mailbox) : (s.setMbx m x).power = s.power := rfl
@[simp] theorem State.setMbx_faults (s : State) (m : Nat) (x : Mailbox) : (s.setMbx m x).faults = s.faults := rfl

@[simp] theorem State.setBus_pending (s : State) (b : Nat) (x : Bus) : (s.setBus b x).pending = s.pending := rfl
@[simp] theorem State.setBus_now (s : State) (b : Nat) (x : Bus) : (s.setBus b x).now = s.now := rfl
@[simp] theorem State.setBus_ftc (s : State) (b : Nat) (x : Bus) : (s.setBus b x).ftc = s.ftc := rfl
@[simp] theorem State.setBus_out (s : State) (b : Nat) (x : Bus) : (s.setBus b x).out = s.out := rfl
@[simp] theorem State.setBus_freeCounter (s : State) (b : Nat) (x : Bus) : (s.setBus b x).freeCounter = s.freeCounter := rfl
@[simp] theorem State.setBus_chip (s : State) (b : Nat) (x : Bus) : (s.setBus b x).chip = s.chip := rfl
@[simp] theorem State.setBus_dict (s : State) (b : Nat) (x : Bus) : (s.setBus b x).dict = s.dict := rfl
@[simp] theorem State.setBus_csr (s : State) (b : Nat) (x : Bus) : (s.setBus b x).csr = s.csr := rfl
@[simp] theorem State.setBus_mem (s : State) (b : Nat) (x : Bus) : (s.setBus b x).mem = s.mem := rfl
@[simp] theorem State.setBus_sram (s : State) (b : Nat) (x : Bus) : (s.setBus b x).sram = s.sram := rfl
@[simp] theorem State.setBus_remote (s : State) (b : Nat) (x : Bus) : (s.setBus b x).remote = s.remote := rfl
@[simp] theorem State.setBus_plans (s : State) (b : Nat) (x : Bus) : (s.setBus b x).plans = s.plans := rfl
@[simp] theorem State.setBus_florets (s : State) (b : Nat) (x : Bus) : (s.setBus b x).florets = s.florets := rfl
@[simp] theorem State.setBus_hcu (s : State) (b : Nat) (x : Bus) : (s.setBus b x).hcu = s.hcu := rfl
@[simp] theorem State.setBus_sw (s : State) (b : Nat) (x : Bus) : (s.setBus b x).sw = s.sw := rfl
@[simp] theorem State.setBus_traffic (s : State) (b : Nat) (x : Bus) : (s.setBus b x).traffic = s.traffic := rfl
@[simp] theorem State.setBus_pool (s : State) (b : Nat) (x : Bus) : (s.setBus b x).pool = s.pool := rfl
@[simp] theorem State.setBus_kv (s : State) (b : Nat) (x : Bus) : (s.setBus b x).kv = s.kv := rfl
@[simp] theorem State.setBus_coh (s : State) (b : Nat) (x : Bus) : (s.setBus b x).coh = s.coh := rfl
@[simp] theorem State.setBus_cz (s : State) (b : Nat) (x : Bus) : (s.setBus b x).cz = s.cz := rfl
@[simp] theorem State.setBus_meadow (s : State) (b : Nat) (x : Bus) : (s.setBus b x).meadow = s.meadow := rfl
@[simp] theorem State.setBus_sec (s : State) (b : Nat) (x : Bus) : (s.setBus b x).sec = s.sec := rfl
@[simp] theorem State.setBus_links (s : State) (b : Nat) (x : Bus) : (s.setBus b x).links = s.links := rfl
@[simp] theorem State.setBus_power (s : State) (b : Nat) (x : Bus) : (s.setBus b x).power = s.power := rfl
@[simp] theorem State.setBus_faults (s : State) (b : Nat) (x : Bus) : (s.setBus b x).faults = s.faults := rfl

@[simp] theorem State.setCslot_pending (s : State) (n : Nat) (x : CommitSlot) : (s.setCslot n x).pending = s.pending := rfl
@[simp] theorem State.setCslot_now (s : State) (n : Nat) (x : CommitSlot) : (s.setCslot n x).now = s.now := rfl
@[simp] theorem State.setCslot_ftc (s : State) (n : Nat) (x : CommitSlot) : (s.setCslot n x).ftc = s.ftc := rfl
@[simp] theorem State.setCslot_out (s : State) (n : Nat) (x : CommitSlot) : (s.setCslot n x).out = s.out := rfl
@[simp] theorem State.setCslot_freeCounter (s : State) (n : Nat) (x : CommitSlot) : (s.setCslot n x).freeCounter = s.freeCounter := rfl
@[simp] theorem State.setCslot_chip (s : State) (n : Nat) (x : CommitSlot) : (s.setCslot n x).chip = s.chip := rfl
@[simp] theorem State.setCslot_dict (s : State) (n : Nat) (x : CommitSlot) : (s.setCslot n x).dict = s.dict := rfl
@[simp] theorem State.setCslot_csr (s : State) (n : Nat) (x : CommitSlot) : (s.setCslot n x).csr = s.csr := rfl
@[simp] theorem State.setCslot_mem (s : State) (n : Nat) (x : CommitSlot) : (s.setCslot n x).mem = s.mem := rfl
@[simp] theorem State.setCslot_sram (s : State) (n : Nat) (x : CommitSlot) : (s.setCslot n x).sram = s.sram := rfl
@[simp] theorem State.setCslot_remote (s : State) (n : Nat) (x : CommitSlot) : (s.setCslot n x).remote = s.remote := rfl
@[simp] theorem State.setCslot_plans (s : State) (n : Nat) (x : CommitSlot) : (s.setCslot n x).plans = s.plans := rfl
@[simp] theorem State.setCslot_florets (s : State) (n : Nat) (x : CommitSlot) : (s.setCslot n x).florets = s.florets := rfl
@[simp] theorem State.setCslot_hcu (s : State) (n : Nat) (x : CommitSlot) : (s.setCslot n x).hcu = s.hcu := rfl
@[simp] theorem State.setCslot_sw (s : State) (n : Nat) (x : CommitSlot) : (s.setCslot n x).sw = s.sw := rfl
@[simp] theorem State.setCslot_traffic (s : State) (n : Nat) (x : CommitSlot) : (s.setCslot n x).traffic = s.traffic := rfl
@[simp] theorem State.setCslot_pool (s : State) (n : Nat) (x : CommitSlot) : (s.setCslot n x).pool = s.pool := rfl
@[simp] theorem State.setCslot_kv (s : State) (n : Nat) (x : CommitSlot) : (s.setCslot n x).kv = s.kv := rfl
@[simp] theorem State.setCslot_coh (s : State) (n : Nat) (x : CommitSlot) : (s.setCslot n x).coh = s.coh := rfl
@[simp] theorem State.setCslot_cz (s : State) (n : Nat) (x : CommitSlot) : (s.setCslot n x).cz = s.cz := rfl
@[simp] theorem State.setCslot_meadow (s : State) (n : Nat) (x : CommitSlot) : (s.setCslot n x).meadow = s.meadow := rfl
@[simp] theorem State.setCslot_sec (s : State) (n : Nat) (x : CommitSlot) : (s.setCslot n x).sec = s.sec := rfl
@[simp] theorem State.setCslot_links (s : State) (n : Nat) (x : CommitSlot) : (s.setCslot n x).links = s.links := rfl
@[simp] theorem State.setCslot_mgmt (s : State) (n : Nat) (x : CommitSlot) : (s.setCslot n x).mgmt = s.mgmt := rfl
@[simp] theorem State.setCslot_power (s : State) (n : Nat) (x : CommitSlot) : (s.setCslot n x).power = s.power := rfl

@[simp] theorem State.setInjection_pending (s : State) (e : Nat) (x : InjectEntry) : (s.setInjection e x).pending = s.pending := rfl
@[simp] theorem State.setInjection_now (s : State) (e : Nat) (x : InjectEntry) : (s.setInjection e x).now = s.now := rfl
@[simp] theorem State.setInjection_ftc (s : State) (e : Nat) (x : InjectEntry) : (s.setInjection e x).ftc = s.ftc := rfl
@[simp] theorem State.setInjection_out (s : State) (e : Nat) (x : InjectEntry) : (s.setInjection e x).out = s.out := rfl
@[simp] theorem State.setInjection_freeCounter (s : State) (e : Nat) (x : InjectEntry) : (s.setInjection e x).freeCounter = s.freeCounter := rfl
@[simp] theorem State.setInjection_chip (s : State) (e : Nat) (x : InjectEntry) : (s.setInjection e x).chip = s.chip := rfl
@[simp] theorem State.setInjection_dict (s : State) (e : Nat) (x : InjectEntry) : (s.setInjection e x).dict = s.dict := rfl
@[simp] theorem State.setInjection_csr (s : State) (e : Nat) (x : InjectEntry) : (s.setInjection e x).csr = s.csr := rfl
@[simp] theorem State.setInjection_mem (s : State) (e : Nat) (x : InjectEntry) : (s.setInjection e x).mem = s.mem := rfl
@[simp] theorem State.setInjection_sram (s : State) (e : Nat) (x : InjectEntry) : (s.setInjection e x).sram = s.sram := rfl
@[simp] theorem State.setInjection_remote (s : State) (e : Nat) (x : InjectEntry) : (s.setInjection e x).remote = s.remote := rfl
@[simp] theorem State.setInjection_plans (s : State) (e : Nat) (x : InjectEntry) : (s.setInjection e x).plans = s.plans := rfl
@[simp] theorem State.setInjection_florets (s : State) (e : Nat) (x : InjectEntry) : (s.setInjection e x).florets = s.florets := rfl
@[simp] theorem State.setInjection_hcu (s : State) (e : Nat) (x : InjectEntry) : (s.setInjection e x).hcu = s.hcu := rfl
@[simp] theorem State.setInjection_sw (s : State) (e : Nat) (x : InjectEntry) : (s.setInjection e x).sw = s.sw := rfl
@[simp] theorem State.setInjection_traffic (s : State) (e : Nat) (x : InjectEntry) : (s.setInjection e x).traffic = s.traffic := rfl
@[simp] theorem State.setInjection_pool (s : State) (e : Nat) (x : InjectEntry) : (s.setInjection e x).pool = s.pool := rfl
@[simp] theorem State.setInjection_kv (s : State) (e : Nat) (x : InjectEntry) : (s.setInjection e x).kv = s.kv := rfl
@[simp] theorem State.setInjection_coh (s : State) (e : Nat) (x : InjectEntry) : (s.setInjection e x).coh = s.coh := rfl
@[simp] theorem State.setInjection_cz (s : State) (e : Nat) (x : InjectEntry) : (s.setInjection e x).cz = s.cz := rfl
@[simp] theorem State.setInjection_meadow (s : State) (e : Nat) (x : InjectEntry) : (s.setInjection e x).meadow = s.meadow := rfl
@[simp] theorem State.setInjection_sec (s : State) (e : Nat) (x : InjectEntry) : (s.setInjection e x).sec = s.sec := rfl
@[simp] theorem State.setInjection_links (s : State) (e : Nat) (x : InjectEntry) : (s.setInjection e x).links = s.links := rfl
@[simp] theorem State.setInjection_mgmt (s : State) (e : Nat) (x : InjectEntry) : (s.setInjection e x).mgmt = s.mgmt := rfl
@[simp] theorem State.setInjection_power (s : State) (e : Nat) (x : InjectEntry) : (s.setInjection e x).power = s.power := rfl

end Sys2Proof.Machine
end

