-- ==== Sys2Proof/WellFormed.lean ====
section
/-! DEFINITION. Well-formed commands: every operand that names one of a fixed number of things names one that the architecture
has. An ill-formed command names nothing, and its meaning leaves the block unchanged or answers the status its rule gives. -/

namespace Sys2Proof

/-- A number below its bound. -/
def below (n b : Nat) : Bool := decide (n < b)

/-- A mailbox is one of four (R515); a GDP source address has 16 bytes and its port 16 bits (R482). -/
def pathWf : DictPath → Bool
  | .gdp addr port => decide (addr.length = 16) && below port 65536
  | .smbus => true
  | .spi => true
  | .mailbox m => below m 4

/-- An issuer's TENANT is a tenant 0-63 or the management domain, and its numbers lie in their ranges (R74, R77, R148). -/
def issuerWf (i : Issuer) : Bool :=
  (below i.tenant 64 || decide (i.tenant = 0xFF)) && below i.node 65536 &&
  match i.src with
  | .queue q => below q 524288
  | .floret f => below f 4096
  | .endpoint n => below n 65536
  | .mgmt => true
  | .commit q _ => below q 16

/-- A GDP frame: one UDP payload of 16 to 1,232 bytes, from a 16-byte address, with a TYPE its command carries (R482-R484). -/
def gdpWf (addr : List Byte) (udp : Nat) (frame : List Byte) (type : Nat → Bool) : Bool :=
  decide (addr.length = 16) && below udp 65536 && decide (16 ≤ frame.length) && decide (frame.length ≤ 1232) &&
  type (frame.getD 3 0).toNat

def accessWf : Access → Bool
  | .csr i => issuerWf i
  | .dict p => pathWf p

/-- An operation has a class 0-15, an OP of 8 bits, a LENGTH of 32 bits and a well-formed issuer (R51, R81). -/
def opWf (o : Operation) : Bool :=
  issuerWf o.req.issuer && below o.req.tc 16 && below o.op 256 && decide (o.length < 2 ^ 32)

/-- The operation code of a slot is the row's own, or a reserved one, which faults whichever row it comes under (R152). -/
def codeWf (code mine : Nat) (used : List Nat) : Bool := decide (code = mine) || (decide (code ≠ 0) && !used.contains code)

/-- A matrix slot (R156). -/
def mSlotWf (i : SlotIn) (w : BitVec 64) (c : Nat) : Bool :=
  below i.floret 4096 && codeWf (w.extractLsb' 58 6).toNat c [1, 2, 3, 4]
/-- A vector slot (R159). -/
def vSlotWf (i : SlotIn) (w : BitVec 64) (c : Nat) : Bool :=
  below i.floret 4096 && codeWf (w.extractLsb' 56 8).toNat c ((List.range 23).map (· + 1))
/-- A scalar slot (R162). -/
def sSlotWf (i : SlotIn) (w : BitVec 48) (c : Nat) : Bool :=
  below i.floret 4096 && codeWf (w.extractLsb' 40 8).toNat c
    [1, 2, 3, 4, 5, 6, 7, 8, 9, 0xA, 0xB, 0x20, 0x21, 0x22, 0x30, 0x31, 0x32, 0x33, 0x34, 0x35, 0x36, 0x37, 0x38]
/-- A control slot (R165). -/
def cSlotWf (i : SlotIn) (w : BitVec 24) (c : Nat) : Bool :=
  below i.floret 4096 && codeWf (w.extractLsb' 19 5).toNat c [1, 2, 3, 4, 5, 6, 7, 8, 9]
/-- A remote-memory slot (R163): DESC has a row of its own. -/
def xSlotWf (i : SlotIn) (w : BitVec 48) (desc : Bool) : Bool :=
  below i.floret 4096 && (if desc then decide ((w.extractLsb' 42 6).toNat = 0x3E) else
    decide ((w.extractLsb' 42 6).toNat ≠ 0x3E) && decide ((w.extractLsb' 42 6).toNat ≠ 0))

def portOptWf : Option Nat → Bool
  | none => true
  | some p => below p 36

def partOptWf : Option Nat → Bool
  | none => true
  | some n => below n 512

/-- The command is well formed. -/
def Instr.wf : Instr → Bool
  | .csrWrite i addr _ => issuerWf i && below addr (2 ^ 28)
  | .csrAliasWrite i _ addr _ => issuerWf i && below addr (2 ^ 28)
  | .hubUnlock i _ => issuerWf i
  | .dictUnlock p _ => pathWf p
  | .unlockArmLapse p => pathWf p
  | .segmentStagingExpiry p => pathWf p
  | .unitQuiesce p u => pathWf p && below u 0xB000
  | .quiesceDrained u => below u 0xB000
  | .quiesceTimeout u => below u 0xB000
  | .unitResume p u => pathWf p && below u 0xB000
  | .unitReset p u => pathWf p && below u 0xB000
  | .unitResetComplete u => below u 0xB000
  | .unitPowerDown p u => pathWf p && below u 0xB000
  | .unitPowerUp p u => pathWf p && below u 0xB000
  | .unitUpdateBegin p u => pathWf p && below u 0xB000
  | .unitUpdateEnd p u => pathWf p && below u 0xB000
  | .groupQueueTake child => below child 0xB000
  | .ancestorRequest p _ _ => pathWf p
  | .aggregateRead p _ _ _ => pathWf p
  | .aggregateReply _ _ _ => true
  | .aggregateWindowEnd _ => true
  | .counterLatch p _ _ => pathWf p
  | .put o => opWf o
  | .get o => opWf o
  | .atomic o => opWf o
  | .fetchOp o => opWf o
  | .notify o => opWf o
  | .putNotify o => opWf o
  | .fence o => opWf o
  | .wait o => opWf o
  | .nop o => opWf o
  | .waitTimeout _ => true
  | .waitDumpComplete => true
  | .waitBreak p _ => pathWf p
  | .qdbCommit i q _ => issuerWf i && below q 524288
  | .queueEnable i q => issuerWf i && below q 524288
  | .queueDisable i q => issuerWf i && below q 524288
  | .queueDisableDrained q => below q 524288
  | .queueFlush i q => issuerWf i && below q 524288
  | .queueFlushEnd q => below q 524288
  | .clearSticky i q => issuerWf i && below q 524288
  | .queueContextPut i q word _ => issuerWf i && below q 524288 && below word 8
  | .itemStart q _ => below q 524288
  | .itemComplete q => below q 524288
  | .queueRingReadFail q _ => below q 524288
  | .postedFailureReport i _ _ => issuerWf i
  | .postedTimeout i _ => issuerWf i
  | .responseReceive i _ _ _ _ => issuerWf i
  | .planLoad p slot => pathWf p && below slot 8
  | .planLoadCopyDone slot _ => below slot 8
  | .clusterDrained cluster => below cluster 256
  | .planArm p slot => pathWf p && below slot 8
  | .armRequest _ _ _ _ => true
  | .armReply _ member _ => below member 1024
  | .armDecision slot => below slot 8
  | .planDisarm a slot => accessWf a && below slot 8
  | .disarmReceived _ => true
  | .planStart slot => below slot 8
  | .planHaltBoundary a slot => accessWf a && below slot 8
  | .planHaltNow a slot => accessWf a && below slot 8
  | .planResume p slot => pathWf p && below slot 8
  | .planReset p slot => pathWf p && below slot 8
  | .planUnload p slot => pathWf p && below slot 8
  | .planTick slot _ => below slot 8
  | .slipQuantumEnd slot => below slot 8
  | .rotationsComplete slot => below slot 8
  | .latenessReport slot _ _ _ => below slot 8
  | .slipToken port _ => portOptWf port
  | .haltToken port _ => portOptWf port
  | .haltTakesEffect slot => below slot 8
  | .timeSyncInterval => true
  | .timeFlit port _ _ _ _ => below port 36
  | .holdoverExpiry => true
  | .ftcSet p _ => pathWf p
  | .mma i w => mSlotWf i w 1
  | .tileRead i w => mSlotWf i w 2
  | .tileWrite i w => mSlotWf i w 3
  | .tileZero i w => mSlotWf i w 4
  | .vadd i w => vSlotWf i w 1
  | .vsub i w => vSlotWf i w 2
  | .vmul i w => vSlotWf i w 3
  | .vfma i w => vSlotWf i w 4
  | .vmax i w => vSlotWf i w 5
  | .vmin i w => vSlotWf i w 6
  | .vexp2 i w => vSlotWf i w 7
  | .vlog2 i w => vSlotWf i w 8
  | .vrcp i w => vSlotWf i w 9
  | .vrsqrt i w => vSlotWf i w 10
  | .vredsum i w => vSlotWf i w 11
  | .vredmax i w => vSlotWf i w 12
  | .vcmp i w => vSlotWf i w 13
  | .vsel i w => vSlotWf i w 14
  | .vcvt i w => vSlotWf i w 15
  | .vld i w => vSlotWf i w 16
  | .vst i w => vSlotWf i w 17
  | .vstscale i w => vSlotWf i w 18
  | .vbcast i w => vSlotWf i w 19
  | .viadd i w => vSlotWf i w 20
  | .vand i w => vSlotWf i w 21
  | .vor i w => vSlotWf i w 22
  | .vxor i w => vSlotWf i w 23
  | .sAdd i w => sSlotWf i w 1
  | .sSub i w => sSlotWf i w 2
  | .sMul i w => sSlotWf i w 3
  | .sAnd i w => sSlotWf i w 4
  | .sOr i w => sSlotWf i w 5
  | .sXor i w => sSlotWf i w 6
  | .shl i w => sSlotWf i w 7
  | .shr i w => sSlotWf i w 8
  | .sar i w => sSlotWf i w 9
  | .slt i w => sSlotWf i w 0xA
  | .sltu i w => sSlotWf i w 0xB
  | .addi i w => sSlotWf i w 0x20
  | .addhi i w => sSlotWf i w 0x21
  | .shli i w => sSlotWf i w 0x22
  | .ld64 i w => sSlotWf i w 0x30
  | .st64 i w => sSlotWf i w 0x31
  | .ld32 i w => sSlotWf i w 0x32
  | .st32 i w => sSlotWf i w 0x33
  | .rdstat i w => sSlotWf i w 0x34
  | .rdres i w => sSlotWf i w 0x35
  | .rdflags i w => sSlotWf i w 0x36
  | .clrflags i w => sSlotWf i w 0x37
  | .rdtick i w => sSlotWf i w 0x38
  | .desc i w => xSlotWf i w true
  | .xRemoteIssue i w => xSlotWf i w false
  | .br i w => cSlotWf i w 1
  | .bz i w => cSlotWf i w 2
  | .bnz i w => cSlotWf i w 3
  | .waitop i w => cSlotWf i w 4
  | .waitall i w => cSlotWf i w 5
  | .barrier i w => cSlotWf i w 6
  | .tickwait i w => cSlotWf i w 7
  | .setstream i w => cSlotWf i w 8
  | .trap i w => cSlotWf i w 9
  | .drain floret => below floret 4096
  | .taskEnd floret => below floret 4096
  | .runTask q _ o => below q 524288 && opWf o
  | .taskSplit _ => true
  | .taskTake floret => below floret 4096
  | .arbiterDraw _ _ => true
  | .starvationFlag _ _ => true
  | .arbiterSeedWrite i _ _ => issuerWf i
  | .jobOpen o => opWf o
  | .jobAbort o => opWf o
  | .jobRelease o => opWf o
  | .jobPut o port => opWf o && below port 36
  | .heldJobPutTimeout _ _ => true
  | .jobIdleTimeout _ => true
  | .jobExponentReady _ => true
  | .millstoneSum _ _ _ => true
  | .jobOutputAck _ _ => true
  | .hcuJobStart _ => true
  | .gatherSortDone _ => true
  | .frameReceive port _ _ => below port 36
  | .quotaAdmit tenant => below tenant 65
  | .quotaWaitExpiry tenant => below tenant 65
  | .injectionFrame hub _ _ => below hub 14
  | .frameLink _ => true
  | .multicastBranchAck _ port _ => portOptWf port
  | .egressFrameBoundary port => below port 36
  | .mcEntryWrite i n _ => issuerWf i && below n 4095
  | .quotaWrite i t _ => issuerWf i && below t 65
  | .lgMembersWrite i g _ _ => issuerWf i && below g 32
  | .lgRebalance a g => accessWf a && below g 32
  | .lgRebalanceComplete g => below g 32
  | .routeWrite i n _ => issuerWf i && below n 30720
  | .wheelTick => true
  | .trfIndRead i _ => issuerWf i
  | .trfIndWrite i _ => issuerWf i
  | .contractDispatch channel => below channel 273
  | .gateCycleStart i port _ => issuerWf i && below port 36
  | .gateCycleBegin port => below port 36
  | .gateCycleStop i port => issuerWf i && below port 36
  | .gateStopEffect port => below port 36
  | .gateHoldExpiry port => below port 36
  | .gateEntryWrite i port entry _ => issuerWf i && below port 36 && below entry 1024
  | .partitionBind a n => accessWf a && below n 512
  | .mapWritten n => below n 512
  | .partitionUnbind a n => accessWf a && below n 512
  | .partitionClearComplete n => below n 512
  | .partitionRepair a n => accessWf a && below n 512
  | .channelOwnerWrite a ch owner => accessWf a && below ch 272 && below owner 256
  | .channelDeclareFailed a ch => accessWf a && below ch 272
  | .channelRestore a ch => accessWf a && below ch 272
  | .channelRetrainDone ch _ => below ch 272
  | .channelClearComplete ch => below ch 272
  | .channelStall ch => below ch 272
  | .channelFatalError ch => below ch 272
  | .uncorrectableError _ => true
  | .tierDeadlineExpiry ch _ => below ch 272
  | .pageMoveStart n page => below n 512 && below page 268435456
  | .pageMoveSwitch n page => below n 512 && below page 268435456
  | .migrationHoldExpiry n page => below n 512 && below page 268435456
  | .promote o => opWf o
  | .demote o => opWf o
  | .pin o => opWf o
  | .unpin o => opWf o
  | .layer o => opWf o
  | .cancel o => opWf o
  | .kvStoreEnable a t partition => accessWf a && below t 64 && partOptWf partition
  | .kvStoreDisable a t => accessWf a && below t 64
  | .kvOpen o => opWf o
  | .kvLookup o => opWf o
  | .kvTouch o => opWf o
  | .kvSetTtl o => opWf o
  | .kvRetain o => opWf o
  | .kvRelease o => opWf o
  | .kvPinNear o => opWf o
  | .kvUnpinNear o => opWf o
  | .kvTruncate o => opWf o
  | .truncateEffect tenant _ => below tenant 64
  | .kvDelete o => opWf o
  | .kvDeleteComplete tenant _ => below tenant 64
  | .kvMove o _ => opWf o
  | .kvMoveCopyDone tenant _ _ _ => below tenant 64
  | .kvMoveSwitchDone tenant _ _ => below tenant 64
  | .kvTokenWrite o => opWf o
  | .kvPagePull o => opWf o
  | .kvAttend o => opWf o
  | .attendStart _ => true
  | .attendRangeDone _ _ _ => true
  | .attendOutputVisible _ _ => true
  | .sessionExpiryCheck => true
  | .handleQuarantineExpiry _ => true
  | .rdS o => opWf o
  | .rdX o => opWf o
  | .upg o => opWf o
  | .wb o => opWf o
  | .drop o => opWf o
  | .rdSpec o => opWf o
  | .snoopResponse agent _ _ _ => below agent 64
  | .directoryRequestResume _ => true
  | .holdExpiry _ => true
  | .snoopTimeout agent _ => below agent 64
  | .specBufferExpiry _ agent => below agent 64
  | .windowEnable a w partition => accessWf a && below w 32 && partOptWf partition
  | .windowDisable a w => accessWf a && below w 32
  | .windowDisableComplete w => below w 32
  | .wayMaskWrite i t _ => issuerWf i && below t 65
  | .agentRegister a n kind => accessWf a && below n 64 && below kind 4
  | .agentUnregister a n => accessWf a && below n 64
  | .streamEnable a n => accessWf a && below n 1024
  | .streamEnableComplete n => below n 1024
  | .streamDisable a n => accessWf a && below n 1024
  | .czPut o => opWf o
  | .czBlockVisible n => below n 1024
  | .czGet o => opWf o
  | .train o => opWf o
  | .trainComplete n => below n 1024
  | .loadTable o => opWf o
  | .czSeal o => opWf o
  | .streamReset o => opWf o
  | .tableFetch n slot channel => below n 1024 && below slot 256 && below channel 272
  | .vsQuery o => opWf o
  | .shardQueryStart die => below die 4
  | .shardQueryDone _ shard => below shard 4
  | .vsResultVisible _ _ => true
  | .queryTimeout _ => true
  | .vsEnable o => opWf o
  | .vsDisable o => opWf o
  | .vsDisableComplete _ => true
  | .vsInsert o => opWf o
  | .vsDelete o => opWf o
  | .vsDeleteComplete _ _ => true
  | .setNeighbours o => opWf o
  | .merge o => opWf o
  | .mergeSwitch _ shard => below shard 4
  | .tenantEnable a t _ => accessWf a && below t 64
  | .tenantDisable a t _ => accessWf a && below t 64
  | .clusterOwnerWrite i w _ => issuerWf i && below w 64
  | .clusterClearComplete cluster => below cluster 256
  | .portBindWrite i port _ => issuerWf i && below port 36
  | .secAssign i _ => issuerWf i
  | .spdmMessage port _ => portOptWf port
  | .keyRelease _ _ => true
  | .keyDestroy _ slot => below slot 256
  | .mkDecrypt o => opWf o
  | .verify p => pathWf p
  | .activate p => pathWf p
  | .commit p _ => pathWf p
  | .abort p => pathWf p
  | .rekey port => below port 36
  | .rekeyHardLimit port => below port 36
  | .portModeWrite a port _ _ => accessWf a && below port 36
  | .portEnable i port => issuerWf i && below port 36
  | .portDisable i port => issuerWf i && below port 36
  | .retrain i port => issuerWf i && below port 36
  | .electricalTrainingDone port _ => below port 36
  | .caps port _ => below port 36
  | .secureDone port _ => below port 36
  | .calibrateDone port _ _ => below port 36
  | .trainingTimeout port => below port 36
  | .trainingRestart port => below port 36
  | .flitReceive port _ _ _ => below port 36
  | .ack port _ => below port 36
  | .nak port _ => below port 36
  | .ackSend port => below port 36
  | .uncorrectableWord port => below port 36
  | .replayTimeout port => below port 36
  | .laneFail port lane => below port 36 && below lane 16
  | .degrade port _ _ => below port 36
  | .degradeSwitch port => below port 36
  | .gdpHello addr udp frame => gdpWf addr udp frame (fun t => !([2, 3, 4, 5, 6, 7, 0x85].contains t))
  | .gdpRead addr udp frame => gdpWf addr udp frame (fun t => decide (t = 2))
  | .gdpWrite addr udp frame => gdpWf addr udp frame (fun t => decide (t = 3))
  | .flashWrite addr udp frame => gdpWf addr udp frame (fun t => decide (t = 4))
  | .gdpSecured _ addr udp seq frame => below seq (2 ^ 32) && gdpWf addr udp frame (fun t => decide (2 ≤ t) && decide (t ≤ 4))
  | .eventAck dest _ => below dest 4
  | .icmpv6Echo _ _ _ => true
  | .neighborDiscovery _ _ _ _ => true
  | .eventRaise p _ => pathWf p
  | .eventResend dest => below dest 4
  | .eventHoldoffExpiry vector => below vector 1024
  | .meterSnapshot p _ => pathWf p
  | .meterSnapshotLatch => true
  | .mailboxRead i m _ => issuerWf i && below m 4
  | .mailboxWrite i m _ => issuerWf i && below m 4
  | .dictReq _ _ _ => true
  | .dictRsp => true
  | .eventFetch => true
  | .smbusSclTimeout => true
  | .spiRead _ _ => true
  | .spiWrite _ _ => true
  | .spiFetchResponse _ => true
  | .spiFetchEvent _ => true
  | .sensorPoll entry _ => below entry 32
  | .dimmThermalPoll dimm _ => below dimm 32
  | .busTransactionTimeout bus _ => below bus 5
  | .busSdaStuck bus _ => below bus 5
  | .busRecoveryAttempt bus _ => below bus 5
  | .recover i bus => issuerWf i && below bus 5
  | .powerUp _ => true
  | .softStartDone => true
  | .boot _ _ _ _ _ => true
  | .fuseReread _ => true
  | .powerMonitorTick _ => true
  | .sagSample _ _ => true
  | .throttleRelease => true
  | .brownoutRecovery => true
  | .brownoutLoss _ => true
  | .thermalSample _ => true
  | .thermalThrottleStep => true
  | .referenceMonitor _ _ _ => true
  | .clockRequestWrite p cluster _ => pathWf p && below cluster 256
  | .railSettled quadrant => below quadrant 16
  | .coldResetPin => true
  | .coldResetRelease => true
  | .resetCommandWarm a => accessWf a
  | .resetCommandCold a => accessWf a
  | .heartbeat _ => true
  | .watchdogRestart => true
  | .watchdogWarning => true
  | .watchdogExpiry => true
  | .dimmOvercurrent dimm => below dimm 32
  | .dimmFeedLow => true
  | .unitHangTimeout u => below u 0xB000
  | .containmentTimeout u => below u 0xB000
  | .portUnfence a port => accessWf a && below port 36
  | .injectArm p => pathWf p
  | .injectCancel p => pathWf p
  | .injectDisable p => pathWf p
  | .injectFire entry => below entry 64
  | .csOpen o => opWf o
  | .csAbort o => opWf o
  | .csRelease o => opWf o
  | .csPut o => opWf o
  | .csCommit o => opWf o
  | .csApplyDone slot _ => below slot 16384
  | .ckptArm p c => pathWf p && below c 16
  | .ckptCancel p c => pathWf p && below c 16
  | .ckptStart c => below c 16
  | .ckptPageCaptured c page _ => below c 16 && below page 268435456
  | .cowCopyDone c page => below c 16 && below page 268435456
  | .ckptManifest c _ => below c 16
  | .meterSample => true
  | .meterModeSwitch => true
  | .flashWriteDone bank => below bank 2
  | .managementLaneLinkChange lane => below lane 2
  | .cxlPcieLinkUp port _ _ => below port 36
  | .cxlPcieLinkLoss port => below port 36
  | .channelRequestComplete channel _ => below channel 272
  | .discardedResponseTimeout _ => true
  | .cellUsSample => true

end Sys2Proof
end

