-- ==== Sys2Proof/Tests/Slice0.lean ====
section
/-! SUPPORT. Tests: ill-formed terms that WellFormed refuses, worked cases of the spec, and for every statement states and operands that
meet its hypotheses. -/

section

set_option maxRecDepth 100000
set_option Elab.async false

namespace Sys2Proof.Machine

/-! ### Ill-formed terms: one for each check, which the check refuses -/

def mgmtWho : Issuer := { src := .mgmt, tenant := 0xFF }
def slotIn0 : SlotIn := { floret := 0 }
def frame0 (type n : Nat) : List Byte := [0xD2, 0x4D, 1, BitVec.ofNat 8 type] ++ List.replicate (n - 4) 0

/-- Mailboxes, GDP sources, issuers and operations out of their ranges are refused, and ones inside are not. -/
theorem test_wf_parts_refuse :
    [pathWf (.mailbox 4), pathWf (.gdp [] 0), pathWf (.gdp (List.replicate 16 0) 65536), issuerWf { mgmtWho with tenant := 64 },
      issuerWf { mgmtWho with node := 65536 }, issuerWf { mgmtWho with src := .queue 524288 },
      issuerWf { mgmtWho with src := .floret 4096 }, issuerWf { mgmtWho with src := .endpoint 65536 },
      issuerWf { mgmtWho with src := .commit 16 0 }, gdpWf (List.replicate 15 0) 0 (frame0 2 16) (fun _ => true),
      gdpWf (List.replicate 16 0) 65536 (frame0 2 16) (fun _ => true), gdpWf (List.replicate 16 0) 0 (frame0 2 15) (fun _ => true),
      gdpWf (List.replicate 16 0) 0 (frame0 2 1233) (fun _ => true), gdpWf (List.replicate 16 0) 0 (frame0 3 16) (fun t => decide (t = 2)),
      opWf { op := 256, req := { issuer := mgmtWho } }, opWf { op := 1, req := { issuer := mgmtWho, tc := 16 } },
      opWf { op := 1, req := { issuer := mgmtWho }, length := 2 ^ 32 },
      opWf { op := 1, req := { issuer := { mgmtWho with tenant := 64 } } },
      mSlotWf { floret := 4096 } 0x0400000000000000#64 1, vSlotWf { floret := 4096 } 0x0100000000000000#64 1,
      sSlotWf { floret := 4096 } 0x010000000000#48 1, cSlotWf { floret := 4096 } 0x080000#24 1,
      xSlotWf { floret := 4096 } 0xF80000000000#48 true, accessWf (.dict (.mailbox 4))].all (fun b => !b) = true ∧
    [pathWf (.mailbox 3), pathWf (.gdp (List.replicate 16 0) 65535), issuerWf mgmtWho, issuerWf { mgmtWho with tenant := 63 },
      gdpWf (List.replicate 16 0) 0 (frame0 2 16) (fun t => decide (t = 2)), opWf { op := 255, req := { issuer := mgmtWho, tc := 15 } },
      mSlotWf { floret := 4095 } 0x0400000000000000#64 1, vSlotWf { floret := 4095 } 0x0100000000000000#64 1,
      Instr.wf (.csrWrite mgmtWho (2 ^ 28 - 1) 0), Instr.wf (.dimmOvercurrent 0)].all id = true := by decide +kernel

/-- Ill-formed commands, one for each check of `Instr.wf`, part 0. -/
theorem test_wf_refuses_0 : ([
    .csrWrite { src := .mgmt, tenant := 64 } 0 0,
    .csrWrite mgmtWho (2 ^ 28) 0,
    .dictUnlock (.mailbox 4) 0,
    .unitQuiesce .smbus (0xB000),
    .put { op := 1, req := { tc := 16 } },
    .qdbCommit mgmtWho (524288) 0,
    .queueContextPut mgmtWho 0 (8) 0,
    .clusterDrained (256),
    .armReply 0 (1024) default,
    .planDisarm (.csr { src := .floret 4096, tenant := 0 }) 0,
    .slipToken (some 36) default,
    .timeFlit (36) 0 0 0 0,
    .mma slotIn0 0x800000000000000#64,
    .tileRead slotIn0 0x400000000000000#64,
    .tileWrite slotIn0 0x400000000000000#64,
    .tileZero slotIn0 0x400000000000000#64,
    .vadd slotIn0 0x200000000000000#64,
    .vsub slotIn0 0x100000000000000#64,
    .vmul slotIn0 0x100000000000000#64,
    .vfma slotIn0 0x100000000000000#64,
    .vmax slotIn0 0x100000000000000#64,
    .vmin slotIn0 0x100000000000000#64,
    .vexp2 slotIn0 0x100000000000000#64,
    .vlog2 slotIn0 0x100000000000000#64] : List Instr).all (fun c => !c.wf) = true := by decide +kernel

/-- Ill-formed commands, one for each check of `Instr.wf`, part 1. -/
theorem test_wf_refuses_1 : ([
    .vrcp slotIn0 0x100000000000000#64,
    .vrsqrt slotIn0 0x100000000000000#64,
    .vredsum slotIn0 0x100000000000000#64,
    .vredmax slotIn0 0x100000000000000#64,
    .vcmp slotIn0 0x100000000000000#64,
    .vsel slotIn0 0x100000000000000#64,
    .vcvt slotIn0 0x100000000000000#64,
    .vld slotIn0 0x100000000000000#64,
    .vst slotIn0 0x100000000000000#64,
    .vstscale slotIn0 0x100000000000000#64,
    .vbcast slotIn0 0x100000000000000#64,
    .viadd slotIn0 0x100000000000000#64,
    .vand slotIn0 0x100000000000000#64,
    .vor slotIn0 0x100000000000000#64,
    .vxor slotIn0 0x100000000000000#64,
    .sAdd slotIn0 0x20000000000#48,
    .sSub slotIn0 0x10000000000#48,
    .sMul slotIn0 0x10000000000#48,
    .sAnd slotIn0 0x10000000000#48,
    .sOr slotIn0 0x10000000000#48,
    .sXor slotIn0 0x10000000000#48,
    .shl slotIn0 0x10000000000#48,
    .shr slotIn0 0x10000000000#48,
    .sar slotIn0 0x10000000000#48] : List Instr).all (fun c => !c.wf) = true := by decide +kernel

/-- Ill-formed commands, one for each check of `Instr.wf`, part 2. -/
theorem test_wf_refuses_2 : ([
    .slt slotIn0 0x10000000000#48,
    .sltu slotIn0 0x10000000000#48,
    .addi slotIn0 0x10000000000#48,
    .addhi slotIn0 0x10000000000#48,
    .shli slotIn0 0x10000000000#48,
    .ld64 slotIn0 0x10000000000#48,
    .st64 slotIn0 0x10000000000#48,
    .ld32 slotIn0 0x10000000000#48,
    .st32 slotIn0 0x10000000000#48,
    .rdstat slotIn0 0x10000000000#48,
    .rdres slotIn0 0x10000000000#48,
    .rdflags slotIn0 0x10000000000#48,
    .clrflags slotIn0 0x10000000000#48,
    .rdtick slotIn0 0x10000000000#48,
    .desc slotIn0 0x40000000000#48,
    .xRemoteIssue slotIn0 0xf80000000000#48,
    .br slotIn0 0x100000#24,
    .bz slotIn0 0x80000#24,
    .bnz slotIn0 0x80000#24,
    .waitop slotIn0 0x80000#24,
    .waitall slotIn0 0x80000#24,
    .barrier slotIn0 0x80000#24,
    .tickwait slotIn0 0x80000#24,
    .setstream slotIn0 0x80000#24] : List Instr).all (fun c => !c.wf) = true := by decide +kernel

/-- Ill-formed commands, one for each check of `Instr.wf`, part 3. -/
theorem test_wf_refuses_3 : ([
    .trap slotIn0 0x80000#24,
    .drain (4096),
    .quotaAdmit (65),
    .injectionFrame (14) [] [],
    .mcEntryWrite mgmtWho (4095) 0,
    .lgMembersWrite mgmtWho (32) false 0,
    .routeWrite mgmtWho (30720) 0,
    .contractDispatch (273),
    .partitionBind (.csr mgmtWho) (512),
    .channelOwnerWrite (.csr mgmtWho) (272) 0,
    .pageMoveStart 0 (268435456),
    .kvStoreEnable (.csr mgmtWho) (64) none,
    .kvStoreEnable (.csr mgmtWho) 0 (some 512),
    .agentRegister (.csr mgmtWho) 0 (4),
    .laneFail 0 (16),
    .gdpHello (List.replicate 16 0) 0 (List.replicate 16 2),
    .gdpRead (List.replicate 16 0) 0 (List.replicate 16 1),
    .gdpWrite (List.replicate 16 0) 0 (List.replicate 16 1),
    .flashWrite (List.replicate 16 0) 0 (List.replicate 16 1),
    .gdpSecured 0 [] 0 (2 ^ 32) [],
    .gdpSecured 0 (List.replicate 16 0) 0 0 (List.replicate 16 1),
    .busTransactionTimeout (5) 0,
    .csApplyDone (16384) default,
    .flashWriteDone (2)] : List Instr).all (fun c => !c.wf) = true := by decide +kernel

/-! ### Worked cases of the spec

Each expected value stands in the spec: the rule or the worked case is named. -/

/-- An outcome is a next state with a property. -/
def nextIs (r : Result) (p : State → Bool) : Bool :=
  match r with
  | .next t => p t
  | _ => false

/-- R24, R25, R33: the example of Floret 7 of cluster 12, quadrant 2, engine die 3, package 5 of tray 9 of tray group 1. -/
theorem test_unit_tree_example :
    unitPath 0x195 (.floret 3 2 12 7) = 0x719532C7 ∧ unitPath 0x195 .hub = 0x41954000 ∧ unitPath 0x195 .package = 0x31950000 ∧
      unitIndex (.floret 3 2 12 7) = 0xAEC7 ∧ unitLoc 0xAEC7 = some (.floret 3 2 12 7) := by decide +kernel

/-- R44, R147: the example of its pad at 0x0213_2000_1D8E_0000. -/
theorem test_pad_address_example :
    addrNode 0x021320001D8E0000#64 = 0x213 ∧ addrRegion 0x021320001D8E0000#64 = 2 ∧
      addrOffset 0x021320001D8E0000#64 = 3783 * 0x20000 := by decide +kernel

/-- R170: a block whose largest magnitude is 37.5 narrows to MXFP4 with scale code 130; 37.5 becomes 4.0. -/
theorem test_mxfp4_example : narrowBlock 0x10 (fun _ => .rne) 0 [.fin false 75 (-1), .fin false 0 0] = (130, [6, 0], 0) := by
  decide +kernel

/-- R325: the store of the worked case of chapter 9 has 2,010,427 slots, and a token of its session 2,112 bytes. -/
theorem test_kv_example :
    KvStore.slotsIn { slotUnits := 133, metaPages := 4096 } 1048576 = 2010427 ∧
      KvSession.tokenBytes { heads := 8, dim := 128 } = 2112 ∧ KvSession.pageBytes { heads := 8, dim := 128 } = 33792 := by
  decide +kernel

/-- The context of queue 40,000 in the worked case of R87, and the issuer that owns it. -/
def queue87 : QueueCtx :=
  { ringLog2 := 10, epoch := 0x11, commit := 300, head := 298, done := 296, state := .enabled, owner := 5
    started := [{ item := 296 }, { item := 297 }] }
def issuer87 : Issuer := { src := .endpoint 3, tenant := 5, node := 3 }
def state87 : State := State.reset.setQueue 40000 queue87

/-- R87: CMD 0x3 raises EPOCH to 0x12 and the queue is FLUSHING; items 298 and 299 leave, so HEAD and COMMIT are 300. -/
theorem test_flush_example :
    nextIs (execQueueFlush issuer87 40000 state87)
      (fun t => decide ((t.queue 40000).epoch = 0x12 ∧ (t.queue 40000).state = .flushing ∧ (t.queue 40000).head = 300 ∧
        (t.queue 40000).commit = 300)) = true := by decide +kernel

/-- R87: a commit of COUNT 301 with the old EPOCH counts as stale and leaves COMMIT. -/
theorem test_stale_commit_example :
    nextIs (execQdbCommit issuer87 40000 (BitVec.ofNat 64 (301 + 0x11 * 2 ^ 32))
        (State.reset.setQueue 40000 { queue87 with epoch := 0x12 }))
      (fun t => decide ((t.queue 40000).staleCommits = 1 ∧ (t.queue 40000).commit = 300)) = true := by decide +kernel

/-- R77: an issuer of another tenant may not write the doorbell. -/
theorem test_doorbell_of_another_tenant :
    nextIs (execQueueFlush { issuer87 with tenant := 6 } 40000 state87)
      (fun t => decide (t.out.resp.map (·.status) = some .access ∧ t.queue 40000 = queue87)) = true := by decide +kernel

/-- R168: FP4 packs element 0 in the low nibble; FP6 packs four elements in three bytes. -/
theorem test_packing : packElems 4 [0x1, 0xA] = [0xA1] ∧ packElems 6 [1, 2, 3, 4] = [0x81, 0x30, 0x10] := by decide +kernel

/-- R58: FADD of infinities of opposite sign leaves the canonical NaN; SMIN is signed. -/
theorem test_operators :
    atomicValue .fadd 4 0x7F800000 0xFF800000 0 = 0x7FC00000 ∧ atomicValue .smin 4 0xFFFFFFFF 1 0 = 0xFFFFFFFF ∧
      atomicValue .umin 4 0xFFFFFFFF 1 0 = 1 ∧ atomicValue .cas 8 5 5 9 = 9 ∧ atomicValue .cas 8 6 5 9 = 6 := by decide +kernel

/-- R60, R94: a notify of 1 ends a wait for VALUE of at least 1. -/
theorem test_notify_ends_wait :
    nextIs (execNotify { op := 5, req := { target := 0xFFFF300000000040#64 }, operand1 := 1 }
        { State.reset with remote := { waits := [{ id := 0, obj := 1, cond := .ge, operand := 1, req := { seq := 9 }, since := 0, deadline := 0 }] } })
      (fun t => decide ((t.sync 1).value = 1 ∧ t.remote.waits = [])) = true := by decide +kernel

/-- The block fetches nothing: no word spells a command. -/
theorem test_no_word_spells_a_command : decodeTableWord 32 0xFFFFFFFF = none ∧ State.withFetchWord State.reset 8 1 = State.reset := by
  decide +kernel

/-- A step takes the front command and leaves the rest of the queue. -/
theorem test_step_takes_front :
    nextIs (step { State.reset with pending := [.wheelTick, .throttleRelease] })
      (fun t => decide (t.pending = [.throttleRelease])) = true := by decide +kernel

/-! ### States and operands that meet the hypotheses of the statements -/

def filterRecord0 : List Byte := [4, 0, 4, 0] ++ List.replicate 44 0 ++ [1, 0, 255, 0, 8, 0, 0, 0] ++ List.replicate 8 0 ++ [1] ++ List.replicate 191 0
def pool5 : State := State.reset.setPart 0 { state := .bound, tenant := 5, size := 16, mapWritten := true }
def who5 : Issuer := { src := .endpoint 3, tenant := 5, node := 3 }
def frame6 : Frame := { id := 7, payload := [1, 2, 3, 4], header := [0, 0, 0, 0, 0, 0, 5, 0, 1, 0, 1, 0, 4, 0, 0, 8] ++ List.replicate 16 0, tenant := 3, tc := 4, srcNode := 1, dstNode := 5, op := 1, length := 4 }
def header6 (kind : Byte) : List Byte := [0, 0, 0, 0, 0, 0, 5, 0, 1, 0, 1, 0, 4, 0, 0, 8] ++ List.replicate 12 0 ++ [kind, if kind = 0 then 0 else 4, 0, 0]
def switch6 : State := { State.reset with links := { ports := [(0, { mode := .opvitik, state := .active, peerEndpoint := true })] }, sec := { binds := [(0, { tenant := 3, nodeBase := 1 })] }, csr := [(R.swcQuota 3, some 64), (0x020100C, some 131)] }
def hint8 : State := { (State.reset.setPart 0 { state := .bound, tenant := 5, size := 16, mapWritten := true, nearPages := 20, nearFirst := 1, nearCount := 1, farPages := 20, farCount := 1, freeFrames := [(1, 3), (256, 3)], layerAddr := 0xFFFF000000000000#64, layerCount := 4 }).setPage 0 2 (some { channel := 256, near := false }) with sec := { tenants := [(5, { enable := true })] } }
def hintOp (op : BitVec 8) : Operation := { op := 0x28, req := { issuer := who5, target := 0xFFFF000000020000#64, md := op }, length := 65536 }
def read8 : PoolReq := { id := 9, oper := { op := 2, req := { issuer := who5 }, length := 8 }, channel := 256, srcNode := 3, since := 0 }
def session9 : KvSession := { session := 7, tenant := 5, base := 16, maxTokens := 64, written := [(0, 3)], slots := [(0, some 0)] }
def kv9 : State := { State.reset.setPart 0 { state := .bound, tenant := 5, size := 40, mapWritten := true } with kv := { stores := [(5, { enable := true, slotUnits := 9, metaPages := 16, used := [0] })], sessions := [session9] }, sec := { clusterOwner := [(0, 5)] } }
def ctl9 (operand2 : Word64) : Operation := { op := 0x30, req := { issuer := who5, target := 0xFFFF6C0000000000#64 }, operand1 := 7, operand2 := operand2 }
def req9 : Req := { issuer := who5, seq := 4 }
def with9 (x : KvSession) : State := { kv9 with kv := { kv9.kv with sessions := [x] } }
def attend9 : Attend := { id := 3, req := req9, tenant := 5, session := 7, layer := 0, outAddr := 0x0001000000000000#64, first := 0, count := 3, qHeads := 0, outFmt := 1, scale := 0, doneSync := 0, query := [] }
def coh10 : State := { State.reset.setPart 0 { state := .bound, tenant := 5, size := 40, mapWritten := true } with coh := { windows := [(0, { enable := true, pages := 4 })], agents := [(0, { node := 3, kind := 1, tenant := 5 })], ways := [(5, 3)] } }
def cache10 : Operation := { op := 0x40, req := { issuer := who5, target := 0xFFFF100000000100#64 } }
def entry10 (e : DirEntry) : State := { coh10 with coh := { coh10.coh with entries := [(32, some e)] } }
def stream11 : Stream := { elem := 0, pages := 8, maxBlocks := 8, enable := true, state := .opened, gen := 1 }
def cz11 (x : Stream) : State := { State.reset.setPart 0 { state := .bound, tenant := 5, size := 40, mapWritten := true } with cz := { streams := [(2, x)] } }
def czOp11 (op : Nat) : Operation := { op := op, req := { issuer := who5, target := 0xFFFF000800000000#64 } }
def index12 (side : Bool) : VIndex := { state := .enabled, tenant := 5, sideList := side, sideCapacity := if side then 4 else 0, shards := [{ itemCount := 2, capacity := 8, graphOff := 4096, vectorOff := 8192, auxOff := 16384 }] }
def vs12 (x : VIndex) : State := { (State.reset.setPart 0 { state := .bound, tenant := 5, size := 40, mapWritten := true }).memWrite 16384 [2] with meadow := { indexes := [(1, x)], nextQuery := 4 } }
def vsOp12 (length : Nat) (operand1 : Word64) (data : List Byte) : Operation := { op := 0x61, req := { issuer := who5, target := 0xFFFF001000000000#64 }, length := length, operand1 := operand1, data := data }
def query12 : VQuery := { id := 3, index := 1, req := req9, outAddr := 0x0001000000000000#64, filterAddr := 0, filterBits := 0, k := 1, ef := 1, rerank := 1, maxHops := 1, prefetch := 0, scan := true, invert := false, noRerank := false, doneSync := 0, sketch := [], vector := [], shards := [{ shard := 0, itemCount := 0, sideCount := 0, started := true }], deadline := 80 }
def insert12 (item : Byte) : List Byte := [item] ++ List.replicate 255 0
def tenant13 : State := { State.reset with sec := { tenants := [(5, { enable := true })], keys := [(3, some { tenant := 5, confidential := false, planBound := false, mask := 0, modelId := 7, key := [], planDigest := [], digests := [] })] } }
def key13 : ModelKey := { tenant := 5, confidential := false, planBound := false, mask := 0x7E, modelId := 7, key := [], planDigest := [], digests := [] }
def sealed13 : State := { (pool5.setPart 0 { state := .bound, tenant := 5, size := 40, mapWritten := true }) with sec := { tenants := [(5, { enable := true })], keys := [(3, some key13)], sessions := [{ id := 1, port := some 2, keyDigest := [9], secure := true }], banks := [(1, { verified := true, svn := 4 })] }, dict := [(O.tenantKeyServiceDigest 5, some (.bytes [9]))] }
def chunk13 : List Byte := [0x44, 0x5A, 0x4D, 0x4B, 0, 0, 0, 0, 7, 0, 0, 0, 0, 0, 0, 0, 16, 0, 0, 0]
def port14 (x : Port) : State := { State.reset with links := { ports := [(2, x)] } }
def live14 : Port := { mode := .opvitik, enable := true, state := .active, width := 16, agreed := 0x37, lanes := (List.range 16).map (fun n => (n, { lock := true, inUse := true })) }
def caps14 : List Byte := [1, 1, 1, 0, 0x37, 0, 7, 0, 4, 16, 9, 0] ++ List.replicate 20 0
def flit14 : FlitHeader := { ftype := 1, vc := 7, seq := 0, fend := true, fill := 4, crVc := 3, crCells := 5, crc := 4285816803 }
def sent14 : List SentFlit := [{ seq := 5, ftype := 1, vc := 7 }, { seq := 6, ftype := 1, vc := 7 }, { seq := 7, ftype := 2, vc := 0 }]
def gdp15 (type count : Nat) (body : List Byte) : List Byte := (natLe 2 0x4447 ++ natLe 1 1 ++ natLe 1 type ++ natLe 4 77 ++ natLe 2 count ++ natLe 2 body.length ++ [0, 0]) ++ natLe 2 (crc16 (natLe 2 0x4447 ++ natLe 1 1 ++ natLe 1 type ++ natLe 4 77 ++ natLe 2 count ++ natLe 2 body.length ++ [0, 0])) ++ body
def head15 (type count : Nat) (body : List Byte) : GdpHead := { version := 1, type := type, seq := 77, count := count, flags := 0, body := body }
def write15 : List Byte := [0x00, 0x11, 0x11, 0, 0, 0, 2, 0, 2, 0, 0, 0, 0x00, 0x08, 0, 0]
def open15 : State := State.reset.setNum O.gdpSecureWrites 0
def addr15 : List Byte := [0xFE, 0x80] ++ List.replicate 13 0 ++ [9]
def word15 (l : List Word32) : List Word32 := l ++ [BitVec.ofNat 32 (crc16 (spiBytes l))]
def event15 : Event := { seq := 3, ftc := 40, source := 5, vector := 0x2E, kind := 1, status := .link, flags := 0, arg := 9, owed := [1] }
def logged15 : State := { State.reset with mgmt := { State.reset.mgmt with eventSeq := 3, eventLog := [{ event15 with seq := 2, fetched := true }, event15] } }
def side15 (r : DictResponse) : State := { State.reset with mgmt := { State.reset.mgmt with smb := { response := some r }, spi := { response := some r, frameErr := true } } }
def reply15 : DictResponse := { status := 0, type := 3, total := 2, data := [0, 16] }
def power16 (p : PowerState) : State := { State.reset with power := p }
def cold16 (p : PowerState) : State := { (State.reset.setNum O.powerLimitW 2000).memWrite 64 [1] with power := p, ftc := 640, now := 700, sec := { banks := [(1, { svn := 4 })], clearSeq := 3 }, mgmt := { flash := [(4, 5)], eventSeq := 2 } }
def slot17 (x : CommitSlot) : State := { pool5.setPart 0 { state := .bound, tenant := 5, size := 40, mapWritten := true } with faults := { State.reset.faults with slots := [(2, x)] } }
def open17 : CommitSlot := { state := .opened, tenant := 5, stageAddr := 0xFFFF000000010000#64, stageBytes := 4096, attempts := 2, tc := 4 }
def csOp17 (op length : Nat) (operand1 : Word64) (data : List Byte) : Operation := { op := op, req := { issuer := who5, target := 0xFFFF000080000000#64 }, length := length, operand1 := operand1, data := data }
def desc17 : List Byte := natLe 8 0xFFFF000000010000 ++ natLe 4 4096 ++ [2, 4, 0, 0] ++ natLe 8 0 ++ List.replicate 40 0
def ckpt17 (k : Ckpt) : State := { pool5.setPart 0 { state := .bound, tenant := 5, size := 2, mapWritten := true, freeFrames := [(1, 4)] } with faults := { State.reset.faults with ckpts := [(1, k)] }, sec := { binds := [(0, { tenant := 5, nodeBase := 8 })] }, ftc := 64 }
def stream17 : Ckpt := { state := .streaming, dest := 0x0008000000010000#64, cowPages := 0, startFtc := 32, epoch := 1, inFlight := [0], next := 1 }
def inject17 (x : InjectEntry) : State := { State.reset.setNum O.injectEnable 1 with faults := { State.reset.faults with inject := [(0, x)] } }

/-- A state in which a command waits. -/
theorem witness_StepRunsTheFrontCommand : ∃ (s : State) (c : Instr) (rest : List Instr), s.pending = c :: rest :=
  ⟨{ State.reset with pending := [.wheelTick, .throttleRelease] }, .wheelTick, [.throttleRelease], rfl⟩

/-- A state in which nothing waits. -/
theorem witness_IdleStepIsATick : ∃ s : State, s.pending = [] ∧ s.throttled = false := ⟨State.reset, rfl, by decide +kernel⟩

/-- A state with bytes in both memories that has the form, and a step from it. -/
theorem witness_BytesStayCanonical : ∃ s t : State, BytesCanonical s ∧ step s = .next t :=
  ⟨(State.reset.memWrite 5 [1, 0, 3]).sramWrite 7 [9], _, by decide +kernel, rfl⟩

/-- A state with such entries that has the form, and a step from it. -/
theorem witness_ControlStoresStayCanonical : ∃ s t : State, ControlStoresCanonical s ∧ step s = .next t :=
  ⟨(State.reset.setSync 3 { value := 5 }).setQueue 2 { owner := 4 }, _, by decide +kernel, rfl⟩

/-- A state with such entries that has the form, and a step from it. -/
theorem witness_FabricStoresStayCanonical : ∃ s t : State, FabricStoresCanonical s ∧ step s = .next t :=
  ⟨State.reset.setPort 3 { enable := true, width8 := true, lanes := [(4, { lock := true })] }, _, by decide +kernel, rfl⟩

/-- A state with such entries that has the form, and a step from it. -/
theorem witness_PoolStoresStayCanonical : ∃ s t : State, PoolStoresCanonical s ∧ step s = .next t :=
  ⟨State.reset.setPart 3 { state := .bound, tenant := 5, size := 40 }, _, by decide +kernel, rfl⟩

/-- A state with such entries that has the form, and a step from it. -/
theorem witness_PackageStoresStayCanonical : ∃ s t : State, PackageStoresCanonical s ∧ step s = .next t :=
  ⟨State.reset.setCslot 3 { state := .opened, tenant := 5 }, _, by decide +kernel, rfl⟩

/-- A state from which a step goes on. -/
theorem witness_ChipNeverChanges : ∃ s t : State, step s = .next t :=
  ⟨{ State.reset with pending := [.wheelTick] }, _, rfl⟩

/-- A state from which a step goes on. -/
theorem witness_ClockNeverRunsBack : ∃ s t : State, step s = .next t :=
  ⟨{ State.reset with pending := [.wheelTick] }, _, rfl⟩

/-- A state whose logs have their sizes, and a step from it. -/
theorem witness_LogsStayBounded : ∃ s t : State,
    (s.sec.clearLog.length ≤ 4096 ∧ s.mgmt.eventLog.length ≤ 4096 ∧ s.faults.log.length ≤ 1024) ∧ step s = .next t :=
  ⟨{ State.reset with pending := [.wheelTick] }, _, by decide +kernel, rfl⟩

def waiting0 : Wait := { id := 0, obj := 0, cond := .ge, operand := 1, req := {}, since := 0, deadline := 0 }
def waits0 : State := { State.reset with remote := { waits := List.replicate 32768 waiting0 } }
theorem waits0_full : waits0.remote.waits.length = 32768 := List.length_replicate ..
/-- A state with few waits and a step from it; a state with a full table, and a WAIT that comes to it. -/
theorem witness_WaitTableHolds :
    (∃ s t : State, s.remote.waits.length ≤ 32768 ∧ step s = .next t) ∧
    ∃ (s : State) (o : Operation), Arrives s o 0xFC ∧ o.req.posted = false ∧ addressBad { o with op := 8 } = none ∧
      s.syncOpen (addrOffset o.req.target / 64) o.req.issuer = true ∧ addrOffset o.req.target % 64 = 0 ∧
      32768 ≤ s.remote.waits.length :=
  ⟨⟨State.reset, _, by decide +kernel, rfl⟩, waits0, { op := 8, req := { target := 0xFFFF3000000FFFC0#64 } },
    ⟨rfl, by decide +kernel, by decide +kernel, by decide +kernel, by decide +kernel, by decide +kernel⟩, rfl, by decide +kernel,
    by decide +kernel, by decide +kernel, by rw [waits0_full]⟩

def op59 (target : Word64) (md : BitVec 8) : Operation := { op := 3, req := { target := target, md := md } }
abbrev Reaches59 (s : State) (o : Operation) : Prop := Arrives s o 0xE0 ∧ addrRegion o.req.target < 7 ∧ o.req.md.toNat % 16 < 11
/-- Each combination occurs. -/
theorem witness_OperatorCombinationsAreRefused :
    (Reaches59 State.reset (op59 0xFFFF200000000020#64 9) ∧ (op59 0xFFFF200000000020#64 9).req.md.toNat % 16 = 9) ∧
    (Reaches59 State.reset (op59 0xFFFF200000000020#64 0x1A) ∧ (op59 0xFFFF200000000020#64 0x1A).req.md.toNat % 16 = 10 ∧
      (op59 0xFFFF200000000020#64 0x1A).req.md.getLsbD 4 = true) ∧
    (Reaches59 State.reset (op59 0xFFFF300000000040#64 0x1A) ∧ addrRegion (op59 0xFFFF300000000040#64 0x1A).req.target = 3 ∧
      (op59 0xFFFF300000000040#64 0x1A).req.md.toNat % 16 = 10) ∧
    (Reaches59 State.reset (op59 0xFFFF300000000040#64 8) ∧ addrRegion (op59 0xFFFF300000000040#64 8).req.target = 3 ∧
      (op59 0xFFFF300000000040#64 8).req.md.getLsbD 4 = false) := by decide +kernel

def slot565 (bytes : Nat) : CommitSlot := { open17 with stageBytes := bytes }
/-- A CS_PUT with room, and one without. -/
theorem witness_StagedPutsAppendOrAreRefused :
    (∃ (s : State) (o : Operation) (n off : Nat) (x : CommitSlot), OnSlot s o 0xFF n x ∧ 1 ≤ o.length ∧ o.length ≤ 2 ^ 24 ∧
      addrRegion o.operand1 < 7 ∧ x.state = .opened ∧ csAttempt o.req.target < x.attempts ∧
      Store.read 0 x.staged (csAttempt o.req.target) + (64 + roundUp o.length 64) ≤ x.stageBytes ∧
      off = addrOffset x.stageAddr + csAttempt o.req.target * x.stageBytes + Store.read 0 x.staged (csAttempt o.req.target) ∧
      s.poolCheck off (64 + roundUp o.length 64) x.tenant none .stage = none ∧
      s.firstPoison off (64 + roundUp o.length 64) = none ∧ BytesCanonical s) ∧
    ∃ (s : State) (o : Operation) (n : Nat) (x : CommitSlot), OnSlot s o 0xFF n x ∧ 1 ≤ o.length ∧ o.length ≤ 2 ^ 24 ∧
      addrRegion o.operand1 < 7 ∧ x.state = .opened ∧ csAttempt o.req.target < x.attempts ∧
      x.stageBytes < Store.read 0 x.staged (csAttempt o.req.target) + (64 + roundUp o.length 64) :=
  ⟨⟨(slot17 open17).memWrite 5 [6], csOp17 0x78 2 77 [8, 9], 2, 65536, open17, by decide +kernel⟩,
    slot17 (slot565 64), csOp17 0x78 2 77 [8, 9], 2, slot565 64, by decide +kernel⟩

/-- Elements and places that meet the hypotheses. -/
theorem witness_PackedElementsAreABitStream : (∃ (n : Nat) (xs : List Nat), n < xs.length) ∧ ∃ k n : Nat, k < n :=
  ⟨⟨2, [1, 2, 3], by decide⟩, 2, 3, by decide⟩

/-- Every clause of RegisterWritesTakeEffect has a state and operands that meet its hypotheses. -/
theorem witness_RegisterWritesTakeEffect :
    (∃ (s : State) (i : Issuer) (v : Word32), (s.running = true) ∧ (v.toNat < 2 ^ 22)) ∧
    (∃ (s : State) (i : Issuer) (v : Word32), (s.running = true) ∧ (v.toNat < 256)) ∧
    (∃ (s : State) (i : Issuer) (v : Word32) (a : Nat), (s.running = true) ∧ (v = 0xA5C3) ∧ (s.guardedAt (s.csrReq (requesterOf
      i)).unlockIndex = some a)) :=
  ⟨⟨(State.reset), (mgmtIssuer), (0x3FFFFF), by decide +kernel⟩,
    ⟨(State.reset), ({ src := .endpoint 3, tenant := 5, node := 3 }), (255), by decide +kernel⟩,
    ⟨(State.reset.setCsrReq 64 { unlockIndex := R.plnSlotCmd 0 / 4 }), (mgmtIssuer), (0xA5C3), (R.plnSlotCmd 0), by decide +kernel⟩⟩

/-- Every clause of DictionaryArmsAndStaging has a state and operands that meet its hypotheses. -/
theorem witness_DictionaryArmsAndStaging :
    (∃ (s : State) (p : DictPath) (v : Word32), (s.running = true) ∧ (v.toNat % 65536 = 0xA5C3) ∧ (holdsRwl (v.toNat / 65536) = true)) ∧
    (∃ (s : State) (p : DictPath) (a : Nat × Nat), ((s.pathState p).arm = some a)) ∧
    (∃ (s : State) (p : DictPath) (g : Staging), ((s.pathState p).staging = some g)) :=
  ⟨⟨(State.reset), (.spi), (0x5400A5C3), by decide +kernel⟩,
    ⟨(State.reset.setPath .spi { arm := some (0x5400, 400000000) }), (.spi), ((0x5400, 400000000)), by decide +kernel⟩,
    ⟨(State.reset.setPath .smbus { staging := some { index := 0x1100, sub := 5, total := 40, bytes := [], due := 7 } }), (.smbus), ({ index := 0x1100, sub := 5, total := 40, bytes := [], due := 7 }), by decide +kernel⟩⟩

/-- Every clause of UnitCommandsBegin has a state and operands that meet its hypotheses. -/
theorem witness_UnitCommandsBegin :
    (∃ (s : State) (p : DictPath) (u : Nat) (l : UnitLoc), (Accepts s u .quiesce l)) ∧
    (∃ (s : State) (p : DictPath) (u : Nat) (l : UnitLoc), (Accepts s u .resume l) ∧ (Store.wf ({} : UnitRec) s.power.units = true)) ∧
    (∃ (s : State) (p : DictPath) (u : Nat) (l : UnitLoc), (Accepts s u .reset l) ∧ (l ≠ .package) ∧ (l ≠ .hub)) ∧
    (∃ (s : State) (p : DictPath) (u : Nat) (l : UnitLoc), (Accepts s u .powerDown l)) ∧
    (∃ (s : State) (p : DictPath) (u : Nat) (l : UnitLoc), (Accepts s u .powerUp l)) ∧
    (∃ (s : State) (p : DictPath) (u : Nat) (l : UnitLoc), (Accepts s u .updateBegin l)) ∧
    (∃ (s : State) (p : DictPath) (u : Nat) (l : UnitLoc), (Accepts s u .updateEnd l)) :=
  ⟨⟨(State.reset), (.spi), (0x8040), (.port 0), by decide +kernel⟩,
    ⟨(State.reset.setUnit (.port 0) { state := .quiesced }), (.spi), (0x8040), (.port 0), by decide +kernel⟩,
    ⟨(State.reset), (.spi), (0x8020), (.hubSection 0), by decide +kernel⟩,
    ⟨(State.reset), (.spi), (0x8020), (.hubSection 0), by decide +kernel⟩,
    ⟨(State.reset.setUnit (.port 0) { state := .poweredDown }), (.spi), (0x8040), (.port 0), by decide +kernel⟩,
    ⟨(State.reset), (.spi), (0x8015), (.portDie 0), by decide +kernel⟩,
    ⟨(State.reset.setUnit (.portDie 0) { state := .updating }), (.spi), (0x8015), (.portDie 0), by decide +kernel⟩⟩

/-- Every clause of UnitCommandsEnd has a state and operands that meet its hypotheses. -/
theorem witness_UnitCommandsEnd :
    (∃ (s : State) (u : Nat) (c : UnitCommand) (l : UnitLoc), (s.running = true) ∧ (s.draining u = some c) ∧ (s.drained c = true) ∧
      (c.contain = false) ∧ (c.timedOut = false) ∧ (unitLoc c.target = some l)) ∧
    (∃ (s : State) (u : Nat) (c : UnitCommand) (l : UnitLoc), (s.running = true) ∧ (s.power.commands.find? (fun c => c.drains &&
      !c.contain && !c.timedOut && decide (c.target = u)) = some c) ∧ (unitLoc u = some l) ∧ ((s.elapse (c.deadline.getD 0)).drained c =
      false)) ∧
    (∃ (s : State) (u : Nat) (c : UnitCommand) (l : UnitLoc), (s.running = true) ∧ (s.power.commands.find? (fun c => !c.drains && decide
      (c.target = u)) = some c) ∧ (unitLoc u = some l) ∧ (c.cmd ≠ .updateEnd)) ∧
    (∃ (s : State) (u : Nat) (c : UnitCommand), (s.running = true) ∧ (s.power.commands.find? (fun c => c.contain && decide (c.target =
      u)) = some c) ∧ ((s.elapse (c.deadline.getD 0)).drained c = true)) ∧
    (∃ (s : State) (u : Nat) (l : UnitLoc), (s.running = true) ∧ (unitLoc u = some l) ∧ (s.present l = true) ∧ (s.executing l = true)) :=
  ⟨⟨({ State.reset with power := { commands := [{ target := 0x8040, cmd := .quiesce, units := [0x8040] }] } }), (0x8040), ({ target := 0x8040, cmd := .quiesce, units := [0x8040] }), (.port 0), by decide +kernel⟩,
    ⟨({ State.reset with power := { units := [(0x8022, { state := .quiescing })], commands := [{ target := 0x8022, cmd := .quiesce, units := [0x8022] }] }, coh := { requests := [default] } }), (0x8022), ({ target := 0x8022, cmd := .quiesce, units := [0x8022] }), (.hubSection 2), by decide +kernel⟩,
    ⟨({ State.reset with power := { commands := [{ target := 0x8022, cmd := .reset, units := [0x8022] }] } }), (0x8022), ({ target := 0x8022, cmd := .reset, units := [0x8022] }), (.hubSection 2), by decide +kernel⟩,
    ⟨({ State.reset with power := { commands := [{ target := 0x8022, cmd := .quiesce, units := [0x8022], contain := true }] } }), (0x8022), ({ target := 0x8022, cmd := .quiesce, units := [0x8022], contain := true }), by decide +kernel⟩,
    ⟨({ State.reset with coh := { requests := [default] } }), (0x8022), (.hubSection 2), by decide +kernel⟩⟩

/-- Every clause of UnitTreeRequestsComplete has a state and operands that meet its hypotheses. -/
theorem witness_UnitTreeRequestsComplete :
    (∃ (s : State) (child d q : Nat) (x : TaskItem), (s.running = true) ∧ (unitLoc child = some (.quadrant d q)) ∧ (s.closed (.quadrant d
      q) = false) ∧ (s.closed (.die d) = false) ∧ (s.ownQueueEmpty (.quadrant d q) = true) ∧ (s.num (O.unitStealEnable (unitIndex (.die
      d))) 1 ≠ 0) ∧ (s.florets.items.find? (fun x => x.taken.isNone && decide (x.waitsAt = unitIndex (.die d))) = some x) ∧
      (s.servingClusters x.tenant (4 * d + q) ≠ [])) ∧
    (∃ (s : State) (p : DictPath) (r : DictRequest) (d : DictResponse) (n : Nat), (s.running = true) ∧ (s.objAbsent r.index r.sub =
      false) ∧ (s.servedBy r.index = .ok (some n)) ∧ (d.status = 0)) ∧
    (∃ (s : State) (p : DictPath) (index sub : Nat) (ps : List Nat) (l : UnitLoc), (s.running = true) ∧ (s.objAbsent index sub = false) ∧
      (unitLoc index = some l) ∧ (aboveDie l = true) ∧ ((objSpec index sub).isSome = true) ∧ (s.servedBy index = .ok none)) ∧
    (∃ (s : State) (id package : Nat) (value : Word64) (a : AggRead), (s.running = true) ∧ (s.remote.aggregates.find? (fun x => decide
      (x.id = id)) = some a) ∧ (package ∈ a.asked) ∧ (package ∉ a.replied) ∧ (package ∉ a.discarded) ∧ (a.replied.length < 1024) ∧
      (a.replied.length + 1 + a.discarded.length ≠ a.asked.length)) ∧
    (∃ (s : State) (id : Nat) (a : AggRead), (s.running = true) ∧ (s.remote.aggregates.find? (fun x => decide (x.id = id)) = some a) ∧
      (a.discarded = [])) ∧
    (∃ (s : State) (p : DictPath) (index sub : Nat), (s.running = true)) :=
  ⟨⟨({ State.reset with sec := { clusterOwner := [(0, 5)] }, florets := { items := [{ (default : TaskItem) with tenant := 5, waitsAt := 0x9000 }] } }), (0x9010), (0), (0), ({ (default : TaskItem) with tenant := 5, waitsAt := 0x9000 }), by decide +kernel⟩,
    ⟨((State.reset.setNum O.spanLevels 3).setNum O.repTray 7), (.spi), ({ op := 1, index := 0x8002, sub := 1, offset := 0 }), ({ status := 0, data := [1, 2] }), (7), by decide +kernel⟩,
    ⟨(((State.reset.setNum O.spanLevels 3).setNum O.nodeId 7).setNum O.repTray 7), (.spi), (0x8002), (0x08), ([3, 4, 3]), (.tray), by decide +kernel⟩,
    ⟨({ State.reset with remote := { aggregates := [{ id := 0, reader := .spi, index := 0x8003, sub := 0x0D, latchFtc := 0, asked := [1, 2], replied := [], deadline := 5 }] } }), (0), (1), (77), ({ id := 0, reader := .spi, index := 0x8003, sub := 0x0D, latchFtc := 0, asked := [1, 2], replied := [], deadline := 5 }), by decide +kernel⟩,
    ⟨({ State.reset with remote := { aggregates := [{ id := 0, reader := .spi, index := 0x8003, sub := 0x0D, latchFtc := 0, asked := [1, 2], replied := [], deadline := 5 }] } }), (0), ({ id := 0, reader := .spi, index := 0x8003, sub := 0x0D, latchFtc := 0, asked := [1, 2], replied := [], deadline := 5 }), by decide +kernel⟩,
    ⟨(State.reset), (.spi), (0x8003), (0x08), by decide +kernel⟩⟩

/-- Every clause of RemoteOperationsTakeEffect has a state and operands that meet its hypotheses. -/
theorem witness_RemoteOperationsTakeEffect :
    (∃ (s : State) (o : Operation), (Arrives s o 0xFF) ∧ (addressBad { o with op := 1 } = none) ∧ (addrRegion o.req.target = 2) ∧
      (s.sramBad o.req.issuer o.req.tc (addrOffset o.req.target) o.length = none) ∧ (BytesCanonical s)) ∧
    (∃ (s : State) (o : Operation), (Arrives s o 0xFF) ∧ (o.req.posted = false) ∧ (addressBad { o with op := 2 } = none) ∧ (addrRegion
      o.req.target = 2) ∧ (s.sramBad o.req.issuer o.req.tc (addrOffset o.req.target) o.length = none) ∧ ((o.req.fromDzm = true ∨
      o.req.localA = 0 ∨ s.isHere (addrNode o.req.localA) = false))) ∧
    (∃ (s : State) (o : Operation) (f : AtomicOp), (Arrives s o 0xE0) ∧ (addressBad { o with op := 3 } = none) ∧ (AtomicOp.ofCode
      (o.req.md.toNat % 16) = some f) ∧ (addrRegion o.req.target = 2) ∧ (s.sramBad o.req.issuer o.req.tc (addrOffset o.req.target) (if
      o.req.md.getLsbD 4 then 8 else 4) = none) ∧ (BytesCanonical s)) ∧
    (∃ (s : State) (o : Operation) (f : AtomicOp), (Arrives s o 0xE0) ∧ (o.req.posted = false) ∧ (addressBad { o with op := 4 } = none) ∧
      (AtomicOp.ofCode (o.req.md.toNat % 16) = some f) ∧ (addrRegion o.req.target = 2) ∧ (s.sramBad o.req.issuer o.req.tc (addrOffset
      o.req.target) (if o.req.md.getLsbD 4 then 8 else 4) = none) ∧ ((o.req.fromDzm = true ∨ o.req.localA = 0 ∨ s.isHere (addrNode
      o.req.localA) = false)) ∧ (BytesCanonical s)) ∧
    (∃ (s : State) (o : Operation), (Arrives s o 0xFF) ∧ (addressBad { o with op := 6 } = none) ∧ (addrRegion o.req.target = 2) ∧
      (s.sramBad o.req.issuer o.req.tc (addrOffset o.req.target) o.length = none) ∧ (s.syncOpen o.sync o.req.issuer = true) ∧ ((∀ x ∈
      s.remote.outstanding, x.issuer ≠ o.req.issuer)) ∧ (s.remote.notifies = []) ∧ (BytesCanonical s) ∧ (Store.wf ({} : SyncObj)
      s.remote.syncs = true)) ∧
    (∃ (s : State) (o : Operation), (Arrives s o 0xFE) ∧ (addressBad { o with op := 5 } = none) ∧ (s.syncOpen (addrOffset o.req.target /
      64) o.req.issuer = true) ∧ (addrOffset o.req.target % 64 = 0) ∧ ((∀ x ∈ s.remote.outstanding, x.issuer ≠ o.req.issuer)) ∧
      (s.remote.notifies = []) ∧ (Store.wf ({} : SyncObj) s.remote.syncs = true)) :=
  ⟨⟨(State.reset), ({ op := 1, req := { target := 0xFFFF200000000020#64 }, length := 3, data := [1, 0, 3] }), by decide +kernel⟩,
    ⟨(State.reset.sramWrite 16 [7, 8, 9]), ({ op := 2, req := { target := 0xFFFF200000000010#64, localA := 0x0007000000000000#64 }, length := 4 }), by decide +kernel⟩,
    ⟨(State.reset.sramWrite 32 [0xFF, 0xFF, 0xFF]), ({ op := 3, req := { target := 0xFFFF200000000020#64, md := 0x10, posted := true }, operand1 := 1 }), (.add), by decide +kernel⟩,
    ⟨(State.reset.sramWrite 32 [0xFF]), ({ op := 4, req := { target := 0xFFFF200000000020#64, md := 0x08 }, operand1 := 5 }), (.swap), by decide +kernel⟩,
    ⟨(State.reset), ({ op := 6, req := { target := 0xFFFF200000000020#64 }, length := 2, data := [9, 9], sync := 16383, operand1 := 7 }), by decide +kernel⟩,
    ⟨(State.reset.setSync 2 { value := 0xFFFFFFFFFFFFFFFF }), ({ op := 5, req := { target := 0xFFFF300000000080#64, posted := true }, operand1 := 1 }), by decide +kernel⟩⟩

/-- Every clause of FencesWaitsAndNops has a state and operands that meet its hypotheses. -/
theorem witness_FencesWaitsAndNops :
    (∃ (s : State) (o : Operation), (s.running = true) ∧ (o.req.fromDzm = false) ∧ (o.req.viaPort = none) ∧ (o.req.md &&& 0xFE = 0) ∧
      (o.req.tc ≠ 0) ∧ (o.req.posted = false) ∧ (o.length = 0) ∧ ((∀ x ∈ s.remote.outstanding, x.issuer ≠ o.req.issuer)) ∧ (Store.wf ({}
      : QueueCtx) s.remote.queues = true) ∧ (Store.wf ({} : EndpointPosted) s.remote.endpoints = true)) ∧
    (∃ (s : State) (o : Operation), (Arrives s o 0xFC) ∧ (o.req.posted = false) ∧ (addressBad { o with op := 8 } = none) ∧ (s.syncOpen
      (addrOffset o.req.target / 64) o.req.issuer = true) ∧ (addrOffset o.req.target % 64 = 0) ∧ (s.remote.waits.length < 32768) ∧
      (condHolds (waitCond o.req.md) (s.sync (addrOffset o.req.target / 64)).value o.operand1 = true)) ∧
    (∃ (s : State) (o : Operation), (Arrives s o 0xFC) ∧ (o.req.posted = false) ∧ (addressBad { o with op := 8 } = none) ∧ (s.syncOpen
      (addrOffset o.req.target / 64) o.req.issuer = true) ∧ (addrOffset o.req.target % 64 = 0) ∧ (s.remote.waits.length < 32768) ∧
      (condHolds (waitCond o.req.md) (s.sync (addrOffset o.req.target / 64)).value o.operand1 = false)) ∧
    (∃ (s : State) (o : Operation), (s.running = true) ∧ (o.req.fromDzm = false) ∧ (o.req.viaPort = none) ∧ (o.req.md = 0) ∧ (o.req.tc ≠
      0) ∧ (o.req.posted = false) ∧ (o.length = 0)) ∧
    (∃ (s : State) (id : Nat) (w : Wait), (s.running = true) ∧ (s.remote.waits.find? (fun x => decide (x.id = id)) = some w)) ∧
    (∃ (s : State) (d : WaitDump), (s.running = true) ∧ (s.remote.dump = some d) ∧ (d.writing = true)) ∧
    (∃ (s : State) (p : DictPath) (n : Nat) (d : WaitDump), (s.running = true) ∧ (n ≠ 0) ∧ (n = s.num O.waitDumpsWritten 0) ∧
      (s.remote.dump = some d)) :=
  ⟨⟨(State.reset.setQueue 3 { sticky := .range, firstFailSeq := 9 }), ({ op := 7, req := { issuer := { src := .queue 3, tenant := 5, node := 0 } } }), by decide +kernel⟩,
    ⟨(State.reset), ({ op := 8, req := { target := 0xFFFF3000000FFFC0#64 } }), by decide +kernel⟩,
    ⟨(State.reset), ({ op := 8, req := { target := 0xFFFF300000000040#64 }, operand1 := 1, length := 5 }), by decide +kernel⟩,
    ⟨(State.reset), ({ op := 9 }), by decide +kernel⟩,
    ⟨({ State.reset with remote := { waits := [{ id := 4, obj := 1, cond := .eq, operand := 1, req := {}, since := 0, deadline := 77 }] } }), (4), ({ id := 4, obj := 1, cond := .eq, operand := 1, req := {}, since := 0, deadline := 77 }), by decide +kernel⟩,
    ⟨({ State.reset with remote := { dump := some { number := 3, waits := [1], writing := true, started := 0 } } }), ({ number := 3, waits := [1], writing := true, started := 0 }), by decide +kernel⟩,
    ⟨({ State.reset.setNum O.waitDumpsWritten 2 with remote := { dump := some { number := 2, waits := [7], started := 0 }, waits := [{ id := 7, obj := 1, cond := .eq, operand := 1, req := {}, since := 0, deadline := 77 }] } }), (.spi), (2), ({ number := 2, waits := [7], started := 0 }), by decide +kernel⟩⟩

/-- Every clause of QueueDoorbellsTakeEffect has a state and operands that meet its hypotheses. -/
theorem witness_QueueDoorbellsTakeEffect :
    (∃ (s : State) (i : Issuer) (q : Nat) (v : Word64), (s.running = true) ∧ ((s.queue q).owner = i.tenant) ∧ ((s.queue q).kind ≠
      .completion) ∧ (bitsOf v.toNat 63 40 = 0) ∧ (bitsOf v.toNat 39 32 = (s.queue q).epoch.toNat) ∧ (BitVec.ofNat 32 v.toNat ≠ (s.queue
      q).commit) ∧ ((BitVec.ofNat 32 v.toNat - (s.queue q).commit).toNat ≤ 2 ^ 31) ∧ ((BitVec.ofNat 32 v.toNat - (s.queue q).head).toNat
      ≤ (s.queue q).slots) ∧ (Store.wf ({} : QueueCtx) s.remote.queues = true)) ∧
    (∃ (s : State) (i : Issuer) (q : Nat), (s.running = true) ∧ ((s.queue q).owner = i.tenant) ∧ ((s.queue q).state = .disabled) ∧
      (s.canEnable (s.queue q) = true) ∧ (Store.wf ({} : QueueCtx) s.remote.queues = true)) ∧
    (∃ (s : State) (i : Issuer) (q : Nat), (s.running = true) ∧ ((s.queue q).owner = i.tenant) ∧ ((s.queue q).state ≠ .disabled) ∧
      (Store.wf ({} : QueueCtx) s.remote.queues = true)) ∧
    (∃ (s : State) (q : Nat), (s.running = true) ∧ ((s.queue q).draining = true) ∧ ((s.queue q).started = []) ∧ ((s.queue q).finished =
      []) ∧ (Store.wf ({} : QueueCtx) s.remote.queues = true)) ∧
    (∃ (s : State) (i : Issuer) (q : Nat), (s.running = true) ∧ ((s.queue q).owner = i.tenant) ∧ ((s.queue q).kind ≠ .completion) ∧
      ((s.queue q).state = .enabled) ∧ (Store.wf ({} : QueueCtx) s.remote.queues = true)) ∧
    (∃ (s : State) (q : Nat), (s.running = true) ∧ ((s.queue q).state = .flushing) ∧ ((s.queue q).flushEnd = some (s.queue q).done)) ∧
    (∃ (s : State) (i : Issuer) (q : Nat), (s.running = true) ∧ ((s.queue q).owner = i.tenant) ∧ (Store.wf ({} : QueueCtx)
      s.remote.queues = true)) ∧
    (∃ (s : State) (i : Issuer) (q : Nat) (v : Word64), (s.running = true) ∧ ((s.queue q).owner = i.tenant) ∧ ((s.queue q).state =
      .disabled) ∧ (Store.wf ({} : QueueCtx) s.remote.queues = true)) :=
  ⟨⟨(State.reset.setQueue 9 { owner := 5, state := .enabled, ringLog2 := 4, epoch := 2 }), ({ src := .endpoint 3, tenant := 5, node := 3 }), (9), (0x0000000200000010#64), by decide +kernel⟩,
    ⟨(State.reset.setQueue 9 { owner := 5, ringLog2 := 20, commit := 7 }), ({ src := .endpoint 3, tenant := 5, node := 3 }), (9), by decide +kernel⟩,
    ⟨(State.reset.setQueue 9 { owner := 5, state := .enabled }), ({ src := .endpoint 3, tenant := 5, node := 3 }), (9), by decide +kernel⟩,
    ⟨(State.reset.setQueue 9 { state := .enabled, draining := true }), (9), by decide +kernel⟩,
    ⟨(State.reset.setQueue 9 { owner := 5, state := .enabled, commit := 2, epoch := 255 }), ({ src := .endpoint 3, tenant := 5, node := 3 }), (9), by decide +kernel⟩,
    ⟨(State.reset.setQueue 9 { state := .flushing, flushEnd := some 2, done := 2 }), (9), by decide +kernel⟩,
    ⟨(State.reset.setQueue 9 { owner := 5, sticky := .range }), ({ src := .endpoint 3, tenant := 5, node := 3 }), (9), by decide +kernel⟩,
    ⟨(State.reset.setQueue 524287 { owner := 5 }), ({ src := .endpoint 3, tenant := 5, node := 3 }), (524287), (0xFFFFFFFFFFFFFFFF#64), by decide +kernel⟩⟩

/-- Every clause of ItemsAndResponsesTakeEffect has a state and operands that meet its hypotheses. -/
theorem witness_ItemsAndResponsesTakeEffect :
    (∃ (s : State) (q : Nat) (remote bs : List Byte), (s.running = true) ∧ ((s.queue q).mayStart = true) ∧ ((s.queue q).kind = .submit) ∧
      ((s.fetchBytes { src := .queue q, tenant := (s.queue q).owner, node := s.nodeId } 1 ((s.queue q).slotAddr (s.queue q).head) 64
      remote).toOption = some bs) ∧ (bitsOf (fieldAt bs 0 8) 23 16 = (s.queue q).head.toNat % 256) ∧ (descBad (descOp
      { src := .queue q, tenant := (s.queue q).owner, node := s.nodeId } (s.queue q).head.toNat bs) bs = none) ∧ ((s.queue q).cqNone =
      false) ∧ (s.slotFree (s.queue q) = true) ∧ (bitAt (fieldAt bs 0 8) 12 = false) ∧ (bitAt (fieldAt bs 0 8) 13 = false) ∧ (takesData
      (bitsOf (fieldAt bs 0 8) 7 0) = false) ∧ (Store.wf ({} : QueueCtx) s.remote.queues = true)) ∧
    (∃ (s : State) (q : Nat) (st : Status), (s.running = true) ∧ ((s.queue q).mayStart = true) ∧ (s.slotFree (s.queue q) = true) ∧
      (Store.wf ({} : QueueCtx) s.remote.queues = true)) ∧
    (∃ (s : State) (q : Nat) (f : FinishedItem), (s.running = true) ∧ (s.florets.items.all (fun x => decide (x.queue ≠ q)) = true) ∧
      ((s.queue q).finished = [f]) ∧ (f.item = (s.queue q).done.toNat) ∧ ((s.queue q).cqNone = true) ∧ (Store.wf ({} : QueueCtx)
      s.remote.queues = true)) ∧
    (∃ (s : State) (i : Issuer) (n : Word32) (r : Response) (o : OutOp), (s.running = true) ∧ (r.status ≠ .ok) ∧ (s.outOp i true n.toNat
      = some o) ∧ (o.epoch = s.issuerEpoch i) ∧ ((s.stickyOf i).1 = .ok) ∧ (((issuerQueue i).isSome ||
      (match i.src with | .endpoint _ => true | _ => false)) = true) ∧ (NoneWaits s) ∧ (Store.wf ({} : QueueCtx) s.remote.queues = true)
      ∧ (Store.wf ({} : EndpointPosted) s.remote.endpoints = true)) ∧
    (∃ (s : State) (i : Issuer) (n : Word32) (o : OutOp), (s.running = true) ∧ (s.outOp i true n.toNat = some o)) ∧
    (∃ (s : State) (i : Issuer) (id epoch : Nat) (defer : Reason) (r : Response) (q : Nat) (x : StartedItem), (s.running = true) ∧ (epoch
      = s.issuerEpoch i) ∧ (i.src = .queue q) ∧ ((s.queue q).started = [x]) ∧ (x.item = id) ∧ (x.op ≠ 0x10) ∧ (Store.wf ({} : QueueCtx)
      s.remote.queues = true)) :=
  ⟨⟨((State.reset.setQueue 4 { ringBase := 0x0007200000000000#64, ringLog2 := 4, state := .enabled, owner := 5, cq := 6, cqNone := false, commit := 1 }).setQueue 6 { kind := .completion, state := .enabled, ringLog2 := 4, owner := 5 }), (4), ([9, 4] ++ List.replicate 62 0), ([9, 4] ++ List.replicate 62 0), by decide +kernel⟩,
    ⟨(State.reset.setQueue 4 { ringLog2 := 4, state := .enabled, commit := 1 }), (4), (.range), by decide +kernel⟩,
    ⟨(State.reset.setQueue 4 { finished := [{ item := 0, status := .ok, disp := .served, reason := .none, load := 0, result := 0, tag := 0, op := 1, entry := false }] }), (4), ({ item := 0, status := .ok, disp := .served, reason := .none, load := 0, result := 0, tag := 0, op := 1, entry := false }), by decide +kernel⟩,
    ⟨({ State.reset with remote := { outstanding := [{ issuer := { src := .queue 2, tenant := 5, node := 0 }, op := 1, id := 4294967295, posted := true, target := 0, tc := 4 }] } }), ({ src := .queue 2, tenant := 5, node := 0 }), (4294967295), ({ status := .range, disp := .refused }), ({ issuer := { src := .queue 2, tenant := 5, node := 0 }, op := 1, id := 4294967295, posted := true, target := 0, tc := 4 }), by decide +kernel⟩,
    ⟨({ State.reset with remote := { outstanding := [{ issuer := { src := .endpoint 2, tenant := 5, node := 2 }, op := 1, id := 1, posted := true, target := 0, tc := 4, lifetime := 64000000 }] } }), ({ src := .endpoint 2, tenant := 5, node := 2 }), (1), ({ issuer := { src := .endpoint 2, tenant := 5, node := 2 }, op := 1, id := 1, posted := true, target := 0, tc := 4, lifetime := 64000000 }), by decide +kernel⟩,
    ⟨(State.reset.setQueue 2 { started := [{ item := 3, op := 1 }] }), ({ src := .queue 2, tenant := 0xFF, node := 0xFFFF }), (3), (0), (.none), ({}), (2), ({ item := 3, op := 1 }), by decide +kernel⟩⟩

/-- Every clause of PlanLoadAndArm has a state and operands that meet its hypotheses. -/
theorem witness_PlanLoadAndArm :
    (∃ (s : State) (p : DictPath) (slot : Nat), (s.running = true) ∧ ((s.slot slot).state = .empty) ∧ ((s.slot slot).busy = none) ∧
      (Store.wf ({} : PlanSlot) s.plans.slots = true)) ∧
    (∃ (s : State) (slot : Nat) (i : PlanImage), (s.running = true) ∧ ((s.slot slot).image = some i) ∧ ((s.slot slot).busy = some .load)
      ∧ ((s.begin.copyProgram slot i).toOption.isSome = true)) ∧
    (∃ (s : State) (cl n : Nat), (s.running = true) ∧ (Store.read none s.florets.staticBy cl = some n) ∧ (s.runsItems cl = false) ∧
      ((s.slot n).undrained.contains cl = true) ∧ ((s.slot n).image.isSome = true)) ∧
    (∃ (s : State) (p : DictPath) (slot : Nat), (s.running = true) ∧ ((s.slot slot).state = .loaded) ∧ ((s.slot slot).busy = none) ∧
      (s.armBad slot (s.slot slot) = none) ∧ (Store.wf ({} : PlanSlot) s.plans.slots = true)) ∧
    (∃ (s : State) (p : DictPath) (slot : Nat), (s.running = true) ∧ ((s.slot slot).state = .halted) ∧ ((s.slot slot).resumable = true) ∧
      ((s.slot slot).busy = none) ∧ (s.armBad slot (s.slot slot) = none) ∧ (Store.wf ({} : PlanSlot) s.plans.slots = true)) ∧
    (∃ (s : State) (planId : Word64) (start fromNode : Nat) (resume : Bool), (s.running = true)) ∧
    (∃ (s : State) (planId : Word64) (member : Nat) (st : Status) (n : Nat), (s.running = true) ∧ (s.slotOf planId = some n) ∧ (((s.slot
      n).busy = some .arm ∨ (s.slot n).busy = some .resume)) ∧ ((s.slot n).armReplies.any (fun r => decide (r.1 = member)) = false)) ∧
    (∃ (s : State) (slot : Nat) (i : PlanImage), (s.running = true) ∧ (s.power.containWaits = []) ∧ ((s.slot slot).image = some i) ∧
      ((s.slot slot).busy = some .arm) ∧ ((s.slot slot).armReplies.all (fun r => decide (r.2 = .ok)) = true) ∧ ((List.range
      i.members.length).all (fun m => (s.slot slot).armReplies.any (fun r => decide (r.1 = m))) = true)) ∧
    (∃ (s : State) (slot : Nat) (i : PlanImage), (s.running = true) ∧ ((s.slot slot).state = .armed) ∧ ((s.slot slot).image = some i)) ∧
    (∃ (s : State) (p : DictPath) (slot : Nat) (i : PlanImage), (s.running = true) ∧ (planRefusal .reset (s.slot slot) = none) ∧ ((s.slot
      slot).image = some i) ∧ (((s.begin.takeArm (.dict p) (R.plnSlotCmd slot)).2.copyProgram slot i).toOption.isSome = true)) ∧
    (∃ (s : State) (p : DictPath) (slot : Nat) (i : PlanImage), (s.running = true) ∧ (planRefusal .unload (s.slot slot) = none) ∧
      ((s.slot slot).image = some i) ∧ (Store.wf ({} : PlanSlot) s.plans.slots = true)) :=
  ⟨⟨(State.reset), (.spi), (7), by decide +kernel⟩,
    ⟨(State.reset.setSlot 1 { image := some default, busy := some .load }), (1), (default), by decide +kernel⟩,
    ⟨({ State.reset.setSlot 1 { image := some default, undrained := [255] } with florets := { staticBy := [(255, some 1)] } }), (255), (1), by decide +kernel⟩,
    ⟨({ (State.reset.setSlot 1 { image := some { (default : PlanImage) with members := [{ node := 0xFFFF, endpointPorts := false }, { node := 5, endpointPorts := false }] }, state := .loaded, drained := true }).setNum (O.planStartFtc 1) 2000000 with plans := { slots := [(1, { image := some { (default : PlanImage) with members := [{ node := 0xFFFF, endpointPorts := false }, { node := 5, endpointPorts := false }] }, state := .loaded, drained := true })], lock := .locked } }), (.spi), (1), by decide +kernel⟩,
    ⟨({ State.reset.setNum (O.planStartFtc 1) 240000000000 with plans := { slots := [(1, { image := some { (default : PlanImage) with members := [{ node := 0xFFFF, endpointPorts := false }] }, state := .halted, resumable := true })], lock := .locked } }), (.spi), (1), by decide +kernel⟩,
    ⟨(State.reset), (5), (64), (9), (false), by decide +kernel⟩,
    ⟨(State.reset.setSlot 1 { image := some { (default : PlanImage) with planId := 9 }, state := .loaded, busy := some .arm }), (9), (3), (.busy), (1), by decide +kernel⟩,
    ⟨(State.reset.setSlot 1 { image := some { (default : PlanImage) with members := [{ node := 0xFFFF, endpointPorts := false }] }, state := .armed, busy := some .arm, armReplies := [(0, .ok)] }), (1), ({ (default : PlanImage) with members := [{ node := 0xFFFF, endpointPorts := false }] }), by decide +kernel⟩,
    ⟨(State.reset.setSlot 1 { image := some { (default : PlanImage) with rotationTicks := 10 }, state := .armed, armResume := true, haltRotation := 2, startFtc := 640, planTick := 7 }), (1), ({ (default : PlanImage) with rotationTicks := 10 }), by decide +kernel⟩,
    ⟨(State.reset.setSlot 1 { image := some default, state := .faulted, planTick := 99 }), (.spi), (1), (default), by decide +kernel⟩,
    ⟨(State.reset.setSlot 1 { image := some default, state := .halted, planTick := 99 }), (.spi), (1), (default), by decide +kernel⟩⟩

/-- Every clause of PlanRunsSlipsAndHalts has a state and operands that meet its hypotheses. -/
theorem witness_PlanRunsSlipsAndHalts :
    (∃ (s : State) (a : Access) (slot : Nat) (i : PlanImage), (s.running = true) ∧ (s.power.containWaits = []) ∧ ((s.takeArm a
      (R.plnSlotCmd slot)).1 = true) ∧ (planRefusal .disarm (s.slot slot) = none) ∧ ((s.slot slot).image = some i) ∧ (Store.wf ({} :
      PlanSlot) s.plans.slots = true)) ∧
    (∃ (s : State) (planId : Word64) (n : Nat) (i : PlanImage), (s.running = true) ∧ (s.power.containWaits = []) ∧ (s.slotOf planId =
      some n) ∧ ((s.slot n).image = some i) ∧ ((s.slot n).state = .armed) ∧ (s.ftc + 32 * i.slipHorizon < (s.slot n).startFtc)) ∧
    (∃ (s : State) (a : Access) (slot : Nat), (s.running = true) ∧ ((s.takeArm a (R.plnSlotCmd slot)).1 = true) ∧ (planRefusal
      .haltBoundary (s.slot slot) = none) ∧ ((s.slot slot).image.isSome = true)) ∧
    (∃ (s : State) (a : Access) (slot : Nat), (s.running = true) ∧ ((s.takeArm a (R.plnSlotCmd slot)).1 = true) ∧ (planRefusal .haltNow
      (s.slot slot) = none) ∧ ((s.slot slot).image.isSome = true)) ∧
    (∃ (s : State) (slot : Nat) (slacks : List (Nat × Int)) (i : PlanImage), (s.running = true) ∧ (s.power.containWaits = []) ∧ ((s.slot
      slot).image = some i) ∧ ((s.slot slot).state = .running) ∧ ((s.slot slot).remaining = 0) ∧ ((s.slot slot).pending = []) ∧ ((s.slot
      slot).halts = []) ∧ ((i.rotationCount = 0 ∨ (s.slot slot).planTick < i.rotationCount * i.rotationTicks))) ∧
    (∃ (s : State) (slot : Nat) (i : PlanImage), (s.running = true) ∧ (s.power.containWaits = []) ∧ ((s.slot slot).image = some i) ∧
      ((s.slot slot).state = .slipping) ∧ ((s.slot slot).remaining = 0) ∧ ((s.slot slot).pending = []) ∧ ((s.slot slot).halts = []) ∧
      ((i.rotationCount = 0 ∨ (s.slot slot).planTick < i.rotationCount * i.rotationTicks))) ∧
    (∃ (s : State) (slot : Nat) (i : PlanImage), (s.running = true) ∧ (s.power.containWaits = []) ∧ ((s.slot slot).image = some i) ∧
      (((s.slot slot).state = .running ∨ (s.slot slot).state = .slipping)) ∧ (i.rotationCount ≠ 0) ∧ (i.rotationCount * i.rotationTicks ≤
      (s.slot slot).planTick)) ∧
    (∃ (s : State) (slot : Nat) (cause : SlipCause) (ticks : Nat) (origin : Word32), (s.running = true) ∧ (((s.slot slot).state =
      .running ∨ (s.slot slot).state = .slipping)) ∧ ((s.slot slot).lateness < ticks)) ∧
    (∃ (s : State) (port : Option Nat) (k : SlipToken) (n : Nat), (s.running = true) ∧ (s.slotOf k.planId = some n) ∧ ((s.slot
      n).image.isSome = true) ∧ ((s.slot n).seen.contains (k.member, k.seq) = false) ∧ (planLive (s.slot n).state = true) ∧ (s.ftc + 64 ≤
      k.whenFtc) ∧ ((s.slot n).halts = []) ∧ ((s.slot n).pending.any (fun p => decide (p.whenFtc = k.whenFtc)) = false) ∧ ((s.slot
      n).activeTick ≠ some (k.whenFtc / 32))) ∧
    (∃ (s : State) (port : Option Nat) (k : HaltToken) (n : Nat) (i : PlanImage), (s.running = true) ∧ (s.power.containWaits = []) ∧
      (s.slotOf k.planId = some n) ∧ ((s.slot n).image = some i) ∧ ((s.slot n).seen.contains (k.member, k.seq) = false) ∧ (planLive
      (s.slot n).state = true) ∧ ((if k.byRotation then decide (k.whenVal * i.rotationTicks < (s.slot n).planTick) else decide (k.whenVal
      < s.ftc)) = false)) ∧
    (∃ (s : State) (slot : Nat) (i : PlanImage) (k : HaltToken), (s.running = true) ∧ (s.power.containWaits = []) ∧ ((s.slot slot).image
      = some i) ∧ ((s.slot slot).winner i.rotationTicks s.tick (s.slot slot).halts = some k) ∧ (planLive (s.slot slot).state = true) ∧
      ((k.byRotation = false ∨ k.whenVal * i.rotationTicks ≤ (s.slot slot).planTick))) :=
  ⟨⟨(State.reset.setSlot 1 { image := some default, state := .armed, busy := some .arm }), (.dict .spi), (1), (default), by decide +kernel⟩,
    ⟨(State.reset.setSlot 1 { image := some { (default : PlanImage) with planId := 9, slipHorizon := 16 }, state := .armed, startFtc := 513 }), (9), (1), ({ (default : PlanImage) with planId := 9, slipHorizon := 16 }), by decide +kernel⟩,
    ⟨(State.reset.setSlot 1 { image := some { (default : PlanImage) with rotationTicks := 10, slipHorizon := 16 }, state := .running, planTick := 3 }), (.dict .spi), (1), by decide +kernel⟩,
    ⟨(State.reset.setSlot 1 { image := some { (default : PlanImage) with rotationTicks := 10, slipHorizon := 16 }, state := .running, planTick := 3 }), (.dict .spi), (1), by decide +kernel⟩,
    ⟨(State.reset.setSlot 1 { image := some { (default : PlanImage) with rotationTicks := 10, slipHorizon := 16, rotationCount := 2, table := [{ effect := 9, kind := 4, depart := 0, crosses := false, multicast := false, arg0 := 5, arg1 := 1 }] }, state := .running, planTick := 19, lastTick := 40 }), (1), ([]), ({ (default : PlanImage) with rotationTicks := 10, slipHorizon := 16, rotationCount := 2, table := [{ effect := 9, kind := 4, depart := 0, crosses := false, multicast := false, arg0 := 5, arg1 := 1 }] }), by decide +kernel⟩,
    ⟨(State.reset.setSlot 1 { image := some { (default : PlanImage) with rotationTicks := 10, slipHorizon := 16 }, state := .slipping, planTick := 19, lastTick := 40, activeTick := some 3 }), (1), ({ (default : PlanImage) with rotationTicks := 10, slipHorizon := 16 }), by decide +kernel⟩,
    ⟨(State.reset.setSlot 1 { image := some { (default : PlanImage) with rotationTicks := 10, rotationCount := 2 }, state := .running, planTick := 20 }), (1), ({ (default : PlanImage) with rotationTicks := 10, rotationCount := 2 }), by decide +kernel⟩,
    ⟨(State.reset.setSlot 1 { image := some { (default : PlanImage) with slipHorizon := 16 }, state := .running }), (1), (.linkReplay), (65), (3), by decide +kernel⟩,
    ⟨(State.reset.setSlot 1 { image := some { (default : PlanImage) with planId := 9 }, state := .armed }), (some 3), ({ planId := 9, whenFtc := 64, origin := 0, member := 1, seq := 4, cause := .throttle }), (1), by decide +kernel⟩,
    ⟨(State.reset.setSlot 1 { image := some { (default : PlanImage) with planId := 9 }, state := .armed }), (some 3), ({ planId := 9, whenVal := 0, origin := 0, member := 1, seq := 4, cause := .commandNow }), (1), ({ (default : PlanImage) with planId := 9 }), by decide +kernel⟩,
    ⟨(State.reset.setSlot 1 { image := some default, state := .running, halts := [{ planId := 9, whenVal := 640, origin := 0, member := 1, seq := 4, cause := .commandNow }] }), (1), (default), ({ planId := 9, whenVal := 640, origin := 0, member := 1, seq := 4, cause := .commandNow }), by decide +kernel⟩⟩

/-- Every clause of FabricTimeKeepsStep has a state and operands that meet its hypotheses. -/
theorem witness_FabricTimeKeepsStep :
    (∃ (s : State), (s.running = true)) ∧
    (∃ (s : State) (port txFtc echoTx echoRx arrival : Nat), (s.running = true) ∧ (s.linkUp port = true)) ∧
    (∃ (s : State), (s.running = true) ∧ (s.power.containWaits = []) ∧ (s.plans.lock = .holdover)) ∧
    (∃ (s : State) (p : DictPath) (v : Word64), (s.running = true) ∧ (v.toNat % 32 = 0) ∧ (s.nodeId = s.timeRoot) ∧ (s.timeRoot ≠ 0xFFFF)
      ∧ (s.liveSlots = [])) :=
  ⟨⟨(State.reset), by decide +kernel⟩,
    ⟨({ State.reset with links := { ports := [(35, { mode := .opvitik, state := .active })] } }), (35), (100), (20), (30), (60), by decide +kernel⟩,
    ⟨({ State.reset with plans := { lock := .holdover } }), by decide +kernel⟩,
    ⟨((State.reset.setNum O.nodeId 4).setNum O.timeRootNode 4), (.spi), (0xFFFFFFFFFFFFFFE0#64), by decide +kernel⟩⟩

/-- Every clause of ScalarSlotResults has a state and operands that meet its hypotheses. -/
theorem witness_ScalarSlotResults :
    (∃ (s : State) (i : SlotIn) (w : BitVec 48), (Issues s i) ∧ (sopIs w 1 = true) ∧ (w.extractLsb' 0 25 = 0) ∧ ((sSd w = 0 ∨
      (s.slotWrote i).contains (.scalar (sSd w)) = false))) ∧
    (∃ (s : State) (i : SlotIn) (w : BitVec 48), (Issues s i) ∧ (sopIs w 2 = true) ∧ (w.extractLsb' 0 25 = 0) ∧ ((sSd w = 0 ∨
      (s.slotWrote i).contains (.scalar (sSd w)) = false))) ∧
    (∃ (s : State) (i : SlotIn) (w : BitVec 48), (Issues s i) ∧ (sopIs w 3 = true) ∧ (w.extractLsb' 0 25 = 0) ∧ ((sSd w = 0 ∨
      (s.slotWrote i).contains (.scalar (sSd w)) = false))) ∧
    (∃ (s : State) (i : SlotIn) (w : BitVec 48), (Issues s i) ∧ (sopIs w 4 = true) ∧ (w.extractLsb' 0 25 = 0) ∧ ((sSd w = 0 ∨
      (s.slotWrote i).contains (.scalar (sSd w)) = false))) ∧
    (∃ (s : State) (i : SlotIn) (w : BitVec 48), (Issues s i) ∧ (sopIs w 5 = true) ∧ (w.extractLsb' 0 25 = 0) ∧ ((sSd w = 0 ∨
      (s.slotWrote i).contains (.scalar (sSd w)) = false))) ∧
    (∃ (s : State) (i : SlotIn) (w : BitVec 48), (Issues s i) ∧ (sopIs w 6 = true) ∧ (w.extractLsb' 0 25 = 0) ∧ ((sSd w = 0 ∨
      (s.slotWrote i).contains (.scalar (sSd w)) = false))) ∧
    (∃ (s : State) (i : SlotIn) (w : BitVec 48), (Issues s i) ∧ (sopIs w 7 = true) ∧ (w.extractLsb' 0 25 = 0) ∧ ((sSd w = 0 ∨
      (s.slotWrote i).contains (.scalar (sSd w)) = false))) ∧
    (∃ (s : State) (i : SlotIn) (w : BitVec 48), (Issues s i) ∧ (sopIs w 8 = true) ∧ (w.extractLsb' 0 25 = 0) ∧ ((sSd w = 0 ∨
      (s.slotWrote i).contains (.scalar (sSd w)) = false))) ∧
    (∃ (s : State) (i : SlotIn) (w : BitVec 48), (Issues s i) ∧ (sopIs w 9 = true) ∧ (w.extractLsb' 0 25 = 0) ∧ ((sSd w = 0 ∨
      (s.slotWrote i).contains (.scalar (sSd w)) = false))) ∧
    (∃ (s : State) (i : SlotIn) (w : BitVec 48), (Issues s i) ∧ (sopIs w 10 = true) ∧ (w.extractLsb' 0 25 = 0) ∧ ((sSd w = 0 ∨
      (s.slotWrote i).contains (.scalar (sSd w)) = false))) ∧
    (∃ (s : State) (i : SlotIn) (w : BitVec 48), (Issues s i) ∧ (sopIs w 11 = true) ∧ (w.extractLsb' 0 25 = 0) ∧ ((sSd w = 0 ∨
      (s.slotWrote i).contains (.scalar (sSd w)) = false))) ∧
    (∃ (s : State) (i : SlotIn) (w : BitVec 48), (Issues s i) ∧ (sopIs w 32 = true) ∧ ((sSd w = 0 ∨ (s.slotWrote i).contains (.scalar
      (sSd w)) = false))) ∧
    (∃ (s : State) (i : SlotIn) (w : BitVec 48), (Issues s i) ∧ (sopIs w 33 = true) ∧ ((sSd w = 0 ∨ (s.slotWrote i).contains (.scalar
      (sSd w)) = false))) ∧
    (∃ (s : State) (i : SlotIn) (w : BitVec 48), (Issues s i) ∧ (sopIs w 34 = true) ∧ ((sSd w = 0 ∨ (s.slotWrote i).contains (.scalar
      (sSd w)) = false))) ∧
    (∃ (s : State) (i : SlotIn) (w : BitVec 48) (off : Nat), (Issues s i) ∧ (sopIs w 48 = true) ∧ ((sSd w = 0 ∨ (s.slotWrote i).contains
      (.scalar (sSd w)) = false)) ∧ (s.localOffset i.floret ((s.slotRegs i).s (sSa w) + imm30 w).toNat 8 8 = .ok off)) ∧
    (∃ (s : State) (i : SlotIn) (w : BitVec 48) (off : Nat), (Issues s i) ∧ (sopIs w 50 = true) ∧ ((sSd w = 0 ∨ (s.slotWrote i).contains
      (.scalar (sSd w)) = false)) ∧ (s.localOffset i.floret ((s.slotRegs i).s (sSa w) + imm30 w).toNat 4 4 = .ok off)) ∧
    (∃ (s : State) (i : SlotIn) (w : BitVec 48) (off : Nat), (Issues s i) ∧ (sopIs w 49 = true) ∧ (s.localOffset i.floret ((s.slotRegs
      i).s (sSa w) + imm30 w).toNat 8 8 = .ok off) ∧ (BytesCanonical s)) ∧
    (∃ (s : State) (i : SlotIn) (w : BitVec 48) (off : Nat), (Issues s i) ∧ (sopIs w 51 = true) ∧ (s.localOffset i.floret ((s.slotRegs
      i).s (sSa w) + imm30 w).toNat 4 4 = .ok off) ∧ (BytesCanonical s)) ∧
    (∃ (s : State) (i : SlotIn) (w : BitVec 48), (Issues s i) ∧ (sopIs w 52 = true) ∧ ((sSd w = 0 ∨ (s.slotWrote i).contains (.scalar
      (sSd w)) = false))) ∧
    (∃ (s : State) (i : SlotIn) (w : BitVec 48), (Issues s i) ∧ (sopIs w 53 = true) ∧ ((sSd w = 0 ∨ (s.slotWrote i).contains (.scalar
      (sSd w)) = false))) ∧
    (∃ (s : State) (i : SlotIn) (w : BitVec 48), (Issues s i) ∧ (sopIs w 54 = true) ∧ ((sSd w = 0 ∨ (s.slotWrote i).contains (.scalar
      (sSd w)) = false))) ∧
    (∃ (s : State) (i : SlotIn) (w : BitVec 48), (Issues s i) ∧ (sopIs w 56 = true) ∧ ((sSd w = 0 ∨ (s.slotWrote i).contains (.scalar
      (sSd w)) = false))) ∧
    (∃ (s : State) (i : SlotIn) (w : BitVec 48), (Issues s i) ∧ (sopIs w 0x37 = true)) :=
  ⟨⟨(State.reset.setFloret 5 { work := some (.task 0 0), regs := { sregs := [(1, 0xFFFFFFFFFFFFFFFF#64), (2, 0x208#64)], vregs := [(3, List.replicate 64 0x3F800000#32)] }, next := 64 }), ({ floret := 5 }), (0x10044000000#48), by decide +kernel⟩,
    ⟨(State.reset.setFloret 5 { work := some (.task 0 0), regs := { sregs := [(1, 0xFFFFFFFFFFFFFFFF#64), (2, 0x208#64)], vregs := [(3, List.replicate 64 0x3F800000#32)] }, next := 64 }), ({ floret := 5 }), (0x2f844000000#48), by decide +kernel⟩,
    ⟨(State.reset.setFloret 5 { work := some (.task 0 0), regs := { sregs := [(1, 0xFFFFFFFFFFFFFFFF#64), (2, 0x208#64)], vregs := [(3, List.replicate 64 0x3F800000#32)] }, next := 64 }), ({ floret := 5 }), (0x3f844000000#48), by decide +kernel⟩,
    ⟨(State.reset.setFloret 5 { work := some (.task 0 0), regs := { sregs := [(1, 0xFFFFFFFFFFFFFFFF#64), (2, 0x208#64)], vregs := [(3, List.replicate 64 0x3F800000#32)] }, next := 64 }), ({ floret := 5 }), (0x4f844000000#48), by decide +kernel⟩,
    ⟨(State.reset.setFloret 5 { work := some (.task 0 0), regs := { sregs := [(1, 0xFFFFFFFFFFFFFFFF#64), (2, 0x208#64)], vregs := [(3, List.replicate 64 0x3F800000#32)] }, next := 64 }), ({ floret := 5 }), (0x5f844000000#48), by decide +kernel⟩,
    ⟨(State.reset.setFloret 5 { work := some (.task 0 0), regs := { sregs := [(1, 0xFFFFFFFFFFFFFFFF#64), (2, 0x208#64)], vregs := [(3, List.replicate 64 0x3F800000#32)] }, next := 64 }), ({ floret := 5 }), (0x6f844000000#48), by decide +kernel⟩,
    ⟨(State.reset.setFloret 5 { work := some (.task 0 0), regs := { sregs := [(1, 0xFFFFFFFFFFFFFFFF#64), (2, 0x208#64)], vregs := [(3, List.replicate 64 0x3F800000#32)] }, next := 64 }), ({ floret := 5 }), (0x7f844000000#48), by decide +kernel⟩,
    ⟨(State.reset.setFloret 5 { work := some (.task 0 0), regs := { sregs := [(1, 0xFFFFFFFFFFFFFFFF#64), (2, 0x208#64)], vregs := [(3, List.replicate 64 0x3F800000#32)] }, next := 64 }), ({ floret := 5 }), (0x8f844000000#48), by decide +kernel⟩,
    ⟨(State.reset.setFloret 5 { work := some (.task 0 0), regs := { sregs := [(1, 0xFFFFFFFFFFFFFFFF#64), (2, 0x208#64)], vregs := [(3, List.replicate 64 0x3F800000#32)] }, next := 64 }), ({ floret := 5 }), (0x9f844000000#48), by decide +kernel⟩,
    ⟨(State.reset.setFloret 5 { work := some (.task 0 0), regs := { sregs := [(1, 0xFFFFFFFFFFFFFFFF#64), (2, 0x208#64)], vregs := [(3, List.replicate 64 0x3F800000#32)] }, next := 64 }), ({ floret := 5 }), (0xaf844000000#48), by decide +kernel⟩,
    ⟨(State.reset.setFloret 5 { work := some (.task 0 0), regs := { sregs := [(1, 0xFFFFFFFFFFFFFFFF#64), (2, 0x208#64)], vregs := [(3, List.replicate 64 0x3F800000#32)] }, next := 64 }), ({ floret := 5 }), (0xbf844000000#48), by decide +kernel⟩,
    ⟨(State.reset.setFloret 5 { work := some (.task 0 0), regs := { sregs := [(1, 0xFFFFFFFFFFFFFFFF#64), (2, 0x208#64)], vregs := [(3, List.replicate 64 0x3F800000#32)] }, next := 64 }), ({ floret := 5 }), (0x20387fffffff#48), by decide +kernel⟩,
    ⟨(State.reset.setFloret 5 { work := some (.task 0 0), regs := { sregs := [(1, 0xFFFFFFFFFFFFFFFF#64), (2, 0x208#64)], vregs := [(3, List.replicate 64 0x3F800000#32)] }, next := 64 }), ({ floret := 5 }), (0x21387fffffff#48), by decide +kernel⟩,
    ⟨(State.reset.setFloret 5 { work := some (.task 0 0), regs := { sregs := [(1, 0xFFFFFFFFFFFFFFFF#64), (2, 0x208#64)], vregs := [(3, List.replicate 64 0x3F800000#32)] }, next := 64 }), ({ floret := 5 }), (0x22387fffffff#48), by decide +kernel⟩,
    ⟨((State.reset.setFloret 5 { work := some (.task 0 0), regs := { sregs := [(1, 0xFFFFFFFFFFFFFFFF#64), (2, 0x208#64)], vregs := [(3, List.replicate 64 0x3F800000#32)] }, next := 64 }).sramWrite 655880 [1, 2, 3, 4, 5, 6, 7, 8]), ({ floret := 5 }), (0x303880000000#48), (655880), by decide +kernel⟩,
    ⟨((State.reset.setFloret 5 { work := some (.task 0 0), regs := { sregs := [(1, 0xFFFFFFFFFFFFFFFF#64), (2, 0x208#64)], vregs := [(3, List.replicate 64 0x3F800000#32)] }, next := 64 }).sramWrite 655880 [1, 2, 3, 4, 5, 6, 7, 8]), ({ floret := 5 }), (0x323880000000#48), (655880), by decide +kernel⟩,
    ⟨(State.reset.setFloret 5 { work := some (.task 0 0), regs := { sregs := [(1, 0xFFFFFFFFFFFFFFFF#64), (2, 0x208#64)], vregs := [(3, List.replicate 64 0x3F800000#32)] }, next := 64 }), ({ floret := 5 }), (0x310880000000#48), (655880), by decide +kernel⟩,
    ⟨(State.reset.setFloret 5 { work := some (.task 0 0), regs := { sregs := [(1, 0xFFFFFFFFFFFFFFFF#64), (2, 0x208#64)], vregs := [(3, List.replicate 64 0x3F800000#32)] }, next := 64 }), ({ floret := 5 }), (0x330880000000#48), (655880), by decide +kernel⟩,
    ⟨((State.reset.setFloret 5 { work := some (.task 0 0), regs := { sregs := [(1, 0xFFFFFFFFFFFFFFFF#64), (2, 0x208#64)], vregs := [(3, List.replicate 64 0x3F800000#32)] }, next := 64 }).setTag 5 63 { result := 9, status := .range }), ({ floret := 5 }), (0x34380000003f#48), by decide +kernel⟩,
    ⟨((State.reset.setFloret 5 { work := some (.task 0 0), regs := { sregs := [(1, 0xFFFFFFFFFFFFFFFF#64), (2, 0x208#64)], vregs := [(3, List.replicate 64 0x3F800000#32)] }, next := 64 }).setTag 5 63 { result := 9, status := .range }), ({ floret := 5 }), (0x35380000003f#48), by decide +kernel⟩,
    ⟨((State.reset.setFloret 5 { work := some (.task 0 0), regs := { sregs := [(1, 0xFFFFFFFFFFFFFFFF#64), (2, 0x208#64)], vregs := [(3, List.replicate 64 0x3F800000#32)] }, next := 64 }).setTag 5 63 { result := 9, status := .range }), ({ floret := 5 }), (0x36380000003f#48), by decide +kernel⟩,
    ⟨((State.reset.setFloret 5 { work := some (.task 0 0), regs := { sregs := [(1, 0xFFFFFFFFFFFFFFFF#64), (2, 0x208#64)], vregs := [(3, List.replicate 64 0x3F800000#32)] }, next := 64 }).setTag 5 63 { result := 9, status := .range }), ({ floret := 5 }), (0x38380000003f#48), by decide +kernel⟩,
    ⟨(State.reset.setFloret 5 { work := some (.task 0 0), regs := { flags := 31 } }), ({ floret := 5 }), (0x370000000000#48), by decide +kernel⟩⟩

/-- Every clause of VectorSlotResults has a state and operands that meet its hypotheses. -/
theorem witness_VectorSlotResults :
    (∃ (s : State) (i : SlotIn) (w : BitVec 64), (Issues s i) ∧ ((vSlot w).vop = 1) ∧ ((vSlot w).rnd ≠ 3) ∧ ((s.slotWrote i).contains
      (.vector (vSlot w).vd) = false)) ∧
    (∃ (s : State) (i : SlotIn) (w : BitVec 64), (Issues s i) ∧ ((vSlot w).vop = 2) ∧ ((vSlot w).rnd ≠ 3) ∧ ((s.slotWrote i).contains
      (.vector (vSlot w).vd) = false)) ∧
    (∃ (s : State) (i : SlotIn) (w : BitVec 64), (Issues s i) ∧ ((vSlot w).vop = 3) ∧ ((vSlot w).rnd ≠ 3) ∧ ((s.slotWrote i).contains
      (.vector (vSlot w).vd) = false)) ∧
    (∃ (s : State) (i : SlotIn) (w : BitVec 64), (Issues s i) ∧ ((vSlot w).vop = 4) ∧ ((vSlot w).rnd ≠ 3) ∧ ((s.slotWrote i).contains
      (.vector (vSlot w).vd) = false)) ∧
    (∃ (s : State) (i : SlotIn) (w : BitVec 64), (Issues s i) ∧ ((vSlot w).vop = 5) ∧ ((vSlot w).rnd ≠ 3) ∧ ((s.slotWrote i).contains
      (.vector (vSlot w).vd) = false)) ∧
    (∃ (s : State) (i : SlotIn) (w : BitVec 64), (Issues s i) ∧ ((vSlot w).vop = 6) ∧ ((vSlot w).rnd ≠ 3) ∧ ((s.slotWrote i).contains
      (.vector (vSlot w).vd) = false)) ∧
    (∃ (s : State) (i : SlotIn) (w : BitVec 64), (Issues s i) ∧ ((vSlot w).vop = 7) ∧ ((vSlot w).rnd ≠ 3) ∧ ((s.slotWrote i).contains
      (.vector (vSlot w).vd) = false)) ∧
    (∃ (s : State) (i : SlotIn) (w : BitVec 64), (Issues s i) ∧ ((vSlot w).vop = 9) ∧ ((vSlot w).rnd ≠ 3) ∧ ((s.slotWrote i).contains
      (.vector (vSlot w).vd) = false)) ∧
    (∃ (s : State) (i : SlotIn) (w : BitVec 64), (Issues s i) ∧ ((vSlot w).vop = 10) ∧ ((vSlot w).rnd ≠ 3) ∧ ((s.slotWrote i).contains
      (.vector (vSlot w).vd) = false)) ∧
    (∃ (s : State) (i : SlotIn) (w : BitVec 64), (Issues s i) ∧ ((vSlot w).vop = 20) ∧ ((vSlot w).rnd ≠ 3) ∧ ((s.slotWrote i).contains
      (.vector (vSlot w).vd) = false)) ∧
    (∃ (s : State) (i : SlotIn) (w : BitVec 64), (Issues s i) ∧ ((vSlot w).vop = 21) ∧ ((vSlot w).rnd ≠ 3) ∧ ((s.slotWrote i).contains
      (.vector (vSlot w).vd) = false)) ∧
    (∃ (s : State) (i : SlotIn) (w : BitVec 64), (Issues s i) ∧ ((vSlot w).vop = 22) ∧ ((vSlot w).rnd ≠ 3) ∧ ((s.slotWrote i).contains
      (.vector (vSlot w).vd) = false)) ∧
    (∃ (s : State) (i : SlotIn) (w : BitVec 64), (Issues s i) ∧ ((vSlot w).vop = 23) ∧ ((vSlot w).rnd ≠ 3) ∧ ((s.slotWrote i).contains
      (.vector (vSlot w).vd) = false)) ∧
    (∃ (s : State) (i : SlotIn) (w : BitVec 64), (Issues s i) ∧ ((vSlot w).vop = 8) ∧ ((vSlot w).rnd ≠ 3) ∧ ((s.slotWrote i).contains
      (.vector (vSlot w).vd) = false)) ∧
    (∃ (s : State) (i : SlotIn) (w : BitVec 64), (Issues s i) ∧ ((vSlot w).vop = 11) ∧ ((vSlot w).rnd ≠ 3) ∧ ((s.slotWrote i).contains
      (.vector (vSlot w).vd) = false)) ∧
    (∃ (s : State) (i : SlotIn) (w : BitVec 64), (Issues s i) ∧ ((vSlot w).vop = 12) ∧ ((vSlot w).rnd ≠ 3) ∧ ((s.slotWrote i).contains
      (.vector (vSlot w).vd) = false)) ∧
    (∃ (s : State) (i : SlotIn) (w : BitVec 64), (Issues s i) ∧ ((vSlot w).vop = 0xD) ∧ ((vSlot w).rnd ≠ 3) ∧ ((vSlot w).vd % 8 ≠ 0) ∧
      ((s.slotWrote i).contains (.mask ((vSlot w).vd % 8)) = false)) ∧
    (∃ (s : State) (i : SlotIn) (w : BitVec 64), (Issues s i) ∧ ((vSlot w).vop = 14) ∧ ((vSlot w).rnd ≠ 3) ∧ ((s.slotWrote i).contains
      (.vector (vSlot w).vd) = false)) ∧
    (∃ (s : State) (i : SlotIn) (w : BitVec 64), (Issues s i) ∧ ((vSlot w).vop = 19) ∧ ((vSlot w).rnd ≠ 3) ∧ ((s.slotWrote i).contains
      (.vector (vSlot w).vd) = false)) :=
  ⟨⟨(State.reset.setFloret 5 { work := some (.task 0 0), regs := { sregs := [(1, 0xFFFFFFFFFFFFFFFF#64), (2, 0x208#64)], vregs := [(3, List.replicate 64 0x3F800000#32)] }, next := 64 }), ({ floret := 5 }), (0x1f8c63000000000#64), by decide +kernel⟩,
    ⟨(State.reset.setFloret 5 { work := some (.task 0 0), regs := { sregs := [(1, 0xFFFFFFFFFFFFFFFF#64), (2, 0x208#64)], vregs := [(3, List.replicate 64 0x3F800000#32)] }, next := 64 }), ({ floret := 5 }), (0x2f8c63000000000#64), by decide +kernel⟩,
    ⟨(State.reset.setFloret 5 { work := some (.task 0 0), regs := { sregs := [(1, 0xFFFFFFFFFFFFFFFF#64), (2, 0x208#64)], vregs := [(3, List.replicate 64 0x3F800000#32)] }, next := 64 }), ({ floret := 5 }), (0x3f8c63000000000#64), by decide +kernel⟩,
    ⟨(State.reset.setFloret 5 { work := some (.task 0 0), regs := { sregs := [(1, 0xFFFFFFFFFFFFFFFF#64), (2, 0x208#64)], vregs := [(3, List.replicate 64 0x3F800000#32)] }, next := 64 }), ({ floret := 5 }), (0x4f8c63000000000#64), by decide +kernel⟩,
    ⟨(State.reset.setFloret 5 { work := some (.task 0 0), regs := { sregs := [(1, 0xFFFFFFFFFFFFFFFF#64), (2, 0x208#64)], vregs := [(3, List.replicate 64 0x3F800000#32)] }, next := 64 }), ({ floret := 5 }), (0x5f8c63000000000#64), by decide +kernel⟩,
    ⟨(State.reset.setFloret 5 { work := some (.task 0 0), regs := { sregs := [(1, 0xFFFFFFFFFFFFFFFF#64), (2, 0x208#64)], vregs := [(3, List.replicate 64 0x3F800000#32)] }, next := 64 }), ({ floret := 5 }), (0x6f8c63000000000#64), by decide +kernel⟩,
    ⟨(State.reset.setFloret 5 { work := some (.task 0 0), regs := { sregs := [(1, 0xFFFFFFFFFFFFFFFF#64), (2, 0x208#64)], vregs := [(3, List.replicate 64 0x3F800000#32)] }, next := 64 }), ({ floret := 5 }), (0x7f8c63000000000#64), by decide +kernel⟩,
    ⟨(State.reset.setFloret 5 { work := some (.task 0 0), regs := { sregs := [(1, 0xFFFFFFFFFFFFFFFF#64), (2, 0x208#64)], vregs := [(3, List.replicate 64 0x3F800000#32)] }, next := 64 }), ({ floret := 5 }), (0x9f8c63000000000#64), by decide +kernel⟩,
    ⟨(State.reset.setFloret 5 { work := some (.task 0 0), regs := { sregs := [(1, 0xFFFFFFFFFFFFFFFF#64), (2, 0x208#64)], vregs := [(3, List.replicate 64 0x3F800000#32)] }, next := 64 }), ({ floret := 5 }), (0xaf8c63000000000#64), by decide +kernel⟩,
    ⟨(State.reset.setFloret 5 { work := some (.task 0 0), regs := { sregs := [(1, 0xFFFFFFFFFFFFFFFF#64), (2, 0x208#64)], vregs := [(3, List.replicate 64 0x3F800000#32)] }, next := 64 }), ({ floret := 5 }), (0x14f8c63000000000#64), by decide +kernel⟩,
    ⟨(State.reset.setFloret 5 { work := some (.task 0 0), regs := { sregs := [(1, 0xFFFFFFFFFFFFFFFF#64), (2, 0x208#64)], vregs := [(3, List.replicate 64 0x3F800000#32)] }, next := 64 }), ({ floret := 5 }), (0x15f8c63000000000#64), by decide +kernel⟩,
    ⟨(State.reset.setFloret 5 { work := some (.task 0 0), regs := { sregs := [(1, 0xFFFFFFFFFFFFFFFF#64), (2, 0x208#64)], vregs := [(3, List.replicate 64 0x3F800000#32)] }, next := 64 }), ({ floret := 5 }), (0x16f8c63000000000#64), by decide +kernel⟩,
    ⟨(State.reset.setFloret 5 { work := some (.task 0 0), regs := { sregs := [(1, 0xFFFFFFFFFFFFFFFF#64), (2, 0x208#64)], vregs := [(3, List.replicate 64 0x3F800000#32)] }, next := 64 }), ({ floret := 5 }), (0x17f8c63000000000#64), by decide +kernel⟩,
    ⟨(State.reset.setFloret 5 { work := some (.task 0 0), regs := { sregs := [(1, 0xFFFFFFFFFFFFFFFF#64), (2, 0x208#64)], vregs := [(3, List.replicate 64 0x3F800000#32)] }, next := 64 }), ({ floret := 5 }), (0x8f8c63000000000#64), by decide +kernel⟩,
    ⟨(State.reset.setFloret 5 { work := some (.task 0 0), regs := { sregs := [(1, 0xFFFFFFFFFFFFFFFF#64), (2, 0x208#64)], vregs := [(3, List.replicate 64 0x3F800000#32)] }, next := 64 }), ({ floret := 5 }), (0xbf8c63000000000#64), by decide +kernel⟩,
    ⟨(State.reset.setFloret 5 { work := some (.task 0 0), regs := { sregs := [(1, 0xFFFFFFFFFFFFFFFF#64), (2, 0x208#64)], vregs := [(3, List.replicate 64 0x3F800000#32)] }, next := 64 }), ({ floret := 5 }), (0xcf8c63000000000#64), by decide +kernel⟩,
    ⟨(State.reset.setFloret 5 { work := some (.task 0 0), regs := { sregs := [(1, 0xFFFFFFFFFFFFFFFF#64), (2, 0x208#64)], vregs := [(3, List.replicate 64 0x3F800000#32)] }, next := 64 }), ({ floret := 5 }), (0xd38c83000000003#64), by decide +kernel⟩,
    ⟨(State.reset.setFloret 5 { work := some (.task 0 0), regs := { sregs := [(1, 0xFFFFFFFFFFFFFFFF#64), (2, 0x208#64)], vregs := [(3, List.replicate 64 0x3F800000#32)] }, next := 64 }), ({ floret := 5 }), (0xef8c83000000000#64), by decide +kernel⟩,
    ⟨(State.reset.setFloret 5 { work := some (.task 0 0), regs := { sregs := [(1, 0xFFFFFFFFFFFFFFFF#64), (2, 0x208#64)], vregs := [(3, List.replicate 64 0x3F800000#32)] }, next := 64 }), ({ floret := 5 }), (0x13f8c83000100000#64), by decide +kernel⟩⟩

/-- Every clause of ConversionLoadStoreAndMatrixResults has a state and operands that meet its hypotheses. -/
theorem witness_ConversionLoadStoreAndMatrixResults :
    (∃ (s : State) (i : SlotIn) (w : BitVec 64), (Issues s i) ∧ ((vSlot w).vop = 15) ∧ ((vSlot w).rnd ≠ 3) ∧ ((s.slotWrote i).contains
      (.vector (vSlot w).vd) = false) ∧ (fmtOk (vSlot w).fmt = true) ∧ (w.getLsbD 0 = true)) ∧
    (∃ (s : State) (i : SlotIn) (w : BitVec 64), (Issues s i) ∧ ((vSlot w).vop = 15) ∧ ((vSlot w).rnd ≠ 3) ∧ ((s.slotWrote i).contains
      (.vector (vSlot w).vd) = false) ∧ (fmtOk (vSlot w).fmt = true) ∧ (w.getLsbD 0 = false) ∧ ((vSlot w).mask = 0)) ∧
    (∃ (s : State) (i : SlotIn) (w : BitVec 64) (off : Nat), (Issues s i) ∧ ((vSlot w).vop = 16) ∧ ((vSlot w).rnd ≠ 3) ∧ ((s.slotWrote
      i).contains (.vector (vSlot w).vd) = false) ∧ (s.localOffset i.floret (localSum ((s.slotRegs i).s (vSlot w).sx) (vSlot w).imm) 256
      64 = .ok off)) ∧
    (∃ (s : State) (i : SlotIn) (w : BitVec 64) (off : Nat), (Issues s i) ∧ ((vSlot w).vop = 0x11) ∧ ((vSlot w).rnd ≠ 3) ∧ (fmtOk (vSlot
      w).fmt = true) ∧ (s.localOffset i.floret (localSum ((s.slotRegs i).s (vSlot w).sx) (vSlot w).imm) ((bytesOfLanes ((s.slotRegs i).v
      (vSlot w).vd)).take (storeBytes (vSlot w).fmt)).length 16 = .ok off) ∧ (BytesCanonical s)) ∧
    (∃ (s : State) (i : SlotIn) (w : BitVec 64) (off : Nat), (Issues s i) ∧ ((vSlot w).vop = 0x12) ∧ ((vSlot w).rnd ≠ 3) ∧ (fmtOk (vSlot
      w).fmt = true) ∧ (s.localOffset i.floret (localSum ((s.slotRegs i).s (vSlot w).sx) (vSlot w).imm) ((bytesOfLanes ((s.slotRegs i).v
      (vSlot w).vd)).drop 254).length 1 = .ok off) ∧ (BytesCanonical s)) ∧
    (∃ (s : State) (i : SlotIn) (w : BitVec 64), (Issues s i) ∧ ((mSlot w).mop = 1) ∧ (w.extractLsb' 0 18 = 0) ∧ ((mSlot w).share ≠ 3) ∧
      ((mSlot w).acc < 2) ∧ ((mSlot w).tile / 2 + (mSlot w).count ≤ 32) ∧ (fmtOk (mSlot w).fmtA = true) ∧ (fmtOk (mSlot w).fmtB = true) ∧
      (mmaBad (mSlot w) (s.slotRegs i) = false) ∧ (((s.slotRegs i).s (mSlot w).ss).toNat % 16 = 0) ∧ ((List.range (mSlot w).count).all
      (fun n => (s.mmaRead i.floret (s.slotRegs i) (mSlot w) n).toOption.isSome) = true) ∧ ((mSlot w).tiles.all (fun n => !((s.slotWrote
      i).contains (.tile n))) = true)) ∧
    (∃ (s : State) (i : SlotIn) (w : BitVec 64), (Issues s i) ∧ ((mSlot w).mop = 2) ∧ (w.extractLsb' 0 18 = 0) ∧ ((mSlot w).share ≠ 3) ∧
      ((mSlot w).acc < 2) ∧ ((mSlot w).tile / 2 + (mSlot w).count ≤ 32) ∧ ((mSlot w).count = 1) ∧ ((s.slotWrote i).contains (.vector
      (mSlot w).sa) = false)) ∧
    (∃ (s : State) (i : SlotIn) (w : BitVec 64), (Issues s i) ∧ ((mSlot w).mop = 3) ∧ (w.extractLsb' 0 18 = 0) ∧ ((mSlot w).share ≠ 3) ∧
      ((mSlot w).acc < 2) ∧ ((mSlot w).tile / 2 + (mSlot w).count ≤ 32) ∧ ((s.slotWrote i).contains (.tile (mSlot w).tile) = false)) ∧
    (∃ (s : State) (i : SlotIn) (w : BitVec 64), (Issues s i) ∧ ((mSlot w).mop = 4) ∧ (w.extractLsb' 0 18 = 0) ∧ ((mSlot w).share ≠ 3) ∧
      ((mSlot w).acc < 2) ∧ ((mSlot w).tile / 2 + (mSlot w).count ≤ 32) ∧ ((mSlot w).tiles.all (fun n => !((s.slotWrote i).contains
      (.tile n))) = true)) :=
  ⟨⟨(State.reset.setFloret 5 { work := some (.task 0 0), regs := { sregs := [(1, 0xFFFFFFFFFFFFFFFF#64), (2, 0x208#64)], vregs := [(3, List.replicate 64 0x3F800000#32)] }, next := 64 }), ({ floret := 5 }), (0xff8c00080000001#64), by decide +kernel⟩,
    ⟨(State.reset.setFloret 5 { work := some (.task 0 0), regs := { sregs := [(1, 0xFFFFFFFFFFFFFFFF#64), (2, 0x208#64)], vregs := [(3, List.replicate 64 0x3F800000#32)] }, next := 64 }), ({ floret := 5 }), (0xff8c00088000000#64), by decide +kernel⟩,
    ⟨(State.reset.setFloret 5 { work := some (.task 0 0), regs := { sregs := [(1, 0xFFFFFFFFFFFFFFFF#64), (2, 0x208#64)], vregs := [(3, List.replicate 64 0x3F800000#32)] }, next := 64 }), ({ floret := 5 }), (0x10f80000002ffff8#64), (655872), by decide +kernel⟩,
    ⟨(State.reset.setFloret 5 { work := some (.task 0 0), regs := { sregs := [(1, 0xFFFFFFFFFFFFFFFF#64), (2, 0x208#64)], vregs := [(3, List.replicate 64 0x3F800000#32)] }, next := 64 }), ({ floret := 5 }), (0x11180000802ffff8#64), (655872), by decide +kernel⟩,
    ⟨(State.reset.setFloret 5 { work := some (.task 0 0), regs := { sregs := [(1, 0xFFFFFFFFFFFFFFFF#64), (2, 0x208#64)], vregs := [(3, List.replicate 64 0x3F800000#32)] }, next := 64 }), ({ floret := 5 }), (0x12180000c02ffff8#64), (655872), by decide +kernel⟩,
    ⟨(State.reset.setFloret 5 { work := some (.task 0 0), regs := { sregs := [(1, 0xFFFFFFFFFFFFFFFF#64), (2, 0x208#64)], vregs := [(3, List.replicate 64 0x3F800000#32)] }, next := 64 }), ({ floret := 5 }), (0x508f80000040000#64), by decide +kernel⟩,
    ⟨(State.reset.setFloret 5 { work := some (.task 0 0), regs := { sregs := [(1, 0xFFFFFFFFFFFFFFFF#64), (2, 0x208#64)], vregs := [(3, List.replicate 64 0x3F800000#32)] }, next := 64 }), ({ floret := 5 }), (0x908fc0400000000#64), by decide +kernel⟩,
    ⟨(State.reset.setFloret 5 { work := some (.task 0 0), regs := { sregs := [(1, 0xFFFFFFFFFFFFFFFF#64), (2, 0x208#64)], vregs := [(3, List.replicate 64 0x3F800000#32)] }, next := 64 }), ({ floret := 5 }), (0xd68fc0300000000#64), by decide +kernel⟩,
    ⟨(State.reset.setFloret 5 { work := some (.task 0 0), regs := { sregs := [(1, 0xFFFFFFFFFFFFFFFF#64), (2, 0x208#64)], vregs := [(3, List.replicate 64 0x3F800000#32)] }, next := 64 }), ({ floret := 5 }), (0x116807e000000000#64), by decide +kernel⟩⟩

/-- Every clause of ControlSlotEffects has a state and operands that meet its hypotheses. -/
theorem witness_ControlSlotEffects :
    (∃ (s : State) (i : SlotIn) (w : BitVec 24), (Issues s i) ∧ (copIs w 1 = true)) ∧
    (∃ (s : State) (i : SlotIn) (w : BitVec 24), (Issues s i) ∧ (copIs w 2 = true)) ∧
    (∃ (s : State) (i : SlotIn) (w : BitVec 24), (Issues s i) ∧ (copIs w 3 = true)) ∧
    (∃ (s : State) (i : SlotIn) (w : BitVec 24), (Issues s i) ∧ (copIs w 4 = true)) ∧
    (∃ (s : State) (i : SlotIn) (w : BitVec 24), (Issues s i) ∧ (copIs w 5 = true)) ∧
    (∃ (s : State) (i : SlotIn) (w : BitVec 24), (Issues s i) ∧ (copIs w 6 = true) ∧ ((s.staticSlotOf (i.floret / 16)).isSome = true) ∧
      (Store.read none s.florets.barriers (16 * (i.floret / 16) + (w.extractLsb' 0 4).toNat) = none) ∧ ((List.range 16).all (fun j =>
      !((((s.slotRegs i).s (cReg w)).extractLsb' 0 16).getLsbD j) || [i.floret % 16].contains j) = false)) ∧
    (∃ (s : State) (i : SlotIn) (w : BitVec 24), (Issues s i) ∧ (copIs w 7 = true) ∧ ((s.staticSlotOf (i.floret / 16)).isSome = true)) ∧
    (∃ (s : State) (i : SlotIn) (w : BitVec 24), (Issues s i) ∧ (copIs w 8 = true)) ∧
    (∃ (s : State) (i : SlotIn) (w : BitVec 24) (id k : Nat), (Issues s i) ∧ (copIs w 9 = true) ∧ ((s.floret i.floret).work = some (.task
      id k)) ∧ (Store.wf ({} : Floret) s.florets.florets = true)) ∧
    (∃ (s : State) (i : SlotIn) (w : BitVec 24) (n k : Nat), (Issues s i) ∧ (copIs w 9 = true) ∧ ((s.floret i.floret).work = some (.entry
      n k)) ∧ (Store.wf ({} : Floret) s.florets.florets = true)) ∧
    (∃ (s : State) (f : Nat), (s.running = true) ∧ ((s.floret f).work.isSome = true) ∧ ((s.floret f).ending = false) ∧ (s.stalled f =
      false)) ∧
    (∃ (s : State) (f : Nat), (s.running = true) ∧ ((s.floret f).work.isSome = true) ∧ (s.stalled f = false) ∧ ((s.floret f).anyBusy =
      true)) ∧
    (∃ (s : State) (f : Nat), (s.running = true) ∧ ((s.floret f).work.isSome = true) ∧ (s.stalled f = false) ∧ ((s.floret f).anyBusy =
      false) ∧ (Store.wf ({} : Floret) s.florets.florets = true)) :=
  ⟨⟨(State.reset.setFloret 5 { work := some (.task 0 0), regs := { sregs := [(1, 0xFFFFFFFFFFFFFFFF#64), (2, 0x208#64)], vregs := [(3, List.replicate 64 0x3F800000#32)] }, next := 64 }), ({ floret := 5 }), (0x83fff#24), by decide +kernel⟩,
    ⟨(State.reset.setFloret 5 { work := some (.task 0 0), regs := { sregs := [(1, 0xFFFFFFFFFFFFFFFF#64), (2, 0x208#64)], vregs := [(3, List.replicate 64 0x3F800000#32)] }, next := 64 }), ({ floret := 5 }), (0x103fff#24), by decide +kernel⟩,
    ⟨(State.reset.setFloret 5 { work := some (.task 0 0), regs := { sregs := [(1, 0xFFFFFFFFFFFFFFFF#64), (2, 0x208#64)], vregs := [(3, List.replicate 64 0x3F800000#32)] }, next := 64 }), ({ floret := 5 }), (0x183fff#24), by decide +kernel⟩,
    ⟨(State.reset.setFloret 5 { work := some (.task 0 0), regs := { sregs := [(1, 0xFFFFFFFFFFFFFFFF#64), (2, 0x208#64)], vregs := [(3, List.replicate 64 0x3F800000#32)] }, next := 64 }), ({ floret := 5 }), (0x20003f#24), by decide +kernel⟩,
    ⟨(State.reset.setFloret 5 { work := some (.task 0 0), regs := { sregs := [(1, 0xFFFFFFFFFFFFFFFF#64), (2, 0x208#64)], vregs := [(3, List.replicate 64 0x3F800000#32)] }, next := 64 }), ({ floret := 5 }), (0x28003f#24), by decide +kernel⟩,
    ⟨({ State.reset.setFloret 5 { work := some (.task 0 0), regs := { sregs := [(1, 0xFFFFFFFFFFFFFFFF#64), (2, 0x208#64)], vregs := [(3, List.replicate 64 0x3F800000#32)] }, next := 64 } with florets := { florets := [(5, { work := some (.entry 0 0), regs := { sregs := [(1, 0xFFFF#64)] } })], staticBy := [(0, some 0)] } }), ({ floret := 5 }), (0x30400f#24), by decide +kernel⟩,
    ⟨({ State.reset.setFloret 5 { work := some (.task 0 0), regs := { sregs := [(1, 0xFFFFFFFFFFFFFFFF#64), (2, 0x208#64)], vregs := [(3, List.replicate 64 0x3F800000#32)] }, next := 64 } with florets := { florets := [(5, { work := some (.entry 0 0), regs := { sregs := [(1, 0xFFFF#64)] } })], staticBy := [(0, some 0)] } }), ({ floret := 5 }), (0x384000#24), by decide +kernel⟩,
    ⟨(State.reset.setFloret 5 { work := some (.task 0 0), regs := { sregs := [(1, 0xFFFFFFFFFFFFFFFF#64), (2, 0x208#64)], vregs := [(3, List.replicate 64 0x3F800000#32)] }, next := 64 }), ({ floret := 5 }), (0x404000#24), by decide +kernel⟩,
    ⟨(State.reset.setFloret 5 { work := some (.task 0 0), regs := { sregs := [(1, 0xFFFFFFFFFFFFFFFF#64), (2, 0x208#64)], vregs := [(3, List.replicate 64 0x3F800000#32)] }, next := 64 }), ({ floret := 5 }), (0x480000#24), (0), (0), by decide +kernel⟩,
    ⟨({ State.reset.setFloret 5 { work := some (.task 0 0), regs := { sregs := [(1, 0xFFFFFFFFFFFFFFFF#64), (2, 0x208#64)], vregs := [(3, List.replicate 64 0x3F800000#32)] }, next := 64 } with florets := { florets := [(5, { work := some (.entry 0 0), regs := { sregs := [(1, 0xFFFF#64)] } })], staticBy := [(0, some 0)] } }), ({ floret := 5 }), (0x480000#24), (0), (0), by decide +kernel⟩,
    ⟨(State.reset.setFloret 5 { work := some (.task 0 0), regs := { sregs := [(1, 0xFFFFFFFFFFFFFFFF#64), (2, 0x208#64)], vregs := [(3, List.replicate 64 0x3F800000#32)] }, next := 64 }), (5), by decide +kernel⟩,
    ⟨(State.reset.setFloret 5 { work := some (.task 0 0), tags := [(1, { busy := true })] }), (5), by decide +kernel⟩,
    ⟨(State.reset.setFloret 5 { work := some (.task 0 0), regs := { sregs := [(1, 0xFFFFFFFFFFFFFFFF#64), (2, 0x208#64)], vregs := [(3, List.replicate 64 0x3F800000#32)] }, next := 64 }), (5), by decide +kernel⟩⟩

/-- Every clause of FloretOperationsAndTasks has a state and operands that meet its hypotheses. -/
theorem witness_FloretOperationsAndTasks :
    (∃ (s : State) (i : SlotIn) (w : BitVec 48), (Issues s i) ∧ ((xSlot w).xop ≠ 0) ∧ ((xSlot w).xop ≤ 9) ∧ (w.getLsbD 6 = false) ∧
      ((xSlot w).tc ≠ 0) ∧ ((xSlot w).commit = false) ∧ ((xSlot w).posted = false) ∧ ((s.xOperation i.floret (s.slotRegs i) (xSlot
      w)).toOption.isSome = true) ∧ (s.xWaits i.floret (xSlot w).tag false (xSlot w).fence = none)) ∧
    (∃ (s : State) (i : SlotIn) (w : BitVec 48) (bs : List Byte), (Issues s i) ∧ ((xSlot w).xop = 0x3E) ∧ (w.getLsbD 6 = false) ∧ ((xSlot
      w).commit = false) ∧ ((s.localRead i.floret ((s.slotRegs i).s (xSlot w).sl).toNat 64 1).toOption = some bs) ∧ ((descOp
      (s.floretIssuer i.floret) (xSlot w).tag bs).req.posted = false) ∧ (descBad (descOp (s.floretIssuer i.floret) (xSlot w).tag bs) bs =
      none) ∧ (takesData (bitsOf (fieldAt bs 0 8) 7 0) = false) ∧ (s.xWaits i.floret (xSlot w).tag false ((xSlot w).fence || bitAt
      (fieldAt bs 0 8) 13) = none)) ∧
    (∃ (s : State) (q k : Nat) (o : Operation) (l : UnitLoc), (s.running = true) ∧ ((s.queue q).started.any (fun x => decide (x.item = k)
      && decide (x.op = 0x10)) = true) ∧ (s.florets.items.any (fun x => decide (x.queue = q) && decide (x.itemNo = k)) = false) ∧
      (unitLoc (q + 0x8000) = some l) ∧ (taskUnit l = true) ∧ (unitQueue l = q) ∧ (s.runTaskBad o.data = none)) ∧
    (∃ (s : State) (id q : Nat) (x : TaskItem), (s.running = true) ∧ (s.item id = some x) ∧ (x.taken = some (.quadrant q)) ∧ (x.split =
      false) ∧ (x.count ≠ 0) ∧ (s.servingClusters x.tenant q ≠ []) ∧ ((s.servingClusters x.tenant q).any (fun c => decide (256 ≤
      (s.tasksOf c).length)) = false)) ∧
    (∃ (s : State) (f id k : Nat), (s.running = true) ∧ (s.takesNothing (floretLoc f) = false) ∧ (s.takesNothing (clusterLoc (f / 16)) =
      false) ∧ (s.staticSlotOf (f / 16) = none) ∧ ((s.floret f).work = none) ∧ (s.florets.items.any (fun x => decide (x.taken = some
      (.floret f)) && x.nextAlone.isSome) = false) ∧ (s.quotaFull f = false) ∧ (lowestTask (s.tasksOf (f / 16)) = some (id, k)) ∧
      ((s.item id).isSome = true)) ∧
    (∃ (s : State) (base : Nat) (ws : List Nat) (k : ArbKind), (s.running = true) ∧ (arbAt base = some k) ∧
      ((match k with | .millstone _ => false | _ => true) = true) ∧ (s.arbGrant k = none) ∧ (s.arbFrozen k = false) ∧ ((List.range
      k.count).any (fun n => ws.contains n && decide (s.arbTickets k n ≠ 0)) = true) ∧ (Store.wf none s.csr = true)) ∧
    (∃ (s : State) (base n : Nat) (k : ArbKind), (s.running = true) ∧ (arbAt base = some k) ∧ (n < k.count) ∧ (s.reg k.limitAt 0x1000 ≠
      0) ∧ (bitAt (s.reg (k.starveAt n).1 0) (k.starveAt n).2 = false) ∧ (Store.wf none s.csr = true)) ∧
    (∃ (s : State) (i : Issuer) (base : Nat) (v : Word32) (k : ArbKind), (s.running = true) ∧ (arbAt base = some k) ∧ (s.arbPresent k =
      true) ∧ (v.toNat < 65536) ∧ (v ≠ 0) ∧ (Store.wf none s.csr = true)) :=
  ⟨⟨(State.reset.setFloret 5 { work := some (.task 0 0), regs := { sregs := [(1, 0xFFFFFFFFFFFFFFFF#64), (2, 0x208#64)], vregs := [(3, List.replicate 64 0x3F800000#32)] }, next := 64 }), ({ floret := 5 }), (0x82010003c3f#48), by decide +kernel⟩,
    ⟨((State.reset.setFloret 5 { work := some (.task 0 0), regs := { sregs := [(1, 0xFFFFFFFFFFFFFFFF#64), (2, 0x208#64)], vregs := [(3, List.replicate 64 0x3F800000#32)] }, next := 64 }).sramWrite 655360 [9, 4]), ({ floret := 5 }), (0xf80000000001#48), ([9, 4] ++ List.replicate 62 0), by decide +kernel⟩,
    ⟨(State.reset.setQueue 0x1000 { started := [{ item := 4, op := 0x10 }], owner := 5 }), (0x1000), (4), ({ op := 0x10, data := List.replicate 6 0 ++ [0, 0, 0x20, 0, 0, 0, 0, 0x20, 0xFF, 0xFF] ++ List.replicate 24 0 ++ [3] ++ List.replicate 23 0 }), (.die 0), by decide +kernel⟩,
    ⟨({ State.reset with sec := { clusterOwner := [(0, 5)] }, florets := { items := [{ (default : TaskItem) with id := 3, tenant := 5, count := 7, taken := some (.quadrant 0) }] } }), (3), (0), ({ (default : TaskItem) with id := 3, tenant := 5, count := 7, taken := some (.quadrant 0) }), by decide +kernel⟩,
    ⟨({ State.reset with florets := { items := [{ (default : TaskItem) with id := 3, count := 7, taken := some (.quadrant 0) }], pools := [(0, [{ item := 3, lo := 2, hi := 5 }])] } }), (15), (3), (2), by decide +kernel⟩,
    ⟨(State.reset), (0x0001000), ([3, 67]), (.csrBus), by decide +kernel⟩,
    ⟨(State.reset), (0x0001000), (67), (.csrBus), by decide +kernel⟩,
    ⟨(State.reset), (mgmtIssuer), (0x0310000), (0xFFFF), (.millstone 0), by decide +kernel⟩⟩

/-- Every clause of JobsTakeEffect has a state and operands that meet its hypotheses. -/
theorem witness_JobsTakeEffect :
    (∃ (s : State) (o : Operation) (rc : List Byte), (Arrives s o 0xF0) ∧ (s.endpointNode (addrNode o.req.target) = false) ∧
      (o.req.posted = false) ∧ (addrRegion o.req.target = 0) ∧ (jobOffset o.req.target = 0) ∧ (o.length = 0) ∧ (jobNumber o.req.target <
      3072) ∧ ((s.job (jobNumber o.req.target)).state = .free) ∧ (o.req.localA.toNat % 64 = 0) ∧ (s.hcuRange o.req.issuer.tenant
      o.req.localA 256 = none) ∧ (s.serviceRead (addrOffset o.req.localA) 256 o.req.issuer.tenant .get = .ok rc) ∧ (s.openBad
      o.req.issuer.tenant { record := rc } = none)) ∧
    (∃ (s : State) (o : Operation), (Arrives s o 0xF0) ∧ (s.endpointNode (addrNode o.req.target) = false) ∧ (o.req.posted = false) ∧
      (addrRegion o.req.target = 0) ∧ (jobOffset o.req.target = 0) ∧ (o.length = 0) ∧ (o.req.localA = 0) ∧ (jobNumber o.req.target <
      3072) ∧ (((s.job (jobNumber o.req.target)).state = .waiting ∨ (s.job (jobNumber o.req.target)).state = .opened)) ∧ ((s.job
      (jobNumber o.req.target)).tenant = o.req.issuer.tenant)) ∧
    (∃ (s : State) (o : Operation), (Arrives s o 0xF0) ∧ (s.endpointNode (addrNode o.req.target) = false) ∧ (o.req.posted = false) ∧
      (addrRegion o.req.target = 0) ∧ (jobOffset o.req.target = 0) ∧ (o.length = 0) ∧ (o.req.localA = 0) ∧ (jobNumber o.req.target <
      3072) ∧ (((s.job (jobNumber o.req.target)).state = .done ∨ (s.job (jobNumber o.req.target)).state = .faulted)) ∧ ((s.job (jobNumber
      o.req.target)).tenant = o.req.issuer.tenant) ∧ (Store.wf ({} : Job) s.hcu.jobs = true)) ∧
    (∃ (s : State) (o : Operation) (port : Nat), (Arrives s o 0xFF) ∧ (s.endpointNode (addrNode o.req.target) = false) ∧ (o.req.posted =
      false) ∧ (zerosAt o.params 7 9 = true) ∧ (fieldAt o.params 3 1 ≤ 6) ∧ (fieldAt o.params 6 1 < 32) ∧ (addrRegion o.req.target = 0) ∧
      (o.length ≠ 0) ∧ (o.length ≤ 2 ^ 24) ∧ ((s.job (jobNumber o.req.target)).kind = 1) ∧ (s.putBad (jobNumber o.req.target) (heldOf s o
      (jobNumber o.req.target) port) = none) ∧ (s.putShut (s.job (jobNumber o.req.target)) (heldOf s o (jobNumber o.req.target) port) =
      false) ∧ (s.hcu.held.any (fun x => decide (x.job = jobNumber o.req.target) && decide (x.port = port)) = false) ∧ ((s.job (jobNumber
      o.req.target)).ovfUsed + (((s.job (jobNumber o.req.target)).shares (fieldAt o.params 3 1) (jobOffset o.req.target) o.data).map (fun
      x => if (s.job (jobNumber o.req.target)).ready x.1 x.2.1 then 0 else ceilDiv x.2.2.length 256)).sum ≤ (s.job (jobNumber
      o.req.target)).ovfCells)) ∧
    (∃ (s : State) (job n : Nat) (x : HeldPut), (s.running = true) ∧ ((s.hcu.held.filter (fun h => decide (h.job = job)))[n]? = some x) ∧
      (s.hcu.inputs.any (fun y => decide (y.job = job)) = false) ∧ ((s.hcu.held.erase x).any (fun y => decide (y.job = job)) = false)) ∧
    (∃ (s : State) (job : Nat), (s.running = true) ∧ (((s.job job).state = .waiting ∨ (s.job job).state = .opened))) ∧
    (∃ (s : State) (job : Nat) (v : List Byte), (s.running = true) ∧ ((s.job job).state = .waiting) ∧ ((s.job job).f 92 4 ≤ (s.sync
      ((s.job job).f 88 2 % 2 ^ 14)).value.toNat) ∧ (s.serviceRead (addrOffset ((s.job job).addr 80)) (ceilDiv (s.job job).elems (2 ^
      (s.job job).f 51 1)) (s.job job).tenant .get = .ok v)) ∧
    (∃ (s : State) (job chunk contrib : Nat) (x : JobInput), (s.running = true) ∧ (s.sumInput job chunk contrib = some x) ∧ ((s.job
      job).state = .opened) ∧ (((s.job job).slot ≠ none ∨ s.arbGrant (.millstone ((s.job job).firstMs + chunk % (s.job job).msCount)) =
      some (ownerIx (s.job job).tenant))) ∧ ((Store.read ({} : Chunk) (s.job job).chunks chunk).inputs + 1 < (s.job job).contribs)) ∧
    (∃ (s : State) (job : Nat) (r : Response), (s.running = true) ∧ ((s.job job).state = .opened) ∧ ((s.job job).unacked ≠ 0) ∧ (r.status
      = .ok)) ∧
    (∃ (s : State) (unit n : Nat) (rest : List Nat), (s.running = true) ∧ (s.hcuQueue (if unit < 64 then 256 + unit else 512 + (unit -
      64)) = n :: rest) ∧ (s.hcuRunning (if unit < 64 then 256 + unit else 512 + (unit - 64)) = none) ∧ ((s.job n).state = .opened) ∧
      ((s.job n).kind = 4) ∧ ((s.job n).stream = true) ∧ ((s.job n).arrived ≠ (s.job n).srcCount * (s.job n).itemBytes) ∧
      (s.hcu.inputs.any (fun x => decide (x.job = n)) = false) ∧ (s.hcu.held.any (fun x => decide (x.job = n)) = false) ∧ (Store.wf ([] :
      List Nat) s.hcu.fbQueues = true) ∧ (s.closed (hcuLoc (if unit < 64 then 256 + unit else 512 + (unit - 64))) = false)) ∧
    (∃ (s : State) (job : Nat), (s.running = true) ∧ ((s.job job).kind = 2) ∧ ((s.job job).stream = true) ∧ ((s.job job).running = true)
      ∧ ((s.job job).sorted = false) ∧ ((s.job job).state = .opened) ∧ (s.poolCheck (addrOffset ((s.job job).addr 88)) (8 * (s.job job).f
      76 4) (s.job job).tenant none .put = none) ∧ (s.firstPoison (addrOffset ((s.job job).addr 88)) (8 * (s.job job).f 76 4) = none)) :=
  ⟨⟨({ pool5.memWrite 64 filterRecord0 with hcu := { jobs := [(3071, { epoch := 255 })] } }), ({ op := 0x20, req := { issuer := who5, target := 0xFFFF0BFF00000000#64, localA := 0xFFFF000000000040#64 } }), (filterRecord0), by decide +kernel⟩,
    ⟨({ State.reset with hcu := { jobs := [(2, { state := .opened, tenant := 5, record := filterRecord0 })] } }), ({ op := 0x20, req := { issuer := who5, target := 0xFFFF000200000000#64, md := 1 } }), by decide +kernel⟩,
    ⟨({ State.reset with hcu := { jobs := [(2, { state := .done, tenant := 5, epoch := 7 })] } }), ({ op := 0x20, req := { issuer := who5, target := 0xFFFF000200000000#64, md := 2 } }), by decide +kernel⟩,
    ⟨({ State.reset with hcu := { jobs := [(2, { state := .opened, tenant := 5, record := [1] ++ List.replicate 48 0 ++ [0, 8, 0, 1, 0, 0, 0, 1, 1, 0, 0, 1, 0] ++ List.replicate 194 0 })] } }), ({ op := 0x21, req := { issuer := who5, target := 0xFFFF000200000000#64 }, length := 4, data := [0, 0, 128, 63], params := [0, 0, 0, 2] ++ List.replicate 12 0 }), (1), by decide +kernel⟩,
    ⟨({ State.reset with hcu := { held := [{ job := 2, contrib := 0, epoch := 0, fmt := 6, expCheck := 0, flags := 0, data := [], req := {}, port := 0, deadline := 90 }] } }), (2), (0), ({ job := 2, contrib := 0, epoch := 0, fmt := 6, expCheck := 0, flags := 0, data := [], req := {}, port := 0, deadline := 90 }), by decide +kernel⟩,
    ⟨({ State.reset with hcu := { jobs := [(2, { state := .waiting, tenant := 5, record := filterRecord0 })] } }), (2), by decide +kernel⟩,
    ⟨({ pool5 with hcu := { jobs := [(2, { state := .waiting, tenant := 5, record := List.replicate 51 0 ++ [5] ++ List.replicate 8 0 ++ [32] ++ List.replicate 195 0 })] } }), (2), ([0]), by decide +kernel⟩,
    ⟨({ State.reset with hcu := { jobs := [(2, { state := .opened, tenant := 5, slot := some 1, record := [1] ++ List.replicate 48 0 ++ [0, 8, 0, 2, 0, 0, 0, 1, 1, 0, 0, 1, 0] ++ List.replicate 194 0 })], inputs := [{ job := 2, chunk := 0, contrib := 1, fmt := 2, offset := 0, data := [0, 0, 128, 63], flags := 0, key := (0, 0), req := {} }] } }), (2), (0), (1), ({ job := 2, chunk := 0, contrib := 1, fmt := 2, offset := 0, data := [0, 0, 128, 63], flags := 0, key := (0, 0), req := {} }), by decide +kernel⟩,
    ⟨({ State.reset with hcu := { jobs := [(2, { state := .opened, tenant := 5, record := filterRecord0, unacked := 1, allIssued := true })] } }), (2), ({}), by decide +kernel⟩,
    ⟨({ State.reset with hcu := { jobs := [(2, { state := .opened, tenant := 5, record := filterRecord0 })], fbQueues := [(512, [2, 9])] } }), (64), (2), ([9]), by decide +kernel⟩,
    ⟨({ pool5 with hcu := { jobs := [(2, { state := .opened, tenant := 5, running := true, record := [2] ++ List.replicate 47 0 ++ [1] ++ List.replicate 27 0 ++ [1] ++ List.replicate 179 0 })] } }), (2), by decide +kernel⟩⟩

/-- Every clause of FramesEnterAndLink has a state and operands that meet its hypotheses. -/
theorem witness_FramesEnterAndLink :
    (∃ (s : State) (port : Nat) (header payload : List Byte) (f g : Frame), (s.running = true) ∧ ((s.port port).up = true) ∧ (f =
      { frameOf header payload with inPort := some port, fromDzm := decide ((s.port port).mode = .opvitik) && !(s.port port).peerEndpoint, lastSeq := ((s.port port).arrived.find? (fun e => decide (e.1 = header ++ payload))).map (·.2) })
      ∧ (f.kind = 0) ∧ (f.tc ≠ 0) ∧ (s.arrivalBad port f = none) ∧ (g = s.firstHop port f) ∧ (bitAt (s.reg (R.trfWeirBind port (f.tc -
      1)) 0) 16 = false) ∧ (s.sw.quotaWaits.any (fun w => decide (w.quota = ownerIx g.tenant)) = false) ∧ (g.cells + s.roomFor g ≤
      s.quotaFree (ownerIx g.tenant))) ∧
    (∃ (s : State) (port : Nat) (header payload : List Byte) (f g : Frame), (s.running = true) ∧ ((s.port port).up = true) ∧ (f =
      { frameOf header payload with inPort := some port, fromDzm := decide ((s.port port).mode = .opvitik) && !(s.port port).peerEndpoint, lastSeq := ((s.port port).arrived.find? (fun e => decide (e.1 = header ++ payload))).map (·.2) })
      ∧ (f.kind = 0) ∧ (f.tc ≠ 0) ∧ (s.arrivalBad port f = none) ∧ (g = s.firstHop port f) ∧ (bitAt (s.reg (R.trfWeirBind port (f.tc -
      1)) 0) 16 = false) ∧ ((s.sw.quotaWaits.any (fun w => decide (w.quota = ownerIx g.tenant)) = true ∨ s.quotaFree (ownerIx g.tenant) <
      g.cells + s.roomFor g))) ∧
    (∃ (s : State) (hub : Nat) (header payload : List Byte) (f : Frame), (s.running = true) ∧ (hub < 14) ∧ (s.arbPresent (.inject hub) =
      true) ∧ (f = frameOf header payload) ∧ (f.kind = 1) ∧ (s.arbGrant (.inject hub) = some (ownerIx f.tenant))) ∧
    (∃ (s : State) (hub : Nat) (header payload : List Byte) (f : Frame), (s.running = true) ∧ (hub < 14) ∧ (s.arbPresent (.inject hub) =
      true) ∧ (f = frameOf header payload) ∧ (f.kind = 0) ∧ (f.tc ≠ 0) ∧ (s.arbGrant (.inject hub) = some (ownerIx f.tenant)) ∧
      (s.sw.quotaWaits.any (fun w => decide (w.quota = ownerIx f.tenant)) = false) ∧ (f.cells + s.roomFor f ≤ s.quotaFree (ownerIx
      f.tenant))) ∧
    (∃ (s : State) (tenant : Nat) (w : QuotaWait), (s.running = true) ∧ (s.sw.quotaWaits.find? (fun w => decide (w.quota = ownerIx
      tenant)) = some w) ∧ (w.frame.cells + w.frame.rspRoom ≤ s.quotaFree (ownerIx tenant))) ∧
    (∃ (s : State) (tenant : Nat) (w : QuotaWait), (s.running = true) ∧ (s.sw.quotaWaits.find? (fun w => decide (w.quota = ownerIx
      tenant) && !w.injected) = some w) ∧ (w.frame.kind = 0) ∧ (w.frame.index = 0)) ∧
    (∃ (s : State) (frame : Nat) (f : Frame), (s.running = true) ∧ (s.frame frame = some f) ∧ (f.id = frame) ∧ (f.linked = false) ∧
      (f.kind = 0) ∧ (f.index = 0) ∧ (f.slot = none) ∧ (isMulticast f.dstNode = false) ∧ (s.isHere f.dstNode = true) ∧ (s.branchOf f =
      none) ∧ (f.ends f.bytes = true) ∧ (s.sw.lists.any (fun e => e.2.any (fun q => decide (q.frame = frame))) = false) ∧ (Store.wf none
      s.sw.frames = true)) ∧
    (∃ (s : State) (frame : Nat) (f : Frame) (p : Nat) (b : Option Nat), (s.running = true) ∧ (s.frame frame = some f) ∧ (f.id = frame) ∧
      (f.linked = false) ∧ (f.kind = 0) ∧ (f.slot = none) ∧ (isMulticast f.dstNode = false) ∧ (s.isHere f.dstNode = false) ∧ (s.branchOf
      f = none) ∧ (s.routePort f = some (p, b)) ∧ ((s.port p).up = true) ∧ (s.plainOk f p = true) ∧ ((f.lastDir ≠ .down ∨ s.dirTo p ≠
      .up))) :=
  ⟨⟨(switch6), (0), (header6 0), ([1, 2, 3, 4]), ({ frameOf (header6 0) [1, 2, 3, 4] with inPort := some 0, fromDzm := false }), (switch6.firstHop 0 { frameOf (header6 0) [1, 2, 3, 4] with inPort := some 0, fromDzm := false }), by decide +kernel⟩,
    ⟨({ switch6 with csr := [] }), (0), (header6 0), ([1, 2, 3, 4]), ({ frameOf (header6 0) [1, 2, 3, 4] with inPort := some 0, fromDzm := false }), (switch6.firstHop 0 { frameOf (header6 0) [1, 2, 3, 4] with inPort := some 0, fromDzm := false }), by decide +kernel⟩,
    ⟨({ State.reset with csr := [(0x020100C, some 128)] }), (0), (header6 1), ([1, 2, 3, 4]), (frameOf (header6 1) [1, 2, 3, 4]), by refine ⟨?_, ?_, ?_, ?_, ?_, ?_⟩ <;> first | rfl | decide +kernel⟩,
    ⟨({ State.reset with csr := [(R.swcQuota 0, some 64), (0x020100C, some 128)] }), (0), (header6 0), ([1, 2, 3, 4]), (frameOf (header6 0) [1, 2, 3, 4]), by decide +kernel⟩,
    ⟨({ State.reset with sw := { quotaWaits := [{ frame := frame6, quota := 3, injected := false, deadline := 8000 }] }, csr := [(R.swcQuota 3, some 64)] }), (3), ({ frame := frame6, quota := 3, injected := false, deadline := 8000 }), by decide +kernel⟩,
    ⟨({ State.reset with sw := { quotaWaits := [{ frame := frame6, quota := 3, injected := false, deadline := 8000 }] } }), (3), ({ frame := frame6, quota := 3, injected := false, deadline := 8000 }), by decide +kernel⟩,
    ⟨({ State.reset.setNum O.nodeId 5 with sw := { frames := [(7, some frame6)] } }), (7), (frame6), by decide +kernel⟩,
    ⟨({ switch6 with sw := { frames := [(7, some frame6)] }, csr := [(R.swcRoute 2, some 0x400000)] }), (7), (frame6), (0), (none), by decide +kernel⟩⟩

/-- Every clause of SwitchServesAndIsConfigured has a state and operands that meet its hypotheses. -/
theorem witness_SwitchServesAndIsConfigured :
    (∃ (s : State) (frame : Nat) (port : Option Nat) (r : Response) (w : McWait) (b : Branch), (s.running = true) ∧ (s.sw.mcWaits.find?
      (fun w => decide (w.frame = frame)) = some w) ∧ (b = (match port with | some p => Branch.port p | none => Branch.here)) ∧
      (w.branches.contains b = true) ∧ (w.answers.any (fun a => decide (a.1 = b)) = false) ∧ (w.answers.length + 1 < w.branches.length)) ∧
    (∃ (s : State) (frame : Nat) (port : Option Nat) (r : Response) (w : McWait) (b : Branch), (s.running = true) ∧ (s.sw.mcWaits.find?
      (fun w => decide (w.frame = frame)) = some w) ∧ (b = (match port with | some p => Branch.port p | none => Branch.here)) ∧
      (w.branches.contains b = true) ∧ (w.answers.any (fun a => decide (a.1 = b)) = false) ∧ (w.answers.length + 1 = w.branches.length) ∧
      (w.req.posted = false)) ∧
    (∃ (s : State) (port k : Nat) (eg : Egress) (e : QEntry) (f : Frame), (s.running = true) ∧ ((s.port port).up = true) ∧ (s.egressPick
      port = some (k, eg)) ∧ (s.headOf port k = some (e, f)) ∧ (Store.wf [] s.sw.lists = true)) ∧
    (∃ (s : State) (i : Issuer) (n : Nat) (v lo : Word32), (s.running = true) ∧ (Store.read none s.mgmt.loStaged (requesterOf i * 2 ^ 26
      + R.swcMcLo n) = some lo) ∧ (bitsOf v.toNat 7 6 = 0) ∧ (bitsOf v.toNat 31 16 = 0) ∧ ((bitsOf v.toNat 15 8 < 64 ∨ bitsOf v.toNat 15
      8 = 0xFF)) ∧ (lo.toNat + 2 ^ 32 * bitsOf v.toNat 3 0 < 2 ^ portCount s.chip.variant) ∧ (Store.wf ({} : McEntry) s.sw.mcast = true)) ∧
    (∃ (s : State) (i : Issuer) (tn : Nat) (v : Word32), (s.running = true) ∧ (bitsOf v.toNat 31 19 = 0) ∧ (tn < 65) ∧ (v.toNat ≤
      s.quotaCells tn + s.cellsUnassigned)) ∧
    (∃ (s : State) (i : Issuer) (g : Nat) (v : Word32), (s.running = true)) ∧
    (∃ (s : State) (i : Issuer) (g : Nat) (v lo : Word32), (s.running = true) ∧ (Store.read none s.mgmt.loStaged (requesterOf i * 2 ^ 26
      + R.swcLgMembersLo g) = some lo) ∧ (bitsOf v.toNat 31 4 = 0) ∧ (((List.range 36).filter (bitAt (lo.toNat + 2 ^ 32 * bitsOf v.toNat
      3 0))).all (fun p => s.present (.port p) && (List.range 32).all (fun h => decide (h = g) || !bitAt (s.lgMask h) p)) = true) ∧
      (((List.range 36).filter (bitAt (lo.toNat + 2 ^ 32 * bitsOf v.toNat 3 0))).length ≤ 16)) ∧
    (∃ (s : State) (a : Access) (g : Nat), (s.running = true) ∧ ((s.takeArm a R.swcLgCmd).1 = true) ∧ (g < 32) ∧ ((s.group g).moving =
      false) ∧ (s.liveMembers g ≠ [])) ∧
    (∃ (s : State) (g : Nat), (s.running = true) ∧ ((s.group g).moving = true) ∧ ((s.group g).deferred = []) ∧ ((List.range 256).all (fun
      b => match (s.bucket (256 * g + b)).moving with | some p => !s.bucketSent p (256 * g + b) | none => true) = true) ∧ (Store.wf ({} :
      LinkGroup) s.sw.groups = true) ∧ (Store.wf ({} : Bucket) s.sw.buckets = true)) ∧
    (∃ (s : State) (i : Issuer) (n : Nat) (v : Word32), (s.running = true) ∧ (n < 30720) ∧ (bitsOf v.toNat 15 8 = 0) ∧ (bitsOf v.toNat 31
      24 = 0) ∧ ((bitsOf v.toNat 7 6 = 0 ∨ bitsOf v.toNat 7 6 = 1 ∧ bitsOf v.toNat 5 0 < portCount s.chip.variant ∨ bitsOf v.toNat 7 6 =
      2 ∧ bitsOf v.toNat 5 0 < 32)) ∧ ((bitsOf v.toNat 23 22 = 0 ∨ bitsOf v.toNat 23 22 = 1 ∧ bitsOf v.toNat 21 16 < portCount
      s.chip.variant ∨ bitsOf v.toNat 23 22 = 2 ∧ bitsOf v.toNat 21 16 < 32))) ∧
    (∃ (s : State) (n : Nat) (r : Req) (op due : Nat), (s.running = true) ∧ (s.sw.discarded[n]? = some (r, op, due)) ∧ (r.posted =
      false)) ∧
    (∃ (s : State), (s.running = true)) :=
  ⟨⟨({ State.reset with sw := { mcWaits := [{ frame := 7, req := {}, op := 1, branches := [.port 1, .here], answers := [] }] } }), (7), (some 1), ({}), ({ frame := 7, req := {}, op := 1, branches := [.port 1, .here], answers := [] }), (.port 1), by decide +kernel⟩,
    ⟨({ State.reset with sw := { mcWaits := [{ frame := 7, req := {}, op := 1, branches := [.port 1, .here], answers := [(.port 1, {})] }] } }), (7), (none), ({ status := .tier }), ({ frame := 7, req := {}, op := 1, branches := [.port 1, .here], answers := [(.port 1, {})] }), (.here), by decide +kernel⟩,
    ⟨({ State.reset with links := { ports := [(0, { mode := .pcie, state := .active })] }, sw := { frames := [(7, some frame6)], lists := [(1, [{ frame := 7, chan := .req }])] } }), (0), (1), ({}), ({ frame := 7, chan := .req }), (frame6), by decide +kernel⟩,
    ⟨({ State.reset with mgmt := { loStaged := [(64 * 2 ^ 26 + R.swcMcLo 3, some 6)] } }), (mgmtIssuer), (3), (0x530), (6), by decide +kernel⟩,
    ⟨(State.reset), (mgmtIssuer), (5), (100), by decide +kernel⟩,
    ⟨(State.reset), (mgmtIssuer), (1), (6), by decide +kernel⟩,
    ⟨({ State.reset with mgmt := { loStaged := [(64 * 2 ^ 26 + R.swcLgMembersLo 1, some 6)] } }), (mgmtIssuer), (1), (0), (6), by decide +kernel⟩,
    ⟨({ State.reset with csr := [(R.swcLgMembersLo 1, some 3)], links := { ports := [(0, { mode := .opvitik, state := .active, peerNode := 9 }), (1, { mode := .opvitik, state := .active, peerNode := 9 })] }, sw := { groups := [(1, { neighbour := some 9 })] } }), (.dict .spi), (1), by decide +kernel⟩,
    ⟨({ State.reset with sw := { groups := [(1, { neighbour := some 9, moving := true })], buckets := [(260, { port := 1, valid := true, moving := some 0 })] } }), (1), by decide +kernel⟩,
    ⟨(State.reset), (mgmtIssuer), (2), (0x830041), by decide +kernel⟩,
    ⟨({ State.reset with sw := { discarded := [({}, 2, 8000)] } }), (0), ({}), (2), (8000), by decide +kernel⟩,
    ⟨({ State.reset with sw := { frames := [(7, some frame6)] } }), by decide +kernel⟩⟩

/-- Every clause of TrafficControlTakesEffect has a state and operands that meet its hypotheses. -/
theorem witness_TrafficControlTakesEffect :
    (∃ (s : State), (s.running = true) ∧ (s.faults.ckpts = []) ∧ (Store.wf ({} : TokenBucket) s.traffic.weirs = true) ∧ (Store.wf ({} :
      TokenBucket) s.traffic.shapers = true)) ∧
    (∃ (s : State) (i : Issuer) (v : Word32), (s.running = true) ∧ (i.tenant = 0xFF) ∧ (v = 1) ∧ (s.indBad = none)) ∧
    (∃ (s : State) (i : Issuer) (v : Word32), (s.running = true) ∧ (i.tenant = 0xFF) ∧ (v = 2) ∧ (s.indWriteBad = none) ∧ (s.indTable =
      0) ∧ (Store.wf ({} : TokenBucket) s.traffic.shapers = true)) ∧
    (∃ (s : State) (i : Issuer) (v : Word32), (s.running = true) ∧ (i.tenant = 0xFF) ∧ (v = 2) ∧ (s.indWriteBad = none) ∧ (s.indTable =
      1) ∧ (Store.wf ({} : TokenBucket) s.traffic.weirs = true)) ∧
    (∃ (s : State) (i : Issuer) (v : Word32), (s.running = true) ∧ (i.tenant = 0xFF) ∧ (v = 2) ∧ (s.indWriteBad = none) ∧ (s.indTable =
      2) ∧ (bitAt (s.indData 0) 16 = true)) ∧
    (∃ (s : State) (channel k : Nat) (r : PoolReq) (rest : List PoolReq), (s.running = true) ∧ (channel < 272) ∧ (s.hasRoom channel =
      true) ∧ (s.headsAt channel = [k]) ∧ (s.capOpen (s.contract k) = true) ∧ (s.owed (s.contract k) = true) ∧ ((s.contract k).queue = r
      :: rest) ∧ (r.oper.op = 2) ∧ ((s.partAt (addrOffset r.oper.req.target)).isSome = true)) ∧
    (∃ (s : State) (i : Issuer) (port : Nat) (v : Word32), (s.running = true) ∧ (i.tenant = 0xFF) ∧ (s.gateStartBad port v.toNat = none)) ∧
    (∃ (s : State) (port n : Nat), (s.running = true) ∧ ((s.gate port).startTick = some n)) ∧
    (∃ (s : State) (i : Issuer) (port : Nat), (s.running = true) ∧ (i.tenant = 0xFF) ∧ (s.present (.port port) = true) ∧ ((s.gate
      port).running = true)) ∧
    (∃ (s : State) (port n : Nat), (s.running = true) ∧ ((s.gate port).stopTick = some n) ∧ (Store.wf ({} : Gate) s.traffic.gates =
      true)) ∧
    (∃ (s : State) (port k : Nat), (s.running = true) ∧ ((s.gate port).active = some k) ∧ ((s.gate port).entry.auto = true) ∧ ((s.gate
      port).inQuantum = false)) ∧
    (∃ (s : State) (i : Issuer) (port entry : Nat) (v lo : Word32), (s.running = true) ∧ (i.tenant = 0xFF) ∧ (Store.read none
      s.mgmt.loStaged (requesterOf i * 2 ^ 26 + R.trfGateLo port entry) = some lo) ∧ (s.gateEntryBad port entry (gateEntryOf lo.toNat
      v.toNat) v.toNat = none) ∧ (Store.wf ({} : GateEntry) s.traffic.gateEntries = true)) :=
  ⟨⟨({ State.reset with traffic := { weirs := [(3, { rate := 5, burst := 9, enable := true })], shapers := [(4, { rate := 1000, burst := 90, enable := true })] } }), by decide +kernel⟩,
    ⟨({ State.reset with csr := [(R.trfIndSel, some 4)], traffic := { shapers := [(4, { rate := 1000, burst := 90, enable := true })] } }), (mgmtIssuer), (1), by decide +kernel⟩,
    ⟨({ State.reset with csr := [(R.trfIndSel, some 4), (R.trfIndData 0, some 0x3000005), (R.trfIndData 1, some 7)], traffic := { shapers := [(4, { rate := 1000, burst := 90, enable := true, onWheel := true })], wheel := [{ shaper := 4, slot := 1, laps := 0 }] } }), (mgmtIssuer), (2), by decide +kernel⟩,
    ⟨({ State.reset with csr := [(R.trfIndSel, some 0x10004), (R.trfIndData 0, some 0x3000005), (R.trfIndData 1, some 7)] }), (mgmtIssuer), (2), by decide +kernel⟩,
    ⟨({ State.reset with csr := [(R.trfIndSel, some 0x20004), (R.trfIndData 0, some 0x10005), (R.trfIndData 3, some 0x60000)] }), (mgmtIssuer), (2), by decide +kernel⟩,
    ⟨({ pool5 with traffic := { contracts := [(3, { valid := true, minEn := true, queue := [{ id := 9, oper := { op := 2, req := { issuer := who5 }, length := 8 }, channel := 0, srcNode := 3, since := 0 }] })] } }), (0), (3), ({ id := 9, oper := { op := 2, req := { issuer := who5 }, length := 8 }, channel := 0, srcNode := 3, since := 0 }), ([]), by decide +kernel⟩,
    ⟨({ State.reset with csr := [(R.trfGateStartLo 2, some 640)] }), (mgmtIssuer), (2), (0x10007), by decide +kernel⟩,
    ⟨({ State.reset with traffic := { gates := [(2, { running := true, first := 7, startTick := some 20 })], gateEntries := [(2055, { openMask := 6, auto := true, hold := 9, nextEntry := 1 })] } }), (2), (20), by decide +kernel⟩,
    ⟨({ State.reset with traffic := { gates := [(2, { running := true, active := some 7 })] } }), (mgmtIssuer), (2), by decide +kernel⟩,
    ⟨({ State.reset with traffic := { gates := [(2, { running := true, active := some 7, stopTick := some 30 })] } }), (2), (30), by decide +kernel⟩,
    ⟨({ State.reset with traffic := { gates := [(2, { running := true, active := some 7, entry := { openMask := 6, auto := true, hold := 9, nextEntry := 1 }, holdEnd := 40 })] } }), (2), (7), by decide +kernel⟩,
    ⟨({ State.reset with mgmt := { loStaged := [(64 * 2 ^ 26 + R.trfGateLo 2 7, some 0x10006)] } }), (mgmtIssuer), (2), (7), (0x100009), (0x10006), by decide +kernel⟩⟩

/-- Every clause of PartitionsAndChannelsChange has a state and operands that meet its hypotheses. -/
theorem witness_PartitionsAndChannelsChange :
    (∃ (s : State) (a : Access) (n : Nat), (s.running = true) ∧ (accessMgmt a = true) ∧ (s.bindCheck n = none)) ∧
    (∃ (s : State) (n : Nat), (s.running = true) ∧ ((s.part n).state = .bound) ∧ ((s.part n).mapWritten = false)) ∧
    (∃ (s : State) (a : Access) (n : Nat), (s.running = true) ∧ (accessMgmt a = true) ∧ ((s.part n).state = .bound) ∧ (s.planClaims n =
      false) ∧ (s.coh.windows.any (fun e => (e.2.enable || e.2.disabling) && decide (e.2.partition = n)) = false)) ∧
    (∃ (s : State) (n : Nat), (s.running = true) ∧ ((s.part n).state = .clearing) ∧ (s.partInFlight n = false) ∧ (Store.wf ({} :
      Partition) s.pool.parts = true)) ∧
    (∃ (s : State) (a : Access) (n pg c : Nat) (near unreserved : Bool) (r : PageRec), (s.running = true) ∧ (accessMgmt a = true) ∧
      ((s.part n).state = .bound) ∧ ((s.partPages n).filter (fun e => e.2.failed) = [(pg, r)]) ∧ ((s.chan r.channel).state = .failed) ∧
      (s.repairFrame (s.part n) r.near pg = some (c, near, unreserved))) ∧
    (∃ (s : State) (a : Access) (ch owner : Nat), (s.running = true) ∧ (accessMgmt a = true) ∧ (s.ownerCheck ch owner = none) ∧ (Store.wf
      ({} : Channel) s.pool.channels = true)) ∧
    (∃ (s : State) (a : Access) (ch : Nat), (s.running = true) ∧ (accessMgmt a = true) ∧ ((s.takeArm a R.memChanCmd).1 = true) ∧
      (s.chanAbsent ch = false) ∧ ((s.chan ch).state ≠ .empty) ∧ (s.power.containWaits = [])) ∧
    (∃ (s : State) (a : Access) (ch : Nat), (s.running = true) ∧ (accessMgmt a = true) ∧ ((s.takeArm a R.memChanCmd).1 = true) ∧
      (s.chanAbsent ch = false) ∧ ((s.chan ch).state = .failed)) ∧
    (∃ (s : State) (ch : Nat) (ok : Bool), (s.running = true) ∧ ((Store.read ({} : Channel) s.pool.channels ch).state = .failed) ∧
      ((Store.read ({} : Channel) s.pool.channels ch).retraining = true) ∧ (Store.wf ({} : Channel) s.pool.channels = true)) ∧
    (∃ (s : State) (ch : Nat), (s.running = true) ∧ ((s.chan ch).state = .clearing) ∧ (s.chanAbsent ch = false)) ∧
    (∃ (s : State) (ch : Nat) (d : Dispatched) (rest : List Dispatched), (s.running = true) ∧ (s.inChannel ch = d :: rest) ∧
      (s.chanAbsent ch = false) ∧ ((s.chan ch).state ≠ .empty) ∧ (s.power.containWaits = [])) ∧
    (∃ (s : State) (ch : Nat), (s.running = true) ∧ (s.chanAbsent ch = false) ∧ ((s.chan ch).state ≠ .empty) ∧ (s.power.containWaits =
      [])) :=
  ⟨⟨({ State.reset with pool := { channels := [(1, { owner := 5, state := .online, free := 100 })], parts := [(0, { tenant := 5, size := 1, nearPages := 2, nearFirst := 1, nearCount := 1 })] } }), (.dict .spi), (0), by decide +kernel⟩,
    ⟨(State.reset.setPart 0 { state := .bound, tenant := 5, size := 16 }), (0), by decide +kernel⟩,
    ⟨(pool5), (.dict .spi), (0), by decide +kernel⟩,
    ⟨({ State.reset.setPart 0 { state := .clearing, tenant := 5, size := 16 } with mem := [(64, 9), (1048576, 7)] }), (0), by decide +kernel⟩,
    ⟨({ hint8.setPage 0 3 (some { channel := 7, near := true, failed := true }) with pool := { (hint8.setPage 0 3 (some { channel := 7, near := true, failed := true })).pool with channels := [(1, { state := .online }), (7, { state := .failed })] } }), (.dict .spi), (0), (3), (1), (true), (false), ({ channel := 7, near := true, failed := true }), by decide +kernel⟩,
    ⟨({ hint8 with pool := { channels := [(7, { state := .online })] } }), (.dict .spi), (7), (5), by decide +kernel⟩,
    ⟨({ State.reset with pool := { channels := [(7, { state := .online })] } }), (.dict .spi), (7), by decide +kernel⟩,
    ⟨({ State.reset with pool := { channels := [(7, { state := .failed })] } }), (.dict .spi), (7), by decide +kernel⟩,
    ⟨({ State.reset with pool := { channels := [(7, { state := .failed, retraining := true })] } }), (7), (true), by decide +kernel⟩,
    ⟨(State.reset), (7), by decide +kernel⟩,
    ⟨({ hint8 with traffic := { dispatched := [(7, [{ preq := read8, since := 100 }])] } }), (7), ({ preq := read8, since := 100 }), ([]), by decide +kernel⟩,
    ⟨(State.reset), (7), by decide +kernel⟩⟩

/-- Every clause of PoolRequestsAndMovesEnd has a state and operands that meet its hypotheses. -/
theorem witness_PoolRequestsAndMovesEnd :
    (∃ (s : State) (offset n pg : Nat) (r : PageRec), (s.running = true) ∧ (s.pageAt offset = some (n, pg, r)) ∧ (r.failed = false) ∧
      (s.power.containWaits = [])) ∧
    (∃ (s : State) (ch id : Nat) (d : Dispatched), (s.running = true) ∧ ((s.inChannel ch).find? (fun d => decide (d.preq.id = id)) = some
      d) ∧ (Store.wf ([] : List Dispatched) s.traffic.dispatched = true)) ∧
    (∃ (s : State) (channel id : Nat) (d : Dispatched), (s.running = true) ∧ ((s.inChannel channel).find? (fun d => decide (d.preq.id =
      id)) = some d) ∧ (s.faults.tierError = []) ∧ (s.faults.tierLate = []) ∧ (d.preq.oper.op ≠ 6) ∧ (d.preq.oper.req.posted = false) ∧
      (d.preq.oper.req.localA = 0) ∧ (Store.wf ([] : List Dispatched) s.traffic.dispatched = true)) ∧
    (∃ (s : State) (n page dest : Nat) (m : QueuedMove) (r : PageRec), (s.running = true) ∧ (s.pool.queued.find? (fun m => decide (m.part
      = n) && decide (m.page = page)) = some m) ∧ (s.page n page = some r) ∧ (s.moveOf n page = none) ∧ ((s.pool.moves.filter (fun x =>
      decide (x.part = n))).length < 16) ∧ (r.failed = false) ∧ (r.near ≠ m.toNear) ∧ ((s.part n).frameFor m.toNear page = some dest) ∧
      (s.moveSlot n r.channel dest = true)) ∧
    (∃ (s : State) (n page : Nat) (m : PageMove) (r : PageRec), (s.running = true) ∧ (s.moveOf n page = some m) ∧ (s.pageInFlight n page
      = false) ∧ (s.page n page = some r) ∧ (m.held = [])) ∧
    (∃ (s : State) (n page : Nat) (m : PageMove) (x : HeldRequest) (rest : List HeldRequest), (s.running = true) ∧ (s.moveOf n page =
      some m) ∧ (s.pool.moves = [m]) ∧ (m.held = x :: rest)) ∧
    (∃ (s : State) (o : Operation) (n pg : Nat) (r : PageRec), (Arrives s o 0xE0) ∧ (o.req.posted = false) ∧ (o.req.md.getLsbD 4 = false)
      ∧ (s.hintCheck o true = none) ∧ (s.hintRange o = (n, pg, 1)) ∧ ((s.part n).twoTier = true) ∧ (s.page n pg = some r) ∧ (r.failed =
      false) ∧ (r.near = false) ∧ (s.moving n pg true = false)) ∧
    (∃ (s : State) (o : Operation) (n pg : Nat) (r : PageRec), (Arrives s o 0xE0) ∧ (o.req.posted = false) ∧ (o.req.md.getLsbD 4 = false)
      ∧ (s.hintCheck o true = none) ∧ (s.hintRange o = (n, pg, 1)) ∧ ((s.part n).twoTier = true) ∧ (s.page n pg = some r) ∧ (r.failed =
      false) ∧ (r.pinned = false) ∧ (r.near = true) ∧ (s.moving n pg false = false)) ∧
    (∃ (s : State) (o : Operation) (n pg : Nat) (r : PageRec), (Arrives s o 0xE0) ∧ (o.req.posted = false) ∧ (o.req.md.getLsbD 4 = false)
      ∧ (s.hintCheck o true = none) ∧ (s.hintRange o = (n, pg, 1)) ∧ ((s.part n).twoTier = true) ∧ (s.pinCheck n pg 1 = none) ∧ (s.page n
      pg = some r) ∧ (r.failed = false) ∧ (r.near = false) ∧ (s.moving n pg true = false)) ∧
    (∃ (s : State) (o : Operation) (n pg : Nat) (r : PageRec), (Arrives s o 0xE0) ∧ (o.req.posted = false) ∧ (o.req.md.getLsbD 4 = false)
      ∧ (s.hintCheck o true = none) ∧ (s.hintRange o = (n, pg, 1)) ∧ (s.page n pg = some r)) ∧
    (∃ (s : State) (o : Operation) (n pg cnt : Nat) (r : LayerRec) (x : PageRec), (Arrives s o 0xE0) ∧ (o.req.posted = false) ∧
      (o.req.md.getLsbD 4 = false) ∧ (s.hintCheck o false = none) ∧ (s.hintRange o = (n, pg, cnt)) ∧ (o.length = 0) ∧ ((s.part n).twoTier
      = true) ∧ (o.operand1.toNat < (s.part n).layerCount) ∧ (s.ownLayer n o.operand1.toNat = some r) ∧ (r.release = 0) ∧ (r.count = 1) ∧
      (s.page n r.first = some x) ∧ (x.failed = false) ∧ (x.near = false) ∧ (s.moving n r.first true = false)) ∧
    (∃ (s : State) (o : Operation) (n pg cnt : Nat), (Arrives s o 0xE0) ∧ (o.req.posted = false) ∧ (o.req.md.getLsbD 4 = false) ∧
      (s.hintCheck o false = none) ∧ (s.hintRange o = (n, pg, cnt)) ∧ (o.length = 0)) :=
  ⟨⟨(hint8), (131136), (0), (2), ({ channel := 256, near := false }), by decide +kernel⟩,
    ⟨({ hint8 with traffic := { dispatched := [(256, [{ preq := read8, since := 100, deadline := 40100 }])] } }), (256), (9), ({ preq := read8, since := 100, deadline := 40100 }), by decide +kernel⟩,
    ⟨({ hint8 with traffic := { dispatched := [(256, [{ preq := read8, since := 100, answer := { data := [1, 2] } }])] } }), (256), (9), ({ preq := read8, since := 100, answer := { data := [1, 2] } }), by decide +kernel⟩,
    ⟨({ hint8 with pool := { hint8.pool with queued := [{ part := 0, page := 2, toNear := true, cause := .counter }] } }), (0), (2), (1), ({ part := 0, page := 2, toNear := true, cause := .counter }), ({ channel := 256, near := false }), by decide +kernel⟩,
    ⟨({ hint8 with pool := { hint8.pool with moves := [{ part := 0, page := 2, toNear := true, dest := 1, cause := .counter }] } }), (0), (2), ({ part := 0, page := 2, toNear := true, dest := 1, cause := .counter }), ({ channel := 256, near := false }), by decide +kernel⟩,
    ⟨({ hint8 with pool := { hint8.pool with moves := [{ part := 0, page := 2, toNear := true, dest := 1, cause := .counter, held := [{ oper := read8.oper, since := 0, due := 200 }] }] } }), (0), (2), ({ part := 0, page := 2, toNear := true, dest := 1, cause := .counter, held := [{ oper := read8.oper, since := 0, due := 200 }] }), ({ oper := read8.oper, since := 0, due := 200 }), ([]), by decide +kernel⟩,
    ⟨(hint8), (hintOp 0), (0), (2), ({ channel := 256, near := false }), by decide +kernel⟩,
    ⟨(hint8.setPage 0 2 (some { channel := 1, near := true })), (hintOp 1), (0), (2), ({ channel := 1, near := true }), by decide +kernel⟩,
    ⟨(hint8), (hintOp 2), (0), (2), ({ channel := 256, near := false }), by decide +kernel⟩,
    ⟨(hint8.setPage 0 2 (some { channel := 1, near := true, pinned := true })), (hintOp 3), (0), (2), ({ channel := 1, near := true, pinned := true }), by decide +kernel⟩,
    ⟨(hint8.memWrite 16 [0, 0, 1, 0, 2, 0, 0, 0, 1]), ({ hintOp 4 with length := 0, operand1 := 1 }), (0), (2), (0), ({ part := 0, pin := true, release := 0, first := 2, count := 1, deadline := 0 }), ({ channel := 256, near := false }), by decide +kernel⟩,
    ⟨({ hint8 with pool := { hint8.pool with queued := [{ part := 0, page := 2, toNear := true, cause := .counter }] } }), ({ hintOp 5 with length := 0 }), (0), (2), (0), by decide +kernel⟩⟩

/-- Every clause of KvCommandsTakeEffect has a state and operands that meet its hypotheses. -/
theorem witness_KvCommandsTakeEffect :
    (∃ (s : State) (a : Access) (tn : Nat) (p : Option Nat), (s.running = true) ∧ (accessMgmt a = true) ∧ ((s.store tn).enable = false) ∧
      (s.storeCheck tn { s.store tn with partition := p.getD (s.store tn).partition } = none)) ∧
    (∃ (s : State) (a : Access) (tn : Nat), (s.running = true) ∧ (accessMgmt a = true) ∧ (Store.wf ({} : KvStore) s.kv.stores = true)) ∧
    (∃ (s : State) (o : Operation), (KvCommand s o) ∧ (o.operand2 = 0) ∧ (fieldAt o.params 7 1 / 8 = 0) ∧ (kvParamsOk (kvParams o) =
      true) ∧ (64 + (kvParams o).pageBytes ≤ (s.store o.req.issuer.tenant).slotBytes) ∧ (s.session o.req.issuer.tenant o.operand1 = none)
      ∧ (runPlaces (kvParams o).layers s.handleRuns 0 ≠ 0) ∧ ((s.kv.sessions.filter (fun y => y.live)).length < 262144) ∧
      ((((s.kv.sessions.filter (fun y => y.live)).filter (fun y => decide (y.tenant = o.req.issuer.tenant))).map KvSession.meta_).sum +
      (kvParams o).meta_ ≤ (s.store o.req.issuer.tenant).metaPages * 65536) ∧ (((kvParams o).retain = false ∨ s.retainFits
      o.req.issuer.tenant (s.retainedSlots o.req.issuer.tenant) = true))) ∧
    (∃ (s : State) (o : Operation) (x : KvSession), (KvCommand s o) ∧ (o.operand2 = 0) ∧ (KvNames s o x)) ∧
    (∃ (s : State) (o : Operation) (x : KvSession), (KvCommand s o) ∧ (o.operand2 = 0) ∧ (KvNames s o x)) ∧
    (∃ (s : State) (o : Operation) (x : KvSession), (KvCommand s o) ∧ (KvNames s o x) ∧ (o.operand2.toNat ≤ 86400000)) ∧
    (∃ (s : State) (o : Operation) (x : KvSession), (KvCommand s o) ∧ (o.operand2 = 0) ∧ (KvNames s o x) ∧ ((x.retain = true ∨
      s.retainFits x.tenant (s.retainedSlots x.tenant + x.slotCount) = true))) ∧
    (∃ (s : State) (o : Operation) (x : KvSession), (KvCommand s o) ∧ (o.operand2 = 0) ∧ (KvNames s o x)) ∧
    (∃ (s : State) (o : Operation) (x : KvSession) (fresh : List Nat), (KvCommand s o) ∧ (o.operand2 = 0) ∧ (KvNames s o x) ∧ (fresh =
      (s.sessionPages x).filter (fun p => match s.page (s.store x.tenant).partition p with | some r => !r.pinned | none => false)) ∧
      (((s.part (s.store x.tenant).partition).twoTier = false ∨ s.pinnedPages (s.store x.tenant).partition + fresh.length + (s.part
      (s.store x.tenant).partition).mapPages + 8 ≤ (s.part (s.store x.tenant).partition).nearPages))) ∧
    (∃ (s : State) (o : Operation) (x : KvSession), (KvCommand s o) ∧ (o.operand2 = 0) ∧ (KvNames s o x)) ∧
    (∃ (s : State) (o : Operation) (x : KvSession), (KvCommand s o) ∧ (KvNames s o x) ∧ (bitsOf o.operand2.toNat 31 16 = 0) ∧ (bitsOf
      o.operand2.toNat 63 52 = 0) ∧ (bitsOf o.operand2.toNat 15 0 < x.layers) ∧ (bitsOf o.operand2.toNat 15 0 ≠ 0xFFFF) ∧ (bitsOf
      o.operand2.toNat 51 32 ≤ x.tokensOf (bitsOf o.operand2.toNat 15 0)) ∧ (s.attendsOf x = []) ∧ (Store.wf 0 x.written = true)) ∧
    (∃ (s : State) (tn : Nat) (name : Word64) (x : KvSession) (p : PendingTruncate) (rest : List PendingTruncate) (l : Nat), (s.running =
      true) ∧ (s.session tn name = some x) ∧ (x.truncates = p :: rest) ∧ (p.waits.any (fun id => s.kv.attends.any (fun a => decide (a.id
      = id))) = false) ∧ (p.layer = some l) ∧ (x.held = []) ∧ (p.req.posted = false) ∧ (Store.wf 0 x.written = true)) ∧
    (∃ (s : State) (o : Operation) (x : KvSession), (KvCommand s o) ∧ (o.operand2 = 0) ∧ (KvNames s o x)) ∧
    (∃ (s : State) (tn : Nat) (name : Word64) (x : KvSession) (r : Req), (s.running = true) ∧ (s.session tn name = some x) ∧ (x.state =
      .deleting) ∧ (x.deleting = some r) ∧ (r.posted = false) ∧ (s.attendsOf x = [])) ∧
    (∃ (s : State) (o : Operation) (x : KvSession), (KvCommand s o) ∧ (KvNames s o x) ∧ (o.operand2.toNat < 65536) ∧ (x.state = .opened)) ∧
    (∃ (s : State) (tn : Nat) (name : Word64) (destBase : Nat) (x : KvSession) (m : SessionMove), (s.running = true) ∧ (s.session tn name
      = some x) ∧ (x.move = some m) ∧ (m.switching = false)) ∧
    (∃ (s : State) (tn : Nat) (name : Word64) (x : KvSession) (m : SessionMove) (base : Nat), (s.running = true) ∧ (s.session tn name =
      some x) ∧ (x.move = some m) ∧ (m.switching = true) ∧ (m.destBase = some base) ∧ (s.attendsOf x = []) ∧ (m.req.posted = false)) ∧
    (∃ (s : State), (s.running = true)) ∧
    (∃ (s : State) (base : Nat) (q : Quarantine), (s.running = true) ∧ (s.kv.quarantine.find? (fun q => decide (q.base = base)) = some
      q)) :=
  ⟨⟨({ kv9 with kv := { stores := [(5, { slotUnits := 9, metaPages := 16 })] } }), (.dict .spi), (5), (some 0), by decide +kernel⟩,
    ⟨(kv9), (.dict .spi), (5), by decide +kernel⟩,
    ⟨(kv9), ({ ctl9 0 with operand1 := 8, params := [1, 0, 1, 0, 64, 0, 0x0C, 0, 0, 0, 0, 0, 64, 0, 0, 0] }), by decide +kernel⟩,
    ⟨(kv9), (ctl9 0), (session9), by decide +kernel⟩,
    ⟨(kv9), (ctl9 0), (session9), by decide +kernel⟩,
    ⟨(kv9), (ctl9 60000), (session9), by decide +kernel⟩,
    ⟨(kv9), (ctl9 0), (session9), by decide +kernel⟩,
    ⟨(with9 { session9 with retain := true }), (ctl9 0), ({ session9 with retain := true }), by decide +kernel⟩,
    ⟨(kv9.setPage 0 16 (some {})), (ctl9 0), (session9), ([16]), by decide +kernel⟩,
    ⟨((with9 { session9 with near := true }).setPage 0 16 (some { pinned := true })), (ctl9 0), ({ session9 with near := true }), by decide +kernel⟩,
    ⟨(kv9), (ctl9 (2 * 2 ^ 32)), (session9), by decide +kernel⟩,
    ⟨(with9 { session9 with truncates := [{ layer := some 0, count := 2, req := req9, waits := [3] }] }), (5), (7), ({ session9 with truncates := [{ layer := some 0, count := 2, req := req9, waits := [3] }] }), ({ layer := some 0, count := 2, req := req9, waits := [3] }), ([]), (0), by decide +kernel⟩,
    ⟨(kv9), (ctl9 0), (session9), by decide +kernel⟩,
    ⟨(with9 { session9 with state := .deleting, deleting := some req9 }), (5), (7), ({ session9 with state := .deleting, deleting := some req9 }), (req9), by decide +kernel⟩,
    ⟨(kv9), (ctl9 9), (session9), by decide +kernel⟩,
    ⟨(with9 { session9 with state := .moving, move := some { req := req9, dest := 9 } }), (5), (7), (40), ({ session9 with state := .moving, move := some { req := req9, dest := 9 } }), ({ req := req9, dest := 9 }), by decide +kernel⟩,
    ⟨(with9 { session9 with state := .moving, move := some { req := req9, dest := 9, switching := true, destBase := some 40 } }), (5), (7), ({ session9 with state := .moving, move := some { req := req9, dest := 9, switching := true, destBase := some 40 } }), ({ req := req9, dest := 9, switching := true, destBase := some 40 }), (40), by decide +kernel⟩,
    ⟨({ with9 { session9 with ttl := 1 } with ftc := 4000000 }), by decide +kernel⟩,
    ⟨({ State.reset with kv := { quarantine := [{ base := 16, count := 1, due := 70 }] } }), (16), ({ base := 16, count := 1, due := 70 }), by decide +kernel⟩⟩

/-- Every clause of TokensPagesAndAttends has a state and operands that meet its hypotheses. -/
theorem witness_TokensPagesAndAttends :
    (∃ (s : State) (o : Operation) (x : KvSession) (n : Nat), (Arrives s o 0xFF) ∧ (o.req.posted = false) ∧ (addrRegion o.req.target = 6)
      ∧ (bitsOf (addrOffset o.req.target) 43 42 = 0) ∧ (KvTakes s o.req.issuer) ∧ (s.handleSession o = .ok x) ∧ (x.holds = false) ∧
      (zerosAt o.data 8 8 = true) ∧ (1 ≤ n) ∧ (o.length = 16 + n * x.tokenBytes) ∧ (x.tokenBytes ≠ 0) ∧ (fieldAt o.data 0 8 =
      x.session.toNat) ∧ (bitsOf o.req.target.toNat 19 0 = x.tokensOf (bitsOf o.req.target.toNat 41 20 - x.base)) ∧ (x.tokensOf (bitsOf
      o.req.target.toNat 41 20 - x.base) + n ≤ x.maxTokens) ∧ (s.session x.tenant x.session = some x) ∧ (((List.range (x.maxTokens / 16 +
      1)).all (fun p => decide (p < bitsOf o.req.target.toNat 19 0 / 16 ∨ ceilDiv (bitsOf o.req.target.toNat 19 0 + n) 16 ≤ p) ||
      (x.slotOf (bitsOf o.req.target.toNat 41 20 - x.base) p).isSome)) = true)) ∧
    (∃ (s : State) (o : Operation) (x : KvSession) (bs : List Byte), (Arrives s o 0xFF) ∧ (o.req.posted = false) ∧ (o.req.localA = 0) ∧
      (addrRegion o.req.target = 6) ∧ (bitsOf (addrOffset o.req.target) 43 42 = 1) ∧ (KvTakes s o.req.issuer) ∧ (s.handleSession o = .ok
      x) ∧ (x.holds = false) ∧ (bitsOf o.req.target.toNat 3 0 = 0) ∧ (o.length = 64 + x.pageBytes) ∧ (bitsOf o.req.target.toNat 19 4 <
      ceilDiv (x.tokensOf (bitsOf o.req.target.toNat 41 20 - x.base)) 16) ∧ ((s.readSlot x (bitsOf o.req.target.toNat 41 20 - x.base)
      (bitsOf o.req.target.toNat 19 4)).1 = .ok bs)) ∧
    (∃ (s : State) (o : Operation) (x : KvSession) (first count : Nat), (Arrives s o 0xFF) ∧ (addrRegion o.req.target = 6) ∧ (bitsOf
      (addrOffset o.req.target) 43 42 = 2) ∧ (KvTakes s o.req.issuer) ∧ (s.handleSession o = .ok x) ∧ (x.holds = false) ∧ (x.prefetchNext
      = false) ∧ (bitsOf o.req.target.toNat 19 0 = 0) ∧ (fieldAt o.data 27 1 < 2) ∧ (zerosAt o.data 40 24 = true) ∧ (fieldAt o.data 0 8 =
      x.session.toNat) ∧ ((1 ≤ fieldAt o.data 25 1 ∧ fieldAt o.data 25 1 ≤ 3 ∧ 1 ≤ fieldAt o.data 26 1 ∧ fieldAt o.data 26 1 ≤ 3)) ∧
      ((x.heads ≤ fieldAt o.data 24 1 ∧ fieldAt o.data 24 1 ≤ 128 ∧ fieldAt o.data 24 1 % x.heads = 0 ∧ fieldAt o.data 24 1 / x.heads ≤
      16)) ∧ (fieldAt o.data 8 8 % 64 = 0) ∧ (first = fieldAt o.data 16 4) ∧ (first < x.tokensOf (bitsOf o.req.target.toNat 41 20 -
      x.base)) ∧ (count = (if fieldAt o.data 20 4 = 0 then x.tokensOf (bitsOf o.req.target.toNat 41 20 - x.base) - first else fieldAt
      o.data 20 4)) ∧ (first + count ≤ x.tokensOf (bitsOf o.req.target.toNat 41 20 - x.base)) ∧ (o.length = 64 + fieldAt o.data 24 1 *
      x.dim * (if fieldAt o.data 25 1 = 1 then 4 else 2)) ∧ (s.hasCluster x.tenant = true) ∧ ((s.attendRunning < 1024 ∨ s.attendQueued <
      8192))) ∧
    (∃ (s : State) (id : Nat) (a : Attend), (s.running = true) ∧ (s.kv.attends.find? (fun a => !a.running) = some a) ∧ (a.id = id) ∧
      (s.attendRunning < 1024)) ∧
    (∃ (s : State) (id range : Nat) (a : Attend) (x : KvSession) (hp : List HeadPartial), (s.running = true) ∧ (s.kv.attends.find? (fun a
      => decide (a.id = id)) = some a) ∧ (a.running = true) ∧ (a.failed = none) ∧ (range < a.ranges) ∧ (Store.read none a.partials range
      = none) ∧ (a.stopped.contains range = false) ∧ (s.session a.tenant a.session = some x) ∧ ((s.begin.attendRange x a ((List.range
      (min (rangePages a.pages) (a.pages - range * rangePages a.pages))).map (fun k => a.firstPage + range * rangePages a.pages + k))
      (List.replicate a.qHeads (emptyHead x.dim))).1 = .ok hp)) ∧
    (∃ (s : State) (id : Nat) (r : Response) (a : Attend) (out : List Byte), (s.running = true) ∧ (s.kv.attends.find? (fun a => decide
      (a.id = id)) = some a) ∧ (a.output = some out) ∧ (a.failed = none) ∧ (a.op = 1) ∧ (a.req.posted = false) ∧ (a.req.localA = 0) ∧
      (r.status = .ok) ∧ ((s.begin.writeLocal a.req.issuer a.req.tc a.outAddr out).1 = .ok)) :=
  ⟨⟨(kv9), ({ op := 1, req := { issuer := who5, target := 0xFFFF600001000003#64 }, length := 148, data := [7] ++ List.replicate 147 0 }), (session9), (1), by decide +kernel⟩,
    ⟨(kv9.memWrite 1048576 (kvHeader session9 0 0 3)), ({ op := 2, req := { issuer := who5, target := 0xFFFF640001000000#64 }, length := 2176 }), (session9), (kvHeader session9 0 0 3 ++ List.replicate 2112 0), by decide +kernel⟩,
    ⟨(kv9), ({ op := 1, req := { issuer := who5, target := 0xFFFF680001000000#64 }, length := 320, data := [7] ++ List.replicate 23 0 ++ [1, 1, 2, 0] ++ List.replicate 292 0 }), (session9), (0), (3), by decide +kernel⟩,
    ⟨({ kv9 with kv := { kv9.kv with attends := [attend9] } }), (3), (attend9), by decide +kernel⟩,
    ⟨({ kv9.memWrite 1048576 (kvHeader session9 0 0 3) with kv := { kv9.kv with attends := [{ attend9 with running := true }] } }), (3), (0), ({ attend9 with running := true }), (session9), ([]), by decide +kernel⟩,
    ⟨({ kv9 with kv := { kv9.kv with attends := [{ attend9 with running := true, output := some [1] }] } }), (3), ({}), ({ attend9 with running := true, output := some [1] }), ([1]), by decide +kernel⟩⟩

/-- Every clause of CachingOperationsTakeEffect has a state and operands that meet its hypotheses. -/
theorem witness_CachingOperationsTakeEffect :
    (∃ (s : State) (o : Operation) (n k : Nat) (a : Agent) (w : Nat × Window), (Caches s o 0 n a w) ∧ (s.entryAt (addrOffset o.req.target
      / 128) = none) ∧ (s.freeWay (addrOffset o.req.target / 128) (s.waysOf (s.part w.2.partition).tenant) = some k) ∧ (s.coh.spec.all
      (fun x => decide (x.line ≠ addrOffset o.req.target / 128)) = true) ∧ ((s.lineRead (addrOffset o.req.target / 128) (a.span o).1
      (a.span o).2).2 = true)) ∧
    (∃ (s : State) (o : Operation) (n k : Nat) (a : Agent) (w : Nat × Window), (Caches s o 0 n a w) ∧ (s.entryAt (addrOffset o.req.target
      / 128) = none) ∧ (s.freeWay (addrOffset o.req.target / 128) (s.waysOf (s.part w.2.partition).tenant) = some k) ∧ (s.coh.spec.all
      (fun x => decide (x.line ≠ addrOffset o.req.target / 128)) = true) ∧ ((s.lineRead (addrOffset o.req.target / 128) (a.span o).1
      (a.span o).2).2 = true)) ∧
    (∃ (s : State) (o : Operation) (n k : Nat) (a : Agent) (w : Nat × Window) (e : DirEntry), (Caches s o 0 n a w) ∧ (s.entryAt
      (addrOffset o.req.target / 128) = some (k, e)) ∧ (e.state = .shared) ∧ (e.sharers = [n])) ∧
    (∃ (s : State) (o : Operation) (n k : Nat) (a : Agent) (w : Nat × Window) (e : DirEntry), (Caches s o (if a.kind = 2 then 64 else
      128) n a w) ∧ (s.entryAt (addrOffset o.req.target / 128) = some (k, e)) ∧ (e.state = .em) ∧ (e.owner = n) ∧ (s.firstPoison
      (s.backing w.2 (addrOffset o.req.target / 128 * 128 + (a.span o).1)) (a.span o).2 = none) ∧ ((sliceB o.data 0 (a.span o).2).length
      = (a.span o).2) ∧ (BytesCanonical s) ∧ (Store.wf none s.coh.entries = true)) ∧
    (∃ (s : State) (o : Operation) (n k : Nat) (a : Agent) (w : Nat × Window) (e : DirEntry), (Caches s o 0 n a w) ∧ (a.kind ≠ 2) ∧
      (s.entryAt (addrOffset o.req.target / 128) = some (k, e)) ∧ (e.state = .shared) ∧ (e.sharers = [n]) ∧ (Store.wf none s.coh.entries
      = true)) ∧
    (∃ (s : State) (o : Operation) (n : Nat) (a : Agent) (w : Nat × Window), (Caches s o 0 n a w) ∧ (s.entryAt (addrOffset o.req.target /
      128) = none) ∧ ((s.lineRead (addrOffset o.req.target / 128) 0 128).2 = true) ∧ ((s.sliceSpec (addrOffset o.req.target /
      128)).length < 256) ∧ (s.coh.spec.all (fun x => decide (x.line ≠ addrOffset o.req.target / 128)) = true)) :=
  ⟨⟨(coh10), (cache10), (0), (32), ({ node := 3, kind := 1, tenant := 5 }), ((0, { enable := true, pages := 4 })), by decide +kernel⟩,
    ⟨(coh10), (cache10), (0), (32), ({ node := 3, kind := 1, tenant := 5 }), ((0, { enable := true, pages := 4 })), by decide +kernel⟩,
    ⟨(entry10 { line := 2, state := .shared, sharers := [0] }), (cache10), (0), (32), ({ node := 3, kind := 1, tenant := 5 }), ((0, { enable := true, pages := 4 })), ({ line := 2, state := .shared, sharers := [0] }), by decide +kernel⟩,
    ⟨(entry10 { line := 2, state := .em, owner := 0 }), ({ cache10 with length := 128, data := [1, 2] ++ List.replicate 126 0 }), (0), (32), ({ node := 3, kind := 1, tenant := 5 }), ((0, { enable := true, pages := 4 })), ({ line := 2, state := .em, owner := 0 }), by decide +kernel⟩,
    ⟨(entry10 { line := 2, state := .shared, sharers := [0] }), (cache10), (0), (32), ({ node := 3, kind := 1, tenant := 5 }), ((0, { enable := true, pages := 4 })), ({ line := 2, state := .shared, sharers := [0] }), by decide +kernel⟩,
    ⟨(coh10), (cache10), (0), ({ node := 3, kind := 1, tenant := 5 }), ((0, { enable := true, pages := 4 })), by decide +kernel⟩⟩

/-- Every clause of DirectoryAndWindowsChange has a state and operands that meet its hypotheses. -/
theorem witness_DirectoryAndWindowsChange :
    (∃ (s : State) (agent line : Nat) (half : Option Nat) (r : LineReq), (s.running = true) ∧ (s.coh.requests.find? (fun r => decide
      (r.line = line) && r.snoops.any (fun x => decide (x.agent = agent) && decide (x.half = half))) = some r) ∧ (r.snoops.filter (fun x
      => !(decide (x.agent = agent) && decide (x.half = half))) ≠ [])) ∧
    (∃ (s : State) (agent line k : Nat) (half : Option Nat) (r : LineReq) (e : DirEntry), (s.running = true) ∧ (s.coh.requests.find? (fun
      r => decide (r.line = line) && r.snoops.any (fun x => decide (x.agent = agent) && decide (x.half = half))) = some r) ∧
      (r.snoops.filter (fun x => !(decide (x.agent = agent) && decide (x.half = half))) = []) ∧ (r.op = .flush) ∧ (r.got = []) ∧
      (s.entryAt line = some (k, e)) ∧ (Store.wf none s.coh.entries = true)) ∧
    (∃ (s : State) (id : Nat) (r : LineReq), (s.running = true) ∧ (s.coh.requests.find? (fun r => decide (r.id = id)) = some r) ∧ (r.wait
      = .busy) ∧ (r.op = .flush) ∧ (r.got = []) ∧ (s.coh.requests.filter (fun x => decide (x.line = r.line) && decide (x.id < r.id) &&
      decide (x.wait ≠ .slice)) = []) ∧ (s.entryAt r.line = none)) ∧
    (∃ (s : State) (line k : Nat) (e : DirEntry), (s.running = true) ∧ (s.entryAt line = some (k, e)) ∧ (s.coh.requests.filter (fun r =>
      decide (r.line = line) && decide (r.wait = .hold)) = [])) ∧
    (∃ (s : State) (agent line : Nat) (x : Snoop), (s.running = true) ∧ ((s.coh.requests.filter (fun r => decide (r.line =
      line))).findSome? (fun r => r.snoops.find? (fun x => decide (x.agent = agent))) = some x)) ∧
    (∃ (s : State) (line agent : Nat) (x : SpecLine), (s.running = true) ∧ (s.coh.spec.find? (fun x => decide (x.line = line) && decide
      (x.agent = agent)) = some x)) ∧
    (∃ (s : State) (a : Access) (n : Nat) (p : Option Nat), (s.running = true) ∧ (accessMgmt a = true) ∧ (s.windowCheck n
      { s.window n with partition := p.getD (s.window n).partition } = none)) ∧
    (∃ (s : State) (a : Access) (n : Nat), (s.running = true) ∧ (accessMgmt a = true) ∧ ((s.window n).enable = true)) ∧
    (∃ (s : State) (n : Nat), (s.running = true) ∧ (s.power.resetDue = none) ∧ ((s.window n).disabling = true) ∧ (s.windowEntries
      (s.window n) = []) ∧ (s.coh.requests.all (fun r => decide (r.line * 128 < (s.window n).base ∨ (s.window n).base + (s.window
      n).pages * 65536 ≤ r.line * 128)) = true) ∧ (Store.wf ({} : Window) s.coh.windows = true)) ∧
    (∃ (s : State) (i : Issuer) (tn : Nat) (v : Word32), (s.running = true) ∧ (i.tenant = 0xFF) ∧ (v.toNat < 65536) ∧ (s.coh.ways.any
      (fun e => decide (e.1 ≠ tn) && decide (e.2 &&& v.setWidth 16 ≠ 0)) = false) ∧ (s.ownsWindow tn = false) ∧ (Store.wf 0 s.coh.ways =
      true)) ∧
    (∃ (s : State) (a : Access) (n kind : Nat), (s.running = true) ∧ (accessMgmt a = true) ∧ (s.agentCheck n kind = none)) ∧
    (∃ (s : State) (a : Access) (n : Nat), (s.running = true) ∧ (accessMgmt a = true) ∧ (Store.wf ({} : Agent) s.coh.agents = true)) :=
  ⟨⟨({ coh10 with coh := { coh10.coh with requests := [{ id := 1, group := 0, line := 2, op := .flush, wait := .snoops, snoops := [{ agent := 0, kind := .inv, deadline := 9 }, { agent := 1, kind := .inv, deadline := 9 }] }] } }), (0), (2), (none), ({ id := 1, group := 0, line := 2, op := .flush, wait := .snoops, snoops := [{ agent := 0, kind := .inv, deadline := 9 }, { agent := 1, kind := .inv, deadline := 9 }] }), by decide +kernel⟩,
    ⟨({ entry10 { line := 2, state := .em, owner := 0 } with coh := { (entry10 { line := 2, state := .em, owner := 0 }).coh with requests := [{ id := 1, group := 0, line := 2, op := .flush, wait := .snoops, snoops := [{ agent := 0, kind := .inv, deadline := 9 }] }] } }), (0), (2), (32), (none), ({ id := 1, group := 0, line := 2, op := .flush, wait := .snoops, snoops := [{ agent := 0, kind := .inv, deadline := 9 }] }), ({ line := 2, state := .em, owner := 0 }), by decide +kernel⟩,
    ⟨({ coh10 with coh := { coh10.coh with requests := [{ id := 1, group := 0, line := 2, op := .flush, wait := .busy }] } }), (1), ({ id := 1, group := 0, line := 2, op := .flush, wait := .busy }), by decide +kernel⟩,
    ⟨(entry10 { line := 2, state := .em, owner := 0, holdUntil := 70, holders := [0] }), (2), (32), ({ line := 2, state := .em, owner := 0, holdUntil := 70, holders := [0] }), by decide +kernel⟩,
    ⟨({ entry10 { line := 2, state := .em, owner := 0 } with coh := { (entry10 { line := 2, state := .em, owner := 0 }).coh with requests := [{ id := 1, group := 0, line := 2, op := .flush, wait := .snoops, snoops := [{ agent := 0, kind := .inv, deadline := 9 }] }] } }), (0), (2), ({ agent := 0, kind := .inv, deadline := 9 }), by decide +kernel⟩,
    ⟨({ coh10 with coh := { coh10.coh with spec := [{ line := 2, agent := 0, since := 5 }] } }), (2), (0), ({ line := 2, agent := 0, since := 5 }), by decide +kernel⟩,
    ⟨({ coh10 with coh := { coh10.coh with windows := [(1, { pages := 4, backPages := 8 })] } }), (.dict .spi), (1), (some 0), by decide +kernel⟩,
    ⟨(coh10), (.dict .spi), (0), by decide +kernel⟩,
    ⟨({ coh10 with coh := { coh10.coh with windows := [(0, { enable := true, disabling := true, pages := 4 })] } }), (0), by decide +kernel⟩,
    ⟨(coh10), (mgmtIssuer), (6), (0xFF00), by decide +kernel⟩,
    ⟨({ coh10 with coh := { coh10.coh with agents := [(1, { node := 9, port := 2, tenant := 5 })] }, links := { ports := [(2, { mode := .cxl, state := .active })] } }), (.dict .spi), (1), (2), by decide +kernel⟩,
    ⟨(entry10 { line := 2, state := .em, owner := 0 }), (.dict .spi), (0), by decide +kernel⟩⟩

/-- Every clause of StreamsTakeEffect has a state and operands that meet its hypotheses. -/
theorem witness_StreamsTakeEffect :
    (∃ (s : State) (a : Access) (n : Nat), (s.running = true) ∧ (accessMgmt a = true) ∧ (s.streamCheck n (s.stream n) = none)) ∧
    (∃ (s : State) (n : Nat), (s.running = true) ∧ ((s.stream n).enabling = true)) ∧
    (∃ (s : State) (n : Nat) (r : Req), (s.running = true) ∧ ((s.stream n).enabling = false) ∧ ((s.stream n).resetReq = some r) ∧
      ((s.stream n).puts = []) ∧ ((s.stream n).trains = []) ∧ ((s.stream n).sealReq = none) ∧ (r.posted = false)) ∧
    (∃ (s : State) (a : Access) (n : Nat), (s.running = true) ∧ (accessMgmt a = true) ∧ (Store.wf ({} : Stream) s.cz.streams = true)) ∧
    (∃ (s : State) (o : Operation) (x : Stream), (OnStream s o 0xFF x) ∧ (o.operand1 = 0) ∧ (czSize o = true) ∧ ((s.part
      x.partition).staticBy = none) ∧ (x.state = .opened) ∧ (x.closing = false) ∧ (streamOffset o.req.target = x.accEnd * 4096) ∧
      (x.accEnd + ceilDiv o.length 4096 ≤ x.maxBlocks) ∧ (o.length % 4096 % elemBytes x.elem = 0) ∧ (ceilDiv (ceilDiv o.length 4096) 15 +
      1 ≤ x.freePages)) ∧
    (∃ (s : State) (n g : Nat) (p : CzPut) (rest : List CzPut) (b : List Byte) (more : List (List Byte)) (x : Stream) (tb : List (Nat ×
      List Nat) × State) (e : List Byte × Option Nat × Nat), (s.running = true) ∧ (s.stream n = x) ∧ (x.puts = p :: rest) ∧ (p.blocks = b
      :: more) ∧ (tb = s.begin.czTables (s.channelAt (s.czOff x (x.dataPage * 65536 + x.granules * 64))) n) ∧ (e = encodeBlock x.elem
      x.gen x.written tb.1 b) ∧ (g = (if 1024 < x.granules % 1024 + e.1.length / 64 then roundUp x.granules 1024 else x.granules)) ∧
      ((tb.2.storeWrite x (x.dataPage * 65536 + g * 64) e.1).1 = .ok) ∧ (((tb.2.storeWrite x (x.dataPage * 65536 + g * 64)
      e.1).2.storeWrite x (0x400 + 8 * x.written) (natLe 8 (g + e.1.length / 64 * 2 ^ 32 + 2 ^ 39))).1 = .ok)) ∧
    (∃ (s : State) (o : Operation) (x : Stream) (r : List Byte × Status × State), (OnStream s o 0xFF x) ∧ (o.operand1 = 0) ∧ (czSize o =
      true) ∧ (x.state ≠ .resetting) ∧ (streamOffset o.req.target + o.length ≤ x.size) ∧ (o.req.localA = 0) ∧ (r = s.begin.expandRange
      (streamNo o.req.target) (streamOffset o.req.target) (streamOffset o.req.target + o.length) ((List.range ((streamOffset o.req.target
      + o.length - 1) / 4096 + 1 - streamOffset o.req.target / 4096)).map (fun k => streamOffset o.req.target / 4096 + k)) []) ∧ (r.2.1 =
      .ok)) ∧
    (∃ (s : State) (o : Operation) (x : Stream), (CzControl s o 15 x) ∧ (o.length ≠ 0) ∧ (o.length % 4096 = 0) ∧ (o.length ≤ 262144) ∧
      (o.operand1.toNat % 16 ≠ 0) ∧ ((slotsOf (o.operand1.toNat % 16)).length ≤ o.length / 4096) ∧ ((slotsOf (o.operand1.toNat % 16)).any
      (fun k => x.used.getLsbD k) = false) ∧ (addrRegion o.req.localA = 0) ∧ (s.isHere (addrNode o.req.localA) = true) ∧ (s.poolCheck
      (addrOffset o.req.localA) o.length o.req.issuer.tenant none .get = none) ∧ (s.firstPoison (addrOffset o.req.localA) o.length =
      none)) ∧
    (∃ (s : State) (n : Nat) (x : Stream) (k : CzTrain) (rest : List CzTrain), (s.running = true) ∧ (s.stream n = x) ∧ (x.trains = k ::
      rest) ∧ (k.tables.all (fun e => decide (e.1 < 4) && !x.used.getLsbD e.1) = true) ∧ (((s.begin.setStream n
      { x with trains := rest }).loadSlots n k.tables).1 = .ok) ∧ (k.req.posted = false) ∧ (Store.wf ({} : Stream) s.cz.streams = true)) ∧
    (∃ (s : State) (o : Operation) (x : Stream), (CzControl s o 3 x) ∧ (o.length = 0) ∧ (fieldAt (sliceB o.data 0 256) 0 1 =
      o.operand1.toNat % 4) ∧ (fieldAt (sliceB o.data 0 256) 1 1 = x.elem) ∧ (lcheckOk (sliceB o.data 0 256) = true) ∧ (lengthsOk
      (recordLengths (sliceB o.data 0 256)) = true) ∧ (x.used.getLsbD (o.operand1.toNat % 4) = false) ∧ (x.damaged.getLsbD
      (o.operand1.toNat % 4) = false) ∧ ((s.begin.loadSlot (streamNo o.req.target) (o.operand1.toNat % 4) (recordLengths (sliceB o.data 0
      256))).1 = .ok)) ∧
    (∃ (s : State) (o : Operation) (x : Stream), (CzControl s o 0 x) ∧ (o.length = 0) ∧ (x.state = .opened) ∧ (x.closing = false)) ∧
    (∃ (s : State) (o : Operation) (x : Stream), (CzControl s o 0 x) ∧ (o.length = 0)) ∧
    (∃ (s : State) (n slot channel : Nat) (l : List Nat), (s.running = true) ∧ ((s.stream n).loaded.getLsbD slot = true) ∧ ((s.stream
      n).damaged.getLsbD slot = false) ∧ ((s.stream n).state ≠ .disabled) ∧ ((s.begin.fetchTable channel n slot).1 = .ok l)) :=
  ⟨⟨(cz11 { pages := 8, maxBlocks := 8 }), (.dict .spi), (2), by decide +kernel⟩,
    ⟨({ cz11 { stream11 with state := .disabled, enabling := true } with mem := [(64, 5), (2000, 7)] }), (2), by decide +kernel⟩,
    ⟨(cz11 { stream11 with state := .resetting, resetReq := some req9, written := 3 }), (2), (req9), by decide +kernel⟩,
    ⟨(cz11 stream11), (.dict .spi), (2), by decide +kernel⟩,
    ⟨(cz11 stream11), ({ czOp11 0x50 with length := 8, data := [1, 2, 3, 4, 5, 6, 7, 8] }), (stream11), by decide +kernel⟩,
    ⟨(cz11 { stream11 with puts := [{ req := req9, first := 0, blocks := [[0, 0]] }] }), (2), (0), ({ req := req9, first := 0, blocks := [[0, 0]] }), ([]), ([0, 0]), ([]), ({ stream11 with puts := [{ req := req9, first := 0, blocks := [[0, 0]] }] }), (([], (cz11 { stream11 with puts := [{ req := req9, first := 0, blocks := [[0, 0]] }] }).begin)), (encodeBlock 0 1 0 [] [0, 0]), by decide +kernel⟩,
    ⟨(((cz11 { stream11 with written := 1, granules := 1 }).memWrite 1024 (natLe 8 (2 ^ 32 + 2 ^ 39))).memWrite 65536 (czHeader 2 0 0 1 0 0 4096 0)), ({ czOp11 0x51 with length := 16 }), ({ stream11 with written := 1, granules := 1 }), ((((cz11 { stream11 with written := 1, granules := 1 }).memWrite 1024 (natLe 8 (2 ^ 32 + 2 ^ 39))).memWrite 65536 (czHeader 2 0 0 1 0 0 4096 0)).begin.expandRange 2 0 16 [0] []), by decide +kernel⟩,
    ⟨(cz11 stream11), ({ czOp11 0x52 with length := 4096, operand1 := 1, req := { (czOp11 0x52).req with localA := 0xFFFF000000200000#64 } }), (stream11), by decide +kernel⟩,
    ⟨(cz11 { stream11 with trains := [{ req := req9, mask := 1, tables := [(0, List.replicate 256 8)] }] }), (2), ({ stream11 with trains := [{ req := req9, mask := 1, tables := [(0, List.replicate 256 8)] }] }), ({ req := req9, mask := 1, tables := [(0, List.replicate 256 8)] }), ([]), by decide +kernel⟩,
    ⟨(cz11 stream11), ({ czOp11 0x52 with data := tableRecord 0 0 1 (List.replicate 256 8) }), (stream11), by decide +kernel⟩,
    ⟨(cz11 stream11), (czOp11 0x52), (stream11), by decide +kernel⟩,
    ⟨(cz11 stream11), (czOp11 0x52), (stream11), by decide +kernel⟩,
    ⟨((cz11 { stream11 with loaded := 1, tcrc := [(0, tcrcOf (tableRecord 0 0 1 (List.replicate 256 8)))] }).memWrite 0 (tableRecord 0 0 1 (List.replicate 256 8))), (2), (0), (7), (List.replicate 256 8), by decide +kernel⟩⟩

/-- Every clause of VectorQueriesTakeEffect has a state and operands that meet its hypotheses. -/
theorem witness_VectorQueriesTakeEffect :
    (∃ (s : State) (o : Operation) (n : Nat) (x : VIndex) (q : VQuery), (OnIndex s o 0xFF n x) ∧ (o.operand1 = 0) ∧ (q = vsQueryRec o x n
      s.meadow.nextQuery (s.now + usUnits (s.num O.queryTimeoutUs 10000))) ∧ (s.vsQueryCheck o x q = none)) ∧
    (∃ (s : State) (die : Nat) (q : VQuery) (y : ShardQuery) (rest : List (VQuery × ShardQuery)), (s.running = true) ∧ (s.arrayQueue die
      = (q, y) :: rest) ∧ (s.contextsFree die q.scan = true) ∧ (s.closed (.meadowArray die) = false)) ∧
    (∃ (s : State) (id shard : Nat) (q : VQuery) (y : ShardQuery) (l : List (Word32 × Nat)) (w : VsWork), (s.running = true) ∧ (s.vquery
      id = some q) ∧ (q.shards.find? (fun y => decide (y.shard = shard)) = some y) ∧ (y.started = true) ∧ (y.result = none) ∧
      (s.begin.vsShard { q := q, x := s.vindex q.index, h := shard, count := y.itemCount, side := y.sideCount } = .ok (l, w))) ∧
    (∃ (s : State) (id : Nat) (r : Response) (q : VQuery) (out : List Byte), (s.running = true) ∧ (s.vquery id = some q) ∧ (q.output =
      some out) ∧ (r.status = .ok) ∧ (q.req.posted = false) ∧ ((s.begin.writeLocal q.req.issuer q.req.tc q.outAddr out).1 = .ok)) ∧
    (∃ (s : State) (id : Nat) (q : VQuery), (s.running = true) ∧ (s.vquery id = some q) ∧ (q.output = none)) :=
  ⟨⟨(vs12 (index12 false)), ({ op := 0x60, req := { issuer := who5, target := 0xFFFF001000000000#64 }, length := 192, data := List.replicate 20 0 ++ [1, 0, 1, 0, 1, 0, 1, 0, 0, 0, 1, 0] ++ List.replicate 160 0 }), (1), (index12 false), (vsQueryRec { op := 0x60, req := { issuer := who5, target := 0xFFFF001000000000#64 }, length := 192, data := List.replicate 20 0 ++ [1, 0, 1, 0, 1, 0, 1, 0, 0, 0, 1, 0] ++ List.replicate 160 0 } (index12 false) 1 4 40000000), by decide +kernel⟩,
    ⟨({ vs12 (index12 false) with meadow := { indexes := [(1, index12 false)], queries := [{ query12 with shards := [{ shard := 0, itemCount := 0, sideCount := 0 }] }] } }), (0), ({ query12 with shards := [{ shard := 0, itemCount := 0, sideCount := 0 }] }), ({ shard := 0, itemCount := 0, sideCount := 0 }), ([]), by decide +kernel⟩,
    ⟨({ vs12 (index12 false) with meadow := { indexes := [(1, index12 false)], queries := [query12] } }), (3), (0), (query12), ({ shard := 0, itemCount := 0, sideCount := 0, started := true }), ([]), ({}), by decide +kernel⟩,
    ⟨({ vs12 (index12 false) with meadow := { indexes := [(1, index12 false)], queries := [{ query12 with output := some [0, 1, 1] }] } }), (3), ({}), ({ query12 with output := some [0, 1, 1] }), ([0, 1, 1]), by decide +kernel⟩,
    ⟨({ vs12 (index12 false) with meadow := { indexes := [(1, index12 false)], queries := [query12] } }), (3), (query12), by decide +kernel⟩⟩

/-- Every clause of VectorIndexesChange has a state and operands that meet its hypotheses. -/
theorem witness_VectorIndexesChange :
    (∃ (s : State) (o : Operation) (n : Nat) (x : VIndex), (OnIndex s o 0xF0 n x) ∧ (o.operand1 = 0) ∧ (o.length = 256) ∧
      (s.vsEnableCheck o n = none)) ∧
    (∃ (s : State) (o : Operation) (n : Nat) (x : VIndex), (OnIndex s o 0xF0 n x) ∧ (o.operand1 = 0) ∧ (o.length = 0) ∧ (IndexOpen o x)) ∧
    (∃ (s : State) (n : Nat) (r : Req), (s.running = true) ∧ (s.power.resetDue = none) ∧ ((s.vindex n).state = .disabling) ∧ ((s.vindex
      n).disabling = some r) ∧ (r.posted = false) ∧ (s.meadow.queries.any (fun q => decide (q.index = n)) = false) ∧ (Store.wf ({} :
      VIndex) s.meadow.indexes = true)) ∧
    (∃ (s : State) (o : Operation) (n h j : Nat) (x x1 : VIndex) (w0 : Status × State), (OnIndex s o 0xF0 n x) ∧ (o.operand1 = 0) ∧
      (IndexOpen o x) ∧ (o.length = x.sr) ∧ (x.locate (fieldAt (sliceB o.data 0 x.sr) 0 4) = some (h, j)) ∧ (fieldAt (sliceB o.data 0
      x.sr) 4 1 = 0) ∧ (zerosAt (sliceB o.data 0 x.sr) 5 59 = true) ∧ (j ≤ (x.shard h).itemCount) ∧ (neighboursOk x.degree (x.shard
      h).capacity (x.recParts (sliceB o.data 0 x.sr)).2.1 = true) ∧ (s.begin.itemLive x h j (fieldAt (sliceB o.data 0 x.sr) 0 4) = false)
      ∧ (x.deletes.any (fun d => decide (d.item = fieldAt (sliceB o.data 0 x.sr) 0 4)) = false) ∧ (x.sideList = true) ∧ ((x.shard
      h).merging = false) ∧ ((x.shard h).sideCount ≠ x.sideCapacity) ∧ (w0 = (if j = (x.shard h).itemCount then s.begin.setTomb x h j
      true else (.ok, s.begin))) ∧ (w0.1 = .ok) ∧ (x1 = x.setShard h
      { x.shard h with itemCount := if j = (x.shard h).itemCount then j + 1 else (x.shard h).itemCount }) ∧ (((w0.2.setVindex n
      x1).vsWrite x1 (x.shard h).partition (x.sideOff h (x.shard h).sideCount) (natLe 4 (fieldAt (sliceB o.data 0 x.sr) 0 4) ++ natLe 1 1
      ++ (sliceB o.data 0 x.sr).drop 5)).1 = .ok)) ∧
    (∃ (s : State) (o : Operation) (n h j : Nat) (x x1 : VIndex) (w0 w : Status × State), (OnIndex s o 0xF0 n x) ∧ (o.operand1 = 0) ∧
      (IndexOpen o x) ∧ (o.length = x.sr) ∧ (x.locate (fieldAt (sliceB o.data 0 x.sr) 0 4) = some (h, j)) ∧ (fieldAt (sliceB o.data 0
      x.sr) 4 1 = 0) ∧ (zerosAt (sliceB o.data 0 x.sr) 5 59 = true) ∧ (j ≤ (x.shard h).itemCount) ∧ (neighboursOk x.degree (x.shard
      h).capacity (x.recParts (sliceB o.data 0 x.sr)).2.1 = true) ∧ (s.begin.itemLive x h j (fieldAt (sliceB o.data 0 x.sr) 0 4) = false)
      ∧ (x.deletes.any (fun d => decide (d.item = fieldAt (sliceB o.data 0 x.sr) 0 4)) = false) ∧ (x.sideList = false) ∧ (w0 = (if j =
      (x.shard h).itemCount then s.begin.setTomb x h j true else (.ok, s.begin))) ∧ (w0.1 = .ok) ∧ (x1 = x.setShard h
      { x.shard h with itemCount := if j = (x.shard h).itemCount then j + 1 else (x.shard h).itemCount }) ∧ (w = (w0.2.setVindex n
      x1).vsWrites x1 (x.shard h).partition [((x.shard h).vectorOff + j * x.vs, (x.recParts (sliceB o.data 0 x.sr)).2.2), ((x.shard
      h).graphOff + j * x.gs, (x.recParts (sliceB o.data 0 x.sr)).2.1), ((x.shard h).sketchOff + j * x.sb, (x.recParts (sliceB o.data 0
      x.sr)).1)]) ∧ (w.1 = .ok) ∧ ((w.2.setTomb x1 h j false).1 = .ok)) ∧
    (∃ (s : State) (o : Operation) (n h j : Nat) (x : VIndex), (OnIndex s o 0xF0 n x) ∧ (IndexOpen o x) ∧ (o.length = 0) ∧
      (o.operand1.toNat < 2 ^ 32) ∧ (x.locate o.operand1.toNat = some (h, j)) ∧ (s.begin.itemLive x h j o.operand1.toNat = true) ∧
      ((s.begin.vsKill x h j o.operand1.toNat).1 = .ok) ∧ (s.vsRunning n h = [])) ∧
    (∃ (s : State) (o : Operation) (n : Nat) (x : VIndex), (OnIndex s o 0xF0 n x) ∧ (IndexOpen o x) ∧ (o.length = 0) ∧ (o.operand1.toNat
      < 2 ^ 32) ∧ ((match x.locate o.operand1.toNat with | some (h, j) => s.begin.itemLive x h j o.operand1.toNat | none => false) =
      false)) ∧
    (∃ (s : State) (n item : Nat) (d : PendingDelete), (s.running = true) ∧ ((s.vindex n).deletes.find? (fun d => decide (d.item = item))
      = some d) ∧ (d.waits.any (fun id => (s.vquery id).isSome) = false) ∧ (d.req.posted = false) ∧ (Store.wf ({} : VIndex)
      s.meadow.indexes = true)) ∧
    (∃ (s : State) (o : Operation) (n h j : Nat) (x : VIndex), (OnIndex s o 0xF0 n x) ∧ (IndexOpen o x) ∧ (o.length = x.gs) ∧
      (o.operand1.toNat < 2 ^ 32) ∧ (x.locate o.operand1.toNat = some (h, j)) ∧ (j < (x.shard h).itemCount) ∧ (neighboursOk x.degree
      (x.shard h).capacity (sliceB o.data 0 x.gs) = true) ∧ (s.poolCheck ((s.part (x.shard h).partition).base + ((x.shard h).graphOff + j
      * x.gs)) (sliceB o.data 0 x.gs).length x.tenant none .meadow = none) ∧ (s.firstPoison ((s.part (x.shard h).partition).base +
      ((x.shard h).graphOff + j * x.gs)) (sliceB o.data 0 x.gs).length = none) ∧ (BytesCanonical s)) ∧
    (∃ (s : State) (o : Operation) (n : Nat) (x : VIndex), (OnIndex s o 0xF0 n x) ∧ (o.operand1 = 0) ∧ (IndexOpen o x) ∧ (o.length = 0) ∧
      (x.merge = none) ∧ (x.sideList = true) ∧ ((List.range x.shards.length).all (fun h => decide ((x.shard h).sideCount = 0)) = true)) ∧
    (∃ (s : State) (o : Operation) (n : Nat) (x : VIndex) (hs : List Nat), (OnIndex s o 0xF0 n x) ∧ (o.operand1 = 0) ∧ (IndexOpen o x) ∧
      (o.length = 0) ∧ (x.merge = none) ∧ (x.sideList = true) ∧ (hs = (List.range x.shards.length).filter (fun h => decide ((x.shard
      h).sideCount ≠ 0))) ∧ (hs ≠ []) ∧ ((hs.foldl (fun (acc : Status × State) h => if acc.1 ≠ .ok then acc else acc.2.mergeCopy x h)
      (.ok, s.begin)).1 = .ok)) ∧
    (∃ (s : State) (n shard : Nat) (x : VIndex) (m : MergeJob), (s.running = true) ∧ (s.vindex n = x) ∧ (x.merge = some m) ∧ (m.left =
      [shard]) ∧ (m.req.posted = false) ∧ (s.meadow.queries.any (fun q => decide (q.index = n) && q.shards.any (fun y => decide (y.shard
      = shard) && !y.held && y.result.isNone)) = false) ∧ (Store.wf ({} : VIndex) s.meadow.indexes = true)) :=
  ⟨⟨(vs12 {}), (vsOp12 256 0 ([1, 1, 0, 0, 16, 0, 4, 1] ++ List.replicate 56 0 ++ [0, 0, 0, 0, 2, 0, 0, 0, 8, 0, 0, 0] ++ List.replicate 4 0 ++ natLe 8 0 ++ natLe 8 4096 ++ natLe 8 8192 ++ natLe 8 16384 ++ List.replicate 144 0)), (1), ({}), by decide +kernel⟩,
    ⟨(vs12 (index12 false)), (vsOp12 0 0 []), (1), (index12 false), by decide +kernel⟩,
    ⟨(vs12 { index12 false with state := .disabling, disabling := some req9 }), (1), (req9), by decide +kernel⟩,
    ⟨(vs12 (index12 true)), (vsOp12 256 0 (insert12 1)), (1), (0), (1), (index12 true), (index12 true), ((.ok, (vs12 (index12 true)).begin)), by decide +kernel⟩,
    ⟨(vs12 (index12 false)), (vsOp12 256 0 (insert12 1)), (1), (0), (1), (index12 false), (index12 false), ((.ok, (vs12 (index12 false)).begin)), (((vs12 (index12 false)).begin.setVindex 1 (index12 false)).vsWrites (index12 false) 0 [(8256, List.replicate 64 0), (4160, List.replicate 64 0), (32, List.replicate 32 0)]), by decide +kernel⟩,
    ⟨(vs12 (index12 false)), (vsOp12 0 0 []), (1), (0), (0), (index12 false), by decide +kernel⟩,
    ⟨(vs12 (index12 false)), (vsOp12 0 1 []), (1), (index12 false), by decide +kernel⟩,
    ⟨(vs12 { index12 false with deletes := [{ item := 1, req := req9, waits := [3] }] }), (1), (1), ({ item := 1, req := req9, waits := [3] }), by decide +kernel⟩,
    ⟨(vs12 (index12 false)), (vsOp12 64 1 ([3] ++ List.replicate 63 0)), (1), (0), (1), (index12 false), by decide +kernel⟩,
    ⟨(vs12 (index12 true)), (vsOp12 0 0 []), (1), (index12 true), by decide +kernel⟩,
    ⟨(vs12 { index12 true with shards := [{ itemCount := 2, capacity := 8, graphOff := 4096, vectorOff := 8192, auxOff := 16384, sideCount := 1 }] }), (vsOp12 0 0 []), (1), ({ index12 true with shards := [{ itemCount := 2, capacity := 8, graphOff := 4096, vectorOff := 8192, auxOff := 16384, sideCount := 1 }] }), ([0]), by decide +kernel⟩,
    ⟨(vs12 { index12 true with merge := some { req := req9, left := [0] } }), (1), (0), ({ index12 true with merge := some { req := req9, left := [0] } }), ({ req := req9, left := [0] }), by decide +kernel⟩⟩

/-- Every clause of TenantsAndOwnersChange has a state and operands that meet its hypotheses. -/
theorem witness_TenantsAndOwnersChange :
    (∃ (s : State) (a : Access) (tn : Nat) (requireEnc : Option Bool), (s.running = true) ∧ (accessMgmt a = true) ∧ ((s.takeArm a
      (R.secTenantCtl tn)).1 = true)) ∧
    (∃ (s : State) (a : Access) (tn : Nat) (requireEnc : Option Bool), (s.running = true) ∧ (accessMgmt a = true) ∧ ((s.takeArm a
      (R.secTenantCtl tn)).1 = true) ∧ (s.tenantOwns tn = false) ∧ (Store.wf ({} : Tenant) s.sec.tenants = true)) ∧
    (∃ (s : State) (i : Issuer) (w : Nat) (v : Word32), (s.running = true) ∧ (i.tenant = 0xFF) ∧ ((∀ k ∈ List.range 4, v.toNat / 256 ^ k
      % 256 < 64 ∨ v.toNat / 256 ^ k % 256 = 0xFF)) ∧ ((∀ e ∈ s.ownerChanges w v.toNat, s.clusterBusy e.1 = false)) ∧ (Store.wf 0xFF
      s.sec.clusterOwner = true)) ∧
    (∃ (s : State) (cluster prev start : Nat), (s.running = true) ∧ (s.sec.clusterClears.find? (fun e => decide (e.1 = cluster)) = some
      (cluster, prev, start)) ∧ (Store.wf ({} : UnitRec) s.power.units = true)) ∧
    (∃ (s : State) (i : Issuer) (port : Nat) (v : Word32), (s.running = true) ∧ (i.tenant = 0xFF) ∧ (s.present (.port port) = true) ∧
      (bitsOf v.toNat 31 29 = 0) ∧ (v.toNat % 256 < 64 ∨ 0xFE ≤ v.toNat % 256) ∧ (s.portUp port = false) ∧ (Store.wf ({} : PortBind)
      s.sec.binds = true)) ∧
    (∃ (s : State) (i : Issuer) (v : Word32), (s.running = true) ∧ (i.tenant = 0xFF) ∧ (bitsOf v.toNat 31 30 = 0) ∧ (bitsOf v.toNat 21 20
      = 0) ∧ (bitsOf v.toNat 29 22 < 64 ∨ bitsOf v.toNat 29 22 = 0xFF) ∧ (s.assignCheck false s.sec.assignFirst (bitsOf v.toNat 19 0)
      (bitsOf v.toNat 29 22) = none) ∧ (Store.wf ({} : QueueCtx) s.remote.queues = true)) ∧
    (∃ (s : State) (i : Issuer) (v : Word32), (s.running = true) ∧ (i.tenant = 0xFF) ∧ (bitsOf v.toNat 31 30 = 0) ∧ (bitsOf v.toNat 21 20
      = 1) ∧ (bitsOf v.toNat 29 22 < 64 ∨ bitsOf v.toNat 29 22 = 0xFF) ∧ (s.assignCheck true s.sec.assignFirst (bitsOf v.toNat 19 0)
      (bitsOf v.toNat 29 22) = none) ∧ (Store.wf ({} : SyncObj) s.remote.syncs = true)) :=
  ⟨⟨(tenant13), (.dict .spi), (6), (some true), by decide +kernel⟩,
    ⟨({ tenant13 with sec := { tenant13.sec with tenants := [(6, { enable := true })] } }), (.dict .spi), (6), (none), by decide +kernel⟩,
    ⟨({ State.reset with sram := [(70, 9), (0x20000001, 3), (0x20200001, 4)] }), (mgmtIssuer), (0), (0xFFFFFF05), by decide +kernel⟩,
    ⟨({ State.reset with sec := { clusterClears := [(2, 5, 77)] }, power := { State.reset.power with units := [(unitIndex (clusterLoc 2), { state := .inReset, epoch := 3 })] } }), (2), (5), (77), by decide +kernel⟩,
    ⟨({ State.reset with sec := { binds := [(1, { tenant := 4 })] } }), (mgmtIssuer), (2), (0x02003005), by decide +kernel⟩,
    ⟨({ tenant13 with sec := { tenant13.sec with assignFirst := 12288 }, remote := { queues := [(12288, { head := 7 }), (12289, { owner := 5, head := 8 }), (12290, { head := 9 })] } }), (mgmtIssuer), (0x1400002), by decide +kernel⟩,
    ⟨({ tenant13 with sec := { tenant13.sec with assignFirst := 100 }, remote := { syncs := [(100, { value := 7 }), (101, { owner := 5, value := 8 }), (102, { value := 9 })] } }), (mgmtIssuer), (0x1500002), by decide +kernel⟩⟩

/-- Every clause of SessionsKeysAndFirmwareChange has a state and operands that meet its hypotheses. -/
theorem witness_SessionsKeysAndFirmwareChange :
    (∃ (s : State) (port : Option Nat) (r : SpdmRequest), (s.running = true)) ∧
    (∃ (s : State) (port : Option Nat), (s.running = true) ∧ (s.sec.sessions.length < 128)) ∧
    (∃ (s : State) (port : Option Nat) (n : Nat) (d : List Byte) (x : SpdmSession), (s.running = true) ∧ (s.spdmSession n = some x)) ∧
    (∃ (s : State) (port : Option Nat) (n : Nat), (s.running = true) ∧ ((s.spdmSession n).isSome = true)) ∧
    (∃ (s : State) (port : Option Nat) (i : Nat) (nonce : List Byte), (s.running = true) ∧ (1 ≤ i) ∧ (i ≤ 16)) ∧
    (∃ (s : State) (session : Nat) (payload : List Byte), (s.running = true) ∧ (s.isKeyService session (fieldAt payload 0 1) = true) ∧
      ((s.tenant (fieldAt payload 0 1)).enable = true) ∧ (fieldAt payload 1 1 < 4) ∧ (bitsOf (fieldAt payload 2 2) 6 1 = 63) ∧ (bitAt
      (fieldAt payload 2 2) 0 = false) ∧ (bitsOf (fieldAt payload 2 2) 15 8 = 0) ∧ (payload.length = 92 + 48 * (maskIndices (fieldAt
      payload 2 2)).length) ∧ ((∀ d ∈ releaseDigests payload (fieldAt payload 2 2), s.measurement d.1 = d.2)) ∧ (s.heldKeys.length <
      256)) ∧
    (∃ (s : State) (session slot : Nat) (k : ModelKey), (s.running = true) ∧ (s.key slot = some k) ∧ (s.isKeyService session k.tenant =
      true) ∧ (Store.wf none s.sec.keys = true)) ∧
    (∃ (s : State) (o : Operation) (k : ModelKey), (Arrives s o 0xFF) ∧ (o.req.posted = false) ∧ (s.decryptCheck o = none) ∧ (s.key
      (o.operand1.toNat % 256) = some k) ∧ (s.firstPoison (addrOffset o.req.localA) (64 + o.length) = none) ∧ (s.firstPoison (addrOffset
      o.req.target) o.length = none) ∧ (s.faults.ckpts = []) ∧ (BytesCanonical s)) ∧
    (∃ (s : State) (p : DictPath) (b : Nat) (img : Fin 64 × List (List Byte) × List Byte × List Byte), (s.managed = true) ∧ (b =
      s.otherBank) ∧ (img = Config.imageInfo (s.bankImage b))) ∧
    (∃ (s : State) (p : DictPath), (s.managed = true) ∧ ((s.bank s.otherBank).verified = true)) ∧
    (∃ (s : State) (p : DictPath), (s.managed = true) ∧ ((s.bank s.otherBank).verified = false)) ∧
    (∃ (s : State) (p : DictPath), (s.running = true) ∧ (s.sec.bootedNew = some s.sec.running)) ∧
    (∃ (s : State) (p : DictPath) (b : Nat), (s.running = true) ∧ (s.sec.activated = some b)) ∧
    (∃ (s : State) (port : Nat), (s.running = true) ∧ ((s.crypt port).active = true)) ∧
    (∃ (s : State) (port : Nat), (s.running = true) ∧ ((s.crypt port).active = true) ∧ ((s.port port).up = true) ∧ (((s.port
      port).lostAt.filter (fun x => decide (s.now < x + msUnits 1000))).length < 3) ∧ (Store.wf ({} : PortCrypt) s.sec.crypt = true) ∧
      (s.liveSlots = [])) :=
  ⟨⟨(State.reset), (some 2), (.version 1 3), by decide +kernel⟩,
    ⟨(State.reset), (some 2), by decide +kernel⟩,
    ⟨(sealed13), (some 2), (1), ([4]), ({ id := 1, port := some 2, keyDigest := [9], secure := true }), by decide +kernel⟩,
    ⟨(sealed13), (some 2), (1), by decide +kernel⟩,
    ⟨(sealed13), (some 2), (16), ([1, 2]), by decide +kernel⟩,
    ⟨({ sealed13 with sec := { sealed13.sec with measurements := (List.range 4).map (fun k => (k + 2, List.replicate 48 1)), keys := (List.range 4).map (fun k => (k, some key13)) } }), (1), ([5, 0, 0x7E, 0] ++ [7, 0, 1, 2, 3, 4, 5, 6] ++ List.replicate 80 1 ++ digest48 Config.bootRomDigest ++ List.replicate 192 1 ++ digest48 (Config.measure6 (variantCode State.reset.chip.variant))), by refine ⟨?_, ?_, ?_, ?_, ?_, ?_, ?_, ?_, ?_, ?_⟩ <;> first | rfl | decide +kernel | (intro d hd; fin_cases hd <;> rfl)⟩,
    ⟨(sealed13), (1), (3), (key13), by decide +kernel⟩,
    ⟨(sealed13.memWrite 64 chunk13), ({ op := 0x70, req := { issuer := who5, target := 0xFFFF000000001000#64, localA := 0xFFFF000000000040#64 }, length := 16, operand1 := 3 }), (key13), by decide +kernel⟩,
    ⟨(sealed13), (.spi), (1), (Config.imageInfo (sealed13.bankImage 1)), by refine ⟨?_, ?_, ?_⟩ <;> first | rfl | decide +kernel⟩,
    ⟨(sealed13), (.spi), by decide +kernel⟩,
    ⟨(State.reset), (.spi), by decide +kernel⟩,
    ⟨({ sealed13 with sec := { sealed13.sec with running := 1, bootedNew := some 1 } }), (.spi), by decide +kernel⟩,
    ⟨({ sealed13 with sec := { sealed13.sec with activated := some 1 } }), (.spi), (1), by decide +kernel⟩,
    ⟨({ State.reset with sec := { crypt := [(2, { active := true, counter := 2 ^ 32 })] } }), (2), by decide +kernel⟩,
    ⟨({ State.reset with sec := { crypt := [(2, { active := true, counter := 2 ^ 40 })] }, links := { ports := [(2, { mode := .opvitik, state := .active, enable := true })] } }), (2), by decide +kernel⟩⟩

/-- Every clause of PortsTrain has a state and operands that meet its hypotheses. -/
theorem witness_PortsTrain :
    (∃ (s : State) (a : Access) (port mode : Nat) (width8 : Bool), (s.running = true) ∧ (accessMgmt a = true) ∧ ((s.takeArm a
      (R.portModeCtl port)).1 = true) ∧ ((s.port port).enable = false) ∧ (s.portCtlBad port mode width8 false = none) ∧ (Store.wf ({} :
      Port) s.links.ports = true)) ∧
    (∃ (s : State) (i : Issuer) (port : Nat), (s.running = true) ∧ (i.tenant = 0xFF) ∧ ((s.takeArm (.csr i) (R.portModeCtl port)).1 =
      true) ∧ ((s.port port).enable = false) ∧ ((s.port port).mode ≠ .disabled) ∧ (s.portCtlBad port (s.port port).mode.code (s.port
      port).width8 true = none)) ∧
    (∃ (s : State) (i : Issuer) (port : Nat), (s.running = true) ∧ (i.tenant = 0xFF) ∧ ((s.takeArm (.csr i) (R.portModeCtl port)).1 =
      true) ∧ ((s.port port).enable = true) ∧ (s.portCtlBad port (s.port port).mode.code (s.port port).width8 false = none) ∧ (Store.wf
      ({} : PortCrypt) s.sec.crypt = true)) ∧
    (∃ (s : State) (i : Issuer) (port : Nat), (s.running = true) ∧ (i.tenant = 0xFF) ∧ ((s.takeArm (.csr i) (R.portModeCtl port)).1 =
      true) ∧ ((s.port port).enable = true) ∧ ((s.port port).mode ≠ .disabled) ∧ (s.portCtlBad port (s.port port).mode.code (s.port
      port).width8 true = none)) ∧
    (∃ (s : State) (port : Nat) (lanes l : List Nat), (s.running = true) ∧ ((s.port port).state = .electrical) ∧ ((s.port port).mode =
      .opvitik) ∧ ((s.port port).retrainAt = none) ∧ (pickLanes (s.port port).width8 lanes.contains (if (s.port port).width8 then [8, 4]
      else [16, 8, 4]) = some l)) ∧
    (∃ (s : State) (port : Nat) (lanes : List Nat), (s.running = true) ∧ ((s.port port).state = .electrical) ∧ ((s.port port).mode =
      .opvitik) ∧ ((s.port port).retrainAt = none) ∧ (pickLanes (s.port port).width8 lanes.contains (if (s.port port).width8 then [8, 4]
      else [16, 8, 4]) = none)) ∧
    (∃ (s : State) (port : Nat) (message : List Byte), (s.running = true) ∧ ((s.port port).state = .negotiate) ∧ ((s.port port).retrainAt
      = none) ∧ (fieldAt message 0 1 = 1) ∧ (s.capsBad port message = none) ∧ (Store.wf 0 s.sw.credits = true) ∧ (Store.wf ({} :
      PortCrypt) s.sec.crypt = true)) ∧
    (∃ (s : State) (port : Nat) (message : List Byte) (st : Status), (s.running = true) ∧ ((s.port port).state = .negotiate) ∧ ((s.port
      port).retrainAt = none) ∧ (fieldAt message 0 1 = 1) ∧ (s.capsBad port message = some st)) ∧
    (∃ (s : State) (port : Nat) (secret : List Byte), (s.running = true) ∧ ((s.port port).state = .secure) ∧ ((s.port port).retrainAt =
      none) ∧ ((s.port port).mode = .opvitik) ∧ (Store.wf ({} : PortBind) s.sec.binds = true)) ∧
    (∃ (s : State) (port delayNs : Nat) (asym : Int), (s.running = true) ∧ ((s.port port).state = .calibrate) ∧ ((s.port port).retrainAt
      = none) ∧ (s.headroomNeed (s.port port).mode ≤ s.cellsUnassigned) ∧ (Store.wf 0 s.sw.headroom = true)) ∧
    (∃ (s : State) (port delayNs : Nat) (asym : Int), (s.running = true) ∧ ((s.port port).state = .calibrate) ∧ ((s.port port).retrainAt
      = none) ∧ (s.cellsUnassigned < s.headroomNeed (s.port port).mode)) ∧
    (∃ (s : State) (port ms : Nat) (st : Status), (s.running = true) ∧ ((s.port port).retrainAt = none) ∧ (((s.port port).state, ms, st)
      ∈ [(PortState.electrical, 500, Status.link), (.secure, 100, .auth), (.calibrate, 1, .nospace)])) ∧
    (∃ (s : State) (port : Nat), (s.running = true) ∧ ((s.port port).retrainAt = none) ∧ ((s.port port).state = .negotiate)) ∧
    (∃ (s : State) (port due : Nat), (s.running = true) ∧ ((s.port port).retrainAt = some due)) ∧
    (∃ (s : State) (port rate width : Nat), (s.running = true) ∧ ((s.port port).state = .electrical) ∧ ((s.port port).mode = .cxl ∨
      (s.port port).mode = .pcie) ∧ ((s.port port).retrainAt = none) ∧ (64 ≤ rate) ∧ (width = 16 ∨ width = 8) ∧ ((s.crypt port).policy =
      1)) ∧
    (∃ (s : State) (port rate width : Nat), (s.running = true) ∧ ((s.port port).state = .electrical) ∧ ((s.port port).mode = .cxl ∨
      (s.port port).mode = .pcie) ∧ ((s.port port).retrainAt = none) ∧ (64 ≤ rate) ∧ (width = 16 ∨ width = 8) ∧ ((s.crypt port).policy ≠
      1) ∧ (1536 ≤ s.cellsUnassigned)) ∧
    (∃ (s : State) (port : Nat), (s.running = true) ∧ ((s.port port).up = true) ∧ ((s.port port).mode = .cxl ∨ (s.port port).mode =
      .pcie) ∧ (((s.port port).lostAt.filter (fun x => decide (s.now < x + msUnits 1000))).length < 3) ∧ (s.liveSlots = [])) ∧
    (∃ (s : State) (a : Access) (port : Nat), (s.running = true) ∧ (accessMgmt a = true) ∧ (port < 36) ∧ (s.present (.port port) = true)) :=
  ⟨⟨(State.reset), (.dict .spi), (2), (1), (true), by decide +kernel⟩,
    ⟨({ port14 { mode := .cxl } with mgmt := { State.reset.mgmt with requesters := [(64, { armed := some (R.portModeCtl 2) })] } }), (mgmtIssuer), (2), by decide +kernel⟩,
    ⟨({ port14 live14 with mgmt := { State.reset.mgmt with requesters := [(64, { armed := some (R.portModeCtl 2) })] } }), (mgmtIssuer), (2), by decide +kernel⟩,
    ⟨({ port14 live14 with mgmt := { State.reset.mgmt with requesters := [(64, { armed := some (R.portModeCtl 2) })] } }), (mgmtIssuer), (2), by decide +kernel⟩,
    ⟨(port14 { mode := .opvitik, enable := true, state := .electrical }), (2), ([8, 9, 10, 11, 12, 13, 14, 15]), ([8, 9, 10, 11, 12, 13, 14, 15]), by decide +kernel⟩,
    ⟨(port14 { mode := .opvitik, enable := true, state := .electrical }), (2), ([8, 9, 10]), by decide +kernel⟩,
    ⟨({ port14 { mode := .opvitik, enable := true, state := .negotiate, width := 16 } with sw := { credits := [(33, 5)] } }), (2), (caps14), by decide +kernel⟩,
    ⟨(port14 { mode := .opvitik, enable := true, state := .negotiate, width := 16 }), (2), ([1, 2, 2] ++ caps14.drop 3), (.notsup), by decide +kernel⟩,
    ⟨(port14 { mode := .opvitik, enable := true, state := .secure, width := 16 }), (2), ([1, 2, 3]), by decide +kernel⟩,
    ⟨(port14 { mode := .opvitik, enable := true, state := .calibrate, width := 16 }), (2), (70), (-3), by decide +kernel⟩,
    ⟨({ port14 { mode := .opvitik, enable := true, state := .calibrate, width := 16 } with csr := [(R.swcQuota 3, some 393215)] }), (2), (70), (-3), by decide +kernel⟩,
    ⟨(port14 { mode := .opvitik, enable := true, state := .secure, since := 5 }), (2), (100), (.auth), by decide +kernel⟩,
    ⟨(port14 { mode := .opvitik, enable := true, state := .negotiate, since := 5 }), (2), by decide +kernel⟩,
    ⟨(port14 { mode := .opvitik, enable := true, state := .negotiate, lastDown := .auth, retrainAt := some 77 }), (2), (77), by decide +kernel⟩,
    ⟨(port14 { mode := .cxl, enable := true, state := .electrical }), (2), (64), (8), by decide +kernel⟩,
    ⟨({ port14 { mode := .pcie, enable := true, state := .electrical } with sec := { crypt := [(2, { policy := 0 })] } }), (2), (64), (16), by decide +kernel⟩,
    ⟨(port14 { mode := .cxl, enable := true, state := .active }), (2), by decide +kernel⟩,
    ⟨({ State.reset with faults := { State.reset.faults with fenced := 0x7 } }), (.dict .spi), (2), by decide +kernel⟩⟩

/-- Every clause of LinksCarryAndRecover has a state and operands that meet its hypotheses. -/
theorem witness_LinksCarryAndRecover :
    (∃ (s : State) (port : Nat) (h : FlitHeader) (payload : List Byte) (tagOk : Bool) (bytes : List Byte), (s.running = true) ∧ ((s.port
      port).up = true) ∧ ((s.port port).mode = .opvitik) ∧ (s.wordInjected port = false) ∧ (flitCrcOk h = true) ∧ (flitBad h = false) ∧
      ((s.crypt port).active = true → tagOk = true) ∧ (h.ackKind = 0) ∧ (h.ftype = 1) ∧ (h.seq = ((s.port port).lastAccepted + 1) % 4096)
      ∧ (h.fstart = true → hchkOk (payload.take 32) = true) ∧ (bytes = (if h.fstart then [] else Store.read [] (s.port port).reasm h.vc)
      ++ payload.take h.fill) ∧ (Store.wf 0 s.sw.credits = true) ∧ (Store.wf [] (s.port port).reasm = true)) ∧
    (∃ (s : State) (port : Nat) (h : FlitHeader) (payload : List Byte) (tagOk : Bool), (s.running = true) ∧ ((s.port port).up = true) ∧
      ((s.port port).mode = .opvitik) ∧ (s.wordInjected port = false) ∧ (flitCrcOk h = false) ∧ ((s.port port).awaited = none)) ∧
    (∃ (s : State) (port : Nat), (s.running = true) ∧ ((s.port port).up = true) ∧ ((s.port port).mode = .opvitik) ∧ ((s.port
      port).awaited = none)) ∧
    (∃ (s : State) (port seq : Nat) (kept : List SentFlit), (s.running = true) ∧ ((s.port port).up = true) ∧ ((s.port port).replay.any
      (fun f => decide (f.seq = seq)) = true) ∧ (kept = ((s.port port).replay.dropWhile (fun f => decide (f.seq ≠ seq))).drop 1) ∧
      (Store.wf [] s.sw.sent = true)) ∧
    (∃ (s : State) (port seq : Nat) (kept : List SentFlit), (s.running = true) ∧ ((s.port port).up = true) ∧ ((s.port port).mode =
      .opvitik) ∧ (kept = (if (s.port port).replay.any (fun f => decide (f.seq = seq)) then ((s.port port).replay.dropWhile (fun f =>
      decide (f.seq ≠ seq))).drop 1 else (s.port port).replay))) ∧
    (∃ (s : State) (port hold : Nat), (s.running = true) ∧ ((s.port port).up = true) ∧ ((s.port port).mode = .opvitik) ∧ (hold =
      ((s.unlinked port).map (fun q => ((s.port port).lastAccepted + 4096 - q) % 4096 + 1)).foldl max 0) ∧ (hold < (s.port
      port).unacked)) ∧
    (∃ (s : State) (port n : Nat), (s.running = true) ∧ ((s.port port).up = true) ∧ ((s.port port).awaited = some n) ∧ ((s.port
      port).degrade = none) ∧ ((s.port port).attempts + 1 < (s.port port).maxAttempts)) ∧
    (∃ (s : State) (port n : Nat), (s.running = true) ∧ ((s.port port).up = true) ∧ ((s.port port).awaited = some n) ∧ ((s.port
      port).degrade = none) ∧ ((s.port port).maxAttempts ≤ (s.port port).attempts + 1) ∧ (((s.port port).lostAt.filter (fun x => decide
      (max s.now (s.port port).nakDue < x + msUnits 1000))).length < 3) ∧ (s.liveSlots = [])) ∧
    (∃ (s : State) (port lane : Nat) (l : List Nat), (s.running = true) ∧ ((s.port port).up = true) ∧ ((s.port port).mode = .opvitik) ∧
      ((Store.read ({} : Lane) (s.port port).lanes lane).inUse = true) ∧ ((s.port port).agreed.getLsbD 5 = true) ∧ (pickLanes (s.port
      port).width8 (fun n => decide (n ≠ lane) && !(Store.read ({} : Lane) (s.port port).lanes n).failed) ([8, 4].filter (fun w => decide
      (w < (s.port port).width))) = some l) ∧ ((s.port port).degrade = none)) ∧
    (∃ (s : State) (port lane : Nat), (s.running = true) ∧ ((s.port port).up = true) ∧ ((s.port port).mode = .opvitik) ∧ ((Store.read ({}
      : Lane) (s.port port).lanes lane).inUse = true) ∧ ((s.port port).agreed.getLsbD 5 = false) ∧ (((s.port port).lostAt.filter (fun x
      => decide (s.now < x + msUnits 1000))).length < 3) ∧ (s.liveSlots = [])) ∧
    (∃ (s : State) (port : Nat) (lanes : List Nat) (ftc : Nat), (s.running = true) ∧ ((s.port port).up = true) ∧ ((s.port port).mode =
      .opvitik) ∧ ((s.port port).agreed.getLsbD 5 = true)) ∧
    (∃ (s : State) (port : Nat) (d : Degrade), (s.running = true) ∧ ((s.port port).degrade = some d) ∧ (Store.wf ({} : Lane) (s.port
      port).lanes = true)) :=
  ⟨⟨(port14 live14), (2), (flit14), ([1, 2, 3, 4, 5]), (false), ([1, 2, 3, 4]), by decide +kernel⟩,
    ⟨(port14 live14), (2), ({ flit14 with seq := 3 }), ([1, 2, 3, 4, 5]), (true), by decide +kernel⟩,
    ⟨(port14 live14), (2), by decide +kernel⟩,
    ⟨(port14 { live14 with replay := sent14 }), (2), (6), ([{ seq := 7, ftype := 2, vc := 0 }]), by decide +kernel⟩,
    ⟨(port14 { live14 with replay := sent14 }), (2), (5), ([{ seq := 6, ftype := 1, vc := 7 }, { seq := 7, ftype := 2, vc := 0 }]), by decide +kernel⟩,
    ⟨(port14 { live14 with lastAccepted := 9, unacked := 4, arrived := [([1], 8)] }), (2), (2), by decide +kernel⟩,
    ⟨(port14 { live14 with awaited := some 0, nakDue := 99, state := .recovery }), (2), (0), by decide +kernel⟩,
    ⟨(port14 { live14 with awaited := some 0, nakDue := 99, state := .recovery, attempts := 7 }), (2), (0), by decide +kernel⟩,
    ⟨(port14 live14), (2), (3), ([8, 9, 10, 11, 12, 13, 14, 15]), by decide +kernel⟩,
    ⟨(port14 { live14 with agreed := 7 }), (2), (3), by decide +kernel⟩,
    ⟨(port14 live14), (2), ([0, 1, 2, 3]), (640), by decide +kernel⟩,
    ⟨(port14 { live14 with state := .recovery, degrade := some { lanes := [0, 1, 2, 3], ftc := 640 } }), (2), ({ lanes := [0, 1, 2, 3], ftc := 640 }), by decide +kernel⟩⟩

/-- Every clause of ManagementLaneServesRequests has a state and operands that meet its hypotheses. -/
theorem witness_ManagementLaneServesRequests :
    (∃ (s : State) (addr : List Byte) (udp : Nat) (frame : List Byte) (h : GdpHead), (GdpOpen s addr udp frame 1 h) ∧ (h.count = 0) ∧
      (h.body = []) ∧ (((List.range 8).map (fun k => (s.gdpStart addr).readNeed
      { index := 0x1000, sub := k + 1, offset := 0, maxLen := 0 })).sum ≤ 1216)) ∧
    (∃ (s : State) (addr : List Byte) (udp : Nat) (frame : List Byte) (h : GdpHead) (es : List ReadEntry), (GdpOpen s addr udp frame 2 h)
      ∧ (gdpReadEntries h.count h.body = some (es, true)) ∧ ((es.map (s.gdpStart addr).readNeed).sum ≤ 1216)) ∧
    (∃ (s : State) (addr : List Byte) (udp : Nat) (frame : List Byte) (h : GdpHead), (GdpOpen s addr udp frame 2 h) ∧ (gdpReadEntries
      h.count h.body = some ([{ index := 0x1100, sub := 0x11, offset := 0, maxLen := 0 }], true))) ∧
    (∃ (s : State) (addr : List Byte) (udp : Nat) (frame : List Byte) (h : GdpHead) (r : GdpReply), (s.serves = true) ∧ (gdpHead frame =
      some h) ∧ (h.version = 1) ∧ (h.flags / 2 = 0) ∧ (h.type = 2) ∧ (s.mgmt.replies.find? (fun r => decide (r.source = .gdp addr udp) &&
      decide (r.seq = h.seq)) = some r)) ∧
    (∃ (s : State) (addr : List Byte) (udp : Nat) (frame : List Byte) (h : GdpHead) (es : List WriteEntry), (GdpOpen s addr udp frame 3
      h) ∧ (gdpWriteEntries h.count h.body = some (es, true)) ∧ (s.writesOpen false = true) ∧ (bitAt h.flags 0 = false)) ∧
    (∃ (s : State) (addr : List Byte) (udp : Nat) (frame : List Byte) (h : GdpHead) (v : Nat), (s.running = true) ∧ (GdpOpen s addr udp
      frame 3 h) ∧ (256 ≤ v) ∧ (v < 65536) ∧ (gdpWriteEntries h.count h.body = some
      ([{ index := 0x1100, sub := 0x11, offset := 0, total := 2, value := natLe 2 v }], true)) ∧ (s.num O.gdpSecureWrites 1 = 0)) ∧
    (∃ (s : State) (addr : List Byte) (udp : Nat) (frame : List Byte) (h : GdpHead) (es : List WriteEntry), (s.running = true) ∧ (GdpOpen
      s addr udp frame 3 h) ∧ (gdpWriteEntries h.count h.body = some (es, true)) ∧ (s.num O.gdpSecureWrites 1 ≠ 0)) ∧
    (∃ (s : State) (session : Nat) (addr : List Byte) (udp seq : Nat) (frame : List Byte) (h : GdpHead) (x : SpdmSession) (v : Nat),
      (s.running = true) ∧ (gdpHead frame = some h) ∧ (h.version = 1) ∧ (h.flags / 2 = 0) ∧ (h.type = 3) ∧ (s.sec.sessions.find? (fun x
      => decide (x.id = session) && x.secure) = some x) ∧ (x.keyDigest = s.bytesObj O.mgmtRequesterDigest) ∧ (x.keyDigest ≠ []) ∧
      (s.mgmt.replies.find? (fun r => decide (r.source = .gdp addr udp) && decide (r.seq = seq)) = none) ∧ (s.gdpCount addr < s.num
      O.gdpRateLimit 4096) ∧ (256 ≤ v) ∧ (v < 65536) ∧ (gdpWriteEntries h.count h.body = some
      ([{ index := 0x1100, sub := 0x11, offset := 0, total := 2, value := natLe 2 v }], true))) ∧
    (∃ (s : State) (session : Nat) (addr : List Byte) (udp seq : Nat) (frame : List Byte) (h : GdpHead), (s.running = true) ∧ (gdpHead
      frame = some h) ∧ (s.sec.sessions.find? (fun x => decide (x.id = session) && x.secure) = none)) ∧
    (∃ (s : State) (addr : List Byte) (udp : Nat) (frame : List Byte) (h : GdpHead) (bank off len : Nat), (s.running = true) ∧ (GdpOpen s
      addr udp frame 4 h) ∧ ((bank, off, len) = (fieldAt h.body 0 1, fieldAt h.body 4 4, fieldAt h.body 8 2)) ∧ (h.body.length = 16 +
      len) ∧ (off % 64 = 0) ∧ (64 ≤ len) ∧ (len ≤ 1024) ∧ (len % 64 = 0) ∧ (bank < 2) ∧ (zerosAt h.body 1 3 = true) ∧ (zerosAt h.body 10
      6 = true) ∧ (s.num O.gdpSecureWrites 1 = 0) ∧ (s.flashBad bank off len = none) ∧ (Store.wf 0 s.mgmt.flash = true) ∧ (Store.wf ({} :
      Bank) s.sec.banks = true)) ∧
    (∃ (s : State) (bank : Nat) (addr : List Byte) (udp : Nat) (r : List Byte), (s.serves = true) ∧ ((s.flashBank bank).busy = true) ∧
      ((s.flashBank bank).reply = some (.gdp addr udp, r)) ∧ (Store.wf ({} : FlashBank) s.mgmt.flashBanks = true)) :=
  ⟨⟨(State.reset), (addr15), (5), (gdp15 1 0 []), (head15 1 0 []), by decide +kernel⟩,
    ⟨(State.reset), (addr15), (5), (gdp15 2 1 [0, 0x10, 1, 0, 0, 0, 0, 0]), (head15 2 1 [0, 0x10, 1, 0, 0, 0, 0, 0]), ([{ index := 0x1000, sub := 1, offset := 0, maxLen := 0 }]), by decide +kernel⟩,
    ⟨(State.reset), (addr15), (5), (gdp15 2 1 [0, 0x11, 0x11, 0, 0, 0, 0, 0]), (head15 2 1 [0, 0x11, 0x11, 0, 0, 0, 0, 0]), by decide +kernel⟩,
    ⟨({ State.reset with mgmt := { State.reset.mgmt with replies := [{ source := .gdp addr15 5, seq := 77, reply := [1, 2] }] } }), (addr15), (5), (gdp15 2 0 []), (head15 2 0 []), ({ source := .gdp addr15 5, seq := 77, reply := [1, 2] }), by decide +kernel⟩,
    ⟨(open15), (addr15), (5), (gdp15 3 1 write15), (head15 3 1 write15), ([{ index := 0x1100, sub := 0x11, offset := 0, total := 2, value := [0, 8] }]), by decide +kernel⟩,
    ⟨(open15), (addr15), (5), (gdp15 3 1 write15), (head15 3 1 write15), (2048), by decide +kernel⟩,
    ⟨(State.reset), (addr15), (5), (gdp15 3 1 write15), (head15 3 1 write15), ([{ index := 0x1100, sub := 0x11, offset := 0, total := 2, value := [0, 8] }]), by decide +kernel⟩,
    ⟨({ State.reset with sec := { sessions := [{ id := 1, port := none, keyDigest := [9], secure := true }] }, dict := [(O.mgmtRequesterDigest, some (.bytes [9]))] }), (1), (addr15), (5), (6), (gdp15 3 1 write15), (head15 3 1 write15), ({ id := 1, port := none, keyDigest := [9], secure := true }), (2048), by decide +kernel⟩,
    ⟨(State.reset), (1), (addr15), (5), (6), (gdp15 3 1 write15), (head15 3 1 write15), by decide +kernel⟩,
    ⟨({ open15 with mgmt := { State.reset.mgmt with flash := [(4, 5), (2 ^ 25 + 64, 9)] }, sec := { banks := [(1, { verified := true })] } }), (addr15), (5), (gdp15 4 0 ([1, 0, 0, 0, 0, 0, 0, 0, 64, 0, 0, 0, 0, 0, 0, 0] ++ List.replicate 64 7)), (head15 4 0 ([1, 0, 0, 0, 0, 0, 0, 0, 64, 0, 0, 0, 0, 0, 0, 0] ++ List.replicate 64 7)), (1), (0), (64), by decide +kernel⟩,
    ⟨({ State.reset with mgmt := { State.reset.mgmt with flashBanks := [(1, { next := 64, busy := true, reply := some (.gdp addr15 5, [1, 2, 3, 4, 5]) })] } }), (1), (addr15), (5), ([1, 2, 3, 4, 5]), by decide +kernel⟩⟩

/-- Every clause of MailboxesAndTargetsServeRequests has a state and operands that meet its hypotheses. -/
theorem witness_MailboxesAndTargetsServeRequests :
    (∃ (s : State) (i : Issuer) (m : Nat) (v : Word32), (s.running = true) ∧ (i.tenant = 0xFF) ∧ (bitsOf v.toNat 31 28 = 0) ∧ ((s.mbx
      m).busy = false)) ∧
    (∃ (s : State) (i : Issuer) (m : Nat) (v : Word32), (s.running = true) ∧ (i.tenant = 0xFF) ∧ (bitsOf v.toNat 31 28 = 0) ∧ (v.toNat %
      2 ^ 24 = 0x111100) ∧ ((s.mbx m).busy = false) ∧ ((s.mbx m).offset = 0) ∧ (s.num O.gdpRateLimit 4096 ≠ 0)) ∧
    (∃ (s : State) (i : Issuer) (m : Nat) (v : Word32), (s.running = true) ∧ (i.tenant = 0xFF) ∧ (bitsOf v.toNat 31 28 = 0) ∧ ((s.mbx
      m).busy = false) ∧ ((s.elsewhere (bitsOf v.toNat 15 0) (bitsOf v.toNat 23 16)).isSome = false)) ∧
    (∃ (s : State) (i : Issuer) (m : Nat) (v w : Word32), (s.running = true) ∧ (i.tenant = 0xFF) ∧ (bitsOf v.toNat 31 28 = 0) ∧ (v.toNat
      % 2 ^ 24 = 0x111100) ∧ ((s.mbx m).busy = false) ∧ ((s.mbx m).offset = 0) ∧ ((s.mbx m).total = 2) ∧ ((s.mbx m).wlen = 2) ∧
      (Store.read 0 (s.mbx m).data 0 = w) ∧ (256 ≤ w.toNat % 65536)) ∧
    (∃ (s : State) (data : List Byte) (r : DictRequest), (s.serves = true) ∧ (6 ≤ data.length) ∧ (data.length ≤ 255) ∧ (s.smbRequest data
      = some r)) ∧
    (∃ (s : State), (s.serves = true)) ∧
    (∃ (s : State) (v : Nat), (s.running = true) ∧ (256 ≤ v) ∧ (v < 65536)) ∧
    (∃ (s : State) (data : List Byte) (whole : Bool), (s.serves = true)) ∧
    (∃ (s : State) (r : DictResponse), (s.serves = true) ∧ (s.mgmt.smb.pending = none) ∧ (s.mgmt.smb.response = some r)) ∧
    (∃ (s : State) (r : DictRequest), (s.serves = true) ∧ (s.mgmt.smb.pending = some r)) ∧
    (∃ (s : State) (e : Event) (l : List Event), (s.serves = true) ∧ (s.unfetched = e :: l) ∧ (l.all (fun x => decide (x.seq ≠ e.seq)) =
      true)) ∧
    (∃ (s : State), (s.serves = true) ∧ (s.unfetched = [])) ∧
    (∃ (s : State) (edges : Nat) (words : List Word32) (r : DictRequest) (len : Nat), (s.serves = true) ∧ (edges % 32 = 0) ∧ (96 ≤ edges)
      ∧ ((r.op, r.sub, r.index) = ((words.getD 0 0).toNat % 256, (words.getD 0 0).toNat / 256 % 256, (words.getD 0 0).toNat / 65536)) ∧
      ([2, 4, 5].contains r.op = false) ∧ (len = (words.getD 1 0).toNat % 65536) ∧ (len ≤ 4096) ∧ (r.offset = (words.getD 1 0).toNat /
      65536) ∧ (r.total = none) ∧ (r.data = []) ∧ ((words.getD 2 0).toNat = crc16 (spiBytes [words.getD 0 0, words.getD 1 0])) ∧ (crc16
      (spiBytes [words.getD 0 0, words.getD 1 0]) < 65536)) ∧
    (∃ (s : State) (edges : Nat) (words : List Word32), (s.serves = true) ∧ (edges % 32 = 0) ∧ (96 ≤ edges) ∧ (words.getD 0 0 =
      0x11001101) ∧ (words.getD 1 0 = 0) ∧ ((words.getD 2 0).toNat = crc16 (spiBytes [0x11001101, 0]))) ∧
    (∃ (s : State) (edges : Nat) (words : List Word32), (s.serves = true) ∧ (edges % 32 ≠ 0 ∨ edges < 64)) ∧
    (∃ (s : State) (edges : Nat) (words : List Word32) (v : Nat), (s.running = true) ∧ (edges % 32 = 0) ∧ (128 ≤ edges) ∧ (words.getD 0 0
      = 0x11001102) ∧ (words.getD 1 0 = 2) ∧ ((words.getD 2 0).toNat % 65536 = v) ∧ (256 ≤ v) ∧ ((words.getD 3 0).toNat = crc16 (spiBytes
      [0x11001102, 2, words.getD 2 0])) ∧ ((words.getD 3 0).toNat < 65536)) ∧
    (∃ (s : State) (edges : Nat) (r : DictResponse), (s.serves = true) ∧ (edges % 32 = 0) ∧ (64 + 8 * (s.spiReplyBytes
      { status := r.status, ready := true, value := r.data }).length ≤ edges) ∧ (s.mgmt.spi.pending = none) ∧ (s.mgmt.spi.response = some
      r)) ∧
    (∃ (s : State) (edges : Nat) (e : Event) (l : List Event), (s.serves = true) ∧ (edges % 32 = 0) ∧ (64 + 8 * (s.spiReplyBytes
      { status := 0, ready := true, value := e.bytes }).length ≤ edges) ∧ (s.unfetched = e :: l) ∧ (l.all (fun x => decide (x.seq ≠
      e.seq)) = true)) :=
  ⟨⟨(State.reset), (mgmtIssuer), (1), (0x00011000), by decide +kernel⟩,
    ⟨(State.reset), (mgmtIssuer), (1), (0x00111100), by decide +kernel⟩,
    ⟨(State.reset), (mgmtIssuer), (1), (0x00011000), by decide +kernel⟩,
    ⟨({ State.reset with mgmt := { State.reset.mgmt with mailboxes := [(1, { total := 2, wlen := 2, data := [(0, 0x70800)] })] } }), (mgmtIssuer), (1), (0x00111100), (0x70800), by decide +kernel⟩,
    ⟨(State.reset), ([1, 0, 0x10, 1, 0, 0]), ({ op := 1, index := 0x1000, sub := 1, offset := 0 }), by decide +kernel⟩,
    ⟨(State.reset), by decide +kernel⟩,
    ⟨(State.reset), (2048), by decide +kernel⟩,
    ⟨(State.reset), ([1]), (true), by decide +kernel⟩,
    ⟨(side15 reply15), (reply15), by decide +kernel⟩,
    ⟨({ State.reset with mgmt := { State.reset.mgmt with smb := { pending := some { op := 1, index := 0x8000, sub := 1, offset := 0 } } } }), ({ op := 1, index := 0x8000, sub := 1, offset := 0 }), by decide +kernel⟩,
    ⟨(logged15), (event15), ([]), by decide +kernel⟩,
    ⟨(State.reset), by decide +kernel⟩,
    ⟨(State.reset), (96), (word15 [0x10000101, 0]), ({ op := 1, index := 0x1000, sub := 1, offset := 0 }), (0), by decide +kernel⟩,
    ⟨(State.reset), (96), (word15 [0x11001101, 0]), by decide +kernel⟩,
    ⟨(State.reset), (95), ([]), by decide +kernel⟩,
    ⟨(State.reset), (128), (word15 [0x11001102, 2, 0x800]), (2048), by decide +kernel⟩,
    ⟨(side15 reply15), (192), (reply15), by decide +kernel⟩,
    ⟨(logged15), (512), (event15), ([]), by decide +kernel⟩⟩

/-- Every clause of EventsBusesAndLaneWork has a state and operands that meet its hypotheses. -/
theorem witness_EventsBusesAndLaneWork :
    (∃ (s : State) (p : DictPath) (n : Nat), (s.running = true) ∧ (0x100 ≤ n) ∧ (n ≤ 0x3FF)) ∧
    (∃ (s : State) (dest seq : Nat), (s.running = true)) ∧
    (∃ (s : State) (dest : Nat) (f : EventFrame), (s.running = true) ∧ (s.dueFrame dest = some f) ∧ (f.sends ≤ 4)) ∧
    (∃ (s : State) (dest : Nat) (f : EventFrame), (s.running = true) ∧ (s.dueFrame dest = some f) ∧ (4 < f.sends)) ∧
    (∃ (s : State) (vector due : Nat) (l : List Gathered), (s.running = true) ∧ ((s.vector vector).gather = some (l, due)) ∧ (Store.wf
      ({} : Vector) s.mgmt.vectors = true)) ∧
    (∃ (s : State) (p : DictPath), (s.running = true) ∧ (s.mgmt.snapshotDue = none)) ∧
    (∃ (s : State) (f : Nat), (s.running = true) ∧ (s.mgmt.snapshotDue = some f)) ∧
    (∃ (s : State) (source dest payload : List Byte), (s.serves = true) ∧ (s.ownAddress dest = true)) ∧
    (∃ (s : State) (source target : List Byte) (mac : Nat), (s.serves = true) ∧ (s.ownAddress target = true) ∧ (source.all (fun b =>
      decide (b = 0)) = false)) ∧
    (∃ (s : State) (source target : List Byte) (mac : Nat), (s.serves = true)) ∧
    (∃ (s : State) (lane : Nat), (lane ≤ 2)) ∧
    (∃ (s : State) (entry v : Nat), (s.running = true) ∧ (entry < 32) ∧ ((s.sensor entry).format.toNat % 4 = 1 ∨ (s.sensor
      entry).format.toNat % 4 = 2) ∧ ((s.busAt 4).state = .idle ∨ (s.busAt 4).state = .active)) ∧
    (∃ (s : State) (entry : Nat), (s.running = true) ∧ (entry < 32) ∧ ((s.sensor entry).format.toNat % 4 = 1 ∨ (s.sensor
      entry).format.toNat % 4 = 2) ∧ ((s.busAt 4).state = .idle ∨ (s.busAt 4).state = .active)) ∧
    (∃ (s : State) (dimm : Nat) (celsius : Option Int), (s.running = true) ∧ (dimm < 32) ∧ (s.chanFrames (256 + dimm / 2) ≠ 0) ∧
      ((s.busAt (dimm / 8)).state = .idle ∨ (s.busAt (dimm / 8)).state = .active) ∧ (Store.wf false s.mgmt.dimmHot = true)) ∧
    (∃ (s : State) (bus what : Nat), (s.running = true) ∧ (bus < 5) ∧ ((s.busAt bus).state = .idle ∨ (s.busAt bus).state = .active)) ∧
    (∃ (s : State) (bus : Nat) (what : Option Nat), (s.running = true) ∧ (bus < 5) ∧ ((s.busAt bus).state = .idle ∨ (s.busAt bus).state =
      .active)) ∧
    (∃ (s : State) (bus : Nat) (pulses : Option Nat), (s.running = true) ∧ (bus < 5) ∧ ((s.busAt bus).state = .recovering) ∧ ([1, 2, 3,
      4, 5, 6, 7, 8, 9].any (fun n => decide (pulses = some n)) = true)) ∧
    (∃ (s : State) (bus : Nat) (pulses : Option Nat), (s.running = true) ∧ (bus < 5) ∧ ((s.busAt bus).state = .recovering) ∧ ([1, 2, 3,
      4, 5, 6, 7, 8, 9].any (fun n => decide (pulses = some n)) = false)) ∧
    (∃ (s : State) (i : Issuer) (bus : Nat), (s.running = true) ∧ (i.tenant = 0xFF) ∧ (bus < 5) ∧ ((s.busAt bus).state ≠ .recovering)) :=
  ⟨⟨(logged15), (.spi), (0x100), by decide +kernel⟩,
    ⟨({ logged15 with mgmt := { logged15.mgmt with eventFrames := [{ dest := 1, seqs := [3], due := 9 }] } }), (1), (3), by decide +kernel⟩,
    ⟨({ logged15 with mgmt := { logged15.mgmt with eventFrames := [{ dest := 1, seqs := [3], due := 9 }] } }), (1), ({ dest := 1, seqs := [3], due := 9 }), by decide +kernel⟩,
    ⟨({ logged15 with mgmt := { logged15.mgmt with eventFrames := [{ dest := 1, seqs := [3], due := 9, sends := 5 }] } }), (1), ({ dest := 1, seqs := [3], due := 9, sends := 5 }), by decide +kernel⟩,
    ⟨({ logged15 with mgmt := { logged15.mgmt with vectors := [(0x2E, { enable := true, gdpMask := 2, holdoff := 5, gather := some ([{ seq := 3, syncAddr := 0, syncTc := 4, msix := 0 }], 99) })] } }), (0x2E), (99), ([{ seq := 3, syncAddr := 0, syncTc := 4, msix := 0 }]), by decide +kernel⟩,
    ⟨(State.reset), (.spi), by decide +kernel⟩,
    ⟨({ (State.reset.setNum ((0x5C01 + 3) * 256 + 14) 77) with mgmt := { State.reset.mgmt with snapshotDue := some 64 } }), (64), by decide +kernel⟩,
    ⟨(State.reset.setBytes O.ipv6Address addr15), ([1]), (addr15), ([7, 8]), by refine ⟨by decide +kernel, ?_⟩; rw [State.ownAddress, Bool.or_eq_true]; right; decide +kernel⟩,
    ⟨(State.reset.setBytes O.ipv6Address addr15), ([1]), (addr15), (77), by refine ⟨by decide +kernel, ?_, by decide +kernel⟩; rw [State.ownAddress, Bool.or_eq_true]; right; decide +kernel⟩,
    ⟨(State.reset), ([1]), (addr15), (77), by decide +kernel⟩,
    ⟨(State.reset), (2), by decide +kernel⟩,
    ⟨({ State.reset with mgmt := { State.reset.mgmt with sensors := [(2, { target := 0x48, format := 41, due := 50 })] } }), (2), (300), by decide +kernel⟩,
    ⟨({ State.reset with mgmt := { State.reset.mgmt with sensors := [(2, { target := 0x48, format := 41, due := 50 })] } }), (2), by decide +kernel⟩,
    ⟨({ State.reset with chip := { State.reset.chip with farFrames := [(260, 65536)] } }), (9), (some 86), by decide +kernel⟩,
    ⟨(State.reset), (4), (3), by decide +kernel⟩,
    ⟨(State.reset), (4), (some 3), by decide +kernel⟩,
    ⟨({ State.reset with mgmt := { State.reset.mgmt with buses := [(1, { state := .recovering, attempt := 1, since := 9 })] } }), (1), (some 9), by decide +kernel⟩,
    ⟨({ State.reset with mgmt := { State.reset.mgmt with buses := [(1, { state := .recovering, attempt := 2, since := 9 })] } }), (1), (none), by decide +kernel⟩,
    ⟨({ State.reset with mgmt := { State.reset.mgmt with buses := [(1, { state := .failed, attempt := 3 })] } }), (mgmtIssuer), (1), by decide +kernel⟩⟩

/-- Every clause of PowerAndResetsTakeEffect has a state and operands that meet its hypotheses. -/
theorem witness_PowerAndResetsTakeEffect :
    (∃ (s : State) (mv : Nat), (s.power.package = .off) ∧ (44000 < mv)) ∧
    (∃ (s : State), (s.power.package = .softStart) ∧ (s.power.coldResetLow = false)) ∧
    (∃ (s : State), (s.power.package = .coldResetHeld)) ∧
    (∃ (s : State) (a : Access), (s.running = true) ∧ (accessMgmt a = true) ∧ ((s.takeArm a R.pwrResetCmd).1 = true) ∧ (s.liveSlots =
      [])) ∧
    (∃ (s : State) (a : Access), (s.running = true) ∧ (accessMgmt a = true) ∧ ((s.takeArm a R.pwrResetCmd).1 = true) ∧ (s.liveSlots = [])
      ∧ (s.quiet = true) ∧ (Store.wf ({} : Port) s.links.ports = true)) ∧
    (∃ (s : State) (bankOk : List Bool) (failed channels : List Nat) (fuses : List (Nat × Nat)) (feedLow : Bool) (k b : Nat),
      (s.power.package = .booting k) ∧ ((if k = 1 then fuseClasses fuses else s.power.fuses).any (fun e => decide (e.2 = .unresolved)) =
      false) ∧ (s.sec.activated.getD s.sec.running = b) ∧ ((s.bank b).signed = true) ∧ (s.power.fusedSvn ≤ (s.bank b).svn) ∧ (bankOk.getD
      b false = true)) ∧
    (∃ (s : State) (bankOk : List Bool) (failed channels : List Nat) (fuses : List (Nat × Nat)) (feedLow : Bool) (k b : Nat),
      (s.power.package = .booting k) ∧ ((if k = 1 then fuseClasses fuses else s.power.fuses).any (fun e => decide (e.2 = .unresolved)) =
      false) ∧ (s.sec.activated.getD s.sec.running = b) ∧ (b < 2) ∧ (bankOk.getD b false = false) ∧ ((s.bank (1 - b)).signed = true) ∧
      (s.power.fusedSvn ≤ (s.bank (1 - b)).svn) ∧ (bankOk.getD (1 - b) false = true)) ∧
    (∃ (s : State) (bankOk : List Bool) (failed channels : List Nat) (fuses : List (Nat × Nat)) (feedLow : Bool) (k : Nat),
      (s.power.package = .booting k) ∧ ((if k = 1 then fuseClasses fuses else s.power.fuses).any (fun e => decide (e.2 = .unresolved)) =
      false) ∧ (s.sec.activated.getD s.sec.running < 2) ∧ (bankOk.getD 0 false = false) ∧ (bankOk.getD 1 false = false)) ∧
    (∃ (s : State) (bankOk : List Bool) (failed channels : List Nat) (fuses : List (Nat × Nat)) (feedLow : Bool), (s.power.package =
      .booting 1) ∧ ((fuseClasses fuses).any (fun e => decide (e.2 = .unresolved)) = true)) ∧
    (∃ (s : State) (changed : List (Nat × Nat × Bool)) (w : Nat), (s.running = true) ∧ (changed = [(w, 1, false)]) ∧ (Store.read .clean
      s.power.fuses w = .clean) ∧ (s.power.fuseMarginal.contains w = false)) ∧
    (∃ (s : State) (changed : List (Nat × Nat × Bool)) (w k : Nat) (differs : Bool), (s.running = true) ∧ (changed = [(w, k, differs)]) ∧
      (differs = true ∨ k = 2)) ∧
    (∃ (s : State), (s.power.package = .brownout) ∧ (44000 ≤ s.power.inputMv) ∧ (s.power.coldResetLow = false)) ∧
    (∃ (s : State) (mv : Nat), (mv < 36000) ∧ (s.power.package = .brownout)) ∧
    (∃ (s : State) (mv : Nat), (mv < 36000) ∧ (s.power.package = .thermalOff)) :=
  ⟨⟨(power16 { package := .off }), (54000), by decide +kernel⟩,
    ⟨(cold16 { package := .softStart, startCause := .thermalTrip, limitW := 5 }), by decide +kernel⟩,
    ⟨(cold16 { package := .coldResetHeld, coldResetLow := true }), by decide +kernel⟩,
    ⟨(cold16 {}), (.dict .spi), by decide +kernel⟩,
    ⟨({ sealed13 with links := { ports := [(2, live14)] }, sram := [(4, 4)] }), (.dict .spi), by decide +kernel⟩,
    ⟨(cold16 { package := .booting 1, standby := some { ftc := 9, trip := true, arg := 1700 } }), ([true, true]), ([]), ([]), ([(7, 1)]), (false), (1), (0), by decide +kernel⟩,
    ⟨(cold16 { package := .booting 3 }), ([false, true]), ([]), ([]), ([]), (false), (3), (0), by decide +kernel⟩,
    ⟨(cold16 { package := .booting 1 }), ([false, false]), ([]), ([]), ([]), (false), (1), by decide +kernel⟩,
    ⟨(cold16 { package := .booting 1 }), ([true, true]), ([]), ([]), ([(9, 2)]), (false), by decide +kernel⟩,
    ⟨(State.reset), ([(7, 1, false)]), (7), by decide +kernel⟩,
    ⟨(State.reset), ([(7, 0, true)]), (7), (0), (true), by decide +kernel⟩,
    ⟨(cold16 { package := .brownout, inputMv := 50000, standby := some { ftc := 9, trip := false, arg := 39000 } }), by decide +kernel⟩,
    ⟨(cold16 { package := .brownout, inputMv := 50000, standby := some { ftc := 9, trip := false, arg := 39000 } }), (35999), by decide +kernel⟩,
    ⟨(power16 { package := .thermalOff }), (35999), by decide +kernel⟩⟩

/-- Every clause of ThrottlesClocksAndWatchdogTakeEffect has a state and operands that meet its hypotheses. -/
theorem witness_ThrottlesClocksAndWatchdogTakeEffect :
    (∃ (s : State) (watts : Nat), (s.running = true) ∧ (watts ≤ s.power.limitW) ∧ (95 * s.power.limitW < 100 * watts)) ∧
    (∃ (s : State) (watts k : Nat), (s.running = true) ∧ (s.power.limitW < watts) ∧ (9 ≤ s.power.overRun) ∧ (s.nextPowerStep = some k)) ∧
    (∃ (s : State) (watts : Nat), (s.running = true) ∧ (100 * watts ≤ 95 * s.power.limitW) ∧ (99 ≤ s.power.underRun)) ∧
    (∃ (s : State) (mv : Nat), (s.running = true) ∧ (95 * s.power.samples.foldl max 0 ≤ 100 * mv) ∧ (44000 ≤ mv) ∧ (s.power.injectedSag =
      none)) ∧
    (∃ (s : State) (mv : Nat) (warnLow : Bool), (s.running = true) ∧ (100 * mv < 95 * s.power.samples.foldl max 0) ∧ (40000 ≤ mv)) ∧
    (∃ (s : State) (mv : Nat) (warnLow : Bool), (s.running = true) ∧ (mv < 40000) ∧ (2 ≤ s.power.brownRun) ∧ (s.liveSlots = [])) ∧
    (∃ (s : State) (calm : Nat), (s.running = true) ∧ (s.power.sag = .inForce) ∧ (s.power.calmSince = some calm)) ∧
    (∃ (s : State) (k : Nat), (s.running = true) ∧ (s.power.sag = .releasing k)) ∧
    (∃ (s : State) (c16 : Nat), (s.running = true) ∧ (c16 < 1600)) ∧
    (∃ (s : State) (c16 : Nat), (s.running = true) ∧ (1600 ≤ c16) ∧ (c16 < 1680) ∧ (s.power.thermal = false)) ∧
    (∃ (s : State) (c16 : Nat), (s.running = true) ∧ (1680 ≤ c16) ∧ (s.liveSlots = [])) ∧
    (∃ (s : State), (s.running = true) ∧ (s.power.thermal = true) ∧ (1600 ≤ s.power.jmax)) ∧
    (∃ (s : State), (s.running = true) ∧ (s.power.thermal = true) ∧ (s.power.jmax < 1552)) ∧
    (∃ (s : State) (ppb : Int) (parentPpb : Option Int), (s.running = true) ∧ (ppb.natAbs ≤ 200000)) ∧
    (∃ (s : State) (ppb : Int) (parentPpb : Option Int), (s.running = true) ∧ (s.liveSlots = [])) ∧
    (∃ (s : State) (p : DictPath) (cluster mhz : Nat), (s.running = true) ∧ (cluster < 256) ∧ (600 ≤ mhz) ∧ (mhz ≤ 2000) ∧ (mhz % 100 =
      0) ∧ (s.clusterStatic cluster = false) ∧ (s.power.sag = .none) ∧ (s.power.thermal = false) ∧ (Store.wf 1800 s.power.clocks = true)) ∧
    (∃ (s : State) (q : Nat), (s.running = true) ∧ (q < 16) ∧ (s.power.sag = .none) ∧ (s.power.thermal = false) ∧ (Store.wf 1800
      s.power.clocks = true)) ∧
    (∃ (s : State) (part : Nat), (s.running = true) ∧ (part < 6)) ∧
    (∃ (s : State), (s.running = true) ∧ (s.power.heartbeats = 63)) ∧
    (∃ (s : State), (s.running = true) ∧ (s.power.warned = false)) ∧
    (∃ (s : State), (s.running = true)) :=
  ⟨⟨(power16 { inputMv := 54000, overRun := 4, limitW := 3000 }), (2900), by decide +kernel⟩,
    ⟨(power16 { inputMv := 54000, overRun := 9, limitW := 3000 }), (3001), (1), by decide +kernel⟩,
    ⟨(power16 { inputMv := 54000, underRun := 99, limitW := 3000, powerSteps := [1, 1] }), (2850), by decide +kernel⟩,
    ⟨(power16 { samples := [54000], lowRun := 3 }), (53000), by decide +kernel⟩,
    ⟨(power16 { samples := [54000, 54100] }), (51000), (false), by decide +kernel⟩,
    ⟨(power16 { samples := [39000, 39900, 54100], brownRun := 2 }), (38000), (false), by decide +kernel⟩,
    ⟨(power16 { sag := .inForce, calmSince := some 40 }), (40), by decide +kernel⟩,
    ⟨(power16 { sag := .releasing 3, releaseDue := 1000 }), (3), by decide +kernel⟩,
    ⟨(State.reset), (1599), by decide +kernel⟩,
    ⟨(State.reset), (1600), by decide +kernel⟩,
    ⟨(State.reset), (1680), by decide +kernel⟩,
    ⟨(power16 { thermal := true, jmax := 1610 }), by decide +kernel⟩,
    ⟨(power16 { thermal := true, thermalDyn := 1, jmax := 1500 }), by decide +kernel⟩,
    ⟨(State.reset), (100), (some (-3)), by decide +kernel⟩,
    ⟨(State.reset), (100), (none), by decide +kernel⟩,
    ⟨(State.reset), (.spi), (3), (1900), by decide +kernel⟩,
    ⟨({ State.reset with florets := { clockRises := [(3, 1900), (20, 2000)] } }), (0), by decide +kernel⟩,
    ⟨(State.reset), (5), by decide +kernel⟩,
    ⟨(power16 { heartbeats := 63, warned := true }), by decide +kernel⟩,
    ⟨(power16 { heartbeats := 61 }), by decide +kernel⟩,
    ⟨(power16 { heartbeats := 61 }), by decide +kernel⟩⟩

/-- Every clause of CommitSlotsAndCheckpointsProgress has a state and operands that meet its hypotheses. -/
theorem witness_CommitSlotsAndCheckpointsProgress :
    (∃ (s : State) (o : Operation) (n pn : Nat) (x : CommitSlot) (p : Partition), (OnSlot s o 0xF0 n x) ∧ (o.operand1 = 0) ∧ (o.length =
      64) ∧ (x.state = .free) ∧ (zerosAt o.data 14 2 = true) ∧ (zerosAt o.data 24 40 = true) ∧ (fieldAt o.data 0 8 % 4096 = 0) ∧
      (addrRegion (BitVec.ofNat 64 (fieldAt o.data 0 8)) = 0) ∧ (s.isHere (addrNode (BitVec.ofNat 64 (fieldAt o.data 0 8))) = true) ∧
      (fieldAt o.data 8 4 % 4096 = 0) ∧ (4096 ≤ fieldAt o.data 8 4) ∧ (fieldAt o.data 8 4 ≤ 1073741824) ∧ (1 ≤ fieldAt o.data 12 1) ∧
      (fieldAt o.data 12 1 ≤ 16) ∧ (1 ≤ fieldAt o.data 13 1) ∧ (fieldAt o.data 13 1 ≤ 15) ∧ (s.partAt (addrOffset (BitVec.ofNat 64
      (fieldAt o.data 0 8))) = some (pn, p)) ∧ (p.state = .bound) ∧ (p.tenant = o.req.issuer.tenant) ∧ (addrOffset (BitVec.ofNat 64
      (fieldAt o.data 0 8)) + fieldAt o.data 12 1 * fieldAt o.data 8 4 ≤ p.end_)) ∧
    (∃ (s : State) (o : Operation) (n : Nat) (x : CommitSlot), (OnSlot s o 0xF0 n x) ∧ (o.operand1 = 0) ∧ (o.length = 0) ∧ (x.state =
      .opened)) ∧
    (∃ (s : State) (o : Operation) (n : Nat) (x : CommitSlot), (OnSlot s o 0xF0 n x) ∧ (o.operand1 = 0) ∧ (o.length = 0) ∧ (x.state =
      .aborted ∨ x.state = .committed ∨ x.state = .faulted) ∧ (Store.wf ({} : CommitSlot) s.faults.slots = true)) ∧
    (∃ (s : State) (o : Operation) (n off : Nat) (x : CommitSlot), (OnSlot s o 0xFF n x) ∧ (1 ≤ o.length) ∧ (o.length ≤ 2 ^ 24) ∧
      (addrRegion o.operand1 < 7) ∧ (x.state = .opened) ∧ (csAttempt o.req.target < x.attempts) ∧ (Store.read 0 x.staged (csAttempt
      o.req.target) + (csRecord o).length ≤ x.stageBytes) ∧ (off = addrOffset x.stageAddr + csAttempt o.req.target * x.stageBytes +
      Store.read 0 x.staged (csAttempt o.req.target)) ∧ (s.poolCheck off (csRecord o).length x.tenant none .stage = none) ∧
      (s.firstPoison off (csRecord o).length = none) ∧ (BytesCanonical s)) ∧
    (∃ (s : State) (o : Operation) (n : Nat) (x : CommitSlot) (bs : List Byte), (OnSlot s o 0xFF n x) ∧ (o.operand1 = 0) ∧ (o.length = 0)
      ∧ (x.state = .opened) ∧ (csAttempt o.req.target < x.attempts) ∧ ((s.begin.openOp o.req o.op).serviceRead (addrOffset x.stageAddr +
      csAttempt o.req.target * x.stageBytes) (Store.read 0 x.staged (csAttempt o.req.target)) x.tenant .stage = .ok bs)) ∧
    (∃ (s : State) (o : Operation) (n : Nat) (x : CommitSlot) (bs data : List Byte) (dst : Word64), (OnSlot s o 0xFF n x) ∧ (o.operand1 =
      0) ∧ (o.length = 0) ∧ (x.state = .opened) ∧ (csAttempt o.req.target < x.attempts) ∧ ((s.begin.openOp o.req o.op).serviceRead
      (addrOffset x.stageAddr + csAttempt o.req.target * x.stageBytes) (Store.read 0 x.staged (csAttempt o.req.target)) x.tenant .stage =
      .ok bs) ∧ (csRecords (bs.length / 64) bs = [(dst, data)]) ∧ (s.isHere (addrNode dst) = false)) ∧
    (∃ (s : State) (o : Operation) (n : Nat) (x : CommitSlot), (OnSlot s o 0xFF n x) ∧ (o.operand1 = 0) ∧ (o.length = 0) ∧ (x.state =
      .applying ∨ x.state = .committed) ∧ (x.winner ≠ some (csAttempt o.req.target))) ∧
    (∃ (s : State) (slot : Nat) (r : Response) (q : Req), (s.running = true) ∧ ((s.cslot slot).state = .applying) ∧ ((s.cslot
      slot).commit = some q) ∧ ((s.cslot slot).stopped = .ok) ∧ (r.status = .ok) ∧ (q.posted = false) ∧ (q.copy = none)) ∧
    (∃ (s : State) (slot : Nat) (r : Response) (q : Req), (s.running = true) ∧ ((s.cslot slot).state = .applying) ∧ ((s.cslot
      slot).commit = some q) ∧ ((s.cslot slot).stopped = .ok) ∧ (r.status ≠ .ok) ∧ (q.posted = false) ∧ (q.copy = none)) ∧
    (∃ (s : State) (p : DictPath) (k : Nat) (l : List (Nat × Nat)), (s.running = true) ∧ (s.ckptCheck k = none) ∧ (takeFrames (s.ckpt
      k).cowPages (s.part (s.ckpt k).partition).freeFrames = some l)) ∧
    (∃ (s : State) (p : DictPath) (k : Nat), (s.running = true) ∧ ((s.ckpt k).state = .armed ∨ (s.ckpt k).state = .streaming) ∧ ((s.ckpt
      k).held = [])) ∧
    (∃ (s : State) (k : Nat), (s.running = true) ∧ ((s.ckpt k).state = .armed)) ∧
    (∃ (s : State) (k : Nat), (s.running = true) ∧ ((s.ckpt k).state = .armed) ∧ (bitAt (s.ckpt k).shaper 16 = false) ∧ ((s.ckpt
      k).captured = []) ∧ ((s.ckpt k).inFlight = []) ∧ ((s.ckpt k).urgent = []) ∧ ((s.ckpt k).copies = []) ∧ ((s.ckpt k).next = 0) ∧ (1 ≤
      (s.part (s.ckpt k).partition).size)) ∧
    (∃ (s : State) (k page : Nat) (r : Response), (s.running = true) ∧ ((s.ckpt k).state = .streaming) ∧ ((s.ckpt k).inFlight.contains
      page = true) ∧ (r.status = .ok) ∧ ((s.ckpt k).held = [])) ∧
    (∃ (s : State) (k page : Nat) (r : Response), (s.running = true) ∧ ((s.ckpt k).state = .streaming) ∧ ((s.ckpt k).inFlight.contains
      page = true) ∧ (r.status ≠ .ok) ∧ ((s.ckpt k).held = [])) ∧
    (∃ (s : State) (k page : Nat), (s.running = true) ∧ ((s.ckpt k).state = .streaming) ∧ ((s.ckpt k).copying.contains page = true) ∧
      (Store.read false (s.ckpt k).captured page = true) ∧ ((s.ckpt k).held = [])) ∧
    (∃ (s : State) (k page : Nat), (s.running = true) ∧ ((s.ckpt k).state = .streaming) ∧ ((s.ckpt k).copying.contains page = true) ∧
      (Store.read false (s.ckpt k).captured page = false) ∧ ((s.ckpt k).held = [])) ∧
    (∃ (s : State) (k : Nat) (r : Response), (s.running = true) ∧ ((s.ckpt k).state = .streaming) ∧ ((s.ckpt k).manifest = true) ∧
      ((s.ckpt k).held = [])) :=
  ⟨⟨(slot17 {}), (csOp17 0x7A 64 0 desc17), (2), (0), ({}), ({ state := .bound, tenant := 5, size := 40, mapWritten := true }), by decide +kernel⟩,
    ⟨(slot17 open17), (csOp17 0x7A 0 0 []), (2), (open17), by decide +kernel⟩,
    ⟨(slot17 { open17 with state := .committed }), (csOp17 0x7A 0 0 []), (2), ({ open17 with state := .committed }), by decide +kernel⟩,
    ⟨((slot17 open17).memWrite 5 [6]), (csOp17 0x78 2 77 [8, 9]), (2), (65536), (open17), by decide +kernel⟩,
    ⟨((slot17 { open17 with staged := [(0, 128)] }).memWrite 65536 (csRecord (csOp17 0x78 2 0x0009000000000100#64 [8, 9]))), (csOp17 0x79 0 0 []), (2), ({ open17 with staged := [(0, 128)] }), (csRecord (csOp17 0x78 2 0x0009000000000100#64 [8, 9])), by decide +kernel⟩,
    ⟨((slot17 { open17 with staged := [(0, 128)] }).memWrite 65536 (csRecord (csOp17 0x78 2 0x0009000000000100#64 [8, 9]))), (csOp17 0x79 0 0 []), (2), ({ open17 with staged := [(0, 128)] }), (csRecord (csOp17 0x78 2 0x0009000000000100#64 [8, 9])), ([8, 9]), (0x0009000000000100#64), by decide +kernel⟩,
    ⟨(slot17 { open17 with state := .committed, winner := some 1 }), (csOp17 0x79 0 0 []), (2), ({ open17 with state := .committed, winner := some 1 }), by decide +kernel⟩,
    ⟨(slot17 { open17 with state := .applying, winner := some 0, commit := some req9, applied := 2 }), (2), (served), (req9), by decide +kernel⟩,
    ⟨(slot17 { open17 with state := .applying, winner := some 0, commit := some req9, applied := 2 }), (2), (served .link 7), (req9), by decide +kernel⟩,
    ⟨(ckpt17 { dest := 0x0008000000010000#64, cowPages := 3, startFtc := 4000128 }), (.spi), (1), ([(1, 3)]), by decide +kernel⟩,
    ⟨(ckpt17 { stream17 with cowFrames := [(1, 3)] }), (.spi), (1), by decide +kernel⟩,
    ⟨(ckpt17 { stream17 with state := .armed, startFtc := 128, next := 0, inFlight := [] }), (1), by decide +kernel⟩,
    ⟨(ckpt17 { stream17 with state := .armed, startFtc := 128, next := 0, inFlight := [] }), (1), by decide +kernel⟩,
    ⟨(ckpt17 stream17), (1), (0), (served), by decide +kernel⟩,
    ⟨(ckpt17 stream17), (1), (0), (served .link), by decide +kernel⟩,
    ⟨(ckpt17 { stream17 with copying := [0], captured := [(0, true)] }), (1), (0), by decide +kernel⟩,
    ⟨((ckpt17 { stream17 with copying := [1] }).memWrite 65536 [7]), (1), (1), by decide +kernel⟩,
    ⟨(ckpt17 { stream17 with manifest := true, inFlight := [], captured := [(0, true), (1, true)] }), (1), (served), by decide +kernel⟩⟩

/-- Every clause of InjectionMetersAndFeedTakeEffect has a state and operands that meet its hypotheses. -/
theorem witness_InjectionMetersAndFeedTakeEffect :
    (∃ (s : State) (p : DictPath), (s.running = true) ∧ (s.injectCheck (s.injection (s.num O.injectSelect 0)) = none)) ∧
    (∃ (s : State) (p : DictPath), (s.running = true) ∧ (Store.wf ({} : InjectEntry) s.faults.inject = true)) ∧
    (∃ (s : State) (p : DictPath), (s.running = true) ∧ (s.dictArmed p 0x5800 = true) ∧ (Store.wf ({} : InjectEntry) s.faults.inject =
      true)) ∧
    (∃ (s : State) (e p : Nat), (s.running = true) ∧ ((s.injection e).armed = true) ∧ ((s.injection e).kind = 1) ∧ (s.unitAt (s.injection
      e).target.toNat = some (.port p)) ∧ (Store.wf ({} : InjectEntry) s.faults.inject = true)) ∧
    (∃ (s : State) (e d i : Nat), (s.running = true) ∧ ((s.injection e).armed = true) ∧ ((s.injection e).kind = 4) ∧ (s.unitAt
      (s.injection e).target.toNat = some (.memCtl d i))) ∧
    (∃ (s : State) (e d i : Nat), (s.running = true) ∧ ((s.injection e).armed = true) ∧ ((s.injection e).kind = 5) ∧ (s.unitAt
      (s.injection e).target.toNat = some (.memCtl d i))) ∧
    (∃ (s : State) (e : Nat) (l : UnitLoc), (s.running = true) ∧ ((s.injection e).armed = true) ∧ ((s.injection e).kind = 6) ∧ (s.unitAt
      (s.injection e).target.toNat = some l)) ∧
    (∃ (s : State) (e : Nat), (s.running = true) ∧ ((s.injection e).armed = true) ∧ (s.unitAt (s.injection e).target.toNat = none)) ∧
    (∃ (s : State), (s.running = true)) ∧
    (∃ (s : State), (s.running = true) ∧ (Store.wf 0 s.faults.meterMode = true)) ∧
    (∃ (s : State) (dimm : Nat), (s.running = true) ∧ (dimm < 32) ∧ (s.power.dimmSupply = true) ∧ (s.chanFrames (256 + dimm / 2) ≠ 0) ∧
      (s.chanAbsent (256 + dimm / 2) = false) ∧ ((s.chan (256 + dimm / 2)).state ≠ .empty) ∧ ((s.chan (256 + dimm / 2)).state ≠ .failed)) ∧
    (∃ (s : State), (s.running = true)) :=
  ⟨⟨(inject17 { kind := 1, target := BitVec.ofNat 32 (State.reset.path (.port 2)), firstFtc := 4000000, param := 3 }), (.spi), by decide +kernel⟩,
    ⟨(inject17 { kind := 1, armed := true, left := 2 }), (.spi), by decide +kernel⟩,
    ⟨({ inject17 { kind := 1, armed := true, left := 2 } with mgmt := { State.reset.mgmt with paths := [(.spi, { arm := some (0x5800, 5) })] } }), (.spi), by decide +kernel⟩,
    ⟨(inject17 { kind := 1, target := BitVec.ofNat 32 (State.reset.path (.port 2)), param := 3, armed := true, nextFtc := 64, left := 2 }), (0), (2), by decide +kernel⟩,
    ⟨(inject17 { kind := 4, target := BitVec.ofNat 32 (State.reset.path (.memCtl 1 2)), param := 30, armed := true, nextFtc := 64, left := 2 }), (0), (1), (2), by decide +kernel⟩,
    ⟨(inject17 { kind := 5, target := BitVec.ofNat 32 (State.reset.path (.memCtl 1 2)), param := 30, armed := true, nextFtc := 64, left := 2 }), (0), (1), (2), by decide +kernel⟩,
    ⟨(inject17 { kind := 6, target := BitVec.ofNat 32 (State.reset.path .package), param := 30, armed := true, nextFtc := 64, left := 2 }), (0), (.package), by decide +kernel⟩,
    ⟨(inject17 { kind := 6, target := 0xFFFFFFFF, armed := true, nextFtc := 64, left := 1 }), (0), by decide +kernel⟩,
    ⟨({ (State.reset.setPart 0 { state := .bound, tenant := 5, reserved := [(1, 40)] }).setNum ((0x5C01 + 6) * 256 + 0x20) 1 with faults := { State.reset.faults with meterMode := [(6, 1)] }, now := 4000001, csr := [(R.swcQuota 6, some 9)] }), by decide +kernel⟩,
    ⟨({ State.reset.setNum ((0x5C01 + 6) * 256 + 0x20) 1 with faults := { State.reset.faults with meterMode := [(7, 1)] }, now := 4000001 }), by decide +kernel⟩,
    ⟨({ State.reset with chip := { State.reset.chip with farFrames := [(260, 65536)] } }), (9), by decide +kernel⟩,
    ⟨({ State.reset with chip := { State.reset.chip with farFrames := [(260, 65536)] } }), by decide +kernel⟩⟩

end Sys2Proof.Machine

end
end

/-! # What every command keeps

Sittings of the family 00_scope: O4 and O10, and the layer they rest on. `Steady σ s` says what no command touches between a state `σ`
and a later state `s`: the part itself, the queue behind the command, the direction of the clock, and the canonical form of the two
memories. Every operation of the model that gives a state takes a steady state to a steady one; one lemma says so for each operation, in
the order of the model's files, and its proof follows the operation's own body. The operation `s.foo.bar` is met by `hs.foo.bar`. -/

section
namespace Sys2Proof.Machine

/-! ### The relation, and the ways a body is put together -/

/-- What a command that starts at `σ` has kept when it has come to `s`. -/
structure Steady (σ s : State) : Prop where
  /-- the fuses, straps and sockets are those of `σ` (R1, R24) -/
  chip : s.chip = σ.chip
  /-- the commands that wait are those of `σ` -/
  pending : s.pending = σ.pending
  /-- the clock has not gone back -/
  now : σ.now ≤ s.now
  /-- the bytes of the pool and of SRAM are listed as they should be (R44, R304) -/
  bytes : BytesCanonical σ → BytesCanonical s

/-- The same of an operation that may fail with a code, that may give nothing, and of a command. -/
def SteadyOk {ε : Type} (σ : State) (r : Except ε State) : Prop := ∀ t, r = .ok t → Steady σ t
def SteadySome (σ : State) (r : Option State) : Prop := ∀ t, r = some t → Steady σ t
def SteadyNext (σ : State) (r : Result) : Prop := ∀ t, r = .next t → Steady σ t

variable {σ s : State}

theorem Steady.refl (s : State) : Steady s s := ⟨rfl, rfl, Nat.le_refl _, id⟩

/-- Any part but the part itself, the queue, the clock and the memories may be written. -/
theorem Steady.put
    {ftc out freeCounter dict csr remote plans florets hcu sw traffic pool kv coh cz meadow sec links mgmt power faults}
    (hs : Steady σ s) :
    Steady σ { s with
      ftc, out, freeCounter, dict, csr, remote, plans, florets, hcu, sw, traffic, pool, kv, coh, cz, meadow, sec, links, mgmt, power
      faults } :=
  ⟨hs.chip, hs.pending, hs.now, hs.bytes⟩

/-- The clock may go on. -/
theorem Steady.clock {n ftc} (hs : Steady σ s) (hn : s.now ≤ n) : Steady σ { s with now := n, ftc } :=
  { hs with now := Nat.le_trans hs.now hn }

theorem Steady.ok {ε : Type} (hs : Steady σ s) : SteadyOk σ (.ok s : Except ε State) := fun _ h => by cases h; exact hs
theorem Steady.some (hs : Steady σ s) : SteadySome σ (.some s) := fun _ h => by cases h; exact hs
theorem Steady.next (hs : Steady σ s) : SteadyNext σ (.next s) := fun _ h => by cases h; exact hs
theorem SteadyOk.error {ε : Type} {e : ε} : SteadyOk σ (.error e : Except ε State) := fun _ h => nomatch h
theorem SteadySome.none : SteadySome σ .none := fun _ h => nomatch h

/-! A choice keeps what both sides keep. An operation may give its state as the last component of a pair or a triple. -/

theorem Steady.ite {c : Prop} {_ : Decidable c} {t u : State} (ht : Steady σ t) (hu : Steady σ u) :
    Steady σ (if c then t else u) := by
  split <;> assumption

theorem Steady.ite_snd {α : Type} {c : Prop} {_ : Decidable c} {t u : α × State} (ht : Steady σ t.2) (hu : Steady σ u.2) :
    Steady σ (if c then t else u).2 := by
  split <;> assumption

theorem Steady.ite_snd_snd {α β : Type} {c : Prop} {_ : Decidable c} {t u : α × β × State} (ht : Steady σ t.2.2)
    (hu : Steady σ u.2.2) : Steady σ (if c then t else u).2.2 := by
  split <;> assumption

theorem SteadyOk.ite {ε : Type} {c : Prop} {_ : Decidable c} {t u : Except ε State} (ht : SteadyOk σ t) (hu : SteadyOk σ u) :
    SteadyOk σ (if c then t else u) := by
  split <;> assumption

theorem SteadySome.ite {c : Prop} {_ : Decidable c} {t u : Option State} (ht : SteadySome σ t) (hu : SteadySome σ u) :
    SteadySome σ (if c then t else u) := by
  split <;> assumption

theorem SteadyNext.ite {c : Prop} {_ : Decidable c} {t u : Result} (ht : SteadyNext σ t) (hu : SteadyNext σ u) :
    SteadyNext σ (if c then t else u) := by
  split <;> assumption

theorem SteadyOk.map {ε : Type} {r : Except ε State} {f : State → State} (hr : SteadyOk σ r)
    (hf : ∀ {t}, Steady σ t → Steady σ (f t)) : SteadyOk σ (r.map f) := by
  cases r with
  | error => exact .error
  | ok t => exact (hf (hr t rfl)).ok

theorem Steady.getD {o : Option State} (hs : Steady σ s) (ho : SteadySome σ o) : Steady σ (o.getD s) := by
  cases o with
  | none => exact hs
  | some t => exact ho t rfl

/-! A fold keeps what each of its rounds keeps. -/

theorem Steady.foldl {α : Type} {f : State → α → State} {l : List α} (hs : Steady σ s)
    (hf : ∀ {t a}, Steady σ t → Steady σ (f t a)) : Steady σ (l.foldl f s) := by
  induction l generalizing s with
  | nil => exact hs
  | cons a l ih => exact ih (hf hs)

theorem Steady.foldl_snd {α β : Type} {f : β × State → α → β × State} {l : List α} {x : β × State} (hs : Steady σ x.2)
    (hf : ∀ {t a}, Steady σ t.2 → Steady σ (f t a).2) : Steady σ (l.foldl f x).2 := by
  induction l generalizing x with
  | nil => exact hs
  | cons a l ih => exact ih (hf hs)

theorem Steady.foldl_snd_snd {α β γ : Type} {f : β × γ × State → α → β × γ × State} {l : List α} {x : β × γ × State}
    (hs : Steady σ x.2.2) (hf : ∀ {t a}, Steady σ t.2.2 → Steady σ (f t a).2.2) : Steady σ (l.foldl f x).2.2 := by
  induction l generalizing x with
  | nil => exact hs
  | cons a l ih => exact ih (hf hs)

/-! ### Machine/Ops.lean -/

theorem Steady.begin (hs : Steady σ s) : Steady σ s.begin := hs.put
theorem Steady.emit {m} (hs : Steady σ s) : Steady σ (s.emit m) := hs.put
theorem Steady.free {n} (hs : Steady σ s) : Steady σ (s.free n).2 := hs.put
theorem Steady.setNum {k v} (hs : Steady σ s) : Steady σ (s.setNum k v) := hs.put
theorem Steady.setBytes {k b} (hs : Steady σ s) : Steady σ (s.setBytes k b) := hs.put
theorem Steady.bumpN {k n} (hs : Steady σ s) : Steady σ (s.bumpN k n) := hs.ite hs.setNum
theorem Steady.bump {k} (hs : Steady σ s) : Steady σ (s.bump k) := hs.bumpN
theorem Steady.bump32 {k} (hs : Steady σ s) : Steady σ (s.bump32 k) := hs.setNum
theorem Steady.setReg {a v} (hs : Steady σ s) : Steady σ (s.setReg a v) := hs.put
theorem Steady.setUnit {l u} (hs : Steady σ s) : Steady σ (s.setUnit l u) := hs.put
theorem Steady.memWrite {off bs} (hs : Steady σ s) : Steady σ (s.memWrite off bs) :=
  { hs with bytes := fun h => ⟨memWrite_wf s off bs (hs.bytes h).1, (hs.bytes h).2⟩ }
theorem Steady.sramWrite {off bs} (hs : Steady σ s) : Steady σ (s.sramWrite off bs) :=
  { hs with bytes := fun h => ⟨(hs.bytes h).1, sramWrite_wf s off bs (hs.bytes h).2⟩ }
theorem Steady.memZero {off n} (hs : Steady σ s) : Steady σ (s.memZero off n) :=
  { hs with bytes := fun h => ⟨memZero_wf s off n (hs.bytes h).1, (hs.bytes h).2⟩ }
theorem Steady.sramZero {off n} (hs : Steady σ s) : Steady σ (s.sramZero off n) :=
  { hs with bytes := fun h => ⟨(hs.bytes h).1, sramZero_wf s off n (hs.bytes h).2⟩ }
theorem Steady.ticksPass {n} (hs : Steady σ s) : Steady σ (s.ticksPass n) := hs.bumpN.ite hs
theorem Steady.idleTick (hs : Steady σ s) : Steady σ s.idleTick := (hs.clock (Nat.le_add_right _ _)).ticksPass

theorem Steady.elapse {t} (hs : Steady σ s) : Steady σ (s.elapse t) := by
  unfold State.elapse
  split
  · next h => exact (hs.clock (Nat.le_of_lt h)).ticksPass
  · exact hs

theorem Steady.countDeferral {tenant r} (hs : Steady σ s) : Steady σ (s.countDeferral tenant r) := hs.ite hs.bump
theorem Steady.countRefusal {tenant r} (hs : Steady σ s) : Steady σ (s.countRefusal tenant r) := hs.ite hs.bump
theorem Steady.meter {tenant sub n} (hs : Steady σ s) : Steady σ (s.meter tenant sub n) := hs.bumpN.ite hs
theorem Steady.setQueue {q c} (hs : Steady σ s) : Steady σ (s.setQueue q c) := hs.put
theorem Steady.setEndpointPosted {n e} (hs : Steady σ s) : Steady σ (s.setEndpointPosted n e) := hs.put

theorem Steady.clearSticky {i} (hs : Steady σ s) : Steady σ (s.clearSticky i) := by
  unfold State.clearSticky
  split
  · exact hs.setQueue
  · split
    · exact hs.setEndpointPosted
    · exact hs

theorem Steady.setSticky {i st pseq} (hs : Steady σ s) : Steady σ (s.setSticky i st pseq) := by
  unfold State.setSticky
  refine hs.ite ?_
  split
  · exact hs.setQueue
  · split
    · exact hs.setEndpointPosted
    · exact hs

theorem Steady.countRetired {i} (hs : Steady σ s) : Steady σ (s.countRetired i) := by
  unfold State.countRetired
  split
  · exact hs.setQueue
  · split
    · exact hs.setEndpointPosted
    · exact hs

theorem Steady.countIssued {i} (hs : Steady σ s) : Steady σ (s.countIssued i) := by
  unfold State.countIssued
  split
  · exact hs.setQueue
  · split
    · exact hs.setEndpointPosted
    · exact hs

theorem Steady.openOp {r op} (hs : Steady σ s) : Steady σ (s.openOp r op) := hs.ite hs.put

theorem Steady.closeOp {i posted id} (hs : Steady σ s) : Steady σ (s.closeOp i posted id) := by
  unfold State.closeOp
  split
  · exact hs
  · exact hs.put.countRetired.ite hs.put

theorem Steady.markInjected {a} (hs : Steady σ s) : Steady σ (s.markInjected a).2 := hs.bump.ite hs

theorem Steady.respondCore {r op a0 q} (hs : Steady σ s) : Steady σ (s.respondCore r op a0 q) := by
  unfold State.respondCore
  extract_lets +onlyGivenNames _ _ s1
  have hs1 : Steady σ s1 := hs.markInjected.countRefusal.ite hs.markInjected
  exact hs1.emit.put.ite ((hs1.closeOp.ite hs1.emit.put).ite hs1.closeOp.emit.put)

theorem Steady.setSync {n o} (hs : Steady σ s) : Steady σ (s.setSync n o) := hs.put
theorem Steady.endWaitCore {w st} (hs : Steady σ s) : Steady σ (s.endWaitCore w st) := hs.put.respondCore
theorem Steady.retest {n} (hs : Steady σ s) : Steady σ (s.retest n) := by
  unfold State.retest; exact hs.foldl .endWaitCore
theorem Steady.updateCore {n v by_} (hs : Steady σ s) : Steady σ (s.updateCore n v by_) := hs.setSync.put.retest
theorem Steady.endFence {f} (hs : Steady σ s) : Steady σ (s.endFence f) := (hs.ite hs.clearSticky).respondCore
theorem Steady.endNotify {p} (hs : Steady σ s) : Steady σ (s.endNotify p) := hs.updateCore.respondCore

theorem Steady.wakeN {n} (hs : Steady σ s) : Steady σ (State.wakeN n s) := by
  induction n generalizing s with
  | zero => exact hs
  | succ n ih =>
    unfold State.wakeN
    split
    · exact ih hs.put.endFence
    · split
      · exact ih hs.put.endNotify
      · exact hs

theorem Steady.wake (hs : Steady σ s) : Steady σ s.wake := hs.wakeN
theorem Steady.respond {r op a q} (hs : Steady σ s) : Steady σ (s.respond r op a q) := hs.respondCore.wake
theorem Steady.endWait {w st} (hs : Steady σ s) : Steady σ (s.endWait w st) := hs.endWaitCore.wake.ite hs
theorem Steady.syncUpdate {n v by_} (hs : Steady σ s) : Steady σ (s.syncUpdate n v by_) := hs.updateCore.wake
theorem Steady.startNotify {r op n amount nodeOnly} (hs : Steady σ s) : Steady σ (s.startNotify r op n amount nodeOnly) :=
  hs.endNotify.wake.ite hs.put.openOp
theorem Steady.notifyAddr {addr tc by_ amount} (hs : Steady σ s) : Steady σ (s.notifyAddr addr tc by_ amount).2 :=
  hs.ite_snd ((hs.ite_snd (hs.ite_snd hs.syncUpdate)).ite_snd hs.emit)
theorem Steady.setVector {v x} (hs : Steady σ s) : Steady σ (s.setVector v x) := hs.put
theorem Steady.sendEvent {mask seqs} (hs : Steady σ s) : Steady σ (s.sendEvent mask seqs) := hs.foldl fun hu => hu.emit.put

theorem Steady.deliverOther {x} (hs : Steady σ s) : Steady σ (s.deliverOther x) := by
  unfold State.deliverOther
  extract_lets +onlyGivenNames _ s1
  have hs1 : Steady σ s1 := hs.ite (hs.notifyAddr.ite hs.notifyAddr.bump)
  exact hs1.emit.ite hs1

theorem Steady.event {vector source kind st arg injection} (hs : Steady σ s) :
    Steady σ (s.event vector source kind st arg injection) := by
  unfold State.event
  refine hs.put.bumpN.ite (hs.put.bumpN.sendEvent.deliverOther.ite ?_)
  dsimp only
  split <;> exact hs.put.bumpN.setVector

theorem Steady.eventOpen {vector source st arg injected} (hs : Steady σ s) :
    Steady σ (s.eventOpen vector source st arg injected) :=
  hs.free.event
theorem Steady.fault {code source arg action st entry0} (hs : Steady σ s) : Steady σ (s.fault code source arg action st entry0) :=
  (hs.put.ite hs.put.bump).event
theorem Steady.busError {i addr write st} (hs : Steady σ s) : Steady σ (s.busError i addr write st) :=
  (hs.setReg.ite hs.setReg.setReg).setReg
theorem Steady.answer {r q} (hs : Steady σ s) : Steady σ (s.answer r q) := hs.put

theorem Steady.refuseAt {a addr st reason} (hs : Steady σ s) : Steady σ (s.refuseAt a addr st reason) := by
  unfold State.refuseAt
  split
  · exact hs.busError.answer
  · exact hs.answer

theorem Steady.setCsrReq {n r} (hs : Steady σ s) : Steady σ (s.setCsrReq n r) := hs.put
theorem Steady.setPath {p x} (hs : Steady σ s) : Steady σ (s.setPath p x) := by
  unfold State.setPath; exact hs.put

theorem Steady.takeArm {a addr} (hs : Steady σ s) : Steady σ (s.takeArm a addr).2 := by
  unfold State.takeArm
  split
  · exact hs.setCsrReq
  · exact hs.setPath

theorem Steady.openWrite {eff : State → State} {a addr check guarded} (hs : Steady σ s)
    (heff : ∀ {t}, Steady σ t → Steady σ (eff t)) :
    Steady σ (s.openWrite a addr check eff guarded) := by
  unfold State.openWrite
  refine hs.takeArm.refuseAt.ite ?_
  split
  · exact hs.takeArm.refuseAt
  · exact (heff hs.takeArm).answer

theorem Steady.mgmtWrite {eff : State → State} {a addr check guarded} (hs : Steady σ s)
    (heff : ∀ {t}, Steady σ t → Steady σ (eff t)) :
    Steady σ (s.mgmtWrite a addr check eff guarded) :=
  hs.takeArm.refuseAt.ite (hs.openWrite heff)
theorem Steady.stageLo {i addr v} (hs : Steady σ s) : Steady σ (s.stageLo i addr v) := hs.put
theorem Steady.takeLo {i addr} (hs : Steady σ s) : Steady σ (s.takeLo i addr).2 := by
  unfold State.takeLo; exact hs.put
theorem Steady.atFtc {f} (hs : Steady σ s) : Steady σ (s.atFtc f) := hs.elapse.ite hs
theorem Steady.atTick {n} (hs : Steady σ s) : Steady σ (s.atTick n) := hs.atFtc
theorem Steady.openBytes {n} (hs : Steady σ s) : Steady σ (s.openBytes n).2 := hs.put
theorem Steady.whenRunning {f : State → State} (hs : Steady σ s) (hf : ∀ {t}, Steady σ t → Steady σ (f t)) :
    Steady σ (s.whenRunning f) :=
  (hf hs).ite hs

/-! ### Machine/Clocks.lean -/

theorem Steady.setClusterClock {c mhz} (hs : Steady σ s) : Steady σ (s.setClusterClock c mhz) := hs.put

/-! ### Machine/PoolMem.lean -/

theorem Steady.setChan {c x} (hs : Steady σ s) : Steady σ (s.setChan c x) := hs.put
theorem Steady.setPart {n p} (hs : Steady σ s) : Steady σ (s.setPart n p) := hs.put
theorem Steady.setPage {n p r} (hs : Steady σ s) : Steady σ (s.setPage n p r) := hs.put

theorem Steady.touchPage {n p} (hs : Steady σ s) : Steady σ (s.touchPage n p) := by
  unfold State.touchPage
  split
  · exact hs
  · exact hs.setPage.put.ite hs.setPage

theorem Steady.touchRange {n p off len tenant write} (hs : Steady σ s) : Steady σ (s.touchRange n p off len tenant write) :=
  hs.ite (hs.foldl fun hu => hu.touchPage.meter)
theorem Steady.setPoison {b v} (hs : Steady σ s) : Steady σ (s.setPoison b v) := hs.put

theorem Steady.writeBlocks {ok off bs n} (hs : Steady σ s) : Steady σ (s.writeBlocks ok off bs n).2 := by
  induction n generalizing s ok off bs with
  | zero => exact hs
  | succ n ih =>
    unfold State.writeBlocks
    split
    · exact hs
    · exact ih (hs.ite (hs.memWrite.setPoison.ite hs.memWrite))

theorem Steady.poolWrite {off bs} (hs : Steady σ s) : Steady σ (s.poolWrite off bs).2 := by
  unfold State.poolWrite
  split
  · exact hs.memWrite
  · exact hs.writeBlocks

/-! ### Machine/Shapers.lean -/

theorem Steady.setShaper {n b} (hs : Steady σ s) : Steady σ (s.setShaper n b) := hs.put
theorem Steady.placeOnWheel {n} (hs : Steady σ s) : Steady σ (s.placeOnWheel n) := hs.setShaper.put
theorem Steady.charge {n cost} (hs : Steady σ s) : Steady σ (s.charge n cost) :=
  hs.ite (hs.setShaper.placeOnWheel.ite hs.setShaper)
theorem Steady.setWeir {n b} (hs : Steady σ s) : Steady σ (s.setWeir n b) := hs.put
theorem Steady.weirPass {n cost} (hs : Steady σ s) : Steady σ (s.weirPass n cost).2 :=
  hs.ite_snd (hs.setWeir.bump.ite_snd hs.setWeir)
theorem Steady.wheelStep (hs : Steady σ s) : Steady σ s.wheelStep :=
  (hs.put.foldl fun hu => hu.setShaper.placeOnWheel.ite hu.setShaper).bumpN

/-! ### Machine/PoolIo.lean -/

theorem Steady.setCkpt {c k} (hs : Steady σ s) : Steady σ (s.setCkpt c k) := hs.put
theorem Steady.ckptCopy {c n p} (hs : Steady σ s) : Steady σ (s.ckptCopy c n p) := by
  unfold State.ckptCopy; exact hs.setCkpt

theorem Steady.ckptKeep {n first count} (hs : Steady σ s) : Steady σ (s.ckptKeep n first count) := by
  unfold State.ckptKeep
  refine hs.foldl fun hu => ?_
  split
  · exact hu.ckptCopy
  · exact hu

theorem Steady.used {off len tenant} (hs : Steady σ s) : Steady σ (s.used off len tenant) := by
  unfold State.used
  split
  · exact hs.touchRange.ite hs
  · exact hs

theorem Steady.fetchUsed {i a n} (hs : Steady σ s) : Steady σ (s.fetchUsed i a n) := hs.used.ite hs

theorem Steady.serviceWrite {off bs tenant use} (hs : Steady σ s) : Steady σ (s.serviceWrite off bs tenant use).2 := by
  unfold State.serviceWrite
  split
  · exact hs
  · split
    · exact hs
    · exact hs.ite_snd hs.ckptKeep.poolWrite.touchRange

theorem Steady.writeLocal {i tc addr bs} (hs : Steady σ s) : Steady σ (s.writeLocal i tc addr bs).2 := by
  unfold State.writeLocal
  refine hs.ite_snd (hs.ite_snd ?_)
  refine hs.serviceWrite.ite_snd (.ite_snd ?_ hs.emit)
  split
  · exact hs
  · exact hs.sramWrite

theorem Steady.setContract {k c} (hs : Steady σ s) : Steady σ (s.setContract k c) := hs.put
theorem Steady.setInChannel {c l} (hs : Steady σ s) : Steady σ (s.setInChannel c l) := hs.put

theorem Steady.poolEffect {o} (hs : Steady σ s) : Steady σ (s.poolEffect o).2.2.2 := by
  unfold State.poolEffect
  dsimp only
  split
  · exact hs
  · split
    · split
      · exact hs
      · split
        · exact hs
        · exact hs.memWrite
    · exact hs.poolWrite

theorem Steady.performPool {r} (hs : Steady σ s) : Steady σ (s.performPool r) := by
  unfold State.performPool
  dsimp only
  split
  · exact hs.respond
  · split
    · exact hs.put.countDeferral
    · split
      · exact hs.setCkpt.countDeferral
      · exact hs.poolEffect.touchRange.setInChannel

theorem Steady.dispatchReq {go : State → PoolReq → State} {k r rest owed} (hs : Steady σ s)
    (hgo : ∀ {t a0}, Steady σ t → Steady σ (go t a0)) :
    Steady σ (s.dispatchReq go k r rest owed) := by
  unfold State.dispatchReq
  extract_lets +onlyGivenNames _ _ _ _ s2 _ s4
  have hs2 : Steady σ s2 := hs.setContract.charge.ite hs.setContract
  have hs4 : Steady σ s4 := (hs2.charge.ite hs2).bumpN
  exact hgo (hs4.countDeferral.ite hs4)

theorem Steady.markHeads {ks f} (hs : Steady σ s) : Steady σ (s.markHeads ks f) := by
  unfold State.markHeads
  refine hs.foldl fun hu => ?_
  dsimp only
  split
  · exact hu.setContract
  · exact hu

theorem Steady.dispatchOne {go : State → PoolReq → State} {ch} (hs : Steady σ s)
    (hgo : ∀ {t a0}, Steady σ t → Steady σ (go t a0)) :
    Steady σ (s.dispatchOne go ch) := by
  unfold State.dispatchOne
  refine hs.ite ?_
  dsimp only
  split
  · split
    · exact hs.markHeads
    · exact hs.markHeads.markHeads.put.dispatchReq hgo
  · split
    · exact hs.markHeads
    · split
      · exact hs.markHeads.put
      · exact (hs.markHeads.put.setContract.ite hs.markHeads.put).dispatchReq hgo

theorem Steady.enqueueAt {go : State → PoolReq → State} {o ch kv defer load} (hs : Steady σ s)
    (hgo : ∀ {t a0}, Steady σ t → Steady σ (go t a0)) :
    Steady σ (s.enqueueAt go o ch kv defer load) := by
  unfold State.enqueueAt
  refine (hs.weirPass.ite_snd hs).respond.ite ((hs.weirPass.ite_snd hs).respond.ite ?_)
  extract_lets +onlyGivenNames _ _ _ s1
  have hs1 : Steady σ s1 := (hs.weirPass.ite_snd hs).put
  exact (hs1.openOp.dispatchReq hgo).ite hs1.openOp.setContract

theorem Steady.enqueuePool {o defer} (hs : Steady σ s) : Steady σ (s.enqueuePool o defer) := hs.enqueueAt .performPool

theorem Steady.poolSubmit {o} (hs : Steady σ s) : Steady σ (s.poolSubmit o) := by
  unfold State.poolSubmit
  dsimp only
  split
  · exact hs.respond
  · refine hs.respond.ite ?_
    split
    · exact hs
    · exact hs.enqueuePool.ite hs.openOp.put.countDeferral

theorem Steady.releasePool {o defer} (hs : Steady σ s) : Steady σ (s.releasePool o defer) := hs.put.performPool

theorem Steady.takeTierError {u} (hs : Steady σ s) : Steady σ (s.takeTierError u).2 := by
  unfold State.takeTierError
  split
  · exact hs
  · exact hs.put

theorem Steady.revertBlocks {d} (hs : Steady σ s) : Steady σ (s.revertBlocks d) := hs.foldl fun hu => (hu.memWrite.ite hu).put

theorem Steady.endAccess {o a defer load} (hs : Steady σ s) : Steady σ (s.endAccess o a defer load) := by
  unfold State.endAccess
  extract_lets +onlyGivenNames w
  have hw : Steady σ w.2 := hs.ite_snd hs.writeLocal
  exact (hw.startNotify.ite hw.respond).ite hw.respond

theorem Steady.finishPool {d a load} (hs : Steady σ s) : Steady σ (s.finishPool d a load) := by
  unfold State.finishPool
  extract_lets +onlyGivenNames s1
  have hs1 : Steady σ s1 := by
    unfold s1
    refine .ite ?_ hs
    split
    · exact hs.bump
    · exact hs
  exact hs1.endAccess

theorem Steady.completeReq {ch id} (hs : Steady σ s) : Steady σ (s.completeReq ch id) := by
  unfold State.completeReq
  split
  · exact hs
  · extract_lets +onlyGivenNames _ late s0 _ _ s2
    have hs0 : Steady σ s0 := by
      unfold s0
      cases late with
      | none => exact hs
      | some => exact hs.elapse
    have hs2 : Steady σ s2 := hs0.setInChannel.setChan.bump
    exact hs2.takeTierError.revertBlocks.finishPool.ite (hs2.finishPool.ite hs2.finishPool)

theorem Steady.failReq {ch d a} (hs : Steady σ s) : Steady σ (s.failReq ch d a) := hs.setInChannel.revertBlocks.finishPool

/-! ### Machine/Front.lean -/

theorem Steady.countArrival {o} (hs : Steady σ s) : Steady σ (s.countArrival o) := by
  unfold State.countArrival
  split
  · exact hs.countIssued.openOp.ite hs
  · exact hs

theorem Steady.forward {o} (hs : Steady σ s) : Steady σ (s.forward o) := (hs.ite hs.openOp).emit

theorem Steady.front {here : State → State} {o postedOk mdMask mcast} (hs : Steady σ s)
    (hhere : ∀ {t}, Steady σ t → Steady σ (here t)) :
    Steady σ (s.front o postedOk mdMask mcast here) := by
  unfold State.front
  refine hs.begin.respond.ite (hs.begin.respond.ite ?_)
  refine hs.begin.respond.ite (hs.begin.respond.ite ?_)
  refine hs.begin.respond.ite ((hs.begin.countArrival.forward.ite hs.begin.respond).ite ?_)
  exact (hhere hs.begin.countArrival).ite (hs.begin.respond.ite hs.begin.countArrival.forward)

theorem Steady.unitOp {here : State → State} {o mdMask} (hs : Steady σ s) (hhere : ∀ {t}, Steady σ t → Steady σ (here t)) :
    Steady σ (s.unitOp o mdMask here) :=
  hs.whenRunning fun hu => hu.front hhere
theorem Steady.homeOp {here : State → State} {o postedOk mdMask} (hs : Steady σ s) (hhere : ∀ {t}, Steady σ t → Steady σ
    (here t)) :
    Steady σ (s.homeOp o postedOk mdMask here) :=
  hs.whenRunning fun hu => hu.begin.respond.ite (hu.front hhere)

theorem Steady.atLocal {go : State → Operation → State} {o n} (hs : Steady σ s)
    (hgo : ∀ {t a0}, Steady σ t → Steady σ (go t a0)) :
    Steady σ (s.atLocal o n go) := by
  unfold State.atLocal
  split
  · exact hs.respond
  · exact hgo hs.fetchUsed

/-! ### Machine/Checkpoint.lean -/

theorem Steady.ckptArm {a c} (hs : Steady σ s) : Steady σ (s.ckptArm a c) := hs.openWrite fun hu => hu.setPart.setCkpt
theorem Steady.execCkptArm {p c} (hs : Steady σ s) : SteadyNext σ (execCkptArm p c s) := (hs.begin.whenRunning .ckptArm).next
theorem Steady.ckptRelease {c f} (hs : Steady σ s) : Steady σ (s.ckptRelease c f) := hs.setCkpt.foldl .releasePool
theorem Steady.ckptEnd {c state st} (hs : Steady σ s) : Steady σ (s.ckptEnd c state st) := hs.setPart.setCkpt.ckptRelease

theorem Steady.ckptCancel {a c} (hs : Steady σ s) : Steady σ (s.ckptCancel a c) := by
  unfold State.ckptCancel
  exact hs.openWrite .ckptEnd

theorem Steady.execCkptCancel {p c} (hs : Steady σ s) : SteadyNext σ (execCkptCancel p c s) :=
  (hs.begin.whenRunning .ckptCancel).next

theorem Steady.ckptSend {c} (hs : Steady σ s) : Steady σ (s.ckptSend c) := by
  unfold State.ckptSend
  refine hs.ite ?_
  split
  · exact hs
  · exact (hs.setCkpt.charge.ite hs.setCkpt).emit

theorem Steady.ckptPump {c} (hs : Steady σ s) : Steady σ (s.ckptPump c) :=
  hs.ite ((hs.foldl .ckptSend).setCkpt.emit.ite (hs.foldl .ckptSend))
theorem Steady.execCkptStart {c} (hs : Steady σ s) : SteadyNext σ (execCkptStart c s) :=
  (hs.begin.whenRunning fun hu => hu.ite hu.elapse.put.setCkpt.ckptPump).next
theorem Steady.execCkptPageCaptured {c page r} (hs : Steady σ s) : SteadyNext σ (execCkptPageCaptured c page r s) :=
  (hs.begin.whenRunning fun hu => hu.ite (hu.ckptEnd.ite hu.setCkpt.ckptRelease.ckptPump)).next
theorem Steady.execCowCopyDone {c page} (hs : Steady σ s) : SteadyNext σ (execCowCopyDone c page s) :=
  (hs.begin.whenRunning fun hu => hu.ite (hu.setCkpt.ite hu.setCkpt.ckptCopy).ckptRelease).next
theorem Steady.execCkptManifest {c r} (hs : Steady σ s) : SteadyNext σ (execCkptManifest c r s) :=
  (hs.begin.whenRunning fun hu => hu.ite (hu.ckptEnd.ite hu.ckptEnd)).next
theorem Steady.setCslot {n x} (hs : Steady σ s) : Steady σ (s.setCslot n x) := hs.put
theorem Steady.csNo {o st reason} (hs : Steady σ s) : Steady σ (csNo s o st reason) := hs.respond
theorem Steady.csOn {go : State → Nat → CommitSlot → State} {o mask} (hs : Steady σ s)
    (hgo : ∀ {t a0 a1}, Steady σ t → Steady σ (go t a0 a1)) :
    Steady σ (s.csOn o mask go) :=
  hs.homeOp fun hu => hu.csNo.ite (hu.csNo.ite (hgo hu))

theorem Steady.execCsOpen {o} (hs : Steady σ s) : SteadyNext σ (execCsOpen o s) := by
  unfold Machine.execCsOpen
  refine (hs.csOn fun hu => ?_).next
  refine hu.csNo.ite (hu.csNo.ite ?_)
  refine hu.csNo.ite (hu.csNo.ite ?_)
  refine hu.csNo.ite ?_
  split
  · exact hu.csNo
  · exact hu.csNo.ite hu.setCslot.respond

theorem Steady.csAbortSlot {n} (hs : Steady σ s) : Steady σ (s.csAbortSlot n).2 := by
  unfold State.csAbortSlot
  dsimp only
  split
  · exact hs.setCslot
  · exact hs
  · exact hs
  · exact hs

theorem Steady.execCsAbort {o} (hs : Steady σ s) : SteadyNext σ (execCsAbort o s) :=
  (hs.csOn fun hu => hu.csNo.ite (hu.csNo.ite (hu.csAbortSlot.respond.ite hu.csNo))).next

theorem Steady.execCsRelease {o} (hs : Steady σ s) : SteadyNext σ (execCsRelease o s) := by
  unfold Machine.execCsRelease
  refine (hs.csOn fun hu => ?_).next
  refine hu.csNo.ite (hu.csNo.ite ?_)
  split
  · exact hu.csNo
  · exact hu.csNo
  · exact hu.csNo
  · exact hu.setCslot.respond

theorem Steady.csClosed {o x} (hs : Steady σ s) : Steady σ (s.csClosed o x) := by
  unfold State.csClosed
  split
  · exact hs.csNo.ite hs.bump.respond
  · exact hs.csNo.ite hs.bump.respond
  · exact hs.csNo

theorem Steady.execCsPut {o} (hs : Steady σ s) : SteadyNext σ (execCsPut o s) := by
  unfold Machine.execCsPut
  refine (hs.csOn fun hu => ?_).next
  refine hu.csNo.ite (hu.csNo.ite ?_)
  refine hu.csClosed.ite (hu.csNo.ite ?_)
  refine hu.csNo.ite ?_
  dsimp only
  split
  · exact hu.csNo
  · exact hu.serviceWrite.setCslot.respond.ite hu.serviceWrite.respond

theorem Steady.csApply {x l n} (hs : Steady σ s) : Steady σ (s.csApply x l n).2.2 := by
  induction l generalizing s n with
  | nil => exact hs
  | cons r t ih =>
    unfold State.csApply
    exact .ite_snd_snd (.ite_snd_snd hs.writeLocal (ih hs.writeLocal)) (ih hs.emit)

theorem Steady.execCsCommit {o} (hs : Steady σ s) : SteadyNext σ (execCsCommit o s) := by
  unfold Machine.execCsCommit
  refine (hs.csOn fun hu => ?_).next
  refine hu.csNo.ite (hu.csNo.ite ?_)
  refine hu.csClosed.ite (hu.csNo.ite ?_)
  dsimp only
  split
  · exact hu.openOp.setCslot
  · exact hu.openOp.used.csApply.setCslot

theorem Steady.execCsApplyDone {slot r} (hs : Steady σ s) : SteadyNext σ (execCsApplyDone slot r s) := by
  unfold Machine.execCsApplyDone
  refine (hs.begin.whenRunning fun hu => ?_).next
  dsimp only
  split
  · exact hu
  · exact hu.ite (hu.notifyAddr.setCslot.respond.ite hu.setCslot.respond)

/-! ### Machine/Traffic.lean -/

theorem Steady.execWheelTick (hs : Steady σ s) : SteadyNext σ (execWheelTick s) :=
  (hs.begin.whenRunning fun hu => hu.elapse.wheelStep.foldl .ckptPump).next
theorem Steady.indRead (hs : Steady σ s) : Steady σ s.indRead := hs.foldl .setReg
theorem Steady.execTrfIndRead {i v} (hs : Steady σ s) : SteadyNext σ (execTrfIndRead i v s) :=
  (hs.begin.whenRunning fun hu => hu.mgmtWrite .indRead).next
theorem Steady.indWrite (hs : Steady σ s) : Steady σ s.indWrite :=
  hs.setShaper.put.ite (hs.setWeir.ite (hs.setContract.ite hs.setContract.setContract))
theorem Steady.execTrfIndWrite {i v} (hs : Steady σ s) : SteadyNext σ (execTrfIndWrite i v s) :=
  (hs.begin.whenRunning fun hu => hu.mgmtWrite .indWrite).next
theorem Steady.setGate {p g} (hs : Steady σ s) : Steady σ (s.setGate p g) := hs.put
theorem Steady.setGateEntry {p e x} (hs : Steady σ s) : Steady σ (s.setGateEntry p e x) := hs.put
theorem Steady.activate {p e at_} (hs : Steady σ s) : Steady σ (s.activate p e at_) := hs.setGate
theorem Steady.gateDefault {p} (hs : Steady σ s) : Steady σ (s.gateDefault p) := hs.setGate
theorem Steady.gateCycleStart {i p v} (hs : Steady σ s) : Steady σ (s.gateCycleStart i p v) :=
  hs.mgmtWrite fun hu => hu.setReg.setGate
theorem Steady.execGateCycleStart {i port v} (hs : Steady σ s) : SteadyNext σ (execGateCycleStart i port v s) :=
  (hs.begin.whenRunning .gateCycleStart).next

theorem Steady.execGateCycleBegin {port} (hs : Steady σ s) : SteadyNext σ (execGateCycleBegin port s) := by
  unfold Machine.execGateCycleBegin
  refine (hs.begin.whenRunning fun hu => ?_).next
  dsimp only
  split
  · exact hu
  · exact hu.atTick.setGate.activate

theorem Steady.gateCycleStop {i p} (hs : Steady σ s) : Steady σ (s.gateCycleStop i p) :=
  hs.mgmtWrite fun hu => hu.setGate.ite hu
theorem Steady.execGateCycleStop {i port} (hs : Steady σ s) : SteadyNext σ (execGateCycleStop i port s) :=
  (hs.begin.whenRunning .gateCycleStop).next

theorem Steady.execGateStopEffect {port} (hs : Steady σ s) : SteadyNext σ (execGateStopEffect port s) := by
  unfold Machine.execGateStopEffect
  refine (hs.begin.whenRunning fun hu => ?_).next
  split
  · exact hu
  · exact hu.atTick.gateDefault

theorem Steady.execGateHoldExpiry {port} (hs : Steady σ s) : SteadyNext σ (execGateHoldExpiry port s) :=
  (hs.begin.whenRunning fun hu => hu.ite (hu.activate.ite hu.atTick.activate)).next
theorem Steady.gateEntryWrite {i p e v} (hs : Steady σ s) : Steady σ (s.gateEntryWrite i p e v) :=
  hs.takeLo.mgmtWrite .setGateEntry
theorem Steady.execGateEntryWrite {i port entry v} (hs : Steady σ s) : SteadyNext σ (execGateEntryWrite i port entry v s) :=
  (hs.begin.whenRunning .gateEntryWrite).next

/-! ### Machine/Arbiter.lean -/

theorem Steady.arbDrop {k} (hs : Steady σ s) : Steady σ (s.arbDrop k) := by
  unfold State.arbDrop
  split
  · exact hs
  · exact hs.setReg.setReg.setReg

theorem Steady.arbPick {k waiting} (hs : Steady σ s) : Steady σ (s.arbPick k waiting).2 := by
  unfold State.arbPick
  refine hs.setReg.ite_snd ?_
  dsimp only
  split
  · exact hs.put
  · exact hs

theorem Steady.arbCycle {k waiting} (hs : Steady σ s) : Steady σ (s.arbCycle k waiting) := by
  unfold State.arbCycle
  extract_lets +onlyGivenNames s1 _ r s3
  have hs1 : Steady σ s1 := by
    unfold s1
    split
    · exact hs.ite hs.arbDrop
    · exact hs
  have hr : Steady σ r.2 := (hs1.foldl .setReg).ite_snd (hs1.foldl .setReg).arbPick
  have hs3 : Steady σ s3 := by
    unfold s3
    split
    · exact hr
    · exact hr.setReg.setReg.setReg
  exact hs3.foldl .setReg

theorem Steady.execArbiterDraw {base waiting} (hs : Steady σ s) : SteadyNext σ (execArbiterDraw base waiting s) := by
  unfold Machine.execArbiterDraw
  refine (hs.begin.whenRunning fun hu => ?_).next
  split
  · exact hu
  · exact hu.arbCycle
  · exact hu.arbCycle

theorem Steady.execStarvationFlag {base requester} (hs : Steady σ s) : SteadyNext σ (execStarvationFlag base requester s) := by
  unfold Machine.execStarvationFlag
  refine (hs.begin.whenRunning fun hu => ?_).next
  split
  · exact hu
  · exact hu.ite hu.setReg.setReg.put.eventOpen

theorem Steady.arbSeed {i base v} (hs : Steady σ s) : Steady σ (s.arbSeed i base v) := by
  unfold State.arbSeed
  exact hs.openWrite fun hu => hu.setReg.setReg

theorem Steady.execArbiterSeedWrite {i base v} (hs : Steady σ s) : SteadyNext σ (execArbiterSeedWrite i base v s) :=
  (hs.begin.whenRunning .arbSeed).next

/-! ### Machine/ClearLog.lean -/

theorem Steady.clearRecord {kind prev number frames start chans} (hs : Steady σ s) :
    Steady σ (s.clearRecord kind prev number frames start chans) :=
  hs.put

/-! ### Machine/Compress.lean -/

theorem Steady.setStream {n x} (hs : Steady σ s) : Steady σ (s.setStream n x) := hs.put
theorem Steady.storeWrite {x off bs} (hs : Steady σ s) : Steady σ (s.storeWrite x off bs).2 := hs.serviceWrite
theorem Steady.storeUsed {x off len} (hs : Steady σ s) : Steady σ (s.storeUsed x off len) := hs.used
theorem Steady.holdTable {h} (hs : Steady σ s) : Steady σ (s.holdTable h) := by
  unfold State.holdTable; exact hs.put
theorem Steady.forgetTables {n slots} (hs : Steady σ s) : Steady σ (s.forgetTables n slots) := hs.put

theorem Steady.fetchTable {ch n slot} (hs : Steady σ s) : Steady σ (s.fetchTable ch n slot).2 := by
  unfold State.fetchTable
  dsimp only
  split
  · exact hs
  · exact hs.storeUsed.holdTable.ite_snd hs.storeUsed.setStream.bump.forgetTables.fault

theorem Steady.table {ch n slot} (hs : Steady σ s) : Steady σ (s.table ch n slot).2 := by
  unfold State.table
  split
  · exact hs.holdTable
  · exact hs.fetchTable

theorem Steady.expandBlock {n k} (hs : Steady σ s) : Steady σ (s.expandBlock n k).2 := by
  unfold State.expandBlock
  extract_lets +onlyGivenNames _ _
  split
  · exact hs
  · refine hs.storeUsed.setStream.bump.ite_snd ?_
    split
    · exact hs.storeUsed
    · extract_lets +onlyGivenNames _ fail
      have hfail : Steady σ fail.2 := hs.storeUsed.storeUsed.setStream.bump
      refine hfail.ite_snd (hfail.ite_snd ?_)
      refine hfail.ite_snd (hs.storeUsed.storeUsed.bump.ite_snd ?_)
      refine hs.storeUsed.storeUsed.bump.ite_snd (hfail.ite_snd ?_)
      extract_lets +onlyGivenNames t
      have ht : Steady σ t.2 := hs.storeUsed.storeUsed.table
      split
      · exact ht.setStream.bump
      · exact ht
      · split
        · exact ht.setStream.bump
        · exact ht.bump

theorem Steady.czNo {o st reason} (hs : Steady σ s) : Steady σ (czNo s o st reason) := hs.respond
theorem Steady.onStream {go : State → Nat → Stream → State} {o} (hs : Steady σ s)
    (hgo : ∀ {t a0 a1}, Steady σ t → Steady σ (go t a0 a1)) :
    Steady σ (s.onStream o go) :=
  hs.czNo.ite (hs.czNo.ite (hs.czNo.ite (hgo hs)))
theorem Steady.czPutDo {o n x} (hs : Steady σ s) : Steady σ (s.czPutDo o n x) :=
  hs.czNo.ite (hs.czNo.ite (hs.czNo.ite (hs.czNo.ite (hs.czNo.ite (hs.czNo.ite hs.setStream.openOp)))))
theorem Steady.execCzPut {o} (hs : Steady σ s) : SteadyNext σ (execCzPut o s) :=
  (hs.homeOp fun hu => hu.onStream fun hu => hu.czNo.ite (hu.czNo.ite hu.czPutDo)).next

theorem Steady.sealIfDone {n} (hs : Steady σ s) : Steady σ (s.sealIfDone n) := by
  unfold State.sealIfDone
  dsimp only
  split
  · exact hs
  · exact hs.setStream.respond.ite hs

theorem Steady.czPutFail {n st} (hs : Steady σ s) : Steady σ (s.czPutFail n st) := by
  unfold State.czPutFail
  dsimp only
  split
  · exact hs
  · exact (hs.setStream.respond.foldl .respond).sealIfDone

theorem Steady.czTables {ch n} (hs : Steady σ s) : Steady σ (s.czTables ch n).2 := by
  unfold State.czTables
  refine hs.foldl_snd fun hu => .ite_snd ?_ hu
  dsimp only
  split <;> exact hu.table

theorem Steady.execCzBlockVisible {n} (hs : Steady σ s) : SteadyNext σ (execCzBlockVisible n s) := by
  refine (hs.begin.whenRunning fun hu => ?_).next
  extract_lets +onlyGivenNames _
  split
  · exact hu
  · split
    · exact hu
    · extract_lets +onlyGivenNames _ _ coded _ _ r
      have hcoded {k} : Steady σ (coded k).2 := hu.czTables
      have hr : Steady σ r.2 := .ite_snd hcoded hcoded
      refine hr.storeWrite.czPutFail.ite ?_
      extract_lets +onlyGivenNames w2
      have hw2 : Steady σ w2.2 := hr.storeWrite.storeWrite
      refine hw2.czPutFail.ite ?_
      extract_lets +onlyGivenNames _ _ _ v
      have hv : Steady σ v := hw2.setStream.bump.bumpN.bumpN
      exact hv.respond.sealIfDone.ite hv

theorem Steady.expandRange {n lo hi l acc} (hs : Steady σ s) : Steady σ (s.expandRange n lo hi l acc).2.2 := by
  induction l generalizing s acc with
  | nil => exact hs
  | cons k t ih =>
    unfold State.expandRange
    dsimp only
    split
    · exact hs.expandBlock
    · exact ih hs.expandBlock

theorem Steady.czGetDo {o n x} (hs : Steady σ s) : Steady σ (s.czGetDo o n x) :=
  hs.czNo.ite (hs.czNo.ite hs.expandRange.writeLocal.respond)
theorem Steady.execCzGet {o} (hs : Steady σ s) : SteadyNext σ (execCzGet o s) :=
  (hs.homeOp fun hu => hu.onStream fun hu => hu.czNo.ite (hu.czNo.ite hu.czGetDo)).next
theorem Steady.czCtl {go : State → Nat → Stream → State} {o mask train} (hs : Steady σ s)
    (hgo : ∀ {t a0 a1}, Steady σ t → Steady σ (go t a0 a1)) :
    Steady σ (s.czCtl o mask train go) :=
  hs.homeOp fun hu => hu.onStream fun hu => hu.czNo.ite (hu.czNo.ite (hu.czNo.ite (hu.czNo.ite (hu.czNo.ite (hgo hu)))))
theorem Steady.execTrain {o} (hs : Steady σ s) : SteadyNext σ (execTrain o s) :=
  (hs.czCtl fun hu => hu.czNo.ite (hu.czNo.ite (hu.czNo.ite (hu.czNo.ite (hu.respond.ite hu.used.setStream.openOp))))).next

theorem Steady.loadSlot {n slot l} (hs : Steady σ s) : Steady σ (s.loadSlot n slot l).2 := by
  unfold State.loadSlot
  dsimp only
  split
  · exact hs.storeWrite
  · dsimp only
    exact hs.storeWrite.setStream.forgetTables

theorem Steady.loadSlots {n tables} (hs : Steady σ s) : Steady σ (s.loadSlots n tables).2 :=
  hs.foldl_snd fun hu => hu.ite_snd hu.loadSlot

theorem Steady.execTrainComplete {n} (hs : Steady σ s) : SteadyNext σ (execTrainComplete n s) := by
  unfold Machine.execTrainComplete
  refine (hs.begin.whenRunning fun hu => ?_).next
  dsimp only
  split
  · exact hu
  · exact hu.setStream.respond.ite hu.setStream.loadSlots.respond

theorem Steady.execLoadTable {o} (hs : Steady σ s) : SteadyNext σ (execLoadTable o s) :=
  (hs.czCtl fun hu => hu.atLocal fun hu => hu.czNo.ite (hu.czNo.ite (hu.czNo.ite hu.loadSlot.respond))).next
theorem Steady.execCzSeal {o} (hs : Steady σ s) : SteadyNext σ (execCzSeal o s) :=
  (hs.czCtl fun hu => hu.czNo.ite (hu.czNo.ite hu.setStream.openOp.sealIfDone)).next
theorem Steady.execStreamReset {o} (hs : Steady σ s) : SteadyNext σ (execStreamReset o s) :=
  (hs.czCtl fun hu => hu.czNo.ite hu.setStream.openOp).next
theorem Steady.execTableFetch {n slot channel} (hs : Steady σ s) : SteadyNext σ (execTableFetch n slot channel s) :=
  (hs.begin.whenRunning fun hu => hu.fetchTable.ite hu).next
theorem Steady.execStreamEnable {a n} (hs : Steady σ s) : SteadyNext σ (execStreamEnable a n s) :=
  (hs.begin.whenRunning fun hu => (hu.setStream.ite hu).mgmtWrite fun hu => hu.forgetTables.setStream).next
theorem Steady.poolZero {off len} (hs : Steady σ s) : Steady σ (s.poolZero off len) := hs.memZero.put

theorem Steady.execStreamEnableComplete {n} (hs : Steady σ s) : SteadyNext σ (execStreamEnableComplete n s) := by
  unfold Machine.execStreamEnableComplete
  refine (hs.begin.whenRunning fun hu => ?_).next
  refine hu.ckptKeep.poolZero.setStream.ite ?_
  split
  · exact hu
  · exact hu.ckptKeep.poolZero.forgetTables.setStream.respond.ite hu

theorem Steady.streamOff {n} (hs : Steady σ s) : Steady σ (s.streamOff n) := by
  unfold State.streamOff
  extract_lets +onlyGivenNames _ _ _ s2 _ s4
  have hs2 : Steady σ s2 := hs.setStream.foldl .respond
  have hs4 : Steady σ s4 := by
    unfold s4
    split
    · exact (hs2.foldl .respond).respond
    · exact hs2.foldl .respond
  split
  · exact hs4.respond
  · exact hs4

theorem Steady.execStreamDisable {a n} (hs : Steady σ s) : SteadyNext σ (execStreamDisable a n s) :=
  (hs.begin.whenRunning fun hu => hu.mgmtWrite fun hu => hu.streamOff.setStream).next

/-! ### Machine/Moves.lean -/

theorem Steady.askMove {n p toNear cause} (hs : Steady σ s) : Steady σ (s.askMove n p toNear cause).2 := by
  unfold State.askMove
  split
  · exact hs.bump.ite hs
  · exact hs.ite_snd hs.put

theorem Steady.endHints (hs : Steady σ s) : Steady σ s.endHints := hs.foldl fun hu => hu.put.respond

theorem Steady.markShort {w} (hs : Steady σ s) : Steady σ (s.markShort w) := by
  unfold State.markShort
  split
  · exact hs
  · exact hs.put

theorem Steady.dropMoves {f} (hs : Steady σ s) : Steady σ (s.dropMoves f).2 := hs.put.endHints
theorem Steady.cancelCause {n cause} (hs : Steady σ s) : Steady σ (s.cancelCause n cause) := hs.dropMoves.bumpN
theorem Steady.beginMove {n p toNear cause dest forPage} (hs : Steady σ s) :
    Steady σ (s.beginMove n p toNear cause dest forPage) :=
  hs.setPart.put

theorem Steady.skipPromotion {n p cause} (hs : Steady σ s) : Steady σ (s.skipPromotion n p cause) := by
  unfold State.skipPromotion
  dsimp only
  split
  · exact hs.bump.markShort.dropMoves.bump
  · exact hs.bump.markShort.dropMoves

theorem Steady.startMove {n p} (hs : Steady σ s) : Steady σ (s.startMove n p) := by
  unfold State.startMove
  split
  · exact hs
  · dsimp only
    split
    · exact hs.put.endHints
    · refine hs.ite (hs.put.endHints.ite ?_)
      split
      · exact hs.put.beginMove.ite hs
      · refine hs.put.markShort.endHints.ite (hs.ite ?_)
        split
        · exact hs.skipPromotion
        · split
          · exact hs.beginMove.setPart.ite hs
          · exact hs.skipPromotion

theorem Steady.releaseHeld {l} (hs : Steady σ s) : Steady σ (s.releaseHeld l) := hs.foldl .releasePool

theorem Steady.switchMove {m} (hs : Steady σ s) : Steady σ (s.switchMove m) := by
  unfold State.switchMove
  dsimp only
  split
  · exact hs.put.endHints
  · exact hs.put.setPage.setPart.bump.releaseHeld.endHints

theorem Steady.cancelMove {m} (hs : Steady σ s) : Steady σ (s.cancelMove m) := hs.put.setPart.bump.releaseHeld.markShort.endHints

theorem Steady.mapPagesIn {n first count f} (hs : Steady σ s) : Steady σ (s.mapPagesIn n first count f) := by
  unfold State.mapPagesIn
  refine hs.foldl fun hu => ?_
  split
  · exact hu.setPage
  · exact hu

theorem Steady.releaseLayer {n first count} (hs : Steady σ s) : Steady σ (s.releaseLayer n first count) := by
  unfold State.releaseLayer
  refine hs.foldl fun hu => ?_
  split
  · exact hu.setPage.put
  · exact hu

theorem Steady.prefetchLayer {n r old cause} (hs : Steady σ s) : Steady σ (s.prefetchLayer n r old cause).2 := by
  unfold State.prefetchLayer
  extract_lets +onlyGivenNames s1
  have hs1 : Steady σ s1 := by
    unfold s1
    split
    · exact hs.releaseLayer
    · exact hs
  exact hs1.mapPagesIn.ite_snd (hs1.mapPagesIn.foldl_snd .askMove)

theorem Steady.layerUsed {n l} (hs : Steady σ s) : Steady σ (s.layerUsed n l) := hs.used

/-! ### Machine/Kv.lean -/

theorem Steady.setStore {t x} (hs : Steady σ s) : Steady σ (s.setStore t x) := hs.put
theorem Steady.setSession {x} (hs : Steady σ s) : Steady σ (s.setSession x) := hs.put

theorem Steady.touchSession {t name} (hs : Steady σ s) : Steady σ (s.touchSession t name) := by
  unfold State.touchSession
  split
  · exact hs.setSession
  · exact hs

theorem Steady.unpinPages {x pages} (hs : Steady σ s) : Steady σ (s.unpinPages x pages).2 := hs.foldl .mapPagesIn
theorem Steady.freeSlots {t l} (hs : Steady σ s) : Steady σ (s.freeSlots t l) := hs.setStore
theorem Steady.endSession {x st} (hs : Steady σ s) : Steady σ (s.endSession x st) :=
  (hs.unpinPages.ite hs).freeSlots.setSession.put

/-- A slot taken comes with the state after it. -/
theorem Steady.takeSlot {t writer n slot u} (hs : Steady σ s) (e : s.takeSlot t writer n = .some (slot, u)) : Steady σ u := by
  induction n generalizing s with
  | zero => cases e
  | succ n ih =>
    unfold State.takeSlot at e
    dsimp only at e
    split at e
    · cases e
      exact hs.free.setStore
    · split at e
      · cases e
      · split at e
        · exact ih hs.free.endSession.bump e
        · cases e
          exact hs.free.endSession.bump.free.setStore

theorem Steady.pinSlot {x slot} (hs : Steady σ s) : Steady σ (s.pinSlot x slot) :=
  hs.ite (hs.bump.ite (hs.foldl fun hu => hu.mapPagesIn.askMove))

theorem Steady.takePages {t name layer l} (hs : Steady σ s) : SteadySome σ (s.takePages t name layer l) := by
  induction l generalizing s with
  | nil => exact hs.some
  | cons p rest ih =>
    unfold State.takePages
    split
    · exact .none
    · refine .ite (ih hs) (.ite .none ?_)
      split
      · exact .none
      · next slot s1 e =>
        split
        · exact .none
        · exact ih (hs.takeSlot e).setSession.pinSlot

theorem Steady.kvPut {t off bs} (hs : Steady σ s) : Steady σ (s.kvPut t off bs).2 := hs.serviceWrite

theorem Steady.kvGet {t off len} (hs : Steady σ s) : Steady σ (s.kvGet t off len).2 := by
  unfold State.kvGet
  dsimp only
  split
  · exact hs.touchRange
  · exact hs

theorem Steady.writePage {x layer page slot rows tokens} (hs : Steady σ s) :
    Steady σ (s.writePage x layer page slot rows tokens).2 :=
  hs.kvPut.foldl_snd fun hu => hu.foldl_snd .kvPut
theorem Steady.kvNo {o st reason} (hs : Steady σ s) : Steady σ (kvNo s o st reason) := hs.respond
theorem Steady.kvYes {o result} (hs : Steady σ s) : Steady σ (s.kvYes o result) := hs.touchSession.respond

theorem Steady.kvOpenDo {o} (hs : Steady σ s) : Steady σ (s.kvOpenDo o) := by
  unfold State.kvOpenDo
  refine hs.kvNo.ite (hs.kvNo.ite ?_)
  refine hs.kvNo.ite (.ite ?_ (hs.kvNo.ite (hs.kvNo.ite hs.free.put.kvYes)))
  split
  · exact hs.kvYes.ite hs.kvNo
  · exact hs.kvNo

theorem Steady.kvLookupDo {o} (hs : Steady σ s) : Steady σ (s.kvLookupDo o) := by
  unfold State.kvLookupDo
  split
  · exact hs.kvNo
  · exact hs.respond.ite (hs.kvYes.ite hs.kvNo)

theorem Steady.kvOn {f : KvSession → State} {o} (hs : Steady σ s) (hf : ∀ {a0}, Steady σ (f a0)) : Steady σ (s.kvOn o f) := by
  unfold State.kvOn
  split
  · exact hs.kvNo
  · exact hf

theorem Steady.kvRetainDo {o} (hs : Steady σ s) : Steady σ (s.kvRetainDo o) := hs.kvOn (hs.kvNo.ite hs.setSession.kvYes)
theorem Steady.kvPinDo {o} (hs : Steady σ s) : Steady σ (s.kvPinDo o) :=
  hs.kvOn (hs.kvNo.ite (hs.foldl fun hu => hu.mapPagesIn.askMove).setSession.kvYes)
theorem Steady.kvUnpinDo {o} (hs : Steady σ s) : Steady σ (s.kvUnpinDo o) := hs.kvOn hs.unpinPages.setSession.kvYes

theorem Steady.truncateLayer {t name layer count} (hs : Steady σ s) : Steady σ (s.truncateLayer t name layer count) := by
  unfold State.truncateLayer
  split
  · exact hs
  · extract_lets +onlyGivenNames _ _ _ _ s1
    have hs1 : Steady σ s1 := hs.setSession.freeSlots
    refine (hs1.unpinPages.ite hs1).ite ?_
    split
    · exact (hs1.unpinPages.ite hs1).kvPut
    · exact hs1.unpinPages.ite hs1

theorem Steady.truncateDo {t name layer count} (hs : Steady σ s) : Steady σ (s.truncateDo t name layer count) := by
  unfold State.truncateDo
  split
  · exact hs.truncateLayer
  · split
    · exact hs
    · exact hs.foldl .truncateLayer

theorem Steady.kvTruncateDo {o} (hs : Steady σ s) : Steady σ (s.kvTruncateDo o) :=
  hs.kvOn (hs.kvNo.ite (hs.kvNo.ite (hs.truncateDo.kvYes.ite hs.setSession.openOp)))
theorem Steady.kvDeleteDo {o} (hs : Steady σ s) : Steady σ (s.kvDeleteDo o) := hs.kvOn hs.setSession.openOp
theorem Steady.kvMoveDo {o destOk} (hs : Steady σ s) : Steady σ (s.kvMoveDo o destOk) :=
  hs.kvOn (hs.kvNo.ite (hs.kvNo.ite (hs.kvNo.ite hs.setSession.openOp)))

theorem Steady.kvTokenDo {o} (hs : Steady σ s) : Steady σ (s.kvTokenDo o) := by
  unfold State.kvTokenDo
  extract_lets +onlyGivenNames _
  split
  · exact hs.respond
  · refine hs.respond.ite (hs.respond.ite ?_)
    refine hs.respond.ite (hs.respond.ite ?_)
    refine hs.respond.ite ?_
    split
    · exact hs.respond
    · next s1 e =>
      have hs1 : Steady σ s1 := hs.takePages _ e
      split
      · exact hs.respond
      · extract_lets +onlyGivenNames _ w
        have hw : Steady σ w.2 := by
          unfold w
          refine hs1.foldl_snd fun hu => ?_
          split
          · exact hu
          · exact hu.writePage
        refine hw.touchSession.respond.ite ?_
        split
        · exact hw
        · exact hw.setSession.endAccess

theorem Steady.readSlot {x layer page} (hs : Steady σ s) : Steady σ (s.readSlot x layer page).2 := by
  unfold State.readSlot
  split
  · exact hs
  · dsimp only
    split
    · exact hs.kvGet
    · refine .ite_snd ?_ ?_
      · exact hs.kvGet
      · exact hs.kvGet.bump

theorem Steady.pullPages {x layer l acc} (hs : Steady σ s) : Steady σ (s.pullPages x layer l acc).2.2.2 := by
  induction l generalizing s acc with
  | nil => exact hs
  | cons p rest ih =>
    unfold State.pullPages
    dsimp only
    split
    · exact hs.readSlot
    · exact ih hs.readSlot

theorem Steady.kvPullDo {o} (hs : Steady σ s) : Steady σ (s.kvPullDo o) := by
  unfold State.kvPullDo
  dsimp only
  split
  · exact hs.respond
  · exact hs.respond.ite (hs.respond.ite (hs.respond.ite hs.pullPages.bumpN.touchSession.writeLocal.respond))

theorem Steady.kvAttendDo {o} (hs : Steady σ s) : Steady σ (s.kvAttendDo o) := by
  unfold State.kvAttendDo
  dsimp only
  split
  · exact hs.respond
  · refine hs.respond.ite (hs.respond.ite ?_)
    refine hs.respond.ite (hs.respond.ite ?_)
    exact hs.respond.ite (hs.respond.ite (hs.respond.ite ((hs.put.openOp.foldl .askMove).ite hs.put.openOp)))

theorem Steady.attendRange {x a l acc} (hs : Steady σ s) : Steady σ (s.attendRange x a l acc).2.2 := by
  induction l generalizing s acc with
  | nil => exact hs
  | cons p rest ih =>
    unfold State.attendRange
    dsimp only
    split
    · exact hs.readSlot
    · exact ih hs.readSlot

theorem Steady.setAttend {a} (hs : Steady σ s) : Steady σ (s.setAttend a) := hs.put
theorem Steady.dropAttend {a} (hs : Steady σ s) : Steady σ (s.dropAttend a) := hs.put.cancelCause.touchSession
theorem Steady.failAttend {a st} (hs : Steady σ s) : Steady σ (s.failAttend a st) := hs.ite hs.setAttend.respond

theorem Steady.attendDrain {id} (hs : Steady σ s) : Steady σ (s.attendDrain id) := by
  unfold State.attendDrain
  split
  · exact hs
  · exact hs.dropAttend.ite hs

theorem Steady.kvServe {kind o destOk} (hs : Steady σ s) : Steady σ (s.kvServe kind o destOk) := by
  unfold State.kvServe
  refine hs.kvOpenDo.ite (hs.kvLookupDo.ite ?_)
  refine (hs.kvOn hs.kvYes).ite ((hs.kvOn (hs.kvNo.ite hs.setSession.kvYes)).ite ?_)
  refine hs.kvRetainDo.ite ((hs.kvOn hs.setSession.kvYes).ite ?_)
  refine hs.kvPinDo.ite (hs.kvUnpinDo.ite ?_)
  exact hs.kvTruncateDo.ite (hs.kvDeleteDo.ite (hs.kvMoveDo.ite (hs.kvTokenDo.ite (hs.kvPullDo.ite hs.kvAttendDo))))

theorem Steady.kvRun {kind o destOk} (hs : Steady σ s) : Steady σ (s.kvRun kind o destOk) := by
  unfold State.kvRun
  split
  · exact hs.setSession.openOp.ite hs.kvServe
  · exact hs.kvServe

theorem Steady.kvRelease {t name} (hs : Steady σ s) : Steady σ (s.kvRelease t name) := by
  unfold State.kvRelease
  split
  · exact hs
  · exact hs.ite (hs.setSession.foldl .kvRun)

theorem Steady.kvPerform {r} (hs : Steady σ s) : Steady σ (s.kvPerform r) := by
  unfold State.kvPerform
  split
  · exact hs.kvRun
  · exact hs

theorem Steady.kvEnter {kind o destOk} (hs : Steady σ s) : Steady σ (s.kvEnter kind o destOk) := hs.enqueueAt .kvPerform
theorem Steady.kvCtl {o kind useOperand2 destOk} (hs : Steady σ s) : Steady σ (s.kvCtl o kind useOperand2 destOk) :=
  hs.unitOp fun hu => hu.kvNo.ite (hu.kvNo.ite (hu.kvNo.ite (hu.kvNo.ite (hu.kvNo.ite (hu.kvNo.ite hu.kvEnter)))))
theorem Steady.execKvOpen {o} (hs : Steady σ s) : SteadyNext σ (execKvOpen o s) := hs.kvCtl.next
theorem Steady.execKvLookup {o} (hs : Steady σ s) : SteadyNext σ (execKvLookup o s) := hs.kvCtl.next
theorem Steady.execKvTouch {o} (hs : Steady σ s) : SteadyNext σ (execKvTouch o s) := hs.kvCtl.next
theorem Steady.execKvSetTtl {o} (hs : Steady σ s) : SteadyNext σ (execKvSetTtl o s) := hs.kvCtl.next
theorem Steady.execKvRetain {o} (hs : Steady σ s) : SteadyNext σ (execKvRetain o s) := hs.kvCtl.next
theorem Steady.execKvRelease {o} (hs : Steady σ s) : SteadyNext σ (execKvRelease o s) := hs.kvCtl.next
theorem Steady.execKvPinNear {o} (hs : Steady σ s) : SteadyNext σ (execKvPinNear o s) := hs.kvCtl.next
theorem Steady.execKvUnpinNear {o} (hs : Steady σ s) : SteadyNext σ (execKvUnpinNear o s) := hs.kvCtl.next
theorem Steady.execKvTruncate {o} (hs : Steady σ s) : SteadyNext σ (execKvTruncate o s) := hs.kvCtl.next
theorem Steady.execKvDelete {o} (hs : Steady σ s) : SteadyNext σ (execKvDelete o s) := hs.kvCtl.next
theorem Steady.execKvMove {o destOk} (hs : Steady σ s) : SteadyNext σ (execKvMove o destOk s) := hs.kvCtl.next
theorem Steady.kvRegion {o} (hs : Steady σ s) : Steady σ (s.kvRegion o) :=
  hs.kvEnter.ite (hs.kvEnter.ite (hs.kvEnter.ite hs.respond))
theorem Steady.kvAccess {o posted space kind} (hs : Steady σ s) : Steady σ (s.kvAccess o posted space kind) :=
  hs.whenRunning fun hu => hu.front fun hu => hu.respond.ite (hu.respond.ite hu.kvEnter)
theorem Steady.execKvTokenWrite {o} (hs : Steady σ s) : SteadyNext σ (execKvTokenWrite o s) := hs.kvAccess.next
theorem Steady.execKvPagePull {o} (hs : Steady σ s) : SteadyNext σ (execKvPagePull o s) := hs.kvAccess.next
theorem Steady.execKvAttend {o} (hs : Steady σ s) : SteadyNext σ (execKvAttend o s) := hs.kvAccess.next

theorem Steady.execTruncateEffect {tenant session} (hs : Steady σ s) : SteadyNext σ (execTruncateEffect tenant session s) := by
  unfold Machine.execTruncateEffect
  refine (hs.begin.whenRunning fun hu => ?_).next
  split
  · exact hu
  · split
    · exact hu
    · exact hu.ite hu.setSession.truncateDo.respond.kvRelease

theorem Steady.execKvDeleteComplete {tenant session} (hs : Steady σ s) :
    SteadyNext σ (execKvDeleteComplete tenant session s) := by
  unfold Machine.execKvDeleteComplete
  refine (hs.begin.whenRunning fun hu => ?_).next
  split
  · exact hu
  · refine hu.ite ?_
    dsimp only
    split
    · exact hu.endSession.respond
    · exact hu.endSession

theorem Steady.moveFails {x m st} (hs : Steady σ s) : Steady σ (s.moveFails x m st) := hs.setSession.respond.kvRelease

theorem Steady.execKvMoveCopyDone {tenant session st destBase} (hs : Steady σ s) :
    SteadyNext σ (execKvMoveCopyDone tenant session st destBase s) := by
  unfold Machine.execKvMoveCopyDone
  refine (hs.begin.whenRunning fun hu => ?_).next
  split
  · exact hu
  · split
    · exact hu
    · exact hu.ite (hu.moveFails.ite hu.setSession)

theorem Steady.execKvMoveSwitchDone {tenant session st} (hs : Steady σ s) :
    SteadyNext σ (execKvMoveSwitchDone tenant session st s) := by
  unfold Machine.execKvMoveSwitchDone
  refine (hs.begin.whenRunning fun hu => ?_).next
  split
  · exact hu
  · split
    · exact hu
    · exact hu.ite (hu.moveFails.ite ((hu.setSession.ite hu.endSession).bump.respond.foldl .respond))

theorem Steady.execAttendStart {id} (hs : Steady σ s) : SteadyNext σ (execAttendStart id s) := by
  unfold Machine.execAttendStart
  refine (hs.begin.whenRunning fun hu => ?_).next
  split
  · exact hu
  · exact hu.setAttend.ite hu

theorem Steady.execAttendRangeDone {id range clusterReset} (hs : Steady σ s) :
    SteadyNext σ (execAttendRangeDone id range clusterReset s) := by
  unfold Machine.execAttendRangeDone
  refine (hs.begin.whenRunning fun hu => ?_).next
  split
  · exact hu
  · refine hu.ite ?_
    split
    · exact hu.dropAttend
    · refine hu.setAttend.attendDrain.ite (hu.setAttend.failAttend.attendDrain.ite ?_)
      extract_lets +onlyGivenNames _ _ _ t1
      have ht1 : Steady σ t1 := hu.attendRange.bumpN.meter
      split
      · exact ht1.setAttend.failAttend.attendDrain
      · exact (ht1.setAttend.ite ht1.setAttend.emit).ite ht1.setAttend

theorem Steady.execAttendOutputVisible {id r} (hs : Steady σ s) : SteadyNext σ (execAttendOutputVisible id r s) := by
  unfold Machine.execAttendOutputVisible
  refine (hs.begin.whenRunning fun hu => ?_).next
  split
  · exact hu
  · split
    · extract_lets +onlyGivenNames w
      have hw : Steady σ w.2 := hu.ite_snd hu.writeLocal
      exact hw.respond.dropAttend.ite hw.bump.dropAttend.endAccess.notifyAddr
    · exact hu

theorem Steady.execSessionExpiryCheck (hs : Steady σ s) : SteadyNext σ (execSessionExpiryCheck s) :=
  (hs.begin.whenRunning fun hu => hu.foldl fun hu => hu.endSession.bump).next

theorem Steady.execHandleQuarantineExpiry {base} (hs : Steady σ s) : SteadyNext σ (execHandleQuarantineExpiry base s) := by
  unfold Machine.execHandleQuarantineExpiry
  refine (hs.begin.whenRunning fun hu => ?_).next
  split
  · exact hu
  · exact hu.elapse.put

theorem Steady.storeOff {t} (hs : Steady σ s) : Steady σ (s.storeOff t) := by
  unfold State.storeOff
  extract_lets +onlyGivenNames _ _ s2
  have hs2 : Steady σ s2 := by
    unfold s2
    refine (hs.foldl fun hu => (hu.ite hu.respond).dropAttend).foldl fun hu => ?_
    extract_lets +onlyGivenNames _ u2 _ u4
    have hu2 : Steady σ u2 := hu.endSession.foldl .respond
    have hu4 : Steady σ u4 := by
      unfold u4
      split
      · exact (hu2.foldl .respond).respond
      · exact hu2.foldl .respond
    split
    · exact hu4.respond
    · exact hu4
  exact hs2.setStore

theorem Steady.storeEnable {a t partition} (hs : Steady σ s) : Steady σ (s.storeEnable a t partition) :=
  (hs.mgmtWrite fun hu => hu).ite ((hs.setStore.ite hs).mgmtWrite .setStore)
theorem Steady.storeDisable {a t} (hs : Steady σ s) : Steady σ (s.storeDisable a t) :=
  hs.mgmtWrite fun hu => (hu.storeOff.ite hu).setStore
theorem Steady.execKvStoreEnable {a t partition} (hs : Steady σ s) : SteadyNext σ (execKvStoreEnable a t partition s) :=
  (hs.begin.whenRunning .storeEnable).next
theorem Steady.execKvStoreDisable {a t} (hs : Steady σ s) : SteadyNext σ (execKvStoreDisable a t s) :=
  (hs.begin.whenRunning .storeDisable).next

/-! ### Machine/Meadow.lean -/

theorem Steady.setVindex {n x} (hs : Steady σ s) : Steady σ (s.setVindex n x) := hs.put
theorem Steady.vsNo {o r} (hs : Steady σ s) : Steady σ (vsNo s o r) := hs.respond
theorem Steady.vsCtl {go : State → Nat → VIndex → State} {o item} (hs : Steady σ s)
    (hgo : ∀ {t a0 a1}, Steady σ t → Steady σ (go t a0 a1)) :
    Steady σ (s.vsCtl o item go) :=
  hs.homeOp fun hu => hu.vsNo.ite (hu.vsNo.ite (hgo hu))
theorem Steady.setVsStatus {n st} (hs : Steady σ s) : Steady σ (s.setVsStatus n st) := hs.setVindex

theorem Steady.execVsEnable {o} (hs : Steady σ s) : SteadyNext σ (execVsEnable o s) := by
  unfold Machine.execVsEnable
  refine (hs.vsCtl fun hu => ?_).next
  refine hu.vsNo.ite (hu.atLocal fun hu => ?_)
  split
  · exact hu.setVsStatus.vsNo
  · extract_lets +onlyGivenNames _ _ t1
    have ht1 : Steady σ t1 := by
      unfold t1
      refine hu.foldl fun hu => ?_
      split
      · exact hu
      · exact hu.setPage.askMove.ite hu.setPage
    exact ht1.setVindex.vsNo

theorem Steady.setVquery {q} (hs : Steady σ s) : Steady σ (s.setVquery q) := hs.put
theorem Steady.dropVquery {id} (hs : Steady σ s) : Steady σ (s.dropVquery id) := hs.put

theorem Steady.execVsQuery {o} (hs : Steady σ s) : SteadyNext σ (execVsQuery o s) := by
  unfold Machine.execVsQuery
  refine (hs.homeOp fun hu => ?_).next
  refine hu.vsNo.ite (hu.vsNo.ite ?_)
  refine hu.bump.respond.ite (hu.atLocal fun hu => ?_)
  dsimp only
  split
  · exact hu.bump.respond
  · exact hu.put.setVindex.openOp

theorem Steady.execShardQueryStart {die} (hs : Steady σ s) : SteadyNext σ (execShardQueryStart die s) := by
  unfold Machine.execShardQueryStart
  refine (hs.begin.whenRunning fun hu => ?_).next
  split
  · exact hu
  · exact hu.ite hu.free.setVquery

theorem Steady.endVquery {q a} (hs : Steady σ s) : Steady σ (s.endVquery q a) := hs.dropVquery.respond
theorem Steady.failVquery {q st} (hs : Steady σ s) : Steady σ (s.failVquery q st) := hs.endVquery
theorem Steady.vsAccount {c y w} (hs : Steady σ s) : Steady σ (s.vsAccount c y w) :=
  (hs.foldl .touchRange).bumpN.bumpN.bumpN.bumpN.meter.bump.foldl fun hu => hu.bumpN.bumpN

theorem Steady.execShardQueryDone {id shard} (hs : Steady σ s) : SteadyNext σ (execShardQueryDone id shard s) := by
  unfold Machine.execShardQueryDone
  refine (hs.begin.whenRunning fun hu => ?_).next
  split
  · exact hu
  · split
    · exact hu
    · refine hu.ite ?_
      dsimp only
      split
      · exact hu.failVquery
      · exact (hu.vsAccount.setVquery.ite hu.vsAccount.setVquery.emit).ite hu.vsAccount.setVquery

theorem Steady.execVsResultVisible {id r} (hs : Steady σ s) : SteadyNext σ (execVsResultVisible id r s) := by
  unfold Machine.execVsResultVisible
  refine (hs.begin.whenRunning fun hu => ?_).next
  split
  · exact hu
  · split
    · exact hu
    · extract_lets +onlyGivenNames w
      have hw : Steady σ w.2 := hu.ite_snd hu.writeLocal
      exact hw.failVquery.ite hw.bump.bumpN.endVquery.notifyAddr

theorem Steady.execQueryTimeout {id} (hs : Steady σ s) : SteadyNext σ (execQueryTimeout id s) := by
  unfold Machine.execQueryTimeout
  refine (hs.begin.whenRunning fun hu => ?_).next
  split
  · exact hu
  · exact hu.ite hu.elapse.failVquery

theorem Steady.vsWrite {x part off bs} (hs : Steady σ s) : Steady σ (s.vsWrite x part off bs).2 := hs.serviceWrite

theorem Steady.setTomb {x h j v} (hs : Steady σ s) : Steady σ (s.setTomb x h j v).2 := by
  unfold State.setTomb
  dsimp only
  split
  · exact hs
  · exact hs.vsWrite

theorem Steady.vsWrites {x part l} (hs : Steady σ s) : Steady σ (s.vsWrites x part l).2 := by
  induction l generalizing s with
  | nil => exact hs
  | cons e rest ih =>
    unfold State.vsWrites
    exact hs.vsWrite.ite_snd (ih hs.vsWrite)

theorem Steady.vsOn {o x go} (hs : Steady σ s) (hgo : Steady σ go) : Steady σ (s.vsOn o x go) := hs.vsNo.ite hgo

theorem Steady.vsInsertDo {o n x} (hs : Steady σ s) : Steady σ (s.vsInsertDo o n x) := by
  unfold State.vsInsertDo
  extract_lets +onlyGivenNames _ _
  split
  · exact hs.vsNo
  · refine hs.vsNo.ite (hs.vsNo.ite ?_)
    refine hs.vsNo.ite (hs.vsNo.ite ?_)
    refine hs.vsNo.ite (hs.vsNo.ite ?_)
    refine (hs.setTomb.ite_snd hs).vsNo.ite ?_
    extract_lets +onlyGivenNames _ s1
    have hs1 : Steady σ s1 := (hs.setTomb.ite_snd hs).setVindex
    exact (hs1.vsWrite.vsNo.ite hs1.vsWrite.setVindex.vsNo).ite (hs1.vsWrites.vsNo.ite hs1.vsWrites.setTomb.vsNo)

theorem Steady.execVsInsert {o} (hs : Steady σ s) : SteadyNext σ (execVsInsert o s) :=
  (hs.vsCtl fun hu => hu.vsOn (hu.vsNo.ite (hu.atLocal .vsInsertDo))).next
theorem Steady.vsKill {x h j item} (hs : Steady σ s) : Steady σ (s.vsKill x h j item).2 :=
  (hs.ite_snd hs.setTomb).foldl_snd fun hu => hu.ite_snd hu.vsWrite

theorem Steady.execVsDelete {o} (hs : Steady σ s) : SteadyNext σ (execVsDelete o s) := by
  unfold Machine.execVsDelete
  refine (hs.vsCtl fun hu => ?_).next
  refine hu.vsOn (hu.vsNo.ite ?_)
  dsimp only
  split
  · exact hu.vsNo
  · exact hu.vsNo.ite (hu.vsKill.vsNo.ite (hu.vsKill.vsNo.ite hu.vsKill.setVindex.openOp))

theorem Steady.execVsDeleteComplete {index item} (hs : Steady σ s) : SteadyNext σ (execVsDeleteComplete index item s) := by
  unfold Machine.execVsDeleteComplete
  refine (hs.begin.whenRunning fun hu => ?_).next
  dsimp only
  split
  · exact hu
  · exact hu.ite hu.setVindex.respond

theorem Steady.execSetNeighbours {o} (hs : Steady σ s) : SteadyNext σ (execSetNeighbours o s) := by
  unfold Machine.execSetNeighbours
  refine (hs.vsCtl fun hu => ?_).next
  refine hu.vsOn (hu.vsNo.ite ?_)
  refine hu.atLocal fun hu => ?_
  dsimp only
  split
  · exact hu.vsNo
  · exact hu.vsNo.ite (hu.vsNo.ite hu.vsWrite.vsNo)

theorem Steady.mergeCopy {x h} (hs : Steady σ s) : Steady σ (s.mergeCopy x h).2 := by
  unfold State.mergeCopy
  refine hs.foldl_snd fun hu => hu.ite_snd ?_
  split
  · exact hu
  · exact hu.vsWrites

theorem Steady.execMerge {o} (hs : Steady σ s) : SteadyNext σ (execMerge o s) := by
  unfold Machine.execMerge
  refine (hs.vsCtl fun hu => ?_).next
  refine hu.vsOn (hu.vsNo.ite ?_)
  refine hu.setVsStatus.vsNo.ite (hu.setVsStatus.vsNo.ite ?_)
  extract_lets +onlyGivenNames _ w
  have hw : Steady σ w.2 := hu.foldl_snd fun hu => hu.ite_snd hu.mergeCopy
  exact hw.setVsStatus.vsNo.ite (hw.setVindex.vsNo.ite hw.setVindex.openOp)

theorem Steady.execMergeSwitch {index shard} (hs : Steady σ s) : SteadyNext σ (execMergeSwitch index shard s) := by
  unfold Machine.execMergeSwitch
  refine (hs.begin.whenRunning fun hu => ?_).next
  extract_lets +onlyGivenNames _
  split
  · exact hu
  · refine hu.ite ?_
    extract_lets +onlyGivenNames _ w
    have hw : Steady σ w.2 := hu.foldl_snd fun hu => hu.ite_snd hu.setTomb
    exact hw.setVindex.put.respond.ite hw.setVindex.put

theorem Steady.vsUnpin {x} (hs : Steady σ s) : Steady σ (s.vsUnpin x) := by
  unfold State.vsUnpin
  refine hs.foldl fun hu => ?_
  split
  · exact hu.setPage
  · exact hu

theorem Steady.vsStopMerge {n} (hs : Steady σ s) : Steady σ (s.vsStopMerge n) := by
  unfold State.vsStopMerge
  dsimp only
  split
  · exact hs
  · exact hs.setVindex.put.respond

theorem Steady.vsOff {n req} (hs : Steady σ s) : Steady σ (s.vsOff n req) := hs.vsStopMerge.setVindex.foldl .endVquery

theorem Steady.execVsDisable {o} (hs : Steady σ s) : SteadyNext σ (execVsDisable o s) := by
  unfold Machine.execVsDisable
  refine (hs.vsCtl fun hu => ?_).next
  refine hu.vsNo.ite ?_
  split
  · exact hu.vsNo
  · exact hu.setVsStatus.vsNo
  · exact hu.vsNo.ite hu.openOp.vsOff

theorem Steady.vsEnd {n} (hs : Steady σ s) : Steady σ (s.vsEnd n) := by
  unfold State.vsEnd
  extract_lets +onlyGivenNames _ _ s2
  have hs2 : Steady σ s2 := hs.vsUnpin.setVindex.foldl .respond
  split
  · exact hs2.respond
  · exact hs2

theorem Steady.vsDone {t : State} {index} (hs : Steady σ t) : Steady σ (t.vsDone index) := hs.vsEnd.ite hs
theorem Steady.vsUnbind {part} (hs : Steady σ s) : Steady σ (s.vsUnbind part) :=
  hs.foldl fun hu => (hu.foldl .failVquery).vsStopMerge.vsEnd

/-! ### Machine/PoolCtl.lean -/

theorem Steady.placePage {n pg} (hs : Steady σ s) : Steady σ (s.placePage n pg) := by
  unfold State.placePage
  dsimp only
  split
  · exact hs
  · exact hs.setPart.setPage

theorem Steady.bindPlace {n} (hs : Steady σ s) : Steady σ (s.bindPlace n) := (hs.foldl .setChan).setPart.foldl .placePage
theorem Steady.partStatus {a n st} (hs : Steady σ s) : Steady σ (s.partStatus a n st) := hs.setPart.ite hs
theorem Steady.partBind {a n} (hs : Steady σ s) : Steady σ (s.partBind a n) := hs.partStatus.mgmtWrite .bindPlace
theorem Steady.execPartitionBind {a n} (hs : Steady σ s) : SteadyNext σ (execPartitionBind a n s) :=
  (hs.begin.whenRunning .partBind).next
theorem Steady.execMapWritten {n} (hs : Steady σ s) : SteadyNext σ (execMapWritten n s) :=
  (hs.begin.whenRunning fun hu => hu.ite (hu.put.setPart.foldl .enqueuePool)).next
theorem Steady.refuseUndispatched {n} (hs : Steady σ s) : Steady σ (s.refuseUndispatched n) :=
  hs.foldl (fun hu => hu.ite (hu.setContract.foldl .respond)) |>.put.foldl .respond
    |>.foldl fun hu => (hu.put.foldl .respond).cancelMove
theorem Steady.unbindCkpts {n} (hs : Steady σ s) : Steady σ (s.unbindCkpts n) :=
  hs.foldl fun hu => (hu.setCkpt.foldl .respond).ckptEnd.ite hu
theorem Steady.unbindServices {n} (hs : Steady σ s) : Steady σ (s.unbindServices n) :=
  ((hs.foldl .storeOff).foldl .streamOff).vsUnbind
theorem Steady.unbindDo {n} (hs : Steady σ s) : Steady σ (s.unbindDo n) :=
  hs.unbindServices.unbindCkpts.refuseUndispatched.dropMoves.setPart
theorem Steady.partUnbind {a n} (hs : Steady σ s) : Steady σ (s.partUnbind a n) :=
  hs.partStatus.mgmtWrite fun hu => hu.unbindDo.ite hu
theorem Steady.execPartitionUnbind {a n} (hs : Steady σ s) : SteadyNext σ (execPartitionUnbind a n s) :=
  (hs.begin.whenRunning .partUnbind).next
theorem Steady.execPartitionClearComplete {n} (hs : Steady σ s) : SteadyNext σ (execPartitionClearComplete n s) :=
  (hs.begin.whenRunning fun hu => hu.ite (hu.foldl .setChan).poolZero.put.setPart.clearRecord).next

theorem Steady.repairPage {n pg r} (hs : Steady σ s) : SteadySome σ (s.repairPage n pg r) := by
  unfold State.repairPage
  dsimp only
  generalize State.repairFrame s _ r.near pg = f
  cases f with
  | none => exact .none
  | some k => exact ((hs.setChan.setPart.ite hs.setPart).setPage.foldl .setPoison).some

theorem Steady.repairAll {n l} (hs : Steady σ s) : SteadySome σ (s.repairAll n l) := by
  induction l generalizing s with
  | nil => exact hs.some
  | cons e t ih =>
    unfold State.repairAll
    cases h : s.repairPage n e.1 e.2 with
    | none => exact .none
    | some u => exact ih (hs.repairPage _ h)

theorem Steady.partRepair {a n} (hs : Steady σ s) : Steady σ (s.partRepair a n) :=
  hs.partStatus.mgmtWrite fun hu => hu.getD hu.repairAll
theorem Steady.execPartitionRepair {a n} (hs : Steady σ s) : SteadyNext σ (execPartitionRepair a n s) :=
  (hs.begin.whenRunning .partRepair).next
theorem Steady.chanOwnerWrite {a ch owner} (hs : Steady σ s) : Steady σ (s.chanOwnerWrite a ch owner) := hs.mgmtWrite .setChan
theorem Steady.execChannelOwnerWrite {a ch owner} (hs : Steady σ s) : SteadyNext σ (execChannelOwnerWrite a ch owner s) :=
  (hs.begin.whenRunning .chanOwnerWrite).next

theorem Steady.failPage {n pg r} (hs : Steady σ s) : Steady σ (s.failPage n pg r) := by
  unfold State.failPage
  dsimp only
  split
  · exact hs.setPage
  · exact (hs.setPage.put.setPart.markShort.foldl fun hu => hu.bump.respond).endHints

theorem Steady.channelFailed {ch} (hs : Steady σ s) : Steady σ (s.channelFailed ch) := by
  unfold State.channelFailed
  refine hs.ite ?_
  extract_lets +onlyGivenNames _ _ s2
  have hs2 : Steady σ s2 := by
    unfold s2
    refine (hs.setChan.foldl .cancelMove).foldl fun hu => ?_
    split
    · exact hu.failPage.ite hu
    · exact hu
  exact (hs2.put.foldl fun hu => hu.foldl .failReq).fault

theorem Steady.chanDeclare {a ch} (hs : Steady σ s) : Steady σ (s.chanDeclare a ch) := hs.mgmtWrite .channelFailed
theorem Steady.chanRestore {a ch} (hs : Steady σ s) : Steady σ (s.chanRestore a ch) := hs.mgmtWrite .setChan
theorem Steady.execChannelDeclareFailed {a ch} (hs : Steady σ s) : SteadyNext σ (execChannelDeclareFailed a ch s) :=
  (hs.begin.whenRunning .chanDeclare).next
theorem Steady.execChannelRestore {a ch} (hs : Steady σ s) : SteadyNext σ (execChannelRestore a ch s) :=
  (hs.begin.whenRunning .chanRestore).next
theorem Steady.execChannelRetrainDone {ch ok} (hs : Steady σ s) : SteadyNext σ (execChannelRetrainDone ch ok s) :=
  (hs.begin.whenRunning fun hu => hu.ite (hu.setChan.answer.ite hu.setChan.answer)).next
theorem Steady.execChannelClearComplete {ch} (hs : Steady σ s) : SteadyNext σ (execChannelClearComplete ch s) :=
  (hs.begin.whenRunning fun hu => hu.ite hu.setChan.put.put.clearRecord).next

theorem Steady.execChannelStall {ch} (hs : Steady σ s) : SteadyNext σ (execChannelStall ch s) := by
  unfold Machine.execChannelStall
  refine (hs.begin.whenRunning fun hu => ?_).next
  split
  · exact hu
  · exact hu.elapse.channelFailed

theorem Steady.execChannelFatalError {ch} (hs : Steady σ s) : SteadyNext σ (execChannelFatalError ch s) :=
  (hs.begin.whenRunning .channelFailed).next

theorem Steady.execUncorrectableError {offset} (hs : Steady σ s) : SteadyNext σ (execUncorrectableError offset s) := by
  unfold Machine.execUncorrectableError
  refine (hs.begin.whenRunning fun hu => ?_).next
  split
  · exact hu
  · exact hu.ite hu.setPoison.bump.bump.setInChannel.fault

theorem Steady.execTierDeadlineExpiry {ch id} (hs : Steady σ s) : SteadyNext σ (execTierDeadlineExpiry ch id s) := by
  unfold Machine.execTierDeadlineExpiry
  refine (hs.begin.whenRunning fun hu => ?_).next
  split
  · exact hu
  · exact hu.elapse.bump.failReq

theorem Steady.execChannelRequestComplete {channel id} (hs : Steady σ s) :
    SteadyNext σ (execChannelRequestComplete channel id s) :=
  (hs.begin.whenRunning .completeReq).next

theorem Steady.execContractDispatch {channel} (hs : Steady σ s) : SteadyNext σ (execContractDispatch channel s) := by
  refine (hs.begin.whenRunning fun hu => ?_).next
  split
  · exact hu.dispatchOne .kvPerform
  · exact hu.dispatchOne .performPool

theorem Steady.execPageMoveStart {n page} (hs : Steady σ s) : SteadyNext σ (execPageMoveStart n page s) :=
  (hs.begin.whenRunning .startMove).next

theorem Steady.execPageMoveSwitch {n page} (hs : Steady σ s) : SteadyNext σ (execPageMoveSwitch n page s) := by
  unfold Machine.execPageMoveSwitch
  refine (hs.begin.whenRunning fun hu => ?_).next
  split
  · exact hu
  · exact hu.ite hu.switchMove

theorem Steady.execMigrationHoldExpiry {n page} (hs : Steady σ s) : SteadyNext σ (execMigrationHoldExpiry n page s) := by
  unfold Machine.execMigrationHoldExpiry
  refine (hs.begin.whenRunning fun hu => ?_).next
  split
  · exact hu
  · split
    · exact hu
    · exact hu.elapse.cancelMove

/-! ### Machine/HcuJob.lean -/

theorem Steady.setJob {n j} (hs : Steady σ s) : Steady σ (s.setJob n j) := hs.put

theorem Steady.startJob {n tenant tc slot record} (hs : Steady σ s) : Steady σ (s.startJob n tenant tc slot record) := by
  unfold State.startJob
  refine (hs.setJob.ite hs.setJob.put).ite ?_
  split
  · exact hs.setJob
  · exact hs.setJob.put

theorem Steady.jobPutBytes {j tc addr bs} (hs : Steady σ s) : Steady σ (s.jobPutBytes j tc addr bs).2 :=
  hs.writeLocal.ite_snd hs.emit
theorem Steady.flushHeld {n} (hs : Steady σ s) : Steady σ (s.flushHeld n) := hs.put.foldl .respond
theorem Steady.dropInputs {n} (hs : Steady σ s) : Steady σ (s.dropInputs n) := hs.put.foldl .respond

theorem Steady.jobRelinquish {n} (hs : Steady σ s) : Steady σ (s.jobRelinquish n) := by
  unfold State.jobRelinquish
  extract_lets +onlyGivenNames _ _ _ _ _ s2
  have hs2 : Steady σ s2 := by
    unfold s2
    split
    · exact (hs.put.ite hs).put
    · exact hs.put.ite hs
  exact hs2.setJob

theorem Steady.jobEnd {n final st reason} (hs : Steady σ s) : Steady σ (s.jobEnd n final st reason) := by
  unfold State.jobEnd
  extract_lets +onlyGivenNames s1 _ _ _ s3 _ s5
  have hs1 : Steady σ s1 := hs.dropInputs.jobRelinquish
  have hs3 : Steady σ s3 := hs1.setJob.ite hs1.setJob.jobPutBytes
  have hs5 : Steady σ s5 := hs3.notifyAddr.eventOpen
  exact (hs5.emit.ite hs5).flushHeld

theorem Steady.jobFault {n st reason} (hs : Steady σ s) : Steady σ (s.jobFault n st reason) := hs.jobEnd.ite hs
theorem Steady.jobCheck {n} (hs : Steady σ s) : Steady σ (s.jobCheck n) := by
  unfold State.jobCheck; exact hs.jobEnd.ite hs
theorem Steady.jobCtl {k : Nat → State → State} {t : State} {o useLocal} (hs : Steady σ t)
    (hk : ∀ {a0 t}, Steady σ t → Steady σ (k a0 t)) :
    Steady σ (jobCtl o useLocal k t) :=
  hs.respond.ite (hs.respond.ite (hk hs))

theorem Steady.execJobOpen {o} (hs : Steady σ s) : SteadyNext σ (execJobOpen o s) := by
  unfold Machine.execJobOpen
  refine (hs.homeOp fun hu => ?_).next
  refine hu.jobCtl fun hu => hu.respond.ite (hu.respond.ite ?_)
  split
  · exact hu.respond
  · split
    · exact hu.respond
    · split
      · exact hu.respond
      · exact hu.used.startJob.respond

theorem Steady.jobAbort {t : State} {n st} (hs : Steady σ t) : Steady σ (t.jobAbort n st).2 := hs.jobFault.ite_snd hs
theorem Steady.execJobAbort {o} (hs : Steady σ s) : SteadyNext σ (execJobAbort o s) :=
  (hs.homeOp fun hu => hu.jobCtl fun hu => hu.respond.ite hu.jobAbort.respond).next
theorem Steady.execJobRelease {o} (hs : Steady σ s) : SteadyNext σ (execJobRelease o s) :=
  (hs.homeOp fun hu => hu.jobCtl fun hu => hu.respond.ite (hu.respond.ite (hu.respond.ite hu.setJob.respond))).next
theorem Steady.jobAbortWrite {p n} (hs : Steady σ s) : Steady σ (s.jobAbortWrite p n) :=
  (hs.openWrite fun hu => hu).ite (hs.openWrite .jobAbort)

/-! ### Machine/HcuRun.lean -/

theorem Steady.unitRead {n key bytes} (hs : Steady σ s) : Steady σ (s.unitRead n key bytes) := hs.bumpN.meter

theorem Steady.jobOut {n key addr tc fmt chain bs} (hs : Steady σ s) : Steady σ (s.jobOut n key addr tc fmt chain bs) := by
  unfold State.jobOut
  refine hs.ite (hs.bumpN.setJob.setJob.ite ?_)
  refine hs.bumpN.setJob.emit.ite ?_
  extract_lets +onlyGivenNames r
  have hr : Steady σ r.2 := hs.bumpN.setJob.jobPutBytes
  exact hr.ite hr.jobFault

theorem Steady.packedOut {n pos bs} (hs : Steady σ s) : Steady σ (s.packedOut n pos bs) := hs.jobOut

theorem Steady.deliver {n k} (hs : Steady σ s) : Steady σ (s.deliver n k) := by
  unfold State.deliver
  refine .ite ?_ ?_
  · extract_lets +onlyGivenNames _ _ _ s1
    have hs1 : Steady σ s1 := ((hs.bump.ite hs).bump.ite (hs.bump.ite hs)).setJob
    exact (hs1.ite hs1.jobOut).jobOut
  · extract_lets +onlyGivenNames _ s1
    have hs1 : Steady σ s1 := ((hs.bump.ite hs).bump.ite (hs.bump.ite hs)).setJob
    exact hs1.bumpN.setJob.ite hs1.bumpN.emit

theorem Steady.placeRow {n i bs} (hs : Steady σ s) : Steady σ (s.placeRow n i bs) := by
  unfold State.placeRow
  refine (hs.foldl fun hu => hu.packedOut.setJob).ite (hs.foldl fun hu => ?_)
  split
  · exact hu.jobFault
  · exact hu.used.jobOut.setJob.ite hu.used.jobOut.setJob.jobOut

theorem Steady.dispatchTable {n} (hs : Steady σ s) : Steady σ (s.dispatchTable n) := by
  unfold State.dispatchTable
  extract_lets +onlyGivenNames _
  split
  · exact hs.jobFault
  · refine hs.used.foldl fun hu => ?_
    extract_lets +onlyGivenNames _
    split
    · exact hu.jobFault
    · extract_lets +onlyGivenNames _ _ w
      have hw : Steady σ w.2 := hu.used.bumpN.serviceWrite
      exact hw.ite hw.jobFault

theorem Steady.termsUsed {j rec} (hs : Steady σ s) : Steady σ (s.termsUsed j rec) := by
  unfold State.termsUsed
  refine hs.foldl fun hu => hu.ite ?_
  split
  · exact hu
  · exact hu.ite hu.used

theorem Steady.filterRecord {n rec} (hs : Steady σ s) : Steady σ (s.filterRecord n rec) := by
  unfold State.filterRecord
  refine hs.ite ?_
  split
  · exact hs.setJob.termsUsed.jobFault
  · exact hs.setJob.termsUsed
  · exact hs.setJob.termsUsed.setJob.ite (hs.setJob.termsUsed.packedOut.setJob.ite hs.setJob.termsUsed.setJob)

theorem Steady.filterEnd {n} (hs : Steady σ s) : Steady σ (s.filterEnd n) := hs.ite (hs.foldl fun hu => hu.packedOut.setJob)
theorem Steady.rows {n first bs} (hs : Steady σ s) : Steady σ (s.rows n first bs) :=
  hs.foldl fun hu => hu.ite (hu.filterRecord.ite hu.placeRow)

theorem Steady.allRows {n} (hs : Steady σ s) : Steady σ (s.allRows n) := by
  unfold State.allRows
  extract_lets +onlyGivenNames s1
  have hs1 : Steady σ s1 := hs.dispatchTable.ite (hs.filterEnd.ite hs)
  exact hs1.setJob.jobCheck.ite hs1

theorem Steady.streamEnd {n} (hs : Steady σ s) : Steady σ (s.streamEnd n) := by
  unfold State.streamEnd; exact hs.allRows.ite hs
theorem Steady.consume {n x} (hs : Steady σ s) : Steady σ (s.consume n x) := by
  unfold State.consume; exact hs.unitRead.rows

theorem Steady.takePut {n h key late} (hs : Steady σ s) : SteadySome σ (s.takePut n h key late) := by
  unfold State.takePut
  refine .ite .none ?_
  extract_lets +onlyGivenNames _ _ _ s2
  have hs2 : Steady σ s2 := hs.setJob.respond.ite hs.setJob
  exact hs2.put.some.ite (hs2.foldl .consume).streamEnd.some

theorem Steady.unpark {n x} (hs : Steady σ s) : Steady σ (s.unpark n x) := by
  unfold State.unpark
  extract_lets +onlyGivenNames _ _ _ _ s2
  have hs2 : Steady σ s2 := hs.setJob.ite hs.setJob.respond
  exact hs2.put.ite hs2.put.consume.streamEnd

theorem Steady.judgePut {n h} (hs : Steady σ s) : Steady σ (s.judgePut n h) := by
  unfold State.judgePut
  split
  · extract_lets +onlyGivenNames _ _ s2
    have hs2 : Steady σ s2 := (hs.bump.ite hs).respond
    exact hs2.bump.jobFault.ite hs2
  · exact hs.respond.ite (hs.put.ite (hs.put.getD hs.takePut))

theorem Steady.pumpJobN {k n} (hs : Steady σ s) : Steady σ (State.pumpJobN k n s) := by
  induction k generalizing s with
  | zero => exact hs
  | succ k ih =>
    unfold State.pumpJobN
    dsimp only
    split
    · exact ih hs.unpark
    · split
      · exact hs
      · split
        · exact ih hs.put.respond
        · split
          · next u e => exact ih (hs.put.takePut _ e)
          · exact hs

theorem Steady.pumpJob {n} (hs : Steady σ s) : Steady σ (s.pumpJob n) := hs.pumpJobN
theorem Steady.execJobPut {o port} (hs : Steady σ s) : SteadyNext σ (execJobPut o port s) :=
  (hs.homeOp fun hu => hu.respond.ite (hu.respond.ite (hu.respond.ite hu.judgePut))).next

theorem Steady.execHeldJobPutTimeout {job n} (hs : Steady σ s) : SteadyNext σ (execHeldJobPutTimeout job n s) := by
  unfold Machine.execHeldJobPutTimeout
  refine (hs.begin.whenRunning fun hu => ?_).next
  split
  · exact hu
  · exact hu.elapse.put.bump.respond.pumpJob

theorem Steady.execJobIdleTimeout {job} (hs : Steady σ s) : SteadyNext σ (execJobIdleTimeout job s) :=
  (hs.begin.whenRunning fun hu => hu.ite hu.elapse.jobFault).next

theorem Steady.expReady {t : State} {job} (hs : Steady σ t) : Steady σ (t.expReady job) := by
  unfold State.expReady
  refine hs.ite ?_
  split
  · exact hs.jobFault
  · exact hs.used.setJob

theorem Steady.execJobExponentReady {job} (hs : Steady σ s) : SteadyNext σ (execJobExponentReady job s) :=
  (hs.begin.whenRunning .expReady).next

theorem Steady.millstoneSum {n chunk contrib} (hs : Steady σ s) : Steady σ (s.millstoneSum n chunk contrib) := by
  unfold State.millstoneSum
  extract_lets +onlyGivenNames _ _
  split
  · exact hs
  · refine hs.ite ?_
    extract_lets +onlyGivenNames _ _ _ _ s3
    have hs3 : Steady σ s3 := hs.put.setJob.unitRead.arbDrop.ite hs.put.setJob.unitRead
    exact hs3.ite (hs3.deliver.setJob.ite hs3.deliver).pumpJob.jobCheck

theorem Steady.execMillstoneSum {job chunk contrib} (hs : Steady σ s) : SteadyNext σ (execMillstoneSum job chunk contrib s) :=
  (hs.begin.whenRunning .millstoneSum).next
theorem Steady.execJobOutputAck {job r} (hs : Steady σ s) : SteadyNext σ (execJobOutputAck job r s) :=
  (hs.begin.whenRunning fun hu => hu.ite (hu.jobFault.ite hu.setJob.jobCheck)).next

theorem Steady.gatherStart {n} (hs : Steady σ s) : Steady σ (s.gatherStart n) := by
  unfold State.gatherStart
  dsimp only
  split
  · exact hs.jobFault
  · exact hs.used.jobFault.ite (hs.used.setJob.foldl fun hu => hu.packedOut.setJob)

theorem Steady.dispatchStart {n} (hs : Steady σ s) : Steady σ (s.dispatchStart n) := by
  unfold State.dispatchStart
  extract_lets +onlyGivenNames _
  split
  · exact hs.jobFault
  · exact hs.jobFault
  · extract_lets +onlyGivenNames _ _ _ _ w
    have hw : Steady σ w.2 := hs.used.used.openBytes.serviceWrite
    exact hw.jobFault.ite hw.setJob

theorem Steady.memorySource {n} (hs : Steady σ s) : Steady σ (s.memorySource n) := by
  unfold State.memorySource
  extract_lets +onlyGivenNames _ _ s1
  have hs1 : Steady σ s1 := by
    unfold s1
    refine hs.foldl fun hu => hu.ite ?_
    split
    · exact hu.jobFault
    · exact hu.used.unitRead.rows
  exact hs1.allRows

theorem Steady.hcuStart {key} (hs : Steady σ s) : Steady σ (s.hcuStart key) := by
  unfold State.hcuStart
  split
  · exact hs
  · refine hs.ite ?_
    extract_lets +onlyGivenNames _ _ _ _ s3
    have hs3 : Steady σ s3 := hs.put.setJob.gatherStart.ite (hs.put.setJob.dispatchStart.ite hs.put.setJob)
    exact hs3.ite (hs3.pumpJob.streamEnd.ite hs3.memorySource)

theorem Steady.execHcuJobStart {unit} (hs : Steady σ s) : SteadyNext σ (execHcuJobStart unit s) :=
  (hs.begin.whenRunning .hcuStart).next

theorem Steady.execGatherSortDone {job} (hs : Steady σ s) : SteadyNext σ (execGatherSortDone job s) := by
  unfold Machine.execGatherSortDone
  refine (hs.begin.whenRunning fun hu => ?_).next
  refine hu.ite ?_
  extract_lets +onlyGivenNames _ w
  have hw : Steady σ w.2 := hu.openBytes.serviceWrite
  exact hw.jobFault.ite hw.setJob.pumpJob.streamEnd

theorem Steady.hcuLose {key st reason} (hs : Steady σ s) : Steady σ (s.hcuLose key st reason) := hs.foldl .jobFault

/-! ### Machine/Security.lean -/

theorem Steady.setTenant {t x} (hs : Steady σ s) : Steady σ (s.setTenant t x) := hs.put
theorem Steady.setCrypt {p c} (hs : Steady σ s) : Steady σ (s.setCrypt p c) := hs.put
theorem Steady.setBank {b x} (hs : Steady σ s) : Steady σ (s.setBank b x) := hs.put
theorem Steady.setKey {slot k} (hs : Steady σ s) : Steady σ (s.setKey slot k) := hs.put

theorem Steady.destroyKey {slot} (hs : Steady σ s) : Steady σ (s.destroyKey slot) := by
  unfold State.destroyKey
  split
  · exact hs
  · exact hs.setKey.eventOpen

theorem Steady.destroyKeys {p} (hs : Steady σ s) : Steady σ (s.destroyKeys p) := hs.foldl .destroyKey
theorem Steady.keyCheck (hs : Steady σ s) : Steady σ s.keyCheck := hs.destroyKeys
theorem Steady.measurementsUpdated (hs : Steady σ s) : Steady σ s.measurementsUpdated := hs.keyCheck.put
theorem Steady.tenantWrite {a t enable requireEnc} (hs : Steady σ s) : Steady σ (s.tenantWrite a t enable requireEnc) :=
  (hs.setTenant.ite hs).mgmtWrite fun hu => hu.setTenant.keyCheck.ite hu.setTenant.keyCheck.destroyKeys
theorem Steady.execTenantEnable {a t requireEnc} (hs : Steady σ s) : SteadyNext σ (execTenantEnable a t requireEnc s) :=
  (hs.begin.whenRunning .tenantWrite).next
theorem Steady.execTenantDisable {a t requireEnc} (hs : Steady σ s) : SteadyNext σ (execTenantDisable a t requireEnc s) :=
  (hs.begin.whenRunning .tenantWrite).next
theorem Steady.zeroClusterSram {c} (hs : Steady σ s) : Steady σ (s.zeroClusterSram c) := hs.sramZero.sramZero
theorem Steady.zeroClusterRegs {c} (hs : Steady σ s) : Steady σ (s.zeroClusterRegs c) := hs.foldl .put
theorem Steady.clusterGive {c owner} (hs : Steady σ s) : Steady σ (s.clusterGive c owner) :=
  hs.zeroClusterSram.zeroClusterRegs.setUnit.put.foldl .setQueue
theorem Steady.clusterOwnerWrite {i w v} (hs : Steady σ s) : Steady σ (s.clusterOwnerWrite i w v) :=
  hs.mgmtWrite fun hu => hu.foldl .clusterGive
theorem Steady.execClusterOwnerWrite {i w v} (hs : Steady σ s) : SteadyNext σ (execClusterOwnerWrite i w v s) :=
  (hs.begin.whenRunning .clusterOwnerWrite).next

theorem Steady.execClusterClearComplete {cluster} (hs : Steady σ s) : SteadyNext σ (execClusterClearComplete cluster s) := by
  unfold Machine.execClusterClearComplete
  refine (hs.begin.whenRunning fun hu => ?_).next
  split
  · exact hu
  · exact hu.put.setUnit.clearRecord

theorem Steady.portBindWrite {i p v} (hs : Steady σ s) : Steady σ (s.portBindWrite i p v) :=
  hs.mgmtWrite fun hu => hu.put.keyCheck
theorem Steady.execPortBindWrite {i port v} (hs : Steady σ s) : SteadyNext σ (execPortBindWrite i port v s) :=
  (hs.begin.whenRunning .portBindWrite).next
theorem Steady.assignDo {sync first count owner} (hs : Steady σ s) : Steady σ (s.assignDo sync first count owner) :=
  hs.foldl fun hu => (hu.ite hu.setSync).ite (hu.ite hu.setQueue)
theorem Steady.secAssign {i v} (hs : Steady σ s) : Steady σ (s.secAssign i v) := hs.mgmtWrite .assignDo
theorem Steady.execSecAssign {i v} (hs : Steady σ s) : SteadyNext σ (execSecAssign i v s) :=
  (hs.begin.whenRunning .secAssign).next

theorem Steady.keyDestroy {session slot} (hs : Steady σ s) : Steady σ (s.keyDestroy session slot).2 := by
  unfold State.keyDestroy
  split
  · exact hs
  · exact hs.destroyKey.ite_snd hs

theorem Steady.execKeyDestroy {session slot} (hs : Steady σ s) : SteadyNext σ (execKeyDestroy session slot s) :=
  (hs.begin.whenRunning fun hu => hu.keyDestroy.answer).next

theorem Steady.spdmAnswer {port r} (hs : Steady σ s) : Steady σ (s.spdmAnswer port r).2.2 := by
  unfold State.spdmAnswer
  dsimp only
  split
  · exact hs
  · exact hs
  · exact hs.ite_snd_snd hs.put
  · exact hs.put.ite_snd_snd hs
  · exact hs.put.ite_snd_snd hs
  · exact hs
  · exact hs.ite_snd_snd hs
  · exact hs
  · exact hs.ite_snd_snd hs
  · exact hs.ite_snd_snd hs
  · exact hs.keyDestroy
  · exact hs

theorem Steady.spdm {port r} (hs : Steady σ s) : Steady σ (s.spdm port r) := by
  unfold State.spdm; exact hs.spdmAnswer.emit.put
theorem Steady.execSpdmMessage {port r} (hs : Steady σ s) : SteadyNext σ (execSpdmMessage port r s) :=
  (hs.begin.whenRunning .spdm).next

theorem Steady.keyRelease {session b} (hs : Steady σ s) : Steady σ (s.keyRelease session b) := by
  unfold State.keyRelease
  split
  · exact (hs.free.eventOpen.ite hs).answer
  · exact hs.free.setKey.answer

theorem Steady.execKeyRelease {session payload} (hs : Steady σ s) : SteadyNext σ (execKeyRelease session payload s) :=
  (hs.begin.whenRunning .keyRelease).next

theorem Steady.decryptDo {o} (hs : Steady σ s) : Steady σ (s.decryptDo o) := by
  unfold State.decryptDo
  extract_lets +onlyGivenNames _ _ _
  split
  · extract_lets +onlyGivenNames _ _ s1
    have hs1 : Steady σ s1 := (hs.setPart.ite hs).ckptKeep.touchRange.meter
    refine hs1.used.respond.ite ?_
    split <;> exact hs1.used.poolWrite.respond
  · exact hs

theorem Steady.execMkDecrypt {o} (hs : Steady σ s) : SteadyNext σ (execMkDecrypt o s) := by
  unfold Machine.execMkDecrypt
  refine (hs.unitOp fun hu => ?_).next
  split
  · exact hu.respond
  · exact hu.decryptDo

theorem Steady.firmwareEnd {p st refused} (hs : Steady σ s) : Steady σ (s.firmwareEnd p st refused) :=
  hs.takeArm.put.free.eventOpen.answer
theorem Steady.firmwareVerify {p} (hs : Steady σ s) : Steady σ (s.firmwareVerify p) :=
  hs.setBank.firmwareEnd.ite hs.setBank.firmwareEnd
theorem Steady.whenManaged {f : State → State} (hs : Steady σ s) (hf : ∀ {t}, Steady σ t → Steady σ (f t)) :
    Steady σ (s.whenManaged f) :=
  (hf hs).ite hs
theorem Steady.execVerify {p} (hs : Steady σ s) : SteadyNext σ (execVerify p s) := (hs.begin.whenManaged .firmwareVerify).next
theorem Steady.firmwareActivate {p} (hs : Steady σ s) : Steady σ (s.firmwareActivate p) := hs.put.firmwareEnd.ite hs.firmwareEnd
theorem Steady.execActivate {p} (hs : Steady σ s) : SteadyNext σ (execActivate p s) :=
  (hs.begin.whenManaged .firmwareActivate).next

theorem Steady.firmwareCommit {p burn} (hs : Steady σ s) : Steady σ (s.firmwareCommit p burn) := by
  unfold State.firmwareCommit
  refine hs.firmwareEnd.ite ?_
  split
  · exact hs.put.keyCheck.firmwareEnd
  · exact hs.fault.firmwareEnd

theorem Steady.execCommit {p burn} (hs : Steady σ s) : SteadyNext σ (execCommit p burn s) :=
  (hs.begin.whenRunning .firmwareCommit).next

theorem Steady.firmwareAbort {p} (hs : Steady σ s) : Steady σ (s.firmwareAbort p) := by
  unfold State.firmwareAbort
  split
  · exact hs.firmwareEnd
  · exact hs.put.firmwareEnd

theorem Steady.execAbort {p} (hs : Steady σ s) : SteadyNext σ (execAbort p s) := (hs.begin.whenRunning .firmwareAbort).next

/-! ### Machine/PlanImage.lean -/

theorem Steady.setUnits {base ns slot} (hs : Steady σ s) : Steady σ (s.setUnits base ns slot) := hs.put

theorem Steady.takeClaim {slot c} (hs : Steady σ s) : Steady σ (s.takeClaim slot c) := by
  unfold State.takeClaim
  dsimp only
  split
  · exact hs.put
  · exact (hs.foldl .setQueue).ite hs
  · exact hs.foldl .setSync
  · exact hs.dropMoves.setPart
  · exact hs.setGate
  · exact hs.put
  · exact (hs.foldl .hcuLose).setUnits
  · exact hs.setUnits
  · exact hs.setUnits
  · exact hs.put
  · exact hs

theorem Steady.dropClaim {slot c} (hs : Steady σ s) : Steady σ (s.dropClaim slot c) := by
  unfold State.dropClaim
  dsimp only
  split
  · exact hs.put
  · exact (hs.foldl .setQueue).ite hs
  · exact hs.foldl .setSync
  · exact hs.setPart
  · exact hs.gateDefault.setGate
  · exact hs.put
  · exact hs.setUnits
  · exact hs.setUnits
  · exact hs.setUnits
  · exact hs.put
  · exact hs

theorem Steady.takeClaims {slot i l n} (hs : Steady σ s) : SteadyOk σ (State.takeClaims slot i l n s) := by
  induction l generalizing s n with
  | nil => exact hs.ok
  | cons c t ih =>
    unfold State.takeClaims
    split
    · exact .error
    · exact ih hs.takeClaim

/-! ### Machine/Plans.lean -/

theorem Steady.setSlot {n x} (hs : Steady σ s) : Steady σ (s.setSlot n x) := hs.put
theorem Steady.planEvent {n st} (hs : Steady σ s) : Steady σ (s.planEvent n st) := hs.eventOpen
theorem Steady.planOutcome {n st} (hs : Steady σ s) : Steady σ (s.planOutcome n st) := hs.setSlot.planEvent
theorem Steady.planCommand {eff : State → State} {a n c more} (hs : Steady σ s) (heff : ∀ {t}, Steady σ t → Steady σ (eff t)) :
    Steady σ (s.planCommand a n c more eff) :=
  hs.openWrite heff
theorem Steady.loadFails {n st section_ claim} (hs : Steady σ s) : Steady σ (s.loadFails n st section_ claim) :=
  hs.setNum.setNum.setNum.planOutcome
theorem Steady.openPlanJobs {n i} (hs : Steady σ s) : Steady σ (s.openPlanJobs n i) := hs.foldl .startJob

theorem Steady.planLoad {n} (hs : Steady σ s) : Steady σ (s.planLoad n) := by
  unfold State.planLoad
  split
  · exact hs.loadFails
  · split
    · exact hs.loadFails
    · split
      · exact hs.loadFails
      · refine hs.loadFails.ite ?_
        split
        · exact hs.loadFails
        · dsimp only
          split
          · exact hs.loadFails
          · next u e =>
            have hu : Steady σ u := hs.takeClaims _ e
            exact hu.used.setSlot.put.openPlanJobs

theorem Steady.execPlanLoad {p slot} (hs : Steady σ s) : SteadyNext σ (execPlanLoad p slot s) :=
  (hs.begin.whenRunning fun hu => hu.planCommand .planLoad).next

theorem Steady.copyProgram {n i} (hs : Steady σ s) : SteadyOk σ (s.copyProgram n i) := by
  unfold State.copyProgram
  refine hs.ok.ite ?_
  split
  · exact .error
  · extract_lets +onlyGivenNames _ t
    have ht : Steady σ t := by
      unfold t
      refine hs.used.foldl fun hu => ?_
      split
      · exact hu.sramWrite
      · exact hu
    exact ht.setSlot.ok

theorem Steady.loadGates {i} (hs : Steady σ s) : Steady σ (s.loadGates i) := hs.foldl .setGateEntry
theorem Steady.planEmpty {n i} (hs : Steady σ s) : Steady σ (s.planEmpty n i) :=
  ((hs.foldl fun hu => hu.dropInputs.setJob).foldl .dropClaim).put.put.setSlot

theorem Steady.execPlanLoadCopyDone {slot st} (hs : Steady σ s) : SteadyNext σ (execPlanLoadCopyDone slot st s) := by
  unfold Machine.execPlanLoadCopyDone
  refine (hs.begin.whenRunning fun hu => ?_).next
  dsimp only
  split
  · exact hu
  · refine hu.ite ?_
    split
    · exact hu.planEmpty.loadFails
    · next u e =>
      have hu : Steady σ u := (hu.copyProgram.ite .error) _ e
      exact hu.loadGates.setSlot.setNum.loadFails

theorem Steady.execClusterDrained {cluster} (hs : Steady σ s) : SteadyNext σ (execClusterDrained cluster s) := by
  unfold Machine.execClusterDrained
  refine (hs.begin.whenRunning fun hu => ?_).next
  split
  · exact hu
  · exact hu.ite hu.setSlot

theorem Steady.knowHalt {n h} (hs : Steady σ s) : Steady σ (s.knowHalt n h) := by
  unfold State.knowHalt
  dsimp only
  split
  · exact hs
  · split
    · exact hs
    · exact hs.setSlot

theorem Steady.issueHalt {n cause byRotation injected} (hs : Steady σ s) :
    Steady σ (s.issueHalt n cause byRotation injected) := by
  unfold State.issueHalt
  dsimp only
  split
  · exact hs
  · exact hs.ite (hs.setSlot.knowHalt.foldl .emit)

theorem Steady.stopFlorets {n} (hs : Steady σ s) : Steady σ (s.stopFlorets n) := by
  unfold State.stopFlorets; exact hs.put
theorem Steady.slotGates {f : State → Nat → State} {n} (hs : Steady σ s) (hf : ∀ {t a0}, Steady σ t → Steady σ (f t a0)) :
    Steady σ (s.slotGates n f) :=
  hs.foldl fun hu => hf hu
theorem Steady.planClocks {i on} (hs : Steady σ s) : Steady σ (s.planClocks i on) := hs.foldl .setClusterClock

theorem Steady.planStop {n cause faulted} (hs : Steady σ s) : Steady σ (s.planStop n cause faulted) := by
  unfold State.planStop
  dsimp only
  split
  · exact hs
  · exact (hs.setSlot.setNum.setNum.setNum.stopFlorets.slotGates .setGate).planClocks.planEvent

theorem Steady.haltEffect {n} (hs : Steady σ s) : Steady σ (s.haltEffect n) := by
  unfold State.haltEffect
  dsimp only
  split
  · exact hs
  · split
    · exact hs
    · exact hs.planStop

theorem Steady.planContain {n cause} (hs : Steady σ s) : Steady σ (s.planContain n cause) := hs.issueHalt.planStop.ite hs

theorem Steady.memberArm {planId start resume} (hs : Steady σ s) : Steady σ (s.memberArm planId start resume).2 := by
  unfold State.memberArm
  refine hs.ite_snd ?_
  dsimp only
  split
  · exact hs.setSlot.planClocks
  · exact hs.setSlot

theorem Steady.memberDisarm {planId} (hs : Steady σ s) : Steady σ (s.memberDisarm planId) := by
  unfold State.memberDisarm
  split
  · exact hs
  · dsimp only
    split
    · exact hs
    · exact hs.ite hs.setSlot.planClocks

theorem Steady.disarmAll {i} (hs : Steady σ s) : Steady σ (s.disarmAll i) := hs.foldl fun hu => hu.memberDisarm.ite hu.emit

theorem Steady.armAll {n resume} (hs : Steady σ s) : Steady σ (s.armAll n resume) := by
  unfold State.armAll
  split
  · exact hs
  · exact hs.setSlot.foldl fun hu => hu.memberArm.setSlot.ite hu.emit

theorem Steady.execPlanArm {p slot} (hs : Steady σ s) : SteadyNext σ (execPlanArm p slot s) :=
  (hs.begin.whenRunning fun hu => hu.planCommand .armAll).next
theorem Steady.execPlanResume {p slot} (hs : Steady σ s) : SteadyNext σ (execPlanResume p slot s) :=
  (hs.begin.whenRunning fun hu => hu.planCommand .armAll).next
theorem Steady.execArmRequest {planId start fromNode resume} (hs : Steady σ s) :
    SteadyNext σ (execArmRequest planId start fromNode resume s) :=
  (hs.begin.whenRunning fun hu => hu.memberArm.emit).next

theorem Steady.execArmReply {planId member st} (hs : Steady σ s) : SteadyNext σ (execArmReply planId member st s) := by
  unfold Machine.execArmReply
  refine (hs.begin.whenRunning fun hu => ?_).next
  split
  · exact hu
  · exact hu.setSlot.ite hu

theorem Steady.armDecide {t : State} {n} (hs : Steady σ t) : Steady σ (t.armDecide n) := by
  unfold State.armDecide
  dsimp only
  split
  · exact hs
  · refine hs.ite ?_
    split
    · exact hs.atFtc.setNum.setNum.planOutcome
    · exact hs.atFtc.disarmAll.setNum.setNum.planOutcome

theorem Steady.planDisarm {a n} (hs : Steady σ s) : Steady σ (s.planDisarm a n) := by
  unfold State.planDisarm
  refine hs.planCommand fun hu => ?_
  split
  · exact hu
  · exact hu.disarmAll.planOutcome

theorem Steady.execPlanStart {slot} (hs : Steady σ s) : SteadyNext σ (execPlanStart slot s) :=
  (hs.begin.whenRunning fun hu => hu.ite hu.atFtc.setSlot).next
theorem Steady.planHalt {a n boundary} (hs : Steady σ s) : Steady σ (s.planHalt a n boundary) :=
  hs.planCommand fun hu => hu.issueHalt.planOutcome
theorem Steady.execPlanHaltBoundary {a slot} (hs : Steady σ s) : SteadyNext σ (execPlanHaltBoundary a slot s) :=
  (hs.begin.whenRunning .planHalt).next
theorem Steady.execPlanHaltNow {a slot} (hs : Steady σ s) : SteadyNext σ (execPlanHaltNow a slot s) :=
  (hs.begin.whenRunning .planHalt).next
theorem Steady.zeroPlanRegs {i} (hs : Steady σ s) : Steady σ (s.zeroPlanRegs i) := hs.foldl .zeroClusterRegs

theorem Steady.planReset {t : State} {n} (hs : Steady σ t) : Steady σ (t.planReset n) := by
  unfold State.planReset
  split
  · exact hs
  · split
    · exact hs.planOutcome
    · next u e =>
      have hu : Steady σ u := hs.copyProgram _ e
      exact (hu.zeroPlanRegs.setSlot.foldl fun hu => hu.dropInputs.jobRelinquish.startJob).planOutcome

theorem Steady.execPlanReset {p slot} (hs : Steady σ s) : SteadyNext σ (execPlanReset p slot s) :=
  (hs.begin.whenRunning fun hu => hu.planCommand .planReset).next

theorem Steady.execPlanUnload {p slot} (hs : Steady σ s) : SteadyNext σ (execPlanUnload p slot s) := by
  unfold Machine.execPlanUnload
  refine (hs.begin.whenRunning fun hu => ?_).next
  refine hu.planCommand fun hu => ?_
  split
  · exact hu
  · exact hu.planEmpty.planOutcome

theorem Steady.exchangeData {n i d} (hs : Steady σ s) : Steady σ (s.exchangeData n i d).2 := by
  unfold State.exchangeData
  refine .ite_snd ?_ ?_
  · dsimp only
    split
    · exact hs
    · exact hs.setJob
  · refine .ite_snd ?_ ?_
    · split
      · exact hs.used
      · exact hs.issueHalt.ite hs
    · refine .ite_snd ?_ hs
      split <;> exact hs

theorem Steady.departures {n i t} (hs : Steady σ s) : Steady σ (s.departures n i t) := by
  unfold State.departures
  refine hs.foldl fun hu => hu.ite ?_
  split
  · exact hu
  · refine hu.ite ?_
    extract_lets +onlyGivenNames _
    split
    · exact hu.exchangeData
    · extract_lets +onlyGivenNames v
      have hv : Steady σ v := hu.exchangeData.emit.ite hu.exchangeData
      exact hv.setSlot.ite hv

theorem Steady.planInput {i d tick bs} (hs : Steady σ s) : SteadySome σ (s.planInput i d tick bs) := by
  unfold State.planInput
  refine .ite .none ?_
  split
  · exact (hs.bump.jobFault.ite hs).some
  · exact hs.takePut

theorem Steady.latch {n i d tick bs} (hs : Steady σ s) : SteadySome σ (s.latch n i d tick bs) := by
  unfold State.latch
  refine hs.planInput.ite ((hs.serviceWrite.issueHalt.ite hs.serviceWrite).some.ite ?_)
  refine .ite ?_ hs.emit.some
  split
  · exact hs.some
  · exact hs.sramWrite.some

theorem Steady.exchangeEffect {n i k d rot tick slack} (hs : Steady σ s) :
    Steady σ (s.exchangeEffect n i k d rot tick slack) := by
  unfold State.exchangeEffect
  dsimp only
  split
  · exact hs.bump.issueHalt
  · refine hs.setSlot.bump.issueHalt.ite ?_
    split
    · exact hs.setSlot.bump.issueHalt
    · next u e =>
      have hu : Steady σ u := hs.setSlot.latch _ e
      exact hu.bump.ite (hu.bump.ite hu)

theorem Steady.startEntry {n c k} (hs : Steady σ s) : Steady σ (s.startEntry n c k) := hs.issueHalt.ite (hs.foldl .put)

theorem Steady.entryEffect {n i k e t tick slacks} (hs : Steady σ s) : Steady σ (s.entryEffect n i k e t tick slacks) := by
  unfold State.entryEffect
  split
  · split
    · exact hs
    · exact hs.exchangeEffect.ite hs
  · exact hs.activate
  · exact hs.startEntry
  · exact hs.syncUpdate.ite hs
  · split
    · exact hs
    · exact hs.prefetchLayer
  · exact hs.setNum

theorem Steady.performTick {n i tick slacks} (hs : Steady σ s) : Steady σ (s.performTick n i tick slacks) :=
  (hs.foldl fun hu => hu.entryEffect.ite hu).departures

theorem Steady.slipIssue {n tick injected} (hs : Steady σ s) : Steady σ (s.slipIssue n tick injected) := by
  unfold State.slipIssue
  dsimp only
  split
  · exact hs
  · exact hs.ite (hs.setSlot.foldl .emit)

theorem Steady.quantumEnds {n} (hs : Steady σ s) : Steady σ (s.quantumEnds n) := by
  unfold State.quantumEnds
  dsimp only
  split
  · exact hs
  · exact hs.setSlot.slotGates .setGate

theorem Steady.planStep {n slacks} (hs : Steady σ s) : Steady σ (s.planStep n slacks) := by
  unfold State.planStep
  dsimp only
  split
  · exact hs
  · refine hs.ite (hs.ite (hs.atTick.setSlot.haltEffect.ite ?_))
    generalize hu : (if (s.slot n).remaining = 0 then _ else _ : State) = u
    have hu : Steady σ u := hu ▸ hs.atTick.setSlot.quantumEnds.ite hs.atTick.setSlot
    split
    · exact hu.setSlot.haltEffect.ite (hu.setSlot.bump.bump.setNum.setNum.setNum.slotGates .setGate).slipIssue
    · exact hu.setSlot.slipIssue.ite hu.setSlot.performTick.setSlot.slipIssue

theorem Steady.lateReport {t : State} {n cause ticks origin injected} (hs : Steady σ t) :
    Steady σ (t.lateReport n cause ticks origin injected) :=
  hs.ite hs.setSlot.slipIssue
theorem Steady.execLatenessReport {slot cause ticks origin} (hs : Steady σ s) :
    SteadyNext σ (execLatenessReport slot cause ticks origin s) :=
  (hs.begin.whenRunning .lateReport).next

theorem Steady.slipArrives {t : State} {port k} (hs : Steady σ t) : Steady σ (t.slipArrives port k) := by
  unfold State.slipArrives
  split
  · exact hs
  · dsimp only
    split
    · exact hs
    · refine hs.ite ((hs.setSlot.foldl .emit).ite ?_)
      exact (hs.setSlot.foldl .emit).bump.issueHalt.ite ((hs.setSlot.foldl .emit).ite (hs.setSlot.foldl .emit).setSlot)

theorem Steady.execSlipToken {port k} (hs : Steady σ s) : SteadyNext σ (execSlipToken port k s) :=
  (hs.begin.whenRunning .slipArrives).next

theorem Steady.haltArrives {t : State} {port h} (hs : Steady σ t) : Steady σ (t.haltArrives port h) := by
  unfold State.haltArrives
  split
  · exact hs
  · extract_lets +onlyGivenNames _
    split
    · exact hs
    · refine hs.ite ((hs.setSlot.foldl .emit).ite ?_)
      extract_lets +onlyGivenNames t3
      have ht3 : Steady σ t3 := (hs.setSlot.foldl .emit).knowHalt
      exact ht3.haltEffect.setNum.ite ht3

theorem Steady.staticArrival {n target bs} (hs : Steady σ s) : Steady σ (s.staticArrival n target bs) := by
  unfold State.staticArrival
  dsimp only
  split
  · exact hs
  · split
    · exact hs
    · exact hs.setSlot

theorem Steady.setLock {l} (hs : Steady σ s) : Steady σ (s.setLock l) := hs.put
theorem Steady.timeLost (hs : Steady σ s) : Steady σ s.timeLost := hs.setLock.bump32.foldl .planContain

theorem Steady.chooseParent (hs : Steady σ s) : Steady σ s.chooseParent := by
  unfold State.chooseParent
  refine hs.setNum.setNum.setLock.ite ?_
  split
  · exact hs.setNum.setNum.setLock.ite hs.setNum.setNum
  · extract_lets +onlyGivenNames _ s1
    have hs1 : Steady σ s1 := hs.ite hs.setNum.setNum
    exact hs1.ite hs1.setLock.put

theorem Steady.execTimeSyncInterval (hs : Steady σ s) : SteadyNext σ (execTimeSyncInterval s) :=
  (hs.begin.whenRunning fun hu => (hu.elapse.put.setLock.ite hu.elapse.put).chooseParent.foldl .emit).next

theorem Steady.timeHeard {t : State} {p txFtc echoTx echoRx arrival} (hs : Steady σ t) :
    Steady σ (t.timeHeard p txFtc echoTx echoRx arrival) := by
  unfold State.timeHeard
  refine hs.put.setNum.ite (hs.put.setNum.put.ite ?_)
  dsimp only
  split
  · exact hs.put.setNum.setNum.put.setLock.ite hs.put.setNum.setNum.put
  · exact hs.put.setNum.setNum.put.setLock.ite hs.put.setNum.setNum.put
  · exact hs.put.setNum.setNum.put.setLock.ite hs.put.setNum.setNum.put
  · exact hs.put.setNum.setNum.put

theorem Steady.execTimeFlit {port txFtc echoTx echoRx arrival} (hs : Steady σ s) :
    SteadyNext σ (execTimeFlit port txFtc echoTx echoRx arrival s) :=
  (hs.begin.whenRunning fun hu => hu.timeHeard.ite hu).next
theorem Steady.ftcSet {p v} (hs : Steady σ s) : Steady σ (s.ftcSet p v) := by
  unfold State.ftcSet; exact hs.openWrite .put
theorem Steady.execFtcSet {p v} (hs : Steady σ s) : SteadyNext σ (execFtcSet p v s) := (hs.begin.whenRunning .ftcSet).next

/-! ### Machine/Contain.lean -/

theorem Steady.setStates {us st} (hs : Steady σ s) : Steady σ (s.setStates us st) := hs.foldl .setUnit
theorem Steady.startContain {l} (hs : Steady σ s) : Steady σ (s.startContain l) := hs.ite hs.setStates.put

theorem Steady.containUnit {l code arg} (hs : Steady σ s) : Steady σ (s.containUnit l code arg) := by
  unfold State.containUnit
  refine hs.fault.ite ?_
  split
  · exact hs.fault.startContain
  · exact hs.fault.put.issueHalt

/-! ### Machine/Queues.lean -/

theorem Steady.touchQueue {q} (hs : Steady σ s) : Steady σ (s.touchQueue q) := by
  unfold State.touchQueue
  extract_lets +onlyGivenNames _ s1 lru out
  have hs1 : Steady σ s1 := hs.ite hs.setQueue.bump
  cases out with
  | none => exact hs1.put
  | some => exact hs1.setQueue.put

theorem Steady.putBytes {tenant tc a bs} (hs : Steady σ s) : Steady σ (s.putBytes tenant tc a bs) := hs.writeLocal.ite hs.emit
theorem Steady.putEntry {cq f posted} (hs : Steady σ s) : Steady σ (s.putEntry cq f posted) := hs.putBytes.setQueue.emit

theorem Steady.finishItem {q item r} (hs : Steady σ s) : Steady σ (s.finishItem q item r) := by
  unfold State.finishItem
  dsimp only
  split
  · exact hs
  · exact hs.setQueue

theorem Steady.commitWrite {q v} (hs : Steady σ s) : Steady σ (s.commitWrite q v).2 := by
  unfold State.commitWrite
  refine hs.touchQueue.ite_snd (hs.touchQueue.setQueue.ite_snd ?_)
  refine hs.touchQueue.ite_snd (hs.touchQueue.ite_snd ?_)
  exact (hs.touchQueue.ite_snd hs.touchQueue.setQueue).ite_snd (hs.touchQueue.ite_snd hs.touchQueue.setQueue)

theorem Steady.enableQueue {q} (hs : Steady σ s) : Steady σ (s.enableQueue q).2 := by
  unfold State.enableQueue
  dsimp only
  split
  · exact hs.setQueue.ite hs
  · exact (hs.setQueue.ite hs.setQueue.setQueue).ite_snd hs
  · exact hs

theorem Steady.disableQueue {q} (hs : Steady σ s) : Steady σ (s.disableQueue q).2 := hs.ite_snd hs.setQueue
theorem Steady.reserve {c n} (hs : Steady σ s) : Steady σ (s.reserve c n) := hs.ite hs.setQueue
theorem Steady.flushQueue {q} (hs : Steady σ s) : Steady σ (s.flushQueue q).2 :=
  hs.setQueue.ite_snd (hs.setQueue.reserve.foldl .endWait)
theorem Steady.clearStickyQueue {q} (hs : Steady σ s) : Steady σ (s.clearStickyQueue q).2 := hs.setQueue

theorem Steady.controlWrite {q v} (hs : Steady σ s) : Steady σ (s.controlWrite q v).2 := by
  unfold State.controlWrite
  dsimp only
  split
  · exact hs.touchQueue.enableQueue
  · exact hs.touchQueue.disableQueue
  · exact hs.touchQueue.flushQueue
  · exact hs.touchQueue.clearStickyQueue
  · exact hs.touchQueue

theorem Steady.contextWrite {q word v} (hs : Steady σ s) : Steady σ (s.contextWrite q word v).2 := by
  unfold State.contextWrite
  refine hs.ite_snd (hs.ite_snd ?_)
  refine hs.ite_snd ?_
  split
  · exact hs.setQueue
  · exact hs.setQueue
  · exact hs.ite_snd hs.setQueue
  · exact hs

theorem Steady.queueWrite {f : State → Response × State} {i q} (hs : Steady σ s) (hf : ∀ {t}, Steady σ t → Steady σ (f t).2) :
    SteadyNext σ (s.queueWrite i q f) :=
  (hs.begin.whenRunning fun hu => hu.answer.ite (hf hu).answer).next
theorem Steady.execQdbCommit {i q v} (hs : Steady σ s) : SteadyNext σ (execQdbCommit i q v s) := hs.queueWrite .commitWrite
theorem Steady.execQueueEnable {i q} (hs : Steady σ s) : SteadyNext σ (execQueueEnable i q s) := hs.queueWrite .controlWrite
theorem Steady.execQueueDisable {i q} (hs : Steady σ s) : SteadyNext σ (execQueueDisable i q s) := hs.queueWrite .controlWrite
theorem Steady.execQueueFlush {i q} (hs : Steady σ s) : SteadyNext σ (execQueueFlush i q s) := hs.queueWrite .controlWrite
theorem Steady.execClearSticky {i q} (hs : Steady σ s) : SteadyNext σ (execClearSticky i q s) := hs.queueWrite .controlWrite
theorem Steady.execQueueContextPut {i q word v} (hs : Steady σ s) : SteadyNext σ (execQueueContextPut i q word v s) :=
  hs.queueWrite .contextWrite
theorem Steady.execQueueDisableDrained {q} (hs : Steady σ s) : SteadyNext σ (execQueueDisableDrained q s) :=
  (hs.begin.whenRunning fun hu => hu.setQueue.ite hu).next
theorem Steady.execQueueFlushEnd {q} (hs : Steady σ s) : SteadyNext σ (execQueueFlushEnd q s) :=
  (hs.begin.whenRunning fun hu => hu.setQueue.ite hu).next
theorem Steady.refuseItem {q o st nonPosted} (hs : Steady σ s) : Steady σ (s.refuseItem q o st nonPosted) := hs.setQueue.reserve
theorem Steady.issueOp {o} (hs : Steady σ s) : Steady σ (s.issueOp o) :=
  ((hs.countIssued.ite hs).ite (hs.countIssued.ite hs).openOp).emit
theorem Steady.ringFails {q st} (hs : Steady σ s) : Steady σ (s.ringFails q st) := hs.setQueue.reserve

theorem Steady.startItem {q remote} (hs : Steady σ s) : Steady σ (s.startItem q remote) := by
  unfold State.startItem
  refine hs.ite ?_
  split
  · exact hs.ringFails.ite hs
  · refine (hs.refuseItem.ite hs).ite (hs.refuseItem.ite ?_)
    split
    · exact hs.refuseItem.ite hs
    · refine hs.ite (hs.ite ?_)
      refine hs.fetchUsed.setQueue.reserve.emit.ite ?_
      split
      · exact hs.refuseItem.ite hs
      · exact hs.fetchUsed.fetchUsed.setQueue.issueOp.ite hs.fetchUsed.fetchUsed.setQueue.reserve.issueOp

theorem Steady.execItemStart {q remote} (hs : Steady σ s) : SteadyNext σ (execItemStart q remote s) :=
  (hs.begin.whenRunning .startItem).next

theorem Steady.writeNext {q} (hs : Steady σ s) : Steady σ (s.writeNext q) := by
  unfold State.writeNext
  dsimp only
  split
  · exact hs
  · refine hs.setQueue.ite (hs.ite ?_)
    split
    · exact hs.setQueue.setQueue
    · exact hs.setQueue.setQueue.putEntry

theorem Steady.execQueueRingReadFail {q st} (hs : Steady σ s) : SteadyNext σ (execQueueRingReadFail q st s) :=
  (hs.begin.whenRunning fun hu => hu.ringFails.ite hu).next

theorem Steady.postedFails {i pseq r} (hs : Steady σ s) : Steady σ (s.postedFails i pseq r) := by
  unfold State.postedFails
  split
  · exact hs
  · refine hs.closeOp.wake.bump.ite ?_
    extract_lets +onlyGivenNames s1 _
    have hs1 : Steady σ s1 := hs.setSticky.closeOp.wake
    split
    · dsimp only
      split
      · exact hs1.setQueue
      · exact hs1.setQueue.ite hs1.putEntry
    · split
      · exact hs1.emit.ite hs1.bump
      · exact hs1

theorem Steady.execPostedFailureReport {i pseq r} (hs : Steady σ s) : SteadyNext σ (execPostedFailureReport i pseq r s) :=
  (hs.begin.whenRunning fun hu => hu.ite hu.postedFails).next

theorem Steady.execPostedTimeout {i pseq} (hs : Steady σ s) : SteadyNext σ (execPostedTimeout i pseq s) := by
  unfold Machine.execPostedTimeout
  refine (hs.begin.whenRunning fun hu => ?_).next
  split
  · exact hu
  · exact hu.elapse.postedFails

/-! ### Machine/Tasks.lean -/

theorem Steady.setFloret {f x} (hs : Steady σ s) : Steady σ (s.setFloret f x) := hs.put
theorem Steady.setItem {x} (hs : Steady σ s) : Steady σ (s.setItem x) := hs.put
theorem Steady.setTasks {c l} (hs : Steady σ s) : Steady σ (s.setTasks c l) := hs.put
theorem Steady.countUnit {l st} (hs : Steady σ s) : Steady σ (s.countUnit l st) := hs.bump.ite hs.bump.bump

theorem Steady.releaseStaged {id o} (hs : Steady σ s) : Steady σ (s.releaseStaged id o) := by
  unfold State.releaseStaged
  split
  · exact hs
  · exact hs.setItem.issueOp

theorem Steady.releaseTask {id t} (hs : Steady σ s) : Steady σ (s.releaseTask id t) := hs.put.foldl .releaseStaged

theorem Steady.commitN {n id} (hs : Steady σ s) : Steady σ (State.commitN n s id) := by
  induction n generalizing s with
  | zero => exact hs
  | succ n ih =>
    unfold State.commitN
    split
    · exact hs
    · exact (ih (hs.setItem.releaseTask.ite hs.setItem)).ite hs

theorem Steady.endItem {id} (hs : Steady σ s) : Steady σ (s.endItem id) := by
  unfold State.endItem
  split
  · exact hs
  · exact hs.put.finishItem.countUnit.ite hs

theorem Steady.settleItem {id} (hs : Steady σ s) : Steady σ (s.settleItem id) := by
  unfold State.settleItem
  split
  · exact hs
  · exact hs.commitN.endItem

theorem Steady.endTask {f id t} (hs : Steady σ s) : Steady σ (s.endTask f id t) := by
  unfold State.endTask
  dsimp only
  split
  · exact hs.setFloret.bump
  · exact hs.setFloret.bump.setItem.settleItem

theorem Steady.faultTask {f id t code slot} (hs : Steady σ s) : Steady σ (s.faultTask f id t code slot) := by
  unfold State.faultTask
  dsimp only
  split
  · exact hs.setFloret
  · exact hs.setFloret.setItem.put.settleItem

theorem Steady.returnTask {f id t} (hs : Steady σ s) : Steady σ (s.returnTask f id t) := by
  unfold State.returnTask
  split
  · exact hs
  · refine hs.faultTask.ite ?_
    extract_lets +onlyGivenNames _ _ _ s2
    have hs2 : Steady σ s2 := hs.setFloret.setItem.put
    split
    · exact hs2
    · exact hs2.setTasks

theorem Steady.runTask {q k bs} (hs : Steady σ s) : Steady σ (s.runTask q k bs) := by
  unfold State.runTask
  refine hs.ite ?_
  split
  · exact hs.finishItem
  · refine hs.finishItem.ite ?_
    split
    · exact hs.finishItem
    · exact hs.put

theorem Steady.execRunTask {q item o} (hs : Steady σ s) : SteadyNext σ (execRunTask q item o s) :=
  (hs.begin.whenRunning .runTask).next

theorem Steady.groupTake {l} (hs : Steady σ s) : Steady σ (s.groupTake l) := by
  unfold State.groupTake
  split
  · exact hs
  · refine hs.ite ?_
    split
    · exact hs
    · split
      · exact hs.ite hs.setItem
      · exact hs.ite hs.setItem
      · exact hs.ite hs.setItem.setTasks
      · exact hs.ite hs.setItem
      · exact hs

theorem Steady.execGroupQueueTake {child} (hs : Steady σ s) : SteadyNext σ (execGroupQueueTake child s) := by
  unfold Machine.execGroupQueueTake
  refine (hs.begin.whenRunning fun hu => ?_).next
  split
  · exact hu.groupTake
  · exact hu

theorem Steady.execTaskSplit {item} (hs : Steady σ s) : SteadyNext σ (execTaskSplit item s) := by
  unfold Machine.execTaskSplit
  refine (hs.begin.whenRunning fun hu => ?_).next
  split
  · exact hu
  · split
    · exact hu.ite (hu.setItem.foldl .setTasks)
    · exact hu

theorem Steady.startTask {f id t} (hs : Steady σ s) : Steady σ (s.startTask f id t) := by
  unfold State.startTask
  split
  · exact hs
  · exact hs.setItem.setFloret

theorem Steady.takeFrom {c f id t} (hs : Steady σ s) : Steady σ (s.takeFrom c f id t) := hs.setTasks.startTask

theorem Steady.steal {f v} (hs : Steady σ s) : Steady σ (s.steal f v) := by
  unfold State.steal
  dsimp only
  split
  · exact hs
  · exact hs.setTasks.setTasks.bumpN.bumpN.takeFrom

theorem Steady.taskTake {f} (hs : Steady σ s) : Steady σ (s.taskTake f) := by
  unfold State.taskTake
  refine hs.ite ?_
  split
  · exact hs.startTask
  · refine .ite ?_ ?_
    · split
      · exact hs.takeFrom
      · exact hs
    · split
      · exact hs.takeFrom
      · refine hs.ite ?_
        split
        · exact hs.steal
        · exact hs

theorem Steady.execTaskTake {floret} (hs : Steady σ s) : SteadyNext σ (execTaskTake floret s) :=
  (hs.begin.whenRunning .taskTake).next
theorem Steady.execItemComplete {q} (hs : Steady σ s) : SteadyNext σ (execItemComplete q s) :=
  (hs.begin.whenRunning fun hu => (hu.foldl .endItem).writeNext).next

/-! ### Machine/FloretCore.lean -/

theorem Steady.setRegs {f names g} (hs : Steady σ s) : SteadyOk σ (s.setRegs f names g) := .ite .error hs.setFloret.ok
theorem Steady.putScalar {f n v} (hs : Steady σ s) : SteadyOk σ (s.putScalar f n v) := hs.ok.ite hs.setRegs
theorem Steady.putVector {f n v} (hs : Steady σ s) : SteadyOk σ (s.putVector f n v) := hs.setRegs
theorem Steady.putMask {f n v} (hs : Steady σ s) : SteadyOk σ (s.putMask f n v) := .ite .error hs.setRegs
theorem Steady.putTiles {f ts} (hs : Steady σ s) : SteadyOk σ (s.putTiles f ts) := hs.setRegs

theorem Steady.raiseFlags {f fl conversion} (hs : Steady σ s) : Steady σ (s.raiseFlags f fl conversion) := by
  unfold State.raiseFlags
  extract_lets +onlyGivenNames _ _ _ _ s2
  have hs2 : Steady σ s2 := hs.setFloret.bump.ite hs.setFloret
  exact hs2.bump.ite hs2

theorem Steady.localWrite {f a align bs} (hs : Steady σ s) : SteadyOk σ (s.localWrite f a align bs) := by
  unfold State.localWrite
  split
  · exact .error
  · exact hs.sramWrite.ok

theorem Steady.floretFault {f code slot} (hs : Steady σ s) : Steady σ (s.floretFault f code slot) := by
  unfold State.floretFault
  extract_lets +onlyGivenNames _ s1 _
  have hs1 : Steady σ s1 := hs.setNum.setNum.setNum
  split
  · exact hs1
  · exact hs1.faultTask.countUnit
  · extract_lets +onlyGivenNames _ _ _ s3
    have hs3 : Steady σ s3 := hs1.setFloret.setUnit.countUnit.fault
    exact hs3.ite hs3.put.issueHalt

theorem Steady.floretEnd {f} (hs : Steady σ s) : Steady σ (s.floretEnd f) := by
  unfold State.floretEnd
  refine hs.setFloret.ite ?_
  split
  · exact hs
  · exact hs.endTask.countUnit
  · exact hs.setFloret.countUnit

theorem Steady.stallOn {f w} (hs : Steady σ s) : Steady σ (s.stallOn f w) := hs.setFloret
theorem Steady.newBundle {f} (hs : Steady σ s) : Steady σ (s.newBundle f) := by
  unfold State.newBundle; exact hs.setFloret.bump

theorem Steady.issueSlot {eff : State → FloretRegs → Except Nat State} {i k} (hs : Steady σ s)
    (heff : ∀ {t a0}, Steady σ t → SteadyOk σ (eff t a0)) :
    SteadyNext σ (s.issueSlot i k eff) := by
  unfold State.issueSlot
  refine (hs.begin.whenRunning fun hu => ?_).next
  refine hu.ite ?_
  extract_lets +onlyGivenNames t1
  have ht1 : Steady σ t1 := hu.setFloret.newBundle.ite hu
  refine ht1.floretFault.ite ?_
  split
  · next u e =>
    have hu : Steady σ u := (heff ht1) _ e
    exact hu
  · exact ht1.floretFault

/-! ### Machine/FloretScalar.lean -/

theorem Steady.scalarReg {i w code op} (hs : Steady σ s) : SteadyNext σ (s.scalarReg i w code op) :=
  hs.issueSlot fun hu => .ite .error hu.putScalar
theorem Steady.scalarImm {i w code op} (hs : Steady σ s) : SteadyNext σ (s.scalarImm i w code op) :=
  hs.issueSlot fun hu => .ite .error hu.putScalar

theorem Steady.scalarLoad {i w code n} (hs : Steady σ s) : SteadyNext σ (s.scalarLoad i w code n) := by
  unfold State.scalarLoad
  refine hs.issueSlot fun hu => .ite .error ?_
  split
  · exact .error
  · exact hu.putScalar

theorem Steady.scalarStore {i w code n} (hs : Steady σ s) : SteadyNext σ (s.scalarStore i w code n) :=
  hs.issueSlot fun hu => .ite .error hu.localWrite
theorem Steady.scalarRead {i w code val} (hs : Steady σ s) : SteadyNext σ (s.scalarRead i w code val) :=
  hs.issueSlot fun hu => .ite .error hu.putScalar
theorem Steady.execSAdd {i w} (hs : Steady σ s) : SteadyNext σ (execSAdd i w s) := hs.scalarReg
theorem Steady.execSSub {i w} (hs : Steady σ s) : SteadyNext σ (execSSub i w s) := hs.scalarReg
theorem Steady.execSMul {i w} (hs : Steady σ s) : SteadyNext σ (execSMul i w s) := hs.scalarReg
theorem Steady.execSAnd {i w} (hs : Steady σ s) : SteadyNext σ (execSAnd i w s) := hs.scalarReg
theorem Steady.execSOr {i w} (hs : Steady σ s) : SteadyNext σ (execSOr i w s) := hs.scalarReg
theorem Steady.execSXor {i w} (hs : Steady σ s) : SteadyNext σ (execSXor i w s) := hs.scalarReg
theorem Steady.execShl {i w} (hs : Steady σ s) : SteadyNext σ (execShl i w s) := hs.scalarReg
theorem Steady.execShr {i w} (hs : Steady σ s) : SteadyNext σ (execShr i w s) := hs.scalarReg
theorem Steady.execSar {i w} (hs : Steady σ s) : SteadyNext σ (execSar i w s) := hs.scalarReg
theorem Steady.execSlt {i w} (hs : Steady σ s) : SteadyNext σ (execSlt i w s) := hs.scalarReg
theorem Steady.execSltu {i w} (hs : Steady σ s) : SteadyNext σ (execSltu i w s) := hs.scalarReg
theorem Steady.execAddi {i w} (hs : Steady σ s) : SteadyNext σ (execAddi i w s) := hs.scalarImm
theorem Steady.execAddhi {i w} (hs : Steady σ s) : SteadyNext σ (execAddhi i w s) := hs.scalarImm
theorem Steady.execShli {i w} (hs : Steady σ s) : SteadyNext σ (execShli i w s) := hs.scalarImm
theorem Steady.execLd64 {i w} (hs : Steady σ s) : SteadyNext σ (execLd64 i w s) := hs.scalarLoad
theorem Steady.execSt64 {i w} (hs : Steady σ s) : SteadyNext σ (execSt64 i w s) := hs.scalarStore
theorem Steady.execLd32 {i w} (hs : Steady σ s) : SteadyNext σ (execLd32 i w s) := hs.scalarLoad
theorem Steady.execSt32 {i w} (hs : Steady σ s) : SteadyNext σ (execSt32 i w s) := hs.scalarStore
theorem Steady.execRdstat {i w} (hs : Steady σ s) : SteadyNext σ (execRdstat i w s) := hs.scalarRead
theorem Steady.execRdres {i w} (hs : Steady σ s) : SteadyNext σ (execRdres i w s) := hs.scalarRead
theorem Steady.execRdflags {i w} (hs : Steady σ s) : SteadyNext σ (execRdflags i w s) := hs.scalarRead
theorem Steady.execClrflags {i w} (hs : Steady σ s) : SteadyNext σ (execClrflags i w s) :=
  hs.issueSlot fun hu => .ite .error hu.setFloret.ok
theorem Steady.execRdtick {i w} (hs : Steady σ s) : SteadyNext σ (execRdtick i w s) := hs.scalarRead
theorem Steady.control {eff : State → FloretRegs → Except Nat State} {i w code} (hs : Steady σ s)
    (heff : ∀ {t a0}, Steady σ t → SteadyOk σ (eff t a0)) :
    SteadyNext σ (s.control i w code eff) :=
  hs.issueSlot fun hu => .ite .error (heff hu)
theorem Steady.branch {f w taken} (hs : Steady σ s) : Steady σ (s.branch f w taken) := hs.setFloret.ite hs
theorem Steady.execBr {i w} (hs : Steady σ s) : SteadyNext σ (execBr i w s) := hs.control fun hu => hu.branch.ok
theorem Steady.execBz {i w} (hs : Steady σ s) : SteadyNext σ (execBz i w s) := hs.control fun hu => hu.branch.ok
theorem Steady.execBnz {i w} (hs : Steady σ s) : SteadyNext σ (execBnz i w s) := hs.control fun hu => hu.branch.ok
theorem Steady.execWaitop {i w} (hs : Steady σ s) : SteadyNext σ (execWaitop i w s) := hs.control fun hu => hu.stallOn.ok
theorem Steady.execWaitall {i w} (hs : Steady σ s) : SteadyNext σ (execWaitall i w s) := hs.control fun hu => hu.stallOn.ok
theorem Steady.setBarrier {k b} (hs : Steady σ s) : Steady σ (s.setBarrier k b) := hs.put
theorem Steady.reachBarrier {f n mask} (hs : Steady σ s) : SteadyOk σ (s.reachBarrier f n mask) :=
  .ite .error ((hs.setBarrier.foldl fun hu => hu.setFloret.ite hu).ok.ite hs.setBarrier.stallOn.ok)
theorem Steady.execBarrier {i w} (hs : Steady σ s) : SteadyNext σ (execBarrier i w s) :=
  hs.control fun hu => .ite .error hu.reachBarrier
theorem Steady.execTickwait {i w} (hs : Steady σ s) : SteadyNext σ (execTickwait i w s) :=
  hs.control fun hu => .ite .error hu.stallOn.ok
theorem Steady.execSetstream {i w} (hs : Steady σ s) : SteadyNext σ (execSetstream i w s) :=
  hs.control fun hu => hu.setFloret.ok
theorem Steady.execTrap {i w} (hs : Steady σ s) : SteadyNext σ (execTrap i w s) := hs.control fun _ => .error
theorem Steady.execDrain {floret} (hs : Steady σ s) : SteadyNext σ (execDrain floret s) :=
  (hs.begin.whenRunning fun hu => hu.ite hu.stallOn).next
theorem Steady.execTaskEnd {floret} (hs : Steady σ s) : SteadyNext σ (execTaskEnd floret s) :=
  (hs.begin.whenRunning fun hu => hu.ite hu.floretEnd).next

/-! ### Machine/FloretVector.lean -/

theorem Steady.vector1 {eff : State → FloretRegs → VSlot → Except Nat State} {i w code} (hs : Steady σ s)
    (heff : ∀ {t a0 a1}, Steady σ t → SteadyOk σ (eff t a0 a1)) :
    SteadyNext σ (s.vector1 i w code eff) :=
  hs.issueSlot fun hu => .ite .error (heff hu)
theorem Steady.vecLanes {i w code op} (hs : Steady σ s) : SteadyNext σ (s.vecLanes i w code op) := hs.vector1 .putVector
theorem Steady.execVadd {i w} (hs : Steady σ s) : SteadyNext σ (execVadd i w s) := hs.vecLanes
theorem Steady.execVsub {i w} (hs : Steady σ s) : SteadyNext σ (execVsub i w s) := hs.vecLanes
theorem Steady.execVmul {i w} (hs : Steady σ s) : SteadyNext σ (execVmul i w s) := hs.vecLanes
theorem Steady.execVfma {i w} (hs : Steady σ s) : SteadyNext σ (execVfma i w s) := hs.vecLanes
theorem Steady.execVmax {i w} (hs : Steady σ s) : SteadyNext σ (execVmax i w s) := hs.vecLanes
theorem Steady.execVmin {i w} (hs : Steady σ s) : SteadyNext σ (execVmin i w s) := hs.vecLanes
theorem Steady.execVexp2 {i w} (hs : Steady σ s) : SteadyNext σ (execVexp2 i w s) := hs.vecLanes
theorem Steady.execVrcp {i w} (hs : Steady σ s) : SteadyNext σ (execVrcp i w s) := hs.vecLanes
theorem Steady.execVrsqrt {i w} (hs : Steady σ s) : SteadyNext σ (execVrsqrt i w s) := hs.vecLanes
theorem Steady.execViadd {i w} (hs : Steady σ s) : SteadyNext σ (execViadd i w s) := hs.vecLanes
theorem Steady.execVand {i w} (hs : Steady σ s) : SteadyNext σ (execVand i w s) := hs.vecLanes
theorem Steady.execVor {i w} (hs : Steady σ s) : SteadyNext σ (execVor i w s) := hs.vecLanes
theorem Steady.execVxor {i w} (hs : Steady σ s) : SteadyNext σ (execVxor i w s) := hs.vecLanes
theorem Steady.execVlog2 {i w} (hs : Steady σ s) : SteadyNext σ (execVlog2 i w s) :=
  hs.vector1 fun hu => hu.putVector.map fun hv => hv.raiseFlags.ite hv
theorem Steady.vecReduce {i w code off op} (hs : Steady σ s) : SteadyNext σ (s.vecReduce i w code off op) := hs.vector1 .putVector
theorem Steady.execVredsum {i w} (hs : Steady σ s) : SteadyNext σ (execVredsum i w s) := hs.vecReduce
theorem Steady.execVredmax {i w} (hs : Steady σ s) : SteadyNext σ (execVredmax i w s) := hs.vecReduce
theorem Steady.execVcmp {i w} (hs : Steady σ s) : SteadyNext σ (execVcmp i w s) := hs.vector1 .putMask
theorem Steady.execVsel {i w} (hs : Steady σ s) : SteadyNext σ (execVsel i w s) := hs.vector1 .putVector
theorem Steady.execVcvt {i w} (hs : Steady σ s) : SteadyNext σ (execVcvt i w s) :=
  hs.vector1 fun hu => .ite .error (hu.putVector.ite (.ite .error
    (hu.putVector.map fun hv => hv.raiseFlags.setFloret.ite hv.raiseFlags)))

theorem Steady.execVld {i w} (hs : Steady σ s) : SteadyNext σ (execVld i w s) := by
  unfold Machine.execVld
  refine hs.vector1 fun hu => ?_
  split
  · exact .error
  · exact hu.putVector

theorem Steady.execVst {i w} (hs : Steady σ s) : SteadyNext σ (execVst i w s) := hs.vector1 fun hu => .ite .error hu.localWrite
theorem Steady.execVstscale {i w} (hs : Steady σ s) : SteadyNext σ (execVstscale i w s) :=
  hs.vector1 fun hu => .ite .error hu.localWrite
theorem Steady.execVbcast {i w} (hs : Steady σ s) : SteadyNext σ (execVbcast i w s) := hs.vector1 .putVector

/-! ### Machine/FloretMatrix.lean -/

theorem Steady.matrix {eff : State → FloretRegs → MSlot → Except Nat State} {i w code} (hs : Steady σ s)
    (heff : ∀ {t a0 a1}, Steady σ t → SteadyOk σ (eff t a0 a1)) :
    SteadyNext σ (s.matrix i w code eff) :=
  hs.issueSlot fun hu => .ite .error (.ite .error (heff hu))

theorem Steady.execMma {i w} (hs : Steady σ s) : SteadyNext σ (execMma i w s) := by
  refine hs.matrix fun hu => .ite .error (.ite .error (.ite .error ?_))
  split
  · exact .error
  · exact hu.putTiles.map .raiseFlags

theorem Steady.execTileRead {i w} (hs : Steady σ s) : SteadyNext σ (execTileRead i w s) :=
  hs.matrix fun hu => .ite .error hu.putVector
theorem Steady.execTileWrite {i w} (hs : Steady σ s) : SteadyNext σ (execTileWrite i w s) := hs.matrix .putTiles
theorem Steady.execTileZero {i w} (hs : Steady σ s) : SteadyNext σ (execTileZero i w s) := hs.matrix .putTiles

/-! ### Machine/FloretRemote.lean -/

theorem Steady.setTag {f n g} (hs : Steady σ s) : Steady σ (s.setTag f n g) := by
  unfold State.setTag; exact hs.setFloret
theorem Steady.tagDone {f n r} (hs : Steady σ s) : Steady σ (s.tagDone f n r) :=
  hs.setTag.countUnit.floretEnd.ite hs.setTag.countUnit
theorem Steady.floretIssue {f tag o} (hs : Steady σ s) : Steady σ (s.floretIssue f tag o) := hs.issueOp.ite hs.setTag.issueOp

theorem Steady.commitIssue {f tag id t o} (hs : Steady σ s) : Steady σ (s.commitIssue f tag id t o) := by
  unfold State.commitIssue
  split
  · exact hs
  · exact (hs.setItem.ite hs.setItem.setTag).issueOp.ite (hs.stallOn.ite (hs.put.ite hs.put.tagDone))

theorem Steady.xIssue {f commit tag o fence} (hs : Steady σ s) : Steady σ (s.xIssue f commit tag o fence) := by
  unfold State.xIssue
  split
  · exact hs.stallOn
  · dsimp only
    split
    · exact hs.put.commitIssue
    · exact hs.put.floretIssue

theorem Steady.execXRemoteIssue {i w} (hs : Steady σ s) : SteadyNext σ (execXRemoteIssue i w s) := by
  refine hs.issueSlot fun {t r} hu => .ite .error (.ite .error ?_)
  split
  · exact .error
  · cases t.xOperation i.floret r (xSlot w) with
    | error => exact .error
    | ok => exact hu.xIssue.ok

theorem Steady.execDesc {i w} (hs : Steady σ s) : SteadyNext σ (execDesc i w s) := by
  unfold Machine.execDesc
  refine hs.issueSlot fun hu => .ite .error (.ite .error ?_)
  split
  · exact .error
  · refine .ite .error ?_
    dsimp only
    split
    · exact hu.stallOn.ok
    · split
      · exact hu.tagDone.ok
      · split
        · exact hu.tagDone.ok
        · exact hu.fetchUsed.floretIssue.ok

theorem Steady.settleResponse {i id r} (hs : Steady σ s) : Steady σ (s.settleResponse i id r).2 := by
  unfold State.settleResponse
  split
  · exact hs
  · exact hs.writeLocal.closeOp.wake

theorem Steady.floretResponseIn {i id epoch defer r0} (hs : Steady σ s) : Steady σ (s.floretResponseIn i id epoch defer r0) := by
  unfold State.floretResponseIn
  refine hs.bump.ite ?_
  extract_lets +onlyGivenNames _ _ _
  split
  · exact hs.settleResponse.finishItem.ite ((hs.closeOp.wake.ite hs.postedFails).ite hs)
  · exact hs.settleResponse.tagDone.ite ((hs.closeOp.wake.ite hs.postedFails).ite hs)
  · extract_lets +onlyGivenNames _ s1
    have hs1 : Steady σ s1 := (hs.closeOp.wake.ite hs.postedFails).ite hs.settleResponse
    split
    · exact hs1
    · extract_lets +onlyGivenNames _ s3
      have hs3 : Steady σ s3 := by
        unfold s3
        split
        · exact hs1.setItem.tagDone
        · exact hs1.setItem
      exact hs3.settleItem
  · refine (hs.closeOp.wake.ite hs.postedFails).ite ?_
    split
    · exact hs
    · exact hs.closeOp.wake.emit

theorem Steady.execResponseReceive {i id epoch defer r} (hs : Steady σ s) :
    SteadyNext σ (execResponseReceive i id epoch defer r s) :=
  (hs.begin.whenRunning .floretResponseIn).next

/-! ### Machine/Coherence.lean -/

theorem Steady.setWindow {w x} (hs : Steady σ s) : Steady σ (s.setWindow w x) := hs.put
theorem Steady.setAgent {a x} (hs : Steady σ s) : Steady σ (s.setAgent a x) := hs.put
theorem Steady.setEntry {k e} (hs : Steady σ s) : Steady σ (s.setEntry k e) := hs.put

theorem Steady.lineUsed {line off len} (hs : Steady σ s) : Steady σ (s.lineUsed line off len) := by
  unfold State.lineUsed
  split
  · exact hs
  · exact hs.used

theorem Steady.lineWrite {line off bs} (hs : Steady σ s) : Steady σ (s.lineWrite line off bs).2 := by
  unfold State.lineWrite
  split
  · exact hs
  · exact hs.ckptKeep.poolWrite.touchRange

theorem Steady.poisonLine {line} (hs : Steady σ s) : Steady σ (s.poisonLine line) := by
  unfold State.poisonLine
  split
  · exact hs
  · exact hs.setPoison.setPoison.bump.put.bumpN

theorem Steady.writeHalves {r l} (hs : Steady σ s) : Steady σ (s.writeHalves r l) := hs.foldl fun hu => hu.lineWrite.ite hu
theorem Steady.keepGot {r off len} (hs : Steady σ s) : Steady σ (s.keepGot r off len) := hs.writeHalves
theorem Steady.writeGot {r} (hs : Steady σ s) : Steady σ (s.writeGot r) := hs.writeHalves
theorem Steady.discardSpec {line} (hs : Steady σ s) : Steady σ (s.discardSpec line) := hs.put.bumpN

theorem Steady.readOrSpec {r off len} (hs : Steady σ s) : Steady σ (s.readOrSpec r off len).2 := by
  unfold State.readOrSpec
  split
  · exact hs.put.bump
  · exact hs.lineUsed

theorem Steady.setLineReq {r} (hs : Steady σ s) : Steady σ (s.setLineReq r) := hs.put
theorem Steady.dropLineReq {id} (hs : Steady σ s) : Steady σ (s.dropLineReq id) := hs.put
theorem Steady.endLineReq {r a} (hs : Steady σ s) : Steady σ (s.endLineReq r a) := hs.dropLineReq.respond
theorem Steady.grant {r a k e grantState data} (hs : Steady σ s) : Steady σ (s.grant r a k e grantState data) :=
  (hs.setEntry.discardSpec.ite hs.setEntry).put.endLineReq

theorem Steady.lineDone {r st got result} (hs : Steady σ s) : Steady σ (s.lineDone r st got result) := by
  unfold State.lineDone
  dsimp only
  split
  · exact hs.dropLineReq
  · exact hs.dropLineReq.put.ite hs.dropLineReq.put.endAccess

theorem Steady.applyLine {r} (hs : Steady σ s) : Steady σ (s.applyLine r).2.2 := by
  unfold State.applyLine
  refine .ite_snd_snd ?_ hs.lineWrite
  refine hs.ite_snd_snd ?_
  dsimp only
  split
  · exact hs
  · exact hs.lineUsed.lineWrite

theorem Steady.grantWith {r a k e g bad} (hs : Steady σ s) (hbad : Steady σ bad) : Steady σ (s.grantWith r a k e g bad) := by
  unfold State.grantWith
  dsimp only
  split
  · exact hbad.endLineReq
  · exact hs.readOrSpec.keepGot.grant

theorem Steady.finishRdS {r a at_ mask} (hs : Steady σ s) : Steady σ (s.finishRdS r a at_ mask) := by
  unfold State.finishRdS
  split
  · split
    · exact hs.setLineReq
    · exact hs.grantWith hs
  · dsimp only
    split
    · exact hs.grantWith hs
    · refine (hs.grantWith hs).ite ((hs.grantWith hs.setEntry).ite ?_)
      refine (hs.writeGot.grantWith hs.writeGot).ite ?_
      split
      · exact hs.setEntry.endLineReq
      · exact hs.lineUsed.grant
    · split
      · exact hs.endLineReq
      · exact hs.lineUsed.grant

theorem Steady.finishRdX {r a at_ mask} (hs : Steady σ s) : Steady σ (s.finishRdX r a at_ mask) := by
  unfold State.finishRdX
  split
  · split
    · exact hs.setLineReq
    · exact hs.grantWith hs
  · exact (hs.grantWith hs).ite (hs.grantWith hs.setEntry)

theorem Steady.finishWb {r a at_} (hs : Steady σ s) : Steady σ (s.finishWb r a at_) := by
  unfold State.finishWb
  dsimp only
  split
  · exact hs.bump.endLineReq
  · exact hs.discardSpec.lineWrite.setEntry.endLineReq.ite hs.bump.endLineReq

theorem Steady.finishLine {r} (hs : Steady σ s) : Steady σ (s.finishLine r) := by
  unfold State.finishLine
  extract_lets +onlyGivenNames at_ _ free
  clear_value at_
  have hfree {t : State} (ht : Steady σ t) : Steady σ (free t) := by
    unfold free
    split
    · exact ht.setEntry
    · exact ht
  split
  · exact (hfree hs.writeGot).dropLineReq.bump
  · exact (hfree hs.writeGot).dropLineReq.bump.ite (hfree hs.writeGot).dropLineReq
  · dsimp only
    split
    · exact hs.readOrSpec.lineDone
    · exact hs.lineDone
  · exact (hfree hs.writeGot).discardSpec.applyLine.lineDone
  · exact (hfree hs.writeGot).discardSpec.applyLine.lineDone
  · split
    · exact hs.endLineReq
    · refine hs.endLineReq.ite ?_
      split
      · exact hs.finishRdS
      · split
        · exact hs.grant.ite hs.finishRdX
        · exact hs.finishRdX
      · exact hs.finishWb
      · split
        · exact (hs.setEntry.ite hs).endLineReq
        · exact hs.endLineReq
      · exact hs.finishRdX

theorem Steady.sendSnoops {r e plan} (hs : Steady σ s) : Steady σ (s.sendSnoops r e plan) := (hs.setLineReq.foldl .emit).bumpN
theorem Steady.waitHold {r} (hs : Steady σ s) : Steady σ (s.waitHold r) :=
  hs.ite (hs.setLineReq.ite hs.setLineReq.bump.countDeferral)
theorem Steady.actOn {r e} (hs : Steady σ s) : Steady σ (s.actOn r e) := hs.waitHold.ite (hs.finishLine.ite hs.sendSnoops)

theorem Steady.makeRoom {r mask} (hs : Steady σ s) : Steady σ (s.makeRoom r mask) := by
  unfold State.makeRoom
  split
  · exact hs.finishLine
  · refine hs.ite ?_
    dsimp only
    split
    · exact hs.setLineReq.put.actOn
    · exact hs.setLineReq.countDeferral

theorem Steady.tryLine {r} (hs : Steady σ s) : Steady σ (s.tryLine r) := by
  unfold State.tryLine
  refine hs.setLineReq.ite ?_
  split
  · exact hs.actOn
  · exact hs.makeRoom.ite hs.finishLine

theorem Steady.enterLine {r} (hs : Steady σ s) : Steady σ (s.enterLine r) := hs.put.countDeferral.ite hs.put.tryLine

theorem Steady.cohAccess {o} (hs : Steady σ s) : Steady σ (s.cohAccess o) := by
  unfold State.cohAccess
  dsimp only
  split
  · exact hs.respond
  · exact hs.respond.ite (hs.endAccess.ite (hs.openOp.put.foldl .enterLine))

theorem Steady.cachingOp {go : State → Nat → LineReq → State} {o op} (hs : Steady σ s)
    (hgo : ∀ {t a0 a1}, Steady σ t → Steady σ (go t a0 a1)) :
    Steady σ (s.cachingOp o op go) := by
  unfold State.cachingOp
  dsimp only
  split
  · exact hs.respond
  · refine hs.respond.ite (hs.respond.ite ?_)
    refine hs.respond.ite (hs.respond.ite ?_)
    split
    · exact hs.respond
    · exact hs.respond.ite (hgo hs)

theorem Steady.cachingEnter {o op} (hs : Steady σ s) : Steady σ (s.cachingEnter o op) :=
  hs.cachingOp fun hu => hu.openOp.enterLine
theorem Steady.execRdS {o} (hs : Steady σ s) : SteadyNext σ (execRdS o s) := (hs.unitOp .cachingEnter).next
theorem Steady.execRdX {o} (hs : Steady σ s) : SteadyNext σ (execRdX o s) := (hs.unitOp .cachingEnter).next
theorem Steady.execUpg {o} (hs : Steady σ s) : SteadyNext σ (execUpg o s) := (hs.unitOp .cachingEnter).next
theorem Steady.execWb {o} (hs : Steady σ s) : SteadyNext σ (execWb o s) := (hs.unitOp .cachingEnter).next
theorem Steady.execDrop {o} (hs : Steady σ s) : SteadyNext σ (execDrop o s) := (hs.unitOp .cachingEnter).next
theorem Steady.execRdSpec {o} (hs : Steady σ s) : SteadyNext σ (execRdSpec o s) :=
  (hs.unitOp fun hu => hu.cachingOp fun hu => hu.bump.respond.ite (hu.respond.ite hu.lineUsed.put.respond)).next

theorem Steady.execSnoopResponse {agent line half data} (hs : Steady σ s) :
    SteadyNext σ (execSnoopResponse agent line half data s) := by
  unfold Machine.execSnoopResponse
  refine (hs.begin.whenRunning fun hu => ?_).next
  split
  · exact hu
  · exact (hu.discardSpec.ite hu).setLineReq.finishLine.ite (hu.discardSpec.ite hu).setLineReq

theorem Steady.execDirectoryRequestResume {id} (hs : Steady σ s) : SteadyNext σ (execDirectoryRequestResume id s) := by
  unfold Machine.execDirectoryRequestResume
  refine (hs.begin.whenRunning fun hu => ?_).next
  split
  · exact hu
  · split
    · exact hu
    · exact (hu.lineDone.ite hu.endLineReq).ite (hu.ite hu.setLineReq.tryLine)
    · exact hu.tryLine

theorem Steady.execHoldExpiry {line} (hs : Steady σ s) : SteadyNext σ (execHoldExpiry line s) := by
  unfold Machine.execHoldExpiry
  refine (hs.begin.whenRunning fun hu => ?_).next
  split
  · exact hu
  · exact hu.elapse.foldl .tryLine

theorem Steady.fenceAgent {a report} (hs : Steady σ s) : Steady σ (s.fenceAgent a report) := by
  unfold State.fenceAgent
  extract_lets +onlyGivenNames s1 _ _ s3
  have hs1 : Steady σ s1 := by
    unfold s1
    refine hs.foldl fun hu => ?_
    split
    · exact hu
    · exact hu.poisonLine.setEntry.ite (hu.setEntry.ite hu.setEntry)
  have hs3 : Steady σ s3 := hs1.setAgent.bump32.foldl fun hu => hu.setLineReq.finishLine.ite hu.setLineReq
  exact hs3.fault.ite hs3

theorem Steady.execSnoopTimeout {agent line} (hs : Steady σ s) : SteadyNext σ (execSnoopTimeout agent line s) := by
  unfold Machine.execSnoopTimeout
  refine (hs.begin.whenRunning fun hu => ?_).next
  split
  · exact hu
  · exact hu.elapse.fenceAgent

theorem Steady.execSpecBufferExpiry {line agent} (hs : Steady σ s) : SteadyNext σ (execSpecBufferExpiry line agent s) := by
  unfold Machine.execSpecBufferExpiry
  refine (hs.begin.whenRunning fun hu => ?_).next
  split
  · exact hu
  · exact hu.elapse.put

theorem Steady.execWindowEnable {a w partition} (hs : Steady σ s) : SteadyNext σ (execWindowEnable a w partition s) :=
  (hs.begin.whenRunning fun hu => (hu.setWindow.ite hu).mgmtWrite .setWindow).next
theorem Steady.windowOff {n} (hs : Steady σ s) : Steady σ (s.windowOff n) := hs.ite (hs.setWindow.foldl .enterLine)
theorem Steady.execWindowDisable {a w} (hs : Steady σ s) : SteadyNext σ (execWindowDisable a w s) :=
  (hs.begin.whenRunning fun hu => hu.mgmtWrite fun hu => hu.windowOff.setWindow).next
theorem Steady.windowDone {t : State} {w} (hs : Steady σ t) : Steady σ (t.windowDone w) := hs.setWindow.ite hs
theorem Steady.execWayMaskWrite {i t v} (hs : Steady σ s) : SteadyNext σ (execWayMaskWrite i t v s) :=
  (hs.begin.whenRunning fun hu => hu.mgmtWrite .put).next
theorem Steady.execAgentRegister {a n kind} (hs : Steady σ s) : SteadyNext σ (execAgentRegister a n kind s) :=
  (hs.begin.whenRunning fun hu => hu.mgmtWrite .setAgent).next
theorem Steady.execAgentUnregister {a n} (hs : Steady σ s) : SteadyNext σ (execAgentUnregister a n s) :=
  (hs.begin.whenRunning fun hu => hu.mgmtWrite fun hu => (hu.ite hu.fenceAgent).setAgent).next

/-! ### Machine/LinkTx.lean -/

theorem Steady.setPort {p x} (hs : Steady σ s) : Steady σ (s.setPort p x) := hs.put
theorem Steady.portEvent {p st} (hs : Steady σ s) : Steady σ (s.portEvent p st) := hs.free.eventOpen
theorem Steady.countFlit {p} (hs : Steady σ s) : Steady σ (s.countFlit p) := hs.ite (hs.setCrypt.ite hs.setCrypt)
theorem Steady.txSeq {p f} (hs : Steady σ s) : Steady σ (s.txSeq p f) := by
  unfold State.txSeq; exact hs.setPort.emit.countFlit
theorem Steady.txFree {p m} (hs : Steady σ s) : Steady σ (s.txFree p m) := hs.emit.countFlit
theorem Steady.txAgain {p g} (hs : Steady σ s) : Steady σ (s.txAgain p g) := hs.emit.countFlit
theorem Steady.flushCredits {p} (hs : Steady σ s) : Steady σ (s.flushCredits p) :=
  hs.foldl fun hu => hu.ite hu.setPort.txSeq.emit
theorem Steady.creditBack {p c cells} (hs : Steady σ s) : Steady σ (s.creditBack p c cells) := hs.ite hs.setPort.flushCredits
theorem Steady.txFrame {p vc bytes} (hs : Steady σ s) : Steady σ (s.txFrame p vc bytes).2 := (hs.foldl .txSeq)

/-! ### Machine/Switch.lean -/

theorem Steady.setFrame {n f} (hs : Steady σ s) : Steady σ (s.setFrame n f) := hs.put

theorem Steady.keepFrame {f} (hs : Steady σ s) : Steady σ (s.keepFrame f) := by
  unfold State.keepFrame
  dsimp only
  split
  · exact hs.put.creditBack.ite hs.put
  · exact hs.put

theorem Steady.refuseFrame {f st reason} (hs : Steady σ s) : Steady σ (s.refuseFrame f st reason) :=
  (hs.put.ite hs).respond.ite hs

theorem Steady.dropArrival {f} (hs : Steady σ s) : Steady σ (s.dropArrival f) := by
  unfold State.dropArrival
  split
  · exact hs.creditBack
  · exact hs

theorem Steady.refuseArrival {f st reason} (hs : Steady σ s) : Steady σ (s.refuseArrival f st reason) :=
  hs.refuseFrame.dropArrival
theorem Steady.admitFrame {f0} (hs : Steady σ s) : Steady σ (s.admitFrame f0) := hs.put.ite hs.keepFrame
theorem Steady.admitStatic {f slot} (hs : Steady σ s) : Steady σ (s.admitStatic f slot) := hs.dropArrival.ite hs.keepFrame
theorem Steady.ingressWeir {p f} (hs : Steady σ s) : Steady σ (s.ingressWeir p f).2 := hs.ite_snd hs.weirPass

theorem Steady.requestIn {p f0} (hs : Steady σ s) : Steady σ (s.requestIn p f0) := by
  unfold State.requestIn
  dsimp only
  split
  · exact hs.refuseArrival
  · refine .ite ?_ (hs.ingressWeir.refuseArrival.ite hs.ingressWeir.admitFrame)
    split
    · exact hs.refuseArrival
    · exact hs.admitStatic

theorem Steady.responseIn {p f} (hs : Steady σ s) : Steady σ (s.responseIn p f) :=
  hs.bump.dropArrival.ite (hs.setPort.dropArrival.ite (hs.setPort.respond.dropArrival.ite hs.setPort.keepFrame))
theorem Steady.frameIn {p h payload} (hs : Steady σ s) : Steady σ (s.frameIn p h payload) :=
  hs.ite (hs.setPort.meter.requestIn.ite (hs.setPort.meter.responseIn.ite hs.setPort.meter.dropArrival))
theorem Steady.execFrameReceive {port header payload} (hs : Steady σ s) : SteadyNext σ (execFrameReceive port header payload s) :=
  (hs.begin.whenRunning .frameIn).next

theorem Steady.quotaAdmit {t} (hs : Steady σ s) : Steady σ (s.quotaAdmit t) := by
  unfold State.quotaAdmit
  split
  · exact hs
  · exact hs.ite (hs.put.bump.keepFrame.ite hs.put.bump.countDeferral.keepFrame)

theorem Steady.execQuotaAdmit {tenant} (hs : Steady σ s) : SteadyNext σ (execQuotaAdmit tenant s) :=
  (hs.begin.whenRunning .quotaAdmit).next

theorem Steady.execQuotaWaitExpiry {tenant} (hs : Steady σ s) : SteadyNext σ (execQuotaWaitExpiry tenant s) := by
  unfold Machine.execQuotaWaitExpiry
  refine (hs.begin.whenRunning fun hu => ?_).next
  split
  · exact hu
  · exact hu.elapse.put.bump.refuseArrival

theorem Steady.injectFrame {i f} (hs : Steady σ s) : Steady σ (s.injectFrame i f) := by
  unfold State.injectFrame
  refine hs.ite (.ite ?_ (hs.ite (hs.arbDrop.keepFrame.ite hs.arbDrop.admitFrame)))
  split
  · exact hs
  · exact hs.admitStatic

theorem Steady.execInjectionFrame {hub header payload} (hs : Steady σ s) :
    SteadyNext σ (execInjectionFrame hub header payload s) :=
  (hs.begin.whenRunning .injectFrame).next
theorem Steady.setGroup {g x} (hs : Steady σ s) : Steady σ (s.setGroup g x) := hs.put
theorem Steady.setBucket {k x} (hs : Steady σ s) : Steady σ (s.setBucket k x) := hs.put
theorem Steady.fillPins {g} (hs : Steady σ s) : Steady σ (s.fillPins g) := hs.ite (hs.foldl .setBucket)

theorem Steady.judgeMember {g p} (hs : Steady σ s) : Steady σ (s.judgeMember g p) := by
  unfold State.judgeMember
  dsimp only
  split
  · exact hs.setGroup.fillPins
  · exact hs.ite hs.bump32

theorem Steady.lgTrained {p} (hs : Steady σ s) : Steady σ (s.lgTrained p) := by
  unfold State.lgTrained
  split
  · exact hs.judgeMember
  · exact hs

theorem Steady.setList {p k l} (hs : Steady σ s) : Steady σ (s.setList p k l) := hs.put

theorem Steady.relink {p to_} (hs : Steady σ s) : Steady σ (s.relink p to_) := by
  unfold State.relink
  refine hs.foldl fun hu => hu.setList.foldl fun hu => ?_
  split
  · exact hu.ite hu.setList
  · exact hu

theorem Steady.freeFrame {n} (hs : Steady σ s) : Steady σ (s.freeFrame n) := by
  unfold State.freeFrame
  split
  · exact hs
  · refine hs.ite ?_
    dsimp only
    split
    · exact hs.setFrame.creditBack.ite hs.setFrame
    · exact hs.setFrame.put.ite hs.setFrame

theorem Steady.answerAs {r op a} (hs : Steady σ s) : Steady σ (s.answerAs r op a) := by
  unfold State.answerAs
  extract_lets +onlyGivenNames _ s2
  have hs2 : Steady σ s2 := (hs.countRefusal.ite hs).ite (hs.countRefusal.ite hs).closeOp
  exact (hs2.ite hs2.emit).wake

theorem Steady.branchAnswer {n b r} (hs : Steady σ s) : Steady σ (s.branchAnswer n b r) := by
  unfold State.branchAnswer
  split
  · exact hs
  · exact hs.ite (hs.put.ite hs.put.answerAs)

theorem Steady.execMulticastBranchAck {frame port r} (hs : Steady σ s) : SteadyNext σ (execMulticastBranchAck frame port r s) :=
  (hs.begin.whenRunning .branchAnswer).next

theorem Steady.endFrame {f p branch st disp} (hs : Steady σ s) : Steady σ (s.endFrame f p branch st disp) := by
  unfold State.endFrame
  dsimp only
  split
  · exact hs.branchAnswer
  · exact hs.ite hs.respond

theorem Steady.endSent {p} (hs : Steady σ s) : Steady σ (s.endSent p) := by
  unfold State.endSent; exact hs.put.foldl .endFrame

theorem Steady.endQueued {p ends} (hs : Steady σ s) : Steady σ (s.endQueued p ends) := by
  unfold State.endQueued
  refine hs.foldl fun hu => hu.setList.foldl fun hu => ?_
  split
  · exact hu.endFrame.freeFrame
  · exact hu

theorem Steady.moveBuckets {g p l} (hs : Steady σ s) : Steady σ (s.moveBuckets g p l) := (hs.foldl .setBucket).relink.bumpN

theorem Steady.memberLost {g p} (hs : Steady σ s) : Steady σ (s.memberLost g p) := by
  unfold State.memberLost
  refine hs.setGroup.ite (hs.moveBuckets.ite ?_)
  extract_lets +onlyGivenNames s1
  have hs1 : Steady σ s1 := hs.setGroup.foldl .setBucket
  exact (hs1.foldl .judgeMember).ite (hs1.foldl .judgeMember).relink

theorem Steady.portGone {p live} (hs : Steady σ s) : Steady σ (s.portGone p live) := by
  unfold State.portGone
  extract_lets +onlyGivenNames _ s2
  have hs2 : Steady σ s2 := by
    unfold s2
    split
    · exact hs.endSent.memberLost.ite hs.endSent
    · exact hs.endSent
  exact hs2.endQueued.put

theorem Steady.linkOn {f p bucket} (hs : Steady σ s) : Steady σ (s.linkOn f p bucket).2 :=
  hs.ite_snd (hs.ite_snd (hs.bump.fault.ite_snd (hs.bump.ite hs).setList))
theorem Steady.discardResponse {f} (hs : Steady σ s) : Steady σ (s.discardResponse f) := hs.put

theorem Steady.linkUnicast {f} (hs : Steady σ s) : Steady σ (s.linkUnicast f) := by
  unfold State.linkUnicast
  dsimp only
  split
  · exact hs.bump.refuseFrame.freeFrame
  · split
    · exact hs.linkOn.setFrame
    · exact hs.linkOn.refuseFrame.freeFrame
    · exact hs.linkOn.refuseFrame.freeFrame.ite hs.linkOn.discardResponse.freeFrame

theorem Steady.linkMulticast {here : Frame → State → State} {f} (hs : Steady σ s)
    (hhere : ∀ {a0 t}, Steady σ t → Steady σ (here a0 t)) :
    Steady σ (s.linkMulticast f here) := by
  unfold State.linkMulticast
  refine hs.refuseFrame.freeFrame.ite (hs.refuseFrame.freeFrame.ite ?_)
  refine hs.bump.respond.freeFrame.ite (hs.respond.freeFrame.ite ?_)
  extract_lets +onlyGivenNames _ _ _ s2
  have hs2 : Steady σ s2 := by
    unfold s2
    refine hs.setFrame.put.bumpN.foldl fun hu => ?_
    split
    · exact hhere hu
    · dsimp only
      split
      · exact hu.linkOn
      · exact hu.linkOn.branchAnswer
      · exact hu.linkOn.branchAnswer
  exact hs2.freeFrame

theorem Steady.deliverWhole {f copy payload} (hs : Steady σ s) : Steady σ (s.deliverWhole f copy payload) := by
  unfold State.deliverWhole
  refine .ite ?_ hs.emit
  dsimp only
  split <;> exact hs.emit

theorem Steady.deliverFrame {f copy} (hs : Steady σ s) : Steady σ (s.deliverFrame f copy) := by
  unfold State.deliverFrame
  refine (hs.deliverWhole.ite hs.put.put).ite ?_
  split
  · exact hs
  · exact hs.ite (hs.put.deliverWhole.ite hs.put.put)

theorem Steady.countEntry {f} (hs : Steady σ s) : Steady σ (s.countEntry f) := (hs.countIssued.ite hs).openOp.ite hs
theorem Steady.closeEntry {f} (hs : Steady σ s) : Steady σ (s.closeEntry f) := hs.closeOp.wake.ite hs

theorem Steady.linkFrame {f} (hs : Steady σ s) : Steady σ (s.linkFrame f) := by
  unfold State.linkFrame
  refine hs.ite ((hs.countEntry.linkMulticast fun hu => (hu.bump.ite hu).deliverFrame).ite ?_)
  refine .ite ?_ ?_
  · split
    · exact hs.branchAnswer.freeFrame
    · exact hs.countEntry.closeEntry.linkUnicast
  · extract_lets +onlyGivenNames _ s2
    have hs2 : Steady σ s2 := by
      unfold s2
      split
      · exact (hs.bump.ite hs).staticArrival
      · exact (hs.bump.ite hs).branchAnswer
      · exact (hs.bump.ite hs).deliverFrame
    exact hs2.freeFrame

theorem Steady.execFrameLink {frame} (hs : Steady σ s) : SteadyNext σ (execFrameLink frame s) := by
  unfold Machine.execFrameLink
  refine (hs.begin.whenRunning fun hu => ?_).next
  split
  · exact hu.linkFrame
  · exact hu

theorem Steady.markWaits {p} (hs : Steady σ s) : Steady σ (s.markWaits p) := hs.foldl .setList

theorem Steady.takeGap {f e} (hs : Steady σ s) : Steady σ (s.takeGap f e).2 := by
  unfold State.takeGap
  split
  · exact hs.setBucket.ite_snd hs
  · split
    · exact hs.ite_snd hs.put
    · exact hs

theorem Steady.sendEntry {p k e f} (hs : Steady σ s) : Steady σ (s.sendEntry p k e f) := by
  unfold State.sendEntry
  extract_lets +onlyGivenNames _ _ _ _ s1 _ s3 _ _ _ _ _ s4
  have hs1 : Steady σ s1 := hs.takeGap.countDeferral.meter
  have hs3 : Steady σ s3 := by
    unfold s3
    split
    · exact hs1.setList.charge
    · exact hs1.setList
  have hs4 : Steady σ s4 := hs3.txFrame.put.ite hs3
  exact (hs4.setPort.ite hs4).emit.freeFrame

theorem Steady.egressBoundary {p} (hs : Steady σ s) : Steady σ (s.egressBoundary p) := by
  unfold State.egressBoundary
  refine hs.ite ?_
  split
  · exact hs.markWaits.bump.ite hs.markWaits
  · split
    · exact hs
    · extract_lets +onlyGivenNames _ _ s2
      have hs2 : Steady σ s2 := hs.put.sendEntry.markWaits
      exact hs2.put.ite hs2

theorem Steady.execEgressFrameBoundary {port} (hs : Steady σ s) : SteadyNext σ (execEgressFrameBoundary port s) :=
  (hs.begin.whenRunning .egressBoundary).next

theorem Steady.mcWrite {i n v} (hs : Steady σ s) : Steady σ (s.mcWrite i n v) := by
  unfold State.mcWrite
  exact hs.takeLo.openWrite .put

theorem Steady.execMcEntryWrite {i n v} (hs : Steady σ s) : SteadyNext σ (execMcEntryWrite i n v s) :=
  (hs.begin.whenRunning .mcWrite).next

theorem Steady.quotaWrite {i t v} (hs : Steady σ s) : Steady σ (s.quotaWrite i t v) := by
  unfold State.quotaWrite
  exact hs.openWrite .setReg

theorem Steady.execQuotaWrite {i t v} (hs : Steady σ s) : SteadyNext σ (execQuotaWrite i t v s) :=
  (hs.begin.whenRunning .quotaWrite).next

theorem Steady.lgSet {g mask} (hs : Steady σ s) : Steady σ (s.lgSet g mask) := by
  unfold State.lgSet
  extract_lets +onlyGivenNames _ _ _ _ s2
  have hs2 : Steady σ s2 := hs.setReg.setReg.foldl fun hu => hu.endSent.memberLost.ite hu.endSent.memberLost.endQueued
  exact hs2.ite (hs2.foldl .judgeMember)

theorem Steady.lgMembersWrite {i g hi v} (hs : Steady σ s) : Steady σ (s.lgMembersWrite i g hi v) :=
  (hs.openWrite .stageLo).ite (hs.takeLo.openWrite .lgSet)
theorem Steady.execLgMembersWrite {i g hi v} (hs : Steady σ s) : SteadyNext σ (execLgMembersWrite i g hi v s) :=
  (hs.begin.whenRunning .lgMembersWrite).next
theorem Steady.rebalance {g} (hs : Steady σ s) : Steady σ (s.rebalance g) :=
  hs.ite ((hs.fillPins.foldl .setBucket).foldl .relink).setGroup.bumpN
theorem Steady.execLgRebalance {a g} (hs : Steady σ s) : SteadyNext σ (execLgRebalance a g s) :=
  (hs.begin.whenRunning fun hu => hu.openWrite .rebalance).next
theorem Steady.rebalanceDone {g} (hs : Steady σ s) : Steady σ (s.rebalanceDone g) :=
  hs.ite ((hs.setGroup.foldl .setBucket).foldl fun hu => hu.memberLost.endQueued)
theorem Steady.execLgRebalanceComplete {g} (hs : Steady σ s) : SteadyNext σ (execLgRebalanceComplete g s) :=
  (hs.begin.whenRunning .rebalanceDone).next
theorem Steady.rerouteNode {n} (hs : Steady σ s) : Steady σ (s.rerouteNode n) := (hs.foldl .relink).put

theorem Steady.routeWrite {i w v} (hs : Steady σ s) : Steady σ (s.routeWrite i w v) := by
  unfold State.routeWrite
  exact hs.openWrite fun hu => hu.setReg.foldl fun hu => hu.rerouteNode.ite hu

theorem Steady.execRouteWrite {i n v} (hs : Steady σ s) : SteadyNext σ (execRouteWrite i n v s) :=
  (hs.begin.whenRunning .routeWrite).next

theorem Steady.execDiscardedResponseTimeout {n} (hs : Steady σ s) : SteadyNext σ (execDiscardedResponseTimeout n s) := by
  unfold Machine.execDiscardedResponseTimeout
  refine (hs.begin.whenRunning fun hu => ?_).next
  split
  · exact hu
  · exact hu.elapse.put.respond

theorem Steady.execCellUsSample (hs : Steady σ s) : SteadyNext σ (execCellUsSample s) :=
  (hs.begin.whenRunning fun hu => hu.elapse.foldl .meter).next

/-! ### Machine/Links.lean -/

theorem Steady.portDown {p st} (hs : Steady σ s) : Steady σ (s.portDown p st) := by
  unfold State.portDown
  extract_lets +onlyGivenNames _ _ _ _ s2
  have hs2 : Steady σ s2 := hs.setPort.setCrypt.bump32.ite hs.setPort.setCrypt
  exact hs2.put.portGone.ite hs2.put

theorem Steady.fenceNow {p} (hs : Steady σ s) : Steady σ (s.fenceNow p) := hs.portDown.setPort.put

theorem Steady.portFence {p code} (hs : Steady σ s) : Steady σ (s.portFence p code) := by
  unfold State.portFence
  refine hs.fault.ite ?_
  split
  · exact hs.fault.fenceNow
  · exact hs.fault.put.issueHalt

theorem Steady.portLost {p} (hs : Steady σ s) : Steady σ (s.portLost p) := by
  unfold State.portLost
  extract_lets +onlyGivenNames _ _ _ _ _ _ _ s5
  have hs5 : Steady σ s5 := by
    unfold s5
    refine (hs.portDown.setPort.portEvent.fault.foldl .fenceAgent).foldl fun hu => ?_
    split
    · exact hu.issueHalt.ite hu
    · exact hu
  exact hs5.portFence.ite hs5

theorem Steady.trainFail {p st} (hs : Steady σ s) : Steady σ (s.trainFail p st) := hs.setPort.portEvent
theorem Steady.startTraining {p} (hs : Steady σ s) : Steady σ (s.startTraining p) := hs.setPort

theorem Steady.portCtl {a p mode w8 en retrain} (hs : Steady σ s) : Steady σ (s.portCtl a p mode w8 en retrain) := by
  unfold State.portCtl
  refine hs.mgmtWrite fun hu => (hu.setPort.portDown.ite hu.setPort).ite ?_
  exact hu.setPort.ite (hu.setPort.startTraining.ite (hu.setPort.emit.portDown.startTraining.ite hu.setPort))

theorem Steady.execPortModeWrite {a port mode width8} (hs : Steady σ s) : SteadyNext σ (execPortModeWrite a port mode width8 s) :=
  (hs.begin.whenRunning .portCtl).next
theorem Steady.execPortEnable {i port} (hs : Steady σ s) : SteadyNext σ (execPortEnable i port s) :=
  (hs.begin.whenRunning .portCtl).next
theorem Steady.execPortDisable {i port} (hs : Steady σ s) : SteadyNext σ (execPortDisable i port s) :=
  (hs.begin.whenRunning .portCtl).next
theorem Steady.execRetrain {i port} (hs : Steady σ s) : SteadyNext σ (execRetrain i port s) :=
  (hs.begin.whenRunning .portCtl).next
theorem Steady.useLanes {p l} (hs : Steady σ s) : Steady σ (s.useLanes p l) := by
  unfold State.useLanes; exact hs.setPort

theorem Steady.electricalDone {p lanes} (hs : Steady σ s) : Steady σ (s.electricalDone p lanes) := by
  unfold State.electricalDone
  refine hs.ite ?_
  extract_lets +onlyGivenNames s1
  have hs1 : Steady σ s1 := hs.foldl fun hu => hu.setPort.ite hu
  split
  · exact hs1.trainFail
  · exact hs1.useLanes.setPort.emit

theorem Steady.execElectricalTrainingDone {port lanes} (hs : Steady σ s) :
    SteadyNext σ (execElectricalTrainingDone port lanes s) :=
  (hs.begin.whenRunning .electricalDone).next

theorem Steady.capsIn {p m} (hs : Steady σ s) : Steady σ (s.capsIn p m) := by
  unfold State.capsIn
  refine hs.ite ?_
  split
  · exact hs.trainFail
  · exact hs.setPort.setCrypt.put

theorem Steady.execCaps {port message} (hs : Steady σ s) : SteadyNext σ (execCaps port message s) :=
  (hs.begin.whenRunning .capsIn).next
theorem Steady.portUpNow {p} (hs : Steady σ s) : Steady σ (s.portUpNow p) :=
  hs.trainFail.ite (hs.put.setPort.lgTrained.ite hs.put.setPort)
theorem Steady.secured {p secret} (hs : Steady σ s) : Steady σ (s.secured p secret) :=
  hs.ite (hs.setCrypt.portUpNow.ite hs.setCrypt.put.setPort)
theorem Steady.execSecureDone {port secret} (hs : Steady σ s) : SteadyNext σ (execSecureDone port secret s) :=
  (hs.begin.whenRunning .secured).next
theorem Steady.execCalibrateDone {port delayNs asym} (hs : Steady σ s) : SteadyNext σ (execCalibrateDone port delayNs asym s) :=
  (hs.begin.whenRunning fun hu => hu.ite hu.setPort.portUpNow).next

theorem Steady.execTrainingTimeout {port} (hs : Steady σ s) : SteadyNext σ (execTrainingTimeout port s) := by
  unfold Machine.execTrainingTimeout
  refine (hs.begin.whenRunning fun hu => ?_).next
  dsimp only
  split
  · exact hu
  · exact hu.ite hu.elapse.put.trainFail

theorem Steady.execTrainingRestart {port} (hs : Steady σ s) : SteadyNext σ (execTrainingRestart port s) := by
  unfold Machine.execTrainingRestart
  refine (hs.begin.whenRunning fun hu => ?_).next
  split
  · exact hu
  · exact hu.elapse.startTraining

theorem Steady.execCxlPcieLinkUp {port rate width} (hs : Steady σ s) : SteadyNext σ (execCxlPcieLinkUp port rate width s) :=
  (hs.begin.whenRunning fun hu => hu.ite (hu.trainFail.ite (hu.useLanes.setCrypt.setPort.ite hu.useLanes.setCrypt.portUpNow))).next
theorem Steady.execCxlPcieLinkLoss {port} (hs : Steady σ s) : SteadyNext σ (execCxlPcieLinkLoss port s) :=
  (hs.begin.whenRunning fun hu => hu.ite hu.portLost).next
theorem Steady.damage {p} (hs : Steady σ s) : Steady σ (s.damage p) := by
  unfold State.damage; exact hs.ite hs.setPort.txFree
theorem Steady.takeWord {p} (hs : Steady σ s) : Steady σ (s.takeWord p) := by
  unfold State.takeWord; exact hs.put.bump.damage
theorem Steady.execUncorrectableWord {port} (hs : Steady σ s) : SteadyNext σ (execUncorrectableWord port s) :=
  (hs.begin.whenRunning fun hu => hu.ite hu.bump.damage).next
theorem Steady.execReplayTimeout {port} (hs : Steady σ s) : SteadyNext σ (execReplayTimeout port s) :=
  (hs.begin.whenRunning fun hu => hu.ite (hu.elapse.bump.portLost.ite hu.elapse.setPort.txFree)).next
theorem Steady.ackIn {p seq} (hs : Steady σ s) : Steady σ (s.ackIn p seq) := hs.ite hs.setPort.put.flushCredits
theorem Steady.execAck {port seq} (hs : Steady σ s) : SteadyNext σ (execAck port seq s) :=
  (hs.begin.whenRunning fun hu => hu.ackIn.ite hu).next
theorem Steady.nakIn {p seq} (hs : Steady σ s) : Steady σ (s.nakIn p seq) := hs.ackIn.setPort.bump.foldl .txAgain
theorem Steady.execNak {port seq} (hs : Steady σ s) : SteadyNext σ (execNak port seq s) :=
  (hs.begin.whenRunning fun hu => hu.nakIn.ite hu).next
theorem Steady.execAckSend {port} (hs : Steady σ s) : SteadyNext σ (execAckSend port s) :=
  (hs.begin.whenRunning fun hu => hu.ite (hu.ite hu.setPort.txFree)).next
theorem Steady.tagFail {p} (hs : Steady σ s) : Steady σ (s.tagFail p) := hs.setCrypt.bump.portFence.ite hs.setCrypt.bump.damage
theorem Steady.countRx {p h} (hs : Steady σ s) : Steady σ (s.countRx p h) := hs.ite (hs.bump.ite hs).setCrypt
theorem Steady.acceptFlit {p h payload} (hs : Steady σ s) : Steady σ (s.acceptFlit p h payload) :=
  hs.setPort.put.setPort.ite (hs.setPort.put.portDown.startTraining.ite hs.setPort.put)
theorem Steady.sequenced {p h payload} (hs : Steady σ s) : Steady σ (s.sequenced p h payload) :=
  (hs.damage.ite hs).ite (hs.bump.damage.ite hs.acceptFlit)

theorem Steady.flitIn {p h payload tagOk} (hs : Steady σ s) : Steady σ (s.flitIn p h payload tagOk) := by
  unfold State.flitIn
  refine hs.ite (hs.takeWord.ite ?_)
  refine hs.bump.damage.ite (hs.damage.ite ?_)
  refine hs.tagFail.ite ?_
  extract_lets +onlyGivenNames _ s2
  have hs2 : Steady σ s2 := hs.countRx.ackIn.ite (hs.countRx.nakIn.ite hs.countRx)
  exact hs2.ite hs2.sequenced

theorem Steady.execFlitReceive {port h payload tagOk} (hs : Steady σ s) : SteadyNext σ (execFlitReceive port h payload tagOk s) :=
  (hs.begin.whenRunning .flitIn).next
theorem Steady.setDegrade {p d} (hs : Steady σ s) : Steady σ (s.setDegrade p d) := by
  unfold State.setDegrade; exact hs.setPort

theorem Steady.laneFailed {p lane} (hs : Steady σ s) : Steady σ (s.laneFailed p lane) := by
  unfold State.laneFailed
  refine hs.ite ?_
  dsimp only
  split
  · exact hs.setPort.portLost
  · exact hs.setPort.emit.setDegrade

theorem Steady.execLaneFail {port lane} (hs : Steady σ s) : SteadyNext σ (execLaneFail port lane s) :=
  (hs.begin.whenRunning .laneFailed).next
theorem Steady.execDegrade {port lanes ftc} (hs : Steady σ s) : SteadyNext σ (execDegrade port lanes ftc s) :=
  (hs.begin.whenRunning fun hu => hu.ite hu.setDegrade).next

theorem Steady.execDegradeSwitch {port} (hs : Steady σ s) : SteadyNext σ (execDegradeSwitch port s) := by
  unfold Machine.execDegradeSwitch
  refine (hs.begin.whenRunning fun hu => ?_).next
  split
  · exact hu
  · exact hu.atFtc.useLanes.setPort.bump32.portEvent

theorem Steady.execRekey {port} (hs : Steady σ s) : SteadyNext σ (execRekey port s) :=
  (hs.begin.whenRunning fun hu => hu.ite hu.bump.setCrypt).next
theorem Steady.execRekeyHardLimit {port} (hs : Steady σ s) : SteadyNext σ (execRekeyHardLimit port s) :=
  (hs.begin.whenRunning fun hu => hu.portLost.ite hu).next

/-! ### Machine/Reset.lean -/

theorem Steady.endOpenOp {r o} (hs : Steady σ s) : Steady σ (s.endOpenOp r o) := by
  unfold State.endOpenOp
  refine hs.postedFails.ite ?_
  split
  · exact hs.closeOp.finishItem
  · exact hs.respondCore

theorem Steady.writeEntries {n q} (hs : Steady σ s) : Steady σ (State.writeEntries n s q) := by
  induction n generalizing s with
  | zero => exact hs
  | succ n ih => exact ih hs.writeNext

theorem Steady.endOpen {st reason} (hs : Steady σ s) : Steady σ (s.endOpen st reason) :=
  hs.foldl (fun hu => hu.foldl .revertBlocks) |>.foldl .endOpenOp |>.foldl .writeEntries |>.foldl .endWaitCore
    |>.foldl .respondCore |>.foldl .respondCore |>.foldl .respondCore |>.foldl .respondCore |>.foldl .respondCore
    |>.foldl .refuseFrame
theorem Steady.noteReset {c warm} (hs : Steady σ s) : Steady σ (s.noteReset c warm) :=
  (hs.setNum.setNum.bump32.ite hs.setNum.setNum).put

theorem Steady.emptySlots (hs : Steady σ s) : Steady σ s.emptySlots := by
  unfold State.emptySlots
  refine hs.foldl fun hu => ?_
  split
  · exact hu.planEmpty
  · exact hu

/-- A warm reset keeps the bytes of the pool and loses those of SRAM (R532). -/
theorem Steady.warmKeep (hs : Steady σ s) : Steady σ s.warmKeep :=
  ⟨hs.chip, hs.pending, hs.now, fun h => ⟨(hs.bytes h).1, rfl⟩⟩

theorem Steady.warmReset {c} (hs : Steady σ s) : Steady σ (s.warmReset c) :=
  (hs.foldl .cancelMove).endOpen.emptySlots.destroyKeys.warmKeep.noteReset.put

/-- A cold reset leaves the part itself, and no byte of either memory. -/
theorem Steady.coldReset {c} (hs : Steady σ s) : Steady σ (s.coldReset c) := by
  refine Steady.put (Steady.noteReset ?_)
  exact ⟨hs.chip, hs.pending, hs.now, fun _ => ⟨rfl, rfl⟩⟩

theorem Steady.resetIfQuiet (hs : Steady σ s) : Steady σ s.resetIfQuiet := by
  unfold State.resetIfQuiet
  split
  · exact hs
  · exact hs.warmReset.ite hs

theorem Steady.commandWarm {c} (hs : Steady σ s) : Steady σ (s.commandWarm c) := by
  unfold State.commandWarm
  exact hs.foldl .windowOff |>.foldl .streamOff |>.foldl .vsOff |>.foldl (fun hu => hu.vsEnd.ite hu) |>.foldl .windowDone
    |>.put.resetIfQuiet

theorem Steady.loseLines (hs : Steady σ s) : Steady σ s.loseLines := by
  unfold State.loseLines
  extract_lets +onlyGivenNames s1
  have hs1 : Steady σ s1 := by
    unfold s1
    refine hs.foldl fun hu => ?_
    split
    · exact hu.ite hu.poisonLine
    · exact hu
  exact hs1.put

theorem Steady.brownout {trip arg} (hs : Steady σ s) : Steady σ (s.brownout trip arg) :=
  (((hs.foldl .issueHalt).foldl .cancelMove).loseLines.endOpen.destroyKeys.foldl fun hu => hu.ite hu.portDown).bump32.put

/-! ### Machine/Units.lean -/

theorem Steady.unitOutcome {l st} (hs : Steady σ s) : Steady σ (s.unitOutcome l st) := hs.setNum.setNum

theorem Steady.takeBack {f id t} (hs : Steady σ s) : Steady σ (s.takeBack f id t) := by
  unfold State.takeBack
  split
  · exact hs
  · exact hs.setItem.returnTask

theorem Steady.itemBack {id own group} (hs : Steady σ s) : Steady σ (s.itemBack id own group) := by
  unfold State.itemBack
  split
  · exact hs
  · exact hs.ite hs.setItem

theorem Steady.loseFloret {f} (hs : Steady σ s) : Steady σ (s.loseFloret f) := by
  unfold State.loseFloret
  extract_lets +onlyGivenNames _ s1
  have hs1 : Steady σ s1 := by
    unfold s1
    split
    · exact hs.returnTask
    · exact hs
  exact (((hs1.foldl .takeBack).foldl fun hu => (hu.returnTask.ite hu).itemBack).foldl .endWait).put.setFloret

theorem Steady.loseArbiter {k} (hs : Steady σ s) : Steady σ (s.loseArbiter k) :=
  (hs.foldl fun hu => hu.setReg.setReg).setReg.setReg.put
theorem Steady.loseCluster {c} (hs : Steady σ s) : Steady σ (s.loseCluster c) := hs.put.foldl .loseArbiter
theorem Steady.loseQuadrant {d q} (hs : Steady σ s) : Steady σ (s.loseQuadrant d q) :=
  hs.foldl fun hu => hu.setItem.settleItem.ite hu.setItem

theorem Steady.loseUnit {l} (hs : Steady σ s) : Steady σ (s.loseUnit l) := by
  unfold State.loseUnit
  dsimp only
  split
  · exact hs.loseFloret
  · exact hs.loseCluster
  · exact hs.loseQuadrant
  · exact hs.hcuLose.loseArbiter.ite hs.hcuLose
  · exact hs.foldl fun hu => hu.foldl .failReq
  · refine hs.foldl fun hu => ?_
    split
    · exact hu.endVquery
    · exact hu
  · refine hs.foldl fun hu => ?_
    split
    · exact hu.endVquery
    · exact hu
  · refine hs.foldl fun hu => ?_
    split
    · exact hu.endVquery
    · exact hu
  · exact hs.ite hs.portDown
  · exact hs

theorem Steady.startUnit {l} (hs : Steady σ s) : Steady σ (s.startUnit l) := by
  unfold State.startUnit
  split
  · exact hs.startTraining.ite hs
  · exact hs

theorem Steady.resetUnits {us} (hs : Steady σ s) : Steady σ (s.resetUnits us) := (hs.put.setStates.foldl .loseUnit).foldl .setUnit

theorem Steady.unitFirmware {l} (hs : Steady σ s) : Steady σ (s.unitFirmware l) := by
  unfold State.unitFirmware
  split
  · exact hs
  · dsimp only
    split
    · exact hs.put.measurementsUpdated.ite hs
    · exact hs.put.measurementsUpdated.ite hs
    · exact hs

theorem Steady.unitDo {c l} (hs : Steady σ s) : Steady σ (s.unitDo c l) := by
  unfold State.unitDo
  dsimp only
  split
  · exact hs.setStates.put
  · exact hs.setStates.put
  · exact hs.setStates.unitOutcome
  · exact hs.unitOutcome.commandWarm.ite (hs.resetUnits.foldl .startUnit).put
  · exact hs.resetUnits.setStates.unitOutcome
  · refine (hs.setStates.foldl fun hu => ?_).put
    split
    · exact hu.zeroClusterSram
    · exact hu.startUnit
  · exact (hs.resetUnits.foldl .startUnit).put

theorem Steady.unitCommand {u c} (hs : Steady σ s) : Steady σ (s.unitCommand u c) := by
  unfold State.unitCommand
  split
  · exact hs.answer
  · refine hs.answer.ite (hs.answer.ite ?_)
    refine hs.emit.ite ?_
    split
    · exact hs.unitOutcome.answer
    · exact hs.unitDo.answer

theorem Steady.unitWrite {p u c} (hs : Steady σ s) : Steady σ (s.unitWrite p u c) := hs.takeArm.unitCommand
theorem Steady.execUnitQuiesce {p u} (hs : Steady σ s) : SteadyNext σ (execUnitQuiesce p u s) :=
  (hs.begin.whenRunning .unitWrite).next
theorem Steady.execUnitResume {p u} (hs : Steady σ s) : SteadyNext σ (execUnitResume p u s) :=
  (hs.begin.whenRunning .unitWrite).next
theorem Steady.execUnitReset {p u} (hs : Steady σ s) : SteadyNext σ (execUnitReset p u s) :=
  (hs.begin.whenRunning .unitWrite).next
theorem Steady.execUnitPowerDown {p u} (hs : Steady σ s) : SteadyNext σ (execUnitPowerDown p u s) :=
  (hs.begin.whenRunning .unitWrite).next
theorem Steady.execUnitPowerUp {p u} (hs : Steady σ s) : SteadyNext σ (execUnitPowerUp p u s) :=
  (hs.begin.whenRunning .unitWrite).next
theorem Steady.execUnitUpdateBegin {p u} (hs : Steady σ s) : SteadyNext σ (execUnitUpdateBegin p u s) :=
  (hs.begin.whenRunning .unitWrite).next
theorem Steady.execUnitUpdateEnd {p u} (hs : Steady σ s) : SteadyNext σ (execUnitUpdateEnd p u s) :=
  (hs.begin.whenRunning .unitWrite).next

theorem Steady.endDrain {c} (hs : Steady σ s) : Steady σ (s.endDrain c) := by
  unfold State.endDrain
  refine hs.setStates.put.ite ?_
  split
  · exact hs.setStates.put.unitOutcome
  · exact hs.setStates.put

theorem Steady.quiesceDrained {u} (hs : Steady σ s) : Steady σ (s.quiesceDrained u) := by
  unfold State.quiesceDrained
  split
  · exact hs
  · exact hs.endDrain.ite hs

theorem Steady.execQuiesceDrained {u} (hs : Steady σ s) : SteadyNext σ (execQuiesceDrained u s) :=
  (hs.begin.whenRunning .quiesceDrained).next

theorem Steady.execQuiesceTimeout {u} (hs : Steady σ s) : SteadyNext σ (execQuiesceTimeout u s) := by
  unfold Machine.execQuiesceTimeout
  refine (hs.begin.whenRunning fun hu => ?_).next
  split
  · exact hu.elapse.endDrain.ite hu.elapse.put.unitOutcome
  · exact hu

theorem Steady.execUnitResetComplete {u} (hs : Steady σ s) : SteadyNext σ (execUnitResetComplete u s) := by
  unfold Machine.execUnitResetComplete
  refine (hs.begin.whenRunning fun hu => ?_).next
  split
  · extract_lets +onlyGivenNames _ t1
    have ht1 : Steady σ t1 := hu.setStates.unitOutcome
    exact ht1.put.unitFirmware.ite ht1.put
  · exact hu

theorem Steady.containDue (hs : Steady σ s) : Steady σ s.containDue := by
  unfold State.containDue
  refine hs.ite (hs.put.foldl fun hu => ?_)
  refine hu.fenceNow.ite ?_
  split
  · exact hu.startContain
  · exact hu

theorem Steady.execContainmentTimeout {u} (hs : Steady σ s) : SteadyNext σ (execContainmentTimeout u s) := by
  unfold Machine.execContainmentTimeout
  refine (hs.begin.whenRunning fun hu => ?_).next
  split
  · exact hu
  · exact hu.elapse.endDrain.ite (hu.elapse.foldl .loseUnit).endDrain

theorem Steady.execUnitHangTimeout {u} (hs : Steady σ s) : SteadyNext σ (execUnitHangTimeout u s) := by
  unfold Machine.execUnitHangTimeout
  refine (hs.begin.whenRunning fun hu => ?_).next
  split
  · exact hu
  · exact hu.containUnit.ite hu

theorem Steady.portUnfence {t : State} {a port} (hs : Steady σ t) : Steady σ (t.portUnfence a port) := by
  unfold State.portUnfence
  dsimp only
  split
  · exact hs.mgmtWrite .put
  · exact hs.openWrite .put

theorem Steady.execPortUnfence {a port} (hs : Steady σ s) : SteadyNext σ (execPortUnfence a port s) :=
  (hs.begin.whenRunning .portUnfence).next

/-! ### Machine/PlanRows.lean -/

theorem Steady.execArmDecision {slot} (hs : Steady σ s) : SteadyNext σ (execArmDecision slot s) :=
  (hs.begin.whenRunning .armDecide).containDue.next
theorem Steady.execPlanDisarm {a slot} (hs : Steady σ s) : SteadyNext σ (execPlanDisarm a slot s) :=
  (hs.begin.whenRunning .planDisarm).containDue.next
theorem Steady.execDisarmReceived {planId} (hs : Steady σ s) : SteadyNext σ (execDisarmReceived planId s) :=
  (hs.begin.whenRunning .memberDisarm).containDue.next

theorem Steady.execHaltTakesEffect {slot} (hs : Steady σ s) : SteadyNext σ (execHaltTakesEffect slot s) := by
  unfold Machine.execHaltTakesEffect
  refine Steady.next ?_
  refine (hs.begin.whenRunning fun hu => ?_).containDue
  dsimp only
  split
  · exact hu
  · split
    · exact hu
    · exact hu.ite (hu.ite hu.atTick.haltEffect)

theorem Steady.execPlanTick {slot slacks} (hs : Steady σ s) : SteadyNext σ (execPlanTick slot slacks s) :=
  (hs.begin.whenRunning .planStep).containDue.next
theorem Steady.execSlipQuantumEnd {slot} (hs : Steady σ s) : SteadyNext σ (execSlipQuantumEnd slot s) :=
  (hs.begin.whenRunning fun hu => hu.planStep.ite hu).containDue.next

theorem Steady.execRotationsComplete {slot} (hs : Steady σ s) : SteadyNext σ (execRotationsComplete slot s) := by
  unfold Machine.execRotationsComplete
  refine Steady.next ?_
  refine (hs.begin.whenRunning fun hu => ?_).containDue
  dsimp only
  split
  · exact hu
  · exact hu.planStop.ite hu

theorem Steady.execHaltToken {port h} (hs : Steady σ s) : SteadyNext σ (execHaltToken port h s) :=
  (hs.begin.whenRunning .haltArrives).containDue.next
theorem Steady.execHoldoverExpiry (hs : Steady σ s) : SteadyNext σ (execHoldoverExpiry s) :=
  (hs.begin.whenRunning fun hu => hu.ite hu.elapse.timeLost).containDue.next
theorem Steady.execWindowDisableComplete {w} (hs : Steady σ s) : SteadyNext σ (execWindowDisableComplete w s) :=
  (hs.begin.whenRunning fun hu => hu.windowDone.resetIfQuiet).next
theorem Steady.execVsDisableComplete {index} (hs : Steady σ s) : SteadyNext σ (execVsDisableComplete index s) :=
  (hs.begin.whenRunning fun hu => hu.vsDone.resetIfQuiet).next

/-! ### Machine/Power.lean -/

theorem Steady.execPowerUp {mv} (hs : Steady σ s) : SteadyNext σ (execPowerUp mv s) := (hs.begin.put.ite hs.begin).next
theorem Steady.execSoftStartDone (hs : Steady σ s) : SteadyNext σ (execSoftStartDone s) :=
  (hs.begin.ite (hs.begin.put.ite hs.begin.coldReset)).next
theorem Steady.powerEvent (hs : Steady σ s) : Steady σ s.powerEvent := by
  unfold State.powerEvent; exact hs.free.eventOpen
theorem Steady.setPowerEvents {b} (hs : Steady σ s) : Steady σ (s.setPowerEvents b) := hs.put

theorem Steady.powerMonitor {watts} (hs : Steady σ s) : Steady σ (s.powerMonitor watts) := by
  unfold State.powerMonitor
  refine .ite ?_ (hs.put.put.ite hs.put)
  dsimp only
  split
  · exact hs.put.put
  · exact hs.put.put.put.setPowerEvents.powerEvent

theorem Steady.execPowerMonitorTick {watts} (hs : Steady σ s) : SteadyNext σ (execPowerMonitorTick watts s) :=
  (hs.begin.whenRunning .powerMonitor).next

theorem Steady.sagSample {mv warnLow} (hs : Steady σ s) : Steady σ (s.sagSample mv warnLow) := by
  unfold State.sagSample
  refine hs.put.ite ?_
  extract_lets +onlyGivenNames _ _ _ s2
  have hs2 : Steady σ s2 := (hs.put.setPowerEvents.bump.powerEvent.ite hs.put.setPowerEvents).put.ite hs.put
  exact hs2.brownout.ite hs2

theorem Steady.execSagSample {mv warnLow} (hs : Steady σ s) : SteadyNext σ (execSagSample mv warnLow s) := hs.begin.sagSample.next
theorem Steady.applyStored (hs : Steady σ s) : Steady σ s.applyStored := hs.ite (hs.put.foldl .setClusterClock)

theorem Steady.releaseStep (hs : Steady σ s) : Steady σ s.releaseStep := by
  unfold State.releaseStep
  dsimp only
  split
  · exact hs.elapse.put.applyStored.ite hs.elapse.put
  · exact hs.elapse.put.applyStored.ite hs.elapse.put
  · exact hs

theorem Steady.execThrottleRelease (hs : Steady σ s) : SteadyNext σ (execThrottleRelease s) :=
  (hs.begin.whenRunning .releaseStep).next
theorem Steady.execBrownoutRecovery (hs : Steady σ s) : SteadyNext σ (execBrownoutRecovery s) :=
  (hs.begin.warmReset.ite hs.begin).next

theorem Steady.execBrownoutLoss {mv} (hs : Steady σ s) : SteadyNext σ (execBrownoutLoss mv s) := by
  unfold Machine.execBrownoutLoss
  refine (hs.begin.ite ?_).next
  split
  · exact hs.begin.put
  · exact hs.begin.put
  · exact hs.begin.put
  · exact hs.begin.put
  · exact hs.begin

theorem Steady.thermalSample {c16} (hs : Steady σ s) : Steady σ (s.thermalSample c16) :=
  hs.put.ite (hs.put.brownout.ite (hs.put.put.setPowerEvents.powerEvent.ite hs.put))
theorem Steady.execThermalSample {c16} (hs : Steady σ s) : SteadyNext σ (execThermalSample c16 s) := hs.begin.thermalSample.next
theorem Steady.setThermal {dyn static} (hs : Steady σ s) : Steady σ (s.setThermal dyn static) := hs.put
theorem Steady.thermalMs (hs : Steady σ s) : Steady σ s.thermalMs :=
  (hs.setThermal.ite (hs.setThermal.ite hs)).ite (hs.ite (hs.setThermal.ite hs.setThermal))
theorem Steady.thermalEnd (hs : Steady σ s) : Steady σ s.thermalEnd := hs.put.applyStored.ite hs
theorem Steady.thermalStep (hs : Steady σ s) : Steady σ s.thermalStep := hs.ite hs.elapse.put.thermalMs.thermalEnd
theorem Steady.execThermalThrottleStep (hs : Steady σ s) : SteadyNext σ (execThermalThrottleStep s) :=
  (hs.begin.whenRunning .thermalStep).next

theorem Steady.referenceCheck {s0 : State} {ppb parentPpb stopped} (hs : Steady σ s0) :
    Steady σ (s0.referenceCheck ppb parentPpb stopped) := by
  unfold State.referenceCheck
  extract_lets +onlyGivenNames s
  have hs : Steady σ s := by
    unfold s
    split
    · exact hs
    · exact hs.setNum
  exact hs.ite ((hs.foldl .planContain).foldl fun hu => hu.ite hu.portDown).fault.warmReset.put.setNum

theorem Steady.execReferenceMonitor {ppb parentPpb stopped} (hs : Steady σ s) :
    SteadyNext σ (execReferenceMonitor ppb parentPpb stopped s) :=
  (hs.begin.whenRunning .referenceCheck).next

theorem Steady.clockRequest {p cluster mhz} (hs : Steady σ s) : Steady σ (s.clockRequest p cluster mhz) := by
  unfold State.clockRequest
  exact hs.openWrite fun hu => hu.setNum.put.ite (hu.setNum.put.ite hu.setNum.put.setClusterClock)

theorem Steady.execClockRequestWrite {p cluster mhz} (hs : Steady σ s) : SteadyNext σ (execClockRequestWrite p cluster mhz s) :=
  (hs.begin.whenRunning .clockRequest).next
theorem Steady.railSettled {q} (hs : Steady σ s) : Steady σ (s.railSettled q) :=
  hs.put.free.put.ite (hs.put.free.put.foldl .setClusterClock)
theorem Steady.execRailSettled {quadrant} (hs : Steady σ s) : SteadyNext σ (execRailSettled quadrant s) :=
  (hs.begin.whenRunning fun hu => hu.railSettled.ite hu).next
theorem Steady.execColdResetPin (hs : Steady σ s) : SteadyNext σ (execColdResetPin s) := hs.begin.put.next
theorem Steady.execColdResetRelease (hs : Steady σ s) : SteadyNext σ (execColdResetRelease s) :=
  (hs.begin.put.coldReset.ite hs.begin.put).next
theorem Steady.resetGate {f : State → State} {a} (hs : Steady σ s) (hf : ∀ {t}, Steady σ t → Steady σ (f t)) :
    Steady σ (s.resetGate a f) :=
  (hf hs).ite hs
theorem Steady.execResetCommandWarm {a} (hs : Steady σ s) : SteadyNext σ (execResetCommandWarm a s) :=
  (hs.begin.resetGate fun hu => hu.mgmtWrite .commandWarm).next
theorem Steady.execResetCommandCold {a} (hs : Steady σ s) : SteadyNext σ (execResetCommandCold a s) :=
  (hs.begin.resetGate fun hu => hu.mgmtWrite .coldReset).next
theorem Steady.watchdogStart (hs : Steady σ s) : Steady σ s.watchdogStart := hs.put
theorem Steady.execHeartbeat {part} (hs : Steady σ s) : SteadyNext σ (execHeartbeat part s) :=
  (hs.begin.whenRunning fun hu => hu.put.ite hu).next
theorem Steady.execWatchdogRestart (hs : Steady σ s) : SteadyNext σ (execWatchdogRestart s) :=
  (hs.begin.whenRunning fun hu => hu.watchdogStart.ite hu).next
theorem Steady.execWatchdogWarning (hs : Steady σ s) : SteadyNext σ (execWatchdogWarning s) :=
  (hs.begin.whenRunning fun hu => hu.ite hu.elapse.put.fault).next
theorem Steady.execWatchdogExpiry (hs : Steady σ s) : SteadyNext σ (execWatchdogExpiry s) :=
  (hs.begin.whenRunning fun hu => hu.elapse.put.warmReset.bump32.setNum).next
theorem Steady.execDimmOvercurrent {dimm} (hs : Steady σ s) : SteadyNext σ (execDimmOvercurrent dimm s) :=
  (hs.begin.whenRunning fun hu => hu.ite hu.put.channelFailed).next
theorem Steady.execDimmFeedLow (hs : Steady σ s) : SteadyNext σ (execDimmFeedLow s) :=
  (hs.begin.whenRunning fun hu => hu.put.foldl .channelFailed).next
theorem Steady.fuseReread {changed} (hs : Steady σ s) : Steady σ (s.fuseReread changed) :=
  hs.elapse.put.setNum.foldl fun hu => hu.bump32.fault.ite (hu.put.ite hu)
theorem Steady.execFuseReread {changed} (hs : Steady σ s) : SteadyNext σ (execFuseReread changed s) :=
  (hs.begin.whenRunning .fuseReread).next
theorem Steady.lateFault {code arg ftc} (hs : Steady σ s) : Steady σ (s.lateFault code arg ftc) := hs.fault.put

theorem Steady.bootFive {b} (hs : Steady σ s) : Steady σ (s.bootFive b) := by
  unfold State.bootFive
  extract_lets +onlyGivenNames _ _ _ s2 s3
  have hs2 : Steady σ s2 := by
    unfold s2
    split
    · exact hs.put.lateFault
    · exact hs.put
  have hs3 : Steady σ s3 := by
    unfold s3
    split
    · exact hs2.lateFault
    · exact hs2
  exact hs3.put.watchdogStart

theorem Steady.bootSix {cold channels feedLow} (hs : Steady σ s) : Steady σ (s.bootSix cold channels feedLow) :=
  hs.put.foldl fun hu => hu.ite (hu.setChan.ite (hu.channelFailed.ite hu))
theorem Steady.bootSeven {failed} (hs : Steady σ s) : Steady σ (s.bootSeven failed) :=
  (hs.put.foldl fun hu => hu.ite hu.setStates.fault).foldl fun hu => hu.ite hu.startUnit

theorem Steady.boot {k bankOk failed channels fuses feedLow} (hs : Steady σ s) :
    Steady σ (s.boot k bankOk failed channels fuses feedLow) := by
  unfold State.boot
  refine (hs.put.ite hs).put.ite (((hs.put.ite hs).bump32.ite (hs.put.ite hs)).put.bootFive.bootSix.bootSeven.ite ?_)
  exact ((hs.put.ite hs).bump32.ite (hs.put.ite hs)).put.bootFive.bootSix.bootSeven.ite (hs.put.ite hs).put

theorem Steady.execBoot {bankOk failed channels fuses feedLow} (hs : Steady σ s) :
    SteadyNext σ (execBoot bankOk failed channels fuses feedLow s) := by
  unfold Machine.execBoot
  refine Steady.next ?_
  split
  · exact hs.begin.boot
  · exact hs.begin

/-! ### Machine/Inject.lean -/

theorem Steady.lockedWrite {eff : State → State} {p index check} (hs : Steady σ s) (heff : ∀ {t}, Steady σ t → Steady σ (eff t)) :
    Steady σ (s.lockedWrite p index check eff) :=
  hs.openWrite heff
theorem Steady.setInjection {e x} (hs : Steady σ s) : Steady σ (s.setInjection e x) := hs.put

theorem Steady.injectArm {t : State} {p} (hs : Steady σ t) : Steady σ (t.injectArm p) := by
  unfold State.injectArm
  exact hs.openWrite .setInjection

theorem Steady.execInjectArm {p} (hs : Steady σ s) : SteadyNext σ (execInjectArm p s) := (hs.begin.whenRunning .injectArm).next

theorem Steady.injectCancel {t : State} {p} (hs : Steady σ t) : Steady σ (t.injectCancel p) := by
  unfold State.injectCancel
  exact hs.openWrite .setInjection

theorem Steady.execInjectCancel {p} (hs : Steady σ s) : SteadyNext σ (execInjectCancel p s) :=
  (hs.begin.whenRunning .injectCancel).next
theorem Steady.injectOff (hs : Steady σ s) : Steady σ s.injectOff := hs.setNum.foldl .setInjection
theorem Steady.execInjectDisable {p} (hs : Steady σ s) : SteadyNext σ (execInjectDisable p s) :=
  (hs.begin.whenRunning fun hu => hu.lockedWrite .injectOff).next
theorem Steady.injectSag {us} (hs : Steady σ s) : Steady σ (s.injectSag us) :=
  (hs.setPowerEvents.bump.powerEvent.ite hs.setPowerEvents).put
theorem Steady.injectSlip {n} (hs : Steady σ s) : Steady σ (s.injectSlip n) := hs.setSlot.slipIssue

theorem Steady.injectEffect {x l} (hs : Steady σ s) : SteadyOk σ (s.injectEffect x l) := by
  unfold State.injectEffect
  split
  · exact hs.put.ok
  · exact hs.laneFailed.ok
  · exact hs.bump.portLost.ok.ite .error
  · exact hs.put.ok
  · exact hs.put.ok
  · exact hs.injectSag.ok
  · exact hs.injectSlip.ok.ite .error
  · split
    · exact .error
    · exact hs.unitDo.ok
  · exact .error

theorem Steady.injectFire {e} (hs : Steady σ s) : Steady σ (s.injectFire e) := by
  unfold State.injectFire
  refine hs.ite ?_
  dsimp only
  split
  · exact hs.atFtc.setInjection
  · split
    · exact hs.atFtc.setInjection
    · next t e =>
      have ht : Steady σ t := hs.atFtc.setInjection.put.injectEffect _ e
      exact ht.put

theorem Steady.execInjectFire {entry} (hs : Steady σ s) : SteadyNext σ (execInjectFire entry s) :=
  (hs.begin.whenRunning .injectFire).next
theorem Steady.toMs (hs : Steady σ s) : Steady σ s.toMs := hs.elapse
theorem Steady.sampleOwner {k} (hs : Steady σ s) : Steady σ (s.sampleOwner k) :=
  hs.ite (hs.meter.meter.ite hs.bumpN.bumpN.bumpN.bumpN.bumpN)
theorem Steady.execMeterSample (hs : Steady σ s) : SteadyNext σ (execMeterSample s) :=
  (hs.begin.whenRunning fun hu => hu.toMs.foldl .sampleOwner).next
theorem Steady.execMeterModeSwitch (hs : Steady σ s) : SteadyNext σ (execMeterModeSwitch s) :=
  (hs.begin.whenRunning fun hu => (hu.elapse.ite hu).put).next
theorem Steady.execManagementLaneLinkChange {lane} (hs : Steady σ s) : SteadyNext σ (execManagementLaneLinkChange lane s) :=
  (hs.begin.setNum.ite hs.begin).next

/-! ### Machine/RegView.lean -/

theorem Steady.setMbx {m x} (hs : Steady σ s) : Steady σ (s.setMbx m x) := hs.put
theorem Steady.setBus {b x} (hs : Steady σ s) : Steady σ (s.setBus b x) := hs.put

theorem Steady.csrRead {i off} (hs : Steady σ s) : Steady σ (s.csrRead i off).2 := by
  unfold State.csrRead
  split
  · exact hs.busError
  · exact hs

/-! ### Machine/ObjView.lean -/

theorem Steady.setSensor {n x} (hs : Steady σ s) : Steady σ (s.setSensor n x) := hs.put

/-! ### Machine/Fields.lean -/

theorem Steady.partField {a addr n bad f} (hs : Steady σ s) : Steady σ (s.partField a addr n bad f) := hs.mgmtWrite .setPart
theorem Steady.layerField {a addr n bad f} (hs : Steady σ s) : Steady σ (s.layerField a addr n bad f) := hs.mgmtWrite .setPart
theorem Steady.storeField {a addr t bad f} (hs : Steady σ s) : Steady σ (s.storeField a addr t bad f) := hs.mgmtWrite .setStore
theorem Steady.winField {a addr w bad f} (hs : Steady σ s) : Steady σ (s.winField a addr w bad f) := hs.mgmtWrite .setWindow
theorem Steady.agentField {a n node port tenant} (hs : Steady σ s) : Steady σ (s.agentField a n node port tenant) :=
  hs.mgmtWrite .setAgent
theorem Steady.streamField {a addr n bad f} (hs : Steady σ s) : Steady σ (s.streamField a addr n bad f) := hs.mgmtWrite .setStream
theorem Steady.replayField {a p ns n} (hs : Steady σ s) : Steady σ (s.replayField a p ns n) := hs.mgmtWrite .setPort

/-! ### Machine/Waits.lean -/

theorem Steady.writeDump (hs : Steady σ s) : Steady σ s.writeDump := hs.ite hs.serviceWrite.setNum.put

theorem Steady.execWaitTimeout {id} (hs : Steady σ s) : SteadyNext σ (execWaitTimeout id s) := by
  unfold Machine.execWaitTimeout
  refine (hs.begin.whenRunning fun hu => ?_).next
  split
  · exact hu
  · exact hu.elapse.writeDump.endWait

theorem Steady.execWaitDumpComplete (hs : Steady σ s) : SteadyNext σ (execWaitDumpComplete s) := by
  unfold Machine.execWaitDumpComplete
  refine (hs.begin.whenRunning fun hu => ?_).next
  split
  · exact hu
  · exact hu.ite hu.put.fault.eventOpen

theorem Steady.waitBreak {p n} (hs : Steady σ s) : Steady σ (s.waitBreak p n) := by
  unfold State.waitBreak
  exact hs.openWrite fun hu => hu.foldl .endWait

theorem Steady.execWaitBreak {p dump} (hs : Steady σ s) : SteadyNext σ (execWaitBreak p dump s) :=
  (hs.begin.whenRunning .waitBreak).next

/-! ### Machine/DictRead.lean -/

theorem Steady.markRead {index sub} (hs : Steady σ s) : Steady σ (s.markRead index sub) := hs.put.ite hs
theorem Steady.openStatus (hs : Steady σ s) : Steady σ s.openStatus.2 := hs.free
theorem Steady.whenServed {f : State → State} (hs : Steady σ s) (hf : ∀ {t}, Steady σ t → Steady σ (f t)) :
    Steady σ (s.whenServed f) :=
  (hf hs).ite hs

theorem Steady.readValue {o index sub off most} (hs : Steady σ s) : Steady σ (s.readValue o index sub off most).2 := by
  unfold State.readValue
  dsimp only
  split
  · refine .ite_snd hs (.ite_snd ?_ ?_)
    · exact hs.openBytes
    · exact hs.markRead
  · exact .ite_snd hs hs.markRead

theorem Steady.dictRead {index sub off most} (hs : Steady σ s) : Steady σ (s.dictRead index sub off most).2 := by
  unfold State.dictRead
  refine .ite_snd hs.openStatus (.ite_snd hs (.ite_snd hs ?_))
  dsimp only
  split
  · exact hs
  · exact hs.emit.openStatus
  · refine .ite_snd ?_ ?_
    · split
      · exact hs
      · exact .ite_snd hs hs
    · split
      · exact hs
      · exact .ite_snd hs hs.readValue

/-! ### Machine/DictWrite.lean -/

theorem Steady.keepObj {k n bad} (hs : Steady σ s) : Steady σ (s.keepObj k n bad) := by
  unfold State.keepObj
  split
  · exact hs.answer
  · exact hs.setNum.answer

theorem Steady.judged {f : State → State} {bad} (hs : Steady σ s) (hf : ∀ {t}, Steady σ t → Steady σ (f t)) :
    Steady σ (s.judged bad f) := by
  unfold State.judged
  split
  · exact hs.answer
  · exact (hf hs).answer

theorem Steady.runs {f : State → Result} (hs : Steady σ s) (hf : ∀ {t}, Steady σ t → SteadyNext σ (f t)) :
    Steady σ (s.runs f) := by
  unfold State.runs
  split
  · next t e =>
    have ht : Steady σ t := (hf hs) _ e
    exact ht.put
  · exact hs

theorem Steady.writeUnit {p l sub n} (hs : Steady σ s) : Steady σ (s.writeUnit p l sub n) := by
  unfold State.writeUnit
  refine .ite ?_ ?_
  · split
    · exact hs.unitCommand
    · exact hs.answer
  · refine hs.keepObj.ite ?_
    split
    · exact hs.clockRequest.ite hs.keepObj
    · exact hs.keepObj.ite (hs.keepObj.ite (hs.waitBreak.ite hs.keepObj))
    · exact hs.keepObj

theorem Steady.unlock {p n} (hs : Steady σ s) : Steady σ (s.unlock p n) := hs.setPath.answer.ite hs.setPath.answer
theorem Steady.raiseEvent {n} (hs : Steady σ s) : Steady σ (s.raiseEvent n) := hs.judged fun hu => hu.free.event

theorem Steady.writeEvents {sub n} (hs : Steady σ s) : Steady σ (s.writeEvents sub n) := by
  unfold State.writeEvents
  dsimp only
  split
  · exact hs.raiseEvent
  · exact hs.keepObj
  · exact hs.judged .setVector
  · exact hs.judged .setVector
  · exact hs.judged .setVector
  · exact hs.judged .setVector
  · exact hs.judged .setVector
  · exact hs.judged .setVector
  · exact hs.judged .setVector
  · exact hs.keepObj

theorem Steady.writeSide {sub n} (hs : Steady σ s) : Steady σ (s.writeSide sub n) := by
  unfold State.writeSide
  dsimp only
  split
  · exact hs.judged .setSensor
  · exact hs.judged .setSensor
  · exact hs.keepObj

theorem Steady.writePackage {sub n} (hs : Steady σ s) : Steady σ (s.writePackage sub n) :=
  hs.keepObj.ite ((hs.judged fun hu => hu.commandWarm.ite hu.coldReset).ite hs.keepObj)

theorem Steady.writePort {p port sub n} (hs : Steady σ s) : Steady σ (s.writePort p port sub n) := by
  unfold State.writePort
  dsimp only
  split
  · exact hs.answer.ite hs.portCtl
  · exact hs.replayField
  · exact hs.replayField
  · exact hs.keepObj
  · exact hs.keepObj
  · exact hs.keepObj

theorem Steady.writePlan {p slot sub n} (hs : Steady σ s) : Steady σ (s.writePlan p slot sub n) := by
  unfold State.writePlan
  refine .ite ?_ hs.keepObj
  split
  · exact hs.runs .execPlanLoad
  · exact hs.runs .execPlanArm
  · exact hs.planDisarm
  · exact hs.planHalt
  · exact hs.planHalt
  · exact hs.runs .execPlanResume
  · exact hs.runs .execPlanReset
  · exact hs.runs .execPlanUnload
  · exact hs.answer

theorem Steady.writePart {p k sub n} (hs : Steady σ s) : Steady σ (s.writePart p k sub n) := by
  unfold State.writePart
  dsimp only
  split
  · exact hs.partField
  · exact hs.partField
  · exact hs.partField
  · exact hs.partField
  · exact hs.partField
  · exact hs.partField
  · exact hs.partField
  · exact hs.partField
  · exact hs.partField
  · exact hs.partField
  · exact hs.partBind.ite (hs.partUnbind.ite hs.partRepair)
  · exact hs.judged .setPart
  · exact hs.layerField
  · exact hs.layerField
  · exact hs.judged .setPart

theorem Steady.writeStore {p t sub n} (hs : Steady σ s) : Steady σ (s.writeStore p t sub n) := by
  unfold State.writeStore
  dsimp only
  split
  · exact hs.storeField
  · exact hs.storeEnable.ite hs.storeDisable
  · exact hs.storeField
  · exact hs.storeField
  · exact hs.judged .setStore

theorem Steady.writeWindow {p w sub n} (hs : Steady σ s) : Steady σ (s.writeWindow p w sub n) := by
  unfold State.writeWindow
  dsimp only
  split
  · exact hs.winField
  · exact hs.winField
  · exact hs.winField
  · exact hs.winField
  · exact (hs.runs .execWindowEnable).ite (hs.runs .execWindowDisable)

theorem Steady.writeAgent {p k sub n} (hs : Steady σ s) : Steady σ (s.writeAgent p k sub n) := by
  unfold State.writeAgent
  dsimp only
  split
  · exact hs.agentField
  · exact hs.agentField
  · exact hs.agentField
  · exact (hs.runs .execAgentUnregister).ite (hs.runs .execAgentRegister)

theorem Steady.writeTenant {p t sub n} (hs : Steady σ s) : Steady σ (s.writeTenant p t sub n) := hs.tenantWrite.ite hs.tenantWrite

theorem Steady.writeInject {p sub n} (hs : Steady σ s) : Steady σ (s.writeInject p sub n) := by
  unfold State.writeInject
  dsimp only
  split
  · exact hs.judged .setInjection
  · exact hs.judged .setInjection
  · exact hs.judged .setInjection
  · exact hs.judged .setInjection
  · exact hs.judged .setInjection
  · exact hs.judged .setInjection
  · exact hs.injectArm.ite hs.injectCancel
  · exact hs.keepObj

theorem Steady.writeCkpt {p c sub n} (hs : Steady σ s) : Steady σ (s.writeCkpt p c sub n) := by
  unfold State.writeCkpt
  dsimp only
  split
  · exact hs.judged .setCkpt
  · exact hs.judged .setCkpt
  · exact hs.judged .setCkpt
  · exact hs.judged .setCkpt
  · exact hs.judged .setCkpt
  · exact hs.judged .setCkpt
  · exact hs.ckptArm.ite hs.ckptCancel

theorem Steady.writeFault {p sub n} (hs : Steady σ s) : Steady σ (s.writeFault p sub n) := by
  unfold State.writeFault
  split
  · exact hs.portUnfence
  · exact hs.judged fun hu => hu.injectOff.ite hu.setNum
  · exact hs.keepObj

theorem Steady.snapshot {n} (hs : Steady σ s) : Steady σ (s.snapshot n) := hs.judged .put

theorem Steady.writeSecurity {p sub n} (hs : Steady σ s) : Steady σ (s.writeSecurity p sub n) := by
  unfold State.writeSecurity
  refine .ite ?_ hs.keepObj
  split
  · exact hs.firmwareVerify
  · exact hs.firmwareActivate
  · exact hs.firmwareCommit
  · exact hs.firmwareAbort

theorem Steady.writeNum {p index sub n} (hs : Steady σ s) : Steady σ (s.writeNum p index sub n) := by
  unfold State.writeNum
  refine .ite ?_ ?_
  · split
    · exact hs.writeUnit
    · exact hs.answer
  · refine hs.unlock.ite (hs.writeSide.ite ?_)
    refine hs.writeEvents.ite ((hs.judged fun hu => hu.setNum.applyStored).ite ?_)
    refine hs.ftcSet.ite (hs.writePackage.ite ?_)
    refine hs.writePort.ite (hs.keepObj.ite ?_)
    refine hs.jobAbortWrite.ite (hs.writePart.ite ?_)
    refine hs.writeStore.ite (hs.writeWindow.ite ?_)
    refine hs.writeAgent.ite (hs.writePlan.ite ?_)
    refine hs.writeSecurity.ite (hs.writeTenant.ite ?_)
    refine hs.writeFault.ite ?_
    exact hs.writeInject.ite ((hs.csAbortSlot.ite hs).answer.ite (hs.writeCkpt.ite (hs.snapshot.ite hs.keepObj)))

theorem Steady.writeBytes {index sub b} (hs : Steady σ s) : Steady σ (s.writeBytes index sub b) :=
  (hs.setBytes.keyCheck.ite hs.setBytes).answer

/-! ### Machine/Dict.lean -/

theorem Steady.lastStatus (hs : Steady σ s) : Steady σ s.lastStatus.2 := by
  unfold State.lastStatus
  split
  · exact hs.put
  · exact hs.openStatus

theorem Steady.byRule {f : State → State} (hs : Steady σ s) (hf : ∀ {t}, Steady σ t → Steady σ (f t)) : Steady σ (s.byRule f).2 :=
  (hf hs.put).lastStatus
theorem Steady.dropStaging {p} (hs : Steady σ s) : Steady σ (s.dropStaging p) := hs.setPath

theorem Steady.putFixed {p o index sub total size b armed} (hs : Steady σ s) :
    Steady σ (s.putFixed p o index sub total size b armed).2 := by
  unfold State.putFixed
  dsimp only
  split
  · exact hs
  · exact hs.ite_snd (hs.ite_snd (hs.byRule .writeNum))

theorem Steady.putSegment {p o index sub off total b armed} (hs : Steady σ s) :
    Steady σ (s.putSegment p o index sub off total b armed).2 := by
  unfold State.putSegment
  refine hs.dropStaging.ite_snd (hs.dropStaging.ite_snd ?_)
  split
  · exact hs.dropStaging
  · refine hs.dropStaging.ite_snd (hs.setPath.ite_snd ?_)
    split
    · exact hs.dropStaging
    · exact hs.dropStaging.byRule .writeBytes

theorem Steady.dictPut {p index sub off total b armed} (hs : Steady σ s) :
    Steady σ (s.dictPut p index sub off total b armed).2 := by
  unfold State.dictPut
  dsimp only
  split
  · exact hs.ite hs.dropStaging
  · refine (hs.ite hs.dropStaging).ite_snd ?_
    split
    · exact hs.ite hs.dropStaging
    · exact hs.byRule .emit
    · refine ((hs.ite hs.dropStaging).ite_snd (hs.ite hs.dropStaging)).ite_snd ?_
      split
      · exact hs.ite hs.dropStaging
      · split
        · exact (hs.ite hs.dropStaging).ite_snd hs.putFixed
        · exact hs.putSegment

theorem Steady.armAfter {p unlocked renew before} (hs : Steady σ s) : Steady σ (s.armAfter p unlocked renew before) :=
  hs.ite (hs.setPath.ite hs.setPath)
theorem Steady.pathPut {p index sub off total b} (hs : Steady σ s) : Steady σ (s.pathPut p index sub off total b).2 :=
  hs.dictPut.armAfter
theorem Steady.execDictUnlock {p v} (hs : Steady σ s) : SteadyNext σ (execDictUnlock p v s) := (hs.begin.whenRunning .unlock).next

theorem Steady.execUnlockArmLapse {p} (hs : Steady σ s) : SteadyNext σ (execUnlockArmLapse p s) := by
  unfold Machine.execUnlockArmLapse
  refine Steady.next ?_
  split
  · exact hs.begin
  · exact hs.begin.elapse.setPath

theorem Steady.execSegmentStagingExpiry {p} (hs : Steady σ s) : SteadyNext σ (execSegmentStagingExpiry p s) := by
  unfold Machine.execSegmentStagingExpiry
  refine Steady.next ?_
  split
  · exact hs.begin
  · exact hs.begin.elapse.dropStaging

theorem Steady.execEventRaise {p n} (hs : Steady σ s) : SteadyNext σ (execEventRaise p n s) :=
  (hs.begin.whenRunning fun hu => hu.takeArm.raiseEvent).next
theorem Steady.execMeterSnapshot {p v} (hs : Steady σ s) : SteadyNext σ (execMeterSnapshot p v s) :=
  (hs.begin.whenRunning fun hu => hu.takeArm.snapshot).next

theorem Steady.execMeterSnapshotLatch (hs : Steady σ s) : SteadyNext σ (execMeterSnapshotLatch s) := by
  unfold Machine.execMeterSnapshotLatch
  refine (hs.begin.whenRunning fun hu => ?_).next
  split
  · exact hu
  · exact (hu.atFtc.put.foldl fun hu => hu.foldl .setNum).setNum

/-! ### Machine/Side.lean -/

theorem Steady.ask {p r most} (hs : Steady σ s) : Steady σ (s.ask p r most).2 := by
  unfold State.ask
  split
  · exact (hs.armAfter.ite hs).emit
  · refine .ite_snd ?_ (.ite_snd ?_ hs)
    · exact hs.dictRead
    · exact hs.pathPut

theorem Steady.setSide {p x} (hs : Steady σ s) : Steady σ (s.setSide p x) := hs.put.ite hs.put
theorem Steady.sideAsk {p r most} (hs : Steady σ s) : Steady σ (s.sideAsk p r most) := hs.ask.setSide
theorem Steady.sideRefuse {p st} (hs : Steady σ s) : Steady σ (s.sideRefuse p st) := hs.setSide
theorem Steady.markFetched {seq} (hs : Steady σ s) : Steady σ (s.markFetched seq) := hs.put

theorem Steady.execDictReq {data pecOk whole} (hs : Steady σ s) : SteadyNext σ (execDictReq data pecOk whole s) := by
  unfold Machine.execDictReq
  refine (hs.begin.whenServed fun hu => ?_).next
  refine hu.bump.ite (hu.sideRefuse.ite ?_)
  split
  · exact hu.sideRefuse
  · exact hu.sideAsk

theorem Steady.execDictRsp (hs : Steady σ s) : SteadyNext σ (execDictRsp s) := by
  unfold Machine.execDictRsp
  refine (hs.begin.whenServed fun hu => ?_).next
  dsimp only
  split
  · exact hu.emit
  · exact hu.emit
  · exact hu.setSide.emit

theorem Steady.execEventFetch (hs : Steady σ s) : SteadyNext σ (execEventFetch s) := by
  unfold Machine.execEventFetch
  refine (hs.begin.whenServed fun hu => ?_).next
  split
  · exact hu.openBytes.emit
  · exact hu.markFetched.emit

theorem Steady.execSmbusSclTimeout (hs : Steady σ s) : SteadyNext σ (execSmbusSclTimeout s) := hs.begin.next
theorem Steady.spiDiscard (hs : Steady σ s) : Steady σ s.spiDiscard := hs.setSide.bump.setPath
theorem Steady.spiCheckFail (hs : Steady σ s) : Steady σ s.spiCheckFail := hs.sideRefuse.bump.setPath

theorem Steady.spiRequest {edges words mine} (hs : Steady σ s) : Steady σ (s.spiRequest edges words mine) := by
  unfold State.spiRequest
  refine hs.spiDiscard.ite ?_
  exact hs.ite (hs.spiDiscard.ite (hs.spiCheckFail.ite (hs.sideRefuse.ite (hs.sideRefuse.ite hs.sideAsk))))

theorem Steady.execSpiRead {edges words} (hs : Steady σ s) : SteadyNext σ (execSpiRead edges words s) :=
  (hs.begin.whenServed .spiRequest).next
theorem Steady.execSpiWrite {edges words} (hs : Steady σ s) : SteadyNext σ (execSpiWrite edges words s) :=
  (hs.begin.whenServed .spiRequest).next
theorem Steady.spiFetch {read : State → State} {edges r} (hs : Steady σ s) (hread : ∀ {t}, Steady σ t → Steady σ (read t)) :
    Steady σ (s.spiFetch edges r read) :=
  hs.spiDiscard.ite (hs.openBytes.emit.ite (hread hs.openBytes.emit).setSide)

theorem Steady.execSpiFetchResponse {edges} (hs : Steady σ s) : SteadyNext σ (execSpiFetchResponse edges s) := by
  unfold Machine.execSpiFetchResponse
  refine (hs.begin.whenServed fun hu => ?_).next
  split
  · exact hu.spiFetch fun hu => hu
  · exact hu.spiFetch fun hu => hu
  · exact hu.spiFetch .setSide

theorem Steady.execSpiFetchEvent {edges} (hs : Steady σ s) : SteadyNext σ (execSpiFetchEvent edges s) := by
  unfold Machine.execSpiFetchEvent
  refine (hs.begin.whenServed fun hu => ?_).next
  split
  · exact hu.spiFetch fun hu => hu
  · exact hu.spiFetch .markFetched

theorem Steady.mbxGo {m} (hs : Steady σ s) : Steady σ (s.mbxGo m) := by
  unfold State.mbxGo
  dsimp only
  split <;> exact hs.ask.setMbx

theorem Steady.mbxCommand {i m v} (hs : Steady σ s) : Steady σ (s.mbxCommand i m v) :=
  hs.mgmtWrite fun hu => hu.setMbx.mbxGo.ite hu.setMbx
theorem Steady.execMailboxRead {i m v} (hs : Steady σ s) : SteadyNext σ (execMailboxRead i m v s) :=
  (hs.begin.whenRunning .mbxCommand).next
theorem Steady.execMailboxWrite {i m v} (hs : Steady σ s) : SteadyNext σ (execMailboxWrite i m v s) :=
  (hs.begin.whenRunning .mbxCommand).next

theorem Steady.settle {p r d} (hs : Steady σ s) : Steady σ (s.settle p r d) := by
  unfold State.settle
  split
  · exact hs.setMbx.ite hs
  · exact hs.setSide.ite hs
  · exact hs.setSide.ite hs
  · exact hs

/-! ### Machine/Aggregate.lean -/

theorem Steady.requestHere {p r} (hs : Steady σ s) : Steady σ (s.requestHere p r) :=
  hs.dictRead.answer.ite (hs.pathPut.answer.ite hs.answer)

theorem Steady.execAncestorRequest {p r reply} (hs : Steady σ s) : SteadyNext σ (execAncestorRequest p r reply s) := by
  unfold Machine.execAncestorRequest
  refine (hs.begin.whenRunning fun hu => ?_).next
  refine hu.answer.ite ?_
  split
  · exact hu.answer
  · exact hu.requestHere
  · split
    · exact hu.emit.settle.answer
    · exact hu.settle.answer

theorem Steady.execCounterLatch (hs : Steady σ s) (p) {index sub} : SteadyNext σ (execCounterLatch p index sub s) :=
  (hs.begin.whenRunning fun hu => hu.atTick.dictRead.answer).next

theorem Steady.execAggregateRead {p index sub packages} (hs : Steady σ s) :
    SteadyNext σ (execAggregateRead p index sub packages s) := by
  unfold Machine.execAggregateRead
  refine (hs.begin.whenRunning fun hu => ?_).next
  refine hu.answer.ite ?_
  split
  · exact hu.answer
  · exact hu.emit
  · exact hu.put.foldl .emit

theorem Steady.endAggregate {a} (hs : Steady σ s) : Steady σ (s.endAggregate a) := (hs.put.setNum.ite hs.put.setNum.fault).emit

theorem Steady.execAggregateReply {id package value} (hs : Steady σ s) :
    SteadyNext σ (execAggregateReply id package value s) := by
  unfold Machine.execAggregateReply
  refine (hs.begin.whenRunning fun hu => ?_).next
  split
  · exact hu
  · exact hu.ite (hu.put.endAggregate.ite hu.put)

theorem Steady.execAggregateWindowEnd {id} (hs : Steady σ s) : SteadyNext σ (execAggregateWindowEnd id s) := by
  unfold Machine.execAggregateWindowEnd
  refine (hs.begin.whenRunning fun hu => ?_).next
  split
  · exact hu
  · exact hu.elapse.endAggregate

/-! ### Machine/Buses.lean -/

theorem Steady.startRecovery {bus} (hs : Steady σ s) : Steady σ (s.startRecovery bus) := hs.setBus
theorem Steady.setDimmHot {d h} (hs : Steady σ s) : Steady σ (s.setDimmHot d h) := hs.put
theorem Steady.busFailed {bus what} (hs : Steady σ s) : Steady σ (s.busFailed bus what) :=
  (hs.setSensor.ite hs).ite (hs.setDimmHot.ite hs)

theorem Steady.sensorPoll {entry value} (hs : Steady σ s) : Steady σ (s.sensorPoll entry value) := by
  unfold State.sensorPoll
  refine hs.ite ?_
  split
  · exact hs.elapse.setSensor
  · exact hs.elapse.setSensor
  · exact hs.elapse.emit.setSensor
  · exact hs.elapse.emit.setSensor

theorem Steady.execSensorPoll {entry value} (hs : Steady σ s) : SteadyNext σ (execSensorPoll entry value s) :=
  (hs.begin.whenRunning fun hu => hu.sensorPoll.ite hu).next

theorem Steady.execDimmThermalPoll {dimm celsius} (hs : Steady σ s) : SteadyNext σ (execDimmThermalPoll dimm celsius s) := by
  unfold Machine.execDimmThermalPoll
  refine (hs.begin.whenRunning fun hu => ?_).next
  refine hu.ite ?_
  split
  · exact hu.setDimmHot
  · exact hu
  · exact hu.emit.setDimmHot

theorem Steady.execBusTransactionTimeout {bus what} (hs : Steady σ s) : SteadyNext σ (execBusTransactionTimeout bus what s) := by
  unfold Machine.execBusTransactionTimeout
  refine (hs.begin.whenRunning fun hu => ?_).next
  refine hu.ite ?_
  split
  · exact hu
  · exact hu
  · exact hu.elapse.busFailed.startRecovery

theorem Steady.execBusSdaStuck {bus what} (hs : Steady σ s) : SteadyNext σ (execBusSdaStuck bus what s) := by
  unfold Machine.execBusSdaStuck
  refine (hs.begin.whenRunning fun hu => ?_).next
  refine hu.ite ?_
  split
  · exact hu
  · exact hu
  · refine Steady.startRecovery ?_
    split
    · exact hu.elapse.busFailed
    · exact hu.elapse

theorem Steady.recoveryAttempt {bus pulses} (hs : Steady σ s) : Steady σ (s.recoveryAttempt bus pulses) :=
  hs.elapse.setBus.ite (hs.elapse.setBus.ite hs.elapse.elapse.setBus.bump32.free.eventOpen)
theorem Steady.execBusRecoveryAttempt {bus pulses} (hs : Steady σ s) : SteadyNext σ (execBusRecoveryAttempt bus pulses s) :=
  (hs.begin.whenRunning fun hu => hu.recoveryAttempt.ite hu).next
theorem Steady.busRecover {i bus go} (hs : Steady σ s) : Steady σ (s.busRecover i bus go) :=
  hs.mgmtWrite fun hu => hu.startRecovery.ite hu
theorem Steady.execRecover {i bus} (hs : Steady σ s) : SteadyNext σ (execRecover i bus s) :=
  (hs.begin.whenRunning fun hu => hu.busRecover.ite hu).next

/-! ### Machine/Gdp.lean -/

theorem Steady.gdpReadAll {l room} (hs : Steady σ s) : Steady σ (s.gdpReadAll l room).2 := by
  induction l generalizing s room with
  | nil => exact hs
  | cons e t ih => exact ih hs.dictRead

theorem Steady.gdpReads {es} (hs : Steady σ s) : Steady σ (s.gdpReads es).2 := hs.ite_snd hs.gdpReadAll

theorem Steady.gdpReadBody {h} (hs : Steady σ s) : Steady σ (s.gdpReadBody h).2 := by
  unfold State.gdpReadBody
  split
  · exact hs
  · exact hs.gdpReads.ite_snd hs

theorem Steady.gdpHelloBody {h} (hs : Steady σ s) : Steady σ (s.gdpHelloBody h).2 := hs.ite_snd hs.gdpReads
theorem Steady.gdpPut {start p e} (hs : Steady σ s) : Steady σ (s.gdpPut start p e).2 := hs.dictPut

theorem Steady.gdpPutAll {start p l u} (hs : Steady σ s) : Steady σ (s.gdpPutAll start p l u).2.2 := by
  induction l generalizing s u with
  | nil => exact hs
  | cons e t ih => exact ih hs.gdpPut

theorem Steady.gdpArm {start p es ends unlocked} (hs : Steady σ s) : Steady σ (s.gdpArm start p es ends unlocked) := by
  unfold State.gdpArm
  dsimp only
  split
  · exact hs.setPath
  · exact hs.armAfter

theorem Steady.gdpWrites {p atomic es} (hs : Steady σ s) : Steady σ (s.gdpWrites p atomic es).2 := by
  unfold State.gdpWrites
  dsimp only
  split
  · dsimp only
    exact hs.armAfter
  · exact hs.gdpPutAll.gdpArm

theorem Steady.gdpWriteBody {p secured h} (hs : Steady σ s) : Steady σ (s.gdpWriteBody p secured h).2 := by
  unfold State.gdpWriteBody
  split
  · exact hs
  · exact hs.ite_snd (hs.ite_snd hs.gdpWrites)

theorem Steady.setFlashBank {b x} (hs : Steady σ s) : Steady σ (s.setFlashBank b x) := hs.put
theorem Steady.flashStore {bank off data} (hs : Steady σ s) : Steady σ (s.flashStore bank off data) := hs.put.setFlashBank.setBank

theorem Steady.flashBody {p secured h} (hs : Steady σ s) : Steady σ (s.flashBody p secured h).2 := by
  unfold State.flashBody
  refine hs.ite_snd (hs.ite_snd ?_)
  refine hs.ite_snd (hs.ite_snd ?_)
  split
  · exact hs
  · exact hs.flashStore.setFlashBank

theorem Steady.countGdp {addr} (hs : Steady σ s) : Steady σ (s.countGdp addr) := hs.put
theorem Steady.keepReply {p seq reply} (hs : Steady σ s) : Steady σ (s.keepReply p seq reply) := hs.put

theorem Steady.gdpRequest {perform : State → GdpEnd × State} {addr udp seq h} (hs : Steady σ s)
    (hperform : ∀ {t}, Steady σ t → Steady σ (perform t).2) :
    Steady σ (s.gdpRequest addr udp seq h perform) := by
  unfold State.gdpRequest
  extract_lets +onlyGivenNames _
  split
  · exact hs.bump.bump.emit
  · refine hs.bump.ite ?_
    extract_lets +onlyGivenNames e
    have he : Steady σ e.2 := hperform hs.countGdp.bump
    exact he.ite (he.keepReply.emit.ite he.emit)

theorem Steady.gdpArrive {perform : GdpHead → State → GdpEnd × State} {addr udp frame type} (hs : Steady σ s)
    (hperform : ∀ {a0 t}, Steady σ t → Steady σ (perform a0 t).2) :
    Steady σ (s.gdpArrive addr udp frame type perform) := by
  unfold State.gdpArrive
  dsimp only
  split
  · exact hs.bump
  · exact hs.bump.emit.ite (hs.bump.emit.ite (hs.ite (hs.gdpRequest fun hu => hperform hu)))

theorem Steady.execGdpHello {addr udp frame} (hs : Steady σ s) : SteadyNext σ (execGdpHello addr udp frame s) :=
  (hs.begin.whenServed fun hu => hu.gdpArrive .gdpHelloBody).next
theorem Steady.execGdpRead {addr udp frame} (hs : Steady σ s) : SteadyNext σ (execGdpRead addr udp frame s) :=
  (hs.begin.whenServed fun hu => hu.gdpArrive .gdpReadBody).next
theorem Steady.execGdpWrite {addr udp frame} (hs : Steady σ s) : SteadyNext σ (execGdpWrite addr udp frame s) :=
  (hs.begin.whenServed fun hu => hu.gdpArrive .gdpWriteBody).next
theorem Steady.execFlashWrite {addr udp frame} (hs : Steady σ s) : SteadyNext σ (execFlashWrite addr udp frame s) :=
  (hs.begin.whenServed fun hu => hu.gdpArrive .flashBody).next

theorem Steady.gdpSecured {session addr udp seq frame} (hs : Steady σ s) :
    Steady σ (s.gdpSecured session addr udp seq frame) := by
  unfold State.gdpSecured
  dsimp only
  split
  · exact hs.bump
  · split
    · exact hs.bump.emit
    · refine hs.bump.emit.ite ?_
      exact hs.bump.emit.ite (hs.gdpRequest fun hu => hu.gdpReadBody.ite_snd (hu.gdpWriteBody.ite_snd hu.flashBody))

theorem Steady.execGdpSecured {session addr udp seq frame} (hs : Steady σ s) :
    SteadyNext σ (execGdpSecured session addr udp seq frame s) :=
  (hs.begin.whenRunning .gdpSecured).next

theorem Steady.execFlashWriteDone {bank} (hs : Steady σ s) : SteadyNext σ (execFlashWriteDone bank s) := by
  unfold Machine.execFlashWriteDone
  refine (hs.begin.whenServed fun hu => ?_).next
  refine hu.ite ?_
  dsimp only
  split
  · exact hu.setFlashBank
  · exact hu.setFlashBank.keepReply.emit

/-! ### Machine/Lane.lean -/

theorem Steady.ackEvents {dest seq} (hs : Steady σ s) : Steady σ (s.ackEvents dest seq) := hs.put
theorem Steady.execEventAck {dest seq} (hs : Steady σ s) : SteadyNext σ (execEventAck dest seq s) :=
  (hs.begin.whenRunning .ackEvents).next
theorem Steady.resendEvent {f} (hs : Steady σ s) : Steady σ (s.resendEvent f) := hs.elapse.put.emit.ite hs.elapse.put.bumpN

theorem Steady.execEventResend {dest} (hs : Steady σ s) : SteadyNext σ (execEventResend dest s) := by
  unfold Machine.execEventResend
  refine (hs.begin.whenRunning fun hu => ?_).next
  split
  · exact hu.resendEvent
  · exact hu

theorem Steady.deliverGathered {x l} (hs : Steady σ s) : Steady σ (s.deliverGathered x l) :=
  (hs.foldl fun hu => hu.foldl .sendEvent).foldl .deliverOther

theorem Steady.execEventHoldoffExpiry {vector} (hs : Steady σ s) : SteadyNext σ (execEventHoldoffExpiry vector s) := by
  unfold Machine.execEventHoldoffExpiry
  refine (hs.begin.whenRunning fun hu => ?_).next
  dsimp only
  split
  · exact hu
  · exact hu.elapse.setVector.deliverGathered

theorem Steady.execIcmpv6Echo {source dest payload} (hs : Steady σ s) : SteadyNext σ (execIcmpv6Echo source dest payload s) :=
  (hs.begin.whenServed fun hu => hu.emit.ite hu).next
theorem Steady.learn {a mac} (hs : Steady σ s) : Steady σ (s.learn a mac) := hs.put
theorem Steady.neighborDiscovery {type source target mac} (hs : Steady σ s) :
    Steady σ (s.neighborDiscovery type source target mac) :=
  (hs.ite (hs.ite hs.learn).emit).ite (hs.learn.ite hs)
theorem Steady.execNeighborDiscovery {type source target mac} (hs : Steady σ s) :
    SteadyNext σ (execNeighborDiscovery type source target mac s) :=
  (hs.begin.whenServed .neighborDiscovery).next

/-! ### Machine/Csr.lean -/

theorem Steady.plain {f : State → State} {i addr bad} (hs : Steady σ s) (hf : ∀ {t}, Steady σ t → Steady σ (f t)) :
    Steady σ (s.plain i addr bad f) :=
  hs.openWrite hf
theorem Steady.owned {f : State → State} {i addr bad} (hs : Steady σ s) (hf : ∀ {t}, Steady σ t → Steady σ (f t)) :
    Steady σ (s.owned i addr bad f) :=
  hs.mgmtWrite hf

theorem Steady.arbWrite {i h addr v} (hs : Steady σ s) : SteadySome σ (s.arbWrite i h addr v) := by
  unfold State.arbWrite
  refine (hs.plain .setReg).some.ite ?_
  exact hs.arbSeed.some.ite ((hs.plain .setReg).some.ite ((hs.plain .setReg).some.ite .none))

theorem Steady.hubUnlockWrite {i v} (hs : Steady σ s) : Steady σ (s.hubUnlockWrite i v) := hs.plain .setCsrReq
theorem Steady.hubWrite {i h addr v} (hs : Steady σ s) : Steady σ (s.hubWrite i h addr v) :=
  (hs.plain .setCsrReq).ite (hs.hubUnlockWrite.ite (hs.plain fun hu => hu.setReg.ite hu))

theorem Steady.plnWrite {i h addr v} (hs : Steady σ s) : Steady σ (s.plnWrite i h addr v) := by
  unfold State.plnWrite
  split
  · exact hs.planDisarm
  · exact hs.planHalt
  · exact hs.planHalt
  · exact hs.openWrite fun hu => hu

theorem Steady.pwrWrite {i h addr v} (hs : Steady σ s) : Steady σ (s.pwrWrite i h addr v) := by
  unfold State.pwrWrite
  refine (hs.owned .put).ite ?_
  exact ((hs.runs .execResetCommandWarm).ite ((hs.runs .execResetCommandCold).ite (hs.mgmtWrite fun hu => hu))).ite (hs.owned .put)

theorem Steady.secWrite {i h addr v} (hs : Steady σ s) : Steady σ (s.secWrite i h addr v) := by
  unfold State.secWrite
  refine hs.tenantWrite.ite (hs.clusterOwnerWrite.ite ?_)
  exact hs.portBindWrite.ite ((hs.mgmtWrite fun hu => hu.setCrypt.keyCheck).ite ((hs.owned .put).ite hs.secAssign))

theorem Steady.mgmtRegWrite {i h addr v} (hs : Steady σ s) : Steady σ (s.mgmtRegWrite i h addr v) :=
  hs.mbxCommand.ite ((hs.owned .setMbx).ite ((hs.owned .setMbx).ite ((hs.owned .setMbx).ite hs.busRecover)))
theorem Steady.portWrite {i h addr v} (hs : Steady σ s) : Steady σ (s.portWrite i h addr v) :=
  hs.portCtl.ite ((hs.owned .setPort).ite hs.replayField)

theorem Steady.swcWrite {i h addr v} (hs : Steady σ s) : Steady σ (s.swcWrite i h addr v) := by
  unfold State.swcWrite
  refine (hs.plain .setReg).ite (hs.lgMembersWrite.ite ?_)
  refine hs.lgMembersWrite.ite (((hs.runs .execLgRebalance).ite (hs.openWrite fun hu => hu)).ite ?_)
  exact hs.quotaWrite.ite (hs.routeWrite.ite ((hs.plain .stageLo).ite hs.mcWrite))

theorem Steady.trfWrite {i h addr v} (hs : Steady σ s) : Steady σ (s.trfWrite i h addr v) := by
  unfold State.trfWrite
  refine (hs.gateCycleStart.ite ((hs.gateCycleStop.setReg.ite hs.gateCycleStop).ite (hs.owned .setReg))).ite ?_
  refine (hs.owned .stageLo).ite ((hs.takeLo.owned fun hu => hu.setReg.setReg).ite ?_)
  refine (hs.owned .setReg).ite ((hs.owned .setReg).ite ?_)
  refine ((hs.runs .execTrfIndRead).ite ((hs.runs .execTrfIndWrite).ite (hs.owned fun hu => hu))).ite ?_
  exact (hs.owned .stageLo).ite (hs.gateEntryWrite.ite (hs.owned .setReg))

theorem Steady.stageField {i addr v busy} (hs : Steady σ s) : Steady σ (s.stageField i addr v busy) := hs.owned .stageLo

theorem Steady.partRegWrite {i h addr v} (hs : Steady σ s) : Steady σ (s.partRegWrite i h addr v) := by
  unfold State.partRegWrite
  refine hs.stageField.ite (hs.takeLo.partField.ite ?_)
  refine hs.partField.ite (hs.partField.ite ?_)
  refine hs.partField.ite (hs.partField.ite ?_)
  refine hs.partField.ite (hs.stageField.ite ?_)
  refine hs.takeLo.layerField.ite (hs.layerField.ite ?_)
  extract_lets +onlyGivenNames t
  have ht : Steady σ t := by
    unfold t
    split
    · exact hs.owned fun hu => hu
    · exact hs.partBind
    · exact hs.partUnbind
    · exact hs.partRepair
  exact ht.setPart.ite ht

theorem Steady.memWriteReg {i h addr v} (hs : Steady σ s) : Steady σ (s.memWriteReg i h addr v) := by
  unfold State.memWriteReg
  refine hs.chanOwnerWrite.ite (.ite ?_ hs.partRegWrite)
  split
  · exact hs.chanDeclare
  · exact hs.chanRestore
  · exact hs.mgmtWrite fun hu => hu

theorem Steady.kvWrite {i h addr v} (hs : Steady σ s) : Steady σ (s.kvWrite i h addr v) := by
  unfold State.kvWrite
  refine (hs.storeEnable.ite ((hs.storeDisable.ite (hs.owned fun hu => hu)).ite hs.storeField)).ite ?_
  exact hs.storeField.ite (hs.owned .setStore)

theorem Steady.cohWrite {i h addr v} (hs : Steady σ s) : Steady σ (s.cohWrite i h addr v) := by
  unfold State.cohWrite
  refine (hs.owned .setNum).ite ((hs.runs .execWayMaskWrite).ite ?_)
  refine hs.stageField.ite (hs.takeLo.winField.ite ?_)
  refine hs.winField.ite (hs.winField.ite ?_)
  refine .ite ?_ ?_
  · refine (hs.runs .execWindowEnable).ite ?_
    exact ((hs.runs .execWindowDisable).ite (hs.owned fun hu => hu)).ite hs.winField
  · refine hs.agentField.ite ?_
    split
    · exact hs.runs .execAgentUnregister
    · exact hs.owned fun hu => hu
    · exact hs.runs .execAgentRegister

theorem Steady.czWrite {i h addr v} (hs : Steady σ s) : Steady σ (s.czWrite i h addr v) := by
  unfold State.czWrite
  refine hs.streamField.ite (hs.streamField.ite ?_)
  exact hs.streamField.ite (hs.streamField.ite ((hs.runs .execStreamEnable).ite (hs.runs .execStreamDisable)))

theorem Steady.vsrWrite {i h addr v} (hs : Steady σ s) : Steady σ (s.vsrWrite i h addr v) := hs.owned fun hu => hu.vsOff.ite hu

theorem Steady.regWrite {i h addr v} (hs : Steady σ s) : Steady σ (s.regWrite i h addr v) := by
  unfold State.regWrite
  dsimp only
  split
  · next t e =>
    have ht : Steady σ t := hs.arbWrite _ e
    exact ht
  · refine hs.hubWrite.ite (hs.pwrWrite.ite ?_)
    refine hs.secWrite.ite (hs.mgmtRegWrite.ite ?_)
    refine hs.pwrWrite.ite (hs.portWrite.ite ?_)
    refine hs.swcWrite.ite (hs.trfWrite.ite ?_)
    exact hs.cohWrite.ite (hs.memWriteReg.ite (hs.czWrite.ite (hs.kvWrite.ite (hs.vsrWrite.ite hs.plnWrite))))

theorem Steady.refuseWrite {i off st} (hs : Steady σ s) : Steady σ (s.refuseWrite i off st) := hs.takeArm.takeLo.busError.answer
theorem Steady.nameAlias {t : State} {before off} (hs : Steady σ t) : Steady σ (t.nameAlias before off) := hs.ite hs.setReg

theorem Steady.csrPut {i off v} (hs : Steady σ s) : Steady σ (s.csrPut i off v) := by
  unfold State.csrPut
  refine hs.refuseWrite.ite ?_
  split
  · exact hs.refuseWrite
  · split
    · exact hs.refuseWrite
    · exact hs.regWrite.nameAlias.ite hs.regWrite

theorem Steady.execCsrWrite {i addr v} (hs : Steady σ s) : SteadyNext σ (execCsrWrite i addr v s) :=
  (hs.begin.whenRunning .csrPut).next
theorem Steady.execCsrAliasWrite {i k addr v} (hs : Steady σ s) : SteadyNext σ (execCsrAliasWrite i k addr v s) :=
  (hs.begin.whenRunning .csrPut).next
theorem Steady.execHubUnlock {i v} (hs : Steady σ s) : SteadyNext σ (execHubUnlock i v s) :=
  (hs.begin.whenRunning .hubUnlockWrite).next

/-! ### Machine/Remote.lean -/

theorem Steady.refuseAddress {o st} (hs : Steady σ s) : Steady σ (s.refuseAddress o st) :=
  (hs.free.busError.ite (hs.busError.ite hs)).respond

theorem Steady.sramEffect {o} (hs : Steady σ s) : Steady σ (s.sramEffect o).2 := by
  unfold State.sramEffect
  refine hs.ite_snd (.ite_snd ?_ hs.sramWrite)
  split
  · exact hs
  · exact hs.sramWrite

theorem Steady.sramAccess {o} (hs : Steady σ s) : Steady σ (s.sramAccess o) := by
  unfold State.sramAccess
  split
  · exact hs.respond
  · exact hs.sramEffect.endAccess

theorem Steady.syncPut {i n k v} (hs : Steady σ s) : Steady σ (s.syncPut i n k v).2 := by
  unfold State.syncPut
  dsimp only
  split
  · exact hs.syncUpdate
  · exact hs.ite_snd (hs.ite_snd hs.setSync)
  · exact hs.ite_snd hs.setSync
  · exact hs.ite_snd (hs.ite_snd hs)
  · exact hs.ite_snd hs
  · exact hs.ite_snd hs
  · exact hs.ite_snd hs

theorem Steady.syncAtomic {o n} (hs : Steady σ s) : Steady σ (s.syncAtomic o n).2 := (hs.syncUpdate.ite hs).ite_snd hs.syncUpdate

theorem Steady.syncAccess {o} (hs : Steady σ s) : Steady σ (s.syncAccess o) := by
  unfold State.syncAccess
  refine hs.respond.ite (hs.endAccess.ite ?_)
  exact (hs.respond.ite hs.syncAtomic.endAccess).ite (hs.syncPut.respond.ite hs.syncPut.endAccess)

theorem Steady.queuePut {i off v} (hs : Steady σ s) : Steady σ (s.queuePut i off v).2 := by
  unfold State.queuePut
  refine hs.ite_snd (hs.contextWrite.ite_snd ?_)
  split
  · exact hs.commitWrite
  · exact hs.controlWrite
  · exact hs
  · exact hs

theorem Steady.queueAccess {o} (hs : Steady σ s) : Steady σ (s.queueAccess o) :=
  (hs.ite_snd hs.queuePut).respond.ite (hs.ite_snd hs.queuePut).endAccess
theorem Steady.csrAccess {o} (hs : Steady σ s) : Steady σ (s.csrAccess o) :=
  (hs.csrRead.respond.ite hs.csrRead.endAccess).ite (hs.csrPut.put.respond.ite hs.csrPut.put.endAccess)

theorem Steady.accessRegion {o} (hs : Steady σ s) : Steady σ (s.accessRegion o) := by
  unfold State.accessRegion
  split
  · exact hs.refuseAddress
  · split
    · exact hs.poolSubmit
    · exact hs.cohAccess
    · exact hs.sramAccess
    · exact hs.syncAccess
    · exact hs.queueAccess
    · exact hs.csrAccess
    · exact hs.kvRegion

theorem Steady.remoteOp {o postedOk mdMask mcast} (hs : Steady σ s) : Steady σ (s.remoteOp o postedOk mdMask mcast) :=
  hs.whenRunning fun hu => hu.front .accessRegion
theorem Steady.execPut {o} (hs : Steady σ s) : SteadyNext σ (execPut o s) := hs.remoteOp.next
theorem Steady.execGet {o} (hs : Steady σ s) : SteadyNext σ (execGet o s) := hs.remoteOp.next
theorem Steady.execPutNotify {o} (hs : Steady σ s) : SteadyNext σ (execPutNotify o s) := hs.remoteOp.next
theorem Steady.remoteAtomic {o postedOk} (hs : Steady σ s) : Steady σ (s.remoteAtomic o postedOk) :=
  (hs.whenRunning fun hu => hu.begin.respond).ite hs.remoteOp
theorem Steady.execAtomic {o} (hs : Steady σ s) : SteadyNext σ (execAtomic o s) := hs.remoteAtomic.next
theorem Steady.execFetchOp {o} (hs : Steady σ s) : SteadyNext σ (execFetchOp o s) := hs.remoteAtomic.next

theorem Steady.onValue {go : State → Nat → State} {o} (hs : Steady σ s) (hgo : ∀ {t a0}, Steady σ t → Steady σ (go t a0)) :
    Steady σ (s.onValue o go) := by
  unfold State.onValue
  dsimp only
  split
  · exact hs.refuseAddress
  · exact hs.respond.ite (hs.respond.ite (hgo hs))

theorem Steady.execNotify {o0} (hs : Steady σ s) : SteadyNext σ (execNotify o0 s) :=
  (hs.whenRunning fun hu => hu.front fun hu => hu.onValue .startNotify).next
theorem Steady.registerWait {o n} (hs : Steady σ s) : Steady σ (s.registerWait o n) :=
  hs.respond.ite (hs.respond.ite hs.put.openOp)
theorem Steady.execWait {o0} (hs : Steady σ s) : SteadyNext σ (execWait o0 s) :=
  (hs.whenRunning fun hu => hu.front fun hu => hu.onValue .registerWait).next
theorem Steady.localOp {go : State → State} {o mdMask} (hs : Steady σ s) (hgo : ∀ {t}, Steady σ t → Steady σ (go t)) :
    Steady σ (s.localOp o mdMask go) :=
  hs.whenRunning fun hu => hu.begin.respond.ite (hu.begin.respond.ite (hu.begin.respond.ite (hu.begin.respond.ite (hgo hu.begin))))
theorem Steady.execFence {o0} (hs : Steady σ s) : SteadyNext σ (execFence o0 s) :=
  (hs.localOp fun hu => hu.endFence.wake.ite hu.put).next
theorem Steady.execNop {o0} (hs : Steady σ s) : SteadyNext σ (execNop o0 s) := (hs.localOp .respond).next

/-! ### Machine/TierHint.lean -/

theorem Steady.hintAnswer {o result detail merged} (hs : Steady σ s) : Steady σ (s.hintAnswer o result detail merged) :=
  hs.put.openOp.endHints.ite hs.respond
theorem Steady.askRange {n first count toNear cause} (hs : Steady σ s) : Steady σ (s.askRange n first count toNear cause).2.2 :=
  Steady.foldl_snd_snd (x := (0, 0, s)) hs fun hu => .ite_snd_snd hu hu.askMove

theorem Steady.hintRangeOp {flags : State → Nat → Nat → Nat → State} {o toNear extra} (hs : Steady σ s)
    (hflags : ∀ {t a0 a1 a2}, Steady σ t → Steady σ (flags t a0 a1 a2)) :
    Steady σ (s.hintRangeOp o toNear extra flags) := by
  unfold State.hintRangeOp
  split
  · exact hs.respond
  · refine (hs.respond.ite (hflags hs).hintAnswer).ite ?_
    split
    · exact hs.respond
    · exact (hflags hs).askRange.hintAnswer

theorem Steady.execPromote {o} (hs : Steady σ s) : SteadyNext σ (execPromote o s) :=
  (hs.unitOp fun hu => hu.hintRangeOp fun hu => hu).next
theorem Steady.execDemote {o} (hs : Steady σ s) : SteadyNext σ (execDemote o s) :=
  (hs.unitOp fun hu => hu.hintRangeOp fun hu => hu).next
theorem Steady.execPin {o} (hs : Steady σ s) : SteadyNext σ (execPin o s) :=
  (hs.unitOp fun hu => hu.hintRangeOp .mapPagesIn).next

theorem Steady.execUnpin {o} (hs : Steady σ s) : SteadyNext σ (execUnpin o s) := by
  unfold Machine.execUnpin
  refine (hs.unitOp fun hu => ?_).next
  split
  · exact hu.respond
  · exact hu.mapPagesIn.hintAnswer

theorem Steady.execLayer {o} (hs : Steady σ s) : SteadyNext σ (execLayer o s) := by
  unfold Machine.execLayer
  refine (hs.unitOp fun hu => ?_).next
  split
  · exact hu.respond
  · refine hu.respond.ite (hu.respond.ite ?_)
    split
    · exact hu.respond
    · exact hu.respond.ite hu.layerUsed.prefetchLayer.hintAnswer

theorem Steady.execCancel {o} (hs : Steady σ s) : SteadyNext σ (execCancel o s) := by
  unfold Machine.execCancel
  refine (hs.unitOp fun hu => ?_).next
  split
  · exact hu.respond
  · exact hu.dropMoves.bumpN.hintAnswer

/-! ### One step -/

/-- Every row of the opcode table is steady. -/
theorem Steady.exec (c : Instr) (hs : Steady σ s) : SteadyNext σ (exec c s) :=
  match c with
  | .csrWrite _ _ _ => hs.execCsrWrite
  | .csrAliasWrite _ _ _ _ => hs.execCsrAliasWrite
  | .hubUnlock _ _ => hs.execHubUnlock
  | .dictUnlock _ _ => hs.execDictUnlock
  | .unlockArmLapse _ => hs.execUnlockArmLapse
  | .segmentStagingExpiry _ => hs.execSegmentStagingExpiry
  | .unitQuiesce _ _ => hs.execUnitQuiesce
  | .quiesceDrained _ => hs.execQuiesceDrained
  | .quiesceTimeout _ => hs.execQuiesceTimeout
  | .unitResume _ _ => hs.execUnitResume
  | .unitReset _ _ => hs.execUnitReset
  | .unitResetComplete _ => hs.execUnitResetComplete
  | .unitPowerDown _ _ => hs.execUnitPowerDown
  | .unitPowerUp _ _ => hs.execUnitPowerUp
  | .unitUpdateBegin _ _ => hs.execUnitUpdateBegin
  | .unitUpdateEnd _ _ => hs.execUnitUpdateEnd
  | .groupQueueTake _ => hs.execGroupQueueTake
  | .ancestorRequest _ _ _ => hs.execAncestorRequest
  | .aggregateRead _ _ _ _ => hs.execAggregateRead
  | .aggregateReply _ _ _ => hs.execAggregateReply
  | .aggregateWindowEnd _ => hs.execAggregateWindowEnd
  | .counterLatch p _ _ => hs.execCounterLatch p
  | .put _ => hs.execPut
  | .get _ => hs.execGet
  | .atomic _ => hs.execAtomic
  | .fetchOp _ => hs.execFetchOp
  | .notify _ => hs.execNotify
  | .putNotify _ => hs.execPutNotify
  | .fence _ => hs.execFence
  | .wait _ => hs.execWait
  | .nop _ => hs.execNop
  | .waitTimeout _ => hs.execWaitTimeout
  | .waitDumpComplete => hs.execWaitDumpComplete
  | .waitBreak _ _ => hs.execWaitBreak
  | .qdbCommit _ _ _ => hs.execQdbCommit
  | .queueEnable _ _ => hs.execQueueEnable
  | .queueDisable _ _ => hs.execQueueDisable
  | .queueDisableDrained _ => hs.execQueueDisableDrained
  | .queueFlush _ _ => hs.execQueueFlush
  | .queueFlushEnd _ => hs.execQueueFlushEnd
  | .clearSticky _ _ => hs.execClearSticky
  | .queueContextPut _ _ _ _ => hs.execQueueContextPut
  | .itemStart _ _ => hs.execItemStart
  | .itemComplete _ => hs.execItemComplete
  | .queueRingReadFail _ _ => hs.execQueueRingReadFail
  | .postedFailureReport _ _ _ => hs.execPostedFailureReport
  | .postedTimeout _ _ => hs.execPostedTimeout
  | .responseReceive _ _ _ _ _ => hs.execResponseReceive
  | .planLoad _ _ => hs.execPlanLoad
  | .planLoadCopyDone _ _ => hs.execPlanLoadCopyDone
  | .clusterDrained _ => hs.execClusterDrained
  | .planArm _ _ => hs.execPlanArm
  | .armRequest _ _ _ _ => hs.execArmRequest
  | .armReply _ _ _ => hs.execArmReply
  | .armDecision _ => hs.execArmDecision
  | .planDisarm _ _ => hs.execPlanDisarm
  | .disarmReceived _ => hs.execDisarmReceived
  | .planStart _ => hs.execPlanStart
  | .planHaltBoundary _ _ => hs.execPlanHaltBoundary
  | .planHaltNow _ _ => hs.execPlanHaltNow
  | .planResume _ _ => hs.execPlanResume
  | .planReset _ _ => hs.execPlanReset
  | .planUnload _ _ => hs.execPlanUnload
  | .planTick _ _ => hs.execPlanTick
  | .slipQuantumEnd _ => hs.execSlipQuantumEnd
  | .rotationsComplete _ => hs.execRotationsComplete
  | .latenessReport _ _ _ _ => hs.execLatenessReport
  | .slipToken _ _ => hs.execSlipToken
  | .haltToken _ _ => hs.execHaltToken
  | .haltTakesEffect _ => hs.execHaltTakesEffect
  | .timeSyncInterval => hs.execTimeSyncInterval
  | .timeFlit _ _ _ _ _ => hs.execTimeFlit
  | .holdoverExpiry => hs.execHoldoverExpiry
  | .ftcSet _ _ => hs.execFtcSet
  | .mma _ _ => hs.execMma
  | .tileRead _ _ => hs.execTileRead
  | .tileWrite _ _ => hs.execTileWrite
  | .tileZero _ _ => hs.execTileZero
  | .vadd _ _ => hs.execVadd
  | .vsub _ _ => hs.execVsub
  | .vmul _ _ => hs.execVmul
  | .vfma _ _ => hs.execVfma
  | .vmax _ _ => hs.execVmax
  | .vmin _ _ => hs.execVmin
  | .vexp2 _ _ => hs.execVexp2
  | .vlog2 _ _ => hs.execVlog2
  | .vrcp _ _ => hs.execVrcp
  | .vrsqrt _ _ => hs.execVrsqrt
  | .vredsum _ _ => hs.execVredsum
  | .vredmax _ _ => hs.execVredmax
  | .vcmp _ _ => hs.execVcmp
  | .vsel _ _ => hs.execVsel
  | .vcvt _ _ => hs.execVcvt
  | .vld _ _ => hs.execVld
  | .vst _ _ => hs.execVst
  | .vstscale _ _ => hs.execVstscale
  | .vbcast _ _ => hs.execVbcast
  | .viadd _ _ => hs.execViadd
  | .vand _ _ => hs.execVand
  | .vor _ _ => hs.execVor
  | .vxor _ _ => hs.execVxor
  | .sAdd _ _ => hs.execSAdd
  | .sSub _ _ => hs.execSSub
  | .sMul _ _ => hs.execSMul
  | .sAnd _ _ => hs.execSAnd
  | .sOr _ _ => hs.execSOr
  | .sXor _ _ => hs.execSXor
  | .shl _ _ => hs.execShl
  | .shr _ _ => hs.execShr
  | .sar _ _ => hs.execSar
  | .slt _ _ => hs.execSlt
  | .sltu _ _ => hs.execSltu
  | .addi _ _ => hs.execAddi
  | .addhi _ _ => hs.execAddhi
  | .shli _ _ => hs.execShli
  | .ld64 _ _ => hs.execLd64
  | .st64 _ _ => hs.execSt64
  | .ld32 _ _ => hs.execLd32
  | .st32 _ _ => hs.execSt32
  | .rdstat _ _ => hs.execRdstat
  | .rdres _ _ => hs.execRdres
  | .rdflags _ _ => hs.execRdflags
  | .clrflags _ _ => hs.execClrflags
  | .rdtick _ _ => hs.execRdtick
  | .desc _ _ => hs.execDesc
  | .xRemoteIssue _ _ => hs.execXRemoteIssue
  | .br _ _ => hs.execBr
  | .bz _ _ => hs.execBz
  | .bnz _ _ => hs.execBnz
  | .waitop _ _ => hs.execWaitop
  | .waitall _ _ => hs.execWaitall
  | .barrier _ _ => hs.execBarrier
  | .tickwait _ _ => hs.execTickwait
  | .setstream _ _ => hs.execSetstream
  | .trap _ _ => hs.execTrap
  | .drain _ => hs.execDrain
  | .taskEnd _ => hs.execTaskEnd
  | .runTask _ _ _ => hs.execRunTask
  | .taskSplit _ => hs.execTaskSplit
  | .taskTake _ => hs.execTaskTake
  | .arbiterDraw _ _ => hs.execArbiterDraw
  | .starvationFlag _ _ => hs.execStarvationFlag
  | .arbiterSeedWrite _ _ _ => hs.execArbiterSeedWrite
  | .jobOpen _ => hs.execJobOpen
  | .jobAbort _ => hs.execJobAbort
  | .jobRelease _ => hs.execJobRelease
  | .jobPut _ _ => hs.execJobPut
  | .heldJobPutTimeout _ _ => hs.execHeldJobPutTimeout
  | .jobIdleTimeout _ => hs.execJobIdleTimeout
  | .jobExponentReady _ => hs.execJobExponentReady
  | .millstoneSum _ _ _ => hs.execMillstoneSum
  | .jobOutputAck _ _ => hs.execJobOutputAck
  | .hcuJobStart _ => hs.execHcuJobStart
  | .gatherSortDone _ => hs.execGatherSortDone
  | .frameReceive _ _ _ => hs.execFrameReceive
  | .quotaAdmit _ => hs.execQuotaAdmit
  | .quotaWaitExpiry _ => hs.execQuotaWaitExpiry
  | .injectionFrame _ _ _ => hs.execInjectionFrame
  | .frameLink _ => hs.execFrameLink
  | .multicastBranchAck _ _ _ => hs.execMulticastBranchAck
  | .egressFrameBoundary _ => hs.execEgressFrameBoundary
  | .mcEntryWrite _ _ _ => hs.execMcEntryWrite
  | .quotaWrite _ _ _ => hs.execQuotaWrite
  | .lgMembersWrite _ _ _ _ => hs.execLgMembersWrite
  | .lgRebalance _ _ => hs.execLgRebalance
  | .lgRebalanceComplete _ => hs.execLgRebalanceComplete
  | .routeWrite _ _ _ => hs.execRouteWrite
  | .wheelTick => hs.execWheelTick
  | .trfIndRead _ _ => hs.execTrfIndRead
  | .trfIndWrite _ _ => hs.execTrfIndWrite
  | .contractDispatch _ => hs.execContractDispatch
  | .gateCycleStart _ _ _ => hs.execGateCycleStart
  | .gateCycleBegin _ => hs.execGateCycleBegin
  | .gateCycleStop _ _ => hs.execGateCycleStop
  | .gateStopEffect _ => hs.execGateStopEffect
  | .gateHoldExpiry _ => hs.execGateHoldExpiry
  | .gateEntryWrite _ _ _ _ => hs.execGateEntryWrite
  | .partitionBind _ _ => hs.execPartitionBind
  | .mapWritten _ => hs.execMapWritten
  | .partitionUnbind _ _ => hs.execPartitionUnbind
  | .partitionClearComplete _ => hs.execPartitionClearComplete
  | .partitionRepair _ _ => hs.execPartitionRepair
  | .channelOwnerWrite _ _ _ => hs.execChannelOwnerWrite
  | .channelDeclareFailed _ _ => hs.execChannelDeclareFailed
  | .channelRestore _ _ => hs.execChannelRestore
  | .channelRetrainDone _ _ => hs.execChannelRetrainDone
  | .channelClearComplete _ => hs.execChannelClearComplete
  | .channelStall _ => hs.execChannelStall
  | .channelFatalError _ => hs.execChannelFatalError
  | .uncorrectableError _ => hs.execUncorrectableError
  | .tierDeadlineExpiry _ _ => hs.execTierDeadlineExpiry
  | .pageMoveStart _ _ => hs.execPageMoveStart
  | .pageMoveSwitch _ _ => hs.execPageMoveSwitch
  | .migrationHoldExpiry _ _ => hs.execMigrationHoldExpiry
  | .promote _ => hs.execPromote
  | .demote _ => hs.execDemote
  | .pin _ => hs.execPin
  | .unpin _ => hs.execUnpin
  | .layer _ => hs.execLayer
  | .cancel _ => hs.execCancel
  | .kvStoreEnable _ _ _ => hs.execKvStoreEnable
  | .kvStoreDisable _ _ => hs.execKvStoreDisable
  | .kvOpen _ => hs.execKvOpen
  | .kvLookup _ => hs.execKvLookup
  | .kvTouch _ => hs.execKvTouch
  | .kvSetTtl _ => hs.execKvSetTtl
  | .kvRetain _ => hs.execKvRetain
  | .kvRelease _ => hs.execKvRelease
  | .kvPinNear _ => hs.execKvPinNear
  | .kvUnpinNear _ => hs.execKvUnpinNear
  | .kvTruncate _ => hs.execKvTruncate
  | .truncateEffect _ _ => hs.execTruncateEffect
  | .kvDelete _ => hs.execKvDelete
  | .kvDeleteComplete _ _ => hs.execKvDeleteComplete
  | .kvMove _ _ => hs.execKvMove
  | .kvMoveCopyDone _ _ _ _ => hs.execKvMoveCopyDone
  | .kvMoveSwitchDone _ _ _ => hs.execKvMoveSwitchDone
  | .kvTokenWrite _ => hs.execKvTokenWrite
  | .kvPagePull _ => hs.execKvPagePull
  | .kvAttend _ => hs.execKvAttend
  | .attendStart _ => hs.execAttendStart
  | .attendRangeDone _ _ _ => hs.execAttendRangeDone
  | .attendOutputVisible _ _ => hs.execAttendOutputVisible
  | .sessionExpiryCheck => hs.execSessionExpiryCheck
  | .handleQuarantineExpiry _ => hs.execHandleQuarantineExpiry
  | .rdS _ => hs.execRdS
  | .rdX _ => hs.execRdX
  | .upg _ => hs.execUpg
  | .wb _ => hs.execWb
  | .drop _ => hs.execDrop
  | .rdSpec _ => hs.execRdSpec
  | .snoopResponse _ _ _ _ => hs.execSnoopResponse
  | .directoryRequestResume _ => hs.execDirectoryRequestResume
  | .holdExpiry _ => hs.execHoldExpiry
  | .snoopTimeout _ _ => hs.execSnoopTimeout
  | .specBufferExpiry _ _ => hs.execSpecBufferExpiry
  | .windowEnable _ _ _ => hs.execWindowEnable
  | .windowDisable _ _ => hs.execWindowDisable
  | .windowDisableComplete _ => hs.execWindowDisableComplete
  | .wayMaskWrite _ _ _ => hs.execWayMaskWrite
  | .agentRegister _ _ _ => hs.execAgentRegister
  | .agentUnregister _ _ => hs.execAgentUnregister
  | .streamEnable _ _ => hs.execStreamEnable
  | .streamEnableComplete _ => hs.execStreamEnableComplete
  | .streamDisable _ _ => hs.execStreamDisable
  | .czPut _ => hs.execCzPut
  | .czBlockVisible _ => hs.execCzBlockVisible
  | .czGet _ => hs.execCzGet
  | .train _ => hs.execTrain
  | .trainComplete _ => hs.execTrainComplete
  | .loadTable _ => hs.execLoadTable
  | .czSeal _ => hs.execCzSeal
  | .streamReset _ => hs.execStreamReset
  | .tableFetch _ _ _ => hs.execTableFetch
  | .vsQuery _ => hs.execVsQuery
  | .shardQueryStart _ => hs.execShardQueryStart
  | .shardQueryDone _ _ => hs.execShardQueryDone
  | .vsResultVisible _ _ => hs.execVsResultVisible
  | .queryTimeout _ => hs.execQueryTimeout
  | .vsEnable _ => hs.execVsEnable
  | .vsDisable _ => hs.execVsDisable
  | .vsDisableComplete _ => hs.execVsDisableComplete
  | .vsInsert _ => hs.execVsInsert
  | .vsDelete _ => hs.execVsDelete
  | .vsDeleteComplete _ _ => hs.execVsDeleteComplete
  | .setNeighbours _ => hs.execSetNeighbours
  | .merge _ => hs.execMerge
  | .mergeSwitch _ _ => hs.execMergeSwitch
  | .tenantEnable _ _ _ => hs.execTenantEnable
  | .tenantDisable _ _ _ => hs.execTenantDisable
  | .clusterOwnerWrite _ _ _ => hs.execClusterOwnerWrite
  | .clusterClearComplete _ => hs.execClusterClearComplete
  | .portBindWrite _ _ _ => hs.execPortBindWrite
  | .secAssign _ _ => hs.execSecAssign
  | .spdmMessage _ _ => hs.execSpdmMessage
  | .keyRelease _ _ => hs.execKeyRelease
  | .keyDestroy _ _ => hs.execKeyDestroy
  | .mkDecrypt _ => hs.execMkDecrypt
  | .verify _ => hs.execVerify
  | .activate _ => hs.execActivate
  | .commit _ _ => hs.execCommit
  | .abort _ => hs.execAbort
  | .rekey _ => hs.execRekey
  | .rekeyHardLimit _ => hs.execRekeyHardLimit
  | .portModeWrite _ _ _ _ => hs.execPortModeWrite
  | .portEnable _ _ => hs.execPortEnable
  | .portDisable _ _ => hs.execPortDisable
  | .retrain _ _ => hs.execRetrain
  | .electricalTrainingDone _ _ => hs.execElectricalTrainingDone
  | .caps _ _ => hs.execCaps
  | .secureDone _ _ => hs.execSecureDone
  | .calibrateDone _ _ _ => hs.execCalibrateDone
  | .trainingTimeout _ => hs.execTrainingTimeout
  | .trainingRestart _ => hs.execTrainingRestart
  | .flitReceive _ _ _ _ => hs.execFlitReceive
  | .ack _ _ => hs.execAck
  | .nak _ _ => hs.execNak
  | .ackSend _ => hs.execAckSend
  | .uncorrectableWord _ => hs.execUncorrectableWord
  | .replayTimeout _ => hs.execReplayTimeout
  | .laneFail _ _ => hs.execLaneFail
  | .degrade _ _ _ => hs.execDegrade
  | .degradeSwitch _ => hs.execDegradeSwitch
  | .gdpHello _ _ _ => hs.execGdpHello
  | .gdpRead _ _ _ => hs.execGdpRead
  | .gdpWrite _ _ _ => hs.execGdpWrite
  | .flashWrite _ _ _ => hs.execFlashWrite
  | .gdpSecured _ _ _ _ _ => hs.execGdpSecured
  | .eventAck _ _ => hs.execEventAck
  | .icmpv6Echo _ _ _ => hs.execIcmpv6Echo
  | .neighborDiscovery _ _ _ _ => hs.execNeighborDiscovery
  | .eventRaise _ _ => hs.execEventRaise
  | .eventResend _ => hs.execEventResend
  | .eventHoldoffExpiry _ => hs.execEventHoldoffExpiry
  | .meterSnapshot _ _ => hs.execMeterSnapshot
  | .meterSnapshotLatch => hs.execMeterSnapshotLatch
  | .mailboxRead _ _ _ => hs.execMailboxRead
  | .mailboxWrite _ _ _ => hs.execMailboxWrite
  | .dictReq _ _ _ => hs.execDictReq
  | .dictRsp => hs.execDictRsp
  | .eventFetch => hs.execEventFetch
  | .smbusSclTimeout => hs.execSmbusSclTimeout
  | .spiRead _ _ => hs.execSpiRead
  | .spiWrite _ _ => hs.execSpiWrite
  | .spiFetchResponse _ => hs.execSpiFetchResponse
  | .spiFetchEvent _ => hs.execSpiFetchEvent
  | .sensorPoll _ _ => hs.execSensorPoll
  | .dimmThermalPoll _ _ => hs.execDimmThermalPoll
  | .busTransactionTimeout _ _ => hs.execBusTransactionTimeout
  | .busSdaStuck _ _ => hs.execBusSdaStuck
  | .busRecoveryAttempt _ _ => hs.execBusRecoveryAttempt
  | .recover _ _ => hs.execRecover
  | .powerUp _ => hs.execPowerUp
  | .softStartDone => hs.execSoftStartDone
  | .boot _ _ _ _ _ => hs.execBoot
  | .fuseReread _ => hs.execFuseReread
  | .powerMonitorTick _ => hs.execPowerMonitorTick
  | .sagSample _ _ => hs.execSagSample
  | .throttleRelease => hs.execThrottleRelease
  | .brownoutRecovery => hs.execBrownoutRecovery
  | .brownoutLoss _ => hs.execBrownoutLoss
  | .thermalSample _ => hs.execThermalSample
  | .thermalThrottleStep => hs.execThermalThrottleStep
  | .referenceMonitor _ _ _ => hs.execReferenceMonitor
  | .clockRequestWrite _ _ _ => hs.execClockRequestWrite
  | .railSettled _ => hs.execRailSettled
  | .coldResetPin => hs.execColdResetPin
  | .coldResetRelease => hs.execColdResetRelease
  | .resetCommandWarm _ => hs.execResetCommandWarm
  | .resetCommandCold _ => hs.execResetCommandCold
  | .heartbeat _ => hs.execHeartbeat
  | .watchdogRestart => hs.execWatchdogRestart
  | .watchdogWarning => hs.execWatchdogWarning
  | .watchdogExpiry => hs.execWatchdogExpiry
  | .dimmOvercurrent _ => hs.execDimmOvercurrent
  | .dimmFeedLow => hs.execDimmFeedLow
  | .unitHangTimeout _ => hs.execUnitHangTimeout
  | .containmentTimeout _ => hs.execContainmentTimeout
  | .portUnfence _ _ => hs.execPortUnfence
  | .injectArm _ => hs.execInjectArm
  | .injectCancel _ => hs.execInjectCancel
  | .injectDisable _ => hs.execInjectDisable
  | .injectFire _ => hs.execInjectFire
  | .csOpen _ => hs.execCsOpen
  | .csAbort _ => hs.execCsAbort
  | .csRelease _ => hs.execCsRelease
  | .csPut _ => hs.execCsPut
  | .csCommit _ => hs.execCsCommit
  | .csApplyDone _ _ => hs.execCsApplyDone
  | .ckptArm _ _ => hs.execCkptArm
  | .ckptCancel _ _ => hs.execCkptCancel
  | .ckptStart _ => hs.execCkptStart
  | .ckptPageCaptured _ _ _ => hs.execCkptPageCaptured
  | .cowCopyDone _ _ => hs.execCowCopyDone
  | .ckptManifest _ _ => hs.execCkptManifest
  | .meterSample => hs.execMeterSample
  | .meterModeSwitch => hs.execMeterModeSwitch
  | .flashWriteDone _ => hs.execFlashWriteDone
  | .managementLaneLinkChange _ => hs.execManagementLaneLinkChange
  | .cxlPcieLinkUp _ _ _ => hs.execCxlPcieLinkUp
  | .cxlPcieLinkLoss _ => hs.execCxlPcieLinkLoss
  | .channelRequestComplete _ _ => hs.execChannelRequestComplete
  | .discardedResponseTimeout _ => hs.execDiscardedResponseTimeout
  | .cellUsSample => hs.execCellUsSample

/-- A step keeps everything `Steady` names, but for the command it takes from the front of the queue. -/
theorem step_steady {s t : State} (h : step s = .next t) : Steady { s with pending := s.pending.tail } t := by
  unfold step at h
  split at h
  · next hp =>
    cases h
    have : ({ s with pending := s.pending.tail } : State) = s := by rw [hp, List.tail_nil, ← hp]
    rw [this]
    exact (Steady.refl s).idleTick
  · next c rest hp =>
    rw [hp]
    exact (Steady.refl _).exec c t h

/-- Settles O10: the part is one of the things that every step keeps. -/
theorem chipNeverChanges : Obligations.ChipNeverChanges := fun _ _ h => (step_steady h).chip

/-! ### The state after reset -/

theorem reset_bytesCanonical : BytesCanonical State.reset := by decide
theorem reset_controlStoresCanonical : ControlStoresCanonical State.reset := by decide
theorem reset_fabricStoresCanonical : FabricStoresCanonical State.reset := by decide
theorem reset_poolStoresCanonical : PoolStoresCanonical State.reset := by decide
theorem reset_packageStoresCanonical : PackageStoresCanonical State.reset := by decide

/-- Settles O4: every part stands at its reset value, and every store is empty. That the package runs at reset and that nothing waits are
the model's own choice (notes/assumptions/5.md, notes/assumptions/1.md). -/
theorem resetIsCanonical : Obligations.ResetIsCanonical :=
  ⟨rfl, rfl, rfl, rfl, reset_bytesCanonical, reset_controlStoresCanonical, reset_fabricStoresCanonical, reset_poolStoresCanonical,
    reset_packageStoresCanonical, rfl, rfl, rfl, rfl⟩

end Sys2Proof.Machine
end


/-! # What every command keeps of the tables

Sitting of the family 01_architecture: O6, and the layer it rests on. Most parts of a state are tables, lists of numbered entries in
canonical form (`Store.wf`); a few are logs with a longest length. `Tidy σ s` says that each table that was canonical at `σ` is canonical
at the later state `s`, and that each log that was within its bound still is. Table by table, so that no operation needs to know of the
tables it leaves alone. As with `Steady`, one lemma for each operation of the model, in the order of the model's files, says that it
takes a tidy state to a tidy one; the operation `s.foo.bar` is met by `hs.foo.bar`. All tables and logs of the state are here, those of
O7, O8, O9, O11 and O12 too, so that one walk over the operations serves them all. -/

section
namespace Sys2Proof.Machine

/-- A table that was in its canonical form is still in it. -/
def Tidied {α : Type} [DecidableEq α] (d : α) (a b : Store α) : Prop := Store.wf d a = true → Store.wf d b = true

section
variable {α : Type} [DecidableEq α] {d : α} {a b : Store α}

/-! What the model does to a table keeps its form: a write, a choice of entries, a change of values, a fold of these. -/

theorem Tidied.refl : Tidied d a a := id
theorem Tidied.write {k v} (h : Tidied d a b) : Tidied d a (Store.write d b k v) :=
  fun ha => Store.wf_write _ _ _ (h ha)
theorem Tidied.filter {p} (h : Tidied d a b) : Tidied d a (b.filter p) := fun ha => wf_filter _ _ _ (h ha)
theorem Tidied.revalue {f} (h : Tidied d a b) : Tidied d a (Store.revalue d f b) :=
  fun ha => wf_revalue _ _ _ (h ha)

/-- A change of the values alone, under which no value becomes the one that is not listed, keeps the canonical form. -/
theorem wfFrom_map {f : Nat × α → Nat × α} (hn : ∀ e, (f e).1 = e.1) (hv : ∀ e, e.2 ≠ d → (f e).2 ≠ d) {lo : Nat}
    {st : Store α} (h : Store.wfFrom d lo st = true) : Store.wfFrom d lo (st.map f) = true := by
  induction st generalizing lo with
  | nil => rfl
  | cons e t ih =>
    obtain ⟨i, v⟩ := e
    simp only [Store.wfFrom, Bool.and_eq_true, decide_eq_true_eq] at h
    obtain ⟨⟨hlo, hd⟩, ht⟩ := h
    simp only [List.map_cons, Store.wfFrom, Bool.and_eq_true, decide_eq_true_eq, hn]
    exact ⟨⟨hlo, hv _ hd⟩, ih ht⟩

theorem Tidied.map {f : Nat × α → Nat × α} (hn : ∀ e, (f e).1 = e.1) (hv : ∀ e, e.2 ≠ d → (f e).2 ≠ d) (h : Tidied d a b) :
    Tidied d a (b.map f) := fun ha => wfFrom_map hn hv (h ha)
theorem Tidied.foldl {β : Type} {f : Store α → β → Store α} {l : List β} (h : Tidied d a b)
    (hf : ∀ {c x}, Tidied d a c → Tidied d a (f c x)) : Tidied d a (l.foldl f b) := by
  induction l generalizing b with
  | nil => exact h
  | cons x l ih => exact ih (hf h)

theorem Tidied.empty : Tidied d a [] := fun _ => rfl

end

/-- Each table of `s` is canonical where that of `σ` is, and each log within its bound. -/
structure Tidy (σ s : State) : Prop where
  csr : Tidied none σ.csr s.csr
  queues : Tidied ({} : QueueCtx) σ.remote.queues s.remote.queues
  syncs : Tidied ({} : SyncObj) σ.remote.syncs s.remote.syncs
  endpoints : Tidied ({} : EndpointPosted) σ.remote.endpoints s.remote.endpoints
  planSlots : Tidied ({} : PlanSlot) σ.plans.slots s.plans.slots
  florets : Tidied ({} : Floret) σ.florets.florets s.florets.florets
  jobs : Tidied ({} : Job) σ.hcu.jobs s.hcu.jobs
  fbQueues : Tidied ([] : List Nat) σ.hcu.fbQueues s.hcu.fbQueues
  frames : Tidied none σ.sw.frames s.sw.frames
  lists : Tidied [] σ.sw.lists s.sw.lists
  mcast : Tidied ({} : McEntry) σ.sw.mcast s.sw.mcast
  groups : Tidied ({} : LinkGroup) σ.sw.groups s.sw.groups
  buckets : Tidied ({} : Bucket) σ.sw.buckets s.sw.buckets
  credits : Tidied 0 σ.sw.credits s.sw.credits
  headroom : Tidied 0 σ.sw.headroom s.sw.headroom
  sent : Tidied [] σ.sw.sent s.sw.sent
  weirs : Tidied ({} : TokenBucket) σ.traffic.weirs s.traffic.weirs
  shapers : Tidied ({} : TokenBucket) σ.traffic.shapers s.traffic.shapers
  gates : Tidied ({} : Gate) σ.traffic.gates s.traffic.gates
  gateEntries : Tidied ({} : GateEntry) σ.traffic.gateEntries s.traffic.gateEntries
  dispatched : Tidied ([] : List Dispatched) σ.traffic.dispatched s.traffic.dispatched
  ports : Tidied ({} : Port) σ.links.ports s.links.ports
  parts : Tidied ({} : Partition) σ.pool.parts s.pool.parts
  channels : Tidied ({} : Channel) σ.pool.channels s.pool.channels
  kvStores : Tidied ({} : KvStore) σ.kv.stores s.kv.stores
  windows : Tidied ({} : Window) σ.coh.windows s.coh.windows
  entries : Tidied none σ.coh.entries s.coh.entries
  ways : Tidied 0 σ.coh.ways s.coh.ways
  agents : Tidied ({} : Agent) σ.coh.agents s.coh.agents
  streams : Tidied ({} : Stream) σ.cz.streams s.cz.streams
  indexes : Tidied ({} : VIndex) σ.meadow.indexes s.meadow.indexes
  tenants : Tidied ({} : Tenant) σ.sec.tenants s.sec.tenants
  clusterOwner : Tidied 0xFF σ.sec.clusterOwner s.sec.clusterOwner
  binds : Tidied ({} : PortBind) σ.sec.binds s.sec.binds
  crypt : Tidied ({} : PortCrypt) σ.sec.crypt s.sec.crypt
  keys : Tidied none σ.sec.keys s.sec.keys
  banks : Tidied ({} : Bank) σ.sec.banks s.sec.banks
  flash : Tidied 0 σ.mgmt.flash s.mgmt.flash
  flashBanks : Tidied ({} : FlashBank) σ.mgmt.flashBanks s.mgmt.flashBanks
  vectors : Tidied ({} : Vector) σ.mgmt.vectors s.mgmt.vectors
  dimmHot : Tidied false σ.mgmt.dimmHot s.mgmt.dimmHot
  units : Tidied ({} : UnitRec) σ.power.units s.power.units
  clocks : Tidied 1800 σ.power.clocks s.power.clocks
  inject : Tidied ({} : InjectEntry) σ.faults.inject s.faults.inject
  commitSlots : Tidied ({} : CommitSlot) σ.faults.slots s.faults.slots
  meterMode : Tidied 0 σ.faults.meterMode s.faults.meterMode
  clearLog : σ.sec.clearLog.length ≤ 4096 → s.sec.clearLog.length ≤ 4096
  eventLog : σ.mgmt.eventLog.length ≤ 4096 → s.mgmt.eventLog.length ≤ 4096
  faultLog : σ.faults.log.length ≤ 1024 → s.faults.log.length ≤ 1024
  waits : σ.remote.waits.length ≤ 32768 → s.remote.waits.length ≤ 32768

/-- The same of an operation that may fail with a code, that may give nothing, and of a command. -/
def TidyOk {ε : Type} (σ : State) (r : Except ε State) : Prop := ∀ t, r = .ok t → Tidy σ t
def TidySome (σ : State) (r : Option State) : Prop := ∀ t, r = some t → Tidy σ t
def TidyNext (σ : State) (r : Result) : Prop := ∀ t, r = .next t → Tidy σ t

/-- A state with nothing in it but its tables and logs. -/
abbrev State.tables (s : State) : State where
  csr := s.csr
  remote := { queues := s.remote.queues, syncs := s.remote.syncs, endpoints := s.remote.endpoints, waits := s.remote.waits }
  plans := { slots := s.plans.slots }
  florets := { florets := s.florets.florets }
  hcu := { jobs := s.hcu.jobs, fbQueues := s.hcu.fbQueues }
  sw := { frames := s.sw.frames, lists := s.sw.lists, mcast := s.sw.mcast, groups := s.sw.groups, buckets := s.sw.buckets
          credits := s.sw.credits, headroom := s.sw.headroom, sent := s.sw.sent }
  traffic := { weirs := s.traffic.weirs, shapers := s.traffic.shapers, gates := s.traffic.gates
               gateEntries := s.traffic.gateEntries, dispatched := s.traffic.dispatched }
  links := { ports := s.links.ports }
  pool := { parts := s.pool.parts, channels := s.pool.channels }
  kv := { stores := s.kv.stores }
  coh := { windows := s.coh.windows, entries := s.coh.entries, ways := s.coh.ways, agents := s.coh.agents }
  cz := { streams := s.cz.streams }
  meadow := { indexes := s.meadow.indexes }
  sec := { tenants := s.sec.tenants, clusterOwner := s.sec.clusterOwner, binds := s.sec.binds, crypt := s.sec.crypt
           keys := s.sec.keys, banks := s.sec.banks, clearLog := s.sec.clearLog }
  mgmt := { flash := s.mgmt.flash, flashBanks := s.mgmt.flashBanks, vectors := s.mgmt.vectors
            dimmHot := s.mgmt.dimmHot, eventLog := s.mgmt.eventLog }
  power := { units := s.power.units, clocks := s.power.clocks }
  faults := { inject := s.faults.inject, slots := s.faults.slots, meterMode := s.faults.meterMode, log := s.faults.log }

/-- Tables and logs are all that `Tidy` speaks of. -/
theorem tidy_tables {σ s : State} : Tidy σ s.tables ↔ Tidy σ s := ⟨fun h => { h with }, fun h => { h with }⟩

variable {σ s : State}

theorem Tidy.refl (s : State) : Tidy s s := by
  constructor <;> exact id

/-- Any part that is neither table nor log may be written. -/
theorem Tidy.put
    {pending now ftc out freeCounter chip dict mem sram remote plans florets hcu sw traffic pool kv coh cz meadow sec links mgmt power
      faults}
    (hs : Tidy σ s)
    (h : State.tables { s with
      pending, now, ftc, out, freeCounter, chip, dict, mem, sram, remote, plans, florets, hcu, sw, traffic, pool, kv, coh, cz, meadow, sec
      links, mgmt, power, faults } = s.tables) :
    Tidy σ { s with
      pending, now, ftc, out, freeCounter, chip, dict, mem, sram, remote, plans, florets, hcu, sw, traffic, pool, kv, coh, cz, meadow, sec
      links, mgmt, power, faults } :=
  tidy_tables.mp (h ▸ tidy_tables.mpr hs)

theorem Tidy.ok {ε : Type} (hs : Tidy σ s) : TidyOk σ (.ok s : Except ε State) := fun _ h => by cases h; exact hs
theorem Tidy.some (hs : Tidy σ s) : TidySome σ (.some s) := fun _ h => by cases h; exact hs
theorem Tidy.next (hs : Tidy σ s) : TidyNext σ (.next s) := fun _ h => by cases h; exact hs
theorem TidyOk.error {ε : Type} {e : ε} : TidyOk σ (.error e : Except ε State) := fun _ h => nomatch h
theorem TidySome.none : TidySome σ .none := fun _ h => nomatch h

/-! A choice keeps what both sides keep. An operation may give its state as the last component of a pair or a triple. -/

theorem Tidy.ite {c : Prop} {_ : Decidable c} {t u : State} (ht : Tidy σ t) (hu : Tidy σ u) :
    Tidy σ (if c then t else u) := by
  split <;> assumption

theorem Tidy.ite_snd {α : Type} {c : Prop} {_ : Decidable c} {t u : α × State} (ht : Tidy σ t.2) (hu : Tidy σ u.2) :
    Tidy σ (if c then t else u).2 := by
  split <;> assumption

theorem Tidy.ite_snd_snd {α β : Type} {c : Prop} {_ : Decidable c} {t u : α × β × State} (ht : Tidy σ t.2.2)
    (hu : Tidy σ u.2.2) : Tidy σ (if c then t else u).2.2 := by
  split <;> assumption

theorem TidyOk.ite {ε : Type} {c : Prop} {_ : Decidable c} {t u : Except ε State} (ht : TidyOk σ t) (hu : TidyOk σ u) :
    TidyOk σ (if c then t else u) := by
  split <;> assumption

theorem TidySome.ite {c : Prop} {_ : Decidable c} {t u : Option State} (ht : TidySome σ t) (hu : TidySome σ u) :
    TidySome σ (if c then t else u) := by
  split <;> assumption

theorem TidyNext.ite {c : Prop} {_ : Decidable c} {t u : Result} (ht : TidyNext σ t) (hu : TidyNext σ u) :
    TidyNext σ (if c then t else u) := by
  split <;> assumption

theorem TidyOk.map {ε : Type} {r : Except ε State} {f : State → State} (hr : TidyOk σ r)
    (hf : ∀ {t}, Tidy σ t → Tidy σ (f t)) : TidyOk σ (r.map f) := by
  cases r with
  | error => exact .error
  | ok t => exact (hf (hr t rfl)).ok

theorem Tidy.getD {o : Option State} (hs : Tidy σ s) (ho : TidySome σ o) : Tidy σ (o.getD s) := by
  cases o with
  | none => exact hs
  | some t => exact ho t rfl

/-! A fold keeps what each of its rounds keeps. -/

theorem Tidy.foldl {α : Type} {f : State → α → State} {l : List α} (hs : Tidy σ s)
    (hf : ∀ {t a}, Tidy σ t → Tidy σ (f t a)) : Tidy σ (l.foldl f s) := by
  induction l generalizing s with
  | nil => exact hs
  | cons a l ih => exact ih (hf hs)

theorem Tidy.foldl_snd {α β : Type} {f : β × State → α → β × State} {l : List α} {x : β × State} (hs : Tidy σ x.2)
    (hf : ∀ {t a}, Tidy σ t.2 → Tidy σ (f t a).2) : Tidy σ (l.foldl f x).2 := by
  induction l generalizing x with
  | nil => exact hs
  | cons a l ih => exact ih (hf hs)

theorem Tidy.foldl_snd_snd {α β γ : Type} {f : β × γ × State → α → β × γ × State} {l : List α} {x : β × γ × State}
    (hs : Tidy σ x.2.2) (hf : ∀ {t a}, Tidy σ t.2.2 → Tidy σ (f t a).2.2) : Tidy σ (l.foldl f x).2.2 := by
  induction l generalizing x with
  | nil => exact hs
  | cons a l ih => exact ih (hf hs)

theorem lastN_length_le {α : Type} (n : Nat) (l : List α) : (lastN n l).length ≤ n := by
  simp [lastN]; omega

theorem Tidy.waitsFilter (p) (hs : Tidy σ s) :
    Tidy σ { s with remote := { s.remote with waits := s.remote.waits.filter p } } :=
  { hs with waits := fun h => (List.length_filter_le ..).trans (hs.waits h) }

/-! ### Machine/Ops.lean -/

theorem Tidy.begin (hs : Tidy σ s) : Tidy σ s.begin := hs.put (by exact rfl)
theorem Tidy.emit {m} (hs : Tidy σ s) : Tidy σ (s.emit m) := hs.put (by exact rfl)
theorem Tidy.free {n} (hs : Tidy σ s) : Tidy σ (s.free n).2 := hs.put (by exact rfl)
theorem Tidy.setNum {k v} (hs : Tidy σ s) : Tidy σ (s.setNum k v) := hs.put (by exact rfl)
theorem Tidy.setBytes {k b} (hs : Tidy σ s) : Tidy σ (s.setBytes k b) := hs.put (by exact rfl)
theorem Tidy.bumpN {k n} (hs : Tidy σ s) : Tidy σ (s.bumpN k n) := hs.ite hs.setNum
theorem Tidy.bump {k} (hs : Tidy σ s) : Tidy σ (s.bump k) := hs.bumpN
theorem Tidy.bump32 {k} (hs : Tidy σ s) : Tidy σ (s.bump32 k) := hs.setNum
theorem Tidy.setReg {a v} (hs : Tidy σ s) : Tidy σ (s.setReg a v) := { hs with csr := hs.csr.write }
theorem Tidy.setUnit {l u} (hs : Tidy σ s) : Tidy σ (s.setUnit l u) := { hs with units := hs.units.write }
theorem Tidy.memWrite {off bs} (hs : Tidy σ s) : Tidy σ (s.memWrite off bs) := hs.put (by exact rfl)
theorem Tidy.sramWrite {off bs} (hs : Tidy σ s) : Tidy σ (s.sramWrite off bs) := hs.put (by exact rfl)
theorem Tidy.memZero {off n} (hs : Tidy σ s) : Tidy σ (s.memZero off n) := hs.put (by exact rfl)
theorem Tidy.sramZero {off n} (hs : Tidy σ s) : Tidy σ (s.sramZero off n) := hs.put (by exact rfl)
theorem Tidy.ticksPass {n} (hs : Tidy σ s) : Tidy σ (s.ticksPass n) := hs.bumpN.ite hs
theorem Tidy.idleTick (hs : Tidy σ s) : Tidy σ s.idleTick := (hs.put (by exact rfl)).ticksPass
theorem Tidy.elapse {t} (hs : Tidy σ s) : Tidy σ (s.elapse t) := (hs.put (by exact rfl)).ticksPass.ite hs

theorem Tidy.countDeferral {tenant r} (hs : Tidy σ s) : Tidy σ (s.countDeferral tenant r) := hs.ite hs.bump
theorem Tidy.countRefusal {tenant r} (hs : Tidy σ s) : Tidy σ (s.countRefusal tenant r) := hs.ite hs.bump
theorem Tidy.meter {tenant sub n} (hs : Tidy σ s) : Tidy σ (s.meter tenant sub n) := hs.bumpN.ite hs
theorem Tidy.setQueue {q c} (hs : Tidy σ s) : Tidy σ (s.setQueue q c) := { hs with queues := hs.queues.write }
theorem Tidy.setEndpointPosted {n e} (hs : Tidy σ s) : Tidy σ (s.setEndpointPosted n e) := { hs with endpoints := hs.endpoints.write }

theorem Tidy.clearSticky {i} (hs : Tidy σ s) : Tidy σ (s.clearSticky i) := by
  unfold State.clearSticky
  split
  · exact hs.setQueue
  · split
    · exact hs.setEndpointPosted
    · exact hs

theorem Tidy.setSticky {i st pseq} (hs : Tidy σ s) : Tidy σ (s.setSticky i st pseq) := by
  unfold State.setSticky
  refine hs.ite ?_
  split
  · exact hs.setQueue
  · split
    · exact hs.setEndpointPosted
    · exact hs

theorem Tidy.countRetired {i} (hs : Tidy σ s) : Tidy σ (s.countRetired i) := by
  unfold State.countRetired
  split
  · exact hs.setQueue
  · split
    · exact hs.setEndpointPosted
    · exact hs

theorem Tidy.countIssued {i} (hs : Tidy σ s) : Tidy σ (s.countIssued i) := by
  unfold State.countIssued
  split
  · exact hs.setQueue
  · split
    · exact hs.setEndpointPosted
    · exact hs

theorem Tidy.openOp {r op} (hs : Tidy σ s) : Tidy σ (s.openOp r op) := hs.ite (hs.put (by exact rfl))

theorem Tidy.closeOp {i posted id} (hs : Tidy σ s) : Tidy σ (s.closeOp i posted id) := by
  unfold State.closeOp
  split
  · exact hs
  · exact (hs.put (by exact rfl)).countRetired.ite (hs.put (by exact rfl))

theorem Tidy.markInjected {a} (hs : Tidy σ s) : Tidy σ (s.markInjected a).2 := hs.bump.ite hs

theorem Tidy.respondCore {r op a0 q} (hs : Tidy σ s) : Tidy σ (s.respondCore r op a0 q) := by
  unfold State.respondCore
  extract_lets +onlyGivenNames _ _ s1
  have hs1 : Tidy σ s1 := hs.markInjected.countRefusal.ite hs.markInjected
  exact (hs1.put (by exact rfl)).ite ((hs1.closeOp.ite (hs1.put (by exact rfl))).ite ((hs1.closeOp.put (by exact rfl))))

theorem Tidy.setSync {n o} (hs : Tidy σ s) : Tidy σ (s.setSync n o) := { hs with syncs := hs.syncs.write }
theorem Tidy.endWaitCore {w st} (hs : Tidy σ s) : Tidy σ (s.endWaitCore w st) :=
  (hs.waitsFilter _).respondCore
theorem Tidy.retest {n} (hs : Tidy σ s) : Tidy σ (s.retest n) := by
  unfold State.retest; exact hs.foldl .endWaitCore
theorem Tidy.updateCore {n v by_} (hs : Tidy σ s) : Tidy σ (s.updateCore n v by_) := (hs.setSync.put (by exact rfl)).retest
theorem Tidy.endFence {f} (hs : Tidy σ s) : Tidy σ (s.endFence f) := (hs.ite hs.clearSticky).respondCore
theorem Tidy.endNotify {p} (hs : Tidy σ s) : Tidy σ (s.endNotify p) := hs.updateCore.respondCore

theorem Tidy.wakeN {n} (hs : Tidy σ s) : Tidy σ (State.wakeN n s) := by
  induction n generalizing s with
  | zero => exact hs
  | succ n ih =>
    unfold State.wakeN
    split
    · exact ih (hs.put (by exact rfl)).endFence
    · split
      · exact ih (hs.put (by exact rfl)).endNotify
      · exact hs

theorem Tidy.wake (hs : Tidy σ s) : Tidy σ s.wake := hs.wakeN
theorem Tidy.respond {r op a q} (hs : Tidy σ s) : Tidy σ (s.respond r op a q) := hs.respondCore.wake
theorem Tidy.endWait {w st} (hs : Tidy σ s) : Tidy σ (s.endWait w st) := hs.endWaitCore.wake.ite hs
theorem Tidy.syncUpdate {n v by_} (hs : Tidy σ s) : Tidy σ (s.syncUpdate n v by_) := hs.updateCore.wake
theorem Tidy.startNotify {r op n amount nodeOnly} (hs : Tidy σ s) : Tidy σ (s.startNotify r op n amount nodeOnly) :=
  hs.endNotify.wake.ite (hs.put (by exact rfl)).openOp
theorem Tidy.notifyAddr {addr tc by_ amount} (hs : Tidy σ s) : Tidy σ (s.notifyAddr addr tc by_ amount).2 :=
  hs.ite_snd ((hs.ite_snd (hs.ite_snd hs.syncUpdate)).ite_snd hs.emit)
theorem Tidy.setVector {v x} (hs : Tidy σ s) : Tidy σ (s.setVector v x) := { hs with vectors := hs.vectors.write }
theorem Tidy.sendEvent {mask seqs} (hs : Tidy σ s) : Tidy σ (s.sendEvent mask seqs) := hs.foldl fun hu => hu.put (by exact rfl)

theorem Tidy.deliverOther {x} (hs : Tidy σ s) : Tidy σ (s.deliverOther x) := by
  unfold State.deliverOther
  extract_lets +onlyGivenNames _ s1
  have hs1 : Tidy σ s1 := hs.ite (hs.notifyAddr.ite hs.notifyAddr.bump)
  exact hs1.emit.ite hs1

theorem Tidy.event {vector source kind st arg injection} (hs : Tidy σ s) :
    Tidy σ (s.event vector source kind st arg injection) := by
  unfold State.event
  extract_lets +onlyGivenNames _ _ _ _ _ _ s1 s2
  have hs1 : Tidy σ s1 := { hs with eventLog := fun _ => by simpa [s1] using lastN_length_le 4096 _ }
  have hs2 : Tidy σ s2 := hs1.bumpN
  refine hs2.ite (hs2.sendEvent.deliverOther.ite ?_)
  dsimp only
  split <;> exact hs2.setVector

theorem Tidy.eventOpen {vector source st arg injected} (hs : Tidy σ s) :
    Tidy σ (s.eventOpen vector source st arg injected) :=
  hs.free.event
theorem Tidy.fault {code source arg action st entry0} (hs : Tidy σ s) :
    Tidy σ (s.fault code source arg action st entry0) := by
  unfold State.fault
  extract_lets +onlyGivenNames _ _ _ _ _ _ s1 s2
  have hs1 : Tidy σ s1 := { hs with faultLog := fun _ => by simpa [s1] using lastN_length_le 1024 _ }
  have hs2 : Tidy σ s2 := hs1.ite hs1.bump
  exact hs2.event
theorem Tidy.busError {i addr write st} (hs : Tidy σ s) : Tidy σ (s.busError i addr write st) :=
  (hs.setReg.ite hs.setReg.setReg).setReg
theorem Tidy.answer {r q} (hs : Tidy σ s) : Tidy σ (s.answer r q) := hs.put (by exact rfl)

theorem Tidy.refuseAt {a addr st reason} (hs : Tidy σ s) : Tidy σ (s.refuseAt a addr st reason) := by
  unfold State.refuseAt
  split
  · exact hs.busError.answer
  · exact hs.answer

theorem Tidy.setCsrReq {n r} (hs : Tidy σ s) : Tidy σ (s.setCsrReq n r) := hs.put (by exact rfl)
theorem Tidy.setPath {p x} (hs : Tidy σ s) : Tidy σ (s.setPath p x) := by
  unfold State.setPath; exact hs.put (by exact rfl)

theorem Tidy.takeArm {a addr} (hs : Tidy σ s) : Tidy σ (s.takeArm a addr).2 := by
  unfold State.takeArm
  split
  · exact hs.setCsrReq
  · exact hs.setPath

theorem Tidy.openWrite {eff : State → State} {a addr check guarded} (hs : Tidy σ s)
    (heff : ∀ {t}, Tidy σ t → Tidy σ (eff t)) :
    Tidy σ (s.openWrite a addr check eff guarded) := by
  unfold State.openWrite
  refine hs.takeArm.refuseAt.ite ?_
  split
  · exact hs.takeArm.refuseAt
  · exact (heff hs.takeArm).answer

theorem Tidy.mgmtWrite {eff : State → State} {a addr check guarded} (hs : Tidy σ s)
    (heff : ∀ {t}, Tidy σ t → Tidy σ (eff t)) :
    Tidy σ (s.mgmtWrite a addr check eff guarded) :=
  hs.takeArm.refuseAt.ite (hs.openWrite heff)
theorem Tidy.stageLo {i addr v} (hs : Tidy σ s) : Tidy σ (s.stageLo i addr v) := hs.put (by exact rfl)
theorem Tidy.takeLo {i addr} (hs : Tidy σ s) : Tidy σ (s.takeLo i addr).2 := by
  unfold State.takeLo; exact hs.put (by exact rfl)
theorem Tidy.atFtc {f} (hs : Tidy σ s) : Tidy σ (s.atFtc f) := hs.elapse.ite hs
theorem Tidy.atTick {n} (hs : Tidy σ s) : Tidy σ (s.atTick n) := hs.atFtc
theorem Tidy.openBytes {n} (hs : Tidy σ s) : Tidy σ (s.openBytes n).2 := hs.put (by exact rfl)
theorem Tidy.whenRunning {f : State → State} (hs : Tidy σ s) (hf : ∀ {t}, Tidy σ t → Tidy σ (f t)) :
    Tidy σ (s.whenRunning f) :=
  (hf hs).ite hs

/-! ### Machine/Clocks.lean -/

theorem Tidy.setClusterClock {c mhz} (hs : Tidy σ s) : Tidy σ (s.setClusterClock c mhz) := { hs with clocks := hs.clocks.write }

/-! ### Machine/PoolMem.lean -/

theorem Tidy.setChan {c x} (hs : Tidy σ s) : Tidy σ (s.setChan c x) := { hs with channels := hs.channels.write }
theorem Tidy.setPart {n p} (hs : Tidy σ s) : Tidy σ (s.setPart n p) := { hs with parts := hs.parts.write }
theorem Tidy.setPage {n p r} (hs : Tidy σ s) : Tidy σ (s.setPage n p r) := hs.put (by exact rfl)

theorem Tidy.touchPage {n p} (hs : Tidy σ s) : Tidy σ (s.touchPage n p) := by
  unfold State.touchPage
  split
  · exact hs
  · exact (hs.put (by exact rfl)).ite (hs.put (by exact rfl))

theorem Tidy.touchRange {n p off len tenant write} (hs : Tidy σ s) : Tidy σ (s.touchRange n p off len tenant write) :=
  hs.ite (hs.foldl fun hu => hu.touchPage.meter)
theorem Tidy.setPoison {b v} (hs : Tidy σ s) : Tidy σ (s.setPoison b v) := hs.put (by exact rfl)

theorem Tidy.writeBlocks {ok off bs n} (hs : Tidy σ s) : Tidy σ (s.writeBlocks ok off bs n).2 := by
  induction n generalizing s ok off bs with
  | zero => exact hs
  | succ n ih =>
    unfold State.writeBlocks
    split
    · exact hs
    · exact ih (hs.ite (hs.memWrite.setPoison.ite hs.memWrite))

theorem Tidy.poolWrite {off bs} (hs : Tidy σ s) : Tidy σ (s.poolWrite off bs).2 := by
  unfold State.poolWrite
  split
  · exact hs.memWrite
  · exact hs.writeBlocks

/-! ### Machine/Shapers.lean -/

theorem Tidy.setShaper {n b} (hs : Tidy σ s) : Tidy σ (s.setShaper n b) := { hs with shapers := hs.shapers.write }
theorem Tidy.placeOnWheel {n} (hs : Tidy σ s) : Tidy σ (s.placeOnWheel n) := hs.setShaper.put (by exact rfl)
theorem Tidy.charge {n cost} (hs : Tidy σ s) : Tidy σ (s.charge n cost) :=
  hs.ite (hs.setShaper.placeOnWheel.ite hs.setShaper)
theorem Tidy.setWeir {n b} (hs : Tidy σ s) : Tidy σ (s.setWeir n b) := { hs with weirs := hs.weirs.write }
theorem Tidy.weirPass {n cost} (hs : Tidy σ s) : Tidy σ (s.weirPass n cost).2 :=
  hs.ite_snd (hs.setWeir.bump.ite_snd hs.setWeir)
theorem Tidy.wheelStep (hs : Tidy σ s) : Tidy σ s.wheelStep := by
  unfold State.wheelStep
  extract_lets +onlyGivenNames _ _ _ s1 _
  have hs1 : Tidy σ s1 := { hs with shapers := hs.shapers.revalue, weirs := hs.weirs.revalue }
  exact (hs1.foldl fun hu => hu.setShaper.placeOnWheel.ite hu.setShaper).bumpN

/-! ### Machine/PoolIo.lean -/

theorem Tidy.setCkpt {c k} (hs : Tidy σ s) : Tidy σ (s.setCkpt c k) := hs.put (by exact rfl)
theorem Tidy.ckptCopy {c n p} (hs : Tidy σ s) : Tidy σ (s.ckptCopy c n p) := by
  unfold State.ckptCopy; exact hs.setCkpt

theorem Tidy.ckptKeep {n first count} (hs : Tidy σ s) : Tidy σ (s.ckptKeep n first count) := by
  unfold State.ckptKeep
  refine hs.foldl fun hu => ?_
  split
  · exact hu.ckptCopy
  · exact hu

theorem Tidy.used {off len tenant} (hs : Tidy σ s) : Tidy σ (s.used off len tenant) := by
  unfold State.used
  split
  · exact hs.touchRange.ite hs
  · exact hs

theorem Tidy.fetchUsed {i a n} (hs : Tidy σ s) : Tidy σ (s.fetchUsed i a n) := hs.used.ite hs

theorem Tidy.serviceWrite {off bs tenant use} (hs : Tidy σ s) : Tidy σ (s.serviceWrite off bs tenant use).2 := by
  unfold State.serviceWrite
  split
  · exact hs
  · split
    · exact hs
    · exact hs.ite_snd hs.ckptKeep.poolWrite.touchRange

theorem Tidy.writeLocal {i tc addr bs} (hs : Tidy σ s) : Tidy σ (s.writeLocal i tc addr bs).2 := by
  unfold State.writeLocal
  refine hs.ite_snd (hs.ite_snd ?_)
  refine hs.serviceWrite.ite_snd (.ite_snd ?_ hs.emit)
  split
  · exact hs
  · exact hs.sramWrite

theorem Tidy.setContract {k c} (hs : Tidy σ s) : Tidy σ (s.setContract k c) := hs.put (by exact rfl)
theorem Tidy.setInChannel {c l} (hs : Tidy σ s) : Tidy σ (s.setInChannel c l) := { hs with dispatched := hs.dispatched.write }

theorem Tidy.poolEffect {o} (hs : Tidy σ s) : Tidy σ (s.poolEffect o).2.2.2 := by
  unfold State.poolEffect
  dsimp only
  split
  · exact hs
  · split
    · split
      · exact hs
      · split
        · exact hs
        · exact hs.memWrite
    · exact hs.poolWrite

theorem Tidy.performPool {r} (hs : Tidy σ s) : Tidy σ (s.performPool r) := by
  unfold State.performPool
  dsimp only
  split
  · exact hs.respond
  · split
    · exact (hs.put (by exact rfl)).countDeferral
    · split
      · exact hs.setCkpt.countDeferral
      · exact hs.poolEffect.touchRange.setInChannel

theorem Tidy.dispatchReq {go : State → PoolReq → State} {k r rest owed} (hs : Tidy σ s)
    (hgo : ∀ {t a0}, Tidy σ t → Tidy σ (go t a0)) :
    Tidy σ (s.dispatchReq go k r rest owed) := by
  unfold State.dispatchReq
  extract_lets +onlyGivenNames _ _ _ _ s2 _ s4
  have hs2 : Tidy σ s2 := hs.setContract.charge.ite hs.setContract
  have hs4 : Tidy σ s4 := (hs2.charge.ite hs2).bumpN
  exact hgo (hs4.countDeferral.ite hs4)

theorem Tidy.markHeads {ks f} (hs : Tidy σ s) : Tidy σ (s.markHeads ks f) := by
  unfold State.markHeads
  refine hs.foldl fun hu => ?_
  dsimp only
  split
  · exact hu.setContract
  · exact hu

theorem Tidy.dispatchOne {go : State → PoolReq → State} {ch} (hs : Tidy σ s)
    (hgo : ∀ {t a0}, Tidy σ t → Tidy σ (go t a0)) :
    Tidy σ (s.dispatchOne go ch) := by
  unfold State.dispatchOne
  refine hs.ite ?_
  dsimp only
  split
  · split
    · exact hs.markHeads
    · exact (hs.markHeads.markHeads.put (by exact rfl)).dispatchReq hgo
  · split
    · exact hs.markHeads
    · split
      · exact hs.markHeads.put (by exact rfl)
      · exact ((hs.markHeads.put (by exact rfl)).setContract.ite (hs.markHeads.put (by exact rfl))).dispatchReq hgo

theorem Tidy.enqueueAt {go : State → PoolReq → State} {o ch kv defer load} (hs : Tidy σ s)
    (hgo : ∀ {t a0}, Tidy σ t → Tidy σ (go t a0)) :
    Tidy σ (s.enqueueAt go o ch kv defer load) := by
  unfold State.enqueueAt
  refine (hs.weirPass.ite_snd hs).respond.ite ((hs.weirPass.ite_snd hs).respond.ite ?_)
  extract_lets +onlyGivenNames _ _ _ s1
  have hs1 : Tidy σ s1 := (hs.weirPass.ite_snd hs).put (by exact rfl)
  exact (hs1.openOp.dispatchReq hgo).ite hs1.openOp.setContract

theorem Tidy.enqueuePool {o defer} (hs : Tidy σ s) : Tidy σ (s.enqueuePool o defer) := hs.enqueueAt .performPool

theorem Tidy.poolSubmit {o} (hs : Tidy σ s) : Tidy σ (s.poolSubmit o) := by
  unfold State.poolSubmit
  dsimp only
  split
  · exact hs.respond
  · refine hs.respond.ite ?_
    split
    · exact hs
    · exact hs.enqueuePool.ite (hs.openOp.put (by exact rfl)).countDeferral

theorem Tidy.releasePool {o defer} (hs : Tidy σ s) : Tidy σ (s.releasePool o defer) := (hs.put (by exact rfl)).performPool

theorem Tidy.takeTierError {u} (hs : Tidy σ s) : Tidy σ (s.takeTierError u).2 := by
  unfold State.takeTierError
  split
  · exact hs
  · exact hs.put (by exact rfl)

theorem Tidy.revertBlocks {d} (hs : Tidy σ s) : Tidy σ (s.revertBlocks d) :=
  hs.foldl fun hu => (hu.memWrite.ite hu).put (by exact rfl)

theorem Tidy.endAccess {o a defer load} (hs : Tidy σ s) : Tidy σ (s.endAccess o a defer load) := by
  unfold State.endAccess
  extract_lets +onlyGivenNames w
  have hw : Tidy σ w.2 := hs.ite_snd hs.writeLocal
  exact (hw.startNotify.ite hw.respond).ite hw.respond

theorem Tidy.finishPool {d a load} (hs : Tidy σ s) : Tidy σ (s.finishPool d a load) := by
  unfold State.finishPool
  extract_lets +onlyGivenNames s1
  have hs1 : Tidy σ s1 := by
    unfold s1
    refine .ite ?_ hs
    split
    · exact hs.bump
    · exact hs
  exact hs1.endAccess

theorem Tidy.completeReq {ch id} (hs : Tidy σ s) : Tidy σ (s.completeReq ch id) := by
  unfold State.completeReq
  split
  · exact hs
  · extract_lets +onlyGivenNames _ late s0 _ _ s2
    have hs0 : Tidy σ s0 := by
      unfold s0
      cases late with
      | none => exact hs
      | some => exact hs.elapse
    have hs2 : Tidy σ s2 := hs0.setInChannel.setChan.bump
    exact hs2.takeTierError.revertBlocks.finishPool.ite (hs2.finishPool.ite hs2.finishPool)

theorem Tidy.failReq {ch d a} (hs : Tidy σ s) : Tidy σ (s.failReq ch d a) := hs.setInChannel.revertBlocks.finishPool

/-! ### Machine/Front.lean -/

theorem Tidy.countArrival {o} (hs : Tidy σ s) : Tidy σ (s.countArrival o) := by
  unfold State.countArrival
  split
  · exact hs.countIssued.openOp.ite hs
  · exact hs

theorem Tidy.forward {o} (hs : Tidy σ s) : Tidy σ (s.forward o) := (hs.ite hs.openOp).emit

theorem Tidy.front {here : State → State} {o postedOk mdMask mcast} (hs : Tidy σ s)
    (hhere : ∀ {t}, Tidy σ t → Tidy σ (here t)) :
    Tidy σ (s.front o postedOk mdMask mcast here) := by
  unfold State.front
  refine hs.begin.respond.ite (hs.begin.respond.ite ?_)
  refine hs.begin.respond.ite (hs.begin.respond.ite ?_)
  refine hs.begin.respond.ite ((hs.begin.countArrival.forward.ite hs.begin.respond).ite ?_)
  exact (hhere hs.begin.countArrival).ite (hs.begin.respond.ite hs.begin.countArrival.forward)

theorem Tidy.unitOp {here : State → State} {o mdMask} (hs : Tidy σ s) (hhere : ∀ {t}, Tidy σ t → Tidy σ (here t)) :
    Tidy σ (s.unitOp o mdMask here) :=
  hs.whenRunning fun hu => hu.front hhere
theorem Tidy.homeOp {here : State → State} {o postedOk mdMask} (hs : Tidy σ s) (hhere : ∀ {t}, Tidy σ t → Tidy σ
    (here t)) :
    Tidy σ (s.homeOp o postedOk mdMask here) :=
  hs.whenRunning fun hu => hu.begin.respond.ite (hu.front hhere)

theorem Tidy.atLocal {go : State → Operation → State} {o n} (hs : Tidy σ s)
    (hgo : ∀ {t a0}, Tidy σ t → Tidy σ (go t a0)) :
    Tidy σ (s.atLocal o n go) := by
  unfold State.atLocal
  split
  · exact hs.respond
  · exact hgo hs.fetchUsed

/-! ### Machine/Checkpoint.lean -/

theorem Tidy.ckptArm {a c} (hs : Tidy σ s) : Tidy σ (s.ckptArm a c) := hs.openWrite fun hu => hu.setPart.setCkpt
theorem Tidy.execCkptArm {p c} (hs : Tidy σ s) : TidyNext σ (execCkptArm p c s) := (hs.begin.whenRunning .ckptArm).next
theorem Tidy.ckptRelease {c f} (hs : Tidy σ s) : Tidy σ (s.ckptRelease c f) := hs.setCkpt.foldl .releasePool
theorem Tidy.ckptEnd {c state st} (hs : Tidy σ s) : Tidy σ (s.ckptEnd c state st) := hs.setPart.setCkpt.ckptRelease

theorem Tidy.ckptCancel {a c} (hs : Tidy σ s) : Tidy σ (s.ckptCancel a c) := by
  unfold State.ckptCancel
  exact hs.openWrite .ckptEnd

theorem Tidy.execCkptCancel {p c} (hs : Tidy σ s) : TidyNext σ (execCkptCancel p c s) :=
  (hs.begin.whenRunning .ckptCancel).next

theorem Tidy.ckptSend {c} (hs : Tidy σ s) : Tidy σ (s.ckptSend c) := by
  unfold State.ckptSend
  refine hs.ite ?_
  split
  · exact hs
  · exact (hs.setCkpt.charge.ite hs.setCkpt).emit

theorem Tidy.ckptPump {c} (hs : Tidy σ s) : Tidy σ (s.ckptPump c) :=
  hs.ite ((hs.foldl .ckptSend).setCkpt.emit.ite (hs.foldl .ckptSend))
theorem Tidy.execCkptStart {c} (hs : Tidy σ s) : TidyNext σ (execCkptStart c s) :=
  (hs.begin.whenRunning fun hu => hu.ite (hu.elapse.put (by exact rfl)).setCkpt.ckptPump).next
theorem Tidy.execCkptPageCaptured {c page r} (hs : Tidy σ s) : TidyNext σ (execCkptPageCaptured c page r s) :=
  (hs.begin.whenRunning fun hu => hu.ite (hu.ckptEnd.ite hu.setCkpt.ckptRelease.ckptPump)).next
theorem Tidy.execCowCopyDone {c page} (hs : Tidy σ s) : TidyNext σ (execCowCopyDone c page s) :=
  (hs.begin.whenRunning fun hu => hu.ite (hu.setCkpt.ite hu.setCkpt.ckptCopy).ckptRelease).next
theorem Tidy.execCkptManifest {c r} (hs : Tidy σ s) : TidyNext σ (execCkptManifest c r s) :=
  (hs.begin.whenRunning fun hu => hu.ite (hu.ckptEnd.ite hu.ckptEnd)).next
theorem Tidy.setCslot {n x} (hs : Tidy σ s) : Tidy σ (s.setCslot n x) := { hs with commitSlots := hs.commitSlots.write }
theorem Tidy.csNo {o st reason} (hs : Tidy σ s) : Tidy σ (csNo s o st reason) := hs.respond
theorem Tidy.csOn {go : State → Nat → CommitSlot → State} {o mask} (hs : Tidy σ s)
    (hgo : ∀ {t a0 a1}, Tidy σ t → Tidy σ (go t a0 a1)) :
    Tidy σ (s.csOn o mask go) :=
  hs.homeOp fun hu => hu.csNo.ite (hu.csNo.ite (hgo hu))

theorem Tidy.execCsOpen {o} (hs : Tidy σ s) : TidyNext σ (execCsOpen o s) := by
  unfold Machine.execCsOpen
  refine (hs.csOn fun hu => ?_).next
  refine hu.csNo.ite (hu.csNo.ite ?_)
  refine hu.csNo.ite (hu.csNo.ite ?_)
  refine hu.csNo.ite ?_
  split
  · exact hu.csNo
  · exact hu.csNo.ite hu.setCslot.respond

theorem Tidy.csAbortSlot {n} (hs : Tidy σ s) : Tidy σ (s.csAbortSlot n).2 := by
  unfold State.csAbortSlot
  dsimp only
  split
  · exact hs.setCslot
  · exact hs
  · exact hs
  · exact hs

theorem Tidy.execCsAbort {o} (hs : Tidy σ s) : TidyNext σ (execCsAbort o s) :=
  (hs.csOn fun hu => hu.csNo.ite (hu.csNo.ite (hu.csAbortSlot.respond.ite hu.csNo))).next

theorem Tidy.execCsRelease {o} (hs : Tidy σ s) : TidyNext σ (execCsRelease o s) := by
  unfold Machine.execCsRelease
  refine (hs.csOn fun hu => ?_).next
  refine hu.csNo.ite (hu.csNo.ite ?_)
  split
  · exact hu.csNo
  · exact hu.csNo
  · exact hu.csNo
  · exact hu.setCslot.respond

theorem Tidy.csClosed {o x} (hs : Tidy σ s) : Tidy σ (s.csClosed o x) := by
  unfold State.csClosed
  split
  · exact hs.csNo.ite hs.bump.respond
  · exact hs.csNo.ite hs.bump.respond
  · exact hs.csNo

theorem Tidy.execCsPut {o} (hs : Tidy σ s) : TidyNext σ (execCsPut o s) := by
  unfold Machine.execCsPut
  refine (hs.csOn fun hu => ?_).next
  refine hu.csNo.ite (hu.csNo.ite ?_)
  refine hu.csClosed.ite (hu.csNo.ite ?_)
  refine hu.csNo.ite ?_
  dsimp only
  split
  · exact hu.csNo
  · exact hu.serviceWrite.setCslot.respond.ite hu.serviceWrite.respond

theorem Tidy.csApply {x l n} (hs : Tidy σ s) : Tidy σ (s.csApply x l n).2.2 := by
  induction l generalizing s n with
  | nil => exact hs
  | cons r t ih =>
    unfold State.csApply
    exact .ite_snd_snd (.ite_snd_snd hs.writeLocal (ih hs.writeLocal)) (ih hs.emit)

theorem Tidy.execCsCommit {o} (hs : Tidy σ s) : TidyNext σ (execCsCommit o s) := by
  unfold Machine.execCsCommit
  refine (hs.csOn fun hu => ?_).next
  refine hu.csNo.ite (hu.csNo.ite ?_)
  refine hu.csClosed.ite (hu.csNo.ite ?_)
  dsimp only
  split
  · exact hu.openOp.setCslot
  · exact hu.openOp.used.csApply.setCslot

theorem Tidy.execCsApplyDone {slot r} (hs : Tidy σ s) : TidyNext σ (execCsApplyDone slot r s) := by
  unfold Machine.execCsApplyDone
  refine (hs.begin.whenRunning fun hu => ?_).next
  dsimp only
  split
  · exact hu
  · exact hu.ite (hu.notifyAddr.setCslot.respond.ite hu.setCslot.respond)

/-! ### Machine/Traffic.lean -/

theorem Tidy.execWheelTick (hs : Tidy σ s) : TidyNext σ (execWheelTick s) :=
  (hs.begin.whenRunning fun hu => hu.elapse.wheelStep.foldl .ckptPump).next
theorem Tidy.indRead (hs : Tidy σ s) : Tidy σ s.indRead := hs.foldl .setReg
theorem Tidy.execTrfIndRead {i v} (hs : Tidy σ s) : TidyNext σ (execTrfIndRead i v s) :=
  (hs.begin.whenRunning fun hu => hu.mgmtWrite .indRead).next
theorem Tidy.indWrite (hs : Tidy σ s) : Tidy σ s.indWrite :=
  (hs.setShaper.put (by exact rfl)).ite (hs.setWeir.ite (hs.setContract.ite hs.setContract.setContract))
theorem Tidy.execTrfIndWrite {i v} (hs : Tidy σ s) : TidyNext σ (execTrfIndWrite i v s) :=
  (hs.begin.whenRunning fun hu => hu.mgmtWrite .indWrite).next
theorem Tidy.setGate {p g} (hs : Tidy σ s) : Tidy σ (s.setGate p g) := { hs with gates := hs.gates.write }
theorem Tidy.setGateEntry {p e x} (hs : Tidy σ s) : Tidy σ (s.setGateEntry p e x) := { hs with gateEntries := hs.gateEntries.write }
theorem Tidy.activate {p e at_} (hs : Tidy σ s) : Tidy σ (s.activate p e at_) := hs.setGate
theorem Tidy.gateDefault {p} (hs : Tidy σ s) : Tidy σ (s.gateDefault p) := hs.setGate
theorem Tidy.gateCycleStart {i p v} (hs : Tidy σ s) : Tidy σ (s.gateCycleStart i p v) :=
  hs.mgmtWrite fun hu => hu.setReg.setGate
theorem Tidy.execGateCycleStart {i port v} (hs : Tidy σ s) : TidyNext σ (execGateCycleStart i port v s) :=
  (hs.begin.whenRunning .gateCycleStart).next

theorem Tidy.execGateCycleBegin {port} (hs : Tidy σ s) : TidyNext σ (execGateCycleBegin port s) := by
  unfold Machine.execGateCycleBegin
  refine (hs.begin.whenRunning fun hu => ?_).next
  dsimp only
  split
  · exact hu
  · exact hu.atTick.setGate.activate

theorem Tidy.gateCycleStop {i p} (hs : Tidy σ s) : Tidy σ (s.gateCycleStop i p) :=
  hs.mgmtWrite fun hu => hu.setGate.ite hu
theorem Tidy.execGateCycleStop {i port} (hs : Tidy σ s) : TidyNext σ (execGateCycleStop i port s) :=
  (hs.begin.whenRunning .gateCycleStop).next

theorem Tidy.execGateStopEffect {port} (hs : Tidy σ s) : TidyNext σ (execGateStopEffect port s) := by
  unfold Machine.execGateStopEffect
  refine (hs.begin.whenRunning fun hu => ?_).next
  split
  · exact hu
  · exact hu.atTick.gateDefault

theorem Tidy.execGateHoldExpiry {port} (hs : Tidy σ s) : TidyNext σ (execGateHoldExpiry port s) :=
  (hs.begin.whenRunning fun hu => hu.ite (hu.activate.ite hu.atTick.activate)).next
theorem Tidy.gateEntryWrite {i p e v} (hs : Tidy σ s) : Tidy σ (s.gateEntryWrite i p e v) :=
  hs.takeLo.mgmtWrite .setGateEntry
theorem Tidy.execGateEntryWrite {i port entry v} (hs : Tidy σ s) : TidyNext σ (execGateEntryWrite i port entry v s) :=
  (hs.begin.whenRunning .gateEntryWrite).next

/-! ### Machine/Arbiter.lean -/

theorem Tidy.arbDrop {k} (hs : Tidy σ s) : Tidy σ (s.arbDrop k) := by
  unfold State.arbDrop
  split
  · exact hs
  · exact hs.setReg.setReg.setReg

theorem Tidy.arbPick {k waiting} (hs : Tidy σ s) : Tidy σ (s.arbPick k waiting).2 := by
  unfold State.arbPick
  refine hs.setReg.ite_snd ?_
  dsimp only
  split
  · exact hs.put (by exact rfl)
  · exact hs

theorem Tidy.arbCycle {k waiting} (hs : Tidy σ s) : Tidy σ (s.arbCycle k waiting) := by
  unfold State.arbCycle
  extract_lets +onlyGivenNames s1 _ r s3
  have hs1 : Tidy σ s1 := by
    unfold s1
    split
    · exact hs.ite hs.arbDrop
    · exact hs
  have hr : Tidy σ r.2 := (hs1.foldl .setReg).ite_snd (hs1.foldl .setReg).arbPick
  have hs3 : Tidy σ s3 := by
    unfold s3
    split
    · exact hr
    · exact hr.setReg.setReg.setReg
  exact hs3.foldl .setReg

theorem Tidy.execArbiterDraw {base waiting} (hs : Tidy σ s) : TidyNext σ (execArbiterDraw base waiting s) := by
  unfold Machine.execArbiterDraw
  refine (hs.begin.whenRunning fun hu => ?_).next
  split
  · exact hu
  · exact hu.arbCycle
  · exact hu.arbCycle

theorem Tidy.execStarvationFlag {base requester} (hs : Tidy σ s) : TidyNext σ (execStarvationFlag base requester s) := by
  unfold Machine.execStarvationFlag
  refine (hs.begin.whenRunning fun hu => ?_).next
  split
  · exact hu
  · exact hu.ite (hu.setReg.setReg.put (by exact rfl)).eventOpen

theorem Tidy.arbSeed {i base v} (hs : Tidy σ s) : Tidy σ (s.arbSeed i base v) := by
  unfold State.arbSeed
  exact hs.openWrite fun hu => hu.setReg.setReg

theorem Tidy.execArbiterSeedWrite {i base v} (hs : Tidy σ s) : TidyNext σ (execArbiterSeedWrite i base v s) :=
  (hs.begin.whenRunning .arbSeed).next

/-! ### Machine/ClearLog.lean -/

theorem Tidy.clearRecord {kind prev number frames start chans} (hs : Tidy σ s) :
    Tidy σ (s.clearRecord kind prev number frames start chans) :=
  { hs with clearLog := fun _ => by simpa [State.clearRecord] using lastN_length_le 4096 _ }

/-! ### Machine/Compress.lean -/

theorem Tidy.setStream {n x} (hs : Tidy σ s) : Tidy σ (s.setStream n x) := { hs with streams := hs.streams.write }
theorem Tidy.storeWrite {x off bs} (hs : Tidy σ s) : Tidy σ (s.storeWrite x off bs).2 := hs.serviceWrite
theorem Tidy.storeUsed {x off len} (hs : Tidy σ s) : Tidy σ (s.storeUsed x off len) := hs.used
theorem Tidy.holdTable {h} (hs : Tidy σ s) : Tidy σ (s.holdTable h) := by
  unfold State.holdTable; exact hs.put (by exact rfl)
theorem Tidy.forgetTables {n slots} (hs : Tidy σ s) : Tidy σ (s.forgetTables n slots) := hs.put (by exact rfl)

theorem Tidy.fetchTable {ch n slot} (hs : Tidy σ s) : Tidy σ (s.fetchTable ch n slot).2 := by
  unfold State.fetchTable
  dsimp only
  split
  · exact hs
  · exact hs.storeUsed.holdTable.ite_snd hs.storeUsed.setStream.bump.forgetTables.fault

theorem Tidy.table {ch n slot} (hs : Tidy σ s) : Tidy σ (s.table ch n slot).2 := by
  unfold State.table
  split
  · exact hs.holdTable
  · exact hs.fetchTable

theorem Tidy.expandBlock {n k} (hs : Tidy σ s) : Tidy σ (s.expandBlock n k).2 := by
  unfold State.expandBlock
  extract_lets +onlyGivenNames _ _
  split
  · exact hs
  · refine hs.storeUsed.setStream.bump.ite_snd ?_
    split
    · exact hs.storeUsed
    · extract_lets +onlyGivenNames _ fail
      have hfail : Tidy σ fail.2 := hs.storeUsed.storeUsed.setStream.bump
      refine hfail.ite_snd (hfail.ite_snd ?_)
      refine hfail.ite_snd (hs.storeUsed.storeUsed.bump.ite_snd ?_)
      refine hs.storeUsed.storeUsed.bump.ite_snd (hfail.ite_snd ?_)
      extract_lets +onlyGivenNames t
      have ht : Tidy σ t.2 := hs.storeUsed.storeUsed.table
      split
      · exact ht.setStream.bump
      · exact ht
      · split
        · exact ht.setStream.bump
        · exact ht.bump

theorem Tidy.czNo {o st reason} (hs : Tidy σ s) : Tidy σ (czNo s o st reason) := hs.respond
theorem Tidy.onStream {go : State → Nat → Stream → State} {o} (hs : Tidy σ s)
    (hgo : ∀ {t a0 a1}, Tidy σ t → Tidy σ (go t a0 a1)) :
    Tidy σ (s.onStream o go) :=
  hs.czNo.ite (hs.czNo.ite (hs.czNo.ite (hgo hs)))
theorem Tidy.czPutDo {o n x} (hs : Tidy σ s) : Tidy σ (s.czPutDo o n x) :=
  hs.czNo.ite (hs.czNo.ite (hs.czNo.ite (hs.czNo.ite (hs.czNo.ite (hs.czNo.ite hs.setStream.openOp)))))
theorem Tidy.execCzPut {o} (hs : Tidy σ s) : TidyNext σ (execCzPut o s) :=
  (hs.homeOp fun hu => hu.onStream fun hu => hu.czNo.ite (hu.czNo.ite hu.czPutDo)).next

theorem Tidy.sealIfDone {n} (hs : Tidy σ s) : Tidy σ (s.sealIfDone n) := by
  unfold State.sealIfDone
  dsimp only
  split
  · exact hs
  · exact hs.setStream.respond.ite hs

theorem Tidy.czPutFail {n st} (hs : Tidy σ s) : Tidy σ (s.czPutFail n st) := by
  unfold State.czPutFail
  dsimp only
  split
  · exact hs
  · exact (hs.setStream.respond.foldl .respond).sealIfDone

theorem Tidy.czTables {ch n} (hs : Tidy σ s) : Tidy σ (s.czTables ch n).2 := by
  unfold State.czTables
  refine hs.foldl_snd fun hu => .ite_snd ?_ hu
  dsimp only
  split <;> exact hu.table

theorem Tidy.execCzBlockVisible {n} (hs : Tidy σ s) : TidyNext σ (execCzBlockVisible n s) := by
  refine (hs.begin.whenRunning fun hu => ?_).next
  extract_lets +onlyGivenNames _
  split
  · exact hu
  · split
    · exact hu
    · extract_lets +onlyGivenNames _ _ coded _ _ r
      have hcoded {k} : Tidy σ (coded k).2 := hu.czTables
      have hr : Tidy σ r.2 := .ite_snd hcoded hcoded
      refine hr.storeWrite.czPutFail.ite ?_
      extract_lets +onlyGivenNames w2
      have hw2 : Tidy σ w2.2 := hr.storeWrite.storeWrite
      refine hw2.czPutFail.ite ?_
      extract_lets +onlyGivenNames _ _ _ v
      have hv : Tidy σ v := hw2.setStream.bump.bumpN.bumpN
      exact hv.respond.sealIfDone.ite hv

theorem Tidy.expandRange {n lo hi l acc} (hs : Tidy σ s) : Tidy σ (s.expandRange n lo hi l acc).2.2 := by
  induction l generalizing s acc with
  | nil => exact hs
  | cons k t ih =>
    unfold State.expandRange
    dsimp only
    split
    · exact hs.expandBlock
    · exact ih hs.expandBlock

theorem Tidy.czGetDo {o n x} (hs : Tidy σ s) : Tidy σ (s.czGetDo o n x) :=
  hs.czNo.ite (hs.czNo.ite hs.expandRange.writeLocal.respond)
theorem Tidy.execCzGet {o} (hs : Tidy σ s) : TidyNext σ (execCzGet o s) :=
  (hs.homeOp fun hu => hu.onStream fun hu => hu.czNo.ite (hu.czNo.ite hu.czGetDo)).next
theorem Tidy.czCtl {go : State → Nat → Stream → State} {o mask train} (hs : Tidy σ s)
    (hgo : ∀ {t a0 a1}, Tidy σ t → Tidy σ (go t a0 a1)) :
    Tidy σ (s.czCtl o mask train go) :=
  hs.homeOp fun hu => hu.onStream fun hu => hu.czNo.ite (hu.czNo.ite (hu.czNo.ite (hu.czNo.ite (hu.czNo.ite (hgo hu)))))
theorem Tidy.execTrain {o} (hs : Tidy σ s) : TidyNext σ (execTrain o s) :=
  (hs.czCtl fun hu => hu.czNo.ite (hu.czNo.ite (hu.czNo.ite (hu.czNo.ite (hu.respond.ite hu.used.setStream.openOp))))).next

theorem Tidy.loadSlot {n slot l} (hs : Tidy σ s) : Tidy σ (s.loadSlot n slot l).2 := by
  unfold State.loadSlot
  dsimp only
  split
  · exact hs.storeWrite
  · dsimp only
    exact hs.storeWrite.setStream.forgetTables

theorem Tidy.loadSlots {n tables} (hs : Tidy σ s) : Tidy σ (s.loadSlots n tables).2 :=
  hs.foldl_snd fun hu => hu.ite_snd hu.loadSlot

theorem Tidy.execTrainComplete {n} (hs : Tidy σ s) : TidyNext σ (execTrainComplete n s) := by
  unfold Machine.execTrainComplete
  refine (hs.begin.whenRunning fun hu => ?_).next
  dsimp only
  split
  · exact hu
  · exact hu.setStream.respond.ite hu.setStream.loadSlots.respond

theorem Tidy.execLoadTable {o} (hs : Tidy σ s) : TidyNext σ (execLoadTable o s) :=
  (hs.czCtl fun hu => hu.atLocal fun hu => hu.czNo.ite (hu.czNo.ite (hu.czNo.ite hu.loadSlot.respond))).next
theorem Tidy.execCzSeal {o} (hs : Tidy σ s) : TidyNext σ (execCzSeal o s) :=
  (hs.czCtl fun hu => hu.czNo.ite (hu.czNo.ite hu.setStream.openOp.sealIfDone)).next
theorem Tidy.execStreamReset {o} (hs : Tidy σ s) : TidyNext σ (execStreamReset o s) :=
  (hs.czCtl fun hu => hu.czNo.ite hu.setStream.openOp).next
theorem Tidy.execTableFetch {n slot channel} (hs : Tidy σ s) : TidyNext σ (execTableFetch n slot channel s) :=
  (hs.begin.whenRunning fun hu => hu.fetchTable.ite hu).next
theorem Tidy.execStreamEnable {a n} (hs : Tidy σ s) : TidyNext σ (execStreamEnable a n s) :=
  (hs.begin.whenRunning fun hu => (hu.setStream.ite hu).mgmtWrite fun hu => hu.forgetTables.setStream).next
theorem Tidy.poolZero {off len} (hs : Tidy σ s) : Tidy σ (s.poolZero off len) := hs.memZero.put (by exact rfl)

theorem Tidy.execStreamEnableComplete {n} (hs : Tidy σ s) : TidyNext σ (execStreamEnableComplete n s) := by
  unfold Machine.execStreamEnableComplete
  refine (hs.begin.whenRunning fun hu => ?_).next
  refine hu.ckptKeep.poolZero.setStream.ite ?_
  split
  · exact hu
  · exact hu.ckptKeep.poolZero.forgetTables.setStream.respond.ite hu

theorem Tidy.streamOff {n} (hs : Tidy σ s) : Tidy σ (s.streamOff n) := by
  unfold State.streamOff
  extract_lets +onlyGivenNames _ _ _ s2 _ s4
  have hs2 : Tidy σ s2 := hs.setStream.foldl .respond
  have hs4 : Tidy σ s4 := by
    unfold s4
    split
    · exact (hs2.foldl .respond).respond
    · exact hs2.foldl .respond
  split
  · exact hs4.respond
  · exact hs4

theorem Tidy.execStreamDisable {a n} (hs : Tidy σ s) : TidyNext σ (execStreamDisable a n s) :=
  (hs.begin.whenRunning fun hu => hu.mgmtWrite fun hu => hu.streamOff.setStream).next

/-! ### Machine/Moves.lean -/

theorem Tidy.askMove {n p toNear cause} (hs : Tidy σ s) : Tidy σ (s.askMove n p toNear cause).2 := by
  unfold State.askMove
  split
  · exact hs.bump.ite hs
  · exact hs.ite_snd (hs.put (by exact rfl))

theorem Tidy.endHints (hs : Tidy σ s) : Tidy σ s.endHints := hs.foldl fun hu => (hu.put (by exact rfl)).respond

theorem Tidy.markShort {w} (hs : Tidy σ s) : Tidy σ (s.markShort w) := by
  unfold State.markShort
  split
  · exact hs
  · exact hs.put (by exact rfl)

theorem Tidy.dropMoves {f} (hs : Tidy σ s) : Tidy σ (s.dropMoves f).2 := (hs.put (by exact rfl)).endHints
theorem Tidy.cancelCause {n cause} (hs : Tidy σ s) : Tidy σ (s.cancelCause n cause) := hs.dropMoves.bumpN
theorem Tidy.beginMove {n p toNear cause dest forPage} (hs : Tidy σ s) :
    Tidy σ (s.beginMove n p toNear cause dest forPage) :=
  hs.setPart.put (by exact rfl)

theorem Tidy.skipPromotion {n p cause} (hs : Tidy σ s) : Tidy σ (s.skipPromotion n p cause) := by
  unfold State.skipPromotion
  dsimp only
  split
  · exact hs.bump.markShort.dropMoves.bump
  · exact hs.bump.markShort.dropMoves

theorem Tidy.startMove {n p} (hs : Tidy σ s) : Tidy σ (s.startMove n p) := by
  unfold State.startMove
  split
  · exact hs
  · dsimp only
    split
    · exact (hs.put (by exact rfl)).endHints
    · refine hs.ite ((hs.put (by exact rfl)).endHints.ite ?_)
      split
      · exact (hs.put (by exact rfl)).beginMove.ite hs
      · refine (hs.put (by exact rfl)).markShort.endHints.ite (hs.ite ?_)
        split
        · exact hs.skipPromotion
        · split
          · exact hs.beginMove.setPart.ite hs
          · exact hs.skipPromotion

theorem Tidy.releaseHeld {l} (hs : Tidy σ s) : Tidy σ (s.releaseHeld l) := hs.foldl .releasePool

theorem Tidy.switchMove {m} (hs : Tidy σ s) : Tidy σ (s.switchMove m) := by
  unfold State.switchMove
  dsimp only
  split
  · exact (hs.put (by exact rfl)).endHints
  · exact (hs.put (by exact rfl)).setPage.setPart.bump.releaseHeld.endHints

theorem Tidy.cancelMove {m} (hs : Tidy σ s) : Tidy σ (s.cancelMove m) :=
  (hs.put (by exact rfl)).setPart.bump.releaseHeld.markShort.endHints

theorem Tidy.mapPagesIn {n first count f} (hs : Tidy σ s) : Tidy σ (s.mapPagesIn n first count f) := by
  unfold State.mapPagesIn
  refine hs.foldl fun hu => ?_
  split
  · exact hu.setPage
  · exact hu

theorem Tidy.releaseLayer {n first count} (hs : Tidy σ s) : Tidy σ (s.releaseLayer n first count) := by
  unfold State.releaseLayer
  refine hs.foldl fun hu => ?_
  split
  · exact hu.put (by exact rfl)
  · exact hu

theorem Tidy.prefetchLayer {n r old cause} (hs : Tidy σ s) : Tidy σ (s.prefetchLayer n r old cause).2 := by
  unfold State.prefetchLayer
  extract_lets +onlyGivenNames s1
  have hs1 : Tidy σ s1 := by
    unfold s1
    split
    · exact hs.releaseLayer
    · exact hs
  exact hs1.mapPagesIn.ite_snd (hs1.mapPagesIn.foldl_snd .askMove)

theorem Tidy.layerUsed {n l} (hs : Tidy σ s) : Tidy σ (s.layerUsed n l) := hs.used

/-! ### Machine/Kv.lean -/

theorem Tidy.setStore {t x} (hs : Tidy σ s) : Tidy σ (s.setStore t x) := { hs with kvStores := hs.kvStores.write }
theorem Tidy.setSession {x} (hs : Tidy σ s) : Tidy σ (s.setSession x) := hs.put (by exact rfl)

theorem Tidy.touchSession {t name} (hs : Tidy σ s) : Tidy σ (s.touchSession t name) := by
  unfold State.touchSession
  split
  · exact hs.setSession
  · exact hs

theorem Tidy.unpinPages {x pages} (hs : Tidy σ s) : Tidy σ (s.unpinPages x pages).2 := hs.foldl .mapPagesIn
theorem Tidy.freeSlots {t l} (hs : Tidy σ s) : Tidy σ (s.freeSlots t l) := hs.setStore
theorem Tidy.endSession {x st} (hs : Tidy σ s) : Tidy σ (s.endSession x st) := by
  unfold State.endSession
  extract_lets +onlyGivenNames s1 s2 s3
  have hs1 : Tidy σ s1 := hs.unpinPages.ite hs
  have hs3 : Tidy σ s3 := hs1.freeSlots.setSession
  exact hs3.put (by exact rfl)

/-- A slot taken comes with the state after it. -/
theorem Tidy.takeSlot {t writer n slot u} (hs : Tidy σ s) (e : s.takeSlot t writer n = .some (slot, u)) : Tidy σ u := by
  induction n generalizing s with
  | zero => cases e
  | succ n ih =>
    unfold State.takeSlot at e
    dsimp only at e
    split at e
    · cases e
      exact hs.free.setStore
    · split at e
      · cases e
      · split at e
        · exact ih hs.free.endSession.bump e
        · cases e
          exact hs.free.endSession.bump.free.setStore

theorem Tidy.pinSlot {x slot} (hs : Tidy σ s) : Tidy σ (s.pinSlot x slot) :=
  hs.ite (hs.bump.ite (hs.foldl fun hu => hu.mapPagesIn.askMove))

theorem Tidy.takePages {t name layer l} (hs : Tidy σ s) : TidySome σ (s.takePages t name layer l) := by
  induction l generalizing s with
  | nil => exact hs.some
  | cons p rest ih =>
    unfold State.takePages
    split
    · exact .none
    · refine .ite (ih hs) (.ite .none ?_)
      split
      · exact .none
      · next slot s1 e =>
        split
        · exact .none
        · exact ih (hs.takeSlot e).setSession.pinSlot

theorem Tidy.kvPut {t off bs} (hs : Tidy σ s) : Tidy σ (s.kvPut t off bs).2 := hs.serviceWrite

theorem Tidy.kvGet {t off len} (hs : Tidy σ s) : Tidy σ (s.kvGet t off len).2 := by
  unfold State.kvGet
  dsimp only
  split
  · exact hs.touchRange
  · exact hs

theorem Tidy.writePage {x layer page slot rows tokens} (hs : Tidy σ s) :
    Tidy σ (s.writePage x layer page slot rows tokens).2 :=
  hs.kvPut.foldl_snd fun hu => hu.foldl_snd .kvPut
theorem Tidy.kvNo {o st reason} (hs : Tidy σ s) : Tidy σ (kvNo s o st reason) := hs.respond
theorem Tidy.kvYes {o result} (hs : Tidy σ s) : Tidy σ (s.kvYes o result) := hs.touchSession.respond

theorem Tidy.kvOpenDo {o} (hs : Tidy σ s) : Tidy σ (s.kvOpenDo o) := by
  unfold State.kvOpenDo
  refine hs.kvNo.ite (hs.kvNo.ite ?_)
  refine hs.kvNo.ite (.ite ?_ (hs.kvNo.ite (hs.kvNo.ite (hs.free.put (by exact rfl)).kvYes)))
  split
  · exact hs.kvYes.ite hs.kvNo
  · exact hs.kvNo

theorem Tidy.kvLookupDo {o} (hs : Tidy σ s) : Tidy σ (s.kvLookupDo o) := by
  unfold State.kvLookupDo
  split
  · exact hs.kvNo
  · exact hs.respond.ite (hs.kvYes.ite hs.kvNo)

theorem Tidy.kvOn {f : KvSession → State} {o} (hs : Tidy σ s) (hf : ∀ {a0}, Tidy σ (f a0)) : Tidy σ (s.kvOn o f) := by
  unfold State.kvOn
  split
  · exact hs.kvNo
  · exact hf

theorem Tidy.kvRetainDo {o} (hs : Tidy σ s) : Tidy σ (s.kvRetainDo o) := hs.kvOn (hs.kvNo.ite hs.setSession.kvYes)
theorem Tidy.kvPinDo {o} (hs : Tidy σ s) : Tidy σ (s.kvPinDo o) :=
  hs.kvOn (hs.kvNo.ite (hs.foldl fun hu => hu.mapPagesIn.askMove).setSession.kvYes)
theorem Tidy.kvUnpinDo {o} (hs : Tidy σ s) : Tidy σ (s.kvUnpinDo o) := hs.kvOn hs.unpinPages.setSession.kvYes

theorem Tidy.truncateLayer {t name layer count} (hs : Tidy σ s) : Tidy σ (s.truncateLayer t name layer count) := by
  unfold State.truncateLayer
  split
  · exact hs
  · extract_lets +onlyGivenNames _ _ _ _ s1
    have hs1 : Tidy σ s1 := hs.setSession.freeSlots
    refine (hs1.unpinPages.ite hs1).ite ?_
    split
    · exact (hs1.unpinPages.ite hs1).kvPut
    · exact hs1.unpinPages.ite hs1

theorem Tidy.truncateDo {t name layer count} (hs : Tidy σ s) : Tidy σ (s.truncateDo t name layer count) := by
  unfold State.truncateDo
  split
  · exact hs.truncateLayer
  · split
    · exact hs
    · exact hs.foldl .truncateLayer

theorem Tidy.kvTruncateDo {o} (hs : Tidy σ s) : Tidy σ (s.kvTruncateDo o) :=
  hs.kvOn (hs.kvNo.ite (hs.kvNo.ite (hs.truncateDo.kvYes.ite hs.setSession.openOp)))
theorem Tidy.kvDeleteDo {o} (hs : Tidy σ s) : Tidy σ (s.kvDeleteDo o) := hs.kvOn hs.setSession.openOp
theorem Tidy.kvMoveDo {o destOk} (hs : Tidy σ s) : Tidy σ (s.kvMoveDo o destOk) :=
  hs.kvOn (hs.kvNo.ite (hs.kvNo.ite (hs.kvNo.ite hs.setSession.openOp)))

theorem Tidy.kvTokenDo {o} (hs : Tidy σ s) : Tidy σ (s.kvTokenDo o) := by
  unfold State.kvTokenDo
  extract_lets +onlyGivenNames _
  split
  · exact hs.respond
  · refine hs.respond.ite (hs.respond.ite ?_)
    refine hs.respond.ite (hs.respond.ite ?_)
    refine hs.respond.ite ?_
    split
    · exact hs.respond
    · next s1 e =>
      have hs1 : Tidy σ s1 := hs.takePages _ e
      split
      · exact hs.respond
      · extract_lets +onlyGivenNames _ w
        have hw : Tidy σ w.2 := by
          unfold w
          refine hs1.foldl_snd fun hu => ?_
          split
          · exact hu
          · exact hu.writePage
        refine hw.touchSession.respond.ite ?_
        split
        · exact hw
        · exact hw.setSession.endAccess

theorem Tidy.readSlot {x layer page} (hs : Tidy σ s) : Tidy σ (s.readSlot x layer page).2 := by
  unfold State.readSlot
  split
  · exact hs
  · dsimp only
    split
    · exact hs.kvGet
    · refine .ite_snd ?_ ?_
      · exact hs.kvGet
      · exact hs.kvGet.bump

theorem Tidy.pullPages {x layer l acc} (hs : Tidy σ s) : Tidy σ (s.pullPages x layer l acc).2.2.2 := by
  induction l generalizing s acc with
  | nil => exact hs
  | cons p rest ih =>
    unfold State.pullPages
    dsimp only
    split
    · exact hs.readSlot
    · exact ih hs.readSlot

theorem Tidy.kvPullDo {o} (hs : Tidy σ s) : Tidy σ (s.kvPullDo o) := by
  unfold State.kvPullDo
  dsimp only
  split
  · exact hs.respond
  · exact hs.respond.ite (hs.respond.ite (hs.respond.ite hs.pullPages.bumpN.touchSession.writeLocal.respond))

theorem Tidy.kvAttendDo {o} (hs : Tidy σ s) : Tidy σ (s.kvAttendDo o) := by
  unfold State.kvAttendDo
  dsimp only
  split
  · exact hs.respond
  · refine hs.respond.ite (hs.respond.ite ?_)
    refine hs.respond.ite (hs.respond.ite ?_)
    exact hs.respond.ite (hs.respond.ite (hs.respond.ite (((hs.put (by exact rfl)).openOp.foldl .askMove).ite (hs.put
      (by exact rfl)).openOp)))

theorem Tidy.attendRange {x a l acc} (hs : Tidy σ s) : Tidy σ (s.attendRange x a l acc).2.2 := by
  induction l generalizing s acc with
  | nil => exact hs
  | cons p rest ih =>
    unfold State.attendRange
    dsimp only
    split
    · exact hs.readSlot
    · exact ih hs.readSlot

theorem Tidy.setAttend {a} (hs : Tidy σ s) : Tidy σ (s.setAttend a) := hs.put (by exact rfl)
theorem Tidy.dropAttend {a} (hs : Tidy σ s) : Tidy σ (s.dropAttend a) := (hs.put (by exact rfl)).cancelCause.touchSession
theorem Tidy.failAttend {a st} (hs : Tidy σ s) : Tidy σ (s.failAttend a st) := hs.ite hs.setAttend.respond

theorem Tidy.attendDrain {id} (hs : Tidy σ s) : Tidy σ (s.attendDrain id) := by
  unfold State.attendDrain
  split
  · exact hs
  · exact hs.dropAttend.ite hs

theorem Tidy.kvServe {kind o destOk} (hs : Tidy σ s) : Tidy σ (s.kvServe kind o destOk) := by
  unfold State.kvServe
  refine hs.kvOpenDo.ite (hs.kvLookupDo.ite ?_)
  refine (hs.kvOn hs.kvYes).ite ((hs.kvOn (hs.kvNo.ite hs.setSession.kvYes)).ite ?_)
  refine hs.kvRetainDo.ite ((hs.kvOn hs.setSession.kvYes).ite ?_)
  refine hs.kvPinDo.ite (hs.kvUnpinDo.ite ?_)
  exact hs.kvTruncateDo.ite (hs.kvDeleteDo.ite (hs.kvMoveDo.ite (hs.kvTokenDo.ite (hs.kvPullDo.ite hs.kvAttendDo))))

theorem Tidy.kvRun {kind o destOk} (hs : Tidy σ s) : Tidy σ (s.kvRun kind o destOk) := by
  unfold State.kvRun
  split
  · exact hs.setSession.openOp.ite hs.kvServe
  · exact hs.kvServe

theorem Tidy.kvRelease {t name} (hs : Tidy σ s) : Tidy σ (s.kvRelease t name) := by
  unfold State.kvRelease
  split
  · exact hs
  · exact hs.ite (hs.setSession.foldl .kvRun)

theorem Tidy.kvPerform {r} (hs : Tidy σ s) : Tidy σ (s.kvPerform r) := by
  unfold State.kvPerform
  split
  · exact hs.kvRun
  · exact hs

theorem Tidy.kvEnter {kind o destOk} (hs : Tidy σ s) : Tidy σ (s.kvEnter kind o destOk) := hs.enqueueAt .kvPerform
theorem Tidy.kvCtl {o kind useOperand2 destOk} (hs : Tidy σ s) : Tidy σ (s.kvCtl o kind useOperand2 destOk) :=
  hs.unitOp fun hu => hu.kvNo.ite (hu.kvNo.ite (hu.kvNo.ite (hu.kvNo.ite (hu.kvNo.ite (hu.kvNo.ite hu.kvEnter)))))
theorem Tidy.execKvOpen {o} (hs : Tidy σ s) : TidyNext σ (execKvOpen o s) := hs.kvCtl.next
theorem Tidy.execKvLookup {o} (hs : Tidy σ s) : TidyNext σ (execKvLookup o s) := hs.kvCtl.next
theorem Tidy.execKvTouch {o} (hs : Tidy σ s) : TidyNext σ (execKvTouch o s) := hs.kvCtl.next
theorem Tidy.execKvSetTtl {o} (hs : Tidy σ s) : TidyNext σ (execKvSetTtl o s) := hs.kvCtl.next
theorem Tidy.execKvRetain {o} (hs : Tidy σ s) : TidyNext σ (execKvRetain o s) := hs.kvCtl.next
theorem Tidy.execKvRelease {o} (hs : Tidy σ s) : TidyNext σ (execKvRelease o s) := hs.kvCtl.next
theorem Tidy.execKvPinNear {o} (hs : Tidy σ s) : TidyNext σ (execKvPinNear o s) := hs.kvCtl.next
theorem Tidy.execKvUnpinNear {o} (hs : Tidy σ s) : TidyNext σ (execKvUnpinNear o s) := hs.kvCtl.next
theorem Tidy.execKvTruncate {o} (hs : Tidy σ s) : TidyNext σ (execKvTruncate o s) := hs.kvCtl.next
theorem Tidy.execKvDelete {o} (hs : Tidy σ s) : TidyNext σ (execKvDelete o s) := hs.kvCtl.next
theorem Tidy.execKvMove {o destOk} (hs : Tidy σ s) : TidyNext σ (execKvMove o destOk s) := hs.kvCtl.next
theorem Tidy.kvRegion {o} (hs : Tidy σ s) : Tidy σ (s.kvRegion o) :=
  hs.kvEnter.ite (hs.kvEnter.ite (hs.kvEnter.ite hs.respond))
theorem Tidy.kvAccess {o posted space kind} (hs : Tidy σ s) : Tidy σ (s.kvAccess o posted space kind) :=
  hs.whenRunning fun hu => hu.front fun hu => hu.respond.ite (hu.respond.ite hu.kvEnter)
theorem Tidy.execKvTokenWrite {o} (hs : Tidy σ s) : TidyNext σ (execKvTokenWrite o s) := hs.kvAccess.next
theorem Tidy.execKvPagePull {o} (hs : Tidy σ s) : TidyNext σ (execKvPagePull o s) := hs.kvAccess.next
theorem Tidy.execKvAttend {o} (hs : Tidy σ s) : TidyNext σ (execKvAttend o s) := hs.kvAccess.next

theorem Tidy.execTruncateEffect {tenant session} (hs : Tidy σ s) : TidyNext σ (execTruncateEffect tenant session s) := by
  unfold Machine.execTruncateEffect
  refine (hs.begin.whenRunning fun hu => ?_).next
  split
  · exact hu
  · split
    · exact hu
    · exact hu.ite hu.setSession.truncateDo.respond.kvRelease

theorem Tidy.execKvDeleteComplete {tenant session} (hs : Tidy σ s) :
    TidyNext σ (execKvDeleteComplete tenant session s) := by
  unfold Machine.execKvDeleteComplete
  refine (hs.begin.whenRunning fun hu => ?_).next
  split
  · exact hu
  · refine hu.ite ?_
    dsimp only
    split
    · exact hu.endSession.respond
    · exact hu.endSession

theorem Tidy.moveFails {x m st} (hs : Tidy σ s) : Tidy σ (s.moveFails x m st) := hs.setSession.respond.kvRelease

theorem Tidy.execKvMoveCopyDone {tenant session st destBase} (hs : Tidy σ s) :
    TidyNext σ (execKvMoveCopyDone tenant session st destBase s) := by
  unfold Machine.execKvMoveCopyDone
  refine (hs.begin.whenRunning fun hu => ?_).next
  split
  · exact hu
  · split
    · exact hu
    · exact hu.ite (hu.moveFails.ite hu.setSession)

theorem Tidy.execKvMoveSwitchDone {tenant session st} (hs : Tidy σ s) :
    TidyNext σ (execKvMoveSwitchDone tenant session st s) := by
  unfold Machine.execKvMoveSwitchDone
  refine (hs.begin.whenRunning fun hu => ?_).next
  split
  · exact hu
  · split
    · exact hu
    · exact hu.ite (hu.moveFails.ite ((hu.setSession.ite hu.endSession).bump.respond.foldl .respond))

theorem Tidy.execAttendStart {id} (hs : Tidy σ s) : TidyNext σ (execAttendStart id s) := by
  unfold Machine.execAttendStart
  refine (hs.begin.whenRunning fun hu => ?_).next
  split
  · exact hu
  · exact hu.setAttend.ite hu

theorem Tidy.execAttendRangeDone {id range clusterReset} (hs : Tidy σ s) :
    TidyNext σ (execAttendRangeDone id range clusterReset s) := by
  unfold Machine.execAttendRangeDone
  refine (hs.begin.whenRunning fun hu => ?_).next
  split
  · exact hu
  · refine hu.ite ?_
    split
    · exact hu.dropAttend
    · refine hu.setAttend.attendDrain.ite (hu.setAttend.failAttend.attendDrain.ite ?_)
      extract_lets +onlyGivenNames _ _ _ t1
      have ht1 : Tidy σ t1 := hu.attendRange.bumpN.meter
      split
      · exact ht1.setAttend.failAttend.attendDrain
      · exact (ht1.setAttend.ite ht1.setAttend.emit).ite ht1.setAttend

theorem Tidy.execAttendOutputVisible {id r} (hs : Tidy σ s) : TidyNext σ (execAttendOutputVisible id r s) := by
  unfold Machine.execAttendOutputVisible
  refine (hs.begin.whenRunning fun hu => ?_).next
  split
  · exact hu
  · split
    · extract_lets +onlyGivenNames w
      have hw : Tidy σ w.2 := hu.ite_snd hu.writeLocal
      exact hw.respond.dropAttend.ite hw.bump.dropAttend.endAccess.notifyAddr
    · exact hu

theorem Tidy.execSessionExpiryCheck (hs : Tidy σ s) : TidyNext σ (execSessionExpiryCheck s) :=
  (hs.begin.whenRunning fun hu => hu.foldl fun hu => hu.endSession.bump).next

theorem Tidy.execHandleQuarantineExpiry {base} (hs : Tidy σ s) : TidyNext σ (execHandleQuarantineExpiry base s) := by
  unfold Machine.execHandleQuarantineExpiry
  refine (hs.begin.whenRunning fun hu => ?_).next
  split
  · exact hu
  · exact hu.elapse.put (by exact rfl)

theorem Tidy.storeOff {t} (hs : Tidy σ s) : Tidy σ (s.storeOff t) := by
  unfold State.storeOff
  extract_lets +onlyGivenNames _ _ s2
  have hs2 : Tidy σ s2 := by
    unfold s2
    refine (hs.foldl fun hu => (hu.ite hu.respond).dropAttend).foldl fun hu => ?_
    extract_lets +onlyGivenNames _ u2 _ u4
    have hu2 : Tidy σ u2 := hu.endSession.foldl .respond
    have hu4 : Tidy σ u4 := by
      unfold u4
      split
      · exact (hu2.foldl .respond).respond
      · exact hu2.foldl .respond
    split
    · exact hu4.respond
    · exact hu4
  exact hs2.setStore

theorem Tidy.storeEnable {a t partition} (hs : Tidy σ s) : Tidy σ (s.storeEnable a t partition) :=
  (hs.mgmtWrite fun hu => hu).ite ((hs.setStore.ite hs).mgmtWrite .setStore)
theorem Tidy.storeDisable {a t} (hs : Tidy σ s) : Tidy σ (s.storeDisable a t) :=
  hs.mgmtWrite fun hu => (hu.storeOff.ite hu).setStore
theorem Tidy.execKvStoreEnable {a t partition} (hs : Tidy σ s) : TidyNext σ (execKvStoreEnable a t partition s) :=
  (hs.begin.whenRunning .storeEnable).next
theorem Tidy.execKvStoreDisable {a t} (hs : Tidy σ s) : TidyNext σ (execKvStoreDisable a t s) :=
  (hs.begin.whenRunning .storeDisable).next

/-! ### Machine/Meadow.lean -/

theorem Tidy.setVindex {n x} (hs : Tidy σ s) : Tidy σ (s.setVindex n x) := { hs with indexes := hs.indexes.write }
theorem Tidy.vsNo {o r} (hs : Tidy σ s) : Tidy σ (vsNo s o r) := hs.respond
theorem Tidy.vsCtl {go : State → Nat → VIndex → State} {o item} (hs : Tidy σ s)
    (hgo : ∀ {t a0 a1}, Tidy σ t → Tidy σ (go t a0 a1)) :
    Tidy σ (s.vsCtl o item go) :=
  hs.homeOp fun hu => hu.vsNo.ite (hu.vsNo.ite (hgo hu))
theorem Tidy.setVsStatus {n st} (hs : Tidy σ s) : Tidy σ (s.setVsStatus n st) := hs.setVindex

theorem Tidy.execVsEnable {o} (hs : Tidy σ s) : TidyNext σ (execVsEnable o s) := by
  unfold Machine.execVsEnable
  refine (hs.vsCtl fun hu => ?_).next
  refine hu.vsNo.ite (hu.atLocal fun hu => ?_)
  split
  · exact hu.setVsStatus.vsNo
  · extract_lets +onlyGivenNames _ _ t1
    have ht1 : Tidy σ t1 := by
      unfold t1
      refine hu.foldl fun hu => ?_
      split
      · exact hu
      · exact hu.setPage.askMove.ite hu.setPage
    exact ht1.setVindex.vsNo

theorem Tidy.setVquery {q} (hs : Tidy σ s) : Tidy σ (s.setVquery q) := hs.put (by exact rfl)
theorem Tidy.dropVquery {id} (hs : Tidy σ s) : Tidy σ (s.dropVquery id) := hs.put (by exact rfl)

theorem Tidy.execVsQuery {o} (hs : Tidy σ s) : TidyNext σ (execVsQuery o s) := by
  unfold Machine.execVsQuery
  refine (hs.homeOp fun hu => ?_).next
  refine hu.vsNo.ite (hu.vsNo.ite ?_)
  refine hu.bump.respond.ite (hu.atLocal fun hu => ?_)
  dsimp only
  split
  · exact hu.bump.respond
  · exact (hu.put (by exact rfl)).setVindex.openOp

theorem Tidy.execShardQueryStart {die} (hs : Tidy σ s) : TidyNext σ (execShardQueryStart die s) := by
  unfold Machine.execShardQueryStart
  refine (hs.begin.whenRunning fun hu => ?_).next
  split
  · exact hu
  · exact hu.ite hu.free.setVquery

theorem Tidy.endVquery {q a} (hs : Tidy σ s) : Tidy σ (s.endVquery q a) := hs.dropVquery.respond
theorem Tidy.failVquery {q st} (hs : Tidy σ s) : Tidy σ (s.failVquery q st) := hs.endVquery
theorem Tidy.vsAccount {c y w} (hs : Tidy σ s) : Tidy σ (s.vsAccount c y w) :=
  (hs.foldl .touchRange).bumpN.bumpN.bumpN.bumpN.meter.bump.foldl fun hu => hu.bumpN.bumpN

theorem Tidy.execShardQueryDone {id shard} (hs : Tidy σ s) : TidyNext σ (execShardQueryDone id shard s) := by
  unfold Machine.execShardQueryDone
  refine (hs.begin.whenRunning fun hu => ?_).next
  split
  · exact hu
  · split
    · exact hu
    · refine hu.ite ?_
      dsimp only
      split
      · exact hu.failVquery
      · exact (hu.vsAccount.setVquery.ite hu.vsAccount.setVquery.emit).ite hu.vsAccount.setVquery

theorem Tidy.execVsResultVisible {id r} (hs : Tidy σ s) : TidyNext σ (execVsResultVisible id r s) := by
  unfold Machine.execVsResultVisible
  refine (hs.begin.whenRunning fun hu => ?_).next
  split
  · exact hu
  · split
    · exact hu
    · extract_lets +onlyGivenNames w
      have hw : Tidy σ w.2 := hu.ite_snd hu.writeLocal
      exact hw.failVquery.ite hw.bump.bumpN.endVquery.notifyAddr

theorem Tidy.execQueryTimeout {id} (hs : Tidy σ s) : TidyNext σ (execQueryTimeout id s) := by
  unfold Machine.execQueryTimeout
  refine (hs.begin.whenRunning fun hu => ?_).next
  split
  · exact hu
  · exact hu.ite hu.elapse.failVquery

theorem Tidy.vsWrite {x part off bs} (hs : Tidy σ s) : Tidy σ (s.vsWrite x part off bs).2 := hs.serviceWrite

theorem Tidy.setTomb {x h j v} (hs : Tidy σ s) : Tidy σ (s.setTomb x h j v).2 := by
  unfold State.setTomb
  dsimp only
  split
  · exact hs
  · exact hs.vsWrite

theorem Tidy.vsWrites {x part l} (hs : Tidy σ s) : Tidy σ (s.vsWrites x part l).2 := by
  induction l generalizing s with
  | nil => exact hs
  | cons e rest ih =>
    unfold State.vsWrites
    exact hs.vsWrite.ite_snd (ih hs.vsWrite)

theorem Tidy.vsOn {o x go} (hs : Tidy σ s) (hgo : Tidy σ go) : Tidy σ (s.vsOn o x go) := hs.vsNo.ite hgo

theorem Tidy.vsInsertDo {o n x} (hs : Tidy σ s) : Tidy σ (s.vsInsertDo o n x) := by
  unfold State.vsInsertDo
  extract_lets +onlyGivenNames _ _
  split
  · exact hs.vsNo
  · refine hs.vsNo.ite (hs.vsNo.ite ?_)
    refine hs.vsNo.ite (hs.vsNo.ite ?_)
    refine hs.vsNo.ite (hs.vsNo.ite ?_)
    refine (hs.setTomb.ite_snd hs).vsNo.ite ?_
    extract_lets +onlyGivenNames _ s1
    have hs1 : Tidy σ s1 := (hs.setTomb.ite_snd hs).setVindex
    exact (hs1.vsWrite.vsNo.ite hs1.vsWrite.setVindex.vsNo).ite (hs1.vsWrites.vsNo.ite hs1.vsWrites.setTomb.vsNo)

theorem Tidy.execVsInsert {o} (hs : Tidy σ s) : TidyNext σ (execVsInsert o s) :=
  (hs.vsCtl fun hu => hu.vsOn (hu.vsNo.ite (hu.atLocal .vsInsertDo))).next
theorem Tidy.vsKill {x h j item} (hs : Tidy σ s) : Tidy σ (s.vsKill x h j item).2 :=
  (hs.ite_snd hs.setTomb).foldl_snd fun hu => hu.ite_snd hu.vsWrite

theorem Tidy.execVsDelete {o} (hs : Tidy σ s) : TidyNext σ (execVsDelete o s) := by
  unfold Machine.execVsDelete
  refine (hs.vsCtl fun hu => ?_).next
  refine hu.vsOn (hu.vsNo.ite ?_)
  dsimp only
  split
  · exact hu.vsNo
  · exact hu.vsNo.ite (hu.vsKill.vsNo.ite (hu.vsKill.vsNo.ite hu.vsKill.setVindex.openOp))

theorem Tidy.execVsDeleteComplete {index item} (hs : Tidy σ s) : TidyNext σ (execVsDeleteComplete index item s) := by
  unfold Machine.execVsDeleteComplete
  refine (hs.begin.whenRunning fun hu => ?_).next
  dsimp only
  split
  · exact hu
  · exact hu.ite hu.setVindex.respond

theorem Tidy.execSetNeighbours {o} (hs : Tidy σ s) : TidyNext σ (execSetNeighbours o s) := by
  unfold Machine.execSetNeighbours
  refine (hs.vsCtl fun hu => ?_).next
  refine hu.vsOn (hu.vsNo.ite ?_)
  refine hu.atLocal fun hu => ?_
  dsimp only
  split
  · exact hu.vsNo
  · exact hu.vsNo.ite (hu.vsNo.ite hu.vsWrite.vsNo)

theorem Tidy.mergeCopy {x h} (hs : Tidy σ s) : Tidy σ (s.mergeCopy x h).2 := by
  unfold State.mergeCopy
  refine hs.foldl_snd fun hu => hu.ite_snd ?_
  split
  · exact hu
  · exact hu.vsWrites

theorem Tidy.execMerge {o} (hs : Tidy σ s) : TidyNext σ (execMerge o s) := by
  unfold Machine.execMerge
  refine (hs.vsCtl fun hu => ?_).next
  refine hu.vsOn (hu.vsNo.ite ?_)
  refine hu.setVsStatus.vsNo.ite (hu.setVsStatus.vsNo.ite ?_)
  extract_lets +onlyGivenNames _ w
  have hw : Tidy σ w.2 := hu.foldl_snd fun hu => hu.ite_snd hu.mergeCopy
  exact hw.setVsStatus.vsNo.ite (hw.setVindex.vsNo.ite hw.setVindex.openOp)

theorem Tidy.execMergeSwitch {index shard} (hs : Tidy σ s) : TidyNext σ (execMergeSwitch index shard s) := by
  unfold Machine.execMergeSwitch
  refine (hs.begin.whenRunning fun hu => ?_).next
  extract_lets +onlyGivenNames _
  split
  · exact hu
  · refine hu.ite ?_
    extract_lets +onlyGivenNames _ w
    have hw : Tidy σ w.2 := hu.foldl_snd fun hu => hu.ite_snd hu.setTomb
    exact (hw.setVindex.put (by exact rfl)).respond.ite (hw.setVindex.put (by exact rfl))

theorem Tidy.vsUnpin {x} (hs : Tidy σ s) : Tidy σ (s.vsUnpin x) := by
  unfold State.vsUnpin
  refine hs.foldl fun hu => ?_
  split
  · exact hu.setPage
  · exact hu

theorem Tidy.vsStopMerge {n} (hs : Tidy σ s) : Tidy σ (s.vsStopMerge n) := by
  unfold State.vsStopMerge
  dsimp only
  split
  · exact hs
  · exact (hs.setVindex.put (by exact rfl)).respond

theorem Tidy.vsOff {n req} (hs : Tidy σ s) : Tidy σ (s.vsOff n req) := hs.vsStopMerge.setVindex.foldl .endVquery

theorem Tidy.execVsDisable {o} (hs : Tidy σ s) : TidyNext σ (execVsDisable o s) := by
  unfold Machine.execVsDisable
  refine (hs.vsCtl fun hu => ?_).next
  refine hu.vsNo.ite ?_
  split
  · exact hu.vsNo
  · exact hu.setVsStatus.vsNo
  · exact hu.vsNo.ite hu.openOp.vsOff

theorem Tidy.vsEnd {n} (hs : Tidy σ s) : Tidy σ (s.vsEnd n) := by
  unfold State.vsEnd
  extract_lets +onlyGivenNames _ _ s2
  have hs2 : Tidy σ s2 := hs.vsUnpin.setVindex.foldl .respond
  split
  · exact hs2.respond
  · exact hs2

theorem Tidy.vsDone {t : State} {index} (hs : Tidy σ t) : Tidy σ (t.vsDone index) := hs.vsEnd.ite hs
theorem Tidy.vsUnbind {part} (hs : Tidy σ s) : Tidy σ (s.vsUnbind part) :=
  hs.foldl fun hu => (hu.foldl .failVquery).vsStopMerge.vsEnd

/-! ### Machine/PoolCtl.lean -/

theorem Tidy.placePage {n pg} (hs : Tidy σ s) : Tidy σ (s.placePage n pg) := by
  unfold State.placePage
  dsimp only
  split
  · exact hs
  · exact hs.setPart.setPage

theorem Tidy.bindPlace {n} (hs : Tidy σ s) : Tidy σ (s.bindPlace n) := (hs.foldl .setChan).setPart.foldl .placePage
theorem Tidy.partStatus {a n st} (hs : Tidy σ s) : Tidy σ (s.partStatus a n st) := hs.setPart.ite hs
theorem Tidy.partBind {a n} (hs : Tidy σ s) : Tidy σ (s.partBind a n) := hs.partStatus.mgmtWrite .bindPlace
theorem Tidy.execPartitionBind {a n} (hs : Tidy σ s) : TidyNext σ (execPartitionBind a n s) :=
  (hs.begin.whenRunning .partBind).next
theorem Tidy.execMapWritten {n} (hs : Tidy σ s) : TidyNext σ (execMapWritten n s) :=
  (hs.begin.whenRunning fun hu => hu.ite ((hu.put (by exact rfl)).setPart.foldl .enqueuePool)).next
theorem Tidy.refuseUndispatched {n} (hs : Tidy σ s) : Tidy σ (s.refuseUndispatched n) :=
  hs.foldl (fun hu => hu.ite (hu.setContract.foldl .respond)) |>.put (by exact rfl) |>.foldl .respond
    |>.foldl fun hu => ((hu.put (by exact rfl)).foldl .respond).cancelMove
theorem Tidy.unbindCkpts {n} (hs : Tidy σ s) : Tidy σ (s.unbindCkpts n) :=
  hs.foldl fun hu => (hu.setCkpt.foldl .respond).ckptEnd.ite hu
theorem Tidy.unbindServices {n} (hs : Tidy σ s) : Tidy σ (s.unbindServices n) :=
  ((hs.foldl .storeOff).foldl .streamOff).vsUnbind
theorem Tidy.unbindDo {n} (hs : Tidy σ s) : Tidy σ (s.unbindDo n) :=
  hs.unbindServices.unbindCkpts.refuseUndispatched.dropMoves.setPart
theorem Tidy.partUnbind {a n} (hs : Tidy σ s) : Tidy σ (s.partUnbind a n) :=
  hs.partStatus.mgmtWrite fun hu => hu.unbindDo.ite hu
theorem Tidy.execPartitionUnbind {a n} (hs : Tidy σ s) : TidyNext σ (execPartitionUnbind a n s) :=
  (hs.begin.whenRunning .partUnbind).next
theorem Tidy.execPartitionClearComplete {n} (hs : Tidy σ s) : TidyNext σ (execPartitionClearComplete n s) :=
  (hs.begin.whenRunning fun hu => hu.ite ((hu.foldl .setChan).poolZero.put (by exact rfl)).setPart.clearRecord).next

theorem Tidy.repairPage {n pg r} (hs : Tidy σ s) : TidySome σ (s.repairPage n pg r) := by
  unfold State.repairPage
  dsimp only
  generalize State.repairFrame s _ r.near pg = f
  cases f with
  | none => exact .none
  | some k => exact ((hs.setChan.setPart.ite hs.setPart).setPage.foldl .setPoison).some

theorem Tidy.repairAll {n l} (hs : Tidy σ s) : TidySome σ (s.repairAll n l) := by
  induction l generalizing s with
  | nil => exact hs.some
  | cons e t ih =>
    unfold State.repairAll
    cases h : s.repairPage n e.1 e.2 with
    | none => exact .none
    | some u => exact ih (hs.repairPage _ h)

theorem Tidy.partRepair {a n} (hs : Tidy σ s) : Tidy σ (s.partRepair a n) :=
  hs.partStatus.mgmtWrite fun hu => hu.getD hu.repairAll
theorem Tidy.execPartitionRepair {a n} (hs : Tidy σ s) : TidyNext σ (execPartitionRepair a n s) :=
  (hs.begin.whenRunning .partRepair).next
theorem Tidy.chanOwnerWrite {a ch owner} (hs : Tidy σ s) : Tidy σ (s.chanOwnerWrite a ch owner) := hs.mgmtWrite .setChan
theorem Tidy.execChannelOwnerWrite {a ch owner} (hs : Tidy σ s) : TidyNext σ (execChannelOwnerWrite a ch owner s) :=
  (hs.begin.whenRunning .chanOwnerWrite).next

theorem Tidy.failPage {n pg r} (hs : Tidy σ s) : Tidy σ (s.failPage n pg r) := by
  unfold State.failPage
  dsimp only
  split
  · exact hs.setPage
  · exact ((hs.put (by exact rfl)).setPart.markShort.foldl fun hu => hu.bump.respond).endHints

theorem Tidy.channelFailed {ch} (hs : Tidy σ s) : Tidy σ (s.channelFailed ch) := by
  unfold State.channelFailed
  refine hs.ite ?_
  extract_lets +onlyGivenNames _ _ s2 _ s3
  have hs2 : Tidy σ s2 := by
    unfold s2
    refine (hs.setChan.foldl .cancelMove).foldl fun hu => ?_
    split
    · exact hu.failPage.ite hu
    · exact hu
  have hs3 : Tidy σ s3 := by
    refine { hs2 with parts := ?_ }
    dsimp only [s3]
    exact hs2.parts.revalue
  exact (hs3.foldl fun hu => hu.foldl .failReq).fault

theorem Tidy.chanDeclare {a ch} (hs : Tidy σ s) : Tidy σ (s.chanDeclare a ch) := hs.mgmtWrite .channelFailed
theorem Tidy.chanRestore {a ch} (hs : Tidy σ s) : Tidy σ (s.chanRestore a ch) := hs.mgmtWrite .setChan
theorem Tidy.execChannelDeclareFailed {a ch} (hs : Tidy σ s) : TidyNext σ (execChannelDeclareFailed a ch s) :=
  (hs.begin.whenRunning .chanDeclare).next
theorem Tidy.execChannelRestore {a ch} (hs : Tidy σ s) : TidyNext σ (execChannelRestore a ch s) :=
  (hs.begin.whenRunning .chanRestore).next
theorem Tidy.execChannelRetrainDone {ch ok} (hs : Tidy σ s) : TidyNext σ (execChannelRetrainDone ch ok s) :=
  (hs.begin.whenRunning fun hu => hu.ite (hu.setChan.answer.ite hu.setChan.answer)).next
theorem Tidy.execChannelClearComplete {ch} (hs : Tidy σ s) : TidyNext σ (execChannelClearComplete ch s) := by
  unfold Machine.execChannelClearComplete
  refine (hs.begin.whenRunning fun hu => hu.ite ?_).next
  extract_lets +onlyGivenNames t1 _ t2
  have ht1 : Tidy σ t1 := hu.setChan
  have ht2 : Tidy σ t2 := by
    refine { ht1 with parts := ht1.parts.map (fun e => ?_) (fun e he => ?_) }
    · dsimp only
      split <;> rfl
    · dsimp only
      split
      · exact he
      · next h =>
        intro heq
        have : e.2.state = .free := congrArg Partition.state heq
        exact h (.inr (by rw [this]; decide))
  exact (ht2.put (by exact rfl)).clearRecord

theorem Tidy.execChannelStall {ch} (hs : Tidy σ s) : TidyNext σ (execChannelStall ch s) := by
  unfold Machine.execChannelStall
  refine (hs.begin.whenRunning fun hu => ?_).next
  split
  · exact hu
  · exact hu.elapse.channelFailed

theorem Tidy.execChannelFatalError {ch} (hs : Tidy σ s) : TidyNext σ (execChannelFatalError ch s) :=
  (hs.begin.whenRunning .channelFailed).next

theorem Tidy.execUncorrectableError {offset} (hs : Tidy σ s) : TidyNext σ (execUncorrectableError offset s) := by
  unfold Machine.execUncorrectableError
  refine (hs.begin.whenRunning fun hu => ?_).next
  split
  · exact hu
  · exact hu.ite hu.setPoison.bump.bump.setInChannel.fault

theorem Tidy.execTierDeadlineExpiry {ch id} (hs : Tidy σ s) : TidyNext σ (execTierDeadlineExpiry ch id s) := by
  unfold Machine.execTierDeadlineExpiry
  refine (hs.begin.whenRunning fun hu => ?_).next
  split
  · exact hu
  · exact hu.elapse.bump.failReq

theorem Tidy.execChannelRequestComplete {channel id} (hs : Tidy σ s) :
    TidyNext σ (execChannelRequestComplete channel id s) :=
  (hs.begin.whenRunning .completeReq).next

theorem Tidy.execContractDispatch {channel} (hs : Tidy σ s) : TidyNext σ (execContractDispatch channel s) := by
  refine (hs.begin.whenRunning fun hu => ?_).next
  split
  · exact hu.dispatchOne .kvPerform
  · exact hu.dispatchOne .performPool

theorem Tidy.execPageMoveStart {n page} (hs : Tidy σ s) : TidyNext σ (execPageMoveStart n page s) :=
  (hs.begin.whenRunning .startMove).next

theorem Tidy.execPageMoveSwitch {n page} (hs : Tidy σ s) : TidyNext σ (execPageMoveSwitch n page s) := by
  unfold Machine.execPageMoveSwitch
  refine (hs.begin.whenRunning fun hu => ?_).next
  split
  · exact hu
  · exact hu.ite hu.switchMove

theorem Tidy.execMigrationHoldExpiry {n page} (hs : Tidy σ s) : TidyNext σ (execMigrationHoldExpiry n page s) := by
  unfold Machine.execMigrationHoldExpiry
  refine (hs.begin.whenRunning fun hu => ?_).next
  split
  · exact hu
  · split
    · exact hu
    · exact hu.elapse.cancelMove

/-! ### Machine/HcuJob.lean -/

theorem Tidy.setJob {n j} (hs : Tidy σ s) : Tidy σ (s.setJob n j) := { hs with jobs := hs.jobs.write }

theorem Tidy.setHcuQueue {k l} (hs : Tidy σ s) :
    Tidy σ { s with hcu := { s.hcu with fbQueues := Store.write [] s.hcu.fbQueues k l } } :=
  { hs with fbQueues := hs.fbQueues.write }

theorem Tidy.startJob {n tenant tc slot record} (hs : Tidy σ s) : Tidy σ (s.startJob n tenant tc slot record) := by
  unfold State.startJob
  refine (hs.setJob.ite (hs.setJob.put (by exact rfl))).ite ?_
  split
  · exact hs.setJob
  · exact hs.setJob.setHcuQueue

theorem Tidy.jobPutBytes {j tc addr bs} (hs : Tidy σ s) : Tidy σ (s.jobPutBytes j tc addr bs).2 :=
  hs.writeLocal.ite_snd hs.emit
theorem Tidy.flushHeld {n} (hs : Tidy σ s) : Tidy σ (s.flushHeld n) := (hs.put (by exact rfl)).foldl .respond
theorem Tidy.dropInputs {n} (hs : Tidy σ s) : Tidy σ (s.dropInputs n) := (hs.put (by exact rfl)).foldl .respond

theorem Tidy.jobRelinquish {n} (hs : Tidy σ s) : Tidy σ (s.jobRelinquish n) := by
  unfold State.jobRelinquish
  extract_lets +onlyGivenNames _ _ _ _ _ s2
  have hs2 : Tidy σ s2 := by
    unfold s2
    split
    · exact ((hs.put (by exact rfl)).ite hs).setHcuQueue
    · exact (hs.put (by exact rfl)).ite hs
  exact hs2.setJob

theorem Tidy.jobEnd {n final st reason} (hs : Tidy σ s) : Tidy σ (s.jobEnd n final st reason) := by
  unfold State.jobEnd
  extract_lets +onlyGivenNames s1 _ _ _ s3 _ s5
  have hs1 : Tidy σ s1 := hs.dropInputs.jobRelinquish
  have hs3 : Tidy σ s3 := hs1.setJob.ite hs1.setJob.jobPutBytes
  have hs5 : Tidy σ s5 := hs3.notifyAddr.eventOpen
  exact (hs5.emit.ite hs5).flushHeld

theorem Tidy.jobFault {n st reason} (hs : Tidy σ s) : Tidy σ (s.jobFault n st reason) := hs.jobEnd.ite hs
theorem Tidy.jobCheck {n} (hs : Tidy σ s) : Tidy σ (s.jobCheck n) := by
  unfold State.jobCheck; exact hs.jobEnd.ite hs
theorem Tidy.jobCtl {k : Nat → State → State} {t : State} {o useLocal} (hs : Tidy σ t)
    (hk : ∀ {a0 t}, Tidy σ t → Tidy σ (k a0 t)) :
    Tidy σ (jobCtl o useLocal k t) :=
  hs.respond.ite (hs.respond.ite (hk hs))

theorem Tidy.execJobOpen {o} (hs : Tidy σ s) : TidyNext σ (execJobOpen o s) := by
  unfold Machine.execJobOpen
  refine (hs.homeOp fun hu => ?_).next
  refine hu.jobCtl fun hu => hu.respond.ite (hu.respond.ite ?_)
  split
  · exact hu.respond
  · split
    · exact hu.respond
    · split
      · exact hu.respond
      · exact hu.used.startJob.respond

theorem Tidy.jobAbort {t : State} {n st} (hs : Tidy σ t) : Tidy σ (t.jobAbort n st).2 := hs.jobFault.ite_snd hs
theorem Tidy.execJobAbort {o} (hs : Tidy σ s) : TidyNext σ (execJobAbort o s) :=
  (hs.homeOp fun hu => hu.jobCtl fun hu => hu.respond.ite hu.jobAbort.respond).next
theorem Tidy.execJobRelease {o} (hs : Tidy σ s) : TidyNext σ (execJobRelease o s) :=
  (hs.homeOp fun hu => hu.jobCtl fun hu => hu.respond.ite (hu.respond.ite (hu.respond.ite hu.setJob.respond))).next
theorem Tidy.jobAbortWrite {p n} (hs : Tidy σ s) : Tidy σ (s.jobAbortWrite p n) :=
  (hs.openWrite fun hu => hu).ite (hs.openWrite .jobAbort)

/-! ### Machine/HcuRun.lean -/

theorem Tidy.unitRead {n key bytes} (hs : Tidy σ s) : Tidy σ (s.unitRead n key bytes) := hs.bumpN.meter

theorem Tidy.jobOut {n key addr tc fmt chain bs} (hs : Tidy σ s) : Tidy σ (s.jobOut n key addr tc fmt chain bs) := by
  unfold State.jobOut
  refine hs.ite (hs.bumpN.setJob.setJob.ite ?_)
  refine hs.bumpN.setJob.emit.ite ?_
  extract_lets +onlyGivenNames r
  have hr : Tidy σ r.2 := hs.bumpN.setJob.jobPutBytes
  exact hr.ite hr.jobFault

theorem Tidy.packedOut {n pos bs} (hs : Tidy σ s) : Tidy σ (s.packedOut n pos bs) := hs.jobOut

theorem Tidy.deliver {n k} (hs : Tidy σ s) : Tidy σ (s.deliver n k) := by
  unfold State.deliver
  refine .ite ?_ ?_
  · extract_lets +onlyGivenNames _ _ _ s1
    have hs1 : Tidy σ s1 := ((hs.bump.ite hs).bump.ite (hs.bump.ite hs)).setJob
    exact (hs1.ite hs1.jobOut).jobOut
  · extract_lets +onlyGivenNames _ s1
    have hs1 : Tidy σ s1 := ((hs.bump.ite hs).bump.ite (hs.bump.ite hs)).setJob
    exact hs1.bumpN.setJob.ite hs1.bumpN.emit

theorem Tidy.placeRow {n i bs} (hs : Tidy σ s) : Tidy σ (s.placeRow n i bs) := by
  unfold State.placeRow
  refine (hs.foldl fun hu => hu.packedOut.setJob).ite (hs.foldl fun hu => ?_)
  split
  · exact hu.jobFault
  · exact hu.used.jobOut.setJob.ite hu.used.jobOut.setJob.jobOut

theorem Tidy.dispatchTable {n} (hs : Tidy σ s) : Tidy σ (s.dispatchTable n) := by
  unfold State.dispatchTable
  extract_lets +onlyGivenNames _
  split
  · exact hs.jobFault
  · refine hs.used.foldl fun hu => ?_
    extract_lets +onlyGivenNames _
    split
    · exact hu.jobFault
    · extract_lets +onlyGivenNames _ _ w
      have hw : Tidy σ w.2 := hu.used.bumpN.serviceWrite
      exact hw.ite hw.jobFault

theorem Tidy.termsUsed {j rec} (hs : Tidy σ s) : Tidy σ (s.termsUsed j rec) := by
  unfold State.termsUsed
  refine hs.foldl fun hu => hu.ite ?_
  split
  · exact hu
  · exact hu.ite hu.used

theorem Tidy.filterRecord {n rec} (hs : Tidy σ s) : Tidy σ (s.filterRecord n rec) := by
  unfold State.filterRecord
  refine hs.ite ?_
  split
  · exact hs.setJob.termsUsed.jobFault
  · exact hs.setJob.termsUsed
  · exact hs.setJob.termsUsed.setJob.ite (hs.setJob.termsUsed.packedOut.setJob.ite hs.setJob.termsUsed.setJob)

theorem Tidy.filterEnd {n} (hs : Tidy σ s) : Tidy σ (s.filterEnd n) := hs.ite (hs.foldl fun hu => hu.packedOut.setJob)
theorem Tidy.rows {n first bs} (hs : Tidy σ s) : Tidy σ (s.rows n first bs) :=
  hs.foldl fun hu => hu.ite (hu.filterRecord.ite hu.placeRow)

theorem Tidy.allRows {n} (hs : Tidy σ s) : Tidy σ (s.allRows n) := by
  unfold State.allRows
  extract_lets +onlyGivenNames s1
  have hs1 : Tidy σ s1 := hs.dispatchTable.ite (hs.filterEnd.ite hs)
  exact hs1.setJob.jobCheck.ite hs1

theorem Tidy.streamEnd {n} (hs : Tidy σ s) : Tidy σ (s.streamEnd n) := by
  unfold State.streamEnd; exact hs.allRows.ite hs
theorem Tidy.consume {n x} (hs : Tidy σ s) : Tidy σ (s.consume n x) := by
  unfold State.consume; exact hs.unitRead.rows

theorem Tidy.takePut {n h key late} (hs : Tidy σ s) : TidySome σ (s.takePut n h key late) := by
  unfold State.takePut
  refine .ite .none ?_
  extract_lets +onlyGivenNames _ _ _ s2
  have hs2 : Tidy σ s2 := hs.setJob.respond.ite hs.setJob
  exact (hs2.put (by exact rfl)).some.ite (hs2.foldl .consume).streamEnd.some

theorem Tidy.unpark {n x} (hs : Tidy σ s) : Tidy σ (s.unpark n x) := by
  unfold State.unpark
  extract_lets +onlyGivenNames _ _ _ _ s2
  have hs2 : Tidy σ s2 := hs.setJob.ite hs.setJob.respond
  exact (hs2.put (by exact rfl)).ite (hs2.put (by exact rfl)).consume.streamEnd

theorem Tidy.judgePut {n h} (hs : Tidy σ s) : Tidy σ (s.judgePut n h) := by
  unfold State.judgePut
  split
  · extract_lets +onlyGivenNames _ _ s2
    have hs2 : Tidy σ s2 := (hs.bump.ite hs).respond
    exact hs2.bump.jobFault.ite hs2
  · exact hs.respond.ite ((hs.put (by exact rfl)).ite ((hs.put (by exact rfl)).getD hs.takePut))

theorem Tidy.pumpJobN {k n} (hs : Tidy σ s) : Tidy σ (State.pumpJobN k n s) := by
  induction k generalizing s with
  | zero => exact hs
  | succ k ih =>
    unfold State.pumpJobN
    dsimp only
    split
    · exact ih hs.unpark
    · split
      · exact hs
      · split
        · exact ih (hs.put (by exact rfl)).respond
        · split
          · next u e => exact ih ((hs.put (by exact rfl)).takePut _ e)
          · exact hs

theorem Tidy.pumpJob {n} (hs : Tidy σ s) : Tidy σ (s.pumpJob n) := hs.pumpJobN
theorem Tidy.execJobPut {o port} (hs : Tidy σ s) : TidyNext σ (execJobPut o port s) :=
  (hs.homeOp fun hu => hu.respond.ite (hu.respond.ite (hu.respond.ite hu.judgePut))).next

theorem Tidy.execHeldJobPutTimeout {job n} (hs : Tidy σ s) : TidyNext σ (execHeldJobPutTimeout job n s) := by
  unfold Machine.execHeldJobPutTimeout
  refine (hs.begin.whenRunning fun hu => ?_).next
  split
  · exact hu
  · exact (hu.elapse.put (by exact rfl)).bump.respond.pumpJob

theorem Tidy.execJobIdleTimeout {job} (hs : Tidy σ s) : TidyNext σ (execJobIdleTimeout job s) :=
  (hs.begin.whenRunning fun hu => hu.ite hu.elapse.jobFault).next

theorem Tidy.expReady {t : State} {job} (hs : Tidy σ t) : Tidy σ (t.expReady job) := by
  unfold State.expReady
  refine hs.ite ?_
  split
  · exact hs.jobFault
  · exact hs.used.setJob

theorem Tidy.execJobExponentReady {job} (hs : Tidy σ s) : TidyNext σ (execJobExponentReady job s) :=
  (hs.begin.whenRunning .expReady).next

theorem Tidy.millstoneSum {n chunk contrib} (hs : Tidy σ s) : Tidy σ (s.millstoneSum n chunk contrib) := by
  unfold State.millstoneSum
  extract_lets +onlyGivenNames _ _
  split
  · exact hs
  · refine hs.ite ?_
    extract_lets +onlyGivenNames _ _ _ _ s3
    have hs3 : Tidy σ s3 := (hs.put (by exact rfl)).setJob.unitRead.arbDrop.ite (hs.put (by exact rfl)).setJob.unitRead
    exact hs3.ite (hs3.deliver.setJob.ite hs3.deliver).pumpJob.jobCheck

theorem Tidy.execMillstoneSum {job chunk contrib} (hs : Tidy σ s) : TidyNext σ (execMillstoneSum job chunk contrib s) :=
  (hs.begin.whenRunning .millstoneSum).next
theorem Tidy.execJobOutputAck {job r} (hs : Tidy σ s) : TidyNext σ (execJobOutputAck job r s) :=
  (hs.begin.whenRunning fun hu => hu.ite (hu.jobFault.ite hu.setJob.jobCheck)).next

theorem Tidy.gatherStart {n} (hs : Tidy σ s) : Tidy σ (s.gatherStart n) := by
  unfold State.gatherStart
  dsimp only
  split
  · exact hs.jobFault
  · exact hs.used.jobFault.ite (hs.used.setJob.foldl fun hu => hu.packedOut.setJob)

theorem Tidy.dispatchStart {n} (hs : Tidy σ s) : Tidy σ (s.dispatchStart n) := by
  unfold State.dispatchStart
  extract_lets +onlyGivenNames _
  split
  · exact hs.jobFault
  · exact hs.jobFault
  · extract_lets +onlyGivenNames _ _ _ _ w
    have hw : Tidy σ w.2 := hs.used.used.openBytes.serviceWrite
    exact hw.jobFault.ite hw.setJob

theorem Tidy.memorySource {n} (hs : Tidy σ s) : Tidy σ (s.memorySource n) := by
  unfold State.memorySource
  extract_lets +onlyGivenNames _ _ s1
  have hs1 : Tidy σ s1 := by
    unfold s1
    refine hs.foldl fun hu => hu.ite ?_
    split
    · exact hu.jobFault
    · exact hu.used.unitRead.rows
  exact hs1.allRows

theorem Tidy.hcuStart {key} (hs : Tidy σ s) : Tidy σ (s.hcuStart key) := by
  unfold State.hcuStart
  split
  · exact hs
  · refine hs.ite ?_
    extract_lets +onlyGivenNames _ _ _ s2 s3
    have hs2 : Tidy σ s2 := hs.setHcuQueue.setJob
    have hs3 : Tidy σ s3 := hs2.gatherStart.ite (hs2.dispatchStart.ite hs2)
    exact hs3.ite (hs3.pumpJob.streamEnd.ite hs3.memorySource)

theorem Tidy.execHcuJobStart {unit} (hs : Tidy σ s) : TidyNext σ (execHcuJobStart unit s) :=
  (hs.begin.whenRunning .hcuStart).next

theorem Tidy.execGatherSortDone {job} (hs : Tidy σ s) : TidyNext σ (execGatherSortDone job s) := by
  unfold Machine.execGatherSortDone
  refine (hs.begin.whenRunning fun hu => ?_).next
  refine hu.ite ?_
  extract_lets +onlyGivenNames _ w
  have hw : Tidy σ w.2 := hu.openBytes.serviceWrite
  exact hw.jobFault.ite hw.setJob.pumpJob.streamEnd

theorem Tidy.hcuLose {key st reason} (hs : Tidy σ s) : Tidy σ (s.hcuLose key st reason) := hs.foldl .jobFault

/-! ### Machine/Security.lean -/

theorem Tidy.setTenant {t x} (hs : Tidy σ s) : Tidy σ (s.setTenant t x) := { hs with tenants := hs.tenants.write }
theorem Tidy.setCrypt {p c} (hs : Tidy σ s) : Tidy σ (s.setCrypt p c) := { hs with crypt := hs.crypt.write }
theorem Tidy.setBank {b x} (hs : Tidy σ s) : Tidy σ (s.setBank b x) := { hs with banks := hs.banks.write }
theorem Tidy.setKey {slot k} (hs : Tidy σ s) : Tidy σ (s.setKey slot k) := { hs with keys := hs.keys.write }

theorem Tidy.destroyKey {slot} (hs : Tidy σ s) : Tidy σ (s.destroyKey slot) := by
  unfold State.destroyKey
  split
  · exact hs
  · exact hs.setKey.eventOpen

theorem Tidy.destroyKeys {p} (hs : Tidy σ s) : Tidy σ (s.destroyKeys p) := hs.foldl .destroyKey
theorem Tidy.keyCheck (hs : Tidy σ s) : Tidy σ s.keyCheck := hs.destroyKeys
theorem Tidy.measurementsUpdated (hs : Tidy σ s) : Tidy σ s.measurementsUpdated := hs.keyCheck.put (by exact rfl)
theorem Tidy.tenantWrite {a t enable requireEnc} (hs : Tidy σ s) : Tidy σ (s.tenantWrite a t enable requireEnc) :=
  (hs.setTenant.ite hs).mgmtWrite fun hu => hu.setTenant.keyCheck.ite hu.setTenant.keyCheck.destroyKeys
theorem Tidy.execTenantEnable {a t requireEnc} (hs : Tidy σ s) : TidyNext σ (execTenantEnable a t requireEnc s) :=
  (hs.begin.whenRunning .tenantWrite).next
theorem Tidy.execTenantDisable {a t requireEnc} (hs : Tidy σ s) : TidyNext σ (execTenantDisable a t requireEnc s) :=
  (hs.begin.whenRunning .tenantWrite).next
theorem Tidy.zeroClusterSram {c} (hs : Tidy σ s) : Tidy σ (s.zeroClusterSram c) := hs.sramZero.sramZero
theorem Tidy.zeroClusterRegs {c} (hs : Tidy σ s) : Tidy σ (s.zeroClusterRegs c) :=
  hs.foldl fun hu => { hu with florets := hu.florets.write }
theorem Tidy.clusterGive {c owner} (hs : Tidy σ s) : Tidy σ (s.clusterGive c owner) := by
  unfold State.clusterGive
  extract_lets +onlyGivenNames _ _ _ s2 _ _ s3
  have hs2 : Tidy σ s2 := hs.zeroClusterSram.zeroClusterRegs.setUnit
  have hs3 : Tidy σ s3 := { hs2 with clusterOwner := hs2.clusterOwner.write }
  exact hs3.foldl .setQueue
theorem Tidy.clusterOwnerWrite {i w v} (hs : Tidy σ s) : Tidy σ (s.clusterOwnerWrite i w v) :=
  hs.mgmtWrite fun hu => hu.foldl .clusterGive
theorem Tidy.execClusterOwnerWrite {i w v} (hs : Tidy σ s) : TidyNext σ (execClusterOwnerWrite i w v s) :=
  (hs.begin.whenRunning .clusterOwnerWrite).next

theorem Tidy.execClusterClearComplete {cluster} (hs : Tidy σ s) : TidyNext σ (execClusterClearComplete cluster s) := by
  unfold Machine.execClusterClearComplete
  refine (hs.begin.whenRunning fun hu => ?_).next
  split
  · exact hu
  · exact (hu.put (by exact rfl)).setUnit.clearRecord

theorem Tidy.setBind {p b} (hs : Tidy σ s) :
    Tidy σ { s with sec := { s.sec with binds := Store.write ({} : PortBind) s.sec.binds p b } } :=
  { hs with binds := hs.binds.write }
theorem Tidy.portBindWrite {i p v} (hs : Tidy σ s) : Tidy σ (s.portBindWrite i p v) :=
  hs.mgmtWrite fun hu => hu.setBind.keyCheck
theorem Tidy.execPortBindWrite {i port v} (hs : Tidy σ s) : TidyNext σ (execPortBindWrite i port v s) :=
  (hs.begin.whenRunning .portBindWrite).next
theorem Tidy.assignDo {sync first count owner} (hs : Tidy σ s) : Tidy σ (s.assignDo sync first count owner) :=
  hs.foldl fun hu => (hu.ite hu.setSync).ite (hu.ite hu.setQueue)
theorem Tidy.secAssign {i v} (hs : Tidy σ s) : Tidy σ (s.secAssign i v) := hs.mgmtWrite .assignDo
theorem Tidy.execSecAssign {i v} (hs : Tidy σ s) : TidyNext σ (execSecAssign i v s) :=
  (hs.begin.whenRunning .secAssign).next

theorem Tidy.keyDestroy {session slot} (hs : Tidy σ s) : Tidy σ (s.keyDestroy session slot).2 := by
  unfold State.keyDestroy
  split
  · exact hs
  · exact hs.destroyKey.ite_snd hs

theorem Tidy.execKeyDestroy {session slot} (hs : Tidy σ s) : TidyNext σ (execKeyDestroy session slot s) :=
  (hs.begin.whenRunning fun hu => hu.keyDestroy.answer).next

theorem Tidy.spdmAnswer {port r} (hs : Tidy σ s) : Tidy σ (s.spdmAnswer port r).2.2 := by
  unfold State.spdmAnswer
  dsimp only
  split
  · exact hs
  · exact hs
  · exact hs.ite_snd_snd (hs.put (by exact rfl))
  · exact (hs.put (by exact rfl)).ite_snd_snd hs
  · exact (hs.put (by exact rfl)).ite_snd_snd hs
  · exact hs
  · exact hs.ite_snd_snd hs
  · exact hs
  · exact hs.ite_snd_snd hs
  · exact hs.ite_snd_snd hs
  · exact hs.keyDestroy
  · exact hs

theorem Tidy.spdm {port r} (hs : Tidy σ s) : Tidy σ (s.spdm port r) := by
  unfold State.spdm; exact hs.spdmAnswer.put (by exact rfl)
theorem Tidy.execSpdmMessage {port r} (hs : Tidy σ s) : TidyNext σ (execSpdmMessage port r s) :=
  (hs.begin.whenRunning .spdm).next

theorem Tidy.keyRelease {session b} (hs : Tidy σ s) : Tidy σ (s.keyRelease session b) := by
  unfold State.keyRelease
  split
  · exact (hs.free.eventOpen.ite hs).answer
  · exact hs.free.setKey.answer

theorem Tidy.execKeyRelease {session payload} (hs : Tidy σ s) : TidyNext σ (execKeyRelease session payload s) :=
  (hs.begin.whenRunning .keyRelease).next

theorem Tidy.decryptDo {o} (hs : Tidy σ s) : Tidy σ (s.decryptDo o) := by
  unfold State.decryptDo
  extract_lets +onlyGivenNames _ _ _
  split
  · extract_lets +onlyGivenNames _ _ s1
    have hs1 : Tidy σ s1 := (hs.setPart.ite hs).ckptKeep.touchRange.meter
    refine hs1.used.respond.ite ?_
    split <;> exact hs1.used.poolWrite.respond
  · exact hs

theorem Tidy.execMkDecrypt {o} (hs : Tidy σ s) : TidyNext σ (execMkDecrypt o s) := by
  unfold Machine.execMkDecrypt
  refine (hs.unitOp fun hu => ?_).next
  split
  · exact hu.respond
  · exact hu.decryptDo

theorem Tidy.firmwareEnd {p st refused} (hs : Tidy σ s) : Tidy σ (s.firmwareEnd p st refused) :=
  (hs.takeArm.put (by exact rfl)).free.eventOpen.answer
theorem Tidy.firmwareVerify {p} (hs : Tidy σ s) : Tidy σ (s.firmwareVerify p) :=
  hs.setBank.firmwareEnd.ite hs.setBank.firmwareEnd
theorem Tidy.whenManaged {f : State → State} (hs : Tidy σ s) (hf : ∀ {t}, Tidy σ t → Tidy σ (f t)) :
    Tidy σ (s.whenManaged f) :=
  (hf hs).ite hs
theorem Tidy.execVerify {p} (hs : Tidy σ s) : TidyNext σ (execVerify p s) := (hs.begin.whenManaged .firmwareVerify).next
theorem Tidy.firmwareActivate {p} (hs : Tidy σ s) : Tidy σ (s.firmwareActivate p) :=
  (hs.put (by exact rfl)).firmwareEnd.ite hs.firmwareEnd
theorem Tidy.execActivate {p} (hs : Tidy σ s) : TidyNext σ (execActivate p s) :=
  (hs.begin.whenManaged .firmwareActivate).next

theorem Tidy.firmwareCommit {p burn} (hs : Tidy σ s) : Tidy σ (s.firmwareCommit p burn) := by
  unfold State.firmwareCommit
  refine hs.firmwareEnd.ite ?_
  split
  · exact (hs.put (by exact rfl)).keyCheck.firmwareEnd
  · exact hs.fault.firmwareEnd

theorem Tidy.execCommit {p burn} (hs : Tidy σ s) : TidyNext σ (execCommit p burn s) :=
  (hs.begin.whenRunning .firmwareCommit).next

theorem Tidy.firmwareAbort {p} (hs : Tidy σ s) : Tidy σ (s.firmwareAbort p) := by
  unfold State.firmwareAbort
  split
  · exact hs.firmwareEnd
  · exact (hs.put (by exact rfl)).firmwareEnd

theorem Tidy.execAbort {p} (hs : Tidy σ s) : TidyNext σ (execAbort p s) := (hs.begin.whenRunning .firmwareAbort).next

/-! ### Machine/PlanImage.lean -/

theorem Tidy.setUnits {base ns slot} (hs : Tidy σ s) : Tidy σ (s.setUnits base ns slot) := hs.put (by exact rfl)

theorem Tidy.takeClaim {slot c} (hs : Tidy σ s) : Tidy σ (s.takeClaim slot c) := by
  unfold State.takeClaim
  dsimp only
  split
  · exact hs.put (by exact rfl)
  · exact (hs.foldl .setQueue).ite hs
  · exact hs.foldl .setSync
  · exact hs.dropMoves.setPart
  · exact hs.setGate
  · exact hs.put (by exact rfl)
  · exact (hs.foldl .hcuLose).setUnits
  · exact hs.setUnits
  · exact hs.setUnits
  · exact hs.put (by exact rfl)
  · exact hs

theorem Tidy.dropClaim {slot c} (hs : Tidy σ s) : Tidy σ (s.dropClaim slot c) := by
  unfold State.dropClaim
  dsimp only
  split
  · exact hs.put (by exact rfl)
  · exact (hs.foldl .setQueue).ite hs
  · exact hs.foldl .setSync
  · exact hs.setPart
  · exact hs.gateDefault.setGate
  · exact hs.put (by exact rfl)
  · exact hs.setUnits
  · exact hs.setUnits
  · exact hs.setUnits
  · exact hs.put (by exact rfl)
  · exact hs

theorem Tidy.takeClaims {slot i l n} (hs : Tidy σ s) : TidyOk σ (State.takeClaims slot i l n s) := by
  induction l generalizing s n with
  | nil => exact hs.ok
  | cons c t ih =>
    unfold State.takeClaims
    split
    · exact .error
    · exact ih hs.takeClaim

/-! ### Machine/Plans.lean -/

theorem Tidy.setSlot {n x} (hs : Tidy σ s) : Tidy σ (s.setSlot n x) := { hs with planSlots := hs.planSlots.write }
theorem Tidy.planEvent {n st} (hs : Tidy σ s) : Tidy σ (s.planEvent n st) := hs.eventOpen
theorem Tidy.planOutcome {n st} (hs : Tidy σ s) : Tidy σ (s.planOutcome n st) := hs.setSlot.planEvent
theorem Tidy.planCommand {eff : State → State} {a n c more} (hs : Tidy σ s) (heff : ∀ {t}, Tidy σ t → Tidy σ (eff t)) :
    Tidy σ (s.planCommand a n c more eff) :=
  hs.openWrite heff
theorem Tidy.loadFails {n st section_ claim} (hs : Tidy σ s) : Tidy σ (s.loadFails n st section_ claim) :=
  hs.setNum.setNum.setNum.planOutcome
theorem Tidy.openPlanJobs {n i} (hs : Tidy σ s) : Tidy σ (s.openPlanJobs n i) := hs.foldl .startJob

theorem Tidy.planLoad {n} (hs : Tidy σ s) : Tidy σ (s.planLoad n) := by
  unfold State.planLoad
  split
  · exact hs.loadFails
  · split
    · exact hs.loadFails
    · split
      · exact hs.loadFails
      · refine hs.loadFails.ite ?_
        split
        · exact hs.loadFails
        · dsimp only
          split
          · exact hs.loadFails
          · next u e =>
            have hu : Tidy σ u := hs.takeClaims _ e
            exact (hu.used.setSlot.put (by exact rfl)).openPlanJobs

theorem Tidy.execPlanLoad {p slot} (hs : Tidy σ s) : TidyNext σ (execPlanLoad p slot s) :=
  (hs.begin.whenRunning fun hu => hu.planCommand .planLoad).next

theorem Tidy.copyProgram {n i} (hs : Tidy σ s) : TidyOk σ (s.copyProgram n i) := by
  unfold State.copyProgram
  refine hs.ok.ite ?_
  split
  · exact .error
  · extract_lets +onlyGivenNames _ t
    have ht : Tidy σ t := by
      unfold t
      refine hs.used.foldl fun hu => ?_
      split
      · exact hu.sramWrite
      · exact hu
    exact ht.setSlot.ok

theorem Tidy.loadGates {i} (hs : Tidy σ s) : Tidy σ (s.loadGates i) := hs.foldl .setGateEntry
theorem Tidy.planEmpty {n i} (hs : Tidy σ s) : Tidy σ (s.planEmpty n i) := by
  unfold State.planEmpty
  extract_lets +onlyGivenNames _ t1 _ t2 _ t3
  have ht1 : Tidy σ t1 := (hs.foldl fun hu => hu.dropInputs.setJob).foldl .dropClaim
  have ht2 : Tidy σ t2 := { ht1 with fbQueues := ht1.fbQueues.revalue }
  have ht3 : Tidy σ t3 := ht2.put (by exact rfl)
  exact ht3.setSlot

theorem Tidy.execPlanLoadCopyDone {slot st} (hs : Tidy σ s) : TidyNext σ (execPlanLoadCopyDone slot st s) := by
  unfold Machine.execPlanLoadCopyDone
  refine (hs.begin.whenRunning fun hu => ?_).next
  dsimp only
  split
  · exact hu
  · refine hu.ite ?_
    split
    · exact hu.planEmpty.loadFails
    · next u e =>
      have hu : Tidy σ u := (hu.copyProgram.ite .error) _ e
      exact hu.loadGates.setSlot.setNum.loadFails

theorem Tidy.execClusterDrained {cluster} (hs : Tidy σ s) : TidyNext σ (execClusterDrained cluster s) := by
  unfold Machine.execClusterDrained
  refine (hs.begin.whenRunning fun hu => ?_).next
  split
  · exact hu
  · exact hu.ite hu.setSlot

theorem Tidy.knowHalt {n h} (hs : Tidy σ s) : Tidy σ (s.knowHalt n h) := by
  unfold State.knowHalt
  dsimp only
  split
  · exact hs
  · split
    · exact hs
    · exact hs.setSlot

theorem Tidy.issueHalt {n cause byRotation injected} (hs : Tidy σ s) :
    Tidy σ (s.issueHalt n cause byRotation injected) := by
  unfold State.issueHalt
  dsimp only
  split
  · exact hs
  · exact hs.ite (hs.setSlot.knowHalt.foldl .emit)

theorem Tidy.stopFlorets {n} (hs : Tidy σ s) : Tidy σ (s.stopFlorets n) := by
  unfold State.stopFlorets
  refine { hs with florets := ?_ }
  dsimp only
  exact hs.florets.revalue
theorem Tidy.slotGates {f : State → Nat → State} {n} (hs : Tidy σ s) (hf : ∀ {t a0}, Tidy σ t → Tidy σ (f t a0)) :
    Tidy σ (s.slotGates n f) :=
  hs.foldl fun hu => hf hu
theorem Tidy.planClocks {i on} (hs : Tidy σ s) : Tidy σ (s.planClocks i on) := hs.foldl .setClusterClock

theorem Tidy.planStop {n cause faulted} (hs : Tidy σ s) : Tidy σ (s.planStop n cause faulted) := by
  unfold State.planStop
  dsimp only
  split
  · exact hs
  · exact (hs.setSlot.setNum.setNum.setNum.stopFlorets.slotGates .setGate).planClocks.planEvent

theorem Tidy.haltEffect {n} (hs : Tidy σ s) : Tidy σ (s.haltEffect n) := by
  unfold State.haltEffect
  dsimp only
  split
  · exact hs
  · split
    · exact hs
    · exact hs.planStop

theorem Tidy.planContain {n cause} (hs : Tidy σ s) : Tidy σ (s.planContain n cause) := hs.issueHalt.planStop.ite hs

theorem Tidy.memberArm {planId start resume} (hs : Tidy σ s) : Tidy σ (s.memberArm planId start resume).2 := by
  unfold State.memberArm
  refine hs.ite_snd ?_
  dsimp only
  split
  · exact hs.setSlot.planClocks
  · exact hs.setSlot

theorem Tidy.memberDisarm {planId} (hs : Tidy σ s) : Tidy σ (s.memberDisarm planId) := by
  unfold State.memberDisarm
  split
  · exact hs
  · dsimp only
    split
    · exact hs
    · exact hs.ite hs.setSlot.planClocks

theorem Tidy.disarmAll {i} (hs : Tidy σ s) : Tidy σ (s.disarmAll i) := hs.foldl fun hu => hu.memberDisarm.ite hu.emit

theorem Tidy.armAll {n resume} (hs : Tidy σ s) : Tidy σ (s.armAll n resume) := by
  unfold State.armAll
  split
  · exact hs
  · exact hs.setSlot.foldl fun hu => hu.memberArm.setSlot.ite hu.emit

theorem Tidy.execPlanArm {p slot} (hs : Tidy σ s) : TidyNext σ (execPlanArm p slot s) :=
  (hs.begin.whenRunning fun hu => hu.planCommand .armAll).next
theorem Tidy.execPlanResume {p slot} (hs : Tidy σ s) : TidyNext σ (execPlanResume p slot s) :=
  (hs.begin.whenRunning fun hu => hu.planCommand .armAll).next
theorem Tidy.execArmRequest {planId start fromNode resume} (hs : Tidy σ s) :
    TidyNext σ (execArmRequest planId start fromNode resume s) :=
  (hs.begin.whenRunning fun hu => hu.memberArm.emit).next

theorem Tidy.execArmReply {planId member st} (hs : Tidy σ s) : TidyNext σ (execArmReply planId member st s) := by
  unfold Machine.execArmReply
  refine (hs.begin.whenRunning fun hu => ?_).next
  split
  · exact hu
  · exact hu.setSlot.ite hu

theorem Tidy.armDecide {t : State} {n} (hs : Tidy σ t) : Tidy σ (t.armDecide n) := by
  unfold State.armDecide
  dsimp only
  split
  · exact hs
  · refine hs.ite ?_
    split
    · exact hs.atFtc.setNum.setNum.planOutcome
    · exact hs.atFtc.disarmAll.setNum.setNum.planOutcome

theorem Tidy.planDisarm {a n} (hs : Tidy σ s) : Tidy σ (s.planDisarm a n) := by
  unfold State.planDisarm
  refine hs.planCommand fun hu => ?_
  split
  · exact hu
  · exact hu.disarmAll.planOutcome

theorem Tidy.execPlanStart {slot} (hs : Tidy σ s) : TidyNext σ (execPlanStart slot s) :=
  (hs.begin.whenRunning fun hu => hu.ite hu.atFtc.setSlot).next
theorem Tidy.planHalt {a n boundary} (hs : Tidy σ s) : Tidy σ (s.planHalt a n boundary) :=
  hs.planCommand fun hu => hu.issueHalt.planOutcome
theorem Tidy.execPlanHaltBoundary {a slot} (hs : Tidy σ s) : TidyNext σ (execPlanHaltBoundary a slot s) :=
  (hs.begin.whenRunning .planHalt).next
theorem Tidy.execPlanHaltNow {a slot} (hs : Tidy σ s) : TidyNext σ (execPlanHaltNow a slot s) :=
  (hs.begin.whenRunning .planHalt).next
theorem Tidy.zeroPlanRegs {i} (hs : Tidy σ s) : Tidy σ (s.zeroPlanRegs i) := hs.foldl .zeroClusterRegs

theorem Tidy.planReset {t : State} {n} (hs : Tidy σ t) : Tidy σ (t.planReset n) := by
  unfold State.planReset
  split
  · exact hs
  · split
    · exact hs.planOutcome
    · next u e =>
      have hu : Tidy σ u := hs.copyProgram _ e
      exact (hu.zeroPlanRegs.setSlot.foldl fun hu => hu.dropInputs.jobRelinquish.startJob).planOutcome

theorem Tidy.execPlanReset {p slot} (hs : Tidy σ s) : TidyNext σ (execPlanReset p slot s) :=
  (hs.begin.whenRunning fun hu => hu.planCommand .planReset).next

theorem Tidy.execPlanUnload {p slot} (hs : Tidy σ s) : TidyNext σ (execPlanUnload p slot s) := by
  unfold Machine.execPlanUnload
  refine (hs.begin.whenRunning fun hu => ?_).next
  refine hu.planCommand fun hu => ?_
  split
  · exact hu
  · exact hu.planEmpty.planOutcome

theorem Tidy.exchangeData {n i d} (hs : Tidy σ s) : Tidy σ (s.exchangeData n i d).2 := by
  unfold State.exchangeData
  refine .ite_snd ?_ ?_
  · dsimp only
    split
    · exact hs
    · exact hs.setJob
  · refine .ite_snd ?_ ?_
    · split
      · exact hs.used
      · exact hs.issueHalt.ite hs
    · refine .ite_snd ?_ hs
      split <;> exact hs

theorem Tidy.departures {n i t} (hs : Tidy σ s) : Tidy σ (s.departures n i t) := by
  unfold State.departures
  refine hs.foldl fun hu => hu.ite ?_
  split
  · exact hu
  · refine hu.ite ?_
    extract_lets +onlyGivenNames _
    split
    · exact hu.exchangeData
    · extract_lets +onlyGivenNames v
      have hv : Tidy σ v := hu.exchangeData.emit.ite hu.exchangeData
      exact hv.setSlot.ite hv

theorem Tidy.planInput {i d tick bs} (hs : Tidy σ s) : TidySome σ (s.planInput i d tick bs) := by
  unfold State.planInput
  refine .ite .none ?_
  split
  · exact (hs.bump.jobFault.ite hs).some
  · exact hs.takePut

theorem Tidy.latch {n i d tick bs} (hs : Tidy σ s) : TidySome σ (s.latch n i d tick bs) := by
  unfold State.latch
  refine hs.planInput.ite ((hs.serviceWrite.issueHalt.ite hs.serviceWrite).some.ite ?_)
  refine .ite ?_ hs.emit.some
  split
  · exact hs.some
  · exact hs.sramWrite.some

theorem Tidy.exchangeEffect {n i k d rot tick slack} (hs : Tidy σ s) :
    Tidy σ (s.exchangeEffect n i k d rot tick slack) := by
  unfold State.exchangeEffect
  dsimp only
  split
  · exact hs.bump.issueHalt
  · refine hs.setSlot.bump.issueHalt.ite ?_
    split
    · exact hs.setSlot.bump.issueHalt
    · next u e =>
      have hu : Tidy σ u := hs.setSlot.latch _ e
      exact hu.bump.ite (hu.bump.ite hu)

theorem Tidy.startEntry {n c k} (hs : Tidy σ s) : Tidy σ (s.startEntry n c k) :=
  hs.issueHalt.ite (hs.foldl fun hu => { hu with florets := hu.florets.write })

theorem Tidy.entryEffect {n i k e t tick slacks} (hs : Tidy σ s) : Tidy σ (s.entryEffect n i k e t tick slacks) := by
  unfold State.entryEffect
  split
  · split
    · exact hs
    · exact hs.exchangeEffect.ite hs
  · exact hs.activate
  · exact hs.startEntry
  · exact hs.syncUpdate.ite hs
  · split
    · exact hs
    · exact hs.prefetchLayer
  · exact hs.setNum

theorem Tidy.performTick {n i tick slacks} (hs : Tidy σ s) : Tidy σ (s.performTick n i tick slacks) :=
  (hs.foldl fun hu => hu.entryEffect.ite hu).departures

theorem Tidy.slipIssue {n tick injected} (hs : Tidy σ s) : Tidy σ (s.slipIssue n tick injected) := by
  unfold State.slipIssue
  dsimp only
  split
  · exact hs
  · exact hs.ite (hs.setSlot.foldl .emit)

theorem Tidy.quantumEnds {n} (hs : Tidy σ s) : Tidy σ (s.quantumEnds n) := by
  unfold State.quantumEnds
  dsimp only
  split
  · exact hs
  · exact hs.setSlot.slotGates .setGate

theorem Tidy.planStep {n slacks} (hs : Tidy σ s) : Tidy σ (s.planStep n slacks) := by
  unfold State.planStep
  dsimp only
  split
  · exact hs
  · refine hs.ite (hs.ite (hs.atTick.setSlot.haltEffect.ite ?_))
    generalize hu : (if (s.slot n).remaining = 0 then _ else _ : State) = u
    have hu : Tidy σ u := hu ▸ hs.atTick.setSlot.quantumEnds.ite hs.atTick.setSlot
    split
    · exact hu.setSlot.haltEffect.ite (hu.setSlot.bump.bump.setNum.setNum.setNum.slotGates .setGate).slipIssue
    · exact hu.setSlot.slipIssue.ite hu.setSlot.performTick.setSlot.slipIssue

theorem Tidy.lateReport {t : State} {n cause ticks origin injected} (hs : Tidy σ t) :
    Tidy σ (t.lateReport n cause ticks origin injected) :=
  hs.ite hs.setSlot.slipIssue
theorem Tidy.execLatenessReport {slot cause ticks origin} (hs : Tidy σ s) :
    TidyNext σ (execLatenessReport slot cause ticks origin s) :=
  (hs.begin.whenRunning .lateReport).next

theorem Tidy.slipArrives {t : State} {port k} (hs : Tidy σ t) : Tidy σ (t.slipArrives port k) := by
  unfold State.slipArrives
  split
  · exact hs
  · dsimp only
    split
    · exact hs
    · refine hs.ite ((hs.setSlot.foldl .emit).ite ?_)
      exact (hs.setSlot.foldl .emit).bump.issueHalt.ite ((hs.setSlot.foldl .emit).ite (hs.setSlot.foldl .emit).setSlot)

theorem Tidy.execSlipToken {port k} (hs : Tidy σ s) : TidyNext σ (execSlipToken port k s) :=
  (hs.begin.whenRunning .slipArrives).next

theorem Tidy.haltArrives {t : State} {port h} (hs : Tidy σ t) : Tidy σ (t.haltArrives port h) := by
  unfold State.haltArrives
  split
  · exact hs
  · extract_lets +onlyGivenNames _
    split
    · exact hs
    · refine hs.ite ((hs.setSlot.foldl .emit).ite ?_)
      extract_lets +onlyGivenNames t3
      have ht3 : Tidy σ t3 := (hs.setSlot.foldl .emit).knowHalt
      exact ht3.haltEffect.setNum.ite ht3

theorem Tidy.staticArrival {n target bs} (hs : Tidy σ s) : Tidy σ (s.staticArrival n target bs) := by
  unfold State.staticArrival
  dsimp only
  split
  · exact hs
  · split
    · exact hs
    · exact hs.setSlot

theorem Tidy.setLock {l} (hs : Tidy σ s) : Tidy σ (s.setLock l) := hs.put (by exact rfl)
theorem Tidy.timeLost (hs : Tidy σ s) : Tidy σ s.timeLost := hs.setLock.bump32.foldl .planContain

theorem Tidy.chooseParent (hs : Tidy σ s) : Tidy σ s.chooseParent := by
  unfold State.chooseParent
  refine hs.setNum.setNum.setLock.ite ?_
  split
  · exact hs.setNum.setNum.setLock.ite hs.setNum.setNum
  · extract_lets +onlyGivenNames _ s1
    have hs1 : Tidy σ s1 := hs.ite hs.setNum.setNum
    exact hs1.ite (hs1.put (by exact rfl))

theorem Tidy.execTimeSyncInterval (hs : Tidy σ s) : TidyNext σ (execTimeSyncInterval s) :=
  (hs.begin.whenRunning fun hu => ((hu.elapse.put (by exact rfl)).setLock.ite (hu.elapse.put
    (by exact rfl))).chooseParent.foldl .emit).next

theorem Tidy.timeHeard {t : State} {p txFtc echoTx echoRx arrival} (hs : Tidy σ t) :
    Tidy σ (t.timeHeard p txFtc echoTx echoRx arrival) := by
  unfold State.timeHeard
  extract_lets +onlyGivenNames _ _ _ _ _ _ t1 t2
  have ht1 : Tidy σ t1 := { hs with ports := hs.ports.write }
  have ht2 : Tidy σ t2 := ht1.setNum
  refine ht2.ite ((ht2.put (by exact rfl)).ite ?_)
  dsimp only
  split
  · exact (ht2.put (by exact rfl)).setLock.ite (ht2.put (by exact rfl))
  · exact (ht2.put (by exact rfl)).setLock.ite (ht2.put (by exact rfl))
  · exact (ht2.put (by exact rfl)).setLock.ite (ht2.put (by exact rfl))
  · exact ht2.put (by exact rfl)

theorem Tidy.execTimeFlit {port txFtc echoTx echoRx arrival} (hs : Tidy σ s) :
    TidyNext σ (execTimeFlit port txFtc echoTx echoRx arrival s) :=
  (hs.begin.whenRunning fun hu => hu.timeHeard.ite hu).next
theorem Tidy.ftcSet {p v} (hs : Tidy σ s) : Tidy σ (s.ftcSet p v) := by
  unfold State.ftcSet; exact hs.openWrite (fun hu => hu.put (by exact rfl))
theorem Tidy.execFtcSet {p v} (hs : Tidy σ s) : TidyNext σ (execFtcSet p v s) := (hs.begin.whenRunning .ftcSet).next

/-! ### Machine/Contain.lean -/

theorem Tidy.setStates {us st} (hs : Tidy σ s) : Tidy σ (s.setStates us st) := hs.foldl .setUnit
theorem Tidy.startContain {l} (hs : Tidy σ s) : Tidy σ (s.startContain l) := hs.ite (hs.setStates.put (by exact rfl))

theorem Tidy.containUnit {l code arg} (hs : Tidy σ s) : Tidy σ (s.containUnit l code arg) := by
  unfold State.containUnit
  refine hs.fault.ite ?_
  split
  · exact hs.fault.startContain
  · exact (hs.fault.put (by exact rfl)).issueHalt

/-! ### Machine/Queues.lean -/

theorem Tidy.touchQueue {q} (hs : Tidy σ s) : Tidy σ (s.touchQueue q) := by
  unfold State.touchQueue
  extract_lets +onlyGivenNames _ s1 lru out
  have hs1 : Tidy σ s1 := hs.ite hs.setQueue.bump
  cases out with
  | none => exact hs1.put (by exact rfl)
  | some => exact hs1.setQueue.put (by exact rfl)

theorem Tidy.putBytes {tenant tc a bs} (hs : Tidy σ s) : Tidy σ (s.putBytes tenant tc a bs) := hs.writeLocal.ite hs.emit
theorem Tidy.putEntry {cq f posted} (hs : Tidy σ s) : Tidy σ (s.putEntry cq f posted) := hs.putBytes.setQueue.emit

theorem Tidy.finishItem {q item r} (hs : Tidy σ s) : Tidy σ (s.finishItem q item r) := by
  unfold State.finishItem
  dsimp only
  split
  · exact hs
  · exact hs.setQueue

theorem Tidy.commitWrite {q v} (hs : Tidy σ s) : Tidy σ (s.commitWrite q v).2 := by
  unfold State.commitWrite
  refine hs.touchQueue.ite_snd (hs.touchQueue.setQueue.ite_snd ?_)
  refine hs.touchQueue.ite_snd (hs.touchQueue.ite_snd ?_)
  exact (hs.touchQueue.ite_snd hs.touchQueue.setQueue).ite_snd (hs.touchQueue.ite_snd hs.touchQueue.setQueue)

theorem Tidy.enableQueue {q} (hs : Tidy σ s) : Tidy σ (s.enableQueue q).2 := by
  unfold State.enableQueue
  dsimp only
  split
  · exact hs.setQueue.ite hs
  · exact (hs.setQueue.ite hs.setQueue.setQueue).ite_snd hs
  · exact hs

theorem Tidy.disableQueue {q} (hs : Tidy σ s) : Tidy σ (s.disableQueue q).2 := hs.ite_snd hs.setQueue
theorem Tidy.reserve {c n} (hs : Tidy σ s) : Tidy σ (s.reserve c n) := hs.ite hs.setQueue
theorem Tidy.flushQueue {q} (hs : Tidy σ s) : Tidy σ (s.flushQueue q).2 :=
  hs.setQueue.ite_snd (hs.setQueue.reserve.foldl .endWait)
theorem Tidy.clearStickyQueue {q} (hs : Tidy σ s) : Tidy σ (s.clearStickyQueue q).2 := hs.setQueue

theorem Tidy.controlWrite {q v} (hs : Tidy σ s) : Tidy σ (s.controlWrite q v).2 := by
  unfold State.controlWrite
  dsimp only
  split
  · exact hs.touchQueue.enableQueue
  · exact hs.touchQueue.disableQueue
  · exact hs.touchQueue.flushQueue
  · exact hs.touchQueue.clearStickyQueue
  · exact hs.touchQueue

theorem Tidy.contextWrite {q word v} (hs : Tidy σ s) : Tidy σ (s.contextWrite q word v).2 := by
  unfold State.contextWrite
  refine hs.ite_snd (hs.ite_snd ?_)
  refine hs.ite_snd ?_
  split
  · exact hs.setQueue
  · exact hs.setQueue
  · exact hs.ite_snd hs.setQueue
  · exact hs

theorem Tidy.queueWrite {f : State → Response × State} {i q} (hs : Tidy σ s) (hf : ∀ {t}, Tidy σ t → Tidy σ (f t).2) :
    TidyNext σ (s.queueWrite i q f) :=
  (hs.begin.whenRunning fun hu => hu.answer.ite (hf hu).answer).next
theorem Tidy.execQdbCommit {i q v} (hs : Tidy σ s) : TidyNext σ (execQdbCommit i q v s) := hs.queueWrite .commitWrite
theorem Tidy.execQueueEnable {i q} (hs : Tidy σ s) : TidyNext σ (execQueueEnable i q s) := hs.queueWrite .controlWrite
theorem Tidy.execQueueDisable {i q} (hs : Tidy σ s) : TidyNext σ (execQueueDisable i q s) := hs.queueWrite .controlWrite
theorem Tidy.execQueueFlush {i q} (hs : Tidy σ s) : TidyNext σ (execQueueFlush i q s) := hs.queueWrite .controlWrite
theorem Tidy.execClearSticky {i q} (hs : Tidy σ s) : TidyNext σ (execClearSticky i q s) := hs.queueWrite .controlWrite
theorem Tidy.execQueueContextPut {i q word v} (hs : Tidy σ s) : TidyNext σ (execQueueContextPut i q word v s) :=
  hs.queueWrite .contextWrite
theorem Tidy.execQueueDisableDrained {q} (hs : Tidy σ s) : TidyNext σ (execQueueDisableDrained q s) :=
  (hs.begin.whenRunning fun hu => hu.setQueue.ite hu).next
theorem Tidy.execQueueFlushEnd {q} (hs : Tidy σ s) : TidyNext σ (execQueueFlushEnd q s) :=
  (hs.begin.whenRunning fun hu => hu.setQueue.ite hu).next
theorem Tidy.refuseItem {q o st nonPosted} (hs : Tidy σ s) : Tidy σ (s.refuseItem q o st nonPosted) := hs.setQueue.reserve
theorem Tidy.issueOp {o} (hs : Tidy σ s) : Tidy σ (s.issueOp o) :=
  ((hs.countIssued.ite hs).ite (hs.countIssued.ite hs).openOp).emit
theorem Tidy.ringFails {q st} (hs : Tidy σ s) : Tidy σ (s.ringFails q st) := hs.setQueue.reserve

theorem Tidy.startItem {q remote} (hs : Tidy σ s) : Tidy σ (s.startItem q remote) := by
  unfold State.startItem
  refine hs.ite ?_
  split
  · exact hs.ringFails.ite hs
  · refine (hs.refuseItem.ite hs).ite (hs.refuseItem.ite ?_)
    split
    · exact hs.refuseItem.ite hs
    · refine hs.ite (hs.ite ?_)
      refine hs.fetchUsed.setQueue.reserve.emit.ite ?_
      split
      · exact hs.refuseItem.ite hs
      · exact hs.fetchUsed.fetchUsed.setQueue.issueOp.ite hs.fetchUsed.fetchUsed.setQueue.reserve.issueOp

theorem Tidy.execItemStart {q remote} (hs : Tidy σ s) : TidyNext σ (execItemStart q remote s) :=
  (hs.begin.whenRunning .startItem).next

theorem Tidy.writeNext {q} (hs : Tidy σ s) : Tidy σ (s.writeNext q) := by
  unfold State.writeNext
  dsimp only
  split
  · exact hs
  · refine hs.setQueue.ite (hs.ite ?_)
    split
    · exact hs.setQueue.setQueue
    · exact hs.setQueue.setQueue.putEntry

theorem Tidy.execQueueRingReadFail {q st} (hs : Tidy σ s) : TidyNext σ (execQueueRingReadFail q st s) :=
  (hs.begin.whenRunning fun hu => hu.ringFails.ite hu).next

theorem Tidy.postedFails {i pseq r} (hs : Tidy σ s) : Tidy σ (s.postedFails i pseq r) := by
  unfold State.postedFails
  split
  · exact hs
  · refine hs.closeOp.wake.bump.ite ?_
    extract_lets +onlyGivenNames s1 _
    have hs1 : Tidy σ s1 := hs.setSticky.closeOp.wake
    split
    · dsimp only
      split
      · exact hs1.setQueue
      · exact hs1.setQueue.ite hs1.putEntry
    · split
      · exact hs1.emit.ite hs1.bump
      · exact hs1

theorem Tidy.execPostedFailureReport {i pseq r} (hs : Tidy σ s) : TidyNext σ (execPostedFailureReport i pseq r s) :=
  (hs.begin.whenRunning fun hu => hu.ite hu.postedFails).next

theorem Tidy.execPostedTimeout {i pseq} (hs : Tidy σ s) : TidyNext σ (execPostedTimeout i pseq s) := by
  unfold Machine.execPostedTimeout
  refine (hs.begin.whenRunning fun hu => ?_).next
  split
  · exact hu
  · exact hu.elapse.postedFails

/-! ### Machine/Tasks.lean -/

theorem Tidy.setFloret {f x} (hs : Tidy σ s) : Tidy σ (s.setFloret f x) := { hs with florets := hs.florets.write }
theorem Tidy.setItem {x} (hs : Tidy σ s) : Tidy σ (s.setItem x) := hs.put (by exact rfl)
theorem Tidy.setTasks {c l} (hs : Tidy σ s) : Tidy σ (s.setTasks c l) := hs.put (by exact rfl)
theorem Tidy.countUnit {l st} (hs : Tidy σ s) : Tidy σ (s.countUnit l st) := hs.bump.ite hs.bump.bump

theorem Tidy.releaseStaged {id o} (hs : Tidy σ s) : Tidy σ (s.releaseStaged id o) := by
  unfold State.releaseStaged
  split
  · exact hs
  · exact hs.setItem.issueOp

theorem Tidy.releaseTask {id t} (hs : Tidy σ s) : Tidy σ (s.releaseTask id t) := (hs.put (by exact rfl)).foldl .releaseStaged

theorem Tidy.commitN {n id} (hs : Tidy σ s) : Tidy σ (State.commitN n s id) := by
  induction n generalizing s with
  | zero => exact hs
  | succ n ih =>
    unfold State.commitN
    split
    · exact hs
    · exact (ih (hs.setItem.releaseTask.ite hs.setItem)).ite hs

theorem Tidy.endItem {id} (hs : Tidy σ s) : Tidy σ (s.endItem id) := by
  unfold State.endItem
  split
  · exact hs
  · exact (hs.put (by exact rfl)).finishItem.countUnit.ite hs

theorem Tidy.settleItem {id} (hs : Tidy σ s) : Tidy σ (s.settleItem id) := by
  unfold State.settleItem
  split
  · exact hs
  · exact hs.commitN.endItem

theorem Tidy.endTask {f id t} (hs : Tidy σ s) : Tidy σ (s.endTask f id t) := by
  unfold State.endTask
  dsimp only
  split
  · exact hs.setFloret.bump
  · exact hs.setFloret.bump.setItem.settleItem

theorem Tidy.faultTask {f id t code slot} (hs : Tidy σ s) : Tidy σ (s.faultTask f id t code slot) := by
  unfold State.faultTask
  dsimp only
  split
  · exact hs.setFloret
  · exact (hs.setFloret.put (by exact rfl)).settleItem

theorem Tidy.returnTask {f id t} (hs : Tidy σ s) : Tidy σ (s.returnTask f id t) := by
  unfold State.returnTask
  split
  · exact hs
  · refine hs.faultTask.ite ?_
    extract_lets +onlyGivenNames _ _ _ s2
    have hs2 : Tidy σ s2 := hs.setFloret.put (by exact rfl)
    split
    · exact hs2
    · exact hs2.setTasks

theorem Tidy.runTask {q k bs} (hs : Tidy σ s) : Tidy σ (s.runTask q k bs) := by
  unfold State.runTask
  refine hs.ite ?_
  split
  · exact hs.finishItem
  · refine hs.finishItem.ite ?_
    split
    · exact hs.finishItem
    · exact hs.put (by exact rfl)

theorem Tidy.execRunTask {q item o} (hs : Tidy σ s) : TidyNext σ (execRunTask q item o s) :=
  (hs.begin.whenRunning .runTask).next

theorem Tidy.groupTake {l} (hs : Tidy σ s) : Tidy σ (s.groupTake l) := by
  unfold State.groupTake
  split
  · exact hs
  · refine hs.ite ?_
    split
    · exact hs
    · split
      · exact hs.ite hs.setItem
      · exact hs.ite hs.setItem
      · exact hs.ite hs.setItem.setTasks
      · exact hs.ite hs.setItem
      · exact hs

theorem Tidy.execGroupQueueTake {child} (hs : Tidy σ s) : TidyNext σ (execGroupQueueTake child s) := by
  unfold Machine.execGroupQueueTake
  refine (hs.begin.whenRunning fun hu => ?_).next
  split
  · exact hu.groupTake
  · exact hu

theorem Tidy.execTaskSplit {item} (hs : Tidy σ s) : TidyNext σ (execTaskSplit item s) := by
  unfold Machine.execTaskSplit
  refine (hs.begin.whenRunning fun hu => ?_).next
  split
  · exact hu
  · split
    · exact hu.ite (hu.setItem.foldl .setTasks)
    · exact hu

theorem Tidy.startTask {f id t} (hs : Tidy σ s) : Tidy σ (s.startTask f id t) := by
  unfold State.startTask
  split
  · exact hs
  · exact hs.setItem.setFloret

theorem Tidy.takeFrom {c f id t} (hs : Tidy σ s) : Tidy σ (s.takeFrom c f id t) := hs.setTasks.startTask

theorem Tidy.steal {f v} (hs : Tidy σ s) : Tidy σ (s.steal f v) := by
  unfold State.steal
  dsimp only
  split
  · exact hs
  · exact hs.setTasks.setTasks.bumpN.bumpN.takeFrom

theorem Tidy.taskTake {f} (hs : Tidy σ s) : Tidy σ (s.taskTake f) := by
  unfold State.taskTake
  refine hs.ite ?_
  split
  · exact hs.startTask
  · refine .ite ?_ ?_
    · split
      · exact hs.takeFrom
      · exact hs
    · split
      · exact hs.takeFrom
      · refine hs.ite ?_
        split
        · exact hs.steal
        · exact hs

theorem Tidy.execTaskTake {floret} (hs : Tidy σ s) : TidyNext σ (execTaskTake floret s) :=
  (hs.begin.whenRunning .taskTake).next
theorem Tidy.execItemComplete {q} (hs : Tidy σ s) : TidyNext σ (execItemComplete q s) :=
  (hs.begin.whenRunning fun hu => (hu.foldl .endItem).writeNext).next

/-! ### Machine/FloretCore.lean -/

theorem Tidy.setRegs {f names g} (hs : Tidy σ s) : TidyOk σ (s.setRegs f names g) := .ite .error hs.setFloret.ok
theorem Tidy.putScalar {f n v} (hs : Tidy σ s) : TidyOk σ (s.putScalar f n v) := hs.ok.ite hs.setRegs
theorem Tidy.putVector {f n v} (hs : Tidy σ s) : TidyOk σ (s.putVector f n v) := hs.setRegs
theorem Tidy.putMask {f n v} (hs : Tidy σ s) : TidyOk σ (s.putMask f n v) := .ite .error hs.setRegs
theorem Tidy.putTiles {f ts} (hs : Tidy σ s) : TidyOk σ (s.putTiles f ts) := hs.setRegs

theorem Tidy.raiseFlags {f fl conversion} (hs : Tidy σ s) : Tidy σ (s.raiseFlags f fl conversion) := by
  unfold State.raiseFlags
  extract_lets +onlyGivenNames _ _ _ _ s2
  have hs2 : Tidy σ s2 := hs.setFloret.bump.ite hs.setFloret
  exact hs2.bump.ite hs2

theorem Tidy.localWrite {f a align bs} (hs : Tidy σ s) : TidyOk σ (s.localWrite f a align bs) := by
  unfold State.localWrite
  split
  · exact .error
  · exact hs.sramWrite.ok

theorem Tidy.floretFault {f code slot} (hs : Tidy σ s) : Tidy σ (s.floretFault f code slot) := by
  unfold State.floretFault
  extract_lets +onlyGivenNames _ s1 _
  have hs1 : Tidy σ s1 := hs.setNum.setNum.setNum
  split
  · exact hs1
  · exact hs1.faultTask.countUnit
  · extract_lets +onlyGivenNames _ _ _ s3
    have hs3 : Tidy σ s3 := hs1.setFloret.setUnit.countUnit.fault
    exact hs3.ite (hs3.put (by exact rfl)).issueHalt

theorem Tidy.floretEnd {f} (hs : Tidy σ s) : Tidy σ (s.floretEnd f) := by
  unfold State.floretEnd
  refine hs.setFloret.ite ?_
  split
  · exact hs
  · exact hs.endTask.countUnit
  · exact hs.setFloret.countUnit

theorem Tidy.stallOn {f w} (hs : Tidy σ s) : Tidy σ (s.stallOn f w) := hs.setFloret
theorem Tidy.newBundle {f} (hs : Tidy σ s) : Tidy σ (s.newBundle f) := by
  unfold State.newBundle; exact hs.setFloret.bump

theorem Tidy.issueSlot {eff : State → FloretRegs → Except Nat State} {i k} (hs : Tidy σ s)
    (heff : ∀ {t a0}, Tidy σ t → TidyOk σ (eff t a0)) :
    TidyNext σ (s.issueSlot i k eff) := by
  unfold State.issueSlot
  refine (hs.begin.whenRunning fun hu => ?_).next
  refine hu.ite ?_
  extract_lets +onlyGivenNames t1
  have ht1 : Tidy σ t1 := hu.setFloret.newBundle.ite hu
  refine ht1.floretFault.ite ?_
  split
  · next u e =>
    have hu : Tidy σ u := (heff ht1) _ e
    exact hu
  · exact ht1.floretFault

/-! ### Machine/FloretScalar.lean -/

theorem Tidy.scalarReg {i w code op} (hs : Tidy σ s) : TidyNext σ (s.scalarReg i w code op) :=
  hs.issueSlot fun hu => .ite .error hu.putScalar
theorem Tidy.scalarImm {i w code op} (hs : Tidy σ s) : TidyNext σ (s.scalarImm i w code op) :=
  hs.issueSlot fun hu => .ite .error hu.putScalar

theorem Tidy.scalarLoad {i w code n} (hs : Tidy σ s) : TidyNext σ (s.scalarLoad i w code n) := by
  unfold State.scalarLoad
  refine hs.issueSlot fun hu => .ite .error ?_
  split
  · exact .error
  · exact hu.putScalar

theorem Tidy.scalarStore {i w code n} (hs : Tidy σ s) : TidyNext σ (s.scalarStore i w code n) :=
  hs.issueSlot fun hu => .ite .error hu.localWrite
theorem Tidy.scalarRead {i w code val} (hs : Tidy σ s) : TidyNext σ (s.scalarRead i w code val) :=
  hs.issueSlot fun hu => .ite .error hu.putScalar
theorem Tidy.execSAdd {i w} (hs : Tidy σ s) : TidyNext σ (execSAdd i w s) := hs.scalarReg
theorem Tidy.execSSub {i w} (hs : Tidy σ s) : TidyNext σ (execSSub i w s) := hs.scalarReg
theorem Tidy.execSMul {i w} (hs : Tidy σ s) : TidyNext σ (execSMul i w s) := hs.scalarReg
theorem Tidy.execSAnd {i w} (hs : Tidy σ s) : TidyNext σ (execSAnd i w s) := hs.scalarReg
theorem Tidy.execSOr {i w} (hs : Tidy σ s) : TidyNext σ (execSOr i w s) := hs.scalarReg
theorem Tidy.execSXor {i w} (hs : Tidy σ s) : TidyNext σ (execSXor i w s) := hs.scalarReg
theorem Tidy.execShl {i w} (hs : Tidy σ s) : TidyNext σ (execShl i w s) := hs.scalarReg
theorem Tidy.execShr {i w} (hs : Tidy σ s) : TidyNext σ (execShr i w s) := hs.scalarReg
theorem Tidy.execSar {i w} (hs : Tidy σ s) : TidyNext σ (execSar i w s) := hs.scalarReg
theorem Tidy.execSlt {i w} (hs : Tidy σ s) : TidyNext σ (execSlt i w s) := hs.scalarReg
theorem Tidy.execSltu {i w} (hs : Tidy σ s) : TidyNext σ (execSltu i w s) := hs.scalarReg
theorem Tidy.execAddi {i w} (hs : Tidy σ s) : TidyNext σ (execAddi i w s) := hs.scalarImm
theorem Tidy.execAddhi {i w} (hs : Tidy σ s) : TidyNext σ (execAddhi i w s) := hs.scalarImm
theorem Tidy.execShli {i w} (hs : Tidy σ s) : TidyNext σ (execShli i w s) := hs.scalarImm
theorem Tidy.execLd64 {i w} (hs : Tidy σ s) : TidyNext σ (execLd64 i w s) := hs.scalarLoad
theorem Tidy.execSt64 {i w} (hs : Tidy σ s) : TidyNext σ (execSt64 i w s) := hs.scalarStore
theorem Tidy.execLd32 {i w} (hs : Tidy σ s) : TidyNext σ (execLd32 i w s) := hs.scalarLoad
theorem Tidy.execSt32 {i w} (hs : Tidy σ s) : TidyNext σ (execSt32 i w s) := hs.scalarStore
theorem Tidy.execRdstat {i w} (hs : Tidy σ s) : TidyNext σ (execRdstat i w s) := hs.scalarRead
theorem Tidy.execRdres {i w} (hs : Tidy σ s) : TidyNext σ (execRdres i w s) := hs.scalarRead
theorem Tidy.execRdflags {i w} (hs : Tidy σ s) : TidyNext σ (execRdflags i w s) := hs.scalarRead
theorem Tidy.execClrflags {i w} (hs : Tidy σ s) : TidyNext σ (execClrflags i w s) :=
  hs.issueSlot fun hu => .ite .error hu.setFloret.ok
theorem Tidy.execRdtick {i w} (hs : Tidy σ s) : TidyNext σ (execRdtick i w s) := hs.scalarRead
theorem Tidy.control {eff : State → FloretRegs → Except Nat State} {i w code} (hs : Tidy σ s)
    (heff : ∀ {t a0}, Tidy σ t → TidyOk σ (eff t a0)) :
    TidyNext σ (s.control i w code eff) :=
  hs.issueSlot fun hu => .ite .error (heff hu)
theorem Tidy.branch {f w taken} (hs : Tidy σ s) : Tidy σ (s.branch f w taken) := hs.setFloret.ite hs
theorem Tidy.execBr {i w} (hs : Tidy σ s) : TidyNext σ (execBr i w s) := hs.control fun hu => hu.branch.ok
theorem Tidy.execBz {i w} (hs : Tidy σ s) : TidyNext σ (execBz i w s) := hs.control fun hu => hu.branch.ok
theorem Tidy.execBnz {i w} (hs : Tidy σ s) : TidyNext σ (execBnz i w s) := hs.control fun hu => hu.branch.ok
theorem Tidy.execWaitop {i w} (hs : Tidy σ s) : TidyNext σ (execWaitop i w s) := hs.control fun hu => hu.stallOn.ok
theorem Tidy.execWaitall {i w} (hs : Tidy σ s) : TidyNext σ (execWaitall i w s) := hs.control fun hu => hu.stallOn.ok
theorem Tidy.setBarrier {k b} (hs : Tidy σ s) : Tidy σ (s.setBarrier k b) := hs.put (by exact rfl)
theorem Tidy.reachBarrier {f n mask} (hs : Tidy σ s) : TidyOk σ (s.reachBarrier f n mask) :=
  .ite .error ((hs.setBarrier.foldl fun hu => hu.setFloret.ite hu).ok.ite hs.setBarrier.stallOn.ok)
theorem Tidy.execBarrier {i w} (hs : Tidy σ s) : TidyNext σ (execBarrier i w s) :=
  hs.control fun hu => .ite .error hu.reachBarrier
theorem Tidy.execTickwait {i w} (hs : Tidy σ s) : TidyNext σ (execTickwait i w s) :=
  hs.control fun hu => .ite .error hu.stallOn.ok
theorem Tidy.execSetstream {i w} (hs : Tidy σ s) : TidyNext σ (execSetstream i w s) :=
  hs.control fun hu => hu.setFloret.ok
theorem Tidy.execTrap {i w} (hs : Tidy σ s) : TidyNext σ (execTrap i w s) := hs.control fun _ => .error
theorem Tidy.execDrain {floret} (hs : Tidy σ s) : TidyNext σ (execDrain floret s) :=
  (hs.begin.whenRunning fun hu => hu.ite hu.stallOn).next
theorem Tidy.execTaskEnd {floret} (hs : Tidy σ s) : TidyNext σ (execTaskEnd floret s) :=
  (hs.begin.whenRunning fun hu => hu.ite hu.floretEnd).next

/-! ### Machine/FloretVector.lean -/

theorem Tidy.vector1 {eff : State → FloretRegs → VSlot → Except Nat State} {i w code} (hs : Tidy σ s)
    (heff : ∀ {t a0 a1}, Tidy σ t → TidyOk σ (eff t a0 a1)) :
    TidyNext σ (s.vector1 i w code eff) :=
  hs.issueSlot fun hu => .ite .error (heff hu)
theorem Tidy.vecLanes {i w code op} (hs : Tidy σ s) : TidyNext σ (s.vecLanes i w code op) := hs.vector1 .putVector
theorem Tidy.execVadd {i w} (hs : Tidy σ s) : TidyNext σ (execVadd i w s) := hs.vecLanes
theorem Tidy.execVsub {i w} (hs : Tidy σ s) : TidyNext σ (execVsub i w s) := hs.vecLanes
theorem Tidy.execVmul {i w} (hs : Tidy σ s) : TidyNext σ (execVmul i w s) := hs.vecLanes
theorem Tidy.execVfma {i w} (hs : Tidy σ s) : TidyNext σ (execVfma i w s) := hs.vecLanes
theorem Tidy.execVmax {i w} (hs : Tidy σ s) : TidyNext σ (execVmax i w s) := hs.vecLanes
theorem Tidy.execVmin {i w} (hs : Tidy σ s) : TidyNext σ (execVmin i w s) := hs.vecLanes
theorem Tidy.execVexp2 {i w} (hs : Tidy σ s) : TidyNext σ (execVexp2 i w s) := hs.vecLanes
theorem Tidy.execVrcp {i w} (hs : Tidy σ s) : TidyNext σ (execVrcp i w s) := hs.vecLanes
theorem Tidy.execVrsqrt {i w} (hs : Tidy σ s) : TidyNext σ (execVrsqrt i w s) := hs.vecLanes
theorem Tidy.execViadd {i w} (hs : Tidy σ s) : TidyNext σ (execViadd i w s) := hs.vecLanes
theorem Tidy.execVand {i w} (hs : Tidy σ s) : TidyNext σ (execVand i w s) := hs.vecLanes
theorem Tidy.execVor {i w} (hs : Tidy σ s) : TidyNext σ (execVor i w s) := hs.vecLanes
theorem Tidy.execVxor {i w} (hs : Tidy σ s) : TidyNext σ (execVxor i w s) := hs.vecLanes
theorem Tidy.execVlog2 {i w} (hs : Tidy σ s) : TidyNext σ (execVlog2 i w s) :=
  hs.vector1 fun hu => hu.putVector.map fun hv => hv.raiseFlags.ite hv
theorem Tidy.vecReduce {i w code off op} (hs : Tidy σ s) : TidyNext σ (s.vecReduce i w code off op) := hs.vector1 .putVector
theorem Tidy.execVredsum {i w} (hs : Tidy σ s) : TidyNext σ (execVredsum i w s) := hs.vecReduce
theorem Tidy.execVredmax {i w} (hs : Tidy σ s) : TidyNext σ (execVredmax i w s) := hs.vecReduce
theorem Tidy.execVcmp {i w} (hs : Tidy σ s) : TidyNext σ (execVcmp i w s) := hs.vector1 .putMask
theorem Tidy.execVsel {i w} (hs : Tidy σ s) : TidyNext σ (execVsel i w s) := hs.vector1 .putVector
theorem Tidy.execVcvt {i w} (hs : Tidy σ s) : TidyNext σ (execVcvt i w s) :=
  hs.vector1 fun hu => .ite .error (hu.putVector.ite (.ite .error
    (hu.putVector.map fun hv => hv.raiseFlags.setFloret.ite hv.raiseFlags)))

theorem Tidy.execVld {i w} (hs : Tidy σ s) : TidyNext σ (execVld i w s) := by
  unfold Machine.execVld
  refine hs.vector1 fun hu => ?_
  split
  · exact .error
  · exact hu.putVector

theorem Tidy.execVst {i w} (hs : Tidy σ s) : TidyNext σ (execVst i w s) := hs.vector1 fun hu => .ite .error hu.localWrite
theorem Tidy.execVstscale {i w} (hs : Tidy σ s) : TidyNext σ (execVstscale i w s) :=
  hs.vector1 fun hu => .ite .error hu.localWrite
theorem Tidy.execVbcast {i w} (hs : Tidy σ s) : TidyNext σ (execVbcast i w s) := hs.vector1 .putVector

/-! ### Machine/FloretMatrix.lean -/

theorem Tidy.matrix {eff : State → FloretRegs → MSlot → Except Nat State} {i w code} (hs : Tidy σ s)
    (heff : ∀ {t a0 a1}, Tidy σ t → TidyOk σ (eff t a0 a1)) :
    TidyNext σ (s.matrix i w code eff) :=
  hs.issueSlot fun hu => .ite .error (.ite .error (heff hu))

theorem Tidy.execMma {i w} (hs : Tidy σ s) : TidyNext σ (execMma i w s) := by
  refine hs.matrix fun hu => .ite .error (.ite .error (.ite .error ?_))
  split
  · exact .error
  · exact hu.putTiles.map .raiseFlags

theorem Tidy.execTileRead {i w} (hs : Tidy σ s) : TidyNext σ (execTileRead i w s) :=
  hs.matrix fun hu => .ite .error hu.putVector
theorem Tidy.execTileWrite {i w} (hs : Tidy σ s) : TidyNext σ (execTileWrite i w s) := hs.matrix .putTiles
theorem Tidy.execTileZero {i w} (hs : Tidy σ s) : TidyNext σ (execTileZero i w s) := hs.matrix .putTiles

/-! ### Machine/FloretRemote.lean -/

theorem Tidy.setTag {f n g} (hs : Tidy σ s) : Tidy σ (s.setTag f n g) := by
  unfold State.setTag; exact hs.setFloret
theorem Tidy.tagDone {f n r} (hs : Tidy σ s) : Tidy σ (s.tagDone f n r) :=
  hs.setTag.countUnit.floretEnd.ite hs.setTag.countUnit
theorem Tidy.floretIssue {f tag o} (hs : Tidy σ s) : Tidy σ (s.floretIssue f tag o) := hs.issueOp.ite hs.setTag.issueOp

theorem Tidy.commitIssue {f tag id t o} (hs : Tidy σ s) : Tidy σ (s.commitIssue f tag id t o) := by
  unfold State.commitIssue
  split
  · exact hs
  · exact (hs.setItem.ite hs.setItem.setTag).issueOp.ite (hs.stallOn.ite ((hs.put (by exact rfl)).ite (hs.put (by exact rfl)).tagDone))

theorem Tidy.xIssue {f commit tag o fence} (hs : Tidy σ s) : Tidy σ (s.xIssue f commit tag o fence) := by
  unfold State.xIssue
  split
  · exact hs.stallOn
  · dsimp only
    split
    · exact (hs.put (by exact rfl)).commitIssue
    · exact (hs.put (by exact rfl)).floretIssue

theorem Tidy.execXRemoteIssue {i w} (hs : Tidy σ s) : TidyNext σ (execXRemoteIssue i w s) := by
  refine hs.issueSlot fun {t r} hu => .ite .error (.ite .error ?_)
  split
  · exact .error
  · cases t.xOperation i.floret r (xSlot w) with
    | error => exact .error
    | ok => exact hu.xIssue.ok

theorem Tidy.execDesc {i w} (hs : Tidy σ s) : TidyNext σ (execDesc i w s) := by
  unfold Machine.execDesc
  refine hs.issueSlot fun hu => .ite .error (.ite .error ?_)
  split
  · exact .error
  · refine .ite .error ?_
    dsimp only
    split
    · exact hu.stallOn.ok
    · split
      · exact hu.tagDone.ok
      · split
        · exact hu.tagDone.ok
        · exact hu.fetchUsed.floretIssue.ok

theorem Tidy.settleResponse {i id r} (hs : Tidy σ s) : Tidy σ (s.settleResponse i id r).2 := by
  unfold State.settleResponse
  split
  · exact hs
  · exact hs.writeLocal.closeOp.wake

theorem Tidy.floretResponseIn {i id epoch defer r0} (hs : Tidy σ s) : Tidy σ (s.floretResponseIn i id epoch defer r0) := by
  unfold State.floretResponseIn
  refine hs.bump.ite ?_
  extract_lets +onlyGivenNames _ _ _
  split
  · exact hs.settleResponse.finishItem.ite ((hs.closeOp.wake.ite hs.postedFails).ite hs)
  · exact hs.settleResponse.tagDone.ite ((hs.closeOp.wake.ite hs.postedFails).ite hs)
  · extract_lets +onlyGivenNames _ s1
    have hs1 : Tidy σ s1 := (hs.closeOp.wake.ite hs.postedFails).ite hs.settleResponse
    split
    · exact hs1
    · extract_lets +onlyGivenNames _ s3
      have hs3 : Tidy σ s3 := by
        unfold s3
        split
        · exact hs1.setItem.tagDone
        · exact hs1.setItem
      exact hs3.settleItem
  · refine (hs.closeOp.wake.ite hs.postedFails).ite ?_
    split
    · exact hs
    · exact hs.closeOp.wake.emit

theorem Tidy.execResponseReceive {i id epoch defer r} (hs : Tidy σ s) :
    TidyNext σ (execResponseReceive i id epoch defer r s) :=
  (hs.begin.whenRunning .floretResponseIn).next

/-! ### Machine/Coherence.lean -/

theorem Tidy.setWindow {w x} (hs : Tidy σ s) : Tidy σ (s.setWindow w x) := { hs with windows := hs.windows.write }
theorem Tidy.setAgent {a x} (hs : Tidy σ s) : Tidy σ (s.setAgent a x) := { hs with agents := hs.agents.write }
theorem Tidy.setEntry {k e} (hs : Tidy σ s) : Tidy σ (s.setEntry k e) := { hs with entries := hs.entries.write }

theorem Tidy.lineUsed {line off len} (hs : Tidy σ s) : Tidy σ (s.lineUsed line off len) := by
  unfold State.lineUsed
  split
  · exact hs
  · exact hs.used

theorem Tidy.lineWrite {line off bs} (hs : Tidy σ s) : Tidy σ (s.lineWrite line off bs).2 := by
  unfold State.lineWrite
  split
  · exact hs
  · exact hs.ckptKeep.poolWrite.touchRange

theorem Tidy.poisonLine {line} (hs : Tidy σ s) : Tidy σ (s.poisonLine line) := by
  unfold State.poisonLine
  split
  · exact hs
  · exact (hs.setPoison.setPoison.bump.put (by exact rfl)).bumpN

theorem Tidy.writeHalves {r l} (hs : Tidy σ s) : Tidy σ (s.writeHalves r l) := hs.foldl fun hu => hu.lineWrite.ite hu
theorem Tidy.keepGot {r off len} (hs : Tidy σ s) : Tidy σ (s.keepGot r off len) := hs.writeHalves
theorem Tidy.writeGot {r} (hs : Tidy σ s) : Tidy σ (s.writeGot r) := hs.writeHalves
theorem Tidy.discardSpec {line} (hs : Tidy σ s) : Tidy σ (s.discardSpec line) := (hs.put (by exact rfl)).bumpN

theorem Tidy.readOrSpec {r off len} (hs : Tidy σ s) : Tidy σ (s.readOrSpec r off len).2 := by
  unfold State.readOrSpec
  split
  · exact (hs.put (by exact rfl)).bump
  · exact hs.lineUsed

theorem Tidy.setLineReq {r} (hs : Tidy σ s) : Tidy σ (s.setLineReq r) := hs.put (by exact rfl)
theorem Tidy.dropLineReq {id} (hs : Tidy σ s) : Tidy σ (s.dropLineReq id) := hs.put (by exact rfl)
theorem Tidy.endLineReq {r a} (hs : Tidy σ s) : Tidy σ (s.endLineReq r a) := hs.dropLineReq.respond
theorem Tidy.grant {r a k e grantState data} (hs : Tidy σ s) : Tidy σ (s.grant r a k e grantState data) :=
  ((hs.setEntry.discardSpec.ite hs.setEntry).put (by exact rfl)).endLineReq

theorem Tidy.lineDone {r st got result} (hs : Tidy σ s) : Tidy σ (s.lineDone r st got result) := by
  unfold State.lineDone
  dsimp only
  split
  · exact hs.dropLineReq
  · exact (hs.put (by exact rfl)).ite (hs.put (by exact rfl)).endAccess

theorem Tidy.applyLine {r} (hs : Tidy σ s) : Tidy σ (s.applyLine r).2.2 := by
  unfold State.applyLine
  refine .ite_snd_snd ?_ hs.lineWrite
  refine hs.ite_snd_snd ?_
  dsimp only
  split
  · exact hs
  · exact hs.lineUsed.lineWrite

theorem Tidy.grantWith {r a k e g bad} (hs : Tidy σ s) (hbad : Tidy σ bad) : Tidy σ (s.grantWith r a k e g bad) := by
  unfold State.grantWith
  dsimp only
  split
  · exact hbad.endLineReq
  · exact hs.readOrSpec.keepGot.grant

theorem Tidy.finishRdS {r a at_ mask} (hs : Tidy σ s) : Tidy σ (s.finishRdS r a at_ mask) := by
  unfold State.finishRdS
  split
  · split
    · exact hs.setLineReq
    · exact hs.grantWith hs
  · dsimp only
    split
    · exact hs.grantWith hs
    · refine (hs.grantWith hs).ite ((hs.grantWith hs.setEntry).ite ?_)
      refine (hs.writeGot.grantWith hs.writeGot).ite ?_
      split
      · exact hs.setEntry.endLineReq
      · exact hs.lineUsed.grant
    · split
      · exact hs.endLineReq
      · exact hs.lineUsed.grant

theorem Tidy.finishRdX {r a at_ mask} (hs : Tidy σ s) : Tidy σ (s.finishRdX r a at_ mask) := by
  unfold State.finishRdX
  split
  · split
    · exact hs.setLineReq
    · exact hs.grantWith hs
  · exact (hs.grantWith hs).ite (hs.grantWith hs.setEntry)

theorem Tidy.finishWb {r a at_} (hs : Tidy σ s) : Tidy σ (s.finishWb r a at_) := by
  unfold State.finishWb
  dsimp only
  split
  · exact hs.bump.endLineReq
  · exact hs.discardSpec.lineWrite.setEntry.endLineReq.ite hs.bump.endLineReq

theorem Tidy.finishLine {r} (hs : Tidy σ s) : Tidy σ (s.finishLine r) := by
  unfold State.finishLine
  extract_lets +onlyGivenNames at_ _ free
  clear_value at_
  have hfree {t : State} (ht : Tidy σ t) : Tidy σ (free t) := by
    unfold free
    split
    · exact ht.setEntry
    · exact ht
  split
  · exact (hfree hs.writeGot).dropLineReq.bump
  · exact (hfree hs.writeGot).dropLineReq.bump.ite (hfree hs.writeGot).dropLineReq
  · dsimp only
    split
    · exact hs.readOrSpec.lineDone
    · exact hs.lineDone
  · exact (hfree hs.writeGot).discardSpec.applyLine.lineDone
  · exact (hfree hs.writeGot).discardSpec.applyLine.lineDone
  · split
    · exact hs.endLineReq
    · refine hs.endLineReq.ite ?_
      split
      · exact hs.finishRdS
      · split
        · exact hs.grant.ite hs.finishRdX
        · exact hs.finishRdX
      · exact hs.finishWb
      · split
        · exact (hs.setEntry.ite hs).endLineReq
        · exact hs.endLineReq
      · exact hs.finishRdX

theorem Tidy.sendSnoops {r e plan} (hs : Tidy σ s) : Tidy σ (s.sendSnoops r e plan) := (hs.setLineReq.foldl .emit).bumpN
theorem Tidy.waitHold {r} (hs : Tidy σ s) : Tidy σ (s.waitHold r) :=
  hs.ite (hs.setLineReq.ite hs.setLineReq.bump.countDeferral)
theorem Tidy.actOn {r e} (hs : Tidy σ s) : Tidy σ (s.actOn r e) := hs.waitHold.ite (hs.finishLine.ite hs.sendSnoops)

theorem Tidy.makeRoom {r mask} (hs : Tidy σ s) : Tidy σ (s.makeRoom r mask) := by
  unfold State.makeRoom
  split
  · exact hs.finishLine
  · refine hs.ite ?_
    dsimp only
    split
    · exact (hs.put (by exact rfl)).actOn
    · exact hs.setLineReq.countDeferral

theorem Tidy.tryLine {r} (hs : Tidy σ s) : Tidy σ (s.tryLine r) := by
  unfold State.tryLine
  refine hs.setLineReq.ite ?_
  split
  · exact hs.actOn
  · exact hs.makeRoom.ite hs.finishLine

theorem Tidy.enterLine {r} (hs : Tidy σ s) : Tidy σ (s.enterLine r) :=
  (hs.put (by exact rfl)).countDeferral.ite (hs.put (by exact rfl)).tryLine

theorem Tidy.cohAccess {o} (hs : Tidy σ s) : Tidy σ (s.cohAccess o) := by
  unfold State.cohAccess
  dsimp only
  split
  · exact hs.respond
  · exact hs.respond.ite (hs.endAccess.ite ((hs.openOp.put (by exact rfl)).foldl .enterLine))

theorem Tidy.cachingOp {go : State → Nat → LineReq → State} {o op} (hs : Tidy σ s)
    (hgo : ∀ {t a0 a1}, Tidy σ t → Tidy σ (go t a0 a1)) :
    Tidy σ (s.cachingOp o op go) := by
  unfold State.cachingOp
  dsimp only
  split
  · exact hs.respond
  · refine hs.respond.ite (hs.respond.ite ?_)
    refine hs.respond.ite (hs.respond.ite ?_)
    split
    · exact hs.respond
    · exact hs.respond.ite (hgo hs)

theorem Tidy.cachingEnter {o op} (hs : Tidy σ s) : Tidy σ (s.cachingEnter o op) :=
  hs.cachingOp fun hu => hu.openOp.enterLine
theorem Tidy.execRdS {o} (hs : Tidy σ s) : TidyNext σ (execRdS o s) := (hs.unitOp .cachingEnter).next
theorem Tidy.execRdX {o} (hs : Tidy σ s) : TidyNext σ (execRdX o s) := (hs.unitOp .cachingEnter).next
theorem Tidy.execUpg {o} (hs : Tidy σ s) : TidyNext σ (execUpg o s) := (hs.unitOp .cachingEnter).next
theorem Tidy.execWb {o} (hs : Tidy σ s) : TidyNext σ (execWb o s) := (hs.unitOp .cachingEnter).next
theorem Tidy.execDrop {o} (hs : Tidy σ s) : TidyNext σ (execDrop o s) := (hs.unitOp .cachingEnter).next
theorem Tidy.execRdSpec {o} (hs : Tidy σ s) : TidyNext σ (execRdSpec o s) :=
  (hs.unitOp fun hu => hu.cachingOp fun hu => hu.bump.respond.ite (hu.respond.ite (hu.lineUsed.put (by exact rfl)).respond)).next

theorem Tidy.execSnoopResponse {agent line half data} (hs : Tidy σ s) :
    TidyNext σ (execSnoopResponse agent line half data s) := by
  unfold Machine.execSnoopResponse
  refine (hs.begin.whenRunning fun hu => ?_).next
  split
  · exact hu
  · exact (hu.discardSpec.ite hu).setLineReq.finishLine.ite (hu.discardSpec.ite hu).setLineReq

theorem Tidy.execDirectoryRequestResume {id} (hs : Tidy σ s) : TidyNext σ (execDirectoryRequestResume id s) := by
  unfold Machine.execDirectoryRequestResume
  refine (hs.begin.whenRunning fun hu => ?_).next
  split
  · exact hu
  · split
    · exact hu
    · exact (hu.lineDone.ite hu.endLineReq).ite (hu.ite hu.setLineReq.tryLine)
    · exact hu.tryLine

theorem Tidy.execHoldExpiry {line} (hs : Tidy σ s) : TidyNext σ (execHoldExpiry line s) := by
  unfold Machine.execHoldExpiry
  refine (hs.begin.whenRunning fun hu => ?_).next
  split
  · exact hu
  · exact hu.elapse.foldl .tryLine

theorem Tidy.fenceAgent {a report} (hs : Tidy σ s) : Tidy σ (s.fenceAgent a report) := by
  unfold State.fenceAgent
  extract_lets +onlyGivenNames s1 _ _ s3
  have hs1 : Tidy σ s1 := by
    unfold s1
    refine hs.foldl fun hu => ?_
    split
    · exact hu
    · exact hu.poisonLine.setEntry.ite (hu.setEntry.ite hu.setEntry)
  have hs3 : Tidy σ s3 := hs1.setAgent.bump32.foldl fun hu => hu.setLineReq.finishLine.ite hu.setLineReq
  exact hs3.fault.ite hs3

theorem Tidy.execSnoopTimeout {agent line} (hs : Tidy σ s) : TidyNext σ (execSnoopTimeout agent line s) := by
  unfold Machine.execSnoopTimeout
  refine (hs.begin.whenRunning fun hu => ?_).next
  split
  · exact hu
  · exact hu.elapse.fenceAgent

theorem Tidy.execSpecBufferExpiry {line agent} (hs : Tidy σ s) : TidyNext σ (execSpecBufferExpiry line agent s) := by
  unfold Machine.execSpecBufferExpiry
  refine (hs.begin.whenRunning fun hu => ?_).next
  split
  · exact hu
  · exact hu.elapse.put (by exact rfl)

theorem Tidy.execWindowEnable {a w partition} (hs : Tidy σ s) : TidyNext σ (execWindowEnable a w partition s) :=
  (hs.begin.whenRunning fun hu => (hu.setWindow.ite hu).mgmtWrite .setWindow).next
theorem Tidy.windowOff {n} (hs : Tidy σ s) : Tidy σ (s.windowOff n) := hs.ite (hs.setWindow.foldl .enterLine)
theorem Tidy.execWindowDisable {a w} (hs : Tidy σ s) : TidyNext σ (execWindowDisable a w s) :=
  (hs.begin.whenRunning fun hu => hu.mgmtWrite fun hu => hu.windowOff.setWindow).next
theorem Tidy.windowDone {t : State} {w} (hs : Tidy σ t) : Tidy σ (t.windowDone w) := hs.setWindow.ite hs
theorem Tidy.setWays {t m} (hs : Tidy σ s) :
    Tidy σ { s with coh := { s.coh with ways := Store.write 0 s.coh.ways t m } } :=
  { hs with ways := hs.ways.write }
theorem Tidy.execWayMaskWrite {i t v} (hs : Tidy σ s) : TidyNext σ (execWayMaskWrite i t v s) :=
  (hs.begin.whenRunning fun hu => hu.mgmtWrite .setWays).next
theorem Tidy.execAgentRegister {a n kind} (hs : Tidy σ s) : TidyNext σ (execAgentRegister a n kind s) :=
  (hs.begin.whenRunning fun hu => hu.mgmtWrite .setAgent).next
theorem Tidy.execAgentUnregister {a n} (hs : Tidy σ s) : TidyNext σ (execAgentUnregister a n s) :=
  (hs.begin.whenRunning fun hu => hu.mgmtWrite fun hu => (hu.ite hu.fenceAgent).setAgent).next

/-! ### Machine/LinkTx.lean -/

theorem Tidy.setPort {p x} (hs : Tidy σ s) : Tidy σ (s.setPort p x) := { hs with ports := hs.ports.write }
theorem Tidy.portEvent {p st} (hs : Tidy σ s) : Tidy σ (s.portEvent p st) := hs.free.eventOpen
theorem Tidy.countFlit {p} (hs : Tidy σ s) : Tidy σ (s.countFlit p) := hs.ite (hs.setCrypt.ite hs.setCrypt)
theorem Tidy.txSeq {p f} (hs : Tidy σ s) : Tidy σ (s.txSeq p f) := by
  unfold State.txSeq; exact hs.setPort.emit.countFlit
theorem Tidy.txFree {p m} (hs : Tidy σ s) : Tidy σ (s.txFree p m) := hs.emit.countFlit
theorem Tidy.txAgain {p g} (hs : Tidy σ s) : Tidy σ (s.txAgain p g) := hs.emit.countFlit
theorem Tidy.flushCredits {p} (hs : Tidy σ s) : Tidy σ (s.flushCredits p) :=
  hs.foldl fun hu => hu.ite hu.setPort.txSeq.emit
theorem Tidy.creditBack {p c cells} (hs : Tidy σ s) : Tidy σ (s.creditBack p c cells) := hs.ite hs.setPort.flushCredits
theorem Tidy.txFrame {p vc bytes} (hs : Tidy σ s) : Tidy σ (s.txFrame p vc bytes).2 := (hs.foldl .txSeq)

/-! ### Machine/Switch.lean -/

theorem elapse_sw {t} : (s.elapse t).sw = s.sw := by
  have := keeps_iff.mp (elapse_keeps s t) .sw
  simpa [Part.same, eq_comm] using this

/-- The switch's part may be taken from before the clock moved. -/
theorem Tidy.elapseSw {t sw} (hs : Tidy σ s) (h : ({ s with sw } : State).tables = s.tables) :
    Tidy σ { s.elapse t with sw } := by
  refine (hs.elapse (t := t)).put ?_
  simp only [State.tables, State.mk.injEq] at h ⊢
  simpa [elapse_sw] using h

theorem Tidy.setFrame {n f} (hs : Tidy σ s) : Tidy σ (s.setFrame n f) := { hs with frames := hs.frames.write }

theorem Tidy.keepFrame {f} (hs : Tidy σ s) : Tidy σ (s.keepFrame f) := by
  unfold State.keepFrame
  extract_lets +onlyGivenNames _ _ _ s1
  have hs1 : Tidy σ s1 := { hs with frames := hs.frames.write }
  split
  · exact hs1.creditBack.ite hs1
  · exact hs1

theorem Tidy.refuseFrame {f st reason} (hs : Tidy σ s) : Tidy σ (s.refuseFrame f st reason) :=
  ((hs.put (by exact rfl)).ite hs).respond.ite hs

theorem Tidy.dropArrival {f} (hs : Tidy σ s) : Tidy σ (s.dropArrival f) := by
  unfold State.dropArrival
  split
  · exact hs.creditBack
  · exact hs

theorem Tidy.refuseArrival {f st reason} (hs : Tidy σ s) : Tidy σ (s.refuseArrival f st reason) :=
  hs.refuseFrame.dropArrival
theorem Tidy.admitFrame {f0} (hs : Tidy σ s) : Tidy σ (s.admitFrame f0) := (hs.put (by exact rfl)).ite hs.keepFrame
theorem Tidy.admitStatic {f slot} (hs : Tidy σ s) : Tidy σ (s.admitStatic f slot) := hs.dropArrival.ite hs.keepFrame
theorem Tidy.ingressWeir {p f} (hs : Tidy σ s) : Tidy σ (s.ingressWeir p f).2 := hs.ite_snd hs.weirPass

theorem Tidy.requestIn {p f0} (hs : Tidy σ s) : Tidy σ (s.requestIn p f0) := by
  unfold State.requestIn
  dsimp only
  split
  · exact hs.refuseArrival
  · refine .ite ?_ (hs.ingressWeir.refuseArrival.ite hs.ingressWeir.admitFrame)
    split
    · exact hs.refuseArrival
    · exact hs.admitStatic

theorem Tidy.responseIn {p f} (hs : Tidy σ s) : Tidy σ (s.responseIn p f) :=
  hs.bump.dropArrival.ite (hs.setPort.dropArrival.ite (hs.setPort.respond.dropArrival.ite hs.setPort.keepFrame))
theorem Tidy.frameIn {p h payload} (hs : Tidy σ s) : Tidy σ (s.frameIn p h payload) :=
  hs.ite (hs.setPort.meter.requestIn.ite (hs.setPort.meter.responseIn.ite hs.setPort.meter.dropArrival))
theorem Tidy.execFrameReceive {port header payload} (hs : Tidy σ s) : TidyNext σ (execFrameReceive port header payload s) :=
  (hs.begin.whenRunning .frameIn).next

theorem Tidy.quotaAdmit {t} (hs : Tidy σ s) : Tidy σ (s.quotaAdmit t) := by
  unfold State.quotaAdmit
  split
  · exact hs
  · exact hs.ite ((hs.put (by exact rfl)).bump.keepFrame.ite (hs.put (by exact rfl)).bump.countDeferral.keepFrame)

theorem Tidy.execQuotaAdmit {tenant} (hs : Tidy σ s) : TidyNext σ (execQuotaAdmit tenant s) :=
  (hs.begin.whenRunning .quotaAdmit).next

theorem Tidy.execQuotaWaitExpiry {tenant} (hs : Tidy σ s) : TidyNext σ (execQuotaWaitExpiry tenant s) := by
  unfold Machine.execQuotaWaitExpiry
  refine (hs.begin.whenRunning fun hu => ?_).next
  split
  · exact hu
  · exact (hu.elapseSw (by exact rfl)).bump.refuseArrival

theorem Tidy.injectFrame {i f} (hs : Tidy σ s) : Tidy σ (s.injectFrame i f) := by
  unfold State.injectFrame
  refine hs.ite (.ite ?_ (hs.ite (hs.arbDrop.keepFrame.ite hs.arbDrop.admitFrame)))
  split
  · exact hs
  · exact hs.admitStatic

theorem Tidy.execInjectionFrame {hub header payload} (hs : Tidy σ s) :
    TidyNext σ (execInjectionFrame hub header payload s) :=
  (hs.begin.whenRunning .injectFrame).next
theorem Tidy.setGroup {g x} (hs : Tidy σ s) : Tidy σ (s.setGroup g x) := { hs with groups := hs.groups.write }
theorem Tidy.setBucket {k x} (hs : Tidy σ s) : Tidy σ (s.setBucket k x) := { hs with buckets := hs.buckets.write }
theorem Tidy.fillPins {g} (hs : Tidy σ s) : Tidy σ (s.fillPins g) := hs.ite (hs.foldl .setBucket)

theorem Tidy.judgeMember {g p} (hs : Tidy σ s) : Tidy σ (s.judgeMember g p) := by
  unfold State.judgeMember
  dsimp only
  split
  · exact hs.setGroup.fillPins
  · exact hs.ite hs.bump32

theorem Tidy.lgTrained {p} (hs : Tidy σ s) : Tidy σ (s.lgTrained p) := by
  unfold State.lgTrained
  split
  · exact hs.judgeMember
  · exact hs

theorem Tidy.setList {p k l} (hs : Tidy σ s) : Tidy σ (s.setList p k l) := { hs with lists := hs.lists.write }

theorem Tidy.relink {p to_} (hs : Tidy σ s) : Tidy σ (s.relink p to_) := by
  unfold State.relink
  refine hs.foldl fun hu => hu.setList.foldl fun hu => ?_
  split
  · exact hu.ite hu.setList
  · exact hu

theorem Tidy.freeFrame {n} (hs : Tidy σ s) : Tidy σ (s.freeFrame n) := by
  unfold State.freeFrame
  split
  · exact hs
  · refine hs.ite ?_
    dsimp only
    split
    · exact hs.setFrame.creditBack.ite hs.setFrame
    · exact (hs.setFrame.put (by exact rfl)).ite hs.setFrame

theorem Tidy.answerAs {r op a} (hs : Tidy σ s) : Tidy σ (s.answerAs r op a) := by
  unfold State.answerAs
  extract_lets +onlyGivenNames _ s2
  have hs2 : Tidy σ s2 := (hs.countRefusal.ite hs).ite (hs.countRefusal.ite hs).closeOp
  exact (hs2.ite hs2.emit).wake

theorem Tidy.branchAnswer {n b r} (hs : Tidy σ s) : Tidy σ (s.branchAnswer n b r) := by
  unfold State.branchAnswer
  split
  · exact hs
  · exact hs.ite ((hs.put (by exact rfl)).ite (hs.put (by exact rfl)).answerAs)

theorem Tidy.execMulticastBranchAck {frame port r} (hs : Tidy σ s) : TidyNext σ (execMulticastBranchAck frame port r s) :=
  (hs.begin.whenRunning .branchAnswer).next

theorem Tidy.endFrame {f p branch st disp} (hs : Tidy σ s) : Tidy σ (s.endFrame f p branch st disp) := by
  unfold State.endFrame
  dsimp only
  split
  · exact hs.branchAnswer
  · exact hs.ite hs.respond

theorem Tidy.setSent {p l} (hs : Tidy σ s) : Tidy σ { s with sw := { s.sw with sent := Store.write [] s.sw.sent p l } } :=
  { hs with sent := hs.sent.write }
theorem Tidy.endSent {p} (hs : Tidy σ s) : Tidy σ (s.endSent p) := by
  exact hs.setSent.foldl .endFrame

theorem Tidy.endQueued {p ends} (hs : Tidy σ s) : Tidy σ (s.endQueued p ends) := by
  unfold State.endQueued
  refine hs.foldl fun hu => hu.setList.foldl fun hu => ?_
  split
  · exact hu.endFrame.freeFrame
  · exact hu

theorem Tidy.moveBuckets {g p l} (hs : Tidy σ s) : Tidy σ (s.moveBuckets g p l) := (hs.foldl .setBucket).relink.bumpN

theorem Tidy.memberLost {g p} (hs : Tidy σ s) : Tidy σ (s.memberLost g p) := by
  unfold State.memberLost
  refine hs.setGroup.ite (hs.moveBuckets.ite ?_)
  extract_lets +onlyGivenNames s1
  have hs1 : Tidy σ s1 := hs.setGroup.foldl .setBucket
  exact (hs1.foldl .judgeMember).ite (hs1.foldl .judgeMember).relink

theorem Tidy.dropCredits {p v q} (hs : Tidy σ s) :
    Tidy σ { s with sw := { s.sw with headroom := Store.write 0 s.sw.headroom p v, credits := s.sw.credits.filter q } } :=
  { hs with headroom := hs.headroom.write, credits := hs.credits.filter }
theorem Tidy.portGone {p live} (hs : Tidy σ s) : Tidy σ (s.portGone p live) := by
  unfold State.portGone
  extract_lets +onlyGivenNames _ s2 _ s3
  have hs2 : Tidy σ s2 := by
    unfold s2
    split
    · exact hs.endSent.memberLost.ite hs.endSent
    · exact hs.endSent
  have hs3 : Tidy σ s3 := hs2.endQueued
  exact hs3.dropCredits

theorem Tidy.linkOn {f p bucket} (hs : Tidy σ s) : Tidy σ (s.linkOn f p bucket).2 :=
  hs.ite_snd (hs.ite_snd (hs.bump.fault.ite_snd (hs.bump.ite hs).setList))
theorem Tidy.discardResponse {f} (hs : Tidy σ s) : Tidy σ (s.discardResponse f) := hs.put (by exact rfl)

theorem Tidy.linkUnicast {f} (hs : Tidy σ s) : Tidy σ (s.linkUnicast f) := by
  unfold State.linkUnicast
  dsimp only
  split
  · exact hs.bump.refuseFrame.freeFrame
  · split
    · exact hs.linkOn.setFrame
    · exact hs.linkOn.refuseFrame.freeFrame
    · exact hs.linkOn.refuseFrame.freeFrame.ite hs.linkOn.discardResponse.freeFrame

theorem Tidy.linkMulticast {here : Frame → State → State} {f} (hs : Tidy σ s)
    (hhere : ∀ {a0 t}, Tidy σ t → Tidy σ (here a0 t)) :
    Tidy σ (s.linkMulticast f here) := by
  unfold State.linkMulticast
  refine hs.refuseFrame.freeFrame.ite (hs.refuseFrame.freeFrame.ite ?_)
  refine hs.bump.respond.freeFrame.ite (hs.respond.freeFrame.ite ?_)
  extract_lets +onlyGivenNames _ _ _ s2
  have hs2 : Tidy σ s2 := by
    unfold s2
    refine (hs.setFrame.put (by exact rfl)).bumpN.foldl fun hu => ?_
    split
    · exact hhere hu
    · dsimp only
      split
      · exact hu.linkOn
      · exact hu.linkOn.branchAnswer
      · exact hu.linkOn.branchAnswer
  exact hs2.freeFrame

theorem Tidy.deliverWhole {f copy payload} (hs : Tidy σ s) : Tidy σ (s.deliverWhole f copy payload) := by
  unfold State.deliverWhole
  refine .ite ?_ hs.emit
  dsimp only
  split <;> exact hs.emit

theorem Tidy.deliverFrame {f copy} (hs : Tidy σ s) : Tidy σ (s.deliverFrame f copy) := by
  unfold State.deliverFrame
  refine (hs.deliverWhole.ite ((hs.put (by exact rfl)).put (by exact rfl))).ite ?_
  split
  · exact hs
  · exact hs.ite ((hs.put (by exact rfl)).deliverWhole.ite ((hs.put (by exact rfl)).put (by exact rfl)))

theorem Tidy.countEntry {f} (hs : Tidy σ s) : Tidy σ (s.countEntry f) := (hs.countIssued.ite hs).openOp.ite hs
theorem Tidy.closeEntry {f} (hs : Tidy σ s) : Tidy σ (s.closeEntry f) := hs.closeOp.wake.ite hs

theorem Tidy.linkFrame {f} (hs : Tidy σ s) : Tidy σ (s.linkFrame f) := by
  unfold State.linkFrame
  refine hs.ite ((hs.countEntry.linkMulticast fun hu => (hu.bump.ite hu).deliverFrame).ite ?_)
  refine .ite ?_ ?_
  · split
    · exact hs.branchAnswer.freeFrame
    · exact hs.countEntry.closeEntry.linkUnicast
  · extract_lets +onlyGivenNames _ s2
    have hs2 : Tidy σ s2 := by
      unfold s2
      split
      · exact (hs.bump.ite hs).staticArrival
      · exact (hs.bump.ite hs).branchAnswer
      · exact (hs.bump.ite hs).deliverFrame
    exact hs2.freeFrame

theorem Tidy.execFrameLink {frame} (hs : Tidy σ s) : TidyNext σ (execFrameLink frame s) := by
  unfold Machine.execFrameLink
  refine (hs.begin.whenRunning fun hu => ?_).next
  split
  · exact hu.linkFrame
  · exact hu

theorem Tidy.markWaits {p} (hs : Tidy σ s) : Tidy σ (s.markWaits p) := hs.foldl .setList

theorem Tidy.takeGap {f e} (hs : Tidy σ s) : Tidy σ (s.takeGap f e).2 := by
  unfold State.takeGap
  split
  · exact hs.setBucket.ite_snd hs
  · split
    · exact hs.ite_snd (hs.put (by exact rfl))
    · exact hs

theorem Tidy.takeCredits {k n p l} (hs : Tidy σ s) :
    Tidy σ { s with sw := { s.sw with credits := Store.write 0 s.sw.credits k n, sent := Store.write [] s.sw.sent p l } } :=
  { hs with credits := hs.credits.write, sent := hs.sent.write }
theorem Tidy.sendEntry {p k e f} (hs : Tidy σ s) : Tidy σ (s.sendEntry p k e f) := by
  unfold State.sendEntry
  extract_lets +onlyGivenNames _ _ _ _ s1 _ s3 _ r _ _ _ s4
  have hs1 : Tidy σ s1 := hs.takeGap.countDeferral.meter
  have hs3 : Tidy σ s3 := by
    unfold s3
    split
    · exact hs1.setList.charge
    · exact hs1.setList
  have hr : Tidy σ r.2 := hs3.txFrame
  have hs4 : Tidy σ s4 := by
    refine .ite ?_ hs3
    exact hr.takeCredits
  exact (hs4.setPort.ite hs4).emit.freeFrame

theorem Tidy.egressBoundary {p} (hs : Tidy σ s) : Tidy σ (s.egressBoundary p) := by
  unfold State.egressBoundary
  refine hs.ite ?_
  split
  · exact hs.markWaits.bump.ite hs.markWaits
  · split
    · exact hs
    · extract_lets +onlyGivenNames _ s1 s2 _
      have hs1 : Tidy σ s1 := hs.put (by exact rfl)
      have hs2 : Tidy σ s2 := hs1.sendEntry.markWaits
      clear_value s2
      exact (hs2.put (by exact rfl)).ite hs2

theorem Tidy.execEgressFrameBoundary {port} (hs : Tidy σ s) : TidyNext σ (execEgressFrameBoundary port s) :=
  (hs.begin.whenRunning .egressBoundary).next

theorem Tidy.mcWrite {i n v} (hs : Tidy σ s) : Tidy σ (s.mcWrite i n v) := by
  unfold State.mcWrite
  exact hs.takeLo.openWrite fun hu => { hu with mcast := hu.mcast.write }

theorem Tidy.execMcEntryWrite {i n v} (hs : Tidy σ s) : TidyNext σ (execMcEntryWrite i n v s) :=
  (hs.begin.whenRunning .mcWrite).next

theorem Tidy.quotaWrite {i t v} (hs : Tidy σ s) : Tidy σ (s.quotaWrite i t v) := by
  unfold State.quotaWrite
  exact hs.openWrite .setReg

theorem Tidy.execQuotaWrite {i t v} (hs : Tidy σ s) : TidyNext σ (execQuotaWrite i t v s) :=
  (hs.begin.whenRunning .quotaWrite).next

theorem Tidy.lgSet {g mask} (hs : Tidy σ s) : Tidy σ (s.lgSet g mask) := by
  unfold State.lgSet
  extract_lets +onlyGivenNames _ _ _ _ s2
  have hs2 : Tidy σ s2 := hs.setReg.setReg.foldl fun hu => hu.endSent.memberLost.ite hu.endSent.memberLost.endQueued
  exact hs2.ite (hs2.foldl .judgeMember)

theorem Tidy.lgMembersWrite {i g hi v} (hs : Tidy σ s) : Tidy σ (s.lgMembersWrite i g hi v) :=
  (hs.openWrite .stageLo).ite (hs.takeLo.openWrite .lgSet)
theorem Tidy.execLgMembersWrite {i g hi v} (hs : Tidy σ s) : TidyNext σ (execLgMembersWrite i g hi v s) :=
  (hs.begin.whenRunning .lgMembersWrite).next
theorem Tidy.rebalance {g} (hs : Tidy σ s) : Tidy σ (s.rebalance g) :=
  hs.ite ((hs.fillPins.foldl .setBucket).foldl .relink).setGroup.bumpN
theorem Tidy.execLgRebalance {a g} (hs : Tidy σ s) : TidyNext σ (execLgRebalance a g s) :=
  (hs.begin.whenRunning fun hu => hu.openWrite .rebalance).next
theorem Tidy.rebalanceDone {g} (hs : Tidy σ s) : Tidy σ (s.rebalanceDone g) :=
  hs.ite ((hs.setGroup.foldl .setBucket).foldl fun hu => hu.memberLost.endQueued)
theorem Tidy.execLgRebalanceComplete {g} (hs : Tidy σ s) : TidyNext σ (execLgRebalanceComplete g s) :=
  (hs.begin.whenRunning .rebalanceDone).next
theorem Tidy.mapLists {f : Nat × List QEntry → QEntry → QEntry} {routeGaps} (hs : Tidy σ s) :
    Tidy σ { s with sw := { s.sw with lists := s.sw.lists.map fun l => (l.1, l.2.map (f l)), routeGaps } } :=
  { hs with lists := hs.lists.map (fun _ => rfl) fun _ he => by simpa using he }

theorem Tidy.rerouteNode {n} (hs : Tidy σ s) : Tidy σ (s.rerouteNode n) := by
  unfold State.rerouteNode
  extract_lets +onlyGivenNames _ s1 lists
  have hs1 : Tidy σ s1 := hs.foldl .relink
  exact hs1.mapLists

theorem Tidy.routeWrite {i w v} (hs : Tidy σ s) : Tidy σ (s.routeWrite i w v) := by
  unfold State.routeWrite
  exact hs.openWrite fun hu => hu.setReg.foldl fun hu => hu.rerouteNode.ite hu

theorem Tidy.execRouteWrite {i n v} (hs : Tidy σ s) : TidyNext σ (execRouteWrite i n v s) :=
  (hs.begin.whenRunning .routeWrite).next

theorem Tidy.execDiscardedResponseTimeout {n} (hs : Tidy σ s) : TidyNext σ (execDiscardedResponseTimeout n s) := by
  unfold Machine.execDiscardedResponseTimeout
  refine (hs.begin.whenRunning fun hu => ?_).next
  split
  · exact hu
  · exact (hu.elapseSw (by exact rfl)).respond

theorem Tidy.execCellUsSample (hs : Tidy σ s) : TidyNext σ (execCellUsSample s) :=
  (hs.begin.whenRunning fun hu => hu.elapse.foldl .meter).next

/-! ### Machine/Links.lean -/

theorem Tidy.portDown {p st} (hs : Tidy σ s) : Tidy σ (s.portDown p st) := by
  unfold State.portDown
  extract_lets +onlyGivenNames _ _ _ _ s2 _ _ s3
  have hs2 : Tidy σ s2 := hs.setPort.setCrypt.bump32.ite hs.setPort.setCrypt
  have hs3 : Tidy σ s3 := hs2.setBind
  exact hs3.portGone.ite hs3

theorem Tidy.fenceNow {p} (hs : Tidy σ s) : Tidy σ (s.fenceNow p) := hs.portDown.setPort.put (by exact rfl)

theorem Tidy.portFence {p code} (hs : Tidy σ s) : Tidy σ (s.portFence p code) := by
  unfold State.portFence
  refine hs.fault.ite ?_
  split
  · exact hs.fault.fenceNow
  · exact (hs.fault.put (by exact rfl)).issueHalt

theorem Tidy.portLost {p} (hs : Tidy σ s) : Tidy σ (s.portLost p) := by
  unfold State.portLost
  extract_lets +onlyGivenNames _ _ _ _ _ _ _ s5
  have hs5 : Tidy σ s5 := by
    unfold s5
    refine (hs.portDown.setPort.portEvent.fault.foldl .fenceAgent).foldl fun hu => ?_
    split
    · exact hu.issueHalt.ite hu
    · exact hu
  exact hs5.portFence.ite hs5

theorem Tidy.trainFail {p st} (hs : Tidy σ s) : Tidy σ (s.trainFail p st) := hs.setPort.portEvent
theorem Tidy.startTraining {p} (hs : Tidy σ s) : Tidy σ (s.startTraining p) := hs.setPort

theorem Tidy.portCtl {a p mode w8 en retrain} (hs : Tidy σ s) : Tidy σ (s.portCtl a p mode w8 en retrain) := by
  unfold State.portCtl
  refine hs.mgmtWrite fun hu => (hu.setPort.portDown.ite hu.setPort).ite ?_
  exact hu.setPort.ite (hu.setPort.startTraining.ite (hu.setPort.emit.portDown.startTraining.ite hu.setPort))

theorem Tidy.execPortModeWrite {a port mode width8} (hs : Tidy σ s) : TidyNext σ (execPortModeWrite a port mode width8 s) :=
  (hs.begin.whenRunning .portCtl).next
theorem Tidy.execPortEnable {i port} (hs : Tidy σ s) : TidyNext σ (execPortEnable i port s) :=
  (hs.begin.whenRunning .portCtl).next
theorem Tidy.execPortDisable {i port} (hs : Tidy σ s) : TidyNext σ (execPortDisable i port s) :=
  (hs.begin.whenRunning .portCtl).next
theorem Tidy.execRetrain {i port} (hs : Tidy σ s) : TidyNext σ (execRetrain i port s) :=
  (hs.begin.whenRunning .portCtl).next
theorem Tidy.useLanes {p l} (hs : Tidy σ s) : Tidy σ (s.useLanes p l) := by
  unfold State.useLanes; exact hs.setPort

theorem Tidy.electricalDone {p lanes} (hs : Tidy σ s) : Tidy σ (s.electricalDone p lanes) := by
  unfold State.electricalDone
  refine hs.ite ?_
  extract_lets +onlyGivenNames s1
  have hs1 : Tidy σ s1 := hs.foldl fun hu => hu.setPort.ite hu
  split
  · exact hs1.trainFail
  · exact hs1.useLanes.setPort.emit

theorem Tidy.execElectricalTrainingDone {port lanes} (hs : Tidy σ s) :
    TidyNext σ (execElectricalTrainingDone port lanes s) :=
  (hs.begin.whenRunning .electricalDone).next

theorem Tidy.setCredits {p} {m : Nat → Nat} {l : List Nat} (hs : Tidy σ s) :
    Tidy σ { s with sw := { s.sw with credits := l.foldl (fun (st : Store Nat) n => Store.write 0 st (p + n) (m n)) s.sw.credits } } :=
  { hs with credits := hs.credits.foldl .write }
theorem Tidy.capsIn {p m} (hs : Tidy σ s) : Tidy σ (s.capsIn p m) := by
  unfold State.capsIn
  refine hs.ite ?_
  split
  · exact hs.trainFail
  · exact hs.setPort.setCrypt.setCredits

theorem Tidy.execCaps {port message} (hs : Tidy σ s) : TidyNext σ (execCaps port message s) :=
  (hs.begin.whenRunning .capsIn).next
theorem Tidy.setHeadroom {p n} (hs : Tidy σ s) :
    Tidy σ { s with sw := { s.sw with headroom := Store.write 0 s.sw.headroom p n } } :=
  { hs with headroom := hs.headroom.write }
theorem Tidy.portUpNow {p} (hs : Tidy σ s) : Tidy σ (s.portUpNow p) :=
  hs.trainFail.ite (hs.setHeadroom.setPort.lgTrained.ite hs.setHeadroom.setPort)
theorem Tidy.secured {p secret} (hs : Tidy σ s) : Tidy σ (s.secured p secret) :=
  hs.ite (hs.setCrypt.portUpNow.ite hs.setCrypt.setBind.setPort)
theorem Tidy.execSecureDone {port secret} (hs : Tidy σ s) : TidyNext σ (execSecureDone port secret s) :=
  (hs.begin.whenRunning .secured).next
theorem Tidy.execCalibrateDone {port delayNs asym} (hs : Tidy σ s) : TidyNext σ (execCalibrateDone port delayNs asym s) :=
  (hs.begin.whenRunning fun hu => hu.ite hu.setPort.portUpNow).next

theorem Tidy.execTrainingTimeout {port} (hs : Tidy σ s) : TidyNext σ (execTrainingTimeout port s) := by
  unfold Machine.execTrainingTimeout
  refine (hs.begin.whenRunning fun hu => ?_).next
  dsimp only
  split
  · exact hu
  · exact hu.ite (hu.elapse.put (by exact rfl)).trainFail

theorem Tidy.execTrainingRestart {port} (hs : Tidy σ s) : TidyNext σ (execTrainingRestart port s) := by
  unfold Machine.execTrainingRestart
  refine (hs.begin.whenRunning fun hu => ?_).next
  split
  · exact hu
  · exact hu.elapse.startTraining

theorem Tidy.execCxlPcieLinkUp {port rate width} (hs : Tidy σ s) : TidyNext σ (execCxlPcieLinkUp port rate width s) :=
  (hs.begin.whenRunning fun hu => hu.ite (hu.trainFail.ite (hu.useLanes.setCrypt.setPort.ite hu.useLanes.setCrypt.portUpNow))).next
theorem Tidy.execCxlPcieLinkLoss {port} (hs : Tidy σ s) : TidyNext σ (execCxlPcieLinkLoss port s) :=
  (hs.begin.whenRunning fun hu => hu.ite hu.portLost).next
theorem Tidy.damage {p} (hs : Tidy σ s) : Tidy σ (s.damage p) := by
  unfold State.damage; exact hs.ite hs.setPort.txFree
theorem Tidy.takeWord {p} (hs : Tidy σ s) : Tidy σ (s.takeWord p) := by
  unfold State.takeWord; exact (hs.put (by exact rfl)).bump.damage
theorem Tidy.execUncorrectableWord {port} (hs : Tidy σ s) : TidyNext σ (execUncorrectableWord port s) :=
  (hs.begin.whenRunning fun hu => hu.ite hu.bump.damage).next
theorem Tidy.execReplayTimeout {port} (hs : Tidy σ s) : TidyNext σ (execReplayTimeout port s) :=
  (hs.begin.whenRunning fun hu => hu.ite (hu.elapse.bump.portLost.ite hu.elapse.setPort.txFree)).next
theorem Tidy.ackIn {p seq} (hs : Tidy σ s) : Tidy σ (s.ackIn p seq) := hs.ite hs.setPort.setSent.flushCredits
theorem Tidy.execAck {port seq} (hs : Tidy σ s) : TidyNext σ (execAck port seq s) :=
  (hs.begin.whenRunning fun hu => hu.ackIn.ite hu).next
theorem Tidy.nakIn {p seq} (hs : Tidy σ s) : Tidy σ (s.nakIn p seq) := hs.ackIn.setPort.bump.foldl .txAgain
theorem Tidy.execNak {port seq} (hs : Tidy σ s) : TidyNext σ (execNak port seq s) :=
  (hs.begin.whenRunning fun hu => hu.nakIn.ite hu).next
theorem Tidy.execAckSend {port} (hs : Tidy σ s) : TidyNext σ (execAckSend port s) :=
  (hs.begin.whenRunning fun hu => hu.ite (hu.ite hu.setPort.txFree)).next
theorem Tidy.tagFail {p} (hs : Tidy σ s) : Tidy σ (s.tagFail p) := hs.setCrypt.bump.portFence.ite hs.setCrypt.bump.damage
theorem Tidy.countRx {p h} (hs : Tidy σ s) : Tidy σ (s.countRx p h) := hs.ite (hs.bump.ite hs).setCrypt
theorem Tidy.addCredits {k n} (hs : Tidy σ s) :
    Tidy σ { s with sw := { s.sw with credits := Store.write 0 s.sw.credits k n } } :=
  { hs with credits := hs.credits.write }
theorem Tidy.acceptFlit {p h payload} (hs : Tidy σ s) : Tidy σ (s.acceptFlit p h payload) :=
  hs.setPort.addCredits.setPort.ite (hs.setPort.addCredits.portDown.startTraining.ite hs.setPort.addCredits)
theorem Tidy.sequenced {p h payload} (hs : Tidy σ s) : Tidy σ (s.sequenced p h payload) :=
  (hs.damage.ite hs).ite (hs.bump.damage.ite hs.acceptFlit)

theorem Tidy.flitIn {p h payload tagOk} (hs : Tidy σ s) : Tidy σ (s.flitIn p h payload tagOk) := by
  unfold State.flitIn
  refine hs.ite (hs.takeWord.ite ?_)
  refine hs.bump.damage.ite (hs.damage.ite ?_)
  refine hs.tagFail.ite ?_
  extract_lets +onlyGivenNames _ s2
  have hs2 : Tidy σ s2 := hs.countRx.ackIn.ite (hs.countRx.nakIn.ite hs.countRx)
  exact hs2.ite hs2.sequenced

theorem Tidy.execFlitReceive {port h payload tagOk} (hs : Tidy σ s) : TidyNext σ (execFlitReceive port h payload tagOk s) :=
  (hs.begin.whenRunning .flitIn).next
theorem Tidy.setDegrade {p d} (hs : Tidy σ s) : Tidy σ (s.setDegrade p d) := by
  unfold State.setDegrade; exact hs.setPort

theorem Tidy.laneFailed {p lane} (hs : Tidy σ s) : Tidy σ (s.laneFailed p lane) := by
  unfold State.laneFailed
  refine hs.ite ?_
  dsimp only
  split
  · exact hs.setPort.portLost
  · exact hs.setPort.emit.setDegrade

theorem Tidy.execLaneFail {port lane} (hs : Tidy σ s) : TidyNext σ (execLaneFail port lane s) :=
  (hs.begin.whenRunning .laneFailed).next
theorem Tidy.execDegrade {port lanes ftc} (hs : Tidy σ s) : TidyNext σ (execDegrade port lanes ftc s) :=
  (hs.begin.whenRunning fun hu => hu.ite hu.setDegrade).next

theorem Tidy.execDegradeSwitch {port} (hs : Tidy σ s) : TidyNext σ (execDegradeSwitch port s) := by
  unfold Machine.execDegradeSwitch
  refine (hs.begin.whenRunning fun hu => ?_).next
  split
  · exact hu
  · exact hu.atFtc.useLanes.setPort.bump32.portEvent

theorem Tidy.execRekey {port} (hs : Tidy σ s) : TidyNext σ (execRekey port s) :=
  (hs.begin.whenRunning fun hu => hu.ite hu.bump.setCrypt).next
theorem Tidy.execRekeyHardLimit {port} (hs : Tidy σ s) : TidyNext σ (execRekeyHardLimit port s) :=
  (hs.begin.whenRunning fun hu => hu.portLost.ite hu).next

/-! ### Machine/Reset.lean -/

theorem Tidy.endOpenOp {r o} (hs : Tidy σ s) : Tidy σ (s.endOpenOp r o) := by
  unfold State.endOpenOp
  refine hs.postedFails.ite ?_
  split
  · exact hs.closeOp.finishItem
  · exact hs.respondCore

theorem Tidy.writeEntries {n q} (hs : Tidy σ s) : Tidy σ (State.writeEntries n s q) := by
  induction n generalizing s with
  | zero => exact hs
  | succ n ih => exact ih hs.writeNext

theorem Tidy.endOpen {st reason} (hs : Tidy σ s) : Tidy σ (s.endOpen st reason) :=
  hs.foldl (fun hu => hu.foldl .revertBlocks) |>.foldl .endOpenOp |>.foldl .writeEntries |>.foldl .endWaitCore
    |>.foldl .respondCore |>.foldl .respondCore |>.foldl .respondCore |>.foldl .respondCore |>.foldl .respondCore
    |>.foldl .refuseFrame

theorem Tidy.noteReset {c warm} (hs : Tidy σ s) : Tidy σ (s.noteReset c warm) :=
  (hs.setNum.setNum.bump32.ite hs.setNum.setNum).put (by exact rfl)

theorem Tidy.emptySlots (hs : Tidy σ s) : Tidy σ s.emptySlots := by
  unfold State.emptySlots
  refine hs.foldl fun hu => ?_
  split
  · exact hu.planEmpty
  · exact hu

/-- A table that stands at its reset value holds nothing. -/
theorem Tidy.reset (σ : State) : Tidy σ {} := by
  constructor <;> exact fun _ => by decide

/-- A warm reset keeps some entries of some tables and empties the others (R532). -/
theorem Tidy.warmKeep (hs : Tidy σ s) : Tidy σ s.warmKeep := by
  refine { Tidy.reset σ with
    csr := hs.csr.filter, queues := ?_, syncs := ?_, shapers := ?_, weirs := ?_, gateEntries := hs.gateEntries, channels := hs.channels
    parts := hs.parts, ways := hs.ways, tenants := hs.tenants, clusterOwner := hs.clusterOwner, binds := ?_, crypt := ?_
    clearLog := hs.clearLog, banks := hs.banks, ports := ?_, eventLog := hs.eventLog, flash := hs.flash, flashBanks := hs.flashBanks
    faultLog := hs.faultLog }
  all_goals dsimp only [State.warmKeep]
  · exact hs.queues.revalue
  · exact hs.syncs.revalue
  · exact hs.weirs.revalue
  · exact hs.shapers.revalue
  · exact hs.ports.revalue
  · exact hs.binds.revalue
  · exact hs.crypt.revalue

theorem Tidy.warmReset {c} (hs : Tidy σ s) : Tidy σ (s.warmReset c) := by
  unfold State.warmReset
  extract_lets +onlyGivenNames _ s2
  have hs2 : Tidy σ s2 := (hs.foldl .cancelMove).endOpen.emptySlots.destroyKeys.warmKeep.noteReset
  clear_value s2
  exact hs2.put (by exact rfl)

/-- A cold reset keeps the flash and the firmware banks, and empties every other table. -/
theorem Tidy.coldReset {c} (hs : Tidy σ s) : Tidy σ (s.coldReset c) := by
  unfold State.coldReset
  extract_lets +onlyGivenNames k s1
  have hk : Tidy σ k := { Tidy.reset σ with banks := hs.banks, flash := hs.flash, flashBanks := hs.flashBanks }
  have hs1 : Tidy σ s1 := hk.noteReset
  clear_value s1
  exact hs1.put (by exact rfl)

theorem Tidy.resetIfQuiet (hs : Tidy σ s) : Tidy σ s.resetIfQuiet := by
  unfold State.resetIfQuiet
  split
  · exact hs
  · exact hs.warmReset.ite hs

theorem Tidy.commandWarm {c} (hs : Tidy σ s) : Tidy σ (s.commandWarm c) := by
  unfold State.commandWarm
  extract_lets +onlyGivenNames _ _ _ _ _ s5
  have hs5 : Tidy σ s5 :=
    hs.foldl .windowOff |>.foldl .streamOff |>.foldl .vsOff |>.foldl (fun hu => hu.vsEnd.ite hu) |>.foldl .windowDone
  clear_value s5
  exact (hs5.put (by exact rfl)).resetIfQuiet

theorem Tidy.loseLines (hs : Tidy σ s) : Tidy σ s.loseLines := by
  unfold State.loseLines
  extract_lets +onlyGivenNames s1
  have hs1 : Tidy σ s1 := by
    unfold s1
    refine hs.foldl fun hu => ?_
    split
    · exact hu.ite hu.poisonLine
    · exact hu
  exact { hs1 with entries := .empty }

theorem Tidy.brownout {trip arg} (hs : Tidy σ s) : Tidy σ (s.brownout trip arg) := by
  unfold State.brownout
  extract_lets +onlyGivenNames _ _ _ _ s5
  have hs5 : Tidy σ s5 :=
    (((hs.foldl .issueHalt).foldl .cancelMove).loseLines.endOpen.destroyKeys.foldl fun hu => hu.ite hu.portDown).bump32
  clear_value s5
  exact hs5.put (by exact rfl)

/-! ### Machine/Units.lean -/

theorem Tidy.unitOutcome {l st} (hs : Tidy σ s) : Tidy σ (s.unitOutcome l st) := hs.setNum.setNum

theorem Tidy.takeBack {f id t} (hs : Tidy σ s) : Tidy σ (s.takeBack f id t) := by
  unfold State.takeBack
  split
  · exact hs
  · exact hs.setItem.returnTask

theorem Tidy.itemBack {id own group} (hs : Tidy σ s) : Tidy σ (s.itemBack id own group) := by
  unfold State.itemBack
  split
  · exact hs
  · exact hs.ite hs.setItem

theorem Tidy.loseFloret {f} (hs : Tidy σ s) : Tidy σ (s.loseFloret f) := by
  unfold State.loseFloret
  extract_lets +onlyGivenNames _ s1 _ _ _ _ s4
  have hs1 : Tidy σ s1 := by
    unfold s1
    split
    · exact hs.returnTask
    · exact hs
  have hs4 : Tidy σ s4 := ((hs1.foldl .takeBack).foldl fun hu => (hu.returnTask.ite hu).itemBack).foldl .endWait
  clear_value s4
  exact (hs4.put (by exact rfl)).setFloret

theorem Tidy.loseArbiter {k} (hs : Tidy σ s) : Tidy σ (s.loseArbiter k) :=
  (hs.foldl fun hu => hu.setReg.setReg).setReg.setReg.put (by exact rfl)
theorem Tidy.loseCluster {c} (hs : Tidy σ s) : Tidy σ (s.loseCluster c) := (hs.put (by exact rfl)).foldl .loseArbiter
theorem Tidy.loseQuadrant {d q} (hs : Tidy σ s) : Tidy σ (s.loseQuadrant d q) :=
  hs.foldl fun hu => hu.setItem.settleItem.ite hu.setItem

theorem Tidy.loseUnit {l} (hs : Tidy σ s) : Tidy σ (s.loseUnit l) := by
  unfold State.loseUnit
  dsimp only
  split
  · exact hs.loseFloret
  · exact hs.loseCluster
  · exact hs.loseQuadrant
  · exact hs.hcuLose.loseArbiter.ite hs.hcuLose
  · exact hs.foldl fun hu => hu.foldl .failReq
  · refine hs.foldl fun hu => ?_
    split
    · exact hu.endVquery
    · exact hu
  · refine hs.foldl fun hu => ?_
    split
    · exact hu.endVquery
    · exact hu
  · refine hs.foldl fun hu => ?_
    split
    · exact hu.endVquery
    · exact hu
  · exact hs.ite hs.portDown
  · exact hs

theorem Tidy.startUnit {l} (hs : Tidy σ s) : Tidy σ (s.startUnit l) := by
  unfold State.startUnit
  split
  · exact hs.startTraining.ite hs
  · exact hs

theorem Tidy.resetUnits {us} (hs : Tidy σ s) : Tidy σ (s.resetUnits us) :=
  ((hs.put (by exact rfl)).setStates.foldl .loseUnit).foldl .setUnit

theorem Tidy.unitFirmware {l} (hs : Tidy σ s) : Tidy σ (s.unitFirmware l) := by
  unfold State.unitFirmware
  split
  · exact hs
  · dsimp only
    split
    · exact (hs.put (by exact rfl)).measurementsUpdated.ite hs
    · exact (hs.put (by exact rfl)).measurementsUpdated.ite hs
    · exact hs

theorem Tidy.unitDo {c l} (hs : Tidy σ s) : Tidy σ (s.unitDo c l) := by
  unfold State.unitDo
  dsimp only
  split
  · exact hs.setStates.put (by exact rfl)
  · exact hs.setStates.put (by exact rfl)
  · exact hs.setStates.unitOutcome
  · exact hs.unitOutcome.commandWarm.ite ((hs.resetUnits.foldl .startUnit).put (by exact rfl))
  · exact hs.resetUnits.setStates.unitOutcome
  · refine (hs.setStates.foldl fun hu => ?_).put (by exact rfl)
    split
    · exact hu.zeroClusterSram
    · exact hu.startUnit
  · exact (hs.resetUnits.foldl .startUnit).put (by exact rfl)

theorem Tidy.unitCommand {u c} (hs : Tidy σ s) : Tidy σ (s.unitCommand u c) := by
  unfold State.unitCommand
  split
  · exact hs.answer
  · refine hs.answer.ite (hs.answer.ite ?_)
    refine hs.emit.ite ?_
    split
    · exact hs.unitOutcome.answer
    · exact hs.unitDo.answer

theorem Tidy.unitWrite {p u c} (hs : Tidy σ s) : Tidy σ (s.unitWrite p u c) := hs.takeArm.unitCommand
theorem Tidy.execUnitQuiesce {p u} (hs : Tidy σ s) : TidyNext σ (execUnitQuiesce p u s) :=
  (hs.begin.whenRunning .unitWrite).next
theorem Tidy.execUnitResume {p u} (hs : Tidy σ s) : TidyNext σ (execUnitResume p u s) :=
  (hs.begin.whenRunning .unitWrite).next
theorem Tidy.execUnitReset {p u} (hs : Tidy σ s) : TidyNext σ (execUnitReset p u s) :=
  (hs.begin.whenRunning .unitWrite).next
theorem Tidy.execUnitPowerDown {p u} (hs : Tidy σ s) : TidyNext σ (execUnitPowerDown p u s) :=
  (hs.begin.whenRunning .unitWrite).next
theorem Tidy.execUnitPowerUp {p u} (hs : Tidy σ s) : TidyNext σ (execUnitPowerUp p u s) :=
  (hs.begin.whenRunning .unitWrite).next
theorem Tidy.execUnitUpdateBegin {p u} (hs : Tidy σ s) : TidyNext σ (execUnitUpdateBegin p u s) :=
  (hs.begin.whenRunning .unitWrite).next
theorem Tidy.execUnitUpdateEnd {p u} (hs : Tidy σ s) : TidyNext σ (execUnitUpdateEnd p u s) :=
  (hs.begin.whenRunning .unitWrite).next

theorem Tidy.endDrain {c} (hs : Tidy σ s) : Tidy σ (s.endDrain c) := by
  unfold State.endDrain
  refine (hs.setStates.put (by exact rfl)).ite ?_
  split
  · exact (hs.setStates.put (by exact rfl)).unitOutcome
  · exact hs.setStates.put (by exact rfl)

theorem Tidy.quiesceDrained {u} (hs : Tidy σ s) : Tidy σ (s.quiesceDrained u) := by
  unfold State.quiesceDrained
  split
  · exact hs
  · exact hs.endDrain.ite hs

theorem Tidy.execQuiesceDrained {u} (hs : Tidy σ s) : TidyNext σ (execQuiesceDrained u s) :=
  (hs.begin.whenRunning .quiesceDrained).next

theorem Tidy.execQuiesceTimeout {u} (hs : Tidy σ s) : TidyNext σ (execQuiesceTimeout u s) := by
  unfold Machine.execQuiesceTimeout
  refine (hs.begin.whenRunning fun hu => ?_).next
  split
  · exact hu.elapse.endDrain.ite (hu.elapse.put (by exact rfl)).unitOutcome
  · exact hu

theorem Tidy.execUnitResetComplete {u} (hs : Tidy σ s) : TidyNext σ (execUnitResetComplete u s) := by
  unfold Machine.execUnitResetComplete
  refine (hs.begin.whenRunning fun hu => ?_).next
  split
  · extract_lets +onlyGivenNames _ t1
    have ht1 : Tidy σ t1 := hu.setStates.unitOutcome
    exact (ht1.put (by exact rfl)).unitFirmware.ite (ht1.put (by exact rfl))
  · exact hu

theorem Tidy.containDue (hs : Tidy σ s) : Tidy σ s.containDue := by
  unfold State.containDue
  refine hs.ite ((hs.put (by exact rfl)).foldl fun hu => ?_)
  refine hu.fenceNow.ite ?_
  split
  · exact hu.startContain
  · exact hu

theorem Tidy.execContainmentTimeout {u} (hs : Tidy σ s) : TidyNext σ (execContainmentTimeout u s) := by
  unfold Machine.execContainmentTimeout
  refine (hs.begin.whenRunning fun hu => ?_).next
  split
  · exact hu
  · exact hu.elapse.endDrain.ite (hu.elapse.foldl .loseUnit).endDrain

theorem Tidy.execUnitHangTimeout {u} (hs : Tidy σ s) : TidyNext σ (execUnitHangTimeout u s) := by
  unfold Machine.execUnitHangTimeout
  refine (hs.begin.whenRunning fun hu => ?_).next
  split
  · exact hu
  · exact hu.containUnit.ite hu

theorem Tidy.portUnfence {t : State} {a port} (hs : Tidy σ t) : Tidy σ (t.portUnfence a port) := by
  unfold State.portUnfence
  dsimp only
  split
  · exact hs.mgmtWrite (fun hu => hu.put (by exact rfl))
  · exact hs.openWrite (fun hu => hu.put (by exact rfl))

theorem Tidy.execPortUnfence {a port} (hs : Tidy σ s) : TidyNext σ (execPortUnfence a port s) :=
  (hs.begin.whenRunning .portUnfence).next

/-! ### Machine/PlanRows.lean -/

theorem Tidy.execArmDecision {slot} (hs : Tidy σ s) : TidyNext σ (execArmDecision slot s) :=
  (hs.begin.whenRunning .armDecide).containDue.next
theorem Tidy.execPlanDisarm {a slot} (hs : Tidy σ s) : TidyNext σ (execPlanDisarm a slot s) :=
  (hs.begin.whenRunning .planDisarm).containDue.next
theorem Tidy.execDisarmReceived {planId} (hs : Tidy σ s) : TidyNext σ (execDisarmReceived planId s) :=
  (hs.begin.whenRunning .memberDisarm).containDue.next

theorem Tidy.execHaltTakesEffect {slot} (hs : Tidy σ s) : TidyNext σ (execHaltTakesEffect slot s) := by
  unfold Machine.execHaltTakesEffect
  refine Tidy.next ?_
  refine (hs.begin.whenRunning fun hu => ?_).containDue
  dsimp only
  split
  · exact hu
  · split
    · exact hu
    · exact hu.ite (hu.ite hu.atTick.haltEffect)

theorem Tidy.execPlanTick {slot slacks} (hs : Tidy σ s) : TidyNext σ (execPlanTick slot slacks s) :=
  (hs.begin.whenRunning .planStep).containDue.next
theorem Tidy.execSlipQuantumEnd {slot} (hs : Tidy σ s) : TidyNext σ (execSlipQuantumEnd slot s) :=
  (hs.begin.whenRunning fun hu => hu.planStep.ite hu).containDue.next

theorem Tidy.execRotationsComplete {slot} (hs : Tidy σ s) : TidyNext σ (execRotationsComplete slot s) := by
  unfold Machine.execRotationsComplete
  refine Tidy.next ?_
  refine (hs.begin.whenRunning fun hu => ?_).containDue
  dsimp only
  split
  · exact hu
  · exact hu.planStop.ite hu

theorem Tidy.execHaltToken {port h} (hs : Tidy σ s) : TidyNext σ (execHaltToken port h s) :=
  (hs.begin.whenRunning .haltArrives).containDue.next
theorem Tidy.execHoldoverExpiry (hs : Tidy σ s) : TidyNext σ (execHoldoverExpiry s) :=
  (hs.begin.whenRunning fun hu => hu.ite hu.elapse.timeLost).containDue.next
theorem Tidy.execWindowDisableComplete {w} (hs : Tidy σ s) : TidyNext σ (execWindowDisableComplete w s) :=
  (hs.begin.whenRunning fun hu => hu.windowDone.resetIfQuiet).next
theorem Tidy.execVsDisableComplete {index} (hs : Tidy σ s) : TidyNext σ (execVsDisableComplete index s) :=
  (hs.begin.whenRunning fun hu => hu.vsDone.resetIfQuiet).next

/-! ### Machine/Power.lean -/

theorem Tidy.execPowerUp {mv} (hs : Tidy σ s) : TidyNext σ (execPowerUp mv s) := ((hs.begin.put (by exact rfl)).ite hs.begin).next
theorem Tidy.execSoftStartDone (hs : Tidy σ s) : TidyNext σ (execSoftStartDone s) :=
  (hs.begin.ite ((hs.begin.put (by exact rfl)).ite hs.begin.coldReset)).next
theorem Tidy.powerEvent (hs : Tidy σ s) : Tidy σ s.powerEvent := by
  unfold State.powerEvent; exact hs.free.eventOpen
theorem Tidy.setPowerEvents {b} (hs : Tidy σ s) : Tidy σ (s.setPowerEvents b) := hs.put (by exact rfl)

theorem Tidy.powerMonitor {watts} (hs : Tidy σ s) : Tidy σ (s.powerMonitor watts) := by
  unfold State.powerMonitor
  refine .ite ?_ (((hs.put (by exact rfl)).put (by exact rfl)).ite (hs.put (by exact rfl)))
  dsimp only
  split
  · exact (hs.put (by exact rfl)).put (by exact rfl)
  · exact (((hs.put (by exact rfl)).put (by exact rfl)).put (by exact rfl)).setPowerEvents.powerEvent

theorem Tidy.execPowerMonitorTick {watts} (hs : Tidy σ s) : TidyNext σ (execPowerMonitorTick watts s) :=
  (hs.begin.whenRunning .powerMonitor).next

theorem Tidy.sagSample {mv warnLow} (hs : Tidy σ s) : Tidy σ (s.sagSample mv warnLow) := by
  unfold State.sagSample
  refine (hs.put (by exact rfl)).ite ?_
  extract_lets +onlyGivenNames _ _ _ s2
  have hs2 : Tidy σ s2 :=
    (((hs.put (by exact rfl)).setPowerEvents.bump.powerEvent.ite (hs.put (by exact rfl)).setPowerEvents).put (by exact rfl)).ite
      (hs.put (by exact rfl))
  exact hs2.brownout.ite hs2

theorem Tidy.execSagSample {mv warnLow} (hs : Tidy σ s) : TidyNext σ (execSagSample mv warnLow s) := hs.begin.sagSample.next
theorem Tidy.applyStored (hs : Tidy σ s) : Tidy σ s.applyStored := hs.ite ((hs.put (by exact rfl)).foldl .setClusterClock)

theorem Tidy.releaseStep (hs : Tidy σ s) : Tidy σ s.releaseStep := by
  unfold State.releaseStep
  dsimp only
  split
  · exact (hs.elapse.put (by exact rfl)).applyStored.ite (hs.elapse.put (by exact rfl))
  · exact (hs.elapse.put (by exact rfl)).applyStored.ite (hs.elapse.put (by exact rfl))
  · exact hs

theorem Tidy.execThrottleRelease (hs : Tidy σ s) : TidyNext σ (execThrottleRelease s) :=
  (hs.begin.whenRunning .releaseStep).next
theorem Tidy.execBrownoutRecovery (hs : Tidy σ s) : TidyNext σ (execBrownoutRecovery s) :=
  (hs.begin.warmReset.ite hs.begin).next

theorem Tidy.execBrownoutLoss {mv} (hs : Tidy σ s) : TidyNext σ (execBrownoutLoss mv s) := by
  unfold Machine.execBrownoutLoss
  refine (hs.begin.ite ?_).next
  split
  · exact hs.begin.put (by exact rfl)
  · exact hs.begin.put (by exact rfl)
  · exact hs.begin.put (by exact rfl)
  · exact hs.begin.put (by exact rfl)
  · exact hs.begin

theorem Tidy.thermalSample {c16} (hs : Tidy σ s) : Tidy σ (s.thermalSample c16) :=
  (hs.put (by exact rfl)).ite ((hs.put (by exact rfl)).brownout.ite (((hs.put (by exact rfl)).put
    (by exact rfl)).setPowerEvents.powerEvent.ite (hs.put (by exact rfl))))
theorem Tidy.execThermalSample {c16} (hs : Tidy σ s) : TidyNext σ (execThermalSample c16 s) := hs.begin.thermalSample.next
theorem Tidy.setThermal {dyn static} (hs : Tidy σ s) : Tidy σ (s.setThermal dyn static) := hs.put (by exact rfl)
theorem Tidy.thermalMs (hs : Tidy σ s) : Tidy σ s.thermalMs :=
  (hs.setThermal.ite (hs.setThermal.ite hs)).ite (hs.ite (hs.setThermal.ite hs.setThermal))
theorem Tidy.thermalEnd (hs : Tidy σ s) : Tidy σ s.thermalEnd := (hs.put (by exact rfl)).applyStored.ite hs
theorem Tidy.markThermal (hs : Tidy σ s) : Tidy σ { s with power := { s.power with thermalAt := s.now } } := hs.put (by exact rfl)
theorem Tidy.thermalStep (hs : Tidy σ s) : Tidy σ s.thermalStep := hs.ite hs.elapse.markThermal.thermalMs.thermalEnd
theorem Tidy.execThermalThrottleStep (hs : Tidy σ s) : TidyNext σ (execThermalThrottleStep s) :=
  (hs.begin.whenRunning .thermalStep).next

theorem Tidy.referenceCheck {s0 : State} {ppb parentPpb stopped} (hs : Tidy σ s0) :
    Tidy σ (s0.referenceCheck ppb parentPpb stopped) := by
  unfold State.referenceCheck
  extract_lets +onlyGivenNames s _ _ _ s3
  have hs : Tidy σ s := by
    unfold s
    split
    · exact hs
    · exact hs.setNum
  have hs3 : Tidy σ s3 := ((hs.foldl .planContain).foldl fun hu => hu.ite hu.portDown).fault.warmReset
  clear_value s3
  exact hs.ite (hs3.put (by exact rfl)).setNum

theorem Tidy.execReferenceMonitor {ppb parentPpb stopped} (hs : Tidy σ s) :
    TidyNext σ (execReferenceMonitor ppb parentPpb stopped s) :=
  (hs.begin.whenRunning .referenceCheck).next

theorem Tidy.clockRequest {p cluster mhz} (hs : Tidy σ s) : Tidy σ (s.clockRequest p cluster mhz) := by
  unfold State.clockRequest
  exact hs.openWrite fun hu => (hu.setNum.put (by exact rfl)).ite ((hu.setNum.put (by exact rfl)).ite (hu.setNum.put
    (by exact rfl)).setClusterClock)

theorem Tidy.execClockRequestWrite {p cluster mhz} (hs : Tidy σ s) : TidyNext σ (execClockRequestWrite p cluster mhz s) :=
  (hs.begin.whenRunning .clockRequest).next
theorem Tidy.railSettled {q} (hs : Tidy σ s) : Tidy σ (s.railSettled q) :=
  ((hs.put (by exact rfl)).free.put (by exact rfl)).ite (((hs.put (by exact rfl)).free.put (by exact rfl)).foldl .setClusterClock)
theorem Tidy.execRailSettled {quadrant} (hs : Tidy σ s) : TidyNext σ (execRailSettled quadrant s) :=
  (hs.begin.whenRunning fun hu => hu.railSettled.ite hu).next
theorem Tidy.execColdResetPin (hs : Tidy σ s) : TidyNext σ (execColdResetPin s) := (hs.begin.put (by exact rfl)).next
theorem Tidy.execColdResetRelease (hs : Tidy σ s) : TidyNext σ (execColdResetRelease s) :=
  ((hs.begin.put (by exact rfl)).coldReset.ite (hs.begin.put (by exact rfl))).next
theorem Tidy.resetGate {f : State → State} {a} (hs : Tidy σ s) (hf : ∀ {t}, Tidy σ t → Tidy σ (f t)) :
    Tidy σ (s.resetGate a f) :=
  (hf hs).ite hs
theorem Tidy.execResetCommandWarm {a} (hs : Tidy σ s) : TidyNext σ (execResetCommandWarm a s) :=
  (hs.begin.resetGate fun hu => hu.mgmtWrite .commandWarm).next
theorem Tidy.execResetCommandCold {a} (hs : Tidy σ s) : TidyNext σ (execResetCommandCold a s) :=
  (hs.begin.resetGate fun hu => hu.mgmtWrite .coldReset).next
theorem Tidy.watchdogStart (hs : Tidy σ s) : Tidy σ s.watchdogStart := hs.put (by exact rfl)
theorem Tidy.execHeartbeat {part} (hs : Tidy σ s) : TidyNext σ (execHeartbeat part s) :=
  (hs.begin.whenRunning fun hu => (hu.put (by exact rfl)).ite hu).next
theorem Tidy.execWatchdogRestart (hs : Tidy σ s) : TidyNext σ (execWatchdogRestart s) :=
  (hs.begin.whenRunning fun hu => hu.watchdogStart.ite hu).next
theorem Tidy.setWarned (hs : Tidy σ s) : Tidy σ { s with power := { s.power with warned := true } } := hs.put (by exact rfl)
theorem Tidy.execWatchdogWarning (hs : Tidy σ s) : TidyNext σ (execWatchdogWarning s) :=
  (hs.begin.whenRunning fun hu => hu.ite hu.elapse.setWarned.fault).next
theorem Tidy.noteWatchdog {v} (hs : Tidy σ s) : Tidy σ { s with power := { s.power with standbyWatchdog := v } } :=
  hs.put (by exact rfl)
theorem Tidy.execWatchdogExpiry (hs : Tidy σ s) : TidyNext σ (execWatchdogExpiry s) :=
  (hs.begin.whenRunning fun hu => hu.elapse.noteWatchdog.warmReset.bump32.setNum).next
theorem Tidy.execDimmOvercurrent {dimm} (hs : Tidy σ s) : TidyNext σ (execDimmOvercurrent dimm s) :=
  (hs.begin.whenRunning fun hu => hu.ite (hu.put (by exact rfl)).channelFailed).next
theorem Tidy.execDimmFeedLow (hs : Tidy σ s) : TidyNext σ (execDimmFeedLow s) :=
  (hs.begin.whenRunning fun hu => (hu.put (by exact rfl)).foldl .channelFailed).next
theorem Tidy.fuseReread {changed} (hs : Tidy σ s) : Tidy σ (s.fuseReread changed) :=
  (hs.elapse.put (by exact rfl)).setNum.foldl fun hu => hu.bump32.fault.ite ((hu.put (by exact rfl)).ite hu)
theorem Tidy.execFuseReread {changed} (hs : Tidy σ s) : TidyNext σ (execFuseReread changed s) :=
  (hs.begin.whenRunning .fuseReread).next
/-- The last record gets another time; there are as many as before. -/
theorem Tidy.lateFault {code arg ftc} (hs : Tidy σ s) : Tidy σ (s.lateFault code arg ftc) := by
  unfold State.lateFault
  extract_lets +onlyGivenNames t
  have ht : Tidy σ t := hs.fault
  clear_value t
  refine { ht with faultLog := fun h => ?_ }
  have hl := ht.faultLog h
  rcases List.eq_nil_or_concat t.faults.log with e | ⟨l, r, e⟩
  · simp [e]
  · simpa [e] using hl

theorem Tidy.bootFive {b} (hs : Tidy σ s) : Tidy σ (s.bootFive b) := by
  unfold State.bootFive
  extract_lets +onlyGivenNames _ _ _ s2 s3
  have hs2 : Tidy σ s2 := by
    unfold s2
    split
    · exact (hs.put (by exact rfl)).lateFault
    · exact hs.put (by exact rfl)
  have hs3 : Tidy σ s3 := by
    unfold s3
    split
    · exact hs2.lateFault
    · exact hs2
  exact (hs3.put (by exact rfl)).watchdogStart

theorem Tidy.bootSix {cold channels feedLow} (hs : Tidy σ s) : Tidy σ (s.bootSix cold channels feedLow) :=
  (hs.put (by exact rfl)).foldl fun hu => hu.ite (hu.setChan.ite (hu.channelFailed.ite hu))
theorem Tidy.bootSeven {failed} (hs : Tidy σ s) : Tidy σ (s.bootSeven failed) :=
  ((hs.put (by exact rfl)).foldl fun hu => hu.ite hu.setStates.fault).foldl fun hu => hu.ite hu.startUnit

theorem Tidy.boot {k bankOk failed channels fuses feedLow} (hs : Tidy σ s) :
    Tidy σ (s.boot k bankOk failed channels fuses feedLow) := by
  unfold State.boot
  refine (((hs.put (by exact rfl)).ite hs).put (by exact rfl)).ite 
    (((((hs.put (by exact rfl)).ite hs).bump32.ite ((hs.put (by exact rfl)).ite hs)).put
      (by exact rfl)).bootFive.bootSix.bootSeven.ite ?_)
  exact ((((hs.put (by exact rfl)).ite hs).bump32.ite ((hs.put (by exact rfl)).ite hs)).put
    (by exact rfl)).bootFive.bootSix.bootSeven.ite (((hs.put (by exact rfl)).ite hs).put (by exact rfl))

theorem Tidy.execBoot {bankOk failed channels fuses feedLow} (hs : Tidy σ s) :
    TidyNext σ (execBoot bankOk failed channels fuses feedLow s) := by
  unfold Machine.execBoot
  refine Tidy.next ?_
  split
  · exact hs.begin.boot
  · exact hs.begin

/-! ### Machine/Inject.lean -/

theorem Tidy.lockedWrite {eff : State → State} {p index check} (hs : Tidy σ s) (heff : ∀ {t}, Tidy σ t → Tidy σ (eff t)) :
    Tidy σ (s.lockedWrite p index check eff) :=
  hs.openWrite heff
theorem Tidy.setInjection {e x} (hs : Tidy σ s) : Tidy σ (s.setInjection e x) := { hs with inject := hs.inject.write }

theorem Tidy.injectArm {t : State} {p} (hs : Tidy σ t) : Tidy σ (t.injectArm p) := by
  unfold State.injectArm
  exact hs.openWrite .setInjection

theorem Tidy.execInjectArm {p} (hs : Tidy σ s) : TidyNext σ (execInjectArm p s) := (hs.begin.whenRunning .injectArm).next

theorem Tidy.injectCancel {t : State} {p} (hs : Tidy σ t) : Tidy σ (t.injectCancel p) := by
  unfold State.injectCancel
  exact hs.openWrite .setInjection

theorem Tidy.execInjectCancel {p} (hs : Tidy σ s) : TidyNext σ (execInjectCancel p s) :=
  (hs.begin.whenRunning .injectCancel).next
theorem Tidy.injectOff (hs : Tidy σ s) : Tidy σ s.injectOff := hs.setNum.foldl .setInjection
theorem Tidy.execInjectDisable {p} (hs : Tidy σ s) : TidyNext σ (execInjectDisable p s) :=
  (hs.begin.whenRunning fun hu => hu.lockedWrite .injectOff).next
theorem Tidy.injectSag {us} (hs : Tidy σ s) : Tidy σ (s.injectSag us) :=
  (hs.setPowerEvents.bump.powerEvent.ite hs.setPowerEvents).put (by exact rfl)
theorem Tidy.injectSlip {n} (hs : Tidy σ s) : Tidy σ (s.injectSlip n) := hs.setSlot.slipIssue

theorem Tidy.injectEffect {x l} (hs : Tidy σ s) : TidyOk σ (s.injectEffect x l) := by
  unfold State.injectEffect
  split
  · exact (hs.put (by exact rfl)).ok
  · exact hs.laneFailed.ok
  · exact hs.bump.portLost.ok.ite .error
  · exact (hs.put (by exact rfl)).ok
  · exact (hs.put (by exact rfl)).ok
  · exact hs.injectSag.ok
  · exact hs.injectSlip.ok.ite .error
  · split
    · exact .error
    · exact hs.unitDo.ok
  · exact .error

theorem Tidy.injectFire {e} (hs : Tidy σ s) : Tidy σ (s.injectFire e) := by
  unfold State.injectFire
  refine hs.ite ?_
  dsimp only
  split
  · exact hs.atFtc.setInjection
  · split
    · exact hs.atFtc.setInjection
    · next t e =>
      have ht : Tidy σ t := (hs.atFtc.setInjection.put (by exact rfl)).injectEffect _ e
      exact ht.put (by exact rfl)

theorem Tidy.execInjectFire {entry} (hs : Tidy σ s) : TidyNext σ (execInjectFire entry s) :=
  (hs.begin.whenRunning .injectFire).next
theorem Tidy.toMs (hs : Tidy σ s) : Tidy σ s.toMs := hs.elapse
theorem Tidy.sampleOwner {k} (hs : Tidy σ s) : Tidy σ (s.sampleOwner k) :=
  hs.ite (hs.meter.meter.ite hs.bumpN.bumpN.bumpN.bumpN.bumpN)
theorem Tidy.execMeterSample (hs : Tidy σ s) : TidyNext σ (execMeterSample s) :=
  (hs.begin.whenRunning fun hu => hu.toMs.foldl .sampleOwner).next
theorem Tidy.setMeterModes {l : List Nat} {m : Nat → Nat} (hs : Tidy σ s) :
    Tidy σ { s with faults := { s.faults with
      meterMode := l.foldl (fun (st : Store Nat) k => Store.write 0 st k (m k)) s.faults.meterMode } } :=
  { hs with meterMode := hs.meterMode.foldl .write }
theorem Tidy.execMeterModeSwitch (hs : Tidy σ s) : TidyNext σ (execMeterModeSwitch s) :=
  (hs.begin.whenRunning fun hu => (hu.elapse.ite hu).setMeterModes).next
theorem Tidy.execManagementLaneLinkChange {lane} (hs : Tidy σ s) : TidyNext σ (execManagementLaneLinkChange lane s) :=
  (hs.begin.setNum.ite hs.begin).next

/-! ### Machine/RegView.lean -/

theorem Tidy.setMbx {m x} (hs : Tidy σ s) : Tidy σ (s.setMbx m x) := hs.put (by exact rfl)
theorem Tidy.setBus {b x} (hs : Tidy σ s) : Tidy σ (s.setBus b x) := hs.put (by exact rfl)

theorem Tidy.csrRead {i off} (hs : Tidy σ s) : Tidy σ (s.csrRead i off).2 := by
  unfold State.csrRead
  split
  · exact hs.busError
  · exact hs

/-! ### Machine/ObjView.lean -/

theorem Tidy.setSensor {n x} (hs : Tidy σ s) : Tidy σ (s.setSensor n x) := hs.put (by exact rfl)

/-! ### Machine/Fields.lean -/

theorem Tidy.partField {a addr n bad f} (hs : Tidy σ s) : Tidy σ (s.partField a addr n bad f) := hs.mgmtWrite .setPart
theorem Tidy.layerField {a addr n bad f} (hs : Tidy σ s) : Tidy σ (s.layerField a addr n bad f) := hs.mgmtWrite .setPart
theorem Tidy.storeField {a addr t bad f} (hs : Tidy σ s) : Tidy σ (s.storeField a addr t bad f) := hs.mgmtWrite .setStore
theorem Tidy.winField {a addr w bad f} (hs : Tidy σ s) : Tidy σ (s.winField a addr w bad f) := hs.mgmtWrite .setWindow
theorem Tidy.agentField {a n node port tenant} (hs : Tidy σ s) : Tidy σ (s.agentField a n node port tenant) :=
  hs.mgmtWrite .setAgent
theorem Tidy.streamField {a addr n bad f} (hs : Tidy σ s) : Tidy σ (s.streamField a addr n bad f) := hs.mgmtWrite .setStream
theorem Tidy.replayField {a p ns n} (hs : Tidy σ s) : Tidy σ (s.replayField a p ns n) := hs.mgmtWrite .setPort

/-! ### Machine/Waits.lean -/

theorem Tidy.writeDump (hs : Tidy σ s) : Tidy σ s.writeDump := hs.ite (hs.serviceWrite.setNum.put (by exact rfl))

theorem Tidy.execWaitTimeout {id} (hs : Tidy σ s) : TidyNext σ (execWaitTimeout id s) := by
  unfold Machine.execWaitTimeout
  refine (hs.begin.whenRunning fun hu => ?_).next
  split
  · exact hu
  · exact hu.elapse.writeDump.endWait

theorem Tidy.execWaitDumpComplete (hs : Tidy σ s) : TidyNext σ (execWaitDumpComplete s) := by
  unfold Machine.execWaitDumpComplete
  refine (hs.begin.whenRunning fun hu => ?_).next
  split
  · exact hu
  · exact hu.ite (hu.put (by exact rfl)).fault.eventOpen

theorem Tidy.waitBreak {p n} (hs : Tidy σ s) : Tidy σ (s.waitBreak p n) := by
  unfold State.waitBreak
  exact hs.openWrite fun hu => hu.foldl .endWait

theorem Tidy.execWaitBreak {p dump} (hs : Tidy σ s) : TidyNext σ (execWaitBreak p dump s) :=
  (hs.begin.whenRunning .waitBreak).next

/-! ### Machine/DictRead.lean -/

theorem Tidy.markRead {index sub} (hs : Tidy σ s) : Tidy σ (s.markRead index sub) := (hs.put (by exact rfl)).ite hs
theorem Tidy.openStatus (hs : Tidy σ s) : Tidy σ s.openStatus.2 := hs.free
theorem Tidy.whenServed {f : State → State} (hs : Tidy σ s) (hf : ∀ {t}, Tidy σ t → Tidy σ (f t)) :
    Tidy σ (s.whenServed f) :=
  (hf hs).ite hs

theorem Tidy.readValue {o index sub off most} (hs : Tidy σ s) : Tidy σ (s.readValue o index sub off most).2 := by
  unfold State.readValue
  dsimp only
  split
  · refine .ite_snd hs (.ite_snd ?_ ?_)
    · exact hs.openBytes
    · exact hs.markRead
  · exact .ite_snd hs hs.markRead

theorem Tidy.dictRead {index sub off most} (hs : Tidy σ s) : Tidy σ (s.dictRead index sub off most).2 := by
  unfold State.dictRead
  refine .ite_snd hs.openStatus (.ite_snd hs (.ite_snd hs ?_))
  dsimp only
  split
  · exact hs
  · exact hs.emit.openStatus
  · refine .ite_snd ?_ ?_
    · split
      · exact hs
      · exact .ite_snd hs hs
    · split
      · exact hs
      · exact .ite_snd hs hs.readValue

/-! ### Machine/DictWrite.lean -/

theorem Tidy.keepObj {k n bad} (hs : Tidy σ s) : Tidy σ (s.keepObj k n bad) := by
  unfold State.keepObj
  split
  · exact hs.answer
  · exact hs.setNum.answer

theorem Tidy.judged {f : State → State} {bad} (hs : Tidy σ s) (hf : ∀ {t}, Tidy σ t → Tidy σ (f t)) :
    Tidy σ (s.judged bad f) := by
  unfold State.judged
  split
  · exact hs.answer
  · exact (hf hs).answer

theorem Tidy.runs {f : State → Result} (hs : Tidy σ s) (hf : ∀ {t}, Tidy σ t → TidyNext σ (f t)) :
    Tidy σ (s.runs f) := by
  unfold State.runs
  split
  · next t e =>
    have ht : Tidy σ t := (hf hs) _ e
    exact ht.put (by exact rfl)
  · exact hs

theorem Tidy.writeUnit {p l sub n} (hs : Tidy σ s) : Tidy σ (s.writeUnit p l sub n) := by
  unfold State.writeUnit
  refine .ite ?_ ?_
  · split
    · exact hs.unitCommand
    · exact hs.answer
  · refine hs.keepObj.ite ?_
    split
    · exact hs.clockRequest.ite hs.keepObj
    · exact hs.keepObj.ite (hs.keepObj.ite (hs.waitBreak.ite hs.keepObj))
    · exact hs.keepObj

theorem Tidy.unlock {p n} (hs : Tidy σ s) : Tidy σ (s.unlock p n) := hs.setPath.answer.ite hs.setPath.answer
theorem Tidy.raiseEvent {n} (hs : Tidy σ s) : Tidy σ (s.raiseEvent n) := hs.judged fun hu => hu.free.event

theorem Tidy.writeEvents {sub n} (hs : Tidy σ s) : Tidy σ (s.writeEvents sub n) := by
  unfold State.writeEvents
  dsimp only
  split
  · exact hs.raiseEvent
  · exact hs.keepObj
  · exact hs.judged .setVector
  · exact hs.judged .setVector
  · exact hs.judged .setVector
  · exact hs.judged .setVector
  · exact hs.judged .setVector
  · exact hs.judged .setVector
  · exact hs.judged .setVector
  · exact hs.keepObj

theorem Tidy.writeSide {sub n} (hs : Tidy σ s) : Tidy σ (s.writeSide sub n) := by
  unfold State.writeSide
  dsimp only
  split
  · exact hs.judged .setSensor
  · exact hs.judged .setSensor
  · exact hs.keepObj

theorem Tidy.writePackage {sub n} (hs : Tidy σ s) : Tidy σ (s.writePackage sub n) :=
  hs.keepObj.ite ((hs.judged fun hu => hu.commandWarm.ite hu.coldReset).ite hs.keepObj)

theorem Tidy.writePort {p port sub n} (hs : Tidy σ s) : Tidy σ (s.writePort p port sub n) := by
  unfold State.writePort
  dsimp only
  split
  · exact hs.answer.ite hs.portCtl
  · exact hs.replayField
  · exact hs.replayField
  · exact hs.keepObj
  · exact hs.keepObj
  · exact hs.keepObj

theorem Tidy.writePlan {p slot sub n} (hs : Tidy σ s) : Tidy σ (s.writePlan p slot sub n) := by
  unfold State.writePlan
  refine .ite ?_ hs.keepObj
  split
  · exact hs.runs .execPlanLoad
  · exact hs.runs .execPlanArm
  · exact hs.planDisarm
  · exact hs.planHalt
  · exact hs.planHalt
  · exact hs.runs .execPlanResume
  · exact hs.runs .execPlanReset
  · exact hs.runs .execPlanUnload
  · exact hs.answer

theorem Tidy.writePart {p k sub n} (hs : Tidy σ s) : Tidy σ (s.writePart p k sub n) := by
  unfold State.writePart
  dsimp only
  split
  · exact hs.partField
  · exact hs.partField
  · exact hs.partField
  · exact hs.partField
  · exact hs.partField
  · exact hs.partField
  · exact hs.partField
  · exact hs.partField
  · exact hs.partField
  · exact hs.partField
  · exact hs.partBind.ite (hs.partUnbind.ite hs.partRepair)
  · exact hs.judged .setPart
  · exact hs.layerField
  · exact hs.layerField
  · exact hs.judged .setPart

theorem Tidy.writeStore {p t sub n} (hs : Tidy σ s) : Tidy σ (s.writeStore p t sub n) := by
  unfold State.writeStore
  dsimp only
  split
  · exact hs.storeField
  · exact hs.storeEnable.ite hs.storeDisable
  · exact hs.storeField
  · exact hs.storeField
  · exact hs.judged .setStore

theorem Tidy.writeWindow {p w sub n} (hs : Tidy σ s) : Tidy σ (s.writeWindow p w sub n) := by
  unfold State.writeWindow
  dsimp only
  split
  · exact hs.winField
  · exact hs.winField
  · exact hs.winField
  · exact hs.winField
  · exact (hs.runs .execWindowEnable).ite (hs.runs .execWindowDisable)

theorem Tidy.writeAgent {p k sub n} (hs : Tidy σ s) : Tidy σ (s.writeAgent p k sub n) := by
  unfold State.writeAgent
  dsimp only
  split
  · exact hs.agentField
  · exact hs.agentField
  · exact hs.agentField
  · exact (hs.runs .execAgentUnregister).ite (hs.runs .execAgentRegister)

theorem Tidy.writeTenant {p t sub n} (hs : Tidy σ s) : Tidy σ (s.writeTenant p t sub n) := hs.tenantWrite.ite hs.tenantWrite

theorem Tidy.writeInject {p sub n} (hs : Tidy σ s) : Tidy σ (s.writeInject p sub n) := by
  unfold State.writeInject
  dsimp only
  split
  · exact hs.judged .setInjection
  · exact hs.judged .setInjection
  · exact hs.judged .setInjection
  · exact hs.judged .setInjection
  · exact hs.judged .setInjection
  · exact hs.judged .setInjection
  · exact hs.injectArm.ite hs.injectCancel
  · exact hs.keepObj

theorem Tidy.writeCkpt {p c sub n} (hs : Tidy σ s) : Tidy σ (s.writeCkpt p c sub n) := by
  unfold State.writeCkpt
  dsimp only
  split
  · exact hs.judged .setCkpt
  · exact hs.judged .setCkpt
  · exact hs.judged .setCkpt
  · exact hs.judged .setCkpt
  · exact hs.judged .setCkpt
  · exact hs.judged .setCkpt
  · exact hs.ckptArm.ite hs.ckptCancel

theorem Tidy.writeFault {p sub n} (hs : Tidy σ s) : Tidy σ (s.writeFault p sub n) := by
  unfold State.writeFault
  split
  · exact hs.portUnfence
  · exact hs.judged fun hu => hu.injectOff.ite hu.setNum
  · exact hs.keepObj

theorem Tidy.snapshot {n} (hs : Tidy σ s) : Tidy σ (s.snapshot n) := hs.judged (fun hu => hu.put (by exact rfl))

theorem Tidy.writeSecurity {p sub n} (hs : Tidy σ s) : Tidy σ (s.writeSecurity p sub n) := by
  unfold State.writeSecurity
  refine .ite ?_ hs.keepObj
  split
  · exact hs.firmwareVerify
  · exact hs.firmwareActivate
  · exact hs.firmwareCommit
  · exact hs.firmwareAbort

theorem Tidy.writeNum {p index sub n} (hs : Tidy σ s) : Tidy σ (s.writeNum p index sub n) := by
  unfold State.writeNum
  refine .ite ?_ ?_
  · split
    · exact hs.writeUnit
    · exact hs.answer
  · refine hs.unlock.ite (hs.writeSide.ite ?_)
    refine hs.writeEvents.ite ((hs.judged fun hu => hu.setNum.applyStored).ite ?_)
    refine hs.ftcSet.ite (hs.writePackage.ite ?_)
    refine hs.writePort.ite (hs.keepObj.ite ?_)
    refine hs.jobAbortWrite.ite (hs.writePart.ite ?_)
    refine hs.writeStore.ite (hs.writeWindow.ite ?_)
    refine hs.writeAgent.ite (hs.writePlan.ite ?_)
    refine hs.writeSecurity.ite (hs.writeTenant.ite ?_)
    refine hs.writeFault.ite ?_
    exact hs.writeInject.ite ((hs.csAbortSlot.ite hs).answer.ite (hs.writeCkpt.ite (hs.snapshot.ite hs.keepObj)))

theorem Tidy.writeBytes {index sub b} (hs : Tidy σ s) : Tidy σ (s.writeBytes index sub b) :=
  (hs.setBytes.keyCheck.ite hs.setBytes).answer

/-! ### Machine/Dict.lean -/

theorem Tidy.lastStatus (hs : Tidy σ s) : Tidy σ s.lastStatus.2 := by
  unfold State.lastStatus
  split
  · exact hs.put (by exact rfl)
  · exact hs.openStatus

theorem Tidy.byRule {f : State → State} (hs : Tidy σ s) (hf : ∀ {t}, Tidy σ t → Tidy σ (f t)) : Tidy σ (s.byRule f).2 :=
  (hf (hs.put (by exact rfl))).lastStatus
theorem Tidy.dropStaging {p} (hs : Tidy σ s) : Tidy σ (s.dropStaging p) := hs.setPath

theorem Tidy.putFixed {p o index sub total size b armed} (hs : Tidy σ s) :
    Tidy σ (s.putFixed p o index sub total size b armed).2 := by
  unfold State.putFixed
  dsimp only
  split
  · exact hs
  · exact hs.ite_snd (hs.ite_snd (hs.byRule .writeNum))

theorem Tidy.putSegment {p o index sub off total b armed} (hs : Tidy σ s) :
    Tidy σ (s.putSegment p o index sub off total b armed).2 := by
  unfold State.putSegment
  refine hs.dropStaging.ite_snd (hs.dropStaging.ite_snd ?_)
  split
  · exact hs.dropStaging
  · refine hs.dropStaging.ite_snd (hs.setPath.ite_snd ?_)
    split
    · exact hs.dropStaging
    · exact hs.dropStaging.byRule .writeBytes

theorem Tidy.dictPut {p index sub off total b armed} (hs : Tidy σ s) :
    Tidy σ (s.dictPut p index sub off total b armed).2 := by
  unfold State.dictPut
  dsimp only
  split
  · exact hs.ite hs.dropStaging
  · refine (hs.ite hs.dropStaging).ite_snd ?_
    split
    · exact hs.ite hs.dropStaging
    · exact hs.byRule .emit
    · refine ((hs.ite hs.dropStaging).ite_snd (hs.ite hs.dropStaging)).ite_snd ?_
      split
      · exact hs.ite hs.dropStaging
      · split
        · exact (hs.ite hs.dropStaging).ite_snd hs.putFixed
        · exact hs.putSegment

theorem Tidy.armAfter {p unlocked renew before} (hs : Tidy σ s) : Tidy σ (s.armAfter p unlocked renew before) :=
  hs.ite (hs.setPath.ite hs.setPath)
theorem Tidy.pathPut {p index sub off total b} (hs : Tidy σ s) : Tidy σ (s.pathPut p index sub off total b).2 :=
  hs.dictPut.armAfter
theorem Tidy.execDictUnlock {p v} (hs : Tidy σ s) : TidyNext σ (execDictUnlock p v s) := (hs.begin.whenRunning .unlock).next

theorem Tidy.execUnlockArmLapse {p} (hs : Tidy σ s) : TidyNext σ (execUnlockArmLapse p s) := by
  unfold Machine.execUnlockArmLapse
  refine Tidy.next ?_
  split
  · exact hs.begin
  · exact hs.begin.elapse.setPath

theorem Tidy.execSegmentStagingExpiry {p} (hs : Tidy σ s) : TidyNext σ (execSegmentStagingExpiry p s) := by
  unfold Machine.execSegmentStagingExpiry
  refine Tidy.next ?_
  split
  · exact hs.begin
  · exact hs.begin.elapse.dropStaging

theorem Tidy.execEventRaise {p n} (hs : Tidy σ s) : TidyNext σ (execEventRaise p n s) :=
  (hs.begin.whenRunning fun hu => hu.takeArm.raiseEvent).next
theorem Tidy.execMeterSnapshot {p v} (hs : Tidy σ s) : TidyNext σ (execMeterSnapshot p v s) :=
  (hs.begin.whenRunning fun hu => hu.takeArm.snapshot).next

theorem Tidy.execMeterSnapshotLatch (hs : Tidy σ s) : TidyNext σ (execMeterSnapshotLatch s) := by
  unfold Machine.execMeterSnapshotLatch
  refine (hs.begin.whenRunning fun hu => ?_).next
  split
  · exact hu
  · exact ((hu.atFtc.put (by exact rfl)).foldl fun hu => hu.foldl .setNum).setNum

/-! ### Machine/Side.lean -/

theorem Tidy.ask {p r most} (hs : Tidy σ s) : Tidy σ (s.ask p r most).2 := by
  unfold State.ask
  split
  · exact (hs.armAfter.ite hs).emit
  · refine .ite_snd ?_ (.ite_snd ?_ hs)
    · exact hs.dictRead
    · exact hs.pathPut

theorem Tidy.setSide {p x} (hs : Tidy σ s) : Tidy σ (s.setSide p x) := (hs.put (by exact rfl)).ite (hs.put (by exact rfl))
theorem Tidy.sideAsk {p r most} (hs : Tidy σ s) : Tidy σ (s.sideAsk p r most) := hs.ask.setSide
theorem Tidy.sideRefuse {p st} (hs : Tidy σ s) : Tidy σ (s.sideRefuse p st) := hs.setSide
theorem Tidy.markFetched {seq} (hs : Tidy σ s) : Tidy σ (s.markFetched seq) :=
  { hs with eventLog := fun h => by simpa [State.markFetched] using hs.eventLog h }

theorem Tidy.execDictReq {data pecOk whole} (hs : Tidy σ s) : TidyNext σ (execDictReq data pecOk whole s) := by
  unfold Machine.execDictReq
  refine (hs.begin.whenServed fun hu => ?_).next
  refine hu.bump.ite (hu.sideRefuse.ite ?_)
  split
  · exact hu.sideRefuse
  · exact hu.sideAsk

theorem Tidy.execDictRsp (hs : Tidy σ s) : TidyNext σ (execDictRsp s) := by
  unfold Machine.execDictRsp
  refine (hs.begin.whenServed fun hu => ?_).next
  dsimp only
  split
  · exact hu.emit
  · exact hu.emit
  · exact hu.setSide.emit

theorem Tidy.execEventFetch (hs : Tidy σ s) : TidyNext σ (execEventFetch s) := by
  unfold Machine.execEventFetch
  refine (hs.begin.whenServed fun hu => ?_).next
  split
  · exact hu.openBytes.emit
  · exact hu.markFetched.emit

theorem Tidy.execSmbusSclTimeout (hs : Tidy σ s) : TidyNext σ (execSmbusSclTimeout s) := hs.begin.next
theorem Tidy.spiDiscard (hs : Tidy σ s) : Tidy σ s.spiDiscard := hs.setSide.bump.setPath
theorem Tidy.spiCheckFail (hs : Tidy σ s) : Tidy σ s.spiCheckFail := hs.sideRefuse.bump.setPath

theorem Tidy.spiRequest {edges words mine} (hs : Tidy σ s) : Tidy σ (s.spiRequest edges words mine) := by
  unfold State.spiRequest
  refine hs.spiDiscard.ite ?_
  exact hs.ite (hs.spiDiscard.ite (hs.spiCheckFail.ite (hs.sideRefuse.ite (hs.sideRefuse.ite hs.sideAsk))))

theorem Tidy.execSpiRead {edges words} (hs : Tidy σ s) : TidyNext σ (execSpiRead edges words s) :=
  (hs.begin.whenServed .spiRequest).next
theorem Tidy.execSpiWrite {edges words} (hs : Tidy σ s) : TidyNext σ (execSpiWrite edges words s) :=
  (hs.begin.whenServed .spiRequest).next
theorem Tidy.spiFetch {read : State → State} {edges r} (hs : Tidy σ s) (hread : ∀ {t}, Tidy σ t → Tidy σ (read t)) :
    Tidy σ (s.spiFetch edges r read) :=
  hs.spiDiscard.ite (hs.openBytes.emit.ite (hread hs.openBytes.emit).setSide)

theorem Tidy.execSpiFetchResponse {edges} (hs : Tidy σ s) : TidyNext σ (execSpiFetchResponse edges s) := by
  unfold Machine.execSpiFetchResponse
  refine (hs.begin.whenServed fun hu => ?_).next
  split
  · exact hu.spiFetch fun hu => hu
  · exact hu.spiFetch fun hu => hu
  · exact hu.spiFetch .setSide

theorem Tidy.execSpiFetchEvent {edges} (hs : Tidy σ s) : TidyNext σ (execSpiFetchEvent edges s) := by
  unfold Machine.execSpiFetchEvent
  refine (hs.begin.whenServed fun hu => ?_).next
  split
  · exact hu.spiFetch fun hu => hu
  · exact hu.spiFetch .markFetched

theorem Tidy.mbxGo {m} (hs : Tidy σ s) : Tidy σ (s.mbxGo m) := by
  unfold State.mbxGo
  dsimp only
  split <;> exact hs.ask.setMbx

theorem Tidy.mbxCommand {i m v} (hs : Tidy σ s) : Tidy σ (s.mbxCommand i m v) :=
  hs.mgmtWrite fun hu => hu.setMbx.mbxGo.ite hu.setMbx
theorem Tidy.execMailboxRead {i m v} (hs : Tidy σ s) : TidyNext σ (execMailboxRead i m v s) :=
  (hs.begin.whenRunning .mbxCommand).next
theorem Tidy.execMailboxWrite {i m v} (hs : Tidy σ s) : TidyNext σ (execMailboxWrite i m v s) :=
  (hs.begin.whenRunning .mbxCommand).next

theorem Tidy.settle {p r d} (hs : Tidy σ s) : Tidy σ (s.settle p r d) := by
  unfold State.settle
  split
  · exact hs.setMbx.ite hs
  · exact hs.setSide.ite hs
  · exact hs.setSide.ite hs
  · exact hs

/-! ### Machine/Aggregate.lean -/

theorem Tidy.requestHere {p r} (hs : Tidy σ s) : Tidy σ (s.requestHere p r) :=
  hs.dictRead.answer.ite (hs.pathPut.answer.ite hs.answer)

theorem Tidy.execAncestorRequest {p r reply} (hs : Tidy σ s) : TidyNext σ (execAncestorRequest p r reply s) := by
  unfold Machine.execAncestorRequest
  refine (hs.begin.whenRunning fun hu => ?_).next
  refine hu.answer.ite ?_
  split
  · exact hu.answer
  · exact hu.requestHere
  · split
    · exact hu.emit.settle.answer
    · exact hu.settle.answer

theorem Tidy.execCounterLatch (hs : Tidy σ s) (p) {index sub} : TidyNext σ (execCounterLatch p index sub s) :=
  (hs.begin.whenRunning fun hu => hu.atTick.dictRead.answer).next

theorem Tidy.execAggregateRead {p index sub packages} (hs : Tidy σ s) :
    TidyNext σ (execAggregateRead p index sub packages s) := by
  unfold Machine.execAggregateRead
  refine (hs.begin.whenRunning fun hu => ?_).next
  refine hu.answer.ite ?_
  split
  · exact hu.answer
  · exact hu.emit
  · exact (hu.put (by exact rfl)).foldl .emit

theorem Tidy.endAggregate {a} (hs : Tidy σ s) : Tidy σ (s.endAggregate a) :=
  ((hs.put (by exact rfl)).setNum.ite (hs.put (by exact rfl)).setNum.fault).emit

theorem Tidy.execAggregateReply {id package value} (hs : Tidy σ s) :
    TidyNext σ (execAggregateReply id package value s) := by
  unfold Machine.execAggregateReply
  refine (hs.begin.whenRunning fun hu => ?_).next
  split
  · exact hu
  · exact hu.ite ((hu.put (by exact rfl)).endAggregate.ite (hu.put (by exact rfl)))

theorem Tidy.execAggregateWindowEnd {id} (hs : Tidy σ s) : TidyNext σ (execAggregateWindowEnd id s) := by
  unfold Machine.execAggregateWindowEnd
  refine (hs.begin.whenRunning fun hu => ?_).next
  split
  · exact hu
  · exact hu.elapse.endAggregate

/-! ### Machine/Buses.lean -/

theorem Tidy.startRecovery {bus} (hs : Tidy σ s) : Tidy σ (s.startRecovery bus) := hs.setBus
theorem Tidy.setDimmHot {d h} (hs : Tidy σ s) : Tidy σ (s.setDimmHot d h) := { hs with dimmHot := hs.dimmHot.write }
theorem Tidy.busFailed {bus what} (hs : Tidy σ s) : Tidy σ (s.busFailed bus what) :=
  (hs.setSensor.ite hs).ite (hs.setDimmHot.ite hs)

theorem Tidy.sensorPoll {entry value} (hs : Tidy σ s) : Tidy σ (s.sensorPoll entry value) := by
  unfold State.sensorPoll
  refine hs.ite ?_
  split
  · exact hs.elapse.setSensor
  · exact hs.elapse.setSensor
  · exact hs.elapse.emit.setSensor
  · exact hs.elapse.emit.setSensor

theorem Tidy.execSensorPoll {entry value} (hs : Tidy σ s) : TidyNext σ (execSensorPoll entry value s) :=
  (hs.begin.whenRunning fun hu => hu.sensorPoll.ite hu).next

theorem Tidy.execDimmThermalPoll {dimm celsius} (hs : Tidy σ s) : TidyNext σ (execDimmThermalPoll dimm celsius s) := by
  unfold Machine.execDimmThermalPoll
  refine (hs.begin.whenRunning fun hu => ?_).next
  refine hu.ite ?_
  split
  · exact hu.setDimmHot
  · exact hu
  · exact hu.emit.setDimmHot

theorem Tidy.execBusTransactionTimeout {bus what} (hs : Tidy σ s) : TidyNext σ (execBusTransactionTimeout bus what s) := by
  unfold Machine.execBusTransactionTimeout
  refine (hs.begin.whenRunning fun hu => ?_).next
  refine hu.ite ?_
  split
  · exact hu
  · exact hu
  · exact hu.elapse.busFailed.startRecovery

theorem Tidy.execBusSdaStuck {bus what} (hs : Tidy σ s) : TidyNext σ (execBusSdaStuck bus what s) := by
  unfold Machine.execBusSdaStuck
  refine (hs.begin.whenRunning fun hu => ?_).next
  refine hu.ite ?_
  split
  · exact hu
  · exact hu
  · refine Tidy.startRecovery ?_
    split
    · exact hu.elapse.busFailed
    · exact hu.elapse

theorem Tidy.recoveryAttempt {bus pulses} (hs : Tidy σ s) : Tidy σ (s.recoveryAttempt bus pulses) :=
  hs.elapse.setBus.ite (hs.elapse.setBus.ite hs.elapse.elapse.setBus.bump32.free.eventOpen)
theorem Tidy.execBusRecoveryAttempt {bus pulses} (hs : Tidy σ s) : TidyNext σ (execBusRecoveryAttempt bus pulses s) :=
  (hs.begin.whenRunning fun hu => hu.recoveryAttempt.ite hu).next
theorem Tidy.busRecover {i bus go} (hs : Tidy σ s) : Tidy σ (s.busRecover i bus go) :=
  hs.mgmtWrite fun hu => hu.startRecovery.ite hu
theorem Tidy.execRecover {i bus} (hs : Tidy σ s) : TidyNext σ (execRecover i bus s) :=
  (hs.begin.whenRunning fun hu => hu.busRecover.ite hu).next

/-! ### Machine/Gdp.lean -/

theorem Tidy.gdpReadAll {l room} (hs : Tidy σ s) : Tidy σ (s.gdpReadAll l room).2 := by
  induction l generalizing s room with
  | nil => exact hs
  | cons e t ih => exact ih hs.dictRead

theorem Tidy.gdpReads {es} (hs : Tidy σ s) : Tidy σ (s.gdpReads es).2 := hs.ite_snd hs.gdpReadAll

theorem Tidy.gdpReadBody {h} (hs : Tidy σ s) : Tidy σ (s.gdpReadBody h).2 := by
  unfold State.gdpReadBody
  split
  · exact hs
  · exact hs.gdpReads.ite_snd hs

theorem Tidy.gdpHelloBody {h} (hs : Tidy σ s) : Tidy σ (s.gdpHelloBody h).2 := hs.ite_snd hs.gdpReads
theorem Tidy.gdpPut {start p e} (hs : Tidy σ s) : Tidy σ (s.gdpPut start p e).2 := hs.dictPut

theorem Tidy.gdpPutAll {start p l u} (hs : Tidy σ s) : Tidy σ (s.gdpPutAll start p l u).2.2 := by
  induction l generalizing s u with
  | nil => exact hs
  | cons e t ih => exact ih hs.gdpPut

theorem Tidy.gdpArm {start p es ends unlocked} (hs : Tidy σ s) : Tidy σ (s.gdpArm start p es ends unlocked) := by
  unfold State.gdpArm
  dsimp only
  split
  · exact hs.setPath
  · exact hs.armAfter

theorem Tidy.gdpWrites {p atomic es} (hs : Tidy σ s) : Tidy σ (s.gdpWrites p atomic es).2 := by
  unfold State.gdpWrites
  dsimp only
  split
  · dsimp only
    exact hs.armAfter
  · exact hs.gdpPutAll.gdpArm

theorem Tidy.gdpWriteBody {p secured h} (hs : Tidy σ s) : Tidy σ (s.gdpWriteBody p secured h).2 := by
  unfold State.gdpWriteBody
  split
  · exact hs
  · exact hs.ite_snd (hs.ite_snd hs.gdpWrites)

theorem Tidy.setFlashBank {b x} (hs : Tidy σ s) : Tidy σ (s.setFlashBank b x) := { hs with flashBanks := hs.flashBanks.write }
theorem Tidy.flashStore {bank off data} (hs : Tidy σ s) : Tidy σ (s.flashStore bank off data) := by
  unfold State.flashStore
  extract_lets +onlyGivenNames f0 _ s1
  have hf0 : Tidied 0 σ.mgmt.flash f0 := by
    unfold f0
    split
    · exact hs.flash.filter
    · exact hs.flash
  have hs1 : Tidy σ s1 := { hs with flash := fun h => wf_writeRange _ _ _ (hf0 h) }
  exact hs1.setFlashBank.setBank

theorem Tidy.flashBody {p secured h} (hs : Tidy σ s) : Tidy σ (s.flashBody p secured h).2 := by
  unfold State.flashBody
  refine hs.ite_snd (hs.ite_snd ?_)
  refine hs.ite_snd (hs.ite_snd ?_)
  split
  · exact hs
  · exact hs.flashStore.setFlashBank

theorem Tidy.countGdp {addr} (hs : Tidy σ s) : Tidy σ (s.countGdp addr) := hs.put (by exact rfl)
theorem Tidy.keepReply {p seq reply} (hs : Tidy σ s) : Tidy σ (s.keepReply p seq reply) := hs.put (by exact rfl)

theorem Tidy.gdpRequest {perform : State → GdpEnd × State} {addr udp seq h} (hs : Tidy σ s)
    (hperform : ∀ {t}, Tidy σ t → Tidy σ (perform t).2) :
    Tidy σ (s.gdpRequest addr udp seq h perform) := by
  unfold State.gdpRequest
  extract_lets +onlyGivenNames _
  split
  · exact hs.bump.bump.emit
  · refine hs.bump.ite ?_
    extract_lets +onlyGivenNames e
    have he : Tidy σ e.2 := hperform hs.countGdp.bump
    exact he.ite (he.keepReply.emit.ite he.emit)

theorem Tidy.gdpArrive {perform : GdpHead → State → GdpEnd × State} {addr udp frame type} (hs : Tidy σ s)
    (hperform : ∀ {a0 t}, Tidy σ t → Tidy σ (perform a0 t).2) :
    Tidy σ (s.gdpArrive addr udp frame type perform) := by
  unfold State.gdpArrive
  dsimp only
  split
  · exact hs.bump
  · exact hs.bump.emit.ite (hs.bump.emit.ite (hs.ite (hs.gdpRequest fun hu => hperform hu)))

theorem Tidy.execGdpHello {addr udp frame} (hs : Tidy σ s) : TidyNext σ (execGdpHello addr udp frame s) :=
  (hs.begin.whenServed fun hu => hu.gdpArrive .gdpHelloBody).next
theorem Tidy.execGdpRead {addr udp frame} (hs : Tidy σ s) : TidyNext σ (execGdpRead addr udp frame s) :=
  (hs.begin.whenServed fun hu => hu.gdpArrive .gdpReadBody).next
theorem Tidy.execGdpWrite {addr udp frame} (hs : Tidy σ s) : TidyNext σ (execGdpWrite addr udp frame s) :=
  (hs.begin.whenServed fun hu => hu.gdpArrive .gdpWriteBody).next
theorem Tidy.execFlashWrite {addr udp frame} (hs : Tidy σ s) : TidyNext σ (execFlashWrite addr udp frame s) :=
  (hs.begin.whenServed fun hu => hu.gdpArrive .flashBody).next

theorem Tidy.gdpSecured {session addr udp seq frame} (hs : Tidy σ s) :
    Tidy σ (s.gdpSecured session addr udp seq frame) := by
  unfold State.gdpSecured
  dsimp only
  split
  · exact hs.bump
  · split
    · exact hs.bump.emit
    · refine hs.bump.emit.ite ?_
      exact hs.bump.emit.ite (hs.gdpRequest fun hu => hu.gdpReadBody.ite_snd (hu.gdpWriteBody.ite_snd hu.flashBody))

theorem Tidy.execGdpSecured {session addr udp seq frame} (hs : Tidy σ s) :
    TidyNext σ (execGdpSecured session addr udp seq frame s) :=
  (hs.begin.whenRunning .gdpSecured).next

theorem Tidy.execFlashWriteDone {bank} (hs : Tidy σ s) : TidyNext σ (execFlashWriteDone bank s) := by
  unfold Machine.execFlashWriteDone
  refine (hs.begin.whenServed fun hu => ?_).next
  refine hu.ite ?_
  dsimp only
  split
  · exact hu.setFlashBank
  · exact hu.setFlashBank.keepReply.emit

/-! ### Machine/Lane.lean -/

theorem Tidy.ackEvents {dest seq} (hs : Tidy σ s) : Tidy σ (s.ackEvents dest seq) :=
  { hs with eventLog := fun h => by simpa [State.ackEvents] using hs.eventLog h }
theorem Tidy.execEventAck {dest seq} (hs : Tidy σ s) : TidyNext σ (execEventAck dest seq s) :=
  (hs.begin.whenRunning .ackEvents).next
theorem Tidy.resendEvent {f} (hs : Tidy σ s) : Tidy σ (s.resendEvent f) :=
  (hs.elapse.put (by exact rfl)).emit.ite (hs.elapse.put (by exact rfl)).bumpN

theorem Tidy.execEventResend {dest} (hs : Tidy σ s) : TidyNext σ (execEventResend dest s) := by
  unfold Machine.execEventResend
  refine (hs.begin.whenRunning fun hu => ?_).next
  split
  · exact hu.resendEvent
  · exact hu

theorem Tidy.deliverGathered {x l} (hs : Tidy σ s) : Tidy σ (s.deliverGathered x l) :=
  (hs.foldl fun hu => hu.foldl .sendEvent).foldl .deliverOther

theorem Tidy.execEventHoldoffExpiry {vector} (hs : Tidy σ s) : TidyNext σ (execEventHoldoffExpiry vector s) := by
  unfold Machine.execEventHoldoffExpiry
  refine (hs.begin.whenRunning fun hu => ?_).next
  dsimp only
  split
  · exact hu
  · exact hu.elapse.setVector.deliverGathered

theorem Tidy.execIcmpv6Echo {source dest payload} (hs : Tidy σ s) : TidyNext σ (execIcmpv6Echo source dest payload s) :=
  (hs.begin.whenServed fun hu => hu.emit.ite hu).next
theorem Tidy.learn {a mac} (hs : Tidy σ s) : Tidy σ (s.learn a mac) := hs.put (by exact rfl)
theorem Tidy.neighborDiscovery {type source target mac} (hs : Tidy σ s) :
    Tidy σ (s.neighborDiscovery type source target mac) :=
  (hs.ite (hs.ite hs.learn).emit).ite (hs.learn.ite hs)
theorem Tidy.execNeighborDiscovery {type source target mac} (hs : Tidy σ s) :
    TidyNext σ (execNeighborDiscovery type source target mac s) :=
  (hs.begin.whenServed .neighborDiscovery).next

/-! ### Machine/Csr.lean -/

theorem Tidy.plain {f : State → State} {i addr bad} (hs : Tidy σ s) (hf : ∀ {t}, Tidy σ t → Tidy σ (f t)) :
    Tidy σ (s.plain i addr bad f) :=
  hs.openWrite hf
theorem Tidy.owned {f : State → State} {i addr bad} (hs : Tidy σ s) (hf : ∀ {t}, Tidy σ t → Tidy σ (f t)) :
    Tidy σ (s.owned i addr bad f) :=
  hs.mgmtWrite hf

theorem Tidy.arbWrite {i h addr v} (hs : Tidy σ s) : TidySome σ (s.arbWrite i h addr v) := by
  unfold State.arbWrite
  refine (hs.plain .setReg).some.ite ?_
  exact hs.arbSeed.some.ite ((hs.plain .setReg).some.ite ((hs.plain .setReg).some.ite .none))

theorem Tidy.hubUnlockWrite {i v} (hs : Tidy σ s) : Tidy σ (s.hubUnlockWrite i v) := hs.plain .setCsrReq
theorem Tidy.hubWrite {i h addr v} (hs : Tidy σ s) : Tidy σ (s.hubWrite i h addr v) :=
  (hs.plain .setCsrReq).ite (hs.hubUnlockWrite.ite (hs.plain fun hu => hu.setReg.ite hu))

theorem Tidy.plnWrite {i h addr v} (hs : Tidy σ s) : Tidy σ (s.plnWrite i h addr v) := by
  unfold State.plnWrite
  split
  · exact hs.planDisarm
  · exact hs.planHalt
  · exact hs.planHalt
  · exact hs.openWrite fun hu => hu

theorem Tidy.pwrWrite {i h addr v} (hs : Tidy σ s) : Tidy σ (s.pwrWrite i h addr v) := by
  unfold State.pwrWrite
  refine (hs.owned fun hu => hu.put (by exact rfl)).ite ?_
  exact ((hs.runs .execResetCommandWarm).ite ((hs.runs .execResetCommandCold).ite (hs.mgmtWrite fun hu => hu))).ite
    (hs.owned fun hu => hu.put (by exact rfl))

theorem Tidy.secWrite {i h addr v} (hs : Tidy σ s) : Tidy σ (s.secWrite i h addr v) := by
  unfold State.secWrite
  refine hs.tenantWrite.ite (hs.clusterOwnerWrite.ite ?_)
  exact hs.portBindWrite.ite ((hs.mgmtWrite fun hu => hu.setCrypt.keyCheck).ite ((hs.owned fun hu => hu.put
    (by exact rfl)).ite hs.secAssign))

theorem Tidy.mgmtRegWrite {i h addr v} (hs : Tidy σ s) : Tidy σ (s.mgmtRegWrite i h addr v) :=
  hs.mbxCommand.ite ((hs.owned .setMbx).ite ((hs.owned .setMbx).ite ((hs.owned .setMbx).ite hs.busRecover)))
theorem Tidy.portWrite {i h addr v} (hs : Tidy σ s) : Tidy σ (s.portWrite i h addr v) :=
  hs.portCtl.ite ((hs.owned .setPort).ite hs.replayField)

theorem Tidy.swcWrite {i h addr v} (hs : Tidy σ s) : Tidy σ (s.swcWrite i h addr v) := by
  unfold State.swcWrite
  refine (hs.plain .setReg).ite (hs.lgMembersWrite.ite ?_)
  refine hs.lgMembersWrite.ite (((hs.runs .execLgRebalance).ite (hs.openWrite fun hu => hu)).ite ?_)
  exact hs.quotaWrite.ite (hs.routeWrite.ite ((hs.plain .stageLo).ite hs.mcWrite))

theorem Tidy.trfWrite {i h addr v} (hs : Tidy σ s) : Tidy σ (s.trfWrite i h addr v) := by
  unfold State.trfWrite
  refine (hs.gateCycleStart.ite ((hs.gateCycleStop.setReg.ite hs.gateCycleStop).ite (hs.owned .setReg))).ite ?_
  refine (hs.owned .stageLo).ite ((hs.takeLo.owned fun hu => hu.setReg.setReg).ite ?_)
  refine (hs.owned .setReg).ite ((hs.owned .setReg).ite ?_)
  refine ((hs.runs .execTrfIndRead).ite ((hs.runs .execTrfIndWrite).ite (hs.owned fun hu => hu))).ite ?_
  exact (hs.owned .stageLo).ite (hs.gateEntryWrite.ite (hs.owned .setReg))

theorem Tidy.stageField {i addr v busy} (hs : Tidy σ s) : Tidy σ (s.stageField i addr v busy) := hs.owned .stageLo

theorem Tidy.partRegWrite {i h addr v} (hs : Tidy σ s) : Tidy σ (s.partRegWrite i h addr v) := by
  unfold State.partRegWrite
  refine hs.stageField.ite (hs.takeLo.partField.ite ?_)
  refine hs.partField.ite (hs.partField.ite ?_)
  refine hs.partField.ite (hs.partField.ite ?_)
  refine hs.partField.ite (hs.stageField.ite ?_)
  refine hs.takeLo.layerField.ite (hs.layerField.ite ?_)
  extract_lets +onlyGivenNames t
  have ht : Tidy σ t := by
    unfold t
    split
    · exact hs.owned fun hu => hu
    · exact hs.partBind
    · exact hs.partUnbind
    · exact hs.partRepair
  exact ht.setPart.ite ht

theorem Tidy.memWriteReg {i h addr v} (hs : Tidy σ s) : Tidy σ (s.memWriteReg i h addr v) := by
  unfold State.memWriteReg
  refine hs.chanOwnerWrite.ite (.ite ?_ hs.partRegWrite)
  split
  · exact hs.chanDeclare
  · exact hs.chanRestore
  · exact hs.mgmtWrite fun hu => hu

theorem Tidy.kvWrite {i h addr v} (hs : Tidy σ s) : Tidy σ (s.kvWrite i h addr v) := by
  unfold State.kvWrite
  refine (hs.storeEnable.ite ((hs.storeDisable.ite (hs.owned fun hu => hu)).ite hs.storeField)).ite ?_
  exact hs.storeField.ite (hs.owned .setStore)

theorem Tidy.cohWrite {i h addr v} (hs : Tidy σ s) : Tidy σ (s.cohWrite i h addr v) := by
  unfold State.cohWrite
  refine (hs.owned .setNum).ite ((hs.runs .execWayMaskWrite).ite ?_)
  refine hs.stageField.ite (hs.takeLo.winField.ite ?_)
  refine hs.winField.ite (hs.winField.ite ?_)
  refine .ite ?_ ?_
  · refine (hs.runs .execWindowEnable).ite ?_
    exact ((hs.runs .execWindowDisable).ite (hs.owned fun hu => hu)).ite hs.winField
  · refine hs.agentField.ite ?_
    split
    · exact hs.runs .execAgentUnregister
    · exact hs.owned fun hu => hu
    · exact hs.runs .execAgentRegister

theorem Tidy.czWrite {i h addr v} (hs : Tidy σ s) : Tidy σ (s.czWrite i h addr v) := by
  unfold State.czWrite
  refine hs.streamField.ite (hs.streamField.ite ?_)
  exact hs.streamField.ite (hs.streamField.ite ((hs.runs .execStreamEnable).ite (hs.runs .execStreamDisable)))

theorem Tidy.vsrWrite {i h addr v} (hs : Tidy σ s) : Tidy σ (s.vsrWrite i h addr v) := hs.owned fun hu => hu.vsOff.ite hu

theorem Tidy.regWrite {i h addr v} (hs : Tidy σ s) : Tidy σ (s.regWrite i h addr v) := by
  unfold State.regWrite
  dsimp only
  split
  · next t e =>
    have ht : Tidy σ t := hs.arbWrite _ e
    exact ht
  · refine hs.hubWrite.ite (hs.pwrWrite.ite ?_)
    refine hs.secWrite.ite (hs.mgmtRegWrite.ite ?_)
    refine hs.pwrWrite.ite (hs.portWrite.ite ?_)
    refine hs.swcWrite.ite (hs.trfWrite.ite ?_)
    exact hs.cohWrite.ite (hs.memWriteReg.ite (hs.czWrite.ite (hs.kvWrite.ite (hs.vsrWrite.ite hs.plnWrite))))

theorem Tidy.refuseWrite {i off st} (hs : Tidy σ s) : Tidy σ (s.refuseWrite i off st) := hs.takeArm.takeLo.busError.answer
theorem Tidy.nameAlias {t : State} {before off} (hs : Tidy σ t) : Tidy σ (t.nameAlias before off) := hs.ite hs.setReg

theorem Tidy.csrPut {i off v} (hs : Tidy σ s) : Tidy σ (s.csrPut i off v) := by
  unfold State.csrPut
  refine hs.refuseWrite.ite ?_
  split
  · exact hs.refuseWrite
  · split
    · exact hs.refuseWrite
    · exact hs.regWrite.nameAlias.ite hs.regWrite

theorem Tidy.execCsrWrite {i addr v} (hs : Tidy σ s) : TidyNext σ (execCsrWrite i addr v s) :=
  (hs.begin.whenRunning .csrPut).next
theorem Tidy.execCsrAliasWrite {i k addr v} (hs : Tidy σ s) : TidyNext σ (execCsrAliasWrite i k addr v s) :=
  (hs.begin.whenRunning .csrPut).next
theorem Tidy.execHubUnlock {i v} (hs : Tidy σ s) : TidyNext σ (execHubUnlock i v s) :=
  (hs.begin.whenRunning .hubUnlockWrite).next

/-! ### Machine/Remote.lean -/

theorem Tidy.refuseAddress {o st} (hs : Tidy σ s) : Tidy σ (s.refuseAddress o st) :=
  (hs.free.busError.ite (hs.busError.ite hs)).respond

theorem Tidy.sramEffect {o} (hs : Tidy σ s) : Tidy σ (s.sramEffect o).2 := by
  unfold State.sramEffect
  refine hs.ite_snd (.ite_snd ?_ hs.sramWrite)
  split
  · exact hs
  · exact hs.sramWrite

theorem Tidy.sramAccess {o} (hs : Tidy σ s) : Tidy σ (s.sramAccess o) := by
  unfold State.sramAccess
  split
  · exact hs.respond
  · exact hs.sramEffect.endAccess

theorem Tidy.syncPut {i n k v} (hs : Tidy σ s) : Tidy σ (s.syncPut i n k v).2 := by
  unfold State.syncPut
  dsimp only
  split
  · exact hs.syncUpdate
  · exact hs.ite_snd (hs.ite_snd hs.setSync)
  · exact hs.ite_snd hs.setSync
  · exact hs.ite_snd (hs.ite_snd hs)
  · exact hs.ite_snd hs
  · exact hs.ite_snd hs
  · exact hs.ite_snd hs

theorem Tidy.syncAtomic {o n} (hs : Tidy σ s) : Tidy σ (s.syncAtomic o n).2 := (hs.syncUpdate.ite hs).ite_snd hs.syncUpdate

theorem Tidy.syncAccess {o} (hs : Tidy σ s) : Tidy σ (s.syncAccess o) := by
  unfold State.syncAccess
  refine hs.respond.ite (hs.endAccess.ite ?_)
  exact (hs.respond.ite hs.syncAtomic.endAccess).ite (hs.syncPut.respond.ite hs.syncPut.endAccess)

theorem Tidy.queuePut {i off v} (hs : Tidy σ s) : Tidy σ (s.queuePut i off v).2 := by
  unfold State.queuePut
  refine hs.ite_snd (hs.contextWrite.ite_snd ?_)
  split
  · exact hs.commitWrite
  · exact hs.controlWrite
  · exact hs
  · exact hs

theorem Tidy.queueAccess {o} (hs : Tidy σ s) : Tidy σ (s.queueAccess o) :=
  (hs.ite_snd hs.queuePut).respond.ite (hs.ite_snd hs.queuePut).endAccess
theorem Tidy.csrAccess {o} (hs : Tidy σ s) : Tidy σ (s.csrAccess o) :=
  (hs.csrRead.respond.ite hs.csrRead.endAccess).ite ((hs.csrPut.put (by exact rfl)).respond.ite (hs.csrPut.put
    (by exact rfl)).endAccess)

theorem Tidy.accessRegion {o} (hs : Tidy σ s) : Tidy σ (s.accessRegion o) := by
  unfold State.accessRegion
  split
  · exact hs.refuseAddress
  · split
    · exact hs.poolSubmit
    · exact hs.cohAccess
    · exact hs.sramAccess
    · exact hs.syncAccess
    · exact hs.queueAccess
    · exact hs.csrAccess
    · exact hs.kvRegion

theorem Tidy.remoteOp {o postedOk mdMask mcast} (hs : Tidy σ s) : Tidy σ (s.remoteOp o postedOk mdMask mcast) :=
  hs.whenRunning fun hu => hu.front .accessRegion
theorem Tidy.execPut {o} (hs : Tidy σ s) : TidyNext σ (execPut o s) := hs.remoteOp.next
theorem Tidy.execGet {o} (hs : Tidy σ s) : TidyNext σ (execGet o s) := hs.remoteOp.next
theorem Tidy.execPutNotify {o} (hs : Tidy σ s) : TidyNext σ (execPutNotify o s) := hs.remoteOp.next
theorem Tidy.remoteAtomic {o postedOk} (hs : Tidy σ s) : Tidy σ (s.remoteAtomic o postedOk) :=
  (hs.whenRunning fun hu => hu.begin.respond).ite hs.remoteOp
theorem Tidy.execAtomic {o} (hs : Tidy σ s) : TidyNext σ (execAtomic o s) := hs.remoteAtomic.next
theorem Tidy.execFetchOp {o} (hs : Tidy σ s) : TidyNext σ (execFetchOp o s) := hs.remoteAtomic.next

theorem Tidy.onValue {go : State → Nat → State} {o} (hs : Tidy σ s) (hgo : ∀ {t a0}, Tidy σ t → Tidy σ (go t a0)) :
    Tidy σ (s.onValue o go) := by
  unfold State.onValue
  dsimp only
  split
  · exact hs.refuseAddress
  · exact hs.respond.ite (hs.respond.ite (hgo hs))

theorem Tidy.execNotify {o0} (hs : Tidy σ s) : TidyNext σ (execNotify o0 s) :=
  (hs.whenRunning fun hu => hu.front fun hu => hu.onValue .startNotify).next
/-- A wait joins the table only where the table has room (R95). -/
theorem Tidy.addWait {w nextWait} (hs : Tidy σ s) (h : ¬ 32768 ≤ s.remote.waits.length) :
    Tidy σ { s with remote := { s.remote with waits := s.remote.waits ++ [w], nextWait } } :=
  { hs with waits := fun _ => by simp; omega }

theorem Tidy.registerWait {o n} (hs : Tidy σ s) : Tidy σ (s.registerWait o n) := by
  unfold State.registerWait
  split
  · exact hs.respond
  · next h => exact hs.respond.ite (hs.addWait h).openOp
theorem Tidy.execWait {o0} (hs : Tidy σ s) : TidyNext σ (execWait o0 s) :=
  (hs.whenRunning fun hu => hu.front fun hu => hu.onValue .registerWait).next
theorem Tidy.localOp {go : State → State} {o mdMask} (hs : Tidy σ s) (hgo : ∀ {t}, Tidy σ t → Tidy σ (go t)) :
    Tidy σ (s.localOp o mdMask go) :=
  hs.whenRunning fun hu => hu.begin.respond.ite (hu.begin.respond.ite (hu.begin.respond.ite (hu.begin.respond.ite (hgo hu.begin))))
theorem Tidy.execFence {o0} (hs : Tidy σ s) : TidyNext σ (execFence o0 s) :=
  (hs.localOp fun hu => hu.endFence.wake.ite (hu.put (by exact rfl))).next
theorem Tidy.execNop {o0} (hs : Tidy σ s) : TidyNext σ (execNop o0 s) := (hs.localOp .respond).next

/-! ### Machine/TierHint.lean -/

theorem Tidy.hintAnswer {o result detail merged} (hs : Tidy σ s) : Tidy σ (s.hintAnswer o result detail merged) :=
  (hs.put (by exact rfl)).openOp.endHints.ite hs.respond
theorem Tidy.askRange {n first count toNear cause} (hs : Tidy σ s) : Tidy σ (s.askRange n first count toNear cause).2.2 :=
  Tidy.foldl_snd_snd (x := (0, 0, s)) hs fun hu => .ite_snd_snd hu hu.askMove

theorem Tidy.hintRangeOp {flags : State → Nat → Nat → Nat → State} {o toNear extra} (hs : Tidy σ s)
    (hflags : ∀ {t a0 a1 a2}, Tidy σ t → Tidy σ (flags t a0 a1 a2)) :
    Tidy σ (s.hintRangeOp o toNear extra flags) := by
  unfold State.hintRangeOp
  split
  · exact hs.respond
  · refine (hs.respond.ite (hflags hs).hintAnswer).ite ?_
    split
    · exact hs.respond
    · exact (hflags hs).askRange.hintAnswer

theorem Tidy.execPromote {o} (hs : Tidy σ s) : TidyNext σ (execPromote o s) :=
  (hs.unitOp fun hu => hu.hintRangeOp fun hu => hu).next
theorem Tidy.execDemote {o} (hs : Tidy σ s) : TidyNext σ (execDemote o s) :=
  (hs.unitOp fun hu => hu.hintRangeOp fun hu => hu).next
theorem Tidy.execPin {o} (hs : Tidy σ s) : TidyNext σ (execPin o s) :=
  (hs.unitOp fun hu => hu.hintRangeOp .mapPagesIn).next

theorem Tidy.execUnpin {o} (hs : Tidy σ s) : TidyNext σ (execUnpin o s) := by
  unfold Machine.execUnpin
  refine (hs.unitOp fun hu => ?_).next
  split
  · exact hu.respond
  · exact hu.mapPagesIn.hintAnswer

theorem Tidy.execLayer {o} (hs : Tidy σ s) : TidyNext σ (execLayer o s) := by
  unfold Machine.execLayer
  refine (hs.unitOp fun hu => ?_).next
  split
  · exact hu.respond
  · refine hu.respond.ite (hu.respond.ite ?_)
    split
    · exact hu.respond
    · exact hu.respond.ite hu.layerUsed.prefetchLayer.hintAnswer

theorem Tidy.execCancel {o} (hs : Tidy σ s) : TidyNext σ (execCancel o s) := by
  unfold Machine.execCancel
  refine (hs.unitOp fun hu => ?_).next
  split
  · exact hu.respond
  · exact hu.dropMoves.bumpN.hintAnswer

/-! ### One step -/

/-- Every row of the opcode table is tidy. -/
theorem Tidy.exec (c : Instr) (hs : Tidy σ s) : TidyNext σ (exec c s) :=
  match c with
  | .csrWrite _ _ _ => hs.execCsrWrite
  | .csrAliasWrite _ _ _ _ => hs.execCsrAliasWrite
  | .hubUnlock _ _ => hs.execHubUnlock
  | .dictUnlock _ _ => hs.execDictUnlock
  | .unlockArmLapse _ => hs.execUnlockArmLapse
  | .segmentStagingExpiry _ => hs.execSegmentStagingExpiry
  | .unitQuiesce _ _ => hs.execUnitQuiesce
  | .quiesceDrained _ => hs.execQuiesceDrained
  | .quiesceTimeout _ => hs.execQuiesceTimeout
  | .unitResume _ _ => hs.execUnitResume
  | .unitReset _ _ => hs.execUnitReset
  | .unitResetComplete _ => hs.execUnitResetComplete
  | .unitPowerDown _ _ => hs.execUnitPowerDown
  | .unitPowerUp _ _ => hs.execUnitPowerUp
  | .unitUpdateBegin _ _ => hs.execUnitUpdateBegin
  | .unitUpdateEnd _ _ => hs.execUnitUpdateEnd
  | .groupQueueTake _ => hs.execGroupQueueTake
  | .ancestorRequest _ _ _ => hs.execAncestorRequest
  | .aggregateRead _ _ _ _ => hs.execAggregateRead
  | .aggregateReply _ _ _ => hs.execAggregateReply
  | .aggregateWindowEnd _ => hs.execAggregateWindowEnd
  | .counterLatch p _ _ => hs.execCounterLatch p
  | .put _ => hs.execPut
  | .get _ => hs.execGet
  | .atomic _ => hs.execAtomic
  | .fetchOp _ => hs.execFetchOp
  | .notify _ => hs.execNotify
  | .putNotify _ => hs.execPutNotify
  | .fence _ => hs.execFence
  | .wait _ => hs.execWait
  | .nop _ => hs.execNop
  | .waitTimeout _ => hs.execWaitTimeout
  | .waitDumpComplete => hs.execWaitDumpComplete
  | .waitBreak _ _ => hs.execWaitBreak
  | .qdbCommit _ _ _ => hs.execQdbCommit
  | .queueEnable _ _ => hs.execQueueEnable
  | .queueDisable _ _ => hs.execQueueDisable
  | .queueDisableDrained _ => hs.execQueueDisableDrained
  | .queueFlush _ _ => hs.execQueueFlush
  | .queueFlushEnd _ => hs.execQueueFlushEnd
  | .clearSticky _ _ => hs.execClearSticky
  | .queueContextPut _ _ _ _ => hs.execQueueContextPut
  | .itemStart _ _ => hs.execItemStart
  | .itemComplete _ => hs.execItemComplete
  | .queueRingReadFail _ _ => hs.execQueueRingReadFail
  | .postedFailureReport _ _ _ => hs.execPostedFailureReport
  | .postedTimeout _ _ => hs.execPostedTimeout
  | .responseReceive _ _ _ _ _ => hs.execResponseReceive
  | .planLoad _ _ => hs.execPlanLoad
  | .planLoadCopyDone _ _ => hs.execPlanLoadCopyDone
  | .clusterDrained _ => hs.execClusterDrained
  | .planArm _ _ => hs.execPlanArm
  | .armRequest _ _ _ _ => hs.execArmRequest
  | .armReply _ _ _ => hs.execArmReply
  | .armDecision _ => hs.execArmDecision
  | .planDisarm _ _ => hs.execPlanDisarm
  | .disarmReceived _ => hs.execDisarmReceived
  | .planStart _ => hs.execPlanStart
  | .planHaltBoundary _ _ => hs.execPlanHaltBoundary
  | .planHaltNow _ _ => hs.execPlanHaltNow
  | .planResume _ _ => hs.execPlanResume
  | .planReset _ _ => hs.execPlanReset
  | .planUnload _ _ => hs.execPlanUnload
  | .planTick _ _ => hs.execPlanTick
  | .slipQuantumEnd _ => hs.execSlipQuantumEnd
  | .rotationsComplete _ => hs.execRotationsComplete
  | .latenessReport _ _ _ _ => hs.execLatenessReport
  | .slipToken _ _ => hs.execSlipToken
  | .haltToken _ _ => hs.execHaltToken
  | .haltTakesEffect _ => hs.execHaltTakesEffect
  | .timeSyncInterval => hs.execTimeSyncInterval
  | .timeFlit _ _ _ _ _ => hs.execTimeFlit
  | .holdoverExpiry => hs.execHoldoverExpiry
  | .ftcSet _ _ => hs.execFtcSet
  | .mma _ _ => hs.execMma
  | .tileRead _ _ => hs.execTileRead
  | .tileWrite _ _ => hs.execTileWrite
  | .tileZero _ _ => hs.execTileZero
  | .vadd _ _ => hs.execVadd
  | .vsub _ _ => hs.execVsub
  | .vmul _ _ => hs.execVmul
  | .vfma _ _ => hs.execVfma
  | .vmax _ _ => hs.execVmax
  | .vmin _ _ => hs.execVmin
  | .vexp2 _ _ => hs.execVexp2
  | .vlog2 _ _ => hs.execVlog2
  | .vrcp _ _ => hs.execVrcp
  | .vrsqrt _ _ => hs.execVrsqrt
  | .vredsum _ _ => hs.execVredsum
  | .vredmax _ _ => hs.execVredmax
  | .vcmp _ _ => hs.execVcmp
  | .vsel _ _ => hs.execVsel
  | .vcvt _ _ => hs.execVcvt
  | .vld _ _ => hs.execVld
  | .vst _ _ => hs.execVst
  | .vstscale _ _ => hs.execVstscale
  | .vbcast _ _ => hs.execVbcast
  | .viadd _ _ => hs.execViadd
  | .vand _ _ => hs.execVand
  | .vor _ _ => hs.execVor
  | .vxor _ _ => hs.execVxor
  | .sAdd _ _ => hs.execSAdd
  | .sSub _ _ => hs.execSSub
  | .sMul _ _ => hs.execSMul
  | .sAnd _ _ => hs.execSAnd
  | .sOr _ _ => hs.execSOr
  | .sXor _ _ => hs.execSXor
  | .shl _ _ => hs.execShl
  | .shr _ _ => hs.execShr
  | .sar _ _ => hs.execSar
  | .slt _ _ => hs.execSlt
  | .sltu _ _ => hs.execSltu
  | .addi _ _ => hs.execAddi
  | .addhi _ _ => hs.execAddhi
  | .shli _ _ => hs.execShli
  | .ld64 _ _ => hs.execLd64
  | .st64 _ _ => hs.execSt64
  | .ld32 _ _ => hs.execLd32
  | .st32 _ _ => hs.execSt32
  | .rdstat _ _ => hs.execRdstat
  | .rdres _ _ => hs.execRdres
  | .rdflags _ _ => hs.execRdflags
  | .clrflags _ _ => hs.execClrflags
  | .rdtick _ _ => hs.execRdtick
  | .desc _ _ => hs.execDesc
  | .xRemoteIssue _ _ => hs.execXRemoteIssue
  | .br _ _ => hs.execBr
  | .bz _ _ => hs.execBz
  | .bnz _ _ => hs.execBnz
  | .waitop _ _ => hs.execWaitop
  | .waitall _ _ => hs.execWaitall
  | .barrier _ _ => hs.execBarrier
  | .tickwait _ _ => hs.execTickwait
  | .setstream _ _ => hs.execSetstream
  | .trap _ _ => hs.execTrap
  | .drain _ => hs.execDrain
  | .taskEnd _ => hs.execTaskEnd
  | .runTask _ _ _ => hs.execRunTask
  | .taskSplit _ => hs.execTaskSplit
  | .taskTake _ => hs.execTaskTake
  | .arbiterDraw _ _ => hs.execArbiterDraw
  | .starvationFlag _ _ => hs.execStarvationFlag
  | .arbiterSeedWrite _ _ _ => hs.execArbiterSeedWrite
  | .jobOpen _ => hs.execJobOpen
  | .jobAbort _ => hs.execJobAbort
  | .jobRelease _ => hs.execJobRelease
  | .jobPut _ _ => hs.execJobPut
  | .heldJobPutTimeout _ _ => hs.execHeldJobPutTimeout
  | .jobIdleTimeout _ => hs.execJobIdleTimeout
  | .jobExponentReady _ => hs.execJobExponentReady
  | .millstoneSum _ _ _ => hs.execMillstoneSum
  | .jobOutputAck _ _ => hs.execJobOutputAck
  | .hcuJobStart _ => hs.execHcuJobStart
  | .gatherSortDone _ => hs.execGatherSortDone
  | .frameReceive _ _ _ => hs.execFrameReceive
  | .quotaAdmit _ => hs.execQuotaAdmit
  | .quotaWaitExpiry _ => hs.execQuotaWaitExpiry
  | .injectionFrame _ _ _ => hs.execInjectionFrame
  | .frameLink _ => hs.execFrameLink
  | .multicastBranchAck _ _ _ => hs.execMulticastBranchAck
  | .egressFrameBoundary _ => hs.execEgressFrameBoundary
  | .mcEntryWrite _ _ _ => hs.execMcEntryWrite
  | .quotaWrite _ _ _ => hs.execQuotaWrite
  | .lgMembersWrite _ _ _ _ => hs.execLgMembersWrite
  | .lgRebalance _ _ => hs.execLgRebalance
  | .lgRebalanceComplete _ => hs.execLgRebalanceComplete
  | .routeWrite _ _ _ => hs.execRouteWrite
  | .wheelTick => hs.execWheelTick
  | .trfIndRead _ _ => hs.execTrfIndRead
  | .trfIndWrite _ _ => hs.execTrfIndWrite
  | .contractDispatch _ => hs.execContractDispatch
  | .gateCycleStart _ _ _ => hs.execGateCycleStart
  | .gateCycleBegin _ => hs.execGateCycleBegin
  | .gateCycleStop _ _ => hs.execGateCycleStop
  | .gateStopEffect _ => hs.execGateStopEffect
  | .gateHoldExpiry _ => hs.execGateHoldExpiry
  | .gateEntryWrite _ _ _ _ => hs.execGateEntryWrite
  | .partitionBind _ _ => hs.execPartitionBind
  | .mapWritten _ => hs.execMapWritten
  | .partitionUnbind _ _ => hs.execPartitionUnbind
  | .partitionClearComplete _ => hs.execPartitionClearComplete
  | .partitionRepair _ _ => hs.execPartitionRepair
  | .channelOwnerWrite _ _ _ => hs.execChannelOwnerWrite
  | .channelDeclareFailed _ _ => hs.execChannelDeclareFailed
  | .channelRestore _ _ => hs.execChannelRestore
  | .channelRetrainDone _ _ => hs.execChannelRetrainDone
  | .channelClearComplete _ => hs.execChannelClearComplete
  | .channelStall _ => hs.execChannelStall
  | .channelFatalError _ => hs.execChannelFatalError
  | .uncorrectableError _ => hs.execUncorrectableError
  | .tierDeadlineExpiry _ _ => hs.execTierDeadlineExpiry
  | .pageMoveStart _ _ => hs.execPageMoveStart
  | .pageMoveSwitch _ _ => hs.execPageMoveSwitch
  | .migrationHoldExpiry _ _ => hs.execMigrationHoldExpiry
  | .promote _ => hs.execPromote
  | .demote _ => hs.execDemote
  | .pin _ => hs.execPin
  | .unpin _ => hs.execUnpin
  | .layer _ => hs.execLayer
  | .cancel _ => hs.execCancel
  | .kvStoreEnable _ _ _ => hs.execKvStoreEnable
  | .kvStoreDisable _ _ => hs.execKvStoreDisable
  | .kvOpen _ => hs.execKvOpen
  | .kvLookup _ => hs.execKvLookup
  | .kvTouch _ => hs.execKvTouch
  | .kvSetTtl _ => hs.execKvSetTtl
  | .kvRetain _ => hs.execKvRetain
  | .kvRelease _ => hs.execKvRelease
  | .kvPinNear _ => hs.execKvPinNear
  | .kvUnpinNear _ => hs.execKvUnpinNear
  | .kvTruncate _ => hs.execKvTruncate
  | .truncateEffect _ _ => hs.execTruncateEffect
  | .kvDelete _ => hs.execKvDelete
  | .kvDeleteComplete _ _ => hs.execKvDeleteComplete
  | .kvMove _ _ => hs.execKvMove
  | .kvMoveCopyDone _ _ _ _ => hs.execKvMoveCopyDone
  | .kvMoveSwitchDone _ _ _ => hs.execKvMoveSwitchDone
  | .kvTokenWrite _ => hs.execKvTokenWrite
  | .kvPagePull _ => hs.execKvPagePull
  | .kvAttend _ => hs.execKvAttend
  | .attendStart _ => hs.execAttendStart
  | .attendRangeDone _ _ _ => hs.execAttendRangeDone
  | .attendOutputVisible _ _ => hs.execAttendOutputVisible
  | .sessionExpiryCheck => hs.execSessionExpiryCheck
  | .handleQuarantineExpiry _ => hs.execHandleQuarantineExpiry
  | .rdS _ => hs.execRdS
  | .rdX _ => hs.execRdX
  | .upg _ => hs.execUpg
  | .wb _ => hs.execWb
  | .drop _ => hs.execDrop
  | .rdSpec _ => hs.execRdSpec
  | .snoopResponse _ _ _ _ => hs.execSnoopResponse
  | .directoryRequestResume _ => hs.execDirectoryRequestResume
  | .holdExpiry _ => hs.execHoldExpiry
  | .snoopTimeout _ _ => hs.execSnoopTimeout
  | .specBufferExpiry _ _ => hs.execSpecBufferExpiry
  | .windowEnable _ _ _ => hs.execWindowEnable
  | .windowDisable _ _ => hs.execWindowDisable
  | .windowDisableComplete _ => hs.execWindowDisableComplete
  | .wayMaskWrite _ _ _ => hs.execWayMaskWrite
  | .agentRegister _ _ _ => hs.execAgentRegister
  | .agentUnregister _ _ => hs.execAgentUnregister
  | .streamEnable _ _ => hs.execStreamEnable
  | .streamEnableComplete _ => hs.execStreamEnableComplete
  | .streamDisable _ _ => hs.execStreamDisable
  | .czPut _ => hs.execCzPut
  | .czBlockVisible _ => hs.execCzBlockVisible
  | .czGet _ => hs.execCzGet
  | .train _ => hs.execTrain
  | .trainComplete _ => hs.execTrainComplete
  | .loadTable _ => hs.execLoadTable
  | .czSeal _ => hs.execCzSeal
  | .streamReset _ => hs.execStreamReset
  | .tableFetch _ _ _ => hs.execTableFetch
  | .vsQuery _ => hs.execVsQuery
  | .shardQueryStart _ => hs.execShardQueryStart
  | .shardQueryDone _ _ => hs.execShardQueryDone
  | .vsResultVisible _ _ => hs.execVsResultVisible
  | .queryTimeout _ => hs.execQueryTimeout
  | .vsEnable _ => hs.execVsEnable
  | .vsDisable _ => hs.execVsDisable
  | .vsDisableComplete _ => hs.execVsDisableComplete
  | .vsInsert _ => hs.execVsInsert
  | .vsDelete _ => hs.execVsDelete
  | .vsDeleteComplete _ _ => hs.execVsDeleteComplete
  | .setNeighbours _ => hs.execSetNeighbours
  | .merge _ => hs.execMerge
  | .mergeSwitch _ _ => hs.execMergeSwitch
  | .tenantEnable _ _ _ => hs.execTenantEnable
  | .tenantDisable _ _ _ => hs.execTenantDisable
  | .clusterOwnerWrite _ _ _ => hs.execClusterOwnerWrite
  | .clusterClearComplete _ => hs.execClusterClearComplete
  | .portBindWrite _ _ _ => hs.execPortBindWrite
  | .secAssign _ _ => hs.execSecAssign
  | .spdmMessage _ _ => hs.execSpdmMessage
  | .keyRelease _ _ => hs.execKeyRelease
  | .keyDestroy _ _ => hs.execKeyDestroy
  | .mkDecrypt _ => hs.execMkDecrypt
  | .verify _ => hs.execVerify
  | .activate _ => hs.execActivate
  | .commit _ _ => hs.execCommit
  | .abort _ => hs.execAbort
  | .rekey _ => hs.execRekey
  | .rekeyHardLimit _ => hs.execRekeyHardLimit
  | .portModeWrite _ _ _ _ => hs.execPortModeWrite
  | .portEnable _ _ => hs.execPortEnable
  | .portDisable _ _ => hs.execPortDisable
  | .retrain _ _ => hs.execRetrain
  | .electricalTrainingDone _ _ => hs.execElectricalTrainingDone
  | .caps _ _ => hs.execCaps
  | .secureDone _ _ => hs.execSecureDone
  | .calibrateDone _ _ _ => hs.execCalibrateDone
  | .trainingTimeout _ => hs.execTrainingTimeout
  | .trainingRestart _ => hs.execTrainingRestart
  | .flitReceive _ _ _ _ => hs.execFlitReceive
  | .ack _ _ => hs.execAck
  | .nak _ _ => hs.execNak
  | .ackSend _ => hs.execAckSend
  | .uncorrectableWord _ => hs.execUncorrectableWord
  | .replayTimeout _ => hs.execReplayTimeout
  | .laneFail _ _ => hs.execLaneFail
  | .degrade _ _ _ => hs.execDegrade
  | .degradeSwitch _ => hs.execDegradeSwitch
  | .gdpHello _ _ _ => hs.execGdpHello
  | .gdpRead _ _ _ => hs.execGdpRead
  | .gdpWrite _ _ _ => hs.execGdpWrite
  | .flashWrite _ _ _ => hs.execFlashWrite
  | .gdpSecured _ _ _ _ _ => hs.execGdpSecured
  | .eventAck _ _ => hs.execEventAck
  | .icmpv6Echo _ _ _ => hs.execIcmpv6Echo
  | .neighborDiscovery _ _ _ _ => hs.execNeighborDiscovery
  | .eventRaise _ _ => hs.execEventRaise
  | .eventResend _ => hs.execEventResend
  | .eventHoldoffExpiry _ => hs.execEventHoldoffExpiry
  | .meterSnapshot _ _ => hs.execMeterSnapshot
  | .meterSnapshotLatch => hs.execMeterSnapshotLatch
  | .mailboxRead _ _ _ => hs.execMailboxRead
  | .mailboxWrite _ _ _ => hs.execMailboxWrite
  | .dictReq _ _ _ => hs.execDictReq
  | .dictRsp => hs.execDictRsp
  | .eventFetch => hs.execEventFetch
  | .smbusSclTimeout => hs.execSmbusSclTimeout
  | .spiRead _ _ => hs.execSpiRead
  | .spiWrite _ _ => hs.execSpiWrite
  | .spiFetchResponse _ => hs.execSpiFetchResponse
  | .spiFetchEvent _ => hs.execSpiFetchEvent
  | .sensorPoll _ _ => hs.execSensorPoll
  | .dimmThermalPoll _ _ => hs.execDimmThermalPoll
  | .busTransactionTimeout _ _ => hs.execBusTransactionTimeout
  | .busSdaStuck _ _ => hs.execBusSdaStuck
  | .busRecoveryAttempt _ _ => hs.execBusRecoveryAttempt
  | .recover _ _ => hs.execRecover
  | .powerUp _ => hs.execPowerUp
  | .softStartDone => hs.execSoftStartDone
  | .boot _ _ _ _ _ => hs.execBoot
  | .fuseReread _ => hs.execFuseReread
  | .powerMonitorTick _ => hs.execPowerMonitorTick
  | .sagSample _ _ => hs.execSagSample
  | .throttleRelease => hs.execThrottleRelease
  | .brownoutRecovery => hs.execBrownoutRecovery
  | .brownoutLoss _ => hs.execBrownoutLoss
  | .thermalSample _ => hs.execThermalSample
  | .thermalThrottleStep => hs.execThermalThrottleStep
  | .referenceMonitor _ _ _ => hs.execReferenceMonitor
  | .clockRequestWrite _ _ _ => hs.execClockRequestWrite
  | .railSettled _ => hs.execRailSettled
  | .coldResetPin => hs.execColdResetPin
  | .coldResetRelease => hs.execColdResetRelease
  | .resetCommandWarm _ => hs.execResetCommandWarm
  | .resetCommandCold _ => hs.execResetCommandCold
  | .heartbeat _ => hs.execHeartbeat
  | .watchdogRestart => hs.execWatchdogRestart
  | .watchdogWarning => hs.execWatchdogWarning
  | .watchdogExpiry => hs.execWatchdogExpiry
  | .dimmOvercurrent _ => hs.execDimmOvercurrent
  | .dimmFeedLow => hs.execDimmFeedLow
  | .unitHangTimeout _ => hs.execUnitHangTimeout
  | .containmentTimeout _ => hs.execContainmentTimeout
  | .portUnfence _ _ => hs.execPortUnfence
  | .injectArm _ => hs.execInjectArm
  | .injectCancel _ => hs.execInjectCancel
  | .injectDisable _ => hs.execInjectDisable
  | .injectFire _ => hs.execInjectFire
  | .csOpen _ => hs.execCsOpen
  | .csAbort _ => hs.execCsAbort
  | .csRelease _ => hs.execCsRelease
  | .csPut _ => hs.execCsPut
  | .csCommit _ => hs.execCsCommit
  | .csApplyDone _ _ => hs.execCsApplyDone
  | .ckptArm _ _ => hs.execCkptArm
  | .ckptCancel _ _ => hs.execCkptCancel
  | .ckptStart _ => hs.execCkptStart
  | .ckptPageCaptured _ _ _ => hs.execCkptPageCaptured
  | .cowCopyDone _ _ => hs.execCowCopyDone
  | .ckptManifest _ _ => hs.execCkptManifest
  | .meterSample => hs.execMeterSample
  | .meterModeSwitch => hs.execMeterModeSwitch
  | .flashWriteDone _ => hs.execFlashWriteDone
  | .managementLaneLinkChange _ => hs.execManagementLaneLinkChange
  | .cxlPcieLinkUp _ _ _ => hs.execCxlPcieLinkUp
  | .cxlPcieLinkLoss _ => hs.execCxlPcieLinkLoss
  | .channelRequestComplete _ _ => hs.execChannelRequestComplete
  | .discardedResponseTimeout _ => hs.execDiscardedResponseTimeout
  | .cellUsSample => hs.execCellUsSample

/-- A step keeps each table and each log. The queue of commands is neither. -/
theorem step_tidy {s t : State} (h : step s = .next t) : Tidy s t := by
  unfold step at h
  split at h
  · cases h
    exact (Tidy.refl s).idleTick
  · next c rest _ =>
    exact ((Tidy.refl s).put (by exact rfl)).exec c t h

/-- Settles O6: every step keeps each of the eight tables in canonical form. -/
theorem controlStoresStayCanonical : Obligations.ControlStoresStayCanonical := by
  rintro s t ⟨hcsr, hqueues, hsyncs, hends, hslots, hflorets, hjobs, hfb⟩ h
  have ht := step_tidy h
  exact ⟨ht.csr hcsr, ht.queues hqueues, ht.syncs hsyncs, ht.endpoints hends, ht.planSlots hslots, ht.florets hflorets, ht.jobs hjobs,
    ht.fbQueues hfb⟩

/-- Settles O5: the canonical form of the two memories is one of the things that every step keeps. -/
theorem bytesStayCanonical : Obligations.BytesStayCanonical := fun _ _ hs h => (step_steady h).bytes hs

end Sys2Proof.Machine
end


/-! # Unit commands

Sitting of the family 01_architecture: O20 and O21. A unit command that is accepted acts on the units of its subtree that follow it
(R596); the lemmas about `State.setStates` say what those units read afterwards, and the lemmas named `gives_…` are the clauses of the
two statements. -/

section
namespace Sys2Proof.Machine
variable {s t : State}

/-! ### Tables and objects read after a write -/

section
variable {α : Type} [DecidableEq α] {d v : α}

/-- A value that is listed is read where it was written, whatever form the table has. -/
theorem read_write_self (a : Store α) (k : Nat) (hv : v ≠ d) : Store.read d (Store.write d a k v) k = v := by
  induction a with
  | nil => simp [Store.write, Store.read, hv]
  | cons e a ih =>
    obtain ⟨i, w⟩ := e
    unfold Store.write
    split
    · simp [Store.read]
    · next hki =>
      split
      · simp [Store.read]
      · next hne => simp [Store.read, Ne.symm hne, hki, ih]

/-- It leaves every other entry, whatever form the table has. -/
theorem read_write_ne (a : Store α) {k j : Nat} (hj : j ≠ k) (hv : v ≠ d) :
    Store.read d (Store.write d a k v) j = Store.read d a j := by
  induction a with
  | nil => simp [Store.write, Store.read, hv, hj.symm]
  | cons e a ih =>
    obtain ⟨i, w⟩ := e
    unfold Store.write
    split
    · next hki =>
      by_cases hjk : j < k
      · simp [Store.read, hj.symm, hjk, show i ≠ j by omega, show j < i by omega]
      · simp [Store.read, hj.symm, hjk]
    · split
      · next hk => subst hk; simp [Store.read, hj.symm]
      · simp [Store.read, ih]

end

theorem num_setNum_self (s : State) (k v d : Nat) : (s.setNum k v).num k d = v := by
  simp [State.num, State.setNum, read_write_self]

theorem num_setNum_ne (s : State) {k j : Nat} (v d : Nat) (hj : j ≠ k) : (s.setNum k v).num j d = s.num j d := by
  simp [State.num, State.setNum, read_write_ne _ hj]

/-! ### The outcome of a unit command (R36, R594) -/

theorem unitOutcome_keeps (s : State) (l : UnitLoc) (st : Status) : Keeps [.dict] s (s.unitOutcome l st) :=
  (setNum_keeps _ _ _).trans (setNum_keeps _ _ _)

theorem unitOutcome_lastStatus (s : State) (l : UnitLoc) (st : Status) (d : Nat) :
    (s.unitOutcome l st).num O.unitCmdLastStatus d = st.code := num_setNum_self _ _ _ _

theorem unitOutcome_lastPath (s : State) (l : UnitLoc) (st : Status) (d : Nat) :
    (s.unitOutcome l st).num O.unitCmdLastPath d = s.path l :=
  (num_setNum_ne _ _ _ (by decide)).trans (num_setNum_self _ _ _ _)

theorem unitOutcome_unit (s : State) (l m : UnitLoc) (st : Status) : (s.unitOutcome l st).unit m = s.unit m := rfl

/-! ### Units that take a state -/

/-- A unit that is given the state `st` reads `st`: any state but ACTIVE is listed, and ACTIVE is the one a canonical table leaves out. -/
def State.unitsHold (s : State) (st : UnitState) : Prop := st ≠ .active ∨ Store.wf ({} : UnitRec) s.power.units = true

theorem unitsHold_setUnit {st : UnitState} {l : UnitLoc} {x : UnitRec} (h : s.unitsHold st) : (s.setUnit l x).unitsHold st :=
  h.imp_right (Store.wf_write _ _ _)

/-- A unit that shares the index of the one that is given a state has the state too. -/
theorem unit_setUnit_state {l m : UnitLoc} {st : UnitState} (h : s.unitsHold st) :
    ((s.setUnit m { s.unit m with state := st }).unit l).state = if unitIndex l = unitIndex m then st else (s.unit l).state := by
  simp only [State.unit, State.setUnit]
  rcases h with h | h
  · have hv : ({ Store.read ({} : UnitRec) s.power.units (unitIndex m) with state := st } : UnitRec) ≠ {} :=
      fun he => h (congrArg UnitRec.state he)
    split
    · next hi => rw [hi, read_write_self _ _ hv]
    · next hi => rw [read_write_ne _ hi hv]
  · split
    · next hi => rw [hi, Store.read_write_same _ _ _ h]
    · next hi => rw [Store.read_write_other _ _ _ _ hi h]

theorem setStates_state_of_state {us : List UnitLoc} {l : UnitLoc} {st : UnitState} (h : s.unitsHold st)
    (hs : (s.unit l).state = st) : ((s.setStates us st).unit l).state = st := by
  induction us generalizing s with
  | nil => exact hs
  | cons m us ih => exact ih (unitsHold_setUnit h) (by rw [unit_setUnit_state h, hs, ite_self])

theorem setStates_state {us : List UnitLoc} {l : UnitLoc} {st : UnitState} (hl : l ∈ us) (h : s.unitsHold st) :
    ((s.setStates us st).unit l).state = st := by
  induction us generalizing s with
  | nil => nomatch hl
  | cons m us ih =>
    rcases List.mem_cons.mp hl with rfl | hl
    · exact setStates_state_of_state (s := s.setUnit l _) (unitsHold_setUnit h) (by rw [unit_setUnit_state h, if_pos rfl])
    · exact ih hl (unitsHold_setUnit h)

theorem setStates_keeps (s : State) (us : List UnitLoc) (st : UnitState) : Keeps [.power] s (s.setStates us st) :=
  Keeps.foldl (fun _ _ => setUnit_keeps _ _ _) _ _

theorem mem_unitSubtree_self (v : Variant) (l : UnitLoc) : l ∈ unitSubtree v l := List.mem_cons_self ..

/-- The unit itself follows a command that it accepts (R596). -/
theorem mem_followers_self {c : UnitCmd} {l : UnitLoc} (h : unitAccepts c (s.unit l).state = true) : l ∈ s.followers c l := by
  simp [State.followers, mem_unitSubtree_self, h]

theorem unitAccepts_of_unitRefusal {c : UnitCmd} {l : UnitLoc} (h : s.unitRefusal c l = none) :
    unitAccepts c (s.unit l).state = true := by
  by_contra hn
  unfold State.unitRefusal at h
  extract_lets update fixed whole windows at h
  rw [if_pos (c := (!unitAccepts c (s.unit l).state) = true ∨ _) (.inl (by simp [hn]))] at h
  split at h
  · nomatch h
  · split at h
    · nomatch h
    · split at h <;> nomatch h

/-! ### O20: commands that are accepted begin -/

/-- The state in which a unit command acts that a path writes: nothing answered yet, the path's arm ended (R492). -/
def State.unitTurn (s : State) (p : DictPath) : State := (s.begin.takeArm (.dict p) 0).2

theorem unitTurn_keeps (s : State) (p : DictPath) : Keeps [.mgmt] s (s.unitTurn p) :=
  ((begin_keeps s).mono (by simp)).trans (takeArm_keeps _ _ _)

/-- A command that changes the parts of `c` changes, with its turn and its answer, the path and the free values too. -/
theorem unitAnswer_keeps {p : DictPath} {c : List Part} {r : Response} (h : Keeps c (s.unitTurn p) t) :
    Keeps (.mgmt :: .freeCounter :: c) s (t.answer r) :=
  ((unitTurn_keeps s p).mono (by simp)).trans ((h.mono (by simp; tauto)).trans ((answer_keeps _ _ _).mono (by simp)))

/-- A unit that a command is accepted for is in a state that the command is accepted from. -/
theorem unitAccepts_of_accepts {p : DictPath} {n : Nat} {c : UnitCmd} {l : UnitLoc} (h : Accepts s n c l) :
    unitAccepts c ((s.unitTurn p).unit l).state = true := by
  obtain ⟨_, _, _, _, _, href⟩ := h
  exact unitAccepts_of_unitRefusal (s := s) href

/-- A unit command that is accepted acts, and is answered SERVED. -/
theorem unitWrite_of_accepts {p : DictPath} {u : Nat} {c : UnitCmd} {l : UnitLoc} (h : Accepts s u c l) :
    s.begin.whenRunning (fun t => t.unitWrite p u c) = ((s.unitTurn p).unitDo c l).answer (served) := by
  obtain ⟨hrun, hloc, hpresent, hdepth, hrep, href⟩ := h
  have hpresent' : (s.unitTurn p).present l = true := hpresent
  have hdepth' : (s.unitTurn p).depthUsed l = true := hdepth
  have hrep' : (s.unitTurn p).representative l = none := hrep
  have href' : (s.unitTurn p).unitRefusal c l = none := href
  rw [State.whenRunning, if_pos (show s.begin.running = true from hrun)]
  show (s.unitTurn p).unitCommand u c = _
  simp [State.unitCommand, hloc, hpresent', hdepth', hrep', href']

/-- A command is open. -/
def State.openCommand (s : State) (d : UnitCommand) : State := { s with power := { s.power with commands := s.power.commands ++ [d] } }

theorem mem_openCommand (s : State) (d : UnitCommand) : d ∈ (s.openCommand d).power.commands :=
  List.mem_append_right _ (List.mem_singleton_self _)

theorem openCommand_keeps (s : State) (d : UnitCommand) : Keeps [.power] s (s.openCommand d) := Keeps.refl _ s

/-- QUIESCE and UPDATE_BEGIN make the unit QUIESCING, and are open until quiesce_timeout_us has passed (R536). -/
theorem unitDo_drain {c : UnitCmd} {l : UnitLoc} (hc : c = .quiesce ∨ c = .updateBegin)
    (ha : unitAccepts c (s.unit l).state = true) :
    ((s.unitDo c l).unit l).state = .quiescing ∧
    (∃ d ∈ (s.unitDo c l).power.commands, d.target = unitIndex l ∧ d.cmd = c ∧
      d.deadline = some (s.now + usUnits (s.num O.quiesceTimeoutUs 10000))) ∧
    Keeps [.power] s (s.unitDo c l) := by
  have hstate := setStates_state (s := s) (st := .quiescing) (mem_followers_self ha) (.inl nofun)
  have hkeeps := setStates_keeps s (s.followers c l) .quiescing
  have hdo : s.unitDo c l = (s.setStates (s.followers c l) .quiescing).openCommand {
      target := unitIndex l, cmd := c, units := (s.followers c l).map unitIndex
      deadline := some (s.now + usUnits (s.num O.quiesceTimeoutUs 10000)) } := by
    rcases hc with rfl | rfl <;> rfl
  rw [hdo]
  exact ⟨hstate, ⟨_, mem_openCommand _ _, rfl, rfl, rfl⟩, hkeeps.trans (openCommand_keeps _ _)⟩

/-- RESUME makes the unit ACTIVE, and its outcome is OK (R536). -/
theorem unitDo_resume {l : UnitLoc} (ha : unitAccepts .resume (s.unit l).state = true)
    (hw : Store.wf ({} : UnitRec) s.power.units = true) :
    ((s.unitDo .resume l).unit l).state = .active ∧ (s.unitDo .resume l).num O.unitCmdLastStatus 1 = 0 ∧
      Keeps [.power, .dict] s (s.unitDo .resume l) :=
  ⟨setStates_state (s := s) (mem_followers_self ha) (.inr hw), unitOutcome_lastStatus _ l .ok _,
    ((setStates_keeps _ _ _).mono (by simp)).trans ((unitOutcome_keeps _ _ _).mono (by simp))⟩

/-- POWER_DOWN leaves the unit POWERED_DOWN, and its outcome is OK (R539). -/
theorem unitDo_powerDown (s : State) (l : UnitLoc) :
    ((s.unitDo .powerDown l).unit l).state = .poweredDown ∧ (s.unitDo .powerDown l).num O.unitCmdLastStatus 1 = 0 := by
  have hl : l ∈ s.followers .powerDown l := by simp [State.followers, mem_unitSubtree_self]
  show (((State.setStates (s.resetUnits _) _ _).unitOutcome l .ok).unit l).state = _ ∧ _
  rw [unitOutcome_unit]
  exact ⟨setStates_state hl (.inl nofun), unitOutcome_lastStatus _ l .ok _⟩

/-- A command is open on the unit, for the units that follow it (R596). -/
def State.opens (s t : State) (c : UnitCmd) (l : UnitLoc) : Prop :=
  ∃ d ∈ t.power.commands, d.target = unitIndex l ∧ d.cmd = c ∧ d.units = (s.followers c l).map unitIndex

/-- RESET, but of the package and of the hub, POWER_UP and UPDATE_END are open (R537, R539). -/
theorem unitDo_opens {c : UnitCmd} {l : UnitLoc}
    (hc : c = .reset ∧ l ≠ .package ∧ l ≠ .hub ∨ c = .powerUp ∨ c = .updateEnd) : s.opens (s.unitDo c l) c l := by
  rcases hc with ⟨rfl, hp, hh⟩ | rfl | rfl
  · rw [State.unitDo]
    simp only [hp, hh, or_self, if_false]
    exact ⟨_, List.mem_append_right _ (List.mem_singleton_self _), rfl, rfl, rfl⟩
  · exact ⟨_, List.mem_append_right _ (List.mem_singleton_self _), rfl, rfl, rfl⟩
  · exact ⟨_, List.mem_append_right _ (List.mem_singleton_self _), rfl, rfl, rfl⟩

/-- What holds of the answered state once the command has acted, an accepted write of unit_command gives. -/
theorem gives_of_unitDo {i : Instr} {p : DictPath} {n : Nat} {c : UnitCmd} {l : UnitLoc} {P : State → Prop}
    (hi : exec i s = .next (s.begin.whenRunning fun t => t.unitWrite p n c)) (h : Accepts s n c l)
    (hP : ∀ t, t = (s.unitTurn p).unitDo c l → P (t.answer (served))) : Gives i s P :=
  ⟨_, hi, unitWrite_of_accepts h ▸ hP _ rfl⟩

/-- The clause of O20 of a command that drains. -/
theorem gives_drain {i : Instr} {p : DictPath} {n : Nat} {c : UnitCmd} {l : UnitLoc} (hc : c = .quiesce ∨ c = .updateBegin)
    (hi : exec i s = .next (s.begin.whenRunning fun t => t.unitWrite p n c)) (h : Accepts s n c l) :
    Gives i s (fun t => (t.unit l).state = .quiescing ∧ (∃ d ∈ t.power.commands, d.target = unitIndex l ∧ d.cmd = c ∧
      d.deadline = some (s.now + usUnits (s.num O.quiesceTimeoutUs 10000))) ∧ Keeps [.power, .mgmt, .freeCounter] s t) := by
  refine gives_of_unitDo hi h fun t ht => ?_
  obtain ⟨hstate, hopen, hkeeps⟩ := unitDo_drain (s := s.unitTurn p) hc (unitAccepts_of_accepts h)
  rw [← ht] at hstate hopen hkeeps
  exact ⟨hstate, hopen, (unitAnswer_keeps hkeeps).mono (by simp)⟩

/-- The clause of O20 of a command that opens a command of its kind. -/
theorem gives_opens {i : Instr} {p : DictPath} {n : Nat} {c : UnitCmd} {l : UnitLoc}
    (hc : c = .reset ∧ l ≠ .package ∧ l ≠ .hub ∨ c = .powerUp ∨ c = .updateEnd)
    (hi : exec i s = .next (s.begin.whenRunning fun t => t.unitWrite p n c)) (h : Accepts s n c l) :
    Gives i s (fun t => ∃ d ∈ t.power.commands, d.target = unitIndex l ∧ d.cmd = c ∧
      d.units = (s.followers c l).map unitIndex) := by
  refine gives_of_unitDo hi h fun t ht => ?_
  have hopen := unitDo_opens (s := s.unitTurn p) hc
  rw [← ht] at hopen
  exact hopen

/-- Settles O20, command by command. -/
theorem unitCommandsBegin : Obligations.UnitCommandsBegin := by
  refine ⟨fun s p u l h => gives_drain (.inl rfl) rfl h, fun s p u l h hw => gives_of_unitDo rfl h fun t ht => ?_,
    fun s p u l h hp hh => gives_opens (.inl ⟨rfl, hp, hh⟩) rfl h, fun s p u l h => gives_of_unitDo rfl h fun t ht => ?_,
    fun s p u l h => gives_opens (.inr (.inl rfl)) rfl h, fun s p u l h => gives_drain (.inr rfl) rfl h,
    fun s p u l h => gives_opens (.inr (.inr rfl)) rfl h⟩
  · obtain ⟨hstate, hlast, hkeeps⟩ := unitDo_resume (s := s.unitTurn p) (unitAccepts_of_accepts h) hw
    rw [← ht] at hstate hlast hkeeps
    exact ⟨hstate, hlast, (unitAnswer_keeps hkeeps).mono (by simp)⟩
  · have hdown := unitDo_powerDown (s.unitTurn p) l
    rw [← ht] at hdown
    exact hdown

/-! ### O21: commands and containments end -/

theorem Keeps.power {c : List Part} (h : Keeps c s t) (hc : .power ∉ c) : t.power = s.power := by
  have := keeps_iff.mp h .power
  simpa [hc, Part.same] using this

theorem Keeps.dict {c : List Part} (h : Keeps c s t) (hc : .dict ∉ c) : t.dict = s.dict := by
  have := keeps_iff.mp h .dict
  simpa [hc, Part.same] using this

theorem Keeps.faults {c : List Part} (h : Keeps c s t) (hc : .faults ∉ c) : t.faults = s.faults := by
  have := keeps_iff.mp h .faults
  simpa [hc, Part.same] using this

theorem putPower_keeps (s : State) (q : PowerState) : Keeps [.power] s { s with power := q } := Keeps.refl _ s

/-- The end of a drained command takes it from the open ones, and changes no part but these. -/
theorem endDrain_keeps (s : State) (c : UnitCommand) : Keeps [.power, .dict] s (s.endDrain c) := by
  have h : ∀ st us, Keeps [.power, .dict] s { s.setStates us st with
      power := { (s.setStates us st).power with commands := (s.setStates us st).power.commands.erase c } } :=
    fun st us => ((setStates_keeps s us st).trans (putPower_keeps _ _)).mono (by simp)
  unfold State.endDrain
  refine Keeps.ite (h _ _) ?_
  split
  · exact (h _ _).trans ((unitOutcome_keeps _ _ _).mono (by simp))
  · exact h _ _

theorem setUnit_commands (s : State) (l : UnitLoc) (x : UnitRec) : (s.setUnit l x).power.commands = s.power.commands := rfl

theorem setStates_commands (s : State) (us : List UnitLoc) (st : UnitState) :
    (s.setStates us st).power.commands = s.power.commands := by
  induction us generalizing s with
  | nil => rfl
  | cons l us ih => exact (ih _).trans (setUnit_commands _ _ _)

theorem unitOutcome_power (s : State) (l : UnitLoc) (st : Status) : (s.unitOutcome l st).power = s.power := rfl

theorem endDrain_commands (s : State) (c : UnitCommand) : (s.endDrain c).power.commands = s.power.commands.erase c := by
  unfold State.endDrain
  extract_lets st us s1 _ s2
  have hs2 : s2.power.commands = s.power.commands.erase c := congrArg (List.erase · c) (setStates_commands s us st)
  split
  · exact hs2
  · split
    · rw [unitOutcome_power, hs2]
    · exact hs2

/-- A command that is no containment and whose time has not run out ends with the outcome OK, at its own path. -/
theorem endDrain_outcome {c : UnitCommand} {l : UnitLoc} (hcontain : c.contain = false) (htime : c.timedOut = false)
    (hl : unitLoc c.target = some l) (d : Nat) :
    (s.endDrain c).num O.unitCmdLastStatus d = 0 ∧ (s.endDrain c).num O.unitCmdLastPath d = s.path l := by
  unfold State.endDrain
  extract_lets st us s1 _ s2
  have hpath : s2.path l = s.path l := by
    have hdict : s1.dict = s.dict := (setStates_keeps s us st).dict (by simp)
    show unitPath (s1.num O.spanCoords 0) l = unitPath (s.num O.spanCoords 0) l
    rw [State.num, hdict, ← State.num]
  simp only [hcontain, htime, hl, Bool.false_eq_true, or_self, if_false]
  exact ⟨unitOutcome_lastStatus _ _ _ _, (unitOutcome_lastPath _ _ _ _).trans hpath⟩

/-- Where the package runs, a command acts on the state with nothing answered. -/
theorem whenRunning_begin (f : State → State) (hrun : s.running = true) : s.begin.whenRunning f = f s.begin := if_pos hrun

theorem elapse_power (s : State) (n : Nat) : (s.elapse n).power = s.power := (elapse_keeps s n).power (by simp)

/-! The clock and its counter do not look at what is answered. -/

theorem bumpN_begin (s : State) (k n : Nat) : s.begin.bumpN k n = (s.bumpN k n).begin :=
  (apply_ite State.begin (n = 0) s (s.setNum k ((s.num k 0 + n) % 2 ^ 64))).symm

theorem ticksPass_begin (s : State) (n : Nat) : s.begin.ticksPass n = (s.ticksPass n).begin := by
  unfold State.ticksPass
  rw [apply_ite State.begin, ← bumpN_begin]
  rfl

theorem elapse_begin (s : State) (n : Nat) : s.begin.elapse n = (s.elapse n).begin := by
  unfold State.elapse
  rw [apply_ite State.begin, ← ticksPass_begin]
  rfl

/-- A command that is drained ends (R536). -/
theorem gives_quiesceDrained {n : Nat} {c : UnitCommand} {l : UnitLoc} (hrun : s.running = true) (hc : s.draining n = some c)
    (hd : s.drained c = true) (hcontain : c.contain = false) (htime : c.timedOut = false) (hl : unitLoc c.target = some l) :
    Gives (.quiesceDrained n) s (fun t => t.power.commands = s.power.commands.erase c ∧ t.num O.unitCmdLastStatus 1 = 0 ∧
      t.num O.unitCmdLastPath 0 = s.path l ∧ Keeps [.power, .dict] s t) := by
  have hc' : s.begin.draining n = some c := hc
  have hd' : s.begin.drained c = true := hd
  have he : s.begin.quiesceDrained n = s.begin.endDrain c := by simp only [State.quiesceDrained, hc', hd', if_true]
  refine ⟨_, congrArg Host.Outcome.next ((whenRunning_begin _ hrun).trans he), endDrain_commands _ _,
    (endDrain_outcome hcontain htime hl _).1, (endDrain_outcome hcontain htime hl _).2, ?_⟩
  exact ((begin_keeps s).mono (by simp)).trans (endDrain_keeps _ _)

/-- quiesce_timeout_us passes for a command that is not drained (R540). -/
theorem gives_quiesceTimeout {n : Nat} {c : UnitCommand} {l : UnitLoc} (hrun : s.running = true)
    (hc : s.power.commands.find? (fun c => c.drains && !c.contain && !c.timedOut && decide (c.target = n)) = some c)
    (hl : unitLoc n = some l) (hd : (s.elapse (c.deadline.getD 0)).drained c = false) :
    Gives (.quiesceTimeout n) s (fun t =>
      t.power.commands = s.power.commands.map (fun d => if d = c then { d with timedOut := true } else d) ∧
      t.num O.unitCmdLastStatus 0 = 0x10 ∧ Keeps [.power, .dict, .now, .ftc] s t) := by
  have hc' : s.begin.power.commands.find? _ = some c := hc
  have hd' : (s.begin.elapse (c.deadline.getD 0)).drained c = false := elapse_begin s _ ▸ hd
  refine ⟨_, congrArg Host.Outcome.next (whenRunning_begin _ hrun), ?_⟩
  simp only [hc', hl, hd', Bool.false_eq_true, if_false]
  refine ⟨congrArg (fun q : PowerState => q.commands.map _) (elapse_power s.begin _), unitOutcome_lastStatus _ _ _ _, ?_⟩
  exact (((begin_keeps s).mono (by simp)).trans ((elapse_keeps _ _).mono (by simp))).trans
    (((putPower_keeps _ _).mono (by simp)).trans ((unitOutcome_keeps _ _ _).mono (by simp)))

/-- Zeroing or retraining is done for a command that is no UPDATE_END (R537). -/
theorem gives_resetComplete {n : Nat} {c : UnitCommand} {l : UnitLoc} (hrun : s.running = true)
    (hc : s.power.commands.find? (fun c => !c.drains && decide (c.target = n)) = some c) (hl : unitLoc n = some l)
    (hcmd : c.cmd ≠ .updateEnd) :
    Gives (.unitResetComplete n) s (fun t => t.power.commands = s.power.commands.erase c ∧ t.num O.unitCmdLastStatus 1 = 0 ∧
      Keeps [.power, .dict] s t) := by
  have hc' : s.begin.power.commands.find? _ = some c := hc
  refine ⟨_, congrArg Host.Outcome.next (whenRunning_begin _ hrun), ?_⟩
  simp only [hc', hl, hcmd, if_false]
  refine ⟨congrArg (List.erase · c) (setStates_commands s.begin _ _), unitOutcome_lastStatus _ _ _ _, ?_⟩
  exact (((begin_keeps s).mono (by simp)).trans ((setStates_keeps _ _ _).mono (by simp))).trans
    (((unitOutcome_keeps _ _ _).mono (by simp)).trans ((putPower_keeps _ _).mono (by simp)))

/-- The millisecond of a containment passes, and nothing is in execution any more (R556). -/
theorem gives_containmentTimeout {n : Nat} {c : UnitCommand} (hrun : s.running = true)
    (hc : s.power.commands.find? (fun c => c.contain && decide (c.target = n)) = some c)
    (hd : (s.elapse (c.deadline.getD 0)).drained c = true) :
    Gives (.containmentTimeout n) s (fun t => t.power.commands = s.power.commands.erase c ∧ Keeps [.power, .dict, .now, .ftc] s t) := by
  have hc' : s.begin.power.commands.find? _ = some c := hc
  have hd' : (s.begin.elapse (c.deadline.getD 0)).drained c = true := elapse_begin s _ ▸ hd
  refine ⟨_, congrArg Host.Outcome.next (whenRunning_begin _ hrun), ?_⟩
  simp only [hc', hd', if_true]
  refine ⟨(endDrain_commands _ _).trans (by rw [elapse_power]; rfl), ?_⟩
  exact ((begin_keeps s).mono (by simp)).trans (((elapse_keeps _ _).mono (by simp)).trans ((endDrain_keeps _ _).mono (by simp)))

/-! The record of a hang (R552, R553). -/

/-- A fault record of this code and number is in the log. -/
def State.logged (s : State) (code seq : Nat) : Prop := ∃ r ∈ s.faults.log, r.code = code ∧ r.seq = seq

theorem mem_lastN_append_singleton {α : Type} {n : Nat} (hn : 0 < n) (a : List α) (x : α) : x ∈ lastN n (a ++ [x]) := by
  rw [lastN, List.drop_append_of_le_length (by simp; omega)]
  simp

theorem fault_logged (s : State) (code source arg action : Nat) (st : Status) (entry : Option Nat) :
    (s.fault code source arg action st entry).logged code (s.faults.seq + 1) := by
  unfold State.fault State.logged
  extract_lets e seq injected lost r _ s1 s2
  have hs2 : s2.faults = s1.faults := (Keeps.ite (Keeps.refl [.dict] s1) (bump_keeps s1 _)).faults (by simp)
  have hlog : s1.faults.log = lastN 1024 (s.faults.log ++ [r]) := by simp only [s1]
  refine ⟨r, ?_, rfl, rfl⟩
  rw [(event_keeps _ _ _ _ _ _ _).faults (by simp), hs2, hlog]
  exact mem_lastN_append_singleton (by simp) _ _

theorem startContain_faults (s : State) (l : UnitLoc) : (s.startContain l).faults = s.faults := by
  unfold State.startContain
  extract_lets ok us s1
  split
  · rfl
  · exact (setStates_keeps s us .quiescing).faults (by simp)

theorem knowHalt_faults (s : State) (n : Nat) (h : HaltToken) : (s.knowHalt n h).faults = s.faults := by
  unfold State.knowHalt
  dsimp only
  split
  · rfl
  · split <;> rfl

theorem issueHalt_faults (s : State) (n : Nat) (cause : HaltCause) (a b : Bool) : (s.issueHalt n cause a b).faults = s.faults := by
  unfold State.issueHalt
  extract_lets x tick
  split
  · rfl
  · split
    · rfl
    · extract_lets base first far rot h s1
      have hs1 : s1.faults = s.faults := knowHalt_faults _ _ _
      exact ((Keeps.foldl (fun _ _ => emit_keeps _ _) _ _).faults (by simp)).trans hs1

/-- A containment records its fault, whether or not one is under way. -/
theorem containUnit_logged (s : State) (l : UnitLoc) (code arg : Nat) : (s.containUnit l code arg).logged code (s.faults.seq + 1) := by
  unfold State.containUnit State.logged
  split
  · exact fault_logged _ _ _ _ _ _ _
  · split
    · rw [startContain_faults]
      exact fault_logged _ _ _ _ _ _ _
    · rw [issueHalt_faults]
      exact fault_logged _ _ _ _ _ _ _

/-- A request has been in execution for too long at a unit (R553). -/
theorem gives_unitHangTimeout {n : Nat} {l : UnitLoc} (hrun : s.running = true) (hl : unitLoc n = some l) (hp : s.present l = true)
    (he : s.executing l = true) :
    Gives (.unitHangTimeout n) s (fun t => ∃ r ∈ t.faults.log, r.code = 0x22 ∧ r.seq = s.faults.seq + 1) := by
  have hp' : s.begin.present l = true := hp
  have he' : s.begin.executing l = true := he
  refine ⟨_, congrArg Host.Outcome.next (whenRunning_begin _ hrun), ?_⟩
  simp only [hl, hp', he', Bool.and_self, if_true]
  exact containUnit_logged s.begin l _ _

/-- Settles O21, command by command. -/
theorem unitCommandsEnd : Obligations.UnitCommandsEnd :=
  ⟨fun _ _ _ _ => gives_quiesceDrained, fun _ _ _ _ => gives_quiesceTimeout, fun _ _ _ _ => gives_resetComplete,
    fun _ _ _ => gives_containmentTimeout, fun _ _ _ => gives_unitHangTimeout⟩

end Sys2Proof.Machine
end


/-! # Frames that enter, wait and are linked

Sitting of the family 01_architecture: O36. What the shared operations of the switch leave behind (`creditBack`, `keepFrame`,
`refuseFrame`), what a frame received on a port changes before it is admitted, and the clauses of the statement, one lemma each, named
`gives_…`. -/

section
namespace Sys2Proof.Machine
variable {s t : State}

/-! ### Counters, registers and lists -/

theorem num_bumpN_ne (s : State) {k j : Nat} (n d : Nat) (hj : j ≠ k) : (s.bumpN k n).num j d = s.num j d := by
  unfold State.bumpN
  split
  · rfl
  · exact num_setNum_ne _ _ _ hj

theorem num_bump_ne (s : State) {k j : Nat} (d : Nat) (hj : j ≠ k) : (s.bump k).num j d = s.num j d := num_bumpN_ne _ _ _ hj

/-- The meters stand above every object of the switch, whosoever's they are. -/
theorem num_meter_ne (s : State) {tenant sub n j : Nat} (d : Nat) (hj : j < 0x5C01 * 256) :
    (s.meter tenant sub n).num j d = s.num j d := by
  unfold State.meter
  split
  · exact num_bumpN_ne _ _ _ (by omega)
  · rfl

theorem reg_setReg_self (s : State) (a v d : Nat) : (s.setReg a v).reg a d = v % 2 ^ 32 := by
  simp [State.reg, State.setReg, read_write_self]

theorem reg_setReg_ne (s : State) {a b : Nat} (v d : Nat) (h : b ≠ a) : (s.setReg a v).reg b d = s.reg b d := by
  simp [State.reg, State.setReg, read_write_ne _ h]

/-! An object, a register, a port and a bucket are read from one part each. -/

theorem num_eq {k d : Nat} (h : t.dict = s.dict) : t.num k d = s.num k d := by rw [State.num, h, ← State.num]
theorem nodeId_eq (h : t.dict = s.dict) : t.nodeId = s.nodeId := num_eq h
theorem reg_eq {a d : Nat} (h : t.csr = s.csr) : t.reg a d = s.reg a d := by rw [State.reg, h, ← State.reg]
theorem bucket_eq {k : Nat} (h : t.sw = s.sw) : t.bucket k = s.bucket k := by rw [State.bucket, h, ← State.bucket]
theorem port_eq {p : Nat} (h : t.links = s.links) : t.port p = s.port p := by rw [State.port, h, ← State.port]

/-! ### A credit that returns (R255) -/

theorem setPort_keeps (s : State) (p : Nat) (x : Port) : Keeps [.links] s (s.setPort p x) := by simp [Part.all, Part.same, State.setPort]

theorem setCrypt_keeps (s : State) (p : Nat) (x : PortCrypt) : Keeps [.sec] s (s.setCrypt p x) := by
  simp [Part.all, Part.same, State.setCrypt]

theorem countFlit_keeps (s : State) (p : Nat) : Keeps [.sec] s (s.countFlit p) :=
  Keeps.ite (Keeps.refl _ _) (Keeps.ite (setCrypt_keeps _ _ _) (setCrypt_keeps _ _ _))

theorem txSeq_keeps (s : State) (p : Nat) (f : SentFlit) : Keeps [.links, .sec] s (s.txSeq p f) :=
  (((setPort_keeps _ _ _).mono (by simp)).trans ((emit_keeps _ _).mono (by simp))).trans ((countFlit_keeps _ _).mono (by simp))

theorem flushCredits_keeps (s : State) (p : Nat) : Keeps [.links, .sec] s (s.flushCredits p) :=
  Keeps.foldl (fun _ _ => Keeps.ite (Keeps.refl _ _)
    (((setPort_keeps _ _ _).mono (by simp)).trans ((txSeq_keeps _ _ _).trans ((emit_keeps _ _).mono (by simp))))) _ _

theorem creditBack_keeps (s : State) (p : Nat) (c : Chan) (cells : Nat) : Keeps [.links, .sec] s (s.creditBack p c cells) :=
  Keeps.ite (Keeps.refl _ _) (((setPort_keeps _ _ _).mono (by simp)).trans (flushCredits_keeps _ _))

theorem dropArrival_keeps (s : State) (f : Frame) : Keeps [.links, .sec] s (s.dropArrival f) := by
  unfold State.dropArrival
  split
  · exact creditBack_keeps _ _ _ _
  · exact Keeps.refl _ _

theorem Keeps.sw {c : List Part} (h : Keeps c s t) (hc : .sw ∉ c) : t.sw = s.sw := by
  have := keeps_iff.mp h .sw
  simpa [hc, Part.same] using this

theorem Keeps.sec {c : List Part} (h : Keeps c s t) (hc : .sec ∉ c) : t.sec = s.sec := by
  have := keeps_iff.mp h .sec
  simpa [hc, Part.same] using this

theorem Keeps.remote {c : List Part} (h : Keeps c s t) (hc : .remote ∉ c) : t.remote = s.remote := by
  have := keeps_iff.mp h .remote
  simpa [hc, Part.same] using this

theorem Keeps.hcu {c : List Part} (h : Keeps c s t) (hc : .hcu ∉ c) : t.hcu = s.hcu := by
  have := keeps_iff.mp h .hcu
  simpa [hc, Part.same] using this

theorem Keeps.now {c : List Part} (h : Keeps c s t) (hc : .now ∉ c) : t.now = s.now := by
  have := keeps_iff.mp h .now
  simpa [hc, Part.same] using this

theorem Keeps.csr {c : List Part} (h : Keeps c s t) (hc : .csr ∉ c) : t.csr = s.csr := by
  have := keeps_iff.mp h .csr
  simpa [hc, Part.same] using this

/-! ### A frame that is kept -/

/-- What the switch holds once a frame is kept: the frame, under the next number, and the room for its response. -/
def State.keptSw (s : State) (f : Frame) : SwitchState :=
  { s.sw with
    frames := Store.write none s.sw.frames s.sw.nextFrame (some { f with id := s.sw.nextFrame })
    nextFrame := s.sw.nextFrame + 1
    rooms := s.sw.rooms.filter s.roomLive ++
      if f.rspRoom = 0 then [] else
        [{ tenant := f.tenant, node := f.srcNode, opid := f.opid, posted := f.posted, cells := f.rspRoom }] }

theorem keepFrame_credit (s : State) (f : Frame) : Keeps [.links, .sec] { s with sw := s.keptSw f } (s.keepFrame f) := by
  unfold State.keepFrame
  dsimp only
  split
  · exact Keeps.ite (creditBack_keeps _ _ _ _) (Keeps.refl _ _)
  · exact Keeps.refl _ _

theorem putSw_keeps (s : State) (q : SwitchState) : Keeps [.sw] s { s with sw := q } := Keeps.refl _ s

theorem keepFrame_keeps (s : State) (f : Frame) : Keeps [.sw, .links, .sec] s (s.keepFrame f) :=
  ((putSw_keeps s _).mono (by simp)).trans ((keepFrame_credit s f).mono (by simp))

theorem keepFrame_sw (s : State) (f : Frame) : (s.keepFrame f).sw = s.keptSw f := (keepFrame_credit s f).sw (by simp)

/-- The frame that is kept is read under the number that was the next. -/
theorem keepFrame_frame (s : State) (f : Frame) :
    (s.keepFrame f).frame s.sw.nextFrame = some { f with id := s.sw.nextFrame } := by
  rw [State.frame, keepFrame_sw]
  exact read_write_self _ _ (by simp)

theorem keepFrame_nextFrame (s : State) (f : Frame) : (s.keepFrame f).sw.nextFrame = s.sw.nextFrame + 1 := by
  rw [keepFrame_sw, State.keptSw]

theorem keepFrame_quotaWaits (s : State) (f : Frame) : (s.keepFrame f).sw.quotaWaits = s.sw.quotaWaits := by
  rw [keepFrame_sw, State.keptSw]

/-! ### Admission (R238) -/

/-- A request with room in its quota, behind none that waits, is kept with the room for its response. -/
theorem admitFrame_of_room {f : Frame} (hw : s.sw.quotaWaits.any (fun w => decide (w.quota = ownerIx f.tenant)) = false)
    (hr : f.cells + s.roomFor f ≤ s.quotaFree (ownerIx f.tenant)) :
    s.admitFrame f = s.keepFrame { f with rspRoom := s.roomFor f } := by
  have hr' : ¬ s.quotaFree (ownerIx f.tenant) < f.cells + s.roomFor f := Nat.not_lt.mpr hr
  have hc : ({ f with rspRoom := s.roomFor f } : Frame).cells = f.cells := rfl
  simp only [State.admitFrame, hw, hc, hr', Bool.false_eq_true, or_self, if_false]

/-- A request behind others, or without room, waits behind them. -/
theorem admitFrame_of_wait {f : Frame} (h : s.sw.quotaWaits.any (fun w => decide (w.quota = ownerIx f.tenant)) = true ∨
    s.quotaFree (ownerIx f.tenant) < f.cells + s.roomFor f) :
    s.admitFrame f = { s with sw := { s.sw with quotaWaits := s.sw.quotaWaits ++ [
      { frame := { f with rspRoom := s.roomFor f }, quota := ownerIx f.tenant, injected := f.inPort.isNone
        deadline := s.now + nsUnits (s.num O.quotaWaitNs 2000) }] } } := if_pos h

/-- The room a response needs is read from the switch and from this package's NODE. -/
theorem roomFor_eq {f : Frame} (hsw : t.sw = s.sw) (hn : t.nodeId = s.nodeId) : t.roomFor f = s.roomFor f := by
  unfold State.roomFor State.isHere
  rw [hsw, hn]

theorem roomLive_eq {r : RspRoom} (hr : t.remote = s.remote) (hn : t.nodeId = s.nodeId) : t.roomLive r = s.roomLive r := by
  simp only [State.roomLive, hr, hn]

/-- The room left in a quota is read from its register and from what is charged to it. -/
theorem quotaFree_eq {n : Nat} (hq : t.quotaCells n = s.quotaCells n) (hsw : t.sw = s.sw) (hr : t.remote = s.remote) (hh : t.hcu = s.hcu)
    (hn : t.nodeId = s.nodeId) : t.quotaFree n = s.quotaFree n := by
  simp only [State.quotaFree, hq, State.quotaUsed, hsw, hh, roomLive_eq hr hn]

/-! ### A frame received on a port (R42, R428) -/

/-- The frame that a header and a payload spell, as it arrives on a port. -/
def State.arrival (s : State) (p : Nat) (header payload : List Byte) : Frame :=
  { frameOf header payload with
    inPort := some p, fromDzm := decide ((s.port p).mode = .opvitik) && !(s.port p).peerEndpoint
    lastSeq := ((s.port p).arrived.find? (fun e => decide (e.1 = header ++ payload))).map (·.2) }

/-- What has changed when a frame that has arrived on a port is looked at: the port has given it over, and its bytes are metered. -/
def State.heard (s : State) (p : Nat) (header payload : List Byte) : State :=
  let f := s.arrival p header payload
  (s.setPort p { s.port p with arrived := (s.port p).arrived.erase (header ++ payload, f.lastSeq.getD 0) }).meter
    (if s.trusted p then f.tenant else (s.bind p).tenant) 0x09 (32 + f.bytes)

theorem frameIn_of_request {p : Nat} {header payload : List Byte} (hup : (s.port p).up = true)
    (hk : (s.arrival p header payload).kind = 0) :
    s.frameIn p header payload = (s.heard p header payload).requestIn p (s.arrival p header payload) := by
  unfold State.frameIn
  extract_lets x k s1 f owner s2
  rw [if_neg (by simp [x, hup]), if_pos (show f.kind = 0 from hk)]
  rfl

theorem heard_keeps (s : State) (p : Nat) (header payload : List Byte) : Keeps [.links, .dict] s (s.heard p header payload) :=
  ((setPort_keeps _ _ _).mono (by simp)).trans ((meter_keeps _ _ _ _).mono (by simp))

theorem heard_num (s : State) {p j : Nat} {header payload : List Byte} (d : Nat) (hj : j < 0x5C01 * 256) :
    (s.heard p header payload).num j d = s.num j d := num_meter_ne _ _ hj

theorem meter_links (s : State) (tenant sub n : Nat) : (s.meter tenant sub n).links = s.links := by
  have := keeps_iff.mp (meter_keeps s tenant sub n) .links
  simpa [Part.same] using this

theorem port_setPort_up {p : Nat} {x : Port} (hup : x.up = true) : (s.setPort p x).port p = x := by
  have hx : x ≠ {} := by rintro rfl; nomatch hup
  exact read_write_self _ _ hx

/-- A port that is up has given the frame over, and is otherwise as before. -/
theorem heard_port {p : Nat} {header payload : List Byte} (hup : (s.port p).up = true) :
    ∃ l, (s.heard p header payload).port p = { s.port p with arrived := l } := by
  refine ⟨(s.port p).arrived.erase (header ++ payload, (s.arrival p header payload).lastSeq.getD 0), ?_⟩
  rw [State.heard, State.port, meter_links]
  exact port_setPort_up (x := { s.port p with arrived := _ }) hup

theorem requestIn_accepted {p : Nat} {f : Frame} (hbad : s.arrivalBad p f = none) (htc : f.tc ≠ 0)
    (hweir : bitAt (s.reg (R.trfWeirBind p (f.tc - 1)) 0) 16 = false) : s.requestIn p f = s.admitFrame (s.firstHop p f) := by
  have htc' : (s.firstHop p f).tc = f.tc := by
    unfold State.firstHop
    dsimp only
    split <;> split <;> rfl
  simp only [State.requestIn, hbad, htc', htc, if_false, State.ingressWeir, hweir, Bool.not_false, Bool.not_true,
    Bool.false_eq_true, true_or, if_true]

theorem heard_nodeId (s : State) {p : Nat} {header payload : List Byte} : (s.heard p header payload).nodeId = s.nodeId :=
  heard_num _ _ (by decide)

theorem heard_bind (s : State) {p : Nat} {header payload : List Byte} : (s.heard p header payload).bind p = s.bind p := by
  rw [State.bind, (heard_keeps s p header payload).sec (by simp), ← State.bind]

theorem heard_trusted {p : Nat} {header payload : List Byte} (hup : (s.port p).up = true) :
    (s.heard p header payload).trusted p = s.trusted p := by
  obtain ⟨l, hl⟩ := heard_port (header := header) (payload := payload) hup
  unfold State.trusted
  rw [hl, heard_bind]

/-- The frame is judged as the port and the package stood when it arrived. -/
theorem heard_arrivalBad {p : Nat} {header payload : List Byte} {f : Frame} (hup : (s.port p).up = true) :
    (s.heard p header payload).arrivalBad p f = s.arrivalBad p f := by
  obtain ⟨l, hl⟩ := heard_port (header := header) (payload := payload) hup
  unfold State.arrivalBad
  rw [hl, heard_trusted hup, heard_bind, heard_nodeId]

/-- Its fields are set as the port and the package stood when it arrived. -/
theorem heard_firstHop {p : Nat} {header payload : List Byte} {f : Frame} (hup : (s.port p).up = true) :
    (s.heard p header payload).firstHop p f = s.firstHop p f := by
  unfold State.firstHop
  rw [heard_trusted hup, heard_bind, heard_nodeId]

/-- A request that nothing refuses, of a class without a Weir on its port, asks for room in its quota. -/
theorem frameIn_admits {p : Nat} {header payload : List Byte} {f : Frame} (hup : (s.port p).up = true)
    (hf : f = s.arrival p header payload) (hk : f.kind = 0) (htc : f.tc ≠ 0) (hbad : s.arrivalBad p f = none)
    (hweir : bitAt (s.reg (R.trfWeirBind p (f.tc - 1)) 0) 16 = false) :
    s.frameIn p header payload = (s.heard p header payload).admitFrame (s.firstHop p f) := by
  subst hf
  have hreg : ∀ a d, (s.heard p header payload).reg a d = s.reg a d := fun a d =>
    reg_eq ((heard_keeps s p header payload).csr (by simp))
  rw [frameIn_of_request hup hk, requestIn_accepted ((heard_arrivalBad hup).trans hbad) htc (by rw [hreg, hweir]), heard_firstHop hup]

theorem heard_roomFor (s : State) {p : Nat} {header payload : List Byte} {f : Frame} :
    (s.heard p header payload).roomFor f = s.roomFor f :=
  roomFor_eq ((heard_keeps s p header payload).sw (by simp)) (heard_nodeId s)

theorem heard_quotaFree (s : State) {p : Nat} {header payload : List Byte} {n : Nat} :
    (s.heard p header payload).quotaFree n = s.quotaFree n := by
  have h := heard_keeps s p header payload
  refine quotaFree_eq ?_ (h.sw (by simp)) (h.remote (by simp)) (h.hcu (by simp)) (heard_nodeId s)
  rw [State.quotaCells, reg_eq (h.csr (by simp)), ← State.quotaCells]

/-! ### The clauses of O36 -/

/-- A request received with room in its quota is kept. -/
theorem gives_frameReceive_kept {p : Nat} {header payload : List Byte} {f g : Frame} (hrun : s.running = true) (hup : (s.port p).up = true)
    (hf : f = s.arrival p header payload) (hk : f.kind = 0) (htc : f.tc ≠ 0) (hbad : s.arrivalBad p f = none) (hg : g = s.firstHop p f)
    (hweir : bitAt (s.reg (R.trfWeirBind p (f.tc - 1)) 0) 16 = false)
    (hw : s.sw.quotaWaits.any (fun w => decide (w.quota = ownerIx g.tenant)) = false)
    (hr : g.cells + s.roomFor g ≤ s.quotaFree (ownerIx g.tenant)) :
    Gives (.frameReceive p header payload) s (fun t =>
      t.frame s.sw.nextFrame = some { g with rspRoom := s.roomFor g, id := s.sw.nextFrame } ∧ t.sw.nextFrame = s.sw.nextFrame + 1 ∧
      Keeps [.dict, .remote, .sw, .traffic, .sec, .links, .freeCounter] s t) := by
  have hin := frameIn_admits (s := s.begin) hup hf hk htc hbad hweir
  have hkeeps := (begin_keeps s).mono (d := [.links, .dict]) (by simp) |>.trans (heard_keeps s.begin p header payload)
  have hroom : (s.begin.heard p header payload).roomFor g = s.roomFor g := heard_roomFor s.begin
  have hfree : ∀ n, (s.begin.heard p header payload).quotaFree n = s.quotaFree n := fun n => heard_quotaFree s.begin
  have hsw : (s.begin.heard p header payload).sw = s.sw := hkeeps.sw (by simp)
  generalize s.begin.heard p header payload = u at *
  have hg' : s.begin.firstHop p f = g := hg.symm
  rw [hg', admitFrame_of_room (by rw [hsw, hw]) (by rw [hroom, hfree]; exact hr), hroom] at hin
  refine ⟨_, congrArg Host.Outcome.next ((whenRunning_begin _ hrun).trans hin), ?_, ?_, ?_⟩
  · rw [← hsw, keepFrame_frame]
  · rw [keepFrame_nextFrame, hsw]
  · exact (hkeeps.mono (by simp)).trans ((keepFrame_keeps _ _).mono (by simp))

/-- A request of a quota in which frames wait already, or without room, waits behind them. -/
theorem gives_frameReceive_waits {p : Nat} {header payload : List Byte} {f g : Frame} (hrun : s.running = true) (hup : (s.port p).up = true)
    (hf : f = s.arrival p header payload) (hk : f.kind = 0) (htc : f.tc ≠ 0) (hbad : s.arrivalBad p f = none) (hg : g = s.firstHop p f)
    (hweir : bitAt (s.reg (R.trfWeirBind p (f.tc - 1)) 0) 16 = false)
    (hw : s.sw.quotaWaits.any (fun w => decide (w.quota = ownerIx g.tenant)) = true ∨
      s.quotaFree (ownerIx g.tenant) < g.cells + s.roomFor g) :
    Gives (.frameReceive p header payload) s (fun t => t.sw.quotaWaits = s.sw.quotaWaits ++ [
      { frame := { g with rspRoom := s.roomFor g }, quota := ownerIx g.tenant, injected := false
        deadline := s.now + nsUnits (s.num O.quotaWaitNs 2000) }] ∧ t.sw.frames = s.sw.frames) := by
  have hin := frameIn_admits (s := s.begin) hup hf hk htc hbad hweir
  have hkeeps := (begin_keeps s).mono (d := [.links, .dict]) (by simp) |>.trans (heard_keeps s.begin p header payload)
  have hroom : (s.begin.heard p header payload).roomFor g = s.roomFor g := heard_roomFor s.begin
  have hfree : ∀ n, (s.begin.heard p header payload).quotaFree n = s.quotaFree n := fun n => heard_quotaFree s.begin
  have hlimit : (s.begin.heard p header payload).num O.quotaWaitNs 2000 = s.num O.quotaWaitNs 2000 := heard_num s.begin _ (by decide)
  have hsw : (s.begin.heard p header payload).sw = s.sw := hkeeps.sw (by simp)
  have hnow : (s.begin.heard p header payload).now = s.now := hkeeps.now (by simp)
  have hport : g.inPort.isNone = false := by
    rw [hg, hf]
    unfold State.firstHop
    dsimp only
    split <;> split <;> rfl
  generalize s.begin.heard p header payload = u at *
  have hg' : s.begin.firstHop p f = g := hg.symm
  rw [hg', admitFrame_of_wait (by rw [hsw, hroom, hfree]; exact hw), hroom, hlimit, hnow, hport, hsw] at hin
  exact ⟨_, congrArg Host.Outcome.next ((whenRunning_begin _ hrun).trans hin), rfl, rfl⟩

/-! A grant is spent (R258): it reads as none, and of the registers only the arbiter's own have changed. -/

theorem arbDrop_keeps (s : State) (k : ArbKind) : Keeps [.csr] s (s.arbDrop k) := by
  unfold State.arbDrop
  split
  · exact Keeps.refl _ _
  · exact (setReg_keeps _ _ _).trans ((setReg_keeps _ _ _).trans (setReg_keeps _ _ _))

theorem arbGrant_arbDrop (s : State) (i : Nat) : (s.arbDrop (.inject i)).arbGrant (.inject i) = none := by
  unfold State.arbDrop
  split
  · next h => exact h
  · next n h =>
    have hwait : (ArbKind.inject i).base + 0x0C ≠ (ArbKind.inject i).waitAt n := by simp only [ArbKind.waitAt]; omega
    rw [State.arbGrant, reg_setReg_ne _ _ _ hwait, reg_setReg_ne _ _ _ (by omega), reg_setReg_self]
    simp [bitAt]

/-- The quota registers stand below the arbiters of the injection ports. -/
theorem quotaCells_arbDrop (s : State) (i tenant : Nat) :
    (s.arbDrop (.inject i)).quotaCells (ownerIx tenant) = s.quotaCells (ownerIx tenant) := by
  have hlow : R.swcQuota (ownerIx tenant) < 0x0201000 := by
    show 0x0200400 + 4 * ownerIx tenant < 0x0201000
    unfold ownerIx
    split <;> omega
  have hbase : 0x0201000 ≤ (ArbKind.inject i).base := by simp only [ArbKind.base]; omega
  unfold State.arbDrop
  split
  · rfl
  · next n _ =>
    have hwait : (ArbKind.inject i).base ≤ (ArbKind.inject i).waitAt n := by simp only [ArbKind.waitAt]; omega
    rw [State.quotaCells, reg_setReg_ne _ _ _ (by omega), reg_setReg_ne _ _ _ (by omega), reg_setReg_ne _ _ _ (by omega),
      ← State.quotaCells]

/-- A local frame that is not of class 0 takes its owner's grant. -/
theorem injectFrame_of_grant {i : Nat} {f : Frame} (hi : i < 14) (hp : s.arbPresent (.inject i) = true)
    (hk : f.kind = 1 ∨ f.kind = 0 ∧ f.tc ≠ 0) (hg : s.arbGrant (.inject i) = some (ownerIx f.tenant)) :
    s.injectFrame i f = if f.kind = 1 then (s.arbDrop (.inject i)).keepFrame f else (s.arbDrop (.inject i)).admitFrame f := by
  have hi' : ¬ 14 ≤ i := by omega
  have hk' : ¬ 2 ≤ f.kind := by omega
  have htc : ¬ (f.tc = 0 ∧ f.kind = 0) := by omega
  simp only [State.injectFrame, hi', hp, hk', htc, hg, Bool.not_true, Bool.false_eq_true, or_self, ne_eq, not_true_eq_false, if_false]

/-- A local response with its grant is kept in the room its request reserved. -/
theorem gives_injection_response {i : Nat} {header payload : List Byte} {f : Frame} (hrun : s.running = true) (hi : i < 14)
    (hp : s.arbPresent (.inject i) = true) (hf : f = frameOf header payload) (hk : f.kind = 1)
    (hg : s.arbGrant (.inject i) = some (ownerIx f.tenant)) :
    Gives (.injectionFrame i header payload) s (fun t => t.frame s.sw.nextFrame = some { f with id := s.sw.nextFrame } ∧
      t.sw.nextFrame = s.sw.nextFrame + 1 ∧ t.arbGrant (.inject i) = none ∧ Keeps [.csr, .sw, .sec, .links] s t) := by
  have hin := injectFrame_of_grant (s := s.begin) hi hp (.inl hk) hg
  rw [if_pos hk] at hin
  have hkeeps := (begin_keeps s).mono (d := [.csr]) (by simp) |>.trans (arbDrop_keeps s.begin (.inject i))
  have hnone := arbGrant_arbDrop s.begin i
  have hsw : (s.begin.arbDrop (.inject i)).sw = s.sw := hkeeps.sw (by simp)
  generalize s.begin.arbDrop (.inject i) = u at *
  subst hf
  refine ⟨_, congrArg Host.Outcome.next ((whenRunning_begin _ hrun).trans hin), ?_, ?_, ?_, ?_⟩
  · rw [← hsw, keepFrame_frame]
  · rw [keepFrame_nextFrame, hsw]
  · rw [State.arbGrant, reg_eq ((keepFrame_keeps u _).csr (by simp))]
    exact hnone
  · exact (hkeeps.mono (by simp)).trans ((keepFrame_keeps _ _).mono (by simp))

/-- A local request with its grant, and with room in its quota, is kept. -/
theorem gives_injection_request {i : Nat} {header payload : List Byte} {f : Frame} (hrun : s.running = true) (hi : i < 14)
    (hp : s.arbPresent (.inject i) = true) (hf : f = frameOf header payload) (hk : f.kind = 0) (htc : f.tc ≠ 0)
    (hg : s.arbGrant (.inject i) = some (ownerIx f.tenant))
    (hw : s.sw.quotaWaits.any (fun w => decide (w.quota = ownerIx f.tenant)) = false)
    (hr : f.cells + s.roomFor f ≤ s.quotaFree (ownerIx f.tenant)) :
    Gives (.injectionFrame i header payload) s (fun t =>
      t.frame s.sw.nextFrame = some { f with rspRoom := s.roomFor f, id := s.sw.nextFrame } ∧ Keeps [.csr, .sw, .sec, .links] s t) := by
  have hin := injectFrame_of_grant (s := s.begin) hi hp (.inr ⟨hk, htc⟩) hg
  rw [if_neg (by omega)] at hin
  have hkeeps := (begin_keeps s).mono (d := [.csr]) (by simp) |>.trans (arbDrop_keeps s.begin (.inject i))
  have hsw : (s.begin.arbDrop (.inject i)).sw = s.sw := hkeeps.sw (by simp)
  have hnode : (s.begin.arbDrop (.inject i)).nodeId = s.nodeId := nodeId_eq (hkeeps.dict (by simp))
  have hroom : (s.begin.arbDrop (.inject i)).roomFor f = s.roomFor f := roomFor_eq hsw hnode
  have hfree : (s.begin.arbDrop (.inject i)).quotaFree (ownerIx f.tenant) = s.quotaFree (ownerIx f.tenant) :=
    quotaFree_eq (quotaCells_arbDrop s.begin i f.tenant) hsw (hkeeps.remote (by simp)) (hkeeps.hcu (by simp)) hnode
  generalize s.begin.arbDrop (.inject i) = u at *
  rw [admitFrame_of_room (by rw [hsw, hw]) (by rw [hroom, hfree]; exact hr), hroom] at hin
  subst hf
  refine ⟨_, congrArg Host.Outcome.next ((whenRunning_begin _ hrun).trans hin), ?_, ?_⟩
  · rw [← hsw, keepFrame_frame]
  · exact (hkeeps.mono (by simp)).trans ((keepFrame_keeps _ _).mono (by simp))

/-- A frame that waits is admitted once there is room: it leaves the ones that wait, and a frame of a port is marked deferred. -/
theorem quotaAdmit_of_room {n : Nat} {w : QuotaWait} (hw : s.sw.quotaWaits.find? (fun w => decide (w.quota = n)) = some w)
    (hr : w.frame.cells + w.frame.rspRoom ≤ s.quotaFree n) :
    ∃ u, Keeps [.dict] { s with sw := { s.sw with quotaWaits := s.sw.quotaWaits.erase w } } u ∧ s.quotaAdmit n = u.keepFrame
      { w.frame with defer := if w.injected = false ∧ w.frame.defer = .none then .bufferQuota else w.frame.defer } := by
  have hr' : ¬ s.quotaFree n < w.frame.cells + w.frame.rspRoom := Nat.not_lt.mpr hr
  unfold State.quotaAdmit
  simp only [hw, hr', if_false]
  split
  · next hinj => exact ⟨_, bump_keeps _ O.quotaDeferrals, by simp [hinj]⟩
  · next hinj =>
    exact ⟨_, (bump_keeps _ O.quotaDeferrals).trans (countDeferral_keeps _ w.frame.tenant .bufferQuota), by simp [hinj]⟩

theorem gives_quotaAdmit {tenant : Nat} {w : QuotaWait} (hrun : s.running = true)
    (hw : s.sw.quotaWaits.find? (fun w => decide (w.quota = ownerIx tenant)) = some w)
    (hr : w.frame.cells + w.frame.rspRoom ≤ s.quotaFree (ownerIx tenant)) :
    Gives (.quotaAdmit tenant) s (fun t => t.sw.quotaWaits = s.sw.quotaWaits.erase w ∧ t.frame s.sw.nextFrame = some { w.frame with
        id := s.sw.nextFrame, defer := if w.injected = false ∧ w.frame.defer = .none then .bufferQuota else w.frame.defer } ∧
      Keeps [.dict, .sw, .sec, .links] s t) := by
  obtain ⟨u, hu, hadmit⟩ := quotaAdmit_of_room (s := s.begin) hw hr
  have hsw := hu.sw (by simp)
  refine ⟨_, congrArg Host.Outcome.next ((whenRunning_begin _ hrun).trans hadmit), ?_, ?_, ?_⟩
  · rw [keepFrame_quotaWaits, hsw]
    rfl
  · have hn : s.sw.nextFrame = u.sw.nextFrame := by rw [hsw]; rfl
    rw [hn, keepFrame_frame]
  · exact (((begin_keeps s).mono (by simp)).trans ((putSw_keeps _ _).mono (by simp))).trans
      ((hu.mono (by simp)).trans ((keepFrame_keeps _ _).mono (by simp)))

/-! ### What has been sent stays sent -/

theorem bumpN_out (s : State) (k n : Nat) : (s.bumpN k n).out = s.out := by
  unfold State.bumpN
  split <;> rfl

theorem countRefusal_out (s : State) (tenant : Nat) (r : Reason) : (s.countRefusal tenant r).out = s.out := by
  unfold State.countRefusal
  split
  · rfl
  · exact bumpN_out _ _ _

theorem countRetired_out (s : State) (i : Issuer) : (s.countRetired i).out = s.out := by
  unfold State.countRetired
  split
  · rfl
  · split <;> rfl

theorem closeOp_out (s : State) (i : Issuer) (posted : Bool) (id : Nat) : (s.closeOp i posted id).out = s.out := by
  unfold State.closeOp
  split
  · rfl
  · dsimp only
    split
    · rw [countRetired_out]
    · rfl

theorem markInjected_out (s : State) (a : Response) : (s.markInjected a).2.out = s.out :=
  (apply_ite State.out _ _ _).trans (by rw [State.bump, bumpN_out, ite_self])

/-- An answer that is sent has the STATUS, the DISP and the REASON it is given, where its STATUS is not OK. -/
theorem respondCore_response (s : State) (r : Req) (op : Nat) {a : Response} (q : LoadQueue) (ha : a.status ≠ .ok) :
    ∃ x : Response, x.status = a.status ∧ x.disp = a.disp ∧ x.reason = a.reason ∧
      (s.respondCore r op a q).out.sent = s.out.sent ++ [.response r op x] := by
  have hdefer : deferredBy r.defer a = a := if_neg (fun h => ha h.1)
  have hmark : (s.markInjected a).1.status = a.status ∧ (s.markInjected a).1.disp = a.disp ∧
      (s.markInjected a).1.reason = a.reason := by
    unfold State.markInjected
    dsimp only
    split <;> exact ⟨rfl, rfl, rfl⟩
  unfold State.respondCore
  rw [hdefer]
  extract_lets a' s0 s1
  have hout : s1.out = s.out := by
    have h0 : s0.out = s.out := markInjected_out s a
    simp only [s1]
    split
    · rw [countRefusal_out, h0]
    · exact h0
  obtain ⟨hst, hdisp, hreason⟩ : a'.status = a.status ∧ a'.disp = a.disp ∧ a'.reason = a.reason := hmark
  have hok : a'.status ≠ .ok := hst ▸ ha
  simp only [hok, if_false]
  split
  · exact ⟨{ a' with load := s1.loadOf q }, hst, hdisp, hreason, by rw [← hout]; rfl⟩
  · split
    · exact ⟨{ a' with load := s1.loadOf q }, hst, hdisp, hreason, by rw [← hout]; rfl⟩
    · refine ⟨{ a' with load := (s1.closeOp r.issuer false r.seq).loadOf q }, hst, hdisp, hreason, ?_⟩
      rw [← hout, ← closeOp_out s1 r.issuer false r.seq]
      rfl

/-- An operation leaves in place what has been sent before it. -/
def State.SentStays (s t : State) : Prop := s.out.sent ⊆ t.out.sent

theorem State.SentStays.of_out (h : t.out = s.out) : s.SentStays t := by rw [State.SentStays, h]; exact List.Subset.refl _

theorem State.SentStays.trans {u : State} (h : s.SentStays t) (g : t.SentStays u) : s.SentStays u := List.Subset.trans h g

theorem State.SentStays.foldl {α : Type} {f : State → α → State} (hf : ∀ (s : State) a, s.SentStays (f s a)) (l : List α)
    (s : State) : s.SentStays (l.foldl f s) := by
  induction l generalizing s with
  | nil => exact .of_out rfl
  | cons a l ih => exact (hf s a).trans (ih _)

theorem State.SentStays.ite {c : Prop} [Decidable c] {u : State} (h : s.SentStays t) (g : s.SentStays u) :
    s.SentStays (if c then t else u) := by
  split
  · exact h
  · exact g

theorem putRemote_sentStays (s : State) (q : RemoteState) : s.SentStays { s with remote := q } := .of_out rfl

theorem emit_sentStays (s : State) (m : Msg) : s.SentStays (s.emit m) := List.subset_append_left _ _

theorem respondCore_sentStays (s : State) (r : Req) (op : Nat) (a : Response) (q : LoadQueue) :
    s.SentStays (s.respondCore r op a q) := by
  unfold State.respondCore
  extract_lets a' s0 s1
  have h1 : s.SentStays s1 :=
    (State.SentStays.of_out (markInjected_out s _)).trans (.ite (.of_out (countRefusal_out _ _ _)) (.of_out rfl))
  have hemit : ∀ (u : State) m n, State.SentStays u { u.emit m with freeCounter := n } := fun u m _ => emit_sentStays u m
  refine h1.trans (.ite (hemit _ _ _) (.ite (.ite (.of_out (closeOp_out _ _ _ _)) (hemit _ _ _)) ?_))
  exact (State.SentStays.of_out (closeOp_out s1 r.issuer false r.seq)).trans (hemit _ _ _)

theorem endWaitCore_sentStays (s : State) (w : Wait) (st : Status) : s.SentStays (s.endWaitCore w st) :=
  (putRemote_sentStays s _).trans (respondCore_sentStays _ _ _ _ _)

theorem retest_sentStays (s : State) (n : Nat) : s.SentStays (s.retest n) := .foldl (fun _ _ => endWaitCore_sentStays _ _ _) _ _

theorem updateCore_sentStays (s : State) (n : Nat) (v : Word64) (i : Issuer) : s.SentStays (s.updateCore n v i) := by
  unfold State.updateCore
  extract_lets o s1
  refine State.SentStays.trans ?_ (retest_sentStays _ _)
  exact .of_out rfl

theorem clearSticky_out (s : State) (i : Issuer) : (s.clearSticky i).out = s.out := by
  unfold State.clearSticky
  split
  · rfl
  · split <;> rfl

theorem endFence_sentStays (s : State) (f : PendingFence) : s.SentStays (s.endFence f) := by
  unfold State.endFence
  exact (State.SentStays.ite (.of_out rfl) (.of_out (clearSticky_out _ _))).trans (respondCore_sentStays _ _ _ _ _)

theorem endNotify_sentStays (s : State) (p : PendingNotify) : s.SentStays (s.endNotify p) :=
  (updateCore_sentStays _ _ _ _).trans (respondCore_sentStays _ _ _ _ _)

theorem wakeN_sentStays (n : Nat) (s : State) : s.SentStays (State.wakeN n s) := by
  induction n generalizing s with
  | zero => exact .of_out rfl
  | succ n ih =>
    unfold State.wakeN
    split
    · exact ((putRemote_sentStays s _).trans (endFence_sentStays _ _)).trans (ih _)
    · split
      · exact ((putRemote_sentStays s _).trans (endNotify_sentStays _ _)).trans (ih _)
      · exact .of_out rfl

theorem countFlit_sentStays (s : State) (p : Nat) : s.SentStays (s.countFlit p) :=
  .ite (.of_out rfl) (.ite (.of_out rfl) (.of_out rfl))

theorem setPort_sentStays (s : State) (p : Nat) (x : Port) : s.SentStays (s.setPort p x) := .of_out rfl

theorem txSeq_sentStays (s : State) (p : Nat) (f : SentFlit) : s.SentStays (s.txSeq p f) :=
  (setPort_sentStays _ _ _).trans ((emit_sentStays _ _).trans (countFlit_sentStays _ _))

theorem flushCredits_sentStays (s : State) (p : Nat) : s.SentStays (s.flushCredits p) :=
  .foldl (fun _ _ => .ite (.of_out rfl)
    ((setPort_sentStays _ _ _).trans ((txSeq_sentStays _ _ _).trans (emit_sentStays _ _)))) _ _

theorem creditBack_sentStays (s : State) (p : Nat) (c : Chan) (cells : Nat) : s.SentStays (s.creditBack p c cells) :=
  .ite (.of_out rfl) ((setPort_sentStays _ _ _).trans (flushCredits_sentStays _ _))

theorem dropArrival_sentStays (s : State) (f : Frame) : s.SentStays (s.dropArrival f) := by
  unfold State.dropArrival
  split
  · exact creditBack_sentStays _ _ _ _
  · exact .of_out rfl

/-- An operation that fails is answered, whatever goes ahead with it. -/
theorem respond_answered (s : State) (r : Req) (op : Nat) {a : Response} (q : LoadQueue) (ha : a.status ≠ .ok) :
    ∃ x : Response, x.status = a.status ∧ x.disp = a.disp ∧ x.reason = a.reason ∧
      .response r op x ∈ (s.respond r op a q).out.sent := by
  obtain ⟨x, hst, hdisp, hreason, hx⟩ := respondCore_response s r op q ha
  exact ⟨x, hst, hdisp, hreason, wakeN_sentStays _ _ (by simp [hx])⟩

/-- The request of a frame that spells one is read from the operations that are open. -/
theorem reqOf_eq {f : Frame} (hk : f.kind = 0) (hr : t.remote = s.remote) : t.reqOf f = s.reqOf f := by
  simp only [State.reqOf, hk, hr, if_true]

/-- What has come of an operation that a frame is a part of is dropped (R233). -/
def State.dropParts (s : State) (f : Frame) : State :=
  if s.sw.partials.any f.partOf then
    { s with sw := { s.sw with partials := s.sw.partials.filter (fun x => !(f.partOf x)) } } else s

theorem dropParts_keeps (s : State) (f : Frame) : Keeps [.sw] s (s.dropParts f) := Keeps.ite (putSw_keeps _ _) (Keeps.refl _ _)

theorem dropParts_quotaWaits (s : State) (f : Frame) : (s.dropParts f).sw.quotaWaits = s.sw.quotaWaits := by
  unfold State.dropParts
  split <;> rfl

/-- The first frame of a request that is refused is answered. -/
theorem refuseFrame_first {f : Frame} {st : Status} {reason : Reason} (hk : f.kind = 0) (hi : f.index = 0) :
    s.refuseFrame f st reason = (s.dropParts f).respond (s.reqOf f) f.op (refusal st reason) := by
  rw [← reqOf_eq hk ((dropParts_keeps s f).remote (by simp))]
  exact if_pos ⟨hk, .inl hi⟩

/-- A frame whose wait is over is refused with E_NOSPACE, and its credit returns. -/
theorem gives_quotaWaitExpiry {tenant : Nat} {w : QuotaWait} (hrun : s.running = true)
    (hw : s.sw.quotaWaits.find? (fun w => decide (w.quota = ownerIx tenant) && !w.injected) = some w) (hk : w.frame.kind = 0)
    (hi : w.frame.index = 0) :
    Gives (.quotaWaitExpiry tenant) s (fun t => t.sw.quotaWaits = s.sw.quotaWaits.erase w ∧
      Answered t (s.reqOf w.frame) w.frame.op
        (fun r => decide (r.status = .nospace ∧ r.disp = .refused ∧ r.reason = .bufferQuota)) = true ∧
      w.deadline ≤ t.now ∧ Keeps [.now, .ftc, .dict, .remote, .sw, .sec, .links, .freeCounter] s t) := by
  have hw' : s.begin.sw.quotaWaits.find? _ = some w := hw
  refine ⟨_, congrArg Host.Outcome.next (whenRunning_begin _ hrun), ?_⟩
  simp only [hw', State.refuseArrival]
  generalize hu : State.bump _ O.quotaRefusals = u
  have hkeeps : Keeps [.now, .ftc, .dict, .sw] s u := by
    rw [← hu]
    exact ((begin_keeps s).mono (by simp)).trans (((elapse_keeps _ _).mono (by simp)).trans
      (((putSw_keeps _ _).mono (by simp)).trans ((bump_keeps _ _).mono (by simp))))
  have hsw : u.sw = { s.sw with quotaWaits := s.sw.quotaWaits.erase w } := by
    rw [← hu, (bump_keeps _ _).sw (by simp)]
    rfl
  have hnow : w.deadline ≤ u.now := by
    rw [← hu, (bump_keeps _ _).now (by simp)]
    show w.deadline ≤ (s.begin.elapse w.deadline).now
    rw [elapse_now]
    exact Nat.le_max_right _ _
  rw [refuseFrame_first hk hi, reqOf_eq hk (hkeeps.remote (by simp))]
  have hr := respond_keeps (u.dropParts w.frame) (s.reqOf w.frame) w.frame.op (refusal .nospace .bufferQuota) .hub
  have hd := dropArrival_keeps ((u.dropParts w.frame).respond (s.reqOf w.frame) w.frame.op (refusal .nospace .bufferQuota)) w.frame
  refine ⟨?_, ?_, ?_, ?_⟩
  · rw [hd.sw (by simp), hr.sw (by simp), dropParts_quotaWaits, hsw]
  · obtain ⟨x, hst, hdisp, hreason, hx⟩ := respond_answered (u.dropParts w.frame) (s.reqOf w.frame) w.frame.op
      (a := refusal .nospace .bufferQuota) .hub (by simp [refusal])
    refine List.any_eq_true.mpr ⟨_, dropArrival_sentStays _ _ hx, ?_⟩
    simp [hst, hdisp, hreason, refusal]
  · rw [hd.now (by simp), hr.now (by simp), (dropParts_keeps _ _).now (by simp)]
    exact hnow
  · exact ((hkeeps.mono (by simp)).trans ((dropParts_keeps _ _).mono (by simp))).trans
      ((hr.mono (by simp)).trans (hd.mono (by simp)))

/-! ### A frame that is linked (R240) -/

/-- The gap a frame tells of is counted. -/
def State.noteGap (s : State) (f : Frame) : State := if f.gap then s.bump O.gapsReceived else s

theorem noteGap_keeps (s : State) (f : Frame) : Keeps [.dict] s (s.noteGap f) := Keeps.ite (bump_keeps _ _) (Keeps.refl _ _)

theorem branchOf_eq {f : Frame} (hsw : t.sw = s.sw) : t.branchOf f = s.branchOf f := by
  rw [State.branchOf, hsw, ← State.branchOf]

theorem operationOf_eq {f : Frame} {d : List Byte} (hk : f.kind = 0) (hr : t.remote = s.remote) :
    t.operationOf f d = s.operationOf f d := by
  simp only [State.operationOf, reqOf_eq hk hr]

/-- A one-frame request for this node becomes an operation, and its descriptor is freed. -/
theorem linkFrame_of_here {f : Frame} (hl : f.linked = false) (hk : f.kind = 0) (hi : f.index = 0) (hslot : f.slot = none)
    (hm : isMulticast f.dstNode = false) (hhere : s.isHere f.dstNode = true) (hb : s.branchOf f = none)
    (he : f.ends f.bytes = true) :
    s.linkFrame f = ((s.noteGap f).emit (.operation (s.operationOf f f.payload))).freeFrame f.id := by
  have hg := noteGap_keeps s f
  have hb' : (s.noteGap f).branchOf f = none := (branchOf_eq (hg.sw (by simp))).trans hb
  have hd : (s.noteGap f).deliverFrame f none = (s.noteGap f).emit (.operation (s.operationOf f f.payload)) := by
    simp only [State.deliverFrame, hi, he, State.deliverWhole, hk, operationOf_eq hk (hg.remote (by simp)), if_true]
  rw [State.linkFrame, if_neg (by simp [hl]), if_neg (by simp [hm]), if_neg (by simp [hhere])]
  show State.freeFrame (match f.slot, (s.noteGap f).branchOf f with
    | some n, _ => _ | none, some (n, p) => _ | none, none => _) f.id = _
  rw [hslot, hb']
  exact congrArg (State.freeFrame · f.id) hd

/-- A frame that no list names leaves its descriptor; the lists, and what has been sent, stay. -/
theorem freeFrame_of_unlisted {n : Nat} {f : Frame} (hf : s.frame n = some f) (hk : f.kind = 0)
    (hl : s.sw.lists.any (fun e => e.2.any (fun q => decide (q.frame = n))) = false) : s.freeFrame n = s.setFrame n none := by
  have hk' : ¬ f.kind = 1 := by omega
  simp only [State.freeFrame, hf, hl, Bool.false_eq_true, hk', false_and, if_false]
  split <;> rfl

theorem gives_frameLink_here {n : Nat} {f : Frame} (hrun : s.running = true) (hf : s.frame n = some f) (hid : f.id = n)
    (hl : f.linked = false) (hk : f.kind = 0) (hi : f.index = 0) (hslot : f.slot = none) (hm : isMulticast f.dstNode = false)
    (hhere : s.isHere f.dstNode = true) (hb : s.branchOf f = none) (he : f.ends f.bytes = true)
    (hlists : s.sw.lists.any (fun e => e.2.any (fun q => decide (q.frame = n))) = false) (hw : Store.wf none s.sw.frames = true) :
    Gives (.frameLink n) s (fun t => Msg.operation (s.operationOf f f.payload) ∈ t.out.sent ∧ t.frame n = none ∧
      t.sw.lists = s.sw.lists) := by
  have hf' : s.begin.frame n = some f := hf
  have hlink := linkFrame_of_here (s := s.begin) hl hk hi hslot hm hhere hb he
  have hop : s.begin.operationOf f f.payload = s.operationOf f f.payload := operationOf_eq hk rfl
  have hsw : ((s.begin.noteGap f).emit (.operation (s.operationOf f f.payload))).sw = s.sw := (noteGap_keeps s.begin f).sw (by simp)
  have hsent : Msg.operation (s.operationOf f f.payload) ∈
      ((s.begin.noteGap f).emit (.operation (s.operationOf f f.payload))).out.sent := List.mem_append_right _ (List.mem_singleton_self _)
  rw [hop] at hlink
  generalize (s.begin.noteGap f).emit (.operation (s.operationOf f f.payload)) = u at *
  rw [hid, freeFrame_of_unlisted (by rw [State.frame, hsw]; exact hf) hk (by rw [hsw]; exact hlists)] at hlink
  refine ⟨_, congrArg Host.Outcome.next (whenRunning_begin _ hrun), ?_⟩
  simp only [hf', hlink]
  refine ⟨hsent, ?_, show u.sw.lists = s.sw.lists by rw [hsw]⟩
  show Store.read none (Store.write none u.sw.frames n none) n = none
  rw [hsw]
  exact Store.read_write_same _ _ _ hw

/-- The entry of a frame that goes on a port's list, without a turn from down to up (R256). -/
def State.entryOn (s : State) (f : Frame) (p : Nat) (b : Option Nat) : QEntry :=
  { frame := f.id, chan := f.chan.on f.esc, esc := f.esc, dir := if s.dirTo p = .none then f.lastDir else s.dirTo p
    bucket := b, since := s.now }

/-- On a port that is up, encrypted where it must be, and without that turn, a frame goes on the list of its class. -/
theorem linkOn_linked {f : Frame} {p : Nat} {b : Option Nat} (hup : (s.port p).up = true) (hplain : s.plainOk f p = true)
    (hturn : f.lastDir ≠ .down ∨ s.dirTo p ≠ .up) :
    s.linkOn f p b = (.linked, s.setList p f.tc (s.listOf p f.tc ++ [s.entryOn f p b])) := by
  have hturn' : (decide (f.lastDir = .down) && decide (s.dirTo p = .up)) = false := by
    rw [Bool.and_eq_false_iff, decide_eq_false_iff_not, decide_eq_false_iff_not]
    exact hturn
  simp only [State.linkOn, hup, hplain, hturn', Bool.not_true, Bool.false_and, Bool.or_false, Bool.false_eq_true, if_false]
  rfl

theorem countEntry_keeps (s : State) (f : Frame) : Keeps [.remote] s (s.countEntry f) := by
  unfold State.countEntry
  refine Keeps.ite ?_ (Keeps.refl _ _)
  exact (Keeps.ite (countIssued_keeps _ _) (Keeps.refl _ _)).trans (openOp_keeps _ _ _)

theorem Keeps.links {c : List Part} (h : Keeps c s t) (hc : .links ∉ c) : t.links = s.links := by
  have := keeps_iff.mp h .links
  simpa [hc, Part.same] using this

/-- A unicast request for another node goes on the list of the port its route names. -/
theorem linkFrame_of_far {f : Frame} {p : Nat} {b : Option Nat} (hl : f.linked = false) (hk : f.kind = 0) (hslot : f.slot = none)
    (hm : isMulticast f.dstNode = false) (hfar : s.isHere f.dstNode = false) (hb : s.branchOf f = none)
    (hr : s.routePort f = some (p, b)) (hup : (s.port p).up = true) (hplain : s.plainOk f p = true)
    (hturn : f.lastDir ≠ .down ∨ s.dirTo p ≠ .up) :
    s.linkFrame f = ((s.countEntry f).setList p f.tc (s.listOf p f.tc ++ [s.entryOn f p b])).setFrame f.id
      (some { f with linked := true }) := by
  have hkeeps := countEntry_keeps s f
  have hclose : (s.countEntry f).closeEntry f = s.countEntry f := if_neg (by simp [hk])
  rw [State.linkFrame, if_neg (by simp [hl]), if_neg (by simp [hm]), if_pos (by simp [hfar]), hb]
  show ((s.countEntry f).closeEntry f).linkUnicast f = _
  rw [hclose]
  generalize s.countEntry f = u at *
  have hsw := hkeeps.sw (by simp)
  have hdict := hkeeps.dict (by simp)
  have hlinks := hkeeps.links (by simp)
  have hdir : u.dirTo p = s.dirTo p := by
    unfold State.dirTo
    rw [port_eq hlinks, num_eq hdict, nodeId_eq hdict]
  have hr' : u.routePort f = some (p, b) := by
    rw [← hr]
    unfold State.routePort
    dsimp only
    rw [State.routeEntry, reg_eq (hkeeps.csr (by simp)), ← State.routeEntry, bucket_eq hsw]
  have hup' : (u.port p).up = true := by rw [port_eq hlinks]; exact hup
  have hplain' : u.plainOk f p = true := by
    rw [State.plainOk, State.tenant, State.crypt, hkeeps.sec (by simp)]
    exact hplain
  have hentry : u.entryOn f p b = s.entryOn f p b := by rw [State.entryOn, hdir, hkeeps.now (by simp), ← State.entryOn]
  have hlist : u.listOf p f.tc = s.listOf p f.tc := by rw [State.listOf, hsw, ← State.listOf]
  unfold State.linkUnicast
  simp only [hslot, Option.isSome_none, Bool.false_eq_true, if_false, hr', linkOn_linked hup' hplain' (hdir ▸ hturn), hentry, hlist]

theorem gives_frameLink_far {n : Nat} {f : Frame} {p : Nat} {b : Option Nat} (hrun : s.running = true) (hf : s.frame n = some f)
    (hid : f.id = n) (hl : f.linked = false) (hk : f.kind = 0) (hslot : f.slot = none) (hm : isMulticast f.dstNode = false)
    (hfar : s.isHere f.dstNode = false) (hb : s.branchOf f = none) (hr : s.routePort f = some (p, b)) (hup : (s.port p).up = true)
    (hplain : s.plainOk f p = true) (hturn : f.lastDir ≠ .down ∨ s.dirTo p ≠ .up) :
    Gives (.frameLink n) s (fun t => t.listOf p f.tc = s.listOf p f.tc ++ [
      { frame := n, chan := f.chan.on f.esc, esc := f.esc, dir := if s.dirTo p = .none then f.lastDir else s.dirTo p
        bucket := b, since := s.now }] ∧ t.frame n = some { f with linked := true }) := by
  have hf' : s.begin.frame n = some f := hf
  have hlink := linkFrame_of_far (s := s.begin) hl hk hslot hm hfar hb hr hup hplain hturn
  refine ⟨_, congrArg Host.Outcome.next (whenRunning_begin _ hrun), ?_⟩
  subst hid
  simp only [hf', hlink]
  exact ⟨read_write_self _ _ (by simp), read_write_self _ _ (by simp)⟩

/-- Settles O36, clause by clause. -/
theorem framesEnterAndLink : Obligations.FramesEnterAndLink :=
  ⟨fun _ _ _ _ _ _ => gives_frameReceive_kept, fun _ _ _ _ _ _ => gives_frameReceive_waits,
    fun _ _ _ _ _ => gives_injection_response, fun _ _ _ _ _ => gives_injection_request, fun _ _ _ => gives_quotaAdmit,
    fun _ _ _ => gives_quotaWaitExpiry, fun _ _ _ => gives_frameLink_here, fun _ _ _ _ _ => gives_frameLink_far⟩

end Sys2Proof.Machine
end


/-! # Remote memory

Sitting of the family 02_remote_memory_model: O13, O14, O23, O25 and O40. `Settles s t` says what the end of operations, and the fences and
notifies that go ahead with it, leaves of chapter 2's tables; one lemma `…_settles` for each shared operation. Then how an operation comes
to this node, and the clauses of the statements. -/

section
namespace Sys2Proof.Machine
variable {s t : State}

/-! ### What the end of an operation leaves of chapter 2's tables -/

/-- Where a queue stands (R75): its state, its epoch and its head. -/
def QueueCtx.position (c : QueueCtx) : QueueState × BitVec 8 × Word32 := (c.state, c.epoch, c.head)

theorem QueueCtx.position_eq_iff {c : QueueCtx} {st : QueueState} {e : BitVec 8} {h : Word32} :
    c.position = (st, e, h) ↔ c.state = st ∧ c.epoch = e ∧ c.head = h := by
  simp [QueueCtx.position]

/-- What ends operations, and lets fences and notifies go ahead, does to the tables of chapter 2: no wait and no notify is added, no sync
object changes unless a notify was waiting, and every queue stands where it stood. -/
structure Settles (s t : State) : Prop where
  waits : t.remote.waits.Sublist s.remote.waits
  notifies : t.remote.notifies.Sublist s.remote.notifies
  syncs : s.remote.notifies = [] → t.remote.syncs = s.remote.syncs
  queues : Store.wf ({} : QueueCtx) s.remote.queues = true → Store.wf ({} : QueueCtx) t.remote.queues = true ∧
    ∀ q, (t.queue q).position = (s.queue q).position

theorem Settles.refl (s : State) : Settles s s := ⟨.refl _, .refl _, fun _ => rfl, fun h => ⟨h, fun _ => rfl⟩⟩

theorem Settles.no_notifies (h : Settles s t) (hn : s.remote.notifies = []) : t.remote.notifies = [] :=
  List.sublist_nil.mp (hn ▸ h.notifies)

theorem Settles.trans {u : State} (h : Settles s t) (g : Settles t u) : Settles s u where
  waits := g.waits.trans h.waits
  notifies := g.notifies.trans h.notifies
  syncs := fun hn => (g.syncs (h.no_notifies hn)).trans (h.syncs hn)
  queues := fun hw => by
    obtain ⟨ht, hst⟩ := h.queues hw
    obtain ⟨hu, htu⟩ := g.queues ht
    exact ⟨hu, fun q => (htu q).trans (hst q)⟩

theorem Settles.of_remote (h : t.remote = s.remote) : Settles s t := by
  refine ⟨by rw [h], by rw [h], fun _ => by rw [h], fun hw => ⟨by rw [h]; exact hw, fun q => ?_⟩⟩
  rw [State.queue, h, ← State.queue]

/-- The accounts of open operations, of endpoints and of the cache may be written, and fences, waits and notifies may go. -/
theorem Settles.put {outstanding endpoints fences waits notifies lru} (hw : waits.Sublist s.remote.waits)
    (hn : notifies.Sublist s.remote.notifies) :
    Settles s { s with remote := { s.remote with outstanding, endpoints, fences, waits, notifies, lru } } :=
  ⟨hw, hn, fun _ => rfl, fun h => ⟨h, fun _ => rfl⟩⟩

theorem Settles.ite {c : Prop} [Decidable c] {u : State} (h : Settles s t) (g : Settles s u) : Settles s (if c then t else u) := by
  split
  · exact h
  · exact g

theorem Settles.foldl {α : Type} {f : State → α → State} (hf : ∀ s a, Settles s (f s a)) (l : List α) (s : State) :
    Settles s (l.foldl f s) := by
  induction l generalizing s with
  | nil => exact .refl s
  | cons a l ih => exact (hf s a).trans (ih _)

/-! ### A queue read after a write -/

theorem queue_setQueue_self (q : Nat) (c : QueueCtx) (hw : Store.wf ({} : QueueCtx) s.remote.queues = true) :
    (s.setQueue q c).queue q = c := Store.read_write_same _ _ _ hw

theorem queue_setQueue_ne {q n : Nat} (c : QueueCtx) (hw : Store.wf ({} : QueueCtx) s.remote.queues = true) (hn : n ≠ q) :
    (s.setQueue q c).queue n = s.queue n := Store.read_write_other _ _ _ _ hn hw

theorem setQueue_queues_wf (q : Nat) (c : QueueCtx) (hw : Store.wf ({} : QueueCtx) s.remote.queues = true) :
    Store.wf ({} : QueueCtx) (s.setQueue q c).remote.queues = true := Store.wf_write _ _ _ hw

theorem setQueue_settles {q : Nat} {c : QueueCtx} (hc : c.position = (s.queue q).position) : Settles s (s.setQueue q c) := by
  refine ⟨.refl _, .refl _, fun _ => rfl, fun hw => ⟨setQueue_queues_wf _ _ hw, fun n => ?_⟩⟩
  by_cases hn : n = q
  · rw [hn, queue_setQueue_self _ _ hw, hc]
  · rw [queue_setQueue_ne _ hw hn]

/-! ### Each shared operation that ends something settles (R60, R64, R90, R91, R94) -/

theorem clearSticky_settles (s : State) (i : Issuer) : Settles s (s.clearSticky i) := by
  unfold State.clearSticky
  split
  · exact setQueue_settles rfl
  · split
    · exact .put (.refl _) (.refl _)
    · exact .refl _

theorem countRetired_settles (s : State) (i : Issuer) : Settles s (s.countRetired i) := by
  unfold State.countRetired
  split
  · exact setQueue_settles rfl
  · split
    · exact .put (.refl _) (.refl _)
    · exact .refl _

theorem countIssued_settles (s : State) (i : Issuer) : Settles s (s.countIssued i) := by
  unfold State.countIssued
  split
  · exact setQueue_settles rfl
  · split
    · exact .put (.refl _) (.refl _)
    · exact .refl _

theorem openOp_settles (s : State) (r : Req) (op : Nat) : Settles s (s.openOp r op) := .ite (.refl _) (.put (.refl _) (.refl _))

theorem closeOp_settles (s : State) (i : Issuer) (posted : Bool) (id : Nat) : Settles s (s.closeOp i posted id) := by
  unfold State.closeOp
  split
  · exact .refl _
  · exact .ite ((Settles.put (.refl _) (.refl _)).trans (countRetired_settles _ _)) (.put (.refl _) (.refl _))

theorem respondCore_settles (s : State) (r : Req) (op : Nat) (a : Response) (q : LoadQueue) :
    Settles s (s.respondCore r op a q) := by
  unfold State.respondCore
  extract_lets a' s0 s1
  have h0 : Settles s s0 := .of_remote ((markInjected_keeps s _).remote (by simp))
  have h1 : Settles s s1 :=
    h0.trans (.ite (.of_remote ((countRefusal_keeps s0 _ _).remote (by simp))) (.refl _))
  have hemit : ∀ (u : State) m n, Settles u { u.emit m with freeCounter := n } := fun _ _ _ => .of_remote rfl
  exact h1.trans (.ite (hemit _ _ _) (.ite (.ite (closeOp_settles _ _ _ _) (hemit _ _ _))
    ((closeOp_settles _ _ _ _).trans (hemit _ _ _))))

theorem endWaitCore_settles (s : State) (w : Wait) (st : Status) : Settles s (s.endWaitCore w st) :=
  (Settles.put List.filter_sublist (.refl _)).trans (respondCore_settles _ _ _ _ _)

theorem retest_settles (s : State) (n : Nat) : Settles s (s.retest n) := .foldl (fun _ _ => endWaitCore_settles _ _ _) _ _

theorem endFence_settles (s : State) (f : PendingFence) : Settles s (s.endFence f) := by
  unfold State.endFence
  exact (Settles.ite (.refl _) (clearSticky_settles _ _)).trans (respondCore_settles _ _ _ _ _)

/-- The object that VALUE's update writes (R93). -/
def State.updated (s : State) (n : Nat) (v : Word64) (i : Issuer) : SyncObj :=
  { s.sync n with
    value := v, lastNotifier := BitVec.ofNat 32 (s.issuerPath i), lastChange := BitVec.ofNat 64 s.ftc
    changeCount := (s.sync n).changeCount + 1 }

/-- But for its object, an update of VALUE settles. -/
theorem updateCore_settles (s : State) (n : Nat) (v : Word64) (i : Issuer) :
    Settles (s.setSync n (s.updated n v i)) (s.updateCore n v i) := by
  show Settles _ (State.retest { s.setSync n (s.updated n v i) with freeCounter := s.freeCounter + 1 } n)
  refine Settles.trans ?_ (retest_settles _ _)
  exact .of_remote rfl

theorem endNotify_settles (s : State) (p : PendingNotify) :
    Settles (s.setSync p.obj (s.updated p.obj ((s.sync p.obj).value + p.amount) p.req.issuer)) (s.endNotify p) :=
  (updateCore_settles _ _ _ _).trans (respondCore_settles _ _ _ _ _)

/-- When a notify waits, nothing is said of sync objects. -/
theorem endNotify_waiting_settles {p : PendingNotify} {l : List PendingNotify} (hp : p ∈ s.remote.notifies)
    (hl : l.Sublist s.remote.notifies) : Settles s (State.endNotify { s with remote := { s.remote with notifies := l } } p) := by
  have h := endNotify_settles { s with remote := { s.remote with notifies := l } } p
  exact ⟨h.waits, h.notifies.trans hl, fun hs => absurd hs (List.ne_nil_of_mem hp), h.queues⟩

theorem wakeN_settles (n : Nat) (s : State) : Settles s (State.wakeN n s) := by
  induction n generalizing s with
  | zero => exact .refl _
  | succ n ih =>
    unfold State.wakeN
    split
    · exact ((Settles.put (.refl _) (.refl _)).trans (endFence_settles _ _)).trans (ih _)
    · split
      · next p hp => exact (endNotify_waiting_settles (List.mem_of_find?_eq_some hp) List.erase_sublist).trans (ih _)
      · exact .refl _

theorem wake_settles (s : State) : Settles s s.wake := wakeN_settles _ _

theorem respond_settles (s : State) (r : Req) (op : Nat) (a : Response) (q : LoadQueue) : Settles s (s.respond r op a q) :=
  (respondCore_settles _ _ _ _ _).trans (wake_settles _)

theorem endWait_settles (s : State) (w : Wait) (st : Status) : Settles s (s.endWait w st) :=
  .ite ((endWaitCore_settles _ _ _).trans (wake_settles _)) (.refl _)

/-! ### An operation that comes to this node (R42, R52, R81, R88) -/

theorem countArrival_of_not_posted {o : Operation} (hp : o.req.posted = false) : s.countArrival o = s := by
  unfold State.countArrival
  split
  · simp [hp]
  · rfl

theorem countArrival_settles (s : State) (o : Operation) : Settles s (s.countArrival o) := by
  unfold State.countArrival
  split
  · exact .ite ((countIssued_settles _ _).trans (openOp_settles _ _ _)) (.refl _)
  · exact .refl _

theorem countArrival_keeps (s : State) (o : Operation) : Keeps [.remote] s (s.countArrival o) := by
  unfold State.countArrival
  split
  · exact Keeps.ite ((countIssued_keeps _ _).trans (openOp_keeps _ _ _)) (Keeps.refl _ _)
  · exact Keeps.refl _ _

/-! The state in which an operation that arrives is counted. -/

theorem arrival_keeps (s : State) (o : Operation) : Keeps [.remote] s (s.begin.countArrival o) :=
  ((begin_keeps s).mono (by simp)).trans (countArrival_keeps _ _)

theorem arrival_settles (s : State) (o : Operation) : Settles s (s.begin.countArrival o) :=
  (Settles.of_remote (s := s) (t := s.begin) rfl).trans (countArrival_settles _ _)

theorem Keeps.mem {c : List Part} (h : Keeps c s t) (hc : .mem ∉ c) : t.mem = s.mem := by
  have := keeps_iff.mp h .mem
  simpa [hc, Part.same] using this

theorem Keeps.sram {c : List Part} (h : Keeps c s t) (hc : .sram ∉ c) : t.sram = s.sram := by
  have := keeps_iff.mp h .sram
  simpa [hc, Part.same] using this

/-- Where neither memory is written, no byte reads otherwise. -/
theorem Keeps.noStore {c : List Part} (h : Keeps c s t) (hm : .mem ∉ c) (hs : .sram ∉ c) : NoStore s t := fun a =>
  ⟨by rw [State.memByte, h.mem hm, ← State.memByte], by rw [State.sramByte, h.sram hs, ← State.sramByte]⟩

/-- An operation that arrives and may be posted as it is has its effect here, on the state in which it is counted. -/
theorem front_of_arrives {o : Operation} {mask : BitVec 8} {postedOk mcast : Bool} (here : State → State) (h : Arrives s o mask)
    (hp : postedOk = true ∨ o.req.posted = false) : s.front o postedOk mask mcast here = here (s.begin.countArrival o) := by
  obtain ⟨-, hmd, htc, hmulti, hhere, hdzm⟩ := h
  have hnode : ¬ (o.req.fromDzm = true ∧ s.nodeId = 0xFFFF) := by
    rintro ⟨hd, hn⟩
    have hne := hdzm hd
    simp only [State.isHere, hn, hne, decide_false, Bool.or_self, Bool.false_eq_true] at hhere
  have hpost : (o.req.posted && !postedOk) = false := by rcases hp with hp | hp <;> simp [hp]
  have hffff : ¬ (o.req.fromDzm = true ∧ addrNode o.req.target = 0xFFFF) := fun ⟨hd, hn⟩ => hdzm hd hn
  have hnode' : ¬ (o.req.fromDzm = true ∧ s.begin.nodeId = 0xFFFF) := hnode
  have hhere' : s.begin.isHere (addrNode o.req.target) = true := hhere
  unfold State.front
  simp only [hmd, htc, hpost, hmulti, hhere', hffff, hnode', Bool.and_eq_true, decide_eq_true_eq, ne_eq, not_true_eq_false, if_false,
    Bool.false_eq_true, if_true]

/-- One that is not posted is not counted. -/
theorem front_of_arrives_not_posted {o : Operation} {mask : BitVec 8} {postedOk mcast : Bool} (here : State → State)
    (h : Arrives s o mask) (hp : o.req.posted = false) : s.front o postedOk mask mcast here = here s.begin :=
  (front_of_arrives here h (.inr hp)).trans (by rw [countArrival_of_not_posted hp])

/-- One that may not be posted, and is, is refused. -/
theorem front_of_posted {o : Operation} {mask : BitVec 8} {mcast : Bool} (here : State → State) (h : Arrives s o mask)
    (hp : o.req.posted = true) : s.front o false mask mcast here = s.begin.respond o.req o.op (refusal .param) := by
  obtain ⟨-, hmd, htc, -⟩ := h
  simp [State.front, hmd, htc, hp]

/-- A message that answers a request with what is asked of the answer. -/
theorem answered_of_mem {q : Req} {op : Nat} {p : Response → Bool} {x : Response} (h : .response q op x ∈ t.out.sent)
    (hp : p x = true) : Answered t q op p = true := List.any_eq_true.mpr ⟨_, h, by simp [hp]⟩

/-- An operation that is refused is answered so. -/
theorem answered_refusal (s : State) (r : Req) (op : Nat) {st : Status} {reason : Reason} (q : LoadQueue) (hst : st ≠ .ok) :
    Answered (s.respond r op (refusal st reason) q) r op
      (fun x => decide (x.disp = .refused ∧ x.status = st ∧ x.reason = reason)) = true := by
  obtain ⟨x, hxst, hdisp, hreason, hx⟩ := respond_answered s r op (a := refusal st reason) q hst
  exact answered_of_mem hx (by simp [hxst, hdisp, hreason, refusal])

/-! ### O13: the table of waits (R95) -/

/-- What a wait, notify or other operation on VALUE that its rules let through does (R57, R93). -/
theorem onValue_of_open {o : Operation} {go : State → Nat → State} (hbad : addressBad o = none)
    (hopen : s.syncOpen (addrOffset o.req.target / 64) o.req.issuer = true) (hword : addrOffset o.req.target % 64 = 0) :
    s.onValue o go = go s (addrOffset o.req.target / 64) := by
  simp [State.onValue, hbad, hopen, hword]

/-- A WAIT that finds the table full. -/
theorem gives_wait_full {o : Operation} (h : Arrives s o 0xFC) (hp : o.req.posted = false) (hbad : addressBad { o with op := 8 } = none)
    (hopen : s.syncOpen (addrOffset o.req.target / 64) o.req.issuer = true) (hword : addrOffset o.req.target % 64 = 0)
    (hfull : 32768 ≤ s.remote.waits.length) :
    Gives (.wait o) s (fun t =>
      Answered t o.req 8 (fun r => decide (r.disp = .refused ∧ r.status = .nospace ∧ r.reason = .capacity)) = true ∧
      t.remote.waits.length ≤ s.remote.waits.length ∧ Keeps [.remote, .dict, .csr, .freeCounter] s t) := by
  have harr : Arrives s { o with op := 8 } 0xFC := h
  have hexec : exec (.wait o) s = .next (s.begin.respond o.req 8 (refusal .nospace .capacity)) := by
    refine congrArg Host.Outcome.next ((if_pos h.1).trans ((front_of_arrives_not_posted _ harr hp).trans ?_))
    exact (onValue_of_open (s := s.begin) hbad hopen hword).trans (if_pos hfull)
  refine ⟨_, hexec, answered_refusal _ _ _ _ (by decide), ?_, ?_⟩
  · exact (respond_settles s.begin _ _ _ _).waits.length_le
  · exact ((begin_keeps s).mono (by simp)).trans ((respond_keeps _ _ _ _ _).mono (by simp))

/-- Settles O13: the bound is one of the things every step keeps of the logs, and a full table refuses. -/
theorem waitTableHolds : Obligations.WaitTableHolds :=
  ⟨fun _ _ hs h => (step_tidy h).waits hs, fun _ _ => gives_wait_full⟩

/-! ### O14: operators that are refused (R59) -/

/-- A remote operation that arrives has its effect in the region it names. -/
theorem remoteOp_of_arrives {o : Operation} {mask : BitVec 8} {postedOk mcast : Bool} (h : Arrives s o mask)
    (hp : postedOk = true ∨ o.req.posted = false) :
    s.remoteOp o postedOk mask mcast = (s.begin.countArrival o).accessRegion o :=
  (if_pos h.1).trans (front_of_arrives _ h hp)

theorem remoteAtomic_of_defined {o : Operation} {postedOk : Bool} (hc : o.req.md.toNat % 16 < 11) :
    s.remoteAtomic o postedOk = s.remoteOp o postedOk 0xE0 false := if_neg (by omega)

/-- R59 comes before the rules of size, alignment and extent. -/
theorem accessRegion_of_operatorBad {o : Operation} (hr : addrRegion o.req.target < 7) (hb : operatorBad o = true) :
    s.accessRegion o = s.respond o.req o.op (refusal .param) := by
  have hbad : addressBad o = some .param := by simp [addressBad, hb, Nat.not_le.mpr hr]
  simp [State.accessRegion, hbad, State.refuseAddress, Nat.not_le.mpr hr]

/-- A refusal answers, and stores nothing: no object of chapter 2 changes unless something waited. -/
theorem refused_param {u : State} (hk : Keeps [.remote] s u) (hset : Settles s u) (r : Req) (op : Nat) :
    Answered (u.respond r op (refusal .param)) r op (fun x => decide (x.disp = .refused ∧ x.status = .param)) = true ∧
      NoStore s (u.respond r op (refusal .param)) ∧
      Keeps [.remote, .dict, .csr, .freeCounter] s (u.respond r op (refusal .param)) ∧
      (NoneWaits s → (u.respond r op (refusal .param)).remote.syncs = s.remote.syncs) := by
  have hkeeps : Keeps [.remote, .dict, .csr, .freeCounter] s (u.respond r op (refusal .param)) :=
    (hk.mono (by simp)).trans ((respond_keeps _ _ _ _ _).mono (by simp))
  obtain ⟨x, hst, hdisp, -, hx⟩ := respond_answered u r op (a := refusal .param) .hub (by decide)
  exact ⟨answered_of_mem hx (by simp [hst, hdisp, refusal]), hkeeps.noStore (by simp) (by simp), hkeeps,
    fun h => (hset.trans (respond_settles _ _ _ _ _)).syncs h.2⟩

/-- An ATOMIC or FETCH_OP whose operator R59 refuses is refused, as it may be posted or not. -/
theorem remoteAtomic_of_operatorBad {o : Operation} {postedOk : Bool} (h : Arrives s o 0xE0) (hr : addrRegion o.req.target < 7)
    (hc : o.req.md.toNat % 16 < 11) (hb : operatorBad o = true) :
    ∃ u, Keeps [.remote] s u ∧ Settles s u ∧ s.remoteAtomic o postedOk = u.respond o.req o.op (refusal .param) := by
  rw [remoteAtomic_of_defined hc]
  by_cases hp : postedOk = true ∨ o.req.posted = false
  · refine ⟨s.begin.countArrival o, arrival_keeps s o, arrival_settles s o, ?_⟩
    rw [remoteOp_of_arrives h hp, accessRegion_of_operatorBad hr hb]
  · obtain ⟨hno, hposted⟩ := not_or.mp hp
    obtain rfl : postedOk = false := by simpa using hno
    exact ⟨s.begin, (begin_keeps s).mono (by simp), .of_remote rfl, (if_pos h.1).trans (front_of_posted _ h (by simpa using hposted))⟩

theorem operatorBad_atomic {o : Operation} (h : o.req.md.toNat % 16 = 9 ∨ (o.req.md.toNat % 16 = 10 ∧ o.req.md.getLsbD 4 = true) ∨
    (addrRegion o.req.target = 3 ∧ o.req.md.toNat % 16 ≠ 0 ∧ o.req.md.toNat % 16 ≠ 8) ∨
    (addrRegion o.req.target = 3 ∧ o.req.md.getLsbD 4 = false)) : operatorBad { o with op := 3 } = true := by
  rcases h with h9 | ⟨h10, hbig⟩ | ⟨h3, h0, h8⟩ | ⟨h3, hsmall⟩
  · simp [operatorBad, h9]
  · simp [operatorBad, h10, hbig]
  · by_cases h9 : o.req.md.toNat % 16 = 9 <;> simp [operatorBad, h3, h0, h8, h9]
  · simp [operatorBad, h3, show o.req.md[4] = false from hsmall]

theorem operatorBad_fetchOp {o : Operation} (h : (o.req.md.toNat % 16 = 10 ∧ o.req.md.getLsbD 4 = true) ∨
    (addrRegion o.req.target = 3 ∧ o.req.md.toNat % 16 ≠ 0 ∧ o.req.md.toNat % 16 ≠ 8 ∧ o.req.md.toNat % 16 ≠ 9) ∨
    (addrRegion o.req.target = 3 ∧ o.req.md.getLsbD 4 = false)) : operatorBad { o with op := 4 } = true := by
  rcases h with ⟨h10, hbig⟩ | ⟨h3, h0, h8, h9⟩ | ⟨h3, hsmall⟩
  · simp [operatorBad, h10, hbig]
  · simp [operatorBad, h3, h0, h8, h9]
  · simp [operatorBad, h3, show o.req.md[4] = false from hsmall]

/-- Settles O14: R59's rule is met before any but the region's, whatever the operation's other operands. -/
theorem operatorCombinationsAreRefused : Obligations.OperatorCombinationsAreRefused := by
  refine ⟨fun s o h hr hc hb => ?_, fun s o h hr hc hb => ?_⟩
  · obtain ⟨u, hk, hset, hu⟩ :=
      remoteAtomic_of_operatorBad (o := { o with op := 3 }) (postedOk := true) h hr hc (operatorBad_atomic hb)
    exact ⟨_, congrArg Host.Outcome.next hu, refused_param hk hset _ _⟩
  · obtain ⟨u, hk, hset, hu⟩ :=
      remoteAtomic_of_operatorBad (o := { o with op := 4 }) (postedOk := false) h hr hc (operatorBad_fetchOp hb)
    exact ⟨_, congrArg Host.Outcome.next hu, refused_param hk hset _ _⟩

/-! ### Accesses to engine SRAM (R44, R58, R61, R68) -/

theorem sram_sramWrite_byte {off : Nat} {bs : List Byte} (h : t.sram = (s.sramWrite off bs).sram) (a : Nat) :
    t.sramByte a = (s.sramWrite off bs).sramByte a := by rw [State.sramByte, h, ← State.sramByte]

/-- What follows a write to SRAM leaves both memories, and so exactly these bytes are stored. -/
theorem storesSram_of_keeps {u : State} {off : Nat} {bs : List Byte} (hw : BytesCanonical s) (hu : Keeps [.remote] s u)
    (ht : Keeps [.remote, .dict, .freeCounter] (u.sramWrite off bs) t) :
    StoresSram s t off bs ∧ Keeps [.sram, .remote, .dict, .freeCounter] s t := by
  have hsram : t.sram = (s.sramWrite off bs).sram := (ht.sram (by simp)).trans (congrArg (writeRange · off bs) (hu.sram (by simp)))
  have hmem : t.mem = s.mem := (ht.mem (by simp)).trans (hu.mem (by simp))
  refine ⟨⟨fun k hk => ?_, fun a => ⟨fun ha => ?_, by rw [State.memByte, hmem, ← State.memByte]⟩⟩, ?_⟩
  · rw [sram_sramWrite_byte hsram, sramByte_sramWrite_inside _ _ _ _ hw.2 hk]
  · rw [sram_sramWrite_byte hsram, sramByte_sramWrite_outside _ _ _ _ hw.2 ha]
  · exact (hu.mono (by simp)).trans (((sramWrite_keeps _ _ _).mono (by simp)).trans (ht.mono (by simp)))

/-- Nothing is written at LOCAL where there is no data, no LOCAL, or LOCAL is another node's. -/
theorem writeLocal_of_nothing {i : Issuer} {tc : Nat} {a : Word64} {bs : List Byte}
    (h : bs = [] ∨ a = 0 ∨ s.isHere (addrNode a) = false) : s.writeLocal i tc a bs = (.ok, s) := by
  unfold State.writeLocal
  rcases h with h | h | h
  · simp [h]
  · simp [h]
  · simp [h]

theorem localWritten_of_nothing {o : Operation} {a : Response}
    (h : a.data = [] ∨ o.req.fromDzm = true ∨ o.req.localA = 0 ∨ s.isHere (addrNode o.req.localA) = false) :
    (if o.req.fromDzm then (.ok, s) else s.writeLocal o.req.issuer o.req.tc o.req.localA a.data) = (Status.ok, s) := by
  rcases h with h | h | h
  · rw [writeLocal_of_nothing (.inl h), ite_self]
  · rw [if_pos h]
  · rw [writeLocal_of_nothing (.inr h), ite_self]

/-- With nothing to write at LOCAL, an access but a PUT_NOTIFY ends with its answer. -/
theorem endAccess_responds {o : Operation} {a : Response} {l : LoadQueue} (hop : o.op ≠ 6)
    (h : a.data = [] ∨ o.req.fromDzm = true ∨ o.req.localA = 0 ∨ s.isHere (addrNode o.req.localA) = false) :
    s.endAccess o a .none l = s.respond o.req o.op a l := by
  unfold State.endAccess
  rw [localWritten_of_nothing h]
  simp [hop, deferredBy]

/-- A put of a PUT_NOTIFY that succeeded is followed by its notify (R61). -/
theorem endAccess_notifies {o : Operation} {l : LoadQueue} (hop : o.op = 6) (hopen : s.syncOpen o.sync o.req.issuer = true) :
    s.endAccess o (served) .none l = s.startNotify o.req 6 o.sync o.operand1 true := by
  unfold State.endAccess
  rw [localWritten_of_nothing (.inl rfl)]
  simp [hop, hopen, served]

theorem sramEffect_put {o : Operation} (hop : o.op = 1 ∨ o.op = 6) :
    s.sramEffect o = (served, s.sramWrite (addrOffset o.req.target) (sliceB o.data 0 o.length)) := by
  rcases hop with hop | hop <;> simp [State.sramEffect, opBytes, hop]

theorem sramEffect_get {o : Operation} (hop : o.op = 2) : s.sramEffect o =
    ({ (served .ok (BitVec.ofNat 64 o.length)) with data := s.sramBytes (addrOffset o.req.target) o.length }, s) := by
  simp [State.sramEffect, opBytes, hop]

/-- The size of an ATOMIC or a FETCH_OP, the number that it replaces, and the bytes that it stores (R58). -/
def atomicSize (o : Operation) : Nat := if o.req.md.getLsbD 4 then 8 else 4
def State.sramOld (s : State) (o : Operation) : Word64 := BitVec.ofNat 64 (leNat (s.sramBytes (addrOffset o.req.target) (atomicSize o)))
def State.sramNew (s : State) (o : Operation) (f : AtomicOp) : List Byte :=
  natLe (atomicSize o) (atomicValue f (atomicSize o) (s.sramOld o) o.operand1 o.operand2).toNat

theorem opBytes_atomic {o : Operation} (hop : o.op = 3 ∨ o.op = 4) : opBytes o = atomicSize o := if_pos hop

theorem sramEffect_atomic {o : Operation} {f : AtomicOp} (hop : o.op = 3) (hf : AtomicOp.ofCode (o.req.md.toNat % 16) = some f) :
    s.sramEffect o = (served, s.sramWrite (addrOffset o.req.target) (s.sramNew o f)) := by
  simp [State.sramEffect, opBytes_atomic (.inl hop), hop, hf, State.sramOld, State.sramNew]

theorem sramEffect_fetchOp {o : Operation} {f : AtomicOp} (hop : o.op = 4) (hf : AtomicOp.ofCode (o.req.md.toNat % 16) = some f) :
    s.sramEffect o = ({ (served .ok (s.sramOld o)) with data := s.sramBytes (addrOffset o.req.target) (atomicSize o) },
      s.sramWrite (addrOffset o.req.target) (s.sramNew o f)) := by
  simp [State.sramEffect, opBytes_atomic (.inr hop), hop, hf, State.sramOld, State.sramNew]

theorem sramOld_eq (h : t.sram = s.sram) (o : Operation) : t.sramOld o = s.sramOld o := by
  rw [State.sramOld, State.sramBytes, h, ← State.sramBytes, ← State.sramOld]

theorem sramNew_eq (h : t.sram = s.sram) (o : Operation) (f : AtomicOp) : t.sramNew o f = s.sramNew o f := by
  rw [State.sramNew, sramOld_eq h, ← State.sramNew]

/-- An access to SRAM that nothing refuses has its effect, and ends. -/
theorem accessRegion_sram {o : Operation} {a : Response} {u : State} (hbad : addressBad o = none) (hr : addrRegion o.req.target = 2)
    (hs : s.sramBad o.req.issuer o.req.tc (addrOffset o.req.target) (opBytes o) = none) (he : s.sramEffect o = (a, u)) :
    s.accessRegion o = u.endAccess o a .none .hub := by
  simp only [State.accessRegion, hbad, hr, State.sramAccess, hs, he]

/-! Counting an operation writes no other part than chapter 2's. -/

theorem countIssued_eq (s : State) (i : Issuer) : ∃ r, s.countIssued i = { s with remote := r } := by
  unfold State.countIssued
  split
  · exact ⟨_, rfl⟩
  · split <;> exact ⟨_, rfl⟩

theorem openOp_eq (s : State) (r : Req) (op : Nat) : ∃ q, s.openOp r op = { s with remote := q } := by
  unfold State.openOp
  split <;> exact ⟨_, rfl⟩

theorem countArrival_eq (s : State) (o : Operation) : ∃ r, s.countArrival o = { s with remote := r } := by
  unfold State.countArrival
  split
  · split
    · obtain ⟨r, hr⟩ := countIssued_eq s o.req.issuer
      obtain ⟨q, hq⟩ := openOp_eq (s.countIssued o.req.issuer) o.req o.op
      exact ⟨q, by rw [hq, hr]⟩
    · exact ⟨_, rfl⟩
  · exact ⟨_, rfl⟩

theorem countArrival_sramBad (s : State) (o : Operation) (i : Issuer) (tc off n : Nat) :
    (s.begin.countArrival o).sramBad i tc off n = s.sramBad i tc off n := by
  obtain ⟨r, hr⟩ := countArrival_eq s.begin o
  rw [hr]
  rfl

/-- An operation that names SRAM as it should, at bytes that are open to it (R44, R57). -/
structure NamesSram (s : State) (o : Operation) : Prop where
  address : addressBad o = none
  region : addrRegion o.req.target = 2
  isOpen : s.sramBad o.req.issuer o.req.tc (addrOffset o.req.target) (opBytes o) = none

/-- One that arrives has its effect on the state in which it is counted, and ends. -/
theorem remoteOp_sram {o : Operation} {mask : BitVec 8} {postedOk mcast : Bool} {a : Response} {u : State} (h : Arrives s o mask)
    (hp : postedOk = true ∨ o.req.posted = false) (hn : NamesSram s o) (he : (s.begin.countArrival o).sramEffect o = (a, u)) :
    s.remoteOp o postedOk mask mcast = u.endAccess o a .none .hub := by
  rw [remoteOp_of_arrives h hp, accessRegion_sram hn.address hn.region (by rw [countArrival_sramBad, hn.isOpen]) he]

/-- An operation that is not posted is answered, with what it answers. -/
theorem respond_response (s : State) {r : Req} (op : Nat) (a : Response) (q : LoadQueue) (hp : r.posted = false) :
    ∃ x : Response, x.status = a.status ∧ x.data = a.data ∧ x.result = a.result ∧
      .response r op x ∈ (s.respond r op a q).out.sent := by
  have hmark : ∀ b : Response, (s.markInjected b).1.status = b.status ∧ (s.markInjected b).1.data = b.data ∧
      (s.markInjected b).1.result = b.result := by
    intro b
    unfold State.markInjected
    dsimp only
    split <;> exact ⟨rfl, rfl, rfl⟩
  have hdefer : (deferredBy r.defer a).status = a.status ∧ (deferredBy r.defer a).data = a.data ∧
      (deferredBy r.defer a).result = a.result := by
    unfold deferredBy
    split <;> exact ⟨rfl, rfl, rfl⟩
  obtain ⟨hst, hdata, hres⟩ := hmark (deferredBy r.defer a)
  obtain ⟨hst', hdata', hres'⟩ := hdefer
  have hsent : ∃ n : Nat, .response r op { (s.markInjected (deferredBy r.defer a)).1 with load := n } ∈
      (s.respondCore r op a q).out.sent := by
    unfold State.respondCore
    extract_lets a' s0 s1
    simp only [hp, Bool.false_eq_true, if_false]
    split
    · exact ⟨_, List.mem_append_right _ (List.mem_singleton_self _)⟩
    · exact ⟨_, List.mem_append_right _ (List.mem_singleton_self _)⟩
  obtain ⟨n, hn⟩ := hsent
  exact ⟨{ (s.markInjected (deferredBy r.defer a)).1 with load := n }, hst.trans hst', hdata.trans hdata', hres.trans hres',
    wakeN_sentStays _ _ hn⟩

/-! ### Notifies (R60, R93) -/

theorem sync_eq {n : Nat} (h : t.remote.syncs = s.remote.syncs) : t.sync n = s.sync n := by rw [State.sync, h, ← State.sync]

theorem syncOpen_eq {n : Nat} {i : Issuer} (h : t.remote.syncs = s.remote.syncs) : t.syncOpen n i = s.syncOpen n i := by
  rw [State.syncOpen, sync_eq h, ← State.syncOpen]

/-- What is open once an operation is counted was open before, or is the operation. -/
theorem mem_outstanding_openOp {r : Req} {op : Nat} {x : OutOp} (h : x ∈ (s.openOp r op).remote.outstanding) :
    x ∈ s.remote.outstanding ∨ x.is r.issuer r.posted r.seq = true := by
  unfold State.openOp at h
  split at h
  · exact .inl h
  · rcases List.mem_append.mp h with h | h
    · exact .inl h
    · rw [List.mem_singleton.mp h]
      exact .inr (by simp [OutOp.is])

theorem countIssued_outstanding (s : State) (i : Issuer) : (s.countIssued i).remote.outstanding = s.remote.outstanding := by
  unfold State.countIssued
  split
  · rfl
  · split <;> rfl

theorem mem_outstanding_countArrival {o : Operation} {x : OutOp} (h : x ∈ (s.countArrival o).remote.outstanding) :
    x ∈ s.remote.outstanding ∨ x.is o.req.issuer o.req.posted o.req.seq = true := by
  unfold State.countArrival at h
  split at h
  · split at h
    · exact countIssued_outstanding s _ ▸ mem_outstanding_openOp h
    · exact .inl h
  · exact .inl h

/-- An issuer with nothing open has no earlier operation than the one that arrives. -/
theorem earlier_countArrival {o : Operation} (nodeOnly : Bool) (h : ∀ x ∈ s.remote.outstanding, x.issuer ≠ o.req.issuer) :
    (s.countArrival o).earlier o.req nodeOnly = [] := by
  unfold State.earlier
  refine List.map_eq_nil_iff.mpr (List.filter_eq_nil_iff.mpr fun x hx => ?_)
  rcases mem_outstanding_countArrival ((List.takeWhile_prefix _).subset hx) with hs | hown
  · simp [h x hs]
  · have hbefore := List.mem_takeWhile_imp hx
    simp [hown] at hbefore

/-- A notify that waits for nothing is performed (R60): VALUE and CHANGE_COUNT rise. -/
theorem startNotify_performed {r : Req} {op n : Nat} {amount : Word64} {nodeOnly : Bool} (he : s.earlier r nodeOnly = [])
    (hn : s.remote.notifies = []) (hw : Store.wf ({} : SyncObj) s.remote.syncs = true) :
    ((s.startNotify r op n amount nodeOnly).sync n).value = (s.sync n).value + amount ∧
      ((s.startNotify r op n amount nodeOnly).sync n).changeCount = (s.sync n).changeCount + 1 := by
  have hset := (endNotify_settles s { req := r, op := op, obj := n, amount := amount, waits := [] }).trans (wake_settles _)
  have hstart : s.startNotify r op n amount nodeOnly =
      (s.endNotify { req := r, op := op, obj := n, amount := amount, waits := [] }).wake := by
    simp [State.startNotify, he, State.notifyReady]
  rw [hstart, sync_eq (hset.syncs hn)]
  have hread : (s.setSync n (s.updated n ((s.sync n).value + amount) r.issuer)).sync n =
      s.updated n ((s.sync n).value + amount) r.issuer := Store.read_write_same _ _ _ hw
  rw [hread]
  exact ⟨rfl, rfl⟩

/-! ### The clauses of O23 -/

theorem remoteOp_put {o : Operation} {mcast : Bool} (hop : o.op = 1) (h : Arrives s o 0xFF) (hn : NamesSram s o)
    (hw : BytesCanonical s) :
    StoresSram s (s.remoteOp o true 0xFF mcast) (addrOffset o.req.target) (sliceB o.data 0 o.length) ∧
      (o.req.posted = false → Answered (s.remoteOp o true 0xFF mcast) o.req 1 (fun r => decide (r.status = .ok)) = true) ∧
      Keeps [.sram, .remote, .dict, .freeCounter] s (s.remoteOp o true 0xFF mcast) := by
  rw [remoteOp_sram h (.inl rfl) hn (sramEffect_put (.inl hop)), endAccess_responds (by omega) (.inl rfl), hop]
  obtain ⟨hstores, hkeeps⟩ := storesSram_of_keeps hw (arrival_keeps s o) (respond_keeps _ o.req 1 (served) .hub)
  refine ⟨hstores, fun hp => ?_, hkeeps⟩
  obtain ⟨x, hst, -, -, hx⟩ := respond_response _ 1 (served) .hub hp
  exact answered_of_mem hx (decide_eq_true hst)

theorem remoteOp_get {o : Operation} {mcast : Bool} (hop : o.op = 2) (h : Arrives s o 0xFF) (hp : o.req.posted = false)
    (hn : NamesSram s o) (hlocal : o.req.fromDzm = true ∨ o.req.localA = 0 ∨ s.isHere (addrNode o.req.localA) = false) :
    Answered (s.remoteOp o false 0xFF mcast) o.req 2
        (fun r => decide (r.status = .ok ∧ r.data = s.sramBytes (addrOffset o.req.target) o.length)) = true ∧
      NoStore s (s.remoteOp o false 0xFF mcast) ∧ Keeps [.remote, .dict, .freeCounter] s (s.remoteOp o false 0xFF mcast) := by
  rw [remoteOp_sram h (.inr hp) hn (sramEffect_get hop), countArrival_of_not_posted hp,
    endAccess_responds (s := s.begin) (by omega) (.inr hlocal), hop]
  have hkeeps : Keeps [.remote, .dict, .freeCounter] s (s.begin.respond o.req 2
      { (served .ok (BitVec.ofNat 64 o.length)) with data := s.begin.sramBytes (addrOffset o.req.target) o.length } .hub) :=
    ((begin_keeps s).mono (by simp)).trans (respond_keeps _ _ _ _ _)
  refine ⟨?_, hkeeps.noStore (by simp) (by simp), hkeeps⟩
  obtain ⟨x, hst, hdata, -, hx⟩ := respond_response s.begin 2
    { (served .ok (BitVec.ofNat 64 o.length)) with data := s.begin.sramBytes (addrOffset o.req.target) o.length } .hub hp
  exact answered_of_mem hx (decide_eq_true ⟨hst, hdata⟩)

theorem ofCode_lt {c : Nat} {f : AtomicOp} (h : AtomicOp.ofCode c = some f) : c < 11 := by
  by_contra hn
  obtain ⟨k, rfl⟩ := Nat.exists_eq_add_of_le' (Nat.not_lt.mp hn)
  nomatch h

theorem arrival_sramNew (s : State) (o : Operation) (f : AtomicOp) : (s.begin.countArrival o).sramNew o f = s.sramNew o f :=
  sramNew_eq ((arrival_keeps s o).sram (by simp)) o f

theorem remoteAtomic_atomic {o : Operation} {f : AtomicOp} (hop : o.op = 3) (h : Arrives s o 0xE0)
    (hf : AtomicOp.ofCode (o.req.md.toNat % 16) = some f) (hn : NamesSram s o) (hw : BytesCanonical s) :
    StoresSram s (s.remoteAtomic o true) (addrOffset o.req.target) (s.sramNew o f) ∧
      Keeps [.sram, .remote, .dict, .freeCounter] s (s.remoteAtomic o true) := by
  rw [remoteAtomic_of_defined (ofCode_lt hf), remoteOp_sram h (.inl rfl) hn (sramEffect_atomic hop hf),
    endAccess_responds (by omega) (.inl rfl), arrival_sramNew]
  exact storesSram_of_keeps hw (arrival_keeps s o) (respond_keeps _ _ _ _ _)

theorem remoteAtomic_fetchOp {o : Operation} {f : AtomicOp} (hop : o.op = 4) (h : Arrives s o 0xE0) (hp : o.req.posted = false)
    (hf : AtomicOp.ofCode (o.req.md.toNat % 16) = some f) (hn : NamesSram s o)
    (hlocal : o.req.fromDzm = true ∨ o.req.localA = 0 ∨ s.isHere (addrNode o.req.localA) = false) (hw : BytesCanonical s) :
    Answered (s.remoteAtomic o false) o.req 4 (fun r => decide (r.status = .ok ∧ r.result = s.sramOld o)) = true ∧
      StoresSram s (s.remoteAtomic o false) (addrOffset o.req.target) (s.sramNew o f) := by
  rw [remoteAtomic_of_defined (ofCode_lt hf), remoteOp_sram h (.inr hp) hn (sramEffect_fetchOp hop hf),
    endAccess_responds (by omega) (.inr ?_), arrival_sramNew, countArrival_of_not_posted hp, hop]
  · refine ⟨?_, (storesSram_of_keeps hw ((begin_keeps s).mono (by simp)) (respond_keeps _ _ _ _ _)).1⟩
    obtain ⟨x, hst, -, hres, hx⟩ := respond_response (s.begin.sramWrite (addrOffset o.req.target) (s.sramNew o f)) 4
      { (served .ok (s.sramOld o)) with data := s.sramBytes (addrOffset o.req.target) (atomicSize o) } .hub hp
    exact answered_of_mem hx (decide_eq_true ⟨hst, hres⟩)
  · rw [countArrival_of_not_posted hp]
    exact hlocal

/-- The notify of an operation that arrives from an issuer with nothing open is performed. -/
theorem arrival_notify {o : Operation} {op n : Nat} {nodeOnly : Bool} {u : State} (hu : u.remote = (s.begin.countArrival o).remote)
    (hd : u.dict = s.dict) (ho : ∀ x ∈ s.remote.outstanding, x.issuer ≠ o.req.issuer) (hn : s.remote.notifies = [])
    (hw : Store.wf ({} : SyncObj) s.remote.syncs = true) :
    ((u.startNotify o.req op n o.operand1 nodeOnly).sync n).value = (s.sync n).value + o.operand1 ∧
      ((u.startNotify o.req op n o.operand1 nodeOnly).sync n).changeCount = (s.sync n).changeCount + 1 := by
  have hset : Settles s u := (arrival_settles s o).trans (.of_remote hu)
  have hsyncs := hset.syncs hn
  have hearlier : u.earlier o.req nodeOnly = [] := by
    have hcount := earlier_countArrival (s := s.begin) nodeOnly ho
    have hdict : u.dict = (s.begin.countArrival o).dict := hd.trans ((arrival_keeps s o).dict (by simp)).symm
    unfold State.earlier State.resolve at hcount ⊢
    rw [hu, nodeId_eq hdict]
    exact hcount
  have hperf := startNotify_performed (op := op) (n := n) (amount := o.operand1) hearlier (hset.no_notifies hn) (by rw [hsyncs]; exact hw)
  rw [sync_eq hsyncs] at hperf
  exact hperf

theorem remoteOp_putNotify {o : Operation} {mcast : Bool} (hop : o.op = 6) (h : Arrives s o 0xFF) (hn : NamesSram s o)
    (hopen : s.syncOpen o.sync o.req.issuer = true) (ho : ∀ x ∈ s.remote.outstanding, x.issuer ≠ o.req.issuer)
    (hno : s.remote.notifies = []) (hw : BytesCanonical s) (hws : Store.wf ({} : SyncObj) s.remote.syncs = true) :
    StoresSram s (s.remoteOp o true 0xFF mcast) (addrOffset o.req.target) (sliceB o.data 0 o.length) ∧
      ((s.remoteOp o true 0xFF mcast).sync o.sync).value = (s.sync o.sync).value + o.operand1 ∧
      ((s.remoteOp o true 0xFF mcast).sync o.sync).changeCount = (s.sync o.sync).changeCount + 1 ∧
      Keeps [.sram, .remote, .dict, .freeCounter] s (s.remoteOp o true 0xFF mcast) := by
  have hsyncs := (arrival_settles s o).syncs hno
  rw [remoteOp_sram h (.inl rfl) hn (sramEffect_put (.inr hop)), 
    endAccess_notifies (s := State.sramWrite _ _ _) hop ((syncOpen_eq hsyncs).trans hopen)]
  obtain ⟨hstores, hkeeps⟩ := storesSram_of_keeps hw (arrival_keeps s o) (startNotify_keeps _ o.req 6 o.sync o.operand1 true)
  obtain ⟨hvalue, hcount⟩ := arrival_notify (op := 6) (n := o.sync) (nodeOnly := true)
    (u := (s.begin.countArrival o).sramWrite (addrOffset o.req.target) (sliceB o.data 0 o.length)) rfl
    ((arrival_keeps s o).dict (by simp)) ho hno hws
  exact ⟨hstores, hvalue, hcount, hkeeps⟩

/-- A NOTIFY of an issuer with nothing open (R60). -/
theorem gives_notify {o : Operation} (h : Arrives s o 0xFE) (hbad : addressBad { o with op := 5 } = none)
    (hopen : s.syncOpen (addrOffset o.req.target / 64) o.req.issuer = true) (hword : addrOffset o.req.target % 64 = 0)
    (ho : ∀ x ∈ s.remote.outstanding, x.issuer ≠ o.req.issuer) (hno : s.remote.notifies = [])
    (hws : Store.wf ({} : SyncObj) s.remote.syncs = true) :
    Gives (.notify o) s (fun t =>
      (t.sync (addrOffset o.req.target / 64)).value = (s.sync (addrOffset o.req.target / 64)).value + o.operand1 ∧
      (t.sync (addrOffset o.req.target / 64)).changeCount = (s.sync (addrOffset o.req.target / 64)).changeCount + 1 ∧
      Keeps [.remote, .dict, .freeCounter] s t) := by
  have hkeeps := arrival_keeps s { o with op := 5 }
  have hexec := front_of_arrives (o := { o with op := 5 }) (postedOk := true) (mcast := true) (fun u => u.onValue { o with op := 5 }
    (fun v n => v.startNotify o.req 5 n o.operand1 (!(o.req.md.getLsbD 0)))) h (.inl rfl)
  rw [onValue_of_open hbad ((syncOpen_eq ((arrival_settles s _).syncs hno)).trans hopen) hword] at hexec
  obtain ⟨hvalue, hcount⟩ := arrival_notify (o := { o with op := 5 }) (op := 5) (n := addrOffset o.req.target / 64)
    (nodeOnly := !(o.req.md.getLsbD 0)) rfl (hkeeps.dict (by simp)) ho hno hws
  exact ⟨_, congrArg Host.Outcome.next ((if_pos h.1).trans hexec), hvalue, hcount,
    (hkeeps.mono (by simp)).trans (startNotify_keeps _ _ _ _ _ _)⟩

/-- Settles O23, operation by operation. -/
theorem remoteOperationsTakeEffect : Obligations.RemoteOperationsTakeEffect := by
  refine ⟨fun s o h hbad hr hs hw => ⟨_, rfl, remoteOp_put rfl h ⟨hbad, hr, hs⟩ hw⟩,
    fun s o h hp hbad hr hs hlocal => ⟨_, rfl, remoteOp_get rfl h hp ⟨hbad, hr, hs⟩ hlocal⟩,
    fun s o f h hbad hf hr hs hw => ⟨_, rfl, remoteAtomic_atomic rfl h hf ⟨hbad, hr, hs⟩ hw⟩,
    fun s o f h hp hbad hf hr hs hlocal hw => ⟨_, rfl, remoteAtomic_fetchOp rfl h hp hf ⟨hbad, hr, hs⟩ hlocal hw⟩,
    fun s o h hbad hr hs hopen ho hno hw hws => ⟨_, rfl, remoteOp_putNotify rfl h ⟨hbad, hr, hs⟩ hopen ho hno hw hws⟩,
    fun s o => gives_notify⟩

/-! ### Doorbells and contexts (R75-R79, R86, R87, R91) -/

/-- The contexts of `t` are those of `s` but for CACHED, and `t`'s table is canonical. -/
structure CachedOnly (s t : State) : Prop where
  wf : Store.wf ({} : QueueCtx) t.remote.queues = true
  queue : ∀ n, ∃ b, t.queue n = { s.queue n with cached := b }

theorem CachedOnly.of_queues (hw : Store.wf ({} : QueueCtx) s.remote.queues = true) (h : t.remote.queues = s.remote.queues) :
    CachedOnly s t := by
  refine ⟨by rw [h]; exact hw, fun n => ⟨(s.queue n).cached, ?_⟩⟩
  rw [State.queue, h, ← State.queue]

theorem CachedOnly.trans {u : State} (h : CachedOnly s t) (g : CachedOnly t u) : CachedOnly s u := by
  refine ⟨g.wf, fun n => ?_⟩
  obtain ⟨b, hb⟩ := h.queue n
  obtain ⟨b', hb'⟩ := g.queue n
  exact ⟨b', by rw [hb', hb]⟩

theorem setCached_cachedOnly (k : Nat) (b : Bool) (hw : Store.wf ({} : QueueCtx) s.remote.queues = true) :
    CachedOnly s (s.setQueue k { s.queue k with cached := b }) := by
  refine ⟨setQueue_queues_wf _ _ hw, fun n => ?_⟩
  by_cases hn : n = k
  · exact ⟨b, by rw [hn, queue_setQueue_self _ _ hw]⟩
  · exact ⟨(s.queue n).cached, by rw [queue_setQueue_ne _ hw hn]⟩

/-- The cache keeps CACHED of the contexts, and nothing else of them (R86). -/
theorem touchQueue_cachedOnly (q : Nat) (hw : Store.wf ({} : QueueCtx) s.remote.queues = true) : CachedOnly s (s.touchQueue q) := by
  unfold State.touchQueue
  extract_lets +onlyGivenNames _ s1 lru out
  have hs1 : CachedOnly s s1 := by
    unfold s1
    split
    · exact .of_queues hw rfl
    · have hset := setCached_cachedOnly q true hw
      have hbump := (bump_keeps (s.setQueue q { s.queue q with cached := true }) O.queueContextMisses).remote (by simp)
      exact hset.trans (.of_queues hset.wf (congrArg RemoteState.queues hbump))
  cases out with
  | none => exact hs1.trans (.of_queues hs1.wf rfl)
  | some k =>
    have hset := hs1.trans (setCached_cachedOnly k false hs1.wf)
    exact hset.trans (.of_queues hset.wf rfl)

theorem putRemote_keeps (s : State) (q : RemoteState) : Keeps [.remote] s { s with remote := q } := Keeps.refl _ s

theorem touchQueue_keeps (s : State) (q : Nat) : Keeps [.remote, .dict] s (s.touchQueue q) := by
  unfold State.touchQueue
  extract_lets +onlyGivenNames _ s1 lru out
  have hs1 : Keeps [.remote, .dict] s s1 :=
    Keeps.ite (Keeps.refl _ _) (((setQueue_keeps _ _ _).mono (by simp)).trans ((bump_keeps _ _).mono (by simp)))
  cases out with
  | none => exact hs1.trans ((putRemote_keeps s1 _).mono (by simp))
  | some k => exact hs1.trans (((setQueue_keeps s1 _ _).trans (putRemote_keeps _ _)).mono (by simp))

/-- A doorbell or context write of the queue's owner is performed and answered (R77). -/
theorem queueWrite_of_owner {i : Issuer} {q : Nat} (f : State → Response × State) (hrun : s.running = true)
    (hown : (s.queue q).owner = i.tenant) : s.queueWrite i q f = .next ((f s.begin).2.answer (f s.begin).1) := by
  have hopen : s.begin.queueOpen i q = true := decide_eq_true hown
  unfold State.queueWrite
  rw [whenRunning_begin _ hrun, if_neg (by simp [hopen])]

/-- One that is served answers OK, and leaves the queue as it wrote it. -/
theorem gives_queueWrite {c : Instr} {i : Issuer} {q : Nat} {f : State → Response × State} {u : State} {P : QueueCtx → Prop}
    {d : List Part} (hc : exec c s = s.queueWrite i q f) (hrun : s.running = true) (hown : (s.queue q).owner = i.tenant)
    (hf : f s.begin = (served, u)) (hk : Keeps d s.begin u) (hd : .freeCounter ∈ d) (hP : P (u.queue q)) :
    Gives c s (fun t => P (t.queue q) ∧ Answers t .ok ∧ Keeps d s t) := by
  refine ⟨u.answer (served), ?_, hP, rfl, ?_⟩
  · rw [hc, queueWrite_of_owner f hrun hown, hf]
  · exact ((begin_keeps s).mono (by simp)).trans (hk.trans ((answer_keeps _ _ _).mono (by simp [hd])))

/-- A commit of the current epoch that the ring has room for (R79). -/
theorem commitWrite_accepted {q v : Nat} (hkind : (s.queue q).kind ≠ .completion) (hres : bitsOf v 63 40 = 0)
    (hepoch : bitsOf v 39 32 = (s.queue q).epoch.toNat) (hnew : BitVec.ofNat 32 v ≠ (s.queue q).commit)
    (hfwd : (BitVec.ofNat 32 v - (s.queue q).commit).toNat ≤ 2 ^ 31)
    (hring : (BitVec.ofNat 32 v - (s.queue q).head).toNat ≤ (s.queue q).slots)
    (hw : Store.wf ({} : QueueCtx) s.remote.queues = true) :
    s.commitWrite q v =
      (served, (s.touchQueue q).setQueue q { (s.touchQueue q).queue q with commit := BitVec.ofNat 32 v }) := by
  obtain ⟨b, hb⟩ := (touchQueue_cachedOnly q hw).queue q
  have hslots : ({ s.queue q with cached := b } : QueueCtx).slots = (s.queue q).slots := rfl
  have hfwd' : ¬ 2 ^ 31 < (BitVec.ofNat 32 v - (s.queue q).commit).toNat := Nat.not_lt.mpr hfwd
  have hring' : ¬ (s.queue q).slots < (BitVec.ofNat 32 v - (s.queue q).head).toNat := Nat.not_lt.mpr hring
  simp only [State.commitWrite, hb, hkind, hres, hepoch, hnew, hfwd', hslots, hring', decide_false, Bool.false_eq_true, ne_eq,
    not_true_eq_false, if_false]

theorem gives_qdbCommit {i : Issuer} {q : Nat} {v : Word64} (hrun : s.running = true) (hown : (s.queue q).owner = i.tenant)
    (hkind : (s.queue q).kind ≠ .completion) (hres : bitsOf v.toNat 63 40 = 0) (hepoch : bitsOf v.toNat 39 32 = (s.queue q).epoch.toNat)
    (hnew : BitVec.ofNat 32 v.toNat ≠ (s.queue q).commit) (hfwd : (BitVec.ofNat 32 v.toNat - (s.queue q).commit).toNat ≤ 2 ^ 31)
    (hring : (BitVec.ofNat 32 v.toNat - (s.queue q).head).toNat ≤ (s.queue q).slots)
    (hw : Store.wf ({} : QueueCtx) s.remote.queues = true) :
    Gives (.qdbCommit i q v) s (fun t => (t.queue q).commit = BitVec.ofNat 32 v.toNat ∧ Answers t .ok ∧
      Keeps [.remote, .dict, .freeCounter] s t) := by
  refine gives_queueWrite (P := fun c => c.commit = BitVec.ofNat 32 v.toNat) rfl hrun hown
    (commitWrite_accepted (s := s.begin) hkind hres hepoch hnew hfwd hring hw) ?_ (by simp) ?_
  · exact ((touchQueue_keeps _ _).mono (by simp)).trans ((setQueue_keeps _ _ _).mono (by simp))
  · rw [queue_setQueue_self _ _ (touchQueue_cachedOnly (s := s.begin) q hw).wf]

/-- Whether a queue can be enabled does not depend on what is cached. -/
theorem CachedOnly.canEnable (h : CachedOnly s t) {c : QueueCtx} {b : Bool} :
    t.canEnable { c with cached := b } = s.canEnable c := by
  obtain ⟨b', hb'⟩ := h.queue c.cq
  simp only [State.canEnable, hb', QueueCtx.slots]
  rfl

theorem queue_setReserved (k r n : Nat) (hw : Store.wf ({} : QueueCtx) s.remote.queues = true) :
    ∃ r', (s.setQueue k { s.queue k with reserved := r }).queue n = { s.queue n with reserved := r' } := by
  by_cases hn : n = k
  · exact ⟨r, by rw [hn, queue_setQueue_self _ _ hw]⟩
  · exact ⟨(s.queue n).reserved, by rw [queue_setQueue_ne _ hw hn]⟩

/-- A DISABLED queue that its context lets be enabled is ENABLED, with nothing committed, started or done (R78). -/
theorem enableQueue_of_disabled {q : Nat} (hd : (s.queue q).state = .disabled) (hc : s.canEnable (s.queue q) = true)
    (hw : Store.wf ({} : QueueCtx) s.remote.queues = true) :
    ∃ u, s.enableQueue q = (served, u) ∧ Keeps [.remote] s u ∧
      (u.queue q).state = .enabled ∧ (u.queue q).commit = 0 ∧ (u.queue q).head = 0 ∧ (u.queue q).done = 0 := by
  unfold State.enableQueue
  simp only [hd, hc, if_true]
  refine ⟨_, rfl, ?_, ?_⟩
  · exact Keeps.ite (setQueue_keeps _ _ _) ((setQueue_keeps _ _ _).trans (setQueue_keeps _ _ _))
  · split
    · rw [queue_setQueue_self _ _ hw]
      exact ⟨rfl, rfl, rfl, rfl⟩
    · obtain ⟨r, hr⟩ := queue_setReserved (s.queue q).cq _ q (setQueue_queues_wf q _ hw)
      rw [hr, queue_setQueue_self _ _ hw]
      exact ⟨rfl, rfl, rfl, rfl⟩

theorem gives_queueEnable {i : Issuer} {q : Nat} (hrun : s.running = true) (hown : (s.queue q).owner = i.tenant)
    (hd : (s.queue q).state = .disabled) (hc : s.canEnable (s.queue q) = true)
    (hw : Store.wf ({} : QueueCtx) s.remote.queues = true) :
    Gives (.queueEnable i q) s (fun t => ((t.queue q).state = .enabled ∧ (t.queue q).commit = 0 ∧ (t.queue q).head = 0 ∧
      (t.queue q).done = 0) ∧ Answers t .ok ∧ Keeps [.remote, .dict, .freeCounter] s t) := by
  have htouch : CachedOnly s.begin (s.begin.touchQueue q) := touchQueue_cachedOnly q hw
  obtain ⟨b, hb⟩ := htouch.queue q
  obtain ⟨u, hu, hk, hP⟩ := enableQueue_of_disabled (q := q) (hb ▸ hd) (by rw [hb, htouch.canEnable]; exact hc) htouch.wf
  exact gives_queueWrite (P := fun c => c.state = .enabled ∧ c.commit = 0 ∧ c.head = 0 ∧ c.done = 0) rfl hrun hown hu
    (((touchQueue_keeps _ _).mono (by simp)).trans (hk.mono (by simp))) (by simp) hP

/-- A queue that is not DISABLED begins to drain (R78). -/
theorem gives_queueDisable {i : Issuer} {q : Nat} (hrun : s.running = true) (hown : (s.queue q).owner = i.tenant)
    (hd : (s.queue q).state ≠ .disabled) (hw : Store.wf ({} : QueueCtx) s.remote.queues = true) :
    Gives (.queueDisable i q) s (fun t => ((t.queue q).draining = true ∧ (t.queue q).state = (s.queue q).state) ∧ Answers t .ok ∧
      Keeps [.remote, .dict, .freeCounter] s t) := by
  have htouch : CachedOnly s.begin (s.begin.touchQueue q) := touchQueue_cachedOnly q hw
  obtain ⟨b, hb⟩ := htouch.queue q
  have hdrain : (s.begin.touchQueue q).disableQueue q =
      (served, (s.begin.touchQueue q).setQueue q { (s.begin.touchQueue q).queue q with draining := true }) := if_neg (hb ▸ hd)
  refine gives_queueWrite (P := fun c => c.draining = true ∧ c.state = (s.queue q).state) rfl hrun hown hdrain
    (((touchQueue_keeps _ _).mono (by simp)).trans ((setQueue_keeps _ _ _).mono (by simp))) (by simp) ?_
  rw [queue_setQueue_self _ _ htouch.wf, hb]
  exact ⟨rfl, rfl⟩

theorem gives_clearSticky {i : Issuer} {q : Nat} (hrun : s.running = true) (hown : (s.queue q).owner = i.tenant)
    (hw : Store.wf ({} : QueueCtx) s.remote.queues = true) :
    Gives (.clearSticky i q) s (fun t => (t.queue q).sticky = .ok ∧ Answers t .ok ∧ Keeps [.remote, .dict, .freeCounter] s t) := by
  refine gives_queueWrite (P := fun c => c.sticky = .ok) rfl hrun hown (u := (s.begin.touchQueue q).setQueue q
    { (s.begin.touchQueue q).queue q with sticky := .ok }) rfl
    (((touchQueue_keeps _ _).mono (by simp)).trans ((setQueue_keeps _ _ _).mono (by simp))) (by simp) ?_
  rw [queue_setQueue_self _ _ (touchQueue_cachedOnly (s := s.begin) q hw).wf]

/-- Word 0 of a context is RING_BASE (R75). -/
theorem contextWrite_ringBase {q : Nat} {v : Word64} (hd : (s.queue q).state = .disabled) :
    s.contextWrite q 0 v.toNat = (served, s.setQueue q { s.queue q with ringBase := v }) := by
  simp [State.contextWrite, ctxReserved, ctxReadOnlySame, hd]

theorem gives_queueContextPut {i : Issuer} {q : Nat} {v : Word64} (hrun : s.running = true) (hown : (s.queue q).owner = i.tenant)
    (hd : (s.queue q).state = .disabled) (hw : Store.wf ({} : QueueCtx) s.remote.queues = true) :
    Gives (.queueContextPut i q 0 v) s (fun t => t.queue q = { s.queue q with ringBase := v } ∧ Answers t .ok ∧
      Keeps [.remote, .freeCounter] s t) :=
  gives_queueWrite (P := fun c => c = { s.queue q with ringBase := v }) rfl hrun hown
    (contextWrite_ringBase (s := s.begin) hd) ((setQueue_keeps _ _ _).mono (by simp)) (by simp) (queue_setQueue_self _ _ hw)

/-! A flush (R87): the items that have not started end, and so do the queue's waits. -/

theorem settle_position (c : QueueCtx) : c.settle.position = c.position := by
  have hsettle : ∀ (n : Nat) (c : QueueCtx), (settleN n c).position = c.position := by
    intro n
    induction n with
    | zero => exact fun _ => rfl
    | succ n ih =>
      intro c
      unfold settleN
      split
      · split
        · rfl
        · exact ih _
      · rfl
  exact hsettle _ _

theorem reserve_settles (s : State) (c : QueueCtx) (n : Nat) : Settles s (s.reserve c n) := .ite (.refl _) (setQueue_settles rfl)

theorem reserve_keeps (s : State) (c : QueueCtx) (n : Nat) : Keeps [.remote] s (s.reserve c n) :=
  Keeps.ite (Keeps.refl _ _) (setQueue_keeps _ _ _)

/-- Once its context is written, a flush moves no queue. -/
theorem flushed_position (c : QueueCtx) (n q : Nat) (ws : List Wait) (hw : Store.wf ({} : QueueCtx) s.remote.queues = true) :
    ((ws.foldl (fun (t : State) w => t.endWait w .flushed) (s.reserve c n)).queue q).position = (s.queue q).position :=
  (((reserve_settles s c n).trans (.foldl (fun _ _ => endWait_settles _ _ _) ws _)).queues hw).2 q

/-- An ENABLED queue is FLUSHING after its flush, in the next epoch, with nothing left to start. -/
theorem flushQueue_of_enabled {q : Nat} (hkind : (s.queue q).kind ≠ .completion) (he : (s.queue q).state = .enabled)
    (hw : Store.wf ({} : QueueCtx) s.remote.queues = true) :
    ∃ u, s.flushQueue q = (served, u) ∧ Keeps [.remote, .dict, .freeCounter] s u ∧
      (u.queue q).position = (.flushing, (s.queue q).epoch + 1, (s.queue q).commit) := by
  unfold State.flushQueue
  simp only [hkind, he, if_false, if_true]
  refine ⟨_, rfl, ?_, ?_⟩
  · exact ((setQueue_keeps _ _ _).mono (by simp)).trans (((reserve_keeps _ _ _).mono (by simp)).trans
      (Keeps.foldl (fun _ _ => endWait_keeps _ _ _) _ _))
  · rw [flushed_position _ _ _ _ (setQueue_queues_wf _ _ hw), queue_setQueue_self _ _ hw, settle_position]
    rfl

theorem gives_queueFlush {i : Issuer} {q : Nat} (hrun : s.running = true) (hown : (s.queue q).owner = i.tenant)
    (hkind : (s.queue q).kind ≠ .completion) (he : (s.queue q).state = .enabled)
    (hw : Store.wf ({} : QueueCtx) s.remote.queues = true) :
    Gives (.queueFlush i q) s (fun t => (t.queue q).position = (.flushing, (s.queue q).epoch + 1, (s.queue q).commit) ∧
      Answers t .ok ∧ Keeps [.remote, .dict, .freeCounter] s t) := by
  have htouch : CachedOnly s.begin (s.begin.touchQueue q) := touchQueue_cachedOnly q hw
  obtain ⟨b, hb⟩ := htouch.queue q
  obtain ⟨u, hu, hk, hP⟩ := flushQueue_of_enabled (q := q) (hb ▸ hkind) (hb ▸ he) htouch.wf
  rw [hb] at hP
  exact gives_queueWrite (P := fun c => c.position = (.flushing, (s.queue q).epoch + 1, (s.queue q).commit)) rfl hrun hown hu
    (((touchQueue_keeps _ _).mono (by simp)).trans hk) (by simp) hP

/-! The ends of a disable and of a flush. -/

theorem gives_queueDisableDrained {q : Nat} (hrun : s.running = true) (hd : (s.queue q).draining = true)
    (hs : (s.queue q).started = []) (hf : (s.queue q).finished = []) (hw : Store.wf ({} : QueueCtx) s.remote.queues = true) :
    Gives (.queueDisableDrained q) s (fun t => t.queue q = { s.queue q with state := .disabled, draining := false } ∧
      Keeps [.remote] s t) := by
  have hq : s.begin.queue q = s.queue q := rfl
  refine ⟨_, congrArg Host.Outcome.next (whenRunning_begin _ hrun), ?_⟩
  simp only [hq, hd, hs, hf, List.isEmpty_nil, Bool.and_self, if_true]
  exact ⟨queue_setQueue_self _ _ hw, ((begin_keeps s).mono (by simp)).trans (setQueue_keeps _ _ _)⟩

theorem gives_queueFlushEnd {q : Nat} (hrun : s.running = true) (hs : (s.queue q).state = .flushing)
    (hf : (s.queue q).flushEnd = some (s.queue q).done) :
    Gives (.queueFlushEnd q) s (fun t => t.queue q = { s.queue q with state := .enabled, flushEnd := none } ∧
      Keeps [.remote] s t) := by
  have hq : s.begin.queue q = s.queue q := rfl
  refine ⟨_, congrArg Host.Outcome.next (whenRunning_begin _ hrun), ?_⟩
  simp only [hq, hs, hf, and_self, if_true]
  have hlisted : ({ s.queue q with state := .enabled, flushEnd := none } : QueueCtx) ≠ {} := fun h => nomatch congrArg QueueCtx.state h
  exact ⟨read_write_self _ _ hlisted, ((begin_keeps s).mono (by simp)).trans (setQueue_keeps _ _ _)⟩

theorem Gives.imp {c : Instr} {P Q : State → Prop} (h : Gives c s P) (hPQ : ∀ t, P t → Q t) : Gives c s Q := by
  obtain ⟨t, ht, hP⟩ := h
  exact ⟨t, ht, hPQ t hP⟩

/-- Settles O25, command by command. -/
theorem queueDoorbellsTakeEffect : Obligations.QueueDoorbellsTakeEffect := by
  refine ⟨fun _ _ _ _ => gives_qdbCommit, fun _ _ _ hrun hown hd hc hw => (gives_queueEnable hrun hown hd hc hw).imp ?_,
    fun _ _ _ hrun hown hd hw => (gives_queueDisable hrun hown hd hw).imp ?_, fun _ _ => gives_queueDisableDrained,
    fun _ _ _ hrun hown hk he hw => (gives_queueFlush hrun hown hk he hw).imp ?_, fun _ _ => gives_queueFlushEnd,
    fun _ _ _ => gives_clearSticky, fun _ _ _ _ => gives_queueContextPut⟩
  · rintro t ⟨⟨hst, hcommit, hhead, hdone⟩, hrest⟩
    exact ⟨hst, hcommit, hhead, hdone, hrest⟩
  · rintro t ⟨⟨hdrain, hst⟩, hrest⟩
    exact ⟨hdrain, hst, hrest⟩
  · rintro t ⟨hpos, hrest⟩
    obtain ⟨hst, hepoch, hhead⟩ := QueueCtx.position_eq_iff.mp hpos
    exact ⟨hst, hepoch, hhead, hrest⟩

/-! ### O40: a layer whose table lies in it -/

/-- The issuer, and a partition of its tenant with a far page 2, in which the partition's layer table lies. -/
def layerIssuer : Issuer := { src := .endpoint 3, tenant := 5, node := 3 }
def layerPart : Partition :=
  { state := .bound, tenant := 5, size := 16, mapWritten := true, nearPages := 20, nearFirst := 1, nearCount := 1, farPages := 20
    farCount := 1, layerAddr := 0xFFFF000000020000#64, layerCount := 4 }

/-- The page, before the layer is asked for; record 1 of the table names it, to be pinned. -/
def layerPage : PageRec := { channel := 256, near := false }
def tableInLayer : State :=
  ((State.reset.setPart 0 layerPart).setPage 0 2 (some layerPage)).memWrite 0x20010 [0, 0, 1, 0, 2, 0, 0, 0, 1]

/-- LAYER of record 1. -/
def layerOp : Operation :=
  { op := 0x28, req := { issuer := layerIssuer, target := 0xFFFF000000020000#64, md := 4 }, operand1 := 1 }

/-- The block's own read of the table touches the page (R309): its access count rises. -/
theorem gives_layer_touched :
    Gives (.layer layerOp) tableInLayer (fun t => t.page 0 2 = some { layerPage with count := 1, pinned := true }) :=
  ⟨_, rfl, by decide +kernel⟩

/-- Refutes O40: its clause of LAYER has the page change in nothing but its two marks, but where the partition's layer table lies in that
page, reading the table touches the page too. -/
theorem not_poolRequestsAndMovesEnd : ¬ Obligations.PoolRequestsAndMovesEnd := by
  rintro ⟨-, -, -, -, -, -, -, -, -, -, hlayer, -⟩
  obtain ⟨t, ht, hpage, -⟩ := hlayer tableInLayer layerOp 0 2 0
    { part := 0, pin := true, release := 0, first := 2, count := 1, deadline := 0 } layerPage
    (by decide +kernel) rfl rfl (by decide +kernel) (by decide +kernel) rfl (by decide +kernel) (by decide +kernel)
    (by decide +kernel) rfl rfl (by decide +kernel) rfl rfl (by decide +kernel)
  obtain ⟨u, hu, htouched⟩ := gives_layer_touched
  obtain rfl : t = u := Host.Outcome.next.inj (ht.symm.trans hu)
  exact absurd (hpage.symm.trans htouched) (by decide)

end Sys2Proof.Machine
end


/-! # Run plans and fabric time

Sitting of the family 03_run_plans: O11, O28 and O29. O11 is read off `step_steady`. For O28 the two layers are `Works σ s`, which says
that a plan job's input, a prefetch or a pool access of a plan has touched neither a plan slot nor the package's power, and
`InStep n x s`, which says that slot `n` still stands at the place of `x` in its plan. The lemmas named `gives_…` are the clauses of O28
and O29. -/

section
namespace Sys2Proof.Machine

/-- Settles O11: the clock and the queue are two of the things that every step keeps. -/
theorem clockNeverRunsBack : Obligations.ClockNeverRunsBack := fun _ _ h => ⟨(step_steady h).now, (step_steady h).pending⟩

variable {σ s t : State}

/-! ### What a plan's jobs, prefetches and pool accesses may change -/

/-- The parts that a job of the hub works on: the bytes and pages it reads and writes, what checkpoints keep of them, counters, and what
its notify and its event change. Neither a plan slot nor the package's power is one of them. -/
def workParts : List Part := [.mem, .sram, .dict, .remote, .hcu, .pool, .faults, .mgmt, .freeCounter]

/-- What has been done between two states is such work. -/
structure Works (σ s : State) : Prop where
  keeps : Keeps workParts σ s

theorem Works.refl (s : State) : Works s s := ⟨Keeps.refl _ s⟩

theorem Works.after {c : List Part} (hs : Works σ s) (h : Keeps c s t) (hc : ∀ p ∈ c, p ∈ workParts := by decide) : Works σ t :=
  ⟨hs.keeps.trans (h.mono hc)⟩

/-- Any of these parts may be written. -/
theorem Works.put {mem sram dict remote hcu pool faults mgmt freeCounter} (hs : Works σ s) :
    Works σ { s with mem, sram, dict, remote, hcu, pool, faults, mgmt, freeCounter } := hs.after (Keeps.refl workParts s)

/-! Choices and folds of such work. -/

theorem Works.ite {c : Prop} {_ : Decidable c} {u : State} (ht : Works σ t) (hu : Works σ u) : Works σ (if c then t else u) := by
  split <;> assumption

theorem Works.ite_snd {α : Type} {c : Prop} {_ : Decidable c} {t u : α × State} (ht : Works σ t.2) (hu : Works σ u.2) :
    Works σ (if c then t else u).2 := by
  split <;> assumption

theorem Works.foldl {α : Type} {f : State → α → State} {l : List α} (hs : Works σ s) (hf : ∀ {t a}, Works σ t → Works σ (f t a)) :
    Works σ (l.foldl f s) :=
  List.foldlRecOn l f hs fun _ ht _ _ => hf ht

theorem Works.foldl_snd {α β : Type} {f : β × State → α → β × State} {l : List α} {x : β × State} (hs : Works σ x.2)
    (hf : ∀ {t a}, Works σ t.2 → Works σ (f t a).2) : Works σ (l.foldl f x).2 :=
  List.foldlRecOn l f (motive := fun y => Works σ y.2) hs fun _ ht _ _ => hf ht

/-! One lemma for each operation, in the order of the model's files; `s.foo.bar` is met by `hs.foo.bar`, as for `Steady`. -/

theorem Works.emit {m} (hs : Works σ s) : Works σ (s.emit m) := hs.after (emit_keeps s m)
theorem Works.bumpN {k n} (hs : Works σ s) : Works σ (s.bumpN k n) := hs.after (bumpN_keeps s k n)
theorem Works.bump {k} (hs : Works σ s) : Works σ (s.bump k) := hs.after (bump_keeps s k)
theorem Works.meter {tenant sub n} (hs : Works σ s) : Works σ (s.meter tenant sub n) := hs.after (meter_keeps s tenant sub n)
theorem Works.respond {r op a q} (hs : Works σ s) : Works σ (s.respond r op a q) := hs.after (respond_keeps s r op a q)
theorem Works.notifyAddr {addr tc i amount} (hs : Works σ s) : Works σ (s.notifyAddr addr tc i amount).2 :=
  hs.after (notifyAddr_keeps s addr tc i amount)

/-- An event whose KIND is free changes what an event changes. -/
theorem eventOpen_keeps (s : State) (vector source : Nat) (st : Status) (arg : Nat) (injected : Bool) :
    Keeps [.mgmt, .remote, .dict, .freeCounter] s (s.eventOpen vector source st arg injected) :=
  ((free_keeps s 256).mono (by simp)).trans (event_keeps _ _ _ _ _ _ _)

theorem Works.eventOpen {vector source st arg injected} (hs : Works σ s) : Works σ (s.eventOpen vector source st arg injected) :=
  hs.after (eventOpen_keeps s vector source st arg injected)

theorem Works.memWrite {off bs} (hs : Works σ s) : Works σ (s.memWrite off bs) := hs.after (memWrite_keeps s off bs)
theorem Works.sramWrite {off bs} (hs : Works σ s) : Works σ (s.sramWrite off bs) := hs.after (sramWrite_keeps s off bs)
theorem Works.setPage {n p r} (hs : Works σ s) : Works σ (s.setPage n p r) := hs.put

theorem Works.touchPage {n p} (hs : Works σ s) : Works σ (s.touchPage n p) := by
  unfold State.touchPage
  split
  · exact hs
  · exact hs.setPage.put.ite hs.setPage

theorem Works.touchRange {n p off len tenant write} (hs : Works σ s) : Works σ (s.touchRange n p off len tenant write) :=
  hs.ite (hs.foldl fun hu => hu.touchPage.meter)
theorem Works.setPoison {b v} (hs : Works σ s) : Works σ (s.setPoison b v) := hs.put

theorem Works.writeBlocks {ok off bs n} (hs : Works σ s) : Works σ (s.writeBlocks ok off bs n).2 := by
  induction n generalizing s ok off bs with
  | zero => exact hs
  | succ n ih =>
    unfold State.writeBlocks
    split
    · exact hs
    · exact ih (hs.ite (hs.memWrite.setPoison.ite hs.memWrite))

theorem Works.poolWrite {off bs} (hs : Works σ s) : Works σ (s.poolWrite off bs).2 := by
  unfold State.poolWrite
  split
  · exact hs.memWrite
  · exact hs.writeBlocks

theorem Works.ckptKeep {n first count} (hs : Works σ s) : Works σ (s.ckptKeep n first count) := by
  refine hs.foldl fun hu => ?_
  split
  · exact hu.put
  · exact hu

theorem Works.used {off len tenant} (hs : Works σ s) : Works σ (s.used off len tenant) := by
  unfold State.used
  split
  · exact hs.touchRange.ite hs
  · exact hs

theorem Works.serviceWrite {off bs tenant use} (hs : Works σ s) : Works σ (s.serviceWrite off bs tenant use).2 := by
  unfold State.serviceWrite
  split
  · exact hs
  · split
    · exact hs
    · exact hs.ite_snd hs.ckptKeep.poolWrite.touchRange

theorem Works.writeLocal {i tc addr bs} (hs : Works σ s) : Works σ (s.writeLocal i tc addr bs).2 := by
  unfold State.writeLocal
  refine hs.ite_snd (hs.ite_snd (hs.serviceWrite.ite_snd (.ite_snd ?_ hs.emit)))
  split
  · exact hs
  · exact hs.sramWrite

theorem Works.askMove {n p toNear cause} (hs : Works σ s) : Works σ (s.askMove n p toNear cause).2 := by
  unfold State.askMove
  split
  · exact hs.bump.ite hs
  · exact hs.ite_snd hs.put

theorem Works.mapPagesIn {n first count f} (hs : Works σ s) : Works σ (s.mapPagesIn n first count f) := by
  refine hs.foldl fun hu => ?_
  split
  · exact hu.setPage
  · exact hu

theorem Works.releaseLayer {n first count} (hs : Works σ s) : Works σ (s.releaseLayer n first count) := by
  refine hs.foldl fun hu => ?_
  split
  · exact hu.setPage.put
  · exact hu

theorem Works.prefetchLayer {n r old cause} (hs : Works σ s) : Works σ (s.prefetchLayer n r old cause).2 := by
  unfold State.prefetchLayer
  extract_lets +onlyGivenNames s1
  have hs1 : Works σ s1 := by
    unfold s1
    split
    · exact hs.releaseLayer
    · exact hs
  exact hs1.mapPagesIn.ite_snd (hs1.mapPagesIn.foldl_snd .askMove)

theorem Works.setJob {n j} (hs : Works σ s) : Works σ (s.setJob n j) := hs.put
theorem Works.jobPutBytes {j tc addr bs} (hs : Works σ s) : Works σ (s.jobPutBytes j tc addr bs).2 := hs.writeLocal.ite_snd hs.emit
theorem Works.flushHeld {n} (hs : Works σ s) : Works σ (s.flushHeld n) := hs.put.foldl .respond
theorem Works.dropInputs {n} (hs : Works σ s) : Works σ (s.dropInputs n) := hs.put.foldl .respond

theorem Works.jobRelinquish {n} (hs : Works σ s) : Works σ (s.jobRelinquish n) := by
  unfold State.jobRelinquish
  extract_lets +onlyGivenNames _ _ _ _ _ s2
  have hs2 : Works σ s2 := by
    unfold s2
    split
    · exact (hs.put.ite hs).put
    · exact hs.put.ite hs
  exact hs2.setJob

theorem Works.jobEnd {n final st reason} (hs : Works σ s) : Works σ (s.jobEnd n final st reason) := by
  unfold State.jobEnd
  extract_lets +onlyGivenNames s1 _ _ _ s3 _ s5
  have hs1 : Works σ s1 := hs.dropInputs.jobRelinquish
  have hs3 : Works σ s3 := hs1.setJob.ite hs1.setJob.jobPutBytes
  have hs5 : Works σ s5 := hs3.notifyAddr.eventOpen
  exact (hs5.emit.ite hs5).flushHeld

theorem Works.jobFault {n st reason} (hs : Works σ s) : Works σ (s.jobFault n st reason) := hs.jobEnd.ite hs
theorem Works.jobCheck {n} (hs : Works σ s) : Works σ (s.jobCheck n) := hs.jobEnd.ite hs

theorem Works.jobOut {n key addr tc fmt chain bs} (hs : Works σ s) : Works σ (s.jobOut n key addr tc fmt chain bs) := by
  unfold State.jobOut
  refine hs.ite (hs.bumpN.setJob.setJob.ite (hs.bumpN.setJob.emit.ite ?_))
  extract_lets +onlyGivenNames r
  have hr : Works σ r.2 := hs.bumpN.setJob.jobPutBytes
  exact hr.ite hr.jobFault

theorem Works.packedOut {n pos bs} (hs : Works σ s) : Works σ (s.packedOut n pos bs) := hs.jobOut

theorem Works.placeRow {n i bs} (hs : Works σ s) : Works σ (s.placeRow n i bs) := by
  refine (hs.foldl fun hu => hu.packedOut.setJob).ite (hs.foldl fun hu => ?_)
  split
  · exact hu.jobFault
  · exact hu.used.jobOut.setJob.ite hu.used.jobOut.setJob.jobOut

theorem Works.dispatchTable {n} (hs : Works σ s) : Works σ (s.dispatchTable n) := by
  unfold State.dispatchTable
  extract_lets +onlyGivenNames _
  split
  · exact hs.jobFault
  · refine hs.used.foldl fun hu => ?_
    extract_lets +onlyGivenNames _
    split
    · exact hu.jobFault
    · extract_lets +onlyGivenNames _ _ w
      have hw : Works σ w.2 := hu.used.bumpN.serviceWrite
      exact hw.ite hw.jobFault

theorem Works.termsUsed {j rec} (hs : Works σ s) : Works σ (s.termsUsed j rec) := by
  refine hs.foldl fun hu => hu.ite ?_
  split
  · exact hu
  · exact hu.ite hu.used

theorem Works.filterRecord {n rec} (hs : Works σ s) : Works σ (s.filterRecord n rec) := by
  unfold State.filterRecord
  refine hs.ite ?_
  split
  · exact hs.setJob.termsUsed.jobFault
  · exact hs.setJob.termsUsed
  · exact hs.setJob.termsUsed.setJob.ite (hs.setJob.termsUsed.packedOut.setJob.ite hs.setJob.termsUsed.setJob)

theorem Works.filterEnd {n} (hs : Works σ s) : Works σ (s.filterEnd n) := hs.ite (hs.foldl fun hu => hu.packedOut.setJob)
theorem Works.rows {n first bs} (hs : Works σ s) : Works σ (s.rows n first bs) :=
  hs.foldl fun hu => hu.ite (hu.filterRecord.ite hu.placeRow)

theorem Works.allRows {n} (hs : Works σ s) : Works σ (s.allRows n) := by
  unfold State.allRows
  extract_lets +onlyGivenNames s1
  have hs1 : Works σ s1 := hs.dispatchTable.ite (hs.filterEnd.ite hs)
  exact hs1.setJob.jobCheck.ite hs1

theorem Works.streamEnd {n} (hs : Works σ s) : Works σ (s.streamEnd n) := hs.allRows.ite hs
theorem Works.consume {n x} (hs : Works σ s) : Works σ (s.consume n x) := hs.bumpN.meter.rows

theorem Works.takePut {n h key late} (hs : Works σ s) (ht : s.takePut n h key late = some t) : Works σ t := by
  unfold State.takePut at ht
  extract_lets _ _ _ _ _ _ _ s1 s2 at ht
  have hs2 : Works σ s2 := hs.setJob.respond.ite hs.setJob
  split at ht
  · cases ht
  · split at ht
    · cases ht
      exact hs2.put
    · cases ht
      exact (hs2.foldl .consume).streamEnd

theorem Works.planInput {i d tick bs} (hs : Works σ s) (ht : s.planInput i d tick bs = some t) : Works σ t := by
  unfold State.planInput at ht
  extract_lets _ _ _ _ at ht
  split at ht
  · cases ht
  · split at ht
    · cases ht
      exact hs.bump.jobFault.ite hs
    · exact hs.takePut ht

/-! ### A plan slot read after a write (R101) -/

/-- A slot with an image, or in a state other than EMPTY, is listed among the slots. -/
theorem PlanSlot.ne_of_image {x : PlanSlot} {i : PlanImage} (h : x.image = some i) : x ≠ {} := by
  rintro rfl
  cases h

theorem PlanSlot.ne_of_state {x : PlanSlot} (h : x.state ≠ .empty) : x ≠ {} := by
  rintro rfl
  exact h rfl

theorem slot_setSlot_self (s : State) (n : Nat) {x : PlanSlot} (hx : x ≠ {}) : (s.setSlot n x).slot n = x := read_write_self _ _ hx

theorem slot_setSlot_ne (s : State) {n m : Nat} {x : PlanSlot} (hx : x ≠ {}) (hm : m ≠ n) : (s.setSlot n x).slot m = s.slot m :=
  read_write_ne _ hm hx

/-- A write that keeps the image of a slot that has one keeps every slot's image. -/
theorem setSlot_image {n : Nat} {x : PlanSlot} {i : PlanImage} (hi : (s.slot n).image = some i) (hx : x.image = (s.slot n).image)
    (m : Nat) : ((s.setSlot n x).slot m).image = (s.slot m).image := by
  have hne : x ≠ {} := PlanSlot.ne_of_image (hx.trans hi)
  by_cases hm : m = n
  · rw [hm, slot_setSlot_self s n hne, hx]
  · rw [slot_setSlot_ne s hne hm]

theorem setSlot_keeps (s : State) (n : Nat) (x : PlanSlot) : Keeps [.plans] s (s.setSlot n x) := Keeps.refl _ s

theorem slot_eq {n : Nat} (h : t.plans = s.plans) : t.slot n = s.slot n := by rw [State.slot, h, ← State.slot]

theorem Keeps.plans {c : List Part} (h : Keeps c s t) (hc : .plans ∉ c) : t.plans = s.plans := by
  have := keeps_iff.mp h .plans
  simpa [hc, Part.same] using this

/-- No containment waits for a halt: the end of a plan's command starts none (R557). -/
theorem containDue_of_none (h : s.power.containWaits = []) : s.containDue = s := by
  simp [State.containDue, h]

/-- A command begins with nothing answered, which no frame speaks of. -/
theorem Keeps.of_begin {c : List Part} (h : Keeps c s.begin t) : Keeps c s t := ((begin_keeps s).mono (by simp)).trans h

/-- What a command gives, from the state its effect leads to. -/
theorem gives_of_running {c : Instr} {f : State → State} {u : State} {P : State → Prop} (hrun : s.running = true)
    (hc : exec c s = .next (s.begin.whenRunning f)) (hf : f s.begin = u) (hp : P u) : Gives c s P :=
  ⟨u, hc.trans (congrArg Host.Outcome.next ((whenRunning_begin f hrun).trans hf)), hp⟩

theorem gives_of_contained {c : Instr} {f : State → State} {u : State} {P : State → Prop} (hrun : s.running = true)
    (hc : exec c s = .next (s.begin.whenRunning f).containDue) (hf : f s.begin = u) (hw : u.power.containWaits = []) (hp : P u) :
    Gives c s P :=
  ⟨u, hc.trans (congrArg Host.Outcome.next ((congrArg _ ((whenRunning_begin f hrun).trans hf)).trans (containDue_of_none hw))), hp⟩

/-! ### What the parts of chapter 03 may change -/

/-- Tokens of one kind leave on each port of a list (R131). -/
theorem emits_keeps {α : Type} (f : α → Msg) (l : List α) (s : State) : Keeps [] s (l.foldl (fun (t : State) p => t.emit (f p)) s) :=
  Keeps.foldl (fun t p => emit_keeps t (f p)) l s

theorem setGate_keeps (s : State) (p : Nat) (g : Gate) : Keeps [.traffic] s (s.setGate p g) := Keeps.refl _ s

theorem slotGates_keeps (s : State) (n : Nat) (g : State → Nat → Gate) :
    Keeps [.traffic] s (s.slotGates n (fun t p => t.setGate p (g t p))) :=
  Keeps.foldl (fun t (e : Nat × Gate) => setGate_keeps t e.1 _) _ _

theorem setClusterClock_keeps (s : State) (c mhz : Nat) : Keeps [.power] s (s.setClusterClock c mhz) := Keeps.refl _ s

theorem planClocks_keeps (s : State) (i : PlanImage) (on : Bool) : Keeps [.power] s (s.planClocks i on) :=
  Keeps.foldl (fun t c => setClusterClock_keeps t c _) _ _

theorem planClocks_containWaits (s : State) (i : PlanImage) (on : Bool) : (s.planClocks i on).power.containWaits = s.power.containWaits :=
  List.foldlRecOn _ _ (motive := fun t : State => t.power.containWaits = s.power.containWaits) rfl fun _ h _ _ => h

theorem planEvent_keeps (s : State) (n : Nat) (st : Status) : Keeps [.mgmt, .remote, .dict, .freeCounter] s (s.planEvent n st) :=
  eventOpen_keeps _ _ _ _ _ _

/-- An outcome of a slot that stays listed is its LAST_STATUS, and ends the command in progress (R143, R145). -/
theorem planOutcome_slot (s : State) {n : Nat} {i : PlanImage} (st : Status) (hi : (s.slot n).image = some i) :
    (s.planOutcome n st).slot n = { s.slot n with lastStatus := st, busy := none } :=
  (slot_eq ((planEvent_keeps _ _ _).plans (by simp))).trans (slot_setSlot_self _ _ (PlanSlot.ne_of_image (i := i) hi))

theorem planOutcome_power (s : State) (n : Nat) (st : Status) : (s.planOutcome n st).power = s.power :=
  (planEvent_keeps (s.setSlot n _) n st).power (by simp)

/-! ### Commands of a slot (R112, R143) -/

/-- The state in which the effect of a slot's command begins: the arm of its register is taken. -/
def State.slotTurn (s : State) (a : Access) (n : Nat) : State := (s.begin.takeArm a (R.plnSlotCmd n)).2

theorem slotTurn_keeps (s : State) (a : Access) (n : Nat) : Keeps [.mgmt] s (s.slotTurn a n) :=
  ((begin_keeps s).mono (by simp)).trans (takeArm_keeps _ _ _)

theorem slotTurn_slot (s : State) (a : Access) (n m : Nat) : (s.slotTurn a n).slot m = s.slot m :=
  slot_eq ((slotTurn_keeps s a n).plans (by simp))

theorem slotTurn_power (s : State) (a : Access) (n : Nat) : (s.slotTurn a n).power = s.power :=
  (slotTurn_keeps s a n).power (by simp)

/-- A command whose register is armed and that the slot's state takes has its effect and is answered OK. -/
theorem planCommand_accepted {a : Access} {n : Nat} {c : PlanDo} (eff : State → State) (ha : (s.takeArm a (R.plnSlotCmd n)).1 = true)
    (hc : planRefusal c (s.slot n) = none) :
    s.begin.planCommand a n c (fun _ => none) eff = (eff (s.slotTurn a n)).answer served := by
  have ha' : (s.begin.takeArm a (R.plnSlotCmd n)).1 = true := by cases a <;> exact ha
  have hc' : planRefusal c (s.begin.slot n) = none := hc
  simp [State.planCommand, State.openWrite, ha', hc', State.slotTurn]

theorem planLive_of_haltRefusal {c : PlanDo} {x : PlanSlot} (hcmd : c = .haltBoundary ∨ c = .haltNow) (h : planRefusal c x = none) :
    planLive x.state = true := by
  have htakes : c.takes x x.state = true := by
    rcases hcmd with rfl | rfl
    all_goals
      simp only [planRefusal, reduceCtorEq, false_and, if_false] at h
      split at h
      · next ht => exact ht.1
      · split at h <;> cases h
  rcases hcmd with rfl | rfl <;> exact htakes

/-! ### Halts become known and take effect (R136-R138) -/

/-- Of known halts one takes effect first. -/
theorem exists_winner (x : PlanSlot) (rot tick : Nat) {hs : List HaltToken} (h : hs ≠ []) : ∃ w, x.winner rot tick hs = some w := by
  cases hs with
  | nil => exact absurd rfl h
  | cons k hs =>
    unfold PlanSlot.winner
    split
    · exact ⟨_, rfl⟩
    · dsimp only
      split <;> exact ⟨_, rfl⟩

/-- A halt becomes known at a slot with an image: it joins the known ones, and only pending slip tokens may go. -/
theorem knowHalt_of_image {n : Nat} {h : HaltToken} {i : PlanImage} (hi : (s.slot n).image = some i) :
    ∃ ps, s.knowHalt n h = s.setSlot n { s.slot n with halts := (s.slot n).halts ++ [h], pending := ps } := by
  obtain ⟨w, hw⟩ := exists_winner (s.slot n) i.rotationTicks s.tick (hs := (s.slot n).halts ++ [h]) (by simp)
  simp only [State.knowHalt, hi, hw]
  exact ⟨_, rfl⟩

theorem knowHalt_slot {n : Nat} (h : HaltToken) {i : PlanImage} (hi : (s.slot n).image = some i) :
    ∃ ps, (s.knowHalt n h).slot n = { s.slot n with halts := (s.slot n).halts ++ [h], pending := ps } := by
  obtain ⟨ps, hk⟩ := knowHalt_of_image (h := h) hi
  exact ⟨ps, (congrArg (State.slot · n) hk).trans (slot_setSlot_self _ _ (PlanSlot.ne_of_image (i := i) hi))⟩

theorem knowHalt_of_no_image {n : Nat} {h : HaltToken} (hi : (s.slot n).image = none) : s.knowHalt n h = s := by
  simp only [State.knowHalt, hi]

theorem knowHalt_keeps (s : State) (n : Nat) (h : HaltToken) : Keeps [.plans] s (s.knowHalt n h) := by
  cases hi : (s.slot n).image with
  | none => rw [knowHalt_of_no_image hi]; exact Keeps.refl _ s
  | some i => obtain ⟨ps, hk⟩ := knowHalt_of_image (h := h) hi; rw [hk]; exact setSlot_keeps _ _ _

/-- A halt that a live slot issues is known there, with its cause, and leaves on the slot's ports (R136). -/
theorem issueHalt_of_live {n : Nat} (cause : HaltCause) (byRotation injected : Bool) {i : PlanImage} (hi : (s.slot n).image = some i)
    (hl : planLive (s.slot n).state = true) :
    ∃ h seen q, ∃ ports : List Nat, h.cause = cause ∧ h.byRotation = byRotation ∧ s.issueHalt n cause byRotation injected =
      ports.foldl (fun (t : State) p => t.emit (.halt p h))
        ((s.setSlot n { s.slot n with tokenSeq := q, seen := seen }).knowHalt n h) := by
  simp only [State.issueHalt, hi, hl, Bool.not_true, Bool.false_eq_true, if_false]
  refine ⟨_, _, _, _, ?_, ?_, rfl⟩ <;> cases byRotation <;> rfl

theorem issueHalt_slot {n : Nat} (cause : HaltCause) (byRotation injected : Bool) {i : PlanImage} (hi : (s.slot n).image = some i)
    (hl : planLive (s.slot n).state = true) :
    ∃ h seen q ps, h.cause = cause ∧ h.byRotation = byRotation ∧ (s.issueHalt n cause byRotation injected).slot n =
      { s.slot n with tokenSeq := q, seen := seen, halts := (s.slot n).halts ++ [h], pending := ps } := by
  obtain ⟨h, seen, q, ports, hcause, hrot, he⟩ := issueHalt_of_live cause byRotation injected hi hl
  have hx := slot_setSlot_self s n (x := { s.slot n with tokenSeq := q, seen := seen }) (PlanSlot.ne_of_image (i := i) hi)
  have hxi := (congrArg PlanSlot.image hx).trans hi
  obtain ⟨ps, hk⟩ := knowHalt_slot h hxi
  refine ⟨h, seen, q, ps, hcause, hrot, ?_⟩
  rw [he, slot_eq ((emits_keeps _ _ _).plans (by simp)), hk, hx]

theorem issueHalt_keeps (s : State) (n : Nat) (cause : HaltCause) (byRotation injected : Bool) :
    Keeps [.plans] s (s.issueHalt n cause byRotation injected) := by
  unfold State.issueHalt
  dsimp only
  split
  · exact Keeps.refl _ s
  · refine Keeps.ite (Keeps.refl _ s) ?_
    exact ((setSlot_keeps _ _ _).trans (knowHalt_keeps _ _ _)).trans ((emits_keeps _ _ _).mono (by simp))

/-- A slot that has stopped with a cause (R138, R139). -/
def PlanSlot.stopped (x : PlanSlot) (i : PlanImage) (cause : HaltCause) (faulted : Bool) : PlanSlot :=
  { x with
    state := if faulted then .faulted else .halted, haltCause := cause, resumable := decide (cause = .commandBoundary) && !faulted
    haltRotation := x.planTick / i.rotationTicks, transit := [], pending := [], remaining := 0, activeTick := none, halts := []
    tokensOpen := [], lateness := 0 }

theorem stopFlorets_keeps (s : State) (n : Nat) : Keeps [.florets] s (s.stopFlorets n) := Keeps.refl _ s

/-- Beside the slot itself, a stop changes its Florets, its gates, its clusters' clocks, its counters and what its event changes. -/
theorem planStop_of_image {n : Nat} (cause : HaltCause) (faulted : Bool) {i : PlanImage} (hi : (s.slot n).image = some i) :
    Keeps [.dict, .florets, .traffic, .power, .mgmt, .remote, .freeCounter] (s.setSlot n ((s.slot n).stopped i cause faulted))
      (s.planStop n cause faulted) := by
  unfold State.planStop
  extract_lets x
  split
  · next hn => cases hn.symm.trans hi
  · next j hj =>
    obtain rfl : j = i := Option.some.inj (hj.symm.trans hi)
    extract_lets s1 s2
    have h2 : Keeps [.dict] s1 s2 := ((setNum_keeps _ _ _).trans (setNum_keeps _ _ _)).trans (setNum_keeps _ _ _)
    exact (h2.mono (by simp)).trans (((stopFlorets_keeps s2 n).mono (by simp)).trans (((slotGates_keeps _ n _).mono (by simp)).trans
      (((planClocks_keeps _ j false).mono (by simp)).trans ((planEvent_keeps _ n .ok).mono (by simp)))))

theorem planStop_slot {n : Nat} (cause : HaltCause) (faulted : Bool) {i : PlanImage} (hi : (s.slot n).image = some i) :
    (s.planStop n cause faulted).slot n = (s.slot n).stopped i cause faulted :=
  (slot_eq ((planStop_of_image cause faulted hi).plans (by simp))).trans (slot_setSlot_self _ _ (PlanSlot.ne_of_image (i := i) hi))

theorem planStop_containWaits (s : State) (n : Nat) (cause : HaltCause) (faulted : Bool) :
    (s.planStop n cause faulted).power.containWaits = s.power.containWaits := by
  unfold State.planStop
  extract_lets x
  split
  · rfl
  · rw [(planEvent_keeps _ _ _).power (by simp), planClocks_containWaits, (slotGates_keeps _ _ _).power (by simp)]
    rfl

theorem haltEffect_of_image {n : Nat} {i : PlanImage} (hi : (s.slot n).image = some i) (hh : (s.slot n).halts ≠ []) :
    ∃ cause faulted, s.haltEffect n = s.planStop n cause faulted := by
  obtain ⟨w, hw⟩ := exists_winner (s.slot n) i.rotationTicks s.tick hh
  simp only [State.haltEffect, hi, hw]
  exact ⟨_, _, rfl⟩

/-! ### The clauses of disarm and of the halt commands (R126, R136, R143) -/

/-! A member that disarms keeps every slot's image, and no containment comes to wait. -/

theorem memberDisarm_image (s : State) (planId : Word64) (n : Nat) : ((s.memberDisarm planId).slot n).image = (s.slot n).image := by
  unfold State.memberDisarm
  split
  · rfl
  · next m _ =>
    extract_lets x
    split
    · rfl
    · next i hi =>
      split
      · rfl
      · rw [slot_eq ((planClocks_keeps _ _ _).plans (by simp))]
        exact setSlot_image hi (by rfl) n

theorem memberDisarm_containWaits (s : State) (planId : Word64) : (s.memberDisarm planId).power.containWaits = s.power.containWaits := by
  unfold State.memberDisarm
  split
  · rfl
  · extract_lets x
    split
    · rfl
    · split
      · rfl
      · exact planClocks_containWaits _ _ _

theorem disarmAll_image (s : State) (i : PlanImage) (n : Nat) : ((s.disarmAll i).slot n).image = (s.slot n).image := by
  refine List.foldlRecOn _ _ (motive := fun t : State => (t.slot n).image = (s.slot n).image) rfl fun t ht m _ => ?_
  split
  · exact (memberDisarm_image _ _ _).trans ht
  · exact ht

theorem disarmAll_containWaits (s : State) (i : PlanImage) : (s.disarmAll i).power.containWaits = s.power.containWaits := by
  refine List.foldlRecOn _ _ (motive := fun t : State => t.power.containWaits = s.power.containWaits) rfl fun t ht m _ => ?_
  split
  · exact (memberDisarm_containWaits _ _).trans ht
  · exact ht

theorem gives_planDisarm {a : Access} {n : Nat} {i : PlanImage} (hrun : s.running = true) (hw : s.power.containWaits = [])
    (ha : (s.takeArm a (R.plnSlotCmd n)).1 = true) (hc : planRefusal .disarm (s.slot n) = none) (hi : (s.slot n).image = some i) :
    Gives (.planDisarm a n) s (fun t => (t.slot n).busy = none ∧ (t.slot n).lastStatus = .ok ∧ Answers t .ok) := by
  have hu : ((s.slotTurn a n).slot n).image = some i := by rw [slotTurn_slot, hi]
  have hslot := planOutcome_slot ((s.slotTurn a n).disarmAll i) .ok ((disarmAll_image _ _ _).trans hu)
  have he : s.begin.planDisarm a n = (((s.slotTurn a n).disarmAll i).planOutcome n .ok).answer served := by
    rw [State.planDisarm, planCommand_accepted _ ha hc, hu]
  refine gives_of_contained hrun rfl he ?_ ⟨congrArg PlanSlot.busy hslot, congrArg PlanSlot.lastStatus hslot, rfl⟩
  calc (((s.slotTurn a n).disarmAll i).planOutcome n .ok).power.containWaits
    _ = ((s.slotTurn a n).disarmAll i).power.containWaits := congrArg _ (planOutcome_power _ _ _)
    _ = (s.slotTurn a n).power.containWaits := disarmAll_containWaits _ _
    _ = [] := (congrArg _ (slotTurn_power s a n)).trans hw

/-- A member that hears disarm in time goes back to the state it was armed from (R126, R140). -/
theorem memberDisarm_of_armed {planId : Word64} {n : Nat} {i : PlanImage} (hs : s.slotOf planId = some n) (hi : (s.slot n).image = some i)
    (hst : (s.slot n).state = .armed) (hlate : s.ftc + 32 * i.slipHorizon < (s.slot n).startFtc) :
    ∃ y : PlanSlot, y.state = (if (s.slot n).armResume then .halted else .loaded) ∧ y.image = some i ∧
      s.memberDisarm planId = (s.setSlot n y).planClocks i false := by
  have hgo : ¬((s.slot n).state ≠ .armed ∨ (s.slot n).startFtc ≤ s.ftc + 32 * i.slipHorizon) :=
    not_or.mpr ⟨not_not.mpr hst, Nat.not_le.mpr hlate⟩
  simp only [State.memberDisarm, hs, hi, if_neg hgo]
  exact ⟨_, rfl, rfl, rfl⟩

theorem gives_disarmReceived {planId : Word64} {n : Nat} {i : PlanImage} (hrun : s.running = true) (hw : s.power.containWaits = [])
    (hs : s.slotOf planId = some n) (hi : (s.slot n).image = some i) (hst : (s.slot n).state = .armed)
    (hlate : s.ftc + 32 * i.slipHorizon < (s.slot n).startFtc) :
    Gives (.disarmReceived planId) s (fun t => (t.slot n).state = (if (s.slot n).armResume then .halted else .loaded) ∧
      Keeps [.plans, .power] s t) := by
  obtain ⟨y, hy, hyi, he⟩ := memberDisarm_of_armed (s := s.begin) hs hi hst hlate
  have hk : Keeps [.plans, .power] s.begin ((s.begin.setSlot n y).planClocks i false) :=
    ((setSlot_keeps _ _ _).mono (by simp)).trans ((planClocks_keeps _ _ _).mono (by simp))
  refine gives_of_contained hrun rfl he ((planClocks_containWaits _ _ _).trans hw) ⟨?_, .of_begin hk⟩
  rw [slot_eq ((planClocks_keeps _ _ _).plans (by simp)), slot_setSlot_self _ _ (PlanSlot.ne_of_image hyi), hy]
  rfl

/-- A halt command that a live slot takes issues a halt that is known there (R136, R137, R143). -/
theorem planHalt_accepted {a : Access} {n : Nat} {boundary : Bool} (ha : (s.takeArm a (R.plnSlotCmd n)).1 = true)
    (hc : planRefusal (if boundary then .haltBoundary else .haltNow) (s.slot n) = none) (hi : (s.slot n).image.isSome = true) :
    (∃ h ∈ ((s.begin.planHalt a n boundary).slot n).halts,
      h.cause = (if boundary then .commandBoundary else .commandNow) ∧ h.byRotation = boundary) ∧
    Answers (s.begin.planHalt a n boundary) .ok := by
  obtain ⟨i, hi⟩ := Option.isSome_iff_exists.mp hi
  have hl : planLive (s.slot n).state = true := planLive_of_haltRefusal (by cases boundary <;> simp) hc
  rw [← slotTurn_slot s a n n] at hi hl
  obtain ⟨h, seen, q, ps, hcause, hrot, hslot⟩ :=
    issueHalt_slot (if boundary then .commandBoundary else .commandNow) boundary false hi hl
  rw [State.planHalt, planCommand_accepted _ ha hc]
  refine ⟨⟨h, ?_, hcause, hrot⟩, rfl⟩
  show h ∈ ((State.planOutcome _ n .ok).slot n).halts
  rw [planOutcome_slot _ _ ((congrArg PlanSlot.image hslot).trans hi), hslot]
  simp

/-! ### The clauses of a slot's stop (R138) -/

theorem gives_rotationsComplete {n : Nat} {i : PlanImage} (hrun : s.running = true) (hw : s.power.containWaits = [])
    (hi : (s.slot n).image = some i) (hst : (s.slot n).state = .running ∨ (s.slot n).state = .slipping) (hc : i.rotationCount ≠ 0)
    (hd : i.rotationCount * i.rotationTicks ≤ (s.slot n).planTick) :
    Gives (.rotationsComplete n) s (fun t => (t.slot n).state = .halted ∧ (t.slot n).haltCause = .complete ∧
      (t.slot n).resumable = false) := by
  have hi' : (s.begin.slot n).image = some i := hi
  have hdone : ((s.begin.slot n).state = .running ∨ (s.begin.slot n).state = .slipping) ∧ i.rotationCount ≠ 0 ∧
      i.rotationCount * i.rotationTicks ≤ (s.begin.slot n).planTick := ⟨hst, hc, hd⟩
  have hslot := planStop_slot .complete false hi'
  refine gives_of_contained hrun rfl (u := s.begin.planStop n .complete false) ?_ ((planStop_containWaits _ _ _ _).trans hw)
    ⟨congrArg PlanSlot.state hslot, congrArg PlanSlot.haltCause hslot, congrArg PlanSlot.resumable hslot⟩
  simp only [hi', if_pos hdone]

/-- The halt that takes effect first stops the slot, and none is known any more (R138). -/
theorem haltEffect_slot {n : Nat} {i : PlanImage} (hi : (s.slot n).image = some i) (hh : (s.slot n).halts ≠ []) :
    (((s.haltEffect n).slot n).state = .halted ∨ ((s.haltEffect n).slot n).state = .faulted) ∧ ((s.haltEffect n).slot n).halts = [] := by
  obtain ⟨cause, faulted, he⟩ := haltEffect_of_image hi hh
  rw [he, planStop_slot cause faulted hi]
  exact ⟨by cases faulted <;> simp [PlanSlot.stopped], rfl⟩

theorem haltEffect_containWaits (s : State) (n : Nat) : (s.haltEffect n).power.containWaits = s.power.containWaits := by
  unfold State.haltEffect
  extract_lets x
  split
  · rfl
  · split
    · rfl
    · exact planStop_containWaits _ _ _ _

theorem atTick_keeps (s : State) (n : Nat) : Keeps [.now, .ftc, .dict] s (s.atTick n) := atFtc_keeps s _

theorem winner_nil (x : PlanSlot) (rot tick : Nat) : x.winner rot tick [] = none := rfl

theorem halts_ne_nil_of_winner {x : PlanSlot} {rot tick : Nat} {hs : List HaltToken} {k : HaltToken}
    (h : x.winner rot tick hs = some k) : hs ≠ [] := by
  rintro rfl
  cases h

theorem gives_haltTakesEffect {n : Nat} {i : PlanImage} {k : HaltToken} (hrun : s.running = true) (hw : s.power.containWaits = [])
    (hi : (s.slot n).image = some i) (hk : (s.slot n).winner i.rotationTicks s.tick (s.slot n).halts = some k)
    (hl : planLive (s.slot n).state = true) (hdue : k.byRotation = false ∨ k.whenVal * i.rotationTicks ≤ (s.slot n).planTick) :
    Gives (.haltTakesEffect n) s (fun t => ((t.slot n).state = .halted ∨ (t.slot n).state = .faulted) ∧ (t.slot n).halts = []) := by
  let u := s.begin.atTick (if k.byRotation then 0 else k.whenVal / 32)
  have hu : u.slot n = s.slot n := slot_eq ((atTick_keeps s.begin _).plans (by simp))
  have huw : u.power.containWaits = [] := (congrArg _ ((atTick_keeps s.begin _).power (by simp))).trans hw
  refine gives_of_contained hrun rfl (u := u.haltEffect n) ?_ ((haltEffect_containWaits _ _).trans huw)
    (haltEffect_slot (i := i) (by rw [hu, hi]) (by rw [hu]; exact halts_ne_nil_of_winner hk))
  have hi' : (s.begin.slot n).image = some i := hi
  have hk' : (s.begin.slot n).winner i.rotationTicks s.begin.tick (s.begin.slot n).halts = some k := hk
  have hl' : planLive (s.begin.slot n).state = true := hl
  have hdue' : ¬(k.byRotation = true ∧ (s.begin.slot n).planTick < k.whenVal * i.rotationTicks) := by
    rintro ⟨hrot, hlt⟩
    exact hdue.elim (fun h => absurd hrot (by simp [h])) (Nat.not_le.mpr hlt)
  simp only [hi', hk', hl', Bool.not_true, Bool.false_eq_true, if_false, if_neg hdue', u]

/-! ### Tokens that arrive and lateness (R128, R131, R132, R136) -/

/-- What a slot may note of a token that it issues (R128): neither its lateness, nor its place in the plan, nor its halts. -/
theorem slipIssue_slot {n : Nat} (tick : Nat) (injected : Bool) :
    ∃ tokens last q seen ps, (s.slipIssue n tick injected).slot n = { s.slot n with
      tokensOpen := tokens, lastTokenTick := last, tokenSeq := q, seen := seen, pending := ps } := by
  have hself : s.slot n = { s.slot n with
    tokensOpen := (s.slot n).tokensOpen, lastTokenTick := (s.slot n).lastTokenTick, tokenSeq := (s.slot n).tokenSeq
    seen := (s.slot n).seen, pending := (s.slot n).pending } := rfl
  unfold State.slipIssue
  extract_lets x
  split
  · exact ⟨_, _, _, _, _, hself⟩
  · next i hi =>
    split
    · exact ⟨_, _, _, _, _, hself⟩
    · refine ⟨_, _, _, _, _, (slot_eq ((emits_keeps _ _ _).plans (by simp))).trans (slot_setSlot_self _ _ ?_)⟩
      exact PlanSlot.ne_of_image (i := i) hi

theorem slipIssue_keeps (s : State) (n tick : Nat) (injected : Bool) : Keeps [.plans] s (s.slipIssue n tick injected) := by
  unfold State.slipIssue
  dsimp only
  split
  · exact Keeps.refl _ s
  · exact Keeps.ite (Keeps.refl _ s) ((setSlot_keeps _ _ _).trans ((emits_keeps _ _ _).mono (by simp)))

theorem gives_latenessReport {n : Nat} {cause : SlipCause} {ticks : Nat} {origin : Word32} (hrun : s.running = true)
    (hst : (s.slot n).state = .running ∨ (s.slot n).state = .slipping) (hd : (s.slot n).lateness < ticks) :
    Gives (.latenessReport n cause ticks origin) s (fun t =>
      (t.slot n).lateness = ticks ∧ (t.slot n).lateCause = cause ∧ Keeps [.plans] s t) := by
  let y : PlanSlot := { s.slot n with lateness := ticks, lateCause := cause, lateOrigin := origin }
  have hy : y ≠ {} := PlanSlot.ne_of_state (x := y) (by rcases hst with h | h <;> simp [y, h])
  have he : s.begin.lateReport n cause ticks origin = (s.begin.setSlot n y).slipIssue n s.tick := by
    have hst' : (!(decide ((s.begin.slot n).state = .running) || decide ((s.begin.slot n).state = .slipping))) = false := by
      show (!(decide ((s.slot n).state = .running) || decide ((s.slot n).state = .slipping))) = false
      rcases hst with h | h <;> simp [h]
    have hd' : (s.begin.slot n).lateness < ticks := hd
    simp only [State.lateReport, hst', hd', if_true, Bool.false_eq_true, if_false]
    rfl
  obtain ⟨tokens, last, q, seen, ps, hs⟩ := slipIssue_slot (s := s.begin.setSlot n y) (n := n) s.tick false
  rw [slot_setSlot_self _ _ hy] at hs
  exact gives_of_running hrun rfl he ⟨congrArg PlanSlot.lateness hs, congrArg PlanSlot.lateCause hs,
    .of_begin ((setSlot_keeps _ _ _).trans (slipIssue_keeps _ _ _ _))⟩

/-! A token that has not been seen is noted at its slot and passed on (R131). -/

def PlanSlot.noted (x : PlanSlot) (key : Nat × Nat) : PlanSlot := { x with seen := x.seen ++ [key] }

def State.passOn (s : State) (n : Nat) (key : Nat × Nat) (ports : State → List Nat) (m : Nat → Msg) : State :=
  (ports (s.setSlot n ((s.slot n).noted key))).foldl (fun (t : State) p => t.emit (m p)) (s.setSlot n ((s.slot n).noted key))

theorem passOn_keeps (s : State) (n : Nat) (key : Nat × Nat) (ports : State → List Nat) (m : Nat → Msg) :
    Keeps [.plans] s (s.passOn n key ports m) := (setSlot_keeps _ _ _).trans ((emits_keeps _ _ _).mono (by simp))

theorem passOn_slot {n : Nat} {i : PlanImage} (hi : (s.slot n).image = some i) (key : Nat × Nat) (ports : State → List Nat)
    (m : Nat → Msg) : (s.passOn n key ports m).slot n = (s.slot n).noted key :=
  (slot_eq ((emits_keeps _ _ _).plans (by simp))).trans (slot_setSlot_self _ _ (PlanSlot.ne_of_image (i := i) hi))

/-- A slip token in time that no known halt and no other quantum covers joins the pending ones of a live slot. -/
theorem slipArrives_of_unseen {port : Option Nat} {k : SlipToken} {n : Nat} {i : PlanImage} (hs : s.slotOf k.planId = some n)
    (hi : (s.slot n).image = some i) (hseen : (s.slot n).seen.contains (k.member, k.seq) = false)
    (hl : planLive (s.slot n).state = true) (htime : s.ftc + 64 ≤ k.whenFtc) (hh : (s.slot n).halts = [])
    (hp : (s.slot n).pending.any (fun p => decide (p.whenFtc = k.whenFtc)) = false)
    (ha : (s.slot n).activeTick ≠ some (k.whenFtc / 32)) :
    s.slipArrives port k = (s.passOn n (k.member, k.seq) (·.tokenPorts i port) (.slip · k)).setSlot n
      { (s.slot n).noted (k.member, k.seq) with pending := insertToken k (s.slot n).pending } := by
  have hu := passOn_slot hi (k.member, k.seq) (·.tokenPorts i port) (.slip · k)
  unfold State.slipArrives
  split
  · next hn => cases hn.symm.trans hs
  · next m hm =>
    obtain rfl : m = n := Option.some.inj (hm.symm.trans hs)
    extract_lets +onlyGivenNames x
    split
    · next hn => cases hn.symm.trans hi
    · next j hj =>
      obtain rfl : j = i := Option.some.inj (hj.symm.trans hi)
      rw [if_neg (by rw [Bool.not_eq_true]; exact hseen)]
      extract_lets t1 t2 z cut merged
      have hz : z = (s.slot m).noted (k.member, k.seq) := hu
      have hcut : cut = false := by simp only [cut, hz, PlanSlot.noted, hh, winner_nil]
      have hmerged : merged = false := by simp [merged, hz, PlanSlot.noted, hp, ha]
      rw [if_neg (by simp [hz, PlanSlot.noted, hl]), if_neg (Nat.not_lt.mpr htime), if_neg (by simp [hcut, hmerged]), hz]
      rfl

theorem gives_slipToken {port : Option Nat} {k : SlipToken} {n : Nat} (hrun : s.running = true) (hs : s.slotOf k.planId = some n)
    (hi : (s.slot n).image.isSome = true) (hseen : (s.slot n).seen.contains (k.member, k.seq) = false)
    (hl : planLive (s.slot n).state = true) (htime : s.ftc + 64 ≤ k.whenFtc) (hh : (s.slot n).halts = [])
    (hp : (s.slot n).pending.any (fun p => decide (p.whenFtc = k.whenFtc)) = false)
    (ha : (s.slot n).activeTick ≠ some (k.whenFtc / 32)) :
    Gives (.slipToken port k) s (fun t => (t.slot n).pending = insertToken k (s.slot n).pending ∧
      (t.slot n).seen = (s.slot n).seen ++ [(k.member, k.seq)] ∧ Keeps [.plans] s t) := by
  obtain ⟨i, hi⟩ := Option.isSome_iff_exists.mp hi
  refine gives_of_running hrun rfl (slipArrives_of_unseen (s := s.begin) hs hi hseen hl htime hh hp ha)
    ⟨?_, ?_, .of_begin ((passOn_keeps _ _ _ _ _).trans (setSlot_keeps _ _ _))⟩ <;>
  · rw [slot_setSlot_self]
    · rfl
    · exact PlanSlot.ne_of_image (i := i) hi

/-- A halt token in time is known at a live slot. -/
theorem haltArrives_of_unseen {port : Option Nat} {k : HaltToken} {n : Nat} {i : PlanImage} (hs : s.slotOf k.planId = some n)
    (hi : (s.slot n).image = some i) (hseen : (s.slot n).seen.contains (k.member, k.seq) = false)
    (hl : planLive (s.slot n).state = true)
    (hlate : (if k.byRotation then decide (k.whenVal * i.rotationTicks < (s.slot n).planTick) else decide (k.whenVal < s.ftc)) = false) :
    s.haltArrives port k = (s.passOn n (k.member, k.seq) (·.tokenPorts i port) (.halt · k)).knowHalt n k := by
  unfold State.haltArrives
  split
  · next hn => cases hn.symm.trans hs
  · next m hm =>
    obtain rfl : m = n := Option.some.inj (hm.symm.trans hs)
    extract_lets +onlyGivenNames x
    split
    · next hn => cases hn.symm.trans hi
    · next j hj =>
      obtain rfl : j = i := Option.some.inj (hj.symm.trans hi)
      rw [if_neg (by rw [Bool.not_eq_true]; exact hseen)]
      extract_lets t1 t2 t3 late
      have hlate' : late = false := hlate
      rw [if_neg (by simp [x, hl]), if_neg (by simp [hlate'])]
      rfl

theorem gives_haltToken {port : Option Nat} {k : HaltToken} {n : Nat} {i : PlanImage} (hrun : s.running = true)
    (hw : s.power.containWaits = []) (hs : s.slotOf k.planId = some n) (hi : (s.slot n).image = some i)
    (hseen : (s.slot n).seen.contains (k.member, k.seq) = false) (hl : planLive (s.slot n).state = true)
    (hlate : (if k.byRotation then decide (k.whenVal * i.rotationTicks < (s.slot n).planTick) else decide (k.whenVal < s.ftc)) = false) :
    Gives (.haltToken port k) s (fun t => (t.slot n).halts = (s.slot n).halts ++ [k] ∧ (t.slot n).state = (s.slot n).state ∧
      Keeps [.plans] s t) := by
  have hu := passOn_slot (s := s.begin) hi (k.member, k.seq) (·.tokenPorts i port) (.halt · k)
  have hk := (passOn_keeps s.begin n (k.member, k.seq) (·.tokenPorts i port) (.halt · k)).trans (knowHalt_keeps _ n k)
  obtain ⟨ps, hslot⟩ := knowHalt_slot k ((congrArg PlanSlot.image hu).trans hi)
  rw [hu] at hslot
  exact gives_of_contained hrun rfl (haltArrives_of_unseen (s := s.begin) hs hi hseen hl hlate)
    ((congrArg _ (hk.power (by simp))).trans hw) ⟨congrArg PlanSlot.halts hslot, by rw [hslot]; rfl, .of_begin hk⟩

theorem gives_planHaltBoundary {a : Access} {n : Nat} (hrun : s.running = true) (ha : (s.takeArm a (R.plnSlotCmd n)).1 = true)
    (hc : planRefusal .haltBoundary (s.slot n) = none) (hi : (s.slot n).image.isSome = true) :
    Gives (.planHaltBoundary a n) s (fun t =>
      (t.slot n).halts.any (fun h => decide (h.cause = .commandBoundary) && h.byRotation) = true ∧ Answers t .ok) := by
  obtain ⟨⟨h, hmem, hcause, hrot⟩, hanswer⟩ := planHalt_accepted (boundary := true) ha hc hi
  exact gives_of_running hrun rfl rfl ⟨List.any_eq_true.mpr ⟨h, hmem, by simp [hcause, hrot]⟩, hanswer⟩

theorem gives_planHaltNow {a : Access} {n : Nat} (hrun : s.running = true) (ha : (s.takeArm a (R.plnSlotCmd n)).1 = true)
    (hc : planRefusal .haltNow (s.slot n) = none) (hi : (s.slot n).image.isSome = true) :
    Gives (.planHaltNow a n) s (fun t =>
      (t.slot n).halts.any (fun h => decide (h.cause = .commandNow) && !h.byRotation) = true ∧ Answers t .ok) := by
  obtain ⟨⟨h, hmem, hcause, hrot⟩, hanswer⟩ := planHalt_accepted (boundary := false) ha hc hi
  exact gives_of_running hrun rfl rfl ⟨List.any_eq_true.mpr ⟨h, hmem, by simp [hcause, hrot]⟩, hanswer⟩

/-! ### A plan tick (R114-R119) -/

/-- What a plan tick is performed by, and what its entries leave: the image, the state and the two ticks of the slot. -/
def PlanSlot.place (x : PlanSlot) : Option PlanImage × PlanState × Nat × Nat := (x.image, x.state, x.planTick, x.lastTick)

/-- A slot with an image is at the place of `x`, and no containment waits. Whatever an entry of the plan does, it is still there. -/
structure InStep (n : Nat) (x : PlanSlot) (s : State) : Prop where
  image : ∃ i, x.image = some i
  place : (s.slot n).place = x.place
  waits : s.power.containWaits = []

section
variable {n : Nat} {x : PlanSlot}

theorem InStep.after {c : List Part} (hs : InStep n x s) (h : Keeps c s t) (hp : .plans ∉ c := by decide)
    (hw : .power ∉ c := by decide) : InStep n x t where
  image := hs.image
  place := (congrArg _ (slot_eq (h.plans hp))).trans hs.place
  waits := (congrArg _ (h.power hw)).trans hs.waits

theorem InStep.works (hs : InStep n x s) (h : Works s t) : InStep n x t := hs.after h.keeps

/-- The slot may be written, and stands then where it is written. -/
theorem InStep.write {x' y : PlanSlot} (hs : InStep n x s) (hi : x'.image = x.image) (hy : y.place = x'.place) :
    InStep n x' (s.setSlot n y) where
  image := hi ▸ hs.image
  place := by
    obtain ⟨i, hx⟩ := hs.image
    have hyi : y.image = some i := (congrArg Prod.fst hy).trans (hi.trans hx)
    rw [slot_setSlot_self _ _ (PlanSlot.ne_of_image hyi), hy]
  waits := hs.waits

theorem InStep.setSlot {y : PlanSlot} (hs : InStep n x s) (hy : y.place = (s.slot n).place := by rfl) : InStep n x (s.setSlot n y) :=
  hs.write rfl (hy.trans hs.place)

theorem InStep.runs (hs : InStep n x s) :
    InStep n { x with state := .running } (s.setSlot n { s.slot n with state := .running }) :=
  hs.write rfl (congrArg (fun p : Option PlanImage × PlanState × Nat × Nat => (p.1, PlanState.running, p.2.2)) hs.place)

theorem InStep.ticks {q : Nat} (hs : InStep n x s) : InStep n { x with planTick := x.planTick + 1 }
    (s.setSlot n { s.slot n with planTick := (s.slot n).planTick + 1, quanta := q }) :=
  hs.write rfl (congrArg (fun p : Option PlanImage × PlanState × Nat × Nat => (p.1, p.2.1, p.2.2.1 + 1, p.2.2.2)) hs.place)

theorem InStep.ite {c : Prop} {_ : Decidable c} {u : State} (ht : InStep n x t) (hu : InStep n x u) :
    InStep n x (if c then t else u) := by
  split <;> assumption

theorem InStep.ite_snd {α : Type} {c : Prop} {_ : Decidable c} {t u : α × State} (ht : InStep n x t.2) (hu : InStep n x u.2) :
    InStep n x (if c then t else u).2 := by
  split <;> assumption

theorem InStep.foldl {α : Type} {f : State → α → State} {l : List α} (hs : InStep n x s)
    (hf : ∀ {t a}, InStep n x t → InStep n x (f t a)) : InStep n x (l.foldl f s) :=
  List.foldlRecOn l f hs fun _ ht _ _ => hf ht

theorem InStep.emit {m} (hs : InStep n x s) : InStep n x (s.emit m) := hs.after (emit_keeps s m)
theorem InStep.bump {k} (hs : InStep n x s) : InStep n x (s.bump k) := hs.after (bump_keeps s k)

theorem InStep.knowHalt {h} (hs : InStep n x s) : InStep n x (s.knowHalt n h) := by
  unfold State.knowHalt
  dsimp only
  split
  · exact hs
  · split
    · exact hs
    · exact hs.setSlot

theorem InStep.issueHalt {cause byRotation injected} (hs : InStep n x s) : InStep n x (s.issueHalt n cause byRotation injected) := by
  unfold State.issueHalt
  dsimp only
  split
  · exact hs
  · exact hs.ite (hs.setSlot.knowHalt.foldl .emit)

theorem InStep.slipIssue {tick injected} (hs : InStep n x s) : InStep n x (s.slipIssue n tick injected) := by
  unfold State.slipIssue
  dsimp only
  split
  · exact hs
  · exact hs.ite (hs.setSlot.foldl .emit)

theorem InStep.exchangeData {i d} (hs : InStep n x s) : InStep n x (s.exchangeData n i d).2 := by
  unfold State.exchangeData
  refine .ite_snd ?_ (.ite_snd ?_ (.ite_snd ?_ hs))
  · dsimp only
    split
    · exact hs
    · exact hs.works (.setJob (.refl s))
  · split
    · exact hs.works (.used (.refl s))
    · exact hs.issueHalt.ite hs
  · split <;> exact hs

theorem InStep.departures {i k} (hs : InStep n x s) : InStep n x (s.departures n i k) := by
  refine hs.foldl fun hu => hu.ite ?_
  split
  · exact hu
  · refine hu.ite ?_
    extract_lets +onlyGivenNames _
    split
    · exact hu.exchangeData
    · extract_lets +onlyGivenNames v
      have hv : InStep n x v := hu.exchangeData.emit.ite hu.exchangeData
      exact hv.setSlot.ite hv

theorem InStep.latch {i d tick bs} (hs : InStep n x s) (ht : s.latch n i d tick bs = some t) : InStep n x t := by
  have hw := hs.works (.serviceWrite (off := addrOffset d.dest) (bs := bs) (tenant := i.tenant) (use := .static n true) (.refl s))
  unfold State.latch at ht
  split at ht
  · exact hs.works (.planInput (.refl s) ht)
  · split at ht
    · cases ht
      exact hw.issueHalt.ite hw
    · split at ht
      · split at ht
        · cases ht
          exact hs
        · cases ht
          exact hs.works (.sramWrite (.refl s))
      · cases ht
        exact hs.emit

theorem InStep.exchangeEffect {i k d rot tick slack} (hs : InStep n x s) : InStep n x (s.exchangeEffect n i k d rot tick slack) := by
  unfold State.exchangeEffect
  dsimp only
  split
  · exact hs.bump.issueHalt
  · refine hs.setSlot.bump.issueHalt.ite ?_
    split
    · exact hs.setSlot.bump.issueHalt
    · next u e =>
      have hu : InStep n x u := hs.setSlot.latch e
      exact hu.bump.ite (hu.bump.ite hu)

theorem InStep.startEntry {c k} (hs : InStep n x s) : InStep n x (s.startEntry n c k) :=
  hs.issueHalt.ite (hs.foldl fun {u _} hu => hu.after (Keeps.refl [.florets] u))

theorem InStep.entryEffect {i k e p tick slacks} (hs : InStep n x s) : InStep n x (s.entryEffect n i k e p tick slacks) := by
  unfold State.entryEffect
  split
  · split
    · exact hs
    · exact hs.exchangeEffect.ite hs
  · exact hs.after (setGate_keeps _ _ _)
  · exact hs.startEntry
  · exact (hs.after (syncUpdate_keeps _ _ _ _)).ite hs
  · split
    · exact hs
    · exact hs.works (.prefetchLayer (.refl s))
  · exact hs.after (setNum_keeps _ _ _)

theorem InStep.performTick {i tick slacks} (hs : InStep n x s) : InStep n x (s.performTick n i tick slacks) :=
  (hs.foldl fun hu => hu.entryEffect.ite hu).departures

end

/-- The end of a quantum leaves a slot's place, its tokens and its halts (R133). -/
theorem quantumEnds_slot {n : Nat} {i : PlanImage} (hi : (s.slot n).image = some i) :
    ∃ tokens late, (s.quantumEnds n).slot n = { s.slot n with activeTick := none, tokensOpen := tokens, lateness := late } := by
  unfold State.quantumEnds
  dsimp only
  split
  · next ha => exact ⟨(s.slot n).tokensOpen, (s.slot n).lateness, by rw [← ha]⟩
  · exact ⟨_, _, (slot_eq ((slotGates_keeps _ _ _).plans (by simp))).trans (slot_setSlot_self _ _ (PlanSlot.ne_of_image (i := i) hi))⟩

theorem InStep.quantumEnds {n : Nat} {x : PlanSlot} (hs : InStep n x s) : InStep n x (s.quantumEnds n) := by
  unfold State.quantumEnds
  dsimp only
  split
  · exact hs
  · exact hs.setSlot.after (slotGates_keeps _ _ _)

/-- A tick of a slot that runs or has slipped, with nothing pending and no halt known, performs one plan tick (R115, R116). -/
theorem planStep_of_quiet {n : Nat} {slacks : List (Nat × Int)} {i : PlanImage} (hw : s.power.containWaits = [])
    (hi : (s.slot n).image = some i) (hst : (s.slot n).state = .running ∨ (s.slot n).state = .slipping)
    (hrem : (s.slot n).remaining = 0) (hp : (s.slot n).pending = []) (hh : (s.slot n).halts = [])
    (hc : i.rotationCount = 0 ∨ (s.slot n).planTick < i.rotationCount * i.rotationTicks) :
    InStep n { s.slot n with state := .running, planTick := (s.slot n).planTick + 1, lastTick := (s.slot n).lastTick + 1 }
      (s.planStep n slacks) := by
  unfold State.planStep
  extract_lets +onlyGivenNames x
  split
  · next hn => cases hn.symm.trans hi
  · next j hj =>
    obtain rfl : j = i := Option.some.inj (hj.symm.trans hi)
    rw [if_neg (by simp [x]; tauto), if_neg (by simp [x]; omega)]
    extract_lets +onlyGivenNames tick s1 due
    have hdue : due = false := by simp only [due, x, hh, winner_nil]
    rw [if_neg (by simp [hdue]), if_pos hrem]
    extract_lets +onlyGivenNames s2 y first
    have hslot1 : s1.slot n = { x with lastTick := tick } := slot_setSlot_self _ _ (PlanSlot.ne_of_image (i := j) hi)
    obtain ⟨tokens, late, h2⟩ := quantumEnds_slot (s := s1) (n := n) (i := j) (by rw [hslot1]; exact hi)
    rw [hslot1] at h2
    have hrem2 : y.remaining = 0 := (congrArg PlanSlot.remaining h2).trans hrem
    have hp2 : y.pending = [] := (congrArg PlanSlot.pending h2).trans hp
    have hfirst : first = none := by simp [first, hp2]
    have hs1 : InStep n { x with lastTick := tick } s1 :=
      ⟨⟨j, hi⟩, congrArg PlanSlot.place hslot1, (congrArg _ ((atTick_keeps s tick).power (by simp))).trans hw⟩
    have hs2 : InStep n { x with lastTick := tick } s2 := hs1.quantumEnds
    rw [hfirst]
    dsimp only
    rw [if_neg (by rw [hrem2]; exact Nat.lt_irrefl 0)]
    exact (hs2.runs.performTick (slacks := slacks)).ticks.slipIssue

theorem gives_planTick {n : Nat} {slacks : List (Nat × Int)} {i : PlanImage} (hrun : s.running = true) (hw : s.power.containWaits = [])
    (hi : (s.slot n).image = some i) (hst : (s.slot n).state = .running) (hrem : (s.slot n).remaining = 0)
    (hp : (s.slot n).pending = []) (hh : (s.slot n).halts = [])
    (hc : i.rotationCount = 0 ∨ (s.slot n).planTick < i.rotationCount * i.rotationTicks) :
    Gives (.planTick n slacks) s (fun t =>
      (t.slot n).planTick = (s.slot n).planTick + 1 ∧ (t.slot n).lastTick = (s.slot n).lastTick + 1) := by
  have h := planStep_of_quiet (s := s.begin) (slacks := slacks) hw hi (.inl hst) hrem hp hh hc
  exact gives_of_contained hrun rfl rfl h.waits ⟨congrArg (·.2.2.1) h.place, congrArg (·.2.2.2) h.place⟩

theorem gives_slipQuantumEnd {n : Nat} {i : PlanImage} (hrun : s.running = true) (hw : s.power.containWaits = [])
    (hi : (s.slot n).image = some i) (hst : (s.slot n).state = .slipping) (hrem : (s.slot n).remaining = 0)
    (hp : (s.slot n).pending = []) (hh : (s.slot n).halts = [])
    (hc : i.rotationCount = 0 ∨ (s.slot n).planTick < i.rotationCount * i.rotationTicks) :
    Gives (.slipQuantumEnd n) s (fun t => (t.slot n).state = .running ∧ (t.slot n).planTick = (s.slot n).planTick + 1) := by
  have h := planStep_of_quiet (s := s.begin) (slacks := []) hw hi (.inr hst) hrem hp hh hc
  exact gives_of_contained hrun rfl (if_pos ⟨hst, hrem⟩) h.waits ⟨congrArg (·.2.1) h.place, congrArg (·.2.2.1) h.place⟩

/-- Settles O28, clause by clause. -/
theorem planRunsSlipsAndHalts : Obligations.PlanRunsSlipsAndHalts :=
  ⟨fun _ _ _ _ hrun hw ha hc hi _ => gives_planDisarm hrun hw ha hc hi,
    fun _ _ _ _ hrun hw hs hi hst hlate => gives_disarmReceived hrun hw hs hi hst hlate,
    fun _ _ _ hrun ha hc hi => gives_planHaltBoundary hrun ha hc hi,
    fun _ _ _ hrun ha hc hi => gives_planHaltNow hrun ha hc hi,
    fun _ _ _ _ hrun hw hi hst hrem hp hh hc => gives_planTick hrun hw hi hst hrem hp hh hc,
    fun _ _ _ hrun hw hi hst hrem hp hh hc => gives_slipQuantumEnd hrun hw hi hst hrem hp hh hc,
    fun _ _ _ hrun hw hi hst hc hd => gives_rotationsComplete hrun hw hi hst hc hd,
    fun _ _ _ _ _ hrun hst hd => gives_latenessReport hrun hst hd,
    fun _ _ _ _ hrun hs hi hseen hl htime hh hp ha => gives_slipToken hrun hs hi hseen hl htime hh hp ha,
    fun _ _ _ _ _ hrun hw hs hi hseen hl hlate => gives_haltToken hrun hw hs hi hseen hl hlate,
    fun _ _ _ _ hrun hw hi hk hl hdue => gives_haltTakesEffect hrun hw hi hk hl hdue⟩

/-! ### O29: fabric time (R120-R123, R144, R475) -/

/-! A lock state is one of the things that chapter 03 holds (R122). -/

theorem putPlans_keeps (s : State) (q : PlansState) : Keeps [.plans] s { s with plans := q } := Keeps.refl _ s
theorem setLock_keeps (s : State) (l : LockState) : Keeps [.plans] s (s.setLock l) := Keeps.refl _ s

/-- A choice of a parent changes the parent's objects and the lock, and nothing of what was heard on the ports. -/
theorem chooseParent_keeps (s : State) : Keeps [.plans, .dict] s s.chooseParent ∧ s.chooseParent.plans.ports = s.plans.ports := by
  have hset : ∀ a b : Nat, Keeps [.plans, .dict] s ((s.setNum O.timeParentPort a).setNum O.timeHops b) := fun a b =>
    ((setNum_keeps _ _ _).trans (setNum_keeps _ _ _)).mono (by simp)
  have hlock : ∀ (u : State) (l : LockState), Keeps [.plans, .dict] u (u.setLock l) := fun u l => (setLock_keeps u l).mono (by simp)
  unfold State.chooseParent
  extract_lets root
  split
  · exact ⟨(hset _ _).trans (hlock _ _), rfl⟩
  · split
    · split
      · exact ⟨(hset _ _).trans (hlock _ _), rfl⟩
      · exact ⟨hset _ _, rfl⟩
    · extract_lets +onlyGivenNames keep s1
      have hs1 : Keeps [.plans, .dict] s s1 ∧ s1.plans.ports = s.plans.ports := by
        unfold s1
        split
        · exact ⟨Keeps.refl _ s, rfl⟩
        · exact ⟨hset _ _, rfl⟩
      split
      · exact hs1
      · exact ⟨hs1.1.trans ((hlock _ _).trans ((putPlans_keeps _ _).mono (by simp))), hs1.2⟩

theorem gives_timeSyncInterval (hrun : s.running = true) :
    Gives .timeSyncInterval s (fun t => t.now = s.now + usUnits (s.num O.syncIntervalUs 8) ∧ t.plans.ports = [] ∧
      Keeps [.plans, .dict, .now, .ftc] s t) := by
  refine gives_of_running hrun rfl rfl ?_
  extract_lets t0 p missed _ t1 t2 t3
  have hk0 : Keeps [.now, .ftc, .dict] s.begin t0 := elapse_keeps _ _
  have hk2 : Keeps [.plans] t0 t2 ∧ t2.plans.ports = [] := by
    unfold t2
    split
    · exact ⟨(putPlans_keeps _ _).trans (setLock_keeps _ _), rfl⟩
    · exact ⟨putPlans_keeps _ _, rfl⟩
  obtain ⟨hk3, hports⟩ := chooseParent_keeps t2
  have hk : Keeps [.plans, .dict] t0 t3 := (hk2.1.mono (by simp)).trans hk3
  have hnow : t0.now = s.now + usUnits (s.num O.syncIntervalUs 8) :=
    (elapse_now s.begin _).trans (Nat.max_eq_right (Nat.le_add_right _ _))
  suffices h : ∀ t4, Keeps [] t3 t4 → t4.now = s.now + usUnits (s.num O.syncIntervalUs 8) ∧ t4.plans.ports = [] ∧
      Keeps [.plans, .dict, .now, .ftc] s t4 from h _ (Keeps.foldl (fun u _ => emit_keeps u _) _ _)
  intro t4 h4
  have hk4 : Keeps [.plans, .dict] t0 t4 := hk.trans (h4.mono (by simp))
  refine ⟨(hk4.now (by simp)).trans hnow, ?_, .of_begin ((hk0.mono (by simp)).trans (hk4.mono (by simp)))⟩
  rw [h4.plans (by simp)]
  exact hports.trans hk2.2

/-! A TIME flit is heard: its timestamps are kept with its port, and the port counts as heard in this interval (R121, R475). -/

def State.hearTime (s : State) (p : Nat) (x : Port) : State :=
  { s with
    links := { s.links with ports := Store.write ({} : Port) s.links.ports p x }
    plans := { s.plans with ports := Store.write ({} : TimePort) s.plans.ports p { heard := true } } }

theorem timeHeard_hears (s : State) (p txFtc echoTx echoRx arrival : Nat) :
    ∃ d, let x : Port := { Store.read ({} : Port) s.links.ports p with delay := d, timeRx := (txFtc, arrival) }
      Keeps [.plans, .dict, .ftc] (s.hearTime p x) (s.timeHeard p txFtc echoTx echoRx arrival) ∧
      (s.timeHeard p txFtc echoTx echoRx arrival).plans.ports = (s.hearTime p x).plans.ports := by
  unfold State.timeHeard
  extract_lets +onlyGivenNames x paired l delay _ _ t1 t2
  refine ⟨delay, ?_⟩
  have hk2 : Keeps [.plans, .dict, .ftc] t1 t2 := (setNum_keeps _ _ _).mono (by simp)
  have hput : ∀ (u : State) (q : PlansState), Keeps [.plans, .dict, .ftc] u { u with plans := q } := fun u q => Keeps.refl _ u
  have hlock : ∀ (u : State) (l : LockState), Keeps [.plans, .dict, .ftc] u (u.setLock l) := fun u l => Keeps.refl _ u
  split
  · exact ⟨hk2, rfl⟩
  · extract_lets +onlyGivenNames parent
    split
    · exact ⟨hk2.trans (Keeps.refl _ t2), rfl⟩
    · extract_lets off good t3 _ _ q t4
      have hk4 : Keeps [.plans, .dict, .ftc] t1 t4 := (hk2.trans ((setNum_keeps _ _ _).mono (by simp))).trans (hput _ _)
      have hset : ∀ (c : Prop) [Decidable c] (k : LockState), Keeps [.plans, .dict, .ftc] t1 (if c then t4.setLock k else t4) ∧
          (if c then t4.setLock k else t4).plans.ports = t1.plans.ports := by
        intro c _ k
        split
        · exact ⟨hk4.trans (hlock _ _), rfl⟩
        · exact ⟨hk4, rfl⟩
      split
      · exact hset _ _
      · exact hset _ _
      · exact hset _ _
      · exact ⟨hk4, rfl⟩

theorem gives_timeFlit {port txFtc echoTx echoRx arrival : Nat} (hrun : s.running = true) (hup : s.linkUp port = true) :
    Gives (.timeFlit port txFtc echoTx echoRx arrival) s (fun t =>
      (Store.read ({} : Port) t.links.ports port).timeRx = (txFtc, arrival) ∧
      (Store.read ({} : TimePort) t.plans.ports port).heard = true ∧ Keeps [.plans, .links, .dict, .ftc] s t) := by
  have hmode : (Store.read ({} : Port) s.links.ports port).mode = .opvitik := by
    simp [State.linkUp] at hup
    exact hup.2
  obtain ⟨d, hk, hports⟩ := timeHeard_hears s.begin port txFtc echoTx echoRx arrival
  refine gives_of_running hrun rfl (if_pos hup) ⟨?_, ?_, .of_begin (.trans ?_ (hk.mono (by simp)))⟩
  · rw [hk.links (by simp)]
    refine congrArg Port.timeRx (read_write_self _ _ fun he => ?_)
    have hdisabled := congrArg Port.mode he
    exact absurd (hmode.symm.trans hdisabled) (by decide)
  · rw [hports]
    exact congrArg TimePort.heard (read_write_self _ _ (by decide))
  · exact Keeps.refl _ s.begin

/-! The loss of the lock faults the live slots, and leaves the lock UNLOCKED (R122, R123). -/

theorem knowHalt_lock (s : State) (n : Nat) (h : HaltToken) : (s.knowHalt n h).plans.lock = s.plans.lock := by
  cases hi : (s.slot n).image with
  | none => rw [knowHalt_of_no_image hi]
  | some i => obtain ⟨ps, hk⟩ := knowHalt_of_image (h := h) hi; rw [hk]; rfl

theorem issueHalt_lock (s : State) (n : Nat) (cause : HaltCause) (byRotation injected : Bool) :
    (s.issueHalt n cause byRotation injected).plans.lock = s.plans.lock := by
  unfold State.issueHalt
  dsimp only
  split
  · rfl
  · split
    · rfl
    · rw [(emits_keeps _ _ _).plans (by simp), knowHalt_lock]
      rfl

theorem planStop_lock (s : State) (n : Nat) (cause : HaltCause) (faulted : Bool) :
    (s.planStop n cause faulted).plans.lock = s.plans.lock := by
  cases hi : (s.slot n).image with
  | none => simp only [State.planStop, hi]
  | some i => rw [(planStop_of_image cause faulted hi).plans (by simp)]; rfl

theorem planContain_lock (s : State) (n : Nat) (cause : HaltCause) : (s.planContain n cause).plans.lock = s.plans.lock := by
  unfold State.planContain
  split
  · exact (planStop_lock _ _ _ _).trans (issueHalt_lock _ _ _ _ _)
  · rfl

theorem planContain_containWaits (s : State) (n : Nat) (cause : HaltCause) :
    (s.planContain n cause).power.containWaits = s.power.containWaits := by
  unfold State.planContain
  split
  · exact (planStop_containWaits _ _ _ _).trans (congrArg _ ((issueHalt_keeps _ _ _ _ _).power (by simp)))
  · rfl

theorem timeLost_lock (s : State) : s.timeLost.plans.lock = .unlocked :=
  List.foldlRecOn _ _ (motive := fun t : State => t.plans.lock = .unlocked) rfl fun _ h _ _ => (planContain_lock _ _ _).trans h

theorem timeLost_containWaits (s : State) : s.timeLost.power.containWaits = s.power.containWaits :=
  List.foldlRecOn _ _ (motive := fun t : State => t.power.containWaits = s.power.containWaits) rfl fun _ h _ _ =>
    (planContain_containWaits _ _ _).trans h

theorem gives_holdoverExpiry (hrun : s.running = true) (hw : s.power.containWaits = []) (hl : s.plans.lock = .holdover) :
    Gives .holdoverExpiry s (fun t => t.plans.lock = .unlocked ∧ s.plans.holdoverAt + usUnits (s.num O.holdoverLimitUs 1000) ≤ t.now) := by
  let u : State := s.begin.elapse (s.plans.holdoverAt + usUnits (s.num O.holdoverLimitUs 1000))
  have hnow : s.plans.holdoverAt + usUnits (s.num O.holdoverLimitUs 1000) ≤ u.now := (elapse_now s.begin _).symm ▸ Nat.le_max_right _ _
  refine gives_of_contained hrun rfl (u := u.timeLost) (if_neg (not_not.mpr hl)) ?_ ⟨timeLost_lock u, ?_⟩
  · exact (timeLost_containWaits u).trans ((congrArg _ (elapse_power _ _)).trans hw)
  · exact hnow.trans (Steady.refl u).timeLost.now

theorem gives_ftcSet {p : DictPath} {v : Word64} (hrun : s.running = true) (hv : v.toNat % 32 = 0) (hroot : s.nodeId = s.timeRoot)
    (hset : s.timeRoot ≠ 0xFFFF) (hlive : s.liveSlots = []) :
    Gives (.ftcSet p v) s (fun t => t.ftc = v.toNat ∧ Answers t .ok ∧ Keeps [.ftc, .mgmt, .freeCounter] s t) := by
  have he : s.begin.ftcSet p v.toNat =
      ({ (s.begin.takeArm (.dict p) O.ftcSet).2 with ftc := v.toNat } : State).answer served := by
    have hbusy : ¬(s.begin.nodeId ≠ s.begin.timeRoot ∨ s.begin.timeRoot = 0xFFFF ∨ (!s.begin.liveSlots.isEmpty) = true) := by
      show ¬(s.nodeId ≠ s.timeRoot ∨ s.timeRoot = 0xFFFF ∨ (!s.liveSlots.isEmpty) = true)
      simp [hroot, hset, hlive]
    simp only [State.ftcSet, State.openWrite, hv, ne_eq, not_true_eq_false, if_false, if_neg hbusy, Bool.false_and, Bool.false_eq_true]
  refine gives_of_running hrun rfl he ⟨rfl, rfl, .of_begin (.trans ((takeArm_keeps _ (.dict p) O.ftcSet).mono (by simp)) ?_)⟩
  exact Keeps.refl _ (s.begin.takeArm (.dict p) O.ftcSet).2

/-- Settles O29, clause by clause. -/
theorem fabricTimeKeepsStep : Obligations.FabricTimeKeepsStep :=
  ⟨fun _ hrun => gives_timeSyncInterval hrun, fun _ _ _ _ _ _ hrun hup => gives_timeFlit hrun hup,
    fun _ hrun hw hl => gives_holdoverExpiry hrun hw hl, fun _ _ _ hrun hv hroot hset hlive => gives_ftcSet hrun hv hroot hset hlive⟩

end Sys2Proof.Machine
end


/-! # Florets

Sitting of the family 04_florets: O16, O17 and O31 to O34. Packed data is read off the number its bits make (`packBits`). O31 to O34 are
refuted in one state: an entry of a plan runs in a cluster that no plan has claimed, and its next bundle lies past cluster SRAM. `Issues`
bounds the bundle only where a plan has claimed the cluster; `issueSlot` bounds it wherever an entry runs, so the slot there is a program
error of the entry (R152, R176) and writes no result. -/

section
namespace Sys2Proof.Machine
variable {s t : State}

/-! ### O16: packed data (R168) -/

@[simp] theorem natLe_length (n v : Nat) : (natLe n v).length = n := by
  induction n generalizing v with
  | zero => rfl
  | succ n ih => simp [natLe, ih]

/-- The low bytes of a number, read again, are the number as far as they reach. -/
theorem leNat_natLe (n v : Nat) : leNat (natLe n v) = v % 256 ^ n := by
  induction n generalizing v with
  | zero => simp [natLe, leNat, Nat.mod_one]
  | succ n ih => rw [natLe, leNat, ih, BitVec.toNat_ofNat, pow_succ' 256 n, Nat.mod_mul]

theorem packBits_lt (w : Nat) (xs : List Nat) : packBits w xs < 2 ^ (w * xs.length) := by
  induction xs with
  | nil => simp [packBits]
  | cons x xs ih =>
    have hx : x % 2 ^ w < 2 ^ w := Nat.mod_lt _ (by positivity)
    calc x % 2 ^ w + 2 ^ w * packBits w xs
        < 2 ^ w * (packBits w xs + 1) := by rw [mul_add_one]; omega
      _ ≤ 2 ^ w * 2 ^ (w * xs.length) := Nat.mul_le_mul_left _ ih
      _ = 2 ^ (w * (x :: xs).length) := by rw [List.length_cons, ← pow_add]; ring

/-- The bytes hold every bit. -/
theorem leNat_packElems (w : Nat) (xs : List Nat) : leNat (packElems w xs) = packBits w xs := by
  rw [packElems, leNat_natLe, Nat.mod_eq_of_lt]
  calc packBits w xs < 2 ^ (w * xs.length) := packBits_lt w xs
    _ ≤ 2 ^ (8 * ((w * xs.length + 7) / 8)) := Nat.pow_le_pow_right (by omega) (by omega)
    _ = 256 ^ ((w * xs.length + 7) / 8) := pow_mul 2 8 _

theorem packedElem_packBits (w : Nat) {xs : List Nat} {n : Nat} (hn : n < xs.length) :
    packedElem (packBits w xs) w n = xs.getD n 0 % 2 ^ w := by
  induction xs generalizing n with
  | nil => simp at hn
  | cons x xs ih =>
    have hw : 0 < 2 ^ w := by positivity
    cases n with
    | zero => simp [packedElem, packBits]
    | succ n =>
      have hrest : (x % 2 ^ w + 2 ^ w * packBits w xs) / 2 ^ w = packBits w xs := by
        rw [Nat.add_mul_div_left _ _ hw, Nat.div_eq_of_lt (Nat.mod_lt _ hw), Nat.zero_add]
      rw [packedElem, packBits, mul_add_one, add_comm (w * n), pow_add, ← Nat.div_div_eq_div_mul, hrest, List.getD_cons_succ,
        ← ih (by simpa using hn), packedElem]

theorem unpackElems_getD (w : Nat) {n k : Nat} (bs : List Byte) (hk : k < n) :
    (unpackElems w n bs).getD k 0 = packedElem (leNat bs) w k := by simp [unpackElems, hk]

/-- Settles O16: the elements are the digits, in base 2 to the width, of the number that the bytes make. -/
theorem packedElementsAreABitStream : Obligations.PackedElementsAreABitStream := by
  have hwidth : ∀ w n : Nat, w * (n + 1) - w * n = w := fun w n => by rw [mul_add_one]; omega
  refine ⟨fun w xs => natLe_length _ _, fun w n xs hn => ?_, fun w n k bs hk => ?_,
    fun a b c d => natLe_length ((6 * 4 + 7) / 8) _, fun a b => ?_⟩
  · rw [leNat_packElems, hwidth]; exact packedElem_packBits w hn
  · rw [hwidth]; exact unpackElems_getD w bs hk
  · simp [packElems, packBits, natLe]

/-! ### O17: the wired registers (R146) -/

@[simp] theorem FloretRegs.s_zero (r : FloretRegs) : r.s 0 = 0 := rfl
@[simp] theorem FloretRegs.m_zero (r : FloretRegs) : r.m 0 = BitVec.allOnes 64 := rfl

/-- Settles O17: neither register is stored. -/
theorem floretRegistersReadAsWired : Obligations.FloretRegistersReadAsWired := fun _ _ => ⟨FloretRegs.s_zero _, FloretRegs.m_zero _⟩

/-! ### A slot that issues (R150, R151) -/

/-- The state in which a slot acts: nothing answered yet, and the bundle begun that the slot starts. -/
def State.bundleTurn (s : State) (i : SlotIn) : State :=
  if s.startsBundle i then (s.begin.setFloret i.floret { s.floret i.floret with stall := none }).newBundle i.floret else s.begin

theorem Floret.ne_of_work {x : Floret} (h : x.work.isSome = true) : x ≠ {} := by
  rintro rfl
  exact absurd h (by decide)

theorem floret_setFloret_self (s : State) (f : Nat) {x : Floret} (hx : x ≠ {}) : (s.setFloret f x).floret f = x := read_write_self _ _ hx

/-- A new bundle reads the registers as they stand, and the bundle after it comes next. -/
theorem newBundle_floret {f : Nat} (hwork : (s.floret f).work.isSome = true) :
    (s.newBundle f).floret f = { s.floret f with
      atIssue := (s.floret f).regs, wrote := [], bundle := (s.floret f).next, next := ((s.floret f).next + 32) % 2 ^ 32, fresh := false } :=
  floret_setFloret_self s f (Floret.ne_of_work hwork)

/-- The Floret still executes its work, and the bundle is the slot's. -/
theorem bundleTurn_floret {i : SlotIn} (hwork : (s.floret i.floret).work.isSome = true) :
    ((s.bundleTurn i).floret i.floret).work = (s.floret i.floret).work ∧
      ((s.bundleTurn i).floret i.floret).bundle = s.slotBundle i := by
  unfold State.bundleTurn State.slotBundle
  split
  · have hx := floret_setFloret_self s.begin i.floret (x := { s.floret i.floret with stall := none }) (Floret.ne_of_work hwork)
    rw [newBundle_floret (by rw [hx]; exact hwork), hx]
    exact ⟨rfl, rfl⟩
  · exact ⟨rfl, rfl⟩

/-- The row is a slot of a bundle: what it does, it does as it issues. -/
def IsSlot (c : Instr) (i : SlotIn) : Prop := ∀ s, ∃ k eff, exec c s = s.issueSlot i k eff

theorem isSlot_vadd (i : SlotIn) (w : BitVec 64) : IsSlot (.vadd i w) i := fun s => by
  change ∃ k eff, execVadd i w s = s.issueSlot i k eff
  unfold execVadd State.vecLanes State.vector1
  exact ⟨_, _, rfl⟩

theorem isSlot_vcvt (i : SlotIn) (w : BitVec 64) : IsSlot (.vcvt i w) i := fun s => by
  change ∃ k eff, execVcvt i w s = s.issueSlot i k eff
  unfold execVcvt State.vector1
  exact ⟨_, _, rfl⟩

theorem isSlot_br (i : SlotIn) (w : BitVec 24) : IsSlot (.br i w) i := fun s => by
  change ∃ k eff, execBr i w s = s.issueSlot i k eff
  unfold execBr State.control
  exact ⟨_, _, rfl⟩

theorem isSlot_xRemoteIssue (i : SlotIn) (w : BitVec 48) : IsSlot (.xRemoteIssue i w) i := fun s => by
  change ∃ k eff, execXRemoteIssue i w s = s.issueSlot i k eff
  exact ⟨_, _, rfl⟩

/-- An entry's slot whose bundle lies past cluster SRAM is a program error of the entry, whatever the slot is (R152, R182). -/
theorem issueSlot_past_sram {i : SlotIn} {n e : Nat} (k : Slot) (eff : State → FloretRegs → Except Nat State) (hi : Issues s i)
    (hentry : (s.floret i.floret).work = some (.entry n e)) (hb : 0x200000 ≤ s.slotBundle i) :
    s.issueSlot i k eff = .next ((s.bundleTurn i).floretFault i.floret eAddress .none) := by
  obtain ⟨hrun, hwork, hend, hstart, -⟩ := hi
  obtain ⟨hturn, hbundle⟩ := bundleTurn_floret hwork
  have hstatic : (s.bundleTurn i).runsStatic i.floret = true := by rw [State.runsStatic, hturn, hentry]
  have hpast : 0x200000 ≤ ((s.bundleTurn i).floret i.floret).bundle := by rw [hbundle]; exact hb
  have hgo : ((s.floret i.floret).work.isNone || (s.floret i.floret).ending ||
      (s.startsBundle i && (s.stalled i.floret || s.dynamicHeld (i.floret / 16)))) = false := by
    cases hs : s.startsBundle i
    · simp [hend, hentry]
    · obtain ⟨hstall, hheld⟩ := hstart hs
      simp [hend, hentry, hstall, hheld]
  refine congrArg Host.Outcome.next ((whenRunning_begin _ hrun).trans ?_)
  refine (if_neg (Bool.not_eq_true _ ▸ hgo)).trans ?_
  exact if_pos ⟨hstatic, hpast⟩

theorem countUnit_keeps (s : State) (l : UnitLoc) (st : Status) : Keeps [.dict] s (s.countUnit l st) :=
  Keeps.ite (bump_keeps _ _) ((bump_keeps _ _).trans (bump_keeps _ _))

theorem unit_eq {l : UnitLoc} (h : t.power.units = s.power.units) : t.unit l = s.unit l := by rw [State.unit, h, ← State.unit]

theorem setUnit_faulted (s : State) (l : UnitLoc) : ((s.setUnit l { s.unit l with state := .faulted }).unit l).state = .faulted :=
  (unit_setUnit_state (.inl (by decide))).trans (if_pos rfl)

/-- A program error of an entry leaves its Floret FAULTED (R176): the fault record and the halt that follow keep the unit's state. -/
theorem floretFault_entry_unit {f n e : Nat} (code : Nat) (slot : Slot) (hentry : (s.floret f).work = some (.entry n e)) :
    ((s.floretFault f code slot).unit (floretLoc f)).state = .faulted := by
  unfold State.floretFault
  dsimp only
  split
  next h => exact absurd (h.symm.trans hentry) (by simp)
  next h => exact absurd (h.symm.trans hentry) (by simp)
  next n' e' h =>
    generalize hu : State.setUnit _ _ _ = u
    have hfaulted : (u.unit (floretLoc f)).state = .faulted := hu ▸ setUnit_faulted (State.setFloret _ f _) _
    generalize hv : State.fault _ _ _ _ _ _ = v
    have hpower : v.power = u.power := hv ▸
      ((fault_keeps _ _ _ _ _ _ _).power (by simp)).trans ((countUnit_keeps u _ _).power (by simp))
    have hv' : (v.unit (floretLoc f)).state = .faulted := by rw [unit_eq (congrArg PowerState.units hpower)]; exact hfaulted
    split
    · exact hv'
    · rw [unit_eq (congrArg PowerState.units ((issueHalt_keeps _ _ _ _ _).power (by simp)))]; exact hv'

/-- No slot of such an entry gives what keeps the units' states. -/
theorem not_gives_past_sram {i : SlotIn} {n e : Nat} {c : Instr} {P : State → Prop} (hi : Issues s i)
    (hentry : (s.floret i.floret).work = some (.entry n e)) (hb : 0x200000 ≤ s.slotBundle i)
    (hunit : (s.unit (floretLoc i.floret)).state ≠ .faulted) (hc : IsSlot c i) (hP : ∀ t, P t → t.power = s.power) : ¬ Gives c s P := by
  rintro ⟨t, ht, hp⟩
  obtain ⟨k, eff, hc⟩ := hc s
  obtain rfl := Host.Outcome.next.inj (ht.symm.trans (hc.trans (issueSlot_past_sram k eff hi hentry hb)))
  obtain ⟨hturn, -⟩ := bundleTurn_floret (i := i) (by rw [hentry]; rfl)
  have hfaulted := floretFault_entry_unit eAddress .none (hturn.trans hentry)
  rw [unit_eq (congrArg PowerState.units (hP _ hp))] at hfaulted
  exact hunit hfaulted

/-! ### O31 to O34: an entry in a cluster that no plan has claimed -/

/-- Floret 0 executes an entry of plan slot 0, no plan has claimed its cluster, and its next bundle is the first past cluster SRAM. -/
def strayEntry : State := State.reset.setFloret 0 { work := some (.entry 0 0), next := 0x200000 }

/-- Such a slot meets `Issues`, which looks at the bundle's address only in a cluster that a plan has claimed. -/
theorem strayEntry_issues : Issues strayEntry { floret := 0 } := by decide +kernel

/-- And the model refuses it, by the bundle's address, whatever it is. -/
theorem not_gives_strayEntry {c : Instr} {P : State → Prop} (hc : IsSlot c { floret := 0 })
    (hP : ∀ t, P t → t.power = strayEntry.power) : ¬ Gives c strayEntry P :=
  not_gives_past_sram strayEntry_issues (n := 0) (e := 0) (by decide +kernel) (by decide +kernel) (by decide +kernel) hc hP

theorem SetsRegs.power {i : SlotIn} {c : List Part} {g : FloretRegs → FloretRegs} (h : SetsRegs s t i c g) (hc : .power ∉ c) :
    t.power = s.power :=
  let ⟨_, _, hkeeps⟩ := h
  hkeeps.power (by simpa using hc)

/-- Refutes O31: VADD v0, v0, v0 of the stray entry meets the clause's hypotheses, is a program error and changes more than registers. -/
theorem not_vectorSlotResults : ¬ Obligations.VectorSlotResults := by
  rintro ⟨hvadd, -⟩
  exact not_gives_strayEntry (isSlot_vadd _ _) (fun _ hregs => SetsRegs.power hregs (by simp))
    (hvadd strayEntry { floret := 0 } 0x0100000000000000 strayEntry_issues (by decide) (by decide) (by decide +kernel))

/-- Refutes O32 in the same way: VCVT of the stray entry, which widens FP32. -/
theorem not_conversionLoadStoreAndMatrixResults : ¬ Obligations.ConversionLoadStoreAndMatrixResults := by
  rintro ⟨hwiden, -⟩
  exact not_gives_strayEntry (isSlot_vcvt _ _) (fun _ hregs => SetsRegs.power hregs (by simp))
    (hwiden strayEntry { floret := 0 } 0x0F00000010000001 strayEntry_issues (by decide) (by decide) (by decide +kernel) (by decide)
      (by decide))

/-- Refutes O33 in the same way: BR of the stray entry to its own bundle. -/
theorem not_controlSlotEffects : ¬ Obligations.ControlSlotEffects := by
  rintro ⟨hbr, -⟩
  exact not_gives_strayEntry (isSlot_br _ _) (fun _ ⟨_, hregs⟩ => hregs.power (by simp))
    (hbr strayEntry { floret := 0 } 0x080000 strayEntry_issues (by decide))

/-- Refutes O34 in the same way: the X slot of the stray entry, an ATOMIC that waits for nothing. -/
theorem not_floretOperationsAndTasks : ¬ Obligations.FloretOperationsAndTasks := by
  rintro ⟨hx, -⟩
  exact not_gives_strayEntry (isSlot_xRemoteIssue _ _) (fun _ ⟨_, _, _, hkeeps⟩ => hkeeps.power (by simp))
    (hx strayEntry { floret := 0 } 0x0C0000000400 strayEntry_issues (by decide) (by decide) (by decide) (by decide) (by decide)
      (by decide) (by decide +kernel) (by decide +kernel))

end Sys2Proof.Machine
end


/-! # Jobs of the hub compute units

Sitting of the family 05_in_fabric_compute: O35. What the shared accesses to memory leave alone, how a job reads after its table is written
and after it ends (`jobEnd_job`), and `SortedGather n s`, which says that job `n` is a GATHER with a sorted index list and is kept by all
the work such a job does. The lemmas named `gives_…` are the clauses of the statement. -/

section
namespace Sys2Proof.Machine
variable {s t : State}

/-! ### Accesses to the pool that the block makes (R300, R309, R317, R571) -/

theorem putPool_keeps (s : State) (q : PoolState) : Keeps [.pool] s { s with pool := q } := Keeps.refl _ s

theorem setPage_keeps (s : State) (n p : Nat) (r : Option PageRec) : Keeps [.pool] s (s.setPage n p r) := Keeps.refl _ s

theorem touchPage_keeps (s : State) (n p : Nat) : Keeps [.pool] s (s.touchPage n p) := by
  unfold State.touchPage
  split
  · exact Keeps.refl _ _
  · exact Keeps.ite ((setPage_keeps _ _ _ _).trans (putPool_keeps _ _)) (setPage_keeps _ _ _ _)

theorem touchRange_keeps (s : State) (n : Nat) (p : Partition) (off len tenant : Nat) (write : Bool) :
    Keeps [.pool, .dict] s (s.touchRange n p off len tenant write) :=
  Keeps.ite (Keeps.refl _ _) (Keeps.foldl
    (fun _ _ => ((touchPage_keeps _ _ _).mono (by simp)).trans ((meter_keeps _ _ _ _).mono (by simp))) _ _)

theorem used_keeps (s : State) (off len tenant : Nat) : Keeps [.pool, .dict] s (s.used off len tenant) := by
  unfold State.used
  split
  · exact Keeps.ite (touchRange_keeps _ _ _ _ _ _ _) (Keeps.refl _ _)
  · exact Keeps.refl _ _

theorem writeBlocks_keeps (s : State) (ok : Bool) (off : Nat) (bs : List Byte) (n : Nat) :
    Keeps [.mem, .pool] s (s.writeBlocks ok off bs n).2 := by
  induction n generalizing s ok off bs with
  | zero => exact Keeps.refl _ _
  | succ n ih =>
    have hmem : ∀ b, Keeps [.mem, .pool] s (s.memWrite off b) := fun b => (memWrite_keeps s off b).mono (by simp)
    unfold State.writeBlocks
    split
    · exact Keeps.refl _ _
    · refine Keeps.trans (Keeps.ite (Keeps.refl _ _) ?_) (ih _ _ _ _)
      exact Keeps.ite ((hmem _).trans ((putPool_keeps _ _).mono (by simp))) (hmem _)

theorem poolWrite_keeps (s : State) (off : Nat) (bs : List Byte) : Keeps [.mem, .pool] s (s.poolWrite off bs).2 := by
  unfold State.poolWrite
  split
  · exact (memWrite_keeps _ _ _).mono (by simp)
  · exact writeBlocks_keeps _ _ _ _ _

theorem ckptKeep_keeps (s : State) (n first count : Nat) : Keeps [.faults] s (s.ckptKeep n first count) := by
  refine Keeps.foldl (fun u _ => ?_) _ _
  split
  · exact Keeps.refl _ u
  · exact Keeps.refl _ u

theorem serviceWrite_keeps (s : State) (off : Nat) (bs : List Byte) (tenant : Nat) (use : PoolUse) :
    Keeps [.mem, .pool, .dict, .faults] s (s.serviceWrite off bs tenant use).2 := by
  unfold State.serviceWrite
  split
  · exact Keeps.refl _ _
  · split
    · exact Keeps.refl _ _
    · split
      · exact Keeps.refl _ _
      · exact ((ckptKeep_keeps _ _ _ _).mono (by simp)).trans
          (((poolWrite_keeps _ _ _).mono (by simp)).trans ((touchRange_keeps _ _ _ _ _ _ _).mono (by simp)))

theorem writeLocal_keeps (s : State) (i : Issuer) (tc : Nat) (addr : Word64) (bs : List Byte) :
    Keeps [.mem, .sram, .pool, .dict, .faults] s (s.writeLocal i tc addr bs).2 := by
  unfold State.writeLocal
  split
  · exact Keeps.refl _ _
  · split
    · exact Keeps.refl _ _
    · split
      · exact (serviceWrite_keeps _ _ _ _ _).mono (by simp)
      · split
        · split
          · exact Keeps.refl _ _
          · exact (sramWrite_keeps _ _ _).mono (by simp)
        · exact (emit_keeps _ _).mono (by simp)

/-- What a checkpoint keeps is no mark of the pool. -/
theorem firstPoison_eq (h : t.pool = s.pool) (off len : Nat) : t.firstPoison off len = s.firstPoison off len := by
  have hblock : t.blockPoisoned = s.blockPoisoned := by
    funext b
    simp only [State.blockPoisoned, State.partAt, State.page, h]
  rw [State.firstPoison, hblock, ← State.firstPoison]

theorem poolWrite_of_clean {off : Nat} {bs : List Byte} (h : s.firstPoison off bs.length = none) : (s.poolWrite off bs).1 = true := by
  simp [State.poolWrite, h]

/-- A write that the pool's checks let through and that meets no poison succeeds. -/
theorem serviceWrite_ok {off tenant : Nat} {bs : List Byte} {use : PoolUse} (hcheck : s.poolCheck off bs.length tenant none use = none)
    (hclean : s.firstPoison off bs.length = none) : (s.serviceWrite off bs tenant use).1 = .ok := by
  unfold State.serviceWrite
  rw [hcheck]
  dsimp only
  split
  · next hpart => simp [State.poolCheck, hpart] at hcheck
  · split
    · rfl
    · refine if_pos (poolWrite_of_clean ?_)
      have hpool : ∀ k f c, (s.ckptKeep k f c).pool = s.pool := fun k f c => by
        have := keeps_iff.mp (ckptKeep_keeps s k f c) .pool
        simpa [Part.same] using this
      rw [firstPoison_eq (hpool _ _ _), hclean]

/-! ### A job read after a write (R192) -/

theorem Job.ne_of_state {j : Job} (h : j.state ≠ .free) : j ≠ {} := by
  rintro rfl
  exact h rfl

theorem job_eq {n : Nat} (h : t.hcu.jobs = s.hcu.jobs) : t.job n = s.job n := by rw [State.job, h, ← State.job]

/-- A part that leaves chapter 05 alone leaves its jobs. -/
theorem Keeps.job {c : List Part} (h : Keeps c s t) (hc : .hcu ∉ c) (n : Nat) : t.job n = s.job n :=
  job_eq (congrArg HcuState.jobs (h.hcu hc))

theorem job_setJob_self (s : State) (n : Nat) {j : Job} (hj : j ≠ {}) : (s.setJob n j).job n = j := read_write_self _ _ hj

theorem setJob_keeps (s : State) (n : Nat) (j : Job) : Keeps [.hcu] s (s.setJob n j) := Keeps.refl _ s

theorem putHcu_keeps (s : State) (h : HcuState) : Keeps [.hcu] s { s with hcu := h } := Keeps.refl _ s

/-- Answers to a list of requests change what an answer changes. -/
theorem responds_keeps {α : Type} (r : α → Req) (a : Response) (l : List α) (s : State) :
    Keeps [.remote, .dict, .freeCounter] s (l.foldl (fun (t : State) x => t.respond (r x) 0x21 a) s) :=
  Keeps.foldl (fun u x => respond_keeps u (r x) 0x21 a .hub) l s

/-! ### The end of a job (R201, R202, R215) -/

/-- A job that has ended: its cells, its staging and its unit are given back. -/
def Job.ended (j : Job) (final : JobState) (st : Status) (reason : Reason) : Job :=
  { j with state := final, status := st, reason := reason, ovfCells := 0, ovfUsed := 0, running := false, chunks := [] }

theorem dropInputs_job (s : State) (n m : Nat) : (s.dropInputs n).job m = s.job m :=
  (responds_keeps id _ _ _).job (by simp) m

theorem flushHeld_job (s : State) (n m : Nat) : (s.flushHeld n).job m = s.job m :=
  (responds_keeps HeldPut.req _ _ _).job (by simp) m

theorem jobRelinquish_job {n : Nat} (h : (s.job n).state ≠ .free) : (s.jobRelinquish n).job n =
    { s.job n with ovfCells := 0, ovfUsed := 0, running := false, chunks := [] } := by
  unfold State.jobRelinquish
  extract_lets +onlyGivenNames j _ _ s1 _ s2
  have hs1 : s1.hcu.jobs = s.hcu.jobs := by
    unfold s1
    split <;> rfl
  have hs2 : s2.job n = s.job n := by
    refine job_eq (Eq.trans ?_ hs1)
    unfold s2
    split <;> rfl
  rw [hs2]
  exact job_setJob_self _ _ (Job.ne_of_state h)

theorem jobPutBytes_keeps (s : State) (j : Job) (tc : Nat) (addr : Word64) (bs : List Byte) :
    Keeps [.mem, .sram, .pool, .dict, .faults] s (s.jobPutBytes j tc addr bs).2 := by
  unfold State.jobPutBytes
  split
  · exact writeLocal_keeps _ _ _ _ _
  · exact (emit_keeps _ _).mono (by simp)

/-- The report, the notify, the event and the word to the parent leave the job as it has ended. -/
theorem jobEnd_job {n : Nat} {final : JobState} (st : Status) (reason : Reason) (h : (s.job n).state ≠ .free) (hf : final ≠ .free) :
    (s.jobEnd n final st reason).job n = (s.job n).ended final st reason := by
  unfold State.jobEnd
  extract_lets s1 _ j s2 s3 s4 s5 s6
  have hs1 : s1.job n = { s.job n with ovfCells := 0, ovfUsed := 0, running := false, chunks := [] } := by
    rw [← dropInputs_job s n n] at h ⊢
    exact jobRelinquish_job h
  have hs2 : s2.job n = (s.job n).ended final st reason := by
    refine (job_setJob_self s1 n (Job.ne_of_state (j := j) hf)).trans ?_
    exact congrArg (fun x : Job => { x with state := final, status := st, reason := reason }) hs1
  have hs3 : s3.job n = s2.job n := (Keeps.ite (Keeps.refl _ _) (jobPutBytes_keeps s2 _ _ _ _)).job (by simp) n
  have hs4 : s4.job n = s3.job n := (notifyAddr_keeps _ _ _ _ _).job (by simp) n
  have hs5 : s5.job n = s4.job n := (eventOpen_keeps _ _ _ _ _ _).job (by simp) n
  have hs6 : s6.job n = s5.job n := (Keeps.ite (emit_keeps _ _) (Keeps.refl _ _)).job (by simp) n
  rw [flushHeld_job, hs6, hs5, hs4, hs3, hs2]

theorem live_ne_free {j : Job} (h : j.state = .waiting ∨ j.state = .opened) : j.state ≠ .free := by
  rcases h with h | h <;> simp [h]

theorem jobFault_job {n : Nat} (st : Status) (reason : Reason) (h : (s.job n).state = .waiting ∨ (s.job n).state = .opened) :
    (s.jobFault n st reason).job n = (s.job n).ended .faulted st reason := by
  rw [State.jobFault, if_pos h, jobEnd_job st reason (live_ne_free h) (by decide)]

/-! ### Operations on a job that arrive (R193, R194) -/

/-- An operation of this node that may not be posted, and is not, has its effect. -/
theorem homeOp_of_arrives {o : Operation} {mask : BitVec 8} {postedOk : Bool} (here : State → State) (h : Arrives s o mask)
    (hend : s.endpointNode (addrNode o.req.target) = false) (hp : o.req.posted = false) :
    s.homeOp o postedOk mask here = here s.begin := by
  have hno : ¬ (o.req.md &&& mask = 0 ∧ o.req.tc ≠ 0 ∧ s.endpointNode (addrNode o.req.target) = true) := by simp [hend]
  exact (if_pos h.1).trans ((if_neg hno).trans (front_of_arrives_not_posted here h hp))

variable {n : Nat}

/-- TARGET names dynamic job `n` as a JOB_CTL has to (R192, R193). -/
structure NamesJob (o : Operation) (n : Nat) : Prop where
  region : addrRegion o.req.target = 0
  offset : jobOffset o.req.target = 0
  length : o.length = 0
  number : jobNumber o.req.target = n
  dynamic : n < 3072

theorem jobCtl_of_names {o : Operation} {useLocal : Bool} {k : Nat → State → State} (h : NamesJob o n)
    (hl : useLocal = true ∨ o.req.localA = 0) : jobCtl o useLocal k s = k n s := by
  have hlocal : (!useLocal && decide (o.req.localA ≠ 0)) = false := by rcases hl with hl | hl <;> simp [hl]
  have hdyn := Nat.not_le.mpr h.dynamic
  simp only [jobCtl, h.region, h.offset, h.length, h.number, hlocal, hdyn, Bool.false_eq_true, ne_eq, not_true_eq_false, or_self,
    if_false]

/-- One that is served is answered OK, with its RESULT. -/
theorem answered_served (s : State) {r : Req} (op : Nat) (v : Word64) {p : Response → Bool} (hr : r.posted = false)
    (hp : ∀ x : Response, x.status = .ok → x.result = v → p x = true) : Answered (s.respond r op (served .ok v)) r op p = true := by
  obtain ⟨x, hst, -, hres, hx⟩ := respond_response s op (served .ok v) .hub hr
  exact answered_of_mem hx (hp x hst hres)

/-! ### OPEN, ABORT and RELEASE (R194, R196, R197) -/

/-- The state in which a record opens its job: WAITING in an AIR mode (R212). -/
def openedState (record : List Byte) : JobState :=
  if Job.kind { record := record } = 1 ∧ Job.air { record := record } then .waiting else .opened

theorem openedState_ne_free (record : List Byte) : openedState record ≠ .free := by
  unfold openedState
  split <;> decide

/-- The job that is open is the record's, of its tenant and the next epoch. -/
theorem startJob_job (s : State) (n tenant tc : Nat) (slot : Option Nat) (record : List Byte) : ∃ cells unit,
    (s.startJob n tenant tc slot record).job n =
      { state := openedState record, epoch := nextEpoch (s.job n).epoch, tenant := tenant, record := record, tc := tc, slot := slot
        activeAt := s.now, ovfCells := cells, servedBy := unit } := by
  unfold State.startJob
  extract_lets old j st unit s1
  have hs1 : s1.job n = { j with state := st, ovfCells := j.f 32 4, servedBy := unit } :=
    job_setJob_self _ _ (Job.ne_of_state (openedState_ne_free record))
  refine ⟨j.f 32 4, unit, Eq.trans (job_eq ?_) hs1⟩
  split
  · split <;> rfl
  · cases unit <;> rfl

theorem startJob_keeps (s : State) (n tenant tc : Nat) (slot : Option Nat) (record : List Byte) :
    Keeps [.hcu] s (s.startJob n tenant tc slot record) := by
  unfold State.startJob
  extract_lets old j st unit s1
  have hs1 : Keeps [.hcu] s s1 := setJob_keeps _ _ _
  split
  · exact Keeps.ite hs1 (hs1.trans (putHcu_keeps s1 _))
  · cases unit with
    | none => exact hs1
    | some k => exact hs1.trans (putHcu_keeps s1 _)

/-! What an open asks of the units does not look at what is answered. -/

theorem shortest_begin (s : State) (l : List Nat) : s.begin.shortest l = s.shortest l := by
  induction l with
  | nil => rfl
  | cons k l ih =>
    rw [State.shortest, State.shortest, ih]
    rfl

theorem unitFor_begin (s : State) (j : Job) : s.begin.unitFor j = s.unitFor j := by
  simp only [State.unitFor, shortest_begin]
  rfl

theorem openBad_begin (s : State) (tenant : Nat) (j : Job) : s.begin.openBad tenant j = s.openBad tenant j := by
  simp only [State.openBad, State.unitsBad, unitFor_begin]
  rfl

/-- OPEN of a FREE job, with a record that passes (R194, R196, R197). -/
theorem gives_jobOpen {o : Operation} {rc : List Byte} (h : Arrives s o 0xF0)
    (hend : s.endpointNode (addrNode o.req.target) = false) (hp : o.req.posted = false) (hn : NamesJob o n)
    (hfree : (s.job n).state = .free) (halign : o.req.localA.toNat % 64 = 0)
    (hrange : s.hcuRange o.req.issuer.tenant o.req.localA 256 = none)
    (hread : s.serviceRead (addrOffset o.req.localA) 256 o.req.issuer.tenant .get = .ok rc)
    (hbad : s.openBad o.req.issuer.tenant { record := rc } = none) :
    Gives (.jobOpen o) s (fun t => (t.job n).state = openedState rc ∧ (t.job n).epoch = nextEpoch (s.job n).epoch ∧
      (t.job n).tenant = o.req.issuer.tenant ∧ (t.job n).record = rc ∧
      Answered t o.req o.op (fun r => decide (r.status = .ok ∧ r.result = BitVec.ofNat 64 (nextEpoch (s.job n).epoch))) = true ∧
      Keeps [.hcu, .remote, .pool, .dict, .freeCounter] s t) := by
  have hused := used_keeps s.begin (addrOffset o.req.localA) 256 o.req.issuer.tenant
  have hold : (s.begin.used (addrOffset o.req.localA) 256 o.req.issuer.tenant).job n = s.job n := hused.job (by simp) n
  generalize hu : s.begin.used (addrOffset o.req.localA) 256 o.req.issuer.tenant = u at *
  obtain ⟨cells, unit, hjob⟩ := startJob_job u n o.req.issuer.tenant o.req.tc none rc
  have hstart := startJob_keeps u n o.req.issuer.tenant o.req.tc none rc
  generalize hv : u.startJob n o.req.issuer.tenant o.req.tc none rc = v at *
  have hexec : exec (.jobOpen o) s = .next (v.respond o.req o.op (served .ok (BitVec.ofNat 64 (v.job n).epoch))) := by
    refine congrArg Host.Outcome.next ((homeOp_of_arrives _ h hend hp).trans ((jobCtl_of_names hn (.inl rfl)).trans ?_))
    have hfree' : (s.begin.job n).state = .free := hfree
    have hrange' : s.begin.hcuRange o.req.issuer.tenant o.req.localA 256 = none := hrange
    have hread' : s.begin.serviceRead (addrOffset o.req.localA) 256 o.req.issuer.tenant .get = .ok rc := hread
    have hbad' : s.begin.openBad o.req.issuer.tenant { record := rc } = none := (openBad_begin _ _ _).trans hbad
    simp only [hfree', halign, hrange', hread', hbad', hu, hv, ne_eq, not_true_eq_false, if_false]
  have hepoch : (v.job n).epoch = nextEpoch (s.job n).epoch := by rw [hjob, hold]
  rw [hepoch] at hexec
  have hresp := respond_keeps v o.req o.op (served .ok (BitVec.ofNat 64 (nextEpoch (s.job n).epoch))) .hub
  refine ⟨_, hexec, ?_⟩
  beta_reduce
  rw [hresp.job (by simp) n]
  refine ⟨by rw [hjob], hepoch, by rw [hjob], by rw [hjob], ?_, ?_⟩
  · exact answered_served v o.op _ hp fun x hst hres => decide_eq_true ⟨hst, hres⟩
  · exact Keeps.of_begin ((hused.mono (by simp)).trans ((hstart.mono (by simp)).trans (hresp.mono (by simp))))

/-- ABORT of a live job of the issuer's tenant (R197, R202). -/
theorem gives_jobAbort {o : Operation} (h : Arrives s o 0xF0) (hend : s.endpointNode (addrNode o.req.target) = false)
    (hp : o.req.posted = false) (hn : NamesJob o n) (hl : o.req.localA = 0)
    (hlive : (s.job n).state = .waiting ∨ (s.job n).state = .opened) (hten : (s.job n).tenant = o.req.issuer.tenant) :
    Gives (.jobAbort o) s (fun t => (t.job n).state = .faulted ∧
      (t.job n).status = (if o.operand1 = 0 then .flushed else statusOf (o.operand1.toNat % 256)) ∧
      Answered t o.req o.op (fun r => decide (r.status = .ok)) = true) := by
  generalize hst : (if o.operand1 = 0 then Status.flushed else statusOf (o.operand1.toNat % 256)) = st
  have hexec : exec (.jobAbort o) s = .next ((s.begin.jobFault n st).respond o.req o.op (served)) := by
    refine congrArg Host.Outcome.next ((homeOp_of_arrives _ h hend hp).trans ((jobCtl_of_names hn (.inr hl)).trans ?_))
    have hlive' : (s.begin.job n).state = .waiting ∨ (s.begin.job n).state = .opened := hlive
    have hten' : (s.begin.job n).tenant = o.req.issuer.tenant := hten
    simp only [hst, hten', State.jobAbort, hlive', if_true, ne_eq, not_true_eq_false, and_false, if_false]
  have hjob := jobFault_job (s := s.begin) st .none hlive
  refine ⟨_, hexec, ?_⟩
  beta_reduce
  rw [(respond_keeps _ _ _ _ _).job (by simp) n, hjob]
  exact ⟨rfl, rfl, answered_served _ _ _ hp fun x hst _ => decide_eq_true hst⟩

/-- RELEASE of a finished job of the issuer's tenant keeps its epoch (R194, R197). -/
theorem gives_jobRelease {o : Operation} (h : Arrives s o 0xF0) (hend : s.endpointNode (addrNode o.req.target) = false)
    (hp : o.req.posted = false) (hn : NamesJob o n) (hl : o.req.localA = 0)
    (hdone : (s.job n).state = .done ∨ (s.job n).state = .faulted) (hten : (s.job n).tenant = o.req.issuer.tenant)
    (hw : Store.wf ({} : Job) s.hcu.jobs = true) :
    Gives (.jobRelease o) s (fun t => t.job n = { epoch := (s.job n).epoch } ∧
      Answered t o.req o.op (fun r => decide (r.status = .ok)) = true ∧ Keeps [.hcu, .remote, .dict, .freeCounter] s t) := by
  have hexec : exec (.jobRelease o) s =
      .next ((s.begin.setJob n { epoch := (s.job n).epoch }).respond o.req o.op (served)) := by
    refine congrArg Host.Outcome.next ((homeOp_of_arrives _ h hend hp).trans ((jobCtl_of_names hn (.inr hl)).trans ?_))
    have hten' : (s.begin.job n).tenant = o.req.issuer.tenant := hten
    have hfree : (s.begin.job n).state ≠ .free := fun hf => by
      have hf' : (s.job n).state = .free := hf
      simp [hf'] at hdone
    have hlive : ¬ ((s.begin.job n).state = .waiting ∨ (s.begin.job n).state = .opened) := fun hl => by
      have hl' : (s.job n).state = .waiting ∨ (s.job n).state = .opened := hl
      rcases hdone with hd | hd <;> simp [hd] at hl'
    simp only [hfree, hten', hlive, ne_eq, not_true_eq_false, if_false]
    rfl
  refine ⟨_, hexec, ?_, ?_, ?_⟩
  · rw [(respond_keeps _ _ _ _ _).job (by simp) n]
    exact Store.read_write_same _ _ _ hw
  · exact answered_served _ _ _ hp fun x hst _ => decide_eq_true hst
  · exact Keeps.of_begin (((setJob_keeps _ _ _).mono (by simp)).trans ((respond_keeps _ _ _ _ _).mono (by simp)))

/-! ### JOB_PUT (R198, R199) -/

/-- The input positions that a JOB_PUT brings. -/
def Job.receipt (j : Job) (h : HeldPut) : Received :=
  let p := j.positions h.fmt (jobOffset h.req.target) h.data.length
  { contrib := h.contrib, lo := p.1, hi := p.2 }

/-- Its shares, and the overflow cells in which those of them are parked that cannot be consumed yet (R199). -/
def Job.sharesOf (j : Job) (h : HeldPut) : List (Nat × Nat × List Byte) := j.shares h.fmt (jobOffset h.req.target) h.data
def Job.cellsFor (j : Job) (h : HeldPut) : Nat :=
  ((j.sharesOf h).map (fun x => if j.ready x.1 x.2.1 then 0 else ceilDiv x.2.2.length 256)).sum

/-- A JOB_PUT of a REDUCE job that has the overflow cells it needs is accepted, and its positions are received. -/
theorem takePut_reduce {h : HeldPut} (key : Nat × Nat) (late : Bool) (hk : (s.job n).kind = 1)
    (hroom : (s.job n).ovfUsed + (s.job n).cellsFor h ≤ (s.job n).ovfCells) :
    ∃ u, s.takePut n h key late = some u ∧ (u.job n).received = (s.job n).received ++ [(s.job n).receipt h] ∧
      u.hcu.inputs.length = s.hcu.inputs.length + ((s.job n).sharesOf h).length ∧ Keeps [.hcu, .remote, .dict, .freeCounter] s u := by
  unfold State.takePut
  extract_lets j off sh firstReady cells p ins s1 s2
  have hs1 : (s1.job n).received = j.received ++ [j.receipt h] := by
    unfold s1
    rw [job_setJob_self]
    · rfl
    · exact fun he => List.append_ne_nil_of_right_ne_nil _ (List.cons_ne_nil _ _) (congrArg Job.received he)
  have hs2 : Keeps [.remote, .dict, .freeCounter] s1 s2 := Keeps.ite (respond_keeps _ _ _ _ _) (Keeps.refl _ _)
  have hfits : ¬ j.ovfCells < j.ovfUsed + cells := Nat.not_lt.mpr hroom
  rw [if_neg hfits, if_pos (.inl hk)]
  refine ⟨_, rfl, (congrArg Job.received (hs2.job (by simp) n)).trans hs1, ?_, ?_⟩
  · rw [List.length_append, List.length_map, hs2.hcu (by simp)]
    rfl
  · exact ((setJob_keeps _ _ _).mono (by simp)).trans ((hs2.mono (by simp)).trans ((putHcu_keeps s2 _).mono (by simp)))

/-- One that nothing refuses, and that waits behind no other of its port, is judged as it is taken. -/
theorem judgePut_takes {h : HeldPut} {u : State} (hbad : s.putBad n h = none) (hshut : s.putShut (s.job n) h = false)
    (hheld : s.hcu.held.any (fun x => decide (x.job = n) && decide (x.port = h.port)) = false)
    (htake : s.takePut n h (s.now, h.port) false = some u) : s.judgePut n h = u := by
  simp [State.judgePut, hbad, hshut, hheld, htake]

/-- A JOB_PUT of a REDUCE job, that nothing refuses and that has room (R198, R199). -/
theorem gives_jobPut {o : Operation} {port : Nat} {h : HeldPut} (hn : jobNumber o.req.target = n) (hput : heldOf s o n port = h)
    (ho : Arrives s o 0xFF) (hend : s.endpointNode (addrNode o.req.target) = false) (hp : o.req.posted = false)
    (hzero : zerosAt o.params 7 9 = true) (hfmt : fieldAt o.params 3 1 ≤ 6) (hflags : fieldAt o.params 6 1 < 32)
    (hr : addrRegion o.req.target = 0) (hlen : o.length ≠ 0) (hmax : o.length ≤ 2 ^ 24) (hk : (s.job n).kind = 1)
    (hbad : s.putBad n h = none) (hshut : s.putShut (s.job n) h = false)
    (hheld : s.hcu.held.any (fun x => decide (x.job = n) && decide (x.port = port)) = false)
    (hroom : (s.job n).ovfUsed + (s.job n).cellsFor h ≤ (s.job n).ovfCells) :
    Gives (.jobPut o port) s (fun t => (t.job n).received = (s.job n).received ++ [(s.job n).receipt h] ∧
      t.hcu.inputs.length = s.hcu.inputs.length + ((s.job n).sharesOf h).length ∧ Keeps [.hcu, .remote, .dict, .freeCounter] s t) := by
  subst hput
  obtain ⟨u, htake, hreceived, hinputs, hkeeps⟩ :=
    takePut_reduce (s := s.begin) (h := heldOf s o n port) (s.now, port) false hk hroom
  refine ⟨u, congrArg Host.Outcome.next ((homeOp_of_arrives _ ho hend hp).trans ?_), hreceived, hinputs, Keeps.of_begin hkeeps⟩
  have hfields : ¬ (zerosAt o.params 7 9 = false ∨ 6 < fieldAt o.params 3 1 ∨ 32 ≤ fieldAt o.params 6 1) := by
    simp only [hzero, Bool.true_eq_false, false_or]
    omega
  have hsize : ¬ (o.length = 0 ∨ 2 ^ 24 < o.length) := by omega
  simp only [hfields, hr, hsize, hn, ne_eq, not_true_eq_false, if_false]
  exact judgePut_takes (s := s.begin) (h := heldOf s o n port) hbad hshut hheld htake

/-- A job for which nothing waits has nothing that can go on. -/
theorem pumpJob_of_idle (hi : s.hcu.inputs.any (fun x => decide (x.job = n)) = false)
    (hh : s.hcu.held.any (fun x => decide (x.job = n)) = false) : s.pumpJob n = s := by
  have hinputs : ∀ q : JobInput → Bool, s.hcu.inputs.find? (fun x => decide (x.job = n) && q x) = none := fun q =>
    List.find?_eq_none.mpr fun x hx => by simp [by simpa using List.any_eq_false.mp hi x hx]
  have hheld : s.hcu.held.filter (fun x => decide (x.job = n)) = [] :=
    List.filter_eq_nil_iff.mpr (List.any_eq_false.mp hh)
  unfold State.pumpJob
  cases s.hcu.inputs.length + s.hcu.held.length with
  | zero => rfl
  | succ k =>
    have hfind := hinputs fun x => decide (x.cells ≠ 0) && (s.job n).ready x.chunk x.offset && !(s.shareShut (s.job n) x.chunk)
    simp only [← Bool.and_assoc] at hfind
    unfold State.pumpJobN
    simp only [hfind, hheld, heldHeads, List.find?_nil]

/-- A held JOB_PUT is given up: it ends with E_TIMEOUT, and CAPACITY is why it was held (R199). -/
def State.heldTimesOut (s : State) (x : HeldPut) : State :=
  (({ s with hcu := { s.hcu with held := s.hcu.held.erase x } } : State).bump O.heldTimeouts).respond x.req 0x21
    (refusal .timeout .capacity)

theorem heldTimesOut_hcu (s : State) (x : HeldPut) : (s.heldTimesOut x).hcu = { s.hcu with held := s.hcu.held.erase x } :=
  ((respond_keeps _ _ _ _ _).hcu (by simp)).trans ((bump_keeps _ _).hcu (by simp))

theorem heldTimesOut_keeps (s : State) (x : HeldPut) : Keeps [.hcu, .remote, .dict, .freeCounter] s (s.heldTimesOut x) :=
  ((putHcu_keeps s _).mono (by simp)).trans
    (((bump_keeps _ _).mono (by simp)).trans ((respond_keeps _ _ _ _ _).mono (by simp)))

theorem heldTimesOut_answered (s : State) (x : HeldPut) : Answered (s.heldTimesOut x) x.req 0x21
    (fun r => decide (r.status = .timeout ∧ r.disp = .refused ∧ r.reason = .capacity)) = true := by
  obtain ⟨r, hst, hdisp, hreason, hr⟩ := respond_answered
    (({ s with hcu := { s.hcu with held := s.hcu.held.erase x } } : State).bump O.heldTimeouts) x.req 0x21
    (a := refusal .timeout .capacity) .hub (by decide)
  exact answered_of_mem hr (decide_eq_true ⟨hst, hdisp, hreason⟩)

/-- A held JOB_PUT that reaches its limit, of a job for which nothing else waits. -/
theorem gives_heldJobPutTimeout {job n : Nat} {x : HeldPut} (hrun : s.running = true)
    (hx : (s.hcu.held.filter (fun h => decide (h.job = job)))[n]? = some x)
    (hi : s.hcu.inputs.any (fun y => decide (y.job = job)) = false)
    (hh : (s.hcu.held.erase x).any (fun y => decide (y.job = job)) = false) :
    Gives (.heldJobPutTimeout job n) s (fun t =>
      Answered t x.req 0x21 (fun r => decide (r.status = .timeout ∧ r.disp = .refused ∧ r.reason = .capacity)) = true ∧
      t.hcu.held = s.hcu.held.erase x ∧ x.deadline ≤ t.now ∧ Keeps [.hcu, .remote, .dict, .freeCounter, .now, .ftc] s t) := by
  have htime := elapse_keeps s.begin x.deadline
  have hkeeps := heldTimesOut_keeps (s.begin.elapse x.deadline) x
  have hhcu : ((s.begin.elapse x.deadline).heldTimesOut x).hcu = { s.hcu with held := s.hcu.held.erase x } := by
    rw [heldTimesOut_hcu, htime.hcu (by simp)]
    rfl
  refine gives_of_running (u := (s.begin.elapse x.deadline).heldTimesOut x) hrun rfl ?_
    ⟨heldTimesOut_answered _ x, by rw [hhcu], ?_, ?_⟩
  · have hx' : (s.begin.hcu.held.filter (fun h => decide (h.job = job)))[n]? = some x := hx
    simp only [hx']
    exact pumpJob_of_idle (s := (s.begin.elapse x.deadline).heldTimesOut x) (by rw [hhcu]; exact hi) (by rw [hhcu]; exact hh)
  · rw [hkeeps.now (by simp), elapse_now]
    exact Nat.le_max_right _ _
  · exact Keeps.of_begin ((htime.mono (by simp)).trans (hkeeps.mono (by simp)))

/-! ### The clauses about one job (R202, R212, R216) -/

/-- No input and no output for the idle limit (R202). -/
theorem gives_jobIdleTimeout {job : Nat} (hrun : s.running = true)
    (hlive : (s.job job).state = .waiting ∨ (s.job job).state = .opened) :
    Gives (.jobIdleTimeout job) s (fun t => (t.job job).state = .faulted ∧ (t.job job).status = .timeout) := by
  have hlive' : ¬ ((s.begin.job job).state ≠ .waiting ∧ (s.begin.job job).state ≠ .opened) := fun ⟨hw, ho⟩ => hlive.elim hw ho
  have hjob : ∀ d, ((s.begin.elapse d).jobFault job .timeout).job job = (s.job job).ended .faulted .timeout .none := fun d => by
    have hsame : (s.begin.elapse d).job job = s.job job := (elapse_keeps s.begin d).job (by simp) job
    rw [jobFault_job _ _ (by rw [hsame]; exact hlive), hsame]
  refine gives_of_running hrun rfl (if_neg hlive') ?_
  rw [hjob]
  exact ⟨rfl, rfl⟩

/-- The exponent vector is there (R212). -/
theorem gives_jobExponentReady {job : Nat} {v : List Byte} (hrun : s.running = true) (hst : (s.job job).state = .waiting)
    (hsync : (s.job job).f 92 4 ≤ (s.sync ((s.job job).f 88 2 % 2 ^ 14)).value.toNat)
    (hread : s.serviceRead (addrOffset ((s.job job).addr 80)) (ceilDiv (s.job job).elems (2 ^ (s.job job).f 51 1))
      (s.job job).tenant .get = .ok v) :
    Gives (.jobExponentReady job) s (fun t =>
      t.job job = { s.job job with state := .opened, expVec := some v, expCheck := crc32 v % 65536, activeAt := s.now } ∧
      Keeps [.hcu, .pool, .dict] s t) := by
  have hready : s.begin.expReady job = (s.begin.used (addrOffset ((s.job job).addr 80)) v.length (s.job job).tenant).setJob job
      { s.job job with state := .opened, expVec := some v, expCheck := crc32 v % 65536, activeAt := s.now } := by
    have hwait : ¬ ((s.begin.job job).state ≠ .waiting ∨
        (s.begin.sync ((s.begin.job job).f 88 2 % 2 ^ 14)).value.toNat < (s.begin.job job).f 92 4) :=
      not_or.mpr ⟨not_not.mpr hst, Nat.not_lt.mpr hsync⟩
    have hread' : s.begin.serviceRead (addrOffset ((s.begin.job job).addr 80))
      (ceilDiv (s.begin.job job).elems (2 ^ (s.begin.job job).f 51 1)) (s.begin.job job).tenant .get = .ok v := hread
    simp only [State.expReady, hwait, hread', if_false]
    rfl
  refine gives_of_running hrun rfl hready ⟨job_setJob_self _ _ (Job.ne_of_state (by simp)), ?_⟩
  exact Keeps.of_begin (((used_keeps _ _ _ _).mono (by simp)).trans ((setJob_keeps _ _ _).mono (by simp)))

/-- With its last output acknowledged an OPEN job is DONE; with outputs to come it goes on. -/
theorem jobCheck_job_of_last (hst : (s.job n).state = .opened) (hall : (s.job n).allIssued = true) (hun : (s.job n).unacked = 0) :
    (s.jobCheck n).job n = (s.job n).ended .done .ok .none := by
  rw [State.jobCheck, if_pos ⟨hst, hall, hun⟩, jobEnd_job _ _ (live_ne_free (.inr hst)) (by decide)]

theorem jobCheck_of_more (h : ¬ ((s.job n).allIssued = true ∧ (s.job n).unacked = 0)) : s.jobCheck n = s :=
  if_neg fun ⟨_, hlast⟩ => h hlast

/-- A job of which an output has been acknowledged. -/
def Job.acked (j : Job) (now : Nat) : Job := { j with unacked := j.unacked - 1, activeAt := now }

/-- An output is acknowledged (R216). -/
theorem gives_jobOutputAck {job : Nat} {r : Response} (hrun : s.running = true) (hst : (s.job job).state = .opened)
    (hun : (s.job job).unacked ≠ 0) (hr : r.status = .ok) :
    Gives (.jobOutputAck job r) s (fun t => (t.job job).unacked = (s.job job).unacked - 1 ∧
      ((s.job job).allIssued = true → (s.job job).unacked = 1 → (t.job job).state = .done)) := by
  have hack : ¬ ((s.begin.job job).state ≠ .opened ∨ (s.begin.job job).unacked = 0) := not_or.mpr ⟨not_not.mpr hst, hun⟩
  have hjob : (s.begin.setJob job ((s.job job).acked s.now)).job job = (s.job job).acked s.now :=
    job_setJob_self _ _ (Job.ne_of_state (live_ne_free (.inr hst)))
  refine gives_of_running (u := (s.begin.setJob job ((s.job job).acked s.now)).jobCheck job) hrun rfl
    ((if_neg hack).trans (if_neg (not_not.mpr hr))) ?_
  by_cases hlast : (s.job job).allIssued = true ∧ (s.job job).unacked - 1 = 0
  · obtain ⟨hall, hzero⟩ := hlast
    rw [jobCheck_job_of_last (by rw [hjob]; exact hst) (by rw [hjob]; exact hall) (by rw [hjob]; exact hzero), hjob]
    exact ⟨rfl, fun _ _ => rfl⟩
  · rw [jobCheck_of_more (by rw [hjob]; exact hlast), hjob]
    exact ⟨rfl, fun hall hone => absurd ⟨hall, by omega⟩ hlast⟩

/-! ### A Millstone sums an input (R209, R210) -/

theorem sumInto_ne {j : Job} {f : Nat} {c : Chunk} {x : JobInput} : j.sumInto f c x ≠ {} := fun h =>
  Nat.succ_ne_zero _ (congrArg Chunk.inputs h)

theorem unitRead_keeps (s : State) (n key bytes : Nat) : Keeps [.dict] s (s.unitRead n key bytes) :=
  (bumpN_keeps _ _ _).trans (meter_keeps _ _ _ _)

/-- The input has left the inputs, and is summed into its chunk. -/
def State.summed (s : State) (n chunk : Nat) (x : JobInput) : State :=
  let j := s.job n
  ({ s with freeCounter := s.freeCounter + x.data.length, hcu := { s.hcu with inputs := s.hcu.inputs.erase x } } : State).setJob n
    { j with chunks := Store.write ({} : Chunk) j.chunks chunk (j.sumInto s.freeCounter (Store.read ({} : Chunk) j.chunks chunk) x) }

theorem summed_keeps (s : State) (n chunk : Nat) (x : JobInput) : Keeps [.hcu, .freeCounter] s (s.summed n chunk x) := Keeps.refl _ s

theorem summed_chunk (chunk : Nat) (x : JobInput) (hst : (s.job n).state ≠ .free) :
    Store.read ({} : Chunk) ((s.summed n chunk x).job n).chunks chunk =
      (s.job n).sumInto s.freeCounter (Store.read ({} : Chunk) (s.job n).chunks chunk) x := by
  have hread : (s.summed n chunk x).job n = { s.job n with
      chunks := Store.write ({} : Chunk) (s.job n).chunks chunk
        ((s.job n).sumInto s.freeCounter (Store.read ({} : Chunk) (s.job n).chunks chunk) x) } :=
    job_setJob_self _ _ (Job.ne_of_state (by exact hst))
  rw [hread]
  exact read_write_self _ _ sumInto_ne

/-- A granted input that is not its chunk's last is summed: the meters and the grant are all that moves beside. -/
theorem millstoneSum_of_more {chunk contrib : Nat} {x : JobInput} (hx : s.sumInput n chunk contrib = some x)
    (hst : (s.job n).state = .opened) (hgrant : (s.job n).slot ≠ none ∨
      s.arbGrant (.millstone ((s.job n).firstMs + chunk % (s.job n).msCount)) = some (ownerIx (s.job n).tenant))
    (hmore : (Store.read ({} : Chunk) (s.job n).chunks chunk).inputs + 1 < (s.job n).contribs) :
    Keeps [.csr, .dict] (s.summed n chunk x) (s.millstoneSum n chunk contrib) := by
  unfold State.millstoneSum
  extract_lets j m
  split
  · next hnone => exact nomatch hx.symm.trans hnone
  · next y hy =>
    obtain rfl : x = y := Option.some.inj (hx.symm.trans hy)
    split
    · next hno => exact absurd hno (not_or.mpr ⟨not_not.mpr hst, fun ⟨hs, hg⟩ => hgrant.elim (· hs) hg⟩)
    · extract_lets +onlyGivenNames _ _ s2 s3
      have hs2 : Keeps [.csr, .dict] (s.summed n chunk x) s2 := (unitRead_keeps _ _ _ _).mono (by simp)
      have hs3 : Keeps [.csr, .dict] (s.summed n chunk x) s3 :=
        Keeps.ite (hs2.trans ((arbDrop_keeps _ _).mono (by simp))) hs2
      split
      · exact hs3
      · next hlast => exact absurd hmore hlast

theorem gives_millstoneSum {job chunk contrib : Nat} {x : JobInput} (hrun : s.running = true)
    (hx : s.sumInput job chunk contrib = some x) (hst : (s.job job).state = .opened)
    (hgrant : (s.job job).slot ≠ none ∨
      s.arbGrant (.millstone ((s.job job).firstMs + chunk % (s.job job).msCount)) = some (ownerIx (s.job job).tenant))
    (hmore : (Store.read ({} : Chunk) (s.job job).chunks chunk).inputs + 1 < (s.job job).contribs) :
    Gives (.millstoneSum job chunk contrib) s (fun t => Store.read ({} : Chunk) (t.job job).chunks chunk =
        (s.job job).sumInto s.freeCounter (Store.read ({} : Chunk) (s.job job).chunks chunk) x ∧
      t.hcu.inputs = s.hcu.inputs.erase x ∧ Keeps [.hcu, .csr, .dict, .freeCounter] s t) := by
  have hsum := millstoneSum_of_more (s := s.begin) hx hst hgrant hmore
  refine gives_of_running hrun rfl rfl ⟨?_, ?_, ?_⟩
  · rw [hsum.job (by simp) job]
    exact summed_chunk chunk x (live_ne_free (.inr hst))
  · rw [hsum.hcu (by simp)]
    rfl
  · exact Keeps.of_begin (((summed_keeps _ _ _ _).mono (by simp)).trans (hsum.mono (by simp)))

/-! ### A Bolter starts its next job (R220) -/

/-- A stream whose source has not arrived in full goes on. -/
theorem streamEnd_of_more (h : (s.job n).arrived ≠ (s.job n).srcCount * (s.job n).itemBytes) : s.streamEnd n = s :=
  if_neg fun ⟨_, _, _, _, harr, _⟩ => h harr

/-- The key of the unit that a command names: Flume f is f, Bolter b is 64 + b. -/
def unitKey (unit : Nat) : Nat := if unit < 64 then 256 + unit else 512 + (unit - 64)

/-- The job at the head of the unit's queue has left it and runs. -/
def State.startsNext (s : State) (key n : Nat) (rest : List Nat) : State :=
  ({ s with hcu := { s.hcu with fbQueues := Store.write [] s.hcu.fbQueues key rest } } : State).setJob n { s.job n with running := true }

theorem startsNext_keeps (s : State) (key n : Nat) (rest : List Nat) : Keeps [.hcu] s (s.startsNext key n rest) := Keeps.refl _ s

theorem startsNext_job {key : Nat} {rest : List Nat} (hst : (s.job n).state ≠ .free) :
    (s.startsNext key n rest).job n = { s.job n with running := true } := job_setJob_self _ _ (Job.ne_of_state (by exact hst))

/-- A stream FILTER starts on a free unit, and waits for its source. -/
theorem hcuStart_filter {key : Nat} {rest : List Nat} (hq : s.hcuQueue key = n :: rest) (hfree : s.hcuRunning key = none)
    (hst : (s.job n).state = .opened) (hk : (s.job n).kind = 4) (hstream : (s.job n).stream = true)
    (harr : (s.job n).arrived ≠ (s.job n).srcCount * (s.job n).itemBytes)
    (hi : s.hcu.inputs.any (fun x => decide (x.job = n)) = false) (hh : s.hcu.held.any (fun x => decide (x.job = n)) = false)
    (hopen : s.closed (hcuLoc key) = false) : s.hcuStart key = s.startsNext key n rest := by
  have hjob := startsNext_job (s := s) (n := n) (key := key) (rest := rest) (live_ne_free (.inr hst))
  have hgo : ¬ ((s.hcuRunning key).isSome = true ∨ (s.job n).state ≠ .opened ∨ s.closed (hcuLoc key) = true) := by
    simp [hfree, hst, hopen]
  unfold State.hcuStart
  split
  · next hnil => exact nomatch hq.symm.trans hnil
  · next m l hcons =>
    obtain ⟨rfl, rfl⟩ := List.cons.inj (hq.symm.trans hcons)
    rw [if_neg hgo]
    extract_lets +onlyGivenNames _ _ _ s2 s3
    have hs2 : s2 = s.startsNext key n rest := rfl
    have hkind : (s2.job n).kind = 4 := by rw [hs2, hjob]; exact hk
    have hs3 : s3 = s.startsNext key n rest := (if_neg (by simp [hkind])).trans ((if_neg (by simp [hkind])).trans hs2)
    have hidle : (s.startsNext key n rest).pumpJob n = s.startsNext key n rest := pumpJob_of_idle hi hh
    have hopened : ¬ (s3.job n).state ≠ .opened := by rw [hs3, hjob]; exact not_not.mpr hst
    have hstreams : (s3.job n).stream = true := by rw [hs3, hjob]; exact hstream
    rw [if_neg hopened, if_pos hstreams, hs3, hidle]
    exact streamEnd_of_more (by rw [hjob]; exact harr)

theorem gives_hcuJobStart {unit : Nat} {rest : List Nat} (hrun : s.running = true) (hq : s.hcuQueue (unitKey unit) = n :: rest)
    (hfree : s.hcuRunning (unitKey unit) = none) (hst : (s.job n).state = .opened) (hk : (s.job n).kind = 4)
    (hstream : (s.job n).stream = true) (harr : (s.job n).arrived ≠ (s.job n).srcCount * (s.job n).itemBytes)
    (hi : s.hcu.inputs.any (fun x => decide (x.job = n)) = false) (hh : s.hcu.held.any (fun x => decide (x.job = n)) = false)
    (hw : Store.wf ([] : List Nat) s.hcu.fbQueues = true) (hopen : s.closed (hcuLoc (unitKey unit)) = false) :
    Gives (.hcuJobStart unit) s (fun t => (t.job n).running = true ∧ t.hcuQueue (unitKey unit) = rest ∧ Keeps [.hcu] s t) := by
  have hstart := hcuStart_filter (s := s.begin) hq hfree hst hk hstream harr hi hh hopen
  refine gives_of_running hrun rfl hstart ⟨?_, Store.read_write_same _ _ _ hw, Keeps.of_begin (startsNext_keeps _ _ _ _)⟩
  rw [startsNext_job (s := s.begin) (live_ne_free (.inr hst))]

/-! ### A GATHER whose index list is sorted (R219) -/

/-- The job is a GATHER, and its index list has been sorted. -/
structure SortedGather (n : Nat) (s : State) : Prop where
  kind : (s.job n).kind = 2
  sorted : (s.job n).sorted = true

theorem Job.ne_of_sorted {j : Job} (h : j.sorted = true) : j ≠ {} := by
  rintro rfl
  exact Bool.false_ne_true h

theorem SortedGather.of_job (hs : SortedGather n s) (h : t.job n = s.job n) : SortedGather n t := by
  obtain ⟨hk, hsorted⟩ := hs
  exact ⟨by rw [h, hk], by rw [h, hsorted]⟩

/-- What leaves chapter 05 alone leaves it so. -/
theorem SortedGather.after {c : List Part} (hs : SortedGather n s) (h : Keeps c s t) (hc : .hcu ∉ c := by decide) : SortedGather n t :=
  hs.of_job (h.job hc n)

/-- So does a write of the job that keeps its record and that it is sorted. -/
theorem SortedGather.setJob {j : Job} (hs : SortedGather n s) (hr : j.record = (s.job n).record := by rfl)
    (hj : j.sorted = (s.job n).sorted := by rfl) : SortedGather n (s.setJob n j) := by
  have hread : (s.setJob n j).job n = j := job_setJob_self _ _ (Job.ne_of_sorted (hj.trans hs.sorted))
  refine ⟨?_, by rw [hread, hj, hs.sorted]⟩
  rw [hread, Job.kind, Job.f, hr]
  exact hs.kind

theorem SortedGather.ite {c : Prop} {_ : Decidable c} {u : State} (ht : SortedGather n t) (hu : SortedGather n u) :
    SortedGather n (if c then t else u) := by
  split <;> assumption

theorem SortedGather.foldl {α : Type} {f : State → α → State} {l : List α} (hs : SortedGather n s)
    (hf : ∀ {t a}, SortedGather n t → SortedGather n (f t a)) : SortedGather n (l.foldl f s) :=
  List.foldlRecOn l f hs fun _ ht _ _ => hf ht

/-! One lemma for each operation that such a job goes through; `s.foo.bar` is met by `hs.foo.bar`. -/

theorem SortedGather.jobEnd {final : JobState} {st : Status} {reason : Reason} (hs : SortedGather n s)
    (hlive : (s.job n).state ≠ .free) (hf : final ≠ .free) : SortedGather n (s.jobEnd n final st reason) := by
  have hjob := jobEnd_job st reason hlive hf
  exact ⟨by rw [hjob]; exact hs.kind, by rw [hjob]; exact hs.sorted⟩

theorem SortedGather.jobFault {st : Status} {reason : Reason} (hs : SortedGather n s) : SortedGather n (s.jobFault n st reason) := by
  unfold State.jobFault
  extract_lets j
  split
  · next hlive => exact hs.jobEnd (live_ne_free hlive) (by decide)
  · exact hs

theorem SortedGather.jobCheck (hs : SortedGather n s) : SortedGather n (s.jobCheck n) := by
  unfold State.jobCheck
  extract_lets j
  split
  · next h => exact hs.jobEnd (live_ne_free (.inr h.1)) (by decide)
  · exact hs

theorem SortedGather.jobOut {key tc fmt : Nat} {addr : Word64} {chain : Bool} {bs : List Byte} (hs : SortedGather n s) :
    SortedGather n (s.jobOut n key addr tc fmt chain bs) := by
  unfold State.jobOut
  extract_lets +onlyGivenNames j s1
  have hbump := bumpN_keeps s (O.hcuUnitOutputBytes (unitIndex (hcuLoc key))) bs.length
  have hs1 : SortedGather n s1 := (hs.after hbump).setJob (by rw [hbump.job (by simp) n]) (by rw [hbump.job (by simp) n])
  refine hs.ite ((hs1.setJob).ite ((hs1.after (emit_keeps _ _)).ite ?_))
  extract_lets r
  have hr : SortedGather n r.2 := hs1.after (jobPutBytes_keeps _ _ _ _ _)
  exact hr.ite hr.jobFault

theorem SortedGather.packedOut {pos : Nat} {bs : List Byte} (hs : SortedGather n s) : SortedGather n (s.packedOut n pos bs) := hs.jobOut

/-- A source row of a GATHER goes to the outputs that name it. -/
theorem SortedGather.placeRow {i : Nat} {bs : List Byte} (hs : SortedGather n s) : SortedGather n (s.placeRow n i bs) := by
  unfold State.placeRow
  rw [if_pos hs.kind]
  exact hs.foldl fun hu => hu.packedOut.setJob

theorem SortedGather.rows {first : Nat} {bs : List Byte} (hs : SortedGather n s) : SortedGather n (s.rows n first bs) := by
  have hk : ¬ (s.job n).kind = 4 := by simp [hs.kind]
  refine hs.foldl fun hu => hu.ite ?_
  rw [if_neg hk]
  exact hu.placeRow

theorem SortedGather.allRows (hs : SortedGather n s) : SortedGather n (s.allRows n) := by
  unfold State.allRows
  simp only [hs.kind, Nat.reduceEqDiff, if_false]
  exact (hs.setJob).jobCheck.ite hs

theorem SortedGather.streamEnd (hs : SortedGather n s) : SortedGather n (s.streamEnd n) := hs.allRows.ite hs

theorem SortedGather.consume {x : JobInput} (hs : SortedGather n s) : SortedGather n (s.consume n x) :=
  (hs.after (unitRead_keeps _ _ _ _)).rows

/-- Inputs and held JOB_PUTs may come and go. -/
theorem SortedGather.queues {inputs : List JobInput} {held : List HeldPut} (hs : SortedGather n s) :
    SortedGather n { s with hcu := { s.hcu with inputs, held } } := hs.of_job (job_eq rfl)

theorem SortedGather.respond {r : Req} {op : Nat} {a : Response} (hs : SortedGather n s) : SortedGather n (s.respond r op a) :=
  hs.after (respond_keeps _ _ _ _ _)

theorem SortedGather.takePut {h : HeldPut} {key : Nat × Nat} {late : Bool} (hs : SortedGather n s)
    (ht : s.takePut n h key late = some t) : SortedGather n t := by
  unfold State.takePut at ht
  extract_lets _ _ _ _ _ _ _ s1 s2 at ht
  have hs1 : SortedGather n s1 := hs.setJob
  have hs2 : SortedGather n s2 := hs1.respond.ite hs1
  split at ht
  · cases ht
  · split at ht
    · cases ht
      exact hs2.queues
    · cases ht
      exact (hs2.foldl .consume).streamEnd

theorem SortedGather.unpark {x : JobInput} (hs : SortedGather n s) : SortedGather n (s.unpark n x) := by
  unfold State.unpark
  extract_lets +onlyGivenNames _ _ _ s1 s2
  have hs1 : SortedGather n s1 := hs.setJob
  have hs2 : SortedGather n s2 := hs1.ite hs1.respond
  exact hs2.queues.ite hs2.queues.consume.streamEnd

theorem SortedGather.pumpJobN {k : Nat} (hs : SortedGather n s) : SortedGather n (State.pumpJobN k n s) := by
  induction k generalizing s with
  | zero => exact hs
  | succ k ih =>
    unfold State.pumpJobN
    dsimp only
    split
    · exact ih hs.unpark
    · split
      · exact hs
      · split
        · exact ih hs.queues.respond
        · split
          · next u htake => exact ih (hs.queues.takePut htake)
          · exact hs

theorem SortedGather.pumpJob (hs : SortedGather n s) : SortedGather n (s.pumpJob n) := hs.pumpJobN

theorem openBytes_keeps (s : State) (k : Nat) : Keeps [.freeCounter] s (s.openBytes k).2 := Keeps.refl _ s

theorem openBytes_length (s : State) (k : Nat) : (s.openBytes k).1.length = k := by simp [State.openBytes, freeBytes]

/-- A stream GATHER that can write its working area sorts its list. -/
theorem gives_gatherSortDone {job : Nat} (hrun : s.running = true) (hk : (s.job job).kind = 2) (hstream : (s.job job).stream = true)
    (hrunning : (s.job job).running = true) (hunsorted : (s.job job).sorted = false) (hst : (s.job job).state = .opened)
    (hcheck : s.poolCheck (addrOffset ((s.job job).addr 88)) (8 * (s.job job).f 76 4) (s.job job).tenant none .put = none)
    (hclean : s.firstPoison (addrOffset ((s.job job).addr 88)) (8 * (s.job job).f 76 4) = none) :
    Gives (.gatherSortDone job) s (fun t => (t.job job).sorted = true) := by
  have hsorts : ¬ ((s.job job).kind ≠ 2 ∨ (!(s.job job).stream) = true ∨ (!(s.job job).running) = true ∨
      (s.job job).sorted = true ∨ (s.job job).state ≠ .opened) := by simp [hk, hstream, hrunning, hunsorted, hst]
  generalize hwork : s.begin.openBytes (8 * (s.job job).f 76 4) = work
  generalize hwrite : work.2.serviceWrite (addrOffset ((s.job job).addr 88)) work.1 (s.job job).tenant .put = w
  have hlen : work.1.length = 8 * (s.job job).f 76 4 := by rw [← hwork, openBytes_length]
  have hopen : Keeps [.freeCounter] s.begin work.2 := hwork ▸ openBytes_keeps _ _
  have hok : w.1 = .ok := by
    subst hwrite
    refine serviceWrite_ok ?_ ?_
    · rw [hlen, ← hwork]
      exact hcheck
    · rw [hlen, ← hwork]
      exact hclean
  have hjob : w.2.job job = s.job job := by
    have hw := (serviceWrite_keeps work.2 (addrOffset ((s.job job).addr 88)) work.1 (s.job job).tenant .put).job (by simp) job
    rw [hwrite] at hw
    exact hw.trans (hopen.job (by simp) job)
  have hsorted : SortedGather job (w.2.setJob job { w.2.job job with sorted := true }) := by
    have hread : (w.2.setJob job { w.2.job job with sorted := true }).job job = { w.2.job job with sorted := true } :=
      job_setJob_self _ _ (Job.ne_of_sorted rfl)
    exact ⟨by rw [hread, hjob]; exact hk, by rw [hread]⟩
  refine gives_of_running (u := ((w.2.setJob job { w.2.job job with sorted := true }).pumpJob job).streamEnd job) hrun rfl ?_
    hsorted.pumpJob.streamEnd.sorted
  refine (if_neg hsorts).trans ?_
  subst hwork hwrite
  exact if_neg (not_not.mpr hok)

/-! ### O35 -/

/-- Settles O35, clause by clause. -/
theorem jobsTakeEffect : Obligations.JobsTakeEffect :=
  ⟨fun _ _ _ h hend hp hr ho hl hn => gives_jobOpen h hend hp ⟨hr, ho, hl, rfl, hn⟩,
    fun _ _ h hend hp hr ho hl hlocal hn => gives_jobAbort h hend hp ⟨hr, ho, hl, rfl, hn⟩ hlocal,
    fun _ _ h hend hp hr ho hl hlocal hn => gives_jobRelease h hend hp ⟨hr, ho, hl, rfl, hn⟩ hlocal,
    fun _ _ _ => gives_jobPut rfl rfl, fun _ _ _ _ => gives_heldJobPutTimeout, fun _ _ => gives_jobIdleTimeout,
    fun _ _ _ => gives_jobExponentReady, fun _ _ _ _ _ => gives_millstoneSum, fun _ _ _ => gives_jobOutputAck,
    fun _ _ _ _ => gives_hcuJobStart, fun _ _ => gives_gatherSortDone⟩

end Sys2Proof.Machine
end

/-! # What every command keeps of the tables inside ports and sessions

Sitting of the family 06_switch_core: O7, all of whose tables but two are kept by `step_tidy`. The two stand inside a port: its lanes and
the frames that are put together. A third relation, `Neat σ s`, says that they are canonical in `s` where they are in `σ`, and says the
same of the table inside a KV session, which no other relation follows. As with `Steady` and `Tidy` there is one lemma for each operation,
in the order of the model's files, and the operation `s.foo.bar` is met by `hs.foo.bar`. -/

section
namespace Sys2Proof.Machine

-- The lemmas that follow are many and short: one thread checks them in less memory than many do.
set_option Elab.async false

/-! ### The relation, and the ways a body is put together -/

/-- The tables inside a port, its lanes and the frames that are put together, are canonical (R463, R480). -/
structure PortNeat (x : Port) : Prop where
  lanes : Store.wf ({} : Lane) x.lanes = true
  reasm : Store.wf [] x.reasm = true

/-- Anything else of a port may be written. -/
theorem PortNeat.edit {x y : Port} (hy : PortNeat y) (hl : x.lanes = y.lanes := by rfl) (hr : x.reasm = y.reasm := by rfl) :
    PortNeat x := ⟨hl ▸ hy.lanes, hr ▸ hy.reasm⟩

/-- The table inside a session, the tokens written of each layer, is canonical (R339). -/
def SessionNeat (x : KvSession) : Prop := Store.wf 0 x.written = true

/-- So it is in every port that is listed. -/
def PortsNeat (s : State) : Prop := ∀ e ∈ s.links.ports, PortNeat e.2

/-- So it is in every session. -/
def SessionsNeat (s : State) : Prop := ∀ x ∈ s.kv.sessions, SessionNeat x

/-- What a command that starts at `σ` has kept when it has come to `s`. -/
structure Neat (σ s : State) : Prop where
  /-- the ports' tables are canonical where those of `σ` are -/
  ports : PortsNeat σ → PortsNeat s
  /-- so are the sessions' -/
  sessions : SessionsNeat σ → SessionsNeat s

/-- The same of an operation that may fail with a code, that may give nothing, and of a command. -/
def NeatOk {ε : Type} (σ : State) (r : Except ε State) : Prop := ∀ t, r = .ok t → Neat σ t
def NeatSome (σ : State) (r : Option State) : Prop := ∀ t, r = some t → Neat σ t
def NeatNext (σ : State) (r : Result) : Prop := ∀ t, r = .next t → Neat σ t

variable {σ s : State}

theorem Neat.refl (s : State) : Neat s s := ⟨id, id⟩

/-- Any part but the ports and the sessions may be written. -/
theorem Neat.put
    {pending now ftc out freeCounter chip dict csr mem sram remote plans florets hcu sw traffic pool coh cz meadow sec mgmt power faults}
    (hs : Neat σ s) :
    Neat σ { s with
      pending, now, ftc, out, freeCounter, chip, dict, csr, mem, sram, remote, plans, florets, hcu, sw, traffic, pool, coh, cz, meadow
      sec, mgmt, power, faults } :=
  ⟨hs.ports, hs.sessions⟩

/-- So may what the KV service holds beside its sessions. -/
theorem Neat.putKv {stores quarantine attends nextAttend} (hs : Neat σ s) :
    Neat σ { s with kv := { s.kv with stores, quarantine, attends, nextAttend } } := ⟨hs.ports, hs.sessions⟩

theorem Neat.ok {ε : Type} (hs : Neat σ s) : NeatOk σ (.ok s : Except ε State) := fun _ h => by cases h; exact hs
theorem Neat.some (hs : Neat σ s) : NeatSome σ (.some s) := fun _ h => by cases h; exact hs
theorem Neat.next (hs : Neat σ s) : NeatNext σ (.next s) := fun _ h => by cases h; exact hs
theorem NeatOk.error {ε : Type} {e : ε} : NeatOk σ (.error e : Except ε State) := fun _ h => nomatch h
theorem NeatSome.none : NeatSome σ .none := fun _ h => nomatch h

/-! A choice keeps what both sides keep. An operation may give its state as the last component of a pair or a triple. -/

theorem Neat.ite {c : Prop} {_ : Decidable c} {t u : State} (ht : Neat σ t) (hu : Neat σ u) :
    Neat σ (if c then t else u) := by
  split <;> assumption

theorem Neat.ite_snd {α : Type} {c : Prop} {_ : Decidable c} {t u : α × State} (ht : Neat σ t.2) (hu : Neat σ u.2) :
    Neat σ (if c then t else u).2 := by
  split <;> assumption

theorem Neat.ite_snd_snd {α β : Type} {c : Prop} {_ : Decidable c} {t u : α × β × State} (ht : Neat σ t.2.2)
    (hu : Neat σ u.2.2) : Neat σ (if c then t else u).2.2 := by
  split <;> assumption

theorem NeatOk.ite {ε : Type} {c : Prop} {_ : Decidable c} {t u : Except ε State} (ht : NeatOk σ t) (hu : NeatOk σ u) :
    NeatOk σ (if c then t else u) := by
  split <;> assumption

theorem NeatSome.ite {c : Prop} {_ : Decidable c} {t u : Option State} (ht : NeatSome σ t) (hu : NeatSome σ u) :
    NeatSome σ (if c then t else u) := by
  split <;> assumption

theorem NeatNext.ite {c : Prop} {_ : Decidable c} {t u : Result} (ht : NeatNext σ t) (hu : NeatNext σ u) :
    NeatNext σ (if c then t else u) := by
  split <;> assumption

theorem NeatOk.map {ε : Type} {r : Except ε State} {f : State → State} (hr : NeatOk σ r)
    (hf : ∀ {t}, Neat σ t → Neat σ (f t)) : NeatOk σ (r.map f) := by
  cases r with
  | error => exact .error
  | ok t => exact (hf (hr t rfl)).ok

theorem Neat.getD {o : Option State} (hs : Neat σ s) (ho : NeatSome σ o) : Neat σ (o.getD s) := by
  cases o with
  | none => exact hs
  | some t => exact ho t rfl

/-! A fold keeps what each of its rounds keeps. -/

theorem Neat.foldl {α : Type} {f : State → α → State} {l : List α} (hs : Neat σ s)
    (hf : ∀ {t a}, Neat σ t → Neat σ (f t a)) : Neat σ (l.foldl f s) := by
  induction l generalizing s with
  | nil => exact hs
  | cons a l ih => exact ih (hf hs)

theorem Neat.foldl_snd {α β : Type} {f : β × State → α → β × State} {l : List α} {x : β × State} (hs : Neat σ x.2)
    (hf : ∀ {t a}, Neat σ t.2 → Neat σ (f t a).2) : Neat σ (l.foldl f x).2 := by
  induction l generalizing x with
  | nil => exact hs
  | cons a l ih => exact ih (hf hs)

theorem Neat.foldl_snd_snd {α β γ : Type} {f : β × γ × State → α → β × γ × State} {l : List α} {x : β × γ × State}
    (hs : Neat σ x.2.2) (hf : ∀ {t a}, Neat σ t.2.2 → Neat σ (f t a).2.2) : Neat σ (l.foldl f x).2.2 := by
  induction l generalizing x with
  | nil => exact hs
  | cons a l ih => exact ih (hf hs)

/-- The round may use that what it is given is of the list. -/
theorem Neat.foldl_mem {α : Type} {f : State → α → State} {l : List α} (hs : Neat σ s)
    (hf : ∀ {t a}, a ∈ l → Neat σ t → Neat σ (f t a)) : Neat σ (l.foldl f s) := by
  induction l generalizing s with
  | nil => exact hs
  | cons a l ih => exact ih (hf (.head _) hs) fun ha => hf (.tail _ ha)

/-! A port that is read is one that is listed, or stands at reset; a write lists no other than the one it is given. -/

theorem read_of_mem {α : Type} {d : α} {q : α → Prop} (hd : q d) {st : Store α} (h : ∀ e ∈ st, q e.2) (k : Nat) :
    q (Store.read d st k) := by
  induction st with
  | nil => exact hd
  | cons e t ih =>
    obtain ⟨he, ht⟩ := List.forall_mem_cons.mp h
    unfold Store.read
    split
    · exact he
    · split
      · exact hd
      · exact ih ht

theorem mem_write {α : Type} [DecidableEq α] {d v : α} {st : Store α} {k : Nat} {e : Nat × α} (h : e ∈ Store.write d st k v) :
    e = (k, v) ∨ e ∈ st := by
  induction st with
  | nil =>
    unfold Store.write at h
    split at h
    · exact .inr h
    · exact .inl (List.mem_singleton.mp h)
  | cons x t ih =>
    unfold Store.write at h
    split at h
    · split at h
      · exact .inr h
      · exact List.mem_cons.mp h
    · split at h
      · split at h
        · exact .inr (.tail _ h)
        · exact (List.mem_cons.mp h).imp_right (.tail _)
      · rcases List.mem_cons.mp h with rfl | h
        · exact .inr (.head _)
        · exact (ih h).imp_right (.tail _)

theorem Neat.port (hs : Neat σ s) (p : Nat) (h : PortsNeat σ) : PortNeat (s.port p) := read_of_mem ⟨rfl, rfl⟩ (hs.ports h) p

theorem Neat.writeLinkPort {p x} (hs : Neat σ s) (hx : PortsNeat σ → PortNeat x) :
    Neat σ { s with links := { s.links with ports := Store.write ({} : Port) s.links.ports p x } } where
  ports h e he := by
    rcases mem_write he with rfl | he
    · exact hx h
    · exact hs.ports h e he
  sessions := hs.sessions

theorem Neat.listed {x} (hs : Neat σ s) (hx : x ∈ s.kv.sessions) (h : SessionsNeat σ) : SessionNeat x := hs.sessions h x hx

/-! ### Machine/Ops.lean -/

theorem Neat.begin (hs : Neat σ s) : Neat σ s.begin := hs.put
theorem Neat.emit {m} (hs : Neat σ s) : Neat σ (s.emit m) := hs.put
theorem Neat.free {n} (hs : Neat σ s) : Neat σ (s.free n).2 := hs.put
theorem Neat.setNum {k v} (hs : Neat σ s) : Neat σ (s.setNum k v) := hs.put
theorem Neat.setBytes {k b} (hs : Neat σ s) : Neat σ (s.setBytes k b) := hs.put
theorem Neat.bumpN {k n} (hs : Neat σ s) : Neat σ (s.bumpN k n) := hs.ite hs.setNum
theorem Neat.bump {k} (hs : Neat σ s) : Neat σ (s.bump k) := hs.bumpN
theorem Neat.bump32 {k} (hs : Neat σ s) : Neat σ (s.bump32 k) := hs.setNum
theorem Neat.setReg {a v} (hs : Neat σ s) : Neat σ (s.setReg a v) := hs.put
theorem Neat.setUnit {l u} (hs : Neat σ s) : Neat σ (s.setUnit l u) := hs.put
theorem Neat.memWrite {off bs} (hs : Neat σ s) : Neat σ (s.memWrite off bs) := hs.put
theorem Neat.sramWrite {off bs} (hs : Neat σ s) : Neat σ (s.sramWrite off bs) := hs.put
theorem Neat.memZero {off n} (hs : Neat σ s) : Neat σ (s.memZero off n) := hs.put
theorem Neat.sramZero {off n} (hs : Neat σ s) : Neat σ (s.sramZero off n) := hs.put
theorem Neat.ticksPass {n} (hs : Neat σ s) : Neat σ (s.ticksPass n) := hs.bumpN.ite hs
theorem Neat.idleTick (hs : Neat σ s) : Neat σ s.idleTick := hs.put.ticksPass

theorem Neat.elapse {t} (hs : Neat σ s) : Neat σ (s.elapse t) := hs.put.ticksPass.ite hs

theorem Neat.countDeferral {tenant r} (hs : Neat σ s) : Neat σ (s.countDeferral tenant r) := hs.ite hs.bump
theorem Neat.countRefusal {tenant r} (hs : Neat σ s) : Neat σ (s.countRefusal tenant r) := hs.ite hs.bump
theorem Neat.meter {tenant sub n} (hs : Neat σ s) : Neat σ (s.meter tenant sub n) := hs.bumpN.ite hs
theorem Neat.setQueue {q c} (hs : Neat σ s) : Neat σ (s.setQueue q c) := hs.put
theorem Neat.setEndpointPosted {n e} (hs : Neat σ s) : Neat σ (s.setEndpointPosted n e) := hs.put

theorem Neat.clearSticky {i} (hs : Neat σ s) : Neat σ (s.clearSticky i) := by
  unfold State.clearSticky
  split
  · exact hs.setQueue
  · split
    · exact hs.setEndpointPosted
    · exact hs

theorem Neat.setSticky {i st pseq} (hs : Neat σ s) : Neat σ (s.setSticky i st pseq) := by
  unfold State.setSticky
  refine hs.ite ?_
  split
  · exact hs.setQueue
  · split
    · exact hs.setEndpointPosted
    · exact hs

theorem Neat.countRetired {i} (hs : Neat σ s) : Neat σ (s.countRetired i) := by
  unfold State.countRetired
  split
  · exact hs.setQueue
  · split
    · exact hs.setEndpointPosted
    · exact hs

theorem Neat.countIssued {i} (hs : Neat σ s) : Neat σ (s.countIssued i) := by
  unfold State.countIssued
  split
  · exact hs.setQueue
  · split
    · exact hs.setEndpointPosted
    · exact hs

theorem Neat.openOp {r op} (hs : Neat σ s) : Neat σ (s.openOp r op) := hs.ite hs.put

theorem Neat.closeOp {i posted id} (hs : Neat σ s) : Neat σ (s.closeOp i posted id) := by
  unfold State.closeOp
  split
  · exact hs
  · exact hs.put.countRetired.ite hs.put

theorem Neat.markInjected {a} (hs : Neat σ s) : Neat σ (s.markInjected a).2 := hs.bump.ite hs

theorem Neat.respondCore {r op a0 q} (hs : Neat σ s) : Neat σ (s.respondCore r op a0 q) := by
  unfold State.respondCore
  extract_lets +onlyGivenNames _ _ s1
  have hs1 : Neat σ s1 := hs.markInjected.countRefusal.ite hs.markInjected
  exact hs1.emit.put.ite ((hs1.closeOp.ite hs1.emit.put).ite hs1.closeOp.emit.put)

theorem Neat.setSync {n o} (hs : Neat σ s) : Neat σ (s.setSync n o) := hs.put
theorem Neat.endWaitCore {w st} (hs : Neat σ s) : Neat σ (s.endWaitCore w st) := hs.put.respondCore
theorem Neat.retest {n} (hs : Neat σ s) : Neat σ (s.retest n) := by
  unfold State.retest; exact hs.foldl .endWaitCore
theorem Neat.updateCore {n v by_} (hs : Neat σ s) : Neat σ (s.updateCore n v by_) := hs.setSync.put.retest
theorem Neat.endFence {f} (hs : Neat σ s) : Neat σ (s.endFence f) := (hs.ite hs.clearSticky).respondCore
theorem Neat.endNotify {p} (hs : Neat σ s) : Neat σ (s.endNotify p) := hs.updateCore.respondCore

theorem Neat.wakeN {n} (hs : Neat σ s) : Neat σ (State.wakeN n s) := by
  induction n generalizing s with
  | zero => exact hs
  | succ n ih =>
    unfold State.wakeN
    split
    · exact ih hs.put.endFence
    · split
      · exact ih hs.put.endNotify
      · exact hs

theorem Neat.wake (hs : Neat σ s) : Neat σ s.wake := hs.wakeN
theorem Neat.respond {r op a q} (hs : Neat σ s) : Neat σ (s.respond r op a q) := hs.respondCore.wake
theorem Neat.endWait {w st} (hs : Neat σ s) : Neat σ (s.endWait w st) := hs.endWaitCore.wake.ite hs
theorem Neat.syncUpdate {n v by_} (hs : Neat σ s) : Neat σ (s.syncUpdate n v by_) := hs.updateCore.wake
theorem Neat.startNotify {r op n amount nodeOnly} (hs : Neat σ s) : Neat σ (s.startNotify r op n amount nodeOnly) :=
  hs.endNotify.wake.ite hs.put.openOp
theorem Neat.notifyAddr {addr tc by_ amount} (hs : Neat σ s) : Neat σ (s.notifyAddr addr tc by_ amount).2 :=
  hs.ite_snd ((hs.ite_snd (hs.ite_snd hs.syncUpdate)).ite_snd hs.emit)
theorem Neat.setVector {v x} (hs : Neat σ s) : Neat σ (s.setVector v x) := hs.put
theorem Neat.sendEvent {mask seqs} (hs : Neat σ s) : Neat σ (s.sendEvent mask seqs) := hs.foldl fun hu => hu.emit.put

theorem Neat.deliverOther {x} (hs : Neat σ s) : Neat σ (s.deliverOther x) := by
  unfold State.deliverOther
  extract_lets +onlyGivenNames _ s1
  have hs1 : Neat σ s1 := hs.ite (hs.notifyAddr.ite hs.notifyAddr.bump)
  exact hs1.emit.ite hs1

theorem Neat.event {vector source kind st arg injection} (hs : Neat σ s) :
    Neat σ (s.event vector source kind st arg injection) := by
  unfold State.event
  refine hs.put.bumpN.ite (hs.put.bumpN.sendEvent.deliverOther.ite ?_)
  dsimp only
  split <;> exact hs.put.bumpN.setVector

theorem Neat.eventOpen {vector source st arg injected} (hs : Neat σ s) :
    Neat σ (s.eventOpen vector source st arg injected) :=
  hs.free.event
theorem Neat.fault {code source arg action st entry0} (hs : Neat σ s) : Neat σ (s.fault code source arg action st entry0) :=
  (hs.put.ite hs.put.bump).event
theorem Neat.busError {i addr write st} (hs : Neat σ s) : Neat σ (s.busError i addr write st) := (hs.setReg.ite hs.setReg.setReg).setReg
theorem Neat.answer {r q} (hs : Neat σ s) : Neat σ (s.answer r q) := hs.put

theorem Neat.refuseAt {a addr st reason} (hs : Neat σ s) : Neat σ (s.refuseAt a addr st reason) := by
  unfold State.refuseAt
  split
  · exact hs.busError.answer
  · exact hs.answer

theorem Neat.setCsrReq {n r} (hs : Neat σ s) : Neat σ (s.setCsrReq n r) := hs.put
theorem Neat.setPath {p x} (hs : Neat σ s) : Neat σ (s.setPath p x) := by
  unfold State.setPath; exact hs.put

theorem Neat.takeArm {a addr} (hs : Neat σ s) : Neat σ (s.takeArm a addr).2 := by
  unfold State.takeArm
  split
  · exact hs.setCsrReq
  · exact hs.setPath

theorem Neat.openWrite {eff : State → State} {a addr check guarded} (hs : Neat σ s)
    (heff : ∀ {t}, Neat σ t → Neat σ (eff t)) :
    Neat σ (s.openWrite a addr check eff guarded) := by
  unfold State.openWrite
  refine hs.takeArm.refuseAt.ite ?_
  split
  · exact hs.takeArm.refuseAt
  · exact (heff hs.takeArm).answer

theorem Neat.mgmtWrite {eff : State → State} {a addr check guarded} (hs : Neat σ s)
    (heff : ∀ {t}, Neat σ t → Neat σ (eff t)) :
    Neat σ (s.mgmtWrite a addr check eff guarded) :=
  hs.takeArm.refuseAt.ite (hs.openWrite heff)
theorem Neat.stageLo {i addr v} (hs : Neat σ s) : Neat σ (s.stageLo i addr v) := hs.put
theorem Neat.takeLo {i addr} (hs : Neat σ s) : Neat σ (s.takeLo i addr).2 := by
  unfold State.takeLo; exact hs.put
theorem Neat.atFtc {f} (hs : Neat σ s) : Neat σ (s.atFtc f) := hs.elapse.ite hs
theorem Neat.atTick {n} (hs : Neat σ s) : Neat σ (s.atTick n) := hs.atFtc
theorem Neat.openBytes {n} (hs : Neat σ s) : Neat σ (s.openBytes n).2 := hs.put
theorem Neat.whenRunning {f : State → State} (hs : Neat σ s) (hf : ∀ {t}, Neat σ t → Neat σ (f t)) :
    Neat σ (s.whenRunning f) :=
  (hf hs).ite hs

/-! ### Machine/Clocks.lean -/

theorem Neat.setClusterClock {c mhz} (hs : Neat σ s) : Neat σ (s.setClusterClock c mhz) := hs.put

/-! ### Machine/PoolMem.lean -/

theorem Neat.setChan {c x} (hs : Neat σ s) : Neat σ (s.setChan c x) := hs.put
theorem Neat.setPart {n p} (hs : Neat σ s) : Neat σ (s.setPart n p) := hs.put
theorem Neat.setPage {n p r} (hs : Neat σ s) : Neat σ (s.setPage n p r) := hs.put

theorem Neat.touchPage {n p} (hs : Neat σ s) : Neat σ (s.touchPage n p) := by
  unfold State.touchPage
  split
  · exact hs
  · exact hs.setPage.put.ite hs.setPage

theorem Neat.touchRange {n p off len tenant write} (hs : Neat σ s) : Neat σ (s.touchRange n p off len tenant write) :=
  hs.ite (hs.foldl fun hu => hu.touchPage.meter)
theorem Neat.setPoison {b v} (hs : Neat σ s) : Neat σ (s.setPoison b v) := hs.put

theorem Neat.writeBlocks {ok off bs n} (hs : Neat σ s) : Neat σ (s.writeBlocks ok off bs n).2 := by
  induction n generalizing s ok off bs with
  | zero => exact hs
  | succ n ih =>
    unfold State.writeBlocks
    split
    · exact hs
    · exact ih (hs.ite (hs.memWrite.setPoison.ite hs.memWrite))

theorem Neat.poolWrite {off bs} (hs : Neat σ s) : Neat σ (s.poolWrite off bs).2 := by
  unfold State.poolWrite
  split
  · exact hs.memWrite
  · exact hs.writeBlocks

/-! ### Machine/Shapers.lean -/

theorem Neat.setShaper {n b} (hs : Neat σ s) : Neat σ (s.setShaper n b) := hs.put
theorem Neat.placeOnWheel {n} (hs : Neat σ s) : Neat σ (s.placeOnWheel n) := hs.setShaper.put
theorem Neat.charge {n cost} (hs : Neat σ s) : Neat σ (s.charge n cost) := hs.ite (hs.setShaper.placeOnWheel.ite hs.setShaper)
theorem Neat.setWeir {n b} (hs : Neat σ s) : Neat σ (s.setWeir n b) := hs.put
theorem Neat.weirPass {n cost} (hs : Neat σ s) : Neat σ (s.weirPass n cost).2 := hs.ite_snd (hs.setWeir.bump.ite_snd hs.setWeir)
theorem Neat.wheelStep (hs : Neat σ s) : Neat σ s.wheelStep := (hs.put.foldl fun hu => hu.setShaper.placeOnWheel.ite hu.setShaper).bumpN

/-! ### Machine/PoolIo.lean -/

theorem Neat.setCkpt {c k} (hs : Neat σ s) : Neat σ (s.setCkpt c k) := hs.put
theorem Neat.ckptCopy {c n p} (hs : Neat σ s) : Neat σ (s.ckptCopy c n p) := by
  unfold State.ckptCopy; exact hs.setCkpt

theorem Neat.ckptKeep {n first count} (hs : Neat σ s) : Neat σ (s.ckptKeep n first count) := by
  unfold State.ckptKeep
  refine hs.foldl fun hu => ?_
  split
  · exact hu.ckptCopy
  · exact hu

theorem Neat.used {off len tenant} (hs : Neat σ s) : Neat σ (s.used off len tenant) := by
  unfold State.used
  split
  · exact hs.touchRange.ite hs
  · exact hs

theorem Neat.fetchUsed {i a n} (hs : Neat σ s) : Neat σ (s.fetchUsed i a n) := hs.used.ite hs

theorem Neat.serviceWrite {off bs tenant use} (hs : Neat σ s) : Neat σ (s.serviceWrite off bs tenant use).2 := by
  unfold State.serviceWrite
  split
  · exact hs
  · split
    · exact hs
    · exact hs.ite_snd hs.ckptKeep.poolWrite.touchRange

theorem Neat.writeLocal {i tc addr bs} (hs : Neat σ s) : Neat σ (s.writeLocal i tc addr bs).2 := by
  unfold State.writeLocal
  refine hs.ite_snd (hs.ite_snd ?_)
  refine hs.serviceWrite.ite_snd (.ite_snd ?_ hs.emit)
  split
  · exact hs
  · exact hs.sramWrite

theorem Neat.setContract {k c} (hs : Neat σ s) : Neat σ (s.setContract k c) := hs.put
theorem Neat.setInChannel {c l} (hs : Neat σ s) : Neat σ (s.setInChannel c l) := hs.put

theorem Neat.poolEffect {o} (hs : Neat σ s) : Neat σ (s.poolEffect o).2.2.2 := by
  unfold State.poolEffect
  dsimp only
  split
  · exact hs
  · split
    · split
      · exact hs
      · split
        · exact hs
        · exact hs.memWrite
    · exact hs.poolWrite

theorem Neat.performPool {r} (hs : Neat σ s) : Neat σ (s.performPool r) := by
  unfold State.performPool
  dsimp only
  split
  · exact hs.respond
  · split
    · exact hs.put.countDeferral
    · split
      · exact hs.setCkpt.countDeferral
      · exact hs.poolEffect.touchRange.setInChannel

theorem Neat.dispatchReq {go : State → PoolReq → State} {k r rest owed} (hs : Neat σ s)
    (hgo : ∀ {t a0}, Neat σ t → Neat σ (go t a0)) :
    Neat σ (s.dispatchReq go k r rest owed) := by
  unfold State.dispatchReq
  extract_lets +onlyGivenNames _ _ _ _ s2 _ s4
  have hs2 : Neat σ s2 := hs.setContract.charge.ite hs.setContract
  have hs4 : Neat σ s4 := (hs2.charge.ite hs2).bumpN
  exact hgo (hs4.countDeferral.ite hs4)

theorem Neat.markHeads {ks f} (hs : Neat σ s) : Neat σ (s.markHeads ks f) := by
  unfold State.markHeads
  refine hs.foldl fun hu => ?_
  dsimp only
  split
  · exact hu.setContract
  · exact hu

theorem Neat.dispatchOne {go : State → PoolReq → State} {ch} (hs : Neat σ s)
    (hgo : ∀ {t a0}, Neat σ t → Neat σ (go t a0)) :
    Neat σ (s.dispatchOne go ch) := by
  unfold State.dispatchOne
  refine hs.ite ?_
  dsimp only
  split
  · split
    · exact hs.markHeads
    · exact hs.markHeads.markHeads.put.dispatchReq hgo
  · split
    · exact hs.markHeads
    · split
      · exact hs.markHeads.put
      · exact (hs.markHeads.put.setContract.ite hs.markHeads.put).dispatchReq hgo

theorem Neat.enqueueAt {go : State → PoolReq → State} {o ch kv defer load} (hs : Neat σ s)
    (hgo : ∀ {t a0}, Neat σ t → Neat σ (go t a0)) :
    Neat σ (s.enqueueAt go o ch kv defer load) := by
  unfold State.enqueueAt
  refine (hs.weirPass.ite_snd hs).respond.ite ((hs.weirPass.ite_snd hs).respond.ite ?_)
  extract_lets +onlyGivenNames _ _ _ s1
  have hs1 : Neat σ s1 := (hs.weirPass.ite_snd hs).put
  exact (hs1.openOp.dispatchReq hgo).ite hs1.openOp.setContract

theorem Neat.enqueuePool {o defer} (hs : Neat σ s) : Neat σ (s.enqueuePool o defer) := hs.enqueueAt .performPool

theorem Neat.poolSubmit {o} (hs : Neat σ s) : Neat σ (s.poolSubmit o) := by
  unfold State.poolSubmit
  dsimp only
  split
  · exact hs.respond
  · refine hs.respond.ite ?_
    split
    · exact hs
    · exact hs.enqueuePool.ite hs.openOp.put.countDeferral

theorem Neat.releasePool {o defer} (hs : Neat σ s) : Neat σ (s.releasePool o defer) := hs.put.performPool

theorem Neat.takeTierError {u} (hs : Neat σ s) : Neat σ (s.takeTierError u).2 := by
  unfold State.takeTierError
  split
  · exact hs
  · exact hs.put

theorem Neat.revertBlocks {d} (hs : Neat σ s) : Neat σ (s.revertBlocks d) := hs.foldl fun hu => (hu.memWrite.ite hu).put

theorem Neat.endAccess {o a defer load} (hs : Neat σ s) : Neat σ (s.endAccess o a defer load) := by
  unfold State.endAccess
  extract_lets +onlyGivenNames w
  have hw : Neat σ w.2 := hs.ite_snd hs.writeLocal
  exact (hw.startNotify.ite hw.respond).ite hw.respond

theorem Neat.finishPool {d a load} (hs : Neat σ s) : Neat σ (s.finishPool d a load) := by
  unfold State.finishPool
  extract_lets +onlyGivenNames s1
  have hs1 : Neat σ s1 := by
    unfold s1
    refine .ite ?_ hs
    split
    · exact hs.bump
    · exact hs
  exact hs1.endAccess

theorem Neat.completeReq {ch id} (hs : Neat σ s) : Neat σ (s.completeReq ch id) := by
  unfold State.completeReq
  split
  · exact hs
  · extract_lets +onlyGivenNames _ late s0 _ _ s2
    have hs0 : Neat σ s0 := by
      unfold s0
      cases late with
      | none => exact hs
      | some => exact hs.elapse
    have hs2 : Neat σ s2 := hs0.setInChannel.setChan.bump
    exact hs2.takeTierError.revertBlocks.finishPool.ite (hs2.finishPool.ite hs2.finishPool)

theorem Neat.failReq {ch d a} (hs : Neat σ s) : Neat σ (s.failReq ch d a) := hs.setInChannel.revertBlocks.finishPool

/-! ### Machine/Front.lean -/

theorem Neat.countArrival {o} (hs : Neat σ s) : Neat σ (s.countArrival o) := by
  unfold State.countArrival
  split
  · exact hs.countIssued.openOp.ite hs
  · exact hs

theorem Neat.forward {o} (hs : Neat σ s) : Neat σ (s.forward o) := (hs.ite hs.openOp).emit

theorem Neat.front {here : State → State} {o postedOk mdMask mcast} (hs : Neat σ s)
    (hhere : ∀ {t}, Neat σ t → Neat σ (here t)) :
    Neat σ (s.front o postedOk mdMask mcast here) := by
  unfold State.front
  refine hs.begin.respond.ite (hs.begin.respond.ite ?_)
  refine hs.begin.respond.ite (hs.begin.respond.ite ?_)
  refine hs.begin.respond.ite ((hs.begin.countArrival.forward.ite hs.begin.respond).ite ?_)
  exact (hhere hs.begin.countArrival).ite (hs.begin.respond.ite hs.begin.countArrival.forward)

theorem Neat.unitOp {here : State → State} {o mdMask} (hs : Neat σ s) (hhere : ∀ {t}, Neat σ t → Neat σ (here t)) :
    Neat σ (s.unitOp o mdMask here) :=
  hs.whenRunning fun hu => hu.front hhere
theorem Neat.homeOp {here : State → State} {o postedOk mdMask} (hs : Neat σ s) (hhere : ∀ {t}, Neat σ t → Neat σ
    (here t)) :
    Neat σ (s.homeOp o postedOk mdMask here) :=
  hs.whenRunning fun hu => hu.begin.respond.ite (hu.front hhere)

theorem Neat.atLocal {go : State → Operation → State} {o n} (hs : Neat σ s)
    (hgo : ∀ {t a0}, Neat σ t → Neat σ (go t a0)) :
    Neat σ (s.atLocal o n go) := by
  unfold State.atLocal
  split
  · exact hs.respond
  · exact hgo hs.fetchUsed

/-! ### Machine/Checkpoint.lean -/

theorem Neat.ckptArm {a c} (hs : Neat σ s) : Neat σ (s.ckptArm a c) := hs.openWrite fun hu => hu.setPart.setCkpt
theorem Neat.execCkptArm {p c} (hs : Neat σ s) : NeatNext σ (execCkptArm p c s) := (hs.begin.whenRunning .ckptArm).next
theorem Neat.ckptRelease {c f} (hs : Neat σ s) : Neat σ (s.ckptRelease c f) := hs.setCkpt.foldl .releasePool
theorem Neat.ckptEnd {c state st} (hs : Neat σ s) : Neat σ (s.ckptEnd c state st) := hs.setPart.setCkpt.ckptRelease

theorem Neat.ckptCancel {a c} (hs : Neat σ s) : Neat σ (s.ckptCancel a c) := by
  unfold State.ckptCancel
  exact hs.openWrite .ckptEnd

theorem Neat.execCkptCancel {p c} (hs : Neat σ s) : NeatNext σ (execCkptCancel p c s) := (hs.begin.whenRunning .ckptCancel).next

theorem Neat.ckptSend {c} (hs : Neat σ s) : Neat σ (s.ckptSend c) := by
  unfold State.ckptSend
  refine hs.ite ?_
  split
  · exact hs
  · exact (hs.setCkpt.charge.ite hs.setCkpt).emit

theorem Neat.ckptPump {c} (hs : Neat σ s) : Neat σ (s.ckptPump c) := hs.ite ((hs.foldl .ckptSend).setCkpt.emit.ite (hs.foldl .ckptSend))
theorem Neat.execCkptStart {c} (hs : Neat σ s) : NeatNext σ (execCkptStart c s) :=
  (hs.begin.whenRunning fun hu => hu.ite hu.elapse.put.setCkpt.ckptPump).next
theorem Neat.execCkptPageCaptured {c page r} (hs : Neat σ s) : NeatNext σ (execCkptPageCaptured c page r s) :=
  (hs.begin.whenRunning fun hu => hu.ite (hu.ckptEnd.ite hu.setCkpt.ckptRelease.ckptPump)).next
theorem Neat.execCowCopyDone {c page} (hs : Neat σ s) : NeatNext σ (execCowCopyDone c page s) :=
  (hs.begin.whenRunning fun hu => hu.ite (hu.setCkpt.ite hu.setCkpt.ckptCopy).ckptRelease).next
theorem Neat.execCkptManifest {c r} (hs : Neat σ s) : NeatNext σ (execCkptManifest c r s) :=
  (hs.begin.whenRunning fun hu => hu.ite (hu.ckptEnd.ite hu.ckptEnd)).next
theorem Neat.setCslot {n x} (hs : Neat σ s) : Neat σ (s.setCslot n x) := hs.put
theorem Neat.csNo {o st reason} (hs : Neat σ s) : Neat σ (csNo s o st reason) := hs.respond
theorem Neat.csOn {go : State → Nat → CommitSlot → State} {o mask} (hs : Neat σ s)
    (hgo : ∀ {t a0 a1}, Neat σ t → Neat σ (go t a0 a1)) :
    Neat σ (s.csOn o mask go) :=
  hs.homeOp fun hu => hu.csNo.ite (hu.csNo.ite (hgo hu))

theorem Neat.execCsOpen {o} (hs : Neat σ s) : NeatNext σ (execCsOpen o s) := by
  unfold Machine.execCsOpen
  refine (hs.csOn fun hu => ?_).next
  refine hu.csNo.ite (hu.csNo.ite ?_)
  refine hu.csNo.ite (hu.csNo.ite ?_)
  refine hu.csNo.ite ?_
  split
  · exact hu.csNo
  · exact hu.csNo.ite hu.setCslot.respond

theorem Neat.csAbortSlot {n} (hs : Neat σ s) : Neat σ (s.csAbortSlot n).2 := by
  unfold State.csAbortSlot
  dsimp only
  split
  · exact hs.setCslot
  · exact hs
  · exact hs
  · exact hs

theorem Neat.execCsAbort {o} (hs : Neat σ s) : NeatNext σ (execCsAbort o s) :=
  (hs.csOn fun hu => hu.csNo.ite (hu.csNo.ite (hu.csAbortSlot.respond.ite hu.csNo))).next

theorem Neat.execCsRelease {o} (hs : Neat σ s) : NeatNext σ (execCsRelease o s) := by
  unfold Machine.execCsRelease
  refine (hs.csOn fun hu => ?_).next
  refine hu.csNo.ite (hu.csNo.ite ?_)
  split
  · exact hu.csNo
  · exact hu.csNo
  · exact hu.csNo
  · exact hu.setCslot.respond

theorem Neat.csClosed {o x} (hs : Neat σ s) : Neat σ (s.csClosed o x) := by
  unfold State.csClosed
  split
  · exact hs.csNo.ite hs.bump.respond
  · exact hs.csNo.ite hs.bump.respond
  · exact hs.csNo

theorem Neat.execCsPut {o} (hs : Neat σ s) : NeatNext σ (execCsPut o s) := by
  unfold Machine.execCsPut
  refine (hs.csOn fun hu => ?_).next
  refine hu.csNo.ite (hu.csNo.ite ?_)
  refine hu.csClosed.ite (hu.csNo.ite ?_)
  refine hu.csNo.ite ?_
  dsimp only
  split
  · exact hu.csNo
  · exact hu.serviceWrite.setCslot.respond.ite hu.serviceWrite.respond

theorem Neat.csApply {x l n} (hs : Neat σ s) : Neat σ (s.csApply x l n).2.2 := by
  induction l generalizing s n with
  | nil => exact hs
  | cons r t ih =>
    unfold State.csApply
    exact .ite_snd_snd (.ite_snd_snd hs.writeLocal (ih hs.writeLocal)) (ih hs.emit)

theorem Neat.execCsCommit {o} (hs : Neat σ s) : NeatNext σ (execCsCommit o s) := by
  unfold Machine.execCsCommit
  refine (hs.csOn fun hu => ?_).next
  refine hu.csNo.ite (hu.csNo.ite ?_)
  refine hu.csClosed.ite (hu.csNo.ite ?_)
  dsimp only
  split
  · exact hu.openOp.setCslot
  · exact hu.openOp.used.csApply.setCslot

theorem Neat.execCsApplyDone {slot r} (hs : Neat σ s) : NeatNext σ (execCsApplyDone slot r s) := by
  unfold Machine.execCsApplyDone
  refine (hs.begin.whenRunning fun hu => ?_).next
  dsimp only
  split
  · exact hu
  · exact hu.ite (hu.notifyAddr.setCslot.respond.ite hu.setCslot.respond)

/-! ### Machine/Traffic.lean -/

theorem Neat.execWheelTick (hs : Neat σ s) : NeatNext σ (execWheelTick s) :=
  (hs.begin.whenRunning fun hu => hu.elapse.wheelStep.foldl .ckptPump).next
theorem Neat.indRead (hs : Neat σ s) : Neat σ s.indRead := hs.foldl .setReg
theorem Neat.execTrfIndRead {i v} (hs : Neat σ s) : NeatNext σ (execTrfIndRead i v s) :=
  (hs.begin.whenRunning fun hu => hu.mgmtWrite .indRead).next
theorem Neat.indWrite (hs : Neat σ s) : Neat σ s.indWrite :=
  hs.setShaper.put.ite (hs.setWeir.ite (hs.setContract.ite hs.setContract.setContract))
theorem Neat.execTrfIndWrite {i v} (hs : Neat σ s) : NeatNext σ (execTrfIndWrite i v s) :=
  (hs.begin.whenRunning fun hu => hu.mgmtWrite .indWrite).next
theorem Neat.setGate {p g} (hs : Neat σ s) : Neat σ (s.setGate p g) := hs.put
theorem Neat.setGateEntry {p e x} (hs : Neat σ s) : Neat σ (s.setGateEntry p e x) := hs.put
theorem Neat.activate {p e at_} (hs : Neat σ s) : Neat σ (s.activate p e at_) := hs.setGate
theorem Neat.gateDefault {p} (hs : Neat σ s) : Neat σ (s.gateDefault p) := hs.setGate
theorem Neat.gateCycleStart {i p v} (hs : Neat σ s) : Neat σ (s.gateCycleStart i p v) := hs.mgmtWrite fun hu => hu.setReg.setGate
theorem Neat.execGateCycleStart {i port v} (hs : Neat σ s) : NeatNext σ (execGateCycleStart i port v s) :=
  (hs.begin.whenRunning .gateCycleStart).next

theorem Neat.execGateCycleBegin {port} (hs : Neat σ s) : NeatNext σ (execGateCycleBegin port s) := by
  unfold Machine.execGateCycleBegin
  refine (hs.begin.whenRunning fun hu => ?_).next
  dsimp only
  split
  · exact hu
  · exact hu.atTick.setGate.activate

theorem Neat.gateCycleStop {i p} (hs : Neat σ s) : Neat σ (s.gateCycleStop i p) := hs.mgmtWrite fun hu => hu.setGate.ite hu
theorem Neat.execGateCycleStop {i port} (hs : Neat σ s) : NeatNext σ (execGateCycleStop i port s) :=
  (hs.begin.whenRunning .gateCycleStop).next

theorem Neat.execGateStopEffect {port} (hs : Neat σ s) : NeatNext σ (execGateStopEffect port s) := by
  unfold Machine.execGateStopEffect
  refine (hs.begin.whenRunning fun hu => ?_).next
  split
  · exact hu
  · exact hu.atTick.gateDefault

theorem Neat.execGateHoldExpiry {port} (hs : Neat σ s) : NeatNext σ (execGateHoldExpiry port s) :=
  (hs.begin.whenRunning fun hu => hu.ite (hu.activate.ite hu.atTick.activate)).next
theorem Neat.gateEntryWrite {i p e v} (hs : Neat σ s) : Neat σ (s.gateEntryWrite i p e v) := hs.takeLo.mgmtWrite .setGateEntry
theorem Neat.execGateEntryWrite {i port entry v} (hs : Neat σ s) : NeatNext σ (execGateEntryWrite i port entry v s) :=
  (hs.begin.whenRunning .gateEntryWrite).next

/-! ### Machine/Arbiter.lean -/

theorem Neat.arbDrop {k} (hs : Neat σ s) : Neat σ (s.arbDrop k) := by
  unfold State.arbDrop
  split
  · exact hs
  · exact hs.setReg.setReg.setReg

theorem Neat.arbPick {k waiting} (hs : Neat σ s) : Neat σ (s.arbPick k waiting).2 := by
  unfold State.arbPick
  refine hs.setReg.ite_snd ?_
  dsimp only
  split
  · exact hs.put
  · exact hs

theorem Neat.arbCycle {k waiting} (hs : Neat σ s) : Neat σ (s.arbCycle k waiting) := by
  unfold State.arbCycle
  extract_lets +onlyGivenNames s1 _ r s3
  have hs1 : Neat σ s1 := by
    unfold s1
    split
    · exact hs.ite hs.arbDrop
    · exact hs
  have hr : Neat σ r.2 := (hs1.foldl .setReg).ite_snd (hs1.foldl .setReg).arbPick
  have hs3 : Neat σ s3 := by
    unfold s3
    split
    · exact hr
    · exact hr.setReg.setReg.setReg
  exact hs3.foldl .setReg

theorem Neat.execArbiterDraw {base waiting} (hs : Neat σ s) : NeatNext σ (execArbiterDraw base waiting s) := by
  unfold Machine.execArbiterDraw
  refine (hs.begin.whenRunning fun hu => ?_).next
  split
  · exact hu
  · exact hu.arbCycle
  · exact hu.arbCycle

theorem Neat.execStarvationFlag {base requester} (hs : Neat σ s) : NeatNext σ (execStarvationFlag base requester s) := by
  unfold Machine.execStarvationFlag
  refine (hs.begin.whenRunning fun hu => ?_).next
  split
  · exact hu
  · exact hu.ite hu.setReg.setReg.put.eventOpen

theorem Neat.arbSeed {i base v} (hs : Neat σ s) : Neat σ (s.arbSeed i base v) := by
  unfold State.arbSeed
  exact hs.openWrite fun hu => hu.setReg.setReg

theorem Neat.execArbiterSeedWrite {i base v} (hs : Neat σ s) : NeatNext σ (execArbiterSeedWrite i base v s) :=
  (hs.begin.whenRunning .arbSeed).next

/-! ### Machine/ClearLog.lean -/

theorem Neat.clearRecord {kind prev number frames start chans} (hs : Neat σ s) :
    Neat σ (s.clearRecord kind prev number frames start chans) :=
  hs.put

/-! ### Machine/Compress.lean -/

theorem Neat.setStream {n x} (hs : Neat σ s) : Neat σ (s.setStream n x) := hs.put
theorem Neat.storeWrite {x off bs} (hs : Neat σ s) : Neat σ (s.storeWrite x off bs).2 := hs.serviceWrite
theorem Neat.storeUsed {x off len} (hs : Neat σ s) : Neat σ (s.storeUsed x off len) := hs.used
theorem Neat.holdTable {h} (hs : Neat σ s) : Neat σ (s.holdTable h) := by
  unfold State.holdTable; exact hs.put
theorem Neat.forgetTables {n slots} (hs : Neat σ s) : Neat σ (s.forgetTables n slots) := hs.put

theorem Neat.fetchTable {ch n slot} (hs : Neat σ s) : Neat σ (s.fetchTable ch n slot).2 := by
  unfold State.fetchTable
  dsimp only
  split
  · exact hs
  · exact hs.storeUsed.holdTable.ite_snd hs.storeUsed.setStream.bump.forgetTables.fault

theorem Neat.table {ch n slot} (hs : Neat σ s) : Neat σ (s.table ch n slot).2 := by
  unfold State.table
  split
  · exact hs.holdTable
  · exact hs.fetchTable

theorem Neat.expandBlock {n k} (hs : Neat σ s) : Neat σ (s.expandBlock n k).2 := by
  unfold State.expandBlock
  extract_lets +onlyGivenNames _ _
  split
  · exact hs
  · refine hs.storeUsed.setStream.bump.ite_snd ?_
    split
    · exact hs.storeUsed
    · extract_lets +onlyGivenNames _ fail
      have hfail : Neat σ fail.2 := hs.storeUsed.storeUsed.setStream.bump
      refine hfail.ite_snd (hfail.ite_snd ?_)
      refine hfail.ite_snd (hs.storeUsed.storeUsed.bump.ite_snd ?_)
      refine hs.storeUsed.storeUsed.bump.ite_snd (hfail.ite_snd ?_)
      extract_lets +onlyGivenNames t
      have ht : Neat σ t.2 := hs.storeUsed.storeUsed.table
      split
      · exact ht.setStream.bump
      · exact ht
      · split
        · exact ht.setStream.bump
        · exact ht.bump

theorem Neat.czNo {o st reason} (hs : Neat σ s) : Neat σ (czNo s o st reason) := hs.respond
theorem Neat.onStream {go : State → Nat → Stream → State} {o} (hs : Neat σ s)
    (hgo : ∀ {t a0 a1}, Neat σ t → Neat σ (go t a0 a1)) :
    Neat σ (s.onStream o go) :=
  hs.czNo.ite (hs.czNo.ite (hs.czNo.ite (hgo hs)))
theorem Neat.czPutDo {o n x} (hs : Neat σ s) : Neat σ (s.czPutDo o n x) :=
  hs.czNo.ite (hs.czNo.ite (hs.czNo.ite (hs.czNo.ite (hs.czNo.ite (hs.czNo.ite hs.setStream.openOp)))))
theorem Neat.execCzPut {o} (hs : Neat σ s) : NeatNext σ (execCzPut o s) :=
  (hs.homeOp fun hu => hu.onStream fun hu => hu.czNo.ite (hu.czNo.ite hu.czPutDo)).next

theorem Neat.sealIfDone {n} (hs : Neat σ s) : Neat σ (s.sealIfDone n) := by
  unfold State.sealIfDone
  dsimp only
  split
  · exact hs
  · exact hs.setStream.respond.ite hs

theorem Neat.czPutFail {n st} (hs : Neat σ s) : Neat σ (s.czPutFail n st) := by
  unfold State.czPutFail
  dsimp only
  split
  · exact hs
  · exact (hs.setStream.respond.foldl .respond).sealIfDone

theorem Neat.czTables {ch n} (hs : Neat σ s) : Neat σ (s.czTables ch n).2 := by
  unfold State.czTables
  refine hs.foldl_snd fun hu => .ite_snd ?_ hu
  dsimp only
  split <;> exact hu.table

theorem Neat.execCzBlockVisible {n} (hs : Neat σ s) : NeatNext σ (execCzBlockVisible n s) := by
  refine (hs.begin.whenRunning fun hu => ?_).next
  extract_lets +onlyGivenNames _
  split
  · exact hu
  · split
    · exact hu
    · extract_lets +onlyGivenNames _ _ coded _ _ r
      have hcoded {k} : Neat σ (coded k).2 := hu.czTables
      have hr : Neat σ r.2 := .ite_snd hcoded hcoded
      refine hr.storeWrite.czPutFail.ite ?_
      extract_lets +onlyGivenNames w2
      have hw2 : Neat σ w2.2 := hr.storeWrite.storeWrite
      refine hw2.czPutFail.ite ?_
      extract_lets +onlyGivenNames _ _ _ v
      have hv : Neat σ v := hw2.setStream.bump.bumpN.bumpN
      exact hv.respond.sealIfDone.ite hv

theorem Neat.expandRange {n lo hi l acc} (hs : Neat σ s) : Neat σ (s.expandRange n lo hi l acc).2.2 := by
  induction l generalizing s acc with
  | nil => exact hs
  | cons k t ih =>
    unfold State.expandRange
    dsimp only
    split
    · exact hs.expandBlock
    · exact ih hs.expandBlock

theorem Neat.czGetDo {o n x} (hs : Neat σ s) : Neat σ (s.czGetDo o n x) := hs.czNo.ite (hs.czNo.ite hs.expandRange.writeLocal.respond)
theorem Neat.execCzGet {o} (hs : Neat σ s) : NeatNext σ (execCzGet o s) :=
  (hs.homeOp fun hu => hu.onStream fun hu => hu.czNo.ite (hu.czNo.ite hu.czGetDo)).next
theorem Neat.czCtl {go : State → Nat → Stream → State} {o mask train} (hs : Neat σ s)
    (hgo : ∀ {t a0 a1}, Neat σ t → Neat σ (go t a0 a1)) :
    Neat σ (s.czCtl o mask train go) :=
  hs.homeOp fun hu => hu.onStream fun hu => hu.czNo.ite (hu.czNo.ite (hu.czNo.ite (hu.czNo.ite (hu.czNo.ite (hgo hu)))))
theorem Neat.execTrain {o} (hs : Neat σ s) : NeatNext σ (execTrain o s) :=
  (hs.czCtl fun hu => hu.czNo.ite (hu.czNo.ite (hu.czNo.ite (hu.czNo.ite (hu.respond.ite hu.used.setStream.openOp))))).next

theorem Neat.loadSlot {n slot l} (hs : Neat σ s) : Neat σ (s.loadSlot n slot l).2 := by
  unfold State.loadSlot
  dsimp only
  split
  · exact hs.storeWrite
  · dsimp only
    exact hs.storeWrite.setStream.forgetTables

theorem Neat.loadSlots {n tables} (hs : Neat σ s) : Neat σ (s.loadSlots n tables).2 := hs.foldl_snd fun hu => hu.ite_snd hu.loadSlot

theorem Neat.execTrainComplete {n} (hs : Neat σ s) : NeatNext σ (execTrainComplete n s) := by
  unfold Machine.execTrainComplete
  refine (hs.begin.whenRunning fun hu => ?_).next
  dsimp only
  split
  · exact hu
  · exact hu.setStream.respond.ite hu.setStream.loadSlots.respond

theorem Neat.execLoadTable {o} (hs : Neat σ s) : NeatNext σ (execLoadTable o s) :=
  (hs.czCtl fun hu => hu.atLocal fun hu => hu.czNo.ite (hu.czNo.ite (hu.czNo.ite hu.loadSlot.respond))).next
theorem Neat.execCzSeal {o} (hs : Neat σ s) : NeatNext σ (execCzSeal o s) :=
  (hs.czCtl fun hu => hu.czNo.ite (hu.czNo.ite hu.setStream.openOp.sealIfDone)).next
theorem Neat.execStreamReset {o} (hs : Neat σ s) : NeatNext σ (execStreamReset o s) :=
  (hs.czCtl fun hu => hu.czNo.ite hu.setStream.openOp).next
theorem Neat.execTableFetch {n slot channel} (hs : Neat σ s) : NeatNext σ (execTableFetch n slot channel s) :=
  (hs.begin.whenRunning fun hu => hu.fetchTable.ite hu).next
theorem Neat.execStreamEnable {a n} (hs : Neat σ s) : NeatNext σ (execStreamEnable a n s) :=
  (hs.begin.whenRunning fun hu => (hu.setStream.ite hu).mgmtWrite fun hu => hu.forgetTables.setStream).next
theorem Neat.poolZero {off len} (hs : Neat σ s) : Neat σ (s.poolZero off len) := hs.memZero.put

theorem Neat.execStreamEnableComplete {n} (hs : Neat σ s) : NeatNext σ (execStreamEnableComplete n s) := by
  unfold Machine.execStreamEnableComplete
  refine (hs.begin.whenRunning fun hu => ?_).next
  refine hu.ckptKeep.poolZero.setStream.ite ?_
  split
  · exact hu
  · exact hu.ckptKeep.poolZero.forgetTables.setStream.respond.ite hu

theorem Neat.streamOff {n} (hs : Neat σ s) : Neat σ (s.streamOff n) := by
  unfold State.streamOff
  extract_lets +onlyGivenNames _ _ _ s2 _ s4
  have hs2 : Neat σ s2 := hs.setStream.foldl .respond
  have hs4 : Neat σ s4 := by
    unfold s4
    split
    · exact (hs2.foldl .respond).respond
    · exact hs2.foldl .respond
  split
  · exact hs4.respond
  · exact hs4

theorem Neat.execStreamDisable {a n} (hs : Neat σ s) : NeatNext σ (execStreamDisable a n s) :=
  (hs.begin.whenRunning fun hu => hu.mgmtWrite fun hu => hu.streamOff.setStream).next

/-! ### Machine/Moves.lean -/

theorem Neat.askMove {n p toNear cause} (hs : Neat σ s) : Neat σ (s.askMove n p toNear cause).2 := by
  unfold State.askMove
  split
  · exact hs.bump.ite hs
  · exact hs.ite_snd hs.put

theorem Neat.endHints (hs : Neat σ s) : Neat σ s.endHints := hs.foldl fun hu => hu.put.respond

theorem Neat.markShort {w} (hs : Neat σ s) : Neat σ (s.markShort w) := by
  unfold State.markShort
  split
  · exact hs
  · exact hs.put

theorem Neat.dropMoves {f} (hs : Neat σ s) : Neat σ (s.dropMoves f).2 := hs.put.endHints
theorem Neat.cancelCause {n cause} (hs : Neat σ s) : Neat σ (s.cancelCause n cause) := hs.dropMoves.bumpN
theorem Neat.beginMove {n p toNear cause dest forPage} (hs : Neat σ s) :
    Neat σ (s.beginMove n p toNear cause dest forPage) :=
  hs.setPart.put

theorem Neat.skipPromotion {n p cause} (hs : Neat σ s) : Neat σ (s.skipPromotion n p cause) := by
  unfold State.skipPromotion
  dsimp only
  split
  · exact hs.bump.markShort.dropMoves.bump
  · exact hs.bump.markShort.dropMoves

theorem Neat.startMove {n p} (hs : Neat σ s) : Neat σ (s.startMove n p) := by
  unfold State.startMove
  split
  · exact hs
  · dsimp only
    split
    · exact hs.put.endHints
    · refine hs.ite (hs.put.endHints.ite ?_)
      split
      · exact hs.put.beginMove.ite hs
      · refine hs.put.markShort.endHints.ite (hs.ite ?_)
        split
        · exact hs.skipPromotion
        · split
          · exact hs.beginMove.setPart.ite hs
          · exact hs.skipPromotion

theorem Neat.releaseHeld {l} (hs : Neat σ s) : Neat σ (s.releaseHeld l) := hs.foldl .releasePool

theorem Neat.switchMove {m} (hs : Neat σ s) : Neat σ (s.switchMove m) := by
  unfold State.switchMove
  dsimp only
  split
  · exact hs.put.endHints
  · exact hs.put.setPage.setPart.bump.releaseHeld.endHints

theorem Neat.cancelMove {m} (hs : Neat σ s) : Neat σ (s.cancelMove m) := hs.put.setPart.bump.releaseHeld.markShort.endHints

theorem Neat.mapPagesIn {n first count f} (hs : Neat σ s) : Neat σ (s.mapPagesIn n first count f) := by
  unfold State.mapPagesIn
  refine hs.foldl fun hu => ?_
  split
  · exact hu.setPage
  · exact hu

theorem Neat.releaseLayer {n first count} (hs : Neat σ s) : Neat σ (s.releaseLayer n first count) := by
  unfold State.releaseLayer
  refine hs.foldl fun hu => ?_
  split
  · exact hu.setPage.put
  · exact hu

theorem Neat.prefetchLayer {n r old cause} (hs : Neat σ s) : Neat σ (s.prefetchLayer n r old cause).2 := by
  unfold State.prefetchLayer
  extract_lets +onlyGivenNames s1
  have hs1 : Neat σ s1 := by
    unfold s1
    split
    · exact hs.releaseLayer
    · exact hs
  exact hs1.mapPagesIn.ite_snd (hs1.mapPagesIn.foldl_snd .askMove)

theorem Neat.layerUsed {n l} (hs : Neat σ s) : Neat σ (s.layerUsed n l) := hs.used

/-! ### Machine/Kv.lean -/

theorem Neat.setStore {t x} (hs : Neat σ s) : Neat σ (s.setStore t x) := hs.putKv

/-- A session that is named, or that holds a handle, or that a request names, is one of the state's. -/
theorem Neat.session {t name x} (hs : Neat σ s) (e : s.session t name = .some x) : SessionsNeat σ → SessionNeat x :=
  hs.listed (List.mem_of_find?_eq_some e)
theorem Neat.kvNamed {kind o x} (hs : Neat σ s) (e : s.kvNamed kind o = .some x) : SessionsNeat σ → SessionNeat x := by
  unfold State.kvNamed at e
  split at e
  · exact hs.session e
  · exact hs.listed (List.mem_of_find?_eq_some e)

/-- A session takes the place of those of its name. -/
theorem Neat.replaceSession {x} (hs : Neat σ s) (hx : SessionsNeat σ → SessionNeat x) : Neat σ (s.setSession x) where
  ports := hs.ports
  sessions h z hz := by
    obtain ⟨y, hy, rfl⟩ := List.mem_map.mp hz
    split
    · exact hx h
    · exact hs.sessions h y hy

/-- Anything else of a session may be written. -/
theorem Neat.setSession {x y} (hs : Neat σ s) (hy : SessionsNeat σ → SessionNeat y) (hw : x.written = y.written := by rfl) :
    Neat σ (s.setSession x) := hs.replaceSession fun h => (congrArg (Store.wf 0) hw).trans (hy h)

theorem Neat.touchSession {t name} (hs : Neat σ s) : Neat σ (s.touchSession t name) := by
  unfold State.touchSession
  split
  · next e => exact hs.setSession (hs.session e)
  · exact hs

theorem Neat.unpinPages {x pages} (hs : Neat σ s) : Neat σ (s.unpinPages x pages).2 := hs.foldl .mapPagesIn
theorem Neat.freeSlots {t l} (hs : Neat σ s) : Neat σ (s.freeSlots t l) := hs.setStore
theorem Neat.endSession {x y st} (hs : Neat σ s) (hy : SessionsNeat σ → SessionNeat y) (hw : x.written = y.written := by rfl) :
    Neat σ (s.endSession x st) :=
  ((hs.unpinPages.ite hs).freeSlots.setSession hy (by exact hw)).putKv

theorem evictees_listed {t writer x} (h : x ∈ s.evictees t writer) : x ∈ s.kv.sessions :=
  List.mem_of_mem_filter (List.mem_of_mem_filter h)

/-- A slot taken comes with the state after it. -/
theorem Neat.takeSlot {t writer n slot u} (hs : Neat σ s) (e : s.takeSlot t writer n = .some (slot, u)) : Neat σ u := by
  induction n generalizing s with
  | zero => cases e
  | succ n ih =>
    unfold State.takeSlot at e
    dsimp only at e
    split at e
    · cases e
      exact hs.free.setStore
    · split at e
      · cases e
      · next ex =>
        have hx := hs.listed (evictees_listed (List.mem_of_getElem? ex))
        split at e
        · exact ih (hs.free.endSession hx).bump e
        · cases e
          exact (hs.free.endSession hx).bump.free.setStore

theorem Neat.pinSlot {x slot} (hs : Neat σ s) : Neat σ (s.pinSlot x slot) := hs.ite (hs.bump.ite (hs.foldl fun hu => hu.mapPagesIn.askMove))

theorem Neat.takePages {t name layer l} (hs : Neat σ s) : NeatSome σ (s.takePages t name layer l) := by
  induction l generalizing s with
  | nil => exact hs.some
  | cons p rest ih =>
    unfold State.takePages
    split
    · exact .none
    · refine .ite (ih hs) (.ite .none ?_)
      split
      · exact .none
      · next slot s1 e =>
        have hs1 := hs.takeSlot e
        split
        · exact .none
        · next ey => exact ih (hs1.setSession (hs1.session ey)).pinSlot

theorem Neat.kvPut {t off bs} (hs : Neat σ s) : Neat σ (s.kvPut t off bs).2 := hs.serviceWrite

theorem Neat.kvGet {t off len} (hs : Neat σ s) : Neat σ (s.kvGet t off len).2 := by
  unfold State.kvGet
  dsimp only
  split
  · exact hs.touchRange
  · exact hs

theorem Neat.writePage {x layer page slot rows tokens} (hs : Neat σ s) :
    Neat σ (s.writePage x layer page slot rows tokens).2 :=
  hs.kvPut.foldl_snd fun hu => hu.foldl_snd .kvPut
theorem Neat.kvNo {o st reason} (hs : Neat σ s) : Neat σ (kvNo s o st reason) := hs.respond
theorem Neat.kvYes {o result} (hs : Neat σ s) : Neat σ (s.kvYes o result) := hs.touchSession.respond

/-- A session may be added in which nothing is written, and others may go. -/
theorem Neat.addSession {p x} (hs : Neat σ s) (hx : x.written = []) :
    Neat σ { s with kv := { s.kv with sessions := s.kv.sessions.filter p ++ [x] } } where
  ports := hs.ports
  sessions h z hz := by
    rcases List.mem_append.mp hz with hz | hz
    · exact hs.listed (List.mem_of_mem_filter hz) h
    · rw [List.mem_singleton.mp hz, SessionNeat, hx]
      rfl

theorem Neat.kvOpenDo {o} (hs : Neat σ s) : Neat σ (s.kvOpenDo o) := by
  unfold State.kvOpenDo
  refine hs.kvNo.ite (hs.kvNo.ite ?_)
  refine hs.kvNo.ite (.ite ?_ (hs.kvNo.ite (hs.kvNo.ite (hs.free.addSession rfl).kvYes)))
  split
  · exact hs.kvYes.ite hs.kvNo
  · exact hs.kvNo

theorem Neat.kvLookupDo {o} (hs : Neat σ s) : Neat σ (s.kvLookupDo o) := by
  unfold State.kvLookupDo
  split
  · exact hs.kvNo
  · exact hs.respond.ite (hs.kvYes.ite hs.kvNo)

theorem Neat.kvOn {f : KvSession → State} {o} (hs : Neat σ s)
    (hf : ∀ {x}, (SessionsNeat σ → SessionNeat x) → Neat σ (f x)) : Neat σ (s.kvOn o f) := by
  unfold State.kvOn
  split
  · exact hs.kvNo
  · next x e =>
    refine hf ?_
    unfold State.ctlSession at e
    split at e
    · cases e
    · next y ey =>
      split at e
      · cases e
        exact hs.session ey
      · cases e

theorem Neat.kvRetainDo {o} (hs : Neat σ s) : Neat σ (s.kvRetainDo o) := hs.kvOn fun hx => hs.kvNo.ite (hs.setSession hx).kvYes
theorem Neat.kvPinDo {o} (hs : Neat σ s) : Neat σ (s.kvPinDo o) :=
  hs.kvOn fun hx => hs.kvNo.ite ((hs.foldl fun hu => hu.mapPagesIn.askMove).setSession hx).kvYes
theorem Neat.kvUnpinDo {o} (hs : Neat σ s) : Neat σ (s.kvUnpinDo o) := hs.kvOn fun hx => (hs.unpinPages.setSession hx).kvYes

/-- The count of a layer may be written. -/
theorem written_neat {x : KvSession} {layer n slots} (hx : SessionNeat x) :
    SessionNeat { x with written := Store.write 0 x.written layer n, slots } := Store.wf_write _ _ _ hx

theorem Neat.truncateLayer {t name layer count} (hs : Neat σ s) : Neat σ (s.truncateLayer t name layer count) := by
  unfold State.truncateLayer
  split
  · exact hs
  · next e =>
    extract_lets +onlyGivenNames _ _ _ _ s1
    have hs1 : Neat σ s1 := (hs.replaceSession fun h => written_neat (hs.session e h)).freeSlots
    refine (hs1.unpinPages.ite hs1).ite ?_
    split
    · exact (hs1.unpinPages.ite hs1).kvPut
    · exact hs1.unpinPages.ite hs1

theorem Neat.truncateDo {t name layer count} (hs : Neat σ s) : Neat σ (s.truncateDo t name layer count) := by
  unfold State.truncateDo
  split
  · exact hs.truncateLayer
  · split
    · exact hs
    · exact hs.foldl .truncateLayer

theorem Neat.kvTruncateDo {o} (hs : Neat σ s) : Neat σ (s.kvTruncateDo o) :=
  hs.kvOn fun hx => hs.kvNo.ite (hs.kvNo.ite (hs.truncateDo.kvYes.ite (hs.setSession hx).openOp))
theorem Neat.kvDeleteDo {o} (hs : Neat σ s) : Neat σ (s.kvDeleteDo o) := hs.kvOn fun hx => (hs.setSession hx).openOp
theorem Neat.kvMoveDo {o destOk} (hs : Neat σ s) : Neat σ (s.kvMoveDo o destOk) :=
  hs.kvOn fun hx => hs.kvNo.ite (hs.kvNo.ite (hs.kvNo.ite (hs.setSession hx).openOp))

theorem markPages_written {x : KvSession} {layer pages} : (x.markPages layer pages).written = x.written := by
  unfold KvSession.markPages
  split <;> rfl

theorem Neat.kvTokenDo {o} (hs : Neat σ s) : Neat σ (s.kvTokenDo o) := by
  unfold State.kvTokenDo
  extract_lets +onlyGivenNames _
  split
  · exact hs.respond
  · refine hs.respond.ite (hs.respond.ite ?_)
    refine hs.respond.ite (hs.respond.ite ?_)
    refine hs.respond.ite ?_
    split
    · exact hs.respond
    · next s1 e =>
      have hs1 : Neat σ s1 := hs.takePages _ e
      split
      · exact hs.respond
      · extract_lets +onlyGivenNames _ w
        have hw : Neat σ w.2 := by
          unfold w
          refine hs1.foldl_snd fun hu => ?_
          split
          · exact hu
          · exact hu.writePage
        refine hw.touchSession.respond.ite ?_
        split
        · exact hw
        · next ez =>
          refine (hw.replaceSession fun h => ?_).endAccess
          rw [SessionNeat, markPages_written]
          exact Store.wf_write _ _ _ (hw.session ez h)

theorem Neat.readSlot {x layer page} (hs : Neat σ s) : Neat σ (s.readSlot x layer page).2 := by
  unfold State.readSlot
  split
  · exact hs
  · dsimp only
    split
    · exact hs.kvGet
    · refine .ite_snd ?_ ?_
      · exact hs.kvGet
      · exact hs.kvGet.bump

theorem Neat.pullPages {x layer l acc} (hs : Neat σ s) : Neat σ (s.pullPages x layer l acc).2.2.2 := by
  induction l generalizing s acc with
  | nil => exact hs
  | cons p rest ih =>
    unfold State.pullPages
    dsimp only
    split
    · exact hs.readSlot
    · exact ih hs.readSlot

theorem Neat.kvPullDo {o} (hs : Neat σ s) : Neat σ (s.kvPullDo o) := by
  unfold State.kvPullDo
  dsimp only
  split
  · exact hs.respond
  · exact hs.respond.ite (hs.respond.ite (hs.respond.ite hs.pullPages.bumpN.touchSession.writeLocal.respond))

theorem Neat.kvAttendDo {o} (hs : Neat σ s) : Neat σ (s.kvAttendDo o) := by
  unfold State.kvAttendDo
  dsimp only
  split
  · exact hs.respond
  · refine hs.respond.ite (hs.respond.ite ?_)
    refine hs.respond.ite (hs.respond.ite ?_)
    exact hs.respond.ite (hs.respond.ite (hs.respond.ite ((hs.putKv.openOp.foldl .askMove).ite hs.putKv.openOp)))

theorem Neat.attendRange {x a l acc} (hs : Neat σ s) : Neat σ (s.attendRange x a l acc).2.2 := by
  induction l generalizing s acc with
  | nil => exact hs
  | cons p rest ih =>
    unfold State.attendRange
    dsimp only
    split
    · exact hs.readSlot
    · exact ih hs.readSlot

theorem Neat.setAttend {a} (hs : Neat σ s) : Neat σ (s.setAttend a) := hs.putKv
theorem Neat.dropAttend {a} (hs : Neat σ s) : Neat σ (s.dropAttend a) := hs.putKv.cancelCause.touchSession
theorem Neat.failAttend {a st} (hs : Neat σ s) : Neat σ (s.failAttend a st) := hs.ite hs.setAttend.respond

theorem Neat.attendDrain {id} (hs : Neat σ s) : Neat σ (s.attendDrain id) := by
  unfold State.attendDrain
  split
  · exact hs
  · exact hs.dropAttend.ite hs

theorem Neat.kvServe {kind o destOk} (hs : Neat σ s) : Neat σ (s.kvServe kind o destOk) := by
  unfold State.kvServe
  refine hs.kvOpenDo.ite (hs.kvLookupDo.ite ?_)
  refine (hs.kvOn fun _ => hs.kvYes).ite ((hs.kvOn fun hx => hs.kvNo.ite (hs.setSession hx).kvYes).ite ?_)
  refine hs.kvRetainDo.ite ((hs.kvOn fun hx => (hs.setSession hx).kvYes).ite ?_)
  refine hs.kvPinDo.ite (hs.kvUnpinDo.ite ?_)
  exact hs.kvTruncateDo.ite (hs.kvDeleteDo.ite (hs.kvMoveDo.ite (hs.kvTokenDo.ite (hs.kvPullDo.ite hs.kvAttendDo))))

theorem Neat.kvRun {kind o destOk} (hs : Neat σ s) : Neat σ (s.kvRun kind o destOk) := by
  unfold State.kvRun
  split
  · next e => exact (hs.setSession (hs.kvNamed e)).openOp.ite hs.kvServe
  · exact hs.kvServe

theorem Neat.kvRelease {t name} (hs : Neat σ s) : Neat σ (s.kvRelease t name) := by
  unfold State.kvRelease
  split
  · exact hs
  · next e => exact hs.ite ((hs.setSession (hs.session e)).foldl .kvRun)

theorem Neat.kvPerform {r} (hs : Neat σ s) : Neat σ (s.kvPerform r) := by
  unfold State.kvPerform
  split
  · exact hs.kvRun
  · exact hs

theorem Neat.kvEnter {kind o destOk} (hs : Neat σ s) : Neat σ (s.kvEnter kind o destOk) := hs.enqueueAt .kvPerform
theorem Neat.kvCtl {o kind useOperand2 destOk} (hs : Neat σ s) : Neat σ (s.kvCtl o kind useOperand2 destOk) :=
  hs.unitOp fun hu => hu.kvNo.ite (hu.kvNo.ite (hu.kvNo.ite (hu.kvNo.ite (hu.kvNo.ite (hu.kvNo.ite hu.kvEnter)))))
theorem Neat.execKvOpen {o} (hs : Neat σ s) : NeatNext σ (execKvOpen o s) := hs.kvCtl.next
theorem Neat.execKvLookup {o} (hs : Neat σ s) : NeatNext σ (execKvLookup o s) := hs.kvCtl.next
theorem Neat.execKvTouch {o} (hs : Neat σ s) : NeatNext σ (execKvTouch o s) := hs.kvCtl.next
theorem Neat.execKvSetTtl {o} (hs : Neat σ s) : NeatNext σ (execKvSetTtl o s) := hs.kvCtl.next
theorem Neat.execKvRetain {o} (hs : Neat σ s) : NeatNext σ (execKvRetain o s) := hs.kvCtl.next
theorem Neat.execKvRelease {o} (hs : Neat σ s) : NeatNext σ (execKvRelease o s) := hs.kvCtl.next
theorem Neat.execKvPinNear {o} (hs : Neat σ s) : NeatNext σ (execKvPinNear o s) := hs.kvCtl.next
theorem Neat.execKvUnpinNear {o} (hs : Neat σ s) : NeatNext σ (execKvUnpinNear o s) := hs.kvCtl.next
theorem Neat.execKvTruncate {o} (hs : Neat σ s) : NeatNext σ (execKvTruncate o s) := hs.kvCtl.next
theorem Neat.execKvDelete {o} (hs : Neat σ s) : NeatNext σ (execKvDelete o s) := hs.kvCtl.next
theorem Neat.execKvMove {o destOk} (hs : Neat σ s) : NeatNext σ (execKvMove o destOk s) := hs.kvCtl.next
theorem Neat.kvRegion {o} (hs : Neat σ s) : Neat σ (s.kvRegion o) := hs.kvEnter.ite (hs.kvEnter.ite (hs.kvEnter.ite hs.respond))
theorem Neat.kvAccess {o posted space kind} (hs : Neat σ s) : Neat σ (s.kvAccess o posted space kind) :=
  hs.whenRunning fun hu => hu.front fun hu => hu.respond.ite (hu.respond.ite hu.kvEnter)
theorem Neat.execKvTokenWrite {o} (hs : Neat σ s) : NeatNext σ (execKvTokenWrite o s) := hs.kvAccess.next
theorem Neat.execKvPagePull {o} (hs : Neat σ s) : NeatNext σ (execKvPagePull o s) := hs.kvAccess.next
theorem Neat.execKvAttend {o} (hs : Neat σ s) : NeatNext σ (execKvAttend o s) := hs.kvAccess.next

theorem Neat.execTruncateEffect {tenant session} (hs : Neat σ s) : NeatNext σ (execTruncateEffect tenant session s) := by
  unfold Machine.execTruncateEffect
  refine (hs.begin.whenRunning fun hu => ?_).next
  split
  · exact hu
  · next e =>
    split
    · exact hu
    · exact hu.ite (hu.setSession (hu.session e)).truncateDo.respond.kvRelease

theorem Neat.execKvDeleteComplete {tenant session} (hs : Neat σ s) :
    NeatNext σ (execKvDeleteComplete tenant session s) := by
  unfold Machine.execKvDeleteComplete
  refine (hs.begin.whenRunning fun hu => ?_).next
  split
  · exact hu
  · next e =>
    have hx := hu.session e
    refine hu.ite ?_
    dsimp only
    split
    · exact (hu.endSession hx).respond
    · exact hu.endSession hx

theorem Neat.moveFails {x m st} (hs : Neat σ s) (hx : SessionsNeat σ → SessionNeat x) : Neat σ (s.moveFails x m st) :=
  (hs.setSession hx).respond.kvRelease

theorem Neat.execKvMoveCopyDone {tenant session st destBase} (hs : Neat σ s) :
    NeatNext σ (execKvMoveCopyDone tenant session st destBase s) := by
  unfold Machine.execKvMoveCopyDone
  refine (hs.begin.whenRunning fun hu => ?_).next
  split
  · exact hu
  · next e =>
    split
    · exact hu
    · exact hu.ite ((hu.moveFails (hu.session e)).ite (hu.setSession (hu.session e)))

theorem Neat.execKvMoveSwitchDone {tenant session st} (hs : Neat σ s) :
    NeatNext σ (execKvMoveSwitchDone tenant session st s) := by
  unfold Machine.execKvMoveSwitchDone
  refine (hs.begin.whenRunning fun hu => ?_).next
  split
  · exact hu
  · next e =>
    have hx := hu.session e
    split
    · exact hu
    · exact hu.ite ((hu.moveFails hx).ite (((hu.setSession hx).ite (hu.endSession hx)).bump.respond.foldl .respond))

theorem Neat.execAttendStart {id} (hs : Neat σ s) : NeatNext σ (execAttendStart id s) := by
  unfold Machine.execAttendStart
  refine (hs.begin.whenRunning fun hu => ?_).next
  split
  · exact hu
  · exact hu.setAttend.ite hu

theorem Neat.execAttendRangeDone {id range clusterReset} (hs : Neat σ s) :
    NeatNext σ (execAttendRangeDone id range clusterReset s) := by
  unfold Machine.execAttendRangeDone
  refine (hs.begin.whenRunning fun hu => ?_).next
  split
  · exact hu
  · refine hu.ite ?_
    split
    · exact hu.dropAttend
    · refine hu.setAttend.attendDrain.ite (hu.setAttend.failAttend.attendDrain.ite ?_)
      extract_lets +onlyGivenNames _ _ _ t1
      have ht1 : Neat σ t1 := hu.attendRange.bumpN.meter
      split
      · exact ht1.setAttend.failAttend.attendDrain
      · exact (ht1.setAttend.ite ht1.setAttend.emit).ite ht1.setAttend

theorem Neat.execAttendOutputVisible {id r} (hs : Neat σ s) : NeatNext σ (execAttendOutputVisible id r s) := by
  unfold Machine.execAttendOutputVisible
  refine (hs.begin.whenRunning fun hu => ?_).next
  split
  · exact hu
  · split
    · extract_lets +onlyGivenNames w
      have hw : Neat σ w.2 := hu.ite_snd hu.writeLocal
      exact hw.respond.dropAttend.ite hw.bump.dropAttend.endAccess.notifyAddr
    · exact hu

theorem Neat.execSessionExpiryCheck (hs : Neat σ s) : NeatNext σ (execSessionExpiryCheck s) :=
  (hs.begin.whenRunning fun hu => hu.foldl_mem fun hx hv => (hv.endSession (hu.listed (List.mem_of_mem_filter hx))).bump).next

theorem Neat.execHandleQuarantineExpiry {base} (hs : Neat σ s) : NeatNext σ (execHandleQuarantineExpiry base s) := by
  unfold Machine.execHandleQuarantineExpiry
  refine (hs.begin.whenRunning fun hu => ?_).next
  split
  · exact hu
  · exact hu.elapse.putKv

theorem Neat.storeOff {t} (hs : Neat σ s) : Neat σ (s.storeOff t) := by
  unfold State.storeOff
  extract_lets +onlyGivenNames _ s1 s2
  have hs1 : Neat σ s1 := hs.foldl fun hu => (hu.ite hu.respond).dropAttend
  have hs2 : Neat σ s2 := by
    refine hs1.foldl_mem fun hx hu => ?_
    extract_lets +onlyGivenNames _ u2 _ u4
    have hu2 : Neat σ u2 := (hu.endSession (hs1.listed (List.mem_of_mem_filter hx))).foldl .respond
    have hu4 : Neat σ u4 := by
      unfold u4
      split
      · exact (hu2.foldl .respond).respond
      · exact hu2.foldl .respond
    split
    · exact hu4.respond
    · exact hu4
  exact hs2.setStore

theorem Neat.storeEnable {a t partition} (hs : Neat σ s) : Neat σ (s.storeEnable a t partition) :=
  (hs.mgmtWrite fun hu => hu).ite ((hs.setStore.ite hs).mgmtWrite .setStore)
theorem Neat.storeDisable {a t} (hs : Neat σ s) : Neat σ (s.storeDisable a t) := hs.mgmtWrite fun hu => (hu.storeOff.ite hu).setStore
theorem Neat.execKvStoreEnable {a t partition} (hs : Neat σ s) : NeatNext σ (execKvStoreEnable a t partition s) :=
  (hs.begin.whenRunning .storeEnable).next
theorem Neat.execKvStoreDisable {a t} (hs : Neat σ s) : NeatNext σ (execKvStoreDisable a t s) := (hs.begin.whenRunning .storeDisable).next

/-! ### Machine/Meadow.lean -/

theorem Neat.setVindex {n x} (hs : Neat σ s) : Neat σ (s.setVindex n x) := hs.put
theorem Neat.vsNo {o r} (hs : Neat σ s) : Neat σ (vsNo s o r) := hs.respond
theorem Neat.vsCtl {go : State → Nat → VIndex → State} {o item} (hs : Neat σ s)
    (hgo : ∀ {t a0 a1}, Neat σ t → Neat σ (go t a0 a1)) :
    Neat σ (s.vsCtl o item go) :=
  hs.homeOp fun hu => hu.vsNo.ite (hu.vsNo.ite (hgo hu))
theorem Neat.setVsStatus {n st} (hs : Neat σ s) : Neat σ (s.setVsStatus n st) := hs.setVindex

theorem Neat.execVsEnable {o} (hs : Neat σ s) : NeatNext σ (execVsEnable o s) := by
  unfold Machine.execVsEnable
  refine (hs.vsCtl fun hu => ?_).next
  refine hu.vsNo.ite (hu.atLocal fun hu => ?_)
  split
  · exact hu.setVsStatus.vsNo
  · extract_lets +onlyGivenNames _ _ t1
    have ht1 : Neat σ t1 := by
      unfold t1
      refine hu.foldl fun hu => ?_
      split
      · exact hu
      · exact hu.setPage.askMove.ite hu.setPage
    exact ht1.setVindex.vsNo

theorem Neat.setVquery {q} (hs : Neat σ s) : Neat σ (s.setVquery q) := hs.put
theorem Neat.dropVquery {id} (hs : Neat σ s) : Neat σ (s.dropVquery id) := hs.put

theorem Neat.execVsQuery {o} (hs : Neat σ s) : NeatNext σ (execVsQuery o s) := by
  unfold Machine.execVsQuery
  refine (hs.homeOp fun hu => ?_).next
  refine hu.vsNo.ite (hu.vsNo.ite ?_)
  refine hu.bump.respond.ite (hu.atLocal fun hu => ?_)
  dsimp only
  split
  · exact hu.bump.respond
  · exact hu.put.setVindex.openOp

theorem Neat.execShardQueryStart {die} (hs : Neat σ s) : NeatNext σ (execShardQueryStart die s) := by
  unfold Machine.execShardQueryStart
  refine (hs.begin.whenRunning fun hu => ?_).next
  split
  · exact hu
  · exact hu.ite hu.free.setVquery

theorem Neat.endVquery {q a} (hs : Neat σ s) : Neat σ (s.endVquery q a) := hs.dropVquery.respond
theorem Neat.failVquery {q st} (hs : Neat σ s) : Neat σ (s.failVquery q st) := hs.endVquery
theorem Neat.vsAccount {c y w} (hs : Neat σ s) : Neat σ (s.vsAccount c y w) :=
  (hs.foldl .touchRange).bumpN.bumpN.bumpN.bumpN.meter.bump.foldl fun hu => hu.bumpN.bumpN

theorem Neat.execShardQueryDone {id shard} (hs : Neat σ s) : NeatNext σ (execShardQueryDone id shard s) := by
  unfold Machine.execShardQueryDone
  refine (hs.begin.whenRunning fun hu => ?_).next
  split
  · exact hu
  · split
    · exact hu
    · refine hu.ite ?_
      dsimp only
      split
      · exact hu.failVquery
      · exact (hu.vsAccount.setVquery.ite hu.vsAccount.setVquery.emit).ite hu.vsAccount.setVquery

theorem Neat.execVsResultVisible {id r} (hs : Neat σ s) : NeatNext σ (execVsResultVisible id r s) := by
  unfold Machine.execVsResultVisible
  refine (hs.begin.whenRunning fun hu => ?_).next
  split
  · exact hu
  · split
    · exact hu
    · extract_lets +onlyGivenNames w
      have hw : Neat σ w.2 := hu.ite_snd hu.writeLocal
      exact hw.failVquery.ite hw.bump.bumpN.endVquery.notifyAddr

theorem Neat.execQueryTimeout {id} (hs : Neat σ s) : NeatNext σ (execQueryTimeout id s) := by
  unfold Machine.execQueryTimeout
  refine (hs.begin.whenRunning fun hu => ?_).next
  split
  · exact hu
  · exact hu.ite hu.elapse.failVquery

theorem Neat.vsWrite {x part off bs} (hs : Neat σ s) : Neat σ (s.vsWrite x part off bs).2 := hs.serviceWrite

theorem Neat.setTomb {x h j v} (hs : Neat σ s) : Neat σ (s.setTomb x h j v).2 := by
  unfold State.setTomb
  dsimp only
  split
  · exact hs
  · exact hs.vsWrite

theorem Neat.vsWrites {x part l} (hs : Neat σ s) : Neat σ (s.vsWrites x part l).2 := by
  induction l generalizing s with
  | nil => exact hs
  | cons e rest ih =>
    unfold State.vsWrites
    exact hs.vsWrite.ite_snd (ih hs.vsWrite)

theorem Neat.vsOn {o x go} (hs : Neat σ s) (hgo : Neat σ go) : Neat σ (s.vsOn o x go) := hs.vsNo.ite hgo

theorem Neat.vsInsertDo {o n x} (hs : Neat σ s) : Neat σ (s.vsInsertDo o n x) := by
  unfold State.vsInsertDo
  extract_lets +onlyGivenNames _ _
  split
  · exact hs.vsNo
  · refine hs.vsNo.ite (hs.vsNo.ite ?_)
    refine hs.vsNo.ite (hs.vsNo.ite ?_)
    refine hs.vsNo.ite (hs.vsNo.ite ?_)
    refine (hs.setTomb.ite_snd hs).vsNo.ite ?_
    extract_lets +onlyGivenNames _ s1
    have hs1 : Neat σ s1 := (hs.setTomb.ite_snd hs).setVindex
    exact (hs1.vsWrite.vsNo.ite hs1.vsWrite.setVindex.vsNo).ite (hs1.vsWrites.vsNo.ite hs1.vsWrites.setTomb.vsNo)

theorem Neat.execVsInsert {o} (hs : Neat σ s) : NeatNext σ (execVsInsert o s) :=
  (hs.vsCtl fun hu => hu.vsOn (hu.vsNo.ite (hu.atLocal .vsInsertDo))).next
theorem Neat.vsKill {x h j item} (hs : Neat σ s) : Neat σ (s.vsKill x h j item).2 :=
  (hs.ite_snd hs.setTomb).foldl_snd fun hu => hu.ite_snd hu.vsWrite

theorem Neat.execVsDelete {o} (hs : Neat σ s) : NeatNext σ (execVsDelete o s) := by
  unfold Machine.execVsDelete
  refine (hs.vsCtl fun hu => ?_).next
  refine hu.vsOn (hu.vsNo.ite ?_)
  dsimp only
  split
  · exact hu.vsNo
  · exact hu.vsNo.ite (hu.vsKill.vsNo.ite (hu.vsKill.vsNo.ite hu.vsKill.setVindex.openOp))

theorem Neat.execVsDeleteComplete {index item} (hs : Neat σ s) : NeatNext σ (execVsDeleteComplete index item s) := by
  unfold Machine.execVsDeleteComplete
  refine (hs.begin.whenRunning fun hu => ?_).next
  dsimp only
  split
  · exact hu
  · exact hu.ite hu.setVindex.respond

theorem Neat.execSetNeighbours {o} (hs : Neat σ s) : NeatNext σ (execSetNeighbours o s) := by
  unfold Machine.execSetNeighbours
  refine (hs.vsCtl fun hu => ?_).next
  refine hu.vsOn (hu.vsNo.ite ?_)
  refine hu.atLocal fun hu => ?_
  dsimp only
  split
  · exact hu.vsNo
  · exact hu.vsNo.ite (hu.vsNo.ite hu.vsWrite.vsNo)

theorem Neat.mergeCopy {x h} (hs : Neat σ s) : Neat σ (s.mergeCopy x h).2 := by
  unfold State.mergeCopy
  refine hs.foldl_snd fun hu => hu.ite_snd ?_
  split
  · exact hu
  · exact hu.vsWrites

theorem Neat.execMerge {o} (hs : Neat σ s) : NeatNext σ (execMerge o s) := by
  unfold Machine.execMerge
  refine (hs.vsCtl fun hu => ?_).next
  refine hu.vsOn (hu.vsNo.ite ?_)
  refine hu.setVsStatus.vsNo.ite (hu.setVsStatus.vsNo.ite ?_)
  extract_lets +onlyGivenNames _ w
  have hw : Neat σ w.2 := hu.foldl_snd fun hu => hu.ite_snd hu.mergeCopy
  exact hw.setVsStatus.vsNo.ite (hw.setVindex.vsNo.ite hw.setVindex.openOp)

theorem Neat.execMergeSwitch {index shard} (hs : Neat σ s) : NeatNext σ (execMergeSwitch index shard s) := by
  unfold Machine.execMergeSwitch
  refine (hs.begin.whenRunning fun hu => ?_).next
  extract_lets +onlyGivenNames _
  split
  · exact hu
  · refine hu.ite ?_
    extract_lets +onlyGivenNames _ w
    have hw : Neat σ w.2 := hu.foldl_snd fun hu => hu.ite_snd hu.setTomb
    exact hw.setVindex.put.respond.ite hw.setVindex.put

theorem Neat.vsUnpin {x} (hs : Neat σ s) : Neat σ (s.vsUnpin x) := by
  unfold State.vsUnpin
  refine hs.foldl fun hu => ?_
  split
  · exact hu.setPage
  · exact hu

theorem Neat.vsStopMerge {n} (hs : Neat σ s) : Neat σ (s.vsStopMerge n) := by
  unfold State.vsStopMerge
  dsimp only
  split
  · exact hs
  · exact hs.setVindex.put.respond

theorem Neat.vsOff {n req} (hs : Neat σ s) : Neat σ (s.vsOff n req) := hs.vsStopMerge.setVindex.foldl .endVquery

theorem Neat.execVsDisable {o} (hs : Neat σ s) : NeatNext σ (execVsDisable o s) := by
  unfold Machine.execVsDisable
  refine (hs.vsCtl fun hu => ?_).next
  refine hu.vsNo.ite ?_
  split
  · exact hu.vsNo
  · exact hu.setVsStatus.vsNo
  · exact hu.vsNo.ite hu.openOp.vsOff

theorem Neat.vsEnd {n} (hs : Neat σ s) : Neat σ (s.vsEnd n) := by
  unfold State.vsEnd
  extract_lets +onlyGivenNames _ _ s2
  have hs2 : Neat σ s2 := hs.vsUnpin.setVindex.foldl .respond
  split
  · exact hs2.respond
  · exact hs2

theorem Neat.vsDone {t : State} {index} (hs : Neat σ t) : Neat σ (t.vsDone index) := hs.vsEnd.ite hs
theorem Neat.vsUnbind {part} (hs : Neat σ s) : Neat σ (s.vsUnbind part) := hs.foldl fun hu => (hu.foldl .failVquery).vsStopMerge.vsEnd

/-! ### Machine/PoolCtl.lean -/

theorem Neat.placePage {n pg} (hs : Neat σ s) : Neat σ (s.placePage n pg) := by
  unfold State.placePage
  dsimp only
  split
  · exact hs
  · exact hs.setPart.setPage

theorem Neat.bindPlace {n} (hs : Neat σ s) : Neat σ (s.bindPlace n) := (hs.foldl .setChan).setPart.foldl .placePage
theorem Neat.partStatus {a n st} (hs : Neat σ s) : Neat σ (s.partStatus a n st) := hs.setPart.ite hs
theorem Neat.partBind {a n} (hs : Neat σ s) : Neat σ (s.partBind a n) := hs.partStatus.mgmtWrite .bindPlace
theorem Neat.execPartitionBind {a n} (hs : Neat σ s) : NeatNext σ (execPartitionBind a n s) := (hs.begin.whenRunning .partBind).next
theorem Neat.execMapWritten {n} (hs : Neat σ s) : NeatNext σ (execMapWritten n s) :=
  (hs.begin.whenRunning fun hu => hu.ite (hu.put.setPart.foldl .enqueuePool)).next
theorem Neat.refuseUndispatched {n} (hs : Neat σ s) : Neat σ (s.refuseUndispatched n) :=
  hs.foldl (fun hu => hu.ite (hu.setContract.foldl .respond)) |>.put.foldl .respond
    |>.foldl fun hu => (hu.put.foldl .respond).cancelMove
theorem Neat.unbindCkpts {n} (hs : Neat σ s) : Neat σ (s.unbindCkpts n) := hs.foldl fun hu => (hu.setCkpt.foldl .respond).ckptEnd.ite hu
theorem Neat.unbindServices {n} (hs : Neat σ s) : Neat σ (s.unbindServices n) := ((hs.foldl .storeOff).foldl .streamOff).vsUnbind
theorem Neat.unbindDo {n} (hs : Neat σ s) : Neat σ (s.unbindDo n) := hs.unbindServices.unbindCkpts.refuseUndispatched.dropMoves.setPart
theorem Neat.partUnbind {a n} (hs : Neat σ s) : Neat σ (s.partUnbind a n) := hs.partStatus.mgmtWrite fun hu => hu.unbindDo.ite hu
theorem Neat.execPartitionUnbind {a n} (hs : Neat σ s) : NeatNext σ (execPartitionUnbind a n s) := (hs.begin.whenRunning .partUnbind).next
theorem Neat.execPartitionClearComplete {n} (hs : Neat σ s) : NeatNext σ (execPartitionClearComplete n s) :=
  (hs.begin.whenRunning fun hu => hu.ite (hu.foldl .setChan).poolZero.put.setPart.clearRecord).next

theorem Neat.repairPage {n pg r} (hs : Neat σ s) : NeatSome σ (s.repairPage n pg r) := by
  unfold State.repairPage
  dsimp only
  generalize State.repairFrame s _ r.near pg = f
  cases f with
  | none => exact .none
  | some k => exact ((hs.setChan.setPart.ite hs.setPart).setPage.foldl .setPoison).some

theorem Neat.repairAll {n l} (hs : Neat σ s) : NeatSome σ (s.repairAll n l) := by
  induction l generalizing s with
  | nil => exact hs.some
  | cons e t ih =>
    unfold State.repairAll
    cases h : s.repairPage n e.1 e.2 with
    | none => exact .none
    | some u => exact ih (hs.repairPage _ h)

theorem Neat.partRepair {a n} (hs : Neat σ s) : Neat σ (s.partRepair a n) := hs.partStatus.mgmtWrite fun hu => hu.getD hu.repairAll
theorem Neat.execPartitionRepair {a n} (hs : Neat σ s) : NeatNext σ (execPartitionRepair a n s) := (hs.begin.whenRunning .partRepair).next
theorem Neat.chanOwnerWrite {a ch owner} (hs : Neat σ s) : Neat σ (s.chanOwnerWrite a ch owner) := hs.mgmtWrite .setChan
theorem Neat.execChannelOwnerWrite {a ch owner} (hs : Neat σ s) : NeatNext σ (execChannelOwnerWrite a ch owner s) :=
  (hs.begin.whenRunning .chanOwnerWrite).next

theorem Neat.failPage {n pg r} (hs : Neat σ s) : Neat σ (s.failPage n pg r) := by
  unfold State.failPage
  dsimp only
  split
  · exact hs.setPage
  · exact (hs.setPage.put.setPart.markShort.foldl fun hu => hu.bump.respond).endHints

theorem Neat.channelFailed {ch} (hs : Neat σ s) : Neat σ (s.channelFailed ch) := by
  unfold State.channelFailed
  refine hs.ite ?_
  extract_lets +onlyGivenNames _ _ s2
  have hs2 : Neat σ s2 := by
    unfold s2
    refine (hs.setChan.foldl .cancelMove).foldl fun hu => ?_
    split
    · exact hu.failPage.ite hu
    · exact hu
  exact (hs2.put.foldl fun hu => hu.foldl .failReq).fault

theorem Neat.chanDeclare {a ch} (hs : Neat σ s) : Neat σ (s.chanDeclare a ch) := hs.mgmtWrite .channelFailed
theorem Neat.chanRestore {a ch} (hs : Neat σ s) : Neat σ (s.chanRestore a ch) := hs.mgmtWrite .setChan
theorem Neat.execChannelDeclareFailed {a ch} (hs : Neat σ s) : NeatNext σ (execChannelDeclareFailed a ch s) :=
  (hs.begin.whenRunning .chanDeclare).next
theorem Neat.execChannelRestore {a ch} (hs : Neat σ s) : NeatNext σ (execChannelRestore a ch s) := (hs.begin.whenRunning .chanRestore).next
theorem Neat.execChannelRetrainDone {ch ok} (hs : Neat σ s) : NeatNext σ (execChannelRetrainDone ch ok s) :=
  (hs.begin.whenRunning fun hu => hu.ite (hu.setChan.answer.ite hu.setChan.answer)).next
theorem Neat.execChannelClearComplete {ch} (hs : Neat σ s) : NeatNext σ (execChannelClearComplete ch s) :=
  (hs.begin.whenRunning fun hu => hu.ite hu.setChan.put.put.clearRecord).next

theorem Neat.execChannelStall {ch} (hs : Neat σ s) : NeatNext σ (execChannelStall ch s) := by
  unfold Machine.execChannelStall
  refine (hs.begin.whenRunning fun hu => ?_).next
  split
  · exact hu
  · exact hu.elapse.channelFailed

theorem Neat.execChannelFatalError {ch} (hs : Neat σ s) : NeatNext σ (execChannelFatalError ch s) :=
  (hs.begin.whenRunning .channelFailed).next

theorem Neat.execUncorrectableError {offset} (hs : Neat σ s) : NeatNext σ (execUncorrectableError offset s) := by
  unfold Machine.execUncorrectableError
  refine (hs.begin.whenRunning fun hu => ?_).next
  split
  · exact hu
  · exact hu.ite hu.setPoison.bump.bump.setInChannel.fault

theorem Neat.execTierDeadlineExpiry {ch id} (hs : Neat σ s) : NeatNext σ (execTierDeadlineExpiry ch id s) := by
  unfold Machine.execTierDeadlineExpiry
  refine (hs.begin.whenRunning fun hu => ?_).next
  split
  · exact hu
  · exact hu.elapse.bump.failReq

theorem Neat.execChannelRequestComplete {channel id} (hs : Neat σ s) :
    NeatNext σ (execChannelRequestComplete channel id s) :=
  (hs.begin.whenRunning .completeReq).next

theorem Neat.execContractDispatch {channel} (hs : Neat σ s) : NeatNext σ (execContractDispatch channel s) := by
  refine (hs.begin.whenRunning fun hu => ?_).next
  split
  · exact hu.dispatchOne .kvPerform
  · exact hu.dispatchOne .performPool

theorem Neat.execPageMoveStart {n page} (hs : Neat σ s) : NeatNext σ (execPageMoveStart n page s) := (hs.begin.whenRunning .startMove).next

theorem Neat.execPageMoveSwitch {n page} (hs : Neat σ s) : NeatNext σ (execPageMoveSwitch n page s) := by
  unfold Machine.execPageMoveSwitch
  refine (hs.begin.whenRunning fun hu => ?_).next
  split
  · exact hu
  · exact hu.ite hu.switchMove

theorem Neat.execMigrationHoldExpiry {n page} (hs : Neat σ s) : NeatNext σ (execMigrationHoldExpiry n page s) := by
  unfold Machine.execMigrationHoldExpiry
  refine (hs.begin.whenRunning fun hu => ?_).next
  split
  · exact hu
  · split
    · exact hu
    · exact hu.elapse.cancelMove

/-! ### Machine/HcuJob.lean -/

theorem Neat.setJob {n j} (hs : Neat σ s) : Neat σ (s.setJob n j) := hs.put

theorem Neat.startJob {n tenant tc slot record} (hs : Neat σ s) : Neat σ (s.startJob n tenant tc slot record) := by
  unfold State.startJob
  refine (hs.setJob.ite hs.setJob.put).ite ?_
  split
  · exact hs.setJob
  · exact hs.setJob.put

theorem Neat.jobPutBytes {j tc addr bs} (hs : Neat σ s) : Neat σ (s.jobPutBytes j tc addr bs).2 := hs.writeLocal.ite_snd hs.emit
theorem Neat.flushHeld {n} (hs : Neat σ s) : Neat σ (s.flushHeld n) := hs.put.foldl .respond
theorem Neat.dropInputs {n} (hs : Neat σ s) : Neat σ (s.dropInputs n) := hs.put.foldl .respond

theorem Neat.jobRelinquish {n} (hs : Neat σ s) : Neat σ (s.jobRelinquish n) := by
  unfold State.jobRelinquish
  extract_lets +onlyGivenNames _ _ _ _ _ s2
  have hs2 : Neat σ s2 := by
    unfold s2
    split
    · exact (hs.put.ite hs).put
    · exact hs.put.ite hs
  exact hs2.setJob

theorem Neat.jobEnd {n final st reason} (hs : Neat σ s) : Neat σ (s.jobEnd n final st reason) := by
  unfold State.jobEnd
  extract_lets +onlyGivenNames s1 _ _ _ s3 _ s5
  have hs1 : Neat σ s1 := hs.dropInputs.jobRelinquish
  have hs3 : Neat σ s3 := hs1.setJob.ite hs1.setJob.jobPutBytes
  have hs5 : Neat σ s5 := hs3.notifyAddr.eventOpen
  exact (hs5.emit.ite hs5).flushHeld

theorem Neat.jobFault {n st reason} (hs : Neat σ s) : Neat σ (s.jobFault n st reason) := hs.jobEnd.ite hs
theorem Neat.jobCheck {n} (hs : Neat σ s) : Neat σ (s.jobCheck n) := by
  unfold State.jobCheck; exact hs.jobEnd.ite hs
theorem Neat.jobCtl {k : Nat → State → State} {t : State} {o useLocal} (hs : Neat σ t)
    (hk : ∀ {a0 t}, Neat σ t → Neat σ (k a0 t)) :
    Neat σ (jobCtl o useLocal k t) :=
  hs.respond.ite (hs.respond.ite (hk hs))

theorem Neat.execJobOpen {o} (hs : Neat σ s) : NeatNext σ (execJobOpen o s) := by
  unfold Machine.execJobOpen
  refine (hs.homeOp fun hu => ?_).next
  refine hu.jobCtl fun hu => hu.respond.ite (hu.respond.ite ?_)
  split
  · exact hu.respond
  · split
    · exact hu.respond
    · split
      · exact hu.respond
      · exact hu.used.startJob.respond

theorem Neat.jobAbort {t : State} {n st} (hs : Neat σ t) : Neat σ (t.jobAbort n st).2 := hs.jobFault.ite_snd hs
theorem Neat.execJobAbort {o} (hs : Neat σ s) : NeatNext σ (execJobAbort o s) :=
  (hs.homeOp fun hu => hu.jobCtl fun hu => hu.respond.ite hu.jobAbort.respond).next
theorem Neat.execJobRelease {o} (hs : Neat σ s) : NeatNext σ (execJobRelease o s) :=
  (hs.homeOp fun hu => hu.jobCtl fun hu => hu.respond.ite (hu.respond.ite (hu.respond.ite hu.setJob.respond))).next
theorem Neat.jobAbortWrite {p n} (hs : Neat σ s) : Neat σ (s.jobAbortWrite p n) := (hs.openWrite fun hu => hu).ite (hs.openWrite .jobAbort)

/-! ### Machine/HcuRun.lean -/

theorem Neat.unitRead {n key bytes} (hs : Neat σ s) : Neat σ (s.unitRead n key bytes) := hs.bumpN.meter

theorem Neat.jobOut {n key addr tc fmt chain bs} (hs : Neat σ s) : Neat σ (s.jobOut n key addr tc fmt chain bs) := by
  unfold State.jobOut
  refine hs.ite (hs.bumpN.setJob.setJob.ite ?_)
  refine hs.bumpN.setJob.emit.ite ?_
  extract_lets +onlyGivenNames r
  have hr : Neat σ r.2 := hs.bumpN.setJob.jobPutBytes
  exact hr.ite hr.jobFault

theorem Neat.packedOut {n pos bs} (hs : Neat σ s) : Neat σ (s.packedOut n pos bs) := hs.jobOut

theorem Neat.deliver {n k} (hs : Neat σ s) : Neat σ (s.deliver n k) := by
  unfold State.deliver
  refine .ite ?_ ?_
  · extract_lets +onlyGivenNames _ _ _ s1
    have hs1 : Neat σ s1 := ((hs.bump.ite hs).bump.ite (hs.bump.ite hs)).setJob
    exact (hs1.ite hs1.jobOut).jobOut
  · extract_lets +onlyGivenNames _ s1
    have hs1 : Neat σ s1 := ((hs.bump.ite hs).bump.ite (hs.bump.ite hs)).setJob
    exact hs1.bumpN.setJob.ite hs1.bumpN.emit

theorem Neat.placeRow {n i bs} (hs : Neat σ s) : Neat σ (s.placeRow n i bs) := by
  unfold State.placeRow
  refine (hs.foldl fun hu => hu.packedOut.setJob).ite (hs.foldl fun hu => ?_)
  split
  · exact hu.jobFault
  · exact hu.used.jobOut.setJob.ite hu.used.jobOut.setJob.jobOut

theorem Neat.dispatchTable {n} (hs : Neat σ s) : Neat σ (s.dispatchTable n) := by
  unfold State.dispatchTable
  extract_lets +onlyGivenNames _
  split
  · exact hs.jobFault
  · refine hs.used.foldl fun hu => ?_
    extract_lets +onlyGivenNames _
    split
    · exact hu.jobFault
    · extract_lets +onlyGivenNames _ _ w
      have hw : Neat σ w.2 := hu.used.bumpN.serviceWrite
      exact hw.ite hw.jobFault

theorem Neat.termsUsed {j rec} (hs : Neat σ s) : Neat σ (s.termsUsed j rec) := by
  unfold State.termsUsed
  refine hs.foldl fun hu => hu.ite ?_
  split
  · exact hu
  · exact hu.ite hu.used

theorem Neat.filterRecord {n rec} (hs : Neat σ s) : Neat σ (s.filterRecord n rec) := by
  unfold State.filterRecord
  refine hs.ite ?_
  split
  · exact hs.setJob.termsUsed.jobFault
  · exact hs.setJob.termsUsed
  · exact hs.setJob.termsUsed.setJob.ite (hs.setJob.termsUsed.packedOut.setJob.ite hs.setJob.termsUsed.setJob)

theorem Neat.filterEnd {n} (hs : Neat σ s) : Neat σ (s.filterEnd n) := hs.ite (hs.foldl fun hu => hu.packedOut.setJob)
theorem Neat.rows {n first bs} (hs : Neat σ s) : Neat σ (s.rows n first bs) := hs.foldl fun hu => hu.ite (hu.filterRecord.ite hu.placeRow)

theorem Neat.allRows {n} (hs : Neat σ s) : Neat σ (s.allRows n) := by
  unfold State.allRows
  extract_lets +onlyGivenNames s1
  have hs1 : Neat σ s1 := hs.dispatchTable.ite (hs.filterEnd.ite hs)
  exact hs1.setJob.jobCheck.ite hs1

theorem Neat.streamEnd {n} (hs : Neat σ s) : Neat σ (s.streamEnd n) := by
  unfold State.streamEnd; exact hs.allRows.ite hs
theorem Neat.consume {n x} (hs : Neat σ s) : Neat σ (s.consume n x) := by
  unfold State.consume; exact hs.unitRead.rows

theorem Neat.takePut {n h key late} (hs : Neat σ s) : NeatSome σ (s.takePut n h key late) := by
  unfold State.takePut
  refine .ite .none ?_
  extract_lets +onlyGivenNames _ _ _ s2
  have hs2 : Neat σ s2 := hs.setJob.respond.ite hs.setJob
  exact hs2.put.some.ite (hs2.foldl .consume).streamEnd.some

theorem Neat.unpark {n x} (hs : Neat σ s) : Neat σ (s.unpark n x) := by
  unfold State.unpark
  extract_lets +onlyGivenNames _ _ _ _ s2
  have hs2 : Neat σ s2 := hs.setJob.ite hs.setJob.respond
  exact hs2.put.ite hs2.put.consume.streamEnd

theorem Neat.judgePut {n h} (hs : Neat σ s) : Neat σ (s.judgePut n h) := by
  unfold State.judgePut
  split
  · extract_lets +onlyGivenNames _ _ s2
    have hs2 : Neat σ s2 := (hs.bump.ite hs).respond
    exact hs2.bump.jobFault.ite hs2
  · exact hs.respond.ite (hs.put.ite (hs.put.getD hs.takePut))

theorem Neat.pumpJobN {k n} (hs : Neat σ s) : Neat σ (State.pumpJobN k n s) := by
  induction k generalizing s with
  | zero => exact hs
  | succ k ih =>
    unfold State.pumpJobN
    dsimp only
    split
    · exact ih hs.unpark
    · split
      · exact hs
      · split
        · exact ih hs.put.respond
        · split
          · next u e => exact ih (hs.put.takePut _ e)
          · exact hs

theorem Neat.pumpJob {n} (hs : Neat σ s) : Neat σ (s.pumpJob n) := hs.pumpJobN
theorem Neat.execJobPut {o port} (hs : Neat σ s) : NeatNext σ (execJobPut o port s) :=
  (hs.homeOp fun hu => hu.respond.ite (hu.respond.ite (hu.respond.ite hu.judgePut))).next

theorem Neat.execHeldJobPutTimeout {job n} (hs : Neat σ s) : NeatNext σ (execHeldJobPutTimeout job n s) := by
  unfold Machine.execHeldJobPutTimeout
  refine (hs.begin.whenRunning fun hu => ?_).next
  split
  · exact hu
  · exact hu.elapse.put.bump.respond.pumpJob

theorem Neat.execJobIdleTimeout {job} (hs : Neat σ s) : NeatNext σ (execJobIdleTimeout job s) :=
  (hs.begin.whenRunning fun hu => hu.ite hu.elapse.jobFault).next

theorem Neat.expReady {t : State} {job} (hs : Neat σ t) : Neat σ (t.expReady job) := by
  unfold State.expReady
  refine hs.ite ?_
  split
  · exact hs.jobFault
  · exact hs.used.setJob

theorem Neat.execJobExponentReady {job} (hs : Neat σ s) : NeatNext σ (execJobExponentReady job s) := (hs.begin.whenRunning .expReady).next

theorem Neat.millstoneSum {n chunk contrib} (hs : Neat σ s) : Neat σ (s.millstoneSum n chunk contrib) := by
  unfold State.millstoneSum
  extract_lets +onlyGivenNames _ _
  split
  · exact hs
  · refine hs.ite ?_
    extract_lets +onlyGivenNames _ _ _ _ s3
    have hs3 : Neat σ s3 := hs.put.setJob.unitRead.arbDrop.ite hs.put.setJob.unitRead
    exact hs3.ite (hs3.deliver.setJob.ite hs3.deliver).pumpJob.jobCheck

theorem Neat.execMillstoneSum {job chunk contrib} (hs : Neat σ s) : NeatNext σ (execMillstoneSum job chunk contrib s) :=
  (hs.begin.whenRunning .millstoneSum).next
theorem Neat.execJobOutputAck {job r} (hs : Neat σ s) : NeatNext σ (execJobOutputAck job r s) :=
  (hs.begin.whenRunning fun hu => hu.ite (hu.jobFault.ite hu.setJob.jobCheck)).next

theorem Neat.gatherStart {n} (hs : Neat σ s) : Neat σ (s.gatherStart n) := by
  unfold State.gatherStart
  dsimp only
  split
  · exact hs.jobFault
  · exact hs.used.jobFault.ite (hs.used.setJob.foldl fun hu => hu.packedOut.setJob)

theorem Neat.dispatchStart {n} (hs : Neat σ s) : Neat σ (s.dispatchStart n) := by
  unfold State.dispatchStart
  extract_lets +onlyGivenNames _
  split
  · exact hs.jobFault
  · exact hs.jobFault
  · extract_lets +onlyGivenNames _ _ _ _ w
    have hw : Neat σ w.2 := hs.used.used.openBytes.serviceWrite
    exact hw.jobFault.ite hw.setJob

theorem Neat.memorySource {n} (hs : Neat σ s) : Neat σ (s.memorySource n) := by
  unfold State.memorySource
  extract_lets +onlyGivenNames _ _ s1
  have hs1 : Neat σ s1 := by
    unfold s1
    refine hs.foldl fun hu => hu.ite ?_
    split
    · exact hu.jobFault
    · exact hu.used.unitRead.rows
  exact hs1.allRows

theorem Neat.hcuStart {key} (hs : Neat σ s) : Neat σ (s.hcuStart key) := by
  unfold State.hcuStart
  split
  · exact hs
  · refine hs.ite ?_
    extract_lets +onlyGivenNames _ _ _ _ s3
    have hs3 : Neat σ s3 := hs.put.setJob.gatherStart.ite (hs.put.setJob.dispatchStart.ite hs.put.setJob)
    exact hs3.ite (hs3.pumpJob.streamEnd.ite hs3.memorySource)

theorem Neat.execHcuJobStart {unit} (hs : Neat σ s) : NeatNext σ (execHcuJobStart unit s) := (hs.begin.whenRunning .hcuStart).next

theorem Neat.execGatherSortDone {job} (hs : Neat σ s) : NeatNext σ (execGatherSortDone job s) := by
  unfold Machine.execGatherSortDone
  refine (hs.begin.whenRunning fun hu => ?_).next
  refine hu.ite ?_
  extract_lets +onlyGivenNames _ w
  have hw : Neat σ w.2 := hu.openBytes.serviceWrite
  exact hw.jobFault.ite hw.setJob.pumpJob.streamEnd

theorem Neat.hcuLose {key st reason} (hs : Neat σ s) : Neat σ (s.hcuLose key st reason) := hs.foldl .jobFault

/-! ### Machine/Security.lean -/

theorem Neat.setTenant {t x} (hs : Neat σ s) : Neat σ (s.setTenant t x) := hs.put
theorem Neat.setCrypt {p c} (hs : Neat σ s) : Neat σ (s.setCrypt p c) := hs.put
theorem Neat.setBank {b x} (hs : Neat σ s) : Neat σ (s.setBank b x) := hs.put
theorem Neat.setKey {slot k} (hs : Neat σ s) : Neat σ (s.setKey slot k) := hs.put

theorem Neat.destroyKey {slot} (hs : Neat σ s) : Neat σ (s.destroyKey slot) := by
  unfold State.destroyKey
  split
  · exact hs
  · exact hs.setKey.eventOpen

theorem Neat.destroyKeys {p} (hs : Neat σ s) : Neat σ (s.destroyKeys p) := hs.foldl .destroyKey
theorem Neat.keyCheck (hs : Neat σ s) : Neat σ s.keyCheck := hs.destroyKeys
theorem Neat.measurementsUpdated (hs : Neat σ s) : Neat σ s.measurementsUpdated := hs.keyCheck.put
theorem Neat.tenantWrite {a t enable requireEnc} (hs : Neat σ s) : Neat σ (s.tenantWrite a t enable requireEnc) :=
  (hs.setTenant.ite hs).mgmtWrite fun hu => hu.setTenant.keyCheck.ite hu.setTenant.keyCheck.destroyKeys
theorem Neat.execTenantEnable {a t requireEnc} (hs : Neat σ s) : NeatNext σ (execTenantEnable a t requireEnc s) :=
  (hs.begin.whenRunning .tenantWrite).next
theorem Neat.execTenantDisable {a t requireEnc} (hs : Neat σ s) : NeatNext σ (execTenantDisable a t requireEnc s) :=
  (hs.begin.whenRunning .tenantWrite).next
theorem Neat.zeroClusterSram {c} (hs : Neat σ s) : Neat σ (s.zeroClusterSram c) := hs.sramZero.sramZero
theorem Neat.zeroClusterRegs {c} (hs : Neat σ s) : Neat σ (s.zeroClusterRegs c) := hs.foldl .put
theorem Neat.clusterGive {c owner} (hs : Neat σ s) : Neat σ (s.clusterGive c owner) :=
  hs.zeroClusterSram.zeroClusterRegs.setUnit.put.foldl .setQueue
theorem Neat.clusterOwnerWrite {i w v} (hs : Neat σ s) : Neat σ (s.clusterOwnerWrite i w v) := hs.mgmtWrite fun hu => hu.foldl .clusterGive
theorem Neat.execClusterOwnerWrite {i w v} (hs : Neat σ s) : NeatNext σ (execClusterOwnerWrite i w v s) :=
  (hs.begin.whenRunning .clusterOwnerWrite).next

theorem Neat.execClusterClearComplete {cluster} (hs : Neat σ s) : NeatNext σ (execClusterClearComplete cluster s) := by
  unfold Machine.execClusterClearComplete
  refine (hs.begin.whenRunning fun hu => ?_).next
  split
  · exact hu
  · exact hu.put.setUnit.clearRecord

theorem Neat.portBindWrite {i p v} (hs : Neat σ s) : Neat σ (s.portBindWrite i p v) := hs.mgmtWrite fun hu => hu.put.keyCheck
theorem Neat.execPortBindWrite {i port v} (hs : Neat σ s) : NeatNext σ (execPortBindWrite i port v s) :=
  (hs.begin.whenRunning .portBindWrite).next
theorem Neat.assignDo {sync first count owner} (hs : Neat σ s) : Neat σ (s.assignDo sync first count owner) :=
  hs.foldl fun hu => (hu.ite hu.setSync).ite (hu.ite hu.setQueue)
theorem Neat.secAssign {i v} (hs : Neat σ s) : Neat σ (s.secAssign i v) := hs.mgmtWrite .assignDo
theorem Neat.execSecAssign {i v} (hs : Neat σ s) : NeatNext σ (execSecAssign i v s) := (hs.begin.whenRunning .secAssign).next

theorem Neat.keyDestroy {session slot} (hs : Neat σ s) : Neat σ (s.keyDestroy session slot).2 := by
  unfold State.keyDestroy
  split
  · exact hs
  · exact hs.destroyKey.ite_snd hs

theorem Neat.execKeyDestroy {session slot} (hs : Neat σ s) : NeatNext σ (execKeyDestroy session slot s) :=
  (hs.begin.whenRunning fun hu => hu.keyDestroy.answer).next

theorem Neat.spdmAnswer {port r} (hs : Neat σ s) : Neat σ (s.spdmAnswer port r).2.2 := by
  unfold State.spdmAnswer
  dsimp only
  split
  · exact hs
  · exact hs
  · exact hs.ite_snd_snd hs.put
  · exact hs.put.ite_snd_snd hs
  · exact hs.put.ite_snd_snd hs
  · exact hs
  · exact hs.ite_snd_snd hs
  · exact hs
  · exact hs.ite_snd_snd hs
  · exact hs.ite_snd_snd hs
  · exact hs.keyDestroy
  · exact hs

theorem Neat.spdm {port r} (hs : Neat σ s) : Neat σ (s.spdm port r) := by
  unfold State.spdm; exact hs.spdmAnswer.emit.put
theorem Neat.execSpdmMessage {port r} (hs : Neat σ s) : NeatNext σ (execSpdmMessage port r s) := (hs.begin.whenRunning .spdm).next

theorem Neat.keyRelease {session b} (hs : Neat σ s) : Neat σ (s.keyRelease session b) := by
  unfold State.keyRelease
  split
  · exact (hs.free.eventOpen.ite hs).answer
  · exact hs.free.setKey.answer

theorem Neat.execKeyRelease {session payload} (hs : Neat σ s) : NeatNext σ (execKeyRelease session payload s) :=
  (hs.begin.whenRunning .keyRelease).next

theorem Neat.decryptDo {o} (hs : Neat σ s) : Neat σ (s.decryptDo o) := by
  unfold State.decryptDo
  extract_lets +onlyGivenNames _ _ _
  split
  · extract_lets +onlyGivenNames _ _ s1
    have hs1 : Neat σ s1 := (hs.setPart.ite hs).ckptKeep.touchRange.meter
    refine hs1.used.respond.ite ?_
    split <;> exact hs1.used.poolWrite.respond
  · exact hs

theorem Neat.execMkDecrypt {o} (hs : Neat σ s) : NeatNext σ (execMkDecrypt o s) := by
  unfold Machine.execMkDecrypt
  refine (hs.unitOp fun hu => ?_).next
  split
  · exact hu.respond
  · exact hu.decryptDo

theorem Neat.firmwareEnd {p st refused} (hs : Neat σ s) : Neat σ (s.firmwareEnd p st refused) := hs.takeArm.put.free.eventOpen.answer
theorem Neat.firmwareVerify {p} (hs : Neat σ s) : Neat σ (s.firmwareVerify p) := hs.setBank.firmwareEnd.ite hs.setBank.firmwareEnd
theorem Neat.whenManaged {f : State → State} (hs : Neat σ s) (hf : ∀ {t}, Neat σ t → Neat σ (f t)) :
    Neat σ (s.whenManaged f) :=
  (hf hs).ite hs
theorem Neat.execVerify {p} (hs : Neat σ s) : NeatNext σ (execVerify p s) := (hs.begin.whenManaged .firmwareVerify).next
theorem Neat.firmwareActivate {p} (hs : Neat σ s) : Neat σ (s.firmwareActivate p) := hs.put.firmwareEnd.ite hs.firmwareEnd
theorem Neat.execActivate {p} (hs : Neat σ s) : NeatNext σ (execActivate p s) := (hs.begin.whenManaged .firmwareActivate).next

theorem Neat.firmwareCommit {p burn} (hs : Neat σ s) : Neat σ (s.firmwareCommit p burn) := by
  unfold State.firmwareCommit
  refine hs.firmwareEnd.ite ?_
  split
  · exact hs.put.keyCheck.firmwareEnd
  · exact hs.fault.firmwareEnd

theorem Neat.execCommit {p burn} (hs : Neat σ s) : NeatNext σ (execCommit p burn s) := (hs.begin.whenRunning .firmwareCommit).next

theorem Neat.firmwareAbort {p} (hs : Neat σ s) : Neat σ (s.firmwareAbort p) := by
  unfold State.firmwareAbort
  split
  · exact hs.firmwareEnd
  · exact hs.put.firmwareEnd

theorem Neat.execAbort {p} (hs : Neat σ s) : NeatNext σ (execAbort p s) := (hs.begin.whenRunning .firmwareAbort).next

/-! ### Machine/PlanImage.lean -/

theorem Neat.setUnits {base ns slot} (hs : Neat σ s) : Neat σ (s.setUnits base ns slot) := hs.put

theorem Neat.takeClaim {slot c} (hs : Neat σ s) : Neat σ (s.takeClaim slot c) := by
  unfold State.takeClaim
  dsimp only
  split
  · exact hs.put
  · exact (hs.foldl .setQueue).ite hs
  · exact hs.foldl .setSync
  · exact hs.dropMoves.setPart
  · exact hs.setGate
  · exact hs.put
  · exact (hs.foldl .hcuLose).setUnits
  · exact hs.setUnits
  · exact hs.setUnits
  · exact hs.put
  · exact hs

theorem Neat.dropClaim {slot c} (hs : Neat σ s) : Neat σ (s.dropClaim slot c) := by
  unfold State.dropClaim
  dsimp only
  split
  · exact hs.put
  · exact (hs.foldl .setQueue).ite hs
  · exact hs.foldl .setSync
  · exact hs.setPart
  · exact hs.gateDefault.setGate
  · exact hs.put
  · exact hs.setUnits
  · exact hs.setUnits
  · exact hs.setUnits
  · exact hs.put
  · exact hs

theorem Neat.takeClaims {slot i l n} (hs : Neat σ s) : NeatOk σ (State.takeClaims slot i l n s) := by
  induction l generalizing s n with
  | nil => exact hs.ok
  | cons c t ih =>
    unfold State.takeClaims
    split
    · exact .error
    · exact ih hs.takeClaim

/-! ### Machine/Plans.lean -/

theorem Neat.setSlot {n x} (hs : Neat σ s) : Neat σ (s.setSlot n x) := hs.put
theorem Neat.planEvent {n st} (hs : Neat σ s) : Neat σ (s.planEvent n st) := hs.eventOpen
theorem Neat.planOutcome {n st} (hs : Neat σ s) : Neat σ (s.planOutcome n st) := hs.setSlot.planEvent
theorem Neat.planCommand {eff : State → State} {a n c more} (hs : Neat σ s) (heff : ∀ {t}, Neat σ t → Neat σ (eff t)) :
    Neat σ (s.planCommand a n c more eff) :=
  hs.openWrite heff
theorem Neat.loadFails {n st section_ claim} (hs : Neat σ s) : Neat σ (s.loadFails n st section_ claim) :=
  hs.setNum.setNum.setNum.planOutcome
theorem Neat.openPlanJobs {n i} (hs : Neat σ s) : Neat σ (s.openPlanJobs n i) := hs.foldl .startJob

theorem Neat.planLoad {n} (hs : Neat σ s) : Neat σ (s.planLoad n) := by
  unfold State.planLoad
  split
  · exact hs.loadFails
  · split
    · exact hs.loadFails
    · split
      · exact hs.loadFails
      · refine hs.loadFails.ite ?_
        split
        · exact hs.loadFails
        · dsimp only
          split
          · exact hs.loadFails
          · next u e =>
            have hu : Neat σ u := hs.takeClaims _ e
            exact hu.used.setSlot.put.openPlanJobs

theorem Neat.execPlanLoad {p slot} (hs : Neat σ s) : NeatNext σ (execPlanLoad p slot s) :=
  (hs.begin.whenRunning fun hu => hu.planCommand .planLoad).next

theorem Neat.copyProgram {n i} (hs : Neat σ s) : NeatOk σ (s.copyProgram n i) := by
  unfold State.copyProgram
  refine hs.ok.ite ?_
  split
  · exact .error
  · extract_lets +onlyGivenNames _ t
    have ht : Neat σ t := by
      unfold t
      refine hs.used.foldl fun hu => ?_
      split
      · exact hu.sramWrite
      · exact hu
    exact ht.setSlot.ok

theorem Neat.loadGates {i} (hs : Neat σ s) : Neat σ (s.loadGates i) := hs.foldl .setGateEntry
theorem Neat.planEmpty {n i} (hs : Neat σ s) : Neat σ (s.planEmpty n i) :=
  ((hs.foldl fun hu => hu.dropInputs.setJob).foldl .dropClaim).put.put.setSlot

theorem Neat.execPlanLoadCopyDone {slot st} (hs : Neat σ s) : NeatNext σ (execPlanLoadCopyDone slot st s) := by
  unfold Machine.execPlanLoadCopyDone
  refine (hs.begin.whenRunning fun hu => ?_).next
  dsimp only
  split
  · exact hu
  · refine hu.ite ?_
    split
    · exact hu.planEmpty.loadFails
    · next u e =>
      have hu : Neat σ u := (hu.copyProgram.ite .error) _ e
      exact hu.loadGates.setSlot.setNum.loadFails

theorem Neat.execClusterDrained {cluster} (hs : Neat σ s) : NeatNext σ (execClusterDrained cluster s) := by
  unfold Machine.execClusterDrained
  refine (hs.begin.whenRunning fun hu => ?_).next
  split
  · exact hu
  · exact hu.ite hu.setSlot

theorem Neat.knowHalt {n h} (hs : Neat σ s) : Neat σ (s.knowHalt n h) := by
  unfold State.knowHalt
  dsimp only
  split
  · exact hs
  · split
    · exact hs
    · exact hs.setSlot

theorem Neat.issueHalt {n cause byRotation injected} (hs : Neat σ s) :
    Neat σ (s.issueHalt n cause byRotation injected) := by
  unfold State.issueHalt
  dsimp only
  split
  · exact hs
  · exact hs.ite (hs.setSlot.knowHalt.foldl .emit)

theorem Neat.stopFlorets {n} (hs : Neat σ s) : Neat σ (s.stopFlorets n) := by
  unfold State.stopFlorets; exact hs.put
theorem Neat.slotGates {f : State → Nat → State} {n} (hs : Neat σ s) (hf : ∀ {t a0}, Neat σ t → Neat σ (f t a0)) :
    Neat σ (s.slotGates n f) :=
  hs.foldl fun hu => hf hu
theorem Neat.planClocks {i on} (hs : Neat σ s) : Neat σ (s.planClocks i on) := hs.foldl .setClusterClock

theorem Neat.planStop {n cause faulted} (hs : Neat σ s) : Neat σ (s.planStop n cause faulted) := by
  unfold State.planStop
  dsimp only
  split
  · exact hs
  · exact (hs.setSlot.setNum.setNum.setNum.stopFlorets.slotGates .setGate).planClocks.planEvent

theorem Neat.haltEffect {n} (hs : Neat σ s) : Neat σ (s.haltEffect n) := by
  unfold State.haltEffect
  dsimp only
  split
  · exact hs
  · split
    · exact hs
    · exact hs.planStop

theorem Neat.planContain {n cause} (hs : Neat σ s) : Neat σ (s.planContain n cause) := hs.issueHalt.planStop.ite hs

theorem Neat.memberArm {planId start resume} (hs : Neat σ s) : Neat σ (s.memberArm planId start resume).2 := by
  unfold State.memberArm
  refine hs.ite_snd ?_
  dsimp only
  split
  · exact hs.setSlot.planClocks
  · exact hs.setSlot

theorem Neat.memberDisarm {planId} (hs : Neat σ s) : Neat σ (s.memberDisarm planId) := by
  unfold State.memberDisarm
  split
  · exact hs
  · dsimp only
    split
    · exact hs
    · exact hs.ite hs.setSlot.planClocks

theorem Neat.disarmAll {i} (hs : Neat σ s) : Neat σ (s.disarmAll i) := hs.foldl fun hu => hu.memberDisarm.ite hu.emit

theorem Neat.armAll {n resume} (hs : Neat σ s) : Neat σ (s.armAll n resume) := by
  unfold State.armAll
  split
  · exact hs
  · exact hs.setSlot.foldl fun hu => hu.memberArm.setSlot.ite hu.emit

theorem Neat.execPlanArm {p slot} (hs : Neat σ s) : NeatNext σ (execPlanArm p slot s) :=
  (hs.begin.whenRunning fun hu => hu.planCommand .armAll).next
theorem Neat.execPlanResume {p slot} (hs : Neat σ s) : NeatNext σ (execPlanResume p slot s) :=
  (hs.begin.whenRunning fun hu => hu.planCommand .armAll).next
theorem Neat.execArmRequest {planId start fromNode resume} (hs : Neat σ s) :
    NeatNext σ (execArmRequest planId start fromNode resume s) :=
  (hs.begin.whenRunning fun hu => hu.memberArm.emit).next

theorem Neat.execArmReply {planId member st} (hs : Neat σ s) : NeatNext σ (execArmReply planId member st s) := by
  unfold Machine.execArmReply
  refine (hs.begin.whenRunning fun hu => ?_).next
  split
  · exact hu
  · exact hu.setSlot.ite hu

theorem Neat.armDecide {t : State} {n} (hs : Neat σ t) : Neat σ (t.armDecide n) := by
  unfold State.armDecide
  dsimp only
  split
  · exact hs
  · refine hs.ite ?_
    split
    · exact hs.atFtc.setNum.setNum.planOutcome
    · exact hs.atFtc.disarmAll.setNum.setNum.planOutcome

theorem Neat.planDisarm {a n} (hs : Neat σ s) : Neat σ (s.planDisarm a n) := by
  unfold State.planDisarm
  refine hs.planCommand fun hu => ?_
  split
  · exact hu
  · exact hu.disarmAll.planOutcome

theorem Neat.execPlanStart {slot} (hs : Neat σ s) : NeatNext σ (execPlanStart slot s) :=
  (hs.begin.whenRunning fun hu => hu.ite hu.atFtc.setSlot).next
theorem Neat.planHalt {a n boundary} (hs : Neat σ s) : Neat σ (s.planHalt a n boundary) := hs.planCommand fun hu => hu.issueHalt.planOutcome
theorem Neat.execPlanHaltBoundary {a slot} (hs : Neat σ s) : NeatNext σ (execPlanHaltBoundary a slot s) :=
  (hs.begin.whenRunning .planHalt).next
theorem Neat.execPlanHaltNow {a slot} (hs : Neat σ s) : NeatNext σ (execPlanHaltNow a slot s) := (hs.begin.whenRunning .planHalt).next
theorem Neat.zeroPlanRegs {i} (hs : Neat σ s) : Neat σ (s.zeroPlanRegs i) := hs.foldl .zeroClusterRegs

theorem Neat.planReset {t : State} {n} (hs : Neat σ t) : Neat σ (t.planReset n) := by
  unfold State.planReset
  split
  · exact hs
  · split
    · exact hs.planOutcome
    · next u e =>
      have hu : Neat σ u := hs.copyProgram _ e
      exact (hu.zeroPlanRegs.setSlot.foldl fun hu => hu.dropInputs.jobRelinquish.startJob).planOutcome

theorem Neat.execPlanReset {p slot} (hs : Neat σ s) : NeatNext σ (execPlanReset p slot s) :=
  (hs.begin.whenRunning fun hu => hu.planCommand .planReset).next

theorem Neat.execPlanUnload {p slot} (hs : Neat σ s) : NeatNext σ (execPlanUnload p slot s) := by
  unfold Machine.execPlanUnload
  refine (hs.begin.whenRunning fun hu => ?_).next
  refine hu.planCommand fun hu => ?_
  split
  · exact hu
  · exact hu.planEmpty.planOutcome

theorem Neat.exchangeData {n i d} (hs : Neat σ s) : Neat σ (s.exchangeData n i d).2 := by
  unfold State.exchangeData
  refine .ite_snd ?_ ?_
  · dsimp only
    split
    · exact hs
    · exact hs.setJob
  · refine .ite_snd ?_ ?_
    · split
      · exact hs.used
      · exact hs.issueHalt.ite hs
    · refine .ite_snd ?_ hs
      split <;> exact hs

theorem Neat.departures {n i t} (hs : Neat σ s) : Neat σ (s.departures n i t) := by
  unfold State.departures
  refine hs.foldl fun hu => hu.ite ?_
  split
  · exact hu
  · refine hu.ite ?_
    extract_lets +onlyGivenNames _
    split
    · exact hu.exchangeData
    · extract_lets +onlyGivenNames v
      have hv : Neat σ v := hu.exchangeData.emit.ite hu.exchangeData
      exact hv.setSlot.ite hv

theorem Neat.planInput {i d tick bs} (hs : Neat σ s) : NeatSome σ (s.planInput i d tick bs) := by
  unfold State.planInput
  refine .ite .none ?_
  split
  · exact (hs.bump.jobFault.ite hs).some
  · exact hs.takePut

theorem Neat.latch {n i d tick bs} (hs : Neat σ s) : NeatSome σ (s.latch n i d tick bs) := by
  unfold State.latch
  refine hs.planInput.ite ((hs.serviceWrite.issueHalt.ite hs.serviceWrite).some.ite ?_)
  refine .ite ?_ hs.emit.some
  split
  · exact hs.some
  · exact hs.sramWrite.some

theorem Neat.exchangeEffect {n i k d rot tick slack} (hs : Neat σ s) :
    Neat σ (s.exchangeEffect n i k d rot tick slack) := by
  unfold State.exchangeEffect
  dsimp only
  split
  · exact hs.bump.issueHalt
  · refine hs.setSlot.bump.issueHalt.ite ?_
    split
    · exact hs.setSlot.bump.issueHalt
    · next u e =>
      have hu : Neat σ u := hs.setSlot.latch _ e
      exact hu.bump.ite (hu.bump.ite hu)

theorem Neat.startEntry {n c k} (hs : Neat σ s) : Neat σ (s.startEntry n c k) := hs.issueHalt.ite (hs.foldl .put)

theorem Neat.entryEffect {n i k e t tick slacks} (hs : Neat σ s) : Neat σ (s.entryEffect n i k e t tick slacks) := by
  unfold State.entryEffect
  split
  · split
    · exact hs
    · exact hs.exchangeEffect.ite hs
  · exact hs.activate
  · exact hs.startEntry
  · exact hs.syncUpdate.ite hs
  · split
    · exact hs
    · exact hs.prefetchLayer
  · exact hs.setNum

theorem Neat.performTick {n i tick slacks} (hs : Neat σ s) : Neat σ (s.performTick n i tick slacks) :=
  (hs.foldl fun hu => hu.entryEffect.ite hu).departures

theorem Neat.slipIssue {n tick injected} (hs : Neat σ s) : Neat σ (s.slipIssue n tick injected) := by
  unfold State.slipIssue
  dsimp only
  split
  · exact hs
  · exact hs.ite (hs.setSlot.foldl .emit)

theorem Neat.quantumEnds {n} (hs : Neat σ s) : Neat σ (s.quantumEnds n) := by
  unfold State.quantumEnds
  dsimp only
  split
  · exact hs
  · exact hs.setSlot.slotGates .setGate

theorem Neat.planStep {n slacks} (hs : Neat σ s) : Neat σ (s.planStep n slacks) := by
  unfold State.planStep
  dsimp only
  split
  · exact hs
  · refine hs.ite (hs.ite (hs.atTick.setSlot.haltEffect.ite ?_))
    generalize hu : (if (s.slot n).remaining = 0 then _ else _ : State) = u
    have hu : Neat σ u := hu ▸ hs.atTick.setSlot.quantumEnds.ite hs.atTick.setSlot
    split
    · exact hu.setSlot.haltEffect.ite (hu.setSlot.bump.bump.setNum.setNum.setNum.slotGates .setGate).slipIssue
    · exact hu.setSlot.slipIssue.ite hu.setSlot.performTick.setSlot.slipIssue

theorem Neat.lateReport {t : State} {n cause ticks origin injected} (hs : Neat σ t) :
    Neat σ (t.lateReport n cause ticks origin injected) :=
  hs.ite hs.setSlot.slipIssue
theorem Neat.execLatenessReport {slot cause ticks origin} (hs : Neat σ s) :
    NeatNext σ (execLatenessReport slot cause ticks origin s) :=
  (hs.begin.whenRunning .lateReport).next

theorem Neat.slipArrives {t : State} {port k} (hs : Neat σ t) : Neat σ (t.slipArrives port k) := by
  unfold State.slipArrives
  split
  · exact hs
  · dsimp only
    split
    · exact hs
    · refine hs.ite ((hs.setSlot.foldl .emit).ite ?_)
      exact (hs.setSlot.foldl .emit).bump.issueHalt.ite ((hs.setSlot.foldl .emit).ite (hs.setSlot.foldl .emit).setSlot)

theorem Neat.execSlipToken {port k} (hs : Neat σ s) : NeatNext σ (execSlipToken port k s) := (hs.begin.whenRunning .slipArrives).next

theorem Neat.haltArrives {t : State} {port h} (hs : Neat σ t) : Neat σ (t.haltArrives port h) := by
  unfold State.haltArrives
  split
  · exact hs
  · extract_lets +onlyGivenNames _
    split
    · exact hs
    · refine hs.ite ((hs.setSlot.foldl .emit).ite ?_)
      extract_lets +onlyGivenNames t3
      have ht3 : Neat σ t3 := (hs.setSlot.foldl .emit).knowHalt
      exact ht3.haltEffect.setNum.ite ht3

theorem Neat.staticArrival {n target bs} (hs : Neat σ s) : Neat σ (s.staticArrival n target bs) := by
  unfold State.staticArrival
  dsimp only
  split
  · exact hs
  · split
    · exact hs
    · exact hs.setSlot

theorem Neat.setLock {l} (hs : Neat σ s) : Neat σ (s.setLock l) := hs.put
theorem Neat.timeLost (hs : Neat σ s) : Neat σ s.timeLost := hs.setLock.bump32.foldl .planContain

theorem Neat.chooseParent (hs : Neat σ s) : Neat σ s.chooseParent := by
  unfold State.chooseParent
  refine hs.setNum.setNum.setLock.ite ?_
  split
  · exact hs.setNum.setNum.setLock.ite hs.setNum.setNum
  · extract_lets +onlyGivenNames _ s1
    have hs1 : Neat σ s1 := hs.ite hs.setNum.setNum
    exact hs1.ite hs1.setLock.put

theorem Neat.execTimeSyncInterval (hs : Neat σ s) : NeatNext σ (execTimeSyncInterval s) :=
  (hs.begin.whenRunning fun hu => (hu.elapse.put.setLock.ite hu.elapse.put).chooseParent.foldl .emit).next

theorem Neat.timeHeard {t : State} {p txFtc echoTx echoRx arrival} (hs : Neat σ t) :
    Neat σ (t.timeHeard p txFtc echoTx echoRx arrival) := by
  unfold State.timeHeard
  extract_lets +onlyGivenNames _ _ _ _ _ _ _ t2
  have ht2 : Neat σ t2 := (hs.writeLinkPort fun h => (hs.port p h).edit).put.setNum
  refine ht2.ite (ht2.put.ite ?_)
  dsimp only
  split
  · exact ht2.setNum.put.setLock.ite ht2.setNum.put
  · exact ht2.setNum.put.setLock.ite ht2.setNum.put
  · exact ht2.setNum.put.setLock.ite ht2.setNum.put
  · exact ht2.setNum.put

theorem Neat.execTimeFlit {port txFtc echoTx echoRx arrival} (hs : Neat σ s) :
    NeatNext σ (execTimeFlit port txFtc echoTx echoRx arrival s) :=
  (hs.begin.whenRunning fun hu => hu.timeHeard.ite hu).next
theorem Neat.ftcSet {p v} (hs : Neat σ s) : Neat σ (s.ftcSet p v) := by
  unfold State.ftcSet; exact hs.openWrite .put
theorem Neat.execFtcSet {p v} (hs : Neat σ s) : NeatNext σ (execFtcSet p v s) := (hs.begin.whenRunning .ftcSet).next

/-! ### Machine/Contain.lean -/

theorem Neat.setStates {us st} (hs : Neat σ s) : Neat σ (s.setStates us st) := hs.foldl .setUnit
theorem Neat.startContain {l} (hs : Neat σ s) : Neat σ (s.startContain l) := hs.ite hs.setStates.put

theorem Neat.containUnit {l code arg} (hs : Neat σ s) : Neat σ (s.containUnit l code arg) := by
  unfold State.containUnit
  refine hs.fault.ite ?_
  split
  · exact hs.fault.startContain
  · exact hs.fault.put.issueHalt

/-! ### Machine/Queues.lean -/

theorem Neat.touchQueue {q} (hs : Neat σ s) : Neat σ (s.touchQueue q) := by
  unfold State.touchQueue
  extract_lets +onlyGivenNames _ s1 lru out
  have hs1 : Neat σ s1 := hs.ite hs.setQueue.bump
  cases out with
  | none => exact hs1.put
  | some => exact hs1.setQueue.put

theorem Neat.putBytes {tenant tc a bs} (hs : Neat σ s) : Neat σ (s.putBytes tenant tc a bs) := hs.writeLocal.ite hs.emit
theorem Neat.putEntry {cq f posted} (hs : Neat σ s) : Neat σ (s.putEntry cq f posted) := hs.putBytes.setQueue.emit

theorem Neat.finishItem {q item r} (hs : Neat σ s) : Neat σ (s.finishItem q item r) := by
  unfold State.finishItem
  dsimp only
  split
  · exact hs
  · exact hs.setQueue

theorem Neat.commitWrite {q v} (hs : Neat σ s) : Neat σ (s.commitWrite q v).2 := by
  unfold State.commitWrite
  refine hs.touchQueue.ite_snd (hs.touchQueue.setQueue.ite_snd ?_)
  refine hs.touchQueue.ite_snd (hs.touchQueue.ite_snd ?_)
  exact (hs.touchQueue.ite_snd hs.touchQueue.setQueue).ite_snd (hs.touchQueue.ite_snd hs.touchQueue.setQueue)

theorem Neat.enableQueue {q} (hs : Neat σ s) : Neat σ (s.enableQueue q).2 := by
  unfold State.enableQueue
  dsimp only
  split
  · exact hs.setQueue.ite hs
  · exact (hs.setQueue.ite hs.setQueue.setQueue).ite_snd hs
  · exact hs

theorem Neat.disableQueue {q} (hs : Neat σ s) : Neat σ (s.disableQueue q).2 := hs.ite_snd hs.setQueue
theorem Neat.reserve {c n} (hs : Neat σ s) : Neat σ (s.reserve c n) := hs.ite hs.setQueue
theorem Neat.flushQueue {q} (hs : Neat σ s) : Neat σ (s.flushQueue q).2 := hs.setQueue.ite_snd (hs.setQueue.reserve.foldl .endWait)
theorem Neat.clearStickyQueue {q} (hs : Neat σ s) : Neat σ (s.clearStickyQueue q).2 := hs.setQueue

theorem Neat.controlWrite {q v} (hs : Neat σ s) : Neat σ (s.controlWrite q v).2 := by
  unfold State.controlWrite
  dsimp only
  split
  · exact hs.touchQueue.enableQueue
  · exact hs.touchQueue.disableQueue
  · exact hs.touchQueue.flushQueue
  · exact hs.touchQueue.clearStickyQueue
  · exact hs.touchQueue

theorem Neat.contextWrite {q word v} (hs : Neat σ s) : Neat σ (s.contextWrite q word v).2 := by
  unfold State.contextWrite
  refine hs.ite_snd (hs.ite_snd ?_)
  refine hs.ite_snd ?_
  split
  · exact hs.setQueue
  · exact hs.setQueue
  · exact hs.ite_snd hs.setQueue
  · exact hs

theorem Neat.queueWrite {f : State → Response × State} {i q} (hs : Neat σ s) (hf : ∀ {t}, Neat σ t → Neat σ (f t).2) :
    NeatNext σ (s.queueWrite i q f) :=
  (hs.begin.whenRunning fun hu => hu.answer.ite (hf hu).answer).next
theorem Neat.execQdbCommit {i q v} (hs : Neat σ s) : NeatNext σ (execQdbCommit i q v s) := hs.queueWrite .commitWrite
theorem Neat.execQueueEnable {i q} (hs : Neat σ s) : NeatNext σ (execQueueEnable i q s) := hs.queueWrite .controlWrite
theorem Neat.execQueueDisable {i q} (hs : Neat σ s) : NeatNext σ (execQueueDisable i q s) := hs.queueWrite .controlWrite
theorem Neat.execQueueFlush {i q} (hs : Neat σ s) : NeatNext σ (execQueueFlush i q s) := hs.queueWrite .controlWrite
theorem Neat.execClearSticky {i q} (hs : Neat σ s) : NeatNext σ (execClearSticky i q s) := hs.queueWrite .controlWrite
theorem Neat.execQueueContextPut {i q word v} (hs : Neat σ s) : NeatNext σ (execQueueContextPut i q word v s) := hs.queueWrite .contextWrite
theorem Neat.execQueueDisableDrained {q} (hs : Neat σ s) : NeatNext σ (execQueueDisableDrained q s) :=
  (hs.begin.whenRunning fun hu => hu.setQueue.ite hu).next
theorem Neat.execQueueFlushEnd {q} (hs : Neat σ s) : NeatNext σ (execQueueFlushEnd q s) :=
  (hs.begin.whenRunning fun hu => hu.setQueue.ite hu).next
theorem Neat.refuseItem {q o st nonPosted} (hs : Neat σ s) : Neat σ (s.refuseItem q o st nonPosted) := hs.setQueue.reserve
theorem Neat.issueOp {o} (hs : Neat σ s) : Neat σ (s.issueOp o) := ((hs.countIssued.ite hs).ite (hs.countIssued.ite hs).openOp).emit
theorem Neat.ringFails {q st} (hs : Neat σ s) : Neat σ (s.ringFails q st) := hs.setQueue.reserve

theorem Neat.startItem {q remote} (hs : Neat σ s) : Neat σ (s.startItem q remote) := by
  unfold State.startItem
  refine hs.ite ?_
  split
  · exact hs.ringFails.ite hs
  · refine (hs.refuseItem.ite hs).ite (hs.refuseItem.ite ?_)
    split
    · exact hs.refuseItem.ite hs
    · refine hs.ite (hs.ite ?_)
      refine hs.fetchUsed.setQueue.reserve.emit.ite ?_
      split
      · exact hs.refuseItem.ite hs
      · exact hs.fetchUsed.fetchUsed.setQueue.issueOp.ite hs.fetchUsed.fetchUsed.setQueue.reserve.issueOp

theorem Neat.execItemStart {q remote} (hs : Neat σ s) : NeatNext σ (execItemStart q remote s) := (hs.begin.whenRunning .startItem).next

theorem Neat.writeNext {q} (hs : Neat σ s) : Neat σ (s.writeNext q) := by
  unfold State.writeNext
  dsimp only
  split
  · exact hs
  · refine hs.setQueue.ite (hs.ite ?_)
    split
    · exact hs.setQueue.setQueue
    · exact hs.setQueue.setQueue.putEntry

theorem Neat.execQueueRingReadFail {q st} (hs : Neat σ s) : NeatNext σ (execQueueRingReadFail q st s) :=
  (hs.begin.whenRunning fun hu => hu.ringFails.ite hu).next

theorem Neat.postedFails {i pseq r} (hs : Neat σ s) : Neat σ (s.postedFails i pseq r) := by
  unfold State.postedFails
  split
  · exact hs
  · refine hs.closeOp.wake.bump.ite ?_
    extract_lets +onlyGivenNames s1 _
    have hs1 : Neat σ s1 := hs.setSticky.closeOp.wake
    split
    · dsimp only
      split
      · exact hs1.setQueue
      · exact hs1.setQueue.ite hs1.putEntry
    · split
      · exact hs1.emit.ite hs1.bump
      · exact hs1

theorem Neat.execPostedFailureReport {i pseq r} (hs : Neat σ s) : NeatNext σ (execPostedFailureReport i pseq r s) :=
  (hs.begin.whenRunning fun hu => hu.ite hu.postedFails).next

theorem Neat.execPostedTimeout {i pseq} (hs : Neat σ s) : NeatNext σ (execPostedTimeout i pseq s) := by
  unfold Machine.execPostedTimeout
  refine (hs.begin.whenRunning fun hu => ?_).next
  split
  · exact hu
  · exact hu.elapse.postedFails

/-! ### Machine/Tasks.lean -/

theorem Neat.setFloret {f x} (hs : Neat σ s) : Neat σ (s.setFloret f x) := hs.put
theorem Neat.setItem {x} (hs : Neat σ s) : Neat σ (s.setItem x) := hs.put
theorem Neat.setTasks {c l} (hs : Neat σ s) : Neat σ (s.setTasks c l) := hs.put
theorem Neat.countUnit {l st} (hs : Neat σ s) : Neat σ (s.countUnit l st) := hs.bump.ite hs.bump.bump

theorem Neat.releaseStaged {id o} (hs : Neat σ s) : Neat σ (s.releaseStaged id o) := by
  unfold State.releaseStaged
  split
  · exact hs
  · exact hs.setItem.issueOp

theorem Neat.releaseTask {id t} (hs : Neat σ s) : Neat σ (s.releaseTask id t) := hs.put.foldl .releaseStaged

theorem Neat.commitN {n id} (hs : Neat σ s) : Neat σ (State.commitN n s id) := by
  induction n generalizing s with
  | zero => exact hs
  | succ n ih =>
    unfold State.commitN
    split
    · exact hs
    · exact (ih (hs.setItem.releaseTask.ite hs.setItem)).ite hs

theorem Neat.endItem {id} (hs : Neat σ s) : Neat σ (s.endItem id) := by
  unfold State.endItem
  split
  · exact hs
  · exact hs.put.finishItem.countUnit.ite hs

theorem Neat.settleItem {id} (hs : Neat σ s) : Neat σ (s.settleItem id) := by
  unfold State.settleItem
  split
  · exact hs
  · exact hs.commitN.endItem

theorem Neat.endTask {f id t} (hs : Neat σ s) : Neat σ (s.endTask f id t) := by
  unfold State.endTask
  dsimp only
  split
  · exact hs.setFloret.bump
  · exact hs.setFloret.bump.setItem.settleItem

theorem Neat.faultTask {f id t code slot} (hs : Neat σ s) : Neat σ (s.faultTask f id t code slot) := by
  unfold State.faultTask
  dsimp only
  split
  · exact hs.setFloret
  · exact hs.setFloret.setItem.put.settleItem

theorem Neat.returnTask {f id t} (hs : Neat σ s) : Neat σ (s.returnTask f id t) := by
  unfold State.returnTask
  split
  · exact hs
  · refine hs.faultTask.ite ?_
    extract_lets +onlyGivenNames _ _ _ s2
    have hs2 : Neat σ s2 := hs.setFloret.setItem.put
    split
    · exact hs2
    · exact hs2.setTasks

theorem Neat.runTask {q k bs} (hs : Neat σ s) : Neat σ (s.runTask q k bs) := by
  unfold State.runTask
  refine hs.ite ?_
  split
  · exact hs.finishItem
  · refine hs.finishItem.ite ?_
    split
    · exact hs.finishItem
    · exact hs.put

theorem Neat.execRunTask {q item o} (hs : Neat σ s) : NeatNext σ (execRunTask q item o s) := (hs.begin.whenRunning .runTask).next

theorem Neat.groupTake {l} (hs : Neat σ s) : Neat σ (s.groupTake l) := by
  unfold State.groupTake
  split
  · exact hs
  · refine hs.ite ?_
    split
    · exact hs
    · split
      · exact hs.ite hs.setItem
      · exact hs.ite hs.setItem
      · exact hs.ite hs.setItem.setTasks
      · exact hs.ite hs.setItem
      · exact hs

theorem Neat.execGroupQueueTake {child} (hs : Neat σ s) : NeatNext σ (execGroupQueueTake child s) := by
  unfold Machine.execGroupQueueTake
  refine (hs.begin.whenRunning fun hu => ?_).next
  split
  · exact hu.groupTake
  · exact hu

theorem Neat.execTaskSplit {item} (hs : Neat σ s) : NeatNext σ (execTaskSplit item s) := by
  unfold Machine.execTaskSplit
  refine (hs.begin.whenRunning fun hu => ?_).next
  split
  · exact hu
  · split
    · exact hu.ite (hu.setItem.foldl .setTasks)
    · exact hu

theorem Neat.startTask {f id t} (hs : Neat σ s) : Neat σ (s.startTask f id t) := by
  unfold State.startTask
  split
  · exact hs
  · exact hs.setItem.setFloret

theorem Neat.takeFrom {c f id t} (hs : Neat σ s) : Neat σ (s.takeFrom c f id t) := hs.setTasks.startTask

theorem Neat.steal {f v} (hs : Neat σ s) : Neat σ (s.steal f v) := by
  unfold State.steal
  dsimp only
  split
  · exact hs
  · exact hs.setTasks.setTasks.bumpN.bumpN.takeFrom

theorem Neat.taskTake {f} (hs : Neat σ s) : Neat σ (s.taskTake f) := by
  unfold State.taskTake
  refine hs.ite ?_
  split
  · exact hs.startTask
  · refine .ite ?_ ?_
    · split
      · exact hs.takeFrom
      · exact hs
    · split
      · exact hs.takeFrom
      · refine hs.ite ?_
        split
        · exact hs.steal
        · exact hs

theorem Neat.execTaskTake {floret} (hs : Neat σ s) : NeatNext σ (execTaskTake floret s) := (hs.begin.whenRunning .taskTake).next
theorem Neat.execItemComplete {q} (hs : Neat σ s) : NeatNext σ (execItemComplete q s) :=
  (hs.begin.whenRunning fun hu => (hu.foldl .endItem).writeNext).next

/-! ### Machine/FloretCore.lean -/

theorem Neat.setRegs {f names g} (hs : Neat σ s) : NeatOk σ (s.setRegs f names g) := .ite .error hs.setFloret.ok
theorem Neat.putScalar {f n v} (hs : Neat σ s) : NeatOk σ (s.putScalar f n v) := hs.ok.ite hs.setRegs
theorem Neat.putVector {f n v} (hs : Neat σ s) : NeatOk σ (s.putVector f n v) := hs.setRegs
theorem Neat.putMask {f n v} (hs : Neat σ s) : NeatOk σ (s.putMask f n v) := .ite .error hs.setRegs
theorem Neat.putTiles {f ts} (hs : Neat σ s) : NeatOk σ (s.putTiles f ts) := hs.setRegs

theorem Neat.raiseFlags {f fl conversion} (hs : Neat σ s) : Neat σ (s.raiseFlags f fl conversion) := by
  unfold State.raiseFlags
  extract_lets +onlyGivenNames _ _ _ _ s2
  have hs2 : Neat σ s2 := hs.setFloret.bump.ite hs.setFloret
  exact hs2.bump.ite hs2

theorem Neat.localWrite {f a align bs} (hs : Neat σ s) : NeatOk σ (s.localWrite f a align bs) := by
  unfold State.localWrite
  split
  · exact .error
  · exact hs.sramWrite.ok

theorem Neat.floretFault {f code slot} (hs : Neat σ s) : Neat σ (s.floretFault f code slot) := by
  unfold State.floretFault
  extract_lets +onlyGivenNames _ s1 _
  have hs1 : Neat σ s1 := hs.setNum.setNum.setNum
  split
  · exact hs1
  · exact hs1.faultTask.countUnit
  · extract_lets +onlyGivenNames _ _ _ s3
    have hs3 : Neat σ s3 := hs1.setFloret.setUnit.countUnit.fault
    exact hs3.ite hs3.put.issueHalt

theorem Neat.floretEnd {f} (hs : Neat σ s) : Neat σ (s.floretEnd f) := by
  unfold State.floretEnd
  refine hs.setFloret.ite ?_
  split
  · exact hs
  · exact hs.endTask.countUnit
  · exact hs.setFloret.countUnit

theorem Neat.stallOn {f w} (hs : Neat σ s) : Neat σ (s.stallOn f w) := hs.setFloret
theorem Neat.newBundle {f} (hs : Neat σ s) : Neat σ (s.newBundle f) := by
  unfold State.newBundle; exact hs.setFloret.bump

theorem Neat.issueSlot {eff : State → FloretRegs → Except Nat State} {i k} (hs : Neat σ s)
    (heff : ∀ {t a0}, Neat σ t → NeatOk σ (eff t a0)) :
    NeatNext σ (s.issueSlot i k eff) := by
  unfold State.issueSlot
  refine (hs.begin.whenRunning fun hu => ?_).next
  refine hu.ite ?_
  extract_lets +onlyGivenNames t1
  have ht1 : Neat σ t1 := hu.setFloret.newBundle.ite hu
  refine ht1.floretFault.ite ?_
  split
  · next u e =>
    have hu : Neat σ u := (heff ht1) _ e
    exact hu
  · exact ht1.floretFault

/-! ### Machine/FloretScalar.lean -/

theorem Neat.scalarReg {i w code op} (hs : Neat σ s) : NeatNext σ (s.scalarReg i w code op) :=
  hs.issueSlot fun hu => .ite .error hu.putScalar
theorem Neat.scalarImm {i w code op} (hs : Neat σ s) : NeatNext σ (s.scalarImm i w code op) :=
  hs.issueSlot fun hu => .ite .error hu.putScalar

theorem Neat.scalarLoad {i w code n} (hs : Neat σ s) : NeatNext σ (s.scalarLoad i w code n) := by
  unfold State.scalarLoad
  refine hs.issueSlot fun hu => .ite .error ?_
  split
  · exact .error
  · exact hu.putScalar

theorem Neat.scalarStore {i w code n} (hs : Neat σ s) : NeatNext σ (s.scalarStore i w code n) :=
  hs.issueSlot fun hu => .ite .error hu.localWrite
theorem Neat.scalarRead {i w code val} (hs : Neat σ s) : NeatNext σ (s.scalarRead i w code val) :=
  hs.issueSlot fun hu => .ite .error hu.putScalar
theorem Neat.execSAdd {i w} (hs : Neat σ s) : NeatNext σ (execSAdd i w s) := hs.scalarReg
theorem Neat.execSSub {i w} (hs : Neat σ s) : NeatNext σ (execSSub i w s) := hs.scalarReg
theorem Neat.execSMul {i w} (hs : Neat σ s) : NeatNext σ (execSMul i w s) := hs.scalarReg
theorem Neat.execSAnd {i w} (hs : Neat σ s) : NeatNext σ (execSAnd i w s) := hs.scalarReg
theorem Neat.execSOr {i w} (hs : Neat σ s) : NeatNext σ (execSOr i w s) := hs.scalarReg
theorem Neat.execSXor {i w} (hs : Neat σ s) : NeatNext σ (execSXor i w s) := hs.scalarReg
theorem Neat.execShl {i w} (hs : Neat σ s) : NeatNext σ (execShl i w s) := hs.scalarReg
theorem Neat.execShr {i w} (hs : Neat σ s) : NeatNext σ (execShr i w s) := hs.scalarReg
theorem Neat.execSar {i w} (hs : Neat σ s) : NeatNext σ (execSar i w s) := hs.scalarReg
theorem Neat.execSlt {i w} (hs : Neat σ s) : NeatNext σ (execSlt i w s) := hs.scalarReg
theorem Neat.execSltu {i w} (hs : Neat σ s) : NeatNext σ (execSltu i w s) := hs.scalarReg
theorem Neat.execAddi {i w} (hs : Neat σ s) : NeatNext σ (execAddi i w s) := hs.scalarImm
theorem Neat.execAddhi {i w} (hs : Neat σ s) : NeatNext σ (execAddhi i w s) := hs.scalarImm
theorem Neat.execShli {i w} (hs : Neat σ s) : NeatNext σ (execShli i w s) := hs.scalarImm
theorem Neat.execLd64 {i w} (hs : Neat σ s) : NeatNext σ (execLd64 i w s) := hs.scalarLoad
theorem Neat.execSt64 {i w} (hs : Neat σ s) : NeatNext σ (execSt64 i w s) := hs.scalarStore
theorem Neat.execLd32 {i w} (hs : Neat σ s) : NeatNext σ (execLd32 i w s) := hs.scalarLoad
theorem Neat.execSt32 {i w} (hs : Neat σ s) : NeatNext σ (execSt32 i w s) := hs.scalarStore
theorem Neat.execRdstat {i w} (hs : Neat σ s) : NeatNext σ (execRdstat i w s) := hs.scalarRead
theorem Neat.execRdres {i w} (hs : Neat σ s) : NeatNext σ (execRdres i w s) := hs.scalarRead
theorem Neat.execRdflags {i w} (hs : Neat σ s) : NeatNext σ (execRdflags i w s) := hs.scalarRead
theorem Neat.execClrflags {i w} (hs : Neat σ s) : NeatNext σ (execClrflags i w s) := hs.issueSlot fun hu => .ite .error hu.setFloret.ok
theorem Neat.execRdtick {i w} (hs : Neat σ s) : NeatNext σ (execRdtick i w s) := hs.scalarRead
theorem Neat.control {eff : State → FloretRegs → Except Nat State} {i w code} (hs : Neat σ s)
    (heff : ∀ {t a0}, Neat σ t → NeatOk σ (eff t a0)) :
    NeatNext σ (s.control i w code eff) :=
  hs.issueSlot fun hu => .ite .error (heff hu)
theorem Neat.branch {f w taken} (hs : Neat σ s) : Neat σ (s.branch f w taken) := hs.setFloret.ite hs
theorem Neat.execBr {i w} (hs : Neat σ s) : NeatNext σ (execBr i w s) := hs.control fun hu => hu.branch.ok
theorem Neat.execBz {i w} (hs : Neat σ s) : NeatNext σ (execBz i w s) := hs.control fun hu => hu.branch.ok
theorem Neat.execBnz {i w} (hs : Neat σ s) : NeatNext σ (execBnz i w s) := hs.control fun hu => hu.branch.ok
theorem Neat.execWaitop {i w} (hs : Neat σ s) : NeatNext σ (execWaitop i w s) := hs.control fun hu => hu.stallOn.ok
theorem Neat.execWaitall {i w} (hs : Neat σ s) : NeatNext σ (execWaitall i w s) := hs.control fun hu => hu.stallOn.ok
theorem Neat.setBarrier {k b} (hs : Neat σ s) : Neat σ (s.setBarrier k b) := hs.put
theorem Neat.reachBarrier {f n mask} (hs : Neat σ s) : NeatOk σ (s.reachBarrier f n mask) :=
  .ite .error ((hs.setBarrier.foldl fun hu => hu.setFloret.ite hu).ok.ite hs.setBarrier.stallOn.ok)
theorem Neat.execBarrier {i w} (hs : Neat σ s) : NeatNext σ (execBarrier i w s) := hs.control fun hu => .ite .error hu.reachBarrier
theorem Neat.execTickwait {i w} (hs : Neat σ s) : NeatNext σ (execTickwait i w s) := hs.control fun hu => .ite .error hu.stallOn.ok
theorem Neat.execSetstream {i w} (hs : Neat σ s) : NeatNext σ (execSetstream i w s) := hs.control fun hu => hu.setFloret.ok
theorem Neat.execTrap {i w} (hs : Neat σ s) : NeatNext σ (execTrap i w s) := hs.control fun _ => .error
theorem Neat.execDrain {floret} (hs : Neat σ s) : NeatNext σ (execDrain floret s) := (hs.begin.whenRunning fun hu => hu.ite hu.stallOn).next
theorem Neat.execTaskEnd {floret} (hs : Neat σ s) : NeatNext σ (execTaskEnd floret s) :=
  (hs.begin.whenRunning fun hu => hu.ite hu.floretEnd).next

/-! ### Machine/FloretVector.lean -/

theorem Neat.vector1 {eff : State → FloretRegs → VSlot → Except Nat State} {i w code} (hs : Neat σ s)
    (heff : ∀ {t a0 a1}, Neat σ t → NeatOk σ (eff t a0 a1)) :
    NeatNext σ (s.vector1 i w code eff) :=
  hs.issueSlot fun hu => .ite .error (heff hu)
theorem Neat.vecLanes {i w code op} (hs : Neat σ s) : NeatNext σ (s.vecLanes i w code op) := hs.vector1 .putVector
theorem Neat.execVadd {i w} (hs : Neat σ s) : NeatNext σ (execVadd i w s) := hs.vecLanes
theorem Neat.execVsub {i w} (hs : Neat σ s) : NeatNext σ (execVsub i w s) := hs.vecLanes
theorem Neat.execVmul {i w} (hs : Neat σ s) : NeatNext σ (execVmul i w s) := hs.vecLanes
theorem Neat.execVfma {i w} (hs : Neat σ s) : NeatNext σ (execVfma i w s) := hs.vecLanes
theorem Neat.execVmax {i w} (hs : Neat σ s) : NeatNext σ (execVmax i w s) := hs.vecLanes
theorem Neat.execVmin {i w} (hs : Neat σ s) : NeatNext σ (execVmin i w s) := hs.vecLanes
theorem Neat.execVexp2 {i w} (hs : Neat σ s) : NeatNext σ (execVexp2 i w s) := hs.vecLanes
theorem Neat.execVrcp {i w} (hs : Neat σ s) : NeatNext σ (execVrcp i w s) := hs.vecLanes
theorem Neat.execVrsqrt {i w} (hs : Neat σ s) : NeatNext σ (execVrsqrt i w s) := hs.vecLanes
theorem Neat.execViadd {i w} (hs : Neat σ s) : NeatNext σ (execViadd i w s) := hs.vecLanes
theorem Neat.execVand {i w} (hs : Neat σ s) : NeatNext σ (execVand i w s) := hs.vecLanes
theorem Neat.execVor {i w} (hs : Neat σ s) : NeatNext σ (execVor i w s) := hs.vecLanes
theorem Neat.execVxor {i w} (hs : Neat σ s) : NeatNext σ (execVxor i w s) := hs.vecLanes
theorem Neat.execVlog2 {i w} (hs : Neat σ s) : NeatNext σ (execVlog2 i w s) :=
  hs.vector1 fun hu => hu.putVector.map fun hv => hv.raiseFlags.ite hv
theorem Neat.vecReduce {i w code off op} (hs : Neat σ s) : NeatNext σ (s.vecReduce i w code off op) := hs.vector1 .putVector
theorem Neat.execVredsum {i w} (hs : Neat σ s) : NeatNext σ (execVredsum i w s) := hs.vecReduce
theorem Neat.execVredmax {i w} (hs : Neat σ s) : NeatNext σ (execVredmax i w s) := hs.vecReduce
theorem Neat.execVcmp {i w} (hs : Neat σ s) : NeatNext σ (execVcmp i w s) := hs.vector1 .putMask
theorem Neat.execVsel {i w} (hs : Neat σ s) : NeatNext σ (execVsel i w s) := hs.vector1 .putVector
theorem Neat.execVcvt {i w} (hs : Neat σ s) : NeatNext σ (execVcvt i w s) :=
  hs.vector1 fun hu => .ite .error (hu.putVector.ite (.ite .error
    (hu.putVector.map fun hv => hv.raiseFlags.setFloret.ite hv.raiseFlags)))

theorem Neat.execVld {i w} (hs : Neat σ s) : NeatNext σ (execVld i w s) := by
  unfold Machine.execVld
  refine hs.vector1 fun hu => ?_
  split
  · exact .error
  · exact hu.putVector

theorem Neat.execVst {i w} (hs : Neat σ s) : NeatNext σ (execVst i w s) := hs.vector1 fun hu => .ite .error hu.localWrite
theorem Neat.execVstscale {i w} (hs : Neat σ s) : NeatNext σ (execVstscale i w s) := hs.vector1 fun hu => .ite .error hu.localWrite
theorem Neat.execVbcast {i w} (hs : Neat σ s) : NeatNext σ (execVbcast i w s) := hs.vector1 .putVector

/-! ### Machine/FloretMatrix.lean -/

theorem Neat.matrix {eff : State → FloretRegs → MSlot → Except Nat State} {i w code} (hs : Neat σ s)
    (heff : ∀ {t a0 a1}, Neat σ t → NeatOk σ (eff t a0 a1)) :
    NeatNext σ (s.matrix i w code eff) :=
  hs.issueSlot fun hu => .ite .error (.ite .error (heff hu))

theorem Neat.execMma {i w} (hs : Neat σ s) : NeatNext σ (execMma i w s) := by
  refine hs.matrix fun hu => .ite .error (.ite .error (.ite .error ?_))
  split
  · exact .error
  · exact hu.putTiles.map .raiseFlags

theorem Neat.execTileRead {i w} (hs : Neat σ s) : NeatNext σ (execTileRead i w s) := hs.matrix fun hu => .ite .error hu.putVector
theorem Neat.execTileWrite {i w} (hs : Neat σ s) : NeatNext σ (execTileWrite i w s) := hs.matrix .putTiles
theorem Neat.execTileZero {i w} (hs : Neat σ s) : NeatNext σ (execTileZero i w s) := hs.matrix .putTiles

/-! ### Machine/FloretRemote.lean -/

theorem Neat.setTag {f n g} (hs : Neat σ s) : Neat σ (s.setTag f n g) := by
  unfold State.setTag; exact hs.setFloret
theorem Neat.tagDone {f n r} (hs : Neat σ s) : Neat σ (s.tagDone f n r) := hs.setTag.countUnit.floretEnd.ite hs.setTag.countUnit
theorem Neat.floretIssue {f tag o} (hs : Neat σ s) : Neat σ (s.floretIssue f tag o) := hs.issueOp.ite hs.setTag.issueOp

theorem Neat.commitIssue {f tag id t o} (hs : Neat σ s) : Neat σ (s.commitIssue f tag id t o) := by
  unfold State.commitIssue
  split
  · exact hs
  · exact (hs.setItem.ite hs.setItem.setTag).issueOp.ite (hs.stallOn.ite (hs.put.ite hs.put.tagDone))

theorem Neat.xIssue {f commit tag o fence} (hs : Neat σ s) : Neat σ (s.xIssue f commit tag o fence) := by
  unfold State.xIssue
  split
  · exact hs.stallOn
  · dsimp only
    split
    · exact hs.put.commitIssue
    · exact hs.put.floretIssue

theorem Neat.execXRemoteIssue {i w} (hs : Neat σ s) : NeatNext σ (execXRemoteIssue i w s) := by
  refine hs.issueSlot fun {t r} hu => .ite .error (.ite .error ?_)
  split
  · exact .error
  · cases t.xOperation i.floret r (xSlot w) with
    | error => exact .error
    | ok => exact hu.xIssue.ok

theorem Neat.execDesc {i w} (hs : Neat σ s) : NeatNext σ (execDesc i w s) := by
  unfold Machine.execDesc
  refine hs.issueSlot fun hu => .ite .error (.ite .error ?_)
  split
  · exact .error
  · refine .ite .error ?_
    dsimp only
    split
    · exact hu.stallOn.ok
    · split
      · exact hu.tagDone.ok
      · split
        · exact hu.tagDone.ok
        · exact hu.fetchUsed.floretIssue.ok

theorem Neat.settleResponse {i id r} (hs : Neat σ s) : Neat σ (s.settleResponse i id r).2 := by
  unfold State.settleResponse
  split
  · exact hs
  · exact hs.writeLocal.closeOp.wake

theorem Neat.floretResponseIn {i id epoch defer r0} (hs : Neat σ s) : Neat σ (s.floretResponseIn i id epoch defer r0) := by
  unfold State.floretResponseIn
  refine hs.bump.ite ?_
  extract_lets +onlyGivenNames _ _ _
  split
  · exact hs.settleResponse.finishItem.ite ((hs.closeOp.wake.ite hs.postedFails).ite hs)
  · exact hs.settleResponse.tagDone.ite ((hs.closeOp.wake.ite hs.postedFails).ite hs)
  · extract_lets +onlyGivenNames _ s1
    have hs1 : Neat σ s1 := (hs.closeOp.wake.ite hs.postedFails).ite hs.settleResponse
    split
    · exact hs1
    · extract_lets +onlyGivenNames _ s3
      have hs3 : Neat σ s3 := by
        unfold s3
        split
        · exact hs1.setItem.tagDone
        · exact hs1.setItem
      exact hs3.settleItem
  · refine (hs.closeOp.wake.ite hs.postedFails).ite ?_
    split
    · exact hs
    · exact hs.closeOp.wake.emit

theorem Neat.execResponseReceive {i id epoch defer r} (hs : Neat σ s) :
    NeatNext σ (execResponseReceive i id epoch defer r s) :=
  (hs.begin.whenRunning .floretResponseIn).next

/-! ### Machine/Coherence.lean -/

theorem Neat.setWindow {w x} (hs : Neat σ s) : Neat σ (s.setWindow w x) := hs.put
theorem Neat.setAgent {a x} (hs : Neat σ s) : Neat σ (s.setAgent a x) := hs.put
theorem Neat.setEntry {k e} (hs : Neat σ s) : Neat σ (s.setEntry k e) := hs.put

theorem Neat.lineUsed {line off len} (hs : Neat σ s) : Neat σ (s.lineUsed line off len) := by
  unfold State.lineUsed
  split
  · exact hs
  · exact hs.used

theorem Neat.lineWrite {line off bs} (hs : Neat σ s) : Neat σ (s.lineWrite line off bs).2 := by
  unfold State.lineWrite
  split
  · exact hs
  · exact hs.ckptKeep.poolWrite.touchRange

theorem Neat.poisonLine {line} (hs : Neat σ s) : Neat σ (s.poisonLine line) := by
  unfold State.poisonLine
  split
  · exact hs
  · exact hs.setPoison.setPoison.bump.put.bumpN

theorem Neat.writeHalves {r l} (hs : Neat σ s) : Neat σ (s.writeHalves r l) := hs.foldl fun hu => hu.lineWrite.ite hu
theorem Neat.keepGot {r off len} (hs : Neat σ s) : Neat σ (s.keepGot r off len) := hs.writeHalves
theorem Neat.writeGot {r} (hs : Neat σ s) : Neat σ (s.writeGot r) := hs.writeHalves
theorem Neat.discardSpec {line} (hs : Neat σ s) : Neat σ (s.discardSpec line) := hs.put.bumpN

theorem Neat.readOrSpec {r off len} (hs : Neat σ s) : Neat σ (s.readOrSpec r off len).2 := by
  unfold State.readOrSpec
  split
  · exact hs.put.bump
  · exact hs.lineUsed

theorem Neat.setLineReq {r} (hs : Neat σ s) : Neat σ (s.setLineReq r) := hs.put
theorem Neat.dropLineReq {id} (hs : Neat σ s) : Neat σ (s.dropLineReq id) := hs.put
theorem Neat.endLineReq {r a} (hs : Neat σ s) : Neat σ (s.endLineReq r a) := hs.dropLineReq.respond
theorem Neat.grant {r a k e grantState data} (hs : Neat σ s) : Neat σ (s.grant r a k e grantState data) :=
  (hs.setEntry.discardSpec.ite hs.setEntry).put.endLineReq

theorem Neat.lineDone {r st got result} (hs : Neat σ s) : Neat σ (s.lineDone r st got result) := by
  unfold State.lineDone
  dsimp only
  split
  · exact hs.dropLineReq
  · exact hs.dropLineReq.put.ite hs.dropLineReq.put.endAccess

theorem Neat.applyLine {r} (hs : Neat σ s) : Neat σ (s.applyLine r).2.2 := by
  unfold State.applyLine
  refine .ite_snd_snd ?_ hs.lineWrite
  refine hs.ite_snd_snd ?_
  dsimp only
  split
  · exact hs
  · exact hs.lineUsed.lineWrite

theorem Neat.grantWith {r a k e g bad} (hs : Neat σ s) (hbad : Neat σ bad) : Neat σ (s.grantWith r a k e g bad) := by
  unfold State.grantWith
  dsimp only
  split
  · exact hbad.endLineReq
  · exact hs.readOrSpec.keepGot.grant

theorem Neat.finishRdS {r a at_ mask} (hs : Neat σ s) : Neat σ (s.finishRdS r a at_ mask) := by
  unfold State.finishRdS
  split
  · split
    · exact hs.setLineReq
    · exact hs.grantWith hs
  · dsimp only
    split
    · exact hs.grantWith hs
    · refine (hs.grantWith hs).ite ((hs.grantWith hs.setEntry).ite ?_)
      refine (hs.writeGot.grantWith hs.writeGot).ite ?_
      split
      · exact hs.setEntry.endLineReq
      · exact hs.lineUsed.grant
    · split
      · exact hs.endLineReq
      · exact hs.lineUsed.grant

theorem Neat.finishRdX {r a at_ mask} (hs : Neat σ s) : Neat σ (s.finishRdX r a at_ mask) := by
  unfold State.finishRdX
  split
  · split
    · exact hs.setLineReq
    · exact hs.grantWith hs
  · exact (hs.grantWith hs).ite (hs.grantWith hs.setEntry)

theorem Neat.finishWb {r a at_} (hs : Neat σ s) : Neat σ (s.finishWb r a at_) := by
  unfold State.finishWb
  dsimp only
  split
  · exact hs.bump.endLineReq
  · exact hs.discardSpec.lineWrite.setEntry.endLineReq.ite hs.bump.endLineReq

theorem Neat.finishLine {r} (hs : Neat σ s) : Neat σ (s.finishLine r) := by
  unfold State.finishLine
  extract_lets +onlyGivenNames at_ _ free
  clear_value at_
  have hfree {t : State} (ht : Neat σ t) : Neat σ (free t) := by
    unfold free
    split
    · exact ht.setEntry
    · exact ht
  split
  · exact (hfree hs.writeGot).dropLineReq.bump
  · exact (hfree hs.writeGot).dropLineReq.bump.ite (hfree hs.writeGot).dropLineReq
  · dsimp only
    split
    · exact hs.readOrSpec.lineDone
    · exact hs.lineDone
  · exact (hfree hs.writeGot).discardSpec.applyLine.lineDone
  · exact (hfree hs.writeGot).discardSpec.applyLine.lineDone
  · split
    · exact hs.endLineReq
    · refine hs.endLineReq.ite ?_
      split
      · exact hs.finishRdS
      · split
        · exact hs.grant.ite hs.finishRdX
        · exact hs.finishRdX
      · exact hs.finishWb
      · split
        · exact (hs.setEntry.ite hs).endLineReq
        · exact hs.endLineReq
      · exact hs.finishRdX

theorem Neat.sendSnoops {r e plan} (hs : Neat σ s) : Neat σ (s.sendSnoops r e plan) := (hs.setLineReq.foldl .emit).bumpN
theorem Neat.waitHold {r} (hs : Neat σ s) : Neat σ (s.waitHold r) := hs.ite (hs.setLineReq.ite hs.setLineReq.bump.countDeferral)
theorem Neat.actOn {r e} (hs : Neat σ s) : Neat σ (s.actOn r e) := hs.waitHold.ite (hs.finishLine.ite hs.sendSnoops)

theorem Neat.makeRoom {r mask} (hs : Neat σ s) : Neat σ (s.makeRoom r mask) := by
  unfold State.makeRoom
  split
  · exact hs.finishLine
  · refine hs.ite ?_
    dsimp only
    split
    · exact hs.setLineReq.put.actOn
    · exact hs.setLineReq.countDeferral

theorem Neat.tryLine {r} (hs : Neat σ s) : Neat σ (s.tryLine r) := by
  unfold State.tryLine
  refine hs.setLineReq.ite ?_
  split
  · exact hs.actOn
  · exact hs.makeRoom.ite hs.finishLine

theorem Neat.enterLine {r} (hs : Neat σ s) : Neat σ (s.enterLine r) := hs.put.countDeferral.ite hs.put.tryLine

theorem Neat.cohAccess {o} (hs : Neat σ s) : Neat σ (s.cohAccess o) := by
  unfold State.cohAccess
  dsimp only
  split
  · exact hs.respond
  · exact hs.respond.ite (hs.endAccess.ite (hs.openOp.put.foldl .enterLine))

theorem Neat.cachingOp {go : State → Nat → LineReq → State} {o op} (hs : Neat σ s)
    (hgo : ∀ {t a0 a1}, Neat σ t → Neat σ (go t a0 a1)) :
    Neat σ (s.cachingOp o op go) := by
  unfold State.cachingOp
  dsimp only
  split
  · exact hs.respond
  · refine hs.respond.ite (hs.respond.ite ?_)
    refine hs.respond.ite (hs.respond.ite ?_)
    split
    · exact hs.respond
    · exact hs.respond.ite (hgo hs)

theorem Neat.cachingEnter {o op} (hs : Neat σ s) : Neat σ (s.cachingEnter o op) := hs.cachingOp fun hu => hu.openOp.enterLine
theorem Neat.execRdS {o} (hs : Neat σ s) : NeatNext σ (execRdS o s) := (hs.unitOp .cachingEnter).next
theorem Neat.execRdX {o} (hs : Neat σ s) : NeatNext σ (execRdX o s) := (hs.unitOp .cachingEnter).next
theorem Neat.execUpg {o} (hs : Neat σ s) : NeatNext σ (execUpg o s) := (hs.unitOp .cachingEnter).next
theorem Neat.execWb {o} (hs : Neat σ s) : NeatNext σ (execWb o s) := (hs.unitOp .cachingEnter).next
theorem Neat.execDrop {o} (hs : Neat σ s) : NeatNext σ (execDrop o s) := (hs.unitOp .cachingEnter).next
theorem Neat.execRdSpec {o} (hs : Neat σ s) : NeatNext σ (execRdSpec o s) :=
  (hs.unitOp fun hu => hu.cachingOp fun hu => hu.bump.respond.ite (hu.respond.ite hu.lineUsed.put.respond)).next

theorem Neat.execSnoopResponse {agent line half data} (hs : Neat σ s) :
    NeatNext σ (execSnoopResponse agent line half data s) := by
  unfold Machine.execSnoopResponse
  refine (hs.begin.whenRunning fun hu => ?_).next
  split
  · exact hu
  · exact (hu.discardSpec.ite hu).setLineReq.finishLine.ite (hu.discardSpec.ite hu).setLineReq

theorem Neat.execDirectoryRequestResume {id} (hs : Neat σ s) : NeatNext σ (execDirectoryRequestResume id s) := by
  unfold Machine.execDirectoryRequestResume
  refine (hs.begin.whenRunning fun hu => ?_).next
  split
  · exact hu
  · split
    · exact hu
    · exact (hu.lineDone.ite hu.endLineReq).ite (hu.ite hu.setLineReq.tryLine)
    · exact hu.tryLine

theorem Neat.execHoldExpiry {line} (hs : Neat σ s) : NeatNext σ (execHoldExpiry line s) := by
  unfold Machine.execHoldExpiry
  refine (hs.begin.whenRunning fun hu => ?_).next
  split
  · exact hu
  · exact hu.elapse.foldl .tryLine

theorem Neat.fenceAgent {a report} (hs : Neat σ s) : Neat σ (s.fenceAgent a report) := by
  unfold State.fenceAgent
  extract_lets +onlyGivenNames s1 _ _ s3
  have hs1 : Neat σ s1 := by
    unfold s1
    refine hs.foldl fun hu => ?_
    split
    · exact hu
    · exact hu.poisonLine.setEntry.ite (hu.setEntry.ite hu.setEntry)
  have hs3 : Neat σ s3 := hs1.setAgent.bump32.foldl fun hu => hu.setLineReq.finishLine.ite hu.setLineReq
  exact hs3.fault.ite hs3

theorem Neat.execSnoopTimeout {agent line} (hs : Neat σ s) : NeatNext σ (execSnoopTimeout agent line s) := by
  unfold Machine.execSnoopTimeout
  refine (hs.begin.whenRunning fun hu => ?_).next
  split
  · exact hu
  · exact hu.elapse.fenceAgent

theorem Neat.execSpecBufferExpiry {line agent} (hs : Neat σ s) : NeatNext σ (execSpecBufferExpiry line agent s) := by
  unfold Machine.execSpecBufferExpiry
  refine (hs.begin.whenRunning fun hu => ?_).next
  split
  · exact hu
  · exact hu.elapse.put

theorem Neat.execWindowEnable {a w partition} (hs : Neat σ s) : NeatNext σ (execWindowEnable a w partition s) :=
  (hs.begin.whenRunning fun hu => (hu.setWindow.ite hu).mgmtWrite .setWindow).next
theorem Neat.windowOff {n} (hs : Neat σ s) : Neat σ (s.windowOff n) := hs.ite (hs.setWindow.foldl .enterLine)
theorem Neat.execWindowDisable {a w} (hs : Neat σ s) : NeatNext σ (execWindowDisable a w s) :=
  (hs.begin.whenRunning fun hu => hu.mgmtWrite fun hu => hu.windowOff.setWindow).next
theorem Neat.windowDone {t : State} {w} (hs : Neat σ t) : Neat σ (t.windowDone w) := hs.setWindow.ite hs
theorem Neat.execWayMaskWrite {i t v} (hs : Neat σ s) : NeatNext σ (execWayMaskWrite i t v s) :=
  (hs.begin.whenRunning fun hu => hu.mgmtWrite .put).next
theorem Neat.execAgentRegister {a n kind} (hs : Neat σ s) : NeatNext σ (execAgentRegister a n kind s) :=
  (hs.begin.whenRunning fun hu => hu.mgmtWrite .setAgent).next
theorem Neat.execAgentUnregister {a n} (hs : Neat σ s) : NeatNext σ (execAgentUnregister a n s) :=
  (hs.begin.whenRunning fun hu => hu.mgmtWrite fun hu => (hu.ite hu.fenceAgent).setAgent).next

/-! ### Machine/LinkTx.lean -/

theorem Neat.replacePort {p x} (hs : Neat σ s) (hx : PortsNeat σ → PortNeat x) : Neat σ (s.setPort p x) := hs.writeLinkPort hx

/-- Anything else of a port may be written. -/
theorem Neat.setPort {p x} (hs : Neat σ s) (hl : x.lanes = (s.port p).lanes := by rfl) (hr : x.reasm = (s.port p).reasm := by rfl) :
    Neat σ (s.setPort p x) := hs.replacePort fun h => (hs.port p h).edit hl hr
theorem Neat.portEvent {p st} (hs : Neat σ s) : Neat σ (s.portEvent p st) := hs.free.eventOpen
theorem Neat.countFlit {p} (hs : Neat σ s) : Neat σ (s.countFlit p) := hs.ite (hs.setCrypt.ite hs.setCrypt)
theorem Neat.txSeq {p f} (hs : Neat σ s) : Neat σ (s.txSeq p f) := by
  unfold State.txSeq; exact hs.setPort.emit.countFlit
theorem Neat.txFree {p m} (hs : Neat σ s) : Neat σ (s.txFree p m) := hs.emit.countFlit
theorem Neat.txAgain {p g} (hs : Neat σ s) : Neat σ (s.txAgain p g) := hs.emit.countFlit
theorem Neat.flushCredits {p} (hs : Neat σ s) : Neat σ (s.flushCredits p) := hs.foldl fun hu => hu.ite hu.setPort.txSeq.emit
theorem Neat.creditBack {p c cells} (hs : Neat σ s) : Neat σ (s.creditBack p c cells) := hs.ite hs.setPort.flushCredits
theorem Neat.txFrame {p vc bytes} (hs : Neat σ s) : Neat σ (s.txFrame p vc bytes).2 := (hs.foldl .txSeq)

/-! ### Machine/Switch.lean -/

theorem Neat.setFrame {n f} (hs : Neat σ s) : Neat σ (s.setFrame n f) := hs.put

theorem Neat.keepFrame {f} (hs : Neat σ s) : Neat σ (s.keepFrame f) := by
  unfold State.keepFrame
  dsimp only
  split
  · exact hs.put.creditBack.ite hs.put
  · exact hs.put

theorem Neat.refuseFrame {f st reason} (hs : Neat σ s) : Neat σ (s.refuseFrame f st reason) := (hs.put.ite hs).respond.ite hs

theorem Neat.dropArrival {f} (hs : Neat σ s) : Neat σ (s.dropArrival f) := by
  unfold State.dropArrival
  split
  · exact hs.creditBack
  · exact hs

theorem Neat.refuseArrival {f st reason} (hs : Neat σ s) : Neat σ (s.refuseArrival f st reason) := hs.refuseFrame.dropArrival
theorem Neat.admitFrame {f0} (hs : Neat σ s) : Neat σ (s.admitFrame f0) := hs.put.ite hs.keepFrame
theorem Neat.admitStatic {f slot} (hs : Neat σ s) : Neat σ (s.admitStatic f slot) := hs.dropArrival.ite hs.keepFrame
theorem Neat.ingressWeir {p f} (hs : Neat σ s) : Neat σ (s.ingressWeir p f).2 := hs.ite_snd hs.weirPass

theorem Neat.requestIn {p f0} (hs : Neat σ s) : Neat σ (s.requestIn p f0) := by
  unfold State.requestIn
  dsimp only
  split
  · exact hs.refuseArrival
  · refine .ite ?_ (hs.ingressWeir.refuseArrival.ite hs.ingressWeir.admitFrame)
    split
    · exact hs.refuseArrival
    · exact hs.admitStatic

theorem Neat.responseIn {p f} (hs : Neat σ s) : Neat σ (s.responseIn p f) :=
  have hs1 := hs.setPort
  hs.bump.dropArrival.ite (hs1.dropArrival.ite (hs1.respond.dropArrival.ite hs1.keepFrame))
theorem Neat.frameIn {p h payload} (hs : Neat σ s) : Neat σ (s.frameIn p h payload) :=
  have hs2 := hs.setPort.meter
  hs.ite (hs2.requestIn.ite (hs2.responseIn.ite hs2.dropArrival))
theorem Neat.execFrameReceive {port header payload} (hs : Neat σ s) : NeatNext σ (execFrameReceive port header payload s) :=
  (hs.begin.whenRunning .frameIn).next

theorem Neat.quotaAdmit {t} (hs : Neat σ s) : Neat σ (s.quotaAdmit t) := by
  unfold State.quotaAdmit
  split
  · exact hs
  · exact hs.ite (hs.put.bump.keepFrame.ite hs.put.bump.countDeferral.keepFrame)

theorem Neat.execQuotaAdmit {tenant} (hs : Neat σ s) : NeatNext σ (execQuotaAdmit tenant s) := (hs.begin.whenRunning .quotaAdmit).next

theorem Neat.execQuotaWaitExpiry {tenant} (hs : Neat σ s) : NeatNext σ (execQuotaWaitExpiry tenant s) := by
  unfold Machine.execQuotaWaitExpiry
  refine (hs.begin.whenRunning fun hu => ?_).next
  split
  · exact hu
  · exact hu.elapse.put.bump.refuseArrival

theorem Neat.injectFrame {i f} (hs : Neat σ s) : Neat σ (s.injectFrame i f) := by
  unfold State.injectFrame
  refine hs.ite (.ite ?_ (hs.ite (hs.arbDrop.keepFrame.ite hs.arbDrop.admitFrame)))
  split
  · exact hs
  · exact hs.admitStatic

theorem Neat.execInjectionFrame {hub header payload} (hs : Neat σ s) :
    NeatNext σ (execInjectionFrame hub header payload s) :=
  (hs.begin.whenRunning .injectFrame).next
theorem Neat.setGroup {g x} (hs : Neat σ s) : Neat σ (s.setGroup g x) := hs.put
theorem Neat.setBucket {k x} (hs : Neat σ s) : Neat σ (s.setBucket k x) := hs.put
theorem Neat.fillPins {g} (hs : Neat σ s) : Neat σ (s.fillPins g) := hs.ite (hs.foldl .setBucket)

theorem Neat.judgeMember {g p} (hs : Neat σ s) : Neat σ (s.judgeMember g p) := by
  unfold State.judgeMember
  dsimp only
  split
  · exact hs.setGroup.fillPins
  · exact hs.ite hs.bump32

theorem Neat.lgTrained {p} (hs : Neat σ s) : Neat σ (s.lgTrained p) := by
  unfold State.lgTrained
  split
  · exact hs.judgeMember
  · exact hs

theorem Neat.setList {p k l} (hs : Neat σ s) : Neat σ (s.setList p k l) := hs.put

theorem Neat.relink {p to_} (hs : Neat σ s) : Neat σ (s.relink p to_) := by
  unfold State.relink
  refine hs.foldl fun hu => hu.setList.foldl fun hu => ?_
  split
  · exact hu.ite hu.setList
  · exact hu

theorem Neat.freeFrame {n} (hs : Neat σ s) : Neat σ (s.freeFrame n) := by
  unfold State.freeFrame
  split
  · exact hs
  · refine hs.ite ?_
    dsimp only
    split
    · exact hs.setFrame.creditBack.ite hs.setFrame
    · exact hs.setFrame.put.ite hs.setFrame

theorem Neat.answerAs {r op a} (hs : Neat σ s) : Neat σ (s.answerAs r op a) := by
  unfold State.answerAs
  extract_lets +onlyGivenNames _ s2
  have hs2 : Neat σ s2 := (hs.countRefusal.ite hs).ite (hs.countRefusal.ite hs).closeOp
  exact (hs2.ite hs2.emit).wake

theorem Neat.branchAnswer {n b r} (hs : Neat σ s) : Neat σ (s.branchAnswer n b r) := by
  unfold State.branchAnswer
  split
  · exact hs
  · exact hs.ite (hs.put.ite hs.put.answerAs)

theorem Neat.execMulticastBranchAck {frame port r} (hs : Neat σ s) : NeatNext σ (execMulticastBranchAck frame port r s) :=
  (hs.begin.whenRunning .branchAnswer).next

theorem Neat.endFrame {f p branch st disp} (hs : Neat σ s) : Neat σ (s.endFrame f p branch st disp) := by
  unfold State.endFrame
  dsimp only
  split
  · exact hs.branchAnswer
  · exact hs.ite hs.respond

theorem Neat.endSent {p} (hs : Neat σ s) : Neat σ (s.endSent p) := by
  unfold State.endSent; exact hs.put.foldl .endFrame

theorem Neat.endQueued {p ends} (hs : Neat σ s) : Neat σ (s.endQueued p ends) := by
  unfold State.endQueued
  refine hs.foldl fun hu => hu.setList.foldl fun hu => ?_
  split
  · exact hu.endFrame.freeFrame
  · exact hu

theorem Neat.moveBuckets {g p l} (hs : Neat σ s) : Neat σ (s.moveBuckets g p l) := (hs.foldl .setBucket).relink.bumpN

theorem Neat.memberLost {g p} (hs : Neat σ s) : Neat σ (s.memberLost g p) := by
  unfold State.memberLost
  refine hs.setGroup.ite (hs.moveBuckets.ite ?_)
  extract_lets +onlyGivenNames s1
  have hs1 : Neat σ s1 := hs.setGroup.foldl .setBucket
  exact (hs1.foldl .judgeMember).ite (hs1.foldl .judgeMember).relink

theorem Neat.portGone {p live} (hs : Neat σ s) : Neat σ (s.portGone p live) := by
  unfold State.portGone
  extract_lets +onlyGivenNames _ s2
  have hs2 : Neat σ s2 := by
    unfold s2
    split
    · exact hs.endSent.memberLost.ite hs.endSent
    · exact hs.endSent
  exact hs2.endQueued.put

theorem Neat.linkOn {f p bucket} (hs : Neat σ s) : Neat σ (s.linkOn f p bucket).2 :=
  hs.ite_snd (hs.ite_snd (hs.bump.fault.ite_snd (hs.bump.ite hs).setList))
theorem Neat.discardResponse {f} (hs : Neat σ s) : Neat σ (s.discardResponse f) := hs.put

theorem Neat.linkUnicast {f} (hs : Neat σ s) : Neat σ (s.linkUnicast f) := by
  unfold State.linkUnicast
  dsimp only
  split
  · exact hs.bump.refuseFrame.freeFrame
  · split
    · exact hs.linkOn.setFrame
    · exact hs.linkOn.refuseFrame.freeFrame
    · exact hs.linkOn.refuseFrame.freeFrame.ite hs.linkOn.discardResponse.freeFrame

theorem Neat.linkMulticast {here : Frame → State → State} {f} (hs : Neat σ s)
    (hhere : ∀ {a0 t}, Neat σ t → Neat σ (here a0 t)) :
    Neat σ (s.linkMulticast f here) := by
  unfold State.linkMulticast
  refine hs.refuseFrame.freeFrame.ite (hs.refuseFrame.freeFrame.ite ?_)
  refine hs.bump.respond.freeFrame.ite (hs.respond.freeFrame.ite ?_)
  extract_lets +onlyGivenNames _ _ _ s2
  have hs2 : Neat σ s2 := by
    unfold s2
    refine hs.setFrame.put.bumpN.foldl fun hu => ?_
    split
    · exact hhere hu
    · dsimp only
      split
      · exact hu.linkOn
      · exact hu.linkOn.branchAnswer
      · exact hu.linkOn.branchAnswer
  exact hs2.freeFrame

theorem Neat.deliverWhole {f copy payload} (hs : Neat σ s) : Neat σ (s.deliverWhole f copy payload) := by
  unfold State.deliverWhole
  refine .ite ?_ hs.emit
  dsimp only
  split <;> exact hs.emit

theorem Neat.deliverFrame {f copy} (hs : Neat σ s) : Neat σ (s.deliverFrame f copy) := by
  unfold State.deliverFrame
  refine (hs.deliverWhole.ite hs.put.put).ite ?_
  split
  · exact hs
  · exact hs.ite (hs.put.deliverWhole.ite hs.put.put)

theorem Neat.countEntry {f} (hs : Neat σ s) : Neat σ (s.countEntry f) := (hs.countIssued.ite hs).openOp.ite hs
theorem Neat.closeEntry {f} (hs : Neat σ s) : Neat σ (s.closeEntry f) := hs.closeOp.wake.ite hs

theorem Neat.linkFrame {f} (hs : Neat σ s) : Neat σ (s.linkFrame f) := by
  unfold State.linkFrame
  refine hs.ite ((hs.countEntry.linkMulticast fun hu => (hu.bump.ite hu).deliverFrame).ite ?_)
  refine .ite ?_ ?_
  · split
    · exact hs.branchAnswer.freeFrame
    · exact hs.countEntry.closeEntry.linkUnicast
  · extract_lets +onlyGivenNames _ s2
    have hs2 : Neat σ s2 := by
      unfold s2
      split
      · exact (hs.bump.ite hs).staticArrival
      · exact (hs.bump.ite hs).branchAnswer
      · exact (hs.bump.ite hs).deliverFrame
    exact hs2.freeFrame

theorem Neat.execFrameLink {frame} (hs : Neat σ s) : NeatNext σ (execFrameLink frame s) := by
  unfold Machine.execFrameLink
  refine (hs.begin.whenRunning fun hu => ?_).next
  split
  · exact hu.linkFrame
  · exact hu

theorem Neat.markWaits {p} (hs : Neat σ s) : Neat σ (s.markWaits p) := hs.foldl .setList

theorem Neat.takeGap {f e} (hs : Neat σ s) : Neat σ (s.takeGap f e).2 := by
  unfold State.takeGap
  split
  · exact hs.setBucket.ite_snd hs
  · split
    · exact hs.ite_snd hs.put
    · exact hs

theorem Neat.sendEntry {p k e f} (hs : Neat σ s) : Neat σ (s.sendEntry p k e f) := by
  unfold State.sendEntry
  extract_lets +onlyGivenNames _ _ _ _ s1 _ s3 _ _ _ _ _ s4
  have hs1 : Neat σ s1 := hs.takeGap.countDeferral.meter
  have hs3 : Neat σ s3 := by
    unfold s3
    split
    · exact hs1.setList.charge
    · exact hs1.setList
  have hs4 : Neat σ s4 := hs3.txFrame.put.ite hs3
  exact (hs4.setPort.ite hs4).emit.freeFrame

theorem Neat.egressBoundary {p} (hs : Neat σ s) : Neat σ (s.egressBoundary p) := by
  unfold State.egressBoundary
  refine hs.ite ?_
  split
  · exact hs.markWaits.bump.ite hs.markWaits
  · split
    · exact hs
    · extract_lets +onlyGivenNames _ _ s2
      have hs2 : Neat σ s2 := hs.put.sendEntry.markWaits
      exact hs2.put.ite hs2

theorem Neat.execEgressFrameBoundary {port} (hs : Neat σ s) : NeatNext σ (execEgressFrameBoundary port s) :=
  (hs.begin.whenRunning .egressBoundary).next

theorem Neat.mcWrite {i n v} (hs : Neat σ s) : Neat σ (s.mcWrite i n v) := by
  unfold State.mcWrite
  exact hs.takeLo.openWrite .put

theorem Neat.execMcEntryWrite {i n v} (hs : Neat σ s) : NeatNext σ (execMcEntryWrite i n v s) := (hs.begin.whenRunning .mcWrite).next

theorem Neat.quotaWrite {i t v} (hs : Neat σ s) : Neat σ (s.quotaWrite i t v) := by
  unfold State.quotaWrite
  exact hs.openWrite .setReg

theorem Neat.execQuotaWrite {i t v} (hs : Neat σ s) : NeatNext σ (execQuotaWrite i t v s) := (hs.begin.whenRunning .quotaWrite).next

theorem Neat.lgSet {g mask} (hs : Neat σ s) : Neat σ (s.lgSet g mask) := by
  unfold State.lgSet
  extract_lets +onlyGivenNames _ _ _ _ s2
  have hs2 : Neat σ s2 := hs.setReg.setReg.foldl fun hu => hu.endSent.memberLost.ite hu.endSent.memberLost.endQueued
  exact hs2.ite (hs2.foldl .judgeMember)

theorem Neat.lgMembersWrite {i g hi v} (hs : Neat σ s) : Neat σ (s.lgMembersWrite i g hi v) :=
  (hs.openWrite .stageLo).ite (hs.takeLo.openWrite .lgSet)
theorem Neat.execLgMembersWrite {i g hi v} (hs : Neat σ s) : NeatNext σ (execLgMembersWrite i g hi v s) :=
  (hs.begin.whenRunning .lgMembersWrite).next
theorem Neat.rebalance {g} (hs : Neat σ s) : Neat σ (s.rebalance g) := hs.ite ((hs.fillPins.foldl .setBucket).foldl .relink).setGroup.bumpN
theorem Neat.execLgRebalance {a g} (hs : Neat σ s) : NeatNext σ (execLgRebalance a g s) :=
  (hs.begin.whenRunning fun hu => hu.openWrite .rebalance).next
theorem Neat.rebalanceDone {g} (hs : Neat σ s) : Neat σ (s.rebalanceDone g) :=
  hs.ite ((hs.setGroup.foldl .setBucket).foldl fun hu => hu.memberLost.endQueued)
theorem Neat.execLgRebalanceComplete {g} (hs : Neat σ s) : NeatNext σ (execLgRebalanceComplete g s) :=
  (hs.begin.whenRunning .rebalanceDone).next
theorem Neat.rerouteNode {n} (hs : Neat σ s) : Neat σ (s.rerouteNode n) := (hs.foldl .relink).put

theorem Neat.routeWrite {i w v} (hs : Neat σ s) : Neat σ (s.routeWrite i w v) := by
  unfold State.routeWrite
  exact hs.openWrite fun hu => hu.setReg.foldl fun hu => hu.rerouteNode.ite hu

theorem Neat.execRouteWrite {i n v} (hs : Neat σ s) : NeatNext σ (execRouteWrite i n v s) := (hs.begin.whenRunning .routeWrite).next

theorem Neat.execDiscardedResponseTimeout {n} (hs : Neat σ s) : NeatNext σ (execDiscardedResponseTimeout n s) := by
  unfold Machine.execDiscardedResponseTimeout
  refine (hs.begin.whenRunning fun hu => ?_).next
  split
  · exact hu
  · exact hu.elapse.put.respond

theorem Neat.execCellUsSample (hs : Neat σ s) : NeatNext σ (execCellUsSample s) :=
  (hs.begin.whenRunning fun hu => hu.elapse.foldl .meter).next

/-! ### Machine/Links.lean -/

/-- A port that is cleared keeps its lanes, out of use, and puts no frame together (R472). -/
theorem cleared_neat {x : Port} {st now} (hx : PortNeat x) : PortNeat (x.cleared st now) where
  lanes := wf_revalue {} (fun l : Lane => { l with inUse := false }) _ hx.lanes
  reasm := rfl

theorem Neat.portDown {p st} (hs : Neat σ s) : Neat σ (s.portDown p st) := by
  unfold State.portDown
  extract_lets +onlyGivenNames _ _ _ s1 s2
  have hs1 : Neat σ s1 := (hs.replacePort fun h => cleared_neat (hs.port p h)).setCrypt
  have hs2 : Neat σ s2 := hs1.bump32.ite hs1
  exact hs2.put.portGone.ite hs2.put

theorem Neat.fenceNow {p} (hs : Neat σ s) : Neat σ (s.fenceNow p) := hs.portDown.setPort.put

theorem Neat.portFence {p code} (hs : Neat σ s) : Neat σ (s.portFence p code) := by
  unfold State.portFence
  refine hs.fault.ite ?_
  split
  · exact hs.fault.fenceNow
  · exact hs.fault.put.issueHalt

theorem Neat.portLost {p} (hs : Neat σ s) : Neat σ (s.portLost p) := by
  unfold State.portLost
  extract_lets +onlyGivenNames _ _ _ _ _ _ _ s5
  have hs5 : Neat σ s5 := by
    unfold s5
    refine (hs.portDown.setPort.portEvent.fault.foldl .fenceAgent).foldl fun hu => ?_
    split
    · exact hu.issueHalt.ite hu
    · exact hu
  exact hs5.portFence.ite hs5

theorem Neat.trainFail {p st} (hs : Neat σ s) : Neat σ (s.trainFail p st) := hs.setPort.portEvent
theorem Neat.startTraining {p} (hs : Neat σ s) : Neat σ (s.startTraining p) := 
  hs.replacePort fun _ => ⟨rfl, rfl⟩

theorem Neat.portCtl {a p mode w8 en retrain} (hs : Neat σ s) : Neat σ (s.portCtl a p mode w8 en retrain) := by
  unfold State.portCtl
  refine hs.mgmtWrite fun {t} ht => ?_
  extract_lets +onlyGivenNames _ _ t1
  have ht1 : Neat σ t1 := ht.setPort
  exact (ht1.portDown.ite ht1).ite (ht1.ite (ht1.startTraining.ite (ht1.emit.portDown.startTraining.ite ht1)))

theorem Neat.execPortModeWrite {a port mode width8} (hs : Neat σ s) : NeatNext σ (execPortModeWrite a port mode width8 s) :=
  (hs.begin.whenRunning .portCtl).next
theorem Neat.execPortEnable {i port} (hs : Neat σ s) : NeatNext σ (execPortEnable i port s) := (hs.begin.whenRunning .portCtl).next
theorem Neat.execPortDisable {i port} (hs : Neat σ s) : NeatNext σ (execPortDisable i port s) := (hs.begin.whenRunning .portCtl).next
theorem Neat.execRetrain {i port} (hs : Neat σ s) : NeatNext σ (execRetrain i port s) := (hs.begin.whenRunning .portCtl).next
theorem Neat.useLanes {p l} (hs : Neat σ s) : Neat σ (s.useLanes p l) := by
  unfold State.useLanes
  generalize List.range 16 = ns
  exact hs.replacePort fun h => ⟨Tidied.refl.foldl (fun hl => hl.write) (hs.port p h).lanes, (hs.port p h).reasm⟩

/-- A lane of a port may be written. -/
theorem lane_neat {x : Port} {n l} (hx : PortNeat x) : PortNeat { x with lanes := Store.write ({} : Lane) x.lanes n l } :=
  ⟨Store.wf_write _ _ _ hx.lanes, hx.reasm⟩

theorem Neat.setLane {p n l} (hs : Neat σ s) :
    Neat σ (s.setPort p { s.port p with lanes := Store.write ({} : Lane) (s.port p).lanes n l }) :=
  hs.replacePort fun h => lane_neat (hs.port p h)

theorem Neat.electricalDone {p lanes} (hs : Neat σ s) : Neat σ (s.electricalDone p lanes) := by
  unfold State.electricalDone
  refine hs.ite ?_
  extract_lets +onlyGivenNames s1
  have hs1 : Neat σ s1 := by
    refine hs.foldl fun hu => .ite ?_ hu
    exact hu.setLane
  split
  · exact hs1.trainFail
  · exact hs1.useLanes.setPort.emit

theorem Neat.execElectricalTrainingDone {port lanes} (hs : Neat σ s) :
    NeatNext σ (execElectricalTrainingDone port lanes s) :=
  (hs.begin.whenRunning .electricalDone).next

theorem Neat.capsIn {p m} (hs : Neat σ s) : Neat σ (s.capsIn p m) := by
  unfold State.capsIn
  refine hs.ite ?_
  split
  · exact hs.trainFail
  · exact hs.setPort.setCrypt.put

theorem Neat.execCaps {port message} (hs : Neat σ s) : NeatNext σ (execCaps port message s) := (hs.begin.whenRunning .capsIn).next
theorem Neat.portUpNow {p} (hs : Neat σ s) : Neat σ (s.portUpNow p) := hs.trainFail.ite (hs.put.setPort.lgTrained.ite hs.put.setPort)
theorem Neat.secured {p secret} (hs : Neat σ s) : Neat σ (s.secured p secret) := hs.ite (hs.setCrypt.portUpNow.ite hs.setCrypt.put.setPort)
theorem Neat.execSecureDone {port secret} (hs : Neat σ s) : NeatNext σ (execSecureDone port secret s) :=
  (hs.begin.whenRunning .secured).next
theorem Neat.execCalibrateDone {port delayNs asym} (hs : Neat σ s) : NeatNext σ (execCalibrateDone port delayNs asym s) :=
  (hs.begin.whenRunning fun hu => hu.ite hu.setPort.portUpNow).next

theorem Neat.execTrainingTimeout {port} (hs : Neat σ s) : NeatNext σ (execTrainingTimeout port s) := by
  unfold Machine.execTrainingTimeout
  refine (hs.begin.whenRunning fun hu => ?_).next
  dsimp only
  split
  · exact hu
  · exact hu.ite hu.elapse.put.trainFail

theorem Neat.execTrainingRestart {port} (hs : Neat σ s) : NeatNext σ (execTrainingRestart port s) := by
  unfold Machine.execTrainingRestart
  refine (hs.begin.whenRunning fun hu => ?_).next
  split
  · exact hu
  · exact hu.elapse.startTraining

theorem Neat.execCxlPcieLinkUp {port rate width} (hs : Neat σ s) : NeatNext σ (execCxlPcieLinkUp port rate width s) :=
  (hs.begin.whenRunning fun hu => hu.ite (hu.trainFail.ite
    (hu.useLanes.setCrypt.setPort.ite hu.useLanes.setCrypt.portUpNow))).next
theorem Neat.execCxlPcieLinkLoss {port} (hs : Neat σ s) : NeatNext σ (execCxlPcieLinkLoss port s) :=
  (hs.begin.whenRunning fun hu => hu.ite hu.portLost).next
theorem settle_neat {x : Port} (hx : PortNeat x) : PortNeat x.settle := by
  unfold Port.settle
  split
  · exact hx
  · exact ⟨hx.lanes, hx.reasm⟩

theorem Neat.damage {p} (hs : Neat σ s) : Neat σ (s.damage p) := by
  unfold State.damage; exact hs.ite (hs.replacePort fun h => settle_neat (hs.port p h).edit).txFree
theorem Neat.takeWord {p} (hs : Neat σ s) : Neat σ (s.takeWord p) := by
  unfold State.takeWord; exact hs.put.bump.damage
theorem Neat.execUncorrectableWord {port} (hs : Neat σ s) : NeatNext σ (execUncorrectableWord port s) :=
  (hs.begin.whenRunning fun hu => hu.ite hu.bump.damage).next
theorem Neat.execReplayTimeout {port} (hs : Neat σ s) : NeatNext σ (execReplayTimeout port s) :=
  (hs.begin.whenRunning fun hu => hu.ite (hu.elapse.bump.portLost.ite (hu.elapse.replacePort fun h => (hu.port port h).edit).txFree)).next
theorem Neat.ackIn {p seq} (hs : Neat σ s) : Neat σ (s.ackIn p seq) :=
  hs.ite (hs.replacePort fun h => settle_neat (hs.port p h).edit).put.flushCredits
theorem Neat.execAck {port seq} (hs : Neat σ s) : NeatNext σ (execAck port seq s) := (hs.begin.whenRunning fun hu => hu.ackIn.ite hu).next
theorem Neat.nakIn {p seq} (hs : Neat σ s) : Neat σ (s.nakIn p seq) :=
  (hs.ackIn.replacePort fun h => settle_neat (hs.ackIn.port p h).edit).bump.foldl .txAgain
theorem Neat.execNak {port seq} (hs : Neat σ s) : NeatNext σ (execNak port seq s) := (hs.begin.whenRunning fun hu => hu.nakIn.ite hu).next
theorem Neat.execAckSend {port} (hs : Neat σ s) : NeatNext σ (execAckSend port s) :=
  (hs.begin.whenRunning fun hu => hu.ite (hu.ite hu.setPort.txFree)).next
theorem Neat.tagFail {p} (hs : Neat σ s) : Neat σ (s.tagFail p) := hs.setCrypt.bump.portFence.ite hs.setCrypt.bump.damage
theorem Neat.countRx {p h} (hs : Neat σ s) : Neat σ (s.countRx p h) := hs.ite (hs.bump.ite hs).setCrypt
/-- The bytes of a frame that is being put together may be written. -/
theorem reasm_neat {x : Port} {n bytes arrived} (hx : PortNeat x) :
    PortNeat { x with reasm := Store.write [] x.reasm n bytes, arrived } :=
  ⟨hx.lanes, Store.wf_write _ _ _ hx.reasm⟩

theorem Neat.acceptFlit {p h payload} (hs : Neat σ s) : Neat σ (s.acceptFlit p h payload) := by
  unfold State.acceptFlit
  extract_lets +onlyGivenNames _ _ _ _ s2
  have hs2 : Neat σ s2 := (hs.replacePort fun h => settle_neat (hs.port p h).edit).put
  refine .ite ?_ (hs2.portDown.startTraining.ite hs2)
  refine hs2.replacePort fun h => ?_
  split <;> exact reasm_neat (hs2.port p h)

theorem Neat.sequenced {p h payload} (hs : Neat σ s) : Neat σ (s.sequenced p h payload) :=
  (hs.damage.ite hs).ite (hs.bump.damage.ite hs.acceptFlit)

theorem Neat.flitIn {p h payload tagOk} (hs : Neat σ s) : Neat σ (s.flitIn p h payload tagOk) := by
  unfold State.flitIn
  refine hs.ite (hs.takeWord.ite ?_)
  refine hs.bump.damage.ite (hs.damage.ite ?_)
  refine hs.tagFail.ite ?_
  extract_lets +onlyGivenNames _ s2
  have hs2 : Neat σ s2 := hs.countRx.ackIn.ite (hs.countRx.nakIn.ite hs.countRx)
  exact hs2.ite hs2.sequenced

theorem Neat.execFlitReceive {port h payload tagOk} (hs : Neat σ s) : NeatNext σ (execFlitReceive port h payload tagOk s) :=
  (hs.begin.whenRunning .flitIn).next
theorem Neat.setDegrade {p d} (hs : Neat σ s) : Neat σ (s.setDegrade p d) := by
  unfold State.setDegrade; exact hs.replacePort fun h => settle_neat (hs.port p h).edit

theorem Neat.laneFailed {p lane} (hs : Neat σ s) : Neat σ (s.laneFailed p lane) := by
  unfold State.laneFailed
  refine hs.ite ?_
  extract_lets +onlyGivenNames s1
  have hs1 : Neat σ s1 := hs.replacePort fun h => lane_neat (hs.port p h)
  dsimp only
  split
  · exact hs1.portLost
  · exact hs1.emit.setDegrade

theorem Neat.execLaneFail {port lane} (hs : Neat σ s) : NeatNext σ (execLaneFail port lane s) := (hs.begin.whenRunning .laneFailed).next
theorem Neat.execDegrade {port lanes ftc} (hs : Neat σ s) : NeatNext σ (execDegrade port lanes ftc s) :=
  (hs.begin.whenRunning fun hu => hu.ite hu.setDegrade).next

theorem Neat.execDegradeSwitch {port} (hs : Neat σ s) : NeatNext σ (execDegradeSwitch port s) := by
  unfold Machine.execDegradeSwitch
  refine (hs.begin.whenRunning fun hu => ?_).next
  split
  · exact hu
  · extract_lets +onlyGivenNames t1
    have ht1 : Neat σ t1 := hu.atFtc.useLanes
    exact (ht1.replacePort fun h => settle_neat (ht1.port port h).edit).bump32.portEvent

theorem Neat.execRekey {port} (hs : Neat σ s) : NeatNext σ (execRekey port s) :=
  (hs.begin.whenRunning fun hu => hu.ite hu.bump.setCrypt).next
theorem Neat.execRekeyHardLimit {port} (hs : Neat σ s) : NeatNext σ (execRekeyHardLimit port s) :=
  (hs.begin.whenRunning fun hu => hu.portLost.ite hu).next

/-! ### Machine/Reset.lean -/

theorem Neat.endOpenOp {r o} (hs : Neat σ s) : Neat σ (s.endOpenOp r o) := by
  unfold State.endOpenOp
  refine hs.postedFails.ite ?_
  split
  · exact hs.closeOp.finishItem
  · exact hs.respondCore

theorem Neat.writeEntries {n q} (hs : Neat σ s) : Neat σ (State.writeEntries n s q) := by
  induction n generalizing s with
  | zero => exact hs
  | succ n ih => exact ih hs.writeNext

theorem Neat.endOpen {st reason} (hs : Neat σ s) : Neat σ (s.endOpen st reason) :=
  hs.foldl (fun hu => hu.foldl .revertBlocks) |>.foldl .endOpenOp |>.foldl .writeEntries |>.foldl .endWaitCore
    |>.foldl .respondCore |>.foldl .respondCore |>.foldl .respondCore |>.foldl .respondCore |>.foldl .respondCore
    |>.foldl .refuseFrame
theorem Neat.noteReset {c warm} (hs : Neat σ s) : Neat σ (s.noteReset c warm) := (hs.setNum.setNum.bump32.ite hs.setNum.setNum).put

theorem Neat.emptySlots (hs : Neat σ s) : Neat σ s.emptySlots := by
  unfold State.emptySlots
  refine hs.foldl fun hu => ?_
  split
  · exact hu.planEmpty
  · exact hu

/-- A warm reset leaves no lane record, no frame half received and no session. -/
theorem Neat.warmKeep (_ : Neat σ s) : Neat σ s.warmKeep where
  ports _ e he := by
    obtain ⟨e0, -, he0⟩ := List.mem_filterMap.mp he
    split at he0
    · cases he0
    · cases he0
      exact ⟨rfl, rfl⟩
  sessions _ _ hx := nomatch hx

theorem Neat.warmReset {c} (hs : Neat σ s) : Neat σ (s.warmReset c) :=
  (hs.foldl .cancelMove).endOpen.emptySlots.destroyKeys.warmKeep.noteReset.put

theorem Neat.coldReset {c} (_ : Neat σ s) : Neat σ (s.coldReset c) :=
  Neat.put (Neat.noteReset { ports := (fun _ _ he => nomatch he), sessions := (fun _ _ hx => nomatch hx) })

theorem Neat.resetIfQuiet (hs : Neat σ s) : Neat σ s.resetIfQuiet := by
  unfold State.resetIfQuiet
  split
  · exact hs
  · exact hs.warmReset.ite hs

theorem Neat.commandWarm {c} (hs : Neat σ s) : Neat σ (s.commandWarm c) := by
  unfold State.commandWarm
  exact hs.foldl .windowOff |>.foldl .streamOff |>.foldl .vsOff |>.foldl (fun hu => hu.vsEnd.ite hu) |>.foldl .windowDone
    |>.put.resetIfQuiet

theorem Neat.loseLines (hs : Neat σ s) : Neat σ s.loseLines := by
  unfold State.loseLines
  extract_lets +onlyGivenNames s1
  have hs1 : Neat σ s1 := by
    unfold s1
    refine hs.foldl fun hu => ?_
    split
    · exact hu.ite hu.poisonLine
    · exact hu
  exact hs1.put

theorem Neat.brownout {trip arg} (hs : Neat σ s) : Neat σ (s.brownout trip arg) :=
  (((hs.foldl .issueHalt).foldl .cancelMove).loseLines.endOpen.destroyKeys.foldl fun hu => hu.ite hu.portDown).bump32.put

/-! ### Machine/Units.lean -/

theorem Neat.unitOutcome {l st} (hs : Neat σ s) : Neat σ (s.unitOutcome l st) := hs.setNum.setNum

theorem Neat.takeBack {f id t} (hs : Neat σ s) : Neat σ (s.takeBack f id t) := by
  unfold State.takeBack
  split
  · exact hs
  · exact hs.setItem.returnTask

theorem Neat.itemBack {id own group} (hs : Neat σ s) : Neat σ (s.itemBack id own group) := by
  unfold State.itemBack
  split
  · exact hs
  · exact hs.ite hs.setItem

theorem Neat.loseFloret {f} (hs : Neat σ s) : Neat σ (s.loseFloret f) := by
  unfold State.loseFloret
  extract_lets +onlyGivenNames _ s1
  have hs1 : Neat σ s1 := by
    unfold s1
    split
    · exact hs.returnTask
    · exact hs
  exact (((hs1.foldl .takeBack).foldl fun hu => (hu.returnTask.ite hu).itemBack).foldl .endWait).put.setFloret

theorem Neat.loseArbiter {k} (hs : Neat σ s) : Neat σ (s.loseArbiter k) := (hs.foldl fun hu => hu.setReg.setReg).setReg.setReg.put
theorem Neat.loseCluster {c} (hs : Neat σ s) : Neat σ (s.loseCluster c) := hs.put.foldl .loseArbiter
theorem Neat.loseQuadrant {d q} (hs : Neat σ s) : Neat σ (s.loseQuadrant d q) := hs.foldl fun hu => hu.setItem.settleItem.ite hu.setItem

theorem Neat.loseUnit {l} (hs : Neat σ s) : Neat σ (s.loseUnit l) := by
  unfold State.loseUnit
  dsimp only
  split
  · exact hs.loseFloret
  · exact hs.loseCluster
  · exact hs.loseQuadrant
  · exact hs.hcuLose.loseArbiter.ite hs.hcuLose
  · exact hs.foldl fun hu => hu.foldl .failReq
  · refine hs.foldl fun hu => ?_
    split
    · exact hu.endVquery
    · exact hu
  · refine hs.foldl fun hu => ?_
    split
    · exact hu.endVquery
    · exact hu
  · refine hs.foldl fun hu => ?_
    split
    · exact hu.endVquery
    · exact hu
  · exact hs.ite hs.portDown
  · exact hs

theorem Neat.startUnit {l} (hs : Neat σ s) : Neat σ (s.startUnit l) := by
  unfold State.startUnit
  split
  · exact hs.startTraining.ite hs
  · exact hs

theorem Neat.resetUnits {us} (hs : Neat σ s) : Neat σ (s.resetUnits us) := (hs.put.setStates.foldl .loseUnit).foldl .setUnit

theorem Neat.unitFirmware {l} (hs : Neat σ s) : Neat σ (s.unitFirmware l) := by
  unfold State.unitFirmware
  split
  · exact hs
  · dsimp only
    split
    · exact hs.put.measurementsUpdated.ite hs
    · exact hs.put.measurementsUpdated.ite hs
    · exact hs

theorem Neat.unitDo {c l} (hs : Neat σ s) : Neat σ (s.unitDo c l) := by
  unfold State.unitDo
  dsimp only
  split
  · exact hs.setStates.put
  · exact hs.setStates.put
  · exact hs.setStates.unitOutcome
  · exact hs.unitOutcome.commandWarm.ite (hs.resetUnits.foldl .startUnit).put
  · exact hs.resetUnits.setStates.unitOutcome
  · refine (hs.setStates.foldl fun hu => ?_).put
    split
    · exact hu.zeroClusterSram
    · exact hu.startUnit
  · exact (hs.resetUnits.foldl .startUnit).put

theorem Neat.unitCommand {u c} (hs : Neat σ s) : Neat σ (s.unitCommand u c) := by
  unfold State.unitCommand
  split
  · exact hs.answer
  · refine hs.answer.ite (hs.answer.ite ?_)
    refine hs.emit.ite ?_
    split
    · exact hs.unitOutcome.answer
    · exact hs.unitDo.answer

theorem Neat.unitWrite {p u c} (hs : Neat σ s) : Neat σ (s.unitWrite p u c) := hs.takeArm.unitCommand
theorem Neat.execUnitQuiesce {p u} (hs : Neat σ s) : NeatNext σ (execUnitQuiesce p u s) := (hs.begin.whenRunning .unitWrite).next
theorem Neat.execUnitResume {p u} (hs : Neat σ s) : NeatNext σ (execUnitResume p u s) := (hs.begin.whenRunning .unitWrite).next
theorem Neat.execUnitReset {p u} (hs : Neat σ s) : NeatNext σ (execUnitReset p u s) := (hs.begin.whenRunning .unitWrite).next
theorem Neat.execUnitPowerDown {p u} (hs : Neat σ s) : NeatNext σ (execUnitPowerDown p u s) := (hs.begin.whenRunning .unitWrite).next
theorem Neat.execUnitPowerUp {p u} (hs : Neat σ s) : NeatNext σ (execUnitPowerUp p u s) := (hs.begin.whenRunning .unitWrite).next
theorem Neat.execUnitUpdateBegin {p u} (hs : Neat σ s) : NeatNext σ (execUnitUpdateBegin p u s) := (hs.begin.whenRunning .unitWrite).next
theorem Neat.execUnitUpdateEnd {p u} (hs : Neat σ s) : NeatNext σ (execUnitUpdateEnd p u s) := (hs.begin.whenRunning .unitWrite).next

theorem Neat.endDrain {c} (hs : Neat σ s) : Neat σ (s.endDrain c) := by
  unfold State.endDrain
  refine hs.setStates.put.ite ?_
  split
  · exact hs.setStates.put.unitOutcome
  · exact hs.setStates.put

theorem Neat.quiesceDrained {u} (hs : Neat σ s) : Neat σ (s.quiesceDrained u) := by
  unfold State.quiesceDrained
  split
  · exact hs
  · exact hs.endDrain.ite hs

theorem Neat.execQuiesceDrained {u} (hs : Neat σ s) : NeatNext σ (execQuiesceDrained u s) := (hs.begin.whenRunning .quiesceDrained).next

theorem Neat.execQuiesceTimeout {u} (hs : Neat σ s) : NeatNext σ (execQuiesceTimeout u s) := by
  unfold Machine.execQuiesceTimeout
  refine (hs.begin.whenRunning fun hu => ?_).next
  split
  · exact hu.elapse.endDrain.ite hu.elapse.put.unitOutcome
  · exact hu

theorem Neat.execUnitResetComplete {u} (hs : Neat σ s) : NeatNext σ (execUnitResetComplete u s) := by
  unfold Machine.execUnitResetComplete
  refine (hs.begin.whenRunning fun hu => ?_).next
  split
  · extract_lets +onlyGivenNames _ t1
    have ht1 : Neat σ t1 := hu.setStates.unitOutcome
    exact ht1.put.unitFirmware.ite ht1.put
  · exact hu

theorem Neat.containDue (hs : Neat σ s) : Neat σ s.containDue := by
  unfold State.containDue
  refine hs.ite (hs.put.foldl fun hu => ?_)
  refine hu.fenceNow.ite ?_
  split
  · exact hu.startContain
  · exact hu

theorem Neat.execContainmentTimeout {u} (hs : Neat σ s) : NeatNext σ (execContainmentTimeout u s) := by
  unfold Machine.execContainmentTimeout
  refine (hs.begin.whenRunning fun hu => ?_).next
  split
  · exact hu
  · exact hu.elapse.endDrain.ite (hu.elapse.foldl .loseUnit).endDrain

theorem Neat.execUnitHangTimeout {u} (hs : Neat σ s) : NeatNext σ (execUnitHangTimeout u s) := by
  unfold Machine.execUnitHangTimeout
  refine (hs.begin.whenRunning fun hu => ?_).next
  split
  · exact hu
  · exact hu.containUnit.ite hu

theorem Neat.portUnfence {t : State} {a port} (hs : Neat σ t) : Neat σ (t.portUnfence a port) := by
  unfold State.portUnfence
  dsimp only
  split
  · exact hs.mgmtWrite .put
  · exact hs.openWrite .put

theorem Neat.execPortUnfence {a port} (hs : Neat σ s) : NeatNext σ (execPortUnfence a port s) := (hs.begin.whenRunning .portUnfence).next

/-! ### Machine/PlanRows.lean -/

theorem Neat.execArmDecision {slot} (hs : Neat σ s) : NeatNext σ (execArmDecision slot s) :=
  (hs.begin.whenRunning .armDecide).containDue.next
theorem Neat.execPlanDisarm {a slot} (hs : Neat σ s) : NeatNext σ (execPlanDisarm a slot s) :=
  (hs.begin.whenRunning .planDisarm).containDue.next
theorem Neat.execDisarmReceived {planId} (hs : Neat σ s) : NeatNext σ (execDisarmReceived planId s) :=
  (hs.begin.whenRunning .memberDisarm).containDue.next

theorem Neat.execHaltTakesEffect {slot} (hs : Neat σ s) : NeatNext σ (execHaltTakesEffect slot s) := by
  unfold Machine.execHaltTakesEffect
  refine Neat.next ?_
  refine (hs.begin.whenRunning fun hu => ?_).containDue
  dsimp only
  split
  · exact hu
  · split
    · exact hu
    · exact hu.ite (hu.ite hu.atTick.haltEffect)

theorem Neat.execPlanTick {slot slacks} (hs : Neat σ s) : NeatNext σ (execPlanTick slot slacks s) :=
  (hs.begin.whenRunning .planStep).containDue.next
theorem Neat.execSlipQuantumEnd {slot} (hs : Neat σ s) : NeatNext σ (execSlipQuantumEnd slot s) :=
  (hs.begin.whenRunning fun hu => hu.planStep.ite hu).containDue.next

theorem Neat.execRotationsComplete {slot} (hs : Neat σ s) : NeatNext σ (execRotationsComplete slot s) := by
  unfold Machine.execRotationsComplete
  refine Neat.next ?_
  refine (hs.begin.whenRunning fun hu => ?_).containDue
  dsimp only
  split
  · exact hu
  · exact hu.planStop.ite hu

theorem Neat.execHaltToken {port h} (hs : Neat σ s) : NeatNext σ (execHaltToken port h s) :=
  (hs.begin.whenRunning .haltArrives).containDue.next
theorem Neat.execHoldoverExpiry (hs : Neat σ s) : NeatNext σ (execHoldoverExpiry s) :=
  (hs.begin.whenRunning fun hu => hu.ite hu.elapse.timeLost).containDue.next
theorem Neat.execWindowDisableComplete {w} (hs : Neat σ s) : NeatNext σ (execWindowDisableComplete w s) :=
  (hs.begin.whenRunning fun hu => hu.windowDone.resetIfQuiet).next
theorem Neat.execVsDisableComplete {index} (hs : Neat σ s) : NeatNext σ (execVsDisableComplete index s) :=
  (hs.begin.whenRunning fun hu => hu.vsDone.resetIfQuiet).next

/-! ### Machine/Power.lean -/

theorem Neat.execPowerUp {mv} (hs : Neat σ s) : NeatNext σ (execPowerUp mv s) := (hs.begin.put.ite hs.begin).next
theorem Neat.execSoftStartDone (hs : Neat σ s) : NeatNext σ (execSoftStartDone s) :=
  (hs.begin.ite (hs.begin.put.ite hs.begin.coldReset)).next
theorem Neat.powerEvent (hs : Neat σ s) : Neat σ s.powerEvent := by
  unfold State.powerEvent; exact hs.free.eventOpen
theorem Neat.setPowerEvents {b} (hs : Neat σ s) : Neat σ (s.setPowerEvents b) := hs.put

theorem Neat.powerMonitor {watts} (hs : Neat σ s) : Neat σ (s.powerMonitor watts) := by
  unfold State.powerMonitor
  refine .ite ?_ (hs.put.put.ite hs.put)
  dsimp only
  split
  · exact hs.put.put
  · exact hs.put.put.put.setPowerEvents.powerEvent

theorem Neat.execPowerMonitorTick {watts} (hs : Neat σ s) : NeatNext σ (execPowerMonitorTick watts s) :=
  (hs.begin.whenRunning .powerMonitor).next

theorem Neat.sagSample {mv warnLow} (hs : Neat σ s) : Neat σ (s.sagSample mv warnLow) := by
  unfold State.sagSample
  refine hs.put.ite ?_
  extract_lets +onlyGivenNames _ _ _ s2
  have hs2 : Neat σ s2 := (hs.put.setPowerEvents.bump.powerEvent.ite hs.put.setPowerEvents).put.ite hs.put
  exact hs2.brownout.ite hs2

theorem Neat.execSagSample {mv warnLow} (hs : Neat σ s) : NeatNext σ (execSagSample mv warnLow s) := hs.begin.sagSample.next
theorem Neat.applyStored (hs : Neat σ s) : Neat σ s.applyStored := hs.ite (hs.put.foldl .setClusterClock)

theorem Neat.releaseStep (hs : Neat σ s) : Neat σ s.releaseStep := by
  unfold State.releaseStep
  dsimp only
  split
  · exact hs.elapse.put.applyStored.ite hs.elapse.put
  · exact hs.elapse.put.applyStored.ite hs.elapse.put
  · exact hs

theorem Neat.execThrottleRelease (hs : Neat σ s) : NeatNext σ (execThrottleRelease s) := (hs.begin.whenRunning .releaseStep).next
theorem Neat.execBrownoutRecovery (hs : Neat σ s) : NeatNext σ (execBrownoutRecovery s) := (hs.begin.warmReset.ite hs.begin).next

theorem Neat.execBrownoutLoss {mv} (hs : Neat σ s) : NeatNext σ (execBrownoutLoss mv s) := by
  unfold Machine.execBrownoutLoss
  refine (hs.begin.ite ?_).next
  split
  · exact hs.begin.put
  · exact hs.begin.put
  · exact hs.begin.put
  · exact hs.begin.put
  · exact hs.begin

theorem Neat.thermalSample {c16} (hs : Neat σ s) : Neat σ (s.thermalSample c16) :=
  hs.put.ite (hs.put.brownout.ite (hs.put.put.setPowerEvents.powerEvent.ite hs.put))
theorem Neat.execThermalSample {c16} (hs : Neat σ s) : NeatNext σ (execThermalSample c16 s) := hs.begin.thermalSample.next
theorem Neat.setThermal {dyn static} (hs : Neat σ s) : Neat σ (s.setThermal dyn static) := hs.put
theorem Neat.thermalMs (hs : Neat σ s) : Neat σ s.thermalMs :=
  (hs.setThermal.ite (hs.setThermal.ite hs)).ite (hs.ite (hs.setThermal.ite hs.setThermal))
theorem Neat.thermalEnd (hs : Neat σ s) : Neat σ s.thermalEnd := hs.put.applyStored.ite hs
theorem Neat.thermalStep (hs : Neat σ s) : Neat σ s.thermalStep := hs.ite hs.elapse.put.thermalMs.thermalEnd
theorem Neat.execThermalThrottleStep (hs : Neat σ s) : NeatNext σ (execThermalThrottleStep s) := (hs.begin.whenRunning .thermalStep).next

theorem Neat.referenceCheck {s0 : State} {ppb parentPpb stopped} (hs : Neat σ s0) :
    Neat σ (s0.referenceCheck ppb parentPpb stopped) := by
  unfold State.referenceCheck
  extract_lets +onlyGivenNames s
  have hs : Neat σ s := by
    unfold s
    split
    · exact hs
    · exact hs.setNum
  exact hs.ite ((hs.foldl .planContain).foldl fun hu => hu.ite hu.portDown).fault.warmReset.put.setNum

theorem Neat.execReferenceMonitor {ppb parentPpb stopped} (hs : Neat σ s) :
    NeatNext σ (execReferenceMonitor ppb parentPpb stopped s) :=
  (hs.begin.whenRunning .referenceCheck).next

theorem Neat.clockRequest {p cluster mhz} (hs : Neat σ s) : Neat σ (s.clockRequest p cluster mhz) := by
  unfold State.clockRequest
  exact hs.openWrite fun hu => hu.setNum.put.ite (hu.setNum.put.ite hu.setNum.put.setClusterClock)

theorem Neat.execClockRequestWrite {p cluster mhz} (hs : Neat σ s) : NeatNext σ (execClockRequestWrite p cluster mhz s) :=
  (hs.begin.whenRunning .clockRequest).next
theorem Neat.railSettled {q} (hs : Neat σ s) : Neat σ (s.railSettled q) := hs.put.free.put.ite (hs.put.free.put.foldl .setClusterClock)
theorem Neat.execRailSettled {quadrant} (hs : Neat σ s) : NeatNext σ (execRailSettled quadrant s) :=
  (hs.begin.whenRunning fun hu => hu.railSettled.ite hu).next
theorem Neat.execColdResetPin (hs : Neat σ s) : NeatNext σ (execColdResetPin s) := hs.begin.put.next
theorem Neat.execColdResetRelease (hs : Neat σ s) : NeatNext σ (execColdResetRelease s) := (hs.begin.put.coldReset.ite hs.begin.put).next
theorem Neat.resetGate {f : State → State} {a} (hs : Neat σ s) (hf : ∀ {t}, Neat σ t → Neat σ (f t)) :
    Neat σ (s.resetGate a f) :=
  (hf hs).ite hs
theorem Neat.execResetCommandWarm {a} (hs : Neat σ s) : NeatNext σ (execResetCommandWarm a s) :=
  (hs.begin.resetGate fun hu => hu.mgmtWrite .commandWarm).next
theorem Neat.execResetCommandCold {a} (hs : Neat σ s) : NeatNext σ (execResetCommandCold a s) :=
  (hs.begin.resetGate fun hu => hu.mgmtWrite .coldReset).next
theorem Neat.watchdogStart (hs : Neat σ s) : Neat σ s.watchdogStart := hs.put
theorem Neat.execHeartbeat {part} (hs : Neat σ s) : NeatNext σ (execHeartbeat part s) := (hs.begin.whenRunning fun hu => hu.put.ite hu).next
theorem Neat.execWatchdogRestart (hs : Neat σ s) : NeatNext σ (execWatchdogRestart s) :=
  (hs.begin.whenRunning fun hu => hu.watchdogStart.ite hu).next
theorem Neat.execWatchdogWarning (hs : Neat σ s) : NeatNext σ (execWatchdogWarning s) :=
  (hs.begin.whenRunning fun hu => hu.ite hu.elapse.put.fault).next
theorem Neat.execWatchdogExpiry (hs : Neat σ s) : NeatNext σ (execWatchdogExpiry s) :=
  (hs.begin.whenRunning fun hu => hu.elapse.put.warmReset.bump32.setNum).next
theorem Neat.execDimmOvercurrent {dimm} (hs : Neat σ s) : NeatNext σ (execDimmOvercurrent dimm s) :=
  (hs.begin.whenRunning fun hu => hu.ite hu.put.channelFailed).next
theorem Neat.execDimmFeedLow (hs : Neat σ s) : NeatNext σ (execDimmFeedLow s) :=
  (hs.begin.whenRunning fun hu => hu.put.foldl .channelFailed).next
theorem Neat.fuseReread {changed} (hs : Neat σ s) : Neat σ (s.fuseReread changed) :=
  hs.elapse.put.setNum.foldl fun hu => hu.bump32.fault.ite (hu.put.ite hu)
theorem Neat.execFuseReread {changed} (hs : Neat σ s) : NeatNext σ (execFuseReread changed s) := (hs.begin.whenRunning .fuseReread).next
theorem Neat.lateFault {code arg ftc} (hs : Neat σ s) : Neat σ (s.lateFault code arg ftc) := hs.fault.put

theorem Neat.bootFive {b} (hs : Neat σ s) : Neat σ (s.bootFive b) := by
  unfold State.bootFive
  extract_lets +onlyGivenNames _ _ _ s2 s3
  have hs2 : Neat σ s2 := by
    unfold s2
    split
    · exact hs.put.lateFault
    · exact hs.put
  have hs3 : Neat σ s3 := by
    unfold s3
    split
    · exact hs2.lateFault
    · exact hs2
  exact hs3.put.watchdogStart

theorem Neat.bootSix {cold channels feedLow} (hs : Neat σ s) : Neat σ (s.bootSix cold channels feedLow) :=
  hs.put.foldl fun hu => hu.ite (hu.setChan.ite (hu.channelFailed.ite hu))
theorem Neat.bootSeven {failed} (hs : Neat σ s) : Neat σ (s.bootSeven failed) :=
  (hs.put.foldl fun hu => hu.ite hu.setStates.fault).foldl fun hu => hu.ite hu.startUnit

theorem Neat.boot {k bankOk failed channels fuses feedLow} (hs : Neat σ s) :
    Neat σ (s.boot k bankOk failed channels fuses feedLow) := by
  unfold State.boot
  refine (hs.put.ite hs).put.ite (((hs.put.ite hs).bump32.ite (hs.put.ite hs)).put.bootFive.bootSix.bootSeven.ite ?_)
  exact ((hs.put.ite hs).bump32.ite (hs.put.ite hs)).put.bootFive.bootSix.bootSeven.ite (hs.put.ite hs).put

theorem Neat.execBoot {bankOk failed channels fuses feedLow} (hs : Neat σ s) :
    NeatNext σ (execBoot bankOk failed channels fuses feedLow s) := by
  unfold Machine.execBoot
  refine Neat.next ?_
  split
  · exact hs.begin.boot
  · exact hs.begin

/-! ### Machine/Inject.lean -/

theorem Neat.lockedWrite {eff : State → State} {p index check} (hs : Neat σ s) (heff : ∀ {t}, Neat σ t → Neat σ (eff t)) :
    Neat σ (s.lockedWrite p index check eff) :=
  hs.openWrite heff
theorem Neat.setInjection {e x} (hs : Neat σ s) : Neat σ (s.setInjection e x) := hs.put

theorem Neat.injectArm {t : State} {p} (hs : Neat σ t) : Neat σ (t.injectArm p) := by
  unfold State.injectArm
  exact hs.openWrite .setInjection

theorem Neat.execInjectArm {p} (hs : Neat σ s) : NeatNext σ (execInjectArm p s) := (hs.begin.whenRunning .injectArm).next

theorem Neat.injectCancel {t : State} {p} (hs : Neat σ t) : Neat σ (t.injectCancel p) := by
  unfold State.injectCancel
  exact hs.openWrite .setInjection

theorem Neat.execInjectCancel {p} (hs : Neat σ s) : NeatNext σ (execInjectCancel p s) := (hs.begin.whenRunning .injectCancel).next
theorem Neat.injectOff (hs : Neat σ s) : Neat σ s.injectOff := hs.setNum.foldl .setInjection
theorem Neat.execInjectDisable {p} (hs : Neat σ s) : NeatNext σ (execInjectDisable p s) :=
  (hs.begin.whenRunning fun hu => hu.lockedWrite .injectOff).next
theorem Neat.injectSag {us} (hs : Neat σ s) : Neat σ (s.injectSag us) := (hs.setPowerEvents.bump.powerEvent.ite hs.setPowerEvents).put
theorem Neat.injectSlip {n} (hs : Neat σ s) : Neat σ (s.injectSlip n) := hs.setSlot.slipIssue

theorem Neat.injectEffect {x l} (hs : Neat σ s) : NeatOk σ (s.injectEffect x l) := by
  unfold State.injectEffect
  split
  · exact hs.put.ok
  · exact hs.laneFailed.ok
  · exact hs.bump.portLost.ok.ite .error
  · exact hs.put.ok
  · exact hs.put.ok
  · exact hs.injectSag.ok
  · exact hs.injectSlip.ok.ite .error
  · split
    · exact .error
    · exact hs.unitDo.ok
  · exact .error

theorem Neat.injectFire {e} (hs : Neat σ s) : Neat σ (s.injectFire e) := by
  unfold State.injectFire
  refine hs.ite ?_
  dsimp only
  split
  · exact hs.atFtc.setInjection
  · split
    · exact hs.atFtc.setInjection
    · next t e =>
      have ht : Neat σ t := hs.atFtc.setInjection.put.injectEffect _ e
      exact ht.put

theorem Neat.execInjectFire {entry} (hs : Neat σ s) : NeatNext σ (execInjectFire entry s) := (hs.begin.whenRunning .injectFire).next
theorem Neat.toMs (hs : Neat σ s) : Neat σ s.toMs := hs.elapse
theorem Neat.sampleOwner {k} (hs : Neat σ s) : Neat σ (s.sampleOwner k) := hs.ite (hs.meter.meter.ite hs.bumpN.bumpN.bumpN.bumpN.bumpN)
theorem Neat.execMeterSample (hs : Neat σ s) : NeatNext σ (execMeterSample s) :=
  (hs.begin.whenRunning fun hu => hu.toMs.foldl .sampleOwner).next
theorem Neat.execMeterModeSwitch (hs : Neat σ s) : NeatNext σ (execMeterModeSwitch s) :=
  (hs.begin.whenRunning fun hu => (hu.elapse.ite hu).put).next
theorem Neat.execManagementLaneLinkChange {lane} (hs : Neat σ s) : NeatNext σ (execManagementLaneLinkChange lane s) :=
  (hs.begin.setNum.ite hs.begin).next

/-! ### Machine/RegView.lean -/

theorem Neat.setMbx {m x} (hs : Neat σ s) : Neat σ (s.setMbx m x) := hs.put
theorem Neat.setBus {b x} (hs : Neat σ s) : Neat σ (s.setBus b x) := hs.put

theorem Neat.csrRead {i off} (hs : Neat σ s) : Neat σ (s.csrRead i off).2 := by
  unfold State.csrRead
  split
  · exact hs.busError
  · exact hs

/-! ### Machine/ObjView.lean -/

theorem Neat.setSensor {n x} (hs : Neat σ s) : Neat σ (s.setSensor n x) := hs.put

/-! ### Machine/Fields.lean -/

theorem Neat.partField {a addr n bad f} (hs : Neat σ s) : Neat σ (s.partField a addr n bad f) := hs.mgmtWrite .setPart
theorem Neat.layerField {a addr n bad f} (hs : Neat σ s) : Neat σ (s.layerField a addr n bad f) := hs.mgmtWrite .setPart
theorem Neat.storeField {a addr t bad f} (hs : Neat σ s) : Neat σ (s.storeField a addr t bad f) := hs.mgmtWrite .setStore
theorem Neat.winField {a addr w bad f} (hs : Neat σ s) : Neat σ (s.winField a addr w bad f) := hs.mgmtWrite .setWindow
theorem Neat.agentField {a n node port tenant} (hs : Neat σ s) : Neat σ (s.agentField a n node port tenant) := hs.mgmtWrite .setAgent
theorem Neat.streamField {a addr n bad f} (hs : Neat σ s) : Neat σ (s.streamField a addr n bad f) := hs.mgmtWrite .setStream
theorem Neat.replayField {a p ns n} (hs : Neat σ s) : Neat σ (s.replayField a p ns n) := hs.mgmtWrite fun hu => hu.setPort

/-! ### Machine/Waits.lean -/

theorem Neat.writeDump (hs : Neat σ s) : Neat σ s.writeDump := hs.ite hs.serviceWrite.setNum.put

theorem Neat.execWaitTimeout {id} (hs : Neat σ s) : NeatNext σ (execWaitTimeout id s) := by
  unfold Machine.execWaitTimeout
  refine (hs.begin.whenRunning fun hu => ?_).next
  split
  · exact hu
  · exact hu.elapse.writeDump.endWait

theorem Neat.execWaitDumpComplete (hs : Neat σ s) : NeatNext σ (execWaitDumpComplete s) := by
  unfold Machine.execWaitDumpComplete
  refine (hs.begin.whenRunning fun hu => ?_).next
  split
  · exact hu
  · exact hu.ite hu.put.fault.eventOpen

theorem Neat.waitBreak {p n} (hs : Neat σ s) : Neat σ (s.waitBreak p n) := by
  unfold State.waitBreak
  exact hs.openWrite fun hu => hu.foldl .endWait

theorem Neat.execWaitBreak {p dump} (hs : Neat σ s) : NeatNext σ (execWaitBreak p dump s) := (hs.begin.whenRunning .waitBreak).next

/-! ### Machine/DictRead.lean -/

theorem Neat.markRead {index sub} (hs : Neat σ s) : Neat σ (s.markRead index sub) := hs.put.ite hs
theorem Neat.openStatus (hs : Neat σ s) : Neat σ s.openStatus.2 := hs.free
theorem Neat.whenServed {f : State → State} (hs : Neat σ s) (hf : ∀ {t}, Neat σ t → Neat σ (f t)) :
    Neat σ (s.whenServed f) :=
  (hf hs).ite hs

theorem Neat.readValue {o index sub off most} (hs : Neat σ s) : Neat σ (s.readValue o index sub off most).2 := by
  unfold State.readValue
  dsimp only
  split
  · refine .ite_snd hs (.ite_snd ?_ ?_)
    · exact hs.openBytes
    · exact hs.markRead
  · exact .ite_snd hs hs.markRead

theorem Neat.dictRead {index sub off most} (hs : Neat σ s) : Neat σ (s.dictRead index sub off most).2 := by
  unfold State.dictRead
  refine .ite_snd hs.openStatus (.ite_snd hs (.ite_snd hs ?_))
  dsimp only
  split
  · exact hs
  · exact hs.emit.openStatus
  · refine .ite_snd ?_ ?_
    · split
      · exact hs
      · exact .ite_snd hs hs
    · split
      · exact hs
      · exact .ite_snd hs hs.readValue

/-! ### Machine/DictWrite.lean -/

theorem Neat.keepObj {k n bad} (hs : Neat σ s) : Neat σ (s.keepObj k n bad) := by
  unfold State.keepObj
  split
  · exact hs.answer
  · exact hs.setNum.answer

theorem Neat.judged {f : State → State} {bad} (hs : Neat σ s) (hf : ∀ {t}, Neat σ t → Neat σ (f t)) :
    Neat σ (s.judged bad f) := by
  unfold State.judged
  split
  · exact hs.answer
  · exact (hf hs).answer

theorem Neat.runs {f : State → Result} (hs : Neat σ s) (hf : ∀ {t}, Neat σ t → NeatNext σ (f t)) :
    Neat σ (s.runs f) := by
  unfold State.runs
  split
  · next t e =>
    have ht : Neat σ t := (hf hs) _ e
    exact ht.put
  · exact hs

theorem Neat.writeUnit {p l sub n} (hs : Neat σ s) : Neat σ (s.writeUnit p l sub n) := by
  unfold State.writeUnit
  refine .ite ?_ ?_
  · split
    · exact hs.unitCommand
    · exact hs.answer
  · refine hs.keepObj.ite ?_
    split
    · exact hs.clockRequest.ite hs.keepObj
    · exact hs.keepObj.ite (hs.keepObj.ite (hs.waitBreak.ite hs.keepObj))
    · exact hs.keepObj

theorem Neat.unlock {p n} (hs : Neat σ s) : Neat σ (s.unlock p n) := hs.setPath.answer.ite hs.setPath.answer
theorem Neat.raiseEvent {n} (hs : Neat σ s) : Neat σ (s.raiseEvent n) := hs.judged fun hu => hu.free.event

theorem Neat.writeEvents {sub n} (hs : Neat σ s) : Neat σ (s.writeEvents sub n) := by
  unfold State.writeEvents
  dsimp only
  split
  · exact hs.raiseEvent
  · exact hs.keepObj
  · exact hs.judged .setVector
  · exact hs.judged .setVector
  · exact hs.judged .setVector
  · exact hs.judged .setVector
  · exact hs.judged .setVector
  · exact hs.judged .setVector
  · exact hs.judged .setVector
  · exact hs.keepObj

theorem Neat.writeSide {sub n} (hs : Neat σ s) : Neat σ (s.writeSide sub n) := by
  unfold State.writeSide
  dsimp only
  split
  · exact hs.judged .setSensor
  · exact hs.judged .setSensor
  · exact hs.keepObj

theorem Neat.writePackage {sub n} (hs : Neat σ s) : Neat σ (s.writePackage sub n) :=
  hs.keepObj.ite ((hs.judged fun hu => hu.commandWarm.ite hu.coldReset).ite hs.keepObj)

theorem Neat.writePort {p port sub n} (hs : Neat σ s) : Neat σ (s.writePort p port sub n) := by
  unfold State.writePort
  dsimp only
  split
  · exact hs.answer.ite hs.portCtl
  · exact hs.replayField
  · exact hs.replayField
  · exact hs.keepObj
  · exact hs.keepObj
  · exact hs.keepObj

theorem Neat.writePlan {p slot sub n} (hs : Neat σ s) : Neat σ (s.writePlan p slot sub n) := by
  unfold State.writePlan
  refine .ite ?_ hs.keepObj
  split
  · exact hs.runs .execPlanLoad
  · exact hs.runs .execPlanArm
  · exact hs.planDisarm
  · exact hs.planHalt
  · exact hs.planHalt
  · exact hs.runs .execPlanResume
  · exact hs.runs .execPlanReset
  · exact hs.runs .execPlanUnload
  · exact hs.answer

theorem Neat.writePart {p k sub n} (hs : Neat σ s) : Neat σ (s.writePart p k sub n) := by
  unfold State.writePart
  dsimp only
  split
  · exact hs.partField
  · exact hs.partField
  · exact hs.partField
  · exact hs.partField
  · exact hs.partField
  · exact hs.partField
  · exact hs.partField
  · exact hs.partField
  · exact hs.partField
  · exact hs.partField
  · exact hs.partBind.ite (hs.partUnbind.ite hs.partRepair)
  · exact hs.judged .setPart
  · exact hs.layerField
  · exact hs.layerField
  · exact hs.judged .setPart

theorem Neat.writeStore {p t sub n} (hs : Neat σ s) : Neat σ (s.writeStore p t sub n) := by
  unfold State.writeStore
  dsimp only
  split
  · exact hs.storeField
  · exact hs.storeEnable.ite hs.storeDisable
  · exact hs.storeField
  · exact hs.storeField
  · exact hs.judged .setStore

theorem Neat.writeWindow {p w sub n} (hs : Neat σ s) : Neat σ (s.writeWindow p w sub n) := by
  unfold State.writeWindow
  dsimp only
  split
  · exact hs.winField
  · exact hs.winField
  · exact hs.winField
  · exact hs.winField
  · exact (hs.runs .execWindowEnable).ite (hs.runs .execWindowDisable)

theorem Neat.writeAgent {p k sub n} (hs : Neat σ s) : Neat σ (s.writeAgent p k sub n) := by
  unfold State.writeAgent
  dsimp only
  split
  · exact hs.agentField
  · exact hs.agentField
  · exact hs.agentField
  · exact (hs.runs .execAgentUnregister).ite (hs.runs .execAgentRegister)

theorem Neat.writeTenant {p t sub n} (hs : Neat σ s) : Neat σ (s.writeTenant p t sub n) := hs.tenantWrite.ite hs.tenantWrite

theorem Neat.writeInject {p sub n} (hs : Neat σ s) : Neat σ (s.writeInject p sub n) := by
  unfold State.writeInject
  dsimp only
  split
  · exact hs.judged .setInjection
  · exact hs.judged .setInjection
  · exact hs.judged .setInjection
  · exact hs.judged .setInjection
  · exact hs.judged .setInjection
  · exact hs.judged .setInjection
  · exact hs.injectArm.ite hs.injectCancel
  · exact hs.keepObj

theorem Neat.writeCkpt {p c sub n} (hs : Neat σ s) : Neat σ (s.writeCkpt p c sub n) := by
  unfold State.writeCkpt
  dsimp only
  split
  · exact hs.judged .setCkpt
  · exact hs.judged .setCkpt
  · exact hs.judged .setCkpt
  · exact hs.judged .setCkpt
  · exact hs.judged .setCkpt
  · exact hs.judged .setCkpt
  · exact hs.ckptArm.ite hs.ckptCancel

theorem Neat.writeFault {p sub n} (hs : Neat σ s) : Neat σ (s.writeFault p sub n) := by
  unfold State.writeFault
  split
  · exact hs.portUnfence
  · exact hs.judged fun hu => hu.injectOff.ite hu.setNum
  · exact hs.keepObj

theorem Neat.snapshot {n} (hs : Neat σ s) : Neat σ (s.snapshot n) := hs.judged .put

theorem Neat.writeSecurity {p sub n} (hs : Neat σ s) : Neat σ (s.writeSecurity p sub n) := by
  unfold State.writeSecurity
  refine .ite ?_ hs.keepObj
  split
  · exact hs.firmwareVerify
  · exact hs.firmwareActivate
  · exact hs.firmwareCommit
  · exact hs.firmwareAbort

theorem Neat.writeNum {p index sub n} (hs : Neat σ s) : Neat σ (s.writeNum p index sub n) := by
  unfold State.writeNum
  refine .ite ?_ ?_
  · split
    · exact hs.writeUnit
    · exact hs.answer
  · refine hs.unlock.ite (hs.writeSide.ite ?_)
    refine hs.writeEvents.ite ((hs.judged fun hu => hu.setNum.applyStored).ite ?_)
    refine hs.ftcSet.ite (hs.writePackage.ite ?_)
    refine hs.writePort.ite (hs.keepObj.ite ?_)
    refine hs.jobAbortWrite.ite (hs.writePart.ite ?_)
    refine hs.writeStore.ite (hs.writeWindow.ite ?_)
    refine hs.writeAgent.ite (hs.writePlan.ite ?_)
    refine hs.writeSecurity.ite (hs.writeTenant.ite ?_)
    refine hs.writeFault.ite ?_
    exact hs.writeInject.ite ((hs.csAbortSlot.ite hs).answer.ite (hs.writeCkpt.ite (hs.snapshot.ite hs.keepObj)))

theorem Neat.writeBytes {index sub b} (hs : Neat σ s) : Neat σ (s.writeBytes index sub b) := (hs.setBytes.keyCheck.ite hs.setBytes).answer

/-! ### Machine/Dict.lean -/

theorem Neat.lastStatus (hs : Neat σ s) : Neat σ s.lastStatus.2 := by
  unfold State.lastStatus
  split
  · exact hs.put
  · exact hs.openStatus

theorem Neat.byRule {f : State → State} (hs : Neat σ s) (hf : ∀ {t}, Neat σ t → Neat σ (f t)) : Neat σ (s.byRule f).2 :=
  (hf hs.put).lastStatus
theorem Neat.dropStaging {p} (hs : Neat σ s) : Neat σ (s.dropStaging p) := hs.setPath

theorem Neat.putFixed {p o index sub total size b armed} (hs : Neat σ s) :
    Neat σ (s.putFixed p o index sub total size b armed).2 := by
  unfold State.putFixed
  dsimp only
  split
  · exact hs
  · exact hs.ite_snd (hs.ite_snd (hs.byRule .writeNum))

theorem Neat.putSegment {p o index sub off total b armed} (hs : Neat σ s) :
    Neat σ (s.putSegment p o index sub off total b armed).2 := by
  unfold State.putSegment
  refine hs.dropStaging.ite_snd (hs.dropStaging.ite_snd ?_)
  split
  · exact hs.dropStaging
  · refine hs.dropStaging.ite_snd (hs.setPath.ite_snd ?_)
    split
    · exact hs.dropStaging
    · exact hs.dropStaging.byRule .writeBytes

theorem Neat.dictPut {p index sub off total b armed} (hs : Neat σ s) :
    Neat σ (s.dictPut p index sub off total b armed).2 := by
  unfold State.dictPut
  dsimp only
  split
  · exact hs.ite hs.dropStaging
  · refine (hs.ite hs.dropStaging).ite_snd ?_
    split
    · exact hs.ite hs.dropStaging
    · exact hs.byRule .emit
    · refine ((hs.ite hs.dropStaging).ite_snd (hs.ite hs.dropStaging)).ite_snd ?_
      split
      · exact hs.ite hs.dropStaging
      · split
        · exact (hs.ite hs.dropStaging).ite_snd hs.putFixed
        · exact hs.putSegment

theorem Neat.armAfter {p unlocked renew before} (hs : Neat σ s) : Neat σ (s.armAfter p unlocked renew before) :=
  hs.ite (hs.setPath.ite hs.setPath)
theorem Neat.pathPut {p index sub off total b} (hs : Neat σ s) : Neat σ (s.pathPut p index sub off total b).2 := hs.dictPut.armAfter
theorem Neat.execDictUnlock {p v} (hs : Neat σ s) : NeatNext σ (execDictUnlock p v s) := (hs.begin.whenRunning .unlock).next

theorem Neat.execUnlockArmLapse {p} (hs : Neat σ s) : NeatNext σ (execUnlockArmLapse p s) := by
  unfold Machine.execUnlockArmLapse
  refine Neat.next ?_
  split
  · exact hs.begin
  · exact hs.begin.elapse.setPath

theorem Neat.execSegmentStagingExpiry {p} (hs : Neat σ s) : NeatNext σ (execSegmentStagingExpiry p s) := by
  unfold Machine.execSegmentStagingExpiry
  refine Neat.next ?_
  split
  · exact hs.begin
  · exact hs.begin.elapse.dropStaging

theorem Neat.execEventRaise {p n} (hs : Neat σ s) : NeatNext σ (execEventRaise p n s) :=
  (hs.begin.whenRunning fun hu => hu.takeArm.raiseEvent).next
theorem Neat.execMeterSnapshot {p v} (hs : Neat σ s) : NeatNext σ (execMeterSnapshot p v s) :=
  (hs.begin.whenRunning fun hu => hu.takeArm.snapshot).next

theorem Neat.execMeterSnapshotLatch (hs : Neat σ s) : NeatNext σ (execMeterSnapshotLatch s) := by
  unfold Machine.execMeterSnapshotLatch
  refine (hs.begin.whenRunning fun hu => ?_).next
  split
  · exact hu
  · exact (hu.atFtc.put.foldl fun hu => hu.foldl .setNum).setNum

/-! ### Machine/Side.lean -/

theorem Neat.ask {p r most} (hs : Neat σ s) : Neat σ (s.ask p r most).2 := by
  unfold State.ask
  split
  · exact (hs.armAfter.ite hs).emit
  · refine .ite_snd ?_ (.ite_snd ?_ hs)
    · exact hs.dictRead
    · exact hs.pathPut

theorem Neat.setSide {p x} (hs : Neat σ s) : Neat σ (s.setSide p x) := hs.put.ite hs.put
theorem Neat.sideAsk {p r most} (hs : Neat σ s) : Neat σ (s.sideAsk p r most) := hs.ask.setSide
theorem Neat.sideRefuse {p st} (hs : Neat σ s) : Neat σ (s.sideRefuse p st) := hs.setSide
theorem Neat.markFetched {seq} (hs : Neat σ s) : Neat σ (s.markFetched seq) := hs.put

theorem Neat.execDictReq {data pecOk whole} (hs : Neat σ s) : NeatNext σ (execDictReq data pecOk whole s) := by
  unfold Machine.execDictReq
  refine (hs.begin.whenServed fun hu => ?_).next
  refine hu.bump.ite (hu.sideRefuse.ite ?_)
  split
  · exact hu.sideRefuse
  · exact hu.sideAsk

theorem Neat.execDictRsp (hs : Neat σ s) : NeatNext σ (execDictRsp s) := by
  unfold Machine.execDictRsp
  refine (hs.begin.whenServed fun hu => ?_).next
  dsimp only
  split
  · exact hu.emit
  · exact hu.emit
  · exact hu.setSide.emit

theorem Neat.execEventFetch (hs : Neat σ s) : NeatNext σ (execEventFetch s) := by
  unfold Machine.execEventFetch
  refine (hs.begin.whenServed fun hu => ?_).next
  split
  · exact hu.openBytes.emit
  · exact hu.markFetched.emit

theorem Neat.execSmbusSclTimeout (hs : Neat σ s) : NeatNext σ (execSmbusSclTimeout s) := hs.begin.next
theorem Neat.spiDiscard (hs : Neat σ s) : Neat σ s.spiDiscard := hs.setSide.bump.setPath
theorem Neat.spiCheckFail (hs : Neat σ s) : Neat σ s.spiCheckFail := hs.sideRefuse.bump.setPath

theorem Neat.spiRequest {edges words mine} (hs : Neat σ s) : Neat σ (s.spiRequest edges words mine) := by
  unfold State.spiRequest
  refine hs.spiDiscard.ite ?_
  exact hs.ite (hs.spiDiscard.ite (hs.spiCheckFail.ite (hs.sideRefuse.ite (hs.sideRefuse.ite hs.sideAsk))))

theorem Neat.execSpiRead {edges words} (hs : Neat σ s) : NeatNext σ (execSpiRead edges words s) := (hs.begin.whenServed .spiRequest).next
theorem Neat.execSpiWrite {edges words} (hs : Neat σ s) : NeatNext σ (execSpiWrite edges words s) := (hs.begin.whenServed .spiRequest).next
theorem Neat.spiFetch {read : State → State} {edges r} (hs : Neat σ s) (hread : ∀ {t}, Neat σ t → Neat σ (read t)) :
    Neat σ (s.spiFetch edges r read) :=
  hs.spiDiscard.ite (hs.openBytes.emit.ite (hread hs.openBytes.emit).setSide)

theorem Neat.execSpiFetchResponse {edges} (hs : Neat σ s) : NeatNext σ (execSpiFetchResponse edges s) := by
  unfold Machine.execSpiFetchResponse
  refine (hs.begin.whenServed fun hu => ?_).next
  split
  · exact hu.spiFetch fun hu => hu
  · exact hu.spiFetch fun hu => hu
  · exact hu.spiFetch .setSide

theorem Neat.execSpiFetchEvent {edges} (hs : Neat σ s) : NeatNext σ (execSpiFetchEvent edges s) := by
  unfold Machine.execSpiFetchEvent
  refine (hs.begin.whenServed fun hu => ?_).next
  split
  · exact hu.spiFetch fun hu => hu
  · exact hu.spiFetch .markFetched

theorem Neat.mbxGo {m} (hs : Neat σ s) : Neat σ (s.mbxGo m) := by
  unfold State.mbxGo
  dsimp only
  split <;> exact hs.ask.setMbx

theorem Neat.mbxCommand {i m v} (hs : Neat σ s) : Neat σ (s.mbxCommand i m v) := hs.mgmtWrite fun hu => hu.setMbx.mbxGo.ite hu.setMbx
theorem Neat.execMailboxRead {i m v} (hs : Neat σ s) : NeatNext σ (execMailboxRead i m v s) := (hs.begin.whenRunning .mbxCommand).next
theorem Neat.execMailboxWrite {i m v} (hs : Neat σ s) : NeatNext σ (execMailboxWrite i m v s) := (hs.begin.whenRunning .mbxCommand).next

theorem Neat.settle {p r d} (hs : Neat σ s) : Neat σ (s.settle p r d) := by
  unfold State.settle
  split
  · exact hs.setMbx.ite hs
  · exact hs.setSide.ite hs
  · exact hs.setSide.ite hs
  · exact hs

/-! ### Machine/Aggregate.lean -/

theorem Neat.requestHere {p r} (hs : Neat σ s) : Neat σ (s.requestHere p r) := hs.dictRead.answer.ite (hs.pathPut.answer.ite hs.answer)

theorem Neat.execAncestorRequest {p r reply} (hs : Neat σ s) : NeatNext σ (execAncestorRequest p r reply s) := by
  unfold Machine.execAncestorRequest
  refine (hs.begin.whenRunning fun hu => ?_).next
  refine hu.answer.ite ?_
  split
  · exact hu.answer
  · exact hu.requestHere
  · split
    · exact hu.emit.settle.answer
    · exact hu.settle.answer

theorem Neat.execCounterLatch (hs : Neat σ s) (p) {index sub} : NeatNext σ (execCounterLatch p index sub s) :=
  (hs.begin.whenRunning fun hu => hu.atTick.dictRead.answer).next

theorem Neat.execAggregateRead {p index sub packages} (hs : Neat σ s) :
    NeatNext σ (execAggregateRead p index sub packages s) := by
  unfold Machine.execAggregateRead
  refine (hs.begin.whenRunning fun hu => ?_).next
  refine hu.answer.ite ?_
  split
  · exact hu.answer
  · exact hu.emit
  · exact hu.put.foldl .emit

theorem Neat.endAggregate {a} (hs : Neat σ s) : Neat σ (s.endAggregate a) := (hs.put.setNum.ite hs.put.setNum.fault).emit

theorem Neat.execAggregateReply {id package value} (hs : Neat σ s) :
    NeatNext σ (execAggregateReply id package value s) := by
  unfold Machine.execAggregateReply
  refine (hs.begin.whenRunning fun hu => ?_).next
  split
  · exact hu
  · exact hu.ite (hu.put.endAggregate.ite hu.put)

theorem Neat.execAggregateWindowEnd {id} (hs : Neat σ s) : NeatNext σ (execAggregateWindowEnd id s) := by
  unfold Machine.execAggregateWindowEnd
  refine (hs.begin.whenRunning fun hu => ?_).next
  split
  · exact hu
  · exact hu.elapse.endAggregate

/-! ### Machine/Buses.lean -/

theorem Neat.startRecovery {bus} (hs : Neat σ s) : Neat σ (s.startRecovery bus) := hs.setBus
theorem Neat.setDimmHot {d h} (hs : Neat σ s) : Neat σ (s.setDimmHot d h) := hs.put
theorem Neat.busFailed {bus what} (hs : Neat σ s) : Neat σ (s.busFailed bus what) := (hs.setSensor.ite hs).ite (hs.setDimmHot.ite hs)

theorem Neat.sensorPoll {entry value} (hs : Neat σ s) : Neat σ (s.sensorPoll entry value) := by
  unfold State.sensorPoll
  refine hs.ite ?_
  split
  · exact hs.elapse.setSensor
  · exact hs.elapse.setSensor
  · exact hs.elapse.emit.setSensor
  · exact hs.elapse.emit.setSensor

theorem Neat.execSensorPoll {entry value} (hs : Neat σ s) : NeatNext σ (execSensorPoll entry value s) :=
  (hs.begin.whenRunning fun hu => hu.sensorPoll.ite hu).next

theorem Neat.execDimmThermalPoll {dimm celsius} (hs : Neat σ s) : NeatNext σ (execDimmThermalPoll dimm celsius s) := by
  unfold Machine.execDimmThermalPoll
  refine (hs.begin.whenRunning fun hu => ?_).next
  refine hu.ite ?_
  split
  · exact hu.setDimmHot
  · exact hu
  · exact hu.emit.setDimmHot

theorem Neat.execBusTransactionTimeout {bus what} (hs : Neat σ s) : NeatNext σ (execBusTransactionTimeout bus what s) := by
  unfold Machine.execBusTransactionTimeout
  refine (hs.begin.whenRunning fun hu => ?_).next
  refine hu.ite ?_
  split
  · exact hu
  · exact hu
  · exact hu.elapse.busFailed.startRecovery

theorem Neat.execBusSdaStuck {bus what} (hs : Neat σ s) : NeatNext σ (execBusSdaStuck bus what s) := by
  unfold Machine.execBusSdaStuck
  refine (hs.begin.whenRunning fun hu => ?_).next
  refine hu.ite ?_
  split
  · exact hu
  · exact hu
  · refine Neat.startRecovery ?_
    split
    · exact hu.elapse.busFailed
    · exact hu.elapse

theorem Neat.recoveryAttempt {bus pulses} (hs : Neat σ s) : Neat σ (s.recoveryAttempt bus pulses) :=
  hs.elapse.setBus.ite (hs.elapse.setBus.ite hs.elapse.elapse.setBus.bump32.free.eventOpen)
theorem Neat.execBusRecoveryAttempt {bus pulses} (hs : Neat σ s) : NeatNext σ (execBusRecoveryAttempt bus pulses s) :=
  (hs.begin.whenRunning fun hu => hu.recoveryAttempt.ite hu).next
theorem Neat.busRecover {i bus go} (hs : Neat σ s) : Neat σ (s.busRecover i bus go) := hs.mgmtWrite fun hu => hu.startRecovery.ite hu
theorem Neat.execRecover {i bus} (hs : Neat σ s) : NeatNext σ (execRecover i bus s) :=
  (hs.begin.whenRunning fun hu => hu.busRecover.ite hu).next

/-! ### Machine/Gdp.lean -/

theorem Neat.gdpReadAll {l room} (hs : Neat σ s) : Neat σ (s.gdpReadAll l room).2 := by
  induction l generalizing s room with
  | nil => exact hs
  | cons e t ih => exact ih hs.dictRead

theorem Neat.gdpReads {es} (hs : Neat σ s) : Neat σ (s.gdpReads es).2 := hs.ite_snd hs.gdpReadAll

theorem Neat.gdpReadBody {h} (hs : Neat σ s) : Neat σ (s.gdpReadBody h).2 := by
  unfold State.gdpReadBody
  split
  · exact hs
  · exact hs.gdpReads.ite_snd hs

theorem Neat.gdpHelloBody {h} (hs : Neat σ s) : Neat σ (s.gdpHelloBody h).2 := hs.ite_snd hs.gdpReads
theorem Neat.gdpPut {start p e} (hs : Neat σ s) : Neat σ (s.gdpPut start p e).2 := hs.dictPut

theorem Neat.gdpPutAll {start p l u} (hs : Neat σ s) : Neat σ (s.gdpPutAll start p l u).2.2 := by
  induction l generalizing s u with
  | nil => exact hs
  | cons e t ih => exact ih hs.gdpPut

theorem Neat.gdpArm {start p es ends unlocked} (hs : Neat σ s) : Neat σ (s.gdpArm start p es ends unlocked) := by
  unfold State.gdpArm
  dsimp only
  split
  · exact hs.setPath
  · exact hs.armAfter

theorem Neat.gdpWrites {p atomic es} (hs : Neat σ s) : Neat σ (s.gdpWrites p atomic es).2 := by
  unfold State.gdpWrites
  dsimp only
  split
  · dsimp only
    exact hs.armAfter
  · exact hs.gdpPutAll.gdpArm

theorem Neat.gdpWriteBody {p secured h} (hs : Neat σ s) : Neat σ (s.gdpWriteBody p secured h).2 := by
  unfold State.gdpWriteBody
  split
  · exact hs
  · exact hs.ite_snd (hs.ite_snd hs.gdpWrites)

theorem Neat.setFlashBank {b x} (hs : Neat σ s) : Neat σ (s.setFlashBank b x) := hs.put
theorem Neat.flashStore {bank off data} (hs : Neat σ s) : Neat σ (s.flashStore bank off data) := hs.put.setFlashBank.setBank

theorem Neat.flashBody {p secured h} (hs : Neat σ s) : Neat σ (s.flashBody p secured h).2 := by
  unfold State.flashBody
  refine hs.ite_snd (hs.ite_snd ?_)
  refine hs.ite_snd (hs.ite_snd ?_)
  split
  · exact hs
  · exact hs.flashStore.setFlashBank

theorem Neat.countGdp {addr} (hs : Neat σ s) : Neat σ (s.countGdp addr) := hs.put
theorem Neat.keepReply {p seq reply} (hs : Neat σ s) : Neat σ (s.keepReply p seq reply) := hs.put

theorem Neat.gdpRequest {perform : State → GdpEnd × State} {addr udp seq h} (hs : Neat σ s)
    (hperform : ∀ {t}, Neat σ t → Neat σ (perform t).2) :
    Neat σ (s.gdpRequest addr udp seq h perform) := by
  unfold State.gdpRequest
  extract_lets +onlyGivenNames _
  split
  · exact hs.bump.bump.emit
  · refine hs.bump.ite ?_
    extract_lets +onlyGivenNames e
    have he : Neat σ e.2 := hperform hs.countGdp.bump
    exact he.ite (he.keepReply.emit.ite he.emit)

theorem Neat.gdpArrive {perform : GdpHead → State → GdpEnd × State} {addr udp frame type} (hs : Neat σ s)
    (hperform : ∀ {a0 t}, Neat σ t → Neat σ (perform a0 t).2) :
    Neat σ (s.gdpArrive addr udp frame type perform) := by
  unfold State.gdpArrive
  dsimp only
  split
  · exact hs.bump
  · exact hs.bump.emit.ite (hs.bump.emit.ite (hs.ite (hs.gdpRequest fun hu => hperform hu)))

theorem Neat.execGdpHello {addr udp frame} (hs : Neat σ s) : NeatNext σ (execGdpHello addr udp frame s) :=
  (hs.begin.whenServed fun hu => hu.gdpArrive .gdpHelloBody).next
theorem Neat.execGdpRead {addr udp frame} (hs : Neat σ s) : NeatNext σ (execGdpRead addr udp frame s) :=
  (hs.begin.whenServed fun hu => hu.gdpArrive .gdpReadBody).next
theorem Neat.execGdpWrite {addr udp frame} (hs : Neat σ s) : NeatNext σ (execGdpWrite addr udp frame s) :=
  (hs.begin.whenServed fun hu => hu.gdpArrive .gdpWriteBody).next
theorem Neat.execFlashWrite {addr udp frame} (hs : Neat σ s) : NeatNext σ (execFlashWrite addr udp frame s) :=
  (hs.begin.whenServed fun hu => hu.gdpArrive .flashBody).next

theorem Neat.gdpSecured {session addr udp seq frame} (hs : Neat σ s) :
    Neat σ (s.gdpSecured session addr udp seq frame) := by
  unfold State.gdpSecured
  dsimp only
  split
  · exact hs.bump
  · split
    · exact hs.bump.emit
    · refine hs.bump.emit.ite ?_
      exact hs.bump.emit.ite (hs.gdpRequest fun hu => hu.gdpReadBody.ite_snd (hu.gdpWriteBody.ite_snd hu.flashBody))

theorem Neat.execGdpSecured {session addr udp seq frame} (hs : Neat σ s) :
    NeatNext σ (execGdpSecured session addr udp seq frame s) :=
  (hs.begin.whenRunning .gdpSecured).next

theorem Neat.execFlashWriteDone {bank} (hs : Neat σ s) : NeatNext σ (execFlashWriteDone bank s) := by
  unfold Machine.execFlashWriteDone
  refine (hs.begin.whenServed fun hu => ?_).next
  refine hu.ite ?_
  dsimp only
  split
  · exact hu.setFlashBank
  · exact hu.setFlashBank.keepReply.emit

/-! ### Machine/Lane.lean -/

theorem Neat.ackEvents {dest seq} (hs : Neat σ s) : Neat σ (s.ackEvents dest seq) := hs.put
theorem Neat.execEventAck {dest seq} (hs : Neat σ s) : NeatNext σ (execEventAck dest seq s) := (hs.begin.whenRunning .ackEvents).next
theorem Neat.resendEvent {f} (hs : Neat σ s) : Neat σ (s.resendEvent f) := hs.elapse.put.emit.ite hs.elapse.put.bumpN

theorem Neat.execEventResend {dest} (hs : Neat σ s) : NeatNext σ (execEventResend dest s) := by
  unfold Machine.execEventResend
  refine (hs.begin.whenRunning fun hu => ?_).next
  split
  · exact hu.resendEvent
  · exact hu

theorem Neat.deliverGathered {x l} (hs : Neat σ s) : Neat σ (s.deliverGathered x l) :=
  (hs.foldl fun hu => hu.foldl .sendEvent).foldl .deliverOther

theorem Neat.execEventHoldoffExpiry {vector} (hs : Neat σ s) : NeatNext σ (execEventHoldoffExpiry vector s) := by
  unfold Machine.execEventHoldoffExpiry
  refine (hs.begin.whenRunning fun hu => ?_).next
  dsimp only
  split
  · exact hu
  · exact hu.elapse.setVector.deliverGathered

theorem Neat.execIcmpv6Echo {source dest payload} (hs : Neat σ s) : NeatNext σ (execIcmpv6Echo source dest payload s) :=
  (hs.begin.whenServed fun hu => hu.emit.ite hu).next
theorem Neat.learn {a mac} (hs : Neat σ s) : Neat σ (s.learn a mac) := hs.put
theorem Neat.neighborDiscovery {type source target mac} (hs : Neat σ s) :
    Neat σ (s.neighborDiscovery type source target mac) :=
  (hs.ite (hs.ite hs.learn).emit).ite (hs.learn.ite hs)
theorem Neat.execNeighborDiscovery {type source target mac} (hs : Neat σ s) :
    NeatNext σ (execNeighborDiscovery type source target mac s) :=
  (hs.begin.whenServed .neighborDiscovery).next

/-! ### Machine/Csr.lean -/

theorem Neat.plain {f : State → State} {i addr bad} (hs : Neat σ s) (hf : ∀ {t}, Neat σ t → Neat σ (f t)) :
    Neat σ (s.plain i addr bad f) :=
  hs.openWrite hf
theorem Neat.owned {f : State → State} {i addr bad} (hs : Neat σ s) (hf : ∀ {t}, Neat σ t → Neat σ (f t)) :
    Neat σ (s.owned i addr bad f) :=
  hs.mgmtWrite hf

theorem Neat.arbWrite {i h addr v} (hs : Neat σ s) : NeatSome σ (s.arbWrite i h addr v) := by
  unfold State.arbWrite
  refine (hs.plain .setReg).some.ite ?_
  exact hs.arbSeed.some.ite ((hs.plain .setReg).some.ite ((hs.plain .setReg).some.ite .none))

theorem Neat.hubUnlockWrite {i v} (hs : Neat σ s) : Neat σ (s.hubUnlockWrite i v) := hs.plain .setCsrReq
theorem Neat.hubWrite {i h addr v} (hs : Neat σ s) : Neat σ (s.hubWrite i h addr v) :=
  (hs.plain .setCsrReq).ite (hs.hubUnlockWrite.ite (hs.plain fun hu => hu.setReg.ite hu))

theorem Neat.plnWrite {i h addr v} (hs : Neat σ s) : Neat σ (s.plnWrite i h addr v) := by
  unfold State.plnWrite
  split
  · exact hs.planDisarm
  · exact hs.planHalt
  · exact hs.planHalt
  · exact hs.openWrite fun hu => hu

theorem Neat.pwrWrite {i h addr v} (hs : Neat σ s) : Neat σ (s.pwrWrite i h addr v) := by
  unfold State.pwrWrite
  refine (hs.owned .put).ite ?_
  exact ((hs.runs .execResetCommandWarm).ite ((hs.runs .execResetCommandCold).ite (hs.mgmtWrite fun hu => hu))).ite (hs.owned .put)

theorem Neat.secWrite {i h addr v} (hs : Neat σ s) : Neat σ (s.secWrite i h addr v) := by
  unfold State.secWrite
  refine hs.tenantWrite.ite (hs.clusterOwnerWrite.ite ?_)
  exact hs.portBindWrite.ite ((hs.mgmtWrite fun hu => hu.setCrypt.keyCheck).ite ((hs.owned .put).ite hs.secAssign))

theorem Neat.mgmtRegWrite {i h addr v} (hs : Neat σ s) : Neat σ (s.mgmtRegWrite i h addr v) :=
  hs.mbxCommand.ite ((hs.owned .setMbx).ite ((hs.owned .setMbx).ite ((hs.owned .setMbx).ite hs.busRecover)))
theorem Neat.portWrite {i h addr v} (hs : Neat σ s) : Neat σ (s.portWrite i h addr v) :=
  hs.portCtl.ite ((hs.owned fun hu => hu.setPort).ite hs.replayField)

theorem Neat.swcWrite {i h addr v} (hs : Neat σ s) : Neat σ (s.swcWrite i h addr v) := by
  unfold State.swcWrite
  refine (hs.plain .setReg).ite (hs.lgMembersWrite.ite ?_)
  refine hs.lgMembersWrite.ite (((hs.runs .execLgRebalance).ite (hs.openWrite fun hu => hu)).ite ?_)
  exact hs.quotaWrite.ite (hs.routeWrite.ite ((hs.plain .stageLo).ite hs.mcWrite))

theorem Neat.trfWrite {i h addr v} (hs : Neat σ s) : Neat σ (s.trfWrite i h addr v) := by
  unfold State.trfWrite
  refine (hs.gateCycleStart.ite ((hs.gateCycleStop.setReg.ite hs.gateCycleStop).ite (hs.owned .setReg))).ite ?_
  refine (hs.owned .stageLo).ite ((hs.takeLo.owned fun hu => hu.setReg.setReg).ite ?_)
  refine (hs.owned .setReg).ite ((hs.owned .setReg).ite ?_)
  refine ((hs.runs .execTrfIndRead).ite ((hs.runs .execTrfIndWrite).ite (hs.owned fun hu => hu))).ite ?_
  exact (hs.owned .stageLo).ite (hs.gateEntryWrite.ite (hs.owned .setReg))

theorem Neat.stageField {i addr v busy} (hs : Neat σ s) : Neat σ (s.stageField i addr v busy) := hs.owned .stageLo

theorem Neat.partRegWrite {i h addr v} (hs : Neat σ s) : Neat σ (s.partRegWrite i h addr v) := by
  unfold State.partRegWrite
  refine hs.stageField.ite (hs.takeLo.partField.ite ?_)
  refine hs.partField.ite (hs.partField.ite ?_)
  refine hs.partField.ite (hs.partField.ite ?_)
  refine hs.partField.ite (hs.stageField.ite ?_)
  refine hs.takeLo.layerField.ite (hs.layerField.ite ?_)
  extract_lets +onlyGivenNames t
  have ht : Neat σ t := by
    unfold t
    split
    · exact hs.owned fun hu => hu
    · exact hs.partBind
    · exact hs.partUnbind
    · exact hs.partRepair
  exact ht.setPart.ite ht

theorem Neat.memWriteReg {i h addr v} (hs : Neat σ s) : Neat σ (s.memWriteReg i h addr v) := by
  unfold State.memWriteReg
  refine hs.chanOwnerWrite.ite (.ite ?_ hs.partRegWrite)
  split
  · exact hs.chanDeclare
  · exact hs.chanRestore
  · exact hs.mgmtWrite fun hu => hu

theorem Neat.kvWrite {i h addr v} (hs : Neat σ s) : Neat σ (s.kvWrite i h addr v) := by
  unfold State.kvWrite
  refine (hs.storeEnable.ite ((hs.storeDisable.ite (hs.owned fun hu => hu)).ite hs.storeField)).ite ?_
  exact hs.storeField.ite (hs.owned .setStore)

theorem Neat.cohWrite {i h addr v} (hs : Neat σ s) : Neat σ (s.cohWrite i h addr v) := by
  unfold State.cohWrite
  refine (hs.owned .setNum).ite ((hs.runs .execWayMaskWrite).ite ?_)
  refine hs.stageField.ite (hs.takeLo.winField.ite ?_)
  refine hs.winField.ite (hs.winField.ite ?_)
  refine .ite ?_ ?_
  · refine (hs.runs .execWindowEnable).ite ?_
    exact ((hs.runs .execWindowDisable).ite (hs.owned fun hu => hu)).ite hs.winField
  · refine hs.agentField.ite ?_
    split
    · exact hs.runs .execAgentUnregister
    · exact hs.owned fun hu => hu
    · exact hs.runs .execAgentRegister

theorem Neat.czWrite {i h addr v} (hs : Neat σ s) : Neat σ (s.czWrite i h addr v) := by
  unfold State.czWrite
  refine hs.streamField.ite (hs.streamField.ite ?_)
  exact hs.streamField.ite (hs.streamField.ite ((hs.runs .execStreamEnable).ite (hs.runs .execStreamDisable)))

theorem Neat.vsrWrite {i h addr v} (hs : Neat σ s) : Neat σ (s.vsrWrite i h addr v) := hs.owned fun hu => hu.vsOff.ite hu

theorem Neat.regWrite {i h addr v} (hs : Neat σ s) : Neat σ (s.regWrite i h addr v) := by
  unfold State.regWrite
  dsimp only
  split
  · next t e =>
    have ht : Neat σ t := hs.arbWrite _ e
    exact ht
  · refine hs.hubWrite.ite (hs.pwrWrite.ite ?_)
    refine hs.secWrite.ite (hs.mgmtRegWrite.ite ?_)
    refine hs.pwrWrite.ite (hs.portWrite.ite ?_)
    refine hs.swcWrite.ite (hs.trfWrite.ite ?_)
    exact hs.cohWrite.ite (hs.memWriteReg.ite (hs.czWrite.ite (hs.kvWrite.ite (hs.vsrWrite.ite hs.plnWrite))))

theorem Neat.refuseWrite {i off st} (hs : Neat σ s) : Neat σ (s.refuseWrite i off st) := hs.takeArm.takeLo.busError.answer
theorem Neat.nameAlias {t : State} {before off} (hs : Neat σ t) : Neat σ (t.nameAlias before off) := hs.ite hs.setReg

theorem Neat.csrPut {i off v} (hs : Neat σ s) : Neat σ (s.csrPut i off v) := by
  unfold State.csrPut
  refine hs.refuseWrite.ite ?_
  split
  · exact hs.refuseWrite
  · split
    · exact hs.refuseWrite
    · exact hs.regWrite.nameAlias.ite hs.regWrite

theorem Neat.execCsrWrite {i addr v} (hs : Neat σ s) : NeatNext σ (execCsrWrite i addr v s) := (hs.begin.whenRunning .csrPut).next
theorem Neat.execCsrAliasWrite {i k addr v} (hs : Neat σ s) : NeatNext σ (execCsrAliasWrite i k addr v s) :=
  (hs.begin.whenRunning .csrPut).next
theorem Neat.execHubUnlock {i v} (hs : Neat σ s) : NeatNext σ (execHubUnlock i v s) := (hs.begin.whenRunning .hubUnlockWrite).next

/-! ### Machine/Remote.lean -/

theorem Neat.refuseAddress {o st} (hs : Neat σ s) : Neat σ (s.refuseAddress o st) := (hs.free.busError.ite (hs.busError.ite hs)).respond

theorem Neat.sramEffect {o} (hs : Neat σ s) : Neat σ (s.sramEffect o).2 := by
  unfold State.sramEffect
  refine hs.ite_snd (.ite_snd ?_ hs.sramWrite)
  split
  · exact hs
  · exact hs.sramWrite

theorem Neat.sramAccess {o} (hs : Neat σ s) : Neat σ (s.sramAccess o) := by
  unfold State.sramAccess
  split
  · exact hs.respond
  · exact hs.sramEffect.endAccess

theorem Neat.syncPut {i n k v} (hs : Neat σ s) : Neat σ (s.syncPut i n k v).2 := by
  unfold State.syncPut
  dsimp only
  split
  · exact hs.syncUpdate
  · exact hs.ite_snd (hs.ite_snd hs.setSync)
  · exact hs.ite_snd hs.setSync
  · exact hs.ite_snd (hs.ite_snd hs)
  · exact hs.ite_snd hs
  · exact hs.ite_snd hs
  · exact hs.ite_snd hs

theorem Neat.syncAtomic {o n} (hs : Neat σ s) : Neat σ (s.syncAtomic o n).2 := (hs.syncUpdate.ite hs).ite_snd hs.syncUpdate

theorem Neat.syncAccess {o} (hs : Neat σ s) : Neat σ (s.syncAccess o) := by
  unfold State.syncAccess
  refine hs.respond.ite (hs.endAccess.ite ?_)
  exact (hs.respond.ite hs.syncAtomic.endAccess).ite (hs.syncPut.respond.ite hs.syncPut.endAccess)

theorem Neat.queuePut {i off v} (hs : Neat σ s) : Neat σ (s.queuePut i off v).2 := by
  unfold State.queuePut
  refine hs.ite_snd (hs.contextWrite.ite_snd ?_)
  split
  · exact hs.commitWrite
  · exact hs.controlWrite
  · exact hs
  · exact hs

theorem Neat.queueAccess {o} (hs : Neat σ s) : Neat σ (s.queueAccess o) :=
  (hs.ite_snd hs.queuePut).respond.ite (hs.ite_snd hs.queuePut).endAccess
theorem Neat.csrAccess {o} (hs : Neat σ s) : Neat σ (s.csrAccess o) :=
  (hs.csrRead.respond.ite hs.csrRead.endAccess).ite (hs.csrPut.put.respond.ite hs.csrPut.put.endAccess)

theorem Neat.accessRegion {o} (hs : Neat σ s) : Neat σ (s.accessRegion o) := by
  unfold State.accessRegion
  split
  · exact hs.refuseAddress
  · split
    · exact hs.poolSubmit
    · exact hs.cohAccess
    · exact hs.sramAccess
    · exact hs.syncAccess
    · exact hs.queueAccess
    · exact hs.csrAccess
    · exact hs.kvRegion

theorem Neat.remoteOp {o postedOk mdMask mcast} (hs : Neat σ s) : Neat σ (s.remoteOp o postedOk mdMask mcast) :=
  hs.whenRunning fun hu => hu.front .accessRegion
theorem Neat.execPut {o} (hs : Neat σ s) : NeatNext σ (execPut o s) := hs.remoteOp.next
theorem Neat.execGet {o} (hs : Neat σ s) : NeatNext σ (execGet o s) := hs.remoteOp.next
theorem Neat.execPutNotify {o} (hs : Neat σ s) : NeatNext σ (execPutNotify o s) := hs.remoteOp.next
theorem Neat.remoteAtomic {o postedOk} (hs : Neat σ s) : Neat σ (s.remoteAtomic o postedOk) :=
  (hs.whenRunning fun hu => hu.begin.respond).ite hs.remoteOp
theorem Neat.execAtomic {o} (hs : Neat σ s) : NeatNext σ (execAtomic o s) := hs.remoteAtomic.next
theorem Neat.execFetchOp {o} (hs : Neat σ s) : NeatNext σ (execFetchOp o s) := hs.remoteAtomic.next

theorem Neat.onValue {go : State → Nat → State} {o} (hs : Neat σ s) (hgo : ∀ {t a0}, Neat σ t → Neat σ (go t a0)) :
    Neat σ (s.onValue o go) := by
  unfold State.onValue
  dsimp only
  split
  · exact hs.refuseAddress
  · exact hs.respond.ite (hs.respond.ite (hgo hs))

theorem Neat.execNotify {o0} (hs : Neat σ s) : NeatNext σ (execNotify o0 s) :=
  (hs.whenRunning fun hu => hu.front fun hu => hu.onValue .startNotify).next
theorem Neat.registerWait {o n} (hs : Neat σ s) : Neat σ (s.registerWait o n) := hs.respond.ite (hs.respond.ite hs.put.openOp)
theorem Neat.execWait {o0} (hs : Neat σ s) : NeatNext σ (execWait o0 s) :=
  (hs.whenRunning fun hu => hu.front fun hu => hu.onValue .registerWait).next
theorem Neat.localOp {go : State → State} {o mdMask} (hs : Neat σ s) (hgo : ∀ {t}, Neat σ t → Neat σ (go t)) :
    Neat σ (s.localOp o mdMask go) :=
  hs.whenRunning fun hu => hu.begin.respond.ite (hu.begin.respond.ite (hu.begin.respond.ite (hu.begin.respond.ite (hgo hu.begin))))
theorem Neat.execFence {o0} (hs : Neat σ s) : NeatNext σ (execFence o0 s) := (hs.localOp fun hu => hu.endFence.wake.ite hu.put).next
theorem Neat.execNop {o0} (hs : Neat σ s) : NeatNext σ (execNop o0 s) := (hs.localOp .respond).next

/-! ### Machine/TierHint.lean -/

theorem Neat.hintAnswer {o result detail merged} (hs : Neat σ s) : Neat σ (s.hintAnswer o result detail merged) :=
  hs.put.openOp.endHints.ite hs.respond
theorem Neat.askRange {n first count toNear cause} (hs : Neat σ s) : Neat σ (s.askRange n first count toNear cause).2.2 :=
  Neat.foldl_snd_snd (x := (0, 0, s)) hs fun hu => .ite_snd_snd hu hu.askMove

theorem Neat.hintRangeOp {flags : State → Nat → Nat → Nat → State} {o toNear extra} (hs : Neat σ s)
    (hflags : ∀ {t a0 a1 a2}, Neat σ t → Neat σ (flags t a0 a1 a2)) :
    Neat σ (s.hintRangeOp o toNear extra flags) := by
  unfold State.hintRangeOp
  split
  · exact hs.respond
  · refine (hs.respond.ite (hflags hs).hintAnswer).ite ?_
    split
    · exact hs.respond
    · exact (hflags hs).askRange.hintAnswer

theorem Neat.execPromote {o} (hs : Neat σ s) : NeatNext σ (execPromote o s) := (hs.unitOp fun hu => hu.hintRangeOp fun hu => hu).next
theorem Neat.execDemote {o} (hs : Neat σ s) : NeatNext σ (execDemote o s) := (hs.unitOp fun hu => hu.hintRangeOp fun hu => hu).next
theorem Neat.execPin {o} (hs : Neat σ s) : NeatNext σ (execPin o s) := (hs.unitOp fun hu => hu.hintRangeOp .mapPagesIn).next

theorem Neat.execUnpin {o} (hs : Neat σ s) : NeatNext σ (execUnpin o s) := by
  unfold Machine.execUnpin
  refine (hs.unitOp fun hu => ?_).next
  split
  · exact hu.respond
  · exact hu.mapPagesIn.hintAnswer

theorem Neat.execLayer {o} (hs : Neat σ s) : NeatNext σ (execLayer o s) := by
  unfold Machine.execLayer
  refine (hs.unitOp fun hu => ?_).next
  split
  · exact hu.respond
  · refine hu.respond.ite (hu.respond.ite ?_)
    split
    · exact hu.respond
    · exact hu.respond.ite hu.layerUsed.prefetchLayer.hintAnswer

theorem Neat.execCancel {o} (hs : Neat σ s) : NeatNext σ (execCancel o s) := by
  unfold Machine.execCancel
  refine (hs.unitOp fun hu => ?_).next
  split
  · exact hu.respond
  · exact hu.dropMoves.bumpN.hintAnswer

/-! ### One step -/

/-- Every row of the opcode table is neat. -/
theorem Neat.exec (c : Instr) (hs : Neat σ s) : NeatNext σ (exec c s) :=
  match c with
  | .csrWrite _ _ _ => hs.execCsrWrite
  | .csrAliasWrite _ _ _ _ => hs.execCsrAliasWrite
  | .hubUnlock _ _ => hs.execHubUnlock
  | .dictUnlock _ _ => hs.execDictUnlock
  | .unlockArmLapse _ => hs.execUnlockArmLapse
  | .segmentStagingExpiry _ => hs.execSegmentStagingExpiry
  | .unitQuiesce _ _ => hs.execUnitQuiesce
  | .quiesceDrained _ => hs.execQuiesceDrained
  | .quiesceTimeout _ => hs.execQuiesceTimeout
  | .unitResume _ _ => hs.execUnitResume
  | .unitReset _ _ => hs.execUnitReset
  | .unitResetComplete _ => hs.execUnitResetComplete
  | .unitPowerDown _ _ => hs.execUnitPowerDown
  | .unitPowerUp _ _ => hs.execUnitPowerUp
  | .unitUpdateBegin _ _ => hs.execUnitUpdateBegin
  | .unitUpdateEnd _ _ => hs.execUnitUpdateEnd
  | .groupQueueTake _ => hs.execGroupQueueTake
  | .ancestorRequest _ _ _ => hs.execAncestorRequest
  | .aggregateRead _ _ _ _ => hs.execAggregateRead
  | .aggregateReply _ _ _ => hs.execAggregateReply
  | .aggregateWindowEnd _ => hs.execAggregateWindowEnd
  | .counterLatch p _ _ => hs.execCounterLatch p
  | .put _ => hs.execPut
  | .get _ => hs.execGet
  | .atomic _ => hs.execAtomic
  | .fetchOp _ => hs.execFetchOp
  | .notify _ => hs.execNotify
  | .putNotify _ => hs.execPutNotify
  | .fence _ => hs.execFence
  | .wait _ => hs.execWait
  | .nop _ => hs.execNop
  | .waitTimeout _ => hs.execWaitTimeout
  | .waitDumpComplete => hs.execWaitDumpComplete
  | .waitBreak _ _ => hs.execWaitBreak
  | .qdbCommit _ _ _ => hs.execQdbCommit
  | .queueEnable _ _ => hs.execQueueEnable
  | .queueDisable _ _ => hs.execQueueDisable
  | .queueDisableDrained _ => hs.execQueueDisableDrained
  | .queueFlush _ _ => hs.execQueueFlush
  | .queueFlushEnd _ => hs.execQueueFlushEnd
  | .clearSticky _ _ => hs.execClearSticky
  | .queueContextPut _ _ _ _ => hs.execQueueContextPut
  | .itemStart _ _ => hs.execItemStart
  | .itemComplete _ => hs.execItemComplete
  | .queueRingReadFail _ _ => hs.execQueueRingReadFail
  | .postedFailureReport _ _ _ => hs.execPostedFailureReport
  | .postedTimeout _ _ => hs.execPostedTimeout
  | .responseReceive _ _ _ _ _ => hs.execResponseReceive
  | .planLoad _ _ => hs.execPlanLoad
  | .planLoadCopyDone _ _ => hs.execPlanLoadCopyDone
  | .clusterDrained _ => hs.execClusterDrained
  | .planArm _ _ => hs.execPlanArm
  | .armRequest _ _ _ _ => hs.execArmRequest
  | .armReply _ _ _ => hs.execArmReply
  | .armDecision _ => hs.execArmDecision
  | .planDisarm _ _ => hs.execPlanDisarm
  | .disarmReceived _ => hs.execDisarmReceived
  | .planStart _ => hs.execPlanStart
  | .planHaltBoundary _ _ => hs.execPlanHaltBoundary
  | .planHaltNow _ _ => hs.execPlanHaltNow
  | .planResume _ _ => hs.execPlanResume
  | .planReset _ _ => hs.execPlanReset
  | .planUnload _ _ => hs.execPlanUnload
  | .planTick _ _ => hs.execPlanTick
  | .slipQuantumEnd _ => hs.execSlipQuantumEnd
  | .rotationsComplete _ => hs.execRotationsComplete
  | .latenessReport _ _ _ _ => hs.execLatenessReport
  | .slipToken _ _ => hs.execSlipToken
  | .haltToken _ _ => hs.execHaltToken
  | .haltTakesEffect _ => hs.execHaltTakesEffect
  | .timeSyncInterval => hs.execTimeSyncInterval
  | .timeFlit _ _ _ _ _ => hs.execTimeFlit
  | .holdoverExpiry => hs.execHoldoverExpiry
  | .ftcSet _ _ => hs.execFtcSet
  | .mma _ _ => hs.execMma
  | .tileRead _ _ => hs.execTileRead
  | .tileWrite _ _ => hs.execTileWrite
  | .tileZero _ _ => hs.execTileZero
  | .vadd _ _ => hs.execVadd
  | .vsub _ _ => hs.execVsub
  | .vmul _ _ => hs.execVmul
  | .vfma _ _ => hs.execVfma
  | .vmax _ _ => hs.execVmax
  | .vmin _ _ => hs.execVmin
  | .vexp2 _ _ => hs.execVexp2
  | .vlog2 _ _ => hs.execVlog2
  | .vrcp _ _ => hs.execVrcp
  | .vrsqrt _ _ => hs.execVrsqrt
  | .vredsum _ _ => hs.execVredsum
  | .vredmax _ _ => hs.execVredmax
  | .vcmp _ _ => hs.execVcmp
  | .vsel _ _ => hs.execVsel
  | .vcvt _ _ => hs.execVcvt
  | .vld _ _ => hs.execVld
  | .vst _ _ => hs.execVst
  | .vstscale _ _ => hs.execVstscale
  | .vbcast _ _ => hs.execVbcast
  | .viadd _ _ => hs.execViadd
  | .vand _ _ => hs.execVand
  | .vor _ _ => hs.execVor
  | .vxor _ _ => hs.execVxor
  | .sAdd _ _ => hs.execSAdd
  | .sSub _ _ => hs.execSSub
  | .sMul _ _ => hs.execSMul
  | .sAnd _ _ => hs.execSAnd
  | .sOr _ _ => hs.execSOr
  | .sXor _ _ => hs.execSXor
  | .shl _ _ => hs.execShl
  | .shr _ _ => hs.execShr
  | .sar _ _ => hs.execSar
  | .slt _ _ => hs.execSlt
  | .sltu _ _ => hs.execSltu
  | .addi _ _ => hs.execAddi
  | .addhi _ _ => hs.execAddhi
  | .shli _ _ => hs.execShli
  | .ld64 _ _ => hs.execLd64
  | .st64 _ _ => hs.execSt64
  | .ld32 _ _ => hs.execLd32
  | .st32 _ _ => hs.execSt32
  | .rdstat _ _ => hs.execRdstat
  | .rdres _ _ => hs.execRdres
  | .rdflags _ _ => hs.execRdflags
  | .clrflags _ _ => hs.execClrflags
  | .rdtick _ _ => hs.execRdtick
  | .desc _ _ => hs.execDesc
  | .xRemoteIssue _ _ => hs.execXRemoteIssue
  | .br _ _ => hs.execBr
  | .bz _ _ => hs.execBz
  | .bnz _ _ => hs.execBnz
  | .waitop _ _ => hs.execWaitop
  | .waitall _ _ => hs.execWaitall
  | .barrier _ _ => hs.execBarrier
  | .tickwait _ _ => hs.execTickwait
  | .setstream _ _ => hs.execSetstream
  | .trap _ _ => hs.execTrap
  | .drain _ => hs.execDrain
  | .taskEnd _ => hs.execTaskEnd
  | .runTask _ _ _ => hs.execRunTask
  | .taskSplit _ => hs.execTaskSplit
  | .taskTake _ => hs.execTaskTake
  | .arbiterDraw _ _ => hs.execArbiterDraw
  | .starvationFlag _ _ => hs.execStarvationFlag
  | .arbiterSeedWrite _ _ _ => hs.execArbiterSeedWrite
  | .jobOpen _ => hs.execJobOpen
  | .jobAbort _ => hs.execJobAbort
  | .jobRelease _ => hs.execJobRelease
  | .jobPut _ _ => hs.execJobPut
  | .heldJobPutTimeout _ _ => hs.execHeldJobPutTimeout
  | .jobIdleTimeout _ => hs.execJobIdleTimeout
  | .jobExponentReady _ => hs.execJobExponentReady
  | .millstoneSum _ _ _ => hs.execMillstoneSum
  | .jobOutputAck _ _ => hs.execJobOutputAck
  | .hcuJobStart _ => hs.execHcuJobStart
  | .gatherSortDone _ => hs.execGatherSortDone
  | .frameReceive _ _ _ => hs.execFrameReceive
  | .quotaAdmit _ => hs.execQuotaAdmit
  | .quotaWaitExpiry _ => hs.execQuotaWaitExpiry
  | .injectionFrame _ _ _ => hs.execInjectionFrame
  | .frameLink _ => hs.execFrameLink
  | .multicastBranchAck _ _ _ => hs.execMulticastBranchAck
  | .egressFrameBoundary _ => hs.execEgressFrameBoundary
  | .mcEntryWrite _ _ _ => hs.execMcEntryWrite
  | .quotaWrite _ _ _ => hs.execQuotaWrite
  | .lgMembersWrite _ _ _ _ => hs.execLgMembersWrite
  | .lgRebalance _ _ => hs.execLgRebalance
  | .lgRebalanceComplete _ => hs.execLgRebalanceComplete
  | .routeWrite _ _ _ => hs.execRouteWrite
  | .wheelTick => hs.execWheelTick
  | .trfIndRead _ _ => hs.execTrfIndRead
  | .trfIndWrite _ _ => hs.execTrfIndWrite
  | .contractDispatch _ => hs.execContractDispatch
  | .gateCycleStart _ _ _ => hs.execGateCycleStart
  | .gateCycleBegin _ => hs.execGateCycleBegin
  | .gateCycleStop _ _ => hs.execGateCycleStop
  | .gateStopEffect _ => hs.execGateStopEffect
  | .gateHoldExpiry _ => hs.execGateHoldExpiry
  | .gateEntryWrite _ _ _ _ => hs.execGateEntryWrite
  | .partitionBind _ _ => hs.execPartitionBind
  | .mapWritten _ => hs.execMapWritten
  | .partitionUnbind _ _ => hs.execPartitionUnbind
  | .partitionClearComplete _ => hs.execPartitionClearComplete
  | .partitionRepair _ _ => hs.execPartitionRepair
  | .channelOwnerWrite _ _ _ => hs.execChannelOwnerWrite
  | .channelDeclareFailed _ _ => hs.execChannelDeclareFailed
  | .channelRestore _ _ => hs.execChannelRestore
  | .channelRetrainDone _ _ => hs.execChannelRetrainDone
  | .channelClearComplete _ => hs.execChannelClearComplete
  | .channelStall _ => hs.execChannelStall
  | .channelFatalError _ => hs.execChannelFatalError
  | .uncorrectableError _ => hs.execUncorrectableError
  | .tierDeadlineExpiry _ _ => hs.execTierDeadlineExpiry
  | .pageMoveStart _ _ => hs.execPageMoveStart
  | .pageMoveSwitch _ _ => hs.execPageMoveSwitch
  | .migrationHoldExpiry _ _ => hs.execMigrationHoldExpiry
  | .promote _ => hs.execPromote
  | .demote _ => hs.execDemote
  | .pin _ => hs.execPin
  | .unpin _ => hs.execUnpin
  | .layer _ => hs.execLayer
  | .cancel _ => hs.execCancel
  | .kvStoreEnable _ _ _ => hs.execKvStoreEnable
  | .kvStoreDisable _ _ => hs.execKvStoreDisable
  | .kvOpen _ => hs.execKvOpen
  | .kvLookup _ => hs.execKvLookup
  | .kvTouch _ => hs.execKvTouch
  | .kvSetTtl _ => hs.execKvSetTtl
  | .kvRetain _ => hs.execKvRetain
  | .kvRelease _ => hs.execKvRelease
  | .kvPinNear _ => hs.execKvPinNear
  | .kvUnpinNear _ => hs.execKvUnpinNear
  | .kvTruncate _ => hs.execKvTruncate
  | .truncateEffect _ _ => hs.execTruncateEffect
  | .kvDelete _ => hs.execKvDelete
  | .kvDeleteComplete _ _ => hs.execKvDeleteComplete
  | .kvMove _ _ => hs.execKvMove
  | .kvMoveCopyDone _ _ _ _ => hs.execKvMoveCopyDone
  | .kvMoveSwitchDone _ _ _ => hs.execKvMoveSwitchDone
  | .kvTokenWrite _ => hs.execKvTokenWrite
  | .kvPagePull _ => hs.execKvPagePull
  | .kvAttend _ => hs.execKvAttend
  | .attendStart _ => hs.execAttendStart
  | .attendRangeDone _ _ _ => hs.execAttendRangeDone
  | .attendOutputVisible _ _ => hs.execAttendOutputVisible
  | .sessionExpiryCheck => hs.execSessionExpiryCheck
  | .handleQuarantineExpiry _ => hs.execHandleQuarantineExpiry
  | .rdS _ => hs.execRdS
  | .rdX _ => hs.execRdX
  | .upg _ => hs.execUpg
  | .wb _ => hs.execWb
  | .drop _ => hs.execDrop
  | .rdSpec _ => hs.execRdSpec
  | .snoopResponse _ _ _ _ => hs.execSnoopResponse
  | .directoryRequestResume _ => hs.execDirectoryRequestResume
  | .holdExpiry _ => hs.execHoldExpiry
  | .snoopTimeout _ _ => hs.execSnoopTimeout
  | .specBufferExpiry _ _ => hs.execSpecBufferExpiry
  | .windowEnable _ _ _ => hs.execWindowEnable
  | .windowDisable _ _ => hs.execWindowDisable
  | .windowDisableComplete _ => hs.execWindowDisableComplete
  | .wayMaskWrite _ _ _ => hs.execWayMaskWrite
  | .agentRegister _ _ _ => hs.execAgentRegister
  | .agentUnregister _ _ => hs.execAgentUnregister
  | .streamEnable _ _ => hs.execStreamEnable
  | .streamEnableComplete _ => hs.execStreamEnableComplete
  | .streamDisable _ _ => hs.execStreamDisable
  | .czPut _ => hs.execCzPut
  | .czBlockVisible _ => hs.execCzBlockVisible
  | .czGet _ => hs.execCzGet
  | .train _ => hs.execTrain
  | .trainComplete _ => hs.execTrainComplete
  | .loadTable _ => hs.execLoadTable
  | .czSeal _ => hs.execCzSeal
  | .streamReset _ => hs.execStreamReset
  | .tableFetch _ _ _ => hs.execTableFetch
  | .vsQuery _ => hs.execVsQuery
  | .shardQueryStart _ => hs.execShardQueryStart
  | .shardQueryDone _ _ => hs.execShardQueryDone
  | .vsResultVisible _ _ => hs.execVsResultVisible
  | .queryTimeout _ => hs.execQueryTimeout
  | .vsEnable _ => hs.execVsEnable
  | .vsDisable _ => hs.execVsDisable
  | .vsDisableComplete _ => hs.execVsDisableComplete
  | .vsInsert _ => hs.execVsInsert
  | .vsDelete _ => hs.execVsDelete
  | .vsDeleteComplete _ _ => hs.execVsDeleteComplete
  | .setNeighbours _ => hs.execSetNeighbours
  | .merge _ => hs.execMerge
  | .mergeSwitch _ _ => hs.execMergeSwitch
  | .tenantEnable _ _ _ => hs.execTenantEnable
  | .tenantDisable _ _ _ => hs.execTenantDisable
  | .clusterOwnerWrite _ _ _ => hs.execClusterOwnerWrite
  | .clusterClearComplete _ => hs.execClusterClearComplete
  | .portBindWrite _ _ _ => hs.execPortBindWrite
  | .secAssign _ _ => hs.execSecAssign
  | .spdmMessage _ _ => hs.execSpdmMessage
  | .keyRelease _ _ => hs.execKeyRelease
  | .keyDestroy _ _ => hs.execKeyDestroy
  | .mkDecrypt _ => hs.execMkDecrypt
  | .verify _ => hs.execVerify
  | .activate _ => hs.execActivate
  | .commit _ _ => hs.execCommit
  | .abort _ => hs.execAbort
  | .rekey _ => hs.execRekey
  | .rekeyHardLimit _ => hs.execRekeyHardLimit
  | .portModeWrite _ _ _ _ => hs.execPortModeWrite
  | .portEnable _ _ => hs.execPortEnable
  | .portDisable _ _ => hs.execPortDisable
  | .retrain _ _ => hs.execRetrain
  | .electricalTrainingDone _ _ => hs.execElectricalTrainingDone
  | .caps _ _ => hs.execCaps
  | .secureDone _ _ => hs.execSecureDone
  | .calibrateDone _ _ _ => hs.execCalibrateDone
  | .trainingTimeout _ => hs.execTrainingTimeout
  | .trainingRestart _ => hs.execTrainingRestart
  | .flitReceive _ _ _ _ => hs.execFlitReceive
  | .ack _ _ => hs.execAck
  | .nak _ _ => hs.execNak
  | .ackSend _ => hs.execAckSend
  | .uncorrectableWord _ => hs.execUncorrectableWord
  | .replayTimeout _ => hs.execReplayTimeout
  | .laneFail _ _ => hs.execLaneFail
  | .degrade _ _ _ => hs.execDegrade
  | .degradeSwitch _ => hs.execDegradeSwitch
  | .gdpHello _ _ _ => hs.execGdpHello
  | .gdpRead _ _ _ => hs.execGdpRead
  | .gdpWrite _ _ _ => hs.execGdpWrite
  | .flashWrite _ _ _ => hs.execFlashWrite
  | .gdpSecured _ _ _ _ _ => hs.execGdpSecured
  | .eventAck _ _ => hs.execEventAck
  | .icmpv6Echo _ _ _ => hs.execIcmpv6Echo
  | .neighborDiscovery _ _ _ _ => hs.execNeighborDiscovery
  | .eventRaise _ _ => hs.execEventRaise
  | .eventResend _ => hs.execEventResend
  | .eventHoldoffExpiry _ => hs.execEventHoldoffExpiry
  | .meterSnapshot _ _ => hs.execMeterSnapshot
  | .meterSnapshotLatch => hs.execMeterSnapshotLatch
  | .mailboxRead _ _ _ => hs.execMailboxRead
  | .mailboxWrite _ _ _ => hs.execMailboxWrite
  | .dictReq _ _ _ => hs.execDictReq
  | .dictRsp => hs.execDictRsp
  | .eventFetch => hs.execEventFetch
  | .smbusSclTimeout => hs.execSmbusSclTimeout
  | .spiRead _ _ => hs.execSpiRead
  | .spiWrite _ _ => hs.execSpiWrite
  | .spiFetchResponse _ => hs.execSpiFetchResponse
  | .spiFetchEvent _ => hs.execSpiFetchEvent
  | .sensorPoll _ _ => hs.execSensorPoll
  | .dimmThermalPoll _ _ => hs.execDimmThermalPoll
  | .busTransactionTimeout _ _ => hs.execBusTransactionTimeout
  | .busSdaStuck _ _ => hs.execBusSdaStuck
  | .busRecoveryAttempt _ _ => hs.execBusRecoveryAttempt
  | .recover _ _ => hs.execRecover
  | .powerUp _ => hs.execPowerUp
  | .softStartDone => hs.execSoftStartDone
  | .boot _ _ _ _ _ => hs.execBoot
  | .fuseReread _ => hs.execFuseReread
  | .powerMonitorTick _ => hs.execPowerMonitorTick
  | .sagSample _ _ => hs.execSagSample
  | .throttleRelease => hs.execThrottleRelease
  | .brownoutRecovery => hs.execBrownoutRecovery
  | .brownoutLoss _ => hs.execBrownoutLoss
  | .thermalSample _ => hs.execThermalSample
  | .thermalThrottleStep => hs.execThermalThrottleStep
  | .referenceMonitor _ _ _ => hs.execReferenceMonitor
  | .clockRequestWrite _ _ _ => hs.execClockRequestWrite
  | .railSettled _ => hs.execRailSettled
  | .coldResetPin => hs.execColdResetPin
  | .coldResetRelease => hs.execColdResetRelease
  | .resetCommandWarm _ => hs.execResetCommandWarm
  | .resetCommandCold _ => hs.execResetCommandCold
  | .heartbeat _ => hs.execHeartbeat
  | .watchdogRestart => hs.execWatchdogRestart
  | .watchdogWarning => hs.execWatchdogWarning
  | .watchdogExpiry => hs.execWatchdogExpiry
  | .dimmOvercurrent _ => hs.execDimmOvercurrent
  | .dimmFeedLow => hs.execDimmFeedLow
  | .unitHangTimeout _ => hs.execUnitHangTimeout
  | .containmentTimeout _ => hs.execContainmentTimeout
  | .portUnfence _ _ => hs.execPortUnfence
  | .injectArm _ => hs.execInjectArm
  | .injectCancel _ => hs.execInjectCancel
  | .injectDisable _ => hs.execInjectDisable
  | .injectFire _ => hs.execInjectFire
  | .csOpen _ => hs.execCsOpen
  | .csAbort _ => hs.execCsAbort
  | .csRelease _ => hs.execCsRelease
  | .csPut _ => hs.execCsPut
  | .csCommit _ => hs.execCsCommit
  | .csApplyDone _ _ => hs.execCsApplyDone
  | .ckptArm _ _ => hs.execCkptArm
  | .ckptCancel _ _ => hs.execCkptCancel
  | .ckptStart _ => hs.execCkptStart
  | .ckptPageCaptured _ _ _ => hs.execCkptPageCaptured
  | .cowCopyDone _ _ => hs.execCowCopyDone
  | .ckptManifest _ _ => hs.execCkptManifest
  | .meterSample => hs.execMeterSample
  | .meterModeSwitch => hs.execMeterModeSwitch
  | .flashWriteDone _ => hs.execFlashWriteDone
  | .managementLaneLinkChange _ => hs.execManagementLaneLinkChange
  | .cxlPcieLinkUp _ _ _ => hs.execCxlPcieLinkUp
  | .cxlPcieLinkLoss _ => hs.execCxlPcieLinkLoss
  | .channelRequestComplete _ _ => hs.execChannelRequestComplete
  | .discardedResponseTimeout _ => hs.execDiscardedResponseTimeout
  | .cellUsSample => hs.execCellUsSample

/-- A step keeps the tables inside ports and inside sessions. -/
theorem step_neat {s t : State} (h : step s = .next t) : Neat s t := by
  unfold step at h
  split at h
  · cases h
    exact (Neat.refl s).idleTick
  · next c rest _ =>
    exact (Neat.refl s).put.exec c t h

/-! ### O7 -/

/-- The ports' tables, as the obligation writes them. -/
theorem portsNeat_iff {s : State} :
    PortsNeat s ↔ s.links.ports.all (fun e => Store.wf ({} : Lane) e.2.lanes && Store.wf [] e.2.reasm) = true := by
  simp only [PortsNeat, List.all_eq_true, Bool.and_eq_true]
  exact forall₂_congr fun e _ => ⟨fun h => ⟨h.lanes, h.reasm⟩, fun ⟨hl, hr⟩ => ⟨hl, hr⟩⟩

/-- Settles O7: every step keeps each table of the switch, of traffic control and of the links, and those inside a port, in canonical
form. -/
theorem fabricStoresStayCanonical : Obligations.FabricStoresStayCanonical := by
  rintro s t ⟨hframes, hlists, hmcast, hgroups, hbuckets, hcredits, hheadroom, hsent, hweirs, hshapers, hgates, hentries, hdispatched,
    hports, hinner⟩ h
  have ht := step_tidy h
  have hn := step_neat h
  exact ⟨ht.frames hframes, ht.lists hlists, ht.mcast hmcast, ht.groups hgroups, ht.buckets hbuckets, ht.credits hcredits,
    ht.headroom hheadroom, ht.sent hsent, ht.weirs hweirs, ht.shapers hshapers, ht.gates hgates, ht.gateEntries hentries,
    ht.dispatched hdispatched, ht.ports hports, portsNeat_iff.mp (hn.ports (portsNeat_iff.mpr hinner))⟩

end Sys2Proof.Machine
end

/-! # Egress, multicast answers and the registers of the switch

Sitting of the family 06_switch_core: O37. Each command's clause is a lemma `gives_<command>`; before it stand the rules of the operations
it turns on: what an accepted register write comes to, what a fold over buckets or lists leaves as it was, and which parts an operation
may change. -/

section
namespace Sys2Proof.Machine

-- As above, one thread checks the section in less memory than many do.
set_option Elab.async false

variable {s t : State}

/-! ### A register write that is accepted (R510, R512) -/

/-- The state in which an accepted write has its effect: the arm of its requester has ended. -/
def State.armSpent (s : State) (a : Access) (addr : Nat) : State := (s.takeArm a addr).2

theorem armSpent_keeps (s : State) (a : Access) (addr : Nat) : Keeps [.mgmt] s (s.armSpent a addr) := takeArm_keeps _ _ _

/-- A write that its check lets through has its effect and is answered OK. -/
theorem openWrite_accepted {a : Access} {addr : Nat} {check : Option Response} {eff : State → State} {guarded : Bool}
    (hc : check = none) (hg : guarded = true → (s.takeArm a addr).1 = true) :
    s.openWrite a addr check eff guarded = (eff (s.armSpent a addr)).answer served := by
  subst hc
  cases guarded with
  | false => rfl
  | true => simp [State.openWrite, State.armSpent, hg rfl]

/-- An effect that is answered OK keeps what it keeps, but for the number of the next free value. -/
theorem answer_eff_keeps {c : List Part} {a : Access} {addr : Nat} {eff : State → State}
    (h : Keeps c (s.armSpent a addr) (eff (s.armSpent a addr))) :
    Keeps (.mgmt :: .freeCounter :: c) s ((eff (s.armSpent a addr)).answer served) :=
  ((armSpent_keeps _ _ _).mono (by simp)).trans ((h.mono (by simp; tauto)).trans ((answer_keeps _ _ _).mono (by simp)))

theorem reg_setReg_word (s : State) (a d : Nat) (v : Word32) : (s.setReg a v.toNat).reg a d = v.toNat := by
  rw [reg_setReg_self, Nat.mod_eq_of_lt v.isLt]

/-! ### Multicast answers (R244) -/

/-- The multicast frame's entry once a branch has answered. -/
theorem branchAnswer_waits {n : Nat} {b : Branch} {r : Response} {w : McWait}
    (hw : s.sw.mcWaits.find? (fun w => decide (w.frame = n)) = some w) (hb : w.branches.contains b = true)
    (ha : w.answers.any (fun a => decide (a.1 = b)) = false) (hl : w.answers.length + 1 < w.branches.length) :
    s.branchAnswer n b r = { s with sw := { s.sw with
      mcWaits := s.sw.mcWaits.filter (fun x => decide (x.frame ≠ n)) ++ [{ w with answers := w.answers ++ [(b, r)] }] } } := by
  simp only [State.branchAnswer, hw, hb, ha, List.length_append, List.length_singleton, hl, Bool.not_true, Bool.false_eq_true,
    or_self, if_false, if_true]

/-- The last branch's answer sends the combined response. -/
theorem branchAnswer_last {n : Nat} {b : Branch} {r : Response} {w : McWait}
    (hw : s.sw.mcWaits.find? (fun w => decide (w.frame = n)) = some w) (hb : w.branches.contains b = true)
    (ha : w.answers.any (fun a => decide (a.1 = b)) = false) (hl : w.answers.length + 1 = w.branches.length) :
    s.branchAnswer n b r =
      ({ s with sw := { s.sw with mcWaits := s.sw.mcWaits.filter (fun x => decide (x.frame ≠ n)) } } : State).answerAs w.req w.op
        (combine (w.answers ++ [(b, r)])) := by
  simp only [State.branchAnswer, hw, hb, ha, List.length_append, List.length_singleton, hl, Bool.not_true, Bool.false_eq_true,
    or_self, if_false, Nat.lt_irrefl]

theorem answerAs_keeps (s : State) (r : Req) (op : Nat) (a : Response) :
    Keeps [.remote, .dict, .freeCounter] s (s.answerAs r op a) := by
  unfold State.answerAs
  extract_lets s1 s2
  have h1 : Keeps [.remote, .dict, .freeCounter] s s1 :=
    (Keeps.ite (countRefusal_keeps _ _ _) (Keeps.refl _ _)).mono (by simp)
  have h2 : Keeps [.remote, .dict, .freeCounter] s s2 :=
    Keeps.ite h1 (h1.trans ((closeOp_keeps _ _ _ _).mono (by simp)))
  exact (Keeps.ite h2 (h2.trans ((emit_keeps _ _).mono (by simp)))).trans (wake_keeps _)

/-- A request that is not posted is answered, whatever goes ahead with it. -/
theorem answerAs_answered {r : Req} {op : Nat} {a : Response} (hr : r.posted = false) :
    .response r op a ∈ (s.answerAs r op a).out.sent := by
  simp only [State.answerAs, hr, Bool.false_eq_true, false_and, if_false]
  exact wakeN_sentStays _ _ (List.mem_append_right _ (List.mem_singleton_self _))

theorem branchAnswer_keeps (s : State) (n : Nat) (b : Branch) (r : Response) :
    Keeps [.sw, .remote, .dict, .freeCounter] s (s.branchAnswer n b r) := by
  unfold State.branchAnswer
  split
  · exact Keeps.refl _ _
  · refine Keeps.ite (Keeps.refl _ _) (Keeps.ite ((putSw_keeps _ _).mono (by simp)) ?_)
    exact ((putSw_keeps _ _).mono (by simp)).trans ((answerAs_keeps _ _ _ _).mono (by simp))

theorem gives_multicastBranchAck_kept {n : Nat} {port : Option Nat} {r : Response} {w : McWait} {b : Branch} (hrun : s.running = true)
    (hw : s.sw.mcWaits.find? (fun w => decide (w.frame = n)) = some w) (hport : b = port.elim .here .port)
    (hb : w.branches.contains b = true) (ha : w.answers.any (fun a => decide (a.1 = b)) = false)
    (hl : w.answers.length + 1 < w.branches.length) :
    Gives (.multicastBranchAck n port r) s (fun t => t.sw.mcWaits = s.sw.mcWaits.filter (fun x => decide (x.frame ≠ n)) ++
      [{ w with answers := w.answers ++ [(b, r)] }] ∧ Keeps [.sw] s t) := by
  have hans := branchAnswer_waits (s := s.begin) (r := r) hw hb ha hl
  subst hport
  refine ⟨_, congrArg Host.Outcome.next (whenRunning_begin _ hrun), ?_⟩
  cases port <;> exact hans ▸ ⟨rfl, Keeps.refl _ s⟩

theorem gives_multicastBranchAck_combined {n : Nat} {port : Option Nat} {r : Response} {w : McWait} {b : Branch}
    (hrun : s.running = true) (hw : s.sw.mcWaits.find? (fun w => decide (w.frame = n)) = some w)
    (hport : b = port.elim .here .port) (hb : w.branches.contains b = true)
    (ha : w.answers.any (fun a => decide (a.1 = b)) = false) (hl : w.answers.length + 1 = w.branches.length)
    (hposted : w.req.posted = false) :
    Gives (.multicastBranchAck n port r) s (fun t => t.sw.mcWaits = s.sw.mcWaits.filter (fun x => decide (x.frame ≠ n)) ∧
      Answered t w.req w.op (fun x => decide (x = combine (w.answers ++ [(b, r)]))) = true) := by
  have hans := branchAnswer_last (s := s.begin) (r := r) hw hb ha hl
  have hgive : ∀ u : State, u = s.begin.branchAnswer n b r →
      u.sw.mcWaits = s.sw.mcWaits.filter (fun x => decide (x.frame ≠ n)) ∧
        Answered u w.req w.op (fun x => decide (x = combine (w.answers ++ [(b, r)]))) = true := by
    rintro u rfl
    rw [hans]
    refine ⟨by rw [(answerAs_keeps _ _ _ _).sw (by simp)]; rfl, List.any_eq_true.mpr ⟨_, answerAs_answered hposted, ?_⟩⟩
    simp
  subst hport
  exact ⟨_, congrArg Host.Outcome.next (whenRunning_begin _ hrun), hgive _ (by cases port <;> rfl)⟩

/-! ### Responses that were discarded, and the sample of cell_us (R256, R500) -/

theorem gives_discardedResponseTimeout {n : Nat} {r : Req} {op due : Nat} (hrun : s.running = true)
    (hn : s.sw.discarded[n]? = some (r, op, due)) :
    Gives (.discardedResponseTimeout n) s (fun t => t.sw.discarded = s.sw.discarded.eraseIdx n ∧
      Answered t r op (fun x => decide (x.status = .timeout)) = true ∧ due ≤ t.now ∧
      Keeps [.now, .ftc, .dict, .remote, .sw, .freeCounter] s t) := by
  have hn' : s.begin.sw.discarded[n]? = some (r, op, due) := hn
  refine ⟨_, congrArg Host.Outcome.next (whenRunning_begin _ hrun), ?_⟩
  simp only [hn']
  generalize hu : ({ s.begin.elapse due with sw := _ } : State) = u
  have hkeeps : Keeps [.now, .ftc, .dict, .sw] s u := by
    rw [← hu]
    exact Keeps.of_begin (((elapse_keeps _ _).mono (by simp)).trans ((putSw_keeps _ _).mono (by simp)))
  have hnow : due ≤ u.now := by
    rw [← hu]
    show due ≤ (s.begin.elapse due).now
    rw [elapse_now]
    exact Nat.le_max_right _ _
  have hr := respond_keeps u r op (served .timeout) .hub
  refine ⟨by rw [hr.sw (by simp), ← hu]; rfl, ?_, by rw [hr.now (by simp)]; exact hnow,
    (hkeeps.mono (by simp)).trans (hr.mono (by simp))⟩
  obtain ⟨x, hst, -, -, hx⟩ := respond_answered u r op (a := served .timeout) .hub (by simp [served])
  exact List.any_eq_true.mpr ⟨_, hx, by simp [hst, served]⟩

/-- The room charged to a quota is read from what holds cells and from this package's NODE. -/
theorem quotaUsed_eq {n : Nat} (hsw : t.sw = s.sw) (hr : t.remote = s.remote) (hh : t.hcu = s.hcu) (hn : t.nodeId = s.nodeId) :
    t.quotaUsed n = s.quotaUsed n := by
  simp only [State.quotaUsed, hsw, hh, roomLive_eq hr hn]

/-- Time that passes counts throttle_ticks and no other object. -/
theorem num_elapse_ne (s : State) {j : Nat} (n d : Nat) (hj : j ≠ O.throttleTicks) : (s.elapse n).num j d = s.num j d := by
  unfold State.elapse
  split
  · unfold State.ticksPass
    split
    · exact num_bumpN_ne _ _ _ hj
    · rfl
  · rfl

/-- The object cell_us of an owner (R500). -/
abbrev cellUsKey (k : Nat) : Nat := (0x5C01 + k) * 256 + 0x0F

theorem ownerIx_of_lt {k : Nat} (hk : k < 65) : ownerIx k = k := by
  unfold ownerIx
  split <;> omega

theorem meter_self {k n : Nat} (hk : k < 65) (hm : Store.read 0 s.faults.meterMode k = 0)
    (hlt : s.num (cellUsKey k) 0 + n < 2 ^ 64) : (s.meter k 0x0F n).num (cellUsKey k) 0 = s.num (cellUsKey k) 0 + n := by
  simp only [State.meter, ownerIx_of_lt hk, hm, if_true, State.bumpN]
  split
  · omega
  · rw [num_setNum_self, Nat.mod_eq_of_lt hlt]

theorem meter_other {k j n : Nat} (hk : k < 65) (hj : j ≠ k) : (s.meter k 0x0F n).num (cellUsKey j) 0 = s.num (cellUsKey j) 0 := by
  unfold State.meter
  split
  · exact num_bumpN_ne _ _ _ (by rw [ownerIx_of_lt hk, cellUsKey]; omega)
  · rfl

/-- The cells each owner of a list holds are added to its meter. -/
theorem foldl_cellUs {q : Nat → Nat} {l : List Nat} {j : Nat} (hl : ∀ k ∈ l, k < 65) (hnd : l.Nodup) (hq : ∀ k, s.quotaUsed k = q k)
    (hm : Store.read 0 s.faults.meterMode j = 0) (hlt : j ∈ l → s.num (cellUsKey j) 0 + q j < 2 ^ 64) :
    (l.foldl (fun (u : State) k => u.meter k 0x0F (u.quotaUsed k)) s).num (cellUsKey j) 0 =
      s.num (cellUsKey j) 0 + if j ∈ l then q j else 0 := by
  induction l generalizing s with
  | nil => rfl
  | cons k l ih =>
    obtain ⟨hk, hl'⟩ := List.forall_mem_cons.mp hl
    obtain ⟨hkl, hnd'⟩ := List.nodup_cons.mp hnd
    have hkeeps := meter_keeps s k 0x0F (s.quotaUsed k)
    have hq' : ∀ i, (s.meter k 0x0F (s.quotaUsed k)).quotaUsed i = q i := fun i =>
      (quotaUsed_eq (hkeeps.sw (by simp)) (hkeeps.remote (by simp)) (hkeeps.hcu (by simp)) (num_meter_ne _ _ (by decide))).trans (hq i)
    have hm' : Store.read 0 (s.meter k 0x0F (s.quotaUsed k)).faults.meterMode j = 0 := by rw [hkeeps.faults (by simp)]; exact hm
    rw [List.foldl_cons]
    by_cases hj : j = k
    · subst hj
      have hself := meter_self (n := s.quotaUsed j) hk hm (by rw [hq]; exact hlt (.head _))
      rw [ih hl' hnd' hq' hm' fun h => absurd h hkl, hself, hq, if_neg hkl, if_pos (.head _), Nat.add_zero]
    · have hother := meter_other (s := s) (n := s.quotaUsed k) hk hj
      rw [ih hl' hnd' hq' hm' fun h => by rw [hother]; exact hlt (.tail _ h), hother]
      simp [hj]

theorem gives_cellUsSample (hrun : s.running = true) :
    Gives .cellUsSample s (fun t => t.now = (s.now / 4000 + 1) * 4000 ∧ (∀ k, k < 65 → Store.read 0 s.faults.meterMode k = 0 →
      s.num (cellUsKey k) 0 + s.quotaUsed k < 2 ^ 64 → t.num (cellUsKey k) 0 = s.num (cellUsKey k) 0 + s.quotaUsed k) ∧
      Keeps [.now, .ftc, .dict] s t) := by
  refine ⟨_, congrArg Host.Outcome.next (whenRunning_begin _ hrun), ?_⟩
  dsimp only
  generalize hu : s.begin.elapse ((s.begin.now / 4000 + 1) * 4000) = u
  have hkeeps : Keeps [.now, .ftc, .dict] s u := by
    rw [← hu]
    exact Keeps.of_begin (elapse_keeps _ _)
  have hnow : u.now = (s.now / 4000 + 1) * 4000 := by
    rw [← hu, elapse_now]
    show max s.now ((s.now / 4000 + 1) * 4000) = _
    omega
  have hnum : ∀ j, j ≠ O.throttleTicks → u.num j 0 = s.num j 0 := by
    intro j hj
    rw [← hu]
    exact num_elapse_ne _ _ _ hj
  have hnode : u.nodeId = s.nodeId := by
    rw [← hu]
    exact num_elapse_ne _ _ _ (by decide)
  have hused : ∀ k, u.quotaUsed k = s.quotaUsed k := fun k =>
    quotaUsed_eq (hkeeps.sw (by simp)) (hkeeps.remote (by simp)) (hkeeps.hcu (by simp)) hnode
  have hfold : Keeps [.now, .ftc, .dict] u
      ((List.range 65).foldl (fun (u : State) k => u.meter k 0x0F (u.quotaUsed k)) u) :=
    Keeps.foldl (fun _ _ => (meter_keeps _ _ _ _).mono (by simp)) _ _
  have hclock : ((List.range 65).foldl (fun (u : State) k => u.meter k 0x0F (u.quotaUsed k)) u).now = u.now :=
    (Keeps.foldl (fun _ _ => meter_keeps _ _ _ _) _ _ : Keeps [.dict] u _).now (by simp)
  refine ⟨hclock.trans hnow, fun k hk hm hlt => ?_, hkeeps.trans hfold⟩
  have hk' : u.num (cellUsKey k) 0 = s.num (cellUsKey k) 0 := hnum _ (by rw [cellUsKey, O.throttleTicks]; omega)
  rw [foldl_cellUs (fun _ => List.mem_range.mp) List.nodup_range hused (by rw [hkeeps.faults (by simp)]; exact hm)
    fun _ => by rw [hk']; exact hlt, hk', if_pos (List.mem_range.mpr hk)]

/-! ### Registers of the switch (R239, R245, R246, R260, R514) -/

theorem takeLo_keeps (s : State) (i : Issuer) (addr : Nat) : Keeps [.mgmt] s (s.takeLo i addr).2 := Keeps.refl _ s

/-- The low word that was staged is the one that is taken back. -/
theorem takeLo_of_staged {i : Issuer} {addr : Nat} {lo : Word32}
    (h : Store.read none s.mgmt.loStaged (requesterOf i * 2 ^ 26 + addr) = some lo) : (s.takeLo i addr).1 = some lo.toNat := by
  simp only [State.takeLo, h, Option.map_some]

/-- Entry `n` of the multicast table, written. -/
def State.setMcast (s : State) (n : Nat) (e : McEntry) : State :=
  { s with sw := { s.sw with mcast := Store.write {} s.sw.mcast n e } }

/-- A high word whose fields are within R245's ranges makes the entry of it and of the low word staged before. -/
theorem mcWrite_accepted {i : Issuer} {n : Nat} {v lo : Word32}
    (hlo : Store.read none s.mgmt.loStaged (requesterOf i * 2 ^ 26 + R.swcMcLo n) = some lo) (h76 : bitsOf v.toNat 7 6 = 0)
    (h31 : bitsOf v.toNat 31 16 = 0) (hown : bitsOf v.toNat 15 8 < 64 ∨ bitsOf v.toNat 15 8 = 0xFF)
    (hmask : lo.toNat + 2 ^ 32 * bitsOf v.toNat 3 0 < 2 ^ portCount s.chip.variant) :
    s.mcWrite i n v.toNat = (((s.takeLo i (R.swcMcLo n)).2.armSpent (.csr i) (R.swcMcHi n)).setMcast n
      { ports := lo.toNat + 2 ^ 32 * bitsOf v.toNat 3 0, here := bitAt v.toNat 4, valid := bitAt v.toNat 5
        owner := bitsOf v.toNat 15 8 }).answer served := by
  have hown' : ¬ (64 ≤ bitsOf v.toNat 15 8 ∧ bitsOf v.toNat 15 8 ≠ 0xFF) := by omega
  simp only [State.mcWrite, takeLo_of_staged hlo, Option.getD_some, h76, h31, hown', Nat.not_le.mpr hmask, ne_eq, not_true_eq_false,
    or_self, if_false]
  exact openWrite_accepted rfl nofun

theorem gives_mcEntryWrite {i : Issuer} {n : Nat} {v lo : Word32} (hrun : s.running = true)
    (hlo : Store.read none s.mgmt.loStaged (requesterOf i * 2 ^ 26 + R.swcMcLo n) = some lo) (h76 : bitsOf v.toNat 7 6 = 0)
    (h31 : bitsOf v.toNat 31 16 = 0) (hown : bitsOf v.toNat 15 8 < 64 ∨ bitsOf v.toNat 15 8 = 0xFF)
    (hmask : lo.toNat + 2 ^ 32 * bitsOf v.toNat 3 0 < 2 ^ portCount s.chip.variant) (hw : Store.wf ({} : McEntry) s.sw.mcast = true) :
    Gives (.mcEntryWrite i n v) s (fun t => Store.read ({} : McEntry) t.sw.mcast n =
      { ports := lo.toNat + 2 ^ 32 * bitsOf v.toNat 3 0, here := bitAt v.toNat 4, valid := bitAt v.toNat 5
        owner := bitsOf v.toNat 15 8 } ∧ Answers t .ok ∧ Keeps [.sw, .mgmt, .freeCounter] s t) := by
  refine gives_of_running hrun rfl (mcWrite_accepted (s := s.begin) hlo h76 h31 hown hmask) ⟨?_, rfl, ?_⟩
  · refine (congrArg (fun st => Store.read ({} : McEntry) (Store.write {} st n _) n) ?_).trans (Store.read_write_same _ _ _ hw)
    exact congrArg (·.mcast) ((armSpent_keeps _ _ _).sw (by simp))
  · exact Keeps.of_begin (((takeLo_keeps _ _ _).mono (by simp)).trans
      ((answer_eff_keeps (c := [.sw]) (eff := fun u => u.setMcast n _) (putSw_keeps _ _)).mono (by simp)))

theorem quotaWrite_accepted {i : Issuer} {n : Nat} {v : Word32} (hres : bitsOf v.toNat 31 19 = 0) (hn : n < 65)
    (hv : v.toNat ≤ s.quotaCells n + s.cellsUnassigned) :
    s.quotaWrite i n v.toNat = ((s.armSpent (.csr i) (R.swcQuota n)).setReg (R.swcQuota n) v.toNat).answer served := by
  simp only [State.quotaWrite, hres, Nat.not_le.mpr hn, Nat.not_lt.mpr hv, ne_eq, not_true_eq_false, or_self, if_false]
  exact openWrite_accepted rfl nofun

theorem gives_quotaWrite {i : Issuer} {n : Nat} {v : Word32} (hrun : s.running = true) (hres : bitsOf v.toNat 31 19 = 0) (hn : n < 65)
    (hv : v.toNat ≤ s.quotaCells n + s.cellsUnassigned) :
    Gives (.quotaWrite i n v) s (fun t => t.quotaCells n = v.toNat ∧ Answers t .ok ∧ Keeps [.csr, .mgmt, .freeCounter] s t) := by
  refine gives_of_running hrun rfl (quotaWrite_accepted (s := s.begin) hres hn hv) ⟨reg_setReg_word _ _ _ _, rfl, ?_⟩
  exact Keeps.of_begin ((answer_eff_keeps (c := [.csr]) (eff := fun u => u.setReg _ _) (setReg_keeps _ _ _)).mono (by simp))

/-! ### A link group's member mask (R246, R260) -/

theorem stageLo_keeps (s : State) (i : Issuer) (addr v : Nat) : Keeps [.mgmt] s (s.stageLo i addr v) := by
  simp [Part.all, Part.same, State.stageLo]

theorem lgMembersWrite_lo {i : Issuer} {g v : Nat} :
    s.lgMembersWrite i g false v = ((s.armSpent (.csr i) (R.swcLgMembersLo g)).stageLo i (R.swcLgMembersLo g) v).answer served := by
  simp only [State.lgMembersWrite, Bool.not_false, if_true]
  exact openWrite_accepted rfl nofun

theorem gives_lgMembersWrite_lo {i : Issuer} {g : Nat} {v : Word32} (hrun : s.running = true) :
    Gives (.lgMembersWrite i g false v) s (fun t =>
      Store.read none t.mgmt.loStaged (requesterOf i * 2 ^ 26 + R.swcLgMembersLo g) = some v ∧ Answers t .ok ∧
        Keeps [.mgmt, .freeCounter] s t) := by
  refine gives_of_running hrun rfl lgMembersWrite_lo ⟨?_, rfl, ?_⟩
  · refine (read_write_self _ _ (by simp)).trans ?_
    rw [BitVec.ofNat_toNat, BitVec.setWidth_eq]
  · exact Keeps.of_begin ((answer_eff_keeps (eff := fun u => u.stageLo i _ _) (stageLo_keeps _ _ _ _)).mono (by simp))

/-! What the losses of a port and of a member may change (R247, R250, R469): no register is among it. -/

/-- The parts that frames that end, buckets that move and members that are judged may change. -/
abbrev lossParts : List Part := [.sw, .remote, .dict, .freeCounter, .links, .sec]

theorem setBucket_keeps (s : State) (k : Nat) (x : Bucket) : Keeps [.sw] s (s.setBucket k x) := putSw_keeps _ _
theorem setGroup_keeps (s : State) (g : Nat) (x : LinkGroup) : Keeps [.sw] s (s.setGroup g x) := putSw_keeps _ _
theorem setList_keeps (s : State) (p k : Nat) (l : List QEntry) : Keeps [.sw] s (s.setList p k l) := putSw_keeps _ _

theorem fillPins_keeps (s : State) (g : Nat) : Keeps [.sw] s (s.fillPins g) :=
  Keeps.ite (Keeps.refl _ _) (Keeps.foldl (fun _ _ => setBucket_keeps _ _ _) _ _)

theorem relink_keeps (s : State) (p : Nat) (to_ : QEntry → Option Nat) : Keeps [.sw] s (s.relink p to_) := by
  refine Keeps.foldl (fun t k => (setList_keeps _ _ _ _).trans (Keeps.foldl (fun u e => ?_) _ _)) _ _
  cases to_ e with
  | none => exact Keeps.refl _ _
  | some q => exact Keeps.ite (Keeps.refl _ _) (setList_keeps _ _ _ _)

theorem freeFrame_keeps (s : State) (n : Nat) : Keeps [.sw, .links, .sec] s (s.freeFrame n) := by
  unfold State.freeFrame
  split
  · exact Keeps.refl _ _
  · refine Keeps.ite (Keeps.refl _ _) ?_
    have hfree : Keeps [.sw, .links, .sec] s (s.setFrame n none) := (putSw_keeps _ _).mono (by simp)
    dsimp only
    split
    · exact Keeps.ite (hfree.trans ((creditBack_keeps _ _ _ _).mono (by simp))) hfree
    · exact Keeps.ite (hfree.trans ((putSw_keeps _ _).mono (by simp))) hfree

theorem endFrame_keeps (s : State) (f : Frame) (p : Nat) (b : Option Nat) (st : Status) (d : Disp) :
    Keeps [.sw, .remote, .dict, .freeCounter] s (s.endFrame f p b st d) := by
  cases b with
  | some n => exact branchAnswer_keeps _ _ _ _
  | none => exact Keeps.ite (Keeps.refl _ _) ((respond_keeps _ _ _ _ _).mono (by simp))

theorem endSent_keeps (s : State) (p : Nat) : Keeps lossParts s (s.endSent p) :=
  ((putSw_keeps _ _).mono (by simp)).trans (Keeps.foldl (fun _ _ => (endFrame_keeps _ _ _ _ _ _).mono (by simp)) _ _)

theorem endQueued_keeps (s : State) (p : Nat) (ends : QEntry → Bool) : Keeps lossParts s (s.endQueued p ends) := by
  refine Keeps.foldl (fun t k => ((setList_keeps _ _ _ _).mono (by simp)).trans (Keeps.foldl (fun u e => ?_) _ _)) _ _
  cases u.frame e.frame with
  | none => exact Keeps.refl _ _
  | some f => exact ((endFrame_keeps _ _ _ _ _ _).mono (by simp)).trans ((freeFrame_keeps _ _).mono (by simp))

theorem moveBuckets_keeps (s : State) (g p : Nat) (l : List Nat) : Keeps [.sw, .dict] s (s.moveBuckets g p l) :=
  (Keeps.foldl (fun _ _ => (setBucket_keeps _ _ _).mono (by simp)) _ _).trans
    (((relink_keeps _ _ _).mono (by simp)).trans ((bumpN_keeps _ _ _).mono (by simp)))

theorem judgeMember_keeps (s : State) (g p : Nat) : Keeps [.sw, .dict] s (s.judgeMember g p) := by
  unfold State.judgeMember
  dsimp only
  split
  · exact ((setGroup_keeps _ _ _).trans (fillPins_keeps _ _)).mono (by simp)
  · exact Keeps.ite (Keeps.refl _ _) ((bump32_keeps _ _).mono (by simp))

theorem memberLost_keeps (s : State) (g p : Nat) : Keeps [.sw, .dict] s (s.memberLost g p) := by
  unfold State.memberLost
  extract_lets x l s1 again s2
  refine Keeps.ite ((setGroup_keeps _ _ _).mono (by simp)) (Keeps.ite (moveBuckets_keeps _ _ _ _) ?_)
  have h1 : Keeps [.sw, .dict] s s1 :=
    ((setGroup_keeps _ _ _).mono (by simp)).trans (Keeps.foldl (fun _ _ => (setBucket_keeps _ _ _).mono (by simp)) _ _)
  have h2 : Keeps [.sw, .dict] s s2 := h1.trans (Keeps.foldl (fun _ _ => judgeMember_keeps _ _ _) _ _)
  exact Keeps.ite h2 (h2.trans ((relink_keeps _ _ _).mono (by simp)))

/-- A new member mask is stored in its two registers; the losses it brings change no register. -/
theorem lgSet_csr (s : State) (g m : Nat) :
    (s.lgSet g m).csr = ((s.setReg (R.swcLgMembersLo g) (m % 2 ^ 32)).setReg (R.swcLgMembersHi g) (m / 2 ^ 32)).csr := by
  unfold State.lgSet
  extract_lets gone added s1 waits s2 judged
  have h2 : Keeps lossParts s1 s2 := by
    refine Keeps.foldl (fun t p => ?_) _ _
    have hlost : Keeps lossParts t ((t.endSent p).memberLost g p) :=
      (endSent_keeps _ _).trans ((memberLost_keeps _ _ _).mono (by simp))
    exact Keeps.ite hlost (hlost.trans (endQueued_keeps _ _ _))
  exact Keeps.csr (Keeps.ite h2 (h2.trans (Keeps.foldl (fun _ _ => (judgeMember_keeps _ _ _).mono (by simp)) _ _))) (by simp)

theorem lgMask_lgSet {g m : Nat} (hm : m < 2 ^ 64) : (s.lgSet g m).lgMask g = m := by
  have hne : R.swcLgMembersLo g ≠ R.swcLgMembersHi g := by simp [R.swcLgMembersLo, R.swcLgMembersHi]
  rw [State.lgMask, reg_eq (lgSet_csr s g m), reg_eq (lgSet_csr s g m), reg_setReg_ne _ _ _ hne, reg_setReg_self, reg_setReg_self]
  omega

/-- The high word of a mask that R247 allows is accepted. -/
theorem lgMembersWrite_hi {i : Issuer} {g : Nat} {v lo : Word32}
    (hlo : Store.read none s.mgmt.loStaged (requesterOf i * 2 ^ 26 + R.swcLgMembersLo g) = some lo) (hv : bitsOf v.toNat 31 4 = 0)
    (hports : ((List.range 36).filter (bitAt (lo.toNat + 2 ^ 32 * bitsOf v.toNat 3 0))).all (fun p =>
      s.present (.port p) && (List.range 32).all (fun h => decide (h = g) || !bitAt (s.lgMask h) p)) = true)
    (hlen : ((List.range 36).filter (bitAt (lo.toNat + 2 ^ 32 * bitsOf v.toNat 3 0))).length ≤ 16) :
    s.lgMembersWrite i g true v.toNat = (((s.takeLo i (R.swcLgMembersLo g)).2.armSpent (.csr i) (R.swcLgMembersHi g)).lgSet g
      (lo.toNat + 2 ^ 32 * bitsOf v.toNat 3 0)).answer served := by
  have hbad : ((List.range 36).filter (bitAt (lo.toNat + 2 ^ 32 * bitsOf v.toNat 3 0))).any (fun p =>
      !(s.present (.port p)) || (List.range 32).any (fun h => decide (h ≠ g) && bitAt (s.lgMask h) p)) = false := by
    rw [← Bool.not_eq_true', List.not_any_eq_all_not]
    convert hports using 3 with p
    simp [List.not_any_eq_all_not]
  simp only [State.lgMembersWrite, takeLo_of_staged hlo, Option.getD_some, hv, hbad, Nat.not_lt.mpr hlen, ne_eq, not_true_eq_false,
    Bool.false_eq_true, or_self, if_false, Bool.not_true]
  exact openWrite_accepted rfl nofun

theorem gives_lgMembersWrite_hi {i : Issuer} {g : Nat} {v lo : Word32} (hrun : s.running = true)
    (hlo : Store.read none s.mgmt.loStaged (requesterOf i * 2 ^ 26 + R.swcLgMembersLo g) = some lo) (hv : bitsOf v.toNat 31 4 = 0)
    (hports : ((List.range 36).filter (bitAt (lo.toNat + 2 ^ 32 * bitsOf v.toNat 3 0))).all (fun p =>
      s.present (.port p) && (List.range 32).all (fun h => decide (h = g) || !bitAt (s.lgMask h) p)) = true)
    (hlen : ((List.range 36).filter (bitAt (lo.toNat + 2 ^ 32 * bitsOf v.toNat 3 0))).length ≤ 16) :
    Gives (.lgMembersWrite i g true v) s (fun t => t.lgMask g = lo.toNat + 2 ^ 32 * bitsOf v.toNat 3 0 ∧ Answers t .ok) := by
  refine gives_of_running hrun rfl (lgMembersWrite_hi (s := s.begin) hlo hv hports hlen) ⟨?_, rfl⟩
  have hm : lo.toNat + 2 ^ 32 * bitsOf v.toNat 3 0 < 2 ^ 64 := by
    have := lo.isLt
    have : bitsOf v.toNat 3 0 < 16 := Nat.mod_lt _ (by decide)
    omega
  exact lgMask_lgSet hm

/-! ### The pin table (R249, R252) -/

theorem bucket_setBucket_self {k : Nat} {x : Bucket} (hx : x ≠ {}) : (s.setBucket k x).bucket k = x := read_write_self _ _ hx

theorem bucket_setBucket_ne {k j : Nat} {x : Bucket} (hx : x ≠ {}) (h : j ≠ k) : (s.setBucket k x).bucket j = s.bucket j :=
  read_write_ne _ h hx

/-- When what a fold writes into the buckets of a group is good, each bucket that is of the list, or was good before, is. -/
theorem foldl_setBucket_good {good : Nat → Bucket → Prop} {x : State → Nat → Bucket} {g b : Nat} {l : List Nat}
    (hx : ∀ t, ∀ b ∈ l, good b (x t b)) (hne : ∀ {b y}, good b y → y ≠ {}) (hb : b ∈ l ∨ good b (s.bucket (256 * g + b))) :
    good b ((l.foldl (fun (t : State) b => t.setBucket (256 * g + b) (x t b)) s).bucket (256 * g + b)) := by
  induction l generalizing s with
  | nil => exact hb.resolve_left (by simp)
  | cons c l ih =>
    refine ih (fun t b hb => hx t b (.tail _ hb)) ?_
    have hc := hx s c (.head _)
    by_cases hbc : b = c
    · exact .inr (by rw [hbc, bucket_setBucket_self (hne hc)]; exact hc)
    · rw [bucket_setBucket_ne (hne hc) (by omega)]
      exact hb.imp_left fun h => (List.mem_cons.mp h).resolve_left hbc

/-- What R249 puts into bucket `b` when `l` are the live members. -/
def Pinned (l : List Nat) (b : Nat) (x : Bucket) : Prop := x.valid = true ∧ x.port = l.getD (b % l.length) 0

theorem Pinned.ne {l : List Nat} {b : Nat} {x : Bucket} (h : Pinned l b x) : x ≠ {} := by
  rintro rfl
  exact Bool.false_ne_true h.1

theorem fillPins_pinned {g b : Nat} (hl : s.liveMembers g ≠ []) (hb : b < 256) :
    Pinned (s.liveMembers g) b ((s.fillPins g).bucket (256 * g + b)) := by
  rw [State.fillPins, if_neg hl]
  exact foldl_setBucket_good (good := Pinned (s.liveMembers g)) (fun _ _ _ => ⟨rfl, rfl⟩) Pinned.ne (.inl (List.mem_range.mpr hb))

/-- What no round of a fold changes is at the end what it was at the start. -/
theorem foldl_unchanged {α β : Type} {f : State → α → State} (part : State → β) (hf : ∀ t a, part (f t a) = part t)
    (l : List α) (s : State) : part (l.foldl f s) = part s :=
  List.foldlRecOn (motive := fun t => part t = part s) _ _ rfl fun t ht a _ => (hf t a).trans ht

/-- Entries that change their list change no bucket. -/
theorem relink_buckets (s : State) (p : Nat) (to_ : QEntry → Option Nat) : (s.relink p to_).sw.buckets = s.sw.buckets := by
  unfold State.relink
  refine foldl_unchanged (·.sw.buckets) (fun t k => ?_) _ _
  refine (foldl_unchanged (·.sw.buckets) (fun u e => ?_) _ _).trans rfl
  cases to_ e with
  | none => rfl
  | some q => dsimp only; split <;> rfl

/-- After a rebalance every bucket of the group is pinned by R249, those that have moved too. -/
theorem rebalance_pinned {g b : Nat} (hl : s.liveMembers g ≠ []) (hb : b < 256) :
    Pinned (s.liveMembers g) b ((s.rebalance g).bucket (256 * g + b)) := by
  unfold State.rebalance
  extract_lets l moved s2 s3
  rw [if_neg hl]
  have h2 : Pinned l b (s2.bucket (256 * g + b)) := by
    refine foldl_setBucket_good (good := Pinned l) (fun t b hb => ⟨?_, rfl⟩) Pinned.ne (.inr (fillPins_pinned hl hb))
    exact (Bool.and_eq_true_iff.mp (List.mem_filter.mp hb).2).1
  have h3 : s3.bucket (256 * g + b) = s2.bucket (256 * g + b) := by
    exact congrArg (Store.read ({} : Bucket) · _) (foldl_unchanged (·.sw.buckets) (fun _ _ => relink_buckets _ _ _) _ _)
  have h4 : ∀ x : LinkGroup, ((s3.setGroup g x).bumpN O.repins moved.length).bucket (256 * g + b) = s3.bucket (256 * g + b) :=
    fun x => bucket_eq (s := s3.setGroup g x) ((bumpN_keeps _ _ _).sw (by simp))
  rw [h4, h3]
  exact h2

theorem liveMembers_eq {g : Nat} (hc : t.csr = s.csr) (hl : t.links = s.links) (hsw : t.sw = s.sw) :
    t.liveMembers g = s.liveMembers g := by
  have hlive : t.lgLive g = s.lgLive g := by
    funext p
    simp only [State.lgLive, State.lgMask, State.trained, State.group, reg_eq hc, port_eq hl, hsw]
    rfl
  rw [State.liveMembers, hlive, ← State.liveMembers]

theorem gives_lgRebalance {a : Access} {g : Nat} (hrun : s.running = true) (harm : (s.takeArm a R.swcLgCmd).1 = true) (hg : g < 32)
    (hm : (s.group g).moving = false) (hl : s.liveMembers g ≠ []) :
    Gives (.lgRebalance a g) s (fun t => (∀ b, b < 256 → (t.bucket (256 * g + b)).valid = true ∧
      (t.bucket (256 * g + b)).port = (s.liveMembers g).getD (b % (s.liveMembers g).length) 0) ∧ Answers t .ok) := by
  have hcheck : (if 32 ≤ g then some (refusal .rsvd) else if (s.begin.group g).moving then some (refusal .busy) else none) = none :=
    (if_neg (Nat.not_le.mpr hg)).trans (if_neg (Bool.eq_false_iff.mp hm))
  have harm' : (s.begin.takeArm a R.swcLgCmd).1 = true := by cases a <;> exact harm
  refine gives_of_running hrun rfl (openWrite_accepted hcheck fun _ => harm') ⟨?_, rfl⟩
  have hu := armSpent_keeps s.begin a R.swcLgCmd
  have hlive : (s.begin.armSpent a R.swcLgCmd).liveMembers g = s.liveMembers g :=
    liveMembers_eq (hu.csr (by simp)) (hu.links (by simp)) (hu.sw (by simp))
  intro b hb
  have hpin := rebalance_pinned (s := s.begin.armSpent a R.swcLgCmd) (g := g) (hlive ▸ hl) hb
  rw [hlive] at hpin
  exact hpin

/-! ### The end of a rebalance (R252) -/

/-- The buckets of a list wait for their old port no more. -/
def State.settleBuckets (s : State) (g : Nat) (l : List Nat) : State :=
  l.foldl (fun (t : State) b => t.setBucket (256 * g + b) { t.bucket (256 * g + b) with moving := none }) s

theorem settleBuckets_keeps (s : State) (g : Nat) (l : List Nat) : Keeps [.sw] s (s.settleBuckets g l) :=
  Keeps.foldl (fun _ _ => setBucket_keeps _ _ _) _ _

theorem settleBuckets_group (s : State) (g h : Nat) (l : List Nat) : (s.settleBuckets g l).group h = s.group h := by
  refine foldl_unchanged (State.group · h) (fun t b => ?_) l s
  rfl

theorem settleBuckets_bucket {g b : Nat} {l : List Nat} (hw : Store.wf ({} : Bucket) s.sw.buckets = true) :
    (s.settleBuckets g l).bucket (256 * g + b) =
      if b ∈ l then { s.bucket (256 * g + b) with moving := none } else s.bucket (256 * g + b) := by
  induction l generalizing s with
  | nil => simp [State.settleBuckets]
  | cons c l ih =>
    rw [State.settleBuckets, List.foldl_cons, ← State.settleBuckets, ih (Store.wf_write _ _ _ hw)]
    by_cases hbc : b = c
    · have hself : (s.setBucket (256 * g + b) { s.bucket (256 * g + b) with moving := none }).bucket (256 * g + b) =
          { s.bucket (256 * g + b) with moving := none } := Store.read_write_same _ _ _ hw
      subst hbc
      simp [hself]
    · have hother : (s.setBucket (256 * g + c) { s.bucket (256 * g + c) with moving := none }).bucket (256 * g + b) =
          s.bucket (256 * g + b) := Store.read_write_other _ _ _ _ (by omega) hw
      simp [hother, hbc]

/-- With nothing open on an old port and no loss that waits, the rebalance ends. -/
theorem rebalanceDone_settled {g : Nat} (hm : (s.group g).moving = true) (hd : (s.group g).deferred = [])
    (hsent : ∀ b < 256, ∀ p, (s.bucket (256 * g + b)).moving = some p → s.bucketSent p (256 * g + b) = false) :
    s.rebalanceDone g = (s.setGroup g { s.group g with moving := false, deferred := [] }).settleBuckets g (List.range 256) := by
  unfold State.rebalanceDone
  extract_lets x open_ s1
  have hopen : open_ = false := by
    refine List.any_eq_false.mpr fun b hb => ?_
    have hb' := hsent b (List.mem_range.mp hb)
    split
    · next p hp => simp [hb' p hp]
    · simp
  rw [if_neg (by simp [hopen, x, hm]), show x.deferred = [] from hd]
  simp only [List.foldl_nil, s1, x, State.settleBuckets]

theorem gives_lgRebalanceComplete {g : Nat} (hrun : s.running = true) (hm : (s.group g).moving = true) (hd : (s.group g).deferred = [])
    (hsent : ∀ b < 256, ∀ p, (s.bucket (256 * g + b)).moving = some p → s.bucketSent p (256 * g + b) = false)
    (hwg : Store.wf ({} : LinkGroup) s.sw.groups = true) (hwb : Store.wf ({} : Bucket) s.sw.buckets = true) :
    Gives (.lgRebalanceComplete g) s (fun t => (t.group g).moving = false ∧
      (∀ b, b < 256 → t.bucket (256 * g + b) = { s.bucket (256 * g + b) with moving := none }) ∧ Keeps [.sw] s t) := by
  refine gives_of_running hrun rfl (rebalanceDone_settled (s := s.begin) hm hd hsent) ⟨?_, fun b hb => ?_, ?_⟩
  · rw [settleBuckets_group]
    exact congrArg LinkGroup.moving (Store.read_write_same _ _ _ hwg)
  · have hbucket := settleBuckets_bucket (s := s.begin.setGroup g { s.group g with moving := false, deferred := [] }) (g := g) (b := b)
      (l := List.range 256) hwb
    rw [if_pos (List.mem_range.mpr hb)] at hbucket
    exact hbucket
  · exact Keeps.of_begin ((setGroup_keeps _ _ _).trans (settleBuckets_keeps _ _ _))

/-! ### Routes (R246, R260) -/

theorem rerouteNode_keeps (s : State) (n : Nat) : Keeps [.sw] s (s.rerouteNode n) :=
  (Keeps.foldl (fun _ _ => relink_keeps _ _ _) _ _).trans (putSw_keeps _ _)

/-- Half of a route word that is none, a port this variant lacks, or no link group. -/
def routeHalfBad (ports x : Nat) : Bool :=
  decide (x / 64 = 3) || (decide (x / 64 = 1) && decide (ports ≤ x % 64)) || (decide (x / 64 = 2) && decide (32 ≤ x % 64))

theorem routeHalfBad_of_range {v h ports : Nat} (hv : bitsOf v (h + 7) (h + 6) = 0 ∨
      bitsOf v (h + 7) (h + 6) = 1 ∧ bitsOf v (h + 5) h < ports ∨ bitsOf v (h + 7) (h + 6) = 2 ∧ bitsOf v (h + 5) h < 32) :
    routeHalfBad ports (bitsOf v (h + 7) h) = false := by
  have hkind : bitsOf v (h + 7) h / 64 = bitsOf v (h + 7) (h + 6) := by
    have hsub : h + 7 + 1 - h = 8 ∧ h + 7 + 1 - (h + 6) = 2 := by omega
    rw [bitsOf, bitsOf, hsub.1, hsub.2, pow_add, ← Nat.div_div_eq_div_mul]
    omega
  have hindex : bitsOf v (h + 7) h % 64 = bitsOf v (h + 5) h := by
    have hsub : h + 7 + 1 - h = 8 ∧ h + 5 + 1 - h = 6 := by omega
    rw [bitsOf, bitsOf, hsub.1, hsub.2]
    omega
  rw [routeHalfBad, hkind, hindex]
  rcases hv with h | ⟨h, hlt⟩ | ⟨h, hlt⟩ <;> simp [h] <;> exact hlt

/-- A route word takes effect: each of its NODEs whose route has changed moves its queued frames. -/
def State.routeSet (s : State) (w v : Nat) : State :=
  [0, 1].foldl (fun (t : State) h =>
    if (s.routeEntry (2 * w + h)).1 ≠ 0 ∧ (t.routeEntry (2 * w + h)).1 ≠ 0 ∧
        s.routeEntry (2 * w + h) ≠ t.routeEntry (2 * w + h) then t.rerouteNode (2 * w + h)
    else t) (s.setReg (R.swcRoute w) v)

theorem routeSet_moves (s : State) (w v : Nat) : Keeps [.sw] (s.setReg (R.swcRoute w) v) (s.routeSet w v) :=
  Keeps.foldl (fun _ _ => Keeps.ite (rerouteNode_keeps _ _) (Keeps.refl _ _)) _ _

theorem routeSet_keeps (s : State) (w v : Nat) : Keeps [.csr, .sw] s (s.routeSet w v) :=
  ((setReg_keeps _ _ _).mono (by simp)).trans ((routeSet_moves s w v).mono (by simp))

theorem routeWrite_accepted {i : Issuer} {n v : Nat} (hn : n < 30720) (h15 : bitsOf v 15 8 = 0) (h31 : bitsOf v 31 24 = 0)
    (hlo : routeHalfBad (portCount s.chip.variant) (bitsOf v 7 0) = false)
    (hhi : routeHalfBad (portCount s.chip.variant) (bitsOf v 23 16) = false) :
    s.routeWrite i n v = ((s.armSpent (.csr i) (R.swcRoute n)).routeSet n v).answer served := by
  have hok : ¬ (30720 ≤ n ∨ bitsOf v 15 8 ≠ 0 ∨ bitsOf v 31 24 ≠ 0 ∨
      routeHalfBad (portCount s.chip.variant) (bitsOf v 7 0) = true ∨
      routeHalfBad (portCount s.chip.variant) (bitsOf v 23 16) = true) := by
    simp [h15, h31, hlo, hhi, hn]
  unfold State.routeWrite
  exact openWrite_accepted (guarded := false) (if_neg hok) nofun

theorem gives_routeWrite {i : Issuer} {n : Nat} {v : Word32} (hrun : s.running = true) (hn : n < 30720) (h15 : bitsOf v.toNat 15 8 = 0)
    (h31 : bitsOf v.toNat 31 24 = 0)
    (hlo : bitsOf v.toNat 7 6 = 0 ∨ bitsOf v.toNat 7 6 = 1 ∧ bitsOf v.toNat 5 0 < portCount s.chip.variant ∨
      bitsOf v.toNat 7 6 = 2 ∧ bitsOf v.toNat 5 0 < 32)
    (hhi : bitsOf v.toNat 23 22 = 0 ∨ bitsOf v.toNat 23 22 = 1 ∧ bitsOf v.toNat 21 16 < portCount s.chip.variant ∨
      bitsOf v.toNat 23 22 = 2 ∧ bitsOf v.toNat 21 16 < 32) :
    Gives (.routeWrite i n v) s (fun t => t.reg (R.swcRoute n) 0 = v.toNat ∧ Answers t .ok ∧
      Keeps [.csr, .sw, .mgmt, .freeCounter] s t) := by
  have hwrite := routeWrite_accepted (s := s.begin) (i := i) hn h15 h31 (routeHalfBad_of_range (h := 0) hlo)
    (routeHalfBad_of_range (h := 16) hhi)
  refine gives_of_running hrun rfl hwrite ⟨?_, rfl, ?_⟩
  · exact (reg_eq ((routeSet_moves _ _ _).csr (by simp))).trans (reg_setReg_word _ _ _ _)
  · exact Keeps.of_begin ((answer_eff_keeps (eff := fun u => u.routeSet n _) (routeSet_keeps _ _ _)).mono (by simp))

/-! ### Egress (R241, R264, R265) -/

/-- The parts that a frame on its way out may change. -/
abbrev egressParts : List Part := [.dict, .sw, .traffic, .sec, .links]

theorem placeOnWheel_keeps (s : State) (n : Nat) : Keeps [.traffic] s (s.placeOnWheel n) := by
  simp [Part.all, Part.same, State.placeOnWheel]

theorem setShaper_keeps (s : State) (n : Nat) (b : TokenBucket) : Keeps [.traffic] s (s.setShaper n b) := by
  simp [Part.all, Part.same, State.setShaper]

theorem charge_keeps (s : State) (n cost : Nat) : Keeps [.traffic] s (s.charge n cost) :=
  Keeps.ite (Keeps.refl _ _) (Keeps.ite ((setShaper_keeps _ _ _).trans (placeOnWheel_keeps _ _)) (setShaper_keeps _ _ _))

theorem txFrame_keeps (s : State) (p vc : Nat) (bytes : List Byte) : Keeps [.links, .sec] s (s.txFrame p vc bytes).2 :=
  Keeps.foldl (fun _ _ => txSeq_keeps _ _ _) _ _

theorem takeGap_keeps (s : State) (f : Frame) (e : QEntry) : Keeps [.sw] s (s.takeGap f e).2 := by
  unfold State.takeGap
  split
  · split
    · exact setBucket_keeps _ _ _
    · exact Keeps.refl _ _
  · split
    · split
      · exact Keeps.refl _ _
      · exact putSw_keeps _ _
    · exact Keeps.refl _ _

theorem takeGap_lists (s : State) (f : Frame) (e : QEntry) : (s.takeGap f e).2.sw.lists = s.sw.lists := by
  unfold State.takeGap
  split
  · split <;> rfl
  · split
    · split <;> rfl
    · rfl

theorem freeFrame_lists (s : State) (n : Nat) : (s.freeFrame n).sw.lists = s.sw.lists := by
  unfold State.freeFrame
  split
  · rfl
  · next f _ =>
    split
    · rfl
    · dsimp only
      split
      · split
        · exact congrArg (·.lists) ((creditBack_keeps (s.setFrame n none) _ _ _).sw (by simp))
        · rfl
      · split <;> rfl

theorem freeFrame_sentStays (s : State) (n : Nat) : s.SentStays (s.freeFrame n) := by
  unfold State.freeFrame
  split
  · exact .of_out rfl
  · refine .ite (.of_out rfl) ?_
    dsimp only
    split
    · exact .ite ((State.SentStays.of_out (s := s) (t := s.setFrame n none) rfl).trans (creditBack_sentStays _ _ _ _)) (.of_out rfl)
    · exact .ite (.of_out rfl) (.of_out rfl)

/-- A frame that goes out is sent, its entry has left its list, and no other list changes. -/
theorem sendEntry_spec (s : State) (p k : Nat) (e : QEntry) (f : Frame) :
    Keeps egressParts s (s.sendEntry p k e f) ∧ (s.sendEntry p k e f).sw.lists = (s.setList p k ((s.listOf p k).erase e)).sw.lists ∧
      .frame p f.id f.cost ∈ (s.sendEntry p k e f).out.sent := by
  unfold State.sendEntry
  extract_lets late why g f1 s1 s2 s3 key r mc _ _ s4 _ s5
  have h1 : Keeps [.dict] g.2 s1 := (countDeferral_keeps _ _ _).trans (meter_keeps _ _ _ _)
  have hl1 : s1.sw.lists = s.sw.lists := by rw [h1.sw (by simp)]; exact takeGap_lists _ _ _
  have hl2 : s2.sw.lists = (s.setList p k ((s.listOf p k).erase e)).sw.lists := by
    simp only [s2, State.setList, State.listOf, hl1]
  have h3 : Keeps [.traffic] s2 s3 := by
    unfold s3
    split
    · exact charge_keeps _ _ _
    · exact Keeps.refl _ _
  have h4 : Keeps [.sw, .links, .sec] s3 s4 ∧ s4.sw.lists = s3.sw.lists := by
    have htx := txFrame_keeps s3 p e.chan.code (f1.wire ++ f1.payload)
    unfold s4
    split
    · exact ⟨(htx.mono (by simp)).trans ((putSw_keeps _ _).mono (by simp)), congrArg (·.lists) (htx.sw (by simp))⟩
    · exact ⟨Keeps.refl _ _, rfl⟩
  have h5 : Keeps [.links] s4 s5 := Keeps.ite (setPort_keeps _ _ _) (Keeps.refl _ _)
  refine ⟨?_, ?_, freeFrame_sentStays _ _ (List.mem_append_right _ (List.mem_singleton_self _))⟩
  · have hout : Keeps egressParts s s2 :=
      ((takeGap_keeps _ _ _).mono (by simp)).trans ((h1.mono (by simp)).trans ((setList_keeps _ _ _ _).mono (by simp)))
    exact hout.trans ((h3.mono (by simp)).trans ((h4.1.mono (by simp)).trans ((h5.mono (by simp)).trans
      (((emit_keeps _ _).mono (by simp)).trans ((freeFrame_keeps _ _).mono (by simp))))))
  · rw [freeFrame_lists]
    show s5.sw.lists = _
    rw [h5.sw (by simp), h4.2, h3.sw (by simp), hl2]

/-- The lists are canonical, and each is as long as it was. -/
structure SameLengths (s t : State) : Prop where
  wf : Store.wf [] t.sw.lists = true
  length : ∀ j, (Store.read [] t.sw.lists j).length = (Store.read [] s.sw.lists j).length

/-- A list written with another of its length. -/
theorem SameLengths.setList {p k : Nat} {l : List QEntry} (h : SameLengths s t) (hl : l.length = (t.listOf p k).length) :
    SameLengths s (t.setList p k l) where
  wf := Store.wf_write _ _ _ h.wf
  length j := by
    by_cases hj : j = 16 * p + k
    · rw [hj]
      exact ((congrArg List.length (Store.read_write_same _ _ _ h.wf)).trans hl).trans (h.length _)
    · exact (congrArg List.length (Store.read_write_other _ _ _ _ hj h.wf)).trans (h.length _)

/-- Noting what entries wait for keeps the length of every list (R262, R287). -/
theorem markWaits_sameLengths {p : Nat} (hw : Store.wf [] s.sw.lists = true) : SameLengths s (s.markWaits p) :=
  List.foldlRecOn (motive := SameLengths s) _ _ ⟨hw, fun _ => rfl⟩ fun _ ht _ _ => ht.setList (List.length_map _)

theorem markWaits_keeps (s : State) (p : Nat) : Keeps [.sw] s (s.markWaits p) := Keeps.foldl (fun _ _ => setList_keeps _ _ _ _) _ _

theorem setList_sentStays (s : State) (p k : Nat) (l : List QEntry) : s.SentStays (s.setList p k l) := .of_out rfl

theorem markWaits_sentStays (s : State) (p : Nat) : s.SentStays (s.markWaits p) :=
  State.SentStays.foldl (fun _ _ => setList_sentStays _ _ _ _) _ _

/-- The entry that may go is one of its list. -/
theorem headOf_mem {p k : Nat} {e : QEntry} {f : Frame} (h : s.headOf p k = some (e, f)) : e ∈ s.listOf p k := by
  obtain ⟨⟨j, q⟩, hq, hsome⟩ := List.mem_filterMap.mp (List.mem_of_find?_eq_some h)
  have hmem := (List.of_mem_zip hq).2
  split at hsome
  · simp at hsome
  · obtain ⟨g, -, hg⟩ := Option.map_eq_some_iff.mp hsome
    cases hg
    exact hmem

/-- The egress state of a port, written (R265). -/
def State.setEgress (s : State) (p : Nat) (eg : Egress) : State :=
  { s with traffic := { s.traffic with egress := Store.write ({} : Egress) s.traffic.egress p eg } }

/-- A list of the round that has become empty keeps no deficit. -/
def State.clearDeficit (s : State) (p k : Nat) (eg : Egress) : State :=
  if 4 ≤ k ∧ s.listOf p k = [] then s.setEgress p { eg with deficits := Store.write 0 eg.deficits k 0 } else s

theorem setEgress_keeps (s : State) (p : Nat) (eg : Egress) : Keeps [.traffic] s (s.setEgress p eg) := by
  simp [Part.all, Part.same, State.setEgress]

theorem clearDeficit_keeps (s : State) (p k : Nat) (eg : Egress) : Keeps [.traffic] s (s.clearDeficit p k eg) :=
  Keeps.ite (setEgress_keeps _ _ _) (Keeps.refl _ _)

theorem clearDeficit_sentStays (s : State) (p k : Nat) (eg : Egress) : s.SentStays (s.clearDeficit p k eg) :=
  .ite (.of_out rfl) (.of_out rfl)

/-- At a boundary with something to send, the entry that R264 picks leaves and the rest note what they wait for. -/
theorem egressBoundary_sends {p k : Nat} {eg : Egress} {e : QEntry} {f : Frame} (hup : (s.port p).up = true)
    (hpick : s.egressPick p = some (k, eg)) (hhead : s.headOf p k = some (e, f)) :
    s.egressBoundary p = (((s.setEgress p eg).sendEntry p k e f).markWaits p).clearDeficit p k eg := by
  simp only [State.egressBoundary, hup, hpick, hhead, Bool.not_true, Bool.false_eq_true, if_false]
  rfl

/-! A command begins with no message sent: what is read of gates and classes is as before. -/

theorem autoChain_begin (s : State) (p u n a : Nat) (x : GateEntry) : s.begin.autoChain p u n a x = s.autoChain p u n a x := by
  induction n generalizing a x with
  | zero => rfl
  | succ n ih =>
    unfold State.autoChain
    simp only [ih]
    rfl

theorem gateChain_begin (s : State) (p w far : Nat) (l : List (Nat × Nat)) : s.begin.gateChain p w far l = s.gateChain p w far l := by
  induction l with
  | nil => rfl
  | cons e l ih =>
    simp only [State.gateChain, ih, autoChain_begin]
    rfl

theorem gateChanges_begin (s : State) (p : Nat) : s.begin.gateChanges p = s.gateChanges p := by
  simp only [State.gateChanges, autoChain_begin, gateChain_begin]
  rfl

theorem classOpen_begin (s : State) (p k : Nat) : s.begin.classOpen p k = s.classOpen p k := by
  rw [State.classOpen, gateChanges_begin]
  rfl

theorem egressPick_begin (s : State) (p : Nat) : s.begin.egressPick p = s.egressPick p := by
  simp only [State.egressPick, classOpen_begin]
  rfl

theorem gives_egressFrameBoundary {p k : Nat} {eg : Egress} {e : QEntry} {f : Frame} (hrun : s.running = true)
    (hup : (s.port p).up = true) (hpick : s.egressPick p = some (k, eg)) (hhead : s.headOf p k = some (e, f))
    (hw : Store.wf [] s.sw.lists = true) :
    Gives (.egressFrameBoundary p) s (fun t => .frame p f.id f.cost ∈ t.out.sent ∧ (t.listOf p k).length + 1 = (s.listOf p k).length ∧
      Keeps egressParts s t) := by
  have hboundary := egressBoundary_sends (s := s.begin) hup ((egressPick_begin s p).trans hpick) hhead
  have hu : Keeps [.traffic] s (s.begin.setEgress p eg) := Keeps.of_begin (setEgress_keeps _ _ _)
  generalize s.begin.setEgress p eg = u at hboundary hu
  obtain ⟨hkeeps, hlists, hsent⟩ := sendEntry_spec u p k e f
  have hsw : u.sw = s.sw := hu.sw (by simp)
  have hwritten : Store.wf [] (u.sendEntry p k e f).sw.lists = true ∧
      Store.read [] (u.sendEntry p k e f).sw.lists (16 * p + k) = (s.listOf p k).erase e := by
    rw [hlists, State.setList, State.listOf, hsw]
    exact ⟨Store.wf_write _ _ _ hw, Store.read_write_same _ _ _ hw⟩
  generalize u.sendEntry p k e f = v at *
  have hmark := markWaits_keeps v p
  have hclear := clearDeficit_keeps (v.markWaits p) p k eg
  refine gives_of_running hrun rfl hboundary ⟨?_, ?_, ?_⟩
  · exact clearDeficit_sentStays _ _ _ _ (markWaits_sentStays _ _ hsent)
  · have hlen := (markWaits_sameLengths (p := p) hwritten.1).length (16 * p + k)
    rw [hwritten.2, List.length_erase_of_mem (headOf_mem hhead)] at hlen
    have hpos := List.length_pos_of_mem (headOf_mem hhead)
    rw [State.listOf, hclear.sw (by simp), hlen]
    omega
  · exact (hu.mono (by simp)).trans (hkeeps.trans ((hmark.mono (by simp)).trans (hclear.mono (by simp))))

/-! ### O37 -/

/-- Settles O37, clause by clause. -/
theorem switchServesAndIsConfigured : Obligations.SwitchServesAndIsConfigured :=
  ⟨fun _ _ p _ _ _ h hw hb hc ha hl => gives_multicastBranchAck_kept h hw (by cases p <;> exact hb) hc ha hl,
    fun _ _ p _ _ _ h hw hb hc ha hl hp => gives_multicastBranchAck_combined h hw (by cases p <;> exact hb) hc ha hl hp,
    fun _ _ _ _ _ _ => gives_egressFrameBoundary, fun _ _ _ _ _ => gives_mcEntryWrite, fun _ _ _ _ => gives_quotaWrite,
    fun _ _ _ _ => gives_lgMembersWrite_lo, fun _ _ _ _ _ => gives_lgMembersWrite_hi, fun _ _ _ => gives_lgRebalance,
    fun _ _ h hm hd hs => gives_lgRebalanceComplete h hm hd fun b hb p hp => by
      simpa [hp] using List.all_eq_true.mp hs b (List.mem_range.mpr hb),
    fun _ _ _ _ => gives_routeWrite, fun _ _ _ _ _ h hn _ => gives_discardedResponseTimeout h hn, fun _ => gives_cellUsSample⟩

end Sys2Proof.Machine
end

/-! # Traffic control

Sitting of the family 07_traffic_control: O38, which fails. A host cycle that begins (R279) writes its gate back without the start tick and
then reads the gate again. In a table of gates in canonical form that read gives what was written, and the clause holds
(`gives_gateCycleBegin`); the clause does not ask for that form, which its neighbour on the return after STOP does. -/

section
namespace Sys2Proof.Machine
variable {s : State}

/-! ### A host cycle begins (R275, R279) -/

theorem Keeps.traffic {c : List Part} {t : State} (h : Keeps c s t) (hc : .traffic ∉ c) : t.traffic = s.traffic := by
  have := keeps_iff.mp h .traffic
  simpa [hc, Part.same] using this

theorem gate_setGate_self {p : Nat} {g : Gate} (hw : Store.wf ({} : Gate) s.traffic.gates = true) : (s.setGate p g).gate p = g :=
  Store.read_write_same _ _ _ hw

theorem activate_keeps (s : State) (p e n : Nat) : Keeps [.traffic] s (s.activate p e n) := setGate_keeps _ _ _

/-- An entry that becomes active changes the gate in the entry and in the end of its hold. -/
theorem gate_activate_self (s : State) (p e n : Nat) : (s.activate p e n).gate p =
    { s.gate p with active := some e, entry := s.gateEntry p e, holdEnd := n + (s.gateEntry p e).hold } :=
  read_write_self _ _ fun h => Option.some_ne_none e (congrArg Gate.active h)

/-- The start of a host cycle, where the table of gates is in canonical form. -/
theorem gives_gateCycleBegin {p n : Nat} (hrun : s.running = true) (hn : (s.gate p).startTick = some n)
    (hw : Store.wf ({} : Gate) s.traffic.gates = true) :
    Gives (.gateCycleBegin p) s (fun t => (t.gate p).active = some (s.gate p).first ∧
      (t.gate p).entry = s.gateEntry p (s.gate p).first ∧ (t.gate p).startTick = none ∧
      (t.gate p).holdEnd = max n t.tick + (s.gateEntry p (s.gate p).first).hold ∧ Keeps [.now, .ftc, .dict, .traffic] s t) := by
  have hn' : (s.begin.gate p).startTick = some n := hn
  refine ⟨_, congrArg Host.Outcome.next (whenRunning_begin _ hrun), ?_⟩
  simp only [hn']
  have hclock := Keeps.of_begin (atTick_keeps s.begin n)
  generalize s.begin.atTick n = u at hclock
  have htraffic : u.traffic = s.traffic := hclock.traffic (by simp)
  have hentry : u.gateEntry p (s.gate p).first = s.gateEntry p (s.gate p).first := by
    rw [State.gateEntry, htraffic, ← State.gateEntry]
  have hgate := gate_activate_self (u.setGate p { s.gate p with startTick := none }) p (s.gate p).first (max n u.tick)
  rw [gate_setGate_self (htraffic ▸ hw)] at hgate
  refine ⟨congrArg Gate.active hgate, (congrArg Gate.entry hgate).trans hentry, congrArg Gate.startTick hgate,
    (congrArg Gate.holdEnd hgate).trans (congrArg (fun x : GateEntry => max n u.tick + x.hold) hentry), ?_⟩
  exact (hclock.mono (by simp)).trans (((setGate_keeps _ _ _).trans (activate_keeps _ _ _ _)).mono (by simp))

/-! ### O38 -/

/-- A table that lists the gate of port 2 twice. Of the first entry, the one that is read, only the start tick differs from reset. -/
def gateListedTwice : State :=
  { State.reset with traffic := { gates := [(2, { startTick := some 20 }), (2, { startTick := some 30 })] } }

/-- Without its start tick the first entry stands at reset, so the write removes it, and the second is read in its place. -/
theorem gives_gateListedTwice : Gives (.gateCycleBegin 2) gateListedTwice (fun t => (t.gate 2).startTick = some 30) :=
  ⟨_, rfl, by decide +kernel⟩

/-- Refutes O38: its clause of the start of a host cycle leaves no start tick, but where the table of gates lists the port twice, the start
tick of the second entry stands. -/
theorem not_trafficControlTakesEffect : ¬ Obligations.TrafficControlTakesEffect := by
  rintro ⟨-, -, -, -, -, -, -, hbegin, -⟩
  obtain ⟨t, ht, -, -, hnone, -⟩ := hbegin gateListedTwice 2 20 (by decide) (by decide)
  obtain ⟨u, hu, hsome⟩ := gives_gateListedTwice
  obtain rfl : t = u := Host.Outcome.next.inj (ht.symm.trans hu)
  exact absurd (hnone.symm.trans hsome) (by decide)

end Sys2Proof.Machine
end

/-! # The tables of the pool, and the end of a partition's clear

Sitting of the family 08_pool_memory: O8 and O39. Of O8 every table but one is followed by `step_tidy`; the tokens written, which stand
inside a session, are followed by `step_neat`. O39 fails at the end of a clear (R301). The clear drops the listed bytes of the partition's
range. In a memory in canonical form no other byte then reads otherwise, and the clause holds (`gives_partitionClearComplete`); the clause
asks for that form of the table of partitions only, and in a memory that is not in it a dropped byte may have hidden a later one. No
step leads from a memory in canonical form to such a one (`bytesStayCanonical`). -/

section
namespace Sys2Proof.Machine
variable {s : State}

/-! ### O8 -/

/-- The tables of the tokens written, as the obligation writes them. -/
theorem sessionsNeat_iff : SessionsNeat s ↔ s.kv.sessions.all (fun x => Store.wf 0 x.written) = true := by
  simp [SessionsNeat, SessionNeat]

/-- Settles O8: every step keeps each table of the pool and of its services, and the one inside a session, in canonical form. -/
theorem poolStoresStayCanonical : Obligations.PoolStoresStayCanonical := by
  rintro s t ⟨hparts, hchannels, hstores, hwritten, hwindows, hentries, hways, hagents, hstreams, hindexes⟩ h
  have ht := step_tidy h
  have hn := step_neat h
  exact ⟨ht.parts hparts, ht.channels hchannels, ht.kvStores hstores, sessionsNeat_iff.mp (hn.sessions (sessionsNeat_iff.mpr hwritten)),
    ht.windows hwindows, ht.entries hentries, ht.ways hways, ht.agents hagents, ht.streams hstreams, ht.indexes hindexes⟩

/-! ### A partition's clear ends (R301) -/

theorem setChan_keeps (s : State) (c : Nat) (x : Channel) : Keeps [.pool] s (s.setChan c x) := Keeps.refl _ s

theorem setPart_keeps (s : State) (n : Nat) (p : Partition) : Keeps [.pool] s (s.setPart n p) := Keeps.refl _ s

theorem poolZero_keeps (s : State) (off len : Nat) : Keeps [.mem, .pool] s (s.poolZero off len) :=
  ((memZero_keeps s off len).mono (by simp)).trans ((putPool_keeps _ _).mono (by simp))

theorem clearRecord_keeps (s : State) (kind prev number frames start : Nat) (chans : List Nat) :
    Keeps [.sec] s (s.clearRecord kind prev number frames start chans) := Keeps.refl _ s

theorem part_setPart_self {n : Nat} {p : Partition} (hw : Store.wf ({} : Partition) s.pool.parts = true) : (s.setPart n p).part n = p :=
  Store.read_write_same _ _ _ hw

theorem memByte_of_mem {t u : State} (h : t.mem = u.mem) (a : Nat) : t.memByte a = u.memByte a := congrArg (Store.read 0 · a) h

/-- The frames that a clear has zeroed, by channel, are free again (R301). -/
def State.returnFrames (s : State) (l : Store Nat) : State :=
  l.foldl (fun (u : State) e =>
    let x := Store.read ({} : Channel) u.pool.channels e.1
    u.setChan e.1 { x with free := x.free + e.2 }) s

theorem returnFrames_keeps (s : State) (l : Store Nat) : Keeps [.pool] s (s.returnFrames l) :=
  Keeps.foldl (fun _ _ => setChan_keeps _ _ _) _ _

theorem returnFrames_parts (s : State) (l : Store Nat) : (s.returnFrames l).pool.parts = s.pool.parts := by
  induction l generalizing s with
  | nil => rfl
  | cons e l ih => exact ih _

/-- The end of a partition's clear, where the bytes of the pool are in canonical form: the partition is FREE, and of the bytes of the pool
those of its range alone read otherwise, as zero. -/
theorem gives_partitionClearComplete {n : Nat} (hrun : s.running = true) (hst : (s.part n).state = .clearing)
    (hflight : s.partInFlight n = false) (hparts : Store.wf ({} : Partition) s.pool.parts = true) (hmem : Store.wf 0 s.mem = true) :
    Gives (.partitionClearComplete n) s (fun t => (t.part n).state = .free ∧
      (∀ a, (s.part n).base ≤ a → a < (s.part n).base + (s.part n).size * 65536 → t.memByte a = 0) ∧
      (∀ a, a < (s.part n).base ∨ (s.part n).base + (s.part n).size * 65536 ≤ a → t.memByte a = s.memByte a) ∧
      Keeps [.mem, .pool, .sec] s t) := by
  have hgo : ¬((s.begin.part n).state ≠ .clearing ∨ s.begin.partInFlight n = true) := by
    rintro (h | h)
    · exact h hst
    · exact Bool.false_ne_true (hflight.symm.trans h)
  refine gives_of_running hrun rfl (if_neg hgo) ?_
  have hfreed := (returnFrames_keeps s.begin (s.part n).toClear).of_begin
  have hbyte (a : Nat) : ((s.begin.returnFrames (s.part n).toClear).memZero (s.part n).base ((s.part n).size * 65536)).memByte a =
      if (s.part n).base ≤ a ∧ a < (s.part n).base + (s.part n).size * 65536 then 0 else s.memByte a := by
    rw [memByte_memZero _ _ _ _ (hfreed.mem (by simp) ▸ hmem), memByte_of_mem (hfreed.mem (by simp))]
  refine ⟨congrArg Partition.state (part_setPart_self ((returnFrames_parts s.begin _).symm ▸ hparts)), fun a hlo hhi => ?_,
    fun a hout => ?_, ?_⟩
  · refine (memByte_of_mem ?_ a).trans ((hbyte a).trans (if_pos ⟨hlo, hhi⟩))
    rfl
  · refine (memByte_of_mem ?_ a).trans ((hbyte a).trans (if_neg (by omega)))
    rfl
  · have hzeroed := (hfreed.mono (by simp)).trans (poolZero_keeps _ (s.part n).base ((s.part n).size * 65536))
    exact (hzeroed.mono (by simp)).trans ((((putPool_keeps _ _).trans (setPart_keeps _ _ _)).mono (by simp)).trans
      ((clearRecord_keeps _ _ _ _ _ _ _).mono (by simp)))

/-! ### O39 -/

/-- A partition of the one page at 0x10000 whose clear is under way, and a memory whose list has byte 0x10000 before byte 0, so that
byte 0 reads as an unlisted one. -/
def clearHidesByte : State :=
  { State.reset.setPart 0 { state := .clearing, base := 0x10000, size := 1 } with mem := [(0x10000, 1), (0, 7)] }

theorem memByte_clearHidesByte : clearHidesByte.memByte 0 = 0 := rfl

/-- The clear drops the byte of the partition, and byte 0, which is not of the partition, comes to light. -/
theorem gives_clearHidesByte : Gives (.partitionClearComplete 0) clearHidesByte (fun t => t.memByte 0 = 7) :=
  ⟨_, rfl, by decide +kernel⟩

/-- Refutes O39: its clause of the end of a clear leaves every byte outside the partition as it was, but where the memory lists its bytes
out of order, a byte outside that read as zero reads otherwise. -/
theorem not_partitionsAndChannelsChange : ¬ Obligations.PartitionsAndChannelsChange := by
  rintro ⟨-, -, -, hclear, -⟩
  obtain ⟨t, ht, -, -, houtside, -⟩ := hclear clearHidesByte 0 (by decide) rfl (by decide +kernel) (by decide +kernel)
  obtain ⟨u, hu, hseven⟩ := gives_clearHidesByte
  obtain rfl : t = u := Host.Outcome.next.inj (ht.symm.trans hu)
  exact absurd (hseven.symm.trans ((houtside 0 (.inl (by decide))).trans memByte_clearHidesByte)) (by decide)

end Sys2Proof.Machine
end


/-! # The end of a DELETE in the KV service

Sitting of the family 09_kv_service: O41. It fails at the end of a DELETE (R349). The handles that the session frees go into quarantine with
the tenant whose tombstone they keep (R328, R329); the clause writes the entry without its tenant, as of tenant 0, and asks nothing of the
session's tenant. With the tenant in the entry, and for a session that no move of its own is still at work on (R348), the clause holds
(`gives_kvDeleteComplete`). -/

section
namespace Sys2Proof.Machine
variable {s t : State}

/-! ### What the end of a session leaves (R328, R329, R333) -/

theorem Keeps.kv {c : List Part} (h : Keeps c s t) (hc : .kv ∉ c) : t.kv = s.kv := by
  have := keeps_iff.mp h .kv
  simpa [hc, Part.same] using this

theorem mapPagesIn_keeps (s : State) (n first count : Nat) (f : PageRec → PageRec) : Keeps [.pool] s (s.mapPagesIn n first count f) := by
  refine Keeps.foldl (fun u j => ?_) _ _
  split
  · exact setPage_keeps _ _ _ _
  · exact Keeps.refl _ _

theorem unpinPages_keeps (s : State) (x : KvSession) (pages : List Nat) : Keeps [.pool] s (s.unpinPages x pages).2 :=
  Keeps.foldl (fun _ _ => mapPagesIn_keeps _ _ _ _ _) _ _

theorem session_eq {tn : Nat} {name : Word64} (h : t.kv.sessions = s.kv.sessions) : t.session tn name = s.session tn name := by
  rw [State.session, h, ← State.session]

theorem session_names {tn : Nat} {name : Word64} {x : KvSession} (h : s.session tn name = some x) : x.tenant = tn ∧ x.session = name := by
  simpa using List.find?_some h

/-- A name that has a session reads as what is set for it. -/
theorem session_setSession_self {x y : KvSession} (h : s.session y.tenant y.session = some x) :
    (s.setSession y).session y.tenant y.session = some y := by
  obtain ⟨htn, hname⟩ := session_names h
  have hsame : (fun z => decide (z.tenant = y.tenant) && decide (z.session = y.session)) ∘
      (fun z : KvSession => if z.tenant = y.tenant ∧ z.session = y.session then y else z) =
      fun z => decide (z.tenant = y.tenant) && decide (z.session = y.session) := by
    funext z
    simp only [Function.comp_apply]
    split
    next hz => simp [hz]
    next => rfl
  refine List.find?_map.trans ?_
  rw [hsame, ← State.session, h, Option.map_some, if_pos ⟨htn, hname⟩]

/-- The session as its tombstone: it holds nothing any more. -/
def KvSession.tombstone (x : KvSession) (st : SessState) : KvSession :=
  { x with state := st, slots := [], near := false, truncates := [], deleting := none, move := none, held := [] }

/-- The run of a session's handles as it enters quarantine. -/
def State.freedRun (s : State) (x : KvSession) (st : SessState) : Quarantine :=
  { base := x.base, count := x.layers, due := s.now + msUnits (s.num O.kvHandleQuarantineMs 60000), tenant := x.tenant, state := st }

/-- The pages of a NEAR session lose their pins (R335). -/
def State.unpinSession (s : State) (x : KvSession) : State := if x.near then (s.unpinPages x (s.sessionPages x)).2 else s

/-- The end of a session but for its handles: its pages are unpinned, its slots are free, and its tombstone stands. -/
def State.bury (s : State) (x : KvSession) (st : SessState) : State :=
  ((s.unpinSession x).freeSlots x.tenant (x.slots.filterMap (·.2))).setSession (x.tombstone st)

theorem endSession_eq (s : State) (x : KvSession) (st : SessState) : s.endSession x st =
    { s.bury x st with kv := { (s.bury x st).kv with quarantine := (s.bury x st).kv.quarantine ++ [(s.bury x st).freedRun x st] } } := rfl

theorem unpinSession_keeps (s : State) (x : KvSession) : Keeps [.pool] s (s.unpinSession x) :=
  Keeps.ite (unpinPages_keeps _ _ _) (Keeps.refl _ _)

theorem setSession_keeps (s : State) (x : KvSession) : Keeps [.kv] s (s.setSession x) := Keeps.refl _ s

theorem freeSlots_keeps (s : State) (tn : Nat) (l : List Nat) : Keeps [.kv] s (s.freeSlots tn l) := Keeps.refl _ s

theorem bury_keeps (s : State) (x : KvSession) (st : SessState) : Keeps [.pool, .kv] s (s.bury x st) :=
  ((unpinSession_keeps s x).mono (by simp)).trans (((freeSlots_keeps _ _ _).trans (setSession_keeps _ _)).mono (by simp))

theorem bury_quarantine (s : State) (x : KvSession) (st : SessState) : (s.bury x st).kv.quarantine = s.kv.quarantine := by
  rw [← (unpinSession_keeps s x).kv (by simp)]
  rfl

theorem freedRun_bury (s : State) (x : KvSession) (st : SessState) : (s.bury x st).freedRun x st = s.freedRun x st := by
  rw [State.freedRun, State.freedRun, (bury_keeps s x st).now (by simp), num_eq ((bury_keeps s x st).dict (by simp))]

theorem endSession_session {x : KvSession} (st : SessState) (h : s.session x.tenant x.session = some x) :
    (s.endSession x st).session x.tenant x.session = some (x.tombstone st) := by
  have hkv := (unpinSession_keeps s x).kv (by simp)
  exact session_setSession_self (y := x.tombstone st) ((session_eq (congrArg KvState.sessions hkv)).trans h)

theorem endSession_quarantine (s : State) (x : KvSession) (st : SessState) :
    (s.endSession x st).kv.quarantine = s.kv.quarantine ++ [s.freedRun x st] := by
  rw [endSession_eq]
  dsimp only
  rw [bury_quarantine, freedRun_bury]

/-! ### A DELETE ends (R349) -/

/-- The end of a DELETE, where no move of the session is at work: it is DELETED and holds no slot, its handles are in quarantine as its
tenant's, and the command is answered OK. -/
theorem gives_kvDeleteComplete {tn : Nat} {name : Word64} {x : KvSession} {r : Req} (hrun : s.running = true)
    (hx : s.session tn name = some x) (hstate : x.state = .deleting) (hdel : x.deleting = some r) (hposted : r.posted = false)
    (hidle : s.attendsOf x = []) (hmove : x.move = none) :
    Gives (.kvDeleteComplete tn name) s (fun t => (t.session tn name).map (fun y => (y.state, y.slots)) = some (.deleted, []) ∧
      t.kv.quarantine = s.kv.quarantine ++
        [{ base := x.base, count := x.layers, due := s.now + msUnits (s.num O.kvHandleQuarantineMs 60000), tenant := tn }] ∧
      Answered t r 0x30 (fun a => decide (a.status = .ok)) = true) := by
  have hgo : ¬(x.state ≠ .deleting ∨ !(s.begin.attendsOf x).isEmpty ∨ x.move.isSome) := by
    rw [show s.begin.attendsOf x = [] from hidle]
    simp [hstate, hmove]
  obtain ⟨rfl, rfl⟩ := session_names hx
  have hkv := (respond_keeps (s.begin.endSession x .deleted) r 0x30 (served) .hub).kv (by simp)
  refine gives_of_running (u := (s.begin.endSession x .deleted).respond r 0x30 (served)) hrun rfl ?_ ⟨?_, ?_, ?_⟩
  · simp only [show s.begin.session x.tenant x.session = some x from hx, if_neg hgo, hdel]
  · rw [session_eq (congrArg KvState.sessions hkv), endSession_session (s := s.begin) .deleted hx]
    rfl
  · exact (congrArg KvState.quarantine hkv).trans (endSession_quarantine _ _ _)
  · exact answered_served _ _ _ hposted (fun _ hok _ => decide_eq_true hok)

/-! ### O41 -/

/-- A session of tenant 5 whose DELETE waits for nothing, and a service that has this session alone. -/
def deletingSession : KvSession :=
  { session := 7, tenant := 5, state := .deleting, base := 16, deleting := some { issuer := layerIssuer, seq := 4 } }
def oneDeleting : State := { State.reset with kv := { sessions := [deletingSession] } }

/-- Refutes O41: its clause of the end of a DELETE has the freed handles in quarantine as of tenant 0, and the ones of a session of tenant 5
are there as of tenant 5. -/
theorem not_kvCommandsTakeEffect : ¬ Obligations.KvCommandsTakeEffect := by
  rintro ⟨-, -, -, -, -, -, -, -, -, -, -, -, -, hdelete, -⟩
  have hrun : oneDeleting.running = true := by decide
  have hx : oneDeleting.session 5 7 = some deletingSession := by decide
  obtain ⟨t, ht, -, hzero, -⟩ := hdelete oneDeleting 5 7 deletingSession _ hrun hx rfl rfl rfl rfl
  obtain ⟨u, hu, -, hfive, -⟩ := gives_kvDeleteComplete hrun hx rfl rfl rfl rfl rfl
  obtain rfl : t = u := Host.Outcome.next.inj (ht.symm.trans hu)
  have htenants := congrArg (List.map Quarantine.tenant) (hzero.symm.trans hfive)
  exact absurd htenants (by simp)

end Sys2Proof.Machine
end


/-! # Coherent windows

Sitting of the family 10_coherent_windows: O43 and O44. For O43 a caching operation is followed to the directory (`unitOp_cachingEnter`),
where it is the first of its line, and from there to its end; the lemmas named `gives_…` are the clauses of the statements. `DirWork σ s`
says that the directory's work leaves the windows and the agents as they are, with one lemma for each of its operations. -/

section
namespace Sys2Proof.Machine
variable {s t : State}

/-! ### What the directory reads -/

theorem Keeps.coh {c : List Part} (h : Keeps c s t) (hc : .coh ∉ c) : t.coh = s.coh := by
  have := keeps_iff.mp h .coh
  simpa [hc, Part.same] using this

theorem Keeps.pool {c : List Part} (h : Keeps c s t) (hc : .pool ∉ c) : t.pool = s.pool := by
  have := keeps_iff.mp h .pool
  simpa [hc, Part.same] using this

theorem entryAt_eq {line : Nat} (h : t.coh.entries = s.coh.entries) : t.entryAt line = s.entryAt line := by
  rw [State.entryAt, h, ← State.entryAt]

theorem agent_eq {n : Nat} (h : t.coh.agents = s.coh.agents) : t.agent n = s.agent n := by rw [State.agent, h, ← State.agent]

theorem window_eq {n : Nat} (h : t.coh.windows = s.coh.windows) : t.window n = s.window n := by rw [State.window, h, ← State.window]

theorem windowAt_eq {off : Nat} (h : t.coh.windows = s.coh.windows) : t.windowAt off = s.windowAt off := by
  rw [State.windowAt, h, ← State.windowAt]

theorem part_eq {n : Nat} (h : t.pool = s.pool) : t.part n = s.part n := by rw [State.part, h, ← State.part]

theorem backing_eq {w : Window} {off : Nat} (h : t.pool = s.pool) : t.backing w off = s.backing w off := by
  rw [State.backing, part_eq h, ← State.backing]

theorem lineRead_eq {line off len : Nat} (hw : t.coh.windows = s.coh.windows) (hp : t.pool = s.pool) (hm : t.mem = s.mem) :
    t.lineRead line off len = s.lineRead line off len := by
  simp only [State.lineRead, State.windowAt, hw, State.poolRead, backing_eq hp, firstPoison_eq hp, State.memBytes, hm]

theorem lineRead_begin (s : State) (line off len : Nat) : s.begin.lineRead line off len = s.lineRead line off len :=
  lineRead_eq rfl rfl rfl

theorem readRange_length (st : Store Byte) (off n : Nat) : (readRange st off n).length = n := by
  induction n generalizing off with
  | zero => rfl
  | succ n ih => simp [readRange, ih]

/-- A read of a line that meets no poison has all the bytes it asks for. -/
theorem lineRead_length {line off len : Nat} (h : (s.lineRead line off len).2 = true) : (s.lineRead line off len).1.length = len := by
  unfold State.lineRead at h ⊢
  split at h
  · exact absurd h (by simp)
  · unfold State.poolRead at h ⊢
    split at h
    · exact readRange_length _ _ _
    · exact absurd h (by simp)

theorem zipWith_none_getD (l : List Byte) :
    List.zipWith (fun (g : Option Byte) (b : Byte) => g.getD b) (List.replicate l.length none) l = l := by
  induction l with
  | nil => rfl
  | cons b l ih => simp [List.replicate_succ, ih]

/-- Where no owner has answered with data, the bytes are those of memory. -/
theorem lineData_of_got_nil {r : LineReq} {off len : Nat} (hgot : r.got = []) (hlen : 0 < len)
    (hok : (s.lineRead r.line off len).2 = true) : s.lineData r off len = some (s.lineRead r.line off len).1 := by
  have hnone : (List.range len).map (fun i => Store.read none r.got (off + i)) = List.replicate len (none : Option Byte) := by
    rw [hgot]
    exact List.map_const'.trans (by rw [List.length_range])
  have hz := zipWith_none_getD (s.lineRead r.line off len).1
  rw [lineRead_length hok] at hz
  simp [State.lineData, hnone, hok, hz, Nat.pos_iff_ne_zero.mp hlen]

/-- No half is written to memory where no owner has answered with data. -/
theorem writeHalves_of_got_nil {r : LineReq} (l : List Nat) (hgot : r.got = []) : s.writeHalves r l = s := by
  unfold State.writeHalves
  induction l with
  | nil => rfl
  | cons h l ih =>
    rw [List.foldl_cons, if_neg (by simp [hgot, Store.read])]
    exact ih

theorem LineReq.span_pos (r : LineReq) : 0 < r.span.2 := by
  unfold LineReq.span
  split
  · exact Nat.zero_lt_succ 63
  · exact Nat.zero_lt_succ 127

/-! ### What the directory's work leaves alone -/

/-- The parts beside the directory that an operation or a flush changes on its way through it: the bytes and pages of a line, what
checkpoints keep of them, counters, and what an answer changes. -/
def besideDir : List Part := [.mem, .sram, .pool, .faults, .dict, .remote, .freeCounter]

/-- What has been done between two states is work of the directory: windows and agents stand as they stood. -/
structure DirWork (σ s : State) : Prop where
  keeps : Keeps (.coh :: besideDir) σ s
  windows : s.coh.windows = σ.coh.windows
  agents : s.coh.agents = σ.coh.agents

variable {σ : State}

theorem DirWork.refl (s : State) : DirWork s s := ⟨Keeps.refl _ s, rfl, rfl⟩

/-- What changes none but these parts is such work. -/
theorem DirWork.after {c : List Part} (hs : DirWork σ s) (h : Keeps c s t) (hc : ∀ p ∈ c, p ∈ besideDir := by simp [besideDir]) :
    DirWork σ t := by
  have hcoh : t.coh = s.coh := h.coh fun hmem => absurd (hc _ hmem) (by simp [besideDir])
  exact ⟨hs.keeps.trans (h.mono fun p hp => .tail _ (hc p hp)), hcoh ▸ hs.windows, hcoh ▸ hs.agents⟩

/-- Entries, requests, groups, buffers and the directory's own counts may be written. -/
theorem DirWork.put {entries requests groups spec nextReq uses} (hs : DirWork σ s) :
    DirWork σ { s with coh := { s.coh with entries, requests, groups, spec, nextReq, uses } } :=
  { hs with keeps := hs.keeps.trans (Keeps.refl _ s) }

theorem DirWork.ite {c : Prop} {_ : Decidable c} {u : State} (ht : DirWork σ t) (hu : DirWork σ u) :
    DirWork σ (if c then t else u) := by
  split <;> assumption

theorem DirWork.foldl {α : Type} {f : State → α → State} {l : List α} (hs : DirWork σ s)
    (hf : ∀ {t a}, DirWork σ t → DirWork σ (f t a)) : DirWork σ (l.foldl f s) :=
  List.foldlRecOn l f hs fun _ ht _ _ => hf ht

/-! One lemma for each operation, in the order of the model's file; `s.foo.bar` is met by `hs.foo.bar`, as for `Steady`. -/

theorem DirWork.bumpN {k n} (hs : DirWork σ s) : DirWork σ (s.bumpN k n) := hs.after (bumpN_keeps s k n)
theorem DirWork.bump {k} (hs : DirWork σ s) : DirWork σ (s.bump k) := hs.after (bump_keeps s k)
theorem DirWork.countDeferral {tenant r} (hs : DirWork σ s) : DirWork σ (s.countDeferral tenant r) :=
  hs.after (countDeferral_keeps s tenant r)
theorem DirWork.respond {r op a q} (hs : DirWork σ s) : DirWork σ (s.respond r op a q) := hs.after (respond_keeps s r op a q)

theorem endAccess_keeps (s : State) (o : Operation) (a : Response) (defer : Reason) (load : LoadQueue) :
    Keeps [.mem, .sram, .pool, .dict, .faults, .remote, .freeCounter] s (s.endAccess o a defer load) := by
  unfold State.endAccess
  extract_lets w a1
  have hw : Keeps [.mem, .sram, .pool, .dict, .faults] s w.2 := by
    unfold w
    split
    · exact Keeps.refl _ _
    · exact writeLocal_keeps _ _ _ _ _
  refine (hw.mono (by simp)).trans (Keeps.ite (Keeps.ite ?_ ?_) ?_)
  · exact (startNotify_keeps _ _ _ _ _ _).mono (by simp)
  · exact (respond_keeps _ _ _ _ _).mono (by simp)
  · exact (respond_keeps _ _ _ _ _).mono (by simp)

theorem DirWork.endAccess {o a defer load} (hs : DirWork σ s) : DirWork σ (s.endAccess o a defer load) :=
  hs.after (endAccess_keeps s o a defer load)

theorem lineUsed_keeps (s : State) (line off len : Nat) : Keeps [.pool, .dict] s (s.lineUsed line off len) := by
  unfold State.lineUsed
  split
  · exact Keeps.refl _ _
  · exact used_keeps _ _ _ _

theorem lineWrite_keeps (s : State) (line off : Nat) (bs : List Byte) :
    Keeps [.mem, .pool, .dict, .faults] s (s.lineWrite line off bs).2 := by
  unfold State.lineWrite
  split
  · exact Keeps.refl _ _
  · exact ((ckptKeep_keeps _ _ _ _).mono (by simp)).trans
      (((poolWrite_keeps _ _ _).mono (by simp)).trans ((touchRange_keeps _ _ _ _ _ _ _).mono (by simp)))

theorem setPoison_keeps (s : State) (b : Nat) (v : Bool) : Keeps [.pool] s (s.setPoison b v) := Keeps.refl _ s

theorem DirWork.setEntry {k e} (hs : DirWork σ s) : DirWork σ (s.setEntry k e) := hs.put
theorem DirWork.lineUsed {line off len} (hs : DirWork σ s) : DirWork σ (s.lineUsed line off len) :=
  hs.after (lineUsed_keeps s line off len)
theorem DirWork.lineWrite {line off bs} (hs : DirWork σ s) : DirWork σ (s.lineWrite line off bs).2 :=
  hs.after (lineWrite_keeps s line off bs)
theorem DirWork.setPoison {b v} (hs : DirWork σ s) : DirWork σ (s.setPoison b v) := hs.after (setPoison_keeps s b v)

theorem DirWork.poisonLine {line} (hs : DirWork σ s) : DirWork σ (s.poisonLine line) := by
  unfold State.poisonLine
  split
  · exact hs
  · exact hs.setPoison.setPoison.bump.put.bumpN

theorem DirWork.writeHalves {r l} (hs : DirWork σ s) : DirWork σ (s.writeHalves r l) := hs.foldl fun hu => hu.lineWrite.ite hu
theorem DirWork.keepGot {r off len} (hs : DirWork σ s) : DirWork σ (s.keepGot r off len) := hs.writeHalves
theorem DirWork.writeGot {r} (hs : DirWork σ s) : DirWork σ (s.writeGot r) := hs.writeHalves
theorem DirWork.discardSpec {line} (hs : DirWork σ s) : DirWork σ (s.discardSpec line) := hs.put.bumpN

theorem DirWork.readOrSpec {r off len} (hs : DirWork σ s) : DirWork σ (s.readOrSpec r off len).2 := by
  unfold State.readOrSpec
  split
  · exact hs.put.bump
  · exact hs.lineUsed

theorem DirWork.setLineReq {r} (hs : DirWork σ s) : DirWork σ (s.setLineReq r) := hs.put
theorem DirWork.dropLineReq {id} (hs : DirWork σ s) : DirWork σ (s.dropLineReq id) := hs.put
theorem DirWork.endLineReq {r a} (hs : DirWork σ s) : DirWork σ (s.endLineReq r a) := hs.dropLineReq.respond
theorem DirWork.grant {r a k e grantState data} (hs : DirWork σ s) : DirWork σ (s.grant r a k e grantState data) :=
  (hs.setEntry.discardSpec.ite hs.setEntry).put.endLineReq

theorem DirWork.lineDone {r st got result} (hs : DirWork σ s) : DirWork σ (s.lineDone r st got result) := by
  unfold State.lineDone
  dsimp only
  split
  · exact hs.dropLineReq
  · exact hs.dropLineReq.put.ite hs.dropLineReq.put.endAccess

theorem DirWork.applyLine {r} (hs : DirWork σ s) : DirWork σ (s.applyLine r).2.2 := by
  unfold State.applyLine
  dsimp only
  split
  · split
    · exact hs
    · split
      · exact hs
      · exact hs.lineUsed.lineWrite
  · exact hs.lineWrite

theorem DirWork.grantWith {r a k e g bad} (hs : DirWork σ s) (hbad : DirWork σ bad) : DirWork σ (s.grantWith r a k e g bad) := by
  unfold State.grantWith
  dsimp only
  split
  · exact hbad.endLineReq
  · exact hs.readOrSpec.keepGot.grant

theorem DirWork.finishRdS {r a at_ mask} (hs : DirWork σ s) : DirWork σ (s.finishRdS r a at_ mask) := by
  unfold State.finishRdS
  split
  · split
    · exact hs.setLineReq
    · exact hs.grantWith hs
  · dsimp only
    split
    · exact hs.grantWith hs
    · refine (hs.grantWith hs).ite ((hs.grantWith hs.setEntry).ite ((hs.writeGot.grantWith hs.writeGot).ite ?_))
      split
      · exact hs.setEntry.endLineReq
      · exact hs.lineUsed.grant
    · split
      · exact hs.endLineReq
      · exact hs.lineUsed.grant

theorem DirWork.finishRdX {r a at_ mask} (hs : DirWork σ s) : DirWork σ (s.finishRdX r a at_ mask) := by
  unfold State.finishRdX
  split
  · split
    · exact hs.setLineReq
    · exact hs.grantWith hs
  · exact (hs.grantWith hs).ite (hs.grantWith hs.setEntry)

theorem DirWork.finishWb {r a at_} (hs : DirWork σ s) : DirWork σ (s.finishWb r a at_) := by
  unfold State.finishWb
  dsimp only
  split
  · exact hs.bump.endLineReq
  · exact hs.discardSpec.lineWrite.setEntry.endLineReq.ite hs.bump.endLineReq

theorem DirWork.finishLine {r} (hs : DirWork σ s) : DirWork σ (s.finishLine r) := by
  unfold State.finishLine
  extract_lets +onlyGivenNames at_ _ free
  clear_value at_
  have hfree {t : State} (ht : DirWork σ t) : DirWork σ (free t) := by
    unfold free
    split
    · exact ht.setEntry
    · exact ht
  split
  · exact (hfree hs.writeGot).dropLineReq.bump
  · exact (hfree hs.writeGot).dropLineReq.bump.ite (hfree hs.writeGot).dropLineReq
  · dsimp only
    split
    · exact hs.readOrSpec.lineDone
    · exact hs.lineDone
  · exact (hfree hs.writeGot).discardSpec.applyLine.lineDone
  · exact (hfree hs.writeGot).discardSpec.applyLine.lineDone
  · split
    · exact hs.endLineReq
    · refine hs.endLineReq.ite ?_
      split
      · exact hs.finishRdS
      · split
        · exact hs.grant.ite hs.finishRdX
        · exact hs.finishRdX
      · exact hs.finishWb
      · split
        · exact (hs.setEntry.ite hs).endLineReq
        · exact hs.endLineReq
      · exact hs.finishRdX

theorem DirWork.emit {m} (hs : DirWork σ s) : DirWork σ (s.emit m) := hs.after (emit_keeps s m)
theorem DirWork.sendSnoops {r e plan} (hs : DirWork σ s) : DirWork σ (s.sendSnoops r e plan) := (hs.setLineReq.foldl .emit).bumpN
theorem DirWork.waitHold {r} (hs : DirWork σ s) : DirWork σ (s.waitHold r) :=
  hs.ite (hs.setLineReq.ite hs.setLineReq.bump.countDeferral)
theorem DirWork.actOn {r e} (hs : DirWork σ s) : DirWork σ (s.actOn r e) := hs.waitHold.ite (hs.finishLine.ite hs.sendSnoops)

theorem DirWork.makeRoom {r mask} (hs : DirWork σ s) : DirWork σ (s.makeRoom r mask) := by
  unfold State.makeRoom
  split
  · exact hs.finishLine
  · refine hs.ite ?_
    dsimp only
    split
    · exact hs.setLineReq.put.actOn
    · exact hs.setLineReq.countDeferral

theorem DirWork.tryLine {r} (hs : DirWork σ s) : DirWork σ (s.tryLine r) := by
  unfold State.tryLine
  refine hs.setLineReq.ite ?_
  split
  · exact hs.actOn
  · exact hs.makeRoom.ite hs.finishLine

theorem DirWork.enterLine {r} (hs : DirWork σ s) : DirWork σ (s.enterLine r) := hs.put.countDeferral.ite hs.put.tryLine

/-! ### A request that is the first of its line (R358, R364) -/

/-- No request of the line is before this one. -/
def State.isFirst (s : State) (r : LineReq) : Prop :=
  s.coh.requests.filter (fun x => decide (x.line = r.line) && decide (x.id < r.id) && decide (x.wait ≠ .slice)) = []

theorem tryLine_of_entry {r : LineReq} {k : Nat} {e : DirEntry} (h : s.isFirst r) (he : s.entryAt r.line = some (k, e)) :
    s.tryLine r = s.actOn r e := by
  unfold State.tryLine
  simp only [show s.coh.requests.filter _ = [] from h, he]
  rfl

/-- The way mask of the owner of a line's window (R356). -/
def State.lineWays (s : State) (line : Nat) : BitVec 16 :=
  match s.windowAt (line * 128) with
  | some (_, w) => s.waysOf (s.part w.partition).tenant
  | none => 0

/-- A request that asks for a new entry, and has a way for it, goes on. -/
theorem tryLine_of_way {r : LineReq} {k : Nat} (h : s.isFirst r) (he : s.entryAt r.line = none)
    (hk : s.freeWay r.line (s.lineWays r.line) = some k) : s.tryLine r = s.finishLine r := by
  have hroom : s.makeRoom r (s.lineWays r.line) = s.finishLine r := by
    unfold State.makeRoom
    rw [hk]
  unfold State.tryLine
  simp only [show s.coh.requests.filter _ = [] from h, he]
  rw [if_neg (by simp)]
  split
  · exact hroom
  · rfl

/-- A flush of a line without an entry goes on. -/
theorem tryLine_of_flush {r : LineReq} (h : s.isFirst r) (he : s.entryAt r.line = none) (hop : r.op = .flush) :
    s.tryLine r = s.finishLine r := by
  unfold State.tryLine
  simp only [show s.coh.requests.filter _ = [] from h, he, hop]
  rfl

theorem actOn_of_no_snoop {r : LineReq} {e : DirEntry} (h : snoopPlan r e = []) : s.actOn r e = s.finishLine r := by
  unfold State.actOn
  simp only [h]
  rfl

/-- The state in which a request has joined the queue of its slice, and the request as it stands there. -/
def State.entered (s : State) (r : LineReq) : State :=
  { s with coh := { s.coh with
    requests := s.coh.requests ++ [{ r with id := s.coh.nextReq, since := s.now, wait := .none }], nextReq := s.coh.nextReq + 1 } }
def State.asEntered (s : State) (r : LineReq) : LineReq := { r with id := s.coh.nextReq, since := s.now }

/-- A request of a slice with room, of a line that no other request is about, is the first of its line. -/
theorem enterLine_of_alone {r : LineReq} (halone : s.coh.requests.all (fun x => decide (x.line ≠ r.line)) = true)
    (hroom : s.sliceDepth r.line < 512) :
    s.enterLine r = (s.entered r).tryLine (s.asEntered r) ∧ (s.entered r).isFirst (s.asEntered r) := by
  have hfull : decide (512 ≤ s.sliceDepth r.line) = false := by simpa using hroom
  refine ⟨?_, List.filter_eq_nil_iff.mpr fun x hx => ?_⟩
  · unfold State.enterLine
    simp only [hfull]
    rfl
  · rcases List.mem_append.mp hx with hx | hx
    · have hline : x.line ≠ r.line := by simpa using List.all_eq_true.mp halone x hx
      simp [State.asEntered, hline]
    · simp [List.mem_singleton.mp hx, State.asEntered]

/-! ### What a request of an agent ends with (R360, R364) -/

/-- An operation that is not posted is answered as it is to be, but for what tells of the answer's way. -/
theorem respond_sends (s : State) {r : Req} (op : Nat) (a : Response) (q : LoadQueue) (hp : r.posted = false) :
    ∃ disp reason injected load, .response r op { a with disp, reason, injected, load } ∈ (s.respond r op a q).out.sent := by
  have hdefer : ∃ disp reason, deferredBy r.defer a = { a with disp, reason } := by
    unfold deferredBy
    split
    · exact ⟨_, _, rfl⟩
    · exact ⟨_, _, rfl⟩
  have hmark : ∀ b : Response, ∃ injected, (s.markInjected b).1 = { b with injected } := by
    intro b
    unfold State.markInjected
    dsimp only
    split
    · exact ⟨_, rfl⟩
    · exact ⟨_, rfl⟩
  have hsent : ∃ n : Nat, .response r op { (s.markInjected (deferredBy r.defer a)).1 with load := n } ∈
      (s.respondCore r op a q).out.sent := by
    unfold State.respondCore
    extract_lets a' s0 s1
    simp only [hp, Bool.false_eq_true, if_false]
    split
    · exact ⟨_, List.mem_append_right _ (List.mem_singleton_self _)⟩
    · exact ⟨_, List.mem_append_right _ (List.mem_singleton_self _)⟩
  obtain ⟨disp, reason, hd⟩ := hdefer
  obtain ⟨injected, hi⟩ := hmark (deferredBy r.defer a)
  obtain ⟨n, hn⟩ := hsent
  rw [hi, hd] at hn
  exact ⟨disp, reason, injected, n, wakeN_sentStays _ _ hn⟩

/-- What is asked of an answer, and does not look at what tells of its way, holds of the answer that is sent. -/
theorem answered_of_respond (s : State) {r : Req} (op : Nat) (a : Response) (q : LoadQueue) {p : Response → Bool}
    (hr : r.posted = false) (hp : ∀ disp reason injected load, p { a with disp, reason, injected, load } = true) :
    Answered (s.respond r op a q) r op p = true := by
  obtain ⟨disp, reason, injected, load, hx⟩ := respond_sends s op a q hr
  exact answered_of_mem hx (hp _ _ _ _)

theorem putCoh_keeps (s : State) (c : CohState) : Keeps [.coh] s { s with coh := c } := Keeps.refl _ s

theorem setEntry_keeps (s : State) (k : Nat) (e : Option DirEntry) : Keeps [.coh] s (s.setEntry k e) := putCoh_keeps _ _

theorem endLineReq_keeps (s : State) (r : LineReq) (a : Response) :
    Keeps [.coh, .remote, .dict, .freeCounter] s (s.endLineReq r a) :=
  ((putCoh_keeps s _).mono (by simp)).trans ((respond_keeps (s.dropLineReq r.id) _ _ _ _).mono (by simp))

theorem endLineReq_coh (s : State) (r : LineReq) (a : Response) : (s.endLineReq r a).coh = (s.dropLineReq r.id).coh :=
  (respond_keeps (s.dropLineReq r.id) r.oper.req r.oper.op (deferredBy r.defer a) (s.sliceLoad r.line)).coh (by simp)

theorem endLineReq_answered (s : State) {r : LineReq} {a : Response} {p : Response → Bool} (hr : r.oper.req.posted = false)
    (hd : r.defer = .none) (hp : ∀ disp reason injected load, p { a with disp, reason, injected, load } = true) :
    Answered (s.endLineReq r a) r.oper.req r.oper.op p = true := by
  unfold State.endLineReq
  rw [hd, show deferredBy .none a = a from if_neg (fun h => h.2.2 rfl)]
  exact answered_of_respond _ _ _ _ hr hp

/-! ### A grant (R364, R366) -/

theorem discardSpec_entries (s : State) (line : Nat) : (s.discardSpec line).coh.entries = s.coh.entries := by
  unfold State.discardSpec
  rw [(bumpN_keeps _ _ _).coh (by simp)]

theorem discardSpec_keeps (s : State) (line : Nat) : Keeps [.coh, .dict] s (s.discardSpec line) :=
  ((putCoh_keeps s _).mono (by simp)).trans ((bumpN_keeps _ _ _).mono (by simp))

/-- The entry that is granted stands in its way, with what the grant gives its agent. -/
theorem grant_entry (s : State) (r : LineReq) (a k : Nat) (e : DirEntry) (g : Nat) (data : List Byte) :
    ∃ used holdUntil holders, Store.read none (s.grant r a k e g data).coh.entries k = some { e with used, holdUntil, holders } := by
  unfold State.grant
  extract_lets held hold s1 s2
  refine ⟨s.coh.uses, if hold = 0 then e.holdUntil else s.now + s.holdTime, if hold = 0 then held else insertNat a held, ?_⟩
  have hs2 : s2.coh.entries = s1.coh.entries := by
    unfold s2
    split
    · exact discardSpec_entries _ _
    · rfl
  rw [endLineReq_coh]
  show Store.read none s2.coh.entries k = _
  rw [hs2]
  exact read_write_self _ _ (by simp)

theorem grant_keeps (s : State) (r : LineReq) (a k : Nat) (e : DirEntry) (g : Nat) (data : List Byte) :
    Keeps [.coh, .remote, .dict, .freeCounter] s (s.grant r a k e g data) := by
  unfold State.grant
  extract_lets held hold s1 s2
  have hs1 : Keeps [.coh, .dict] s s1 := (setEntry_keeps s _ _).mono (by simp)
  have hs2 : Keeps [.coh, .dict] s s2 := hs1.trans (Keeps.ite (discardSpec_keeps _ _) (Keeps.refl _ _))
  exact ((hs2.trans ((putCoh_keeps _ _).mono (by simp))).mono (by simp)).trans (endLineReq_keeps _ _ _)

theorem grant_answered (s : State) {r : LineReq} (a k : Nat) (e : DirEntry) (g : Nat) (data : List Byte)
    (hr : r.oper.req.posted = false) (hd : r.defer = .none) :
    Answered (s.grant r a k e g data) r.oper.req r.oper.op
      (fun x => decide (x.status = .ok ∧ x.detail = g ∧ x.data = data)) = true := by
  unfold State.grant
  extract_lets held hold s1 s2
  exact endLineReq_answered _ hr hd fun _ _ _ _ => decide_eq_true ⟨rfl, rfl, rfl⟩

/-! ### An operation that comes to the directory (R358, R359, R360, R363) -/

/-- The request of agent `n` that an operation makes at the directory. -/
def agentReq (o : Operation) (op : LineOp) (n : Nat) (a : Agent) : LineReq :=
  { id := 0, group := 0, line := addrOffset o.req.target / 128, op := op, agent := some n, oper := o, half := a.half o }

theorem agentReq_span (o : Operation) (op : LineOp) (n : Nat) (a : Agent) : (agentReq o op n a).span = a.span o := by
  unfold LineReq.span agentReq Agent.half Agent.span
  split <;> simp_all

variable {o : Operation} {len n : Nat} {a : Agent} {w : Nat × Window}

/-- A caching operation that its rules let through makes its request. -/
theorem unitOp_of_caches {op : LineOp} {go : State → Nat → LineReq → State} (h : Caches s o len n a w)
    (hlen : len = if op = .wb then (if a.kind = 2 then 64 else 128) else 0) :
    s.unitOp o 0xFF (fun t => t.cachingOp o op go) = go s.begin n (agentReq o op n a) := by
  obtain ⟨harr, hposted, -, hregion, hof, -, -, hfenced, htenant, hunit, hlength, hwindow, -, -, -⟩ := h
  refine (if_pos harr.1).trans ((front_of_arrives_not_posted _ harr hposted).trans ?_)
  have hof' : s.begin.agentOf o.req.issuer = some (n, a) := hof
  have hwindow' : s.begin.windowFor (addrOffset o.req.target) 64 o.req.issuer.tenant = .ok w := htenant ▸ hwindow
  unfold State.cachingOp
  simp [hof', hwindow', hregion, hfenced, htenant, hlength, hlen, hunit, agentReq, Agent.half]

/-- The directory, but for its requests, and backing memory are as they were. -/
structure AtHome (s t : State) : Prop where
  keeps : Keeps [.coh, .remote] s t
  entries : t.coh.entries = s.coh.entries
  windows : t.coh.windows = s.coh.windows
  ways : t.coh.ways = s.coh.ways
  agents : t.coh.agents = s.coh.agents
  spec : t.coh.spec = s.coh.spec

theorem AtHome.lineWays (h : AtHome s t) (line : Nat) : t.lineWays line = s.lineWays line := by
  simp only [State.lineWays, State.windowAt, State.waysOf, h.windows, h.ways, part_eq (h.keeps.pool (by simp))]

theorem AtHome.freeWay (h : AtHome s t) (line : Nat) (mask : BitVec 16) : t.freeWay line mask = s.freeWay line mask := by
  simp only [State.freeWay, h.entries]

theorem AtHome.lineRead (h : AtHome s t) (line off len : Nat) : t.lineRead line off len = s.lineRead line off len :=
  lineRead_eq h.windows (h.keeps.pool (by simp)) (h.keeps.mem (by simp))

/-- The state in which the request of a caching operation is at the directory, and the request as it stands there. -/
def State.atDirectory (s : State) (o : Operation) (r : LineReq) : State := (s.begin.openOp o.req o.op).entered r
def State.heldReq (s : State) (o : Operation) (r : LineReq) : LineReq := (s.begin.openOp o.req o.op).asEntered r

theorem atDirectory_atHome (s : State) (o : Operation) (r : LineReq) : AtHome s (s.atDirectory o r) := by
  have hopen : Keeps [.remote] s (s.begin.openOp o.req o.op) := (openOp_keeps _ _ _).of_begin
  have hcoh := hopen.coh (by simp)
  exact ⟨(hopen.mono (by simp)).trans ((putCoh_keeps _ _).mono (by simp)), (congrArg CohState.entries hcoh :),
    (congrArg CohState.windows hcoh :), (congrArg CohState.ways hcoh :), (congrArg CohState.agents hcoh :),
    (congrArg CohState.spec hcoh :)⟩

/-- It is the first of its line, and goes on. -/
theorem unitOp_cachingEnter {op : LineOp} (h : Caches s o len n a w)
    (hlen : len = if op = .wb then (if a.kind = 2 then 64 else 128) else 0) :
    s.unitOp o 0xFF (fun t => t.cachingEnter o op) =
        (s.atDirectory o (agentReq o op n a)).tryLine (s.heldReq o (agentReq o op n a)) ∧
      (s.atDirectory o (agentReq o op n a)).isFirst (s.heldReq o (agentReq o op n a)) := by
  have hcoh := (openOp_keeps s.begin o.req o.op).coh (by simp)
  have henter := unitOp_of_caches (go := fun t _ r => (t.openOp o.req o.op).enterLine r) h hlen
  obtain ⟨-, -, -, -, -, -, -, -, -, -, -, -, -, halone, hroom⟩ := h
  obtain ⟨hgo, hfirst⟩ := enterLine_of_alone (s := s.begin.openOp o.req o.op) (r := agentReq o op n a)
    (by rw [hcoh]; exact halone) (by rw [State.sliceDepth, hcoh]; exact hroom)
  exact ⟨henter.trans hgo, hfirst⟩

/-! ### A new entry (R356, R364) -/

theorem readOrSpec_of_unbuffered {r : LineReq} {off len : Nat} (hgot : r.got = []) (hlen : 0 < len)
    (hspec : s.coh.spec.all (fun x => decide (x.line ≠ r.line)) = true) (hok : (s.lineRead r.line off len).2 = true) :
    s.readOrSpec r off len = (some (s.lineRead r.line off len).1, s.lineUsed r.line off len) := by
  have hnone : s.coh.spec.find? (fun x => decide (x.line = r.line) && decide (r.agent = some x.agent)) = none := by
    refine List.find?_eq_none.mpr fun x hx => ?_
    have hne : x.line ≠ r.line := by simpa using List.all_eq_true.mp hspec x hx
    simp [hne]
  unfold State.readOrSpec
  simp only [hgot, List.isEmpty_nil, if_true, hnone, lineData_of_got_nil hgot hlen hok]

/-- A grant with data, of a line whose bytes are in memory alone. -/
theorem grantWith_of_clean {r : LineReq} {k g : Nat} {e : DirEntry} {bad : State} (hgot : r.got = [])
    (hspec : s.coh.spec.all (fun x => decide (x.line ≠ r.line)) = true) (hok : (s.lineRead r.line r.span.1 r.span.2).2 = true) :
    s.grantWith r n k e g bad = (s.lineUsed r.line r.span.1 r.span.2).grant r n k e g (s.lineRead r.line r.span.1 r.span.2).1 := by
  unfold State.grantWith
  simp only [readOrSpec_of_unbuffered hgot r.span_pos hspec hok]
  rw [State.keepGot, writeHalves_of_got_nil _ hgot]

/-- RD_S grants E and RD_X grants M where the line has no entry. -/
def freshGrant (op : LineOp) (g : Nat) : Prop := op = .rdS ∧ g = 2 ∨ op = .rdX ∧ g = 3

/-- The entry that such a grant makes. -/
def State.freshEntry (s : State) (r : LineReq) (n : Nat) : DirEntry :=
  { line := r.line, state := .em, owner := n, halves := s.grantHalves { line := r.line, state := .shared, owner := n } n r.half }

theorem finishLine_fresh {r : LineReq} {k g : Nat} (hop : freshGrant r.op g) (hagent : r.agent = some n)
    (hfenced : (s.agent n).fenced = false) (hkind : (s.agent n).kind ≠ 0) (he : s.entryAt r.line = none)
    (hk : s.freeWay r.line (s.lineWays r.line) = some k) :
    s.finishLine r = s.grantWith r n k (s.freshEntry r n) g s := by
  have hrdS : s.finishRdS r n none (s.lineWays r.line) = s.grantWith r n k (s.freshEntry r n) 2 s := by
    simp only [State.finishRdS, hk]
    rfl
  have hrdX : s.finishRdX r n none (s.lineWays r.line) = s.grantWith r n k (s.freshEntry r n) 3 s := by
    simp only [State.finishRdX, hk]
    rfl
  unfold State.finishLine
  rcases hop with ⟨hop, rfl⟩ | ⟨hop, rfl⟩
  · simp only [hop, hagent, hfenced, hkind, he, Bool.false_eq_true, or_self, if_false]
    exact hrdS
  · simp only [hop, hagent, hfenced, hkind, he, Bool.false_eq_true, or_self, if_false]
    exact hrdX

/-- RD_S or RD_X of a line without an entry, with a free way for one (R364). -/
theorem gives_fresh {c : Instr} {op : LineOp} {k g : Nat} (hop : freshGrant op g)
    (hc : exec c s = .next (s.unitOp o 0xFF (fun t => t.cachingEnter o op))) (h : Caches s o 0 n a w)
    (he : s.entryAt (addrOffset o.req.target / 128) = none)
    (hk : s.freeWay (addrOffset o.req.target / 128) (s.waysOf (s.part w.2.partition).tenant) = some k)
    (hspec : s.coh.spec.all (fun x => decide (x.line ≠ addrOffset o.req.target / 128)) = true)
    (hok : (s.lineRead (addrOffset o.req.target / 128) (a.span o).1 (a.span o).2).2 = true) :
    Gives c s (fun t => (Store.read none t.coh.entries k).map (fun e => (e.line, e.state, e.owner)) =
        some (addrOffset o.req.target / 128, .em, n) ∧
      Answered t o.req o.op (fun r => decide (r.status = .ok ∧ r.detail = g ∧
        r.data = (s.lineRead (addrOffset o.req.target / 128) (a.span o).1 (a.span o).2).1)) = true ∧
      Keeps [.coh, .remote, .pool, .dict, .freeCounter] s t) := by
  have hnotWb : op ≠ .wb := by rcases hop with ⟨rfl, -⟩ | ⟨rfl, -⟩ <;> decide
  obtain ⟨hgo, hfirst⟩ := unitOp_cachingEnter (op := op) h (if_neg hnotWb).symm
  have hhome := atDirectory_atHome s o (agentReq o op n a)
  obtain ⟨-, hposted, -, -, -, hagent, hkind, hfenced, -, -, -, -, hwindow, -, -⟩ := h
  generalize hu : s.atDirectory o (agentReq o op n a) = u at hgo hfirst hhome
  generalize hr : s.heldReq o (agentReq o op n a) = r at hgo hfirst
  have hline : r.line = addrOffset o.req.target / 128 := hr ▸ rfl
  have hspan : r.span = a.span o := hr ▸ agentReq_span o op n a
  have hoper : r.oper = o := hr ▸ rfl
  have hways : s.lineWays r.line = s.waysOf (s.part w.2.partition).tenant := by
    rw [hline]; simp only [State.lineWays, hwindow]
  have hu_agent : u.agent n = a := (agent_eq hhome.agents).trans hagent
  have hu_entry : u.entryAt r.line = none := (entryAt_eq hhome.entries).trans (hline ▸ he)
  have hu_way : u.freeWay r.line (u.lineWays r.line) = some k := by
    rw [hhome.freeWay, hhome.lineWays, hways, hline, hk]
  have hu_read := hhome.lineRead r.line r.span.1 r.span.2
  have hfinish := finishLine_fresh (s := u) (r := r) (n := n) (by rw [← hr]; exact hop) (hr ▸ rfl) (by rw [hu_agent, hfenced])
    (by rwa [hu_agent]) hu_entry hu_way
  rw [grantWith_of_clean (hr ▸ rfl) (by rw [hhome.spec, hline]; exact hspec) (by rw [hu_read, hline, hspan]; exact hok), hu_read]
    at hfinish
  refine ⟨_, hc.trans (congrArg Host.Outcome.next (hgo.trans ((tryLine_of_way hfirst hu_entry hu_way).trans hfinish))), ?_, ?_, ?_⟩
  · obtain ⟨used, holdUntil, holders, hread⟩ := grant_entry (u.lineUsed r.line r.span.1 r.span.2) r n k
      (u.freshEntry r n) g (s.lineRead r.line r.span.1 r.span.2).1
    rw [hread, ← hline]
    rfl
  · rw [← hline, ← hspan, ← hoper]
    exact grant_answered _ _ _ _ _ _ (by rwa [hoper]) (hr ▸ rfl)
  · exact (hhome.keeps.mono (by simp)).trans (((lineUsed_keeps _ _ _ _).mono (by simp)).trans ((grant_keeps _ _ _ _ _ _ _).mono (by simp)))

/-! ### A line that the agent holds (R363, R364, R366) -/

/-- A caching operation of a line with an entry, that needs no snoop, has its effect. -/
theorem unitOp_of_entry {op : LineOp} {k : Nat} {e : DirEntry} (h : Caches s o len n a w)
    (hlen : len = if op = .wb then (if a.kind = 2 then 64 else 128) else 0)
    (he : s.entryAt (addrOffset o.req.target / 128) = some (k, e)) (hplan : snoopPlan (s.heldReq o (agentReq o op n a)) e = []) :
    s.unitOp o 0xFF (fun t => t.cachingEnter o op) =
      (s.atDirectory o (agentReq o op n a)).finishLine (s.heldReq o (agentReq o op n a)) := by
  obtain ⟨hgo, hfirst⟩ := unitOp_cachingEnter h hlen
  have he' := (entryAt_eq (atDirectory_atHome s o (agentReq o op n a)).entries).trans he
  exact hgo.trans ((tryLine_of_entry hfirst he').trans (actOn_of_no_snoop hplan))

section
variable {r : LineReq} {k : Nat} {e : DirEntry}

theorem finishLine_upg (hop : r.op = .upg) (hagent : r.agent = some n) (hfenced : (s.agent n).fenced = false)
    (hkind : (s.agent n).kind ≠ 0) (he : s.entryAt r.line = some (k, e)) (hin : upgInPlace e n = true) :
    s.finishLine r = s.grant r n k
      { e with state := .em, owner := n, sharers := [], halves := s.grantHalves e n r.half } 3 [] := by
  unfold State.finishLine
  simp only [hop, hagent, hfenced, hkind, he, hin, Bool.false_eq_true, or_self, if_false, if_true]

theorem finishLine_wb (hop : r.op = .wb) (hagent : r.agent = some n) (hfenced : (s.agent n).fenced = false)
    (hkind : (s.agent n).kind ≠ 0) (he : s.entryAt r.line = some (k, e)) : s.finishLine r = s.finishWb r n (some (k, e)) := by
  unfold State.finishLine
  simp only [hop, hagent, hfenced, hkind, he, Bool.false_eq_true, or_self, if_false]

/-- A holder that is no CXL host, and the only one, leaves no entry. -/
theorem leave_of_alone (h : e.state = .em ∧ e.owner = n ∨ e.state = .shared ∧ e.sharers = [n]) : s.leave e n none = none := by
  rcases h with ⟨hst, howner⟩ | ⟨hst, hsharers⟩
  · simp [State.leave, hst, howner]
  · simp [State.leave, hst, hsharers]

theorem finishLine_drop (hop : r.op = .drop) (hagent : r.agent = some n) (hfenced : (s.agent n).fenced = false)
    (hkind : (s.agent n).kind ≠ 0) (he : s.entryAt r.line = some (k, e)) (hhalf : r.half = none) (hst : e.state = .shared)
    (hsharers : e.sharers = [n]) : s.finishLine r = (s.setEntry k none).endLineReq r (served) := by
  have howner : e.ownerOf = none := by simp [DirEntry.ownerOf, hst]
  have hholds : e.holdersOf.contains n = true := by simp [DirEntry.holdersOf, howner, hsharers]
  unfold State.finishLine
  simp only [hop, hagent, hfenced, hkind, he, hhalf, howner, hholds, leave_of_alone (.inr ⟨hst, hsharers⟩), Bool.false_eq_true,
    or_self, if_false, if_true, reduceCtorEq, false_and, Option.map_none]

end

/-- What keeps both memories but for these bytes has stored exactly these. -/
theorem storesMem_of_mem {off : Nat} {bs : List Byte} (hw : BytesCanonical s) (hm : t.mem = (s.memWrite off bs).mem)
    (hs : t.sram = s.sram) : StoresMem s t off bs := by
  refine ⟨fun k hk => ?_, fun b => ⟨fun hb => ?_, by rw [State.sramByte, hs, ← State.sramByte]⟩⟩
  · exact (memByte_of_mem hm _).trans (memByte_memWrite_inside _ _ _ _ hw.1 hk)
  · exact (memByte_of_mem hm _).trans (memByte_memWrite_outside _ _ _ _ hw.1 hb)

theorem endLineReq_entries (s : State) (r : LineReq) (x : Response) : (s.endLineReq r x).coh.entries = s.coh.entries :=
  (congrArg CohState.entries (endLineReq_coh s r x) :)

/-- UPG of a line that the agent alone shares (R364). -/
theorem gives_upg {k : Nat} {e : DirEntry} (h : Caches s o 0 n a w) (he : s.entryAt (addrOffset o.req.target / 128) = some (k, e))
    (hst : e.state = .shared) (hsharers : e.sharers = [n]) :
    Gives (.upg o) s (fun t => (Store.read none t.coh.entries k).map (fun e => (e.line, e.state, e.owner, e.sharers)) =
        some (e.line, .em, n, []) ∧
      Answered t o.req o.op (fun r => decide (r.status = .ok ∧ r.detail = 3 ∧ r.data = [])) = true ∧
      Keeps [.coh, .remote, .dict, .freeCounter] s t) := by
  have hin : upgInPlace e n = true := by simp [upgInPlace, hst, hsharers]
  have hplan : snoopPlan (s.heldReq o (agentReq o .upg n a)) e = [] := by
    simp [snoopPlan, State.heldReq, State.asEntered, agentReq, hin, hsharers]
  have hhome := atDirectory_atHome s o (agentReq o .upg n a)
  have hgo := unitOp_of_entry h rfl he hplan
  obtain ⟨-, hposted, -, -, -, hagent, hkind, hfenced, -⟩ := h
  have hu_agent := (agent_eq hhome.agents).trans hagent
  have hend := finishLine_upg (s := s.atDirectory o (agentReq o .upg n a)) (r := s.heldReq o (agentReq o .upg n a)) rfl rfl
    (by rw [hu_agent, hfenced]) (by rwa [hu_agent]) ((entryAt_eq hhome.entries).trans he) hin
  refine ⟨_, congrArg Host.Outcome.next (hgo.trans hend), ?_, ?_, ?_⟩
  · obtain ⟨used, holdUntil, holders, hread⟩ := grant_entry (s.atDirectory o (agentReq o .upg n a))
      (s.heldReq o (agentReq o .upg n a)) n k _ 3 []
    rw [hread]
    rfl
  · exact grant_answered _ _ _ _ _ _ hposted rfl
  · exact (hhome.keeps.mono (by simp)).trans (grant_keeps _ _ _ _ _ _ _)

/-- DROP of a line that the agent, no CXL host, alone shares (R364). -/
theorem gives_drop {k : Nat} {e : DirEntry} (h : Caches s o 0 n a w) (hhost : a.kind ≠ 2)
    (he : s.entryAt (addrOffset o.req.target / 128) = some (k, e)) (hst : e.state = .shared) (hsharers : e.sharers = [n])
    (hwf : Store.wf none s.coh.entries = true) :
    Gives (.drop o) s (fun t => Store.read none t.coh.entries k = none ∧
      Answered t o.req o.op (fun r => decide (r.status = .ok)) = true ∧ Keeps [.coh, .remote, .dict, .freeCounter] s t) := by
  have hhome := atDirectory_atHome s o (agentReq o .drop n a)
  have hgo := unitOp_of_entry (op := .drop) h rfl he rfl
  obtain ⟨-, hposted, -, -, -, hagent, hkind, hfenced, -⟩ := h
  have hu_agent := (agent_eq hhome.agents).trans hagent
  have hend := finishLine_drop (s := s.atDirectory o (agentReq o .drop n a)) (r := s.heldReq o (agentReq o .drop n a)) rfl rfl
    (by rw [hu_agent, hfenced]) (by rwa [hu_agent]) ((entryAt_eq hhome.entries).trans he) (if_neg hhost) hst hsharers
  refine ⟨_, congrArg Host.Outcome.next (hgo.trans hend), ?_, ?_, ?_⟩
  · rw [endLineReq_entries]
    exact Store.read_write_same _ _ _ (hhome.entries ▸ hwf : Store.wf none _ = true)
  · exact endLineReq_answered _ hposted rfl fun _ _ _ _ => rfl
  · exact (hhome.keeps.mono (by simp)).trans (((setEntry_keeps _ _ _).mono (by simp)).trans (endLineReq_keeps _ _ _))

/-! ### A line is written back (R353, R362, R364) -/

/-- A line written back stands in its window's backing memory, and nothing else is written. -/
theorem lineWrite_mem {line off : Nat} {bs : List Byte} (hw : s.windowAt (line * 128) = some w)
    (hclean : s.firstPoison (s.backing w.2 (line * 128 + off)) bs.length = none) :
    (s.lineWrite line off bs).2.mem = (s.memWrite (s.backing w.2 (line * 128 + off)) bs).mem := by
  unfold State.lineWrite
  simp only [hw]
  rw [(touchRange_keeps _ _ _ _ _ _ _).mem (by simp)]
  have hkept := ckptKeep_keeps s w.2.partition ((s.backing w.2 (line * 128 + off) - (s.part w.2.partition).base) / 65536) 1
  unfold State.poolWrite
  rw [firstPoison_eq (hkept.pool (by simp)), hclean]
  exact congrArg (writeRange · _ bs) (hkept.mem (by simp))

/-- The state in which the owner's line is in backing memory. -/
def State.writtenBack (s : State) (r : LineReq) : State :=
  ((s.discardSpec r.line).lineWrite r.line r.span.1 (sliceB r.oper.data 0 r.span.2)).2

theorem finishWb_of_owner {r : LineReq} {k : Nat} {e : DirEntry} (h : e.ownerOf = some n) : s.finishWb r n (some (k, e)) =
    ((s.writtenBack r).setEntry k (((s.writtenBack r).leave e n r.half).map (fun x => x.unhold n s.now))).endLineReq r (served) :=
  if_pos h

theorem writtenBack_entries (s : State) (r : LineReq) : (s.writtenBack r).coh.entries = s.coh.entries :=
  (congrArg CohState.entries ((lineWrite_keeps _ _ _ _).coh (by simp))).trans (discardSpec_entries _ _)

theorem writtenBack_keeps (s : State) (r : LineReq) : Keeps [.coh, .mem, .pool, .dict, .faults] s (s.writtenBack r) :=
  ((discardSpec_keeps _ _).mono (by simp)).trans ((lineWrite_keeps _ _ _ _).mono (by simp))

theorem writtenBack_mem {r : LineReq} (hw : s.windowAt (r.line * 128) = some w)
    (hclean : s.firstPoison (s.backing w.2 (r.line * 128 + r.span.1)) (sliceB r.oper.data 0 r.span.2).length = none) :
    (s.writtenBack r).mem = (s.memWrite (s.backing w.2 (r.line * 128 + r.span.1)) (sliceB r.oper.data 0 r.span.2)).mem := by
  have hkeeps := discardSpec_keeps s r.line
  have hwindow : (s.discardSpec r.line).windowAt (r.line * 128) = some w := (windowAt_eq (DirWork.refl s).discardSpec.windows).trans hw
  have hpool := hkeeps.pool (by simp)
  rw [← backing_eq hpool] at hclean ⊢
  refine (lineWrite_mem hwindow ((firstPoison_eq hpool _ _).trans hclean)).trans ?_
  exact congrArg (writeRange · _ _) (hkeeps.mem (by simp))

/-- Of a line that was clean and is written back, exactly its bytes are stored, whatever answers then. -/
theorem storesMem_writtenBack {u : State} {r : LineReq} (h : AtHome s u) (hbytes : BytesCanonical s)
    (hw : s.windowAt (r.line * 128) = some w)
    (hclean : s.firstPoison (s.backing w.2 (r.line * 128 + r.span.1)) r.span.2 = none)
    (hlen : (sliceB r.oper.data 0 r.span.2).length = r.span.2)
    (ht : Keeps [.coh, .remote, .dict, .freeCounter] (u.writtenBack r) t) :
    StoresMem s t (s.backing w.2 (r.line * 128 + r.span.1)) (sliceB r.oper.data 0 r.span.2) := by
  have hpool := h.keeps.pool (by simp)
  have hmem := writtenBack_mem (s := u) (r := r) ((windowAt_eq h.windows).trans hw)
    (by rw [backing_eq hpool, firstPoison_eq hpool, hlen]; exact hclean)
  rw [backing_eq hpool] at hmem
  refine storesMem_of_mem hbytes ((ht.mem (by simp)).trans (hmem.trans ?_)) ?_
  · exact congrArg (writeRange · _ _) (h.keeps.mem (by simp))
  · exact (ht.sram (by simp)).trans (((writtenBack_keeps u r).sram (by simp)).trans (h.keeps.sram (by simp)))

/-- WB of a line that the agent owns (R364). -/
theorem gives_wb {k : Nat} {e : DirEntry} (h : Caches s o (if a.kind = 2 then 64 else 128) n a w)
    (he : s.entryAt (addrOffset o.req.target / 128) = some (k, e)) (hst : e.state = .em) (howner : e.owner = n)
    (hclean : s.firstPoison (s.backing w.2 (addrOffset o.req.target / 128 * 128 + (a.span o).1)) (a.span o).2 = none)
    (hlen : (sliceB o.data 0 (a.span o).2).length = (a.span o).2) (hbytes : BytesCanonical s)
    (hwf : Store.wf none s.coh.entries = true) :
    Gives (.wb o) s (fun t => StoresMem s t (s.backing w.2 (addrOffset o.req.target / 128 * 128 + (a.span o).1))
        (sliceB o.data 0 (a.span o).2) ∧
      (a.kind ≠ 2 → Store.read none t.coh.entries k = none) ∧
      Answered t o.req o.op (fun r => decide (r.status = .ok)) = true) := by
  have hhome := atDirectory_atHome s o (agentReq o .wb n a)
  have hgo := unitOp_of_entry (op := .wb) h rfl he rfl
  obtain ⟨-, hposted, -, -, -, hagent, hkind, hfenced, -, -, -, -, hwindow, -⟩ := h
  have hu_agent := (agent_eq hhome.agents).trans hagent
  generalize hu : s.atDirectory o (agentReq o .wb n a) = u at hgo hhome hu_agent
  generalize hr : s.heldReq o (agentReq o .wb n a) = r at hgo
  have hline : r.line = addrOffset o.req.target / 128 := hr ▸ rfl
  have hspan : r.span = a.span o := hr ▸ agentReq_span o .wb n a
  have hoper : r.oper = o := hr ▸ rfl
  have hop : r.op = .wb := hr ▸ rfl
  have hasks : r.agent = some n := hr ▸ rfl
  have hown : e.ownerOf = some n := by simp [DirEntry.ownerOf, hst, howner]
  rw [finishLine_wb hop hasks (by rw [hu_agent, hfenced]) (by rwa [hu_agent])
    ((entryAt_eq hhome.entries).trans (hline ▸ he)), finishWb_of_owner hown] at hgo
  refine ⟨_, congrArg Host.Outcome.next hgo, ?_, fun hhost => ?_, ?_⟩
  · rw [← hline, ← hspan, ← hoper]
    refine storesMem_writtenBack hhome hbytes (by rw [hline]; exact hwindow) (by rw [hline, hspan]; exact hclean)
      (by rw [hoper, hspan]; exact hlen) (Keeps.trans ?_ (endLineReq_keeps _ _ _))
    exact (setEntry_keeps _ _ _).mono (by simp)
  · have hhalf : r.half = none := by rw [← hr]; exact if_neg hhost
    rw [endLineReq_entries, hhalf, leave_of_alone (.inl ⟨hst, howner⟩)]
    exact Store.read_write_same _ _ _ (by rw [writtenBack_entries, hhome.entries]; exact hwf)
  · rw [← hoper]
    exact endLineReq_answered _ (by rwa [hoper]) (hr ▸ rfl) fun _ _ _ _ => rfl

/-! ### RD_SPEC (R370) -/

/-- A line is read from memory and buffered for an agent. -/
def State.buffered (s : State) (line n : Nat) : State :=
  { s.lineUsed line 0 128 with
    coh := { (s.lineUsed line 0 128).coh with
      spec := (s.lineUsed line 0 128).coh.spec ++
        [{ line := line, agent := n, since := (s.lineUsed line 0 128).now, data := (s.lineRead line 0 128).1 }] } }

theorem buffered_spec (s : State) (line n : Nat) : (s.buffered line n).coh.spec =
    s.coh.spec ++ [{ line := line, agent := n, since := s.now, data := (s.lineRead line 0 128).1 }] := by
  have hused := lineUsed_keeps s line 0 128
  rw [← hused.coh (by simp), ← hused.now (by simp)]
  rfl

theorem buffered_keeps (s : State) (line n : Nat) : Keeps [.coh, .pool, .dict] s (s.buffered line n) :=
  ((lineUsed_keeps s line 0 128).mono (by simp)).trans ((putCoh_keeps _ _).mono (by simp))

/-- RD_SPEC of a line without an entry, whose slice has room and that is not buffered. -/
theorem exec_rdSpec (h : Caches s o 0 n a w) (he : s.entryAt (addrOffset o.req.target / 128) = none)
    (hok : (s.lineRead (addrOffset o.req.target / 128) 0 128).2 = true)
    (hroom : (s.sliceSpec (addrOffset o.req.target / 128)).length < 256)
    (hspec : s.coh.spec.all (fun x => decide (x.line ≠ addrOffset o.req.target / 128)) = true) :
    exec (.rdSpec o) s = .next ((s.begin.buffered (addrOffset o.req.target / 128) n).respond o.req o.op (served)
      (s.begin.sliceLoad (addrOffset o.req.target / 128))) := by
  have hline : (agentReq o .get n a).line = addrOffset o.req.target / 128 := rfl
  have he' : s.begin.entryAt (addrOffset o.req.target / 128) = none := he
  have hok' : (s.begin.lineRead (addrOffset o.req.target / 128) 0 128).2 = true := (lineRead_begin s _ _ _).symm ▸ hok
  have hfull : decide (256 ≤ (s.begin.sliceSpec (addrOffset o.req.target / 128)).length) = false :=
    decide_eq_false (Nat.not_le.mpr hroom)
  have hbuffered : s.begin.coh.spec.any
      (fun x => decide (x.line = addrOffset o.req.target / 128) && decide (x.agent = n)) = false := by
    refine List.any_eq_false.mpr fun x hx => ?_
    have hne : x.line ≠ addrOffset o.req.target / 128 := by simpa using List.all_eq_true.mp hspec x hx
    simp [hne]
  refine congrArg Host.Outcome.next ((unitOp_of_caches (op := .get) h rfl).trans ?_)
  simp only [hline, he', hok', hfull, hbuffered, Bool.not_true, Bool.or_self, Bool.false_eq_true, if_false]
  rfl

/-- It is buffered and answered. -/
theorem gives_rdSpec (h : Caches s o 0 n a w) (he : s.entryAt (addrOffset o.req.target / 128) = none)
    (hok : (s.lineRead (addrOffset o.req.target / 128) 0 128).2 = true)
    (hroom : (s.sliceSpec (addrOffset o.req.target / 128)).length < 256)
    (hspec : s.coh.spec.all (fun x => decide (x.line ≠ addrOffset o.req.target / 128)) = true) :
    Gives (.rdSpec o) s (fun t => t.coh.spec = s.coh.spec ++
        [{ line := addrOffset o.req.target / 128, agent := n, since := s.now
           data := (s.lineRead (addrOffset o.req.target / 128) 0 128).1 }] ∧
      Answered t o.req o.op (fun r => decide (r.status = .ok)) = true ∧ Keeps [.coh, .remote, .pool, .dict, .freeCounter] s t) := by
  have hrespond := respond_keeps (s.begin.buffered (addrOffset o.req.target / 128) n) o.req o.op (served)
    (s.begin.sliceLoad (addrOffset o.req.target / 128))
  have hbuffered := (buffered_keeps s.begin (addrOffset o.req.target / 128) n).of_begin
  obtain ⟨-, hposted, -⟩ := id h
  refine ⟨_, exec_rdSpec h he hok hroom hspec, ?_, answered_of_respond _ _ _ _ hposted fun _ _ _ _ => rfl, ?_⟩
  · rw [hrespond.coh (by simp), buffered_spec, lineRead_begin]
    rfl
  · exact (hbuffered.mono (by simp)).trans (hrespond.mono (by simp))

/-! ### O43 -/

/-- Settles O43: the first of its line, a request of an agent meets no hold and needs no snoop, and so ends within its own command. -/
theorem cachingOperationsTakeEffect : Obligations.CachingOperationsTakeEffect :=
  ⟨fun _ _ _ _ _ _ => gives_fresh (.inl ⟨rfl, rfl⟩) rfl, fun _ _ _ _ _ _ => gives_fresh (.inr ⟨rfl, rfl⟩) rfl,
    fun _ _ _ _ _ _ _ => gives_upg, fun _ _ _ _ _ _ _ => gives_wb, fun _ _ _ _ _ _ _ => gives_drop, fun _ _ _ _ _ => gives_rdSpec⟩

/-! ### Snoop answers and flushes (R362, R368, R372) -/

/-- A request with a snoop answered (R362). -/
def LineReq.heard (r : LineReq) (agent : Nat) (half : Option Nat) : LineReq :=
  { r with snoops := r.snoops.filter (fun x => !(decide (x.agent = agent) && decide (x.half = half))) }

section
variable {agent line : Nat} {half : Option Nat} {r : LineReq}

/-- What an answer without data to a snoop gives, from the state it leads to (R362). -/
theorem gives_heard {u : State} {P : State → Prop} (hrun : s.running = true)
    (hr : s.coh.requests.find? (fun r => decide (r.line = line) &&
      r.snoops.any (fun x => decide (x.agent = agent) && decide (x.half = half))) = some r)
    (hu : (if (r.heard agent half).snoops.isEmpty then (s.begin.setLineReq (r.heard agent half)).finishLine (r.heard agent half)
      else s.begin.setLineReq (r.heard agent half)) = u) (hp : P u) : Gives (.snoopResponse agent line half none) s P := by
  refine gives_of_running hrun rfl ?_ hp
  have hr' : s.begin.coh.requests.find? (fun r => decide (r.line = line) &&
      r.snoops.any (fun x => decide (x.agent = agent) && decide (x.half = half))) = some r := hr
  simp only [hr', Option.isSome_none, Bool.and_false, Bool.false_eq_true, if_false]
  exact hu

/-- An answer that is not the last (R362). -/
theorem gives_snoopResponse_awaited (hrun : s.running = true)
    (hr : s.coh.requests.find? (fun r => decide (r.line = line) &&
      r.snoops.any (fun x => decide (x.agent = agent) && decide (x.half = half))) = some r)
    (hmore : (r.heard agent half).snoops ≠ []) :
    Gives (.snoopResponse agent line half none) s (fun t =>
      t.coh.requests = s.coh.requests.map (fun x => if x.id = r.id then r.heard agent half else x) ∧ Keeps [.coh] s t) :=
  gives_heard hrun hr (if_neg (by simpa using hmore)) ⟨rfl, (putCoh_keeps _ _).of_begin⟩

end

section
variable {k : Nat} {e : DirEntry} {r : LineReq}

/-- A flush of a line with an entry, without data from its owner, frees the entry and ends. -/
theorem finishLine_flush (hop : r.op = .flush) (hgot : r.got = []) (he : s.entryAt r.line = some (k, e)) :
    s.finishLine r = ((s.setEntry k none).dropLineReq r.id).bump O.dirEvictions := by
  unfold State.finishLine
  simp only [hop, he, State.writeGot, writeHalves_of_got_nil _ hgot, Option.isSome_some, if_true]

/-- A flush of a line without an entry ends. -/
theorem finishLine_flush_absent (hop : r.op = .flush) (hgot : r.got = []) (he : s.entryAt r.line = none) :
    s.finishLine r = s.dropLineReq r.id := by
  unfold State.finishLine
  simp only [hop, he, State.writeGot, writeHalves_of_got_nil _ hgot, Option.isSome_none, Bool.false_eq_true, if_false]

/-- A request that is put back under its number and then dropped is gone. -/
theorem filter_map_replaced (l : List LineReq) (r : LineReq) :
    (l.map (fun x => if x.id = r.id then r else x)).filter (fun x => decide (x.id ≠ r.id)) =
      l.filter (fun x => decide (x.id ≠ r.id)) := by
  induction l with
  | nil => rfl
  | cons x l ih =>
    by_cases hx : x.id = r.id
    · rw [List.map_cons, if_pos hx, List.filter_cons_of_neg (by simp), List.filter_cons_of_neg (by simp [hx]), ih]
    · rw [List.map_cons, if_neg hx, List.filter_cons_of_pos (by simp [hx]), List.filter_cons_of_pos (by simp [hx]), ih]

/-- The last answer to a flush, without data (R362, R368). -/
theorem gives_snoopResponse_flushed {agent line : Nat} {half : Option Nat} (hrun : s.running = true)
    (hr : s.coh.requests.find? (fun r => decide (r.line = line) &&
      r.snoops.any (fun x => decide (x.agent = agent) && decide (x.half = half))) = some r)
    (hlast : (r.heard agent half).snoops = []) (hop : r.op = .flush) (hgot : r.got = []) (he : s.entryAt line = some (k, e))
    (hwf : Store.wf none s.coh.entries = true) :
    Gives (.snoopResponse agent line half none) s (fun t => Store.read none t.coh.entries k = none ∧
      t.coh.requests = s.coh.requests.filter (fun x => decide (x.id ≠ r.id)) ∧ Keeps [.coh, .dict] s t) := by
  have hline : r.line = line := by
    have := List.find?_some hr
    simp only [Bool.and_eq_true, decide_eq_true_eq] at this
    exact this.1
  have hend := finishLine_flush (s := s.begin.setLineReq (r.heard agent half)) (r := r.heard agent half) hop hgot
    ((entryAt_eq (s := s) rfl).trans (hline.symm ▸ he))
  refine gives_heard hrun hr ((if_pos (by rw [hlast]; rfl)).trans hend) ⟨?_, ?_, ?_⟩
  · rw [(bump_keeps _ _).coh (by simp)]
    exact Store.read_write_same _ _ _ hwf
  · rw [(bump_keeps _ _).coh (by simp)]
    exact filter_map_replaced _ _
  · exact ((putCoh_keeps s.begin _).of_begin.mono (by simp)).trans ((bump_keeps _ _).mono (by simp))

/-- A flush that waited behind its line, and finds no entry (R372). -/
theorem gives_directoryRequestResume {id : Nat} (hrun : s.running = true)
    (hr : s.coh.requests.find? (fun r => decide (r.id = id)) = some r) (hwait : r.wait = .busy) (hop : r.op = .flush) (hgot : r.got = [])
    (hfirst : s.coh.requests.filter (fun x => decide (x.line = r.line) && decide (x.id < r.id) && decide (x.wait ≠ .slice)) = [])
    (he : s.entryAt r.line = none) :
    Gives (.directoryRequestResume id) s (fun t =>
      t.coh.requests = s.coh.requests.filter (fun x => decide (x.id ≠ id)) ∧ Keeps [.coh, .dict] s t) := by
  obtain rfl : r.id = id := by simpa using List.find?_some hr
  have hgo : s.begin.tryLine r = s.begin.dropLineReq r.id :=
    (tryLine_of_flush (s := s.begin) hfirst he hop).trans (finishLine_flush_absent hop hgot he)
  refine gives_of_running (u := s.begin.dropLineReq r.id) hrun rfl ?_ ⟨rfl, (putCoh_keeps s.begin _).of_begin.mono (by simp)⟩
  simp only [show s.begin.coh.requests.find? _ = some r from hr, hwait]
  exact hgo

/-- A hold that nobody waits for ends (R366). -/
theorem gives_holdExpiry {line : Nat} (hrun : s.running = true) (he : s.entryAt line = some (k, e))
    (hnone : s.coh.requests.filter (fun r => decide (r.line = line) && decide (r.wait = .hold)) = []) :
    Gives (.holdExpiry line) s (fun t => e.holdUntil ≤ t.now ∧ Keeps [.now, .ftc, .dict] s t) := by
  refine gives_of_running (u := s.begin.elapse e.holdUntil) hrun rfl ?_ ⟨?_, (elapse_keeps _ _).of_begin⟩
  · simp only [show s.begin.entryAt line = some (k, e) from he, show s.begin.coh.requests.filter _ = [] from hnone]
    rfl
  · rw [elapse_now]
    exact Nat.le_max_right _ _

/-- A buffered line goes after 10 µs (R370). -/
theorem gives_specBufferExpiry {line agent : Nat} {x : SpecLine} (hrun : s.running = true)
    (hx : s.coh.spec.find? (fun x => decide (x.line = line) && decide (x.agent = agent)) = some x) :
    Gives (.specBufferExpiry line agent) s (fun t => t.coh.spec = s.coh.spec.erase x ∧ x.since + usUnits 10 ≤ t.now ∧
      Keeps [.now, .ftc, .dict, .coh] s t) := by
  have htime := (elapse_keeps s.begin (x.since + usUnits 10)).of_begin
  refine gives_of_running hrun rfl (by simp only [show s.begin.coh.spec.find? _ = some x from hx]; rfl) ⟨?_, ?_, ?_⟩
  · exact congrArg (fun c : CohState => c.spec.erase x) (htime.coh (by simp))
  · exact (elapse_now _ _).symm ▸ Nat.le_max_right _ _
  · exact (htime.mono (by simp)).trans ((putCoh_keeps _ _).mono (by simp))

end

/-! ### An agent that is fenced (R371, R373) -/

theorem agent_setAgent_self {n : Nat} {x : Agent} (hx : x ≠ {}) : (s.setAgent n x).agent n = x := read_write_self _ _ hx

/-- A fence is work of the directory before and after the agent is marked, and then the report. -/
theorem fenceAgent_decomposes (s : State) (a : Nat) (report : Bool) : ∃ s1 s3, DirWork s s1 ∧
    DirWork ((s1.setAgent a { s1.agent a with fenced := true }).bump32 O.agentsFenced) s3 ∧
    Keeps [.faults, .mgmt, .remote, .dict, .freeCounter] s3 (s.fenceAgent a report) := by
  unfold State.fenceAgent
  extract_lets s1 x s2 s3
  refine ⟨s1, s3, (DirWork.refl s).foldl fun {t x} ht => ?_, (DirWork.refl s2).foldl fun ht => ?_,
    Keeps.ite (fault_keeps _ _ _ _ _ _ _) (Keeps.refl _ _)⟩
  · split
    · exact ht
    · exact ht.poisonLine.setEntry.ite (ht.setEntry.ite ht.setEntry)
  · exact ht.setLineReq.finishLine.ite ht.setLineReq

theorem fenceAgent_fenced (s : State) (a : Nat) (report : Bool) : ((s.fenceAgent a report).agent a).fenced = true := by
  obtain ⟨s1, s3, -, h3, hreport⟩ := fenceAgent_decomposes s a report
  have hagents := (congrArg CohState.agents (hreport.coh (by simp))).trans h3.agents
  rw [agent_eq (s := s1.setAgent a { s1.agent a with fenced := true }) hagents, agent_setAgent_self]
  exact fun h => absurd (congrArg Agent.fenced h) (by simp)

theorem fenceAgent_now (s : State) (a : Nat) (report : Bool) : (s.fenceAgent a report).now = s.now := by
  obtain ⟨s1, s3, h1, h3, hreport⟩ := fenceAgent_decomposes s a report
  exact (hreport.now (by simp)).trans ((h3.keeps.now (by simp [besideDir])).trans (h1.keeps.now (by simp [besideDir])))

/-- A snoop is not answered in time (R371). -/
theorem gives_snoopTimeout {agent line : Nat} {x : Snoop} (hrun : s.running = true)
    (hx : (s.coh.requests.filter (fun r => decide (r.line = line))).findSome?
      (fun r => r.snoops.find? (fun x => decide (x.agent = agent))) = some x) :
    Gives (.snoopTimeout agent line) s (fun t => (t.agent agent).fenced = true ∧ x.deadline ≤ t.now) := by
  refine gives_of_running (u := (s.begin.elapse x.deadline).fenceAgent agent true) hrun rfl ?_ ⟨fenceAgent_fenced _ _ _, ?_⟩
  · simp only [show (s.begin.coh.requests.filter _).findSome? _ = some x from hx]
  · rw [fenceAgent_now, elapse_now]
    exact Nat.le_max_right _ _

/-! ### Windows, way masks and agents (R354, R356, R359, R372, R373, R375) -/

/-- A write that the management domain makes and its check lets through has its effect and is answered OK. -/
theorem mgmtWrite_accepted {a : Access} {addr : Nat} {check : Option Response} {eff : State → State} (ha : accessMgmt a = true)
    (hc : check = none) : s.mgmtWrite a addr check eff = (eff (s.armSpent a addr)).answer served :=
  (if_neg (by simp [ha])).trans (openWrite_accepted hc (by simp))

/-- One whose effect is on the directory's own state changes nothing else. -/
theorem cohWrite_keeps (s : State) (a : Access) (addr : Nat) (c : CohState) :
    Keeps [.coh, .mgmt, .freeCounter] s (State.answer { s.armSpent a addr with coh := c } served) :=
  ((armSpent_keeps _ _ _).mono (by simp)).trans (((putCoh_keeps _ _).mono (by simp)).trans ((answer_keeps _ _ _).mono (by simp)))

theorem window_setWindow_self {n : Nat} {x : Window} (hx : x ≠ {}) : (s.setWindow n x).window n = x := read_write_self _ _ hx

theorem setWindow_keeps (s : State) (n : Nat) (x : Window) : Keeps [.coh] s (s.setWindow n x) := putCoh_keeps _ _

theorem Window.ne_of_enabled {x : Window} (h : x.enable = true) : x ≠ {} := by
  rintro rfl
  exact absurd h (by simp)

/-- A window as an enable leaves it, over a partition or over the one it has (R354). -/
def Window.opened (x : Window) (p : Option Nat) : Window :=
  { x with partition := p.getD x.partition, enable := true, disabling := false, lastStatus := .ok }

section
variable {a : Access} {n : Nat}

/-- An enable that R354 accepts. -/
theorem gives_windowEnable {p : Option Nat} (hrun : s.running = true) (ha : accessMgmt a = true)
    (hc : s.windowCheck n { s.window n with partition := p.getD (s.window n).partition } = none) :
    Gives (.windowEnable a n p) s (fun t => t.window n = (s.window n).opened p ∧ Answers t .ok ∧
      Keeps [.coh, .mgmt, .freeCounter] s t) := by
  have hc' : s.begin.windowCheck n { s.begin.window n with partition := p.getD (s.begin.window n).partition } = none := hc
  refine gives_of_running hrun rfl (u := State.answer (State.setWindow
    ((s.begin.setWindow n { s.window n with lastStatus := .ok }).armSpent a (R.cohWinCtl n)) n ((s.window n).opened p)) served)
    ?_ ⟨?_, rfl, ?_⟩
  · simp only [hc', ha, if_true, Option.map_none, Option.getD_none, mgmtWrite_accepted]
    rfl
  · exact window_setWindow_self (Window.ne_of_enabled rfl)
  · exact ((setWindow_keeps _ _ _).of_begin.mono (by simp)).trans (cohWrite_keeps _ a _ _)

/-- A window that is enabled and is turned off stays enabled, and is disabling (R372). -/
theorem windowOff_window (h : (s.window n).enable = true) :
    ((s.windowOff n).window n).enable = true ∧ ((s.windowOff n).window n).disabling = true := by
  unfold State.windowOff
  extract_lets w inside s1 lines
  split
  · next hoff =>
    have hdis : (s.window n).disabling = true := by simpa [w, h] using hoff
    exact ⟨h, hdis⟩
  · have hwork : DirWork s1 (lines.foldl (fun (t : State) l => t.enterLine { id := 0, group := 0, line := l, op := .flush }) s1) :=
      (DirWork.refl s1).foldl fun ht => ht.enterLine
    have hs1 : s1.window n = { w with disabling := true } := window_setWindow_self (Window.ne_of_enabled h)
    rw [window_eq hwork.windows, hs1]
    exact ⟨h, rfl⟩

/-- A disable leaves the window enabled, and disabling (R372). -/
theorem gives_windowDisable (hrun : s.running = true) (ha : accessMgmt a = true) (hon : (s.window n).enable = true) :
    Gives (.windowDisable a n) s (fun t => (t.window n).disabling = true ∧ (t.window n).enable = true ∧ Answers t .ok) := by
  have harm := (armSpent_keeps s.begin a (R.cohWinCtl n)).coh (by simp)
  generalize hu : s.begin.armSpent a (R.cohWinCtl n) = u at harm
  have hwindow : u.window n = s.window n := window_eq (s := s) (congrArg CohState.windows harm)
  obtain ⟨hen, hdis⟩ := windowOff_window (s := u) (n := n) (by rwa [hwindow])
  have hself : (State.setWindow (u.windowOff n) n { (u.windowOff n).window n with lastStatus := .ok }).window n =
    { (u.windowOff n).window n with lastStatus := .ok } := window_setWindow_self (Window.ne_of_enabled hen)
  refine gives_of_running hrun rfl (mgmtWrite_accepted ha rfl) ⟨?_, ?_, rfl⟩
  · rw [hu]
    exact (congrArg Window.disabling hself).trans hdis
  · rw [hu]
    exact (congrArg Window.enable hself).trans hen

/-- The last entry and the last request of a window that is disabling are gone (R372). -/
theorem gives_windowDisableComplete (hrun : s.running = true) (hdue : s.power.resetDue = none) (hdis : (s.window n).disabling = true)
    (hentries : s.windowEntries (s.window n) = [])
    (hreqs : s.coh.requests.all (fun r => decide (r.line * 128 < (s.window n).base ∨
      (s.window n).base + (s.window n).pages * 65536 ≤ r.line * 128)) = true)
    (hwf : Store.wf ({} : Window) s.coh.windows = true) :
    Gives (.windowDisableComplete n) s (fun t => t.window n = { s.window n with enable := false, disabling := false } ∧
      Keeps [.coh] s t) := by
  have hidle : s.coh.requests.any (fun r => decide ((s.window n).base ≤ r.line * 128) &&
      decide (r.line * 128 < (s.window n).base + (s.window n).pages * 65536)) = false := by
    refine List.any_eq_false.mpr fun r hr => ?_
    have hout := of_decide_eq_true (List.all_eq_true.mp hreqs r hr)
    simp only [Bool.and_eq_true, decide_eq_true_eq]
    omega
  have hdone : s.begin.windowDone n = s.begin.setWindow n { s.window n with enable := false, disabling := false } := by
    refine if_pos ?_
    rw [Bool.and_eq_true, Bool.and_eq_true]
    exact ⟨⟨hdis, List.isEmpty_iff.mpr hentries⟩, (congrArg not hidle :)⟩
  refine gives_of_running hrun rfl (u := s.begin.setWindow n { s.window n with enable := false, disabling := false }) ?_ ⟨?_, ?_⟩
  · rw [hdone]
    unfold State.resetIfQuiet
    simp only [State.setWindow_power, State.begin_power, hdue]
  · exact Store.read_write_same _ _ _ hwf
  · exact (setWindow_keeps _ _ _).of_begin

/-- A way mask that R356 accepts. -/
theorem gives_wayMaskWrite {i : Issuer} {tn : Nat} {v : Word32} (hrun : s.running = true) (hi : i.tenant = 0xFF)
    (hv : v.toNat < 65536)
    (hfree : s.coh.ways.any (fun e => decide (e.1 ≠ tn) && decide (e.2 &&& v.setWidth 16 ≠ 0)) = false)
    (hown : s.ownsWindow tn = false) (hwf : Store.wf 0 s.coh.ways = true) :
    Gives (.wayMaskWrite i tn v) s (fun t => Store.read 0 t.coh.ways tn = v.setWidth 16 ∧ Answers t .ok ∧
      Keeps [.coh, .mgmt, .freeCounter] s t) := by
  have hcheck : (if v.toNat / 65536 ≠ 0 then some (refusal .rsvd)
      else if s.begin.coh.ways.any (fun e => decide (e.1 ≠ tn) && decide (e.2 &&& v.setWidth 16 ≠ 0)) then some (refusal .param)
      else if s.begin.ownsWindow tn then some (refusal .busy) else none) = none := by
    rw [if_neg (by omega), if_neg (by rw [State.begin_coh, hfree]; simp),
      if_neg (by rw [show s.begin.ownsWindow tn = false from hown]; simp)]
  have harm := (armSpent_keeps s.begin (.csr i) (R.cohWays tn)).coh (by simp)
  refine gives_of_running hrun rfl (mgmtWrite_accepted (decide_eq_true hi : accessMgmt (.csr i) = true) hcheck) ⟨?_, rfl, ?_⟩
  · exact Store.read_write_same _ _ _ (show Store.wf 0 (s.begin.armSpent (.csr i) (R.cohWays tn)).coh.ways = true by rwa [harm])
  · exact (cohWrite_keeps s.begin _ _ _).of_begin

/-- A registration that is let through is of a kind of agent (R359). -/
theorem kind_of_agentCheck {kind : Nat} (h : s.agentCheck n kind = none) : kind ≠ 0 := by
  rintro rfl
  simp [State.agentCheck] at h

/-- A registration that R359 accepts. -/
theorem gives_agentRegister {kind : Nat} (hrun : s.running = true) (ha : accessMgmt a = true) (hc : s.agentCheck n kind = none) :
    Gives (.agentRegister a n kind) s (fun t => t.agent n = { s.agent n with kind := kind, fenced := false } ∧ Answers t .ok ∧
      Keeps [.coh, .mgmt, .freeCounter] s t) := by
  have hc' : (s.begin.agentCheck n kind).map (fun st => refusal st) = none := Option.map_eq_none_iff.mpr hc
  have harm : (s.begin.armSpent a (R.cohAgentCtl n)).agent n = s.agent n :=
    agent_eq (congrArg CohState.agents ((armSpent_keeps s.begin a _).coh (by simp)))
  refine gives_of_running hrun rfl (mgmtWrite_accepted ha hc') ⟨?_, rfl, ?_⟩
  · rw [← harm]
    exact agent_setAgent_self fun h => kind_of_agentCheck hc (congrArg Agent.kind h)
  · exact (cohWrite_keeps s.begin _ _ _).of_begin

/-- An unregistration, which fences the agent first where entries name it (R373). -/
theorem gives_agentUnregister (hrun : s.running = true) (ha : accessMgmt a = true)
    (hwf : Store.wf ({} : Agent) s.coh.agents = true) :
    Gives (.agentUnregister a n) s (fun t => (t.agent n).kind = 0 ∧ Answers t .ok) := by
  have harm := (armSpent_keeps s.begin a (R.cohAgentCtl n)).coh (by simp)
  generalize hu : s.begin.armSpent a (R.cohAgentCtl n) = u at harm
  have htidy : Tidy u (if u.agentLines n = 0 then u else u.fenceAgent n false) := (Tidy.refl u).ite (Tidy.refl u).fenceAgent
  refine gives_of_running hrun rfl (mgmtWrite_accepted ha rfl) ⟨?_, rfl⟩
  rw [hu]
  exact congrArg Agent.kind (Store.read_write_same _ _ _ (htidy.agents (harm ▸ hwf)))

end

/-! ### O44 -/

/-- Settles O44: a flush that awaits no snoop ends in its own step, and none of the directory's work writes a window or an agent but the
fence its mark. -/
theorem directoryAndWindowsChange : Obligations.DirectoryAndWindowsChange :=
  ⟨fun _ _ _ _ _ => gives_snoopResponse_awaited, fun _ _ _ _ _ _ _ => gives_snoopResponse_flushed,
    fun _ _ _ => gives_directoryRequestResume, fun _ _ _ _ => gives_holdExpiry, fun _ _ _ _ => gives_snoopTimeout,
    fun _ _ _ _ => gives_specBufferExpiry, fun _ _ _ _ => gives_windowEnable, fun _ _ _ => gives_windowDisable,
    fun _ _ => gives_windowDisableComplete, fun _ _ _ _ => gives_wayMaskWrite, fun _ _ _ _ => gives_agentRegister,
    fun _ _ _ => gives_agentUnregister⟩

end Sys2Proof.Machine
end

/-! # Steps, logs and the package's stores; the dictionary paths

Sitting of the families 11 to 17: O1, O3, O9, O12 and O19. What every step keeps is said once by `step_tidy`. -/

section
namespace Sys2Proof.Machine
variable {s t : State}

/-! ### The step -/

theorem step_cons {c : Instr} {rest : List Instr} (h : s.pending = c :: rest) : step s = exec c { s with pending := rest } := by
  unfold step
  rw [h]

theorem step_nil (h : s.pending = []) : step s = .next s.idleTick := by
  unfold step
  rw [h]

/-- The outcome is a next state. -/
def goesOn : Result → Bool
  | .next _ => true
  | _ => false

theorem exec_goesOn (c : Instr) (s : State) : goesOn (exec c s) = true := by
  cases c <;> rfl

/-- No command has another outcome than a next state. -/
theorem exec_next (c : Instr) (s : State) : ∃ t, exec c s = .next t := by
  have hnext := exec_goesOn c s
  revert hnext
  cases exec c s with
  | next t => exact fun _ => ⟨t, rfl⟩
  | fault r => exact nofun
  | refused r => exact nofun

theorem step_next (s : State) : ∃ t, step s = .next t := by
  cases h : s.pending with
  | nil => exact ⟨_, step_nil h⟩
  | cons c rest => rw [step_cons h]; exact exec_next c _

/-- Settles O9: each of the fifteen tables stays in canonical form. -/
theorem packageStoresStayCanonical : Obligations.PackageStoresStayCanonical := by
  rintro s t ⟨htenants, howner, hbinds, hcrypt, hkeys, hbanks, hflash, hflashBanks, hvectors, hhot, hunits, hclocks, hinject, hslots,
    hmeter⟩ h
  have ht := step_tidy h
  exact ⟨ht.tenants htenants, ht.clusterOwner howner, ht.binds hbinds, ht.crypt hcrypt, ht.keys hkeys, ht.banks hbanks, ht.flash hflash,
    ht.flashBanks hflashBanks, ht.vectors hvectors, ht.dimmHot hhot, ht.units hunits, ht.clocks hclocks, ht.inject hinject,
    ht.commitSlots hslots, ht.meterMode hmeter⟩

/-- Settles O12: each log drops its oldest record when it is full. -/
theorem logsStayBounded : Obligations.LogsStayBounded := by
  rintro s t ⟨hclear, hevent, hfault⟩ h
  have ht := step_tidy h
  exact ⟨ht.clearLog hclear, ht.eventLog hevent, ht.faultLog hfault⟩

/-- Settles O1: the step takes the head of the list. -/
theorem stepRunsTheFrontCommand : Obligations.StepRunsTheFrontCommand := fun _ _ _ => step_cons

/-- Settles O3: every arm of `exec` answers a next state, and so does the idle tick. -/
theorem everyCommandAnswers : Obligations.EveryCommandAnswers := ⟨exec_next, step_next⟩

/-! ### Dictionary paths -/

/-- A path that lost its record holds nothing, and one that was given a record holds that. -/
theorem pathState_setPath (s : State) (p : DictPath) (x : PathState) : (s.setPath p x).pathState p = x := by
  have hrest : (s.mgmt.paths.filter (fun e => decide (e.1 ≠ p))).find? (fun e => decide (e.1 = p)) = none := by simp
  by_cases hx : x = {}
  · have hpaths : (s.setPath p x).mgmt.paths = s.mgmt.paths.filter (fun e => decide (e.1 ≠ p)) := if_pos hx
    unfold State.pathState
    rw [hpaths, hrest, hx]
  · have hpaths : (s.setPath p x).mgmt.paths = s.mgmt.paths.filter (fun e => decide (e.1 ≠ p)) ++ [(p, x)] := if_neg hx
    unfold State.pathState
    rw [hpaths, List.find?_append, hrest]
    simp

theorem setPath_keeps (s : State) (p : DictPath) (x : PathState) : Keeps [.mgmt] s (s.setPath p x) :=
  Keeps.refl _ s

/-- A right value in dict_unlock (R492). -/
theorem gives_dictUnlock {p : DictPath} {v : Word32} (hrun : s.running = true) (hkey : v.toNat % 65536 = 0xA5C3)
    (hindex : holdsRwl (v.toNat / 65536) = true) :
    Gives (.dictUnlock p v) s (fun t => (t.pathState p).arm = some (v.toNat / 65536, s.now + msUnits 100) ∧ Answers t .ok ∧
      Keeps [.mgmt, .freeCounter] s t) := by
  refine gives_of_running hrun rfl (if_pos ⟨hkey, hindex⟩) ⟨?_, rfl, Keeps.of_begin ?_⟩
  · exact congrArg PathState.arm (pathState_setPath _ _ _)
  · exact ((setPath_keeps _ _ _).mono (by decide)).trans ((answer_keeps _ _ _).mono (by decide))

/-- The record of a path after its time has passed. -/
theorem elapse_setPath_keeps (s : State) (n : Nat) (p : DictPath) (x : PathState) :
    Keeps [.mgmt, .now, .ftc, .dict] s ((s.begin.elapse n).setPath p x) :=
  Keeps.of_begin (((elapse_keeps _ _).mono (by decide)).trans ((setPath_keeps _ _ _).mono (by decide)))

theorem le_elapse_now (s : State) (n : Nat) : n ≤ (s.elapse n).now := by
  rw [elapse_now]
  exact Nat.le_max_right _ _

/-- An arm that was not used lapses (R492). -/
theorem gives_unlockArmLapse {p : DictPath} {a : Nat × Nat} (ha : (s.pathState p).arm = some a) :
    Gives (.unlockArmLapse p) s (fun t => (t.pathState p).arm = none ∧ a.2 ≤ t.now ∧ Keeps [.mgmt, .now, .ftc, .dict] s t) := by
  have hexec : exec (.unlockArmLapse p) s =
      .next ((s.begin.elapse a.2).setPath p { (s.begin.elapse a.2).pathState p with arm := none }) := by
    show Host.Outcome.next (match (s.pathState p).arm with | none => _ | some a => _) = _
    rw [ha]
  exact ⟨_, hexec, congrArg PathState.arm (pathState_setPath _ _ _), le_elapse_now _ _, elapse_setPath_keeps _ _ _ _⟩

/-- Segments of which no more came expire (R490). -/
theorem gives_segmentStagingExpiry {p : DictPath} {g : Staging} (hg : (s.pathState p).staging = some g) :
    Gives (.segmentStagingExpiry p) s (fun t => (t.pathState p).staging = none ∧ g.due ≤ t.now ∧
      Keeps [.mgmt, .now, .ftc, .dict] s t) := by
  have hexec : exec (.segmentStagingExpiry p) s = .next ((s.begin.elapse g.due).dropStaging p) := by
    show Host.Outcome.next (match (s.pathState p).staging with | none => _ | some g => _) = _
    rw [hg]
  exact ⟨_, hexec, congrArg PathState.staging (pathState_setPath _ _ _), le_elapse_now _ _, elapse_setPath_keeps _ _ _ _⟩

/-- Settles O19: each clause writes one record of one path. -/
theorem dictionaryArmsAndStaging : Obligations.DictionaryArmsAndStaging :=
  ⟨fun _ _ _ => gives_dictUnlock, fun _ _ _ => gives_unlockArmLapse, fun _ _ _ => gives_segmentStagingExpiry⟩

end Sys2Proof.Machine
end

/-! # Compression streams

Sitting of the family 11_compression: O45. It fails at the end of an enable (R393). Before the store is zeroed, each page of its control
area that a streaming checkpoint has yet to capture is copied for the streamer (R571), so the checkpoint's record counts the copy; the
clause has nothing changed but the streams, the bytes and the pool. -/

section
namespace Sys2Proof.Machine

/-- A stream that is being enabled over a partition of two pages, of which checkpoint 0 has captured none. -/
def enablingUnderCheckpoint : State :=
  { State.reset.setStream 0 { pages := 2, maxBlocks := 1, enable := true, enabling := true } with
    pool := { parts := [(0, { state := .bound, base := 0x10000, size := 2 })] }
    faults := { ckpts := [(0, { state := .streaming, cowFrames := [(0, 4)] })] } }

/-- The checkpoint has copied the page of the control area when the stream is OPEN. -/
theorem gives_enablingUnderCheckpoint :
    Gives (.streamEnableComplete 0) enablingUnderCheckpoint (fun t => (t.ckpt 0).cowCopies = 1) :=
  ⟨_, rfl, by decide +kernel⟩

/-- Refutes O45: its clause of the end of an enable keeps the checkpoints as they are, and where one streams the stream's partition, the
zeroing makes it copy a page first. -/
theorem not_streamsTakeEffect : ¬ Obligations.StreamsTakeEffect := by
  rintro ⟨-, henabled, -⟩
  obtain ⟨t, ht, -, -, -, hkeeps⟩ := henabled enablingUnderCheckpoint 0 (by decide) (by decide)
  obtain ⟨u, hu, hcopied⟩ := gives_enablingUnderCheckpoint
  obtain rfl : t = u := Host.Outcome.next.inj (ht.symm.trans hu)
  have hkept : (t.ckpt 0).cowCopies = 0 :=
    congrArg (fun f : FaultsState => (Store.read ({} : Ckpt) f.ckpts 0).cowCopies) (hkeeps.faults (by decide))
  exact absurd (hcopied.symm.trans hkept) (by decide)

end Sys2Proof.Machine
end

/-! # Vector search

Sitting of the family 12_vector_search: O46 and O47. A record at LOCAL is read when the operation is performed (R399, R406): the bytes
that come with the operation are the record only when LOCAL stands on another node (`State.atLocal`). The clauses take them for the
record wherever LOCAL is, and fail where this node holds other bytes there. -/

section
namespace Sys2Proof.Machine

/-! ### An index on zeroed memory -/

/-- An endpoint of tenant 5, and what its operations on index 1 ask: their LOCAL is byte 0x20000 of this node's pool. -/
def vectorIssuer : Issuer := { src := .endpoint 3, tenant := 5, node := 3 }
def vectorReq : Req := { issuer := vectorIssuer, target := 0xFFFF001000000000#64, localA := 0xFFFF000000020000#64 }

/-- Tenant 5 has partition 0, all of it zero, and the index. -/
def zeroedIndex (x : VIndex) : State :=
  { State.reset.setPart 0 { state := .bound, tenant := 5, size := 40, mapWritten := true } with meadow := { indexes := Store.write {} [] 1 x } }

/-! ### O46 -/

/-- An index of one shard of one item. -/
def oneShardIndex : VIndex := { state := .enabled, tenant := 5, shards := [{}] }

/-- A query for one item, whose record the bytes that come with it are. -/
def queryBytes : Operation :=
  { op := 0x60, req := vectorReq, length := 192, data := List.replicate 20 0 ++ [1, 0, 1, 0, 1, 0, 1, 0, 0, 0, 1, 0] ++ List.replicate 160 0 }

/-- The record at LOCAL is zero and asks for no item, so the query is refused and no query gets a number. -/
theorem gives_queryBytes : Gives (.vsQuery queryBytes) (zeroedIndex oneShardIndex) (fun t => t.meadow.nextQuery = 0) :=
  ⟨_, rfl, by decide +kernel⟩

/-- Refutes O46: its clause of a query's acceptance checks the bytes that come with the operation, and the record is the one at LOCAL. -/
theorem not_vectorQueriesTakeEffect : ¬ Obligations.VectorQueriesTakeEffect := by
  rintro ⟨haccept, -⟩
  obtain ⟨t, ht, -, hcount, -⟩ := haccept (zeroedIndex oneShardIndex) queryBytes 1 oneShardIndex _ (by decide +kernel) rfl rfl
    (by decide +kernel)
  obtain ⟨u, hu, hzero⟩ := gives_queryBytes
  obtain rfl : t = u := Host.Outcome.next.inj (ht.symm.trans hu)
  exact absurd (hzero.symm.trans hcount) (by decide)

/-! ### O47 -/

/-- An ENABLE, whose index record of one shard the bytes that come with it are. -/
def enableBytes : Operation :=
  { op := 0x61, req := vectorReq, length := 256
    data := [1, 1, 0, 0, 16, 0, 4, 1] ++ List.replicate 56 0 ++ [0, 0, 0, 0, 2, 0, 0, 0, 8, 0, 0, 0] ++ List.replicate 4 0 ++ natLe 8 0 ++
      natLe 8 4096 ++ natLe 8 8192 ++ natLe 8 16384 ++ List.replicate 144 0 }

/-- The record at LOCAL is zero, which is no index record, so the index stays DISABLED. -/
theorem gives_enableBytes : Gives (.vsEnable enableBytes) (zeroedIndex {}) (fun t => (t.vindex 1).state = .disabled) :=
  ⟨_, rfl, by decide +kernel⟩

/-- Refutes O47: its clause of ENABLE gives the index the bytes that come with the operation, and the record is the one at LOCAL. -/
theorem not_vectorIndexesChange : ¬ Obligations.VectorIndexesChange := by
  rintro ⟨henable, -⟩
  obtain ⟨t, ht, hindex, -, -⟩ := henable (zeroedIndex {}) enableBytes 1 {} (by decide +kernel) rfl rfl (by decide +kernel)
  obtain ⟨u, hu, hdisabled⟩ := gives_enableBytes
  obtain rfl : t = u := Host.Outcome.next.inj (ht.symm.trans hu)
  exact absurd (hdisabled.symm.trans (congrArg VIndex.state hindex)) (by decide)

end Sys2Proof.Machine
end

/-! # Mailboxes

Sitting of the family 15_management: O53. It fails at a mailbox's WRITE: a mailbox reaches every object (R515), reset_command among them,
and a cold reset leaves no mailbox as it was (R531), while the clause has the registers hold the command that was written. -/

section
namespace Sys2Proof.Machine

/-- The management domain, and mailbox 0 with the byte 2, a cold reset, as its data. -/
def mailboxIssuer : Issuer := { src := .endpoint 3, tenant := 0xFF, node := 3 }
def coldResetInMailbox : State := { State.reset with mgmt := { mailboxes := [(0, { wlen := 1, total := 1, data := [(0, 2)] })] } }

/-- A WRITE of reset_command, object 0x2200.07, resets the mailbox with the package. -/
theorem gives_coldResetInMailbox :
    Gives (.mailboxWrite mailboxIssuer 0 0x072200) coldResetInMailbox (fun t => (t.mbx 0).index = 0) :=
  ⟨_, rfl, by decide +kernel⟩

/-- Refutes O53: its clause of a mailbox's WRITE leaves the object's index in the mailbox, and a WRITE of reset_command clears it. -/
theorem not_mailboxesAndTargetsServeRequests : ¬ Obligations.MailboxesAndTargetsServeRequests := by
  rintro ⟨-, -, hwrite, -⟩
  obtain ⟨t, ht, hindex, -⟩ := hwrite coldResetInMailbox mailboxIssuer 0 0x072200 (by decide) rfl (by decide) (by decide) (by decide)
  obtain ⟨u, hu, hcleared⟩ := gives_coldResetInMailbox
  obtain rfl : t = u := Host.Outcome.next.inj (ht.symm.trans hu)
  exact absurd (hcleared.symm.trans hindex) (by decide)

end Sys2Proof.Machine
end

/-! # Checkpoints

Sitting of the family 17_faults_service: O57. It fails at a cancel (R572). The CoW frames go back to the partition's record, and a record
that stands at reset is not listed: where the table of partitions is in canonical form, the record then reads as at reset. The clause asks
for no form, and where the table lists the partition twice, the second record comes to light. No step leads from a canonical table to such
a one (`poolStoresStayCanonical`). -/

section
namespace Sys2Proof.Machine

/-- Checkpoint 0 armed over partition 0 with no CoW frame, and a table that lists the partition twice, the first time as at reset. -/
def partitionListedTwice : State :=
  { State.reset with
    pool := { parts := [(0, {}), (0, { freeFrames := [(5, 5)] })] }
    faults := { ckpts := [(0, { state := .armed })] } }

/-- The write of the first record removes it, and the frames of the second are read in its place. -/
theorem gives_partitionListedTwice :
    Gives (.ckptCancel .smbus 0) partitionListedTwice (fun t => (t.part 0).freeFrames = [(5, 5)]) :=
  ⟨_, rfl, by decide +kernel⟩

/-- Refutes O57: its clause of a cancel gives the partition the frames it had and those of the checkpoint, here none, and the frames of a
hidden record are read instead. -/
theorem not_commitSlotsAndCheckpointsProgress : ¬ Obligations.CommitSlotsAndCheckpointsProgress := by
  rintro ⟨-, -, -, -, -, -, -, -, -, -, hcancel, -⟩
  obtain ⟨t, ht, -, hframes, -⟩ := hcancel partitionListedTwice .smbus 0 (by decide) (.inl (by decide)) (by decide)
  obtain ⟨u, hu, hhidden⟩ := gives_partitionListedTwice
  obtain rfl : t = u := Host.Outcome.next.inj (ht.symm.trans hu)
  exact absurd (hhidden.symm.trans hframes) (by decide)

end Sys2Proof.Machine
end

/-! # Model keys

Sitting of the family 13_tenancy_security: O49. It fails at MK_DECRYPT (R447) into a partition that the table of partitions lists a second
time. A CONFIDENTIAL key seals the destination's partition first, which writes the first record of its number: where that one was another
range, the chunk's own range is gone from the table when the chunk is read. In a table in canonical form no number stands twice, and no
step leads from such a table to one that is not (`poolStoresStayCanonical`). What the opaque decryption answers does not matter here: it is
not reached. -/

section
namespace Sys2Proof.Machine

/-- A CONFIDENTIAL key of tenant 5, the chunk of 16 bytes for it at byte 0 of the pool, and the command that decrypts the chunk to byte
0x100000. -/
def confidentialKey : ModelKey :=
  { tenant := 5, confidential := true, planBound := false, mask := 0x7E, modelId := 7, key := [], planDigest := [], digests := [] }
def sealedChunk : List Byte := [0x44, 0x5A, 0x4D, 0x4B, 0, 0, 0, 0, 7, 0, 0, 0, 0, 0, 0, 0, 16]
def decryptChunk : Operation :=
  { op := 0x70, length := 16, operand1 := 3
    req := { issuer := { src := .endpoint 3, tenant := 5, node := 3 }, target := 0xFFFF000000100000#64, localA := 0xFFFF000000000000#64 } }

/-- Number 0 stands for the range at byte 0 and, a second time, for that at byte 0x100000; number 1 stands for the range at byte 0 too, and
its first page has failed. -/
def partitionsOverlap : State :=
  { State.reset.memWrite 0 sealedChunk with
    sec := { tenants := [(5, { enable := true })], keys := [(3, some confidentialKey)] }
    pool := { parts := [(0, { state := .bound, tenant := 5, base := 0, size := 16 }),
                        (0, { state := .bound, tenant := 5, base := 0x100000, size := 16 }),
                        (1, { state := .bound, tenant := 5, base := 0, size := 16 })]
              pages := [(pageKey 1 0, some { failed := true })] } }

/-- With number 0 sealed at byte 0x100000, byte 0 is of number 1, and its page cannot be read: the answer is neither that of a good tag nor
that of a wrong one. -/
theorem gives_partitionsOverlap : Gives (.mkDecrypt decryptChunk) partitionsOverlap (fun t =>
    Answered t decryptChunk.req decryptChunk.op (fun a => decide (a.status = .ok ∧ a.disp = .served)) = false ∧
      Answered t decryptChunk.req decryptChunk.op (fun a => decide (a.status = .auth ∧ a.disp = .served)) = false) :=
  ⟨_, rfl, by decide +kernel⟩

/-- Refutes O49: its clause of MK_DECRYPT answers OK or E_AUTH as the tag tells, and the answer here is E_TIER. -/
theorem not_sessionsKeysAndFirmwareChange : ¬ Obligations.SessionsKeysAndFirmwareChange := by
  rintro ⟨-, -, -, -, -, -, -, hdecrypt, -⟩
  obtain ⟨t, ht, hanswer⟩ := hdecrypt partitionsOverlap decryptChunk confidentialKey (by decide) rfl (by decide +kernel) (by decide)
    (by decide +kernel) (by decide +kernel) rfl (by decide +kernel)
  obtain ⟨u, hu, hnotOk, hnotAuth⟩ := gives_partitionsOverlap
  obtain rfl : t = u := Host.Outcome.next.inj (ht.symm.trans hu)
  split at hanswer
  · exact Bool.false_ne_true (hnotOk.symm.trans hanswer.2)
  · exact Bool.false_ne_true (hnotAuth.symm.trans hanswer.2)

end Sys2Proof.Machine
end

/-! # Records staged for a commit

Sitting of the family 17_faults_service: O15. CS_PUT is followed to the write of its record (`csOn_of_onSlot`, `execCsPut_of_staged`); what
such a write stores is said once by `serviceWrite_mem`. -/

section
namespace Sys2Proof.Machine
variable {s t : State} {o : Operation} {n : Nat} {x : CommitSlot}

/-! ### The record (R565) -/

theorem sliceB_length (bs : List Byte) (off n : Nat) : (sliceB bs off n).length = n := by
  simp [sliceB]

theorem le_roundUp (n : Nat) : n ≤ roundUp n 64 := by
  simp only [roundUp, ceilDiv]
  omega

theorem csRecord_length (o : Operation) : (csRecord o).length = 64 + roundUp o.length 64 := by
  have := le_roundUp o.length
  simp only [csRecord, List.length_append, natLe_length, List.length_replicate, sliceB_length]
  omega

/-! ### A write that the block makes (R300, R571) -/

/-- What the pool's checks let through lies in a partition. -/
theorem partAt_of_poolCheck {off len tenant : Nat} {ep : Option Nat} {use : PoolUse} (h : s.poolCheck off len tenant ep use = none) :
    ∃ e, s.partAt off = some e := by
  cases hp : s.partAt off with
  | none => simp [State.poolCheck, hp] at h
  | some e => exact ⟨e, rfl⟩

/-- It stores its bytes and no others. -/
theorem serviceWrite_mem {off tenant : Nat} {bs : List Byte} {use : PoolUse} (hcheck : s.poolCheck off bs.length tenant none use = none)
    (hclean : s.firstPoison off bs.length = none) (hbs : bs ≠ []) :
    (s.serviceWrite off bs tenant use).2.mem = (s.memWrite off bs).mem := by
  obtain ⟨⟨k, p⟩, hpart⟩ := partAt_of_poolCheck hcheck
  unfold State.serviceWrite
  simp only [hcheck, hpart, hbs, if_false]
  rw [(touchRange_keeps _ _ _ _ _ _ _).mem (by decide)]
  have hkept := ckptKeep_keeps s k ((off - p.base) / 65536)
    ((off - p.base + bs.length - 1) / 65536 + 1 - (off - p.base) / 65536)
  unfold State.poolWrite
  rw [firstPoison_eq (hkept.pool (by decide)), hclean]
  exact congrArg (writeRange · off bs) (hkept.mem (by decide))

/-! ### CS_PUT (R563, R565) -/

theorem csOn_of_onSlot {mask : BitVec 8} (go : State → Nat → CommitSlot → State) (h : OnSlot s o mask n x) :
    s.csOn o mask go = go s.begin n x := by
  obtain ⟨harr, hend, hposted, -, hregion, hlow, hn, hx, htenant⟩ := h
  have hx' : s.begin.cslot (csSlotNo o.req.target) = x := hn ▸ hx
  refine (homeOp_of_arrives _ harr hend hposted).trans ?_
  dsimp only
  rw [hx', hn, if_neg (by simp [hregion, hlow]), if_neg (fun hbad => hbad.2 (htenant hbad.1))]

/-- A CS_PUT that its slot lets through, and that fits in its attempt's area or does not (R565). -/
structure Puts (s : State) (o : Operation) (n : Nat) (x : CommitSlot) : Prop where
  slot : OnSlot s o 0xFF n x
  nonempty : 1 ≤ o.length
  bounded : o.length ≤ 2 ^ 24
  region : addrRegion o.operand1 < 7
  opened : x.state = .opened
  attempt : csAttempt o.req.target < x.attempts

/-- The slot whose attempt has got the record. -/
def CommitSlot.withRecord (x : CommitSlot) (o : Operation) : CommitSlot :=
  let a := csAttempt o.req.target
  { x with staged := Store.write 0 x.staged a (Store.read 0 x.staged a + (csRecord o).length) }

theorem CommitSlot.ne_of_opened (h : x.state = .opened) : x ≠ {} := by
  rintro rfl
  cases h

theorem execCsPut_of_nospace (h : Puts s o n x)
    (hfull : x.stageBytes < Store.read 0 x.staged (csAttempt o.req.target) + (csRecord o).length) :
    exec (.csPut o) s = .next (csNo s.begin o .nospace .capacity) := by
  obtain ⟨hslot, hlen, hmax, hregion, hopen, hattempt⟩ := h
  refine congrArg Host.Outcome.next ((csOn_of_onSlot _ hslot).trans ?_)
  dsimp only
  rw [if_neg (by omega), if_neg (by omega), if_neg (by simp [hopen]), if_neg (by omega)]
  exact if_pos hfull

theorem execCsPut_of_staged {off : Nat} (h : Puts s o n x)
    (hfits : Store.read 0 x.staged (csAttempt o.req.target) + (csRecord o).length ≤ x.stageBytes)
    (hoff : off = addrOffset x.stageAddr + csAttempt o.req.target * x.stageBytes + Store.read 0 x.staged (csAttempt o.req.target))
    (hcheck : s.poolCheck off (csRecord o).length x.tenant none .stage = none)
    (hclean : s.firstPoison off (csRecord o).length = none) :
    exec (.csPut o) s = .next (((s.begin.serviceWrite off (csRecord o) x.tenant .stage).2.setCslot n (x.withRecord o)).respond o.req o.op
      (served)) := by
  obtain ⟨hslot, hlen, hmax, hregion, hopen, hattempt⟩ := h
  obtain ⟨e, hpart⟩ := partAt_of_poolCheck (s := s.begin) hcheck
  have hok := serviceWrite_ok (s := s.begin) hcheck hclean
  refine congrArg Host.Outcome.next ((csOn_of_onSlot _ hslot).trans ?_)
  dsimp only
  rw [if_neg (by omega), if_neg (by omega), if_neg (by simp [hopen]), if_neg (by omega)]
  refine (if_neg (Nat.not_lt.mpr hfits)).trans ?_
  rw [← hoff, hpart]
  exact (if_pos hok :)

theorem setCslot_keeps (s : State) (n : Nat) (x : CommitSlot) : Keeps [.faults] s (s.setCslot n x) := Keeps.refl _ s

/-- A record that fits is appended. -/
theorem gives_csPut_staged {off : Nat} (h : Puts s o n x)
    (hfits : Store.read 0 x.staged (csAttempt o.req.target) + (csRecord o).length ≤ x.stageBytes)
    (hoff : off = addrOffset x.stageAddr + csAttempt o.req.target * x.stageBytes + Store.read 0 x.staged (csAttempt o.req.target))
    (hcheck : s.poolCheck off (csRecord o).length x.tenant none .stage = none)
    (hclean : s.firstPoison off (csRecord o).length = none) (hbytes : BytesCanonical s) :
    Gives (.csPut o) s (fun t => StoresMem s t off (csRecord o) ∧
      Store.read 0 (t.cslot n).staged (csAttempt o.req.target) =
        Store.read 0 x.staged (csAttempt o.req.target) + (csRecord o).length ∧
      Answered t o.req o.op (fun a => decide (a.status = .ok)) = true) := by
  have hlen := csRecord_length o
  have hanswer := respond_keeps ((s.begin.serviceWrite off (csRecord o) x.tenant .stage).2.setCslot n (x.withRecord o)) o.req o.op
    (served) .hub
  have hslot := setCslot_keeps (s.begin.serviceWrite off (csRecord o) x.tenant .stage).2 n (x.withRecord o)
  refine ⟨_, execCsPut_of_staged h hfits hoff hcheck hclean, storesMem_of_mem hbytes ?_ ?_, ?_, ?_⟩
  · rw [hanswer.mem (by decide), hslot.mem (by decide)]
    exact serviceWrite_mem (s := s.begin) hcheck hclean (List.ne_nil_of_length_pos (by omega))
  · rw [hanswer.sram (by decide), hslot.sram (by decide), (serviceWrite_keeps _ _ _ _ _).sram (by decide)]
    rfl
  · have hread := read_write_self (d := ({} : CommitSlot)) (s.begin.serviceWrite off (csRecord o) x.tenant .stage).2.faults.slots n
      (CommitSlot.ne_of_opened (x := x.withRecord o) h.opened)
    rw [State.cslot, hanswer.faults (by decide)]
    refine (congrArg (fun y : CommitSlot => Store.read 0 y.staged (csAttempt o.req.target)) hread).trans ?_
    exact read_write_self x.staged _ (v := Store.read 0 x.staged (csAttempt o.req.target) + (csRecord o).length) (by omega)
  · exact answered_served _ _ _ h.slot.2.2.1 fun a hst _ => by simp [hst]

/-- One that would pass STAGE_BYTES stages nothing. -/
theorem gives_csPut_nospace (h : Puts s o n x)
    (hfull : x.stageBytes < Store.read 0 x.staged (csAttempt o.req.target) + (csRecord o).length) :
    Gives (.csPut o) s (fun t =>
      Answered t o.req o.op (fun a => decide (a.disp = .refused ∧ a.status = .nospace ∧ a.reason = .capacity)) = true ∧
      NoStore s t ∧ t.faults.slots = s.faults.slots) := by
  have hkeeps : Keeps [.remote, .dict, .freeCounter] s (csNo s.begin o .nospace .capacity) := Keeps.of_begin (respond_keeps _ _ _ _ _)
  exact ⟨_, execCsPut_of_nospace h hfull, answered_refusal _ _ _ _ (by decide), hkeeps.noStore (by simp) (by simp),
    congrArg FaultsState.slots (hkeeps.faults (by decide))⟩

/-- Settles O15: a CS_PUT to an OPEN slot is followed to its write, or to its refusal. -/
theorem stagedPutsAppendOrAreRefused : Obligations.StagedPutsAppendOrAreRefused := by
  refine ⟨fun s o n off x hslot hlen hmax hregion hopen hattempt hfits hoff hcheck hclean hbytes => ?_,
    fun s o n x hslot hlen hmax hregion hopen hattempt hfull => ?_⟩
  · rw [← csRecord_length] at hfits hcheck hclean ⊢
    exact gives_csPut_staged ⟨hslot, hlen, hmax, hregion, hopen, hattempt⟩ hfits hoff hcheck hclean hbytes
  · rw [← csRecord_length] at hfull
    exact gives_csPut_nospace ⟨hslot, hlen, hmax, hregion, hopen, hattempt⟩ hfull

end Sys2Proof.Machine
end

/-! # What ends with a channel, a port or the package

Sitting of the families 16_power_clocks_reset and 17_faults_service, the layer that O55, O56 and O58 rest on. `Serves σ s` says what is left
alone by the work on requests that end: the channels of the pool, the fault log, and the counters of the boot (0x2300). -/

section
namespace Sys2Proof.Machine

/-! ### The relation -/

/-- The parts that requests which are served, or which end, may change. -/
abbrev servedParts : List Part := [.mem, .sram, .dict, .remote, .traffic, .pool, .mgmt, .faults, .freeCounter]

/-- What the work on requests keeps between `σ` and `s`. -/
structure Serves (σ s : State) : Prop where
  keeps : Keeps servedParts σ s
  /-- of chapter 17 only the checkpoints -/
  faults : s.faults = { σ.faults with ckpts := s.faults.ckpts }
  channels : s.pool.channels = σ.pool.channels
  /-- the counters of the boot and of the fuses (R542, R546) -/
  bootCounts : ∀ j, j / 256 = 0x2300 → s.num j 0 = σ.num j 0

variable {σ s : State}

theorem Serves.refl (s : State) : Serves s s := ⟨Keeps.refl _ _, rfl, rfl, fun _ _ => rfl⟩

theorem Serves.trans {t : State} (h : Serves σ s) (g : Serves s t) : Serves σ t :=
  ⟨h.keeps.trans g.keeps, by rw [g.faults, h.faults], g.channels.trans h.channels,
    fun j hj => (g.bootCounts j hj).trans (h.bootCounts j hj)⟩

theorem Serves.put {out freeCounter mem sram remote traffic mgmt} (hs : Serves σ s) :
    Serves σ { s with out, freeCounter, mem, sram, remote, traffic, mgmt } :=
  hs.trans ⟨Keeps.refl _ s, rfl, rfl, fun _ _ => rfl⟩

theorem Serves.putPool {parts pages poison moves queued hintWaits mapHeld nextRelease initDone} (hs : Serves σ s) :
    Serves σ { s with pool := { s.pool with
      parts, pages, poison, moves, queued, hintWaits, mapHeld, nextRelease, initDone } } :=
  hs.trans ⟨Keeps.refl _ s, rfl, rfl, fun _ _ => rfl⟩

theorem Serves.setCkpt {c k} (hs : Serves σ s) : Serves σ (s.setCkpt c k) :=
  hs.trans ⟨Keeps.refl _ s, rfl, rfl, fun _ _ => rfl⟩

theorem Serves.setNum {k v} (hs : Serves σ s) (hk : k / 256 ≠ 0x2300) : Serves σ (s.setNum k v) :=
  hs.trans ⟨Keeps.refl _ s, rfl, rfl, fun _ hj => num_setNum_ne _ _ _ fun h => hk (h ▸ hj)⟩

theorem Serves.ite {c : Prop} {_ : Decidable c} {t u : State} (ht : Serves σ t) (hu : Serves σ u) : Serves σ (if c then t else u) := by
  split <;> assumption

theorem Serves.ite_snd {α : Type} {c : Prop} {_ : Decidable c} {t u : α × State} (ht : Serves σ t.2) (hu : Serves σ u.2) :
    Serves σ (if c then t else u).2 := by
  split <;> assumption

theorem Serves.foldl {α : Type} {f : State → α → State} {l : List α} (hs : Serves σ s)
    (hf : ∀ {t a}, Serves σ t → Serves σ (f t a)) : Serves σ (l.foldl f s) := by
  induction l generalizing s with
  | nil => exact hs
  | cons a l ih => exact ih (hf hs)

/-! ### Counters and answers -/

theorem Serves.begin (hs : Serves σ s) : Serves σ s.begin := hs.put
theorem Serves.emit {m} (hs : Serves σ s) : Serves σ (s.emit m) := hs.put
theorem Serves.free {n} (hs : Serves σ s) : Serves σ (s.free n).2 := hs.put
theorem Serves.bumpN {k n} (hs : Serves σ s) (hk : k / 256 ≠ 0x2300) : Serves σ (s.bumpN k n) := hs.ite (hs.setNum hk)
theorem Serves.bump {k} (hs : Serves σ s) (hk : k / 256 ≠ 0x2300) : Serves σ (s.bump k) := hs.bumpN hk
theorem Serves.bump32 {k} (hs : Serves σ s) (hk : k / 256 ≠ 0x2300) : Serves σ (s.bump32 k) := hs.setNum hk
theorem Serves.memWrite {off bs} (hs : Serves σ s) : Serves σ (s.memWrite off bs) := hs.put
theorem Serves.sramWrite {off bs} (hs : Serves σ s) : Serves σ (s.sramWrite off bs) := hs.put
theorem Serves.setQueue {q c} (hs : Serves σ s) : Serves σ (s.setQueue q c) := hs.put
theorem Serves.setSync {n o} (hs : Serves σ s) : Serves σ (s.setSync n o) := hs.put

theorem Serves.countDeferral {tenant} {r : Reason} (hs : Serves σ s) : Serves σ (s.countDeferral tenant r) :=
  hs.ite (hs.bump (by omega))
theorem Serves.countRefusal {tenant} {r : Reason} (hs : Serves σ s) : Serves σ (s.countRefusal tenant r) :=
  hs.ite (hs.bump (by omega))
theorem Serves.meter {tenant sub n} (hs : Serves σ s) : Serves σ (s.meter tenant sub n) := (hs.bumpN (by omega)).ite hs
theorem Serves.markInjected {a} (hs : Serves σ s) : Serves σ (s.markInjected a).2 := (hs.bump (by decide)).ite hs

/-- An operation on the tables of chapter 2 alone. -/
theorem Serves.ofRemote {t : State} (hs : Serves σ s) (ht : Keeps [.remote] s t) : Serves σ t :=
  hs.trans ⟨ht.mono (by decide), by rw [ht.faults (by decide)], congrArg PoolState.channels (ht.pool (by decide)),
    fun _ _ => num_eq (ht.dict (by decide))⟩

theorem Serves.closeOp {i posted id} (hs : Serves σ s) : Serves σ (s.closeOp i posted id) := hs.ofRemote (closeOp_keeps _ _ _ _)
theorem Serves.openOp {r op} (hs : Serves σ s) : Serves σ (s.openOp r op) := hs.ofRemote (openOp_keeps _ _ _)
theorem Serves.clearSticky {i} (hs : Serves σ s) : Serves σ (s.clearSticky i) := hs.ofRemote (clearSticky_keeps _ _)

theorem Serves.respondCore {r op a0 q} (hs : Serves σ s) : Serves σ (s.respondCore r op a0 q) := by
  unfold State.respondCore
  extract_lets +onlyGivenNames _ _ s1
  have hs1 : Serves σ s1 := hs.markInjected.countRefusal.ite hs.markInjected
  exact hs1.emit.put.ite ((hs1.closeOp.ite hs1.emit.put).ite hs1.closeOp.emit.put)

theorem Serves.endWaitCore {w st} (hs : Serves σ s) : Serves σ (s.endWaitCore w st) := hs.put.respondCore
theorem Serves.retest {n} (hs : Serves σ s) : Serves σ (s.retest n) := by
  unfold State.retest; exact hs.foldl .endWaitCore
theorem Serves.updateCore {n v i} (hs : Serves σ s) : Serves σ (s.updateCore n v i) := hs.setSync.put.retest
theorem Serves.endFence {f} (hs : Serves σ s) : Serves σ (s.endFence f) := (hs.ite hs.clearSticky).respondCore
theorem Serves.endNotify {p} (hs : Serves σ s) : Serves σ (s.endNotify p) := hs.updateCore.respondCore

theorem Serves.wakeN {n} (hs : Serves σ s) : Serves σ (State.wakeN n s) := by
  induction n generalizing s with
  | zero => exact hs
  | succ n ih =>
    unfold State.wakeN
    split
    · exact ih hs.put.endFence
    · split
      · exact ih hs.put.endNotify
      · exact hs

theorem Serves.wake (hs : Serves σ s) : Serves σ s.wake := hs.wakeN
theorem Serves.respond {r op a q} (hs : Serves σ s) : Serves σ (s.respond r op a q) := hs.respondCore.wake
theorem Serves.syncUpdate {n v i} (hs : Serves σ s) : Serves σ (s.syncUpdate n v i) := hs.updateCore.wake
theorem Serves.startNotify {r op n amount nodeOnly} (hs : Serves σ s) : Serves σ (s.startNotify r op n amount nodeOnly) :=
  hs.endNotify.wake.ite hs.put.openOp
theorem Serves.notifyAddr {addr tc i amount} (hs : Serves σ s) : Serves σ (s.notifyAddr addr tc i amount).2 :=
  hs.ite_snd ((hs.ite_snd (hs.ite_snd hs.syncUpdate)).ite_snd hs.emit)

/-! ### Events -/

theorem Serves.setVector {v x} (hs : Serves σ s) : Serves σ (s.setVector v x) := hs.put
theorem Serves.sendEvent {mask seqs} (hs : Serves σ s) : Serves σ (s.sendEvent mask seqs) := hs.foldl fun hu => hu.emit.put

theorem Serves.deliverOther {x} (hs : Serves σ s) : Serves σ (s.deliverOther x) := by
  unfold State.deliverOther
  extract_lets +onlyGivenNames _ s1
  have hs1 : Serves σ s1 := hs.ite (hs.notifyAddr.ite (hs.notifyAddr.bump (by decide)))
  exact hs1.emit.ite hs1

theorem Serves.event {vector source kind st arg injection} (hs : Serves σ s) :
    Serves σ (s.event vector source kind st arg injection) := by
  have hlog : ∀ {m n}, Serves σ (State.bumpN { s with mgmt := m } O.eventsDropped n) := hs.put.bumpN (by decide)
  unfold State.event
  refine hlog.ite (hlog.sendEvent.deliverOther.ite ?_)
  dsimp only
  split <;> exact hlog.setVector

theorem Serves.eventOpen {vector source st arg injected} (hs : Serves σ s) : Serves σ (s.eventOpen vector source st arg injected) :=
  hs.free.event

/-! ### The pool -/

theorem Serves.setPart {n p} (hs : Serves σ s) : Serves σ (s.setPart n p) := hs.putPool
theorem Serves.setPage {n p r} (hs : Serves σ s) : Serves σ (s.setPage n p r) := hs.putPool
theorem Serves.setPoison {b v} (hs : Serves σ s) : Serves σ (s.setPoison b v) := hs.putPool

theorem Serves.touchPage {n p} (hs : Serves σ s) : Serves σ (s.touchPage n p) := by
  unfold State.touchPage
  split
  · exact hs
  · exact hs.setPage.putPool.ite hs.setPage

theorem Serves.touchRange {n p off len tenant write} (hs : Serves σ s) : Serves σ (s.touchRange n p off len tenant write) :=
  hs.ite (hs.foldl fun hu => hu.touchPage.meter)

theorem Serves.writeBlocks {ok off bs n} (hs : Serves σ s) : Serves σ (s.writeBlocks ok off bs n).2 := by
  induction n generalizing s ok off bs with
  | zero => exact hs
  | succ n ih =>
    unfold State.writeBlocks
    split
    · exact hs
    · exact ih (hs.ite (hs.memWrite.setPoison.ite hs.memWrite))

theorem Serves.poolWrite {off bs} (hs : Serves σ s) : Serves σ (s.poolWrite off bs).2 := by
  unfold State.poolWrite
  split
  · exact hs.memWrite
  · exact hs.writeBlocks

theorem Serves.ckptKeep {n first count} (hs : Serves σ s) : Serves σ (s.ckptKeep n first count) := by
  unfold State.ckptKeep
  refine hs.foldl fun hu => ?_
  split
  · unfold State.ckptCopy
    exact hu.setCkpt
  · exact hu

theorem Serves.serviceWrite {off bs tenant use} (hs : Serves σ s) : Serves σ (s.serviceWrite off bs tenant use).2 := by
  unfold State.serviceWrite
  split
  · exact hs
  · split
    · exact hs
    · exact hs.ite_snd hs.ckptKeep.poolWrite.touchRange

theorem Serves.writeLocal {i tc addr bs} (hs : Serves σ s) : Serves σ (s.writeLocal i tc addr bs).2 := by
  unfold State.writeLocal
  refine hs.ite_snd (hs.ite_snd ?_)
  refine hs.serviceWrite.ite_snd (.ite_snd ?_ hs.emit)
  split
  · exact hs
  · exact hs.sramWrite

theorem Serves.setInChannel {c l} (hs : Serves σ s) : Serves σ (s.setInChannel c l) := hs.put

theorem Serves.poolEffect {o} (hs : Serves σ s) : Serves σ (s.poolEffect o).2.2.2 := by
  unfold State.poolEffect
  dsimp only
  split
  · exact hs
  · split
    · split
      · exact hs
      · split
        · exact hs
        · exact hs.memWrite
    · exact hs.poolWrite

theorem Serves.performPool {r} (hs : Serves σ s) : Serves σ (s.performPool r) := by
  unfold State.performPool
  dsimp only
  split
  · exact hs.respond
  · split
    · exact hs.putPool.countDeferral
    · split
      · exact hs.setCkpt.countDeferral
      · exact hs.poolEffect.touchRange.setInChannel

theorem Serves.releasePool {o defer} (hs : Serves σ s) : Serves σ (s.releasePool o defer) := hs.put.performPool
theorem Serves.releaseHeld {l} (hs : Serves σ s) : Serves σ (s.releaseHeld l) := hs.foldl .releasePool

/-! ### Requests that end (R92, R318) -/

theorem Serves.revertBlocks {d} (hs : Serves σ s) : Serves σ (s.revertBlocks d) := hs.foldl fun hu => (hu.memWrite.ite hu).put

theorem Serves.endAccess {o a defer load} (hs : Serves σ s) : Serves σ (s.endAccess o a defer load) := by
  unfold State.endAccess
  extract_lets +onlyGivenNames w
  have hw : Serves σ w.2 := hs.ite_snd hs.writeLocal
  exact (hw.startNotify.ite hw.respond).ite hw.respond

theorem partCount_index (n : Nat) {sub : Nat} : ((0x4000 + n) * 256 + sub) / 256 ≠ 0x2300 := by omega

theorem Serves.tierErrors {n} (hs : Serves σ s) : Serves σ (s.bump (O.partTierErrors n)) := hs.bump (partCount_index n)

theorem Serves.finishPool {d a load} (hs : Serves σ s) : Serves σ (s.finishPool d a load) := by
  unfold State.finishPool
  extract_lets +onlyGivenNames s1
  have hs1 : Serves σ s1 := by
    unfold s1
    refine .ite ?_ hs
    split
    · exact hs.tierErrors
    · exact hs
  exact hs1.endAccess

theorem Serves.failReq {ch d a} (hs : Serves σ s) : Serves σ (s.failReq ch d a) := hs.setInChannel.revertBlocks.finishPool

/-! ### Moves and hints (R307) -/

theorem Serves.markShort {w} (hs : Serves σ s) : Serves σ (s.markShort w) := by
  unfold State.markShort
  split
  · exact hs
  · exact hs.putPool

theorem Serves.endHints (hs : Serves σ s) : Serves σ s.endHints := hs.foldl fun hu => hu.putPool.respond

theorem Serves.cancelMove {m} (hs : Serves σ s) : Serves σ (s.cancelMove m) :=
  (hs.putPool.setPart.bump (partCount_index _)).releaseHeld.markShort.endHints

theorem Serves.failPage {n pg r} (hs : Serves σ s) : Serves σ (s.failPage n pg r) := by
  unfold State.failPage
  dsimp only
  split
  · exact hs.setPage
  · exact (hs.setPage.putPool.setPart.markShort.foldl fun hu => hu.tierErrors.respond).endHints

/-! ### Faults (R552) -/

/-- The record is in the log, and its event is sent. -/
theorem fault_serves (s : State) (code source arg action : Nat) (st : Status) (entry0 : Option Nat) :
    ∃ log, Serves { s with faults := { s.faults with seq := s.faults.seq + 1, log := log, lastCode := code } }
      (s.fault code source arg action st entry0) :=
  ⟨_, .event ((Serves.refl _).ite ((Serves.refl _).bump (by decide)))⟩

theorem fault_seq (s : State) (code source arg action : Nat) (st : Status) (entry0 : Option Nat) :
    (s.fault code source arg action st entry0).faults.seq = s.faults.seq + 1 := by
  obtain ⟨_, h⟩ := fault_serves s code source arg action st entry0
  rw [h.faults]

theorem fault_lastCode (s : State) (code source arg action : Nat) (st : Status) (entry0 : Option Nat) :
    (s.fault code source arg action st entry0).faults.lastCode = code := by
  obtain ⟨_, h⟩ := fault_serves s code source arg action st entry0
  rw [h.faults]

theorem fault_bootCounts (s : State) (code source arg action : Nat) (st : Status) (entry0 : Option Nat) {j : Nat}
    (hj : j / 256 = 0x2300) : (s.fault code source arg action st entry0).num j 0 = s.num j 0 := by
  obtain ⟨_, h⟩ := fault_serves s code source arg action st entry0
  exact h.bootCounts j hj

/-! ### Parts that a frame does not name -/

theorem Keeps.chip {c : List Part} {t : State} (h : Keeps c s t) (hc : .chip ∉ c) : t.chip = s.chip := by
  have := keeps_iff.mp h .chip
  simpa [hc, Part.same] using this

theorem Keeps.ftc {c : List Part} {t : State} (h : Keeps c s t) (hc : .ftc ∉ c) : t.ftc = s.ftc := by
  have := keeps_iff.mp h .ftc
  simpa [hc, Part.same] using this

theorem Keeps.florets {c : List Part} {t : State} (h : Keeps c s t) (hc : .florets ∉ c) : t.florets = s.florets := by
  have := keeps_iff.mp h .florets
  simpa [hc, Part.same] using this

theorem Keeps.mgmt {c : List Part} {t : State} (h : Keeps c s t) (hc : .mgmt ∉ c) : t.mgmt = s.mgmt := by
  have := keeps_iff.mp h .mgmt
  simpa [hc, Part.same] using this

/-! ### A channel that fails (R318) -/

theorem chan_eq {t : State} {c : Nat} (hchip : t.chip = s.chip)
    (h : Store.read ({} : Channel) t.pool.channels c = Store.read {} s.pool.channels c) : t.chan c = s.chan c := by
  unfold State.chan State.chanFrames
  rw [hchip, h]

theorem chanAbsent_eq {t : State} {c : Nat} (hchip : t.chip = s.chip) : t.chanAbsent c = s.chanAbsent c := by
  simp only [State.chanAbsent, State.present, hchip]

/-- The channel is FAILED, the requests with a page on it end, and a record is made; nothing else is written of any channel. -/
theorem channelFailed_of_live {ch : Nat} (h : ¬ ((s.chan ch).state = .failed ∨ (s.chan ch).state = .empty ∨ s.chanAbsent ch = true)) :
    ∃ x u, x.state = .failed ∧ Serves (s.setChan ch x) u ∧ s.channelFailed ch = u.fault 0x10 (u.path (channelLoc ch)) ch := by
  unfold State.channelFailed
  rw [if_neg h]
  extract_lets +onlyGivenNames s0 s1 s2 _ s3 s4
  refine ⟨{ Store.read ({} : Channel) s.pool.channels ch with state := .failed, free := 0, retraining := false }, s4, rfl, ?_, rfl⟩
  have hs2 : Serves s0 s2 := by
    unfold s2
    refine ((Serves.refl s0).foldl .cancelMove).foldl fun hu => ?_
    split
    · exact hu.failPage.ite hu
    · exact hu
  exact hs2.putPool.foldl fun hu => hu.foldl .failReq

theorem channelFailed_of_gone {ch : Nat} (h : (s.chan ch).state = .failed ∨ (s.chan ch).state = .empty ∨ s.chanAbsent ch = true) :
    s.channelFailed ch = s := if_pos h

theorem channelFailed_keeps (s : State) (ch : Nat) : Keeps servedParts s (s.channelFailed ch) := by
  by_cases h : (s.chan ch).state = .failed ∨ (s.chan ch).state = .empty ∨ s.chanAbsent ch = true
  · rw [channelFailed_of_gone h]
    exact Keeps.refl _ _
  · obtain ⟨x, u, -, hu, hfault⟩ := channelFailed_of_live h
    rw [hfault]
    exact ((setChan_keeps s ch x).mono (by decide)).trans (hu.keeps.trans ((fault_keeps _ _ _ _ _ _ _).mono (by decide)))

theorem channelFailed_bootCounts (s : State) (ch : Nat) {j : Nat} (hj : j / 256 = 0x2300) :
    (s.channelFailed ch).num j 0 = s.num j 0 := by
  by_cases h : (s.chan ch).state = .failed ∨ (s.chan ch).state = .empty ∨ s.chanAbsent ch = true
  · rw [channelFailed_of_gone h]
  · obtain ⟨x, u, -, hu, hfault⟩ := channelFailed_of_live h
    rw [hfault, fault_bootCounts _ _ _ _ _ _ _ hj, hu.bootCounts j hj]
    rfl

theorem Channel.ne_of_failed {x : Channel} (h : x.state = .failed) : x ≠ {} := by
  rintro rfl
  cases h

/-- The channel itself, where it is there and holds frames. -/
theorem channelFailed_state {ch : Nat} (habsent : s.chanAbsent ch = false) (hempty : (s.chan ch).state ≠ .empty) :
    ((s.channelFailed ch).chan ch).state = .failed := by
  by_cases h : (s.chan ch).state = .failed ∨ (s.chan ch).state = .empty ∨ s.chanAbsent ch = true
  · rw [channelFailed_of_gone h]
    simpa [habsent, hempty] using h
  · have hchip := (channelFailed_keeps s ch).chip (by decide)
    obtain ⟨x, u, hx, hu, hfault⟩ := channelFailed_of_live h
    have hread : Store.read ({} : Channel) (s.channelFailed ch).pool.channels ch = x := by
      rw [hfault, (fault_keeps _ _ _ _ _ _ _).pool (by decide), hu.channels]
      exact read_write_self _ _ (Channel.ne_of_failed hx)
    have hframes : (decide (256 ≤ ch) && decide (s.chanFrames ch = 0)) = false := by
      rw [Bool.eq_false_iff]
      intro hno
      exact hempty (by simp [State.chan, hno])
    have hframes' : (s.channelFailed ch).chanFrames ch = s.chanFrames ch := by simp only [State.chanFrames, hchip]
    simp only [State.chan, hread, hframes', hframes, Bool.false_eq_true, if_false, hx]

/-- Every other channel. -/
theorem channelFailed_chan_ne {ch c : Nat} (hc : c ≠ ch) : (s.channelFailed ch).chan c = s.chan c := by
  by_cases h : (s.chan ch).state = .failed ∨ (s.chan ch).state = .empty ∨ s.chanAbsent ch = true
  · rw [channelFailed_of_gone h]
  · have hchip := (channelFailed_keeps s ch).chip (by decide)
    obtain ⟨x, u, hx, hu, hfault⟩ := channelFailed_of_live h
    have hread : Store.read ({} : Channel) (s.channelFailed ch).pool.channels c = Store.read {} s.pool.channels c := by
      rw [hfault, (fault_keeps _ _ _ _ _ _ _).pool (by decide), hu.channels]
      exact read_write_ne _ hc (Channel.ne_of_failed hx)
    exact chan_eq hchip hread

/-- A channel that has failed stays so while others fail. -/
theorem channelFailed_stays {ch c : Nat} (h : (s.chan c).state = .failed) : ((s.channelFailed ch).chan c).state = .failed := by
  by_cases hc : c = ch
  · rw [hc] at h ⊢
    rwa [channelFailed_of_gone (.inl h)]
  · rwa [channelFailed_chan_ne hc]

end Sys2Proof.Machine
end

/-! # Fault injection, the meters and the DIMM feed

Sitting of the family 17_faults_service: O58. The table of scheduled faults is written one entry at a time; an entry that has a KIND, or
that is armed, is never as at reset. What a firing does is read off `injectFire_of_effect`; the failing of channels is
`channelFailed_of_live`. -/

section
namespace Sys2Proof.Machine
variable {s t : State} {e : Nat}

/-! ### Entries (R559, R560) -/

theorem setInjection_keeps (s : State) (e : Nat) (x : InjectEntry) : Keeps [.faults] s (s.setInjection e x) := Keeps.refl _ s

theorem injection_eq (h : t.faults = s.faults) (e : Nat) : t.injection e = s.injection e := by
  rw [State.injection, h, ← State.injection]

theorem injection_setInjection_self (s : State) (e : Nat) {x : InjectEntry} (hx : x ≠ {}) : (s.setInjection e x).injection e = x :=
  read_write_self _ _ hx

theorem injection_setInjection_ne (s : State) {e f : Nat} {x : InjectEntry} (hx : x ≠ {}) (hf : f ≠ e) :
    (s.setInjection e x).injection f = s.injection f := read_write_ne _ hf hx

theorem InjectEntry.ne_of_armed {x : InjectEntry} (h : x.armed = true) : x ≠ {} := by
  rintro rfl
  cases h

theorem InjectEntry.ne_of_kind {x : InjectEntry} (h : x.kind ≠ 0) : x ≠ {} := by
  rintro rfl
  exact h rfl

theorem InjectEntry.ne_of_lastStatus {x : InjectEntry} (h : x.lastStatus ≠ .ok) : x ≠ {} := by
  rintro rfl
  exact h rfl

/-- The table that a write finds is the command's, whatever arm it ends. -/
theorem armSpent_faults (s : State) (a : Access) (addr : Nat) : (s.begin.armSpent a addr).faults = s.faults :=
  (armSpent_keeps s.begin a addr).faults (by decide)

/-- An entry that is armed: it fires first at its FIRST_FTC, COUNT times. -/
def InjectEntry.arm (x : InjectEntry) : InjectEntry := { x with armed := true, nextFtc := x.firstFtc, left := x.count }

theorem injectArm_of_check {p : DictPath} (h : s.injectCheck (s.injection (s.num O.injectSelect 0)) = none) :
    s.injectArm p = ((s.armSpent (.dict p) 0).setInjection (s.num O.injectSelect 0)
      (s.injection (s.num O.injectSelect 0)).arm).answer served := by
  unfold State.injectArm
  exact openWrite_accepted (by rw [h]; rfl) nofun

theorem injectCancel_eq (s : State) (p : DictPath) :
    s.injectCancel p = ((s.armSpent (.dict p) 0).setInjection (s.num O.injectSelect 0)
      { (s.armSpent (.dict p) 0).injection (s.num O.injectSelect 0) with armed := false }).answer served := by
  unfold State.injectCancel
  exact openWrite_accepted rfl nofun

theorem unitAt_eq (h : t.coords = s.coords) (p : Nat) : t.unitAt p = s.unitAt p := by
  have hpath : t.path = s.path := by
    funext l
    rw [State.path, h, ← State.path]
  rw [State.unitAt, hpath, ← State.unitAt]

/-- The check of an arm looks at nothing that an answer changes. -/
theorem injectCheck_begin (s : State) (x : InjectEntry) : s.begin.injectCheck x = s.injectCheck x := by
  have hunit : s.begin.unitAt x.target.toNat = s.unitAt x.target.toNat := unitAt_eq rfl _
  have hpresent : s.begin.present = s.present := rfl
  have hnum : s.begin.num = s.num := rfl
  unfold State.injectCheck
  rw [State.begin_ftc, hunit, hpresent, hnum]

theorem gives_injectArm {p : DictPath} (hrun : s.running = true) (hcheck : s.injectCheck (s.injection (s.num O.injectSelect 0)) = none) :
    Gives (.injectArm p) s (fun t => t.injection (s.num O.injectSelect 0) =
      { s.injection (s.num O.injectSelect 0) with
        armed := true, nextFtc := (s.injection (s.num O.injectSelect 0)).firstFtc, left := (s.injection (s.num O.injectSelect 0)).count } ∧
      (∀ e, e ≠ s.num O.injectSelect 0 → t.injection e = s.injection e) ∧ Answers t .ok ∧
      Keeps [.faults, .mgmt, .freeCounter] s t) := by
  refine gives_of_running hrun rfl (injectArm_of_check ((injectCheck_begin s _).trans hcheck)) ⟨?_, fun e he => ?_, rfl, Keeps.of_begin ?_⟩
  · exact injection_setInjection_self _ _ (InjectEntry.ne_of_armed rfl)
  · exact (injection_setInjection_ne _ (InjectEntry.ne_of_armed rfl) he).trans (injection_eq (armSpent_faults s _ _) e)
  · exact (((armSpent_keeps _ _ _).mono (by decide)).trans ((setInjection_keeps _ _ _).mono (by decide))).trans
      ((answer_keeps _ _ _).mono (by decide))

theorem gives_injectCancel {p : DictPath} (hrun : s.running = true) (hwf : Store.wf ({} : InjectEntry) s.faults.inject = true) :
    Gives (.injectCancel p) s (fun t =>
      t.injection (s.num O.injectSelect 0) = { s.injection (s.num O.injectSelect 0) with armed := false } ∧ Answers t .ok ∧
      Keeps [.faults, .mgmt, .freeCounter] s t) := by
  have hfaults := armSpent_faults s (.dict p) 0
  refine gives_of_running hrun rfl (injectCancel_eq s.begin p) ⟨?_, rfl, Keeps.of_begin ?_⟩
  · refine (Store.read_write_same (lo := 0) _ _ _ (hfaults ▸ hwf : Store.wf _ _ = true)).trans ?_
    exact congrArg (fun x : InjectEntry => { x with armed := false }) (injection_eq hfaults _)
  · exact (((armSpent_keeps _ _ _).mono (by decide)).trans ((setInjection_keeps _ _ _).mono (by decide))).trans
      ((answer_keeps _ _ _).mono (by decide))

/-! Every entry is disarmed. -/

/-- The entries of a list are disarmed, one after the other. -/
def State.disarm (s : State) (l : List Nat) : State :=
  l.foldl (fun (v : State) e => v.setInjection e { v.injection e with armed := false }) s

theorem disarm_keeps (s : State) (l : List Nat) : Keeps [.faults] s (s.disarm l) := Keeps.foldl (fun _ _ => setInjection_keeps _ _ _) _ _

theorem disarm_injection (l : List Nat) (s : State) (hwf : Store.wf ({} : InjectEntry) s.faults.inject = true) (e : Nat) :
    (s.disarm l).injection e = if e ∈ l then { s.injection e with armed := false } else s.injection e := by
  induction l generalizing s with
  | nil => rfl
  | cons a l ih =>
    refine (ih (s.setInjection a { s.injection a with armed := false }) (Store.wf_write _ _ _ hwf)).trans ?_
    by_cases hea : e = a
    · subst hea
      have hself : (s.setInjection e { s.injection e with armed := false }).injection e = { s.injection e with armed := false } :=
        Store.read_write_same (lo := 0) _ _ _ hwf
      simp [hself]
    · have hother : (s.setInjection a { s.injection a with armed := false }).injection e = s.injection e :=
        Store.read_write_other (lo := 0) _ _ _ _ hea hwf
      simp [hother, hea]

/-- A number that is not listed reads as at reset. -/
theorem read_of_not_listed {α : Type} {d : α} (a : Store α) (k : Nat) (h : k ∉ a.map (·.1)) : Store.read d a k = d := by
  induction a with
  | nil => rfl
  | cons x a ih =>
    obtain ⟨hx, ha⟩ := not_or.mp (mt List.mem_cons.mpr h)
    simp [Store.read, Ne.symm hx, ih ha]

theorem gives_injectDisable {p : DictPath} (hrun : s.running = true) (harm : s.dictArmed p 0x5800 = true)
    (hwf : Store.wf ({} : InjectEntry) s.faults.inject = true) :
    Gives (.injectDisable p) s (fun t => t.num O.injectEnable 0 = 0 ∧ (∀ e, t.injection e = { s.injection e with armed := false }) ∧
      Answers t .ok ∧ Keeps [.dict, .faults, .mgmt, .freeCounter] s t) := by
  have hfaults := armSpent_faults s (.dict p) 0
  have hkeys := disarm_keeps ((s.begin.armSpent (.dict p) 0).setNum O.injectEnable 0)
    ((s.begin.armSpent (.dict p) 0).faults.inject.map (·.1))
  have harm' : (if s.begin.dictArmed p 0x5800 then (none : Option Response) else some (refusal .locked)) = none := if_pos harm
  refine gives_of_running hrun rfl (openWrite_accepted (guarded := false) harm' nofun) ⟨?_, fun e => ?_, rfl, Keeps.of_begin ?_⟩
  · exact (num_eq (hkeys.dict (by decide))).trans (num_setNum_self _ _ _ _)
  · refine (disarm_injection _ ((s.begin.armSpent (.dict p) 0).setNum O.injectEnable 0) (hfaults ▸ hwf : Store.wf _ _ = true) e).trans ?_
    rw [injection_eq (s := s) (by exact hfaults), hfaults]
    split
    · rfl
    · next hnot =>
      have hreset : s.injection e = {} := read_of_not_listed _ _ hnot
      rw [hreset]
  · exact (answer_eff_keeps (c := [.dict, .faults]) (((setNum_keeps _ _ _).mono (by decide)).trans (hkeys.mono (by decide)))).mono (by decide)

/-! ### Firings (R559, R561) -/

theorem atFtc_now (s : State) (f : Nat) : (s.atFtc f).now = s.now + (f - s.ftc) := by
  unfold State.atFtc
  split
  · rw [elapse_now]
    omega
  · omega

theorem num_atFtc_ne (s : State) (f d : Nat) {j : Nat} (hj : j ≠ O.throttleTicks) : (s.atFtc f).num j d = s.num j d := by
  unfold State.atFtc
  split
  · exact num_elapse_ne _ _ _ hj
  · rfl

/-- The entry when it has fired, or was due to fire: the number left, and when it fires next. -/
def InjectEntry.next (x : InjectEntry) : InjectEntry :=
  { x with left := x.left - 1, armed := decide (0 < x.left - 1), nextFtc := x.nextFtc + usUnits x.intervalUs }

def InjectEntry.hasFired (x : InjectEntry) : InjectEntry := { x.next with fired := (x.fired + 1) % 2 ^ 32, lastStatus := .ok }
def InjectEntry.hasSkipped (x : InjectEntry) (st : Status) : InjectEntry :=
  { x.next with skipped := (x.skipped + 1) % 2 ^ 32, lastStatus := st }

theorem InjectEntry.next_armed (x : InjectEntry) : x.next.armed = decide (1 < x.left) := by
  simp only [InjectEntry.next, decide_eq_decide]
  omega

/-- The state in which an entry has its effect: at its FTC, with its firing counted. -/
def State.firing (s : State) (e : Nat) : State :=
  let u := (s.atFtc (s.injection e).nextFtc).setInjection e (s.injection e).hasFired
  { u with faults := { u.faults with firing := some e } }

/-- The state in which the effect is over. -/
def State.fired (s : State) : State := { s with faults := { s.faults with firing := none } }

theorem unitAt_atFtc (s : State) (f p : Nat) : (s.atFtc f).unitAt p = s.unitAt p :=
  unitAt_eq (num_atFtc_ne s f 0 (by decide)) p

theorem injectFire_of_effect {l : UnitLoc} {u : State} (harmed : (s.injection e).armed = true)
    (hunit : s.unitAt (s.injection e).target.toNat = some l) (heffect : (s.firing e).injectEffect (s.injection e) l = .ok u) :
    s.injectFire e = u.fired := by
  unfold State.injectFire
  simp only [harmed, Bool.not_true, Bool.false_eq_true, if_false, unitAt_atFtc, hunit]
  exact (congrArg (fun r : Except Status State => match r with
    | .error st => (s.atFtc (s.injection e).nextFtc).setInjection e ((s.injection e).hasSkipped st)
    | .ok t => t.fired) heffect :)

theorem injectFire_of_none (harmed : (s.injection e).armed = true) (hunit : s.unitAt (s.injection e).target.toNat = none) :
    s.injectFire e = (s.atFtc (s.injection e).nextFtc).setInjection e ((s.injection e).hasSkipped .param) := by
  unfold State.injectFire
  simp only [harmed, Bool.not_true, Bool.false_eq_true, if_false, unitAt_atFtc, hunit]
  rfl

theorem putFaults_keeps (s : State) (f : FaultsState) : Keeps [.faults] s { s with faults := f } := Keeps.refl _ s

theorem firing_keeps (s : State) (e : Nat) : Keeps [.now, .ftc, .dict, .faults] s (s.firing e) :=
  ((atFtc_keeps s _).mono (by decide)).trans (((setInjection_keeps _ _ _).mono (by decide)).trans ((putFaults_keeps _ _).mono (by decide)))

theorem fired_keeps (s : State) : Keeps [.faults] s s.fired := putFaults_keeps s _

/-- A firing keeps what waits at the units. -/
theorem firing_faults (s : State) (e : Nat) : (s.firing e).faults =
    { s.faults with inject := Store.write {} s.faults.inject e (s.injection e).hasFired, firing := some e } :=
  congrArg (fun f : FaultsState => { f with inject := Store.write {} f.inject e (s.injection e).hasFired, firing := some e })
    ((atFtc_keeps s (s.injection e).nextFtc).faults (by decide))

/-- What is known of the state in which an entry with a KIND has its effect. -/
structure Fires (s : State) (e : Nat) (u : State) : Prop where
  keeps : Keeps [.now, .ftc, .dict, .faults] s u
  now : u.now = s.now + ((s.injection e).nextFtc - s.ftc)
  injection : u.injection e = (s.injection e).hasFired
  linkReplay : u.faults.linkReplay = s.faults.linkReplay
  tierLate : u.faults.tierLate = s.faults.tierLate
  tierError : u.faults.tierError = s.faults.tierError

theorem firing_fires (h : (s.injection e).kind ≠ 0) : Fires s e (s.firing e) where
  keeps := firing_keeps s e
  now := atFtc_now s _
  injection := by
    rw [State.injection, firing_faults]
    exact read_write_self _ _ (InjectEntry.ne_of_kind (x := (s.injection e).hasFired) h)
  linkReplay := by rw [firing_faults]
  tierLate := by rw [firing_faults]
  tierError := by rw [firing_faults]

/-- A firing that is due, and what its effect gives. -/
theorem gives_injectFire {l : UnitLoc} {f : State → State} {P : State → Prop} (hrun : s.running = true)
    (harmed : (s.injection e).armed = true) (hkind : (s.injection e).kind ≠ 0)
    (hunit : s.unitAt (s.injection e).target.toNat = some l) (heffect : ∀ u : State, u.injectEffect (s.injection e) l = .ok (f u))
    (hp : ∀ u, Fires s.begin e u → P (f u).fired) : Gives (.injectFire e) s P :=
  gives_of_running hrun rfl (injectFire_of_effect (s := s.begin) harmed hunit (heffect _)) (hp _ (firing_fires (s := s.begin) hkind))

theorem injectEffect_linkReplay {x : InjectEntry} {p : Nat} (h : x.kind = 1) : s.injectEffect x (.port p) = .ok { s with faults :=
    { s.faults with linkReplay := s.faults.linkReplay.filter (fun e => decide (e.1 ≠ p)) ++ [(p, x.param)] } } := by
  cases x
  cases h
  rfl

theorem injectEffect_tierLate {x : InjectEntry} {d i : Nat} (h : x.kind = 4) : s.injectEffect x (.memCtl d i) = .ok { s with faults :=
    { s.faults with tierLate := s.faults.tierLate.filter (fun e => decide (e.1 ≠ unitIndex (.memCtl d i))) ++
        [(unitIndex (.memCtl d i), x.param, s.now + usUnits 100)] } } := by
  cases x
  cases h
  rfl

theorem injectEffect_tierError {x : InjectEntry} {d i : Nat} (h : x.kind = 5) : s.injectEffect x (.memCtl d i) = .ok { s with faults :=
    { s.faults with tierError := s.faults.tierError.filter (fun e => decide (e.1 ≠ unitIndex (.memCtl d i))) ++
        [(unitIndex (.memCtl d i), x.param, 0)] } } := by
  cases x
  cases h
  rfl

theorem injectEffect_sag {x : InjectEntry} {l : UnitLoc} (h : x.kind = 6) : s.injectEffect x l = .ok (s.injectSag x.param) := by
  cases x
  cases h
  rfl

theorem gives_injectFire_linkReplay {p : Nat} (hrun : s.running = true) (harmed : (s.injection e).armed = true)
    (hkind : (s.injection e).kind = 1) (hunit : s.unitAt (s.injection e).target.toNat = some (.port p)) :
    Gives (.injectFire e) s (fun t => t.injection e =
      { s.injection e with
        left := (s.injection e).left - 1, armed := decide (1 < (s.injection e).left)
        nextFtc := (s.injection e).nextFtc + usUnits (s.injection e).intervalUs
        fired := ((s.injection e).fired + 1) % 2 ^ 32, lastStatus := .ok } ∧
      t.faults.linkReplay = s.faults.linkReplay.filter (fun x => decide (x.1 ≠ p)) ++ [(p, (s.injection e).param)] ∧
      t.now = s.now + ((s.injection e).nextFtc - s.ftc) ∧ Keeps [.now, .ftc, .dict, .faults] s t) := by
  refine gives_injectFire hrun harmed (by rw [hkind]; decide) hunit (fun _ => injectEffect_linkReplay hkind) fun u hu =>
    ⟨?_, ?_, hu.now, Keeps.of_begin (hu.keeps.trans ((putFaults_keeps _ _).mono (by decide)))⟩
  · refine (hu.injection :).trans ?_
    rw [← InjectEntry.next_armed]
    rfl
  · exact congrArg (fun l => l.filter (fun x => decide (x.1 ≠ p)) ++ [(p, (s.injection e).param)]) hu.linkReplay

theorem gives_injectFire_tierLate {d i : Nat} (hrun : s.running = true) (harmed : (s.injection e).armed = true)
    (hkind : (s.injection e).kind = 4) (hunit : s.unitAt (s.injection e).target.toNat = some (.memCtl d i)) :
    Gives (.injectFire e) s (fun t =>
      t.faults.tierLate = s.faults.tierLate.filter (fun x => decide (x.1 ≠ unitIndex (.memCtl d i))) ++
        [(unitIndex (.memCtl d i), (s.injection e).param, t.now + usUnits 100)] ∧ Keeps [.now, .ftc, .dict, .faults] s t) := by
  refine gives_injectFire hrun harmed (by rw [hkind]; decide) hunit (fun _ => injectEffect_tierLate hkind) fun u hu =>
    ⟨?_, Keeps.of_begin (hu.keeps.trans ((putFaults_keeps _ _).mono (by decide)))⟩
  exact congrArg (fun l => l.filter (fun x => decide (x.1 ≠ unitIndex (.memCtl d i))) ++
    [(unitIndex (.memCtl d i), (s.injection e).param, u.now + usUnits 100)]) hu.tierLate

theorem gives_injectFire_tierError {d i : Nat} (hrun : s.running = true) (harmed : (s.injection e).armed = true)
    (hkind : (s.injection e).kind = 5) (hunit : s.unitAt (s.injection e).target.toNat = some (.memCtl d i)) :
    Gives (.injectFire e) s (fun t =>
      t.faults.tierError = s.faults.tierError.filter (fun x => decide (x.1 ≠ unitIndex (.memCtl d i))) ++
        [(unitIndex (.memCtl d i), (s.injection e).param, 0)] ∧ Keeps [.now, .ftc, .dict, .faults] s t) := by
  refine gives_injectFire hrun harmed (by rw [hkind]; decide) hunit (fun _ => injectEffect_tierError hkind) fun u hu =>
    ⟨?_, Keeps.of_begin (hu.keeps.trans ((putFaults_keeps _ _).mono (by decide)))⟩
  exact congrArg (fun l => l.filter (fun x => decide (x.1 ≠ unitIndex (.memCtl d i))) ++
    [(unitIndex (.memCtl d i), (s.injection e).param, 0)]) hu.tierError

/-! SAG. -/

theorem setPowerEvents_keeps (s : State) (b : BitVec 6) : Keeps [.power] s (s.setPowerEvents b) := Keeps.refl _ _

theorem powerEvent_keeps (s : State) : Keeps [.dict, .remote, .mgmt, .freeCounter] s s.powerEvent :=
  ((free_keeps _ _).mono (by decide)).trans ((eventOpen_keeps _ _ _ _ _ _).mono (by decide))

/-- A throttle that starts is counted and has its event. -/
def State.sagStarts (s : State) : State := if s.power.sag = .none then (s.bump O.sagThrottles).powerEvent else s

theorem sagStarts_keeps (s : State) : Keeps [.dict, .remote, .mgmt, .freeCounter] s s.sagStarts :=
  Keeps.ite (((bump_keeps _ _).mono (by decide)).trans (powerEvent_keeps _)) (Keeps.refl _ _)

theorem injectSag_eq (s : State) (us : Nat) : s.injectSag us =
    let u := (s.setPowerEvents 4).sagStarts
    { u with power := { u.power with sag := .inForce, calmSince := none, injectedSag := some (u.now + usUnits us) } } := rfl

theorem injectSag_power (s : State) (us : Nat) : (s.injectSag us).power =
    { s.power with
      events := s.power.events ||| 4, sag := .inForce, calmSince := none, injectedSag := some (s.now + usUnits us) } := by
  have hkeeps := sagStarts_keeps (s.setPowerEvents 4)
  rw [injectSag_eq]
  dsimp only
  rw [hkeeps.power (by decide), hkeeps.now (by decide)]
  rfl

theorem injectSag_keeps (s : State) (us : Nat) : Keeps [.power, .dict, .remote, .mgmt, .freeCounter] s (s.injectSag us) := by
  have hstarts := ((setPowerEvents_keeps s 4).mono (by decide)).trans ((sagStarts_keeps (s.setPowerEvents 4)).mono
    (d := [.power, .dict, .remote, .mgmt, .freeCounter]) (by simp))
  rw [injectSag_eq]
  generalize (s.setPowerEvents 4).sagStarts = u at hstarts ⊢
  exact hstarts.trans ((putPower_keeps u _).mono (by decide))

theorem gives_injectFire_sag {l : UnitLoc} (hrun : s.running = true) (harmed : (s.injection e).armed = true)
    (hkind : (s.injection e).kind = 6) (hunit : s.unitAt (s.injection e).target.toNat = some l) :
    Gives (.injectFire e) s (fun t => t.power.sag = .inForce ∧ t.power.injectedSag = some (t.now + usUnits (s.injection e).param) ∧
      t.power.events.getLsbD 2 = true ∧ (t.injection e).fired = ((s.injection e).fired + 1) % 2 ^ 32 ∧
      Keeps [.now, .ftc, .dict, .power, .remote, .mgmt, .faults, .freeCounter] s t) := by
  refine gives_injectFire hrun harmed (by rw [hkind]; decide) hunit (fun _ => injectEffect_sag hkind) fun u hu => ?_
  have hsag := injectSag_keeps u (s.injection e).param
  have hpower := injectSag_power u (s.injection e).param
  generalize u.injectSag (s.injection e).param = v at hsag hpower ⊢
  refine ⟨(congrArg PowerState.sag hpower :), ?_, ?_, ?_, Keeps.of_begin ?_⟩
  · refine (congrArg PowerState.injectedSag hpower :).trans ?_
    rw [← hsag.now (by decide)]
    rfl
  · rw [show v.fired.power.events = u.power.events ||| 4 from congrArg PowerState.events hpower]
    simp
  · have hinjection : v.fired.injection e = u.injection e :=
      (congrArg (fun f : FaultsState => Store.read ({} : InjectEntry) f.inject e) (hsag.faults (by decide)) :)
    exact congrArg InjectEntry.fired (hinjection.trans hu.injection)
  · exact (hu.keeps.mono (by decide)).trans ((hsag.mono (by decide)).trans ((fired_keeps _).mono (by decide)))

theorem gives_injectFire_skipped (hrun : s.running = true) (harmed : (s.injection e).armed = true)
    (hunit : s.unitAt (s.injection e).target.toNat = none) :
    Gives (.injectFire e) s (fun t => (t.injection e).skipped = ((s.injection e).skipped + 1) % 2 ^ 32 ∧
      (t.injection e).fired = (s.injection e).fired ∧ (t.injection e).lastStatus = .param ∧
      (t.injection e).armed = decide (1 < (s.injection e).left) ∧ Keeps [.now, .ftc, .dict, .faults] s t) := by
  have hread : ((s.begin.atFtc (s.injection e).nextFtc).setInjection e ((s.injection e).hasSkipped .param)).injection e =
      (s.injection e).hasSkipped .param := injection_setInjection_self _ _ (InjectEntry.ne_of_lastStatus nofun)
  refine gives_of_running hrun rfl (injectFire_of_none (s := s.begin) harmed hunit) ⟨?_, ?_, ?_, ?_, Keeps.of_begin ?_⟩
  · exact (congrArg InjectEntry.skipped hread :)
  · exact (congrArg InjectEntry.fired hread :)
  · exact (congrArg InjectEntry.lastStatus hread :)
  · exact (congrArg InjectEntry.armed hread).trans (InjectEntry.next_armed _)
  · exact ((atFtc_keeps _ _).mono (by decide)).trans ((setInjection_keeps _ _ _).mono (by decide))

/-! ### Meters (R500, R573) -/

theorem num_bumpN_mod (s : State) (k n : Nat) : (s.bumpN k n).num k 0 % 2 ^ 64 = (s.num k 0 + n) % 2 ^ 64 := by
  unfold State.bumpN
  split
  · next hn => rw [hn, Nat.add_zero]
  · rw [num_setNum_self, Nat.mod_mod]

/-- A meter of allocations, while they are in force. -/
theorem meter_of_mode {k sub n : Nat} (hk : k < 65) (h : Store.read 0 s.faults.meterMode k = 0) :
    s.meter k sub n = s.bumpN ((0x5C01 + k) * 256 + sub) n := by
  unfold State.meter
  rw [ownerIx_of_lt hk]
  exact if_pos h

/-- What an owner's sample counts, whatever the meters hold. -/
structure SameSample (s t : State) (k : Nat) : Prop where
  holds : t.meterHolds k = s.meterHolds k
  mode : t.faults.meterMode = s.faults.meterMode
  frames : t.framesOf k = s.framesOf k
  entries : t.entriesOf k = s.entriesOf k
  clusters : t.clusterOwner = s.clusterOwner
  cells : t.quotaCells k = s.quotaCells k
  counts : ∀ j, j / 256 = 0x5C01 + k → t.num j 0 = s.num j 0

theorem SameSample.trans {u : State} {k : Nat} (h : SameSample s t k) (g : SameSample t u k) : SameSample s u k :=
  ⟨g.holds.trans h.holds, g.mode.trans h.mode, g.frames.trans h.frames, g.entries.trans h.entries, g.clusters.trans h.clusters,
    g.cells.trans h.cells, fun j hj => (g.counts j hj).trans (h.counts j hj)⟩

/-- What changes no more than time and objects of other owners leaves the sample. -/
theorem sameSample_of_keeps {k : Nat} (h : Keeps [.now, .ftc, .dict] s t)
    (hcounts : ∀ j, j / 256 = 0x5C01 + k → t.num j 0 = s.num j 0) : SameSample s t k where
  holds := by rw [State.meterHolds, hcounts _ (by omega), h.faults (by decide), ← State.meterHolds]
  mode := by rw [h.faults (by decide)]
  frames := by rw [State.framesOf, h.pool (by decide), ← State.framesOf]
  entries := by
    have hpart : t.part = s.part := by
      funext n
      rw [State.part, h.pool (by decide), ← State.part]
    have hlines : t.windowEntries = s.windowEntries := by
      funext w
      rw [State.windowEntries, h.coh (by decide), ← State.windowEntries]
    rw [State.entriesOf, h.coh (by decide), hpart, hlines, ← State.entriesOf]
  clusters := by
    funext c
    rw [State.clusterOwner, h.sec (by decide), ← State.clusterOwner]
  cells := reg_eq (h.csr (by decide))
  counts := hcounts

theorem toMs_sameSample (s : State) (k : Nat) : SameSample s s.toMs k :=
  sameSample_of_keeps (elapse_keeps _ _) fun j hj => num_elapse_ne _ _ _ fun h => by
    have hindex : O.throttleTicks / 256 = 0x2000 := by decide
    rw [h, hindex] at hj
    omega

theorem sampleOwner_keeps (s : State) (k : Nat) : Keeps [.dict] s (s.sampleOwner k) := by
  unfold State.sampleOwner
  exact Keeps.ite (Keeps.refl _ _) (Keeps.ite ((meter_keeps _ _ _ _).trans (meter_keeps _ _ _ _))
    (((((bumpN_keeps _ _ _).trans (bumpN_keeps _ _ _)).trans (bumpN_keeps _ _ _)).trans (bumpN_keeps _ _ _)).trans (bumpN_keeps _ _ _)))

theorem num_meter_other (s : State) {k sub n j : Nat} (hk : k < 65) (hsub : sub < 256) (hj : j / 256 ≠ 0x5C01 + k) :
    (s.meter k sub n).num j 0 = s.num j 0 := by
  unfold State.meter
  rw [ownerIx_of_lt hk]
  split
  · exact num_bumpN_ne _ _ _ (by omega)
  · rfl

/-- The sample of one owner counts in that owner's objects alone. -/
theorem sampleOwner_num_ne {k j : Nat} (hk : k < 65) (hj : j / 256 ≠ 0x5C01 + k) : (s.sampleOwner k).num j 0 = s.num j 0 := by
  unfold State.sampleOwner
  split
  · rfl
  · split
    · rw [num_meter_other _ hk (by omega) hj, num_meter_other _ hk (by omega) hj]
    · rw [num_bumpN_ne _ _ _ (by omega), num_bumpN_ne _ _ _ (by omega), num_bumpN_ne _ _ _ (by omega),
        num_bumpN_ne _ _ _ (by omega), num_bumpN_ne _ _ _ (by omega)]

theorem sampleOwners_keeps (l : List Nat) (s : State) : Keeps [.dict] s (l.foldl (fun (u : State) k => u.sampleOwner k) s) :=
  Keeps.foldl (fun _ _ => sampleOwner_keeps _ _) _ _

/-- Samples of other owners leave an owner's. -/
theorem sampleOwners_sameSample {k : Nat} (l : List Nat) (s : State) (hl : ∀ i ∈ l, i < 65 ∧ i ≠ k) :
    SameSample s (l.foldl (fun (u : State) k => u.sampleOwner k) s) k := by
  induction l generalizing s with
  | nil => exact sameSample_of_keeps (Keeps.refl _ _) fun _ _ => rfl
  | cons i l ih =>
    obtain ⟨hi, hik⟩ := hl i (List.mem_cons_self ..)
    refine SameSample.trans ?_ (ih _ fun m hm => hl m (List.mem_cons_of_mem _ hm))
    exact sameSample_of_keeps ((sampleOwner_keeps _ _).mono (by decide)) fun j hj => sampleOwner_num_ne hi (by omega)

/-- An owner's counters after the samples of all owners are those after its own. -/
theorem meterSample_num {k : Nat} (hk : k < 65) : ∃ u, SameSample s u k ∧ ∀ j, j / 256 = 0x5C01 + k →
    ((List.range 65).foldl (fun (u : State) k => u.sampleOwner k) s.toMs).num j 0 = (u.sampleOwner k).num j 0 := by
  obtain ⟨l, l', hl⟩ := List.append_of_mem (List.mem_range.mpr hk)
  have hnodup : (l ++ k :: l').Nodup := hl ▸ List.nodup_range
  have hmem : ∀ i, i ∈ l ∨ i ∈ l' → i < 65 := fun i hi => List.mem_range.mp (hl ▸ (by simp; tauto))
  obtain ⟨-, hnodup', hdisjoint⟩ := List.nodup_append.mp hnodup
  have hfirst : ∀ i ∈ l, i < 65 ∧ i ≠ k := fun i hi => ⟨hmem i (.inl hi), fun h => hdisjoint i hi k (List.mem_cons_self ..) h⟩
  have hrest : ∀ i ∈ l', i < 65 ∧ i ≠ k := fun i hi => ⟨hmem i (.inr hi), fun h => (List.nodup_cons.mp hnodup').1 (h ▸ hi)⟩
  refine ⟨_, (toMs_sameSample s k).trans (sampleOwners_sameSample l _ hfirst), fun j hj => ?_⟩
  rw [hl, List.foldl_append, List.foldl_cons]
  exact (sampleOwners_sameSample l' _ hrest).counts j hj

theorem sampleOwner_of_allocation {k : Nat} (hk : k < 65) (hholds : s.meterHolds k = false)
    (hmode : Store.read 0 s.faults.meterMode k = 0) : s.sampleOwner k =
      (s.bumpN ((0x5C01 + k) * 256 + 0x07) (s.framesOf k)).bumpN ((0x5C01 + k) * 256 + 0x10) (s.entriesOf k) := by
  have hfirst := meter_of_mode (s := s) (sub := 0x07) (n := s.framesOf k) hk hmode
  have hmode' : Store.read 0 (s.bumpN ((0x5C01 + k) * 256 + 0x07) (s.framesOf k)).faults.meterMode k = 0 := by
    rw [(bumpN_keeps _ _ _).faults (by decide), hmode]
  unfold State.sampleOwner
  simp only [hholds, hmode, Bool.false_eq_true, if_false, if_true]
  rw [hfirst, meter_of_mode hk hmode']

/-- Meters of allocations. -/
theorem sampleOwner_allocation {k : Nat} (hk : k < 65) (hholds : s.meterHolds k = false)
    (hmode : Store.read 0 s.faults.meterMode k = 0) :
    (s.sampleOwner k).num ((0x5C01 + k) * 256 + 0x07) 0 % 2 ^ 64 =
        (s.num ((0x5C01 + k) * 256 + 0x07) 0 + s.framesOf k) % 2 ^ 64 ∧
      (s.sampleOwner k).num ((0x5C01 + k) * 256 + 0x10) 0 % 2 ^ 64 =
        (s.num ((0x5C01 + k) * 256 + 0x10) 0 + s.entriesOf k) % 2 ^ 64 := by
  rw [sampleOwner_of_allocation hk hholds hmode]
  constructor
  · rw [num_bumpN_ne _ _ _ (by omega), num_bumpN_mod]
  · rw [num_bumpN_mod, num_bumpN_ne _ _ _ (by omega)]

/-- Meters of units: clusters and quota. -/
theorem sampleOwner_units {k : Nat} (hholds : s.meterHolds k = false) (hmode : Store.read 0 s.faults.meterMode k ≠ 0) :
    (s.sampleOwner k).num ((0x5C01 + k) * 256 + 0x21) 0 % 2 ^ 64 = (s.num ((0x5C01 + k) * 256 + 0x21) 0 +
        ((List.range 256).filter (fun c => decide (s.clusterOwner c = k))).length) % 2 ^ 64 ∧
      (s.sampleOwner k).num ((0x5C01 + k) * 256 + 0x25) 0 % 2 ^ 64 =
        (s.num ((0x5C01 + k) * 256 + 0x25) 0 + s.quotaCells k) % 2 ^ 64 := by
  unfold State.sampleOwner
  simp only [hholds, hmode, Bool.false_eq_true, if_false]
  constructor
  · rw [num_bumpN_ne _ _ _ (by omega), num_bumpN_ne _ _ _ (by omega), num_bumpN_ne _ _ _ (by omega), num_bumpN_ne _ _ _ (by omega),
      num_bumpN_mod]
  · rw [num_bumpN_mod, num_bumpN_ne _ _ _ (by omega), num_bumpN_ne _ _ _ (by omega), num_bumpN_ne _ _ _ (by omega),
      num_bumpN_ne _ _ _ (by omega)]

/-- The next multiple lies ahead. -/
theorem max_boundary (n : Nat) {m : Nat} (hm : 0 < m) : max n ((n / m + 1) * m) = (n / m + 1) * m := by
  have hlt := Nat.lt_div_mul_add (a := n) hm
  rw [Nat.add_mul, Nat.one_mul]
  exact Nat.max_eq_right hlt.le

theorem gives_meterSample (hrun : s.running = true) : Gives .meterSample s (fun t =>
    t.now = (s.now / msUnits 1 + 1) * msUnits 1 ∧
    (∀ k, k < 65 → s.meterHolds k = false → Store.read 0 s.faults.meterMode k = 0 →
      t.num ((0x5C01 + k) * 256 + 0x07) 0 % 2 ^ 64 = (s.num ((0x5C01 + k) * 256 + 0x07) 0 + s.framesOf k) % 2 ^ 64 ∧
      t.num ((0x5C01 + k) * 256 + 0x10) 0 % 2 ^ 64 = (s.num ((0x5C01 + k) * 256 + 0x10) 0 + s.entriesOf k) % 2 ^ 64) ∧
    (∀ k, k < 65 → s.meterHolds k = false → Store.read 0 s.faults.meterMode k ≠ 0 →
      t.num ((0x5C01 + k) * 256 + 0x21) 0 % 2 ^ 64 = (s.num ((0x5C01 + k) * 256 + 0x21) 0 +
        ((List.range 256).filter (fun c => decide (s.clusterOwner c = k))).length) % 2 ^ 64 ∧
      t.num ((0x5C01 + k) * 256 + 0x25) 0 % 2 ^ 64 = (s.num ((0x5C01 + k) * 256 + 0x25) 0 + s.quotaCells k) % 2 ^ 64) ∧
    Keeps [.now, .ftc, .dict] s t) := by
  have hkeeps := sampleOwners_keeps (List.range 65) s.begin.toMs
  refine gives_of_running hrun rfl rfl ⟨?_, fun k hk hholds hmode => ?_, fun k hk hholds hmode => ?_, Keeps.of_begin ?_⟩
  · rw [hkeeps.now (by decide), State.toMs, elapse_now]
    exact max_boundary _ (by decide)
  · obtain ⟨u, hu, hnum⟩ := meterSample_num (s := s.begin) hk
    rw [hnum _ (by omega), hnum _ (by omega)]
    have h := sampleOwner_allocation hk (hu.holds.trans hholds) (hu.mode ▸ hmode)
    rwa [hu.frames, hu.entries, hu.counts _ (by omega), hu.counts _ (by omega)] at h
  · obtain ⟨u, hu, hnum⟩ := meterSample_num (s := s.begin) hk
    rw [hnum _ (by omega), hnum _ (by omega)]
    have h := sampleOwner_units (hu.holds.trans hholds) (hu.mode ▸ hmode)
    rwa [hu.clusters, hu.cells, hu.counts _ (by omega), hu.counts _ (by omega)] at h
  · exact (elapse_keeps _ _).trans (hkeeps.mono (by decide))

/-! The modes in force. -/

/-- The modes of a list of owners are written. -/
def withModes (f : Nat → Nat) (l : List Nat) (m : Store Nat) : Store Nat := l.foldl (fun (m : Store Nat) k => Store.write 0 m k (f k)) m

theorem read_withModes (f : Nat → Nat) (l : List Nat) (m : Store Nat) (hwf : Store.wf 0 m = true) (k : Nat) :
    Store.read 0 (withModes f l m) k = if k ∈ l then f k else Store.read 0 m k := by
  induction l generalizing m with
  | nil => rfl
  | cons a l ih =>
    rw [withModes, List.foldl_cons, ← withModes, ih _ (Store.wf_write _ _ _ hwf)]
    by_cases hka : k = a
    · subst hka
      have hself : Store.read 0 (Store.write 0 m k (f k)) k = f k := Store.read_write_same (lo := 0) _ _ _ hwf
      simp [hself]
    · have hother : Store.read 0 (Store.write 0 m a (f a)) k = Store.read 0 m k := Store.read_write_other (lo := 0) _ _ _ _ hka hwf
      simp [hother, hka]

/-- The multiple that a number is rounded up to is not below it. -/
theorem le_ceil_mul (n : Nat) {m : Nat} (hm : 0 < m) : n ≤ (n + m - 1) / m * m := by
  have hdiv := Nat.div_add_mod (n + m - 1) m
  have hmod := Nat.mod_lt (n + m - 1) hm
  rw [Nat.mul_comm]
  omega

/-- A change of mode waits for the boundary. -/
def State.toModeBoundary (s : State) : State :=
  if (List.range 64).any (fun k => s.meterHolds k) then s.elapse (ceilDiv s.now (msUnits 1) * msUnits 1) else s

def State.modesInForce (s : State) : State :=
  { s with faults := { s.faults with
    meterMode := withModes (fun k => s.num ((0x5C01 + k) * 256 + 0x20) 0) (List.range 64) s.faults.meterMode } }

theorem modesInForce_keeps (s : State) : Keeps [.faults] s s.modesInForce := putFaults_keeps s _

theorem modesInForce_mode (hwf : Store.wf 0 s.faults.meterMode = true) {k : Nat} (hk : k < 64) :
    Store.read 0 s.modesInForce.faults.meterMode k = s.num ((0x5C01 + k) * 256 + 0x20) 0 := by
  unfold State.modesInForce
  dsimp only
  rw [read_withModes _ _ _ hwf, if_pos (List.mem_range.mpr hk)]

theorem toModeBoundary_keeps (s : State) : Keeps [.now, .ftc, .dict] s s.toModeBoundary := Keeps.ite (elapse_keeps _ _) (Keeps.refl _ _)

theorem toModeBoundary_mode (s : State) (k : Nat) :
    s.toModeBoundary.num ((0x5C01 + k) * 256 + 0x20) 0 = s.num ((0x5C01 + k) * 256 + 0x20) 0 := by
  unfold State.toModeBoundary
  split
  · refine num_elapse_ne _ _ _ ?_
    have hticks : O.throttleTicks < 0x5C01 * 256 := by decide
    omega
  · rfl

theorem toModeBoundary_now (s : State) : s.toModeBoundary.now =
    if (List.range 64).any (fun k => s.meterHolds k) then (s.now + msUnits 1 - 1) / msUnits 1 * msUnits 1 else s.now := by
  unfold State.toModeBoundary
  split
  · rw [elapse_now]
    exact Nat.max_eq_right (le_ceil_mul _ (by decide))
  · rfl

theorem gives_meterModeSwitch (hrun : s.running = true) (hwf : Store.wf 0 s.faults.meterMode = true) :
    Gives .meterModeSwitch s (fun t =>
      (∀ k, k < 64 → Store.read 0 t.faults.meterMode k = s.num ((0x5C01 + k) * 256 + 0x20) 0) ∧
      t.now = (if (List.range 64).any (fun k => s.meterHolds k) then (s.now + msUnits 1 - 1) / msUnits 1 * msUnits 1 else s.now) ∧
      Keeps [.now, .ftc, .dict, .faults] s t) := by
  have hexec : exec .meterModeSwitch s = .next (s.begin.whenRunning fun t => t.toModeBoundary.modesInForce) := rfl
  have hkeeps := toModeBoundary_keeps s.begin
  have hforce := modesInForce_keeps s.begin.toModeBoundary
  refine gives_of_running hrun hexec rfl ⟨fun k hk => ?_, ?_, Keeps.of_begin ((hkeeps.mono (by decide)).trans (hforce.mono (by decide)))⟩
  · rw [modesInForce_mode (by rw [hkeeps.faults (by decide)]; exact hwf) hk, toModeBoundary_mode]
    rfl
  · rw [hforce.now (by decide), toModeBoundary_now]
    rfl

/-! ### DIMM supply (R579, R580) -/

theorem gives_dimmOvercurrent {dimm : Nat} (hrun : s.running = true) (hdimm : dimm < 32) (hsupply : s.power.dimmSupply = true)
    (hframes : s.chanFrames (256 + dimm / 2) ≠ 0) (habsent : s.chanAbsent (256 + dimm / 2) = false)
    (hempty : (s.chan (256 + dimm / 2)).state ≠ .empty) (hfailed : (s.chan (256 + dimm / 2)).state ≠ .failed) :
    Gives (.dimmOvercurrent dimm) s (fun t => Store.read false t.power.dimmOff dimm = true ∧ (t.chan (256 + dimm / 2)).state = .failed ∧
      t.faults.seq = s.faults.seq + 1 ∧ t.faults.lastCode = 0x10 ∧
      Keeps [.dict, .mem, .sram, .remote, .traffic, .pool, .mgmt, .power, .faults, .freeCounter] s t) := by
  generalize hu : ({ s.begin with power := { s.power with dimmOff := Store.write false s.power.dimmOff dimm true } } : State) = u
  have hkeeps : Keeps [.power] s u := Keeps.of_begin (hu ▸ putPower_keeps s.begin _)
  have hchan : u.chan = s.chan := funext fun c => chan_eq (hkeeps.chip (by decide)) (by rw [hkeeps.pool (by decide)])
  have hgone : u.chanAbsent = s.chanAbsent := funext fun c => chanAbsent_eq (hkeeps.chip (by decide))
  have hopen : ¬ (32 ≤ dimm ∨ (!s.begin.power.dimmSupply) = true ∨ s.begin.chanFrames (256 + dimm / 2) = 0) := by
    rintro (h | h | h)
    · omega
    · simp [hsupply] at h
    · exact hframes h
  have hbody := channelFailed_keeps u (256 + dimm / 2)
  rw [← hchan] at hempty hfailed
  rw [← hgone] at habsent
  refine gives_of_running (u := u.channelFailed (256 + dimm / 2)) hrun rfl ((if_neg hopen).trans (by rw [← hu]; rfl))
    ⟨?_, channelFailed_state habsent hempty, ?_, ?_, (hkeeps.mono (by decide)).trans (hbody.mono (by decide))⟩
  · rw [hbody.power (by decide), ← hu]
    exact read_write_self _ _ (by decide)
  all_goals
    obtain ⟨x, v, -, hv, hfault⟩ := channelFailed_of_live (s := u) (ch := 256 + dimm / 2) (by simp [habsent, hempty, hfailed])
    rw [hfault]
  · rw [fault_seq, hv.faults, ← hkeeps.faults (by decide)]
    rfl
  · exact fault_lastCode _ _ _ _ _ _ _

/-- The channels of a list that are declared failed, one after the other. -/
def State.channelsFailed (s : State) (l : List Nat) : State := l.foldl (fun (u : State) k => u.channelFailed (256 + k)) s

theorem channelsFailed_keeps (s : State) (l : List Nat) : Keeps servedParts s (s.channelsFailed l) :=
  Keeps.foldl (fun _ _ => channelFailed_keeps _ _) _ _

theorem channelsFailed_stays (l : List Nat) {s : State} {c : Nat} (h : (s.chan c).state = .failed) :
    ((s.channelsFailed l).chan c).state = .failed := by
  induction l generalizing s with
  | nil => exact h
  | cons a l ih => exact ih (channelFailed_stays h)

theorem channelsFailed_state (l : List Nat) {s : State} {k : Nat} (hk : k ∈ l) (habsent : s.chanAbsent (256 + k) = false)
    (hempty : (s.chan (256 + k)).state ≠ .empty) : ((s.channelsFailed l).chan (256 + k)).state = .failed := by
  induction l generalizing s with
  | nil => cases hk
  | cons a l ih =>
    by_cases hka : k = a
    · subst hka
      exact channelsFailed_stays l (channelFailed_state habsent hempty)
    · have hchan : (s.channelFailed (256 + a)).chan (256 + k) = s.chan (256 + k) := channelFailed_chan_ne (by omega)
      refine ih ((List.mem_cons.mp hk).resolve_left hka) ?_ (by rwa [hchan])
      rwa [chanAbsent_eq ((channelFailed_keeps _ _).chip (by decide))]

theorem gives_dimmFeedLow (hrun : s.running = true) : Gives .dimmFeedLow s (fun t => t.power = { s.power with feedGood := false } ∧
    (∀ k ∈ List.range 16, s.chanAbsent (256 + k) = false → (s.chan (256 + k)).state ≠ .empty → (t.chan (256 + k)).state = .failed) ∧
    Keeps [.dict, .mem, .sram, .remote, .traffic, .pool, .mgmt, .power, .faults, .freeCounter] s t) := by
  generalize hu : ({ s.begin with power := { s.power with feedGood := false } } : State) = u
  have hkeeps : Keeps [.power] s u := Keeps.of_begin (hu ▸ putPower_keeps s.begin _)
  have hchan : u.chan = s.chan := funext fun c => chan_eq (hkeeps.chip (by decide)) (by rw [hkeeps.pool (by decide)])
  have hgone : u.chanAbsent = s.chanAbsent := funext fun c => chanAbsent_eq (hkeeps.chip (by decide))
  have hbody := channelsFailed_keeps u (List.range 16)
  refine gives_of_running (u := u.channelsFailed (List.range 16)) hrun rfl (by rw [← hu]; rfl)
    ⟨?_, fun k hk habsent hempty => ?_, (hkeeps.mono (by decide)).trans (hbody.mono (by decide))⟩
  · rw [hbody.power (by decide), ← hu]
  · exact channelsFailed_state _ hk (hgone ▸ habsent) (hchan ▸ hempty)

/-- Settles O58: each clause is the effect of one command. -/
theorem injectionMetersAndFeedTakeEffect : Obligations.InjectionMetersAndFeedTakeEffect :=
  ⟨fun _ _ => gives_injectArm, fun _ _ => gives_injectCancel, fun _ _ => gives_injectDisable,
    fun _ _ _ hrun harmed hkind hunit _ => gives_injectFire_linkReplay hrun harmed hkind hunit,
    fun _ _ _ _ => gives_injectFire_tierLate, fun _ _ _ _ => gives_injectFire_tierError, fun _ _ _ => gives_injectFire_sag,
    fun _ _ => gives_injectFire_skipped, fun _ => gives_meterSample, fun _ => gives_meterModeSwitch,
    fun _ _ => gives_dimmOvercurrent, fun _ => gives_dimmFeedLow⟩

end Sys2Proof.Machine
end

/-! # Resets and the brownout

Sitting of the family 16_power_clocks_reset, the layer that O55 and O56 rest on. `Winds σ s` says what is left alone while open requests,
plans and keys end; `warmReset_of_winds` reads a warm reset off the state to which that leads. -/

section
namespace Sys2Proof.Machine

/-! ### The relation -/

/-- The parts that the end of requests, plans and keys may change. -/
abbrev windParts : List Part := .sw :: .hcu :: .plans :: .florets :: .sec :: servedParts

/-- What the end of open requests, plans and keys keeps between `σ` and `s`. -/
structure Winds (σ s : State) : Prop where
  keeps : Keeps windParts σ s
  seq : s.faults.seq = σ.faults.seq
  lastCode : s.faults.lastCode = σ.faults.lastCode
  tenants : s.sec.tenants = σ.sec.tenants
  clearLog : s.sec.clearLog = σ.sec.clearLog
  banks : s.sec.banks = σ.sec.banks

variable {σ s : State}

theorem Winds.refl (s : State) : Winds s s := ⟨Keeps.refl _ _, rfl, rfl, rfl, rfl, rfl⟩

theorem Winds.trans {t : State} (h : Winds σ s) (g : Winds s t) : Winds σ t :=
  ⟨h.keeps.trans g.keeps, g.seq.trans h.seq, g.lastCode.trans h.lastCode, g.tenants.trans h.tenants, g.clearLog.trans h.clearLog,
    g.banks.trans h.banks⟩

/-- Work on requests is part of it. -/
theorem Serves.winds (h : Serves σ s) : Winds σ s :=
  have hsec := h.keeps.sec (by decide)
  ⟨h.keeps.mono (by decide), by rw [h.faults], by rw [h.faults], by rw [hsec], by rw [hsec], by rw [hsec]⟩

/-- What leaves chapters 13 and 17 alone. -/
theorem Winds.of_keeps {c : List Part} (h : Keeps c σ s) (hc : ∀ p ∈ c, p ∈ windParts) (hsec : .sec ∉ c) (hfaults : .faults ∉ c) :
    Winds σ s :=
  have hs := h.sec hsec
  have hf := h.faults hfaults
  ⟨h.mono hc, by rw [hf], by rw [hf], by rw [hs], by rw [hs], by rw [hs]⟩

theorem Winds.foldl {α : Type} {f : State → α → State} {l : List α} (hs : Winds σ s) (hf : ∀ t a, Winds t (f t a)) :
    Winds σ (l.foldl f s) := by
  induction l generalizing s with
  | nil => exact hs
  | cons a l ih => exact ih (hs.trans (hf s a))

theorem Winds.of_serves {t : State} (hs : Winds σ s) (h : Serves s s → Serves s t) : Winds σ t := hs.trans (h (.refl s)).winds

/-! ### Every open request ends (R524, R537) -/

theorem Serves.putBytes {tenant tc a bs} (hs : Serves σ s) : Serves σ (s.putBytes tenant tc a bs) := hs.writeLocal.ite hs.emit
theorem Serves.putEntry {cq f posted} (hs : Serves σ s) : Serves σ (s.putEntry cq f posted) := hs.putBytes.setQueue.emit
theorem Serves.setSticky {i st pseq} (hs : Serves σ s) : Serves σ (s.setSticky i st pseq) := hs.ofRemote (setSticky_keeps _ _ _ _)

theorem Serves.finishItem {q item r} (hs : Serves σ s) : Serves σ (s.finishItem q item r) := by
  unfold State.finishItem
  dsimp only
  split
  · exact hs
  · exact hs.setQueue

theorem Serves.writeNext {q} (hs : Serves σ s) : Serves σ (s.writeNext q) := by
  unfold State.writeNext
  dsimp only
  split
  · exact hs
  · refine hs.setQueue.ite (hs.ite ?_)
    split
    · exact hs.setQueue.setQueue
    · exact hs.setQueue.setQueue.putEntry

theorem Serves.writeEntries {n q} (hs : Serves σ s) : Serves σ (State.writeEntries n s q) := by
  induction n generalizing s with
  | zero => exact hs
  | succ n ih => exact ih hs.writeNext

theorem Serves.postedFails {i pseq r} (hs : Serves σ s) : Serves σ (s.postedFails i pseq r) := by
  have hended : Serves σ ((s.setSticky i r.status (BitVec.ofNat 32 pseq)).closeOp i true pseq).wake := hs.setSticky.closeOp.wake
  unfold State.postedFails
  split
  · exact hs
  · refine (hs.closeOp.wake.bump (by decide)).ite ?_
    dsimp only
    split
    · split
      · exact hended.setQueue
      · exact hended.setQueue.ite hended.putEntry
    · split
      · exact hended.emit.ite (hended.bump (by decide))
      · exact hended

theorem Serves.endOpenOp {r o} (hs : Serves σ s) : Serves σ (s.endOpenOp r o) := by
  unfold State.endOpenOp
  refine hs.postedFails.ite ?_
  split
  · exact hs.closeOp.finishItem
  · exact hs.respondCore

/-- A frame that is refused loses its parts. -/
theorem refuseFrame_winds (s : State) (f : Frame) (st : Status) (reason : Reason) : Winds s (s.refuseFrame f st reason) := by
  unfold State.refuseFrame
  have hparts : ∀ p, Winds s { s with sw := { s.sw with partials := p } } :=
    fun p => .of_keeps (putSw_keeps s _) (by simp) (by simp) (by simp)
  dsimp only
  split
  · split
    · exact (hparts _).of_serves .respond
    · exact (Winds.refl s).of_serves .respond
  · exact Winds.refl s

theorem endOpen_winds (s : State) (st : Status) (reason : Reason) : Winds s (s.endOpen st reason) := by
  unfold State.endOpen
  extract_lets +onlyGivenNames r s1 s2 s3 s4 s5 s6 s7 s8 s9
  have h1 : Serves s s1 := (Serves.refl s).foldl fun hu => hu.foldl .revertBlocks
  have h2 : Serves s s2 := h1.foldl .endOpenOp
  have h3 : Serves s s3 := h2.foldl .writeEntries
  have h4 : Serves s s4 := h3.foldl .endWaitCore
  have h5 : Serves s s5 := h4.foldl .respondCore
  have h6 : Serves s s6 := h5.foldl .respondCore
  have h7 : Serves s s7 := h6.foldl .respondCore
  have h8 : Serves s s8 := h7.foldl .respondCore
  have h9 : Serves s s9 := h8.foldl .respondCore
  exact h9.winds.foldl fun t f => refuseFrame_winds t f st reason

/-! ### Plans and keys (R532) -/

theorem dropInputs_keeps (s : State) (n : Nat) : Keeps [.hcu, .remote, .dict, .freeCounter] s (s.dropInputs n) :=
  ((putHcu_keeps s _).mono (by decide)).trans ((responds_keeps id _ _ _).mono (by decide))

theorem putFlorets_keeps (s : State) (f : FloretsState) : Keeps [.florets] s { s with florets := f } := Keeps.refl _ s

/-- A claim of a plan goes back. -/
theorem dropClaim_keeps (s : State) (n : Nat) (c : Claim) : Keeps [.florets, .remote, .pool, .traffic, .hcu] s (s.dropClaim n c) := by
  unfold State.dropClaim
  dsimp only
  split
  · exact (putFlorets_keeps _ _).mono (by decide)
  · exact Keeps.ite (Keeps.foldl (fun _ _ => (setQueue_keeps _ _ _).mono (by decide)) _ _) (Keeps.refl _ _)
  · exact Keeps.foldl (fun _ _ => (setSync_keeps _ _ _).mono (by decide)) _ _
  · exact (setPart_keeps _ _ _).mono (by decide)
  · exact ((setGate_keeps _ _ _).mono (by decide)).trans ((setGate_keeps _ _ _).mono (by decide))
  · exact (putHcu_keeps _ _).mono (by decide)
  · exact (putHcu_keeps _ _).mono (by decide)
  · exact (putHcu_keeps _ _).mono (by decide)
  · exact (putHcu_keeps _ _).mono (by decide)
  · exact (putHcu_keeps _ _).mono (by decide)
  · exact Keeps.refl _ _

theorem planEmpty_winds (s : State) (n : Nat) (i : PlanImage) : Winds s (s.planEmpty n i) := by
  unfold State.planEmpty
  extract_lets +onlyGivenNames t t1 _ t2 _ t3
  have ht : Winds s t := (Winds.refl s).foldl fun u e => .of_keeps (c := [.hcu, .remote, .dict, .freeCounter])
    ((dropInputs_keeps _ _).trans ((setJob_keeps _ _ _).mono (by decide))) (by simp) (by simp) (by simp)
  have ht1 : Winds s t1 := ht.foldl fun u c => .of_keeps (dropClaim_keeps u n c) (by simp) (by simp) (by simp)
  have ht2 : Winds t1 t2 := .of_keeps (putHcu_keeps t1 _) (by simp) (by simp) (by simp)
  have ht3 : Winds t2 t3 := ⟨Keeps.refl _ _, rfl, rfl, rfl, rfl, rfl⟩
  exact ht1.trans (ht2.trans (ht3.trans (.of_keeps (setSlot_keeps _ _ _) (by simp) (by simp) (by simp))))

theorem emptySlots_winds (s : State) : Winds s s.emptySlots := by
  unfold State.emptySlots
  refine (Winds.refl s).foldl fun t e => ?_
  split
  · exact planEmpty_winds _ _ _
  · exact Winds.refl _

theorem destroyKey_winds (s : State) (slot : Nat) : Winds s (s.destroyKey slot) := by
  unfold State.destroyKey
  split
  · exact Winds.refl _
  · have hkey : Winds s (s.setKey slot none) := ⟨Keeps.refl _ _, rfl, rfl, rfl, rfl, rfl⟩
    exact hkey.of_serves .eventOpen

theorem destroyKeys_winds (s : State) (p : ModelKey → Bool) : Winds s (s.destroyKeys p) :=
  (Winds.refl s).foldl fun _ _ => destroyKey_winds _ _

theorem cancelMoves_serves (l : List PageMove) (s : State) : Serves s (l.foldl (fun (t : State) m => t.cancelMove m) s) :=
  (Serves.refl s).foldl .cancelMove

/-! ### Lines and ports (R374, R465) -/

theorem poisonLine_keeps (s : State) (line : Nat) : Keeps [.pool, .dict, .coh] s (s.poisonLine line) := by
  unfold State.poisonLine
  split
  · exact Keeps.refl _ _
  · extract_lets b t
    have ht : Keeps [.pool, .dict, .coh] s t :=
      ((setPoison_keeps _ _ _).mono (by decide)).trans (((setPoison_keeps _ _ _).mono (by decide)).trans ((bump_keeps _ _).mono (by decide)))
    exact ht.trans (((putCoh_keeps t _).mono (by decide)).trans ((bumpN_keeps _ _ _).mono (by decide)))

theorem loseLines_keeps (s : State) : Keeps [.pool, .dict, .coh] s s.loseLines := by
  unfold State.loseLines
  extract_lets s1
  have h1 : Keeps [.pool, .dict, .coh] s s1 := by
    refine Keeps.foldl (fun t x => ?_) _ _
    split
    · exact Keeps.ite (Keeps.refl _ _) (poisonLine_keeps _ _)
    · exact Keeps.refl _ _
  exact h1.trans ((putCoh_keeps s1 _).mono (by decide))

theorem portGone_keeps (s : State) (p : Nat) (live : Bool) : Keeps lossParts s (s.portGone p live) := by
  unfold State.portGone
  extract_lets s1 s2 waits s3
  have h1 : Keeps lossParts s s1 := endSent_keeps _ _
  have h2 : Keeps lossParts s1 s2 := by
    unfold s2
    split
    · exact Keeps.ite ((memberLost_keeps _ _ _).mono (by decide)) (Keeps.refl _ _)
    · exact Keeps.refl _ _
  exact h1.trans (h2.trans ((endQueued_keeps _ _ _).trans ((putSw_keeps s3 _).mono (by decide))))

theorem putSec_keeps (s : State) (x : SecurityState) : Keeps [.sec] s { s with sec := x } := Keeps.refl _ s

theorem portDown_keeps (s : State) (p : Nat) (st : PortState) : Keeps lossParts s (s.portDown p st) := by
  unfold State.portDown
  extract_lets +onlyGivenNames x live _ s1 s2 _ _ s3
  have h1 : Keeps lossParts s s1 := ((setPort_keeps _ _ _).mono (by decide)).trans ((setCrypt_keeps _ _ _).mono (by decide))
  have h2 : Keeps lossParts s1 s2 := Keeps.ite ((bump32_keeps _ _).mono (by decide)) (Keeps.refl _ _)
  have h3 : Keeps lossParts s s3 := h1.trans (h2.trans ((putSec_keeps s2 _).mono (by decide)))
  exact Keeps.ite (h3.trans (portGone_keeps _ _ _)) h3

/-- Every port that is not disabled goes down. -/
def State.portsDown (s : State) : State :=
  (List.range 36).foldl (fun (t : State) p => if (t.port p).state = .disabled then t else t.portDown p .disabled) s

theorem portsDown_keeps (s : State) : Keeps lossParts s s.portsDown :=
  Keeps.foldl (fun _ _ => Keeps.ite (Keeps.refl _ _) (portDown_keeps _ _ _)) _ _

/-! ### The warm reset (R531-R533) -/

theorem noteReset_keeps (s : State) (c : ResetCause) (warm : Bool) : Keeps [.dict, .power] s (s.noteReset c warm) := by
  unfold State.noteReset
  extract_lets s1 s2
  have h1 : Keeps [.dict, .power] s s1 := ((setNum_keeps _ _ _).mono (by decide)).trans ((setNum_keeps _ _ _).mono (by decide))
  have h2 : Keeps [.dict, .power] s1 s2 := Keeps.ite ((bump32_keeps _ _).mono (by decide)) (Keeps.refl _ _)
  exact h1.trans (h2.trans ((putPower_keeps s2 _).mono (by decide)))

theorem noteReset_power (s : State) (c : ResetCause) (warm : Bool) :
    (s.noteReset c warm).power = { s.power with cause := c, lastWarm := warm } := by
  cases warm <;> rfl

theorem noteReset_cause (s : State) (c : ResetCause) (warm : Bool) : (s.noteReset c warm).num O.lastResetCause 0 = c.code := by
  cases warm with
  | false => exact num_setNum_self _ _ _ _
  | true => exact (num_setNum_ne _ _ _ (by decide)).trans (num_setNum_self _ _ _ _)

theorem noteReset_kind (s : State) (c : ResetCause) (warm : Bool) : (s.noteReset c warm).num O.lastResetKind 0 = b2n warm := by
  have hcause : ((s.setNum O.lastResetKind (b2n warm)).setNum O.lastResetCause c.code).num O.lastResetKind 0 = b2n warm :=
    (num_setNum_ne _ _ _ (by decide)).trans (num_setNum_self _ _ _ _)
  cases warm with
  | false => exact hcause
  | true => exact (num_setNum_ne _ _ _ (by decide)).trans hcause

/-- What a warm reset leaves of the state in which requests, plans and keys have ended. -/
def State.warmed (u : State) (c : ResetCause) : State :=
  let v := u.warmKeep.noteReset c true
  { v with power := { v.power with package := .booting 3, since := v.now, events := if c = .brownoutRecovery then 32 else 0 } }

theorem warmReset_of_winds (s : State) (c : ResetCause) : ∃ u, Winds s u ∧ s.warmReset c = u.warmed c :=
  ⟨_, (cancelMoves_serves _ s).winds.trans ((endOpen_winds _ _ _).trans ((emptySlots_winds _).trans (destroyKeys_winds _ _))), rfl⟩

theorem warmed_keeps (u : State) (c : ResetCause) : Keeps [.dict, .power] u.warmKeep (u.warmed c) :=
  (noteReset_keeps u.warmKeep c true).trans ((putPower_keeps _ _).mono (by decide))

theorem warmed_power (u : State) (c : ResetCause) : (u.warmed c).power =
    { u.warmKeep.power with
      cause := c, lastWarm := true, package := .booting 3, since := u.now, events := if c = .brownoutRecovery then 32 else 0 } := by
  have hv := noteReset_power u.warmKeep c true
  have hnow : (u.warmKeep.noteReset c true).now = u.now := (noteReset_keeps u.warmKeep c true).now (by decide)
  unfold State.warmed
  dsimp only
  rw [hv, hnow]

theorem Keeps.cz {c : List Part} {t : State} (h : Keeps c s t) (hc : .cz ∉ c) : t.cz = s.cz := by
  have := keeps_iff.mp h .cz
  simpa [hc, Part.same] using this

theorem Keeps.meadow {c : List Part} {t : State} (h : Keeps c s t) (hc : .meadow ∉ c) : t.meadow = s.meadow := by
  have := keeps_iff.mp h .meadow
  simpa [hc, Part.same] using this

/-- What a warm reset keeps of the package's own state, and what it records. -/
structure WarmReset (s : State) (c : ResetCause) (t : State) : Prop where
  chip : t.chip = s.chip
  now : t.now = s.now
  ftc : t.ftc = s.ftc
  package : t.power.package = .booting 3
  cause : t.power.cause = c
  events : t.power.events = if c = .brownoutRecovery then 32 else 0
  standby : t.power.standby = s.power.standby
  standbyWatchdog : t.power.standbyWatchdog = s.power.standbyWatchdog
  lastResetCause : t.num O.lastResetCause 0 = c.code
  ports : t.links.ports = Store.revalue {} (fun (p : Port) => { mode := p.mode, width8 := p.width8, enable := p.enable }) s.links.ports
  tenants : t.sec.tenants = s.sec.tenants
  clearLog : t.sec.clearLog = s.sec.clearLog
  banks : t.sec.banks = s.sec.banks
  keys : t.sec.keys = []
  sessions : t.sec.sessions = []
  seq : t.faults.seq = s.faults.seq
  lastCode : t.faults.lastCode = s.faults.lastCode
  /-- the parts that start anew -/
  anew : t.florets = {} ∧ t.hcu = {} ∧ t.sw = {} ∧ t.kv = {} ∧ t.cz = {} ∧ t.meadow = {} ∧ t.sram = []

theorem warmReset_spec (s : State) (c : ResetCause) : WarmReset s c (s.warmReset c) := by
  obtain ⟨u, hu, heq⟩ := warmReset_of_winds s c
  rw [heq]
  have hkeeps := warmed_keeps u c
  have hpower := warmed_power u c
  have hsec := hkeeps.sec (by decide)
  have hfaults := hkeeps.faults (by decide)
  have hupower := hu.keeps.power (by decide)
  exact {
    chip := (hkeeps.chip (by decide)).trans (hu.keeps.chip (by decide))
    now := (hkeeps.now (by decide)).trans (hu.keeps.now (by decide))
    ftc := (hkeeps.ftc (by decide)).trans (hu.keeps.ftc (by decide))
    package := by rw [hpower]
    cause := by rw [hpower]
    events := by rw [hpower]
    standby := by rw [hpower, ← hupower]; rfl
    standbyWatchdog := by rw [hpower, ← hupower]; rfl
    lastResetCause := noteReset_cause u.warmKeep c true
    ports := by rw [hkeeps.links (by decide), ← hu.keeps.links (by decide)]; rfl
    tenants := by rw [hsec, ← hu.tenants]; rfl
    clearLog := by rw [hsec, ← hu.clearLog]; rfl
    banks := by rw [hsec, ← hu.banks]; rfl
    keys := by rw [hsec]; rfl
    sessions := by rw [hsec]; rfl
    seq := by rw [hfaults, ← hu.seq]; rfl
    lastCode := by rw [hfaults, ← hu.lastCode]; rfl
    anew := by
      rw [hkeeps.florets (by decide), hkeeps.hcu (by decide), hkeeps.sw (by decide), hkeeps.kv (by decide), hkeeps.cz (by decide),
        hkeeps.meadow (by decide), hkeeps.sram (by decide)]
      exact ⟨rfl, rfl, rfl, rfl, rfl, rfl, rfl⟩ }

/-! ### The brownout (R524, R526) -/

/-- With no plan in progress: what the sequence keeps, and the record that waits for the restart. -/
theorem brownout_spec (trip : Bool) (arg : Nat) (hslots : s.liveSlots = []) :
    (s.brownout trip arg).chip = s.chip ∧ (s.brownout trip arg).coh.entries = [] ∧
      (s.brownout trip arg).power.package = (if trip then .thermalOff else .brownout) ∧
      (s.brownout trip arg).power.standby = some { ftc := s.ftc, trip := trip, arg := arg } := by
  unfold State.brownout
  extract_lets s1 s2 s3 s4 s5
  have h1 : s1 = s := by
    unfold s1
    rw [hslots]
    rfl
  have h2 : Serves s s2 := h1 ▸ cancelMoves_serves _ _
  have hlines := loseLines_keeps s2
  have hentries : s2.loseLines.coh.entries = [] := rfl
  have h3 : Winds s2.loseLines s3 := (endOpen_winds _ _ _).trans (destroyKeys_winds _ _)
  have h5 : Keeps lossParts s3 s5 := (portsDown_keeps s3).trans ((bump32_keeps _ _).mono (by decide))
  have hchip : s5.chip = s.chip :=
    (h5.chip (by decide)).trans ((h3.keeps.chip (by decide)).trans ((hlines.chip (by decide)).trans (h2.keeps.chip (by decide))))
  have hftc : s5.ftc = s.ftc :=
    (h5.ftc (by decide)).trans ((h3.keeps.ftc (by decide)).trans ((hlines.ftc (by decide)).trans (h2.keeps.ftc (by decide))))
  have hcoh : s5.coh.entries = [] := by rw [h5.coh (by decide), h3.keeps.coh (by decide), hentries]
  clear_value s5
  exact ⟨hchip, hcoh, rfl, by rw [hftc]⟩

end Sys2Proof.Machine
end

/-! # Power, throttles, clocks and the watchdog

Sitting of the family 16_power_clocks_reset: O56. Each function of the power controller is read once, by an equation for the branch that
applies; what a reset or the brownout leaves is said by `warmReset_spec` and `brownout_spec`. -/

section
namespace Sys2Proof.Machine
variable {s t : State}

/-! ### Events (R494) -/

theorem sendEvent_eventSeq (s : State) (mask : BitVec 4) (seqs : List Nat) : (s.sendEvent mask seqs).mgmt.eventSeq = s.mgmt.eventSeq := by
  unfold State.sendEvent
  generalize (List.range 4).filter _ = l
  induction l generalizing s with
  | nil => rfl
  | cons d l ih => exact ih _

theorem setVector_eventSeq (s : State) (v : Nat) (x : Vector) : (s.setVector v x).mgmt.eventSeq = s.mgmt.eventSeq := rfl

theorem eventSeq_ite {c : Prop} {_ : Decidable c} {u : State} {n : Nat} (ht : t.mgmt.eventSeq = n) (hu : u.mgmt.eventSeq = n) :
    (if c then t else u).mgmt.eventSeq = n := by
  split <;> assumption

/-- An event takes the next number. -/
theorem event_eventSeq (s : State) (vector source kind : Nat) (st : Status) (arg : Nat) (injection : Bool) :
    (s.event vector source kind st arg injection).mgmt.eventSeq = s.mgmt.eventSeq + 1 := by
  have hlog : ∀ {m : MgmtState} {n : Nat}, m.eventSeq = s.mgmt.eventSeq + 1 →
      (State.bumpN { s with mgmt := m } O.eventsDropped n).mgmt.eventSeq = s.mgmt.eventSeq + 1 :=
    fun h => (congrArg MgmtState.eventSeq ((bumpN_keeps _ _ _).mgmt (by decide))).trans h
  have hsent : ∀ {u : State} {mask seqs x}, u.mgmt.eventSeq = s.mgmt.eventSeq + 1 →
      ((u.sendEvent mask seqs).deliverOther x).mgmt.eventSeq = s.mgmt.eventSeq + 1 :=
    fun h => (congrArg MgmtState.eventSeq ((deliverOther_keeps _ _).mgmt (by decide))).trans ((sendEvent_eventSeq _ _ _).trans h)
  unfold State.event
  refine eventSeq_ite (hlog rfl) (eventSeq_ite (hsent (hlog rfl)) ?_)
  dsimp only
  split <;> exact (setVector_eventSeq _ _ _).trans (hlog rfl)

theorem powerEvent_eventSeq (s : State) : s.powerEvent.mgmt.eventSeq = s.mgmt.eventSeq + 1 := event_eventSeq _ _ _ _ _ _ _

theorem powered_of_running (h : s.running = true) : s.powered = true := by
  have hpackage : s.power.package = .running := of_decide_eq_true h
  simp [State.powered, hpackage]

/-! ### The power controller (R520) -/

/-- The state in which a measurement has been taken. -/
def State.measured (s : State) (watts : Nat) : State :=
  { s with power := { s.power with
    inputW := min watts 65535, inputCa := if s.power.inputMv = 0 then 0 else min 65535 (watts * 100000 / s.power.inputMv)
    overRun := if s.power.limitW < watts then s.power.overRun + 1 else 0
    underRun := if 100 * watts ≤ 95 * s.power.limitW then s.power.underRun + 1 else 0 } }

theorem powerMonitor_eq (s : State) (watts : Nat) : s.powerMonitor watts =
    if 10 ≤ (s.measured watts).power.overRun then
      match (s.measured watts).nextPowerStep with
      | none => { (s.measured watts) with power := { (s.measured watts).power with overRun := 0 } }
      | some k => (State.setPowerEvents { (s.measured watts) with power := { (s.measured watts).power with
          overRun := 0, powerSteps := s.power.powerSteps ++ [k], powerAt := s.now } } 8).powerEvent
    else if 100 ≤ (s.measured watts).power.underRun then
      { (s.measured watts) with power := { (s.measured watts).power with
        underRun := 0, powerSteps := s.power.powerSteps.dropLast, powerAt := s.now } }
    else s.measured watts := by
  unfold State.powerMonitor State.measured
  simp only [decide_eq_true_eq]
  rfl

theorem measured_between {watts : Nat} (hover : watts ≤ s.power.limitW) (hunder : 95 * s.power.limitW < 100 * watts) :
    (s.measured watts).power = { s.power with
      inputW := min watts 65535, inputCa := if s.power.inputMv = 0 then 0 else min 65535 (watts * 100000 / s.power.inputMv)
      overRun := 0, underRun := 0 } := by
  simp only [State.measured, if_neg (Nat.not_lt.mpr hover), if_neg (Nat.not_le.mpr hunder)]

theorem measured_overRun {watts : Nat} (hover : s.power.limitW < watts) : (s.measured watts).power.overRun = s.power.overRun + 1 :=
  if_pos hover

theorem measured_notOver {watts : Nat} (hover : watts ≤ s.power.limitW) : (s.measured watts).power.overRun = 0 :=
  if_neg (Nat.not_lt.mpr hover)

theorem measured_underRun {watts : Nat} (hunder : 100 * watts ≤ 95 * s.power.limitW) :
    (s.measured watts).power.underRun = s.power.underRun + 1 := if_pos hunder

theorem gives_powerMonitorTick_between {watts : Nat} (hrun : s.running = true) (hover : watts ≤ s.power.limitW)
    (hunder : 95 * s.power.limitW < 100 * watts) : Gives (.powerMonitorTick watts) s (fun t => t.power =
      { s.power with
        inputW := min watts 65535, inputCa := if s.power.inputMv = 0 then 0 else min 65535 (watts * 100000 / s.power.inputMv)
        overRun := 0, underRun := 0 } ∧ Keeps [.power] s t) := by
  have hpower := measured_between (s := s.begin) hover hunder
  refine gives_of_running (u := s.begin.measured watts) hrun rfl ?_ ⟨hpower, Keeps.of_begin (putPower_keeps _ _)⟩
  rw [powerMonitor_eq, hpower]
  rfl

theorem gives_powerMonitorTick_over {watts k : Nat} (hrun : s.running = true) (hover : s.power.limitW < watts)
    (htenth : 9 ≤ s.power.overRun) (hstep : s.nextPowerStep = some k) : Gives (.powerMonitorTick watts) s (fun t =>
      t.power.powerSteps = s.power.powerSteps ++ [k] ∧ t.power.powerAt = s.now ∧ t.power.overRun = 0 ∧
      t.power.events = s.power.events ||| 8 ∧ t.mgmt.eventSeq = s.mgmt.eventSeq + 1 ∧
      Keeps [.power, .dict, .remote, .mgmt, .freeCounter] s t) := by
  have hten : 10 ≤ (s.begin.measured watts).power.overRun := by
    rw [measured_overRun (s := s.begin) hover]
    exact Nat.succ_le_succ htenth
  have hnext : (s.begin.measured watts).nextPowerStep = some k := hstep
  generalize hu : State.setPowerEvents { (s.begin.measured watts) with power := { (s.begin.measured watts).power with
      overRun := 0, powerSteps := s.power.powerSteps ++ [k], powerAt := s.now } } 8 = u
  have hmonitor : s.begin.powerMonitor watts = u.powerEvent := by
    rw [powerMonitor_eq, if_pos hten, hnext, ← hu]
    rfl
  have hkeeps : Keeps [.power] s u := Keeps.of_begin (hu ▸ putPower_keeps s.begin _)
  have hevent := powerEvent_keeps u
  have hpower : u.powerEvent.power = u.power := hevent.power (by decide)
  refine gives_of_running hrun rfl hmonitor ⟨?_, ?_, ?_, ?_, ?_, (hkeeps.mono (by decide)).trans (hevent.mono (by decide))⟩
  · rw [hpower, ← hu]
    rfl
  · rw [hpower, ← hu]
    rfl
  · rw [hpower, ← hu]
    rfl
  · rw [hpower, ← hu]
    rfl
  · rw [powerEvent_eventSeq, hkeeps.mgmt (by decide)]

theorem gives_powerMonitorTick_under {watts : Nat} (hrun : s.running = true) (hunder : 100 * watts ≤ 95 * s.power.limitW)
    (hhundredth : 99 ≤ s.power.underRun) : Gives (.powerMonitorTick watts) s (fun t =>
      t.power.powerSteps = s.power.powerSteps.dropLast ∧ t.power.underRun = 0 ∧ Keeps [.power] s t) := by
  have hnot : ¬ 10 ≤ (s.begin.measured watts).power.overRun := by
    rw [measured_notOver (s := s.begin) (show watts ≤ s.power.limitW by omega)]
    decide
  have hhundred : 100 ≤ (s.begin.measured watts).power.underRun := by
    rw [measured_underRun (s := s.begin) hunder]
    exact Nat.succ_le_succ hhundredth
  refine gives_of_running hrun rfl ((powerMonitor_eq _ _).trans ((if_neg hnot).trans (if_pos hhundred))) ⟨rfl, rfl, ?_⟩
  exact Keeps.of_begin (putPower_keeps s.begin _)

/-! ### Samples of the input (R521, R522, R524) -/

/-- SUPPLY_WARN_N, and what a firing injects in its place. -/
def State.sagInjected (s : State) : Bool :=
  match s.power.injectedSag with
  | some e => decide (s.now < e)
  | none => false

def State.sagFast (s : State) (mv : Nat) : Bool := decide (100 * mv < 95 * s.power.samples.foldl max 0)
def State.sagSlow (s : State) (mv : Nat) : Bool := decide (10 ≤ if mv < 44000 then s.power.lowRun + 1 else 0)
def State.sagShelf (s : State) (warnLow : Bool) : Bool := decide (2 ≤ if warnLow then s.power.warnRun + 1 else 0) || s.sagInjected
def State.sagTriggers (s : State) (mv : Nat) (warnLow : Bool) : Bool := s.sagFast mv || s.sagSlow mv || s.sagShelf warnLow

/-- The state in which a sample has been taken. -/
def State.sampled (s : State) (mv : Nat) (warnLow : Bool) : State :=
  { s with power := { s.power with
    inputMv := min mv 65535, supplyWarn := warnLow, samples := (mv :: s.power.samples).take 20
    lowRun := if mv < 44000 then s.power.lowRun + 1 else 0, warnRun := if warnLow then s.power.warnRun + 1 else 0
    brownRun := if mv < 40000 then s.power.brownRun + 1 else 0
    injectedSag := if s.sagInjected then s.power.injectedSag else none
    calmSince := if !s.sagTriggers mv warnLow && decide (46000 ≤ mv) && !warnLow then some (s.power.calmSince.getD s.now) else none } }

/-- The throttle comes into force. -/
def State.sagThrottle (s : State) (b : BitVec 6) : State :=
  let u := (s.setPowerEvents b).sagStarts
  { u with power := { u.power with sag := .inForce } }

/-- The state after a sample and the throttle that it starts. -/
def State.sagJudged (s : State) (mv : Nat) (warnLow : Bool) : State :=
  if s.running && s.sagTriggers mv warnLow then
    (s.sampled mv warnLow).sagThrottle (BitVec.ofNat 6 (b2n (s.sagFast mv) + 2 * b2n (s.sagSlow mv) + 4 * b2n (s.sagShelf warnLow)))
  else s.sampled mv warnLow

theorem sagSample_eq (s : State) (mv : Nat) (warnLow : Bool) : s.sagSample mv warnLow =
    if !s.powered then s.sampled mv warnLow
    else if 3 ≤ (s.sampled mv warnLow).power.brownRun then
      (s.sagJudged mv warnLow).brownout false (((s.sampled mv warnLow).power.samples.take 3).foldl min mv)
    else s.sagJudged mv warnLow := rfl

theorem sagThrottle_keeps (s : State) (b : BitVec 6) : Keeps [.power, .dict, .remote, .mgmt, .freeCounter] s (s.sagThrottle b) :=
  ((setPowerEvents_keeps _ _).mono (by decide)).trans
    (((sagStarts_keeps (s.setPowerEvents b)).mono (by decide)).trans ((putPower_keeps _ _).mono (by decide)))

theorem sagThrottle_power (s : State) (b : BitVec 6) :
    (s.sagThrottle b).power = { s.power with events := s.power.events ||| b, sag := .inForce } :=
  congrArg (fun p : PowerState => { p with sag := .inForce }) ((sagStarts_keeps (s.setPowerEvents b)).power (by decide))

theorem sagThrottle_eventSeq (s : State) (b : BitVec 6) : (s.sagThrottle b).mgmt.eventSeq =
    if s.power.sag = .none then s.mgmt.eventSeq + 1 else s.mgmt.eventSeq := by
  show (s.setPowerEvents b).sagStarts.mgmt.eventSeq = _
  unfold State.sagStarts
  split
  · next h => rw [if_pos (show s.power.sag = .none from h), powerEvent_eventSeq, (bump_keeps _ _).mgmt (by decide)]; rfl
  · next h => rw [if_neg (show ¬ s.power.sag = .none from h)]; rfl

theorem sampled_keeps (s : State) (mv : Nat) (warnLow : Bool) : Keeps [.power] s (s.sampled mv warnLow) := putPower_keeps s _

theorem sagJudged_keeps (s : State) (mv : Nat) (warnLow : Bool) :
    Keeps [.power, .dict, .remote, .mgmt, .freeCounter] s (s.sagJudged mv warnLow) := by
  have hsampled := (sampled_keeps s mv warnLow).mono (d := [.power, .dict, .remote, .mgmt, .freeCounter]) (by simp)
  exact Keeps.ite (hsampled.trans (sagThrottle_keeps _ _)) hsampled

theorem gives_sagSample_calm {mv : Nat} (hrun : s.running = true) (hfast : 95 * s.power.samples.foldl max 0 ≤ 100 * mv)
    (hlow : 44000 ≤ mv) (hinjected : s.power.injectedSag = none) : Gives (.sagSample mv false) s (fun t =>
      t.power.inputMv = min mv 65535 ∧ t.power.samples = (mv :: s.power.samples).take 20 ∧ t.power.lowRun = 0 ∧ t.power.brownRun = 0 ∧
      t.power.warnRun = 0 ∧ t.power.sag = s.power.sag ∧
      t.power.calmSince = (if 46000 ≤ mv then some (s.power.calmSince.getD s.now) else none) ∧ Keeps [.power] s t) := by
  have hnoInjected : s.begin.sagInjected = false := by simp [State.sagInjected, hinjected]
  have hnone : s.begin.sagTriggers mv false = false := by
    simp [State.sagTriggers, State.sagFast, State.sagSlow, State.sagShelf, hnoInjected, Nat.not_lt.mpr hfast, Nat.not_lt.mpr hlow]
  have hjudged : s.begin.sagJudged mv false = s.begin.sampled mv false := by simp [State.sagJudged, hnone]
  have hsample : s.begin.sagSample mv false = s.begin.sampled mv false := by
    rw [sagSample_eq, powered_of_running (s := s.begin) hrun, hjudged]
    simp [State.sampled, show ¬ mv < 40000 by omega]
  refine ⟨_, congrArg Host.Outcome.next hsample, rfl, rfl, if_neg (by omega), if_neg (by omega), rfl, rfl, ?_,
    Keeps.of_begin (sampled_keeps _ _ _)⟩
  simp [State.sampled, hnone]

theorem gives_sagSample_fast {mv : Nat} {warnLow : Bool} (hrun : s.running = true) (hfast : 100 * mv < 95 * s.power.samples.foldl max 0)
    (hbrown : 40000 ≤ mv) : Gives (.sagSample mv warnLow) s (fun t => t.power.sag = .inForce ∧ t.power.events.getLsbD 0 = true ∧
      t.power.calmSince = none ∧ t.mgmt.eventSeq = (if s.power.sag = .none then s.mgmt.eventSeq + 1 else s.mgmt.eventSeq) ∧
      Keeps [.power, .dict, .remote, .mgmt, .freeCounter] s t) := by
  have hf : s.begin.sagFast mv = true := decide_eq_true hfast
  have htrigger : s.begin.sagTriggers mv warnLow = true := by simp [State.sagTriggers, hf]
  generalize hb : BitVec.ofNat 6 (b2n (s.begin.sagFast mv) + 2 * b2n (s.begin.sagSlow mv) + 4 * b2n (s.begin.sagShelf warnLow)) = b
  have hbit : b.getLsbD 0 = true := by
    rw [← hb, hf]
    cases s.begin.sagSlow mv <;> cases s.begin.sagShelf warnLow <;> rfl
  have hjudged : s.begin.sagJudged mv warnLow = (s.begin.sampled mv warnLow).sagThrottle b := by
    have hrunning : s.begin.running = true := hrun
    rw [State.sagJudged, htrigger, hb, hrunning]
    rfl
  have hsample : s.begin.sagSample mv warnLow = (s.begin.sampled mv warnLow).sagThrottle b := by
    rw [sagSample_eq, powered_of_running (s := s.begin) hrun, hjudged]
    simp [State.sampled, show ¬ mv < 40000 by omega]
  have hpower := sagThrottle_power (s.begin.sampled mv warnLow) b
  refine ⟨_, congrArg Host.Outcome.next hsample, by rw [hpower], ?_, ?_, sagThrottle_eventSeq _ _, ?_⟩
  · rw [hpower]
    simp [hbit]
  · rw [hpower]
    simp [State.sampled, htrigger]
  · exact Keeps.of_begin (((sampled_keeps _ _ _).mono (by decide)).trans (sagThrottle_keeps _ _))

theorem gives_sagSample_brownout {mv : Nat} {warnLow : Bool} (hrun : s.running = true) (hbrown : mv < 40000)
    (hthird : 2 ≤ s.power.brownRun) (hslots : s.liveSlots = []) : Gives (.sagSample mv warnLow) s (fun t =>
      t.power.package = .brownout ∧ t.power.standby = some
        { ftc := s.ftc, trip := false, arg := ((mv :: s.power.samples).take 3).foldl min mv } ∧ t.coh.entries = [] ∧ t.chip = s.chip) := by
  have hthree : 3 ≤ (s.begin.sampled mv warnLow).power.brownRun := by
    refine le_of_le_of_eq (Nat.succ_le_succ hthird) (Eq.symm ?_)
    exact if_pos hbrown
  have hlowest : (s.begin.sampled mv warnLow).power.samples.take 3 = (mv :: s.power.samples).take 3 := List.take_take
  have hsample : s.begin.sagSample mv warnLow =
      (s.begin.sagJudged mv warnLow).brownout false (((mv :: s.power.samples).take 3).foldl min mv) := by
    rw [sagSample_eq, powered_of_running (s := s.begin) hrun, hlowest]
    exact if_pos hthree
  have hkeeps := sagJudged_keeps s.begin mv warnLow
  have hlive : (s.begin.sagJudged mv warnLow).liveSlots = [] := by
    rw [State.liveSlots, hkeeps.plans (by decide)]
    exact hslots
  obtain ⟨hchip, hentries, hpackage, hstandby⟩ :=
    brownout_spec (s := s.begin.sagJudged mv warnLow) false (((mv :: s.power.samples).take 3).foldl min mv) hlive
  rw [hkeeps.ftc (by decide)] at hstandby
  exact ⟨_, congrArg Host.Outcome.next hsample, hpackage, hstandby, hentries, hchip.trans (hkeeps.chip (by decide))⟩

/-! ### Clocks of clusters (R527, R530) -/

/-- The clocks of a list are set, one after the other. -/
def State.setClocks (s : State) (l : List (Nat × Nat)) : State := l.foldl (fun (t : State) e => t.setClusterClock e.1 e.2) s

theorem setClocks_keeps (s : State) (l : List (Nat × Nat)) : Keeps [.power] s (s.setClocks l) :=
  Keeps.foldl (fun _ _ => setClusterClock_keeps _ _ _) _ _

theorem clusterSet_setClusterClock_self (h : Store.wf 1800 s.power.clocks = true) (c mhz : Nat) :
    (s.setClusterClock c mhz).clusterSet c = mhz := Store.read_write_same (lo := 0) _ _ _ h

theorem clusterSet_setClusterClock_ne (h : Store.wf 1800 s.power.clocks = true) {c k : Nat} (mhz : Nat) (hk : k ≠ c) :
    (s.setClusterClock c mhz).clusterSet k = s.clusterSet k := Store.read_write_other (lo := 0) _ _ _ _ hk h

theorem clocks_setClusterClock_wf (h : Store.wf 1800 s.power.clocks = true) (c mhz : Nat) :
    Store.wf 1800 (s.setClusterClock c mhz).power.clocks = true := Store.wf_write _ _ _ h

/-- A cluster that is not in the list. -/
theorem clusterSet_setClocks_ne (l : List (Nat × Nat)) {s : State} (h : Store.wf 1800 s.power.clocks = true) {k : Nat}
    (hk : ∀ e ∈ l, e.1 ≠ k) : (s.setClocks l).clusterSet k = s.clusterSet k := by
  induction l generalizing s with
  | nil => rfl
  | cons a l ih =>
    refine (ih (clocks_setClusterClock_wf h _ _) fun e he => hk e (List.mem_cons_of_mem _ he)).trans ?_
    exact clusterSet_setClusterClock_ne h _ (hk a (List.mem_cons_self ..)).symm

/-- A cluster that is in the list with one clock only. -/
theorem clusterSet_setClocks (l : List (Nat × Nat)) {s : State} (h : Store.wf 1800 s.power.clocks = true) {e : Nat × Nat} (he : e ∈ l)
    (honly : ∀ x ∈ l, x.1 = e.1 → x = e) : (s.setClocks l).clusterSet e.1 = e.2 := by
  induction l generalizing s with
  | nil => cases he
  | cons a l ih =>
    by_cases hel : e ∈ l
    · exact ih (clocks_setClusterClock_wf h _ _) hel fun x hx => honly x (List.mem_cons_of_mem _ hx)
    · obtain rfl : e = a := (List.mem_cons.mp he).resolve_right hel
      refine (clusterSet_setClocks_ne l (clocks_setClusterClock_wf h _ _) fun x hx hxe => ?_).trans
        (clusterSet_setClusterClock_self h _ _)
      exact hel (honly x (List.mem_cons_of_mem _ hx) hxe ▸ hx)

/-- The clocks that are asked of a list of clusters apply. -/
def State.applyRequests (s : State) (l : List Nat) : State :=
  l.foldl (fun (t : State) c => t.setClusterClock c (t.num (O.clusterClockRequestMhz (unitIndex (clusterLoc c))) 1800)) s

def State.limited (s : State) : State := { s with power := { s.power with limitW := s.num O.powerLimitW 3000 } }

theorem applyStored_eq (s : State) : s.applyStored = if s.power.sag ≠ .none ∨ s.power.thermal then s else
    s.limited.applyRequests ((List.range 256).filter fun c =>
      !(s.limited.clusterStatic c) && s.limited.florets.clockRises.all (fun e => decide (e.1 ≠ c))) := rfl

theorem applyRequests_power (l : List Nat) (s : State) : ∃ clocks, (s.applyRequests l).power = { s.power with clocks := clocks } := by
  induction l generalizing s with
  | nil => exact ⟨_, rfl⟩
  | cons c l ih => exact ih (s.setClusterClock c (s.num (O.clusterClockRequestMhz (unitIndex (clusterLoc c))) 1800))

/-- What was stored applies: the power limit and clocks are written, and nothing else. -/
theorem applyStored_power (s : State) : ∃ limit clocks, s.applyStored.power = { s.power with limitW := limit, clocks := clocks } := by
  rw [applyStored_eq]
  split
  · exact ⟨_, _, rfl⟩
  · exact ⟨_, applyRequests_power _ s.limited⟩

theorem applyStored_keeps (s : State) : Keeps [.power] s s.applyStored := by
  rw [applyStored_eq]
  exact Keeps.ite (Keeps.refl _ _) ((putPower_keeps s _).trans (Keeps.foldl (fun _ _ => setClusterClock_keeps _ _ _) _ _))

/-! ### The release of the throttle (R523) -/

/-- The state after step `k` of a release. -/
def State.releasing (s : State) (k : Nat) : State :=
  { s with power := { s.power with sag := if 4 ≤ k then .none else .releasing k, releaseDue := s.now + nsUnits 250 } }

def State.released (s : State) (k : Nat) : State := if 4 ≤ k then (s.releasing k).applyStored else s.releasing k

theorem releaseStep_inForce {calm : Nat} (hsag : s.power.sag = .inForce) (hcalm : s.power.calmSince = some calm) :
    s.releaseStep = (s.elapse (calm + usUnits (s.num O.sagReleaseUs 2))).released 1 := by
  unfold State.releaseStep
  rw [hsag, hcalm]
  rfl

theorem releaseStep_releasing {k : Nat} (hsag : s.power.sag = .releasing k) :
    s.releaseStep = (s.elapse s.power.releaseDue).released (k + 1) := by
  unfold State.releaseStep
  rw [hsag]
  rfl

theorem released_keeps (s : State) (k : Nat) : Keeps [.power] s (s.released k) :=
  Keeps.ite ((putPower_keeps s _).trans (applyStored_keeps _)) (putPower_keeps s _)

theorem released_sag (s : State) (k : Nat) : (s.released k).power.sag = if 4 ≤ k then .none else .releasing k := by
  unfold State.released
  split
  · next h =>
    obtain ⟨_, _, hpower⟩ := applyStored_power (s.releasing k)
    rw [hpower]
    exact if_pos h
  · next h => exact if_neg h

theorem released_due (s : State) (k : Nat) : (s.released k).power.releaseDue = s.now + nsUnits 250 := by
  unfold State.released
  split
  · obtain ⟨_, _, hpower⟩ := applyStored_power (s.releasing k)
    rw [hpower]
    rfl
  · rfl

theorem gives_throttleRelease_first {calm : Nat} (hrun : s.running = true) (hsag : s.power.sag = .inForce)
    (hcalm : s.power.calmSince = some calm) : Gives .throttleRelease s (fun t =>
      t.now = max s.now (calm + usUnits (s.num O.sagReleaseUs 2)) ∧ t.power.sag = .releasing 1 ∧
      t.power.releaseDue = t.now + nsUnits 250 ∧ Keeps [.now, .ftc, .dict, .power] s t) := by
  have hkeeps := released_keeps (s.begin.elapse (calm + usUnits (s.begin.num O.sagReleaseUs 2))) 1
  have hnow := hkeeps.now (by decide)
  refine gives_of_running hrun rfl (releaseStep_inForce (s := s.begin) hsag hcalm) ⟨?_, released_sag _ 1, ?_, ?_⟩
  · rw [hnow, elapse_now]
    rfl
  · rw [released_due, hnow]
  · exact Keeps.of_begin (((elapse_keeps _ _).mono (by decide)).trans (hkeeps.mono (by decide)))

theorem gives_throttleRelease_next {k : Nat} (hrun : s.running = true) (hsag : s.power.sag = .releasing k) :
    Gives .throttleRelease s (fun t => t.now = max s.now s.power.releaseDue ∧
      t.power.sag = (if 3 ≤ k then .none else .releasing (k + 1)) ∧ t.power.releaseDue = t.now + nsUnits 250 ∧
      Keeps [.now, .ftc, .dict, .power] s t) := by
  have hkeeps := released_keeps (s.begin.elapse s.begin.power.releaseDue) (k + 1)
  have hnow := hkeeps.now (by decide)
  refine gives_of_running hrun rfl (releaseStep_releasing (s := s.begin) hsag) ⟨?_, ?_, ?_, ?_⟩
  · rw [hnow, elapse_now]
    rfl
  · rw [released_sag]
    simp
  · rw [released_due, hnow]
  · exact Keeps.of_begin (((elapse_keeps _ _).mono (by decide)).trans (hkeeps.mono (by decide)))

/-! ### Thermal limits (R526) -/

/-- The state in which a temperature has been read. -/
def State.heated (s : State) (c16 : Nat) : State := { s with power := { s.power with jmax := min c16 4095 } }

theorem heated_keeps (s : State) (c16 : Nat) : Keeps [.power] s (s.heated c16) := putPower_keeps s _

/-- The thermal throttle comes into force. -/
def State.thermalStarts (s : State) : State :=
  (State.setPowerEvents { s with power := { s.power with thermal := true, thermalAt := s.now } } 16).powerEvent

theorem thermalSample_eq (s : State) (c16 : Nat) : s.thermalSample c16 =
    if !s.powered then s.heated c16
    else if 1680 ≤ c16 then (s.heated c16).brownout true c16
    else if 1600 ≤ c16 ∧ s.running ∧ !s.power.thermal then (s.heated c16).thermalStarts
    else s.heated c16 := rfl

theorem gives_thermalSample_cool {c16 : Nat} (hrun : s.running = true) (hcool : c16 < 1600) :
    Gives (.thermalSample c16) s (fun t => t.power = { s.power with jmax := c16 } ∧ Keeps [.power] s t) := by
  have hsample : s.begin.thermalSample c16 = s.begin.heated c16 := by
    rw [thermalSample_eq, powered_of_running (s := s.begin) hrun, if_neg (show ¬ 1680 ≤ c16 by omega),
      if_neg (show ¬ (1600 ≤ c16 ∧ s.begin.running ∧ (!s.begin.power.thermal) = true) from fun h => absurd h.1 (Nat.not_le.mpr hcool))]
    rfl
  refine ⟨_, congrArg Host.Outcome.next hsample, ?_, Keeps.of_begin (heated_keeps _ _)⟩
  rw [State.heated, Nat.min_eq_left (by omega)]
  rfl

theorem gives_thermalSample_hot {c16 : Nat} (hrun : s.running = true) (hhot : 1600 ≤ c16) (htrip : c16 < 1680)
    (hthermal : s.power.thermal = false) : Gives (.thermalSample c16) s (fun t =>
      t.power = { s.power with jmax := c16, thermal := true, thermalAt := s.now, events := s.power.events ||| 16 } ∧
      t.mgmt.eventSeq = s.mgmt.eventSeq + 1 ∧ Keeps [.power, .dict, .remote, .mgmt, .freeCounter] s t) := by
  have hsample : s.begin.thermalSample c16 = (s.begin.heated c16).thermalStarts := by
    have hstarts : 1600 ≤ c16 ∧ s.begin.running ∧ (!s.begin.power.thermal) = true := ⟨hhot, hrun, by rw [State.begin_power, hthermal]; rfl⟩
    rw [thermalSample_eq, powered_of_running (s := s.begin) hrun, if_neg (show ¬ 1680 ≤ c16 by omega), if_pos hstarts]
    rfl
  generalize hu : State.setPowerEvents { (s.begin.heated c16) with power := { (s.begin.heated c16).power with
      thermal := true, thermalAt := s.now } } 16 = u
  have hstarts : (s.begin.heated c16).thermalStarts = u.powerEvent := congrArg State.powerEvent hu
  have hkeeps : Keeps [.power] s u := Keeps.of_begin (hu ▸ putPower_keeps s.begin _)
  have hevent := powerEvent_keeps u
  refine ⟨_, congrArg Host.Outcome.next (hsample.trans hstarts), ?_, ?_, (hkeeps.mono (by decide)).trans (hevent.mono (by decide))⟩
  · rw [hevent.power (by decide), ← hu, State.heated, Nat.min_eq_left (by omega)]
    rfl
  · rw [powerEvent_eventSeq, hkeeps.mgmt (by decide)]

theorem gives_thermalSample_trip {c16 : Nat} (hrun : s.running = true) (htrip : 1680 ≤ c16) (hslots : s.liveSlots = []) :
    Gives (.thermalSample c16) s (fun t => t.power.package = .thermalOff ∧
      t.power.standby = some { ftc := s.ftc, trip := true, arg := c16 } ∧ t.coh.entries = []) := by
  have hsample : s.begin.thermalSample c16 = (s.begin.heated c16).brownout true c16 := by
    rw [thermalSample_eq, powered_of_running (s := s.begin) hrun]
    exact if_pos htrip
  obtain ⟨-, hentries, hpackage, hstandby⟩ := brownout_spec (s := s.begin.heated c16) true c16 hslots
  exact ⟨_, congrArg Host.Outcome.next hsample, hpackage, hstandby, hentries⟩

/-- The present time is noted as that of the thermal throttle's last step. -/
def State.thermalStamped (s : State) : State := { s with power := { s.power with thermalAt := s.now } }

/-- Another ms is judged in the state at its end. -/
theorem thermalStep_stamped (h : s.power.thermal = true) :
    s.thermalStep = (s.elapse (s.power.thermalAt + msUnits 1)).thermalStamped.thermalMs.thermalEnd := by
  unfold State.thermalStep State.thermalStamped
  rw [if_neg (by rw [h]; decide)]

/-- A time that passes and is noted changes no more than the time and the note. -/
theorem elapse_thermalStamped (s : State) (n : Nat) : ∃ u : State, u.now = max s.now n ∧
    u.power = { s.power with thermalAt := u.now } ∧ Keeps [.now, .ftc, .dict, .power] s u ∧ (s.elapse n).thermalStamped = u := by
  have hnow := elapse_now s n
  have hpower := elapse_power s n
  have hkeeps := elapse_keeps s n
  generalize s.elapse n = v at hnow hpower hkeeps ⊢
  exact ⟨v.thermalStamped, hnow, by rw [← hpower]; rfl, (hkeeps.mono (by decide)).trans ((putPower_keeps v _).mono (by decide)), rfl⟩

theorem thermalStep_eq (h : s.power.thermal = true) : ∃ u, u.now = max s.now (s.power.thermalAt + msUnits 1) ∧
    u.power = { s.power with thermalAt := u.now } ∧ Keeps [.now, .ftc, .dict, .power] s u ∧ s.thermalStep = u.thermalMs.thermalEnd := by
  obtain ⟨u, hnow, hpower, hkeeps, hu⟩ := elapse_thermalStamped s (s.power.thermalAt + msUnits 1)
  exact ⟨u, hnow, hpower, hkeeps, by rw [thermalStep_stamped h, hu]⟩

/-- When the last step was does not say how far clocks may fall. -/
theorem canSlow_eq {n : Nat} (hflorets : t.florets = s.florets) (hpower : t.power = { s.power with thermalAt := n }) :
    t.canSlow = s.canSlow := by
  have hstatic : t.clusterStatic = s.clusterStatic := by
    funext c
    rw [State.clusterStatic, hflorets, ← State.clusterStatic]
  have hthermal : t.clusterThermal = s.clusterThermal := by
    funext c
    simp only [State.clusterThermal, State.clusterPowered, State.clusterSet, State.powerStepsOf, hstatic, hpower]
  funext static
  simp only [State.canSlow, hstatic, hthermal]

/-- At 100 °C the steps go down, and the throttle does not end. -/
theorem thermalMs_hot (hhot : 1600 ≤ s.power.jmax) : s.thermalMs.thermalEnd =
    s.setThermal (if s.canSlow false then s.power.thermalDyn + 1 else s.power.thermalDyn)
      (if s.canSlow false = false ∧ s.canSlow true then s.power.thermalStatic + 1 else s.power.thermalStatic) := by
  have hend : ∀ d k, (s.setThermal d k).thermalEnd = s.setThermal d k := fun d k => if_neg fun h => by
    have hlow : s.power.jmax < 1552 := h.1
    omega
  unfold State.thermalMs
  dsimp only
  rw [if_pos hhot]
  cases hdyn : s.canSlow false <;> cases hstatic : s.canSlow true
  · exact hend s.power.thermalDyn s.power.thermalStatic
  · exact hend _ _
  · exact hend _ _
  · exact hend _ _

theorem gives_thermalThrottleStep_hot (hrun : s.running = true) (hthermal : s.power.thermal = true) (hhot : 1600 ≤ s.power.jmax) :
    Gives .thermalThrottleStep s (fun t => t.now = max s.now (s.power.thermalAt + msUnits 1) ∧
      t.power = { s.power with
        thermalAt := t.now, thermalDyn := if s.canSlow false then s.power.thermalDyn + 1 else s.power.thermalDyn
        thermalStatic := if s.canSlow false = false ∧ s.canSlow true then s.power.thermalStatic + 1 else s.power.thermalStatic } ∧
      Keeps [.now, .ftc, .dict, .power] s t) := by
  obtain ⟨u, hnow, hpower, hkeeps, hstep⟩ := thermalStep_eq (s := s.begin) hthermal
  have hslow : u.canSlow = s.canSlow := canSlow_eq (hkeeps.florets (by decide)) hpower
  rw [thermalMs_hot (by rw [hpower]; exact hhot), hslow, hpower] at hstep
  refine gives_of_running hrun rfl hstep ⟨hnow, ?_, Keeps.of_begin (hkeeps.trans ((putPower_keeps _ _).mono (by decide)))⟩
  simp only [State.setThermal, hpower, State.begin_power]

/-- Below 97 °C the last step is undone. -/
theorem thermalMs_cool (hcool : s.power.jmax < 1552) : s.thermalMs =
    s.setThermal (if s.power.thermalStatic ≠ 0 then s.power.thermalDyn else s.power.thermalDyn - 1) (s.power.thermalStatic - 1) := by
  unfold State.thermalMs
  dsimp only
  rw [if_neg (show ¬ 1600 ≤ s.power.jmax by omega), if_neg (show ¬ 1552 ≤ s.power.jmax by omega)]
  split
  · rfl
  · next h => rw [show s.power.thermalStatic - 1 = 0 by omega]

/-- The throttle ends with its last step. -/
theorem thermalEnd_power (hcool : s.power.jmax < 1552) (hthermal : s.power.thermal = true) :
    s.thermalEnd.power.thermalDyn = s.power.thermalDyn ∧ s.thermalEnd.power.thermalStatic = s.power.thermalStatic ∧
      s.thermalEnd.power.thermal = !(decide (s.power.thermalDyn = 0 ∧ s.power.thermalStatic = 0)) := by
  unfold State.thermalEnd
  split
  · next h =>
    obtain ⟨_, _, hpower⟩ := applyStored_power { s with power := { s.power with thermal := false } }
    rw [hpower]
    exact ⟨rfl, rfl, by rw [decide_eq_true h.2]; rfl⟩
  · next h => exact ⟨rfl, rfl, by rw [decide_eq_false fun h' => h ⟨hcool, h'⟩]; exact hthermal⟩

theorem thermalEnd_keeps (s : State) : Keeps [.power] s s.thermalEnd :=
  Keeps.ite ((putPower_keeps s _).trans (applyStored_keeps _)) (Keeps.refl _ _)

theorem gives_thermalThrottleStep_cool (hrun : s.running = true) (hthermal : s.power.thermal = true) (hcool : s.power.jmax < 1552) :
    Gives .thermalThrottleStep s (fun t => t.power.thermalStatic = s.power.thermalStatic - 1 ∧
      t.power.thermalDyn = (if s.power.thermalStatic ≠ 0 then s.power.thermalDyn else s.power.thermalDyn - 1) ∧
      (t.power.thermal = !(decide (t.power.thermalDyn = 0 ∧ t.power.thermalStatic = 0))) ∧ Keeps [.now, .ftc, .dict, .power] s t) := by
  obtain ⟨v, -, hv, hkeeps, hstep⟩ := thermalStep_eq (s := s.begin) hthermal
  have hdynv : v.power.thermalDyn = s.power.thermalDyn := by rw [hv]; rfl
  have hstaticv : v.power.thermalStatic = s.power.thermalStatic := by rw [hv]; rfl
  rw [thermalMs_cool (by rw [hv]; exact hcool), hdynv, hstaticv] at hstep
  generalize hu : v.setThermal (if s.power.thermalStatic ≠ 0 then s.power.thermalDyn else s.power.thermalDyn - 1)
    (s.power.thermalStatic - 1) = u at hstep
  have hset : Keeps [.power] v u := by rw [← hu]; exact putPower_keeps v _
  have hpower : u.power = { v.power with
      thermalDyn := if s.power.thermalStatic ≠ 0 then s.power.thermalDyn else s.power.thermalDyn - 1
      thermalStatic := s.power.thermalStatic - 1 } := by rw [← hu]; rfl
  obtain ⟨hdyn, hstatic, hend⟩ := thermalEnd_power (s := u) (by rw [hpower, hv]; exact hcool) (by rw [hpower, hv]; exact hthermal)
  refine gives_of_running hrun rfl hstep ⟨?_, ?_, ?_, Keeps.of_begin (hkeeps.trans ?_)⟩
  · rw [hstatic, hpower]
  · rw [hdyn, hpower]
  · rw [hdyn, hstatic, hend]
  · exact (hset.trans (thermalEnd_keeps u)).mono (by decide)

/-! ### The reference clock (R528) -/

/-- The parent's offset is noted. -/
def State.offsetNoted (s : State) (parentPpb : Option Int) : State :=
  match parentPpb with
  | none => s
  | some d => s.setNum O.referenceOffsetPpb (i32 d)

/-- The package holds after its reference is lost. -/
def State.referenceHeld (s : State) : State :=
  let t := (s.portsDown.fault 0x42 (s.portsDown.path .package) 0).warmReset .referenceFail
  ({ t with power := { t.power with package := .referenceHold } } : State).setNum O.referenceState 1

theorem offsetNoted_keeps (s : State) (parentPpb : Option Int) : Keeps [.dict] s (s.offsetNoted parentPpb) := by
  cases parentPpb with
  | none => exact Keeps.refl _ _
  | some d => exact setNum_keeps _ _ _

theorem referenceCheck_steady {ppb : Int} {parentPpb : Option Int} (hppb : ppb.natAbs ≤ 200000) :
    s.referenceCheck ppb parentPpb false = s.offsetNoted parentPpb := by
  unfold State.referenceCheck State.offsetNoted
  rw [decide_eq_false (Nat.not_lt.mpr hppb)]
  rfl

theorem referenceCheck_eq {ppb : Int} {parentPpb : Option Int} : s.referenceCheck ppb parentPpb true =
    ((s.offsetNoted parentPpb).liveSlots.foldl (fun (t : State) n => t.planContain n .timeLoss) (s.offsetNoted parentPpb)).referenceHeld := by
  unfold State.referenceCheck State.referenceHeld State.portsDown State.offsetNoted
  cases parentPpb
  all_goals
    dsimp only
    rw [if_neg (by simp)]

theorem referenceCheck_stopped {ppb : Int} {parentPpb : Option Int} (hslots : s.liveSlots = []) :
    s.referenceCheck ppb parentPpb true = (s.offsetNoted parentPpb).referenceHeld := by
  have hnoted : (s.offsetNoted parentPpb).liveSlots = [] := by cases parentPpb <;> exact hslots
  rw [referenceCheck_eq, hnoted, List.foldl_nil]

theorem referenceHeld_spec (s : State) : s.referenceHeld.power.package = .referenceHold ∧ s.referenceHeld.power.cause = .referenceFail ∧
    s.referenceHeld.num O.referenceState 0 = 1 ∧ s.referenceHeld.faults.seq = s.faults.seq + 1 ∧ s.referenceHeld.faults.lastCode = 0x42 ∧
    s.referenceHeld.chip = s.chip := by
  have hdown := portsDown_keeps s
  have hfault := fault_keeps s.portsDown 0x42 (s.portsDown.path .package) 0 0 .ok none
  have hseq := fault_seq s.portsDown 0x42 (s.portsDown.path .package) 0 0 .ok none
  have hcode := fault_lastCode s.portsDown 0x42 (s.portsDown.path .package) 0 0 .ok none
  unfold State.referenceHeld
  generalize s.portsDown.fault 0x42 (s.portsDown.path .package) 0 0 .ok none = u at hfault hseq hcode ⊢
  have hwarm := warmReset_spec u .referenceFail
  generalize u.warmReset .referenceFail = t at hwarm ⊢
  refine ⟨rfl, hwarm.cause, num_setNum_self _ _ _ _, hwarm.seq.trans ?_, hwarm.lastCode.trans hcode, hwarm.chip.trans ?_⟩
  · rw [hseq, hdown.faults (by decide)]
  · rw [hfault.chip (by decide), hdown.chip (by decide)]

theorem gives_referenceMonitor_steady {ppb : Int} {parentPpb : Option Int} (hrun : s.running = true) (hppb : ppb.natAbs ≤ 200000) :
    Gives (.referenceMonitor ppb parentPpb false) s (fun t => (∀ d, parentPpb = some d → t.num O.referenceOffsetPpb 0 = i32 d) ∧
      (parentPpb = none → t.dict = s.dict) ∧ Keeps [.dict] s t) := by
  refine gives_of_running hrun rfl (referenceCheck_steady hppb) ⟨?_, ?_, Keeps.of_begin (offsetNoted_keeps _ _)⟩
  · rintro d rfl
    exact num_setNum_self _ _ _ _
  · rintro rfl
    rfl

theorem gives_referenceMonitor_stopped {ppb : Int} {parentPpb : Option Int} (hrun : s.running = true) (hslots : s.liveSlots = []) :
    Gives (.referenceMonitor ppb parentPpb true) s (fun t => t.power.package = .referenceHold ∧ t.power.cause = .referenceFail ∧
      t.num O.referenceState 0 = 1 ∧ t.faults.seq = s.faults.seq + 1 ∧ t.faults.lastCode = 0x42 ∧ t.chip = s.chip) := by
  have hnoted := Keeps.of_begin (offsetNoted_keeps s.begin parentPpb)
  obtain ⟨hpackage, hcause, hstate, hseq, hcode, hchip⟩ := referenceHeld_spec (s.begin.offsetNoted parentPpb)
  refine gives_of_running hrun rfl (referenceCheck_stopped (s := s.begin) hslots) ⟨hpackage, hcause, hstate, ?_, hcode, ?_⟩
  · rw [hseq, hnoted.faults (by decide)]
  · rw [hchip, hnoted.chip (by decide)]

/-! ### Clock requests and the rail (R530) -/

/-- The rises that wait for a rail are these. -/
def State.setRises (s : State) (l : List (Nat × Nat)) : State := { s with florets := { s.florets with clockRises := l } }

theorem setRises_keeps (s : State) (l : List (Nat × Nat)) : Keeps [.florets] s (s.setRises l) := putFlorets_keeps s _

/-- What an accepted request does, with no throttle in force and no plan on the cluster. -/
def State.clockRequested (s : State) (cluster mhz : Nat) : State :=
  let rises := s.florets.clockRises.filter (fun e => decide (e.1 ≠ cluster))
  let t := s.setNum (O.clusterClockRequestMhz (unitIndex (clusterLoc cluster))) mhz
  if s.clusterSet cluster < mhz then t.setRises (rises ++ [(cluster, mhz)]) else (t.setRises rises).setClusterClock cluster mhz

theorem clockRequest_eq {p : DictPath} {cluster mhz : Nat} (hcluster : cluster < 256) (hlow : 600 ≤ mhz) (hhigh : mhz ≤ 2000)
    (hstep : mhz % 100 = 0) (hstatic : s.clusterStatic cluster = false) (hsag : s.power.sag = .none) (hthermal : s.power.thermal = false) :
    s.clockRequest p cluster mhz = ((s.armSpent (.dict p) 0).clockRequested cluster mhz).answer served := by
  have hcheck : (if 256 ≤ cluster then some (refusal .rsvd)
      else if mhz < 600 ∨ 2000 < mhz ∨ mhz % 100 ≠ 0 then some (refusal .param) else none) = none := by
    rw [if_neg (by omega), if_neg (by omega)]
  have hfree : ¬ (((s.armSpent (.dict p) 0).setNum (O.clusterClockRequestMhz (unitIndex (clusterLoc cluster))) mhz).clusterStatic cluster ∨
      s.power.sag ≠ .none ∨ s.power.thermal) := by
    have hplan : ((s.armSpent (.dict p) 0).setNum (O.clusterClockRequestMhz (unitIndex (clusterLoc cluster))) mhz).clusterStatic cluster =
        false := hstatic
    rw [hplan, hsag, hthermal]
    decide
  unfold State.clockRequest
  refine (openWrite_accepted (guarded := false) hcheck nofun).trans ?_
  exact congrArg (fun t => State.answer t served) (if_neg hfree)

theorem clockRequested_spec {cluster mhz : Nat} (hwf : Store.wf 1800 s.power.clocks = true) :
    (s.clockRequested cluster mhz).num (O.clusterClockRequestMhz (unitIndex (clusterLoc cluster))) 1800 = mhz ∧
      (s.clockRequested cluster mhz).clusterSet cluster = (if s.clusterSet cluster < mhz then s.clusterSet cluster else mhz) ∧
      (s.clockRequested cluster mhz).florets.clockRises = s.florets.clockRises.filter (fun e => decide (e.1 ≠ cluster)) ++
        (if s.clusterSet cluster < mhz then [(cluster, mhz)] else []) ∧
      Keeps [.dict, .florets, .power] s (s.clockRequested cluster mhz) := by
  have hnum := (setNum_keeps s (O.clusterClockRequestMhz (unitIndex (clusterLoc cluster))) mhz).mono (d := [.dict, .florets, .power]) (by simp)
  unfold State.clockRequested
  dsimp only
  split
  · exact ⟨num_setNum_self _ _ _ _, rfl, rfl, hnum.trans ((setRises_keeps _ _).mono (by decide))⟩
  · refine ⟨num_setNum_self _ _ _ _, clusterSet_setClusterClock_self hwf _ _, (List.append_nil _).symm, ?_⟩
    exact hnum.trans (((setRises_keeps _ _).mono (by decide)).trans ((setClusterClock_keeps _ _ _).mono (by decide)))

theorem gives_clockRequestWrite {p : DictPath} {cluster mhz : Nat} (hrun : s.running = true) (hcluster : cluster < 256) (hlow : 600 ≤ mhz)
    (hhigh : mhz ≤ 2000) (hstep : mhz % 100 = 0) (hstatic : s.clusterStatic cluster = false) (hsag : s.power.sag = .none)
    (hthermal : s.power.thermal = false) (hwf : Store.wf 1800 s.power.clocks = true) :
    Gives (.clockRequestWrite p cluster mhz) s (fun t => t.num (O.clusterClockRequestMhz (unitIndex (clusterLoc cluster))) 1800 = mhz ∧
      t.clusterSet cluster = (if s.clusterSet cluster < mhz then s.clusterSet cluster else mhz) ∧
      t.florets.clockRises = s.florets.clockRises.filter (fun e => decide (e.1 ≠ cluster)) ++
        (if s.clusterSet cluster < mhz then [(cluster, mhz)] else []) ∧
      Answers t .ok ∧ Keeps [.dict, .florets, .power, .mgmt, .freeCounter] s t) := by
  obtain ⟨hnum, hset, hrises, hkeeps⟩ := clockRequested_spec (s := s.begin.armSpent (.dict p) 0) (cluster := cluster) (mhz := mhz) hwf
  refine gives_of_running hrun rfl (clockRequest_eq (s := s.begin) hcluster hlow hhigh hstep hstatic hsag hthermal)
    ⟨hnum, hset, hrises, rfl, Keeps.of_begin ?_⟩
  exact (answer_eff_keeps (eff := fun u => u.clockRequested cluster mhz) hkeeps).mono (by decide)

/-- The state in which a rail's value is drawn and its rises are taken from the list. -/
def State.railDrawn (s : State) (q : Nat) : State :=
  let v := (s.setRises (s.florets.clockRises.filter (fun e => decide (e.1 / 16 ≠ q)))).free 65536
  { v.2 with power := { v.2.power with rails := Store.write 0 v.2.power.rails q v.1 } }

theorem railDrawn_keeps (s : State) (q : Nat) : Keeps [.florets, .power, .freeCounter] s (s.railDrawn q) :=
  ((setRises_keeps s _).mono (by decide)).trans (((free_keeps _ _).mono (by decide)).trans ((putPower_keeps _ _).mono (by decide)))

/-- The rises of a quadrant that are not a plan's. -/
def State.railRises (s : State) (q : Nat) : List (Nat × Nat) :=
  (s.florets.clockRises.filter (fun e => decide (e.1 / 16 = q))).filter (fun e => !(s.clusterStatic e.1))

theorem railSettled_eq {q : Nat} (hsag : s.power.sag = .none) (hthermal : s.power.thermal = false) :
    s.railSettled q = (s.railDrawn q).setClocks (s.railRises q) := by
  have hfree : ¬ (s.power.sag ≠ .none ∨ s.power.thermal) := by
    rw [hsag, hthermal]
    decide
  exact if_neg hfree

theorem mem_railRises {q : Nat} {e : Nat × Nat} :
    e ∈ s.railRises q ↔ e ∈ s.florets.clockRises ∧ e.1 / 16 = q ∧ s.clusterStatic e.1 = false := by
  simp only [State.railRises, List.mem_filter, decide_eq_true_eq, Bool.not_eq_true', and_assoc]

theorem gives_railSettled {q : Nat} (hrun : s.running = true) (hq : q < 16) (hsag : s.power.sag = .none) (hthermal : s.power.thermal = false)
    (hwf : Store.wf 1800 s.power.clocks = true) : Gives (.railSettled q) s (fun t =>
      (∀ e ∈ s.florets.clockRises, e.1 / 16 = q → s.clusterStatic e.1 = false →
        s.florets.clockRises.all (fun x => decide (x.1 = e.1 → x = e)) = true → t.clusterSet e.1 = e.2) ∧
      t.florets.clockRises = s.florets.clockRises.filter (fun e => decide (e.1 / 16 ≠ q)) ∧
      (∀ k ∈ List.range 256, k / 16 ≠ q → t.clusterSet k = s.clusterSet k) ∧ Keeps [.florets, .power, .freeCounter] s t) := by
  have hsettled : (if q < 16 then s.begin.railSettled q else s.begin) = (s.begin.railDrawn q).setClocks (s.begin.railRises q) :=
    (if_pos hq).trans (railSettled_eq (s := s.begin) hsag hthermal)
  have hclocks := setClocks_keeps (s.begin.railDrawn q) (s.begin.railRises q)
  refine gives_of_running hrun rfl hsettled ⟨fun e he hquad hstatic honly => ?_, ?_, fun k _ hk => ?_, ?_⟩
  · refine clusterSet_setClocks _ (s := s.begin.railDrawn q) hwf (mem_railRises.mpr ⟨he, hquad, hstatic⟩) fun x hx hxe => ?_
    exact of_decide_eq_true (List.all_eq_true.mp honly x (mem_railRises.mp hx).1) hxe
  · rw [hclocks.florets (by decide)]
    rfl
  · refine clusterSet_setClocks_ne _ (s := s.begin.railDrawn q) hwf fun e he hek => hk ?_
    rw [← hek]
    exact (mem_railRises.mp he).2.1
  · exact Keeps.of_begin ((railDrawn_keeps _ _).trans (hclocks.mono (by decide)))

/-! ### The watchdog (R534) -/

theorem gives_heartbeat {part : Nat} (hrun : s.running = true) (hpart : part < 6) : Gives (.heartbeat part) s (fun t =>
    t.power = { s.power with heartbeats := s.power.heartbeats ||| BitVec.ofNat 6 (2 ^ part) } ∧ Keeps [.power] s t) :=
  gives_of_running hrun rfl (if_pos hpart) ⟨rfl, Keeps.of_begin (putPower_keeps s.begin _)⟩

theorem gives_watchdogRestart (hrun : s.running = true) (hbeats : s.power.heartbeats = 63) : Gives .watchdogRestart s (fun t =>
    t.power = { s.power with heartbeats := 0, watchdogAt := s.now, warned := false, watchdogMs := s.num O.watchdogTimeoutMs 2000 } ∧
      Keeps [.power] s t) := by
  have hmissing : s.begin.missingParts = 0 := by
    have hnat : s.begin.power.heartbeats.toNat = 63 := congrArg BitVec.toNat hbeats
    rw [State.missingParts, hnat]
  exact gives_of_running hrun rfl (if_pos hmissing) ⟨rfl, Keeps.of_begin (putPower_keeps s.begin _)⟩

/-- The watchdog warns: fault 0x23 names the parts that are missing. -/
def State.watchdogWarns (s : State) : State :=
  ({ s with power := { s.power with warned := true } } : State).fault 0x23 (s.path .package) s.missingParts

theorem watchdogWarns_after (s : State) (n : Nat) : (s.elapse n).watchdogWarns.now = max s.now n ∧
    (s.elapse n).watchdogWarns.power = { s.power with warned := true } ∧ (s.elapse n).watchdogWarns.faults.seq = s.faults.seq + 1 ∧
    (s.elapse n).watchdogWarns.faults.lastCode = 0x23 ∧
    Keeps [.now, .ftc, .dict, .power, .remote, .mgmt, .faults, .freeCounter] s (s.elapse n).watchdogWarns := by
  have hnow := elapse_now s n
  have hpower := elapse_power s n
  have hkeeps := elapse_keeps s n
  generalize s.elapse n = u at hnow hpower hkeeps ⊢
  have hfault := fault_keeps { u with power := { u.power with warned := true } } 0x23 (u.path .package) u.missingParts 0 .ok none
  refine ⟨(hfault.now (by decide)).trans hnow, (hfault.power (by decide)).trans ?_, (fault_seq _ _ _ _ _ _ _).trans ?_,
    fault_lastCode _ _ _ _ _ _ _, ?_⟩
  · rw [hpower]
  · rw [hkeeps.faults (by decide)]
  · exact (hkeeps.mono (by decide)).trans (((putPower_keeps u _).mono (by decide)).trans (hfault.mono (by decide)))

theorem gives_watchdogWarning (hrun : s.running = true) (hwarned : s.power.warned = false) : Gives .watchdogWarning s (fun t =>
    t.now = max s.now (s.power.watchdogAt + msUnits s.power.watchdogMs / 2) ∧ t.power = { s.power with warned := true } ∧
      t.faults.seq = s.faults.seq + 1 ∧ t.faults.lastCode = 0x23 ∧
      Keeps [.now, .ftc, .dict, .power, .remote, .mgmt, .faults, .freeCounter] s t) := by
  have hwarning : (if s.begin.power.warned then s.begin else
      (s.begin.elapse (s.begin.power.watchdogAt + msUnits s.begin.power.watchdogMs / 2)).watchdogWarns) =
      (s.begin.elapse (s.begin.power.watchdogAt + msUnits s.begin.power.watchdogMs / 2)).watchdogWarns :=
    if_neg (ne_true_of_eq_false (show s.begin.power.warned = false from hwarned))
  obtain ⟨t, ht⟩ : ∃ t, (s.begin.elapse (s.begin.power.watchdogAt + msUnits s.begin.power.watchdogMs / 2)).watchdogWarns = t := ⟨_, rfl⟩
  obtain ⟨hnow, hpower, hseq, hcode, hkeeps⟩ := watchdogWarns_after s.begin (s.begin.power.watchdogAt + msUnits s.begin.power.watchdogMs / 2)
  have hexec : exec .watchdogWarning s = .next (s.begin.whenRunning fun t => if t.power.warned then t else
      (t.elapse (t.power.watchdogAt + msUnits t.power.watchdogMs / 2)).watchdogWarns) := rfl
  rw [ht] at hnow hpower hseq hcode hkeeps
  exact gives_of_running hrun hexec (hwarning.trans ht) ⟨hnow, hpower, hseq, hcode, Keeps.of_begin hkeeps⟩

/-- The watchdog resets the package and records the parts that were missing. -/
def State.watchdogResets (s : State) : State :=
  ((({ s with power := { s.power with standbyWatchdog := some (s.ftc, s.missingParts) } } : State).warmReset .watchdog).bump32
    O.watchdogExpiries).setNum O.watchdogMissing s.missingParts

theorem watchdogResets_spec (s : State) : s.watchdogResets.power.package = .booting 3 ∧ s.watchdogResets.power.cause = .watchdog ∧
    s.watchdogResets.num O.watchdogMissing 0 = s.missingParts ∧
    s.watchdogResets.power.standbyWatchdog = some (s.ftc, s.missingParts) ∧ s.watchdogResets.chip = s.chip := by
  have hwarm := warmReset_spec { s with power := { s.power with standbyWatchdog := some (s.ftc, s.missingParts) } } .watchdog
  unfold State.watchdogResets
  generalize State.warmReset _ .watchdog = t at hwarm ⊢
  exact ⟨hwarm.package, hwarm.cause, num_setNum_self _ _ _ _, hwarm.standbyWatchdog, hwarm.chip⟩

theorem gives_watchdogExpiry (hrun : s.running = true) : Gives .watchdogExpiry s (fun t => t.power.package = .booting 3 ∧
    t.power.cause = .watchdog ∧ t.num O.watchdogMissing 0 = 63 - s.power.heartbeats.toNat ∧
    t.power.standbyWatchdog.map (·.2) = some (63 - s.power.heartbeats.toNat) ∧ t.chip = s.chip) := by
  obtain ⟨hpackage, hcause, hnum, hstandby, hchip⟩ :=
    watchdogResets_spec (s.begin.elapse (s.begin.power.watchdogAt + msUnits s.begin.power.watchdogMs))
  have hmissing : (s.begin.elapse (s.begin.power.watchdogAt + msUnits s.begin.power.watchdogMs)).missingParts =
      63 - s.power.heartbeats.toNat := by
    rw [State.missingParts, elapse_power]
    rfl
  have helapse := Keeps.of_begin (elapse_keeps s.begin (s.begin.power.watchdogAt + msUnits s.begin.power.watchdogMs))
  exact gives_of_running (u := (s.begin.elapse (s.begin.power.watchdogAt + msUnits s.begin.power.watchdogMs)).watchdogResets) hrun rfl rfl
    ⟨hpackage, hcause, hnum.trans hmissing, (congrArg (Option.map Prod.snd) hstandby).trans (congrArg some hmissing),
      hchip.trans (helapse.chip (by decide))⟩

/-- Settles O56: each clause by the equation of the branch that applies; the resets and the brownout by what they leave. -/
theorem throttlesClocksAndWatchdogTakeEffect : Obligations.ThrottlesClocksAndWatchdogTakeEffect :=
  ⟨fun _ _ hrun hover hunder => gives_powerMonitorTick_between hrun hover hunder,
   fun _ _ _ hrun hover htenth hstep => gives_powerMonitorTick_over hrun hover htenth hstep,
   fun _ _ hrun hunder hlong => gives_powerMonitorTick_under hrun hunder hlong,
   fun _ _ hrun hfast hmv hinjected => gives_sagSample_calm hrun hfast hmv hinjected,
   fun _ _ _ hrun hfast hmv => gives_sagSample_fast hrun hfast hmv,
   fun _ _ _ hrun hbrown hthird hslots => gives_sagSample_brownout hrun hbrown hthird hslots,
   fun _ _ hrun hsag hcalm => gives_throttleRelease_first hrun hsag hcalm,
   fun _ _ hrun hsag => gives_throttleRelease_next hrun hsag,
   fun _ _ hrun hcool => gives_thermalSample_cool hrun hcool,
   fun _ _ hrun hhot htrip hthermal => gives_thermalSample_hot hrun hhot htrip hthermal,
   fun _ _ hrun htrip hslots => gives_thermalSample_trip hrun htrip hslots,
   fun _ hrun hthermal hhot => gives_thermalThrottleStep_hot hrun hthermal hhot,
   fun _ hrun hthermal hcool => gives_thermalThrottleStep_cool hrun hthermal hcool,
   fun _ _ _ hrun hppb => gives_referenceMonitor_steady hrun hppb,
   fun _ _ _ hrun hslots => gives_referenceMonitor_stopped hrun hslots,
   fun _ _ _ _ hrun hcluster hlow hhigh hstep hstatic hsag hthermal hwf =>
    gives_clockRequestWrite hrun hcluster hlow hhigh hstep hstatic hsag hthermal hwf,
   fun _ _ hrun hq hsag hthermal hwf => gives_railSettled hrun hq hsag hthermal hwf,
   fun _ _ hrun hpart => gives_heartbeat hrun hpart,
   fun _ hrun hbeats => gives_watchdogRestart hrun hbeats,
   fun _ hrun hwarned => gives_watchdogWarning hrun hwarned,
   fun _ hrun => gives_watchdogExpiry hrun⟩

end Sys2Proof.Machine
end

/-! # Power-up, resets, the boot and the fuses

Sitting of the family 16_power_clocks_reset: O55. What the boot does after its bank is chosen is said by `Starts`, the relation of its
steps 6 and 7; a cold reset by `coldReset_spec`, a warm one by `warmReset_spec`. -/

section
namespace Sys2Proof.Machine
variable {s t σ : State}

/-! ### Reads of a store -/

/-- A canonical store in which every entry is revalued reads revalued. -/
theorem read_revalue {α : Type} [DecidableEq α] {d : α} {f : α → α} {lo : Nat} (hd : f d = d) (st : Store α) (k : Nat)
    (hw : Store.wfFrom d lo st = true) : Store.read d (Store.revalue d f st) k = f (Store.read d st k) := by
  induction st generalizing lo with
  | nil => exact hd.symm
  | cons p t ih =>
    obtain ⟨i, v⟩ := p
    have hwt : Store.wfFrom d (i + 1) t = true := by
      simp only [Store.wfFrom, Bool.and_eq_true] at hw
      exact hw.2
    have hbelow : k < i + 1 → Store.read d (Store.revalue d f t) k = d := fun hk => by
      rw [ih hwt, Store.read_below hwt hk, hd]
    have hcons : Store.revalue d f ((i, v) :: t) = if f v = d then Store.revalue d f t else (i, f v) :: Store.revalue d f t := by
      unfold Store.revalue
      rw [List.filterMap_cons]
      split <;> simp_all
    rw [hcons]
    rcases Nat.lt_trichotomy k i with hk | rfl | hk
    · have hread : Store.read d ((i, v) :: t) k = d := by simp [Store.read, hk, Nat.ne_of_gt hk]
      rw [hread, hd]
      split
      · exact hbelow (by omega)
      · simp [Store.read, hk, Nat.ne_of_gt hk]
    · split
      · next hv => simpa [Store.read, hv] using hbelow (by omega)
      · simp [Store.read]
    · have hread : ∀ (w : α) (u : Store α), Store.read d ((i, w) :: u) k = Store.read d u k := fun w u => by
        simp [Store.read, Nat.ne_of_lt hk, Nat.not_lt.mpr (Nat.le_of_lt hk)]
      rw [hread]
      split
      · exact ih hwt
      · rw [hread]
        exact ih hwt

/-- What holds of the reset value and of every entry holds of what is read. -/
theorem read_of_all {α : Type} {d : α} {p : α → Bool} (hd : p d = true) {st : Store α} (h : st.all (fun e => p e.2) = true) (k : Nat) :
    p (Store.read d st k) = true := by
  induction st with
  | nil => exact hd
  | cons e t ih =>
    rw [List.all_cons, Bool.and_eq_true] at h
    unfold Store.read
    split
    · exact h.1
    · split
      · exact hd
      · exact ih h.2

/-! ### The input and the pin (R518, R524, R591) -/

theorem gives_powerUp {mv : Nat} (hoff : s.power.package = .off) (hmv : 44000 < mv) : Gives (.powerUp mv) s (fun t => t.power =
    { s.power with package := .softStart, since := s.now, inputMv := mv % 65536 } ∧ Keeps [.power] s t) :=
  ⟨_, congrArg Host.Outcome.next (if_pos ⟨hoff, hmv⟩), rfl, Keeps.of_begin (putPower_keeps s.begin _)⟩

theorem gives_coldResetPin (s : State) : Gives .coldResetPin s (fun t => t.power =
    { s.power with
      coldResetLow := true, dimmSupply := false
      package := (match s.power.package with | .off => .off | .softStart => .softStart | _ => .coldResetHeld) } ∧ Keeps [.power] s t) :=
  ⟨_, rfl, rfl, Keeps.of_begin (putPower_keeps s.begin _)⟩

/-- All power is lost: what starts next, and the records that waited are gone. -/
def State.powerGone (s : State) (mv : Nat) (c : ResetCause) : State :=
  { s with power := { s.power with
    package := .off, startCause := c, since := s.now, inputMv := mv, standby := none, standbyWatchdog := none, dimmSupply := false } }

theorem exec_brownoutLoss {mv : Nat} {c : ResetCause} (hmv : mv < 36000)
    (hcause : s.power.package = .brownout ∧ c = .brownoutLoss ∨ s.power.package = .thermalOff ∧ c = .thermalTrip) :
    exec (.brownoutLoss mv) s = .next (s.begin.powerGone mv c) := by
  refine congrArg Host.Outcome.next ((if_neg (Nat.not_le.mpr hmv)).trans ?_)
  rw [State.begin_power]
  obtain ⟨hpackage, rfl⟩ | ⟨hpackage, rfl⟩ := hcause
  · rw [hpackage]
    rfl
  · rw [hpackage]
    rfl

theorem gives_brownoutLoss_brownout {mv : Nat} (hmv : mv < 36000) (hpackage : s.power.package = .brownout) : Gives (.brownoutLoss mv) s
    (fun t => t.power.package = .off ∧ t.power.startCause = .brownoutLoss ∧ t.power.standby = none ∧ Keeps [.power] s t) :=
  ⟨_, exec_brownoutLoss hmv (.inl ⟨hpackage, rfl⟩), rfl, rfl, rfl, Keeps.of_begin (putPower_keeps s.begin _)⟩

theorem gives_brownoutLoss_trip {mv : Nat} (hmv : mv < 36000) (hpackage : s.power.package = .thermalOff) : Gives (.brownoutLoss mv) s
    (fun t => t.power.package = .off ∧ t.power.startCause = .thermalTrip ∧ Keeps [.power] s t) :=
  ⟨_, exec_brownoutLoss hmv (.inr ⟨hpackage, rfl⟩), rfl, rfl, Keeps.of_begin (putPower_keeps s.begin _)⟩

theorem gives_brownoutRecovery (hpackage : s.power.package = .brownout) (hmv : 44000 ≤ s.power.inputMv) (hpin : s.power.coldResetLow = false) :
    Gives .brownoutRecovery s (fun t => t.power.package = .booting 3 ∧ t.power.cause = .brownoutRecovery ∧ t.power.events = 32 ∧
      t.power.standby = s.power.standby ∧ t.chip = s.chip) := by
  have hback : s.begin.power.package = .brownout ∧ 44000 ≤ s.begin.power.inputMv ∧ !s.begin.power.coldResetLow :=
    ⟨hpackage, hmv, by rw [State.begin_power, hpin]; rfl⟩
  have hwarm := warmReset_spec s.begin .brownoutRecovery
  exact ⟨_, congrArg Host.Outcome.next (if_pos hback), hwarm.package, hwarm.cause, hwarm.events, hwarm.standby, hwarm.chip⟩

/-! ### The cold reset (R531) -/

/-- What a cold reset keeps, and what it records. -/
structure ColdReset (s : State) (c : ResetCause) (t : State) : Prop where
  package : t.power.package = .booting 1
  cause : t.power.cause = c
  coldResetLow : t.power.coldResetLow = s.power.coldResetLow
  pending : t.pending = s.pending
  now : t.now = s.now
  chip : t.chip = s.chip
  sec : t.sec = { banks := s.sec.banks, running := s.sec.running, activated := s.sec.activated, bootedNew := s.sec.bootedNew }
  mgmt : t.mgmt = { flash := s.mgmt.flash, flashBanks := s.mgmt.flashBanks }
  lastResetCause : t.num O.lastResetCause 0 = c.code
  lastResetKind : t.num O.lastResetKind 0 = 0
  keeps : Keeps [.pending, .now, .freeCounter, .chip, .dict, .sec, .mgmt, .power] State.reset t

/-- The state of which a cold reset takes note. -/
def State.coldKeep (s : State) : State := {
  pending := s.pending, now := s.now, out := s.out, freeCounter := s.freeCounter, chip := s.chip
  sec := { banks := s.sec.banks, running := s.sec.running, activated := s.sec.activated, bootedNew := s.sec.bootedNew }
  mgmt := { flash := s.mgmt.flash, flashBanks := s.mgmt.flashBanks }
  power := {
    inputMv := s.power.inputMv, inputCa := s.power.inputCa, supplyWarn := s.power.supplyWarn, coldResetLow := s.power.coldResetLow
    jmax := s.power.jmax, feedGood := s.power.feedGood, dimmSupply := false, standby := s.power.standby
    standbyWatchdog := s.power.standbyWatchdog, fusedSvn := s.power.fusedSvn, bootBank := s.power.bootBank } }

theorem Keeps.pending {c : List Part} (h : Keeps c s t) (hc : .pending ∉ c) : t.pending = s.pending := by
  have := keeps_iff.mp h .pending
  simpa [hc, Part.same] using this

theorem coldKeep_keeps (s : State) : Keeps [.pending, .now, .freeCounter, .chip, .dict, .sec, .mgmt, .power] State.reset s.coldKeep :=
  rfl

theorem coldReset_spec (s : State) (c : ResetCause) : ColdReset s c (s.coldReset c) := by
  have hnote := noteReset_keeps s.coldKeep c false
  have hpower := noteReset_power s.coldKeep c false
  have hcause := noteReset_cause s.coldKeep c false
  have hkind := noteReset_kind s.coldKeep c false
  have heq : s.coldReset c = { (s.coldKeep.noteReset c false) with
      power := { (s.coldKeep.noteReset c false).power with package := .booting 1, since := (s.coldKeep.noteReset c false).now } } := rfl
  rw [heq]
  generalize s.coldKeep.noteReset c false = u at hnote hpower hcause hkind ⊢
  exact {
    package := rfl
    cause := (congrArg PowerState.cause hpower :)
    coldResetLow := (congrArg PowerState.coldResetLow hpower :)
    pending := hnote.pending (by decide)
    now := hnote.now (by decide)
    chip := hnote.chip (by decide)
    sec := hnote.sec (by decide)
    mgmt := hnote.mgmt (by decide)
    lastResetCause := hcause
    lastResetKind := hkind
    keeps := (coldKeep_keeps s).trans ((hnote.mono (by decide)).trans ((putPower_keeps u _).mono (by decide))) }

theorem gives_softStartDone (hpackage : s.power.package = .softStart) (hpin : s.power.coldResetLow = false) : Gives .softStartDone s (fun t =>
    t.power.package = .booting 1 ∧ t.power.cause = s.power.startCause ∧ t.pending = s.pending ∧ t.now = s.now ∧ t.chip = s.chip ∧
      t.sec = { banks := s.sec.banks, running := s.sec.running, activated := s.sec.activated, bootedNew := s.sec.bootedNew } ∧
      t.mgmt = { flash := s.mgmt.flash, flashBanks := s.mgmt.flashBanks } ∧ t.num O.lastResetCause 0 = s.power.startCause.code ∧
      t.num O.lastResetKind 0 = 0 ∧ Keeps [.pending, .now, .freeCounter, .chip, .dict, .sec, .mgmt, .power] State.reset t) := by
  have hcold := coldReset_spec s.begin s.begin.power.startCause
  have hexec : exec .softStartDone s = .next (s.begin.coldReset s.begin.power.startCause) :=
    congrArg Host.Outcome.next ((if_neg (not_not.mpr (show s.begin.power.package = .softStart from hpackage))).trans
      (if_neg (ne_true_of_eq_false (show s.begin.power.coldResetLow = false from hpin))))
  exact ⟨_, hexec, hcold.package, hcold.cause, hcold.pending, hcold.now, hcold.chip, hcold.sec, hcold.mgmt, hcold.lastResetCause,
    hcold.lastResetKind, hcold.keeps⟩

/-- COLD_RESET_N is high. -/
def State.pinHigh (s : State) : State := { s with power := { s.power with coldResetLow := false } }

theorem gives_coldResetRelease (hpackage : s.power.package = .coldResetHeld) : Gives .coldResetRelease s (fun t =>
    t.power.package = .booting 1 ∧ t.power.cause = .coldPin ∧ t.power.coldResetLow = false ∧ t.pending = s.pending ∧ t.now = s.now ∧
      t.chip = s.chip ∧
      t.sec = { banks := s.sec.banks, running := s.sec.running, activated := s.sec.activated, bootedNew := s.sec.bootedNew } ∧
      t.mgmt = { flash := s.mgmt.flash, flashBanks := s.mgmt.flashBanks } ∧
      Keeps [.pending, .now, .freeCounter, .chip, .dict, .sec, .mgmt, .power] State.reset t) := by
  have hcold := coldReset_spec s.begin.pinHigh .coldPin
  have hexec : exec .coldResetRelease s = .next (s.begin.pinHigh.coldReset .coldPin) := congrArg Host.Outcome.next (if_pos hpackage)
  exact ⟨_, hexec, hcold.package, hcold.cause, hcold.coldResetLow, hcold.pending, hcold.now, hcold.chip, hcold.sec, hcold.mgmt, hcold.keeps⟩

/-! ### Resets that a command starts (R531) -/

/-- A guarded write of the reset register that is armed, with no plan in progress. -/
theorem resetCommand_accepted {a : Access} {eff : State → State} (hrun : s.running = true) (hmgmt : accessMgmt a = true)
    (harm : (s.takeArm a R.pwrResetCmd).1 = true) (hslots : s.liveSlots = []) :
    s.begin.resetGate a (fun t => t.mgmtWrite a R.pwrResetCmd t.resetCheck eff true) =
      (eff (s.begin.armSpent a R.pwrResetCmd)).answer served := by
  have hcheck : s.begin.resetCheck = none := by
    rw [State.resetCheck, show s.begin.liveSlots = [] from hslots]
    rfl
  have harm' : (s.begin.takeArm a R.pwrResetCmd).1 = true := by cases a <;> exact harm
  have hrun' : s.begin.running = true := hrun
  unfold State.resetGate State.mgmtWrite
  simp only [hrun', hmgmt, Bool.true_or, if_true, Bool.not_true, Bool.false_eq_true, if_false]
  exact openWrite_accepted hcheck fun _ => harm'

theorem gives_resetCommandCold {a : Access} (hrun : s.running = true) (hmgmt : accessMgmt a = true)
    (harm : (s.takeArm a R.pwrResetCmd).1 = true) (hslots : s.liveSlots = []) : Gives (.resetCommandCold a) s (fun t =>
      t.power.package = .booting 1 ∧ t.power.cause = .commandCold ∧
      t.sec = { banks := s.sec.banks, running := s.sec.running, activated := s.sec.activated, bootedNew := s.sec.bootedNew } ∧
      t.mgmt = { flash := s.mgmt.flash, flashBanks := s.mgmt.flashBanks } ∧ Answers t .ok ∧
      Keeps [.pending, .now, .freeCounter, .chip, .dict, .sec, .mgmt, .power] State.reset t) := by
  have hcold := coldReset_spec (s.begin.armSpent a R.pwrResetCmd) .commandCold
  have hmgmt' : (s.begin.armSpent a R.pwrResetCmd).mgmt.flash = s.mgmt.flash ∧
      (s.begin.armSpent a R.pwrResetCmd).mgmt.flashBanks = s.mgmt.flashBanks := by
    cases a <;> exact ⟨rfl, rfl⟩
  refine ⟨_, congrArg Host.Outcome.next (resetCommand_accepted hrun hmgmt harm hslots), hcold.package, hcold.cause, ?_, ?_, rfl,
    hcold.keeps.trans ((answer_keeps _ _ _).mono (by decide))⟩
  · refine hcold.sec.trans ?_
    rw [(armSpent_keeps s.begin a R.pwrResetCmd).sec (by decide)]
    rfl
  · refine hcold.mgmt.trans ?_
    rw [hmgmt'.1, hmgmt'.2]

theorem windowOff_of_disabled {n : Nat} (h : (s.window n).enable = false) : s.windowOff n = s := by
  unfold State.windowOff
  exact if_pos (by rw [h]; rfl)

theorem windowDone_of_enabled {n : Nat} (h : (s.window n).disabling = false) : s.windowDone n = s := by
  unfold State.windowDone
  exact if_neg (by rw [h]; simp)

theorem resetIfQuiet_of_quiet {c : ResetCause} (hdue : s.power.resetDue = some c) (hquiet : s.quiet = true) :
    s.resetIfQuiet = s.warmReset c := by
  unfold State.resetIfQuiet
  rw [hdue]
  exact if_pos hquiet

/-- With every window, stream and index disabled nothing has to be disabled first. -/
theorem commandWarm_of_quiet {c : ResetCause} (h : s.quiet = true) :
    s.commandWarm c = State.warmReset { s with power := { s.power with resetDue := some c } } c := by
  have hquiet := h
  simp only [State.quiet, Bool.and_eq_true] at h
  obtain ⟨⟨hwindows, hstreams⟩, hindexes⟩ := h
  have hwindow : ∀ n, (s.window n).enable = false ∧ (s.window n).disabling = false := fun n => by
    simpa [State.window] using read_of_all (p := fun x : Window => !x.enable && !x.disabling) (by decide) hwindows n
  have hindex : ∀ n, (s.vindex n).state = .disabled := fun n =>
    of_decide_eq_true (read_of_all (p := fun x : VIndex => decide (x.state = .disabled)) (by decide) hindexes n)
  unfold State.commandWarm
  extract_lets +onlyGivenNames s1 s2 s3 done s4 s5
  have h1 : s1 = s := List.foldl_fixed' (fun e : Nat × Window => windowOff_of_disabled (hwindow e.1).1) _
  have h2 : s2 = s := by
    have hnone : s.cz.streams.filter (fun e => e.2.enable || e.2.enabling) = [] := List.filter_eq_nil_iff.mpr fun e he => by
      simpa using List.all_eq_true.mp hstreams e he
    unfold s2
    rw [h1, hnone]
    rfl
  have h3 : s3 = s := by
    have hnone : s.meadow.indexes.filter (fun e => decide (e.2.state = .enabled)) = [] := List.filter_eq_nil_iff.mpr fun e he => by
      have hdisabled : e.2.state = .disabled := of_decide_eq_true (List.all_eq_true.mp hindexes e he)
      simp [hdisabled]
    unfold s3
    rw [h2, hnone]
    rfl
  have h4 : s4 = s := by
    unfold s4
    rw [h3]
    exact List.foldl_fixed' (fun e => if_neg (by rw [hindex e.1]; simp)) _
  have h5 : s5 = s := by
    unfold s5
    rw [h4]
    exact List.foldl_fixed' (fun e : Nat × Window => windowDone_of_enabled (hwindow e.1).2) _
  rw [h5]
  exact resetIfQuiet_of_quiet rfl hquiet

/-- What a warm reset keeps of a port. -/
def Port.warmKept (p : Port) : Port := { mode := p.mode, width8 := p.width8, enable := p.enable }

theorem gives_resetCommandWarm {a : Access} (hrun : s.running = true) (hmgmt : accessMgmt a = true)
    (harm : (s.takeArm a R.pwrResetCmd).1 = true) (hslots : s.liveSlots = []) (hquiet : s.quiet = true)
    (hwf : Store.wf ({} : Port) s.links.ports = true) : Gives (.resetCommandWarm a) s (fun t => t.power.package = .booting 3 ∧
      t.power.cause = .commandWarm ∧ t.florets = {} ∧ t.hcu = {} ∧ t.sw = {} ∧ t.kv = {} ∧ t.cz = {} ∧ t.meadow = {} ∧ t.sram = [] ∧
      t.chip = s.chip ∧ t.now = s.now ∧ t.ftc = s.ftc ∧ t.sec.tenants = s.sec.tenants ∧ t.sec.clearLog = s.sec.clearLog ∧
      t.sec.banks = s.sec.banks ∧ t.sec.keys = [] ∧ t.sec.sessions = [] ∧
      (∀ p, t.port p = { mode := (s.port p).mode, width8 := (s.port p).width8, enable := (s.port p).enable }) ∧
      t.num O.lastResetCause 0 = ResetCause.commandWarm.code ∧ Answers t .ok) := by
  have harmed := Keeps.of_begin (armSpent_keeps s.begin a R.pwrResetCmd)
  have hquiet' : (s.begin.armSpent a R.pwrResetCmd).quiet = true := by
    rw [State.quiet, harmed.coh (by decide), harmed.cz (by decide), harmed.meadow (by decide)]
    exact hquiet
  have hreset := commandWarm_of_quiet (c := .commandWarm) hquiet'
  have hwarm := warmReset_spec { (s.begin.armSpent a R.pwrResetCmd) with
    power := { (s.begin.armSpent a R.pwrResetCmd).power with resetDue := some .commandWarm } } .commandWarm
  rw [← hreset] at hwarm
  have hlinks : (s.begin.armSpent a R.pwrResetCmd).links = s.links := harmed.links (by decide)
  have hports : ∀ p, State.port ((s.begin.armSpent a R.pwrResetCmd).commandWarm .commandWarm) p = (s.port p).warmKept := fun p => by
    have hread : Store.read {} (Store.revalue {} Port.warmKept s.links.ports) p = (s.port p).warmKept :=
      read_revalue (lo := 0) rfl _ p hwf
    rw [State.port, hwarm.ports]
    exact hlinks ▸ hread
  obtain ⟨hflorets, hhcu, hsw, hkv, hcz, hmeadow, hsram⟩ := hwarm.anew
  have hexec : exec (.resetCommandWarm a) s = .next (((s.begin.armSpent a R.pwrResetCmd).commandWarm .commandWarm).answer served) :=
    congrArg Host.Outcome.next (resetCommand_accepted hrun hmgmt harm hslots)
  generalize (s.begin.armSpent a R.pwrResetCmd).commandWarm .commandWarm = u at *
  exact ⟨_, hexec, hwarm.package, hwarm.cause, hflorets,
    hhcu, hsw, hkv, hcz, hmeadow, hsram, hwarm.chip.trans (harmed.chip (by decide)), hwarm.now.trans (harmed.now (by decide)),
    hwarm.ftc.trans (harmed.ftc (by decide)), hwarm.tenants.trans (congrArg SecurityState.tenants (harmed.sec (by decide))),
    hwarm.clearLog.trans (congrArg SecurityState.clearLog (harmed.sec (by decide))),
    hwarm.banks.trans (congrArg SecurityState.banks (harmed.sec (by decide))), hwarm.keys, hwarm.sessions, hports, hwarm.lastResetCause, rfl⟩

/-! ### The fuses (R545, R546) -/

/-- The array has been read again. -/
def State.rereadAfter (s : State) (n : Nat) : State :=
  let t := s.elapse n
  ({ t with power := { t.power with rereadAt := t.now } } : State).setNum O.fuseLastRereadFtc t.ftc

/-- What a word that does not read clean does. -/
def State.wordReread (s : State) (e : Nat × Nat × Bool) : State :=
  if e.2.2 ∨ e.2.1 = 2 then (s.bump32 O.fuseRereadMismatches).fault 0x40 (s.path .package) e.1 0 .fuse
  else if e.2.1 = 1 ∧ Store.read .clean s.power.fuses e.1 = .clean ∧ !(s.power.fuseMarginal.contains e.1) then
    { s with power := { s.power with fuseMarginal := s.power.fuseMarginal ++ [e.1] } }
  else s

theorem fuseReread_single (s : State) (e : Nat × Nat × Bool) :
    s.fuseReread [e] = (s.rereadAfter (s.power.rereadAt + usUnits (1000000 * s.num O.fuseRereadS 3600))).wordReread e := by
  unfold State.fuseReread State.rereadAfter State.wordReread
  rfl

theorem rereadAfter_spec (s : State) (n : Nat) : (s.rereadAfter n).now = max s.now n ∧
    (s.rereadAfter n).power = { s.power with rereadAt := (s.rereadAfter n).now } ∧
    (s.rereadAfter n).num O.fuseLastRereadFtc 0 = (s.rereadAfter n).ftc ∧
    (s.rereadAfter n).num O.fuseRereadMismatches 0 = s.num O.fuseRereadMismatches 0 ∧
    Keeps [.now, .ftc, .dict, .power] s (s.rereadAfter n) := by
  have hnow := elapse_now s n
  have hpower := elapse_power s n
  have hkeeps := elapse_keeps s n
  have hnum := num_elapse_ne s (j := O.fuseRereadMismatches) n 0 (by decide)
  unfold State.rereadAfter
  generalize s.elapse n = u at hnow hpower hkeeps hnum ⊢
  refine ⟨hnow, ?_, num_setNum_self _ _ _ _, (num_setNum_ne _ _ _ (by decide)).trans hnum, ?_⟩
  · rw [← hpower]
    rfl
  · exact (hkeeps.mono (by decide)).trans (((putPower_keeps u _).mono (by decide)).trans ((setNum_keeps _ _ _).mono (by decide)))

theorem gives_fuseReread_marginal {w : Nat} (hrun : s.running = true) (hclean : Store.read .clean s.power.fuses w = .clean)
    (hnew : s.power.fuseMarginal.contains w = false) : Gives (.fuseReread [(w, 1, false)]) s (fun t =>
      t.power.fuseMarginal = s.power.fuseMarginal ++ [w] ∧
      t.now = max s.now (s.power.rereadAt + usUnits (1000000 * s.num O.fuseRereadS 3600)) ∧ t.num O.fuseLastRereadFtc 0 = t.ftc ∧
      Keeps [.now, .ftc, .dict, .power] s t) := by
  have hreread := fuseReread_single s.begin (w, 1, false)
  obtain ⟨hnow, hpower, hnum, -, hkeeps⟩ :=
    rereadAfter_spec s.begin (s.begin.power.rereadAt + usUnits (1000000 * s.begin.num O.fuseRereadS 3600))
  generalize s.begin.rereadAfter (s.begin.power.rereadAt + usUnits (1000000 * s.begin.num O.fuseRereadS 3600)) = u at *
  have hmarginal : (1 : Nat) = 1 ∧ Store.read .clean u.power.fuses w = .clean ∧ !(u.power.fuseMarginal.contains w) := by
    rw [hpower]
    exact ⟨rfl, hclean, by rw [State.begin_power, hnew]; rfl⟩
  have hword : u.wordReread (w, 1, false) = { u with power := { u.power with fuseMarginal := u.power.fuseMarginal ++ [w] } } :=
    (if_neg (by simp)).trans (if_pos hmarginal)
  refine gives_of_running hrun rfl (hreread.trans hword) ⟨?_, hnow, hnum, Keeps.of_begin (hkeeps.trans ((putPower_keeps u _).mono (by decide)))⟩
  dsimp only
  rw [hpower]
  rfl

theorem gives_fuseReread_mismatch {w k : Nat} {differs : Bool} (hrun : s.running = true) (hbad : differs = true ∨ k = 2) :
    Gives (.fuseReread [(w, k, differs)]) s (fun t =>
      t.num O.fuseRereadMismatches 0 = (s.num O.fuseRereadMismatches 0 + 1) % 2 ^ 32 ∧ t.faults.seq = s.faults.seq + 1 ∧
      t.faults.lastCode = 0x40 ∧ t.power.fuseMarginal = s.power.fuseMarginal ∧
      Keeps [.now, .ftc, .dict, .power, .remote, .mgmt, .faults, .freeCounter] s t) := by
  have hreread := fuseReread_single s.begin (w, k, differs)
  obtain ⟨-, hpower, -, hnum, hkeeps⟩ :=
    rereadAfter_spec s.begin (s.begin.power.rereadAt + usUnits (1000000 * s.begin.num O.fuseRereadS 3600))
  generalize s.begin.rereadAfter (s.begin.power.rereadAt + usUnits (1000000 * s.begin.num O.fuseRereadS 3600)) = u at *
  have hword : u.wordReread (w, k, differs) = (u.bump32 O.fuseRereadMismatches).fault 0x40 (u.path .package) w 0 .fuse := if_pos hbad
  have hbump := bump32_keeps u O.fuseRereadMismatches
  have hfault := fault_keeps (u.bump32 O.fuseRereadMismatches) 0x40 (u.path .package) w 0 .fuse none
  refine gives_of_running hrun rfl (hreread.trans hword) ⟨?_, ?_, fault_lastCode _ _ _ _ _ _ _, ?_, Keeps.of_begin ?_⟩
  · refine (fault_bootCounts _ _ _ _ _ _ _ (by decide)).trans ((num_setNum_self _ _ _ _).trans ?_)
    rw [hnum]
    rfl
  · rw [fault_seq, hbump.faults (by decide), hkeeps.faults (by decide)]
    rfl
  · rw [hfault.power (by decide), hbump.power (by decide), hpower]
    rfl
  · exact (hkeeps.mono (by decide)).trans ((hbump.mono (by decide)).trans (hfault.mono (by decide)))

/-! ### Steps 6 and 7 of the boot (R541) -/

/-- The parts that the last steps of a boot may change. -/
abbrev startParts : List Part := .power :: .links :: servedParts

/-- What the last steps of a boot keep, once the feed and the package are set. -/
structure Starts (σ s : State) : Prop where
  keeps : Keeps startParts σ s
  /-- of chapter 16 only the units -/
  power : s.power = { σ.power with units := s.power.units }
  /-- the counters of the boot and of the fuses (R542, R546) -/
  bootCounts : ∀ j, j / 256 = 0x2300 → s.num j 0 = σ.num j 0

theorem Starts.refl (s : State) : Starts s s := ⟨Keeps.refl _ _, rfl, fun _ _ => rfl⟩

theorem Starts.trans (h : Starts σ s) (g : Starts s t) : Starts σ t :=
  ⟨h.keeps.trans g.keeps, by rw [g.power, h.power], fun j hj => (g.bootCounts j hj).trans (h.bootCounts j hj)⟩

theorem Starts.foldl {α : Type} {f : State → α → State} (hf : ∀ t a, Starts t (f t a)) (l : List α) (s : State) : Starts s (l.foldl f s) := by
  induction l generalizing s with
  | nil => exact .refl s
  | cons a l ih => exact (hf s a).trans (ih (f s a))

theorem Starts.ite {c : Prop} {_ : Decidable c} {u : State} (ht : Starts σ t) (hu : Starts σ u) : Starts σ (if c then t else u) := by
  split <;> assumption

theorem fault_starts (s : State) (code source arg action : Nat) (st : Status) (entry0 : Option Nat) :
    Starts s (s.fault code source arg action st entry0) :=
  have hfault := fault_keeps s code source arg action st entry0
  ⟨hfault.mono (by decide), by rw [hfault.power (by decide)], fun _ hj => fault_bootCounts s _ _ _ _ _ _ hj⟩

theorem channelFailed_starts (s : State) (ch : Nat) : Starts s (s.channelFailed ch) :=
  have hfailed := channelFailed_keeps s ch
  ⟨hfailed.mono (by decide), by rw [hfailed.power (by decide)], fun _ hj => channelFailed_bootCounts s ch hj⟩

theorem setChan_starts (s : State) (ch : Nat) (x : Channel) : Starts s (s.setChan ch x) :=
  ⟨(setChan_keeps s ch x).mono (by decide), rfl, fun _ _ => rfl⟩

theorem setUnit_starts (s : State) (l : UnitLoc) (u : UnitRec) : Starts s (s.setUnit l u) :=
  ⟨(setUnit_keeps s l u).mono (by decide), rfl, fun _ _ => rfl⟩

theorem setStates_starts (s : State) (us : List UnitLoc) (st : UnitState) : Starts s (s.setStates us st) :=
  .foldl (fun _ _ => setUnit_starts _ _ _) us s

theorem startUnit_starts (s : State) (p : Nat) : Starts s (s.startUnit (.port p)) :=
  .ite ⟨(setPort_keeps s p _).mono (by decide), rfl, fun _ _ => rfl⟩ (.refl s)

/-- The DIMMs have their supply. -/
def State.fed (s : State) (feedLow : Bool) : State := { s with power := { s.power with dimmSupply := true, feedGood := !feedLow } }

theorem bootSix_starts (s : State) (cold : Bool) (channels : List Nat) (feedLow : Bool) :
    Starts (s.fed feedLow) (s.bootSix cold channels feedLow) := by
  refine .foldl (fun t c => .ite (.refl t) ?_) _ _
  exact .ite (setChan_starts _ _ _) (.ite (channelFailed_starts _ _) (.refl t))

/-- The package runs. -/
def State.nowRunning (s : State) : State := { s with power := { s.power with package := .running, since := s.now } }

theorem bootSeven_starts (s : State) (failed : List Nat) : Starts s.nowRunning (s.bootSeven failed) := by
  refine Starts.trans (.foldl (fun t l => .ite (.refl t) ?_) _ _) (.foldl (fun t p => .ite (.refl t) (startUnit_starts t p)) _ _)
  exact (setStates_starts _ _ _).trans (fault_starts _ _ _ _ _ _ _)

/-! ### Step 5 -/

theorem lateFault_starts (s : State) (code arg ftc : Nat) : Starts s (s.lateFault code arg ftc) := by
  have hfault := fault_starts s code (s.path .package) arg 0 .ok none
  unfold State.lateFault
  generalize s.fault code (s.path .package) arg 0 .ok none = u at hfault ⊢
  exact hfault.trans ⟨(putFaults_keeps u _).mono (by decide), rfl, fun _ _ => rfl⟩

/-- The record of a brownout or a trip that waited for the restart is formed (R553). -/
def State.lateStandby (s : State) : State :=
  match s.power.standby with
  | some r => s.lateFault (if r.trip then 0x50 else 0x51) r.arg r.ftc
  | none => s

/-- The record of the watchdog that waited for the restart is formed (R553). -/
def State.lateWatchdog (s : State) : State :=
  match s.power.standbyWatchdog with
  | some w => s.lateFault 0x24 w.2 w.1
  | none => s

theorem lateStandby_starts (s : State) : Starts s s.lateStandby := by
  unfold State.lateStandby
  split
  · exact lateFault_starts _ _ _ _
  · exact .refl s

theorem lateWatchdog_starts (s : State) : Starts s s.lateWatchdog := by
  unfold State.lateWatchdog
  split
  · exact lateFault_starts _ _ _ _
  · exact .refl s

/-- The measurements of the image that starts (R541). -/
def State.measures (s : State) (m : Store (List Byte)) : State := { s with sec := { s.sec with measurements := m } }

/-- The standby records are gone, and the watchdog starts. -/
def State.standbyDone (s : State) : State :=
  ({ s with power := { s.power with standby := none, standbyWatchdog := none } } : State).watchdogStart

theorem bootFive_eq (s : State) (b : Nat) : ∃ m, s.bootFive b = (s.measures m).lateStandby.lateWatchdog.standbyDone := ⟨_, rfl⟩

/-- What step 5 leaves. -/
structure MeasuredBoot (s t : State) : Prop where
  sec : ∃ m, t.sec = { s.sec with measurements := m }
  bootBank : t.power.bootBank = s.power.bootBank
  standby : t.power.standby = none
  standbyWatchdog : t.power.standbyWatchdog = none
  watchdogAt : t.power.watchdogAt = s.now
  bootCounts : ∀ j, j / 256 = 0x2300 → t.num j 0 = s.num j 0
  keeps : Keeps (.sec :: startParts) s t

theorem bootFive_spec (s : State) (b : Nat) : MeasuredBoot s (s.bootFive b) := by
  obtain ⟨m, heq⟩ := bootFive_eq s b
  have hlate := (lateStandby_starts (s.measures m)).trans (lateWatchdog_starts _)
  rw [heq]
  generalize (s.measures m).lateStandby.lateWatchdog = u at hlate ⊢
  exact {
    sec := ⟨m, hlate.keeps.sec (by decide)⟩
    bootBank := (congrArg PowerState.bootBank hlate.power :)
    standby := rfl
    standbyWatchdog := rfl
    watchdogAt := hlate.keeps.now (by decide)
    bootCounts := hlate.bootCounts
    keeps := ((putSec_keeps s _).mono (by decide)).trans ((hlate.keeps.mono (by decide)).trans ((putPower_keeps u _).mono (by decide))) }

/-! ### The bank that starts (R541, R542) -/

/-- A bank whose image starts and measures. -/
def State.bankGood (s : State) (bankOk : List Bool) (b : Nat) : Bool :=
  (s.bank b).signed && decide (s.power.fusedSvn ≤ (s.bank b).svn) && bankOk.getD b false

/-- The fuse words as step 1 finds them. -/
def State.fusesRead (s : State) (k : Nat) (fuses : List (Nat × Nat)) : State :=
  if k = 1 then { s with power := { s.power with fuses := fuseClasses fuses, fuseMarginal := [], rereadAt := s.now } } else s

/-- A bank is taken for this boot. -/
def State.bankTaken (s : State) (b : Nat) : State := { s with
  sec := { s.sec with
    activated := none, running := b
    bootedNew := if s.sec.activated = some b then some b else if s.sec.bootedNew = some b then some b else none }
  power := { s.power with bootBank := b } }

/-- The steps after a bank is taken. -/
def State.bootOn (s : State) (b : Nat) (cold : Bool) (failed channels : List Nat) (feedLow : Bool) : State :=
  ((s.bootFive b).bootSix cold channels feedLow).bootSeven failed

/-- What the steps after a bank is taken leave. -/
structure Booted (s : State) (feedLow : Bool) (t : State) : Prop where
  package : t.power.package = .running
  sec : ∃ m, t.sec = { s.sec with measurements := m }
  bootBank : t.power.bootBank = s.power.bootBank
  standby : t.power.standby = none
  standbyWatchdog : t.power.standbyWatchdog = none
  watchdogAt : t.power.watchdogAt = s.now
  feedGood : t.power.feedGood = !feedLow
  bootCounts : ∀ j, j / 256 = 0x2300 → t.num j 0 = s.num j 0
  keeps : Keeps (.sec :: startParts) s t

theorem bootOn_spec (s : State) (b : Nat) (cold : Bool) (failed channels : List Nat) (feedLow : Bool) :
    Booted s feedLow (s.bootOn b cold failed channels feedLow) := by
  have hfive := bootFive_spec s b
  have hsix := bootSix_starts (s.bootFive b) cold channels feedLow
  have hseven := bootSeven_starts ((s.bootFive b).bootSix cold channels feedLow) failed
  unfold State.bootOn
  generalize ((s.bootFive b).bootSix cold channels feedLow).bootSeven failed = t at hseven ⊢
  generalize (s.bootFive b).bootSix cold channels feedLow = v at hsix hseven
  generalize s.bootFive b = u at hfive hsix
  obtain ⟨m, hsec⟩ := hfive.sec
  have hpower : t.power = { v.nowRunning.power with units := t.power.units } := hseven.power
  have hpower' : v.power = { (u.fed feedLow).power with units := v.power.units } := hsix.power
  exact {
    package := by rw [hpower]; rfl
    sec := ⟨m, (hseven.keeps.sec (by decide)).trans ((hsix.keeps.sec (by decide)).trans hsec)⟩
    bootBank := by rw [hpower, ← hfive.bootBank]; exact (congrArg PowerState.bootBank hpower' :)
    standby := by rw [hpower, ← hfive.standby]; exact (congrArg PowerState.standby hpower' :)
    standbyWatchdog := by rw [hpower, ← hfive.standbyWatchdog]; exact (congrArg PowerState.standbyWatchdog hpower' :)
    watchdogAt := by rw [hpower, ← hfive.watchdogAt]; exact (congrArg PowerState.watchdogAt hpower' :)
    feedGood := by rw [hpower]; exact (congrArg PowerState.feedGood hpower' :)
    bootCounts := fun j hj => (hseven.bootCounts j hj).trans ((hsix.bootCounts j hj).trans (hfive.bootCounts j hj))
    keeps := hfive.keeps.trans (((putPower_keeps u _).mono (by decide)).trans ((hsix.keeps.mono (by decide)).trans
      (((putPower_keeps v _).mono (by decide)).trans (hseven.keeps.mono (by decide))))) }

theorem fusesRead_keeps (s : State) (k : Nat) (fuses : List (Nat × Nat)) : Keeps [.power] s (s.fusesRead k fuses) :=
  Keeps.ite (putPower_keeps s _) (Keeps.refl _ s)

theorem fusesRead_fuses (s : State) (k : Nat) (fuses : List (Nat × Nat)) :
    (s.fusesRead k fuses).power.fuses = if k = 1 then fuseClasses fuses else s.power.fuses := by
  unfold State.fusesRead
  split <;> rfl

theorem fusesRead_fusedSvn (s : State) (k : Nat) (fuses : List (Nat × Nat)) : (s.fusesRead k fuses).power.fusedSvn = s.power.fusedSvn := by
  unfold State.fusesRead
  split <;> rfl

theorem fusesRead_bankGood (s : State) (k : Nat) (fuses : List (Nat × Nat)) (bankOk : List Bool) :
    (s.fusesRead k fuses).bankGood bankOk = s.bankGood bankOk := by
  funext b
  rw [State.bankGood, State.bank, (fusesRead_keeps s k fuses).sec (by decide), fusesRead_fusedSvn]
  rfl

section
variable {k : Nat} {bankOk : List Bool} {failed channels : List Nat} {fuses : List (Nat × Nat)} {feedLow : Bool}

theorem exec_boot (hpackage : s.power.package = .booting k) :
    exec (.boot bankOk failed channels fuses feedLow) s = .next (s.begin.boot k bankOk failed channels fuses feedLow) := by
  have hexec : exec (.boot bankOk failed channels fuses feedLow) s = execBoot bankOk failed channels fuses feedLow s := rfl
  rw [hexec, execBoot]
  rw [State.begin_power, hpackage]

/-- The boot with every word resolved, from the state in which the words have been read. -/
theorem boot_resolved {u : State} (hu : s.fusesRead k fuses = u) (hfuses : u.power.fuses.any (fun e => decide (e.2 = .unresolved)) = false) :
    s.boot k bankOk failed channels fuses feedLow =
      let first := u.sec.activated.getD u.sec.running
      if u.bankGood bankOk first then (u.bankTaken first).bootOn first (decide (k = 1)) failed channels feedLow
      else if u.bankGood bankOk (1 - first) then
        ((u.bump32 O.bootFallbacks).bankTaken (1 - first)).bootOn (1 - first) (decide (k = 1)) failed channels feedLow
      else { u with sec := { u.sec with activated := none }, power := { u.power with package := .bootHold } } := by
  subst hu
  exact if_neg (ne_true_of_eq_false hfuses)

/-- The words as they are read decide whether the boot goes on. -/
theorem fusesRead_resolved (hfuses : (if k = 1 then fuseClasses fuses else s.power.fuses).any (fun e => decide (e.2 = .unresolved)) = false) :
    (s.fusesRead k fuses).power.fuses.any (fun e => decide (e.2 = .unresolved)) = false := by
  rw [fusesRead_fuses]
  exact hfuses

theorem bankGood_of {b : Nat} (hsigned : (s.bank b).signed = true) (hsvn : s.power.fusedSvn ≤ (s.bank b).svn)
    (hok : bankOk.getD b false = true) : s.bankGood bankOk b = true := by
  rw [State.bankGood, hsigned, decide_eq_true hsvn, hok]
  rfl

theorem not_bankGood_of {b : Nat} (hok : bankOk.getD b false = false) : ¬ s.bankGood bankOk b = true := by
  rw [State.bankGood, hok, Bool.and_false]
  exact Bool.false_ne_true

theorem gives_boot_good {b : Nat} (hpackage : s.power.package = .booting k)
    (hfuses : (if k = 1 then fuseClasses fuses else s.power.fuses).any (fun e => decide (e.2 = .unresolved)) = false)
    (hfirst : s.sec.activated.getD s.sec.running = b) (hsigned : (s.bank b).signed = true) (hsvn : s.power.fusedSvn ≤ (s.bank b).svn)
    (hok : bankOk.getD b false = true) : Gives (.boot bankOk failed channels fuses feedLow) s (fun t => t.power.package = .running ∧
      t.sec.running = b ∧ t.sec.activated = none ∧ t.power.bootBank = b ∧
      t.sec.bootedNew = (if s.sec.activated = some b then some b else if s.sec.bootedNew = some b then some b else none) ∧
      t.power.standby = none ∧ t.power.standbyWatchdog = none ∧ t.power.watchdogAt = s.now ∧ (t.power.feedGood = !feedLow) ∧
      Keeps [.freeCounter, .dict, .mem, .sram, .remote, .traffic, .pool, .sec, .links, .mgmt, .power, .faults] s t) := by
  have hgood := bankGood_of (s := s.begin) hsigned hsvn hok
  have hkeeps := fusesRead_keeps s.begin k fuses
  rw [← fusesRead_bankGood s.begin k fuses] at hgood
  have hboot := boot_resolved (s := s.begin) (bankOk := bankOk) (failed := failed) (channels := channels) (feedLow := feedLow) rfl
    (fusesRead_resolved hfuses)
  generalize s.begin.fusesRead k fuses = u at hgood hkeeps hboot
  have husec : u.sec = s.sec := hkeeps.sec (by decide)
  have hbooted : s.begin.boot k bankOk failed channels fuses feedLow =
      (u.bankTaken b).bootOn b (decide (k = 1)) failed channels feedLow := by
    rw [hboot, husec, hfirst]
    exact if_pos hgood
  have hspec := bootOn_spec (u.bankTaken b) b (decide (k = 1)) failed channels feedLow
  generalize (u.bankTaken b).bootOn b (decide (k = 1)) failed channels feedLow = t at hbooted hspec
  obtain ⟨m, hsec⟩ := hspec.sec
  refine ⟨t, (exec_boot hpackage).trans (congrArg Host.Outcome.next hbooted), hspec.package, ?_, ?_, hspec.bootBank, ?_, hspec.standby,
    hspec.standbyWatchdog, hspec.watchdogAt.trans (hkeeps.now (by decide)), hspec.feedGood, ?_⟩
  · rw [hsec]
    rfl
  · rw [hsec]
    rfl
  · rw [hsec, ← husec]
    rfl
  · refine (Keeps.of_begin (hkeeps.mono (by decide))).trans (Keeps.trans (t := u.bankTaken b) ?_ (hspec.keeps.mono (by decide)))
    exact ((putSec_keeps u _).mono (by decide)).trans ((putPower_keeps _ _).mono (by decide))

theorem gives_boot_fallback {b : Nat} (hpackage : s.power.package = .booting k)
    (hfuses : (if k = 1 then fuseClasses fuses else s.power.fuses).any (fun e => decide (e.2 = .unresolved)) = false)
    (hfirst : s.sec.activated.getD s.sec.running = b) (hbad : bankOk.getD b false = false) (hsigned : (s.bank (1 - b)).signed = true)
    (hsvn : s.power.fusedSvn ≤ (s.bank (1 - b)).svn) (hok : bankOk.getD (1 - b) false = true) :
    Gives (.boot bankOk failed channels fuses feedLow) s (fun t => t.power.package = .running ∧ t.sec.running = 1 - b ∧
      t.num O.bootFallbacks 0 = (s.num O.bootFallbacks 0 + 1) % 2 ^ 32) := by
  have hgood := bankGood_of (s := s.begin) hsigned hsvn hok
  have hkeeps := fusesRead_keeps s.begin k fuses
  rw [← fusesRead_bankGood s.begin k fuses] at hgood
  have hboot := boot_resolved (s := s.begin) (bankOk := bankOk) (failed := failed) (channels := channels) (feedLow := feedLow) rfl
    (fusesRead_resolved hfuses)
  generalize s.begin.fusesRead k fuses = u at hgood hkeeps hboot
  have husec : u.sec = s.sec := hkeeps.sec (by decide)
  have hbooted : s.begin.boot k bankOk failed channels fuses feedLow =
      ((u.bump32 O.bootFallbacks).bankTaken (1 - b)).bootOn (1 - b) (decide (k = 1)) failed channels feedLow := by
    rw [hboot, husec, hfirst]
    exact (if_neg (not_bankGood_of hbad)).trans (if_pos hgood)
  have hspec := bootOn_spec ((u.bump32 O.bootFallbacks).bankTaken (1 - b)) (1 - b) (decide (k = 1)) failed channels feedLow
  generalize State.bootOn _ (1 - b) (decide (k = 1)) failed channels feedLow = t at hbooted hspec
  obtain ⟨m, hsec⟩ := hspec.sec
  refine ⟨t, (exec_boot hpackage).trans (congrArg Host.Outcome.next hbooted), hspec.package, ?_, ?_⟩
  · rw [hsec]
    rfl
  · refine (hspec.bootCounts _ (by decide)).trans ((num_setNum_self u _ _ _).trans ?_)
    rw [num_eq (s := s) (t := u) (hkeeps.dict (by decide))]

theorem gives_boot_hold (hpackage : s.power.package = .booting k)
    (hfuses : (if k = 1 then fuseClasses fuses else s.power.fuses).any (fun e => decide (e.2 = .unresolved)) = false)
    (hfirst : s.sec.activated.getD s.sec.running < 2) (hbad : bankOk.getD 0 false = false) (hbad' : bankOk.getD 1 false = false) :
    Gives (.boot bankOk failed channels fuses feedLow) s (fun t => t.power.package = .bootHold ∧ t.sec.activated = none ∧
      t.sec.running = s.sec.running ∧ Keeps [.sec, .power] s t) := by
  have hkeeps := fusesRead_keeps s.begin k fuses
  have hboot := boot_resolved (s := s.begin) (bankOk := bankOk) (failed := failed) (channels := channels) (feedLow := feedLow) rfl
    (fusesRead_resolved hfuses)
  generalize s.begin.fusesRead k fuses = u at hkeeps hboot
  have husec : u.sec = s.sec := hkeeps.sec (by decide)
  have hnone : ∀ b, b < 2 → ¬ u.bankGood bankOk b = true := fun b hb => by
    interval_cases b
    · exact not_bankGood_of hbad
    · exact not_bankGood_of hbad'
  have hheld : s.begin.boot k bankOk failed channels fuses feedLow =
      { u with sec := { u.sec with activated := none }, power := { u.power with package := .bootHold } } := by
    rw [hboot, husec]
    exact (if_neg (hnone _ hfirst)).trans (if_neg (hnone _ (by omega)))
  refine ⟨_, (exec_boot hpackage).trans (congrArg Host.Outcome.next hheld), rfl, rfl, (congrArg SecurityState.running husec :), ?_⟩
  refine (Keeps.of_begin (hkeeps.mono (by decide))).trans ?_
  exact ((putSec_keeps u { u.sec with activated := none }).mono (by decide)).trans ((putPower_keeps _ _).mono (by decide))

theorem gives_boot_fuseHold (hpackage : s.power.package = .booting 1)
    (hfuses : (fuseClasses fuses).any (fun e => decide (e.2 = .unresolved)) = true) :
    Gives (.boot bankOk failed channels fuses feedLow) s (fun t => t.power.package = .fuseHold ∧ t.power.fuses = fuseClasses fuses ∧
      Keeps [.power] s t) := by
  have hheld : s.begin.boot 1 bankOk failed channels fuses feedLow =
      { (s.begin.fusesRead 1 fuses) with power := { (s.begin.fusesRead 1 fuses).power with package := .fuseHold } } := if_pos hfuses
  exact ⟨_, (exec_boot hpackage).trans (congrArg Host.Outcome.next hheld), rfl, rfl,
    Keeps.of_begin ((fusesRead_keeps s.begin 1 fuses).trans (putPower_keeps _ _))⟩

end

/-- Settles O55: the resets by what they leave, the boot by its steps after a bank is taken, the rest by the equation of its branch. -/
theorem powerAndResetsTakeEffect : Obligations.PowerAndResetsTakeEffect :=
  ⟨fun _ _ hoff hmv => gives_powerUp hoff hmv,
   fun _ hpackage hpin => gives_softStartDone hpackage hpin,
   fun _ => gives_coldResetPin _,
   fun _ hpackage => gives_coldResetRelease hpackage,
   fun _ _ hrun hmgmt harm hslots => gives_resetCommandCold hrun hmgmt harm hslots,
   fun _ _ hrun hmgmt harm hslots hquiet hwf => gives_resetCommandWarm hrun hmgmt harm hslots hquiet hwf,
   fun _ _ _ _ _ _ _ _ hpackage hfuses hfirst hsigned hsvn hok => gives_boot_good hpackage hfuses hfirst hsigned hsvn hok,
   fun _ _ _ _ _ _ _ _ hpackage hfuses hfirst _ hbad hsigned hsvn hok => gives_boot_fallback hpackage hfuses hfirst hbad hsigned hsvn hok,
   fun _ _ _ _ _ _ _ hpackage hfuses hfirst hbad hbad' => gives_boot_hold hpackage hfuses hfirst hbad hbad',
   fun _ _ _ _ _ _ hpackage hfuses => gives_boot_fuseHold hpackage hfuses,
   fun _ _ _ hrun hchanged hclean hnew => hchanged ▸ gives_fuseReread_marginal hrun hclean hnew,
   fun _ _ _ _ _ hrun hchanged hbad => hchanged ▸ gives_fuseReread_mismatch hrun hbad,
   fun _ hpackage hmv hpin => gives_brownoutRecovery hpackage hmv hpin,
   fun _ _ hmv hpackage => gives_brownoutLoss_brownout hmv hpackage,
   fun _ _ hmv hpackage => gives_brownoutLoss_trip hmv hpackage⟩

end Sys2Proof.Machine
end
